-- ==== Sys2Proof/Word.lean ====
section
/-! DEFINITION. The words of the KT192: a word is 32 bits (R2), a byte is 8 bits. -/

namespace Sys2Proof

/-- A word is 32 bits (R2). -/
abbrev Word := BitVec 32

/-- A byte. -/
abbrev Byte := BitVec 8

end Sys2Proof
end

