-- ==== Sys2Proof/Syntax.lean ====
section
/-! DEFINITION. The commands of the KT192: one constructor for each row of spec/opcode_table.json, with the operands that
the row's sender gives. A command that is a register write carries its requester (R37); one that writes a register with other writable
fields beside the commanding bit carries the whole written word `w`. An event carries what the outside world supplies with it. -/

namespace Sys2Proof

/-- The requesters that hold sessions (R37, R51: 0 the host, 1 the cellar processor). -/
inductive Requester where
  | host
  | cellar
  deriving DecidableEq, Repr

/-- A memory region of the PCIe function that takes register writes (R29). -/
inductive Region where
  | bar0
  | bar2
  deriving DecidableEq, Repr

/-- The size of a region: BAR0 64 MiB, BAR2 256 MiB (R29). -/
def Region.size : Region → Nat
  | .bar0 => 0x4000000
  | .bar2 => 0x10000000

/-- One write access on the register bus (R30): byte enables, and 32 or 64 bits of data. -/
structure BusAccess where
  rq   : Requester
  region : Region
  addr : Nat
  be   : BitVec 8
  wide : Bool
  data : BitVec 64
  deriving DecidableEq, Repr

/-- The fields of a SAFE-port frame after its CMD byte (R67). -/
structure SafeFrame where
  seq   : BitVec 16
  index : Byte
  value : Word
  compl : Word
  crc   : BitVec 16
  deriving DecidableEq, Repr

/-- What the boot flash answers (R438, R471): `sfdp` is none where the SFDP read returns every byte as 0xFF, else whether the tables are valid and the
size lies in range; the bytes of the two slots and of the parameter image, bytes beyond a list reading 0xFF. -/
structure BootFlash where
  sfdp  : Option Bool
  slotA : List Byte
  slotB : List Byte
  param : List Byte
  deriving DecidableEq, Repr

abbrev Ring := Fin 8
abbrev Bar := Fin 8
abbrev Port := Fin 192
abbrev Group := Fin 8
abbrev Slice := Fin 24
abbrev Chan := Fin 4
abbrev Enc := Fin 4
abbrev Cam := Fin 4
abbrev Ctx := Fin 8
abbrev Lamp := Fin 16
abbrev JobIdx := Fin 512
abbrev Source := Fin 312
abbrev Sensor := Fin 24

/-- The commands: a constructor for each row of the opcode table, those with operands first. -/
inductive Instr where
  /-- REGISTER_WRITE (R7). -/
  | registerWrite (a : BusAccess)
  /-- SYS_BAD_ACC_CLEAR (R36). -/
  | sysBadAccClear (rq : Requester)
  /-- PAGE_FENCE_READ (R39). -/
  | pageFenceRead (rq : Requester) (page : Nat)
  /-- SYS_FENCE_READ (R39). -/
  | sysFenceRead (rq : Requester)
  /-- FENCE_RETURN (R40). -/
  | fenceReturn (rq : Requester)
  /-- AUDIT_ENTRY_WRITE (R58). -/
  | auditEntryWrite (readBackOk : Bool)
  /-- AUDITED_WRITE_RESUME (R58). -/
  | auditedWriteResume (rq : Requester)
  /-- ROLE_REQ (R45). -/
  | roleReq (rq : Requester) (w : Word)
  /-- ROLE_RESPONSE (R51). -/
  | roleResponse (rq : Requester) (w : Word)
  /-- LOCK_END (R52). -/
  | lockEnd (rq : Requester)
  /-- CHALLENGE_EXPIRE (R51). -/
  | challengeExpire (rq : Requester)
  /-- SESSION_IDLE_TIMEOUT (R53). -/
  | sessionIdleTimeout (rq : Requester)
  /-- SESSION_END (R47). -/
  | sessionEnd (rq : Requester) (w : Word)
  /-- ROLE_DENY_CLEAR (R47). -/
  | roleDenyClear (rq : Requester) (w : Word)
  /-- KEY_STAGE (R56). -/
  | keyStage (rq : Requester) (w : Word)
  /-- AUDIT_INDEX_SELECT (R62). -/
  | auditIndexSelect (rq : Requester) (w : Word)
  /-- SAFE_NOP (R68). -/
  | safeNop (f : SafeFrame)
  /-- SAFE_READ (R68). -/
  | safeRead (f : SafeFrame)
  /-- SAFE_WRITE (R68). -/
  | safeWrite (f : SafeFrame)
  /-- SAFE_COMMIT (R71). -/
  | safeCommit (f : SafeFrame)
  /-- SAFE_DISCARD (R68). -/
  | safeDiscard (f : SafeFrame)
  /-- SAFE_BAD_FRAME (R69). -/
  | safeBadFrame (nbits : Nat) (bytes : List Byte)
  /-- SAFE_COMMIT_APPLY (R71). -/
  | safeCommitApply (readBackOk : Bool)
  /-- CASK_WORD_READ (R78). -/
  | caskWordRead (n : Fin 64)
  /-- BUS_MASTER_ENABLE (R81). -/
  | busMasterEnable (on : Bool)
  /-- RING_ENABLE (R84). -/
  | ringEnable (rq : Requester) (r : Ring)
  /-- RING_DISABLE (R84). -/
  | ringDisable (rq : Requester) (r : Ring)
  /-- RING_DRAIN_END (R84). -/
  | ringDrainEnd (r : Ring)
  /-- DESCRIPTOR_FETCH (R88). -/
  | descriptorFetch (r : Ring) (descs : List (List Word))
  /-- DESCRIPTOR_FETCH_ERROR (R93). -/
  | descriptorFetchError (r : Ring)
  /-- DESC_NOP (R91). -/
  | descNop (r : Ring) (slot : Nat)
  /-- DESC_RASTER (R92). -/
  | descRaster (r : Ring) (slot : Nat)
  /-- RASTER_READ_COMPLETION (R93). -/
  | rasterReadCompletion (r : Ring) (slot : Nat) (ok : Bool) (data : List Byte)
  /-- DESCRIPTOR_RESUME (R125). -/
  | descriptorResume (r : Ring) (slot : Nat)
  /-- COMPLETION_RECORD_WRITE (R89). -/
  | completionRecordWrite (r : Ring)
  /-- CQ_COAL_TIMEOUT (R86). -/
  | cqCoalTimeout (r : Ring)
  /-- RING_COUNT_CLEAR (R90). -/
  | ringCountClear (rq : Requester) (r : Ring)
  /-- JOB_OPEN (R111). -/
  | jobOpen (rq : Requester)
  /-- JOB_UPDATE (R472). -/
  | jobUpdate (rq : Requester)
  /-- JOB_ARM (R111). -/
  | jobArm (rq : Requester)
  /-- JOB_START (R111). -/
  | jobStart (rq : Requester)
  /-- JOB_FINISH (R111). -/
  | jobFinish (rq : Requester)
  /-- JOB_ABORT (R113). -/
  | jobAbort (rq : Requester)
  /-- JOB_RELEASE (R111). -/
  | jobRelease (rq : Requester)
  /-- JOB_READ (R111). -/
  | jobRead (rq : Requester)
  /-- JOB_BAD_OP (R108). -/
  | jobBadOp (rq : Requester) (op : BitVec 4)
  /-- JOB_START_AT (R111). -/
  | jobStartAt (j : JobIdx)
  /-- CHAIN_CLAIM (R114). -/
  | chainClaim (j : JobIdx)
  /-- JOB_DONE (R111). -/
  | jobDone (j : JobIdx)
  /-- JOB_ABORT_DONE (R113). -/
  | jobAbortDone (j : JobIdx)
  /-- JOB_DRAIN_END (R111). -/
  | jobDrainEnd (j : JobIdx)
  /-- WRITE_POINTER_ADVANCE (R126). -/
  | writePointerAdvance (j : JobIdx) (b : Bar) (line : Nat)
  /-- CISTERN_COUNT_CLEAR (R129). -/
  | cisternCountClear (rq : Requester) (b : Bar)
  /-- BAR4_READ (R138). -/
  | bar4Read (off : BitVec 30) (len : Nat)
  /-- BAR4_WRITE (R138). -/
  | bar4Write (off : BitVec 30) (data : List Byte)
  /-- SPOUT_LINE_FILL (R143). -/
  | spoutLineFill (b : Bar)
  /-- TABLE_UPDATE_GO (R157). -/
  | tableUpdateGo (rq : Requester)
  /-- OLD_BANK_FREE (R159). -/
  | oldBankFree (kind : Nat) (set : Nat) (port : Nat)
  /-- HEAD_MAP_COMMIT (R163). -/
  | headMapCommit (rq : Requester)
  /-- HEAD_MAP_DEFAULT (R163). -/
  | headMapDefault (rq : Requester)
  /-- DECODE_ERR_CLEAR (R165). -/
  | decodeErrClear (rq : Requester)
  /-- SLICE_LOAD_CLEAR (R166). -/
  | sliceLoadClear (rq : Requester) (sl : Slice)
  /-- ENCODER_EDGE (R168). -/
  | encoderEdge (n : Enc) (a : Bool) (b : Bool)
  /-- ENCODER_INDEX (R185). -/
  | encoderIndex (n : Enc)
  /-- INDEX_ADOPT (R186). -/
  | indexAdopt (rq : Requester) (n : Enc)
  /-- ENCODER_COUNT_CLEAR (R170). -/
  | encoderCountClear (rq : Requester) (n : Enc)
  /-- POSITION_ENABLE (R175). -/
  | positionEnable (rq : Requester)
  /-- POSITION_DISABLE (R175). -/
  | positionDisable (rq : Requester)
  /-- SPEED_GATE_WINDOW (R183). -/
  | speedGateWindow (n : Enc)
  /-- REVERT_CMD (R195). -/
  | revertCmd (rq : Requester)
  /-- PCMP_CONFIGURE (R199). -/
  | pcmpConfigure (rq : Requester) (u : Fin 32) (w : Word)
  /-- PCMP_ARM (R198). -/
  | pcmpArm (rq : Requester) (u : Fin 32) (w : Word)
  /-- EMU_OUTPUT_STEP (R200). -/
  | emuOutputStep (e : Fin 2)
  /-- LINE_COMMIT (R206). -/
  | lineCommit (b : Bar)
  /-- TICKLE_COMMIT (R222). -/
  | tickleCommit (b : Bar)
  /-- WAVEFORM_COMMIT (R214). -/
  | waveformCommit (rq : Requester) (w : Word)
  /-- ILK_HEAD_INPUT (R223). -/
  | ilkHeadInput (high : Bool)
  /-- FIRE_STOP_CMD (R227). -/
  | fireStopCmd (rq : Requester)
  /-- FIRE_RESUME_CMD (R231). -/
  | fireResumeCmd (rq : Requester)
  /-- DRV_READY_INPUT (R231). -/
  | drvReadyInput (high : Bool)
  /-- FIRE_COUNT_CLEAR (R235). -/
  | fireCountClear (rq : Requester) (b : Bar)
  /-- FIRE_COUNT2_CLEAR (R235). -/
  | fireCount2Clear (rq : Requester) (b : Bar)
  /-- LANE_RATE_CHANGE (R236). -/
  | laneRateChange (g : Group)
  /-- GROUP_PLL_RELOCK (R236). -/
  | groupPllRelock (g : Group)
  /-- PORT_ENABLE (R256). -/
  | portEnable (rq : Requester) (p : Port) (w : Word)
  /-- PORT_DISABLE (R256). -/
  | portDisable (rq : Requester) (p : Port) (w : Word)
  /-- MARKER_SEND (R242). -/
  | markerSend (p : Port)
  /-- FIRE (R246). -/
  | fire (p : Port)
  /-- TICKLE (R246). -/
  | tickle (p : Port)
  /-- BACK_MARKER_RECEIVE (R244). -/
  | backMarkerReceive (p : Port) (mcount : BitVec 6)
  /-- HELLO (R257). -/
  | hello (p : Port) (w0 : Word) (w1 : Word) (w2 : Word) (w3 : Word)
  /-- HELLO_TIMEOUT (R256). -/
  | helloTimeout (p : Port)
  /-- CAL (R250). -/
  | cal (p : Port)
  /-- CAL_PERIOD (R250). -/
  | calPeriod (p : Port)
  /-- CAL_START (R265). -/
  | calStart (rq : Requester) (p : Port) (w : Word)
  /-- CAL_ECHO (R250). -/
  | calEcho (p : Port) (id : BitVec 16) (ta : Word) (t3 : Nat)
  /-- CAL_ECHO_TIMEOUT (R256). -/
  | calEchoTimeout (p : Port)
  /-- CONFIRM (R253). -/
  | confirm (p : Port) (w : Word)
  /-- ACK_TIMEOUT (R253). -/
  | ackTimeout (p : Port)
  /-- STATUS (R258). -/
  | status (p : Port) (w : Word)
  /-- HEAD_TEMP_STALE (R219). -/
  | headTempStale (p : Port)
  /-- ALERT (R258). -/
  | alert (p : Port) (code : Byte)
  /-- BER_SECOND (R258). -/
  | berSecond (p : Port)
  /-- BACK_CHANNEL_TIMEOUT (R256). -/
  | backChannelTimeout (p : Port)
  /-- LANE_IDLE_ENTER (R248). -/
  | laneIdleEnter (p : Port)
  /-- LANE_IDLE_EXIT (R248). -/
  | laneIdleExit (p : Port)
  /-- MEM_RESP (R261). -/
  | memResp (p : Port) (words : List Word)
  /-- AUTH_TIMEOUT (R256). -/
  | authTimeout (p : Port)
  /-- HLK_REAUTH (R256). -/
  | hlkReauth (rq : Requester) (p : Port)
  /-- HEAD_KEY_COMMIT (R259). -/
  | headKeyCommit (rq : Requester) (w : Word)
  /-- HLK_MEM_READ (R264). -/
  | hlkMemRead (rq : Requester) (p : Port)
  /-- HLK_MEM_WRITE (R264). -/
  | hlkMemWrite (rq : Requester) (p : Port)
  /-- HLK_MEM_COMMIT (R264). -/
  | hlkMemCommit (rq : Requester) (p : Port)
  /-- MEM_TIMEOUT (R264). -/
  | memTimeout (p : Port)
  /-- USAGE_READ (R264). -/
  | usageRead (p : Port)
  /-- HLK_ERR_CLEAR (R265). -/
  | hlkErrClear (rq : Requester) (p : Port)
  /-- DDR_ENABLE (R272). -/
  | ddrEnable (rq : Requester) (hubs : List (Option (List Byte)))
  /-- DDR_DISABLE (R272). -/
  | ddrDisable (rq : Requester)
  /-- CHANNEL_TRAIN_DONE (R273). -/
  | channelTrainDone (c : Chan) (pass : Bool)
  /-- DRAM_WRITE_ACCEPT (R277). -/
  | dramWriteAccept (addr : BitVec 37) (data : Word)
  /-- DRAM_READ_COMPLETE (R295). -/
  | dramReadComplete (addr : BitVec 37) (flips : Word) (checkFlips : Byte)
  /-- SPARE_MAP_WRITE (R309). -/
  | spareMapWrite (c : Chan) (readBackOk : Bool)
  /-- REFRESH_DUE (R279). -/
  | refreshDue (c : Chan) (rank : Fin 2) (waiting : Bool)
  /-- DIMM_SENSOR_READ (R281). -/
  | dimmSensorRead (c : Chan) (hub : Option Byte) (ts0 : Option Byte) (ts1 : Option Byte) (mr4 : Option Bool)
  /-- RETRAIN_START (R287). -/
  | retrainStart (rq : Requester) (w : Word)
  /-- RETRAIN_STEP_END (R286). -/
  | retrainStepEnd (c : Chan) (rd : Byte) (wr : Byte) (drift : Byte) (inRange : Bool)
  /-- DDR_RATE_GO (R288). -/
  | ddrRateGo (rq : Requester) (w : Word)
  /-- DDR_RATE_DONE (R288). -/
  | ddrRateDone (pass : BitVec 4)
  /-- DDR_ALERT_INPUT (R290). -/
  | ddrAlertInput (c : Chan)
  /-- FENCE_CH (R291). -/
  | fenceCh (rq : Requester) (c : Chan)
  /-- DDR_COUNT_CLEAR (R293). -/
  | ddrCountClear (rq : Requester) (c : Chan)
  /-- SCRUB_GO (R311). -/
  | scrubGo (rq : Requester) (w : Word)
  /-- SCRUB_ABORT (R312). -/
  | scrubAbort (rq : Requester) (w : Word)
  /-- FLIP_ARM (R313). -/
  | flipArm (rq : Requester) (w : Word)
  /-- ECC_SRAM_CNT_CLEAR (R314). -/
  | eccSramCntClear (rq : Requester)
  /-- ECC_CHANNEL_CNT_CLEAR (R315). -/
  | eccChannelCntClear (rq : Requester) (c : Chan)
  /-- CAMERA_ENABLE (R320). -/
  | cameraEnable (rq : Requester) (n : Cam) (w : Word)
  /-- CAMERA_DISABLE (R320). -/
  | cameraDisable (rq : Requester) (n : Cam) (w : Word)
  /-- CAMERA_LOCK (R320). -/
  | cameraLock (n : Cam)
  /-- CAMERA_LINK_LOSS (R318). -/
  | cameraLinkLoss (n : Cam) (conn : Fin 4)
  /-- IMAGE_HEADER (R324). -/
  | imageHeader (n : Cam) (tag : BitVec 16) (format : BitVec 4) (width : Nat)
  /-- STREAM_PACKET (R318). -/
  | streamPacket (n : Cam) (crcOk : Bool) (lines : Nat)
  /-- CAMERA_LINE (R328). -/
  | cameraLine (n : Cam) (pixels : List (BitVec 12))
  /-- CAMERA_CTL_SEND (R321). -/
  | cameraCtlSend (rq : Requester) (n : Cam) (w : Word)
  /-- CAMERA_CTL_ACK (R321). -/
  | cameraCtlAck (n : Cam) (crcOk : Bool) (bytes : List Byte)
  /-- CAMERA_CTL_TIMEOUT (R321). -/
  | cameraCtlTimeout (n : Cam)
  /-- CAMERA_EVENT (R321). -/
  | cameraEvent (n : Cam) (crcOk : Bool) (payload : List Byte)
  /-- CAMERA_HEARTBEAT (R316). -/
  | cameraHeartbeat (n : Cam)
  /-- TRIGGER_FALL (R322). -/
  | triggerFall (n : Cam)
  /-- CAMERA_COMMIT (R335). -/
  | cameraCommit (rq : Requester) (n : Cam)
  /-- SETTINGS_EFFECTIVE (R336). -/
  | settingsEffective (n : Cam)
  /-- CAMERA_COUNT_CLEAR (R319). -/
  | cameraCountClear (rq : Requester) (n : Cam)
  /-- ISP_COUNT_CLEAR (R337). -/
  | ispCountClear (rq : Requester) (k : Ctx)
  /-- ISP_LOAD_CLEAR (R337). -/
  | ispLoadClear (rq : Requester)
  /-- NOZZLE_STATE_SUBMIT (R349). -/
  | nozzleStateSubmit (rq : Requester) (w : Word)
  /-- NOZZLE_APPROVE (R349). -/
  | nozzleApprove (rq : Requester)
  /-- NOZZLE_DISCARD (R349). -/
  | nozzleDiscard (rq : Requester)
  /-- VIN_ENABLE (R356). -/
  | vinEnable (rq : Requester) (w : Word)
  /-- VIN_COUNT_CLEAR (R356). -/
  | vinCountClear (rq : Requester) (b : Bar)
  /-- SAVE (R357). -/
  | save (rq : Requester) (w : Word)
  /-- CAL_RECORD_DUE (R350). -/
  | calRecordDue (kind : Fin 9)
  /-- CAL_RECORD_WRITE_DONE (R354). -/
  | calRecordWriteDone (ok1 : Bool) (ok2 : Bool)
  /-- LAMP_PERIOD (R363). -/
  | lampPeriod (c : Lamp)
  /-- LAMP_REPLY (R372). -/
  | lampReply (c : Lamp) (row : Fin 32) (reply : Option (Word × Word × Word))
  /-- LAMP_MATRIX_LOAD (R369). -/
  | lampMatrixLoad (rq : Requester) (c : Lamp)
  /-- LAMP_ENABLE (R363). -/
  | lampEnable (rq : Requester) (w : Word)
  /-- ILK_UV_INPUT (R370). -/
  | ilkUvInput (high : Bool)
  /-- SEGMENT_HOLD_EXPIRE (R366). -/
  | segmentHoldExpire (c : Lamp)
  /-- LAMP_COUNT_CLEAR (R376). -/
  | lampCountClear (rq : Requester) (c : Lamp)
  /-- TIME_ADJUST (R380). -/
  | timeAdjust (rq : Requester) (w : Word)
  /-- DOMAIN_ADJUST (R380). -/
  | domainAdjust (rq : Requester) (dm : Fin 2) (w : Word)
  /-- TIME_FORCE (R380). -/
  | timeForce (rq : Requester)
  /-- DOMAIN_FORCE (R391). -/
  | domainForce (rq : Requester) (dm : Fin 2)
  /-- TIME_CAPTURE (R390). -/
  | timeCapture (rq : Requester)
  /-- TIME_ADDEND_WRITE (R378). -/
  | timeAddendWrite (rq : Requester) (target : Option (Fin 2)) (upper : Bool) (w : Word)
  /-- PATH_DELAY_WRITE (R383). -/
  | pathDelayWrite (rq : Requester) (dm : Fin 2) (w : Word)
  /-- DOMAIN_TIMEOUT (R382). -/
  | domainTimeout (dm : Fin 2)
  /-- DOMAIN_ACK (R385). -/
  | domainAck (rq : Requester) (dm : Fin 2)
  /-- DOMAIN_ENABLE (R382). -/
  | domainEnable (rq : Requester) (dm : Fin 2) (w : Word)
  /-- TCMP_CONFIGURE (R391). -/
  | tcmpConfigure (rq : Requester) (u : Fin 8) (w : Word)
  /-- TCMP_ARM (R387). -/
  | tcmpArm (rq : Requester) (u : Fin 8) (w : Word)
  /-- TCMP_HIT (R387). -/
  | tcmpHit (u : Fin 8)
  /-- ETH_FRAME_RECEIVE (R393). -/
  | ethFrameReceive (p : Fin 2) (frame : List Byte) (desc : List Word)
  /-- ETH_FRAME_TRANSMIT (R396). -/
  | ethFrameTransmit (p : Fin 2) (r : Fin 2) (desc : List Word) (frame : List Byte)
  /-- ETH_LINK_LOSS (R397). -/
  | ethLinkLoss (p : Fin 2)
  /-- ETH_COUNT_CLEAR (R397). -/
  | ethCountClear (rq : Requester) (p : Fin 2)
  /-- CLOCK_LOSS (R21). -/
  | clockLoss (src : Source)
  /-- FAULT_EVENT (R402). -/
  | faultEvent (src : Source) (inst : Byte) (pairEqual : Bool)
  /-- SOURCE_LIVE_END (R401). -/
  | sourceLiveEnd (src : Source) (inst : Byte)
  /-- FAULT_STATUS_CLEAR (R401). -/
  | faultStatusClear (rq : Requester) (addr : Nat) (w : Word)
  /-- CLEAR_ALL (R419). -/
  | clearAll (rq : Requester)
  /-- FAULT_FORCE (R412). -/
  | faultForce (rq : Requester) (addr : Nat) (w : Word)
  /-- WIRE_TEST (R413). -/
  | wireTest (rq : Requester) (w : Word)
  /-- ACK_STOP (R408). -/
  | ackStop (rq : Requester)
  /-- ACK_SAFE (R408). -/
  | ackSafe (rq : Requester)
  /-- POP (R415). -/
  | pop (rq : Requester)
  /-- FLT_IN_INPUT (R417). -/
  | fltInInput (p : Bool) (n : Bool)
  /-- SENSOR_CONVERSION (R421). -/
  | sensorConversion (n : Sensor) (raw : BitVec 16)
  /-- SENSOR_CONVERSION_TIMEOUT (R422). -/
  | sensorConversionTimeout (n : Sensor)
  /-- THERMAL_POWER_OFF (R426). -/
  | thermalPowerOff (recordOk : Bool)
  /-- THERMAL_ACK (R429). -/
  | thermalAck (rq : Requester)
  /-- THERMAL_PEAK_CLEAR (R430). -/
  | thermalPeakClear (rq : Requester)
  /-- THERMAL_EVENT_SELECT (R430). -/
  | thermalEventSelect (rq : Requester) (w : Word)
  /-- WARM_RESET (R434). -/
  | warmReset (rq : Option Requester)
  /-- BOOT_SEQUENCE (R436). -/
  | bootSequence (flash : BootFlash)
  /-- HOST_BOOT (R441). -/
  | hostBoot (rq : Requester)
  /-- FLOOR (R440). -/
  | floor (rq : Requester)
  /-- SLEEP_ENTER (R445). -/
  | sleepEnter (rq : Requester)
  /-- SLEEP_EXIT_CMD (R446). -/
  | sleepExitCmd (rq : Requester)
  /-- STANDBY_ENTER (R447). -/
  | standbyEnter (rq : Requester)
  /-- WATCHDOG_KICK (R449). -/
  | watchdogKick (rq : Requester) (w : Word)
  /-- TEST_MODE_INPUT (R456). -/
  | testModeInput (high : Bool)
  /-- RASTER_READ_TIMEOUT (R93). -/
  | rasterReadTimeout (r : Ring) (slot : Nat)
  /-- MSIX_VECTOR_UNMASK (R81). -/
  | msixVectorUnmask (v : Fin 64)
  /-- PRIMING_DONE (R256). -/
  | primingDone (p : Port)
  /-- PRIMING_RETRY (R256). -/
  | primingRetry (p : Port)
  /-- MARKER_MISSING (R244). -/
  | markerMissing (p : Port)
  /-- STUFF_VIOLATION (R241). -/
  | stuffViolation (p : Port)
  /-- BACK_CHANNEL_FRAME_ERROR (R245). -/
  | backChannelFrameError (p : Port)
  /-- RETRAIN_STEP_BEGIN (R285). -/
  | retrainStepBegin (c : Chan)
  /-- STAGED_KEY_EXPIRE (R56). -/
  | stagedKeyExpire
  /-- BONDED_PAIR_CHECK (R65). -/
  | bondedPairCheck
  /-- BONDED_DIGEST_CHECK (R65). -/
  | bondedDigestCheck
  /-- PERST_ASSERT (R81). -/
  | perstAssert
  /-- FUNCTION_LEVEL_RESET (R81). -/
  | functionLevelReset
  /-- PERST_DEASSERT (R437). -/
  | perstDeassert
  /-- SEGMENT_END (R178). -/
  | segmentEnd
  /-- BAR_DELAY_LATCH (R176). -/
  | barDelayLatch
  /-- POSITION_UPDATE (R172). -/
  | positionUpdate
  /-- SWITCHOVER_TAKEOVER (R192). -/
  | switchoverTakeover
  /-- STRAIN_MEASURE (R187). -/
  | strainMeasure
  /-- REDUNDANCY_COMPARE (R190). -/
  | redundancyCompare
  /-- ENCODER_REVERT (R195). -/
  | encoderRevert
  /-- SPEED_LIMIT_CHECK (R213). -/
  | speedLimitCheck
  /-- STOP_REVERSE (R228). -/
  | stopReverse
  /-- STOP_TIMEOUT (R228). -/
  | stopTimeout
  /-- STOP_RESUME (R231). -/
  | stopResume
  /-- DRAM_FILL_DONE (R299). -/
  | dramFillDone
  /-- LEDGER_AGE_EXPIRE (R305). -/
  | ledgerAgeExpire
  /-- ROW_IDLE_CLOSE (R275). -/
  | rowIdleClose
  /-- RETRAIN_PERIOD (R285). -/
  | retrainPeriod
  /-- SCRUB_DONE (R312). -/
  | scrubDone
  /-- ISP_BLOCK (R327). -/
  | ispBlock
  /-- STRIP_COMPLETE (R343). -/
  | stripComplete
  /-- STRIP_EVALUATE (R343). -/
  | stripEvaluate
  /-- NOZZLE_BATCH (R349). -/
  | nozzleBatch
  /-- LAMP_SYNC (R369). -/
  | lampSync
  /-- LAMP_ALERT_INPUT (R372). -/
  | lampAlertInput
  /-- UV_STILL_TIMEOUT (R370). -/
  | uvStillTimeout
  /-- FOLLOW_SELECT (R386). -/
  | followSelect
  /-- PPS_SECOND (R388). -/
  | ppsSecond
  /-- PPS_PULSE_END (R388). -/
  | ppsPulseEnd
  /-- PPS_IN_EDGE (R388). -/
  | ppsInEdge
  /-- SHADOW_WINDOW_END (R411). -/
  | shadowWindowEnd
  /-- FLT_IN_HEARTBEAT_LOSS (R417). -/
  | fltInHeartbeatLoss
  /-- FLT_OUT_HEARTBEAT (R416). -/
  | fltOutHeartbeat
  /-- THROTTLE_FRAME (R424). -/
  | throttleFrame
  /-- THERMAL_SLOW_REQUEST (R425). -/
  | thermalSlowRequest
  /-- VBAT_APPLY (R431). -/
  | vbatApply
  /-- POWER_SEQUENCE (R432). -/
  | powerSequence
  /-- RAIL_TIMEOUT (R432). -/
  | railTimeout
  /-- RAIL_RETRY (R432). -/
  | railRetry
  /-- BROWNOUT (R433). -/
  | brownout
  /-- VBAT_LOSS (R433). -/
  | vbatLoss
  /-- WAKE_TIMER (R448). -/
  | wakeTimer
  /-- SAFE_CS_WAKE (R448). -/
  | safeCsWake
  /-- PERST_WAKE (R448). -/
  | perstWake
  /-- WATCHDOG_EXPIRE (R449). -/
  | watchdogExpire
  /-- PCIE_LINK_DOWN (R409). -/
  | pcieLinkDown
  /-- CELLAR_DRAM_REQUEST (R446). -/
  | cellarDramRequest
  /-- BROWNOUT_RESTART (R433). -/
  | brownoutRestart
  /-- WAKE_HOLD_EXPIRE (R448). -/
  | wakeHoldExpire
  deriving DecidableEq, Repr

end Sys2Proof
end

