-- ==== Sys2Proof/Decode.lean ====
section
/-! DEFINITION. The command that a word spells by the opcode table's bits. No row of this block's table gives bits: a command reaches the block as an
operation or event of its own, never as a coded word. -/

namespace Sys2Proof

/-- The rows of the table that give bits: none. -/
def decodeTableWord (_nbits _w : Nat) : Option Instr := none

end Sys2Proof
end

