-- ==== Sys2Proof/Config.lean ====
section
/-! DEFINITION. The values that the spec leaves open: each is an opaque constant without a value, so that no proof can see it. -/

namespace Sys2Proof.Config

/-- Bytes of the on-chip random number generator (R49, R262), by the number of the free value drawn. -/
opaque randomByte : Nat → Byte

/-- The generation and the width at which the PCIe link trains (R80 lists five of each), by the number of the free value drawn. -/
opaque linkRate : Nat → Fin 5 × Fin 5

/-- What a rank's mode registers declare of refresh management (R284: the DRAM's own setting): bit 16 required, bits [15:0] the activations of a bank at which a
command is issued; by channel, rank and the number of the free value drawn. -/
opaque rankRfm : Nat → Nat → Nat → BitVec 17

/-- The bytes of a spare-row map's record in MRAM (R309 names its content, not its layout), from manufacturer, serial number and rows. -/
opaque spareRecord : List Nat → List Byte

/-- Words that a scrub has read when it is aborted (R312), by the number of the free value drawn. -/
opaque scrubProgress : Nat → Nat

/-- Where the spec names an exact value and the register holds an integer, and no rule gives the rounding: is the value rounded up. By the rule's
number, numerator and denominator. -/
opaque roundUp : Nat → Int → Int → Bool

/-- The ON value of a lamp frame where DUTY' passes 16 bits (R362), from DUTY and G_c. -/
opaque lampOver : Nat → Nat → BitVec 16

/-- Which of the values within ±0.02 of the exact one a LAB output takes (R330), by the component and the three tone-curve outputs. -/
opaque labPick : Nat → List Nat → Nat

/-- How long the copy of a commit takes, in ns and modulo 200,001 (R335 bounds it by 200 µs), by the number of the free value drawn. -/
opaque commitCopy : Nat → Nat

/-- The row term of a fire time while the web's velocity is 0 (R203 divides by it), from the row offset in 1/256 dots. -/
opaque rowStill : Int → Int

/-- The LINE and DROP_MODE fields of a TICKLE record (R220, R222 give a tickle neither), by the number of the free value drawn. -/
opaque tickleFields : Nat → BitVec 49

/-- The COUNT and ADDR fields of a CHALLENGE and a PROVE (R261 leaves them open), by OP. -/
opaque authFields : Nat → BitVec 20

/-- The MAC words of a command sent while the port has no session (R261, R263: there is no key), by its first word. -/
opaque bareMac : Nat → BitVec 64

/-- The 16-bit form of a colour difference that u8.8 does not hold (R347, R352 give the format and no bound), by its value in 1/256 rounded down. -/
opaque wideTone : Nat → BitVec 16

/-- The delays that a full training leaves in a channel's delay lines (R352: settings of the KT192 in its own steps), by the number of the free value drawn, the
channel and the word of its block. -/
opaque trainDelay : Nat → Nat → Nat → BitVec 32

/-- What a temperature register or record shows of a reading that s8.8 does not hold (R422 admits readings to 150 °C, R430 gives s8.8), by the reading in 1/256 °C. -/
opaque hotTemp : Nat → BitVec 16

end Sys2Proof.Config
end

