-- ==== Sys2Proof/Machine/Bits.lean ====
section
/-! DEFINITION. Bit fields, byte order, signed readings and rounding, over natural numbers. -/

namespace Sys2Proof.Machine

/-- Bits [lo + w − 1 : lo] of a number. -/
def bits (v lo w : Nat) : Nat := v / 2 ^ lo % 2 ^ w

/-- Bit i of a number. -/
def bit (v i : Nat) : Bool := v.testBit i

/-- A number with bit i set or cleared. -/
def setBit (v i : Nat) (b : Bool) : Nat := (v - v / 2 ^ i % 2 * 2 ^ i) + (if b then 2 ^ i else 0)

/-- One for true. -/
def b2n (b : Bool) : Nat := if b then 1 else 0

/-- The two's complement reading of a w-bit number. -/
def signed (w v : Nat) : Int := if v % 2 ^ w < 2 ^ (w - 1) then (v % 2 ^ w : Nat) else (v % 2 ^ w : Nat) - (2 ^ w : Nat)

/-- The w-bit two's complement form of an integer. -/
def unsigned (w : Nat) (i : Int) : Nat := (i % (2 ^ w : Nat)).toNat

/-- A value brought into a range (R5). -/
def clampN (lo hi v : Nat) : Nat := if v < lo then lo else if hi < v then hi else v

/-- An integer brought into a range (R5). -/
def clampI (lo hi v : Int) : Int := if v < lo then lo else if hi < v then hi else v

/-- The quotient rounded up. -/
def cdiv (a b : Nat) : Nat := (a + b - 1) / b

/-- A count that stops at a largest value. -/
def sat (top v : Nat) : Nat := if top < v then top else v

/-- The quotient of an integer by a positive number, rounded to the nearest, ties upward. -/
def roundDiv (a b : Int) : Int := Int.fdiv (2 * a + b) (2 * b)

/-- The n bytes of a number, least significant first (R2). -/
def bytesLE : Nat → Nat → List Nat
  | 0, _ => []
  | n + 1, v => v % 256 :: bytesLE n (v / 256)

/-- The number that bytes form, least significant first (R2). -/
def ofBytesLE : List Nat → Nat
  | [] => 0
  | b :: r => b % 256 + 256 * ofBytesLE r

/-- The n bytes of a number, most significant first. -/
def bytesBE (n v : Nat) : List Nat := (bytesLE n v).reverse

/-- The number that bytes form, most significant first. -/
def ofBytesBE (l : List Nat) : Nat := ofBytesLE l.reverse

/-- The first n numbers that a function gives. -/
def tabulate {α : Type} (n : Nat) (f : Nat → α) : List α := (List.range n).map f

/-- A list with the element at an index replaced. -/
def setAt {α : Type} (l : List α) (i : Nat) (f : α → α) : List α := l.modify i f

/-- Does a list hold a number. -/
def has (l : List Nat) (n : Nat) : Bool := l.elem n

/-- The list with a number put in at the end unless it is there. -/
def insertOnce (l : List Nat) (n : Nat) : List Nat := if l.elem n then l else l ++ [n]

/-- The list without a number. -/
def removeAll (l : List Nat) (n : Nat) : List Nat := l.filter (fun x => x ≠ n)

/-- Consecutive pieces of k elements (the last may be short), with fuel for the number of pieces. -/
def chunks {α : Type} (k : Nat) : Nat → List α → List (List α)
  | 0, _ => []
  | n + 1, l => if l.isEmpty then [] else l.take k :: chunks k n (l.drop k)

end Sys2Proof.Machine
end

