-- ==== Sys2Proof/Machine/Crypto.lean ====
section
/-! DEFINITION. The check sums and digests that the spec names: SHA-256 and HMAC-SHA-256 (R43, R51, R73, R75, R260), CRC-16 of R67,
CRC-32 of IEEE 802.3 (R59). Bytes are numbers below 256. -/

namespace Sys2Proof.Machine

/-- One bit of a cyclic redundancy check of width w, most significant bit first. -/
def crcBitMSB (w poly : Nat) (crc : Nat) : Nat :=
  if crc.testBit (w - 1) then (2 * crc % 2 ^ w) ^^^ poly else 2 * crc % 2 ^ w

/-- One byte of a check, most significant bit first. -/
def crcByteMSB (w poly : Nat) (crc b : Nat) : Nat :=
  Nat.repeat (crcBitMSB w poly) 8 (crc ^^^ (b % 256 * 2 ^ (w - 8)))

/-- CRC-16, polynomial 0x1021, start 0xFFFF, no reflection, no final XOR (R67). -/
def crc16 (l : List Nat) : Nat := l.foldl (crcByteMSB 16 0x1021) 0xFFFF

/-- CRC-8 with a given polynomial and start, most significant bit first. -/
def crc8 (poly start : Nat) (l : List Nat) : Nat := l.foldl (crcByteMSB 8 poly) start

/-- One bit of a reflected CRC-32. -/
def crc32Bit (crc : Nat) : Nat := if crc.testBit 0 then (crc / 2) ^^^ 0xEDB88320 else crc / 2

/-- One byte of a reflected CRC-32. -/
def crc32Byte (crc b : Nat) : Nat := Nat.repeat crc32Bit 8 (crc ^^^ (b % 256))

/-- CRC-32 of IEEE 802.3 (R59). -/
def crc32 (l : List Nat) : Nat := (l.foldl crc32Byte 0xFFFFFFFF) ^^^ 0xFFFFFFFF

/-- n words of 32 bits packed in a number, the first in its highest bits. -/
def packedWords (n v : Nat) : List (BitVec 32) := (List.range n).map (fun k => BitVec.ofNat 32 (v / 2 ^ (32 * (n - 1 - k))))

/-- SHA-256 adds a constant in each of its 64 rounds, the first 32 fraction bits of the cube root of a prime: eight rounds to a number. -/
def roundConstants : List (BitVec 32) :=
  [0x428A2F9871374491B5C0FBCFE9B5DBA53956C25B59F111F1923F82A4AB1C5ED5,
   0xD807AA9812835B01243185BE550C7DC372BE5D7480DEB1FE9BDC06A7C19BF174,
   0xE49B69C1EFBE47860FC19DC6240CA1CC2DE92C6F4A7484AA5CB0A9DC76F988DA,
   0x983E5152A831C66DB00327C8BF597FC7C6E00BF3D5A7914706CA635114292967,
   0x27B70A852E1B21384D2C6DFC53380D13650A7354766A0ABB81C2C92E92722C85,
   0xA2BFE8A1A81A664BC24B8B70C76C51A3D192E819D6990624F40E3585106AA070,
   0x19A4C1161E376C082748774C34B0BCB5391C0CB34ED8AA4A5B9CCA4F682E6FF3,
   0x748F82EE78A5636F84C878148CC7020890BEFFFAA4506CEBBEF9A3F7C67178F2].flatMap (packedWords 8)

/-- What a digest starts from: the first 32 fraction bits of the square roots of the first eight primes. -/
def digestStart : List (BitVec 32) :=
  packedWords 8 0x6A09E667BB67AE853C6EF372A54FF53A510E527F9B05688C1F83D9AB5BE0CD19

/-- The exclusive or of a word's rotations by some amounts. -/
def rotations (x : BitVec 32) (amounts : List Nat) : BitVec 32 := amounts.foldl (fun y n => y ^^^ x.rotateRight n) 0

/-- The word that follows the latest sixteen of a message, the newest first. -/
def nextMessageWord (newest : List (BitVec 32)) : BitVec 32 :=
  let at' (back : Nat) : BitVec 32 := newest.getD (back - 1) 0
  at' 16 + at' 7 + (rotations (at' 15) [7, 18] ^^^ at' 15 >>> 3) + (rotations (at' 2) [17, 19] ^^^ at' 2 >>> 10)

/-- The 64 message words of a block of sixteen. -/
def messageWords (block : List (BitVec 32)) : List (BitVec 32) :=
  (Nat.repeat (fun ws => nextMessageWord ws :: ws) 48 block.reverse).reverse

/-- A round on the eight working words: every word moves one place on; the first and the fifth place take new sums. `k` is the constant plus the message word. -/
def digestRound (v : List (BitVec 32)) (k : BitVec 32) : List (BitVec 32) :=
  match v with
  | [x0, x1, x2, x3, x4, x5, x6, x7] =>
    let chosen := x6 ^^^ (x4 &&& (x5 ^^^ x6))
    let most := (x0 &&& x1) ||| (x2 &&& (x0 ||| x1))
    let sum := x7 + chosen + k + rotations x4 [6, 11, 25]
    [sum + most + rotations x0 [2, 13, 22], x0, x1, x2, x3 + sum, x4, x5, x6]
  | _ => v

/-- A block is taken into a digest. -/
def digestBlock (v block : List (BitVec 32)) : List (BitVec 32) :=
  List.zipWith (· + ·) v ((List.zipWith (· + ·) (messageWords block) roundConstants).foldl digestRound v)

/-- A message with its closing bit, zeros up to a whole number of blocks, and its length in bits. -/
def closedMessage (l : List Nat) : List Nat :=
  let zeros := 63 - (l.length + 8) % 64
  l ++ 128 :: (List.replicate zeros 0 ++ bytesBE 8 (8 * l.length))

/-- SHA-256 of a byte string, 32 bytes. -/
def sha256 (l : List Nat) : List Nat :=
  let bytes := closedMessage l
  let blocks := (chunks 64 bytes.length bytes).map (fun b => (chunks 4 64 b).map (fun w => BitVec.ofNat 32 (ofBytesBE w)))
  (blocks.foldl digestBlock digestStart).flatMap (fun w => bytesBE 4 w.toNat)

/-- HMAC-SHA-256 (R51, R75, R439). -/
def hmacSha256 (key msg : List Nat) : List Nat :=
  let k0 := if 64 < key.length then sha256 key else key
  let k := k0 ++ List.replicate (64 - k0.length) 0
  sha256 (k.map (· ^^^ 0x5c) ++ sha256 (k.map (· ^^^ 0x36) ++ msg))

end Sys2Proof.Machine
end

