-- ==== Sys2Proof/Machine/RegFile.lean ====
section
/-! DEFINITION. Register fields and the file that holds their values. A register field is described once (its address, its
instances, its bits, its access code and role, its reset value and its clamp), and its value stands in the register file under the
key made of its instance address and its lowest bit. A field that holds its reset value has no entry. -/

namespace Sys2Proof.Machine

/-- The access codes of R10 that a stored field can carry. -/
inductive Acc where
  | ro | rw | wo | w1c
  deriving DecidableEq, Repr

/-- The roles of R11; MAKER includes INSTALLER, INSTALLER includes OPERATOR. -/
inductive Role where
  | operator | installer | maker
  deriving DecidableEq, Repr

/-- The code of a role in ROLE_REQ.ROLE (R45). -/
def Role.code : Role → Nat
  | .operator => 1
  | .installer => 2
  | .maker => 3

/-- The reset value of a field: one number, or one for each first or second index. -/
inductive ResetVal where
  | const (n : Nat)
  | first (l : List Nat)
  | second (l : List Nat)
  deriving DecidableEq, Repr

/-- Which resets a field outlives (R13, R435): `none` none of them, `hold` the warm reset, `aon` all but power-on. -/
inductive Keep where
  | none | hold | aon
  deriving DecidableEq, Repr

/-- The clamp of a field under R4, R5 and R8: `range` and `signed` store the nearest legal value, `enc` replaces reserved encodings; a clamp
against another field (R6) is made by the page's own rule after the store. -/
inductive Clamp where
  | none
  | range (lo hi : Nat)
  | signed (lo hi : Int)
  | enc (pairs : List (Nat × Nat))
  deriving DecidableEq, Repr

/-- A register field: instance (i, j) lies at byte address base + s1·i + s2·j; a field of more than 32 bits, or one
whose bits pass bit 31, takes the next word as well. `own` marks a field that a row of its own writes. -/
structure Field where
  base  : Nat
  n1    : Nat := 1
  s1    : Nat := 0
  n2    : Nat := 1
  s2    : Nat := 0
  lo    : Nat
  width : Nat
  acc   : Acc
  role  : Option Role := none
  reset : ResetVal := .const 0
  clamp : Clamp := .none
  keep  : Keep := .none
  own   : Bool := false
  deriving DecidableEq, Repr

/-- The byte address of an instance. -/
def Field.addr (f : Field) (i j : Nat) : Nat := f.base + f.s1 * i + f.s2 * j

/-- The key of an instance in the register file. -/
def Field.key (f : Field) (i j : Nat) : Nat := f.addr i j * 64 + f.lo

/-- The reset value of an instance. -/
def Field.resetVal (f : Field) (i j : Nat) : Nat :=
  match f.reset with
  | .const n => n
  | .first l => l.getD i 0
  | .second l => l.getD j 0

/-- The largest number that the field's bits hold. -/
def Field.max (f : Field) : Nat := 2 ^ f.width - 1

/-- The register file: (key, value), keys strictly rising. -/
abbrev RegFile := List (Nat × Nat)

/-- The value under a key. -/
def RegFile.find (k : Nat) : RegFile → Option Nat
  | [] => none
  | (k', v) :: r => if k' = k then some v else RegFile.find k r

/-- The file without a key. -/
def RegFile.drop (k : Nat) (r : RegFile) : RegFile := r.filter (fun e => e.1 ≠ k)

/-- The file with an entry put before the first larger key. -/
def RegFile.put (k v : Nat) : RegFile → RegFile
  | [] => [(k, v)]
  | (k', v') :: r => if k < k' then (k, v) :: (k', v') :: r else (k', v') :: RegFile.put k v r

/-- The value of a field's instance: its entry, or its reset value. -/
def RegFile.get (r : RegFile) (f : Field) (i j : Nat) : Nat :=
  (r.find (f.key i j)).getD (f.resetVal i j)

/-- The file after a value is stored in a field's instance; a value equal to the reset value leaves no entry. -/
def RegFile.set (r : RegFile) (f : Field) (i j v : Nat) : RegFile :=
  let v := v % 2 ^ f.width
  if v = f.resetVal i j then r.drop (f.key i j) else (r.drop (f.key i j)).put (f.key i j) v

end Sys2Proof.Machine
end

