-- ==== Sys2Proof/Machine/Fields1.lean ====
section
/-! DEFINITION. The register fields of the pages SYS, ROLE, SAFE, FLT, THM, NVM, SLU, CIS, DEC, written from the register tables of the spec (each docstring names the rule), and the list of each page. -/

namespace Sys2Proof.Machine

/-- Default classes of R404; 0 NOTE, 1 DEGRADE, 2 STOP, 3 SAFE. -/
def fltClassReset : List Nat :=
  [3, 3, 3, 3, 3, 3, 3, 3, 3, 3, 3, 3, 3, 3, 3, 0, 0, 0, 0, 0, 0, 0, 0, 3, 3, 3, 3, 3, 3, 3, 3, 3, 3, 3, 3, 3, 3, 1, 1] ++
  [1, 1, 1, 1, 1, 1, 1, 1, 1, 1, 1, 1, 1, 1, 1, 1, 1, 3, 3, 2, 3, 3, 3, 3, 3, 3, 3, 3, 3, 3, 3, 3, 3, 3, 3, 3, 3, 3, 3] ++
  [3, 3, 3, 3, 3, 3, 3, 3, 3, 3, 2, 1, 0, 0, 0, 0, 0, 0, 0, 0, 0, 0, 0, 0, 0, 0, 0, 0, 0, 0, 0, 0, 0, 0, 0, 0, 0, 0, 0] ++
  [0, 0, 0, 0, 0, 2, 0, 3, 0, 3, 0, 0, 0, 0, 0, 0, 0, 0, 0, 0, 0, 0, 0, 0, 0, 0, 0, 0, 3, 3, 0, 0, 0, 0, 0, 0, 0, 0, 0] ++
  [0, 0, 0, 0, 0, 0, 0, 0, 0, 0, 0, 0, 0, 0, 0, 0, 0, 0, 0, 0, 0, 0, 0, 0, 0, 0, 0, 2, 0, 0, 0, 0, 0, 0, 0, 0, 0, 0, 0] ++
  [0, 0, 0, 0, 0, 0, 0, 0, 0, 0, 0, 0, 0, 0, 0, 0, 1, 1, 1, 1, 0, 0, 0, 0, 0, 0, 0, 0, 0, 0, 0, 0, 0, 0, 0, 0, 0, 0, 0] ++
  [0, 1, 1, 1, 1, 0, 0, 0, 0, 0, 0, 0, 0, 0, 0, 0, 0, 0, 0, 0, 0, 0, 0, 0, 0, 0, 0, 0, 0, 0, 0, 0, 0, 0, 0, 0, 0, 0, 0] ++
  [0, 0, 0, 0, 0, 0, 0, 0, 0, 0, 0, 0, 0, 0, 0, 0, 0, 0, 0, 0, 0, 0, 0, 0, 0, 0, 0, 0, 0, 0, 0, 0, 0, 0, 0, 0, 0, 0, 0]

namespace F

/-- R36. -/
def SYS_BAD_ACC_COUNT : Field := { base := 0x44, lo := 0, width := 26, acc := .ro }
/-- R449. -/
def SYS_STAT_PHASE : Field := { base := 0xC, lo := 0, width := 4, acc := .ro }
/-- R449. -/
def SYS_BOOT_STAT_CODE : Field := { base := 0x48, lo := 28, width := 4, acc := .ro }
/-- R449. -/
def SYS_BOOT_STAT_SLOW_FLASH : Field := { base := 0x48, lo := 8, width := 1, acc := .ro }
/-- R449. -/
def SYS_BOOT_STAT_VALID_B : Field := { base := 0x48, lo := 5, width := 1, acc := .ro }
/-- R449. -/
def SYS_BOOT_STAT_VALID_A : Field := { base := 0x48, lo := 4, width := 1, acc := .ro }
/-- R449. -/
def SYS_BOOT_STAT_SLOT : Field := { base := 0x48, lo := 0, width := 1, acc := .ro }
/-- R449. -/
def SYS_SLEEP_DONE : Field := { base := 0x54, lo := 31, width := 1, acc := .ro }
/-- R449. -/
def SYS_SLEEP_CODE : Field := { base := 0x54, lo := 28, width := 2, acc := .ro }
/-- R449. -/
def SYS_STANDBY_CODE : Field := { base := 0x58, lo := 28, width := 2, acc := .ro }
/-- R449. -/
def SYS_WAKE_CFG_CS_EN : Field := { base := 0x5C, lo := 31, width := 1, acc := .rw, role := some .installer, reset := .const 1, keep := .aon }
/-- R449. -/
def SYS_WAKE_CFG_PERST_EN : Field := { base := 0x5C, lo := 30, width := 1, acc := .rw, role := some .installer, reset := .const 1, keep := .aon }
/-- R449. -/
def SYS_WAKE_CFG_TIMER_S : Field := { base := 0x5C, lo := 0, width := 24, acc := .rw, role := some .installer, keep := .aon }
/-- R449. -/
def SYS_AON_STAT_BROWNOUT : Field := { base := 0x60, lo := 31, width := 1, acc := .w1c, keep := .aon }
/-- R449. -/
def SYS_AON_STAT_VBAT_LOW : Field := { base := 0x60, lo := 30, width := 1, acc := .w1c, keep := .aon }
/-- R449. -/
def SYS_AON_STAT_WOKE_BY : Field := { base := 0x60, lo := 28, width := 2, acc := .ro, keep := .aon }
/-- R449. -/
def SYS_AON_STAT_RAIL : Field := { base := 0x60, lo := 24, width := 2, acc := .ro, keep := .aon }
/-- R449. -/
def SYS_AON_STAT_RAIL_FAILS : Field := { base := 0x60, lo := 16, width := 8, acc := .ro, keep := .aon }
/-- R449. -/
def SYS_WDOG_PERIOD_MS : Field := { base := 0x64, lo := 0, width := 16, acc := .rw, role := some .installer }

/-- R47. -/
def ROLE_SESS_CTRL_IDLE_TIME : Field := { base := 0x1048, n1 := 2, s1 := 0x100000000, lo := 16, width := 12, acc := .rw, role := some .installer, reset := .const 600, clamp := .range 10 3600 }
/-- R48. -/
def ROLE_DENY_COUNT : Field := { base := 0x104C, n1 := 2, s1 := 0x100000000, lo := 26, width := 6, acc := .ro }
/-- R48. -/
def ROLE_DENY_ADDR : Field := { base := 0x104C, n1 := 2, s1 := 0x100000000, lo := 0, width := 26, acc := .ro }
/-- R50. -/
def ROLE_RESP : Field := { base := 0x1080, n1 := 2, s1 := 0x100000000, n2 := 8, s2 := 0x4, lo := 0, width := 32, acc := .wo }
/-- R54. -/
def ROLE_KEY_NEW : Field := { base := 0x10A0, n1 := 8, s1 := 0x4, lo := 0, width := 32, acc := .wo, role := some .maker }
/-- R55. -/
def ROLE_KEY_CTRL_TARGET : Field := { base := 0x10C0, lo := 8, width := 2, acc := .rw, role := some .maker, clamp := .enc [(0, 1)] }
/-- R55. -/
def ROLE_KEY_CTRL_STAGED : Field := { base := 0x10C0, lo := 4, width := 1, acc := .ro }
/-- R62. -/
def ROLE_AUD_IDX : Field := { base := 0x10D8, lo := 0, width := 13, acc := .rw }
/-- R62. -/
def ROLE_AUD_DATA : Field := { base := 0x10E0, n1 := 8, s1 := 0x4, lo := 0, width := 32, acc := .ro }

/-- R72. -/
def SAFE_PORT_STAT_EXP_SEQ : Field := { base := 0x2200, lo := 16, width := 16, acc := .ro }
/-- R72. -/
def SAFE_PORT_STAT_LAST_STATUS : Field := { base := 0x2200, lo := 8, width := 8, acc := .ro, reset := .const 7 }
/-- R72. -/
def SAFE_PORT_STAT_IMAGE_OK : Field := { base := 0x2200, lo := 3, width := 1, acc := .ro }
/-- R72. -/
def SAFE_PORT_STAT_STORE_OK : Field := { base := 0x2200, lo := 2, width := 1, acc := .ro }
/-- R72. -/
def SAFE_PORT_STAT_BUSY : Field := { base := 0x2200, lo := 0, width := 1, acc := .ro }
/-- R72. -/
def SAFE_ERR_CNT_CRC : Field := { base := 0x2204, lo := 24, width := 8, acc := .ro }
/-- R72. -/
def SAFE_ERR_CNT_SEQ : Field := { base := 0x2204, lo := 16, width := 8, acc := .ro }
/-- R72. -/
def SAFE_ERR_CNT_CMP : Field := { base := 0x2204, lo := 8, width := 8, acc := .ro }
/-- R72. -/
def SAFE_ERR_CNT_OTHER : Field := { base := 0x2204, lo := 0, width := 8, acc := .ro }
/-- R79. -/
def SAFE_CASK_STAT_FIX_CNT : Field := { base := 0x2208, lo := 16, width := 16, acc := .ro }
/-- R79. -/
def SAFE_CASK_STAT_LAST_WORD : Field := { base := 0x2208, lo := 0, width := 6, acc := .ro }

/-- R419. -/
def FLT_IRQ_STAT : Field := { base := 0x3010, lo := 0, width := 5, acc := .w1c }
/-- R419. -/
def FLT_IRQ_EN : Field := { base := 0x3014, lo := 0, width := 5, acc := .rw }
/-- R419. -/
def FLT_CFG_HB_EN : Field := { base := 0x3040, lo := 31, width := 1, acc := .rw, role := some .installer }
/-- R419. -/
def FLT_CFG_IN_HB : Field := { base := 0x3040, lo := 30, width := 1, acc := .rw, role := some .installer }
/-- R419. -/
def FLT_CFG_SHADOW_US : Field := { base := 0x3040, lo := 0, width := 14, acc := .rw, role := some .installer, reset := .const 50, clamp := .range 0 10000 }
/-- R419. -/
def FLT_STATE_RELEASED : Field := { base := 0x3044, lo := 29, width := 1, acc := .ro }
/-- R419. -/
def FLT_STATE_IN : Field := { base := 0x3044, lo := 26, width := 2, acc := .ro }
/-- R419. -/
def FLT_STATE_LAST_SRC : Field := { base := 0x3044, lo := 0, width := 9, acc := .ro }
/-- R419. -/
def FLT_CMD_DONE : Field := { base := 0x3048, lo := 31, width := 1, acc := .ro }
/-- R419. -/
def FLT_CMD_CODE : Field := { base := 0x3048, lo := 28, width := 2, acc := .ro }
/-- R413. -/
def FLT_WIRE_TEST_SRC : Field := { base := 0x304C, lo := 0, width := 9, acc := .rw, role := some .installer, clamp := .range 0 311 }
/-- R419. -/
def FLT_LOG_STAT_OVERWRITES : Field := { base := 0x3050, lo := 16, width := 16, acc := .ro, keep := .hold }
/-- R419. -/
def FLT_VEC : Field := { base := 0x3058, lo := 0, width := 6, acc := .rw }
/-- R420. -/
def FLT_SRC_CLASS : Field := { base := 0x3400, n1 := 312, s1 := 0x4, lo := 0, width := 2, acc := .rw, role := some .installer, reset := .first fltClassReset }

/-- R430. -/
def THM_STAT_SHUT_LATCH : Field := { base := 0x400C, lo := 31, width := 1, acc := .ro }
/-- R430. -/
def THM_STAT_THROTTLE : Field := { base := 0x400C, lo := 30, width := 1, acc := .ro }
/-- R430. -/
def THM_STAT_WARN : Field := { base := 0x400C, lo := 29, width := 1, acc := .ro }
/-- R430. -/
def THM_STAT_SLOW_REQ : Field := { base := 0x400C, lo := 28, width := 1, acc := .ro }
/-- R430. -/
def THM_STAT_MAX_SENSOR : Field := { base := 0x400C, lo := 16, width := 5, acc := .ro }
/-- R430. -/
def THM_STAT_TMAX : Field := { base := 0x400C, lo := 0, width := 16, acc := .ro }
/-- R430. -/
def THM_IRQ_STAT : Field := { base := 0x4010, lo := 0, width := 4, acc := .w1c }
/-- R430. -/
def THM_IRQ_EN : Field := { base := 0x4014, lo := 0, width := 4, acc := .rw }
/-- R430. -/
def THM_THR_CFG_SLOW_MS : Field := { base := 0x4040, lo := 16, width := 16, acc := .rw, role := some .installer, reset := .const 2000, clamp := .range 1 60000 }
/-- R430. -/
def THM_THR_CFG_DUTY_PCT : Field := { base := 0x4040, lo := 0, width := 7, acc := .rw, role := some .installer, reset := .const 50, clamp := .range 0 100 }
/-- R430. -/
def THM_CMD_DONE : Field := { base := 0x4044, lo := 31, width := 1, acc := .ro }
/-- R430. -/
def THM_CMD_CODE : Field := { base := 0x4044, lo := 28, width := 2, acc := .ro }
/-- R430. -/
def THM_PEAK : Field := { base := 0x4048, lo := 0, width := 16, acc := .ro }
/-- R430. -/
def THM_SENS_FAILED : Field := { base := 0x4080, n1 := 24, s1 := 0x4, lo := 31, width := 1, acc := .ro }
/-- R430. -/
def THM_SENS_TEMP : Field := { base := 0x4080, n1 := 24, s1 := 0x4, lo := 0, width := 16, acc := .ro }
/-- R430. -/
def THM_OFS : Field := { base := 0x40E0, n1 := 24, s1 := 0x4, lo := 0, width := 16, acc := .rw, role := some .maker, clamp := .signed (-4096) 4096 }
/-- R430. -/
def THM_EVT_IDX : Field := { base := 0x4180, lo := 0, width := 3, acc := .rw }
/-- R430. -/
def THM_EVT_STAT_PENDING : Field := { base := 0x4184, lo := 31, width := 1, acc := .ro, keep := .hold }
/-- R430. -/
def THM_EVT_STAT_NEXT : Field := { base := 0x4184, lo := 0, width := 3, acc := .ro, keep := .hold }
/-- R430. -/
def THM_EVT_DATA : Field := { base := 0x41A0, n1 := 24, s1 := 0x4, lo := 0, width := 32, acc := .ro }

/-- R443. -/
def NVM_STAT_BUSY : Field := { base := 0x500C, lo := 31, width := 1, acc := .ro }
/-- R443. -/
def NVM_STAT_SUSPENDED : Field := { base := 0x500C, lo := 30, width := 1, acc := .ro }
/-- R443. -/
def NVM_ERR_CE : Field := { base := 0x5040, lo := 16, width := 15, acc := .ro }
/-- R443. -/
def NVM_ERR_UE : Field := { base := 0x5040, lo := 0, width := 16, acc := .ro }
/-- R443. -/
def NVM_ERR_ADDR : Field := { base := 0x5044, lo := 0, width := 19, acc := .ro }
/-- R443. -/
def NVM_WRITES : Field := { base := 0x5048, lo := 0, width := 48, acc := .ro, keep := .hold }

/-- R32. -/
def SLU_CTRL_ENABLE : Field := { base := 0x10008, lo := 0, width := 1, acc := .rw }
/-- R83. -/
def SLU_FETCH_RD_SIZE : Field := { base := 0x10040, lo := 0, width := 2, acc := .rw, reset := .const 1, clamp := .enc [(3, 2)] }
/-- R112. -/
def SLU_STALE_CNT : Field := { base := 0x10048, lo := 0, width := 32, acc := .ro }
/-- R107. -/
def SLU_JOB_IDX : Field := { base := 0x10050, lo := 0, width := 9, acc := .rw }
/-- R109. -/
def SLU_JOB_RESULT_DONE : Field := { base := 0x10058, lo := 31, width := 1, acc := .ro }
/-- R109. -/
def SLU_JOB_RESULT_CODE : Field := { base := 0x10058, lo := 16, width := 4, acc := .ro }
/-- R109. -/
def SLU_JOB_RESULT_TAG : Field := { base := 0x10058, lo := 0, width := 16, acc := .ro }
/-- R103. -/
def SLU_JOB_W : Field := { base := 0x10080, n1 := 16, s1 := 0x4, lo := 0, width := 32, acc := .rw }
/-- R84. -/
def SLU_R_CTRL_ENABLE : Field := { base := 0x11008, n1 := 8, s1 := 0x1000, lo := 0, width := 1, acc := .rw, own := true }
/-- R84. -/
def SLU_R_STAT_DRAINING : Field := { base := 0x1100C, n1 := 8, s1 := 0x1000, lo := 1, width := 1, acc := .ro }
/-- R84. -/
def SLU_R_STAT_ACTIVE : Field := { base := 0x1100C, n1 := 8, s1 := 0x1000, lo := 0, width := 1, acc := .ro }
/-- R85. -/
def SLU_R_SQ_BASE : Field := { base := 0x11040, n1 := 8, s1 := 0x1000, lo := 12, width := 52, acc := .rw }
/-- R86. -/
def SLU_R_SQ_CFG_WEIGHT : Field := { base := 0x11048, n1 := 8, s1 := 0x1000, lo := 27, width := 2, acc := .rw }
/-- R86. -/
def SLU_R_SQ_CFG_MAX_INFLIGHT : Field := { base := 0x11048, n1 := 8, s1 := 0x1000, lo := 16, width := 11, acc := .rw, reset := .const 128, clamp := .range 0 1024 }
/-- R86. -/
def SLU_R_SQ_CFG_ENTRIES : Field := { base := 0x11048, n1 := 8, s1 := 0x1000, lo := 0, width := 13, acc := .rw, reset := .const 1024 }
/-- R87. -/
def SLU_R_SQ_TAIL : Field := { base := 0x1104C, n1 := 8, s1 := 0x1000, lo := 0, width := 13, acc := .rw }
/-- R87. -/
def SLU_R_SQ_HEAD : Field := { base := 0x11050, n1 := 8, s1 := 0x1000, lo := 0, width := 13, acc := .ro }
/-- R85. -/
def SLU_R_CQ_BASE : Field := { base := 0x11054, n1 := 8, s1 := 0x1000, lo := 12, width := 52, acc := .rw }
/-- R86. -/
def SLU_R_CQ_CFG_VECTOR : Field := { base := 0x1105C, n1 := 8, s1 := 0x1000, lo := 24, width := 6, acc := .rw }
/-- R86. -/
def SLU_R_CQ_CFG_COAL_US : Field := { base := 0x1105C, n1 := 8, s1 := 0x1000, lo := 20, width := 4, acc := .rw }
/-- R86. -/
def SLU_R_CQ_CFG_COAL_CNT : Field := { base := 0x1105C, n1 := 8, s1 := 0x1000, lo := 16, width := 4, acc := .rw, reset := .const 1 }
/-- R86. -/
def SLU_R_CQ_CFG_ENTRIES : Field := { base := 0x1105C, n1 := 8, s1 := 0x1000, lo := 0, width := 13, acc := .rw, reset := .const 1024 }
/-- R87. -/
def SLU_R_CQ_TAIL_PHASE : Field := { base := 0x11060, n1 := 8, s1 := 0x1000, lo := 31, width := 1, acc := .ro, reset := .const 1 }
/-- R87. -/
def SLU_R_CQ_TAIL_INDEX : Field := { base := 0x11060, n1 := 8, s1 := 0x1000, lo := 0, width := 13, acc := .ro }
/-- R87. -/
def SLU_R_CQ_HEAD : Field := { base := 0x11064, n1 := 8, s1 := 0x1000, lo := 0, width := 13, acc := .rw }
/-- R90. -/
def SLU_R_CNT_ERR_CNT : Field := { base := 0x11068, n1 := 8, s1 := 0x1000, lo := 16, width := 15, acc := .ro }
/-- R90. -/
def SLU_R_CNT_CQ_LOST : Field := { base := 0x11068, n1 := 8, s1 := 0x1000, lo := 0, width := 16, acc := .ro }

/-- R32. -/
def CIS_CTRL_ENABLE : Field := { base := 0x20008, lo := 0, width := 1, acc := .rw }
/-- R131. -/
def CIS_IRQ_STAT : Field := { base := 0x20010, lo := 0, width := 24, acc := .w1c }
/-- R131. -/
def CIS_IRQ_EN : Field := { base := 0x20014, lo := 0, width := 24, acc := .rw }
/-- R118. -/
def CIS_STOP_DIST : Field := { base := 0x20040, lo := 0, width := 24, acc := .rw, role := some .installer, reset := .const 1000000, clamp := .range 0 16000000 }
/-- R118. -/
def CIS_GUARD_MARGIN : Field := { base := 0x20044, lo := 0, width := 16, acc := .rw, role := some .installer, reset := .const 1024 }
/-- R118. -/
def CIS_RESERVE_MIN_MS : Field := { base := 0x20048, lo := 16, width := 16, acc := .rw, reset := .const 250 }
/-- R118. -/
def CIS_RESERVE_RES_MS : Field := { base := 0x20048, lo := 0, width := 16, acc := .rw, reset := .const 1000, clamp := .range 0 60000 }
/-- R137. -/
def CIS_WIN_WR_EN : Field := { base := 0x2004C, lo := 31, width := 1, acc := .rw, role := some .installer }
/-- R137. -/
def CIS_WIN_BASE : Field := { base := 0x2004C, lo := 0, width := 17, acc := .rw }
/-- R116. -/
def CIS_BAR_DIST : Field := { base := 0x20060, n1 := 8, s1 := 0x4, lo := 0, width := 24, acc := .rw, role := some .installer }
/-- R129. -/
def CIS_B_CNT_PRED : Field := { base := 0x20128, n1 := 8, s1 := 0x40, lo := 16, width := 15, acc := .ro }
/-- R129. -/
def CIS_B_CNT_STARVED : Field := { base := 0x20128, n1 := 8, s1 := 0x40, lo := 0, width := 16, acc := .ro }
/-- R120. -/
def CIS_L_B_BASE : Field := { base := 0x20400, n1 := 8, s1 := 0x100, n2 := 8, s2 := 0x10, lo := 0, width := 25, acc := .rw }
/-- R120. -/
def CIS_L_B_SIZE : Field := { base := 0x20404, n1 := 8, s1 := 0x100, n2 := 8, s2 := 0x10, lo := 0, width := 26, acc := .rw }
/-- R120. -/
def CIS_L_B_IDXB : Field := { base := 0x20408, n1 := 8, s1 := 0x100, n2 := 8, s2 := 0x10, lo := 0, width := 25, acc := .rw }
/-- R120. -/
def CIS_L_B_IDXN : Field := { base := 0x2040C, n1 := 8, s1 := 0x100, n2 := 8, s2 := 0x10, lo := 0, width := 24, acc := .rw }
/-- R120. -/
def CIS_L_REP_BASE : Field := { base := 0x20480, n1 := 8, s1 := 0x100, lo := 0, width := 25, acc := .rw }
/-- R120. -/
def CIS_L_REP_SIZE : Field := { base := 0x20484, n1 := 8, s1 := 0x100, lo := 0, width := 26, acc := .rw }

/-- R160. -/
def DEC_UPD_SEL_KIND : Field := { base := 0x30040, lo := 28, width := 4, acc := .rw, reset := .const 1, clamp := .enc [(0, 1), (5, 4), (6, 4), (7, 4), (8, 4), (9, 4), (10, 4), (11, 4), (12, 4), (13, 4), (14, 4), (15, 4)] }
/-- R160. -/
def DEC_UPD_SEL_LUT_SET : Field := { base := 0x30040, lo := 24, width := 2, acc := .rw }
/-- R160. -/
def DEC_UPD_SEL_PORT : Field := { base := 0x30040, lo := 0, width := 8, acc := .rw, reset := .const 255 }
/-- R160. -/
def DEC_UPD_KEY : Field := { base := 0x30044, lo := 0, width := 48, acc := .rw }
/-- R160. -/
def DEC_UPD_RAMP : Field := { base := 0x3004C, lo := 0, width := 24, acc := .rw }
/-- R160. -/
def DEC_UPD_CMD_DONE : Field := { base := 0x30050, lo := 31, width := 1, acc := .ro }
/-- R160. -/
def DEC_UPD_CMD_CODE : Field := { base := 0x30050, lo := 16, width := 2, acc := .ro }
/-- R163. -/
def DEC_HMAP_CMD_DONE : Field := { base := 0x30054, lo := 31, width := 1, acc := .ro }
/-- R163. -/
def DEC_HMAP_CMD_CODE : Field := { base := 0x30054, lo := 16, width := 2, acc := .ro }
/-- R165. -/
def DEC_DEC_ERR_COUNT : Field := { base := 0x30058, lo := 0, width := 16, acc := .ro }
/-- R164. -/
def DEC_B_SCR_W_ERR : Field := { base := 0x30100, n1 := 8, s1 := 0x20, lo := 16, width := 8, acc := .rw, reset := .const 128 }
/-- R164. -/
def DEC_B_SCR_YOFF : Field := { base := 0x30100, n1 := 8, s1 := 0x20, lo := 8, width := 7, acc := .rw }
/-- R164. -/
def DEC_B_SCR_XOFF : Field := { base := 0x30100, n1 := 8, s1 := 0x20, lo := 0, width := 7, acc := .rw }
/-- R164. -/
def DEC_B_NOZOUT_W2 : Field := { base := 0x30104, n1 := 8, s1 := 0x20, lo := 8, width := 8, acc := .rw, reset := .const 32 }
/-- R164. -/
def DEC_B_NOZOUT_W1 : Field := { base := 0x30104, n1 := 8, s1 := 0x20, lo := 0, width := 8, acc := .rw, reset := .const 96 }
/-- R164. -/
def DEC_B_UPS_LINEAR : Field := { base := 0x30108, n1 := 8, s1 := 0x20, lo := 0, width := 1, acc := .rw }
/-- R164. -/
def DEC_B_VOL2_2 : Field := { base := 0x3010C, n1 := 8, s1 := 0x20, lo := 16, width := 16, acc := .rw, reset := .const 43690 }
/-- R164. -/
def DEC_B_VOL2_1 : Field := { base := 0x3010C, n1 := 8, s1 := 0x20, lo := 0, width := 16, acc := .rw, reset := .const 21845, clamp := .range 1 65533 }
/-- R164. -/
def DEC_B_VOL3_2 : Field := { base := 0x30110, n1 := 8, s1 := 0x20, lo := 16, width := 16, acc := .rw, reset := .const 18724 }
/-- R164. -/
def DEC_B_VOL3_1 : Field := { base := 0x30110, n1 := 8, s1 := 0x20, lo := 0, width := 16, acc := .rw, reset := .const 9362 }
/-- R164. -/
def DEC_B_VOL3_4 : Field := { base := 0x30114, n1 := 8, s1 := 0x20, lo := 16, width := 16, acc := .rw, reset := .const 37449 }
/-- R164. -/
def DEC_B_VOL3_3 : Field := { base := 0x30114, n1 := 8, s1 := 0x20, lo := 0, width := 16, acc := .rw, reset := .const 28086 }
/-- R164. -/
def DEC_B_VOL3_5 : Field := { base := 0x30118, n1 := 8, s1 := 0x20, lo := 0, width := 16, acc := .rw, reset := .const 46811 }
/-- R164. -/
def DEC_B_VOL3_6 : Field := { base := 0x3011C, n1 := 8, s1 := 0x20, lo := 0, width := 16, acc := .rw, reset := .const 56173 }
/-- R166. -/
def DEC_S_LOAD_MAX_PCT : Field := { base := 0x31080, n1 := 24, s1 := 0x1000, lo := 8, width := 8, acc := .ro }
/-- R166. -/
def DEC_S_LOAD_LAST_PCT : Field := { base := 0x31080, n1 := 24, s1 := 0x1000, lo := 0, width := 8, acc := .ro }

end F

/-- The stored fields of page SYS. -/
def fieldsSys : List Field :=
  [F.SYS_BAD_ACC_COUNT, F.SYS_STAT_PHASE, F.SYS_BOOT_STAT_CODE, F.SYS_BOOT_STAT_SLOW_FLASH, F.SYS_BOOT_STAT_VALID_B, F.SYS_BOOT_STAT_VALID_A, F.SYS_BOOT_STAT_SLOT, F.SYS_SLEEP_DONE, F.SYS_SLEEP_CODE, F.SYS_STANDBY_CODE, F.SYS_WAKE_CFG_CS_EN, F.SYS_WAKE_CFG_PERST_EN, F.SYS_WAKE_CFG_TIMER_S, F.SYS_AON_STAT_BROWNOUT, F.SYS_AON_STAT_VBAT_LOW, F.SYS_AON_STAT_WOKE_BY, F.SYS_AON_STAT_RAIL, F.SYS_AON_STAT_RAIL_FAILS, F.SYS_WDOG_PERIOD_MS]

/-- The stored fields of page ROLE. -/
def fieldsRole : List Field :=
  [F.ROLE_SESS_CTRL_IDLE_TIME, F.ROLE_DENY_COUNT, F.ROLE_DENY_ADDR, F.ROLE_RESP, F.ROLE_KEY_NEW, F.ROLE_KEY_CTRL_TARGET, F.ROLE_KEY_CTRL_STAGED, F.ROLE_AUD_IDX, F.ROLE_AUD_DATA]

/-- The stored fields of page SAFE. -/
def fieldsSafe : List Field :=
  [F.SAFE_PORT_STAT_EXP_SEQ, F.SAFE_PORT_STAT_LAST_STATUS, F.SAFE_PORT_STAT_IMAGE_OK, F.SAFE_PORT_STAT_STORE_OK, F.SAFE_PORT_STAT_BUSY, F.SAFE_ERR_CNT_CRC, F.SAFE_ERR_CNT_SEQ, F.SAFE_ERR_CNT_CMP, F.SAFE_ERR_CNT_OTHER, F.SAFE_CASK_STAT_FIX_CNT, F.SAFE_CASK_STAT_LAST_WORD]

/-- The stored fields of page FLT. -/
def fieldsFlt : List Field :=
  [F.FLT_IRQ_STAT, F.FLT_IRQ_EN, F.FLT_CFG_HB_EN, F.FLT_CFG_IN_HB, F.FLT_CFG_SHADOW_US, F.FLT_STATE_RELEASED, F.FLT_STATE_IN, F.FLT_STATE_LAST_SRC, F.FLT_CMD_DONE, F.FLT_CMD_CODE, F.FLT_WIRE_TEST_SRC, F.FLT_LOG_STAT_OVERWRITES, F.FLT_VEC, F.FLT_SRC_CLASS]

/-- The stored fields of page THM. -/
def fieldsThm : List Field :=
  [F.THM_STAT_SHUT_LATCH, F.THM_STAT_THROTTLE, F.THM_STAT_WARN, F.THM_STAT_SLOW_REQ, F.THM_STAT_MAX_SENSOR, F.THM_STAT_TMAX, F.THM_IRQ_STAT, F.THM_IRQ_EN, F.THM_THR_CFG_SLOW_MS, F.THM_THR_CFG_DUTY_PCT, F.THM_CMD_DONE, F.THM_CMD_CODE, F.THM_PEAK, F.THM_SENS_FAILED, F.THM_SENS_TEMP, F.THM_OFS, F.THM_EVT_IDX, F.THM_EVT_STAT_PENDING, F.THM_EVT_STAT_NEXT, F.THM_EVT_DATA]

/-- The stored fields of page NVM. -/
def fieldsNvm : List Field :=
  [F.NVM_STAT_BUSY, F.NVM_STAT_SUSPENDED, F.NVM_ERR_CE, F.NVM_ERR_UE, F.NVM_ERR_ADDR, F.NVM_WRITES]

/-- The stored fields of page SLU. -/
def fieldsSlu : List Field :=
  [F.SLU_CTRL_ENABLE, F.SLU_FETCH_RD_SIZE, F.SLU_STALE_CNT, F.SLU_JOB_IDX, F.SLU_JOB_RESULT_DONE, F.SLU_JOB_RESULT_CODE, F.SLU_JOB_RESULT_TAG, F.SLU_JOB_W, F.SLU_R_CTRL_ENABLE, F.SLU_R_STAT_DRAINING, F.SLU_R_STAT_ACTIVE, F.SLU_R_SQ_BASE, F.SLU_R_SQ_CFG_WEIGHT, F.SLU_R_SQ_CFG_MAX_INFLIGHT, F.SLU_R_SQ_CFG_ENTRIES, F.SLU_R_SQ_TAIL, F.SLU_R_SQ_HEAD, F.SLU_R_CQ_BASE, F.SLU_R_CQ_CFG_VECTOR, F.SLU_R_CQ_CFG_COAL_US] ++
  [F.SLU_R_CQ_CFG_COAL_CNT, F.SLU_R_CQ_CFG_ENTRIES, F.SLU_R_CQ_TAIL_PHASE, F.SLU_R_CQ_TAIL_INDEX, F.SLU_R_CQ_HEAD, F.SLU_R_CNT_ERR_CNT, F.SLU_R_CNT_CQ_LOST]

/-- The stored fields of page CIS. -/
def fieldsCis : List Field :=
  [F.CIS_CTRL_ENABLE, F.CIS_IRQ_STAT, F.CIS_IRQ_EN, F.CIS_STOP_DIST, F.CIS_GUARD_MARGIN, F.CIS_RESERVE_MIN_MS, F.CIS_RESERVE_RES_MS, F.CIS_WIN_WR_EN, F.CIS_WIN_BASE, F.CIS_BAR_DIST, F.CIS_B_CNT_PRED, F.CIS_B_CNT_STARVED, F.CIS_L_B_BASE, F.CIS_L_B_SIZE, F.CIS_L_B_IDXB, F.CIS_L_B_IDXN, F.CIS_L_REP_BASE, F.CIS_L_REP_SIZE]

/-- The stored fields of page DEC. -/
def fieldsDec : List Field :=
  [F.DEC_UPD_SEL_KIND, F.DEC_UPD_SEL_LUT_SET, F.DEC_UPD_SEL_PORT, F.DEC_UPD_KEY, F.DEC_UPD_RAMP, F.DEC_UPD_CMD_DONE, F.DEC_UPD_CMD_CODE, F.DEC_HMAP_CMD_DONE, F.DEC_HMAP_CMD_CODE, F.DEC_DEC_ERR_COUNT, F.DEC_B_SCR_W_ERR, F.DEC_B_SCR_YOFF, F.DEC_B_SCR_XOFF, F.DEC_B_NOZOUT_W2, F.DEC_B_NOZOUT_W1, F.DEC_B_UPS_LINEAR, F.DEC_B_VOL2_2, F.DEC_B_VOL2_1, F.DEC_B_VOL3_2, F.DEC_B_VOL3_1] ++
  [F.DEC_B_VOL3_4, F.DEC_B_VOL3_3, F.DEC_B_VOL3_5, F.DEC_B_VOL3_6, F.DEC_S_LOAD_MAX_PCT, F.DEC_S_LOAD_LAST_PCT]

end Sys2Proof.Machine
end

