-- ==== Sys2Proof/Machine/Fields2.lean ====
section
/-! DEFINITION. The register fields of the pages POS, FIRE, HLK, DDR, ECC, written from the register tables of the spec (each docstring names the rule), and the list of each page. -/

namespace Sys2Proof.Machine

namespace F

/-- R175. -/
def POS_CTRL_ENABLE : Field := { base := 0x60008, lo := 0, width := 1, acc := .rw, role := some .installer, own := true }
/-- R175. -/
def POS_IRQ_STAT : Field := { base := 0x60010, lo := 0, width := 7, acc := .w1c }
/-- R175. -/
def POS_IRQ_EN : Field := { base := 0x60014, lo := 0, width := 7, acc := .rw }
/-- R174. -/
def POS_LOOP_KP : Field := { base := 0x60040, lo := 0, width := 24, acc := .rw, role := some .installer, reset := .const 298156, clamp := .range 1 16777215 }
/-- R174. -/
def POS_LOOP_KI : Field := { base := 0x60044, lo := 0, width := 24, acc := .rw, role := some .installer, reset := .const 2649, clamp := .range 1 16777215 }
/-- R184. -/
def POS_SPEED_CFG_GATE_MS : Field := { base := 0x60048, lo := 24, width := 7, acc := .rw, role := some .installer, reset := .const 1, clamp := .range 1 100 }
/-- R184. -/
def POS_SPEED_CFG_XOVER : Field := { base := 0x60048, lo := 0, width := 24, acc := .rw, role := some .installer, reset := .const 10000, clamp := .range 1 16777215 }
/-- R182. -/
def POS_REV_ALLOW : Field := { base := 0x60050, lo := 0, width := 8, acc := .rw, reset := .const 4 }
/-- R182. -/
def POS_LEAD_US : Field := { base := 0x60054, lo := 0, width := 12, acc := .rw, reset := .const 300, clamp := .range 20 2000 }
/-- R196. -/
def POS_REDUN_CFG_MODE : Field := { base := 0x60068, lo := 30, width := 2, acc := .rw, role := some .installer, clamp := .enc [(3, 2)] }
/-- R196. -/
def POS_REDUN_CFG_WINDOW_MS : Field := { base := 0x60068, lo := 20, width := 10, acc := .rw, role := some .installer, reset := .const 10, clamp := .range 1 1000 }
/-- R196. -/
def POS_REDUN_CFG_TOL_PPM : Field := { base := 0x60068, lo := 0, width := 16, acc := .rw, role := some .installer, reset := .const 5000, clamp := .range 1 65535 }
/-- R196. -/
def POS_REDUN_CFG2_ARB_PPM : Field := { base := 0x6006C, lo := 16, width := 16, acc := .rw, role := some .installer, reset := .const 20000, clamp := .range 1 65535 }
/-- R196. -/
def POS_REDUN_CFG2_MIN_DOTS : Field := { base := 0x6006C, lo := 0, width := 16, acc := .rw, role := some .installer, reset := .const 16, clamp := .range 1 65535 }
/-- R196. -/
def POS_REDUN_CFG3_REVERT_MS : Field := { base := 0x60070, lo := 16, width := 16, acc := .rw, role := some .installer, reset := .const 2000, clamp := .range 100 60000 }
/-- R196. -/
def POS_REDUN_CFG3_AUTO_REVERT : Field := { base := 0x60070, lo := 15, width := 1, acc := .rw, role := some .installer, reset := .const 1 }
/-- R196. -/
def POS_REDUN_CFG3_SW_GAP_US : Field := { base := 0x60070, lo := 0, width := 8, acc := .rw, role := some .installer, reset := .const 50, clamp := .range 10 200 }
/-- R188. -/
def POS_STRAIN_CFG_ENABLE : Field := { base := 0x60078, lo := 31, width := 1, acc := .rw, role := some .installer }
/-- R188. -/
def POS_STRAIN_CFG_TAU_MS : Field := { base := 0x60078, lo := 16, width := 12, acc := .rw, role := some .installer, reset := .const 500, clamp := .range 10 4000 }
/-- R188. -/
def POS_STRAIN_CFG_MAX_PERMIL : Field := { base := 0x60078, lo := 8, width := 8, acc := .rw, role := some .installer, reset := .const 20, clamp := .range 1 100 }
/-- R188. -/
def POS_STRAIN_CFG_SLEW : Field := { base := 0x60078, lo := 0, width := 8, acc := .rw, role := some .installer, reset := .const 16, clamp := .range 1 255 }
/-- R196. -/
def POS_EVT_CNT_SWITCHES : Field := { base := 0x60080, lo := 16, width := 16, acc := .ro }
/-- R196. -/
def POS_EVT_CNT_REVERSES : Field := { base := 0x60080, lo := 0, width := 16, acc := .ro }
/-- R196. -/
def POS_AB_STEP : Field := { base := 0x60084, lo := 0, width := 32, acc := .ro }
/-- R170. -/
def ENC_CFG_INVERT : Field := { base := 0x60100, n1 := 4, s1 := 0x40, lo := 8, width := 1, acc := .rw, role := some .installer }
/-- R170. -/
def ENC_CFG_FILT : Field := { base := 0x60100, n1 := 4, s1 := 0x40, lo := 0, width := 4, acc := .rw, role := some .installer, reset := .const 4, clamp := .range 0 9 }
/-- R170. -/
def ENC_RATIO : Field := { base := 0x60104, n1 := 4, s1 := 0x40, lo := 0, width := 64, acc := .rw, role := some .installer, reset := .const 4294967296, clamp := .range 1 18446744073709551615 }
/-- R170. -/
def ENC_IDX_WIN : Field := { base := 0x6010C, n1 := 4, s1 := 0x40, lo := 24, width := 8, acc := .rw, role := some .installer, reset := .const 2 }
/-- R170. -/
def ENC_IDX_PERIOD : Field := { base := 0x6010C, n1 := 4, s1 := 0x40, lo := 0, width := 24, acc := .rw, role := some .installer }
/-- R170. -/
def ENC_ILL_WINDOW_MS : Field := { base := 0x60110, n1 := 4, s1 := 0x40, lo := 16, width := 16, acc := .rw, role := some .installer, reset := .const 100, clamp := .range 1 60000 }
/-- R170. -/
def ENC_ILL_LIMIT : Field := { base := 0x60110, n1 := 4, s1 := 0x40, lo := 0, width := 16, acc := .rw, role := some .installer, reset := .const 16, clamp := .range 1 65535 }
/-- R170. -/
def ENC_STAT_LOS : Field := { base := 0x6011C, n1 := 4, s1 := 0x40, lo := 31, width := 1, acc := .ro }
/-- R170. -/
def ENC_STAT_SUSPECT : Field := { base := 0x6011C, n1 := 4, s1 := 0x40, lo := 30, width := 1, acc := .ro }
/-- R170. -/
def ENC_STAT_OUTVOTED : Field := { base := 0x6011C, n1 := 4, s1 := 0x40, lo := 29, width := 1, acc := .ro }
/-- R170. -/
def ENC_STAT_SHIFTED : Field := { base := 0x6011C, n1 := 4, s1 := 0x40, lo := 28, width := 1, acc := .ro }
/-- R170. -/
def ENC_STAT_MISPLACED_RUN : Field := { base := 0x6011C, n1 := 4, s1 := 0x40, lo := 26, width := 2, acc := .ro }
/-- R170. -/
def ENC_IDX_LAST : Field := { base := 0x60124, n1 := 4, s1 := 0x40, lo := 0, width := 32, acc := .ro }
/-- R170. -/
def ENC_CNT_ILLEGAL : Field := { base := 0x60128, n1 := 4, s1 := 0x40, lo := 16, width := 15, acc := .ro }
/-- R170. -/
def ENC_CNT_MISPLACED : Field := { base := 0x60128, n1 := 4, s1 := 0x40, lo := 0, width := 16, acc := .ro }
/-- R170. -/
def ENC_SPEED : Field := { base := 0x60130, n1 := 4, s1 := 0x40, lo := 0, width := 32, acc := .ro }
/-- R182. -/
def POS_B_F : Field := { base := 0x60300, n1 := 8, s1 := 0x20, lo := 0, width := 16, acc := .rw, role := some .installer, clamp := .range 0 32768 }
/-- R199. -/
def PCMP_CFG_SRC : Field := { base := 0x60400, n1 := 32, s1 := 0x20, lo := 28, width := 4, acc := .rw, reset := .const 4, clamp := .enc [(5, 4), (6, 4), (7, 4)], own := true }
/-- R199. -/
def PCMP_CFG_DIR : Field := { base := 0x60400, n1 := 32, s1 := 0x20, lo := 24, width := 2, acc := .rw, clamp := .enc [(3, 2)], own := true }
/-- R199. -/
def PCMP_CFG_LATE : Field := { base := 0x60400, n1 := 32, s1 := 0x20, lo := 20, width := 1, acc := .rw, own := true }
/-- R199. -/
def PCMP_CFG_TARGET : Field := { base := 0x60400, n1 := 32, s1 := 0x20, lo := 4, width := 4, acc := .rw, own := true }
/-- R199. -/
def PCMP_CFG_CAM : Field := { base := 0x60400, n1 := 32, s1 := 0x20, lo := 2, width := 1, acc := .rw, own := true }
/-- R199. -/
def PCMP_CFG_LAMP : Field := { base := 0x60400, n1 := 32, s1 := 0x20, lo := 1, width := 1, acc := .rw, own := true }
/-- R199. -/
def PCMP_CFG_IRQ : Field := { base := 0x60400, n1 := 32, s1 := 0x20, lo := 0, width := 1, acc := .rw, own := true }
/-- R199. -/
def PCMP_VAL : Field := { base := 0x60404, n1 := 32, s1 := 0x20, lo := 0, width := 64, acc := .rw }
/-- R199. -/
def PCMP_PERIOD : Field := { base := 0x6040C, n1 := 32, s1 := 0x20, lo := 0, width := 32, acc := .rw }
/-- R199. -/
def PCMP_TIME : Field := { base := 0x60410, n1 := 32, s1 := 0x20, lo := 0, width := 64, acc := .ro }
/-- R199. -/
def PCMP_STAT_ARMED : Field := { base := 0x60418, n1 := 32, s1 := 0x20, lo := 31, width := 1, acc := .ro }
/-- R199. -/
def PCMP_STAT_MISSED : Field := { base := 0x60418, n1 := 32, s1 := 0x20, lo := 30, width := 1, acc := .w1c }
/-- R199. -/
def PCMP_STAT_HITS : Field := { base := 0x60418, n1 := 32, s1 := 0x20, lo := 0, width := 16, acc := .ro }
/-- R202. -/
def EMU_CFG_ENABLE : Field := { base := 0x60800, n1 := 2, s1 := 0x20, lo := 31, width := 1, acc := .rw }
/-- R202. -/
def EMU_CFG_SRC : Field := { base := 0x60800, n1 := 2, s1 := 0x20, lo := 24, width := 4, acc := .rw, clamp := .enc [(1, 0), (2, 0), (3, 0), (4, 0), (5, 0), (6, 0), (7, 0)] }
/-- R202. -/
def EMU_RATIO : Field := { base := 0x60804, n1 := 2, s1 := 0x20, lo := 0, width := 32, acc := .rw, reset := .const 16777216, clamp := .range 1 4294967295 }
/-- R202. -/
def EMU_ZPER : Field := { base := 0x60808, n1 := 2, s1 := 0x20, lo := 0, width := 32, acc := .rw }
/-- R202. -/
def EMU_STAT_LOST : Field := { base := 0x6080C, n1 := 2, s1 := 0x20, lo := 16, width := 16, acc := .ro }
/-- R202. -/
def PASS_CFG_SRC : Field := { base := 0x60840, n1 := 2, s1 := 0x4, lo := 0, width := 4, acc := .rw, reset := .const 15, clamp := .enc [(5, 15), (6, 15), (7, 15), (8, 15), (9, 15), (10, 15), (11, 15), (12, 15), (13, 15), (14, 15)] }

/-- R234. -/
def FIRE_CTRL_AUTO_RESUME : Field := { base := 0x50008, lo := 1, width := 1, acc := .rw, reset := .const 1 }
/-- R234. -/
def FIRE_CTRL_ENABLE : Field := { base := 0x50008, lo := 0, width := 1, acc := .rw, role := some .installer }
/-- R234. -/
def FIRE_IRQ_STAT : Field := { base := 0x50010, lo := 0, width := 7, acc := .w1c }
/-- R234. -/
def FIRE_IRQ_EN : Field := { base := 0x50014, lo := 0, width := 7, acc := .rw }
/-- R234. -/
def FIRE_COMMIT_NS : Field := { base := 0x50044, lo := 0, width := 18, acc := .rw, role := some .installer, reset := .const 20000, clamp := .range 5000 200000 }
/-- R234. -/
def FIRE_RATE_CFG_WARN_PCT : Field := { base := 0x50048, lo := 24, width := 8, acc := .rw, role := some .installer, reset := .const 95, clamp := .range 50 100 }
/-- R234. -/
def FIRE_RATE_CFG_DEFER_NS : Field := { base := 0x50048, lo := 0, width := 13, acc := .rw, role := some .installer, reset := .const 1000, clamp := .range 0 5000 }
/-- R234. -/
def FIRE_STOP_CFG_MIN_SPEED : Field := { base := 0x5004C, lo := 16, width := 16, acc := .rw, role := some .installer, reset := .const 50, clamp := .range 1 10000 }
/-- R234. -/
def FIRE_STOP_CFG_STOP_TMO_MS : Field := { base := 0x5004C, lo := 0, width := 16, acc := .rw, role := some .installer, reset := .const 10000, clamp := .range 100 60000 }
/-- R234. -/
def FIRE_BACKSTEP_DIST : Field := { base := 0x50050, lo := 0, width := 24, acc := .rw, role := some .installer, reset := .const 1000000, clamp := .range 0 16000000 }
/-- R218. -/
def FIRE_WS_CMD_DONE : Field := { base := 0x50058, lo := 31, width := 1, acc := .ro }
/-- R218. -/
def FIRE_WS_CMD_CODE : Field := { base := 0x50058, lo := 16, width := 2, acc := .ro }
/-- R218. -/
def FIRE_WS_CMD_SET : Field := { base := 0x50058, lo := 8, width := 4, acc := .rw, role := some .installer }
/-- R235. -/
def FIRE_B_CNT_DROPPED : Field := { base := 0x51058, n1 := 8, s1 := 0x1000, lo := 16, width := 15, acc := .ro }
/-- R235. -/
def FIRE_B_CNT_DEFERRED : Field := { base := 0x51058, n1 := 8, s1 := 0x1000, lo := 0, width := 16, acc := .ro }
/-- R235. -/
def FIRE_B_CNT2_RESUME_SLOW : Field := { base := 0x5105C, n1 := 8, s1 := 0x1000, lo := 16, width := 15, acc := .ro }
/-- R235. -/
def FIRE_B_CNT2_SUPPRESSED : Field := { base := 0x5105C, n1 := 8, s1 := 0x1000, lo := 0, width := 16, acc := .ro }
/-- R235. -/
def FIRE_B_LAST : Field := { base := 0x51048, n1 := 8, s1 := 0x1000, lo := 0, width := 48, acc := .ro }
/-- R235. -/
def FIRE_B_FIRED : Field := { base := 0x51050, n1 := 8, s1 := 0x1000, lo := 0, width := 48, acc := .ro }
/-- R235. -/
def FIRE_B_IDLE_TICKLE_EN : Field := { base := 0x51060, n1 := 8, s1 := 0x1000, lo := 8, width := 1, acc := .rw, role := some .installer, reset := .const 1 }
/-- R235. -/
def FIRE_B_IDLE_WS : Field := { base := 0x51060, n1 := 8, s1 := 0x1000, lo := 0, width := 4, acc := .rw, role := some .installer }
/-- R205. -/
def FIRE_B_S_GEOM_GAP : Field := { base := 0x51100, n1 := 8, s1 := 0x1000, n2 := 24, s2 := 0x10, lo := 0, width := 14, acc := .rw, role := some .installer, reset := .const 1000, clamp := .range 0 10000 }
/-- R205. -/
def FIRE_B_S_TRIM_VTRIM : Field := { base := 0x51104, n1 := 8, s1 := 0x1000, n2 := 24, s2 := 0x10, lo := 16, width := 16, acc := .rw, role := some .installer, reset := .const 32768, clamp := .range 16384 65535 }
/-- R205. -/
def FIRE_B_S_TRIM_ROW_OFS : Field := { base := 0x51104, n1 := 8, s1 := 0x1000, n2 := 24, s2 := 0x10, lo := 0, width := 16, acc := .rw, role := some .installer }
/-- R205. -/
def FIRE_B_S_TEMP : Field := { base := 0x51108, n1 := 8, s1 := 0x1000, n2 := 24, s2 := 0x10, lo := 16, width := 16, acc := .ro }
/-- R205. -/
def FIRE_B_S_GAIN : Field := { base := 0x51108, n1 := 8, s1 := 0x1000, n2 := 24, s2 := 0x10, lo := 0, width := 16, acc := .ro, reset := .const 16384 }
/-- R205. -/
def FIRE_B_S_FLIGHT : Field := { base := 0x5110C, n1 := 8, s1 := 0x1000, n2 := 24, s2 := 0x10, lo := 0, width := 32, acc := .ro }

/-- R265. -/
def HLK_CTRL_REQUIRE_AUTH : Field := { base := 0x1000008, n1 := 192, s1 := 0x1000, lo := 4, width := 1, acc := .rw, role := some .maker, reset := .const 1 }
/-- R265. -/
def HLK_CTRL_IDLE_EN : Field := { base := 0x1000008, n1 := 192, s1 := 0x1000, lo := 1, width := 1, acc := .rw, reset := .const 1 }
/-- R265. -/
def HLK_CTRL_ENABLE : Field := { base := 0x1000008, n1 := 192, s1 := 0x1000, lo := 0, width := 1, acc := .rw, own := true }
/-- R265. -/
def HLK_IRQ_STAT : Field := { base := 0x1000010, n1 := 192, s1 := 0x1000, lo := 0, width := 6, acc := .w1c }
/-- R265. -/
def HLK_IRQ_EN : Field := { base := 0x1000014, n1 := 192, s1 := 0x1000, lo := 0, width := 6, acc := .rw }
/-- R265. -/
def HLK_GROUP_RATE : Field := { base := 0x1000040, n1 := 192, s1 := 0x1000, lo := 0, width := 2, acc := .rw, role := some .installer, reset := .const 2 }
/-- R265. -/
def HLK_TXEQ_SWING : Field := { base := 0x1000044, n1 := 192, s1 := 0x1000, lo := 16, width := 4, acc := .rw, role := some .installer, reset := .const 8, clamp := .range 0 12 }
/-- R265. -/
def HLK_TXEQ_POST : Field := { base := 0x1000044, n1 := 192, s1 := 0x1000, lo := 8, width := 5, acc := .rw, role := some .installer, reset := .const 8 }
/-- R265. -/
def HLK_TXEQ_PRE : Field := { base := 0x1000044, n1 := 192, s1 := 0x1000, lo := 0, width := 4, acc := .rw, role := some .installer, reset := .const 2 }
/-- R265. -/
def HLK_LINK : Field := { base := 0x1000048, n1 := 192, s1 := 0x1000, lo := 0, width := 32, acc := .ro }
/-- R265. -/
def HLK_LINK_TRIM : Field := { base := 0x100004C, n1 := 192, s1 := 0x1000, lo := 0, width := 16, acc := .rw, role := some .installer }
/-- R265. -/
def HLK_CAL_PERIOD_MS : Field := { base := 0x1000050, n1 := 192, s1 := 0x1000, lo := 16, width := 16, acc := .rw, reset := .const 1000 }
/-- R265. -/
def HLK_CAL_SAMPLES : Field := { base := 0x1000050, n1 := 192, s1 := 0x1000, lo := 0, width := 8, acc := .rw, reset := .const 64, clamp := .range 4 255 }
/-- R265. -/
def HLK_RETRY_ACK_TMO_NS : Field := { base := 0x1000054, n1 := 192, s1 := 0x1000, lo := 16, width := 16, acc := .rw, reset := .const 3000, clamp := .range 500 20000 }
/-- R265. -/
def HLK_RETRY_MAX : Field := { base := 0x1000054, n1 := 192, s1 := 0x1000, lo := 0, width := 3, acc := .rw, reset := .const 2 }
/-- R265. -/
def HLK_ERR_CRC : Field := { base := 0x1000058, n1 := 192, s1 := 0x1000, lo := 16, width := 15, acc := .ro }
/-- R265. -/
def HLK_ERR_RETRANS : Field := { base := 0x1000058, n1 := 192, s1 := 0x1000, lo := 0, width := 16, acc := .ro }
/-- R265. -/
def HLK_ERR2_RESYNC : Field := { base := 0x100005C, n1 := 192, s1 := 0x1000, lo := 16, width := 16, acc := .ro }
/-- R265. -/
def HLK_ERR2_ABANDON : Field := { base := 0x100005C, n1 := 192, s1 := 0x1000, lo := 0, width := 16, acc := .ro }
/-- R265. -/
def HLK_ERR_LIMIT : Field := { base := 0x1000060, n1 := 192, s1 := 0x1000, lo := 0, width := 16, acc := .rw, reset := .const 100 }
/-- R265. -/
def HLK_ALERT_COUNT : Field := { base := 0x1000064, n1 := 192, s1 := 0x1000, lo := 8, width := 8, acc := .ro }
/-- R265. -/
def HLK_ALERT_CODE : Field := { base := 0x1000064, n1 := 192, s1 := 0x1000, lo := 0, width := 8, acc := .ro }
/-- R265. -/
def HLK_ID : Field := { base := 0x1000070, n1 := 192, s1 := 0x1000, n2 := 4, s2 := 0x4, lo := 0, width := 32, acc := .ro }
/-- R265. -/
def HLK_USE : Field := { base := 0x1000080, n1 := 192, s1 := 0x1000, n2 := 4, s2 := 0x4, lo := 0, width := 32, acc := .ro }
/-- R265. -/
def HLK_CONF : Field := { base := 0x1000090, n1 := 192, s1 := 0x1000, lo := 0, width := 48, acc := .ro }
/-- R265. -/
def HLK_MEM_ADDR_COUNT : Field := { base := 0x10000A0, n1 := 192, s1 := 0x1000, lo := 16, width := 4, acc := .rw, clamp := .range 0 8 }
/-- R265. -/
def HLK_MEM_ADDR_ADDR : Field := { base := 0x10000A0, n1 := 192, s1 := 0x1000, lo := 0, width := 16, acc := .rw }
/-- R265. -/
def HLK_MEM_CMD_DONE : Field := { base := 0x10000A4, n1 := 192, s1 := 0x1000, lo := 31, width := 1, acc := .ro }
/-- R265. -/
def HLK_MEM_CMD_STATUS : Field := { base := 0x10000A4, n1 := 192, s1 := 0x1000, lo := 28, width := 3, acc := .ro }
/-- R265. -/
def HLK_MEM_DATA : Field := { base := 0x10000C0, n1 := 192, s1 := 0x1000, n2 := 8, s2 := 0x4, lo := 0, width := 32, acc := .rw }
/-- R265. -/
def HLK_KEY : Field := { base := 0x10000E0, n1 := 192, s1 := 0x1000, n2 := 8, s2 := 0x4, lo := 0, width := 32, acc := .wo, role := some .maker }

/-- R272. -/
def DDR_CTRL_ENABLE : Field := { base := 0x70008, lo := 0, width := 1, acc := .rw, own := true }
/-- R292. -/
def DDR_STAT_STATE : Field := { base := 0x7000C, lo := 29, width := 3, acc := .ro }
/-- R292. -/
def DDR_STAT_FENCED : Field := { base := 0x7000C, lo := 20, width := 4, acc := .ro }
/-- R292. -/
def DDR_STAT_CAP_MIB : Field := { base := 0x7000C, lo := 0, width := 18, acc := .ro }
/-- R269. -/
def DDR_MAP_CH_MASK : Field := { base := 0x70040, lo := 4, width := 4, acc := .rw, reset := .const 15, clamp := .enc [(7, 3), (11, 3), (13, 5), (14, 6)] }
/-- R269. -/
def DDR_MAP_GRAIN : Field := { base := 0x70040, lo := 0, width := 4, acc := .rw, reset := .const 4, clamp := .range 0 8 }
/-- R288. -/
def DDR_RATE_DONE : Field := { base := 0x70044, lo := 30, width := 1, acc := .ro }
/-- R288. -/
def DDR_RATE_CODE : Field := { base := 0x70044, lo := 28, width := 2, acc := .ro }
/-- R288. -/
def DDR_RATE_RATE : Field := { base := 0x70044, lo := 0, width := 3, acc := .rw, role := some .installer, reset := .const 4, clamp := .range 0 4 }
/-- R278. -/
def DDR_SCHED_WR_HI : Field := { base := 0x70048, lo := 8, width := 8, acc := .rw, reset := .const 48, clamp := .range 8 192 }
/-- R278. -/
def DDR_SCHED_WR_LO : Field := { base := 0x70048, lo := 0, width := 8, acc := .rw, reset := .const 16 }
/-- R282. -/
def DDR_REF_HOT_C : Field := { base := 0x7004C, lo := 24, width := 8, acc := .rw, reset := .const 95, clamp := .range 60 105 }
/-- R282. -/
def DDR_REF_POSTPONE : Field := { base := 0x7004C, lo := 16, width := 4, acc := .rw, reset := .const 4, clamp := .range 0 4 }
/-- R282. -/
def DDR_REF_TEMP_2X : Field := { base := 0x7004C, lo := 8, width := 8, acc := .rw, reset := .const 85, clamp := .range 60 85 }
/-- R282. -/
def DDR_REF_HYST : Field := { base := 0x7004C, lo := 0, width := 4, acc := .rw, reset := .const 2, clamp := .range 1 8 }
/-- R287. -/
def DDR_TRAIN_PERIOD_MS : Field := { base := 0x70050, lo := 16, width := 16, acc := .rw, reset := .const 100 }
/-- R287. -/
def DDR_TRAIN_MARGIN_MIN : Field := { base := 0x70050, lo := 8, width := 8, acc := .rw, reset := .const 15 }
/-- R283. -/
def DDR_SB_PERIOD_MS : Field := { base := 0x70054, lo := 16, width := 10, acc := .rw, reset := .const 8, clamp := .range 1 1000 }
/-- R283. -/
def DDR_SB_SPEED : Field := { base := 0x70054, lo := 0, width := 2, acc := .rw, reset := .const 2, clamp := .range 0 2 }
/-- R293. -/
def DDR_C_STAT_STATE : Field := { base := 0x7100C, n1 := 4, s1 := 0x1000, lo := 29, width := 3, acc := .ro }
/-- R293. -/
def DDR_C_STAT_REF_2X : Field := { base := 0x7100C, n1 := 4, s1 := 0x1000, lo := 28, width := 1, acc := .ro }
/-- R293. -/
def DDR_C_CFG_SOLDERED : Field := { base := 0x71040, n1 := 4, s1 := 0x1000, lo := 0, width := 1, acc := .rw, role := some .installer }
/-- R293. -/
def DDR_C_GEOM_WIDTH : Field := { base := 0x71044, n1 := 4, s1 := 0x1000, lo := 30, width := 2, acc := .ro }
/-- R293. -/
def DDR_C_GEOM_DENSITY : Field := { base := 0x71044, n1 := 4, s1 := 0x1000, lo := 29, width := 1, acc := .ro }
/-- R293. -/
def DDR_C_GEOM_RANKS : Field := { base := 0x71044, n1 := 4, s1 := 0x1000, lo := 28, width := 1, acc := .ro }
/-- R293. -/
def DDR_C_GEOM_TRUNC : Field := { base := 0x71044, n1 := 4, s1 := 0x1000, lo := 16, width := 1, acc := .ro }
/-- R293. -/
def DDR_C_GEOM_CAP_MIB : Field := { base := 0x71044, n1 := 4, s1 := 0x1000, lo := 0, width := 16, acc := .ro }
/-- R293. -/
def DDR_C_TEMP_TS1 : Field := { base := 0x71048, n1 := 4, s1 := 0x1000, lo := 24, width := 8, acc := .ro }
/-- R293. -/
def DDR_C_TEMP_TS0 : Field := { base := 0x71048, n1 := 4, s1 := 0x1000, lo := 16, width := 8, acc := .ro }
/-- R293. -/
def DDR_C_TEMP_HUB : Field := { base := 0x71048, n1 := 4, s1 := 0x1000, lo := 8, width := 8, acc := .ro }
/-- R293. -/
def DDR_C_TEMP_USED : Field := { base := 0x71048, n1 := 4, s1 := 0x1000, lo := 0, width := 8, acc := .ro }
/-- R293. -/
def DDR_C_TRAIN_STAT_RD : Field := { base := 0x7104C, n1 := 4, s1 := 0x1000, lo := 24, width := 8, acc := .ro }
/-- R293. -/
def DDR_C_TRAIN_STAT_WR : Field := { base := 0x7104C, n1 := 4, s1 := 0x1000, lo := 16, width := 8, acc := .ro }
/-- R293. -/
def DDR_C_TRAIN_STAT_DRIFT : Field := { base := 0x7104C, n1 := 4, s1 := 0x1000, lo := 8, width := 8, acc := .ro }
/-- R293. -/
def DDR_C_CNT_RETRAINS : Field := { base := 0x71050, n1 := 4, s1 := 0x1000, lo := 16, width := 15, acc := .ro }
/-- R293. -/
def DDR_C_CNT_CONVERTED : Field := { base := 0x71050, n1 := 4, s1 := 0x1000, lo := 0, width := 16, acc := .ro }
/-- R293. -/
def DDR_C_CNT2_ALERTS : Field := { base := 0x71054, n1 := 4, s1 := 0x1000, lo := 16, width := 16, acc := .ro }
/-- R293. -/
def DDR_C_CNT2_FENCED_RD : Field := { base := 0x71054, n1 := 4, s1 := 0x1000, lo := 0, width := 16, acc := .ro }
/-- R293. -/
def DDR_C_SPD : Field := { base := 0x71400, n1 := 4, s1 := 0x1000, n2 := 256, s2 := 0x4, lo := 0, width := 32, acc := .rw, role := some .installer }

/-- R314. -/
def ECC_STAT_SRAM_DONE : Field := { base := 0x8000C, lo := 31, width := 1, acc := .ro }
/-- R314. -/
def ECC_STAT_DRAM_DONE : Field := { base := 0x8000C, lo := 30, width := 1, acc := .ro }
/-- R314. -/
def ECC_STAT_SCRUB_BUSY : Field := { base := 0x8000C, lo := 29, width := 1, acc := .ro }
/-- R314. -/
def ECC_STAT_FILLING : Field := { base := 0x8000C, lo := 0, width := 4, acc := .ro }
/-- R314. -/
def ECC_IRQ_STAT : Field := { base := 0x80010, lo := 0, width := 4, acc := .w1c }
/-- R314. -/
def ECC_IRQ_EN : Field := { base := 0x80014, lo := 0, width := 4, acc := .rw }
/-- R314. -/
def ECC_LEDGER_CFG_AGE_S : Field := { base := 0x80040, lo := 0, width := 16, acc := .rw, role := some .installer, reset := .const 3600, clamp := .range 60 65535 }
/-- R314. -/
def ECC_SPARE_SIZE_MIB : Field := { base := 0x80044, lo := 24, width := 8, acc := .ro }
/-- R314. -/
def ECC_SPARE_BASE_MIB : Field := { base := 0x80044, lo := 0, width := 18, acc := .ro }
/-- R314. -/
def ECC_SCRUB_BASE : Field := { base := 0x80048, lo := 0, width := 64, acc := .rw }
/-- R314. -/
def ECC_SCRUB_LEN : Field := { base := 0x80050, lo := 0, width := 64, acc := .rw }
/-- R314. -/
def ECC_SCRUB_CTRL_BW_PCT : Field := { base := 0x80058, lo := 0, width := 6, acc := .rw, reset := .const 10, clamp := .range 1 50 }
/-- R314. -/
def ECC_SCRUB_SUM_WORDS : Field := { base := 0x80060, lo := 0, width := 40, acc := .ro }
/-- R314. -/
def ECC_SCRUB_SUM_CE : Field := { base := 0x80068, lo := 0, width := 32, acc := .ro }
/-- R314. -/
def ECC_SCRUB_SUM_UE : Field := { base := 0x8006C, lo := 0, width := 32, acc := .ro }
/-- R314. -/
def ECC_SCRUB_SUM_POISON : Field := { base := 0x80070, lo := 0, width := 32, acc := .ro }
/-- R314. -/
def ECC_SCRUB_SUM_FIRST_BAD : Field := { base := 0x80074, lo := 0, width := 64, acc := .ro }
/-- R314. -/
def ECC_SCRUB_SUM_VALID : Field := { base := 0x8007C, lo := 31, width := 1, acc := .ro }
/-- R314. -/
def ECC_SCRUB_SUM_ABORTED : Field := { base := 0x8007C, lo := 30, width := 1, acc := .ro }
/-- R314. -/
def ECC_SCRUB_SUM_FIRST_VALID : Field := { base := 0x8007C, lo := 29, width := 1, acc := .ro }
/-- R314. -/
def ECC_FLIP_DATA : Field := { base := 0x80080, lo := 0, width := 32, acc := .rw, role := some .installer }
/-- R314. -/
def ECC_FLIP_CTRL_ARMED : Field := { base := 0x80084, lo := 30, width := 1, acc := .ro }
/-- R314. -/
def ECC_FLIP_CTRL_CHK : Field := { base := 0x80084, lo := 8, width := 8, acc := .rw, role := some .installer }
/-- R314. -/
def ECC_FLIP_CTRL_TARGET : Field := { base := 0x80084, lo := 0, width := 5, acc := .rw, role := some .installer }
/-- R314. -/
def ECC_LAST_ADDR : Field := { base := 0x80090, lo := 0, width := 64, acc := .ro }
/-- R314. -/
def ECC_LAST_TYPE : Field := { base := 0x80098, lo := 28, width := 4, acc := .ro }
/-- R314. -/
def ECC_LAST_SYND : Field := { base := 0x80098, lo := 16, width := 8, acc := .ro }
/-- R314. -/
def ECC_LAST_WHERE : Field := { base := 0x80098, lo := 0, width := 8, acc := .ro }
/-- R314. -/
def ECC_LAST_TIME : Field := { base := 0x800A0, lo := 0, width := 64, acc := .ro }
/-- R314. -/
def ECC_SRAM_CNT_CE : Field := { base := 0x800C0, lo := 16, width := 15, acc := .ro }
/-- R314. -/
def ECC_SRAM_CNT_UE : Field := { base := 0x800C0, lo := 0, width := 16, acc := .ro }
/-- R315. -/
def ECC_C_CE : Field := { base := 0x80100, n1 := 4, s1 := 0x20, lo := 0, width := 32, acc := .ro }
/-- R315. -/
def ECC_C_UE_UE : Field := { base := 0x80104, n1 := 4, s1 := 0x20, lo := 16, width := 16, acc := .ro }
/-- R315. -/
def ECC_C_UE_POISON_RD : Field := { base := 0x80104, n1 := 4, s1 := 0x20, lo := 0, width := 16, acc := .ro }
/-- R315. -/
def ECC_C_CNT_EVICT : Field := { base := 0x8010C, n1 := 4, s1 := 0x20, lo := 0, width := 16, acc := .ro }

end F

/-- The stored fields of page POS. -/
def fieldsPos : List Field :=
  [F.POS_CTRL_ENABLE, F.POS_IRQ_STAT, F.POS_IRQ_EN, F.POS_LOOP_KP, F.POS_LOOP_KI, F.POS_SPEED_CFG_GATE_MS, F.POS_SPEED_CFG_XOVER, F.POS_REV_ALLOW, F.POS_LEAD_US, F.POS_REDUN_CFG_MODE, F.POS_REDUN_CFG_WINDOW_MS, F.POS_REDUN_CFG_TOL_PPM, F.POS_REDUN_CFG2_ARB_PPM, F.POS_REDUN_CFG2_MIN_DOTS, F.POS_REDUN_CFG3_REVERT_MS, F.POS_REDUN_CFG3_AUTO_REVERT, F.POS_REDUN_CFG3_SW_GAP_US, F.POS_STRAIN_CFG_ENABLE, F.POS_STRAIN_CFG_TAU_MS, F.POS_STRAIN_CFG_MAX_PERMIL] ++
  [F.POS_STRAIN_CFG_SLEW, F.POS_EVT_CNT_SWITCHES, F.POS_EVT_CNT_REVERSES, F.POS_AB_STEP, F.ENC_CFG_INVERT, F.ENC_CFG_FILT, F.ENC_RATIO, F.ENC_IDX_WIN, F.ENC_IDX_PERIOD, F.ENC_ILL_WINDOW_MS, F.ENC_ILL_LIMIT, F.ENC_STAT_LOS, F.ENC_STAT_SUSPECT, F.ENC_STAT_OUTVOTED, F.ENC_STAT_SHIFTED, F.ENC_STAT_MISPLACED_RUN, F.ENC_IDX_LAST, F.ENC_CNT_ILLEGAL, F.ENC_CNT_MISPLACED, F.ENC_SPEED] ++
  [F.POS_B_F, F.PCMP_CFG_SRC, F.PCMP_CFG_DIR, F.PCMP_CFG_LATE, F.PCMP_CFG_TARGET, F.PCMP_CFG_CAM, F.PCMP_CFG_LAMP, F.PCMP_CFG_IRQ, F.PCMP_VAL, F.PCMP_PERIOD, F.PCMP_TIME, F.PCMP_STAT_ARMED, F.PCMP_STAT_MISSED, F.PCMP_STAT_HITS, F.EMU_CFG_ENABLE, F.EMU_CFG_SRC, F.EMU_RATIO, F.EMU_ZPER, F.EMU_STAT_LOST, F.PASS_CFG_SRC]

/-- The stored fields of page FIRE. -/
def fieldsFire : List Field :=
  [F.FIRE_CTRL_AUTO_RESUME, F.FIRE_CTRL_ENABLE, F.FIRE_IRQ_STAT, F.FIRE_IRQ_EN, F.FIRE_COMMIT_NS, F.FIRE_RATE_CFG_WARN_PCT, F.FIRE_RATE_CFG_DEFER_NS, F.FIRE_STOP_CFG_MIN_SPEED, F.FIRE_STOP_CFG_STOP_TMO_MS, F.FIRE_BACKSTEP_DIST, F.FIRE_WS_CMD_DONE, F.FIRE_WS_CMD_CODE, F.FIRE_WS_CMD_SET, F.FIRE_B_CNT_DROPPED, F.FIRE_B_CNT_DEFERRED, F.FIRE_B_CNT2_RESUME_SLOW, F.FIRE_B_CNT2_SUPPRESSED, F.FIRE_B_LAST, F.FIRE_B_FIRED, F.FIRE_B_IDLE_TICKLE_EN] ++
  [F.FIRE_B_IDLE_WS, F.FIRE_B_S_GEOM_GAP, F.FIRE_B_S_TRIM_VTRIM, F.FIRE_B_S_TRIM_ROW_OFS, F.FIRE_B_S_TEMP, F.FIRE_B_S_GAIN, F.FIRE_B_S_FLIGHT]

/-- The stored fields of page HLK. -/
def fieldsHlk : List Field :=
  [F.HLK_CTRL_REQUIRE_AUTH, F.HLK_CTRL_IDLE_EN, F.HLK_CTRL_ENABLE, F.HLK_IRQ_STAT, F.HLK_IRQ_EN, F.HLK_GROUP_RATE, F.HLK_TXEQ_SWING, F.HLK_TXEQ_POST, F.HLK_TXEQ_PRE, F.HLK_LINK, F.HLK_LINK_TRIM, F.HLK_CAL_PERIOD_MS, F.HLK_CAL_SAMPLES, F.HLK_RETRY_ACK_TMO_NS, F.HLK_RETRY_MAX, F.HLK_ERR_CRC, F.HLK_ERR_RETRANS, F.HLK_ERR2_RESYNC, F.HLK_ERR2_ABANDON, F.HLK_ERR_LIMIT] ++
  [F.HLK_ALERT_COUNT, F.HLK_ALERT_CODE, F.HLK_ID, F.HLK_USE, F.HLK_CONF, F.HLK_MEM_ADDR_COUNT, F.HLK_MEM_ADDR_ADDR, F.HLK_MEM_CMD_DONE, F.HLK_MEM_CMD_STATUS, F.HLK_MEM_DATA, F.HLK_KEY]

/-- The stored fields of page DDR. -/
def fieldsDdr : List Field :=
  [F.DDR_CTRL_ENABLE, F.DDR_STAT_STATE, F.DDR_STAT_FENCED, F.DDR_STAT_CAP_MIB, F.DDR_MAP_CH_MASK, F.DDR_MAP_GRAIN, F.DDR_RATE_DONE, F.DDR_RATE_CODE, F.DDR_RATE_RATE, F.DDR_SCHED_WR_HI, F.DDR_SCHED_WR_LO, F.DDR_REF_HOT_C, F.DDR_REF_POSTPONE, F.DDR_REF_TEMP_2X, F.DDR_REF_HYST, F.DDR_TRAIN_PERIOD_MS, F.DDR_TRAIN_MARGIN_MIN, F.DDR_SB_PERIOD_MS, F.DDR_SB_SPEED, F.DDR_C_STAT_STATE] ++
  [F.DDR_C_STAT_REF_2X, F.DDR_C_CFG_SOLDERED, F.DDR_C_GEOM_WIDTH, F.DDR_C_GEOM_DENSITY, F.DDR_C_GEOM_RANKS, F.DDR_C_GEOM_TRUNC, F.DDR_C_GEOM_CAP_MIB, F.DDR_C_TEMP_TS1, F.DDR_C_TEMP_TS0, F.DDR_C_TEMP_HUB, F.DDR_C_TEMP_USED, F.DDR_C_TRAIN_STAT_RD, F.DDR_C_TRAIN_STAT_WR, F.DDR_C_TRAIN_STAT_DRIFT, F.DDR_C_CNT_RETRAINS, F.DDR_C_CNT_CONVERTED, F.DDR_C_CNT2_ALERTS, F.DDR_C_CNT2_FENCED_RD, F.DDR_C_SPD]

/-- The stored fields of page ECC. -/
def fieldsEcc : List Field :=
  [F.ECC_STAT_SRAM_DONE, F.ECC_STAT_DRAM_DONE, F.ECC_STAT_SCRUB_BUSY, F.ECC_STAT_FILLING, F.ECC_IRQ_STAT, F.ECC_IRQ_EN, F.ECC_LEDGER_CFG_AGE_S, F.ECC_SPARE_SIZE_MIB, F.ECC_SPARE_BASE_MIB, F.ECC_SCRUB_BASE, F.ECC_SCRUB_LEN, F.ECC_SCRUB_CTRL_BW_PCT, F.ECC_SCRUB_SUM_WORDS, F.ECC_SCRUB_SUM_CE, F.ECC_SCRUB_SUM_UE, F.ECC_SCRUB_SUM_POISON, F.ECC_SCRUB_SUM_FIRST_BAD, F.ECC_SCRUB_SUM_VALID, F.ECC_SCRUB_SUM_ABORTED, F.ECC_SCRUB_SUM_FIRST_VALID] ++
  [F.ECC_FLIP_DATA, F.ECC_FLIP_CTRL_ARMED, F.ECC_FLIP_CTRL_CHK, F.ECC_FLIP_CTRL_TARGET, F.ECC_LAST_ADDR, F.ECC_LAST_TYPE, F.ECC_LAST_SYND, F.ECC_LAST_WHERE, F.ECC_LAST_TIME, F.ECC_SRAM_CNT_CE, F.ECC_SRAM_CNT_UE, F.ECC_C_CE, F.ECC_C_UE_UE, F.ECC_C_UE_POISON_RD, F.ECC_C_CNT_EVICT]

end Sys2Proof.Machine
end

