-- ==== Sys2Proof/Machine/Fields3.lean ====
section
/-! DEFINITION. The register fields of the pages CAM, ISP, VIN, LMP, TB, ETH, written from the register tables of the spec (each docstring names the rule), and the list of each page. -/

namespace Sys2Proof.Machine

namespace F

/-- R32. -/
def CAM_CTRL_ENABLE : Field := { base := 0x90008, lo := 0, width := 1, acc := .rw }
/-- R319. -/
def CAM_IRQ_STAT : Field := { base := 0x90010, lo := 0, width := 16, acc := .w1c }
/-- R319. -/
def CAM_IRQ_EN : Field := { base := 0x90014, lo := 0, width := 16, acc := .rw }
/-- R319. -/
def CAM_VEC : Field := { base := 0x90040, lo := 0, width := 6, acc := .rw }
/-- R319. -/
def CAM_P_LINK_ENABLE : Field := { base := 0x90100, n1 := 4, s1 := 0x100, lo := 31, width := 1, acc := .rw, own := true }
/-- R319. -/
def CAM_P_LINK_SPEED : Field := { base := 0x90100, n1 := 4, s1 := 0x100, lo := 24, width := 4, acc := .rw, reset := .const 12, clamp := .enc [(0, 1), (4, 3), (7, 6), (8, 6), (9, 6), (11, 10), (13, 12), (14, 12), (15, 12)] }
/-- R319. -/
def CAM_P_LINK_CONNS : Field := { base := 0x90100, n1 := 4, s1 := 0x100, lo := 20, width := 2, acc := .rw }
/-- R319. -/
def CAM_P_LINK_FORMAT : Field := { base := 0x90100, n1 := 4, s1 := 0x100, lo := 16, width := 4, acc := .rw, reset := .const 4, clamp := .enc [(3, 2), (7, 6), (8, 6), (9, 6), (10, 6), (11, 6), (12, 6), (13, 6), (14, 6), (15, 6)] }
/-- R319. -/
def CAM_P_LINK_WIDTH : Field := { base := 0x90100, n1 := 4, s1 := 0x100, lo := 0, width := 15, acc := .rw, reset := .const 8192, clamp := .range 16 16384 }
/-- R319. -/
def CAM_P_TRIG_FREE : Field := { base := 0x90104, n1 := 4, s1 := 0x100, lo := 31, width := 1, acc := .rw }
/-- R319. -/
def CAM_P_TRIG_EXPO : Field := { base := 0x90104, n1 := 4, s1 := 0x100, lo := 0, width := 24, acc := .rw, clamp := .range 0 16000000 }
/-- R319. -/
def CAM_P_FRAME_LINES : Field := { base := 0x90108, n1 := 4, s1 := 0x100, lo := 0, width := 17, acc := .rw, reset := .const 4096, clamp := .range 16 65536 }
/-- R319. -/
def CAM_P_LAMP_EN : Field := { base := 0x9010C, n1 := 4, s1 := 0x100, n2 := 4, s2 := 0x4, lo := 31, width := 1, acc := .rw }
/-- R319. -/
def CAM_P_LAMP_CH : Field := { base := 0x9010C, n1 := 4, s1 := 0x100, n2 := 4, s2 := 0x4, lo := 24, width := 4, acc := .rw }
/-- R319. -/
def CAM_P_LAMP_DUTY : Field := { base := 0x9010C, n1 := 4, s1 := 0x100, n2 := 4, s2 := 0x4, lo := 0, width := 16, acc := .rw }
/-- R319. -/
def CAM_P_COMMIT_PENDING : Field := { base := 0x9011C, n1 := 4, s1 := 0x100, lo := 30, width := 1, acc := .ro }
/-- R319. -/
def CAM_P_COMMIT_GEN : Field := { base := 0x9011C, n1 := 4, s1 := 0x100, lo := 0, width := 16, acc := .ro }
/-- R319. -/
def CAM_P_GEN : Field := { base := 0x90120, n1 := 4, s1 := 0x100, lo := 0, width := 16, acc := .ro }
/-- R319. -/
def CAM_P_STAT_STATE : Field := { base := 0x90124, n1 := 4, s1 := 0x100, lo := 28, width := 4, acc := .ro }
/-- R319. -/
def CAM_P_STAT_LOCK : Field := { base := 0x90124, n1 := 4, s1 := 0x100, lo := 24, width := 4, acc := .ro }
/-- R319. -/
def CAM_P_STAT_TAG : Field := { base := 0x90124, n1 := 4, s1 := 0x100, lo := 0, width := 16, acc := .ro }
/-- R319. -/
def CAM_P_FRAMENO : Field := { base := 0x90128, n1 := 4, s1 := 0x100, lo := 0, width := 32, acc := .ro }
/-- R319. -/
def CAM_P_CNT_TRIG_OVER : Field := { base := 0x9012C, n1 := 4, s1 := 0x100, lo := 16, width := 15, acc := .ro }
/-- R319. -/
def CAM_P_CNT_DROPPED : Field := { base := 0x9012C, n1 := 4, s1 := 0x100, lo := 0, width := 16, acc := .ro }
/-- R319. -/
def CAM_P_CNT2_FORMAT : Field := { base := 0x90130, n1 := 4, s1 := 0x100, lo := 24, width := 8, acc := .ro }
/-- R319. -/
def CAM_P_CNT2_SEQ : Field := { base := 0x90130, n1 := 4, s1 := 0x100, lo := 16, width := 8, acc := .ro }
/-- R319. -/
def CAM_P_CNT2_CRC : Field := { base := 0x90130, n1 := 4, s1 := 0x100, lo := 0, width := 16, acc := .ro }
/-- R319. -/
def CAM_P_CTL_BUSY : Field := { base := 0x90134, n1 := 4, s1 := 0x100, lo := 30, width := 1, acc := .ro }
/-- R319. -/
def CAM_P_CTL_RESULT : Field := { base := 0x90134, n1 := 4, s1 := 0x100, lo := 28, width := 2, acc := .ro }
/-- R319. -/
def CAM_P_CTL_TMO_MS : Field := { base := 0x90134, n1 := 4, s1 := 0x100, lo := 16, width := 8, acc := .rw, reset := .const 100, clamp := .range 1 255 }
/-- R319. -/
def CAM_P_CTL_TX_LEN : Field := { base := 0x90134, n1 := 4, s1 := 0x100, lo := 0, width := 9, acc := .rw, clamp := .range 0 256 }
/-- R319. -/
def CAM_P_CTL_RX_EVT_FULL : Field := { base := 0x90138, n1 := 4, s1 := 0x100, lo := 31, width := 1, acc := .w1c }
/-- R319. -/
def CAM_P_CTL_RX_RX_LEN : Field := { base := 0x90138, n1 := 4, s1 := 0x100, lo := 0, width := 9, acc := .ro }
/-- R319. -/
def CAM_P_HB : Field := { base := 0x90140, n1 := 4, s1 := 0x100, lo := 0, width := 64, acc := .ro }
/-- R319. -/
def CAM_P_EVT : Field := { base := 0x90600, n1 := 4, s1 := 0x80, n2 := 32, s2 := 0x4, lo := 0, width := 32, acc := .ro }
/-- R319. -/
def CAM_P_TX : Field := { base := 0x90800, n1 := 4, s1 := 0x200, n2 := 64, s2 := 0x4, lo := 0, width := 32, acc := .rw }
/-- R319. -/
def CAM_P_RX : Field := { base := 0x90900, n1 := 4, s1 := 0x200, n2 := 64, s2 := 0x4, lo := 0, width := 32, acc := .ro }

/-- R32. -/
def ISP_CTRL_ENABLE : Field := { base := 0xA0008, lo := 0, width := 1, acc := .rw }
/-- R337. -/
def ISP_IRQ_STAT : Field := { base := 0xA0010, lo := 0, width := 24, acc := .w1c }
/-- R337. -/
def ISP_IRQ_EN : Field := { base := 0xA0014, lo := 0, width := 24, acc := .rw }
/-- R319. -/
def ISP_VEC : Field := { base := 0xA0040, lo := 0, width := 6, acc := .rw }
/-- R337. -/
def ISP_COMMIT_LAT : Field := { base := 0xA0044, lo := 0, width := 13, acc := .rw, reset := .const 32, clamp := .range 1 4096 }
/-- R337. -/
def ISP_LOAD_MAX_PCT : Field := { base := 0xA0048, lo := 8, width := 8, acc := .ro }
/-- R337. -/
def ISP_LOAD_LAST_PCT : Field := { base := 0xA0048, lo := 0, width := 8, acc := .ro }
/-- R337. -/
def ISP_K_CFG_EN : Field := { base := 0xA0100, n1 := 8, s1 := 0x100, lo := 31, width := 1, acc := .rw }
/-- R337. -/
def ISP_K_CFG_PRIO : Field := { base := 0xA0100, n1 := 8, s1 := 0x100, lo := 28, width := 2, acc := .rw }
/-- R337. -/
def ISP_K_CFG_SRC : Field := { base := 0xA0100, n1 := 8, s1 := 0x100, lo := 24, width := 2, acc := .rw, reset := .first [0, 1, 2, 3, 0, 1, 2, 3] }
/-- R337. -/
def ISP_K_CFG_STRIPE : Field := { base := 0xA0100, n1 := 8, s1 := 0x100, lo := 20, width := 1, acc := .rw }
/-- R337. -/
def ISP_K_CFG_LAB : Field := { base := 0xA0100, n1 := 8, s1 := 0x100, lo := 16, width := 1, acc := .rw, reset := .const 1 }
/-- R337. -/
def ISP_K_CFG_VIN : Field := { base := 0xA0100, n1 := 8, s1 := 0x100, lo := 8, width := 1, acc := .rw }
/-- R337. -/
def ISP_K_WIN_X0 : Field := { base := 0xA0104, n1 := 8, s1 := 0x100, lo := 16, width := 15, acc := .rw }
/-- R337. -/
def ISP_K_WIN_W : Field := { base := 0xA0104, n1 := 8, s1 := 0x100, lo := 0, width := 15, acc := .rw }
/-- R337. -/
def ISP_K_BLK0_1 : Field := { base := 0xA0108, n1 := 8, s1 := 0x100, lo := 16, width := 12, acc := .rw }
/-- R337. -/
def ISP_K_BLK0_0 : Field := { base := 0xA0108, n1 := 8, s1 := 0x100, lo := 0, width := 12, acc := .rw }
/-- R337. -/
def ISP_K_BLK1_2 : Field := { base := 0xA010C, n1 := 8, s1 := 0x100, lo := 0, width := 12, acc := .rw }
/-- R337. -/
def ISP_K_WB0_1 : Field := { base := 0xA0110, n1 := 8, s1 := 0x100, lo := 16, width := 16, acc := .rw, reset := .const 16384 }
/-- R337. -/
def ISP_K_WB0_0 : Field := { base := 0xA0110, n1 := 8, s1 := 0x100, lo := 0, width := 16, acc := .rw, reset := .const 16384 }
/-- R337. -/
def ISP_K_WB1_2 : Field := { base := 0xA0114, n1 := 8, s1 := 0x100, lo := 0, width := 16, acc := .rw, reset := .const 16384 }
/-- R337. -/
def ISP_K_MAT_LO : Field := { base := 0xA0118, n1 := 8, s1 := 0x100, n2 := 5, s2 := 0x4, lo := 0, width := 16, acc := .rw, reset := .second [4096, 0, 4096, 0, 4096] }
/-- R337. -/
def ISP_K_MAT_HI : Field := { base := 0xA0118, n1 := 8, s1 := 0x100, n2 := 4, s2 := 0x4, lo := 16, width := 16, acc := .rw }
/-- R337. -/
def ISP_K_OFF0_1 : Field := { base := 0xA012C, n1 := 8, s1 := 0x100, lo := 16, width := 13, acc := .rw }
/-- R337. -/
def ISP_K_OFF0_0 : Field := { base := 0xA012C, n1 := 8, s1 := 0x100, lo := 0, width := 13, acc := .rw }
/-- R337. -/
def ISP_K_OFF1_2 : Field := { base := 0xA0130, n1 := 8, s1 := 0x100, lo := 0, width := 13, acc := .rw }
/-- R337. -/
def ISP_K_GORG_Y : Field := { base := 0xA0134, n1 := 8, s1 := 0x100, lo := 16, width := 16, acc := .rw }
/-- R337. -/
def ISP_K_GORG_X : Field := { base := 0xA0134, n1 := 8, s1 := 0x100, lo := 0, width := 15, acc := .rw }
/-- R337. -/
def ISP_K_GCELL_H : Field := { base := 0xA0138, n1 := 8, s1 := 0x100, lo := 16, width := 16, acc := .rw, reset := .const 16, clamp := .range 1 65535 }
/-- R337. -/
def ISP_K_GCELL_W : Field := { base := 0xA0138, n1 := 8, s1 := 0x100, lo := 0, width := 15, acc := .rw, reset := .const 16, clamp := .range 1 32767 }
/-- R337. -/
def ISP_K_GN_NY : Field := { base := 0xA013C, n1 := 8, s1 := 0x100, lo := 16, width := 13, acc := .rw }
/-- R337. -/
def ISP_K_GN_NX : Field := { base := 0xA013C, n1 := 8, s1 := 0x100, lo := 0, width := 13, acc := .rw, clamp := .range 0 4096 }
/-- R337. -/
def ISP_K_SBASE : Field := { base := 0xA0140, n1 := 8, s1 := 0x100, lo := 12, width := 52, acc := .rw }
/-- R337. -/
def ISP_K_SSIZE : Field := { base := 0xA0148, n1 := 8, s1 := 0x100, lo := 0, width := 16, acc := .rw }
/-- R337. -/
def ISP_K_SWR : Field := { base := 0xA014C, n1 := 8, s1 := 0x100, lo := 6, width := 22, acc := .ro }
/-- R337. -/
def ISP_K_SRD : Field := { base := 0xA0150, n1 := 8, s1 := 0x100, lo := 6, width := 22, acc := .rw }
/-- R337. -/
def ISP_K_CNT_STAT_LOST : Field := { base := 0xA0154, n1 := 8, s1 := 0x100, lo := 16, width := 15, acc := .ro }
/-- R337. -/
def ISP_K_CNT_INCOMPLETE : Field := { base := 0xA0154, n1 := 8, s1 := 0x100, lo := 0, width := 16, acc := .ro }
/-- R337. -/
def ISP_K_S_CROP_X0 : Field := { base := 0xA0160, n1 := 8, s1 := 0x100, n2 := 3, s2 := 0x20, lo := 16, width := 15, acc := .rw }
/-- R337. -/
def ISP_K_S_CROP_W : Field := { base := 0xA0160, n1 := 8, s1 := 0x100, n2 := 3, s2 := 0x20, lo := 0, width := 15, acc := .rw }
/-- R337. -/
def ISP_K_S_FMT_FMT : Field := { base := 0xA0164, n1 := 8, s1 := 0x100, n2 := 3, s2 := 0x20, lo := 28, width := 2, acc := .rw }
/-- R337. -/
def ISP_K_S_FMT_HS : Field := { base := 0xA0164, n1 := 8, s1 := 0x100, n2 := 3, s2 := 0x20, lo := 16, width := 4, acc := .rw, reset := .const 1, clamp := .range 1 15 }
/-- R337. -/
def ISP_K_S_FMT_VS : Field := { base := 0xA0164, n1 := 8, s1 := 0x100, n2 := 3, s2 := 0x20, lo := 0, width := 4, acc := .rw, reset := .const 1, clamp := .range 1 15 }
/-- R337. -/
def ISP_K_S_BASE : Field := { base := 0xA0168, n1 := 8, s1 := 0x100, n2 := 3, s2 := 0x20, lo := 12, width := 52, acc := .rw }
/-- R337. -/
def ISP_K_S_LOST : Field := { base := 0xA0170, n1 := 8, s1 := 0x100, n2 := 3, s2 := 0x20, lo := 16, width := 16, acc := .ro }
/-- R337. -/
def ISP_K_S_SIZE : Field := { base := 0xA0170, n1 := 8, s1 := 0x100, n2 := 3, s2 := 0x20, lo := 0, width := 16, acc := .rw }
/-- R337. -/
def ISP_K_S_WR : Field := { base := 0xA0174, n1 := 8, s1 := 0x100, n2 := 3, s2 := 0x20, lo := 6, width := 22, acc := .ro }
/-- R337. -/
def ISP_K_S_RD : Field := { base := 0xA0178, n1 := 8, s1 := 0x100, n2 := 3, s2 := 0x20, lo := 6, width := 22, acc := .rw }

/-- R356. -/
def VIN_CTRL_ENABLE : Field := { base := 0xB0008, lo := 0, width := 1, acc := .rw, own := true }
/-- R356. -/
def VIN_STAT_LOST : Field := { base := 0xB000C, lo := 16, width := 16, acc := .ro }
/-- R356. -/
def VIN_STAT_DISCARDED : Field := { base := 0xB000C, lo := 0, width := 16, acc := .ro }
/-- R356. -/
def VIN_IRQ_STAT : Field := { base := 0xB0010, lo := 0, width := 3, acc := .w1c }
/-- R356. -/
def VIN_IRQ_EN : Field := { base := 0xB0014, lo := 0, width := 3, acc := .rw }
/-- R356. -/
def VIN_CFG_AUTO_TONE : Field := { base := 0xB0040, lo := 31, width := 1, acc := .rw, role := some .installer }
/-- R356. -/
def VIN_CFG_CTX : Field := { base := 0xB0040, lo := 24, width := 3, acc := .rw, role := some .installer }
/-- R356. -/
def VIN_CFG_SET_MASK : Field := { base := 0xB0040, lo := 16, width := 4, acc := .rw, role := some .installer, reset := .const 1 }
/-- R356. -/
def VIN_CFG_KGAIN : Field := { base := 0xB0040, lo := 8, width := 8, acc := .rw, role := some .installer, reset := .const 128 }
/-- R356. -/
def VIN_CFG_GUARD : Field := { base := 0xB0040, lo := 0, width := 8, acc := .rw, role := some .installer, reset := .const 1 }
/-- R356. -/
def VIN_STRIP_PATCH_LINES : Field := { base := 0xB0044, lo := 24, width := 8, acc := .rw, reset := .const 48, clamp := .range 8 255 }
/-- R356. -/
def VIN_STRIP_CHECK_LINES : Field := { base := 0xB0044, lo := 16, width := 8, acc := .rw, reset := .const 16, clamp := .range 0 64 }
/-- R356. -/
def VIN_STRIP_STRIDE : Field := { base := 0xB0044, lo := 11, width := 5, acc := .rw, reset := .const 16, clamp := .range 4 31 }
/-- R356. -/
def VIN_STRIP_CHK_LEVEL : Field := { base := 0xB0044, lo := 8, width := 3, acc := .rw, reset := .const 3, clamp := .range 1 7 }
/-- R356. -/
def VIN_STRIP_LEAD : Field := { base := 0xB0044, lo := 0, width := 8, acc := .rw, reset := .const 16 }
/-- R356. -/
def VIN_LEV : Field := { base := 0xB0048, lo := 0, width := 64, acc := .rw, reset := .const 18446743852944864026 }
/-- R356. -/
def VIN_NLEV : Field := { base := 0xB0050, lo := 0, width := 4, acc := .rw, reset := .const 6, clamp := .range 2 8 }
/-- R356. -/
def VIN_CAM0_DELAY : Field := { base := 0xB0054, lo := 0, width := 32, acc := .rw, role := some .installer }
/-- R356. -/
def VIN_CAM1_F : Field := { base := 0xB0058, lo := 0, width := 16, acc := .rw, role := some .installer, reset := .const 32768, clamp := .range 0 32768 }
/-- R356. -/
def VIN_MAP0_COL_OFS : Field := { base := 0xB005C, lo := 0, width := 32, acc := .rw, role := some .installer }
/-- R356. -/
def VIN_MAP1_COL_PER_PX : Field := { base := 0xB0060, lo := 0, width := 32, acc := .rw, role := some .installer, reset := .const 393216, clamp := .range 1 4294967295 }
/-- R356. -/
def VIN_MAP2_EDGE : Field := { base := 0xB0064, lo := 0, width := 8, acc := .rw, role := some .installer, reset := .const 32 }
/-- R356. -/
def VIN_PLAUS_MAX_DEV : Field := { base := 0xB0068, lo := 16, width := 16, acc := .rw, role := some .installer, reset := .const 8192 }
/-- R356. -/
def VIN_PLAUS_MIN_STEP : Field := { base := 0xB0068, lo := 8, width := 8, acc := .rw, role := some .installer, reset := .const 64 }
/-- R356. -/
def VIN_PLAUS_MIN_CELLS : Field := { base := 0xB0068, lo := 0, width := 8, acc := .rw, role := some .installer, reset := .const 4, clamp := .range 1 255 }
/-- R356. -/
def VIN_RAMP : Field := { base := 0xB006C, lo := 0, width := 24, acc := .rw, role := some .installer, reset := .const 4096 }
/-- R356. -/
def VIN_NOZ_CFG_AUTO : Field := { base := 0xB0070, lo := 0, width := 1, acc := .rw, role := some .installer }
/-- R356. -/
def VIN_NOZ_STAT_APPLIED : Field := { base := 0xB0078, lo := 0, width := 16, acc := .ro }
/-- R356. -/
def VIN_NOZ_STAT2_LOST : Field := { base := 0xB007C, lo := 0, width := 16, acc := .ro }
/-- R356. -/
def VIN_RING_BASE : Field := { base := 0xB0084, lo := 12, width := 52, acc := .rw }
/-- R356. -/
def VIN_RING_SIZE : Field := { base := 0xB008C, lo := 0, width := 16, acc := .rw }
/-- R356. -/
def VIN_RING_WR : Field := { base := 0xB0090, lo := 6, width := 22, acc := .ro }
/-- R356. -/
def VIN_RING_RD : Field := { base := 0xB0094, lo := 6, width := 22, acc := .rw }
/-- R356. -/
def VIN_CAL_CFG_MIN_S : Field := { base := 0xB00A0, lo := 0, width := 16, acc := .rw, role := some .installer, reset := .const 600, clamp := .range 10 65535 }
/-- R356. -/
def VIN_CAL_CMD_DONE : Field := { base := 0xB00A4, lo := 31, width := 1, acc := .ro }
/-- R356. -/
def VIN_CAL_CMD_CODE : Field := { base := 0xB00A4, lo := 28, width := 2, acc := .ro }
/-- R356. -/
def VIN_CAL_CMD_KIND : Field := { base := 0xB00A4, lo := 8, width := 4, acc := .rw, role := some .installer, clamp := .range 0 8 }
/-- R356. -/
def VIN_CAL_STAT_FALLBACK : Field := { base := 0xB00A8, lo := 16, width := 9, acc := .ro }
/-- R356. -/
def VIN_CAL_STAT_VALID : Field := { base := 0xB00A8, lo := 0, width := 9, acc := .ro }
/-- R356. -/
def VIN_B_RES_MAX : Field := { base := 0xB0100, n1 := 8, s1 := 0x10, lo := 16, width := 16, acc := .ro }
/-- R356. -/
def VIN_B_RES_MEAN : Field := { base := 0xB0100, n1 := 8, s1 := 0x10, lo := 0, width := 16, acc := .ro }
/-- R356. -/
def VIN_B_CNT_REJECT : Field := { base := 0xB0104, n1 := 8, s1 := 0x10, lo := 16, width := 15, acc := .ro }
/-- R356. -/
def VIN_B_CNT_BUSY : Field := { base := 0xB0104, n1 := 8, s1 := 0x10, lo := 8, width := 8, acc := .ro }
/-- R356. -/
def VIN_B_CNT_UPDATES : Field := { base := 0xB0104, n1 := 8, s1 := 0x10, lo := 0, width := 8, acc := .ro }

/-- R375. -/
def LMP_CTRL_ENABLE : Field := { base := 0xC0008, lo := 0, width := 1, acc := .rw, own := true }
/-- R375. -/
def LMP_IRQ_STAT : Field := { base := 0xC0010, lo := 0, width := 18, acc := .w1c }
/-- R375. -/
def LMP_IRQ_EN : Field := { base := 0xC0014, lo := 0, width := 18, acc := .rw }
/-- R375. -/
def LMP_DIAG_PERIOD : Field := { base := 0xC0044, lo := 0, width := 16, acc := .rw, reset := .const 1024 }
/-- R375. -/
def LMP_TC_TC : Field := { base := 0xC0050, n1 := 4, s1 := 0x4, lo := 16, width := 16, acc := .rw }
/-- R375. -/
def LMP_TC_TREF : Field := { base := 0xC0050, n1 := 4, s1 := 0x4, lo := 0, width := 16, acc := .rw }
/-- R376. -/
def LMP_C_CFG_MODE : Field := { base := 0xC0100, n1 := 16, s1 := 0x40, lo := 29, width := 3, acc := .rw, clamp := .enc [(5, 0), (6, 0), (7, 0)] }
/-- R376. -/
def LMP_C_CFG_LAMPS : Field := { base := 0xC0100, n1 := 16, s1 := 0x40, lo := 24, width := 5, acc := .rw }
/-- R376. -/
def LMP_C_CFG_ROWS : Field := { base := 0xC0100, n1 := 16, s1 := 0x40, lo := 19, width := 5, acc := .rw }
/-- R376. -/
def LMP_C_CFG_COLS : Field := { base := 0xC0100, n1 := 16, s1 := 0x40, lo := 14, width := 5, acc := .rw }
/-- R376. -/
def LMP_C_CFG_BAR : Field := { base := 0xC0100, n1 := 16, s1 := 0x40, lo := 11, width := 3, acc := .rw }
/-- R376. -/
def LMP_C_CFG_AUTO_SEG : Field := { base := 0xC0100, n1 := 16, s1 := 0x40, lo := 10, width := 1, acc := .rw }
/-- R376. -/
def LMP_C_CFG_NO_STRETCH : Field := { base := 0xC0100, n1 := 16, s1 := 0x40, lo := 9, width := 1, acc := .rw }
/-- R376. -/
def LMP_C_CFG_COMP : Field := { base := 0xC0100, n1 := 16, s1 := 0x40, lo := 6, width := 3, acc := .rw, clamp := .range 0 4 }
/-- R376. -/
def LMP_C_PWM_DUTY : Field := { base := 0xC0104, n1 := 16, s1 := 0x40, lo := 16, width := 16, acc := .rw }
/-- R376. -/
def LMP_C_PWM_PERIOD : Field := { base := 0xC0104, n1 := 16, s1 := 0x40, lo := 0, width := 16, acc := .rw, reset := .const 2500, clamp := .range 2500 65535 }
/-- R376. -/
def LMP_C_SHUNT : Field := { base := 0xC0108, n1 := 16, s1 := 0x40, lo := 0, width := 32, acc := .rw }
/-- R376. -/
def LMP_C_SEG_COL0 : Field := { base := 0xC010C, n1 := 16, s1 := 0x40, lo := 15, width := 17, acc := .rw }
/-- R376. -/
def LMP_C_SEG_W : Field := { base := 0xC010C, n1 := 16, s1 := 0x40, lo := 0, width := 15, acc := .rw }
/-- R376. -/
def LMP_C_ELEC_I_SET : Field := { base := 0xC0110, n1 := 16, s1 := 0x40, lo := 16, width := 16, acc := .rw }
/-- R376. -/
def LMP_C_ELEC_V_LAMP : Field := { base := 0xC0110, n1 := 16, s1 := 0x40, lo := 0, width := 16, acc := .rw, reset := .const 300, clamp := .range 1 65535 }
/-- R376. -/
def LMP_C_TIMES_SEG_HOLD_MS : Field := { base := 0xC0114, n1 := 16, s1 := 0x40, lo := 16, width := 16, acc := .rw, reset := .const 500 }
/-- R376. -/
def LMP_C_TIMES_PRECHG_NS : Field := { base := 0xC0114, n1 := 16, s1 := 0x40, lo := 0, width := 11, acc := .rw, reset := .const 200, clamp := .range 0 2000 }
/-- R376. -/
def LMP_C_MEAS_VOLT : Field := { base := 0xC0118, n1 := 16, s1 := 0x40, lo := 16, width := 16, acc := .ro }
/-- R376. -/
def LMP_C_MEAS_CURR : Field := { base := 0xC0118, n1 := 16, s1 := 0x40, lo := 0, width := 16, acc := .ro }
/-- R376. -/
def LMP_C_STAT_STATUS : Field := { base := 0xC011C, n1 := 16, s1 := 0x40, lo := 28, width := 4, acc := .ro }
/-- R376. -/
def LMP_C_STAT_SHORTED : Field := { base := 0xC011C, n1 := 16, s1 := 0x40, lo := 24, width := 4, acc := .ro }
/-- R376. -/
def LMP_C_STAT_TEMP : Field := { base := 0xC011C, n1 := 16, s1 := 0x40, lo := 0, width := 16, acc := .ro }
/-- R376. -/
def LMP_C_CNT_CRC : Field := { base := 0xC0124, n1 := 16, s1 := 0x40, lo := 16, width := 15, acc := .ro }
/-- R376. -/
def LMP_C_CNT_MISSED : Field := { base := 0xC0124, n1 := 16, s1 := 0x40, lo := 0, width := 16, acc := .ro }
/-- R376. -/
def LMP_C_GAIN : Field := { base := 0xC0128, n1 := 16, s1 := 0x40, lo := 0, width := 16, acc := .ro, reset := .const 16384 }

/-- R391. -/
def TB_CTRL_AUTO : Field := { base := 0xD0008, lo := 8, width := 1, acc := .rw, role := some .installer, reset := .const 1 }
/-- R391. -/
def TB_CTRL_FOLLOW : Field := { base := 0xD0008, lo := 4, width := 2, acc := .rw, role := some .installer, clamp := .enc [(3, 2)] }
/-- R391. -/
def TB_STAT_IN_FORCE : Field := { base := 0xD000C, lo := 30, width := 2, acc := .ro }
/-- R391. -/
def TB_IRQ_STAT : Field := { base := 0xD0010, lo := 0, width := 4, acc := .w1c }
/-- R391. -/
def TB_IRQ_EN : Field := { base := 0xD0014, lo := 0, width := 4, acc := .rw }
/-- R391. -/
def TB_CFG_JUMP_LIMIT : Field := { base := 0xD0040, lo := 16, width := 16, acc := .rw, role := some .installer, reset := .const 1000, clamp := .range 1 65535 }
/-- R391. -/
def TB_CFG_SLEW_PPM : Field := { base := 0xD0040, lo := 8, width := 8, acc := .rw, role := some .installer, reset := .const 100, clamp := .range 1 255 }
/-- R391. -/
def TB_CFG2_PD_STEP_LIMIT : Field := { base := 0xD0044, lo := 16, width := 16, acc := .rw, role := some .installer, reset := .const 500, clamp := .range 1 65535 }
/-- R391. -/
def TB_CFG2_CONFIRM_TOL : Field := { base := 0xD0044, lo := 0, width := 16, acc := .rw, role := some .installer, reset := .const 100, clamp := .range 1 65535 }
/-- R391. -/
def TB_ADDEND : Field := { base := 0xD0048, lo := 0, width := 64, acc := .rw, reset := .const 4294967296, clamp := .range 4290672329 4299262263, own := true }
/-- R391. -/
def TB_ADJ : Field := { base := 0xD0050, lo := 0, width := 64, acc := .wo }
/-- R391. -/
def TB_CMD_DONE : Field := { base := 0xD0058, lo := 31, width := 1, acc := .ro }
/-- R391. -/
def TB_CMD_CODE : Field := { base := 0xD0058, lo := 28, width := 2, acc := .ro }
/-- R391. -/
def TB_CAP_RAW : Field := { base := 0xD0070, lo := 0, width := 64, acc := .ro }
/-- R391. -/
def TB_CAP_T : Field := { base := 0xD0078, lo := 0, width := 64, acc := .ro }
/-- R391. -/
def TB_CAP_D : Field := { base := 0xD0080, n1 := 2, s1 := 0x8, lo := 0, width := 64, acc := .ro }
/-- R391. -/
def TB_PPS_MODE : Field := { base := 0xD00A0, lo := 30, width := 2, acc := .rw, clamp := .enc [(3, 2)] }
/-- R391. -/
def TB_PPS_WIDTH_US : Field := { base := 0xD00A0, lo := 0, width := 16, acc := .rw, reset := .const 100, clamp := .range 1 65535 }
/-- R391. -/
def TB_PPS_IN_TIME : Field := { base := 0xD00A8, lo := 0, width := 64, acc := .ro }
/-- R391. -/
def TB_PPS_IN_CNT : Field := { base := 0xD00B0, lo := 0, width := 32, acc := .ro }
/-- R391. -/
def TB_D_CFG_EN : Field := { base := 0xD0100, n1 := 2, s1 := 0x40, lo := 31, width := 1, acc := .rw, role := some .installer, own := true }
/-- R391. -/
def TB_D_CFG_MASTER : Field := { base := 0xD0100, n1 := 2, s1 := 0x40, lo := 30, width := 1, acc := .rw, role := some .installer, own := true }
/-- R391. -/
def TB_D_CFG_P2P : Field := { base := 0xD0100, n1 := 2, s1 := 0x40, lo := 28, width := 1, acc := .rw, role := some .installer }
/-- R391. -/
def TB_D_CFG_NUMBER : Field := { base := 0xD0100, n1 := 2, s1 := 0x40, lo := 8, width := 8, acc := .rw, role := some .installer }
/-- R391. -/
def TB_D_CFG_TIMEOUT : Field := { base := 0xD0100, n1 := 2, s1 := 0x40, lo := 0, width := 8, acc := .rw, role := some .installer, reset := .const 30, clamp := .range 1 255 }
/-- R391. -/
def TB_D_STAT_STATE : Field := { base := 0xD0104, n1 := 2, s1 := 0x40, lo := 29, width := 3, acc := .ro }
/-- R391. -/
def TB_D_STAT_HCAUSE : Field := { base := 0xD0104, n1 := 2, s1 := 0x40, lo := 27, width := 2, acc := .ro }
/-- R391. -/
def TB_D_STAT_PENDING : Field := { base := 0xD0104, n1 := 2, s1 := 0x40, lo := 26, width := 1, acc := .ro }
/-- R391. -/
def TB_D_STAT_PERSIST : Field := { base := 0xD0104, n1 := 2, s1 := 0x40, lo := 16, width := 7, acc := .ro }
/-- R391. -/
def TB_D_STAT_REFUSED : Field := { base := 0xD0104, n1 := 2, s1 := 0x40, lo := 0, width := 16, acc := .ro }
/-- R391. -/
def TB_D_ADDEND : Field := { base := 0xD0108, n1 := 2, s1 := 0x40, lo := 0, width := 64, acc := .rw, reset := .const 4294967296, clamp := .range 4290672329 4299262263, own := true }
/-- R391. -/
def TB_D_ADJ : Field := { base := 0xD0110, n1 := 2, s1 := 0x40, lo := 0, width := 64, acc := .wo }
/-- R391. -/
def TB_D_PD : Field := { base := 0xD0118, n1 := 2, s1 := 0x40, lo := 0, width := 32, acc := .rw, own := true }
/-- R391. -/
def TB_D_ACPD : Field := { base := 0xD011C, n1 := 2, s1 := 0x40, lo := 0, width := 32, acc := .ro }
/-- R391. -/
def TCMP_CFG_LATE : Field := { base := 0xD0200, n1 := 8, s1 := 0x20, lo := 20, width := 1, acc := .rw, own := true }
/-- R391. -/
def TCMP_CFG_PPS : Field := { base := 0xD0200, n1 := 8, s1 := 0x20, lo := 1, width := 1, acc := .rw, own := true }
/-- R391. -/
def TCMP_CFG_IRQ : Field := { base := 0xD0200, n1 := 8, s1 := 0x20, lo := 0, width := 1, acc := .rw, own := true }
/-- R391. -/
def TCMP_VAL : Field := { base := 0xD0204, n1 := 8, s1 := 0x20, lo := 0, width := 64, acc := .rw }
/-- R391. -/
def TCMP_PERIOD : Field := { base := 0xD020C, n1 := 8, s1 := 0x20, lo := 0, width := 32, acc := .rw }
/-- R391. -/
def TCMP_TIME : Field := { base := 0xD0210, n1 := 8, s1 := 0x20, lo := 0, width := 64, acc := .ro }
/-- R391. -/
def TCMP_STAT_ARMED : Field := { base := 0xD0218, n1 := 8, s1 := 0x20, lo := 31, width := 1, acc := .ro }
/-- R391. -/
def TCMP_STAT_MISSED : Field := { base := 0xD0218, n1 := 8, s1 := 0x20, lo := 30, width := 1, acc := .w1c }
/-- R391. -/
def TCMP_STAT_HITS : Field := { base := 0xD0218, n1 := 8, s1 := 0x20, lo := 0, width := 16, acc := .ro }

/-- R32. -/
def ETH_CTRL_ENABLE : Field := { base := 0xE0008, lo := 0, width := 1, acc := .rw }
/-- R397. -/
def ETH_P_CFG_EN : Field := { base := 0xE0100, n1 := 2, s1 := 0x100, lo := 31, width := 1, acc := .rw }
/-- R397. -/
def ETH_P_CFG_MODE : Field := { base := 0xE0100, n1 := 2, s1 := 0x100, lo := 30, width := 1, acc := .rw }
/-- R397. -/
def ETH_P_CFG_PROMISC : Field := { base := 0xE0100, n1 := 2, s1 := 0x100, lo := 29, width := 1, acc := .rw }
/-- R397. -/
def ETH_P_CFG_ONE_STEP : Field := { base := 0xE0100, n1 := 2, s1 := 0x100, lo := 28, width := 1, acc := .rw }
/-- R397. -/
def ETH_P_CFG_MTU : Field := { base := 0xE0100, n1 := 2, s1 := 0x100, lo := 0, width := 14, acc := .rw, reset := .const 1518, clamp := .range 64 9600 }
/-- R397. -/
def ETH_P_MAC : Field := { base := 0xE0104, n1 := 2, s1 := 0x100, lo := 0, width := 48, acc := .rw }
/-- R397. -/
def ETH_P_STAT_LINK : Field := { base := 0xE010C, n1 := 2, s1 := 0x100, lo := 31, width := 1, acc := .ro }
/-- R397. -/
def ETH_P_STAT_PCS_LOCK : Field := { base := 0xE010C, n1 := 2, s1 := 0x100, lo := 30, width := 1, acc := .ro }
/-- R397. -/
def ETH_P_CNT_RX_DROP : Field := { base := 0xE0110, n1 := 2, s1 := 0x100, lo := 16, width := 15, acc := .ro }
/-- R397. -/
def ETH_P_CNT_RX_BAD : Field := { base := 0xE0110, n1 := 2, s1 := 0x100, lo := 0, width := 16, acc := .ro }
/-- R397. -/
def ETH_P_VEC : Field := { base := 0xE0114, n1 := 2, s1 := 0x100, lo := 0, width := 6, acc := .rw }
/-- R397. -/
def ETH_P_R_BASE : Field := { base := 0xE0140, n1 := 2, s1 := 0x100, n2 := 4, s2 := 0x20, lo := 12, width := 52, acc := .rw }
/-- R397. -/
def ETH_P_R_CFG_ENABLE : Field := { base := 0xE0148, n1 := 2, s1 := 0x100, n2 := 4, s2 := 0x20, lo := 31, width := 1, acc := .rw }
/-- R397. -/
def ETH_P_R_CFG_ENTRIES : Field := { base := 0xE0148, n1 := 2, s1 := 0x100, n2 := 4, s2 := 0x20, lo := 0, width := 13, acc := .rw, reset := .const 1024 }
/-- R397. -/
def ETH_P_R_TAIL : Field := { base := 0xE014C, n1 := 2, s1 := 0x100, n2 := 4, s2 := 0x20, lo := 0, width := 13, acc := .rw }
/-- R397. -/
def ETH_P_R_HEAD : Field := { base := 0xE0150, n1 := 2, s1 := 0x100, n2 := 4, s2 := 0x20, lo := 0, width := 13, acc := .ro }

end F

/-- The stored fields of page CAM. -/
def fieldsCam : List Field :=
  [F.CAM_CTRL_ENABLE, F.CAM_IRQ_STAT, F.CAM_IRQ_EN, F.CAM_VEC, F.CAM_P_LINK_ENABLE, F.CAM_P_LINK_SPEED, F.CAM_P_LINK_CONNS, F.CAM_P_LINK_FORMAT, F.CAM_P_LINK_WIDTH, F.CAM_P_TRIG_FREE, F.CAM_P_TRIG_EXPO, F.CAM_P_FRAME_LINES, F.CAM_P_LAMP_EN, F.CAM_P_LAMP_CH, F.CAM_P_LAMP_DUTY, F.CAM_P_COMMIT_PENDING, F.CAM_P_COMMIT_GEN, F.CAM_P_GEN, F.CAM_P_STAT_STATE, F.CAM_P_STAT_LOCK] ++
  [F.CAM_P_STAT_TAG, F.CAM_P_FRAMENO, F.CAM_P_CNT_TRIG_OVER, F.CAM_P_CNT_DROPPED, F.CAM_P_CNT2_FORMAT, F.CAM_P_CNT2_SEQ, F.CAM_P_CNT2_CRC, F.CAM_P_CTL_BUSY, F.CAM_P_CTL_RESULT, F.CAM_P_CTL_TMO_MS, F.CAM_P_CTL_TX_LEN, F.CAM_P_CTL_RX_EVT_FULL, F.CAM_P_CTL_RX_RX_LEN, F.CAM_P_HB, F.CAM_P_EVT, F.CAM_P_TX, F.CAM_P_RX]

/-- The stored fields of page ISP. -/
def fieldsIsp : List Field :=
  [F.ISP_CTRL_ENABLE, F.ISP_IRQ_STAT, F.ISP_IRQ_EN, F.ISP_VEC, F.ISP_COMMIT_LAT, F.ISP_LOAD_MAX_PCT, F.ISP_LOAD_LAST_PCT, F.ISP_K_CFG_EN, F.ISP_K_CFG_PRIO, F.ISP_K_CFG_SRC, F.ISP_K_CFG_STRIPE, F.ISP_K_CFG_LAB, F.ISP_K_CFG_VIN, F.ISP_K_WIN_X0, F.ISP_K_WIN_W, F.ISP_K_BLK0_1, F.ISP_K_BLK0_0, F.ISP_K_BLK1_2, F.ISP_K_WB0_1, F.ISP_K_WB0_0] ++
  [F.ISP_K_WB1_2, F.ISP_K_MAT_LO, F.ISP_K_MAT_HI, F.ISP_K_OFF0_1, F.ISP_K_OFF0_0, F.ISP_K_OFF1_2, F.ISP_K_GORG_Y, F.ISP_K_GORG_X, F.ISP_K_GCELL_H, F.ISP_K_GCELL_W, F.ISP_K_GN_NY, F.ISP_K_GN_NX, F.ISP_K_SBASE, F.ISP_K_SSIZE, F.ISP_K_SWR, F.ISP_K_SRD, F.ISP_K_CNT_STAT_LOST, F.ISP_K_CNT_INCOMPLETE, F.ISP_K_S_CROP_X0, F.ISP_K_S_CROP_W] ++
  [F.ISP_K_S_FMT_FMT, F.ISP_K_S_FMT_HS, F.ISP_K_S_FMT_VS, F.ISP_K_S_BASE, F.ISP_K_S_LOST, F.ISP_K_S_SIZE, F.ISP_K_S_WR, F.ISP_K_S_RD]

/-- The stored fields of page VIN. -/
def fieldsVin : List Field :=
  [F.VIN_CTRL_ENABLE, F.VIN_STAT_LOST, F.VIN_STAT_DISCARDED, F.VIN_IRQ_STAT, F.VIN_IRQ_EN, F.VIN_CFG_AUTO_TONE, F.VIN_CFG_CTX, F.VIN_CFG_SET_MASK, F.VIN_CFG_KGAIN, F.VIN_CFG_GUARD, F.VIN_STRIP_PATCH_LINES, F.VIN_STRIP_CHECK_LINES, F.VIN_STRIP_STRIDE, F.VIN_STRIP_CHK_LEVEL, F.VIN_STRIP_LEAD, F.VIN_LEV, F.VIN_NLEV, F.VIN_CAM0_DELAY, F.VIN_CAM1_F, F.VIN_MAP0_COL_OFS] ++
  [F.VIN_MAP1_COL_PER_PX, F.VIN_MAP2_EDGE, F.VIN_PLAUS_MAX_DEV, F.VIN_PLAUS_MIN_STEP, F.VIN_PLAUS_MIN_CELLS, F.VIN_RAMP, F.VIN_NOZ_CFG_AUTO, F.VIN_NOZ_STAT_APPLIED, F.VIN_NOZ_STAT2_LOST, F.VIN_RING_BASE, F.VIN_RING_SIZE, F.VIN_RING_WR, F.VIN_RING_RD, F.VIN_CAL_CFG_MIN_S, F.VIN_CAL_CMD_DONE, F.VIN_CAL_CMD_CODE, F.VIN_CAL_CMD_KIND, F.VIN_CAL_STAT_FALLBACK, F.VIN_CAL_STAT_VALID, F.VIN_B_RES_MAX] ++
  [F.VIN_B_RES_MEAN, F.VIN_B_CNT_REJECT, F.VIN_B_CNT_BUSY, F.VIN_B_CNT_UPDATES]

/-- The stored fields of page LMP. -/
def fieldsLmp : List Field :=
  [F.LMP_CTRL_ENABLE, F.LMP_IRQ_STAT, F.LMP_IRQ_EN, F.LMP_DIAG_PERIOD, F.LMP_TC_TC, F.LMP_TC_TREF, F.LMP_C_CFG_MODE, F.LMP_C_CFG_LAMPS, F.LMP_C_CFG_ROWS, F.LMP_C_CFG_COLS, F.LMP_C_CFG_BAR, F.LMP_C_CFG_AUTO_SEG, F.LMP_C_CFG_NO_STRETCH, F.LMP_C_CFG_COMP, F.LMP_C_PWM_DUTY, F.LMP_C_PWM_PERIOD, F.LMP_C_SHUNT, F.LMP_C_SEG_COL0, F.LMP_C_SEG_W, F.LMP_C_ELEC_I_SET] ++
  [F.LMP_C_ELEC_V_LAMP, F.LMP_C_TIMES_SEG_HOLD_MS, F.LMP_C_TIMES_PRECHG_NS, F.LMP_C_MEAS_VOLT, F.LMP_C_MEAS_CURR, F.LMP_C_STAT_STATUS, F.LMP_C_STAT_SHORTED, F.LMP_C_STAT_TEMP, F.LMP_C_CNT_CRC, F.LMP_C_CNT_MISSED, F.LMP_C_GAIN]

/-- The stored fields of page TB. -/
def fieldsTb : List Field :=
  [F.TB_CTRL_AUTO, F.TB_CTRL_FOLLOW, F.TB_STAT_IN_FORCE, F.TB_IRQ_STAT, F.TB_IRQ_EN, F.TB_CFG_JUMP_LIMIT, F.TB_CFG_SLEW_PPM, F.TB_CFG2_PD_STEP_LIMIT, F.TB_CFG2_CONFIRM_TOL, F.TB_ADDEND, F.TB_ADJ, F.TB_CMD_DONE, F.TB_CMD_CODE, F.TB_CAP_RAW, F.TB_CAP_T, F.TB_CAP_D, F.TB_PPS_MODE, F.TB_PPS_WIDTH_US, F.TB_PPS_IN_TIME, F.TB_PPS_IN_CNT] ++
  [F.TB_D_CFG_EN, F.TB_D_CFG_MASTER, F.TB_D_CFG_P2P, F.TB_D_CFG_NUMBER, F.TB_D_CFG_TIMEOUT, F.TB_D_STAT_STATE, F.TB_D_STAT_HCAUSE, F.TB_D_STAT_PENDING, F.TB_D_STAT_PERSIST, F.TB_D_STAT_REFUSED, F.TB_D_ADDEND, F.TB_D_ADJ, F.TB_D_PD, F.TB_D_ACPD, F.TCMP_CFG_LATE, F.TCMP_CFG_PPS, F.TCMP_CFG_IRQ, F.TCMP_VAL, F.TCMP_PERIOD, F.TCMP_TIME] ++
  [F.TCMP_STAT_ARMED, F.TCMP_STAT_MISSED, F.TCMP_STAT_HITS]

/-- The stored fields of page ETH. -/
def fieldsEth : List Field :=
  [F.ETH_CTRL_ENABLE, F.ETH_P_CFG_EN, F.ETH_P_CFG_MODE, F.ETH_P_CFG_PROMISC, F.ETH_P_CFG_ONE_STEP, F.ETH_P_CFG_MTU, F.ETH_P_MAC, F.ETH_P_STAT_LINK, F.ETH_P_STAT_PCS_LOCK, F.ETH_P_CNT_RX_DROP, F.ETH_P_CNT_RX_BAD, F.ETH_P_VEC, F.ETH_P_R_BASE, F.ETH_P_R_CFG_ENABLE, F.ETH_P_R_CFG_ENTRIES, F.ETH_P_R_TAIL, F.ETH_P_R_HEAD]

end Sys2Proof.Machine
end

