-- ==== Sys2Proof/Machine/State.lean ====
section
/-! DEFINITION. The state of the KT192 as plain data: every register field stands in the register file `regs` (its fields are listed in
Fields1, Fields2 and Fields3), and the rest of what the spec gives the part in the structures below, chapter by chapter. -/

namespace Sys2Proof.Machine

/-! ### Registers, roles, the bonded store (file 02) -/

/-- The states of a session (R46). -/
inductive SessState where
  | closed | challenged | opened | locked
  deriving DecidableEq, Repr

/-- One requester's session (R46-R53). `until` is the raw count at which the challenge expires, the idle timer
reaches 0 or the lock ends. -/
structure Session where
  st       : SessState := .closed
  role     : Nat := 0
  fails    : Nat := 0
  refused  : Bool := false
  deadline : Nat := 0
  chal     : List Nat := []
  deriving DecidableEq, Repr

/-- A staged key (R56): its target role, its bytes, its end, and the agent and requester of the STAGE write. -/
structure StagedKey where
  target    : Nat
  key       : List Nat
  deadline  : Nat
  agent     : Nat
  requester : Nat
  deriving DecidableEq, Repr

/-- An audit entry (R59), without its SEQ and CHECK, which the ring gives it. -/
structure AuditEntry where
  time      : Nat
  agent     : Nat
  requester : Nat
  page      : Nat
  offset    : Nat
  old       : Nat
  new       : Nat
  deriving DecidableEq, Repr

/-- An audit entry in the ring, with its place and its running number. -/
structure AuditSlot where
  index : Nat
  seq   : Nat
  entry : AuditEntry
  deriving DecidableEq, Repr

/-- The audit queue, the MRAM audit ring and the register writes that wait for queue space, each with its page (R58-R61). -/
structure Audit where
  queue   : List (Option Requester × AuditEntry) := []
  ring    : List AuditSlot := []
  next    : Nat := 0
  wrapped : Bool := false
  ovr     : Nat := 0
  seq     : Nat := 0
  stalled : List (Requester × Nat × Instr) := []
  deriving DecidableEq, Repr

/-- What the reply to the last SAFE frame answers (R67, R68). -/
inductive SafeLast where
  | noPrevious
  | lengthErr
  | failed (status seq index : Nat)
  | nop (seq : Nat)
  | read (seq index : Nat)
  | write (seq index value : Nat)
  | commit (seq count : Nat)
  | discard (seq index : Nat)
  deriving DecidableEq, Repr

/-- The SAFE port (R66-R72): staged entries, entries of a commit being applied, what the next reply answers, and
whether loading under R74 has ended. -/
structure SafePort where
  staged   : List (Nat × Nat) := []
  applying : Option (List (Nat × Nat)) := none
  last     : SafeLast := .noPrevious
  loaded   : Bool := false
  deriving DecidableEq, Repr

/-- A fence read that waits (R39, R40): the requester and the page base, or none for SYS_FENCE. -/
structure FenceRead where
  rq   : Requester
  page : Option Nat
  deriving DecidableEq, Repr

/-- The bonded store (R63): the 27 pairs in force, the pairs that the consumer blocks hold, the last matched ones (R64), and the cask words' three SRAM copies (R77). -/
structure Bonded where
  pairs  : List (Nat × Nat)
  inUse  : List (Nat × Nat)
  cask0  : List Nat
  cask1  : List Nat
  cask2  : List Nat
  deriving DecidableEq, Repr

/-! ### The sluice, the cellar book and the cisterns (files 03 and 04) -/

/-- A completion record before its ring gives it phase and slot (R100). `irq`: it counts toward the ring's interrupt. -/
structure CqRec where
  type   : Nat
  status : Nat
  tag    : Nat
  cookie : Nat
  event  : Nat
  sqIndex : Nat
  count  : Nat
  line   : Nat
  time   : Nat
  irq    : Bool
  deriving DecidableEq, Repr

/-- Where a descriptor in flight stands: fetched and not yet checked; moving raster; waiting for ring room; ended and waiting for
DRAM acknowledgements, a fence or a record slot. -/
inductive DescPhase where
  | fetched | moving | room | ended
  deriving DecidableEq, Repr

/-- A bar-line of a descriptor whose DRAM writes are not yet acknowledged: bar, stored line, and (address, size). -/
structure BarLineWrite where
  bar    : Nat
  line   : Nat
  addr   : Nat
  size   : Nat
  deriving DecidableEq, Repr

/-- A bar-line that a descriptor in flight has stored (R94): bar, stored line, address, the bytes, for coded raster the place in its area, and whether another
descriptor has written the bar-line since. -/
structure KeptLine where
  bar    : Nat
  line   : Nat
  addr   : Nat
  bytes  : List Nat
  offset : Nat
  beaten : Bool := false
  deriving DecidableEq, Repr

/-- A source read that awaits its completion (R82): its tag, the descriptor (ring, slot and order), and the end of its bytes in the source. -/
structure SrcRead where
  tag   : Nat
  ring  : Nat
  slot  : Nat
  order : Nat
  upto  : Nat
  deriving DecidableEq, Repr

/-- A descriptor in flight (R91): its ring and slot, the order in which its ring fetched it, its fields, the source bytes
received and not yet stored, the bar-lines taken from the source so far, the source bytes asked for, the bar-lines whose writes are unacknowledged, those it has
stored, the bytes stored and the status so far (0 OK). `silent`: a PCIe reset ended it, it writes no record (R81). -/
structure Desc where
  ring    : Nat
  slot    : Nat
  order   : Nat
  opcode  : Nat
  fence   : Bool
  irq     : Bool
  noCpl   : Bool
  tag     : Nat
  cookie  : Nat
  barMask : Nat
  first   : Nat
  count   : Nat
  src     : Nat
  length  : Nat
  phase   : DescPhase := .fetched
  got     : List Nat := []
  taken   : Nat := 0
  consumed : Nat := 0
  asked   : Nat := 0
  unacked : List BarLineWrite := []
  kept    : List KeptLine := []
  stored  : Nat := 0
  status  : Nat := 0
  silent  : Bool := false
  deriving DecidableEq, Repr

/-- A submission ring and its completion ring beside its registers (R84-R89): the geometry in force, its state, the job records that
wait, the interrupt-flagged records since the last interrupt, and the end of the coalescing wait. -/
structure RingSt where
  active   : Bool := false
  draining : Bool := false
  sqBase   : Nat := 0
  sqN      : Nat := 0
  cqBase   : Nat := 0
  cqN      : Nat := 0
  jobQ     : List CqRec := []
  flagged  : Nat := 0
  coalAt   : Option Nat := none
  order    : Nat := 0
  deriving DecidableEq, Repr

/-- The states of a job context (R110). -/
inductive JobState where
  | free | opened | armed | running | done | aborted | draining
  deriving DecidableEq, Repr

/-- The stored fields of a job context (R104). -/
structure JobCtx where
  barMask    : Nat := 0
  format     : Nat := 0
  waveSet    : Nat := 0
  lutSet     : Nat := 0
  layout     : Nat := 0
  lpi1200    : Bool := false
  dropMode   : Nat := 0
  compressed : Bool := false
  rep        : Bool := false
  forever    : Bool := false
  chain      : Bool := false
  startAt    : Bool := false
  width      : Nat := 0
  lineCount  : Nat := 0
  printCount : Nat := 0
  gapLines   : Nat := 0
  startLine  : Nat := 0
  stripPitch : Nat := 0
  evtRing    : Nat := 0
  stripMode  : Nat := 0
  nextTag    : Nat := 0
  user       : Nat := 0
  deriving DecidableEq, Repr

/-- One area of a cistern layout as a job holds it (R121): data base and size, index base and entries. -/
structure Area where
  base : Nat := 0
  size : Nat := 0
  idxb : Nat := 0
  idxn : Nat := 0
  deriving DecidableEq, Repr

/-- What a job keeps from OPEN or UPDATE (R119, R209): guards and reserves, bar delays, areas, the repeat area, the rate limit. -/
structure JobGeo where
  stopGuard : Nat := 0
  res       : Nat := 0
  minRes    : Nat := 0
  delay     : List Nat := []
  areas     : List Area := []
  repBase   : Nat := 0
  repSize   : Nat := 0
  rateMax   : Nat := 0
  deriving DecidableEq, Repr

/-- A coded bar-line placed in a data area (R134): its stored line, start and stored size in bytes, the descriptor (ring and order) that wrote it, and
whether it is released. -/
structure Coded where
  line     : Nat
  offset   : Nat
  size     : Nat
  coded    : Nat
  ring     : Nat
  order    : Nat
  released : Bool := false
  deriving DecidableEq, Repr

/-- An open defect range of a bar (R212): cause, first press line, lines. -/
structure DefectRange where
  bar   : Nat
  cause : Nat
  first : Nat
  count : Nat
  deriving DecidableEq, Repr

/-- What a bar of a job latches at RUNNING for screening (R164): VOL holds VOL[0] to VOL[M]; RAMP and DITHER are the window entries. -/
structure DecLatch where
  wErr   : Nat := 128
  xoff   : Nat := 0
  yoff   : Nat := 0
  w1     : Nat := 96
  w2     : Nat := 32
  linear : Bool := false
  vol    : List Nat := []
  ramp   : RegFile := []
  dither : RegFile := []
  deriving DecidableEq, Repr

/-- What a head of a bar of a job latches at RUNNING (R205): gap, velocity trim, row offset (s8.8), flight time, NEED_h (R207). -/
structure HeadLatch where
  gap    : Nat := 0
  vtrim  : Nat := 32768
  rowOfs : Nat := 0
  flight : Nat := 0
  need   : Nat := 0
  deriving DecidableEq, Repr

/-- A bar's place in a job. `wr` is the set of stored lines written (stored-line numbers), `rd` and `rel` the
numbers of lines of the reading order (press lines from the job's line 0) that the bar has read and released, `coded` the placed coded
bar-lines in order of allocation, `allocAt` the next free byte of the data area, `cutAt` the first press line not in the spouts at an
ABORT, the screening settings and head latches taken at RUNNING; `cache` holds the stored line last read where two job lines share it (R18). -/
structure BarJob where
  stored    : List Nat := []
  rd        : Nat := 0
  rel       : Nat := 0
  seen      : Nat := 0
  coded     : List Coded := []
  allocAt   : Nat := 0
  cutAt     : Option Nat := none
  cache     : Option (Nat × List Nat × List Nat) := none
  lastFired : Option Nat := none
  dec       : DecLatch := {}
  heads     : List HeadLatch := []
  deriving DecidableEq, Repr

/-- The strip settings that a job latches at RUNNING (R338). -/
structure StripPlan where
  mode     : Nat
  pitch    : Nat
  lead     : Nat
  patch    : Nat
  check    : Nat
  stride   : Nat
  chkLevel : Nat
  levels   : List Nat
  deriving DecidableEq, Repr

/-- A context of the cellar book (R102-R114). -/
structure Job where
  st       : JobState := .free
  gen      : Nat := 0
  ctx      : JobCtx := {}
  geo      : JobGeo := {}
  prints   : Nat := 0
  defects  : Nat := 0
  p0       : Nat := 0
  claimed  : Bool := false
  claimWait : Bool := false
  succ     : Option Nat := none
  broken   : Bool := false
  startLate : Bool := false
  waiting  : Bool := false
  prints0  : Option Nat := none
  bars     : List BarJob := []
  ranges   : List DefectRange := []
  strip    : Option StripPlan := none
  stale    : Nat := 0
  deriving DecidableEq, Repr

/-! ### The decanter (file 05) -/

/-- A head-map entry (R162). -/
structure HEntry where
  valid : Bool := false
  pair  : Bool := false
  port  : Nat := 0
  col0  : Nat := 0
  deriving DecidableEq, Repr

/-- A switch of a keyed table in progress (R157, R158): the new bank, the key line and the ramp length. -/
structure Switch where
  bank : RegFile
  key  : Nat
  ramp : Nat
  deriving DecidableEq, Repr

/-- A keyed table (R157): its kind (1 CURVE, 2 GAIN, 3 NOZSTATE, 4 THRESH), LUT set and port, the active bank (entries of its
window that differ from the reset content), and the switch in progress. -/
structure KTable where
  kind : Nat
  set  : Nat
  port : Nat
  bank : RegFile := []
  sw   : Option Switch := none
  deriving DecidableEq, Repr

/-- A line ready in the spouts of a bar (R142, R143): the press line, the job's context index, its drop mode, the levels
of each port, and the defect causes met while it was made. -/
structure SpoutLine where
  bar    : Nat
  line   : Nat
  job    : Nat
  mode   : Nat
  levels : List (Nat × List Nat)
  causes : List Nat := []
  deriving DecidableEq, Repr
/-! ### Web position (file 06) -/

/-- An encoder input (R167-R193). Counts are whole numbers (a register shows them modulo 2^48), corrections and corrected counts are in 1/256 count, travel
is in 2^-40 dots: the filtered levels, the raw count, the part of the index correction already slewed and the part pending, the highest corrected count since
ENABLE or a release (R180), the travel at the ratio in force as each count came (R171); whether ILLEGAL_EDGE and INDEX_MISPLACED have been set; the time of
the latest count change, of ENABLE before one; the latest five count changes (time, direction; newest first), when the gate window began, its first and last
change and counts, the last gate result (counts, ns), the method in use, recent illegal transitions; the index reference, the offsets of the run of misplaced
indexes and the reference a shift proposes; the travel of all four encoders at this one's latest change, its travel at the latest 1 ms comparisons (newest
first), since when it agrees, whether its input has changed since a flag was set, and its offset (2^-32 dots). -/
structure EncSt where
  a        : Bool := false
  b        : Bool := false
  count    : Int := 0
  slewed   : Int := 0
  pend     : Int := 0
  high     : Int := 0
  travel   : Int := 0
  illegalEdge : Bool := false
  misplaced : Bool := false
  lastAt   : Nat := 0
  edges    : List (Nat × Int) := []
  gateAt   : Nat := 0
  gateFirst : Option Nat := none
  gateLast : Nat := 0
  gateN    : Int := 0
  gateRes  : Int × Nat := (0, 0)
  gate     : Bool := false
  illegal  : List Nat := []
  ref      : Option Int := none
  runOfs   : List Int := []
  newRef   : Option Int := none
  marks    : List Int := [0, 0, 0, 0]
  snaps    : List Int := []
  agreeAt  : Option Nat := none
  changed  : Bool := false
  ofs      : Int := 0
  deriving DecidableEq, Repr

/-- A tick issued and not yet committed (R179): press line and crossing time as last published. -/
structure Tick where
  line : Nat
  time : Int
  deriving DecidableEq, Repr

/-- A bar's coordinate (R176-R181): p_b (s48.16 dots), scale (u1.31), delay (u20.12), the last line issued, whether the bar has reached press line 0 since
ENABLE, its uncommitted ticks, the line it is held at, and whether the hold is being released. -/
structure PosBar where
  p     : Int := 0
  scale : Nat := 2147483648
  delay : Nat := 0
  hwm   : Option Nat := none
  begun : Bool := false
  ticks : List Tick := []
  held  : Option Int := none
  releasing : Bool := false
  deriving DecidableEq, Repr

/-- A press-line segment (R178): first line, its reference (2^-32 dots), its pitch in dots, the bars that have not yet reached its first line. -/
structure Seg where
  line  : Nat
  ref   : Int
  pitch : Nat
  todo  : List Nat := [0, 1, 2, 3, 4, 5, 6, 7]
  deriving DecidableEq, Repr

/-- An emulated output (R200): output count asked for, less what was lost; lost; put out, and at enable; whether it runs; when it last changed. -/
structure EmuSt where
  target : Int := 0
  skip   : Int := 0
  out    : Int := 0
  origin : Int := 0
  on     : Bool := false
  last   : Nat := 0
  deriving DecidableEq, Repr

/-- The position model (R171-R196): x (2^-32 dots), v (2^-48 dots per update), the time of the last update and of the newest count change of the active
encoder since, ACTIVE (0 and 1 the encoder, 2 a switch-over gap, 3 lost), the end of the gap and the encoder it goes to, the redundancy mode in force (R196),
LOS, SUSPECT and OUTVOTED of the active encoder at the last look, REVERSE, the strain estimate (parts per 10^9), the travel of ENC0 and ENC1 at the last
strain measurement (2^-40 dots), whether the estimate is frozen, the A-B offset at the latest comparisons (newest first) and frozen, a REVERT asked for, whether BAR0 crossed a line at the last update, whether a bar delay awaits its latch, POS_SPEED. -/
structure PosSt where
  x        : Int := 0
  v        : Int := 0
  tk       : Nat := 0
  newest   : Option Nat := none
  active   : Nat := 0
  gapEnd   : Nat := 0
  gapTo    : Nat := 0
  mode     : Nat := 0
  flags    : List Bool := [false, false, false]
  reverse  : Bool := false
  eps      : Int := 0
  strain0  : Int := 0
  strain1  : Int := 0
  frozen   : Bool := false
  abHist   : List Int := []
  abFrozen : Int := 0
  revert   : Bool := false
  crossed  : Bool := false
  delayDue : Bool := false
  speed    : Int := 0
  bars     : List PosBar
  segs     : List Seg := []
  emu      : List EmuSt
  deriving DecidableEq, Repr

/-! ### Firing (file 07) -/

/-- The states of the stop sequence (R228). -/
inductive StopState where
  | run | holding | reversing | waiting | resuming
  deriving DecidableEq, Repr

/-- The stop sequence (R227-R231): its state, its causes, the latched settings, when the state was entered, since when the web
is slow, the latched position, whether a RESUME has come since each cause's trigger (for FAULT since its acknowledgement),
whether DRV_REV is asserted, whether the STOP reaction is acknowledged, and the bars that have fired L_b + 1. -/
structure StopSt where
  st        : StopState := .run
  underrun  : Bool := false
  fault     : Bool := false
  host      : Bool := false
  minSpeed  : Nat := 50
  tmoMs     : Nat := 10000
  dist      : Nat := 1000000
  since     : Nat := 0
  slowSince : Option Nat := none
  x0        : Int := 0
  resumeU   : Bool := false
  resumeF   : Bool := false
  resumeH   : Bool := false
  rev       : Bool := false
  acked     : Bool := false
  fired     : List Nat := []
  deriving DecidableEq, Repr

/-- The blank lines that a bar still fires for a job aborted while RUNNING (R113): the context and its generation, the first and last press line, and what
its records need. -/
structure Blank where
  job   : Nat
  gen   : Nat
  first : Nat
  last  : Nat
  ctx   : JobCtx
  geo   : JobGeo
  heads : List HeadLatch
  deriving DecidableEq, Repr

/-- The scheduler's memory of a bar (R210, R211, R222, R232): the committed bar time and period of the last line fired, the waveform set of its last
job, the last FIRE or TICKLE record's time, whether it is in the slow lines after a resume, whether it has fired since it was last held or without a job (R222), NEED_b, the blank lines that it owes. -/
structure FireBar where
  tauLast  : Option Int := none
  period   : Nat := 0
  wave     : Option Nat := none
  lastRec  : Option Nat := none
  slowRun  : Bool := false
  firing   : Bool := false
  need     : Nat := 0
  blanks   : List Blank := []
  deriving DecidableEq, Repr

/-- A duty count (R224 to R226): key (nozzle key or head key), window number, count, and the limit taken when the window began. -/
structure Duty where
  key    : Nat
  window : Nat
  count  : Nat
  limit  : Nat
  deriving DecidableEq, Repr

/-- The line scheduler (R203-R235): the stop sequence, the bars, the duty counts with the window lengths they were made with, per port the end of its
latest burst (R211), the speed request of R213 and WARN_PCT as the latest
commit took it (R234). -/
structure FireSt where
  stop     : StopSt := {}
  bars     : List FireBar
  nozzle   : List Duty := []
  head     : List Duty := []
  nozWin   : Nat := 1000
  headWin  : Nat := 1000
  lastFire : List (Option Int)
  speedLim : Bool := false
  warnPct  : Nat := 95
  deriving DecidableEq, Repr

/-! ### Head links (file 08) -/

/-- The states of a head link (R256). -/
inductive LinkState where
  | disabled | priming | aligning | calibrating | authenticating | up | idle | authFailed | pairFault | capsFault
  deriving DecidableEq, Repr

/-- A FIRE or TICKLE record of a port (R220, R253): `need` NEED_h, `sent` how often it was sent, `acked` no acknowledgement is awaited, `again` it is to be sent again. -/
structure Rec where
  seq      : Nat
  tickle   : Bool
  bar      : Nat
  job      : Option Nat
  line     : Nat
  fireTime : Int
  need     : Nat
  words    : List Nat
  sent     : Nat := 0
  sentAt   : Nat := 0
  acked    : Bool := false
  again    : Bool := false
  deriving DecidableEq, Repr

/-- A head-memory command waiting or under way (R261, R264): OP, COUNT, ADDR, data words, whether the KT192 started it on its own, its
transaction number and when it was sent. -/
structure MemCmd where
  op    : Nat
  count : Nat
  addr  : Nat
  data  : List Nat
  auto  : Bool
  txn   : Nat := 0
  sentAt : Nat := 0
  deriving DecidableEq, Repr

/-- What a forward lane does (R248): electrical idle, the priming burst, frames. -/
inductive LaneMode where
  | off | priming | on
  deriving DecidableEq, Repr

/-- The transmitter of a forward lane (R239 to R248): what the lane does; the scrambler, the latest bit and how often it has come in a row, the words since the
last marker; the frame under way: its type, its words still to go out and all, when it started and when it ends; the frames that wait (FTYPE and payload). -/
structure LaneTx where
  mode    : LaneMode := .off
  scr     : Nat := 0x3FFFFFFFFFFFFFF
  runBit  : Bool := false
  run     : Nat := 0
  words   : Nat := 0
  ftype   : Nat := 0
  cur     : List Nat := []
  total   : Nat := 0
  startAt : Nat := 0
  endAt   : Nat := 0
  waits   : List (Nat × List Nat) := []
  deriving DecidableEq, Repr

/-- The receiver of a back channel (R240 to R245): the latest 64 bits, the descrambler, the run of equal bits; whether it hunts for a marker and whether one was
missing; the bits of the word and of the marker being gathered, the words since the last marker; whether it discards words until the next pointer word, the
words to pass over, the frame being gathered and the words it still needs. -/
structure LaneRx where
  window  : Nat := 0
  scr     : Nat := 0x3FFFFFFFFFFFFFF
  runBit  : Bool := false
  run     : Nat := 0
  hunting : Bool := true
  missed  : Bool := false
  nbits   : Nat := 0
  word    : Nat := 0
  words   : Nat := 0
  inMark  : Nat := 0
  blind   : Bool := true
  skip    : Nat := 0
  frame   : List Nat := []
  need    : Nat := 0
  deriving DecidableEq, Repr

/-- The reading of the usage words that a disabled port still awaits (R264): its transaction number, the session key, the last counter accepted. -/
structure ClosingRead where
  txn : Nat
  key : List Nat
  ctr : Nat
  deriving DecidableEq, Repr

/-- A head port (R236-R264): its lane and the receiver of its back channel, its state, authentication, back-channel lock, when the state was entered, when
priming is tried again, whether NO_HEAD was reported since ENABLE; forward and back marker numbers, the last valid back-channel frame; the next SEQ and the records waiting, sent
or unconfirmed; calibration: the last CAL_ID, the frame awaiting its echo (id, departure in 1/256 ns), when it was sent, the round trips, whether one runs,
and LINK_h as T_ARR carries it (1/256 ns); authentication: its step, start, challenge, nonce and the key K_M it began with, the session key and counters; the head memory's
transaction number, waiting commands and the one under way; the usage read's time and baseline, and one still awaited after the port was disabled; the errors since the last second; the last temperature
report, whether its loss was reported, whether the gain was set since UP, whether HLK_DOWN was reported since UP; PAIRED. -/
structure HlkPort where
  tx       : LaneTx := {}
  rx       : LaneRx := {}
  st       : LinkState := .disabled
  authOk   : Bool := false
  bcLock   : Bool := false
  since    : Nat := 0
  retryAt  : Option Nat := none
  noHead   : Bool := false
  mFwd     : Nat := 0
  mBack    : Option Nat := none
  lastBack : Nat := 0
  seq      : Nat := 0
  recs     : List Rec := []
  calId    : Nat := 0
  calOut   : Option (Nat × Nat) := none
  calAt    : Nat := 0
  calGot   : List Int := []
  calOn    : Bool := false
  linkOut  : Int := 0
  stage    : Nat := 0
  authAt   : Nat := 0
  chal     : List Nat := []
  nonce    : List Nat := []
  master   : List Nat := []
  session  : Option (List Nat) := none
  ctrTx    : Nat := 0
  ctrRx    : Nat := 0
  txn      : Nat := 0
  memQ     : List MemCmd := []
  memNow   : Option MemCmd := none
  useAt    : Nat := 0
  base     : Option Nat := none
  closing  : Option ClosingRead := none
  errs     : Nat := 0
  tempAt   : Option Nat := none
  staleRep : Bool := false
  gainSet  : Bool := false
  downRep  : Bool := false
  pair     : Bool := false
  deriving DecidableEq, Repr

/-- A lane group (R236): the rate in force and the end of a relock. -/
structure LaneGroup where
  rate     : Nat := 2
  relockAt : Option Nat := none
  deriving DecidableEq, Repr
/-! ### DRAM (files 09 and 10) -/

/-- The organisation of a channel's DRAM (R267): density in Gbit, device width, ranks, column-burst bits, bank-group bits, row bits, capacity in MiB, tRFC in ns. -/
structure DramOrg where
  density : Nat
  width   : Nat
  ranks   : Nat
  cb      : Nat
  bg      : Nat
  rows    : Nat
  capMib  : Nat
  trfc    : Nat
  deriving DecidableEq, Repr

/-- An entry of a repeat ledger (R304): channel word address, correction count, WB, second of the latest correction. -/
structure LedgerEntry where
  word  : Nat
  count : Nat
  wb    : Bool
  sec   : Nat
  deriving DecidableEq, Repr

/-- An open row (R275): its subchannel, row key, bank key and the time of the last request to it. -/
structure OpenRow where
  sub  : Nat
  row  : Nat
  bank : Nat
  last : Nat
  deriving DecidableEq, Repr

/-- A request of 64 bytes in a channel queue (R274 to R276): its tag, whether it writes, its subchannel, bank and row, its requester (0 the decanter front end,
1 the sluice, 2 the line-index readers, 3 the ECC engines, 4 BAR4, 5 the cellar processor), and how often a younger one was issued before it. -/
structure DdrReq where
  tag    : Nat := 0
  write  : Bool
  sub    : Nat
  bank   : Nat
  row    : Nat
  source : Nat
  passed : Nat := 0
  deriving DecidableEq, Repr

/-- What a rank's mode registers declare of refresh management (R284): required, and the activations of a bank at which a command is issued. -/
structure RankRfm where
  required  : Bool := false
  threshold : Nat := 0
  deriving DecidableEq, Repr

/-- The rolling accumulated activation count of a bank (R284). -/
structure BankRaa where
  sub   : Nat
  bank  : Nat
  count : Nat
  deriving DecidableEq, Repr

/-- A DDR5 channel: organisation and identity read at enable, refreshes owed by each rank, recent parity alerts, open rows; the queue, the requests
that found it full, which subchannels issue a batch of writes, when the latest request arrived, the next tag, the requester served last; what the ranks declare of
refresh management, the activation counts and the refresh-management commands issued; the retraining step under way and those left, when the sensors were last
read, the end of a converted excess and one that waits for the end of a pause, the repeat ledger, the retired rows in order of their spares, how many of them the MRAM map
holds, and the dead rows. -/
structure DdrCh where
  org      : Option DramOrg := none
  mfr      : Nat := 0
  dramMfr  : Nat := 0
  serial   : Nat := 0
  date     : Nat := 0
  debt     : List Nat := [0, 0]
  alerts   : List Nat := []
  rows     : List OpenRow := []
  reqs     : List DdrReq := []
  waits    : List DdrReq := []
  batch    : List Bool := [false, false]
  arrived  : Nat := 0
  nextTag  : Nat := 0
  turn     : Nat := 0
  rfm      : List RankRfm := []
  raa      : List BankRaa := []
  managed  : Nat := 0
  sensedAt : Nat := 0
  step     : Option Nat := none
  stepsLeft : Nat := 0
  busyUntil : Nat := 0
  excess   : Nat := 0
  ledger   : List LedgerEntry := []
  retired  : List Nat := []
  mapped   : Nat := 0
  dead     : List Nat := []
  seed     : List Nat := []
  deriving DecidableEq, Repr

/-- The DDR5 controller: the channels, the map in force (mask, grain exponent g, per-channel size K in bytes), the data rate in force, the channels
waiting for retraining, when the latest period of retraining began, the end of the last retraining pause, whether a rate change runs, and whether the retraining at sleep exit runs. -/
structure DdrSt where
  chans    : List DdrCh
  mask     : Nat := 0
  g        : Nat := 12
  k        : Nat := 0
  rate     : Nat := 4
  queue    : List Nat := []
  trainAt  : Nat := 0
  pauseEnd : Nat := 0
  rateBusy : Bool := false
  atOnce   : Bool := false
  deriving DecidableEq, Repr

/-- A word of an SRAM whose stored form differs from what was written (R295, R302, R313): array code, word index, the data bits that differ, and the
syndrome with P in bit 7. -/
structure SramBad where
  array : Nat
  index : Nat
  flips : Nat
  synd  : Nat
  deriving DecidableEq, Repr

/-- Scrub and SRAM words in error (R302, R311). -/
structure EccSt where
  scrub : Option (Nat × Nat) := none
  sram  : List SramBad := []
  deriving DecidableEq, Repr

/-- A channel's spare-row map in MRAM (R309): rows in order of their spares, and the identity of the DRAM. -/
structure SpareMap where
  rows   : List Nat := []
  mfr    : Nat := 0
  serial : Nat := 0
  deriving DecidableEq, Repr

/-! ### Cameras and image pipeline (file 11) -/

/-- What a statistics cell accumulates (R334): count, sums of the three components, sum of squares, least and largest value of component 0. -/
structure IspCell where
  n  : Nat := 0
  s0 : Int := 0
  s1 : Int := 0
  s2 : Int := 0
  q0 : Nat := 0
  mn : Int := 0
  mx : Int := 0
  deriving DecidableEq, Repr

/-- What a stream accumulates of an output line (R332): component sums of its pixels, and input lines received. -/
structure IspAcc where
  sums : List (List Int) := []
  rows : Nat := 0
  deriving DecidableEq, Repr

/-- A frame that a context processes (R326 to R334): port, frame number, settings and tables in force for it, format and width, its generation, tag,
mismatch, start, first trigger and lines; the next line to process, lines dropped, poison, stream losses, and what is accumulated. -/
structure CtxFrame where
  port   : Nat
  no     : Nat
  cfg    : RegFile
  tabs   : RegFile
  format : Nat
  width  : Nat
  gen    : Nat
  start  : Nat
  first  : Nat
  lines  : Nat
  tag    : Nat := 0
  mism   : Bool := false
  next   : Nat := 0
  dropped : Nat := 0
  ecc    : Bool := false
  lost   : Bool := false
  cells  : List IspCell := []
  accs   : List IspAcc := []
  deriving DecidableEq, Repr

/-- A context: the settings and tables in force, its frames in order, when it was last served (a running number), its busy clocks in this ms. -/
structure IspCtx where
  force  : RegFile := []
  tabs   : RegFile := []
  frames : List CtxFrame := []
  served : Nat := 0
  busy   : Nat := 0
  deriving DecidableEq, Repr

/-- A frame of a port (R323): number, first trigger, lines, lines arrived or dropped so far, whether an overflow was reported in it. -/
structure CamFrame where
  no    : Nat
  first : Nat
  lines : Nat
  got   : Nat := 0
  overflowed : Bool := false
  deriving DecidableEq, Repr

/-- A line in the input buffer (R325): frame, line, buffer slot and raw component values. -/
structure BufLine where
  frame : Nat
  line  : Nat
  slot  : Nat
  comps : List Nat
  deriving DecidableEq, Repr

/-- A commit that awaits its frame (R335): EXPO, LINES, the four LAMP entries (EN, CH, DUTY), and per context its settings and tables; when its copy
ends, and the line periods since it was made. -/
structure CamCommit where
  expo  : Nat
  lines : Nat
  lamps : List (Bool × Nat × Nat)
  ctxs  : List (Nat × RegFile × RegFile)
  copied : Nat
  periods : Nat := 0
  deriving DecidableEq, Repr

/-- A camera port: what ENABLE took (FREE, CONNS, FORMAT, WIDTH), EXPO and LINES in force, the trigger count, the last hit and the falling edges due;
the first trigger of the next frame, the frames in order, the number of the next image, the image being received, whether the next header starts a frame after a loss;
the buffer and its next slot; the commit pending; the lamp duties to hand over; the end of the control command's wait; the timestamp of the latest trigger
sent (R322). -/
structure CamSt where
  free    : Bool := false
  conns   : Nat := 0
  format  : Nat := 4
  width   : Nat := 8192
  expo    : Nat := 0
  lines   : Nat := 4096
  trig    : Nat := 0
  lastHit : Option Nat := none
  falls   : List Nat := []
  nextF   : Nat := 0
  frameNo : Nat := 0
  frames  : List CamFrame := []
  image   : Nat := 0
  current : Option Nat := none
  resync  : Bool := false
  buf     : List BufLine := []
  slot    : Nat := 0
  commit  : Option CamCommit := none
  hand    : List (Nat × Nat) := []
  ctlEnd  : Option Nat := none
  trigAt  : Nat := 0
  deriving DecidableEq, Repr
/-! ### The Vintner loop and calibration records (file 12) -/

/-- A control strip that has reached BAR0 and awaits its evaluation (R343): the job's context and tag, its first press line, its plan, bar mask and LUT set,
whether FIRE_STAT.STATE left RUN meanwhile, whether it came as a fifth, and whether it is complete. -/
structure Strip where
  job     : Nat
  tag     : Nat
  line    : Nat
  plan    : StripPlan
  bars    : Nat
  lut     : Nat
  spoiled : Bool := false
  fifth   : Bool := false
  complete : Bool := false
  deriving DecidableEq, Repr

/-- A statistics record as the loop keeps it (R341, R342): frame, the trigger of its line 0, lines, whether it is unusable, the grid
(origin, cell size, counts), the window's width, and per cell the means of the three components and COUNT. -/
structure VinRec where
  frame  : Nat
  first  : Nat
  lines  : Nat
  bad    : Bool
  gx     : Nat
  gy     : Nat
  cw     : Nat
  ch     : Nat
  nx     : Nat
  ny     : Nat
  width  : Nat
  cells  : List (List Nat)
  deriving DecidableEq, Repr

/-- A queued change of nozzle state (R349): a held entry waits for APPROVE. -/
structure NozEntry where
  port   : Nat
  nozzle : Nat
  state  : Nat
  held   : Bool
  deriving DecidableEq, Repr

/-- What a TONE record keeps of a port (R350, R352): paper (L*, a*, b*) and m[1] to m[8] in 1/256. -/
structure ToneEntry where
  set   : Nat
  port  : Nat
  paper : List Nat
  m     : List Nat
  deriving DecidableEq, Repr

/-- What the TONE record of a LUT set says of its entries (R350, R352, R358): the levels of the strip whose update was placed last, and the targets latched at its
evaluation. -/
structure ToneSet where
  set     : Nat
  levels  : List Nat
  targets : List Nat
  deriving DecidableEq, Repr

/-- The Vintner loop (R341 to R357): the camera coordinate and its scale, the coordinate at each trigger (trigger number, Q_cam), records kept, strips waiting,
strips evaluated, last measurements (port, entry, two words), nozzle entries, tone entries, the records due, the times of the last automatic writes
(kind, ns), and the records being written, first come first, with whether SAVE asked for each; the levels and targets of the TONE records; the DRAM record's
blocks (of each channel's last full training, or as restored), and the channels whose restored delays have not yet seeded a training (R355). -/
structure VinSt where
  p       : Int := 0
  scale   : Nat := 2147483648
  trigs   : List (Nat × Int) := []
  recs    : List VinRec := []
  strips  : List Strip := []
  stripNo : Nat := 0
  meas    : List (Nat × Nat × Nat × Nat) := []
  noz     : List NozEntry := []
  tones   : List ToneEntry := []
  due     : List Nat := []
  lastAuto : List (Nat × Nat) := []
  writing : List (Nat × Bool) := []
  toneSets : List ToneSet := []
  blocks  : List (List Nat) := []
  unseeded : List Nat := []
  deriving DecidableEq, Repr

/-- A slot of the calibration area (R350): kind, slot (0 A, 1 B), its words, and how often it was written. -/
structure CalSlot where
  kind   : Nat
  slot   : Nat
  words  : List Nat
  writes : Nat
  deriving DecidableEq, Repr

/-! ### Lamps (file 13) -/

/-- A lamp channel (R359 to R374): the SEQ of its next frame; whether it was on at the last period formed; whether it counts as dark for stillness; the
rows whose pulse is judged and the replies awaited; whether a valid reply has come since enable and when the latest came; consecutive open, short and
missing replies; the module's (row, open, short) counts; ALERT in its latest reply; whether its latest LMP_SYNC was missed; the start of the
latest strobe; the set in use and the next one (BAR2 words), the LOAD rows sent, and whether LMP_SYNC has let the set swap; what the stretch depends
on and, per element, (element, owe, since); the holds of R366 (lamps, end); lit and I_SET of the last pulse. -/
structure LampCh where
  seq     : Nat := 0
  on      : Bool := false
  still   : Bool := false
  judge   : Nat := 0
  await   : Nat := 0
  valid   : Bool := false
  validAt : Nat := 0
  opens   : Nat := 0
  shorts  : Nat := 0
  misses  : Nat := 0
  found   : List (Nat × Nat × Nat) := []
  alert   : Bool := false
  missed  : Bool := false
  strobed : Option Nat := none
  set     : RegFile := []
  next    : Option RegFile := none
  sentRows : Nat := 0
  synced  : Bool := false
  depends : List Nat := []
  dim     : List (Nat × Nat × Nat) := []
  holds   : List (Nat × Nat) := []
  lit     : Nat := 0
  iSet    : Nat := 0
  deriving DecidableEq, Repr

/-- The lamp controller: the channels, since when POS_SPEED is below LMP_MIN_SPEED, whether LMP_STILL_TIME has passed since, and the channels whose next
reply is looked at for ALERT. -/
structure LampSt where
  chans  : List LampCh
  slowAt : Option Nat := some 0
  passed : Bool := false
  alerts : Nat := 0
  deriving DecidableEq, Repr
/-! ### Timebase and Ethernet (file 14) -/

/-- A domain clock (R379 to R385): T_d = t0 + (R − r0) × add in 2^-32 ns; whether a first correction since EN is still to come, FORCE armed,
consecutive small corrections, the pending correction in ns, whether P_d is accepted, the candidate path delay, the R of the last PD write. -/
structure TbDom where
  t0    : Int := 0
  r0    : Nat := 0
  add   : Nat := 4294967296
  first : Bool := false
  force : Bool := false
  good  : Nat := 0
  pend  : Option Int := none
  accepted : Bool := false
  cand  : Nat := 0
  pdAt  : Nat := 0
  deriving DecidableEq, Repr

/-- The timebase (R377 to R388): T = t0 + (R − r0) × add + slew in 2^-32 ns; corrections not yet slewed, FORCE armed, whether the present goal
has been refused, the last second at which TB_PPS_OUT was looked at, the end of the pulse on R, and the domains. -/
structure TbSt where
  t0    : Int := 0
  r0    : Nat := 0
  add   : Nat := 4294967296
  slew  : Int := 0
  pend  : Int := 0
  force : Bool := false
  refused : Bool := false
  lastSec : Int := 0
  ppsEnd : Option Nat := none
  doms  : List TbDom
  deriving DecidableEq, Repr

/-- The geometry in force of an Ethernet ring (R84, R393). -/
structure EthRing where
  on   : Bool := false
  base : Nat := 0
  n    : Nat := 0
  deriving DecidableEq, Repr

/-- An Ethernet port (R393): its four rings. -/
structure EthSt where
  rings : List EthRing
  deriving DecidableEq, Repr


/-! ### Fault collection (file 15) -/

/-- The units that a DEGRADE reaction fences (R409). -/
inductive FUnit where
  | ddr (c : Nat) | port (p : Nat) | cam (n : Nat) | isp | eth (p : Nat) | sluice | enc (n : Nat) | lamp (c : Nat)
  deriving DecidableEq, Repr

/-- A fence in force: the unit and the source (with its instance) that holds it. -/
structure Fence where
  unit : FUnit
  src  : Nat
  inst : Nat
  deriving DecidableEq, Repr

/-- A shadow window (R411): the sources on its list, when it opened and when it ends. -/
structure Shadow where
  list  : List Nat
  opened : Nat
  ends  : Nat
  deriving DecidableEq, Repr

/-- A lees-log entry (R414). -/
structure LogEntry where
  time    : Nat
  pairEq  : Bool
  forced  : Bool
  conseq  : Bool
  cls     : Nat
  source  : Nat
  inst    : Nat
  tag     : Option Nat
  seq     : Nat
  line    : Nat
  deriving DecidableEq, Repr

/-- The fault collector (R398-R420). A source and its instance have the key source × 256 + instance. `det` holds the keys whose
detector reports, `force` the forced ones, `eq` those whose wires read equal; a key is live when any holds it; `due` holds
the keys that a reaction itself reports. -/
structure FltSt where
  det      : List Nat := []
  force    : List Nat := []
  eq       : List Nat := []
  status   : List Nat := []
  flicker  : List (Nat × Nat) := []
  lastFlick : List (Nat × Nat) := []
  stops    : List Nat := []
  safes    : List Nat := []
  fences   : List Fence := []
  shadows  : List Shadow := []
  log      : List LogEntry := []
  seq      : Nat := 0
  released : Bool := false
  outP     : Bool := true
  inAt     : Nat := 0
  wireAt   : Option (Nat × Nat) := none
  due      : List Nat := []
  deriving DecidableEq, Repr
/-! ### Temperature (file 16) -/

/-- A sensor (R421 to R423): its latest reading in 1/256 °C, consecutive good conversions since it failed, consecutive conversions at or above WARN, THROTTLE and SHUTDOWN, and the
time of the last conversion. -/
structure ThmSensor where
  temp  : Int := 0
  goods : Nat := 0
  warn  : Nat := 0
  throt : Nat := 0
  shut  : Nat := 0
  last  : Nat := 0
  deriving DecidableEq, Repr

/-- The thermal monitor: the sensors, consecutive conversions with T_max below the leaving levels of warning and throttle and below the
level of acknowledgement, since when the throttle holds, whether deferrable work is paused, the time of the shutdown under way and
its record's words, and whether THM_PEAK holds a T_max since CLEAR. -/
structure ThmSt where
  sensors : List ThmSensor
  warnLow : Nat := 0
  throtLow : Nat := 0
  ackLow  : Nat := 0
  throtAt : Option Nat := none
  paused  : Bool := false
  shutAt  : Option Nat := none
  event   : List Nat := []
  peaked  : Bool := false
  deriving DecidableEq, Repr

/-- A record of the thermal event ring in MRAM (R428): its place and its 24 words. -/
structure ThermalRec where
  index : Nat
  words : List Nat
  deriving DecidableEq, Repr

/-! ### Pins, power and PCIe (files 03, 17 and 18) -/

/-- A line of an encoder input before the filter (R167): its level, and since when in ns. -/
structure EncLine where
  level : Bool := false
  since : Nat := 0
  deriving DecidableEq, Repr

/-- Input levels (true is high) and latched pin outputs: among them A, B and Z of every encoder input before the filter, and of the emulated and the
pass-through outputs (R167, R200, R201). An interlock reads high and DRV_READY low when open (R457). -/
structure Pins where
  ilkHead  : Bool := true
  ilkUv    : Bool := true
  drvReady : Bool := false
  testMode : Bool := false
  fltInP   : Bool := false
  fltInN   : Bool := false
  perst    : Bool := true
  enc      : List (List EncLine) := [[{}, {}, {}], [{}, {}, {}], [{}, {}, {}], [{}, {}, {}]]
  passed   : List (List Bool) := [[false, false, false], [false, false, false]]
  emuA     : List Bool := [false, false]
  emuB     : List Bool := [false, false]
  emuZ     : List Bool := [false, false]
  ppsOut   : Bool := false
  deriving DecidableEq, Repr

/-- One MSI-X vector (R80): address, data, mask bit and pending bit. -/
structure Msix where
  addrLo  : Nat := 0
  addrHi  : Nat := 0
  data    : Nat := 0
  masked  : Bool := true
  pending : Bool := false
  deriving DecidableEq, Repr

/-- What of the PCIe configuration space acts on the part or is reported there (R80): the codes of Max Payload Size and Max Read Request Size, the requester's
10-bit tags, MSI-X Enable and Function Mask, ASPM L1, its substates, LTR, and the AER status words. -/
structure PcieCfg where
  maxPayload : Nat := 0
  maxRead    : Nat := 2
  tenBitTags : Bool := false
  msixEnable : Bool := false
  maskAll    : Bool := false
  l1         : Bool := false
  l1Sub      : Bool := false
  ltr        : Bool := false
  aerUncor   : Nat := 0
  aerCor     : Nat := 0
  deriving DecidableEq, Repr

/-- Where the power sequence stands (R431-R433, R447): off and waiting for a wake source, sequencing with n outputs raised, on, waiting to try again,
standing after a brown-out, in standby. -/
inductive PowerState where
  | off | rising (n : Nat) | on | retry | brownout | standby
  deriving DecidableEq, Repr

/-- A wake source (R448). -/
inductive Wake where
  | powerOn | timer | safeCs | perst
  deriving DecidableEq, Repr

/-- The always-on domain, the boot and the PCIe endpoint (R431 to R449, R80, R81): where the power sequence stands and since when (AON time in ns), the PWR_EN
outputs, failed attempts since the last wake, the wake source that started the last power-up, one held under R448, when PWR_EN last dropped and whether a
thermal shutdown dropped it; whether the boot sequence has run since the last reset, whether the cellar processor runs, whether the watchdog holds it, the R of
the latest KICK; the link, Bus Master Enable, the configuration space, the generation (1 to 5: 2.5 to 32 GT/s) and the lanes at which the link has trained, 0 before,
the MSI-X vectors, the words written to the host boot window. -/
structure PowerSt where
  st       : PowerState := .rising 0
  since    : Nat := 0
  pwrEn    : Nat := 0
  attempts : Nat := 0
  wake     : Wake := .powerOn
  heldWake : Option Wake := none
  downAt   : Nat := 0
  thermal  : Bool := false
  booted   : Bool := false
  running  : Bool := false
  heldRst  : Bool := false
  wdogAt   : Nat := 0
  link     : Bool := false
  bme      : Bool := false
  cfg      : PcieCfg := {}
  linkGen  : Nat := 0
  linkLanes : Nat := 0
  msix     : List Msix
  bootWin  : RegFile := []
  deriving DecidableEq, Repr


/-! ### MRAM, outputs, the whole device -/

/-- MRAM contents (R442). A field is `none` while it was never written. -/
structure Mram where
  keys   : List (Option (List Nat))
  keyM   : Option (List Nat) := none
  bond   : Option (List (Nat × Nat)) := none
  cask0  : List Nat
  cask1  : List Nat
  cask2  : List Nat
  hmap   : Option (List HEntry) := none
  spare  : List SpareMap
  cal    : List CalSlot := []
  thermal : List ThermalRec := []
  writes : Nat := 0
  deriving DecidableEq, Repr

/-- What the part shows to the outside, oldest first (the model's own record of its outputs). -/
inductive Output where
  /-- a completion record written to host memory: ring, slot, address, its eight words (R89, R100) -/
  | cq (ring slot : Nat) (addr : Nat) (words : List Nat)
  /-- a source read: tag, bus address, bytes (R82) -/
  | sourceRead (tag addr len : Nat)
  /-- an MSI-X message (R80) -/
  | msix (vector addr data : Nat)
  /-- a SAFE-port reply, 14 bytes (R67) -/
  | safeReply (bytes : List Nat)
  /-- a fence read that returns (R39, R40) -/
  | fence (rq : Requester) (page : Option Nat)
  /-- the word that a cask read returns (R78) -/
  | cask (n value : Nat)
  /-- a frame begun on a forward lane: port, FTYPE and payload words (R245, R246) -/
  | lane (port ftype : Nat) (payload : List Nat)
  /-- bits on a forward lane, the first sent first (R239 to R243, R248) -/
  | line (port : Nat) (bits : List Bool)
  /-- a priming burst begins (R248) -/
  | priming (port : Nat)
  /-- an ABORT pattern (R243) -/
  | abort (port : Nat)
  /-- a forward marker with its MCOUNT (R242) -/
  | marker (port mcount : Nat)
  /-- the lane enters electrical idle (R248) -/
  | laneIdle (port : Nat)
  /-- the word that a read of DRAM by the cellar processor returns (R295) -/
  | dram (addr value : Nat)
  /-- the data of a BAR4 read (R138) -/
  | bar4 (bytes : List Nat)
  /-- a change of a quadrature output: unit, A, B, Z (R200) -/
  | emu (unit : Nat) (a b z : Bool)
  /-- a change of a pass-through output: output, levels of A, B and Z (R201) -/
  | pass (output : Nat) (levels : List Bool)
  /-- a frame on the lamp bus: channel, command, its words and their CRC-16 (R359 to R369) -/
  | lamp (channel : Nat) (kind : Nat) (words : List Nat)
  /-- a packet on a camera uplink: port, kind, payload (R321, R322) -/
  | camera (port : Nat) (kind : Nat) (words : List Nat)
  /-- a record or line written to a host ring: kind, context or port, address, words or bytes -/
  | ring (kind unit : Nat) (addr : Nat) (data : List Nat)
  /-- an Ethernet frame sent (R396) -/
  | eth (port : Nat) (bytes : List Nat)
  /-- a change of the FLT_OUT pair (R416) -/
  | fltOut (p n : Bool)
  /-- a change of PWR_EN[3:0] (R431) -/
  | pwrEn (v : Nat)
  /-- a PPS edge (R388) -/
  | pps (level : Bool)
  deriving DecidableEq, Repr

/-- The device: everything of it but the audit chain and the queue. -/
structure Dev where
  regs   : RegFile
  bar2   : RegFile
  latches : RegFile
  raw    : Nat
  aon    : Nat
  free   : Nat
  outbox : List Output
  fences : List FenceRead
  host   : Session
  cellar : Session
  staged : Option StagedKey
  safe   : SafePort
  bond   : Bonded
  mram   : Mram
  pins   : Pins
  pwr    : PowerSt
  flt    : FltSt
  rings  : List RingSt
  descs  : List Desc
  reads  : List SrcRead
  turn   : Nat
  barTags : List Nat
  jobs   : List (Nat × Job)
  spouts : List SpoutLine
  decBusy : List Nat
  ktabs  : List KTable
  hmap   : List HEntry
  enc    : List EncSt
  pos    : PosSt
  fire   : FireSt
  ports  : List HlkPort
  groups : List LaneGroup
  ddr    : DdrSt
  ecc    : EccSt
  dram   : List Host.Cell
  check  : List Host.Cell
  cam    : List CamSt
  isp    : List IspCtx
  vin    : VinSt
  lamps  : LampSt
  tb     : TbSt
  eth    : List EthSt
  thm    : ThmSt
  deriving DecidableEq, Repr

/-- The state of the block: the device, the audit chain, and the commands that wait, first in, first out. -/
structure State where
  dev     : Dev
  audit   : Audit
  pending : List Instr
  deriving DecidableEq, Repr

/-! ### Stops -/

/-- A stop of the machine. -/
inductive Fault where
  /-- Raised by no command: every row of the table has an effect that the spec gives (safe: it can stop nothing). -/
  | none
  deriving DecidableEq, Repr

/-- A command that has no meaning. -/
inductive Refusal where
  /-- Raised by an arm of Machine/Dispatch.lean that has no meaning yet; none is left (safe: the model stops). -/
  | notModelled (mnemonic : String)
  deriving DecidableEq, Repr

/-! ### Reset -/

/-- The bonded store's Reset column (R63): the values of entries 0 to 26. -/
def bondReset : List Nat :=
  [0, 1000, 0, 1000, 105, 115, 125, 0x040404, 100, 500, 0xFFFF] ++ [0xFFFFFFFF, 0xFFFFFFFF, 0xFFFFFFFF, 0xFFFFFFFF] ++ List.replicate 12 0

/-- A value with its complement. -/
def bondPair (v : Nat) : Nat × Nat := (v, 0xFFFFFFFF - v)

/-- The device at power-on reset: VBAT applied, every PWR_EN output low, and the first output next to rise (R431, R432). -/
def Dev.reset : Dev where
  regs := []
  bar2 := []
  latches := []
  raw := 0
  aon := 0
  free := 0
  outbox := []
  fences := []
  host := {}
  cellar := {}
  staged := none
  safe := {}
  bond := { pairs := bondReset.map bondPair, inUse := bondReset.map bondPair, cask0 := List.replicate 64 0, cask1 := List.replicate 64 0, cask2 := List.replicate 64 0 }
  mram := { keys := [none, none, none], cask0 := List.replicate 64 0, cask1 := List.replicate 64 0, cask2 := List.replicate 64 0, spare := List.replicate 4 {} }
  pins := {}
  pwr := { msix := List.replicate 64 {} }
  flt := {}
  rings := List.replicate 8 {}
  descs := []
  reads := []
  turn := 7
  barTags := List.replicate 8 0
  jobs := []
  spouts := []
  decBusy := List.replicate 24 0
  ktabs := []
  hmap := List.replicate 192 {}
  enc := List.replicate 4 {}
  pos := { bars := List.replicate 8 {}, emu := List.replicate 2 {} }
  fire := { bars := List.replicate 8 {}, lastFire := List.replicate 192 none }
  ports := List.replicate 192 {}
  groups := List.replicate 8 {}
  ddr := { chans := List.replicate 4 {} }
  ecc := {}
  dram := []
  check := []
  cam := List.replicate 4 {}
  isp := List.replicate 8 {}
  vin := {}
  lamps := { chans := List.replicate 16 {} }
  tb := { doms := List.replicate 2 {} }
  eth := List.replicate 2 { rings := List.replicate 4 {} }
  thm := { sensors := List.replicate 24 {} }

/-- The machine right after reset. -/
def State.reset : State := { dev := Dev.reset, audit := {}, pending := [] }

end Sys2Proof.Machine
end

