-- ==== Sys2Proof/Machine/Ops.lean ====
section
/-! DEFINITION. The named operations over the device: register fields, the output list, interrupts, time, jobs and ports. -/

namespace Sys2Proof.Machine

/-- A quotient whose rounding no rule gives: one of the two neighbours. -/
def openRound (rule : Nat) (a b : Int) : Int :=
  Int.fdiv a b + (if Int.fmod a b ≠ 0 && Config.roundUp rule a b then 1 else 0)

/-! ### Register fields -/

/-- The value of a field. -/
def Dev.get (d : Dev) (f : Field) (i : Nat := 0) (j : Nat := 0) : Nat := d.regs.get f i j

/-- The device after a value is stored in a field (cut to the field's width). -/
def Dev.set (d : Dev) (f : Field) (v : Nat) (i : Nat := 0) (j : Nat := 0) : Dev :=
  { d with regs := d.regs.set f i j v }

/-- Is a field not 0. -/
def Dev.flag (d : Dev) (f : Field) (i : Nat := 0) (j : Nat := 0) : Bool := d.get f i j ≠ 0

/-- A count that stops at the field's largest value is raised by n. -/
def Dev.bump (d : Dev) (f : Field) (i : Nat := 0) (j : Nat := 0) (n : Nat := 1) : Dev :=
  d.set f (sat f.max (d.get f i j + n)) i j

/-- Bit k of a field is set. -/
def Dev.raiseBit (d : Dev) (f : Field) (k : Nat) (i : Nat := 0) (j : Nat := 0) : Dev :=
  d.set f (d.get f i j ||| 2 ^ k) i j

/-- An output is added to the record of outputs. -/
def Dev.emit (d : Dev) (o : Output) : Dev := { d with outbox := d.outbox ++ [o] }

/-- Outputs are added in order. -/
def Dev.emits (d : Dev) (o : List Output) : Dev := { d with outbox := d.outbox ++ o }

/-! ### Interrupts -/

/-- An MSI-X message of a vector falls due: it is sent, or while the vector or the function is masked, or Bus Master Enable is clear, its pending bit
is set (R81). -/
def Dev.msixDue (d : Dev) (v : Nat) : Dev :=
  let e := d.pwr.msix.getD v {}
  if e.masked || d.pwr.cfg.maskAll || !d.pwr.bme then
    { d with pwr := { d.pwr with msix := setAt d.pwr.msix v (fun e => { e with pending := true }) } }
  else d.emit (.msix v (e.addrHi * 2 ^ 32 + e.addrLo) e.data)

/-- An interrupt cause is set in a page's IRQ_STAT; a page with a vector sends its message when the cause is enabled. -/
def Dev.irq (d : Dev) (stat en : Field) (k : Nat) (vec : Option Field) (i : Nat := 0) : Dev :=
  let d' := d.raiseBit stat k i
  match vec with
  | some v => if bit (d'.get en i) k then d'.msixDue (d'.get v) else d'
  | none => d'

/-- A cause of the FLT page (R419). -/
def Dev.fltIrq (d : Dev) (k : Nat) : Dev := d.irq F.FLT_IRQ_STAT F.FLT_IRQ_EN k (some F.FLT_VEC)

/-! ### Jobs -/

/-- The context at an index; a FREE context of generation 0 has no entry. -/
def Dev.job (d : Dev) (i : Nat) : Job := ((d.jobs.find? (fun e => e.1 = i)).map (·.2)).getD {}

/-- The device with a context replaced. The list is kept in ascending index. -/
def Dev.setJob (d : Dev) (i : Nat) (j : Job) : Dev :=
  { d with jobs := d.jobs.filter (fun e => e.1 < i) ++ [(i, j)] ++ d.jobs.filter (fun e => i < e.1) }

/-- The device with a context changed. -/
def Dev.modJob (d : Dev) (i : Nat) (f : Job → Job) : Dev := d.setJob i (f (d.job i))

/-- A context's job tag (R102). -/
def Dev.jobTag (d : Dev) (i : Nat) : Nat := (d.job i).gen * 512 + i

/-- The contexts in a state. -/
def Dev.jobsIn (d : Dev) (p : JobState → Bool) : List (Nat × Job) := d.jobs.filter (fun e => p e.2.st)

/-- The RUNNING contexts. -/
def Dev.running (d : Dev) : List (Nat × Job) := d.jobsIn (· = .running)

/-- Is any context ARMED or RUNNING. -/
def Dev.anyArmed (d : Dev) : Bool := !(d.jobsIn (fun s => s = .armed || s = .running)).isEmpty

/-- Does a job's BAR_MASK hold a bar. -/
def Job.hasBar (j : Job) (b : Nat) : Bool := bit j.ctx.barMask b

/-- The bars of a mask, ascending. -/
def barsOf (mask : Nat) : List Nat := (List.range 8).filter (fun b => bit mask b)

/-- Is a context empty (R105). -/
def JobCtx.empty (c : JobCtx) : Bool :=
  c.lineCount = 0 || c.width = 0 || c.barMask = 0 || (c.printCount = 0 && !c.forever)

/-- Lines from a print's line 0 to the next print's line 0. -/
def JobCtx.period (c : JobCtx) : Nat := c.lineCount + c.gapLines

/-- Press lines that a job occupies, or none while it prints until FINISH (R105); `prints0` is the last print that FINISH set. -/
def Job.length (j : Job) : Option Nat :=
  match j.prints0 with
  | some n => some (n * j.ctx.period)
  | none => if j.ctx.forever then none else some (j.ctx.printCount * j.ctx.period)

/-- Is a press line one of a job's. -/
def Job.covers (j : Job) (line : Nat) : Bool :=
  j.p0 ≤ line && (match j.length with | some n => line < j.p0 + n | none => true)

/-- The job line (and print) at a press line that the job covers; none for a gap line. -/
def Job.lineAt (j : Job) (line : Nat) : Option Nat :=
  let n := line - j.p0
  let r := if j.ctx.period = 0 then 0 else n % j.ctx.period
  if r < j.ctx.lineCount then some r else none

/-- The along-web resolution in lines per inch (R23). -/
def JobCtx.lpi (c : JobCtx) : Nat := if c.lpi1200 then 1200 else 600

/-- Job lines that one stored line holds (R122). -/
def JobCtx.perStored (c : JobCtx) : Nat := if c.format = 0 && c.lpi1200 then 2 else 1

/-- The stored line of a job line. -/
def JobCtx.storedOf (c : JobCtx) (l : Nat) : Nat := l / c.perStored

/-- Stored lines of one print. -/
def JobCtx.storedLines (c : JobCtx) : Nat := cdiv c.lineCount c.perStored

/-- A bar-line's bytes before padding (R96). -/
def JobCtx.rawSize (c : JobCtx) : Nat :=
  match c.format with
  | 0 => cdiv c.width 2
  | 1 => c.width
  | 2 => cdiv c.width 4
  | _ => cdiv (3 * c.width) 8

/-- A number rounded up to a multiple of 64. -/
def pad64 (n : Nat) : Nat := cdiv n 64 * 64

/-- The slot size S (R122). -/
def JobCtx.slot (c : JobCtx) : Nat := pad64 c.rawSize

/-- The worst-case slot of a compressed job (R122). -/
def JobCtx.worstSlot (c : JobCtx) : Nat := pad64 (4 + c.rawSize + cdiv c.rawSize 64)

/-- The decanter look-ahead (R142). -/
def JobCtx.depth (c : JobCtx) : Nat := if c.dropMode = 0 then 64 else 42

/-- The largest drop level (R151). -/
def topLevel (mode : Nat) : Nat := if mode = 0 then 3 else 7

/-- Is a press line one that a bar still fires for a job: the job runs and covers it, or was aborted with the line in the bar's spouts (R105, R113). -/
def Job.owes (j : Job) (b line : Nat) : Bool :=
  match j.st with
  | .running => j.covers line
  | .aborted | .draining => (match (j.bars.getD b {}).cutAt with | some c => decide (j.p0 ≤ line && line < c) | none => false)
  | _ => false

/-- The last press line issued for a bar, −1 before any. -/
def Dev.hwm (d : Dev) (b : Nat) : Int :=
  match (d.pos.bars.getD b {}).hwm with
  | some h => h
  | none => -1

/-- H_b as its register reads: NONE until a line has been issued and the bar has reached press line 0 (R179). -/
def Dev.shownHwm (d : Dev) (b : Nat) : Option Nat :=
  let x := d.pos.bars.getD b {}
  if x.begun then x.hwm else none

/-- H_0 of R111: −1 while it reads NONE. -/
def Dev.horizon (d : Dev) : Int :=
  match d.shownHwm 0 with
  | some h => h
  | none => -1

/-- The signed difference of two 48-bit numbers (R169, R466). -/
def diff48 (a b : Int) : Int := signed 48 (unsigned 48 (a - b))

/-- The press line within 2^47 of H_0 that a 48-bit number written to a register names (R466). -/
def Dev.lineNear (d : Dev) (n : Nat) : Int := d.horizon + diff48 n d.horizon

/-- The context whose raster a bar fires at a press line. -/
def Dev.jobAtLine (d : Dev) (b line : Nat) : Option (Nat × Job) := d.jobs.find? (fun e => e.2.hasBar b && e.2.owes b line)

/-- Has a bar lines of a job still to read. -/
def Job.unread (j : Job) (b : Nat) : Bool := match j.length with | some n => decide ((j.bars.getD b {}).rd < n) | none => true

/-- The job a bar is reading (R129): of the RUNNING jobs with the bar in their mask, the earliest with lines still to read, else the latest. -/
def Dev.barJob (d : Dev) (b : Nat) : Option (Nat × Job) :=
  let js := d.running.filter (fun e => e.2.hasBar b)
  let pick (l : List (Nat × Job)) (better : Nat → Nat → Bool) : Option (Nat × Job) :=
    l.foldl (fun a e => match a with | some x => if better e.2.p0 x.2.p0 then some e else some x | none => some e) none
  match pick (js.filter (fun e => e.2.unread b)) (fun a c => decide (a < c)) with
  | some e => some e
  | none => pick js (fun a c => decide (c < a))

/-! ### Control strips (R338 to R340) -/

/-- A strip's length in lines, for nb bars (R339). -/
def StripPlan.size (s : StripPlan) (nb : Nat) : Nat := 2 * s.lead + nb * (s.levels.length * s.patch + s.check)

/-- Bars in a job's mask. -/
def JobCtx.bars (c : JobCtx) : List Nat := barsOf c.barMask

/-- The offset in its strip of a line at distance n from the job's line 0, if a strip lies there (R340). -/
def Job.stripAt (j : Job) (n : Nat) : Option Nat :=
  match j.strip with
  | none => none
  | some s =>
    let len := s.size j.ctx.bars.length
    let k := if j.ctx.period = 0 then 0 else n / j.ctx.period
    let r := if j.ctx.period = 0 then 0 else n % j.ctx.period
    if s.mode = 1 then
      let every := cdiv s.pitch (Nat.max 1 j.ctx.lineCount)
      if j.ctx.lineCount ≤ r && r - j.ctx.lineCount < len && every ≠ 0 && (k + 1) % every = 0 then some (r - j.ctx.lineCount) else none
    else
      let q := r / Nat.max 1 s.pitch
      if 0 < q && r < j.ctx.lineCount && r - q * s.pitch < len && q * s.pitch + len ≤ j.ctx.lineCount then some (r - q * s.pitch) else none

/-! ### The head map -/

/-- The head-map entry in force of a bar and slot (R162). -/
def Dev.hentry (d : Dev) (b s : Nat) : HEntry := d.hmap.getD (24 * b + s) {}

/-- The valid slots of a bar with their entries. -/
def Dev.heads (d : Dev) (b : Nat) : List (Nat × HEntry) :=
  ((List.range 24).map (fun s => (s, d.hentry b s))).filter (fun e => e.2.valid)

/-- The bar and slot of the valid entry that names a port (R157). -/
def Dev.portHome (d : Dev) (p : Nat) : Option (Nat × Nat) :=
  (((List.range 192).filter (fun k => (d.hmap.getD k {}).valid && (d.hmap.getD k {}).port = p)).head?).map (fun k => (k / 24, k % 24))

/-- The last column of a head: NOZ is 4,096 for each port of a head. -/
def HEntry.last (e : HEntry) : Nat := e.col0 + 4095

/-! ### Ports -/

/-- A head port's state. -/
def Dev.port (d : Dev) (p : Nat) : HlkPort := d.ports.getD p {}

/-- The device with a port changed. -/
def Dev.modPort (d : Dev) (p : Nat) (f : HlkPort → HlkPort) : Dev := { d with ports := setAt d.ports p f }

/-- The source of a lane group's instance: the base index of a source with one instance per lane group (R403, R404). -/
def groupOf (p : Nat) : Nat := p / 24

/-! ### DRAM and the AON clock -/

/-- R in ns: every timeout, window, period and rate is measured on it (R377). -/
def Dev.now (d : Dev) : Nat := d.raw

/-- The time in force in 2^-32 ns (R378). -/
def Dev.fineT (d : Dev) : Int := d.tb.t0 + ((d.raw - d.tb.r0 : Nat) : Int) * d.tb.add + d.tb.slew

/-- The time in force in ns: every instant called a timebase value (R378, R389). -/
def Dev.T (d : Dev) : Nat := (d.fineT / 4294967296).toNat % 2 ^ 64

/-- The device with the next free value's number taken (the free values of Config). -/
def Dev.nextFree (d : Dev) : Nat × Dev := (d.free, { d with free := d.free + 1 })

/-- The link comes up, at a rate and width that it negotiates (R80). -/
def Dev.linkUp (d : Dev) : Dev :=
  if d.pwr.link then d
  else
    let r := Config.linkRate d.free
    { d with free := d.free + 1, pwr := { d.pwr with link := true, linkGen := r.1.val + 1, linkLanes := 2 ^ r.2.val } }

/-- An automatic calibration record of a kind falls due (R350). -/
def Dev.calRequest (d : Dev) (kind : Nat) : Dev := { d with vin := { d.vin with due := insertOnce d.vin.due kind } }

/-- PHASE follows DRAM from FIRMWARE on, except in SLEEP (R444). -/
def Dev.followPhase (d : Dev) : Dev :=
  let p := d.get F.SYS_STAT_PHASE
  if 4 ≤ p && p ≤ 6 then
    d.set F.SYS_STAT_PHASE (if !d.flag F.DDR_CTRL_ENABLE then 4 else if d.flag F.ECC_STAT_DRAM_DONE then 6 else 5)
  else d

/-- Does the cellar processor run, without which neither job sequencing nor the Vintner loop runs (R441, R449). -/
def Dev.procOn (d : Dev) : Bool := d.pwr.st = .on && d.pwr.running

/-- Is work that may wait paused by the throttle (R424). -/
def Dev.deferPaused (d : Dev) : Bool := d.thm.paused

/-- The value of bonded entry n as its consumers hold it (R64). -/
def Dev.bonded (d : Dev) (n : Nat) : Nat := (d.bond.inUse.getD n (0, 0)).1

/-- The device part of the state changed. -/
def State.onDev (s : State) (f : Dev → Dev) : State := { s with dev := f s.dev }

/-- The form of most meanings: the next state. -/
def go (s : State) : Host.Outcome State Fault Refusal := .next s

end Sys2Proof.Machine
end

