-- ==== Sys2Proof/Machine/Isp.lean ====
section
/-! DEFINITION. The image pipeline: pixels, streams, statistics and the end of a frame (file 11, R325 to R334). -/

namespace Sys2Proof.Machine

/-! ### The pipeline (R329, R330) -/

/-- A word of a context's tables, by its BAR2 address and reset content. -/
def tabWord (tabs : RegFile) (a reset : Nat) : Nat := (tabs.find a).getD reset

/-- Flat-field gain c of column x (R331). -/
def CtxFrame.ffGain (f : CtxFrame) (k x c : Nat) : Nat :=
  let a := 0x900000 + 0x20000 * k + 8 * x
  if c = 2 then bits (tabWord f.tabs (a + 4) 0x4000) 0 16 else bits (tabWord f.tabs a 0x40004000) (16 * c) 16

/-- Is column x DEFECT. -/
def CtxFrame.ffDefect (f : CtxFrame) (k x : Nat) : Bool := bit (tabWord f.tabs (0x900000 + 0x20000 * k + 8 * x + 4) 0x4000) 16

/-- The reset content of a tone-curve entry. -/
def tcReset (i : Nat) : Nat := i * 64 + i / 16

/-- Entry i of component r's tone curve. -/
def CtxFrame.tc (f : CtxFrame) (k r i : Nat) : Nat :=
  let a := 0xA00000 + 0x2000 * k + 0x800 * r + i / 2 * 4
  bits (tabWord f.tabs a (tcReset (i / 2 * 2) + tcReset (i / 2 * 2 + 1) * 65536)) (16 * (i % 2)) 16

/-- A setting of a frame. -/
def CtxFrame.opt (f : CtxFrame) (x : Field) (k : Nat) (j : Nat := 0) : Nat := f.cfg.get x k j

/-- The 12-bit components of column x of a line of raw component values. -/
def rawPixel (format : Nat) (comps : List Nat) (x : Nat) : List Nat :=
  let sh := if format % 4 = 0 then 4 else if format % 4 = 1 then 2 else 0
  let v (i : Nat) : Nat := comps.getD i 0 * 2 ^ sh % 4096
  if format < 4 then [v x, v x, v x] else [v (3 * x), v (3 * x + 1), v (3 * x + 2)]

/-- Black level and flat field of column x. -/
def CtxFrame.flat (f : CtxFrame) (k : Nat) (comps : List Nat) (x : Nat) : List Nat :=
  let blk := [f.opt F.ISP_K_BLK0_0 k, f.opt F.ISP_K_BLK0_1 k, f.opt F.ISP_K_BLK1_2 k]
  ((rawPixel f.format comps x).zip blk).zipIdx.map (fun e => Nat.min 4095 (((e.1.1 - e.1.2) * f.ffGain k x e.2 + 8192) / 2 ^ 14))

/-- The window of a frame: first column and width (R326). -/
def CtxFrame.window (f : CtxFrame) (k : Nat) : Nat × Nat :=
  if f.opt F.ISP_K_CFG_STRIPE k = 1 then (f.opt F.ISP_K_WIN_X0 k, f.opt F.ISP_K_WIN_W k) else (0, f.width)

/-- Defect correction of column x from flat-fielded neighbours. -/
def CtxFrame.mend (f : CtxFrame) (k : Nat) (comps : List Nat) (x : Nat) : List Nat :=
  let w := f.window k
  if f.ffDefect k x then
    let ok (y : Nat) : Bool := w.1 ≤ y && y < w.1 + w.2 && !f.ffDefect k y
    let ns := (if w.1 < x && ok (x - 1) then [f.flat k comps (x - 1)] else []) ++ (if ok (x + 1) then [f.flat k comps (x + 1)] else [])
    match ns with
    | [] => f.flat k comps x
    | [a] => a
    | a :: b :: _ => (a.zip b).map (fun e => (e.1 + e.2 + 1) / 2)
  else f.flat k comps x

/-- Entry M[r][c] of the matrix, s4.12. -/
def CtxFrame.mat (f : CtxFrame) (k q : Nat) : Int :=
  signed 16 (if q % 2 = 0 then f.opt F.ISP_K_MAT_LO k (q / 2) else f.opt F.ISP_K_MAT_HI k (q / 2))

/-- The outputs t of column x: white balance, matrix, offset and tone curve (R329). -/
def CtxFrame.tone (f : CtxFrame) (k : Nat) (comps : List Nat) (x : Nat) : List Nat :=
  let wb := [f.opt F.ISP_K_WB0_0 k, f.opt F.ISP_K_WB0_1 k, f.opt F.ISP_K_WB1_2 k]
  let off := [f.opt F.ISP_K_OFF0_0 k, f.opt F.ISP_K_OFF0_1 k, f.opt F.ISP_K_OFF1_2 k]
  let p : List Int := ((f.mend k comps x).zip wb).map (fun e => ((Nat.min 4095 ((e.1 * e.2 + 8192) / 2 ^ 14) : Nat) : Int))
  (List.range 3).map (fun r =>
    let s : Int := f.mat k (3 * r) * p.getD 0 0 + f.mat k (3 * r + 1) * p.getD 1 0 + f.mat k (3 * r + 2) * p.getD 2 0 + 2048
    let q := (clampI 0 4095 (Int.fdiv s 4096 + signed 13 (off.getD r 0))).toNat
    let a : Int := f.tc k r (q / 4)
    let b : Int := f.tc k r (Nat.min (q / 4 + 1) 1023)
    (a + Int.fdiv ((b - a) * (q % 4 : Nat)) 4).toNat)

/-- The integer cube root of a number below 2^126. -/
def icbrt (n : Nat) : Nat := (List.range 42).foldl (fun r i => let c := r + 2 ^ (41 - i); if c * c * c ≤ n then c else r) 0

/-- f(t / white) of the CIE formulas in units of 2^-40, rounded down (R330). -/
def cieF (t white : Nat) : Nat :=
  if 216 * white < t * 24389 then icbrt (t * 2 ^ 120 / white) else 841 * t * 2 ^ 40 / (108 * white) + 4 * 2 ^ 40 / 29

/-- An output within ±0.02 of an exact value given in 2^-40 / 256 units: which of the values so near is open (R330). -/
def labNear (c : Nat) (t : List Nat) (exact lo hi : Int) : Int :=
  let one : Int := 2 ^ 40
  let slack : Int := 2 ^ 20
  let a := -(Int.fdiv (512 * one - 100 * (exact - slack)) (100 * one))
  let b := Int.fdiv (100 * (exact + slack) + 512 * one) (100 * one)
  clampI lo hi (a + ((Config.labPick c t) % (b - a + 1).toNat : Nat))

/-- The three outputs of column x: L*, a*, b* × 256 with LAB 1, t otherwise (R330). -/
def CtxFrame.output (f : CtxFrame) (k : Nat) (comps : List Nat) (x : Nat) : List Int :=
  let t := f.tone k comps x
  if f.opt F.ISP_K_CFG_LAB k = 0 then t.map (fun (v : Nat) => (v : Int))
  else
    let fx : Int := cieF (t.getD 0 0) 63189
    let fy : Int := cieF (t.getD 1 0) 65535
    let fz : Int := cieF (t.getD 2 0) 54060
    [labNear 0 t (256 * (116 * fy - 16 * 2 ^ 40)) 0 25600, labNear 1 t (256 * 500 * (fx - fy)) (-32767) 32767,
     labNear 2 t (256 * 200 * (fy - fz)) (-32767) 32767]

/-! ### Host rings (R333) -/

/-- May the device write host memory: the link is up and Bus Master Enable is set (R81). -/
def Dev.hostReach (d : Dev) : Bool := d.pwr.link && d.pwr.bme

/-- Bytes written into a byte ring from an offset, wrapping at its end. -/
def Dev.ringWrite (d : Dev) (kind unit base size off : Nat) (b : List Nat) : Dev :=
  let n := size - off
  let d := d.emit (.ring kind unit (base + off) (b.take n))
  if b.length ≤ n then d else d.emit (.ring kind unit base (b.drop n))

/-- A record of whole 64-byte units joins a ring, or does not fit: the ring of size bytes is free from WR up to RD, less 64 bytes. -/
def Dev.ringRecord (d : Dev) (kind unit : Nat) (base size wr rd : Nat) (b : List Nat) : Option (Dev × Nat) :=
  let used := (wr + size - rd % Nat.max 1 size) % Nat.max 1 size
  if d.hostReach && b.length + used + 64 ≤ size then some (d.ringWrite kind unit base size wr b, (wr + b.length) % size) else none

/-- The words of a record as bytes, padded to a multiple of 64. -/
def pad64Bytes (b : List Nat) : List Nat := b ++ List.replicate (pad64 b.length - b.length) 0

/-- Words as bytes. -/
def wordBytes (ws : List Nat) : List Nat := ws.flatMap (bytesLE 4)

/-! ### Streams (R332) -/

/-- Crop of a stream: its first column and number of columns, within the window. -/
def CtxFrame.crop (f : CtxFrame) (k j : Nat) : Nat × Nat :=
  let w := (f.window k).2
  let x := Nat.min (f.opt F.ISP_K_S_CROP_X0 k j) w
  (x, Nat.min (f.opt F.ISP_K_S_CROP_W k j) (w - x))

/-- Sums of components over each group of HS columns of a line's outputs. -/
def hsSums (hs n : Nat) (px : List (List Int)) : List (List Int) :=
  ((chunks hs n px).take n).map (fun g => (List.range 3).map (fun c => (g.map (fun p => p.getD c 0)).sum))

/-- A mean, rounded half up. -/
def meanUp (s : Int) (n : Nat) : Int := roundDiv s (Nat.max 1 n)

/-- The bytes of an output pixel (R332). -/
def pixelBytes (fmt : Nat) (lab : Bool) (m : List Int) : List Nat :=
  let out8 : List Nat := if lab then
      [(clampI 0 255 (roundDiv (m.getD 0 0 * 255) 25600)).toNat, (clampI 0 255 (roundDiv (m.getD 1 0) 256 + 128)).toNat,
       (clampI 0 255 (roundDiv (m.getD 2 0) 256 + 128)).toNat]
    else m.map (fun v => v.toNat / 256 % 256)
  match fmt with
  | 1 => m.flatMap (fun v => bytesLE 2 (unsigned 16 v))
  | 2 => out8
  | 3 => out8.take 1
  | _ => []

/-- A stream drops a record (R333). -/
def Dev.streamLost (d : Dev) (k j : Nat) : Dev := (d.bump F.ISP_K_S_LOST k j).irq F.ISP_IRQ_STAT F.ISP_IRQ_EN (16 + k) (some F.ISP_VEC)

/-- The record of an output line. -/
def CtxFrame.lineRecord (f : CtxFrame) (k j out : Nat) (acc : IspAcc) : List Nat :=
  let n := f.opt F.ISP_K_S_FMT_HS k j * acc.rows
  let px := acc.sums.flatMap (fun s => pixelBytes (f.opt F.ISP_K_S_FMT_FMT k j) (f.opt F.ISP_K_CFG_LAB k = 1) (s.map (fun v => meanUp v n)))
  pad64Bytes (wordBytes [2 * 2 ^ 28 + j * 2 ^ 22 + k * 2 ^ 16 + f.gen, f.no, out, acc.sums.length] ++ px)

/-- An output line of a stream is whole: it is written, unless all its lines were dropped or the ring has no size (R332, R333). -/
def Dev.streamPut (d : Dev) (k j : Nat) (f : CtxFrame) (out : Nat) (acc : IspAcc) : Dev × CtxFrame :=
  let f' := { f with accs := setAt f.accs j (fun _ => {}) }
  if acc.rows = 0 || d.get F.ISP_K_S_SIZE k j = 0 then (d, f')
  else
    match d.ringRecord 1 (4 * k + j) (d.get F.ISP_K_S_BASE k j * 4096) (d.get F.ISP_K_S_SIZE k j * 4096) (d.get F.ISP_K_S_WR k j * 64)
        (d.get F.ISP_K_S_RD k j * 64) (f.lineRecord k j out acc) with
    | some (d, wr) => (d.set F.ISP_K_S_WR (wr / 64) k j, f')
    | none => (d.streamLost k j, { f' with lost := true })

/-- One input line of a stream: received (its outputs over the window) or dropped; a whole output line is written, unless all its lines were dropped. -/
def Dev.streamLine (d : Dev) (k j : Nat) (f : CtxFrame) (px : Option (List (List Int))) : Dev × CtxFrame :=
  if f.opt F.ISP_K_S_FMT_FMT k j = 0 then (d, f)
  else
    let cr := f.crop k j
    let hs := f.opt F.ISP_K_S_FMT_HS k j
    let vs := f.opt F.ISP_K_S_FMT_VS k j
    let n := cr.2 / hs
    let acc := f.accs.getD j {}
    let acc : IspAcc := match px with
      | some l =>
        let s := hsSums hs n (l.drop cr.1)
        { sums := if acc.rows = 0 then s else (acc.sums.zip s).map (fun e => (e.1.zip e.2).map (fun v => v.1 + v.2)), rows := acc.rows + 1 }
      | none => acc
    if (f.next + 1) % vs = 0 then d.streamPut k j f (f.next / vs) acc
    else (d, { f with accs := setAt f.accs j (fun _ => acc) })

/-! ### Statistics (R334) -/

/-- A pixel joins a cell. -/
def IspCell.add (c : IspCell) (p : List Int) : IspCell :=
  let v := p.getD 0 0
  { n := c.n + 1, s0 := c.s0 + v, s1 := c.s1 + p.getD 1 0, s2 := c.s2 + p.getD 2 0, q0 := c.q0 + v.natAbs * v.natAbs,
    mn := if c.n = 0 || v < c.mn then v else c.mn, mx := if c.n = 0 || c.mx < v then v else c.mx }

/-- The grid's columns and rows; none when either is 0. -/
def CtxFrame.grid (f : CtxFrame) (k : Nat) : Nat × Nat :=
  let nx := f.opt F.ISP_K_GN_NX k
  let ny := f.opt F.ISP_K_GN_NY k
  if nx = 0 || ny = 0 then (0, 0) else (nx, ny)

/-- The outputs of a received line join the cells of its row. -/
def CtxFrame.statLine (f : CtxFrame) (k : Nat) (px : List (List Int)) : CtxFrame :=
  let g := f.grid k
  let gy := f.opt F.ISP_K_GORG_Y k
  let j := (f.next - gy) / f.opt F.ISP_K_GCELL_H k
  if gy ≤ f.next && j < g.2 then
    let segs := chunks (f.opt F.ISP_K_GCELL_W k) g.1 (px.drop (f.opt F.ISP_K_GORG_X k))
    { f with cells := segs.zipIdx.foldl (fun cs e => setAt cs (j * g.1 + e.2) (fun c => e.1.foldl IspCell.add c)) f.cells }
  else f

/-- The population standard deviation of component 0, rounded. -/
def IspCell.std (c : IspCell) : Nat :=
  let n := Nat.max 1 c.n
  (Nat.sqrt (4 * (c.n * c.q0 - c.s0.natAbs * c.s0.natAbs) / (n * n)) + 1) / 2

/-- The four words of a cell. -/
def IspCell.words (c : IspCell) : List Nat :=
  if c.n = 0 then [0, 0, 0, 0]
  else
    let m (s : Int) : Nat := unsigned 16 (meanUp s c.n)
    [m c.s1 * 65536 + m c.s0, c.std * 65536 + m c.s2, c.n, unsigned 16 c.mx * 65536 + unsigned 16 c.mn]

/-- The statistics record of a frame. -/
def CtxFrame.record (f : CtxFrame) (k : Nat) : List Nat :=
  let g := f.grid k
  wordBytes ([1 * 2 ^ 28 + b2n (f.dropped ≠ 0) * 2 ^ 27 + b2n f.mism * 2 ^ 26 + b2n f.ecc * 2 ^ 25 + b2n f.lost * 2 ^ 24 +
      f.opt F.ISP_K_CFG_LAB k * 2 ^ 23 + f.port * 2 ^ 20 + k * 2 ^ 16 + f.gen,
    f.no, f.start % 2 ^ 32, f.start / 2 ^ 32, f.lines, f.dropped, g.2 * 65536 + g.1, f.tag] ++ List.replicate 8 0 ++ f.cells.flatMap IspCell.words)

/-- The record that the Vintner loop keeps of a frame: from the context that VIN_CFG names, with VIN and LAB, a triggered port and a grid (R341). -/
def Dev.vinKeep (d : Dev) (k : Nat) (f : CtxFrame) : Dev :=
  let g := f.grid k
  if f.opt F.ISP_K_CFG_VIN k = 1 && f.opt F.ISP_K_CFG_LAB k = 1 && g.1 ≠ 0 && d.get F.VIN_CFG_CTX = k && d.flag F.VIN_CTRL_ENABLE && !(d.cam.getD f.port {}).free then
    let r : VinRec := { frame := f.no, first := f.first, lines := f.lines, bad := f.dropped ≠ 0 || f.mism || f.ecc, gx := f.opt F.ISP_K_GORG_X k,
                        gy := f.opt F.ISP_K_GORG_Y k, cw := f.opt F.ISP_K_GCELL_W k, ch := f.opt F.ISP_K_GCELL_H k, nx := g.1, ny := g.2, width := (f.window k).2,
                        cells := f.cells.map (fun c => [unsigned 16 (meanUp c.s0 c.n), unsigned 16 (meanUp c.s1 c.n), unsigned 16 (meanUp c.s2 c.n), c.n]) }
    { d with vin := { d.vin with recs := d.vin.recs ++ [r] } }
  else d

/-- A frame of a context ends: its record is written or lost, and its causes are set (R334, R337). -/
def Dev.ctxFrameEnd (d : Dev) (k : Nat) (f : CtxFrame) : Dev :=
  let d := if d.get F.ISP_K_SSIZE k = 0 then d
    else match d.ringRecord 2 k (d.get F.ISP_K_SBASE k * 4096) (d.get F.ISP_K_SSIZE k * 4096) (d.get F.ISP_K_SWR k * 64) (d.get F.ISP_K_SRD k * 64)
        (f.record k) with
      | some (d, wr) => d.set F.ISP_K_SWR (wr / 64) k
      | none => (d.bump F.ISP_K_CNT_STAT_LOST k).irq F.ISP_IRQ_STAT F.ISP_IRQ_EN (16 + k) (some F.ISP_VEC)
  let d := d.irq F.ISP_IRQ_STAT F.ISP_IRQ_EN k (some F.ISP_VEC)
  let d := if f.dropped ≠ 0 then (d.bump F.ISP_K_CNT_INCOMPLETE k).irq F.ISP_IRQ_STAT F.ISP_IRQ_EN (8 + k) (some F.ISP_VEC) else d
  d.vinKeep k f

/-! ### Buffers and frames -/

/-- The device with a camera port changed. -/
def Dev.modCam (d : Dev) (n : Nat) (f : CamSt → CamSt) : Dev := { d with cam := setAt d.cam n f }

/-- A camera port's state. -/
def Dev.camSt (d : Dev) (n : Nat) : CamSt := d.cam.getD n {}

/-- The device with a context changed. -/
def Dev.modCtx (d : Dev) (k : Nat) (f : IspCtx → IspCtx) : Dev := { d with isp := setAt d.isp k f }

/-- A context's state. -/
def Dev.ctxSt (d : Dev) (k : Nat) : IspCtx := d.isp.getD k {}

/-- The port that a context reads, as in force. -/
def Dev.srcOf (d : Dev) (k : Nat) : Nat := (d.ctxSt k).force.get F.ISP_K_CFG_SRC k 0

/-- Does some context still need line l of frame f of port n. -/
def Dev.lineNeeded (d : Dev) (n f l : Nat) : Bool := d.isp.any (fun x => x.frames.any (fun g => g.port = n && g.no = f && g.next ≤ l))

/-- Lines that every context has processed leave the buffer, and frames wholly processed are forgotten (R325). -/
def Dev.purge (d : Dev) (n : Nat) : Dev :=
  d.modCam n (fun c => { c with buf := c.buf.filter (fun b => d.lineNeeded n b.frame b.line),
                                frames := c.frames.filter (fun g => g.got < g.lines || d.isp.any (fun x => x.frames.any (fun h => h.port = n && h.no = g.no))) })

/-- A fault source falls due: it is reported once the reaction under way has ended. -/
def Dev.owe (d : Dev) (src : Nat) : Dev := { d with flt := { d.flt with due := d.flt.due ++ [src] } }

/-- A frame of a context ends with its remaining lines dropped: an output line begun averages the lines received, when the frame gives it (R320, R332). -/
def Dev.cutFrame (d : Dev) (k : Nat) (f : CtxFrame) : Dev :=
  let q := (List.range 3).foldl (fun (a : Dev × CtxFrame) j =>
    let vs := f.opt F.ISP_K_S_FMT_VS k j
    if f.opt F.ISP_K_S_FMT_FMT k j ≠ 0 && (f.next / vs + 1) * vs ≤ f.lines then a.1.streamPut k j a.2 (f.next / vs) (f.accs.getD j {}) else a) (d, f)
  let d := q.1.ctxFrameEnd k { q.2 with dropped := f.dropped + (f.lines - f.next) }
  if q.2.lost && !f.lost then d.owe (269 + k) else d

/-- The frames of a port's contexts end as incomplete (R320). -/
def Dev.endCtxFrames (d : Dev) (n : Nat) : Dev :=
  (List.range 8).foldl (fun d k =>
    let fs := (d.ctxSt k).frames
    let d := (fs.filter (fun f => f.port = n)).foldl (fun d f => d.cutFrame k f) d
    d.modCtx k (fun x => { x with frames := x.frames.filter (fun f => f.port ≠ n) })) d

/-- A control command ends with a result (R321). -/
def Dev.ctlEnd (d : Dev) (n result : Nat) : Dev :=
  (((d.set F.CAM_P_CTL_BUSY 0 n).set F.CAM_P_CTL_RESULT result n).modCam n (fun c => { c with ctlEnd := none })).irq
    F.CAM_IRQ_STAT F.CAM_IRQ_EN (4 + n) (some F.CAM_VEC)

/-- A control command in progress ends when its port leaves RUNNING (R321). -/
def Dev.ctlDown (d : Dev) (n : Nat) : Dev := if d.flag F.CAM_P_CTL_BUSY n then d.ctlEnd n 3 else d

/-- A camera port is held as with ENABLE 0 (R320, R409). -/
def Dev.stopCamera (d : Dev) (n : Nat) : Dev :=
  if d.get F.CAM_P_STAT_STATE n = 0 then d
  else
    let d := ((d.set F.CAM_P_STAT_STATE 0 n).set F.CAM_P_STAT_LOCK 0 n).ctlDown n
    let d := d.endCtxFrames n
    d.modCam n (fun c => { c with falls := [], frames := [], current := none, buf := [], hand := [] })

/-- A camera port starts as after ENABLE 0 to 1 (R320, R410). -/
def Dev.startCamera (d : Dev) (n : Nat) : Dev :=
  if d.flag F.CAM_P_LINK_ENABLE n && d.pwr.st = .on then
    let d := ((d.set F.CAM_P_STAT_STATE 1 n).set F.CAM_P_STAT_LOCK 0 n).set F.CAM_P_FRAMENO 0 n
    let d := (d.set F.CAM_P_GEN 0 n).set F.CAM_P_COMMIT_GEN 0 n
    let d := if d.srcOf (d.get F.VIN_CFG_CTX) = n then { d with vin := { d.vin with trigs := [], recs := [] } } else d
    d.modCam n (fun c => { c with free := d.flag F.CAM_P_TRIG_FREE n, conns := d.get F.CAM_P_LINK_CONNS n, format := d.get F.CAM_P_LINK_FORMAT n,
                                  width := d.get F.CAM_P_LINK_WIDTH n, trig := 0, lastHit := none, falls := [], nextF := 0, frameNo := 0, frames := [], image := 0,
                                  current := none, resync := false, buf := [], slot := 0, hand := [] })
  else d

/-- The pipeline is held as with EN 0: the frames that its contexts process end (R409). -/
def Dev.stopIsp (d : Dev) : Dev := (List.range 4).foldl (fun d n => (d.endCtxFrames n).purge n) d

end Sys2Proof.Machine
end

