-- ==== Sys2Proof/Machine/LineCode.lean ====
section
/-! DEFINITION. The line code of the head links (file 08, R238 to R245, R248): frame words, scrambler, stuff bits, markers, the priming burst, the three taps
of a transmitter, the forward lane of a port and the receiver of its back channel. -/

namespace Sys2Proof.Machine

/-! ### Words and frames (R239, R245) -/

/-- The bits of a word in the order they are sent. -/
def wordBits (w : Nat) : List Bool := (List.range 32).map (fun k => w.testBit k)

/-- The CRC-8 of R245 over bytes. -/
def linkCrc (bytes : List Nat) : Nat := crc8 0x07 0 bytes

/-- Bytes of payload words. -/
def hlkBytes (ws : List Nat) : List Nat := ws.flatMap (bytesLE 4)

/-- A header word. -/
def frameHeader (ftype len port : Nat) : Nat :=
  ftype * 2 ^ 28 + len % 4096 * 2 ^ 16 + port * 2 ^ 8 + linkCrc [port, len % 256, ftype * 16 + len / 256 % 16]

/-- The words of a frame: header, payload, trailer. -/
def frameWords (port ftype : Nat) (payload : List Nat) : List Nat :=
  let ws := frameHeader ftype payload.length port :: payload
  ws ++ [crc32 (hlkBytes ws)]

/-! ### Scrambler, stuff bits and markers (R240 to R243) -/

/-- The scrambler's state at the first bit after the marker that ends a priming burst. -/
def scramblerSeed : Nat := 0x3FFFFFFFFFFFFFF

/-- A bit and the state's two taps: what the scrambler sends for a frame bit, and what the descrambler reads from a scrambled one. -/
def scrambleBit (st : Nat) (b : Bool) : Bool := (b ^^ st.testBit 38) ^^ st.testBit 57

/-- The state takes a scrambled bit. -/
def scramblerStep (st : Nat) (s : Bool) : Nat := (2 * st + b2n s) % 2 ^ 58

/-- The bits that go out for a scrambled bit: itself, and the opposite one after 24 equal bits (R241). -/
def LaneTx.bit (t : LaneTx) (s : Bool) : List Bool × LaneTx :=
  let n := if t.run ≠ 0 && t.runBit = s then t.run + 1 else 1
  if n = 24 then ([s, !s], { t with runBit := !s, run := 1 }) else ([s], { t with runBit := s, run := n })

/-- A frame bit is scrambled and sent. -/
def LaneTx.frameBit (t : LaneTx) (b : Bool) : List Bool × LaneTx :=
  let s := scrambleBit t.scr b
  ({ t with scr := scramblerStep t.scr s } : LaneTx).bit s

/-- Frame bits are sent in their order. -/
def LaneTx.frameBits : List Bool → LaneTx → List Bool × LaneTx
  | [], t => ([], t)
  | b :: r, t =>
    let x := t.frameBit b
    let y := LaneTx.frameBits r x.2
    (x.1 ++ y.1, y.2)

/-- A frame word is sent. -/
def LaneTx.word (t : LaneTx) (w : Nat) : List Bool × LaneTx :=
  let x := LaneTx.frameBits (wordBits w) t
  (x.1, { x.2 with words := x.2.words + 1 })

/-- Words are sent up to the next marker position of `gap` words: the bits, and the words left. -/
def LaneTx.puts (gap : Nat) : List Nat → LaneTx → List Bool × List Nat × LaneTx
  | [], t => ([], [], t)
  | w :: ws, t =>
    if gap ≤ t.words then ([], w :: ws, t)
    else
      let x := t.word w
      let y := LaneTx.puts gap ws x.2
      (x.1 ++ y.1, y.2)

/-- The bits of a marker (R242). -/
def markerBits (mcount : Nat) : List Bool := wordBits 0xE0000001 ++ wordBits (0x1FFFFFF + mcount % 64 * 2 ^ 26)

/-- The ABORT pattern (R243). -/
def abortBits : List Bool := wordBits 0x1FFFFFFE ++ wordBits 0x02000000

/-- The pointer word (R242). Its CRC-8 takes bits [7:0], [15:8], [23:16] in that order, as a header's does (DEDUCED). -/
def pointerWord (next : Nat) : Nat := next % 1024 + linkCrc (bytesLE 3 (next % 1024)) * 2 ^ 24

/-- A marker and its pointer word with what is left of the frame under way: the run count restarts, the scrambler holds (R240 to R242). -/
def LaneTx.marker (t : LaneTx) (mcount : Nat) : List Bool × LaneTx :=
  let x := ({ t with run := 0, words := 0 } : LaneTx).word (pointerWord t.cur.length)
  (markerBits mcount ++ x.1, x.2)

/-- n bits of PRBS7: x^7 + x^6 + 1 from all ones, the output taken from the last stage (R248). -/
def prbs7 : Nat → Nat → List Bool
  | 0, _ => []
  | n + 1, st => st.testBit 6 :: prbs7 n ((2 * st + b2n (st.testBit 6 ^^ st.testBit 5)) % 128)

/-- The words of a priming burst at a lane rate in Mbit/s (R248). -/
def primingWords (mb : Nat) : Nat := cdiv (2 * mb) 32

/-- The bits of a priming burst. -/
def primingBits (mb : Nat) : List Bool := prbs7 (32 * primingWords mb) 127

/-! ### The transmitter's taps (R238) -/

/-- 1 or −1 for a bit. -/
def bitSign (b : Bool) : Int := if b then 1 else -1

/-- The output of a transmitter for a bit with the one after and the one before it, in 1/128 mV: SWING / 2 times the three taps. -/
def Dev.laneLevel (d : Dev) (p : Nat) (next cur prev : Bool) : Int :=
  let pre : Int := d.get F.HLK_TXEQ_PRE p
  let post : Int := d.get F.HLK_TXEQ_POST p
  (400 + 50 * (d.get F.HLK_TXEQ_SWING p : Int)) * (-pre * bitSign next + (64 - pre - post) * bitSign cur - post * bitSign prev)

/-! ### The forward lane of a port -/

/-- The lane rate of a group in Mbit/s (R236). -/
def laneMb (rate : Nat) : Nat := [3125, 5000, 6250, 8000].getD rate 6250

/-- The lane rate of a port in Mbit/s. -/
def Dev.mbOf (d : Dev) (p : Nat) : Nat := laneMb (d.groups.getD (groupOf p) {}).rate

/-- The time that n words take on a lane, in ns, rounded up. -/
def Dev.wordsNs (d : Dev) (p n : Nat) : Nat := cdiv (n * 32000) (d.mbOf p)

/-- The device with a port's lane changed. -/
def Dev.modTx (d : Dev) (p : Nat) (f : LaneTx → LaneTx) : Dev := d.modPort p (fun q => { q with tx := f q.tx })

/-- Does a port's lane carry frames. -/
def HlkPort.onLane (q : HlkPort) : Bool := q.tx.mode = .on

/-- Is a frame under way. -/
def Dev.underWay (d : Dev) (p : Nat) : Bool := !(d.port p).tx.cur.isEmpty || d.now < (d.port p).tx.endAt

/-- Bits appear on a lane. -/
def Dev.lineOut (d : Dev) (p : Nat) (bits : List Bool) : Dev := if bits.isEmpty then d else d.emit (.line p bits)

/-- Up to n words of the frame under way go out, none past the marker position. -/
def Dev.putFrame (d : Dev) (p n : Nat) : Dev :=
  let t := (d.port p).tx
  let x := LaneTx.puts 1024 (t.cur.take n) t
  (d.modTx p (fun _ => { x.2.2 with cur := x.2.1 ++ t.cur.drop n })).lineOut p x.1

/-- n IDLE words go out (R245). -/
def Dev.putIdle (d : Dev) (p n : Nat) : Dev :=
  let x := LaneTx.puts 1024 (List.replicate n 0) (d.port p).tx
  (d.modTx p (fun _ => x.2.2)).lineOut p x.1

/-- The priority of a frame type (R246); 3 is a retransmission. -/
def framePriority (ftype : Nat) : Nat :=
  match ftype with
  | 4 => 1
  | 3 => 2
  | 1 | 2 => 4
  | _ => 5

/-- Does a record of a port wait to be sent or sent again. -/
def HlkPort.recWaits (q : HlkPort) : Bool := q.recs.any (fun r => r.sent = 0 || r.again)

/-- A frame starts on a lane. -/
def Dev.laneStart (d : Dev) (p ftype : Nat) (payload : List Nat) : Dev :=
  let ws := frameWords p ftype payload
  (d.modTx p (fun t => { t with ftype, cur := ws, total := ws.length, startAt := d.now, endAt := d.now + d.wordsNs p ws.length })).emit (.lane p ftype payload)

/-- The waiting frame that starts next: of the highest priority, the oldest; one of priority 5 only while no record waits, unless `all`. -/
def HlkPort.nextFrame (q : HlkPort) (all : Bool) : Option (Nat × List Nat) :=
  let may (f : Nat × List Nat) : Bool := all || framePriority f.1 ≤ 2 || !q.recWaits
  [1, 2, 5].findSome? (fun k => q.tx.waits.find? (fun f => framePriority f.1 = k && may f))

/-- A lane at the present time: a frame whose time has passed has gone out, and at a frame boundary a waiting one starts (R246). -/
def Dev.laneTick (d : Dev) (p : Nat) : Dev :=
  let q := d.port p
  if !q.onLane || d.now < q.tx.endAt then d
  else
    let d := d.putFrame p q.tx.cur.length
    if !(d.port p).tx.cur.isEmpty then d
    else match (d.port p).nextFrame false with
      | some f => (d.modTx p (fun t => { t with waits := t.waits.erase f })).laneStart p f.1 f.2
      | none => d

/-- A frame waits for its lane; it starts at once at a frame boundary. -/
def Dev.laneSend (d : Dev) (p ftype : Nat) (payload : List Nat) : Dev :=
  (d.modTx p (fun t => { t with waits := t.waits ++ [(ftype, payload)] })).laneTick p

/-- A TIME frame after a marker: LINK_h enters T_ARR in steps of at most 0.25 ns (R249, R250). -/
def Dev.sendTime (d : Dev) (p : Nat) : Dev :=
  let q := d.port p
  let link := q.linkOut + clampI (-64) 64 ((d.get F.HLK_LINK p : Int) - q.linkOut)
  let t := unsigned 96 (d.fineT + link * 16777216)
  (d.modPort p (fun q => { q with linkOut := link })).laneSend p 3
    [q.mFwd, t / 2 ^ 32 % 2 ^ 32, t / 2 ^ 64, t % 2 ^ 32, unsigned 32 ((d.tb.add : Int) - 4294967296)]

/-- The next marker and its pointer word go out; the first frame to begin after them is a TIME frame (R242, R249). -/
def Dev.markerOut (d : Dev) (p : Nat) : Dev :=
  let d := d.modPort p (fun q => { q with mFwd := (q.mFwd + 1) % 64 })
  let x := (d.port p).tx.marker (d.port p).mFwd
  (((d.modTx p (fun _ => x.2)).emit (.marker p (d.port p).mFwd)).lineOut p x.1).sendTime p

/-- The marker position of a lane is reached: what is left of the frame under way goes out up to it, IDLE words where none is under way, and the marker follows.
All IDLE words of a marker period so go out as it ends: how many lie between two frames is timing (DESIGN CHOICE). -/
def Dev.markerPoint (d : Dev) (p : Nat) : Dev :=
  let d := d.laneTick p
  let d := d.putFrame p (d.port p).tx.cur.length
  let d := if (d.port p).tx.cur.isEmpty then (d.putIdle p (1024 - (d.port p).tx.words)).modTx p (fun t => { t with endAt := Nat.min t.endAt d.now }) else d
  d.markerOut p

/-- Everything that waits goes out in its order, before the lane goes idle. -/
def Dev.laneFlush (p : Nat) : Nat → Dev → Dev
  | 0, d => d
  | k + 1, d =>
    let d := d.putFrame p (d.port p).tx.cur.length
    if !(d.port p).tx.cur.isEmpty then Dev.laneFlush p k (d.markerOut p)
    else match (d.port p).nextFrame true with
      | some f => Dev.laneFlush p k ((d.modTx p (fun t => { t with waits := t.waits.erase f, endAt := 0 })).laneStart p f.1 f.2)
      | none => d

/-- A lane that is on sends all that waits. -/
def Dev.laneDrain (d : Dev) (p : Nat) : Dev :=
  if (d.port p).onLane then (Dev.laneFlush p (4 * (d.port p).tx.waits.length + 8) d).modTx p (fun t => { t with endAt := d.now }) else d

/-- A FIRE, TICKLE or priority-5 frame under way is cut at the words already sent and ended with ABORT; a marker that is due goes first (R243, R254). -/
def Dev.laneAbort (d : Dev) (p : Nat) : Dev :=
  let t := (d.port p).tx
  if !d.underWay p || framePriority t.ftype ≤ 2 || t.mode ≠ .on then d
  else
    let gone := (d.now - t.startAt) * d.mbOf p / 32000 - (t.total - t.cur.length)
    let d := d.putFrame p gone
    let d := if 1024 ≤ (d.port p).tx.words then d.markerOut p else d
    ((d.modTx p (fun t => { t with cur := [], run := 0, endAt := d.now })).emit (.abort p)).lineOut p abortBits

/-- A lane leaves electrical idle with the priming burst (R248). -/
def Dev.primeLane (d : Dev) (p : Nat) (keep : Nat) : Dev :=
  ((d.modPort p (fun q => { q with mFwd := 0, tx := { mode := .priming, waits := q.tx.waits.filter (fun f => framePriority f.1 ≤ keep) } })).emit
    (.priming p)).lineOut p (primingBits (d.mbOf p))

/-- The burst's marker and pointer word have gone out: the scrambler is seeded, and TIME is the first frame (R240, R242, R248, R249). -/
def Dev.laneReady (d : Dev) (p : Nat) : Dev :=
  let d := d.modPort p (fun q => { q with mFwd := 0, tx := { mode := .on, waits := q.tx.waits } })
  let x := (d.port p).tx.marker 0
  ((d.modTx p (fun _ => x.2)).lineOut p x.1).sendTime p

/-- The lane goes to electrical idle (R248). -/
def Dev.laneOff (d : Dev) (p : Nat) : Dev := (d.modTx p (fun _ => {})).emit (.laneIdle p)

/-! ### The receiver of a back channel (R240 to R245) -/

/-- What a receiver finds in its bits. -/
inductive LaneEvent where
  | marker (mcount : Nat)
  | markerMissing
  | stuffViolation
  | badFrame
  | frame (ftype : Nat) (payload : List Nat)
  deriving DecidableEq, Repr

/-- The number of a marker that 64 bits form, the first sent in bit 0. -/
def markerOf (w : Nat) : Option Nat := if w % 2 ^ 58 = 0xE0000001 + 0x1FFFFFF * 2 ^ 32 then some (w / 2 ^ 58) else none

/-- A receiver after a marker: it discards words up to the pointer word; the marker that ends a priming burst seeds the descrambler. -/
def LaneRx.aligned (r : LaneRx) (mcount : Nat) : LaneRx :=
  { r with scr := if r.hunting && mcount = 0 then scramblerSeed else r.scr, blind := r.blind || r.hunting, frame := if r.hunting then [] else r.frame,
           hunting := false, missed := false, run := 0, nbits := 0, word := 0, words := 0, inMark := 0 }

/-- A receiver that has lost lock hunts for the next marker (R244). -/
def LaneRx.lost (r : LaneRx) : LaneRx := { r with hunting := true, blind := true, frame := [], window := 0 }

/-- A word outside the pointer position: a header, a word of the frame being gathered, or one to discard (R244, R245). -/
def LaneRx.frameWord (r : LaneRx) (w : Nat) : LaneRx × List LaneEvent :=
  if r.blind then (r, [])
  else if 0 < r.skip then ({ r with skip := r.skip - 1 }, [])
  else if r.frame.isEmpty then
    let ftype := w / 2 ^ 28
    let len := bits w 16 12
    if linkCrc [bits w 8 8, bits w 16 8, bits w 24 8] ≠ w % 256 then ({ r with blind := true }, [.badFrame])
    else if ftype = 0 then (r, [])
    else if 6 < ftype then ({ r with skip := len + 1 }, [.badFrame])
    else ({ r with frame := [w], need := len + 1 }, [])
  else
    let ws := r.frame ++ [w]
    if 1 < r.need then ({ r with frame := ws, need := r.need - 1 }, [])
    else
      let body := ws.take (ws.length - 1)
      ({ r with frame := [] }, if crc32 (hlkBytes body) = w then [.frame (body.headD 0 / 2 ^ 28) body.tail] else [.badFrame])

/-- A descrambled word: the first after a marker is the pointer word, which tells a receiver without a place where the next header is (R242). -/
def LaneRx.takeWord (r : LaneRx) (w : Nat) : LaneRx × List LaneEvent :=
  let first := r.words = 0
  let r := { r with words := r.words + 1 }
  if !first then r.frameWord w
  else if r.blind && linkCrc (bytesLE 3 w) = w / 2 ^ 24 then ({ r with blind := false, skip := bits w 0 10, frame := [] }, [])
  else (r, [])

/-- A descrambled bit is gathered into a word; the 32nd completes it. -/
def LaneRx.gather (r : LaneRx) (b : Bool) : LaneRx × List LaneEvent :=
  let v := r.word + b2n b * 2 ^ r.nbits
  if r.nbits = 31 then ({ r with nbits := 0, word := 0 } : LaneRx).takeWord v else ({ r with nbits := r.nbits + 1, word := v }, [])

/-- A scrambled bit: the bit after 24 equal ones is dropped, any other descrambled and gathered into a word (R240, R241). -/
def LaneRx.takeBit (r : LaneRx) (b : Bool) : LaneRx × List LaneEvent :=
  let n := if r.run ≠ 0 && r.runBit = b then r.run + 1 else 1
  if r.run = 24 then
    if r.runBit = b then (r.lost, [.stuffViolation]) else ({ r with runBit := b, run := 1 }, [])
  else ({ r with runBit := b, run := n, scr := scramblerStep r.scr b } : LaneRx).gather (scrambleBit r.scr b)

/-- A receiver takes a bit of its line: it hunts for a marker, expects one after 256 words, or takes a scrambled bit. A marker missing once is passed over;
the second time in a row lock is lost (R244). -/
def LaneRx.step (r : LaneRx) (b : Bool) : LaneRx × List LaneEvent :=
  let r := { r with window := r.window / 2 + b2n b * 2 ^ 63 }
  if r.hunting then
    match markerOf r.window with
    | some m => (r.aligned m, [.marker m])
    | none => ({ r with scr := scramblerStep r.scr b }, [])
  else if r.words = 256 && r.run ≠ 24 then
    if r.inMark < 63 then ({ r with inMark := r.inMark + 1, run := 0 }, [])
    else match markerOf r.window with
      | some m => (r.aligned m, [.marker m])
      | none => if r.missed then (r.lost, [.markerMissing]) else ({ r with missed := true, run := 0, nbits := 0, word := 0, words := 0, inMark := 0 }, [])
  else r.takeBit b

/-- A receiver takes bits in their order. -/
def LaneRx.steps : List Bool → LaneRx → LaneRx × List LaneEvent
  | [], r => (r, [])
  | b :: bs, r =>
    let x := r.step b
    let y := LaneRx.steps bs x.1
    (y.1, x.2 ++ y.2)

end Sys2Proof.Machine
end

