-- ==== Sys2Proof/Machine/Reactions.lean ====
section
/-! DEFINITION. What the parts of the device do to one another when something goes wrong: defect records, inhibits, the
stop trigger, fences, and the report of a fault source with its reaction (files 07, 08 and 15). -/

namespace Sys2Proof.Machine

/-! ### Job records and defect ranges (R89, R212) -/

/-- A job record joins its event ring's queue of 64, or is dropped and counted in CQ_LOST (R89). -/
def Dev.pushJobRec (d : Dev) (i : Nat) (type status event count line : Nat) : Dev :=
  let j := d.job i
  let r := j.ctx.evtRing
  let rec' : CqRec := { type, status, tag := d.jobTag i, cookie := j.ctx.user, event, sqIndex := 0, count, line, time := d.T, irq := true }
  if (d.rings.getD r {}).jobQ.length < 64 then
    { d with rings := setAt d.rings r (fun g => { g with jobQ := g.jobQ ++ [rec'] }) }
  else d.bump F.SLU_R_CNT_CQ_LOST r

/-- A defect range closes and its JOB_DEFECT record is formed (R100, R110, R212). -/
def Dev.closeRange (d : Dev) (i : Nat) (g : DefectRange) : Dev :=
  let d := d.modJob i (fun j => { j with ranges := j.ranges.filter (· ≠ g), defects := sat 0xFFFFFFFF (j.defects + 1) })
  d.pushJobRec i 3 0 (g.cause * 256 + g.bar) g.count g.first

/-- The ranges of a job that meet a condition close. -/
def Dev.closeRanges (d : Dev) (i : Nat) (p : DefectRange → Bool) : Dev :=
  ((d.job i).ranges.filter p).foldl (fun d g => d.closeRange i g) d

/-- Has a job ended: DONE, or aborted with nothing left in the spouts. -/
def Job.ended (j : Job) : Bool := j.st = .done || ((j.st = .aborted || j.st = .draining) && j.bars.all (fun x => x.cutAt.isNone))

/-- A press line joins the open range of its bar and cause where it lies in it or follows it; else that one closes and a new one opens (R212). -/
def Dev.joinRange (d : Dev) (i bar cause line : Nat) : Dev :=
  let new : DefectRange := { bar, cause, first := line, count := 1 }
  match (d.job i).ranges.find? (fun g => g.bar = bar && g.cause = cause) with
  | some g =>
    if g.first ≤ line && line < g.first + g.count then d
    else if line = g.first + g.count then d.modJob i (fun j => { j with ranges := j.ranges.map (fun h => if h = g then { g with count := g.count + 1 } else h) })
    else (d.closeRange i g).modJob i (fun j => { j with ranges := j.ranges ++ [new] })
  | none => d.modJob i (fun j => { j with ranges := j.ranges ++ [new] })

/-- A press line joins the open range of its bar and cause, or opens one; ranges of the bar that are another job's, or another cause's and do not hold the line, close: at
most one range of a bar and cause is open (R212). The model's choice: for a job that has ended the record is formed at once. -/
def Dev.addRange (d : Dev) (i bar cause line : Nat) : Dev :=
  let d := (d.jobs.filter (fun e => e.1 ≠ i)).foldl (fun d e => d.closeRanges e.1 (fun g => g.bar = bar)) d
  let d := d.closeRanges i (fun g => g.bar = bar && g.cause ≠ cause && !(g.first ≤ line && line < g.first + g.count))
  let d := d.joinRange i bar cause line
  if (d.job i).ended then d.closeRanges i (fun _ => true) else d

/-- What one line of a job means for the bar's ranges: ranges of other causes and of other jobs close, those of its own causes grow (R212). -/
def Dev.lineCauses (d : Dev) (i bar line : Nat) (causes : List Nat) : Dev :=
  let d := (d.jobs.filter (fun e => e.1 ≠ i)).foldl (fun d e => d.closeRanges e.1 (fun g => g.bar = bar)) d
  let d := d.closeRanges i (fun g => g.bar = bar && !has causes g.cause)
  causes.foldl (fun d c => d.addRange i bar c line) d

/-- A line of a bar is dropped for the job that covers it: DROPPED range (R212). -/
def Dev.dropRange (d : Dev) (bar line : Nat) : Dev :=
  match d.jobAtLine bar line with
  | some (i, _) => d.addRange i bar 1 line
  | none => d

/-! ### The fire gate (R223) -/

/-- The conditions of the fire gate: ENABLE, the head interlock closed, no SAFE reaction in force and none held until release (R223, R408), and
neither TEST_MODE (R456), a thermal shutdown (R426) nor a lack of power. -/
def Dev.gateOpen (d : Dev) : Bool :=
  d.flag F.FIRE_CTRL_ENABLE && !d.pins.ilkHead && d.flt.safes.isEmpty && d.flt.released &&
    !d.pins.testMode && !d.flag F.THM_STAT_SHUT_LATCH && d.pwr.st = .on

/-- Is FLT_OUT in the fault state (R416). -/
def Dev.outFault (d : Dev) : Bool := !d.flt.safes.isEmpty || !d.flt.released

/-- The levels of FLT_OUT_P and FLT_OUT_N (R416). -/
def Dev.fltOut (d : Dev) : Bool × Bool :=
  if d.outFault then (false, true)
  else if d.flag F.FLT_CFG_HB_EN then (d.flt.outP, !d.flt.outP) else (true, false)

/-- DRV_HOLD (R407): the stop sequence's request of R228, the collector's request, a thermal shutdown (R426), and TEST_MODE (R456). -/
def Dev.drvHold (d : Dev) : Bool :=
  (match d.fire.stop.st with | .holding | .reversing | .waiting => true | _ => false) ||
    d.outFault || d.pins.testMode || d.flag F.THM_STAT_SHUT_LATCH

/-- DRV_REV (R228). -/
def Dev.drvRev (d : Dev) : Bool := d.fire.stop.rev

/-- DRV_SPEED_LIM (R213). -/
def Dev.drvSpeedLim (d : Dev) : Bool := d.fire.speedLim || d.flag F.THM_STAT_SLOW_REQ

/-! ### Lanes -/

/-- R254: a FIRE, TICKLE or priority-5 frame under way is ended with ABORT, INHIBIT is sent (a lane in electrical idle sends it when it wakes), the records that the head or the lane still holds are discarded
and their lines join DROPPED ranges. Records already sent wait for the head's one confirmation. -/
def Dev.inhibitPort (d : Dev) (p reason : Nat) : Dev :=
  let d := (d.laneAbort p).laneSend p 4 [reason]
  let recs := (d.port p).recs
  let d := (recs.filter (fun r => !r.tickle)).foldl (fun d r =>
    match r.job with | some i => d.addRange i r.bar 1 r.line | none => d) d
  d.modPort p (fun q => { q with recs := (q.recs.filter (fun r => 0 < r.sent)).map (fun r => { r with acked := true }) })

/-- The inhibit of every head when the gate closes (R223). -/
def Dev.inhibitAll (d : Dev) : Dev :=
  (List.range 192).foldl (fun d p => if (d.port p).onLane then d.inhibitPort p 1 else d) d

/-! ### The lamp gate (R370) -/

/-- A lamp channel's state. -/
def Dev.lampCh (d : Dev) (c : Nat) : LampCh := d.lamps.chans.getD c {}

/-- Does the lamp controller run: power is on and LMP_CTRL.ENABLE is 1. -/
def Dev.lampsOn (d : Dev) : Bool := d.pwr.st = .on && d.flag F.LMP_CTRL_ENABLE

/-- Is a channel a UV channel: its bit of SAFE_UV_CH_MASK as taken under R64. -/
def Dev.uvChannel (d : Dev) (c : Nat) : Bool := bit (d.bonded 10) c

/-- Is a channel's line held low: every channel at a thermal shutdown and in TEST_MODE (R456), a UV channel by ILK_UV_N or a SAFE reaction (R370). -/
def Dev.lampHeld (d : Dev) (c : Nat) : Bool :=
  d.flag F.THM_STAT_SHUT_LATCH || d.pins.testMode ||
    (d.uvChannel c && (d.pins.ilkUv || (d.flt.released && !d.flt.safes.isEmpty)))

/-- STATUS of a channel takes a value; a change sets STATUS_CHG, and each entry to INTERLOCK sets UV_OFF (R371, R375). -/
def Dev.lampMark (d : Dev) (c st : Nat) : Dev :=
  if d.get F.LMP_C_STAT_STATUS c = st then d
  else
    let d := (d.set F.LMP_C_STAT_STATUS st c).irq F.LMP_IRQ_STAT F.LMP_IRQ_EN c none
    if st = 5 then d.irq F.LMP_IRQ_STAT F.LMP_IRQ_EN 16 none else d

/-- The channels whose lines are held low show INTERLOCK at once; their return is looked at when a period is formed (R370, R371). -/
def Dev.lampGate (d : Dev) : Dev :=
  if d.lampsOn then
    (List.range 16).foldl (fun d c => if d.lampHeld c then
      { d.lampMark c 5 with lamps := { d.lamps with chans := setAt d.lamps.chans c (fun x => { x with dim := [], depends := [], judge := 0, await := 0 }) } } else d) d
  else d

/-- What follows when a change closes the gate or moves FLT_OUT (R223, R370, R416). -/
def Dev.settle (before after : Dev) : Dev :=
  let d := (if before.gateOpen && !after.gateOpen then after.inhibitAll else after).lampGate
  if before.fltOut ≠ after.fltOut then d.emit (.fltOut after.fltOut.1 after.fltOut.2) else d

/-- A command of the head memory that the host started ends with a STATUS (R264). -/
def Dev.memDone (d : Dev) (p status : Nat) : Dev :=
  ((d.set F.HLK_MEM_CMD_DONE 1 p).set F.HLK_MEM_CMD_STATUS status p).irq F.HLK_IRQ_STAT F.HLK_IRQ_EN 4 none p

/-- A port leaves its state for another: its session and records end, a host's memory command ends with LINK_DOWN, and, with `say`, R254 happens. Frames of
priority 5 that wait are dropped. -/
def Dev.leavePort (d : Dev) (p reason : Nat) (next : LinkState) (say : Bool) : Dev :=
  let q := d.port p
  let d := if say then d.inhibitPort p reason else d
  let d := if (q.memQ ++ q.memNow.toList).any (fun m => !m.auto) then d.memDone p 6 else d
  (d.modPort p (fun q => { q with st := next, since := d.now, authOk := false, session := none, stage := 0, recs := [], retryAt := none,
                                  memNow := none, memQ := [], calOut := none, calGot := [], calOn := false, gainSet := false, pair := false, seq := 0 })).modTx p
    (fun t => { t with waits := t.waits.filter (fun f => framePriority f.1 ≤ 2) })

/-- The lane of a port is made to carry frames: one that idles is primed, a burst is ended with its marker (R248). -/
def Dev.wakeLane (d : Dev) (p : Nat) : Dev :=
  match (d.port p).tx.mode with
  | .on => d
  | .priming => d.laneReady p
  | .off => (d.primeLane p 5).laneReady p

/-- A port goes to DISABLED (R256) from any other state: R254, the frames `last`, CTRL DEAUTH, electrical idle. -/
def Dev.disablePort (d : Dev) (p : Nat) (last : List (Nat × List Nat) := []) : Dev :=
  if (d.port p).st = .disabled then d
  else
    let d := (d.wakeLane p).leavePort p 2 .disabled true
    let d := (last ++ [(7, [3])]).foldl (fun (d : Dev) (f : Nat × List Nat) => d.laneSend p f.1 f.2) d
    ((d.laneDrain p).laneOff p).modPort p (fun q => { q with bcLock := false, mBack := none, retryAt := none, rx := {} })

/-- Is a unit fenced. -/
def Dev.fenced (d : Dev) (u : FUnit) : Bool := d.flt.fences.any (fun f => f.unit = u)

/-- A port begins priming (R248, R256): ENABLE is 1, its group's PLL is locked and no fence holds it. -/
def Dev.primePort (d : Dev) (p : Nat) : Dev :=
  if d.flag F.HLK_CTRL_ENABLE p && !d.fenced (.port p) && (d.groups.getD (groupOf p) {}).relockAt.isNone then
    (d.primeLane p 1).modPort p (fun q => { q with st := .priming, since := d.now, retryAt := none, calOut := none, calGot := [] })
  else d

/-! ### The stop sequence's trigger (R227, R228) -/

/-- A trigger: in RUN it starts the sequence with the settings in force, and strips on their way to the camera lose their data (R343); in any other state it
adds its cause. -/
def Dev.stopTrigger (d : Dev) (cause : Nat) : Dev :=
  let add (t : StopSt) : StopSt :=
    match cause with
    | 0 => { t with underrun := true, resumeU := false }
    | 1 => { t with fault := true, acked := false, resumeF := false }
    | _ => { t with host := true, resumeH := false }
  if d.fire.stop.st = .run then
    let t : StopSt := { st := .holding, minSpeed := d.get F.FIRE_STOP_CFG_MIN_SPEED, tmoMs := d.get F.FIRE_STOP_CFG_STOP_TMO_MS,
                        dist := d.get F.FIRE_BACKSTEP_DIST, since := d.now }
    ({ d with fire := { d.fire with stop := add t },
              vin := { d.vin with strips := d.vin.strips.map (fun (x : Strip) => if x.complete then x else { x with spoiled := true }) } }).irq F.FIRE_IRQ_STAT F.FIRE_IRQ_EN 0 none
  else { d with fire := { d.fire with stop := add d.fire.stop } }

/-! ### Sources (R404, R405, R409) -/

/-- The safety number of a source, if it is a safety source (R404). -/
def safetyNo (src : Nat) : Option Nat :=
  if src ≤ 14 then some src
  else if 23 ≤ src && src ≤ 36 then some (src - 8)
  else if src = 56 || src = 57 then some (src - 27)
  else if 59 ≤ src && src ≤ 87 then some (src - 28)
  else if src = 124 then some 60
  else if src = 126 then some 61
  else if src = 145 || src = 146 then some (src - 83)
  else none

/-- The floor class of a source (R404): 0 NOTE, 1 DEGRADE, 2 STOP, 3 SAFE. -/
def floorOf (src : Nat) : Nat :=
  if src ≤ 9 then 2
  else if src ≤ 13 then 3
  else if 23 ≤ src && src ≤ 25 || src = 27 || src = 61 then 3
  else if src = 26 || src = 86 || src = 126 then 2
  else if 28 ≤ src && src ≤ 36 then 1
  else 0

/-- The class in force of a source (R405): a safety source's from the bonded store, another's from FLT_SRCn.CLASS. -/
def Dev.classOf (d : Dev) (src : Nat) : Nat :=
  match safetyNo src with
  | some n => Nat.max (floorOf src) (bits (d.bonded (11 + n / 16)) (2 * (n % 16)) 2)
  | none => d.get F.FLT_SRC_CLASS src

/-- The bar of a source with one instance for each bar (R414), else BAR0. -/
def barOfSource (src : Nat) : Nat :=
  if 91 ≤ src && src ≤ 98 then src - 91
  else if 99 ≤ src && src ≤ 106 then src - 99
  else if 129 ≤ src && src ≤ 144 then (src - 129) % 8
  else if 147 ≤ src && src ≤ 154 then src - 147
  else if 223 ≤ src && src ≤ 230 then src - 223
  else if 278 ≤ src && src ≤ 293 then (src - 278) % 8
  else 0

/-- The units that a DEGRADE reaction of a source fences (R409). -/
def Dev.unitsOf (d : Dev) (src inst : Nat) : List FUnit :=
  if 211 ≤ src && src ≤ 214 then [.ddr (src - 211)]
  else if 191 ≤ src && src ≤ 194 then [.ddr (src - 191)]
  else if 207 ≤ src && src ≤ 210 then [.ddr (src - 207)]
  else if src = 28 then [.ddr 0, .ddr 1, .ddr 2, .ddr 3]
  else if 156 ≤ src && src ≤ 185 then [.port inst]
  else if 29 ≤ src && src ≤ 36 then (List.range 24).map (fun k => .port (24 * (src - 29) + k))
  else if 245 ≤ src && src ≤ 268 then [.cam ((src - 245) % 4)]
  else if 40 ≤ src && src ≤ 55 then [.cam ((src - 40) / 4)]
  else if src = 38 then [.isp]
  else if src = 39 then [.eth 0, .eth 1]
  else if src = 310 || src = 311 then [.eth (src - 310)]
  else if src = 37 || src = 89 || src = 90 then [.sluice]
  else if 108 ≤ src && src ≤ 119 then [.enc ((src - 108) % 4)]
  else if src = 120 || src = 121 then [.enc (src - 120)]
  else if 298 ≤ src && src ≤ 300 then
    ((List.range 16).filter (fun c => d.get F.LMP_C_STAT_STATUS c = (if src = 300 then 6 else src - 296))).map .lamp
  else []

/-- Numbers a to b. -/
def span (a b : Nat) : List Nat := (List.range (b + 1 - a)).map (· + a)

/-- The consequence list of a unit (R409). -/
def Dev.consequences (d : Dev) : FUnit → List Nat
  | .ddr c => [215 + c, 219 + c, 195 + c, 207 + c] ++ span 223 230 ++ span 91 98
  | .port p => [157 + groupOf p, 167 + groupOf p, 175 + groupOf p, 184] ++
      (match d.portHome p with | some (b, _) => [137 + b] | none => [])
  | .cam n => [245 + n, 249 + n, 253 + n, 257 + n, 261 + n, 265 + n] ++ span 269 276 ++ span 278 285
  | .isp => span 269 276 ++ span 265 268 ++ span 278 285
  | .eth p => [304 + p, 306 + p, 308, 309]
  | .sluice => 90 :: span 91 98
  | .enc _ => [123, 122, 120, 121, 125, 127, 128]
  | .lamp _ => [300, 301]

/-- The consequence list of a DEGRADE reaction: its units' lists, or the row's list for SPARE_EXHAUSTED (R409). -/
def Dev.listOf (d : Dev) (src inst : Nat) : List Nat :=
  if 235 ≤ src && src ≤ 238 then span 223 230 else (d.unitsOf src inst).flatMap d.consequences

/-! ### Fences (R409, R410) -/

/-- A channel in TRAINING, READY or PAUSED becomes FENCED, and DDR_CH_FAIL falls due (R291). -/
def Dev.fenceChannel (d : Dev) (c : Nat) : Dev :=
  let st := d.get F.DDR_C_STAT_STATE c
  if 3 ≤ st && st ≤ 5 then
    let d := (d.set F.DDR_C_STAT_STATE 6 c).raiseBit F.DDR_STAT_FENCED c
    { d with ddr := { d.ddr with chans := setAt d.ddr.chans c (fun x => { x with step := none, stepsLeft := 0, rows := [], reqs := [], waits := [] }),
                                 queue := removeAll d.ddr.queue c },
             flt := { d.flt with due := d.flt.due ++ [211 + c] } }
  else d

/-- What a fence does to its unit at once. -/
def Dev.fenceEffect (d : Dev) : FUnit → Dev
  | .ddr c => d.fenceChannel c
  | .port p => d.disablePort p
  | .cam n => d.stopCamera n
  | .isp => d.stopIsp
  | .enc n => d.set F.ENC_STAT_SUSPECT 1 n
  | _ => d

/-- The sources' fences of a DEGRADE reaction. -/
def Dev.fenceUnits (d : Dev) (src inst : Nat) : Dev :=
  (d.unitsOf src inst).foldl (fun d u =>
    (({ d with flt := { d.flt with fences := d.flt.fences ++ [⟨u, src, inst⟩] } } : Dev)).fenceEffect u) d

/-- What follows when a unit's last fence ends (R410): a port or camera port restarts as after ENABLE 0 to 1. -/
def Dev.unfence (d : Dev) : FUnit → Dev
  | .port p => d.primePort p
  | .cam n => d.startCamera n
  | _ => d

/-- The fences that a cleared source held end, but for DDR and encoder fences, which end elsewhere (R410). -/
def Dev.endFences (d : Dev) (src inst : Nat) : Dev :=
  let lasting (u : FUnit) : Bool := match u with | .ddr _ => true | .enc _ => true | _ => false
  let gone := d.flt.fences.filter (fun f => f.src = src && f.inst = inst && !lasting f.unit)
  let d' : Dev := { d with flt := { d.flt with fences := d.flt.fences.filter (fun f => !(f.src = src && f.inst = inst && !lasting f.unit)) } }
  gone.foldl (fun d f => if d.fenced f.unit then d else d.unfence f.unit) d'

/-! ### Events (R401, R402, R411, R414, R415) -/

/-- The key of a source and instance. -/
def fkey (src inst : Nat) : Nat := src * 256 + inst

/-- Is a key live. -/
def FltSt.live (f : FltSt) (k : Nat) : Bool := has f.det k || has f.force k || has f.eq k

/-- Is an event consequential (R411): its source is on the list of a window that is open and did not open in this REF cycle, and its class is not SAFE. -/
def Dev.consequential (d : Dev) (src : Nat) : Bool :=
  d.classOf src ≠ 3 && d.flt.shadows.any (fun w => has w.list src && d.now < w.ends && w.opened / 10 < d.now / 10)

/-- A lees-log entry is written; with 16 held it replaces the oldest (R415). -/
def Dev.logPush (d : Dev) (e : LogEntry) : Dev :=
  let d' : Dev := { d with flt := { d.flt with log := (if d.flt.log.length < 16 then d.flt.log else d.flt.log.drop 1) ++ [e],
                                               seq := (d.flt.seq + 1) % 2 ^ 32 } }
  if d.flt.log.length < 16 then d' else (d'.bump F.FLT_LOG_STAT_OVERWRITES).fltIrq 4

/-- The reaction of a class (R406). -/
def Dev.react (d : Dev) (src inst : Nat) : Dev :=
  match d.classOf src with
  | 0 => d
  | 1 =>
    if (d.unitsOf src inst).isEmpty && !(235 ≤ src && src ≤ 238) then d
    else
      let list := d.listOf src inst
      let d := d.fenceUnits src inst
      let us := d.get F.FLT_CFG_SHADOW_US
      let d := if us = 0 then d else { d with flt := { d.flt with shadows := d.flt.shadows ++ [⟨list, d.now, d.now + us * 1000⟩] } }
      d.fltIrq 1
  | 2 => (({ d with flt := { d.flt with stops := insertOnce d.flt.stops (fkey src inst) } } : Dev).stopTrigger 1).fltIrq 2
  | _ => (Dev.settle d { d with flt := { d.flt with safes := insertOnce d.flt.safes (fkey src inst) } }).fltIrq 3

/-- The INSTANCE of an entry (R403): the port of a head-link source, the lowest lamp channel that shows a lamp source's condition, else 0. -/
def Dev.instanceOf (d : Dev) (src inst : Nat) : Nat :=
  let lowest (p : Nat → Bool) : Nat := ((List.range 16).find? p).getD 0
  if src = 298 || src = 299 then lowest (fun c => d.get F.LMP_C_STAT_STATUS c = src - 296)
  else if src = 300 then lowest (fun c => d.get F.LMP_C_STAT_STATUS c = 6)
  else if src = 301 then lowest (fun c => (d.lampCh c).alert)
  else if src = 302 then lowest (fun c => (d.lampCh c).missed)
  else if 156 ≤ src && src ≤ 185 then inst
  else 0

/-- An event (R402): the status bit sets, an entry is written, EVENT is set and the reaction starts unless the event is consequential. -/
def Dev.event (d : Dev) (src inst : Nat) : Dev :=
  let k := fkey src inst
  let bar := barOfSource src
  let e : LogEntry :=
    { time := d.T, pairEq := has d.flt.eq k, forced := has d.flt.force k, conseq := d.consequential src, cls := d.classOf src, source := src,
      inst := d.instanceOf src inst, tag := (d.barJob bar).map (fun x => d.jobTag x.1), seq := d.flt.seq,
      line := (match d.shownHwm 0 with | some h => h % 2 ^ 32 | none => 0) }
  let d : Dev := { d with flt := { d.flt with status := insertOnce d.flt.status k } }
  let d := ((d.logPush e).set F.FLT_STATE_LAST_SRC src).fltIrq 0
  if e.conseq then d else d.react src inst

/-- A key's live bit is looked at after a change: an event when it is live and its status is 0 (R401). -/
def Dev.look (d : Dev) (k : Nat) : Dev :=
  if d.flt.live k && !has d.flt.status k then d.event (k / 256) (k % 256) else d

/-- A detector's key joins those that report, and is looked at. -/
def Dev.detect (d : Dev) (k : Nat) : Dev := ({ d with flt := { d.flt with det := insertOnce d.flt.det k } } : Dev).look k

/-- The sources that a reaction itself reports: the DDR_CH_FAIL of a channel that a fence has just fenced (R291). -/
def Dev.drain (d : Dev) : Dev :=
  d.flt.due.foldl (fun d src => d.detect (fkey src 0)) { d with flt := { d.flt with due := [] } }

/-- A key's live bit is looked at, with what its reaction reports. -/
def Dev.noteLive (d : Dev) (k : Nat) : Dev := (d.look k).drain

/-- A key's live bit has fallen: a flicker while its status is set (R401). -/
def Dev.noteFall (d : Dev) (k : Nat) (wasLive : Bool) : Dev :=
  if wasLive && !d.flt.live k && has d.flt.status k then
    { d with flt := { d.flt with flicker := ((d.flt.flicker.filter (fun e => e.1 ≠ k)) ++ [(k, sat 255 ((RegFile.find k d.flt.flicker).getD 0 + 1))]),
                                 lastFlick := (d.flt.lastFlick.filter (fun e => e.1 ≠ k)) ++ [(k, d.now)] } }
  else d

/-- A source's detector reports (R398): the whole path to the reaction. -/
def Dev.report (d : Dev) (src : Nat) (inst : Nat := 0) : Dev :=
  let k := fkey src inst
  ({ d with flt := { d.flt with det := insertOnce d.flt.det k } } : Dev).noteLive k

/-- A source's detector stops reporting. -/
def Dev.unreport (d : Dev) (src : Nat) (inst : Nat := 0) : Dev :=
  let k := fkey src inst
  ({ d with flt := { d.flt with det := removeAll d.flt.det k } } : Dev).noteFall k (d.flt.live k)

/-- A source follows a level condition. -/
def Dev.reportLevel (d : Dev) (src : Nat) (inst : Nat) (on : Bool) : Dev := if on then d.report src inst else d.unreport src inst

/-- Does DRV_NOT_READY's condition hold (R404). -/
def Dev.drvMissing (d : Dev) : Bool := !d.pins.drvReady && d.fire.stop.st = .run && !d.running.isEmpty

/-- DRV_NOT_READY follows its condition, which its own STOP reaction may end. -/
def Dev.drvWatch (d : Dev) : Dev :=
  let d := d.reportLevel 58 0 d.drvMissing
  if d.drvMissing then d else d.unreport 58

/-- STATUS of a lamp channel takes a value; LMP_OPEN, LMP_SHORT and LMP_NO_MODULE are live while some channel shows their condition (R372). -/
def Dev.lampStatus (d : Dev) (c st : Nat) : Dev :=
  if d.get F.LMP_C_STAT_STATUS c = st then d
  else
    let d := d.lampMark c st
    let shows (d : Dev) (v : Nat) : Bool := (List.range 16).any (fun c => d.get F.LMP_C_STAT_STATUS c = v)
    ((d.reportLevel 298 0 (shows d 2)).reportLevel 299 0 (shows d 3)).reportLevel 300 0 (shows d 6)

end Sys2Proof.Machine
end

