-- ==== Sys2Proof/Machine/Dram.lean ====
section
/-! DEFINITION. Reading and writing DRAM and the coded SRAMs: the address map, the check code, poison, the repeat ledger and row retirement
(files 09 and 10). `dram` holds the data bytes that are not 0, and `check` the check byte of a word XOR the valid check byte of its
data, where that is not 0: its low seven bits are the syndrome and bit 7 is P. -/

namespace Sys2Proof.Machine

/-! ### The code (R294 to R296) -/

/-- The columns H_i of R294. -/
def hsiao : List Nat :=
  [0x07, 0x0B, 0x0D, 0x0E, 0x13, 0x15, 0x16, 0x19, 0x1A, 0x1C, 0x23, 0x25, 0x26, 0x29, 0x2A, 0x2C] ++
  [0x31, 0x32, 0x34, 0x38, 0x43, 0x45, 0x46, 0x49, 0x4A, 0x4C, 0x51, 0x52, 0x54, 0x58, 0x61, 0x62]

/-- The check bits of a data word (R294). -/
def checkBits (w : Nat) : Nat := (List.range 32).foldl (fun c i => if w.testBit i then c ^^^ hsiao.getD i 0 else c) 0

/-- How a word classifies on a read (R295): clean, corrected (with the data bit to invert, if any), poisoned, uncorrectable. -/
inductive ReadClass where
  | clean
  | corrected (flip : Option Nat)
  | poisoned
  | uncorrectable
  deriving DecidableEq, Repr

/-- The class of a word from its syndrome and P bit (R295). -/
def classify (x : Nat) : ReadClass :=
  let s := x % 128
  let p := x / 128 % 2
  if p = 1 then if s = 0 then .corrected none else .poisoned
  else if s = 0 then .clean
  else if s = 0x7F then .poisoned
  else match hsiao.findIdx? (· = s) with
    | some i => .corrected (some i)
    | none => if has [1, 2, 4, 8, 16, 32, 64] s then .corrected none else .uncorrectable

/-- The data that a read returns (R295). -/
def ReadClass.data (c : ReadClass) (w : Nat) : Nat :=
  match c with
  | .clean => w
  | .corrected (some i) => w ^^^ 2 ^ i
  | .corrected none => w
  | .poisoned => 0
  | .uncorrectable => 0

/-- The TYPE of ECC_LAST (R314). -/
def ReadClass.code : ReadClass → Nat
  | .clean => 0
  | .corrected _ => 1
  | .uncorrectable => 2
  | .poisoned => 3

/-! ### The map (R270, R271) -/

/-- The populated capacity in bytes (R270). -/
def Dev.capBytes (d : Dev) : Nat := d.get F.DDR_STAT_CAP_MIB * 2 ^ 20

/-- The channels in the map, ascending. -/
def Dev.mapChans (d : Dev) : List Nat := (List.range 4).filter (fun c => bit d.ddr.mask c)

/-- The channel of a DRAM address and its channel address (R271). -/
def Dev.chanAddr (d : Dev) (a : Nat) : Nat × Nat :=
  let cs := d.mapChans
  let n := Nat.max 1 cs.length
  let g := 2 ^ d.ddr.g
  (cs.getD (a / g % n) 0, a / (g * n) * g + a % g)

/-- The DRAM address of a channel address. -/
def Dev.dramAddr (d : Dev) (c ac : Nat) : Nat :=
  let cs := d.mapChans
  let g := 2 ^ d.ddr.g
  (ac / g * Nat.max 1 cs.length + (cs.findIdx (· = c))) * g + ac % g

/-- A channel's state. -/
def Dev.chan (d : Dev) (c : Nat) : DdrCh := d.ddr.chans.getD c {}

/-- The device with a channel changed. -/
def Dev.modChan (d : Dev) (c : Nat) (f : DdrCh → DdrCh) : Dev := { d with ddr := { d.ddr with chans := setAt d.ddr.chans c f } }

/-- The bytes of one row over both subchannels (R307). -/
def DdrCh.rowBytes (x : DdrCh) : Nat := match x.org with | some o => 128 * 2 ^ o.cb | none => 8192

/-- The row of a channel address, counted in channel-address order (R271, R307). -/
def DdrCh.rowOf (x : DdrCh) (ac : Nat) : Nat := ac / x.rowBytes

/-- The bank (rank, bank, bank group) of a row (R271). -/
def DdrCh.bankOf (x : DdrCh) (row : Nat) : Nat :=
  match x.org with
  | some o => row % (2 ^ o.bg * 4 * o.ranks)
  | none => row

/-- The rank of a bank (R271). -/
def DdrCh.rankOf (x : DdrCh) (bank : Nat) : Nat := match x.org with | some o => bank / (2 ^ o.bg * 4) | none => 0

/-! ### The channel queue (R274 to R276) -/

/-- Does a request take the entries reserved for decanter reads. -/
def DdrReq.reserved (r : DdrReq) : Bool := r.source = 0 && !r.write

/-- Has a queue room for a request: 64 entries serve decanter reads alone, the other 192 all requests. -/
def DdrCh.room (x : DdrCh) (r : DdrReq) : Bool :=
  let own := (x.reqs.filter DdrReq.reserved).length
  (r.reserved && own < 64) || x.reqs.length - Nat.min 64 own < 192

/-- Requests that found the queue full enter it while it has room, in round-robin order of their requesters. -/
def DdrCh.takeWaiting : Nat → DdrCh → DdrCh
  | 0, x => x
  | k + 1, x =>
    match (List.range 6).findSome? (fun n => x.waits.find? (fun r => r.source = (x.turn + 1 + n) % 6 && x.room r)) with
    | some r => DdrCh.takeWaiting k { x with reqs := x.reqs ++ [r], waits := x.waits.erase r, turn := r.source }
    | none => x

/-- Does a bank issue in arrival order: a read and a write of one row of it wait (R276). -/
def rowClash : List DdrReq → Bool
  | [] => false
  | r :: rs => rs.any (fun l => l.row = r.row && l.write ≠ r.write) || rowClash rs

/-- May a request be issued: its bank is not in in-order mode, or it is the bank's oldest. -/
def DdrCh.mayIssue (x : DdrCh) (r : DdrReq) : Bool :=
  let q := x.reqs.filter (fun l => l.sub = r.sub && l.bank = r.bank)
  !rowClash q || q.head? = some r

/-- Does a request hit an open row. -/
def DdrCh.hits (x : DdrCh) (r : DdrReq) : Bool := x.rows.any (fun o => o.sub = r.sub && o.bank = r.bank && o.row = r.row)

/-- The next request of a kind on a subchannel: one bypassed 64 times, a row hit, the oldest; the oldest first in each (R275). -/
def DdrCh.choose (x : DdrCh) (sub : Nat) (write : Bool) : Option DdrReq :=
  let q := x.reqs.filter (fun r => r.sub = sub && r.write = write && x.mayIssue r)
  (q.find? (fun r => 64 ≤ r.passed)).or ((q.find? x.hits).or q.head?)

/-- Does a subchannel issue writes: a batch starts at WR_HI writes or with no read waiting, and ends at WR_LO or when a read reaches its bypass limit. -/
def DdrCh.writing (x : DdrCh) (sub hi lo : Nat) : Bool :=
  let writes := (x.reqs.filter (fun r => r.sub = sub && r.write)).length
  let reads := x.reqs.filter (fun r => r.sub = sub && !r.write)
  reads.isEmpty || (if x.batch.getD sub false then lo < writes && !reads.any (fun r => 64 ≤ r.passed) else hi ≤ writes)

/-- A row is opened, another of its bank closed; the bank's activations are counted, and at the threshold of a rank that declares it, a refresh-management
command takes them back (R275, R284). -/
def DdrCh.activate (x : DdrCh) (r : DdrReq) (now : Nat) : DdrCh :=
  let x := { x with rows := x.rows.filter (fun o => !(o.sub = r.sub && o.bank = r.bank)) ++ [⟨r.sub, r.row, r.bank, now⟩] }
  let m := x.rfm.getD (x.rankOf r.bank) {}
  if !m.required then x
  else
    let n := ((x.raa.find? (fun e => e.sub = r.sub && e.bank = r.bank)).map (·.count)).getD 0 + 1
    let due := decide (0 < m.threshold) && decide (m.threshold ≤ n)
    { x with raa := x.raa.filter (fun e => !(e.sub = r.sub && e.bank = r.bank)) ++ [⟨r.sub, r.bank, if due then n - m.threshold else n⟩],
             managed := if due then x.managed + 1 else x.managed }

/-- A subchannel issues its next column command (R275). -/
def DdrCh.issue (x : DdrCh) (sub hi lo now : Nat) : DdrCh :=
  let w := x.writing sub hi lo
  match (x.choose sub w).or (x.choose sub !w) with
  | none => x
  | some r =>
    let y := if x.hits r then { x with rows := x.rows.map (fun o => if o.sub = r.sub && o.bank = r.bank then { o with last := now } else o) }
             else x.activate r now
    let older := x.reqs.takeWhile (fun l => l ≠ r)
    { y with batch := setAt y.batch sub (fun _ => w),
             reqs := older.map (fun l => if l.sub = sub then { l with passed := l.passed + 1 } else l) ++ (x.reqs.dropWhile (fun l => l ≠ r)).drop 1 }

/-- The two schedulers issue what waits. -/
def DdrCh.drain (hi lo now : Nat) : Nat → DdrCh → DdrCh
  | 0, x => x
  | k + 1, x =>
    let x := DdrCh.takeWaiting x.waits.length x
    if x.reqs.isEmpty then x else DdrCh.drain hi lo now k ((x.issue 0 hi lo now).issue 1 hi lo now)

/-- A channel at a time: the requests of earlier times have been issued. How long they take is timing, and the model has them issued before time moves on
(DESIGN CHOICE). -/
def DdrCh.at (x : DdrCh) (now hi lo : Nat) : DdrCh :=
  if x.arrived < now then DdrCh.drain hi lo x.arrived (x.reqs.length + x.waits.length + 1) x else x

/-- A request arrives: it enters the queue, or waits for room (R274). -/
def DdrCh.request (x : DdrCh) (now hi lo : Nat) (r : DdrReq) : DdrCh :=
  let x := x.at now hi lo
  let r := { r with tag := x.nextTag }
  let x := { x with arrived := now, nextTag := x.nextTag + 1 }
  if x.waits.isEmpty && x.room r then { x with reqs := x.reqs ++ [r] } else { x with waits := x.waits ++ [r] }

/-- A request to 64 bytes at an address joins its channel's queue; a fenced channel has none (R274, R291). -/
def Dev.touchRow (d : Dev) (a : Nat) (write : Bool) (source : Nat) : Dev :=
  let (c, ac) := d.chanAddr a
  d.modChan c (fun x =>
    if d.get F.DDR_C_STAT_STATE c = 6 then x
    else
      let row := x.rowOf ac
      x.request d.now (d.get F.DDR_SCHED_WR_HI) (d.get F.DDR_SCHED_WR_LO) { write, sub := ac / 64 % 2, bank := x.bankOf row, row, source })

/-- The first address of the spare area, in bytes (R307). -/
def Dev.spareBase (d : Dev) : Nat := d.get F.ECC_SPARE_BASE_MIB * 2 ^ 20

/-- Does a range of bytes meet the spare area (R307). -/
def Dev.meetsSpare (d : Dev) (a n : Nat) : Bool :=
  n ≠ 0 && d.get F.ECC_SPARE_SIZE_MIB ≠ 0 && d.spareBase < a + n && a < d.spareBase + d.get F.ECC_SPARE_SIZE_MIB * 2 ^ 20

/-! ### Cells -/

/-- The byte of a list of cells at an address; an unlisted one is 0 (R139, R299). -/
def cellAt : List Host.Cell → Nat → Nat
  | [], _ => 0
  | (k, v) :: r, a => if k = a then v.toNat else cellAt r a

/-- Bytes put at an address: the cells stay in ascending order, and a byte 0 has none. -/
def putCells (m : List Host.Cell) (a : Nat) (bs : List Nat) : List Host.Cell :=
  m.filter (fun e => e.1 < a) ++
    ((List.range bs.length).filterMap (fun k => if bs.getD k 0 % 256 = 0 then none else some (a + k, BitVec.ofNat 8 (bs.getD k 0)))) ++
    m.filter (fun e => a + bs.length ≤ e.1)

/-- The canonical form of a list of cells: addresses strictly rising and no byte 0. -/
abbrev Memory.wf (m : List Host.Cell) : Prop := m.Pairwise (fun x y => x.1 < y.1) ∧ ∀ e ∈ m, e.2 ≠ 0

/-- The data word stored at a word address. -/
def Dev.rawWord (d : Dev) (a : Nat) : Nat := ofBytesLE ((List.range 4).map (fun k => cellAt d.dram (a + k)))

/-- The syndrome and P of the word at a word address. -/
def Dev.synd (d : Dev) (a : Nat) : Nat := cellAt d.check a

/-- A word's data and its syndrome are stored. -/
def Dev.putWord (d : Dev) (a w x : Nat) : Dev :=
  { d with dram := putCells d.dram a (bytesLE 4 w), check := putCells d.check a [x] }

/-- A word is stored as poisoned (R296). -/
def Dev.poisonWord (d : Dev) (a : Nat) : Dev := d.putWord a 0 0xFF

/-! ### The repeat ledger and row retirement (R304 to R310) -/

/-- The event of ECC_LAST (R314). -/
def Dev.eccLast (d : Dev) (c : ReadClass) (addr x place : Nat) : Dev :=
  ((((d.set F.ECC_LAST_ADDR addr).set F.ECC_LAST_TYPE c.code).set F.ECC_LAST_SYND x).set F.ECC_LAST_WHERE place).set F.ECC_LAST_TIME d.T

/-- The words of a row that are in error: DRAM addresses. -/
def Dev.badWordsOfRow (d : Dev) (c row : Nat) : List Nat :=
  (d.check.map (·.1)).filter (fun a => let y := d.chanAddr a; y.1 = c && (d.chan c).rowOf y.2 = row)

/-- The words of a row: DRAM addresses. -/
def Dev.wordsOfRow (d : Dev) (c row : Nat) : List Nat :=
  let n := (d.chan c).rowBytes
  (List.range (n / 4)).map (fun k => d.dramAddr c (row * n + 4 * k))

/-- A row is retired to the lowest free spare: its words are copied corrected, and a bad word as poisoned (R308); with no spare left the row is
poisoned and listed as dead (R310). -/
def Dev.retireRow (d : Dev) (c row : Nat) : Dev :=
  if (d.chan c).retired.length < 256 then
    let d := (d.badWordsOfRow c row).foldl (fun d a =>
      match classify (d.synd a) with
      | .clean => d
      | .corrected f => d.putWord a (ReadClass.data (.corrected f) (d.rawWord a)) 0
      | _ => d.poisonWord a) d
    let d := (d.modChan c (fun x => { x with retired := x.retired ++ [row] })).irq F.ECC_IRQ_STAT F.ECC_IRQ_EN 3 none
    d.report (231 + c)
  else
    let d := (d.wordsOfRow c row).foldl Dev.poisonWord d
    let d := if (d.chan c).dead.length < 16 then d.modChan c (fun x => { x with dead := x.dead ++ [row] }) else d
    d.report (235 + c)

/-- The place of a new ledger entry: with 64 in use, the lowest count, the oldest among equals, is freed (R305). -/
def ledgerRoom (l : List LedgerEntry) : List LedgerEntry :=
  if l.length < 64 then l
  else
    let m := (l.map (·.count)).foldl Nat.min 3
    let t := ((l.filter (fun e => e.count = m)).map (·.sec)).foldl Nat.min (2 ^ 64)
    match l.find? (fun e => e.count = m && e.sec = t) with
    | some e => l.erase e
    | none => l

/-- The ledger acts on a corrected word (R304); a scrub's write-back does not set WB (R311). -/
def Dev.ledger (d : Dev) (a : Nat) (fixed : Nat) (scrub : Bool) : Dev :=
  let (c, ac) := d.chanAddr a
  let word := ac / 4
  let sec := d.T / 1000000000
  let put (n : Nat) (wb : Bool) (d : Dev) : Dev :=
    d.modChan c (fun x => { x with ledger := x.ledger.map (fun e => if e.word = word then { e with count := n, wb, sec } else e) })
  match (d.chan c).ledger.find? (fun e => e.word = word) with
  | none =>
    let full := 64 ≤ (d.chan c).ledger.length
    let d := d.modChan c (fun x => { x with ledger := ledgerRoom x.ledger ++ [⟨word, 1, false, sec⟩] })
    if full then d.bump F.ECC_C_CNT_EVICT c else d
  | some e =>
    if e.wb then
      (d.modChan c (fun x => { x with ledger := x.ledger.filter (fun e => e.word ≠ word) })).retireRow c ((d.chan c).rowOf ac)
    else if e.count = 1 then put 2 false d
    else if scrub then put 3 false d
    else (put 3 true d).putWord a fixed 0

/-! ### Reads (R291, R295, R300) -/

/-- Is an address on a fenced channel. -/
def Dev.onFenced (d : Dev) (a : Nat) : Bool := d.get F.DDR_C_STAT_STATE (d.chanAddr a).1 = 6

/-- Is an address on a dead row. -/
def Dev.onDead (d : Dev) (a : Nat) : Bool :=
  let y := d.chanAddr a
  has (d.chan y.1).dead ((d.chan y.1).rowOf y.2)

/-- What a read of one word finds: its class and the data it returns. -/
def Dev.look1 (d : Dev) (a : Nat) : ReadClass × Nat :=
  if d.onFenced a || d.onDead a then (.poisoned, 0)
  else let c := classify (d.synd a); (c, c.data (d.rawWord a))

/-- What a read of one word does beside returning data (R300, R304). -/
def Dev.noteRead (d : Dev) (a : Nat) (scrub : Bool := false) : Dev :=
  let ch := (d.chanAddr a).1
  let x := d.synd a
  let (c, v) := d.look1 a
  match c with
  | .clean => d
  | .corrected _ =>
    let d := ((d.bump F.ECC_C_CE ch).eccLast c a x ch).report (215 + ch)
    let d := d.ledger a v scrub
    if scrub then d.putWord a v 0 else d
  | .uncorrectable =>
    let d := ((d.bump F.ECC_C_UE_UE ch).eccLast c a x ch).poisonWord a
    (d.irq F.ECC_IRQ_STAT F.ECC_IRQ_EN 2 none).report (219 + ch)
  | .poisoned => (d.bump F.ECC_C_UE_POISON_RD ch).eccLast c a (if x = 0 then 0xFF else x) ch

/-- The words of a range of bytes that do not read clean. -/
def Dev.badWords (d : Dev) (a n : Nat) : List Nat :=
  ((List.range ((a + n + 3) / 4 - a / 4)).map (fun k => 4 * (a / 4 + k))).filter (fun w => (d.look1 w).1 ≠ .clean)

/-- The bytes that a read of a range returns. -/
def Dev.dramBytes (d : Dev) (a n : Nat) : List Nat :=
  (List.range n).map (fun k => bits (d.look1 ((a + k) / 4 * 4)).2 (8 * ((a + k) % 4)) 8)

/-- A read of a range of bytes: the data, whether a word returned zero data for poison or an uncorrectable error, and what it does. A fenced channel
counts each 64-byte request that it answers (R291). -/
def Dev.dramRead (d : Dev) (a n : Nat) (source : Nat := 1) : List Nat × Bool × Dev :=
  let bad := d.badWords a n
  let lost := bad.any (fun w => (d.look1 w).1 = .poisoned || (d.look1 w).1 = .uncorrectable)
  let data := d.dramBytes a n
  let bursts := (List.range ((a + n + 63) / 64 - a / 64)).map (fun k => 64 * (a / 64 + k))
  let e := bursts.foldl (fun d b => let d := d.touchRow b false source; if d.onFenced b then d.bump F.DDR_C_CNT2_FENCED_RD (d.chanAddr b).1 else d) d
  (data, lost, bad.foldl (fun d w => d.noteRead w) e)

/-! ### Writes (R277, R291, R313) -/

/-- An armed flip of a memory is taken: its data and check masks (R313). -/
def Dev.takeFlip (d : Dev) (target : Nat) : Option (Nat × Nat) × Dev :=
  if d.flag F.ECC_FLIP_CTRL_ARMED && d.get F.ECC_FLIP_CTRL_TARGET = target then
    (some (d.get F.ECC_FLIP_DATA, d.get F.ECC_FLIP_CTRL_CHK), d.set F.ECC_FLIP_CTRL_ARMED 0)
  else (none, d)

/-- A whole-word write by a requester: discarded on a fenced channel or a dead row; otherwise stored with valid check bits, or with an armed flip. -/
def Dev.dramWriteWord (d : Dev) (a w : Nat) : Dev :=
  if d.onFenced a || d.onDead a then d
  else
    match d.takeFlip (d.chanAddr a).1 with
    | (some (m, k), d) => d.putWord a (w ^^^ m) (checkBits w ^^^ checkBits (w ^^^ m) ^^^ k)
    | (none, d) => d.putWord a w 0

/-- A write of whole words from a word address (the last may be short of bytes, which are zeros). -/
def Dev.dramWrite (d : Dev) (a : Nat) (bs : List Nat) (source : Nat := 1) : Dev :=
  let d := (List.range (cdiv bs.length 64)).foldl (fun d k => d.touchRow (a + 64 * k) true source) d
  (List.range (cdiv bs.length 4)).foldl (fun d k => d.dramWriteWord (a + 4 * k) (ofBytesLE ((bs.drop (4 * k)).take 4))) d

/-! ### Coded SRAMs (R297, R302, R313) -/

/-- A whole word is written to an SRAM array: the word has valid check bits unless an armed flip corrupts it. -/
def Dev.sramWrite (d : Dev) (array index w : Nat) : Dev :=
  let d : Dev := { d with ecc := { d.ecc with sram := d.ecc.sram.filter (fun b => !(b.array = array && b.index = index)) } }
  match d.takeFlip array with
  | (some (m, k), d) =>
    let x := checkBits w ^^^ checkBits (w ^^^ m) ^^^ k
    if m = 0 && x = 0 then d else { d with ecc := { d.ecc with sram := d.ecc.sram ++ [⟨array, index, m, x⟩] } }
  | (none, d) => d

/-- A read of an SRAM word that was written as w: the data, whether it is lost, and what the read does: a corrected word is written back, an uncorrectable
or poisoned one is stored as poisoned; both are counted and reported (R302). -/
def Dev.sramRead (d : Dev) (array index w : Nat) : Nat × Bool × Dev :=
  match d.ecc.sram.find? (fun b => b.array = array && b.index = index) with
  | none => (w, false, d)
  | some b =>
    let c := classify b.synd
    let v := c.data (w ^^^ b.flips)
    let put (e : Option SramBad) (d : Dev) : Dev :=
      { d with ecc := { d.ecc with sram := d.ecc.sram.erase b ++ e.toList } }
    match c with
    | .clean => (v, false, d)
    | .corrected _ =>
      let d := put (if v = w then none else some { b with flips := v ^^^ w, synd := 0 }) d
      (v, false, ((d.bump F.ECC_SRAM_CNT_CE).eccLast c index b.synd array).report 243)
    | _ =>
      let d := put (some { b with synd := 0xFF }) d
      (0, true, (((d.bump F.ECC_SRAM_CNT_UE).eccLast c index b.synd array).irq F.ECC_IRQ_STAT F.ECC_IRQ_EN 2 none).report 244)

/-- May the requesters reach DRAM: DRAM_DONE is set (R299). -/
def Dev.dramReady (d : Dev) : Bool := d.flag F.ECC_STAT_DRAM_DONE

/-! ### Retraining and sleep (R285, R446) -/

/-- Every READY channel joins the retraining queue with three steps, CH0 first. -/
def Dev.retrainAll (d : Dev) : Dev :=
  let cs := (List.range 4).filter (fun c => d.get F.DDR_C_STAT_STATE c = 4 && !has d.ddr.queue c)
  cs.foldl (fun d c => (d.modChan c (fun x => { x with stepsLeft := 3 })))
    { d with ddr := { d.ddr with queue := d.ddr.queue ++ cs } }

/-- An event that needs DRAM leaves sleep: PHASE returns to READY and every channel retrains at once (R446). -/
def Dev.leaveSleep (d : Dev) : Dev :=
  if d.get F.SYS_STAT_PHASE = 7 then
    let d := ((d.set F.SYS_STAT_PHASE 6).set F.SYS_SLEEP_DONE 1).set F.SYS_SLEEP_CODE 0
    ({ d with ddr := { d.ddr with atOnce := true } } : Dev).retrainAll
  else d

end Sys2Proof.Machine
end

