-- ==== Sys2Proof/Machine/Clamps.lean ====
section
/-! DEFINITION. The clamps of a register write: each field by itself (R4, R5, R8), and the fields whose range depends on another (R6, R7),
clamped again after every store to their page. -/

namespace Sys2Proof.Machine

/-- A value as a field by itself stores it (R4, R5, R8). -/
def Field.clampVal (f : Field) (v : Nat) : Nat :=
  match f.clamp with
  | .none => v % 2 ^ f.width
  | .range lo hi => clampN lo hi (v % 2 ^ f.width)
  | .signed lo hi => unsigned f.width (clampI lo hi (signed f.width v))
  | .enc ps => ((ps.find? (fun e => e.1 = v % 2 ^ f.width)).map (·.2)).getD (v % 2 ^ f.width)

/-- A ring size: 0, or 16 to 4,096 in multiples of 16, the nearest, ties upward (R86). -/
def clampEntries (v : Nat) : Nat :=
  if v = 0 then 0 else if v < 16 then 16 else if 4096 < v then 4096 else (v + 8) / 16 * 16

/-- A field is brought into a range given by another's value. -/
def Dev.clampField (d : Dev) (f : Field) (lo hi : Nat) (i : Nat := 0) (j : Nat := 0) : Dev :=
  d.set f (clampN lo hi (d.get f i j)) i j

/-- Dependent clamps of a ring sub-page (R86, R87). -/
def Dev.normRing (d : Dev) (r : Nat) : Dev :=
  let d := d.set F.SLU_R_SQ_CFG_ENTRIES (clampEntries (d.get F.SLU_R_SQ_CFG_ENTRIES r)) r
  let d := d.set F.SLU_R_CQ_CFG_ENTRIES (clampEntries (d.get F.SLU_R_CQ_CFG_ENTRIES r)) r
  let on := d.flag F.SLU_R_CTRL_ENABLE r
  let g := d.rings.getD r {}
  let sq := if on then g.sqN else d.get F.SLU_R_SQ_CFG_ENTRIES r
  let cq := if on then g.cqN else d.get F.SLU_R_CQ_CFG_ENTRIES r
  (d.clampField F.SLU_R_SQ_TAIL 0 (sq - 1) r).clampField F.SLU_R_CQ_HEAD 0 (cq - 1) r

/-- The populated DRAM capacity in MiB (R115, R292). -/
def Dev.capMib (d : Dev) : Nat := d.get F.DDR_STAT_CAP_MIB

/-- Dependent clamps of one register of a cistern layout (R120), at an offset in its layout, against the populated capacity in 4 KiB units; other
registers are not clamped again for a capacity that has changed (R123). -/
def Dev.normLayout (d : Dev) (k o : Nat) : Dev :=
  let cap := d.capMib * 256
  let b := o / 16
  let size (d : Dev) : Dev := d.clampField F.CIS_L_B_SIZE 0 (cap - d.get F.CIS_L_B_BASE k b) k b
  let idxn (d : Dev) : Dev := d.clampField F.CIS_L_B_IDXN 0 ((cap - d.get F.CIS_L_B_IDXB k b) * 512) k b
  let rep (d : Dev) : Dev := d.clampField F.CIS_L_REP_SIZE 0 (cap - d.get F.CIS_L_REP_BASE k) k
  if o < 0x80 then
    match o / 4 % 4 with
    | 0 => size (d.clampField F.CIS_L_B_BASE 0 cap k b)
    | 1 => size d
    | 2 => idxn (d.clampField F.CIS_L_B_IDXB 0 cap k b)
    | _ => idxn d
  else if o / 4 = 0x20 then rep (d.clampField F.CIS_L_REP_BASE 0 cap k)
  else if o / 4 = 0x21 then rep d
  else d

/-- The BAR4 window lies within the capacity (R137). -/
def Dev.normWin (d : Dev) : Dev := d.clampField F.CIS_WIN_BASE 0 (d.capMib - 1)

/-- Dependent clamps of the CIS page's own registers: bar distances rise (R116), MIN_MS within RES_MS (R118), the window within
the capacity (R137). -/
def Dev.normCis (d : Dev) : Dev :=
  let d := d.set F.CIS_BAR_DIST 0 0
  let d := (span 1 7).foldl (fun d b => d.clampField F.CIS_BAR_DIST (d.get F.CIS_BAR_DIST (b - 1)) 16000000 b) d
  (d.clampField F.CIS_RESERVE_MIN_MS 0 (d.get F.CIS_RESERVE_RES_MS)).normWin

/-- Dependent clamps of a bar's drop volumes (R164). -/
def Dev.normDecBar (d : Dev) (b : Nat) : Dev :=
  let d := d.clampField F.DEC_B_VOL2_2 (d.get F.DEC_B_VOL2_1 b + 1) 65534 b
  let d := d.clampField F.DEC_B_VOL3_1 1 (65535 - 6) b
  let d := d.clampField F.DEC_B_VOL3_2 (d.get F.DEC_B_VOL3_1 b + 1) (65535 - 5) b
  let d := d.clampField F.DEC_B_VOL3_3 (d.get F.DEC_B_VOL3_2 b + 1) (65535 - 4) b
  let d := d.clampField F.DEC_B_VOL3_4 (d.get F.DEC_B_VOL3_3 b + 1) (65535 - 3) b
  let d := d.clampField F.DEC_B_VOL3_5 (d.get F.DEC_B_VOL3_4 b + 1) (65535 - 2) b
  d.clampField F.DEC_B_VOL3_6 (d.get F.DEC_B_VOL3_5 b + 1) (65535 - 1) b

/-- DEC_UPD_SEL.PORT: 192 to 254 are stored as 191 (R160). -/
def Dev.normDec (d : Dev) : Dev :=
  let p := d.get F.DEC_UPD_SEL_PORT
  if 192 ≤ p && p ≤ 254 then d.set F.DEC_UPD_SEL_PORT 191 else d

/-- PRE + POST at most 32 (R238). -/
def Dev.normHlk (d : Dev) (p : Nat) : Dev := d.clampField F.HLK_TXEQ_POST 0 (32 - d.get F.HLK_TXEQ_PRE p) p

/-- DDR_SCHED.WR_LO within WR_HI − 8 (R278); a retraining period other than 0 lies in 10 to 10,000 (R287). -/
def Dev.normDdr (d : Dev) : Dev :=
  let d := d.clampField F.DDR_SCHED_WR_LO 0 (d.get F.DDR_SCHED_WR_HI - 8)
  let p := d.get F.DDR_TRAIN_PERIOD_MS
  if p = 0 then d else d.set F.DDR_TRAIN_PERIOD_MS (clampN 10 10000 p)

/-- The scrub range is brought into the capacity, in multiples of 64 (R314). -/
def Dev.normScrub (d : Dev) : Dev :=
  let cap := d.capMib * 2 ^ 20
  let d := d.set F.ECC_SCRUB_BASE (Nat.min (d.get F.ECC_SCRUB_BASE / 64 * 64) cap)
  d.set F.ECC_SCRUB_LEN (Nat.min (cdiv (d.get F.ECC_SCRUB_LEN) 64 * 64) (cap - d.get F.ECC_SCRUB_BASE))

/-- The populated capacity changes: the window and the scrub range are clamped again with it (R6, R137, R314); the layout registers are not (R123). -/
def Dev.setCap (d : Dev) (mib : Nat) : Dev := ((d.set F.DDR_STAT_CAP_MIB mib).normWin).normScrub

/-- The scrub range (R314); reserved TARGET codes are stored as 0. -/
def Dev.normEcc (d : Dev) : Dev :=
  let d := d.normScrub
  let t := d.get F.ECC_FLIP_CTRL_TARGET
  if t ≤ 3 || (16 ≤ t && t ≤ 20) then d else d.set F.ECC_FLIP_CTRL_TARGET 0

/-- The tone levels rise and end at 255 (R356). -/
def Dev.normVin (d : Dev) : Dev :=
  let n := d.get F.VIN_NLEV
  let v := (List.range n).foldl (fun v i =>
    let x := bits v (8 * i) 8
    let lo := if i = 0 then 0 else bits v (8 * (i - 1)) 8 + 1
    let y := if i + 1 = n then 255 else clampN lo (255 - (n - 1 - i)) x
    v - x * 2 ^ (8 * i) + y * 2 ^ (8 * i)) (d.get F.VIN_LEV)
  d.set F.VIN_LEV v

/-- A line scan has at most 16 rows and columns and slots of at least 11 µs; the pre-charge takes at most a quarter of its slot (R368, R376). -/
def Dev.normLamp (d : Dev) (c : Nat) : Dev :=
  if d.get F.LMP_C_CFG_MODE c = 2 then
    let d := (d.clampField F.LMP_C_CFG_ROWS 0 15 c).clampField F.LMP_C_CFG_COLS 0 15 c
    let rows := d.get F.LMP_C_CFG_ROWS c + 1
    let d := d.clampField F.LMP_C_PWM_PERIOD (rows * 1100) 65535 c
    d.clampField F.LMP_C_TIMES_PRECHG_NS 0 (10 * d.get F.LMP_C_PWM_PERIOD c / rows / 4) c
  else d

/-- The windows, grids and crops of a context (R337): the window ends within WIDTH of its port, the grid has at most 4,096 cells, crops end within the
window. -/
def Dev.normCtx (d : Dev) (k : Nat) : Dev :=
  let width := d.get F.CAM_P_LINK_WIDTH (d.get F.ISP_K_CFG_SRC k)
  let d := d.clampField F.ISP_K_WIN_X0 0 width k
  let d := d.clampField F.ISP_K_WIN_W 0 (width - d.get F.ISP_K_WIN_X0 k) k
  let w := if d.flag F.ISP_K_CFG_STRIPE k then d.get F.ISP_K_WIN_W k else width
  let nx := d.get F.ISP_K_GN_NX k
  let d := d.clampField F.ISP_K_GN_NY 0 (if nx = 0 then 4096 else 4096 / nx) k
  (List.range 3).foldl (fun d j =>
    let d := d.clampField F.ISP_K_S_CROP_X0 0 w k j
    d.clampField F.ISP_K_S_CROP_W 0 (w - d.get F.ISP_K_S_CROP_X0 k j) k j) d

/-- Dependent clamps of an Ethernet port's rings (R86, R87, R397). -/
def Dev.normEth (d : Dev) (p : Nat) : Dev :=
  (List.range 4).foldl (fun d r =>
    let d := d.set F.ETH_P_R_CFG_ENTRIES (clampEntries (d.get F.ETH_P_R_CFG_ENTRIES p r)) p r
    let g := (d.eth.getD p { rings := [] }).rings.getD r {}
    let n := if g.on then g.n else d.get F.ETH_P_R_CFG_ENTRIES p r
    d.clampField F.ETH_P_R_TAIL 0 (n - 1) p r) d

/-- The bits of the staged context's words that are not reserved (R103, R104). -/
def jobWordMask : List Nat :=
  [0xFF0FFFFF, 0x1FFFF, 0xFFFFFFFF, 0xFFFF, 0xFFFFFFFF, 0xFFFFFF, 0xFFFFFFFF, 0xFFFF, 0xFFFFFFFF, 0x703, 0xFFFF0000, 0xFFFFFFFF, 0, 0, 0, 0]

/-- Reserved bits of the staged context are stored as 0 (R103). -/
def Dev.normStaged (d : Dev) (k : Nat) : Dev := d.set F.SLU_JOB_W (d.get F.SLU_JOB_W k &&& jobWordMask.getD k 0) k

/-- The dependent clamps of the page that holds an address (R6, R7). -/
def Dev.normPage (d : Dev) (a : Nat) : Dev :=
  if 0x10080 ≤ a && a < 0x100C0 then d.normStaged ((a - 0x10080) / 4)
  else if 0x11000 ≤ a && a < 0x19000 then d.normRing ((a - 0x11000) / 0x1000)
  else if 0x20400 ≤ a && a < 0x20C00 then d.normLayout ((a - 0x20400) / 0x100) (a % 0x100)
  else if 0x20000 ≤ a && a < 0x20400 then d.normCis
  else if 0x30100 ≤ a && a < 0x30200 then d.normDecBar ((a - 0x30100) / 0x20)
  else if 0x30000 ≤ a && a < 0x30100 then d.normDec
  else if 0x70000 ≤ a && a < 0x71000 then d.normDdr
  else if 0x80000 ≤ a && a < 0x81000 then d.normEcc
  else if 0x90100 ≤ a && a < 0x90500 && a % 0x100 = 0 then (List.range 8).foldl (fun d k => d.normCtx k) d
  else if 0xA0100 ≤ a && a < 0xA0900 then d.normCtx ((a - 0xA0100) / 0x100)
  else if 0xB0000 ≤ a && a < 0xB1000 then d.normVin
  else if 0xC0100 ≤ a && a < 0xC0500 then d.normLamp ((a - 0xC0100) / 0x40)
  else if 0xE0100 ≤ a && a < 0xE0300 then d.normEth ((a - 0xE0100) / 0x100)
  else if 0x1000000 ≤ a && a < 0x10C0000 then d.normHlk ((a - 0x1000000) / 0x1000)
  else d

end Sys2Proof.Machine
end

