-- ==== Sys2Proof/Machine/RegWrite.lean ====
section
/-! DEFINITION. One write of a 32-bit register word: page access (R30, R31, R436), roles (R11, R42, R57), clamps, the store as one (R7),
the audit entry (R58), the idle timer (R53), and the waiting of audited writes on a full audit queue. -/

namespace Sys2Proof.Machine

/-! ### Where a word's fields are -/

/-- The instance of a field and the word of it (0 or 1) that a word address names. -/
def Field.instAt (f : Field) (a : Nat) : Option (Nat × Nat × Nat) :=
  if a < f.base then none
  else
    let o := a - f.base
    let i := if f.n1 ≤ 1 then 0 else o / f.s1
    let r := if f.n1 ≤ 1 then o else o % f.s1
    let j := if f.n2 ≤ 1 then 0 else r / f.s2
    let r := if f.n2 ≤ 1 then r else r % f.s2
    if i < f.n1 && j < f.n2 && (r = 0 || (r = 4 && 32 < f.lo + f.width)) then some (i, j, r / 4) else none

/-- The stored fields of the page that holds an address (R31). -/
def pageFields (a : Nat) : List Field :=
  if a < 0x1000 then fieldsSys
  else if a < 0x2000 || 0x100000000 ≤ a then fieldsRole
  else if a < 0x3000 then fieldsSafe
  else if a < 0x4000 then fieldsFlt
  else if a < 0x5000 then fieldsThm
  else if a < 0x6000 then fieldsNvm
  else if a < 0x10000 then []
  else if a < 0x19000 then fieldsSlu
  else if a < 0x20000 then []
  else if a < 0x21000 then fieldsCis
  else if a < 0x30000 then []
  else if a < 0x49000 then fieldsDec
  else if a < 0x50000 then []
  else if a < 0x59000 then fieldsFire
  else if a < 0x60000 then []
  else if a < 0x61000 then fieldsPos
  else if a < 0x70000 then []
  else if a < 0x75000 then fieldsDdr
  else if a < 0x80000 then []
  else if a < 0x81000 then fieldsEcc
  else if a < 0x90000 then []
  else if a < 0x91000 then fieldsCam
  else if a < 0xA0000 then []
  else if a < 0xA1000 then fieldsIsp
  else if a < 0xB0000 then []
  else if a < 0xB1000 then fieldsVin
  else if a < 0xC0000 then []
  else if a < 0xC1000 then fieldsLmp
  else if a < 0xD0000 then []
  else if a < 0xD1000 then fieldsTb
  else if a < 0xE0000 then []
  else if a < 0xE1000 then fieldsEth
  else if 0x1000000 ≤ a && a < 0x10C0000 then fieldsHlk
  else []

/-- Is an address inside a page or sub-page of R31. -/
def inPages (a : Nat) : Bool :=
  a < 0x6000 || (0x10000 ≤ a && a < 0x19000) || (0x20000 ≤ a && a < 0x21000) || (0x30000 ≤ a && a < 0x49000) ||
    (0x50000 ≤ a && a < 0x59000) || (0x60000 ≤ a && a < 0x61000) || (0x70000 ≤ a && a < 0x75000) || (0x80000 ≤ a && a < 0x81000) ||
    (0x90000 ≤ a && a < 0x91000) || (0xA0000 ≤ a && a < 0xA1000) || (0xB0000 ≤ a && a < 0xB1000) || (0xC0000 ≤ a && a < 0xC1000) ||
    (0xD0000 ≤ a && a < 0xD1000) || (0xE0000 ≤ a && a < 0xE1000) || (0x1000000 ≤ a && a < 0x10C0000)

/-- The place where a word is kept: the ROLE bank of the requester (R44), the group register of a lane group (R265), the shared head
key (R259). -/
def canonAddr (rq : Requester) (a : Nat) : Nat :=
  if 0x1040 ≤ a && a < 0x10A0 then (match rq with | .host => a | .cellar => a + 0x100000000)
  else if 0x1000000 ≤ a && a < 0x10C0000 then
    if a % 0x1000 = 0x40 then 0x1000040 + (a - 0x1000000) / 0x18000 * 0x18000
    else if 0xE0 ≤ a % 0x1000 && a % 0x1000 < 0x100 then 0x1000000 + a % 0x1000
    else a
  else a

/-- The fields of a word: field, indexes and part. -/
def fieldsAt (a : Nat) : List (Field × Nat × Nat × Nat) :=
  (pageFields a).filterMap (fun f => (f.instAt a).map (fun x => (f, x)))

/-- The bits of a field that its part k carries. -/
def Field.partWidth (f : Field) (k : Nat) : Nat :=
  if k = 0 then Nat.min f.width (32 - f.lo) else f.width - (32 - f.lo)

/-- The value of a field whose part k is written from a word. -/
def Field.withPart (f : Field) (k old w : Nat) : Nat :=
  let wl := Nat.min f.width (32 - f.lo)
  if k = 0 then old / 2 ^ wl * 2 ^ wl + bits w f.lo wl
  else old % 2 ^ wl + bits w 0 (f.width - wl) * 2 ^ wl

/-- What a field's part k shows in a word. -/
def Field.showPart (f : Field) (k v : Nat) : Nat :=
  let wl := Nat.min f.width (32 - f.lo)
  if f.acc = .wo then 0 else if k = 0 then v % 2 ^ wl * 2 ^ f.lo else v / 2 ^ wl

/-- A word as its stored fields show it. -/
def Dev.word (d : Dev) (a : Nat) : Nat :=
  ((fieldsAt a).map (fun x => x.1.showPart x.2.2.2 (d.get x.1 x.2.1 x.2.2.1))).sum

/-! ### Roles -/

/-- A requester's session. -/
def Dev.session (d : Dev) : Requester → Session
  | .host => d.host
  | .cellar => d.cellar

/-- The device with a requester's session replaced. -/
def Dev.setSession (d : Dev) (rq : Requester) (x : Session) : Dev :=
  match rq with
  | .host => { d with host := x }
  | .cellar => { d with cellar := x }

/-- The role code that a requester's OPEN session grants, 0 without one (R44). -/
def Dev.rights (d : Dev) (rq : Requester) : Nat :=
  if (d.session rq).st = .opened then (d.session rq).role else 0

/-- Does a requester hold a role, or need none (R11). -/
def Dev.may (d : Dev) (rq : Requester) (r : Option Role) : Bool :=
  match r with
  | none => true
  | some r => r.code ≤ d.rights rq

/-- Was the MRAM key slot of a role never written (R57). -/
def Dev.slotBlank (d : Dev) (role : Nat) : Bool := (d.mram.keys.getD (role - 1) none).isNone

/-- May a requester write a field with a word: its role, or the provisioning rule of R57 for the key registers. A safety source's CLASS is read only (R405). -/
def Dev.mayField (d : Dev) (rq : Requester) (f : Field) (i : Nat) (w : Nat) : Bool :=
  if f = F.ROLE_KEY_NEW then d.may rq f.role || d.slotBlank (Nat.max 1 (d.get F.ROLE_KEY_CTRL_TARGET))
  else if f = F.ROLE_KEY_CTRL_TARGET then d.may rq f.role || d.slotBlank (f.clampVal (bits w 8 2))
  else if f = F.FLT_SRC_CLASS && (safetyNo i).isSome then true
  else d.may rq f.role

/-- An action bit of a word that a row of its own acts on: the bit and its role. -/
structure Act where
  bit  : Nat
  role : Option Role := none
  deriving DecidableEq, Repr

/-- Is an action bit written as 1 and permitted. -/
def Dev.acts (d : Dev) (rq : Requester) (x : Act) (w : Nat) : Bool := w.testBit x.bit && d.may rq x.role

/-! ### Page access -/

/-- Is a page open to a register write: the part is powered, and outside the SYS page PHASE is IMAGE or later (R436). -/
def Dev.pageOpen (d : Dev) (a : Nat) : Bool :=
  d.pwr.st = .on && (a < 0x1000 || 2 ≤ d.get F.SYS_STAT_PHASE)

/-- A discarded write or an access outside the pages is counted (R30, R36). -/
def Dev.badAcc (d : Dev) : Dev := d.bump F.SYS_BAD_ACC_COUNT

/-- A write refused for lack of role is counted in ROLE_DENY with its address, and as a discarded write (R30, R48). -/
def Dev.deny (d : Dev) (rq : Requester) (a : Nat) : Dev :=
  let b := match rq with | .host => 0 | .cellar => 1
  ((d.bump F.ROLE_DENY_COUNT b).set F.ROLE_DENY_ADDR a b).badAcc

/-! ### The store -/

/-- A field takes its part of a word (R10). -/
def Dev.storeField (d : Dev) (f : Field) (i j k w : Nat) : Dev :=
  let old := d.get f i j
  match f.acc with
  | .ro => d
  | .w1c => d.set f (old - (old &&& bits w f.lo f.width)) i j
  | .rw | .wo => d.set f (f.clampVal (f.withPart k old w)) i j

/-- Is a field one that a write stores: no row of its own, not read only. -/
def Field.stores (f : Field) : Bool := !f.own && f.acc ≠ .ro

/-- Does a field of a word take a requester's write. -/
def Dev.takes (d : Dev) (rq : Requester) (w : Nat) (x : Field × Nat × Nat × Nat) : Bool :=
  x.1.stores && d.mayField rq x.1 x.2.1 w && !(x.1 = F.FLT_SRC_CLASS && (safetyNo x.2.1).isSome)

/-- The plain fields of a word that a requester may write take the word, all as one, and the page's dependent fields are clamped again (R6, R7); a
word without such a field stays as it is. -/
def Dev.storeWord (d : Dev) (rq : Requester) (a w : Nat) : Dev :=
  if (fieldsAt a).any (d.takes rq w) then
    ((fieldsAt a).foldl (fun (e : Dev) x => if d.takes rq w x then e.storeField x.1 x.2.1 x.2.2.1 x.2.2.2 w else e) d).normPage a
  else d

/-- Is some field or action of a word refused to a requester. -/
def Dev.refuses (d : Dev) (rq : Requester) (a w : Nat) (acts : List Act) : Bool :=
  (fieldsAt a).any (fun x => x.1.stores && !d.mayField rq x.1 x.2.1 w) || acts.any (fun x => w.testBit x.bit && !d.may rq x.role)

/-- Does a role need INSTALLER or MAKER rights (R53, R58). -/
def auditedRole (r : Option Role) : Bool :=
  match r with
  | some .installer => true
  | some .maker => true
  | _ => false

/-- The key registers, whose writes leave no entry (R58). -/
def silentField (f : Field) : Bool := f = F.ROLE_KEY_NEW || f = F.HLK_KEY

/-- Is a write one that needs INSTALLER or MAKER rights and has them in some field or action. -/
def Dev.rightful (d : Dev) (rq : Requester) (a w : Nat) (acts : List Act) : Bool :=
  (fieldsAt a).any (fun x => d.takes rq w x && auditedRole x.1.role && d.may rq x.1.role) ||
    acts.any (fun x => w.testBit x.bit && auditedRole x.role && d.may rq x.role)

/-- Does a write leave an audit entry (R58). -/
def Dev.audited (d : Dev) (rq : Requester) (a w : Nat) (acts : List Act) : Bool :=
  (fieldsAt a).any (fun x => d.takes rq w x && auditedRole x.1.role && !silentField x.1) ||
    acts.any (fun x => w.testBit x.bit && auditedRole x.role && d.may rq x.role)

/-- The AGENT of a requester's write (R59). -/
def Dev.agent (d : Dev) (rq : Requester) : Nat :=
  match d.rights rq with
  | 2 => 1
  | 3 => 2
  | _ => 5

/-- The REQUESTER bit of a session's entry (R59). -/
def Dev.agentRq (d : Dev) (rq : Requester) : Nat :=
  if 2 ≤ d.rights rq then (match rq with | .host => 0 | .cellar => 1) else 0

/-- An entry joins the audit queue (R58). -/
def State.pushAudit (s : State) (rq : Option Requester) (e : AuditEntry) : State :=
  { s with audit := { s.audit with queue := s.audit.queue ++ [(rq, e)] } }

/-- The entry of a register write. -/
def Dev.entry (d : Dev) (rq : Requester) (a old new : Nat) : AuditEntry :=
  { time := d.T, agent := d.agent rq, requester := d.agentRq rq, page := a / 0x1000, offset := a % 0x1000, old, new }

/-- The idle timer of a requester's session starts again (R53). -/
def Dev.touch (d : Dev) (rq : Requester) : Dev :=
  let x := d.session rq
  if x.st = .opened then
    d.setSession rq { x with deadline := d.now + d.get F.ROLE_SESS_CTRL_IDLE_TIME (match rq with | .host => 0 | .cellar => 1) * 1000000000 }
  else d

/-- What a word write does to the device, beside its row's own action. -/
def Dev.writeWord (d : Dev) (rq : Requester) (addr w : Nat) (acts : List Act) : Dev :=
  let a := canonAddr rq addr
  if !inPages addr || !d.pageOpen addr then d.badAcc
  else
    let e := d.storeWord rq a w
    let e := if d.rightful rq a w acts then e.touch rq else e
    if d.refuses rq a w acts then e.deny rq addr else e

/-- A word write: the device part, and the audit entry that `own` replaces when a rule states its content. -/
def State.write (s : State) (rq : Requester) (addr w : Nat) (acts : List Act := []) (own : Option (Nat × Nat) := none) : State :=
  let d := s.dev
  let a := canonAddr rq addr
  let e := d.writeWord rq addr w acts
  let s' := { s with dev := e }
  if inPages addr && d.pageOpen addr && d.audited rq a w acts then
    let ov := own.getD (d.word a, e.word a)
    s'.pushAudit (some rq) (d.entry rq addr ov.1 ov.2)
  else s'

/-- May an action of a row take place: the page is open, the bit is written as 1 and the role is held. -/
def State.acts (s : State) (rq : Requester) (addr : Nat) (x : Act) (w : Nat) : Bool :=
  s.dev.pageOpen addr && s.dev.acts rq x w

/-! ### Waiting on a full audit queue (R58) -/

/-- The page of an address. -/
def pageOf (a : Nat) : Nat := a / 0x1000

/-- Must a write wait: behind an earlier write of its requester that waits for the same page (R38), and, when it leaves n entries, while the
queue of 32 has no room for them or an audited write of its requester waits (R58). -/
def State.mustWait (s : State) (rq : Requester) (page n : Nat) : Bool :=
  s.audit.stalled.any (fun x => x.1 = rq && x.2.1 = page) ||
    (n ≠ 0 && (32 < s.audit.queue.length + n || s.audit.stalled.any (fun x => x.1 = rq)))

/-- A register write of a row: one that must wait does so whole, in arrival order; any other is carried out. `extra` is the number of entries that
the row's own action may add. -/
def State.gate (s : State) (rq : Requester) (cmd : Instr) (addr w : Nat) (acts : List Act) (run : State → State) (extra : Nat := 0) : State :=
  let n := if s.dev.audited rq (canonAddr rq addr) w acts then 1 + extra else 0
  if inPages addr && s.dev.pageOpen addr && s.mustWait rq (pageOf addr) n then
    { s with audit := { s.audit with stalled := s.audit.stalled ++ [(rq, pageOf addr, cmd)] } }
  else run s

/-- A register write whose action bit has a row of its own: the word's plain fields are stored, and a permitted action takes place. -/
def State.row (s : State) (rq : Requester) (cmd : Instr) (addr w : Nat) (act : Act) (f : Dev → Dev) : State :=
  s.gate rq cmd addr w [act] (fun s =>
    let ok := s.acts rq addr act w
    let s := s.write rq addr w [act]
    if ok then s.onDev f else s)

/-- A write whose fields are stored by the row itself: it waits for queue space, is refused without the role, is carried out and, with an INSTALLER or
MAKER role, audited with the old and new word (R11, R48, R53, R58). `reads` is the word as a read shows it. -/
def State.roleWrite (s : State) (rq : Requester) (cmd : Instr) (addr : Nat) (role : Option Role) (reads : Dev → Nat) (f : Dev → Dev) : State :=
  let ok := s.dev.may rq role
  if !inPages addr || !s.dev.pageOpen addr then s.onDev Dev.badAcc
  else if s.mustWait rq (pageOf addr) (if ok && auditedRole role then 1 else 0) then
    { s with audit := { s.audit with stalled := s.audit.stalled ++ [(rq, pageOf addr, cmd)] } }
  else if !ok then s.onDev (fun d => d.deny rq addr)
  else if auditedRole role then
    let e := (f s.dev).touch rq
    ({ s with dev := e }).pushAudit (some rq) (s.dev.entry rq addr (reads s.dev) (reads e))
  else s.onDev f

/-- An entry of the device or of the SAFE port joins the queue while it has room (R58). -/
def State.hasRoom (s : State) (n : Nat) : Bool := s.audit.queue.length + n ≤ 32

/-- MRAM words are written (R443). -/
def Dev.mramWrote (d : Dev) (n : Nat) : Dev := d.bump F.NVM_WRITES 0 0 n

/-- An MRAM write whose read-back failed twice (R470): counted, its address kept, MRAM_ERR reported. -/
def Dev.mramFailed (d : Dev) (addr : Nat) : Dev := ((d.bump F.NVM_ERR_UE).set F.NVM_ERR_ADDR addr).report 87

end Sys2Proof.Machine
end

