-- ==== Sys2Proof/Machine/Bar2.lean ====
section
/-! DEFINITION. The table windows of BAR2 (R161, R214, R331, R358, R369, R441): reset contents, the bits that a write stores, the shadows, and the
waveform sets with their clamps (R214 to R216). Words are kept in `bar2` by byte address; a word that holds its reset content has no entry. -/

namespace Sys2Proof.Machine

/-! ### Reset contents and stored bits -/

/-- Places bit i of x at bit 2i + 1 and bit i of y at bit 2i (R156). -/
def interleave (x y : Nat) : Nat :=
  (List.range 6).foldl (fun v i => v + b2n (bit x i) * 2 ^ (2 * i + 1) + b2n (bit y i) * 2 ^ (2 * i)) 0

/-- Reverses the order of 12 bits (R156). -/
def reverse12 (v : Nat) : Nat := (List.range 12).foldl (fun r i => r + b2n (bit v i) * 2 ^ (11 - i)) 0

/-- The reset DITHER tile (R156). -/
def ditherReset (y x : Nat) : Nat := reverse12 (interleave (x ^^^ y) y) / 16

/-- A head-map entry's two words (R162). -/
def HEntry.words (e : HEntry) : List Nat := [b2n e.valid * 2 ^ 31 + b2n e.pair * 2 ^ 30 + e.port, e.col0]

/-- The entry that two words hold. -/
def HEntry.ofWords (w0 w1 : Nat) : HEntry := { valid := bit w0 31, pair := bit w0 30, port := Nat.min 191 (bits w0 0 8), col0 := Nat.min 98303 (bits w1 0 17) }

/-- The default map's entry (R162). -/
def hentryDefault (b s : Nat) : HEntry := { valid := true, port := 24 * b + s, col0 := 4032 * s }

/-- The reset content of the word at a BAR2 address. -/
def bar2Reset (a : Nat) : Nat :=
  if a < 0x80000 then
    if a % 0x20000 < 0x18000 then let v := a % 0x200 / 2; v * 257 + (v + 1) * 257 * 65536 else 0
  else if 0x100000 ≤ a && a < 0x500000 then (if a % 0x100000 < 0xC0000 then 0x80808080 else 0)
  else if 0x600000 ≤ a && a < 0x608000 then 0x80008000
  else if 0x610000 ≤ a && a < 0x610800 then ofBytesLE ((List.range 4).map (fun k => a % 0x100 + k))
  else if 0x611000 ≤ a && a < 0x612000 then ofBytesLE ((List.range 4).map (fun k => ditherReset (a % 0x1000 / 64) (a % 64 + k)))
  else if 0x620000 ≤ a && a < 0x620800 && a % 0x100 < 0xC0 then
    (hentryDefault ((a - 0x620000) / 0x100) (a % 0x100 / 8)).words.getD (a % 8 / 4) 0
  else if 0x900000 ≤ a && a < 0xA00000 then (if a % 8 = 0 then 0x40004000 else 0x4000)
  else if 0xA00000 ≤ a && a < 0xA10000 then
    (if a % 0x2000 < 0x1800 then let i := a % 0x800 / 2; (i * 64 + i / 16) + ((i + 1) * 64 + (i + 1) / 16) * 65536 else 0)
  else 0

/-- The word at a BAR2 address as a read of a shadow returns it. -/
def Dev.bar2Word (d : Dev) (a : Nat) : Nat := (d.bar2.find a).getD (bar2Reset a)

/-- The device with a BAR2 word stored. -/
def Dev.setBar2 (d : Dev) (a w : Nat) : Dev :=
  { d with bar2 := if w = bar2Reset a then d.bar2.drop a else (d.bar2.drop a).put a w }

/-- A byte in which the reserved state 0b11 becomes 0b01 (R161). -/
def nozByte (b : Nat) : Nat := if b % 4 = 3 then 1 else b % 4

/-- The bits of word k of a waveform set (R215). -/
def waveMask (k : Nat) : Nat :=
  if 16 ≤ k then
    if 48 ≤ k then 0 else [0x800003FF, 0x03FF03FF, 0x3FF, 0xFFFF].getD (k % 4) 0
  else [0x3FFFF, 0xFFFFFFFF, 0xFFFFFFFF, 0xFFFFFFFF, 0x010F07FF, 0xFFFFFFFF, 0xFFFFFFFF, 0xFFFF00FF, 0xFFFFFFFF, 0xFFFFFFFF, 0xFFFFFFFF, 0xFFFFFFFF].getD k 0

/-- What a word stored at a BAR2 address becomes, or none where no window takes writes. -/
def bar2Store (a w : Nat) : Option Nat :=
  if a < 0x80000 then
    if a % 0x20000 < 0x18000 then some (if a % 0x200 = 0 then w / 65536 * 65536 else w) else none
  else if 0x100000 ≤ a && a < 0x500000 then (if a % 0x100000 < 0xC0000 then some w else none)
  else if 0x500000 ≤ a && a < 0x5C0000 then some (ofBytesLE ((bytesLE 4 w).map nozByte))
  else if 0x600000 ≤ a && a < 0x608000 then some w
  else if 0x610000 ≤ a && a < 0x610800 then some w
  else if 0x611000 ≤ a && a < 0x612000 then some w
  else if 0x620000 ≤ a && a < 0x620800 && a % 0x100 < 0xC0 then
    some (if a % 8 = 0 then w / 2 ^ 30 * 2 ^ 30 + Nat.min 191 (w % 256) else Nat.min 98303 (w % 2 ^ 17))
  else if 0x800000 ≤ a && a < 0x810000 then (if a % 0x1000 < 0xC0 then some (w &&& waveMask (a % 0x1000 / 4)) else none)
  else if 0x900000 ≤ a && a < 0xA00000 then some (if a % 8 = 0 then w else w % 2 ^ 17)
  else if 0xA00000 ≤ a && a < 0xA10000 then (if a % 0x2000 < 0x1800 then some w else none)
  else if 0xB00000 ≤ a && a < 0xB00200 then some (if a % 8 = 0 then w else w % 65536)
  else if 0xC00000 ≤ a && a < 0xC10000 then (if a % 0x1000 < 0x800 then some w else none)
  else none

/-- A whole-word write to a table window: tables of the decanter and the waveform sets are coded SRAM, which an armed flip may corrupt (R313). -/
def Dev.writeBar2 (d : Dev) (a w : Nat) : Dev :=
  match bar2Store a w with
  | some v =>
    let d := d.setBar2 a v
    if a < 0x800000 then d.sramWrite 0x11 (a / 4) v else d
  | none => d

/-- The words of a window that differ from their reset content, as reads of the coded SRAM return them (R302). -/
def Dev.snapshot (d : Dev) (lo hi : Nat) : RegFile × Dev :=
  let bad := d.ecc.sram.filter (fun b => b.array = 0x11 && lo ≤ 4 * b.index && 4 * b.index < hi)
  let r := bad.foldl (fun (e : RegFile × Dev) b =>
    let a := 4 * b.index
    let v := e.2.sramRead 0x11 b.index (d.bar2Word a)
    (if v.1 = bar2Reset a then e.1.drop a else (e.1.drop a).put a v.1, v.2.2)) (d.bar2.filter (fun e => lo ≤ e.1 && e.1 < hi), d)
  r

/-! ### Waveform sets (R214 to R216) -/

/-- Word k of the waveform set w in force. -/
def Dev.waveWord (d : Dev) (w k : Nat) : Nat := d.bar2Word (0x810000 + 0x1000 * w + 4 * k)

/-- A pulse of a waveform set. -/
structure Pulse where
  nonjet : Bool
  start  : Nat
  rise   : Nat
  dwell  : Nat
  fall   : Nat
  amp    : Nat
  deriving DecidableEq, Repr

/-- The sample after a pulse's last one. -/
def Pulse.stop (p : Pulse) : Nat := p.start + p.rise + p.dwell + p.fall

/-- The pulses 0 to 7 of a set's words. -/
def pulsesOf (w : Nat → Nat) : List Pulse :=
  (List.range 8).map (fun i =>
    { nonjet := bit (w (16 + 4 * i)) 31, start := bits (w (16 + 4 * i)) 0 10, rise := Nat.max 1 (bits (w (17 + 4 * i)) 0 10),
      dwell := bits (w (17 + 4 * i)) 16 10, fall := Nat.max 1 (bits (w (18 + 4 * i)) 0 10), amp := bits (w (19 + 4 * i)) 0 16 })

/-- START of pulses 1 to n − 1 is raised to the END before it (R216, step 1). -/
def raiseStarts (n : Nat) (ps : List Pulse) : List Pulse :=
  (List.range 8).foldl (fun ps i =>
    if 0 < i && i < n then
      setAt ps i (fun p => { p with start := Nat.min 1023 (Nat.max p.start ((ps.getD (i - 1) ⟨false, 0, 1, 0, 1, 0⟩).stop)) })
    else ps) ps

/-- The clamped words of a waveform set (R215, R216). -/
def clampWave (w : Nat → Nat) : List Nat :=
  let n0 := Nat.min 8 (bits (w 4) 16 4)
  let ps := raiseStarts n0 (pulsesOf w)
  let n := ((ps.take n0).takeWhile (fun p => p.stop ≤ 1024)).length
  let last := if n = 0 then 0 else (ps.getD (n - 1) ⟨false, 0, 1, 0, 1, 0⟩).stop
  let tail := Nat.min (bits (w 4) 0 11) (1024 - last)
  let live := 2 ^ n - 1
  let mask (k : Nat) : Nat := ofBytesLE ((bytesLE 4 (w k)).map (fun b => b &&& live))
  let tickle := (bits (w 7) 0 8) &&& (((List.range n).filter (fun i => (ps.getD i ⟨false, 0, 1, 0, 1, 0⟩).nonjet)).foldl (fun m i => m + 2 ^ i) 0)
  [clampN 1000 160000 (bits (w 0) 0 18), w 1, bits (w 2) 16 16 * 65536 + clampN 1000 20000 (bits (w 2) 0 16), w 3,
   bits (w 4) 24 1 * 2 ^ 24 + n * 65536 + tail, mask 5 / 256 * 256, mask 6, Nat.min 50000 (bits (w 7) 16 16) * 65536 + tickle,
   w 8 / 65536 * 65536, w 9, w 10, w 11, 0, 0, 0, 0] ++
    ps.flatMap (fun p => [b2n p.nonjet * 2 ^ 31 + p.start, p.dwell * 65536 + p.rise, p.fall, p.amp])

/-- The set in force as it is used: clamped again, since at power-on its words are zero (R214, R216). -/
def Dev.wave (d : Dev) (w : Nat) : List Nat := clampWave (d.waveWord w)

/-- Fields of a clamped set. -/
def waveRate (v : List Nat) : Nat := v.getD 0 0
def wavePrep (v : List Nat) : Nat := bits (v.getD 1 0) 16 16
def waveGuard (v : List Nat) : Nat := bits (v.getD 1 0) 0 16
def waveBias (v : List Nat) : Int := signed 16 (bits (v.getD 2 0) 16 16)
def waveVel (v : List Nat) : Nat := bits (v.getD 2 0) 0 16
def waveTc (v : List Nat) : Int := signed 16 (bits (v.getD 3 0) 16 16)
def waveTref (v : List Nat) : Int := signed 16 (bits (v.getD 3 0) 0 16)
def waveInPrint (v : List Nat) : Nat := bits (v.getD 4 0) 24 1
def wavePulses (v : List Nat) : Nat := bits (v.getD 4 0) 16 4
def waveTickleHz (v : List Nat) : Nat := bits (v.getD 7 0) 16 16
def waveTickle (v : List Nat) : Nat := bits (v.getD 7 0) 0 8
def waveEnergy (v : List Nat) (k : Nat) : Nat := bits (v.getD (8 + k / 2) 0) (16 * (k % 2)) 16
def wavePulse (v : List Nat) : List Pulse := (pulsesOf (fun k => v.getD k 0)).take (wavePulses v)

/-- N, the burst length in samples (R216). -/
def waveLen (v : List Nat) : Nat := (match (wavePulse v).getLast? with | some p => p.stop | none => 0) + bits (v.getD 4 0) 0 11

/-- FIRE_WS_CMD (R214, R218): SET is stored, and COMMIT clamps the shadow and puts it in force, or gives BUSY while the set is named. -/
def Dev.waveCommit (d : Dev) : Dev :=
  let w := d.get F.FIRE_WS_CMD_SET
  let busy := (d.jobsIn (fun s => s = .opened || s = .armed || s = .running)).any (fun e => e.2.ctx.waveSet = w) ||
    (List.range 8).any (fun b => d.get F.FIRE_B_IDLE_WS b = w)
  let d := (d.set F.FIRE_WS_CMD_DONE 1).set F.FIRE_WS_CMD_CODE (if busy then 1 else 0)
  let d := if busy then d else
    ((clampWave (fun k => d.bar2Word (0x800000 + 0x1000 * w + 4 * k))).zipIdx).foldl (fun d e =>
      (d.setBar2 (0x800000 + 0x1000 * w + 4 * e.2) e.1).setBar2 (0x810000 + 0x1000 * w + 4 * e.2) e.1) d
  d.irq F.FIRE_IRQ_STAT F.FIRE_IRQ_EN 6 none

def execWaveformCommit (rq : Requester) (w : Word) (s : State) : Host.Outcome State Fault Refusal :=
  .next (s.row rq (.waveformCommit rq w) 0x50058 w.toNat ⟨0, some .installer⟩ Dev.waveCommit)

end Sys2Proof.Machine
end

