-- ==== Sys2Proof/Machine/Timebase.lean ====
section
/-! DEFINITION. The press timebase, its domains, compares and PPS (file 14, R377 to R391). -/

namespace Sys2Proof.Machine

/-! ### Clocks -/

/-- 2^32: units of 2^-32 ns in one ns. -/
def fine : Int := 4294967296

/-- A domain's state. -/
def Dev.dom (d : Dev) (k : Nat) : TbDom := d.tb.doms.getD k { }

/-- The device with a domain changed. -/
def Dev.modDom (d : Dev) (k : Nat) (f : TbDom → TbDom) : Dev := { d with tb := { d.tb with doms := setAt d.tb.doms k f } }

/-- T_d in 2^-32 ns (R379); in MASTER it is T (R382). -/
def Dev.domT (d : Dev) (k : Nat) : Int :=
  if d.get F.TB_D_STAT_STATE k = 4 then d.fineT
  else (d.dom k).t0 + ((d.raw - (d.dom k).r0 : Nat) : Int) * (d.dom k).add

/-- T_d steps by a correction in 2^-32 ns. -/
def Dev.stepDom (d : Dev) (k : Nat) (a : Int) : Dev := d.modDom k (fun x => { x with t0 := x.t0 + a })

/-- T steps by a correction in 2^-32 ns; a second that it steps back over will be crossed again (R388). -/
def Dev.stepT (d : Dev) (a : Int) : Dev :=
  { d with tb := { d.tb with t0 := d.tb.t0 + a, lastSec := min d.tb.lastSec (Int.fdiv (d.fineT + a) (1000000000 * fine)) } }

/-- A rate comes into force: t0 and r0 are taken afresh, so that T does not jump (R378). -/
def Dev.rebase (d : Dev) (add : Nat) : Dev :=
  { d with tb := { d.tb with t0 := d.fineT - d.tb.slew, r0 := d.raw, add } }

/-- A domain's rate comes into force. -/
def Dev.rebaseDom (d : Dev) (k add : Nat) : Dev :=
  let t := d.domT k
  d.modDom k (fun x => { x with t0 := t, r0 := d.raw, add })

/-- The domain followed by the time in force, if any (R386). -/
def Dev.followed (d : Dev) : Option Nat :=
  match d.get F.TB_STAT_IN_FORCE with
  | 1 => some 0
  | 2 => some 1
  | _ => none

/-! ### Slew (R381) -/

/-- JUMP_LIMIT in 2^-32 ns. -/
def Dev.jumpLimit (d : Dev) : Int := (d.get F.TB_CFG_JUMP_LIMIT : Int) * fine

/-- The largest change of the slew term in one tick, in 2^-32 ns. -/
def Dev.slewLimit (d : Dev) : Int := ((d.get F.TB_CFG_SLEW_PPM * 4294967296 / 1000000 : Nat) : Int)

/-- How far the goal lies from T: T_d of the domain followed, or every correction not yet slewed; in HOLD nothing moves (R381, R386). -/
def Dev.slewGoal (d : Dev) : Int :=
  match d.followed with
  | some k => d.domT k - d.fineT
  | none => if d.get F.TB_STAT_IN_FORCE = 0 then d.tb.pend else 0

/-- A part of the corrections not yet slewed is taken, when the time in force follows no domain. -/
def Dev.takePend (d : Dev) (c : Int) : Dev :=
  match d.followed with
  | some _ => d
  | none => { d with tb := { d.tb with pend := d.tb.pend - c } }

/-- One tick of slewing: the slew term moves toward the goal; a goal beyond JUMP_LIMIT is stepped to while no context is ARMED or RUNNING, and
otherwise refused and reported once. -/
def Dev.slewTick (d : Dev) : Dev :=
  let goal := d.slewGoal
  if d.jumpLimit < goal.natAbs then
    if !d.anyArmed then (d.stepT goal).takePend goal
    else if d.tb.refused then d
    else ({ d with tb := { d.tb with refused := true } } : Dev).report 303
  else if goal = 0 then d
  else
    let c := clampI (-d.slewLimit) d.slewLimit goal
    ({ d with tb := { d.tb with slew := d.tb.slew + c, refused := false } } : Dev).takePend c

/-- The load registers of the slices and of the image pipeline are brought up to date every 1 ms: busy clocks in % (R166, R337). -/
def Dev.rollLoads (d : Dev) : Dev :=
  let note (d : Dev) (last top : Field) (i busy clocks : Nat) : Dev :=
    let v := Nat.min 255 (busy * 100 / clocks)
    (d.set last v i).set top (Nat.max v (d.get top i)) i
  let d := (List.range 24).foldl (fun d s => note d F.DEC_S_LOAD_LAST_PCT F.DEC_S_LOAD_MAX_PCT s (d.decBusy.getD s 0) 1000000) d
  let d := note d F.ISP_LOAD_LAST_PCT F.ISP_LOAD_MAX_PCT 0 ((d.isp.map (fun c => c.busy)).sum) 600000
  { d with decBusy := List.replicate 24 0, isp := d.isp.map (fun c => { c with busy := 0 }) }

/-- One tick of the 1 GHz TB clock (R377). -/
def Dev.tick (d : Dev) : Dev :=
  if d.pwr.st = .on then
    let d := ({ d with raw := d.raw + 1, aon := d.aon + 1 } : Dev).slewTick
    if d.raw % 1000000 = 0 then d.rollLoads else d
  else { d with aon := d.aon + 1 }

/-! ### Corrections (R380) -/

/-- The correction that a write of an upper word completes, in ns. -/
def adjValue (lo w : Nat) : Int := signed 64 (w % 2 ^ 32 * 2 ^ 32 + lo % 2 ^ 32)

/-- A correction of T (R380). -/
def Dev.adjust (d : Dev) (a : Int) : Dev :=
  match d.followed with
  | some _ => d
  | none =>
    if a.natAbs ≤ d.get F.TB_CFG_JUMP_LIMIT then { d with tb := { d.tb with pend := d.tb.pend + a * fine, refused := false } }
    else if d.tb.force && !d.anyArmed then ({ d with tb := { d.tb with force := false } } : Dev).stepT (a * fine)
    else d.report 303

/-- A write to TB_ADJ's upper word (R380). -/
def execTimeAdjust (rq : Requester) (w : Word) (s : State) : Host.Outcome State Fault Refusal :=
  .next (s.roleWrite rq (.timeAdjust rq w) 0xD0054 none (fun d => d.word 0xD0054)
    (fun d => d.adjust (adjValue (d.get F.TB_ADJ) w.toNat)))

/-- A domain state is entered; entering or leaving HOLDOVER sets PATH (R391). -/
def Dev.domState (d : Dev) (k st cause : Nat) : Dev :=
  let old := d.get F.TB_D_STAT_STATE k
  let d := (d.set F.TB_D_STAT_STATE st k).set F.TB_D_STAT_HCAUSE cause k
  if (old = 3) ≠ (st = 3) then d.irq F.TB_IRQ_STAT F.TB_IRQ_EN 1 none else d

/-- A domain becomes LOCKED with a path delay accepted, or with the first PD still to come. -/
def Dev.lockDom (d : Dev) (k : Nat) (pd : Option Nat) : Dev :=
  let d := (d.domState k 2 0).modDom k (fun x => { x with accepted := pd.isSome, good := 0 })
  match pd with
  | some p => d.set F.TB_D_ACPD p k
  | none => d

/-- The pending correction of a domain is staged or taken away. -/
def Dev.pendDom (d : Dev) (k : Nat) (p : Option Int) : Dev :=
  (d.modDom k (fun x => { x with pend := p })).set F.TB_D_STAT_PENDING (b2n p.isSome) k

/-- The check of a pending correction when PERSIST is 64 (R384). -/
def Dev.confirm (d : Dev) (k : Nat) : Dev :=
  match (d.dom k).pend with
  | none => d
  | some p =>
    let o := 1 - k
    if d.get F.TB_D_STAT_STATE o = 2 && (d.domT k + p * fine - d.domT o).natAbs ≤ d.get F.TB_CFG2_CONFIRM_TOL * 4294967296 then
      ((((d.stepDom k (p * fine)).pendDom k none).lockDom k (some (d.dom k).cand)).set F.TB_D_STAT_PERSIST 0 k)
    else ((d.domState k 3 3).set F.TB_D_STAT_PERSIST 0 k).report (306 + k)

/-- A refused write is counted (R380, R382). -/
def Dev.refuseDom (d : Dev) (k : Nat) : Dev := d.bump F.TB_D_STAT_REFUSED k

/-- T_d steps by a correction that R380 accepts; in UNLOCKED eight consecutive small ones lock the domain (R382). -/
def Dev.acceptDom (d : Dev) (k : Nat) (a : Int) : Dev :=
  let small := a.natAbs ≤ d.get F.TB_CFG2_CONFIRM_TOL
  let d := (d.stepDom k (a * fine)).modDom k (fun x => { x with first := false, force := false, good := if small then x.good + 1 else 0 })
  if d.get F.TB_D_STAT_STATE k = 1 && 8 ≤ (d.dom k).good then d.lockDom k none else d

/-- A correction of T_d (R380). -/
def Dev.adjustDom (d : Dev) (k : Nat) (a : Int) : Dev :=
  match d.get F.TB_D_STAT_STATE k with
  | 3 =>
    let d := d.pendDom k (some a)
    if d.get F.TB_D_STAT_PERSIST k = 64 && 2 ≤ d.get F.TB_D_STAT_HCAUSE k then d.confirm k else d
  | 4 => d.refuseDom k
  | _ =>
    if a.natAbs ≤ d.get F.TB_CFG_JUMP_LIMIT || (d.dom k).first || (d.dom k).force then d.acceptDom k a
    else ((d.refuseDom k).modDom k (fun x => { x with good := 0 })).report 303

/-- A write to TB_Dd_ADJ's upper word (R380). -/
def execDomainAdjust (rq : Requester) (dm : Fin 2) (w : Word) (s : State) : Host.Outcome State Fault Refusal :=
  let a := 0xD0114 + 0x40 * dm.val
  .next (s.roleWrite rq (.domainAdjust rq dm w) a none (fun d => d.word a)
    (fun d => d.adjustDom dm.val (adjValue (d.get F.TB_D_ADJ dm.val) w.toNat)))

/-- A FORCE: while a context is ARMED or RUNNING it is not stored and gives BUSY in TB_CMD (R380). -/
def Dev.forceCmd (d : Dev) (arm : Dev → Dev) : Dev :=
  let d := d.set F.TB_CMD_DONE 1
  if d.anyArmed then d.set F.TB_CMD_CODE 1 else (arm d).set F.TB_CMD_CODE 0

/-- TB_CMD.FORCE arms one large correction of T (R380). -/
def execTimeForce (rq : Requester) (s : State) : Host.Outcome State Fault Refusal :=
  .next (s.row rq (.timeForce rq) 0xD0058 2 ⟨1, some .installer⟩ (fun d =>
    d.forceCmd (fun d => { d with tb := { d.tb with force := true } })))

/-- TB_Dd_CMD.FORCE arms one large correction of T_d, under the rule of TB_CMD.FORCE (R380, R391). -/
def execDomainForce (rq : Requester) (dm : Fin 2) (s : State) : Host.Outcome State Fault Refusal :=
  .next (s.row rq (.domainForce rq dm) (0xD0120 + 0x40 * dm.val) 1 ⟨0, some .installer⟩ (fun d =>
    d.forceCmd (fun d => d.modDom dm.val (fun x => { x with force := true }))))

/-- TB_CMD.CAPTURE latches R, T, T_0 and T_1 (R390). -/
def execTimeCapture (rq : Requester) (s : State) : Host.Outcome State Fault Refusal :=
  .next (s.row rq (.timeCapture rq) 0xD0058 1 ⟨0, none⟩ (fun d =>
    let t (k : Nat) : Nat := (d.domT k / fine).toNat
    (((((d.set F.TB_CAP_RAW d.raw).set F.TB_CAP_T d.T).set F.TB_CAP_D (t 0) 0).set F.TB_CAP_D (t 1) 1).set F.TB_CMD_CODE 0).set F.TB_CMD_DONE 1))

/-- A word of a rate register: the lower word is stored, and the upper word completes the rate, which is clamped and comes into force (R378, R391). -/
def Dev.writeAddend (d : Dev) (target : Option Nat) (upper : Bool) (w : Nat) : Dev :=
  let f := match target with | none => F.TB_ADDEND | some _ => F.TB_D_ADDEND
  let i := target.getD 0
  let old := d.get f i
  if !upper then d.set f (old / 2 ^ 32 * 2 ^ 32 + w % 2 ^ 32) i
  else
    let v := f.clampVal (w % 2 ^ 32 * 2 ^ 32 + old % 2 ^ 32)
    let d := d.set f v i
    match target with
    | none => if d.get F.TB_STAT_IN_FORCE = 0 then d.rebase v else d
    | some k =>
      let d := d.rebaseDom k v
      if d.followed = some k then d.rebase v else d

/-- A write to TB_ADDEND or TB_Dd_ADDEND (R378); in HOLDOVER and MASTER a domain's is refused (R382). -/
def execTimeAddendWrite (rq : Requester) (target : Option (Fin 2)) (upper : Bool) (w : Word) (s : State) : Host.Outcome State Fault Refusal :=
  let base := match target with | none => 0xD0048 | some k => 0xD0108 + 0x40 * k.val
  let a := base + (if upper then 4 else 0)
  .next (s.roleWrite rq (.timeAddendWrite rq target upper w) a none (fun d => d.word a) (fun d =>
    match target with
    | none => d.writeAddend none upper w.toNat
    | some k =>
      if 3 ≤ d.get F.TB_D_STAT_STATE k.val then d.refuseDom k.val
      else d.writeAddend (some k.val) upper w.toNat))

/-! ### Path delay and domain states (R382 to R385) -/

/-- The difference of two path delays, in 1/256 ns, within a limit in ns. -/
def pdNear (a b limitNs : Nat) : Bool := ((a : Int) - b).natAbs ≤ limitNs * 256

/-- A PD write (R382 to R384). -/
def Dev.pathDelay (d : Dev) (k pd : Nat) : Dev :=
  let st := d.get F.TB_D_STAT_STATE k
  if st = 4 then d.refuseDom k
  else
    let d := (d.set F.TB_D_PD pd k).modDom k (fun x => { x with pdAt := d.now })
    let limit := d.get F.TB_CFG2_PD_STEP_LIMIT
    if st = 2 then
      if (d.dom k).accepted && !pdNear pd (d.get F.TB_D_ACPD k) limit then
        ((((d.domState k 3 2).modDom k (fun x => { x with cand := pd })).set F.TB_D_STAT_PERSIST 1 k).report (304 + k))
      else (d.set F.TB_D_ACPD pd k).modDom k (fun x => { x with accepted := true })
    else if st = 3 then
      if d.get F.TB_D_STAT_HCAUSE k = 1 then (d.domState k 1 0).modDom k (fun x => { x with good := 0 })
      else
        let p := d.get F.TB_D_STAT_PERSIST k
        if pdNear pd (d.dom k).cand limit then
          let d := d.set F.TB_D_STAT_PERSIST (sat 64 (p + 1)) k
          if d.get F.TB_D_STAT_PERSIST k = 64 then d.confirm k else d
        else (d.modDom k (fun x => { x with cand := pd })).set F.TB_D_STAT_PERSIST 1 k
    else d

/-- A write to TB_Dd_PD (R383, R384). -/
def execPathDelayWrite (rq : Requester) (dm : Fin 2) (w : Word) (s : State) : Host.Outcome State Fault Refusal :=
  let a := 0xD0118 + 0x40 * dm.val
  .next (s.roleWrite rq (.pathDelayWrite rq dm w) a none (fun d => d.word a) (fun d => d.pathDelay dm.val w.toNat))

/-- No PD write for TIMEOUT puts a LOCKED or UNLOCKED domain in HOLDOVER (R382). -/
def execDomainTimeout (dm : Fin 2) (s : State) : Host.Outcome State Fault Refusal :=
  .next (s.onDev (fun d =>
    let k := dm.val
    let st := d.get F.TB_D_STAT_STATE k
    if (st = 1 || st = 2) && (d.dom k).pdAt + d.get F.TB_D_CFG_TIMEOUT k * 100000000 ≤ d.now then (d.domState k 3 1).report 308 else d))

/-- TB_Dd_CMD.ACK accepts the latest PD and the pending correction (R385). -/
def execDomainAck (rq : Requester) (dm : Fin 2) (s : State) : Host.Outcome State Fault Refusal :=
  let k := dm.val
  .next (s.row rq (.domainAck rq dm) (0xD0120 + 0x40 * k) 2 ⟨1, some .installer⟩ (fun d =>
    if d.get F.TB_D_STAT_STATE k = 3 && 2 ≤ d.get F.TB_D_STAT_HCAUSE k then
      let d := match (d.dom k).pend with | some p => (d.stepDom k (p * fine)).pendDom k none | none => d
      ((d.lockDom k (some (d.get F.TB_D_PD k))).set F.TB_D_STAT_PERSIST 0 k).modDom k (fun x => { x with first := false, force := false })
    else d))

/-- EN and MASTER of a domain are written: MASTER on one domain only; EN 0 disables, MASTER 1 masters, EN 0 to 1 and MASTER 1 to 0 leave UNLOCKED (R382). -/
def Dev.domCfg (d : Dev) (k : Nat) (en master : Bool) : Dev :=
  let master := master && d.get F.TB_D_STAT_STATE (1 - k) ≠ 4
  let old := d.get F.TB_D_STAT_STATE k
  let t := d.domT k
  let d := (d.set F.TB_D_CFG_EN (b2n en) k).set F.TB_D_CFG_MASTER (b2n master) k
  let start (d : Dev) : Dev :=
    (((d.domState k 1 0).pendDom k none).set F.TB_D_STAT_PERSIST 0 k).modDom k (fun x => { x with first := true, good := 0, accepted := false, pdAt := d.now })
  if !en then ((d.domState k 0 0).pendDom k none).set F.TB_D_STAT_PERSIST 0 k
  else if master then d.domState k 4 0
  else if old = 0 then start d
  else if old = 4 then start (d.modDom k (fun x => { x with t0 := t, r0 := d.raw }))
  else d

/-- A write to TB_Dd_CFG (R382). -/
def execDomainEnable (rq : Requester) (dm : Fin 2) (w : Word) (s : State) : Host.Outcome State Fault Refusal :=
  let a := 0xD0100 + 0x40 * dm.val
  .next (s.roleWrite rq (.domainEnable rq dm w) a (some .installer) (fun d => d.word a)
    (fun d => (d.storeWord rq a w.toNat).domCfg dm.val (w.toNat.testBit 31) (w.toNat.testBit 30)))

/-! ### Following a domain (R386) -/

/-- The value that IN_FORCE takes: 0 free, 1 domain 0, 2 domain 1, 3 HOLD (R386). -/
def Dev.chooseFollow (d : Dev) : Nat :=
  match d.get F.TB_CTRL_FOLLOW with
  | 0 => 0
  | f =>
    let k := f - 1
    let o := 1 - k
    if d.get F.TB_D_STAT_STATE k = 2 then f
    else if d.flag F.TB_CTRL_AUTO && d.get F.TB_D_STAT_STATE o = 2 &&
        (d.domT o - d.fineT).natAbs ≤ d.get F.TB_CFG2_CONFIRM_TOL * 4294967296 then 1 + o
    else 3

/-- FOLLOW_SELECT (R386): a change takes ADD from the new source, a change of the domain followed is flagged and reported, and HOLD reports TB_HOLDOVER. -/
def execFollowSelect (s : State) : Host.Outcome State Fault Refusal :=
  .next (s.onDev (fun d =>
    let n := d.chooseFollow
    let old := d.get F.TB_STAT_IN_FORCE
    if d.pwr.st ≠ .on || n = old then d
    else
      let was := d.followed
      let d := ({ d with tb := { d.tb with refused := false } } : Dev).set F.TB_STAT_IN_FORCE n
      let d := match n with
        | 0 => d.rebase (d.get F.TB_ADDEND)
        | 1 => d.rebase (d.dom 0).add
        | 2 => d.rebase (d.dom 1).add
        | _ => d
      let d := if d.followed = was then d else (d.irq F.TB_IRQ_STAT F.TB_IRQ_EN 0 none).report 309
      if n = 3 then d.report 308 else d))

/-! ### Compares and PPS (R387, R388) -/

/-- A pulse begins on TB_PPS_OUT (R388). -/
def Dev.ppsPulse (d : Dev) : Dev :=
  let d := if d.pins.ppsOut then d else ({ d with pins := { d.pins with ppsOut := true } } : Dev).emit (.pps true)
  { d with tb := { d.tb with ppsEnd := some (d.now + d.get F.TB_PPS_WIDTH_US * 1000) } }

/-- The actions of a compare unit: TIME, the interrupt and the pulse. -/
def Dev.tcmpAct (d : Dev) (u : Nat) : Dev :=
  let d := d.set F.TCMP_TIME d.T u
  let d := if d.flag F.TCMP_CFG_IRQ u then d.irq F.TB_IRQ_STAT F.TB_IRQ_EN 2 none else d
  if d.flag F.TCMP_CFG_PPS u && d.get F.TB_PPS_MODE = 2 then d.ppsPulse else d

/-- Has T reached a unit's value, as s64 (R387). -/
def Dev.tcmpReached (d : Dev) (u : Nat) : Bool := 0 ≤ signed 64 (unsigned 64 ((d.T : Int) - d.get F.TCMP_VAL u))

/-- The first value VAL + n × PERIOD that T has not reached. -/
def Dev.tcmpAhead (d : Dev) (u : Nat) : Nat :=
  let v := d.get F.TCMP_VAL u
  let p := d.get F.TCMP_PERIOD u
  let late := (signed 64 (unsigned 64 ((d.T : Int) - v))).toNat
  (v + p * (late / p + 1)) % 2 ^ 64

/-- A unit arms at its value; when T has reached it already, LATE decides (R387). -/
def Dev.tcmpArm (d : Dev) (u : Nat) : Dev :=
  if !d.tcmpReached u then d.set F.TCMP_STAT_ARMED 1 u
  else
    let d := d.set F.TCMP_STAT_MISSED 1 u
    if !d.flag F.TCMP_CFG_LATE u then d.set F.TCMP_STAT_ARMED 0 u
    else
      let d := d.tcmpAct u
      if d.get F.TCMP_PERIOD u = 0 then d.set F.TCMP_STAT_ARMED 0 u
      else (d.set F.TCMP_VAL (d.tcmpAhead u) u).set F.TCMP_STAT_ARMED 1 u

/-- A write to TCMPu_CFG disarms the unit and clears HITS (R391). -/
def execTcmpConfigure (rq : Requester) (u : Fin 8) (w : Word) (s : State) : Host.Outcome State Fault Refusal :=
  let a := 0xD0200 + 0x20 * u.val
  .next (s.roleWrite rq (.tcmpConfigure rq u w) a none (fun d => d.word a) (fun d =>
    ((((d.set F.TCMP_CFG_LATE (bits w.toNat 20 1) u.val).set F.TCMP_CFG_PPS (bits w.toNat 1 1) u.val).set F.TCMP_CFG_IRQ (bits w.toNat 0 1) u.val).set
      F.TCMP_STAT_ARMED 0 u.val).set F.TCMP_STAT_HITS 0 u.val))

/-- A write to TCMPu_VAL's upper word arms the unit (R387). -/
def execTcmpArm (rq : Requester) (u : Fin 8) (w : Word) (s : State) : Host.Outcome State Fault Refusal :=
  let a := 0xD0208 + 0x20 * u.val
  .next (s.roleWrite rq (.tcmpArm rq u w) a none (fun d => d.word a) (fun d =>
    (d.set F.TCMP_VAL (w.toNat * 2 ^ 32 + d.get F.TCMP_VAL u.val % 2 ^ 32) u.val).tcmpArm u.val))

/-- T reaches an armed unit's value: the actions run, HITS counts, and the unit re-arms or disarms (R387). -/
def execTcmpHit (u : Fin 8) (s : State) : Host.Outcome State Fault Refusal :=
  .next (s.onDev (fun d =>
    let u := u.val
    if d.flag F.TCMP_STAT_ARMED u && d.tcmpReached u then
      let d := (d.tcmpAct u).bump F.TCMP_STAT_HITS u
      if d.get F.TCMP_PERIOD u = 0 then d.set F.TCMP_STAT_ARMED 0 u
      else (d.set F.TCMP_VAL ((d.get F.TCMP_VAL u + d.get F.TCMP_PERIOD u) % 2 ^ 64) u).tcmpArm u
    else d))

/-- PPS_SECOND: T has crossed a multiple of 10^9 ns (R388). -/
def execPpsSecond (s : State) : Host.Outcome State Fault Refusal :=
  .next (s.onDev (fun d =>
    let sec : Int := d.T / 1000000000
    if sec ≤ d.tb.lastSec then d
    else
      let d : Dev := { d with tb := { d.tb with lastSec := sec } }
      if d.get F.TB_PPS_MODE = 1 then d.ppsPulse else d))

/-- TB_PPS_OUT goes low and no pulse is under way (R388). -/
def Dev.ppsLow (d : Dev) : Dev :=
  let d : Dev := { d with tb := { d.tb with ppsEnd := none } }
  if d.pins.ppsOut then ({ d with pins := { d.pins with ppsOut := false } } : Dev).emit (.pps false) else d

/-- PPS_PULSE_END: the pulse has lasted WIDTH_US on R (R388). -/
def execPpsPulseEnd (s : State) : Host.Outcome State Fault Refusal :=
  .next (s.onDev (fun d =>
    match d.tb.ppsEnd with
    | some t => if t ≤ d.now then d.ppsLow else d
    | none => d))

/-- PPS_IN_EDGE: a rising edge is timestamped in T, counted and flagged (R388). -/
def execPpsInEdge (s : State) : Host.Outcome State Fault Refusal :=
  .next (s.onDev (fun d =>
    if d.pwr.st = .on then
      ((d.set F.TB_PPS_IN_TIME d.T).set F.TB_PPS_IN_CNT (d.get F.TB_PPS_IN_CNT + 1)).irq F.TB_IRQ_STAT F.TB_IRQ_EN 3 none
    else d))

end Sys2Proof.Machine
end

