-- ==== Sys2Proof/Machine/Ethernet.lean ====
section
/-! DEFINITION. The Ethernet ports (file 14, R392 to R397). -/

namespace Sys2Proof.Machine

/-! ### Frames -/

/-- A 16-bit field in network order. -/
def be16 (b : List Nat) (i : Nat) : Nat := b.getD i 0 * 256 + b.getD (i + 1) 0

/-- The offset of the EtherType, past at most one VLAN tag (R393). -/
def typeAt (b : List Nat) : Nat := if be16 b 12 = 0x8100 then 16 else 12

/-- The offset of a frame's PTP header when the frame is a PTP message (R393): over EtherType 0x88F7, or UDP to port 319 or 320 over IPv4 or IPv6. -/
def ptpOffset (b : List Nat) : Option Nat :=
  let t := typeAt b
  let ip := t + 2
  let udp (u : Nat) : Option Nat := if be16 b (u + 2) = 319 || be16 b (u + 2) = 320 then some (u + 8) else none
  if be16 b t = 0x88F7 then some ip
  else if be16 b t = 0x0800 && b.getD (ip + 9) 0 = 17 then udp (ip + 4 * (b.getD ip 0 % 16))
  else if be16 b t = 0x86DD && b.getD (ip + 6) 0 = 17 then udp (ip + 40)
  else none

/-- Is a frame taken by its destination address (R392). -/
def Dev.ethAccepts (d : Dev) (p : Nat) (b : List Nat) : Bool :=
  d.flag F.ETH_P_CFG_PROMISC p || b.getD 0 0 % 2 = 1 || b.take 6 = bytesLE 6 (d.get F.ETH_P_MAC p)

/-- The configured domain with a number (R395). -/
def Dev.domainOf (d : Dev) (n : Nat) : Option Nat :=
  [0, 1].find? (fun k => d.flag F.TB_D_CFG_EN k && d.get F.TB_D_CFG_NUMBER k = n)

/-- T_d or T in whole ns. -/
def Dev.timeIn (d : Dev) (k : Option Nat) : Nat :=
  match k with
  | some k => (d.domT k / fine).toNat
  | none => d.T

/-! ### Rings (R393, R394) -/

/-- An Ethernet ring. -/
def Dev.ethRing (d : Dev) (p r : Nat) : EthRing := (d.eth.getD p { rings := [] }).rings.getD r {}

/-- The address of a ring's next descriptor, when it has one: the ring is on, the KT192 may issue requests, and HEAD has not reached TAIL. -/
def Dev.ethDesc (d : Dev) (p r : Nat) : Option Nat :=
  let g := d.ethRing p r
  let h := d.get F.ETH_P_R_HEAD p r
  if g.on && g.n ≠ 0 && d.pwr.bme && d.pwr.link && h ≠ d.get F.ETH_P_R_TAIL p r then some (g.base + 32 * h) else none

/-- A descriptor is written back and HEAD advances (R393). -/
def Dev.ethDone (d : Dev) (p r addr : Nat) (ws : List Nat) : Dev :=
  (d.emit (.ring 4 p addr ws)).set F.ETH_P_R_HEAD ((d.get F.ETH_P_R_HEAD p r + 1) % Nat.max 1 (d.ethRing p r).n) p r

/-- Is a port running: EN 1 and no fence (R409). -/
def Dev.ethOn (d : Dev) (p : Nat) : Bool := d.pwr.st = .on && d.flag F.ETH_P_CFG_EN p && !d.fenced (.eth p)

/-- A received frame, FCS included, against the descriptor that stands in its ring (R392 to R395). -/
def Dev.ethReceive (d : Dev) (p : Nat) (b desc : List Nat) : Dev :=
  let body := b.take (b.length - 4)
  let d := (d.set F.ETH_P_STAT_LINK 1 p).set F.ETH_P_STAT_PCS_LOCK 1 p
  if b.length < 64 || d.get F.ETH_P_CFG_MTU p + 4 < b.length || crc32 body ≠ ofBytesLE (b.drop (b.length - 4)) then d.bump F.ETH_P_CNT_RX_BAD p
  else if !d.ethAccepts p b then d
  else
    let ptp := ptpOffset body
    let r := if ptp.isSome then 3 else 2
    match d.ethDesc p r with
    | none => d.bump F.ETH_P_CNT_RX_DROP p
    | some a =>
      let dom := match ptp with | some o => d.domainOf (body.getD (o + 4) 0) | none => none
      let room := desc.getD 2 0 % 2 ^ 14
      let n := Nat.min room body.length
      let w2 := 2 ^ 31 + (if room < body.length then 2 ^ 28 else 0) + n
      let w3 := (match dom with | some k => k * 2 ^ 31 + 2 ^ 30 | none => 0)
      let ts := d.timeIn dom
      let ws := [desc.getD 0 0, desc.getD 1 0, w2, w3, d.T % 2 ^ 32, d.T / 2 ^ 32, ts % 2 ^ 32, ts / 2 ^ 32 % 2 ^ 32]
      let d := d.emit (.ring 3 p (desc.getD 1 0 * 2 ^ 32 + desc.getD 0 0) (body.take n))
      (d.ethDone p r a ws).msixDue (d.get F.ETH_P_VEC p)

/-- ETH_FRAME_RECEIVE (R393). -/
def execEthFrameReceive (p : Fin 2) (frame : List Byte) (desc : List Word) (s : State) : Host.Outcome State Fault Refusal :=
  .next (s.onDev (fun d => if d.ethOn p.val then d.ethReceive p.val (frame.map (·.toNat)) (desc.map (·.toNat)) else d))

/-! ### Transmission (R396) -/

/-- Bytes written into a frame at an offset. -/
def patch (b : List Nat) (o : Nat) (new : List Nat) : List Nat := b.take o ++ new ++ b.drop (o + new.length)

/-- The one-step edit: originTimestamp of a Sync or correctionField of a Pdelay_Resp, twoStepFlag 0, and over IPv4 the UDP checksum 0 (R396). The places in
the PTP header are those of IEEE 1588. -/
def oneStep (b : List Nat) (o kind dep tIn : Nat) : List Nat :=
  let b := if kind = 1 then patch b (o + 34) (bytesBE 6 (dep / 1000000000) ++ bytesBE 4 (dep % 1000000000))
    else patch b (o + 8) (bytesBE 8 (unsigned 64 (signed 64 (ofBytesBE ((b.drop (o + 8)).take 8)) + ((dep : Int) - tIn) * 65536)))
  let f := b.getD (o + 6) 0
  let b := patch b (o + 6) [f - f / 2 % 2 * 2]
  if be16 b (typeAt b) = 0x0800 then patch b (o - 2) [0, 0] else b

/-- A transmit descriptor's frame is sent and the descriptor written back (R394, R396). -/
def Dev.ethTransmit (d : Dev) (p r addr : Nat) (desc frame : List Nat) : Dev :=
  let w2 := desc.getD 2 0
  let w3 := desc.getD 3 0
  let len := w2 % 2 ^ 14
  let kind := bits w3 16 2
  let tooLong := d.get F.ETH_P_CFG_MTU p < len
  let edit := d.flag F.ETH_P_CFG_ONE_STEP p && w2.testBit 18 && (kind = 1 || kind = 2)
  let b := (frame ++ List.replicate len 0).take len
  let v6 := be16 b (typeAt b) = 0x86DD
  let dom : Option Nat := if (w2.testBit 17 || edit) && (ptpOffset b).isSome then some (w3 / 2 ^ 31 % 2) else none
  let dep := d.timeIn dom
  let tIn := desc.getD 5 0 * 2 ^ 32 + desc.getD 4 0
  let out := if edit && !v6 then oneStep b (w3 % 2 ^ 16) kind dep tIn else b
  let d := if len = 0 || tooLong then d else d.emit (.eth p (out ++ bytesLE 4 (crc32 out)))
  let status := if tooLong then 1 else if edit && v6 then 2 else 0
  let ts := (w2.testBit 17 || (edit && v6)) && len ≠ 0 && !tooLong
  let w2' := 2 ^ 31 + status * 2 ^ 28 + w2 % 2 ^ 28
  let ws := [desc.getD 0 0, desc.getD 1 0, w2', w3, desc.getD 4 0, desc.getD 5 0] ++
    (if ts then [dep % 2 ^ 32, dep / 2 ^ 32 % 2 ^ 32] else [desc.getD 6 0, desc.getD 7 0])
  let d := d.ethDone p r addr ws
  if w2.testBit 19 then d.msixDue (d.get F.ETH_P_VEC p) else d

/-- ETH_FRAME_TRANSMIT: ring 1 is served before ring 0 (R393). -/
def execEthFrameTransmit (p : Fin 2) (r : Fin 2) (desc : List Word) (frame : List Byte) (s : State) : Host.Outcome State Fault Refusal :=
  .next (s.onDev (fun d =>
    if d.ethOn p.val && (r.val = 1 || (d.ethDesc p.val 1).isNone) then
      match d.ethDesc p.val r.val with
      | some a => d.ethTransmit p.val r.val a (desc.map (·.toNat)) (frame.map (·.toNat))
      | none => d
    else d))

/-- ETH_LINK_LOSS (R397). -/
def execEthLinkLoss (p : Fin 2) (s : State) : Host.Outcome State Fault Refusal :=
  .next (s.onDev (fun d =>
    if d.ethOn p.val then ((d.set F.ETH_P_STAT_LINK 0 p.val).set F.ETH_P_STAT_PCS_LOCK 0 p.val).report (310 + p.val) else d))

/-- ETH_Pp_CNT.CLEAR (R397). -/
def execEthCountClear (rq : Requester) (p : Fin 2) (s : State) : Host.Outcome State Fault Refusal :=
  .next (s.row rq (.ethCountClear rq p) (0xE0110 + 0x100 * p.val) (2 ^ 31) ⟨31, none⟩ (fun d =>
    (d.set F.ETH_P_CNT_RX_DROP 0 p.val).set F.ETH_P_CNT_RX_BAD 0 p.val))

end Sys2Proof.Machine
end

