-- ==== Sys2Proof/Machine/Lamp.lean ====
section
/-! DEFINITION. The lamp controller (file 13, R359 to R376). -/

namespace Sys2Proof.Machine

/-! ### What darkens a channel (R370, R371) -/

/-- The device with a lamp channel changed. -/
def Dev.modLamp (d : Dev) (c : Nat) (f : LampCh → LampCh) : Dev := { d with lamps := { d.lamps with chans := setAt d.lamps.chans c f } }

/-- LMP_STILL_TIME in ns. -/
def Dev.stillTime (d : Dev) : Nat := d.bonded 9 * 1000000

/-- A frame's three fixed words (R360). -/
def lampHead (cmd seq row period shunt iSet on : Nat) : List Nat :=
  [cmd * 2 ^ 28 + seq * 2 ^ 24 + row * 2 ^ 16 + period, shunt, iSet * 2 ^ 16 + on]

/-- The words of a frame with the CRC-16 of R67 over them, which the line carries after the start bit (R360). The words enter the check from their most significant
byte on, as the bytes of R67 do: DEDUCED. -/
def lampCoded (ws : List Nat) : List Nat := ws ++ [crc16 (ws.flatMap (bytesBE 4))]

/-- A frame is sent on a channel's line; its reply is awaited. -/
def Dev.lampSend (d : Dev) (c cmd row period shunt iSet on : Nat) (duty : List Nat := []) : Dev :=
  let x := d.lampCh c
  let words := lampHead cmd x.seq row period shunt iSet on ++ (chunks 2 16 duty).map (fun p => p.getD 0 0 + p.getD 1 0 * 65536)
  (d.emit (.lamp c cmd (lampCoded words))).modLamp c (fun x => { x with seq := (x.seq + 1) % 16, await := x.await + 1 })

/-- An OFF frame: no pulse to judge, nothing to diagnose (R373). -/
def Dev.lampOff (d : Dev) (c : Nat) : Dev :=
  (d.lampSend c 5 0 0 0 0 0).modLamp c (fun x => { x with judge := 0, lit := 0, opens := 0, shorts := 0, found := [], dim := [], depends := [] })

/-! ### Values of a period (R362, R363, R366, R367) -/

/-- DUTY' of a duty (R362). -/
def Dev.dutyOut (d : Dev) (c duty : Nat) : Nat :=
  let g := d.get F.LMP_C_GAIN c
  let v := duty * g / 2 ^ 14
  if v < 65536 then v else (Config.lampOver duty g).toNat

/-- Does a lamp's column range meet columns 0 to W − 1 of a job (R366). -/
def Dev.lampMeets (d : Dev) (c i width : Nat) : Bool := d.get F.LMP_C_SEG_COL0 c + i * d.get F.LMP_C_SEG_W c < width

/-- The lamps of a channel that a job needs, as a mask. -/
def Dev.lampNeeds (d : Dev) (c mask width : Nat) : Nat :=
  if bit mask (d.get F.LMP_C_CFG_BAR c) then
    ((List.range 32).map (fun i => if d.lampMeets c i width then 2 ^ i else 0)).sum
  else 0

/-- Does a channel follow the width segments. -/
def Dev.autoSeg (d : Dev) (c : Nat) : Bool := d.flag F.LMP_C_CFG_AUTO_SEG c && d.flag F.LMP_C_SEG_W c

/-- The lamps below LAMPS that are not dark, as a mask (R365). -/
def Dev.litMask (d : Dev) (c : Nat) : Nat :=
  let all := 2 ^ (d.get F.LMP_C_CFG_LAMPS c + 1) - 1
  let seg := if d.autoSeg c then
      (d.running.map (fun e => d.lampNeeds c e.2.ctx.barMask e.2.ctx.width) ++ (d.lampCh c).holds.map (·.1)).foldl (· ||| ·) 0
    else all
  (all &&& seg) - ((all &&& seg) &&& d.get F.LMP_C_SHUNT c)

/-- The number of set bits of a 32-bit mask. -/
def ones (m : Nat) : Nat := ((List.range 32).filter (fun i => bit m i)).length

/-- A job leaves RUNNING: the lamps that it needed are held for SEG_HOLD_MS (R366). -/
def Dev.lampsHold (d : Dev) (mask width : Nat) : Dev :=
  (List.range 16).foldl (fun d c =>
    let n := d.lampNeeds c mask width
    if d.autoSeg c && n ≠ 0 then d.modLamp c (fun x => { x with holds := x.holds ++ [(n, d.now + d.get F.LMP_C_TIMES_SEG_HOLD_MS c * 1000000)] }) else d) d

/-- The gain that a channel's colour and temperature ask for (R367). -/
def Dev.gainTarget (d : Dev) (c : Nat) : Nat :=
  let k := d.get F.LMP_C_CFG_COMP c - 1
  let dt := signed 16 (d.get F.LMP_C_STAT_TEMP c) - signed 16 (d.get F.LMP_TC_TREF k)
  (clampI 8192 24576 (openRound 367 (16384 * (256000000 + signed 16 (d.get F.LMP_TC_TC k) * dt)) 256000000)).toNat

/-- The gain of a period: it moves by at most 1 while valid replies come (R367). -/
def Dev.gainStep (d : Dev) (c : Nat) : Dev :=
  let x := d.lampCh c
  if !d.flag F.LMP_C_CFG_COMP c then d.set F.LMP_C_GAIN 16384 c
  else if !x.valid || x.validAt + 100000000 ≤ d.now then d
  else
    let g := d.get F.LMP_C_GAIN c
    let t := d.gainTarget c
    d.set F.LMP_C_GAIN (if g < t then g + 1 else if t < g then g - 1 else g) c

/-! ### The stretch (R374) -/

/-- One period of the stretch for an element: the ON value to send and the element's new (owe, since). -/
def stretch (diag on p owe since : Nat) : Nat × Nat × Nat :=
  if owe = 0 && diag ≤ since then
    let s := cdiv (2000 * 65536) p
    (s, s - on, 1)
  else if owe ≠ 0 then
    let cut := Nat.min owe (on - on * 7 / 8)
    (on - cut, owe - cut, since + 1)
  else (on, 0, since + 1)

/-- Is an on-time above 0 and below 2 µs: ON out of 65,536 of a length in ns. -/
def isDim (on len : Nat) : Bool := on ≠ 0 && on * len < 2000 * 65536

/-- Is a channel stretched (R374). -/
def Dev.stretches (d : Dev) (c : Nat) : Bool := !d.flag F.LMP_C_CFG_NO_STRETCH c && d.flag F.LMP_DIAG_PERIOD

/-- The ON value to send for an element of a channel whose pulse lasts ON × len / 65,536; p is the period or slot. -/
def Dev.lampElement (d : Dev) (c k on len p : Nat) : Nat × Dev :=
  if isDim on len && d.stretches c then
    let e := ((d.lampCh c).dim.find? (fun e => e.1 = k)).getD (k, 0, 0)
    let r := stretch (d.get F.LMP_DIAG_PERIOD) on p e.2.1 e.2.2
    (r.1, d.modLamp c (fun x => { x with dim := x.dim.filter (fun e => e.1 ≠ k) ++ [(k, r.2.1, r.2.2)] }))
  else (on, d)

/-- What the stretch depends on: when it changes, owe and since restart at 0. -/
def Dev.restretch (d : Dev) (c : Nat) (on : List Nat) : Dev :=
  if (d.lampCh c).depends = on then d else d.modLamp c (fun x => { x with depends := on, dim := [] })

/-! ### Matrices (R368, R369) -/

/-- The BAR2 words of a channel's matrix window. -/
def Dev.matrixShadow (d : Dev) (c : Nat) : RegFile :=
  d.bar2.filter (fun e => 0xC00000 + 0x1000 * c ≤ e.1 && e.1 < 0xC00800 + 0x1000 * c)

/-- The duty of element (r, k) in a set. -/
def matrixDuty (set : RegFile) (c r k : Nat) : Nat :=
  bits ((set.find (0xC00000 + 0x1000 * c + (32 * r + k) / 2 * 4)).getD 0) (16 * (k % 2)) 16

/-- A channel's rows and columns. -/
def Dev.lampRows (d : Dev) (c : Nat) : Nat := d.get F.LMP_C_CFG_ROWS c + 1
def Dev.lampCols (d : Dev) (c : Nat) : Nat := d.get F.LMP_C_CFG_COLS c + 1

/-- The duties of a row as sent, with the even number of columns that whole words hold. -/
def Dev.rowDuties (d : Dev) (c r : Nat) (set : RegFile) : List Nat := (List.range (d.lampCols c)).map (fun k => d.dutyOut c (matrixDuty set c r k))

/-- A ROW frame of a line scan: each element's ON, stretched by itself, and whether the slot is judged. -/
def Dev.sendRow (d : Dev) (c r slot prechg : Nat) : Dev :=
  let len := slot - prechg
  let out := ((d.rowDuties c r (d.lampCh c).set).zipIdx).foldl (fun (a : List Nat × Dev) e =>
    let q := a.2.lampElement c (32 * r + e.2) e.1 len slot
    (a.1 ++ [q.1], q.2)) ([], d)
  let judged := out.1.any (fun on => on ≠ 0 && 2000 * 65536 ≤ on * slot)
  (out.2.lampSend c 2 r (slot / 10) 0 0 prechg out.1).modLamp c (fun x => { x with judge := setBit x.judge r judged })

/-! ### Periods (R363) -/

/-- STATUS reads UNVERIFIED while a pulse that cannot be judged is never stretched, and leaves OFF, INTERLOCK and UNVERIFIED no longer. -/
def Dev.lampVerify (d : Dev) (c : Nat) (unverified : Bool) : Dev :=
  let st := d.get F.LMP_C_STAT_STATUS c
  if unverified then (if st = 6 then d else d.lampStatus c 4) else if st = 4 || st = 5 then d.lampStatus c 0 else d

/-- The ON value and the frame of a channel in STRING or STROBE mode. -/
def Dev.lampString (d : Dev) (c cmd : Nat) : Dev :=
  let mask := d.litMask c
  let lit := ones mask
  let duty := d.get F.LMP_C_PWM_DUTY c
  let period := d.get F.LMP_C_PWM_PERIOD c
  if duty = 0 || lit = 0 then (d.lampOff c).lampStatus c 0
  else
    let on := d.dutyOut c duty
    let d := d.restretch c [duty, period, mask, d.get F.LMP_C_GAIN c]
    let q := if cmd = 1 then d.lampElement c 0 on (10 * period) (10 * period) else (on, d)
    let d := q.2.lampVerify c (isDim on (10 * period) && !(cmd = 1 && d.stretches c))
    let shunt := (2 ^ 32 - 1) - mask
    let all := 2 ^ (d.get F.LMP_C_CFG_LAMPS c + 1) - 1
    (d.lampSend c cmd 0 period (shunt &&& (all ||| d.get F.LMP_C_SHUNT c)) (d.get F.LMP_C_ELEC_I_SET c) q.1).modLamp c
      (fun x => { x with judge := 1, lit, iSet := d.get F.LMP_C_ELEC_I_SET c })

/-- A period of a line scan: every slot's ROW frame, and a set loaded since the last period comes into use (R368, R369). -/
def Dev.lampScan (d : Dev) (c : Nat) : Dev :=
  let d := d.modLamp c (fun x => match x.next with | some s => { x with set := s, next := none } | none => x)
  let rows := d.lampRows c
  let slot := 10 * d.get F.LMP_C_PWM_PERIOD c / rows
  let prechg := Nat.min (d.get F.LMP_C_TIMES_PRECHG_NS c) (slot / 4)
  let set := (d.lampCh c).set
  let duties := (List.range rows).flatMap (fun r => d.rowDuties c r set)
  if duties.all (· = 0) then
    let d := (List.range rows).foldl (fun d r => d.sendRow c r slot prechg) d
    (d.modLamp c (fun x => { x with judge := 0, found := [] })).lampStatus c 0
  else
    let d := d.restretch c ([d.get F.LMP_C_PWM_PERIOD c, d.get F.LMP_C_GAIN c] ++ duties)
    let d := d.lampVerify c (duties.any (fun on => isDim on (slot - prechg)) && !d.stretches c)
    (List.range rows).foldl (fun d r => d.sendRow c r slot prechg) d

/-- A period of a module that keeps frames: SWAP once LMP_SYNC has let the set swap, else the next LOAD row of the set being sent, else of the set in
use (R369). -/
def Dev.lampFrame (d : Dev) (c : Nat) : Dev :=
  let x := d.lampCh c
  let rows := d.lampRows c
  let off := (List.range rows).all (fun r => (d.rowDuties c r x.set).all (· = 0)) && x.next.isNone
  let d := (d.modLamp c (fun x => { x with judge := 1, lit := 1 }))
  let d := if off then d.lampStatus c 0 else d.lampVerify c false
  match x.next with
  | some s =>
    if x.synced then
      (d.lampSend c 4 0 (d.get F.LMP_C_PWM_PERIOD c) 0 0 0).modLamp c (fun x => { x with set := s, next := none, synced := false, sentRows := 0 })
    else if x.sentRows < rows then
      (d.lampSend c 3 x.sentRows (d.get F.LMP_C_PWM_PERIOD c) 0 0 0 (d.rowDuties c x.sentRows s)).modLamp c (fun x => { x with sentRows := x.sentRows + 1 })
    else d.lampSend c 3 (rows - 1) (d.get F.LMP_C_PWM_PERIOD c) 0 0 0 (d.rowDuties c (rows - 1) s)
  | none => 
    let r := x.sentRows % rows
    (d.lampSend c 3 r (d.get F.LMP_C_PWM_PERIOD c) 0 0 0 (d.rowDuties c r x.set)).modLamp c (fun x => { x with sentRows := (r + 1) % rows })

/-- Does a period formed now count its channel as still (R370): it was dark for stillness, or LMP_STILL_TIME has passed, or the channel has just been
enabled while the web is still. -/
def Dev.lampStill (d : Dev) (c : Nat) : Bool :=
  d.uvChannel c && d.lamps.slowAt.isSome && (d.lamps.passed || (d.lampCh c).still || !(d.lampCh c).on)

/-- A period is formed and its frame sent (R363). A line held low carries no frame; a channel in OFF mode, dark for stillness or fenced sends OFF. -/
def Dev.lampPeriod (d : Dev) (c : Nat) : Dev :=
  if !d.lampsOn then d
  else if d.lampHeld c then d.lampStatus c 5
  else
    let mode := d.get F.LMP_C_CFG_MODE c
    let still := d.lampStill c
    let d := d.modLamp c (fun x => { x with still, on := mode ≠ 0 })
    let d := d.gainStep c
    if still then (if mode = 4 then d else d.lampOff c).lampStatus c 5
    else if d.fenced (.lamp c) then (if mode = 4 then d else d.lampOff c)
    else match mode with
      | 1 => d.lampString c 1
      | 2 => d.lampScan c
      | 3 => d.lampFrame c
      | 4 => if d.get F.LMP_C_STAT_STATUS c = 5 then d.lampStatus c 0 else d
      | _ => (d.lampOff c).lampStatus c 0

/-- LAMP_PERIOD (R363). -/
def execLampPeriod (c : Lamp) (s : State) : Host.Outcome State Fault Refusal := .next (s.onDev (fun d => d.lampPeriod c.val))

/-- A LAMP action of a position compare: a STROBE frame, or a missed one (R364). -/
def Dev.strobe (d : Dev) (c : Nat) : Dev :=
  if !d.lampsOn || d.get F.LMP_C_CFG_MODE c ≠ 4 then d
  else if d.lampHeld c || d.lampStill c then d.lampStatus c 5
  else if d.fenced (.lamp c) then d
  else
    let early : Bool := match (d.lampCh c).strobed with
      | some t => decide (d.now < t + d.get F.LMP_C_PWM_PERIOD c * 10)
      | none => false
    if early then d.bump F.LMP_C_CNT_MISSED c
    else
      let sent := d.get F.LMP_C_PWM_DUTY c ≠ 0 && d.litMask c ≠ 0
      ((d.gainStep c).lampString c 6).modLamp c (fun x => { x with strobed := if sent then some d.now else x.strobed, on := true })

/-! ### Replies (R367, R372) -/

/-- The finding of a judged string pulse (R372). -/
def Dev.judgeString (d : Dev) (c volt curr : Nat) : Dev :=
  let x := d.lampCh c
  let v := d.get F.LMP_C_ELEC_V_LAMP c
  let opens := if 2 * curr < x.iSet then x.opens + 1 else 0
  let shorts := if 2 * volt < (2 * x.lit - 1) * v then x.shorts + 1 else 0
  let d := d.modLamp c (fun x => { x with opens, shorts })
  if 3 ≤ opens then d.lampStatus c 2
  else if 3 ≤ shorts then
    (d.set F.LMP_C_STAT_SHORTED (clampI 1 15 (roundDiv ((x.lit * v : Nat) - (volt : Int)) v)).toNat c).lampStatus c 3
  else d.lampStatus c 1

/-- The finding of a matrix module (R372). -/
def Dev.judgeMatrix (d : Dev) (c row opens shorts : Nat) : Dev :=
  let d := d.modLamp c (fun x => { x with found := x.found.filter (fun e => e.1 ≠ row) ++ [(row, opens, shorts)] })
  let f := (d.lampCh c).found
  if f.any (fun e => e.2.1 ≠ 0) then d.lampStatus c 2
  else if f.any (fun e => e.2.2 ≠ 0) then
    (d.set F.LMP_C_STAT_SHORTED (sat 15 (f.foldl (fun m e => Nat.max m e.2.2) 0)) c).lampStatus c 3
  else d.lampStatus c 1

/-- The values that a valid reply brings: measurements, temperature, and the first gain after enable (R367, R376). -/
def Dev.lampMeasure (d : Dev) (c w0 w1 : Nat) : Dev :=
  let first := !(d.lampCh c).valid
  let d := ((d.set F.LMP_C_MEAS_VOLT (bits w1 16 16) c).set F.LMP_C_MEAS_CURR (bits w1 0 16) c).set F.LMP_C_STAT_TEMP (bits w0 0 16) c
  let d := d.modLamp c (fun x => { x with valid := true, validAt := d.now })
  if first && d.flag F.LMP_C_CFG_COMP c then d.set F.LMP_C_GAIN (d.gainTarget c) c else d

/-- A reply, or its absence: missing and with a wrong CRC count alike (R372). -/
def Dev.lampReply (d : Dev) (c row : Nat) (reply : Option (Nat × Nat × Nat)) : Dev :=
  let x := d.lampCh c
  if x.await = 0 then d
  else
    let d := d.modLamp c (fun x => { x with await := x.await - 1 })
    match reply with
    | none =>
      let d := (d.bump F.LMP_C_CNT_CRC c).modLamp c (fun x => { x with misses := x.misses + 1 })
      if 3 ≤ x.misses + 1 then d.lampStatus c 6 else d
    | some (w0, w1, w2) =>
      let d := d.modLamp c (fun x => { x with misses := 0, alert := w0.testBit 23 })
      let valid := w0.testBit 20
      let d := if valid then d.lampMeasure c w0 w1 else d
      let d := if d.get F.LMP_C_STAT_STATUS c = 6 then d.lampStatus c 0 else d
      let mode := d.get F.LMP_C_CFG_MODE c
      let d :=
        if mode = 2 || mode = 3 then (if bit x.judge (if mode = 2 then row else 0) then d.judgeMatrix c row (bits w2 8 8) (bits w2 0 8) else d)
        else if valid && bit x.judge 0 && 0 < x.lit then d.judgeString c (bits w1 16 16) (bits w1 0 16)
        else d
      if bit d.lamps.alerts c then
        let d : Dev := { d with lamps := { d.lamps with alerts := setBit d.lamps.alerts c false } }
        if w0.testBit 23 then d.report 301 else d
      else d

/-- LAMP_REPLY (R372). -/
def execLampReply (c : Lamp) (row : Fin 32) (reply : Option (Word × Word × Word)) (s : State) : Host.Outcome State Fault Refusal :=
  .next (s.onDev (fun d => if d.lampsOn then d.lampReply c.val row.val (reply.map (fun r => (r.1.toNat, r.2.1.toNat, r.2.2.toNat))) else d))

/-! ### Other inputs -/

/-- LAMP_SYNC: a whole set sent may swap; a set still being sent misses the edge (R369). -/
def execLampSync (s : State) : Host.Outcome State Fault Refusal :=
  .next (s.onDev (fun d =>
    if !d.lampsOn then d
    else (List.range 16).foldl (fun d c =>
      let x := d.lampCh c
      if d.get F.LMP_C_CFG_MODE c ≠ 3 || x.next.isNone then d
      else if d.lampRows c ≤ x.sentRows then d.modLamp c (fun x => { x with synced := true, missed := false })
      else
        let d := (d.bump F.LMP_C_CNT_MISSED c).modLamp c (fun x => { x with missed := true })
        (d.irq F.LMP_IRQ_STAT F.LMP_IRQ_EN 17 none).report 302) d))

/-- LAMP_ALERT_INPUT: LMP_ALERT_N falls; each channel's next reply tells whether its module asserts it (R372). -/
def execLampAlertInput (s : State) : Host.Outcome State Fault Refusal :=
  .next (s.onDev (fun d => { d with lamps := { d.lamps with alerts := if d.pwr.st = .on then 0xFFFF else d.lamps.alerts } }))

/-- LMP_Cc_CMD.LOAD copies the matrix window as one set (R369). -/
def execLampMatrixLoad (rq : Requester) (c : Lamp) (s : State) : Host.Outcome State Fault Refusal :=
  .next (s.row rq (.lampMatrixLoad rq c) (0xC0120 + 0x40 * c.val) 1 ⟨0, none⟩ (fun d =>
    let set := d.matrixShadow c.val
    d.modLamp c.val (fun x => { x with next := some set, sentRows := 0, synced := false })))

/-- LMP_CTRL is written: ENABLE 0 holds every line low; the first period after 0 to 1 starts afresh (R363, R370). -/
def execLampEnable (rq : Requester) (w : Word) (s : State) : Host.Outcome State Fault Refusal :=
  .next (s.roleWrite rq (.lampEnable rq w) 0xC0008 none (fun d => d.word 0xC0008) (fun d =>
    let was := d.flag F.LMP_CTRL_ENABLE
    let on := w.toNat.testBit 0
    let d := d.set F.LMP_CTRL_ENABLE (b2n on)
    if on && !was then
      let d := (List.range 16).foldl (fun d c => d.modLamp c (fun x => { x with on := false, still := false, valid := false, await := 0, misses := 0 })) d
      d.lampGate
    else if !on then
      (List.range 16).foldl (fun d c => (d.lampStatus c 0).modLamp c (fun x => { x with on := false, await := 0, judge := 0, dim := [], depends := [] })) d
    else d))

/-- ILK_UV_N changes (R370, R371). -/
def execIlkUvInput (high : Bool) (s : State) : Host.Outcome State Fault Refusal :=
  .next (s.onDev (fun d =>
    let d := ({ d with pins := { d.pins with ilkUv := high } } : Dev).lampGate
    if d.pwr.st = .on then d.reportLevel 57 0 high else d))

/-- POS_SPEED has a new value: below LMP_MIN_SPEED the still time runs, at or above it ends (R370, R371). -/
def Dev.noteSpeed (d : Dev) : Dev :=
  if d.pos.speed < (d.bonded 8 * 1000 : Nat) then
    (match d.lamps.slowAt with | some _ => d | none => { d with lamps := { d.lamps with slowAt := some d.now } })
  else { d with lamps := { d.lamps with slowAt := none, passed := false, chans := d.lamps.chans.map (fun x => { x with still := false }) } }

/-- UV_STILL_TIMEOUT (R370). -/
def execUvStillTimeout (s : State) : Host.Outcome State Fault Refusal :=
  .next (s.onDev (fun d =>
    match d.lamps.slowAt with
    | some t => if t + d.stillTime ≤ d.now then { d with lamps := { d.lamps with passed := true } } else d
    | none => d))

/-- SEGMENT_HOLD_EXPIRE: the lamps whose hold has ended go dark (R366). -/
def execSegmentHoldExpire (c : Lamp) (s : State) : Host.Outcome State Fault Refusal :=
  .next (s.onDev (fun d => d.modLamp c.val (fun x => { x with holds := x.holds.filter (fun h => d.now < h.2) })))

/-- LMP_Cc_CNT.CLEAR (R376). -/
def execLampCountClear (rq : Requester) (c : Lamp) (s : State) : Host.Outcome State Fault Refusal :=
  .next (s.row rq (.lampCountClear rq c) (0xC0124 + 0x40 * c.val) (2 ^ 31) ⟨31, none⟩ (fun d =>
    (d.set F.LMP_C_CNT_CRC 0 c.val).set F.LMP_C_CNT_MISSED 0 c.val))

/-- A camera commit hands a duty to a lamp channel (R336, R363). -/
def Dev.handDuty (d : Dev) (c duty : Nat) : Dev := d.set F.LMP_C_PWM_DUTY duty c

end Sys2Proof.Machine
end

