-- ==== Sys2Proof/Machine/Camera.lean ====
section
/-! DEFINITION. The camera ports and the commands of the image pipeline (file 11, R316 to R337). -/

namespace Sys2Proof.Machine

/-! ### Port enable, lock and loss (R318, R320) -/

/-- LINK is written: its other fields are stored, and ENABLE starts or stops the port. -/
def Dev.camLink (d : Dev) (rq : Requester) (n w : Nat) : Dev :=
  let was := d.flag F.CAM_P_LINK_ENABLE n
  let on := w.testBit 31
  let d := (d.storeWord rq (0x90100 + 0x100 * n) w).set F.CAM_P_LINK_ENABLE (b2n on) n
  if on && !was then (if d.fenced (.cam n) then d else d.startCamera n)
  else if !on && was then (d.stopCamera n).drain
  else d

/-- A write of CAM_Pn_LINK with ENABLE 1 (R320). -/
def execCameraEnable (rq : Requester) (n : Cam) (w : Word) (s : State) : Host.Outcome State Fault Refusal :=
  let a := 0x90100 + 0x100 * n.val
  .next (s.roleWrite rq (.cameraEnable rq n w) a none (fun d => d.word a) (fun d => d.camLink rq n.val (w.toNat ||| 2 ^ 31)))

/-- A write of CAM_Pn_LINK with ENABLE 0 (R320). -/
def execCameraDisable (rq : Requester) (n : Cam) (w : Word) (s : State) : Host.Outcome State Fault Refusal :=
  let a := 0x90100 + 0x100 * n.val
  .next (s.roleWrite rq (.cameraDisable rq n w) a none (fun d => d.word a) (fun d => d.camLink rq n.val (setBit w.toNat 31 false)))

/-- Every connection has locked (R320). -/
def execCameraLock (n : Cam) (s : State) : Host.Outcome State Fault Refusal :=
  .next (s.onDev (fun d =>
    if d.get F.CAM_P_STAT_STATE n.val = 1 then
      (d.set F.CAM_P_STAT_LOCK (2 ^ ((d.camSt n.val).conns + 1) - 1) n.val).set F.CAM_P_STAT_STATE 2 n.val
    else d))

/-- Lines of a port's frame are dropped: counted, with the DROP cause (R328). -/
def Dev.camDrop (d : Dev) (n k : Nat) : Dev :=
  if k = 0 then d
  else (d.bump F.CAM_P_CNT_DROPPED n 0 k).irq F.CAM_IRQ_STAT F.CAM_IRQ_EN (12 + n) (some F.CAM_VEC)

/-- Lines of a frame that will not come are dropped: k of them, or all that are missing. -/
def Dev.dropLines (d : Dev) (n no : Nat) (k : Option Nat) : Dev :=
  match (d.camSt n).frames.find? (fun f => f.no = no) with
  | none => d
  | some f =>
    let m := match k with | some k => Nat.min k (f.lines - f.got) | none => f.lines - f.got
    (d.camDrop n m).modCam n (fun c => { c with frames := c.frames.map (fun g => if g.no = no then { g with got := g.got + m } else g) })

/-- The image being received ends; its missing lines count as dropped (R324). -/
def Dev.endImage (d : Dev) (n : Nat) : Dev :=
  match (d.camSt n).current with
  | some no => (d.dropLines n no none).modCam n (fun c => { c with current := none })
  | none => d

/-- A connection loses lock (R318). -/
def execCameraLinkLoss (n : Cam) (conn : Fin 4) (s : State) : Host.Outcome State Fault Refusal :=
  .next (s.onDev (fun d =>
    let n := n.val
    if d.get F.CAM_P_STAT_STATE n = 0 || !bit (d.get F.CAM_P_STAT_LOCK n) conn.val then d
    else
      let d := d.set F.CAM_P_STAT_LOCK (setBit (d.get F.CAM_P_STAT_LOCK n) conn.val false) n
      let d := (d.set F.CAM_P_STAT_STATE 1 n).ctlDown n
      let d := ((d.camSt n).frames.foldl (fun d f => d.dropLines n f.no none) d).modCam n (fun c =>
        { c with current := none, resync := true, image := c.frameNo })
      ((d.purge n).irq F.CAM_IRQ_STAT F.CAM_IRQ_EN n (some F.CAM_VEC)).report (253 + n)))

/-! ### Commits (R335, R336) -/

/-- Is a register field one of a context's shadow fields: offsets 0x00 to 0x3C and each stream's CROP and FMT (R337). -/
def shadowKey (k key : Nat) : Bool :=
  let a := key / 64
  let o := a - (0xA0100 + 0x100 * k)
  0xA0100 + 0x100 * k ≤ a && (o < 0x40 || (0x60 ≤ o && o < 0xC0 && o % 0x20 < 8))

/-- The shadow settings of a context. -/
def Dev.ctxShadow (d : Dev) (k : Nat) : RegFile := d.regs.filter (fun e => shadowKey k e.1)

/-- The shadow tables of a context (R331). -/
def Dev.tabShadow (d : Dev) (k : Nat) : RegFile :=
  d.bar2.filter (fun e => (0x900000 + 0x20000 * k ≤ e.1 && e.1 < 0x920000 + 0x20000 * k) ||
    (0xA00000 + 0x2000 * k ≤ e.1 && e.1 < 0xA01800 + 0x2000 * k))

/-- A commit for a port: one more generation, pending (R335). -/
def Dev.camCommit (d : Dev) (n : Nat) : Dev :=
  let x := d.nextFree
  let d := x.2
  let ks := (List.range 8).filter (fun k => d.srcOf k = n || d.get F.ISP_K_CFG_SRC k = n)
  let c : CamCommit :=
    { expo := d.get F.CAM_P_TRIG_EXPO n, lines := d.get F.CAM_P_FRAME_LINES n,
      lamps := (List.range 4).map (fun i => (d.flag F.CAM_P_LAMP_EN n i, d.get F.CAM_P_LAMP_CH n i, d.get F.CAM_P_LAMP_DUTY n i)),
      ctxs := ks.map (fun k => (k, d.ctxShadow k, d.tabShadow k)), copied := d.now + Config.commitCopy x.1 % 200001 }
  let d := d.set F.CAM_P_COMMIT_GEN ((d.get F.CAM_P_COMMIT_GEN n + 1) % 2 ^ 16) n
  (d.set F.CAM_P_COMMIT_PENDING 1 n).modCam n (fun x => { x with commit := some c })

/-- CAM_Pn_COMMIT.COMMIT (R335). -/
def execCameraCommit (rq : Requester) (n : Cam) (s : State) : Host.Outcome State Fault Refusal :=
  .next (s.row rq (.cameraCommit rq n) (0x9011C + 0x100 * n.val) (2 ^ 31) ⟨31, none⟩ (fun d => d.camCommit n.val))

/-- May a frame that starts now be the effective frame of the pending commit. -/
def Dev.commitReady (d : Dev) (n : Nat) : Bool :=
  match (d.camSt n).commit with
  | some c => c.copied ≤ d.now && d.get F.ISP_COMMIT_LAT ≤ c.periods
  | none => false

/-- The committed settings come into force at the start of a frame; the lamp duties wait to be handed over (R335, R336). -/
def Dev.camEffective (d : Dev) (n : Nat) : Dev :=
  match (d.camSt n).commit with
  | none => d
  | some c =>
    let d := c.ctxs.foldl (fun d e => d.modCtx e.1 (fun x => { x with force := e.2.1, tabs := e.2.2 })) d
    let d := (d.set F.CAM_P_GEN (d.get F.CAM_P_COMMIT_GEN n) n).set F.CAM_P_COMMIT_PENDING 0 n
    d.modCam n (fun x => { x with expo := c.expo, lines := c.lines, commit := none,
                                  hand := (c.lamps.filter (·.1)).map (fun l => (l.2.1, l.2.2)) })

/-- SETTINGS_EFFECTIVE: the duties of the frame that brought a generation into force reach the lamp channels (R336). -/
def execSettingsEffective (n : Cam) (s : State) : Host.Outcome State Fault Refusal :=
  .next (s.onDev (fun d =>
    let n := n.val
    ((d.camSt n).hand.foldl (fun d h => d.handDuty h.1 h.2) d).modCam n (fun c => { c with hand := [] })))

/-! ### Frames (R323, R324) -/

/-- A context begins a frame with the settings in force. -/
def Dev.ctxFrame (d : Dev) (n k no first start : Nat) : Dev :=
  let x := d.ctxSt k
  let c := d.camSt n
  let f : CtxFrame := { port := n, no, cfg := x.force, tabs := x.tabs, format := c.format, width := c.width, gen := d.get F.CAM_P_GEN n, start,
                        first, lines := c.lines }
  let g := f.grid k
  if x.force.get F.ISP_K_CFG_EN k 0 = 0 || x.force.get F.ISP_K_CFG_SRC k 0 ≠ n || (f.window k).2 = 0 || d.fenced .isp then d
  else d.modCtx k (fun x => { x with frames := x.frames ++ [{ f with cells := List.replicate (g.1 * g.2) {}, accs := List.replicate 3 {} }] })

/-- A frame of a port starts at a timebase value: the pending commit comes into force when this is its effective frame. -/
def Dev.camFrame (d : Dev) (n first start : Nat) (effective : Bool) : Dev :=
  let d := if effective then d.camEffective n else d
  let c := d.camSt n
  let d := (d.set F.CAM_P_FRAMENO (c.frameNo % 2 ^ 32) n).modCam n (fun c =>
    { c with frames := c.frames ++ [{ no := c.frameNo, first, lines := c.lines }], frameNo := c.frameNo + 1, nextF := first + c.lines, resync := false })
  (List.range 8).foldl (fun d k => d.ctxFrame n k c.frameNo first start) d

/-- A line period of a port passes (R335). -/
def Dev.linePeriod (d : Dev) (n : Nat) : Dev :=
  d.modCam n (fun c => { c with commit := c.commit.map (fun m => { m with periods := m.periods + 1 }) })

/-- The camera's reference coordinate, in 2^-32 dots (R341). -/
def Dev.qcam (d : Dev) : Int := d.vin.p * 65536 - (d.get F.VIN_CAM0_DELAY * 2 ^ 20 : Nat)

/-- A CAM action of a position compare, whose hit has a timebase value (R322, R323). The times of the exposure count from the hit. With EXPO 0 in force a hit sends nothing; it counts as a line period, so that a pending commit with an exposure
can come into force. -/
def Dev.camTrigger (d : Dev) (n hit : Nat) : Dev :=
  let c := d.camSt n
  let at' := d.now - (d.T - hit)
  if d.get F.CAM_P_STAT_STATE n ≠ 2 || c.free then d
  else
    let starts := c.trig = c.nextF && !c.resync
    let eff := starts && d.commitReady n
    let expo := if eff then ((c.commit.map (·.expo)).getD c.expo) else c.expo
    if expo = 0 then d.linePeriod n
    else if (match c.lastHit with | some t => decide (at' < t + expo + 100) | none => false) then
      ((d.bump F.CAM_P_CNT_TRIG_OVER n).modCam n (fun c => { c with lastHit := some at' })).report (261 + n)
    else
      let d := if starts then d.camFrame n c.trig hit eff else d
      let d := (d.emit (.camera n 1 [])).modCam n (fun x => { x with trig := x.trig + 1, lastHit := some at', falls := x.falls ++ [at' + expo],
                                                                     trigAt := hit })
      let d := if d.srcOf (d.get F.VIN_CFG_CTX) = n then { d with vin := { d.vin with trigs := d.vin.trigs ++ [(c.trig, d.qcam)] } } else d
      d.linePeriod n

/-- TRIGGER_FALL: a falling-edge packet EXPO after its hit (R322). -/
def execTriggerFall (n : Cam) (s : State) : Host.Outcome State Fault Refusal :=
  .next (s.onDev (fun d =>
    match (d.camSt n.val).falls with
    | t :: r => if t ≤ d.now && d.get F.CAM_P_STAT_STATE n.val ≠ 0 then (d.emit (.camera n.val 2 [])).modCam n.val (fun c => { c with falls := r }) else d
    | [] => d))

/-- The contexts' view of an image's tag (R324, R334). -/
def Dev.tagFrames (d : Dev) (n no tag : Nat) (mism : Bool) : Dev :=
  { d with isp := d.isp.map (fun x => { x with frames := x.frames.map (fun f => if f.port = n && f.no = no then { f with tag, mism } else f) }) }

/-- An image header: format and width, the frame it belongs to or starts, and its tag (R317, R323, R324). -/
def Dev.imageHeader (d : Dev) (n tag format width : Nat) : Dev :=
  let d := d.endImage n
  let d := d.set F.CAM_P_STAT_TAG tag n
  let c := d.camSt n
  let bad := format ≠ c.format || width ≠ c.width
  let d := if bad then (d.bump F.CAM_P_CNT2_FORMAT n).report (245 + n) else d
  if c.free || c.resync then
    if bad then d.purge n
    else
      let no := c.frameNo
      let d := d.camFrame n (if c.free then 0 else c.trig - 1) d.T (d.commitReady n)
      let mism := tag ≠ no % 2 ^ 16
      let d := (d.tagFrames n no tag mism).modCam n (fun c => { c with current := some no, image := no + 1 })
      if mism then (d.bump F.CAM_P_CNT2_SEQ n).report (257 + n) else d
  else if !(c.frames.any (fun f => f.no = c.image)) then d
  else
    let no := c.image
    let mism := tag ≠ no % 2 ^ 16
    let d := (d.tagFrames n no tag mism).modCam n (fun c => { c with image := no + 1, current := if bad then none else some no })
    let d := if mism then (d.bump F.CAM_P_CNT2_SEQ n).report (257 + n) else d
    if bad then (d.dropLines n no none).purge n else d

/-- IMAGE_HEADER (R324). -/
def execImageHeader (n : Cam) (tag : BitVec 16) (format : BitVec 4) (width : Nat) (s : State) : Host.Outcome State Fault Refusal :=
  .next (s.onDev (fun d => if d.get F.CAM_P_STAT_STATE n.val = 2 then d.imageHeader n.val tag.toNat format.toNat width else d))

/-- STREAM_PACKET: one that fails its CRC is discarded, and the lines it carried any part of are dropped (R318). -/
def execStreamPacket (n : Cam) (crcOk : Bool) (lines : Nat) (s : State) : Host.Outcome State Fault Refusal :=
  .next (s.onDev (fun d =>
    let n := n.val
    if d.get F.CAM_P_STAT_STATE n ≠ 2 || crcOk then d
    else
      let d := (d.bump F.CAM_P_CNT2_CRC n).report (249 + n)
      match (d.camSt n).current with
      | some no => (d.dropLines n no (some lines)).purge n
      | none => d))

/-! ### Lines (R325, R328) -/

/-- The buffer word that starts a slot: a camera buffer word holds two component values. -/
def camWord (n slot i : Nat) : Nat := n * 2 ^ 24 + slot * 2 ^ 15 + i

/-- A line is stored; its first word is the whole-word write that an armed corruption meets (R297, R313). -/
def Dev.storeLine (d : Dev) (n no line : Nat) (px : List Nat) : Dev :=
  let c := d.camSt n
  let d := d.sramWrite 0x14 (camWord n c.slot 0) (px.getD 0 0 + px.getD 1 0 * 65536)
  d.modCam n (fun c => { c with buf := c.buf ++ [{ frame := no, line, slot := c.slot, comps := px }], slot := (c.slot + 1) % 64 })

/-- A line of the image being received arrives. -/
def Dev.cameraLine (d : Dev) (n : Nat) (px : List Nat) : Dev :=
  let c := d.camSt n
  let d := if c.free then d.linePeriod n else d
  match c.current with
  | none => d
  | some no =>
    match c.frames.find? (fun f => f.no = no) with
    | none => d
    | some f =>
      if f.lines ≤ f.got then d
      else if 64 ≤ c.buf.length then
        let d := d.dropLines n no (some 1)
        let d := d.modCam n (fun c => { c with frames := c.frames.map (fun g => if g.no = no then { g with overflowed := true } else g) })
        (if f.overflowed then d else d.report (265 + n)).purge n
      else
        let d := d.storeLine n no f.got px
        (d.modCam n (fun c => { c with frames := c.frames.map (fun g => if g.no = no then { g with got := g.got + 1 } else g) })).purge n

/-- CAMERA_LINE (R328). -/
def execCameraLine (n : Cam) (pixels : List (BitVec 12)) (s : State) : Host.Outcome State Fault Refusal :=
  .next (s.onDev (fun d => if d.get F.CAM_P_STAT_STATE n.val = 2 then d.cameraLine n.val (pixels.map (·.toNat)) else d))

/-! ### Control and event packets (R321) -/

/-- The bytes of a control buffer's words. -/
def Dev.bufBytes (d : Dev) (f : Field) (n words : Nat) : List Nat := (List.range words).flatMap (fun i => bytesLE 4 (d.get f n i))

/-- Bytes stored in a buffer's words; the rest of the buffer keeps its contents. -/
def Dev.storeBytes (d : Dev) (f : Field) (n words : Nat) (b : List Nat) : Dev :=
  let all := b.take (4 * words) ++ (d.bufBytes f n words).drop b.length
  (List.range words).foldl (fun d i => d.set f (ofBytesLE ((all.drop (4 * i)).take 4)) n i) d

/-- CAM_Pn_CTL is written with SEND (R321). -/
def execCameraCtlSend (rq : Requester) (n : Cam) (w : Word) (s : State) : Host.Outcome State Fault Refusal :=
  let n' := n.val
  .next (s.row rq (.cameraCtlSend rq n w) (0x90134 + 0x100 * n') w.toNat ⟨31, none⟩ (fun d =>
    let len := d.get F.CAM_P_CTL_TX_LEN n'
    if d.flag F.CAM_P_CTL_BUSY n' then d
    else if len = 0 then d.ctlEnd n' 0
    else if d.get F.CAM_P_STAT_STATE n' ≠ 2 then d.ctlEnd n' 3
    else
      ((d.emit (.camera n' 0 ((d.bufBytes F.CAM_P_TX n' 64).take len))).set F.CAM_P_CTL_BUSY 1 n').modCam n' (fun c =>
        { c with ctlEnd := some (d.now + d.get F.CAM_P_CTL_TMO_MS n' * 1000000) })))

/-- CAMERA_CTL_ACK (R321). -/
def execCameraCtlAck (n : Cam) (crcOk : Bool) (bytes : List Byte) (s : State) : Host.Outcome State Fault Refusal :=
  .next (s.onDev (fun d =>
    let n := n.val
    if !d.flag F.CAM_P_CTL_BUSY n then d
    else if crcOk then
      let b := (bytes.map (·.toNat)).take 256
      ((d.storeBytes F.CAM_P_RX n 64 b).set F.CAM_P_CTL_RX_RX_LEN b.length n).ctlEnd n 0
    else d.ctlEnd n 2))

/-- CAMERA_CTL_TIMEOUT (R321). -/
def execCameraCtlTimeout (n : Cam) (s : State) : Host.Outcome State Fault Refusal :=
  .next (s.onDev (fun d =>
    match (d.camSt n.val).ctlEnd with
    | some t => if d.flag F.CAM_P_CTL_BUSY n.val && t ≤ d.now then d.ctlEnd n.val 1 else d
    | none => d))

/-- CAMERA_EVENT: a good event packet is acknowledged, and stored unless one waits (R321). -/
def execCameraEvent (n : Cam) (crcOk : Bool) (payload : List Byte) (s : State) : Host.Outcome State Fault Refusal :=
  .next (s.onDev (fun d =>
    let n := n.val
    if d.get F.CAM_P_STAT_STATE n = 0 || !crcOk then d
    else
      let d := d.emit (.camera n 3 [])
      if d.flag F.CAM_P_CTL_RX_EVT_FULL n then d
      else
        ((d.storeBytes F.CAM_P_EVT n 32 ((payload.map (·.toNat)).take 128)).set F.CAM_P_CTL_RX_EVT_FULL 1 n).irq
          F.CAM_IRQ_STAT F.CAM_IRQ_EN (8 + n) (some F.CAM_VEC)))

/-- CAMERA_HEARTBEAT (R316). -/
def execCameraHeartbeat (n : Cam) (s : State) : Host.Outcome State Fault Refusal :=
  .next (s.onDev (fun d => if d.get F.CAM_P_STAT_STATE n.val = 0 then d else d.set F.CAM_P_HB d.T n.val))

/-! ### Blocks (R326, R327) -/

/-- The lines of a context's next block: 16, or the rest of the frame. -/
def CtxFrame.block (f : CtxFrame) : Nat := Nat.min 16 (f.lines - f.next)

/-- Is a context's next block ready: all its lines are in the buffer or dropped. -/
def Dev.blockReady (d : Dev) (k : Nat) : Bool :=
  match (d.ctxSt k).frames with
  | [] => false
  | f :: _ =>
    match (d.camSt f.port).frames.find? (fun g => g.no = f.no) with
    | some g => f.next + f.block ≤ g.got
    | none => false

/-- PRIO of the frame that a context processes. -/
def Dev.ctxPrio (d : Dev) (k : Nat) : Nat :=
  match (d.ctxSt k).frames with
  | f :: _ => f.opt F.ISP_K_CFG_PRIO k
  | [] => 0

/-- The context that the scheduler serves: of the ready ones with the highest PRIO, the next in turn after the one served last (R327). -/
def Dev.nextCtx (d : Dev) : Option Nat :=
  let ready := (List.range 8).filter (fun k => d.blockReady k)
  let top := ready.foldl (fun m k => Nat.max m (d.ctxPrio k)) 0
  let same := ready.filter (fun k => d.ctxPrio k = top)
  let served := (List.range 8).filter (fun k => d.ctxPrio k = top)
  let last := served.foldl (fun (b : Nat × Nat) k => if b.1 < (d.ctxSt k).served then ((d.ctxSt k).served, k) else b) (0, 7)
  match same.find? (fun k => last.2 < k) with
  | some k => some k
  | none => same.head?

/-- A received line as a context reads it: an uncorrectable word reads as zero pixels (R325). -/
def Dev.readLine (d : Dev) (n : Nat) (b : BufLine) : List Nat × Bool × Dev :=
  let r := d.sramRead 0x14 (camWord n b.slot 0) (b.comps.getD 0 0 + b.comps.getD 1 0 * 65536)
  let v := if r.2.1 then [0, 0] else [r.1 % 65536 % 4096, r.1 / 65536 % 4096]
  (v ++ b.comps.drop 2, r.2.1, r.2.2)

/-- One line of a context's block passes the pipeline, or counts as dropped. -/
def Dev.ctxLine (d : Dev) (k : Nat) (f : CtxFrame) : Dev × CtxFrame :=
  match (d.camSt f.port).buf.find? (fun b => b.frame = f.no && b.line = f.next) with
  | some b =>
    let r := d.readLine f.port b
    let d := r.2.2
    let f := { f with ecc := f.ecc || r.2.1 }
    let w := f.window k
    let px := (List.range w.2).map (fun x => f.output k r.1 (w.1 + x))
    let q := (List.range 3).foldl (fun (a : Dev × CtxFrame) j => a.1.streamLine k j a.2 (some px)) (d, f)
    (q.1, { q.2.statLine k px with next := f.next + 1 })
  | none =>
    let q := (List.range 3).foldl (fun (a : Dev × CtxFrame) j => a.1.streamLine k j a.2 none) (d, f)
    (q.1, { q.2 with dropped := f.dropped + 1, next := f.next + 1 })

/-- A context's next block is processed; a frame whose last line has passed ends. -/
def Dev.ispBlock (d : Dev) (k : Nat) : Dev :=
  match (d.ctxSt k).frames with
  | [] => d
  | f :: rest =>
    let q := (List.range f.block).foldl (fun (a : Dev × CtxFrame) _ => a.1.ctxLine k a.2) (d, f)
    let g := q.2
    let turn := (q.1.isp.map (·.served)).foldl Nat.max 0 + 1
    let d := q.1.modCtx k (fun x => { x with served := turn, busy := x.busy + cdiv (f.window k).2 8 * 16,
                                             frames := if g.next < g.lines then g :: rest else rest })
    let d := if g.next < g.lines then d else d.ctxFrameEnd k g
    let d := d.purge f.port
    if g.lost && !f.lost then d.report (269 + k) else d

/-- ISP_BLOCK (R327). -/
def execIspBlock (s : State) : Host.Outcome State Fault Refusal :=
  .next (s.onDev (fun d =>
    if d.pwr.st ≠ .on || d.deferPaused || d.fenced .isp then d
    else match d.nextCtx with
      | some k => d.ispBlock k
      | none => d))

/-! ### Counts -/

/-- CAM_Pn_CNT.CLEAR (R319). -/
def execCameraCountClear (rq : Requester) (n : Cam) (s : State) : Host.Outcome State Fault Refusal :=
  .next (s.row rq (.cameraCountClear rq n) (0x9012C + 0x100 * n.val) (2 ^ 31) ⟨31, none⟩ (fun d =>
    ((((d.set F.CAM_P_CNT_TRIG_OVER 0 n.val).set F.CAM_P_CNT_DROPPED 0 n.val).set F.CAM_P_CNT2_FORMAT 0 n.val).set F.CAM_P_CNT2_SEQ 0 n.val).set
      F.CAM_P_CNT2_CRC 0 n.val))

/-- ISP_Kk_CNT.CLEAR also clears every stream's LOST (R337). -/
def execIspCountClear (rq : Requester) (k : Ctx) (s : State) : Host.Outcome State Fault Refusal :=
  .next (s.row rq (.ispCountClear rq k) (0xA0154 + 0x100 * k.val) (2 ^ 31) ⟨31, none⟩ (fun d =>
    (List.range 3).foldl (fun d j => d.set F.ISP_K_S_LOST 0 k.val j) ((d.set F.ISP_K_CNT_STAT_LOST 0 k.val).set F.ISP_K_CNT_INCOMPLETE 0 k.val)))

/-- ISP_LOAD.CLEAR (R337). -/
def execIspLoadClear (rq : Requester) (s : State) : Host.Outcome State Fault Refusal :=
  .next (s.row rq (.ispLoadClear rq) 0xA0048 (2 ^ 31) ⟨31, none⟩ (fun d => d.set F.ISP_LOAD_MAX_PCT 0))

end Sys2Proof.Machine
end

