-- ==== Sys2Proof/Machine/Position.lean ====
section
/-! DEFINITION. Encoders, the tracking loop, press lines, speed, redundancy, compare units and emulated outputs (file 06, R167 to R202). The update that
joins them with the stop sequence stands in Update. -/

namespace Sys2Proof.Machine

/-! ### Encoders (R167 to R171) -/

/-- One dot, or a ratio of 1, in 2^-32. -/
def dot : Int := 4294967296

/-- An encoder's state. -/
def Dev.encSt (d : Dev) (n : Nat) : EncSt := d.enc.getD n {}

/-- The device with an encoder changed. -/
def Dev.modEnc (d : Dev) (n : Nat) (f : EncSt → EncSt) : Dev := { d with enc := setAt d.enc n f }

/-- The device with the position model changed. -/
def Dev.modPos (d : Dev) (f : PosSt → PosSt) : Dev := { d with pos := f d.pos }

/-- A bar's coordinate. -/
def Dev.posBar (d : Dev) (b : Nat) : PosBar := d.pos.bars.getD b {}

/-- The device with a bar's coordinate changed. -/
def Dev.modBar (d : Dev) (b : Nat) (f : PosBar → PosBar) : Dev := d.modPos (fun p => { p with bars := setAt p.bars b f })

/-- The corrected count in 1/256 count (R171). -/
def EncSt.corrected (e : EncSt) : Int := e.count * 256 + e.slewed

/-- ENCn_RATIO. -/
def Dev.ratio (d : Dev) (n : Nat) : Int := d.get F.ENC_RATIO n

/-- A travel of 2^-40 dots in dots (2^-32). -/
def dotsOf (t : Int) : Int := Int.fdiv t 256

/-- The measured position of an encoder (R171): its corrected counts, each at the ratio in force when it came, less the offset. So a new ratio moves neither
this nor x, as with the adjusted offset of R171. -/
def Dev.measured (d : Dev) (n : Nat) : Int := dotsOf (d.encSt n).travel - (d.encSt n).ofs

/-- An encoder's corrected count moves by k / 256 count (R171, R180). -/
def Dev.moveCount (d : Dev) (n : Nat) (raw slewed : Int) : Dev :=
  let r := d.ratio n
  d.modEnc n (fun e =>
    let e := { e with count := e.count + raw, slewed := e.slewed + slewed, travel := e.travel + (raw * 256 + slewed) * r }
    { e with high := if e.high < e.corrected then e.corrected else e.high })

/-- LOS, SUSPECT and OUTVOTED of an encoder. -/
def Dev.encFlags (d : Dev) (n : Nat) : List Bool := [d.flag F.ENC_STAT_LOS n, d.flag F.ENC_STAT_SUSPECT n, d.flag F.ENC_STAT_OUTVOTED n]

/-- Does the position block run. -/
def Dev.posOn (d : Dev) : Bool := d.pwr.st = .on && d.flag F.POS_CTRL_ENABLE

/-- Is any bar held (R181). -/
def Dev.anyHeld (d : Dev) : Bool := d.pos.bars.any (fun b => b.held.isSome)

/-- The direction of a step from one quadrature state to another: 1 forward, −1 reverse, 0 none or illegal (R168). -/
def quadStep (a b a' b' : Bool) : Int :=
  let i (a b : Bool) : Nat := if a then (if b then 2 else 1) else (if b then 3 else 0)
  match (i a' b' + 4 - i a b) % 4 with
  | 1 => 1
  | 3 => -1
  | _ => 0

/-! ### Compare units (R197 to R199) -/

/-- The integer part of an s48.16 value. -/
def whole16 (a : Int) : Int := Int.fdiv a 65536

/-- A value of 2^-32 dots in s48.16, cut. -/
def dots16 (x : Int) : Int := Int.fdiv x 65536

/-- A bar's reference coordinate in 2^-32 dots (R177). -/
def Dev.qb (d : Dev) (b : Nat) : Int := (d.posBar b).p * 65536 - ((d.posBar b).delay * 2 ^ 20 : Nat)

/-- The present value of a source in s48.16. -/
def Dev.pcmpSource (d : Dev) (src : Nat) : Int :=
  if src ≤ 3 then (d.encSt src).count * 65536
  else if 8 ≤ src then dots16 (d.qb (src - 8))
  else dots16 d.pos.x

/-- The actions of a unit whose hit has a timebase value. -/
def Dev.pcmpAct (d : Dev) (u hit : Nat) : Dev :=
  let d := if d.flag F.PCMP_CFG_IRQ u then d.irq F.POS_IRQ_STAT F.POS_IRQ_EN 4 none else d
  let d := if d.flag F.PCMP_CFG_LAMP u then d.strobe (d.get F.PCMP_CFG_TARGET u) else d
  if d.flag F.PCMP_CFG_CAM u then d.camTrigger (d.get F.PCMP_CFG_TARGET u % 4) hit else d

/-- A unit re-arms one PERIOD on, or disarms; `back` is the direction of the crossing. -/
def Dev.pcmpNext (d : Dev) (u : Nat) (back : Bool) : Dev :=
  let p : Int := d.get F.PCMP_PERIOD u
  if p = 0 then d.set F.PCMP_STAT_ARMED 0 u
  else d.set F.PCMP_VAL (unsigned 64 ((d.get F.PCMP_VAL u : Int) + (if back then -p else p) * 65536)) u

/-- Is a unit's value reached already when it arms at a source value (R198). -/
def pcmpLate (dir : Nat) (diff : Int) : Bool :=
  match dir with
  | 0 => 0 ≤ diff
  | 1 => diff ≤ 0
  | _ => diff = 0

/-- The difference of a source value from a unit's VAL, by integer parts (R169). -/
def Dev.pcmpDiff (d : Dev) (src : Int) (u : Nat) : Int := diff48 (whole16 src) (whole16 (d.get F.PCMP_VAL u))

/-- A unit arms at a source value: a late compare is discarded, or acts at once and re-arms, until its value lies ahead (R198). `back` is the direction in which
a late action re-arms a unit of DIR either: that of the hit before, forward at a write. -/
def Dev.pcmpArm (src : Int) (u : Nat) (back : Bool) : Nat → Dev → Dev
  | 0, d => d.set F.PCMP_STAT_ARMED 1 u
  | k + 1, d =>
    let dir := d.get F.PCMP_CFG_DIR u
    if !pcmpLate dir (d.pcmpDiff src u) then d.set F.PCMP_STAT_ARMED 1 u
    else
      let d := d.set F.PCMP_STAT_MISSED 1 u
      if !d.flag F.PCMP_CFG_LATE u then d.set F.PCMP_STAT_ARMED 0 u
      else
        let d := ((d.set F.PCMP_TIME d.T u).pcmpAct u d.T).set F.PCMP_STAT_ARMED 1 u
        let d := d.pcmpNext u (dir = 1 || (dir = 2 && back))
        if d.flag F.PCMP_STAT_ARMED u then Dev.pcmpArm src u back k d else d

/-- The late actions that a unit can take at most before its value lies ahead of its source. -/
def Dev.pcmpFuel (d : Dev) (u : Nat) (src : Int) : Nat := (d.pcmpDiff src u).natAbs / Nat.max 1 (d.get F.PCMP_PERIOD u) + 2

/-- A source moves from one value to another between two times: an armed unit whose value it reaches hits, at the time interpolated to where the integer
difference becomes 0, and re-arms or disarms; a value that the source has already reached then is late (R197, R198). -/
def Dev.pcmpRun (d : Dev) (old new t0 t1 : Int) (u : Nat) : Dev :=
  let a := d.pcmpDiff old u
  let b := d.pcmpDiff new u
  let dir := d.get F.PCMP_CFG_DIR u
  let fwd := dir ≠ 1 && a < 0 && 0 ≤ b
  let back := dir ≠ 0 && 0 < a && b ≤ 0
  if d.flag F.PCMP_STAT_ARMED u && (fwd || back) then
    let at' := (whole16 old - a + (if back then 1 else 0)) * 65536
    let t := t0 + openRound 197 ((at' - old) * (t1 - t0)) (new - old)
    let d := (((d.set F.PCMP_TIME (unsigned 64 t) u).bump F.PCMP_STAT_HITS u).pcmpAct u (unsigned 64 t)).pcmpNext u back
    if d.flag F.PCMP_STAT_ARMED u then Dev.pcmpArm new u back (d.pcmpFuel u new) d else d
  else d

/-- Every unit that watches a source sees it move. -/
def Dev.pcmpMove (d : Dev) (src : Nat) (old new t0 t1 : Int) : Dev :=
  (List.range 32).foldl (fun d u =>
    if d.get F.PCMP_CFG_SRC u = src then d.pcmpRun old new t0 t1 u else d) d

/-- A write to PCMPu_CFG disarms the unit and clears HITS (R199). -/
def execPcmpConfigure (rq : Requester) (u : Fin 32) (w : Word) (s : State) : Host.Outcome State Fault Refusal :=
  let a := 0x60400 + 0x20 * u.val
  let v (f : Field) : Nat := f.clampVal (bits w.toNat f.lo f.width)
  .next (s.roleWrite rq (.pcmpConfigure rq u w) a none (fun d => d.word a) (fun d =>
    let d := [F.PCMP_CFG_SRC, F.PCMP_CFG_DIR, F.PCMP_CFG_LATE, F.PCMP_CFG_TARGET, F.PCMP_CFG_CAM, F.PCMP_CFG_LAMP, F.PCMP_CFG_IRQ].foldl
      (fun d f => d.set f (v f) u.val) d
    (d.set F.PCMP_STAT_ARMED 0 u.val).set F.PCMP_STAT_HITS 0 u.val))

/-- A write to PCMPu_VAL's upper word arms the unit (R198). -/
def execPcmpArm (rq : Requester) (u : Fin 32) (w : Word) (s : State) : Host.Outcome State Fault Refusal :=
  let a := 0x60408 + 0x20 * u.val
  .next (s.roleWrite rq (.pcmpArm rq u w) a none (fun d => d.word a) (fun d =>
    let d := d.set F.PCMP_VAL (w.toNat * 2 ^ 32 + d.get F.PCMP_VAL u.val % 2 ^ 32) u.val
    let src := d.pcmpSource (d.get F.PCMP_CFG_SRC u.val)
    Dev.pcmpArm src u.val false (d.pcmpFuel u.val src) d))

/-! ### Count changes (R168, R170, R183) -/

/-- The period speed of an encoder as counts over ns, signed; none before two counts (R183). -/
def EncSt.period (e : EncSt) : Option (Int × Nat) :=
  match e.edges with
  | (t0, s0) :: (t1, s1) :: r =>
    match r with
    | (_, s2) :: (_, s3) :: (t4, s4) :: _ =>
      if s1 = s0 && s2 = s0 && s3 = s0 && s4 = s0 then some (4 * s0, t0 - t4) else some (s0, t0 - t1)
    | _ => some (s0, t0 - t1)
  | _ => none

/-- REVERSE of the active encoder (R180): it ends when the corrected count regains the highest it has reached, and begins when the count lies more than
REV_ALLOW counts below, by integer parts (R169). -/
def Dev.reverseStep (d : Dev) : Dev :=
  if 2 ≤ d.pos.active then d
  else
    let e := d.encSt d.pos.active
    let below := diff48 (Int.fdiv e.high 256) (Int.fdiv e.corrected 256)
    let d := d.modPos (fun p => { p with reverse := p.reverse && 0 < below })
    if !d.pos.reverse && (d.get F.POS_REV_ALLOW : Int) < below then
      let held := d.anyHeld
      let d := d.modPos (fun p => { p with reverse := true })
      let d := (d.bump F.POS_EVT_CNT_REVERSES).irq F.POS_IRQ_STAT F.POS_IRQ_EN 2 none
      if held then d else d.report 124
    else d

/-- One count step at a time: the count, the gate window, the method, the marks of R191, REVERSE, and the compare units that watch the count. -/
def Dev.countStep (d : Dev) (n : Nat) (dir : Int) (t : Nat) : Dev :=
  let old := (d.encSt n).count
  let d := d.moveCount n dir 0
  let marks := (List.range 4).map (fun k => (d.encSt k).travel)
  let d := d.modEnc n (fun e =>
    let e := { e with lastAt := t, edges := ((t, dir) :: e.edges).take 5, marks, changed := true }
    let e := match e.gateFirst with
      | none => { e with gateFirst := some t, gateLast := t, gateN := 0 }
      | some _ => { e with gateLast := t, gateN := e.gateN + dir }
    match e.period with
    | some (c, ns) => if (ns : Int) * d.get F.POS_SPEED_CFG_XOVER < c.natAbs * 1000000000 then { e with gate := true } else e
    | none => e)
  let d := if d.pos.active = n then (d.modPos (fun p => { p with newest := some t })).reverseStep else d
  d.pcmpMove n (old * 65536) ((old + dir) * 65536) t t

/-- An illegal transition is counted; enough of them within the window make the encoder suspect (R168). -/
def Dev.illegalStep (d : Dev) (n : Nat) : Dev :=
  let now := d.now
  let recent := ((d.encSt n).illegal.filter (fun t => now < t + d.get F.ENC_ILL_WINDOW_MS n * 1000000)) ++ [now]
  let d := (d.bump F.ENC_CNT_ILLEGAL n).modEnc n (fun e => { e with illegal := recent, changed := true, illegalEdge := true })
  if d.get F.ENC_ILL_LIMIT n ≤ recent.length then
    ((d.set F.ENC_STAT_SUSPECT 1 n).modEnc n (fun e => { e with changed := false, agreeAt := none })).report (108 + n)
  else d

/-- The input that a pass-through output repeats (R201); none while it is off. -/
def Dev.passSource (d : Dev) (p : Nat) : Option Nat :=
  let s := d.get F.PASS_CFG_SRC p
  if s ≤ 3 then some s else if s = 4 then some (if d.pos.active ≤ 1 then d.pos.active else 1 - d.pos.gapTo) else none

/-- The levels of A, B and Z of an input before the filter. -/
def Dev.encLevels (d : Dev) (n : Nat) : List Bool := (d.pins.enc.getD n []).map (·.level)

/-- Each pass-through output shows the levels of its input (R201). -/
def Dev.passDrive (d : Dev) : Dev :=
  (List.range 2).foldl (fun (d : Dev) p =>
    let l := match d.passSource p with | some n => d.encLevels n | none => [false, false, false]
    if d.pins.passed.getD p [] = l || d.pwr.st ≠ .on then d
    else ({ d with pins := { d.pins with passed := setAt d.pins.passed p (fun _ => l) } } : Dev).emit (.pass p l)) d

/-- The filter delay in ns: FILT samples of 2 ns (R167). -/
def Dev.filterNs (d : Dev) (n : Nat) : Nat := 2 * d.get F.ENC_CFG_FILT n

/-- A level of an input line (0 to 2: A, B, Z) stands at a time in ns. -/
def Dev.encPin (d : Dev) (n line : Nat) (level : Bool) (at' : Nat) : Dev :=
  let l := (d.pins.enc.getD n []).getD line {}
  if l.level = level then d
  else { d with pins := { d.pins with enc := setAt d.pins.enc n (fun ls => setAt ls line (fun _ => ⟨level, at'⟩)) } }

/-- A level that a line is said to have after the filter: one that the pin does not show changed there FILT samples ago; one that the pin has shown for less
has not passed (R167). -/
def Dev.passes (d : Dev) (n line : Nat) (level : Bool) : Bool :=
  let l := (d.pins.enc.getD n []).getD line {}
  l.level ≠ level || l.since + d.filterNs n ≤ d.now

/-- The timebase time of the latest of a line's changes, without the filter delay (R22, R167). -/
def Dev.pinTime (d : Dev) (n line : Nat) : Nat := d.T - (d.now - ((d.pins.enc.getD n []).getD line {}).since)

/-- ENCODER_EDGE: the filtered state of an input changes (R167, R168). -/
def Dev.encoderEdge (d : Dev) (n : Nat) (a b : Bool) : Dev :=
  let e := d.encSt n
  let a := if d.passes n 0 a then a else e.a
  let b := if d.passes n 1 b then b else e.b
  let t0 := d.now - d.filterNs n
  let d := ((if e.a = a then d else d.encPin n 0 a t0))
  let d := ((if e.b = b then d else d.encPin n 1 b t0)).passDrive
  let d := d.modEnc n (fun e => { e with a, b })
  if !d.posOn || (e.a = a && e.b = b) then d
  else if e.a ≠ a && e.b ≠ b then d.illegalStep n
  else
    let s := quadStep e.a e.b a b
    d.countStep n (if d.flag F.ENC_CFG_INVERT n then -s else s) (d.pinTime n (if e.a ≠ a then 0 else 1))

/-- ENCODER_EDGE (R168). -/
def execEncoderEdge (n : Enc) (a b : Bool) (s : State) : Host.Outcome State Fault Refusal := .next (s.onDev (fun d => d.encoderEdge n.val a b))

/-- ENCn_CNT.CLEAR (R170). -/
def execEncoderCountClear (rq : Requester) (n : Enc) (s : State) : Host.Outcome State Fault Refusal :=
  .next (s.row rq (.encoderCountClear rq n) (0x60128 + 0x40 * n.val) (2 ^ 31) ⟨31, none⟩ (fun d =>
    (d.set F.ENC_CNT_ILLEGAL 0 n.val).set F.ENC_CNT_MISPLACED 0 n.val))

/-- A gate window of GATE_MS ends and the next begins (R183). -/
def Dev.gateWindow (d : Dev) (n : Nat) : Dev :=
  if !d.posOn || d.now < (d.encSt n).gateAt + d.get F.POS_SPEED_CFG_GATE_MS * 1000000 then d
  else d.modEnc n (fun e =>
    let res : Int × Nat := match e.gateFirst with | some t => (e.gateN, e.gateLast - t) | none => (0, 0)
    let x := d.get F.POS_SPEED_CFG_XOVER
    let slow := res.1.natAbs * 1000000000 < (x - x / 8) * res.2 || res.2 = 0
    { e with gateRes := res, gateAt := d.now, gateFirst := none, gateN := 0, gate := e.gate && !slow })

/-- SPEED_GATE_WINDOW (R183). -/
def execSpeedGateWindow (n : Enc) (s : State) : Host.Outcome State Fault Refusal := .next (s.onDev (fun d => d.gateWindow n.val))

/-- A speed of counts over ns in µm/s (R183): ENCn_RATIO dots of 25,400 / 1,200 µm. -/
def Dev.umPerS (d : Dev) (n : Nat) (c : Int) (ns : Nat) : Int :=
  openRound 183 (c * 1000000000 * d.ratio n * 25400) (Nat.max 1 ns * 4294967296 * 1200 : Nat)

/-- The speed of an encoder in s32 µm/s (R183): the method's value, at most 1 count over the time since the newest change, 0 after 1 s without one. -/
def Dev.encSpeed (d : Dev) (n : Nat) : Int :=
  let e := d.encSt n
  match e.edges with
  | [] => 0
  | (t, s) :: _ =>
    let age := d.T - t
    if 1000000000 ≤ age then 0
    else
      let v := if e.gate && e.gateRes.2 ≠ 0 then d.umPerS n e.gateRes.1 e.gateRes.2
        else match e.period with | some (c, ns) => d.umPerS n c ns | none => 0
      let cap := (d.umPerS n s age).natAbs
      let v := if age = 0 then v else clampI (-cap) cap v
      clampI (-2147483648) 2147483647 v

/-! ### Press lines (R176 to R178) -/

/-- The segment that holds a line: the last one that begins at or below it. -/
def Dev.segOf (d : Dev) (line : Int) : Seg :=
  ((d.pos.segs.filter (fun g => (g.line : Int) ≤ line)).getLast?).getD (d.pos.segs.headD { line := 0, ref := 0, pitch := 1 })

/-- REF of a line in 2^-32 dots (R178). -/
def Dev.refLine (d : Dev) (line : Int) : Int :=
  let g := d.segOf line
  g.ref + (line - g.line) * g.pitch * dot

/-- The last press line whose reference a coordinate has reached; −1 before line 0. -/
def Dev.reachedLine (d : Dev) (q : Int) : Int :=
  match (d.pos.segs.filter (fun g => g.ref ≤ q)).getLast? with
  | some g => g.line + Int.fdiv (q - g.ref) (g.pitch * dot)
  | none => -1

/-- Segments outstanding: some bar has not yet reached the first line (R178). -/
def Dev.segsOutstanding (d : Dev) : Nat := (d.pos.segs.filter (fun g => !g.todo.isEmpty)).length

/-- What the bars have reached is noted: the first lines of the segments, and press line 0 (R178, R179). -/
def Dev.noteReached (d : Dev) : Dev :=
  let q := (List.range 8).map (fun b => d.qb b)
  let reached (r : Int) (b : Nat) : Bool := decide (r ≤ q.getD b 0)
  d.modPos (fun p => { p with
    segs := p.segs.map (fun g => { g with todo := g.todo.filter (fun b => !reached g.ref b) }),
    bars := p.bars.mapIdx (fun b x => { x with begun := x.begun || reached 0 b }) })

/-- Would a job at a line need a new segment. -/
def Dev.needsSegment (d : Dev) (line : Nat) (pitch : Nat) : Bool := (d.segOf line).pitch ≠ pitch

/-- Must the job wait: a 17th segment would be outstanding (R178). -/
def Dev.segmentWaits (d : Dev) (line pitch : Nat) : Bool := d.needsSegment line pitch && 16 ≤ d.segsOutstanding

/-- A job reaches RUNNING at a line with a pitch: a new segment begins there where the pitch changes; a later segment's reference is taken afresh (R178). -/
def Dev.addSegment (d : Dev) (line pitch : Nat) : Dev :=
  if !d.needsSegment line pitch then d
  else
    let before := d.pos.segs.filter (fun g => g.line < line)
    let later := d.pos.segs.filter (fun g => line < g.line)
    let first : Seg := { line, ref := d.refLine line, pitch }
    let segs := later.foldl (fun (a : List Seg × Seg) g =>
      let r : Seg := { g with ref := a.2.ref + ((g.line : Int) - a.2.line) * a.2.pitch * dot }
      (a.1 ++ [r], r)) (before ++ [first], first)
    d.modPos (fun p => { p with segs := segs.1 })

/-- DELAY of a distance in µm, in 2^-12 dots, to the nearest (R176). -/
def delayOf (um : Nat) : Nat := (2 * um * 1200 * 4096 + 25400) / 50800

/-- The bar delays are latched. A bar that this moves forward skips every line whose reference lies below its new coordinate (R176). -/
def Dev.latchDelays (d : Dev) : Dev :=
  let d := (List.range 8).foldl (fun d b =>
    let old := (d.posBar b).delay
    let new := delayOf (d.get F.CIS_BAR_DIST b)
    let d := d.modBar b (fun x => { x with delay := new })
    let r := d.reachedLine (d.qb b - 1)
    if d.posOn && new < old && d.hwm b < r then d.modBar b (fun x => { x with hwm := some r.toNat }) else d) d
  (d.modPos (fun p => { p with delayDue := false })).noteReached

/-- The bar delays are latched while the position block runs: the compare units on the bars see their coordinates jump (R176, R197). -/
def Dev.moveDelays (d : Dev) : Dev :=
  let qs := (List.range 8).map (fun b => dots16 (d.qb b))
  let d := d.latchDelays
  if d.posOn then (List.range 8).foldl (fun d b => d.pcmpMove (8 + b) (qs.getD b 0) (dots16 (d.qb b)) d.T d.T) d else d

/-- A CIS_BAR_DIST write takes effect (R176). -/
def Dev.barDistWritten (d : Dev) : Dev := if d.anyArmed then d.modPos (fun p => { p with delayDue := true }) else d.moveDelays

/-- BAR_DELAY_LATCH (R176). -/
def execBarDelayLatch (s : State) : Host.Outcome State Fault Refusal :=
  .next (s.onDev (fun d => if d.pos.delayDue && !d.anyArmed then d.moveDelays else d))

/-! ### Enable (R175) -/

/-- POS_CTRL.ENABLE goes from 0 to 1: counts, x, v and coordinates are 0, the delays are latched, press line 0 begins at reference 0 with a pitch of 1 dot.
R175 lists no more; the model's choice for the rest (DESIGN CHOICE): ENC0 becomes active and REVERSE ends, the strain estimate, the scales, the index
references, the speeds and their windows return to their start values, the mode in force and the flags LOS, SUSPECT, OUTVOTED and SHIFTED stay, the compare
units and the emulated outputs see no motion but their sources' new values. -/
def Dev.posStart (d : Dev) : Dev :=
  let d := d.set F.POS_CTRL_ENABLE 1
  let d : Dev := { d with
    enc := d.enc.map (fun e => ({ a := e.a, b := e.b, illegalEdge := e.illegalEdge, misplaced := e.misplaced, lastAt := d.T, gateAt := d.now } : EncSt)),
    pos := { bars := List.replicate 8 {}, emu := d.pos.emu, segs := [⟨0, 0, 1, List.range 8⟩], tk := d.T, mode := d.pos.mode, flags := d.encFlags 0 },
    vin := { d.vin with p := 0, scale := 2147483648, trigs := [] } }
  ((d.set F.POS_EVT_CNT_SWITCHES 0).set F.POS_EVT_CNT_REVERSES 0).latchDelays.passDrive

/-- POSITION_ENABLE (R175). -/
def execPositionEnable (rq : Requester) (s : State) : Host.Outcome State Fault Refusal :=
  .next (s.roleWrite rq (.positionEnable rq) 0x60008 (some .installer) (fun d => d.word 0x60008) (fun d =>
    if d.flag F.POS_CTRL_ENABLE then d else d.posStart))

/-- POSITION_DISABLE: ignored while a context is ARMED or RUNNING (R175). -/
def execPositionDisable (rq : Requester) (s : State) : Host.Outcome State Fault Refusal :=
  .next (s.roleWrite rq (.positionDisable rq) 0x60008 (some .installer) (fun d => d.word 0x60008) (fun d =>
    if d.anyArmed || !d.flag F.POS_CTRL_ENABLE then d
    else
      let d := d.set F.POS_CTRL_ENABLE 0
      (d.modPos (fun p => { p with speed := 0, v := 0, bars := p.bars.map (fun b => { b with ticks := [] }) })).noteSpeed))

/-! ### Index (R185, R186) -/

/-- ENCODER_INDEX: a rising edge of Z (R185, R186). -/
def Dev.indexEdge (d : Dev) (n : Nat) : Dev :=
  let e := d.encSt n
  let period : Int := d.get F.ENC_IDX_PERIOD n * 256
  if !d.posOn || period = 0 then d
  else match e.ref with
    | none => d.modEnc n (fun e => { e with ref := some e.corrected })
    | some r =>
      let c := e.corrected
      let ofs := c - r - roundDiv (c - r) period * period
      let win : Int := d.get F.ENC_IDX_WIN n * 256
      let d := d.set F.ENC_IDX_LAST (unsigned 32 (openRound 185 ofs 256)) n
      if ofs.natAbs ≤ win.natAbs then
        (d.set F.ENC_STAT_MISPLACED_RUN 0 n).modEnc n (fun e => { e with pend := -ofs, runOfs := [] })
      else
        let run := (ofs :: e.runOfs).take 3
        let same := run.length = 3 && run.all (fun x => run.all (fun y => (x - y).natAbs ≤ win.natAbs))
        let d := ((d.bump F.ENC_CNT_MISPLACED n).bump F.ENC_STAT_MISPLACED_RUN n).modEnc n (fun e => { e with runOfs := run, misplaced := true })
        let d := d.report (112 + n)
        if same || d.flag F.ENC_STAT_SHIFTED n then
          let d := d.modEnc n (fun e => { e with newRef := some c })
          if d.flag F.ENC_STAT_SHIFTED n then d
          else ((d.set F.ENC_STAT_SHIFTED 1 n).irq F.POS_IRQ_STAT F.POS_IRQ_EN 3 none).report (116 + n)
        else d

/-- ENCODER_INDEX (R185). -/
def execEncoderIndex (n : Enc) (s : State) : Host.Outcome State Fault Refusal :=
  .next (s.onDev (fun d => if d.passes n.val 2 true then ((d.encPin n.val 2 true (d.now - d.filterNs n.val)).passDrive).indexEdge n.val else d))

/-- A shifted reference is adopted: the reference moves, and the next index sets it without a check (R185, R186). -/
def Dev.adoptIndex (d : Dev) (n : Nat) : Dev :=
  if d.flag F.ENC_STAT_SHIFTED n then
    ((d.set F.ENC_STAT_SHIFTED 0 n).set F.ENC_STAT_MISPLACED_RUN 0 n).modEnc n (fun e => { e with ref := none, newRef := none, runOfs := [] })
  else d

/-- A job boundary: every shifted reference is adopted (R186). -/
def Dev.adoptAll (d : Dev) : Dev := (List.range 4).foldl (fun d n => d.adoptIndex n) d

/-- ENCn_CMD.ADOPT (R186). -/
def execIndexAdopt (rq : Requester) (n : Enc) (s : State) : Host.Outcome State Fault Refusal :=
  .next (s.row rq (.indexAdopt rq n) (0x6012C + 0x40 * n.val) 1 ⟨0, some .installer⟩ (fun d => d.adoptIndex n.val))

/-! ### Strain (R187, R188) -/

/-- 10^9: strain is in parts of it. -/
def nine : Int := 1000000000

/-- Has an encoder none of LOS, SUSPECT and OUTVOTED. -/
def Dev.encSound (d : Dev) (n : Nat) : Bool := !d.flag F.ENC_STAT_LOS n && !d.flag F.ENC_STAT_SUSPECT n && !d.flag F.ENC_STAT_OUTVOTED n

/-- Is an encoder neither LOS nor SUSPECT. -/
def Dev.encUsable (d : Dev) (n : Nat) : Bool := !d.flag F.ENC_STAT_LOS n && !d.flag F.ENC_STAT_SUSPECT n

/-- Is strain measured (R187): ENABLE, a redundancy set, ENC0 and ENC1 by the gate method and sound, no gap (R192). -/
def Dev.strainRuns (d : Dev) : Bool :=
  d.flag F.POS_STRAIN_CFG_ENABLE && d.pos.mode ≠ 0 && (d.encSt 0).gate && (d.encSt 1).gate && d.encSound 0 && d.encSound 1 && d.pos.active ≠ 2

/-- POS_STRAIN_CFG has been written: with ENABLE 0, ε is 0 (R187). -/
def Dev.strainSwitch (d : Dev) : Dev := if d.flag F.POS_STRAIN_CFG_ENABLE then d else d.modPos (fun p => { p with eps := 0, frozen := true })

/-- STRAIN_MEASURE (R187). A millisecond in which ENC0 did not travel has no ratio: the estimate is frozen. -/
def Dev.strainMeasure (d : Dev) : Dev :=
  let d0 := (d.encSt 0).travel - d.pos.strain0
  let d1 := (d.encSt 1).travel - d.pos.strain1
  let d := d.modPos (fun p => { p with strain0 := (d.encSt 0).travel, strain1 := (d.encSt 1).travel })
  if !d.flag F.POS_STRAIN_CFG_ENABLE then d.strainSwitch
  else if !d.strainRuns || d0 = 0 then d.modPos (fun p => { p with frozen := true })
  else
    let lim : Int := d.get F.POS_STRAIN_CFG_MAX_PERMIL * 1000000
    let diff := if d0 < 0 then d0 - d1 else d1 - d0
    let r := openRound 187 (diff * nine) d0.natAbs
    let e := clampI (-lim) lim (d.pos.eps + openRound 187 (r - d.pos.eps) (d.get F.POS_STRAIN_CFG_TAU_MS))
    let d := d.modPos (fun p => { p with eps := e, frozen := false })
    if lim.natAbs < r.natAbs then d.report 125 else d

def execStrainMeasure (s : State) : Host.Outcome State Fault Refusal := .next (s.onDev (fun d => if d.posOn then d.strainMeasure else d))

/-- The target of a scale in u1.31: (1 + ε F) / (1 + ε F_act), F in u1.15 (R188). -/
def Dev.scaleTarget (d : Dev) (f : Nat) : Nat :=
  let fAct : Int := if d.pos.active = 1 then 32768 else 0
  (openRound 188 (2147483648 * (nine * 32768 + d.pos.eps * f)) (nine * 32768 + d.pos.eps * fAct)).toNat

/-- A scale after k lines: it moves toward its target by at most SLEW × 2^-24 a line. -/
def Dev.slewScale (d : Dev) (scale f k : Nat) : Nat :=
  let t := d.scaleTarget f
  let m := k * d.get F.POS_STRAIN_CFG_SLEW * 128
  clampN (scale - m) (scale + m) t

/-! ### Redundancy (R189 to R196) -/

/-- The encoders of the redundancy set of the mode in force (R189, R196). -/
def Dev.redunSet (d : Dev) : List Nat :=
  match d.pos.mode with
  | 0 => []
  | 1 => [0, 1]
  | _ => [0, 1, 2]

/-- Is an encoder lost (R191): 4 count periods at the model's speed and at least 2 µs without a change while another of the set counted twice, or no change
while another travelled 64 dots. -/
def Dev.losTest (d : Dev) (n : Nat) : Bool :=
  let e := d.encSt n
  let quiet := d.T - e.lastAt
  let long := 2000 ≤ quiet && 0 < d.pos.v.natAbs && 4 * d.get F.ENC_RATIO n * 65536 * 1000 ≤ quiet * d.pos.v.natAbs
  (d.redunSet.filter (fun k => k ≠ n)).any (fun k =>
    let o := d.encSt k
    (long && (match o.edges with | _ :: (t, _) :: _ => decide (e.lastAt < t) | _ => false)) || 64 * dot ≤ (dotsOf (o.travel - e.marks.getD k 0)).natAbs)

/-- A flag of an encoder is set; its return is looked for afresh. -/
def Dev.flagEnc (d : Dev) (f : Field) (n : Nat) : Dev :=
  if d.flag f n then d else (d.set f 1 n).modEnc n (fun e => { e with changed := false, agreeAt := none })

/-- LOS is tested for every encoder of the set. -/
def Dev.losTests (d : Dev) : Dev := d.redunSet.foldl (fun d n => if d.losTest n then d.flagEnc F.ENC_STAT_LOS n else d) d

/-- Has the active encoder become LOS, SUSPECT or, with an arbiter, OUTVOTED since the last look (R189, R192). A flag that stood as it became active is
none. -/
def Dev.becameFaulty (d : Dev) : Bool :=
  let now := d.encFlags d.pos.active
  (List.range (if d.pos.mode = 1 then 2 else 3)).any (fun k => now.getD k false && !d.pos.flags.getD k false)

/-- A switch-over begins when the active encoder becomes LOS, SUSPECT or OUTVOTED (R192). -/
def Dev.switchBegin (d : Dev) : Dev :=
  let a := d.pos.active
  if 2 ≤ a then d
  else
    let go := d.pos.mode ≠ 0 && d.becameFaulty
    let d := d.modPos (fun p => { p with flags := d.encFlags a })
    if !go then d
    else
      let w := d.get F.POS_REDUN_CFG_WINDOW_MS
      let d := d.modPos (fun p => { p with active := 2, gapTo := 1 - a, gapEnd := d.now + d.get F.POS_REDUN_CFG3_SW_GAP_US * 1000, frozen := true,
                                           abFrozen := (p.abHist.take w).getLast?.getD 0 })
      ((d.irq F.POS_IRQ_STAT F.POS_IRQ_EN 0 none).bump F.POS_EVT_CNT_SWITCHES).report 123

/-- An encoder becomes active: its measured position equals x, and the pass-through outputs follow it (R192, R195, R201). -/
def Dev.takeEncoder (d : Dev) (n : Nat) : Dev :=
  let d := d.modEnc n (fun e => { e with ofs := dotsOf e.travel - d.pos.x })
  (d.modPos (fun p => { p with active := n, newest := none, flags := d.encFlags n })).passDrive

/-- SWITCHOVER_TAKEOVER: the gap ends (R192 to R194). -/
def Dev.takeover (d : Dev) : Dev :=
  if d.pos.active ≠ 2 || d.now < d.pos.gapEnd then d
  else
    let n := d.pos.gapTo
    if d.encUsable n then
      let d := d.takeEncoder n
      let ab := dotsOf (d.encSt 1).travel - d.pos.x
      d.set F.POS_AB_STEP (unsigned 32 (Int.fdiv (ab - d.pos.abFrozen) 16777216))
    else
      let d := d.modPos (fun p => { p with active := 3, speed := 0, v := 0 })
      ((d.noteSpeed.irq F.POS_IRQ_STAT F.POS_IRQ_EN 5 none)).report 126

def execSwitchoverTakeover (s : State) : Host.Outcome State Fault Refusal := .next (s.onDev (fun d => if d.posOn then d.takeover else d))

/-- Control returns to ENC0, and ε unfreezes where strain is measured (R195). -/
def Dev.revertNow (d : Dev) : Dev :=
  let d := d.takeEncoder 0
  (d.modPos (fun p => { p with revert := false, frozen := p.frozen && !d.strainRuns })).irq F.POS_IRQ_STAT F.POS_IRQ_EN 1 none

/-- LOS, SUSPECT and OUTVOTED of an encoder clear, and with SUSPECT its fence (R191, R410). -/
def Dev.clearEnc (d : Dev) (n : Nat) : Dev :=
  let d := ((d.set F.ENC_STAT_LOS 0 n).set F.ENC_STAT_SUSPECT 0 n).set F.ENC_STAT_OUTVOTED 0 n
  { d with flt := { d.flt with fences := d.flt.fences.filter (fun f => f.unit ≠ .enc n) } }

/-- Since when an encoder agrees; one that was flagged and whose input has changed again is sound after REVERT_MS of agreement. -/
def Dev.noteAgree (d : Dev) (n : Nat) (agrees : Bool) : Dev :=
  let flagged := !d.encSound n
  let ok := agrees && (!flagged || (d.encSt n).changed)
  let d := d.modEnc n (fun e => { e with agreeAt := if ok then some (e.agreeAt.getD d.now) else none })
  match (d.encSt n).agreeAt with
  | some t => if flagged && t + d.get F.POS_REDUN_CFG3_REVERT_MS * 1000000 ≤ d.now then d.clearEnc n else d
  | none => d

/-- REDUNDANCY_COMPARE (R190, R193, R195, R196): a new MODE is in force; the travel of each encoder over the latest WINDOW_MS, which runs on while the
comparison itself pauses. -/
def Dev.redunCompare (d : Dev) : Dev :=
  let mode := d.get F.POS_REDUN_CFG_MODE
  let w := d.get F.POS_REDUN_CFG_WINDOW_MS
  let d : Dev := { d with enc := d.enc.map (fun e => { e with snaps := (e.travel :: e.snaps).take (w + 1) }) }
  let d := d.modPos (fun p => { p with mode })
  if mode = 0 then (if d.pos.active = 1 then d.revertNow else d)
  else if d.anyHeld || 2 ≤ d.pos.active then d
  else
    let travel (n : Nat) : Int := dotsOf ((d.encSt n).travel - ((d.encSt n).snaps.getLast?).getD 0)
    let d0 := travel 0
    let d1 := travel 1
    let d2 := travel 2
    let scale (x : Int) : Int := x * (nine + d.pos.eps)
    let tol (ppm : Nat) : Int := Nat.max (d.get F.POS_REDUN_CFG2_MIN_DOTS * 4294967296) (ppm * d0.natAbs / 1000000)
    let tolT := tol (d.get F.POS_REDUN_CFG_TOL_PPM)
    let tolA := tol (d.get F.POS_REDUN_CFG2_ARB_PPM)
    let agree := ((d1 * nine - scale d0).natAbs : Int) ≤ tolT * nine
    let a0 := ((d2 - d0).natAbs : Int) ≤ tolA
    let a1 := ((scale d2 - d1 * nine).natAbs : Int) ≤ tolA * (nine + d.pos.eps)
    let arb := mode = 2
    let d := if agree then d.modPos (fun p => { p with abHist := (dotsOf (d.encSt 1).travel - p.x) :: p.abHist.take 1000 }) else d
    let d := ((d.noteAgree 0 (agree && (!arb || a0))).noteAgree 1 (agree && (!arb || a1))).noteAgree 2 (arb && (a0 || a1))
    if agree then d
    else if arb && a0 && !a1 then (d.flagEnc F.ENC_STAT_OUTVOTED 1).report 121
    else if arb && a1 && !a0 then (d.flagEnc F.ENC_STAT_OUTVOTED 0).report 120
    else (d.irq F.POS_IRQ_STAT F.POS_IRQ_EN 6 none).report 122

def execRedundancyCompare (s : State) : Host.Outcome State Fault Refusal := .next (s.onDev (fun d => if d.posOn then d.redunCompare else d))

/-- ENCODER_REVERT: control returns to ENC0 as BAR0 crosses a press line, after REVERT_MS of agreement or a REVERT (R195). -/
def execEncoderRevert (s : State) : Host.Outcome State Fault Refusal :=
  .next (s.onDev (fun d =>
    let auto := d.flag F.POS_REDUN_CFG3_AUTO_REVERT && (match (d.encSt 0).agreeAt with
      | some t => decide (t + d.get F.POS_REDUN_CFG3_REVERT_MS * 1000000 ≤ d.now) | none => false) && d.encSound 0
    if d.posOn && d.pos.active = 1 && d.pos.crossed && !d.anyHeld && !d.pos.reverse && (auto || (d.pos.revert && d.encUsable 0)) then d.revertNow else d))

/-- POS_REDUN_CMD.REVERT (R195). -/
def execRevertCmd (rq : Requester) (s : State) : Host.Outcome State Fault Refusal :=
  .next (s.row rq (.revertCmd rq) 0x60074 1 ⟨0, some .installer⟩ (fun d => d.modPos (fun p => { p with revert := p.active = 1 })))

/-! ### Emulated and pass-through outputs (R200, R201) -/

/-- An emulated output. -/
def Dev.emuSt (d : Dev) (e : Nat) : EmuSt := d.pos.emu.getD e {}

/-- The output count of a unit's source. -/
def Dev.emuTarget (d : Dev) (e : Nat) : Int :=
  let s := d.get F.EMU_CFG_SRC e
  Int.fdiv ((if 8 ≤ s then d.qb (s - 8) else d.pos.x) * d.get F.EMU_RATIO e) (2 ^ 56) - (d.emuSt e).skip

/-- A unit's levels: A, B by the counts put out since enable, Z for one state every ZPERIOD counts. -/
def Dev.emuLevels (d : Dev) (e : Nat) : Bool × Bool × Bool :=
  let x := d.emuSt e
  let n := x.out - x.origin
  let q := (n % 4).toNat
  let z := d.get F.EMU_ZPER e
  if x.on then (q = 1 || q = 2, q = 2 || q = 3, z ≠ 0 && n ≠ 0 && n % z = 0) else (false, false, false)

/-- The pins follow a unit's levels. -/
def Dev.emuDrive (d : Dev) (e : Nat) : Dev :=
  let l := d.emuLevels e
  let p := d.pins
  if (p.emuA.getD e false, p.emuB.getD e false, p.emuZ.getD e false) = l then d
  else ({ d with pins := { p with emuA := setAt p.emuA e (fun _ => l.1), emuB := setAt p.emuB e (fun _ => l.2.1),
                                  emuZ := setAt p.emuZ e (fun _ => l.2.2) } } : Dev).emit (.emu e l.1 l.2.1 l.2.2)

/-- EMUe_CFG has been written: the unit starts at its source's present count, or stops with its outputs low. -/
def Dev.emuSwitch (d : Dev) (e : Nat) : Dev :=
  let on := d.flag F.EMU_CFG_ENABLE e
  let was := (d.emuSt e).on
  let t := d.emuTarget e + (d.emuSt e).skip
  let d := if on && !was then d.set F.EMU_STAT_LOST 0 e else d
  let d := d.modPos (fun p => { p with emu := setAt p.emu e (fun x => if on = was then x else { x with on, skip := 0, target := t, out := t, origin := t }) })
  d.emuDrive e

/-- A unit follows its source; what passes a backlog of 65,535 counts is lost and never put out (R200). -/
def Dev.emuFollow (d : Dev) (e : Nat) : Dev :=
  let x := d.emuSt e
  if !x.on then d
  else
    let t := d.emuTarget e
    let back := t - x.out
    let excess := back - clampI (-65535) 65535 back
    let d := d.modPos (fun p => { p with emu := setAt p.emu e (fun x => { x with target := t - excess, skip := x.skip + excess }) })
    if excess = 0 then d else (d.bump F.EMU_STAT_LOST e 0 excess.natAbs).report (127 + e)

/-- EMU_OUTPUT_STEP: the next quadrature state of the backlog, at least 20 ns after the last (R200). -/
def execEmuOutputStep (e : Fin 2) (s : State) : Host.Outcome State Fault Refusal :=
  .next (s.onDev (fun d =>
    let e := e.val
    let x := d.emuSt e
    if !d.posOn || !x.on || x.out = x.target || d.pos.active = 2 || d.now < x.last + 20 then d
    else
      (d.modPos (fun p => { p with emu := setAt p.emu e (fun x => { x with out := x.out + (if x.out < x.target then 1 else -1), last := d.now }) })).emuDrive e))

/-! ### The tracking loop (R172, R173) and ticks (R179 to R181) -/

/-- One update of x and v from the active encoder. x is in 2^-32 and v in 2^-48 dots: where R172 adds and divides them, the model cuts to 2^-32 dots toward
minus infinity (DESIGN CHOICE), as its shifts do. R173's bound is a limit of x, kept to the last bit. -/
def Dev.loopStep (d : Dev) : Dev :=
  let p := d.pos
  let xp := p.x + Int.fdiv p.v 65536
  match p.active with
  | 2 => d.modPos (fun p => { p with x := xp, newest := none })
  | 3 => d.modPos (fun p => { p with newest := none })
  | n =>
    let m := d.measured n
    let q : Int × Int := match p.newest with
      | some te =>
        let e := m - (xp - Int.fdiv (Int.fdiv (p.v * (d.T - te : Nat)) 1000) 65536)
        (xp + Int.fdiv (e * d.get F.POS_LOOP_KP) 16777216, p.v + Int.fdiv (e * 65536 * d.get F.POS_LOOP_KI) 16777216)
      | none => (xp, p.v)
    let six := 6 * d.ratio n
    let dir : Int := match (d.encSt n).edges with | (_, s) :: _ => s | [] => 0
    let r : Int × Int :=
      if dir = 0 then q
      else if six ≤ q.1 - m && (0 < dir || 0 < q.2) then (m + six, 0)
      else if six ≤ m - q.1 && (dir < 0 || q.2 < 0) then (m - six, 0)
      else q
    d.modPos (fun p => { p with x := r.1, v := r.2, newest := none })

/-- A bar's coordinate takes the change of x at its scale, and its scale moves for the lines crossed (R177, R188). -/
def Dev.moveBar (d : Dev) (dx : Int) (b : Nat) : Dev :=
  let q0 := d.qb b
  let d := d.modBar b (fun x => { x with p := x.p + openRound 177 (dx * x.scale) 140737488355328 })
  let k := (d.reachedLine (d.qb b) - d.reachedLine q0).natAbs
  d.modBar b (fun x => { x with scale := d.slewScale x.scale (d.get F.POS_B_F b) k })

/-- The camera's coordinate moves in the same way (R341). -/
def Dev.moveCam (d : Dev) (dx : Int) : Dev :=
  let q0 := d.qcam
  let d : Dev := { d with vin := { d.vin with p := d.vin.p + openRound 177 (dx * d.vin.scale) 140737488355328 } }
  let k := (d.reachedLine d.qcam - d.reachedLine q0).natAbs
  { d with vin := { d.vin with scale := d.slewScale d.vin.scale (d.get F.VIN_CAM1_F) k } }

/-- Pending index corrections slew by at most 1/256 count for each line that BAR0 crosses (R185). -/
def Dev.slewIndex (d : Dev) (k : Nat) : Dev :=
  (List.range 4).foldl (fun d n =>
    let s := clampI (-(k : Int)) k (d.encSt n).pend
    (d.moveCount n 0 s).modEnc n (fun e => { e with pend := e.pend - s })) d

/-- A hold being released ends at the first update at which the bar lies before its next line (R181). -/
def Dev.releaseStep (d : Dev) (b : Nat) : Dev :=
  let x := d.posBar b
  if x.releasing && d.qb b < d.refLine (d.hwm b + 1) then
    let d := d.modBar b (fun x => { x with held := none, releasing := false })
    { d with pos := { d.pos with reverse := false }, enc := d.enc.map (fun e => { e with high := e.corrected }) }
  else d

/-- The predicted crossing time of a line at a bar (R179). -/
def Dev.crossing (d : Dev) (b : Nat) (line : Int) : Int :=
  d.T + openRound 179 ((d.refLine line - d.qb b) * 140737488355328 * 1000) (d.pos.v * (d.posBar b).scale)

/-- May a bar issue its next line as a tick: v is positive, no REVERSE, the hold allows the line, and the crossing lies within LEAD_US. -/
def Dev.tickDue (d : Dev) (b : Nat) : Bool :=
  let m := d.hwm b + 1
  0 < d.pos.v && !d.pos.reverse && d.pos.active ≠ 3 && (match (d.posBar b).held with | some l => decide (m ≤ l) | none => true) &&
    d.crossing b m - d.T ≤ (d.get F.POS_LEAD_US * 1000 : Nat)

/-- A bar issues ticks: at most 8 in an update (R179). -/
def Dev.issueTicks (d : Dev) (b : Nat) : Dev :=
  (List.range 8).foldl (fun d _ =>
    if d.tickDue b then
      let m := (d.hwm b + 1).toNat
      let t := d.crossing b m
      d.modBar b (fun x => { x with hwm := some m, ticks := x.ticks ++ [⟨m, t⟩] })
    else d) d

/-- Ticks not yet committed are published again from the new model. -/
def Dev.republish (d : Dev) (b : Nat) : Dev :=
  if 0 < d.pos.v && d.pos.active ≠ 3 then d.modBar b (fun x => { x with ticks := x.ticks.map (fun t => { t with time := d.crossing b t.line }) }) else d

/-- The position part of an update, up to the stop sequence's holds. -/
def Dev.posMove (d : Dev) : Dev :=
  let x0 := d.pos.x
  let t0 := d.pos.tk
  let qs := (List.range 8).map (fun b => d.qb b)
  let d := d.losTests.switchBegin.loopStep
  let dx := d.pos.x - x0
  let d := ((List.range 8).foldl (fun d b => d.moveBar dx b) d).moveCam dx
  let k := (d.reachedLine (d.qb 0) - d.reachedLine (qs.getD 0 0)).natAbs
  let d := (d.slewIndex k).modPos (fun p => { p with crossed := k ≠ 0, tk := d.T })
  let d := d.reverseStep.noteReached
  let d := d.pcmpMove 4 (dots16 x0) (dots16 d.pos.x) t0 d.T
  let d := (List.range 8).foldl (fun d b => d.pcmpMove (8 + b) (dots16 (qs.getD b 0)) (dots16 (d.qb b)) t0 d.T) d
  (d.emuFollow 0).emuFollow 1

/-- Speeds are measured, and POS_SPEED follows the active encoder; it stands during a gap and is 0 when the position is lost (R183, R184). -/
def Dev.posSpeeds (d : Dev) : Dev :=
  let d := (List.range 4).foldl (fun d n => d.set F.ENC_SPEED (unsigned 32 (d.encSpeed n)) n) d
  let d := match d.pos.active with
    | 2 => d
    | 3 => d.modPos (fun p => { p with speed := 0 })
    | n => d.modPos (fun p => { p with speed := d.encSpeed n })
  d.noteSpeed

end Sys2Proof.Machine
end

