-- ==== Sys2Proof/Machine/Roles.lean ====
section
/-! DEFINITION. Fences, the audit ring, sessions and role keys (file 02, R36 to R62). -/

namespace Sys2Proof.Machine

/-! ### SYS_BAD_ACC and the fences -/

/-- SYS_BAD_ACC.CLEAR (R36). -/
def execSysBadAccClear (rq : Requester) (s : State) : Host.Outcome State Fault Refusal :=
  .next (s.gate rq (.sysBadAccClear rq) 0x44 (2 ^ 31) [⟨31, none⟩] (fun s =>
    if s.acts rq 0x44 ⟨31, none⟩ (2 ^ 31) then s.onDev (fun d => d.set F.SYS_BAD_ACC_COUNT 0) else s))

/-- Has a requester a write outstanding: an audited write whose entry is not yet in the ring, or a write that waits; `page` none asks for
every page (R39, R58). -/
def State.outstanding (s : State) (rq : Requester) (page : Option Nat) : Bool :=
  s.audit.queue.any (fun e => e.1 = some rq && page.all (· = e.2.page)) ||
    s.audit.stalled.any (fun x => x.1 = rq && page.all (· = x.2.1))

/-- A fence read: it returns at once when nothing is outstanding, else it waits (R39, R40). -/
def State.fenceRead (s : State) (rq : Requester) (page : Option Nat) : State :=
  if s.outstanding rq page then s.onDev (fun d => { d with fences := d.fences ++ [⟨rq, page⟩] })
  else s.onDev (fun d => d.emit (.fence rq page))

/-- A read of a page's xx_FENCE (R39); on the SYS page it is SYS_FENCE. -/
def execPageFenceRead (rq : Requester) (page : Nat) (s : State) : Host.Outcome State Fault Refusal :=
  .next (s.fenceRead rq (if page = 0 then none else some page))

/-- A read of SYS_FENCE (R39). -/
def execSysFenceRead (rq : Requester) (s : State) : Host.Outcome State Fault Refusal :=
  .next (s.fenceRead rq none)

/-- The first waiting fence read of a requester whose writes have all taken effect returns (R40). -/
def execFenceReturn (rq : Requester) (s : State) : Host.Outcome State Fault Refusal :=
  match s.dev.fences.find? (fun f => f.rq = rq && !s.outstanding rq f.page) with
  | some f => .next (s.onDev (fun d => ({ d with fences := d.fences.erase f } : Dev).emit (.fence f.rq f.page)))
  | none => .next s

/-! ### The audit ring -/

/-- The eight words of an entry in the ring (R59). -/
def AuditSlot.words (x : AuditSlot) : List Nat :=
  let w3 := x.entry.agent * 2 ^ 29 + x.entry.requester * 2 ^ 28 + x.entry.page % 2 ^ 14 * 2 ^ 12 + x.entry.offset
  let ws := [x.entry.time % 2 ^ 32, x.entry.time / 2 ^ 32 % 2 ^ 32, x.seq, w3, x.entry.old, x.entry.new, 0]
  ws ++ [crc32 (ws.flatMap (bytesLE 4))]

/-- An entry takes its place in the ring of 8,192; on a full ring it overwrites the entry at NEXT and counts it (R58 to R61). -/
def Audit.write (a : Audit) (e : AuditEntry) : Audit :=
  { a with ring := a.ring.filter (fun x => x.index ≠ a.next) ++ [⟨a.next, a.seq, e⟩],
           ovr := if a.wrapped then sat 0xFFFFFFFF (a.ovr + 1) else a.ovr,
           wrapped := a.wrapped || a.next = 8191,
           next := (a.next + 1) % 8192,
           seq := (a.seq + 1) % 2 ^ 32 }

/-- The oldest queued entry is written to the ring (R58); an MRAM write that fails its read-back twice reports MRAM_ERR (R470). While a thermal
shutdown suspends MRAM writes it waits (R426). -/
def execAuditEntryWrite (readBackOk : Bool) (s : State) : Host.Outcome State Fault Refusal :=
  match s.audit.queue with
  | [] => .next s
  | e :: q =>
    if s.dev.flag F.NVM_STAT_SUSPENDED then .next s
    else
      let d := s.dev.mramWrote 8
      let d := if readBackOk then d else d.mramFailed (32 * s.audit.next)
      .next { s with dev := d, audit := { s.audit.write e.2 with queue := q } }

/-- A write to ROLE_AUD_IDX loads the selected entry, or zeros, into ROLE_AUD_DATA0 to 7 (R62). -/
def execAuditIndexSelect (rq : Requester) (w : Word) (s : State) : Host.Outcome State Fault Refusal :=
  .next (s.gate rq (.auditIndexSelect rq w) 0x10D8 w.toNat [] (fun s =>
    let ok := s.dev.pageOpen 0x10D8
    let s := s.write rq 0x10D8 w.toNat
    if ok then
      let ws := match s.audit.ring.find? (fun x => x.index = s.dev.get F.ROLE_AUD_IDX) with
        | some x => x.words
        | none => List.replicate 8 0
      s.onDev (fun d => (List.range 8).foldl (fun d k => d.set F.ROLE_AUD_DATA (ws.getD k 0) k) d)
    else s))

/-! ### Role keys (R43) -/

/-- The digest of a role in the bonded store, 16 bytes (R43, R63). -/
def Dev.roleDigest (d : Dev) (role : Nat) : List Nat :=
  (List.range 4).flatMap (fun k => bytesLE 4 (d.bonded (15 + 4 * (role - 1) + k)))

/-- The digest of a key: the first 16 bytes of its SHA-256 (R43). -/
def keyDigest (key : List Nat) : List Nat := (sha256 key).take 16

/-- Does a written key of a role match a non-zero digest. -/
def Dev.keyMatches (d : Dev) (role : Nat) : Bool :=
  match d.mram.keys.getD (role - 1) none with
  | some k => keyDigest k = d.roleDigest role && (d.roleDigest role).any (· ≠ 0)
  | none => false

/-- Are sessions of a role refused (R43): no digest, no key, or a key that does not match. -/
def Dev.roleRefused (d : Dev) (role : Nat) : Bool := !d.keyMatches role

/-- Is there a written key that does not match a non-zero digest (R43). -/
def Dev.keyMismatch (d : Dev) : Bool :=
  [1, 2, 3].any (fun r => !d.slotBlank r && (d.roleDigest r).any (· ≠ 0) && !d.keyMatches r)

/-- A session ends; a role that became refused leaves REFUSED (R43, R46). -/
def Session.closed (x : Session) (refused : Bool) : Session :=
  { x with st := .closed, role := 0, chal := [], deadline := 0, refused }

/-- Sessions of refused roles end (R43). -/
def Dev.endRefused (d : Dev) (rq : Requester) : Dev :=
  let x := d.session rq
  if (x.st = .opened || x.st = .challenged) && d.roleRefused x.role then d.setSession rq (x.closed true) else d

/-- The check of the role keys at boot and at every commit (R43). -/
def Dev.checkRoleKeys (d : Dev) : Dev :=
  ((d.reportLevel 21 0 d.keyMismatch).endRefused .host).endRefused .cellar

/-- A word of a digest, for an audit entry (R59). -/
def digestWord (l : List Nat) : Nat := ofBytesLE (l.take 4)

/-- A staged key whose digest matches TARGET's is committed: written to MRAM, STAGED cleared, TARGET's open sessions ended, one audit entry with the
agent of the STAGE write (R56). DESIGN CHOICE: OLD of the entry is the digest word of the key that MRAM held, 0 where the slot was never written; R59 does not
say. -/
def State.checkStaged (s : State) : State :=
  match s.dev.staged with
  | none => s
  | some k =>
    if keyDigest k.key = s.dev.roleDigest k.target && s.hasRoom 1 then
      let old := match s.dev.mram.keys.getD (k.target - 1) none with | some o => digestWord (keyDigest o) | none => 0
      let fin (x : Session) : Session := if x.st = .opened && x.role = k.target then x.closed false else x
      let d : Dev := { s.dev with mram := { s.dev.mram with keys := setAt s.dev.mram.keys (k.target - 1) (fun _ => some k.key) }, staged := none,
                                  host := fin s.dev.host, cellar := fin s.dev.cellar }
      let d := ((d.set F.ROLE_KEY_CTRL_STAGED 0).mramWrote 8).checkRoleKeys
      ({ s with dev := d }).pushAudit none
        { time := s.dev.T, agent := k.agent, requester := k.requester, page := 1, offset := 0xC0, old, new := digestWord (keyDigest k.key) }
    else s

/-- A write of ROLE_KEY_CTRL (R55 to R57): TARGET is stored, and STAGE stages the key registers for it. The TARGET that the write itself stores decides
whether roles are needed. -/
def execKeyStage (rq : Requester) (w : Word) (s : State) : Host.Outcome State Fault Refusal :=
  let target := F.ROLE_KEY_CTRL_TARGET.clampVal (bits w.toNat 8 2)
  let act : Act := ⟨0, if s.dev.slotBlank target then none else some .maker⟩
  .next (s.gate rq (.keyStage rq w) 0x10C0 w.toNat [act] (fun s =>
    let ok := s.acts rq 0x10C0 act w.toNat
    let agent := s.dev.agent rq
    let arq := s.dev.agentRq rq
    let s := s.write rq 0x10C0 w.toNat [act]
    if ok then
      let key := (List.range 8).flatMap (fun k => bytesLE 4 (s.dev.get F.ROLE_KEY_NEW k))
      let k : StagedKey := { target, key, deadline := s.dev.now + 60000000000, agent, requester := arq }
      (s.onDev (fun d => ({ d with staged := some k } : Dev).set F.ROLE_KEY_CTRL_STAGED 1)).checkStaged
    else s) 1)

/-- A staged key without a match after 60 s is discarded (R56). -/
def execStagedKeyExpire (s : State) : Host.Outcome State Fault Refusal :=
  match s.dev.staged with
  | some k =>
    if k.deadline ≤ s.dev.now then .next (s.onDev (fun d => ({ d with staged := none } : Dev).set F.ROLE_KEY_CTRL_STAGED 0)) else .next s
  | none => .next s

/-! ### Sessions (R45 to R53) -/

/-- The challenge's 32 bytes from the random number generator (R49). -/
def challenge (n : Nat) : List Nat := (List.range 32).map (fun k => (Config.randomByte (n + k)).toNat)

/-- A write of ROLE_REQ in a session that is not LOCKED: the session ends; a role whose sessions are refused is marked so; any other is challenged (R45). -/
def Dev.requestRole (d : Dev) (rq : Requester) (role : Nat) : Dev :=
  let x := d.session rq
  if x.st = .locked then d
  else if d.roleRefused role then d.setSession rq (x.closed true)
  else
    ({ d with free := d.free + 32 } : Dev).setSession rq
      { x with st := .challenged, role, refused := false, deadline := d.now + 10000000000, chal := challenge d.free }

/-- ROLE_REQ (R45). -/
def execRoleReq (rq : Requester) (w : Word) (s : State) : Host.Outcome State Fault Refusal :=
  .next (s.gate rq (.roleReq rq w) 0x1040 w.toNat [] (fun s =>
    if s.dev.pageOpen 0x1040 then s.onDev (fun d => d.requestRole rq (Nat.max 1 (w.toNat % 4))) else s.onDev Dev.badAcc))

/-- The response in ROLE_RESP0 to 7 (R50). -/
def Dev.response (d : Dev) (rq : Requester) : List Nat :=
  (List.range 8).flatMap (fun k => bytesLE 4 (d.get F.ROLE_RESP (match rq with | .host => 0 | .cellar => 1) k))

/-- The tag that opens a session (R51). -/
def Dev.roleTag (d : Dev) (rq : Requester) : List Nat :=
  let x := d.session rq
  hmacSha256 ((d.mram.keys.getD (x.role - 1) none).getD []) (x.chal ++ [x.role, match rq with | .host => 0 | .cellar => 1])

/-- Verification of a response (R51, R52). DESIGN CHOICE: ROLE_SESSION.ROLE reads 0b00 in LOCKED; R46 says so for CLOSED alone. -/
def Dev.verify (d : Dev) (rq : Requester) : Dev :=
  let x := d.session rq
  if x.st ≠ .challenged then d
  else if x.deadline < d.now then d.setSession rq (x.closed x.refused)
  else if d.roleTag rq = d.response rq then
    (d.setSession rq { x with st := .opened, fails := 0, chal := [] }).touch rq
  else if x.fails + 1 < 3 then d.setSession rq { x.closed x.refused with fails := x.fails + 1 }
  else (d.setSession rq { x.closed x.refused with st := .locked, fails := 3, deadline := d.now + 60000000000 }).report 22

/-- A write of ROLE_RESP7 (R50, R51). -/
def execRoleResponse (rq : Requester) (w : Word) (s : State) : Host.Outcome State Fault Refusal :=
  .next (s.gate rq (.roleResponse rq w) 0x109C w.toNat [] (fun s =>
    let ok := s.dev.pageOpen 0x109C
    let s := s.write rq 0x109C w.toNat
    if ok then s.onDev (fun d => d.verify rq) else s))

/-- LOCKED ends after 60 s with FAILS 0 (R52). -/
def execLockEnd (rq : Requester) (s : State) : Host.Outcome State Fault Refusal :=
  let x := s.dev.session rq
  if x.st = .locked && x.deadline ≤ s.dev.now then .next (s.onDev (fun d => d.setSession rq { x.closed x.refused with fails := 0 }))
  else .next s

/-- A challenge expires after 10 s; FAILS is unchanged (R51). -/
def execChallengeExpire (rq : Requester) (s : State) : Host.Outcome State Fault Refusal :=
  let x := s.dev.session rq
  if x.st = .challenged && x.deadline ≤ s.dev.now then .next (s.onDev (fun d => d.setSession rq (x.closed x.refused)))
  else .next s

/-- An OPEN session's idle timer reaches 0 (R53). -/
def execSessionIdleTimeout (rq : Requester) (s : State) : Host.Outcome State Fault Refusal :=
  let x := s.dev.session rq
  if x.st = .opened && x.deadline ≤ s.dev.now then .next (s.onDev (fun d => d.setSession rq (x.closed x.refused)))
  else .next s

/-- A write of ROLE_SESS_CTRL (R47): IDLE_TIME, then DENY_CLR, then END. DESIGN CHOICE: END in LOCKED leaves the lock as it is; R47 does not say what it does
there. -/
def State.sessCtrl (s : State) (rq : Requester) (cmd : Instr) (w : Nat) : State :=
  s.gate rq cmd 0x1048 w [] (fun s =>
    let fin := s.acts rq 0x1048 ⟨0, none⟩ w
    let clr := s.acts rq 0x1048 ⟨1, none⟩ w
    let b := match rq with | .host => 0 | .cellar => 1
    let s := s.write rq 0x1048 w
    let s := if clr then s.onDev (fun d => (d.set F.ROLE_DENY_COUNT 0 b).set F.ROLE_DENY_ADDR 0 b) else s
    if fin then s.onDev (fun d => let x := d.session rq; if x.st = .locked then d else d.setSession rq (x.closed x.refused)) else s)

/-- ROLE_SESS_CTRL.END ends the requester's session at once (R47). -/
def execSessionEnd (rq : Requester) (w : Word) (s : State) : Host.Outcome State Fault Refusal :=
  .next (s.sessCtrl rq (.sessionEnd rq w) w.toNat)

/-- ROLE_SESS_CTRL.DENY_CLR clears ROLE_DENY (R47). -/
def execRoleDenyClear (rq : Requester) (w : Word) (s : State) : Host.Outcome State Fault Refusal :=
  .next (s.sessCtrl rq (.roleDenyClear rq w) w.toNat)

end Sys2Proof.Machine
end

