-- ==== Sys2Proof/Machine/Safe.lean ====
section
/-! DEFINITION. The bonded store, the SAFE port and the cask words (file 02, R63 to R79). -/

namespace Sys2Proof.Machine

/-! ### Cask words (R77, R78) -/

/-- The bitwise majority of three 32-bit words. -/
def majority (a b c : Nat) : Nat := (a &&& b) ||| (a &&& c) ||| (b &&& c)

/-- The majority of a cask word's three SRAM copies. -/
def Dev.cask (d : Dev) (n : Nat) : Nat := majority (d.bond.cask0.getD n 0) (d.bond.cask1.getD n 0) (d.bond.cask2.getD n 0)

/-- A cask word is written by its owner: three SRAM copies and three MRAM copies (R77). -/
def Dev.setCask (d : Dev) (n v : Nat) : Dev :=
  let p (l : List Nat) : List Nat := setAt l n (fun _ => v % 2 ^ 32)
  ({ d with bond := { d.bond with cask0 := p d.bond.cask0, cask1 := p d.bond.cask1, cask2 := p d.bond.cask2 },
            mram := { d.mram with cask0 := p d.mram.cask0, cask1 := p d.mram.cask1, cask2 := p d.mram.cask2 } } : Dev).mramWrote 3

/-- Successive cask words are written. -/
def Dev.setCasks (d : Dev) (n : Nat) (vs : List Nat) : Dev :=
  (List.range vs.length).foldl (fun d k => d.setCask (n + k) (vs.getD k 0)) d

/-- The vote over the copies of a cask word (R78): one differing copy is rewritten and counted; three different copies report CASK_UNCERTAIN. -/
def Dev.voteCask (d : Dev) (n : Nat) : Dev :=
  let a := d.bond.cask0.getD n 0
  let b := d.bond.cask1.getD n 0
  let c := d.bond.cask2.getD n 0
  let v := majority a b c
  if a = b && b = c then d
  else if a = b || b = c || a = c then
    let p (l : List Nat) : List Nat := setAt l n (fun _ => v)
    (({ d with bond := { d.bond with cask0 := p d.bond.cask0, cask1 := p d.bond.cask1, cask2 := p d.bond.cask2 } } : Dev).bump F.SAFE_CASK_STAT_FIX_CNT).set
      F.SAFE_CASK_STAT_LAST_WORD n
  else (d.set F.SAFE_CASK_STAT_LAST_WORD n).report 13

/-- A block of the part reads cask words: every read votes (R78). -/
def Dev.voteCasks (d : Dev) (ns : List Nat) : Dev := ns.foldl (fun d n => d.voteCask n) d

/-- A read of a cask word returns the majority. -/
def Dev.readCask (d : Dev) (n : Nat) : Dev := (d.emit (.cask n (d.cask n))).voteCask n

/-- CASK_WORD_READ (R78). -/
def execCaskWordRead (n : Fin 64) (s : State) : Host.Outcome State Fault Refusal :=
  .next (if s.dev.pageOpen 0x2300 then s.onDev (fun d => d.readCask n.val) else s.onDev Dev.badAcc)

/-! ### Values of the bonded store (R63, R71, R73) -/

/-- The source with a safety number (R404). -/
def sourceOfSafety (n : Nat) : Nat :=
  if n ≤ 14 then n else if n ≤ 28 then n + 8 else if n ≤ 30 then n + 27 else if n ≤ 59 then n + 28
  else if n = 60 then 124 else if n = 61 then 126 else n + 83

/-- A class word with each class raised to its source's floor (R63, R405). -/
def clampClasses (k v : Nat) : Nat :=
  ((List.range 16).map (fun j => Nat.max (floorOf (sourceOfSafety (16 * k + j))) (bits v (2 * j) 2) * 4 ^ j)).sum

/-- A value of entry n clamped to its widest range, with its reserved bits 0 (R63, R71). -/
def clampEntry (n v : Nat) : Nat :=
  match n with
  | 0 => v % 65536
  | 1 => clampN 10 1000000 (v % 2 ^ 24)
  | 3 => clampN 10 1000000 (v % 2 ^ 24)
  | 4 => clampN 40 120 (v % 256)
  | 5 => clampN 40 125 (v % 256)
  | 6 => clampN 40 127 (v % 256)
  | 7 => clampN 1 15 (bits v 16 8) * 65536 + clampN 1 15 (bits v 8 8) * 256 + clampN 1 15 (v % 256)
  | 8 => clampN 1 10000 (v % 65536)
  | 9 => clampN 1 10000 (v % 65536)
  | 10 => v % 65536
  | 11 => clampClasses 0 v
  | 12 => clampClasses 1 v
  | 13 => clampClasses 2 v
  | 14 => clampClasses 3 v
  | _ => v % 2 ^ 32

/-- The store after staged entries are applied as one: THROTTLE is clamped against WARN and SHUTDOWN against THROTTLE, of the same commit (R71). -/
def applyEntries (old : List Nat) (staged : List (Nat × Nat)) : List Nat :=
  let v := staged.foldl (fun v e => setAt v e.1 (fun _ => e.2)) old
  let w := v.getD 4 0
  let t := clampN w 125 (v.getD 5 0)
  let h := clampN t 127 (v.getD 6 0)
  setAt (setAt v 5 (fun _ => t)) 6 (fun _ => h)

/-- The bonded-store digest as eight words (R73). -/
def bondDigest (v : List Nat) : List Nat :=
  let h := sha256 (v.flatMap (bytesLE 4))
  (List.range 8).map (fun k => ofBytesLE ((h.drop (4 * k)).take 4))

/-- Is a pair complementary (R64). -/
def matchedPair (p : Nat × Nat) : Bool := p.2 = 0xFFFFFFFF - p.1

/-- The store's pairs are passed to the consumers: each takes a pair that matches and keeps its last matched one otherwise (R64). -/
def Bonded.feed (b : Bonded) : Bonded := { b with inUse := List.zipWith (fun p u => if matchedPair p then p else u) b.pairs b.inUse }

/-- The store is put in force: pairs, consumers, the digest in cask words 4 to 11 and the role digests in 12 to 23. -/
def Dev.putBond (d : Dev) (v : List Nat) : Dev :=
  let d : Dev := { d with bond := ({ d.bond with pairs := v.map bondPair } : Bonded).feed }
  (d.setCasks 4 (bondDigest v)).setCasks 12 (v.drop 15)

/-- Do all pairs of the store and of the consumers hold complements (R64). -/
def Bonded.matched (b : Bonded) : Bool := b.pairs.all matchedPair && b.inUse.all matchedPair

/-- BONDED_PAIR_CHECK (R64, R65): a pair that does not match, in the store or in a consumer, reports BONDED_PAIR; the pairs that match pass to the
consumers again. -/
def execBondedPairCheck (s : State) : Host.Outcome State Fault Refusal :=
  .next (if s.dev.pwr.st = .on && !s.dev.bond.matched then
      s.onDev (fun d => ({ d with bond := d.bond.feed } : Dev).report 12) else s)

/-- BONDED_DIGEST_CHECK (R65): a digest that differs from cask words 4 to 11 reports BONDED_PAIR. -/
def execBondedDigestCheck (s : State) : Host.Outcome State Fault Refusal :=
  .next (if s.dev.pwr.st = .on && s.dev.safe.loaded then s.onDev (fun d =>
      let d := d.voteCasks (span 4 11)
      if bondDigest (d.bond.pairs.map (·.1)) = (List.range 8).map (fun k => d.cask (4 + k)) then d else d.report 12) else s)

/-! ### SAFE-port frames (R67 to R70) -/

/-- The fourteen bytes of a reply. -/
def replyBytes (status seq index value compl : Nat) : List Nat :=
  let b := [status] ++ bytesBE 2 seq ++ [index] ++ bytesBE 4 value ++ bytesBE 4 compl
  b ++ bytesBE 2 (crc16 b)

/-- The reply that is formed when SAFE_CS_N falls (R67, R68). -/
def Dev.safeReply (d : Dev) : List Nat :=
  let ok (seq index v : Nat) : List Nat := replyBytes 0 seq index v (0xFFFFFFFF - v)
  let busy := d.get F.SAFE_PORT_STAT_BUSY
  match d.safe.last with
  | .noPrevious => replyBytes 7 0 0 0 0
  | .lengthErr => replyBytes 4 0 0 0 0
  | .failed st seq index => replyBytes st seq index 0 0xFFFFFFFF
  | .nop seq => ok seq busy (d.get F.SAFE_PORT_STAT_EXP_SEQ)
  | .read seq index => ok seq index ((d.bond.pairs.getD index (0, 0)).1)
  | .write seq index v => ok seq index v
  | .commit seq n => ok seq 0xFF n
  | .discard seq index => ok seq index 0

/-- The reply is shifted out, and LAST_STATUS takes its STATUS. -/
def Dev.shiftReply (d : Dev) : Dev :=
  let r := d.safeReply
  (d.emit (.safeReply r)).set F.SAFE_PORT_STAT_LAST_STATUS (r.headD 0)

/-- The device with what the next reply answers. -/
def Dev.safeLast (d : Dev) (l : SafeLast) : Dev := { d with safe := { d.safe with last := l } }

/-- The expected SEQ advances (R70). -/
def Dev.safeAdvance (d : Dev) : Dev := d.set F.SAFE_PORT_STAT_EXP_SEQ ((d.get F.SAFE_PORT_STAT_EXP_SEQ + 1) % 65536)

/-- A frame fails a check: STATUS, count and source (R69). -/
def Dev.safeFail (d : Dev) (status seq index : Nat) : Dev :=
  let d := d.safeLast (.failed status seq index)
  match status with
  | 1 => (d.bump F.SAFE_ERR_CNT_CRC).report 17
  | 2 => (d.bump F.SAFE_ERR_CNT_SEQ).report 18
  | 3 => (d.bump F.SAFE_ERR_CNT_CMP).report 19
  | 8 => d
  | _ => (d.bump F.SAFE_ERR_CNT_OTHER).report 20

/-- A frame that passes every check acts (R68, R71). -/
def Dev.safeAct (d : Dev) (cmd seq index value : Nat) : Dev :=
  if cmd = 0 then d.safeLast (.nop seq)
  else if cmd = 0x5A then d.safeLast (.read seq index)
  else if cmd = 0xA5 then
    let v := clampEntry index value
    let staged := (d.safe.staged.filter (fun e => e.1 ≠ index)) ++ [(index, v)]
    (({ d with safe := { d.safe with staged } } : Dev).safeAdvance).safeLast (.write seq index v)
  else if cmd = 0x3C then
    let n := d.safe.staged.length
    let d := (d.safeAdvance).safeLast (.commit seq n)
    if n = 0 then d
    else ({ d with safe := { d.safe with staged := [], applying := some d.safe.staged } } : Dev).set F.SAFE_PORT_STAT_BUSY 1
  else (({ d with safe := { d.safe with staged := [] } } : Dev).safeAdvance).safeLast (.discard seq index)

/-- The fourteen bytes of a frame are checked in the order of R69 and acted on. -/
def Dev.safeCheck (d : Dev) (b : List Nat) : Dev :=
  let cmd := b.getD 0 0
  let seq := ofBytesBE ((b.drop 1).take 2)
  let index := b.getD 3 0
  let value := ofBytesBE ((b.drop 4).take 4)
  let compl := ofBytesBE ((b.drop 8).take 4)
  let sequenced := cmd = 0xA5 || cmd = 0x3C || cmd = 0xC3
  if crc16 (b.take 12) ≠ ofBytesBE (b.drop 12) then d.safeFail 1 seq index
  else if !(cmd = 0 || cmd = 0x5A || sequenced) then d.safeFail 6 seq index
  else if (cmd = 0x5A || cmd = 0xA5) && 26 < index then d.safeFail 5 seq index
  else if !d.safe.loaded || (sequenced && d.safe.applying.isSome) then d.safeFail 8 seq index
  else if sequenced && seq ≠ d.get F.SAFE_PORT_STAT_EXP_SEQ then d.safeFail 2 seq index
  else if cmd = 0xA5 && compl ≠ 0xFFFFFFFF - value then d.safeFail 3 seq index
  else d.safeAct cmd seq index value

/-- One frame on the SAFE port: the reply to the previous frame is shifted out while it comes in, then it is checked (R67, R69). -/
def Dev.safeFrame (d : Dev) (nbits : Nat) (b : List Nat) : Dev :=
  if d.pwr.st ≠ .on then d
  else
    let d := d.shiftReply
    if nbits ≠ 112 || b.length ≠ 14 then (d.safeFail 4 0 0).safeLast .lengthErr else d.safeCheck b

/-- The bytes of a frame with a CMD byte. -/
def safeBytes (f : SafeFrame) (cmd : Nat) : List Nat :=
  [cmd] ++ bytesBE 2 f.seq.toNat ++ [f.index.toNat] ++ bytesBE 4 f.value.toNat ++ bytesBE 4 f.compl.toNat ++ bytesBE 2 f.crc.toNat

/-- A NOP frame (R68). -/
def execSafeNop (f : SafeFrame) (s : State) : Host.Outcome State Fault Refusal :=
  .next (s.onDev (fun d => d.safeFrame 112 (safeBytes f 0)))

/-- A READ frame (R68). -/
def execSafeRead (f : SafeFrame) (s : State) : Host.Outcome State Fault Refusal :=
  .next (s.onDev (fun d => d.safeFrame 112 (safeBytes f 0x5A)))

/-- A WRITE frame (R68). -/
def execSafeWrite (f : SafeFrame) (s : State) : Host.Outcome State Fault Refusal :=
  .next (s.onDev (fun d => d.safeFrame 112 (safeBytes f 0xA5)))

/-- A COMMIT frame (R71). -/
def execSafeCommit (f : SafeFrame) (s : State) : Host.Outcome State Fault Refusal :=
  .next (s.onDev (fun d => d.safeFrame 112 (safeBytes f 0x3C)))

/-- A DISCARD frame (R68). -/
def execSafeDiscard (f : SafeFrame) (s : State) : Host.Outcome State Fault Refusal :=
  .next (s.onDev (fun d => d.safeFrame 112 (safeBytes f 0xC3)))

/-- A frame of any length and any bytes, as the pins carry it (R69). -/
def execSafeBadFrame (nbits : Nat) (bytes : List Byte) (s : State) : Host.Outcome State Fault Refusal :=
  .next (s.onDev (fun d => d.safeFrame nbits (bytes.map (·.toNat))))

/-! ### A commit (R71) -/

/-- The entries that a commit changes: index, old and new value. -/
def changedEntries (old new : List Nat) : List (Nat × Nat × Nat) :=
  ((List.range 27).map (fun n => (n, old.getD n 0, new.getD n 0))).filter (fun e => e.2.1 ≠ e.2.2)

/-- The audit entry of a changed bonded entry (R59): page SAFE, the entry's value offset. -/
def bondEntry (now agent : Nat) (e : Nat × Nat × Nat) : AuditEntry :=
  { time := now, agent, requester := 0, page := 2, offset := 0x40 + 8 * e.1, old := e.2.1, new := e.2.2 }

/-- A store is put in force as one commit: store, MRAM copy, digest, audit entries, role keys and staged key (R71). -/
def State.commitBond (s : State) (agent : Nat) (v : List Nat) : State :=
  let ch := changedEntries (s.dev.bond.pairs.map (·.1)) v
  let d := ((s.dev.putBond v).mramWrote 54)
  let d : Dev := { d with mram := { d.mram with bond := some (v.map bondPair) } }
  let s := ch.foldl (fun s e => s.pushAudit none (bondEntry s.dev.T agent e)) { s with dev := d }
  (s.onDev Dev.checkRoleKeys).checkStaged

/-- SAFE_COMMIT_APPLY (R71): it waits for room in the audit queue for its entries, and, with MRAM writes suspended, for their end. -/
def execSafeCommitApply (readBackOk : Bool) (s : State) : Host.Outcome State Fault Refusal :=
  match s.dev.safe.applying with
  | none => .next s
  | some staged =>
    let old := s.dev.bond.pairs.map (·.1)
    let v := applyEntries old staged
    if !s.hasRoom ((changedEntries old v).length + (if s.dev.staged.isSome then 1 else 0)) || s.dev.flag F.NVM_STAT_SUSPENDED then .next s
    else
      let s := s.commitBond 3 v
      let s := s.onDev (fun d => ({ d with safe := { d.safe with applying := none } } : Dev).set F.SAFE_PORT_STAT_BUSY 0)
      .next (if readBackOk then s else s.onDev (fun d => d.mramFailed 0x60800))

end Sys2Proof.Machine
end

