-- ==== Sys2Proof/Machine/Ecc.lean ====
section
/-! DEFINITION. The commands of stored-data integrity: fill, reads, spare maps, ledger ages, scrub and flips (file 10). -/

namespace Sys2Proof.Machine

/-- Every channel has finished its fill (R299): DRAM_DONE and FILL_DONE are set, and PHASE follows (R444). -/
def execDramFillDone (s : State) : Host.Outcome State Fault Refusal :=
  .next (s.onDev (fun d =>
    if d.get F.DDR_STAT_STATE = 2 && !d.dramReady then
      (((d.set F.ECC_STAT_FILLING 0).set F.ECC_STAT_DRAM_DONE 1).irq F.ECC_IRQ_STAT F.ECC_IRQ_EN 0 none).followPhase
    else d))

/-- A write of one word by the cellar processor enters its channel's queue: its order is fixed, and every later read returns it (R276, R277). -/
def execDramWriteAccept (addr : BitVec 37) (data : Word) (s : State) : Host.Outcome State Fault Refusal :=
  .next (s.onDev (fun d =>
    let a := addr.toNat / 4 * 4
    if d.dramReady && a < d.capBytes then (d.touchRow a true 5).dramWriteWord a data.toNat else d))

/-- A read of one word by the cellar processor arrives and returns, no request after it having come between (R276); bits of the stored word that have changed since it was written are given as masks (R295). -/
def execDramReadComplete (addr : BitVec 37) (flips : Word) (checkFlips : Byte) (s : State) : Host.Outcome State Fault Refusal :=
  .next (s.onDev (fun d =>
    let a := addr.toNat / 4 * 4
    if d.dramReady && a < d.capBytes then
      let w := d.rawWord a
      let w' := w ^^^ flips.toNat
      let d := d.putWord a w' (d.synd a ^^^ checkBits w ^^^ checkBits w' ^^^ checkFlips.toNat)
      let (data, _, d) := d.dramRead a 4 5
      d.emit (.dram a (ofBytesLE data))
    else d))

/-! ### Spare-row maps (R309) -/

/-- The root of a channel's spare-row map: the first eight bytes of SHA-256 over its record, as two words. -/
def mapRoot (m : SpareMap) : List Nat :=
  let h := sha256 ((Config.spareRecord (m.mfr :: m.serial :: m.rows)).map (·.toNat))
  [ofBytesLE (h.take 4), ofBytesLE ((h.drop 4).take 4)]

/-- A channel's map is written to MRAM with its root in the cask words. -/
def Dev.writeMap (d : Dev) (c : Nat) : Dev :=
  let x := d.chan c
  let m : SpareMap := { rows := x.retired, mfr := x.mfr, serial := x.serial }
  let d : Dev := { d with mram := { d.mram with spare := setAt d.mram.spare c (fun _ => m) } }
  ((d.mramWrote (2 + x.retired.length)).modChan c (fun x => { x with mapped := x.retired.length })).setCasks (48 + 2 * c) (mapRoot m)

/-- At an enable a channel's map is loaded and checked: a root that differs clears it and reports SPARE_MAP_ROOT, another identity clears it; a cleared map
is written through (R309). An MRAM in which nothing was ever written holds no map and no root. -/
def Dev.loadMap (d : Dev) (c : Nat) : Dev :=
  let d := d.voteCasks [48 + 2 * c, 49 + 2 * c]
  let m := d.mram.spare.getD c {}
  let x := d.chan c
  let blank := m = {} && d.cask (48 + 2 * c) = 0 && d.cask (49 + 2 * c) = 0
  let rootOk := blank || [d.cask (48 + 2 * c), d.cask (49 + 2 * c)] = mapRoot m
  let same := m.mfr = x.mfr && m.serial = x.serial
  if rootOk && same then d.modChan c (fun x => { x with retired := m.rows, mapped := m.rows.length })
  else
    let d := (d.modChan c (fun x => { x with retired := [] })).writeMap c
    if rootOk then d else d.report (239 + c)

/-- SPARE_MAP_WRITE: the map of a channel with a new retirement is written to MRAM with its root and an audit entry (R309). It waits for queue space, and
for the end of a suspension of MRAM writes. -/
def execSpareMapWrite (c : Chan) (readBackOk : Bool) (s : State) : Host.Outcome State Fault Refusal :=
  let c := c.val
  let x := s.dev.chan c
  if x.mapped = x.retired.length || !s.hasRoom 1 || s.dev.flag F.NVM_STAT_SUSPENDED then .next s
  else
    let d := s.dev.writeMap c
    let d := if readBackOk then d else d.mramFailed (0x62000 + 0x1000 * c)
    .next (({ s with dev := d } : State).pushAudit none
      { time := s.dev.T, agent := 6, requester := 0, page := 0x80, offset := 0x108 + 0x20 * c, old := x.mapped, new := x.retired.length })

/-- Ledger entries older than AGE_S are freed (R305). -/
def execLedgerAgeExpire (s : State) : Host.Outcome State Fault Refusal :=
  .next (s.onDev (fun d =>
    let age := d.get F.ECC_LEDGER_CFG_AGE_S
    let now := d.T / 1000000000
    { d with ddr := { d.ddr with chans := d.ddr.chans.map (fun x => { x with ledger := x.ledger.filter (fun e => now ≤ e.sec + age) }) } }))

/-! ### Scrub (R311, R312) -/

/-- A summary count of the scrub is raised. -/
def Dev.scrubCount (d : Dev) (f : Field) (n : Nat) : Dev := d.bump f 0 0 n

/-- The word addresses of a range that a scrub reads: the spare area is skipped. -/
def Dev.scrubSkips (d : Dev) (a : Nat) : Bool := d.meetsSpare a 4

/-- Words on fenced channels in a range, counted grain by grain. -/
def Dev.fencedWords (d : Dev) (a n : Nat) : Nat :=
  if d.get F.DDR_STAT_FENCED = 0 then 0
  else ((List.range (n / 64)).map (fun k => if d.onFenced (a + 64 * k) && !d.scrubSkips (a + 64 * k) then 16 else 0)).sum

/-- Words of the spare area in a range. -/
def Dev.spareWords (d : Dev) (a n : Nat) : Nat :=
  let lo := Nat.max a d.spareBase
  let hi := Nat.min (a + n) (d.spareBase + d.get F.ECC_SPARE_SIZE_MIB * 2 ^ 20)
  (hi - lo) / 4

/-- A scrub reads the first n bytes of its range (R311): corrected words are written back and enter the ledger, uncorrectable ones are poisoned, words on a
fenced channel count as poisoned. -/
def Dev.scrubRange (d : Dev) (a n : Nat) : Dev :=
  let bad := (d.check.map (·.1)).filter (fun w => a ≤ w && w < a + n && !d.scrubSkips w && !d.onFenced w && !d.onDead w)
  let d0 := d
  let d := bad.foldl (fun d w =>
    let c := (d0.look1 w).1
    let d := if c = .poisoned then d else d.noteRead w true
    let d := match c with
      | .corrected _ => d.scrubCount F.ECC_SCRUB_SUM_CE 1
      | .uncorrectable => d.scrubCount F.ECC_SCRUB_SUM_UE 1
      | .poisoned => d.scrubCount F.ECC_SCRUB_SUM_POISON 1
      | .clean => d
    match c with
    | .corrected _ => d
    | .clean => d
    | _ => if d.flag F.ECC_SCRUB_SUM_FIRST_VALID && d.get F.ECC_SCRUB_SUM_FIRST_BAD ≤ w then d
           else (d.set F.ECC_SCRUB_SUM_FIRST_BAD w).set F.ECC_SCRUB_SUM_FIRST_VALID 1) d
  let f := d0.fencedWords a n
  let d := d.scrubCount F.ECC_SCRUB_SUM_POISON f
  let d := if f = 0 then d
    else match (List.range (n / 64)).find? (fun k => d0.onFenced (a + 64 * k) && !d0.scrubSkips (a + 64 * k)) with
      | some k => if d.flag F.ECC_SCRUB_SUM_FIRST_VALID && d.get F.ECC_SCRUB_SUM_FIRST_BAD ≤ a + 64 * k then d
                  else (d.set F.ECC_SCRUB_SUM_FIRST_BAD (a + 64 * k)).set F.ECC_SCRUB_SUM_FIRST_VALID 1
      | none => d
  d.set F.ECC_SCRUB_SUM_WORDS (n / 4 - d0.spareWords a n)

/-- The scrub ends with its range read (R312). -/
def Dev.scrubEnd (d : Dev) : Dev :=
  match d.ecc.scrub with
  | none => d
  | some (a, n) =>
    let d := { d with ecc := { d.ecc with scrub := none } }.scrubRange a n
    ((d.set F.ECC_STAT_SCRUB_BUSY 0).set F.ECC_SCRUB_SUM_VALID 1).irq F.ECC_IRQ_STAT F.ECC_IRQ_EN 1 none

/-- The scrub ends early with ABORTED set; the words read so far are a free value within the range (R312). -/
def Dev.scrubAbort (d : Dev) : Dev :=
  match d.ecc.scrub with
  | none => d
  | some (a, n) =>
    let (k, d) := d.nextFree
    let done := Config.scrubProgress k % (n / 64 + 1) * 64
    let d := { d with ecc := { d.ecc with scrub := none } }.scrubRange a done
    ((d.set F.ECC_STAT_SCRUB_BUSY 0).set F.ECC_SCRUB_SUM_VALID 1).set F.ECC_SCRUB_SUM_ABORTED 1

/-- A scrub starts: the summary is cleared and SCRUB_BUSY set; with LEN 0 it completes at once (R311). -/
def Dev.scrubStart (d : Dev) : Dev :=
  if d.flag F.ECC_STAT_SCRUB_BUSY then d
  else
    let fs := [F.ECC_SCRUB_SUM_WORDS, F.ECC_SCRUB_SUM_CE, F.ECC_SCRUB_SUM_UE, F.ECC_SCRUB_SUM_POISON, F.ECC_SCRUB_SUM_FIRST_BAD,
      F.ECC_SCRUB_SUM_VALID, F.ECC_SCRUB_SUM_ABORTED, F.ECC_SCRUB_SUM_FIRST_VALID]
    let d := (fs.foldl (fun d f => d.set f 0) d).set F.ECC_STAT_SCRUB_BUSY 1
    let n := if d.dramReady then d.get F.ECC_SCRUB_LEN else 0
    let d : Dev := { d with ecc := { d.ecc with scrub := some (d.get F.ECC_SCRUB_BASE, n) } }
    if n = 0 then d.scrubEnd else d

/-- SCRUB_DONE: the range has been read (R312). A throttled pause only delays it. -/
def execScrubDone (s : State) : Host.Outcome State Fault Refusal := .next (s.onDev Dev.scrubEnd)

/-- ECC_SCRUB_CTRL.ABORT (R312); the word's BW_PCT is stored. -/
def execScrubAbort (rq : Requester) (w : Word) (s : State) : Host.Outcome State Fault Refusal :=
  .next (s.row rq (.scrubAbort rq w) 0x80058 w.toNat ⟨30, none⟩ Dev.scrubAbort)

/-! ### Flips and counts (R313 to R315) -/

/-- ECC_FLIP_CTRL.ARM with the word's TARGET and CHK (R313). -/
def execFlipArm (rq : Requester) (w : Word) (s : State) : Host.Outcome State Fault Refusal :=
  .next (s.row rq (.flipArm rq w) 0x80084 w.toNat ⟨31, some .installer⟩ (fun d => d.set F.ECC_FLIP_CTRL_ARMED 1))

/-- ECC_SRAM_CNT.CLEAR (R314). -/
def execEccSramCntClear (rq : Requester) (s : State) : Host.Outcome State Fault Refusal :=
  .next (s.row rq (.eccSramCntClear rq) 0x800C0 (2 ^ 31) ⟨31, none⟩ (fun d => (d.set F.ECC_SRAM_CNT_CE 0).set F.ECC_SRAM_CNT_UE 0))

/-- ECC_Cc_CNT.CLEAR (R315). -/
def execEccChannelCntClear (rq : Requester) (c : Chan) (s : State) : Host.Outcome State Fault Refusal :=
  .next (s.row rq (.eccChannelCntClear rq c) (0x8010C + 0x20 * c.val) (2 ^ 31) ⟨31, none⟩ (fun d =>
    (((d.set F.ECC_C_CE 0 c.val).set F.ECC_C_UE_UE 0 c.val).set F.ECC_C_UE_POISON_RD 0 c.val).set F.ECC_C_CNT_EVICT 0 c.val))

end Sys2Proof.Machine
end

