-- ==== Sys2Proof/Machine/FaultCmds.lean ====
section
/-! DEFINITION. The commands of the fault collector (file 15, R398 to R420). -/

namespace Sys2Proof.Machine

/-! ### Where a source's bits are (R400, R404, R418) -/

/-- The sources that a page owns, in ascending index; on an HLK port page bits 0 to 8 (R400, R404). The first number is the page's base. -/
def ownedSources (page : Nat) : List Nat :=
  match page with
  | 0x0000 => span 23 37 ++ [86, 88, 89, 90]
  | 0x1000 => [21, 22]
  | 0x2000 => span 12 20
  | 0x3000 => span 0 11
  | 0x4000 => span 59 85
  | 0x5000 => [87]
  | 0x20000 => span 91 98
  | 0x30000 => span 99 107
  | 0x50000 => [56, 58] ++ span 129 155
  | 0x60000 => span 108 128
  | 0x70000 => span 186 214
  | 0x80000 => span 215 244
  | 0x90000 => span 245 268
  | 0xA0000 => 38 :: span 40 55 ++ span 269 276
  | 0xB0000 => span 277 297
  | 0xC0000 => 57 :: span 298 302
  | 0xD0000 => span 303 309
  | 0xE0000 => [39, 310, 311]
  | _ => []

/-- The source of bit i of a port page (R400, R404). -/
def portSource (p i : Nat) : Nat :=
  match i with
  | 0 => 156
  | 1 => 157 + groupOf p
  | 2 => 165
  | 3 => 166
  | 4 => 167 + groupOf p
  | 5 => 175 + groupOf p
  | 6 => 183
  | 7 => 184
  | _ => 185

/-- The keys behind the bank bit of a source: for a head-link source those of its lane group's ports, or of all ports (R403). -/
def sourceKeys (src : Nat) : List Nat :=
  let ports (g : Nat) : List Nat := (List.range 24).map (fun k => fkey src (24 * g + k))
  if 157 ≤ src && src ≤ 164 then ports (src - 157)
  else if 167 ≤ src && src ≤ 174 then ports (src - 167)
  else if 175 ≤ src && src ≤ 182 then ports (src - 175)
  else if 156 ≤ src && src ≤ 185 then (List.range 192).map (fun p => fkey src p)
  else [fkey src 0]

/-- The keys behind the bits of a status (0x18 or 0x80 + 4k) or force (0x20 or 0x100 + 4k) register: one list for each bit. -/
def bitKeys (addr pageOfs bankOfs : Nat) : Option (List (List Nat)) :=
  if 0x3000 + bankOfs ≤ addr && addr < 0x3000 + bankOfs + 40 && addr % 4 = 0 then
    let k := (addr - 0x3000 - bankOfs) / 4
    some ((List.range (Nat.min 32 (312 - 32 * k))).map (fun i => sourceKeys (32 * k + i)))
  else if addr % 0x1000 = pageOfs then
    if 0x1000000 ≤ addr && addr < 0x10C0000 then
      let p := (addr - 0x1000000) / 0x1000
      some ((List.range 9).map (fun i => [fkey (portSource p i) p]))
    else some ((ownedSources (addr - pageOfs)).map sourceKeys)
  else none

/-- A word whose bit i is set when some key of list i meets a condition. -/
def wordOfKeys (l : List (List Nat)) (p : Nat → Bool) : Nat :=
  ((List.range l.length).map (fun i => b2n ((l.getD i []).any p) * 2 ^ i)).sum

/-! ### Detectors (R398, R399, R402) -/

/-- Does a source have a wire pair of its own (R399). -/
def hasWires (src : Nat) : Bool := 12 ≤ src && src ≤ 311

/-- The key of a source as the collector keeps it: only head-link sources have instances (R403). -/
def sourceKey (src inst : Nat) : Nat := if 156 ≤ src && src ≤ 185 then fkey src inst else fkey src 0

/-- A source's wires read equal: WIRE_PAIR of its bank and the source itself become live (R399); events of one cycle go in ascending index (R402). -/
def Dev.pairEqual (d : Dev) (k : Nat) : Dev :=
  let d := d.report (k / 256 / 32)
  ({ d with flt := { d.flt with eq := insertOnce d.flt.eq k } } : Dev).noteLive k

/-- FAULT_EVENT: a source's detector reports, or its wire pair reads equal (R398, R399, R402). -/
def execFaultEvent (src : Source) (inst : Byte) (pairEqual : Bool) (s : State) : Host.Outcome State Fault Refusal :=
  .next (s.onDev (fun d =>
    let k := sourceKey src.val inst.toNat
    if d.pwr.st ≠ .on then d
    else if pairEqual && hasWires src.val then d.pairEqual k
    else d.report (k / 256) (k % 256)))

/-- WIRE_PAIRk stops with the last pair of its bank that reads equal (R399). -/
def Dev.endWirePair (d : Dev) (bank : Nat) : Dev :=
  if d.flt.eq.any (fun k => k / 256 / 32 = bank) then d else d.unreport bank

/-- SOURCE_LIVE_END: a source's detector stops reporting and its pair reads (0, 1); a wire test runs to its end of 1 µs (R401, R413). -/
def execSourceLiveEnd (src : Source) (inst : Byte) (s : State) : Host.Outcome State Fault Refusal :=
  .next (s.onDev (fun d =>
    let d : Dev := if src.val = 89 && d.pwr.st = .on && d.pwr.booted && d.pins.perst then d.linkUp else d
    let k := sourceKey src.val inst.toNat
    let testing := match d.flt.wireAt with | some (x, t) => x = src.val && d.now < t | none => false
    let wasLive := d.flt.live k
    let hadEq := has d.flt.eq k
    let d : Dev := { d with flt := { d.flt with det := removeAll d.flt.det k, eq := if testing then d.flt.eq else removeAll d.flt.eq k } }
    let d := d.noteFall k wasLive
    if hadEq && !testing then d.endWirePair (src.val / 32) else d))

/-- A monitored clock stops or drifts (R21): its source reports; a recovered camera clock is monitored only while its downlink reports lock. -/
def execClockLoss (src : Source) (s : State) : Host.Outcome State Fault Refusal :=
  .next (s.onDev (fun d =>
    let watched := src.val < 40 || bit (d.get F.CAM_P_STAT_LOCK ((src.val - 40) / 4)) ((src.val - 40) % 4)
    if d.pwr.st = .on && 23 ≤ src.val && src.val ≤ 55 && watched then d.report src.val else d))

/-! ### Status, force and wire test -/

/-- A status bit of a key that is not live clears with its flicker count; the fences that the source holds end (R401, R410). -/
def Dev.clearStatus (d : Dev) (k : Nat) : Dev :=
  if has d.flt.status k && !d.flt.live k then
    ({ d with flt := { d.flt with status := removeAll d.flt.status k, flicker := d.flt.flicker.filter (fun e => e.1 ≠ k),
                                  lastFlick := d.flt.lastFlick.filter (fun e => e.1 ≠ k) } } : Dev).endFences (k / 256) (k % 256)
  else d

/-- A W1C write to a status register (R401, R403). -/
def execFaultStatusClear (rq : Requester) (addr : Nat) (w : Word) (s : State) : Host.Outcome State Fault Refusal :=
  .next (s.gate rq (.faultStatusClear rq addr w) addr w.toNat [] (fun s =>
    if !inPages addr || !s.dev.pageOpen addr then s.onDev Dev.badAcc
    else match bitKeys addr 0x18 0x80 with
      | none => s
      | some l => s.onDev (fun d => (List.range l.length).foldl (fun d i =>
          if w.toNat.testBit i then (l.getD i []).foldl Dev.clearStatus d else d) d)))

/-- CLEAR_ALL writes 1 to every status bit (R419). -/
def execClearAll (rq : Requester) (s : State) : Host.Outcome State Fault Refusal :=
  .next (s.gate rq (.clearAll rq) 0x3048 1 [⟨0, none⟩] (fun s =>
    let ok := s.acts rq 0x3048 ⟨0, none⟩ 1
    let s := s.write rq 0x3048 1 [⟨0, none⟩]
    if ok then s.onDev (fun d => ((d.flt.status.foldl Dev.clearStatus d).set F.FLT_CMD_CODE 0).set F.FLT_CMD_DONE 1) else s))

/-- A key's force bit is written (R412). -/
def Dev.forceKey (d : Dev) (k : Nat) (on : Bool) : Dev :=
  if on then
    if has d.flt.force k then d else ({ d with flt := { d.flt with force := insertOnce d.flt.force k } } : Dev).noteLive k
  else
    ({ d with flt := { d.flt with force := removeAll d.flt.force k } } : Dev).noteFall k (d.flt.live k)

/-- Every key of a force register takes its bit of a word. -/
def Dev.forceWord (d : Dev) (l : List (List Nat)) (w : Nat) : Dev :=
  (List.range l.length).foldl (fun d i => (l.getD i []).foldl (fun d k => d.forceKey k (w.testBit i)) d) d

/-- The audit entry of a write that a rule audits beside stored fields (R58): old and new word. -/
def State.auditWord (s : State) (rq : Requester) (addr old new : Nat) : State :=
  s.pushAudit (some rq) (s.dev.entry rq addr old new)

/-- A write of force bits (R403, R412). -/
def execFaultForce (rq : Requester) (addr : Nat) (w : Word) (s : State) : Host.Outcome State Fault Refusal :=
  .next (match bitKeys addr 0x20 0x100 with
    | none => if !inPages addr || !s.dev.pageOpen addr then s.onDev Dev.badAcc else s
    | some l =>
      s.roleWrite rq (.faultForce rq addr w) addr (some .installer) (fun d => wordOfKeys l (fun k => has d.flt.force k)) (fun d => d.forceWord l w.toNat))

/-- FLT_WIRE_TEST: SRC is stored, and GO drives the source's wires equal for 1 µs (R413). -/
def execWireTest (rq : Requester) (w : Word) (s : State) : Host.Outcome State Fault Refusal :=
  let act : Act := ⟨31, some .installer⟩
  .next (s.gate rq (.wireTest rq w) 0x304C w.toNat [act] (fun s =>
    let ok := s.acts rq 0x304C act w.toNat
    let s := s.write rq 0x304C w.toNat [act]
    if ok then s.onDev (fun d =>
      let src := d.get F.FLT_WIRE_TEST_SRC
      if hasWires src then
        (sourceKeys src).foldl Dev.pairEqual { d with flt := { d.flt with wireAt := some (src, d.now + 1000) } }
      else d)
    else s))

/-! ### Acknowledgements and shadows (R408, R411) -/

/-- ACK_STOP ends every STOP reaction in force when their statuses are clear; an accepted one is the acknowledgement of R231. -/
def Dev.ackStop (d : Dev) : Dev :=
  let d := d.set F.FLT_CMD_DONE 1
  if d.flt.stops.any (fun k => has d.flt.status k) then d.set F.FLT_CMD_CODE 1
  else
    ({ d with flt := { d.flt with stops := [] }, fire := { d.fire with stop := { d.fire.stop with acked := true } } } : Dev).set F.FLT_CMD_CODE 0

/-- ACK_STOP (R408). -/
def execAckStop (rq : Requester) (s : State) : Host.Outcome State Fault Refusal :=
  let act : Act := ⟨1, some .operator⟩
  .next (s.gate rq (.ackStop rq) 0x3048 2 [act] (fun s =>
    let ok := s.acts rq 0x3048 act 2
    let s := s.write rq 0x3048 2 [act]
    if ok then s.onDev Dev.ackStop else s))

/-- ACK_SAFE ends every SAFE reaction in force when their statuses are clear and FLT_IN and FLT_IN_PAIR are neither live nor set. -/
def Dev.ackSafe (d : Dev) : Dev :=
  let d := d.set F.FLT_CMD_DONE 1
  if d.flt.safes.any (fun k => has d.flt.status k) ||
      [fkey 10 0, fkey 11 0].any (fun k => d.flt.live k || has d.flt.status k) then d.set F.FLT_CMD_CODE 1
  else (Dev.settle d { d with flt := { d.flt with safes := [] } }).set F.FLT_CMD_CODE 0

/-- ACK_SAFE (R408). -/
def execAckSafe (rq : Requester) (s : State) : Host.Outcome State Fault Refusal :=
  let act : Act := ⟨2, some .installer⟩
  .next (s.gate rq (.ackSafe rq) 0x3048 4 [act] (fun s =>
    let ok := s.acts rq 0x3048 act 4
    let s := s.write rq 0x3048 4 [act]
    if ok then s.onDev Dev.ackSafe else s))

/-- SHADOW_WINDOW_END: the windows whose time is over close (R411). -/
def execShadowWindowEnd (s : State) : Host.Outcome State Fault Refusal :=
  .next (s.onDev (fun d => { d with flt := { d.flt with shadows := d.flt.shadows.filter (fun x => d.now < x.ends) } }))

/-- POP removes the oldest lees-log entry (R415). -/
def execPop (rq : Requester) (s : State) : Host.Outcome State Fault Refusal :=
  .next (s.gate rq (.pop rq) 0x3054 1 [⟨0, none⟩] (fun s =>
    let ok := s.acts rq 0x3054 ⟨0, none⟩ 1
    let s := s.write rq 0x3054 1 [⟨0, none⟩]
    if ok then s.onDev (fun d => { d with flt := { d.flt with log := d.flt.log.drop 1 } }) else s))

/-! ### External error pairs (R416, R417) -/

/-- A level of FLT_IN that has stood 10 µs is judged (R417). -/
def Dev.fltIn (d : Dev) (p n : Bool) : Dev :=
  let hb := d.flag F.FLT_CFG_IN_HB
  let swapped := p ≠ n && d.pins.fltInP = n && d.pins.fltInN = p
  let d : Dev := { d with pins := { d.pins with fltInP := p, fltInN := n }, flt := { d.flt with inAt := if swapped then d.now else d.flt.inAt } }
  if p = n then (d.set F.FLT_STATE_IN 2).report 11
  else
    let d := d.unreport 11
    if hb then
      if swapped then (d.set F.FLT_STATE_IN 0).unreport 10
      else d.set F.FLT_STATE_IN (if d.flt.live (fkey 10 0) then 3 else 0)
    else if p then (d.set F.FLT_STATE_IN 0).unreport 10
    else (d.set F.FLT_STATE_IN 1).report 10

/-- FLT_IN_INPUT (R417). -/
def execFltInInput (p n : Bool) (s : State) : Host.Outcome State Fault Refusal :=
  .next (if s.dev.pwr.st = .on then s.onDev (fun d => d.fltIn p n) else s)

/-- FLT_IN_HEARTBEAT_LOSS: with IN_HB 1, no exchange for 1.2 ms makes FLT_IN live (R417). -/
def execFltInHeartbeatLoss (s : State) : Host.Outcome State Fault Refusal :=
  .next (s.onDev (fun d =>
    if d.pwr.st = .on && d.flag F.FLT_CFG_IN_HB && d.flt.inAt + 1200000 ≤ d.now then (d.set F.FLT_STATE_IN 3).report 10 else d))

/-- FLT_OUT_HEARTBEAT: a healthy pair with HB_EN exchanges levels (R416). -/
def execFltOutHeartbeat (s : State) : Host.Outcome State Fault Refusal :=
  .next (s.onDev (fun d =>
    if d.pwr.st = .on && !d.outFault && d.flag F.FLT_CFG_HB_EN then Dev.settle d { d with flt := { d.flt with outP := !d.flt.outP } } else d))

end Sys2Proof.Machine
end

