-- ==== Sys2Proof/Machine/Reserve.lean ====
section
/-! DEFINITION. Cistern pointers and the underrun prediction (file 04, R124 to R131). Places are press lines at BAR0's numbering: a bar's read pointer
is the job's line 0 plus the lines it has read. -/

namespace Sys2Proof.Machine

/-- A bar's place in a job. -/
def Job.bar (j : Job) (b : Nat) : BarJob := j.bars.getD b {}

/-- The device with a bar's place in a job changed. -/
def Dev.modBarJob (d : Dev) (i b : Nat) (f : BarJob → BarJob) : Dev := d.modJob i (fun j => { j with bars := setAt j.bars b f })

/-- The lowest number at or above s that a list lacks, with fuel. -/
def firstGap (l : List Nat) : Nat → Nat → Nat
  | 0, s => s
  | k + 1, s => if has l s then firstGap l k (s + 1) else s

/-- WR_b: the lowest job line not stored (R126). -/
def Job.wr (j : Job) (b : Nat) : Nat :=
  let l := (j.bar b).stored
  Nat.min j.ctx.lineCount (firstGap l l.length 0 * j.ctx.perStored)

/-- The lowest job line at or above r of a print that is neither stored nor a strip's. -/
def Job.missingLine (j : Job) (b : Nat) : Nat → Nat → Option Nat
  | 0, _ => none
  | k + 1, r =>
    if j.ctx.lineCount ≤ r then none
    else
      let p := j.ctx.perStored
      match (match j.strip with | some s => if s.mode = 2 then (j.stripAt r).map (fun o => r - o + s.size j.ctx.bars.length) else none | none => none) with
      | some e => j.missingLine b k e
      | none => if has (j.bar b).stored (r / p) then j.missingLine b k ((r / p + 1) * p) else some r

/-- Fuel that a print's search needs: each step passes a stored line or a strip. -/
def Job.missingFuel (j : Job) (b : Nat) : Nat := (j.bar b).stored.length + j.ctx.lineCount / Nat.max 1 j.ctx.stripPitch + 2

/-- Does a job print a print that begins n lines after its line 0. -/
def Job.prints? (j : Job) (n : Nat) : Bool := match j.length with | some m => decide (n < m) | none => true

/-- FIRST_MISSING_b as a press line, from a press line of a job on and through claimed successors (R130); none when no line is missing. The model's choice: a bar
that a claimed successor's mask lacks misses no line of it, nor beyond it while the successor's own chain is unclaimed (R130 speaks of the bars in the mask). -/
def Dev.firstMissing (d : Dev) (b : Nat) : Nat → Nat → Nat → Option Nat
  | 0, _, _ => none
  | k + 1, i, line =>
    let j := d.job i
    let per := j.ctx.period
    let n := line - j.p0
    let base := n / Nat.max 1 per * per
    let fuel := j.missingFuel b
    let here : Option Nat :=
      if j.ctx.empty || j.st ≠ .running || !j.hasBar b then none
      else
        match (if j.prints? n then (j.missingLine b fuel (n - base)).map (fun l => j.p0 + base + l) else none) with
        | some x => some x
        | none => if j.prints? (base + per) then (j.missingLine b fuel 0).map (fun l => j.p0 + base + per + l) else none
    match here with
    | some x => some x
    | none =>
      match (if j.ctx.empty then some 0 else j.length) with
      | none => none
      | some m =>
        let e := Nat.max line (j.p0 + m)
        if j.ctx.chain && !j.broken then
          match j.succ with
          | some k' => if (d.job k').st = .running || (d.job k').st = .done then Dev.firstMissing d b k k' e else none
          | none => if j.hasBar b then some e else none
        else none

/-- A bar's read pointer as a press line, and its job. -/
def Dev.readAt (d : Dev) (b : Nat) : Option (Nat × Job × Nat) := (d.barJob b).map (fun e => (e.1, e.2, e.2.p0 + (e.2.bar b).rd))

/-- FIRST_MISSING_b of the job a bar reads. -/
def Dev.fm (d : Dev) (b : Nat) : Option Nat :=
  match d.readAt b with
  | some (i, _, rd) => d.firstMissing b 513 i rd
  | none => none

/-- Is an underrun predicted for a bar (R131). -/
def Dev.pred (d : Dev) (b : Nat) : Bool :=
  match d.readAt b, d.fm b with
  | some (_, j, rd), some f => decide (f < rd + j.geo.stopGuard)
  | _, _ => false

/-- Has a bar of a RUNNING job its reserve (R131). -/
def Dev.reserved (d : Dev) (b : Nat) : Bool :=
  match d.readAt b, d.fm b with
  | some (_, j, rd), some f => decide (rd + j.geo.stopGuard + j.geo.res ≤ f)
  | _, _ => true

/-- Does the reserve count as restored: for every bar of every RUNNING job (R131). -/
def Dev.restored (d : Dev) : Bool := (List.range 8).all (fun b => d.reserved b)

/-- The cistern manager evaluates the bars after a change (R131): a prediction that becomes true is signalled and counted and begins a stop, and a reserve
that becomes restored is signalled. -/
def Dev.watchReserve (before after : Dev) : Dev :=
  let d := (List.range 8).foldl (fun d b =>
    if after.pred b && !before.pred b then
      ((d.bump F.CIS_B_CNT_PRED b).irq F.CIS_IRQ_STAT F.CIS_IRQ_EN b none).stopTrigger 0
    else d) after
  if after.restored && !before.restored then
    (List.range 8).foldl (fun d b => if (after.readAt b).isSome then d.irq F.CIS_IRQ_STAT F.CIS_IRQ_EN (8 + b) none else d) d
  else d

/-- On return to RUN the prediction is evaluated at once (R227). -/
def Dev.recheck (d : Dev) : Dev := if (List.range 8).any (fun b => d.pred b) then d.stopTrigger 0 else d

/-- The line after a job's last line and gap, if it ends. -/
def Job.endLine (j : Job) : Option Nat := (if j.ctx.empty then some 0 else j.length).map (fun n => j.p0 + n)

/-- The claim bar (R114). -/
def JobCtx.claimBar (c : JobCtx) : Nat := c.bars.headD 0

/-! ### Places in DRAM (R124, R134 to R136) -/

/-- The rank of a bar among a job's bars. -/
def JobCtx.rank (c : JobCtx) (b : Nat) : Nat := (c.bars.filter (fun x => x < b)).length

/-- C_b of a stream job, in stored lines (R123). -/
def Job.capacity (j : Job) (b : Nat) : Nat :=
  let a := j.geo.areas.getD b {}
  if j.ctx.compressed then a.idxn else if j.ctx.slot = 0 then 0 else a.size / j.ctx.slot

/-- Where an uncompressed stored line of a bar lies (R124). -/
def Job.slotAddr (j : Job) (b s : Nat) : Nat :=
  if j.ctx.rep then j.geo.repBase + (j.ctx.rank b * j.ctx.storedLines + s) * j.ctx.slot
  else (j.geo.areas.getD b {}).base + s % Nat.max 1 (j.capacity b) * j.ctx.slot

/-- The slot of a coded line of a repeat job (R135). -/
def Job.codedAddr (j : Job) (b s : Nat) : Nat := j.geo.repBase + (j.ctx.rank b * j.ctx.storedLines + s) * j.ctx.worstSlot

/-- The line-index entry of a stored line (R136). -/
def Job.indexAddr (j : Job) (b s : Nat) : Nat :=
  let a := j.geo.areas.getD b {}
  a.idxb + s % Nat.max 1 a.idxn * 8

/-- Coded lines that are released give their space back in the order of allocation (R134). -/
def BarJob.reclaim (x : BarJob) : BarJob := { x with coded := x.coded.dropWhile (·.released) }

/-- A pointer of a bar as a job line, from the lines of the reading order below it: it restarts at each print, and stands at LINE_COUNT in a gap and after the last
print (R127, R128). -/
def Job.pointer (j : Job) (n : Nat) : Nat :=
  if (match j.length with | some m => decide (m ≤ n) | none => false) then j.ctx.lineCount
  else Nat.min j.ctx.lineCount (n % Nat.max 1 j.ctx.period)

/-- Does the throttle hold back source reads for a stored line: it lies at or beyond RD + STOP_GUARD + MINRES in BAR0's reading order (R132, R424); a job without
BAR0 is measured at its claim bar. -/
def Dev.defers (d : Dev) (j : Job) (s : Nat) : Bool :=
  let l := s * j.ctx.perStored
  let n := (j.bar j.ctx.claimBar).rd
  let r := if j.ctx.rep then n % Nat.max 1 j.ctx.period else n
  d.deferPaused && j.geo.stopGuard + j.geo.minRes ≤ (if r ≤ l then l - r else if j.ctx.rep then l + j.ctx.period - r else 0)

/-- Where the next coded bar-line of a stored size goes in a data area, if it fits (R134). -/
def BarJob.place (x : BarJob) (area size : Nat) : Option Nat :=
  match x.coded with
  | [] => let a := if area < x.allocAt + size then 0 else x.allocAt
          if size ≤ area then some a else none
  | c :: _ =>
    if c.offset < x.allocAt then
      if x.allocAt + size ≤ area then some x.allocAt else if size ≤ c.offset then some 0 else none
    else if x.allocAt + size ≤ c.offset then some x.allocAt else none

/-- Has a bar of a stream job read or passed a stored line (R93, R128). -/
def Job.past (j : Job) (b s : Nat) : Bool := !j.ctx.rep && s * j.ctx.perStored < Nat.max (j.bar b).seen (j.bar b).rel

/-- Is a bar-line's stored line below the ring's room (R125). -/
def Job.room (j : Job) (b s : Nat) : Bool :=
  j.ctx.rep || s < (j.bar b).rel / j.ctx.perStored + j.capacity b

end Sys2Proof.Machine
end

