-- ==== Sys2Proof/Machine/Jobs.lean ====
section
/-! DEFINITION. The cellar book: job contexts, commands, starts, chains and their end (file 03, R102 to R114, R472; file 04, R117 to R123). -/

namespace Sys2Proof.Machine

/-! ### The context format (R104) -/

/-- A context from its sixteen staged words, clamped (R104). -/
def ctxOfWords (w : Nat → Nat) : JobCtx :=
  let w0 := w 0
  let fmt := Nat.min 3 (bits w0 16 4)
  let rep := bit w0 3
  let pc := w 4
  { barMask := bits w0 24 8, format := fmt, waveSet := bits w0 12 4, lutSet := bits w0 10 2, layout := bits w0 7 3, lpi1200 := bit w0 6,
    dropMode := if fmt = 2 then 0 else if fmt = 3 then 1 else bits w0 5 1, compressed := bit w0 4, rep, forever := rep && bit w0 2,
    chain := bit w0 1, startAt := bit w0 0, width := Nat.min 98304 (bits (w 1) 0 17), lineCount := w 2 + bits (w 3) 0 16 * 2 ^ 32,
    printCount := if rep then pc else Nat.min 1 pc, gapLines := bits (w 5) 0 24, startLine := w 6 + bits (w 7) 0 16 * 2 ^ 32,
    stripPitch := w 8, evtRing := bits (w 9) 8 3, stripMode := Nat.min 2 (bits (w 9) 0 2), nextTag := bits (w 10) 16 16, user := w 11 }

/-- The words of a context as READ returns them. -/
def JobCtx.words (c : JobCtx) : List Nat :=
  [c.barMask * 2 ^ 24 + c.format * 2 ^ 16 + c.waveSet * 2 ^ 12 + c.lutSet * 2 ^ 10 + c.layout * 2 ^ 7 + b2n c.lpi1200 * 64 + c.dropMode * 32 +
     b2n c.compressed * 16 + b2n c.rep * 8 + b2n c.forever * 4 + b2n c.chain * 2 + b2n c.startAt,
   c.width, c.lineCount % 2 ^ 32, c.lineCount / 2 ^ 32, c.printCount, c.gapLines, c.startLine % 2 ^ 32, c.startLine / 2 ^ 32, c.stripPitch,
   c.evtRing * 256 + c.stripMode, c.nextTag * 65536, c.user, 0, 0, 0, 0]

/-! ### Rates (R209, R252) -/

/-- T_SEND of a frame of n words at a lane rate in Mbit/s (R252). -/
def tSend (n mb : Nat) : Nat := 100 * cdiv ((n + 28) * 1000) (3 * mb)

/-- Words of a FIRE record's frame, header and trailer included, for a drop mode and burst length (R220, R245). -/
def fireWords (mode n : Nat) : Nat := 18 + (if mode = 0 then 256 else 384) + cdiv n 2

/-- FIRE_RATE_MAX of a bar for a job (R209). -/
def Dev.barRate (d : Dev) (c : JobCtx) (b : Nat) : Nat :=
  let v := d.wave c.waveSet
  let n := waveLen v
  let burst := n * 20 + waveGuard v
  let lanes := (d.heads b).map (fun e => 1000000000 / tSend (fireWords c.dropMode n) (laneMb (d.groups.getD (groupOf e.2.port) {}).rate))
  (lanes ++ (if burst = 0 then [] else [1000000000 / burst])).foldl Nat.min (Nat.min 160000 (waveRate v))

/-- A job's FIRE_RATE_MAX: the least over its bars (R209). -/
def Dev.jobRate (d : Dev) (c : JobCtx) : Nat := (c.bars.map (fun b => d.barRate c b)).foldl Nat.min 160000

/-! ### Geometry and capacity (R117 to R123) -/

/-- The geometry that a job takes at OPEN and UPDATE (R119). -/
def Dev.geometry (d : Dev) (c : JobCtx) : JobGeo :=
  let rate := d.jobRate c
  let k := c.layout
  { stopGuard := cdiv (d.get F.CIS_STOP_DIST * c.lpi) 25400 + d.get F.CIS_GUARD_MARGIN,
    res := cdiv (d.get F.CIS_RESERVE_RES_MS * rate) 1000, minRes := cdiv (d.get F.CIS_RESERVE_MIN_MS * rate) 1000,
    delay := (List.range 8).map (fun b => cdiv (d.get F.CIS_BAR_DIST b * c.lpi) 25400),
    areas := (List.range 8).map (fun b => { base := d.get F.CIS_L_B_BASE k b * 4096, size := d.get F.CIS_L_B_SIZE k b * 4096,
                                            idxb := d.get F.CIS_L_B_IDXB k b * 4096, idxn := d.get F.CIS_L_B_IDXN k b }),
    repBase := d.get F.CIS_L_REP_BASE k * 4096, repSize := d.get F.CIS_L_REP_SIZE k * 4096, rateMax := rate }

/-- The areas that a job's kind and mask name in its layout, as (start, bytes) (R121). -/
def Job.layoutAreas (j : Job) : List (Nat × Nat) :=
  let a (b : Nat) := j.geo.areas.getD b {}
  let idx := if j.ctx.compressed then j.ctx.bars.map (fun b => ((a b).idxb, (a b).idxn * 8)) else []
  (if j.ctx.rep then [(j.geo.repBase, j.geo.repSize)] else j.ctx.bars.map (fun b => ((a b).base, (a b).size))) ++ idx

/-- The areas that a job uses (R121); an empty job uses none. -/
def Job.uses (j : Job) : List (Nat × Nat) := if j.ctx.empty then [] else j.layoutAreas

/-- Do two areas overlap. -/
def overlap (a b : Nat × Nat) : Bool := 0 < a.2 && 0 < b.2 && a.1 < b.1 + b.2 && b.1 < a.1 + a.2

/-- Does an area of a job overlap one held by another context (R121). -/
def Dev.areaTaken (d : Dev) (i : Nat) (j : Job) : Bool :=
  d.jobs.any (fun e => e.1 ≠ i && e.2.st ≠ .free && e.2.uses.any (fun a => j.uses.any (overlap a)))

/-- The populated capacity as OPEN and UPDATE take it: 0 until DRAM_DONE is set (R444). -/
def Dev.jobCap (d : Dev) : Nat := if d.dramReady then d.capBytes else 0

/-- Does a job fit its layout, clear of the spare area (R123, R307). -/
def Dev.fits (d : Dev) (j : Job) : Bool :=
  let c := j.ctx
  if c.empty then true
  else
    let a (b : Nat) := j.geo.areas.getD b {}
    let need (b : Nat) := j.geo.delay.getD b 0 + 64 + j.geo.stopGuard + j.geo.res
    let n := c.bars.length * c.storedLines
    j.uses.all (fun x => x.1 + x.2 ≤ d.jobCap && !d.meetsSpare x.1 x.2) &&
      (if c.rep then
        if c.compressed then decide (n * c.worstSlot ≤ j.geo.repSize) && c.bars.all (fun b => c.storedLines ≤ (a b).idxn)
        else decide (n * c.slot ≤ j.geo.repSize)
      else c.bars.all (fun b => need b ≤ j.capacity b * c.perStored && (!c.compressed || c.worstSlot ≤ (a b).size)))

/-! ### Messages in flight (R112) -/

/-- The descriptors in flight of a context's present generation. -/
def Dev.jobDescs (d : Dev) (i : Nat) : List Desc := d.descs.filter (fun x => x.opcode = 1 && x.tag = d.jobTag i)

/-- Lines of a job that a bar still owes after an ABORT: those that were in its spouts then and are neither fired nor in them now (R113). -/
def Dev.owedLines (d : Dev) (i b : Nat) : Nat :=
  let j := d.job i
  match (j.bar b).cutAt with
  | some c => c - Nat.max (j.p0 + (j.bar b).rel) ((d.spouts.filter (fun l => l.bar = b && l.job = i)).foldl (fun n l => Nat.max n (l.line + 1)) 0)
  | none => 0

/-- INFLIGHT of a context (R110, R112): the lines that a stop has sent back to the slices count as held there. -/
def Dev.inflight (d : Dev) (i : Nat) : Nat :=
  (d.jobDescs i).length + ((List.range 8).map (fun b => d.owedLines i b)).sum + ((d.jobDescs i).map (fun x => x.unacked.length)).sum + (d.spouts.filter (fun l => l.job = i)).length +
    (d.ports.map (fun p => (p.recs.filter (fun r => r.job = some i)).length)).sum + (d.vin.strips.filter (fun x => x.job = i)).length

/-- Is a context's index one that drops what arrives for it (R112). -/
def Dev.dropsFor (d : Dev) (i : Nat) : Bool := (d.job i).st = .free || (d.job i).st = .draining

/-- An internal completion arrives for a context: on a FREE or DRAINING index it is dropped and counted (R112). -/
def Dev.completion (d : Dev) (i : Nat) (f : Dev → Dev) : Dev := if d.dropsFor i then d.bump F.SLU_STALE_CNT else f d

/-! ### Records and states -/

/-- A JOB_EVENT record (R100). -/
def Dev.jobEvent (d : Dev) (i status event count line : Nat) : Dev := d.pushJobRec i 2 status event count line

/-- The result of a command (R109). -/
def Dev.jobResult (d : Dev) (i code : Nat) : Dev :=
  ((d.set F.SLU_JOB_RESULT_DONE 1).set F.SLU_JOB_RESULT_CODE code).set F.SLU_JOB_RESULT_TAG (d.jobTag i)

/-- What follows when a context leaves RUNNING (R212, R404): its ranges close, DRV_NOT_READY is looked at, and its bars
send tickle records until they fire again (R222). -/
def Dev.leaveRunning (d : Dev) (i : Nat) : Dev :=
  let d := ((d.job i).ctx.bars.filter (fun b => !d.running.any (fun e => e.2.hasBar b))).foldl (fun (d : Dev) b =>
    { d with fire := { d.fire with bars := setAt d.fire.bars b (fun x => { x with firing := false }) } }) d
  (d.closeRanges i (fun _ => true)).drvWatch

/-- The index becomes FREE: its areas are given up; its fields stay readable (R112, R121). -/
def Dev.freeJob (d : Dev) (i : Nat) : Dev := d.modJob i (fun j => { gen := j.gen, ctx := j.ctx, prints := j.prints, defects := j.defects })

/-- START_LINE − 1 − D (R111, R466). -/
def Dev.startDue (d : Dev) (c : JobCtx) : Int := d.lineNear c.startLine - 1 - c.depth

/-- H_0 + 1 + D (R111). -/
def Dev.startLine (d : Dev) (c : JobCtx) : Nat := (d.horizon + 1).toNat + c.depth

/-! ### RUNNING (R111, R164, R205, R207, R338) -/

/-- The flight time of a head in ns (R204). -/
def flightNs (gap vel vtrim : Nat) : Nat := roundDiv (gap * 1000000 * 32768 : Nat) (Nat.max 1 (vel * vtrim) : Nat) |>.toNat

/-- The slot whose registers serve a slot: the even slot of a trellis pair (R204). -/
def Dev.geomSlot (d : Dev) (b s : Nat) : Nat := if s % 2 = 1 && (d.hentry b s).pair then s - 1 else s

/-- What a bar latches for screening (R164). -/
def Dev.latchScreen (d : Dev) (c : JobCtx) (b : Nat) : DecLatch :=
  let vol := if c.dropMode = 0 then [0, d.get F.DEC_B_VOL2_1 b, d.get F.DEC_B_VOL2_2 b, 65535]
    else [0, d.get F.DEC_B_VOL3_1 b, d.get F.DEC_B_VOL3_2 b, d.get F.DEC_B_VOL3_3 b, d.get F.DEC_B_VOL3_4 b, d.get F.DEC_B_VOL3_5 b,
          d.get F.DEC_B_VOL3_6 b, 65535]
  { wErr := d.get F.DEC_B_SCR_W_ERR b, xoff := d.get F.DEC_B_SCR_XOFF b, yoff := d.get F.DEC_B_SCR_YOFF b, w1 := d.get F.DEC_B_NOZOUT_W1 b,
    w2 := d.get F.DEC_B_NOZOUT_W2 b, linear := d.flag F.DEC_B_UPS_LINEAR b, vol,
    ramp := d.bar2.filter (fun e => 0x610000 + 0x100 * b ≤ e.1 && e.1 < 0x610100 + 0x100 * b),
    dither := d.bar2.filter (fun e => 0x611000 ≤ e.1 && e.1 < 0x612000) }

/-- LINK_h in ns, rounded up, of a port for R207. -/
def Dev.linkNs (d : Dev) (p : Nat) : Nat := cdiv (d.get F.HLK_LINK p) 256

/-- NEED_h of a port for a job's records (R207, R252). -/
def Dev.needOf (d : Dev) (v : List Nat) (mode p : Nat) : Nat :=
  tSend (fireWords mode (waveLen v)) (laneMb (d.groups.getD (groupOf p) {}).rate) + d.linkNs p + wavePrep v + 1000

/-- What the heads of a bar latch (R205, R207). -/
def Dev.latchHeads (d : Dev) (c : JobCtx) (b : Nat) : List HeadLatch :=
  let v := d.wave c.waveSet
  (List.range 24).map (fun s =>
    let q := d.geomSlot b s
    let e := d.hentry b s
    let gap := d.get F.FIRE_B_S_GEOM_GAP b q
    let vtrim := d.get F.FIRE_B_S_TRIM_VTRIM b q
    { gap, vtrim, rowOfs := d.get F.FIRE_B_S_TRIM_ROW_OFS b q, flight := flightNs gap (waveVel v) vtrim,
      need := if e.valid then d.needOf v c.dropMode e.port else 0 })

/-- NEED_b: the largest NEED_h of the bar's heads (R207). -/
def needBar (hs : List HeadLatch) : Nat := (hs.map (fun h => h.need)).foldl Nat.max 0

/-- The strip settings that a job latches, or none where it places no strip (R338, R340). -/
def Dev.latchStrip (d : Dev) (c : JobCtx) : Option StripPlan :=
  if !d.flag F.VIN_CTRL_ENABLE || c.stripPitch = 0 || c.stripMode = 0 || c.barMask = 0 then none
  else
    let n := d.get F.VIN_NLEV
    let s : StripPlan := { mode := c.stripMode, pitch := c.stripPitch, lead := d.get F.VIN_STRIP_LEAD, patch := d.get F.VIN_STRIP_PATCH_LINES,
                           check := d.get F.VIN_STRIP_CHECK_LINES, stride := d.get F.VIN_STRIP_STRIDE,
                           chkLevel := Nat.min (topLevel c.dropMode) (d.get F.VIN_STRIP_CHK_LEVEL),
                           levels := (List.range n).map (fun i => bits (d.get F.VIN_LEV) (8 * i) 8) }
    some s

/-- A non-empty job becomes RUNNING at a press line: latches, segment, strips, the RUNNING record, and what then holds of the bars (R111, R178). -/
def Dev.runJob (d : Dev) (i line : Nat) (late claimed : Bool) : Dev :=
  let before := d
  let c := (d.job i).ctx
  let strip := d.latchStrip c
  let noRoom := match strip with | some s => s.mode = 1 && c.gapLines < s.size c.bars.length | none => false
  let bars := ((d.job i).bars.zipIdx).map (fun e =>
    if bit c.barMask e.2 then { e.1 with rd := 0, rel := 0, seen := 0, cache := none, dec := d.latchScreen c e.2, heads := d.latchHeads c e.2 } else e.1)
  let d := d.addSegment line (if c.lpi1200 then 1 else 2)
  let d := d.modJob i (fun j => { j with st := .running, p0 := line, bars, startLate := late, claimed := claimed, waiting := false, prints0 := none,
                                         strip := if noRoom then none else strip })
  let tag := d.jobTag i
  let d : Dev := { d with barTags := c.bars.foldl (fun l b => setAt l b (fun _ => tag)) d.barTags }
  let d := c.bars.foldl (fun d b =>
    let d := (List.range 24).foldl (fun d s => d.set F.FIRE_B_S_FLIGHT (((bars.getD b {}).heads.getD s {}).flight) b s) d
    let n := needBar (bars.getD b {}).heads
    { d with fire := { d.fire with bars := setAt d.fire.bars b (fun x => { x with need := n, wave := some c.waveSet }) } }) d
  let d := d.jobEvent i 0 (1 + (if late then 0x100 else 0)) 0 line
  let d := if noRoom then d.report 277 else d
  Dev.watchReserve before (d.adoptAll.drvWatch)

/-- The chain of a job is broken (R114). -/
def Dev.breakChain (d : Dev) (i : Nat) : Dev := d.modJob i (fun j => { j with broken := true, claimWait := false })

/-- The successor of a job is claimed at a press line (R114): it runs there, or an empty one is done there and claims its own successor; an OPEN one or
one whose segment must wait keeps the claim waiting; any other breaks the chain. -/
def Dev.claim (line : Nat) : Nat → Nat → Dev → Dev
  | 0, i, d => d.breakChain i
  | k + 1, i, d =>
    let tag := (d.job i).ctx.nextTag
    let n := tag % 512
    let s := d.job n
    if s.gen ≠ tag / 512 then d.breakChain i
    else
      match s.st with
      | .opened => d.modJob i (fun j => { j with claimWait := true })
      | .armed =>
        if s.ctx.empty then
          let d := d.modJob n (fun j => { j with st := .done, p0 := line, claimed := true, waiting := false })
          let d := d.modJob i (fun j => { j with succ := some n, claimWait := false })
          let d := if s.ctx.chain then Dev.claim line k n d else d
          (d.jobEvent n 10 (2 + (if (d.job n).broken then 0x200 else 0)) 0 line).adoptAll
        else if d.segmentWaits line (if s.ctx.lpi1200 then 1 else 2) then d.modJob i (fun j => { j with claimWait := true })
        else (d.modJob i (fun j => { j with succ := some n, claimWait := false })).runJob n line false true
      | _ => d.breakChain i

/-- A job starts at a press line: RUNNING, or DONE at once when it is empty, or it waits for a segment (R111, R178). -/
def Dev.startJob (d : Dev) (i line : Nat) (late : Bool) : Dev :=
  let c := (d.job i).ctx
  if c.empty then
    let d := d.modJob i (fun j => { j with st := .done, p0 := line, waiting := false })
    let d := if c.chain then Dev.claim line 512 i d else d
    (d.jobEvent i 10 (2 + (if (d.job i).broken then 0x200 else 0)) 0 line).adoptAll
  else if d.segmentWaits line (if c.lpi1200 then 1 else 2) then d.modJob i (fun j => { j with waiting := true, startLate := late })
  else d.runJob i line late false

/-- Has the horizon of a RUNNING job's claim bar passed its last line and gap (R114, R131). -/
def Dev.claimDue (d : Dev) (i : Nat) : Bool :=
  let j := d.job i
  j.st = .running && j.ctx.chain && !j.broken && j.succ.isNone &&
    (match j.endLine with | some e => decide (e < j.p0 + (j.bar j.ctx.claimBar).rd + j.geo.stopGuard) | none => false)

/-- A waiting claim of a predecessor is tried again: its line is the predecessor's end, or the line of an empty one (R114). -/
def Dev.retryClaims (d : Dev) (p : Nat → Job → Bool) : Dev :=
  let before := d
  let d := ((d.jobs.filter (fun e => e.2.claimWait && p e.1 e.2)).map (·.1)).foldl (fun d i =>
    match (d.job i).endLine with | some e => Dev.claim e 512 i d | none => d) d
  Dev.watchReserve before d

/-! ### The cellar book's SRAM (R302, R313) -/

/-- The context's words are written to the cellar book; an armed flip may corrupt the first. -/
def Dev.writeBook (d : Dev) (i : Nat) : Dev :=
  ((d.job i).ctx.words.zipIdx).foldl (fun d e => if e.2 < 12 then d.sramWrite 0x12 (16 * i + e.2) e.1 else d) d

/-- The context is read from the cellar book: corrected, or with a lost word as zero. -/
def Dev.readBook (d : Dev) (i : Nat) : Dev :=
  let ws := (d.job i).ctx.words
  let bad := d.ecc.sram.filter (fun b => b.array = 0x12 && b.index / 16 = i && b.index % 16 < 12)
  if bad.isEmpty then d
  else
    let r := bad.foldl (fun (e : List Nat × Dev) b =>
      let v := e.2.sramRead 0x12 b.index (ws.getD (b.index % 16) 0)
      (setAt e.1 (b.index % 16) (fun _ => v.1), v.2.2)) (ws, d)
    r.2.modJob i (fun j => { j with ctx := ctxOfWords (fun k => r.1.getD k 0) })

/-! ### Commands (R107 to R113, R472) -/

/-- The context that SLU_JOB_IDX selects. -/
def Dev.selected (d : Dev) : Nat := d.get F.SLU_JOB_IDX

/-- The staged context. -/
def Dev.stagedCtx (d : Dev) : JobCtx := ctxOfWords (fun k => d.get F.SLU_JOB_W k)

/-- OPEN (R111, R119, R123). -/
def Dev.jobOpen (d : Dev) : Dev :=
  let i := d.selected
  let j := d.job i
  match j.st with
  | .draining => d.jobResult i 3
  | .free =>
    let c := d.stagedCtx
    let j' : Job := { st := .opened, gen := (j.gen + 1) % 128, ctx := c, geo := d.geometry c, bars := List.replicate 8 {} }
    if d.areaTaken i j' || !d.fits j' then d.jobResult i 2
    else (d.setJob i j').writeBook i |>.jobResult i 0
  | _ => d.jobResult i 1

/-- The values that place a job's stored lines (R472). -/
def Job.placing (j : Job) : List Nat × List (Nat × Nat) :=
  let c := j.ctx
  ([c.format, b2n c.lpi1200, b2n c.compressed, b2n c.rep, c.barMask, c.width, c.layout] ++ (if c.rep then [] else c.bars.map (fun b => j.capacity b)), j.layoutAreas)

/-- UPDATE (R111, R472). The spec gives no order of the two results where both apply; the model's choice is CAPACITY before BUSY. -/
def Dev.jobUpdate (d : Dev) : Dev :=
  let i := d.selected
  let j := d.job i
  if j.st ≠ .opened then d.jobResult i 1
  else
    let c := d.stagedCtx
    let j' : Job := { j with ctx := c, geo := d.geometry c }
    let keep : Bool := j'.placing = j.placing
    let descs := d.jobDescs i
    let holds := j.bars.any (fun x => !x.stored.isEmpty) || descs.any (fun x => !x.unacked.isEmpty)
    if d.areaTaken i j' || !d.fits j' then d.jobResult i 2
    else if !keep && holds && !descs.isEmpty then d.jobResult i 3
    else (d.setJob i (if keep then j' else { j' with bars := List.replicate 8 {} })).writeBook i |>.jobResult i 0

/-- ARM (R111, R114, R446): a waiting claim is tried again, and a START_AT job whose line has been passed starts at once. -/
def Dev.jobArm (d : Dev) : Dev :=
  let i := d.selected
  if (d.job i).st ≠ .opened then d.jobResult i 1
  else
    let d := (d.leaveSleep.readBook i).modJob i (fun j => { j with st := .armed })
    let tag := d.jobTag i
    let d := d.retryClaims (fun _ j => j.ctx.nextTag = tag)
    let j := d.job i
    let d := if j.st = .armed && j.ctx.startAt && d.startDue j.ctx < d.horizon then d.startJob i (d.startLine j.ctx) true else d
    d.jobResult i 0

/-- START (R111, R446). -/
def Dev.jobStart (d : Dev) : Dev :=
  let i := d.selected
  let j := d.job i
  if j.st ≠ .armed || j.ctx.startAt || j.claimed then d.jobResult i 1
  else
    let d := d.leaveSleep.readBook i
    (d.startJob i (d.startLine (d.job i).ctx) false).jobResult i 0

/-- FINISH: the print that holds the highest line the claim bar has read becomes the last (R111). -/
def Dev.jobFinish (d : Dev) : Dev :=
  let i := d.selected
  let j := d.job i
  if j.st ≠ .running then d.jobResult i 1
  else
    let k := ((j.bar j.ctx.claimBar).seen - 1) / Nat.max 1 j.ctx.period
    let n := Nat.min (k + 1) (match j.prints0 with | some m => m | none => if j.ctx.forever then k + 1 else j.ctx.printCount)
    (Dev.watchReserve d (d.modJob i (fun j => { j with prints0 := some n }))).jobResult i 0

/-- The first press line of a RUNNING job that is not in a bar's spouts (R113). -/
def Dev.cutLine (d : Dev) (i b : Nat) : Nat :=
  let j := d.job i
  let ls := (d.spouts.filter (fun l => l.bar = b && l.job = i)).map (·.line)
  let next : Nat := match (d.posBar b).ticks with | t :: _ => t.line | [] => (d.hwm b + 1).toNat
  if ls.isEmpty then Nat.max j.p0 next else ls.foldl Nat.max 0 + 1

/-- ABORT (R113): every descriptor of the job in flight ends ABORTED; a RUNNING job keeps its spout lines and then owes blank lines to the end of the print in
progress at each bar; a job that has not run has fired nothing, and a claim that waits for it is broken
(R114). -/
def Dev.jobAbort (d : Dev) : Dev :=
  let i := d.selected
  let j := d.job i
  let tag := d.jobTag i
  let ended (d : Dev) : Dev := { d with reads := d.reads.filter (fun r => !d.descs.any (fun x => x.opcode = 1 && x.tag = tag && x.ring = r.ring && x.order = r.order)), descs := d.descs.map (fun x => if x.opcode = 1 && x.tag = tag then { x with status := 8, phase := .ended, got := [] } else x) }
  match j.st with
  | .opened | .armed =>
    (((((ended d).modJob i (fun j => { j with st := .aborted, waiting := false })).jobEvent i 8 2 0 0).retryClaims (fun _ j => j.ctx.nextTag = tag))).jobResult i 0
  | .running =>
    let d := ended d
    let cut (b : Nat) := d.cutLine i b
    let d := j.ctx.bars.foldl (fun d b =>
      let c := cut b
      let k := (c - j.p0) / Nat.max 1 j.ctx.period
      let last := j.p0 + (k + 1) * j.ctx.period - 1
      let past := match j.length with | some m => decide (j.p0 + m ≤ c) | none => false
      let x : Blank := { job := i, gen := j.gen, first := c, last, ctx := j.ctx, geo := j.geo, heads := (j.bar b).heads }
      let d := d.modBarJob i b (fun y => { y with cutAt := some c })
      if past then d else { d with fire := { d.fire with bars := setAt d.fire.bars b (fun y => { y with blanks := y.blanks ++ [x] }) } }) d
    let d := d.modJob i (fun j => { j with st := .aborted, claimWait := false })
    (Dev.watchReserve d ((d.leaveRunning i).lampsHold j.ctx.barMask j.ctx.width)).jobResult i 0
  | _ => d.jobResult i 1

/-- The record of an aborted job falls due once every bar has fired or dropped what was in its spouts at ABORT (R113). Its LINE is the last press line fired with the
job's raster. -/
def Dev.abortRecord (d : Dev) (i : Nat) : Dev :=
  let j := d.job i
  let cuts := j.ctx.bars.filter (fun b => (j.bar b).cutAt.isSome)
  if (j.st = .aborted || j.st = .draining) && !cuts.isEmpty &&
      cuts.all (fun b => match (j.bar b).cutAt with | some c => decide (c ≤ j.p0 + (j.bar b).rel) | none => true) then
    let line := (j.ctx.bars.filterMap (fun b => (j.bar b).lastFired)).foldl Nat.max 0
    ((d.closeRanges i (fun _ => true)).jobEvent i 8 2 j.prints line).modJob i (fun j => { j with bars := j.bars.map (fun x => { x with cutAt := none }) })
  else d

/-- RELEASE (R111). -/
def Dev.jobRelease (d : Dev) : Dev :=
  let i := d.selected
  match (d.job i).st with
  | .done | .aborted => (if d.inflight i = 0 then (d.abortRecord i).freeJob i else d.modJob i (fun j => { j with st := .draining })).jobResult i 0
  | _ => d.jobResult i 1

/-- READ (R111). -/
def Dev.jobRead (d : Dev) : Dev :=
  let i := d.selected
  let d := d.readBook i
  (((d.job i).ctx.words.zipIdx).foldl (fun d e => d.set F.SLU_JOB_W e.1 e.2) d).jobResult i 0

/-- Job sequencing runs on the cellar processor (R441). -/
def Dev.sequenced (d : Dev) (f : Dev → Dev) : Dev := if d.procOn then f d else d

/-- A write of SLU_JOB_CMD (R108): it clears DONE of the last command (R109). -/
def State.jobCmd (s : State) (rq : Requester) (cmd : Instr) (f : Dev → Dev) : State :=
  s.roleWrite rq cmd 0x10054 none (fun d => d.word 0x10054) (fun d => (d.set F.SLU_JOB_RESULT_DONE 0).sequenced f)

def execJobOpen (rq : Requester) (s : State) : Host.Outcome State Fault Refusal := .next (s.jobCmd rq (.jobOpen rq) Dev.jobOpen)
def execJobUpdate (rq : Requester) (s : State) : Host.Outcome State Fault Refusal := .next (s.jobCmd rq (.jobUpdate rq) Dev.jobUpdate)
def execJobArm (rq : Requester) (s : State) : Host.Outcome State Fault Refusal := .next (s.jobCmd rq (.jobArm rq) Dev.jobArm)
def execJobStart (rq : Requester) (s : State) : Host.Outcome State Fault Refusal := .next (s.jobCmd rq (.jobStart rq) Dev.jobStart)
def execJobFinish (rq : Requester) (s : State) : Host.Outcome State Fault Refusal := .next (s.jobCmd rq (.jobFinish rq) Dev.jobFinish)
def execJobAbort (rq : Requester) (s : State) : Host.Outcome State Fault Refusal := .next (s.jobCmd rq (.jobAbort rq) Dev.jobAbort)
def execJobRelease (rq : Requester) (s : State) : Host.Outcome State Fault Refusal := .next (s.jobCmd rq (.jobRelease rq) Dev.jobRelease)
def execJobRead (rq : Requester) (s : State) : Host.Outcome State Fault Refusal := .next (s.jobCmd rq (.jobRead rq) Dev.jobRead)

/-- An OP that R108 does not list gives BAD_OP and does nothing. -/
def execJobBadOp (rq : Requester) (op : BitVec 4) (s : State) : Host.Outcome State Fault Refusal :=
  .next (s.jobCmd rq (.jobBadOp rq op) (fun d => d.jobResult d.selected 4))

/-! ### Events of the cellar book -/

/-- JOB_START_AT: H_0 has reached START_LINE − 1 − D (R111). -/
def execJobStartAt (i : JobIdx) (s : State) : Host.Outcome State Fault Refusal :=
  .next (s.onDev (fun d => d.sequenced (fun d =>
    let j := d.job i.val
    if j.st = .armed && j.ctx.startAt && !j.waiting && d.startDue j.ctx ≤ d.horizon then
      if d.lineNear j.ctx.startLine ≤ d.horizon then d.startJob i.val (d.startLine j.ctx) true else d.startJob i.val (d.lineNear j.ctx.startLine).toNat false
    else d)))

/-- SEGMENT_END: starts and claims that waited for a segment are made (R178). A START_AT job takes its START_LINE only while that lies beyond the look-ahead;
later it starts as for START, with START_LATE. -/
def execSegmentEnd (s : State) : Host.Outcome State Fault Refusal :=
  .next (s.onDev (fun d => d.sequenced (fun d =>
    let waits := (d.jobs.filter (fun e => e.2.st = .armed && e.2.waiting)).map (·.1)
    let d := waits.foldl (fun d i =>
      let j := d.job i
      if j.ctx.startAt && d.horizon ≤ d.startDue j.ctx && !j.startLate then d.startJob i (d.lineNear j.ctx.startLine).toNat false
      else d.startJob i (d.startLine j.ctx) (j.startLate || j.ctx.startAt)) d
    d.retryClaims (fun _ _ => true))))

/-- CHAIN_CLAIM (R114). -/
def execChainClaim (i : JobIdx) (s : State) : Host.Outcome State Fault Refusal :=
  .next (s.onDev (fun d => d.sequenced (fun d =>
    if d.claimDue i.val && !(d.job i.val).claimWait then
      match (d.job i.val).endLine with
      | some e => Dev.watchReserve d (Dev.claim e 512 i.val d)
      | none => d
    else d)))

/-- JOB_ABORT_DONE: every bar has fired or dropped what was in its spouts at ABORT (R113). -/
def execJobAbortDone (i : JobIdx) (s : State) : Host.Outcome State Fault Refusal := .next (s.onDev (fun d => d.abortRecord i.val))

/-- JOB_DRAIN_END (R111). -/
def execJobDrainEnd (i : JobIdx) (s : State) : Host.Outcome State Fault Refusal :=
  .next (s.onDev (fun d => if (d.job i.val).st = .draining && d.inflight i.val = 0 then (d.abortRecord i.val).freeJob i.val else d))

end Sys2Proof.Machine
end

