-- ==== Sys2Proof/Machine/Sluice.lean ====
section
/-! DEFINITION. The sluice: rings, descriptors, raster intake and completion records (file 03, R80 to R101; file 04, R124 to R126, R134 to R136). -/

namespace Sys2Proof.Machine

/-- A ring's state beside its registers. -/
def Dev.ring (d : Dev) (r : Nat) : RingSt := d.rings.getD r {}

/-- The device with a ring changed. -/
def Dev.modRing (d : Dev) (r : Nat) (f : RingSt → RingSt) : Dev := { d with rings := setAt d.rings r f }

/-- The descriptors of a ring in flight. -/
def Dev.ringDescs (d : Dev) (r : Nat) : List Desc := d.descs.filter (fun x => x.ring = r)

/-! ### Rings (R84 to R90) -/

/-- The transition of ENABLE from 0 to 1 takes effect (R84). An interrupt that is pending stays so (R86). -/
def Dev.ringStart (d : Dev) (r : Nat) : Dev :=
  let d := [F.SLU_R_SQ_HEAD, F.SLU_R_SQ_TAIL, F.SLU_R_CQ_TAIL_INDEX, F.SLU_R_CQ_HEAD, F.SLU_R_STAT_DRAINING].foldl (fun d f => d.set f 0 r) d
  let d := (d.set F.SLU_R_CQ_TAIL_PHASE 1 r).set F.SLU_R_STAT_ACTIVE 1 r
  d.modRing r (fun g => { g with active := true, draining := false, sqBase := d.get F.SLU_R_SQ_BASE r * 4096, sqN := d.get F.SLU_R_SQ_CFG_ENTRIES r,
                                 cqBase := d.get F.SLU_R_CQ_BASE r * 4096, cqN := d.get F.SLU_R_CQ_CFG_ENTRIES r })

/-- RING_ENABLE (R84): at once, or when the descriptors of the previous enable have ended. -/
def execRingEnable (rq : Requester) (r : Ring) (s : State) : Host.Outcome State Fault Refusal :=
  .next (s.roleWrite rq (.ringEnable rq r) (0x11008 + 0x1000 * r.val) none (fun d => d.word (0x11008 + 0x1000 * r.val)) (fun d =>
    let r := r.val
    if d.flag F.SLU_R_CTRL_ENABLE r then d
    else
      let d := d.set F.SLU_R_CTRL_ENABLE 1 r
      if (d.ringDescs r).isEmpty then d.ringStart r
      else (d.set F.SLU_R_STAT_DRAINING 1 r).modRing r (fun g => { g with draining := true })))

/-- ENABLE goes to 0: nothing more is fetched (R84), and the stored sizes bound the indexes that software writes (R6, R87). -/
def Dev.ringStop (d : Dev) (r : Nat) : Dev :=
  ((((d.set F.SLU_R_CTRL_ENABLE 0 r).set F.SLU_R_STAT_ACTIVE 0 r).set F.SLU_R_STAT_DRAINING 0 r).modRing r
    (fun g => { g with active := false, draining := false })).normRing r

/-- RING_DISABLE (R84). -/
def execRingDisable (rq : Requester) (r : Ring) (s : State) : Host.Outcome State Fault Refusal :=
  .next (s.roleWrite rq (.ringDisable rq r) (0x11008 + 0x1000 * r.val) none (fun d => d.word (0x11008 + 0x1000 * r.val)) (fun d => d.ringStop r.val))

/-- RING_DRAIN_END (R84). -/
def execRingDrainEnd (r : Ring) (s : State) : Host.Outcome State Fault Refusal :=
  .next (s.onDev (fun d => if (d.ring r.val).draining && (d.ringDescs r.val).isEmpty then d.ringStart r.val else d))

/-- SLU_Rr_CNT.CLEAR (R90). -/
def execRingCountClear (rq : Requester) (r : Ring) (s : State) : Host.Outcome State Fault Refusal :=
  .next (s.row rq (.ringCountClear rq r) (0x11068 + 0x1000 * r.val) (2 ^ 31) ⟨31, none⟩ (fun d =>
    (d.set F.SLU_R_CNT_ERR_CNT 0 r.val).set F.SLU_R_CNT_CQ_LOST 0 r.val))

/-! ### Descriptors (R88, R91, R92) -/

/-- A descriptor from its sixteen words (R91). -/
def descOf (ring slot order : Nat) (w : Nat → Nat) : Desc :=
  let w0 := w 0
  { ring, slot, order, opcode := bits w0 0 8, fence := bit w0 8, irq := bit w0 9, noCpl := bit w0 10, tag := bits w0 16 16, cookie := w 1,
    barMask := bits (w 2) 0 8, first := w 3 + bits (w 4) 0 16 * 2 ^ 32, count := w 5, src := w 6 + w 7 * 2 ^ 32, length := w 8 }

/-- Posted descriptors of a ring that are not yet fetched. -/
def Dev.posted (d : Dev) (r : Nat) : Nat :=
  let n := (d.ring r).sqN
  if n = 0 then 0 else (d.get F.SLU_R_SQ_TAIL r + n - d.get F.SLU_R_SQ_HEAD r) % n

/-- The tags that source reads and descriptor fetches share (R82). -/
def Dev.tagLimit (d : Dev) : Nat := if d.pwr.cfg.tenBitTags then 768 else 256

/-- May the sluice issue a request to host memory: the host can be reached, no fence holds the sluice, and a tag is free (R81, R82, R409). -/
def Dev.canRequest (d : Dev) : Bool := d.hostReach && !d.fenced .sluice && d.reads.length < d.tagLimit

/-- How many descriptors a ring may fetch now (R86, R88): none while it is not active or no request can be issued. -/
def Dev.fetchable (d : Dev) (r : Nat) : Nat :=
  if !(d.ring r).active || !d.canRequest then 0
  else
    Nat.min (Nat.min (d.posted r) (d.get F.SLU_R_SQ_CFG_MAX_INFLIGHT r - (d.ringDescs r).length)) (1024 - d.descs.length)

/-- The ring whose arbitration turn it is: the first after the one served last that may fetch (R88). -/
def Dev.turnOf (d : Dev) : Option Nat := ((List.range 8).map (fun k => (d.turn + 1 + k) % 8)).find? (fun r => d.fetchable r ≠ 0)

/-- A ring takes a descriptor: SQ_HEAD passes its slot. -/
def Dev.takeDesc (d : Dev) (r : Nat) (mk : Nat → Nat → Dev → Desc × Dev) : Dev :=
  let slot := d.get F.SLU_R_SQ_HEAD r
  let m := mk slot (d.ring r).order d
  let d := m.2.set F.SLU_R_SQ_HEAD ((slot + 1) % Nat.max 1 (d.ring r).sqN) r
  ({ d with descs := d.descs ++ [m.1] } : Dev).modRing r (fun g => { g with order := g.order + 1 })

/-- A fetched descriptor is written to the descriptor store and read from it (R297, R302): an armed flip may corrupt its first word. -/
def Dev.storeDesc (d : Dev) (slot : Nat) (ws : List Nat) : List Nat × Dev :=
  if d.flag F.ECC_FLIP_CTRL_ARMED && d.get F.ECC_FLIP_CTRL_TARGET = 0x12 then
    let d := d.sramWrite 0x12 (8192 + 16 * slot) (ws.getD 0 0)
    let v := d.sramRead 0x12 (8192 + 16 * slot) (ws.getD 0 0)
    (setAt ws 0 (fun _ => v.1), v.2.2)
  else (ws, d)

/-- DESCRIPTOR_FETCH: one arbitration turn of a ring fetches up to WEIGHT descriptors (R88); a ring whose turn it is not waits. -/
def execDescriptorFetch (r : Ring) (descs : List (List Word)) (s : State) : Host.Outcome State Fault Refusal :=
  .next (s.onDev (fun d =>
    let r := r.val
    if d.turnOf ≠ some r then d
    else
      let n := Nat.min (d.fetchable r) (2 ^ d.get F.SLU_R_SQ_CFG_WEIGHT r)
      (descs.take n).foldl (fun d ws =>
        d.takeDesc r (fun slot order d =>
          let v := d.storeDesc slot (ws.map (·.toNat))
          (descOf r slot order (fun k => v.1.getD k 0), v.2))) { d with turn := r }))

/-- DESCRIPTOR_FETCH_ERROR: the slot is consumed, a record with STATUS PCIE_ERR falls due and PCIE_RASTER_ERR is reported (R93). -/
def execDescriptorFetchError (r : Ring) (s : State) : Host.Outcome State Fault Refusal :=
  .next (s.onDev (fun d =>
    let r := r.val
    if d.turnOf ≠ some r then d
    else
      (({ d with turn := r } : Dev).takeDesc r (fun slot order d =>
        ({ descOf r slot order (fun _ => 0) with opcode := 2, phase := .ended, status := 7 }, d))).report 90))

/-- The device with the earliest descriptor of a ring and slot that meets a condition changed. -/
def Dev.onDesc (d : Dev) (r slot : Nat) (p : Desc → Bool) (f : Desc → Dev → Desc × Dev) : Dev :=
  match d.descs.findIdx? (fun x => x.ring = r && x.slot = slot && p x) with
  | some k =>
    match d.descs[k]? with
    | some x =>
      let y := f x d
      { y.2 with descs := setAt y.2.descs k (fun _ => y.1) }
    | none => d
  | none => d

/-- DESC_NOP: nothing is done (R91). -/
def execDescNop (r : Ring) (slot : Nat) (s : State) : Host.Outcome State Fault Refusal :=
  .next (s.onDev (fun d => d.onDesc r.val slot (fun x => x.phase = .fetched && x.opcode = 0) (fun x d => ({ x with phase := .ended }, d))))

/-- The context index and generation of a tag (R102). -/
def tagIndex (t : Nat) : Nat := t % 512

/-- Stored lines of a descriptor's range (R96). -/
def Desc.lines (x : Desc) (c : JobCtx) : Nat := x.count / c.perStored

/-- Bar-lines that a descriptor's source carries. -/
def Desc.total (x : Desc) (c : JobCtx) : Nat := x.lines c * (barsOf x.barMask).length

/-- The checks of R92 in order: the STATUS of the first that fails. -/
def Dev.checkDesc (d : Dev) (x : Desc) : Nat :=
  let j := d.job (tagIndex x.tag)
  let c := j.ctx
  if j.gen ≠ x.tag / 512 || j.st = .free || j.st = .draining then 1
  else if j.st ≠ .opened && j.st ≠ .armed && j.st ≠ .running then 2
  else if x.length = 0 || x.count = 0 || x.barMask = 0 then 0
  else if x.src % 64 ≠ 0 || (c.perStored = 2 && (x.first % 2 ≠ 0 || x.count % 2 ≠ 0)) then 5
  else if c.lineCount < x.first + x.count || x.barMask &&& c.barMask ≠ x.barMask then 3
  else if !c.compressed && x.length ≠ x.total c * c.slot then 4
  else 0

/-! ### Source reads (R82, R125, R132) -/

/-- The bar and stored line of the bar-line at a place in a descriptor's source (R94, R96). -/
def Desc.place (x : Desc) (c : JobCtx) (k : Nat) : Nat × Nat :=
  let bars := barsOf x.barMask
  (bars.getD (k % Nat.max 1 bars.length) 0, x.first / c.perStored + k / Nat.max 1 bars.length)

/-- May a bar-line be read from the source: it is refused as LATE, or its ring has room and the throttle does not hold it back (R93, R125, R132). -/
def Dev.maySource (d : Dev) (j : Job) (b s : Nat) : Bool := j.past b s || (j.room b s && !d.defers j s)

/-- The first place at or after k whose bar-line may not be read yet, or the place after the last. -/
def Dev.heldPlace (d : Dev) (j : Job) (x : Desc) : Nat → Nat → Nat
  | 0, k => k
  | n + 1, k => if d.maySource j (x.place j.ctx k).1 (x.place j.ctx k).2 then d.heldPlace j x n (k + 1) else k

/-- The source bytes that a descriptor may ask for now. Of a coded bar-line the header comes first, then the rest once it is known to fit (R125, R134). -/
def Dev.sourceLimit (d : Dev) (x : Desc) : Nat :=
  let j := d.job (x.tag % 512)
  let c := j.ctx
  if !c.compressed then Nat.min x.length (d.heldPlace j x (x.total c - x.taken) x.taken * c.slot)
  else
    let p := x.place c x.taken
    if x.total c ≤ x.taken || !d.maySource j p.1 p.2 then x.consumed
    else if x.got.length < 4 then Nat.min x.length (x.consumed + 4)
    else
      let n := bits (ofBytesLE (x.got.take 4)) 0 24
      if c.rep || j.past p.1 p.2 || ((j.bar p.1).place (j.geo.areas.getD p.1 {}).size (pad64 n)).isSome then Nat.min x.length (x.consumed + n) else x.consumed

/-- Bytes of a source read: RD_SIZE, never more than Max Read Request Size (R82, R83). -/
def Dev.readSize (d : Dev) : Nat := Nat.min (256 * 2 ^ d.get F.SLU_FETCH_RD_SIZE) (128 * 2 ^ d.pwr.cfg.maxRead)

/-- The lowest tag not in use. -/
def freeTag (reads : List SrcRead) : Nat := ((List.range (reads.length + 1)).find? (fun t => !reads.any (fun r => r.tag = t))).getD 0

/-- A descriptor in its place in the list asks for its source, request after request, while tags are free. A request crosses no 4 KiB boundary, as PCIe has it. -/
def Dev.askFor (d : Dev) (k : Nat) : Nat → Dev
  | 0 => d
  | n + 1 =>
    match d.descs[k]? with
    | some x =>
      let limit := d.sourceLimit x
      if x.phase ≠ .moving || limit ≤ x.asked || !d.canRequest then d
      else
        let a := x.src + x.asked
        let most := if (d.job (x.tag % 512)).ctx.compressed then x.length - x.asked else limit - x.asked
        let len := Nat.min (Nat.min d.readSize most) (4096 - a % 4096)
        let t := freeTag d.reads
        let e : Dev := { d with reads := d.reads ++ [⟨t, x.ring, x.slot, x.order, x.asked + len⟩],
                                descs := setAt d.descs k (fun x => { x with asked := x.asked + len }) }
        (e.emit (.sourceRead t a len)).askFor k n
    | none => d

/-- The tags of descriptors that move no more are free again. -/
def Dev.freeTags (d : Dev) : Dev :=
  { d with reads := d.reads.filter (fun r => d.descs.any (fun x => x.ring = r.ring && x.order = r.order && x.phase = .moving)) }

/-- A moving descriptor with nothing asked for and nothing more to ask for waits for room. -/
def Dev.parkDesc (d : Dev) (x : Desc) : Desc :=
  if x.phase = .moving && d.sourceLimit x ≤ x.asked && x.asked < x.length && !d.reads.any (fun r => r.ring = x.ring && r.order = x.order) then
    { x with phase := .room } else x

/-- Source reads are issued for the moving descriptors in the order of their fetch (R82); those that can ask for nothing wait for room (R125). -/
def Dev.pump (d : Dev) : Dev :=
  let d := d.freeTags
  let d := (List.range d.descs.length).foldl (fun d k => d.askFor k (d.tagLimit - d.reads.length)) d
  { d with descs := d.descs.map d.parkDesc }

/-- DESC_RASTER (R92, R112): an opcode that R91 does not list is BAD_DESC; a descriptor that needs DRAM leaves sleep, and waits until DRAM is filled (R299). -/
def execDescRaster (r : Ring) (slot : Nat) (s : State) : Host.Outcome State Fault Refusal :=
  .next (s.onDev (fun d =>
    (d.onDesc r.val slot (fun x => x.phase = .fetched && x.opcode ≠ 0) (fun x d =>
      if x.opcode ≠ 1 then ({ x with phase := .ended, status := 5 }, d)
      else
        let st := d.checkDesc x
        if st ≠ 0 then ({ x with phase := .ended, status := st }, if st = 1 then d.bump F.SLU_STALE_CNT else d)
        else if x.length = 0 || x.count = 0 || x.barMask = 0 then ({ x with phase := .ended }, d)
        else
          let d := d.leaveSleep
          if d.dramReady then ({ x with phase := .moving }, d) else (x, d))).pump))

/-! ### Raster (R93 to R99, R124, R134 to R136) -/

/-- A number rounded up to a multiple of 4. -/
def pad4 (n : Nat) : Nat := cdiv n 4 * 4

/-- A stored bar-line waits for DRAM's acknowledgement, and is kept until the descriptor completes. -/
def Desc.wrote (x : Desc) (b s addr size bytes offset : Nat) (data : List Nat) : Desc :=
  { x with unacked := x.unacked ++ [⟨b, s, addr, size⟩], stored := x.stored + bytes, kept := x.kept ++ [{ bar := b, line := s, addr, bytes := data, offset }] }

/-- The source bytes of one bar-line are used up. -/
def Desc.used (x : Desc) (n : Nat) : Desc := { x with got := x.got.drop n, consumed := x.consumed + n, taken := x.taken + 1 }

/-- A failure of a kind is the first to arise (R93). -/
def Desc.failed (x : Desc) (status : Nat) : Desc := { x with status := if x.status = 0 then status else x.status }

/-- Another descriptor writes a bar-line of a job: those in flight that stored it before are overwritten (R94). -/
def Dev.overwrite (d : Dev) (tag b s : Nat) : Dev :=
  { d with descs := d.descs.map (fun x =>
      if x.opcode = 1 && x.tag = tag then { x with kept := x.kept.map (fun k => if k.bar = b && k.line = s then { k with beaten := true } else k) } else x) }

/-- The next uncompressed bar-line is stored, refused as LATE, or waits for room; none when it is not yet received. -/
def Dev.takePlain (d : Dev) (i : Nat) (x : Desc) : Option (Desc × Dev) :=
  let j := d.job i
  let c := j.ctx
  let p := x.place c x.taken
  if x.got.length < c.slot then none
  else if j.past p.1 p.2 then some ((x.used c.slot).failed 6, d)
  else if !j.room p.1 p.2 then some ({ x with phase := .room }, d)
  else
    let a := j.slotAddr p.1 p.2
    let bs := x.got.take c.rawSize
    some ((x.used c.slot).wrote p.1 p.2 a c.slot c.slot 0 bs, (d.overwrite x.tag p.1 p.2).dramWrite a bs)

/-- Is a descriptor still in flight. -/
def Dev.inFlight (d : Dev) (ring order : Nat) : Bool := d.descs.any (fun x => x.ring = ring && x.order = order)

/-- A coded bar-line of n bytes at the front of the source is refused as LATE, waits for room, or is stored with its index entry; it uses up `step` source
bytes (R134 to R136). The space of an earlier copy is given up, but for one whose descriptor is still in flight (R94). -/
def Dev.storeCoded (d : Dev) (i : Nat) (x : Desc) (b s n step : Nat) : Desc × Dev :=
  let j := d.job i
  let c := j.ctx
  let area := j.geo.areas.getD b {}
  if j.past b s then ((x.used step).failed 6, d)
  else
    match (if c.rep then some 0 else if j.room b s then (j.bar b).place area.size (pad64 n) else none) with
    | none => ({ x with phase := .room }, d)
    | some o =>
      let a := if c.rep then j.codedAddr b s else area.base + o
      let off := if c.rep then (a - j.geo.repBase) / 64 else o / 64
      let bs := x.got.take n
      let d := ((d.overwrite x.tag b s).dramWrite a bs).dramWrite (j.indexAddr b s) (bytesLE 4 off ++ bytesLE 4 n)
      let put (y : BarJob) : BarJob :=
        { y with coded := (y.coded.map (fun (e : Coded) => if e.line = s && !d.inFlight e.ring e.order then { e with released := true } else e)) ++
                   [⟨s, o, pad64 n, n, x.ring, x.order, false⟩],
                 allocAt := o + pad64 n }
      ((x.used step).wrote b s a n n off bs, if c.rep then d else d.modBarJob i b (fun y => (put y).reclaim))

/-- The next coded bar-line is checked and stored (R97, R99); the last must end exactly at LENGTH (R93). None when it is not yet received. -/
def Dev.takeCoded (d : Dev) (i : Nat) (x : Desc) : Option (Desc × Dev) :=
  let c := (d.job i).ctx
  let p := x.place c x.taken
  let last := x.taken + 1 = x.total c
  if x.got.length < 4 then none
  else
    let h := ofBytesLE (x.got.take 4)
    let n := bits h 0 24
    if bits h 28 4 ≠ 1 || n < 4 || 4 + c.rawSize + cdiv c.rawSize 64 < n then some ({ x.failed 9 with phase := .ended, got := [] }, d)
    else if x.got.length < (if last then n else Nat.min (pad4 n) (Nat.max n (x.length - x.consumed))) then none
    else
      let wrong := last && x.consumed + n ≠ x.length
      let r := d.storeCoded i x p.1 p.2 n (if last then n else pad4 n)
      some (if wrong && r.1.phase = .moving then ({ r.1.failed 9 with phase := .ended, got := [] }, r.2) else r)

/-- Bar-lines received in full are taken one after the other, until one is incomplete or waits, or the range is done (R94, R125). -/
def Dev.takeLines (i : Nat) : Nat → Desc → Dev → Desc × Dev
  | 0, x, d => (x, d)
  | k + 1, x, d =>
    let c := (d.job i).ctx
    if x.phase ≠ .moving then (x, d)
    else if x.total c ≤ x.taken then ({ x with phase := .ended, got := [] }, d)
    else
      match (if c.compressed then d.takeCoded i x else d.takePlain i x) with
      | some (y, d) => Dev.takeLines i k y d
      | none => if x.consumed + x.got.length < x.length then (x, d) else ({ x.failed 9 with phase := .ended, got := [] }, d)

/-- What a descriptor does with what arrives for it: on a FREE or DRAINING index it ends as STALE (R112). -/
def Dev.arrive (x : Desc) (d : Dev) (f : Desc → Dev → Desc × Dev) : Desc × Dev :=
  if d.dropsFor (tagIndex x.tag) then ({ x.failed 1 with phase := .ended, got := [] }, d.bump F.SLU_STALE_CNT) else f x d

/-- A descriptor takes what it has received. -/
def Dev.takeAll (x : Desc) (d : Dev) : Desc × Dev := Dev.takeLines (tagIndex x.tag) (x.total (d.job (tagIndex x.tag)).ctx + 2) x d

/-- The reads of a descriptor whose bytes have arrived give their tags back. -/
def Dev.answered (d : Dev) (ring order upto : Nat) : Dev :=
  { d with reads := d.reads.filter (fun r => !(r.ring = ring && r.order = order && r.upto ≤ upto)) }

/-- Does a descriptor await a completion. -/
def Dev.awaits (d : Dev) (x : Desc) : Bool := x.phase = .moving && d.reads.any (fun r => r.ring = x.ring && r.order = x.order)

/-- RASTER_READ_COMPLETION: source bytes in the order in which they were asked for, or a poisoned or unsuccessful completion (R93, R94). -/
def execRasterReadCompletion (r : Ring) (slot : Nat) (ok : Bool) (data : List Byte) (s : State) : Host.Outcome State Fault Refusal :=
  .next (s.onDev (fun d =>
    let e := d.onDesc r.val slot d.awaits (fun x d => Dev.arrive x d (fun x d =>
      if ok then
        let x := { x with got := (x.got ++ data.map (·.toNat)).take (x.asked - x.consumed) }
        Dev.takeAll x (d.answered x.ring x.order (x.consumed + x.got.length))
      else ({ x.failed 7 with phase := .ended, got := [] }, d)))
    (if !ok && e.descs ≠ d.descs then e.report 90 else e).pump))

/-- RASTER_READ_TIMEOUT (R93): a read that was asked for is not answered in time. -/
def execRasterReadTimeout (r : Ring) (slot : Nat) (s : State) : Host.Outcome State Fault Refusal :=
  .next (s.onDev (fun d =>
    let e := d.onDesc r.val slot d.awaits (fun x d => ({ x.failed 7 with phase := .ended, got := [] }, d))
    (if e.descs ≠ d.descs then ({ e with pwr := { e.pwr with cfg := { e.pwr.cfg with aerUncor := e.pwr.cfg.aerUncor ||| 2 ^ 14 } } } : Dev).report 90 else e).pump))

/-- DESCRIPTOR_RESUME: a descriptor that waited for room goes on once its next bar-line has room (R125). -/
def execDescriptorResume (r : Ring) (slot : Nat) (s : State) : Host.Outcome State Fault Refusal :=
  .next (s.onDev (fun d => (d.onDesc r.val slot (fun x => x.phase = .room) (fun x d => Dev.arrive x d (fun x d =>
    Dev.takeAll { x with phase := .moving } d))).pump))

/-- Descriptors that a PCIe reset ended leave once their writes are acknowledged (R81). -/
def Dev.sweep (d : Dev) : Dev := { d with descs := d.descs.filter (fun x => !(x.silent && x.unacked.isEmpty)) }

/-- WRITE_POINTER_ADVANCE: DRAM has acknowledged a bar-line's writes; the stored line counts as stored (R126). -/
def execWritePointerAdvance (i : JobIdx) (b : Bar) (line : Nat) (s : State) : Host.Outcome State Fault Refusal :=
  .next (s.onDev (fun d =>
    let tag := d.jobTag i.val
    let hit (x : Desc) : Bool := x.opcode = 1 && x.tag = tag && x.unacked.any (fun u => u.bar = b.val && u.line = line)
    match d.descs.findIdx? hit with
    | some k =>
      let e : Dev := { d with descs := setAt d.descs k (fun x => { x with unacked := x.unacked.eraseP (fun u => u.bar = b.val && u.line = line) }) }
      let e := e.completion i.val (fun e => e.modBarJob i.val b.val (fun y => { y with stored := insertOnce y.stored line }))
      Dev.watchReserve d e.sweep
    | none => d))

/-! ### Completion records (R86, R89, R95, R100) -/

/-- Has a ring's completion ring a free slot (R89). -/
def Dev.cqFree (d : Dev) (r : Nat) : Bool :=
  let n := (d.ring r).cqN
  n ≠ 0 && (d.get F.SLU_R_CQ_TAIL_INDEX r + 1) % n ≠ d.get F.SLU_R_CQ_HEAD r

/-- The pending interrupt of a ring is sent (R86). -/
def Dev.ringIrq (d : Dev) (r : Nat) : Dev := (d.msixDue (d.get F.SLU_R_CQ_CFG_VECTOR r)).modRing r (fun g => { g with flagged := 0, coalAt := none })

/-- The eight words of a completion record (R100), with the ring that takes it and its phase. -/
def CqRec.words (x : CqRec) (ring phase : Nat) : List Nat :=
  [phase * 2 ^ 31 + x.type * 2 ^ 28 + x.status * 2 ^ 24 + ring * 2 ^ 16 + x.tag, x.cookie, x.event * 2 ^ 16 + x.sqIndex, x.count % 2 ^ 32, x.line % 2 ^ 32,
   x.line / 2 ^ 32 % 2 ^ 16, x.time % 2 ^ 32, x.time / 2 ^ 32 % 2 ^ 32]

/-- A record is written to its slot, and counts toward the interrupt when it is flagged (R86, R89). -/
def Dev.writeCq (d : Dev) (r : Nat) (x : CqRec) : Dev :=
  let g := d.ring r
  let t := d.get F.SLU_R_CQ_TAIL_INDEX r
  let ph := d.get F.SLU_R_CQ_TAIL_PHASE r
  let d := d.emit (.cq r t (g.cqBase + 32 * t) (x.words r ph))
  let t' := if t + 1 < g.cqN then t + 1 else 0
  let d := (d.set F.SLU_R_CQ_TAIL_INDEX t' r).set F.SLU_R_CQ_TAIL_PHASE (if t' = 0 then 1 - ph else ph) r
  if x.irq then
    let d := d.modRing r (fun g => { g with flagged := g.flagged + 1 })
    let cnt := d.get F.SLU_R_CQ_CFG_COAL_CNT r
    let us := d.get F.SLU_R_CQ_CFG_COAL_US r
    if us = 0 || (cnt ≠ 0 && cnt ≤ (d.ring r).flagged) then d.ringIrq r
    else d.modRing r (fun g => { g with coalAt := some (g.coalAt.getD (d.now + us * 1000)) })
  else d

/-- Has a descriptor ended with every write acknowledged and, with FENCE, every earlier one of its ring gone (R95). -/
def Dev.descDone (d : Dev) (x : Desc) : Bool :=
  x.phase = .ended && x.unacked.isEmpty && !x.silent && (!x.fence || (d.ringDescs x.ring).all (fun y => x.order ≤ y.order))

/-- A descriptor's record (R100); of a NOP no job tag and no line is read (R91). -/
def Dev.descRec (d : Dev) (x : Desc) : CqRec :=
  { type := 1, status := x.status, tag := if x.opcode = 0 then 0 else x.tag, cookie := x.cookie, event := 0, sqIndex := x.slot, count := x.stored % 2 ^ 32,
    line := if x.opcode = 0 then 0 else x.first, time := d.T, irq := x.irq }

/-- A descriptor completes: where another in flight has overwritten a bar-line of its, its own content stands, unless the bar has read the line (R94); of a coded
bar-line in a ring the copies that no descriptor in flight owns are given up. -/
def Dev.settleKept (d : Dev) (x : Desc) : Dev :=
  let i := tagIndex x.tag
  x.kept.foldl (fun d k =>
    let j := d.job i
    if j.gen ≠ x.tag / 512 || j.past k.bar k.line || !k.beaten then d
    else
      let d := d.overwrite x.tag k.bar k.line
      if !j.ctx.compressed then d.dramWrite k.addr k.bytes
      else
        let d := (if j.ctx.rep then d.dramWrite k.addr k.bytes else d).dramWrite (j.indexAddr k.bar k.line) (bytesLE 4 k.offset ++ bytesLE 4 k.bytes.length)
        if j.ctx.rep then d
        else d.modBarJob i k.bar (fun y => ({ y with coded := y.coded.map (fun (e : Coded) =>
          if e.line = k.line && !(e.ring = x.ring && e.order = x.order) && !d.inFlight e.ring e.order then { e with released := true } else e) }).reclaim)) d

/-- COMPLETION_RECORD_WRITE: the next record of a ring is written: of a descriptor that is done, or a waiting job record while the ring is active
(R84, R89, R95). One suppressed by NO_CPL needs no slot. R95 allows any order of the descriptors that are done; the model's choice is the earliest fetched. -/
def execCompletionRecordWrite (r : Ring) (s : State) : Host.Outcome State Fault Refusal :=
  .next (s.onDev (fun d =>
    let r := r.val
    if !d.hostReach then d
    else
      match (d.ringDescs r).find? (fun x => d.descDone x && ((x.noCpl && x.status = 0) || d.cqFree r)) with
      | some x =>
        let quiet := x.noCpl && x.status = 0
        let e : Dev := ({ d with descs := d.descs.erase x } : Dev).settleKept x
        let e := if x.status = 0 then e else e.bump F.SLU_R_CNT_ERR_CNT r
        if quiet then e else e.writeCq r (d.descRec x)
      | none =>
        match (d.ring r).jobQ with
        | x :: q => if (d.ring r).active && d.cqFree r then (d.modRing r (fun g => { g with jobQ := q })).writeCq r x else d
        | [] => d))

/-- CQ_COAL_TIMEOUT (R86). -/
def execCqCoalTimeout (r : Ring) (s : State) : Host.Outcome State Fault Refusal :=
  .next (s.onDev (fun d =>
    match (d.ring r.val).coalAt with
    | some t => if t ≤ d.now && (d.ring r.val).flagged ≠ 0 then d.ringIrq r.val else d
    | none => d))

/-! ### Cistern counts and the host window (R129, R137, R138) -/

/-- CIS_Bb_CNT.CLEAR (R129). -/
def execCisternCountClear (rq : Requester) (b : Bar) (s : State) : Host.Outcome State Fault Refusal :=
  .next (s.row rq (.cisternCountClear rq b) (0x20128 + 0x40 * b.val) (2 ^ 31) ⟨31, none⟩ (fun d =>
    (d.set F.CIS_B_CNT_PRED 0 b.val).set F.CIS_B_CNT_STARVED 0 b.val))

/-- The DRAM address of a BAR4 offset (R138). -/
def Dev.window (d : Dev) (off : Nat) : Nat := d.get F.CIS_WIN_BASE * 2 ^ 20 + off

/-- The first address that the window does not serve: the spare area (R307), or the end of the capacity (R138). -/
def Dev.windowEnd (d : Dev) : Nat := if d.get F.ECC_SPARE_SIZE_MIB = 0 then d.capBytes else Nat.min d.capBytes d.spareBase

/-- BAR4_READ (R138, R299, R307, R446): beyond the capacity, in the spare area, and until DRAM is filled, a read returns 0. -/
def execBar4Read (off : BitVec 30) (len : Nat) (s : State) : Host.Outcome State Fault Refusal :=
  .next (s.onDev (fun d =>
    let d := d.leaveSleep
    let a := d.window off.toNat
    if !d.dramReady then d.emit (.bar4 (List.replicate len 0))
    else
      let n := Nat.min len (d.windowEnd - a)
      if n = 0 then d.emit (.bar4 (List.replicate len 0))
      else
        let r := d.dramRead a n 4
        r.2.2.emit (.bar4 (r.1 ++ List.replicate (len - n) 0))))

/-- One word of a BAR4 write: whole, or merged into a word that reads well; a partial write to a lost word is discarded and counted (R303). -/
def Dev.window4 (d : Dev) (a : Nat) (bs : List (Nat × Nat)) : Dev :=
  let mine := bs.filter (fun e => e.1 / 4 * 4 = a)
  if mine.length = 4 then d.dramWriteWord a (ofBytesLE (mine.map (·.2)))
  else
    let l := d.look1 a
    let d := d.noteRead a
    match l.1 with
    | .uncorrectable | .poisoned => d.badAcc
    | _ =>
      let old := bytesLE 4 l.2
      d.dramWriteWord a (ofBytesLE ((List.range 4).map (fun k => ((mine.find? (fun e => e.1 = a + k)).map (·.2)).getD (old.getD k 0))))

/-- BAR4_WRITE (R137, R138, R299, R303). -/
def execBar4Write (off : BitVec 30) (data : List Byte) (s : State) : Host.Outcome State Fault Refusal :=
  .next (s.onDev (fun d =>
    if !d.flag F.CIS_WIN_WR_EN then d
    else
      let d := d.leaveSleep
      if !d.dramReady then d
      else
        let a := d.window off.toNat
        let bs := ((data.map (·.toNat)).zipIdx.map (fun e => (a + e.2, e.1))).filter (fun e => e.1 < d.windowEnd)
        let words := (List.range ((a % 4 + data.length + 3) / 4)).map (fun k => a / 4 * 4 + 4 * k)
        let bursts := ((List.range ((a + data.length + 63) / 64 - a / 64)).map (fun k => 64 * (a / 64 + k))).filter (fun b => bs.any (fun e => e.1 / 64 * 64 = b))
        let d := bursts.foldl (fun d b => d.touchRow b true 4) d
        words.foldl (fun d w => if bs.any (fun e => e.1 / 4 * 4 = w) then d.window4 w bs else d) d))

end Sys2Proof.Machine
end

