-- ==== Sys2Proof/Machine/Decanter.lean ====
section
/-! DEFINITION. The decanter: decoding, screening, nozzle-out compensation, seams, the spouts, line-keyed tables and the head map
(file 05, R140 to R166; file 03, R97 to R99; file 04, R127 to R133; file 10, R301; file 12, R339 and R340). -/

namespace Sys2Proof.Machine

/-! ### Line-keyed tables (R157, R158, R161) -/

/-- A keyed table; one that has never been switched holds its reset content. -/
def Dev.ktab (d : Dev) (kind set port : Nat) : KTable :=
  (d.ktabs.find? (fun t => t.kind = kind && t.set = set && t.port = port)).getD { kind, set, port }

/-- The device with a keyed table replaced. -/
def Dev.setKtab (d : Dev) (t : KTable) : Dev :=
  { d with ktabs := d.ktabs.filter (fun u => !(u.kind = t.kind && u.set = t.set && u.port = t.port)) ++ [t] }

/-- The BAR2 window of a table's shadow: its first address and the address after it. -/
def tabWindow (kind set port : Nat) : Nat × Nat :=
  match kind with
  | 1 => (0x20000 * set + 0x200 * port, 0x20000 * set + 0x200 * port + 0x200)
  | 2 => (0x100000 + 0x100000 * set + 0x1000 * port, 0x101000 + 0x100000 * set + 0x1000 * port)
  | 3 => (0x500000 + 0x1000 * port, 0x501000 + 0x1000 * port)
  | _ => (0x600000, 0x608000)

/-- The word of a bank at a BAR2 address. -/
def bankWord (bank : RegFile) (a : Nat) : Nat := (bank.find a).getD (bar2Reset a)

/-- An entry of w bits at a byte address of a bank. -/
def bankEntry (bank : RegFile) (a w : Nat) : Nat := bits (bankWord bank (a / 4 * 4)) (8 * (a % 4)) w

/-- The value of an entry in force for a press line (R158). -/
def KTable.value (t : KTable) (a w line : Nat) : Nat :=
  let old := bankEntry t.bank a w
  match t.sw with
  | none => old
  | some s =>
    if line < s.key then old
    else
      let new := bankEntry s.bank a w
      if line < s.key + s.ramp then ((old : Int) + Int.tdiv (((new : Int) - old) * (line - s.key + 1 : Nat)) (s.ramp + 1 : Nat)).toNat
      else new

/-- The bank of a keyed table in force for a press line (R157). -/
def KTable.bankFor (t : KTable) (line : Nat) : RegFile :=
  match t.sw with
  | none => t.bank
  | some s => if line < s.key then t.bank else s.bank

/-- CURVE[port][v] of a LUT set for a press line (R149). -/
def Dev.curve (d : Dev) (set port v line : Nat) : Nat := (d.ktab 1 set port).value (0x20000 * set + 0x200 * port + 2 * v) 16 line

/-- The gain of a nozzle (R150). -/
def Dev.nozGain (d : Dev) (set port n line : Nat) : Nat := (d.ktab 2 set port).value (0x100000 + 0x100000 * set + 0x1000 * port + n) 8 line

/-- The state of a nozzle: 0 OK, 1 OUT, 2 OFF (R161). -/
def Dev.nozState (d : Dev) (port n line : Nat) : Nat := (d.ktab 3 0 port).value (0x500000 + 0x1000 * port + n) 8 line % 4

/-- THR[y][x] (R151). -/
def Dev.threshold (d : Dev) (y x line : Nat) : Nat := (d.ktab 4 0 0).value (0x600000 + 0x100 * y + 2 * x) 16 line

/-! ### Ownership (R155) -/

/-- A byte of a latched RAMP or DITHER window. -/
def latchByte (bank : RegFile) (a : Nat) : Nat := bankEntry bank a 8

/-- The owner of a column: slot, port, nozzle, the state of the nozzle, and the port whose curve its head uses (R149). -/
structure Owner where
  slot  : Nat
  port  : Nat
  noz   : Nat
  st    : Nat
  curve : Nat
  deriving DecidableEq, Repr

/-- The nozzle of a head at a column. -/
def Dev.ownerOf (d : Dev) (e : Nat × HEntry) (c line : Nat) : Owner :=
  { slot := e.1, port := e.2.port, noz := c - e.2.col0, st := d.nozState e.2.port (c - e.2.col0) line,
    curve := if e.2.pair && e.1 % 2 = 1 then e.2.port - 1 else e.2.port }

/-- Who owns a column on a press line: in the overlap of neighbouring slots RAMP and DITHER choose, and a nozzle OUT or OFF gives way to an OK one (R155). -/
def Dev.owner (d : Dev) (x : DecLatch) (b line c : Nat) (hs : List (Nat × HEntry)) : Option Owner :=
  match hs.filter (fun e => e.2.col0 ≤ c && c ≤ e.2.last) with
  | [] => none
  | [e] => some (d.ownerOf e c line)
  | l :: r :: _ =>
    if r.1 ≠ l.1 + 1 then some (d.ownerOf l c line)
    else
      let o := l.2.last + 1 - r.2.col0
      let dith := latchByte x.dither (0x611000 + 64 * (line % 64) + c % 64)
      let ramp := latchByte x.ramp (0x610000 + 0x100 * b + (c - r.2.col0) * 256 / o)
      let a := d.ownerOf (if dith < ramp then r else l) c line
      let z := d.ownerOf (if dith < ramp then l else r) c line
      some (if a.st ≠ 0 && z.st = 0 then z else a)

/-! ### Screening (R151 to R154) -/

/-- The largest level whose volume lies at or below a value (R151). -/
def levelAt (vol : List Nat) (x : Nat) : Nat := ((vol.drop 1).filter (fun v => v ≤ x)).length

/-- The comparison of k, f and t of R151. -/
def quantise (vol : List Nat) (x t : Nat) : Nat :=
  let k := levelAt vol x
  if k + 1 = vol.length then k
  else
    let lo := vol.getD k 0
    let f := (x - lo) * 65536 / (vol.getD (k + 1) 0 - lo)
    if t < f then k + 1 else k

/-- One column of R151: its level, and the error carried on. -/
def screenColumn (vol : List Nat) (wErr : Nat) (d t : Nat) (e : Int) : Nat × Int :=
  if d = 0 then (0, 0)
  else
    let xc := clampI 0 65535 (d + e)
    let q := quantise vol xc.toNat t
    let err := xc - vol.getD q 0
    (q, clampI (-16384) 16384 (Int.fdiv (err * wErr) 256))

/-- A column on its way through steps 5 and 6: owner, demand (or stored level), threshold, level. -/
structure ColSt where
  own    : Option Owner
  demand : Nat
  thr    : Nat
  level  : Nat := 0
  deriving DecidableEq, Repr

/-- Step 5: columns in ascending order; the carry restarts at every multiple of 32 and across a column that no head covers (R151). -/
def screenRow (vol : List Nat) (wErr : Nat) : Nat → Int → List ColSt → List ColSt
  | _, _, [] => []
  | c, e, x :: r =>
    match x.own with
    | none => x :: screenRow vol wErr (c + 1) 0 r
    | some _ =>
      let q := screenColumn vol wErr x.demand x.thr (if c % 32 = 0 then 0 else e)
      { x with level := q.1 } :: screenRow vol wErr (c + 1) q.2 r

/-- Is a column dead: its owning nozzle is OUT (R153). -/
def ColSt.dead (x : ColSt) : Bool := match x.own with | some o => o.st = 1 | none => false

/-- Step 6: the volumes of dead columns are shared out to their neighbours, which are quantised again (R153, R154). -/
def compensate (x : DecLatch) (cols : List ColSt) : List Nat :=
  let v := cols.map (fun c => if c.dead then x.vol.getD c.level 0 else 0)
  let near := List.zipWith (fun a b => a * x.w1 / 256 + b * x.w1 / 256) (0 :: v) (v.drop 1 ++ [0])
  let far := List.zipWith (fun a b => a * x.w2 / 256 + b * x.w2 / 256) (0 :: 0 :: v) (v.drop 2 ++ [0, 0])
  List.zipWith (fun (c : ColSt) (a : Nat) =>
    match c.own with
    | none => 0
    | some o =>
      if o.st ≠ 0 then 0
      else if a = 0 || c.demand = 0 then c.level
      else quantise x.vol (Nat.min 65535 (x.vol.getD c.level 0 + a)) c.thr) cols (List.zipWith (· + ·) near far)

/-- Step 7: the levels of one head's nozzles, from nozzle 0 on; levels past the end of the list are 0 (R156). -/
def headLevels (owners : List (Option Owner)) (levels : List Nat) (e : Nat × HEntry) : List Nat :=
  List.zipWith (fun (o : Option Owner) (l : Nat) => match o with | some o => if o.slot = e.1 then l else 0 | none => 0)
    ((owners.drop e.2.col0).take 4096) ((levels.drop e.2.col0).take 4096)

/-! ### Raster (R97 to R99, R146 to R148) -/

/-- Tertum's tokens (R98): the output, or none when it would pass n bytes or the last token is cut off. -/
def tertum (n : Nat) : Nat → List Nat → List Nat → Option (List Nat)
  | 0, _, out => some out
  | _ + 1, [], out => some out
  | k + 1, t :: r, out =>
    let low := t % 64
    let put (v : List Nat) (rest : List Nat) : Option (List Nat) := if n < out.length + v.length then none else tertum n k rest (out ++ v)
    match t / 64 with
    | 0 => if r.length < low + 1 then none else put (r.take (low + 1)) (r.drop (low + 1))
    | 1 => (match r with | v :: r => put (List.replicate (low + 3) v) r | _ => none)
    | 2 => (match r with | b :: v :: r => put (List.replicate (low * 256 + b + 67) v) r | _ => none)
    | _ => (match r with | b :: r => put (List.replicate (low * 256 + b + 1) 0) r | _ => none)

/-- A body decoded to a bar-line of n bytes (R98). -/
def tertumLine (n : Nat) (body : List Nat) : Option (List Nat) :=
  (tertum n (body.length + 1) body []).map (fun o => o ++ List.replicate (n - o.length) 0)

/-- The raster of a bar-line: its bytes, the defect causes met (4 POISON_READ, 5 DECODE_ERR), and what reading it does (R147, R301). -/
def Dev.readRaster (d : Dev) (j : Job) (b l : Nat) : List Nat × List Nat × Dev :=
  let c := j.ctx
  let s := c.storedOf l
  let zeros := List.replicate c.rawSize 0
  if !c.compressed then
    let r := d.dramRead (j.slotAddr b s) c.rawSize 0
    if r.2.1 then (r.1, [4], r.2.2.report (223 + b)) else (r.1, [], r.2.2)
  else
    let x := d.dramRead (j.indexAddr b s) 8 2
    let n := bits (ofBytesLE (x.1.drop 4)) 0 24
    if x.2.1 then (zeros, [4], x.2.2.report (223 + b))
    else if n = 0 then (zeros, [], x.2.2)
    else
      let base := if c.rep then j.geo.repBase else (j.geo.areas.getD b {}).base
      let r := x.2.2.dramRead (base + ofBytesLE (x.1.take 4) * 64) n 0
      if r.2.1 then (zeros, [4], r.2.2.report (223 + b))
      else
        match tertumLine c.rawSize (r.1.drop 4) with
        | some bs => (bs, [], r.2.2)
        | none => (zeros, [5], (r.2.2.bump F.DEC_DEC_ERR_COUNT).report (99 + b))

/-- The raster of a job line. Where two job lines share a stored line the bar reads its copy once, and keeps it for the second (R18, R24). -/
def Dev.takeRaster (d : Dev) (i b l : Nat) : List Nat × List Nat × Dev :=
  let j := d.job i
  let s := j.ctx.storedOf l
  match (j.bar b).cache with
  | some (k, bs, cs) =>
    if k = s && l % j.ctx.perStored ≠ 0 then (bs, cs, d.modBarJob i b (fun y => { y with cache := none }))
    else
      let r := d.readRaster j b l
      (r.1, r.2.1, r.2.2.modBarJob i b (fun y => { y with cache := if j.ctx.perStored = 1 then none else some (s, r.1, r.2.1) }))
  | none =>
    let r := d.readRaster j b l
    if j.ctx.perStored = 1 then r else (r.1, r.2.1, r.2.2.modBarJob i b (fun y => { y with cache := some (s, r.1, r.2.1) }))

/-- The contone value of a column (R148). -/
def contone (c : JobCtx) (linear : Bool) (bs : List Nat) (col : Nat) : Nat :=
  if c.format = 0 then
    let k := col / 2
    let v := bs.getD k 0
    if linear && col % 2 = 1 && k + 1 < c.rawSize then (v + bs.getD (k + 1) 0 + 1) / 2 else v
  else bs.getD col 0

/-- The stored drop level of a column (R96). -/
def storedLevel (c : JobCtx) (bs : List Nat) (col : Nat) : Nat :=
  if c.format = 2 then bits (bs.getD (col / 4) 0) (2 * (col % 4)) 2
  else bits (bs.getD (3 * col / 8) 0 + 256 * bs.getD (3 * col / 8 + 1) 0) (3 * col % 8) 3

/-- What a line of a bar carries (R146, R339). -/
inductive LineKind where
  | gap
  | tone (v : Nat)
  | check (phase : Nat)
  | raster (line : Nat)
  deriving DecidableEq, Repr

/-- The kind of the line n lines after the job's line 0, for a bar (R146, R339, R340). -/
def Job.kindAt (j : Job) (b n : Nat) : LineKind :=
  match j.strip, j.stripAt n with
  | some s, some o =>
    let block := s.levels.length * s.patch + s.check
    let k := (o - s.lead) / Nat.max 1 block
    let w := (o - s.lead) % Nat.max 1 block
    if o < s.lead || j.ctx.bars[k]? ≠ some b then .gap
    else if w < s.levels.length * s.patch then .tone (s.levels.getD (w / s.patch) 0)
    else .check (w - s.levels.length * s.patch)
  | _, _ =>
    let r := if j.ctx.period = 0 then 0 else n % j.ctx.period
    if r < j.ctx.lineCount then .raster r else .gap

/-- The demand of a column from its value: 0 to 255 a contone value through the curve (step 3), 256 + v a strip's tone v (step 4). -/
def Dev.demandAt (d : Dev) (c : JobCtx) (line : Nat) (o : Owner) (v : Nat) : Nat :=
  let t := if v < 256 then d.curve c.lutSet o.curve v line else (v - 256) * 257
  Nat.min 65535 (t * d.nozGain c.lutSet o.port o.noz line / 128)

/-- The levels of the bar's ports for a line whose columns carry a demand (contone and tone lines) or stored levels. -/
def Dev.levelsOf (d : Dev) (j : Job) (b line : Nat) (stored : Bool) (value : Nat → Nat) : List (Nat × List Nat) :=
  let c := j.ctx
  let x := (j.bar b).dec
  let hs := d.heads b
  let thr (col : Nat) : Nat := d.threshold ((line + x.yoff) % 128) ((col + x.xoff) % 128) line
  let cols : List ColSt := (List.range c.width).map (fun col =>
    let own := d.owner x b line col hs
    { own, thr := thr col, demand := match own with | some o => (if stored then value col else d.demandAt c line o (value col)) | none => 0 })
  let cols := if stored then cols.map (fun (y : ColSt) => { y with level := y.demand }) else screenRow x.vol x.wErr 0 0 cols
  let levels := compensate x cols
  hs.map (fun e => (e.2.port, headLevels (cols.map (·.own)) levels e))
/-- The levels of a bar's ports on a nozzle-check line: every nozzle but an OFF one takes its level directly (R146, R339). -/
def Dev.checkLevels (d : Dev) (j : Job) (b line phase : Nat) : List (Nat × List Nat) :=
  let s : StripPlan := j.strip.getD ⟨0, 0, 0, 0, 0, 1, 0, []⟩
  let m := Nat.max 1 s.stride
  (d.heads b).map (fun e =>
    (e.2.port, (List.range 4096).map (fun n => if n % m = phase % m && d.nozState e.2.port n line ≠ 2 then s.chkLevel else 0)))

/-! ### Spouts (R142, R143) -/

/-- Bytes of a spout line (R142). -/
def spoutBytes (mode : Nat) : Nat := if mode = 0 then 1024 else 1536

/-- The lines in a bar's spouts. -/
def Dev.spoutsOf (d : Dev) (b : Nat) : List SpoutLine := d.spouts.filter (fun l => l.bar = b)

/-- The first press line that a bar has neither fired nor dropped. -/
def Dev.firstOpen (d : Dev) (b : Nat) : Nat := match (d.posBar b).ticks with | t :: _ => t.line | [] => (d.hwm b + 1).toNat

/-- The lowest press line that a bar has not read. -/
def Dev.nextRead (d : Dev) (b : Nat) : Nat := (d.spoutsOf b).foldl (fun n l => Nat.max n (l.line + 1)) (d.firstOpen b)

/-- The next line a bar's ports need, with its job: the least line at or beyond what the bar has read, of a RUNNING job, or of an aborted one that a stop sent back
from its spouts (R113, R145). -/
def Dev.nextNeeded (d : Dev) (b : Nat) : Option (Nat × Nat) :=
  let n := d.nextRead b
  let cs := (d.jobs.filter (fun e => e.2.hasBar b)).filterMap (fun e =>
    let l := Nat.max n e.2.p0
    if e.2.owes b l then some (e.1, l) else none)
  cs.foldl (fun a e => match a with | some x => if e.2 < x.2 then some e else some x | none => some e) none

/-- The first column of a slice's range (R140). -/
def Dev.sliceFirst (d : Dev) (b s : Nat) : Nat := if s = 0 then 0 else (d.hentry b s).col0 / 32 * 32

/-- The columns that a slice screens for a bar: the first and the number (R140); none for a slot that is not valid. -/
def Dev.sliceRange (d : Dev) (b s : Nat) : Nat × Nat :=
  if !(d.hentry b s).valid then (0, 0)
  else
    let lo := d.sliceFirst b s
    let hi := if s < 23 && (d.hentry b (s + 1)).valid then d.sliceFirst b (s + 1) else (d.hentry b s).last + 1
    (lo, hi - lo)

/-- The spout word of a port, line and mode where its levels begin. -/
def spoutIndex (port line mode : Nat) : Nat := port * 16384 + line % (if mode = 0 then 64 else 42) * (spoutBytes mode / 4)

/-- The levels of a nozzle group as a spout word: 16 nozzles of 2 bits, or 32 bits of the 3-bit string. -/
def spoutWord (mode : Nat) (levels : List Nat) (k : Nat) : Nat :=
  if mode = 0 then (List.range 16).foldl (fun v n => v + levels.getD (16 * k + n) 0 * 4 ^ n) 0
  else bits ((List.range 12).foldl (fun v n => v + levels.getD (32 * k / 3 + n) 0 * 8 ^ n) 0) (32 * k % 3) 32

/-- The levels of a port in a line. -/
def portLevels (p : Nat) (l : List (Nat × List Nat)) : List Nat := ((l.find? (fun e => e.1 = p)).map (·.2)).getD []

/-- A bar's slices read, screen and write a line: its read pointer passes it, the spouts hold it (R127, R143, R146). -/
def Dev.fillLine (d : Dev) (i b line : Nat) (kind : LineKind) : Dev :=
  let before := d
  let j := d.job i
  let n := line - j.p0
  let made : List (Nat × List Nat) × List Nat × Dev :=
    match kind with
    | .gap => ([], [], d)
    | .check p => (d.checkLevels j b line p, [], d)
    | .tone v => (d.levelsOf j b line false (fun _ => 256 + v), [], d)
    | .raster l =>
      let r := d.takeRaster i b l
      if j.ctx.format < 2 then (d.levelsOf j b line false (contone j.ctx (j.bar b).dec.linear r.1), r.2.1, r.2.2)
      else (d.levelsOf j b line true (storedLevel j.ctx r.1), r.2.1, r.2.2)
  let d := made.2.2
  let x : SpoutLine := { bar := b, line, job := i, mode := j.ctx.dropMode, levels := made.1, causes := made.2.1 }
  let d := (d.heads b).foldl (fun d e =>
    d.sramWrite 0x10 (spoutIndex e.2.port line j.ctx.dropMode) (spoutWord j.ctx.dropMode (portLevels e.2.port made.1) 0)) d
  let d : Dev := { d with
    spouts := d.spouts ++ [x],
    decBusy := d.decBusy.zipIdx.map (fun e => e.1 + cdiv (d.sliceRange b e.2).2 8) }
  let d := d.modBarJob i b (fun y => { y with rd := n + 1, seen := Nat.max y.seen (n + 1) })
  Dev.watchReserve before d
/-- Bytes of a bar's spouts in use. -/
def Dev.spoutFill (d : Dev) (b : Nat) : Nat := ((d.spoutsOf b).map (fun l => spoutBytes l.mode)).sum

/-- The line that a bar's slices can fill now: the next one needed, while its raster is stored and the spouts have room (R133, R142, R143). -/
def Dev.fillable (d : Dev) (b : Nat) : Option (Nat × Nat × LineKind) :=
  match d.nextNeeded b with
  | none => none
  | some (i, line) =>
    let j := d.job i
    let kind := j.kindAt b (line - j.p0)
    let ready := match kind with | .raster l => has (j.bar b).stored (j.ctx.storedOf l) | _ => true
    if ready && d.spoutFill b + spoutBytes j.ctx.dropMode ≤ 65536 then some (i, line, kind) else none

/-- SPOUT_LINE_FILL: the slices serve the bars in ascending order of spout fill (R143); of bars that are filled alike any may come first. -/
def execSpoutLineFill (b : Bar) (s : State) : Host.Outcome State Fault Refusal :=
  .next (s.onDev (fun d =>
    let b := b.val
    match d.fillable b with
    | some (i, line, kind) =>
      if (List.range 8).any (fun c => d.spoutFill c < d.spoutFill b && (d.fillable c).isSome) then d else d.fillLine i b line kind
    | none => d))

/-! ### Updates (R157, R159, R160) -/

/-- The bars that use a table (R157). -/
def Dev.tabBars (d : Dev) (kind port : Nat) : List Nat :=
  if kind = 4 then List.range 8 else match d.portHome port with | some (b, _) => [b] | none => []

/-- The lowest press line that a bar has never read: a stop takes the read pointer back, and the lines beyond L_b stay read (R128, R157). -/
def Dev.firstUnread (d : Dev) (b : Nat) : Nat :=
  d.jobs.foldl (fun n e => if e.2.hasBar b && (e.2.bar b).seen ≠ 0 then Nat.max n (e.2.p0 + (e.2.bar b).seen) else n) (d.nextRead b)

/-- Is a pending switch too far to be replaced: some bar that uses the table has read its key line (R159). -/
def Dev.tabBusy (d : Dev) (t : KTable) : Bool :=
  match t.sw with
  | some s => (d.tabBars t.kind t.port).any (fun b => s.key < d.firstUnread b)
  | none => false

/-- A bank is switched to at a key line, or at once where no bar uses the table (R157). -/
def Dev.tabSwitch (d : Dev) (t : KTable) (bank : RegFile) (key ramp : Nat) : Dev :=
  let ramp := if t.kind ≤ 2 then ramp else 0
  if (d.tabBars t.kind t.port).isEmpty then d.setKtab { t with bank, sw := none }
  else d.setKtab { t with sw := some { bank, key, ramp } }

/-- A key line clamped past the reads of the bars that use any of some tables (R157). -/
def Dev.clampKey (d : Dev) (kind : Nat) (ports : List Nat) (key : Nat) : Nat :=
  (ports.flatMap (fun p => d.tabBars kind p)).foldl (fun k b => Nat.max k (d.firstUnread b)) key

/-- An update of the tables of some ports to given banks: all or none. CODE: 0 OK, 1 BUSY, 2 REPLACED; and the key line as stored. -/
def Dev.tabUpdate (d : Dev) (kind set : Nat) (ports : List Nat) (key ramp : Nat) (bank : Nat → Dev → RegFile × Dev) : Nat × Nat × Dev :=
  let tabs := ports.map (fun p => d.ktab kind set p)
  if tabs.any (fun t => d.tabBusy t) then (1, key, d)
  else
    let k := d.clampKey kind ports key
    let d' := ports.foldl (fun d p =>
      let r := bank p d
      r.2.tabSwitch (d.ktab kind set p) r.1 k ramp) d
    (if tabs.any (fun t => t.sw.isSome) then 2 else 0, k, d')

/-- DEC_UPD_CMD.GO (R157, R159, R160): KEY reads back K as stored, which is as written where nothing changes or no bar uses a table. -/
def Dev.updateGo (d : Dev) : Dev :=
  let kind := d.get F.DEC_UPD_SEL_KIND
  let set := if kind ≤ 2 then d.get F.DEC_UPD_SEL_LUT_SET else 0
  let p := d.get F.DEC_UPD_SEL_PORT
  let ports := if kind = 4 then [0] else if p = 255 then List.range 192 else [p]
  let r := d.tabUpdate kind set ports (d.lineNear (d.get F.DEC_UPD_KEY)).toNat (d.get F.DEC_UPD_RAMP)
    (fun p d => let w := tabWindow kind set p; d.snapshot w.1 w.2)
  let asWritten := r.1 = 1 || (ports.all (fun p => (d.tabBars kind p).isEmpty))
  ((r.2.2.set F.DEC_UPD_KEY (if asWritten then d.get F.DEC_UPD_KEY else r.2.1 % 2 ^ 48)).set F.DEC_UPD_CMD_DONE 1).set F.DEC_UPD_CMD_CODE r.1

/-- TABLE_UPDATE_GO. -/
def execTableUpdateGo (rq : Requester) (s : State) : Host.Outcome State Fault Refusal :=
  .next (s.row rq (.tableUpdateGo rq) 0x30050 1 ⟨0, none⟩ Dev.updateGo)

/-- OLD_BANK_FREE: every bar that uses the table has fired or dropped all lines below K + R (R159). -/
def execOldBankFree (kind set port : Nat) (s : State) : Host.Outcome State Fault Refusal :=
  .next (s.onDev (fun d =>
    let t := d.ktab kind set port
    match t.sw with
    | some w => if (d.tabBars kind port).all (fun b => w.key + w.ramp ≤ d.firstOpen b) then d.setKtab { t with bank := w.bank, sw := none } else d
    | none => d))

/-- DEC_DEC_ERR.CLEAR (R165). -/
def execDecodeErrClear (rq : Requester) (s : State) : Host.Outcome State Fault Refusal :=
  .next (s.row rq (.decodeErrClear rq) 0x30058 (2 ^ 31) ⟨31, none⟩ (fun d => d.set F.DEC_DEC_ERR_COUNT 0))

/-- DEC_Ss_LOAD.CLEAR (R166). -/
def execSliceLoadClear (rq : Requester) (sl : Slice) (s : State) : Host.Outcome State Fault Refusal :=
  .next (s.row rq (.sliceLoadClear rq sl) (0x31080 + 0x1000 * sl.val) (2 ^ 31) ⟨31, none⟩ (fun d => d.set F.DEC_S_LOAD_MAX_PCT 0 sl.val))

/-! ### The head map (R162, R163) -/

/-- One slot of a bar's map, clamped beside the slot before it (R162). -/
def clampHead (s : Nat) (prev : Option HEntry) (e : HEntry) : HEntry :=
  let forced := s % 2 = 1 && (match prev with | some p => p.valid && p.pair | none => false)
  let p := prev.getD {}
  if forced then { valid := true, pair := true, port := p.port + 1, col0 := p.col0 + 4096 }
  else
    let pair := e.pair && s % 2 = 0 && e.port % 2 = 0 && e.valid
    let c := if e.valid && p.valid then clampN (p.last + 1 - 256) (p.last + 1) e.col0 else e.col0
    { e with pair, col0 := Nat.min c (if pair then 90112 else 94208) }

/-- A bar's entries in ascending slot order. -/
def clampBar : Nat → Option HEntry → List HEntry → List HEntry
  | _, _, [] => []
  | s, p, e :: r => let e' := clampHead s p e; e' :: clampBar (s + 1) (some e') r

/-- A port that an earlier valid entry names makes an entry invalid (R162). The model's choice of order: doubles are dropped after the other clamps, and the odd entry
forced after a pair's even entry that is dropped keeps VALID and PAIR. -/
def dropDoubles : List Nat → List HEntry → List HEntry
  | _, [] => []
  | seen, e :: r =>
    if e.valid && has seen e.port then { e with valid := false, pair := false } :: dropDoubles seen r
    else e :: dropDoubles (if e.valid then e.port :: seen else seen) r

/-- The clamped map of a shadow (R162). -/
def clampMap (entry : Nat → Nat → HEntry) : List HEntry :=
  dropDoubles [] ((List.range 8).flatMap (fun b => clampBar 0 none ((List.range 24).map (fun s => entry b s))))

/-- The head-map root: four words (R163). -/
def mapRootOf (m : List HEntry) : List Nat :=
  let h := sha256 ((m.flatMap (fun e => e.words)).flatMap (bytesLE 4))
  (List.range 4).map (fun k => ofBytesLE ((h.drop (4 * k)).take 4))

/-- A shadow entry. -/
def Dev.shadowEntry (d : Dev) (b s : Nat) : HEntry :=
  let a := 0x620000 + 0x100 * b + 8 * s
  HEntry.ofWords (d.bar2Word a) (d.bar2Word (a + 4))

/-- A map is put in the shadow. -/
def Dev.putShadow (d : Dev) (m : List HEntry) : Dev :=
  (m.zipIdx).foldl (fun d e =>
    let a := 0x620000 + 0x100 * (e.2 / 24) + 8 * (e.2 % 24)
    (d.setBar2 a (e.1.words.getD 0 0)).setBar2 (a + 4) (e.1.words.getD 1 0)) d

/-- COMMIT: the shadow is clamped and put in force, in MRAM, and its root in the cask (R163). -/
def Dev.mapCommit (d : Dev) : Dev :=
  if d.anyArmed then (d.set F.DEC_HMAP_CMD_DONE 1).set F.DEC_HMAP_CMD_CODE 1
  else
    let m := clampMap d.shadowEntry
    let d : Dev := { (d.voteCasks (span 0 3)).putShadow m with hmap := m, mram := { d.mram with hmap := some m } }
    (((d.mramWrote 384).setCasks 0 (mapRootOf m)).set F.DEC_HMAP_CMD_DONE 1).set F.DEC_HMAP_CMD_CODE 0

/-- HEAD_MAP_COMMIT: its audit entry carries the first words of the old and new roots (R163). -/
def execHeadMapCommit (rq : Requester) (s : State) : Host.Outcome State Fault Refusal :=
  .next (s.gate rq (.headMapCommit rq) 0x30054 1 [⟨0, some .installer⟩] (fun s =>
    let ok := s.acts rq 0x30054 ⟨0, some .installer⟩ 1
    let d := if ok then s.dev.mapCommit else s.dev
    let s := s.write rq 0x30054 1 [⟨0, some .installer⟩] (some (s.dev.cask 0, d.cask 0))
    if ok then s.onDev Dev.mapCommit else s))

/-- HEAD_MAP_DEFAULT: the default map goes to the shadow (R163). -/
def execHeadMapDefault (rq : Requester) (s : State) : Host.Outcome State Fault Refusal :=
  .next (s.row rq (.headMapDefault rq) 0x30054 2 ⟨1, some .installer⟩ (fun d =>
    let d := d.putShadow ((List.range 192).map (fun k => hentryDefault (k / 24) (k % 24)))
    (d.set F.DEC_HMAP_CMD_DONE 1).set F.DEC_HMAP_CMD_CODE 0))

end Sys2Proof.Machine
end

