-- ==== Sys2Proof/Machine/Fire.lean ====
section
/-! DEFINITION. Line commits, fire records, waveform samples, duty limits and the stop sequence's own commands (file 07, R203 to R235; file 04, R133). -/

namespace Sys2Proof.Machine

/-! ### The scheduler's memory -/

/-- A bar's scheduler state. -/
def Dev.fireBar (d : Dev) (b : Nat) : FireBar := d.fire.bars.getD b {}

/-- The device with a bar's scheduler state changed. -/
def Dev.modFireBar (d : Dev) (b : Nat) (f : FireBar → FireBar) : Dev := { d with fire := { d.fire with bars := setAt d.fire.bars b f } }

/-- The device with the stop sequence changed. -/
def Dev.modStop (d : Dev) (f : StopSt → StopSt) : Dev := { d with fire := { d.fire with stop := f d.fire.stop } }

/-- Is POS_SPEED below the sequence's MIN_SPEED (µm/s against mm/s). -/
def Dev.belowMin (d : Dev) : Bool := d.pos.speed < (d.fire.stop.minSpeed * 1000 : Nat)

/-! ### The stop sequence (R227 to R231) -/

/-- The sequence enters a state. -/
def Dev.stopEnter (d : Dev) (st : StopState) : Dev := (d.modStop (fun t => { t with st, since := d.now })).drvWatch

/-- RESUMING ends when every bar has passed L_b + 1 or has no RUNNING job: the causes clear, RESUMED is set, and the prediction is looked at at once
(R227, R228). -/
def Dev.finishResume (d : Dev) : Dev :=
  if d.fire.stop.st = .resuming && (List.range 8).all (fun b => has d.fire.stop.fired b || !(d.running.any (fun e => e.2.hasBar b))) then
    let d := d.modStop (fun t => { t with st := .run, underrun := false, fault := false, host := false, since := d.now, slowSince := none })
    ((d.irq F.FIRE_IRQ_STAT F.FIRE_IRQ_EN 2 none).recheck).drvWatch
  else d

/-- Do all conditions of R231 hold. -/
def Dev.resumable (d : Dev) : Bool :=
  let t := d.fire.stop
  (!t.underrun || (d.restored && (d.flag F.FIRE_CTRL_AUTO_RESUME || t.resumeU))) && (!t.fault || (t.acked && t.resumeF)) && (!t.host || t.resumeH) &&
    d.pins.drvReady && d.gateOpen

/-- WAITING is left: DRV_REV and DRV_HOLD fall, and every hold is released (R228, R181). -/
def Dev.stopResume (d : Dev) : Dev :=
  if d.fire.stop.st = .waiting && d.resumable then
    let d := d.modStop (fun t => { t with st := .resuming, rev := false, fired := [], since := d.now })
    let d := d.modPos (fun p => { p with bars := p.bars.map (fun x => { x with releasing := x.held.isSome }) })
    d.finishResume.drvWatch
  else d

/-- STOP_RESUME (R231). -/
def execStopResume (s : State) : Host.Outcome State Fault Refusal := .next (s.onDev Dev.stopResume)

/-- The first spout lines of a bar beyond a line are discarded, and its read pointers return to the line after it (R128, R145). -/
def Dev.restartBar (d : Dev) (b : Nat) (l : Int) : Dev :=
  let d : Dev := { d with spouts := d.spouts.filter (fun x => x.bar ≠ b || (x.line : Int) ≤ l) }
  (d.jobs.filter (fun e => e.2.hasBar b && (e.2.st = .running || (e.2.bar b).cutAt.isSome))).foldl (fun d e =>
    d.modBarJob e.1 b (fun y => { y with cache := none, rd := Nat.max y.rel (Nat.min y.rd ((l + 1).toNat - e.2.p0)) })) d

/-- Is a bar held and not being released. -/
def Dev.heldFast (d : Dev) (b : Nat) : Bool := (d.posBar b).held.isSome && !(d.posBar b).releasing

/-- A bar is held at its last issued line, and its read pointers go back (R131, R181, R229). -/
def Dev.holdBar (d : Dev) (b : Nat) : Dev :=
  let before := d
  let l := d.hwm b
  let d := (d.modBar b (fun x => { x with held := some l, releasing := false })).modFireBar b (fun x => { x with firing := false })
  Dev.watchReserve before ((d.set F.FIRE_B_LAST (unsigned 48 l) b).restartBar b l)

/-- Is every bar held. -/
def Dev.allHeld (d : Dev) : Bool := (List.range 8).all (fun b => d.heldFast b)

/-- STOP_REVERSE: every bar held and the web slow for 10 ms (R228). -/
def execStopReverse (s : State) : Host.Outcome State Fault Refusal :=
  .next (s.onDev (fun d =>
    let slow := match d.fire.stop.slowSince with | some t => decide (t + 10000000 ≤ d.now) | none => false
    if d.fire.stop.st = .holding && d.allHeld && slow && d.fire.stop.dist ≠ 0 then
      ((d.modStop (fun t => { t with rev := true, x0 := d.pos.x })).stopEnter .reversing).irq F.FIRE_IRQ_STAT F.FIRE_IRQ_EN 1 none
    else d))

/-- STOP_TIMEOUT: STOP_TMO_MS in HOLDING or REVERSING; a bar not yet held is held at its H_b (R228). -/
def execStopTimeout (s : State) : Host.Outcome State Fault Refusal :=
  .next (s.onDev (fun d =>
    let t := d.fire.stop
    if (t.st = .holding || t.st = .reversing) && t.since + t.tmoMs * 1000000 ≤ d.now then
      let d := (List.range 8).foldl (fun d b => if d.heldFast b then d else d.holdBar b) d
      (d.stopEnter .waiting).report 155
    else d))

/-- FIRE_CMD.STOP (R227). -/
def execFireStopCmd (rq : Requester) (s : State) : Host.Outcome State Fault Refusal :=
  .next (s.row rq (.fireStopCmd rq) 0x50040 1 ⟨0, some .operator⟩ (fun d => (d.stopTrigger 2).drvWatch))

/-- FIRE_CMD.RESUME counts for every cause that stands, for FAULT once the reaction is acknowledged (R231). -/
def execFireResumeCmd (rq : Requester) (s : State) : Host.Outcome State Fault Refusal :=
  .next (s.row rq (.fireResumeCmd rq) 0x50040 2 ⟨1, some .operator⟩ (fun d =>
    d.modStop (fun t => { t with resumeU := t.resumeU || t.underrun, resumeH := t.resumeH || t.host, resumeF := t.resumeF || (t.fault && t.acked) })))

/-- DRV_READY_INPUT (R231, R404). -/
def execDrvReadyInput (high : Bool) (s : State) : Host.Outcome State Fault Refusal :=
  .next (s.onDev (fun d =>
    let d : Dev := { d with pins := { d.pins with drvReady := high } }
    if d.pwr.st = .on then d.drvWatch else d))

/-- ILK_HEAD_INPUT: the interlock opens or closes; the gate follows, and ILK_HEAD is live while it is open (R223, R404). -/
def execIlkHeadInput (high : Bool) (s : State) : Host.Outcome State Fault Refusal :=
  .next (s.onDev (fun d =>
    let e : Dev := { d with pins := { d.pins with ilkHead := high } }
    if d.pwr.st = .on then (Dev.settle d e).reportLevel 56 0 high else e))

/-- FIRE_Bb_CNT.CLEAR (R235). -/
def execFireCountClear (rq : Requester) (b : Bar) (s : State) : Host.Outcome State Fault Refusal :=
  .next (s.row rq (.fireCountClear rq b) (0x51058 + 0x1000 * b.val) (2 ^ 31) ⟨31, none⟩ (fun d =>
    (d.set F.FIRE_B_CNT_DROPPED 0 b.val).set F.FIRE_B_CNT_DEFERRED 0 b.val))

/-- FIRE_Bb_CNT2.CLEAR (R235). -/
def execFireCount2Clear (rq : Requester) (b : Bar) (s : State) : Host.Outcome State Fault Refusal :=
  .next (s.row rq (.fireCount2Clear rq b) (0x5105C + 0x1000 * b.val) (2 ^ 31) ⟨31, none⟩ (fun d =>
    (d.set F.FIRE_B_CNT2_RESUME_SLOW 0 b.val).set F.FIRE_B_CNT2_SUPPRESSED 0 b.val))

/-- SPEED_LIMIT_CHECK: f = |POS_SPEED| × n / 25,400 against WARN_PCT, as the latest commit took it (R234), of each RUNNING job's FIRE_RATE_MAX (R213). -/
def execSpeedLimitCheck (s : State) : Host.Outcome State Fault Refusal :=
  .next (s.onDev (fun d =>
    let w := d.fire.warnPct
    let f (j : Job) : Nat := d.pos.speed.natAbs * j.ctx.lpi * 100
    let high := d.running.any (fun e => w * e.2.geo.rateMax * 25400 ≤ f e.2)
    let low := d.running.all (fun e => f e.2 < (w - 2) * e.2.geo.rateMax * 25400)
    { d with fire := { d.fire with speedLim := high || (d.fire.speedLim && !low) } }))

/-! ### Waveform samples and amplitude (R217, R219) -/

/-- One sample of a burst (R217): pulses carry their effective amplitude. -/
def sampleAt (bias : Int) (ps : List (Pulse × Int)) (j : Nat) : Nat :=
  let s := ps.foldl (fun s e =>
    let p := e.1
    if p.start ≤ j && j < p.stop then
      let r : Int := (j - p.start : Nat)
      if r < p.rise then bias + Int.tdiv (e.2 * (r + 1)) p.rise
      else if r < (p.rise + p.dwell : Nat) then bias + e.2
      else bias + Int.tdiv (e.2 * ((p.stop - 1 - j : Nat) : Int)) p.fall
    else s) bias
  unsigned 16 (clampI (-32768) 32767 s)

/-- The burst's samples for a gain, as words of two (R217, R220). -/
def burstWords (v : List Nat) (gain : Nat) : List Nat :=
  let ps := (wavePulse v).map (fun p => (p, Int.tdiv (signed 16 p.amp * gain) 16384))
  let n := waveLen v
  let s (j : Nat) : Nat := if j < n then sampleAt (waveBias v) ps j else 0
  (List.range (cdiv n 2)).map (fun k => s (2 * k) + s (2 * k + 1) * 65536)

/-- The waveform set of a bar's heads: the running job's, or FIRE_Bb_IDLE's (R219). -/
def Dev.gainSet (d : Dev) (b : Nat) : Nat := match d.barJob b with | some e => e.2.ctx.waveSet | none => d.get F.FIRE_B_IDLE_WS b

/-- G_tgt of a head from its temperature (R219). -/
def Dev.ampTarget (d : Dev) (b s : Nat) : Nat :=
  let v := d.wave (d.gainSet b)
  let t := signed 16 (d.get F.FIRE_B_S_TEMP b s) - waveTref v
  (clampI 8192 24576 (16384 + openRound 219 (16384 * waveTc v * t) 256000000)).toNat

/-- G_h takes its step for one record: toward its target by at most 1, while a report younger than 100 ms holds (R219). -/
def Dev.ampStep (d : Dev) (b s : Nat) : Dev :=
  let q := d.port (d.hentry b s).port
  let fresh := match q.tempAt with | some t => decide (d.now < t + 100000000) | none => false
  if q.gainSet && fresh then
    let g := d.get F.FIRE_B_S_GAIN b s
    let t := d.ampTarget b s
    d.set F.FIRE_B_S_GAIN (if g < t then g + 1 else if t < g then g - 1 else g) b s
  else d

/-! ### Records (R220 to R222, R253, R256) -/

/-- Words 0 to 15 of a record (R220): `lvl0` TICKLE_LVL0, `n` BURST_LEN. -/
def recordHead (type set seq : Nat) (lvl0 : Nat) (mode : Nat) (half : Bool) (line : Nat) (t : Int) (v : List Nat) (n : Nat) : List Nat :=
  let time := unsigned 64 t
  [type * 2 ^ 28 + set * 2 ^ 24 + seq * 2 ^ 16 + lvl0 * 4 + mode * 2 + b2n half, line % 2 ^ 32, line / 2 ^ 32 % 65536, time % 2 ^ 32, time / 2 ^ 32,
   v.getD 5 0, v.getD 6 0, waveTickle v * 65536 + n] ++
    (List.range 8).map (fun i => match (wavePulse v)[i]? with | some p => p.stop * 65536 + p.start | none => 0)

/-- Does a port receive records: UP, and authenticated or not required to be (R256). -/
def Dev.receives (d : Dev) (p : Nat) : Bool := (d.port p).st = .up && ((d.port p).authOk || !d.flag F.HLK_CTRL_REQUIRE_AUTH p)

/-- HLK_DOWN is reported once for each stay of a running bar's port outside UP (R256). -/
def Dev.reportDown (d : Dev) (p : Nat) : Dev :=
  if (d.port p).downRep then d else (d.modPort p (fun q => { q with downRep := true })).report (157 + groupOf p) p

/-- A record joins a port's transmitter. -/
def Dev.queueRec (d : Dev) (p : Nat) (r : Rec) : Dev := d.modPort p (fun q => { q with recs := q.recs ++ [r], seq := (q.seq + 1) % 256 })

/-! ### A line to fire -/

/-- What the scheduler fires at a press line of a bar: the context and what its job latched, the job index (of the same generation), whether that job
is RUNNING, the levels of the ports, the defect causes met in making it, whether it is a blank line of an aborted job, and whether it carries raster. -/
structure FireLine where
  ctx    : JobCtx
  rate   : Nat
  heads  : List HeadLatch
  job    : Option Nat
  run    : Bool
  levels : List (Nat × List Nat)
  causes : List Nat
  blank  : Bool
  raster : Bool
  deriving DecidableEq, Repr

/-- The row term of R203 in ns. -/
def Dev.rowTerm (d : Dev) (b rowOfs : Nat) : Int :=
  let o := signed 16 rowOfs
  let den := d.pos.v * (d.posBar b).scale
  if o = 0 then 0 else if den = 0 then Config.rowStill o else roundDiv (o * 1000 * 2 ^ 79) (256 * den)

/-- t_h of a slot for a bar time (R203). -/
def Dev.fireTime (d : Dev) (x : FireLine) (b s : Nat) (tau : Int) : Int :=
  let h := x.heads.getD s {}
  tau + d.rowTerm b h.rowOfs - h.flight

/-- The least t_h of the bar's heads; the bar time where it has none. -/
def Dev.firstFire (d : Dev) (x : FireLine) (b : Nat) (tau : Int) : Int :=
  match (d.heads b).map (fun e => d.fireTime x b e.1 tau) with
  | [] => tau
  | t :: r => r.foldl min t

/-- The line in the spouts of a bar. -/
def Dev.spoutLine (d : Dev) (b m : Nat) : Option SpoutLine := d.spouts.find? (fun l => l.bar = b && l.line = m)

/-- What stands for a press line of a bar: its spout line, while its job runs or was aborted with the line there (R113, R221); else, where no other job's line comes, an
aborted job's blank line. -/
def Dev.fireLine (d : Dev) (b m : Nat) : Option FireLine :=
  match d.spoutLine b m with
  | some l =>
    let j := d.job l.job
    if j.st ≠ .running && !j.owes b m then none
    else some { ctx := j.ctx, rate := j.geo.rateMax, heads := (j.bar b).heads, job := some l.job, run := j.st = .running, levels := l.levels, causes := l.causes, blank := false,
                raster := match j.kindAt b (m - j.p0) with | .raster _ => true | _ => false }
  | none =>
    if (d.jobAtLine b m).isSome then none
    else
      match (d.fireBar b).blanks.find? (fun x => x.first ≤ m && m ≤ x.last) with
      | some x => some { ctx := x.ctx, rate := x.geo.rateMax, heads := x.heads, job := if (d.job x.job).gen = x.gen then some x.job else none, run := false,
                         levels := [], causes := [], blank := true, raster := false }
      | none => none

/-! ### Duty limits (R224 to R226) -/

/-- A duty entry's count and limit in a window; a new window starts at 0 with the limit in force. -/
def dutyAt (l : List Duty) (key window limit : Nat) : Nat × Nat :=
  match l.find? (fun x => x.key = key && x.window = window) with
  | some x => (x.count, x.limit)
  | none => (0, limit)

/-- A duty entry is stored. -/
def dutyPut (l : List Duty) (key window count limit : Nat) : List Duty := l.filter (fun x => x.key ≠ key) ++ [⟨key, window, count, limit⟩]

/-- The nozzles of a port in ascending order: those that have reached the limit take level 0, the others are counted (R224). -/
def dutyNozzles (window limit : Nat) : Nat → List Nat → List Duty → List Nat × Bool × List Duty
  | _, [], l => ([], false, l)
  | key, 0 :: r, l => let x := dutyNozzles window limit (key + 1) r l; (0 :: x.1, x.2)
  | key, v :: r, l =>
    let c := dutyAt l key window limit
    if c.2 ≤ c.1 then let x := dutyNozzles window limit (key + 1) r l; (0 :: x.1, true, x.2.2)
    else let x := dutyNozzles window limit (key + 1) r (dutyPut l key window (c.1 + 1) c.2); (v :: x.1, x.2)

/-- A changed window length restarts every count (R226). -/
def Dev.dutyWindows (d : Dev) : Dev :=
  let n := d.bonded 1
  let h := d.bonded 3
  let f := d.fire
  { d with fire := { f with nozzle := if f.nozWin = n then f.nozzle else [], nozWin := n, head := if f.headWin = h then f.head else [], headWin := h } }

/-- A port's part of a line: slot, port, the slot of its head, fire time, levels. -/
structure Shot where
  slot   : Nat
  port   : Nat
  head   : Nat
  time   : Int
  levels : List Nat
  deriving DecidableEq, Repr

/-- The limits applied to a line's shots: the shots, whether nozzles and whether heads were suppressed (R224, R225). -/
def Dev.applyDuty (d : Dev) (v : List Nat) (shots : List Shot) : List Shot × Bool × Bool × Dev :=
  let d := d.dutyWindows
  let limN := d.bonded 0
  let limH := d.bonded 2
  let win (t : Int) (us : Nat) : Nat := t.toNat / (Nat.max 1 us * 1000)
  let n := shots.foldl (fun (a : List Shot × Bool × List Duty) x =>
    let r := dutyNozzles (win x.time d.fire.nozWin) limN (x.port * 4096) x.levels a.2.2
    (a.1 ++ [{ x with levels := r.1 }], a.2.1 || r.2.1, r.2.2)) ([], false, d.fire.nozzle)
  let heads := (n.1.map (fun x => x.head)).dedup
  let h := heads.foldl (fun (a : List Shot × Bool × List Duty) k =>
    let mine := a.1.filter (fun x => x.head = k)
    let e := ((mine.flatMap (fun x => x.levels)).map (fun l => waveEnergy v l)).sum
    let w := match mine with | x :: _ => win x.time d.fire.headWin | [] => 0
    let c := dutyAt a.2.2 (mine.headD ⟨0, 0, 0, 0, []⟩).port w limH
    if e = 0 then a
    else if c.2 < c.1 + e then (a.1.map (fun x => if x.head = k then { x with levels := [] } else x), true, a.2.2)
    else (a.1, a.2.1, dutyPut a.2.2 (mine.headD ⟨0, 0, 0, 0, []⟩).port w (c.1 + e) c.2)) (n.1, false, d.fire.head)
  (h.1, n.2.1, h.2.1, { d with fire := { d.fire with nozzle := n.2.2, head := h.2.2 } })

/-! ### Reading the spouts (R302) -/

/-- The levels of a port after its first spout word is read. -/
def Dev.readSpout (d : Dev) (port line mode : Nat) (levels : List Nat) : List Nat × Bool × Dev :=
  let w := spoutWord mode levels 0
  let r := d.sramRead 0x10 (spoutIndex port line mode) w
  if r.1 = w then (levels, r.2.1, r.2.2)
  else
    let full := levels ++ List.replicate (16 - levels.length) 0
    let head := if mode = 0 then (List.range 16).map (fun n => bits r.1 (2 * n) 2)
      else (List.range 10).map (fun n => bits r.1 (3 * n) 3) ++ [bits r.1 30 2 + full.getD 10 0 / 4 * 4]
    (head ++ full.drop head.length, r.2.1, r.2.2)

/-! ### What becomes of a line -/

/-- A strip of a RUNNING job whose first line reaches BAR0 awaits its evaluation; a fifth one carries no data and counts as discarded (R343). -/
def Dev.stripArrives (d : Dev) (m : Nat) : Dev :=
  if !d.flag F.VIN_CTRL_ENABLE || !d.procOn then d
  else
    d.running.foldl (fun d e =>
      match e.2.strip with
      | some plan =>
        if e.2.covers m && e.2.stripAt (m - e.2.p0) = some 0 then
          let fifth := 4 ≤ (d.vin.strips.filter (fun x => !x.fifth)).length
          let x : Strip := { job := e.1, tag := d.jobTag e.1, line := m, plan, bars := e.2.ctx.barMask, lut := e.2.ctx.lutSet,
                             spoiled := d.fire.stop.st ≠ .run, fifth }
          let d := if fifth then d.bump F.VIN_STAT_DISCARDED else d
          { d with vin := { d.vin with strips := d.vin.strips ++ [x] } }
        else d
      | none => d) d

/-- The line of a bar is past: its tick and spout line go, its job's release pointer moves, and a resuming bar has passed L_b + 1 (R127, R228). -/
def Dev.passLine (d : Dev) (b m : Nat) : Dev :=
  let d := if b = 0 then d.stripArrives m else d
  let d := d.modBar b (fun x => { x with ticks := x.ticks.filter (fun t => m < t.line) })
  let d : Dev := { d with spouts := d.spouts.filter (fun l => l.bar ≠ b || m < l.line) }
  let d := (d.jobs.filter (fun e => (e.2.st = .running || e.2.st = .aborted || e.2.st = .draining) && e.2.hasBar b && e.2.p0 ≤ m)).foldl (fun (d : Dev) e =>
    let n := match e.2.length with | some k => Nat.min k (m + 1 - e.2.p0) | none => m + 1 - e.2.p0
    let d := d.modBarJob e.1 b (fun y =>
      let rel := Nat.max y.rel n
      ({ y with rel, rd := Nat.max y.rd rel,
                coded := if e.2.ctx.rep then y.coded else y.coded.map (fun (c : Coded) => if (c.line + 1) * e.2.ctx.perStored ≤ rel then { c with released := true } else c) }).reclaim)
    let j : Job := d.job e.1
    if j.st = .running then
      let done := (j.ctx.bars.map (fun b => ((j.bar b).rel + j.ctx.gapLines) / Nat.max 1 j.ctx.period)).foldl Nat.min (m + 1)
      d.modJob e.1 (fun j => { j with prints := sat 0xFFFFFFFF done })
    else d) d
  let d := d.modFireBar b (fun x => { x with blanks := x.blanks.filter (fun y => m < y.last && (m + 1 < y.first || (d.jobAtLine b (m + 1)).isNone)) })
  if d.fire.stop.st = .resuming && m % 2 ^ 48 = (d.get F.FIRE_B_LAST b + 1) % 2 ^ 48 then
    (d.modStop (fun t => { t with fired := insertOnce t.fired b })).finishResume
  else d

/-- Defect causes of a line join the ranges of its job (R212), once the line is committed; the model's choice is that a blank line of an aborted job joins none. -/
def Dev.noteCauses (d : Dev) (x : FireLine) (b m : Nat) (causes : List Nat) : Dev :=
  match x.job with
  | some i => if x.blank then d else d.lineCauses i b m causes
  | none => d

/-- A line is dropped (R212). -/
def Dev.dropLine (d : Dev) (x : FireLine) (b m : Nat) : Dev :=
  (((d.bump F.FIRE_B_CNT_DROPPED b).irq F.FIRE_IRQ_STAT F.FIRE_IRQ_EN 4 none).noteCauses x b m (1 :: x.causes)).passLine b m

/-- A bar fires nothing for a line whose drops are absent (R133). -/
def Dev.starveLine (d : Dev) (i b m : Nat) : Dev :=
  let d := ((d.bump F.CIS_B_CNT_STARVED b).irq F.CIS_IRQ_STAT F.CIS_IRQ_EN (16 + b) none).lineCauses i b m [1]
  let before := d
  Dev.watchReserve before ((d.passLine b m).report (91 + b))

/-- The records of a line leave for the ports, and the line's causes and counts follow (R206, R211, R221, R224 to R226, R232). -/
def Dev.sendLine (d : Dev) (x : FireLine) (b m : Nat) (tau : Int) (deferred : Bool) : Dev :=
  let c := x.ctx
  let v := d.wave c.waveSet
  let n := waveLen v
  let read := (d.heads b).foldl (fun (a : List Shot × Bool × Bool × Dev) e =>
    let t := d.fireTime x b e.1 tau
    let least := ((d.fire.lastFire.getD e.2.port none).getD t)
    let r := a.2.2.2.readSpout e.2.port m c.dropMode (portLevels e.2.port x.levels)
    (a.1 ++ [⟨e.1, e.2.port, d.geomSlot b e.1, max t least, if x.blank then [] else r.1⟩], a.2.1 || t < least, a.2.2.1 || (r.2.1 && !x.blank), if x.blank then a.2.2.2 else r.2.2)) ([], false, false, d)
  let d := read.2.2.2
  let duty := d.applyDuty v read.1
  let d := duty.2.2.2
  let down := (duty.1.filter (fun (s : Shot) => !d.receives s.port)).map (fun (s : Shot) => s.port)
  let d := duty.1.foldl (fun d s =>
    let half := s.head ≠ s.slot
    let gain := d.get F.FIRE_B_S_GAIN b s.head
    let d := if half then d else d.ampStep b s.slot
    let d : Dev := { d with fire := { d.fire with lastFire := setAt d.fire.lastFire s.port (fun _ => some (s.time + n * 20)) } }
    if d.receives s.port then
      let seq := (d.port s.port).seq
      let words := recordHead 1 c.waveSet seq (waveInPrint v) c.dropMode half m s.time v (if half then 0 else n) ++
        (List.range (if c.dropMode = 0 then 256 else 384)).map (spoutWord c.dropMode s.levels) ++ (if half then [] else burstWords v gain)
      d.queueRec s.port { seq, tickle := false, bar := b, job := x.job, line := m, fireTime := s.time, need := (x.heads.getD s.slot {}).need, words }
    else if x.run then d.reportDown s.port else d) d
  let late := deferred || read.2.1
  let d := if late then d.bump F.FIRE_B_CNT_DEFERRED b else d
  let sup := duty.2.1 || duty.2.2.1
  let d := if sup then (d.bump F.FIRE_B_CNT2_SUPPRESSED b).irq F.FIRE_IRQ_STAT F.FIRE_IRQ_EN 5 none else d
  let d := if duty.2.1 then d.report 145 else d
  let d := if duty.2.2.1 then d.report 146 else d
  let first := d.fire.stop.st = .resuming && m % 2 ^ 48 = (d.get F.FIRE_B_LAST b + 1) % 2 ^ 48
  let slow := d.belowMin && (first || (d.fireBar b).slowRun)
  let d := if slow then (d.bump F.FIRE_B_CNT2_RESUME_SLOW b).irq F.FIRE_IRQ_STAT F.FIRE_IRQ_EN 3 none else d
  let d := if slow && first then d.report (147 + b) else d
  let d := d.modFireBar b (fun y => { y with tauLast := some tau, period := cdiv 1000000000 (Nat.max 1 x.rate), wave := some c.waveSet, lastRec := some d.now, slowRun := slow, firing := (d.posBar b).held.isNone })
  let d := d.set F.FIRE_B_FIRED m b
  let poison := read.2.2.1
  let causes := (if down.isEmpty then [] else [1]) ++ (if slow then [2] else []) ++ (if sup then [3] else []) ++
    (if poison && !has x.causes 4 then [4] else []) ++ x.causes
  let d := d.noteCauses x b m causes
  let d := if x.blank then d else match x.job with | some i => if x.raster then d.modBarJob i b (fun y => { y with lastFired := some m }) else d | none => d
  d.passLine b m

/-- The line at the front of a bar's ticks commits: it is fired on time or deferred, or dropped for rate, lateness or a closed gate (R206 to R212, R223). -/
def Dev.commitLine (d : Dev) (x : FireLine) (b : Nat) (t : Tick) : Dev :=
  let d : Dev := { d with fire := { d.fire with warnPct := d.get F.FIRE_RATE_CFG_WARN_PCT } }
  let y := d.fireBar b
  let tau := t.time
  let ready := match y.tauLast with | some l => l + y.period | none => tau
  let next := if 0 < d.pos.v then d.crossing b (t.line + 1) else ready + 1
  let onTime := ready ≤ tau
  let defer := ready - tau ≤ (d.get F.FIRE_RATE_CFG_DEFER_NS : Nat) && ready < next && d.get F.FIRE_RATE_CFG_DEFER_NS ≠ 0
  if !d.gateOpen then d.dropLine x b t.line
  else if !onTime && !defer then d.dropLine x b t.line
  else
    let tau' := if onTime then tau else ready
    if d.firstFire x b tau' - d.T < (needBar x.heads : Nat) then (d.dropLine x b t.line).report (129 + b)
    else d.sendLine x b t.line tau' (!onTime)

/-- LINE_COMMIT: the first tick of a bar reaches its commit point (R206). -/
def execLineCommit (b : Bar) (s : State) : Host.Outcome State Fault Refusal :=
  .next (s.onDev (fun d =>
    let b := b.val
    match (d.posBar b).ticks with
    | [] => d
    | t :: _ =>
      let lead : Int := d.get F.FIRE_COMMIT_NS
      match d.fireLine b t.line with
      | some x => if d.firstFire x b t.time - lead ≤ d.T then d.commitLine x b t else d
      | none =>
        match d.jobAtLine b t.line with
        | some (i, j) =>
          let x : FireLine := { ctx := j.ctx, rate := j.geo.rateMax, heads := (j.bar b).heads, job := some i, run := true, levels := [], causes := [], blank := false, raster := true }
          if d.firstFire x b t.time - lead ≤ d.T then d.starveLine i b t.line else d
        | none => if t.time - lead ≤ d.T then d.passLine b t.line else d))

/-! ### Tickle records (R222) -/

/-- The waveform set of a bar's tickle records. -/
def Dev.tickleSet (d : Dev) (b : Nat) : Nat := (d.fireBar b).wave.getD (d.get F.FIRE_B_IDLE_WS b)

/-- Has a bar lines of an aborted job to fire, in its spouts or blank (R113). -/
def Dev.owesLines (d : Dev) (b : Nat) : Bool :=
  !(d.fireBar b).blanks.isEmpty ||
    d.jobs.any (fun e => e.2.hasBar b && (match (e.2.bar b).cutAt with | some c => decide (e.2.p0 + (e.2.bar b).rel < c) | none => false))

/-- Are tickle records sent to a bar's ports: enabled, a rate given, the gate open, and the bar held, or without a RUNNING job and without lines of an aborted one; in both
cases until its next FIRE record is committed (R222, R233). -/
def Dev.tickles (d : Dev) (b : Nat) : Bool :=
  d.flag F.FIRE_B_IDLE_TICKLE_EN b && waveTickleHz (d.wave (d.tickleSet b)) ≠ 0 && d.gateOpen &&
    ((d.posBar b).held.isSome || (!d.owesLines b && (!(d.running.any (fun e => e.2.hasBar b)) || !(d.fireBar b).firing)))

/-- When a bar's next tickle record is due. -/
def Dev.tickleDue (d : Dev) (b : Nat) : Nat :=
  match (d.fireBar b).lastRec with
  | some t => t + 1000000000 / Nat.max 1 (waveTickleHz (d.wave (d.tickleSet b)))
  | none => 0

/-- TICKLE_COMMIT (R222). -/
def execTickleCommit (b : Bar) (s : State) : Host.Outcome State Fault Refusal :=
  .next (s.onDev (fun d =>
    let b := b.val
    if !d.tickles b || d.now < d.tickleDue b then d
    else
      let set := d.tickleSet b
      let v := d.wave set
      let n := waveLen v
      let t : Int := (d.T + (d.fireBar b).need : Nat)
      let fr := d.nextFree
      let open' := (Config.tickleFields fr.1).toNat
      let d := (fr.2.heads b).foldl (fun d e =>
        let half := d.geomSlot b e.1 ≠ e.1
        let gain := d.get F.FIRE_B_S_GAIN b (d.geomSlot b e.1)
        let d := if half then d else d.ampStep b e.1
        if d.receives e.2.port then
          let seq := (d.port e.2.port).seq
          let words := recordHead 2 set seq 1 (open' % 2) half (open' / 2) t v (if half then 0 else n) ++ (if half then [] else burstWords v gain)
          let d : Dev := { d with fire := { d.fire with lastFire := setAt d.fire.lastFire e.2.port (fun _ => some (t + n * 20)) } }
          d.queueRec e.2.port { seq, tickle := true, bar := b, job := none, line := 0, fireTime := t, need := (d.fireBar b).need, words }
        else d) fr.2
      d.modFireBar b (fun y => { y with lastRec := some d.now })))

end Sys2Proof.Machine
end

