-- ==== Sys2Proof/Machine/Update.lean ====
section
/-! DEFINITION. The 1 µs update: the tracking loop, the bars' coordinates and ticks, and the stop sequence's transitions that follow the web (file 06, R172 to
R181; file 07, R228, R229). -/

namespace Sys2Proof.Machine

/-- Does a bar meet the hold condition in HOLDING: the web slow, or its next line not in the spouts (R229). -/
def Dev.holdDue (d : Dev) (b : Nat) : Bool :=
  !d.heldFast b && (d.belowMin || (d.spoutLine b (d.hwm b + 1).toNat).isNone)

/-- What the stop sequence does at an update (R228, R229). -/
def Dev.stopStep (d : Dev) : Dev :=
  let d := d.modStop (fun t => { t with slowSince := if d.belowMin then some (t.slowSince.getD d.now) else none })
  match d.fire.stop.st with
  | .holding =>
    let d := (List.range 8).foldl (fun d b => if d.holdDue b then d.holdBar b else d) d
    if d.allHeld && d.fire.stop.dist = 0 then d.stopEnter .waiting else d
  | .reversing =>
    if (d.fire.stop.dist : Int) * 1200 * dot ≤ (d.fire.stop.x0 - d.pos.x) * 25400 then d.stopEnter .waiting else d
  | .resuming => d.finishResume
  | _ => d

/-- One update. -/
def Dev.positionUpdate (d : Dev) : Dev :=
  let d := d.posMove.posSpeeds
  let d := (List.range 8).foldl (fun d b => d.releaseStep b) d
  let d := d.stopStep
  let d := (List.range 8).foldl (fun d b => (d.issueTicks b).republish b) d
  d.drvWatch

/-- POSITION_UPDATE (R172). -/
def execPositionUpdate (s : State) : Host.Outcome State Fault Refusal := .next (s.onDev (fun d => if d.posOn then d.positionUpdate else d))

end Sys2Proof.Machine
end

