-- ==== Sys2Proof/Machine/Links.lean ====
section
/-! DEFINITION. Head links: lanes, link states, calibration, records and their confirmations, head memory and authentication (file 08, R236 to R265). -/

namespace Sys2Proof.Machine

/-! ### Ports -/

/-- The register address of a port page. -/
def hlkAddr (p o : Nat) : Nat := 0x1000000 + 0x1000 * p + o

/-- The rate in force of a port's lane group. -/
def Dev.rateOf (d : Dev) (p : Nat) : Nat := (d.groups.getD (groupOf p) {}).rate

/-- The partner of a port of a trellis pair, and whether the port is the odd one. -/
def Dev.pairOf (d : Dev) (p : Nat) : Option (Nat × Bool) :=
  match d.portHome p with
  | some (b, s) => if (d.hentry b s).pair then (if s % 2 = 1 then some (p - 1, true) else some (p + 1, false)) else none
  | none => none

/-- Is a port the odd port of a pair. -/
def Dev.oddPort (d : Dev) (p : Nat) : Bool := match d.pairOf p with | some (_, o) => o | none => false

/-- Has the port's bar a job in one of some states. -/
def Dev.barHas (d : Dev) (p : Nat) (st : JobState → Bool) : Bool :=
  match d.portHome p with | some (b, _) => (d.jobsIn st).any (fun e => e.2.hasBar b) | none => false

/-- A valid back-channel frame has arrived. -/
def Dev.heard (d : Dev) (p : Nat) : Dev := d.modPort p (fun q => { q with lastBack := d.now })

/-- A cause of a port page. -/
def Dev.hlkIrq (d : Dev) (p k : Nat) : Dev := d.irq F.HLK_IRQ_STAT F.HLK_IRQ_EN k none p

/-- Does the link exist: the head is past ALIGNING (R256). -/
def HlkPort.linked (q : HlkPort) : Bool :=
  match q.st with | .disabled | .priming | .aligning => false | _ => true

/-! ### Lane groups (R236) -/

/-- Is every port of a group disabled. -/
def Dev.groupIdle (d : Dev) (g : Nat) : Bool := (List.range 24).all (fun k => !d.flag F.HLK_CTRL_ENABLE (24 * g + k))

/-- LANE_RATE_CHANGE: the stored rate takes effect and the PLL relocks, within 100 µs. -/
def execLaneRateChange (g : Group) (s : State) : Host.Outcome State Fault Refusal :=
  .next (s.onDev (fun d =>
    let r := d.get F.HLK_GROUP_RATE (24 * g.val)
    if d.pwr.st = .on && r ≠ (d.groups.getD g.val {}).rate && d.groupIdle g.val then
      { d with groups := setAt d.groups g.val (fun _ => { rate := r, relockAt := some (d.now + 100000) }) }
    else d))

/-- GROUP_PLL_RELOCK: the ports that wait in DISABLED begin priming. -/
def execGroupPllRelock (g : Group) (s : State) : Host.Outcome State Fault Refusal :=
  .next (s.onDev (fun d =>
    if (d.groups.getD g.val {}).relockAt.isSome then
      let d : Dev := { d with groups := setAt d.groups g.val (fun x => { x with relockAt := none }) }
      (List.range 24).foldl (fun d k => if (d.port (24 * g.val + k)).st = .disabled then d.primePort (24 * g.val + k) else d) d
    else d))

/-! ### The back channel (R244, R258) -/

/-- An error of a port is counted, in its register and for the second's HLK_BER (R258). -/
def Dev.hlkErr (d : Dev) (p : Nat) (f : Field) : Dev := (d.bump f p).modPort p (fun q => { q with errs := q.errs + 1 })

/-- Lock is lost: RESYNC counts it, and the session ends (R244, R262). -/
def Dev.loseLock (d : Dev) (p : Nat) : Dev :=
  if (d.port p).bcLock then (d.hlkErr p F.HLK_ERR2_RESYNC).modPort p (fun q => { q with bcLock := false, mBack := none, session := none }) else d

/-- BACK_MARKER_RECEIVE: two markers at the spacing of R242 give lock (R244). The row carries no spacing: two markers whose numbers follow each other lie at it
(DEDUCED). -/
def execBackMarkerReceive (p : Port) (mcount : BitVec 6) (s : State) : Host.Outcome State Fault Refusal :=
  .next (s.onDev (fun d =>
    let m := mcount.toNat
    if (d.port p.val).st = .disabled then d
    else d.modPort p.val (fun q => { q with bcLock := q.bcLock || q.mBack = some ((m + 63) % 64), mBack := some m })))

/-- MARKER_MISSING: an expected marker is missing for the second time in a row (R244). -/
def execMarkerMissing (p : Port) (s : State) : Host.Outcome State Fault Refusal := .next (s.onDev (fun d => d.loseLock p.val))

/-- STUFF_VIOLATION (R241, R244). -/
def execStuffViolation (p : Port) (s : State) : Host.Outcome State Fault Refusal := .next (s.onDev (fun d => d.loseLock p.val))

/-- BACK_CHANNEL_FRAME_ERROR: the frame is discarded and counted (R245, R258). -/
def execBackChannelFrameError (p : Port) (s : State) : Host.Outcome State Fault Refusal :=
  .next (s.onDev (fun d => if (d.port p.val).bcLock then d.hlkErr p.val F.HLK_ERR_CRC else d))

/-- BER_SECOND: HLK_BER is reported when the counts of a second pass HLK_ERR_LIMIT (R258). -/
def execBerSecond (p : Port) (s : State) : Host.Outcome State Fault Refusal :=
  .next (s.onDev (fun d =>
    let over' := d.get F.HLK_ERR_LIMIT p.val < (d.port p.val).errs
    let d := d.modPort p.val (fun q => { q with errs := 0 })
    if over' && d.pwr.st = .on then d.report 184 p.val else d))

/-- HLK_ERR.CLEAR (R265). -/
def execHlkErrClear (rq : Requester) (p : Port) (s : State) : Host.Outcome State Fault Refusal :=
  .next (s.row rq (.hlkErrClear rq p) (hlkAddr p.val 0x58) (2 ^ 31) ⟨31, none⟩ (fun d =>
    [F.HLK_ERR_CRC, F.HLK_ERR_RETRANS, F.HLK_ERR2_RESYNC, F.HLK_ERR2_ABANDON].foldl (fun d f => d.set f 0 p.val) d))

/-! ### Head memory frames (R261, R263) -/

/-- Words of bytes. -/
def byteWords (bs : List Nat) : List Nat := (chunks 4 bs.length bs).map ofBytesLE

/-- The two MAC words of a frame (R263). -/
def macWords (key : List Nat) (dir ctr : Nat) (payload : List Nat) : List Nat :=
  byteWords ((hmacSha256 key (key ++ [dir] ++ bytesLE 4 ctr ++ hlkBytes payload)).take 8)

/-- K_H of a head, from the K_M with which the exchange began (R259). -/
def Dev.headKey (d : Dev) (p : Nat) : List Nat :=
  hmacSha256 (d.port p).master ([0x48, 0x4B, 0x45, 0x59] ++ hlkBytes [d.get F.HLK_ID p 0, d.get F.HLK_ID p 1])

/-- Was K_M all zero as the exchange began, so that the authentication fails (R259). -/
def Dev.noMasterKey (d : Dev) (p : Nat) : Bool := (d.port p).master.all (· = 0)

/-- The first word of a MEM frame. -/
def memHead (op count txn addr : Nat) : Nat := op * 2 ^ 28 + count * 2 ^ 24 + txn * 2 ^ 16 + addr

/-- The authentication exchange begins: C_K is drawn, the session ends, CHALLENGE is sent (R262). -/
def Dev.authStart (d : Dev) (p : Nat) : Dev :=
  let ck := challenge d.free
  let d : Dev := { d with free := d.free + 32 }
  let txn := (d.port p).txn
  let d := d.modPort p (fun q => { q with stage := 1, authAt := d.now, chal := ck, nonce := [], session := none, txn := (q.txn + 1) % 256,
                                          master := d.mram.keyM.getD (List.replicate 32 0) })
  d.laneSend p 5 ([memHead 4 0 txn 0 + (Config.authFields 4).toNat % 65536 + (Config.authFields 4).toNat / 65536 * 2 ^ 24, 0] ++ byteWords ck)

/-- The words of a READ, WRITE or COMMIT with its MAC (R261, R263); without a session the MAC is a free value. -/
def memFrame (session : Option (List Nat)) (op count txn addr ctr : Nat) (data : List Nat) : List Nat :=
  let body := [memHead op count txn addr, ctr] ++ (if op = 2 then data.take count else [])
  body ++ (match session with
    | some k => macWords k 0 ctr body
    | none => let v := (Config.bareMac (body.headD 0)).toNat; [v % 2 ^ 32, v / 2 ^ 32])

/-- The next waiting memory command is sent at a frame boundary (R246, R261): no other is under way, no exchange runs, no record waits and no other frame; a full
message counter starts the exchange again first (R468). -/
def Dev.memKick (d : Dev) (p : Nat) : Dev :=
  let d := d.laneTick p
  let q := d.port p
  if q.st ≠ .up || !q.onLane || q.memNow.isSome || q.stage ≠ 0 || q.recWaits || d.underWay p || !q.tx.waits.isEmpty then d
  else
    match q.memQ with
    | [] => d
    | m :: rest =>
      if q.session.isSome && 0xFFFF0000 ≤ q.ctrTx then d.authStart p
      else
        let ctr := if q.session.isSome then q.ctrTx + 1 else 0
        let d := d.modPort p (fun q => { q with memQ := rest, memNow := some { m with txn := q.txn, sentAt := d.now }, txn := (q.txn + 1) % 256, ctrTx := ctr })
        d.laneStart p 5 (memFrame q.session m.op m.count q.txn m.addr ctr m.data)

/-- An automatic command joins ahead of the host's (R264). -/
def Dev.memAuto (d : Dev) (p : Nat) (op count addr : Nat) : Dev :=
  (d.modPort p (fun q => { q with memQ := q.memQ.filter (fun m => m.auto) ++ [{ op, count, addr, data := [], auto := true }] ++ q.memQ.filter (fun m => !m.auto) })).memKick p

/-- The usage words are read, in IDLE once the lane has woken; an odd port of a pair, or one without a session, has none to read (R251, R264). -/
def Dev.usageRead (d : Dev) (p : Nat) : Dev :=
  if d.oddPort p || !((d.port p).st = .up || (d.port p).st = .idle) || (d.port p).session.isNone then d
  else (d.modPort p (fun q => { q with useAt := d.now })).memAuto p 1 4 0x10

/-- A host's command (R251, R264). -/
def Dev.memHost (d : Dev) (op p : Nat) : Dev :=
  let st := (d.port p).st
  let d := (d.set F.HLK_MEM_CMD_DONE 0 p).set F.HLK_MEM_CMD_STATUS 0 p
  if st ≠ .up && st ≠ .idle then d.memDone p 6
  else if d.oddPort p then d.memDone p 1
  else
    let m : MemCmd := { op, count := d.get F.HLK_MEM_ADDR_COUNT p, addr := d.get F.HLK_MEM_ADDR_ADDR p, data := (List.range 8).map (fun k => d.get F.HLK_MEM_DATA p k), auto := false }
    (d.modPort p (fun q => { q with memQ := q.memQ ++ [m] })).memKick p

/-- HLK_MEM_CMD.READ (R264). -/
def execHlkMemRead (rq : Requester) (p : Port) (s : State) : Host.Outcome State Fault Refusal :=
  .next (s.row rq (.hlkMemRead rq p) (hlkAddr p.val 0xA4) 1 ⟨0, none⟩ (fun d => d.memHost 1 p.val))

/-- HLK_MEM_CMD.WRITE (R264). -/
def execHlkMemWrite (rq : Requester) (p : Port) (s : State) : Host.Outcome State Fault Refusal :=
  .next (s.row rq (.hlkMemWrite rq p) (hlkAddr p.val 0xA4) 2 ⟨1, some .installer⟩ (fun d => d.memHost 2 p.val))

/-- HLK_MEM_CMD.COMMIT (R264). -/
def execHlkMemCommit (rq : Requester) (p : Port) (s : State) : Host.Outcome State Fault Refusal :=
  .next (s.row rq (.hlkMemCommit rq p) (hlkAddr p.val 0xA4) 4 ⟨2, none⟩ (fun d => d.memHost 3 p.val))

/-- MEM_TIMEOUT: no answer within 1 ms (R264). -/
def execMemTimeout (p : Port) (s : State) : Host.Outcome State Fault Refusal :=
  .next (s.onDev (fun d =>
    match (d.port p.val).memNow with
    | some m =>
      if m.sentAt + 1000000 ≤ d.now then
        let d := d.modPort p.val (fun q => { q with memNow := none })
        (if m.auto then d else d.memDone p.val 5).memKick p.val
      else d
    | none => d))

/-- USAGE_READ: every 60 s (R264). -/
def execUsageRead (p : Port) (s : State) : Host.Outcome State Fault Refusal :=
  .next (s.onDev (fun d => if (d.port p.val).useAt + 60000000000 ≤ d.now then d.usageRead p.val else d))

/-- The usage words have been read: shown, checked against HLK_CONF or taken as the baseline (R264). -/
def Dev.usageWords (d : Dev) (p : Nat) (ws : List Nat) : Dev :=
  let d := (List.range 4).foldl (fun d k => d.set F.HLK_USE (ws.getD k 0) p k) d
  let fires := ws.getD 0 0 + ws.getD 1 0 % 65536 * 2 ^ 32
  let conf := d.get F.HLK_CONF p
  let base := (fires + 2 ^ 48 - conf) % 2 ^ 48
  match (d.port p).base with
  | none => d.modPort p (fun q => { q with base := some base })
  | some b =>
    let n : Nat := (fires + 2 ^ 48 - b) % 2 ^ 48
    if 8 < ((n : Int) - conf).natAbs then (d.modPort p (fun q => { q with base := some base })).report 185 p else d

/-- The usage words have been read, and COMMIT follows (R264). -/
def Dev.usage (d : Dev) (p : Nat) (ws : List Nat) : Dev := (d.usageWords p ws).memAuto p 3 0 0

/-! ### Markers (R242, R249) -/

/-- MARKER_SEND: a marker, its pointer word and a TIME frame. -/
def execMarkerSend (p : Port) (s : State) : Host.Outcome State Fault Refusal :=
  .next (s.onDev (fun d => if (d.port p.val).onLane then (d.markerPoint p.val).memKick p.val else d))

/-! ### Link states (R256, R257) -/

/-- A port enters UP (R253, R256, R264). -/
def Dev.enterUp (d : Dev) (p : Nat) (auth : Bool) : Dev :=
  let d := d.modPort p (fun q => { q with st := .up, since := d.now, authOk := auth, recs := [], seq := 0, downRep := false, base := none, gainSet := false,
                                          stage := 0, lastBack := d.now, tempAt := none, staleRep := false })
  ((d.set F.HLK_CONF 0 p).hlkIrq p 0).usageRead p

/-- The odd port of a pair goes UP with its even port once it is calibrated, and has its result from then on (R251, R256). -/
def Dev.oddUp (d : Dev) (even : Nat) : Dev :=
  match d.pairOf even with
  | some (o, false) =>
    let q := d.port o
    if (d.port even).st ≠ .up then d
    else if q.st = .authFailed || (q.st = .calibrating && d.get F.HLK_CAL_SAMPLES o ≤ q.calGot.length) then d.enterUp o (d.port even).authOk
    else d.modPort o (fun q => { q with authOk := if q.st = .up || q.st = .idle then (d.port even).authOk else q.authOk })
  | _ => d

/-- The authentication has failed (R256); the odd port of a pair inherits the result, and with it AUTH_FAILED (R251). -/
def Dev.authFail (d : Dev) (p : Nat) : Dev :=
  let was := (d.port p).st
  let d := d.modPort p (fun q => { q with stage := 0, session := none, chal := [], nonce := [] })
  let d :=
    if d.flag F.HLK_CTRL_REQUIRE_AUTH p then
      let d := d.leavePort p 3 .authFailed (was = .up)
      match d.pairOf p with
      | some (o, false) => if (d.port o).st = .up || (d.port o).st = .idle then d.leavePort o 3 .authFailed true else d
      | _ => d
    else if was = .up then (d.modPort p (fun q => { q with authOk := false })).oddUp p
    else (d.enterUp p false).oddUp p
  (d.hlkIrq p 2).report 165 p

/-- AUTH_TIMEOUT: no answer within 2 ms (R256, R262). -/
def execAuthTimeout (p : Port) (s : State) : Host.Outcome State Fault Refusal :=
  .next (s.onDev (fun d => if (d.port p.val).stage ≠ 0 && (d.port p.val).authAt + 2000000 ≤ d.now then d.authFail p.val else d))

/-- HLK_AUTH.REAUTH (R256, R262, R263). -/
def execHlkReauth (rq : Requester) (p : Port) (s : State) : Host.Outcome State Fault Refusal :=
  .next (s.row rq (.hlkReauth rq p) (hlkAddr p.val 0x68) 1 ⟨0, some .installer⟩ (fun d =>
    if d.oddPort p.val then d
    else match (d.port p.val).st with
      | .authFailed => (d.modPort p.val (fun q => { q with st := .authenticating, since := d.now })).authStart p.val
      | .up => d.authStart p.val
      | _ => d))

/-- Step 2 of R262: TAG_H is checked, and PROVE sent when it matches. -/
def Dev.authProve (d : Dev) (p : Nat) (ws : List Nat) : Dev :=
  let q := d.port p
  let kh := d.headKey p
  let nh := hlkBytes ((ws.drop 2).take 4)
  let tag := hlkBytes ((ws.drop 6).take 8)
  let uid := hlkBytes [d.get F.HLK_ID p 0, d.get F.HLK_ID p 1]
  if d.noMasterKey p || ws.length ≠ 14 || tag ≠ hmacSha256 kh ([0x48, 0x45, 0x41, 0x44] ++ q.chal ++ nh ++ uid ++ [p]) then d.authFail p
  else
    let d := d.modPort p (fun q => { q with stage := 2, authAt := d.now, nonce := nh, txn := (q.txn + 1) % 256 })
    d.laneSend p 5 ([memHead 5 0 q.txn 0 + (Config.authFields 5).toNat % 65536 + (Config.authFields 5).toNat / 65536 * 2 ^ 24, 0] ++
      byteWords (hmacSha256 kh ([0x43, 0x54, 0x52, 0x4C] ++ nh ++ q.chal)))

/-- Step 4 of R262: both ends hold the session key. -/
def Dev.authDone (d : Dev) (p : Nat) : Dev :=
  let q := d.port p
  let key := (hmacSha256 (d.headKey p) ([0x53, 0x45, 0x53, 0x53] ++ q.chal ++ q.nonce)).take 16
  let d := d.modPort p (fun q => { q with stage := 0, session := some key, ctrTx := 0, ctrRx := 0, chal := [], nonce := [], authOk := true })
  if q.st = .up then (d.memKick p).oddUp p else (d.enterUp p true).oddUp p

/-- A reply to the memory command under way (R261, R263, R264). -/
def Dev.memReply (d : Dev) (p : Nat) (m : MemCmd) (ws : List Nat) : Dev :=
  let q := d.port p
  let st := bits (ws.headD 0) 24 4
  let ctr := ws.getD 1 0
  let body := ws.take (ws.length - 2)
  let ok := match q.session with
    | some k => q.ctrRx < ctr && 4 ≤ ws.length && ws.drop (ws.length - 2) = macWords k 1 ctr body
    | none => false
  let d := d.modPort p (fun q => { q with memNow := none })
  if st = 0 && !ok then
    let d := if m.auto then d else d.memDone p 3
    d.authStart p
  else
    let d := if st = 0 then d.modPort p (fun q => { q with ctrRx := ctr }) else d
    let data := body.drop 2
    let d := if m.auto then (if st = 0 && m.op = 1 then d.usage p data else d)
      else
        let d := if st = 0 && m.op = 1 then (List.range (Nat.min 8 m.count)).foldl (fun d k => d.set F.HLK_MEM_DATA (data.getD k 0) p k) d else d
        d.memDone p (if st = 5 then 7 else st)
    d.memKick p

/-- The reply to the read of the usage words that went out as the port was disabled (R264): its words are shown and checked if its MAC is right. COMMIT has
followed the read already. -/
def Dev.closingReply (d : Dev) (p : Nat) (c : ClosingRead) (ws : List Nat) : Dev :=
  let d := d.modPort p (fun q => { q with closing := none })
  let body := ws.take (ws.length - 2)
  if bits (ws.headD 0) 24 4 = 0 && 4 ≤ ws.length && c.ctr < ws.getD 1 0 && ws.drop (ws.length - 2) = macWords c.key 1 (ws.getD 1 0) body then
    d.usageWords p (body.drop 2)
  else d

/-- MEM_RESP: the reply to an exchange or to the command under way; any other is ignored (R261). -/
def execMemResp (p : Port) (words : List Word) (s : State) : Host.Outcome State Fault Refusal :=
  .next (s.onDev (fun d =>
    let p := p.val
    let ws := words.map (fun w => w.toNat)
    let q := d.port p
    let op := bits (ws.headD 0) 28 4
    let txn := bits (ws.headD 0) 16 8
    if q.st = .disabled then (match q.closing with | some c => if op = 1 && txn = c.txn then d.closingReply p c ws else d | none => d)
    else if !q.linked || !q.bcLock then d
    else
      let d := d.heard p
      let mine := txn = (q.txn + 255) % 256
      if q.stage = 1 && op = 4 && mine then (if bits (ws.headD 0) 24 4 = 0 then d.authProve p ws else d.authFail p)
      else if q.stage = 2 && op = 5 && mine then (if bits (ws.headD 0) 24 4 = 0 then d.authDone p else d.authFail p)
      else match q.memNow with
        | some m => if op = m.op && txn = m.txn then d.memReply p m ws else d
        | none => d))

/-- HEAD_KEY_COMMIT: the write to HLK_KEY7 makes the eight words K_M; its audit entry shows the digests' first words (R259). -/
def execHeadKeyCommit (rq : Requester) (w : Word) (s : State) : Host.Outcome State Fault Refusal :=
  .next (s.roleWrite rq (.headKeyCommit rq w) (hlkAddr 0 0xFC) (some .maker) (fun d => digestWord (sha256 (d.mram.keyM.getD (List.replicate 32 0)))) (fun d =>
    let d := d.set F.HLK_KEY w.toNat 0 7
    { d.mramWrote 8 with mram := { d.mram with keyM := some (hlkBytes ((List.range 8).map (fun k => d.get F.HLK_KEY 0 k))) } }))

/-- A running bar's port has left UP: HLK_DOWN (R256). -/
def Dev.noteDown (d : Dev) (p : Nat) (was : LinkState) : Dev :=
  if (was = .up || was = .idle) && d.barHas p (· = .running) then d.reportDown p else d

/-- A port falls back to PRIMING with HLK_DOWN (R256). -/
def Dev.fallBack (d : Dev) (p : Nat) : Dev :=
  let st := (d.port p).st
  let d := (d.leavePort p 3 .priming (st = .up || st = .idle)).laneDrain p
  let d := (d.modPort p (fun q => { q with downRep := true, bcLock := false, mBack := none })).report (157 + groupOf p) p
  if (d.port p).st = .priming then d.primePort p else d

/-- PORT_ENABLE (R256). -/
def execPortEnable (rq : Requester) (p : Port) (w : Word) (s : State) : Host.Outcome State Fault Refusal :=
  .next (s.row rq (.portEnable rq p w) (hlkAddr p.val 8) w.toNat ⟨0, none⟩ (fun d =>
    if d.flag F.HLK_CTRL_ENABLE p.val then d
    else
      let d := (d.set F.HLK_CTRL_ENABLE 1 p.val).modPort p.val (fun q => { q with noHead := false })
      if (d.port p.val).st = .disabled then d.primePort p.val else d))

/-- ENABLE goes to 0 (R256, R264): READ of the usage words and COMMIT go out before CTRL DEAUTH. The reply may come once the port is disabled; that it is still
taken then is the model's choice (DESIGN CHOICE: the spec asks for the read and gives the port 2 µs). -/
def Dev.closePort (d : Dev) (p : Nat) : Dev :=
  let q := d.port p
  let d := d.set F.HLK_CTRL_ENABLE 0 p
  match q.session with
  | some k =>
    if (q.st = .up || q.st = .idle) && !d.oddPort p then
      let last := [(5, memFrame (some k) 1 4 q.txn 0x10 (q.ctrTx + 1) []), (5, memFrame (some k) 3 0 ((q.txn + 1) % 256) 0 (q.ctrTx + 2) [])]
      (d.disablePort p last).modPort p (fun x => { x with txn := (q.txn + 2) % 256, closing := some ⟨q.txn, k, q.ctrRx⟩ })
    else d.disablePort p
  | none => d.disablePort p

/-- PORT_DISABLE (R256, R264). -/
def execPortDisable (rq : Requester) (p : Port) (w : Word) (s : State) : Host.Outcome State Fault Refusal :=
  .next (s.gate rq (.portDisable rq p w) (hlkAddr p.val 8) w.toNat [] (fun s =>
    let ok := s.dev.pageOpen (hlkAddr p.val 8) && !w.getLsbD 0
    let s := s.write rq (hlkAddr p.val 8) w.toNat
    if ok then s.onDev (fun d => if d.flag F.HLK_CTRL_ENABLE p.val then d.closePort p.val else d) else s))

/-- PRIMING_DONE: ALIGNING follows, or UP for a lane that leaves idle; the first TIME frame goes out (R248, R249, R256). -/
def execPrimingDone (p : Port) (s : State) : Host.Outcome State Fault Refusal :=
  .next (s.onDev (fun d =>
    let p := p.val
    let q := d.port p
    if q.st = .priming then (d.laneReady p).modPort p (fun q => { q with st := .aligning, since := d.now, retryAt := none })
    else if q.tx.mode = .priming then
      let d := d.laneReady p
      if q.st = .idle then (d.modPort p (fun q => { q with st := .up })).memKick p else d
    else d))

/-- PRIMING_RETRY: 100 ms after a HELLO timeout (R256). -/
def execPrimingRetry (p : Port) (s : State) : Host.Outcome State Fault Refusal :=
  .next (s.onDev (fun d =>
    match (d.port p.val).st, (d.port p.val).retryAt with
    | .aligning, some t => if t ≤ d.now then d.primePort p.val else d
    | _, _ => d))

/-- HELLO_TIMEOUT: 10 ms in ALIGNING without HELLO (R256). -/
def execHelloTimeout (p : Port) (s : State) : Host.Outcome State Fault Refusal :=
  .next (s.onDev (fun d =>
    let p := p.val
    let q := d.port p
    if q.st = .aligning && q.retryAt.isNone && q.since + 10000000 ≤ d.now then
      let d := d.modPort p (fun q => { q with retryAt := some (d.now + 100000000), noHead := true })
      if q.noHead then d else d.report 156 p
    else d))

/-- Does a HELLO pass R257: the rate is accepted, and nozzles, CAPS.PAIR and CAPS.LANE_ODD fit the port. -/
def Dev.helloFits (d : Dev) (p w3 : Nat) : Bool :=
  bit w3 (20 + d.rateOf p) &&
    (match d.pairOf p with
      | some (_, odd) => bits w3 0 16 ≤ 8192 && bit w3 17 = odd
      | none => bits w3 0 16 ≤ 4096 && !bit w3 16)

/-- Does the pair check of R251 fail: no CAPS.PAIR, or a partner with another UID. -/
def Dev.pairFails (d : Dev) (p : Nat) : Bool :=
  match d.pairOf p with
  | some (o, _) =>
    !bit (d.get F.HLK_ID p 3) 16 ||
      ((d.port o).linked && (d.port o).st ≠ .capsFault && (d.get F.HLK_ID p 0 ≠ d.get F.HLK_ID o 0 || d.get F.HLK_ID p 1 ≠ d.get F.HLK_ID o 1))
  | none => false

/-- Both ports of a pair enter PAIR_FAULT, a disabled one stays so (R251, R256). -/
def Dev.pairFault (d : Dev) (p : Nat) : Dev :=
  let one (d : Dev) (p : Nat) : Dev := (d.leavePort p 3 .pairFault ((d.port p).st = .up || (d.port p).st = .idle)).report 166 p
  match d.pairOf p with
  | some (o, _) => let d := one d p; if (d.port o).st = .disabled then d else one d o
  | none => one d p

/-- HELLO (R251, R256, R257). -/
def Dev.hello (d : Dev) (p : Nat) (ws : List Nat) : Dev :=
  let q := d.port p
  let d := (List.range 4).foldl (fun d k => d.set F.HLK_ID (ws.getD k 0) p k) (d.heard p)
  let checked := q.st = .aligning || q.st = .capsFault
  if checked && !d.helloFits p (ws.getD 3 0) then
    (if q.st = .capsFault then d else d.modPort p (fun q => { q with st := .capsFault, since := d.now, retryAt := none })).report 166 p
  else
    let d := if checked then d else (d.leavePort p 3 .calibrating true).hlkIrq p 1
    let d := d.modPort p (fun q => { q with st := .calibrating, since := d.now, retryAt := none, calGot := [], calOut := none, calOn := true })
    let d := (d.noteDown p q.st).laneSend p 7 [1]
    if d.pairFails p then d.pairFault p else d.modPort p (fun q => { q with pair := (d.pairOf p).isSome })

/-- HELLO. -/
def execHello (p : Port) (w0 w1 w2 w3 : Word) (s : State) : Host.Outcome State Fault Refusal :=
  .next (s.onDev (fun d =>
    let q := d.port p.val
    if q.bcLock && (q.st = .aligning || q.linked) then d.hello p.val [w0.toNat, w1.toNat, w2.toNat, w3.toNat] else d))

/-- BACK_CHANNEL_TIMEOUT: no valid frame for 10 ms (R256). -/
def execBackChannelTimeout (p : Port) (s : State) : Host.Outcome State Fault Refusal :=
  .next (s.onDev (fun d =>
    let q := d.port p.val
    if (q.st = .up || q.st = .idle) && q.lastBack + 10000000 ≤ d.now then (d.fallBack p.val).hlkIrq p.val 1 else d))

/-! ### Idle (R248) -/

/-- Is a tickle record for a port due within a time in ns. -/
def Dev.tickleSoon (d : Dev) (p ns : Nat) : Bool :=
  match d.portHome p with | some (b, _) => d.tickles b && d.tickleDue b ≤ d.now + ns | none => false

/-- LANE_IDLE_ENTER: CTRL IDLE_ENTER, four IDLE words, electrical idle. -/
def execLaneIdleEnter (p : Port) (s : State) : Host.Outcome State Fault Refusal :=
  .next (s.onDev (fun d =>
    let p := p.val
    let q := d.port p
    if q.st = .up && d.flag F.HLK_CTRL_IDLE_EN p && q.recs.isEmpty && q.memQ.isEmpty && q.memNow.isNone && !q.calOn && q.stage = 0 && q.tx.waits.isEmpty &&
        !d.barHas p (fun s => s = .armed || s = .running) && !d.tickleSoon p 50000 then
      (((((d.laneSend p 7 [2]).laneDrain p).putIdle p 4).laneOff p)).modPort p (fun q => { q with st := .idle, retryAt := none })
    else d))

/-- LANE_IDLE_EXIT: a job, a tickle record or a waiting frame brings a lane out of electrical idle through priming. -/
def execLaneIdleExit (p : Port) (s : State) : Host.Outcome State Fault Refusal :=
  .next (s.onDev (fun d =>
    let p := p.val
    let q := d.port p
    if q.st ≠ .disabled && q.tx.mode = .off &&
        (d.barHas p (fun s => s = .armed || s = .running) || d.tickleSoon p 5000 || !q.memQ.isEmpty || !q.tx.waits.isEmpty || q.calOn) then d.primeLane p 5
    else d))

/-! ### Calibration (R250) -/

/-- CAL: a CAL frame with a new CAL_ID, at least 20 µs after the last (R250). -/
def execCal (p : Port) (s : State) : Host.Outcome State Fault Refusal :=
  .next (s.onDev (fun d =>
    let p := p.val
    let d := d.laneTick p
    let q := d.port p
    if (q.st = .calibrating || q.st = .up) && q.onLane && q.calOn && q.calOut.isNone && q.calAt + 20000 ≤ d.now && !q.recWaits && !d.underWay p &&
        q.tx.waits.isEmpty then
      let id := (q.calId + 1) % 65536
      (d.modPort p (fun q => { q with calId := id, calOut := some (id, (d.fineT / 16777216).toNat), calAt := d.now })).laneStart p 6 [id]
    else d))

/-- A calibration begins on an UP port. -/
def Dev.calBegin (d : Dev) (p : Nat) : Dev :=
  if (d.port p).st = .up then d.modPort p (fun q => { q with calOn := true, calGot := [], calOut := none }) else d

/-- CAL_PERIOD: PERIOD_MS has passed (R250). -/
def execCalPeriod (p : Port) (s : State) : Host.Outcome State Fault Refusal :=
  .next (s.onDev (fun d =>
    let n := d.get F.HLK_CAL_PERIOD_MS p.val
    if n ≠ 0 && !(d.port p.val).calOn && (d.port p.val).calAt + n * 1000000 ≤ d.now then d.calBegin p.val else d))

/-- HLK_CAL.START (R265). -/
def execCalStart (rq : Requester) (p : Port) (w : Word) (s : State) : Host.Outcome State Fault Refusal :=
  .next (s.row rq (.calStart rq p w) (hlkAddr p.val 0x50) w.toNat ⟨15, none⟩ (fun d => d.calBegin p.val))

/-- LINK_h from the round trips (R250), in 1/256 ns. -/
def linkOf (trips : List Int) (trim : Int) : Nat :=
  let n := trips.length
  let rest := (((trips.mergeSort (fun a b => decide (a ≤ b))).drop (n / 4)).take (n - 2 * (n / 4)))
  (openRound 250 rest.sum (2 * rest.length : Nat) + trim).toNat

/-- CAL_ECHO: a round trip; `t3` is the arrival on the timebase in 1/256 ns (R22, R250). -/
def execCalEcho (p : Port) (id : BitVec 16) (ta : Word) (t3 : Nat) (s : State) : Host.Outcome State Fault Refusal :=
  .next (s.onDev (fun d =>
    let p := p.val
    let q := d.port p
    match q.calOut with
    | some (i, t0) =>
      if i ≠ id.toNat || !q.bcLock || !(q.st = .calibrating || q.st = .up) then d
      else
        let got := q.calGot ++ [(t3 : Int) - t0 - ta.toNat]
        let d := (d.heard p).modPort p (fun q => { q with calOut := none, calGot := got })
        if got.length < d.get F.HLK_CAL_SAMPLES p then d
        else
          let d := (d.set F.HLK_LINK (linkOf got (signed 16 (d.get F.HLK_LINK_TRIM p))) p).hlkIrq p 5
          let d := d.modPort p (fun q => { q with calOn := false })
          if q.st = .up then d
          else match d.pairOf p with
            | some (e, true) => d.oddUp e
            | _ => (d.modPort p (fun q => { q with st := .authenticating, since := d.now })).authStart p
    | none => d))

/-- CAL_ECHO_TIMEOUT: no echo within 1 ms; in CALIBRATING the port returns to PRIMING, an UP port's calibration ends (R250, R256). -/
def execCalEchoTimeout (p : Port) (s : State) : Host.Outcome State Fault Refusal :=
  .next (s.onDev (fun d =>
    let p := p.val
    let q := d.port p
    if q.calOut.isSome && q.calAt + 1000000 ≤ d.now then
      if q.st = .calibrating then d.fallBack p else d.modPort p (fun q => { q with calOn := false, calOut := none, calGot := [] })
    else d))

/-! ### Records on the lane (R246, R253, R255) -/

/-- Records of a port are abandoned (R253). -/
def Dev.abandon (d : Dev) (p : Nat) (rs : List Rec) : Dev :=
  let d := d.modPort p (fun q => { q with recs := q.recs.filter (fun r => !rs.elem r), seq := match rs with | r :: _ => r.seq | [] => q.seq })
  (rs.filter (fun r => !r.tickle)).foldl (fun d r =>
    let d := ((d.bump F.HLK_ERR2_ABANDON p).hlkIrq p 3).report (167 + groupOf p) p
    match r.job with | some i => d.addRange i r.bar 1 r.line | none => d) d

/-- May a record be sent again: fewer than MAX + 1 times sent, and NEED_h still ahead (R253). -/
def Dev.resendable (d : Dev) (p : Nat) (r : Rec) : Bool := r.sent < d.get F.HLK_RETRY_MAX p + 1 && (d.T : Int) ≤ r.fireTime - r.need

/-- Records from the first unacknowledged one on are to be sent again; from the first that may not, they are abandoned (R253). -/
def Dev.sendAgain (d : Dev) (p : Nat) : Dev :=
  let rs := (d.port p).recs
  let un := rs.dropWhile (fun r => r.sent = 0 || r.acked)
  match un.find? (fun r => 0 < r.sent && !r.acked && !d.resendable p r) with
  | some bad =>
    let lost := rs.dropWhile (fun r => r ≠ bad)
    (d.modPort p (fun q => { q with recs := q.recs.map (fun r => if 0 < r.sent && !r.acked && !lost.elem r then { r with again := true } else r) })).abandon p lost
  | none => d.modPort p (fun q => { q with recs := q.recs.map (fun r => if 0 < r.sent && !r.acked then { r with again := true } else r) })

/-- The next record frame of a port starts at a frame boundary (R246, R253): a record to be sent again before a new one, at most 8 sent and unconfirmed. -/
def Dev.sendRec (d : Dev) (p : Nat) (tickle : Bool) : Dev :=
  let d := d.laneTick p
  let q := d.port p
  if !d.receives p || !q.onLane || d.underWay p then d
  else
    match q.recs.find? (fun r => r.again) with
    | some r =>
      if r.tickle ≠ tickle then d
      else if !d.resendable p r then d.abandon p (q.recs.dropWhile (fun x => x ≠ r))
      else
        let d := (d.bump F.HLK_ERR_RETRANS p).laneStart p (if r.tickle then 2 else 1) r.words
        d.modPort p (fun q => { q with recs := q.recs.map (fun x => if x = r then { r with sent := r.sent + 1, sentAt := d.now, again := false } else x) })
    | none =>
      match q.recs.find? (fun r => r.sent = 0) with
      | some r =>
        if r.tickle ≠ tickle || 8 ≤ (q.recs.filter (fun x => 0 < x.sent)).length then d
        else
          let d := d.laneStart p (if r.tickle then 2 else 1) r.words
          d.modPort p (fun q => { q with recs := q.recs.map (fun x => if x = r then { r with sent := 1, sentAt := d.now } else x) })
      | none => d

/-- FIRE: a FIRE record's frame starts. -/
def execFire (p : Port) (s : State) : Host.Outcome State Fault Refusal := .next (s.onDev (fun d => d.sendRec p.val false))

/-- TICKLE: a TICKLE record's frame starts. -/
def execTickle (p : Port) (s : State) : Host.Outcome State Fault Refusal := .next (s.onDev (fun d => d.sendRec p.val true))

/-- Records up to a SEQ are acknowledged (R253). -/
def Dev.ackUpTo (d : Dev) (p seq : Nat) : Dev :=
  let rs := (d.port p).recs
  match rs.findIdx? (fun r => r.seq = seq && 0 < r.sent) with
  | some k => d.modPort p (fun q => { q with recs := q.recs.zipIdx.map (fun e => if e.2 ≤ k then { e.1 with acked := true, again := false } else e.1) })
  | none => d

/-- A record has been executed or discarded by the head (R255). -/
def Dev.fired (d : Dev) (p seq code : Nat) : Dev :=
  let rs := (d.port p).recs
  match rs.findIdx? (fun r => r.seq = seq && 0 < r.sent) with
  | none => d
  | some k =>
    if code = 2 then
      let stale := ((rs.take (k + 1)).filter (fun r => match r.job with | some i => d.dropsFor i | none => false)).length
      (d.bump F.SLU_STALE_CNT 0 0 stale).modPort p (fun q => { q with recs := q.recs.drop (k + 1) })
    else
      match rs[k]? with
      | none => d
      | some r =>
        let d := d.modPort p (fun q => { q with recs := q.recs.eraseIdx k })
        let d := match r.job with | some i => if d.dropsFor i then d.bump F.SLU_STALE_CNT else d | none => d
        if r.tickle then d
        else if code = 0 then d.set F.HLK_CONF (d.get F.HLK_CONF p + 1) p
        else
          let d := d.report (175 + groupOf p) p
          match r.job with | some i => if d.dropsFor i then d else d.addRange i r.bar 1 r.line | none => d

/-- CONFIRM (R247, R253, R255). -/
def execConfirm (p : Port) (w : Word) (s : State) : Host.Outcome State Fault Refusal :=
  .next (s.onDev (fun d =>
    let p := p.val
    let v := w.toNat
    if !(d.port p).linked || !(d.port p).bcLock then d
    else
      let d := d.heard p
      let d := if bit v 23 || bit v 22 then d.ackUpTo p (bits v 24 8) else d
      let d := if bit v 22 then (d.hlkErr p F.HLK_ERR_CRC).sendAgain p else d
      let d := if bit v 7 then d.fired p (bits v 8 8) (bits v 0 3) else d
      d.memKick p))

/-- ACK_TIMEOUT: no ACK within ACK_TMO_NS of a record's frame end (R253). -/
def execAckTimeout (p : Port) (s : State) : Host.Outcome State Fault Refusal :=
  .next (s.onDev (fun d =>
    let p := p.val
    let late (r : Rec) : Bool := 0 < r.sent && !r.acked && !r.again && r.sentAt + d.wordsNs p (r.words.length + 2) + d.get F.HLK_RETRY_ACK_TMO_NS p ≤ d.now
    if (d.port p).recs.any late then d.sendAgain p else d))

/-! ### Head status (R219, R258) -/

/-- STATUS: the temperature is copied, and the first valid one after UP sets the gain (R219, R258). -/
def execStatus (p : Port) (w : Word) (s : State) : Host.Outcome State Fault Refusal :=
  .next (s.onDev (fun d =>
    let p := p.val
    let v := w.toNat
    let q := d.port p
    if !q.linked || !q.bcLock then d
    else
      let d := d.heard p
      match d.portHome p with
      | some (b, sl) =>
        let d := d.set F.FIRE_B_S_TEMP (bits v 16 16) b sl
        if !bit v 15 then d
        else
          let d := d.modPort p (fun q => { q with tempAt := some d.now, staleRep := false })
          if q.st = .up && !q.gainSet then (d.set F.FIRE_B_S_GAIN (d.ampTarget b sl) b sl).modPort p (fun q => { q with gainSet := true }) else d
      | none => d))

/-- HEAD_TEMP_STALE: no valid report for 100 ms (R219). -/
def execHeadTempStale (p : Port) (s : State) : Host.Outcome State Fault Refusal :=
  .next (s.onDev (fun d =>
    let q := d.port p.val
    match d.portHome p.val with
    | some (b, _) =>
      if q.st = .up && !q.staleRep && Nat.max q.since (q.tempAt.getD 0) + 100000000 ≤ d.now then
        (d.modPort p.val (fun q => { q with staleRep := true })).report (137 + b)
      else d
    | none => d))

/-- ALERT (R258). -/
def execAlert (p : Port) (code : Byte) (s : State) : Host.Outcome State Fault Refusal :=
  .next (s.onDev (fun d =>
    if (d.port p.val).linked && (d.port p.val).bcLock then
      (((d.heard p.val).set F.HLK_ALERT_CODE code.toNat p.val).bump F.HLK_ALERT_COUNT p.val).report 183 p.val
    else d))

/-! ### The end of a job (R111, R264) -/

/-- JOB_DONE: the last bar has fired or dropped the last line of the last print (R111). A chain that its claim bar's horizon has not reached by then, a guard shorter
than the gap, is claimed here; the spec leaves that case open, and it is the model's choice. -/
def execJobDone (i : JobIdx) (s : State) : Host.Outcome State Fault Refusal :=
  .next (s.onDev (fun d =>
    let i := i.val
    let j := d.job i
    match j.length with
    | some n =>
      if j.st = .running && j.ctx.bars.all (fun b => n ≤ (j.bar b).rel + j.ctx.gapLines) then
        let line := (j.ctx.bars.filterMap (fun b => (j.bar b).lastFired)).foldl Nat.max 0
        let before := d
        let d := d.modJob i (fun j => { j with st := .done, prints := sat 0xFFFFFFFF (n / Nat.max 1 j.ctx.period) })
        let d := if j.ctx.chain && j.succ.isNone && !j.broken then Dev.claim (j.p0 + n) 512 i d else d
        let d := ((d.leaveRunning i).adoptAll).lampsHold j.ctx.barMask j.ctx.width
        let d := d.jobEvent i 0 (2 + (if (d.job i).broken then 0x200 else 0)) (d.job i).prints line
        let d := Dev.watchReserve before d.finishResume
        (j.ctx.bars.flatMap (fun b => (d.heads b).map (fun e => e.2.port))).foldl (fun d p => d.usageRead p) d
      else d
    | none => d))

end Sys2Proof.Machine
end

