-- ==== Sys2Proof/Machine/Vintner.lean ====
section
/-! DEFINITION. The Vintner loop: strips at the camera, the tone computation in IEEE 754 double precision, strip records and nozzle states (file 12, R338 to
R349, R356, R358). -/

namespace Sys2Proof.Machine

/-! ### Colours and tones (R344, R345, R347) -/

/-- A CIELAB colour in double precision. -/
structure Lab where
  l : Float
  a : Float
  b : Float

/-- A colour from words of the units of R330: L* and signed a* and b*, each in 1/256. -/
def labOf (l a b : Int) : Lab := ⟨Float.ofInt l / 256, Float.ofInt a / 256, Float.ofInt b / 256⟩

/-- ΔE*ab of CIE 1976 (R344). -/
def dEab (p q : Lab) : Float := Float.sqrt ((p.l - q.l) * (p.l - q.l) + (p.a - q.a) * (p.a - q.a) + (p.b - q.b) * (p.b - q.b))

/-- The hue angle of CIE 142 in degrees, 0 to 360; 0 for a grey. -/
def hueDeg (b a : Float) : Float :=
  if a == 0 && b == 0 then 0
  else
    let h := Float.atan2 b a * 180 / 3.141592653589793
    if h < 0 then h + 360 else h

/-- ΔE00 of CIE 142 with kL = kC = kH = 1 (R347). -/
def dE00 (p q : Lab) : Float :=
  let rad (x : Float) : Float := x * 3.141592653589793 / 180
  let c1 := Float.sqrt (p.a * p.a + p.b * p.b)
  let c2 := Float.sqrt (q.a * q.a + q.b * q.b)
  let cm7 := Float.pow ((c1 + c2) / 2) 7
  let g := 0.5 * (1 - Float.sqrt (cm7 / (cm7 + 6103515625)))
  let a1 := (1 + g) * p.a
  let a2 := (1 + g) * q.a
  let k1 := Float.sqrt (a1 * a1 + p.b * p.b)
  let k2 := Float.sqrt (a2 * a2 + q.b * q.b)
  let h1 := hueDeg p.b a1
  let h2 := hueDeg q.b a2
  let grey := k1 * k2 == 0
  let dh := if grey then 0 else if Float.abs (h2 - h1) ≤ 180 then h2 - h1 else if 180 < h2 - h1 then h2 - h1 - 360 else h2 - h1 + 360
  let dL := q.l - p.l
  let dC := k2 - k1
  let dH := 2 * Float.sqrt (k1 * k2) * Float.sin (rad (dh / 2))
  let lm := (p.l + q.l) / 2
  let cm := (k1 + k2) / 2
  let hm := if grey then h1 + h2 else if Float.abs (h1 - h2) ≤ 180 then (h1 + h2) / 2 else if h1 + h2 < 360 then (h1 + h2 + 360) / 2 else (h1 + h2 - 360) / 2
  let t := 1 - 0.17 * Float.cos (rad (hm - 30)) + 0.24 * Float.cos (rad (2 * hm)) + 0.32 * Float.cos (rad (3 * hm + 6)) - 0.20 * Float.cos (rad (4 * hm - 63))
  let sl := 1 + 0.015 * (lm - 50) * (lm - 50) / Float.sqrt (20 + (lm - 50) * (lm - 50))
  let sc := 1 + 0.045 * cm
  let sh := 1 + 0.015 * cm * t
  let k7 := Float.pow cm 7
  let rc := 2 * Float.sqrt (k7 / (k7 + 6103515625))
  let z := (hm - 275) / 25
  let rt := 0 - Float.sin (rad (60 * Float.exp (0 - z * z))) * rc
  Float.sqrt (dL / sl * (dL / sl) + dC / sc * (dC / sc) + dH / sh * (dH / sh) + rt * (dC / sc) * (dH / sh))

/-- The piecewise-linear function through points of ascending x; beyond the last point its segment goes on. -/
def pieceAt (x : Float) : List (Float × Float) → Float
  | [] => 0
  | [p] => p.2
  | p :: q :: r => if x ≤ q.1 || r.isEmpty then p.2 + (x - p.1) / (q.1 - p.1) * (q.2 - p.2) else pieceAt x (q :: r)

/-- Running maxima from a start value (R344). -/
def risingFrom (m : Float) : List Float → List Float
  | [] => []
  | x :: r => let y := if m < x then x else m; y :: risingFrom y r

/-- The new entries of a curve (R344), unrounded against NaN: levels, measured tones m[1..], target tones tt[1..], the old entries and KGAIN. -/
def newCurve (levels : List Nat) (m tt : List Float) (old : List Nat) (kgain : Nat) : List Float :=
  let ds : List Float := levels.map (fun (v : Nat) => Float.ofNat (v * 257))
  let target : List (Float × Float) := (0, 0) :: (levels.map (fun (v : Nat) => Float.ofNat v)).zip tt
  let inverse : List (Float × Float) := (0, 0) :: m.zip ds
  let top := m.getLast?.getD 0
  (List.range 256).map (fun v =>
    if v = 0 then 0
    else
      let y := pieceAt (Float.ofNat v) target
      let y := if top < y then top else y
      let o := Float.ofNat (old.getD v 0)
      Float.round (o + Float.ofNat kgain * (pieceAt y inverse - o) / 256))

/-- Is a computed curve implausible (R345). -/
def implausible (m new : List Float) (old : List Nat) (minStep maxDev : Nat) : Bool :=
  ((0 :: m).zip m).any (fun e => e.2 - e.1 < Float.ofNat minStep / 256) ||
    (new.zip old).any (fun e => e.1.isNaN || e.1.isInf || Float.ofNat maxDev < Float.abs (e.1 - Float.ofNat e.2))

/-- A computed entry as a number. -/
def entryOf (x : Float) : Nat := x.toUInt64.toNat % 65536

/-- A bank of curve entries: its words that differ from the reset content. -/
def curveBank (set port : Nat) (vals : List Nat) : RegFile :=
  ((List.range 128).map (fun k => (0x20000 * set + 0x200 * port + 4 * k, vals.getD (2 * k) 0 + vals.getD (2 * k + 1) 0 * 65536))).filter (fun e => e.2 ≠ bar2Reset e.1)

/-- A tone or residual as u8.8; which neighbour a value between two takes is open, and so is one beyond the format. -/
def toU88 (rule : Nat) (x : Float) : Nat :=
  let f := Float.floor (x * 256)
  let n := f.toUInt64.toNat
  if 65536 ≤ n then (Config.wideTone n).toNat
  else if f < x * 256 && Config.roundUp rule n 1 then Nat.min 65535 (n + 1) else n

/-! ### Measuring (R341, R342) -/

/-- A head of a bar for measuring: its even port and its measuring region before EDGE. -/
structure MeasHead where
  port : Nat
  lo   : Nat
  hi   : Nat
  deriving DecidableEq, Repr

/-- The heads of a bar; a trellis pair is one head, and columns that another head also covers are left out (R342). -/
def Dev.measHeads (d : Dev) (b : Nat) : List MeasHead :=
  let hs := (d.heads b).filter (fun e => !(e.2.pair && e.1 % 2 = 1))
  let ext : List (Nat × Nat × Nat) := hs.map (fun e => (e.2.port, e.2.col0, if e.2.pair then e.2.last + 4096 else e.2.last))
  ext.map (fun e =>
    { port := e.1,
      lo := (ext.filter (fun o => o.1 ≠ e.1 && o.2.1 ≤ e.2.1)).foldl (fun n o => Nat.max n (o.2.2 + 1)) e.2.1,
      hi := (ext.filter (fun o => o.1 ≠ e.1 && e.2.1 < o.2.1)).foldl (fun n o => Nat.min n (o.2.1 - 1)) e.2.2 })

/-- Does a camera line belong to the press lines f to f + n − 1 (R341). -/
def Dev.camIn (d : Dev) (f n t : Nat) : Bool :=
  match d.vin.trigs.find? (fun e => e.1 = t) with
  | some e => d.refLine f ≤ e.2 && e.2 < d.refLine (f + n : Nat)
  | none => false

/-- Do the lines of a cell row, with GUARD more at each end, all belong to a part (R342). -/
def Dev.rowIn (d : Dev) (r : VinRec) (j f n : Nat) : Bool :=
  let g := d.get F.VIN_CFG_GUARD
  let a := r.first + r.gy + j * r.ch
  let z := r.first + Nat.min r.lines (r.gy + (j + 1) * r.ch)
  a < z && g ≤ a && (List.range (z - a + 2 * g)).all (fun k => d.camIn f n (a - g + k))

/-- The bar column of a pixel of the window (R341). -/
def Dev.camColumn (d : Dev) (x : Nat) : Int := Int.fdiv (signed 32 (d.get F.VIN_MAP0_COL_OFS) * 16 + (x * d.get F.VIN_MAP1_COL_PER_PX : Nat)) 65536

/-- Do the columns of a cell column lie in a head's measuring region (R342). -/
def Dev.colIn (d : Dev) (r : VinRec) (i : Nat) (h : MeasHead) : Bool :=
  let a := r.gx + i * r.cw
  let z := Nat.min r.width (a + r.cw)
  let e : Int := d.get F.VIN_MAP2_EDGE
  a < z && (h.lo : Int) + e ≤ d.camColumn a && d.camColumn (z - 1) ≤ (h.hi : Int) - e

/-- A measured value: the weighted sums of the three components, the pixels, and the usable cells. -/
structure Measured where
  s0 : Int := 0
  s1 : Int := 0
  s2 : Int := 0
  n  : Nat := 0
  cells : Nat := 0
  frame : Option Nat := none
  deriving DecidableEq, Repr

/-- The usable cells of the records for a head, over the press lines of some parts (R342). -/
def Dev.measure (d : Dev) (h : MeasHead) (parts : List (Nat × Nat)) : Measured :=
  (d.vin.recs.filter (fun r => !r.bad)).foldl (fun m r =>
    let rows := (List.range r.ny).filter (fun j => parts.any (fun p => d.rowIn r j p.1 p.2))
    let cols := (List.range r.nx).filter (fun i => d.colIn r i h)
    rows.foldl (fun m j => cols.foldl (fun (m : Measured) i =>
      match r.cells[j * r.nx + i]? with
      | some [a, b, c, n] =>
        if n = 0 then m
        else { s0 := m.s0 + signed 16 a * n, s1 := m.s1 + signed 16 b * n, s2 := m.s2 + signed 16 c * n, n := m.n + n, cells := m.cells + 1,
               frame := some (m.frame.getD r.frame) }
      | _ => m) m) m) {}

/-- The mean colour of a value. -/
def Measured.lab (m : Measured) : Lab :=
  let n := Float.ofNat m.n * 256
  ⟨Float.ofInt m.s0 / n, Float.ofInt m.s1 / n, Float.ofInt m.s2 / n⟩

/-- The mean in the units of R330. -/
def Measured.words (m : Measured) (rule : Nat) : List Int := [m.s0, m.s1, m.s2].map (fun s => openRound rule s (Nat.max 1 m.n : Nat))

/-- A strip's length. -/
def Strip.len (x : Strip) : Nat := x.plan.size (barsOf x.bars).length

/-- The first line of a patch row (R339). -/
def Strip.patch (x : Strip) (k i : Nat) : Nat := x.line + x.plan.lead + k * (x.plan.levels.length * x.plan.patch + x.plan.check) + i * x.plan.patch

/-- The paper and patch values of a head, the bar having rank k in the strip. -/
def Dev.headValues (d : Dev) (x : Strip) (k : Nat) (h : MeasHead) : List Measured :=
  d.measure h [(x.line, x.plan.lead), (x.line + x.len - x.plan.lead, x.plan.lead)] ::
    (List.range x.plan.levels.length).map (fun i => d.measure h [(x.patch k i, x.plan.patch)])

/-- Does the context that VIN_CFG names meet R341: VIN, LAB and EN 1, a triggered port, a grid. -/
def Dev.vinContext (d : Dev) : Bool :=
  let k := d.get F.VIN_CFG_CTX
  let f := (d.isp.getD k {}).force
  let on (x : Field) : Nat := f.get x k 0
  d.flag F.ISP_K_CFG_EN k && on F.ISP_K_CFG_VIN = 1 && on F.ISP_K_CFG_LAB = 1 && !(d.cam.getD (on F.ISP_K_CFG_SRC) {}).free &&
    on F.ISP_K_GN_NX ≠ 0 && on F.ISP_K_GN_NY ≠ 0 && on F.ISP_K_GCELL_W ≠ 0 && on F.ISP_K_GCELL_H ≠ 0

/-- The last measurement of a port, published in BAR2 (R358). -/
def Dev.publish (d : Dev) (port : Nat) (vs : List Measured) : Dev :=
  let es := vs.zipIdx.map (fun e =>
    let w := e.1.words 342
    (port, e.2, unsigned 16 (w.getD 1 0) * 65536 + unsigned 16 (w.getD 0 0), Nat.min 255 e.1.cells * 2 ^ 24 + unsigned 16 (w.getD 2 0)))
  { d with vin := { d.vin with meas := d.vin.meas.filter (fun e => !(e.1 = port && e.2.1 < vs.length)) ++ es } }

/-! ### The tone computation and its placing (R344 to R347) -/

/-- A bar's target at a level (R358). -/
def Dev.target (d : Dev) (b i : Nat) : Lab :=
  let w0 := d.bar2Word (0xB00000 + 0x40 * b + 8 * i)
  let w1 := d.bar2Word (0xB00004 + 0x40 * b + 8 * i)
  labOf (bits w0 0 16) (signed 16 (bits w0 16 16)) (signed 16 w1)

/-- Are all targets of a bar zero. -/
def Dev.noTarget (d : Dev) (b n : Nat) : Bool :=
  (List.range n).all (fun i => d.bar2Word (0xB00000 + 0x40 * b + 8 * i) = 0 && d.bar2Word (0xB00004 + 0x40 * b + 8 * i) = 0)

/-- The result of a head: whether some curve was implausible, whether some port was busy, whether some curve was placed, and its K. -/
structure HeadResult where
  rej : Bool := false
  upd : Option Nat := none
  busy : Bool := false
  deriving DecidableEq, Repr

/-- The curve of a port in the bank in force for the lowest press line that its bar has not yet read (R344). -/
def Dev.oldCurve (d : Dev) (set port b : Nat) : List Nat :=
  let bank := (d.ktab 1 set port).bankFor (d.nextRead b)
  (List.range 256).map (fun v => bankEntry bank (0x20000 * set + 0x200 * port + 2 * v) 16)

/-- The words of the target window (R358). -/
def Dev.targetWords (d : Dev) : List Nat := (List.range 128).map (fun k => d.bar2Word (0xB00000 + 4 * k))

/-- One set of a head: its curve is computed, judged and, with AUTO_TONE, placed (R344 to R346). -/
def Dev.headSet (d : Dev) (x : Strip) (b set : Nat) (h : MeasHead) (vs : List Measured) : HeadResult × Dev :=
  let paper := (vs.headD {}).lab
  let m := (vs.drop 1).map (fun v => dEab v.lab paper)
  let tt := risingFrom 0 ((List.range x.plan.levels.length).map (fun i => dEab (d.target b i) paper))
  let old := d.oldCurve set h.port b
  let new := newCurve x.plan.levels m tt old (d.get F.VIN_CFG_KGAIN)
  if implausible m new old (d.get F.VIN_PLAUS_MIN_STEP) (d.get F.VIN_PLAUS_MAX_DEV) then ({ rej := true }, d)
  else if !d.flag F.VIN_CFG_AUTO_TONE then ({}, d)
  else
    let t := d.ktab 1 set h.port
    if t.sw.isSome || d.tabBusy t then ({ busy := true }, d.bump F.VIN_B_CNT_BUSY b)
    else
      let r := d.tabUpdate 1 set [h.port] 0 (d.get F.VIN_RAMP) (fun p d => (curveBank set p (new.map entryOf), d))
      let e : ToneEntry := { set, port := h.port, paper := ((vs.headD {}).words 352).map (fun w => unsigned 16 w), m := m.map (toU88 352) }
      ({ upd := some r.2.1 },
       ({ r.2.2 with vin := { r.2.2.vin with
          tones := r.2.2.vin.tones.filter (fun y => !(y.set = set && y.port = h.port)) ++ [e],
          toneSets := r.2.2.vin.toneSets.filter (fun y => y.set ≠ set) ++ [⟨set, x.plan.levels, d.targetWords⟩] } } : Dev).calRequest set)

/-- A head of a measured bar over the sets of SET_MASK. -/
def Dev.headTones (d : Dev) (x : Strip) (b : Nat) (h : MeasHead) (vs : List Measured) : HeadResult × Dev :=
  let r := ((List.range 4).filter (fun k => bit (d.get F.VIN_CFG_SET_MASK) k)).foldl (fun (e : HeadResult × Dev) set =>
    let y := e.2.headSet x b set h vs
    ({ rej := e.1.rej || y.1.rej, busy := e.1.busy || y.1.busy, upd := match e.1.upd with | some k => some k | none => y.1.upd }, y.2)) (({} : HeadResult), d)
  let d := if r.1.rej then r.2.bump F.VIN_B_CNT_REJECT b else r.2
  (r.1, if r.1.upd.isSome then d.bump F.VIN_B_CNT_UPDATES b else d)

/-- The differences between the targets and the colours predicted at the curve in force, for each level of a head (R347). -/
def Dev.residuals (d : Dev) (x : Strip) (b : Nat) (h : MeasHead) (vs : List Measured) : List Float :=
  let old := d.oldCurve x.lut h.port b
  let pts (c : Lab → Float) : List (Float × Float) := ((0 :: x.plan.levels).map (fun (v : Nat) => Float.ofNat (v * 257))).zip (vs.map (fun v => c v.lab))
  x.plan.levels.zipIdx.map (fun e =>
    let dem := Float.ofNat (old.getD e.1 0)
    dE00 (d.target b e.2) ⟨pieceAt dem (pts Lab.l), pieceAt dem (pts Lab.a), pieceAt dem (pts Lab.b)⟩)

/-- What a strip record says of a bar (R348): STATUS, UPD, REJ, RES_MAX, RES_MEAN, KEY, and the first frame used. -/
structure BarResult where
  status : Nat := 3
  upd    : Nat := 0
  rej    : Nat := 0
  resMax : Nat := 0
  resMean : Nat := 0
  key    : Nat := 0
  frame  : Option Nat := none
  deriving DecidableEq, Repr

/-- A bar with data. -/
def Dev.barTones (d : Dev) (x : Strip) (b : Nat) (vals : List (MeasHead × List Measured)) : BarResult × Dev :=
  let frame := (vals.flatMap (fun e => e.2)).filterMap (fun v => v.frame)
  let d := vals.foldl (fun d e => d.publish e.1.port e.2) d
  if d.noTarget b x.plan.levels.length then ({ status := 4, frame := frame.head? }, d)
  else
    let res := vals.flatMap (fun e => d.residuals x b e.1 e.2)
    let mean := toU88 347 (res.foldl (· + ·) 0 / Float.ofNat (Nat.max 1 res.length))
    let most := toU88 347 (res.foldl (fun m y => if m < y then y else m) 0)
    let r := vals.foldl (fun (e : List (Nat × HeadResult) × Dev) v => let y := e.2.headTones x b v.1 v.2; (e.1 ++ [(v.1.port, y.1)], y.2)) ([], d)
    let rej := (r.1.filter (fun e => e.2.rej)).length
    let upd := r.1.filter (fun e => e.2.upd.isSome)
    let low := upd.foldl (fun (a : Option (Nat × HeadResult)) e => match a with | some y => if e.1 < y.1 then some e else some y | none => some e) none
    let d := if rej = 0 then r.2 else r.2.report (286 + b)
    let d := (d.set F.VIN_B_RES_MAX most b).set F.VIN_B_RES_MEAN mean b
    ({ status := if !d.flag F.VIN_CFG_AUTO_TONE then 1 else if rej = 0 && r.1.all (fun e => !e.2.busy) then 0 else 2, upd := upd.length, rej,
       resMax := most, resMean := mean, key := (low.bind (fun e => e.2.upd)).getD 0, frame := frame.head? }, d)

/-- A bar of a strip: without data when the strip has none, when a value is missing or when the context does not meet R341 (R343). -/
def Dev.evalBar (d : Dev) (x : Strip) (b k : Nat) : BarResult × Dev :=
  if x.spoiled || x.fifth then ({}, d)
  else
    let vals := (d.measHeads b).map (fun h => (h, d.headValues x k h))
    if !d.vinContext || vals.any (fun e => e.2.any (fun v => v.n = 0 || v.cells < d.get F.VIN_PLAUS_MIN_CELLS)) then ({}, d.report (278 + b))
    else d.barTones x b vals

/-! ### Strip records (R348) -/

/-- A strip record. -/
def Dev.stripRecord (d : Dev) (x : Strip) (rs : List BarResult) : List Nat :=
  let check := x.line + x.plan.lead + x.plan.levels.length * x.plan.patch
  let words := [3 * 2 ^ 28 + x.tag, d.vin.stripNo % 2 ^ 32, x.line % 2 ^ 32, x.line / 2 ^ 32 % 65536, check % 2 ^ 32, check / 2 ^ 32 % 65536,
    x.len % 65536 * 65536 + x.bars, (rs.findSome? (fun r => r.frame)).getD 0 % 2 ^ 32] ++ List.replicate 8 0 ++
    rs.flatMap (fun r => [r.status * 2 ^ 24 + Nat.min 255 r.upd * 65536 + Nat.min 255 r.rej * 256, r.resMax * 65536 + r.resMean, r.key % 2 ^ 32, r.key / 2 ^ 32 % 65536])
  pad64Bytes (wordBytes words)

/-- A strip record joins its ring or is lost (R333, R348). -/
def Dev.putStrip (d : Dev) (b : List Nat) : Dev :=
  let d := if d.get F.VIN_RING_SIZE = 0 then d
    else match d.ringRecord 5 0 (d.get F.VIN_RING_BASE * 4096) (d.get F.VIN_RING_SIZE * 4096) (d.get F.VIN_RING_WR * 64) (d.get F.VIN_RING_RD * 64) b with
      | some (d, wr) => d.set F.VIN_RING_WR (wr / 64)
      | none => d.bump F.VIN_STAT_LOST
  d.irq F.VIN_IRQ_STAT F.VIN_IRQ_EN 0 none

/-- Records and camera lines before a strip's end are forgotten. -/
def Dev.vinPrune (d : Dev) (q : Int) : Dev :=
  let trigs := d.vin.trigs.filter (fun e => q ≤ e.2)
  { d with vin := { d.vin with trigs, recs := d.vin.recs.filter (fun r => trigs.any (fun e => r.first ≤ e.1 && e.1 < r.first + r.lines)) } }

/-- A strip is evaluated (R343). -/
def Dev.evalStrip (d : Dev) (x : Strip) : Dev :=
  let d := if x.spoiled && !x.fifth then d.bump F.VIN_STAT_DISCARDED else d
  let r := (barsOf x.bars).zipIdx.foldl (fun (e : List BarResult × Dev) b => let y := e.2.evalBar x b.1 b.2; (e.1 ++ [y.1], y.2)) ([], d)
  let d : Dev := { r.2 with vin := { r.2.vin with stripNo := r.2.vin.stripNo + 1 } }
  (d.putStrip (d.stripRecord x r.1)).vinPrune (d.refLine (x.line + x.len : Nat))

/-- STRIP_COMPLETE: Q_cam has passed the last line of the first strip that is not complete (R343). -/
def execStripComplete (s : State) : Host.Outcome State Fault Refusal :=
  .next (s.onDev (fun d =>
    match d.vin.strips.findIdx? (fun x => !x.complete) with
    | some k =>
      match d.vin.strips[k]? with
      | some x =>
        if d.procOn && d.refLine (x.line + x.len : Nat) ≤ d.qcam then
          { d with vin := { d.vin with strips := setAt d.vin.strips k (fun (y : Strip) => { y with complete := true }) } }
        else d
      | none => d
    | none => d))

/-- STRIP_EVALUATE: the first strip, once complete; one whose index is DRAINING is dropped as a stale measurement (R112, R343). -/
def execStripEvaluate (s : State) : Host.Outcome State Fault Refusal :=
  .next (s.onDev (fun d =>
    match d.vin.strips with
    | x :: r =>
      if d.procOn && x.complete then
        let d : Dev := { d with vin := { d.vin with strips := r } }
        d.completion x.job (fun d => d.evalStrip x)
      else d
    | [] => d))

/-- VIN_ENABLE: a rise restarts STRIP_NO, and 0 abandons the strips that wait (R348, R356). -/
def execVinEnable (rq : Requester) (w : Word) (s : State) : Host.Outcome State Fault Refusal :=
  .next (s.roleWrite rq (.vinEnable rq w) 0xB0008 none (fun d => d.get F.VIN_CTRL_ENABLE) (fun d =>
    let on := w.toNat.testBit 0
    let d : Dev := if on then (if d.flag F.VIN_CTRL_ENABLE then d else { d with vin := { d.vin with stripNo := 0 } })
      else { d with vin := { d.vin with strips := [] } }
    d.set F.VIN_CTRL_ENABLE (b2n on)))

/-- VIN_COUNT_CLEAR (R356). -/
def execVinCountClear (rq : Requester) (b : Bar) (s : State) : Host.Outcome State Fault Refusal :=
  .next (s.row rq (.vinCountClear rq b) (0xB0104 + 0x10 * b.val) (2 ^ 31) ⟨31, none⟩
    (fun d => ((d.set F.VIN_B_CNT_REJECT 0 b.val).set F.VIN_B_CNT_BUSY 0 b.val).set F.VIN_B_CNT_UPDATES 0 b.val))

/-! ### Nozzle states (R349) -/

/-- The NOZSTATE bank in force for the lowest line that the port's bar has not read. -/
def Dev.nozBank (d : Dev) (port : Nat) : RegFile :=
  let t := d.ktab 3 0 port
  match d.portHome port with
  | some (b, _) => t.bankFor (d.nextRead b)
  | none => t.bank

/-- The state of a nozzle after the entries that wait. -/
def Dev.nozAfter (d : Dev) (port n : Nat) : Nat :=
  match (d.vin.noz.filter (fun e => e.port = port && e.nozzle = n)).getLast? with
  | some e => e.state
  | none => bankEntry (d.nozBank port) (0x500000 + 0x1000 * port + n) 8 % 4

/-- A write to VIN_NOZ_SUB queues a change; a change that AUTO does not let through is held. -/
def Dev.nozSubmit (d : Dev) (w : Nat) : Dev :=
  let st := if bits w 30 2 = 3 then 1 else bits w 30 2
  let port := Nat.min 191 (bits w 16 8)
  let n := bits w 0 12
  if 256 ≤ d.vin.noz.length then d.bump F.VIN_NOZ_STAT2_LOST
  else
    let held := !(d.flag F.VIN_NOZ_CFG_AUTO && st ≠ 2 && d.nozAfter port n ≠ 2)
    let d : Dev := { d with vin := { d.vin with noz := d.vin.noz ++ [⟨port, n, st, held⟩] } }
    if held then d.irq F.VIN_IRQ_STAT F.VIN_IRQ_EN 1 none else d

/-- NOZZLE_STATE_SUBMIT. -/
def execNozzleStateSubmit (rq : Requester) (w : Word) (s : State) : Host.Outcome State Fault Refusal :=
  .next (s.roleWrite rq (.nozzleStateSubmit rq w) 0xB0074 (some .operator) (fun _ => 0) (fun d => d.nozSubmit w.toNat))

/-- A byte of a NOZSTATE bank replaced. -/
def nozPut (bank : RegFile) (port n st : Nat) : RegFile :=
  let a := 0x500000 + 0x1000 * port + n
  let k := a / 4 * 4
  let w := bankWord bank k
  let v := w - bits w (8 * (a % 4)) 8 * 2 ^ (8 * (a % 4)) + st * 2 ^ (8 * (a % 4))
  if v = bar2Reset k then bank.drop k else (bank.drop k).put k v

/-- The applicable entries of a port go into one update with R 0 and K 0; a port that would give BUSY keeps them. -/
def Dev.nozPort (d : Dev) (port : Nat) : Dev :=
  let es := d.vin.noz.filter (fun e => e.port = port && !e.held)
  if es.isEmpty || d.tabBusy (d.ktab 3 0 port) then d
  else
    let bank := es.foldl (fun b e => nozPut b port e.nozzle e.state) (d.nozBank port)
    let r := d.tabUpdate 3 0 [port] 0 0 (fun _ d => (bank, d))
    let d : Dev := { r.2.2 with vin := { r.2.2.vin with noz := r.2.2.vin.noz.filter (fun e => !(e.port = port && !e.held)) } }
    (d.bump F.VIN_NOZ_STAT_APPLIED 0 0 es.length).calRequest 4

/-- NOZZLE_BATCH. -/
def execNozzleBatch (s : State) : Host.Outcome State Fault Refusal :=
  .next (s.onDev (fun d => if d.procOn then (List.range 192).foldl (fun d p => d.nozPort p) d else d))

/-- NOZZLE_APPROVE: every held entry becomes applicable. -/
def execNozzleApprove (rq : Requester) (s : State) : Host.Outcome State Fault Refusal :=
  .next (s.row rq (.nozzleApprove rq) 0xB0080 1 ⟨0, some .installer⟩
    (fun d => { d with vin := { d.vin with noz := d.vin.noz.map (fun (e : NozEntry) => { e with held := false }) } }))

/-- NOZZLE_DISCARD: every held entry is dropped. -/
def execNozzleDiscard (rq : Requester) (s : State) : Host.Outcome State Fault Refusal :=
  .next (s.row rq (.nozzleDiscard rq) 0xB0080 2 ⟨1, some .installer⟩ (fun d => { d with vin := { d.vin with noz := d.vin.noz.filter (fun e => !e.held) } }))

end Sys2Proof.Machine
end

