-- ==== Sys2Proof/Machine/Cal.lean ====
section
/-! DEFINITION. Calibration records in MRAM: their bodies, writing them, and restoring them at boot (file 12, R350 to R355, R357). -/

namespace Sys2Proof.Machine

/-! ### Places and headers (R350, R351, R353) -/

/-- The offset of a kind's slot in the calibration area. -/
def calOffset (kind slot : Nat) : Nat :=
  if kind < 4 then 0x4000 * kind + 0x2000 * slot
  else [(0x10000, 0x14400), (0x18800, 0x18C00), (0x19000, 0x19800), (0x1A000, 0x1A400), (0x1A800, 0x1B000)].getD (kind - 4) (0, 0) |>
    fun e => if slot = 0 then e.1 else e.2

/-- A slot of the calibration area. -/
def Dev.calSlot (d : Dev) (kind slot : Nat) : CalSlot := (d.mram.cal.find? (fun c => c.kind = kind && c.slot = slot)).getD ⟨kind, slot, [], 0⟩

/-- A slot replaced. -/
def Dev.setCal (d : Dev) (c : CalSlot) : Dev :=
  { d with mram := { d.mram with cal := d.mram.cal.filter (fun x => !(x.kind = c.kind && x.slot = c.slot)) ++ [c] } }

/-- A record: the header and the body. -/
def calRecord (kind seq time writes : Nat) (trunc : Bool) (body : List Nat) : List Nat :=
  let head := [0x4B43414C, kind * 2 ^ 24 + 0x10000 + b2n trunc, seq, 4 * body.length, time % 2 ^ 32, time / 2 ^ 32 % 2 ^ 32, writes % 2 ^ 32]
  head ++ [crc32 (wordBytes (head ++ body))] ++ body

/-- Is a slot valid for a kind and the low bits of a SEQ (R355). -/
def calValid (kind seq : Nat) (w : List Nat) : Bool :=
  w.getD 0 0 = 0x4B43414C && bits (w.getD 1 0) 16 16 = kind * 256 + 1 && w.getD 7 0 = crc32 (wordBytes (w.take 7 ++ w.drop 8)) && w.getD 2 0 % 2 ^ 24 = seq

/-! ### Bodies (R352) -/

/-- A TONE body of a LUT set: the levels and targets of the last update placed for it, or as they stand before any (R352). -/
def Dev.toneBody (d : Dev) (set : Nat) : List Nat :=
  let es := (List.range 192).filterMap (fun p => d.vin.tones.find? (fun e => e.set = set && e.port = p))
  let lev := d.get F.VIN_LEV
  let x := (d.vin.toneSets.find? (fun y => y.set = set)).getD
    ⟨set, (List.range (d.get F.VIN_NLEV)).map (fun i => bits lev (8 * i) 8), d.targetWords⟩
  let l (i : Nat) : Nat := ofBytesLE ((x.levels.drop (4 * i)).take 4)
  [x.levels.length * 2 ^ 24 + es.length, l 0, l 1] ++ x.targets ++
    es.flatMap (fun e =>
      let m (k : Nat) := e.m.getD k 0
      [e.port, e.paper.getD 1 0 * 65536 + e.paper.getD 0 0, e.paper.getD 2 0] ++ (List.range 4).map (fun j => m (2 * j + 1) * 65536 + m (2 * j)))

/-- Every nozzle of a port that is not OK in the bank in force, as a NOZZLE entry. -/
def Dev.nozEntries (d : Dev) (p : Nat) : List Nat :=
  (d.nozBank p).flatMap (fun e => (List.range 4).filterMap (fun k =>
    let st := bits e.2 (8 * k) 2
    if st = 0 then none else some (p * 2 ^ 24 + (e.1 + k - (0x500000 + 0x1000 * p)) * 4096 + st)))

/-- All NOZZLE entries in port and nozzle order. -/
def Dev.allNozEntries (d : Dev) : List Nat := (List.range 192).flatMap d.nozEntries

/-- The body of a kind, and whether it is cut short. -/
def Dev.calBody (d : Dev) (kind : Nat) : List Nat × Bool :=
  if kind < 4 then (d.toneBody kind, false)
  else
    match kind with
    | 4 => let es := d.allNozEntries; (Nat.min 4096 es.length :: es.take 4096, 4096 < es.length)
    | 5 => ((List.range 192).map (fun p => d.get F.HLK_LINK_TRIM p * 65536 + d.get F.HLK_TXEQ_SWING p * 4096 + d.get F.HLK_TXEQ_PRE p * 256 + d.get F.HLK_TXEQ_POST p), false)
    | 6 => ((List.range 4).flatMap (fun c => d.vin.blocks.getD c (List.replicate 112 0)), false)
    | 7 => ((List.range 12).map (fun j => d.get F.THM_OFS (2 * j + 1) * 65536 + d.get F.THM_OFS (2 * j)), false)
    | _ => ((List.range 192).flatMap (fun i => [d.get F.FIRE_B_S_TRIM_VTRIM (i / 24) (i % 24) * 65536 + d.get F.FIRE_B_S_TRIM_ROW_OFS (i / 24) (i % 24),
                                                d.get F.FIRE_B_S_GEOM_GAP (i / 24) (i % 24)]), false)

/-! ### Writing (R350, R354, R357) -/

/-- CAL_RECORD_DUE: an automatic write that is due starts once MIN_S has passed since the kind's last one (R350); MRAM writes are suspended at a
thermal shutdown (R426). -/
def execCalRecordDue (kind : Fin 9) (s : State) : Host.Outcome State Fault Refusal :=
  .next (s.onDev (fun d =>
    let k := kind.val
    let ready := match RegFile.find k d.vin.lastAuto with | some t => decide (t + d.get F.VIN_CAL_CFG_MIN_S * 1000000000 ≤ d.now) | none => true
    if d.pwr.st = .on && has d.vin.due k && ready then
      { d with vin := { d.vin with due := removeAll d.vin.due k, lastAuto := (k, d.now) :: d.vin.lastAuto.filter (fun e => e.1 ≠ k), writing := d.vin.writing ++ [(k, false)] } }
    else d))

/-- A SAVE ends with a CODE (R357). -/
def Dev.saveEnd (d : Dev) (code : Nat) : Dev := ((d.set F.VIN_CAL_CMD_DONE 1).set F.VIN_CAL_CMD_CODE code).irq F.VIN_IRQ_STAT F.VIN_IRQ_EN 2 none

/-- SAVE: kind 7 below MAKER is DENIED; any other kind is written. -/
def Dev.saveKind (d : Dev) (rq : Requester) : Dev :=
  let k := d.get F.VIN_CAL_CMD_KIND
  if k = 7 && d.rights rq < 3 then d.saveEnd 1
  else { d.set F.VIN_CAL_CMD_DONE 0 with vin := { d.vin with writing := d.vin.writing ++ [(k, true)] } }

/-- SAVE: the word stores KIND as well. -/
def execSave (rq : Requester) (w : Word) (s : State) : Host.Outcome State Fault Refusal :=
  .next (s.row rq (.save rq w) 0xB00A4 w.toNat ⟨0, some .installer⟩ (fun d => d.saveKind rq))

/-- A record of a kind is written to the slot that the directory does not name: attempts that read back well or not, then the directory word (R353, R354). -/
def Dev.calWrite (d : Dev) (kind : Nat) (ok1 ok2 : Bool) : Bool × Dev :=
  let d := d.voteCasks [25 + kind]
  let dir := d.cask (25 + kind)
  let valid := bit dir 31
  let named := bits dir 30 1
  let slot := if valid then 1 - named else 0
  let prev := if valid then (d.calSlot kind named).words.getD 2 (dir % 2 ^ 24) else 0
  let seq := (prev + 1) % 2 ^ 32
  let b := d.calBody kind
  let d := if b.2 then d.report 296 else d
  let tries := if ok1 then 1 else 2
  let n := (d.calSlot kind slot).writes + tries
  let rec' := calRecord kind seq d.T n b.2 b.1
  let d := d.mramWrote (tries * rec'.length)
  if ok1 || ok2 then
    (true, ((d.setCal ⟨kind, slot, rec', n⟩).setCask (25 + kind) (2 ^ 31 + slot * 2 ^ 30 + seq % 2 ^ 24)).set F.VIN_CAL_STAT_VALID
      (d.get F.VIN_CAL_STAT_VALID ||| 2 ^ kind))
  else (false, ((d.setCal ⟨kind, slot, [], n⟩).mramFailed (0x40000 + calOffset kind slot)).report 297)

/-- CAL_RECORD_WRITE_DONE: the first write under way ends, its read-backs right or wrong (R354). -/
def execCalRecordWriteDone (ok1 ok2 : Bool) (s : State) : Host.Outcome State Fault Refusal :=
  .next (s.onDev (fun d =>
    match d.vin.writing with
    | (k, save) :: r =>
      if d.pwr.st ≠ .on || d.flag F.NVM_STAT_SUSPENDED then d
      else
        let e := ({ d with vin := { d.vin with writing := r } } : Dev).calWrite k ok1 ok2
        if save then e.2.saveEnd (if e.1 then 0 else 2) else e.2
    | [] => d))

/-! ### Restoring at boot (R355) -/

/-- The record of a kind that is used at boot, whether the other slot stands in for the named one, and whether both failed. -/
def Dev.calPick (d : Dev) (kind : Nat) : Option (List Nat) × Bool × Bool :=
  let dir := d.cask (25 + kind)
  if !bit dir 31 then (none, false, false)
  else
    let named := bits dir 30 1
    let seq := dir % 2 ^ 24
    let a := (d.calSlot kind named).words
    let b := (d.calSlot kind (1 - named)).words
    if calValid kind seq a then (some a, false, false)
    else if calValid kind ((seq + 2 ^ 24 - 1) % 2 ^ 24) b then (some b, true, false)
    else (none, false, true)

/-- A bank becomes a table's shadow and the bank in force. -/
def Dev.loadTable (d : Dev) (kind set port : Nat) (bank : RegFile) : Dev :=
  let w := tabWindow kind set port
  let d : Dev := { d with bar2 := (d.bar2.filter (fun e => !(w.1 ≤ e.1 && e.1 < w.2))) }
  let d := bank.foldl (fun d e => d.setBar2 e.1 e.2) d
  d.setKtab { kind, set, port, bank }

/-- The curve of a TONE entry, rebuilt with KGAIN 256 against the reset curve. -/
def toneCurve (nlev lev : Nat) (tgt : List Nat) (e : List Nat) : List Nat :=
  let levels := (List.range nlev).map (fun i => bits lev (8 * i) 8)
  let s16 (w : Nat) : Int := signed 16 w
  let paper := labOf (bits (e.getD 1 0) 0 16) (s16 (bits (e.getD 1 0) 16 16)) (s16 (e.getD 2 0))
  let m := (List.range nlev).map (fun i => Float.ofNat (bits (e.getD (3 + i / 2) 0) (16 * (i % 2)) 16) / 256)
  let tt := risingFrom 0 ((List.range nlev).map (fun i =>
    dEab (labOf (bits (tgt.getD (2 * i) 0) 0 16) (s16 (bits (tgt.getD (2 * i) 0) 16 16)) (s16 (tgt.getD (2 * i + 1) 0))) paper))
  (newCurve levels m tt ((List.range 256).map (fun v => v * 257)) 256).map entryOf

/-- A TONE record is applied: every port with an entry gets its curve, and the loop keeps the entries. -/
def Dev.restoreTone (d : Dev) (set : Nat) (body : List Nat) : Dev :=
  let nlev := bits (body.getD 0 0) 24 8
  let lev := body.getD 1 0 + body.getD 2 0 * 2 ^ 32
  (List.range (bits (body.getD 0 0) 0 8)).foldl (fun d k =>
    let e := (body.drop (131 + 7 * k)).take 7
    let port := e.getD 0 0 % 256
    let b := match d.portHome port with | some (b, _) => b | none => 0
    let d := d.loadTable 1 set port (curveBank set port (toneCurve nlev lev ((body.drop (3 + 16 * b)).take 16) e))
    let t : ToneEntry := { set, port, paper := [bits (e.getD 1 0) 0 16, bits (e.getD 1 0) 16 16, bits (e.getD 2 0) 0 16],
                           m := (List.range nlev).map (fun i => bits (e.getD (3 + i / 2) 0) (16 * (i % 2)) 16) }
    { d with vin := { d.vin with tones := d.vin.tones.filter (fun y => !(y.set = set && y.port = port)) ++ [t] } })
    { d with vin := { d.vin with toneSets := d.vin.toneSets.filter (fun y => y.set ≠ set) ++
      [⟨set, (List.range nlev).map (fun i => bits lev (8 * i) 8), (body.drop 3).take 128⟩] } }

/-- A NOZZLE record is applied. -/
def Dev.restoreNoz (d : Dev) (body : List Nat) : Dev :=
  let es := (body.drop 1).take (bits (body.getD 0 0) 0 13)
  (List.range 192).foldl (fun d p =>
    let mine := es.filter (fun e => e / 2 ^ 24 = p)
    if mine.isEmpty then d else d.loadTable 3 0 p (mine.foldl (fun b e => nozPut b p (bits e 12 12) (bits e 0 2)) [])) d

/-- A record's body is applied. The delays of a DRAM record wait for each channel's first full training (R355). -/
def Dev.calApply (d : Dev) (kind : Nat) (body : List Nat) : Dev :=
  let w (k : Nat) : Nat := body.getD k 0
  if kind < 4 then d.restoreTone kind body
  else
    match kind with
    | 4 => d.restoreNoz body
    | 5 => (List.range 192).foldl (fun d p => (((d.set F.HLK_LINK_TRIM (bits (w p) 16 16) p).set F.HLK_TXEQ_SWING (bits (w p) 12 4) p).set F.HLK_TXEQ_PRE
        (bits (w p) 8 4) p).set F.HLK_TXEQ_POST (bits (w p) 0 5) p) d
    | 6 => { d with vin := { d.vin with blocks := chunks 112 4 body, unseeded := [0, 1, 2, 3] } }
    | 7 => (List.range 24).foldl (fun d n => d.set F.THM_OFS (bits (w (n / 2)) (16 * (n % 2)) 16) n) d
    | 8 => (List.range 192).foldl (fun d i => ((d.set F.FIRE_B_S_TRIM_VTRIM (bits (w (2 * i)) 16 16) (i / 24) (i % 24)).set F.FIRE_B_S_TRIM_ROW_OFS
        (bits (w (2 * i)) 0 16) (i / 24) (i % 24)).set F.FIRE_B_S_GEOM_GAP (bits (w (2 * i + 1)) 0 14) (i / 24) (i % 24)) d
    | _ => d

/-- Every kind's record is validated and applied, or falls back, or is lost (R355). -/
def Dev.calRestore (d : Dev) : Dev :=
  (List.range 9).foldl (fun d kind =>
    let r := d.calPick kind
    let d := if r.2.1 then (d.set F.VIN_CAL_STAT_FALLBACK (d.get F.VIN_CAL_STAT_FALLBACK ||| 2 ^ kind)).report 294 else d
    let d := if r.2.2 then d.report 295 else d
    match r.1 with
    | some w => (d.set F.VIN_CAL_STAT_VALID (d.get F.VIN_CAL_STAT_VALID ||| 2 ^ kind)).calApply kind (w.drop 8)
    | none => d) d

end Sys2Proof.Machine
end

