-- ==== Sys2Proof/Machine/Resets.lean ====
section
/-! DEFINITION. What each kind of reset keeps and clears (file 17, R434, R435; file 03, R81). -/

namespace Sys2Proof.Machine

/-- The stored fields that a reset keeps (R13, R435). -/
def Dev.keptRegs (d : Dev) (p : Keep → Bool) : RegFile :=
  d.regs.filter (fun e => (fieldsAt (e.1 / 64)).any (fun x => x.1.lo = e.1 % 64 && x.2.2.2 = 0 && p x.1.keep))

/-- Every head port goes to DISABLED (R434, R256). -/
def Dev.portsOff (d : Dev) : Dev := (List.range 192).foldl (fun d p => d.disablePort p) d

/-- The pins as a reset leaves them: inputs as the outside drives them, outputs low (R455). -/
def Pins.afterReset (p : Pins) : Pins := { p with emuA := [false, false], emuB := [false, false], emuZ := [false, false], ppsOut := false, passed := [[false, false, false], [false, false, false]] }

/-- Every domain but AON after its power went: what MRAM, the AON domain and the outside keep stays (R433, R435). -/
def Dev.unpowered (d : Dev) (st : PowerState) : Dev :=
  let d := d.portsOff
  let e : Dev := { Dev.reset with
    regs := d.keptRegs (fun k => k = .aon), aon := d.aon, free := d.free, outbox := d.outbox, mram := d.mram, pins := d.pins.afterReset,
    pwr := { st, since := d.aon, wake := d.pwr.wake, attempts := d.pwr.attempts, heldWake := d.pwr.heldWake, downAt := d.aon, thermal := d.pwr.thermal,
             msix := List.replicate 64 {} } }
  if d.pwr.pwrEn = 0 then e else e.emit (.pwrEn 0)

/-- The warm reset: hold fields, the raw counter and the time in force, the fault collector's status bits, counts, reactions and log, the PCIe
endpoint and what the AON domain holds stay (R435, R401, R455). -/
def Dev.warmed (d : Dev) : Dev :=
  let before := d.fltOut
  let d := d.portsOff
  let f : FltSt := { status := d.flt.status, flicker := d.flt.flicker, lastFlick := d.flt.lastFlick, stops := d.flt.stops, safes := d.flt.safes,
                     fences := d.flt.fences, log := d.flt.log, seq := d.flt.seq, eq := d.flt.eq }
  let e : Dev := { Dev.reset with
    regs := d.keptRegs (fun k => k ≠ .none), raw := d.raw, aon := d.aon, free := d.free, outbox := d.outbox, mram := d.mram, pins := d.pins.afterReset,
    pwr := { d.pwr with booted := false, running := false, heldRst := false, bootWin := [] }, flt := f,
    tb := { Dev.reset.tb with t0 := d.tb.t0, r0 := d.tb.r0, add := d.tb.add, slew := d.tb.slew, lastSec := d.tb.lastSec },
    ddr := { Dev.reset.ddr with chans := d.ddr.chans.map (fun x => { retired := x.retired, mapped := x.mapped }) },
    thm := { Dev.reset.thm with sensors := Dev.reset.thm.sensors.map (fun x => { x with last := d.now }), shutAt := d.thm.shutAt, event := d.thm.event } }
  if before ≠ e.fltOut then e.emit (.fltOut e.fltOut.1 e.fltOut.2) else e

/-- The audit queue and the writes that waited on it after a reset: entries already formed are still written after a warm reset, and lost with power (R58, R427). -/
def Audit.afterReset (a : Audit) (powered : Bool) : Audit := { a with queue := if powered then a.queue else [], stalled := [] }

/-- A PCIe reset: the endpoint's settings, configuration space, every submission ring's ENABLE, the host's session; descriptors in flight end without a record (R81, R434). -/
def Dev.pcieReset (d : Dev) : Dev :=
  let d := (List.range 8).foldl (fun d r => d.ringStop r) d
  let d : Dev := { d with host := d.host.closed d.host.refused, pwr := { d.pwr with bme := false, cfg := {}, msix := List.replicate 64 {} },
                          reads := [], descs := d.descs.map (fun (x : Desc) => { x with silent := true, phase := .ended, got := [] }) }
  d.sweep

end Sys2Proof.Machine
end

