-- ==== Sys2Proof/Machine/Thermal.lean ====
section
/-! DEFINITION. The thermal monitor: sensors, warning, throttle, shutdown, and the thermal event ring (file 16, R421 to R430). -/

namespace Sys2Proof.Machine

/-- The bytes of a bonded threshold entry in use (R423, R64): entry 4 WARN, 5 THROTTLE, 6 SHUTDOWN; of entry 7 the hysteresis bytes. -/
def Dev.threshByte (d : Dev) (n k : Nat) : Int := (bits (d.bonded n) (8 * k) 8 : Nat)

/-- A temperature as a 16-bit register shows it, s8.8 °C. -/
def temp16 (t : Int) : Nat := if t < 32768 then unsigned 16 t else (Config.hotTemp t.toNat).toNat

/-- A sensor's state. -/
def Dev.sensor (d : Dev) (n : Nat) : ThmSensor := d.thm.sensors.getD n {}

/-- The thermal monitor changed. -/
def Dev.modThm (d : Dev) (f : ThmSt → ThmSt) : Dev := { d with thm := f d.thm }

/-- A sensor changed. -/
def Dev.modSensor (d : Dev) (n : Nat) (f : ThmSensor → ThmSensor) : Dev := d.modThm (fun t => { t with sensors := setAt t.sensors n f })

/-- T_max and its sensor: the highest reading of the sensors that have not failed; with none left, SHUTDOWN and the number 31 (R422). -/
def Dev.tMax (d : Dev) : Int × Nat :=
  match (List.range 24).filter (fun n => !d.flag F.THM_SENS_FAILED n) with
  | [] => (d.threshByte 6 0 * 256, 31)
  | n :: r => r.foldl (fun (m : Int × Nat) k => if m.1 < (d.sensor k).temp then ((d.sensor k).temp, k) else m) ((d.sensor n).temp, n)

/-- THM_STAT and THM_PEAK follow T_max. -/
def Dev.showMax (d : Dev) : Dev :=
  let m := d.tMax
  let d := (d.set F.THM_STAT_TMAX (temp16 m.1)).set F.THM_STAT_MAX_SENSOR m.2
  if !d.thm.peaked || signed 16 (d.get F.THM_PEAK) < m.1 then (d.set F.THM_PEAK (temp16 m.1)).modThm (fun t => { t with peaked := true }) else d

/-- The words of the record of a shutdown that a sensor entered (R428), with its SEQ still to come. -/
def Dev.thermalWords (d : Dev) (sensor seq : Nat) : List Nat :=
  let m := d.tMax
  let line : Nat := match d.shownHwm 0 with | some h => h % 2 ^ 32 | none => 0
  let t (n : Nat) : Nat := if d.flag F.THM_SENS_FAILED n then 0x8000 else temp16 (d.sensor n).temp
  let w := [0x4B54484D, seq, d.T % 2 ^ 32, d.T / 2 ^ 32 % 2 ^ 32, sensor * 2 ^ 24 + temp16 m.1,
    (d.threshByte 6 0).toNat * 65536 + (d.threshByte 5 0).toNat * 256 + (d.threshByte 4 0).toNat, d.get F.THM_STAT_SLOW_REQ * 2 ^ 27, line] ++
    (List.range 12).map (fun j => t (2 * j) + t (2 * j + 1) * 65536) ++ [0, 0, 0]
  w ++ [crc32 (wordBytes w)]

/-- The newest record with a good CHECK (R428). -/
def Dev.newestThermal (d : Dev) : Option ThermalRec :=
  (d.mram.thermal.filter (fun r => r.words.getD 0 0 = 0x4B54484D && r.words.getD 23 0 = crc32 (wordBytes (r.words.take 23)))).foldl
    (fun a r => match a with | some x => if x.words.getD 1 0 < r.words.getD 1 0 then some r else some x | none => some r) none

/-- A record takes its place in the ring of 8. -/
def Dev.putThermal (d : Dev) (r : ThermalRec) : Dev :=
  ({ d with mram := { d.mram with thermal := d.mram.thermal.filter (fun x => x.index ≠ r.index) ++ [r] } } : Dev).mramWrote 24

/-- The shutdown is entered: the latch closes the gate and darkens the lamps, MRAM writes stop, and the event's content is fixed (R426). -/
def Dev.shutEnter (d : Dev) (sensor : Nat) : Dev :=
  let seq := match d.newestThermal with | some r => (r.words.getD 1 0 + 1) % 2 ^ 32 | none => 1
  let words := d.thermalWords sensor seq
  let e := ((d.set F.THM_STAT_SHUT_LATCH 1).set F.NVM_STAT_SUSPENDED 1).modThm (fun t => { t with shutAt := some d.now, event := words, ackLow := 0 })
  Dev.settle d e

/-- A conversion's counts against the thresholds (R423). -/
def ThmSensor.count (x : ThmSensor) (ok : Bool) (t : Int) (warn throt shut : Int) : ThmSensor :=
  let n (old : Nat) (lim : Int) : Nat := if ok && lim * 256 ≤ t then Nat.min 2 (old + 1) else 0
  { x with warn := n x.warn warn, throt := n x.throt throt, shut := n x.shut shut }

/-- Is the part of the 1 ms frame of R over in which deferrable work may run (R424). -/
def Dev.pastDuty (d : Dev) : Bool := decide (d.get F.THM_THR_CFG_DUTY_PCT * 10000 ≤ d.raw % 1000000)

/-- The conditions after a conversion of sensor n (R423, R425, R426); events follow in ascending source index. -/
def Dev.conditions (d : Dev) (n : Nat) : Dev :=
  let x := d.sensor n
  let m := d.tMax.1
  let low (k j : Nat) (old : Nat) : Nat := if m < (d.threshByte k 0 - d.threshByte 7 j) * 256 then Nat.min 2 (old + 1) else 0
  let d := d.modThm (fun t => { t with warnLow := low 4 0 t.warnLow, throtLow := low 5 1 t.throtLow, ackLow := low 6 2 t.ackLow })
  let allFailed := (List.range 24).all (fun k => d.flag F.THM_SENS_FAILED k)
  let shut := !d.flag F.THM_STAT_SHUT_LATCH && (x.shut = 2 || allFailed)
  let d := if shut then d.shutEnter (if allFailed then 31 else n) else d
  let d :=
    if !d.flag F.THM_STAT_WARN && x.warn = 2 then ((d.set F.THM_STAT_WARN 1).irq F.THM_IRQ_STAT F.THM_IRQ_EN 0 none).report 59
    else if d.flag F.THM_STAT_WARN && d.thm.warnLow = 2 then ((d.set F.THM_STAT_WARN 0).set F.THM_STAT_SLOW_REQ 0).unreport 59
    else d
  let d :=
    if !d.flag F.THM_STAT_THROTTLE && x.throt = 2 then
      (((d.set F.THM_STAT_THROTTLE 1).modThm (fun t => { t with throtAt := some d.now, paused := d.pastDuty })).irq F.THM_IRQ_STAT F.THM_IRQ_EN 1 none).report 60
    else if d.flag F.THM_STAT_THROTTLE && d.thm.throtLow = 2 then
      ((d.set F.THM_STAT_THROTTLE 0).modThm (fun t => { t with throtAt := none, paused := false })).unreport 60
    else d
  if shut then d.report 61 else d

/-- A sensor fails or stands failed. -/
def Dev.sensorFail (d : Dev) (n : Nat) : Dev :=
  let d := (d.set F.THM_SENS_FAILED 1 n).modSensor n (fun x => { x with goods := 0, warn := 0, throt := 0, shut := 0 })
  (d.showMax.conditions n).report (62 + n)

/-- A sensor's conversion of raw, in 0.125 °C (R421 to R423): its offset is added; a reading outside −55 °C to +150 °C fails the sensor, and four good ones in
a row clear the failure. -/
def Dev.convert (d : Dev) (n : Nat) (raw : Int) : Dev :=
  let t := raw * 32 + signed 16 (d.get F.THM_OFS n)
  let d := (d.set F.THM_SENS_TEMP (temp16 t) n).modSensor n (fun x => { x with temp := t, last := d.now })
  if t < -55 * 256 || 150 * 256 < t then d.sensorFail n
  else
    let failed := d.flag F.THM_SENS_FAILED n
    let clears := failed && (d.sensor n).goods = 3
    let d := if clears then d.set F.THM_SENS_FAILED 0 n else d
    let ok := !failed || clears
    let d := d.modSensor n (fun x =>
      { x with goods := if failed && !clears then x.goods + 1 else 0 }.count ok t (d.threshByte 4 0) (d.threshByte 5 0) (d.threshByte 6 0))
    let d := d.showMax.conditions n
    if clears then d.unreport (62 + n) else d

/-- SENSOR_CONVERSION. -/
def execSensorConversion (n : Sensor) (raw : BitVec 16) (s : State) : Host.Outcome State Fault Refusal :=
  .next (if s.dev.pwr.st = .on then s.onDev (fun d => d.convert n.val raw.toInt) else s)

/-- SENSOR_CONVERSION_TIMEOUT: no conversion for 200 µs (R422). -/
def execSensorConversionTimeout (n : Sensor) (s : State) : Host.Outcome State Fault Refusal :=
  .next (if s.dev.pwr.st = .on && (s.dev.sensor n.val).last + 200000 ≤ s.dev.now then s.onDev (fun d => d.sensorFail n.val) else s)

/-- THROTTLE_FRAME: while the throttle holds, deferrable work is paused after DUTY_PCT % of each 1 ms frame of R (R424). -/
def execThrottleFrame (s : State) : Host.Outcome State Fault Refusal :=
  .next (s.onDev (fun d =>
    d.modThm (fun t => { t with paused := d.flag F.THM_STAT_THROTTLE && d.pastDuty })))

/-- THERMAL_SLOW_REQUEST (R425). -/
def execThermalSlowRequest (s : State) : Host.Outcome State Fault Refusal :=
  .next (s.onDev (fun d =>
    match d.thm.throtAt with
    | some t =>
      if t + d.get F.THM_THR_CFG_SLOW_MS * 1000000 ≤ d.now && !d.flag F.THM_STAT_SLOW_REQ then (d.set F.THM_STAT_SLOW_REQ 1).irq F.THM_IRQ_STAT F.THM_IRQ_EN 3 none
      else d
    | none => d))

/-- THERMAL_POWER_OFF: 200 µs after the entering conversion every PWR_EN output falls; the event record was written, or its failure is reported first (R426 to
R428). -/
def execThermalPowerOff (recordOk : Bool) (s : State) : Host.Outcome State Fault Refusal :=
  .next (match s.dev.thm.shutAt with
    | some t =>
      if t + 200000 ≤ s.dev.now && s.dev.pwr.st = .on then
        let d := s.dev
        let k := d.get F.THM_EVT_STAT_NEXT
        let d := if recordOk then (d.putThermal ⟨k, d.thm.event⟩).set F.THM_EVT_STAT_NEXT ((k + 1) % 8) else d.mramFailed (0x66000 + 96 * k)
        let e := d.unpowered .off
        { s with dev := { e with pwr := { e.pwr with thermal := true, heldWake := none } }, audit := s.audit.afterReset false }
      else s
    | none => s)

/-- A record's words with who acknowledged it and a new CHECK (R428, R429). -/
def ackedWords (words : List Nat) (role : Nat) (rq : Requester) : List Nat :=
  let rqBit : Nat := match rq with | .host => 0 | .cellar => 1
  let w := (words.take 23).set 6 (words.getD 6 0 % 2 ^ 28 + 2 ^ 31 + role * 2 ^ 29 + rqBit * 2 ^ 28)
  w ++ [crc32 (wordBytes w)]

/-- THM_CMD.ACK (R429): accepted, the latch falls and the record carries who acknowledged it. Within the 200 µs of a shutdown the record is the one about to be
written, and the power-off of R426 still follows. -/
def Dev.thermalAck (d : Dev) (rq : Requester) : Dev :=
  if d.flag F.THM_STAT_SHUT_LATCH && d.thm.ackLow = 2 then
    let role := d.rights rq
    let e := Dev.settle d ((d.set F.THM_STAT_SHUT_LATCH 0).set F.THM_EVT_STAT_PENDING 0)
    let e := if d.thm.shutAt.isSome then e.modThm (fun t => { t with event := ackedWords t.event role rq })
      else match d.newestThermal with
        | some r => e.putThermal ⟨r.index, ackedWords r.words role rq⟩
        | none => e
    ((e.set F.THM_CMD_DONE 1).set F.THM_CMD_CODE 0).unreport 61
  else (d.set F.THM_CMD_DONE 1).set F.THM_CMD_CODE 1

/-- THERMAL_ACK (R429). -/
def execThermalAck (rq : Requester) (s : State) : Host.Outcome State Fault Refusal :=
  .next (s.row rq (.thermalAck rq) 0x4044 1 ⟨0, some .installer⟩ (fun d => d.thermalAck rq))

/-- THERMAL_PEAK_CLEAR (R430). -/
def execThermalPeakClear (rq : Requester) (s : State) : Host.Outcome State Fault Refusal :=
  .next (s.row rq (.thermalPeakClear rq) 0x4048 (2 ^ 31) ⟨31, none⟩ (fun d => (d.set F.THM_PEAK 0).modThm (fun t => { t with peaked := false })))

/-- The record that THM_EVT_IDX selects is shown; a place never written reads 0. -/
def Dev.showThermal (d : Dev) : Dev :=
  let w := match d.mram.thermal.find? (fun r => r.index = d.get F.THM_EVT_IDX) with | some r => r.words | none => []
  (List.range 24).foldl (fun d k => d.set F.THM_EVT_DATA (w.getD k 0) k) d

/-- THERMAL_EVENT_SELECT (R430). -/
def execThermalEventSelect (rq : Requester) (w : Word) (s : State) : Host.Outcome State Fault Refusal :=
  .next (s.roleWrite rq (.thermalEventSelect rq w) 0x4180 none (fun d => d.get F.THM_EVT_IDX) (fun d => (d.set F.THM_EVT_IDX (bits w.toNat 0 3)).showThermal))

end Sys2Proof.Machine
end

