-- ==== Sys2Proof/Machine/Power.lean ====
section
/-! DEFINITION. Power-up, the boot sequence, resets, sleep, standby, the watchdog and the PCIe endpoint (file 17, R431 to R449, R471; file 03, R80, R81;
file 18, R456). -/

namespace Sys2Proof.Machine

/-- The always-on domain and the endpoint changed. -/
def Dev.modPwr (d : Dev) (f : PowerSt → PowerSt) : Dev := { d with pwr := f d.pwr }

/-- PWR_EN takes a value. -/
def Dev.driveEn (d : Dev) (v : Nat) : Dev := if d.pwr.pwrEn = v then d else (d.modPwr (fun p => { p with pwrEn := v })).emit (.pwrEn v)

/-! ### Power-up (R431 to R433) -/

/-- VBAT_APPLY: VBAT comes to a part without power: power-on reset of everything, every PWR_EN output low (R431, R435). -/
def execVbatApply (s : State) : Host.Outcome State Fault Refusal :=
  .next { s with dev := { Dev.reset with free := s.dev.free, outbox := s.dev.outbox, mram := s.dev.mram, pins := s.dev.pins.afterReset },
                 audit := s.audit.afterReset false }

/-- POWER_SEQUENCE: the rails of the last raised output are good: the next output rises, at least 1 ms after the one before it; after the last one the part is
powered (R432). -/
def Dev.powerStep (d : Dev) : Dev :=
  match d.pwr.st with
  | .rising n =>
    if n = 0 then (d.driveEn 1).modPwr (fun p => { p with st := .rising 1, since := d.aon })
    else if 4 ≤ n then d.modPwr (fun p => { p with st := .on, since := d.aon, attempts := 0 })
    else if d.pwr.since + 1000000 ≤ d.aon then (d.driveEn (2 ^ (n + 1) - 1)).modPwr (fun p => { p with st := .rising (n + 1), since := d.aon })
    else d
  | _ => d

def execPowerSequence (s : State) : Host.Outcome State Fault Refusal := .next (s.onDev Dev.powerStep)

/-- RAIL_TIMEOUT: a rail not good 10 ms after its output rose: every output drops, the failure is counted; after three attempts the part stays off (R432). -/
def execRailTimeout (s : State) : Host.Outcome State Fault Refusal :=
  .next (s.onDev (fun d =>
    match d.pwr.st with
    | .rising n =>
      if n ≠ 0 && d.pwr.since + 10000000 ≤ d.aon then
        let d := ((d.driveEn 0).bump F.SYS_AON_STAT_RAIL_FAILS).set F.SYS_AON_STAT_RAIL (n - 1)
        d.modPwr (fun p => { p with st := if 2 ≤ p.attempts then .off else .retry, attempts := p.attempts + 1, since := d.aon, downAt := d.aon, thermal := false })
      else d
    | _ => d))

/-- RAIL_RETRY: 1 s after a rail failure (R432). -/
def execRailRetry (s : State) : Host.Outcome State Fault Refusal :=
  .next (s.onDev (fun d =>
    if d.pwr.st = .retry && d.pwr.since + 1000000000 ≤ d.aon then d.modPwr (fun p => { p with st := .rising 0, since := d.aon }) else d))

/-- BROWNOUT: a monitored rail below 90 %: every domain but AON takes power-on reset (R433). -/
def execBrownout (s : State) : Host.Outcome State Fault Refusal :=
  .next (if s.dev.pwr.st = .on then
      { s with dev := (s.dev.unpowered .brownout).set F.SYS_AON_STAT_BROWNOUT 1, audit := s.audit.afterReset false }
    else s)

/-- BROWNOUT_RESTART: 10 ms after a brown-out (R433). -/
def execBrownoutRestart (s : State) : Host.Outcome State Fault Refusal :=
  .next (s.onDev (fun d =>
    if d.pwr.st = .brownout && d.pwr.since + 10000000 ≤ d.aon then
      (d.set F.SYS_AON_STAT_WOKE_BY 0).modPwr (fun p => { p with st := .rising 0, since := d.aon, attempts := 0, wake := .powerOn })
    else d))

/-- VBAT_LOSS: VBAT goes while VDD_IO18 is present: only VBAT_LOW is set (R433). -/
def execVbatLoss (s : State) : Host.Outcome State Fault Refusal :=
  .next (s.onDev (fun d => if d.pwr.pwrEn.testBit 1 then d.set F.SYS_AON_STAT_VBAT_LOW 1 else d))

/-! ### Boot images (R438, R439, R471) -/

/-- A byte of a flash region; beyond the list it reads 0xFF. -/
def flashByte (l : List Nat) (k : Nat) : Nat := l.getD k 0xFF

/-- A word of a flash region. -/
def flashWord (l : List Nat) (k : Nat) : Nat := ofBytesLE ((List.range 4).map (fun i => flashByte l (4 * k + i)))

/-- A boot image that passed R439. -/
structure BootImage where
  version : Nat
  digest  : List Nat
  deriving DecidableEq, Repr

/-- The body of a boot image of a length. -/
def imageBody (l : List Nat) (len : Nat) : List Nat := (List.range len).map (fun k => flashByte l (256 + k))

/-- The check of a boot image (R439): MAGIC, FORMAT, LENGTH, ENTRY, the rollback floor, the body's digest, and the TAG where the MAKER digest is not zero. -/
def Dev.checkImage (d : Dev) (l : List Nat) : Option BootImage :=
  let w := flashWord l
  let len := w 3
  let head := (List.range 52).map (flashByte l)
  let words (a : Nat) : List Nat := (List.range 8).flatMap (fun k => bytesLE 4 (w (a + k)))
  let tagOk := if (d.roleDigest 3).all (· = 0) then true
    else match d.mram.keys.getD 2 none with | some k => hmacSha256 k head = words 13 | none => false
  if w 0 = 0x4B54424F && bits (w 1) 16 16 = 1 && 4 ≤ len && len ≤ 1048576 && len % 4 = 0 && w 4 < len && d.cask 40 ≤ w 2 && tagOk && sha256 (imageBody l len) = words 5 then
    some { version := w 2, digest := words 5 }
  else none

/-- Is a slot's header all 0xFF. -/
def blankHeader (l : List Nat) : Bool := (List.range 256).all (fun k => flashByte l k = 0xFF)

/-- The cellar processor starts with an image: the cask words of R440, CODE OK, and the PHASE of R444. -/
def Dev.startImage (d : Dev) (i : BootImage) (slot : Nat) : Dev :=
  let d := d.voteCasks [42]
  let boots := Nat.min 65535 (d.cask 42 / 65536 + 1)
  let d := (d.setCask 41 i.version).setCask 42 (boots * 65536 + slot)
  let d := d.setCasks 44 ((List.range 4).map (fun k => ofBytesLE ((i.digest.drop (4 * k)).take 4)))
  let d := d.modPwr (fun p => { p with running := true, heldRst := false, wdogAt := d.now })
  ((d.set F.SYS_BOOT_STAT_CODE 0).set F.SYS_STAT_PHASE 4).followPhase

/-- Step 9 and 10: the valid slot of higher VERSION is booted, slot A when both are equal; without one PHASE is NO_IMAGE (R436, R439, R441, R471). -/
def Dev.bootImage (d : Dev) (f : BootFlash) : Dev :=
  let a := f.slotA.map (·.toNat)
  let b := f.slotB.map (·.toNat)
  let d := d.voteCasks [40]
  let ia := d.checkImage a
  let ib := d.checkImage b
  let d := ((d.set F.SYS_BOOT_STAT_VALID_A (b2n ia.isSome)).set F.SYS_BOOT_STAT_VALID_B (b2n ib.isSome)).set F.SYS_BOOT_STAT_SLOW_FLASH (b2n (f.sfdp ≠ some true))
  let pick : Option (BootImage × Nat) := match ia, ib with
    | some x, some y => if x.version < y.version then some (y, 1) else some (x, 0)
    | some x, none => some (x, 0)
    | none, some y => some (y, 1)
    | none, none => none
  match pick with
  | some (i, slot) => (d.set F.SYS_BOOT_STAT_SLOT slot).startImage i slot
  | none => (d.set F.SYS_BOOT_STAT_CODE (if f.sfdp = none && blankHeader a && blankHeader b then 2 else 1)).set F.SYS_STAT_PHASE 3

/-! ### The boot sequence (R436) -/

/-- Step 4: the MRAM copies of the cask words come into the SRAM copies, each word voted (R78). -/
def Dev.loadCask (d : Dev) : Dev :=
  let d : Dev := { d with bond := { d.bond with cask0 := d.mram.cask0, cask1 := d.mram.cask1, cask2 := d.mram.cask2 } }
  (List.range 64).foldl (fun d n => d.voteCask n) d

/-- Step 5: the stored copy of the bonded store, or the Reset column (R74); a pair that does not match in MRAM reports BONDED_PAIR as well (R64). -/
def Dev.loadBond (d : Dev) : Dev :=
  let d := d.voteCasks (span 4 11)
  let torn := match d.mram.bond with | some ps => !ps.all matchedPair | none => false
  let good := match d.mram.bond with
    | some ps => ps.length = 27 && ps.all matchedPair && bondDigest (ps.map Prod.fst) = (List.range 8).map (fun k => d.cask (4 + k))
    | none => false
  let d :=
    if good then
      let v := (d.mram.bond.getD []).map Prod.fst
      ({ d with bond := ({ d.bond with pairs := v.map bondPair } : Bonded).feed } : Dev).set F.SAFE_PORT_STAT_STORE_OK 1
    else
      let d : Dev := { d with bond := ({ d.bond with pairs := bondReset.map bondPair } : Bonded).feed }
      let d := ((d.set F.SAFE_PORT_STAT_STORE_OK 0).setCasks 4 (bondDigest bondReset)).report 14
      if torn then d.report 12 else d
  { d with safe := { d.safe with loaded := true } }

/-- What the check of a parameter image finds (R75, R76): skipped, a failure with its source, or the entries and the number. -/
inductive ParamCheck where
  | skip
  | bad (src : Nat)
  | ok (entries : List (Nat × Nat)) (no : Nat)
  deriving DecidableEq, Repr

/-- The check of the parameter image, MAKER's key being provisioned or not; a pair that does not match is reported alone (R64, R76). -/
def Dev.checkParam (d : Dev) (l : List Nat) : ParamCheck :=
  if (d.roleDigest 3).all (· = 0) then .skip
  else
    match d.mram.keys.getD 2 none with
    | none => .skip
    | some key =>
      if !d.keyMatches 3 then .bad 16
      else
        let w := flashWord l
        let n := bits (w 1) 0 16
        let items := (List.range n).map (fun i => (w (3 + 3 * i), w (4 + 3 * i), w (5 + 3 * i)))
        let tag := (List.range 8).flatMap (fun k => bytesLE 4 (w (3 + 3 * n + k)))
        if w 0 ≠ 0x4B545350 || bits (w 1) 16 16 ≠ 1 || n = 0 || 27 < n then .bad 16
        else if w 2 ≤ d.cask 24 then .skip
        else if items.any (fun e => !matchedPair e.2) then .bad 15
        else if items.any (fun e => 26 < e.1) then .bad 16
        else if hmacSha256 key ((List.range (12 + 12 * n)).map (flashByte l)) ≠ tag then .bad 16
        else .ok (items.map (fun e => (e.1, e.2.1))) (w 2)

/-- The queued audit entries are written to the ring at once. -/
def State.drainAudit (s : State) : State :=
  let s := s.onDev (fun d => d.mramWrote (8 * s.audit.queue.length))
  { s with audit := { s.audit.queue.foldl (fun (a : Audit) (e : Option Requester × AuditEntry) => a.write e.2) s.audit with queue := [] } }

/-- Step 6: the parameter image is applied as one commit (R76); where the audit queue has no room for its entries, the queued ones are written first. -/
def State.applyParam (s : State) (l : List Nat) : State :=
  let s := s.onDev (fun d => d.voteCasks [24])
  match s.dev.checkParam l with
  | .skip => s
  | .bad src => s.onDev (fun d => d.report src)
  | .ok es no =>
    let old := s.dev.bond.pairs.map Prod.fst
    let v := applyEntries old (es.map (fun e => (e.1, clampEntry e.1 e.2)))
    let s := if s.hasRoom ((changedEntries old v).length + 1) then s else s.drainAudit
    let s := s.commitBond 4 v
    s.onDev (fun d => (d.set F.SAFE_PORT_STAT_IMAGE_OK 1).setCask 24 no)

/-- Step 7: the head map from MRAM, the default map on a blank part, or a map without a valid entry (R163). -/
def Dev.loadMapEntries (d : Dev) : Dev :=
  let d := d.voteCasks (span 0 3)
  let root := (List.range 4).map (fun k => d.cask k)
  match d.mram.hmap with
  | some m => if mapRootOf m = root then { d with hmap := m } else ({ d with hmap := List.replicate 192 {} } : Dev).report 107
  | none =>
    if root.all (· = 0) then
      { d with hmap := (List.range 192).map (fun k => hentryDefault (k / 24) (k % 24)) }
    else ({ d with hmap := List.replicate 192 {} } : Dev).report 107

/-- Step 8: an unacknowledged thermal event latches the shutdown again (R428), and the collector is released (R407, R436). -/
def Dev.release (d : Dev) : Dev :=
  let d := match d.newestThermal with
    | some r =>
      let d := d.set F.THM_EVT_STAT_NEXT ((r.index + 1) % 8)
      if bit (r.words.getD 6 0) 31 then d
      else (((d.set F.THM_STAT_SHUT_LATCH 1).set F.THM_EVT_STAT_PENDING 1).irq F.THM_IRQ_STAT F.THM_IRQ_EN 2 none).report 61
    | none => d
  Dev.settle d (({ d with flt := { d.flt with released := true } } : Dev).set F.FLT_STATE_RELEASED 1)

/-- The levels that the sources of the interlocks and of FLT_IN follow, looked at once the REF domain runs. -/
def Dev.lookAtPins (d : Dev) : Dev := ((d.fltIn d.pins.fltInP d.pins.fltInN).reportLevel 56 0 d.pins.ilkHead).reportLevel 57 0 d.pins.ilkUv

/-- The link trains once step 2 has ended and PERST# is high (R437). -/
def Dev.trainLink (d : Dev) : Dev :=
  if d.pwr.st = .on && d.pwr.booted && d.pins.perst then d.linkUp.unreport 89 else d

/-- BOOT_SEQUENCE: the steps of R436 from the present reset, all in one; the SRAM fill of R298 is done first. -/
def State.boot (s : State) (f : BootFlash) : State :=
  if s.dev.pwr.st ≠ .on || s.dev.pwr.booted then s
  else
    let s := s.onDev (fun d => ((d.modPwr (fun p => { p with booted := true })).set F.ECC_STAT_SRAM_DONE 1).lookAtPins.trainLink)
    let s := s.onDev (fun d => (d.loadCask.loadBond).set F.SYS_STAT_PHASE 1)
    let s := s.applyParam (f.param.map (·.toNat))
    s.onDev (fun d => (d.checkRoleKeys.loadMapEntries.calRestore.release.set F.SYS_STAT_PHASE 2).bootImage f)

def execBootSequence (flash : BootFlash) (s : State) : Host.Outcome State Fault Refusal := .next (s.boot flash)

/-- WARM_RESET: a write of SYS_RESET.WARM, or a JTAG reset instruction (R434). -/
def execWarmReset (rq : Option Requester) (s : State) : Host.Outcome State Fault Refusal :=
  let warm (s : State) : State := { s with dev := s.dev.warmed, audit := s.audit.afterReset true }
  .next (match rq with
    | none => if s.dev.pwr.st = .on then warm s else s
    | some q => s.gate q (.warmReset rq) 0x50 1 [⟨0, some .installer⟩] (fun s =>
        let ok := s.acts q 0x50 ⟨0, some .installer⟩ 1
        let s := s.write q 0x50 1 [⟨0, some .installer⟩]
        if ok then warm s else s))

/-! ### Starting the cellar processor (R440, R441, R449) -/

/-- The bytes of the host boot window. -/
def Dev.windowBytes (d : Dev) : List Nat := (List.range 0x40040).flatMap (fun k => bytesLE 4 ((d.pwr.bootWin.find k).getD 0))

/-- HOST_BOOT: in NO_IMAGE the window is verified (R441); elsewhere it lets go a processor that the watchdog holds (R449). -/
def Dev.hostBoot (d : Dev) : Dev :=
  if d.get F.SYS_STAT_PHASE = 3 then
    let d := d.voteCasks [40]
    match d.checkImage d.windowBytes with
    | some i => d.startImage i 0
    | none => d.set F.SYS_BOOT_STAT_CODE 1
  else if d.pwr.heldRst then d.modPwr (fun p => { p with running := true, heldRst := false, wdogAt := d.now })
  else d

def execHostBoot (rq : Requester) (s : State) : Host.Outcome State Fault Refusal :=
  .next (s.row rq (.hostBoot rq) 0x4C 1 ⟨0, some .installer⟩ Dev.hostBoot)

/-- FLOOR: word 40 rises to word 41 (R440). -/
def execFloor (rq : Requester) (s : State) : Host.Outcome State Fault Refusal :=
  .next (s.row rq (.floor rq) 0x4C 2 ⟨1, some .maker⟩ (fun d =>
    let d := d.voteCasks [40, 41]
    if d.cask 40 < d.cask 41 then d.setCask 40 (d.cask 41) else d))

/-- WATCHDOG_KICK (R449). -/
def execWatchdogKick (rq : Requester) (w : Word) (s : State) : Host.Outcome State Fault Refusal :=
  .next (s.row rq (.watchdogKick rq w) 0x64 w.toNat ⟨31, none⟩ (fun d => d.modPwr (fun p => { p with wdogAt := d.now })))

/-- WATCHDOG_EXPIRE: PERIOD_MS without a KICK holds the cellar processor in reset (R449). -/
def execWatchdogExpire (s : State) : Host.Outcome State Fault Refusal :=
  .next (s.onDev (fun d =>
    let p := d.get F.SYS_WDOG_PERIOD_MS
    if d.procOn && p ≠ 0 && d.pwr.wdogAt + p * 1000000 ≤ d.now then (d.modPwr (fun p => { p with running := false, heldRst := true })).report 86 else d))

/-! ### Sleep and standby (R445 to R448) -/

/-- The conditions of sleep and standby beside PHASE: no ARMED or RUNNING context, no scrub, no ISP context with EN 1. -/
def Dev.mayRest (d : Dev) : Bool := !d.anyArmed && d.ecc.scrub.isNone && (List.range 8).all (fun k => !d.flag F.ISP_K_CFG_EN k)

/-- SYS_SLEEP.GO (R445). -/
def Dev.sleepGo (d : Dev) : Dev :=
  if d.get F.SYS_STAT_PHASE = 6 && d.mayRest then
    let d : Dev := { d with ddr := { d.ddr with queue := [], chans := d.ddr.chans.map (fun (x : DdrCh) => { x with step := none, stepsLeft := 0, rows := [], reqs := [], waits := [] }) } }
    let d := (List.range 4).foldl (fun d c => if d.get F.DDR_C_STAT_STATE c = 5 then d.set F.DDR_C_STAT_STATE 4 c else d) d
    ((d.set F.SYS_SLEEP_DONE 1).set F.SYS_SLEEP_CODE 0).set F.SYS_STAT_PHASE 7
  else (d.set F.SYS_SLEEP_DONE 1).set F.SYS_SLEEP_CODE 1

def execSleepEnter (rq : Requester) (s : State) : Host.Outcome State Fault Refusal :=
  .next (s.row rq (.sleepEnter rq) 0x54 1 ⟨0, some .operator⟩ Dev.sleepGo)

/-- SYS_SLEEP.EXIT (R446). -/
def execSleepExitCmd (rq : Requester) (s : State) : Host.Outcome State Fault Refusal :=
  .next (s.row rq (.sleepExitCmd rq) 0x54 2 ⟨1, none⟩ Dev.leaveSleep)

/-- CELLAR_DRAM_REQUEST (R446). -/
def execCellarDramRequest (s : State) : Host.Outcome State Fault Refusal := .next (s.onDev Dev.leaveSleep)

/-- Every MRAM write under way is completed (R447): queued audit entries, the commit being applied, calibration records. -/
def State.flushMram (s : State) : State :=
  let s := match s.dev.safe.applying with
    | some staged => (s.commitBond 3 (applyEntries (s.dev.bond.pairs.map Prod.fst) staged)).onDev (fun d => { d with safe := { d.safe with applying := none } })
    | none => s
  (s.onDev (fun d => d.vin.writing.foldl (fun (d : Dev) (e : Nat × Bool) => (d.calWrite e.1 true true).2) d)).drainAudit

/-- STANDBY_ENTER (R447). -/
def execStandbyEnter (rq : Requester) (s : State) : Host.Outcome State Fault Refusal :=
  .next (s.gate rq (.standbyEnter rq) 0x58 1 [⟨0, some .installer⟩] (fun s =>
    let ok := s.acts rq 0x58 ⟨0, some .installer⟩ 1
    let s := s.write rq 0x58 1 [⟨0, some .installer⟩]
    if !ok then s
    else if 4 ≤ s.dev.get F.SYS_STAT_PHASE && s.dev.mayRest then
      let s := s.flushMram
      { s with dev := (s.dev.unpowered .standby).modPwr (fun p => { p with thermal := false, heldWake := none }), audit := s.audit.afterReset false }
    else s.onDev (fun d => d.set F.SYS_STANDBY_CODE 1)))

/-- WOKE_BY of a wake source (R449). -/
def Wake.code : Wake → Nat
  | .powerOn => 0
  | .timer => 1
  | .safeCs => 2
  | .perst => 3

/-- Step 1 of R436 starts as an exit from standby. -/
def Dev.wakeUp (d : Dev) (w : Wake) : Dev :=
  (d.set F.SYS_AON_STAT_WOKE_BY w.code).modPwr (fun p => { p with st := .rising 0, since := d.aon, attempts := 0, wake := w, heldWake := none, thermal := false })

/-- Until when a wake source is held (R448). -/
def Dev.wakeFrom (d : Dev) : Nat := d.pwr.downAt + (if d.pwr.thermal then 10000000000 else 10000000)

/-- A wake source arrives: in standby, after a thermal shutdown or after three failed attempts it wakes the part, or is held (R432, R448). -/
def Dev.wakeBy (d : Dev) (w : Wake) (enabled : Bool) : Dev :=
  if !enabled || !(d.pwr.st = .standby || d.pwr.st = .off) then d
  else if d.wakeFrom ≤ d.aon then d.wakeUp w
  else d.modPwr (fun p => { p with heldWake := some (p.heldWake.getD w) })

/-- WAKE_TIMER: TIMER_S seconds since standby entry (R448). -/
def execWakeTimer (s : State) : Host.Outcome State Fault Refusal :=
  .next (s.onDev (fun d =>
    let t := d.get F.SYS_WAKE_CFG_TIMER_S
    d.wakeBy .timer (t ≠ 0 && d.pwr.downAt + t * 1000000000 ≤ d.aon)))

/-- SAFE_CS_WAKE (R448). -/
def execSafeCsWake (s : State) : Host.Outcome State Fault Refusal := .next (s.onDev (fun d => d.wakeBy .safeCs (d.flag F.SYS_WAKE_CFG_CS_EN)))

/-- PERST_WAKE: a rising edge of PERST# (R448). -/
def execPerstWake (s : State) : Host.Outcome State Fault Refusal :=
  .next (s.onDev (fun d => ({ d with pins := { d.pins with perst := true } } : Dev).wakeBy .perst (d.flag F.SYS_WAKE_CFG_PERST_EN)))

/-- WAKE_HOLD_EXPIRE (R448). -/
def execWakeHoldExpire (s : State) : Host.Outcome State Fault Refusal :=
  .next (s.onDev (fun d =>
    match d.pwr.heldWake with
    | some w => if (d.pwr.st = .standby || d.pwr.st = .off) && d.wakeFrom ≤ d.aon then d.wakeUp w else d
    | none => d))

/-! ### The PCIe endpoint (R80, R81, R409, R437) -/

/-- The link goes down: PCIE_LINK_DOWN is live, and its reaction fences the sluice (R409, R434). -/
def Dev.dropLink (d : Dev) : Dev := if d.pwr.link then (d.modPwr (fun p => { p with link := false, linkGen := 0, linkLanes := 0 })).report 89 else d

/-- PERST_ASSERT (R81, R434): the link goes down with it. -/
def execPerstAssert (s : State) : Host.Outcome State Fault Refusal :=
  .next (s.onDev (fun d =>
    let e : Dev := { d with pins := { d.pins with perst := false } }
    if d.pwr.st = .on then e.pcieReset.dropLink else e))

/-- FUNCTION_LEVEL_RESET (R81, R437): the link stays. -/
def execFunctionLevelReset (s : State) : Host.Outcome State Fault Refusal := .next (s.onDev (fun d => if d.pwr.st = .on && d.pwr.link then d.pcieReset else d))

/-- PERST_DEASSERT (R437): the link trains, after step 2 of the boot. -/
def execPerstDeassert (s : State) : Host.Outcome State Fault Refusal := .next (s.onDev (fun d => ({ d with pins := { d.pins with perst := true } } : Dev).trainLink))

/-- A vector's pending message is sent (R81). -/
def Dev.msixSend (d : Dev) (v : Nat) : Dev :=
  let e := d.pwr.msix.getD v {}
  if e.pending && !e.masked && !d.pwr.cfg.maskAll && d.pwr.bme then
    (d.modPwr (fun p => { p with msix := setAt p.msix v (fun (e : Msix) => { e with pending := false }) })).emit (.msix v (e.addrHi * 2 ^ 32 + e.addrLo) e.data)
  else d

/-- BUS_MASTER_ENABLE: the host writes Bus Master Enable; set, it lets pending messages go (R81). -/
def execBusMasterEnable (on : Bool) (s : State) : Host.Outcome State Fault Refusal :=
  .next (s.onDev (fun d =>
    if d.pwr.link then
      let d := d.modPwr (fun p => { p with bme := on })
      (List.range 64).foldl (fun d v => d.msixSend v) d
    else d))

/-- MSIX_VECTOR_UNMASK (R81). -/
def execMsixVectorUnmask (v : Fin 64) (s : State) : Host.Outcome State Fault Refusal :=
  .next (s.onDev (fun d =>
    if d.pwr.link then (d.modPwr (fun p => { p with msix := setAt p.msix v.val (fun (e : Msix) => { e with masked := false }) })).msixSend v.val else d))

/-- PCIE_LINK_DOWN: the link goes down without a PCIe reset; it trains again when the source is no longer live (R409). -/
def execPcieLinkDown (s : State) : Host.Outcome State Fault Refusal :=
  .next (s.onDev (fun d => if d.pwr.st = .on then d.dropLink else d))

/-! ### TEST_MODE and the scrub (R456, R311) -/

/-- TEST_MODE_INPUT: high keeps the fire gate closed, holds every lamp channel dark and asserts DRV_HOLD (R456). -/
def execTestModeInput (high : Bool) (s : State) : Host.Outcome State Fault Refusal :=
  .next (s.onDev (fun d => Dev.settle d { d with pins := { d.pins with testMode := high } }))

/-- SCRUB_GO: the word stores its other fields as well; a scrub ends sleep (R311, R446). -/
def execScrubGo (rq : Requester) (w : Word) (s : State) : Host.Outcome State Fault Refusal :=
  .next (s.row rq (.scrubGo rq w) 0x80058 w.toNat ⟨31, none⟩ (fun d => d.leaveSleep.scrubStart))

end Sys2Proof.Machine
end

