-- ==== Sys2Proof/Machine/Bus.lean ====
section
/-! DEFINITION. A write access on the register bus (R29, R30, R161): the 32-bit words of the access, the register pages with what a stored value
starts beside its storage, the MSI-X table, the table windows and the boot window. -/

namespace Sys2Proof.Machine

/-! ### What a stored value starts -/

/-- An Ethernet ring's ENABLE has been written: at 0 to 1 its geometry is taken and its indexes become 0; at 1 to 0 the
stored ENTRIES bounds TAIL again (R84, R87, R393). -/
def Dev.ethRingWritten (d : Dev) (p r : Nat) : Dev :=
  let on := d.flag F.ETH_P_R_CFG_ENABLE p r
  let was := (d.ethRing p r).on
  let put (d : Dev) (g : EthRing) : Dev := { d with eth := setAt d.eth p (fun e => { e with rings := setAt e.rings r (fun _ => g) }) }
  if on && !was then
    ((put d { on := true, base := d.get F.ETH_P_R_BASE p r * 4096, n := d.get F.ETH_P_R_CFG_ENTRIES p r }).set F.ETH_P_R_TAIL 0 p r).set
      F.ETH_P_R_HEAD 0 p r
  else if was && !on then (put d { d.ethRing p r with on := false }).clampField F.ETH_P_R_TAIL 0 (d.get F.ETH_P_R_CFG_ENTRIES p r - 1) p r
  else d

/-- A change of an image ring's base or size sets its pointers to 0 (R337). -/
def Dev.ispRingWritten (d before : Dev) (k : Nat) : Dev :=
  let d :=
    if d.get F.ISP_K_SBASE k ≠ before.get F.ISP_K_SBASE k || d.get F.ISP_K_SSIZE k ≠ before.get F.ISP_K_SSIZE k then
      (d.set F.ISP_K_SWR 0 k).set F.ISP_K_SRD 0 k
    else d
  (List.range 3).foldl (fun (d : Dev) j =>
    if d.get F.ISP_K_S_BASE k j ≠ before.get F.ISP_K_S_BASE k j || d.get F.ISP_K_S_SIZE k j ≠ before.get F.ISP_K_S_SIZE k j then
      (d.set F.ISP_K_S_WR 0 k j).set F.ISP_K_S_RD 0 k j
    else d) d

/-- What follows when the word at an address has taken new values: `before` is the device before the write. -/
def Dev.afterWrite (d before : Dev) (a w : Nat) : Dev :=
  if a = 0x3040 || a = 0x50008 then
    if d.fltOut ≠ before.fltOut || d.gateOpen ≠ before.gateOpen then Dev.settle before d else d
  else if a = 0x64 then
    if d.get F.SYS_WDOG_PERIOD_MS ≠ before.get F.SYS_WDOG_PERIOD_MS then d.modPwr (fun p => { p with wdogAt := d.now }) else d
  else if a = 0x5040 then
    if w.testBit 31 then (d.set F.NVM_ERR_CE 0).set F.NVM_ERR_UE 0 else d
  else if 0x20060 ≤ a && a < 0x20080 then
    let b := (a - 0x20060) / 4
    if d.get F.CIS_BAR_DIST b ≠ before.get F.CIS_BAR_DIST b then d.barDistWritten else d
  else if a = 0xD00A0 then (if d.get F.TB_PPS_MODE = 0 then d.ppsLow else d)
  else if a = 0x60078 then d.strainSwitch
  else if a = 0x60840 || a = 0x60844 then d.passDrive
  else if a = 0x60800 then d.emuSwitch 0
  else if a = 0x60820 then d.emuSwitch 1
  else if 0xA0100 ≤ a && a < 0xA0900 then
    let k := (a - 0xA0100) / 0x100
    let d := d.ispRingWritten before k
    if d.flag F.ISP_K_CFG_EN k && !before.flag F.ISP_K_CFG_EN k then d.leaveSleep else d
  else if 0xB0084 ≤ a && a < 0xB0090 then
    if d.get F.VIN_RING_BASE ≠ before.get F.VIN_RING_BASE || d.get F.VIN_RING_SIZE ≠ before.get F.VIN_RING_SIZE then
      (d.set F.VIN_RING_WR 0).set F.VIN_RING_RD 0
    else d
  else if 0xE0100 ≤ a && a < 0xE0300 && 0x40 ≤ a % 0x100 && a % 0x20 = 8 then
    d.ethRingWritten ((a - 0xE0100) / 0x100) ((a % 0x100 - 0x40) / 0x20)
  else d

/-! ### The destinations of a word -/

/-- Does a write of a word have something that follows it: a field takes it, or it is NVM_ERR, whose CLEAR has no row of its own. -/
def Dev.wordTaken (d : Dev) (rq : Requester) (a w : Nat) : Bool := (fieldsAt a).any (d.takes rq w) || a = 0x5040

/-- A whole aligned word is written to a register page or to an address outside the pages (R7, R30, R42, R58). -/
def State.plainWrite (s : State) (rq : Requester) (cmd : Instr) (addr w : Nat) : State :=
  s.gate rq cmd addr w [] (fun s =>
    let before := s.dev
    let t := s.write rq addr w
    if inPages addr && before.pageOpen addr && before.wordTaken rq (canonAddr rq addr) w then t.onDev (fun d => d.afterWrite before (canonAddr rq addr) w) else t)

/-- The bytes of a word that the enables name take a new value. -/
def mergeBytes (old new be : Nat) : Nat :=
  ofBytesLE ((List.range 4).map (fun k => if be.testBit k then bits new (8 * k) 8 else bits old (8 * k) 8))

/-- A write to the MSI-X table, to which R30 does not apply: each entry is the address, the data and the mask bit; clearing the mask sends a pending
message (R81). -/
def Dev.writeMsix (d : Dev) (a w be : Nat) : Dev :=
  let v := (a - 0x2000000) / 16
  let e := d.pwr.msix.getD v {}
  let put (e : Msix) : Dev := d.modPwr (fun p => { p with msix := setAt p.msix v (fun _ => e) })
  match a % 16 / 4 with
  | 0 => put { e with addrLo := mergeBytes e.addrLo w be / 4 * 4 }
  | 1 => put { e with addrHi := mergeBytes e.addrHi w be }
  | 2 => put { e with data := mergeBytes e.data w be }
  | _ =>
    let m := bit (mergeBytes (b2n e.masked) w be) 0
    let d := put { e with masked := m }
    if e.masked && !m then d.msixSend v else d

/-- A write to the boot window, open while no slot is valid (R441). -/
def Dev.writeBoot (d : Dev) (k w : Nat) : Dev :=
  if d.get F.SYS_STAT_PHASE = 3 then
    d.modPwr (fun p => { p with bootWin := if w = 0 then p.bootWin.drop k else (p.bootWin.drop k).put k w })
  else d

/-- Is an address in the MSI-X structures of BAR0. -/
def inMsix (a : Nat) : Bool := 0x2000000 ≤ a && a < 0x2001008

/-- One 32-bit word of an access: address, byte enables and data (R30, R161). An address beyond the region's size is none of the part's (R29). -/
def State.busWord (s : State) (rq : Requester) (region : Region) (a be w : Nat) : State :=
  if region.size ≤ a then s
  else match region with
  | .bar0 =>
    if inMsix a then
      s.onDev (fun d => if d.pwr.st = .on && a < 0x2000400 then d.writeMsix (a / 4 * 4) w be else d)
    else if a % 4 ≠ 0 || be ≠ 15 then s.onDev Dev.badAcc
    else s.plainWrite rq (.registerWrite { rq, region, addr := a, be := 15, wide := false, data := BitVec.ofNat 64 w }) a w
  | .bar2 =>
    if a % 4 ≠ 0 || be ≠ 15 then s.onDev Dev.badAcc
    else if 0xF000000 ≤ a && a < 0xF100100 then s.onDev (fun d => d.writeBoot ((a - 0xF000000) / 4) w)
    else s.onDev (fun d => if d.pwr.st = .on then d.writeBar2 a w else d)

/-- REGISTER_WRITE (R7, R30): a 64-bit access is two 32-bit accesses, the lower address first. DESIGN CHOICE: a 64-bit write that is not aligned to 8 bytes is
discarded whole and counted once; R30 gives only the aligned form. -/
def execRegisterWrite (a : BusAccess) (s : State) : Host.Outcome State Fault Refusal :=
  let be := a.be.toNat
  let w := a.data.toNat
  if a.wide then
    if a.addr % 8 ≠ 0 then .next (s.onDev Dev.badAcc)
    else .next ((s.busWord a.rq a.region a.addr (be % 16) (w % 4294967296)).busWord a.rq a.region (a.addr + 4) (be / 16) (w / 4294967296))
  else .next (s.busWord a.rq a.region a.addr (be % 16) (w % 4294967296))

end Sys2Proof.Machine
end

