-- ==== Sys2Proof/Machine/Ddr.lean ====
section
/-! DEFINITION. The commands of the DDR5 controller (file 09, R267 to R293). The byte places of the SPD are those of the JEDEC DDR5 SPD. -/

namespace Sys2Proof.Machine

/-! ### The SPD (R267, R268) -/

/-- CRC-16 of the SPD: polynomial 0x1021, initial value 0. -/
def spdCrc (b : List Nat) : Nat := b.foldl (crcByteMSB 16 0x1021) 0

/-- The organisation table of R267: column-burst bits, bank-group bits, row bits and capacity per rank in MiB. -/
def orgTable (density width : Nat) : Option (Nat × Nat × Nat × Nat) :=
  match density, width with
  | 16, 4 => some (7, 3, 16, 32768)
  | 16, 8 => some (6, 3, 16, 16384)
  | 16, 16 => some (6, 2, 16, 8192)
  | 32, 8 => some (6, 3, 17, 32768)
  | 32, 16 => some (6, 2, 17, 16384)
  | _, _ => none

/-- The organisation that an SPD states, if it is supported (R268). `hub`: it came from a module, which must be an RDIMM. -/
def parseSpd (b : List Nat) (hub : Bool) : Option DramOrg :=
  let crcOk := spdCrc (b.take 510) = b.getD 510 0 + 256 * b.getD 511 0
  let blank := b.all (· = 0) || b.all (· = 0xFF)
  let density := if b.getD 4 0 % 32 = 4 then 16 else if b.getD 4 0 % 32 = 6 then 32 else 0
  let mono := b.getD 4 0 / 32 = 0
  let width := [4, 8, 16].getD (b.getD 6 0 / 32) 0
  let ranks := b.getD 234 0 / 8 % 8 + 1
  let mixed := b.getD 234 0 / 64 % 2 = 1
  let ecc := b.getD 235 0 / 8 % 4 = 2
  let rdimm := b.getD 3 0 % 16 = 1
  let trfc := b.getD 42 0 + 256 * b.getD 43 0
  if blank || !crcOk || b.getD 2 0 ≠ 0x12 || !mono || mixed || !ecc || (hub && !rdimm) || 2 < ranks then none
  else match orgTable density width with
    | some (cb, bg, rows, cap) =>
      if cap * ranks ≤ 32768 then some { density, width, ranks, cb, bg, rows, capMib := cap * ranks, trfc } else none
    | none => none

/-- The SPD block of a channel's registers (R268). -/
def Dev.spdBlock (d : Dev) (c : Nat) : List Nat := (List.range 256).flatMap (fun k => bytesLE 4 (d.get F.DDR_C_SPD c k))

/-! ### Enable and disable (R270, R272, R273) -/

/-- The delays of the DRAM record that seed a channel's first full training: those of a block whose identity is the module's (R352, R355). -/
def Dev.seedOf (d : Dev) (c : Nat) (x : DdrCh) : List Nat :=
  let b := d.vin.blocks.getD c []
  if has d.vin.unseeded c && bit (b.getD 0 0) 31 && b.getD 1 0 = x.mfr * 65536 + x.dramMfr && b.getD 2 0 = x.serial && b.getD 3 0 = x.date then (b.drop 4).take 88 else []

/-- A full training of a channel has passed: its delays, known to the part alone, are those of the DRAM record, which falls due (R350, R352). -/
def Dev.fullTrained (d : Dev) (c : Nat) : Dev :=
  let (n, d) := d.nextFree
  let x := d.chan c
  let b := [2 ^ 31 + d.ddr.rate, x.mfr * 65536 + x.dramMfr, x.serial, x.date] ++ (List.range 88).map (fun k => (Config.trainDelay n c (k + 4)).toNat) ++ List.replicate 20 0
  let all := d.vin.blocks ++ List.replicate (4 - d.vin.blocks.length) (List.replicate 112 0)
  (({ d with vin := { d.vin with blocks := setAt all c (fun _ => b), unseeded := removeAll d.vin.unseeded c } } : Dev).modChan c (fun x => { x with seed := [] })).calRequest 6

/-- A channel of the map takes its parameters: TRAINING, ABSENT without an answering hub, or UNUSED (R273). -/
def Dev.startChannel (d : Dev) (c : Nat) (hub : Option (List Nat)) : Dev :=
  let soldered := d.flag F.DDR_C_CFG_SOLDERED c
  let spd := if soldered then some (d.spdBlock c) else hub
  match spd with
  | none => d.set F.DDR_C_STAT_STATE 1 c
  | some b =>
    match parseSpd b (!soldered) with
    | none => (d.set F.DDR_C_STAT_STATE 2 c).report (186 + c)
    | some o =>
      let (k, d) := d.nextFree
      let rfm (r : Nat) : RankRfm := { required := (Config.rankRfm c r k).getLsbD 16, threshold := (Config.rankRfm c r k).toNat % 65536 }
      let d := d.modChan c (fun x => { x with org := some o, rfm := (List.range o.ranks).map rfm, sensedAt := d.now, mfr := b.getD 512 0 + 256 * b.getD 513 0, dramMfr := b.getD 552 0 + 256 * b.getD 553 0,
                                              serial := ofBytesLE ((b.drop 517).take 4), date := b.getD 515 0 + 256 * b.getD 516 0 })
      let d := d.modChan c (fun x => { x with seed := d.seedOf c x })
      ((((d.set F.DDR_C_STAT_STATE 3 c).set F.DDR_C_GEOM_WIDTH (match o.width with | 4 => 0 | 8 => 1 | _ => 2) c).set
        F.DDR_C_GEOM_DENSITY (if o.density = 32 then 1 else 0) c).set F.DDR_C_GEOM_RANKS (o.ranks - 1) c).set F.DDR_C_GEOM_CAP_MIB o.capMib c

/-- Is a channel of the map ABSENT, UNUSED or FENCED. -/
def Dev.mapFails (d : Dev) : Bool := d.mapChans.any (fun c => has [1, 2, 6] (d.get F.DDR_C_STAT_STATE c))

/-- The spare area of R307 in bytes per channel. -/
def Dev.spareSize (d : Dev) : Nat := (d.mapChans.map (fun c => 256 * (d.chan c).rowBytes)).foldl Nat.max 0

/-- When every channel of the map is READY: the map, the capacity, the spare maps and the fill (R270, R272, R299, R307, R309). -/
def Dev.mapReady (d : Dev) : Dev :=
  let cs := d.mapChans
  let k := ((cs.map (fun c => d.get F.DDR_C_GEOM_CAP_MIB c)).foldl Nat.min (2 ^ 30)) % 2 ^ 30
  let n := cs.length
  let d : Dev := { d with ddr := { d.ddr with k := k * 2 ^ 20 }, dram := [], check := [] }
  let d := cs.foldl (fun d c => d.set F.DDR_C_GEOM_TRUNC (b2n (k < d.get F.DDR_C_GEOM_CAP_MIB c)) c) d
  let d := cs.foldl Dev.loadMap d
  let sp := d.spareSize
  let d := (d.setCap (k * n)).set F.DDR_STAT_STATE 2
  let d := (d.set F.ECC_SPARE_SIZE_MIB (sp * n / 2 ^ 20)).set F.ECC_SPARE_BASE_MIB ((k * 2 ^ 20 - sp) * n / 2 ^ 20)
  d.set F.ECC_STAT_FILLING d.ddr.mask

/-- The state of the map after a channel's end of training: NO_MAP, READY, or still INIT (R272). -/
def Dev.settleMap (d : Dev) : Dev :=
  if d.get F.DDR_STAT_STATE ≠ 1 then d
  else if d.mapFails then ((d.set F.DDR_STAT_STATE 4).setCap 0).report 190
  else if d.mapChans.all (fun c => d.get F.DDR_C_STAT_STATE c = 4) then d.mapReady
  else d

/-- ENABLE goes from 0 to 1 (R269, R272, R273, R291, R299, R305, R310). -/
def Dev.ddrStart (d : Dev) (hubs : List (Option (List Nat))) : Dev :=
  let d := (d.scrubAbort).set F.DDR_CTRL_ENABLE 1
  let chans := d.ddr.chans.map (fun _ => ({ } : DdrCh))
  let d : Dev := { d with ddr := { d.ddr with chans, mask := d.get F.DDR_MAP_CH_MASK, g := 8 + d.get F.DDR_MAP_GRAIN, k := 0, trainAt := d.now,
                                              rate := d.get F.DDR_RATE_RATE, queue := [], rateBusy := false },
                          flt := { d.flt with fences := d.flt.fences.filter (fun f => match f.unit with | .ddr _ => false | _ => true) } }
  let d := ((((d.set F.DDR_STAT_FENCED 0).set F.DDR_STAT_STATE 1).setCap 0).set F.ECC_STAT_DRAM_DONE 0).set F.ECC_STAT_FILLING 0
  let d := (List.range 4).foldl (fun d c => if bit d.ddr.mask c then d.startChannel c (hubs.getD c none) else d.set F.DDR_C_STAT_STATE 2 c) d
  d.settleMap.followPhase

/-- DDR_CTRL.ENABLE written as 1; `hubs` is what each channel's SPD hub answers (R272). -/
def execDdrEnable (rq : Requester) (hubs : List (Option (List Byte))) (s : State) : Host.Outcome State Fault Refusal :=
  .next (s.roleWrite rq (.ddrEnable rq hubs) 0x70008 none (fun d => d.word 0x70008) (fun d =>
    if d.flag F.DDR_CTRL_ENABLE then d else d.ddrStart (hubs.map (fun h => h.map (fun b => b.map (·.toNat))))))

/-- ENABLE goes from 1 to 0 (R272, R273, R299). -/
def Dev.ddrStop (d : Dev) : Dev :=
  let d := (d.scrubAbort).set F.DDR_CTRL_ENABLE 0
  let d := (List.range 4).foldl (fun d c => d.set F.DDR_C_STAT_STATE 0 c) d
  let d : Dev := { d with ddr := { d.ddr with queue := [], rateBusy := false, chans := d.ddr.chans.map (fun x => { x with step := none, stepsLeft := 0, rows := [], reqs := [], waits := [] }) } }
  ((((d.set F.DDR_STAT_STATE 0).setCap 0).set F.ECC_STAT_DRAM_DONE 0).set F.ECC_STAT_FILLING 0).followPhase

/-- DDR_CTRL.ENABLE written as 0: ignored while any context is not FREE (R272). -/
def execDdrDisable (rq : Requester) (s : State) : Host.Outcome State Fault Refusal :=
  .next (s.roleWrite rq (.ddrDisable rq) 0x70008 none (fun d => d.word 0x70008) (fun d =>
    if d.flag F.DDR_CTRL_ENABLE && (d.jobsIn (· ≠ .free)).isEmpty then d.ddrStop else d))

/-- A channel fails (R290, R291). -/
def Dev.failChannel (d : Dev) (c : Nat) : Dev := (d.fenceChannel c).drain

/-- CHANNEL_TRAIN_DONE: READY, or FENCED with DDR_TRAIN_FAIL (R273). -/
def execChannelTrainDone (c : Chan) (pass : Bool) (s : State) : Host.Outcome State Fault Refusal :=
  .next (s.onDev (fun d =>
    if d.get F.DDR_C_STAT_STATE c.val = 3 then
      let d := if pass then (d.set F.DDR_C_STAT_STATE 4 c.val).fullTrained c.val else (d.report (191 + c.val)).failChannel c.val
      d.settleMap.followPhase
    else d))

/-! ### Refresh (R279 to R282) -/

/-- Refreshes of a rank are issued: its rows close, and its banks' activation counts go back by a threshold for each (R275, R284). -/
def DdrCh.refreshed (x : DdrCh) (rank n : Nat) : DdrCh :=
  let m := x.rfm.getD rank {}
  { x with rows := x.rows.filter (fun r => x.rankOf r.bank ≠ rank),
           raa := x.raa.map (fun e => if x.rankOf e.bank = rank then { e with count := e.count - n * m.threshold } else e) }

/-- A refresh is owed (R279): with requests waiting it is postponed up to POSTPONE, else all owed refreshes are issued. In self-refresh the devices refresh
themselves (R445). -/
def execRefreshDue (c : Chan) (rank : Fin 2) (waiting : Bool) (s : State) : Host.Outcome State Fault Refusal :=
  .next (s.onDev (fun d =>
    let st := d.get F.DDR_C_STAT_STATE c.val
    if (st = 4 || st = 5) && d.get F.SYS_STAT_PHASE ≠ 7 then
      let debt := (d.chan c.val).debt.getD rank.val 0 + 1
      let left := if waiting then Nat.min debt (d.get F.DDR_REF_POSTPONE) else 0
      d.modChan c.val (fun x =>
        let x := { x with debt := setAt x.debt rank.val (fun _ => left) }
        if left < debt then x.refreshed rank.val (debt - left) else x)
    else d))

/-- The rate of a channel changes: each rank's debt is converted, and what exceeds POSTPONE is issued at once, or as soon as a pause ends (R280). -/
def Dev.refreshRate (d : Dev) (c : Nat) (twice : Bool) : Dev :=
  if d.flag F.DDR_C_STAT_REF_2X c = twice then d
  else
    let conv (n : Nat) : Nat := if twice then 2 * n else cdiv n 2
    let post := d.get F.DDR_REF_POSTPONE
    let x := d.chan c
    let over' := x.debt.map (fun n => conv n - post)
    let excess := over'.sum
    let trfc := match x.org with | some o => o.trfc | none => 0
    let stall := over'.foldl Nat.max 0 * trfc
    let paused := d.get F.DDR_C_STAT_STATE c = 5
    let d := d.modChan c (fun x =>
      let x := { x with debt := x.debt.map (fun n => Nat.min (conv n) post), excess := if paused then x.excess + stall else x.excess,
                        busyUntil := if paused then x.busyUntil else Nat.max x.busyUntil (d.now + stall) }
      over'.zipIdx.foldl (fun x e => if e.1 = 0 then x else x.refreshed e.2 e.1) x)
    (d.set F.DDR_C_STAT_REF_2X (b2n twice) c).bump F.DDR_C_CNT_CONVERTED c 0 excess

/-- The reading of a sensor as s8 °C; a failed one counts as TEMP_2X (R281). -/
def Dev.sensorTemp (d : Dev) (x : Option Byte) : Int :=
  match x with
  | some b => signed 8 b.toNat
  | none => d.get F.DDR_REF_TEMP_2X

/-- DIMM_SENSOR_READ, every PERIOD_MS of DDR_SB (R281, R283): the three readings of a module, or the refresh rate of MR4 for down-soldered devices; none is a failed read. -/
def execDimmSensorRead (c : Chan) (hub ts0 ts1 : Option Byte) (mr4 : Option Bool) (s : State) : Host.Outcome State Fault Refusal :=
  .next (s.onDev (fun d =>
    let k := c.val
    let st := d.get F.DDR_C_STAT_STATE k
    if !(3 ≤ st && st ≤ 5) || d.now < (d.chan k).sensedAt + d.get F.DDR_SB_PERIOD_MS * 1000000 then d
    else
    let d := d.modChan k (fun x => { x with sensedAt := d.now })
    if d.flag F.DDR_C_CFG_SOLDERED k then
      match mr4 with
      | some b => d.refreshRate k b
      | none => (d.refreshRate k true).report (199 + k)
    else
      let ts := [hub, ts0, ts1].map d.sensorTemp
      let used := ts.foldl max (-128)
      let put (f : Field) (t : Int) (d : Dev) : Dev := d.set f (unsigned 8 t) k
      let d := put F.DDR_C_TEMP_USED used (put F.DDR_C_TEMP_TS1 (ts.getD 2 0) (put F.DDR_C_TEMP_TS0 (ts.getD 1 0) (put F.DDR_C_TEMP_HUB (ts.getD 0 0) d)))
      let d := if [hub, ts0, ts1].any (·.isNone) then d.report (199 + k) else d
      let d := if (d.get F.DDR_REF_HOT_C : Int) ≤ used then d.report (203 + k) else d
      if (d.get F.DDR_REF_TEMP_2X : Int) ≤ used then d.refreshRate k true
      else if used < (d.get F.DDR_REF_TEMP_2X : Int) - d.get F.DDR_REF_HYST then d.refreshRate k false
      else d))

/-- ROW_IDLE_CLOSE: rows without a request for 500 ns are closed (R275). -/
def execRowIdleClose (s : State) : Host.Outcome State Fault Refusal :=
  .next (s.onDev (fun d =>
    { d with ddr := { d.ddr with chans := d.ddr.chans.map (fun x =>
      let x := x.at d.now (d.get F.DDR_SCHED_WR_HI) (d.get F.DDR_SCHED_WR_LO)
      { x with rows := x.rows.filter (fun r => d.now < r.last + 500) }) } }))

/-! ### Retraining (R285 to R287) -/

/-- RETRAIN_PERIOD: PERIOD_MS has elapsed; 0 means none, and sleep has none (R285, R445). -/
def execRetrainPeriod (s : State) : Host.Outcome State Fault Refusal :=
  .next (s.onDev (fun d =>
    let n := d.get F.DDR_TRAIN_PERIOD_MS
    if n = 0 || d.get F.SYS_STAT_PHASE = 7 || d.now < d.ddr.trainAt + n * 1000000 then d
    else ({ d with ddr := { d.ddr with trainAt := d.now } } : Dev).retrainAll))

/-- DDR_TRAIN.START (R287). -/
def execRetrainStart (rq : Requester) (w : Word) (s : State) : Host.Outcome State Fault Refusal :=
  .next (s.row rq (.retrainStart rq w) 0x70050 w.toNat ⟨0, none⟩ Dev.retrainAll)

/-- RETRAIN_STEP_BEGIN: the next step of the channel at the head of the queue, at least 20 µs after the last pause (at sleep exit, of every channel
at once) and with no converted excess being issued (R273, R285, R446). -/
def execRetrainStepBegin (c : Chan) (s : State) : Host.Outcome State Fault Refusal :=
  .next (s.onDev (fun d =>
    let x := d.chan c.val
    let turn := if d.ddr.atOnce then has d.ddr.queue c.val else decide (d.ddr.queue.head? = some c.val) && d.ddr.pauseEnd + 20000 ≤ d.now
    if turn && d.get F.DDR_C_STAT_STATE c.val = 4 && 0 < x.stepsLeft &&
        x.busyUntil ≤ d.now && !d.ddr.rateBusy then
      (d.set F.DDR_C_STAT_STATE 5 c.val).modChan c.val (fun x => { x with step := some (3 - x.stepsLeft), stepsLeft := x.stepsLeft - 1 })
    else d))

/-- A retraining of a channel has ended: results, delays and the margin report (R286). -/
def Dev.retrained (d : Dev) (c rd wr drift : Nat) : Dev :=
  let d := (((d.set F.DDR_C_TRAIN_STAT_RD rd c).set F.DDR_C_TRAIN_STAT_WR wr c).set F.DDR_C_TRAIN_STAT_DRIFT drift c).bump F.DDR_C_CNT_RETRAINS c
  if rd < d.get F.DDR_TRAIN_MARGIN_MIN || wr < d.get F.DDR_TRAIN_MARGIN_MIN then d.report (195 + c) else d

/-- RETRAIN_STEP_END: the pause ends; a drift out of range or a margin of 0 fails the channel; the third step stores the results (R286, R290). -/
def execRetrainStepEnd (c : Chan) (rd wr drift : Byte) (inRange : Bool) (s : State) : Host.Outcome State Fault Refusal :=
  .next (s.onDev (fun d =>
    let k := c.val
    match (d.chan k).step with
    | none => d
    | some n =>
      if d.get F.DDR_C_STAT_STATE k ≠ 5 then d
      else
        let d := (d.set F.DDR_C_STAT_STATE 4 k).modChan k (fun x => { x with step := none, excess := 0, busyUntil := Nat.max x.busyUntil (d.now + x.excess) })
        let d : Dev := { d with ddr := { d.ddr with pauseEnd := d.now } }
        if d.ddr.rateBusy then d
        else if (n = 0 && !inRange) || (n = 1 && rd.toNat = 0) || (n = 2 && wr.toNat = 0) then (d.report (191 + k)).failChannel k
        else if n = 2 then ({ d with ddr := { d.ddr with queue := removeAll d.ddr.queue k, atOnce := d.ddr.atOnce && (removeAll d.ddr.queue k) ≠ [] } } : Dev).retrained k rd.toNat wr.toNat drift.toNat
        else d))

/-! ### Rate, alerts, fences and counts (R288 to R293) -/

/-- DDR_RATE.GO (R288): BUSY while a context is ARMED or RUNNING; else every READY channel changes rate and trains, STATE reads FREQ, a scrub ends. -/
def Dev.rateGo (d : Dev) : Dev :=
  let d := d.set F.DDR_RATE_DONE 0
  if d.anyArmed then (d.set F.DDR_RATE_CODE 1).set F.DDR_RATE_DONE 1
  else
    let d := d.scrubAbort
    let d : Dev := { d with ddr := { d.ddr with rateBusy := true, queue := [], rate := d.get F.DDR_RATE_RATE } }
    if d.get F.DDR_STAT_STATE = 2 then d.set F.DDR_STAT_STATE 3 else d

/-- DDR_RATE with GO (R288). -/
def execDdrRateGo (rq : Requester) (w : Word) (s : State) : Host.Outcome State Fault Refusal :=
  .next (s.row rq (.ddrRateGo rq w) 0x70044 w.toNat ⟨31, some .installer⟩ (fun d => if d.ddr.rateBusy then d else d.rateGo))

/-- DDR_RATE_DONE: the full training at the new rate ends; a channel that fails is fenced and CODE is FAILED (R288). -/
def execDdrRateDone (pass : BitVec 4) (s : State) : Host.Outcome State Fault Refusal :=
  .next (s.onDev (fun d =>
    if !d.ddr.rateBusy then d
    else
      let ready := (List.range 4).filter (fun c => d.get F.DDR_C_STAT_STATE c = 4 || d.get F.DDR_C_STAT_STATE c = 5)
      let failed := ready.filter (fun c => !pass.toNat.testBit c)
      let d : Dev := { d with ddr := { d.ddr with rateBusy := false, chans := d.ddr.chans.map (fun x => { x with step := none, stepsLeft := 0 }) } }
      let d := ready.foldl (fun d c => d.set F.DDR_C_STAT_STATE 4 c) d
      let d := failed.foldl (fun d c => (d.report (191 + c)).failChannel c) d
      let d := (ready.filter (fun c => !has failed c)).foldl Dev.fullTrained d
      let d := if d.get F.DDR_STAT_STATE = 3 then d.set F.DDR_STAT_STATE 2 else d
      (d.set F.DDR_RATE_CODE (if failed.isEmpty then 0 else 2)).set F.DDR_RATE_DONE 1))

/-- DDR_ALERT_INPUT: counted and reported; the third within 1 ms fails the channel (R290). -/
def execDdrAlertInput (c : Chan) (s : State) : Host.Outcome State Fault Refusal :=
  .next (s.onDev (fun d =>
    let k := c.val
    let st := d.get F.DDR_C_STAT_STATE k
    if st = 4 || st = 5 then
      let recent := (d.chan k).alerts.filter (fun t => d.now < t + 1000000) ++ [d.now]
      let d := ((d.modChan k (fun x => { x with alerts := recent })).bump F.DDR_C_CNT2_ALERTS k).report (207 + k)
      if 3 ≤ recent.length then (d.modChan k (fun x => { x with alerts := [] })).failChannel k else d
    else d))

/-- DDR_Cc_CMD.FENCE_CH (R291). -/
def execFenceCh (rq : Requester) (c : Chan) (s : State) : Host.Outcome State Fault Refusal :=
  .next (s.row rq (.fenceCh rq c) (0x71058 + 0x1000 * c.val) 1 ⟨0, some .installer⟩ (fun d => d.failChannel c.val))

/-- DDR_Cc_CNT.CLEAR (R293). -/
def execDdrCountClear (rq : Requester) (c : Chan) (s : State) : Host.Outcome State Fault Refusal :=
  .next (s.row rq (.ddrCountClear rq c) (0x71050 + 0x1000 * c.val) (2 ^ 31) ⟨31, none⟩ (fun d =>
    (((d.set F.DDR_C_CNT_RETRAINS 0 c.val).set F.DDR_C_CNT_CONVERTED 0 c.val).set F.DDR_C_CNT2_ALERTS 0 c.val).set F.DDR_C_CNT2_FENCED_RD 0 c.val))

end Sys2Proof.Machine
end

