-- ==== Sys2Proof/Machine/Resume.lean ====
section
/-! DEFINITION. The end of a wait on the audit queue (R58): a register write that waits is one of the writes below, carried out again with its own
meaning. -/

namespace Sys2Proof.Machine

/-- The state that a meaning answers, or the old one where it stops. -/
def ran (o : Host.Outcome State Fault Refusal) (s : State) : State :=
  match o with
  | .next t => t
  | _ => s

/-- A waiting register write is carried out; no other command waits. -/
def State.rerun (s : State) (cmd : Instr) : State :=
  match cmd with
  | .registerWrite a => ran (execRegisterWrite a s) s
  | .sysBadAccClear rq => ran (execSysBadAccClear rq s) s
  | .roleReq rq w => ran (execRoleReq rq w s) s
  | .roleResponse rq w => ran (execRoleResponse rq w s) s
  | .sessionEnd rq w => ran (execSessionEnd rq w s) s
  | .roleDenyClear rq w => ran (execRoleDenyClear rq w s) s
  | .keyStage rq w => ran (execKeyStage rq w s) s
  | .auditIndexSelect rq w => ran (execAuditIndexSelect rq w s) s
  | .ringEnable rq r => ran (execRingEnable rq r s) s
  | .ringDisable rq r => ran (execRingDisable rq r s) s
  | .ringCountClear rq r => ran (execRingCountClear rq r s) s
  | .jobOpen rq => ran (execJobOpen rq s) s
  | .jobUpdate rq => ran (execJobUpdate rq s) s
  | .jobArm rq => ran (execJobArm rq s) s
  | .jobStart rq => ran (execJobStart rq s) s
  | .jobFinish rq => ran (execJobFinish rq s) s
  | .jobAbort rq => ran (execJobAbort rq s) s
  | .jobRelease rq => ran (execJobRelease rq s) s
  | .jobRead rq => ran (execJobRead rq s) s
  | .jobBadOp rq op => ran (execJobBadOp rq op s) s
  | .cisternCountClear rq b => ran (execCisternCountClear rq b s) s
  | .tableUpdateGo rq => ran (execTableUpdateGo rq s) s
  | .headMapCommit rq => ran (execHeadMapCommit rq s) s
  | .headMapDefault rq => ran (execHeadMapDefault rq s) s
  | .decodeErrClear rq => ran (execDecodeErrClear rq s) s
  | .sliceLoadClear rq sl => ran (execSliceLoadClear rq sl s) s
  | .indexAdopt rq n => ran (execIndexAdopt rq n s) s
  | .encoderCountClear rq n => ran (execEncoderCountClear rq n s) s
  | .positionEnable rq => ran (execPositionEnable rq s) s
  | .positionDisable rq => ran (execPositionDisable rq s) s
  | .revertCmd rq => ran (execRevertCmd rq s) s
  | .pcmpConfigure rq u w => ran (execPcmpConfigure rq u w s) s
  | .pcmpArm rq u w => ran (execPcmpArm rq u w s) s
  | .waveformCommit rq w => ran (execWaveformCommit rq w s) s
  | .fireStopCmd rq => ran (execFireStopCmd rq s) s
  | .fireResumeCmd rq => ran (execFireResumeCmd rq s) s
  | .fireCountClear rq b => ran (execFireCountClear rq b s) s
  | .fireCount2Clear rq b => ran (execFireCount2Clear rq b s) s
  | .portEnable rq p w => ran (execPortEnable rq p w s) s
  | .portDisable rq p w => ran (execPortDisable rq p w s) s
  | .calStart rq p w => ran (execCalStart rq p w s) s
  | .hlkReauth rq p => ran (execHlkReauth rq p s) s
  | .headKeyCommit rq w => ran (execHeadKeyCommit rq w s) s
  | .hlkMemRead rq p => ran (execHlkMemRead rq p s) s
  | .hlkMemWrite rq p => ran (execHlkMemWrite rq p s) s
  | .hlkMemCommit rq p => ran (execHlkMemCommit rq p s) s
  | .hlkErrClear rq p => ran (execHlkErrClear rq p s) s
  | .faultStatusClear rq addr w => ran (execFaultStatusClear rq addr w s) s
  | .clearAll rq => ran (execClearAll rq s) s
  | .faultForce rq addr w => ran (execFaultForce rq addr w s) s
  | .wireTest rq w => ran (execWireTest rq w s) s
  | .ackStop rq => ran (execAckStop rq s) s
  | .ackSafe rq => ran (execAckSafe rq s) s
  | .pop rq => ran (execPop rq s) s
  | .timeAdjust rq w => ran (execTimeAdjust rq w s) s
  | .domainAdjust rq dm w => ran (execDomainAdjust rq dm w s) s
  | .timeForce rq => ran (execTimeForce rq s) s
  | .domainForce rq dm => ran (execDomainForce rq dm s) s
  | .timeCapture rq => ran (execTimeCapture rq s) s
  | .timeAddendWrite rq target upper w => ran (execTimeAddendWrite rq target upper w s) s
  | .pathDelayWrite rq dm w => ran (execPathDelayWrite rq dm w s) s
  | .domainAck rq dm => ran (execDomainAck rq dm s) s
  | .domainEnable rq dm w => ran (execDomainEnable rq dm w s) s
  | .tcmpConfigure rq u w => ran (execTcmpConfigure rq u w s) s
  | .tcmpArm rq u w => ran (execTcmpArm rq u w s) s
  | .ethCountClear rq p => ran (execEthCountClear rq p s) s
  | .ddrEnable rq hubs => ran (execDdrEnable rq hubs s) s
  | .ddrDisable rq => ran (execDdrDisable rq s) s
  | .retrainStart rq w => ran (execRetrainStart rq w s) s
  | .ddrRateGo rq w => ran (execDdrRateGo rq w s) s
  | .fenceCh rq c => ran (execFenceCh rq c s) s
  | .ddrCountClear rq c => ran (execDdrCountClear rq c s) s
  | .scrubGo rq w => ran (execScrubGo rq w s) s
  | .scrubAbort rq w => ran (execScrubAbort rq w s) s
  | .flipArm rq w => ran (execFlipArm rq w s) s
  | .eccSramCntClear rq => ran (execEccSramCntClear rq s) s
  | .eccChannelCntClear rq c => ran (execEccChannelCntClear rq c s) s
  | .lampMatrixLoad rq c => ran (execLampMatrixLoad rq c s) s
  | .lampEnable rq w => ran (execLampEnable rq w s) s
  | .lampCountClear rq c => ran (execLampCountClear rq c s) s
  | .cameraEnable rq n w => ran (execCameraEnable rq n w s) s
  | .cameraDisable rq n w => ran (execCameraDisable rq n w s) s
  | .cameraCtlSend rq n w => ran (execCameraCtlSend rq n w s) s
  | .cameraCommit rq n => ran (execCameraCommit rq n s) s
  | .cameraCountClear rq n => ran (execCameraCountClear rq n s) s
  | .ispCountClear rq k => ran (execIspCountClear rq k s) s
  | .ispLoadClear rq => ran (execIspLoadClear rq s) s
  | .nozzleStateSubmit rq w => ran (execNozzleStateSubmit rq w s) s
  | .nozzleApprove rq => ran (execNozzleApprove rq s) s
  | .nozzleDiscard rq => ran (execNozzleDiscard rq s) s
  | .vinEnable rq w => ran (execVinEnable rq w s) s
  | .vinCountClear rq b => ran (execVinCountClear rq b s) s
  | .save rq w => ran (execSave rq w s) s
  | .thermalAck rq => ran (execThermalAck rq s) s
  | .thermalPeakClear rq => ran (execThermalPeakClear rq s) s
  | .thermalEventSelect rq w => ran (execThermalEventSelect rq w s) s
  | .warmReset rq => ran (execWarmReset rq s) s
  | .hostBoot rq => ran (execHostBoot rq s) s
  | .floor rq => ran (execFloor rq s) s
  | .sleepEnter rq => ran (execSleepEnter rq s) s
  | .sleepExitCmd rq => ran (execSleepExitCmd rq s) s
  | .standbyEnter rq => ran (execStandbyEnter rq s) s
  | .watchdogKick rq w => ran (execWatchdogKick rq w s) s
  | _ => s

/-- One waiting write is tried: it is carried out unless it must wait on, and a second one that adds to the queue stays for the next resumption. The
flag tells that a write of this resumption has added to the queue. -/
def State.resumeOne (acc : State × Bool) (e : Requester × Nat × Instr) : State × Bool :=
  let t := acc.1.rerun e.2.2
  let grew : Bool := acc.1.audit.queue.length < t.audit.queue.length
  if acc.2 && grew then ({ acc.1 with audit := { acc.1.audit with stalled := acc.1.audit.stalled ++ [e] } }, true)
  else (t, acc.2 || grew)

/-- AUDITED_WRITE_RESUME (R58): space has freed; the requester's first waiting audited write is queued and takes effect, with the writes that
waited only behind it (R38). -/
def execAuditedWriteResume (rq : Requester) (s : State) : Host.Outcome State Fault Refusal :=
  let mine := s.audit.stalled.filter (fun e => e.1 = rq)
  let s0 : State := { s with audit := { s.audit with stalled := s.audit.stalled.filter (fun e => e.1 ≠ rq) } }
  .next (mine.foldl State.resumeOne (s0, false)).1

end Sys2Proof.Machine
end

