-- ==== Sys2Proof/Machine/Dispatch.lean ====
section
/-! DEFINITION. The meaning of every command: one arm for each constructor of Instr. -/

namespace Sys2Proof.Machine

def exec (i : Instr) (s : State) : Host.Outcome State Fault Refusal :=
  match i with
  | .registerWrite a => Sys2Proof.Machine.execRegisterWrite a s
  | .sysBadAccClear rq => Sys2Proof.Machine.execSysBadAccClear rq s
  | .pageFenceRead rq page => Sys2Proof.Machine.execPageFenceRead rq page s
  | .sysFenceRead rq => Sys2Proof.Machine.execSysFenceRead rq s
  | .fenceReturn rq => Sys2Proof.Machine.execFenceReturn rq s
  | .auditEntryWrite readBackOk => Sys2Proof.Machine.execAuditEntryWrite readBackOk s
  | .auditedWriteResume rq => Sys2Proof.Machine.execAuditedWriteResume rq s
  | .roleReq rq w => Sys2Proof.Machine.execRoleReq rq w s
  | .roleResponse rq w => Sys2Proof.Machine.execRoleResponse rq w s
  | .lockEnd rq => Sys2Proof.Machine.execLockEnd rq s
  | .challengeExpire rq => Sys2Proof.Machine.execChallengeExpire rq s
  | .sessionIdleTimeout rq => Sys2Proof.Machine.execSessionIdleTimeout rq s
  | .sessionEnd rq w => Sys2Proof.Machine.execSessionEnd rq w s
  | .roleDenyClear rq w => Sys2Proof.Machine.execRoleDenyClear rq w s
  | .keyStage rq w => Sys2Proof.Machine.execKeyStage rq w s
  | .auditIndexSelect rq w => Sys2Proof.Machine.execAuditIndexSelect rq w s
  | .safeNop f => Sys2Proof.Machine.execSafeNop f s
  | .safeRead f => Sys2Proof.Machine.execSafeRead f s
  | .safeWrite f => Sys2Proof.Machine.execSafeWrite f s
  | .safeCommit f => Sys2Proof.Machine.execSafeCommit f s
  | .safeDiscard f => Sys2Proof.Machine.execSafeDiscard f s
  | .safeBadFrame nbits bytes => Sys2Proof.Machine.execSafeBadFrame nbits bytes s
  | .safeCommitApply readBackOk => Sys2Proof.Machine.execSafeCommitApply readBackOk s
  | .caskWordRead n => Sys2Proof.Machine.execCaskWordRead n s
  | .busMasterEnable on => Sys2Proof.Machine.execBusMasterEnable on s
  | .ringEnable rq r => Sys2Proof.Machine.execRingEnable rq r s
  | .ringDisable rq r => Sys2Proof.Machine.execRingDisable rq r s
  | .ringDrainEnd r => Sys2Proof.Machine.execRingDrainEnd r s
  | .descriptorFetch r descs => Sys2Proof.Machine.execDescriptorFetch r descs s
  | .descriptorFetchError r => Sys2Proof.Machine.execDescriptorFetchError r s
  | .descNop r slot => Sys2Proof.Machine.execDescNop r slot s
  | .descRaster r slot => Sys2Proof.Machine.execDescRaster r slot s
  | .rasterReadCompletion r slot ok data => Sys2Proof.Machine.execRasterReadCompletion r slot ok data s
  | .descriptorResume r slot => Sys2Proof.Machine.execDescriptorResume r slot s
  | .completionRecordWrite r => Sys2Proof.Machine.execCompletionRecordWrite r s
  | .cqCoalTimeout r => Sys2Proof.Machine.execCqCoalTimeout r s
  | .ringCountClear rq r => Sys2Proof.Machine.execRingCountClear rq r s
  | .jobOpen rq => Sys2Proof.Machine.execJobOpen rq s
  | .jobUpdate rq => Sys2Proof.Machine.execJobUpdate rq s
  | .jobArm rq => Sys2Proof.Machine.execJobArm rq s
  | .jobStart rq => Sys2Proof.Machine.execJobStart rq s
  | .jobFinish rq => Sys2Proof.Machine.execJobFinish rq s
  | .jobAbort rq => Sys2Proof.Machine.execJobAbort rq s
  | .jobRelease rq => Sys2Proof.Machine.execJobRelease rq s
  | .jobRead rq => Sys2Proof.Machine.execJobRead rq s
  | .jobBadOp rq op => Sys2Proof.Machine.execJobBadOp rq op s
  | .jobStartAt j => Sys2Proof.Machine.execJobStartAt j s
  | .chainClaim j => Sys2Proof.Machine.execChainClaim j s
  | .jobDone j => Sys2Proof.Machine.execJobDone j s
  | .jobAbortDone j => Sys2Proof.Machine.execJobAbortDone j s
  | .jobDrainEnd j => Sys2Proof.Machine.execJobDrainEnd j s
  | .writePointerAdvance j b line => Sys2Proof.Machine.execWritePointerAdvance j b line s
  | .cisternCountClear rq b => Sys2Proof.Machine.execCisternCountClear rq b s
  | .bar4Read off len => Sys2Proof.Machine.execBar4Read off len s
  | .bar4Write off data => Sys2Proof.Machine.execBar4Write off data s
  | .spoutLineFill b => Sys2Proof.Machine.execSpoutLineFill b s
  | .tableUpdateGo rq => Sys2Proof.Machine.execTableUpdateGo rq s
  | .oldBankFree kind set port => Sys2Proof.Machine.execOldBankFree kind set port s
  | .headMapCommit rq => Sys2Proof.Machine.execHeadMapCommit rq s
  | .headMapDefault rq => Sys2Proof.Machine.execHeadMapDefault rq s
  | .decodeErrClear rq => Sys2Proof.Machine.execDecodeErrClear rq s
  | .sliceLoadClear rq sl => Sys2Proof.Machine.execSliceLoadClear rq sl s
  | .encoderEdge n a b => Sys2Proof.Machine.execEncoderEdge n a b s
  | .encoderIndex n => Sys2Proof.Machine.execEncoderIndex n s
  | .indexAdopt rq n => Sys2Proof.Machine.execIndexAdopt rq n s
  | .encoderCountClear rq n => Sys2Proof.Machine.execEncoderCountClear rq n s
  | .positionEnable rq => Sys2Proof.Machine.execPositionEnable rq s
  | .positionDisable rq => Sys2Proof.Machine.execPositionDisable rq s
  | .speedGateWindow n => Sys2Proof.Machine.execSpeedGateWindow n s
  | .revertCmd rq => Sys2Proof.Machine.execRevertCmd rq s
  | .pcmpConfigure rq u w => Sys2Proof.Machine.execPcmpConfigure rq u w s
  | .pcmpArm rq u w => Sys2Proof.Machine.execPcmpArm rq u w s
  | .emuOutputStep e => Sys2Proof.Machine.execEmuOutputStep e s
  | .lineCommit b => Sys2Proof.Machine.execLineCommit b s
  | .tickleCommit b => Sys2Proof.Machine.execTickleCommit b s
  | .waveformCommit rq w => Sys2Proof.Machine.execWaveformCommit rq w s
  | .ilkHeadInput high => Sys2Proof.Machine.execIlkHeadInput high s
  | .fireStopCmd rq => Sys2Proof.Machine.execFireStopCmd rq s
  | .fireResumeCmd rq => Sys2Proof.Machine.execFireResumeCmd rq s
  | .drvReadyInput high => Sys2Proof.Machine.execDrvReadyInput high s
  | .fireCountClear rq b => Sys2Proof.Machine.execFireCountClear rq b s
  | .fireCount2Clear rq b => Sys2Proof.Machine.execFireCount2Clear rq b s
  | .laneRateChange g => Sys2Proof.Machine.execLaneRateChange g s
  | .groupPllRelock g => Sys2Proof.Machine.execGroupPllRelock g s
  | .portEnable rq p w => Sys2Proof.Machine.execPortEnable rq p w s
  | .portDisable rq p w => Sys2Proof.Machine.execPortDisable rq p w s
  | .markerSend p => Sys2Proof.Machine.execMarkerSend p s
  | .fire p => Sys2Proof.Machine.execFire p s
  | .tickle p => Sys2Proof.Machine.execTickle p s
  | .backMarkerReceive p mcount => Sys2Proof.Machine.execBackMarkerReceive p mcount s
  | .hello p w0 w1 w2 w3 => Sys2Proof.Machine.execHello p w0 w1 w2 w3 s
  | .helloTimeout p => Sys2Proof.Machine.execHelloTimeout p s
  | .cal p => Sys2Proof.Machine.execCal p s
  | .calPeriod p => Sys2Proof.Machine.execCalPeriod p s
  | .calStart rq p w => Sys2Proof.Machine.execCalStart rq p w s
  | .calEcho p id ta t3 => Sys2Proof.Machine.execCalEcho p id ta t3 s
  | .calEchoTimeout p => Sys2Proof.Machine.execCalEchoTimeout p s
  | .confirm p w => Sys2Proof.Machine.execConfirm p w s
  | .ackTimeout p => Sys2Proof.Machine.execAckTimeout p s
  | .status p w => Sys2Proof.Machine.execStatus p w s
  | .headTempStale p => Sys2Proof.Machine.execHeadTempStale p s
  | .alert p code => Sys2Proof.Machine.execAlert p code s
  | .berSecond p => Sys2Proof.Machine.execBerSecond p s
  | .backChannelTimeout p => Sys2Proof.Machine.execBackChannelTimeout p s
  | .laneIdleEnter p => Sys2Proof.Machine.execLaneIdleEnter p s
  | .laneIdleExit p => Sys2Proof.Machine.execLaneIdleExit p s
  | .memResp p words => Sys2Proof.Machine.execMemResp p words s
  | .authTimeout p => Sys2Proof.Machine.execAuthTimeout p s
  | .hlkReauth rq p => Sys2Proof.Machine.execHlkReauth rq p s
  | .headKeyCommit rq w => Sys2Proof.Machine.execHeadKeyCommit rq w s
  | .hlkMemRead rq p => Sys2Proof.Machine.execHlkMemRead rq p s
  | .hlkMemWrite rq p => Sys2Proof.Machine.execHlkMemWrite rq p s
  | .hlkMemCommit rq p => Sys2Proof.Machine.execHlkMemCommit rq p s
  | .memTimeout p => Sys2Proof.Machine.execMemTimeout p s
  | .usageRead p => Sys2Proof.Machine.execUsageRead p s
  | .hlkErrClear rq p => Sys2Proof.Machine.execHlkErrClear rq p s
  | .ddrEnable rq hubs => Sys2Proof.Machine.execDdrEnable rq hubs s
  | .ddrDisable rq => Sys2Proof.Machine.execDdrDisable rq s
  | .channelTrainDone c pass => Sys2Proof.Machine.execChannelTrainDone c pass s
  | .dramWriteAccept addr data => Sys2Proof.Machine.execDramWriteAccept addr data s
  | .dramReadComplete addr flips checkFlips => Sys2Proof.Machine.execDramReadComplete addr flips checkFlips s
  | .spareMapWrite c readBackOk => Sys2Proof.Machine.execSpareMapWrite c readBackOk s
  | .refreshDue c rank waiting => Sys2Proof.Machine.execRefreshDue c rank waiting s
  | .dimmSensorRead c hub ts0 ts1 mr4 => Sys2Proof.Machine.execDimmSensorRead c hub ts0 ts1 mr4 s
  | .retrainStart rq w => Sys2Proof.Machine.execRetrainStart rq w s
  | .retrainStepEnd c rd wr drift inRange => Sys2Proof.Machine.execRetrainStepEnd c rd wr drift inRange s
  | .ddrRateGo rq w => Sys2Proof.Machine.execDdrRateGo rq w s
  | .ddrRateDone pass => Sys2Proof.Machine.execDdrRateDone pass s
  | .ddrAlertInput c => Sys2Proof.Machine.execDdrAlertInput c s
  | .fenceCh rq c => Sys2Proof.Machine.execFenceCh rq c s
  | .ddrCountClear rq c => Sys2Proof.Machine.execDdrCountClear rq c s
  | .scrubGo rq w => Sys2Proof.Machine.execScrubGo rq w s
  | .scrubAbort rq w => Sys2Proof.Machine.execScrubAbort rq w s
  | .flipArm rq w => Sys2Proof.Machine.execFlipArm rq w s
  | .eccSramCntClear rq => Sys2Proof.Machine.execEccSramCntClear rq s
  | .eccChannelCntClear rq c => Sys2Proof.Machine.execEccChannelCntClear rq c s
  | .cameraEnable rq n w => Sys2Proof.Machine.execCameraEnable rq n w s
  | .cameraDisable rq n w => Sys2Proof.Machine.execCameraDisable rq n w s
  | .cameraLock n => Sys2Proof.Machine.execCameraLock n s
  | .cameraLinkLoss n conn => Sys2Proof.Machine.execCameraLinkLoss n conn s
  | .imageHeader n tag format width => Sys2Proof.Machine.execImageHeader n tag format width s
  | .streamPacket n crcOk lines => Sys2Proof.Machine.execStreamPacket n crcOk lines s
  | .cameraLine n pixels => Sys2Proof.Machine.execCameraLine n pixels s
  | .cameraCtlSend rq n w => Sys2Proof.Machine.execCameraCtlSend rq n w s
  | .cameraCtlAck n crcOk bytes => Sys2Proof.Machine.execCameraCtlAck n crcOk bytes s
  | .cameraCtlTimeout n => Sys2Proof.Machine.execCameraCtlTimeout n s
  | .cameraEvent n crcOk payload => Sys2Proof.Machine.execCameraEvent n crcOk payload s
  | .cameraHeartbeat n => Sys2Proof.Machine.execCameraHeartbeat n s
  | .triggerFall n => Sys2Proof.Machine.execTriggerFall n s
  | .cameraCommit rq n => Sys2Proof.Machine.execCameraCommit rq n s
  | .settingsEffective n => Sys2Proof.Machine.execSettingsEffective n s
  | .cameraCountClear rq n => Sys2Proof.Machine.execCameraCountClear rq n s
  | .ispCountClear rq k => Sys2Proof.Machine.execIspCountClear rq k s
  | .ispLoadClear rq => Sys2Proof.Machine.execIspLoadClear rq s
  | .nozzleStateSubmit rq w => Sys2Proof.Machine.execNozzleStateSubmit rq w s
  | .nozzleApprove rq => Sys2Proof.Machine.execNozzleApprove rq s
  | .nozzleDiscard rq => Sys2Proof.Machine.execNozzleDiscard rq s
  | .vinEnable rq w => Sys2Proof.Machine.execVinEnable rq w s
  | .vinCountClear rq b => Sys2Proof.Machine.execVinCountClear rq b s
  | .save rq w => Sys2Proof.Machine.execSave rq w s
  | .calRecordDue kind => Sys2Proof.Machine.execCalRecordDue kind s
  | .calRecordWriteDone ok1 ok2 => Sys2Proof.Machine.execCalRecordWriteDone ok1 ok2 s
  | .lampPeriod c => Sys2Proof.Machine.execLampPeriod c s
  | .lampReply c row reply => Sys2Proof.Machine.execLampReply c row reply s
  | .lampMatrixLoad rq c => Sys2Proof.Machine.execLampMatrixLoad rq c s
  | .lampEnable rq w => Sys2Proof.Machine.execLampEnable rq w s
  | .ilkUvInput high => Sys2Proof.Machine.execIlkUvInput high s
  | .segmentHoldExpire c => Sys2Proof.Machine.execSegmentHoldExpire c s
  | .lampCountClear rq c => Sys2Proof.Machine.execLampCountClear rq c s
  | .timeAdjust rq w => Sys2Proof.Machine.execTimeAdjust rq w s
  | .domainAdjust rq dm w => Sys2Proof.Machine.execDomainAdjust rq dm w s
  | .timeForce rq => Sys2Proof.Machine.execTimeForce rq s
  | .domainForce rq dm => Sys2Proof.Machine.execDomainForce rq dm s
  | .timeCapture rq => Sys2Proof.Machine.execTimeCapture rq s
  | .timeAddendWrite rq target upper w => Sys2Proof.Machine.execTimeAddendWrite rq target upper w s
  | .pathDelayWrite rq dm w => Sys2Proof.Machine.execPathDelayWrite rq dm w s
  | .domainTimeout dm => Sys2Proof.Machine.execDomainTimeout dm s
  | .domainAck rq dm => Sys2Proof.Machine.execDomainAck rq dm s
  | .domainEnable rq dm w => Sys2Proof.Machine.execDomainEnable rq dm w s
  | .tcmpConfigure rq u w => Sys2Proof.Machine.execTcmpConfigure rq u w s
  | .tcmpArm rq u w => Sys2Proof.Machine.execTcmpArm rq u w s
  | .tcmpHit u => Sys2Proof.Machine.execTcmpHit u s
  | .ethFrameReceive p frame desc => Sys2Proof.Machine.execEthFrameReceive p frame desc s
  | .ethFrameTransmit p r desc frame => Sys2Proof.Machine.execEthFrameTransmit p r desc frame s
  | .ethLinkLoss p => Sys2Proof.Machine.execEthLinkLoss p s
  | .ethCountClear rq p => Sys2Proof.Machine.execEthCountClear rq p s
  | .clockLoss src => Sys2Proof.Machine.execClockLoss src s
  | .faultEvent src inst pairEqual => Sys2Proof.Machine.execFaultEvent src inst pairEqual s
  | .sourceLiveEnd src inst => Sys2Proof.Machine.execSourceLiveEnd src inst s
  | .faultStatusClear rq addr w => Sys2Proof.Machine.execFaultStatusClear rq addr w s
  | .clearAll rq => Sys2Proof.Machine.execClearAll rq s
  | .faultForce rq addr w => Sys2Proof.Machine.execFaultForce rq addr w s
  | .wireTest rq w => Sys2Proof.Machine.execWireTest rq w s
  | .ackStop rq => Sys2Proof.Machine.execAckStop rq s
  | .ackSafe rq => Sys2Proof.Machine.execAckSafe rq s
  | .pop rq => Sys2Proof.Machine.execPop rq s
  | .fltInInput p n => Sys2Proof.Machine.execFltInInput p n s
  | .sensorConversion n raw => Sys2Proof.Machine.execSensorConversion n raw s
  | .sensorConversionTimeout n => Sys2Proof.Machine.execSensorConversionTimeout n s
  | .thermalPowerOff recordOk => Sys2Proof.Machine.execThermalPowerOff recordOk s
  | .thermalAck rq => Sys2Proof.Machine.execThermalAck rq s
  | .thermalPeakClear rq => Sys2Proof.Machine.execThermalPeakClear rq s
  | .thermalEventSelect rq w => Sys2Proof.Machine.execThermalEventSelect rq w s
  | .warmReset rq => Sys2Proof.Machine.execWarmReset rq s
  | .bootSequence flash => Sys2Proof.Machine.execBootSequence flash s
  | .hostBoot rq => Sys2Proof.Machine.execHostBoot rq s
  | .floor rq => Sys2Proof.Machine.execFloor rq s
  | .sleepEnter rq => Sys2Proof.Machine.execSleepEnter rq s
  | .sleepExitCmd rq => Sys2Proof.Machine.execSleepExitCmd rq s
  | .standbyEnter rq => Sys2Proof.Machine.execStandbyEnter rq s
  | .watchdogKick rq w => Sys2Proof.Machine.execWatchdogKick rq w s
  | .testModeInput high => Sys2Proof.Machine.execTestModeInput high s
  | .rasterReadTimeout r slot => Sys2Proof.Machine.execRasterReadTimeout r slot s
  | .msixVectorUnmask v => Sys2Proof.Machine.execMsixVectorUnmask v s
  | .primingDone p => Sys2Proof.Machine.execPrimingDone p s
  | .primingRetry p => Sys2Proof.Machine.execPrimingRetry p s
  | .markerMissing p => Sys2Proof.Machine.execMarkerMissing p s
  | .stuffViolation p => Sys2Proof.Machine.execStuffViolation p s
  | .backChannelFrameError p => Sys2Proof.Machine.execBackChannelFrameError p s
  | .retrainStepBegin c => Sys2Proof.Machine.execRetrainStepBegin c s
  | .stagedKeyExpire => Sys2Proof.Machine.execStagedKeyExpire s
  | .bondedPairCheck => Sys2Proof.Machine.execBondedPairCheck s
  | .bondedDigestCheck => Sys2Proof.Machine.execBondedDigestCheck s
  | .perstAssert => Sys2Proof.Machine.execPerstAssert s
  | .functionLevelReset => Sys2Proof.Machine.execFunctionLevelReset s
  | .perstDeassert => Sys2Proof.Machine.execPerstDeassert s
  | .segmentEnd => Sys2Proof.Machine.execSegmentEnd s
  | .barDelayLatch => Sys2Proof.Machine.execBarDelayLatch s
  | .positionUpdate => Sys2Proof.Machine.execPositionUpdate s
  | .switchoverTakeover => Sys2Proof.Machine.execSwitchoverTakeover s
  | .strainMeasure => Sys2Proof.Machine.execStrainMeasure s
  | .redundancyCompare => Sys2Proof.Machine.execRedundancyCompare s
  | .encoderRevert => Sys2Proof.Machine.execEncoderRevert s
  | .speedLimitCheck => Sys2Proof.Machine.execSpeedLimitCheck s
  | .stopReverse => Sys2Proof.Machine.execStopReverse s
  | .stopTimeout => Sys2Proof.Machine.execStopTimeout s
  | .stopResume => Sys2Proof.Machine.execStopResume s
  | .dramFillDone => Sys2Proof.Machine.execDramFillDone s
  | .ledgerAgeExpire => Sys2Proof.Machine.execLedgerAgeExpire s
  | .rowIdleClose => Sys2Proof.Machine.execRowIdleClose s
  | .retrainPeriod => Sys2Proof.Machine.execRetrainPeriod s
  | .scrubDone => Sys2Proof.Machine.execScrubDone s
  | .ispBlock => Sys2Proof.Machine.execIspBlock s
  | .stripComplete => Sys2Proof.Machine.execStripComplete s
  | .stripEvaluate => Sys2Proof.Machine.execStripEvaluate s
  | .nozzleBatch => Sys2Proof.Machine.execNozzleBatch s
  | .lampSync => Sys2Proof.Machine.execLampSync s
  | .lampAlertInput => Sys2Proof.Machine.execLampAlertInput s
  | .uvStillTimeout => Sys2Proof.Machine.execUvStillTimeout s
  | .followSelect => Sys2Proof.Machine.execFollowSelect s
  | .ppsSecond => Sys2Proof.Machine.execPpsSecond s
  | .ppsPulseEnd => Sys2Proof.Machine.execPpsPulseEnd s
  | .ppsInEdge => Sys2Proof.Machine.execPpsInEdge s
  | .shadowWindowEnd => Sys2Proof.Machine.execShadowWindowEnd s
  | .fltInHeartbeatLoss => Sys2Proof.Machine.execFltInHeartbeatLoss s
  | .fltOutHeartbeat => Sys2Proof.Machine.execFltOutHeartbeat s
  | .throttleFrame => Sys2Proof.Machine.execThrottleFrame s
  | .thermalSlowRequest => Sys2Proof.Machine.execThermalSlowRequest s
  | .vbatApply => Sys2Proof.Machine.execVbatApply s
  | .powerSequence => Sys2Proof.Machine.execPowerSequence s
  | .railTimeout => Sys2Proof.Machine.execRailTimeout s
  | .railRetry => Sys2Proof.Machine.execRailRetry s
  | .brownout => Sys2Proof.Machine.execBrownout s
  | .vbatLoss => Sys2Proof.Machine.execVbatLoss s
  | .wakeTimer => Sys2Proof.Machine.execWakeTimer s
  | .safeCsWake => Sys2Proof.Machine.execSafeCsWake s
  | .perstWake => Sys2Proof.Machine.execPerstWake s
  | .watchdogExpire => Sys2Proof.Machine.execWatchdogExpire s
  | .pcieLinkDown => Sys2Proof.Machine.execPcieLinkDown s
  | .cellarDramRequest => Sys2Proof.Machine.execCellarDramRequest s
  | .brownoutRestart => Sys2Proof.Machine.execBrownoutRestart s
  | .wakeHoldExpire => Sys2Proof.Machine.execWakeHoldExpire s

end Sys2Proof.Machine
end

