-- ==== Sys2Proof/Machine/Step.lean ====
section
/-! DEFINITION. A step of the block: the command at the front of the queue is carried out; with no command waiting 1 ns passes. -/

namespace Sys2Proof.Machine

/-- An idle step: one tick of the 1 GHz timebase counter passes (DESIGN CHOICE, log entry 1). -/
def State.idle (s : State) : State := s.onDev Dev.tick

/-- Take the command at the front of the queue and carry it out with the rest of the queue; idle on an empty queue. -/
def step (s : State) : Host.Outcome State Fault Refusal :=
  match s.pending with
  | [] => .next s.idle
  | c :: rest => exec c { s with pending := rest }

/-- The state with the command that a word spells put at the front of its queue. -/
def State.withFetchWord (s : State) (nbits w : Nat) : State :=
  match decodeTableWord nbits w with
  | some c => { s with pending := c :: s.pending }
  | none => s

end Sys2Proof.Machine
end

