-- ==== Sys2Proof/Machine/Views.lean ====
section
/-! DEFINITION. What a read of a register shows (R9, R32, R34, R46, R110, R129 and the register tables): the stored fields of a word, and the read-only
fields that are kept in the device's own structures. No row of the table reads a register but the fences; these functions say what the state shows. -/

namespace Sys2Proof.Machine

/-! ### The common layout (R31 to R34) -/

/-- The block code of the page or sub-page at a base (R31). -/
def blockCode (page : Nat) : Nat :=
  if page = 0 then 0x5359 else if page = 0x1000 then 0x524F else if page = 0x2000 then 0x5341 else if page = 0x3000 then 0x464C
  else if page = 0x4000 then 0x5448 else if page = 0x5000 then 0x4E56 else if page < 0x19000 then 0x534C else if page = 0x20000 then 0x4349
  else if page < 0x49000 then 0x4445 else if page < 0x59000 then 0x4649 else if page = 0x60000 then 0x504F else if page < 0x75000 then 0x4444
  else if page = 0x80000 then 0x4543 else if page = 0x90000 then 0x4341 else if page = 0xA0000 then 0x4953 else if page = 0xB0000 then 0x5649
  else if page = 0xC0000 then 0x4C4D else if page = 0xD0000 then 0x5442 else if page = 0xE0000 then 0x4554 else 0x484C

/-- The INSTANCE of a page: the number of a sub-page, 0xFF on a page without an index (R34). -/
def pageInstance (page : Nat) : Nat :=
  let sub (base n : Nat) : Option Nat := if base ≤ page && page < base + 0x1000 * n then some ((page - base) / 0x1000) else none
  (((((sub 0x11000 8).or (sub 0x31000 24)).or (sub 0x51000 8)).or (sub 0x71000 4)).or (sub 0x1000000 192)).getD 0xFF

/-- The capability word of a page (R165, R234, R265, R292, R314, R337, R375, R430, R443 and the position page). -/
def capWord (page : Nat) : Nat :=
  if page = 0x4000 then 0x18 else if page = 0x5000 then 0x02000A0A else if page = 0x30000 then 0x18040700 else if page = 0x50000 then 0x08100818
  else if page = 0x60000 then 0x04200202 else if page = 0x70000 then 0x40048000 else if page = 0x80000 then 0x27400100
  else if page = 0xA0000 then 0x08034000 else if page = 0xC0000 then 0x10200000
  else if 0x1000000 ≤ page then 0xF00 + (1 - page / 0x1000 % 2) else 0

/-- Does a page's ENABLE read 1 and ignore writes (R33, R144, R235, R293, R314, R391, R430, R443). -/
def alwaysOn (page : Nat) : Bool :=
  page < 0x6000 || (0x30000 ≤ page && page < 0x49000) || (0x51000 ≤ page && page < 0x59000) || (0x71000 ≤ page && page < 0x75000) ||
    page = 0x80000 || page = 0xD0000

/-- The page's fault registers (R418): 0x18 status, 0x1C live, 0x20 force, 0x24 flicker. -/
def Dev.pageFaults (d : Dev) (page off : Nat) : Nat :=
  let l := (bitKeys (page + 0x18) 0x18 0x80).getD []
  if off = 0x18 then wordOfKeys l (fun k => has d.flt.status k)
  else if off = 0x1C then wordOfKeys l d.flt.live
  else if off = 0x20 then wordOfKeys l (fun k => has d.flt.force k)
  else
    let ks := l.flatMap id
    let sum := ((d.flt.flicker.filter (fun e => has ks e.1)).map (fun e => e.2)).sum
    let last := match (d.flt.lastFlick.filter (fun e => has ks e.1)).getLast? with
      | some e => (l.findIdx? (fun x => has x e.1)).getD 0
      | none => 0
    last * 65536 + Nat.min 65535 sum

/-! ### Blocks -/

/-- ROLE_SESSION (R46). -/
def Dev.sessionWord (d : Dev) (rq : Requester) : Nat :=
  let x := d.session rq
  let st := match x.st with | .closed => 0 | .challenged => 1 | .opened => 2 | .locked => 3
  let remain := if st = 2 || st = 3 then (x.deadline - d.now + 999999999) / 1000000000 else 0
  remain * 65536 + x.fails * 256 + b2n x.refused * 16 + st * 4 + (if st = 0 then 0 else x.role)

/-- SLU_JOB_STAT, SLU_JOB_PRINTS and SLU_JOB_DEFECTS of the selected context (R110). -/
def Dev.jobWord (d : Dev) (a : Nat) : Nat :=
  let i := d.get F.SLU_JOB_IDX
  let j := d.job i
  let st := match j.st with | .free => 0 | .opened => 1 | .armed => 2 | .running => 3 | .done => 4 | .aborted => 5 | .draining => 6
  if a = 0x1005C then st * 2 ^ 29 + j.gen * 2 ^ 22 + Nat.min (2 ^ 22 - 1) (d.inflight i)
  else if a = 0x10060 then j.prints else j.defects

/-- A 48-bit or 64-bit value as its two words: k is 0 for the lower. -/
def half (k v : Nat) : Nat := if k = 0 then v % 4294967296 else v / 4294967296

/-- The job that a bar's status registers show, and whether it is being read (R129): the job being read, else the last one, while its context is not freed. -/
def Dev.cisJob (d : Dev) (b : Nat) : Option (Nat × Job × Bool) :=
  match d.readAt b with
  | some (i, j, _) => some (i, j, true)
  | none =>
    let t := d.barTags.getD b 0
    let j := d.job (t % 512)
    if j.gen = t / 512 && j.st ≠ .free then some (t % 512, j, false) else none

/-- The per-bar status registers of the cisterns (R129). A bar that reads no RUNNING job shows the last one with ACTIVE 0; what the registers then show is the
model's choice. -/
def Dev.cisWord (d : Dev) (b o : Nat) : Nat :=
  match d.cisJob b with
  | none => 0
  | some (i, j, active) =>
    if o = 0 then b2n active * 65536 + d.jobTag i
    else if o = 4 || o = 8 then half (o / 8) (j.wr b)
    else if o = 0xC || o = 0x10 then half (o / 16) (j.pointer (j.bar b).rd)
    else if o = 0x14 || o = 0x18 then half (o / 24) (j.pointer (j.bar b).rel)
    else if o = 0x1C then
      (match d.fm b, active with | some f, true => Nat.min 0xFFFFFFFF (f - (j.p0 + (j.bar b).rd)) | _, true => 0xFFFFFFFF | _, false => 0)
    else if o = 0x20 then Nat.min 0xFFFFFFFF j.geo.stopGuard
    else Nat.min 0xFFFFFFFF j.geo.res

/-- POS_STAT (R175). -/
def Dev.posWord (d : Dev) : Nat :=
  let p := d.pos
  p.active * 2 ^ 30 + b2n p.reverse * 2 ^ 29 + b2n p.frozen * 2 ^ 28 + b2n (d.encSt (if p.active = 1 then 1 else 0)).gate * 2 ^ 27 +
    clampN 1 16 d.segsOutstanding * 2 ^ 20

/-- A value in 2^-32 dots as the 64 bits of s48.16. -/
def dotsWord (x : Int) : Nat := unsigned 64 (dots16 x)

/-- The encoder registers kept as counts (R170). -/
def Dev.encWord (d : Dev) (n o : Nat) : Nat :=
  let e := d.encSt n
  if o = 0x14 || o = 0x18 then half (o / 0x18) (unsigned 64 (e.count * 65536)) else unsigned 32 e.pend

/-- The bar registers of the position page (R182). -/
def Dev.barWord (d : Dev) (b o : Nat) : Nat :=
  let x := d.posBar b
  if o = 4 || o = 8 then (match d.shownHwm b with | some h => half (o / 8) (h % 2 ^ 48) + o / 8 * 65536 | none => 0)
  else if o = 0xC then x.scale
  else if o = 0x10 then x.delay
  else half (o / 0x18) (dotsWord (d.qb b))

/-- FIRE_STAT (R234). -/
def Dev.fireWord (d : Dev) : Nat :=
  let s := d.fire.stop
  let st := match s.st with | .run => 0 | .holding => 1 | .reversing => 2 | .waiting => 3 | .resuming => 4
  let heldBits := ((List.range 8).map (fun b => b2n (d.posBar b).held.isSome * 2 ^ b)).sum
  st * 2 ^ 29 + b2n s.host * 2 ^ 28 + b2n s.fault * 2 ^ 27 + b2n s.underrun * 2 ^ 26 + b2n d.pins.drvReady * 2 ^ 18 + b2n d.fire.speedLim * 2 ^ 17 +
    b2n d.gateOpen * 2 ^ 16 + heldBits

/-- FIRE_Bb_RATE and FIRE_Bb_NEED (R235). -/
def Dev.fireBarWord (d : Dev) (b o : Nat) : Nat :=
  if o = 0x40 then (match d.barJob b with | some e => e.2.geo.rateMax | none => 0) else (d.fireBar b).need % 4294967296

/-- HLK_STAT (R256, R265). -/
def Dev.linkWord (d : Dev) (p : Nat) : Nat :=
  let q := d.port p
  let st := match q.st with
    | .disabled => 0 | .priming => 1 | .aligning => 2 | .calibrating => 3 | .authenticating => 4 | .up => 5 | .idle => 6 | .authFailed => 7
    | .pairFault => 8 | .capsFault => 9
  let unconf := (q.recs.filter (fun r => r.sent ≠ 0)).length
  st * 2 ^ 28 + b2n q.authOk * 2 ^ 26 + b2n q.bcLock * 2 ^ 25 + b2n q.pair * 2 ^ 24 + Nat.min 255 unconf * 65536

/-- Words of the oldest lees-log entry (R414, R415). -/
def LogEntry.words (e : LogEntry) : List Nat :=
  [e.time % 2 ^ 32, e.time / 2 ^ 32 % 2 ^ 32, b2n e.pairEq * 2 ^ 13 + b2n e.forced * 2 ^ 12 + b2n e.conseq * 2 ^ 11 + e.cls * 2 ^ 9 + e.source,
   e.inst * 2 ^ 24 + b2n e.tag.isSome * 65536 + e.tag.getD 0, e.seq, e.line % 2 ^ 32]

/-- FLT_FENCED_UNITS (R419). -/
def fencedUnitBit : FUnit → Nat
  | .ddr c => 2 ^ c
  | .cam n => 2 ^ (4 + n)
  | .isp => 2 ^ 8
  | .eth p => 2 ^ (9 + p)
  | .sluice => 2 ^ 11
  | .enc n => 2 ^ (12 + n)
  | .lamp c => 2 ^ (16 + c)
  | .port _ => 0

/-- The registers of the FLT page that the collector keeps (R419, R420). -/
def Dev.fltWord (d : Dev) (a : Nat) : Nat :=
  let bank (ofs page : Nat) (p : Nat → Bool) : Nat := wordOfKeys ((bitKeys (0x3000 + ofs + (a - 0x3000 - page)) 0x18 ofs).getD []) p
  if a = 0x3044 then b2n (!d.flt.safes.isEmpty) * 2 ^ 31 + b2n (!d.flt.stops.isEmpty) * 2 ^ 30 + b2n d.outFault * 2 ^ 28
  else if a = 0x3050 then d.flt.log.length
  else if 0x3060 ≤ a && a < 0x3078 then (match d.flt.log.head? with | some e => e.words.getD ((a - 0x3060) / 4) 0 | none => 0)
  else if 0x3080 ≤ a && a < 0x30A8 then bank 0x80 0x80 (fun k => has d.flt.status k)
  else if 0x30C0 ≤ a && a < 0x30E8 then bank 0x80 0xC0 d.flt.live
  else if 0x3100 ≤ a && a < 0x3128 then bank 0x100 0x100 (fun k => has d.flt.force k)
  else if 0x3140 ≤ a && a < 0x3158 then
    ((List.range 32).map (fun i => b2n (d.fenced (.port ((a - 0x3140) / 4 * 32 + i))) * 2 ^ i)).sum
  else if a = 0x3158 then d.flt.fences.foldl (fun v f => v ||| fencedUnitBit f.unit) 0
  else if 0x3400 ≤ a && a < 0x38E0 then
    let n := (a - 0x3400) / 4
    let flick := ((d.flt.flicker.filter (fun e => e.1 / 256 = n)).map (fun e => e.2)).sum
    Nat.min 255 flick * 2 ^ 24 + (match safetyNo n with | some k => 2 ^ 15 + k * 256 | none => 0) + b2n (d.flt.fences.any (fun f => f.src = n)) * 128 +
      floorOf n * 16 + (if (safetyNo n).isSome then d.classOf n else 0)
  else 0

/-- VIN_NOZ_STAT (R349). -/
def Dev.nozWord (d : Dev) : Nat :=
  let h := (d.vin.noz.filter (fun e => e.held)).length
  let q := (d.vin.noz.filter (fun e => !e.held)).length
  Nat.min 255 h * 2 ^ 24 + Nat.min 255 q * 65536

/-- TB_TIME (R389). -/
def Dev.timeWord (d : Dev) (k : Nat) : Nat :=
  if k = 2 then (d.fineT % fine).toNat else half k (d.T % 2 ^ 64)

/-! ### BAR2 -/

/-- The word that a read of BAR2 returns: a shadow, or the head map in force (R161). -/
def Dev.bar2Shown (d : Dev) (a : Nat) : Nat :=
  if 0x621000 ≤ a && a < 0x621800 then
    (if a % 0x100 < 0xC0 then (d.hentry ((a - 0x621000) / 0x100) (a % 0x100 / 8)).words.getD (a % 8 / 4) 0 else 0)
  else d.bar2Word a

/-! ### Read latches (R12) -/

/-- The words that a read of a low word latches: R170, R175, R182, R235, R265, R314, R391 and R443. -/
def latchedBy (a : Nat) : List Nat :=
  if a = 0x5048 || a = 0x80048 || a = 0x80050 || a = 0x80060 || a = 0x80074 || a = 0x80090 || a = 0x800A0 then [a + 4]
  else if 0x51000 ≤ a && a < 0x59000 && (a % 0x1000 = 0x48 || a % 0x1000 = 0x50) then [a + 4]
  else if a = 0x60058 then [0x6005C, 0x60060, 0x60064]
  else if 0x60100 ≤ a && a < 0x60200 && a % 0x40 = 0x14 then [a + 4]
  else if 0x60300 ≤ a && a < 0x60400 && a % 0x20 = 0x14 then [a + 4]
  else if a = 0xD0060 then [0xD0064, 0xD0068]
  else if 0x1000000 ≤ a && a < 0x10C0000 && a % 0x1000 = 0x90 then [a + 4]
  else []

/-- Does a word show what the latest read of its low word latched. -/
def isLatched (a : Nat) : Bool := has (latchedBy (a - 4)) a || has (latchedBy (a - 8)) a || has (latchedBy (a - 12)) a

/-! ### A word -/

/-- The read-only part of a block's word that is not a stored field. -/
def Dev.ownWord (d : Dev) (rq : Requester) (a : Nat) : Nat :=
  if a = 0x40 then 0x01924201
  else if 0x1060 ≤ a && a < 0x1080 then
    let x := d.session rq
    if x.st = .challenged then ofBytesLE ((x.chal.drop (a - 0x1060)).take 4) else 0
  else if 0x2040 ≤ a && a < 0x2118 then
    let p := d.bond.pairs.getD ((a - 0x2040) / 8) (0, 0)
    if a % 8 = 0 then p.1 else p.2
  else if 0x2300 ≤ a && a < 0x2400 then d.cask ((a - 0x2300) / 4)
  else if a = 0x1004C then d.descs.length
  else if a = 0x3005C then (d.ktabs.filter (fun t => t.sw.isSome)).length
  else if a = 0x1044 then d.sessionWord rq
  else if a = 0x2200 then b2n (!d.safe.staged.isEmpty) * 2
  else if 0x3000 ≤ a && a < 0x4000 then d.fltWord a
  else if a = 0x1005C || a = 0x10060 || a = 0x10064 then d.jobWord a
  else if 0x20100 ≤ a && a < 0x20300 && a % 0x40 < 0x28 then d.cisWord ((a - 0x20100) / 0x40) (a % 0x40)
  else if 0x31000 ≤ a && a < 0x49000 && 0x40 ≤ a % 0x1000 && a % 0x1000 < 0x80 then
    let s := (a - 0x31000) / 0x1000
    let b := (a % 0x1000 - 0x40) / 4
    if b < 8 then let r := d.sliceRange b s; r.2 * 2 ^ 17 + r.1
    else if (d.hentry (b - 8) s).valid then (d.spoutsOf (b - 8)).length else 0
  else if a = 0x5000C then d.fireWord
  else if 0x51000 ≤ a && a < 0x59000 && (a % 0x1000 = 0x40 || a % 0x1000 = 0x44) then d.fireBarWord ((a - 0x51000) / 0x1000) (a % 0x1000)
  else if a = 0x6000C then d.posWord
  else if a = 0x6004C then unsigned 32 d.pos.speed
  else if a = 0x60058 || a = 0x6005C then half (a % 8 / 4) (dotsWord d.pos.x)
  else if a = 0x60060 || a = 0x60064 then half (a % 8 / 4) d.pos.tk
  else if a = 0x6007C then unsigned 32 d.pos.eps
  else if 0x60100 ≤ a && a < 0x60200 && (a % 0x40 = 0x14 || a % 0x40 = 0x18 || a % 0x40 = 0x20) then d.encWord ((a - 0x60100) / 0x40) (a % 0x40)
  else if 0x60300 ≤ a && a < 0x60400 && a % 0x20 ≠ 0 && a % 0x20 < 0x1C then d.barWord ((a - 0x60300) / 0x20) (a % 0x20)
  else if a = 0x6080C || a = 0x6082C then
    let x := d.emuSt ((a - 0x6080C) / 0x20)
    Nat.min 65535 (x.target - x.out).natAbs
  else if 0x71000 ≤ a && a < 0x75000 && a % 0x1000 = 0xC then
    let x := d.chan ((a - 0x71000) / 0x1000)
    x.debt.foldl Nat.max 0 * 2 ^ 24 + (if x.arrived < d.now then 0 else x.reqs.length)
  else if 0x80100 ≤ a && a < 0x80180 && a % 0x20 = 8 then
    let x := d.chan ((a - 0x80100) / 0x20)
    x.dead.length * 2 ^ 24 + x.ledger.length * 65536 + x.retired.length
  else if 0x90100 ≤ a && a < 0x90500 && a % 0x100 = 0x24 then (d.cam.getD ((a - 0x90100) / 0x100) {}).buf.length * 65536
  else if a = 0xB0078 then d.nozWord
  else if a = 0xD000C then b2n (d.slewGoal ≠ 0 && !d.tb.refused) * 2 ^ 29
  else if 0xD0060 ≤ a && a < 0xD006C then d.timeWord ((a - 0xD0060) / 4)
  else if (a = 0xD0124 || a = 0xD0164) then unsigned 32 (max (-2147483648) (min 2147483647 (Int.fdiv (d.domT ((a - 0xD0124) / 0x40) - d.fineT) fine)))
  else if 0x1000000 ≤ a && a % 0x1000 = 0xC then d.linkWord ((a - 0x1000000) / 0x1000)
  else 0

/-- An MRAM write is under way: entries, calibration records or a commit wait for it, and writes are not suspended (R443). -/
def State.mramBusy (s : State) : Bool :=
  !s.dev.flag F.NVM_STAT_SUSPENDED && (!s.audit.queue.isEmpty || !s.dev.vin.writing.isEmpty || s.dev.safe.applying.isSome)

/-- The present value of a register word of an open page. -/
def State.liveWord (s : State) (rq : Requester) (addr : Nat) : Nat :=
  let d := s.dev
  let a := canonAddr rq addr
  let off := addr % 0x1000
  let page := addr - off
  if off = 0 then blockCode page * 65536 + 0x1000 + pageInstance page
  else if off = 4 then capWord page
  else if off = 8 then d.word a + b2n (alwaysOn page)
  else if 0x18 ≤ off && off < 0x28 then d.pageFaults page off
  else if addr = 0x10D0 then b2n s.audit.wrapped * 2 ^ 31 + s.audit.next
  else if addr = 0x10D4 then s.audit.ovr
  else if addr = 0x500C then d.word a + b2n s.mramBusy * 2 ^ 31 + Nat.min 63 (s.audit.queue.length + d.vin.writing.length)
  else d.word a + d.ownWord rq addr

/-- The word that a read of BAR0 shows to a requester: 0 outside the pages and while the page is closed (R9, R30, R436); a latched word as it was
latched (R12). -/
def State.readWord (s : State) (rq : Requester) (addr : Nat) : Nat :=
  if !inPages addr || !s.dev.pageOpen addr then 0
  else if isLatched addr then (s.dev.latches.find addr).getD 0
  else s.liveWord rq addr

end Sys2Proof.Machine
end

