-- ==== Sys2Proof/Machine/Reads.lean ====
section
/-! DEFINITION. A read on the register bus (R12, R29, R30, R37 to R39). The table has no row for it: it is an operation of the host interface beside the commands. It
answers the value and the state after the read, or none while the read must wait. -/

namespace Sys2Proof.Machine

/-- A read of BAR0 or BAR2: 32 or 64 bits with byte enables. -/
structure ReadAccess where
  rq     : Requester
  region : Region
  addr   : Nat
  be     : BitVec 8
  wide   : Bool
  deriving DecidableEq, Repr

/-- A word is latched (R12). -/
def Dev.latchWord (d : Dev) (a v : Nat) : Dev :=
  { d with latches := if v = 0 then d.latches.drop a else (d.latches.drop a).put a v }

/-- The words that a read of a word latches take their present values. -/
def State.latchFrom (s : State) (rq : Requester) (a : Nat) : State :=
  (latchedBy a).foldl (fun t w => t.onDev (fun d => d.latchWord w (s.liveWord rq w))) s

/-- The bytes of a word that a read's enables select (R30). -/
def selectBytes (be v : Nat) : Nat := mergeBytes 0 v be

/-- A word of the MSI-X table or of the pending-bit array (R80). -/
def Dev.msixWord (d : Dev) (a : Nat) : Nat :=
  if a < 0x2000400 then
    let e := d.pwr.msix.getD ((a - 0x2000000) / 16) {}
    match a % 16 / 4 with
    | 0 => e.addrLo
    | 1 => e.addrHi
    | 2 => e.data
    | _ => b2n e.masked
  else if 0x2001000 ≤ a then
    ((List.range 32).map (fun k => b2n (d.pwr.msix.getD ((a - 0x2001000) / 4 * 32 + k) {}).pending * 2 ^ k)).sum
  else 0

/-- Must a read of a page wait behind an earlier write of its requester to that page that is not yet stored (R38). -/
def State.readWaits (s : State) (rq : Requester) (a : Nat) : Bool := s.audit.stalled.any (fun x => x.1 = rq && x.2.1 = pageOf a)

/-- A read of one 32-bit word of BAR0 (R30, R38, R39): a fence waits for its writes, a cask word is voted, a low word latches its high words, and a read
outside the pages is counted. -/
def State.readBar0 (s : State) (rq : Requester) (a : Nat) : Option (Nat × State) :=
  if inMsix a then some (if s.dev.pwr.st = .on then s.dev.msixWord a else 0, s)
  else if !inPages a || !s.dev.pageOpen a then some (0, s.onDev Dev.badAcc)
  else if a % 0x1000 = 0x28 then (if s.outstanding rq (if a < 0x1000 then none else some (pageOf a)) then none else some (0, s))
  else if s.readWaits rq a then none
  else
    let v := s.readWord rq a
    let t := s.latchFrom rq a
    some (v, if 0x2300 ≤ a && a < 0x2400 then t.onDev (fun d => d.voteCask ((a - 0x2300) / 4)) else t)

/-- A read of one 32-bit word of a region; an address beyond the region's size is none of the part's (R29). -/
def State.readOne (s : State) (rq : Requester) (region : Region) (a be : Nat) : Option (Nat × State) :=
  if region.size ≤ a then some (0, s)
  else
    match region with
    | .bar0 => (s.readBar0 rq (a / 4 * 4)).map (fun r => (selectBytes be r.1, r.2))
    | .bar2 => some (selectBytes be (if s.dev.pwr.st = .on then s.dev.bar2Shown (a / 4 * 4) else 0), s)

/-- A read of the bus: 64 bits are two reads of 32, the lower address first (R30). -/
def State.busRead (s : State) (x : ReadAccess) : Option (Nat × State) :=
  let be := x.be.toNat
  if x.wide then
    (s.readOne x.rq x.region x.addr (be % 16)).bind (fun lo =>
      (lo.2.readOne x.rq x.region (x.addr + 4) (be / 16)).map (fun hi => (hi.1 * 4294967296 + lo.1, hi.2)))
  else s.readOne x.rq x.region x.addr (be % 16)

end Sys2Proof.Machine
end

