-- ==== Sys2Proof/Safety.lean ====
section
/-! DEFINITION. The terms of the claims: when register writes find their pages open and no write waiting, what the audit chain keeps to, and when no head
may fire and no lamp may light. -/

namespace Sys2Proof.Machine

/-- The part is powered and every register page is open (R436). -/
abbrev State.PagesOpen (s : State) : Prop := s.dev.pwr.st = .on ∧ 2 ≤ s.dev.get F.SYS_STAT_PHASE

/-- No register write waits, and the audit queue of 32 has room for two more entries (R58). -/
abbrev State.Quiet (s : State) : Prop := s.audit.stalled = [] ∧ s.audit.queue.length ≤ 30

/-- A register write of a requester with a role code at or above r finds its page open and need not wait. -/
abbrev State.Ready (s : State) (rq : Requester) (r : Nat) : Prop := s.PagesOpen ∧ s.Quiet ∧ r ≤ s.dev.rights rq

/-- The audit chain keeps to its sizes: at most 32 entries wait, the ring's place and its slots lie below 8,192, and no two slots of the ring
share a place (R58, R60). -/
def Audit.Bounded (a : Audit) : Prop :=
  a.queue.length ≤ 32 ∧ a.next < 8192 ∧ (∀ x ∈ a.ring, x.index < 8192) ∧ (a.ring.map (fun x => x.index)).Nodup

/-- Two devices show the same registers outside some keys. -/
def Dev.SameRegsBut (d e : Dev) (keys : List Nat) : Prop :=
  ∀ (f : Field) (i j : Nat), f.key i j ∉ keys → e.get f i j = d.get f i j

/-- The bank of the ROLE page that is a requester's own (R44). -/
def bankOf : Requester → Nat
  | .host => 0
  | .cellar => 1

/-- A job context without what a report can change of it: its defect ranges and their count. -/
def Job.core (j : Job) : Job := { j with ranges := [], defects := 0 }

/-- What no report of a fault source and no reaction reaches: the job contexts but for their defect ranges, tables, read latches, clocks, sessions, the SAFE port, both stores, descriptors with their source reads, spouts, position, DRAM,
timebase, Ethernet, temperature; of the power state all but the MSI-X vectors, of the line scheduler all but the stop sequence. -/
def Dev.fixed (d : Dev) :=
  ((d.bar2, d.latches, d.raw, d.aon, d.free, d.fences, d.host, d.cellar, d.staged),
   (d.safe, d.bond, d.mram, d.pins, { d.pwr with msix := [] }, d.descs, d.reads, d.turn, d.spouts, d.decBusy, d.barTags),
   (d.ktabs, d.hmap, d.enc, d.pos, { d.fire with stop := {} }, d.groups, d.ecc, d.dram),
   (d.check, d.tb, d.eth, d.thm),
   fun i => (d.job i).core)

/-- Since d a source has been reported: its status is set, and nothing out of a report's reach has changed (R398, R401). -/
def Dev.Reported (d e : Dev) (src : Nat) (inst : Nat := 0) : Prop := e.fixed = d.fixed ∧ has e.flt.status (fkey src inst) = true

/-- A command completes; it leaves the audit chain and the queue alone, and the device that it leaves has a property. -/
def Completes (c : Instr) (s : State) (P : Dev → Prop) : Prop := ∃ e, exec c s = .next { s with dev := e } ∧ P e

/-- A command completes with exactly this device, the audit chain and the queue as they were. -/
def Gives (c : Instr) (s : State) (e : Dev) : Prop := exec c s = .next { s with dev := e }

/-- A command completes with exactly this device and one more audit entry: the requester's, at this address. -/
def GivesAudited (c : Instr) (s : State) (rq : Requester) (addr : Nat) (e : Dev) : Prop :=
  ∃ old new, exec c s = .next (({ s with dev := e } : State).pushAudit (some rq) (s.dev.entry rq addr old new))

/-- A command completes with one more audit entry, the requester's at this address, and a property of the device that it leaves. -/
def CompletesAudited (c : Instr) (s : State) (rq : Requester) (addr : Nat) (P : Dev → Prop) : Prop :=
  ∃ e old new, exec c s = .next (({ s with dev := e } : State).pushAudit (some rq) (s.dev.entry rq addr old new)) ∧ P e

/-- A requester has a write outstanding: an audited one whose entry is not yet in the ring, or one that waits; without a page, on any page (R39, R58). -/
abbrev State.Outstanding (s : State) (rq : Requester) (page : Option Nat) : Prop :=
  (∃ e ∈ s.audit.queue, e.1 = some rq ∧ ∀ p ∈ page, e.2.page = p) ∨ (∃ x ∈ s.audit.stalled, x.1 = rq ∧ ∀ p ∈ page, x.2.1 = p)

/-- From e to d, an ARMED context starts at a press line (R111, R178): it is RUNNING there with what its bars latch, an empty one that does not chain is DONE there, and
one that a 17th segment would need waits. -/
def Dev.Started (e d : Dev) (i line : Nat) (late : Bool) : Prop :=
  ((e.job i).ctx.empty = false → e.segmentWaits line (if (e.job i).ctx.lpi1200 then 1 else 2) = false →
    (d.job i).core = { (e.job i).core with
      st := .running, p0 := line, startLate := late, claimed := false, waiting := false, prints0 := none, bars := (d.job i).bars, strip := (d.job i).strip }) ∧
  ((e.job i).ctx.empty = false → e.segmentWaits line (if (e.job i).ctx.lpi1200 then 1 else 2) = true →
    (d.job i).core = { (e.job i).core with waiting := true, startLate := late }) ∧
  ((e.job i).ctx.empty = true → (e.job i).ctx.chain = false → (d.job i).core = { (e.job i).core with st := .done, p0 := line, waiting := false })

/-- It is a ring's arbitration turn: it may fetch, and no ring between the one served last and it may (R88). -/
abbrev Dev.TurnIs (d : Dev) (r : Nat) : Prop := ∃ n < 8, r = (d.turn + 1 + n) % 8 ∧ d.fetchable r ≠ 0 ∧ ∀ m < n, d.fetchable ((d.turn + 1 + m) % 8) = 0

/-- The commands that write an area of MRAM, each its owner (R77, R442, R443); a write that resumes may be any of them. -/
def mramOwner : Instr → Bool
  | .auditedWriteResume .. | .headMapCommit .. | .calRecordWriteDone .. | .bootSequence .. | .thermalAck .. | .floor .. | .channelTrainDone .. |
    .safeCommitApply .. | .keyStage .. | .standbyEnter .. | .headKeyCommit .. | .hostBoot .. | .thermalPowerOff .. | .spareMapWrite .. |
    .ddrEnable .. => true
  | _ => false

/-- What few commands reach: the raw counter, the bonded store, the SAFE port, the staged key, the head map in force, DRAM with its check bits, the timebase and the
lane groups. -/
def Dev.stores (d : Dev) := (d.raw, d.bond, d.safe, d.staged, d.hmap, d.dram, d.check, d.tb, d.groups)

/-- The commands that reach one of those: keys, the SAFE port and the bonded store, maps and their cask words, DRAM, the timebase, lane rates, boot and the loss of power. -/
def storeOwner : Instr → Bool
  | .keyStage .. | .stagedKeyExpire .. | .bootSequence .. | .safeCommitApply .. | .standbyEnter .. | .auditedWriteResume .. | .safeNop .. |
    .safeRead .. | .safeWrite .. | .bondedDigestCheck .. | .safeCommit .. | .safeDiscard .. | .safeBadFrame .. | .caskWordRead .. | .headMapCommit .. |
    .calRecordWriteDone .. | .floor .. | .channelTrainDone .. | .hostBoot .. | .spareMapWrite .. | .ddrEnable .. | .dramWriteAccept .. |
    .rasterReadCompletion .. | .descriptorResume .. | .spoutLineFill .. | .scrubGo .. | .scrubDone .. | .ddrDisable .. | .ddrRateGo .. |
    .bar4Write .. | .scrubAbort .. | .dramReadComplete .. | .bar4Read .. | .pathDelayWrite .. | .domainForce .. | .timeAdjust .. | .timeForce .. |
    .tcmpArm .. | .domainEnable .. | .warmReset .. | .ppsSecond .. | .followSelect .. | .timeAddendWrite .. | .ppsPulseEnd .. | .tcmpHit .. |
    .domainAdjust .. | .domainAck .. | .brownout .. | .thermalPowerOff .. | .laneRateChange .. | .groupPllRelock .. => true
  | _ => false

end Sys2Proof.Machine
end

