-- ==== Sys2Proof/Certificates/Slice0/Obligations.lean ====
section
/-! DEFINITION. The statements about the KT192. Each docstring names the rules that its statement formalises; a statement that rests on a choice of the
model says so and names its log entry. -/

section
open Sys2Proof Sys2Proof.Machine

/-! ### The queue -/

/-- Derived from the form of the model (a queue of commands, first in, first out); the idle tick is the model's choice (log entry 1). -/
def Obligations.StepTakesFrontCommand : Prop :=
  (∀ (c : Instr) (rest : List Instr) (s : State), step { s with pending := c :: rest } = exec c { s with pending := rest }) ∧
  (∀ s : State, s.pending = [] → step s = .next (s.onDev Dev.tick))

/-! ### Register writes (file 02) -/

/-- R29 and R30: a write whose byte enables do not cover one whole aligned word is discarded and counted, and so is one outside every page; one beyond the region's size is none of the part's; a
64-bit access is two 32-bit accesses, the lower address first, and one that is not aligned to 8 bytes is discarded and counted. R80: a whole word written to the MSI-X table is stored in its vector. R36: CLEAR empties SYS_BAD_ACC. R39 and R40: a fence
read returns at once when nothing of its requester is outstanding on its page (SYS_FENCE: on any page), else it waits; the first waiting fence read with nothing outstanding returns. R12 and R38: a read of the bus outside the pages answers 0 and is counted, one waits behind
an earlier write of its requester to its page, and a read of TB_TIME's low word latches what a later read of its high word answers. Where it rests on a choice of the model: log entries 12 and 41. -/
def Obligations.AccessesAreCheckedAndFenced : Prop :=
  (
  (∀ (a : BusAccess) (s : State), a.wide = false → a.addr < a.region.size → (a.region = .bar0 → inMsix a.addr = false) →
    (a.addr % 4 ≠ 0 ∨ a.be.toNat % 16 ≠ 15 ∨ (a.region = .bar0 ∧ inPages a.addr = false)) →
    Gives (.registerWrite a) s (s.dev.set F.SYS_BAD_ACC_COUNT (Nat.min 67108863 (s.dev.get F.SYS_BAD_ACC_COUNT + 1)))) ∧
  (∀ (a : BusAccess) (s : State), a.wide = false → a.region.size ≤ a.addr → Gives (.registerWrite a) s s.dev) ∧
  (∀ (a : BusAccess) (s : State), a.wide = true → a.addr % 8 ≠ 0 →
    Gives (.registerWrite a) s (s.dev.set F.SYS_BAD_ACC_COUNT (Nat.min 67108863 (s.dev.get F.SYS_BAD_ACC_COUNT + 1)))) ∧
  (∀ (a : BusAccess) (s : State), a.wide = true → a.addr % 8 = 0 →
    ∃ t u, exec (.registerWrite { a with wide := false, be := BitVec.ofNat 8 (a.be.toNat % 16), data := BitVec.ofNat 64 (a.data.toNat % 4294967296) }) s
        = .next t ∧
      exec (.registerWrite { a with addr := a.addr + 4, wide := false, be := BitVec.ofNat 8 (a.be.toNat / 16),
                                    data := BitVec.ofNat 64 (a.data.toNat / 4294967296) }) t = .next u ∧
      exec (.registerWrite a) s = .next u)
  ) ∧ (
  ∀ (rq : Requester) (v : Fin 64) (be : BitVec 8) (data : BitVec 64) (s : State), s.dev.pwr.st = .on → be.toNat % 16 = 15 →
    let put (e : Msix) : Dev := { s.dev with pwr := { s.dev.pwr with msix := setAt s.dev.pwr.msix v.val (fun _ => e) } }
    let e := s.dev.pwr.msix.getD v.val {}
    Gives (.registerWrite ⟨rq, .bar0, 0x2000000 + 16 * v.val, be, false, data⟩) s (put { e with addrLo := data.toNat % 4294967296 / 4 * 4 }) ∧
    Gives (.registerWrite ⟨rq, .bar0, 0x2000004 + 16 * v.val, be, false, data⟩) s (put { e with addrHi := data.toNat % 4294967296 }) ∧
    Gives (.registerWrite ⟨rq, .bar0, 0x2000008 + 16 * v.val, be, false, data⟩) s (put { e with data := data.toNat % 4294967296 }) ∧
    (data.toNat % 2 = 1 ∨ e.masked = false →
      Gives (.registerWrite ⟨rq, .bar0, 0x200000C + 16 * v.val, be, false, data⟩) s (put { e with masked := decide (data.toNat % 2 = 1) }))
  ) ∧ (
  (∀ (rq : Requester) (s : State), s.Ready rq 0 → Gives (.sysBadAccClear rq) s (s.dev.set F.SYS_BAD_ACC_COUNT 0)) ∧
  (∀ (rq : Requester) (page : Nat) (s : State), ¬ s.Outstanding rq (if page = 0 then none else some page) →
    Gives (.pageFenceRead rq page) s (s.dev.emit (.fence rq (if page = 0 then none else some page)))) ∧
  (∀ (rq : Requester) (page : Nat) (s : State), s.Outstanding rq (if page = 0 then none else some page) →
    Gives (.pageFenceRead rq page) s { s.dev with fences := s.dev.fences ++ [⟨rq, if page = 0 then none else some page⟩] }) ∧
  (∀ (rq : Requester) (s : State), ¬ s.Outstanding rq none → Gives (.sysFenceRead rq) s (s.dev.emit (.fence rq none))) ∧
  (∀ (rq : Requester) (s : State), s.Outstanding rq none → Gives (.sysFenceRead rq) s { s.dev with fences := s.dev.fences ++ [⟨rq, none⟩] }) ∧
  (∀ (rq : Requester) (s : State) (f : FenceRead) (before rest : List FenceRead), s.dev.fences = before ++ f :: rest → f.rq = rq →
    ¬ s.Outstanding rq f.page → (∀ g ∈ before, g.rq = rq → s.Outstanding rq g.page) →
    Gives (.fenceReturn rq) s (({ s.dev with fences := before ++ rest } : Dev).emit (.fence rq f.page))) ∧
  (∀ (rq : Requester) (s : State), (∀ g ∈ s.dev.fences, g.rq = rq → s.Outstanding rq g.page) → Gives (.fenceReturn rq) s s.dev)
  ) ∧ (
  (∀ (x : ReadAccess) (s : State), x.wide = false → x.region.size ≤ x.addr → s.busRead x = some (0, s)) ∧
  (∀ (rq : Requester) (addr : Nat) (be : BitVec 8) (s : State), addr % 4 = 0 → addr < 0x4000000 → inMsix addr = false → inPages addr = false →
    s.busRead ⟨rq, .bar0, addr, be, false⟩ =
      some (0, { s with dev := s.dev.set F.SYS_BAD_ACC_COUNT (Nat.min 67108863 (s.dev.get F.SYS_BAD_ACC_COUNT + 1)) })) ∧
  (∀ (rq : Requester) (addr : Nat) (be : BitVec 8) (s : State), s.PagesOpen → addr % 4 = 0 → inPages addr = true → addr % 0x1000 ≠ 0x28 →
    (∃ y ∈ s.audit.stalled, y.1 = rq ∧ y.2.1 = addr / 0x1000) → s.busRead ⟨rq, .bar0, addr, be, false⟩ = none) ∧
  (∀ (rq : Requester) (s : State), s.PagesOpen → (∀ y ∈ s.audit.stalled, y.1 = rq → y.2.1 ≠ 0xD0) →
    ∃ t, s.busRead ⟨rq, .bar0, 0xD0060, 15, false⟩ = some (s.dev.T % 4294967296, t) ∧
      ∀ (rq' : Requester) (u : State), u.PagesOpen → (∀ y ∈ u.audit.stalled, y.1 = rq' → y.2.1 ≠ 0xD0) → u.dev.latches = t.dev.latches →
        u.busRead ⟨rq', .bar0, 0xD0064, 15, false⟩ = some (s.dev.T / 4294967296, u))
  )

/-- R5, R8 and R83 on SLU_FETCH, R58 and R234 on FIRE_COMMIT: a permitted write stores the legal value, and one that needs INSTALLER leaves one audit
entry and starts the idle timer again. R11, R42 and R48: a write to a word whose every stored field needs a role that the requester lacks changes nothing but the counts of refused and
discarded writes, and the same holds of the commands of the action bits that need a role. Where it rests on a choice of the model: log entries 18 and 19. -/
def Obligations.WritesAreClampedOrRefused : Prop :=
  (
  (∀ (rq : Requester) (be : BitVec 8) (data : BitVec 64) (s : State), s.PagesOpen → s.Quiet → be.toNat % 16 = 15 →
    Gives (.registerWrite ⟨rq, .bar0, 0x10040, be, false, data⟩) s
      (s.dev.set F.SLU_FETCH_RD_SIZE (if data.toNat % 4 = 3 then 2 else data.toNat % 4))) ∧
  (∀ (rq : Requester) (be : BitVec 8) (data : BitVec 64) (s : State), s.Ready rq 2 → be.toNat % 16 = 15 →
    GivesAudited (.registerWrite ⟨rq, .bar0, 0x50044, be, false, data⟩) s rq 0x50044
      ((s.dev.set F.FIRE_COMMIT_NS (max 5000 (min 200000 (data.toNat % 262144)))).touch rq))
  ) ∧ (
  ∀ (rq : Requester) (addr : Nat) (be : BitVec 8) (data : BitVec 64) (s : State), s.PagesOpen → s.Quiet → be.toNat % 16 = 15 → addr % 4 = 0 →
    inPages addr = true →
    (∃ x ∈ fieldsAt (canonAddr rq addr), x.1.stores = true) →
    (∀ x ∈ fieldsAt (canonAddr rq addr), x.1.stores = true → s.dev.mayField rq x.1 x.2.1 (data.toNat % 4294967296) = false) →
    Gives (.registerWrite ⟨rq, .bar0, addr, be, false, data⟩) s
      (((s.dev.set F.ROLE_DENY_COUNT (Nat.min 63 (s.dev.get F.ROLE_DENY_COUNT (bankOf rq) + 1)) (bankOf rq)).set F.ROLE_DENY_ADDR addr (bankOf rq)).set
        F.SYS_BAD_ACC_COUNT (Nat.min 67108863 (s.dev.get F.SYS_BAD_ACC_COUNT + 1)))
  ) ∧ (
  ∀ (rq : Requester) (p : Port) (n : Enc) (c : Fin 4) (dm : Fin 2) (w : Word) (s : State), s.PagesOpen → s.Quiet →
    ∀ x ∈ [(Instr.sleepEnter rq, 0x54, Role.operator), (.fireStopCmd rq, 0x50040, .operator), (.fireResumeCmd rq, 0x50040, .operator),
        (.hostBoot rq, 0x4C, .installer), (.thermalAck rq, 0x4044, .installer), (.headMapCommit rq, 0x30054, .installer), (.headMapDefault rq, 0x30054, .installer),
        (.positionEnable rq, 0x60008, .installer), (.positionDisable rq, 0x60008, .installer), (.revertCmd rq, 0x60074, .installer),
        (.indexAdopt rq n, 0x6012C + 0x40 * n.val, .installer), (.hlkMemWrite rq p, hlkAddr p.val 0xA4, .installer),
        (.hlkReauth rq p, hlkAddr p.val 0x68, .installer), (.fenceCh rq c, 0x71058 + 0x1000 * c.val, .installer), (.nozzleApprove rq, 0xB0080, .installer),
        (.nozzleDiscard rq, 0xB0080, .installer), (.timeForce rq, 0xD0058, .installer), (.domainForce rq dm, 0xD0120 + 0x40 * dm.val, .installer),
        (.domainAck rq dm, 0xD0120 + 0x40 * dm.val, .installer), (.floor rq, 0x4C, .maker), (.headKeyCommit rq w, hlkAddr 0 0xFC, .maker)],
      s.dev.may rq (some x.2.2) = false → Gives x.1 s (s.dev.deny rq x.2.1)
  )

/-- R250 and R265: a calibration sends one CAL frame at a time with a new CAL_ID, 20 µs apart, on a lane with no other frame and no record to send; its echo adds a round trip, and the last of SAMPLES gives LINK_h and ends it, taking a port from CALIBRATING to its
authentication, a pair's odd port to UP once its even port is there; an echo that is late by 1 ms ends the calibration of an UP port and returns a CALIBRATING one to PRIMING, reported as HLK_DOWN. It begins at START and after each PERIOD_MS on an UP port. Where it rests on a choice of the model: log entries 81 and 82. -/
def Obligations.LinksAreCalibrated : Prop :=
  ∀ (p : Port) (s : State) (q : HlkPort), q = s.dev.port p.val → p.val < s.dev.ports.length →
    (∀ (e : Dev) (due : Prop), e = s.dev.laneTick p.val →
      (due ↔ (q.st = .calibrating ∨ q.st = .up) ∧ q.tx.mode = .on ∧ q.calOn = true ∧ q.calOut = none ∧ q.calAt + 20000 ≤ s.dev.raw ∧ (∀ r ∈ q.recs, r.sent ≠ 0 ∧ r.again = false) ∧
        e.underWay p.val = false ∧ (e.port p.val).tx.waits = []) →
      (¬ due → Gives (.cal p) s e) ∧
      (due → Gives (.cal p) s ((e.modPort p.val (fun q =>
          { q with calId := (q.calId + 1) % 65536, calOut := some ((q.calId + 1) % 65536, (s.dev.fineT / 16777216).toNat), calAt := s.dev.raw })).laneStart p.val 6 [(q.calId + 1) % 65536]) ∧
        Completes (.cal p) s (fun d => Output.lane p.val 6 [(q.calId + 1) % 65536] ∈ d.outbox))) ∧
    (∀ (id : BitVec 16) (ta : Word) (t3 : Nat),
      (q.calOut = none → Gives (.calEcho p id ta t3) s s.dev) ∧
      (∀ i t0, q.calOut = some (i, t0) →
        (i ≠ id.toNat ∨ q.bcLock = false ∨ (q.st ≠ .calibrating ∧ q.st ≠ .up) → Gives (.calEcho p id ta t3) s s.dev) ∧
        (∀ got : List Int, i = id.toNat → q.bcLock = true → q.st = .calibrating ∨ q.st = .up → got = q.calGot ++ [(t3 : Int) - t0 - ta.toNat] →
          (got.length < s.dev.get F.HLK_CAL_SAMPLES p.val →
            Gives (.calEcho p id ta t3) s (s.dev.modPort p.val (fun q => { q with lastBack := s.dev.raw, calOut := none, calGot := got }))) ∧
          (s.dev.get F.HLK_CAL_SAMPLES p.val ≤ got.length →
            Completes (.calEcho p id ta t3) s (fun d => (d.port p.val).calOn = false ∧ (d.port p.val).calOut = none ∧
              d.get F.HLK_LINK p.val = linkOf got (signed 16 (s.dev.get F.HLK_LINK_TRIM p.val)) % 2 ^ F.HLK_LINK.width ∧
              (d.get F.HLK_IRQ_STAT p.val).testBit 5 = true ∧ (∀ k, k ≠ p.val → d.port k = s.dev.port k) ∧
              (q.st = .up → (d.port p.val).st = .up ∧ (d.port p.val).session = q.session) ∧
              (q.st = .calibrating → (∀ o, s.dev.pairOf p.val ≠ some (o, true)) → (d.port p.val).st = .authenticating ∧ (d.port p.val).stage = 1 ∧ (d.port p.val).session = none) ∧
              (q.st = .calibrating → ∀ o, s.dev.pairOf p.val = some (o, true) → s.dev.pairOf o = some (p.val, false) → o ≠ p.val →
                ((s.dev.port o).st = .up → (d.port p.val).st = .up ∧ (d.port p.val).authOk = (s.dev.port o).authOk) ∧
                ((s.dev.port o).st ≠ .up → (d.port p.val).st = .calibrating))))))) ∧
    (q.calOut = none ∨ s.dev.raw < q.calAt + 1000000 → Gives (.calEchoTimeout p) s s.dev) ∧
    (q.calOut ≠ none → q.calAt + 1000000 ≤ s.dev.raw →
      (q.st ≠ .calibrating → Gives (.calEchoTimeout p) s (s.dev.modPort p.val (fun q => { q with calOn := false, calOut := none, calGot := [] }))) ∧
      (q.st = .calibrating →
        Completes (.calEchoTimeout p) s (fun d => ((d.port p.val).st = .priming ∨ (d.port p.val).st = .disabled) ∧ (d.port p.val).calOut = none ∧ (d.port p.val).calOn = false ∧
          has d.flt.status (fkey (157 + p.val / 24) p.val) = true))) ∧
    (∀ n, n = s.dev.get F.HLK_CAL_PERIOD_MS p.val →
      (n = 0 ∨ s.dev.raw < q.calAt + n * 1000000 ∨ q.calOn = true ∨ q.st ≠ .up → Gives (.calPeriod p) s s.dev) ∧
      (n ≠ 0 → q.calAt + n * 1000000 ≤ s.dev.raw → q.calOn = false → q.st = .up →
        Gives (.calPeriod p) s (s.dev.modPort p.val (fun q => { q with calOn := true, calGot := [], calOut := none })))) ∧
    (∀ (rq : Requester) (w : Word), s.Ready rq 0 →
      Completes (.calStart rq p w) s (fun d => d.get F.HLK_CAL_SAMPLES p.val = max 4 (w.toNat % 256) ∧ d.get F.HLK_CAL_PERIOD_MS p.val = w.toNat / 65536 ∧
        d.ports = (if w.toNat.testBit 15 = true ∧ q.st = .up then (s.dev.modPort p.val (fun q => { q with calOn := true, calGot := [], calOut := none })).ports else s.dev.ports)))

/-- R259, R262 and R263: REAUTH of a failed or UP port that is no odd half starts its authentication with a new challenge and no session; on another port it changes nothing. A reply that proves the head is answered with PROVE, and the reply to that gives the session
key with both counters 0; a wrong one, an error or no answer within 2 ms fails the authentication, which REQUIRE_AUTH turns into AUTH_FAILED and which is reported. The write of HLK_KEY7 makes the eight words K_M. R251, R261 and R264: a host's command on a port
that is neither UP nor idle ends with LINK_DOWN, on an odd half with BAD_ADDR; on another it waits its turn, and with nothing before it on the lane it is sent; without an answer within 1 ms it ends with TIMEOUT; a reply that carries
an error ends it with that code, and one whose MAC is right ends it with OK and, for READ, its words; with a wrong MAC or counter it ends with AUTH, and an exchange begins; the usage words are read again after 60 s. Where it rests on a choice of the model:
log entries 82, 83 and 84. Where it rests on a choice of the model: log entries 82, 83 and 84. -/
def Obligations.HeadsAreProvedAndReached : Prop :=
  (
  (∀ (rq : Requester) (p : Port) (s : State), s.Ready rq 2 → p.val < s.dev.ports.length →
    (s.dev.oddPort p.val = false → (s.dev.port p.val).st = .authFailed ∨ (s.dev.port p.val).st = .up →
      CompletesAudited (.hlkReauth rq p) s rq (0x1000068 + 0x1000 * p.val) (fun d =>
        (d.port p.val).st = (if (s.dev.port p.val).st = .up then .up else .authenticating) ∧ (d.port p.val).stage = 1 ∧
        (d.port p.val).session = none ∧ (d.port p.val).chal = (List.range 32).map (fun k => (Config.randomByte (s.dev.free + k)).toNat) ∧
        (d.port p.val).master = s.dev.mram.keyM.getD (List.replicate 32 0) ∧ ∀ k, k ≠ p.val → d.port k = s.dev.port k)) ∧
    (s.dev.oddPort p.val = true ∨ ((s.dev.port p.val).st ≠ .authFailed ∧ (s.dev.port p.val).st ≠ .up) →
      GivesAudited (.hlkReauth rq p) s rq (0x1000068 + 0x1000 * p.val) (s.dev.touch rq))) ∧
  (∀ (p : Port) (s : State) (q : HlkPort), q = s.dev.port p.val → p.val < s.dev.ports.length → ∀ failed : Dev → Prop,
    (failed = fun d => (d.port p.val).session = none ∧ (d.port p.val).stage = 0 ∧ (d.port p.val).authOk = false ∧ has d.flt.status (fkey 165 p.val) = true ∧
      (d.get F.HLK_IRQ_STAT p.val).testBit 2 = true ∧
      (s.dev.get F.HLK_CTRL_REQUIRE_AUTH p.val ≠ 0 → (d.port p.val).st = .authFailed ∨ (d.port p.val).st = .disabled) ∧
      (s.dev.get F.HLK_CTRL_REQUIRE_AUTH p.val = 0 → (d.port p.val).st = .up ∨ (d.port p.val).st = .disabled)) →
    (q.stage = 0 ∨ s.dev.raw < q.authAt + 2000000 → Gives (.authTimeout p) s s.dev) ∧
    (q.stage ≠ 0 → q.authAt + 2000000 ≤ s.dev.raw → Completes (.authTimeout p) s failed) ∧
    (∀ (words : List Word) (ws : List Nat), q.linked = true → q.bcLock = true → ws = words.map (fun x => x.toNat) → bits (ws.headD 0) 16 8 = (q.txn + 255) % 256 →
      (q.stage = 1 → bits (ws.headD 0) 28 4 = 4 → ∀ right : Prop,
        (right ↔ bits (ws.headD 0) 24 4 = 0 ∧ s.dev.noMasterKey p.val = false ∧ ws.length = 14 ∧
          hlkBytes ((ws.drop 6).take 8) = hmacSha256 (s.dev.headKey p.val) ([0x48, 0x45, 0x41, 0x44] ++ q.chal ++ hlkBytes ((ws.drop 2).take 4) ++
            hlkBytes [s.dev.get F.HLK_ID p.val 0, s.dev.get F.HLK_ID p.val 1] ++ [p.val])) →
        (right → Completes (.memResp p words) s (fun d => (d.port p.val).stage = 2 ∧ (d.port p.val).nonce = hlkBytes ((ws.drop 2).take 4) ∧ (d.port p.val).authAt = s.dev.raw ∧
          (d.port p.val).st = q.st)) ∧
        (¬ right → Completes (.memResp p words) s failed)) ∧
      (q.stage = 2 → bits (ws.headD 0) 28 4 = 5 →
        (bits (ws.headD 0) 24 4 = 0 → Completes (.memResp p words) s (fun d => (d.port p.val).st = .up ∧ (d.port p.val).stage = 0 ∧ (d.port p.val).authOk = true ∧
          (d.port p.val).session = some ((hmacSha256 (s.dev.headKey p.val) ([0x53, 0x45, 0x53, 0x53] ++ q.chal ++ q.nonce)).take 16) ∧ (d.port p.val).ctrRx = 0)) ∧
        (bits (ws.headD 0) 24 4 ≠ 0 → Completes (.memResp p words) s failed)))) ∧
  (∀ (rq : Requester) (w : Word) (s : State), s.Ready rq 3 →
    CompletesAudited (.headKeyCommit rq w) s rq 0x10000FC (fun d =>
      d.mram.keyM = some ((((List.range 7).map (fun k => s.dev.get F.HLK_KEY 0 k)) ++ [w.toNat]).flatMap (bytesLE 4)) ∧ d.ports = s.dev.ports))
  ) ∧ (
  (∀ (rq : Requester) (p : Port) (s : State), p.val < s.dev.ports.length →
    (s.Ready rq 0 → Gives (.hlkMemRead rq p) s (s.dev.memHost 1 p.val) ∧ Gives (.hlkMemCommit rq p) s (s.dev.memHost 3 p.val)) ∧
    (s.Ready rq 2 → GivesAudited (.hlkMemWrite rq p) s rq (0x10000A4 + 0x1000 * p.val) ((s.dev.touch rq).memHost 2 p.val))) ∧
  (∀ (d e : Dev) (p op : Nat) (q : HlkPort) (m : MemCmd), p < d.ports.length → q = d.port p → e = d.memHost op p →
    m = { op := op, count := d.get F.HLK_MEM_ADDR_COUNT p, addr := d.get F.HLK_MEM_ADDR_ADDR p, data := (List.range 8).map (fun k => d.get F.HLK_MEM_DATA p k), auto := false } →
    (q.st ≠ .up → q.st ≠ .idle → e.get F.HLK_MEM_CMD_DONE p = 1 ∧ e.get F.HLK_MEM_CMD_STATUS p = 6 ∧ (e.get F.HLK_IRQ_STAT p).testBit 4 = true ∧ e.ports = d.ports) ∧
    (q.st = .up ∨ q.st = .idle →
      (d.oddPort p = true → e.get F.HLK_MEM_CMD_DONE p = 1 ∧ e.get F.HLK_MEM_CMD_STATUS p = 1 ∧ (e.get F.HLK_IRQ_STAT p).testBit 4 = true ∧ e.ports = d.ports) ∧
      (d.oddPort p = false → e.get F.HLK_MEM_CMD_DONE p = 0 ∧ e.get F.HLK_MEM_CMD_STATUS p = 0 ∧
        (q.st = .idle ∨ q.memNow ≠ none ∨ q.stage ≠ 0 ∨ (∃ r ∈ q.recs, r.sent = 0 ∨ r.again = true) → (e.port p).memQ = q.memQ ++ [m] ∧ (e.port p).memNow = q.memNow) ∧
        (q.st = .up → q.tx.mode = .on → q.memNow = none → q.memQ = [] → q.stage = 0 → (∀ r ∈ q.recs, r.sent ≠ 0 ∧ r.again = false) → q.ctrTx < 0xFFFF0000 →
          (d.laneTick p).underWay p = false → ((d.laneTick p).port p).tx.waits = [] →
          (e.port p).memQ = [] ∧ (e.port p).memNow = some { m with txn := q.txn, sentAt := d.raw })))) ∧
  (∀ (p : Port) (s : State) (q : HlkPort), q = s.dev.port p.val → p.val < s.dev.ports.length →
    (q.memNow = none → Gives (.memTimeout p) s s.dev) ∧
    (∀ m : MemCmd, q.memNow = some m →
      (s.dev.raw < m.sentAt + 1000000 → Gives (.memTimeout p) s s.dev) ∧
      (m.sentAt + 1000000 ≤ s.dev.raw → ∀ e : Dev, e = s.dev.modPort p.val (fun q => { q with memNow := none }) →
        (m.auto = true → Gives (.memTimeout p) s (e.memKick p.val)) ∧ (m.auto = false → Gives (.memTimeout p) s ((e.memDone p.val 5).memKick p.val) ∧
          Completes (.memTimeout p) s (fun d => d.get F.HLK_MEM_CMD_DONE p.val = 1 ∧ d.get F.HLK_MEM_CMD_STATUS p.val = 5 ∧ (d.get F.HLK_IRQ_STAT p.val).testBit 4 = true)))) ∧
    (∀ (words : List Word) (w : Nat) (h : Dev), w = (words.map (fun x => x.toNat)).headD 0 → h = s.dev.modPort p.val (fun q => { q with lastBack := s.dev.raw }) →
      (q.st ≠ .disabled → q.linked = false ∨ q.bcLock = false → Gives (.memResp p words) s s.dev) ∧
      (q.st = .disabled → (∀ c, q.closing = some c → bits w 28 4 ≠ 1 ∨ bits w 16 8 ≠ c.txn) → Gives (.memResp p words) s s.dev) ∧
      (∀ c, q.st = .disabled → q.closing = some c → bits w 28 4 = 1 → bits w 16 8 = c.txn → Gives (.memResp p words) s (s.dev.closingReply p.val c (words.map (fun x => x.toNat)))) ∧
      (q.linked = true → q.bcLock = true → q.stage = 0 ∨ bits w 16 8 ≠ (q.txn + 255) % 256 ∨ (bits w 28 4 ≠ 4 ∧ bits w 28 4 ≠ 5) →
        (q.memNow = none → Gives (.memResp p words) s h) ∧
        (∀ m, q.memNow = some m →
          (bits w 28 4 ≠ m.op ∨ bits w 16 8 ≠ m.txn → Gives (.memResp p words) s h) ∧
          (bits w 28 4 = m.op → bits w 16 8 = m.txn → Gives (.memResp p words) s (h.memReply p.val m (words.map (fun x => x.toNat)))))))) ∧
  (∀ (d e : Dev) (p : Nat) (q : HlkPort) (m : MemCmd) (ws : List Nat) (c : Nat), p < d.ports.length → q = d.port p → m.auto = false → e = d.memReply p m ws → c = bits (ws.headD 0) 24 4 →
    ∀ right : Prop, (right ↔ ∃ k, q.session = some k ∧ q.ctrRx < ws.getD 1 0 ∧ 4 ≤ ws.length ∧ ws.drop (ws.length - 2) = macWords k 1 (ws.getD 1 0) (ws.take (ws.length - 2))) →
    e.get F.HLK_MEM_CMD_DONE p = 1 ∧ (e.get F.HLK_IRQ_STAT p).testBit 4 = true ∧
    (c ≠ 0 → e.get F.HLK_MEM_CMD_STATUS p = (if c = 5 then 7 else c % 8)) ∧
    (c = 0 → right → e.get F.HLK_MEM_CMD_STATUS p = 0 ∧
      (m.op = 1 → ∀ k < Nat.min 8 m.count, e.get F.HLK_MEM_DATA p k = ((ws.take (ws.length - 2)).drop 2).getD k 0 % 4294967296)) ∧
    (c = 0 → ¬ right → e.get F.HLK_MEM_CMD_STATUS p = 3 ∧ (e.port p).stage = 1 ∧ (e.port p).session = none)) ∧
  (∀ (p : Port) (s : State) (q : HlkPort), q = s.dev.port p.val → p.val < s.dev.ports.length →
    (s.dev.raw < q.useAt + 60000000000 ∨ s.dev.oddPort p.val = true ∨ (q.st ≠ .up ∧ q.st ≠ .idle) ∨ q.session = none → Gives (.usageRead p) s s.dev) ∧
    (q.useAt + 60000000000 ≤ s.dev.raw → s.dev.oddPort p.val = false → q.st = .up ∨ q.st = .idle → q.session ≠ none →
      Gives (.usageRead p) s ((s.dev.modPort p.val (fun q => { q with useAt := s.dev.raw })).memAuto p.val 1 4 0x10) ∧
      (q.st = .up → q.tx.mode = .on → q.memNow = none → q.stage = 0 → (∀ r ∈ q.recs, r.sent ≠ 0 ∧ r.again = false) → q.ctrTx < 0xFFFF0000 → (∀ m ∈ q.memQ, m.auto = false) →
        (s.dev.laneTick p.val).underWay p.val = false → ((s.dev.laneTick p.val).port p.val).tx.waits = [] →
        Completes (.usageRead p) s (fun d => (d.port p.val).useAt = s.dev.raw ∧ (d.port p.val).memQ = q.memQ ∧ (d.port p.val).memNow =
          some { op := 1, count := 4, addr := 0x10, data := [], auto := true, txn := q.txn, sentAt := s.dev.raw }))))
  )

/-- R246, R253 and R255: at a frame boundary of a port that receives records, a record to be sent again goes before a new one; a new one is sent when fewer than 8 await their confirmation; a record that may not be sent again is abandoned with those after it. A port that does not
receive records sends none. CONFIRM with ACK acknowledges the records up to its SEQ, with NAK it counts a CRC error and the unacknowledged ones are to be sent again; an executed FIRE record is taken off and counted in HLK_CONF, an inhibited one with all before it, another is
reported as HEAD_LATE; records whose acknowledgement is late are to be sent again. R219, R248 and R258: a temperature is copied to the port's slot, and the first valid one since UP sets the gain; one that stays away for 100 ms is reported; an alert is stored, counted and
reported. An UP port without work enters idle, and a lane in idle primes when it has work again. Where it rests on a choice of the model: log entries 72 and 84. -/
def Obligations.HeadRecordsGoBothWays : Prop :=
  (
  (∀ (p : Port) (s : State) (q : HlkPort) (c : Instr) (tickle : Bool) (e : Dev), q = s.dev.port p.val → p.val < s.dev.ports.length → c = (if tickle then .tickle p else .fire p) →
    e = s.dev.laneTick p.val →
    (s.dev.receives p.val = false ∨ q.tx.mode ≠ .on ∨ e.underWay p.val = true → Gives c s e) ∧
    (s.dev.receives p.val = true → q.tx.mode = .on → e.underWay p.val = false →
      (∀ r, q.recs.find? (fun x => x.again) = some r →
        (r.tickle ≠ tickle → Gives c s e) ∧
        (r.tickle = tickle → s.dev.resendable p.val r = false → Gives c s (e.abandon p.val (q.recs.dropWhile (fun x => x ≠ r)))) ∧
        (r.tickle = tickle → s.dev.resendable p.val r = true →
          Gives c s (((e.bump F.HLK_ERR_RETRANS p.val).laneStart p.val (if tickle then 2 else 1) r.words).modPort p.val (fun q =>
            { q with recs := q.recs.map (fun x => if x = r then { r with sent := r.sent + 1, sentAt := s.dev.raw, again := false } else x) })))) ∧
      ((∀ x ∈ q.recs, x.again = false) →
        ((∀ x ∈ q.recs, x.sent ≠ 0) → Gives c s e) ∧
        (∀ r, q.recs.find? (fun x => x.sent = 0) = some r →
          (r.tickle ≠ tickle ∨ 8 ≤ (q.recs.filter (fun x => 0 < x.sent)).length → Gives c s e) ∧
          (r.tickle = tickle → (q.recs.filter (fun x => 0 < x.sent)).length < 8 →
            Gives c s ((e.laneStart p.val (if tickle then 2 else 1) r.words).modPort p.val (fun q =>
              { q with recs := q.recs.map (fun x => if x = r then { r with sent := 1, sentAt := s.dev.raw } else x) })) ∧
            Completes c s (fun d => Output.lane p.val (if tickle then 2 else 1) r.words ∈ d.outbox)))))) ∧
  (∀ (p : Port) (s : State) (q : HlkPort) (w : Word), q = s.dev.port p.val → p.val < s.dev.ports.length →
    (q.bcLock = false ∨ q.linked = false → Gives (.confirm p w) s s.dev) ∧
    (q.bcLock = true → q.linked = true → ∀ a b c e : Dev, a = s.dev.modPort p.val (fun q => { q with lastBack := s.dev.raw }) →
      b = (if w.toNat.testBit 23 ∨ w.toNat.testBit 22 then a.ackUpTo p.val (w.toNat / 16777216) else a) →
      c = (if w.toNat.testBit 22 then ((b.bump F.HLK_ERR_CRC p.val).modPort p.val (fun q => { q with errs := q.errs + 1 })).sendAgain p.val else b) →
      e = (if w.toNat.testBit 7 then c.fired p.val (w.toNat / 256 % 256) (w.toNat % 8) else c) → Gives (.confirm p w) s (e.memKick p.val))) ∧
  (∀ (d : Dev) (p seq : Nat) (rs : List Rec), p < d.ports.length → rs = (d.port p).recs →
    (∀ k, rs.findIdx? (fun r => r.seq = seq && 0 < r.sent) = some k →
      ((d.ackUpTo p seq).port p).recs = rs.zipIdx.map (fun e => if e.2 ≤ k then { e.1 with acked := true, again := false } else e.1) ∧
      ((d.fired p seq 2).port p).recs = rs.drop (k + 1) ∧
      (∀ r, rs[k]? = some r → r.tickle = false → ((d.fired p seq 0).port p).recs = rs.eraseIdx k ∧
        (d.fired p seq 0).get F.HLK_CONF p = (d.get F.HLK_CONF p + 1) % 281474976710656) ∧
      (∀ r code, rs[k]? = some r → r.tickle = false → code ≠ 0 → code ≠ 2 → has (d.fired p seq code).flt.status (fkey (175 + p / 24) p) = true)) ∧
    (rs.findIdx? (fun r => r.seq = seq && 0 < r.sent) = none → d.ackUpTo p seq = d ∧ ∀ code, d.fired p seq code = d) ∧
    ((∀ r ∈ rs, 0 < r.sent → r.acked = false → d.resendable p r = true) →
      d.sendAgain p = d.modPort p (fun q => { q with recs := q.recs.map (fun r => if 0 < r.sent && !r.acked then { r with again := true } else r) }))) ∧
  (∀ (p : Port) (s : State) (late : Rec → Prop), late = (fun r => 0 < r.sent ∧ r.acked = false ∧ r.again = false ∧
      r.sentAt + s.dev.wordsNs p.val (r.words.length + 2) + s.dev.get F.HLK_RETRY_ACK_TMO_NS p.val ≤ s.dev.raw) →
    ((∀ r ∈ (s.dev.port p.val).recs, ¬late r) → Gives (.ackTimeout p) s s.dev) ∧
    ((∃ r ∈ (s.dev.port p.val).recs, late r) → Gives (.ackTimeout p) s (s.dev.sendAgain p.val)))
  ) ∧ (
  ∀ (p : Port) (s : State) (q : HlkPort), q = s.dev.port p.val → p.val < s.dev.ports.length →
    (q.bcLock = false ∨ q.linked = false → (∀ w : Word, Gives (.status p w) s s.dev) ∧ ∀ c : Byte, Gives (.alert p c) s s.dev) ∧
    (q.bcLock = true → q.linked = true → ∀ h : Dev, h = s.dev.modPort p.val (fun q => { q with lastBack := s.dev.raw }) →
      (s.dev.portHome p.val = none → ∀ w : Word, Gives (.status p w) s h) ∧
      (∀ (w : Word) (b sl : Nat), s.dev.portHome p.val = some (b, sl) →
        (w.toNat.testBit 15 = false → Gives (.status p w) s (h.set F.FIRE_B_S_TEMP (w.toNat / 65536) b sl)) ∧
        (w.toNat.testBit 15 = true → ∀ e : Dev, e = (h.set F.FIRE_B_S_TEMP (w.toNat / 65536) b sl).modPort p.val (fun q => { q with tempAt := some s.dev.raw, staleRep := false }) →
          (q.st ≠ .up ∨ q.gainSet = true → Gives (.status p w) s e) ∧
          (q.st = .up → q.gainSet = false → Gives (.status p w) s ((e.set F.FIRE_B_S_GAIN (e.ampTarget b sl) b sl).modPort p.val (fun q => { q with gainSet := true })) ∧
            8192 ≤ e.ampTarget b sl ∧ e.ampTarget b sl ≤ 24576))) ∧
      (∀ c : Byte, Completes (.alert p c) s (fun d => d.get F.HLK_ALERT_CODE p.val = c.toNat ∧
        d.get F.HLK_ALERT_COUNT p.val = Nat.min 255 (s.dev.get F.HLK_ALERT_COUNT p.val + 1) ∧ Dev.Reported s.dev d 183 p.val))) ∧
    (s.dev.portHome p.val = none → Gives (.headTempStale p) s s.dev) ∧
    (∀ b sl t, s.dev.portHome p.val = some (b, sl) → t = Nat.max q.since (q.tempAt.getD 0) + 100000000 →
      (q.st ≠ .up ∨ q.staleRep = true ∨ s.dev.raw < t → Gives (.headTempStale p) s s.dev) ∧
      (q.st = .up → q.staleRep = false → t ≤ s.dev.raw → Gives (.headTempStale p) s ((s.dev.modPort p.val (fun q => { q with staleRep := true })).report (137 + b)) ∧
        Completes (.headTempStale p) s (Dev.Reported s.dev · (137 + b)))) ∧
    (∀ work : Prop, (work ↔ q.recs ≠ [] ∨ q.memQ ≠ [] ∨ q.memNow ≠ none ∨ q.calOn = true ∨ q.stage ≠ 0 ∨ q.tx.waits ≠ [] ∨
        s.dev.barHas p.val (fun s => s = .armed || s = .running) = true ∨ s.dev.tickleSoon p.val 50000 = true) →
      (q.st ≠ .up ∨ s.dev.get F.HLK_CTRL_IDLE_EN p.val = 0 ∨ work → Gives (.laneIdleEnter p) s s.dev) ∧
      (q.st = .up → s.dev.get F.HLK_CTRL_IDLE_EN p.val ≠ 0 → ¬ work →
        Completes (.laneIdleEnter p) s (fun d => (d.port p.val).st = .idle ∧ (d.port p.val).retryAt = none ∧ (d.port p.val).session = q.session ∧ (d.port p.val).tx = {} ∧
          Output.laneIdle p.val ∈ d.outbox ∧ (q.tx.mode = .on → Output.lane p.val 7 [2] ∈ d.outbox)))) ∧
    (∀ work : Prop, (work ↔ s.dev.barHas p.val (fun s => s = .armed || s = .running) = true ∨ s.dev.tickleSoon p.val 5000 = true ∨ q.memQ ≠ [] ∨ q.tx.waits ≠ [] ∨ q.calOn = true) →
      (q.st = .disabled ∨ q.tx.mode ≠ .off ∨ ¬ work → Gives (.laneIdleExit p) s s.dev) ∧
      (q.st ≠ .disabled → q.tx.mode = .off → work → Completes (.laneIdleExit p) s (fun d => (d.port p.val).st = q.st ∧ (d.port p.val).tx.mode = .priming ∧ (d.port p.val).session = q.session ∧
        Output.priming p.val ∈ d.outbox)))
  )

/-! ### DRAM and stored data (files 09 and 10) -/

/-- R268, R272, R273, R288, R291 and R299: ENABLE from 0 to 1 takes each channel of the map with a supported SPD to TRAINING, one that no hub answers to ABSENT and one with another SPD to UNUSED; one of those makes the map NO_MAP, reported; the last channel
trained makes it READY; a channel that fails is FENCED; DRAM_DONE follows the fill; ENABLE 0 is ignored while a context is not FREE, and turns every channel OFF otherwise. A rate change is BUSY while a
context is ARMED or RUNNING, else every channel in use trains at the new rate, and one that fails is fenced; GO is ignored during a change. FENCE_CH fences a channel that is in use. Where it rests on a choice of the model: log entries 86, 87 and 135. -/
def Obligations.DdrChannelsTrain : Prop :=
  (∀ (rq : Requester) (hubs : List (Option (List Byte))) (s : State), s.Ready rq 0 →
    (s.dev.get F.DDR_CTRL_ENABLE ≠ 0 → Gives (.ddrEnable rq hubs) s s.dev) ∧
    (s.dev.get F.DDR_CTRL_ENABLE = 0 → Gives (.ddrEnable rq hubs) s (s.dev.ddrStart (hubs.map (fun h => h.map (fun b => b.map (fun x => x.toNat)))))) ∧
    ((∃ e ∈ s.dev.jobs, e.2.st ≠ .free) ∨ s.dev.get F.DDR_CTRL_ENABLE = 0 → Gives (.ddrDisable rq) s s.dev) ∧
    ((∀ e ∈ s.dev.jobs, e.2.st = .free) → s.dev.get F.DDR_CTRL_ENABLE ≠ 0 → Gives (.ddrDisable rq) s s.dev.ddrStop)) ∧
  (∀ (d e : Dev) (hubs : List (Option (List Nat))) (used : Nat → Prop) (spd : Nat → Option (List Nat)), e = d.ddrStart hubs → (∀ c, used c ↔ (d.get F.DDR_MAP_CH_MASK).testBit c = true) →
    (∀ c, spd c = if d.get F.DDR_C_CFG_SOLDERED c ≠ 0 then some (d.spdBlock c) else hubs.getD c none) →
    ∀ (gone unfit : Nat → Prop), (∀ c, gone c ↔ spd c = none) → (∀ c, unfit c ↔ ∃ b, spd c = some b ∧ parseSpd b (decide (d.get F.DDR_C_CFG_SOLDERED c = 0)) = none) →
    e.get F.DDR_CTRL_ENABLE = 1 ∧ e.get F.ECC_STAT_DRAM_DONE = 0 ∧
    (∀ c < 4, (¬ used c → e.get F.DDR_C_STAT_STATE c = 2) ∧ (used c → gone c → e.get F.DDR_C_STAT_STATE c = 1) ∧
      (used c → unfit c → e.get F.DDR_C_STAT_STATE c = 2 ∧ has e.flt.status (fkey (186 + c) 0) = true) ∧ (used c → ¬ gone c → ¬ unfit c → e.get F.DDR_C_STAT_STATE c = 3)) ∧
    ((∃ c < 4, used c ∧ (gone c ∨ unfit c)) → e.get F.DDR_STAT_STATE = 4 ∧ e.get F.DDR_STAT_CAP_MIB = 0 ∧ has e.flt.status (fkey 190 0) = true) ∧
    ((∃ c < 4, used c) → (∀ c < 4, used c → ¬ gone c ∧ ¬ unfit c) → e.get F.DDR_STAT_STATE = 1)) ∧
  (∀ d e : Dev, e = d.ddrStop → e.get F.DDR_CTRL_ENABLE = 0 ∧ e.get F.DDR_STAT_STATE = 0 ∧ e.get F.DDR_STAT_CAP_MIB = 0 ∧ e.get F.ECC_STAT_DRAM_DONE = 0 ∧
    ∀ c < 4, e.get F.DDR_C_STAT_STATE c = 0) ∧
  (∀ (c : Chan) (s : State),
    (s.dev.get F.DDR_C_STAT_STATE c.val ≠ 3 → ∀ pass, Gives (.channelTrainDone c pass) s s.dev) ∧
    (s.dev.get F.DDR_C_STAT_STATE c.val = 3 →
      Gives (.channelTrainDone c true) s ((s.dev.set F.DDR_C_STAT_STATE 4 c.val).fullTrained c.val).settleMap.followPhase ∧
      Gives (.channelTrainDone c false) s ((s.dev.report (191 + c.val)).failChannel c.val).settleMap.followPhase ∧
      (s.dev.get F.DDR_STAT_STATE = 1 → (∀ k ∈ s.dev.mapChans, k ≠ c.val → s.dev.get F.DDR_C_STAT_STATE k = 4) →
        Completes (.channelTrainDone c true) s (fun d => d.get F.DDR_STAT_STATE = 2 ∧ d.dram = [] ∧ d.check = [])) ∧
      Completes (.channelTrainDone c false) s (fun d => d.get F.DDR_C_STAT_STATE c.val = 6 ∧ has d.flt.status (fkey (191 + c.val) 0) = true))) ∧
  (∀ s : State,
    (s.dev.get F.DDR_STAT_STATE = 2 → s.dev.get F.ECC_STAT_DRAM_DONE = 0 →
      Completes .dramFillDone s (fun d => d.get F.ECC_STAT_DRAM_DONE = 1 ∧ d.get F.ECC_STAT_FILLING = 0 ∧ (d.get F.ECC_IRQ_STAT).testBit 0 = true ∧
        d.fixed = s.dev.fixed ∧ (s.dev.get F.SYS_STAT_PHASE = 5 → s.dev.get F.DDR_CTRL_ENABLE ≠ 0 → d.get F.SYS_STAT_PHASE = 6))) ∧
    (s.dev.get F.DDR_STAT_STATE ≠ 2 ∨ s.dev.get F.ECC_STAT_DRAM_DONE ≠ 0 → Gives .dramFillDone s s.dev)) ∧
  (∀ (rq : Requester) (c : Chan) (s : State), s.Ready rq 2 →
    GivesAudited (.fenceCh rq c) s rq (0x71058 + 0x1000 * c.val) ((s.dev.touch rq).failChannel c.val) ∧
    CompletesAudited (.fenceCh rq c) s rq (0x71058 + 0x1000 * c.val) (fun d => d.get F.DDR_C_STAT_STATE c.val =
      (if 3 ≤ s.dev.get F.DDR_C_STAT_STATE c.val ∧ s.dev.get F.DDR_C_STAT_STATE c.val ≤ 5 then 6 else s.dev.get F.DDR_C_STAT_STATE c.val))) ∧
  (∀ (rq : Requester) (w : Word) (s : State) (e : Dev), s.Ready rq 2 → e = (s.dev.storeWord rq 0x70044 w.toNat).touch rq →
    e.get F.DDR_RATE_RATE = min 4 (w.toNat % 8) ∧
    (w.toNat.testBit 31 = false ∨ s.dev.ddr.rateBusy = true → GivesAudited (.ddrRateGo rq w) s rq 0x70044 e) ∧
    (w.toNat.testBit 31 = true → s.dev.ddr.rateBusy = false →
      (s.dev.anyArmed = true → GivesAudited (.ddrRateGo rq w) s rq 0x70044 (((e.set F.DDR_RATE_DONE 0).set F.DDR_RATE_CODE 1).set F.DDR_RATE_DONE 1)) ∧
      (s.dev.anyArmed = false → CompletesAudited (.ddrRateGo rq w) s rq 0x70044 (fun d => d.ddr.rateBusy = true ∧ d.get F.DDR_RATE_DONE = 0 ∧ d.ddr.queue = [] ∧
        d.ddr.rate = min 4 (w.toNat % 8) ∧ d.ecc.scrub = none ∧ d.get F.DDR_STAT_STATE = (if s.dev.get F.DDR_STAT_STATE = 2 then 3 else s.dev.get F.DDR_STAT_STATE))))) ∧
  (∀ (s : State) (pass : BitVec 4) (used : Nat → Prop), (∀ c, used c ↔ s.dev.get F.DDR_C_STAT_STATE c = 4 ∨ s.dev.get F.DDR_C_STAT_STATE c = 5) →
    (s.dev.ddr.rateBusy = false → Gives (.ddrRateDone pass) s s.dev) ∧
    (s.dev.ddr.rateBusy = true →
      Completes (.ddrRateDone pass) s (fun d => d.ddr.rateBusy = false ∧ d.get F.DDR_RATE_DONE = 1 ∧ d.get F.DDR_STAT_STATE = (if s.dev.get F.DDR_STAT_STATE = 3 then 2 else s.dev.get F.DDR_STAT_STATE) ∧
        ((∀ c < 4, used c → pass.toNat.testBit c = true) → d.get F.DDR_RATE_CODE = 0) ∧ ((∃ c < 4, used c ∧ pass.toNat.testBit c = false) → d.get F.DDR_RATE_CODE = 2) ∧
        ∀ c < 4, (used c → pass.toNat.testBit c = true → d.get F.DDR_C_STAT_STATE c = 4) ∧
          (used c → pass.toNat.testBit c = false → d.get F.DDR_C_STAT_STATE c = 6 ∧ has d.flt.status (fkey (191 + c) 0) = true) ∧
          (¬ used c → d.get F.DDR_C_STAT_STATE c = s.dev.get F.DDR_C_STAT_STATE c))))

/-- R275, R279 to R281, R285 to R287, R290, R293 and R445: outside sleep a refresh with no request waiting issues every owed one, and with requests waiting at most POSTPONE stay owed; a module at or above TEMP_2X refreshes twice as often, one below it by HYST
no longer, a failed reading counting as TEMP_2X and reported; retraining queues every READY channel for three steps, each of which pauses its channel in its turn; the third stores margins and drift, a margin below MARGIN_MIN is reported, and a drift out of range or a margin
of 0 fences the channel; each alert is reported, and the third within 1 ms fences; rows idle for 500 ns close; CLEAR empties a channel's counts. Where it rests on a choice of the model: log entry 60. -/
def Obligations.DdrChannelsAreKept : Prop :=
  ∀ (c : Chan) (s : State) (x : DdrCh) (st : Nat), x = s.dev.chan c.val → st = s.dev.get F.DDR_C_STAT_STATE c.val → c.val < s.dev.ddr.chans.length →
    (∀ (rank : Fin 2) (waiting : Bool),
      ((st ≠ 4 ∧ st ≠ 5) ∨ s.dev.get F.SYS_STAT_PHASE = 7 → Gives (.refreshDue c rank waiting) s s.dev) ∧
      (st = 4 ∨ st = 5 → s.dev.get F.SYS_STAT_PHASE ≠ 7 → rank.val < x.debt.length →
        Completes (.refreshDue c rank waiting) s (fun d => (d.chan c.val).debt = setAt x.debt rank.val (fun n => if waiting then Nat.min (n + 1) (s.dev.get F.DDR_REF_POSTPONE) else 0) ∧
          d.regs = s.dev.regs ∧ d.dram = s.dev.dram))) ∧
    (∀ (h t0 t1 : Option Byte) (m : Option Bool) (e : Dev), e = s.dev.modChan c.val (fun x => { x with sensedAt := s.dev.raw }) →
      (st < 3 ∨ 5 < st ∨ s.dev.raw < x.sensedAt + s.dev.get F.DDR_SB_PERIOD_MS * 1000000 → Gives (.dimmSensorRead c h t0 t1 m) s s.dev) ∧
      (3 ≤ st → st ≤ 5 → x.sensedAt + s.dev.get F.DDR_SB_PERIOD_MS * 1000000 ≤ s.dev.raw →
        (s.dev.get F.DDR_C_CFG_SOLDERED c.val ≠ 0 →
          (∀ b, m = some b → Gives (.dimmSensorRead c h t0 t1 m) s (e.refreshRate c.val b) ∧ ((e.refreshRate c.val b).get F.DDR_C_STAT_REF_2X c.val ≠ 0 ↔ b = true)) ∧
          (m = none → Gives (.dimmSensorRead c h t0 t1 m) s ((e.refreshRate c.val true).report (199 + c.val)))) ∧
        (s.dev.get F.DDR_C_CFG_SOLDERED c.val = 0 → ∀ (value : Option Byte → Int) (used : Int), (∀ b, value (some b) = signed 8 b.toNat) → value none = s.dev.get F.DDR_REF_TEMP_2X →
          used = max (max (max (-128) (value h)) (value t0)) (value t1) →
          Completes (.dimmSensorRead c h t0 t1 m) s (fun d => d.get F.DDR_C_TEMP_USED c.val = unsigned 8 used ∧
            d.get F.DDR_C_TEMP_HUB c.val = unsigned 8 (value h) ∧ d.get F.DDR_C_TEMP_TS0 c.val = unsigned 8 (value t0) ∧ d.get F.DDR_C_TEMP_TS1 c.val = unsigned 8 (value t1) ∧
            ((s.dev.get F.DDR_REF_TEMP_2X : Int) ≤ used → d.get F.DDR_C_STAT_REF_2X c.val ≠ 0) ∧
            (used < (s.dev.get F.DDR_REF_TEMP_2X : Int) - s.dev.get F.DDR_REF_HYST → d.get F.DDR_C_STAT_REF_2X c.val = 0) ∧
            (used < (s.dev.get F.DDR_REF_TEMP_2X : Int) → (s.dev.get F.DDR_REF_TEMP_2X : Int) - s.dev.get F.DDR_REF_HYST ≤ used →
              d.get F.DDR_C_STAT_REF_2X c.val = s.dev.get F.DDR_C_STAT_REF_2X c.val) ∧
            (h = none ∨ t0 = none ∨ t1 = none → has d.flt.status (fkey (199 + c.val) 0) = true) ∧
            ((s.dev.get F.DDR_REF_HOT_C : Int) ≤ used → has d.flt.status (fkey (203 + c.val) 0) = true))))) ∧
    (∀ (n : Nat) (e : Dev), n = s.dev.get F.DDR_TRAIN_PERIOD_MS → e = { s.dev with ddr := { s.dev.ddr with trainAt := s.dev.raw } } →
      (n = 0 ∨ s.dev.get F.SYS_STAT_PHASE = 7 ∨ s.dev.raw < s.dev.ddr.trainAt + n * 1000000 → Gives .retrainPeriod s s.dev) ∧
      (n ≠ 0 → s.dev.get F.SYS_STAT_PHASE ≠ 7 → s.dev.ddr.trainAt + n * 1000000 ≤ s.dev.raw → Gives .retrainPeriod s e.retrainAll)) ∧
    (∀ (rq : Requester) (w : Word) (e : Dev), s.Ready rq 0 → e = s.dev.storeWord rq 0x70050 w.toNat →
      Gives (.retrainStart rq w) s (if w.toNat.testBit 0 then e.retrainAll else e) ∧ e.ddr = s.dev.ddr ∧
      e.get F.DDR_TRAIN_PERIOD_MS = (if 1 ≤ w.toNat / 65536 ∧ w.toNat / 65536 ≤ 9 then 10 else min (w.toNat / 65536) 10000) ∧ e.get F.DDR_TRAIN_MARGIN_MIN = w.toNat / 256 % 256) ∧
    (∀ d : Dev, c.val < d.ddr.chans.length → ∀ e : Dev, e = d.retrainAll →
      (d.get F.DDR_C_STAT_STATE c.val = 4 → has d.ddr.queue c.val = false → has e.ddr.queue c.val = true ∧ (e.chan c.val).stepsLeft = 3) ∧
      (d.get F.DDR_C_STAT_STATE c.val ≠ 4 ∨ has d.ddr.queue c.val = true → (has e.ddr.queue c.val = has d.ddr.queue c.val) ∧ e.chan c.val = d.chan c.val) ∧ e.regs = d.regs) ∧
    (∀ turn : Prop, (turn ↔ (s.dev.ddr.atOnce = true ∧ has s.dev.ddr.queue c.val = true) ∨
        (s.dev.ddr.atOnce = false ∧ s.dev.ddr.queue.head? = some c.val ∧ s.dev.ddr.pauseEnd + 20000 ≤ s.dev.raw)) →
      (¬ turn ∨ st ≠ 4 ∨ x.stepsLeft = 0 ∨ s.dev.raw < x.busyUntil ∨ s.dev.ddr.rateBusy = true → Gives (.retrainStepBegin c) s s.dev) ∧
      (turn → st = 4 → 0 < x.stepsLeft → x.busyUntil ≤ s.dev.raw → s.dev.ddr.rateBusy = false →
        Gives (.retrainStepBegin c) s ((s.dev.set F.DDR_C_STAT_STATE 5 c.val).modChan c.val (fun x =>
          { x with step := some (3 - x.stepsLeft), stepsLeft := x.stepsLeft - 1 })))) ∧
    (∀ (rd wr drift : Byte) (r : Bool) (e : Dev),
      e = { (s.dev.set F.DDR_C_STAT_STATE 4 c.val).modChan c.val (fun x => { x with step := none, excess := 0, busyUntil := Nat.max x.busyUntil (s.dev.raw + x.excess) }) with
            ddr := { ((s.dev.set F.DDR_C_STAT_STATE 4 c.val).modChan c.val (fun x =>
              { x with step := none, excess := 0, busyUntil := Nat.max x.busyUntil (s.dev.raw + x.excess) })).ddr with pauseEnd := s.dev.raw } } →
      (st ≠ 5 ∨ x.step = none → Gives (.retrainStepEnd c rd wr drift r) s s.dev) ∧
      (st = 5 → ∀ n, x.step = some n → ∀ bad : Prop, (bad ↔ (n = 0 ∧ r = false) ∨ (n = 1 ∧ rd.toNat = 0) ∨ (n = 2 ∧ wr.toNat = 0)) →
        (s.dev.ddr.rateBusy = true ∨ (n ≠ 2 ∧ ¬ bad) → Gives (.retrainStepEnd c rd wr drift r) s e) ∧
        (s.dev.ddr.rateBusy = false → bad → Gives (.retrainStepEnd c rd wr drift r) s ((e.report (191 + c.val)).failChannel c.val) ∧
          Completes (.retrainStepEnd c rd wr drift r) s (fun d => d.get F.DDR_C_STAT_STATE c.val = 6 ∧ has d.flt.status (fkey (191 + c.val) 0) = true)) ∧
        (s.dev.ddr.rateBusy = false → n = 2 → ¬ bad →
          Completes (.retrainStepEnd c rd wr drift r) s (fun d => has d.ddr.queue c.val = false ∧ (d.chan c.val).step = none ∧
            d.get F.DDR_C_TRAIN_STAT_RD c.val = rd.toNat ∧ d.get F.DDR_C_TRAIN_STAT_WR c.val = wr.toNat ∧
            d.get F.DDR_C_TRAIN_STAT_DRIFT c.val = drift.toNat ∧ d.get F.DDR_C_CNT_RETRAINS c.val = Nat.min 32767 (s.dev.get F.DDR_C_CNT_RETRAINS c.val + 1) ∧
            (s.dev.get F.DDR_TRAIN_MARGIN_MIN ≤ rd.toNat → s.dev.get F.DDR_TRAIN_MARGIN_MIN ≤ wr.toNat → d.get F.DDR_C_STAT_STATE c.val = 4) ∧
            (rd.toNat < s.dev.get F.DDR_TRAIN_MARGIN_MIN ∨ wr.toNat < s.dev.get F.DDR_TRAIN_MARGIN_MIN → has d.flt.status (fkey (195 + c.val) 0) = true))))) ∧
    (st ≠ 4 → st ≠ 5 → Gives (.ddrAlertInput c) s s.dev) ∧
    (st = 4 ∨ st = 5 → Completes (.ddrAlertInput c) s (fun d => has d.flt.status (fkey (207 + c.val) 0) = true ∧
      d.get F.DDR_C_CNT2_ALERTS c.val = Nat.min 65535 (s.dev.get F.DDR_C_CNT2_ALERTS c.val + 1) ∧
      (2 ≤ (x.alerts.filter (fun t => s.dev.raw < t + 1000000)).length → d.get F.DDR_C_STAT_STATE c.val = 6))) ∧
    Completes .rowIdleClose s (fun d => (d.chan c.val).rows = (x.at s.dev.raw (s.dev.get F.DDR_SCHED_WR_HI) (s.dev.get F.DDR_SCHED_WR_LO)).rows.filter (fun r => s.dev.raw < r.last + 500) ∧
      (d.chan c.val).debt = x.debt ∧ d.regs = s.dev.regs ∧ d.dram = s.dev.dram) ∧
    (∀ rq : Requester, s.Ready rq 0 → Gives (.ddrCountClear rq c) s ((((s.dev.set F.DDR_C_CNT_RETRAINS 0 c.val).set F.DDR_C_CNT_CONVERTED 0 c.val).set
      F.DDR_C_CNT2_ALERTS 0 c.val).set F.DDR_C_CNT2_FENCED_RD 0 c.val))

/-- R276, R291, R294, R295, R300 and R313: a word that the cellar processor writes on a working channel is what DRAM then holds, every other byte as before, an armed flip of that channel taken with it; one written on a fenced channel or a dead row is discarded; before DRAM_DONE nothing happens. A read
returns the word by its class: clean as it stands, with one flipped bit as it was written and counted in CE, uncorrectable or poisoned as 0 and counted; on a fenced channel 0. R305, R309 and R311 to R315: a changed spare-row map is written to MRAM with one audit entry once it has room; a ledger
entry older than AGE_S is freed; a scrub starts with an empty summary, GO being ignored while one runs, and ends with VALID set, an aborted one also with ABORTED; a sound DRAM shows no error in it; ARM arms a flip for its target; CLEAR empties the counts. Where it rests on a choice of the model: log entries 87, 88 and 89. -/
def Obligations.StoredDataIsKept : Prop :=
  (
  ∀ (addr : BitVec 37) (s : State) (a ch : Nat), a = addr.toNat / 4 * 4 → ch = (s.dev.chanAddr a).1 →
    (s.dev.get F.ECC_STAT_DRAM_DONE = 0 ∨ s.dev.capBytes ≤ a → (∀ w, Gives (.dramWriteAccept addr w) s s.dev) ∧ ∀ m k, Gives (.dramReadComplete addr m k) s s.dev) ∧
    (s.dev.get F.ECC_STAT_DRAM_DONE ≠ 0 → a < s.dev.capBytes →
      (∀ w : Word, s.dev.onFenced a = true ∨ s.dev.onDead a = true → Completes (.dramWriteAccept addr w) s (fun d => d.dram = s.dev.dram ∧ d.check = s.dev.check ∧ d.regs = s.dev.regs)) ∧
      (∀ w : Word, s.dev.onFenced a = false → s.dev.onDead a = false → ∀ P : Dev → Prop,
        (P = fun d => (∀ b, b < a ∨ a + 4 ≤ b → cellAt d.dram b = cellAt s.dev.dram b) ∧ ∀ b, b ≠ a → cellAt d.check b = cellAt s.dev.check b) →
        (s.dev.get F.ECC_FLIP_CTRL_ARMED = 0 ∨ s.dev.get F.ECC_FLIP_CTRL_TARGET ≠ ch →
          Completes (.dramWriteAccept addr w) s (fun d => d.rawWord a = w.toNat ∧ d.synd a = 0 ∧ d.regs = s.dev.regs ∧ P d)) ∧
        (s.dev.get F.ECC_FLIP_CTRL_ARMED ≠ 0 → s.dev.get F.ECC_FLIP_CTRL_TARGET = ch → ∀ m, m = s.dev.get F.ECC_FLIP_DATA →
          Completes (.dramWriteAccept addr w) s (fun d => d.rawWord a = w.toNat ^^^ m ∧
            d.synd a = checkBits w.toNat ^^^ checkBits (w.toNat ^^^ m) ^^^ s.dev.get F.ECC_FLIP_CTRL_CHK ∧ d.get F.ECC_FLIP_CTRL_ARMED = 0 ∧ P d))) ∧
      (∀ (m : Word) (k : Byte) (w' : Nat) (q : ReadClass), w' = s.dev.rawWord a ^^^ m.toNat →
        q = (if s.dev.onFenced a ∨ s.dev.onDead a then .poisoned else classify (s.dev.synd a ^^^ checkBits (s.dev.rawWord a) ^^^ checkBits w' ^^^ k.toNat)) →
        Completes (.dramReadComplete addr m k) s (fun d => Output.dram a (q.data w') ∈ d.outbox ∧
          d.get F.ECC_C_CE ch = (match q with | .corrected _ => Nat.min 4294967295 (s.dev.get F.ECC_C_CE ch + 1) | _ => s.dev.get F.ECC_C_CE ch) ∧
          d.get F.ECC_C_UE_UE ch = (match q with | .uncorrectable => Nat.min F.ECC_C_UE_UE.max (s.dev.get F.ECC_C_UE_UE ch + 1) | _ => s.dev.get F.ECC_C_UE_UE ch) ∧
          d.get F.ECC_C_UE_POISON_RD ch = (match q with | .poisoned => Nat.min F.ECC_C_UE_POISON_RD.max (s.dev.get F.ECC_C_UE_POISON_RD ch + 1) | _ => s.dev.get F.ECC_C_UE_POISON_RD ch))) ∧
      (s.dev.onFenced a = false → s.dev.onDead a = false → s.dev.synd a = 0 →
        Completes (.dramReadComplete addr 0 0) s (fun d => d.outbox = s.dev.outbox ++ [.dram a (s.dev.rawWord a)] ∧ d.regs = s.dev.regs ∧
          (∀ b, cellAt d.dram b = cellAt s.dev.dram b) ∧ ∀ b, cellAt d.check b = cellAt s.dev.check b) ∧
        ∀ i < 32, Completes (.dramReadComplete addr (BitVec.ofNat 32 (2 ^ i)) 0) s (fun d => Output.dram a (s.dev.rawWord a) ∈ d.outbox)))
  ) ∧ (
  (∀ (c : Chan) (s : State) (x : DdrCh) (ok : Bool), x = s.dev.chan c.val →
    (x.mapped = x.retired.length ∨ 32 ≤ s.audit.queue.length ∨ s.dev.get F.NVM_STAT_SUSPENDED ≠ 0 → exec (.spareMapWrite c ok) s = .next s) ∧
    (x.mapped ≠ x.retired.length → s.audit.queue.length < 32 → s.dev.get F.NVM_STAT_SUSPENDED = 0 → c.val < s.dev.ddr.chans.length → c.val < s.dev.mram.spare.length →
      ∃ t e, exec (.spareMapWrite c ok) s = .next t ∧ t.audit = { s.audit with queue := s.audit.queue ++ [(none, e)] } ∧ e.agent = 6 ∧
        e.old = x.mapped ∧ e.new = x.retired.length ∧ (t.dev.chan c.val).mapped = x.retired.length ∧ t.pending = s.pending ∧
        t.dev.mram.spare[c.val]? = some { rows := x.retired, mfr := x.mfr, serial := x.serial } ∧ (ok = false → has t.dev.flt.status (fkey 87 0) = true))) ∧
  (∀ s : State, Completes .ledgerAgeExpire s (fun d => d.ddr.chans.length = s.dev.ddr.chans.length ∧
    (∀ c, (d.chan c).ledger = (s.dev.chan c).ledger.filter (fun e => s.dev.T / 1000000000 ≤ e.sec + s.dev.get F.ECC_LEDGER_CFG_AGE_S)) ∧
    (∀ c, (d.chan c).retired = (s.dev.chan c).retired) ∧ d.regs = s.dev.regs)) ∧
  (∀ (rq : Requester) (w : Word) (s : State) (e : Dev), s.Ready rq 0 → e = s.dev.storeWord rq 0x80058 w.toNat →
    e.get F.ECC_SCRUB_CTRL_BW_PCT = max 1 (min 50 (w.toNat % 64)) ∧
    Gives (.scrubGo rq w) s (if w.toNat.testBit 31 then e.leaveSleep.scrubStart else e) ∧ Gives (.scrubAbort rq w) s (if w.toNat.testBit 30 then e.scrubAbort else e)) ∧
  (∀ (d e : Dev), e = d.scrubStart →
    (d.get F.ECC_STAT_SCRUB_BUSY ≠ 0 → e = d) ∧
    (d.get F.ECC_STAT_SCRUB_BUSY = 0 →
      (d.get F.ECC_STAT_DRAM_DONE ≠ 0 → d.get F.ECC_SCRUB_LEN ≠ 0 →
        e.get F.ECC_STAT_SCRUB_BUSY = 1 ∧ e.ecc.scrub = some (d.get F.ECC_SCRUB_BASE, d.get F.ECC_SCRUB_LEN) ∧
          e.get F.ECC_SCRUB_SUM_VALID = 0 ∧ e.get F.ECC_SCRUB_SUM_WORDS = 0 ∧ e.get F.ECC_SCRUB_SUM_CE = 0 ∧ e.get F.ECC_SCRUB_SUM_UE = 0 ∧ e.get F.ECC_SCRUB_SUM_POISON = 0 ∧ e.dram = d.dram) ∧
      (d.get F.ECC_STAT_DRAM_DONE = 0 ∨ d.get F.ECC_SCRUB_LEN = 0 →
        e.get F.ECC_STAT_SCRUB_BUSY = 0 ∧ e.get F.ECC_SCRUB_SUM_VALID = 1 ∧ e.get F.ECC_SCRUB_SUM_WORDS = 0 ∧ e.ecc.scrub = none))) ∧
  (∀ (d e : Dev), e = d.scrubAbort → (d.ecc.scrub = none → e = d) ∧
    (d.ecc.scrub ≠ none → e.ecc.scrub = none ∧ e.get F.ECC_STAT_SCRUB_BUSY = 0 ∧ e.get F.ECC_SCRUB_SUM_VALID = 1 ∧ e.get F.ECC_SCRUB_SUM_ABORTED = 1)) ∧
  (∀ s : State, (s.dev.ecc.scrub = none → Gives .scrubDone s s.dev) ∧
    (∀ a n, s.dev.ecc.scrub = some (a, n) →
      Completes .scrubDone s (fun d => d.ecc.scrub = none ∧ d.get F.ECC_STAT_SCRUB_BUSY = 0 ∧ d.get F.ECC_SCRUB_SUM_VALID = 1 ∧ (d.get F.ECC_IRQ_STAT).testBit 1 = true ∧
        (s.dev.check = [] → d.get F.ECC_SCRUB_SUM_CE = s.dev.get F.ECC_SCRUB_SUM_CE ∧ d.get F.ECC_SCRUB_SUM_UE = s.dev.get F.ECC_SCRUB_SUM_UE ∧ d.dram = s.dev.dram)))) ∧
  (∀ (rq : Requester) (w : Word) (s : State) (e : Dev), s.Ready rq 2 → e = (s.dev.storeWord rq 0x80084 w.toNat).touch rq →
    e.get F.ECC_FLIP_CTRL_CHK = w.toNat / 256 % 256 ∧
    e.get F.ECC_FLIP_CTRL_TARGET = (if w.toNat % 32 ≤ 3 ∨ (16 ≤ w.toNat % 32 ∧ w.toNat % 32 ≤ 20) then w.toNat % 32 else 0) ∧ e.dram = s.dev.dram ∧
    GivesAudited (.flipArm rq w) s rq 0x80084 (if w.toNat.testBit 31 then e.set F.ECC_FLIP_CTRL_ARMED 1 else e)) ∧
  (∀ (rq : Requester) (c : Chan) (s : State), s.Ready rq 0 →
    Gives (.eccSramCntClear rq) s ((s.dev.set F.ECC_SRAM_CNT_CE 0).set F.ECC_SRAM_CNT_UE 0) ∧
    Gives (.eccChannelCntClear rq c) s ((((s.dev.set F.ECC_C_CE 0 c.val).set F.ECC_C_UE_UE 0 c.val).set F.ECC_C_UE_POISON_RD 0 c.val).set F.ECC_C_CNT_EVICT 0 c.val))
  )

/-! ### Cameras and the image pipeline (file 11) -/

/-- R318, R320, R322 to R325 and R328: ENABLE from 0 to 1 starts a port afresh, 1 to 0 stops it and ends its control command; lock makes it RUNNING, a connection that loses its lock takes it out and is reported; a good header
opens the next triggered frame's image, in free run or after a loss a frame of its own; a wrong tag or format is counted and reported; a packet that fails its CRC is counted and reported, and the lines it carried are dropped; a needed line joins the buffer, and one that meets 64 lines is dropped,
counted and reported once per frame; a falling edge is sent when its time has come. Where it rests on a choice of the model: log entry 91. -/
def Obligations.CamerasReceive : Prop :=
  ∀ (n : Cam) (s : State) (x : CamSt) (st : Nat), x = s.dev.camSt n.val → st = s.dev.get F.CAM_P_STAT_STATE n.val → n.val < s.dev.cam.length →
    (∀ (rq : Requester) (w : Word), s.Ready rq 0 →
      Gives (.cameraEnable rq n w) s (s.dev.camLink rq n.val (w.toNat ||| 2 ^ 31)) ∧ Gives (.cameraDisable rq n w) s (s.dev.camLink rq n.val (setBit w.toNat 31 false)) ∧
      (s.dev.get F.CAM_P_LINK_ENABLE n.val = 0 → s.dev.fenced (.cam n.val) = false →
        Completes (.cameraEnable rq n w) s (fun d => d.get F.CAM_P_LINK_ENABLE n.val = 1 ∧ d.get F.CAM_P_STAT_STATE n.val = 1 ∧ d.get F.CAM_P_FRAMENO n.val = 0 ∧
          (d.camSt n.val).frames = [] ∧ (d.camSt n.val).buf = [] ∧ (d.camSt n.val).current = none)) ∧
      (s.dev.get F.CAM_P_LINK_ENABLE n.val ≠ 0 ∨ s.dev.fenced (.cam n.val) = true →
        Completes (.cameraEnable rq n w) s (fun d => d.get F.CAM_P_LINK_ENABLE n.val = 1 ∧ d.get F.CAM_P_STAT_STATE n.val = st ∧ d.cam = s.dev.cam)) ∧
      Completes (.cameraDisable rq n w) s (fun d => d.get F.CAM_P_LINK_ENABLE n.val = 0 ∧ (s.dev.get F.CAM_P_LINK_ENABLE n.val = 0 → d.cam = s.dev.cam) ∧
        (s.dev.get F.CAM_P_LINK_ENABLE n.val ≠ 0 → d.get F.CAM_P_STAT_STATE n.val = 0 ∧
        (st ≠ 0 → d.get F.CAM_P_STAT_LOCK n.val = 0 ∧ d.get F.CAM_P_CTL_BUSY n.val = 0 ∧ (d.camSt n.val).buf = [] ∧ (d.camSt n.val).current = none ∧
          (s.dev.get F.CAM_P_CTL_BUSY n.val ≠ 0 → d.get F.CAM_P_CTL_RESULT n.val = 3))))) ∧
    (st = 1 → Gives (.cameraLock n) s ((s.dev.set F.CAM_P_STAT_LOCK (2 ^ (x.conns + 1) - 1) n.val).set F.CAM_P_STAT_STATE 2 n.val)) ∧
    (st ≠ 1 → Gives (.cameraLock n) s s.dev) ∧
    (∀ conn : Fin 4,
      (st = 0 ∨ (s.dev.get F.CAM_P_STAT_LOCK n.val).testBit conn.val = false → Gives (.cameraLinkLoss n conn) s s.dev) ∧
      (st ≠ 0 → (s.dev.get F.CAM_P_STAT_LOCK n.val).testBit conn.val = true → Completes (.cameraLinkLoss n conn) s (fun d => d.get F.CAM_P_STAT_STATE n.val ≤ 1 ∧
        (d.get F.CAM_P_STAT_LOCK n.val).testBit conn.val = false ∧ (d.camSt n.val).current = none ∧ (d.camSt n.val).resync = true ∧ d.get F.CAM_P_CTL_BUSY n.val = 0 ∧
        (d.get F.CAM_IRQ_STAT).testBit n.val = true ∧ has d.flt.status (fkey (253 + n.val) 0) = true))) ∧
    (∀ (tag : BitVec 16) (format : BitVec 4) (width : Nat) (fits : Prop) (no : Nat), (fits ↔ format.toNat = x.format ∧ width = x.width) →
      no = (if x.free ∨ x.resync then x.frameNo else x.image) →
      (st ≠ 2 → Gives (.imageHeader n tag format width) s s.dev) ∧
      (st = 2 → Gives (.imageHeader n tag format width) s (s.dev.imageHeader n.val tag.toNat format.toNat width) ∧
        (¬ fits → Completes (.imageHeader n tag format width) s (fun d => d.get F.CAM_P_CNT2_FORMAT n.val = Nat.min 255 (s.dev.get F.CAM_P_CNT2_FORMAT n.val + 1) ∧
          d.get F.CAM_P_STAT_TAG n.val = tag.toNat ∧ has d.flt.status (fkey (245 + n.val) 0) = true)) ∧
        (fits → x.free = false → x.resync = false → (∀ f ∈ x.frames, f.no ≠ x.image) →
          Completes (.imageHeader n tag format width) s (fun d => (d.camSt n.val).current = none ∧ (d.camSt n.val).image = x.image ∧ d.get F.CAM_P_STAT_TAG n.val = tag.toNat)) ∧
        (fits → x.free = true ∨ x.resync = true ∨ (∃ f ∈ x.frames, f.no = x.image) →
          (tag.toNat = no % 65536 → Completes (.imageHeader n tag format width) s (fun d => (d.camSt n.val).current = some no ∧ (d.camSt n.val).image = no + 1 ∧
            d.get F.CAM_P_STAT_TAG n.val = tag.toNat ∧ d.get F.CAM_P_CNT2_SEQ n.val = s.dev.get F.CAM_P_CNT2_SEQ n.val ∧
            (x.free = true ∨ x.resync = true → (d.camSt n.val).frameNo = no + 1 ∧ d.get F.CAM_P_FRAMENO n.val = no % 4294967296))) ∧
          (tag.toNat ≠ no % 65536 → Completes (.imageHeader n tag format width) s (fun d => d.get F.CAM_P_STAT_TAG n.val = tag.toNat ∧
            d.get F.CAM_P_CNT2_SEQ n.val = Nat.min 255 (s.dev.get F.CAM_P_CNT2_SEQ n.val + 1) ∧ has d.flt.status (fkey (257 + n.val) 0) = true))))) ∧
    (∀ (crcOk : Bool) (lines : Nat),
      (st ≠ 2 ∨ crcOk = true → Gives (.streamPacket n crcOk lines) s s.dev) ∧
      (st = 2 → ∀ e : Dev, e = (s.dev.bump F.CAM_P_CNT2_CRC n.val).report (249 + n.val) →
        has e.flt.status (fkey (249 + n.val) 0) = true ∧ e.get F.CAM_P_CNT2_CRC n.val = Nat.min 65535 (s.dev.get F.CAM_P_CNT2_CRC n.val + 1) ∧
        ((e.camSt n.val).current = none → Gives (.streamPacket n false lines) s e) ∧
        (∀ no, (e.camSt n.val).current = some no → Gives (.streamPacket n false lines) s ((e.dropLines n.val no (some lines)).purge n.val)))) ∧
    (∀ (px : List (BitVec 12)) (e : Dev), e = (if x.free then s.dev.linePeriod n.val else s.dev) →
      (st ≠ 2 → Gives (.cameraLine n px) s s.dev) ∧
      (st = 2 → x.current = none → Gives (.cameraLine n px) s e) ∧
      (∀ no, st = 2 → x.current = some no →
        ((∀ g ∈ x.frames, g.no ≠ no) → Gives (.cameraLine n px) s e) ∧
        (∀ f, x.frames.find? (fun g => g.no = no) = some f →
          (f.lines ≤ f.got → Gives (.cameraLine n px) s e) ∧
          (f.got < f.lines → x.buf.length < 64 →
            Gives (.cameraLine n px) s (((e.storeLine n.val no f.got (px.map (fun v => v.toNat))).modCam n.val (fun c =>
              { c with frames := c.frames.map (fun g => if g.no = no then { g with got := g.got + 1 } else g) })).purge n.val) ∧
            (s.dev.lineNeeded n.val no f.got = true →
              Completes (.cameraLine n px) s (fun d => (∃ b ∈ (d.camSt n.val).buf, b.frame = no ∧ b.line = f.got ∧ b.comps = px.map (fun v => v.toNat)) ∧
                d.get F.CAM_P_CNT_DROPPED n.val = s.dev.get F.CAM_P_CNT_DROPPED n.val))) ∧
          (f.got < f.lines → 64 ≤ x.buf.length →
            Completes (.cameraLine n px) s (fun d => d.get F.CAM_P_CNT_DROPPED n.val = Nat.min 65535 (s.dev.get F.CAM_P_CNT_DROPPED n.val + 1) ∧
              (d.get F.CAM_IRQ_STAT).testBit (12 + n.val) = true ∧ (f.overflowed = false → has d.flt.status (fkey (265 + n.val) 0) = true)))))) ∧
    (∀ t r, x.falls = t :: r →
      (t ≤ s.dev.raw → st ≠ 0 → Gives (.triggerFall n) s ((s.dev.emit (.camera n.val 2 [])).modCam n.val (fun c => { c with falls := r }))) ∧
      (s.dev.raw < t ∨ st = 0 → Gives (.triggerFall n) s s.dev)) ∧
    (x.falls = [] → Gives (.triggerFall n) s s.dev)

/-- R316, R319, R321, R326, R327 and R335 to R337: COMMIT makes one more generation pending, which the port's shadow settings go into; the lamp duties of the generation in force reach their channels; a control
command is sent and ends with its result, at its acknowledgement or its timeout; an event packet is acknowledged, and kept while none waits; the pipeline takes 16 lines of the next ready context, or ends its frame;
CLEAR empties the counts. Where it rests on a choice of the model: log entries 92 and 95. -/
def Obligations.CamerasAreControlled : Prop :=
  (∀ (n : Cam) (s : State) (x : CamSt) (st : Nat), x = s.dev.camSt n.val → st = s.dev.get F.CAM_P_STAT_STATE n.val → n.val < s.dev.cam.length →
    (∀ rq : Requester, s.Ready rq 0 →
      Gives (.cameraCommit rq n) s (s.dev.camCommit n.val) ∧
      Completes (.cameraCommit rq n) s (fun d => d.get F.CAM_P_COMMIT_GEN n.val = (s.dev.get F.CAM_P_COMMIT_GEN n.val + 1) % 65536 ∧ d.get F.CAM_P_COMMIT_PENDING n.val = 1 ∧
        d.get F.CAM_P_GEN n.val = s.dev.get F.CAM_P_GEN n.val ∧ (d.camSt n.val).expo = x.expo ∧ (d.camSt n.val).frames = x.frames ∧
        ∃ c, (d.camSt n.val).commit = some c ∧ c.expo = s.dev.get F.CAM_P_TRIG_EXPO n.val ∧ c.lines = s.dev.get F.CAM_P_FRAME_LINES n.val ∧ c.periods = 0 ∧
          s.dev.raw ≤ c.copied ∧ c.copied ≤ s.dev.raw + 200000) ∧
      Gives (.cameraCountClear rq n) s (((((s.dev.set F.CAM_P_CNT_TRIG_OVER 0 n.val).set F.CAM_P_CNT_DROPPED 0 n.val).set F.CAM_P_CNT2_FORMAT 0 n.val).set
        F.CAM_P_CNT2_SEQ 0 n.val).set F.CAM_P_CNT2_CRC 0 n.val) ∧
      (∀ (w : Word) (e : Dev) (len : Nat), e = s.dev.storeWord rq (0x90134 + 0x100 * n.val) w.toNat → len = e.get F.CAM_P_CTL_TX_LEN n.val →
        len = Nat.min 256 (w.toNat % 512) ∧ e.cam = s.dev.cam ∧
        (w.toNat.testBit 31 = false ∨ s.dev.get F.CAM_P_CTL_BUSY n.val ≠ 0 → Gives (.cameraCtlSend rq n w) s e) ∧
        (w.toNat.testBit 31 = true → s.dev.get F.CAM_P_CTL_BUSY n.val = 0 →
          (len = 0 → Gives (.cameraCtlSend rq n w) s (e.ctlEnd n.val 0)) ∧
          (len ≠ 0 → st ≠ 2 → Gives (.cameraCtlSend rq n w) s (e.ctlEnd n.val 3)) ∧
          (len ≠ 0 → st = 2 → Completes (.cameraCtlSend rq n w) s (fun d => d.get F.CAM_P_CTL_BUSY n.val = 1 ∧
            d.outbox = s.dev.outbox ++ [.camera n.val 0 ((s.dev.bufBytes F.CAM_P_TX n.val 64).take len)] ∧
            (d.camSt n.val).ctlEnd = some (s.dev.raw + d.get F.CAM_P_CTL_TMO_MS n.val * 1000000)))))) ∧
    (∀ (d e : Dev) (r : Nat), e = d.ctlEnd n.val r → e.get F.CAM_P_CTL_BUSY n.val = 0 ∧ e.get F.CAM_P_CTL_RESULT n.val = r % 4 ∧ (e.get F.CAM_IRQ_STAT).testBit (4 + n.val) = true) ∧
    Gives (.settingsEffective n) s ((x.hand.foldl (fun d h => d.set F.LMP_C_PWM_DUTY h.2 h.1) s.dev).modCam n.val (fun y => { y with hand := [] })) ∧
    (∀ bytes : List Byte,
      (s.dev.get F.CAM_P_CTL_BUSY n.val = 0 → ∀ ok, Gives (.cameraCtlAck n ok bytes) s s.dev) ∧
      (s.dev.get F.CAM_P_CTL_BUSY n.val ≠ 0 →
        Completes (.cameraCtlAck n true bytes) s (fun d => d.get F.CAM_P_CTL_BUSY n.val = 0 ∧ d.get F.CAM_P_CTL_RESULT n.val = 0 ∧
          d.get F.CAM_P_CTL_RX_RX_LEN n.val = Nat.min 256 bytes.length ∧
          ∀ i < 64, 4 * i + 4 ≤ bytes.length → d.get F.CAM_P_RX n.val i = ofBytesLE (((bytes.map (fun b => b.toNat)).drop (4 * i)).take 4)) ∧
        Gives (.cameraCtlAck n false bytes) s (s.dev.ctlEnd n.val 2)) ∧
      (st = 0 → ∀ ok, Gives (.cameraEvent n ok bytes) s s.dev) ∧ Gives (.cameraEvent n false bytes) s s.dev ∧
      (st ≠ 0 → s.dev.get F.CAM_P_CTL_RX_EVT_FULL n.val ≠ 0 → Gives (.cameraEvent n true bytes) s (s.dev.emit (.camera n.val 3 []))) ∧
      (st ≠ 0 → s.dev.get F.CAM_P_CTL_RX_EVT_FULL n.val = 0 → Completes (.cameraEvent n true bytes) s (fun d => d.get F.CAM_P_CTL_RX_EVT_FULL n.val = 1 ∧
        Output.camera n.val 3 [] ∈ d.outbox ∧ (d.get F.CAM_IRQ_STAT).testBit (8 + n.val) = true ∧
        ∀ i < 32, 4 * i + 4 ≤ bytes.length → d.get F.CAM_P_EVT n.val i = ofBytesLE (((bytes.map (fun b => b.toNat)).drop (4 * i)).take 4)))) ∧
    (∀ t, x.ctlEnd = some t →
      (s.dev.get F.CAM_P_CTL_BUSY n.val ≠ 0 → t ≤ s.dev.raw → Gives (.cameraCtlTimeout n) s (s.dev.ctlEnd n.val 1)) ∧
      (s.dev.get F.CAM_P_CTL_BUSY n.val = 0 ∨ s.dev.raw < t → Gives (.cameraCtlTimeout n) s s.dev)) ∧
    (x.ctlEnd = none → Gives (.cameraCtlTimeout n) s s.dev) ∧
    (st = 0 → Gives (.cameraHeartbeat n) s s.dev) ∧ (st ≠ 0 → Gives (.cameraHeartbeat n) s (s.dev.set F.CAM_P_HB s.dev.T n.val))) ∧
  (∀ (s : State) (on : Prop), on = (s.dev.pwr.st = .on ∧ s.dev.deferPaused = false ∧ s.dev.fenced .isp = false) →
    (¬ on ∨ s.dev.nextCtx = none → Gives .ispBlock s s.dev) ∧
    (∀ k : Nat, on → s.dev.nextCtx = some k → Gives .ispBlock s (s.dev.ispBlock k)) ∧
    (∀ (k : Nat) (f : CtxFrame) (rest : List CtxFrame), on → s.dev.nextCtx = some k → (s.dev.ctxSt k).frames = f :: rest → s.dev.ecc.sram = [] →
      (∀ j < 3, f.opt F.ISP_K_S_FMT_FMT k j = 0) → s.dev.get F.ISP_K_SSIZE k = 0 → f.next < f.lines →
      Completes .ispBlock s (fun d =>
        (f.next + 16 < f.lines → ∃ g, (d.ctxSt k).frames = g :: rest ∧ g.next = f.next + 16 ∧ g.gen = f.gen ∧ g.no = f.no) ∧
        (f.lines ≤ f.next + 16 → (d.ctxSt k).frames = rest ∧ (d.get F.ISP_IRQ_STAT).testBit k = true)))) ∧
  (∀ (rq : Requester) (k : Ctx) (s : State), s.Ready rq 0 →
    Completes (.ispCountClear rq k) s (fun d => d.get F.ISP_K_CNT_STAT_LOST k.val = 0 ∧ d.get F.ISP_K_CNT_INCOMPLETE k.val = 0 ∧ (∀ j < 3, d.get F.ISP_K_S_LOST k.val j = 0) ∧
      d.isp = s.dev.isp ∧ d.outbox = s.dev.outbox) ∧
    Gives (.ispLoadClear rq) s (s.dev.set F.ISP_LOAD_MAX_PCT 0))

/-! ### The Vintner loop and calibration records (file 12) -/

/-- R343, R348 and R356: a rise of ENABLE restarts STRIP_NO and a write of 0 abandons the waiting strips; a strip is complete once the camera has passed its last line; the oldest complete one is then evaluated
and numbered, a spoiled one counted in DISCARDED, one without a valid context reported bar by bar as VIN_NO_DATA; a measurement of an index that is FREE or DRAINING is stale (R112, the model's reading). R349: a submitted change joins the queue, held unless AUTO lets a change between OK and OUT through; a full queue counts it as lost; APPROVE releases the held entries and DISCARD drops them; a batch takes every
entry that is not held, counts it and requests a NOZZLE record. A change from OFF is held too, and state 3 is read as OUT: the model's choices. Where it rests on a choice of the model: log entries 47, 99 and 100. -/
def Obligations.StripsAndNozzlesAct : Prop :=
  (
  (∀ (rq : Requester) (s : State), s.Ready rq 0 →
    (∀ w : Word, w.toNat.testBit 0 = true →
      Gives (.vinEnable rq w) s ((if s.dev.get F.VIN_CTRL_ENABLE = 0 then { s.dev with vin := { s.dev.vin with stripNo := 0 } } else s.dev).set F.VIN_CTRL_ENABLE 1)) ∧
    (∀ w : Word, w.toNat.testBit 0 = false →
      Gives (.vinEnable rq w) s (({ s.dev with vin := { s.dev.vin with strips := [] } } : Dev).set F.VIN_CTRL_ENABLE 0)) ∧
    ∀ b : Bar, Gives (.vinCountClear rq b) s (((s.dev.set F.VIN_B_CNT_REJECT 0 b.val).set F.VIN_B_CNT_BUSY 0 b.val).set F.VIN_B_CNT_UPDATES 0 b.val)) ∧
  (∀ s : State, (∀ x ∈ s.dev.vin.strips, x.complete = true) → Gives .stripComplete s s.dev) ∧
  (∀ (s : State) (x : Strip) (l r : List Strip), s.dev.vin.strips = l ++ x :: r → (∀ y ∈ l, y.complete = true) → x.complete = false →
    (s.dev.procOn = true → s.dev.refLine (x.line + x.len : Nat) ≤ s.dev.qcam →
      Gives .stripComplete s { s.dev with vin := { s.dev.vin with strips := l ++ { x with complete := true } :: r } }) ∧
    (s.dev.procOn = false ∨ s.dev.qcam < s.dev.refLine (x.line + x.len : Nat) → Gives .stripComplete s s.dev)) ∧
  (∀ (s : State) (x : Strip) (r : List Strip), s.dev.vin.strips = x :: r →
    (x.complete = false ∨ s.dev.procOn = false → Gives .stripEvaluate s s.dev) ∧
    (x.complete = true → s.dev.procOn = true → ∀ e : Dev, e = { s.dev with vin := { s.dev.vin with strips := r } } →
      ((s.dev.job x.job).st = .free ∨ (s.dev.job x.job).st = .draining → Completes .stripEvaluate s (fun d => d.vin = e.vin ∧
        d.get F.SLU_STALE_CNT = Nat.min F.SLU_STALE_CNT.max (s.dev.get F.SLU_STALE_CNT + 1))) ∧
      ((s.dev.job x.job).st ≠ .free → (s.dev.job x.job).st ≠ .draining → Gives .stripEvaluate s (e.evalStrip x) ∧
        Completes .stripEvaluate s (fun d => d.vin.strips.length = r.length ∧ d.vin.stripNo = s.dev.vin.stripNo + 1 ∧ (d.get F.VIN_IRQ_STAT).testBit 0 = true ∧
          (x.spoiled = true → x.fifth = false → d.vin.strips = r ∧ d.get F.VIN_STAT_DISCARDED = Nat.min 65535 (s.dev.get F.VIN_STAT_DISCARDED + 1) ∧ d.flt = s.dev.flt) ∧
          (x.spoiled = false → x.fifth = false → s.dev.vinContext = false → d.get F.VIN_STAT_DISCARDED = s.dev.get F.VIN_STAT_DISCARDED ∧
            ∀ b < 8, x.bars.testBit b = true → has d.flt.status (fkey (278 + b) 0) = true))))) ∧
  (∀ s : State, s.dev.vin.strips = [] → Gives .stripEvaluate s s.dev)
  ) ∧ (
  (∀ (rq : Requester) (w : Word) (s : State) (port n st : Nat), s.Ready rq 1 → port = Nat.min 191 (w.toNat / 65536 % 256) → n = w.toNat % 4096 →
    st = (if w.toNat / 2 ^ 30 = 3 then 1 else w.toNat / 2 ^ 30) →
    (256 ≤ s.dev.vin.noz.length → Gives (.nozzleStateSubmit rq w) s (s.dev.set F.VIN_NOZ_STAT2_LOST (Nat.min 65535 (s.dev.get F.VIN_NOZ_STAT2_LOST + 1)))) ∧
    (s.dev.vin.noz.length < 256 →
      (s.dev.get F.VIN_NOZ_CFG_AUTO = 0 ∨ st = 2 ∨ s.dev.nozAfter port n = 2 →
        Completes (.nozzleStateSubmit rq w) s (fun d => d.vin = { s.dev.vin with noz := s.dev.vin.noz ++ [⟨port, n, st, true⟩] } ∧ (d.get F.VIN_IRQ_STAT).testBit 1 = true)) ∧
      (s.dev.get F.VIN_NOZ_CFG_AUTO ≠ 0 → st ≠ 2 → s.dev.nozAfter port n ≠ 2 →
        Gives (.nozzleStateSubmit rq w) s { s.dev with vin := { s.dev.vin with noz := s.dev.vin.noz ++ [⟨port, n, st, false⟩] } }))) ∧
  (∀ (rq : Requester) (s : State), s.Ready rq 2 →
    CompletesAudited (.nozzleApprove rq) s rq 0xB0080 (fun d => d.regs = s.dev.regs ∧
      d.vin = { s.dev.vin with noz := s.dev.vin.noz.map (fun (e : NozEntry) => { e with held := false }) }) ∧
    CompletesAudited (.nozzleDiscard rq) s rq 0xB0080 (fun d => d.regs = s.dev.regs ∧
      d.vin = { s.dev.vin with noz := s.dev.vin.noz.filter (fun e => !e.held) })) ∧
  (∀ (s : State) (goes : NozEntry → Bool), goes = (fun e => !e.held && !s.dev.tabBusy (s.dev.ktab 3 0 e.port)) →
    (s.dev.procOn = false ∨ (∀ e ∈ s.dev.vin.noz, e.held = true) → Gives .nozzleBatch s s.dev) ∧
    (s.dev.procOn = true → (∀ e ∈ s.dev.vin.noz, e.port < 192) →
      Completes .nozzleBatch s (fun d => d.vin.noz = s.dev.vin.noz.filter (fun e => !goes e) ∧ ((∃ e ∈ s.dev.vin.noz, goes e = true) → has d.vin.due 4 = true) ∧
        d.get F.VIN_NOZ_STAT_APPLIED = Nat.min 65535 (s.dev.get F.VIN_NOZ_STAT_APPLIED + (s.dev.vin.noz.filter goes).length))))
  )

/-- R350, R353, R354 and R357: an automatic write that is due starts when the part is powered and MIN_S has passed since the kind's last one; SAVE queues the kind it names, kind 7 below MAKER is DENIED; a write goes to the slot that the
directory does not name, twice at most, and the directory then names it; when both attempts fail the directory stays, and the failure is reported; while the part is off or MRAM writes are suspended it waits. Where it rests on a choice of the model: log entry 101. -/
def Obligations.CalibrationIsKept : Prop :=
  (∀ (kind : Fin 9) (s : State),
    (s.dev.pwr.st ≠ .on ∨ has s.dev.vin.due kind.val = false → Gives (.calRecordDue kind) s s.dev) ∧
    (∀ t, RegFile.find kind.val s.dev.vin.lastAuto = some t → s.dev.raw < t + s.dev.get F.VIN_CAL_CFG_MIN_S * 1000000000 → Gives (.calRecordDue kind) s s.dev) ∧
    (s.dev.pwr.st = .on → has s.dev.vin.due kind.val = true →
      (∀ t, RegFile.find kind.val s.dev.vin.lastAuto = some t → t + s.dev.get F.VIN_CAL_CFG_MIN_S * 1000000000 ≤ s.dev.raw) →
      Completes (.calRecordDue kind) s (fun d => d.vin.writing = s.dev.vin.writing ++ [(kind.val, false)] ∧ has d.vin.due kind.val = false ∧
        RegFile.find kind.val d.vin.lastAuto = some s.dev.raw ∧ d.regs = s.dev.regs ∧ d.mram = s.dev.mram))) ∧
  (∀ (rq : Requester) (w : Word) (s : State) (k : Nat) (e : Dev), s.Ready rq 2 → k = Nat.min 8 (w.toNat / 256 % 16) → e = (s.dev.storeWord rq 0xB00A4 w.toNat).touch rq →
    e.get F.VIN_CAL_CMD_KIND = k ∧ e.vin = s.dev.vin ∧ (w.toNat.testBit 0 = false → GivesAudited (.save rq w) s rq 0xB00A4 e) ∧
    (w.toNat.testBit 0 = true →
      (k = 7 → s.dev.rights rq < 3 → CompletesAudited (.save rq w) s rq 0xB00A4 (fun d => d.get F.VIN_CAL_CMD_DONE = 1 ∧ d.get F.VIN_CAL_CMD_CODE = 1 ∧
        (d.get F.VIN_IRQ_STAT).testBit 2 = true ∧ d.vin = s.dev.vin ∧ d.mram = s.dev.mram)) ∧
      (k ≠ 7 ∨ 3 ≤ s.dev.rights rq → GivesAudited (.save rq w) s rq 0xB00A4
        { e.set F.VIN_CAL_CMD_DONE 0 with vin := { s.dev.vin with writing := s.dev.vin.writing ++ [(k, true)] } }))) ∧
  (∀ (s : State) (ok1 ok2 : Bool),
    (s.dev.vin.writing = [] ∨ s.dev.pwr.st ≠ .on ∨ s.dev.get F.NVM_STAT_SUSPENDED ≠ 0 → Gives (.calRecordWriteDone ok1 ok2) s s.dev) ∧
    (∀ k save r, s.dev.vin.writing = (k, save) :: r → s.dev.pwr.st = .on → s.dev.get F.NVM_STAT_SUSPENDED = 0 →
      (∀ e : Bool × Dev, e = ({ s.dev with vin := { s.dev.vin with writing := r } } : Dev).calWrite k ok1 ok2 →
        Gives (.calRecordWriteDone ok1 ok2) s (if save then e.2.saveEnd (if e.1 then 0 else 2) else e.2)) ∧
      (∀ dir slot, k < 9 → 34 ≤ s.dev.bond.cask0.length → 34 ≤ s.dev.bond.cask1.length → 34 ≤ s.dev.bond.cask2.length →
        dir = s.dev.cask (25 + k) → slot = (if dir.testBit 31 then 1 - dir / 2 ^ 30 % 2 else 0) →
        Completes (.calRecordWriteDone ok1 ok2) s (fun d => d.vin.writing = r ∧ d.calSlot k (1 - slot) = s.dev.calSlot k (1 - slot) ∧
          (d.calSlot k slot).writes = (s.dev.calSlot k slot).writes + (if ok1 then 1 else 2) ∧
          (save = true → d.get F.VIN_CAL_CMD_DONE = 1 ∧ d.get F.VIN_CAL_CMD_CODE = (if ok1 || ok2 then 0 else 2)) ∧
          (ok1 = true ∨ ok2 = true → (d.cask (25 + k)).testBit 31 = true ∧ d.cask (25 + k) / 2 ^ 30 % 2 = slot ∧ (d.get F.VIN_CAL_STAT_VALID).testBit k = true ∧
            calValid k (d.cask (25 + k) % 2 ^ 24) (d.calSlot k slot).words = true) ∧
          (ok1 = false → ok2 = false → d.cask (25 + k) = dir ∧ has d.flt.status (fkey 297 0) = true)))))

/-! ### Lamps (file 13) -/

/-- R362, R363, R365, R367 to R369 and R372 to R374: a period is formed by the channel's mode, after its gain has taken its step: a STRING period of at least 2 µs sends a SET frame with the duty by the gain, the current and the shunts of its dark lamps; one with DUTY 0 or no lit lamp sends OFF and reads OFF; a line scan
sends a frame per row; a module that keeps frames gets SWAP once LMP_SYNC has let its set swap, and an edge before that is missed; a held or still channel reads INTERLOCK. A reply is measured if valid and judged if its pulse can be, the third open, short or missing one in a row
shows, on a matrix module any; LOAD takes the window as one set; CLEAR empties the counts. Where it rests on a choice of the model: log entries 102 and 103. -/
def Obligations.LampsAreDriven : Prop :=
  ∀ (c : Lamp) (s : State) (x : LampCh) (mode : Nat), x = s.dev.lampCh c.val → c.val < s.dev.lamps.chans.length → mode = s.dev.get F.LMP_C_CFG_MODE c.val →
    (s.dev.lampsOn = false → Gives (.lampPeriod c) s s.dev ∧ (∀ row r, Gives (.lampReply c row r) s s.dev) ∧ Gives .lampSync s s.dev) ∧
    (s.dev.lampsOn = true → s.dev.lampHeld c.val = true → Gives (.lampPeriod c) s (s.dev.lampStatus c.val 5)) ∧
    (s.dev.lampsOn = true → s.dev.lampHeld c.val = false → ∀ (e : Dev) (still : Bool), still = s.dev.lampStill c.val →
      e = (s.dev.modLamp c.val (fun y => { y with still := still, on := decide (mode ≠ 0) })).gainStep c.val →
      (still = true → Gives (.lampPeriod c) s ((if mode = 4 then e else e.lampOff c.val).lampStatus c.val 5)) ∧
      (still = false → s.dev.fenced (.lamp c.val) = true → Gives (.lampPeriod c) s (if mode = 4 then e else e.lampOff c.val)) ∧
      (still = false → s.dev.fenced (.lamp c.val) = false →
        (mode = 1 → Gives (.lampPeriod c) s (e.lampString c.val 1) ∧
          (s.dev.get F.LMP_C_PWM_DUTY c.val = 0 ∨ s.dev.litMask c.val = 0 →
            Completes (.lampPeriod c) s (fun d => d.get F.LMP_C_STAT_STATUS c.val = 0 ∧ Output.lamp c.val 5 (lampCoded (lampHead 5 x.seq 0 0 0 0 0)) ∈ d.outbox)) ∧
          (s.dev.get F.LMP_C_PWM_DUTY c.val ≠ 0 → s.dev.litMask c.val ≠ 0 → ∀ on, on = e.dutyOut c.val (s.dev.get F.LMP_C_PWM_DUTY c.val) →
            isDim on (10 * s.dev.get F.LMP_C_PWM_PERIOD c.val) = false →
            Completes (.lampPeriod c) s (fun d => Output.lamp c.val 1 (lampCoded (lampHead 1 x.seq 0 (s.dev.get F.LMP_C_PWM_PERIOD c.val)
              ((4294967295 - s.dev.litMask c.val) &&& ((2 ^ (s.dev.get F.LMP_C_CFG_LAMPS c.val + 1) - 1) ||| s.dev.get F.LMP_C_SHUNT c.val)) (s.dev.get F.LMP_C_ELEC_I_SET c.val) on)) ∈ d.outbox))) ∧
        (mode = 2 → Gives (.lampPeriod c) s (e.lampScan c.val) ∧ (s.dev.get F.LMP_C_PWM_PERIOD c.val < 65536 →
          Completes (.lampPeriod c) s (fun d => ∀ r < s.dev.lampRows c.val, r < 32 → ∃ ws, Output.lamp c.val 2 ws ∈ d.outbox ∧ ws.getD 0 0 / 65536 % 256 = r))) ∧
        (mode = 3 → Gives (.lampPeriod c) s (e.lampFrame c.val) ∧ (∀ set, x.next = some set → x.synced = true →
          Completes (.lampPeriod c) s (fun d => (d.lampCh c.val).set = set ∧ (d.lampCh c.val).next = none ∧
            Output.lamp c.val 4 (lampCoded (lampHead 4 x.seq 0 (s.dev.get F.LMP_C_PWM_PERIOD c.val) 0 0 0)) ∈ d.outbox))) ∧
        (mode = 4 → Gives (.lampPeriod c) s (if s.dev.get F.LMP_C_STAT_STATUS c.val = 5 then e.lampStatus c.val 0 else e)) ∧
        (mode = 0 ∨ 4 < mode → Gives (.lampPeriod c) s ((e.lampOff c.val).lampStatus c.val 0)))) ∧
    (s.dev.lampsOn = true → ∀ shows : Dev → Nat → Prop,
      (∀ d v, shows d v ↔ d.get F.LMP_C_STAT_STATUS c.val = v ∨ (s.dev.uvChannel c.val = true ∧ d.get F.LMP_C_STAT_STATUS c.val = 5)) →
      (x.await = 0 → ∀ row r, Gives (.lampReply c row r) s s.dev) ∧
      (0 < x.await → s.dev.lampHeld c.val = false →
        (∀ row, Completes (.lampReply c row none) s (fun d => d.get F.LMP_C_CNT_CRC c.val = Nat.min 32767 (s.dev.get F.LMP_C_CNT_CRC c.val + 1) ∧
          shows d (if 2 ≤ x.misses then 6 else s.dev.get F.LMP_C_STAT_STATUS c.val))) ∧
        (∀ row w0 w1 w2, Gives (.lampReply c row (some (w0, w1, w2))) s (s.dev.lampReply c.val row.val (some (w0.toNat, w1.toNat, w2.toNat))) ∧
          (w0.toNat.testBit 20 = false → Completes (.lampReply c row (some (w0, w1, w2))) s (fun d => d.get F.LMP_C_MEAS_VOLT c.val = s.dev.get F.LMP_C_MEAS_VOLT c.val ∧
            d.get F.LMP_C_MEAS_CURR c.val = s.dev.get F.LMP_C_MEAS_CURR c.val ∧ d.get F.LMP_C_STAT_TEMP c.val = s.dev.get F.LMP_C_STAT_TEMP c.val)) ∧
          (w0.toNat.testBit 20 = true → Completes (.lampReply c row (some (w0, w1, w2))) s (fun d => d.get F.LMP_C_MEAS_VOLT c.val = w1.toNat / 65536 ∧
            d.get F.LMP_C_MEAS_CURR c.val = w1.toNat % 65536 ∧ d.get F.LMP_C_STAT_TEMP c.val = w0.toNat % 65536)) ∧
          (∀ volt curr v opens shorts : Nat, volt = w1.toNat / 65536 → curr = w1.toNat % 65536 → v = s.dev.get F.LMP_C_ELEC_V_LAMP c.val → w0.toNat.testBit 20 = true →
            mode ≠ 2 → mode ≠ 3 → x.judge.testBit 0 = true → 0 < x.lit →
            opens = (if 2 * curr < x.iSet then x.opens + 1 else 0) → shorts = (if 2 * volt < (2 * x.lit - 1) * v then x.shorts + 1 else 0) →
            Completes (.lampReply c row (some (w0, w1, w2))) s (fun d => (3 ≤ opens → shows d 2) ∧
              (opens < 3 → 3 ≤ shorts → shows d 3 ∧ d.get F.LMP_C_STAT_SHORTED c.val = (clampI 1 15 (roundDiv ((x.lit * v : Nat) - (volt : Int)) v)).toNat) ∧
              (opens < 3 → shorts < 3 → shows d 1))) ∧
          (∀ found, mode = 2 ∨ mode = 3 → x.judge.testBit (if mode = 2 then row.val else 0) = true →
            found = x.found.filter (fun f => f.1 ≠ row.val) ++ [(row.val, w2.toNat / 256 % 256, w2.toNat % 256)] →
            Completes (.lampReply c row (some (w0, w1, w2))) s (fun d => ((∃ f ∈ found, f.2.1 ≠ 0) → shows d 2) ∧
              ((∀ f ∈ found, f.2.1 = 0) → (∃ f ∈ found, f.2.2 ≠ 0) → shows d 3) ∧ ((∀ f ∈ found, f.2.1 = 0 ∧ f.2.2 = 0) → shows d 1))))) ∧
      Completes .lampSync s (fun d => (d.lampCh c.val).next = x.next ∧
        (mode ≠ 3 ∨ x.next = none → (d.lampCh c.val).synced = x.synced ∧ d.get F.LMP_C_CNT_MISSED c.val = s.dev.get F.LMP_C_CNT_MISSED c.val) ∧
        (mode = 3 → x.next.isSome = true → s.dev.lampRows c.val ≤ x.sentRows → (d.lampCh c.val).synced = true ∧ d.get F.LMP_C_CNT_MISSED c.val = s.dev.get F.LMP_C_CNT_MISSED c.val) ∧
        (mode = 3 → x.next.isSome = true → x.sentRows < s.dev.lampRows c.val → (d.lampCh c.val).synced = x.synced ∧ (d.get F.LMP_IRQ_STAT).testBit 17 = true ∧
          d.get F.LMP_C_CNT_MISSED c.val = Nat.min 65535 (s.dev.get F.LMP_C_CNT_MISSED c.val + 1) ∧ has d.flt.status (fkey 302 0) = true))) ∧
    (∀ rq : Requester, s.Ready rq 0 →
      Gives (.lampMatrixLoad rq c) s (s.dev.modLamp c.val (fun y => { y with next := some (s.dev.matrixShadow c.val), sentRows := 0, synced := false })) ∧
      Gives (.lampCountClear rq c) s ((s.dev.set F.LMP_C_CNT_CRC 0 c.val).set F.LMP_C_CNT_MISSED 0 c.val)) ∧
    Gives (.segmentHoldExpire c) s (s.dev.modLamp c.val (fun y => { y with holds := y.holds.filter (fun h => s.dev.raw < h.2) }))

/-- R363, R370 to R372: ENABLE 0 turns every channel OFF; the first periods after 0 to 1 start afresh, with every channel whose line is held reading INTERLOCK; a held channel sends no frame; ILK_UV_N high makes every
UV channel of the running controller read INTERLOCK and is reported; a UV channel that has been still for LMP_STILL_TIME sends OFF and reads INTERLOCK; LMP_ALERT_N low looks at every channel's next reply, and one with ALERT is reported; while the part is not powered only the pin changes. Where it rests on a choice of the model: log entries 102 and 104. -/
def Obligations.LampsGoDark : Prop :=
  (∀ (rq : Requester) (w : Word) (s : State), s.Ready rq 0 →
    (w.toNat.testBit 0 = false → Completes (.lampEnable rq w) s (fun d => d.get F.LMP_CTRL_ENABLE = 0 ∧
      ∀ c < 16, d.get F.LMP_C_STAT_STATUS c = 0 ∧ (d.lampCh c).await = 0 ∧ (d.lampCh c).on = false)) ∧
    (w.toNat.testBit 0 = true → s.dev.get F.LMP_CTRL_ENABLE ≠ 0 → Gives (.lampEnable rq w) s (s.dev.set F.LMP_CTRL_ENABLE 1)) ∧
    (w.toNat.testBit 0 = true → s.dev.get F.LMP_CTRL_ENABLE = 0 → Completes (.lampEnable rq w) s (fun d => d.get F.LMP_CTRL_ENABLE = 1 ∧
      ∀ c < 16, (d.lampCh c).valid = false ∧ (d.lampCh c).await = 0 ∧ (d.lampCh c).on = false ∧
        d.get F.LMP_C_STAT_STATUS c = (if s.dev.lampHeld c then 5 else s.dev.get F.LMP_C_STAT_STATUS c)))) ∧
  (∀ (c : Lamp) (s : State), s.dev.lampsOn = true →
    (s.dev.lampHeld c.val = true → Completes (.lampPeriod c) s (fun d => d.get F.LMP_C_STAT_STATUS c.val = 5 ∧
      ∀ cmd ws, Output.lamp c.val cmd ws ∈ d.outbox → Output.lamp c.val cmd ws ∈ s.dev.outbox)) ∧
    (s.dev.lampHeld c.val = false → s.dev.uvChannel c.val = true → s.dev.lamps.slowAt.isSome = true → s.dev.lamps.passed = true →
      Completes (.lampPeriod c) s (fun d => d.get F.LMP_C_STAT_STATUS c.val = 5 ∧ (s.dev.get F.LMP_C_CFG_MODE c.val ≠ 4 → ∃ ws, Output.lamp c.val 5 ws ∈ d.outbox))) ∧
    (s.dev.uvChannel c.val = true → Completes (.ilkUvInput true) s (fun d => d.get F.LMP_C_STAT_STATUS c.val = 5))) ∧
  (∀ s : State, s.dev.pwr.st = .on →
    Completes (.ilkUvInput true) s (fun d => d.pins = { s.dev.pins with ilkUv := true } ∧ has d.flt.status (fkey 57 0) = true) ∧
    Completes (.ilkUvInput false) s (fun d => d.pins = { s.dev.pins with ilkUv := false } ∧ has d.flt.det (fkey 57 0) = false) ∧
    Gives .lampAlertInput s { s.dev with lamps := { s.dev.lamps with alerts := 65535 } }) ∧
  (∀ s : State, s.dev.pwr.st ≠ .on →
    (∀ high, Gives (.ilkUvInput high) s { s.dev with pins := { s.dev.pins with ilkUv := high } }) ∧ Gives .lampAlertInput s s.dev) ∧
  (∀ (c : Lamp) (row : Fin 32) (w0 w1 w2 : Word) (s : State), s.dev.lampsOn = true → 0 < (s.dev.lampCh c.val).await → s.dev.lamps.alerts.testBit c.val = true →
    Completes (.lampReply c row (some (w0, w1, w2))) s (fun d => d.lamps.alerts.testBit c.val = false ∧ (w0.toNat.testBit 23 = true → has d.flt.status (fkey 301 0) = true))) ∧
  (∀ s : State, (s.dev.lamps.slowAt = none → Gives .uvStillTimeout s s.dev) ∧
    (∀ t, s.dev.lamps.slowAt = some t →
      (t + s.dev.bonded 9 * 1000000 ≤ s.dev.raw → Gives .uvStillTimeout s { s.dev with lamps := { s.dev.lamps with passed := true } }) ∧
      (s.dev.raw < t + s.dev.bonded 9 * 1000000 → Gives .uvStillTimeout s s.dev)))

/-! ### Timebase and Ethernet (file 14) -/

/-- R378, R380, R386 and R390: while no domain is followed a correction within JUMP_LIMIT joins those to be slewed; a larger one steps T only when FORCE has armed it and no context is ARMED or RUNNING, which
disarms FORCE, and is refused and reported otherwise; FORCE is BUSY while a context is; CAPTURE latches R, T and both domains' times; the lower word of a rate is stored, and the upper brings it into force, clamped, without a jump
of T; each 1 ms the source of the time in force is chosen by FOLLOW (whose code 3 is stored as 2): a change takes that source's rate without a jump of T, a change of the domain followed is flagged and reported, and HOLD, with no source left, keeps the rate and
is reported. That a correction of T does nothing while a domain is followed is the model's choice (log entry 105). Where it rests on a choice of the model: log entry 105. -/
def Obligations.TimeIsSteered : Prop :=
  (∀ (rq : Requester) (s : State), s.Ready rq 0 →
    (∀ (w : Word) (a : Int), a = signed 64 (w.toNat * 2 ^ 32 + s.dev.get F.TB_ADJ % 2 ^ 32) →
      (s.dev.get F.TB_STAT_IN_FORCE = 1 ∨ s.dev.get F.TB_STAT_IN_FORCE = 2 → Gives (.timeAdjust rq w) s s.dev) ∧
      (s.dev.get F.TB_STAT_IN_FORCE ≠ 1 → s.dev.get F.TB_STAT_IN_FORCE ≠ 2 →
        (a.natAbs ≤ s.dev.get F.TB_CFG_JUMP_LIMIT →
          Gives (.timeAdjust rq w) s { s.dev with tb := { s.dev.tb with pend := s.dev.tb.pend + a * 2 ^ 32, refused := false } }) ∧
        (s.dev.get F.TB_CFG_JUMP_LIMIT < a.natAbs → s.dev.tb.force = true → s.dev.anyArmed = false →
          Completes (.timeAdjust rq w) s (fun d => d = ({ s.dev with tb := { s.dev.tb with force := false } } : Dev).stepT (a * 2 ^ 32) ∧
            d.fineT = s.dev.fineT + a * 2 ^ 32 ∧ d.tb.force = false ∧ d.regs = s.dev.regs)) ∧
        (s.dev.get F.TB_CFG_JUMP_LIMIT < a.natAbs → s.dev.tb.force = false ∨ s.dev.anyArmed = true →
          Completes (.timeAdjust rq w) s (fun d => d = s.dev.report 303 ∧ s.dev.Reported d 303)))) ∧
    Gives (.timeCapture rq) s ((((((s.dev.set F.TB_CAP_RAW s.dev.raw).set F.TB_CAP_T s.dev.T).set F.TB_CAP_D (s.dev.domT 0 / 2 ^ 32).toNat 0).set
      F.TB_CAP_D (s.dev.domT 1 / 2 ^ 32).toNat 1).set F.TB_CMD_CODE 0).set F.TB_CMD_DONE 1) ∧
    (∀ w : Word, Gives (.timeAddendWrite rq none false w) s (s.dev.set F.TB_ADDEND (s.dev.get F.TB_ADDEND / 2 ^ 32 * 2 ^ 32 + w.toNat)) ∧
      ∀ v, v = min 4299262263 (max 4290672329 (w.toNat * 2 ^ 32 + s.dev.get F.TB_ADDEND % 2 ^ 32)) →
        Completes (.timeAddendWrite rq none true w) s (fun d => d.fineT = s.dev.fineT ∧
          d = (if s.dev.get F.TB_STAT_IN_FORCE = 0 then (s.dev.set F.TB_ADDEND v).rebase v else s.dev.set F.TB_ADDEND v)))) ∧
  (∀ (rq : Requester) (s : State), s.Ready rq 2 →
    GivesAudited (.timeForce rq) s rq 0xD0058 (((if s.dev.anyArmed then s.dev else { s.dev with tb := { s.dev.tb with force := true } } : Dev).set
      F.TB_CMD_DONE 1).set F.TB_CMD_CODE (if s.dev.anyArmed then 1 else 0) |>.touch rq)) ∧
  (∀ (s : State) (f n old : Nat), f = s.dev.get F.TB_CTRL_FOLLOW → f ≤ 2 → old = s.dev.get F.TB_STAT_IN_FORCE →
    n = (if f = 0 then 0 else if s.dev.get F.TB_D_STAT_STATE (f - 1) = 2 then f
      else if s.dev.get F.TB_CTRL_AUTO ≠ 0 ∧ s.dev.get F.TB_D_STAT_STATE (2 - f) = 2 ∧
          (s.dev.domT (2 - f) - s.dev.fineT).natAbs ≤ s.dev.get F.TB_CFG2_CONFIRM_TOL * 2 ^ 32 then 3 - f else 3) →
    (n = old ∨ s.dev.pwr.st ≠ .on → Gives .followSelect s s.dev) ∧
    (n ≠ old → s.dev.pwr.st = .on →
      Completes .followSelect s (fun d => d.get F.TB_STAT_IN_FORCE = n ∧ d.fineT = s.dev.fineT ∧ d.tb.refused = false ∧
        d.tb.add = (if n = 0 then s.dev.get F.TB_ADDEND else if n = 3 then s.dev.tb.add else (s.dev.dom (n - 1)).add) ∧
        ((n = 0 ∨ n = 3) → (old = 0 ∨ old = 3) → d.get F.TB_IRQ_STAT = s.dev.get F.TB_IRQ_STAT) ∧
        (n = 1 ∨ n = 2 ∨ old = 1 ∨ old = 2 → (d.get F.TB_IRQ_STAT).testBit 0 = true ∧ has d.flt.status (fkey 309 0) = true) ∧
        (n = 3 → has d.flt.status (fkey 308 0) = true))))

/-- R378 to R380 and R382 to R385: a correction of a domain within JUMP_LIMIT, the first, or a forced one steps its time, and in UNLOCKED the eighth small one in a row locks it; it is staged in HOLDOVER, counted as refused in MASTER, refused and reported
otherwise. A rate comes into force without a jump, and is refused in HOLDOVER and MASTER. A path delay in LOCKED becomes the accepted one, or beyond the limit puts the domain in HOLDOVER as the candidate; in HOLDOVER for its cause it counts beside the candidate or
replaces it, and the 64th has the pending correction checked against the other domain, which must be LOCKED and agree: it steps the time and locks, or the cause is CONFIRM_FAIL; after TIMEOUT it unlocks. No path delay for TIMEOUT holds over. FORCE arms and is BUSY while a context is ARMED or RUNNING; ACK accepts
the latest path delay and the pending correction; EN and MASTER give the states. That a refused correction breaks the eight in a row is the model's choice. Where it rests on a choice of the model: log entry 106. -/
def Obligations.DomainsChangeState : Prop :=
  ∀ (k : Fin 2) (s : State) (x : TbDom) (st : Nat), x = s.dev.dom k.val → st = s.dev.get F.TB_D_STAT_STATE k.val → k.val < s.dev.tb.doms.length →
    (∀ (rq : Requester) (refused : Dev), refused = s.dev.set F.TB_D_STAT_REFUSED (Nat.min 65535 (s.dev.get F.TB_D_STAT_REFUSED k.val + 1)) k.val → s.Ready rq 0 →
      (∀ (w : Word) (a : Int) (g : Nat), a = signed 64 (w.toNat * 2 ^ 32 + s.dev.get F.TB_D_ADJ k.val % 2 ^ 32) →
        g = (if a.natAbs ≤ s.dev.get F.TB_CFG2_CONFIRM_TOL then x.good + 1 else 0) →
        (st = 4 → Gives (.domainAdjust rq k w) s refused) ∧
        (st ≠ 3 → st ≠ 4 → a.natAbs ≤ s.dev.get F.TB_CFG_JUMP_LIMIT ∨ x.first = true ∨ x.force = true →
          Completes (.domainAdjust rq k w) s (fun d => d.domT k.val = s.dev.domT k.val + a * 2 ^ 32 ∧ (d.dom k.val).first = false ∧ (d.dom k.val).force = false ∧
            (¬ (st = 1 ∧ 8 ≤ g) → (d.dom k.val).good = g ∧ d.regs = s.dev.regs) ∧
            (st = 1 → 8 ≤ g → d.get F.TB_D_STAT_STATE k.val = 2 ∧ d.get F.TB_D_STAT_HCAUSE k.val = 0 ∧ (d.dom k.val).accepted = false))) ∧
        (st ≠ 3 → st ≠ 4 → s.dev.get F.TB_CFG_JUMP_LIMIT < a.natAbs → x.first = false → x.force = false →
          Completes (.domainAdjust rq k w) s (fun d => d = (refused.modDom k.val (fun y => { y with good := 0 })).report 303 ∧ d.domT k.val = s.dev.domT k.val ∧
            d.get F.TB_D_STAT_REFUSED k.val = Nat.min 65535 (s.dev.get F.TB_D_STAT_REFUSED k.val + 1) ∧ has d.flt.status (fkey 303 0) = true)) ∧
        (st = 3 → ∀ e, e = (s.dev.modDom k.val (fun y => { y with pend := some a })).set F.TB_D_STAT_PENDING 1 k.val →
          (s.dev.get F.TB_D_STAT_PERSIST k.val ≠ 64 ∨ s.dev.get F.TB_D_STAT_HCAUSE k.val < 2 → Gives (.domainAdjust rq k w) s e) ∧
          (s.dev.get F.TB_D_STAT_PERSIST k.val = 64 → 2 ≤ s.dev.get F.TB_D_STAT_HCAUSE k.val → Gives (.domainAdjust rq k w) s (e.confirm k.val)))) ∧
      (∀ w : Word, (3 ≤ st → ∀ up, Gives (.timeAddendWrite rq (some k) up w) s refused) ∧
        (st < 3 → Gives (.timeAddendWrite rq (some k) false w) s (s.dev.set F.TB_D_ADDEND (s.dev.get F.TB_D_ADDEND k.val / 2 ^ 32 * 2 ^ 32 + w.toNat) k.val) ∧
          ∀ v, v = min 4299262263 (max 4290672329 (w.toNat * 2 ^ 32 + s.dev.get F.TB_D_ADDEND k.val % 2 ^ 32)) →
            Completes (.timeAddendWrite rq (some k) true w) s (fun d => d.regs = (s.dev.set F.TB_D_ADDEND v k.val).regs ∧ (d.dom k.val).add = v ∧ d.domT k.val = s.dev.domT k.val ∧
              d.fineT = s.dev.fineT ∧ d.tb.add = (if s.dev.get F.TB_STAT_IN_FORCE = k.val + 1 then v else s.dev.tb.add)))) ∧
      (∀ (w : Word) (near : Nat → Bool) (e : Dev), (∀ b, near b = decide (((w.toNat : Int) - b).natAbs ≤ s.dev.get F.TB_CFG2_PD_STEP_LIMIT * 256)) →
        e = (s.dev.set F.TB_D_PD w.toNat k.val).modDom k.val (fun y => { y with pdAt := s.dev.raw }) →
        (st = 4 → Gives (.pathDelayWrite rq k w) s refused) ∧
        (st = 2 → x.accepted = true → near (s.dev.get F.TB_D_ACPD k.val) = false →
          Completes (.pathDelayWrite rq k w) s (fun d => d = (((e.domState k.val 3 2).modDom k.val (fun y => { y with cand := w.toNat })).set F.TB_D_STAT_PERSIST 1 k.val).report (304 + k.val) ∧
            d.get F.TB_D_STAT_STATE k.val = 3 ∧ d.get F.TB_D_STAT_HCAUSE k.val = 2 ∧ d.get F.TB_D_STAT_PERSIST k.val = 1 ∧ (d.dom k.val).cand = w.toNat ∧
            d.get F.TB_D_ACPD k.val = s.dev.get F.TB_D_ACPD k.val ∧ has d.flt.status (fkey (304 + k.val) 0) = true)) ∧
        (st = 2 → x.accepted = false ∨ near (s.dev.get F.TB_D_ACPD k.val) = true →
          Gives (.pathDelayWrite rq k w) s ((e.set F.TB_D_ACPD w.toNat k.val).modDom k.val (fun y => { y with accepted := true }))) ∧
        (st = 3 → s.dev.get F.TB_D_STAT_HCAUSE k.val = 1 → Gives (.pathDelayWrite rq k w) s ((e.domState k.val 1 0).modDom k.val (fun y => { y with good := 0 }))) ∧
        (st = 3 → s.dev.get F.TB_D_STAT_HCAUSE k.val ≠ 1 → ∀ p, p = s.dev.get F.TB_D_STAT_PERSIST k.val →
          (near x.cand = false → Gives (.pathDelayWrite rq k w) s ((e.modDom k.val (fun y => { y with cand := w.toNat })).set F.TB_D_STAT_PERSIST 1 k.val)) ∧
          (near x.cand = true → p < 63 → Gives (.pathDelayWrite rq k w) s (e.set F.TB_D_STAT_PERSIST (p + 1) k.val)) ∧
          (near x.cand = true → 63 ≤ p → Gives (.pathDelayWrite rq k w) s ((e.set F.TB_D_STAT_PERSIST 64 k.val).confirm k.val))) ∧
        (st ≠ 2 → st ≠ 3 → st ≠ 4 → Gives (.pathDelayWrite rq k w) s e))) ∧
    (∀ (d : Dev), k.val < d.tb.doms.length → ((d.dom k.val).pend = none → d.confirm k.val = d) ∧
      ∀ (c : Int) (ok : Prop), (d.dom k.val).pend = some c →
        ok = (d.get F.TB_D_STAT_STATE (1 - k.val) = 2 ∧ (d.domT k.val + c * 2 ^ 32 - d.domT (1 - k.val)).natAbs ≤ d.get F.TB_CFG2_CONFIRM_TOL * 2 ^ 32) →
        (ok → d.get F.TB_D_STAT_STATE k.val = 3 → (d.confirm k.val).domT k.val = d.domT k.val + c * 2 ^ 32 ∧ ((d.confirm k.val).dom k.val).pend = none ∧
          (d.confirm k.val).get F.TB_D_STAT_STATE k.val = 2 ∧ (d.confirm k.val).get F.TB_D_STAT_PENDING k.val = 0 ∧ (d.confirm k.val).get F.TB_D_STAT_PERSIST k.val = 0 ∧
          (d.confirm k.val).get F.TB_D_ACPD k.val = (d.dom k.val).cand % 2 ^ 32) ∧
        (¬ ok → d.get F.TB_D_STAT_STATE k.val = 3 → (d.confirm k.val).domT k.val = d.domT k.val ∧ ((d.confirm k.val).dom k.val).pend = some c ∧
          (d.confirm k.val).get F.TB_D_STAT_STATE k.val = 3 ∧ (d.confirm k.val).get F.TB_D_STAT_HCAUSE k.val = 3 ∧ (d.confirm k.val).get F.TB_D_STAT_PERSIST k.val = 0 ∧
          has (d.confirm k.val).flt.status (fkey (306 + k.val) 0) = true)) ∧
    ((st = 1 ∨ st = 2) → x.pdAt + s.dev.get F.TB_D_CFG_TIMEOUT k.val * 100000000 ≤ s.dev.raw →
      Completes (.domainTimeout k) s (fun d => d = (s.dev.domState k.val 3 1).report 308 ∧ d.get F.TB_D_STAT_STATE k.val = 3 ∧ d.get F.TB_D_STAT_HCAUSE k.val = 1 ∧ has d.flt.status (fkey 308 0) = true)) ∧
    ((st ≠ 1 ∧ st ≠ 2) ∨ s.dev.raw < x.pdAt + s.dev.get F.TB_D_CFG_TIMEOUT k.val * 100000000 → Gives (.domainTimeout k) s s.dev) ∧
    (∀ rq : Requester, s.Ready rq 2 →
      GivesAudited (.domainForce rq k) s rq (0xD0120 + 0x40 * k.val) (((if s.dev.anyArmed then s.dev else s.dev.modDom k.val (fun y => { y with force := true })).set
        F.TB_CMD_DONE 1).set F.TB_CMD_CODE (if s.dev.anyArmed then 1 else 0) |>.touch rq) ∧
      (st ≠ 3 ∨ s.dev.get F.TB_D_STAT_HCAUSE k.val < 2 → GivesAudited (.domainAck rq k) s rq (0xD0120 + 0x40 * k.val) (s.dev.touch rq)) ∧
      (st = 3 → 2 ≤ s.dev.get F.TB_D_STAT_HCAUSE k.val → CompletesAudited (.domainAck rq k) s rq (0xD0120 + 0x40 * k.val) (fun d =>
        d.get F.TB_D_STAT_STATE k.val = 2 ∧ d.get F.TB_D_ACPD k.val = s.dev.get F.TB_D_PD k.val % 2 ^ 32 ∧ (d.dom k.val).accepted = true ∧
        d.get F.TB_D_STAT_PERSIST k.val = 0 ∧ (d.dom k.val).pend = none ∧ (d.dom k.val).force = false ∧ d.domT k.val = s.dev.domT k.val + x.pend.getD 0 * 2 ^ 32)) ∧
      ∀ (w : Word) (en master : Bool), en = w.toNat.testBit 31 → master = (w.toNat.testBit 30 && decide (s.dev.get F.TB_D_STAT_STATE (1 - k.val) ≠ 4)) →
        CompletesAudited (.domainEnable rq k w) s rq (0xD0100 + 0x40 * k.val) (fun d =>
          d = ((s.dev.storeWord rq (0xD0100 + 0x40 * k.val) w.toNat).domCfg k.val en (w.toNat.testBit 30)).touch rq ∧
          d.get F.TB_D_CFG_EN k.val = (if en then 1 else 0) ∧ d.get F.TB_D_CFG_MASTER k.val = (if master then 1 else 0) ∧
          d.get F.TB_D_CFG_NUMBER k.val = w.toNat / 256 % 256 ∧ d.get F.TB_D_CFG_TIMEOUT k.val = Nat.max 1 (w.toNat % 256) ∧
          d.get F.TB_D_STAT_STATE k.val = (if en = false then 0 else if master then 4 else if st = 0 ∨ st = 4 then 1 else st) ∧
          (en = true → master = false → st = 0 ∨ st = 4 → (d.dom k.val).first = true) ∧
          (en = true → master = false → d.domT k.val = s.dev.domT k.val)))

/-- R387, R388, R391 to R394, R396 and R397: CFG disarms a compare; the upper word of VAL arms it, LATE decides for a value that has passed; a hit acts once and re-arms by PERIOD, LATE deciding again for a value passed; a whole second
and the end of a pulse move TB_PPS_OUT; an edge of TB_PPS_IN is stamped, counted and flagged. A received frame shows the link; a bad one is counted, one for another address dropped, one without a descriptor dropped and counted, one with a descriptor
delivered and written back with its length, domain and times. A frame is sent with its FCS, edited on a one-step port, and one longer than MTU or of no bytes is not; its descriptor is written back. A lost link is reported; CLEAR empties the counts. Where it rests on a choice of the model: log entries 106, 107 and 108. -/
def Obligations.PulsesAndFrames : Prop :=
  (∀ (u : Fin 8) (s : State) (p : Nat), p = s.dev.get F.TCMP_PERIOD u.val →
    (∀ rq : Requester, s.Ready rq 0 → ∀ w : Word,
      Gives (.tcmpConfigure rq u w) s (((((s.dev.set F.TCMP_CFG_LATE (w.toNat / 2 ^ 20 % 2) u.val).set F.TCMP_CFG_PPS (w.toNat / 2 % 2) u.val).set F.TCMP_CFG_IRQ (w.toNat % 2) u.val).set
        F.TCMP_STAT_ARMED 0 u.val).set F.TCMP_STAT_HITS 0 u.val) ∧
      ∀ (v : Nat) (late : Int), v = w.toNat * 2 ^ 32 + s.dev.get F.TCMP_VAL u.val % 2 ^ 32 → late = signed 64 (unsigned 64 ((s.dev.T : Int) - v)) →
        (late < 0 → Gives (.tcmpArm rq u w) s ((s.dev.set F.TCMP_VAL v u.val).set F.TCMP_STAT_ARMED 1 u.val)) ∧
        (0 ≤ late → s.dev.get F.TCMP_CFG_LATE u.val = 0 →
          Gives (.tcmpArm rq u w) s (((s.dev.set F.TCMP_VAL v u.val).set F.TCMP_STAT_MISSED 1 u.val).set F.TCMP_STAT_ARMED 0 u.val)) ∧
        (0 ≤ late → s.dev.get F.TCMP_CFG_LATE u.val ≠ 0 → Completes (.tcmpArm rq u w) s (fun d => d.get F.TCMP_STAT_MISSED u.val = 1 ∧ d.get F.TCMP_TIME u.val = s.dev.T ∧
          d.get F.TCMP_STAT_HITS u.val = s.dev.get F.TCMP_STAT_HITS u.val ∧ (s.dev.get F.TCMP_CFG_IRQ u.val ≠ 0 → (d.get F.TB_IRQ_STAT).testBit 2 = true) ∧
          (s.dev.get F.TCMP_CFG_PPS u.val ≠ 0 → s.dev.get F.TB_PPS_MODE = 2 → d.pins.ppsOut = true ∧ d.tb.ppsEnd = some (s.dev.raw + s.dev.get F.TB_PPS_WIDTH_US * 1000)) ∧
          (p = 0 → d.get F.TCMP_STAT_ARMED u.val = 0 ∧ d.get F.TCMP_VAL u.val = v) ∧
          (p ≠ 0 → d.get F.TCMP_STAT_ARMED u.val = 1 ∧ d.get F.TCMP_VAL u.val = (v + p * (late.toNat / p + 1)) % 2 ^ 64)))) ∧
    (∀ (late next : Int) (v : Nat), late = signed 64 (unsigned 64 ((s.dev.T : Int) - s.dev.get F.TCMP_VAL u.val)) → v = (s.dev.get F.TCMP_VAL u.val + p) % 2 ^ 64 →
      next = signed 64 (unsigned 64 ((s.dev.T : Int) - v)) →
      (late < 0 ∨ s.dev.get F.TCMP_STAT_ARMED u.val = 0 → Gives (.tcmpHit u) s s.dev) ∧
      (0 ≤ late → s.dev.get F.TCMP_STAT_ARMED u.val ≠ 0 → Completes (.tcmpHit u) s (fun d => d.get F.TCMP_TIME u.val = s.dev.T ∧
        d.get F.TCMP_STAT_HITS u.val = Nat.min F.TCMP_STAT_HITS.max (s.dev.get F.TCMP_STAT_HITS u.val + 1) ∧
        (s.dev.get F.TCMP_CFG_IRQ u.val ≠ 0 → (d.get F.TB_IRQ_STAT).testBit 2 = true) ∧
        (s.dev.get F.TCMP_CFG_PPS u.val ≠ 0 → s.dev.get F.TB_PPS_MODE = 2 → d.pins.ppsOut = true ∧ d.tb.ppsEnd = some (s.dev.raw + s.dev.get F.TB_PPS_WIDTH_US * 1000)) ∧
        (p = 0 → d.get F.TCMP_STAT_ARMED u.val = 0) ∧
        (p ≠ 0 → next < 0 → d.get F.TCMP_STAT_ARMED u.val = 1 ∧ d.get F.TCMP_VAL u.val = v ∧ d.get F.TCMP_STAT_MISSED u.val = s.dev.get F.TCMP_STAT_MISSED u.val) ∧
        (p ≠ 0 → 0 ≤ next → d.get F.TCMP_STAT_MISSED u.val = 1 ∧
          (s.dev.get F.TCMP_CFG_LATE u.val = 0 → d.get F.TCMP_STAT_ARMED u.val = 0 ∧ d.get F.TCMP_VAL u.val = v) ∧
          (s.dev.get F.TCMP_CFG_LATE u.val ≠ 0 → d.get F.TCMP_STAT_ARMED u.val = 1 ∧ d.get F.TCMP_VAL u.val = (v + p * (next.toNat / p + 1)) % 2 ^ 64)))))) ∧
  (∀ (s : State) (sec : Int), sec = s.dev.T / 1000000000 →
    (sec ≤ s.dev.tb.lastSec → Gives .ppsSecond s s.dev) ∧
    (s.dev.tb.lastSec < sec → ∀ e : Dev, e = { s.dev with tb := { s.dev.tb with lastSec := sec } } →
      (s.dev.get F.TB_PPS_MODE ≠ 1 → Gives .ppsSecond s e) ∧
      (s.dev.get F.TB_PPS_MODE = 1 → Completes .ppsSecond s (fun d => d = e.ppsPulse ∧ d.pins.ppsOut = true ∧ d.tb.ppsEnd = some (s.dev.raw + s.dev.get F.TB_PPS_WIDTH_US * 1000) ∧
        (s.dev.pins.ppsOut = false → Output.pps true ∈ d.outbox)))) ∧
    (∀ t, s.dev.tb.ppsEnd = some t → (t ≤ s.dev.raw → Completes .ppsPulseEnd s (fun d => d = s.dev.ppsLow ∧ d.pins.ppsOut = false ∧ d.tb.ppsEnd = none ∧
        (s.dev.pins.ppsOut = true → Output.pps false ∈ d.outbox))) ∧
      (s.dev.raw < t → Gives .ppsPulseEnd s s.dev)) ∧
    (s.dev.tb.ppsEnd = none → Gives .ppsPulseEnd s s.dev) ∧
    (s.dev.pwr.st = .on → Completes .ppsInEdge s (fun d => d.get F.TB_PPS_IN_TIME = s.dev.T ∧ d.get F.TB_PPS_IN_CNT = (s.dev.get F.TB_PPS_IN_CNT + 1) % 2 ^ 32 ∧
      (d.get F.TB_IRQ_STAT).testBit 3 = true ∧ d.tb = s.dev.tb)) ∧ (s.dev.pwr.st ≠ .on → Gives .ppsInEdge s s.dev)) ∧
  (∀ (p : Fin 2) (s : State),
    (s.dev.ethOn p.val = false → (∀ f e, Gives (.ethFrameReceive p f e) s s.dev) ∧ (∀ r e f, Gives (.ethFrameTransmit p r e f) s s.dev) ∧ Gives (.ethLinkLoss p) s s.dev) ∧
    (s.dev.ethOn p.val = true →
      Completes (.ethLinkLoss p) s (fun d => d = ((s.dev.set F.ETH_P_STAT_LINK 0 p.val).set F.ETH_P_STAT_PCS_LOCK 0 p.val).report (310 + p.val) ∧
        d.get F.ETH_P_STAT_LINK p.val = 0 ∧ has d.flt.status (fkey (310 + p.val) 0) = true) ∧
      (∀ (frame : List Byte) (desc : List Word) (b f : List Nat) (e : Dev) (bad : Prop), f = frame.map (fun (x : Byte) => x.toNat) → b = f.take (f.length - 4) →
        e = (s.dev.set F.ETH_P_STAT_LINK 1 p.val).set F.ETH_P_STAT_PCS_LOCK 1 p.val →
        bad = (f.length < 64 ∨ s.dev.get F.ETH_P_CFG_MTU p.val + 4 < f.length ∨ crc32 b ≠ ofBytesLE (f.drop (f.length - 4))) →
        (bad → Gives (.ethFrameReceive p frame desc) s (e.set F.ETH_P_CNT_RX_BAD (Nat.min 65535 (s.dev.get F.ETH_P_CNT_RX_BAD p.val + 1)) p.val)) ∧
        (¬ bad → s.dev.ethAccepts p.val f = false → Gives (.ethFrameReceive p frame desc) s e) ∧
        (¬ bad → s.dev.ethAccepts p.val f = true → ∀ (o : Option Nat) (r : Nat), o = ptpOffset b → r = (if o.isSome then 3 else 2) →
          (s.dev.ethDesc p.val r = none → Gives (.ethFrameReceive p frame desc) s (e.set F.ETH_P_CNT_RX_DROP (Nat.min 32767 (s.dev.get F.ETH_P_CNT_RX_DROP p.val + 1)) p.val)) ∧
          (∀ (a room : Nat) (w : Nat → Nat) (dom : Option Nat), s.dev.ethDesc p.val r = some a → (∀ i, w i = (desc.getD i 0).toNat) → room = w 2 % 2 ^ 14 →
            dom = o.bind (fun x => s.dev.domainOf (b.getD (x + 4) 0)) →
            Completes (.ethFrameReceive p frame desc) s (fun d => Output.ring 3 p.val (w 1 * 2 ^ 32 + w 0) (b.take room) ∈ d.outbox ∧
              Output.ring 4 p.val a [w 0, w 1, 2 ^ 31 + (if room < b.length then 2 ^ 28 else 0) + Nat.min room b.length,
                (match dom with | some k => k * 2 ^ 31 + 2 ^ 30 | none => 0), s.dev.T % 2 ^ 32, s.dev.T / 2 ^ 32,
                s.dev.timeIn dom % 2 ^ 32, s.dev.timeIn dom / 2 ^ 32 % 2 ^ 32] ∈ d.outbox ∧
              d.get F.ETH_P_R_HEAD p.val r = (s.dev.get F.ETH_P_R_HEAD p.val r + 1) % Nat.max 1 (s.dev.ethRing p.val r).n % 2 ^ 13)))) ∧
      (∀ (r : Fin 2) (desc : List Word) (frame : List Byte), (r.val = 0 ∧ s.dev.ethDesc p.val 1 ≠ none) ∨ s.dev.ethDesc p.val r.val = none → Gives (.ethFrameTransmit p r desc frame) s s.dev) ∧
      (∀ (r : Fin 2) (desc : List Word) (frame : List Byte) (a len kind : Nat) (w : Nat → Nat) (b : List Nat) (edit v6 : Bool), r.val = 1 ∨ s.dev.ethDesc p.val 1 = none →
        s.dev.ethDesc p.val r.val = some a → (∀ i, w i = (desc.getD i 0).toNat) → len = w 2 % 2 ^ 14 → kind = w 3 / 2 ^ 16 % 4 → b = ((frame.map (fun (x : Byte) => x.toNat)) ++ List.replicate len 0).take len →
        edit = (decide (s.dev.get F.ETH_P_CFG_ONE_STEP p.val ≠ 0) && (w 2).testBit 18 && (kind == 1 || kind == 2)) → v6 = decide (be16 b (typeAt b) = 0x86DD) →
        Completes (.ethFrameTransmit p r desc frame) s (fun d =>
          d.get F.ETH_P_R_HEAD p.val r.val = (s.dev.get F.ETH_P_R_HEAD p.val r.val + 1) % Nat.max 1 (s.dev.ethRing p.val r.val).n % 2 ^ 13 ∧
          (len = 0 ∨ s.dev.get F.ETH_P_CFG_MTU p.val < len → ∀ f, Output.eth p.val f ∈ d.outbox → Output.eth p.val f ∈ s.dev.outbox) ∧
          (0 < len → len ≤ s.dev.get F.ETH_P_CFG_MTU p.val → ∀ out dep, dep = s.dev.timeIn (if ((w 2).testBit 17 || edit) && (ptpOffset b).isSome then some (w 3 / 2 ^ 31 % 2) else none) →
            out = (if edit && !v6 then oneStep b (w 3 % 2 ^ 16) kind dep (w 5 * 2 ^ 32 + w 4) else b) →
            Output.eth p.val (out ++ bytesLE 4 (crc32 out)) ∈ d.outbox ∧
            ((w 2).testBit 17 || (edit && v6) → ∃ ws, Output.ring 4 p.val a ws ∈ d.outbox ∧ ws.getD 6 0 = dep % 2 ^ 32 ∧ ws.getD 7 0 = dep / 2 ^ 32 % 2 ^ 32)) ∧
          ∃ ws, Output.ring 4 p.val a ws ∈ d.outbox ∧ ws.getD 2 0 = 2 ^ 31 + (if s.dev.get F.ETH_P_CFG_MTU p.val < len then 1 else if edit && v6 then 2 else 0) * 2 ^ 28 + w 2 % 2 ^ 28))) ∧
    (∀ rq : Requester, s.Ready rq 0 → Gives (.ethCountClear rq p) s ((s.dev.set F.ETH_P_CNT_RX_DROP 0 p.val).set F.ETH_P_CNT_RX_BAD 0 p.val)))

/-! ### Fault collection (file 15) -/

/-- R21, R398, R399, R401, R402, R405, R406, R409, R411 and R414: a report of a source sets its status and is logged with its class, the time and the number; NOTE does nothing more; DEGRADE fences the source's units and
opens the shadow window of their list; STOP starts the stop sequence; SAFE joins the SAFE reactions, which close the gate, hold the press and fault FLT_OUT. An event inside a window of its source is consequential: it is logged and no reaction starts. A source whose status stands does
nothing more; equal wires report the source and its bank's WIRE_PAIR, for the sources that have wires; a clock source reports while it is monitored. The end of a report leaves the latched status and every reaction, and the pair reads healthy again unless a wire test still drives it; WIRE_PAIR ends with its
bank's last equal pair; the end of the report of PCIE_LINK (89) with PERST# asserted on a booted part lets the link come up. Where it rests on a choice of the model: log entry 109. -/
def Obligations.FaultsAreReported : Prop :=
  ∀ (src : Source) (inst : Byte) (s : State) (i k : Nat), i = (if 156 ≤ src.val ∧ src.val ≤ 185 then inst.toNat else 0) → k = fkey src.val i →
    (s.dev.pwr.st ≠ .on → (∀ eq, Gives (.faultEvent src inst eq) s s.dev) ∧ Gives (.clockLoss src) s s.dev) ∧
    (src.val < 23 ∨ 55 < src.val → Gives (.clockLoss src) s s.dev) ∧
    (40 ≤ src.val → (s.dev.get F.CAM_P_STAT_LOCK ((src.val - 40) / 4)).testBit ((src.val - 40) % 4) = false → Gives (.clockLoss src) s s.dev) ∧
    (s.dev.pwr.st = .on →
      Completes (.faultEvent src inst false) s (fun d => d = s.dev.report src.val i ∧ s.dev.Reported d src.val i ∧ has d.flt.det k = true) ∧
      (src.val < 12 → Gives (.faultEvent src inst true) s (s.dev.report src.val i)) ∧
      (12 ≤ src.val → Completes (.faultEvent src inst true) s (fun d => d = s.dev.pairEqual k ∧ s.dev.Reported d src.val i ∧ s.dev.Reported d (src.val / 32) ∧ has d.flt.eq k = true)) ∧
      (23 ≤ src.val → src.val ≤ 55 → src.val < 40 ∨ (s.dev.get F.CAM_P_STAT_LOCK ((src.val - 40) / 4)).testBit ((src.val - 40) % 4) = true →
        Completes (.clockLoss src) s (fun d => d = s.dev.report src.val ∧ s.dev.Reported d src.val)) ∧
      (s.dev.flt.due = [] → has s.dev.flt.status k = true →
        Gives (.faultEvent src inst false) s { s.dev with flt := { s.dev.flt with det := insertOnce s.dev.flt.det k } }) ∧
      (s.dev.flt.due = [] → has s.dev.flt.status k = false → ∀ (cls : Nat) (us : List FUnit), cls = s.dev.classOf src.val → us = s.dev.unitsOf src.val i →
        Completes (.faultEvent src inst false) s (fun d => (d.get F.FLT_IRQ_STAT).testBit 0 = true ∧
          (∃ e ∈ d.flt.log, e.source = src.val ∧ e.cls = cls ∧ e.seq = s.dev.flt.seq ∧ e.conseq = s.dev.consequential src.val ∧ e.time = s.dev.T) ∧
          (s.dev.consequential src.val = true ∨ cls = 0 → d.flt.stops = s.dev.flt.stops ∧ d.flt.safes = s.dev.flt.safes ∧ d.flt.fences = s.dev.flt.fences ∧
            d.flt.shadows = s.dev.flt.shadows ∧ d.fire = s.dev.fire) ∧
          (s.dev.consequential src.val = false → cls = 1 → (∀ u ∈ us, d.fenced u = true) ∧ (us ≠ [] → (d.get F.FLT_IRQ_STAT).testBit 1 = true ∧
            (s.dev.get F.FLT_CFG_SHADOW_US ≠ 0 → (⟨s.dev.listOf src.val i, s.dev.raw, s.dev.raw + s.dev.get F.FLT_CFG_SHADOW_US * 1000⟩ : Shadow) ∈ d.flt.shadows))) ∧
          (s.dev.consequential src.val = false → cls = 2 → has d.flt.stops k = true ∧ d.fire.stop.st ≠ .run ∧ d.fire.stop.fault = true ∧ (d.get F.FLT_IRQ_STAT).testBit 2 = true) ∧
          (cls = 3 → has d.flt.safes k = true ∧ d.gateOpen = false ∧ d.drvHold = true ∧ d.fltOut = (false, true) ∧ (d.get F.FLT_IRQ_STAT).testBit 3 = true)))) ∧
    (∀ testing : Prop, testing = (∃ t, s.dev.flt.wireAt = some (src.val, t) ∧ s.dev.raw < t) →
      Completes (.sourceLiveEnd src inst) s (fun d => has d.flt.det k = false ∧ d.flt.status = s.dev.flt.status ∧ d.flt.force = s.dev.flt.force ∧ d.flt.stops = s.dev.flt.stops ∧
        d.flt.safes = s.dev.flt.safes ∧ d.flt.fences = s.dev.flt.fences ∧ (testing → d.flt.eq = s.dev.flt.eq) ∧ (¬ testing → has d.flt.eq k = false ∧
          (has s.dev.flt.eq k = true → (∀ x ∈ s.dev.flt.eq, x = k ∨ x / 256 / 32 ≠ src.val / 32) → has d.flt.det (fkey (src.val / 32) 0) = false)) ∧
        (src.val ≠ 89 ∨ s.dev.pwr.st ≠ .on ∨ s.dev.pwr.booted = false ∨ s.dev.pins.perst = false → d.pwr = s.dev.pwr) ∧
        (src.val = 89 → s.dev.pwr.st = .on → s.dev.pwr.booted = true → s.dev.pins.perst = true → d.pwr.link = true)))

/-- R400, R401, R403, R408, R411 to R413 and R415 to R419: writing 1 clears the status bits that are not live, through either view; force bits are taken, a forced source reports, and one let go keeps its status; GO drives the wires of the source named equal, for a source that has wires; ACK_STOP and ACK_SAFE are accepted
once the statuses of their reactions, and for SAFE the FLT_IN pair, are clear, and are REFUSED otherwise; POP drops the oldest log entry; windows end; a judged level of FLT_IN shows in IN and reports, with and without a heartbeat; a lost heartbeat is live and the heartbeat sent exchanges the levels of FLT_OUT. Where it rests on a choice of the model: log entry 109. -/
def Obligations.FaultsAreHandled : Prop :=
  (∀ (rq : Requester) (w : Word) (addr : Nat) (l : List (List Nat)) (s : State), s.Ready rq 0 →
    (inPages addr = false → Gives (.faultStatusClear rq addr w) s s.dev.badAcc ∧ (bitKeys addr 0x20 0x100 = none → Gives (.faultForce rq addr w) s s.dev.badAcc)) ∧
    (inPages addr = true →
      (bitKeys addr 0x18 0x80 = some l →
        Completes (.faultStatusClear rq addr w) s (fun d => (∀ k, has d.flt.status k = (has s.dev.flt.status k &&
          (s.dev.flt.live k || !(List.range l.length).any (fun i => w.toNat.testBit i && has (l.getD i []) k)))) ∧
          d.flt.det = s.dev.flt.det ∧ d.flt.force = s.dev.flt.force ∧ d.flt.eq = s.dev.flt.eq ∧ d.flt.stops = s.dev.flt.stops ∧ d.flt.safes = s.dev.flt.safes)) ∧
      (bitKeys addr 0x18 0x80 = none → Gives (.faultStatusClear rq addr w) s s.dev) ∧
      (bitKeys addr 0x20 0x100 = none → Gives (.faultForce rq addr w) s s.dev) ∧
      (bitKeys addr 0x20 0x100 = some l → 2 ≤ s.dev.rights rq →
        GivesAudited (.faultForce rq addr w) s rq addr ((s.dev.forceWord l w.toNat).touch rq) ∧
        CompletesAudited (.faultForce rq addr w) s rq addr (fun d => ∀ i < l.length, ∀ k ∈ l.getD i [], (∀ j < l.length, k ∈ l.getD j [] → j = i) →
          has d.flt.force k = w.toNat.testBit i ∧ (w.toNat.testBit i = true → has s.dev.flt.force k = false → has d.flt.status k = true) ∧
          (has s.dev.flt.status k = true → has d.flt.status k = true))))) ∧
  (∀ (rq : Requester) (s : State), s.Ready rq 0 →
    Completes (.clearAll rq) s (fun d => d.get F.FLT_CMD_DONE = 1 ∧ d.get F.FLT_CMD_CODE = 0 ∧ (∀ k, has d.flt.status k = (has s.dev.flt.status k && s.dev.flt.live k)) ∧
      d.flt.stops = s.dev.flt.stops ∧ d.flt.safes = s.dev.flt.safes) ∧
    Gives (.pop rq) s { s.dev with flt := { s.dev.flt with log := s.dev.flt.log.drop 1 } }) ∧
  (∀ (rq : Requester) (w : Word) (src : Nat) (s : State), s.Ready rq 2 → src = Nat.min 311 (w.toNat % 512) →
    (w.toNat.testBit 31 = false ∨ src < 12 → CompletesAudited (.wireTest rq w) s rq 0x304C (fun d => d.get F.FLT_WIRE_TEST_SRC = src ∧ d.flt = s.dev.flt)) ∧
    (w.toNat.testBit 31 = true → 12 ≤ src → CompletesAudited (.wireTest rq w) s rq 0x304C (fun d => d.get F.FLT_WIRE_TEST_SRC = src ∧
      d.flt.wireAt = some (src, s.dev.raw + 1000) ∧ has d.flt.status (fkey (src / 32) 0) = true ∧
      ∀ k ∈ sourceKeys src, has d.flt.eq k = true ∧ has d.flt.status k = true))) ∧
  (∀ (rq : Requester) (s : State), s.Ready rq 1 →
    ((∃ k ∈ s.dev.flt.stops, has s.dev.flt.status k = true) → Gives (.ackStop rq) s ((s.dev.set F.FLT_CMD_DONE 1).set F.FLT_CMD_CODE 1)) ∧
    ((∀ k ∈ s.dev.flt.stops, has s.dev.flt.status k = false) → Gives (.ackStop rq) s
      ((({ s.dev with flt := { s.dev.flt with stops := [] }, fire := { s.dev.fire with stop := { s.dev.fire.stop with acked := true } } } : Dev).set F.FLT_CMD_DONE 1).set F.FLT_CMD_CODE 0))) ∧
  (∀ (rq : Requester) (s : State) (blocked : Prop), s.Ready rq 2 →
    blocked = ((∃ k ∈ s.dev.flt.safes, has s.dev.flt.status k = true) ∨ ∃ k ∈ [fkey 10 0, fkey 11 0], s.dev.flt.live k = true ∨ has s.dev.flt.status k = true) →
    (blocked → GivesAudited (.ackSafe rq) s rq 0x3048 (((s.dev.set F.FLT_CMD_DONE 1).set F.FLT_CMD_CODE 1).touch rq)) ∧
    (¬ blocked → CompletesAudited (.ackSafe rq) s rq 0x3048 (fun d => d.flt = { s.dev.flt with safes := [] } ∧ d.get F.FLT_CMD_DONE = 1 ∧ d.get F.FLT_CMD_CODE = 0 ∧
      (s.dev.flt.released = true → d.outFault = false) ∧ (s.dev.fltOut ≠ d.fltOut → Output.fltOut d.fltOut.1 d.fltOut.2 ∈ d.outbox)))) ∧
  (∀ s : State,
    Gives .shadowWindowEnd s { s.dev with flt := { s.dev.flt with shadows := s.dev.flt.shadows.filter (fun x => s.dev.raw < x.ends) } } ∧
    (s.dev.pwr.st ≠ .on → (∀ p n, Gives (.fltInInput p n) s s.dev) ∧ Gives .fltInHeartbeatLoss s s.dev ∧ Gives .fltOutHeartbeat s s.dev) ∧
    (s.dev.pwr.st = .on →
      (∀ p, Completes (.fltInInput p p) s (fun d => d.get F.FLT_STATE_IN = 2 ∧ has d.flt.status (fkey 11 0) = true ∧ d.pins = { s.dev.pins with fltInP := p, fltInN := p })) ∧
      (s.dev.get F.FLT_CFG_IN_HB = 0 →
        Completes (.fltInInput true false) s (fun d => d.get F.FLT_STATE_IN = 0 ∧ has d.flt.det (fkey 10 0) = false ∧ has d.flt.det (fkey 11 0) = false) ∧
        Completes (.fltInInput false true) s (fun d => d.get F.FLT_STATE_IN = 1 ∧ has d.flt.status (fkey 10 0) = true ∧ (s.dev.flt.due = [] → has d.flt.det (fkey 11 0) = false)) ∧
        Gives .fltInHeartbeatLoss s s.dev) ∧
      (s.dev.get F.FLT_CFG_IN_HB ≠ 0 →
        (∀ p, s.dev.pins.fltInP = !p → s.dev.pins.fltInN = p → Completes (.fltInInput p (!p)) s (fun d => d.get F.FLT_STATE_IN = 0 ∧ d.flt.inAt = s.dev.raw ∧
          has d.flt.det (fkey 10 0) = false ∧ has d.flt.det (fkey 11 0) = false)) ∧
        (∀ p, s.dev.pins.fltInP = p ∨ s.dev.pins.fltInN = !p → Completes (.fltInInput p (!p)) s (fun d => d.get F.FLT_STATE_IN = (if s.dev.flt.live (fkey 10 0) then 3 else 0) ∧
          d.flt.inAt = s.dev.flt.inAt ∧ has d.flt.det (fkey 11 0) = false ∧ d.flt.status = s.dev.flt.status)) ∧
        (s.dev.flt.inAt + 1200000 ≤ s.dev.raw → Completes .fltInHeartbeatLoss s (fun d => d = (s.dev.set F.FLT_STATE_IN 3).report 10 ∧ d.get F.FLT_STATE_IN = 3 ∧ has d.flt.status (fkey 10 0) = true)) ∧
        (s.dev.raw < s.dev.flt.inAt + 1200000 → Gives .fltInHeartbeatLoss s s.dev)) ∧
      (s.dev.outFault = false → s.dev.get F.FLT_CFG_HB_EN ≠ 0 →
        Completes .fltOutHeartbeat s (fun d => d.flt = { s.dev.flt with outP := !s.dev.flt.outP } ∧ Output.fltOut (!s.dev.flt.outP) s.dev.flt.outP ∈ d.outbox)) ∧
      (s.dev.outFault = true ∨ s.dev.get F.FLT_CFG_HB_EN = 0 → Gives .fltOutHeartbeat s s.dev)))

/-! ### Temperature (file 16) -/

/-- R421 to R430: a conversion gives its sensor's temperature; an impossible reading, or none for 200 µs, fails the sensor, and the fourth good one in a row clears that; the second in a row at WARN, THROTTLE or SHUTDOWN sets the condition and reports it, shutdown closing the gate, suspending MRAM writes and fixing
the event; the second with T_max below the threshold less its hysteresis ends WARN, with the speed request, and THROTTLE; deferrable work pauses after DUTY_PCT of a frame while the throttle holds; a long throttle requests a slower web; 200 µs after a shutdown the outputs fall with the event recorded; ACK is accepted
once the part is cool: the latch falls and the record is acknowledged; else it is REFUSED. How a temperature above 127 °C shows is a free value. Where it rests on a choice of the model: log entries 110, 111 and 142. -/
def Obligations.TemperaturesAreWatched : Prop :=
  (∀ (n : Sensor) (raw : BitVec 16) (s : State) (x : ThmSensor) (t : Int), x = s.dev.sensor n.val → t = raw.toInt * 32 + signed 16 (s.dev.get F.THM_OFS n.val) →
    n.val < s.dev.thm.sensors.length →
    (s.dev.pwr.st ≠ .on → Gives (.sensorConversion n raw) s s.dev ∧ Gives (.sensorConversionTimeout n) s s.dev) ∧
    (s.dev.pwr.st = .on →
      Completes (.sensorConversion n raw) s (fun d => d = s.dev.convert n.val raw.toInt ∧ (d.sensor n.val).temp = t ∧ (d.sensor n.val).last = s.dev.raw ∧
        d.get F.THM_SENS_TEMP n.val = (if t < 32768 then unsigned 16 t else (Config.hotTemp t.toNat).toNat)) ∧
      (t < -14080 ∨ 38400 < t → Completes (.sensorConversion n raw) s (fun d => d.get F.THM_SENS_FAILED n.val = 1 ∧ (d.sensor n.val).goods = 0 ∧ has d.flt.status (fkey (62 + n.val) 0) = true)) ∧
      (-14080 ≤ t → t ≤ 38400 →
        (s.dev.get F.THM_SENS_FAILED n.val ≠ 0 → Completes (.sensorConversion n raw) s (fun d =>
          (x.goods ≠ 3 → d.get F.THM_SENS_FAILED n.val ≠ 0 ∧ (d.sensor n.val).goods = x.goods + 1) ∧
          (x.goods = 3 → d.get F.THM_SENS_FAILED n.val = 0 ∧ (d.sensor n.val).goods = 0 ∧ has d.flt.det (fkey (62 + n.val) 0) = false))) ∧
        (s.dev.get F.THM_SENS_FAILED n.val = 0 → Completes (.sensorConversion n raw) s (fun d =>
          (s.dev.threshByte 4 0 * 256 ≤ t → 1 ≤ x.warn → d.get F.THM_STAT_WARN ≠ 0 ∧ (s.dev.get F.THM_STAT_WARN = 0 → has d.flt.status (fkey 59 0) = true)) ∧
          (s.dev.threshByte 5 0 * 256 ≤ t → 1 ≤ x.throt → d.get F.THM_STAT_THROTTLE ≠ 0 ∧ (s.dev.get F.THM_STAT_THROTTLE = 0 → has d.flt.status (fkey 60 0) = true)) ∧
          (s.dev.threshByte 6 0 * 256 ≤ t → 1 ≤ x.shut → d.get F.THM_STAT_SHUT_LATCH ≠ 0 ∧ (s.dev.get F.THM_STAT_SHUT_LATCH = 0 →
            d.get F.NVM_STAT_SUSPENDED = 1 ∧ d.gateOpen = false ∧ d.thm.shutAt = some s.dev.raw ∧ d.thm.event.length = 24 ∧ has d.flt.status (fkey 61 0) = true)) ∧
          (d.tMax.1 < (s.dev.threshByte 4 0 - s.dev.threshByte 7 0) * 256 → 1 ≤ s.dev.thm.warnLow → d.get F.THM_STAT_WARN = 0 ∧ (s.dev.get F.THM_STAT_WARN ≠ 0 → d.get F.THM_STAT_SLOW_REQ = 0)) ∧
          (d.tMax.1 < (s.dev.threshByte 5 0 - s.dev.threshByte 7 1) * 256 → 1 ≤ s.dev.thm.throtLow → d.get F.THM_STAT_THROTTLE = 0))))) ∧
    (s.dev.pwr.st = .on → x.last + 200000 ≤ s.dev.raw →
      Completes (.sensorConversionTimeout n) s (fun d => d = s.dev.sensorFail n.val ∧ d.get F.THM_SENS_FAILED n.val = 1 ∧ has d.flt.status (fkey (62 + n.val) 0) = true)) ∧
    (s.dev.raw < x.last + 200000 → Gives (.sensorConversionTimeout n) s s.dev)) ∧
  (∀ s : State,
    Gives .throttleFrame s { s.dev with thm := { s.dev.thm with paused := decide (s.dev.get F.THM_STAT_THROTTLE ≠ 0) && decide (s.dev.get F.THM_THR_CFG_DUTY_PCT * 10000 ≤ s.dev.raw % 1000000) } } ∧
    (∀ t, s.dev.thm.throtAt = some t →
      (t + s.dev.get F.THM_THR_CFG_SLOW_MS * 1000000 ≤ s.dev.raw → s.dev.get F.THM_STAT_SLOW_REQ = 0 →
        Completes .thermalSlowRequest s (fun d => d.get F.THM_STAT_SLOW_REQ = 1 ∧ d.drvSpeedLim = true ∧ (d.get F.THM_IRQ_STAT).testBit 3 = true ∧ d.thm = s.dev.thm)) ∧
      (s.dev.raw < t + s.dev.get F.THM_THR_CFG_SLOW_MS * 1000000 ∨ s.dev.get F.THM_STAT_SLOW_REQ ≠ 0 → Gives .thermalSlowRequest s s.dev)) ∧
    (s.dev.thm.throtAt = none → Gives .thermalSlowRequest s s.dev) ∧
    (s.dev.thm.shutAt = none → ∀ ok, exec (.thermalPowerOff ok) s = .next s) ∧
    (∀ t, s.dev.thm.shutAt = some t →
      (s.dev.raw < t + 200000 ∨ s.dev.pwr.st ≠ .on → ∀ ok, exec (.thermalPowerOff ok) s = .next s) ∧
      (t + 200000 ≤ s.dev.raw → s.dev.pwr.st = .on → ∀ ok, ∃ u, exec (.thermalPowerOff ok) s = .next u ∧ u.dev.pwr.st = .off ∧ u.dev.pwr.thermal = true ∧ u.dev.pwr.heldWake = none ∧
        u.pending = s.pending ∧ u.audit.queue = [] ∧ u.audit.ring = s.audit.ring ∧
        (ok = true → ∃ r ∈ u.dev.mram.thermal, r.words = s.dev.thm.event ∧ r.index = s.dev.get F.THM_EVT_STAT_NEXT) ∧
        (ok = false → u.dev.mram.thermal = s.dev.mram.thermal)))) ∧
  (∀ (rq : Requester) (s : State), s.Ready rq 2 →
    (s.dev.get F.THM_STAT_SHUT_LATCH = 0 ∨ s.dev.thm.ackLow ≠ 2 → GivesAudited (.thermalAck rq) s rq 0x4044 (((s.dev.set F.THM_CMD_DONE 1).set F.THM_CMD_CODE 1).touch rq)) ∧
    (s.dev.get F.THM_STAT_SHUT_LATCH ≠ 0 → s.dev.thm.ackLow = 2 → CompletesAudited (.thermalAck rq) s rq 0x4044 (fun d => d = (s.dev.touch rq).thermalAck rq ∧
      d.get F.THM_CMD_DONE = 1 ∧ d.get F.THM_CMD_CODE = 0 ∧ d.get F.THM_STAT_SHUT_LATCH = 0 ∧ d.get F.THM_EVT_STAT_PENDING = 0 ∧ has d.flt.det (fkey 61 0) = false ∧
      (s.dev.thm.shutAt = none → ∀ r, s.dev.newestThermal = some r → (⟨r.index, ackedWords r.words (s.dev.rights rq) rq⟩ : ThermalRec) ∈ d.mram.thermal) ∧
      (∀ t, s.dev.thm.shutAt = some t → d.thm.event = ackedWords s.dev.thm.event (s.dev.rights rq) rq ∧ d.thm.shutAt = some t)))) ∧
  (∀ (rq : Requester) (s : State), s.Ready rq 0 →
    Gives (.thermalPeakClear rq) s { s.dev.set F.THM_PEAK 0 with thm := { s.dev.thm with peaked := false } } ∧
    ∀ w : Word, Completes (.thermalEventSelect rq w) s (fun d => d = (s.dev.set F.THM_EVT_IDX (w.toNat % 8)).showThermal ∧ d.get F.THM_EVT_IDX = w.toNat % 8 ∧
      ∀ k < 24, d.get F.THM_EVT_DATA k = ((((s.dev.mram.thermal.find? (fun r => r.index = w.toNat % 8)).map (fun r => r.words)).getD []).getD k 0) % 2 ^ 32))

/-! ### Start-up, resets and power states (files 17 and 18) -/

/-- R431 to R433, R447 and R448: VBAT gives power-on reset and keeps MRAM and the audit ring; the outputs rise in turn, at least 1 ms apart; a rail that is not good in 10 ms drops them, the third failure for
good; a brown-out resets all but AON and restarts after 10 ms; each enabled wake source starts a part that stands in standby or off, once it has stood long enough, and is held until then. Where it rests on a choice of the model: log entries 33 and 34. -/
def Obligations.PowerRises : Prop :=
  (∀ s : State,
    exec .vbatApply s = .next { s with
      dev := { Dev.reset with free := s.dev.free, outbox := s.dev.outbox, mram := s.dev.mram, pins := s.dev.pins.afterReset }, audit := { s.audit with queue := [], stalled := [] } } ∧
    (s.dev.pwr.st ≠ .on → exec .brownout s = .next s) ∧
    (s.dev.pwr.st = .on → ∃ t, exec .brownout s = .next t ∧ t.pending = s.pending ∧ t.dev.pwr.st = .brownout ∧ t.dev.pwr.pwrEn = 0 ∧ t.dev.get F.SYS_AON_STAT_BROWNOUT = 1 ∧
      t.dev.get F.SYS_STAT_PHASE = 0 ∧ t.dev.jobs = [] ∧ t.dev.raw = 0 ∧ t.dev.aon = s.dev.aon ∧ t.dev.mram = s.dev.mram ∧ t.audit = { s.audit with queue := [], stalled := [] }) ∧
    (s.dev.pwr.st = .brownout → s.dev.pwr.since + 10000000 ≤ s.dev.aon →
      Gives .brownoutRestart s { s.dev.set F.SYS_AON_STAT_WOKE_BY 0 with pwr := { s.dev.pwr with st := .rising 0, since := s.dev.aon, attempts := 0, wake := .powerOn } }) ∧
    (s.dev.pwr.st ≠ .brownout ∨ s.dev.aon < s.dev.pwr.since + 10000000 → Gives .brownoutRestart s s.dev) ∧
    (s.dev.pwr.pwrEn.testBit 1 = true → Gives .vbatLoss s (s.dev.set F.SYS_AON_STAT_VBAT_LOW 1)) ∧ (s.dev.pwr.pwrEn.testBit 1 = false → Gives .vbatLoss s s.dev)) ∧
  (∀ (s : State) (n : Nat), s.dev.pwr.st = .rising n →
    (n = 0 → Completes .powerSequence s (fun d => d.pwr.st = .rising 1 ∧ d.pwr.pwrEn = 1 ∧ d.pwr.since = s.dev.aon) ∧ Gives .railTimeout s s.dev) ∧
    (0 < n → n < 4 → s.dev.pwr.since + 1000000 ≤ s.dev.aon → Completes .powerSequence s (fun d => d.pwr.st = .rising (n + 1) ∧ d.pwr.since = s.dev.aon ∧ d.pwr.pwrEn = 2 ^ (n + 1) - 1 ∧ d.regs = s.dev.regs)) ∧
    (0 < n → n < 4 → s.dev.aon < s.dev.pwr.since + 1000000 → Gives .powerSequence s s.dev) ∧
    (4 ≤ n → Gives .powerSequence s { s.dev with pwr := { s.dev.pwr with st := .on, since := s.dev.aon, attempts := 0 } }) ∧
    (0 < n → s.dev.pwr.since + 10000000 ≤ s.dev.aon → Completes .railTimeout s (fun d => d.pwr.st = (if 2 ≤ s.dev.pwr.attempts then .off else .retry) ∧ d.pwr.attempts = s.dev.pwr.attempts + 1 ∧ d.pwr.pwrEn = 0 ∧
      d.get F.SYS_AON_STAT_RAIL = (n - 1) % 4 ∧ d.get F.SYS_AON_STAT_RAIL_FAILS = Nat.min 255 (s.dev.get F.SYS_AON_STAT_RAIL_FAILS + 1))) ∧
    (s.dev.aon < s.dev.pwr.since + 10000000 → Gives .railTimeout s s.dev)) ∧
  (∀ s : State, ((∀ n, s.dev.pwr.st ≠ .rising n) → Gives .powerSequence s s.dev ∧ Gives .railTimeout s s.dev) ∧
    (s.dev.pwr.st = .retry → s.dev.pwr.since + 1000000000 ≤ s.dev.aon → Gives .railRetry s { s.dev with pwr := { s.dev.pwr with st := .rising 0, since := s.dev.aon } }) ∧
    (s.dev.pwr.st ≠ .retry ∨ s.dev.aon < s.dev.pwr.since + 1000000000 → Gives .railRetry s s.dev)) ∧
  (∀ (s : State) (from' : Nat) (woken : Wake → Dev → Prop), from' = s.dev.pwr.downAt + (if s.dev.pwr.thermal then 10000000000 else 10000000) →
    (∀ w d, woken w d = (d.pwr.st = .rising 0 ∧ d.get F.SYS_AON_STAT_WOKE_BY = w.code ∧ d.pwr.wake = w ∧ d.pwr.heldWake = none)) →
    (s.dev.pwr.st ≠ .standby → s.dev.pwr.st ≠ .off → Gives .wakeTimer s s.dev ∧ Gives .safeCsWake s s.dev ∧ Gives .wakeHoldExpire s s.dev ∧
      Gives .perstWake s { s.dev with pins := { s.dev.pins with perst := true } }) ∧
    (s.dev.pwr.st = .standby ∨ s.dev.pwr.st = .off →
      (from' ≤ s.dev.aon →
        (s.dev.get F.SYS_WAKE_CFG_TIMER_S ≠ 0 → s.dev.pwr.downAt + s.dev.get F.SYS_WAKE_CFG_TIMER_S * 1000000000 ≤ s.dev.aon → Completes .wakeTimer s (woken .timer)) ∧
        (s.dev.get F.SYS_WAKE_CFG_CS_EN ≠ 0 → Completes .safeCsWake s (woken .safeCs)) ∧
        (s.dev.get F.SYS_WAKE_CFG_PERST_EN ≠ 0 → Completes .perstWake s (fun d => woken .perst d ∧ d.pins.perst = true)) ∧
        (∀ w, s.dev.pwr.heldWake = some w → Completes .wakeHoldExpire s (woken w))) ∧
      (s.dev.aon < from' →
        (s.dev.get F.SYS_WAKE_CFG_TIMER_S ≠ 0 → s.dev.pwr.downAt + s.dev.get F.SYS_WAKE_CFG_TIMER_S * 1000000000 ≤ s.dev.aon →
          Gives .wakeTimer s { s.dev with pwr := { s.dev.pwr with heldWake := some (s.dev.pwr.heldWake.getD .timer) } }) ∧
        (s.dev.get F.SYS_WAKE_CFG_CS_EN ≠ 0 → Gives .safeCsWake s { s.dev with pwr := { s.dev.pwr with heldWake := some (s.dev.pwr.heldWake.getD .safeCs) } }) ∧
        (s.dev.get F.SYS_WAKE_CFG_PERST_EN ≠ 0 →
          Gives .perstWake s { s.dev with pins := { s.dev.pins with perst := true }, pwr := { s.dev.pwr with heldWake := some (s.dev.pwr.heldWake.getD .perst) } }) ∧
        Gives .wakeHoldExpire s s.dev) ∧
      (s.dev.get F.SYS_WAKE_CFG_TIMER_S = 0 ∨ s.dev.aon < s.dev.pwr.downAt + s.dev.get F.SYS_WAKE_CFG_TIMER_S * 1000000000 → Gives .wakeTimer s s.dev) ∧
      (s.dev.get F.SYS_WAKE_CFG_CS_EN = 0 → Gives .safeCsWake s s.dev) ∧
      (s.dev.get F.SYS_WAKE_CFG_PERST_EN = 0 → Gives .perstWake s { s.dev with pins := { s.dev.pins with perst := true } }) ∧
      (s.dev.pwr.heldWake = none → Gives .wakeHoldExpire s s.dev)))

/-- R401, R407, R434 to R437, R439 to R441, R449 and R471: the boot sequence runs once after a reset, releases the collector and trains the link; with two blank slots the part stands in NO_IMAGE, with a good image
the cellar processor runs; a warm reset keeps the raw counter, MRAM, the audit chain and every status, and ends all jobs; HOST_BOOT verifies the window, or lets go a held processor; FLOOR raises word 40; the watchdog
holds the processor unless it is kicked. Where it rests on a choice of the model: log entries 30, 32 and 35. -/
def Obligations.PartBoots : Prop :=
  (∀ (f : BootFlash) (s : State),
    (s.dev.pwr.st ≠ .on ∨ s.dev.pwr.booted = true → exec (.bootSequence f) s = .next s) ∧
    (s.dev.pwr.st = .on → s.dev.pwr.booted = false → ∃ t, exec (.bootSequence f) s = .next t ∧ t.pending = s.pending ∧ t.dev.pwr.booted = true ∧ t.dev.flt.released = true ∧
      t.dev.get F.FLT_STATE_RELEASED = 1 ∧ (s.dev.pins.perst = true → t.dev.pwr.link = true) ∧
      (t.dev.get F.SYS_STAT_PHASE = 3 ∨ (t.dev.pwr.running = true ∧ t.dev.get F.SYS_BOOT_STAT_CODE = 0 ∧ 4 ≤ t.dev.get F.SYS_STAT_PHASE ∧ t.dev.get F.SYS_STAT_PHASE ≤ 6)) ∧
      (f.slotA = [] → f.slotB = [] → t.dev.get F.SYS_STAT_PHASE = 3 ∧ t.dev.get F.SYS_BOOT_STAT_CODE = (if f.sfdp = none then 2 else 1) ∧
        t.dev.get F.SYS_BOOT_STAT_VALID_A = 0 ∧ t.dev.get F.SYS_BOOT_STAT_VALID_B = 0) ∧
      ∃ d : Dev, t.dev = d.bootImage f ∧ d.mram.keys = s.dev.mram.keys)) ∧
  (∀ (d e : Dev) (f : BootFlash) (a b : Option BootImage), e = d.bootImage f → a = d.checkImage (f.slotA.map (fun x => x.toNat)) → b = d.checkImage (f.slotB.map (fun x => x.toNat)) →
    e.get F.SYS_BOOT_STAT_VALID_A = (if a.isSome then 1 else 0) ∧ e.get F.SYS_BOOT_STAT_VALID_B = (if b.isSome then 1 else 0) ∧
    (a = none → b = none → e.get F.SYS_STAT_PHASE = 3 ∧ e.pwr.running = d.pwr.running) ∧
    (∀ x, a = some x → (∀ y, b = some y → y.version ≤ x.version) → e.pwr.running = true ∧ e.get F.SYS_BOOT_STAT_SLOT = 0 ∧ e.get F.SYS_BOOT_STAT_CODE = 0) ∧
    (∀ y, b = some y → (∀ x, a = some x → x.version < y.version) → e.pwr.running = true ∧ e.get F.SYS_BOOT_STAT_SLOT = 1 ∧ e.get F.SYS_BOOT_STAT_CODE = 0)) ∧
  (∀ (s : State) (P : State → Prop), (∀ t, P t = (t.pending = s.pending ∧ t.dev.get F.SYS_STAT_PHASE = 0 ∧ t.dev.pwr.booted = false ∧ t.dev.pwr.running = false ∧ t.dev.jobs = [] ∧
      t.dev.raw = s.dev.raw ∧ t.dev.mram = s.dev.mram ∧ t.audit.ring = s.audit.ring ∧ t.audit.stalled = [] ∧ (∀ k, has s.dev.flt.status k = true → has t.dev.flt.status k = true))) →
    (s.dev.pwr.st ≠ .on → exec (.warmReset none) s = .next s) ∧
    (s.dev.pwr.st = .on → ∃ t, exec (.warmReset none) s = .next t ∧ P t ∧ t.audit.queue = s.audit.queue ∧ t.dev = s.dev.warmed) ∧
    (∀ rq, s.Ready rq 2 → ∃ t e, exec (.warmReset (some rq)) s = .next t ∧ P t ∧ t.audit.queue = s.audit.queue ++ [(some rq, e)])) ∧
  (∀ (rq : Requester) (s : State), 43 ≤ s.dev.bond.cask0.length → 43 ≤ s.dev.bond.cask1.length → 43 ≤ s.dev.bond.cask2.length →
    (s.Ready rq 2 →
      CompletesAudited (.hostBoot rq) s rq 0x4C (fun d => d = (s.dev.touch rq).hostBoot ∧
        (s.dev.get F.SYS_STAT_PHASE = 3 → s.dev.checkImage s.dev.windowBytes = none → d.get F.SYS_BOOT_STAT_CODE = 1 ∧ d.get F.SYS_STAT_PHASE = 3 ∧ d.pwr.running = s.dev.pwr.running) ∧
        (∀ i, s.dev.get F.SYS_STAT_PHASE = 3 → s.dev.checkImage s.dev.windowBytes = some i → d.pwr.running = true ∧ d.get F.SYS_BOOT_STAT_CODE = 0 ∧
          4 ≤ d.get F.SYS_STAT_PHASE ∧ d.get F.SYS_STAT_PHASE ≤ 6 ∧ d.cask 41 = i.version % 2 ^ 32) ∧
        (s.dev.get F.SYS_STAT_PHASE ≠ 3 → d.regs = s.dev.regs ∧ d.pwr = (if s.dev.pwr.heldRst then { s.dev.pwr with running := true, heldRst := false, wdogAt := s.dev.raw } else s.dev.pwr)))) ∧
    (s.Ready rq 3 → CompletesAudited (.floor rq) s rq 0x4C (fun d => d.cask 41 = s.dev.cask 41 ∧
      (s.dev.cask 40 < s.dev.cask 41 → d.cask 40 = s.dev.cask 41 % 2 ^ 32) ∧ (s.dev.cask 41 ≤ s.dev.cask 40 → d.cask 40 = s.dev.cask 40)))) ∧
  (∀ (rq : Requester) (w : Word) (s : State), s.Ready rq 0 → w.toNat.testBit 31 = true →
    (2 ≤ s.dev.rights rq → CompletesAudited (.watchdogKick rq w) s rq 0x64 (fun d => d.pwr = { s.dev.pwr with wdogAt := s.dev.raw } ∧ d.get F.SYS_WDOG_PERIOD_MS = w.toNat % 65536)) ∧
    (s.dev.rights rq < 2 → Completes (.watchdogKick rq w) s (fun d => d.pwr = { s.dev.pwr with wdogAt := s.dev.raw } ∧
      d.get F.SYS_WDOG_PERIOD_MS = s.dev.get F.SYS_WDOG_PERIOD_MS))) ∧
  (∀ (rq : Requester) (w : Word) (s : State), s.Ready rq 0 → w.toNat.testBit 31 = false → ∃ t, exec (.watchdogKick rq w) s = .next t ∧ t.dev.pwr.wdogAt = s.dev.pwr.wdogAt ∧
    (2 ≤ s.dev.rights rq → t.dev.get F.SYS_WDOG_PERIOD_MS = w.toNat % 65536)) ∧
  (∀ (s : State) (late : Prop), late = (s.dev.procOn = true ∧ s.dev.get F.SYS_WDOG_PERIOD_MS ≠ 0 ∧ s.dev.pwr.wdogAt + s.dev.get F.SYS_WDOG_PERIOD_MS * 1000000 ≤ s.dev.raw) →
    (late → Completes .watchdogExpire s (fun d => d.pwr.running = false ∧ d.pwr.heldRst = true ∧ has d.flt.status (fkey 86 0) = true)) ∧ (¬ late → Gives .watchdogExpire s s.dev))

/-- R445 to R447 and R456: GO puts a READY part at rest to SLEEP, and is BUSY otherwise; EXIT, or a DRAM request of the cellar processor, brings it back with a retraining of every channel; STANDBY drops the outputs with
every audit entry written, and is BUSY while the part may not rest; TEST_MODE closes the gate, darkens every lamp and asserts DRV_HOLD. R165 and R166: CLEAR empties the decanter's counts. Where it rests on a choice of the model: log entries 37 and 39. -/
def Obligations.PartRests : Prop :=
  (∀ (rq : Requester) (s : State), s.Ready rq 1 →
    (s.dev.get F.SYS_STAT_PHASE = 6 → s.dev.mayRest = true → Completes (.sleepEnter rq) s (fun d => d = s.dev.sleepGo ∧ d.get F.SYS_STAT_PHASE = 7 ∧ d.get F.SYS_SLEEP_DONE = 1 ∧
      d.get F.SYS_SLEEP_CODE = 0 ∧ d.dram = s.dev.dram ∧ d.ddr.queue = [])) ∧
    (s.dev.get F.SYS_STAT_PHASE ≠ 6 ∨ s.dev.mayRest = false → Gives (.sleepEnter rq) s ((s.dev.set F.SYS_SLEEP_DONE 1).set F.SYS_SLEEP_CODE 1))) ∧
  (∀ s : State,
    Gives .cellarDramRequest s s.dev.leaveSleep ∧ (∀ rq, s.Ready rq 0 → Gives (.sleepExitCmd rq) s s.dev.leaveSleep) ∧
    (s.dev.get F.SYS_STAT_PHASE ≠ 7 → Gives .cellarDramRequest s s.dev ∧ ∀ rq, s.Ready rq 0 → Gives (.sleepExitCmd rq) s s.dev) ∧
    (∀ P : Dev → Prop, P = (fun d => d.get F.SYS_STAT_PHASE = 6 ∧ d.get F.SYS_SLEEP_DONE = 1 ∧ d.get F.SYS_SLEEP_CODE = 0 ∧ d.ddr.atOnce = true ∧ d.dram = s.dev.dram ∧
        ∀ c < 4, c < s.dev.ddr.chans.length → s.dev.get F.DDR_C_STAT_STATE c = 4 → (d.chan c).stepsLeft = 3) →
      s.dev.get F.SYS_STAT_PHASE = 7 → (∀ c, has s.dev.ddr.queue c = false) → Completes .cellarDramRequest s P ∧ ∀ rq, s.Ready rq 0 → Completes (.sleepExitCmd rq) s P)) ∧
  (∀ (rq : Requester) (s : State), s.Ready rq 2 →
    (4 ≤ s.dev.get F.SYS_STAT_PHASE → s.dev.mayRest = true → ∃ t, exec (.standbyEnter rq) s = .next t ∧ t.pending = s.pending ∧ t.dev.pwr.st = .standby ∧ t.dev.pwr.pwrEn = 0 ∧
      t.dev.gateOpen = false ∧ t.dev.dram = [] ∧ t.audit.queue = [] ∧
      (s.dev.safe.applying = none → t.audit.seq = (s.audit.seq + s.audit.queue.length + 1) % 2 ^ 32)) ∧
    (s.dev.get F.SYS_STAT_PHASE < 4 ∨ s.dev.mayRest = false → GivesAudited (.standbyEnter rq) s rq 0x58 ((s.dev.set F.SYS_STANDBY_CODE 1).touch rq))) ∧
  (∀ (s : State), Completes (.testModeInput true) s (fun d => d.pins = { s.dev.pins with testMode := true } ∧ d.gateOpen = false ∧ d.drvHold = true ∧
      (s.dev.lampsOn = true → ∀ c < 16, d.get F.LMP_C_STAT_STATUS c = 5)) ∧
    Completes (.testModeInput false) s (fun d => d.pins = { s.dev.pins with testMode := false })) ∧
  (∀ (rq : Requester) (sl : Slice) (s : State), s.Ready rq 0 →
    Gives (.decodeErrClear rq) s (s.dev.set F.DEC_DEC_ERR_COUNT 0) ∧ Gives (.sliceLoadClear rq sl) s (s.dev.set F.DEC_S_LOAD_MAX_PCT 0 sl.val))



/-- R58, R60, R61 and R443: the oldest queued entry takes the place NEXT with the next running number; on a full ring it overwrites and is counted; eight MRAM words are written. R470: where its read-back
fails, MRAM_ERR is reported. R426: while a shutdown suspends MRAM writes, and with an empty queue, nothing happens. R59 and R62: ROLE_AUD_IDX shows the eight words of the entry that it selects, or zeros. R38 and R58: with the audit queue
of 32 full, a write that an entry belongs to waits whole and changes nothing else; when space has freed, a requester's one waiting register write is carried out as the same access would be. Where it rests on a choice of the model: log entries 19 and 20. -/
def Obligations.AuditEntriesAreKept : Prop :=
  (
  (∀ (ok : Bool) (s : State) (e : Option Requester × AuditEntry) (q : List (Option Requester × AuditEntry)), s.audit.queue = e :: q →
    s.dev.get F.NVM_STAT_SUSPENDED = 0 →
    ∃ d, exec (.auditEntryWrite ok) s = .next { s with
      dev := d,
      audit := { s.audit with
        queue := q,
        ring := s.audit.ring.filter (fun x => x.index ≠ s.audit.next) ++ [⟨s.audit.next, s.audit.seq, e.2⟩],
        next := (s.audit.next + 1) % 8192,
        wrapped := s.audit.wrapped || s.audit.next = 8191,
        ovr := if s.audit.wrapped then Nat.min 4294967295 (s.audit.ovr + 1) else s.audit.ovr,
        seq := (s.audit.seq + 1) % 4294967296 } } ∧
      (ok = true → d = s.dev.set F.NVM_WRITES (Nat.min 281474976710655 (s.dev.get F.NVM_WRITES + 8))) ∧
      (ok = false → d = (((s.dev.set F.NVM_WRITES (Nat.min 281474976710655 (s.dev.get F.NVM_WRITES + 8))).bump F.NVM_ERR_UE).set F.NVM_ERR_ADDR
        (32 * s.audit.next)).report 87)) ∧
  (∀ (ok : Bool) (s : State), s.audit.queue = [] ∨ s.dev.get F.NVM_STAT_SUSPENDED = 1 → Gives (.auditEntryWrite ok) s s.dev) ∧
  (∀ (rq : Requester) (w : Word) (s : State), s.PagesOpen → s.Quiet →
    Completes (.auditIndexSelect rq w) s (fun d =>
      d.get F.ROLE_AUD_IDX = w.toNat % 8192 ∧ Dev.SameRegsBut s.dev d (F.ROLE_AUD_IDX.key 0 0 :: (List.range 8).map (fun k => F.ROLE_AUD_DATA.key k 0)) ∧
      d.fixed = s.dev.fixed ∧
      (∀ x, s.audit.ring.find? (fun x => x.index = w.toNat % 8192) = some x →
        ∀ ws, ws = [x.entry.time % 4294967296, x.entry.time / 4294967296 % 4294967296, x.seq % 4294967296,
           (x.entry.agent * 2 ^ 29 + x.entry.requester * 2 ^ 28 + x.entry.page % 2 ^ 14 * 2 ^ 12 + x.entry.offset) % 4294967296,
           x.entry.old % 4294967296, x.entry.new % 4294967296, 0] →
        (List.range 8).map (fun k => d.get F.ROLE_AUD_DATA k) = ws ++ [crc32 (ws.flatMap (bytesLE 4))]) ∧
      ((∀ x ∈ s.audit.ring, x.index ≠ w.toNat % 8192) → ∀ k, k < 8 → d.get F.ROLE_AUD_DATA k = 0)))
  ) ∧ (
  (∀ (rq : Requester) (addr : Nat) (be : BitVec 8) (data : BitVec 64) (s : State), s.PagesOpen → s.audit.stalled = [] → s.audit.queue.length = 32 →
    be.toNat % 16 = 15 → addr % 4 = 0 → inPages addr = true → s.dev.audited rq (canonAddr rq addr) (data.toNat % 4294967296) [] = true →
    exec (.registerWrite ⟨rq, .bar0, addr, be, false, data⟩) s = .next { s with audit := { s.audit with
      stalled := [(rq, addr / 4096, .registerWrite ⟨rq, .bar0, addr, 15, false, BitVec.ofNat 64 (data.toNat % 4294967296)⟩)] } }) ∧
  (∀ (rq : Requester) (page : Nat) (a : BusAccess) (s : State), s.audit.stalled = [(rq, page, .registerWrite a)] → a.rq = rq → a.wide = false →
    ∃ t, exec (.registerWrite a) { s with audit := { s.audit with stalled := [] } } = .next t ∧ exec (.auditedWriteResume rq) s = .next t) ∧
  (∀ (rq : Requester) (s : State), (∀ x ∈ s.audit.stalled, x.1 ≠ rq) → exec (.auditedWriteResume rq) s = .next s)
  )

/-- R45 and R46: a request for a role whose key is missing leaves the session CLOSED with REFUSED; for a role with its key it leaves CHALLENGED for
10 s with the next 32 random bytes; in LOCKED it changes nothing. R50 to R52: the right tag opens the session; the third wrong one locks it for 60 s
and reports ROLE_LOCK; a wrong one before that closes it. R46, R47, R48, R51, R52 and R53: a lock ends after its 60 s with FAILS 0, a challenge after its 10 s, an idle session when its timer reaches 0;
none of them before; SESS_CTRL.END closes any session but a LOCKED one, and DENY_CLR empties the requester's ROLE_DENY. Where it rests on a choice of the model: log entries 11 and 125. -/
def Obligations.SessionsOpenAndClose : Prop :=
  (
  (∀ (rq : Requester) (w : Word) (s : State), s.PagesOpen → s.Quiet → (s.dev.session rq).st = .locked → Gives (.roleReq rq w) s s.dev) ∧
  (∀ (rq : Requester) (w : Word) (s : State), s.PagesOpen → s.Quiet → (s.dev.session rq).st ≠ .locked →
    s.dev.mram.keys.getD (max 1 (w.toNat % 4) - 1) none = none →
    Gives (.roleReq rq w) s (s.dev.setSession rq
      { st := .closed, role := 0, fails := (s.dev.session rq).fails, refused := true, deadline := 0, chal := [] })) ∧
  (∀ (rq : Requester) (w : Word) (s : State) (key : List Nat), s.PagesOpen → s.Quiet → (s.dev.session rq).st ≠ .locked →
    s.dev.mram.keys.getD (max 1 (w.toNat % 4) - 1) none = some key → s.dev.roleDigest (max 1 (w.toNat % 4)) = (sha256 key).take 16 →
    (∃ b ∈ s.dev.roleDigest (max 1 (w.toNat % 4)), b ≠ 0) →
    Gives (.roleReq rq w) s (({ s.dev with free := s.dev.free + 32 } : Dev).setSession rq
      { st := .challenged, role := max 1 (w.toNat % 4), fails := (s.dev.session rq).fails, refused := false, deadline := s.dev.raw + 10000000000,
        chal := (List.range 32).map (fun k => (Config.randomByte (s.dev.free + k)).toNat) })) ∧
  (∀ (rq : Requester) (w : Word) (s : State), s.PagesOpen → s.Quiet → (s.dev.session rq).st = .challenged → s.dev.raw ≤ (s.dev.session rq).deadline →
    Completes (.roleResponse rq w) s (fun d => ∃ m : Dev,
      m = s.dev.set F.ROLE_RESP w.toNat (bankOf rq) 7 ∧
      (m.roleTag rq = m.response rq → d.session rq =
        { s.dev.session rq with
          st := .opened, fails := 0, chal := [], deadline := s.dev.raw + s.dev.get F.ROLE_SESS_CTRL_IDLE_TIME (bankOf rq) * 1000000000 }) ∧
      (m.roleTag rq ≠ m.response rq → (s.dev.session rq).fails < 2 →
        d.session rq = { s.dev.session rq with st := .closed, role := 0, fails := (s.dev.session rq).fails + 1, chal := [], deadline := 0 }) ∧
      (m.roleTag rq ≠ m.response rq → 2 ≤ (s.dev.session rq).fails →
        d.session rq = { s.dev.session rq with st := .locked, role := 0, fails := 3, chal := [], deadline := s.dev.raw + 60000000000 } ∧
        has d.flt.status (fkey 22 0) = true)))
  ) ∧ (
  (∀ (rq : Requester) (s : State), (s.dev.session rq).st = .locked →
    Gives (.lockEnd rq) s (if (s.dev.session rq).deadline ≤ s.dev.raw then
      s.dev.setSession rq { st := .closed, role := 0, fails := 0, refused := (s.dev.session rq).refused, deadline := 0, chal := [] } else s.dev)) ∧
  (∀ (rq : Requester) (s : State), (s.dev.session rq).st = .challenged →
    Gives (.challengeExpire rq) s (if (s.dev.session rq).deadline ≤ s.dev.raw then
      s.dev.setSession rq { s.dev.session rq with st := .closed, role := 0, deadline := 0, chal := [] } else s.dev)) ∧
  (∀ (rq : Requester) (s : State), (s.dev.session rq).st = .opened →
    Gives (.sessionIdleTimeout rq) s (if (s.dev.session rq).deadline ≤ s.dev.raw then
      s.dev.setSession rq { s.dev.session rq with st := .closed, role := 0, deadline := 0, chal := [] } else s.dev)) ∧
  (∀ (rq : Requester) (w : Word) (s : State), s.PagesOpen → s.Quiet → s.dev.rights rq < 2 → w.toNat % 4 = 1 →
    Gives (.sessionEnd rq w) s (if (s.dev.session rq).st = .locked then s.dev.deny rq 0x1048
      else (s.dev.deny rq 0x1048).setSession rq { s.dev.session rq with st := .closed, role := 0, deadline := 0, chal := [] })) ∧
  (∀ (rq : Requester) (w : Word) (s : State), s.Ready rq 2 → w.toNat % 4 = 1 →
    GivesAudited (.sessionEnd rq w) s rq 0x1048 ((s.dev.set F.ROLE_SESS_CTRL_IDLE_TIME (max 10 (min 3600 (w.toNat / 65536 % 4096))) (bankOf rq)).setSession rq
      { s.dev.session rq with st := .closed, role := 0, deadline := 0, chal := [] })) ∧
  (∀ (rq : Requester) (w : Word) (s : State), s.PagesOpen → s.Quiet → s.dev.rights rq < 2 → w.toNat % 4 = 2 →
    Gives (.roleDenyClear rq w) s (((s.dev.deny rq 0x1048).set F.ROLE_DENY_COUNT 0 (bankOf rq)).set F.ROLE_DENY_ADDR 0 (bankOf rq))) ∧
  (∀ (rq : Requester) (w : Word) (s : State), s.Ready rq 2 → w.toNat % 4 = 2 →
    GivesAudited (.roleDenyClear rq w) s rq 0x1048 ((((s.dev.set F.ROLE_SESS_CTRL_IDLE_TIME
      (max 10 (min 3600 (w.toNat / 65536 % 4096))) (bankOf rq)).touch rq).set F.ROLE_DENY_COUNT 0 (bankOf rq)).set F.ROLE_DENY_ADDR 0 (bankOf rq)))
  )

/-! ### Every command and every step -/

/-- Every command of the table answers a next state, from every state and for all operands: none stops the block. It leaves the queue of waiting commands alone. Where it rests on a choice of the model: log entry 112. -/
def Obligations.EveryCommandAnswers : Prop := ∀ (c : Instr) (s : State), ∃ t, exec c s = .next t ∧ t.pending = s.pending

/-- R58 and R60: every step keeps the audit chain within its sizes: at most 32 entries wait for the ring, and the ring's entries have places of their own below 8,192. Where it rests on a choice of the model: log entry 19. -/
def Obligations.StepsKeepTheAuditChainBounded : Prop := ∀ s t : State, Audit.Bounded s.audit → step s = .next t → Audit.Bounded t.audit

/-- After reset no command waits, the audit chain is within its sizes, no job, frame, fault or session stands, both gates are closed, and the registers read as the tables state (R36, R46, R60, R63, R113, R165, R182, R234, R265,
R293, R314, R319, R337, R356, R375, R376, R391, R397, R419, R430, R449). Where it rests on a choice of the model: log entries 7, 8, 9 and 10. -/
def Obligations.ResetIsAsTheTablesState : Prop :=
  ∀ d : Dev, d = State.reset.dev →
    State.reset.pending = [] ∧ Audit.Bounded State.reset.audit ∧ State.reset.audit.ring = [] ∧ d.jobs = [] ∧ d.flt.status = [] ∧ d.gateOpen = false ∧ d.outFault = true ∧
    d.session .host = {} ∧ d.session .cellar = {} ∧ d.bond.inUse.length = 27 ∧ (∀ n < 15, d.bonded n =
      [0, 1000, 0, 1000, 105, 115, 125, 0x40404, 100, 500, 0xFFFF, 0xFFFFFFFF, 0xFFFFFFFF, 0xFFFFFFFF, 0xFFFFFFFF].getD n 0) ∧
    (∀ p < 192, (d.port p).st = .disabled) ∧ (∀ b < 8, (d.posBar b).hwm = none ∧ (d.posBar b).held = none) ∧ d.fire.stop.st = .run ∧
    d.get F.SYS_BAD_ACC_COUNT = 0 ∧ d.get F.SYS_STAT_PHASE = 0 ∧ d.get F.SYS_WAKE_CFG_CS_EN = 1 ∧ d.get F.SYS_WAKE_CFG_PERST_EN = 1 ∧
    d.get F.ROLE_SESS_CTRL_IDLE_TIME = 600 ∧ d.get F.FLT_CFG_SHADOW_US = 50 ∧ d.get F.THM_THR_CFG_DUTY_PCT = 50 ∧ d.get F.THM_THR_CFG_SLOW_MS = 2000 ∧
    d.get F.CAM_P_LINK_SPEED 2 = 12 ∧ d.get F.CAM_P_LINK_FORMAT 2 = 4 ∧ d.get F.CAM_P_LINK_WIDTH 2 = 8192 ∧ d.get F.CAM_P_FRAME_LINES 2 = 4096 ∧
    d.get F.CAM_P_CTL_TMO_MS 2 = 100 ∧ d.get F.ISP_COMMIT_LAT = 32 ∧ d.get F.ISP_K_CFG_SRC 6 = 2 ∧ d.get F.ISP_K_CFG_LAB 6 = 1 ∧ d.get F.ISP_K_WB0_0 6 = 0x4000 ∧
    d.get F.ISP_K_GCELL_H 6 = 16 ∧ d.get F.VIN_CFG_SET_MASK = 1 ∧ d.get F.VIN_CFG_KGAIN = 128 ∧ d.get F.VIN_STRIP_PATCH_LINES = 48 ∧ d.get F.VIN_NLEV = 6 ∧
    d.get F.VIN_CAL_CFG_MIN_S = 600 ∧ d.get F.LMP_DIAG_PERIOD = 1024 ∧ d.get F.LMP_C_PWM_PERIOD 15 = 2500 ∧ d.get F.LMP_C_ELEC_V_LAMP 15 = 300 ∧ d.get F.LMP_C_GAIN 15 = 16384 ∧
    d.get F.TB_ADDEND = 2 ^ 32 ∧ d.get F.TB_CFG_JUMP_LIMIT = 1000 ∧ d.get F.TB_CFG2_PD_STEP_LIMIT = 500 ∧ d.get F.TB_D_CFG_TIMEOUT 1 = 30 ∧ d.get F.TB_PPS_WIDTH_US = 100 ∧
    d.get F.ETH_P_CFG_MTU 1 = 1518 ∧ d.get F.ETH_P_R_CFG_ENTRIES 1 3 = 1024

/-! ### Rules stated whole -/

/-- R73: the bonded-store digest is SHA-256 over the 27 values in ascending order, each as four bytes least significant first; a commit puts the digest of the values that it puts in force into cask words 4 to 11. -/
def Obligations.BondedDigestIsSha256 : Prop :=
  (∀ v : List Nat, v.length = 27 → (bondDigest v).length = 8 ∧ (bondDigest v).flatMap (bytesLE 4) = sha256 (v.flatMap (bytesLE 4))) ∧
  (∀ (s : State) (staged : List (Nat × Nat)), s.dev.safe.applying = some staged → s.dev.staged = none → s.dev.get F.NVM_STAT_SUSPENDED = 0 →
    s.audit.queue.length + 27 ≤ 32 → s.dev.bond.pairs.length = 27 →
    s.dev.bond.cask0.length = 64 → s.dev.bond.cask1.length = 64 → s.dev.bond.cask2.length = 64 →
    ∃ t, exec (.safeCommitApply true) s = .next t ∧ t.dev.bond.pairs.length = 27 ∧
      (List.range 8).map (fun k => t.dev.cask (4 + k)) = bondDigest (t.dev.bond.pairs.map (fun p => p.1)))

/-- R390: CAPTURE latches R, T, T_0 and T_1 of one tick, that of the write, into the capture registers; with DONE and CODE it changes nothing else. -/
def Obligations.CaptureLatchesOneTick : Prop :=
  ∀ (rq : Requester) (s : State), s.Ready rq 0 →
    Completes (.timeCapture rq) s (fun d =>
      d.get F.TB_CAP_RAW = s.dev.raw % 2 ^ 64 ∧ d.get F.TB_CAP_T = s.dev.T ∧ (∀ k < 2, d.get F.TB_CAP_D k = (s.dev.domT k / 2 ^ 32).toNat % 2 ^ 64) ∧
      s.dev.SameRegsBut d ([F.TB_CAP_RAW, F.TB_CAP_T, F.TB_CMD_DONE, F.TB_CMD_CODE].map (fun f => f.key 0 0) ++ (List.range 2).map (fun k => F.TB_CAP_D.key k 0)) ∧
      { d with regs := s.dev.regs } = s.dev)

/-- R413: GO drives the wires of source SRC equal for 1 µs; the source becomes live and WIRE_PAIR of its bank is reported. A SRC of WIRE_PAIR0–9, FLT_IN or FLT_IN_PAIR does nothing; a SRC above 311 is stored as
311. The wires stay equal until the 1 µs has passed. -/
def Obligations.WireTestDrivesTheSource : Prop :=
  (∀ (rq : Requester) (w : Word) (s : State) (src : Nat), s.Ready rq 2 → w.toNat.testBit 31 = true → src = Nat.min 311 (w.toNat % 512) →
    (12 ≤ src → CompletesAudited (.wireTest rq w) s rq 0x304C (fun d => d.get F.FLT_WIRE_TEST_SRC = src ∧ d.flt.wireAt = some (src, s.dev.raw + 1000) ∧
      (∀ k ∈ sourceKeys src, has d.flt.eq k = true ∧ d.flt.live k = true ∧ has d.flt.status k = true) ∧ has d.flt.status (fkey (src / 32) 0) = true)) ∧
    (src < 12 → GivesAudited (.wireTest rq w) s rq 0x304C ((s.dev.set F.FLT_WIRE_TEST_SRC src).touch rq))) ∧
  (∀ (src : Source) (inst : Byte) (s : State) (t : Nat), s.dev.flt.wireAt = some (src.val, t) →
    Completes (.sourceLiveEnd src inst) s (fun d =>
      (s.dev.raw < t → d.flt.eq = s.dev.flt.eq) ∧ (t ≤ s.dev.raw → has d.flt.eq (sourceKey src.val inst.toNat) = false)))

/-- R415: the lees log holds at most 16 entries; an entry written while 16 are held replaces the oldest one, counts OVERWRITES and sets FLT_IRQ_STAT.OVERWRITE; FLT_LOG_DATA0–5 show the oldest entry, or zero when
the log is empty; POP removes that entry. -/
def Obligations.LeesLogHoldsSixteen : Prop :=
  (∀ (d : Dev) (e : LogEntry), d.flt.log.length ≤ 16 →
    (d.logPush e).flt.log.length ≤ 16 ∧
    (d.flt.log.length < 16 → (d.logPush e).flt.log = d.flt.log ++ [e] ∧ (d.logPush e).regs = d.regs) ∧
    (d.flt.log.length = 16 → (d.logPush e).flt.log = d.flt.log.tail ++ [e] ∧
      (d.logPush e).get F.FLT_LOG_STAT_OVERWRITES = Nat.min 65535 (d.get F.FLT_LOG_STAT_OVERWRITES + 1) ∧
      ((d.logPush e).get F.FLT_IRQ_STAT).testBit 4 = true)) ∧
  (∀ (rq : Requester) (s : State), s.Ready rq 0 →
    Gives (.pop rq) s { s.dev with flt := { s.dev.flt with log := s.dev.flt.log.tail } } ∧
    ∀ k < 6, s.readWord rq (0x3060 + 4 * k) = (match s.dev.flt.log with | [] => 0 | e :: _ => e.words.getD k 0))

/-! ### What the other commands leave alone -/

/-- R77, R442 and R443: MRAM is written only by the commands that own one of its areas; every other command leaves keys, maps, copies, records and their counts as they were. -/
def Obligations.OnlyOwnersWriteMram : Prop :=
  ∀ (c : Instr) (s t : State), exec c s = .next t → mramOwner c = false → t.dev.mram = s.dev.mram

/-- A frame over the whole table: outside the commands that storeOwner names, which the rules of files 02, 05, 08, 09, 10, 14 and 17 give them, every command leaves the raw counter, the bonded store, the SAFE port, the staged
key, the head map in force, DRAM with its check bits, the timebase and the lane groups' rates as they were. -/
def Obligations.OnlyOwnersReachTheStores : Prop :=
  ∀ (c : Instr) (s t : State), exec c s = .next t → storeOwner c = false → t.dev.stores = s.dev.stores

/-- R55 to R57: STAGE keeps the new key for 60 s; a slot that was never written needs no session, a written one a MAKER session; a key whose digest is the
target's is committed at once. R56: a staged key that finds no match in its time is discarded. Where it rests on a choice of the model: log entries 22 and 25. -/
def Obligations.KeyIsStaged : Prop :=
  (∀ (rq : Requester) (w : Word) (s : State), s.PagesOpen → s.Quiet → w.toNat % 2 = 1 → s.dev.rights rq < 2 →
    s.dev.mram.keys.getD (max 1 (w.toNat / 256 % 4) - 1) none = none →
    (sha256 ((List.range 8).flatMap (fun k => bytesLE 4 (s.dev.get F.ROLE_KEY_NEW k)))).take 16 ≠ s.dev.roleDigest (max 1 (w.toNat / 256 % 4)) →
    GivesAudited (.keyStage rq w) s rq 0x10C0
      (({ s.dev.set F.ROLE_KEY_CTRL_TARGET (max 1 (w.toNat / 256 % 4)) with
          staged := some { target := max 1 (w.toNat / 256 % 4), key := (List.range 8).flatMap (fun k => bytesLE 4 (s.dev.get F.ROLE_KEY_NEW k)),
                           deadline := s.dev.raw + 60000000000, agent := 5, requester := 0 } } : Dev).set F.ROLE_KEY_CTRL_STAGED 1)) ∧
  (∀ (rq : Requester) (w : Word) (s : State), s.PagesOpen → s.Quiet → w.toNat % 2 = 1 → 3 ≤ s.dev.rights rq →
    (sha256 ((List.range 8).flatMap (fun k => bytesLE 4 (s.dev.get F.ROLE_KEY_NEW k)))).take 16 = s.dev.roleDigest (max 1 (w.toNat / 256 % 4)) →
    ∃ t, exec (.keyStage rq w) s = .next t ∧ t.dev.staged = none ∧ t.pending = s.pending ∧ t.audit.queue.length = s.audit.queue.length + 2 ∧
      t.dev.mram = { s.dev.mram with
        keys := setAt s.dev.mram.keys (max 1 (w.toNat / 256 % 4) - 1)
          (fun _ => some ((List.range 8).flatMap (fun k => bytesLE 4 (s.dev.get F.ROLE_KEY_NEW k)))) }) ∧
  (∀ (s : State) (k : StagedKey), s.dev.staged = some k →
    Gives .stagedKeyExpire s (if k.deadline ≤ s.dev.raw then ({ s.dev with staged := none } : Dev).set F.ROLE_KEY_CTRL_STAGED 0 else s.dev))

/-- R67 to R71: each of the five commands in a frame that passes every check does what R68 gives it, while the reply to the frame before is shifted out. R69 and R70: the checks are made in their order: a wrong CRC, an index above 26, a store
not yet loaded or a commit under way, a SEQ that is not the expected one, a value that does not match its complement; the first that fails is what the next reply answers, is counted and reported, and nothing else happens. A frame of another length, or with an unknown
command, fails likewise; 14 bytes that spell a frame are that frame. Without power nothing happens. Where it rests on a choice of the model: log entry 27. -/
def Obligations.SafeFramesAct : Prop :=
  (
  ∀ (f : SafeFrame) (s : State), s.dev.pwr.st = .on → s.dev.safe.loaded = true →
    (crc16 ((safeBytes f 0).take 12) = f.crc.toNat →
      Gives (.safeNop f) s { s.dev.shiftReply with safe := { s.dev.safe with last := .nop f.seq.toNat } }) ∧
    (crc16 ((safeBytes f 0x5A).take 12) = f.crc.toNat → f.index.toNat ≤ 26 →
      Gives (.safeRead f) s { s.dev.shiftReply with safe := { s.dev.safe with last := .read f.seq.toNat f.index.toNat } }) ∧
    (s.dev.safe.applying = none → f.seq.toNat = s.dev.get F.SAFE_PORT_STAT_EXP_SEQ →
      (crc16 ((safeBytes f 0xA5).take 12) = f.crc.toNat → f.index.toNat ≤ 26 → f.compl.toNat = 0xFFFFFFFF - f.value.toNat →
        Gives (.safeWrite f) s (({ s.dev.shiftReply with
          safe := { s.dev.safe with
            staged := s.dev.safe.staged.filter (fun e => e.1 ≠ f.index.toNat) ++ [(f.index.toNat, clampEntry f.index.toNat f.value.toNat)],
            last := .write f.seq.toNat f.index.toNat (clampEntry f.index.toNat f.value.toNat) } } : Dev).set F.SAFE_PORT_STAT_EXP_SEQ
          ((f.seq.toNat + 1) % 65536))) ∧
      (crc16 ((safeBytes f 0x3C).take 12) = f.crc.toNat → s.dev.safe.staged ≠ [] →
        Gives (.safeCommit f) s ((({ s.dev.shiftReply with
          safe := { s.dev.safe with
            staged := [], applying := some s.dev.safe.staged, last := .commit f.seq.toNat s.dev.safe.staged.length } } : Dev).set F.SAFE_PORT_STAT_EXP_SEQ
          ((f.seq.toNat + 1) % 65536)).set F.SAFE_PORT_STAT_BUSY 1)) ∧
      (crc16 ((safeBytes f 0x3C).take 12) = f.crc.toNat → s.dev.safe.staged = [] →
        Gives (.safeCommit f) s (({ s.dev.shiftReply with safe := { s.dev.safe with last := .commit f.seq.toNat 0 } } : Dev).set F.SAFE_PORT_STAT_EXP_SEQ
          ((f.seq.toNat + 1) % 65536))) ∧
      (crc16 ((safeBytes f 0xC3).take 12) = f.crc.toNat →
        Gives (.safeDiscard f) s (({ s.dev.shiftReply with
          safe := { s.dev.safe with staged := [], last := .discard f.seq.toNat f.index.toNat } } : Dev).set F.SAFE_PORT_STAT_EXP_SEQ
          ((f.seq.toNat + 1) % 65536))))
  ) ∧ (
  ∀ (f : SafeFrame) (s : State) (c : Instr) (cmd : Nat), s.dev.pwr.st = .on →
    (c, cmd) ∈ [(Instr.safeNop f, 0), (.safeRead f, 0x5A), (.safeWrite f, 0xA5), (.safeCommit f, 0x3C), (.safeDiscard f, 0xC3)] →
    let failed (status : Nat) : Dev := { s.dev.shiftReply with safe := { s.dev.safe with last := .failed status f.seq.toNat f.index.toNat } }
    (crc16 ((safeBytes f cmd).take 12) ≠ f.crc.toNat → Gives c s (((failed 1).bump F.SAFE_ERR_CNT_CRC).report 17)) ∧
    (crc16 ((safeBytes f cmd).take 12) = f.crc.toNat →
      (cmd = 0x5A ∨ cmd = 0xA5 → 26 < f.index.toNat → Gives c s (((failed 5).bump F.SAFE_ERR_CNT_OTHER).report 20)) ∧
      ((cmd = 0x5A ∨ cmd = 0xA5 → f.index.toNat ≤ 26) →
        (s.dev.safe.loaded = false ∨ (cmd ≠ 0 ∧ cmd ≠ 0x5A ∧ s.dev.safe.applying ≠ none) → Gives c s (failed 8)) ∧
        (s.dev.safe.loaded = true → s.dev.safe.applying = none → cmd ≠ 0 → cmd ≠ 0x5A →
          (f.seq.toNat ≠ s.dev.get F.SAFE_PORT_STAT_EXP_SEQ → Gives c s (((failed 2).bump F.SAFE_ERR_CNT_SEQ).report 18)) ∧
          (f.seq.toNat = s.dev.get F.SAFE_PORT_STAT_EXP_SEQ → cmd = 0xA5 → f.compl.toNat ≠ 0xFFFFFFFF - f.value.toNat →
            Gives c s (((failed 3).bump F.SAFE_ERR_CNT_CMP).report 19))))) ∧
    exec (.safeBadFrame 112 ((safeBytes f cmd).map (BitVec.ofNat 8))) s = exec c s
  ) ∧ (
  (∀ (nbits : Nat) (bytes : List Byte) (s : State), s.dev.pwr.st = .on → (nbits ≠ 112 ∨ bytes.length ≠ 14) →
    ∃ e, e = ((({ s.dev.shiftReply with safe := { s.dev.safe with last := .failed 4 0 0 } } : Dev).bump F.SAFE_ERR_CNT_OTHER).report 20) ∧
      Gives (.safeBadFrame nbits bytes) s { e with safe := { e.safe with last := .lengthErr } }) ∧
  (∀ (bytes : List Byte) (b : List Nat) (s : State), s.dev.pwr.st = .on → b = bytes.map (·.toNat) → b.length = 14 →
    let failed (status : Nat) : Dev :=
      { s.dev.shiftReply with safe := { s.dev.safe with last := .failed status (ofBytesBE ((b.drop 1).take 2)) (b.getD 3 0) } }
    (crc16 (b.take 12) ≠ ofBytesBE (b.drop 12) → Gives (.safeBadFrame 112 bytes) s (((failed 1).bump F.SAFE_ERR_CNT_CRC).report 17)) ∧
    (crc16 (b.take 12) = ofBytesBE (b.drop 12) → b.getD 0 0 ∉ [0, 0x5A, 0xA5, 0x3C, 0xC3] →
      Gives (.safeBadFrame 112 bytes) s (((failed 6).bump F.SAFE_ERR_CNT_OTHER).report 20))) ∧
  (∀ (f : SafeFrame) (nbits : Nat) (bytes : List Byte) (s : State), s.dev.pwr.st ≠ .on →
    ∀ c ∈ [Instr.safeNop f, .safeRead f, .safeWrite f, .safeCommit f, .safeDiscard f, .safeBadFrame nbits bytes], Gives c s s.dev)
  )

/-- R71, R73 and R58: a commit puts every staged value in force as one, with the MRAM copy, in the store and in every consumer, with one audit entry for each changed entry, and ends BUSY; it waits while MRAM writes are suspended or the audit queue has no room;
R470: a failed read-back is reported as MRAM_ERR besides. R77 and R78: a cask word is read as the majority of its copies, one differing copy is rewritten and counted, three different copies are reported. R64 and R65: a pair that does not match, in the store or in a consumer,
is reported, and the consumers take every pair that matches; a digest that differs from the cask words is reported; nothing happens while they agree. Where it rests on a choice of the model: log entries 27 and 28. -/
def Obligations.BondedValuesAreKept : Prop :=
  (
  (∀ (s : State) (staged : List (Nat × Nat)), s.dev.safe.applying = some staged → s.dev.get F.NVM_STAT_SUSPENDED = 0 →
    s.audit.queue.length + 28 ≤ 32 →
    ∃ t v ch, exec (.safeCommitApply true) s = .next t ∧ v = applyEntries (s.dev.bond.pairs.map (·.1)) staged ∧
      ch = changedEntries (s.dev.bond.pairs.map (·.1)) v ∧
      t.dev.bond.inUse = (v.map bondPair).take s.dev.bond.inUse.length ∧ t.dev.bond.pairs = v.map bondPair ∧ t.dev.mram.bond = some (v.map bondPair) ∧
      t.dev.safe = { s.dev.safe with applying := none } ∧ t.dev.get F.SAFE_PORT_STAT_BUSY = 0 ∧ t.pending = s.pending ∧
      (s.dev.staged = none → t.audit = { s.audit with queue := s.audit.queue ++ ch.map (fun e => (none, bondEntry s.dev.T 3 e)) }) ∧
      exec (.safeCommitApply false) s = .next { t with dev := ((t.dev.bump F.NVM_ERR_UE).set F.NVM_ERR_ADDR 0x60800).report 87 }) ∧
  (∀ (ok : Bool) (s : State) (staged : List (Nat × Nat)), s.dev.safe.applying = some staged →
    (s.dev.get F.NVM_STAT_SUSPENDED = 1 ∨
      32 < s.audit.queue.length + (changedEntries (s.dev.bond.pairs.map (·.1)) (applyEntries (s.dev.bond.pairs.map (·.1)) staged)).length) →
    Gives (.safeCommitApply ok) s s.dev) ∧
  (∀ (ok : Bool) (s : State), s.dev.safe.applying = none → Gives (.safeCommitApply ok) s s.dev)
  ) ∧ (
  (∀ (n : Fin 64) (s : State) (v : Nat), s.PagesOpen → s.dev.bond.cask0.getD n.val 0 = v → s.dev.bond.cask1.getD n.val 0 = v →
    s.dev.bond.cask2.getD n.val 0 = v → Gives (.caskWordRead n) s (s.dev.emit (.cask n.val v))) ∧
  (∀ (n : Fin 64) (s : State) (u v : Nat), s.PagesOpen → u ≠ v →
    (s.dev.bond.cask0.getD n.val 0, s.dev.bond.cask1.getD n.val 0, s.dev.bond.cask2.getD n.val 0) ∈ [(u, v, v), (v, u, v), (v, v, u)] →
    Gives (.caskWordRead n) s (((({ s.dev with
      bond := { s.dev.bond with
        cask0 := setAt s.dev.bond.cask0 n.val (fun _ => v), cask1 := setAt s.dev.bond.cask1 n.val (fun _ => v),
        cask2 := setAt s.dev.bond.cask2 n.val (fun _ => v) } } : Dev).emit (.cask n.val v)).bump F.SAFE_CASK_STAT_FIX_CNT).set F.SAFE_CASK_STAT_LAST_WORD n.val)) ∧
  (∀ (n : Fin 64) (s : State) (a b c : Nat), s.PagesOpen → s.dev.bond.cask0.getD n.val 0 = a → s.dev.bond.cask1.getD n.val 0 = b →
    s.dev.bond.cask2.getD n.val 0 = c → a ≠ b → b ≠ c → a ≠ c →
    Gives (.caskWordRead n) s (((s.dev.emit (.cask n.val ((a &&& b) ||| (a &&& c) ||| (b &&& c)))).set F.SAFE_CASK_STAT_LAST_WORD n.val).report 13)) ∧
  (∀ s : State, s.dev.pwr.st = .on → (∀ p ∈ s.dev.bond.pairs ++ s.dev.bond.inUse, p.2 = 0xFFFFFFFF - p.1) → Gives .bondedPairCheck s s.dev) ∧
  (∀ (s : State) (p : Nat × Nat), s.dev.pwr.st = .on → p ∈ s.dev.bond.pairs ++ s.dev.bond.inUse → p.2 ≠ 0xFFFFFFFF - p.1 →
    Gives .bondedPairCheck s (({ s.dev with
      bond := { s.dev.bond with
        inUse := List.zipWith (fun p u => if p.2 = 0xFFFFFFFF - p.1 then p else u) s.dev.bond.pairs s.dev.bond.inUse } } : Dev).report 12)) ∧
  (∀ (s : State) (d : Dev), s.dev.pwr.st = .on → s.dev.safe.loaded = true → d = s.dev.voteCasks [4, 5, 6, 7, 8, 9, 10, 11] →
    (bondDigest (d.bond.pairs.map (·.1)) ≠ (List.range 8).map (fun k => d.cask (4 + k)) → Gives .bondedDigestCheck s (d.report 12)) ∧
    (bondDigest (d.bond.pairs.map (·.1)) = (List.range 8).map (fun k => d.cask (4 + k)) → Gives .bondedDigestCheck s d)) ∧
  (∀ s : State, s.dev.pwr.st ≠ .on → Gives .bondedPairCheck s s.dev ∧ Gives .bondedDigestCheck s s.dev) ∧
  (∀ s : State, s.dev.safe.loaded = false → Gives .bondedDigestCheck s s.dev)
  )

/-! ### The sluice (file 03) -/

/-- R84 and R90: a ring's ENABLE takes effect at once when none of its descriptors is in flight, else at the end of the drain; it takes the geometry and starts the indexes at 0 with phase 1. DISABLE ends it
and bounds the indexes by the stored sizes again; CLEAR empties its counts. R86, R89, R91, R95 and R100: the eight words of a descriptor that is done, or of the oldest job record, go to the slot at CQ_TAIL with the phase, and the tail moves on;
a flagged record sends the interrupt at once without a coalescing time or at the count, else counts towards it; the wait's end sends it; NO_CPL suppresses an OK record. Where it rests on a choice of the model: log entry 54. -/
def Obligations.RingsStartStopAndReport : Prop :=
  (
  (∀ (rq : Requester) (r : Ring) (s : State), s.Ready rq 0 → s.dev.get F.SLU_R_CTRL_ENABLE r.val = 0 → (∀ x ∈ s.dev.descs, x.ring ≠ r.val) →
    Completes (.ringEnable rq r) s (fun d => ∃ regs : RegFile,
      d = ({ s.dev with regs := regs } : Dev).modRing r.val (fun g =>
        { g with
          active := true, draining := false, sqBase := s.dev.get F.SLU_R_SQ_BASE r.val * 4096, sqN := s.dev.get F.SLU_R_SQ_CFG_ENTRIES r.val,
          cqBase := s.dev.get F.SLU_R_CQ_BASE r.val * 4096, cqN := s.dev.get F.SLU_R_CQ_CFG_ENTRIES r.val }) ∧
      d.get F.SLU_R_CTRL_ENABLE r.val = 1 ∧ d.get F.SLU_R_STAT_ACTIVE r.val = 1 ∧ d.get F.SLU_R_STAT_DRAINING r.val = 0 ∧
      d.get F.SLU_R_SQ_HEAD r.val = 0 ∧ d.get F.SLU_R_SQ_TAIL r.val = 0 ∧ d.get F.SLU_R_CQ_HEAD r.val = 0 ∧
      d.get F.SLU_R_CQ_TAIL_INDEX r.val = 0 ∧ d.get F.SLU_R_CQ_TAIL_PHASE r.val = 1 ∧
      Dev.SameRegsBut s.dev d ([F.SLU_R_CTRL_ENABLE, F.SLU_R_STAT_ACTIVE, F.SLU_R_STAT_DRAINING, F.SLU_R_SQ_HEAD, F.SLU_R_SQ_TAIL, F.SLU_R_CQ_HEAD,
        F.SLU_R_CQ_TAIL_INDEX, F.SLU_R_CQ_TAIL_PHASE].map (fun f => f.key r.val 0)))) ∧
  (∀ (rq : Requester) (r : Ring) (s : State) (x : Desc), s.Ready rq 0 → s.dev.get F.SLU_R_CTRL_ENABLE r.val = 0 → x ∈ s.dev.descs → x.ring = r.val →
    Gives (.ringEnable rq r) s (((s.dev.set F.SLU_R_CTRL_ENABLE 1 r.val).set F.SLU_R_STAT_DRAINING 1 r.val).modRing r.val
      (fun g => { g with draining := true }))) ∧
  (∀ (rq : Requester) (r : Ring) (s : State), s.Ready rq 0 → s.dev.get F.SLU_R_CTRL_ENABLE r.val ≠ 0 → Gives (.ringEnable rq r) s s.dev) ∧
  (∀ (rq : Requester) (r : Ring) (s : State), s.Ready rq 0 →
    Completes (.ringDisable rq r) s (fun d => ∃ regs : RegFile,
      d = ({ s.dev with regs := regs } : Dev).modRing r.val (fun g => { g with active := false, draining := false }) ∧
      d.get F.SLU_R_CTRL_ENABLE r.val = 0 ∧ d.get F.SLU_R_STAT_ACTIVE r.val = 0 ∧ d.get F.SLU_R_STAT_DRAINING r.val = 0 ∧
      d.get F.SLU_R_SQ_TAIL r.val = min (s.dev.get F.SLU_R_SQ_TAIL r.val) (d.get F.SLU_R_SQ_CFG_ENTRIES r.val - 1) ∧
      d.get F.SLU_R_CQ_HEAD r.val = min (s.dev.get F.SLU_R_CQ_HEAD r.val) (d.get F.SLU_R_CQ_CFG_ENTRIES r.val - 1) ∧
      d.get F.SLU_R_SQ_CFG_ENTRIES r.val = clampEntries (s.dev.get F.SLU_R_SQ_CFG_ENTRIES r.val) ∧
      d.get F.SLU_R_CQ_CFG_ENTRIES r.val = clampEntries (s.dev.get F.SLU_R_CQ_CFG_ENTRIES r.val) ∧
      Dev.SameRegsBut s.dev d ([F.SLU_R_CTRL_ENABLE, F.SLU_R_STAT_ACTIVE, F.SLU_R_STAT_DRAINING, F.SLU_R_SQ_TAIL, F.SLU_R_CQ_HEAD,
        F.SLU_R_SQ_CFG_ENTRIES, F.SLU_R_CQ_CFG_ENTRIES].map (fun f => f.key r.val 0)))) ∧
  (∀ (r : Ring) (s : State), (s.dev.ring r.val).draining = true → (∀ x ∈ s.dev.descs, x.ring ≠ r.val) →
    Completes (.ringDrainEnd r) s (fun d => ∃ regs : RegFile,
      d = ({ s.dev with regs := regs } : Dev).modRing r.val (fun g =>
        { g with
          active := true, draining := false, sqBase := s.dev.get F.SLU_R_SQ_BASE r.val * 4096, sqN := s.dev.get F.SLU_R_SQ_CFG_ENTRIES r.val,
          cqBase := s.dev.get F.SLU_R_CQ_BASE r.val * 4096, cqN := s.dev.get F.SLU_R_CQ_CFG_ENTRIES r.val }) ∧
      d.get F.SLU_R_STAT_ACTIVE r.val = 1 ∧ d.get F.SLU_R_STAT_DRAINING r.val = 0 ∧
      d.get F.SLU_R_SQ_HEAD r.val = 0 ∧ d.get F.SLU_R_SQ_TAIL r.val = 0 ∧ d.get F.SLU_R_CQ_HEAD r.val = 0 ∧
      d.get F.SLU_R_CQ_TAIL_INDEX r.val = 0 ∧ d.get F.SLU_R_CQ_TAIL_PHASE r.val = 1 ∧
      Dev.SameRegsBut s.dev d ([F.SLU_R_STAT_ACTIVE, F.SLU_R_STAT_DRAINING, F.SLU_R_SQ_HEAD, F.SLU_R_SQ_TAIL, F.SLU_R_CQ_HEAD,
        F.SLU_R_CQ_TAIL_INDEX, F.SLU_R_CQ_TAIL_PHASE].map (fun f => f.key r.val 0)))) ∧
  (∀ (r : Ring) (s : State), (s.dev.ring r.val).draining = false ∨ (∃ x ∈ s.dev.descs, x.ring = r.val) → Gives (.ringDrainEnd r) s s.dev) ∧
  (∀ (rq : Requester) (r : Ring) (s : State), s.Ready rq 0 →
    Gives (.ringCountClear rq r) s ((s.dev.set F.SLU_R_CNT_ERR_CNT 0 r.val).set F.SLU_R_CNT_CQ_LOST 0 r.val))
  ) ∧ (
  ∀ (r : Ring) (s : State) (n tail phase : Nat), s.dev.pwr.link = true → s.dev.pwr.bme = true → n = (s.dev.ring r.val).cqN →
    tail = s.dev.get F.SLU_R_CQ_TAIL_INDEX r.val → phase = s.dev.get F.SLU_R_CQ_TAIL_PHASE r.val →
    let written (d : Dev) (ws : List Nat) : Dev :=
      ((d.emit (.cq r.val tail ((s.dev.ring r.val).cqBase + 32 * tail) ws)).set F.SLU_R_CQ_TAIL_INDEX (if tail + 1 < n then tail + 1 else 0) r.val).set
        F.SLU_R_CQ_TAIL_PHASE (if tail + 1 < n then phase else 1 - phase) r.val
    let signalled (d : Dev) (c : Instr) : Prop :=
      (s.dev.get F.SLU_R_CQ_CFG_COAL_US r.val = 0 ∨ (s.dev.get F.SLU_R_CQ_CFG_COAL_CNT r.val ≠ 0 ∧
          s.dev.get F.SLU_R_CQ_CFG_COAL_CNT r.val ≤ (s.dev.ring r.val).flagged + 1) →
        r.val < s.dev.rings.length →
        Gives c s ((d.msixDue (s.dev.get F.SLU_R_CQ_CFG_VECTOR r.val)).modRing r.val (fun g => { g with flagged := 0, coalAt := none }))) ∧
      (s.dev.get F.SLU_R_CQ_CFG_COAL_US r.val ≠ 0 → (s.dev.get F.SLU_R_CQ_CFG_COAL_CNT r.val = 0 ∨
          (s.dev.ring r.val).flagged + 1 < s.dev.get F.SLU_R_CQ_CFG_COAL_CNT r.val) → r.val < s.dev.rings.length →
        Gives c s (d.modRing r.val (fun g => { g with
          flagged := g.flagged + 1, coalAt := some (g.coalAt.getD (s.dev.raw + s.dev.get F.SLU_R_CQ_CFG_COAL_US r.val * 1000)) })))
    (∀ (pre post : List Desc) (x : Desc), s.dev.descs = pre ++ x :: post → (∀ y ∈ pre, y.ring = r.val → s.dev.descDone y = false) → x.ring = r.val →
      x.phase = .ended → x.unacked = [] → x.silent = false → (x.fence = true → ∀ y ∈ pre ++ post, y.ring = r.val → x.order ≤ y.order) →
      (∀ k ∈ x.kept, k.beaten = false) →
      (x.noCpl = true → x.status = 0 → Gives (.completionRecordWrite r) s { s.dev with descs := pre ++ post }) ∧
      (x.noCpl = false ∨ x.status ≠ 0 → n ≠ 0 → (tail + 1) % n ≠ s.dev.get F.SLU_R_CQ_HEAD r.val →
        ∃ e w, e = ({ s.dev with descs := pre ++ post } : Dev) ∧
          w = written (if x.status = 0 then e else e.bump F.SLU_R_CNT_ERR_CNT r.val)
            [phase * 2147483648 + 268435456 + x.status * 16777216 + r.val * 65536 + (if x.opcode = 0 then 0 else x.tag), x.cookie, x.slot,
             x.stored % 4294967296, (if x.opcode = 0 then 0 else x.first) % 4294967296, (if x.opcode = 0 then 0 else x.first) / 4294967296 % 65536,
             s.dev.T % 4294967296, s.dev.T / 4294967296 % 4294967296] ∧
          (x.irq = false → Gives (.completionRecordWrite r) s w) ∧ (x.irq = true → signalled w (.completionRecordWrite r)))) ∧
    ((∀ x ∈ s.dev.descs, x.ring = r.val → s.dev.descDone x = false) → ∀ (x : CqRec) (q : List CqRec), (s.dev.ring r.val).jobQ = x :: q →
      (s.dev.ring r.val).active = true → n ≠ 0 → (tail + 1) % n ≠ s.dev.get F.SLU_R_CQ_HEAD r.val →
      ∃ w, w = written (s.dev.modRing r.val (fun g => { g with jobQ := q }))
            [phase * 2147483648 + x.type * 268435456 + x.status * 16777216 + r.val * 65536 + x.tag, x.cookie, x.event * 65536 + x.sqIndex, x.count % 4294967296,
             x.line % 4294967296, x.line / 4294967296 % 65536, x.time % 4294967296, x.time / 4294967296 % 4294967296] ∧
        (x.irq = false → Gives (.completionRecordWrite r) s w) ∧ (x.irq = true → signalled w (.completionRecordWrite r)))
  ) ∧ (
  (∀ (r : Ring) (s : State), s.dev.pwr.link = false ∨ s.dev.pwr.bme = false → Gives (.completionRecordWrite r) s s.dev) ∧
  (∀ (r : Ring) (s : State) (t : Nat), (s.dev.ring r.val).coalAt = some t →
    (t ≤ s.dev.raw → (s.dev.ring r.val).flagged ≠ 0 →
      Gives (.cqCoalTimeout r) s ((s.dev.msixDue (s.dev.get F.SLU_R_CQ_CFG_VECTOR r.val)).modRing r.val (fun g => { g with flagged := 0, coalAt := none }))) ∧
    (s.dev.raw < t → Gives (.cqCoalTimeout r) s s.dev)) ∧
  (∀ (r : Ring) (s : State), (s.dev.ring r.val).coalAt = none → Gives (.cqCoalTimeout r) s s.dev)
  )

/-- R88, R91, R93 and R302: in its arbitration turn a ring takes up to 2^WEIGHT of the descriptors posted, with the fields of R91, and passes their slots; without the turn it waits; a read that fails
consumes the slot with STATUS PCIE_ERR and reports PCIE_RASTER_ERR. R91, R92 and R112: a NOP ends at once; a descriptor of another opcode ends as BAD_DESC; the checks are made in their order, and the first that fails is the STATUS, STALE
also counted; one without raster ends at once; one that passes moves raster once DRAM is ready, and its source reads go out (R82). Where it rests on a choice of the model: log entries 47, 53 and 117. -/
def Obligations.DescriptorsAreFetched : Prop :=
  (
  (∀ (r : Ring) (ds : List (List Word)) (s : State) (n k : Nat), s.dev.TurnIs r.val → n = max 1 (s.dev.ring r.val).sqN → n ≤ 65536 →
    k = min ds.length (min (s.dev.fetchable r.val) (2 ^ s.dev.get F.SLU_R_SQ_CFG_WEIGHT r.val)) →
    Completes (.descriptorFetch r ds) s (fun d =>
      d.turn = r.val ∧ (k ≠ 0 → d.get F.SLU_R_SQ_HEAD r.val = (s.dev.get F.SLU_R_SQ_HEAD r.val + k) % n) ∧ d.descs.length = s.dev.descs.length + k ∧
      (s.dev.get F.ECC_FLIP_CTRL_ARMED = 0 →
        d = ({ s.dev with
          regs := d.regs, turn := r.val,
          descs := s.dev.descs ++ ((ds.take k).zipIdx.map (fun (e : List Word × Nat) =>
            let w (i : Nat) : Nat := (e.1.getD i 0).toNat
            { ring := r.val, slot := if e.2 = 0 then s.dev.get F.SLU_R_SQ_HEAD r.val else (s.dev.get F.SLU_R_SQ_HEAD r.val + e.2) % n,
              order := (s.dev.ring r.val).order + e.2, opcode := w 0 % 256,
              fence := (w 0).testBit 8, irq := (w 0).testBit 9, noCpl := (w 0).testBit 10, tag := w 0 / 65536 % 65536, cookie := w 1, barMask := w 2 % 256,
              first := w 3 + w 4 % 65536 * 4294967296, count := w 5, src := w 6 + w 7 * 4294967296, length := w 8 })) } : Dev).modRing r.val
            (fun g => { g with order := g.order + k }) ∧
        Dev.SameRegsBut s.dev d [F.SLU_R_SQ_HEAD.key r.val 0]))) ∧
  (∀ (r : Ring) (s : State), s.dev.TurnIs r.val →
    Gives (.descriptorFetchError r) s ((({ s.dev.set F.SLU_R_SQ_HEAD ((s.dev.get F.SLU_R_SQ_HEAD r.val + 1) % max 1 (s.dev.ring r.val).sqN) r.val with
      turn := r.val,
      descs := s.dev.descs ++ [{ descOf r.val (s.dev.get F.SLU_R_SQ_HEAD r.val) (s.dev.ring r.val).order (fun _ => 0) with
        opcode := 2, phase := .ended, status := 7 }] } : Dev).modRing r.val (fun g => { g with order := g.order + 1 })).report 90)) ∧
  (∀ (r : Ring) (ds : List (List Word)) (s : State), ¬ s.dev.TurnIs r.val → Gives (.descriptorFetch r ds) s s.dev ∧ Gives (.descriptorFetchError r) s s.dev)
  ) ∧ (
  ∀ (r : Ring) (slot : Nat) (s : State) (pre post : List Desc) (x : Desc), s.dev.descs = pre ++ x :: post →
    x.ring = r.val → x.slot = slot → x.phase = .fetched →
    (x.opcode = 0 → (∀ y ∈ pre, ¬(y.ring = r.val ∧ y.slot = slot ∧ y.phase = .fetched ∧ y.opcode = 0)) →
      Gives (.descNop r slot) s { s.dev with descs := pre ++ { x with phase := .ended } :: post }) ∧
    (x.opcode ≠ 0 → (∀ y ∈ pre, ¬(y.ring = r.val ∧ y.slot = slot ∧ y.phase = .fetched ∧ y.opcode ≠ 0)) →
      let ends (st : Nat) : Dev := { s.dev with descs := pre ++ { x with phase := .ended, status := st } :: post }
      (x.opcode ≠ 1 → Gives (.descRaster r slot) s (ends 5).pump) ∧
      (x.opcode = 1 → ∀ j, j = s.dev.job (x.tag % 512) →
        (j.gen ≠ x.tag / 512 ∨ j.st = .free ∨ j.st = .draining → Gives (.descRaster r slot) s ((ends 1).bump F.SLU_STALE_CNT).pump) ∧
        (j.gen = x.tag / 512 →
          (j.st = .done ∨ j.st = .aborted → Gives (.descRaster r slot) s (ends 2).pump) ∧
          (j.st = .opened ∨ j.st = .armed ∨ j.st = .running →
            (x.length = 0 ∨ x.count = 0 ∨ x.barMask = 0 → x.status = 0 → Gives (.descRaster r slot) s (ends 0).pump) ∧
            (x.length ≠ 0 → x.count ≠ 0 → x.barMask ≠ 0 →
              (x.src % 64 ≠ 0 ∨ (j.ctx.perStored = 2 ∧ (x.first % 2 ≠ 0 ∨ x.count % 2 ≠ 0)) → Gives (.descRaster r slot) s (ends 5).pump) ∧
              (x.src % 64 = 0 → (j.ctx.perStored = 2 → x.first % 2 = 0 ∧ x.count % 2 = 0) →
                (j.ctx.lineCount < x.first + x.count ∨ x.barMask &&& j.ctx.barMask ≠ x.barMask → Gives (.descRaster r slot) s (ends 3).pump) ∧
                (x.first + x.count ≤ j.ctx.lineCount → x.barMask &&& j.ctx.barMask = x.barMask →
                  (j.ctx.compressed = false → x.length ≠ x.total j.ctx * j.ctx.slot → Gives (.descRaster r slot) s (ends 4).pump) ∧
                  (j.ctx.compressed = true ∨ x.length = x.total j.ctx * j.ctx.slot →
                    (s.dev.get F.ECC_STAT_DRAM_DONE ≠ 0 →
                      Gives (.descRaster r slot) s ({ s.dev.leaveSleep with descs := pre ++ { x with phase := .moving } :: post } : Dev).pump) ∧
                    (s.dev.get F.ECC_STAT_DRAM_DONE = 0 → Gives (.descRaster r slot) s s.dev.leaveSleep.pump)))))))))
  )

/-- R93, R94, R112, R124 and R125: raster bytes are kept in order until a bar-line is whole; a whole one with room in its area is stored at its place and awaits DRAM's acknowledgement, one whose line the bar has read is refused
as LATE, and one without room waits; the last one ends the descriptor, and one that waited goes on likewise. A coded bar-line (R97, R134, R136) is stored with its index entry, and a bad header is FORMAT. On a FREE or DRAINING
index the descriptor ends as STALE, counted. A failed completion and a timeout end it with PCIE_ERR and report PCIE_RASTER_ERR. Then source reads go out (R82). Where it rests on a choice of the model: log entries 59, 60, 116 and 124. -/
def Obligations.RasterIsStored : Prop :=
  ∀ (r : Ring) (slot : Nat) (s : State) (pre post : List Desc) (x : Desc) (j : Job), s.dev.descs = pre ++ x :: post →
    x.ring = r.val → x.slot = slot → j = s.dev.job (x.tag % 512) →
    (x.phase = .moving → s.dev.awaits x = true → (∀ y ∈ pre, ¬(y.ring = r.val ∧ y.slot = slot ∧ s.dev.awaits y = true)) →
      (x.status = 0 → j.st ≠ .free → j.st ≠ .draining → ∀ data : List Byte, Gives (.rasterReadCompletion r slot false data) s
        (({ s.dev with descs := pre ++ { x with status := 7, phase := .ended, got := [] } :: post } : Dev).report 90).pump) ∧
      (x.status = 0 → Gives (.rasterReadTimeout r slot) s
        (({ s.dev with
          descs := pre ++ { x with status := 7, phase := .ended, got := [] } :: post,
          pwr := { s.dev.pwr with cfg := { s.dev.pwr.cfg with aerUncor := s.dev.pwr.cfg.aerUncor ||| 16384 } } } : Dev).report 90).pump) ∧
      (x.status = 0 → j.st = .free ∨ j.st = .draining → ∀ data : List Byte, Gives (.rasterReadCompletion r slot true data) s
        (({ s.dev with descs := pre ++ { x with status := 1, phase := .ended, got := [] } :: post } : Dev).bump F.SLU_STALE_CNT).pump)) ∧
    (j.st ≠ .free → j.st ≠ .draining → x.status = 0 →
      ∀ (go : State → Host.Outcome State Fault Refusal) (raw : List Nat) (d : Dev),
      (x.phase = .moving ∧ s.dev.awaits x = true ∧ (∀ y ∈ pre, ¬(y.ring = r.val ∧ y.slot = slot ∧ s.dev.awaits y = true)) ∧
        d = s.dev.answered r.val x.order (x.consumed + raw.length) ∧ x.consumed + raw.length ≤ x.asked ∧
        (∃ data : List Byte, raw = x.got ++ data.map (·.toNat) ∧ go = exec (.rasterReadCompletion r slot true data))) ∨
      (x.phase = .room ∧ (∀ y ∈ pre, ¬(y.ring = r.val ∧ y.slot = slot ∧ y.phase = .room)) ∧ d = s.dev ∧ raw = x.got ∧ go = exec (.descriptorResume r slot)) →
      let after (d : Dev) (y : Desc) : Prop := go s = .next { s with dev := ({ d with descs := setAt d.descs pre.length (fun _ => y) } : Dev).pump }
      ∀ (b l n : Nat), (b, l) = x.place j.ctx x.taken → x.taken < x.total j.ctx →
      let used (last : Bool) (n : Nat) : Desc :=
        { x with got := [], taken := x.taken + 1, consumed := x.consumed + n, phase := if last then .ended else .moving }
      (j.ctx.compressed = false → n = j.ctx.slot →
        (raw.length < n → x.consumed + raw.length < x.length → after d { x with phase := .moving, got := raw }) ∧
        (raw.length = n → 0 < n → x.consumed = x.taken * n → x.length = x.total j.ctx * n → ∀ last : Bool, last = decide (x.taken + 1 = x.total j.ctx) →
          (j.past b l = true → after d { used last n with status := 6 }) ∧
          (j.past b l = false → j.room b l = false → after d { x with phase := .room, got := raw }) ∧
          (j.past b l = false → j.room b l = true →
            after ((d.overwrite x.tag b l).dramWrite (j.slotAddr b l) (raw.take j.ctx.rawSize))
              { used last n with
                unacked := x.unacked ++ [⟨b, l, j.slotAddr b l, n⟩], stored := x.stored + n,
                kept := x.kept ++ [{ bar := b, line := l, addr := j.slotAddr b l, bytes := raw.take j.ctx.rawSize, offset := 0 }] }))) ∧
      (j.ctx.compressed = true → 4 ≤ raw.length →
        ∀ h, h = ofBytesLE (raw.take 4) → n = h % 16777216 →
        (h / 268435456 % 16 ≠ 1 ∨ n < 4 ∨ 4 + j.ctx.rawSize + cdiv j.ctx.rawSize 64 < n → after d { x with status := 9, phase := .ended, got := [] }) ∧
        (h / 268435456 % 16 = 1 → 4 ≤ n → n ≤ 4 + j.ctx.rawSize + cdiv j.ctx.rawSize 64 → x.taken + 1 = x.total j.ctx → raw.length = n → x.consumed + n = x.length →
          (j.past b l = true → after d { used true n with status := 6 }) ∧
          (∀ o : Nat, j.past b l = false → j.ctx.rep = false → j.room b l = true →
            (j.bar b).place (j.geo.areas.getD b {}).size (pad64 n) = some o → ∀ base, base = (j.geo.areas.getD b {}).base →
            ∃ e : Dev, e = (((d.overwrite x.tag b l).dramWrite (base + o) raw).dramWrite (j.indexAddr b l) (bytesLE 4 (o / 64) ++ bytesLE 4 n)).modBarJob
                (x.tag % 512) b (fun y => BarJob.reclaim { y with
                  coded := (y.coded.map (fun (c : Coded) => if c.line = l && !d.inFlight c.ring c.order then { c with released := true } else c)) ++
                    [⟨l, o, pad64 n, n, r.val, x.order, false⟩],
                  allocAt := o + pad64 n }) ∧
              after e { used true n with
                unacked := x.unacked ++ [⟨b, l, base + o, n⟩], stored := x.stored + n,
                kept := x.kept ++ [{ bar := b, line := l, addr := base + o, bytes := raw, offset := o / 64 }] }))))

/-- R80, R81, R409, R434 and R437: Bus Master Enable is taken and lets pending messages go; unmasking a vector sends its pending message; PERST# resets the endpoint and drops the link, reported, and a
function-level reset resets it alone: the rings are disabled, the host's session is closed, the configuration space is as at reset, and descriptors in flight end without a record; the end of PERST# trains the link once booted; a link that goes down is
reported. Where it rests on a choice of the model: log entries 15, 36 and 119. -/
def Obligations.EndpointFollowsTheBus : Prop :=
  (
  (∀ s : State, s.dev.pwr.link = true → Gives (.busMasterEnable false) s { s.dev with pwr := { s.dev.pwr with bme := false } }) ∧
  (∀ s : State, s.dev.pwr.link = true → s.dev.pwr.cfg.maskAll = false → s.dev.pwr.msix.length = 64 →
    Gives (.busMasterEnable true) s ({ s.dev with
      pwr := { s.dev.pwr with bme := true, msix := s.dev.pwr.msix.map (fun e => if e.masked then e else { e with pending := false }) },
      outbox := s.dev.outbox ++ (s.dev.pwr.msix.zipIdx.filter (fun e => e.1.pending && !e.1.masked)).map
        (fun e => Output.msix e.2 (e.1.addrHi * 4294967296 + e.1.addrLo) e.1.data) } : Dev)) ∧
  (∀ s : State, s.dev.pwr.link = true → s.dev.pwr.cfg.maskAll = true → Gives (.busMasterEnable true) s { s.dev with pwr := { s.dev.pwr with bme := true } }) ∧
  (∀ (v : Fin 64) (s : State) (e : Msix), s.dev.pwr.link = true → s.dev.pwr.msix[v.val]? = some e →
    (s.dev.pwr.bme = true → s.dev.pwr.cfg.maskAll = false → e.pending = true →
      Gives (.msixVectorUnmask v) s (({ s.dev with
        pwr := { s.dev.pwr with msix := setAt s.dev.pwr.msix v.val (fun _ => { e with masked := false, pending := false }) } } : Dev).emit
          (.msix v.val (e.addrHi * 4294967296 + e.addrLo) e.data))) ∧
    (s.dev.pwr.bme = false ∨ s.dev.pwr.cfg.maskAll = true ∨ e.pending = false →
      Gives (.msixVectorUnmask v) s { s.dev with pwr := { s.dev.pwr with msix := setAt s.dev.pwr.msix v.val (fun _ => { e with masked := false }) } })) ∧
  (∀ (v : Fin 64) (b : Bool) (s : State), s.dev.pwr.link = false → Gives (.msixVectorUnmask v) s s.dev ∧ Gives (.busMasterEnable b) s s.dev)
  ) ∧ (
  let endpointReset (s : State) (d : Dev) : Prop :=
    { d.pwr with link := s.dev.pwr.link, linkGen := s.dev.pwr.linkGen, linkLanes := s.dev.pwr.linkLanes, msix := [] } =
      { s.dev.pwr with bme := false, cfg := {}, msix := [] } ∧
    d.host = { s.dev.host with st := .closed, role := 0, chal := [], deadline := 0 } ∧ d.cellar = s.dev.cellar ∧ d.reads = [] ∧
    (∀ r < 8, d.get F.SLU_R_CTRL_ENABLE r = 0 ∧ (d.ring r).active = false ∧ (d.ring r).draining = false) ∧
    (∀ x ∈ d.descs, x.silent = true ∧ x.phase = .ended ∧ x.unacked ≠ []) ∧
    (d.mram, d.dram, d.check, d.tb, d.safe, d.bond, d.pos, d.spouts, d.raw, fun i => (d.job i).core) =
      (s.dev.mram, s.dev.dram, s.dev.check, s.dev.tb, s.dev.safe, s.dev.bond, s.dev.pos, s.dev.spouts, s.dev.raw, fun i => (s.dev.job i).core)
  (∀ s : State, s.dev.pwr.st = .on → s.dev.pwr.link = true →
    Completes .functionLevelReset s (fun d => endpointReset s d ∧ d.pwr.link = true ∧ d.pwr.msix = List.replicate 64 {} ∧ d.pins = s.dev.pins ∧ d.flt = s.dev.flt)) ∧
  (∀ s : State, s.dev.pwr.st = .on →
    Completes .perstAssert s (fun d => endpointReset s d ∧ d.pins = { s.dev.pins with perst := false } ∧ d.pwr.link = false ∧
      (s.dev.pwr.link = true → d.pwr.linkGen = 0 ∧ d.pwr.linkLanes = 0 ∧ has d.flt.status (fkey 89 0) = true))) ∧
  (∀ s : State, s.dev.pwr.st ≠ .on → Gives .perstAssert s { s.dev with pins := { s.dev.pins with perst := false } }) ∧
  (∀ s : State, s.dev.pwr.st ≠ .on ∨ s.dev.pwr.link = false → Gives .functionLevelReset s s.dev) ∧
  (∀ s : State, s.dev.pwr.st = .on → s.dev.pwr.booted = true →
    Completes .perstDeassert s (fun d => d.pins = { s.dev.pins with perst := true } ∧ d.pwr.link = true ∧
      (s.dev.pwr.link = false → d.pwr = { s.dev.pwr with link := true, linkGen := d.pwr.linkGen, linkLanes := d.pwr.linkLanes } ∧
        d.pwr.linkGen ∈ [1, 2, 3, 4, 5] ∧ d.pwr.linkLanes ∈ [1, 2, 4, 8, 16]))) ∧
  (∀ s : State, s.dev.pwr.st ≠ .on ∨ s.dev.pwr.booted = false → Gives .perstDeassert s { s.dev with pins := { s.dev.pins with perst := true } }) ∧
  (∀ s : State, s.dev.pwr.st = .on → s.dev.pwr.link = true →
    Gives .pcieLinkDown s (({ s.dev with pwr := { s.dev.pwr with link := false, linkGen := 0, linkLanes := 0 } } : Dev).report 89)) ∧
  (∀ s : State, s.dev.pwr.st ≠ .on ∨ s.dev.pwr.link = false → Gives .pcieLinkDown s s.dev)
  )

/-! ### The cellar book and the cisterns (files 03 and 04) -/

/-- R108, R109, R111, R123, R441 and R472: OPEN of a FREE index that fits takes the staged context with the next generation; one that does not fit answers CAPACITY, a DRAINING one BUSY, one in
another state BAD_STATE, and an unlisted OP BAD_OP, each changing nothing else. UPDATE of an OPEN context that fits takes the staged fields, and keeps the stored lines where the values that place them are the same; it is BUSY
while such lines are on their way. Every command answers with DONE, CODE and TAG; without the cellar processor it only clears DONE. Where it rests on a choice of the model: log entry 48 and the docstring of Dev.jobUpdate. Where it rests on a choice of the model: log entries 48 and 49. -/
def Obligations.JobIsOpened : Prop :=
  ∀ (rq : Requester) (s : State) (i : Nat) (b : Dev), s.Ready rq 0 → i = s.dev.get F.SLU_JOB_IDX → b = s.dev.set F.SLU_JOB_RESULT_DONE 0 →
    let res (d : Dev) (code : Nat) : Dev := ((d.set F.SLU_JOB_RESULT_DONE 1).set F.SLU_JOB_RESULT_CODE code).set F.SLU_JOB_RESULT_TAG ((d.job i).gen * 512 + i)
    (s.dev.pwr.running = true →
      (∀ j : Job, (s.dev.job i).st = .free →
        j = { st := .opened, gen := ((s.dev.job i).gen + 1) % 128, ctx := s.dev.stagedCtx, geo := s.dev.geometry s.dev.stagedCtx, bars := List.replicate 8 {} } →
        (s.dev.areaTaken i j = false → s.dev.fits j = true → Gives (.jobOpen rq) s (res ((b.setJob i j).writeBook i) 0)) ∧
        (s.dev.areaTaken i j = true ∨ s.dev.fits j = false → Gives (.jobOpen rq) s (res b 2))) ∧
      ((s.dev.job i).st = .draining → Gives (.jobOpen rq) s (res b 3)) ∧
      ((s.dev.job i).st ≠ .free → (s.dev.job i).st ≠ .draining → Gives (.jobOpen rq) s (res b 1)) ∧
      (∀ j : Job, (s.dev.job i).st = .opened → j = { s.dev.job i with ctx := s.dev.stagedCtx, geo := s.dev.geometry s.dev.stagedCtx } →
        (s.dev.areaTaken i j = true ∨ s.dev.fits j = false → Gives (.jobUpdate rq) s (res b 2)) ∧
        (s.dev.areaTaken i j = false → s.dev.fits j = true →
          (j.placing = (s.dev.job i).placing → Gives (.jobUpdate rq) s (res ((b.setJob i j).writeBook i) 0)) ∧
          (j.placing ≠ (s.dev.job i).placing →
            (s.dev.jobDescs i ≠ [] → (∃ x ∈ (s.dev.job i).bars, x.stored ≠ []) ∨ (∃ x ∈ s.dev.jobDescs i, x.unacked ≠ []) →
              Gives (.jobUpdate rq) s (res b 3)) ∧
            (s.dev.jobDescs i = [] ∨ ((∀ x ∈ (s.dev.job i).bars, x.stored = []) ∧ ∀ x ∈ s.dev.jobDescs i, x.unacked = []) →
              Gives (.jobUpdate rq) s (res ((b.setJob i { j with bars := List.replicate 8 {} }).writeBook i) 0))))) ∧
      ((s.dev.job i).st ≠ .opened → Gives (.jobUpdate rq) s (res b 1)) ∧
      (∀ op : BitVec 4, Gives (.jobBadOp rq op) s (res b 4))) ∧
    (s.dev.pwr.running = false → ∀ op : BitVec 4, ∀ c ∈ [Instr.jobOpen rq, .jobUpdate rq, .jobArm rq, .jobStart rq, .jobFinish rq, .jobAbort rq, .jobRelease rq,
      .jobRead rq, .jobBadOp rq op], Gives c s b)

/-- R111, R112, R113, R114 and R446: ARM makes an OPEN context ARMED, ends sleep, starts a START_AT job whose line has been passed, and a claim that waits for it; RELEASE frees a DONE or ABORTED one at once, or lets it drain while
messages are in flight; a drained one becomes FREE; READ shows the context's words; ABORT of a context that has not run makes it ABORTED, ends its descriptors and breaks the chain that waits for it. In another state each answers BAD_STATE. Where it rests on a choice of the model: log entry 47. -/
def Obligations.JobIsArmedReleasedAndRead : Prop :=
  (∀ (rq : Requester) (s : State) (i : Nat) (b : Dev), s.Ready rq 0 → s.dev.pwr.running = true → i = s.dev.get F.SLU_JOB_IDX → b = s.dev.set F.SLU_JOB_RESULT_DONE 0 →
    let res (d : Dev) (code : Nat) : Dev := ((d.set F.SLU_JOB_RESULT_DONE 1).set F.SLU_JOB_RESULT_CODE code).set F.SLU_JOB_RESULT_TAG ((d.job i).gen * 512 + i)
    ((s.dev.job i).st = .opened → ∀ e : Dev, e = (b.leaveSleep.readBook i).modJob i (fun j => { j with st := .armed }) →
      ((∀ x ∈ e.jobs, x.2.claimWait = true → x.2.ctx.nextTag ≠ s.dev.jobTag i) →
        ((e.job i).ctx.startAt = false ∨ e.horizon ≤ e.startDue (e.job i).ctx → Gives (.jobArm rq) s (res e 0)) ∧
        ((e.job i).ctx.startAt = true → e.startDue (e.job i).ctx < e.horizon →
          Completes (.jobArm rq) s (fun d => d = res (e.startJob i (e.startLine (e.job i).ctx) true) 0 ∧ e.Started d i (e.startLine (e.job i).ctx) true))) ∧
      (∀ (p line : Nat) (j : Job) (l r : List (Nat × Job)), e.jobs = l ++ (p, j) :: r → (∀ x ∈ l ++ r, x.2.claimWait = true → x.2.ctx.nextTag ≠ s.dev.jobTag i) →
        (∀ x ∈ l ++ r, x.1 ≠ p) → p ≠ i → j.claimWait = true → j.ctx.nextTag = s.dev.jobTag i → j.endLine = some line → (e.job i).ctx.empty = false → i < 512 → (e.job i).gen < 128 →
        e.segmentWaits line (if (e.job i).ctx.lpi1200 then 1 else 2) = false →
        Completes (.jobArm rq) s (fun d => (d.job i).st = .running ∧ (d.job i).p0 = line ∧ (d.job i).claimed = true ∧ (d.job p).succ = some i ∧
          d.get F.SLU_JOB_RESULT_DONE = 1 ∧ d.get F.SLU_JOB_RESULT_CODE = 0))) ∧
    ((s.dev.job i).st ≠ .opened → Gives (.jobArm rq) s (res b 1)) ∧
    ((s.dev.job i).st = .done ∨ (s.dev.job i).st = .aborted →
      (s.dev.inflight i = 0 → ∀ e : Dev, e = b.abortRecord i →
        Gives (.jobRelease rq) s (res (e.setJob i { gen := (e.job i).gen, ctx := (e.job i).ctx, prints := (e.job i).prints, defects := (e.job i).defects }) 0)) ∧
      (s.dev.inflight i ≠ 0 → Gives (.jobRelease rq) s (res (b.modJob i (fun j => { j with st := .draining })) 0))) ∧
    ((s.dev.job i).st ≠ .done → (s.dev.job i).st ≠ .aborted → Gives (.jobRelease rq) s (res b 1)) ∧
    (∀ e : Dev, e = b.readBook i →
      Completes (.jobRead rq) s (fun d => (∀ k < 16, d.get F.SLU_JOB_W k = (e.job i).ctx.words.getD k 0 % 4294967296) ∧ { d with regs := [] } = { e with regs := [] } ∧
        d.get F.SLU_JOB_RESULT_DONE = 1 ∧ d.get F.SLU_JOB_RESULT_CODE = 0 ∧ d.get F.SLU_JOB_RESULT_TAG = s.dev.jobTag i % 65536 ∧
        Dev.SameRegsBut e d ([F.SLU_JOB_RESULT_DONE.key 0 0, F.SLU_JOB_RESULT_CODE.key 0 0, F.SLU_JOB_RESULT_TAG.key 0 0] ++
          (List.range 16).map (fun k => F.SLU_JOB_W.key k 0)))) ∧
    ((s.dev.job i).st = .opened ∨ (s.dev.job i).st = .armed →
      Completes (.jobAbort rq) s (fun d => (d.job i).st = .aborted ∧ (d.job i).ctx = (s.dev.job i).ctx ∧ (d.job i).gen = (s.dev.job i).gen ∧
        d.get F.SLU_JOB_RESULT_DONE = 1 ∧ d.get F.SLU_JOB_RESULT_CODE = 0 ∧
        d.descs = s.dev.descs.map (fun x => if x.opcode = 1 ∧ x.tag = s.dev.jobTag i then { x with status := 8, phase := .ended, got := [] } else x) ∧
        (∀ k, k ≠ i → (∀ e ∈ s.dev.jobs, e.1 = k → e.2.claimWait = false) → (d.job k).core = (s.dev.job k).core) ∧
        (∀ e ∈ s.dev.jobs, e.1 ≠ i → e.2.claimWait = true → e.2.ctx.nextTag = s.dev.jobTag i → e.2.endLine ≠ none → (d.job e.1).broken = true))) ∧
    ((s.dev.job i).st ≠ .opened → (s.dev.job i).st ≠ .armed → (s.dev.job i).st ≠ .running → Gives (.jobAbort rq) s (res b 1))) ∧
  (∀ (i : JobIdx) (s : State),
    ((s.dev.job i.val).st = .draining → s.dev.inflight i.val = 0 → ∀ e : Dev, e = s.dev.abortRecord i.val →
      Gives (.jobDrainEnd i) s (e.setJob i.val { gen := (e.job i.val).gen, ctx := (e.job i.val).ctx, prints := (e.job i.val).prints, defects := (e.job i.val).defects })) ∧
    ((s.dev.job i.val).st ≠ .draining ∨ s.dev.inflight i.val ≠ 0 → Gives (.jobDrainEnd i) s s.dev))

/-- R111, R114 and R178: START, the line of START_AT, a free segment and a chain's claim each start an ARMED context at its press line: it is RUNNING there, an empty one is DONE at once, and one that a 17th segment would need waits; a
START_AT job whose line lies within the look-ahead starts as for START, late. A claim waits for an OPEN successor, and is broken by one that cannot follow. In another state START answers BAD_STATE. Where it rests on a choice of the model: log entries 48 and 51. -/
def Obligations.JobRuns : Prop :=
  (∀ (rq : Requester) (s : State) (i : Nat) (b : Dev), s.Ready rq 0 → s.dev.pwr.running = true → i = s.dev.get F.SLU_JOB_IDX → b = s.dev.set F.SLU_JOB_RESULT_DONE 0 →
    let res (d : Dev) (code : Nat) : Dev := ((d.set F.SLU_JOB_RESULT_DONE 1).set F.SLU_JOB_RESULT_CODE code).set F.SLU_JOB_RESULT_TAG ((d.job i).gen * 512 + i)
    ((s.dev.job i).st = .armed → (s.dev.job i).ctx.startAt = false → (s.dev.job i).claimed = false → ∀ e : Dev, e = b.leaveSleep.readBook i →
      Completes (.jobStart rq) s (fun d => d = res (e.startJob i (e.startLine (e.job i).ctx) false) 0 ∧ e.Started d i (e.startLine (e.job i).ctx) false)) ∧
    ((s.dev.job i).st ≠ .armed ∨ (s.dev.job i).ctx.startAt = true ∨ (s.dev.job i).claimed = true → Gives (.jobStart rq) s (res b 1))) ∧
  (∀ (i : JobIdx) (s : State) (j : Job), j = s.dev.job i.val →
    (s.dev.pwr.st = .on → s.dev.pwr.running = true → j.st = .armed → j.ctx.startAt = true → j.waiting = false → s.dev.startDue j.ctx ≤ s.dev.horizon →
      (s.dev.horizon < s.dev.lineNear j.ctx.startLine →
        Completes (.jobStartAt i) s (fun d => d = s.dev.startJob i.val (s.dev.lineNear j.ctx.startLine).toNat false ∧
          s.dev.Started d i.val (s.dev.lineNear j.ctx.startLine).toNat false)) ∧
      (s.dev.lineNear j.ctx.startLine ≤ s.dev.horizon →
        Completes (.jobStartAt i) s (fun d => d = s.dev.startJob i.val (s.dev.startLine j.ctx) true ∧ s.dev.Started d i.val (s.dev.startLine j.ctx) true))) ∧
    (s.dev.pwr.running = false ∨ j.st ≠ .armed ∨ j.ctx.startAt = false ∨ j.waiting = true ∨ s.dev.horizon < s.dev.startDue j.ctx → Gives (.jobStartAt i) s s.dev)) ∧
  (∀ (i : JobIdx) (s : State) (line n : Nat), s.dev.pwr.st = .on → s.dev.pwr.running = true → n = (s.dev.job i.val).ctx.nextTag % 512 →
    (s.dev.claimDue i.val = true → (s.dev.job i.val).claimWait = false → (s.dev.job i.val).endLine = some line →
      ((s.dev.job n).gen = (s.dev.job i.val).ctx.nextTag / 512 → (s.dev.job n).st = .armed → (s.dev.job n).ctx.empty = false →
        (s.dev.segmentWaits line (if (s.dev.job n).ctx.lpi1200 then 1 else 2) = false →
          Completes (.chainClaim i) s (fun d => (d.job i.val).succ = some n ∧
            (d.job n).core = { (s.dev.job n).core with
              st := .running, p0 := line, startLate := false, claimed := true, waiting := false, prints0 := none, bars := (d.job n).bars, strip := (d.job n).strip })) ∧
        (s.dev.segmentWaits line (if (s.dev.job n).ctx.lpi1200 then 1 else 2) = true →
          Gives (.chainClaim i) s (s.dev.modJob i.val (fun j => { j with claimWait := true })))) ∧
      ((s.dev.job n).gen = (s.dev.job i.val).ctx.nextTag / 512 → (s.dev.job n).st = .armed → (s.dev.job n).ctx.empty = true → (s.dev.job n).ctx.chain = false →
        Completes (.chainClaim i) s (fun d => (d.job i.val).succ = some n ∧
          (d.job n).core = { (s.dev.job n).core with st := .done, p0 := line, claimed := true, waiting := false })) ∧
      ((s.dev.job n).gen = (s.dev.job i.val).ctx.nextTag / 512 → (s.dev.job n).st = .opened →
        Gives (.chainClaim i) s (s.dev.modJob i.val (fun j => { j with claimWait := true }))) ∧
      ((s.dev.job n).gen ≠ (s.dev.job i.val).ctx.nextTag / 512 ∨ ((s.dev.job n).st ≠ .armed ∧ (s.dev.job n).st ≠ .opened) →
        Completes (.chainClaim i) s (fun d => (d.job i.val).core = { (s.dev.job i.val).core with broken := true, claimWait := false } ∧
          ∀ k, k ≠ i.val → (d.job k).core = (s.dev.job k).core))) ∧
    (s.dev.claimDue i.val = false ∨ (s.dev.job i.val).claimWait = true → Gives (.chainClaim i) s s.dev)) ∧
  (∀ (i : JobIdx) (s : State), s.dev.pwr.running = false → Gives (.chainClaim i) s s.dev ∧ Gives .segmentEnd s s.dev) ∧
  (∀ s : State, s.dev.pwr.st = .on → s.dev.pwr.running = true → (∀ e ∈ s.dev.jobs, e.2.claimWait = false) →
    ((∀ e ∈ s.dev.jobs, e.2.st = .armed → e.2.waiting = false) → Gives .segmentEnd s s.dev) ∧
    (∀ (i : Nat) (j : Job) (l r : List (Nat × Job)), s.dev.jobs = l ++ (i, j) :: r → (∀ e ∈ l ++ r, e.1 ≠ i ∧ (e.2.st = .armed → e.2.waiting = false)) →
      j.st = .armed → j.waiting = true →
      (j.ctx.startAt = true → s.dev.horizon ≤ s.dev.startDue j.ctx → j.startLate = false →
        Completes .segmentEnd s (fun d => s.dev.Started d i (s.dev.lineNear j.ctx.startLine).toNat false)) ∧
      (j.ctx.startAt = false ∨ s.dev.startDue j.ctx < s.dev.horizon ∨ j.startLate = true →
        Completes .segmentEnd s (fun d => s.dev.Started d i (s.dev.startLine j.ctx) (j.startLate || j.ctx.startAt)))))

/-- R111 and R113: FINISH ends a RUNNING job with the print whose lines its claim bar has read last; ABORT of a RUNNING job makes it ABORTED, ends its descriptors and cuts each bar at its first line that is not in the spouts; it is DONE, with the prints
counted, when every bar has fired or dropped the last line of the last print; an aborted job's event comes when every bar has fired or dropped what was in its spouts. Before that nothing happens. In another state FINISH answers BAD_STATE. Where it rests on a choice of
the model: log entries 57 and 67. Where it rests on a choice of the model: log entries 57 and 67. -/
def Obligations.JobEnds : Prop :=
  (∀ (rq : Requester) (s : State) (i k m : Nat) (j : Job), s.Ready rq 0 → s.dev.pwr.running = true → i = s.dev.get F.SLU_JOB_IDX → j = s.dev.job i →
    (j.st = .running → k = ((j.bar j.ctx.claimBar).seen - 1) / max 1 j.ctx.period + 1 →
      (j.prints0 = some m ∨ (j.prints0 = none ∧ j.ctx.forever = true ∧ m = k) ∨ (j.prints0 = none ∧ j.ctx.forever = false ∧ m = j.ctx.printCount)) →
      Completes (.jobFinish rq) s (fun d => (d.job i).core = { j.core with prints0 := some (min k m) } ∧ (∀ n, n ≠ i → (d.job n).core = (s.dev.job n).core) ∧
        d.get F.SLU_JOB_RESULT_DONE = 1 ∧ d.get F.SLU_JOB_RESULT_CODE = 0)) ∧
    (j.st ≠ .running → Gives (.jobFinish rq) s ((((s.dev.set F.SLU_JOB_RESULT_DONE 0).set F.SLU_JOB_RESULT_DONE 1).set F.SLU_JOB_RESULT_CODE 1).set
      F.SLU_JOB_RESULT_TAG (j.gen * 512 + i))) ∧
    (j.st = .running → j.bars.length = 8 →
      Completes (.jobAbort rq) s (fun d => (d.job i).core = { j.core with
          st := .aborted, claimWait := false, bars := j.bars.zipIdx.map (fun e => if e.2 ∈ j.ctx.bars then { e.1 with cutAt := some (s.dev.cutLine i e.2) } else e.1) } ∧
        d.descs = s.dev.descs.map (fun x => if x.opcode = 1 ∧ x.tag = s.dev.jobTag i then { x with status := 8, phase := .ended, got := [] } else x) ∧
        d.get F.SLU_JOB_RESULT_DONE = 1 ∧ d.get F.SLU_JOB_RESULT_CODE = 0))) ∧
  (∀ (i : JobIdx) (s : State) (j : Job), j = s.dev.job i.val →
    (∀ n : Nat, j.st = .running → j.length = some n → (∀ b ∈ j.ctx.bars, n ≤ (j.bar b).rel + j.ctx.gapLines) →
      Completes (.jobDone i) s (fun d => (d.job i.val).st = .done ∧ (d.job i.val).prints = min 4294967295 (n / max 1 j.ctx.period) ∧
        (d.job i.val).ctx = j.ctx ∧ (d.job i.val).bars = j.bars)) ∧
    (j.st ≠ .running ∨ j.length = none ∨ (∃ n, j.length = some n ∧ ∃ b ∈ j.ctx.bars, (j.bar b).rel + j.ctx.gapLines < n) → Gives (.jobDone i) s s.dev) ∧
    ((j.st = .aborted ∨ j.st = .draining) → (∃ b ∈ j.ctx.bars, (j.bar b).cutAt ≠ none) →
      (∀ b ∈ j.ctx.bars, ∀ c, (j.bar b).cutAt = some c → c ≤ j.p0 + (j.bar b).rel) →
      Completes (.jobAbortDone i) s (fun d => (d.job i.val).core = { j.core with bars := j.bars.map (fun x => { x with cutAt := none }) } ∧
        (∀ k, k ≠ i.val → d.job k = s.dev.job k))) ∧
    ((j.st ≠ .aborted ∧ j.st ≠ .draining) ∨ (∀ b ∈ j.ctx.bars, (j.bar b).cutAt = none) ∨
        (∃ b ∈ j.ctx.bars, ∃ c, (j.bar b).cutAt = some c ∧ j.p0 + (j.bar b).rel < c) → Gives (.jobAbortDone i) s s.dev))

/-- R126 and R129: an acknowledged bar-line counts as stored; CLEAR empties a bar's counts. R137, R138, R299, R307 and R446: an access through the host window ends sleep; a read gives the bytes of DRAM, with zeros beyond the capacity and in the spare area, and zeros until
DRAM is filled; a write of a whole word stores it while WR_EN is 1, and nothing while it is 0 or DRAM is not filled. Where it rests on a choice of the model: log entry 60. -/
def Obligations.CisternsAndHostWindow : Prop :=
  (∀ (rq : Requester) (b : Bar) (s : State), s.Ready rq 0 →
    Gives (.cisternCountClear rq b) s ((s.dev.set F.CIS_B_CNT_PRED 0 b.val).set F.CIS_B_CNT_STARVED 0 b.val)) ∧
  (∀ (i : JobIdx) (b : Bar) (line : Nat) (s : State) (pre post : List Desc) (x : Desc) (l r : List BarLineWrite) (u : BarLineWrite), s.dev.descs = pre ++ x :: post →
    (∀ y ∈ pre, y.opcode = 1 → y.tag = s.dev.jobTag i.val → ∀ v ∈ y.unacked, ¬(v.bar = b.val ∧ v.line = line)) → x.opcode = 1 → x.tag = s.dev.jobTag i.val →
    x.unacked = l ++ u :: r → (∀ v ∈ l, ¬(v.bar = b.val ∧ v.line = line)) → u.bar = b.val → u.line = line → (s.dev.job i.val).st ≠ .free →
    Completes (.writePointerAdvance i b line) s (fun d =>
      d.descs = (pre ++ { x with unacked := l ++ r } :: post).filter (fun y => !(y.silent && y.unacked.isEmpty)) ∧
      ((s.dev.job i.val).st ≠ .draining →
        (d.job i.val).bars = setAt (s.dev.job i.val).bars b.val (fun y => { y with stored := insertOnce y.stored line })) ∧
      ((s.dev.job i.val).st = .draining → (d.job i.val).bars = (s.dev.job i.val).bars ∧
        d.get F.SLU_STALE_CNT = min F.SLU_STALE_CNT.max (s.dev.get F.SLU_STALE_CNT + 1)) ∧
      (∀ k, k ≠ i.val → (d.job k).core = (s.dev.job k).core))) ∧
  (∀ (i : JobIdx) (b : Bar) (line : Nat) (s : State),
    (∀ y ∈ s.dev.descs, y.opcode = 1 → y.tag = s.dev.jobTag i.val → ∀ v ∈ y.unacked, ¬(v.bar = b.val ∧ v.line = line)) →
    Gives (.writePointerAdvance i b line) s s.dev) ∧
  (∀ (off : BitVec 30) (len a n : Nat) (s : State) (d : Dev), d = s.dev.leaveSleep → a = s.dev.get F.CIS_WIN_BASE * 1048576 + off.toNat → n = min len (d.windowEnd - a) →
    (s.dev.get F.ECC_STAT_DRAM_DONE = 0 ∨ n = 0 → Gives (.bar4Read off len) s (d.emit (.bar4 (List.replicate len 0)))) ∧
    (s.dev.get F.ECC_STAT_DRAM_DONE ≠ 0 → n ≠ 0 →
      Gives (.bar4Read off len) s ((d.dramRead a n 4).2.2.emit (.bar4 ((d.dramRead a n 4).1 ++ List.replicate (len - n) 0))))) ∧
  (∀ (off : BitVec 30) (data : List Byte) (s : State), s.dev.get F.CIS_WIN_WR_EN = 0 → Gives (.bar4Write off data) s s.dev) ∧
  (∀ (off : BitVec 30) (data : List Byte) (s : State), s.dev.get F.CIS_WIN_WR_EN ≠ 0 → s.dev.get F.ECC_STAT_DRAM_DONE = 0 →
    Gives (.bar4Write off data) s s.dev.leaveSleep) ∧
  (∀ (off : BitVec 30) (b0 b1 b2 b3 : Byte) (s : State) (a : Nat) (d : Dev), s.dev.get F.CIS_WIN_WR_EN ≠ 0 → s.dev.get F.ECC_STAT_DRAM_DONE ≠ 0 → d = s.dev.leaveSleep →
    off.toNat % 4 = 0 → a = s.dev.get F.CIS_WIN_BASE * 1048576 + off.toNat →
    (a + 4 ≤ d.windowEnd → Gives (.bar4Write off [b0, b1, b2, b3]) s ((d.touchRow (a / 64 * 64) true 4).dramWriteWord a
      (b0.toNat + 256 * (b1.toNat + 256 * (b2.toNat + 256 * b3.toNat))))) ∧
    (d.windowEnd ≤ a → Gives (.bar4Write off [b0, b1, b2, b3]) s d))

/-! ### The decanter and the waveform sets (files 05 and 07) -/

/-- R127, R133, R142, R143, R145 and R146: a bar's next line enters its spouts when they have room for it, its raster is stored, and no bar with less in its spouts can be filled; it carries what its kind gives: nothing in a gap, tone or check levels of a
strip, or the screened raster; the read pointer passes it, and no other job changes. Else nothing happens. Where it rests on a choice of the model: log entries 61 and 146. -/
def Obligations.SpoutLineIsFilled : Prop :=
  (∀ (b : Bar) (s : State) (i line : Nat) (j : Job) (kind : LineKind), s.dev.nextNeeded b.val = some (i, line) → j = s.dev.job i →
    kind = j.kindAt b.val (line - j.p0) →
    ((∀ l, kind = .raster l → has (j.bar b.val).stored (j.ctx.storedOf l) = true) →
      ((s.dev.spoutsOf b.val).map (fun l => spoutBytes l.mode)).sum + spoutBytes j.ctx.dropMode ≤ 65536 →
      ((∀ c < 8, s.dev.spoutFill c < s.dev.spoutFill b.val → s.dev.fillable c = none) →
        Completes (.spoutLineFill b) s (fun d =>
          (∃ levels causes, d.spouts = s.dev.spouts ++
              [{ bar := b.val, line := line, job := i, mode := j.ctx.dropMode, levels := levels, causes := causes }] ∧
            (kind = .gap → levels = [] ∧ causes = []) ∧ (∀ p, kind = .check p → levels = s.dev.checkLevels j b.val line p ∧ causes = []) ∧
            (∀ v, kind = .tone v → levels = s.dev.levelsOf j b.val line false (fun _ => 256 + v) ∧ causes = []) ∧
            (∀ l r, kind = .raster l → r = s.dev.takeRaster i b.val l → causes = r.2.1 ∧
              levels = (if j.ctx.format < 2 then s.dev.levelsOf j b.val line false (contone j.ctx (j.bar b.val).dec.linear r.1)
                else s.dev.levelsOf j b.val line true (storedLevel j.ctx r.1)))) ∧
          (d.job i).bars.map (fun y => { y with cache := none }) = (setAt j.bars b.val (fun y =>
            { y with rd := line - j.p0 + 1, seen := max y.seen (line - j.p0 + 1) })).map (fun y => { y with cache := none }) ∧
          (∀ k, k ≠ i → (d.job k).core = (s.dev.job k).core))) ∧
      (∀ c < 8, s.dev.spoutFill c < s.dev.spoutFill b.val → s.dev.fillable c ≠ none → Gives (.spoutLineFill b) s s.dev)) ∧
    (∀ l, kind = .raster l → has (j.bar b.val).stored (j.ctx.storedOf l) = false → Gives (.spoutLineFill b) s s.dev) ∧
    (65536 < ((s.dev.spoutsOf b.val).map (fun l => spoutBytes l.mode)).sum + spoutBytes j.ctx.dropMode → Gives (.spoutLineFill b) s s.dev)) ∧
  (∀ (b : Bar) (s : State), s.dev.nextNeeded b.val = none → Gives (.spoutLineFill b) s s.dev)

/-- R157 to R160 and R466: GO gives each selected table its shadow at one key line past the reads of every bar that uses one of them, with the ramp for curves and gains and 0 for the other tables, and keeps that key in DEC_UPD_KEY; a table that no bar uses
takes its bank at once. A pending switch whose key line no bar has read is REPLACED, and one that a bar has read makes GO BUSY, which changes no table. An old bank is freed once every bar that uses the table has
passed K + R, and stays before. Where it rests on a choice of the model: log entry 63. -/
def Obligations.TableUpdateIsKeyed : Prop :=
  (∀ (rq : Requester) (s : State) (kind set : Nat) (ports : List Nat), s.Ready rq 0 → kind = s.dev.get F.DEC_UPD_SEL_KIND →
    set = (if kind ≤ 2 then s.dev.get F.DEC_UPD_SEL_LUT_SET else 0) →
    ports = (if kind = 4 then [0] else if s.dev.get F.DEC_UPD_SEL_PORT = 255 then List.range 192 else [s.dev.get F.DEC_UPD_SEL_PORT]) →
    ((∀ p ∈ ports, ∀ w, (s.dev.ktab kind set p).sw = some w → ∀ b ∈ s.dev.tabBars kind p, s.dev.firstUnread b ≤ w.key) →
      Completes (.tableUpdateGo rq) s (fun d => ∃ k,
        (s.dev.lineNear (s.dev.get F.DEC_UPD_KEY)).toNat ≤ k ∧ (∀ p ∈ ports, ∀ b ∈ s.dev.tabBars kind p, s.dev.firstUnread b ≤ k) ∧
        (k = (s.dev.lineNear (s.dev.get F.DEC_UPD_KEY)).toNat ∨ ∃ p ∈ ports, ∃ b ∈ s.dev.tabBars kind p, k = s.dev.firstUnread b) ∧
        (∀ p ∈ ports, ∃ bank, (s.dev.ecc.sram = [] → bank = s.dev.bar2.filter (fun e => decide ((tabWindow kind set p).1 ≤ e.1) && decide (e.1 < (tabWindow kind set p).2))) ∧
          (s.dev.tabBars kind p ≠ [] → d.ktab kind set p =
            { s.dev.ktab kind set p with sw := some { bank := bank, key := k, ramp := if kind ≤ 2 then s.dev.get F.DEC_UPD_RAMP else 0 } }) ∧
          (s.dev.tabBars kind p = [] → d.ktab kind set p = { s.dev.ktab kind set p with bank := bank, sw := none })) ∧
        d.get F.DEC_UPD_KEY = (if ∀ p ∈ ports, s.dev.tabBars kind p = [] then s.dev.get F.DEC_UPD_KEY else k) % 281474976710656 ∧ d.get F.DEC_UPD_CMD_DONE = 1 ∧
        d.get F.DEC_UPD_CMD_CODE = if ∃ p ∈ ports, (s.dev.ktab kind set p).sw ≠ none then 2 else 0)) ∧
    (∀ p ∈ ports, ∀ w, (s.dev.ktab kind set p).sw = some w → ∀ b ∈ s.dev.tabBars kind p, w.key < s.dev.firstUnread b →
      Gives (.tableUpdateGo rq) s (((s.dev.set F.DEC_UPD_KEY (s.dev.get F.DEC_UPD_KEY)).set F.DEC_UPD_CMD_DONE 1).set F.DEC_UPD_CMD_CODE 1))) ∧
  (∀ (kind set port : Nat) (s : State),
    (∀ w : Switch, (s.dev.ktab kind set port).sw = some w →
      ((∀ b ∈ s.dev.tabBars kind port, w.key + w.ramp ≤ s.dev.firstOpen b) →
        Gives (.oldBankFree kind set port) s (s.dev.setKtab { s.dev.ktab kind set port with bank := w.bank, sw := none })) ∧
      (∀ b ∈ s.dev.tabBars kind port, s.dev.firstOpen b < w.key + w.ramp → Gives (.oldBankFree kind set port) s s.dev)) ∧
    ((s.dev.ktab kind set port).sw = none → Gives (.oldBankFree kind set port) s s.dev))

/-- R162 and R163: COMMIT puts the clamped shadow in force, in MRAM and in the shadow, and its root in the cask, with one audit entry; while a context is ARMED or RUNNING it
is BUSY and changes no map. DEFAULT puts the default map into the shadow and leaves the map in force. R214, R216 and R218: COMMIT of a waveform set that no OPEN, ARMED or RUNNING context and no idle set names clamps the shadow and puts it in force, DONE 1 and CODE OK; of a
named one it gives BUSY and leaves the set. Each sets the cause WS_DONE. Where it rests on a choice of the model: log entries 19 and 64. -/
def Obligations.HeadMapAndWaveformsCommit : Prop :=
  (
  ∀ (rq : Requester) (s : State), s.Ready rq 2 →
    (s.dev.anyArmed = true → GivesAudited (.headMapCommit rq) s rq 0x30054
      (((s.dev.touch rq).set F.DEC_HMAP_CMD_DONE 1).set F.DEC_HMAP_CMD_CODE 1)) ∧
    (s.dev.anyArmed = false → 4 ≤ s.dev.bond.cask0.length → 4 ≤ s.dev.bond.cask1.length → 4 ≤ s.dev.bond.cask2.length →
      CompletesAudited (.headMapCommit rq) s rq 0x30054 (fun d =>
        d.hmap = clampMap s.dev.shadowEntry ∧ d.mram.hmap = some (clampMap s.dev.shadowEntry) ∧
        d.bar2 = (s.dev.putShadow (clampMap s.dev.shadowEntry)).bar2 ∧
        (∀ k < 4, d.cask k = (mapRootOf (clampMap s.dev.shadowEntry)).getD k 0 % 4294967296) ∧
        d.get F.DEC_HMAP_CMD_DONE = 1 ∧ d.get F.DEC_HMAP_CMD_CODE = 0)) ∧
    GivesAudited (.headMapDefault rq) s rq 0x30054
      ((((s.dev.touch rq).putShadow ((List.range 192).map (fun k => hentryDefault (k / 24) (k % 24)))).set F.DEC_HMAP_CMD_DONE 1).set F.DEC_HMAP_CMD_CODE 0)
  ) ∧ (
  ∀ (rq : Requester) (w : Word) (s : State) (n : Nat), s.Ready rq 2 → w.toNat.testBit 0 = true → n = bits w.toNat 8 4 →
    ((∀ e ∈ s.dev.jobs, (e.2.st = .opened ∨ e.2.st = .armed ∨ e.2.st = .running) → e.2.ctx.waveSet ≠ n) →
      (∀ b < 8, s.dev.get F.FIRE_B_IDLE_WS b ≠ n) →
      CompletesAudited (.waveformCommit rq w) s rq 0x50058 (fun d => d.get F.FIRE_WS_CMD_SET = n ∧ d.get F.FIRE_WS_CMD_DONE = 1 ∧
        d.get F.FIRE_WS_CMD_CODE = 0 ∧ (d.get F.FIRE_IRQ_STAT).testBit 6 = true ∧
        d.bar2 = (((clampWave (fun k => s.dev.bar2Word (0x800000 + 0x1000 * n + 4 * k))).zipIdx).foldl
          (fun (d : Dev) e => (d.setBar2 (0x800000 + 0x1000 * n + 4 * e.2) e.1).setBar2 (0x810000 + 0x1000 * n + 4 * e.2) e.1) s.dev).bar2)) ∧
    ((∃ e ∈ s.dev.jobs, (e.2.st = .opened ∨ e.2.st = .armed ∨ e.2.st = .running) ∧ e.2.ctx.waveSet = n) ∨ (∃ b < 8, s.dev.get F.FIRE_B_IDLE_WS b = n) →
      CompletesAudited (.waveformCommit rq w) s rq 0x50058 (fun d => d.get F.FIRE_WS_CMD_SET = n ∧ d.get F.FIRE_WS_CMD_DONE = 1 ∧ d.get F.FIRE_WS_CMD_CODE = 1 ∧
        (d.get F.FIRE_IRQ_STAT).testBit 6 = true ∧ d.bar2 = s.dev.bar2))
  )

/-! ### Position (file 06) -/

/-- R167, R168 and R170: while the block runs, one step of the filtered quadrature sequence counts by 1 in its direction, INVERT exchanging the directions, and no other input's
count moves; a change of both lines counts nothing but ILLEGAL, and at LIMIT within the window sets SUSPECT and reports ENC_ILLEGAL; while the block is
off nothing counts. CLEAR empties an input's two counts. R183: after GATE_MS a gate window ends with the counts between its first and last change. R185 and R186: the first index sets the reference; one within the window of its expected count replaces the pending correction by minus its offset; one outside
it is reported as INDEX_MISPLACED, moving no reference; ADOPT drops the reference of a shifted input, clears SHIFTED and MISPLACED_RUN, and changes no count. Where it rests on a choice of the model: log entries 74 and 126. -/
def Obligations.EncodersAreCounted : Prop :=
  (
  (∀ (n : Enc) (a b a' b' : Bool) (s : State) (e : EncSt), e = s.dev.encSt n.val → n.val < s.dev.enc.length →
    a' = (if s.dev.passes n.val 0 a then a else e.a) → b' = (if s.dev.passes n.val 1 b then b else e.b) →
    (s.dev.posOn = true → (e.a ≠ a' ∧ e.b = b') ∨ (e.a = a' ∧ e.b ≠ b') →
      Completes (.encoderEdge n a b) s (fun d => (d.encSt n.val).a = a' ∧ (d.encSt n.val).b = b' ∧
        (d.encSt n.val).count = e.count + (if s.dev.get F.ENC_CFG_INVERT n.val = 0 then quadStep e.a e.b a' b' else -quadStep e.a e.b a' b') ∧
        (∀ k, k ≠ n.val → (d.encSt k).count = (s.dev.encSt k).count) ∧ d.pos.x = s.dev.pos.x)) ∧
    (∀ recent, s.dev.posOn = true → e.a ≠ a' → e.b ≠ b' →
      recent = (e.illegal.filter (fun t => s.dev.raw < t + s.dev.get F.ENC_ILL_WINDOW_MS n.val * 1000000)) ++ [s.dev.raw] →
      Completes (.encoderEdge n a b) s (fun d => (d.encSt n.val).a = a' ∧ (d.encSt n.val).b = b' ∧ (d.encSt n.val).illegal = recent ∧
        (∀ k, (d.encSt k).count = (s.dev.encSt k).count) ∧ d.pos = s.dev.pos ∧
        d.get F.ENC_CNT_ILLEGAL n.val = min F.ENC_CNT_ILLEGAL.max (s.dev.get F.ENC_CNT_ILLEGAL n.val + 1) ∧
        (s.dev.get F.ENC_ILL_LIMIT n.val ≤ recent.length → d.get F.ENC_STAT_SUSPECT n.val = 1 ∧ has d.flt.status (fkey (108 + n.val) 0) = true) ∧
        (recent.length < s.dev.get F.ENC_ILL_LIMIT n.val → d.flt = s.dev.flt ∧ Dev.SameRegsBut s.dev d [F.ENC_CNT_ILLEGAL.key n.val 0]))) ∧
    (s.dev.posOn = false ∨ (e.a = a' ∧ e.b = b') →
      Completes (.encoderEdge n a b) s (fun d => d.enc = setAt s.dev.enc n.val (fun e => { e with a := a', b := b' }) ∧ d.regs = s.dev.regs ∧ d.pos = s.dev.pos ∧
        d.flt = s.dev.flt))) ∧
  (∀ (rq : Requester) (n : Enc) (s : State), s.Ready rq 0 →
    Gives (.encoderCountClear rq n) s ((s.dev.set F.ENC_CNT_ILLEGAL 0 n.val).set F.ENC_CNT_MISPLACED 0 n.val)) ∧
  (∀ (n : Enc) (s : State) (e : EncSt) (res : Int × Nat) (x : Nat), e = s.dev.encSt n.val → x = s.dev.get F.POS_SPEED_CFG_XOVER →
    (s.dev.posOn = true → e.gateAt + s.dev.get F.POS_SPEED_CFG_GATE_MS * 1000000 ≤ s.dev.raw →
      (e.gateFirst = none ∧ res = (0, 0)) ∨ (∃ t, e.gateFirst = some t ∧ res = (e.gateN, e.gateLast - t)) →
      Gives (.speedGateWindow n) s (s.dev.modEnc n.val (fun e => { e with
        gateRes := res, gateAt := s.dev.raw, gateFirst := none, gateN := 0,
        gate := e.gate && !decide (res.1.natAbs * 1000000000 < (x - x / 8) * res.2 ∨ res.2 = 0) }))) ∧
    (s.dev.posOn = false ∨ s.dev.raw < e.gateAt + s.dev.get F.POS_SPEED_CFG_GATE_MS * 1000000 → Gives (.speedGateWindow n) s s.dev))
  ) ∧ (
  (∀ (n : Enc) (s : State) (e : EncSt) (c : Dev), e = s.dev.encSt n.val → n.val < s.dev.enc.length → s.dev.passes n.val 2 true = true →
    c = (s.dev.encPin n.val 2 true (s.dev.raw - s.dev.filterNs n.val)).passDrive →
    (s.dev.posOn = false ∨ s.dev.get F.ENC_IDX_PERIOD n.val = 0 → Gives (.encoderIndex n) s c) ∧
    (s.dev.posOn = true → s.dev.get F.ENC_IDX_PERIOD n.val ≠ 0 →
      (e.ref = none → Gives (.encoderIndex n) s (c.modEnc n.val (fun e => { e with ref := some e.corrected }))) ∧
      (∀ r ofs, e.ref = some r →
        ofs = e.corrected - r - roundDiv (e.corrected - r) (s.dev.get F.ENC_IDX_PERIOD n.val * 256) * (s.dev.get F.ENC_IDX_PERIOD n.val * 256) →
        (ofs.natAbs ≤ s.dev.get F.ENC_IDX_WIN n.val * 256 →
          Gives (.encoderIndex n) s (((c.set F.ENC_IDX_LAST (unsigned 32 (openRound 185 ofs 256)) n.val).set F.ENC_STAT_MISPLACED_RUN 0 n.val).modEnc n.val
            (fun e => { e with pend := -ofs, runOfs := [] }))) ∧
        (s.dev.get F.ENC_IDX_WIN n.val * 256 < ofs.natAbs →
          Completes (.encoderIndex n) s (fun d => has d.flt.status (fkey (112 + n.val) 0) = true ∧ (d.encSt n.val).ref = some r ∧
            (d.encSt n.val).pend = e.pend ∧ (d.encSt n.val).count = e.count ∧ d.pos = s.dev.pos ∧
            d.get F.ENC_CNT_MISPLACED n.val = min F.ENC_CNT_MISPLACED.max (s.dev.get F.ENC_CNT_MISPLACED n.val + 1)))))) ∧
  (∀ (n : Enc) (s : State), s.dev.passes n.val 2 true = false → Gives (.encoderIndex n) s s.dev) ∧
  (∀ (rq : Requester) (n : Enc) (s : State), s.Ready rq 2 →
    (s.dev.get F.ENC_STAT_SHIFTED n.val = 0 → GivesAudited (.indexAdopt rq n) s rq (0x6012C + 0x40 * n.val) (s.dev.touch rq)) ∧
    (s.dev.get F.ENC_STAT_SHIFTED n.val ≠ 0 → GivesAudited (.indexAdopt rq n) s rq (0x6012C + 0x40 * n.val)
      ((((s.dev.touch rq).set F.ENC_STAT_SHIFTED 0 n.val).set F.ENC_STAT_MISPLACED_RUN 0 n.val).modEnc n.val
        (fun e => { e with ref := none, newRef := none, runOfs := [] }))))
  )

/-- R175 and R176: ENABLE from 0 to 1 sets every count, x, v and every coordinate to 0, latches the bar delays and begins press line 0 at reference 0 with a pitch
of 1; a write of 0 while a context is ARMED or RUNNING is ignored, any other stops ticks and speed. Bar delays that a write left due are latched once no
context is ARMED or RUNNING. R172, R173 and R177, with the redundancy mode 0b00 in force: an update predicts x from v, corrects x and v by KP and KI times the error of the newest count change, and holds x
at 6 counts beyond its measured position, where v is 0; without a count change it only predicts; each bar's coordinate takes the change of x at its scale. In a gap x goes on at v, and a lost position stands still. A block that is off stays as it is. Where it rests on a choice of the
model: log entries 74 and 75, and the docstring of Dev.posStart. Where it rests on a choice of the model: log entries 75 and 131. -/
def Obligations.PositionStartsAndTracks : Prop :=
  (
  (∀ (rq : Requester) (s : State), s.Ready rq 2 →
    (s.dev.get F.POS_CTRL_ENABLE = 0 →
      CompletesAudited (.positionEnable rq) s rq 0x60008 (fun d => d.get F.POS_CTRL_ENABLE = 1 ∧ d.pos.x = 0 ∧ d.pos.v = 0 ∧ d.pos.active = 0 ∧
        (∀ n, (d.encSt n).count = 0) ∧
        d.pos.segs = [{ line := 0, ref := 0, pitch := 1, todo := (List.range 8).filter (fun b => decide (delayOf (s.dev.get F.CIS_BAR_DIST b) ≠ 0)) }] ∧
        d.pos.bars = (List.range 8).map (fun b =>
          ({ delay := delayOf (s.dev.get F.CIS_BAR_DIST b), begun := decide (delayOf (s.dev.get F.CIS_BAR_DIST b) = 0) } : PosBar)))) ∧
    (s.dev.get F.POS_CTRL_ENABLE ≠ 0 → GivesAudited (.positionEnable rq) s rq 0x60008 (s.dev.touch rq)) ∧
    (s.dev.anyArmed = true ∨ s.dev.get F.POS_CTRL_ENABLE = 0 → GivesAudited (.positionDisable rq) s rq 0x60008 (s.dev.touch rq)) ∧
    (s.dev.anyArmed = false → s.dev.get F.POS_CTRL_ENABLE ≠ 0 →
      CompletesAudited (.positionDisable rq) s rq 0x60008 (fun d => d.get F.POS_CTRL_ENABLE = 0 ∧ d.pos.speed = 0 ∧ d.enc = s.dev.enc ∧
        d.pos.x = s.dev.pos.x ∧ (∀ b ∈ d.pos.bars, b.ticks = [])))) ∧
  (∀ s : State, s.dev.pos.delayDue = true → s.dev.anyArmed = false → 8 ≤ s.dev.pos.bars.length →
    Completes .barDelayLatch s (fun d => d.pos.delayDue = false ∧ (∀ b < 8, (d.posBar b).delay = delayOf (s.dev.get F.CIS_BAR_DIST b)) ∧
      (∀ b < 8, (d.posBar b).p = (s.dev.posBar b).p) ∧ d.pos.x = s.dev.pos.x)) ∧
  (∀ s : State, s.dev.pos.delayDue = false ∨ s.dev.anyArmed = true → Gives .barDelayLatch s s.dev)
  ) ∧ (
  (∀ (s : State) (n : Nat) (m x v : Int), s.dev.posOn = true → s.dev.pos.mode = 0 → n = s.dev.pos.active → n < 2 → m = s.dev.measured n →
    s.dev.pos.bars.length = 8 →
    (s.dev.pos.newest = none ∧ x = s.dev.pos.x + Int.fdiv s.dev.pos.v 65536 ∧ v = s.dev.pos.v) ∨
    (∃ (te : Nat) (xp e : Int), s.dev.pos.newest = some te ∧ xp = s.dev.pos.x + Int.fdiv s.dev.pos.v 65536 ∧
      e = m - (xp - Int.fdiv (Int.fdiv (s.dev.pos.v * (s.dev.T - te : Nat)) 1000) 65536) ∧
      x = xp + Int.fdiv (e * s.dev.get F.POS_LOOP_KP) 16777216 ∧ v = s.dev.pos.v + Int.fdiv (e * 65536 * s.dev.get F.POS_LOOP_KI) 16777216) →
    let moved (d : Dev) : Prop := d.pos.newest = none ∧ d.pos.active = n ∧
      ∀ b < 8, (d.posBar b).p = (s.dev.posBar b).p + openRound 177 ((d.pos.x - s.dev.pos.x) * (s.dev.posBar b).scale) 140737488355328
    ((x - m).natAbs < 6 * s.dev.get F.ENC_RATIO n ∨ (s.dev.encSt n).edges = [] →
      Completes .positionUpdate s (fun d => d.pos.x = x ∧ d.pos.v = v ∧ moved d)) ∧
    (∀ t dir rest, (s.dev.encSt n).edges = (t, dir) :: rest → dir ≠ 0 →
      (6 * (s.dev.get F.ENC_RATIO n : Int) ≤ x - m → 0 < dir ∨ 0 < v →
        Completes .positionUpdate s (fun d => d.pos.x = m + 6 * s.dev.get F.ENC_RATIO n ∧ d.pos.v = 0 ∧ moved d)) ∧
      (x < m → 6 * (s.dev.get F.ENC_RATIO n : Int) ≤ m - x → dir < 0 ∨ v < 0 →
        Completes .positionUpdate s (fun d => d.pos.x = m - 6 * s.dev.get F.ENC_RATIO n ∧ d.pos.v = 0 ∧ moved d)))) ∧
  (∀ s : State, s.dev.posOn = true →
    (s.dev.pos.active = 2 →
      Completes .positionUpdate s (fun d => d.pos.x = s.dev.pos.x + Int.fdiv s.dev.pos.v 65536 ∧ d.pos.v = s.dev.pos.v ∧ d.pos.active = 2)) ∧
    (s.dev.pos.active = 3 → Completes .positionUpdate s (fun d => d.pos.x = s.dev.pos.x ∧ d.pos.v = s.dev.pos.v ∧ d.pos.active = 3))) ∧
  (∀ s : State, s.dev.posOn = false → Gives .positionUpdate s s.dev)
  )

/-- R187: with ENABLE 0 the strain is 0; while the conditions for measuring fail it is frozen; while they hold it moves toward the measured ratio by 1 / TAU_MS, within
MAX_PERMIL, beyond which it is reported. The quotients' rounding is open (rule 187 of Config.roundUp). R189, R190 and R196: a comparison takes each encoder's travel, and a new MODE into force; in MODE 0b00, while a bar is held, and while a gap runs it does no more, but for control that returns to ENC0 in MODE 0b00. Else, over the latest
WINDOW_MS, ENC0 and ENC1 agree, or disagree beyond TOL_PPM: an arbiter in MODE 0b10 that agrees with exactly one of them makes the other
OUTVOTED, and otherwise REDUN_UNDECIDED is reported. A block that is off does nothing. Where it rests on a choice of the model: log entry 74. -/
def Obligations.StrainAndRedundancyAct : Prop :=
  (
  ∀ (s : State) (d0 d1 : Int) (c : Dev), d0 = (s.dev.encSt 0).travel - s.dev.pos.strain0 → d1 = (s.dev.encSt 1).travel - s.dev.pos.strain1 →
    c = s.dev.modPos (fun p => { p with strain0 := (s.dev.encSt 0).travel, strain1 := (s.dev.encSt 1).travel }) →
    (s.dev.posOn = false → Gives .strainMeasure s s.dev) ∧
    (s.dev.posOn = true →
      (s.dev.get F.POS_STRAIN_CFG_ENABLE = 0 → Gives .strainMeasure s (c.modPos (fun p => { p with eps := 0, frozen := true }))) ∧
      (s.dev.get F.POS_STRAIN_CFG_ENABLE ≠ 0 →
        s.dev.pos.mode = 0 ∨ (s.dev.encSt 0).gate = false ∨ (s.dev.encSt 1).gate = false ∨ s.dev.encSound 0 = false ∨ s.dev.encSound 1 = false ∨ s.dev.pos.active = 2 ∨
          d0 = 0 → Gives .strainMeasure s (c.modPos (fun p => { p with frozen := true }))) ∧
      (∀ r e lim : Int, s.dev.get F.POS_STRAIN_CFG_ENABLE ≠ 0 → s.dev.pos.mode ≠ 0 → (s.dev.encSt 0).gate = true → (s.dev.encSt 1).gate = true →
        s.dev.encSound 0 = true → s.dev.encSound 1 = true → s.dev.pos.active ≠ 2 → d0 ≠ 0 →
        r = openRound 187 ((if d0 < 0 then d0 - d1 else d1 - d0) * 1000000000) d0.natAbs → lim = s.dev.get F.POS_STRAIN_CFG_MAX_PERMIL * 1000000 →
        e = max (-lim) (min lim (s.dev.pos.eps + openRound 187 (r - s.dev.pos.eps) (s.dev.get F.POS_STRAIN_CFG_TAU_MS))) →
        (r.natAbs ≤ lim.natAbs → Gives .strainMeasure s (c.modPos (fun p => { p with eps := e, frozen := false }))) ∧
        (lim.natAbs < r.natAbs → Gives .strainMeasure s ((c.modPos (fun p => { p with eps := e, frozen := false })).report 125))))
  ) ∧ (
  ∀ (s : State) (mode : Nat) (c : Dev), mode = s.dev.get F.POS_REDUN_CFG_MODE →
    c = ({ s.dev with enc := s.dev.enc.map (fun e => { e with snaps := (e.travel :: e.snaps).take (s.dev.get F.POS_REDUN_CFG_WINDOW_MS + 1) }) } : Dev).modPos
      (fun p => { p with mode := mode }) →
    (s.dev.posOn = false → Gives .redundancyCompare s s.dev) ∧
    (s.dev.posOn = true →
      (mode = 0 → s.dev.pos.active ≠ 1 → Gives .redundancyCompare s c) ∧
      (mode = 0 → s.dev.pos.active = 1 → 0 < s.dev.enc.length →
        Completes .redundancyCompare s (fun d => d.pos.active = 0 ∧ d.pos.mode = 0 ∧ d.pos.x = s.dev.pos.x ∧ d.measured 0 = s.dev.pos.x ∧
          (d.get F.POS_IRQ_STAT).testBit 1 = true)) ∧
      (mode ≠ 0 → s.dev.anyHeld = true ∨ 2 ≤ s.dev.pos.active → Gives .redundancyCompare s c) ∧
      (∀ (travel : Nat → Int) (tolT tolA : Nat) (f : Int), mode ≠ 0 → s.dev.anyHeld = false → s.dev.pos.active < 2 →
        (∀ n, travel n = dotsOf ((s.dev.encSt n).travel -
          (((s.dev.encSt n).travel :: (s.dev.encSt n).snaps).take (s.dev.get F.POS_REDUN_CFG_WINDOW_MS + 1)).getLast?.getD 0)) →
        tolT = max (s.dev.get F.POS_REDUN_CFG2_MIN_DOTS * 4294967296) (s.dev.get F.POS_REDUN_CFG_TOL_PPM * (travel 0).natAbs / 1000000) →
        tolA = max (s.dev.get F.POS_REDUN_CFG2_MIN_DOTS * 4294967296) (s.dev.get F.POS_REDUN_CFG2_ARB_PPM * (travel 0).natAbs / 1000000) →
        f = 1000000000 + s.dev.pos.eps → 4 ≤ s.dev.enc.length →
        let a0 : Prop := (travel 2 - travel 0).natAbs ≤ tolA
        let a1 : Prop := ((travel 2 * f - travel 1 * 1000000000).natAbs : Int) ≤ tolA * f
        ((travel 1 * 1000000000 - travel 0 * f).natAbs ≤ (tolT * 1000000000 : Int) →
          Completes .redundancyCompare s (fun d => d.flt.status = s.dev.flt.status ∧ d.pos.mode = mode ∧ d.pos.active = s.dev.pos.active ∧
            d.pos.abHist = (dotsOf (s.dev.encSt 1).travel - s.dev.pos.x) :: s.dev.pos.abHist.take 1000)) ∧
        ((tolT * 1000000000 : Int) < (travel 1 * 1000000000 - travel 0 * f).natAbs →
          (mode = 2 → a0 → ¬ a1 → Completes .redundancyCompare s (fun d =>
            has d.flt.status (fkey 121 0) = true ∧ d.get F.ENC_STAT_OUTVOTED 1 ≠ 0 ∧ d.pos = { s.dev.pos with mode := mode })) ∧
          (mode = 2 → a1 → ¬ a0 → Completes .redundancyCompare s (fun d =>
            has d.flt.status (fkey 120 0) = true ∧ d.get F.ENC_STAT_OUTVOTED 0 ≠ 0 ∧ d.pos = { s.dev.pos with mode := mode })) ∧
          (mode ≠ 2 ∨ (a0 ↔ a1) → Completes .redundancyCompare s (fun d =>
            has d.flt.status (fkey 122 0) = true ∧ (d.get F.POS_IRQ_STAT).testBit 6 = true ∧ d.pos = { s.dev.pos with mode := mode })))))
  )

/-- R192 to R195: while no gap runs, or before its end, a takeover changes nothing; at the gap's end the encoder that it goes to becomes active, its measured position
equal to x, or, when that is LOS or SUSPECT, the position is lost with v 0. Control returns to ENC0, with no step of x, when AUTO_REVERT and REVERT_MS of agreement, or a REVERT while ENC0 is neither LOS nor SUSPECT, ask for it as BAR0
crosses a line; in no other case. REVERT is kept only while ENC1 is active. Where it rests on a choice of the model: log entry 76. -/
def Obligations.EncodersSwitchOver : Prop :=
  (∀ s : State, s.dev.posOn = false ∨ s.dev.pos.active ≠ 2 ∨ s.dev.raw < s.dev.pos.gapEnd → Gives .switchoverTakeover s s.dev) ∧
  (∀ s : State, s.dev.posOn = true → s.dev.pos.active = 2 → s.dev.pos.gapEnd ≤ s.dev.raw →
    (s.dev.encUsable s.dev.pos.gapTo = true → s.dev.pos.gapTo < s.dev.enc.length →
      Completes .switchoverTakeover s (fun d => d.pos.active = s.dev.pos.gapTo ∧ d.pos.x = s.dev.pos.x ∧ d.pos.v = s.dev.pos.v ∧
        d.measured s.dev.pos.gapTo = s.dev.pos.x ∧ d.pos.bars = s.dev.pos.bars)) ∧
    (s.dev.encUsable s.dev.pos.gapTo = false →
      Completes .switchoverTakeover s (fun d => d.pos.active = 3 ∧ d.pos.x = s.dev.pos.x ∧ d.pos.v = 0 ∧ d.pos.speed = 0 ∧
        has d.flt.status (fkey 126 0) = true ∧ (d.get F.POS_IRQ_STAT).testBit 5 = true))) ∧
  (∀ (s : State) (asked : Prop), asked = ((s.dev.get F.POS_REDUN_CFG3_AUTO_REVERT ≠ 0 ∧ s.dev.encSound 0 = true ∧
        ∃ t, (s.dev.encSt 0).agreeAt = some t ∧ t + s.dev.get F.POS_REDUN_CFG3_REVERT_MS * 1000000 ≤ s.dev.raw) ∨
      (s.dev.pos.revert = true ∧ s.dev.encUsable 0 = true)) →
    (s.dev.posOn = true → s.dev.pos.active = 1 → s.dev.pos.crossed = true → s.dev.anyHeld = false → s.dev.pos.reverse = false → asked → 0 < s.dev.enc.length →
      Completes .encoderRevert s (fun d => d.pos.active = 0 ∧ d.pos.revert = false ∧ d.pos.x = s.dev.pos.x ∧ d.pos.v = s.dev.pos.v ∧ d.measured 0 = s.dev.pos.x ∧
        (d.get F.POS_IRQ_STAT).testBit 1 = true)) ∧
    (s.dev.posOn = false ∨ s.dev.pos.active ≠ 1 ∨ s.dev.pos.crossed = false ∨ s.dev.anyHeld = true ∨ s.dev.pos.reverse = true ∨ ¬ asked →
      Gives .encoderRevert s s.dev)) ∧
  (∀ (rq : Requester) (s : State), s.Ready rq 2 →
    GivesAudited (.revertCmd rq) s rq 0x60074 ((s.dev.touch rq).modPos (fun p => { p with revert := s.dev.pos.active = 1 })))

/-- R169, R198 and R199: a write of PCMPu_CFG takes its legal fields, disarms the unit and clears HITS; a write of PCMPu_VAL's upper word arms a unit whose value lies ahead of its source by the 48-bit integer parts; a late
one with LATE 0 stays disarmed with MISSED, and with LATE 1 acts at once, sets MISSED, and with a PERIOD is armed with a value that lies ahead. R200: an output with a backlog takes one state toward its source, 20 ns after its last, and its pins show it; with none, in a gap, and while it is off it stays. Where it rests
on a choice of the model: log entry 78. Where it rests on a choice of the model: log entry 78. -/
def Obligations.CompareUnitsAndOutputs : Prop :=
  (∀ (rq : Requester) (u : Fin 32) (w : Word) (s : State), s.Ready rq 0 →
    Completes (.pcmpConfigure rq u w) s (fun d =>
      d.get F.PCMP_CFG_SRC u.val = (if 5 ≤ w.toNat / 268435456 ∧ w.toNat / 268435456 ≤ 7 then 4 else w.toNat / 268435456) ∧
      d.get F.PCMP_CFG_DIR u.val = min 2 (w.toNat / 16777216 % 4) ∧ d.get F.PCMP_CFG_LATE u.val = w.toNat / 1048576 % 2 ∧
      d.get F.PCMP_CFG_TARGET u.val = w.toNat / 16 % 16 ∧ d.get F.PCMP_CFG_CAM u.val = w.toNat / 4 % 2 ∧
      d.get F.PCMP_CFG_LAMP u.val = w.toNat / 2 % 2 ∧ d.get F.PCMP_CFG_IRQ u.val = w.toNat % 2 ∧
      d.get F.PCMP_STAT_ARMED u.val = 0 ∧ d.get F.PCMP_STAT_HITS u.val = 0 ∧
      Dev.SameRegsBut s.dev d ([F.PCMP_CFG_SRC, F.PCMP_CFG_DIR, F.PCMP_CFG_LATE, F.PCMP_CFG_TARGET, F.PCMP_CFG_CAM, F.PCMP_CFG_LAMP, F.PCMP_CFG_IRQ,
        F.PCMP_STAT_ARMED, F.PCMP_STAT_HITS].map (fun f => f.key u.val 0)) ∧ { d with regs := [] } = { s.dev with regs := [] })) ∧
  (∀ (rq : Requester) (u : Fin 32) (w : Word) (s : State) (v : Nat) (c : Dev) (diff : Int), s.Ready rq 0 →
    v = w.toNat * 4294967296 + s.dev.get F.PCMP_VAL u.val % 4294967296 → c = s.dev.set F.PCMP_VAL v u.val →
    diff = diff48 (Int.fdiv (s.dev.pcmpSource (s.dev.get F.PCMP_CFG_SRC u.val)) 65536) (v / 65536) →
    let late : Prop := (s.dev.get F.PCMP_CFG_DIR u.val = 0 ∧ 0 ≤ diff) ∨ (s.dev.get F.PCMP_CFG_DIR u.val = 1 ∧ diff ≤ 0) ∨
      (2 ≤ s.dev.get F.PCMP_CFG_DIR u.val ∧ diff = 0)
    (¬ late → Gives (.pcmpArm rq u w) s (c.set F.PCMP_STAT_ARMED 1 u.val)) ∧
    (late → s.dev.get F.PCMP_CFG_LATE u.val = 0 → Gives (.pcmpArm rq u w) s ((c.set F.PCMP_STAT_MISSED 1 u.val).set F.PCMP_STAT_ARMED 0 u.val)) ∧
    (late → s.dev.get F.PCMP_CFG_LATE u.val ≠ 0 → s.dev.get F.PCMP_PERIOD u.val = 0 →
      Gives (.pcmpArm rq u w) s (((((c.set F.PCMP_STAT_MISSED 1 u.val).set F.PCMP_TIME s.dev.T u.val).pcmpAct u.val s.dev.T).set F.PCMP_STAT_ARMED 1 u.val).set
        F.PCMP_STAT_ARMED 0 u.val)) ∧
    (late → s.dev.get F.PCMP_CFG_LATE u.val ≠ 0 → s.dev.get F.PCMP_PERIOD u.val ≠ 0 →
      Completes (.pcmpArm rq u w) s (fun d => d.get F.PCMP_STAT_MISSED u.val = 1 ∧ d.get F.PCMP_STAT_ARMED u.val = 1 ∧ d.get F.PCMP_TIME u.val = s.dev.T ∧
        pcmpLate (s.dev.get F.PCMP_CFG_DIR u.val) (d.pcmpDiff (s.dev.pcmpSource (s.dev.get F.PCMP_CFG_SRC u.val)) u.val) = false))) ∧
  (∀ (e : Fin 2) (s : State) (x : EmuSt), x = s.dev.emuSt e.val →
    (s.dev.posOn = true → x.on = true → s.dev.pos.active ≠ 2 → x.last + 20 ≤ s.dev.raw → x.out ≠ x.target → s.dev.pins.emuA.length = 2 → s.dev.pins.emuB.length = 2 →
      s.dev.pins.emuZ.length = 2 →
      Completes (.emuOutputStep e) s (fun d => d.emuSt e.val = { x with out := if x.out < x.target then x.out + 1 else x.out - 1, last := s.dev.raw } ∧
        (d.pins.emuA.getD e.val false, d.pins.emuB.getD e.val false, d.pins.emuZ.getD e.val false) = d.emuLevels e.val ∧ d.regs = s.dev.regs ∧ d.pos.x = s.dev.pos.x)) ∧
    (s.dev.posOn = false ∨ x.on = false ∨ s.dev.pos.active = 2 ∨ x.out = x.target ∨ s.dev.raw < x.last + 20 → Gives (.emuOutputStep e) s s.dev))

/-! ### The line scheduler and the stop sequence (file 07) -/

/-- R206, R212, R223 and R133: a due tick whose line stands for a bar is sent when the gate is open, it lies a period after the last and leaves the heads their time; a tick too soon is sent when the period has passed, counted in DEFERRED, if that is within DEFER_NS
and before the next line is reached, and is dropped otherwise; with the gate closed, or with less time than the heads need (reported as LINE_LATE), it is dropped and counted; a RUNNING job's line that is absent is counted as starved; a line of no job
passes. The tick is gone in each case. A tick that is not due, and a bar without ticks, stay. A line sent shows in FIRED; one without drops and without causes still sends one FIRE record to each port. R222 and R223: a bar that tickles sends one TICKLE record to each
of its ports that receives records, once its time has come; a bar that does not, or whose time has not come, sends none. Where it rests on a choice of the model: log entries 67, 69 and 71. -/
def Obligations.LinesAndTicklesCommit : Prop :=
  (
  (∀ (b : Bar) (s : State), (s.dev.posBar b.val).ticks = [] → Gives (.lineCommit b) s s.dev) ∧
  (∀ (b : Bar) (s : State) (t : Tick) (rest : List Tick) (c : Dev), (s.dev.posBar b.val).ticks = t :: rest →
    c = { s.dev with fire := { s.dev.fire with warnPct := s.dev.get F.FIRE_RATE_CFG_WARN_PCT } } →
    (∀ x, s.dev.fireLine b.val t.line = some x →
      (s.dev.T < s.dev.firstFire x b.val t.time - s.dev.get F.FIRE_COMMIT_NS → Gives (.lineCommit b) s s.dev) ∧
      (s.dev.firstFire x b.val t.time - s.dev.get F.FIRE_COMMIT_NS ≤ s.dev.T →
        (s.dev.gateOpen = false → Gives (.lineCommit b) s (c.dropLine x b.val t.line)) ∧
        (s.dev.gateOpen = true →
          ((∀ l, (s.dev.fireBar b.val).tauLast = some l → l + (s.dev.fireBar b.val).period ≤ t.time) →
            (s.dev.firstFire x b.val t.time - s.dev.T < needBar x.heads → Gives (.lineCommit b) s ((c.dropLine x b.val t.line).report (129 + b.val))) ∧
            (needBar x.heads ≤ s.dev.firstFire x b.val t.time - s.dev.T → Gives (.lineCommit b) s (c.sendLine x b.val t.line t.time false))) ∧
          (∀ l r : Int, (s.dev.fireBar b.val).tauLast = some l → r = l + (s.dev.fireBar b.val).period → t.time < r →
            (s.dev.get F.FIRE_RATE_CFG_DEFER_NS < r - t.time ∨ (0 < s.dev.pos.v ∧ s.dev.crossing b.val (t.line + 1) ≤ r) →
              Gives (.lineCommit b) s (c.dropLine x b.val t.line)) ∧
            (r - t.time ≤ s.dev.get F.FIRE_RATE_CFG_DEFER_NS → s.dev.pos.v ≤ 0 ∨ r < s.dev.crossing b.val (t.line + 1) →
              (s.dev.firstFire x b.val r - s.dev.T < needBar x.heads → Gives (.lineCommit b) s ((c.dropLine x b.val t.line).report (129 + b.val))) ∧
              (needBar x.heads ≤ s.dev.firstFire x b.val r - s.dev.T → Gives (.lineCommit b) s (c.sendLine x b.val t.line r true))))))) ∧
    (s.dev.fireLine b.val t.line = none → ∀ i j, s.dev.jobAtLine b.val t.line = some (i, j) →
      ∀ (y : FireLine) (f : Int), y = ⟨j.ctx, j.geo.rateMax, (j.bar b.val).heads, some i, true, [], [], false, true⟩ →
        f = s.dev.firstFire y b.val t.time - s.dev.get F.FIRE_COMMIT_NS →
      (s.dev.T < f → Gives (.lineCommit b) s s.dev) ∧ (f ≤ s.dev.T → Gives (.lineCommit b) s (s.dev.starveLine i b.val t.line))) ∧
    (s.dev.fireLine b.val t.line = none → s.dev.jobAtLine b.val t.line = none →
      (s.dev.T < t.time - s.dev.get F.FIRE_COMMIT_NS → Gives (.lineCommit b) s s.dev) ∧
      (t.time - s.dev.get F.FIRE_COMMIT_NS ≤ s.dev.T → Gives (.lineCommit b) s (s.dev.passLine b.val t.line)))) ∧
  (∀ (c : Dev) (x : FireLine) (b i m : Nat) (tau : Int) (late : Bool), b < 8 →
    (∀ d : Dev, d = c.dropLine x b m ∨ d = (c.dropLine x b m).report (129 + b) → d.get F.FIRE_B_CNT_DROPPED b = Nat.min F.FIRE_B_CNT_DROPPED.max (c.get F.FIRE_B_CNT_DROPPED b + 1) ∧
      (d.get F.FIRE_IRQ_STAT).testBit 4 = true ∧ d.get F.FIRE_B_FIRED b = c.get F.FIRE_B_FIRED b ∧ ∀ u ∈ (d.posBar b).ticks, m < u.line) ∧
    (∀ d : Dev, d = c.starveLine i b m → d.get F.CIS_B_CNT_STARVED b = Nat.min F.CIS_B_CNT_STARVED.max (c.get F.CIS_B_CNT_STARVED b + 1) ∧
      (d.get F.CIS_IRQ_STAT).testBit (16 + b) = true ∧ d.get F.FIRE_B_FIRED b = c.get F.FIRE_B_FIRED b ∧ ∀ u ∈ (d.posBar b).ticks, m < u.line) ∧
    (∀ d : Dev, d = c.passLine b m → d.get F.FIRE_B_FIRED b = c.get F.FIRE_B_FIRED b ∧
      d.get F.FIRE_B_CNT_DROPPED b = c.get F.FIRE_B_CNT_DROPPED b ∧ ∀ u ∈ (d.posBar b).ticks, m < u.line) ∧
    (∀ d : Dev, d = c.sendLine x b m tau late → d.get F.FIRE_B_FIRED b = m % 281474976710656 ∧
      d.get F.FIRE_B_CNT_DROPPED b = c.get F.FIRE_B_CNT_DROPPED b ∧ (∀ u ∈ (d.posBar b).ticks, m < u.line) ∧
      (late = true → d.get F.FIRE_B_CNT_DEFERRED b = Nat.min F.FIRE_B_CNT_DEFERRED.max (c.get F.FIRE_B_CNT_DEFERRED b + 1)) ∧
      (x.levels = [] → x.causes = [] → c.ecc.sram = [] → c.get F.ECC_FLIP_CTRL_ARMED = 0 → c.fire.stop.st = .run → c.belowMin = false →
        (∀ e ∈ c.heads b, c.receives e.2.port = true ∧ e.2.port < c.ports.length) → ((c.heads b).map (fun e => e.2.port)).Nodup →
        ∀ e ∈ c.heads b, ∃ r : Rec, (d.port e.2.port).recs = (c.port e.2.port).recs ++ [r] ∧ r.tickle = false ∧ r.line = m ∧
          r.bar = b ∧ r.seq = (c.port e.2.port).seq ∧ c.fireTime x b e.1 tau ≤ r.fireTime)))
  ) ∧ (
  ∀ (b : Bar) (s : State),
    (s.dev.tickles b.val = false ∨ s.dev.raw < s.dev.tickleDue b.val → Gives (.tickleCommit b) s s.dev) ∧
    (s.dev.tickles b.val = true → s.dev.tickleDue b.val ≤ s.dev.raw → ((s.dev.heads b.val).map (fun e => e.2.port)).Nodup →
      Completes (.tickleCommit b) s (fun d => ∀ e ∈ s.dev.heads b.val, e.2.port < s.dev.ports.length →
        (s.dev.receives e.2.port = true → ∃ r : Rec, (d.port e.2.port).recs = (s.dev.port e.2.port).recs ++ [r] ∧ r.tickle = true ∧ r.bar = b.val ∧
          r.seq = (s.dev.port e.2.port).seq ∧ r.fireTime = (s.dev.T + (s.dev.fireBar b.val).need : Nat)) ∧
        (s.dev.receives e.2.port = false → (d.port e.2.port).recs = (s.dev.port e.2.port).recs)))
  )

/-- R227, R228 and R231: STOP starts the sequence from RUN with its settings in force and adds its cause in any other state; RESUME counts for the causes that stand; in HOLDING with
every bar held and the web slow for 10 ms the drive reverses, unless DIST is 0; the timeout leaves HOLDING and REVERSING for WAITING with every bar held, reported as BACKSTEP_SHORT; WAITING is left when every condition holds: every hold is released, and with
no running job the sequence is back in RUN at once. In another state, or before its time, each of these three changes nothing. Where it rests on a choice of the model: log entries 58 and 68. -/
def Obligations.StopSequenceRuns : Prop :=
  (∀ (rq : Requester) (s : State), s.Ready rq 1 →
    (s.dev.fire.stop.st = .run → Completes (.fireStopCmd rq) s (fun d => d.fire.stop.st = .holding ∧ d.fire.stop.host = true ∧ d.drvHold = true ∧
      d.fire.stop.minSpeed = s.dev.get F.FIRE_STOP_CFG_MIN_SPEED ∧ d.fire.stop.tmoMs = s.dev.get F.FIRE_STOP_CFG_STOP_TMO_MS ∧
      d.fire.stop.dist = s.dev.get F.FIRE_BACKSTEP_DIST ∧ (d.get F.FIRE_IRQ_STAT).testBit 0 = true)) ∧
    (s.dev.fire.stop.st ≠ .run → Completes (.fireStopCmd rq) s (fun d => d.fire.stop = { s.dev.fire.stop with host := true, resumeH := false })) ∧
    Gives (.fireResumeCmd rq) s (s.dev.modStop (fun t =>
      { t with resumeU := t.resumeU || t.underrun, resumeH := t.resumeH || t.host, resumeF := t.resumeF || (t.fault && t.acked) }))) ∧
  (∀ s : State, s.dev.fire.stop.st = .holding → s.dev.allHeld = true → s.dev.fire.stop.dist ≠ 0 →
    (∀ t, s.dev.fire.stop.slowSince = some t →
      (t + 10000000 ≤ s.dev.raw → Completes .stopReverse s (fun d => d.fire.stop = { s.dev.fire.stop with st := .reversing, rev := true, x0 := s.dev.pos.x, since := s.dev.raw } ∧
        (d.get F.FIRE_IRQ_STAT).testBit 1 = true)) ∧
      (s.dev.raw < t + 10000000 → Gives .stopReverse s s.dev)) ∧
    (s.dev.fire.stop.slowSince = none → Gives .stopReverse s s.dev)) ∧
  (∀ s : State, s.dev.fire.stop.st ≠ .holding ∨ s.dev.allHeld = false ∨ s.dev.fire.stop.dist = 0 → Gives .stopReverse s s.dev) ∧
  (∀ s : State,
    (s.dev.fire.stop.st = .holding ∨ s.dev.fire.stop.st = .reversing →
      (s.dev.fire.stop.since + s.dev.fire.stop.tmoMs * 1000000 ≤ s.dev.raw → 8 ≤ s.dev.pos.bars.length →
        Completes .stopTimeout s (fun d => d.fire.stop.st = .waiting ∧ d.allHeld = true ∧
          (∀ b < 8, s.dev.heldFast b = false → (d.posBar b).held = some (s.dev.hwm b)) ∧ has d.flt.status (fkey 155 0) = true)) ∧
      (s.dev.raw < s.dev.fire.stop.since + s.dev.fire.stop.tmoMs * 1000000 → Gives .stopTimeout s s.dev)) ∧
    (s.dev.fire.stop.st ≠ .holding → s.dev.fire.stop.st ≠ .reversing → Gives .stopTimeout s s.dev)) ∧
  (∀ s : State,
    (s.dev.fire.stop.st ≠ .waiting ∨ s.dev.resumable = false → Gives .stopResume s s.dev) ∧
    (s.dev.fire.stop.st = .waiting → s.dev.resumable = true →
      ((∃ e ∈ s.dev.running, ∃ b < 8, e.2.hasBar b = true) →
        Completes .stopResume s (fun d => d.fire.stop.st = .resuming ∧ d.fire.stop.rev = false ∧ ∀ x ∈ d.pos.bars, x.releasing = x.held.isSome)) ∧
      ((∀ e ∈ s.dev.running, ∀ b < 8, e.2.hasBar b = false) →
        Completes .stopResume s (fun d => d.fire.stop.rev = false ∧ (d.get F.FIRE_IRQ_STAT).testBit 2 = true ∧ ∀ x ∈ d.pos.bars, x.releasing = x.held.isSome))))

/-- R223, R231 and R404: an open head interlock closes the gate and is reported as ILK_HEAD; a closed one ends the report; DRV_READY low while a job runs in RUN is reported as
DRV_NOT_READY, and is not otherwise; while the part is not powered only the pins change. R213: the speed request is made at WARN_PCT, as the latest commit took it, of a job's limit, kept down to 2 % below it and then dropped. R235: CLEAR empties a bar's counts. -/
def Obligations.FireInputsActs : Prop :=
  (∀ s : State, s.dev.pwr.st = .on →
    Completes (.ilkHeadInput true) s (fun d => d.pins = { s.dev.pins with ilkHead := true } ∧ d.gateOpen = false ∧ has d.flt.status (fkey 56 0) = true) ∧
    Completes (.ilkHeadInput false) s (fun d => d.pins = { s.dev.pins with ilkHead := false } ∧ has d.flt.det (fkey 56 0) = false) ∧
    Completes (.drvReadyInput true) s (fun d => d.pins = { s.dev.pins with drvReady := true } ∧ has d.flt.det (fkey 58 0) = false) ∧
    (s.dev.fire.stop.st = .run → s.dev.running ≠ [] →
      Completes (.drvReadyInput false) s (fun d => d.pins = { s.dev.pins with drvReady := false } ∧ has d.flt.status (fkey 58 0) = true)) ∧
    (s.dev.fire.stop.st ≠ .run ∨ s.dev.running = [] →
      Completes (.drvReadyInput false) s (fun d => d.pins = { s.dev.pins with drvReady := false } ∧ has d.flt.det (fkey 58 0) = false))) ∧
  (∀ (s : State) (high : Bool), s.dev.pwr.st ≠ .on →
    Gives (.ilkHeadInput high) s { s.dev with pins := { s.dev.pins with ilkHead := high } } ∧
    Gives (.drvReadyInput high) s { s.dev with pins := { s.dev.pins with drvReady := high } }) ∧
  (∀ (s : State) (w : Nat) (f : Job → Nat), w = s.dev.fire.warnPct → (∀ j, f j = s.dev.pos.speed.natAbs * j.ctx.lpi * 100) →
    ((∃ e ∈ s.dev.running, w * e.2.geo.rateMax * 25400 ≤ f e.2) →
      Gives .speedLimitCheck s { s.dev with fire := { s.dev.fire with speedLim := true } }) ∧
    ((∀ e ∈ s.dev.running, f e.2 < w * e.2.geo.rateMax * 25400) → (∀ e ∈ s.dev.running, f e.2 < (w - 2) * e.2.geo.rateMax * 25400) →
      Gives .speedLimitCheck s { s.dev with fire := { s.dev.fire with speedLim := false } }) ∧
    ((∀ e ∈ s.dev.running, f e.2 < w * e.2.geo.rateMax * 25400) → (∃ e ∈ s.dev.running, (w - 2) * e.2.geo.rateMax * 25400 ≤ f e.2) →
      Gives .speedLimitCheck s s.dev)) ∧
  (∀ (rq : Requester) (b : Bar) (s : State), s.Ready rq 0 →
    Gives (.fireCountClear rq b) s ((s.dev.set F.FIRE_B_CNT_DROPPED 0 b.val).set F.FIRE_B_CNT_DEFERRED 0 b.val) ∧
    Gives (.fireCount2Clear rq b) s ((s.dev.set F.FIRE_B_CNT2_RESUME_SLOW 0 b.val).set F.FIRE_B_CNT2_SUPPRESSED 0 b.val))

/-! ### Head links (file 08) -/

/-- R236, R242, R248, R249 and R256: a stored lane rate takes effect when every port of its powered group is disabled, and relocks the PLL; then the group's disabled enabled ports prime. ENABLE takes a DISABLED port to
PRIMING unless a fence or a relock holds it, and ENABLE 0 takes any port to DISABLED; the word's other fields are stored by the requester's role. Priming leads to ALIGNING, or to UP for a lane that leaves idle, with the lane on; an
ALIGNING port waits 10 ms for HELLO, reported as HEAD_ABSENT once after ENABLE, then 100 ms for its next priming; each marker carries the next number. R239 to R241 and R245: the bits that a lane sends for a frame are, to
a receiver in lock at a word boundary with no marker due within it, that frame. Where it rests on a choice of the model: log entries 80 and 132. -/
def Obligations.PortsPrimeAndAlign : Prop :=
  (∀ (g : Group) (s : State) (r : Nat), r = s.dev.get F.HLK_GROUP_RATE (24 * g.val) →
    (s.dev.pwr.st = .on → r ≠ (s.dev.groups.getD g.val {}).rate → (∀ k < 24, s.dev.get F.HLK_CTRL_ENABLE (24 * g.val + k) = 0) →
      Gives (.laneRateChange g) s { s.dev with groups := setAt s.dev.groups g.val (fun _ => { rate := r, relockAt := some (s.dev.raw + 100000) }) }) ∧
    (s.dev.pwr.st ≠ .on ∨ r = (s.dev.groups.getD g.val {}).rate ∨ (∃ k < 24, s.dev.get F.HLK_CTRL_ENABLE (24 * g.val + k) ≠ 0) →
      Gives (.laneRateChange g) s s.dev)) ∧
  (∀ (g : Group) (s : State),
    ((s.dev.groups.getD g.val {}).relockAt = none → Gives (.groupPllRelock g) s s.dev) ∧
    (192 ≤ s.dev.ports.length → (s.dev.groups.getD g.val {}).relockAt ≠ none →
      Completes (.groupPllRelock g) s (fun d => (d.groups.getD g.val {}) = { (s.dev.groups.getD g.val {}) with relockAt := none } ∧
        ∀ p < 192, (p / 24 = g.val → (s.dev.port p).st = .disabled → s.dev.get F.HLK_CTRL_ENABLE p ≠ 0 → s.dev.fenced (.port p) = false →
            (d.port p).st = .priming ∧ (d.port p).since = s.dev.raw) ∧
          (p / 24 ≠ g.val ∨ (s.dev.port p).st ≠ .disabled ∨ s.dev.get F.HLK_CTRL_ENABLE p = 0 ∨ s.dev.fenced (.port p) = true → d.port p = s.dev.port p)))) ∧
  (∀ (rq : Requester) (p : Port) (w : Word) (s : State) (e : Nat) (held : Prop) (req : Nat), s.PagesOpen → s.Quiet → p.val < s.dev.ports.length → e = s.dev.get F.HLK_CTRL_ENABLE p.val →
    (held ↔ (s.dev.port p.val).st ≠ .disabled ∨ s.dev.fenced (.port p.val) = true ∨ (s.dev.groups.getD (p.val / 24) {}).relockAt ≠ none) →
    req = (if s.dev.rights rq < 3 then s.dev.get F.HLK_CTRL_REQUIRE_AUTH p.val else w.toNat / 16 % 2) →
    let ends (c : Instr) (P : Dev → Prop) : Prop :=
      if s.dev.rights rq < 3 then Completes c s P else CompletesAudited c s rq (0x1000008 + 0x1000 * p.val) P
    (w.toNat.testBit 0 = true →
      ends (.portEnable rq p w) (fun d => d.get F.HLK_CTRL_ENABLE p.val = (if e = 0 then 1 else e) ∧ d.get F.HLK_CTRL_REQUIRE_AUTH p.val = req ∧
        d.get F.HLK_CTRL_IDLE_EN p.val = w.toNat / 2 % 2 ∧ (∀ k, k ≠ p.val → d.port k = s.dev.port k) ∧
        (e = 0 → ¬ held → (d.port p.val).st = .priming ∧ (d.port p.val).since = s.dev.raw ∧ (d.port p.val).tx.mode = .priming ∧ (d.port p.val).noHead = false) ∧
        (e = 0 → held → d.port p.val = { s.dev.port p.val with noHead := false }) ∧ (e ≠ 0 → d.port p.val = s.dev.port p.val)) ∧
      ends (.portDisable rq p w) (fun d => d.ports = s.dev.ports ∧ d.get F.HLK_CTRL_ENABLE p.val = e ∧ d.get F.HLK_CTRL_REQUIRE_AUTH p.val = req ∧
        d.get F.HLK_CTRL_IDLE_EN p.val = w.toNat / 2 % 2)) ∧
    (w.toNat.testBit 0 = false →
      ends (.portEnable rq p w) (fun d => d.ports = s.dev.ports ∧ d.get F.HLK_CTRL_ENABLE p.val = e ∧ d.get F.HLK_CTRL_REQUIRE_AUTH p.val = req ∧
        d.get F.HLK_CTRL_IDLE_EN p.val = w.toNat / 2 % 2) ∧
      ends (.portDisable rq p w) (fun d => d.get F.HLK_CTRL_ENABLE p.val = 0 ∧ d.get F.HLK_CTRL_REQUIRE_AUTH p.val = req ∧ d.get F.HLK_CTRL_IDLE_EN p.val = w.toNat / 2 % 2 ∧
        (∀ k, k ≠ p.val → d.port k = s.dev.port k) ∧ (e = 0 → d.ports = s.dev.ports) ∧ (e ≠ 0 → (d.port p.val).st = .disabled)))) ∧
  (∀ (p : Port) (s : State) (q : HlkPort), q = s.dev.port p.val → p.val < s.dev.ports.length →
    (q.tx.mode = .on → Completes (.markerSend p) s (fun d => (d.port p.val).mFwd = (q.mFwd + 1) % 64 ∧ (d.port p.val).st = q.st ∧ Output.marker p.val ((q.mFwd + 1) % 64) ∈ d.outbox)) ∧
    (q.tx.mode ≠ .on → Gives (.markerSend p) s s.dev) ∧
    (q.st = .priming → Completes (.primingDone p) s (fun d => (d.port p.val).st = .aligning ∧ (d.port p.val).since = s.dev.raw ∧ (d.port p.val).retryAt = none ∧
      (d.port p.val).tx.mode = .on ∧ (d.port p.val).mFwd = 0 ∧ ∀ k, k ≠ p.val → d.port k = s.dev.port k)) ∧
    (q.st ≠ .priming → q.tx.mode = .priming → Completes (.primingDone p) s (fun d => (d.port p.val).st = (if q.st = .idle then .up else q.st) ∧ (d.port p.val).seq = q.seq ∧
      (d.port p.val).tx.mode = .on ∧ (d.port p.val).mFwd = 0 ∧ ∀ k, k ≠ p.val → d.port k = s.dev.port k)) ∧
    (q.st ≠ .priming → q.tx.mode ≠ .priming → Gives (.primingDone p) s s.dev) ∧
    (q.st ≠ .aligning ∨ q.retryAt = none → Gives (.primingRetry p) s s.dev) ∧
    (q.st = .aligning → ∀ t, q.retryAt = some t →
      (s.dev.raw < t ∨ s.dev.get F.HLK_CTRL_ENABLE p.val = 0 ∨ s.dev.fenced (.port p.val) = true ∨ (s.dev.groups.getD (p.val / 24) {}).relockAt ≠ none → Gives (.primingRetry p) s s.dev) ∧
      (t ≤ s.dev.raw → s.dev.get F.HLK_CTRL_ENABLE p.val ≠ 0 → s.dev.fenced (.port p.val) = false → (s.dev.groups.getD (p.val / 24) {}).relockAt = none →
        Completes (.primingRetry p) s (fun d => (d.port p.val).st = .priming ∧ (d.port p.val).retryAt = none ∧ (d.port p.val).tx.mode = .priming))) ∧
    (q.st ≠ .aligning ∨ q.retryAt ≠ none ∨ s.dev.raw < q.since + 10000000 → Gives (.helloTimeout p) s s.dev) ∧
    (q.st = .aligning → q.retryAt = none → q.since + 10000000 ≤ s.dev.raw →
      ∀ e : Dev, e = s.dev.modPort p.val (fun q => { q with retryAt := some (s.dev.raw + 100000000), noHead := true }) →
        (q.noHead = true → Gives (.helloTimeout p) s e) ∧ (q.noHead = false → Gives (.helloTimeout p) s (e.report 156 p.val) ∧ Dev.Reported e (e.report 156 p.val) 156 p.val))) ∧
  (∀ (t : LaneTx) (r : LaneRx) (port ftype : Nat) (payload : List Nat),
    r.hunting = false → r.blind = false → r.skip = 0 → r.frame = [] → r.nbits = 0 → r.word = 0 → r.scr = t.scr → r.run = t.run → r.runBit = t.runBit → t.run < 24 →
    port < 192 → 1 ≤ ftype → ftype ≤ 6 → payload.length < 4096 → (∀ w ∈ payload, w < 4294967296) →
    0 < r.words → r.words + payload.length + 2 ≤ 256 → t.words + payload.length + 2 ≤ 1024 →
    (LaneRx.steps (LaneTx.puts 1024 (frameWords port ftype payload) t).1 r).2 = [.frame ftype payload])

/-- R244, R245, R251, R256 to R258, R262 and R265: HELLO on a locked link shows the head's identity; where it does not fit the port, ALIGNING and CAPS_FAULT end in CAPS_FAULT, reported; else the port is CALIBRATING, from a state
past ALIGNING with its session and records gone, and where the pair check of a pair's port fails both are in PAIR_FAULT, unless a reaction disables a port. Two
markers in sequence give lock, and a missing marker or a stuffing violation loses it with the session, counted in RESYNC; a frame with errors is counted; the errors of a second beyond LIMIT are
reported as HLK_BER; CLEAR empties the four counts; 10 ms without a valid frame take an UP or IDLE port back to PRIMING, reported as HLK_DOWN. Where it rests on a choice of the model: log entries 80, 85 and 133. -/
def Obligations.HeadsAreHeard : Prop :=
  ∀ (p : Port) (s : State) (q : HlkPort), q = s.dev.port p.val → p.val < s.dev.ports.length →
    (∀ (w0 w1 w2 w3 : Word) (checked fits : Prop), (checked ↔ q.st = .aligning ∨ q.st = .capsFault) → (fits ↔ s.dev.helloFits p.val w3.toNat = true) →
      let shown (d : Dev) : Prop := (List.range 4).map (fun k => d.get F.HLK_ID p.val k) = [w0.toNat, w1.toNat, w2.toNat, w3.toNat]
      (q.bcLock = false ∨ q.st = .disabled ∨ q.st = .priming → Gives (.hello p w0 w1 w2 w3) s s.dev) ∧
      (q.bcLock = true → checked → ¬ fits →
        Completes (.hello p w0 w1 w2 w3) s (fun d => shown d ∧ ((d.port p.val).st = .capsFault ∨ (d.port p.val).st = .disabled) ∧ Dev.Reported s.dev d 166 p.val)) ∧
      (q.bcLock = true → q.st = .aligning ∨ q.linked = true → (checked → fits) →
        (s.dev.pairOf p.val = none →
          (checked → Completes (.hello p w0 w1 w2 w3) s (fun d => shown d ∧ (d.port p.val).st = .calibrating ∧ (d.port p.val).calOn = true ∧ (d.port p.val).calGot = [] ∧
            (d.port p.val).pair = false ∧ ∀ k, k ≠ p.val → d.port k = s.dev.port k)) ∧
          (¬ checked → Completes (.hello p w0 w1 w2 w3) s (fun d => shown d ∧ ((d.port p.val).st = .calibrating ∨ (d.port p.val).st = .disabled) ∧ (d.port p.val).recs = [] ∧
            (d.port p.val).session = none ∧ (d.get F.HLK_IRQ_STAT p.val).testBit 1 = true))) ∧
        (∀ (o : Nat) (odd : Bool) (fails : Prop), s.dev.pairOf p.val = some (o, odd) → o < s.dev.ports.length → o ≠ p.val →
          (fails ↔ w3.toNat.testBit 16 = false ∨ ((s.dev.port o).linked = true ∧ (s.dev.port o).st ≠ .capsFault ∧
            (w0.toNat ≠ s.dev.get F.HLK_ID o 0 ∨ w1.toNat ≠ s.dev.get F.HLK_ID o 1))) →
          (fails → Completes (.hello p w0 w1 w2 w3) s (fun d => shown d ∧ ((d.port p.val).st = .pairFault ∨ (d.port p.val).st = .disabled) ∧ has d.flt.status (fkey 166 p.val) = true ∧
            ((s.dev.port o).st ≠ .disabled → ((d.port o).st = .pairFault ∨ (d.port o).st = .disabled) ∧ has d.flt.status (fkey 166 o) = true) ∧
            ((s.dev.port o).st = .disabled → (d.port o).st = .disabled))) ∧
          (¬ fails → Completes (.hello p w0 w1 w2 w3) s (fun d => shown d ∧ ((d.port p.val).st = .calibrating ∨ (¬ checked ∧ (d.port p.val).st = .disabled)) ∧
            (checked → (d.port p.val).pair = true)))))) ∧
    (∀ m : BitVec 6,
      (q.st = .disabled → Gives (.backMarkerReceive p m) s s.dev) ∧
      (q.st ≠ .disabled → Gives (.backMarkerReceive p m) s (s.dev.modPort p.val (fun q =>
        { q with mBack := some m.toNat, bcLock := q.bcLock || decide (q.mBack = some ((m.toNat + 63) % 64)) })))) ∧
    (q.bcLock = true → ∀ c ∈ [Instr.markerMissing p, Instr.stuffViolation p],
      Gives c s ((s.dev.bump F.HLK_ERR2_RESYNC p.val).modPort p.val (fun q => { q with errs := q.errs + 1, bcLock := false, mBack := none, session := none }))) ∧
    (q.bcLock = false → ∀ c ∈ [Instr.markerMissing p, Instr.stuffViolation p, Instr.backChannelFrameError p], Gives c s s.dev) ∧
    (q.bcLock = true → Gives (.backChannelFrameError p) s ((s.dev.bump F.HLK_ERR_CRC p.val).modPort p.val (fun q => { q with errs := q.errs + 1 }))) ∧
    (∀ e : Dev, e = s.dev.modPort p.val (fun q => { q with errs := 0 }) →
      (q.errs ≤ s.dev.get F.HLK_ERR_LIMIT p.val ∨ s.dev.pwr.st ≠ .on → Gives (.berSecond p) s e) ∧
      (s.dev.get F.HLK_ERR_LIMIT p.val < q.errs → s.dev.pwr.st = .on → Gives (.berSecond p) s (e.report 184 p.val) ∧ Dev.Reported e (e.report 184 p.val) 184 p.val)) ∧
    (∀ rq : Requester, s.Ready rq 0 →
      Gives (.hlkErrClear rq p) s ((((s.dev.set F.HLK_ERR_CRC 0 p.val).set F.HLK_ERR_RETRANS 0 p.val).set F.HLK_ERR2_RESYNC 0 p.val).set F.HLK_ERR2_ABANDON 0 p.val)) ∧
    ((q.st ≠ .up ∧ q.st ≠ .idle) ∨ s.dev.raw < q.lastBack + 10000000 → Gives (.backChannelTimeout p) s s.dev) ∧
    (q.st = .up ∨ q.st = .idle → q.lastBack + 10000000 ≤ s.dev.raw →
      Completes (.backChannelTimeout p) s (fun d => ((d.port p.val).st = .priming ∨ (d.port p.val).st = .disabled) ∧ (d.port p.val).recs = [] ∧ (d.port p.val).session = none ∧
        (d.port p.val).bcLock = false ∧ (d.get F.HLK_IRQ_STAT p.val).testBit 1 = true ∧ has d.flt.status (fkey (157 + p.val / 24) p.val) = true))

end
end

