-- ==== Sys2Proof/Laws/Registers.lean ====
section
/-! SUPPORT. The register file: a value stored in a field is read back cut to the field's width, and every field at another key keeps its value. -/

namespace Sys2Proof.Machine

theorem RegFile.find_drop_self (k : Nat) (r : RegFile) : (r.drop k).find k = none := by
  induction r with
  | nil => rfl
  | cons e r ih =>
    obtain ⟨k', v⟩ := e
    by_cases h : k' = k
    · simpa [RegFile.drop, h] using ih
    · simp only [RegFile.drop, List.filter_cons]
      simpa [h, RegFile.find, RegFile.drop] using ih

theorem RegFile.find_drop_ne {k k' : Nat} (h : k' ≠ k) (r : RegFile) : (r.drop k).find k' = r.find k' := by
  induction r with
  | nil => rfl
  | cons e r ih =>
    obtain ⟨a, v⟩ := e
    by_cases ha : a = k
    · subst ha
      have : ¬ a = k' := fun e => h e.symm
      simpa [RegFile.drop, RegFile.find, this] using ih
    · by_cases hb : a = k'
      · subst hb; simp [RegFile.drop, RegFile.find, ha]
      · simpa [RegFile.drop, RegFile.find, ha, hb] using ih

theorem RegFile.find_put_self (k v : Nat) (r : RegFile) (h : r.find k = none) : (RegFile.put k v r).find k = some v := by
  induction r with
  | nil => simp [RegFile.put, RegFile.find]
  | cons e r ih =>
    obtain ⟨a, x⟩ := e
    by_cases ha : a = k
    · simp [RegFile.find, ha] at h
    · simp only [RegFile.find, ha, if_false] at h
      by_cases hl : k < a
      · simp [RegFile.put, RegFile.find, hl]
      · simp [RegFile.put, RegFile.find, hl, ha, ih h]

theorem RegFile.find_put_ne {k k' : Nat} (h : k' ≠ k) (v : Nat) (r : RegFile) : (RegFile.put k v r).find k' = r.find k' := by
  have hk : ¬ k = k' := fun e => h e.symm
  induction r with
  | nil => simp [RegFile.put, RegFile.find, hk]
  | cons e r ih =>
    obtain ⟨a, x⟩ := e
    by_cases hl : k < a
    · simp [RegFile.put, RegFile.find, hl, hk]
    · simp [RegFile.put, RegFile.find, hl, ih]

/-- A stored value is read back cut to the field's width. -/
theorem RegFile.get_set_self (r : RegFile) (f : Field) (i j v : Nat) : (r.set f i j v).get f i j = v % 2 ^ f.width := by
  simp only [RegFile.set, RegFile.get]
  split
  · rename_i h; simp [RegFile.find_drop_self, h]
  · simp [RegFile.find_put_self _ _ _ (RegFile.find_drop_self _ _)]

/-- A store changes no field at another key. -/
theorem RegFile.get_set_ne (r : RegFile) (f g : Field) (i j i' j' v : Nat) (h : g.key i' j' ≠ f.key i j) :
    (r.set f i j v).get g i' j' = r.get g i' j' := by
  simp only [RegFile.set, RegFile.get]
  split
  · rw [RegFile.find_drop_ne h]
  · rw [RegFile.find_put_ne h, RegFile.find_drop_ne h]

/-- A field stored is read back cut to its width. -/
@[simp] theorem Dev.get_set_self (d : Dev) (f : Field) (v i j : Nat) : (d.set f v i j).get f i j = v % 2 ^ f.width :=
  RegFile.get_set_self d.regs f i j v

/-- A field at another key keeps its value. -/
theorem Dev.get_set_ne (d : Dev) (f g : Field) (v i j i' j' : Nat) (h : g.key i' j' ≠ f.key i j) :
    (d.set f v i j).get g i' j' = d.get g i' j' :=
  RegFile.get_set_ne d.regs f g i j i' j' v h

/-- A count is raised and stops at the field's largest value. -/
theorem Dev.get_bump_self (d : Dev) (f : Field) (i j n : Nat) :
    (d.bump f i j n).get f i j = sat f.max (d.get f i j + n) % 2 ^ f.width := by
  simp [Dev.bump]

theorem Dev.get_bump_ne (d : Dev) (f g : Field) (i j n i' j' : Nat) (h : g.key i' j' ≠ f.key i j) :
    (d.bump f i j n).get g i' j' = d.get g i' j' := Dev.get_set_ne _ _ _ _ _ _ _ _ h

end Sys2Proof.Machine
end

