-- ==== Sys2Proof/Laws/State.lean ====
section
/-! SUPPORT. What each named update of the state leaves alone: one lemma for each field and update, and the parts of a state after an update of its device. -/

namespace Sys2Proof.Machine

/-! ### State -/

@[simp] theorem State.onDev_dev (s : State) (f : Dev → Dev) : (s.onDev f).dev = f s.dev := rfl
@[simp] theorem State.onDev_audit (s : State) (f : Dev → Dev) : (s.onDev f).audit = s.audit := rfl
@[simp] theorem State.onDev_pending (s : State) (f : Dev → Dev) : (s.onDev f).pending = s.pending := rfl
@[simp] theorem State.pushAudit_dev (s : State) (rq : Option Requester) (e : AuditEntry) : (s.pushAudit rq e).dev = s.dev := rfl
@[simp] theorem State.pushAudit_pending (s : State) (rq : Option Requester) (e : AuditEntry) : (s.pushAudit rq e).pending = s.pending := rfl
@[simp] theorem State.pushAudit_queue (s : State) (rq : Option Requester) (e : AuditEntry) :
    (s.pushAudit rq e).audit.queue = s.audit.queue ++ [(rq, e)] := rfl
@[simp] theorem State.pushAudit_stalled (s : State) (rq : Option Requester) (e : AuditEntry) :
    (s.pushAudit rq e).audit.stalled = s.audit.stalled := rfl

/-! ### Dev.set -/

@[simp] theorem Dev.set_bar2 (d : Dev) (f : Field) (v i j : Nat) : (d.set f v i j).bar2 = d.bar2 := rfl
@[simp] theorem Dev.set_latches (d : Dev) (f : Field) (v i j : Nat) : (d.set f v i j).latches = d.latches := rfl
@[simp] theorem Dev.set_raw (d : Dev) (f : Field) (v i j : Nat) : (d.set f v i j).raw = d.raw := rfl
@[simp] theorem Dev.set_aon (d : Dev) (f : Field) (v i j : Nat) : (d.set f v i j).aon = d.aon := rfl
@[simp] theorem Dev.set_free (d : Dev) (f : Field) (v i j : Nat) : (d.set f v i j).free = d.free := rfl
@[simp] theorem Dev.set_outbox (d : Dev) (f : Field) (v i j : Nat) : (d.set f v i j).outbox = d.outbox := rfl
@[simp] theorem Dev.set_fences (d : Dev) (f : Field) (v i j : Nat) : (d.set f v i j).fences = d.fences := rfl
@[simp] theorem Dev.set_host (d : Dev) (f : Field) (v i j : Nat) : (d.set f v i j).host = d.host := rfl
@[simp] theorem Dev.set_cellar (d : Dev) (f : Field) (v i j : Nat) : (d.set f v i j).cellar = d.cellar := rfl
@[simp] theorem Dev.set_staged (d : Dev) (f : Field) (v i j : Nat) : (d.set f v i j).staged = d.staged := rfl
@[simp] theorem Dev.set_safe (d : Dev) (f : Field) (v i j : Nat) : (d.set f v i j).safe = d.safe := rfl
@[simp] theorem Dev.set_bond (d : Dev) (f : Field) (v i j : Nat) : (d.set f v i j).bond = d.bond := rfl
@[simp] theorem Dev.set_mram (d : Dev) (f : Field) (v i j : Nat) : (d.set f v i j).mram = d.mram := rfl
@[simp] theorem Dev.set_pins (d : Dev) (f : Field) (v i j : Nat) : (d.set f v i j).pins = d.pins := rfl
@[simp] theorem Dev.set_pwr (d : Dev) (f : Field) (v i j : Nat) : (d.set f v i j).pwr = d.pwr := rfl
@[simp] theorem Dev.set_flt (d : Dev) (f : Field) (v i j : Nat) : (d.set f v i j).flt = d.flt := rfl
@[simp] theorem Dev.set_rings (d : Dev) (f : Field) (v i j : Nat) : (d.set f v i j).rings = d.rings := rfl
@[simp] theorem Dev.set_descs (d : Dev) (f : Field) (v i j : Nat) : (d.set f v i j).descs = d.descs := rfl
@[simp] theorem Dev.set_reads (d : Dev) (f : Field) (v i j : Nat) : (d.set f v i j).reads = d.reads := rfl
@[simp] theorem Dev.set_turn (d : Dev) (f : Field) (v i j : Nat) : (d.set f v i j).turn = d.turn := rfl
@[simp] theorem Dev.set_barTags (d : Dev) (f : Field) (v i j : Nat) : (d.set f v i j).barTags = d.barTags := rfl
@[simp] theorem Dev.set_jobs (d : Dev) (f : Field) (v i j : Nat) : (d.set f v i j).jobs = d.jobs := rfl
@[simp] theorem Dev.set_spouts (d : Dev) (f : Field) (v i j : Nat) : (d.set f v i j).spouts = d.spouts := rfl
@[simp] theorem Dev.set_decBusy (d : Dev) (f : Field) (v i j : Nat) : (d.set f v i j).decBusy = d.decBusy := rfl
@[simp] theorem Dev.set_ktabs (d : Dev) (f : Field) (v i j : Nat) : (d.set f v i j).ktabs = d.ktabs := rfl
@[simp] theorem Dev.set_hmap (d : Dev) (f : Field) (v i j : Nat) : (d.set f v i j).hmap = d.hmap := rfl
@[simp] theorem Dev.set_enc (d : Dev) (f : Field) (v i j : Nat) : (d.set f v i j).enc = d.enc := rfl
@[simp] theorem Dev.set_pos (d : Dev) (f : Field) (v i j : Nat) : (d.set f v i j).pos = d.pos := rfl
@[simp] theorem Dev.set_fire (d : Dev) (f : Field) (v i j : Nat) : (d.set f v i j).fire = d.fire := rfl
@[simp] theorem Dev.set_ports (d : Dev) (f : Field) (v i j : Nat) : (d.set f v i j).ports = d.ports := rfl
@[simp] theorem Dev.set_groups (d : Dev) (f : Field) (v i j : Nat) : (d.set f v i j).groups = d.groups := rfl
@[simp] theorem Dev.set_ddr (d : Dev) (f : Field) (v i j : Nat) : (d.set f v i j).ddr = d.ddr := rfl
@[simp] theorem Dev.set_ecc (d : Dev) (f : Field) (v i j : Nat) : (d.set f v i j).ecc = d.ecc := rfl
@[simp] theorem Dev.set_dram (d : Dev) (f : Field) (v i j : Nat) : (d.set f v i j).dram = d.dram := rfl
@[simp] theorem Dev.set_check (d : Dev) (f : Field) (v i j : Nat) : (d.set f v i j).check = d.check := rfl
@[simp] theorem Dev.set_cam (d : Dev) (f : Field) (v i j : Nat) : (d.set f v i j).cam = d.cam := rfl
@[simp] theorem Dev.set_isp (d : Dev) (f : Field) (v i j : Nat) : (d.set f v i j).isp = d.isp := rfl
@[simp] theorem Dev.set_vin (d : Dev) (f : Field) (v i j : Nat) : (d.set f v i j).vin = d.vin := rfl
@[simp] theorem Dev.set_lamps (d : Dev) (f : Field) (v i j : Nat) : (d.set f v i j).lamps = d.lamps := rfl
@[simp] theorem Dev.set_tb (d : Dev) (f : Field) (v i j : Nat) : (d.set f v i j).tb = d.tb := rfl
@[simp] theorem Dev.set_eth (d : Dev) (f : Field) (v i j : Nat) : (d.set f v i j).eth = d.eth := rfl
@[simp] theorem Dev.set_thm (d : Dev) (f : Field) (v i j : Nat) : (d.set f v i j).thm = d.thm := rfl

/-! ### Dev.bump -/

@[simp] theorem Dev.bump_bar2 (d : Dev) (f : Field) (i j n : Nat) : (d.bump f i j n).bar2 = d.bar2 := rfl
@[simp] theorem Dev.bump_latches (d : Dev) (f : Field) (i j n : Nat) : (d.bump f i j n).latches = d.latches := rfl
@[simp] theorem Dev.bump_raw (d : Dev) (f : Field) (i j n : Nat) : (d.bump f i j n).raw = d.raw := rfl
@[simp] theorem Dev.bump_aon (d : Dev) (f : Field) (i j n : Nat) : (d.bump f i j n).aon = d.aon := rfl
@[simp] theorem Dev.bump_free (d : Dev) (f : Field) (i j n : Nat) : (d.bump f i j n).free = d.free := rfl
@[simp] theorem Dev.bump_outbox (d : Dev) (f : Field) (i j n : Nat) : (d.bump f i j n).outbox = d.outbox := rfl
@[simp] theorem Dev.bump_fences (d : Dev) (f : Field) (i j n : Nat) : (d.bump f i j n).fences = d.fences := rfl
@[simp] theorem Dev.bump_host (d : Dev) (f : Field) (i j n : Nat) : (d.bump f i j n).host = d.host := rfl
@[simp] theorem Dev.bump_cellar (d : Dev) (f : Field) (i j n : Nat) : (d.bump f i j n).cellar = d.cellar := rfl
@[simp] theorem Dev.bump_staged (d : Dev) (f : Field) (i j n : Nat) : (d.bump f i j n).staged = d.staged := rfl
@[simp] theorem Dev.bump_safe (d : Dev) (f : Field) (i j n : Nat) : (d.bump f i j n).safe = d.safe := rfl
@[simp] theorem Dev.bump_bond (d : Dev) (f : Field) (i j n : Nat) : (d.bump f i j n).bond = d.bond := rfl
@[simp] theorem Dev.bump_mram (d : Dev) (f : Field) (i j n : Nat) : (d.bump f i j n).mram = d.mram := rfl
@[simp] theorem Dev.bump_pins (d : Dev) (f : Field) (i j n : Nat) : (d.bump f i j n).pins = d.pins := rfl
@[simp] theorem Dev.bump_pwr (d : Dev) (f : Field) (i j n : Nat) : (d.bump f i j n).pwr = d.pwr := rfl
@[simp] theorem Dev.bump_flt (d : Dev) (f : Field) (i j n : Nat) : (d.bump f i j n).flt = d.flt := rfl
@[simp] theorem Dev.bump_rings (d : Dev) (f : Field) (i j n : Nat) : (d.bump f i j n).rings = d.rings := rfl
@[simp] theorem Dev.bump_descs (d : Dev) (f : Field) (i j n : Nat) : (d.bump f i j n).descs = d.descs := rfl
@[simp] theorem Dev.bump_reads (d : Dev) (f : Field) (i j n : Nat) : (d.bump f i j n).reads = d.reads := rfl
@[simp] theorem Dev.bump_turn (d : Dev) (f : Field) (i j n : Nat) : (d.bump f i j n).turn = d.turn := rfl
@[simp] theorem Dev.bump_barTags (d : Dev) (f : Field) (i j n : Nat) : (d.bump f i j n).barTags = d.barTags := rfl
@[simp] theorem Dev.bump_jobs (d : Dev) (f : Field) (i j n : Nat) : (d.bump f i j n).jobs = d.jobs := rfl
@[simp] theorem Dev.bump_spouts (d : Dev) (f : Field) (i j n : Nat) : (d.bump f i j n).spouts = d.spouts := rfl
@[simp] theorem Dev.bump_decBusy (d : Dev) (f : Field) (i j n : Nat) : (d.bump f i j n).decBusy = d.decBusy := rfl
@[simp] theorem Dev.bump_ktabs (d : Dev) (f : Field) (i j n : Nat) : (d.bump f i j n).ktabs = d.ktabs := rfl
@[simp] theorem Dev.bump_hmap (d : Dev) (f : Field) (i j n : Nat) : (d.bump f i j n).hmap = d.hmap := rfl
@[simp] theorem Dev.bump_enc (d : Dev) (f : Field) (i j n : Nat) : (d.bump f i j n).enc = d.enc := rfl
@[simp] theorem Dev.bump_pos (d : Dev) (f : Field) (i j n : Nat) : (d.bump f i j n).pos = d.pos := rfl
@[simp] theorem Dev.bump_fire (d : Dev) (f : Field) (i j n : Nat) : (d.bump f i j n).fire = d.fire := rfl
@[simp] theorem Dev.bump_ports (d : Dev) (f : Field) (i j n : Nat) : (d.bump f i j n).ports = d.ports := rfl
@[simp] theorem Dev.bump_groups (d : Dev) (f : Field) (i j n : Nat) : (d.bump f i j n).groups = d.groups := rfl
@[simp] theorem Dev.bump_ddr (d : Dev) (f : Field) (i j n : Nat) : (d.bump f i j n).ddr = d.ddr := rfl
@[simp] theorem Dev.bump_ecc (d : Dev) (f : Field) (i j n : Nat) : (d.bump f i j n).ecc = d.ecc := rfl
@[simp] theorem Dev.bump_dram (d : Dev) (f : Field) (i j n : Nat) : (d.bump f i j n).dram = d.dram := rfl
@[simp] theorem Dev.bump_check (d : Dev) (f : Field) (i j n : Nat) : (d.bump f i j n).check = d.check := rfl
@[simp] theorem Dev.bump_cam (d : Dev) (f : Field) (i j n : Nat) : (d.bump f i j n).cam = d.cam := rfl
@[simp] theorem Dev.bump_isp (d : Dev) (f : Field) (i j n : Nat) : (d.bump f i j n).isp = d.isp := rfl
@[simp] theorem Dev.bump_vin (d : Dev) (f : Field) (i j n : Nat) : (d.bump f i j n).vin = d.vin := rfl
@[simp] theorem Dev.bump_lamps (d : Dev) (f : Field) (i j n : Nat) : (d.bump f i j n).lamps = d.lamps := rfl
@[simp] theorem Dev.bump_tb (d : Dev) (f : Field) (i j n : Nat) : (d.bump f i j n).tb = d.tb := rfl
@[simp] theorem Dev.bump_eth (d : Dev) (f : Field) (i j n : Nat) : (d.bump f i j n).eth = d.eth := rfl
@[simp] theorem Dev.bump_thm (d : Dev) (f : Field) (i j n : Nat) : (d.bump f i j n).thm = d.thm := rfl

/-! ### Dev.raiseBit -/

@[simp] theorem Dev.raiseBit_bar2 (d : Dev) (f : Field) (k i j : Nat) : (d.raiseBit f k i j).bar2 = d.bar2 := rfl
@[simp] theorem Dev.raiseBit_latches (d : Dev) (f : Field) (k i j : Nat) : (d.raiseBit f k i j).latches = d.latches := rfl
@[simp] theorem Dev.raiseBit_raw (d : Dev) (f : Field) (k i j : Nat) : (d.raiseBit f k i j).raw = d.raw := rfl
@[simp] theorem Dev.raiseBit_aon (d : Dev) (f : Field) (k i j : Nat) : (d.raiseBit f k i j).aon = d.aon := rfl
@[simp] theorem Dev.raiseBit_free (d : Dev) (f : Field) (k i j : Nat) : (d.raiseBit f k i j).free = d.free := rfl
@[simp] theorem Dev.raiseBit_outbox (d : Dev) (f : Field) (k i j : Nat) : (d.raiseBit f k i j).outbox = d.outbox := rfl
@[simp] theorem Dev.raiseBit_fences (d : Dev) (f : Field) (k i j : Nat) : (d.raiseBit f k i j).fences = d.fences := rfl
@[simp] theorem Dev.raiseBit_host (d : Dev) (f : Field) (k i j : Nat) : (d.raiseBit f k i j).host = d.host := rfl
@[simp] theorem Dev.raiseBit_cellar (d : Dev) (f : Field) (k i j : Nat) : (d.raiseBit f k i j).cellar = d.cellar := rfl
@[simp] theorem Dev.raiseBit_staged (d : Dev) (f : Field) (k i j : Nat) : (d.raiseBit f k i j).staged = d.staged := rfl
@[simp] theorem Dev.raiseBit_safe (d : Dev) (f : Field) (k i j : Nat) : (d.raiseBit f k i j).safe = d.safe := rfl
@[simp] theorem Dev.raiseBit_bond (d : Dev) (f : Field) (k i j : Nat) : (d.raiseBit f k i j).bond = d.bond := rfl
@[simp] theorem Dev.raiseBit_mram (d : Dev) (f : Field) (k i j : Nat) : (d.raiseBit f k i j).mram = d.mram := rfl
@[simp] theorem Dev.raiseBit_pins (d : Dev) (f : Field) (k i j : Nat) : (d.raiseBit f k i j).pins = d.pins := rfl
@[simp] theorem Dev.raiseBit_pwr (d : Dev) (f : Field) (k i j : Nat) : (d.raiseBit f k i j).pwr = d.pwr := rfl
@[simp] theorem Dev.raiseBit_flt (d : Dev) (f : Field) (k i j : Nat) : (d.raiseBit f k i j).flt = d.flt := rfl
@[simp] theorem Dev.raiseBit_rings (d : Dev) (f : Field) (k i j : Nat) : (d.raiseBit f k i j).rings = d.rings := rfl
@[simp] theorem Dev.raiseBit_descs (d : Dev) (f : Field) (k i j : Nat) : (d.raiseBit f k i j).descs = d.descs := rfl
@[simp] theorem Dev.raiseBit_reads (d : Dev) (f : Field) (k i j : Nat) : (d.raiseBit f k i j).reads = d.reads := rfl
@[simp] theorem Dev.raiseBit_turn (d : Dev) (f : Field) (k i j : Nat) : (d.raiseBit f k i j).turn = d.turn := rfl
@[simp] theorem Dev.raiseBit_barTags (d : Dev) (f : Field) (k i j : Nat) : (d.raiseBit f k i j).barTags = d.barTags := rfl
@[simp] theorem Dev.raiseBit_jobs (d : Dev) (f : Field) (k i j : Nat) : (d.raiseBit f k i j).jobs = d.jobs := rfl
@[simp] theorem Dev.raiseBit_spouts (d : Dev) (f : Field) (k i j : Nat) : (d.raiseBit f k i j).spouts = d.spouts := rfl
@[simp] theorem Dev.raiseBit_decBusy (d : Dev) (f : Field) (k i j : Nat) : (d.raiseBit f k i j).decBusy = d.decBusy := rfl
@[simp] theorem Dev.raiseBit_ktabs (d : Dev) (f : Field) (k i j : Nat) : (d.raiseBit f k i j).ktabs = d.ktabs := rfl
@[simp] theorem Dev.raiseBit_hmap (d : Dev) (f : Field) (k i j : Nat) : (d.raiseBit f k i j).hmap = d.hmap := rfl
@[simp] theorem Dev.raiseBit_enc (d : Dev) (f : Field) (k i j : Nat) : (d.raiseBit f k i j).enc = d.enc := rfl
@[simp] theorem Dev.raiseBit_pos (d : Dev) (f : Field) (k i j : Nat) : (d.raiseBit f k i j).pos = d.pos := rfl
@[simp] theorem Dev.raiseBit_fire (d : Dev) (f : Field) (k i j : Nat) : (d.raiseBit f k i j).fire = d.fire := rfl
@[simp] theorem Dev.raiseBit_ports (d : Dev) (f : Field) (k i j : Nat) : (d.raiseBit f k i j).ports = d.ports := rfl
@[simp] theorem Dev.raiseBit_groups (d : Dev) (f : Field) (k i j : Nat) : (d.raiseBit f k i j).groups = d.groups := rfl
@[simp] theorem Dev.raiseBit_ddr (d : Dev) (f : Field) (k i j : Nat) : (d.raiseBit f k i j).ddr = d.ddr := rfl
@[simp] theorem Dev.raiseBit_ecc (d : Dev) (f : Field) (k i j : Nat) : (d.raiseBit f k i j).ecc = d.ecc := rfl
@[simp] theorem Dev.raiseBit_dram (d : Dev) (f : Field) (k i j : Nat) : (d.raiseBit f k i j).dram = d.dram := rfl
@[simp] theorem Dev.raiseBit_check (d : Dev) (f : Field) (k i j : Nat) : (d.raiseBit f k i j).check = d.check := rfl
@[simp] theorem Dev.raiseBit_cam (d : Dev) (f : Field) (k i j : Nat) : (d.raiseBit f k i j).cam = d.cam := rfl
@[simp] theorem Dev.raiseBit_isp (d : Dev) (f : Field) (k i j : Nat) : (d.raiseBit f k i j).isp = d.isp := rfl
@[simp] theorem Dev.raiseBit_vin (d : Dev) (f : Field) (k i j : Nat) : (d.raiseBit f k i j).vin = d.vin := rfl
@[simp] theorem Dev.raiseBit_lamps (d : Dev) (f : Field) (k i j : Nat) : (d.raiseBit f k i j).lamps = d.lamps := rfl
@[simp] theorem Dev.raiseBit_tb (d : Dev) (f : Field) (k i j : Nat) : (d.raiseBit f k i j).tb = d.tb := rfl
@[simp] theorem Dev.raiseBit_eth (d : Dev) (f : Field) (k i j : Nat) : (d.raiseBit f k i j).eth = d.eth := rfl
@[simp] theorem Dev.raiseBit_thm (d : Dev) (f : Field) (k i j : Nat) : (d.raiseBit f k i j).thm = d.thm := rfl

/-! ### Dev.emit -/

@[simp] theorem Dev.emit_regs (d : Dev) (o : Output) : (d.emit o).regs = d.regs := rfl
@[simp] theorem Dev.emit_bar2 (d : Dev) (o : Output) : (d.emit o).bar2 = d.bar2 := rfl
@[simp] theorem Dev.emit_latches (d : Dev) (o : Output) : (d.emit o).latches = d.latches := rfl
@[simp] theorem Dev.emit_raw (d : Dev) (o : Output) : (d.emit o).raw = d.raw := rfl
@[simp] theorem Dev.emit_aon (d : Dev) (o : Output) : (d.emit o).aon = d.aon := rfl
@[simp] theorem Dev.emit_free (d : Dev) (o : Output) : (d.emit o).free = d.free := rfl
@[simp] theorem Dev.emit_fences (d : Dev) (o : Output) : (d.emit o).fences = d.fences := rfl
@[simp] theorem Dev.emit_host (d : Dev) (o : Output) : (d.emit o).host = d.host := rfl
@[simp] theorem Dev.emit_cellar (d : Dev) (o : Output) : (d.emit o).cellar = d.cellar := rfl
@[simp] theorem Dev.emit_staged (d : Dev) (o : Output) : (d.emit o).staged = d.staged := rfl
@[simp] theorem Dev.emit_safe (d : Dev) (o : Output) : (d.emit o).safe = d.safe := rfl
@[simp] theorem Dev.emit_bond (d : Dev) (o : Output) : (d.emit o).bond = d.bond := rfl
@[simp] theorem Dev.emit_mram (d : Dev) (o : Output) : (d.emit o).mram = d.mram := rfl
@[simp] theorem Dev.emit_pins (d : Dev) (o : Output) : (d.emit o).pins = d.pins := rfl
@[simp] theorem Dev.emit_pwr (d : Dev) (o : Output) : (d.emit o).pwr = d.pwr := rfl
@[simp] theorem Dev.emit_flt (d : Dev) (o : Output) : (d.emit o).flt = d.flt := rfl
@[simp] theorem Dev.emit_rings (d : Dev) (o : Output) : (d.emit o).rings = d.rings := rfl
@[simp] theorem Dev.emit_descs (d : Dev) (o : Output) : (d.emit o).descs = d.descs := rfl
@[simp] theorem Dev.emit_reads (d : Dev) (o : Output) : (d.emit o).reads = d.reads := rfl
@[simp] theorem Dev.emit_turn (d : Dev) (o : Output) : (d.emit o).turn = d.turn := rfl
@[simp] theorem Dev.emit_barTags (d : Dev) (o : Output) : (d.emit o).barTags = d.barTags := rfl
@[simp] theorem Dev.emit_jobs (d : Dev) (o : Output) : (d.emit o).jobs = d.jobs := rfl
@[simp] theorem Dev.emit_spouts (d : Dev) (o : Output) : (d.emit o).spouts = d.spouts := rfl
@[simp] theorem Dev.emit_decBusy (d : Dev) (o : Output) : (d.emit o).decBusy = d.decBusy := rfl
@[simp] theorem Dev.emit_ktabs (d : Dev) (o : Output) : (d.emit o).ktabs = d.ktabs := rfl
@[simp] theorem Dev.emit_hmap (d : Dev) (o : Output) : (d.emit o).hmap = d.hmap := rfl
@[simp] theorem Dev.emit_enc (d : Dev) (o : Output) : (d.emit o).enc = d.enc := rfl
@[simp] theorem Dev.emit_pos (d : Dev) (o : Output) : (d.emit o).pos = d.pos := rfl
@[simp] theorem Dev.emit_fire (d : Dev) (o : Output) : (d.emit o).fire = d.fire := rfl
@[simp] theorem Dev.emit_ports (d : Dev) (o : Output) : (d.emit o).ports = d.ports := rfl
@[simp] theorem Dev.emit_groups (d : Dev) (o : Output) : (d.emit o).groups = d.groups := rfl
@[simp] theorem Dev.emit_ddr (d : Dev) (o : Output) : (d.emit o).ddr = d.ddr := rfl
@[simp] theorem Dev.emit_ecc (d : Dev) (o : Output) : (d.emit o).ecc = d.ecc := rfl
@[simp] theorem Dev.emit_dram (d : Dev) (o : Output) : (d.emit o).dram = d.dram := rfl
@[simp] theorem Dev.emit_check (d : Dev) (o : Output) : (d.emit o).check = d.check := rfl
@[simp] theorem Dev.emit_cam (d : Dev) (o : Output) : (d.emit o).cam = d.cam := rfl
@[simp] theorem Dev.emit_isp (d : Dev) (o : Output) : (d.emit o).isp = d.isp := rfl
@[simp] theorem Dev.emit_vin (d : Dev) (o : Output) : (d.emit o).vin = d.vin := rfl
@[simp] theorem Dev.emit_lamps (d : Dev) (o : Output) : (d.emit o).lamps = d.lamps := rfl
@[simp] theorem Dev.emit_tb (d : Dev) (o : Output) : (d.emit o).tb = d.tb := rfl
@[simp] theorem Dev.emit_eth (d : Dev) (o : Output) : (d.emit o).eth = d.eth := rfl
@[simp] theorem Dev.emit_thm (d : Dev) (o : Output) : (d.emit o).thm = d.thm := rfl

/-! ### Dev.emits -/

@[simp] theorem Dev.emits_regs (d : Dev) (o : List Output) : (d.emits o).regs = d.regs := rfl
@[simp] theorem Dev.emits_bar2 (d : Dev) (o : List Output) : (d.emits o).bar2 = d.bar2 := rfl
@[simp] theorem Dev.emits_latches (d : Dev) (o : List Output) : (d.emits o).latches = d.latches := rfl
@[simp] theorem Dev.emits_raw (d : Dev) (o : List Output) : (d.emits o).raw = d.raw := rfl
@[simp] theorem Dev.emits_aon (d : Dev) (o : List Output) : (d.emits o).aon = d.aon := rfl
@[simp] theorem Dev.emits_free (d : Dev) (o : List Output) : (d.emits o).free = d.free := rfl
@[simp] theorem Dev.emits_fences (d : Dev) (o : List Output) : (d.emits o).fences = d.fences := rfl
@[simp] theorem Dev.emits_host (d : Dev) (o : List Output) : (d.emits o).host = d.host := rfl
@[simp] theorem Dev.emits_cellar (d : Dev) (o : List Output) : (d.emits o).cellar = d.cellar := rfl
@[simp] theorem Dev.emits_staged (d : Dev) (o : List Output) : (d.emits o).staged = d.staged := rfl
@[simp] theorem Dev.emits_safe (d : Dev) (o : List Output) : (d.emits o).safe = d.safe := rfl
@[simp] theorem Dev.emits_bond (d : Dev) (o : List Output) : (d.emits o).bond = d.bond := rfl
@[simp] theorem Dev.emits_mram (d : Dev) (o : List Output) : (d.emits o).mram = d.mram := rfl
@[simp] theorem Dev.emits_pins (d : Dev) (o : List Output) : (d.emits o).pins = d.pins := rfl
@[simp] theorem Dev.emits_pwr (d : Dev) (o : List Output) : (d.emits o).pwr = d.pwr := rfl
@[simp] theorem Dev.emits_flt (d : Dev) (o : List Output) : (d.emits o).flt = d.flt := rfl
@[simp] theorem Dev.emits_rings (d : Dev) (o : List Output) : (d.emits o).rings = d.rings := rfl
@[simp] theorem Dev.emits_descs (d : Dev) (o : List Output) : (d.emits o).descs = d.descs := rfl
@[simp] theorem Dev.emits_reads (d : Dev) (o : List Output) : (d.emits o).reads = d.reads := rfl
@[simp] theorem Dev.emits_turn (d : Dev) (o : List Output) : (d.emits o).turn = d.turn := rfl
@[simp] theorem Dev.emits_barTags (d : Dev) (o : List Output) : (d.emits o).barTags = d.barTags := rfl
@[simp] theorem Dev.emits_jobs (d : Dev) (o : List Output) : (d.emits o).jobs = d.jobs := rfl
@[simp] theorem Dev.emits_spouts (d : Dev) (o : List Output) : (d.emits o).spouts = d.spouts := rfl
@[simp] theorem Dev.emits_decBusy (d : Dev) (o : List Output) : (d.emits o).decBusy = d.decBusy := rfl
@[simp] theorem Dev.emits_ktabs (d : Dev) (o : List Output) : (d.emits o).ktabs = d.ktabs := rfl
@[simp] theorem Dev.emits_hmap (d : Dev) (o : List Output) : (d.emits o).hmap = d.hmap := rfl
@[simp] theorem Dev.emits_enc (d : Dev) (o : List Output) : (d.emits o).enc = d.enc := rfl
@[simp] theorem Dev.emits_pos (d : Dev) (o : List Output) : (d.emits o).pos = d.pos := rfl
@[simp] theorem Dev.emits_fire (d : Dev) (o : List Output) : (d.emits o).fire = d.fire := rfl
@[simp] theorem Dev.emits_ports (d : Dev) (o : List Output) : (d.emits o).ports = d.ports := rfl
@[simp] theorem Dev.emits_groups (d : Dev) (o : List Output) : (d.emits o).groups = d.groups := rfl
@[simp] theorem Dev.emits_ddr (d : Dev) (o : List Output) : (d.emits o).ddr = d.ddr := rfl
@[simp] theorem Dev.emits_ecc (d : Dev) (o : List Output) : (d.emits o).ecc = d.ecc := rfl
@[simp] theorem Dev.emits_dram (d : Dev) (o : List Output) : (d.emits o).dram = d.dram := rfl
@[simp] theorem Dev.emits_check (d : Dev) (o : List Output) : (d.emits o).check = d.check := rfl
@[simp] theorem Dev.emits_cam (d : Dev) (o : List Output) : (d.emits o).cam = d.cam := rfl
@[simp] theorem Dev.emits_isp (d : Dev) (o : List Output) : (d.emits o).isp = d.isp := rfl
@[simp] theorem Dev.emits_vin (d : Dev) (o : List Output) : (d.emits o).vin = d.vin := rfl
@[simp] theorem Dev.emits_lamps (d : Dev) (o : List Output) : (d.emits o).lamps = d.lamps := rfl
@[simp] theorem Dev.emits_tb (d : Dev) (o : List Output) : (d.emits o).tb = d.tb := rfl
@[simp] theorem Dev.emits_eth (d : Dev) (o : List Output) : (d.emits o).eth = d.eth := rfl
@[simp] theorem Dev.emits_thm (d : Dev) (o : List Output) : (d.emits o).thm = d.thm := rfl

/-! ### Dev.modJob -/

@[simp] theorem Dev.modJob_regs (d : Dev) (i : Nat) (g : Job → Job) : (d.modJob i g).regs = d.regs := rfl
@[simp] theorem Dev.modJob_bar2 (d : Dev) (i : Nat) (g : Job → Job) : (d.modJob i g).bar2 = d.bar2 := rfl
@[simp] theorem Dev.modJob_latches (d : Dev) (i : Nat) (g : Job → Job) : (d.modJob i g).latches = d.latches := rfl
@[simp] theorem Dev.modJob_raw (d : Dev) (i : Nat) (g : Job → Job) : (d.modJob i g).raw = d.raw := rfl
@[simp] theorem Dev.modJob_aon (d : Dev) (i : Nat) (g : Job → Job) : (d.modJob i g).aon = d.aon := rfl
@[simp] theorem Dev.modJob_free (d : Dev) (i : Nat) (g : Job → Job) : (d.modJob i g).free = d.free := rfl
@[simp] theorem Dev.modJob_outbox (d : Dev) (i : Nat) (g : Job → Job) : (d.modJob i g).outbox = d.outbox := rfl
@[simp] theorem Dev.modJob_fences (d : Dev) (i : Nat) (g : Job → Job) : (d.modJob i g).fences = d.fences := rfl
@[simp] theorem Dev.modJob_host (d : Dev) (i : Nat) (g : Job → Job) : (d.modJob i g).host = d.host := rfl
@[simp] theorem Dev.modJob_cellar (d : Dev) (i : Nat) (g : Job → Job) : (d.modJob i g).cellar = d.cellar := rfl
@[simp] theorem Dev.modJob_staged (d : Dev) (i : Nat) (g : Job → Job) : (d.modJob i g).staged = d.staged := rfl
@[simp] theorem Dev.modJob_safe (d : Dev) (i : Nat) (g : Job → Job) : (d.modJob i g).safe = d.safe := rfl
@[simp] theorem Dev.modJob_bond (d : Dev) (i : Nat) (g : Job → Job) : (d.modJob i g).bond = d.bond := rfl
@[simp] theorem Dev.modJob_mram (d : Dev) (i : Nat) (g : Job → Job) : (d.modJob i g).mram = d.mram := rfl
@[simp] theorem Dev.modJob_pins (d : Dev) (i : Nat) (g : Job → Job) : (d.modJob i g).pins = d.pins := rfl
@[simp] theorem Dev.modJob_pwr (d : Dev) (i : Nat) (g : Job → Job) : (d.modJob i g).pwr = d.pwr := rfl
@[simp] theorem Dev.modJob_flt (d : Dev) (i : Nat) (g : Job → Job) : (d.modJob i g).flt = d.flt := rfl
@[simp] theorem Dev.modJob_rings (d : Dev) (i : Nat) (g : Job → Job) : (d.modJob i g).rings = d.rings := rfl
@[simp] theorem Dev.modJob_descs (d : Dev) (i : Nat) (g : Job → Job) : (d.modJob i g).descs = d.descs := rfl
@[simp] theorem Dev.modJob_reads (d : Dev) (i : Nat) (g : Job → Job) : (d.modJob i g).reads = d.reads := rfl
@[simp] theorem Dev.modJob_turn (d : Dev) (i : Nat) (g : Job → Job) : (d.modJob i g).turn = d.turn := rfl
@[simp] theorem Dev.modJob_barTags (d : Dev) (i : Nat) (g : Job → Job) : (d.modJob i g).barTags = d.barTags := rfl
@[simp] theorem Dev.modJob_spouts (d : Dev) (i : Nat) (g : Job → Job) : (d.modJob i g).spouts = d.spouts := rfl
@[simp] theorem Dev.modJob_decBusy (d : Dev) (i : Nat) (g : Job → Job) : (d.modJob i g).decBusy = d.decBusy := rfl
@[simp] theorem Dev.modJob_ktabs (d : Dev) (i : Nat) (g : Job → Job) : (d.modJob i g).ktabs = d.ktabs := rfl
@[simp] theorem Dev.modJob_hmap (d : Dev) (i : Nat) (g : Job → Job) : (d.modJob i g).hmap = d.hmap := rfl
@[simp] theorem Dev.modJob_enc (d : Dev) (i : Nat) (g : Job → Job) : (d.modJob i g).enc = d.enc := rfl
@[simp] theorem Dev.modJob_pos (d : Dev) (i : Nat) (g : Job → Job) : (d.modJob i g).pos = d.pos := rfl
@[simp] theorem Dev.modJob_fire (d : Dev) (i : Nat) (g : Job → Job) : (d.modJob i g).fire = d.fire := rfl
@[simp] theorem Dev.modJob_ports (d : Dev) (i : Nat) (g : Job → Job) : (d.modJob i g).ports = d.ports := rfl
@[simp] theorem Dev.modJob_groups (d : Dev) (i : Nat) (g : Job → Job) : (d.modJob i g).groups = d.groups := rfl
@[simp] theorem Dev.modJob_ddr (d : Dev) (i : Nat) (g : Job → Job) : (d.modJob i g).ddr = d.ddr := rfl
@[simp] theorem Dev.modJob_ecc (d : Dev) (i : Nat) (g : Job → Job) : (d.modJob i g).ecc = d.ecc := rfl
@[simp] theorem Dev.modJob_dram (d : Dev) (i : Nat) (g : Job → Job) : (d.modJob i g).dram = d.dram := rfl
@[simp] theorem Dev.modJob_check (d : Dev) (i : Nat) (g : Job → Job) : (d.modJob i g).check = d.check := rfl
@[simp] theorem Dev.modJob_cam (d : Dev) (i : Nat) (g : Job → Job) : (d.modJob i g).cam = d.cam := rfl
@[simp] theorem Dev.modJob_isp (d : Dev) (i : Nat) (g : Job → Job) : (d.modJob i g).isp = d.isp := rfl
@[simp] theorem Dev.modJob_vin (d : Dev) (i : Nat) (g : Job → Job) : (d.modJob i g).vin = d.vin := rfl
@[simp] theorem Dev.modJob_lamps (d : Dev) (i : Nat) (g : Job → Job) : (d.modJob i g).lamps = d.lamps := rfl
@[simp] theorem Dev.modJob_tb (d : Dev) (i : Nat) (g : Job → Job) : (d.modJob i g).tb = d.tb := rfl
@[simp] theorem Dev.modJob_eth (d : Dev) (i : Nat) (g : Job → Job) : (d.modJob i g).eth = d.eth := rfl
@[simp] theorem Dev.modJob_thm (d : Dev) (i : Nat) (g : Job → Job) : (d.modJob i g).thm = d.thm := rfl

/-! ### Dev.modPort -/

@[simp] theorem Dev.modPort_regs (d : Dev) (p : Nat) (g : HlkPort → HlkPort) : (d.modPort p g).regs = d.regs := rfl
@[simp] theorem Dev.modPort_bar2 (d : Dev) (p : Nat) (g : HlkPort → HlkPort) : (d.modPort p g).bar2 = d.bar2 := rfl
@[simp] theorem Dev.modPort_latches (d : Dev) (p : Nat) (g : HlkPort → HlkPort) : (d.modPort p g).latches = d.latches := rfl
@[simp] theorem Dev.modPort_raw (d : Dev) (p : Nat) (g : HlkPort → HlkPort) : (d.modPort p g).raw = d.raw := rfl
@[simp] theorem Dev.modPort_aon (d : Dev) (p : Nat) (g : HlkPort → HlkPort) : (d.modPort p g).aon = d.aon := rfl
@[simp] theorem Dev.modPort_free (d : Dev) (p : Nat) (g : HlkPort → HlkPort) : (d.modPort p g).free = d.free := rfl
@[simp] theorem Dev.modPort_outbox (d : Dev) (p : Nat) (g : HlkPort → HlkPort) : (d.modPort p g).outbox = d.outbox := rfl
@[simp] theorem Dev.modPort_fences (d : Dev) (p : Nat) (g : HlkPort → HlkPort) : (d.modPort p g).fences = d.fences := rfl
@[simp] theorem Dev.modPort_host (d : Dev) (p : Nat) (g : HlkPort → HlkPort) : (d.modPort p g).host = d.host := rfl
@[simp] theorem Dev.modPort_cellar (d : Dev) (p : Nat) (g : HlkPort → HlkPort) : (d.modPort p g).cellar = d.cellar := rfl
@[simp] theorem Dev.modPort_staged (d : Dev) (p : Nat) (g : HlkPort → HlkPort) : (d.modPort p g).staged = d.staged := rfl
@[simp] theorem Dev.modPort_safe (d : Dev) (p : Nat) (g : HlkPort → HlkPort) : (d.modPort p g).safe = d.safe := rfl
@[simp] theorem Dev.modPort_bond (d : Dev) (p : Nat) (g : HlkPort → HlkPort) : (d.modPort p g).bond = d.bond := rfl
@[simp] theorem Dev.modPort_mram (d : Dev) (p : Nat) (g : HlkPort → HlkPort) : (d.modPort p g).mram = d.mram := rfl
@[simp] theorem Dev.modPort_pins (d : Dev) (p : Nat) (g : HlkPort → HlkPort) : (d.modPort p g).pins = d.pins := rfl
@[simp] theorem Dev.modPort_pwr (d : Dev) (p : Nat) (g : HlkPort → HlkPort) : (d.modPort p g).pwr = d.pwr := rfl
@[simp] theorem Dev.modPort_flt (d : Dev) (p : Nat) (g : HlkPort → HlkPort) : (d.modPort p g).flt = d.flt := rfl
@[simp] theorem Dev.modPort_rings (d : Dev) (p : Nat) (g : HlkPort → HlkPort) : (d.modPort p g).rings = d.rings := rfl
@[simp] theorem Dev.modPort_descs (d : Dev) (p : Nat) (g : HlkPort → HlkPort) : (d.modPort p g).descs = d.descs := rfl
@[simp] theorem Dev.modPort_reads (d : Dev) (p : Nat) (g : HlkPort → HlkPort) : (d.modPort p g).reads = d.reads := rfl
@[simp] theorem Dev.modPort_turn (d : Dev) (p : Nat) (g : HlkPort → HlkPort) : (d.modPort p g).turn = d.turn := rfl
@[simp] theorem Dev.modPort_barTags (d : Dev) (p : Nat) (g : HlkPort → HlkPort) : (d.modPort p g).barTags = d.barTags := rfl
@[simp] theorem Dev.modPort_jobs (d : Dev) (p : Nat) (g : HlkPort → HlkPort) : (d.modPort p g).jobs = d.jobs := rfl
@[simp] theorem Dev.modPort_spouts (d : Dev) (p : Nat) (g : HlkPort → HlkPort) : (d.modPort p g).spouts = d.spouts := rfl
@[simp] theorem Dev.modPort_decBusy (d : Dev) (p : Nat) (g : HlkPort → HlkPort) : (d.modPort p g).decBusy = d.decBusy := rfl
@[simp] theorem Dev.modPort_ktabs (d : Dev) (p : Nat) (g : HlkPort → HlkPort) : (d.modPort p g).ktabs = d.ktabs := rfl
@[simp] theorem Dev.modPort_hmap (d : Dev) (p : Nat) (g : HlkPort → HlkPort) : (d.modPort p g).hmap = d.hmap := rfl
@[simp] theorem Dev.modPort_enc (d : Dev) (p : Nat) (g : HlkPort → HlkPort) : (d.modPort p g).enc = d.enc := rfl
@[simp] theorem Dev.modPort_pos (d : Dev) (p : Nat) (g : HlkPort → HlkPort) : (d.modPort p g).pos = d.pos := rfl
@[simp] theorem Dev.modPort_fire (d : Dev) (p : Nat) (g : HlkPort → HlkPort) : (d.modPort p g).fire = d.fire := rfl
@[simp] theorem Dev.modPort_groups (d : Dev) (p : Nat) (g : HlkPort → HlkPort) : (d.modPort p g).groups = d.groups := rfl
@[simp] theorem Dev.modPort_ddr (d : Dev) (p : Nat) (g : HlkPort → HlkPort) : (d.modPort p g).ddr = d.ddr := rfl
@[simp] theorem Dev.modPort_ecc (d : Dev) (p : Nat) (g : HlkPort → HlkPort) : (d.modPort p g).ecc = d.ecc := rfl
@[simp] theorem Dev.modPort_dram (d : Dev) (p : Nat) (g : HlkPort → HlkPort) : (d.modPort p g).dram = d.dram := rfl
@[simp] theorem Dev.modPort_check (d : Dev) (p : Nat) (g : HlkPort → HlkPort) : (d.modPort p g).check = d.check := rfl
@[simp] theorem Dev.modPort_cam (d : Dev) (p : Nat) (g : HlkPort → HlkPort) : (d.modPort p g).cam = d.cam := rfl
@[simp] theorem Dev.modPort_isp (d : Dev) (p : Nat) (g : HlkPort → HlkPort) : (d.modPort p g).isp = d.isp := rfl
@[simp] theorem Dev.modPort_vin (d : Dev) (p : Nat) (g : HlkPort → HlkPort) : (d.modPort p g).vin = d.vin := rfl
@[simp] theorem Dev.modPort_lamps (d : Dev) (p : Nat) (g : HlkPort → HlkPort) : (d.modPort p g).lamps = d.lamps := rfl
@[simp] theorem Dev.modPort_tb (d : Dev) (p : Nat) (g : HlkPort → HlkPort) : (d.modPort p g).tb = d.tb := rfl
@[simp] theorem Dev.modPort_eth (d : Dev) (p : Nat) (g : HlkPort → HlkPort) : (d.modPort p g).eth = d.eth := rfl
@[simp] theorem Dev.modPort_thm (d : Dev) (p : Nat) (g : HlkPort → HlkPort) : (d.modPort p g).thm = d.thm := rfl

/-! ### A record update of one field -/

@[simp] theorem Dev.session_setSession (d : Dev) (rq : Requester) (x : Session) : (d.setSession rq x).session rq = x := by cases rq <;> rfl
@[simp] theorem Dev.session_set (d : Dev) (rq : Requester) (f : Field) (v i j : Nat) : (d.set f v i j).session rq = d.session rq := by cases rq <;> rfl
@[simp] theorem Dev.get_setSession (d : Dev) (rq : Requester) (x : Session) (f : Field) (i j : Nat) : (d.setSession rq x).get f i j = d.get f i j := by
  cases rq <;> rfl
@[simp] theorem Dev.raw_setSession (d : Dev) (rq : Requester) (x : Session) : (d.setSession rq x).raw = d.raw := by cases rq <;> rfl
@[simp] theorem Dev.set_setSession (d : Dev) (rq : Requester) (x : Session) (f : Field) (v i j : Nat) :
    (d.setSession rq x).set f v i j = (d.set f v i j).setSession rq x := by cases rq <;> rfl

/-- A saturating count is the smaller of its top and the sum. -/
theorem sat_min (m n : Nat) : sat m n = Nat.min m n := by
  simp only [sat]; split <;> simp [Nat.min_def] <;> omega

/-! ### A register of a device of which another part changed -/

@[simp] theorem Dev.get_with_bar2 (d : Dev) (x : RegFile) (f : Field) (i j : Nat) : ({ d with bar2 := x } : Dev).get f i j = d.get f i j := rfl
@[simp] theorem Dev.get_with_latches (d : Dev) (x : RegFile) (f : Field) (i j : Nat) : ({ d with latches := x } : Dev).get f i j = d.get f i j := rfl
@[simp] theorem Dev.get_with_raw (d : Dev) (x : Nat) (f : Field) (i j : Nat) : ({ d with raw := x } : Dev).get f i j = d.get f i j := rfl
@[simp] theorem Dev.get_with_aon (d : Dev) (x : Nat) (f : Field) (i j : Nat) : ({ d with aon := x } : Dev).get f i j = d.get f i j := rfl
@[simp] theorem Dev.get_with_free (d : Dev) (x : Nat) (f : Field) (i j : Nat) : ({ d with free := x } : Dev).get f i j = d.get f i j := rfl
@[simp] theorem Dev.get_with_outbox (d : Dev) (x : List Output) (f : Field) (i j : Nat) : ({ d with outbox := x } : Dev).get f i j = d.get f i j := rfl
@[simp] theorem Dev.get_with_fences (d : Dev) (x : List FenceRead) (f : Field) (i j : Nat) : ({ d with fences := x } : Dev).get f i j = d.get f i j := rfl
@[simp] theorem Dev.get_with_host (d : Dev) (x : Session) (f : Field) (i j : Nat) : ({ d with host := x } : Dev).get f i j = d.get f i j := rfl
@[simp] theorem Dev.get_with_cellar (d : Dev) (x : Session) (f : Field) (i j : Nat) : ({ d with cellar := x } : Dev).get f i j = d.get f i j := rfl
@[simp] theorem Dev.get_with_staged (d : Dev) (x : Option StagedKey) (f : Field) (i j : Nat) : ({ d with staged := x } : Dev).get f i j = d.get f i j := rfl
@[simp] theorem Dev.get_with_safe (d : Dev) (x : SafePort) (f : Field) (i j : Nat) : ({ d with safe := x } : Dev).get f i j = d.get f i j := rfl
@[simp] theorem Dev.get_with_bond (d : Dev) (x : Bonded) (f : Field) (i j : Nat) : ({ d with bond := x } : Dev).get f i j = d.get f i j := rfl
@[simp] theorem Dev.get_with_mram (d : Dev) (x : Mram) (f : Field) (i j : Nat) : ({ d with mram := x } : Dev).get f i j = d.get f i j := rfl
@[simp] theorem Dev.get_with_pins (d : Dev) (x : Pins) (f : Field) (i j : Nat) : ({ d with pins := x } : Dev).get f i j = d.get f i j := rfl
@[simp] theorem Dev.get_with_pwr (d : Dev) (x : PowerSt) (f : Field) (i j : Nat) : ({ d with pwr := x } : Dev).get f i j = d.get f i j := rfl
@[simp] theorem Dev.get_with_flt (d : Dev) (x : FltSt) (f : Field) (i j : Nat) : ({ d with flt := x } : Dev).get f i j = d.get f i j := rfl
@[simp] theorem Dev.get_with_rings (d : Dev) (x : List RingSt) (f : Field) (i j : Nat) : ({ d with rings := x } : Dev).get f i j = d.get f i j := rfl
@[simp] theorem Dev.get_with_descs (d : Dev) (x : List Desc) (f : Field) (i j : Nat) : ({ d with descs := x } : Dev).get f i j = d.get f i j := rfl
@[simp] theorem Dev.get_with_reads (d : Dev) (x : List SrcRead) (f : Field) (i j : Nat) : ({ d with reads := x } : Dev).get f i j = d.get f i j := rfl
@[simp] theorem Dev.get_with_turn (d : Dev) (x : Nat) (f : Field) (i j : Nat) : ({ d with turn := x } : Dev).get f i j = d.get f i j := rfl
@[simp] theorem Dev.get_with_barTags (d : Dev) (x : List Nat) (f : Field) (i j : Nat) : ({ d with barTags := x } : Dev).get f i j = d.get f i j := rfl
@[simp] theorem Dev.get_with_jobs (d : Dev) (x : List (Nat × Job)) (f : Field) (i j : Nat) : ({ d with jobs := x } : Dev).get f i j = d.get f i j := rfl
@[simp] theorem Dev.get_with_spouts (d : Dev) (x : List SpoutLine) (f : Field) (i j : Nat) : ({ d with spouts := x } : Dev).get f i j = d.get f i j := rfl
@[simp] theorem Dev.get_with_decBusy (d : Dev) (x : List Nat) (f : Field) (i j : Nat) : ({ d with decBusy := x } : Dev).get f i j = d.get f i j := rfl
@[simp] theorem Dev.get_with_ktabs (d : Dev) (x : List KTable) (f : Field) (i j : Nat) : ({ d with ktabs := x } : Dev).get f i j = d.get f i j := rfl
@[simp] theorem Dev.get_with_hmap (d : Dev) (x : List HEntry) (f : Field) (i j : Nat) : ({ d with hmap := x } : Dev).get f i j = d.get f i j := rfl
@[simp] theorem Dev.get_with_enc (d : Dev) (x : List EncSt) (f : Field) (i j : Nat) : ({ d with enc := x } : Dev).get f i j = d.get f i j := rfl
@[simp] theorem Dev.get_with_pos (d : Dev) (x : PosSt) (f : Field) (i j : Nat) : ({ d with pos := x } : Dev).get f i j = d.get f i j := rfl
@[simp] theorem Dev.get_with_fire (d : Dev) (x : FireSt) (f : Field) (i j : Nat) : ({ d with fire := x } : Dev).get f i j = d.get f i j := rfl
@[simp] theorem Dev.get_with_ports (d : Dev) (x : List HlkPort) (f : Field) (i j : Nat) : ({ d with ports := x } : Dev).get f i j = d.get f i j := rfl
@[simp] theorem Dev.get_with_groups (d : Dev) (x : List LaneGroup) (f : Field) (i j : Nat) : ({ d with groups := x } : Dev).get f i j = d.get f i j := rfl
@[simp] theorem Dev.get_with_ddr (d : Dev) (x : DdrSt) (f : Field) (i j : Nat) : ({ d with ddr := x } : Dev).get f i j = d.get f i j := rfl
@[simp] theorem Dev.get_with_ecc (d : Dev) (x : EccSt) (f : Field) (i j : Nat) : ({ d with ecc := x } : Dev).get f i j = d.get f i j := rfl
@[simp] theorem Dev.get_with_dram (d : Dev) (x : List Host.Cell) (f : Field) (i j : Nat) : ({ d with dram := x } : Dev).get f i j = d.get f i j := rfl
@[simp] theorem Dev.get_with_check (d : Dev) (x : List Host.Cell) (f : Field) (i j : Nat) : ({ d with check := x } : Dev).get f i j = d.get f i j := rfl
@[simp] theorem Dev.get_with_cam (d : Dev) (x : List CamSt) (f : Field) (i j : Nat) : ({ d with cam := x } : Dev).get f i j = d.get f i j := rfl
@[simp] theorem Dev.get_with_isp (d : Dev) (x : List IspCtx) (f : Field) (i j : Nat) : ({ d with isp := x } : Dev).get f i j = d.get f i j := rfl
@[simp] theorem Dev.get_with_vin (d : Dev) (x : VinSt) (f : Field) (i j : Nat) : ({ d with vin := x } : Dev).get f i j = d.get f i j := rfl
@[simp] theorem Dev.get_with_lamps (d : Dev) (x : LampSt) (f : Field) (i j : Nat) : ({ d with lamps := x } : Dev).get f i j = d.get f i j := rfl
@[simp] theorem Dev.get_with_tb (d : Dev) (x : TbSt) (f : Field) (i j : Nat) : ({ d with tb := x } : Dev).get f i j = d.get f i j := rfl
@[simp] theorem Dev.get_with_eth (d : Dev) (x : List EthSt) (f : Field) (i j : Nat) : ({ d with eth := x } : Dev).get f i j = d.get f i j := rfl
@[simp] theorem Dev.get_with_thm (d : Dev) (x : ThmSt) (f : Field) (i j : Nat) : ({ d with thm := x } : Dev).get f i j = d.get f i j := rfl

end Sys2Proof.Machine
end

