-- ==== Sys2Proof/Laws/Reactions.lean ====
section
/-! SUPPORT. What a report of a fault source, its reaction, an interrupt and a record of a host ring can change: everything of `Dev.fixed` stays. -/

namespace Sys2Proof.Machine

/-- A fold of updates that each keep something keeps it. -/
theorem foldl_keeps {α β γ : Type} (π : α → γ) (f : α → β → α) (h : ∀ a b, π (f a b) = π a) (l : List β) (a : α) :
    π (l.foldl f a) = π a := by
  induction l generalizing a with
  | nil => rfl
  | cons b l ih => rw [List.foldl_cons, ih, h]

@[simp] theorem Dev.fixed_set (d : Dev) (f : Field) (v i j : Nat) : (d.set f v i j).fixed = d.fixed := rfl
@[simp] theorem Dev.fixed_bump (d : Dev) (f : Field) (i j n : Nat) : (d.bump f i j n).fixed = d.fixed := rfl
@[simp] theorem Dev.fixed_raiseBit (d : Dev) (f : Field) (k i j : Nat) : (d.raiseBit f k i j).fixed = d.fixed := rfl
@[simp] theorem Dev.fixed_emit (d : Dev) (o : Output) : (d.emit o).fixed = d.fixed := rfl
@[simp] theorem Dev.fixed_emits (d : Dev) (o : List Output) : (d.emits o).fixed = d.fixed := rfl
@[simp] theorem Dev.fixed_modPort (d : Dev) (p : Nat) (f : HlkPort → HlkPort) : (d.modPort p f).fixed = d.fixed := rfl
/-- A context that has been put in place is found, and no other has changed. -/
theorem Dev.job_setJob (d : Dev) (i k : Nat) (j : Job) : (d.setJob i j).job k = if k = i then j else d.job k := by
  have hlt : ∀ l : List (Nat × Job), k < i → (l.filter (fun e => e.1 < i)).find? (fun e => e.1 = k) = l.find? (fun e => e.1 = k) := by
    intro l h; rw [List.find?_filter]; congr 1; funext e; by_cases he : e.1 = k <;> simp [he]; omega
  have hgt : ∀ l : List (Nat × Job), i < k → (l.filter (fun e => i < e.1)).find? (fun e => e.1 = k) = l.find? (fun e => e.1 = k) := by
    intro l h; rw [List.find?_filter]; congr 1; funext e; by_cases he : e.1 = k <;> simp [he]; omega
  have hno : ∀ l : List (Nat × Job), i ≤ k → (l.filter (fun e => e.1 < i)).find? (fun e => e.1 = k) = none := by
    intro l h; rw [List.find?_eq_none]; intro x hx; simp only [List.mem_filter, decide_eq_true_eq] at hx; simp only [decide_eq_true_eq]; omega
  have hno' : ∀ l : List (Nat × Job), k ≤ i → (l.filter (fun e => i < e.1)).find? (fun e => e.1 = k) = none := by
    intro l h; rw [List.find?_eq_none]; intro x hx; simp only [List.mem_filter, decide_eq_true_eq] at hx; simp only [decide_eq_true_eq]; omega
  simp only [Dev.job, Dev.setJob, List.find?_append]
  by_cases h : k = i
  · subst h; simp [hno _ (le_refl _)]
  · simp only [h, if_false]
    have hne : ([(i, j)] : List (Nat × Job)).find? (fun e => e.1 = k) = none := by simp; omega
    rcases Nat.lt_or_ge k i with hk | hk
    · rw [hlt _ hk, hne, hno' _ (by omega)]; simp
    · rw [hno _ hk, hne, hgt _ (by omega)]; simp

theorem Dev.job_modJob (d : Dev) (i k : Nat) (f : Job → Job) : (d.modJob i f).job k = if k = i then f (d.job i) else d.job k := Dev.job_setJob ..

/-- A change of defect ranges alone is within a report's reach. -/
theorem Dev.fixed_modJob (d : Dev) (i : Nat) (f : Job → Job) (h : ∀ j, (f j).core = j.core) : (d.modJob i f).fixed = d.fixed := by
  have : (fun k => ((d.modJob i f).job k).core) = fun k => (d.job k).core := by
    funext k; rw [Dev.job_modJob]; split
    · rw [h]; simp_all
    · rfl
  simp only [Dev.fixed, this]; rfl

@[simp] theorem Dev.fixed_ranges (d : Dev) (i : Nat) (r : Job → List DefectRange) :
    (d.modJob i (fun j => { j with ranges := r j })).fixed = d.fixed := Dev.fixed_modJob _ _ _ (fun _ => rfl)
@[simp] theorem Dev.fixed_modCam (d : Dev) (n : Nat) (f : CamSt → CamSt) : (d.modCam n f).fixed = d.fixed := rfl
@[simp] theorem Dev.fixed_modCtx (d : Dev) (n : Nat) (f : IspCtx → IspCtx) : (d.modCtx n f).fixed = d.fixed := rfl
@[simp] theorem Dev.fixed_purge (d : Dev) (n : Nat) : (d.purge n).fixed = d.fixed := rfl

@[simp] theorem Dev.fixed_msixDue (d : Dev) (v : Nat) : (d.msixDue v).fixed = d.fixed := by
  simp only [Dev.msixDue]; split <;> rfl

@[simp] theorem Dev.fixed_irq (d : Dev) (st en : Field) (k : Nat) (v : Option Field) (i : Nat) : (d.irq st en k v i).fixed = d.fixed := by
  cases v with
  | none => rfl
  | some v => simp only [Dev.irq]; split <;> simp

@[simp] theorem Dev.fixed_fltIrq (d : Dev) (k : Nat) : (d.fltIrq k).fixed = d.fixed := by simp [Dev.fltIrq]

@[simp] theorem Dev.fixed_pushJobRec (d : Dev) (i t st ev c l : Nat) : (d.pushJobRec i t st ev c l).fixed = d.fixed := by
  simp only [Dev.pushJobRec]; split <;> rfl

@[simp] theorem Dev.fixed_closeRange (d : Dev) (i : Nat) (g : DefectRange) : (d.closeRange i g).fixed = d.fixed := by
  simp only [Dev.closeRange, Dev.fixed_pushJobRec]
  exact Dev.fixed_modJob _ _ _ (fun _ => rfl)

@[simp] theorem Dev.fixed_closeRanges (d : Dev) (i : Nat) (p : DefectRange → Bool) : (d.closeRanges i p).fixed = d.fixed := by
  simp only [Dev.closeRanges]
  exact foldl_keeps _ _ (fun a b => by simp) _ _

@[simp] theorem Dev.fixed_joinRange (d : Dev) (i b c l : Nat) : (d.joinRange i b c l).fixed = d.fixed := by
  simp only [Dev.joinRange]; split
  · split
    · rfl
    · split <;> simp
  · simp

@[simp] theorem Dev.fixed_addRange (d : Dev) (i b c l : Nat) : (d.addRange i b c l).fixed = d.fixed := by
  have h : ((d.jobs.filter (fun e => e.1 ≠ i)).foldl (fun d e => d.closeRanges e.1 (fun g => g.bar = b)) d).fixed = d.fixed :=
    foldl_keeps _ _ (fun a b => by simp) _ _
  simp only [Dev.addRange]
  split <;> simpa using h

/-! ### Lanes -/

@[simp] theorem Dev.fixed_modTx (d : Dev) (p : Nat) (f : LaneTx → LaneTx) : (d.modTx p f).fixed = d.fixed := rfl

@[simp] theorem Dev.fixed_lineOut (d : Dev) (p : Nat) (b : List Bool) : (d.lineOut p b).fixed = d.fixed := by
  simp only [Dev.lineOut]; split <;> rfl

@[simp] theorem Dev.fixed_putFrame (d : Dev) (p n : Nat) : (d.putFrame p n).fixed = d.fixed := by simp [Dev.putFrame]

@[simp] theorem Dev.fixed_laneStart (d : Dev) (p t : Nat) (w : List Nat) : (d.laneStart p t w).fixed = d.fixed := by simp [Dev.laneStart]

@[simp] theorem Dev.fixed_laneTick (d : Dev) (p : Nat) : (d.laneTick p).fixed = d.fixed := by
  simp only [Dev.laneTick]; split
  · rfl
  · split
    · simp
    · split <;> simp

@[simp] theorem Dev.fixed_laneSend (d : Dev) (p t : Nat) (w : List Nat) : (d.laneSend p t w).fixed = d.fixed := by simp [Dev.laneSend]

@[simp] theorem Dev.fixed_sendTime (d : Dev) (p : Nat) : (d.sendTime p).fixed = d.fixed := by
  simp only [Dev.sendTime, Dev.fixed_laneSend, Dev.fixed_modPort]

@[simp] theorem Dev.fixed_markerOut (d : Dev) (p : Nat) : (d.markerOut p).fixed = d.fixed := by
  simp only [Dev.markerOut, Dev.fixed_sendTime, Dev.fixed_lineOut, Dev.fixed_emit, Dev.fixed_modTx, Dev.fixed_modPort]

@[simp] theorem Dev.fixed_laneAbort (d : Dev) (p : Nat) : (d.laneAbort p).fixed = d.fixed := by
  simp only [Dev.laneAbort]; split
  · rfl
  · split <;> simp

@[simp] theorem Dev.fixed_laneFlush (p k : Nat) (d : Dev) : (Dev.laneFlush p k d).fixed = d.fixed := by
  induction k generalizing d with
  | zero => rfl
  | succ k ih =>
    simp only [Dev.laneFlush]; split
    · simp [ih]
    · split <;> simp [ih]

@[simp] theorem Dev.fixed_laneDrain (d : Dev) (p : Nat) : (d.laneDrain p).fixed = d.fixed := by
  simp only [Dev.laneDrain]; split <;> simp

@[simp] theorem Dev.fixed_primeLane (d : Dev) (p k : Nat) : (d.primeLane p k).fixed = d.fixed := by simp [Dev.primeLane]

@[simp] theorem Dev.fixed_laneReady (d : Dev) (p : Nat) : (d.laneReady p).fixed = d.fixed := by
  simp only [Dev.laneReady, Dev.fixed_sendTime, Dev.fixed_lineOut, Dev.fixed_modTx, Dev.fixed_modPort]

@[simp] theorem Dev.fixed_laneOff (d : Dev) (p : Nat) : (d.laneOff p).fixed = d.fixed := rfl

@[simp] theorem Dev.fixed_wakeLane (d : Dev) (p : Nat) : (d.wakeLane p).fixed = d.fixed := by
  simp only [Dev.wakeLane]; split <;> simp

@[simp] theorem Dev.fixed_inhibitPort (d : Dev) (p r : Nat) : (d.inhibitPort p r).fixed = d.fixed := by
  simp only [Dev.inhibitPort, Dev.fixed_modPort]
  rw [foldl_keeps Dev.fixed]
  · simp
  · intro a b; split <;> simp

@[simp] theorem Dev.fixed_inhibitAll (d : Dev) : d.inhibitAll.fixed = d.fixed := by
  simp only [Dev.inhibitAll]
  exact foldl_keeps _ _ (fun a b => by split <;> simp) _ _

@[simp] theorem Dev.fixed_lampMark (d : Dev) (c st : Nat) : (d.lampMark c st).fixed = d.fixed := by
  simp only [Dev.lampMark]; split
  · rfl
  · split <;> simp

@[simp] theorem Dev.fixed_lamps (d : Dev) (l : LampSt) : ({ d with lamps := l } : Dev).fixed = d.fixed := rfl

@[simp] theorem Dev.fixed_lampGate (d : Dev) : d.lampGate.fixed = d.fixed := by
  simp only [Dev.lampGate]; split
  · exact foldl_keeps _ _ (fun a b => by split <;> simp) _ _
  · rfl

@[simp] theorem Dev.fixed_settle (d e : Dev) : (Dev.settle d e).fixed = e.fixed := by
  simp only [Dev.settle]; split <;> split <;> simp

@[simp] theorem Dev.fixed_memDone (d : Dev) (p st : Nat) : (d.memDone p st).fixed = d.fixed := by simp [Dev.memDone]

@[simp] theorem Dev.fixed_leavePort (d : Dev) (p r : Nat) (n : LinkState) (b : Bool) : (d.leavePort p r n b).fixed = d.fixed := by
  simp only [Dev.leavePort, Dev.fixed_modTx, Dev.fixed_modPort]; split <;> split <;> simp

@[simp] theorem Dev.fixed_disablePort (d : Dev) (p : Nat) (l : List (Nat × List Nat)) : (d.disablePort p l).fixed = d.fixed := by
  simp only [Dev.disablePort]; split
  · rfl
  · simp only [Dev.fixed_modPort, Dev.fixed_laneOff, Dev.fixed_laneDrain]
    rw [foldl_keeps Dev.fixed _ (fun a b => by simp)]; simp

@[simp] theorem Dev.fixed_primePort (d : Dev) (p : Nat) : (d.primePort p).fixed = d.fixed := by
  simp only [Dev.primePort]; split <;> simp

@[simp] theorem Dev.fixed_stopTrigger (d : Dev) (c : Nat) : (d.stopTrigger c).fixed = d.fixed := by
  simp only [Dev.stopTrigger]; split
  · rw [Dev.fixed_irq]; rfl
  · rfl

@[simp] theorem Dev.fixed_vinKeep (d : Dev) (k : Nat) (f : CtxFrame) : (d.vinKeep k f).fixed = d.fixed := by
  simp only [Dev.vinKeep]; split <;> rfl

@[simp] theorem Dev.fixed_ringWrite (d : Dev) (kind unit base size wr : Nat) (b : List Nat) : (d.ringWrite kind unit base size wr b).fixed = d.fixed := by
  simp only [Dev.ringWrite]; split <;> simp

theorem Dev.fixed_ringRecord {d e : Dev} {kind unit base size wr rd n : Nat} {b : List Nat}
    (h : d.ringRecord kind unit base size wr rd b = some (e, n)) : e.fixed = d.fixed := by
  simp only [Dev.ringRecord] at h
  split at h
  · simp only [Option.some.injEq, Prod.mk.injEq] at h; rw [← h.1]; simp
  · cases h

@[simp] theorem Dev.fixed_ctxFrameEnd (d : Dev) (k : Nat) (f : CtxFrame) : (d.ctxFrameEnd k f).fixed = d.fixed := by
  have h1 : ∀ e : Dev, (if f.dropped ≠ 0 then (e.bump F.ISP_K_CNT_INCOMPLETE k).irq F.ISP_IRQ_STAT F.ISP_IRQ_EN (8 + k) (some F.ISP_VEC) else e).fixed
      = e.fixed := fun e => by split <;> simp
  simp only [Dev.ctxFrameEnd, Dev.fixed_vinKeep, h1, Dev.fixed_irq]
  split
  · rfl
  · split
    · rename_i h; simp [Dev.fixed_ringRecord h]
    · simp

@[simp] theorem Dev.fixed_streamLost (d : Dev) (k j : Nat) : (d.streamLost k j).fixed = d.fixed := by simp [Dev.streamLost]

@[simp] theorem Dev.fixed_streamPut (d : Dev) (k j : Nat) (f : CtxFrame) (o : Nat) (a : IspAcc) : (d.streamPut k j f o a).1.fixed = d.fixed := by
  simp only [Dev.streamPut]; split
  · rfl
  · split
    · rename_i h; simp [Dev.fixed_ringRecord h]
    · simp

@[simp] theorem Dev.fixed_owe (d : Dev) (s : Nat) : (d.owe s).fixed = d.fixed := rfl

@[simp] theorem Dev.fixed_cutFrame (d : Dev) (k : Nat) (f : CtxFrame) : (d.cutFrame k f).fixed = d.fixed := by
  have h : ∀ (l : List Nat) (a : Dev × CtxFrame) (g : Dev × CtxFrame → Nat → Dev × CtxFrame), (∀ b j, (g b j).1.fixed = b.1.fixed) →
      (l.foldl g a).1.fixed = a.1.fixed := fun l a g hg => foldl_keeps (fun x : Dev × CtxFrame => x.1.fixed) g hg l a
  simp only [Dev.cutFrame]
  split
  · rw [Dev.fixed_owe, Dev.fixed_ctxFrameEnd, h _ _ _ (fun b j => by split <;> simp)]
  · rw [Dev.fixed_ctxFrameEnd, h _ _ _ (fun b j => by split <;> simp)]

@[simp] theorem Dev.fixed_endCtxFrames (d : Dev) (n : Nat) : (d.endCtxFrames n).fixed = d.fixed := by
  simp only [Dev.endCtxFrames]
  refine foldl_keeps _ _ (fun a k => ?_) _ _
  simp only [Dev.fixed_modCtx]
  exact foldl_keeps _ _ (fun a b => by simp) _ _

@[simp] theorem Dev.fixed_ctlDown (d : Dev) (n : Nat) : (d.ctlDown n).fixed = d.fixed := by
  simp only [Dev.ctlDown, Dev.ctlEnd]; split <;> simp

@[simp] theorem Dev.fixed_stopCamera (d : Dev) (n : Nat) : (d.stopCamera n).fixed = d.fixed := by
  simp only [Dev.stopCamera]; split <;> simp

@[simp] theorem Dev.fixed_startCamera (d : Dev) (n : Nat) : (d.startCamera n).fixed = d.fixed := by
  simp only [Dev.startCamera]; split
  · simp only [Dev.fixed_modCam]; split
    · rfl
    · simp
  · rfl

@[simp] theorem Dev.fixed_stopIsp (d : Dev) : d.stopIsp.fixed = d.fixed := by
  simp only [Dev.stopIsp]
  exact foldl_keeps _ _ (fun a b => by simp) _ _

@[simp] theorem Dev.fixed_fenceEffect (d : Dev) (u : FUnit) : (d.fenceEffect u).fixed = d.fixed := by
  cases u <;> simp [Dev.fenceEffect]
  simp only [Dev.fenceChannel]; split <;> rfl

@[simp] theorem Dev.fixed_flt (d : Dev) (f : FltSt) : ({ d with flt := f } : Dev).fixed = d.fixed := rfl

@[simp] theorem Dev.fixed_fenceUnits (d : Dev) (s i : Nat) : (d.fenceUnits s i).fixed = d.fixed := by
  simp only [Dev.fenceUnits]
  exact foldl_keeps _ _ (fun a b => by simp) _ _

@[simp] theorem Dev.fixed_unfence (d : Dev) (u : FUnit) : (d.unfence u).fixed = d.fixed := by
  cases u <;> simp [Dev.unfence]

@[simp] theorem Dev.fixed_endFences (d : Dev) (s i : Nat) : (d.endFences s i).fixed = d.fixed := by
  simp only [Dev.endFences]
  rw [foldl_keeps Dev.fixed]
  · rfl
  · intro a b; split <;> simp

@[simp] theorem Dev.fixed_logPush (d : Dev) (e : LogEntry) : (d.logPush e).fixed = d.fixed := by
  simp only [Dev.logPush]; split <;> simp

@[simp] theorem Dev.fixed_react (d : Dev) (s i : Nat) : (d.react s i).fixed = d.fixed := by
  simp only [Dev.react]; split
  · rfl
  · split
    · rfl
    · split <;> simp
  · simp
  · simp

@[simp] theorem Dev.fixed_event (d : Dev) (s i : Nat) : (d.event s i).fixed = d.fixed := by
  simp only [Dev.event]; split <;> simp

@[simp] theorem Dev.fixed_look (d : Dev) (k : Nat) : (d.look k).fixed = d.fixed := by
  simp only [Dev.look]; split <;> simp

@[simp] theorem Dev.fixed_detect (d : Dev) (k : Nat) : (d.detect k).fixed = d.fixed := by simp [Dev.detect]

@[simp] theorem Dev.fixed_drain (d : Dev) : d.drain.fixed = d.fixed := by
  simp only [Dev.drain]
  rw [foldl_keeps Dev.fixed _ (fun a b => by simp)]; rfl

@[simp] theorem Dev.fixed_noteLive (d : Dev) (k : Nat) : (d.noteLive k).fixed = d.fixed := by simp [Dev.noteLive]

@[simp] theorem Dev.fixed_noteFall (d : Dev) (k : Nat) (b : Bool) : (d.noteFall k b).fixed = d.fixed := by
  simp only [Dev.noteFall]; split <;> rfl

/-- A report keeps what no reaction reaches. -/
@[simp] theorem Dev.fixed_report (d : Dev) (s i : Nat) : (d.report s i).fixed = d.fixed := by simp [Dev.report]

@[simp] theorem Dev.fixed_unreport (d : Dev) (s i : Nat) : (d.unreport s i).fixed = d.fixed := by simp [Dev.unreport]

@[simp] theorem Dev.fixed_reportLevel (d : Dev) (s i : Nat) (b : Bool) : (d.reportLevel s i b).fixed = d.fixed := by
  simp only [Dev.reportLevel]; split <;> simp

/-- A session is out of a report's reach. -/
theorem Dev.session_of_fixed {d e : Dev} (h : d.fixed = e.fixed) (rq : Requester) : d.session rq = e.session rq := by
  simp only [Dev.fixed, Prod.mk.injEq] at h
  cases rq <;> simp [Dev.session] <;> tauto

end Sys2Proof.Machine
end

