-- ==== Sys2Proof/Laws/Faults.lean ====
section
/-! SUPPORT. What a reaction leaves of the collector's own books, and that a report leaves its source's status bit set. -/

namespace Sys2Proof.Machine

/-- The status bits, the detectors, the forced keys, the keys whose wires read equal, and whether the collector is released. -/
def Dev.seen (d : Dev) := (d.flt.status, d.flt.det, d.flt.force, d.flt.eq, d.flt.released)

@[simp] theorem Dev.seen_set (d : Dev) (f : Field) (v i j : Nat) : (d.set f v i j).seen = d.seen := rfl
@[simp] theorem Dev.seen_bump (d : Dev) (f : Field) (i j n : Nat) : (d.bump f i j n).seen = d.seen := rfl
@[simp] theorem Dev.seen_raiseBit (d : Dev) (f : Field) (k i j : Nat) : (d.raiseBit f k i j).seen = d.seen := rfl
@[simp] theorem Dev.seen_emit (d : Dev) (o : Output) : (d.emit o).seen = d.seen := rfl
@[simp] theorem Dev.seen_emits (d : Dev) (o : List Output) : (d.emits o).seen = d.seen := rfl
@[simp] theorem Dev.seen_modPort (d : Dev) (p : Nat) (f : HlkPort → HlkPort) : (d.modPort p f).seen = d.seen := rfl
@[simp] theorem Dev.seen_modJob (d : Dev) (i : Nat) (f : Job → Job) : (d.modJob i f).seen = d.seen := rfl
@[simp] theorem Dev.seen_modCam (d : Dev) (n : Nat) (f : CamSt → CamSt) : (d.modCam n f).seen = d.seen := rfl
@[simp] theorem Dev.seen_modCtx (d : Dev) (n : Nat) (f : IspCtx → IspCtx) : (d.modCtx n f).seen = d.seen := rfl
@[simp] theorem Dev.seen_purge (d : Dev) (n : Nat) : (d.purge n).seen = d.seen := rfl

@[simp] theorem Dev.seen_msixDue (d : Dev) (v : Nat) : (d.msixDue v).seen = d.seen := by
  simp only [Dev.msixDue]; split <;> rfl

@[simp] theorem Dev.seen_irq (d : Dev) (st en : Field) (k : Nat) (v : Option Field) (i : Nat) : (d.irq st en k v i).seen = d.seen := by
  cases v with
  | none => rfl
  | some v => simp only [Dev.irq]; split <;> simp

@[simp] theorem Dev.seen_fltIrq (d : Dev) (k : Nat) : (d.fltIrq k).seen = d.seen := by simp [Dev.fltIrq]

@[simp] theorem Dev.seen_pushJobRec (d : Dev) (i t st ev c l : Nat) : (d.pushJobRec i t st ev c l).seen = d.seen := by
  simp only [Dev.pushJobRec]; split <;> rfl

@[simp] theorem Dev.seen_closeRange (d : Dev) (i : Nat) (g : DefectRange) : (d.closeRange i g).seen = d.seen := by
  simp [Dev.closeRange]

@[simp] theorem Dev.seen_closeRanges (d : Dev) (i : Nat) (p : DefectRange → Bool) : (d.closeRanges i p).seen = d.seen := by
  simp only [Dev.closeRanges]
  exact foldl_keeps _ _ (fun a b => by simp) _ _

@[simp] theorem Dev.seen_joinRange (d : Dev) (i b c l : Nat) : (d.joinRange i b c l).seen = d.seen := by
  simp only [Dev.joinRange]; split
  · split
    · rfl
    · split <;> simp
  · simp

@[simp] theorem Dev.seen_addRange (d : Dev) (i b c l : Nat) : (d.addRange i b c l).seen = d.seen := by
  have h : ((d.jobs.filter (fun e => e.1 ≠ i)).foldl (fun d e => d.closeRanges e.1 (fun g => g.bar = b)) d).seen = d.seen :=
    foldl_keeps _ _ (fun a b => by simp) _ _
  simp only [Dev.addRange]
  split <;> simpa using h

/-! ### Lanes -/

@[simp] theorem Dev.seen_modTx (d : Dev) (p : Nat) (f : LaneTx → LaneTx) : (d.modTx p f).seen = d.seen := rfl

@[simp] theorem Dev.seen_lineOut (d : Dev) (p : Nat) (b : List Bool) : (d.lineOut p b).seen = d.seen := by
  simp only [Dev.lineOut]; split <;> rfl

@[simp] theorem Dev.seen_putFrame (d : Dev) (p n : Nat) : (d.putFrame p n).seen = d.seen := by simp [Dev.putFrame]

@[simp] theorem Dev.seen_laneStart (d : Dev) (p t : Nat) (w : List Nat) : (d.laneStart p t w).seen = d.seen := by simp [Dev.laneStart]

@[simp] theorem Dev.seen_laneTick (d : Dev) (p : Nat) : (d.laneTick p).seen = d.seen := by
  simp only [Dev.laneTick]; split
  · rfl
  · split
    · simp
    · split <;> simp

@[simp] theorem Dev.seen_laneSend (d : Dev) (p t : Nat) (w : List Nat) : (d.laneSend p t w).seen = d.seen := by simp [Dev.laneSend]

@[simp] theorem Dev.seen_sendTime (d : Dev) (p : Nat) : (d.sendTime p).seen = d.seen := by
  simp only [Dev.sendTime, Dev.seen_laneSend, Dev.seen_modPort]

@[simp] theorem Dev.seen_markerOut (d : Dev) (p : Nat) : (d.markerOut p).seen = d.seen := by
  simp only [Dev.markerOut, Dev.seen_sendTime, Dev.seen_lineOut, Dev.seen_emit, Dev.seen_modTx, Dev.seen_modPort]

@[simp] theorem Dev.seen_laneAbort (d : Dev) (p : Nat) : (d.laneAbort p).seen = d.seen := by
  simp only [Dev.laneAbort]; split
  · rfl
  · split <;> simp

@[simp] theorem Dev.seen_laneFlush (p k : Nat) (d : Dev) : (Dev.laneFlush p k d).seen = d.seen := by
  induction k generalizing d with
  | zero => rfl
  | succ k ih =>
    simp only [Dev.laneFlush]; split
    · simp [ih]
    · split <;> simp [ih]

@[simp] theorem Dev.seen_laneDrain (d : Dev) (p : Nat) : (d.laneDrain p).seen = d.seen := by
  simp only [Dev.laneDrain]; split <;> simp

@[simp] theorem Dev.seen_primeLane (d : Dev) (p k : Nat) : (d.primeLane p k).seen = d.seen := by simp [Dev.primeLane]

@[simp] theorem Dev.seen_laneReady (d : Dev) (p : Nat) : (d.laneReady p).seen = d.seen := by
  simp only [Dev.laneReady, Dev.seen_sendTime, Dev.seen_lineOut, Dev.seen_modTx, Dev.seen_modPort]

@[simp] theorem Dev.seen_laneOff (d : Dev) (p : Nat) : (d.laneOff p).seen = d.seen := rfl

@[simp] theorem Dev.seen_wakeLane (d : Dev) (p : Nat) : (d.wakeLane p).seen = d.seen := by
  simp only [Dev.wakeLane]; split <;> simp

@[simp] theorem Dev.seen_inhibitPort (d : Dev) (p r : Nat) : (d.inhibitPort p r).seen = d.seen := by
  simp only [Dev.inhibitPort, Dev.seen_modPort]
  rw [foldl_keeps Dev.seen]
  · simp
  · intro a b; split <;> simp

@[simp] theorem Dev.seen_inhibitAll (d : Dev) : d.inhibitAll.seen = d.seen := by
  simp only [Dev.inhibitAll]
  exact foldl_keeps _ _ (fun a b => by split <;> simp) _ _

@[simp] theorem Dev.seen_lampMark (d : Dev) (c st : Nat) : (d.lampMark c st).seen = d.seen := by
  simp only [Dev.lampMark]; split
  · rfl
  · split <;> simp

@[simp] theorem Dev.seen_lamps (d : Dev) (l : LampSt) : ({ d with lamps := l } : Dev).seen = d.seen := rfl

@[simp] theorem Dev.seen_lampGate (d : Dev) : d.lampGate.seen = d.seen := by
  simp only [Dev.lampGate]; split
  · exact foldl_keeps _ _ (fun a b => by split <;> simp) _ _
  · rfl

@[simp] theorem Dev.seen_settle (d e : Dev) : (Dev.settle d e).seen = e.seen := by
  simp only [Dev.settle]; split <;> split <;> simp

@[simp] theorem Dev.seen_memDone (d : Dev) (p st : Nat) : (d.memDone p st).seen = d.seen := by simp [Dev.memDone]

@[simp] theorem Dev.seen_leavePort (d : Dev) (p r : Nat) (n : LinkState) (b : Bool) : (d.leavePort p r n b).seen = d.seen := by
  simp only [Dev.leavePort, Dev.seen_modTx, Dev.seen_modPort]; split <;> split <;> simp

@[simp] theorem Dev.seen_disablePort (d : Dev) (p : Nat) (l : List (Nat × List Nat)) : (d.disablePort p l).seen = d.seen := by
  simp only [Dev.disablePort]; split
  · rfl
  · simp only [Dev.seen_modPort, Dev.seen_laneOff, Dev.seen_laneDrain]
    rw [foldl_keeps Dev.seen _ (fun a b => by simp)]; simp

@[simp] theorem Dev.seen_primePort (d : Dev) (p : Nat) : (d.primePort p).seen = d.seen := by
  simp only [Dev.primePort]; split <;> simp

@[simp] theorem Dev.seen_stopTrigger (d : Dev) (c : Nat) : (d.stopTrigger c).seen = d.seen := by
  simp only [Dev.stopTrigger]; split
  · rw [Dev.seen_irq]; rfl
  · rfl

@[simp] theorem Dev.seen_vinKeep (d : Dev) (k : Nat) (f : CtxFrame) : (d.vinKeep k f).seen = d.seen := by
  simp only [Dev.vinKeep]; split <;> rfl

@[simp] theorem Dev.seen_ringWrite (d : Dev) (kind unit base size wr : Nat) (b : List Nat) : (d.ringWrite kind unit base size wr b).seen = d.seen := by
  simp only [Dev.ringWrite]; split <;> simp

theorem Dev.seen_ringRecord {d e : Dev} {kind unit base size wr rd n : Nat} {b : List Nat}
    (h : d.ringRecord kind unit base size wr rd b = some (e, n)) : e.seen = d.seen := by
  simp only [Dev.ringRecord] at h
  split at h
  · simp only [Option.some.injEq, Prod.mk.injEq] at h; rw [← h.1]; simp
  · cases h

@[simp] theorem Dev.seen_ctxFrameEnd (d : Dev) (k : Nat) (f : CtxFrame) : (d.ctxFrameEnd k f).seen = d.seen := by
  have h1 : ∀ e : Dev, (if f.dropped ≠ 0 then (e.bump F.ISP_K_CNT_INCOMPLETE k).irq F.ISP_IRQ_STAT F.ISP_IRQ_EN (8 + k) (some F.ISP_VEC) else e).seen
      = e.seen := fun e => by split <;> simp
  simp only [Dev.ctxFrameEnd, Dev.seen_vinKeep, h1, Dev.seen_irq]
  split
  · rfl
  · split
    · rename_i h; simp [Dev.seen_ringRecord h]
    · simp

@[simp] theorem Dev.seen_streamLost (d : Dev) (k j : Nat) : (d.streamLost k j).seen = d.seen := by simp [Dev.streamLost]

@[simp] theorem Dev.seen_streamPut (d : Dev) (k j : Nat) (f : CtxFrame) (o : Nat) (a : IspAcc) : (d.streamPut k j f o a).1.seen = d.seen := by
  simp only [Dev.streamPut]; split
  · rfl
  · split
    · rename_i h; simp [Dev.seen_ringRecord h]
    · simp

@[simp] theorem Dev.seen_owe (d : Dev) (s : Nat) : (d.owe s).seen = d.seen := rfl

@[simp] theorem Dev.seen_cutFrame (d : Dev) (k : Nat) (f : CtxFrame) : (d.cutFrame k f).seen = d.seen := by
  have h : ∀ (l : List Nat) (a : Dev × CtxFrame) (g : Dev × CtxFrame → Nat → Dev × CtxFrame), (∀ b j, (g b j).1.seen = b.1.seen) →
      (l.foldl g a).1.seen = a.1.seen := fun l a g hg => foldl_keeps (fun x : Dev × CtxFrame => x.1.seen) g hg l a
  simp only [Dev.cutFrame]
  split
  · rw [Dev.seen_owe, Dev.seen_ctxFrameEnd, h _ _ _ (fun b j => by split <;> simp)]
  · rw [Dev.seen_ctxFrameEnd, h _ _ _ (fun b j => by split <;> simp)]

@[simp] theorem Dev.seen_endCtxFrames (d : Dev) (n : Nat) : (d.endCtxFrames n).seen = d.seen := by
  simp only [Dev.endCtxFrames]
  refine foldl_keeps _ _ (fun a k => ?_) _ _
  simp only [Dev.seen_modCtx]
  exact foldl_keeps _ _ (fun a b => by simp) _ _

@[simp] theorem Dev.seen_ctlDown (d : Dev) (n : Nat) : (d.ctlDown n).seen = d.seen := by
  simp only [Dev.ctlDown, Dev.ctlEnd]; split <;> simp

@[simp] theorem Dev.seen_stopCamera (d : Dev) (n : Nat) : (d.stopCamera n).seen = d.seen := by
  simp only [Dev.stopCamera]; split <;> simp

@[simp] theorem Dev.seen_startCamera (d : Dev) (n : Nat) : (d.startCamera n).seen = d.seen := by
  simp only [Dev.startCamera]; split
  · simp only [Dev.seen_modCam]; split
    · rfl
    · simp
  · rfl

@[simp] theorem Dev.seen_stopIsp (d : Dev) : d.stopIsp.seen = d.seen := by
  simp only [Dev.stopIsp]
  exact foldl_keeps _ _ (fun a b => by simp) _ _

@[simp] theorem Dev.seen_fenceEffect (d : Dev) (u : FUnit) : (d.fenceEffect u).seen = d.seen := by
  cases u <;> simp [Dev.fenceEffect]
  simp only [Dev.fenceChannel]; split <;> rfl

@[simp] theorem Dev.seen_fenceUnits (d : Dev) (s i : Nat) : (d.fenceUnits s i).seen = d.seen := by
  simp only [Dev.fenceUnits]
  exact foldl_keeps _ _ (fun a b => by rw [Dev.seen_fenceEffect]; rfl) _ _

@[simp] theorem Dev.seen_unfence (d : Dev) (u : FUnit) : (d.unfence u).seen = d.seen := by
  cases u <;> simp [Dev.unfence]

@[simp] theorem Dev.seen_endFences (d : Dev) (s i : Nat) : (d.endFences s i).seen = d.seen := by
  simp only [Dev.endFences]
  rw [foldl_keeps Dev.seen]
  · rfl
  · intro a b; split <;> simp

@[simp] theorem Dev.seen_logPush (d : Dev) (e : LogEntry) : (d.logPush e).seen = d.seen := by
  simp only [Dev.logPush]; split
  · rfl
  · rw [Dev.seen_fltIrq]; rfl

@[simp] theorem Dev.seen_react (d : Dev) (s i : Nat) : (d.react s i).seen = d.seen := by
  simp only [Dev.react]; split
  · rfl
  · split
    · rfl
    · split
      · rw [Dev.seen_fltIrq, Dev.seen_fenceUnits]
      · rw [Dev.seen_fltIrq]; exact Dev.seen_fenceUnits d s i
  · rw [Dev.seen_fltIrq, Dev.seen_stopTrigger]; rfl
  · rw [Dev.seen_fltIrq, Dev.seen_settle]; rfl

theorem has_insertOnce_self (l : List Nat) (k : Nat) : has (insertOnce l k) k = true := by
  simp only [has, insertOnce]; split <;> simp_all

theorem has_insertOnce_of {l : List Nat} {k : Nat} (h : has l k = true) (x : Nat) : has (insertOnce l x) k = true := by
  simp only [has, insertOnce] at *; split <;> simp_all

theorem Dev.status_of_seen {d e : Dev} (h : e.seen = d.seen) : e.flt.status = d.flt.status := congrArg (fun x => x.1) h

theorem Dev.status_event (d : Dev) (s i : Nat) : (d.event s i).flt.status = insertOnce d.flt.status (fkey s i) := by
  simp only [Dev.event]
  split
  · rw [Dev.status_of_seen (Dev.seen_fltIrq _ _)]
    change (Dev.logPush _ _).flt.status = _
    rw [Dev.status_of_seen (Dev.seen_logPush _ _)]
  · rw [Dev.status_of_seen (Dev.seen_react _ _ _), Dev.status_of_seen (Dev.seen_fltIrq _ _)]
    change (Dev.logPush _ _).flt.status = _
    rw [Dev.status_of_seen (Dev.seen_logPush _ _)]

theorem Dev.has_status_look {d : Dev} {k : Nat} (h : has d.flt.status k = true) (x : Nat) : has (d.look x).flt.status k = true := by
  simp only [Dev.look]; split
  · rw [Dev.status_event]; exact has_insertOnce_of h _
  · exact h

theorem Dev.has_status_drain {d : Dev} {k : Nat} (h : has d.flt.status k = true) : has d.drain.flt.status k = true := by
  simp only [Dev.drain]
  have : ∀ (l : List Nat) (e : Dev), has e.flt.status k = true → has (l.foldl (fun d src => d.detect (fkey src 0)) e).flt.status k = true := by
    intro l
    induction l with
    | nil => intro e h; exact h
    | cons a l ih => intro e h; exact ih _ (Dev.has_status_look (d := { e with flt := { e.flt with det := insertOnce e.flt.det (fkey a 0) } }) h _)
  exact this _ _ h

/-- A report leaves its source's status bit set. -/
theorem Dev.has_status_report (d : Dev) (s i : Nat) (_hi : i < 256) : has (d.report s i).flt.status (fkey s i) = true := by
  simp only [Dev.report, Dev.noteLive]
  apply Dev.has_status_drain
  simp only [Dev.look]
  split
  · rw [Dev.status_event]
    have : fkey (fkey s i / 256) (fkey s i % 256) = fkey s i := by simp only [fkey]; omega
    rw [this]; exact has_insertOnce_self _ _
  · rename_i h
    simp only [FltSt.live, has_insertOnce_self, Bool.true_or, Bool.true_and, Bool.not_eq_true', Bool.not_eq_false] at h
    exact h

/-- A report sets no status bit back. -/
theorem Dev.has_status_report_of {d : Dev} {k : Nat} (h : has d.flt.status k = true) (s i : Nat) : has (d.report s i).flt.status k = true := by
  simp only [Dev.report, Dev.noteLive]
  exact Dev.has_status_drain (Dev.has_status_look (d := { d with flt := { d.flt with det := insertOnce d.flt.det (fkey s i) } }) h _)

/-- A report does what a report does. -/
theorem Dev.reported_report (d : Dev) (src inst : Nat) (h : inst < 256) : Dev.Reported d (d.report src inst) src inst :=
  ⟨Dev.fixed_report d src inst, Dev.has_status_report d src inst h⟩

end Sys2Proof.Machine
end

