-- ==== Sys2Proof/Laws/LineCode.lean ====
section
/-! SUPPORT. What the line code of the head links does to a bit and to a word (R240, R241): a receiver in lock finds in the stuffed and scrambled bits of a
word the word itself. -/

namespace Sys2Proof.Machine

/-! ### The receiver -/

theorem LaneRx.steps_append (a b : List Bool) (r : LaneRx) :
    LaneRx.steps (a ++ b) r = ((LaneRx.steps b (LaneRx.steps a r).1).1, (LaneRx.steps a r).2 ++ (LaneRx.steps b (LaneRx.steps a r).1).2) := by
  induction a generalizing r with
  | nil => rfl
  | cons x a ih => simp [LaneRx.steps, ih]

/-- The receiver with another state of its line: the latest bits, the descrambler and the run. -/
def LaneRx.onLine (r : LaneRx) (window scr run : Nat) (runBit : Bool) : LaneRx := { r with window, scr, run, runBit }

theorem LaneRx.frameWord_onLine (r : LaneRx) (a b c : Nat) (d : Bool) (w : Nat) :
    (r.onLine a b c d).frameWord w = ((r.frameWord w).1.onLine a b c d, (r.frameWord w).2) := by
  by_cases h1 : r.blind = true
  · simp [LaneRx.frameWord, LaneRx.onLine, h1]
  by_cases h2 : 0 < r.skip
  · simp [LaneRx.frameWord, LaneRx.onLine, h1, h2]
  by_cases h3 : r.frame.isEmpty = true
  · by_cases h4 : linkCrc [bits w 8 8, bits w 16 8, bits w 24 8] = w % 256 <;> by_cases h5 : w / 2 ^ 28 = 0 <;> by_cases h6 : 6 < w / 2 ^ 28 <;>
      simp only [LaneRx.frameWord, LaneRx.onLine, h1, h2, h3, h4, h5, h6, ne_eq, ↓reduceIte, Bool.false_eq_true, not_true, not_false_eq_true]
  · by_cases h4 : 1 < r.need <;> simp only [LaneRx.frameWord, LaneRx.onLine, h1, h2, h3, h4, ↓reduceIte, Bool.false_eq_true]

theorem LaneRx.takeWord_onLine (r : LaneRx) (a b c : Nat) (d : Bool) (w : Nat) :
    (r.onLine a b c d).takeWord w = ((r.takeWord w).1.onLine a b c d, (r.takeWord w).2) := by
  by_cases h1 : r.words = 0
  · by_cases h2 : r.blind = true <;> by_cases h3 : linkCrc (bytesLE 3 w) = w / 16777216 <;> simp [LaneRx.takeWord, LaneRx.onLine, h1, h2, h3]
  · simpa [LaneRx.takeWord, LaneRx.onLine, h1] using LaneRx.frameWord_onLine { r with words := r.words + 1 } a b c d w

theorem LaneRx.gather_onLine (r : LaneRx) (a b c : Nat) (d x : Bool) :
    (r.onLine a b c d).gather x = ((r.gather x).1.onLine a b c d, (r.gather x).2) := by
  have h := LaneRx.takeWord_onLine { r with nbits := 0, word := 0 } a b c d (r.word + b2n x * 2 ^ r.nbits)
  by_cases h1 : r.nbits = 31
  · simpa [LaneRx.gather, LaneRx.onLine, h1] using h
  · simp [LaneRx.gather, LaneRx.onLine, h1]

/-! ### A bit -/

/-- A receiver stands in lock with a lane: it has the scrambler's state and the run of equal bits, short of 24. -/
def LaneRx.InLock (r : LaneRx) (t : LaneTx) : Prop :=
  r.hunting = false ∧ r.scr = t.scr ∧ r.run = t.run ∧ (t.run ≠ 0 → r.runBit = t.runBit) ∧ t.run < 24

theorem scrambleBit_scrambleBit (st : Nat) (b : Bool) : scrambleBit st (scrambleBit st b) = b := by
  cases b <;> cases h : st.testBit 38 <;> cases h' : st.testBit 57 <;> simp [scrambleBit, h, h']

/-- A word completed leaves the receiver's lock alone. -/
theorem LaneRx.takeWord_hunting (r : LaneRx) (w : Nat) : (r.takeWord w).1.hunting = r.hunting := by
  simp only [LaneRx.takeWord, LaneRx.frameWord]
  split_ifs <;> rfl

theorem LaneRx.gather_hunting (r : LaneRx) (b : Bool) : (r.gather b).1.hunting = r.hunting := by
  simp only [LaneRx.gather]
  split_ifs
  · exact LaneRx.takeWord_hunting _ _
  · rfl

/-- A receiver in lock within its 256 words takes a scrambled bit. -/
theorem LaneRx.step_inLock (r : LaneRx) (t : LaneTx) (b : Bool) (h : r.InLock t) (hw : r.words < 256) :
    ∃ win, r.step (scrambleBit t.scr b) =
      (r.onLine win (scramblerStep t.scr (scrambleBit t.scr b)) (if t.run ≠ 0 && t.runBit = scrambleBit t.scr b then t.run + 1 else 1) (scrambleBit t.scr b)).gather b := by
  obtain ⟨hh, hs, hr, hb, hn⟩ := h
  refine ⟨r.window / 2 + b2n (scrambleBit t.scr b) * 2 ^ 63, ?_⟩
  have h1 : ¬ r.words = 256 := by omega
  have h2 : ¬ t.run = 24 := by omega
  by_cases h0 : t.run = 0
  · simp [LaneRx.step, LaneRx.takeBit, LaneRx.onLine, hh, hs, hr, h0, h1, scrambleBit_scrambleBit]
  · simp [LaneRx.step, LaneRx.takeBit, LaneRx.onLine, hh, hs, hr, hb h0, h0, h1, h2, scrambleBit_scrambleBit]

/-- The stuff bit after 24 equal bits is dropped, at the end of a marker period too. -/
theorem LaneRx.step_stuff (r : LaneRx) (s : Bool) (hh : r.hunting = false) (hr : r.run = 24) (hb : r.runBit = s) :
    ∃ win, r.step (!s) = (r.onLine win r.scr 1 (!s), []) := by
  refine ⟨r.window / 2 + b2n (!s) * 2 ^ 63, ?_⟩
  subst hb
  simp [LaneRx.step, LaneRx.takeBit, LaneRx.onLine, hh, hr]

/-- What a lane sends for a frame bit is, to a receiver in lock, that bit (R240, R241); they stay in lock. -/
theorem LaneRx.steps_frameBit (r : LaneRx) (t : LaneTx) (b : Bool) (h : r.InLock t) (hw : r.words < 256) :
    ∃ win, LaneRx.steps (t.frameBit b).1 r =
      ((r.gather b).1.onLine win (t.frameBit b).2.scr (t.frameBit b).2.run (t.frameBit b).2.runBit, (r.gather b).2) ∧ (t.frameBit b).2.run < 24 := by
  obtain ⟨win, hstep⟩ := r.step_inLock t b h hw
  rw [LaneRx.gather_onLine] at hstep
  generalize hs : scrambleBit t.scr b = s at hstep
  generalize hn : (if t.run ≠ 0 && t.runBit = s then t.run + 1 else 1) = n at hstep
  have hlt : n ≤ 24 := by
    have := h.2.2.2.2
    rw [← hn]; split <;> omega
  have e : t.frameBit b = if n = 24 then ([s, !s], { t with scr := scramblerStep t.scr s, runBit := !s, run := 1 })
      else ([s], { t with scr := scramblerStep t.scr s, runBit := s, run := n }) := by
    subst hs hn; rfl
  by_cases h24 : n = 24
  · subst h24
    obtain ⟨win', hstuff⟩ := LaneRx.step_stuff ((r.gather b).1.onLine win (scramblerStep t.scr s) 24 s) s
      (by rw [LaneRx.onLine, LaneRx.gather_hunting]; exact h.1) rfl rfl
    rw [if_pos rfl] at e
    refine ⟨win', ?_, by simp [e]⟩
    simp only [e, LaneRx.steps, hstep, hstuff, List.append_nil]
    rfl
  · rw [if_neg h24] at e
    exact ⟨win, by simp [e, LaneRx.steps, hstep, LaneRx.onLine]; omega⟩

/-! ### A word -/

/-- The value of bits, the first the least. -/
def bitsValue : List Bool → Nat
  | [] => 0
  | b :: bs => b2n b + 2 * bitsValue bs

theorem bitsValue_append (a : List Bool) (b : Bool) : bitsValue (a ++ [b]) = bitsValue a + b2n b * 2 ^ a.length := by
  induction a with
  | nil => simp [bitsValue]
  | cons x a ih => simp only [List.cons_append, bitsValue, ih, List.length_cons, Nat.pow_succ]; ring

theorem bitsValue_wordBits (w : Nat) : bitsValue (wordBits w) = w % 2 ^ 32 := by
  have h : ∀ n, bitsValue ((List.range n).map (fun k => w.testBit k)) = w % 2 ^ n := by
    intro n
    induction n with
    | zero => simp [bitsValue, Nat.mod_one]
    | succ n ih =>
      rw [List.range_succ, List.map_append, List.map_singleton, bitsValue_append, ih, Nat.mod_pow_succ, Nat.testBit_eq_decide_div_mod_eq,
        List.length_map, List.length_range]
      rcases Nat.mod_two_eq_zero_or_one (w / 2 ^ n) with hz | hz <;> simp [hz, b2n]
  exact h 32

/-- The bits that complete a word complete it, to a receiver in lock (R239 to R241). -/
theorem LaneRx.steps_frameBits (bs : List Bool) (r : LaneRx) (t : LaneTx) (h : r.InLock t) (hw : r.words < 256) (hb : bs ≠ [])
    (hn : r.nbits + bs.length = 32) :
    ∃ win, LaneRx.steps (LaneTx.frameBits bs t).1 r =
      (((({ r with nbits := 0, word := 0 } : LaneRx).takeWord (r.word + bitsValue bs * 2 ^ r.nbits)).1.onLine win (LaneTx.frameBits bs t).2.scr
          (LaneTx.frameBits bs t).2.run (LaneTx.frameBits bs t).2.runBit),
        (({ r with nbits := 0, word := 0 } : LaneRx).takeWord (r.word + bitsValue bs * 2 ^ r.nbits)).2) ∧ (LaneTx.frameBits bs t).2.run < 24 := by
  induction bs generalizing r t with
  | nil => exact absurd rfl hb
  | cons b bs ih =>
    obtain ⟨win, hs, hlt⟩ := r.steps_frameBit t b h hw
    simp only [LaneTx.frameBits, LaneRx.steps_append, hs]
    cases bs with
    | nil =>
      have h31 : r.nbits = 31 := by simpa using hn
      refine ⟨win, ?_, hlt⟩
      simp [LaneTx.frameBits, LaneRx.steps, LaneRx.gather, h31, bitsValue]
    | cons c cs =>
      have h31 : ¬ r.nbits = 31 := by simp at hn; omega
      obtain ⟨win', hs', hlt'⟩ := ih (({ r with nbits := r.nbits + 1, word := r.word + b2n b * 2 ^ r.nbits } : LaneRx).onLine win (t.frameBit b).2.scr
        (t.frameBit b).2.run (t.frameBit b).2.runBit) (t.frameBit b).2 ⟨h.1, rfl, rfl, fun _ => rfl, hlt⟩ hw (by simp)
        (by simp only [LaneRx.onLine]; simp only [List.length_cons] at hn ⊢; omega)
      have hv : r.word + b2n b * 2 ^ r.nbits + bitsValue (c :: cs) * 2 ^ (r.nbits + 1) = r.word + bitsValue (b :: c :: cs) * 2 ^ r.nbits := by
        simp only [bitsValue, Nat.pow_succ]; ring
      have ht := LaneRx.takeWord_onLine { r with nbits := 0, word := 0 } win (t.frameBit b).2.scr (t.frameBit b).2.run (t.frameBit b).2.runBit
        (r.word + bitsValue (b :: c :: cs) * 2 ^ r.nbits)
      refine ⟨win', ?_, hlt'⟩
      simp only [LaneRx.gather, if_neg h31]
      rw [hs']
      simp only [LaneRx.onLine] at ht ⊢
      rw [hv, ht]
      simp [LaneTx.frameBits]

/-- What a lane sends for a frame word is, to a receiver in lock at a word boundary, that word; they stay in lock. -/
theorem LaneRx.steps_word (r : LaneRx) (t : LaneTx) (w : Nat) (h : r.InLock t) (hw : r.words < 256) (hn : r.nbits = 0) (hv : r.word = 0) (h32 : w < 2 ^ 32) :
    ∃ win, LaneRx.steps (t.word w).1 r = ((r.takeWord w).1.onLine win (t.word w).2.scr (t.word w).2.run (t.word w).2.runBit, (r.takeWord w).2) ∧
      ((r.takeWord w).1.onLine win (t.word w).2.scr (t.word w).2.run (t.word w).2.runBit).InLock (t.word w).2 := by
  obtain ⟨win, hs, hlt⟩ := r.steps_frameBits (wordBits w) t h hw (by simp [wordBits, List.range_succ]) (by simp [hn, wordBits])
  have hr : ({ r with nbits := 0, word := 0 } : LaneRx) = r := by cases r; simp_all
  rw [hr, bitsValue_wordBits, Nat.mod_eq_of_lt h32, hv, hn, Nat.zero_add, Nat.pow_zero, Nat.mul_one] at hs
  simp only [LaneTx.word]
  generalize LaneTx.frameBits (wordBits w) t = x at *
  exact ⟨win, hs, (LaneRx.takeWord_hunting r w).trans h.1, rfl, rfl, fun _ => rfl, hlt⟩

end Sys2Proof.Machine
end

