-- ==== Sys2Proof/Laws/Memory.lean ====
section
/-! SUPPORT. DRAM: bytes put at addresses are read back there and nowhere else, and every operation on DRAM keeps both lists of cells in canonical
form. -/

namespace Sys2Proof.Machine

/-! ### Lists of cells -/

theorem cellAt_append (l m : List Host.Cell) (x : Nat) (h : ∀ e ∈ l, e.1 ≠ x) : cellAt (l ++ m) x = cellAt m x := by
  induction l with
  | nil => rfl
  | cons e l ih =>
    obtain ⟨k, v⟩ := e
    have hk : k ≠ x := h (k, v) (by simp)
    simp only [List.cons_append, cellAt, hk, if_false]
    exact ih (fun e he => h e (by simp [he]))

theorem cellAt_append_hit (l m : List Host.Cell) (x : Nat) (h : ∀ e ∈ m, e.1 ≠ x) : cellAt (l ++ m) x = cellAt l x := by
  induction l with
  | nil =>
    have := cellAt_append m [] x h
    simpa [cellAt] using this
  | cons e l ih =>
    obtain ⟨k, v⟩ := e
    by_cases hk : k = x <;> simp [cellAt, hk, ih]

theorem cellAt_filter (p : Nat → Bool) (m : List Host.Cell) (x : Nat) (h : p x = true) : cellAt (m.filter (fun e => p e.1)) x = cellAt m x := by
  induction m with
  | nil => rfl
  | cons e m ih =>
    obtain ⟨k, v⟩ := e
    by_cases hk : k = x
    · subst hk; simp [h, cellAt]
    · by_cases hp : p k = true <;> simp [hp, hk, cellAt, ih]

/-- The cells that a write of bytes lists. -/
def newCells (a : Nat) (bs : List Nat) : List Host.Cell :=
  (List.range bs.length).filterMap (fun k => if bs.getD k 0 % 256 = 0 then none else some (a + k, BitVec.ofNat 8 (bs.getD k 0)))

theorem putCells_eq (m : List Host.Cell) (a : Nat) (bs : List Nat) :
    putCells m a bs = m.filter (fun e => e.1 < a) ++ (newCells a bs ++ m.filter (fun e => a + bs.length ≤ e.1)) := by
  simp [putCells, newCells]

theorem mem_newCells {a : Nat} {bs : List Nat} {e : Host.Cell} (h : e ∈ newCells a bs) : a ≤ e.1 ∧ e.1 < a + bs.length ∧ e.2 ≠ 0 := by
  simp only [newCells, List.mem_filterMap, List.mem_range] at h
  obtain ⟨k, hk, he⟩ := h
  split at he
  · cases he
  · rename_i hz
    cases he
    refine ⟨by simp, by simpa using hk, ?_⟩
    intro hb
    apply hz
    have := congrArg BitVec.toNat hb
    simpa using this

theorem cellAt_filterMap (bs : List Nat) (a x : Nat) (l : List Nat) :
    cellAt (l.filterMap (fun k => if bs.getD k 0 % 256 = 0 then none else some (a + k, BitVec.ofNat 8 (bs.getD k 0)))) x =
      if a ≤ x ∧ x - a ∈ l then bs.getD (x - a) 0 % 256 else 0 := by
  induction l with
  | nil => simp [cellAt]
  | cons k l ih =>
    by_cases hz : bs.getD k 0 % 256 = 0
    · simp only [List.filterMap_cons, hz, if_true, ih]
      by_cases hx : a ≤ x ∧ x - a = k
      · obtain ⟨h1, h2⟩ := hx
        subst h2
        simp only [h1, hz, true_and, List.mem_cons, true_or, if_true]
        split <;> rfl
      · by_cases h1 : a ≤ x
        · have h2 : x - a ≠ k := fun h => hx ⟨h1, h⟩
          simp [h1, h2]
        · simp [h1]
    · simp only [List.filterMap_cons, hz, if_false, cellAt]
      by_cases hx : a + k = x
      · subst hx; simp
      · have h2 : ¬ (a ≤ x ∧ x - a = k) := fun h => hx (by omega)
        rw [if_neg hx, ih]
        by_cases h1 : a ≤ x
        · have h3 : x - a ≠ k := fun h => h2 ⟨h1, h⟩
          simp [h1, h3]
        · simp [h1]

/-- A byte put at an address is read back there. -/
theorem cellAt_putCells_in (m : List Host.Cell) (a : Nat) (bs : List Nat) (x : Nat) (h1 : a ≤ x) (h2 : x < a + bs.length) :
    cellAt (putCells m a bs) x = bs.getD (x - a) 0 % 256 := by
  rw [putCells_eq, cellAt_append _ _ _ (by intro e he; have := (List.mem_filter.mp he).2; simp at this; omega),
    cellAt_append_hit _ _ _ (by intro e he; have := (List.mem_filter.mp he).2; simp at this; omega), newCells, cellAt_filterMap]
  have : x - a < bs.length := by omega
  simp [h1, this]

/-- Every other address reads as before. -/
theorem cellAt_putCells_out (m : List Host.Cell) (a : Nat) (bs : List Nat) (x : Nat) (h : x < a ∨ a + bs.length ≤ x) :
    cellAt (putCells m a bs) x = cellAt m x := by
  rw [putCells_eq]
  rcases h with h | h
  · rw [cellAt_append_hit, cellAt_filter (fun k => decide (k < a)) m x (by simpa using h)]
    intro e he
    rcases List.mem_append.mp he with he | he
    · have := (mem_newCells he).1; omega
    · have := (List.mem_filter.mp he).2; simp at this; omega
  · rw [cellAt_append _ _ _ (by intro e he; have := (List.mem_filter.mp he).2; simp at this; omega),
      cellAt_append _ _ _ (by intro e he; have := mem_newCells he; omega),
      cellAt_filter (fun k => decide (a + bs.length ≤ k)) m x (by simpa using h)]

theorem newCells_pairwise (a : Nat) (bs : List Nat) : (newCells a bs).Pairwise (fun x y => x.1 < y.1) := by
  rw [newCells, List.pairwise_filterMap]
  refine List.Pairwise.imp ?_ List.pairwise_lt_range
  intro i j hij x hx y hy
  split at hx
  · cases hx
  · split at hy
    · cases hy
    · cases hx; cases hy; simpa using hij

/-- Putting bytes keeps the canonical form. -/
theorem Memory.wf_putCells {m : List Host.Cell} (h : Memory.wf m) (a : Nat) (bs : List Nat) : Memory.wf (putCells m a bs) := by
  obtain ⟨h1, h2⟩ := h
  rw [putCells_eq]
  constructor
  · rw [List.pairwise_append, List.pairwise_append]
    refine ⟨h1.filter _, ⟨newCells_pairwise a bs, h1.filter _, ?_⟩, ?_⟩
    · intro x hx y hy
      have := mem_newCells hx
      have hy := (List.mem_filter.mp hy).2
      simp at hy
      omega
    · intro x hx y hy
      have hx := (List.mem_filter.mp hx).2
      simp at hx
      rcases List.mem_append.mp hy with hy | hy
      · have := mem_newCells hy; omega
      · have hy := (List.mem_filter.mp hy).2
        simp at hy
        omega
  · intro e he
    rcases List.mem_append.mp he with he | he
    · exact h2 e (List.mem_filter.mp he).1
    · rcases List.mem_append.mp he with he | he
      · exact (mem_newCells he).2.2
      · exact h2 e (List.mem_filter.mp he).1

/-! ### The device's DRAM -/

/-- Both lists of cells of DRAM are in canonical form. -/
def Dev.MemWf (d : Dev) : Prop := Memory.wf d.dram ∧ Memory.wf d.check

theorem Dev.memWf_reset : State.reset.dev.MemWf := by
  constructor <;> exact ⟨List.Pairwise.nil, by intro e he; cases he⟩

theorem Dev.memWf_of_fixed {d e : Dev} (h : e.fixed = d.fixed) (w : d.MemWf) : e.MemWf := by
  simp only [Dev.fixed, Prod.mk.injEq] at h
  have hd : e.dram = d.dram := by simp [h]
  have hc : e.check = d.check := by simp [h]
  exact ⟨hd ▸ w.1, hc ▸ w.2⟩

theorem Dev.memWf_putWord {d : Dev} (h : d.MemWf) (a w x : Nat) : (d.putWord a w x).MemWf :=
  ⟨Memory.wf_putCells h.1 _ _, Memory.wf_putCells h.2 _ _⟩

theorem Dev.memWf_poisonWord {d : Dev} (h : d.MemWf) (a : Nat) : (d.poisonWord a).MemWf := Dev.memWf_putWord h ..

theorem Dev.memWf_report {d : Dev} (h : d.MemWf) (s i : Nat) : (d.report s i).MemWf := Dev.memWf_of_fixed (by simp) h

theorem Dev.memWf_irq {d : Dev} (h : d.MemWf) (st en : Field) (k : Nat) (v : Option Field) (i : Nat) : (d.irq st en k v i).MemWf :=
  Dev.memWf_of_fixed (by simp) h

theorem Dev.memWf_modChan {d : Dev} (h : d.MemWf) (c : Nat) (f : DdrCh → DdrCh) : (d.modChan c f).MemWf := h

theorem Dev.memWf_touchRow {d : Dev} (h : d.MemWf) (a : Nat) (w : Bool) (r : Nat) : (d.touchRow a w r).MemWf := h

theorem Dev.memWf_eccLast {d : Dev} (h : d.MemWf) (c : ReadClass) (a x p : Nat) : (d.eccLast c a x p).MemWf := h

theorem Dev.memWf_foldl {β : Type} (f : Dev → β → Dev) (hf : ∀ d b, Dev.MemWf d → (f d b).MemWf) (l : List β) {d : Dev} (h : d.MemWf) :
    (l.foldl f d).MemWf := by
  induction l generalizing d with
  | nil => exact h
  | cons b l ih => exact ih (hf d b h)

theorem Dev.memWf_retireRow {d : Dev} (h : d.MemWf) (c row : Nat) : (d.retireRow c row).MemWf := by
  unfold Dev.retireRow
  split
  · refine Dev.memWf_report (Dev.memWf_irq (Dev.memWf_modChan (Dev.memWf_foldl _ ?_ _ h) _ _) _ _ _ _ _) _ _
    intro d a hd
    split
    · exact hd
    · exact Dev.memWf_putWord hd ..
    · exact Dev.memWf_poisonWord hd a
  · refine Dev.memWf_report ?_ _ _
    have h2 := Dev.memWf_foldl Dev.poisonWord (fun d a hd => Dev.memWf_poisonWord hd a) (d.wordsOfRow c row) h
    split
    · exact Dev.memWf_modChan h2 _ _
    · exact h2

theorem Dev.memWf_ledger {d : Dev} (h : d.MemWf) (a v : Nat) (scrub : Bool) : (d.ledger a v scrub).MemWf := by
  unfold Dev.ledger
  dsimp only
  split
  · split <;> exact h
  · split
    · exact Dev.memWf_retireRow (Dev.memWf_modChan h _ _) _ _
    · split
      · exact h
      · split
        · exact h
        · exact Dev.memWf_putWord (Dev.memWf_modChan h _ _) ..

theorem Dev.memWf_bump {d : Dev} (h : d.MemWf) (f : Field) (i j n : Nat) : (d.bump f i j n).MemWf := h

/-- What a read of a word does beside returning data keeps the canonical form. -/
theorem Dev.memWf_noteRead {d : Dev} (h : d.MemWf) (a : Nat) (scrub : Bool) : (d.noteRead a scrub).MemWf := by
  unfold Dev.noteRead
  dsimp only
  split
  · exact h
  · split
    · exact Dev.memWf_putWord (Dev.memWf_ledger (Dev.memWf_report (Dev.memWf_eccLast (Dev.memWf_bump h ..) ..) ..) ..) ..
    · exact Dev.memWf_ledger (Dev.memWf_report (Dev.memWf_eccLast (Dev.memWf_bump h ..) ..) ..) ..
  · exact Dev.memWf_report (Dev.memWf_irq (Dev.memWf_poisonWord (Dev.memWf_eccLast (Dev.memWf_bump h ..) ..) _) ..) ..
  · exact Dev.memWf_eccLast (Dev.memWf_bump h ..) ..

theorem Dev.dramRead_dev (d : Dev) (a n r : Nat) : (d.dramRead a n r).2.2 =
    (d.badWords a n).foldl (fun d w => d.noteRead w)
      (((List.range ((a + n + 63) / 64 - a / 64)).map (fun k => 64 * (a / 64 + k))).foldl
        (fun d b => if (d.touchRow b false r).onFenced b then (d.touchRow b false r).bump F.DDR_C_CNT2_FENCED_RD ((d.touchRow b false r).chanAddr b).1 else d.touchRow b false r) d) := rfl

/-- A read of a range of bytes keeps the canonical form. -/
theorem Dev.memWf_dramRead {d : Dev} (h : d.MemWf) (a n r : Nat) : (d.dramRead a n r).2.2.MemWf := by
  rw [Dev.dramRead_dev]
  refine Dev.memWf_foldl _ (fun _ w hd => Dev.memWf_noteRead hd w false) _ (Dev.memWf_foldl _ ?_ _ h)
  intro d b hd
  by_cases hc : (d.touchRow b false r).onFenced b = true
  · rw [if_pos hc]; exact Dev.memWf_bump (Dev.memWf_touchRow hd b _ _) ..
  · rw [if_neg hc]; exact Dev.memWf_touchRow hd b _ _

/-- An armed flip that is taken leaves both lists alone. -/
theorem Dev.memWf_takeFlip {d : Dev} (h : d.MemWf) (k : Nat) : (d.takeFlip k).2.MemWf := by
  unfold Dev.takeFlip
  split <;> exact h

/-- A whole-word write keeps the canonical form. -/
theorem Dev.memWf_dramWriteWord {d : Dev} (h : d.MemWf) (a w : Nat) : (d.dramWriteWord a w).MemWf := by
  have h2 := Dev.memWf_takeFlip h (d.chanAddr a).1
  unfold Dev.dramWriteWord
  split
  · exact h
  · split
    · rename_i heq; rw [heq] at h2; exact Dev.memWf_putWord h2 ..
    · rename_i heq; rw [heq] at h2; exact Dev.memWf_putWord h2 ..

/-- A write of a range keeps the canonical form. -/
theorem Dev.memWf_dramWrite {d : Dev} (h : d.MemWf) (a : Nat) (bs : List Nat) (r : Nat) : (d.dramWrite a bs r).MemWf := by
  have h2 := Dev.memWf_foldl (fun d k => d.touchRow (a + 64 * k) true r) (fun d k hd => Dev.memWf_touchRow hd _ _ _) (List.range (cdiv bs.length 64)) h
  simp only [Dev.dramWrite]
  exact Dev.memWf_foldl _ (fun d k hd => Dev.memWf_dramWriteWord hd _ _) _ h2

end Sys2Proof.Machine
end

