-- ==== Sys2Proof/Laws/Writes.lean ====
section
/-! SUPPORT. What a register write does, said once for each of its shapes: a write that need not wait is carried out; a word without stored fields changes
only what its row's action changes; a write with INSTALLER or MAKER rights leaves one audit entry and starts the idle timer again; a write without
the role is counted and changes nothing else. -/

namespace Sys2Proof.Machine

theorem Dev.pageOpen_of {d : Dev} (h1 : d.pwr.st = .on) (h2 : 2 ≤ d.get F.SYS_STAT_PHASE) (a : Nat) : d.pageOpen a = true := by
  simp [Dev.pageOpen, h1, h2]

theorem State.mustWait_quiet {s : State} (h : s.Quiet) (rq : Requester) (page n : Nat) (hn : n ≤ 2) : s.mustWait rq page n = false := by
  obtain ⟨h1, h2⟩ := h
  simp [State.mustWait, h1]
  omega

/-- A write that need not wait is carried out. -/
theorem State.gate_run {s : State} (h : s.Quiet) (rq : Requester) (cmd : Instr) (addr w : Nat) (acts : List Act) (run : State → State) (extra : Nat)
    (he : extra ≤ 1) : s.gate rq cmd addr w acts run extra = run s := by
  simp only [State.gate]
  rw [State.mustWait_quiet h]
  · simp
  · split <;> omega

/-- A word of which no field is stored stays as it is. -/
theorem Dev.storeWord_none {a : Nat} (h : (fieldsAt a).all (fun x => !x.1.stores) = true) (d : Dev) (rq : Requester) (w : Nat) :
    d.storeWord rq a w = d := by
  have : (fieldsAt a).any (d.takes rq w) = false := by
    rw [List.any_eq_false]
    intro x hx
    have := List.all_eq_true.mp h x hx
    simp only [Bool.not_eq_true'] at this
    simp [Dev.takes, this]
  simp [Dev.storeWord, this]

/-- With no stored field and a permitted action that needs no INSTALLER role, a write stores and records nothing. -/
theorem State.write_none {s : State} (h : s.PagesOpen) (rq : Requester) (addr w : Nat) (act : Act) (hp : inPages addr = true)
    (hf : (fieldsAt (canonAddr rq addr)).all (fun x => !x.1.stores) = true) (hr : s.dev.may rq act.role = true) (ha : auditedRole act.role = false) :
    s.write rq addr w [act] = s := by
  have hst := Dev.storeWord_none hf s.dev rq w
  have hall : ∀ x ∈ fieldsAt (canonAddr rq addr), x.1.stores = false := fun x hx => by
    simpa using List.all_eq_true.mp hf x hx
  have hta : ∀ x ∈ fieldsAt (canonAddr rq addr), s.dev.takes rq w x = false := fun x hx => by simp [Dev.takes, hall x hx]
  have hno : ∀ (p : Field × Nat × Nat × Nat → Bool), (fieldsAt (canonAddr rq addr)).any (fun x => s.dev.takes rq w x && p x) = false := by
    intro p; rw [List.any_eq_false]; intro x hx; simp [hta x hx]
  have h1 : s.dev.refuses rq (canonAddr rq addr) w [act] = false := by
    have : (fieldsAt (canonAddr rq addr)).any (fun x => x.1.stores && !s.dev.mayField rq x.1 x.2.1 w) = false := by
      rw [List.any_eq_false]; intro x hx; simp [hall x hx]
    simp [Dev.refuses, this, hr]
  have h2 : s.dev.rightful rq (canonAddr rq addr) w [act] = false := by
    have := hno (fun x => auditedRole x.1.role && s.dev.may rq x.1.role)
    simp only [Dev.rightful, Bool.and_assoc] at *
    simp [this, ha]
  have h3 : s.dev.audited rq (canonAddr rq addr) w [act] = false := by
    have := hno (fun x => auditedRole x.1.role && !silentField x.1)
    simp only [Dev.audited, Bool.and_assoc] at *
    simp [this, ha]
  simp [State.write, Dev.writeWord, Dev.pageOpen_of h.1 h.2, hp, hst, h1, h2, h3]

/-- A row on a word without stored fields, with an action that needs no INSTALLER role: its action alone. -/
theorem State.row_none {s : State} {rq : Requester} {r : Nat} (h : s.Ready rq r) (cmd : Instr) (addr w : Nat) (act : Act) (f : Dev → Dev)
    (hp : inPages addr = true) (hf : (fieldsAt (canonAddr rq addr)).all (fun x => !x.1.stores) = true) (hb : w.testBit act.bit = true)
    (hr : (match act.role with | none => true | some x => decide (x.code ≤ r)) = true) (ha : auditedRole act.role = false) :
    s.row rq cmd addr w act f = s.onDev f := by
  have hm : s.dev.may rq act.role = true := by
    cases hx : act.role with
    | none => simp [Dev.may]
    | some x => rw [hx] at hr; simp only [decide_eq_true_eq] at hr; simp [Dev.may]; exact le_trans hr h.2.2
  rw [State.row, State.gate_run h.2.1 _ _ _ _ _ _ _ (by omega)]
  simp [State.acts, Dev.acts, Dev.pageOpen_of h.1.1 h.1.2, hb, hm, State.write_none h.1 rq addr w act hp hf hm ha]

/-- A row on a word without stored fields whose action needs INSTALLER or MAKER: the idle timer starts again, one audit entry joins the queue, and
the action takes place. -/
theorem State.row_audited {s : State} {rq : Requester} {r : Nat} (h : s.Ready rq r) (cmd : Instr) (addr w : Nat) (act : Act) (f : Dev → Dev)
    (hp : inPages addr = true) (hf : (fieldsAt (canonAddr rq addr)).all (fun x => !x.1.stores) = true) (hb : w.testBit act.bit = true)
    (hr : (match act.role with | none => true | some x => decide (x.code ≤ r)) = true) (ha : auditedRole act.role = true) :
    ∃ old new, s.row rq cmd addr w act f = ((s.onDev (fun d => d.touch rq)).pushAudit (some rq) (s.dev.entry rq addr old new)).onDev f := by
  have hm : s.dev.may rq act.role = true := by
    cases hx : act.role with
    | none => simp [Dev.may]
    | some x => rw [hx] at hr; simp only [decide_eq_true_eq] at hr; simp [Dev.may]; exact le_trans hr h.2.2
  have hst := Dev.storeWord_none hf s.dev rq w
  have hall : ∀ x ∈ fieldsAt (canonAddr rq addr), x.1.stores = false := fun x hx => by
    simpa using List.all_eq_true.mp hf x hx
  have h1 : s.dev.refuses rq (canonAddr rq addr) w [act] = false := by
    have : (fieldsAt (canonAddr rq addr)).any (fun x => x.1.stores && !s.dev.mayField rq x.1 x.2.1 w) = false := by
      rw [List.any_eq_false]; intro x hx; simp [hall x hx]
    simp [Dev.refuses, this, hm]
  have h2 : s.dev.rightful rq (canonAddr rq addr) w [act] = true := by simp [Dev.rightful, hb, ha, hm]
  have h3 : s.dev.audited rq (canonAddr rq addr) w [act] = true := by simp [Dev.audited, hb, ha, hm]
  refine ⟨s.dev.word (canonAddr rq addr), (s.dev.touch rq).word (canonAddr rq addr), ?_⟩
  rw [State.row, State.gate_run h.2.1 _ _ _ _ _ _ _ (by omega)]
  simp [State.acts, Dev.acts, Dev.pageOpen_of h.1.1 h.1.2, hb, hm, State.write, Dev.writeWord, hp, hst, h1, h2, h3]
  rfl

/-- A write whose fields the row stores, with the role it needs and no INSTALLER role: the row's effect alone. -/
theorem State.roleWrite_plain {s : State} {rq : Requester} {r : Nat} (h : s.Ready rq r) (cmd : Instr) (addr : Nat) (role : Option Role)
    (reads : Dev → Nat) (f : Dev → Dev) (hp : inPages addr = true)
    (hr : (match role with | none => true | some x => decide (x.code ≤ r)) = true) (ha : auditedRole role = false) :
    s.roleWrite rq cmd addr role reads f = s.onDev f := by
  have hm : s.dev.may rq role = true := by
    cases hx : role with
    | none => simp [Dev.may]
    | some x => rw [hx] at hr; simp only [decide_eq_true_eq] at hr; simp [Dev.may]; exact le_trans hr h.2.2
  simp [State.roleWrite, hp, Dev.pageOpen_of h.1.1 h.1.2, hm, ha, State.mustWait_quiet h.2.1]

/-- A write whose fields the row stores, with the INSTALLER or MAKER role it needs: the row's effect, the idle timer started again and one audit
entry with the word before and after. -/
theorem State.roleWrite_audited {s : State} {rq : Requester} {r : Nat} (h : s.Ready rq r) (cmd : Instr) (addr : Nat) (role : Option Role)
    (reads : Dev → Nat) (f : Dev → Dev) (hp : inPages addr = true)
    (hr : (match role with | none => true | some x => decide (x.code ≤ r)) = true) (ha : auditedRole role = true) :
    s.roleWrite rq cmd addr role reads f =
      (s.onDev (fun d => (f d).touch rq)).pushAudit (some rq) (s.dev.entry rq addr (reads s.dev) (reads ((f s.dev).touch rq))) := by
  have hm : s.dev.may rq role = true := by
    cases hx : role with
    | none => simp [Dev.may]
    | some x => rw [hx] at hr; simp only [decide_eq_true_eq] at hr; simp [Dev.may]; exact le_trans hr h.2.2
  simp [State.roleWrite, hp, Dev.pageOpen_of h.1.1 h.1.2, hm, ha, State.mustWait_quiet h.2.1]
  rfl

/-- A write whose fields the row stores, without the role it needs: it is counted with its address and changes nothing else. -/
theorem State.roleWrite_denied {s : State} {rq : Requester} {r : Nat} (h : s.Ready rq r) (cmd : Instr) (addr : Nat) (role : Role)
    (reads : Dev → Nat) (f : Dev → Dev) (hp : inPages addr = true) (hr : s.dev.rights rq < role.code) :
    s.roleWrite rq cmd addr (some role) reads f = s.onDev (fun d => d.deny rq addr) := by
  have hm : s.dev.may rq (some role) = false := by simp [Dev.may]; omega
  simp [State.roleWrite, hp, Dev.pageOpen_of h.1.1 h.1.2, hm, State.mustWait_quiet h.2.1]

/-- A word of one stored field takes its bits, clamped (R5, R8). -/
theorem Dev.storeWord_one {d : Dev} {rq : Requester} {a w : Nat} {f : Field} {i j : Nat} (hf : fieldsAt a = [(f, i, j, 0)])
    (ht : d.takes rq w (f, i, j, 0) = true) (hn : ∀ e : Dev, e.normPage a = e) (hr : f.acc = .rw ∨ f.acc = .wo) :
    d.storeWord rq a w = d.set f (f.clampVal (f.withPart 0 (d.get f i j) w)) i j := by
  rcases hr with hr | hr <;> simp [Dev.storeWord, hf, ht, hn, Dev.storeField, hr]

/-- A write to a word of one field that needs no INSTALLER role. -/
theorem State.write_one {s : State} {rq : Requester} {addr w : Nat} {f : Field} {i j : Nat} (hp : inPages addr = true) (ho : s.PagesOpen)
    (hf : fieldsAt (canonAddr rq addr) = [(f, i, j, 0)]) (ht : s.dev.takes rq w (f, i, j, 0) = true)
    (hn : ∀ e : Dev, e.normPage (canonAddr rq addr) = e) (hr : f.acc = .rw ∨ f.acc = .wo) (ha : auditedRole f.role = false) :
    s.write rq addr w = s.onDev (fun d => d.set f (f.clampVal (f.withPart 0 (d.get f i j) w)) i j) := by
  have hm : s.dev.mayField rq f i w = true := by simp [Dev.takes] at ht; exact ht.1.2
  simp [State.write, hp, Dev.pageOpen_of ho.1 ho.2, Dev.audited, hf, ha, Dev.writeWord, Dev.storeWord_one hf ht hn hr, Dev.rightful, Dev.refuses, hm]
  rfl

/-- A write to a word of one field that needs INSTALLER or MAKER: one audit entry joins the queue and the idle timer starts again. -/
theorem State.write_one_audited {s : State} {rq : Requester} {addr w : Nat} {f : Field} {i j : Nat} (hp : inPages addr = true) (ho : s.PagesOpen)
    (hf : fieldsAt (canonAddr rq addr) = [(f, i, j, 0)]) (ht : s.dev.takes rq w (f, i, j, 0) = true)
    (hn : ∀ e : Dev, e.normPage (canonAddr rq addr) = e) (hr : f.acc = .rw ∨ f.acc = .wo) (ha : auditedRole f.role = true) (hs : silentField f = false)
    (hro : s.dev.may rq f.role = true) :
    ∃ old new, s.write rq addr w = (s.onDev (fun d => (d.set f (f.clampVal (f.withPart 0 (d.get f i j) w)) i j).touch rq)).pushAudit (some rq)
      (s.dev.entry rq addr old new) := by
  have hm : s.dev.mayField rq f i w = true := by simp [Dev.takes] at ht; exact ht.1.2
  refine ⟨s.dev.word (canonAddr rq addr), (s.dev.writeWord rq addr w []).word (canonAddr rq addr), ?_⟩
  have hw : s.dev.writeWord rq addr w [] = (s.dev.set f (f.clampVal (f.withPart 0 (s.dev.get f i j) w)) i j).touch rq := by
    simp [hp, Dev.pageOpen_of ho.1 ho.2, hf, ha, Dev.writeWord, Dev.storeWord_one hf ht hn hr, Dev.rightful, Dev.refuses, hm, ht, hro]
  simp [State.write, hp, Dev.pageOpen_of ho.1 ho.2, Dev.audited, hf, ha, ht, hs, hw]
  rfl

/-- A whole-word write that nothing follows, to an address outside the MSI-X table. -/
theorem State.registerWrite_of {s t : State} {rq : Requester} {addr : Nat} {be : BitVec 8} {data : BitVec 64} (hq : s.Quiet)
    (hb : be.toNat % 16 = 15) (h4 : addr % 4 = 0) (hm : inMsix addr = false) (hz : addr < Region.bar0.size) (hw : s.write rq addr (data.toNat % 4294967296) = t)
    (ha : ∀ (d b : Dev) (w : Nat), d.afterWrite b (canonAddr rq addr) w = d) :
    exec (.registerWrite ⟨rq, .bar0, addr, be, false, data⟩) s = .next t := by
  have hid : t.onDev (fun d => d) = t := rfl
  simp [exec, execRegisterWrite, State.busWord, hb, h4, hm, Nat.not_le.mpr hz, State.plainWrite, State.gate_run hq _ _ _ _ _ _ 0 (Nat.zero_le _), hw, ha, hid]

/-- A field with no rule of its own is written with the role that its row gives (R11, R57, R405). -/
theorem Dev.mayField_of {f : Field} (h : f ≠ F.ROLE_KEY_NEW ∧ f ≠ F.ROLE_KEY_CTRL_TARGET ∧ f ≠ F.FLT_SRC_CLASS) (d : Dev) (rq : Requester) (i w : Nat) :
    d.mayField rq f i w = d.may rq f.role := by
  simp [Dev.mayField, h.1, h.2.1, h.2.2]

/-- A stored field with no rule of its own takes the write of a requester with its role. -/
theorem Dev.takes_of {f : Field} (h : f ≠ F.ROLE_KEY_NEW ∧ f ≠ F.ROLE_KEY_CTRL_TARGET ∧ f ≠ F.FLT_SRC_CLASS) (hs : f.stores = true) (d : Dev)
    (rq : Requester) (i j w : Nat) : d.takes rq w (f, i, j, 0) = d.may rq f.role := by
  simp [Dev.takes, Dev.mayField_of h, hs, h.2.2]

/-- A write to a word of one field that needs no role. -/
theorem State.write_free {s : State} {rq : Requester} {addr w : Nat} {f : Field} {i j : Nat} (hp : inPages addr = true) (ho : s.PagesOpen)
    (hf : fieldsAt (canonAddr rq addr) = [(f, i, j, 0)]) (hs : f.stores = true) (hro : f.role = none)
    (h : f ≠ F.ROLE_KEY_NEW ∧ f ≠ F.ROLE_KEY_CTRL_TARGET ∧ f ≠ F.FLT_SRC_CLASS)
    (hn : ∀ e : Dev, e.normPage (canonAddr rq addr) = e) (hr : f.acc = .rw ∨ f.acc = .wo) :
    s.write rq addr w = s.onDev (fun d => d.set f (f.clampVal (f.withPart 0 (d.get f i j) w)) i j) := by
  refine State.write_one hp ho hf ?_ hn hr (by rw [hro]; rfl)
  simp [Dev.takes_of h hs, hro, Dev.may]

/-- A write to a word of one field without the role that it needs is counted and changes nothing else. -/
theorem State.write_low {s : State} {rq : Requester} {addr w : Nat} {f : Field} {i j : Nat} {r : Role} (hp : inPages addr = true) (ho : s.PagesOpen)
    (hf : fieldsAt (canonAddr rq addr) = [(f, i, j, 0)]) (hs : f.stores = true) (hro : f.role = some r) (hr : s.dev.rights rq < r.code)
    (h : f ≠ F.ROLE_KEY_NEW ∧ f ≠ F.ROLE_KEY_CTRL_TARGET ∧ f ≠ F.FLT_SRC_CLASS) :
    s.write rq addr w = s.onDev (fun d => d.deny rq addr) := by
  have hm : s.dev.may rq f.role = false := by simp [hro, Dev.may]; exact hr
  simp [State.write, hp, Dev.pageOpen_of ho.1 ho.2, Dev.audited, hf, Dev.mayField_of h, hm, Dev.writeWord, Dev.storeWord, Dev.takes_of h hs, Dev.rightful,
    Dev.refuses, hs]
  rfl

theorem Dev.may_of {d : Dev} {rq : Requester} {r : Role} (h : r.code ≤ d.rights rq) : d.may rq (some r) = true := decide_eq_true h

end Sys2Proof.Machine
end

