-- ==== Sys2Proof/Machine/Inputs.lean ====
section
/-! DEFINITION. What reaches the part from outside and is no row of the table: writes of the configuration space, levels of the encoder inputs, bits of a back channel. Each is an
operation of the host interface beside the commands. -/

namespace Sys2Proof.Machine

/-! ### Configuration space (R80 to R82) -/

/-- A setting of the configuration space that the host writes (R80). Bus Master Enable has its own command. -/
inductive CfgSetting where
  | maxPayload (code : Nat)
  | maxRead (code : Nat)
  | tenBitTags (on : Bool)
  | msixEnable (on : Bool)
  | functionMask (on : Bool)
  | aspmL1 (on : Bool)
  | l1Substates (on : Bool)
  | ltr (on : Bool)
  | clearUncorrectable (bits : Nat)
  | clearCorrectable (bits : Nat)
  deriving DecidableEq, Repr

/-- The configuration space with a setting written: Max Payload Size goes no higher than 512 bytes (R80), Max Read Request Size than 4,096; AER status bits clear
where 1 is written. -/
def PcieCfg.write (c : PcieCfg) : CfgSetting → PcieCfg
  | .maxPayload n => { c with maxPayload := Nat.min 2 n }
  | .maxRead n => { c with maxRead := Nat.min 5 n }
  | .tenBitTags on => { c with tenBitTags := on }
  | .msixEnable on => { c with msixEnable := on }
  | .functionMask on => { c with maskAll := on }
  | .aspmL1 on => { c with l1 := on }
  | .l1Substates on => { c with l1Sub := on }
  | .ltr on => { c with ltr := on }
  | .clearUncorrectable b => { c with aerUncor := c.aerUncor ^^^ (c.aerUncor &&& b) }
  | .clearCorrectable b => { c with aerCor := c.aerCor ^^^ (c.aerCor &&& b) }

/-- A configuration write on a link that is up; what Function Mask lets go is sent (R81). -/
def Dev.cfgWrite (d : Dev) (c : CfgSetting) : Dev :=
  if d.pwr.link then
    let d := d.modPwr (fun p => { p with cfg := p.cfg.write c })
    (List.range 64).foldl (fun d v => d.msixSend v) d
  else d

/-- A configuration write reaches the part. -/
def State.cfgWrite (s : State) (c : CfgSetting) : State := s.onDev (fun d => d.cfgWrite c)

/-! ### Encoder inputs (R167, R201) -/

/-- A level of an encoder input changes at its pin: pass-through outputs repeat it before the filter. -/
def State.encInput (s : State) (n : Enc) (line : Fin 3) (level : Bool) : State :=
  s.onDev (fun d => (d.encPin n.val line.val level d.now).passDrive)

/-! ### Back channels (R240 to R247) -/

/-- The command that something found in a back channel becomes; `t3` is when the header of an echo arrived, in 1/256 ns of the timebase. A payload of another length than
its type has is a bad frame (DESIGN CHOICE). -/
def laneCommand (p : Port) (t3 : Nat) : LaneEvent → Instr
  | .marker m => .backMarkerReceive p (BitVec.ofNat 6 m)
  | .markerMissing => .markerMissing p
  | .stuffViolation => .stuffViolation p
  | .badFrame => .backChannelFrameError p
  | .frame ftype ws =>
    let w (k : Nat) : Word := BitVec.ofNat 32 (ws.getD k 0)
    match ftype, ws.length with
    | 1, 4 => .hello p (w 0) (w 1) (w 2) (w 3)
    | 2, 1 => .confirm p (w 0)
    | 3, 1 => .status p (w 0)
    | 4, _ => .memResp p (ws.map (BitVec.ofNat 32))
    | 5, 2 => .calEcho p (BitVec.ofNat 16 (ws.getD 0 0)) (w 1) t3
    | 6, 1 => .alert p (BitVec.ofNat 8 (ws.getD 0 0))
    | _, _ => .backChannelFrameError p

/-- Bits of a port's back channel arrive: the receiver takes them, and what it finds joins the waiting commands. -/
def State.backBits (s : State) (p : Port) (bits : List Bool) (t3 : Nat) : State :=
  let x := LaneRx.steps bits (s.dev.port p.val).rx
  { s with dev := s.dev.modPort p.val (fun q => { q with rx := x.1 }), pending := s.pending ++ x.2.map (laneCommand p t3) }

end Sys2Proof.Machine
end

