-- ==== Sys2Proof/WellFormed.lean ====
section
/-! DEFINITION. The well-formed commands: operands that a sender can give. Widths of registers, ports and indexes are in the types of Syntax; what
is left to check is how operands fit each other and the sizes of lists. Every command has a meaning, well-formed or not. -/

namespace Sys2Proof

/-- A bus access: it lies in its region (R29), and a 32-bit one has four byte enables and 32 bits of data (R30). -/
def BusAccess.wellFormed (a : BusAccess) : Bool := a.addr < a.region.size && (a.wide || (a.be.toNat < 16 && a.data.toNat < 4294967296))

/-- Can a sender give this command. -/
def Instr.wellFormed : Instr → Bool
  | .registerWrite a => a.wellFormed
  | .pageFenceRead _ page => page < 16384
  | .safeBadFrame nbits bytes => bytes.length = (nbits + 7) / 8
  | .descriptorFetch _ ds => 1 ≤ ds.length && ds.all (fun x => x.length = 16)
  | .descNop _ slot => slot < 4096
  | .descRaster _ slot => slot < 4096
  | .rasterReadCompletion _ slot ok data => slot < 4096 && (ok || data.isEmpty)
  | .rasterReadTimeout _ slot => slot < 4096
  | .descriptorResume _ slot => slot < 4096
  | .jobBadOp _ op => op = 0 || 9 ≤ op.toNat
  | .bar4Read off len => 1 ≤ len && off.toNat + len ≤ 1073741824
  | .bar4Write off data => 1 ≤ data.length && off.toNat + data.length ≤ 1073741824
  | .oldBankFree kind set port => 1 ≤ kind && kind ≤ 4 && set < 4 && port < 192
  | .memResp _ words => 1 ≤ words.length
  | .faultStatusClear _ addr _ => addr % 4 = 0
  | .faultForce _ addr _ => addr % 4 = 0
  | .ethFrameReceive _ _ desc => desc.length = 8
  | .ethFrameTransmit _ _ desc _ => desc.length = 8
  | .ddrEnable _ hubs => hubs.length = 4
  | .imageHeader _ _ _ width => width < 65536
  | .cameraCtlAck _ _ bytes => bytes.length ≤ 256
  | _ => true

end Sys2Proof
end

