-- ==== Sys2Proof/Tests/Slice0.lean ====
section
/-! SUPPORT. Tests: ill-formed commands, single commands on small states, and for every statement a state and operands that meet its hypotheses. The
expected values are worked out from the rules of spec/ by hand. -/



namespace Sys2Proof.Tests
open Sys2Proof Sys2Proof.Machine

set_option maxRecDepth 20000
set_option Elab.async false

/-! ### Helpers -/

/-- A state with registers set: field, value, first index. -/
def regs0 (l : List (Field × Nat × Nat)) (s : State) : State := { s with dev := l.foldl (fun d x => d.set x.1 x.2.1 x.2.2) s.dev }

/-- A property of the next state that an outcome holds. -/
def ifNext (o : Host.Outcome State Fault Refusal) (p : State → Bool) : Bool :=
  match o with
  | .next t => p t
  | .fault _ => false
  | .refused _ => false

/-- The next state of a command, or the state before it. -/
def after (c : Instr) (s : State) : State :=
  match exec c s with
  | .next t => t
  | .fault _ => s
  | .refused _ => s

/-- The command leaves exactly this device, and the audit chain and queue as they were. -/
def dg (c : Instr) (s : State) (e : Dev) : Bool := ifNext (exec c s) (fun t => t.dev = e && t.audit = s.audit && t.pending = s.pending)

/-- The command leaves a device with a property, and the audit chain and queue as they were. -/
def dc (c : Instr) (s : State) (p : Dev → Bool) : Bool := ifNext (exec c s) (fun t => t.audit = s.audit && t.pending = s.pending && p t.dev)

/-- The command leaves a device with a property and one more audit entry of its requester, at this address. -/
def dca (c : Instr) (s : State) (rq : Requester) (addr : Nat) (p : Dev → Bool) : Bool :=
  ifNext (exec c s) (fun t => p t.dev && match t.audit.queue.getLast? with
    | some x => t.audit = (s.pushAudit (some rq) (s.dev.entry rq addr x.2.old x.2.new)).audit
    | none => false)

/-- The command leaves exactly this device and one more audit entry. -/
def dga (c : Instr) (s : State) (rq : Requester) (addr : Nat) (e : Dev) : Bool := dca c s rq addr (fun d => d = e)

/-- A source's status stands after a report, and the clocks, sessions, pins and DRAM are as before. -/
def rep (d e : Dev) (src : Nat) (inst : Nat := 0) : Bool :=
  has e.flt.status (fkey src inst) && e.raw = d.raw && e.host = d.host && e.cellar = d.cellar && e.pins = d.pins && e.dram = d.dram && e.tb = d.tb

/-- A powered part in PHASE READY with both sessions open as MAKER, the link up and Bus Master Enable set. -/
def up : State :=
  { State.reset with
    dev := { Dev.reset with
      regs := RegFile.set [] F.SYS_STAT_PHASE 0 0 6
      pwr := { Dev.reset.pwr with st := .on, running := true, link := true, bme := true }
      raw := 1000
      host := { st := .opened, role := 3, deadline := 5000000000 }
      cellar := { st := .opened, role := 3, deadline := 5000000000 } } }

/-- That part with registers set and its device changed. -/
def r (l : List (Field × Nat × Nat)) (f : Dev → Dev) : State :=
  let s := regs0 l up
  { s with dev := f s.dev }

/-- The host holds no session. -/
def shut (d : Dev) : Dev := { d with host := {} }

/-! ### Ill-formed commands: one for each check -/

theorem test_wellFormed_registerWrite : Instr.wellFormed (.registerWrite ⟨.host, .bar0, 0, 15, false, 7⟩) = true ∧
    Instr.wellFormed (.registerWrite ⟨.host, .bar0, 0, 16, false, 7⟩) = false ∧
    Instr.wellFormed (.registerWrite ⟨.host, .bar0, 0, 15, false, 4294967296⟩) = false := by decide
theorem test_wellFormed_fences : Instr.wellFormed (.pageFenceRead .host 16383) = true ∧ Instr.wellFormed (.pageFenceRead .host 16384) = false := by decide
theorem test_wellFormed_safeBadFrame : Instr.wellFormed (.safeBadFrame 9 [0, 0]) = true ∧ Instr.wellFormed (.safeBadFrame 9 [0]) = false := by decide
theorem test_wellFormed_descriptors : Instr.wellFormed (.descriptorFetch 0 [List.replicate 16 0]) = true ∧ Instr.wellFormed (.descriptorFetch 0 []) = false ∧
    Instr.wellFormed (.descriptorFetch 0 [[1]]) = false ∧ Instr.wellFormed (.descNop 0 4096) = false ∧ Instr.wellFormed (.descRaster 0 4096) = false ∧
    Instr.wellFormed (.descriptorResume 0 4096) = false := by decide
theorem test_wellFormed_raster : Instr.wellFormed (.rasterReadCompletion 0 7 false []) = true ∧ Instr.wellFormed (.rasterReadCompletion 0 7 false [1]) = false ∧
    Instr.wellFormed (.rasterReadCompletion 0 4096 true [1]) = false ∧ Instr.wellFormed (.rasterReadTimeout 0 4096) = false := by decide
theorem test_wellFormed_jobs : Instr.wellFormed (.jobBadOp .host 9) = true ∧ Instr.wellFormed (.jobBadOp .host 3) = false ∧
    Instr.wellFormed (.bar4Read 0 1) = true ∧ Instr.wellFormed (.bar4Read 1073741823 2) = false ∧ Instr.wellFormed (.bar4Read 0 0) = false ∧
    Instr.wellFormed (.bar4Write 0 []) = false ∧ Instr.wellFormed (.bar4Write 1073741823 [1, 2]) = false := by decide
theorem test_wellFormed_tables : Instr.wellFormed (.oldBankFree 4 3 191) = true ∧ Instr.wellFormed (.oldBankFree 0 3 191) = false ∧
    Instr.wellFormed (.oldBankFree 5 0 0) = false ∧ Instr.wellFormed (.oldBankFree 1 4 0) = false ∧ Instr.wellFormed (.oldBankFree 1 0 192) = false := by decide
theorem test_wellFormed_units : Instr.wellFormed (.memResp 0 []) = false ∧ Instr.wellFormed (.faultStatusClear .host 0x3082 0) = false ∧
    Instr.wellFormed (.faultForce .host 0x3101 0) = false ∧ Instr.wellFormed (.ethFrameReceive 0 [] []) = false ∧
    Instr.wellFormed (.ethFrameTransmit 0 0 [] []) = false ∧ Instr.wellFormed (.ddrEnable .host []) = false ∧
    Instr.wellFormed (.imageHeader 0 0 0 65536) = false ∧ Instr.wellFormed (.cameraCtlAck 0 true (List.replicate 257 0)) = false := by decide

/-! ### Register writes, roles, audit, bonded values (file 02) -/

section Roles

def acc (addr : Nat) (be : BitVec 8) (data : BitVec 64) : Instr := .registerWrite ⟨.host, .bar0, addr, be, false, data⟩
def queued : State := { up with audit := { up.audit with queue := [(some .host, up.dev.entry .host 0x50044 1 2)] } }
def fullQueue : State := { up with audit := { up.audit with queue := List.replicate 32 (some .cellar, up.dev.entry .cellar 0x50044 1 2) } }
def key0 : List Nat := List.replicate 32 0
def sess (x : Session) (d : Dev) : Dev := { d with host := x }
def keyed (d : Dev) : Dev :=
  { d with
    mram := { d.mram with keys := [some key0, none, none] }
    bond := { d.bond with inUse := (List.range 4).foldl (fun l k => setAt l (15 + k) (fun _ => bondPair (ofBytesLE ((sha256 key0).drop (4 * k) |>.take 4)))) d.bond.inUse } }
def challenged : Dev → Dev := fun d => sess { st := .challenged, role := 1, deadline := 9000, chal := List.replicate 32 7 } (keyed d)
/-- The challenged host has written the words of the right tag. -/
def answering : Dev := (List.range 8).foldl (fun d k => d.set F.ROLE_RESP (ofBytesLE (((challenged up.dev).roleTag .host |>.drop (4 * k)).take 4)) 0 k) (challenged up.dev)
def frame (cmd seq : Nat) (idx : Byte) (v : Word) : SafeFrame :=
  let f : SafeFrame := ⟨BitVec.ofNat 16 seq, idx, v, ~~~v, 0⟩
  { f with crc := BitVec.ofNat 16 (crc16 ((safeBytes f cmd).take 12)) }
def safeUp : Dev → Dev := fun d => { d with safe := { d.safe with loaded := true } }

theorem test_registerWrite_clamps : dg (acc 0x10040 15 3) up (up.dev.set F.SLU_FETCH_RD_SIZE 2) = true := by decide +kernel
theorem test_registerWrite_byteEnables : dg (acc 0x10040 7 3) up (up.dev.set F.SYS_BAD_ACC_COUNT 1) = true := by decide +kernel
theorem test_sysBadAccClear : dg (.sysBadAccClear .host) (r [(F.SYS_BAD_ACC_COUNT, 9, 0)] id) ((r [(F.SYS_BAD_ACC_COUNT, 9, 0)] id).dev.set F.SYS_BAD_ACC_COUNT 0) = true := by
  decide +kernel
theorem test_pageFenceRead_waits : dc (.pageFenceRead .host 0x50) queued (fun d => d.fences = [⟨.host, some 0x50⟩] && d.outbox = []) = true := by decide +kernel
theorem test_sysFenceRead_returns : dc (.sysFenceRead .cellar) queued (fun d => d.fences = [] && d.outbox = [.fence .cellar none]) = true := by decide +kernel
theorem test_auditEntryWrite : ifNext (exec (.auditEntryWrite true) queued) (fun t => t.audit.queue = [] && t.audit.next = 1 && t.audit.seq = 1 &&
    t.audit.ring.map (fun x => (x.index, x.entry.page, x.entry.offset, x.entry.old, x.entry.new)) = [(0, 0x50, 0x44, 1, 2)]) = true := by decide +kernel
theorem test_roleReq_challenges : dc (.roleReq .host 1) { up with dev := sess {} (keyed up.dev) } (fun d => d.host.st = .challenged && d.host.role = 1 &&
    d.host.deadline = 10000001000 && d.host.chal.length = 32) = true := by decide +kernel
theorem test_roleReq_refuses : dc (.roleReq .host 2) { up with dev := sess {} (keyed up.dev) } (fun d => d.host.st = .closed && d.host.refused) = true := by decide +kernel
theorem test_roleResponse_locks : dc (.roleResponse .host 5) { up with dev := sess { (challenged up.dev).host with fails := 2 } (challenged up.dev) }
    (fun d => d.host.st = .locked && d.host.fails = 3 && d.host.deadline = 60000001000 && has d.flt.status (fkey 22 0)) = true := by decide +kernel
theorem test_roleResponse_opens : dc (.roleResponse .host (BitVec.ofNat 32 (answering.get F.ROLE_RESP 0 7))) { up with dev := answering }
    (fun d => d.host.st = .opened && d.host.role = 1 && d.host.deadline = 600000001000) = true := by decide +kernel
theorem test_sessionEnd : dca (.sessionEnd .host 0x00140001) up .host 0x1048 (fun d => d.host.st = .closed && d.get F.ROLE_SESS_CTRL_IDLE_TIME = 20) = true := by decide +kernel
theorem test_keyStage_waits : dca (.keyStage .host 0x201) { up with dev := shut up.dev } .host 0x10C0 (fun d => d.get F.ROLE_KEY_CTRL_TARGET = 2 &&
    d.get F.ROLE_KEY_CTRL_STAGED = 1 && d.staged = some { target := 2, key := key0, deadline := 60000001000, agent := 5, requester := 0 }) = true := by decide +kernel
theorem test_safeWrite_stages : dc (.safeWrite (frame 0xA5 0 4 120)) { up with dev := safeUp up.dev } (fun d => d.safe.staged = [(4, 120)] &&
    d.get F.SAFE_PORT_STAT_EXP_SEQ = 1) = true := by decide +kernel
theorem test_safeBadFrame : dc (.safeBadFrame 8 [0xA5]) { up with dev := safeUp up.dev } (fun d => has d.flt.status (fkey 20 0) && d.safe.staged = []) = true := by decide +kernel
theorem test_caskWordRead_votes : dc (.caskWordRead 63) { up with dev := { up.dev with bond := { up.dev.bond with cask1 := setAt up.dev.bond.cask1 63 (fun _ => 9) } } }
    (fun d => d.bond = up.dev.bond && d.get F.SAFE_CASK_STAT_FIX_CNT = 1 && d.get F.SAFE_CASK_STAT_LAST_WORD = 63) = true := by decide +kernel

theorem witness_StepTakesFrontCommand : up.pending = [] := by decide
theorem witness_AccessesAreChecked :
    (∀ a ∈ ([⟨.host, .bar0, 0x10041, 15, false, 0⟩, ⟨.host, .bar0, 0x10040, 14, false, 0⟩, ⟨.cellar, .bar0, 0x10BFFFC + 4, 15, false, 0⟩,
        ⟨.host, .bar2, 2, 15, false, 0⟩] : List BusAccess),
      a.wide = false ∧ (a.region = .bar0 → inMsix a.addr = false) ∧ (a.addr % 4 ≠ 0 ∨ a.be.toNat % 16 ≠ 15 ∨ (a.region = .bar0 ∧ inPages a.addr = false))) ∧
    (⟨.host, .bar0, 0xFFF8, 255, true, 0⟩ : BusAccess).wide = true ∧ 0xFFF8 % 8 = 0 := by decide
theorem witness_WritesAreClamped : up.PagesOpen ∧ up.Quiet ∧ up.Ready .cellar 2 ∧ (255 : BitVec 8).toNat % 16 = 15 := by decide +kernel
theorem witness_WritesAreRefused :
    ∀ s ∈ [({ up with dev := shut up.dev } : State)], s.PagesOpen ∧ s.Quiet ∧ inPages 0x50044 = true ∧
      (∃ x ∈ fieldsAt (canonAddr .host 0x50044), x.1.stores = true) ∧
      (∀ x ∈ fieldsAt (canonAddr .host 0x50044), x.1.stores = true → s.dev.mayField .host x.1 x.2.1 (4294967296 % 4294967296) = false) := by decide +kernel
theorem witness_RoleCommandsAreRefused :
    ∀ x ∈ [(0, Role.operator), (1, .installer), (2, .maker)], ∀ s ∈ [r [] (sess { st := .opened, role := x.1, deadline := 1000 })],
      s.PagesOpen ∧ s.Quiet ∧ s.dev.may .host (some x.2) = false ∧ s.dev.may .host (some .operator) = decide (0 < x.1) := by decide +kernel
theorem witness_AccessesAreFenced : up.Ready .host 0 ∧ up.audit.stalled = [] ∧ (∀ e ∈ queued.audit.queue, e.1 = some .host → e.2.page ≠ 0x51) ∧
    queued.audit.queue ≠ [] ∧ (∀ e ∈ queued.audit.queue, e.1 = some .host ∧ e.2.page ≠ 0) ∧ (∀ e ∈ queued.audit.queue, e.1 ≠ some .cellar) ∧
    (r [] (fun d => { d with fences := [⟨.cellar, none⟩] })).dev.fences = [⟨.cellar, none⟩] := by decide +kernel
def ringed : State := { up with audit := { up.audit with ring := [⟨8191, 7, up.dev.entry .host 0x50044 1 2⟩] } }
def stalledBy (a : BusAccess) : State := { up with audit := { up.audit with stalled := [(.host, 0x50, .registerWrite a)] } }
theorem witness_AuditEntriesAreKept : queued.audit.queue = [(some .host, up.dev.entry .host 0x50044 1 2)] ∧ queued.dev.get F.NVM_STAT_SUSPENDED = 0 ∧
    ringed.PagesOpen ∧ ringed.Quiet ∧ (ringed.audit.ring.find? (fun x => x.index = 0xFFFF % 8192)).isSome ∧ (∀ x ∈ ringed.audit.ring, x.index ≠ 8190) ∧
    fullQueue.PagesOpen ∧ fullQueue.audit.stalled = [] ∧ fullQueue.audit.queue.length = 32 ∧ 2 ≤ fullQueue.dev.rights .host ∧
    (stalledBy ⟨.host, .bar0, 0x50044, 15, false, 0⟩).audit.stalled = [(.host, 0x50, .registerWrite ⟨.host, .bar0, 0x50044, 15, false, 0⟩)] := by decide +kernel
theorem witness_SessionsOpenAndClose :
    (∀ x ∈ [SessState.locked, .challenged, .opened], (∀ t ∈ [0, 1000, 1001], (r [] (sess { st := x, deadline := t })).PagesOpen ∧ (r [] (sess { st := x, deadline := t })).Quiet ∧
      (r [] (sess { st := x, deadline := t })).dev.host.st = x)) ∧
    up.dev.host.st ≠ .locked ∧ up.dev.mram.keys.getD (max 1 (3 % 4) - 1) none = none ∧
    (keyed up.dev).mram.keys.getD (max 1 (0 % 4) - 1) none = some key0 ∧ (keyed up.dev).roleDigest 1 = (sha256 key0).take 16 ∧
    (∃ b ∈ (keyed up.dev).roleDigest 1, b ≠ 0) ∧ (challenged up.dev).host.st = .challenged ∧ (challenged up.dev).raw ≤ (challenged up.dev).host.deadline ∧
    answering.roleTag .host = answering.response .host ∧ (challenged up.dev).roleTag .host ≠ (challenged up.dev).response .host ∧
    (r [] shut).PagesOpen ∧ (r [] shut).Quiet ∧ (r [] shut).dev.rights .host < 2 ∧ (1 : Word).toNat % 4 = 1 ∧ (2 : Word).toNat % 4 = 2 ∧ up.Ready .host 2 := by decide +kernel
theorem witness_KeyIsStaged : (r [] shut).PagesOpen ∧ (r [] shut).Quiet ∧ (r [] shut).dev.rights .host < 2 ∧ (0x301 : Word).toNat % 2 = 1 ∧
    up.dev.mram.keys.getD (max 1 ((0x301 : Word).toNat / 256 % 4) - 1) none = none ∧
    (sha256 ((List.range 8).flatMap (fun k => bytesLE 4 (up.dev.get F.ROLE_KEY_NEW k)))).take 16 ≠ up.dev.roleDigest 3 ∧
    (r [] keyed).PagesOpen ∧ (r [] keyed).Quiet ∧ 3 ≤ (r [] keyed).dev.rights .host ∧
    (sha256 ((List.range 8).flatMap (fun k => bytesLE 4 ((r [] keyed).dev.get F.ROLE_KEY_NEW k)))).take 16 = (r [] keyed).dev.roleDigest 1 ∧
    (r [] (fun d => { d with staged := some { target := 1, key := key0, deadline := 1000, agent := 5, requester := 0 } })).dev.staged =
      some { target := 1, key := key0, deadline := 1000, agent := 5, requester := 0 } := by decide +kernel
theorem witness_SafeFramesAct : ∀ s ∈ [r [] (fun d => { safeUp d with safe := { (safeUp d).safe with staged := [(26, 5)] } })], s.dev.pwr.st = .on ∧ s.dev.safe.loaded = true ∧
    (∀ c ∈ [0, 0x5A, 0xA5, 0x3C, 0xC3], crc16 ((safeBytes (frame c 0 26 5) c).take 12) = (frame c 0 26 5).crc.toNat) ∧
    (frame 0xA5 0 26 5).index.toNat ≤ 26 ∧ s.dev.safe.applying = none ∧ (frame 0xA5 0 26 5).seq.toNat = s.dev.get F.SAFE_PORT_STAT_EXP_SEQ ∧
    (frame 0xA5 0 26 5).compl.toNat = 0xFFFFFFFF - (frame 0xA5 0 26 5).value.toNat ∧ s.dev.safe.staged ≠ [] ∧
    crc16 ((safeBytes (frame 0x3C 0 26 5) 0xA5).take 12) ≠ (frame 0x3C 0 26 5).crc.toNat := by decide +kernel
theorem witness_BondedValuesAreKept :
    (∀ s ∈ [r [] (fun d => { safeUp d with safe := { (safeUp d).safe with applying := some [(4, 120)] } })], s.dev.safe.applying = some [(4, 120)] ∧ s.dev.staged = none ∧
      s.dev.get F.NVM_STAT_SUSPENDED = 0 ∧ s.audit.queue.length + 27 ≤ 32) ∧ up.PagesOpen ∧
    up.dev.bond.cask0.getD 63 0 = 0 ∧ up.dev.bond.cask1.getD 63 0 = 0 ∧ up.dev.bond.cask2.getD 63 0 = 0 ∧ 0 ≠ 9 ∧
    (∀ d ∈ [{ up.dev with bond := { up.dev.bond with cask1 := setAt up.dev.bond.cask1 63 (fun _ => 9), cask2 := setAt up.dev.bond.cask2 63 (fun _ => 8) } }],
      d.bond.cask0.getD 63 0 ≠ d.bond.cask1.getD 63 0 ∧ d.bond.cask1.getD 63 0 ≠ d.bond.cask2.getD 63 0 ∧ d.bond.cask0.getD 63 0 ≠ d.bond.cask2.getD 63 0) ∧
    (∀ p ∈ up.dev.bond.pairs, p.2 = 0xFFFFFFFF - p.1) ∧ (∃ p ∈ ([(5, 5)] : List (Nat × Nat)), p.2 ≠ 0xFFFFFFFF - p.1) ∧
    bondDigest (up.dev.bond.pairs.map (·.1)) ≠ (List.range 8).map (fun k => up.dev.cask (4 + k)) ∧
    (∀ d ∈ [(safeUp up.dev).setCasks 4 (bondDigest (up.dev.bond.pairs.map (·.1)))],
      d.safe.loaded = true ∧ bondDigest (d.bond.pairs.map (·.1)) = (List.range 8).map (fun k => d.cask (4 + k))) := by decide +kernel

end Roles

/-! ### The sluice, the cellar book, the cisterns, the decanter (files 03 to 05) -/

section Jobs

/-- A running ring 7 with one entry posted. -/
def ringUp : State := r [(F.SLU_R_CTRL_ENABLE, 1, 7), (F.SLU_R_STAT_ACTIVE, 1, 7), (F.SLU_R_SQ_TAIL, 1, 7), (F.SLU_R_SQ_CFG_MAX_INFLIGHT, 8, 7)] (fun d =>
  d.modRing 7 (fun g => { g with active := true, sqBase := 0x1000, sqN := 16, cqBase := 0x8000, cqN := 16 }))
def ctx0 : JobCtx := { barMask := 128, lineCount := 10, printCount := 1, width := 64 }
/-- An OPEN context 511 of generation 5 with one bar. -/
def job0 : Job := { st := .opened, gen := 5, ctx := ctx0, geo := { up.dev.geometry ctx0 with areas := List.replicate 8 { base := 4096, size := 65536, idxb := 0, idxn := 0 } }, bars := List.replicate 8 {} }
def desc (op : Nat) (ph : DescPhase) : Desc :=
  { ring := 7, slot := 3, order := 0, opcode := op, fence := false, irq := false, noCpl := false, tag := 5 * 512 + 511, cookie := 9, barMask := 128, first := 9, count := 1,
    src := 0, length := ctx0.slot, phase := ph }
/-- A descriptor whose whole source has been asked for by one read of tag 17. -/
def asked (x : Desc) : Desc := { x with phase := .moving, asked := x.length }
def heldAsked (x : Desc) (f : Job → Job) : State :=
  r [(F.ECC_STAT_DRAM_DONE, 1, 0)] (fun d => ({ d with descs := [asked x], reads := [⟨17, x.ring, x.slot, x.order, x.length⟩] } : Dev).setJob 511 (f job0))
def held (x : Desc) (f : Job → Job) : State := r [(F.ECC_STAT_DRAM_DONE, 1, 0)] (fun d => ({ d with descs := [x] } : Dev).setJob 511 (f job0))
def runs (j : Job) : Job := { j with st := .running, bars := List.replicate 8 { stored := [0] } }

theorem test_ringEnable : dc (.ringEnable .cellar 7) (r [(F.SLU_R_SQ_BASE, 5, 7)] id) (fun d => d.get F.SLU_R_STAT_ACTIVE 7 = 1 && (d.ring 7).sqBase = 0x5000 &&
    d.get F.SLU_R_CQ_TAIL_PHASE 7 = 1 && d.get F.SLU_R_STAT_ACTIVE 6 = 0) = true := by decide +kernel
theorem test_descriptorFetch : dc (.descriptorFetch 7 [[0x00050301, 0xAB, 0x80, 4, 0x1C, 1, 0x40, 0x2, 0x80]]) ringUp (fun d => d.get F.SLU_R_SQ_HEAD 7 = 1 &&
    d.descs.map (fun x => (x.opcode, x.fence, x.irq, x.tag)) = [(1, true, true, 5)] &&
    d.descs.map (fun x => (x.cookie, x.barMask, x.first, x.count)) = [(0xAB, 128, 0x1C00000004, 1)] &&
    d.descs.map (fun x => (x.src, x.length)) = [(0x200000040, 0x80)]) = true := by decide +kernel
theorem test_descriptorFetchError : dc (.descriptorFetchError 7) ringUp (fun d => d.descs.map (fun x => (x.status, x.phase)) = [(7, .ended)] &&
    has d.flt.status (fkey 90 0)) = true := by decide +kernel
theorem test_descNop : dc (.descNop 7 3) (held (desc 0 .fetched) id) (fun d => d.descs.map (·.phase) = [.ended]) = true := by decide +kernel
theorem test_descRaster_stale : dc (.descRaster 7 3) (held { desc 1 .fetched with tag := 4 * 512 + 511 } id) (fun d => d.descs.map (·.status) = [1] && d.get F.SLU_STALE_CNT = 1) = true := by
  decide +kernel
theorem test_descRaster_moves : dc (.descRaster 7 3) (held (desc 1 .fetched) id) (fun d => d.descs.map (fun x => (x.phase, x.status)) = [(.moving, 0)]) = true := by decide +kernel
theorem test_rasterReadCompletion : dc (.rasterReadCompletion 7 3 true (List.replicate ctx0.slot 0xAA)) (heldAsked (desc 1 .moving) id) (fun d => d.reads = [] &&
    d.descs.map (fun x => (x.phase, x.unacked.map (fun u => (u.bar, u.line)))) = [(.ended, [(7, 9)])]) = true := by decide +kernel
theorem test_rasterReadTimeout : dc (.rasterReadTimeout 7 3) (heldAsked (desc 1 .moving) id) (fun d => d.descs.map (·.status) = [7] && has d.flt.status (fkey 90 0)) = true := by decide +kernel
theorem test_completionRecordWrite : dc (.completionRecordWrite 7) { ringUp with dev := { ringUp.dev with descs := [{ desc 0 .ended with tag := 0 }] } } (fun d => d.descs = [] &&
    d.get F.SLU_R_CQ_TAIL_INDEX 7 = 1 && d.outbox.length = 1) = true := by decide +kernel
theorem test_jobOpen : dc (.jobOpen .cellar) (r [(F.SLU_JOB_IDX, 511, 0)] (fun d => d.setJob 511 { gen := 127 })) (fun d => (d.job 511).st = .opened && (d.job 511).gen = 0 &&
    d.get F.SLU_JOB_RESULT_TAG = 511 && d.get F.SLU_JOB_RESULT_CODE = 0) = true := by decide +kernel
theorem test_jobArm : dc (.jobArm .host) (r [(F.SLU_JOB_IDX, 511, 0)] (fun d => d.setJob 511 job0)) (fun d => (d.job 511).st = .armed && d.get F.SLU_JOB_RESULT_TAG = 5 * 512 + 511) = true := by
  decide +kernel
theorem test_jobStart : dc (.jobStart .host) (r [(F.SLU_JOB_IDX, 511, 0)] (fun d => d.setJob 511 { job0 with st := .armed })) (fun d => (d.job 511).st = .running && (d.job 511).p0 = 64) = true := by
  decide +kernel
theorem test_jobAbort : dc (.jobAbort .host) (r [(F.SLU_JOB_IDX, 511, 0)] (fun d => d.setJob 511 (runs job0))) (fun d => (d.job 511).st = .aborted) = true := by decide +kernel
theorem test_jobRelease_drains : dc (.jobRelease .host) (r [(F.SLU_JOB_IDX, 511, 0)] (fun d => ({ d with descs := [desc 1 .moving] } : Dev).setJob 511 { job0 with st := .done }))
    (fun d => (d.job 511).st = .draining) = true := by decide +kernel
theorem test_bar4Write_whole : dc (.bar4Write 4 [1, 2, 3, 4]) (r [(F.CIS_WIN_WR_EN, 1, 0), (F.ECC_STAT_DRAM_DONE, 1, 0), (F.DDR_STAT_CAP_MIB, 1024, 0)] id) (fun d => d.rawWord 4 = 0x04030201) = true := by
  decide +kernel
theorem test_writePointerAdvance : dc (.writePointerAdvance 511 7 9) (held { desc 1 .ended with unacked := [⟨7, 9, 0, 64⟩] } id) (fun d => ((d.job 511).bar 7).stored = [9] &&
    d.descs.map (·.unacked) = [[]]) = true := by decide +kernel
theorem test_spoutLineFill : dc (.spoutLineFill 7) (r [] (fun d => d.setJob 511 (runs job0))) (fun d => d.spouts.map (fun l => (l.bar, l.line, l.job)) = [(7, 0, 511)] &&
    ((d.job 511).bar 7).rd = 1) = true := by decide +kernel
theorem test_tableUpdateGo : dc (.tableUpdateGo .host) (r [(F.DEC_UPD_SEL_KIND, 4, 0), (F.DEC_UPD_KEY, 77, 0)] id) (fun d => d.get F.DEC_UPD_KEY = 77 && (d.ktab 4 0 0).sw.isSome &&
    d.get F.DEC_UPD_CMD_CODE = 0) = true := by decide +kernel
theorem test_headMapCommit_busy : dca (.headMapCommit .host) (r [] (fun d => d.setJob 0 { st := .armed })) .host 0x30054 (fun d => d.hmap = up.dev.hmap &&
    d.get F.DEC_HMAP_CMD_CODE = 1 && d.get F.DEC_HMAP_CMD_DONE = 1) = true := by decide +kernel
theorem test_waveformCommit : dca (.waveformCommit .host 0xF01) up .host 0x50058 (fun d => d.get F.FIRE_WS_CMD_SET = 15 && d.get F.FIRE_WS_CMD_DONE = 1 &&
    (d.get F.FIRE_IRQ_STAT).testBit 6) = true := by decide +kernel
theorem test_perstAssert : dc .perstAssert up (fun d => !d.pwr.link && !d.pwr.bme && d.host.st = .closed && has d.flt.status (fkey 89 0)) = true := by decide +kernel

theorem witness_RingsStartAndStop : up.Ready .host 0 ∧ up.dev.get F.SLU_R_CTRL_ENABLE 7 = 0 ∧ (∀ x ∈ up.dev.descs, x.ring ≠ 7) ∧
    (held (desc 1 .moving) id).Ready .host 0 ∧ (held (desc 1 .moving) id).dev.get F.SLU_R_CTRL_ENABLE 7 = 0 ∧ desc 1 .moving ∈ (held (desc 1 .moving) id).dev.descs ∧
    (desc 1 .moving).ring = 7 ∧ ((r [] (fun d => d.modRing 7 (fun g => { g with draining := true }))).dev.ring 7).draining = true := by decide +kernel
theorem witness_DescriptorsAreFetched :
    ((ringUp.dev.ring 7).active = true ∧ ringUp.dev.pwr.link = true ∧ ringUp.dev.pwr.bme = true ∧ (∀ f ∈ ringUp.dev.flt.fences, f.unit ≠ .sluice) ∧ ringUp.dev.posted 7 ≠ 0 ∧
      (ringUp.dev.ringDescs 7).length < ringUp.dev.get F.SLU_R_SQ_CFG_MAX_INFLIGHT 7 ∧ ringUp.dev.descs.length < 1024 ∧ ringUp.dev.get F.ECC_FLIP_CTRL_ARMED = 0) ∧
    (desc 0 .fetched).phase = .fetched ∧ (desc 0 .fetched).opcode = 0 ∧ 2 ≤ (desc 2 .fetched).opcode ∧
    (desc 1 .fetched).opcode = 1 ∧ ((held { desc 1 .fetched with tag := 511 } id).dev.job (511 % 512)).gen ≠ 511 / 512 ∧
    (∀ s ∈ [held (desc 1 .fetched) id], ∀ x ∈ [desc 1 .fetched], s.dev.descs = [] ++ x :: [] ∧ x.length ≠ 0 ∧ x.count ≠ 0 ∧ x.barMask ≠ 0 ∧ x.src % 64 = 0 ∧
      s.dev.get F.SYS_STAT_PHASE ≠ 7 ∧ s.dev.get F.ECC_STAT_DRAM_DONE = 1 ∧ (∀ j ∈ [s.dev.job (x.tag % 512)], j.gen = x.tag / 512 ∧ j.st = .opened ∧ j.ctx.perStored ≠ 2 ∧
        x.first + x.count ≤ j.ctx.lineCount ∧ x.barMask &&& j.ctx.barMask = x.barMask ∧ j.ctx.compressed = false ∧ x.length = x.total j.ctx * j.ctx.slot)) := by decide +kernel
theorem witness_RasterIsStored : ∀ ph ∈ [DescPhase.moving, .room], ∀ x ∈ [desc 1 ph], ∀ s ∈ [held x id], ∀ j ∈ [s.dev.job (x.tag % 512)],
    s.dev.descs = [] ++ x :: [] ∧ x.ring = 7 ∧ x.slot = 3 ∧ j.st ≠ .free ∧ j.st ≠ .draining ∧ x.status = 0 ∧ x.phase = ph ∧ j.ctx.compressed = false ∧ x.taken < x.total j.ctx ∧
    x.got.length + ([7] : List Byte).length < j.ctx.slot ∧ x.consumed + (x.got.length + 1) < x.length ∧ barsOf x.barMask = 7 :: [] ∧ x.taken = 0 ∧ x.consumed = 0 ∧
    x.total j.ctx = 1 ∧ x.length = j.ctx.slot ∧ j.past 7 (x.first / j.ctx.perStored) = false ∧ j.room 7 (x.first / j.ctx.perStored) = true ∧
    (List.replicate j.ctx.slot 3).length = j.ctx.slot ∧ x.got = [] := by decide +kernel
theorem witness_CompletionRecordIsWritten : (∀ s ∈ [({ ringUp with dev := { ringUp.dev with descs := [desc 0 .ended] } } : State)], ∀ x ∈ [desc 0 .ended],
    s.dev.pwr.link = true ∧ s.dev.pwr.bme = true ∧ s.dev.descs = x :: [] ∧ x.ring = 7 ∧ x.phase = .ended ∧ x.unacked = [] ∧ x.silent = false ∧ x.fence = false ∧
    x.noCpl = false ∧ x.irq = false ∧ x.status = 0 ∧ s.dev.get F.SLU_R_CQ_TAIL_INDEX 7 + 1 < (s.dev.ring 7).cqN ∧
    s.dev.get F.SLU_R_CQ_HEAD 7 ≠ s.dev.get F.SLU_R_CQ_TAIL_INDEX 7 + 1) ∧
    (∀ d ∈ [up.dev.modRing 7 (fun g => { g with coalAt := some 1000, flagged := 3 })], (d.ring 7).coalAt = some 1000 ∧ 1000 ≤ d.raw ∧ (d.ring 7).flagged ≠ 0) := by decide +kernel
theorem witness_EndpointFollowsTheBus : up.dev.pwr.link = true ∧ (∀ e ∈ up.dev.pwr.msix, e.pending = false) ∧ up.dev.pwr.bme = true ∧ up.dev.pwr.st = .on ∧
    ((r [] (fun d => { d with pwr := { d.pwr with msix := setAt d.pwr.msix 63 (fun e => { e with pending := true }) } })).dev.pwr.msix[63]?.any (fun e => e.pending)) = true ∧
    (r [] (fun d => { d with pwr := { d.pwr with booted := true } })).dev.pwr.booted = true := by decide +kernel
theorem witness_JobIsOpened :
    (∀ s ∈ [r [(F.SLU_JOB_IDX, 511, 0)] id], s.Ready .host 0 ∧ s.dev.pwr.running = true ∧ 511 = s.dev.get F.SLU_JOB_IDX ∧ (s.dev.job 511).st = .free ∧
      s.dev.get F.ECC_FLIP_CTRL_ARMED = 0 ∧ s.dev.ecc.sram = []) ∧
    (∀ s ∈ [r [(F.SLU_JOB_IDX, 511, 0)] id], ∀ j ∈ [({ st := .opened, gen := 1, ctx := s.dev.stagedCtx, geo := s.dev.geometry s.dev.stagedCtx, bars := List.replicate 8 {} } : Job)],
      s.dev.areaTaken 511 j = false ∧ s.dev.fits j = true) ∧
    (∀ s ∈ [r [(F.SLU_JOB_IDX, 511, 0)] (fun d => (List.range 16).foldl (fun (d : Dev) k => d.set F.SLU_JOB_W (ctx0.words.getD k 0) k) d)],
      ∀ j ∈ [({ st := .opened, gen := 1, ctx := s.dev.stagedCtx, geo := s.dev.geometry s.dev.stagedCtx, bars := List.replicate 8 {} } : Job)],
      s.dev.areaTaken 511 j = true ∨ s.dev.fits j = false) ∧
    (∀ s ∈ [r [(F.SLU_JOB_IDX, 511, 0)] (fun d => d.setJob 511 { st := .opened, ctx := d.stagedCtx, geo := d.geometry d.stagedCtx, bars := List.replicate 8 {} })],
      (s.dev.job 511).st = .opened ∧ (s.dev.job 511).st ≠ .free ∧ (s.dev.job 511).st ≠ .draining ∧
      ∀ j ∈ [{ s.dev.job 511 with ctx := s.dev.stagedCtx, geo := s.dev.geometry s.dev.stagedCtx }],
        j.placing = (s.dev.job 511).placing ∧ s.dev.areaTaken 511 j = false ∧ s.dev.fits j = true) := by decide +kernel
theorem witness_JobIsArmedReleasedAndRead :
    (∀ s ∈ [r [(F.SLU_JOB_IDX, 511, 0)] (fun d => d.setJob 511 job0)], s.Ready .host 0 ∧ s.dev.pwr.running = true ∧ (s.dev.job 511).st = .opened ∧
      (s.dev.job 511).ctx.startAt = false ∧ s.dev.ecc.sram = [] ∧ s.dev.get F.SYS_STAT_PHASE ≠ 7 ∧ (∀ e ∈ s.dev.jobs, e.2.claimWait = false) ∧ (s.dev.job 511).claimWait = false) ∧
    (∀ st ∈ [JobState.done, .aborted, .draining], ∀ s ∈ [r [] (fun d => d.setJob 511 { job0 with st := st })], (s.dev.job 511).st = st ∧ s.dev.inflight 511 = 0) ∧
    (held (desc 1 .moving) (fun j => { j with st := .aborted })).dev.inflight 511 ≠ 0 := by decide +kernel
theorem witness_JobRuns :
    (∀ s ∈ [r [(F.SLU_JOB_IDX, 511, 0)] (fun d => d.setJob 511 { job0 with st := .armed })], s.Ready .host 0 ∧ s.dev.pwr.running = true ∧ s.dev.ecc.sram = [] ∧
      s.dev.get F.SYS_STAT_PHASE ≠ 7 ∧ (s.dev.job 511).st = .armed ∧ (s.dev.job 511).ctx.startAt = false ∧ (s.dev.job 511).claimed = false ∧ (s.dev.job 511).ctx.empty = false ∧
      s.dev.segmentWaits (s.dev.startLine (s.dev.job 511).ctx) 2 = false ∧ (∀ e ∈ s.dev.jobs, (e.2.st = .armed → e.2.waiting = false) ∧ e.2.claimWait = false)) ∧
    (({ job0 with ctx := { ctx0 with barMask := 0 } } : Job).ctx.empty = true ∧ ctx0.chain = false) ∧
    (∀ s ∈ [r [] (fun d => d.setJob 511 { job0 with st := .armed, ctx := { ctx0 with startAt := true, startLine := 9 } })], (s.dev.job 511).waiting = false ∧
      ((s.dev.job 511).ctx.startLine : Int) - 1 - (s.dev.job 511).ctx.depth ≤ s.dev.hwm 0 ∧ s.dev.hwm 0 < (s.dev.job 511).ctx.startLine ∧ (s.dev.job 511).ctx.empty = false ∧
      s.dev.segmentWaits 9 2 = false) ∧
    (∀ s ∈ [r [] (fun d => (d.setJob 511 { runs job0 with ctx := { ctx0 with chain := true, nextTag := 5 * 512 }, bars := List.replicate 8 { rd := 10, seen := 10, rel := 10 } }).setJob 0
        { job0 with st := .armed })],
      s.dev.claimDue 511 = true ∧ (s.dev.job 511).claimWait = false ∧ (s.dev.job 511).endLine = some 10 ∧ 0 = (s.dev.job 511).ctx.nextTag % 512 ∧ (0 : Nat) ≠ 511 ∧
      (s.dev.job 0).gen = (s.dev.job 511).ctx.nextTag / 512 ∧ (s.dev.job 0).st = .armed ∧ (s.dev.job 0).ctx.empty = false ∧ s.dev.segmentWaits 10 2 = false) := by decide +kernel
theorem witness_JobEnds :
    (∀ s ∈ [r [(F.SLU_JOB_IDX, 511, 0)] (fun d => d.setJob 511 { runs job0 with ctx := { ctx0 with forever := true } })], s.Ready .host 0 ∧ (s.dev.job 511).st = .running ∧
      (s.dev.job 511).prints0 = none ∧ (s.dev.job 511).ctx.forever = true) ∧
    (∀ j ∈ [({ runs job0 with bars := List.replicate 8 { rel := 10 } } : Job)], j.st = .running ∧ j.length = some 10 ∧ (∀ b ∈ j.ctx.bars, 10 ≤ (j.bar b).rel)) ∧
    (∀ j ∈ [({ job0 with st := .aborted, bars := List.replicate 8 { rel := 4, cutAt := some 4 } } : Job)], 7 ∈ j.ctx.bars ∧ (j.bar 7).cutAt ≠ none ∧
      (∀ b ∈ j.ctx.bars, (j.bar b).cutAt = some 4 ∧ 4 ≤ j.p0 + (j.bar b).rel)) := by decide +kernel
theorem witness_CisternsAndHostWindow : up.Ready .host 0 ∧
    (∀ x ∈ [{ desc 1 .ended with unacked := [⟨7, 9, 0, 64⟩] }], ∀ s ∈ [held x id], s.dev.descs = [] ++ x :: [] ∧ x.opcode = 1 ∧ x.tag = s.dev.jobTag 511 ∧
      x.unacked = [⟨7, 9, 0, 64⟩] ∧ x.silent = false ∧ (s.dev.job 511).st ≠ .free ∧ (s.dev.job 511).st ≠ .draining) ∧
    up.dev.get F.SYS_STAT_PHASE ≠ 7 ∧ up.dev.get F.ECC_STAT_DRAM_DONE = 0 ∧ up.dev.get F.CIS_WIN_WR_EN = 0 ∧
    (∀ s ∈ [r [(F.CIS_WIN_WR_EN, 1, 0), (F.ECC_STAT_DRAM_DONE, 1, 0), (F.DDR_STAT_CAP_MIB, 1024, 0)] id], s.dev.get F.CIS_WIN_WR_EN = 1 ∧ s.dev.get F.ECC_STAT_DRAM_DONE = 1 ∧
      (1073741820 : BitVec 30).toNat % 4 = 0 ∧ s.dev.get F.CIS_WIN_BASE * 1048576 + (1073741820 : BitVec 30).toNat + 4 ≤ s.dev.windowEnd) := by decide +kernel
theorem witness_SpoutLineIsFilled :
    (∀ s ∈ [r [] (fun d => d.setJob 511 (runs job0))], s.dev.nextNeeded 7 = some (511, 0) ∧ (s.dev.job 511).kindAt 7 0 = .raster 0 ∧
      has ((s.dev.job 511).bar 7).stored ((s.dev.job 511).ctx.storedOf 0) = true ∧
      ((s.dev.spoutsOf 7).map (fun l => spoutBytes l.mode)).sum + spoutBytes (s.dev.job 511).ctx.dropMode ≤ 65536) ∧
    (∀ s ∈ [r [] (fun d => ({ d with spouts := List.replicate 200 { bar := 7, line := 0, job := 511, mode := 0, levels := [], causes := [] } } : Dev).setJob 511 (runs job0))],
      s.dev.nextNeeded 7 = some (511, 1) ∧ 65536 < ((s.dev.spoutsOf 7).map (fun l => spoutBytes l.mode)).sum + spoutBytes (s.dev.job 511).ctx.dropMode) ∧
    up.dev.nextNeeded 7 = none := by decide +kernel
theorem witness_TableUpdateIsKeyed :
    (∀ s ∈ [r [(F.DEC_UPD_SEL_KIND, 4, 0)] id], s.Ready .host 0 ∧ s.dev.get F.DEC_UPD_SEL_KIND = 4 ∧ (s.dev.ktab 4 0 0).sw = none) ∧
    (∀ s ∈ [r [(F.DEC_UPD_SEL_KIND, 4, 0)] (fun d => (d.setKtab { d.ktab 4 0 0 with sw := some { bank := [(2, 1)], key := 9, ramp := 0 } }))],
      (s.dev.ktab 4 0 0).sw = some { bank := [(2, 1)], key := 9, ramp := 0 } ∧ (∀ b < 8, s.dev.nextRead b ≤ 9) ∧ (∀ b ∈ s.dev.tabBars 4 0, s.dev.firstOpen b < 9 + 0)) ∧
    (∀ s ∈ [r [(F.DEC_UPD_SEL_KIND, 4, 0)] (fun d =>
        ({ d with spouts := [{ bar := 7, line := 0, job := 511, mode := 0, levels := [], causes := [] }] } : Dev).setKtab
          { d.ktab 4 0 0 with sw := some { bank := [(2, 1)], key := 0, ramp := 0 } })],
      (s.dev.ktab 4 0 0).sw = some { bank := [(2, 1)], key := 0, ramp := 0 } ∧ 0 < s.dev.nextRead 7 ∧ (∀ b ∈ s.dev.tabBars 4 0, 0 + 0 ≤ s.dev.firstOpen b)) := by decide +kernel
theorem witness_HeadMapAndWaveformsCommit : up.Ready .host 2 ∧ up.dev.anyArmed = false ∧ (r [] (fun d => d.setJob 0 { st := .armed })).dev.anyArmed = true ∧
    4 ≤ up.dev.bond.cask0.length ∧ 4 ≤ up.dev.bond.cask1.length ∧ 4 ≤ up.dev.bond.cask2.length ∧ (0xF01 : Word).toNat.testBit 0 = true ∧ bits (0xF01 : Word).toNat 8 4 = 15 ∧
    (∀ b < 8, up.dev.get F.FIRE_B_IDLE_WS b ≠ 15) ∧ (∃ e ∈ (r [] (fun d => d.setJob 511 (runs { job0 with ctx := { ctx0 with waveSet := 15 } }))).dev.jobs,
      e.2.st = .running ∧ e.2.ctx.waveSet = 15) := by decide +kernel

end Jobs

/-! ### Position (file 06) -/

section

def posUp (l : List (Field × Nat × Nat)) (f : Dev → Dev) : State := let s := regs0 ([(F.POS_CTRL_ENABLE,1,0)] ++ l) up; {s with dev := f s.dev}
theorem test_encoderEdge : dc (.encoderEdge 0 true false) (posUp [] id) (fun d => (d.encSt 0).count = 1 && (d.encSt 0).a) = true := by decide +kernel
theorem test_encoderEdge_again : dc (.encoderEdge 0 true true) (posUp [(F.ENC_ILL_LIMIT,2,0)] id) (fun d => (d.encSt 0).a && (d.encSt 0).b && (d.encSt 0).count = 0 && (d.encSt 0).illegal = [1000] && d.get F.ENC_CNT_ILLEGAL 0 = 1 && d.flt.status = []) = true := by decide +kernel
theorem test_encoderCountClear : dg (.encoderCountClear .host 2) up ((up.dev.set F.ENC_CNT_ILLEGAL 0 2).set F.ENC_CNT_MISPLACED 0 2) = true := by decide +kernel
theorem test_indexAdopt : dga (.indexAdopt .host 1) (posUp [(F.ENC_STAT_SHIFTED,1,1)] id) .host (0x6012C + 0x40) (((((posUp [(F.ENC_STAT_SHIFTED,1,1)] id).dev.touch .host).set F.ENC_STAT_SHIFTED 0 1).set F.ENC_STAT_MISPLACED_RUN 0 1).modEnc 1 (fun e => { e with ref := none, newRef := none, runOfs := [] })) = true := by decide +kernel
theorem test_positionEnable : dca (.positionEnable .host) up .host 0x60008 (fun d => d.get F.POS_CTRL_ENABLE = 1 && d.pos.bars = List.replicate 8 { begun := true } && d.pos.segs = [⟨0, 0, 1, []⟩]) = true := by decide +kernel
theorem test_positionEnable_again : dga (.positionEnable .host) (posUp [] id) .host 0x60008 ((posUp [] id).dev.touch .host) = true := by decide +kernel
theorem test_positionDisable : dca (.positionDisable .host) (posUp [] id) .host 0x60008 (fun d => d.get F.POS_CTRL_ENABLE = 0 && d.pos.speed = 0 ) = true := by decide +kernel
def tracking := posUp [] (fun d => {d with pos := {d.pos with newest := some 900}, enc := setAt d.enc 0 (fun e => {e with count := 5, edges := [(900,1)]}), jobs := [(0,{st := .running, ctx := {barMask := 1}})] })
theorem test_pcmpConfigure : dc (.pcmpConfigure .host 3 0x62F7FFFF) up (fun d => d.get F.PCMP_CFG_SRC 3 = 4 && d.get F.PCMP_CFG_DIR 3 = 2 && d.get F.PCMP_CFG_LATE 3 = 1 && d.get F.PCMP_CFG_TARGET 3 = 15) = true := by decide +kernel
theorem test_pcmpArm : dg (.pcmpArm .host 3 0x6) up ((up.dev.set F.PCMP_VAL (6*2^32) 3).set F.PCMP_STAT_ARMED 1 3) = true := by decide +kernel
theorem test_pcmpArm_again : dg (.pcmpArm .host 3 0x0) up (((up.dev.set F.PCMP_VAL 0 3).set F.PCMP_STAT_MISSED 1 3).set F.PCMP_STAT_ARMED 0 3) = true := by decide +kernel
def gapRuns := posUp [] (fun d => {d with pos := {d.pos with active := 2, gapTo := 1, x := 12345}, enc := setAt d.enc 1 (fun e => {e with count := 5, edges := [(900,1)]})})
theorem test_switchoverTakeover : dc .switchoverTakeover gapRuns (fun d => d.pos.active = 1 && d.measured 1 = 12345 && d.pos.x = 12345) = true := by decide +kernel
def gapLost := posUp [(F.ENC_STAT_LOS,1,1)] (fun d => {d with pos := {d.pos with active := 2, gapTo := 1, x := 12345}})
theorem test_switchoverTakeover_again : dc .switchoverTakeover gapLost (fun d => d.pos.active = 3 && has d.flt.status (fkey 126 0)) = true := by decide +kernel
theorem test_revertCmd : dga (.revertCmd .cellar) up .cellar 0x60074 ((up.dev.touch .cellar).modPos (fun p => { p with revert := false })) = true := by decide +kernel
def apart1 := posUp [(F.POS_REDUN_CFG_MODE,1,0)] (fun d => {d with enc := setAt d.enc 1 (fun e => {e with count := 500, travel := 2 ^ 56, snaps := [0]})})
theorem test_redundancyCompare : dc .redundancyCompare apart1 (fun d => has d.flt.status (fkey 122 0) && (d.get F.POS_IRQ_STAT).testBit 6 && d.pos = { apart1.dev.pos with mode := 1 }) = true := by decide +kernel
def apart2 := posUp [(F.POS_REDUN_CFG_MODE,2,0)] (fun d => {d with enc := setAt d.enc 1 (fun e => {e with count := 500, travel := 2 ^ 56, snaps := [0]})})
theorem test_redundancyCompare_again : dc .redundancyCompare apart2 (fun d => has d.flt.status (fkey 121 0) && d.get F.ENC_STAT_OUTVOTED 1 = 1 && d.pos = { apart2.dev.pos with mode := 2 }) = true := by decide +kernel
/-- The position block runs, with the four encoders changed. -/
def enc3 (l : List (Field × Nat × Nat)) (f : EncSt → EncSt) : State := posUp l (fun d => { d with enc := d.enc.map f })
theorem witness_EncodersAreCounted :
    (∀ s ∈ [posUp [] id], s.dev.posOn = true ∧ 3 < s.dev.enc.length ∧ (s.dev.encSt 3).a ≠ true ∧ (s.dev.encSt 3).b = false ∧ s.Ready .host 2) ∧
    (∀ e ∈ [(posUp [] id).dev.encSt 3], e.a ≠ true ∧ e.b ≠ true) ∧
    (∀ lim ∈ [1, 2], ∀ s ∈ [posUp [(F.ENC_ILL_LIMIT, lim, 3)] id], ∀ recent ∈ [((s.dev.encSt 3).illegal.filter (fun t => s.dev.raw < t + s.dev.get F.ENC_ILL_WINDOW_MS 3 * 1000000)) ++ [s.dev.raw]],
      recent.length = 1 ∧ s.dev.get F.ENC_ILL_LIMIT 3 = lim) ∧ up.dev.posOn = false ∧ ((posUp [] id).dev.encSt 3).gateFirst = none ∧
    ((enc3 [] (fun e => { e with gateFirst := some 100 })).dev.encSt 3).gateFirst = some 100 ∧
    (∀ s ∈ [posUp [(F.ENC_IDX_PERIOD, 100, 3)] id], s.dev.get F.ENC_IDX_PERIOD 3 ≠ 0 ∧ (s.dev.encSt 3).ref = none) ∧
    (∀ k ∈ [0, 3, 49], ∀ s ∈ [enc3 [(F.ENC_IDX_PERIOD, 100, 3), (F.ENC_IDX_WIN, 3, 3)] (fun e => { e with ref := some 0, count := k })],
      s.dev.get F.ENC_IDX_PERIOD 3 = 100 ∧ s.dev.get F.ENC_IDX_WIN 3 = 3 ∧ (s.dev.encSt 3).corrected - 0 - roundDiv ((s.dev.encSt 3).corrected - 0) (100 * 256) * (100 * 256) = k * 256) ∧
    (posUp [] id).dev.get F.ENC_STAT_SHIFTED 3 = 0 ∧ (posUp [(F.ENC_STAT_SHIFTED, 1, 3)] id).dev.get F.ENC_STAT_SHIFTED 3 ≠ 0 := by decide +kernel
theorem witness_PositionStartsAndStops : up.Ready .host 2 ∧ up.dev.get F.POS_CTRL_ENABLE = 0 ∧ (posUp [] id).Ready .host 2 ∧ (posUp [] id).dev.get F.POS_CTRL_ENABLE ≠ 0 ∧
    (posUp [] (fun d => d.setJob 511 { st := .armed })).dev.anyArmed = true ∧ (posUp [] id).dev.anyArmed = false ∧ 8 ≤ up.dev.pos.bars.length ∧
    (posUp [] (fun d => d.modPos (fun p => { p with delayDue := true }))).dev.pos.delayDue = true ∧ up.dev.pos.delayDue = false := by decide +kernel
theorem witness_TrackingLoopMovesTheWeb :
    (∀ s ∈ [tracking], s.dev.posOn = true ∧ s.dev.get F.POS_REDUN_CFG_MODE = 0 ∧ s.dev.pos.active = 0 ∧ s.dev.pos.newest = some 900 ∧ (s.dev.encSt 0).edges = (900, 1) :: [] ∧
      ∀ m ∈ [s.dev.measured 0], ∀ xp ∈ [s.dev.pos.x + Int.fdiv s.dev.pos.v 65536],
        ∀ e ∈ [m - (xp - Int.fdiv (Int.fdiv (s.dev.pos.v * (s.dev.T - (900 : Nat) : Int)) 1000) 65536)],
          (xp + Int.fdiv (e * s.dev.get F.POS_LOOP_KP) 16777216 - m).natAbs < 6 * s.dev.get F.ENC_RATIO 0) ∧
    (∀ s ∈ [({ tracking with dev := tracking.dev.modPos (fun p => { p with x := 1000000000000000 }) } : State)], ∀ m ∈ [s.dev.measured 0], ∀ xp ∈ [s.dev.pos.x + Int.fdiv s.dev.pos.v 65536],
        ∀ e ∈ [m - (xp - Int.fdiv (Int.fdiv (s.dev.pos.v * (s.dev.T - (900 : Nat) : Int)) 1000) 65536)],
          6 * (s.dev.get F.ENC_RATIO 0 : Int) ≤ xp + Int.fdiv (e * s.dev.get F.POS_LOOP_KP) 16777216 - m) ∧
    (∀ s ∈ [posUp [] id], s.dev.pos.newest = none ∧ (s.dev.pos.x + Int.fdiv s.dev.pos.v 65536 - s.dev.measured 0).natAbs < 6 * s.dev.get F.ENC_RATIO 0) ∧
    up.dev.posOn = false := by decide +kernel
theorem witness_EncodersSwitchOver : up.dev.pos.active ≠ 2 ∧ gapRuns.dev.posOn = true ∧ gapRuns.dev.pos.active = 2 ∧ gapRuns.dev.pos.gapEnd ≤ gapRuns.dev.raw ∧
    gapRuns.dev.encUsable gapRuns.dev.pos.gapTo = true ∧ gapRuns.dev.pos.gapTo < gapRuns.dev.enc.length ∧ gapLost.dev.encUsable gapLost.dev.pos.gapTo = false ∧
    (∀ s ∈ [posUp [] (fun d => d.modPos (fun p => { p with active := 1, crossed := true, revert := true }))], s.dev.posOn = true ∧ s.dev.pos.active = 1 ∧ s.dev.pos.crossed = true ∧
      s.dev.anyHeld = false ∧ s.dev.pos.reverse = false ∧ s.dev.pos.revert = true ∧ s.dev.encUsable 0 = true ∧ 0 < s.dev.enc.length ∧ s.Ready .host 2) := by decide +kernel
end

/-! ### The line scheduler and the stop sequence (file 07) -/

section

def fireUp (l : List (Field × Nat × Nat)) (f : Dev → Dev) : State := let s := regs0 ([(F.POS_CTRL_ENABLE,1,0),(F.FIRE_CTRL_ENABLE,1,0)] ++ l) up; {s with dev := f s.dev}
def spoutLine : SpoutLine := { bar := 0, line := 7, job := 0, mode := 0, levels := [], causes := [] }
def fireJob : Job := {st := .running, p0 := 0, ctx := {barMask := 1, lineCount := 100, printCount := 1, width := 64}, bars := List.replicate 8 {stored := [0]}}
def ticked := fireUp [] (fun d =>
  { d with
    raw := 1000, pins := { d.pins with ilkHead := false }, flt := { d.flt with released := true },
    hmap := setAt (setAt d.hmap 0 (fun _ => {valid := true, port := 3})) 1 (fun _ => {valid := true, port := 5}), spouts := [spoutLine], jobs := [(0,fireJob)],
    ports := d.ports.map (fun q => {q with st := .up, authOk := true}),
    pos := {d.pos with bars := setAt d.pos.bars 0 (fun b => {b with hwm := some 7, ticks := [⟨7,1900⟩,⟨8,2000⟩]})} })
def armedBar : State := {ticked with dev := {ticked.dev with pos := {ticked.dev.pos with speed := 1000000}}}
theorem test_lineCommit : dc (.lineCommit 0) armedBar (fun d => d.get F.FIRE_B_FIRED 0 = 7 && ((d.posBar 0).ticks.map (·.line)) = [8] && (d.port 3).recs.length = 1 && (d.port 5).recs.length = 1 && d.get F.FIRE_B_CNT_DROPPED 0 = 0) = true := by decide +kernel
theorem test_lineCommit_again : dc (.lineCommit 0) {armedBar with dev := armedBar.dev.set F.FIRE_CTRL_ENABLE 0} (fun d => d.get F.FIRE_B_CNT_DROPPED 0 = 1 && ((d.posBar 0).ticks.map (·.line)) = [8]) = true := by decide +kernel
def tickling : State := {armedBar with dev := {(armedBar.dev.setBar2 (0x810000+28) (1000*65536)).set F.FIRE_B_IDLE_TICKLE_EN 1 with spouts := [], jobs := []}}
theorem test_tickleCommit : dc (.tickleCommit 0) tickling (fun d => (d.port 3).recs.length = 1 && (d.port 5).recs.length = 1 && ((d.port 3).recs.all (fun r => r.tickle && r.fireTime = tickling.dev.T))) = true := by decide +kernel
theorem test_fireStopCmd : dc (.fireStopCmd .host) armedBar (fun d => d.fire.stop.st = .holding ∧ d.fire.stop.host = true ∧ d.drvHold = true ∧ (d.get F.FIRE_IRQ_STAT).testBit 0 = true) = true := by decide +kernel
theorem test_stopTimeout : dc .stopTimeout {armedBar with dev := {armedBar.dev with raw := 20000000000, fire := {armedBar.dev.fire with stop := {armedBar.dev.fire.stop with st := .holding}}}} (fun d => d.fire.stop.st = .waiting ∧ d.allHeld = true ∧ has d.flt.status (fkey 155 0) = true) = true := by decide +kernel
theorem test_ilkHeadInput : dc (.ilkHeadInput true) armedBar (fun d => d.pins = { armedBar.dev.pins with ilkHead := true } ∧ d.gateOpen = false ∧ has d.flt.status (fkey 56 0) = true) = true := by decide +kernel
theorem test_drvReadyInput : dc (.drvReadyInput false) armedBar (fun d => has d.flt.status (fkey 58 0) = true) = true := by decide +kernel
def waiting : State := {armedBar with dev := {armedBar.dev with pins := {armedBar.dev.pins with drvReady := true}, fire := {armedBar.dev.fire with stop := {armedBar.dev.fire.stop with st := .waiting, host := true, resumeH := true}}}}
theorem test_stopResume : dc .stopResume waiting (fun d => d.fire.stop.st = .resuming) = true := by decide +kernel
theorem test_stopResume_again : dc .stopResume {waiting with dev := {waiting.dev with jobs := []}} (fun d => (d.get F.FIRE_IRQ_STAT).testBit 2 = true) = true := by decide +kernel
theorem witness_LinesAndTicklesCommit : (up.dev.posBar 7).ticks = [] ∧
    (∀ s ∈ [armedBar, { armedBar with dev := armedBar.dev.set F.FIRE_CTRL_ENABLE 0 }], (s.dev.posBar 0).ticks = ⟨7, 1900⟩ :: [⟨8, 2000⟩] ∧
      (s.dev.fireLine 0 7).any (fun x => s.dev.firstFire x 0 1900 - s.dev.get F.FIRE_COMMIT_NS ≤ s.dev.T && needBar x.heads ≤ s.dev.firstFire x 0 1900 - s.dev.T && x.levels = [] && x.causes = []) = true) ∧
    armedBar.dev.gateOpen = true ∧ (armedBar.dev.set F.FIRE_CTRL_ENABLE 0).gateOpen = false ∧ (armedBar.dev.fireBar 0).tauLast = none ∧
    armedBar.dev.ecc.sram = [] ∧ armedBar.dev.get F.ECC_FLIP_CTRL_ARMED = 0 ∧ armedBar.dev.fire.stop.st = .run ∧ armedBar.dev.belowMin = false ∧
    (∀ e ∈ armedBar.dev.heads 0, armedBar.dev.receives e.2.port = true ∧ e.2.port < armedBar.dev.ports.length) ∧ ((armedBar.dev.heads 0).map (fun e => e.2.port)).Nodup ∧
    (∀ s ∈ [({ armedBar with dev := { armedBar.dev with pos := { armedBar.dev.pos with bars := armedBar.dev.pos.bars.map (fun b => { b with ticks := [⟨7, 900000⟩] }) } } } : State)],
      (s.dev.fireLine 0 7).any (fun x => s.dev.T < s.dev.firstFire x 0 900000 - s.dev.get F.FIRE_COMMIT_NS) = true) ∧
    (∀ s ∈ [({ armedBar with dev := { armedBar.dev with spouts := [] } } : State)], s.dev.fireLine 0 7 = none ∧
      (s.dev.jobAtLine 0 7).any (fun e => s.dev.firstFire { ctx := e.2.ctx, rate := e.2.geo.rateMax, heads := (e.2.bar 0).heads, job := some e.1, run := true, levels := [], causes := [], blank := false, raster := true }
        0 1900 - s.dev.get F.FIRE_COMMIT_NS ≤ s.dev.T) = true) ∧
    (∀ s ∈ [({ armedBar with dev := { armedBar.dev with spouts := [], jobs := [] } } : State)], s.dev.fireLine 0 7 = none ∧ s.dev.jobAtLine 0 7 = none ∧ (1900 : Int) - s.dev.get F.FIRE_COMMIT_NS ≤ s.dev.T) ∧
    up.dev.tickles 7 = false ∧ tickling.dev.tickles 0 = true ∧ tickling.dev.tickleDue 0 ≤ tickling.dev.raw ∧ ((tickling.dev.heads 0).map (fun e => e.2.port)).Nodup := by decide +kernel
def stops (st : StopState) (f : StopSt → StopSt) : State := { armedBar with dev := { armedBar.dev with fire := { armedBar.dev.fire with stop := f { armedBar.dev.fire.stop with st := st } } } }
theorem witness_StopSequenceRuns : (stops .run id).Ready .host 1 ∧ (stops .run id).dev.fire.stop.st = .run ∧ (stops .resuming id).dev.fire.stop.st ≠ .run ∧
    (∀ s ∈ [({ (stops .holding (fun t => { t with dist := 5, slowSince := some 0 })) with dev := { (stops .holding (fun t => { t with dist := 5, slowSince := some 0 })).dev with
        raw := 10000000, pos := { armedBar.dev.pos with bars := armedBar.dev.pos.bars.map (fun (b : PosBar) => { b with held := some 3 }) } } } : State)],
      s.dev.fire.stop.st = .holding ∧ s.dev.allHeld = true ∧ s.dev.fire.stop.dist ≠ 0 ∧ s.dev.fire.stop.slowSince = some 0 ∧ 0 + 10000000 ≤ s.dev.raw) ∧
    (∀ st ∈ [StopState.holding, .reversing], ∀ ms ∈ [0, 1000], (stops st (fun t => { t with tmoMs := ms })).dev.fire.stop.st = st ∧ (stops st (fun t => { t with tmoMs := ms })).dev.fire.stop.tmoMs = ms) ∧
    (stops .holding (fun t => { t with since := 0, tmoMs := 0 })).dev.fire.stop.since + 0 * 1000000 ≤ armedBar.dev.raw ∧ 8 ≤ armedBar.dev.pos.bars.length ∧
    (stops .waiting (fun t => { t with host := true })).dev.resumable = false ∧ waiting.dev.fire.stop.st = .waiting ∧ waiting.dev.resumable = true ∧
    (∃ e ∈ waiting.dev.running, ∃ b < 8, e.2.hasBar b = true) ∧ ({ waiting.dev with jobs := [] } : Dev).running = [] ∧ ({ waiting.dev with jobs := [] } : Dev).resumable = true := by decide +kernel
theorem witness_FireInputsActs : armedBar.dev.pwr.st = .on ∧ armedBar.dev.fire.stop.st = .run ∧ armedBar.dev.running ≠ [] ∧ up.Ready .host 0 ∧
    (∀ rate ∈ [1, 25000, 1000000], ∀ s ∈ [({ armedBar with dev := { armedBar.dev with jobs := [(0, { fireJob with geo := { fireJob.geo with rateMax := rate } })], pos := { armedBar.dev.pos with speed := 1000000 } } } : State)],
      ∀ w ∈ [s.dev.get F.FIRE_RATE_CFG_WARN_PCT], s.dev.running ≠ [] ∧ ∀ e ∈ s.dev.running, ∀ f ∈ [s.dev.pos.speed.natAbs * e.2.ctx.lpi * 100],
        (rate = 1 → w * e.2.geo.rateMax * 25400 ≤ f) ∧ (rate = 25000 → f < w * e.2.geo.rateMax * 25400 ∧ (w - 2) * e.2.geo.rateMax * 25400 ≤ f) ∧
        (rate = 1000000 → f < (w - 2) * e.2.geo.rateMax * 25400)) := by decide +kernel
end

/-! ### Head links (file 08) -/

section Links

/-- The part with port 191 changed. -/
def port (l : List (Field × Nat × Nat)) (f : HlkPort → HlkPort) : State := r l (fun d => d.modPort 191 f)
def rec0 : Rec := { seq := 4, tickle := false, bar := 7, job := none, line := 9, fireTime := 5000, need := 3000, words := [1, 2, 3, 4, 5, 6] }
def portUp (f : HlkPort → HlkPort) : State := port [(F.HLK_CTRL_ENABLE, 1, 191)] (fun q => f { q with st := .up, authOk := true, bcLock := true, tx := { q.tx with mode := .on } })
def cmd0 : MemCmd := { op := 1, count := 4, addr := 16, data := [], auto := false, txn := 7, sentAt := 0 }

theorem test_portEnable_primes : dc (.portEnable .host 191 1) (r [] shut) (fun d => d.get F.HLK_CTRL_ENABLE 191 = 1 && (d.port 191).st = .priming && (d.port 190).st = .disabled) = true := by decide +kernel
theorem test_primingDone : dc (.primingDone 191) (port [] (fun q => { q with st := .priming })) (fun d => (d.port 191).st = .aligning && (d.port 191).since = 1000) = true := by decide +kernel
theorem test_markerSend_wraps : dc (.markerSend 191) (port [] (fun q => { q with st := .up, mFwd := 63, tx := { q.tx with mode := .on, words := 1024 } })) (fun d => (d.port 191).mFwd = 0 && has (d.outbox.map (fun o => if o = .marker 191 0 then 1 else 0)) 1) = true := by decide +kernel
theorem test_backMarkerReceive_locks : dc (.backMarkerReceive 191 0) (port [] (fun q => { q with st := .aligning, mBack := some 63 })) (fun d => (d.port 191).bcLock) = true := by decide +kernel
theorem test_markerMissing : dc (.markerMissing 191) (portUp id) (fun d => !(d.port 191).bcLock && d.get F.HLK_ERR2_RESYNC 191 = 1) = true := by decide +kernel
theorem test_backChannelTimeout : dc (.backChannelTimeout 191) (let s := portUp id; { s with dev := { s.dev with raw := 20000000 } }) (fun d => (d.port 191).st ≠ .up && has d.flt.status (fkey 164 191)) = true := by decide +kernel
theorem test_cal : dc (.cal 191) (let s := portUp (fun q => { q with calOn := true, calId := 65535 }); { s with dev := { s.dev with raw := 20000 } }) (fun d => (d.port 191).calId = 0 && (d.port 191).calOut.isSome && d.outbox = [.lane 191 6 [0]]) = true := by decide +kernel
theorem test_calStart : dc (.calStart .host 191 0x00FF8002) (portUp id) (fun d => d.get F.HLK_CAL_SAMPLES 191 = 4 && d.get F.HLK_CAL_PERIOD_MS 191 = 255 && (d.port 191).calOn) = true := by decide +kernel
theorem test_fire_sends : dc (.fire 191) (portUp (fun q => { q with recs := [rec0] })) (fun d => (d.port 191).recs.map (fun x => (x.sent, x.sentAt)) = [(1, 1000)] && d.outbox = [.lane 191 1 rec0.words]) = true := by decide +kernel
theorem test_confirm_acks : dc (.confirm 191 0x04800000) (portUp (fun q => { q with recs := [{ rec0 with sent := 1 }] })) (fun d => (d.port 191).recs.map (·.acked) = [true]) = true := by decide +kernel
theorem test_confirm_counts : dc (.confirm 191 0x00000480) (portUp (fun q => { q with recs := [{ rec0 with sent := 1 }] })) (fun d => (d.port 191).recs = [] && d.get F.HLK_CONF 191 = 1) = true := by decide +kernel
theorem test_alert : dc (.alert 191 0x5A) (portUp id) (fun d => d.get F.HLK_ALERT_CODE 191 = 0x5A && d.get F.HLK_ALERT_COUNT 191 = 1 && has d.flt.status (fkey 183 191)) = true := by decide +kernel
theorem test_hlkMemRead_down : dc (.hlkMemRead .cellar 191) up (fun d => d.get F.HLK_MEM_CMD_DONE 191 = 1 && d.get F.HLK_MEM_CMD_STATUS 191 = 6) = true := by decide +kernel
theorem test_memTimeout : dc (.memTimeout 191) (let s := portUp (fun q => { q with memNow := some cmd0 }); { s with dev := { s.dev with raw := 1000000 } }) (fun d => d.get F.HLK_MEM_CMD_STATUS 191 = 5 && (d.port 191).memNow = none) = true := by decide +kernel
theorem test_headKeyCommit : dca (.headKeyCommit .host 8) up .host 0x10000FC (fun d => d.mram.keyM = some (List.replicate 28 0 ++ [8, 0, 0, 0])) = true := by decide +kernel
theorem test_berSecond : dc (.berSecond 191) (port [(F.HLK_ERR_LIMIT, 10, 191)] (fun q => { q with errs := 11 })) (fun d => has d.flt.status (fkey 184 191)) = true := by decide +kernel
theorem test_laneIdleEnter : dc (.laneIdleEnter 191) (let s := portUp id; { s with dev := s.dev.set F.HLK_CTRL_IDLE_EN 1 191 }) (fun d => (d.port 191).st = .idle && (d.port 191).tx.mode = .off && .lane 191 7 [2] ∈ d.outbox && .laneIdle 191 ∈ d.outbox) = true := by decide +kernel

theorem witness_PortsPrimeAndAlign : up.dev.pwr.st = .on ∧ (∀ k < 24, up.dev.get F.HLK_CTRL_ENABLE (24 * 7 + k) = 0) ∧
    (r [(F.HLK_GROUP_RATE, 3, 168)] id).dev.get F.HLK_GROUP_RATE (24 * 7) ≠ (up.dev.groups.getD 7 {}).rate ∧ (portUp id).dev.get F.HLK_CTRL_ENABLE (24 * 7 + 23) ≠ 0 ∧
    192 ≤ up.dev.ports.length ∧ (r [] (fun d => { d with groups := d.groups.map (fun g => { g with relockAt := some 5 }) })).dev.groups.getD 7 {} ≠ {} ∧
    ((r [] (fun d => { d with groups := d.groups.map (fun g => { g with relockAt := some 5 }) })).dev.groups.getD 7 {}).relockAt ≠ none ∧
    (r [] shut).PagesOpen ∧ (r [] shut).Quiet ∧ (r [] shut).dev.rights .host < 3 ∧ (1 : Word).toNat.testBit 0 = true ∧ (0 : Word).toNat.testBit 0 = false ∧
    up.dev.get F.HLK_CTRL_ENABLE 191 = 0 ∧ (up.dev.port 191).st = .disabled ∧ up.dev.fenced (.port 191) = false ∧ (up.dev.groups.getD (191 / 24) {}).relockAt = none ∧
    191 < up.dev.ports.length ∧ (portUp id).dev.get F.HLK_CTRL_ENABLE 191 ≠ 0 ∧ ((portUp id).dev.port 191).onLane = true ∧ (up.dev.port 191).onLane = false ∧
    ((port [] (fun q => { q with st := .idle, retryAt := some 5 })).dev.port 191).retryAt ≠ none ∧
    (∀ t ∈ [999, 1000, 1001], ∀ q ∈ [(port [(F.HLK_CTRL_ENABLE, 1, 191)] (fun q => { q with st := .aligning, retryAt := some t })).dev.port 191], q.st = .aligning ∧ q.retryAt = some t) ∧
    (∀ raw ∈ [9999999, 10000000], ∀ b ∈ [true, false], ∀ s ∈ [r [] (fun d => ({ d with raw := raw } : Dev).modPort 191 (fun q => { q with st := .aligning, since := 0, noHead := b }))],
      (s.dev.port 191).retryAt = none ∧ (s.dev.port 191).noHead = b ∧ ((raw = 9999999 → s.dev.raw < (s.dev.port 191).since + 10000000) ∧
        (raw = 10000000 → (s.dev.port 191).since + 10000000 ≤ s.dev.raw))) := by and_intros <;> decide +kernel
theorem witness_LinksAreCalibrated : (up.dev.port 191).calOn = false ∧ 191 < up.dev.ports.length ∧ up.dev.pairOf 191 = none ∧
    (∀ st ∈ [LinkState.up, .calibrating], ∀ s ∈ [r [] (fun d => ({ d with raw := 20000 } : Dev).modPort 191 (fun q => { q with st := st, bcLock := true, calOn := true, recs := [{ rec0 with sent := 1 }] }))],
      (s.dev.port 191).st = st ∧ (s.dev.port 191).calOut = none ∧ (s.dev.port 191).calAt + 20000 ≤ s.dev.raw ∧ (∀ x ∈ (s.dev.port 191).recs, x.sent ≠ 0 ∧ x.again = false)) ∧
    (∀ got ∈ [([] : List Int), [40, 41, 42]], ∀ s ∈ [port [(F.HLK_CAL_SAMPLES, 4, 191)] (fun q => { q with st := .calibrating, bcLock := true, calOn := true, calOut := some (9, 5), calGot := got })],
      (s.dev.port 191).calOut = some (9, 5) ∧ s.dev.get F.HLK_CAL_SAMPLES 191 = 4 ∧ (s.dev.port 191).calGot = got) ∧
    ([] ++ [((50 : Nat) : Int) - (5 : Nat) - (1 : Word).toNat]).length < 4 ∧ 4 ≤ ([40, 41, 42] ++ [((50 : Nat) : Int) - (5 : Nat) - (1 : Word).toNat]).length ∧
    (∀ raw ∈ [999999, 1000000], ∀ s ∈ [r [] (fun d => ({ d with raw := raw } : Dev).modPort 191 (fun q => { q with st := .up, calOut := some (9, 5), calAt := 0 }))],
      (s.dev.port 191).calOut ≠ none ∧ (raw = 999999 → s.dev.raw < (s.dev.port 191).calAt + 1000000) ∧ (raw = 1000000 → (s.dev.port 191).calAt + 1000000 ≤ s.dev.raw)) ∧
    (∀ s ∈ [r [(F.HLK_CAL_PERIOD_MS, 1, 191)] (fun d => ({ d with raw := 1000000 } : Dev).modPort 191 (fun q => { q with st := .up }))], s.dev.get F.HLK_CAL_PERIOD_MS 191 ≠ 0 ∧
      (s.dev.port 191).calAt + 1 * 1000000 ≤ s.dev.raw ∧ (s.dev.port 191).calOn = false) ∧ up.Ready .host 0 ∧ (0x8000 : Word).toNat.testBit 15 = true := by decide +kernel
theorem witness_HeadsAreProvedAndReached : up.Ready .host 3 ∧ 191 < up.dev.ports.length ∧ up.dev.oddPort 191 = false ∧
    ((port [] (fun q => { q with st := .authFailed })).dev.port 191).st = .authFailed ∧ (up.dev.port 191).st ≠ .authFailed ∧ (up.dev.port 191).st ≠ .up ∧ (up.dev.port 191).st ≠ .idle ∧
    (up.dev.port 191).stage = 0 ∧
    (∀ s ∈ [r [(F.HLK_CTRL_REQUIRE_AUTH, 1, 191)] (fun d => ({ d with raw := 2000000 } : Dev).modPort 191 (fun q => { q with stage := 1, authAt := 0 }))], (s.dev.port 191).stage ≠ 0 ∧
      (s.dev.port 191).authAt + 2000000 ≤ s.dev.raw ∧ s.dev.get F.HLK_CTRL_REQUIRE_AUTH 191 ≠ 0) ∧
    (∀ s ∈ [portUp (fun q => { q with ctrTx := 0xFFFEFFFF })], (s.dev.port 191).st = .up ∧ (s.dev.port 191).memNow = none ∧ (s.dev.port 191).memQ = [] ∧ (s.dev.port 191).stage = 0 ∧
      (∀ x ∈ (s.dev.port 191).recs, x.sent ≠ 0 ∧ x.again = false) ∧ (s.dev.port 191).ctrTx < 0xFFFF0000) ∧
    (∀ raw ∈ [999999, 1000000], ∀ s ∈ [r [] (fun d => ({ d with raw := raw } : Dev).modPort 191 (fun q => { q with st := .up, bcLock := true, memNow := some cmd0 }))],
      (s.dev.port 191).memNow = some cmd0 ∧ cmd0.auto = false ∧ (s.dev.port 191).memQ = [] ∧ (s.dev.port 191).linked = true ∧ (s.dev.port 191).bcLock = true ∧
      (raw = 999999 → s.dev.raw < cmd0.sentAt + 1000000) ∧ (raw = 1000000 → cmd0.sentAt + 1000000 ≤ s.dev.raw)) ∧
    (∀ w ∈ [0x15070000], bits w 28 4 = cmd0.op ∧ bits w 16 8 = cmd0.txn ∧ bits w 24 4 = 5) ∧
    (∀ raw ∈ [59999999999, 60000000000], ∀ s ∈ [r [] (fun d => ({ d with raw := raw } : Dev).modPort 191 (fun q => { q with st := .up, session := some [1] }))],
      (raw = 59999999999 → s.dev.raw < (s.dev.port 191).useAt + 60000000000) ∧ (raw = 60000000000 → (s.dev.port 191).useAt + 60000000000 ≤ s.dev.raw ∧ (s.dev.port 191).session ≠ none ∧
        (s.dev.port 191).memNow = none ∧ (∀ m ∈ (s.dev.port 191).memQ, m.auto = false))) := by decide +kernel
theorem witness_HeadRecordsGoBothWays : 191 < up.dev.ports.length ∧ up.dev.receives 191 = false ∧
    (∀ t ∈ [true, false], ∀ s ∈ [portUp (fun q => { q with recs := [{ rec0 with tickle := t }] })], s.dev.receives 191 = true ∧ s.dev.underWay 191 = false ∧
      (∀ x ∈ (s.dev.port 191).recs, x.again = false) ∧ (s.dev.port 191).recs.find? (fun x => x.sent = 0) = some { rec0 with tickle := t } ∧
      ((s.dev.port 191).recs.filter (fun x => 0 < x.sent)).length < 8) ∧ (up.dev.port 191).bcLock = false ∧
    (∀ s ∈ [portUp (fun q => { q with recs := [{ rec0 with sent := 1 }] })], (s.dev.port 191).linked = true ∧ (s.dev.port 191).bcLock = true ∧
      (s.dev.port 191).recs.findIdx? (fun x => x.seq = 0x04800000 / 16777216 && 0 < x.sent) = some 0 ∧
      (s.dev.port 191).recs.findIdx? (fun x => x.seq = 0x480 / 256 % 256 && 0 < x.sent) = some 0) ∧
    ((0x04800000 : Word).toNat.testBit 23 = true ∧ (0x04800000 : Word).toNat.testBit 22 = false ∧ (0x04800000 : Word).toNat.testBit 7 = false) ∧
    ((0x480 : Word).toNat.testBit 23 = false ∧ (0x480 : Word).toNat.testBit 22 = false ∧ (0x480 : Word).toNat.testBit 7 = true ∧ (0x480 : Word).toNat % 8 = 0) ∧
    (∀ s ∈ [r [] (fun d => ({ d with raw := 10000000 } : Dev).modPort 191 (fun q => { q with st := .up, recs := [{ rec0 with sent := 1, fireTime := 10 ^ 12 }] }))],
      (∃ x ∈ (s.dev.port 191).recs, 0 < x.sent ∧ x.acked = false ∧ x.again = false ∧
        x.sentAt + s.dev.wordsNs 191 (x.words.length + 2) + s.dev.get F.HLK_RETRY_ACK_TMO_NS 191 ≤ s.dev.raw) ∧
      (∀ x ∈ (s.dev.port 191).recs, 0 < x.sent → x.acked = false → s.dev.resendable 191 x = true)) ∧
    (∀ g ∈ [true, false], ∀ s ∈ [r [] (fun d => ({ d with hmap := setAt d.hmap 191 (fun _ => { valid := true, port := 191 }) } : Dev).modPort 191 (fun q =>
        { q with st := .up, bcLock := true, gainSet := g }))],
      s.dev.portHome 191 = some (7, 23) ∧ (s.dev.port 191).linked = true ∧ (s.dev.port 191).gainSet = g) ∧ (0x12348000 : Word).toNat.testBit 15 = true ∧
    (∀ raw ∈ [99999999, 100000000], ∀ s ∈ [r [] (fun d => ({ d with raw := raw, hmap := setAt d.hmap 191 (fun _ => { valid := true, port := 191 }) } : Dev).modPort 191 (fun q => { q with st := .up }))],
      s.dev.portHome 191 = some (7, 23) ∧ (s.dev.port 191).staleRep = false ∧ ∀ t ∈ [Nat.max (s.dev.port 191).since ((s.dev.port 191).tempAt.getD 0) + 100000000],
        (raw = 99999999 → s.dev.raw < t) ∧ (raw = 100000000 → t ≤ s.dev.raw)) ∧
    (∀ s ∈ [let s := portUp id; { s with dev := s.dev.set F.HLK_CTRL_IDLE_EN 1 191 }], s.dev.get F.HLK_CTRL_IDLE_EN 191 ≠ 0 ∧ (s.dev.port 191).recs = [] ∧ (s.dev.port 191).memQ = [] ∧
      (s.dev.port 191).memNow = none ∧ (s.dev.port 191).calOn = false ∧ (s.dev.port 191).stage = 0 ∧ (∀ e ∈ s.dev.jobs, e.2.st ≠ .armed ∧ e.2.st ≠ .running) ∧
      (∀ b < 8, s.dev.tickles b = false)) ∧
    (∀ s ∈ [r [] (fun d => (({ d with hmap := setAt d.hmap 191 (fun _ => { valid := true, port := 191 }) } : Dev).setJob 0 { st := .armed, ctx := { barMask := 128 } }).modPort 191
        (fun q => { q with st := .idle }))], (s.dev.port 191).st = .idle ∧ (s.dev.port 191).retryAt = none ∧ s.dev.barHas 191 (fun s => s = .armed || s = .running) = true) := by and_intros <;> decide +kernel

end Links

/-! ### DRAM and stored data (files 09 and 10) -/

section

theorem test_ddrEnable : dc (.ddrEnable .host []) up (fun d => d.get F.DDR_CTRL_ENABLE = 1 ∧ d.get F.DDR_STAT_STATE = 4 ∧ d.get F.DDR_STAT_CAP_MIB = 0 ∧
        has d.flt.status (fkey 190 0) = true && (List.range 4).all (fun c => d.get F.DDR_C_STAT_STATE c = 1)) = true := by decide +kernel
def spd0 : List Nat := (List.range 1024).map (fun k => match k with | 2 => 0x12 | 3 => 1 | 4 => 4 | 6 => 32 | 234 => 0 | 235 => 0x10 | _ => 0)
def spd : List Byte := let c := spdCrc (spd0.take 510); ((spd0.take 510) ++ [c % 256, c/256] ++ spd0.drop 512).map (BitVec.ofNat 8)
theorem test_ddrEnable_again : dc (.ddrEnable .host [some spd, some spd, some spd, some spd]) up (fun d => d.get F.DDR_CTRL_ENABLE = 1 ∧ d.get F.DDR_STAT_STATE = 1 && (List.range 4).all (fun c => d.get F.DDR_C_STAT_STATE c = 3)) = true := by decide +kernel
def training := r [(F.DDR_STAT_STATE,1,0),(F.DDR_C_STAT_STATE,4,0),(F.DDR_C_STAT_STATE,3,1),(F.DDR_CTRL_ENABLE,1,0)] (fun d => {d with ddr := {d.ddr with mask := 3}})
theorem test_channelTrainDone : dc (.channelTrainDone 1 true) training (fun d => d.get F.DDR_STAT_STATE = 2) = true := by decide +kernel
theorem test_channelTrainDone_again : dc (.channelTrainDone 1 false) training (fun d => d.get F.DDR_C_STAT_STATE 1 = 6 ∧ has d.flt.status (fkey (192) 0) = true) = true := by decide +kernel
theorem test_fenceCh : dca (.fenceCh .host 0) training .host 0x71058 (fun d => d.get F.DDR_C_STAT_STATE 0 = 6) = true := by decide +kernel
theorem test_ddrRateGo : dca (.ddrRateGo .host 0x80000003) training .host 0x70044 (fun d => d.ddr.rateBusy = true ∧ d.get F.DDR_RATE_DONE = 0 ∧ d.ddr.rate = 3) = true := by decide +kernel
def rateChanging := {training with dev := ({training.dev with ddr := {training.dev.ddr with rateBusy := true}} : Dev).set F.DDR_C_STAT_STATE 4 1}
theorem test_ddrRateDone : dc (.ddrRateDone 15) rateChanging (fun d => d.ddr.rateBusy = false ∧ d.get F.DDR_RATE_CODE = 0 ∧ d.get F.DDR_RATE_DONE = 1) = true := by decide +kernel
theorem test_ddrRateDone_again : dc (.ddrRateDone 1) rateChanging (fun d => d.get F.DDR_RATE_CODE = 2 ∧ d.get F.DDR_C_STAT_STATE 1 = 6 && has d.flt.status (fkey 192 0)) = true := by decide +kernel
def dramUp := r [(F.ECC_STAT_DRAM_DONE,1,0),(F.DDR_STAT_CAP_MIB,100,0),(F.DDR_C_STAT_STATE,4,0)] (fun d => {d with ddr := {d.ddr with mask := 1}})
theorem test_dramWriteAccept : dc (.dramWriteAccept 18 0xDEADBEEF) dramUp (fun d => d.rawWord 16 = 0xDEADBEEF && d.synd 16 = 0) = true := by decide +kernel
def dramHeld : State := match exec (.dramWriteAccept 18 0xDEADBEEF) dramUp with | .next t => t | _ => dramUp
theorem test_dramReadComplete : dc (.dramReadComplete 16 0 0) dramHeld (fun d => d.outbox = dramHeld.dev.outbox ++ [.dram 16 0xDEADBEEF]) = true := by decide +kernel
theorem test_scrubGo : dc (.scrubGo .host 0x80000000) up (fun d => d.get F.ECC_STAT_SCRUB_BUSY = 0 ∧ d.get F.ECC_SCRUB_SUM_VALID = 1) = true := by decide +kernel
theorem test_flipArm : dca (.flipArm .host 0x80005501) up .host 0x80084 (fun d => d.get F.ECC_FLIP_CTRL_ARMED = 1 ∧ d.get F.ECC_FLIP_CTRL_CHK = 0x55) = true := by decide +kernel
theorem test_retrainStart : dc (.retrainStart .host 0x00230501) training (fun d => has d.ddr.queue 0 = true ∧ (d.chan 0).stepsLeft = 3 && d.get F.DDR_TRAIN_PERIOD_MS = 0x23 && d.get F.DDR_TRAIN_MARGIN_MIN = 5) = true := by decide +kernel
theorem test_ddrCountClear : dg (.ddrCountClear .host 1) up (((((up.dev.set F.DDR_C_CNT_RETRAINS 0 1).set F.DDR_C_CNT_CONVERTED 0 1).set
      F.DDR_C_CNT2_ALERTS 0 1).set F.DDR_C_CNT2_FENCED_RD 0 1)) = true := by decide +kernel
theorem test_ddrAlertInput : dc (.ddrAlertInput 0) {training with dev := training.dev.modChan 0 (fun x => {x with alerts := [900,950]})} (fun d => d.get F.DDR_C_STAT_STATE 0 = 6 && has d.flt.status (fkey 207 0)) = true := by decide +kernel
theorem test_eccChannelCntClear : dg (.eccChannelCntClear .host 2) up ((((up.dev.set F.ECC_C_CE 0 2).set F.ECC_C_UE_UE 0 2).set F.ECC_C_UE_POISON_RD 0 2).set F.ECC_C_CNT_EVICT 0 2) = true := by decide +kernel
theorem test_eccSramCntClear : dg (.eccSramCntClear .host) up (((up.dev.set F.ECC_SRAM_CNT_CE 0).set F.ECC_SRAM_CNT_UE 0)) = true := by decide +kernel
theorem witness_DdrChannelsTrain : up.Ready .host 2 ∧ up.dev.get F.DDR_CTRL_ENABLE = 0 ∧ training.dev.get F.DDR_CTRL_ENABLE ≠ 0 ∧ up.dev.get F.DDR_MAP_CH_MASK % 16 ≠ 0 ∧
    (∀ c < 4, up.dev.get F.DDR_C_CFG_SOLDERED c = 0 ∧ (parseSpd (spd.map (fun x => x.toNat)) true).isSome = true) ∧ (∀ e ∈ training.dev.jobs, e.2.st = .free) ∧
    (∃ e ∈ (r [] (fun d => d.setJob 511 { st := .opened })).dev.jobs, e.2.st ≠ .free) ∧ training.dev.get F.DDR_C_STAT_STATE 3 ≠ 3 ∧ training.dev.get F.DDR_C_STAT_STATE 1 = 3 ∧
    training.dev.get F.DDR_STAT_STATE = 1 ∧ (∀ k ∈ training.dev.mapChans, k ≠ 1 → training.dev.get F.DDR_C_STAT_STATE k = 4) ∧
    (r [(F.DDR_STAT_STATE, 2, 0)] id).dev.get F.DDR_STAT_STATE = 2 ∧ up.dev.get F.ECC_STAT_DRAM_DONE = 0 ∧ up.dev.get F.DDR_STAT_STATE ≠ 2 ∧
    (0x80000003 : Word).toNat.testBit 31 = true ∧ training.dev.ddr.rateBusy = false ∧ training.dev.anyArmed = false ∧ (r [] (fun d => d.setJob 511 { st := .armed })).dev.anyArmed = true ∧
    rateChanging.dev.ddr.rateBusy = true ∧ rateChanging.dev.get F.DDR_C_STAT_STATE 1 = 4 ∧ (1 : BitVec 4).toNat.testBit 1 = false := by and_intros <;> decide +kernel
/-- Channel 3 in a state, with its data changed. -/
def chan3 (st : Nat) (l : List (Field × Nat × Nat)) (f : DdrCh → DdrCh) : State :=
  r ([(F.DDR_C_STAT_STATE, st, 3)] ++ l) (fun d => ({ d with raw := 30000, ddr := { d.ddr with queue := [3] } } : Dev).modChan 3 f)
theorem witness_DdrChannelsAreKept : 3 < up.dev.ddr.chans.length ∧ (1 : Nat) < (up.dev.chan 3).debt.length ∧ (chan3 4 [] id).Ready .host 0 ∧
    (∀ st ∈ [0, 3, 4, 5, 6], (chan3 st [] id).dev.get F.DDR_C_STAT_STATE 3 = st ∧ (chan3 st [] id).dev.get F.DDR_C_CFG_SOLDERED 3 = 0) ∧
    (r [(F.DDR_TRAIN_PERIOD_MS, 0, 0)] id).dev.get F.DDR_TRAIN_PERIOD_MS = 0 ∧ (r [(F.DDR_TRAIN_PERIOD_MS, 10, 0)] id).dev.get F.DDR_TRAIN_PERIOD_MS ≠ 0 ∧
    up.dev.get F.SYS_STAT_PHASE ≠ 7 ∧ has up.dev.ddr.queue 3 = false ∧ (1 : Word).toNat.testBit 0 = true ∧
    (∀ s ∈ [chan3 4 [] (fun x => { x with stepsLeft := 3 })], s.dev.ddr.atOnce = false ∧ s.dev.ddr.queue.head? = some 3 ∧ s.dev.ddr.pauseEnd + 20000 ≤ s.dev.raw ∧
      0 < (s.dev.chan 3).stepsLeft ∧ (s.dev.chan 3).busyUntil ≤ s.dev.raw ∧ s.dev.ddr.rateBusy = false) ∧ (up.dev.chan 3).stepsLeft = 0 ∧
    (∀ n ∈ [0, 1, 2], ∀ s ∈ [chan3 5 [] (fun x => { x with step := some n })], (s.dev.chan 3).step = some n ∧ s.dev.ddr.rateBusy = false) ∧
    (r [(F.DDR_TRAIN_MARGIN_MIN, 10, 0)] id).dev.get F.DDR_TRAIN_MARGIN_MIN ≤ (10 : Byte).toNat ∧
    (2 ≤ ((chan3 4 [] (fun x => { x with alerts := [29000, 29999] })).dev.chan 3).alerts.length) := by and_intros <;> decide +kernel
theorem witness_StoredDataIsKept : up.dev.get F.ECC_STAT_DRAM_DONE = 0 ∧ dramUp.dev.get F.ECC_STAT_DRAM_DONE ≠ 0 ∧ dramUp.dev.capBytes ≤ (0x1FFFFFFFFF : BitVec 37).toNat / 4 * 4 ∧
    (100 * 1048576 - 1) / 4 * 4 < dramUp.dev.capBytes ∧ dramUp.dev.onFenced 104857596 = false ∧ dramUp.dev.onDead 104857596 = false ∧ dramUp.dev.get F.ECC_FLIP_CTRL_ARMED = 0 ∧
    dramUp.dev.synd 104857596 = 0 ∧ (r [(F.ECC_STAT_DRAM_DONE, 1, 0), (F.DDR_STAT_CAP_MIB, 100, 0), (F.DDR_C_STAT_STATE, 6, 0)] (fun d => { d with ddr := { d.ddr with mask := 1 } })).dev.onFenced 16 = true ∧
    (up.dev.chan 3).mapped = (up.dev.chan 3).retired.length ∧
    (∀ s ∈ [r [] (fun d => d.modChan 3 (fun x => { x with retired := [7] }))], (s.dev.chan 3).mapped ≠ (s.dev.chan 3).retired.length ∧ s.audit.queue.length < 32 ∧
      s.dev.get F.NVM_STAT_SUSPENDED = 0 ∧ 3 < s.dev.ddr.chans.length ∧ 3 < s.dev.mram.spare.length) ∧
    up.Ready .host 2 ∧ (0x80000000 : Word).toNat.testBit 31 = true ∧ (0x40000000 : Word).toNat.testBit 30 = true ∧ up.dev.get F.ECC_STAT_SCRUB_BUSY = 0 ∧
    up.dev.get F.SYS_STAT_PHASE ≠ 7 ∧ up.dev.get F.ECC_SCRUB_LEN = 0 ∧ up.dev.check = [] ∧
    (∀ s ∈ [r [(F.ECC_STAT_DRAM_DONE, 1, 0), (F.DDR_STAT_CAP_MIB, 1024, 0), (F.ECC_SCRUB_LEN, 64, 0), (F.ECC_SCRUB_BASE, 1073741760, 0)] id], s.dev.get F.ECC_SCRUB_LEN % 64 = 0 ∧
      s.dev.get F.ECC_SCRUB_LEN ≠ 0 ∧ s.dev.get F.ECC_SCRUB_BASE % 64 = 0 ∧ s.dev.get F.ECC_SCRUB_BASE + s.dev.get F.ECC_SCRUB_LEN ≤ min 137438953472 (s.dev.capMib * 1048576)) ∧
    up.dev.ecc.scrub = none ∧ (r [] (fun d => { d with ecc := { d.ecc with scrub := some (0, 64) } })).dev.ecc.scrub = some (0, 64) := by and_intros <;> decide +kernel
end

/-! ### Cameras and the image pipeline (file 11) -/

section

theorem test_cameraEnable : dc (.cameraEnable .host 1 0x8CB61000) up (fun d => d.get F.CAM_P_LINK_ENABLE 1 = 1 ∧ d.get F.CAM_P_STAT_STATE 1 = 1 ∧ d.get F.CAM_P_FRAMENO 1 = 0 ∧ (d.camSt 1).frames = []) = true := by decide +kernel
def camOn : State := match exec (.cameraEnable .host 1 0x8CB61000) up with | .next t => t | _ => up
theorem test_cameraDisable : dc (.cameraDisable .host 1 0x0CB61000) (regs0 [(F.CAM_P_CTL_BUSY,1,1)] camOn) (fun d => d.get F.CAM_P_LINK_ENABLE 1 = 0 ∧ d.get F.CAM_P_STAT_STATE 1 = 0 ∧ d.get F.CAM_P_CTL_RESULT 1 = 3 ∧ d.get F.CAM_P_CTL_BUSY 1 = 0) = true := by decide +kernel
theorem test_cameraLock : dg (.cameraLock 1) camOn ((camOn.dev.set F.CAM_P_STAT_LOCK 15 1).set F.CAM_P_STAT_STATE 2 1) = true := by decide +kernel
def camRuns : State := match exec (.cameraLock 1) camOn with | .next t => {t with dev := t.dev.modCam 1 (fun c => {c with frames := [{no := 0, first := 0, lines := 4096}], falls := [500, 2000]})} | _ => up
theorem test_cameraLinkLoss : dc (.cameraLinkLoss 1 2) camRuns (fun d => d.get F.CAM_P_STAT_STATE 1 ≤ 1 ∧ (d.camSt 1).current = none && (d.get F.CAM_IRQ_STAT).testBit 1 && has d.flt.status (fkey 254 0)) = true := by decide +kernel
theorem test_imageHeader : dc (.imageHeader 1 0 6 4096) camRuns (fun d => (d.camSt 1).current = some 0 ∧ (d.camSt 1).image = 1 ∧ d.get F.CAM_P_STAT_TAG 1 = 0) = true := by decide +kernel
theorem test_imageHeader_again : dc (.imageHeader 1 9 6 4096) camRuns (fun d => d.get F.CAM_P_CNT2_SEQ 1 = 1 && d.get F.CAM_P_STAT_TAG 1 = 9 && has d.flt.status (fkey 258 0)) = true := by decide +kernel
theorem test_streamPacket : dc (.streamPacket 1 false 3) camRuns (fun d => d.get F.CAM_P_CNT2_CRC 1 = 1 && has d.flt.status (fkey 250 0)) = true := by decide +kernel
def ctxFrame : CtxFrame := {port := 1, no := 0, cfg := [], tabs := [], format := 4, width := 8, gen := 7, start := 0, first := 0, lines := 40}
def imaging : State := {camRuns with dev := (camRuns.dev.modCam 1 (fun c => {c with current := some 0, frames := [{no := 0, first := 0, lines := 40}]})).modCtx 2 (fun x => {x with frames := [ctxFrame]})}
theorem test_cameraLine : dc (.cameraLine 1 [1,2,3]) imaging (fun d => (d.camSt 1).buf.any (fun b => b.frame = 0 && b.line = 0 && b.comps = [1,2,3]) && (d.camSt 1).buf.length = 1) = true := by decide +kernel
def bufFull : State := {imaging with dev := imaging.dev.modCam 1 (fun c => {c with buf := List.replicate 64 {frame := 0, line := 3, slot := 0, comps := []}})}
theorem test_cameraLine_again : dc (.cameraLine 1 [1,2,3]) bufFull (fun d => d.get F.CAM_P_CNT_DROPPED 1 = 1 && has d.flt.status (fkey 266 0) && (d.get F.CAM_IRQ_STAT).testBit 13) = true := by decide +kernel
theorem test_triggerFall : dg (.triggerFall 1) camRuns ((camRuns.dev.emit (.camera 1 2 [])).modCam 1 (fun c => {c with falls := [2000]})) = true := by decide +kernel
theorem test_cameraCommit : dc (.cameraCommit .host 1) camRuns (fun d => d.get F.CAM_P_COMMIT_GEN 1 = 1 ∧ d.get F.CAM_P_COMMIT_PENDING 1 = 1) = true := by decide +kernel
theorem test_cameraCtlSend : dc (.cameraCtlSend .host 1 0x80050004) camRuns (fun d => d.get F.CAM_P_CTL_BUSY 1 = 1 ∧ d.get F.CAM_P_CTL_TMO_MS 1 = 5 ∧ (d.camSt 1).ctlEnd = some 5001000 ∧ d.outbox = [.camera 1 0 [0,0,0,0]]) = true := by decide +kernel
def ctlBusy : State := match exec (.cameraCtlSend .host 1 0x80050004) camRuns with | .next t => t | _ => up
theorem test_cameraCtlAck : dc (.cameraCtlAck 1 true [1,2,3,4,5,6]) ctlBusy (fun d => d.get F.CAM_P_CTL_BUSY 1 = 0 ∧ d.get F.CAM_P_CTL_RX_RX_LEN 1 = 6 ∧ d.get F.CAM_P_RX 1 0 = 0x04030201) = true := by decide +kernel
theorem test_cameraCtlAck_again : dc (.cameraCtlAck 1 false []) ctlBusy (fun d => d.get F.CAM_P_CTL_BUSY 1 = 0 ∧ d.get F.CAM_P_CTL_RESULT 1 = 2) = true := by decide +kernel
theorem test_cameraCtlTimeout : dc (.cameraCtlTimeout 1) {ctlBusy with dev := {ctlBusy.dev with raw := 5001000}} (fun d => d.get F.CAM_P_CTL_BUSY 1 = 0 ∧ d.get F.CAM_P_CTL_RESULT 1 = 1) = true := by decide +kernel
theorem test_cameraEvent : dc (.cameraEvent 1 true [1,2,3,4,5,6]) ctlBusy (fun d => d.get F.CAM_P_CTL_RX_EVT_FULL 1 = 1 ∧ d.get F.CAM_P_EVT 1 0 = 0x04030201 ∧ .camera 1 3 [] ∈ d.outbox) = true := by decide +kernel
theorem test_cameraHeartbeat : dg (.cameraHeartbeat 1) ctlBusy (ctlBusy.dev.set F.CAM_P_HB 1000 1) = true := by decide +kernel
theorem test_settingsEffective : dg (.settingsEffective 1) ctlBusy ctlBusy.dev = true := by decide +kernel
theorem test_settingsEffective_again : dg (.settingsEffective 1) {ctlBusy with dev := ctlBusy.dev.modCam 1 (fun c => {c with hand := [(3,77)]})} ((ctlBusy.dev.set F.LMP_C_PWM_DUTY 77 3).modCam 1 (fun c => {c with hand := []})) = true := by decide +kernel
def readyBlock : State := {imaging with dev := imaging.dev.modCam 1 (fun c => {c with frames := [{no := 0, first := 0, lines := 40, got := 40}]})}
theorem test_ispBlock : dc .ispBlock readyBlock (fun d => (d.ctxSt 2).frames.map (fun g => (g.next, g.gen, g.no)) = [(16,7,0)]) = true := by decide +kernel
def lastBlock : State := {readyBlock with dev := readyBlock.dev.modCtx 2 (fun x => {x with frames := [{ctxFrame with next := 30}]})}
theorem test_ispBlock_again : dc .ispBlock lastBlock (fun d => (d.ctxSt 2).frames = [] && (d.get F.ISP_IRQ_STAT).testBit 2) = true := by decide +kernel
theorem test_ispLoadClear : dg (.ispLoadClear .host) up (up.dev.set F.ISP_LOAD_MAX_PCT 0) = true := by decide +kernel
theorem test_ispCountClear : dc (.ispCountClear .host 3) up (fun d => d.get F.ISP_K_CNT_INCOMPLETE 3 = 0) = true := by decide +kernel
theorem test_cameraCountClear : dg (.cameraCountClear .host 1) up (((((up.dev.set F.CAM_P_CNT_TRIG_OVER 0 1).set F.CAM_P_CNT_DROPPED 0 1).set F.CAM_P_CNT2_FORMAT 0 1).set
        F.CAM_P_CNT2_SEQ 0 1).set F.CAM_P_CNT2_CRC 0 1) = true := by decide +kernel
theorem witness_CamerasReceive : 3 < up.dev.cam.length ∧ up.Ready .host 0 ∧ up.dev.get F.CAM_P_LINK_ENABLE 3 = 0 ∧ up.dev.fenced (.cam 3) = false ∧
    camOn.dev.get F.CAM_P_LINK_ENABLE 1 ≠ 0 ∧ camOn.dev.get F.CAM_P_STAT_STATE 1 = 1 ∧ up.dev.get F.CAM_P_STAT_STATE 3 = 0 ∧ camRuns.dev.get F.CAM_P_STAT_STATE 1 = 2 ∧
    (3 : Nat) ≤ (camRuns.dev.camSt 1).conns ∧ (up.dev.camSt 3).conns < 3 ∧ (6 : BitVec 4).toNat = (camRuns.dev.camSt 1).format ∧ (camRuns.dev.camSt 1).width = 4096 ∧
    (camRuns.dev.camSt 1).free = false ∧ (camRuns.dev.camSt 1).resync = false ∧ (∃ f ∈ (camRuns.dev.camSt 1).frames, f.no = (camRuns.dev.camSt 1).image) ∧
    (0 : BitVec 16).toNat = (camRuns.dev.camSt 1).image % 65536 ∧ (9 : BitVec 16).toNat ≠ (camRuns.dev.camSt 1).image % 65536 ∧ (camRuns.dev.camSt 1).current = none ∧
    (imaging.dev.camSt 1).current = some 0 ∧ ((imaging.dev.camSt 1).frames.find? (fun g => g.no = 0)).any (fun f => f.got < f.lines && !f.overflowed) = true ∧
    (imaging.dev.camSt 1).buf.length < 64 ∧ imaging.dev.lineNeeded 1 0 0 = true ∧ 64 ≤ (bufFull.dev.camSt 1).buf.length ∧ imaging.dev.get F.CAM_P_STAT_STATE 1 = 2 ∧
    (camRuns.dev.camSt 1).falls = 500 :: [2000] ∧ 500 ≤ camRuns.dev.raw ∧ camRuns.dev.raw < 2000 ∧ (up.dev.camSt 3).falls = [] := by and_intros <;> decide +kernel
theorem witness_CamerasAreControlled : 1 < up.dev.cam.length ∧ up.Ready .host 0 ∧ (0x80050004 : Word).toNat.testBit 31 = true ∧ ctlBusy.dev.get F.CAM_P_CTL_BUSY 1 ≠ 0 ∧
    camRuns.dev.get F.CAM_P_CTL_BUSY 1 = 0 ∧ (0x80050000 : Word).toNat % 512 = 0 ∧ (0x80050004 : Word).toNat % 512 ≠ 0 ∧ up.dev.get F.CAM_P_STAT_STATE 1 ≠ 2 ∧
    camRuns.dev.get F.CAM_P_STAT_STATE 1 = 2 ∧ (up.dev.camSt 1).hand = [] ∧ ((camRuns.dev.modCam 1 (fun c => { c with hand := [(15, 77)] })).camSt 1).hand = [(15, 77)] ∧
    camRuns.dev.get F.CAM_P_CTL_RX_EVT_FULL 1 = 0 ∧ (camRuns.dev.set F.CAM_P_CTL_RX_EVT_FULL 1 1).get F.CAM_P_CTL_RX_EVT_FULL 1 ≠ 0 ∧
    (ctlBusy.dev.camSt 1).ctlEnd = some 5001000 ∧ ctlBusy.dev.raw < 5001000 ∧ (up.dev.camSt 1).ctlEnd = none ∧
    (readyBlock.dev.pwr.st = .on ∧ readyBlock.dev.deferPaused = false ∧ readyBlock.dev.fenced .isp = false) ∧ up.dev.nextCtx = none ∧
    (∀ s ∈ [readyBlock, lastBlock], s.dev.nextCtx = some 2 ∧ s.dev.ecc.sram = [] ∧ s.dev.get F.ISP_K_SSIZE 2 = 0 ∧
      (∃ f ∈ (s.dev.ctxSt 2).frames, (∀ j < 3, f.opt F.ISP_K_S_FMT_FMT 2 j = 0) ∧ f.next < f.lines)) ∧
    (∃ f ∈ (readyBlock.dev.ctxSt 2).frames, f.next + 16 < f.lines) ∧ (∃ f ∈ (lastBlock.dev.ctxSt 2).frames, f.lines ≤ f.next + 16) := by and_intros <;> decide +kernel
end

/-! ### The Vintner loop and calibration records (file 12) -/

section

def strip0 : Strip := {job := 0, tag := 0, line := 100, plan := {mode := 1, pitch := 0, patch := 8, check := 0, lead := 0, levels := [10,20], stride := 4, chkLevel := 1}, bars := 3, lut := 0, complete := true}
def strips2 (x : Strip) : State := r [(F.VIN_CTRL_ENABLE,1,0)] (fun d => {(d.setJob 0 {({}:Job) with st := .running}) with vin := {d.vin with strips := [x,x]}})
theorem test_stripEvaluate : dc .stripEvaluate (strips2 {strip0 with spoiled := true}) (fun d => d.vin.strips.length = 1 ∧ d.vin.stripNo = 1 ∧ (d.get F.VIN_IRQ_STAT).testBit 0 = true ∧ d.get F.VIN_STAT_DISCARDED = 1) = true := by decide +kernel
theorem test_stripEvaluate_again : dc .stripEvaluate (strips2 strip0) (fun d => d.vin.strips.length = 1 && d.vin.stripNo = 1 && has d.flt.status (fkey 278 0) && has d.flt.status (fkey 279 0)) = true := by decide +kernel
theorem test_stripComplete : dc .stripComplete (r [] (fun d => {d with vin := {d.vin with strips := [{strip0 with complete := false}]}})) (fun d => d.vin.strips = [{strip0 with complete := false}]) = true := by decide +kernel
theorem test_nozzleStateSubmit : dc (.nozzleStateSubmit .host 0x40050123) up (fun d => d.vin.noz = [⟨5,0x123,1,true⟩] && (d.get F.VIN_IRQ_STAT).testBit 1) = true := by decide +kernel
theorem test_nozzleStateSubmit_again : dc (.nozzleStateSubmit .host 0x40050123) (r [(F.VIN_NOZ_CFG_AUTO,1,0)] id) (fun d => d.vin.noz = [⟨5,0x123,1,false⟩]) = true := by decide +kernel
def nozzles := r [(F.VIN_NOZ_CFG_AUTO,1,0)] (fun d => {d with vin := {d.vin with noz := [⟨5,0x123,1,false⟩,⟨6,3,1,true⟩,⟨5,7,1,false⟩,⟨190,7,1,false⟩]}})
theorem test_nozzleBatch : dc .nozzleBatch nozzles (fun d => d.vin.noz = [⟨6,3,1,true⟩] && d.get F.VIN_NOZ_STAT_APPLIED = 3 && has d.vin.due 4) = true := by decide +kernel
theorem test_nozzleApprove : dca (.nozzleApprove .host) nozzles .host 0xB0080 (fun d => d.vin.noz.all (!·.held) && d.regs = nozzles.dev.regs) = true := by decide +kernel
theorem test_nozzleDiscard : dca (.nozzleDiscard .host) nozzles .host 0xB0080 (fun d => d.vin.noz.length = 3 && d.regs = nozzles.dev.regs) = true := by decide +kernel
theorem test_save : dca (.save .host 0x701) {up with dev := {up.dev with host := {up.dev.host with role := 2}}} .host 0xB00A4 (fun d => d.get F.VIN_CAL_CMD_DONE = 1 ∧ d.get F.VIN_CAL_CMD_CODE = 1 && (d.get F.VIN_IRQ_STAT).testBit 2) = true := by decide +kernel
theorem test_save_again : dca (.save .host 0x901) up .host 0xB00A4 (fun d => d.get F.VIN_CAL_CMD_DONE = 0 ∧ d.get F.VIN_CAL_CMD_KIND = 8 ∧ d.vin.writing = [(8,true)]) = true := by decide +kernel
def writing (k : Nat) := r [] (fun d => {d with vin := {d.vin with writing := [(k,true)]}})
def recordKept (k : Nat) (a b : Bool) : Bool := dc (.calRecordWriteDone a b) (writing k) (fun d => d.vin.writing = [] && d.calSlot k 1 = (writing k).dev.calSlot k 1 && (d.calSlot k 0).writes = (if a then 1 else 2) &&
  d.get F.VIN_CAL_CMD_DONE = 1 && d.get F.VIN_CAL_CMD_CODE = (if a || b then 0 else 2) && (if a || b then (d.cask (25+k)).testBit 31 && calValid k (d.cask (25 + k) % 2 ^ 24) (d.calSlot k 0).words && (d.get F.VIN_CAL_STAT_VALID).testBit k else d.cask (25+k) = 0 && has d.flt.status (fkey 297 0)))
theorem test_calRecordDue : dc (.calRecordDue 4) (r [] (fun d => {d with vin := {d.vin with due := [4,2]}})) (fun d => d.vin.writing = [(4,false)] && d.vin.due = [2]) = true := by decide +kernel
theorem test_calRecordWriteDone : recordKept 8 false true = true := by decide +kernel
theorem test_calRecordWriteDone_fails : recordKept 0 false false = true := by decide +kernel
theorem witness_StripsAndNozzlesAct : up.Ready .host 2 ∧ (1 : Word).toNat.testBit 0 = true ∧ (0 : Word).toNat.testBit 0 = false ∧
    (∀ x ∈ (strips2 strip0).dev.vin.strips, x.complete = true) ∧ (strips2 strip0).dev.vin.strips = strip0 :: [strip0] ∧ (strips2 { strip0 with complete := false }).dev.vin.strips ≠ [] ∧
    (strips2 strip0).dev.procOn = true ∧ up.dev.qcam < up.dev.refLine (strip0.line + strip0.len : Nat) ∧
    (∀ s ∈ [strips2 { strip0 with complete := false }], ∀ d ∈ [{ s.dev with vin := { s.dev.vin with p := s.dev.refLine (strip0.line + strip0.len : Nat) + (s.dev.get F.VIN_CAM0_DELAY * 2 ^ 20 : Nat) } }],
      d.procOn = true ∧ d.refLine (strip0.line + strip0.len : Nat) ≤ d.qcam) ∧
    (up.dev.job strip0.job).st = .free ∧ ((strips2 strip0).dev.job strip0.job).st = .running ∧ strip0.fifth = false ∧ strip0.spoiled = false ∧
    (strips2 strip0).dev.vinContext = false ∧ strip0.bars.testBit 1 = true ∧ up.dev.vin.strips = [] ∧
    Nat.min 191 ((0xC0BF0FFF : Word).toNat / 65536 % 256) = 191 ∧ (0xC0BF0FFF : Word).toNat / 2 ^ 30 = 3 ∧
    256 ≤ (List.replicate 256 (⟨0, 0, 0, true⟩ : NozEntry)).length ∧ up.dev.vin.noz.length < 256 ∧ up.dev.get F.VIN_NOZ_CFG_AUTO = 0 ∧ nozzles.dev.get F.VIN_NOZ_CFG_AUTO ≠ 0 ∧
    nozzles.dev.nozAfter 191 4095 ≠ 2 ∧ nozzles.dev.procOn = true ∧ (∃ e ∈ nozzles.dev.vin.noz, e.held = false) ∧
    (∀ e ∈ nozzles.dev.vin.noz, e.port < 192 ∧ nozzles.dev.tabBusy (nozzles.dev.ktab 3 0 e.port) = false) := by and_intros <;> decide +kernel
theorem witness_CalibrationIsKept : has up.dev.vin.due 8 = false ∧
    (∀ t ∈ [0, 1000], ∀ s ∈ [r [(F.VIN_CAL_CFG_MIN_S, 600, 0)] (fun d => { d with raw := 600000000000, vin := { d.vin with due := [8], lastAuto := [(8, t)] } })],
      RegFile.find 8 s.dev.vin.lastAuto = some t ∧ has s.dev.vin.due 8 = true ∧ (t = 1000 → s.dev.raw < t + s.dev.get F.VIN_CAL_CFG_MIN_S * 1000000000) ∧
      (t = 0 → t + s.dev.get F.VIN_CAL_CFG_MIN_S * 1000000000 ≤ s.dev.raw)) ∧ up.dev.pwr.st = .on ∧ up.Ready .host 2 ∧ (0x701 : Word).toNat.testBit 0 = true ∧
    Nat.min 8 ((0x701 : Word).toNat / 256 % 16) = 7 ∧ Nat.min 8 ((0xF01 : Word).toNat / 256 % 16) = 8 ∧ 3 ≤ up.dev.rights .host ∧
    (r [] (fun d => { d with host := { d.host with role := 2 } })).Ready .host 2 ∧ (r [] (fun d => { d with host := { d.host with role := 2 } })).dev.rights .host < 3 ∧
    up.dev.vin.writing = [] ∧ (writing 8).dev.vin.writing = (8, true) :: [] ∧ (writing 8).dev.get F.NVM_STAT_SUSPENDED = 0 ∧ 34 ≤ up.dev.bond.cask0.length ∧
    34 ≤ up.dev.bond.cask1.length ∧ 34 ≤ up.dev.bond.cask2.length := by and_intros <;> decide +kernel
end

/-! ### Lamps (file 13) -/

section

def noUv (d : Dev) : Dev := {d with bond := {d.bond with inUse := setAt d.bond.inUse 10 (fun _ => bondPair 2)}, pins := {d.pins with ilkUv := false}}
def lit (l : List (Field × Nat × Nat)) (f : Dev → Dev) : State := r ([(F.LMP_CTRL_ENABLE,1,0)] ++ l) (fun d => f (noUv d))
theorem test_lampPeriod : dc (.lampPeriod 0) (lit [(F.LMP_C_CFG_MODE,1,0)] id) (fun d => d.get F.LMP_C_STAT_STATUS 0 = 0 ∧ Output.lamp 0 5 (lampCoded (lampHead 5 0 0 0 0 0 0)) ∈ d.outbox) = true := by decide +kernel
def spiLamp := lit [(F.LMP_C_CFG_MODE,1,0),(F.LMP_C_PWM_DUTY,32768,0),(F.LMP_C_CFG_LAMPS,7,0),(F.LMP_C_SHUNT,5,0),(F.LMP_C_ELEC_I_SET,700,0)] id
theorem test_lampPeriod_again : dc (.lampPeriod 0) spiLamp (fun d => Output.lamp 0 1 (lampCoded (lampHead 1 0 0 2500 5 700 32768)) ∈ d.outbox) = true := by decide +kernel
def awaits (f : LampCh → LampCh) := lit [(F.LMP_C_CFG_MODE,1,0)] (fun d => d.modLamp 0 (fun x => f {x with await := 1, judge := 1, lit := 8, iSet := 700}))
theorem test_lampReply : dc (.lampReply 0 0 none) (awaits (fun x => {x with misses := 2})) (fun d => d.get F.LMP_C_STAT_STATUS 0 = 6 ∧ d.get F.LMP_C_CNT_CRC 0 = 1) = true := by decide +kernel
theorem test_lampReply_again : dc (.lampReply 0 0 none) (awaits id) (fun d => d.get F.LMP_C_STAT_STATUS 0 = 0 ∧ d.get F.LMP_C_CNT_CRC 0 = 1) = true := by decide +kernel
theorem test_lampSync : dc .lampSync (lit [(F.LMP_C_CFG_MODE,3,0),(F.LMP_C_CFG_MODE,3,4),(F.LMP_C_CFG_ROWS,3,4)] (fun d => (d.modLamp 0 (fun x => {x with next := some [(3,4)], sentRows := 1})).modLamp 4 (fun x => {x with next := some [(3,4)], sentRows := 1}))) (fun d => (d.lampCh 0).synced && !(d.lampCh 4).synced && d.get F.LMP_C_CNT_MISSED 4 = 1 && d.get F.LMP_C_CNT_MISSED 0 = 0 && has d.flt.status (fkey 302 0) && (d.get F.LMP_IRQ_STAT).testBit 17) = true := by decide +kernel
theorem test_lampEnable : dc (.lampEnable .host 1) up (fun d => d.get F.LMP_CTRL_ENABLE = 1 && (List.range 16).all (fun c => d.get F.LMP_C_STAT_STATUS c = if up.dev.lampHeld c then 5 else 0)) = true := by decide +kernel
theorem test_lampEnable_again : dc (.lampEnable .host 0) (lit [(F.LMP_C_STAT_STATUS,2,3)] id) (fun d => d.get F.LMP_CTRL_ENABLE = 0 && (List.range 16).all (fun c => d.get F.LMP_C_STAT_STATUS c = 0)) = true := by decide +kernel
theorem test_ilkUvInput : dc (.ilkUvInput true) (lit [] id) (fun d => d.get F.LMP_C_STAT_STATUS 1 = 5 && d.get F.LMP_C_STAT_STATUS 0 = 0 && has d.flt.status (fkey 57 0)) = true := by decide +kernel
theorem test_ilkUvInput_again : dc (.ilkUvInput false) (lit [] id) (fun d => !has d.flt.det (fkey 57 0)) = true := by decide +kernel
theorem witness_LampsAreDriven : 15 < up.dev.lamps.chans.length ∧ up.dev.lampsOn = false ∧ up.Ready .host 0 ∧
    (∀ s ∈ [spiLamp], s.dev.lampsOn = true ∧ s.dev.lampHeld 0 = false ∧ s.dev.uvChannel 0 = false ∧ s.dev.fenced (.lamp 0) = false ∧ s.dev.get F.LMP_C_CFG_MODE 0 = 1 ∧
      s.dev.get F.LMP_C_CFG_COMP 0 = 0 ∧ s.dev.get F.LMP_C_CFG_AUTO_SEG 0 = 0 ∧ s.dev.get F.LMP_C_CFG_LAMPS 0 < 32 ∧ s.dev.get F.LMP_C_PWM_DUTY 0 < 65536 ∧
      2000 * 65536 ≤ s.dev.get F.LMP_C_PWM_DUTY 0 * (10 * s.dev.get F.LMP_C_PWM_PERIOD 0) ∧ s.dev.litMask 0 ≠ 0) ∧
    (lit [(F.LMP_C_CFG_MODE, 1, 0)] id).dev.get F.LMP_C_PWM_DUTY 0 = 0 ∧
    (lit [(F.LMP_C_CFG_MODE, 2, 0)] id).dev.get F.LMP_C_CFG_MODE 0 = 2 ∧ (lit [(F.LMP_C_CFG_MODE, 2, 0)] id).dev.get F.LMP_C_PWM_PERIOD 0 < 65536 ∧
    (∀ s ∈ [lit [(F.LMP_C_CFG_MODE, 3, 0)] (fun d => d.modLamp 0 (fun x => { x with next := some [(3, 4)], synced := true }))], s.dev.get F.LMP_C_CFG_MODE 0 = 3 ∧
      (s.dev.lampCh 0).next = some [(3, 4)] ∧ (s.dev.lampCh 0).synced = true) ∧
    (∀ s ∈ [awaits id], 0 < (s.dev.lampCh 0).await ∧ s.dev.uvChannel 0 = false ∧ s.dev.lampHeld 0 = false ∧ s.dev.get F.LMP_C_CFG_MODE 0 = 1 ∧ (s.dev.lampCh 0).judge.testBit 0 = true ∧
      0 < (s.dev.lampCh 0).lit) ∧ (up.dev.lampCh 15).await = 0 ∧ (0x00100000 : Word).toNat.testBit 20 = true := by and_intros <;> decide +kernel
theorem witness_LampsGoDark : up.Ready .host 0 ∧ up.dev.lamps.chans.length = 16 ∧ (0 : Word).toNat.testBit 0 = false ∧ (1 : Word).toNat.testBit 0 = true ∧
    spiLamp.dev.get F.LMP_CTRL_ENABLE ≠ 0 ∧ up.dev.get F.LMP_CTRL_ENABLE = 0 ∧ spiLamp.dev.lampsOn = true ∧
    (∀ s ∈ [lit [] (fun d => { d with pins := { d.pins with ilkUv := true } })], s.dev.lampsOn = true ∧ s.dev.lampHeld 1 = true) ∧
    (∀ s ∈ [lit [] (fun d => { d with lamps := { d.lamps with slowAt := some 0, passed := true } })], s.dev.lampHeld 1 = false ∧ s.dev.uvChannel 1 = true ∧
      s.dev.lamps.slowAt.isSome = true ∧ s.dev.lamps.passed = true ∧ s.dev.get F.LMP_C_CFG_MODE 1 ≠ 4) ∧ up.dev.pwr.st = .on ∧
    (∀ s ∈ [lit [] (fun d => ({ d with lamps := { d.lamps with alerts := 1 } } : Dev).modLamp 0 (fun x => { x with await := 1 }))], 0 < (s.dev.lampCh 0).await ∧
      s.dev.lamps.alerts.testBit 0 = true) ∧ (0x00900000 : Word).toNat.testBit 23 = true ∧ (r [] (fun d => { d with lamps := { d.lamps with slowAt := none } })).dev.lamps.slowAt = none ∧
    (∀ raw ∈ [499999999, 500000000], ∀ s ∈ [r [] (fun d => { d with raw := raw, lamps := { d.lamps with slowAt := some 0 } })], s.dev.lamps.slowAt = some 0 ∧
      (s.dev.bonded 9 = 500 → (raw = 500000000 → 0 + 500 * 1000000 ≤ s.dev.raw) ∧ (raw = 499999999 → s.dev.raw < 0 + 500 * 1000000)) ∧
      s.dev.bonded 9 = 500) := by and_intros <;> decide +kernel
end

/-! ### Timebase and Ethernet (file 14) -/

section

theorem test_timeAdjust : dg (.timeAdjust .host 0) (r [(F.TB_ADJ,500,0)] id) {(r [(F.TB_ADJ,500,0)] id).dev with tb := {up.dev.tb with pend := up.dev.tb.pend + 500 * 2^32}} = true := by decide +kernel
theorem test_timeAdjust_again : dc (.timeAdjust .host 1) (r [] (fun d => {d with tb := {d.tb with force := true}})) (fun d => d.fineT = up.dev.fineT + 2^64 ∧ d.tb.force = false) = true := by decide +kernel
theorem test_timeCapture : dc (.timeCapture .host) up (fun d => d.get F.TB_CAP_RAW = 1000 && d.get F.TB_CAP_T = up.dev.T && d.get F.TB_CMD_DONE = 1) = true := by decide +kernel
theorem test_timeAddendWrite : dg (.timeAddendWrite .host none false 77) up (up.dev.set F.TB_ADDEND (2^32+77)) = true := by decide +kernel
theorem test_timeAddendWrite_again : dc (.timeAddendWrite .host none true 1) (r [(F.TB_ADDEND,2^32+77,0)] id) (fun d => d.get F.TB_ADDEND = 2^32+77 && d.tb.add = 2^32+77 && d.fineT = up.dev.fineT) = true := by decide +kernel
theorem test_timeForce : dca (.timeForce .host) up .host 0xD0058 (fun d => d.tb.force ∧ d.get F.TB_CMD_CODE = 0) = true := by decide +kernel
theorem test_followSelect : dc .followSelect (r [(F.TB_CTRL_FOLLOW,1,0),(F.TB_D_STAT_STATE,2,0)] id) (fun d => d.get F.TB_STAT_IN_FORCE = 1 && has d.flt.status (fkey 309 0)) = true := by decide +kernel
def domain (st : Nat) (l : List (Field × Nat × Nat)) (f : TbDom → TbDom) := r ([(F.TB_D_STAT_STATE,st,1)] ++ l) (fun d => d.modDom 1 f)
theorem test_domainAdjust : dc (.domainAdjust .host 1 0) (domain 1 [(F.TB_D_ADJ,50,1)] (fun x => {x with good := 7, first := false})) (fun d => d.domT 1 = up.dev.domT 1 + 50 * 2^32 && d.get F.TB_D_STAT_STATE 1 = 2) = true := by decide +kernel
theorem test_domainAdjust_again : dc (.domainAdjust .host 1 3) (domain 1 [] (fun x => {x with first := false})) (fun d => d.domT 1 = up.dev.domT 1 && d.get F.TB_D_STAT_REFUSED 1 = 1 && has d.flt.status (fkey 303 0)) = true := by decide +kernel
theorem test_pathDelayWrite : dc (.pathDelayWrite .host 1 1000000) (domain 2 [] (fun x => {x with accepted := true})) (fun d => d.get F.TB_D_STAT_STATE 1 = 3 && d.get F.TB_D_STAT_HCAUSE 1 = 2 && d.get F.TB_D_STAT_PERSIST 1 = 1 && has d.flt.status (fkey 305 0)) = true := by decide +kernel
theorem test_pathDelayWrite_again : dc (.pathDelayWrite .host 1 1000) (domain 2 [] (fun x => {x with accepted := true})) (fun d => d.get F.TB_D_STAT_STATE 1 = 2 && d.get F.TB_D_ACPD 1 = 1000) = true := by decide +kernel
theorem test_domainTimeout : dc (.domainTimeout 1) (let s := domain 2 [] id; {s with dev := {s.dev with raw := 3000000000}}) (fun d => d.get F.TB_D_STAT_STATE 1 = 3 && d.get F.TB_D_STAT_HCAUSE 1 = 1) = true := by decide +kernel
theorem test_domainAck : dca (.domainAck .host 1) (domain 3 [(F.TB_D_PD,77,1),(F.TB_D_STAT_HCAUSE,2,1)] (fun x => {x with pend := some 5})) .host 0xD0160 (fun d => d.get F.TB_D_STAT_STATE 1 = 2 && d.get F.TB_D_ACPD 1 = 77 && d.domT 1 = up.dev.domT 1 + 5*2^32) = true := by decide +kernel
theorem test_domainEnable : dca (.domainEnable .host 1 0xC0002A1E) up .host 0xD0140 (fun d => d.get F.TB_D_STAT_STATE 1 = 4 && d.get F.TB_D_CFG_EN 1 = 1 && d.get F.TB_D_CFG_MASTER 1 = 1 && d.get F.TB_D_CFG_NUMBER 1 = 0x2A) = true := by decide +kernel
theorem test_domainEnable_again : dca (.domainEnable .host 1 0x80002A1E) (domain 4 [] id) .host 0xD0140 (fun d => d.get F.TB_D_STAT_STATE 1 = 1 && d.domT 1 = (domain 4 [] id).dev.domT 1) = true := by decide +kernel
theorem test_domainForce : dca (.domainForce .host 1) up .host 0xD0160 (fun d => d.get F.TB_CMD_DONE = 1 && d.get F.TB_CMD_CODE = 0 && (d.dom 1).force) = true := by decide +kernel
theorem test_tcmpArm : dg (.tcmpArm .host 2 5) up ((up.dev.set F.TCMP_VAL (5*2^32) 2).set F.TCMP_STAT_ARMED 1 2) = true := by decide +kernel
theorem test_tcmpArm_again : dg (.tcmpArm .host 2 0) up (((up.dev.set F.TCMP_VAL 0 2).set F.TCMP_STAT_MISSED 1 2).set F.TCMP_STAT_ARMED 0 2) = true := by decide +kernel
def armed (l : List (Field × Nat × Nat)) := r ([(F.TCMP_STAT_ARMED,1,2),(F.TCMP_VAL,900,2),(F.TCMP_CFG_IRQ,1,2),(F.TCMP_CFG_PPS,1,2),(F.TB_PPS_MODE,2,0)]++l) id
theorem test_tcmpHit : dc (.tcmpHit 2) (armed [(F.TCMP_PERIOD,600,2)]) (fun d => d.get F.TCMP_VAL 2 = 1500 && d.get F.TCMP_STAT_ARMED 2 = 1 && d.get F.TCMP_STAT_HITS 2 = 1 && (d.get F.TB_IRQ_STAT).testBit 2 && d.pins.ppsOut && d.tb.ppsEnd = some 101000) = true := by decide +kernel
theorem test_tcmpHit_again : dc (.tcmpHit 2) (armed []) (fun d => d.get F.TCMP_STAT_ARMED 2 = 0 && d.get F.TCMP_TIME 2 = up.dev.T) = true := by decide +kernel
theorem test_ppsSecond : dc .ppsSecond (r [(F.TB_PPS_MODE,1,0)] (fun d => {d with tb := {d.tb with t0 := 5000000000*2^32}})) (fun d => d.tb.lastSec = 5 && d.pins.ppsOut) = true := by decide +kernel
theorem test_ppsInEdge : dc .ppsInEdge up (fun d => d.get F.TB_PPS_IN_CNT = 1) = true := by decide +kernel
def ethUp (f : Dev → Dev) := r [(F.ETH_P_CFG_EN,1,0),(F.ETH_P_CFG_PROMISC,1,0),(F.ETH_P_R_TAIL,3,0,),(F.ETH_P_CFG_MTU,1518,0)] (fun d => f ((((d.set F.ETH_P_R_TAIL 3 0 0).set F.ETH_P_R_TAIL 3 0 2)).set F.ETH_P_R_TAIL 3 0 3))
def ringsOn : Dev → Dev := fun d => {d with eth := setAt d.eth 0 (fun x => {x with rings := x.rings.map (fun g => {g with on := true, base := 0x1000, n := 8})})}
def body0 : List Nat := (List.range 64).map (fun k => k)
def fr : List Byte := (body0 ++ bytesLE 4 (crc32 body0)).map (BitVec.ofNat 8)
theorem test_ethFrameReceive : dc (.ethFrameReceive 0 fr [0x2000,0,64]) (ethUp id) (fun d => d.get F.ETH_P_CNT_RX_DROP 0 = 1) = true := by decide +kernel
theorem test_ethFrameReceive_again : dc (.ethFrameReceive 0 fr [0x2000,1,50]) (ethUp ringsOn) (fun d => Output.ring 3 0 (2^32+0x2000) (body0.take 50) ∈ d.outbox && d.get F.ETH_P_R_HEAD 0 2 = 1) = true := by decide +kernel
theorem test_ethFrameTransmit : dc (.ethFrameTransmit 0 0 [0x2000,1,64,0,0,0,0,0] (body0.map (BitVec.ofNat 8))) (ethUp ringsOn) (fun d => Output.eth 0 (body0 ++ bytesLE 4 (crc32 body0)) ∈ d.outbox && d.get F.ETH_P_R_HEAD 0 0 = 1 && d.outbox.any (fun o => match o with | .ring 4 0 0x1000 ws => ws.getD 2 0 / 2^28 = 8 | _ => false)) = true := by decide +kernel
theorem test_ethFrameTransmit_again : dc (.ethFrameTransmit 0 0 [0x2000,1,1600,0,0,0,0,0] []) (ethUp ringsOn) (fun d => d.outbox.any (fun o => match o with | .ring 4 0 0x1000 ws => ws.getD 2 0 / 2^28 = 9 | _ => false)) = true := by decide +kernel
theorem test_ethLinkLoss : dc (.ethLinkLoss 0) (ethUp ringsOn) (fun d => d.get F.ETH_P_STAT_LINK 0 = 0 && has d.flt.status (fkey 310 0)) = true := by decide +kernel
theorem witness_TimeIsSteered : up.Ready .host 2 ∧ (∀ n ∈ [0, 1, 2, 3], (r [(F.TB_STAT_IN_FORCE, n, 0)] id).dev.get F.TB_STAT_IN_FORCE = n) ∧
    (∀ a ∈ [0, 1000, 1001], ∀ s ∈ [r [(F.TB_ADJ, a, 0), (F.TB_CFG_JUMP_LIMIT, 1000, 0)] id], (signed 64 ((0 : Word).toNat * 2 ^ 32 + s.dev.get F.TB_ADJ % 2 ^ 32)) = a ∧
      s.dev.get F.TB_CFG_JUMP_LIMIT = 1000) ∧ up.dev.tb.force = false ∧ up.dev.anyArmed = false ∧
    (r [] (fun d => { d with tb := { d.tb with force := true } })).dev.tb.force = true ∧ (r [] (fun d => d.setJob 511 { st := .armed })).dev.anyArmed = true ∧
    up.dev.get F.TB_CTRL_FOLLOW ≤ 2 ∧ up.dev.get F.TB_CTRL_FOLLOW = 0 ∧ up.dev.get F.TB_STAT_IN_FORCE = 0 ∧
    (∀ s ∈ [r [(F.TB_CTRL_FOLLOW, 2, 0), (F.TB_D_STAT_STATE, 2, 1)] id], s.dev.get F.TB_CTRL_FOLLOW = 2 ∧ s.dev.get F.TB_D_STAT_STATE 1 = 2 ∧ s.dev.pwr.st = .on ∧
      (2 : Nat) ≠ s.dev.get F.TB_STAT_IN_FORCE) ∧
    (∀ s ∈ [r [(F.TB_CTRL_FOLLOW, 2, 0)] id], s.dev.get F.TB_D_STAT_STATE 1 ≠ 2 ∧ s.dev.get F.TB_D_STAT_STATE 0 ≠ 2 ∧ (3 : Nat) ≠ s.dev.get F.TB_STAT_IN_FORCE) := by
  and_intros <;> decide +kernel
theorem witness_DomainsChangeState : 1 < up.dev.tb.doms.length ∧ up.Ready .host 2 ∧
    (∀ st ∈ [0, 1, 2, 3, 4], (domain st [] id).dev.get F.TB_D_STAT_STATE 1 = st) ∧
    (∀ g ∈ [6, 7], ∀ s ∈ [domain 1 [] (fun x => { x with good := g, first := false })], (s.dev.dom 1).good = g ∧ (s.dev.dom 1).first = false ∧ (s.dev.dom 1).force = false) ∧
    (∀ s ∈ [domain 1 [(F.TB_CFG_JUMP_LIMIT, 1000, 0)] id], (signed 64 ((0 : Word).toNat * 2 ^ 32 + s.dev.get F.TB_D_ADJ 1 % 2 ^ 32)).natAbs ≤ s.dev.get F.TB_CFG_JUMP_LIMIT ∧
      s.dev.get F.TB_CFG_JUMP_LIMIT < (signed 64 ((1 : Word).toNat * 2 ^ 32 + s.dev.get F.TB_D_ADJ 1 % 2 ^ 32)).natAbs) ∧
    (domain 3 [] id).dev.get F.TB_D_STAT_PERSIST 1 ≠ 64 ∧
    (∀ b ∈ [true, false], ((domain 2 [] (fun x => { x with accepted := b })).dev.dom 1).accepted = b) ∧
    decide ((((0xFFFFFFFF : Word).toNat : Int) - up.dev.get F.TB_D_ACPD 1).natAbs ≤ up.dev.get F.TB_CFG2_PD_STEP_LIMIT * 256) = false ∧
    decide ((((1 : Word).toNat : Int) - up.dev.get F.TB_D_ACPD 1).natAbs ≤ up.dev.get F.TB_CFG2_PD_STEP_LIMIT * 256) = true ∧
    (∀ hc ∈ [1, 2, 3], ∀ p ∈ [0, 1, 62, 63], ∀ s ∈ [domain 3 [(F.TB_D_STAT_HCAUSE, hc, 1), (F.TB_D_STAT_PERSIST, p, 1)] (fun x => { x with cand := 1, pend := some 0 })],
      s.dev.get F.TB_D_STAT_HCAUSE 1 = hc ∧ s.dev.get F.TB_D_STAT_PERSIST 1 = p ∧ (s.dev.dom 1).pend = some 0 ∧ s.dev.get F.TB_D_STAT_STATE 0 ≠ 2) ∧
    (∀ s ∈ [domain 3 [(F.TB_D_STAT_STATE, 2, 0)] id], s.dev.get F.TB_D_STAT_STATE (1 - 1) = 2 ∧ (s.dev.domT 1 + 0 * 2 ^ 32 - s.dev.domT (1 - 1)).natAbs ≤ s.dev.get F.TB_CFG2_CONFIRM_TOL * 2 ^ 32) ∧
    (∀ raw ∈ [99999999, 100000000], ∀ s ∈ [r [(F.TB_D_STAT_STATE, 2, 1), (F.TB_D_CFG_TIMEOUT, 1, 1)] (fun d => { d with raw := raw })],
      (raw = 99999999 → s.dev.raw < (s.dev.dom 1).pdAt + s.dev.get F.TB_D_CFG_TIMEOUT 1 * 100000000) ∧
      (raw = 100000000 → (s.dev.dom 1).pdAt + s.dev.get F.TB_D_CFG_TIMEOUT 1 * 100000000 ≤ s.dev.raw)) ∧
    (0xC0000000 : Word).toNat.testBit 31 = true ∧ (0xC0000000 : Word).toNat.testBit 30 = true ∧ (0x40000000 : Word).toNat.testBit 31 = false := by
  and_intros <;> decide +kernel
theorem witness_PulsesAndFrames : up.Ready .host 0 ∧ up.dev.get F.TCMP_PERIOD 7 = 0 ∧
    signed 64 (unsigned 64 ((up.dev.T : Int) - ((1 : Word).toNat * 2 ^ 32 + up.dev.get F.TCMP_VAL 7 % 2 ^ 32 : Nat))) < 0 ∧
    0 ≤ signed 64 (unsigned 64 ((up.dev.T : Int) - ((0 : Word).toNat * 2 ^ 32 + up.dev.get F.TCMP_VAL 7 % 2 ^ 32 : Nat))) ∧
    up.dev.get F.TCMP_CFG_LATE 7 = 0 ∧ (r [(F.TCMP_CFG_LATE, 1, 7)] id).dev.get F.TCMP_CFG_LATE 7 ≠ 0 ∧ (r [(F.TCMP_PERIOD, 600, 7)] id).dev.get F.TCMP_PERIOD 7 ≠ 0 ∧
    0 ≤ signed 64 (unsigned 64 (((armed []).dev.T : Int) - (armed []).dev.get F.TCMP_VAL 2)) ∧ (armed []).dev.get F.TCMP_STAT_ARMED 2 ≠ 0 ∧
    signed 64 (unsigned 64 (((armed []).dev.T : Int) - (((armed []).dev.get F.TCMP_VAL 2 + 600) % 2 ^ 64 : Nat))) < 0 ∧
    (armed []).dev.get F.TCMP_CFG_IRQ 2 ≠ 0 ∧ (armed []).dev.get F.TCMP_CFG_PPS 2 ≠ 0 ∧ (armed []).dev.get F.TB_PPS_MODE = 2 ∧ up.dev.get F.TCMP_STAT_ARMED 7 = 0 ∧
    (up.dev.T : Int) / 1000000000 ≤ up.dev.tb.lastSec ∧
    (∀ s ∈ [r [(F.TB_PPS_MODE, 1, 0)] (fun d => { d with tb := { d.tb with t0 := 5000000000 * 2 ^ 32 } })], s.dev.tb.lastSec < (s.dev.T : Int) / 1000000000 ∧ s.dev.get F.TB_PPS_MODE = 1) ∧
    (∀ t ∈ [1000, 1001], (r [] (fun d => { d with tb := { d.tb with ppsEnd := some t } })).dev.tb.ppsEnd = some t) ∧ up.dev.tb.ppsEnd = none ∧ up.dev.pwr.st = .on ∧
    up.dev.ethOn 1 = false ∧ (ethUp id).dev.ethOn 0 = true ∧ fr.length = 68 ∧ ¬ (fr.length < 64 ∨ (ethUp id).dev.get F.ETH_P_CFG_MTU 0 + 4 < fr.length) ∧
    crc32 ((fr.map (fun x => x.toNat)).take (fr.length - 4)) = ofBytesLE ((fr.map (fun x => x.toNat)).drop (fr.length - 4)) ∧ ([] : List Byte).length < 64 ∧
    (ethUp id).dev.ethAccepts 0 (fr.map (fun x => x.toNat)) = true ∧ (ethUp (fun d => d.set F.ETH_P_CFG_PROMISC 0 0)).dev.ethAccepts 0 (fr.map (fun x => x.toNat)) = false ∧
    ((ptpOffset ((fr.map (fun x => x.toNat)).take (fr.length - 4))).isSome = false) ∧ (ethUp id).dev.ethDesc 0 2 = none ∧ ((ethUp ringsOn).dev.ethDesc 0 2).isSome = true ∧
    (ethUp ringsOn).dev.ethDesc 0 1 = none ∧ (ethUp ringsOn).dev.ethDesc 0 0 = some 4096 ∧ (1519 : Word).toNat % 2 ^ 14 = 1519 ∧
    (ethUp ringsOn).dev.get F.ETH_P_CFG_MTU 0 = 1518 ∧ (ethUp ringsOn).dev.get F.ETH_P_CFG_ONE_STEP 0 = 0 := by
  and_intros <;> decide +kernel
end

/-! ### Faults and temperature (files 15 and 16) -/

section

def classed (c : Nat) (src : Nat) (f : Dev → Dev := id) := r [(F.FLT_SRC_CLASS,c,src)] f
def reportedAs (s : State) (src : Nat) (cls : Nat) (p : Dev → Bool) : Bool := dc (.faultEvent (Fin.ofNat 312 src) 0 false) s (fun d => rep s.dev d src && d.flt.log.any (fun e => e.source = src && e.cls = cls && e.seq = s.dev.flt.seq) && (d.get F.FLT_IRQ_STAT).testBit 0 && p d)
theorem test_faultEvent : dc (.faultEvent 200 7 true) up (fun d => rep up.dev d 200 && rep up.dev d 6 && has d.flt.eq (fkey 200 0)) = true := by decide +kernel
theorem test_faultEvent_again : dc (.faultEvent 160 7 false) up (fun d => rep up.dev d 160 7) = true := by decide +kernel
theorem test_clockLoss : dc (.clockLoss 30) up (fun d => rep up.dev d 30) = true := by decide +kernel
def equalWires : State := match exec (.faultEvent 200 0 true) up with | .next t => t | _ => up
theorem test_sourceLiveEnd : dc (.sourceLiveEnd 200 0) equalWires (fun d => !has d.flt.det (fkey 200 0) && !has d.flt.eq (fkey 200 0) && d.flt.status = equalWires.dev.flt.status) = true := by decide +kernel
def wiresEnded : State := match exec (.sourceLiveEnd 200 0) equalWires with | .next t => t | _ => up
theorem test_faultStatusClear : dc (.faultStatusClear .host 0x3098 0xFFFFFFFF) wiresEnded (fun d => !has d.flt.status (fkey 200 0) && has d.flt.status (fkey 6 0)) = true := by decide +kernel
theorem test_faultStatusClear_again : dc (.faultStatusClear .host 0x3098 0xFFFFFFFF) equalWires (fun d => has d.flt.status (fkey 200 0)) = true := by decide +kernel
theorem test_clearAll : dc (.clearAll .host) wiresEnded (fun d => d.flt.status = [] && d.get F.FLT_CMD_DONE = 1) = true := by decide +kernel
theorem test_faultForce : dca (.faultForce .host 0x3118 0x100) up .host 0x3118 (fun d => has d.flt.force (fkey 200 0) && has d.flt.status (fkey 200 0) && d.flt.force.length = 1) = true := by decide +kernel
theorem test_wireTest : dca (.wireTest .host 0x800000C8) up .host 0x304C (fun d => d.flt.wireAt = some (200, 2000) && has d.flt.eq (fkey 200 0) && has d.flt.status (fkey 200 0)) = true := by decide +kernel
def stopped := match exec (.faultEvent 310 0 false) (classed 2 310) with | .next t => t | _ => up
theorem test_ackStop : dg (.ackStop .host) stopped ((stopped.dev.set F.FLT_CMD_DONE 1).set F.FLT_CMD_CODE 1) = true := by decide +kernel
theorem test_ackStop_again : dc (.ackStop .host) {stopped with dev := {stopped.dev with flt := {stopped.dev.flt with status := []}}} (fun d => d.flt.stops = [] && d.fire.stop.acked && d.get F.FLT_CMD_CODE = 0) = true := by decide +kernel
def safed := match exec (.faultEvent 310 0 false) (classed 3 310) with | .next t => t | _ => up
theorem test_ackSafe : dca (.ackSafe .host) safed .host 0x3048 (fun d => d.flt = safed.dev.flt && d.get F.FLT_CMD_CODE = 1) = true := by decide +kernel
theorem test_ackSafe_again : dca (.ackSafe .host) {safed with dev := {safed.dev with flt := {safed.dev.flt with status := []}}} .host 0x3048 (fun d => d.flt.safes = [] && d.get F.FLT_CMD_CODE = 0) = true := by decide +kernel
theorem test_fltInInput : dc (.fltInInput true true) up (fun d => d.get F.FLT_STATE_IN = 2 && rep {up.dev with pins := {up.dev.pins with fltInP := true, fltInN := true}} d 11) = true := by decide +kernel
theorem test_fltInInput_again : dc (.fltInInput false true) up (fun d => d.get F.FLT_STATE_IN = 1 && has d.flt.status (fkey 10 0)) = true := by decide +kernel
theorem test_fltInHeartbeatLoss : dc .fltInHeartbeatLoss (let s := r [(F.FLT_CFG_IN_HB,1,0)] id; {s with dev := {s.dev with raw := 5000000}}) (fun d => d.get F.FLT_STATE_IN = 3) = true := by decide +kernel
theorem test_fltOutHeartbeat : dc .fltOutHeartbeat (r [(F.FLT_CFG_HB_EN,1,0)] (fun d => {d with flt := {d.flt with released := true}})) (fun d => d.flt.outP = !up.dev.flt.outP) = true := by decide +kernel
def sensor (n : Nat) (f : ThmSensor → ThmSensor) := r [] (fun d => d.modSensor n f)
theorem test_sensorConversion : dc (.sensorConversion 3 (BitVec.ofNat 16 (106*8))) (sensor 3 (fun x => {x with warn := 1})) (fun d => d.get F.THM_STAT_WARN = 1 && d.get F.THM_SENS_TEMP 3 = 106*256 && has d.flt.status (fkey 59 0)) = true := by decide +kernel
theorem test_sensorConversion_again : dc (.sensorConversion 3 (BitVec.ofNat 16 (126*8))) (sensor 3 (fun x => {x with warn := 1, throt := 1, shut := 1})) (fun d => d.get F.THM_STAT_WARN = 1 && d.get F.THM_STAT_THROTTLE = 1 && d.get F.THM_STAT_SHUT_LATCH = 1 && d.get F.NVM_STAT_SUSPENDED = 1 && d.thm.shutAt = some 1000 && has d.flt.status (fkey 61 0) && has d.flt.status (fkey 60 0)) = true := by decide +kernel
theorem test_sensorConversionTimeout : dc (.sensorConversionTimeout 3) {up with dev := {up.dev with raw := 300000}} (fun d => d.get F.THM_SENS_FAILED 3 = 1) = true := by decide +kernel
def shutDown : State := match exec (.sensorConversion 3 (BitVec.ofNat 16 (126*8))) (sensor 3 (fun x => {x with warn := 1, throt := 1, shut := 1})) with | .next t => {t with dev := {t.dev with raw := 300000}} | _ => up
theorem test_thermalPowerOff : ifNext (exec (.thermalPowerOff true) shutDown) (fun u => u.dev.pwr.st = .off && u.dev.mram.thermal.any (fun r => r.words = shutDown.dev.thm.event && r.index = 0)) = true := by decide +kernel
theorem test_thermalAck : dca (.thermalAck .host) {shutDown with dev := shutDown.dev.modThm (fun t => {t with ackLow := 2})} .host 0x4044 (fun d => d.get F.THM_STAT_SHUT_LATCH = 0 && d.get F.THM_EVT_STAT_PENDING = 0 && d.get F.THM_CMD_CODE = 0) = true := by decide +kernel
theorem test_thermalAck_again : dca (.thermalAck .host) shutDown .host 0x4044 (fun d => d.get F.THM_STAT_SHUT_LATCH = 1 && d.get F.THM_CMD_CODE = 1 && d.thm = shutDown.dev.thm) = true := by decide +kernel
theorem test_thermalEventSelect : dc (.thermalEventSelect .host 3) up (fun d => d.get F.THM_EVT_IDX = 3) = true := by decide +kernel
theorem witness_FaultsAreReported : up.dev.pwr.st = .on ∧ State.reset.dev.pwr.st ≠ .on ∧ (22 < 23 ∨ 55 < 22) ∧ 12 ≤ 311 ∧ (23 ≤ 55 ∧ 55 ≤ 55) ∧ up.dev.flt.due = [] ∧
    has equalWires.dev.flt.status (fkey 200 0) = true ∧ has up.dev.flt.status (fkey 185 255) = false ∧ up.dev.consequential 185 = false ∧
    (∀ c ∈ [0, 1, 2, 3], (classed c 310).dev.classOf 310 = c ∧ (classed c 310).dev.consequential 310 = false) ∧
    (r [] (fun d => { d with flt := { d.flt with released := true } })).dev.flt.released = true ∧ up.dev.flt.wireAt = none := by
  and_intros <;> decide +kernel
theorem witness_FaultsAreHandled : up.Ready .host 2 ∧ inPages 0x3080 = true ∧ (bitKeys 0x3080 0x18 0x80).isSome = true ∧ bitKeys 0x3000 0x18 0x80 = none ∧
    (bitKeys 0x3118 0x20 0x100).isSome = true ∧ (0x80000137 : Word).toNat.testBit 31 = true ∧ 12 ≤ (0x80000137 : Word).toNat % 512 ∧
    (∃ k ∈ stopped.dev.flt.stops, has stopped.dev.flt.status k = true) ∧ (∀ k ∈ up.dev.flt.stops, has up.dev.flt.status k = false) ∧
    (∃ k ∈ safed.dev.flt.safes, has safed.dev.flt.status k = true) ∧
    ¬((∃ k ∈ up.dev.flt.safes, has up.dev.flt.status k = true) ∨ ∃ k ∈ [fkey 10 0, fkey 11 0], up.dev.flt.live k = true ∨ has up.dev.flt.status k = true) ∧
    State.reset.dev.pwr.st ≠ .on ∧ up.dev.get F.FLT_CFG_IN_HB = 0 ∧
    (∀ raw ∈ [1199999, 1200000], ∀ s ∈ [r [(F.FLT_CFG_IN_HB, 1, 0)] (fun d => { d with raw := raw })], s.dev.get F.FLT_CFG_IN_HB ≠ 0 ∧
      (raw = 1200000 → s.dev.flt.inAt + 1200000 ≤ s.dev.raw) ∧ (raw = 1199999 → s.dev.raw < s.dev.flt.inAt + 1200000)) ∧
    (∀ s ∈ [r [(F.FLT_CFG_HB_EN, 1, 0)] (fun d => { d with flt := { d.flt with released := true } })], s.dev.outFault = false ∧ s.dev.get F.FLT_CFG_HB_EN ≠ 0) ∧
    (up.dev.outFault = true ∨ up.dev.get F.FLT_CFG_HB_EN = 0) := by
  and_intros <;> decide +kernel
theorem witness_TemperaturesAreWatched : 11 < up.dev.thm.sensors.length ∧ State.reset.dev.pwr.st ≠ .on ∧ up.dev.pwr.st = .on ∧
    (∀ p ∈ [((-440 : Int), (-14080 : Int)), (-441, -14112), (1200, 38400), (1201, 38432)], (BitVec.ofInt 16 p.1).toInt * 32 + signed 16 (up.dev.get F.THM_OFS 11) = p.2) ∧
    up.dev.get F.THM_SENS_FAILED 11 = 0 ∧ 1 ≤ ((sensor 11 (fun x => { x with warn := 1, throt := 1, shut := 1 })).dev.sensor 11).shut ∧ up.dev.get F.THM_STAT_WARN = 0 ∧
    up.dev.threshByte 4 0 * 256 ≤ 38400 ∧ up.dev.threshByte 5 0 * 256 ≤ 38400 ∧ up.dev.threshByte 6 0 * 256 ≤ 38400 ∧ 1 ≤ (up.dev.modThm (fun t => { t with warnLow := 1 })).thm.warnLow ∧
    (∀ raw ∈ [199999, 200000], ∀ s ∈ [r [] (fun d => { d with raw := raw })], (raw = 200000 → (s.dev.sensor 11).last + 200000 ≤ s.dev.raw) ∧ (raw = 199999 → s.dev.raw < (s.dev.sensor 11).last + 200000)) ∧
    (∀ raw ∈ [999999, 1000000], ∀ s ∈ [r [(F.THM_THR_CFG_SLOW_MS, 1, 0)] (fun d => ({ d with raw := raw } : Dev).modThm (fun t => { t with throtAt := some 0 }))], s.dev.thm.throtAt = some 0 ∧
      s.dev.get F.THM_STAT_SLOW_REQ = 0 ∧ (s.dev.get F.THM_THR_CFG_SLOW_MS = 1 → (raw = 1000000 → 0 + 1 * 1000000 ≤ s.dev.raw) ∧ (raw = 999999 → s.dev.raw < 0 + 1 * 1000000))) ∧
    up.dev.thm.throtAt = none ∧ up.dev.thm.shutAt = none ∧
    (∀ raw ∈ [199999, 200000], ∀ s ∈ [r [] (fun d => ({ d with raw := raw } : Dev).modThm (fun t => { t with shutAt := some 0 }))], s.dev.thm.shutAt = some 0 ∧
      (raw = 200000 → 0 + 200000 ≤ s.dev.raw) ∧ (raw = 199999 → s.dev.raw < 0 + 200000)) ∧ up.Ready .host 2 ∧ shutDown.dev.get F.THM_STAT_SHUT_LATCH ≠ 0 ∧
    (shutDown.dev.modThm (fun t => { t with ackLow := 2 })).thm.ackLow = 2 ∧ up.dev.get F.THM_STAT_SHUT_LATCH = 0 ∧ up.dev.thm.ackLow ≠ 2 := by
  and_intros <;> decide +kernel
end

/-! ### Start-up, resets and power states (files 17 and 18) -/

section

def power (l : List (Field × Nat × Nat)) (f : PowerSt → PowerSt) : State := r l (fun d => {d with pwr := f d.pwr, aon := 20000000000})
theorem test_powerSequence : dc .powerSequence State.reset (fun d => d.pwr.st = .rising 1 && d.pwr.pwrEn = 1) = true := by decide +kernel
theorem test_powerSequence_again : dc .powerSequence (power [] (fun p => {p with st := .rising 2, since := 0})) (fun d => d.pwr.st = .rising 3 && d.pwr.pwrEn = 7) = true := by decide +kernel
theorem test_railTimeout : dc .railTimeout (power [] (fun p => {p with st := .rising 2, since := 0, attempts := 2})) (fun d => d.pwr.st = .off && d.pwr.pwrEn = 0 && d.get F.SYS_AON_STAT_RAIL = 1 && d.get F.SYS_AON_STAT_RAIL_FAILS = 1) = true := by decide +kernel
theorem test_brownout : ifNext (exec .brownout (power [(F.SYS_STAT_PHASE,6,0)] id)) (fun t => t.dev.pwr.st = .brownout && t.dev.get F.SYS_AON_STAT_BROWNOUT = 1 && t.dev.get F.SYS_STAT_PHASE = 0) = true := by decide +kernel
theorem test_safeCsWake : dc .safeCsWake (power [] (fun p => {p with st := .standby})) (fun d => d.pwr.st = .rising 0 && d.get F.SYS_AON_STAT_WOKE_BY = 2 && d.pwr.wake = .safeCs) = true := by decide +kernel
theorem test_perstWake : dc .perstWake (power [] (fun p => {p with st := .off})) (fun d => d.pwr.st = .rising 0 && d.get F.SYS_AON_STAT_WOKE_BY = 3) = true := by decide +kernel
theorem test_wakeTimer : dc .wakeTimer (power [(F.SYS_WAKE_CFG_TIMER_S,2,0)] (fun p => {p with st := .off})) (fun d => d.pwr.st = .rising 0 && d.get F.SYS_AON_STAT_WOKE_BY = 1) = true := by decide +kernel
def blank : BootFlash := {slotA := [], slotB := [], param := [], sfdp := none}
theorem test_bootSequence : ifNext (exec (.bootSequence blank) (power [] (fun p => {p with booted := false}))) (fun t => t.dev.pwr.booted && t.dev.flt.released && t.dev.get F.FLT_STATE_RELEASED = 1 && t.dev.pwr.link && t.dev.get F.SYS_STAT_PHASE = 3 && t.dev.get F.SYS_BOOT_STAT_CODE = 2) = true := by decide +kernel
theorem test_warmReset : ifNext (exec (.warmReset (some .host)) (power [] (fun p => {p with booted := true}))) (fun t => t.dev.get F.SYS_STAT_PHASE = 0 && t.audit.queue.length = 1 && t.dev.raw = 1000 && !t.dev.pwr.booted) = true := by decide +kernel
theorem test_hostBoot : dca (.hostBoot .host) (power [] (fun p => {p with heldRst := true, running := false})) .host 0x4C (fun d => d.pwr.running && !d.pwr.heldRst) = true := by decide +kernel
theorem test_hostBoot_again : dca (.hostBoot .host) (power [(F.SYS_STAT_PHASE,3,0)] id) .host 0x4C (fun d => d.get F.SYS_BOOT_STAT_CODE = 1 && d.get F.SYS_STAT_PHASE = 3) = true := by decide +kernel
theorem test_floor : dca (.floor .host) (r [] (fun d => d.setCask 41 7)) .host 0x4C (fun d => d.cask 40 = 7) = true := by decide +kernel
theorem test_watchdogKick : dca (.watchdogKick .host 0x80000123) up .host 0x64 (fun d => d.pwr = {up.dev.pwr with wdogAt := 1000} && d.get F.SYS_WDOG_PERIOD_MS = 0x123) = true := by decide +kernel
theorem test_watchdogKick_again : dc (.watchdogKick .host 0x80000123) {up with dev := {up.dev with host := {up.dev.host with role := 1}}} (fun d => d.pwr = {up.dev.pwr with wdogAt := 1000} && d.get F.SYS_WDOG_PERIOD_MS = 0) = true := by decide +kernel
theorem test_watchdogExpire : dc .watchdogExpire (let s := r [(F.SYS_WDOG_PERIOD_MS,1,0)] id; {s with dev := {s.dev with raw := 2000000}}) (fun d => !d.pwr.running && d.pwr.heldRst && has d.flt.status (fkey 86 0)) = true := by decide +kernel
theorem test_sleepEnter : dc (.sleepEnter .host) up (fun d => d.get F.SYS_STAT_PHASE = 7 && d.get F.SYS_SLEEP_DONE = 1) = true := by decide +kernel
def sleeping : State := match exec (.sleepEnter .host) (r [(F.DDR_C_STAT_STATE,4,2)] id) with | .next t => t | _ => up
theorem test_cellarDramRequest : dc .cellarDramRequest sleeping (fun d => d.get F.SYS_STAT_PHASE = 6 && (d.chan 2).stepsLeft = 3 && d.ddr.atOnce) = true := by decide +kernel
theorem test_standbyEnter : ifNext (exec (.standbyEnter .host) up) (fun t => t.dev.pwr.st = .standby && t.dev.pwr.pwrEn = 0 && t.audit.queue = [] && t.audit.seq = 1 && t.audit.ring.length = 1) = true := by decide +kernel
theorem test_standbyEnter_again : dca (.standbyEnter .host) (r [(F.SYS_STAT_PHASE,3,0)] id) .host 0x58 (fun d => d.get F.SYS_STANDBY_CODE = 1) = true := by decide +kernel
theorem test_testModeInput : dc (.testModeInput true) (r [(F.LMP_CTRL_ENABLE,1,0)] id) (fun d => d.pins.testMode && d.drvHold && (List.range 16).all (fun c => d.get F.LMP_C_STAT_STATUS c = 5)) = true := by decide +kernel
theorem test_sliceLoadClear : dg (.sliceLoadClear .host 5) up (up.dev.set F.DEC_S_LOAD_MAX_PCT 0 5) = true := by decide +kernel
theorem witness_PowerRises : (power [] id).dev.pwr.st = .on ∧ State.reset.dev.pwr.st = .rising 0 ∧
    (∀ t ∈ [0, 10000000, 10000001], ∀ s ∈ [r [] (fun d => { d with aon := 20000000, pwr := { d.pwr with st := .brownout, since := t } })], s.dev.pwr.st = .brownout ∧ s.dev.pwr.since = t ∧ s.dev.aon = 20000000) ∧
    (2 : Nat).testBit 1 = true ∧ State.reset.dev.pwr.pwrEn.testBit 1 = false ∧
    (∀ n ∈ [1, 2, 3, 4], ∀ since ∈ [19000000, 19000001, 10000000], ∀ a ∈ [0, 1, 2], ∀ s ∈ [r [] (fun d => { d with aon := 20000000, pwr := { d.pwr with st := .rising n, since := since, attempts := a } })],
      s.dev.pwr.st = .rising n ∧ (since = 19000000 → s.dev.pwr.since + 1000000 ≤ s.dev.aon ∧ s.dev.aon < s.dev.pwr.since + 10000000) ∧ (since = 19000001 → s.dev.aon < s.dev.pwr.since + 1000000) ∧
      (since = 10000000 → s.dev.pwr.since + 10000000 ≤ s.dev.aon)) ∧
    (∀ aon ∈ [999999999, 1000000000], ∀ s ∈ [r [] (fun d => { d with aon := aon, pwr := { d.pwr with st := .retry } })], s.dev.pwr.st = .retry ∧
      (aon = 1000000000 → s.dev.pwr.since + 1000000000 ≤ s.dev.aon) ∧ (aon = 999999999 → s.dev.aon < s.dev.pwr.since + 1000000000)) ∧
    (∀ st ∈ [PowerState.standby, .off], ∀ th ∈ [true, false], ∀ s ∈ [power [(F.SYS_WAKE_CFG_TIMER_S, 2, 0)] (fun p => { p with st := st, thermal := th, heldWake := some .safeCs })],
      s.dev.pwr.st = st ∧ s.dev.pwr.downAt + (if s.dev.pwr.thermal then 10000000000 else 10000000) ≤ s.dev.aon ∧ s.dev.get F.SYS_WAKE_CFG_TIMER_S ≠ 0 ∧
      s.dev.pwr.downAt + s.dev.get F.SYS_WAKE_CFG_TIMER_S * 1000000000 ≤ s.dev.aon ∧ s.dev.get F.SYS_WAKE_CFG_CS_EN ≠ 0 ∧ s.dev.get F.SYS_WAKE_CFG_PERST_EN ≠ 0 ∧ s.dev.pwr.heldWake = some .safeCs) ∧
    (∀ s ∈ [r [(F.SYS_WAKE_CFG_CS_EN, 1, 0)] (fun d => { d with aon := 9999999, pwr := { d.pwr with st := .standby } })], s.dev.aon < s.dev.pwr.downAt + (if s.dev.pwr.thermal then 10000000000 else 10000000) ∧
      s.dev.get F.SYS_WAKE_CFG_CS_EN ≠ 0 ∧ s.dev.pwr.heldWake = none ∧ s.dev.get F.SYS_WAKE_CFG_TIMER_S = 0) ∧
    (r [(F.SYS_WAKE_CFG_CS_EN, 0, 0), (F.SYS_WAKE_CFG_PERST_EN, 0, 0)] id).dev.get F.SYS_WAKE_CFG_CS_EN = 0 ∧
    (r [(F.SYS_WAKE_CFG_CS_EN, 0, 0), (F.SYS_WAKE_CFG_PERST_EN, 0, 0)] id).dev.get F.SYS_WAKE_CFG_PERST_EN = 0 := by
  and_intros <;> decide +kernel
theorem witness_PartBoots : (power [] (fun p => { p with booted := true })).dev.pwr.booted = true ∧ (power [] (fun p => { p with booted := false })).dev.pwr.booted = false ∧ up.dev.pwr.st = .on ∧
    up.dev.pins.perst = true ∧ blank.slotA = [] ∧ blank.slotB = [] ∧ blank.sfdp = none ∧ State.reset.dev.pwr.st ≠ .on ∧ up.Ready .host 3 ∧ 43 ≤ up.dev.bond.cask0.length ∧
    43 ≤ up.dev.bond.cask1.length ∧ 43 ≤ up.dev.bond.cask2.length ∧ (r [(F.SYS_STAT_PHASE, 3, 0)] id).Ready .host 2 ∧ (r [(F.SYS_STAT_PHASE, 3, 0)] id).dev.checkImage (up.dev.windowBytes) = none ∧
    up.dev.get F.SYS_STAT_PHASE ≠ 3 ∧ (up.dev.setCask 41 7).cask 40 < (up.dev.setCask 41 7).cask 41 ∧ up.dev.cask 41 ≤ up.dev.cask 40 ∧ (0x80000123 : Word).toNat.testBit 31 = true ∧
    (r [] shut).Ready .host 0 ∧ (r [] shut).dev.rights .host < 2 ∧
    (∀ raw ∈ [999999, 1000000], ∀ s ∈ [r [(F.SYS_WDOG_PERIOD_MS, 1, 0)] (fun d => { d with raw := raw })], s.dev.procOn = true ∧ s.dev.get F.SYS_WDOG_PERIOD_MS ≠ 0 ∧
      (raw = 1000000 → s.dev.pwr.wdogAt + s.dev.get F.SYS_WDOG_PERIOD_MS * 1000000 ≤ s.dev.raw) ∧ (raw = 999999 → s.dev.raw < s.dev.pwr.wdogAt + s.dev.get F.SYS_WDOG_PERIOD_MS * 1000000)) := by
  and_intros <;> decide +kernel
theorem witness_PartRests : up.Ready .host 2 ∧ up.dev.get F.SYS_STAT_PHASE = 6 ∧ up.dev.mayRest = true ∧ (r [] (fun d => d.setJob 511 { st := .armed })).dev.mayRest = false ∧
    sleeping.dev.get F.SYS_STAT_PHASE = 7 ∧ (∀ c < 4, has sleeping.dev.ddr.queue c = false) ∧ sleeping.Ready .host 0 ∧ sleeping.dev.get F.DDR_C_STAT_STATE 2 = 4 ∧
    2 < sleeping.dev.ddr.chans.length ∧ up.dev.get F.SYS_STAT_PHASE ≠ 7 ∧ (r [(F.SYS_STAT_PHASE, 3, 0)] id).dev.get F.SYS_STAT_PHASE < 4 ∧ (r [(F.SYS_STAT_PHASE, 3, 0)] id).Ready .host 2 ∧
    up.dev.safe.applying = none ∧ (r [(F.LMP_CTRL_ENABLE, 1, 0)] id).dev.lampsOn = true := by
  and_intros <;> decide +kernel

/-! ### Every step -/

theorem witness_StepsKeepTheAuditChainBounded : Audit.Bounded fullQueue.audit ∧ Audit.Bounded ringed.audit := by
  unfold Audit.Bounded; decide +kernel
theorem test_reset_idles : ifNext (step State.reset) (fun t => t.dev.raw = State.reset.dev.raw || t.dev.aon = State.reset.dev.aon + 1) = true := by decide +kernel
theorem test_step_takesFront : ifNext (step { up with pending := [.sysBadAccClear .host, .pop .host] }) (fun t => t.pending = [.pop .host]) = true := by decide +kernel
theorem test_withFetchWord : (State.reset.withFetchWord 32 5).pending = [] := by decide +kernel
end

/-! ### Rules stated whole -/

section

def applyingUp : State := r [] (fun d => { d with safe := { d.safe with loaded := true, applying := some [(4, 120)] } })
def logEntry (n : Nat) : LogEntry := { time := n, pairEq := false, forced := false, conseq := false, cls := 1, source := 200, inst := 0, tag := none, seq := n, line := 0 }
def logged (n : Nat) : State := r [] (fun d => { d with flt := { d.flt with log := (List.range n).map logEntry } })

/-- FIPS 180-2, the digest of "abc". -/
theorem test_sha256 : (sha256 [0x61, 0x62, 0x63]).take 4 = [0xba, 0x78, 0x16, 0xbf] := by decide +kernel
theorem test_bondedDigestStored : ifNext (exec (.safeCommitApply true) applyingUp) (fun t =>
    (List.range 8).map (fun k => t.dev.cask (4 + k)) = bondDigest (t.dev.bond.inUse.map (·.1)) && t.dev.bonded 4 = 120) = true := by decide +kernel
theorem test_logPush : (fun d => d.flt.log = (List.range 15).map (fun n => logEntry (n + 1)) ++ [logEntry 99] && d.get F.FLT_LOG_STAT_OVERWRITES = 1 &&
    d.get F.FLT_IRQ_STAT = 16) ((logged 16).dev.logPush (logEntry 99)) = true := by decide +kernel
theorem test_logData : (logged 2).readWord .host 0x3068 = 1 * 512 + 200 ∧ (after (.pop .host) (logged 2)).readWord .cellar 0x3060 = 1 ∧ (logged 0).readWord .host 0x3060 = 0 := by decide +kernel
theorem test_wireTestOfWirePair : dga (.wireTest .host 0x8000000B) up .host 0x304C ((up.dev.set F.FLT_WIRE_TEST_SRC 11).touch .host) = true := by decide +kernel

theorem witness_BondedDigestIsSha256 : applyingUp.dev.safe.applying = some [(4, 120)] ∧ applyingUp.dev.staged = none ∧ applyingUp.dev.get F.NVM_STAT_SUSPENDED = 0 ∧
    applyingUp.audit.queue.length + 27 ≤ 32 ∧ applyingUp.dev.bond.pairs.length = 27 ∧ applyingUp.dev.bond.cask0.length = 64 ∧ applyingUp.dev.bond.cask1.length = 64 ∧
    applyingUp.dev.bond.cask2.length = 64 ∧ (applyingUp.dev.bond.pairs.map (·.1)).length = 27 := by decide +kernel
theorem witness_CaptureLatchesOneTick : up.Ready .cellar 0 := by decide +kernel
theorem witness_WireTestDrivesTheSource : up.Ready .host 2 ∧
    (0x800001FF : Word).toNat.testBit 31 = true ∧ (0x8000000C : Word).toNat.testBit 31 = true ∧ (0x8000000B : Word).toNat.testBit 31 = true ∧ 12 ≤ Nat.min 311 ((0x8000000C : Word).toNat % 512) ∧
    Nat.min 311 ((0x8000000B : Word).toNat % 512) < 12 ∧ Nat.min 311 ((0x800001FF : Word).toNat % 512) = 311 ∧
    (∀ raw ∈ [1999, 2000], ∀ s ∈ [r [] (fun d => { d with raw := raw, flt := { d.flt with wireAt := some (200, 2000) } })],
      s.dev.flt.wireAt = some ((200 : Source).val, 2000) ∧ (raw = 1999 → s.dev.raw < 2000) ∧ (raw = 2000 → 2000 ≤ s.dev.raw)) := by
  and_intros <;> decide +kernel
theorem witness_LeesLogHoldsSixteen : (logged 16).dev.flt.log.length = 16 ∧ (logged 15).dev.flt.log.length < 16 ∧ up.Ready .host 0 ∧ (logged 0).dev.flt.log = [] ∧
    (logged 16).dev.flt.log = logEntry 0 :: (List.range 15).map (fun n => logEntry (n + 1)) := by decide +kernel

theorem witness_OnlyOwnersWriteMram : ifNext (exec (.sysBadAccClear .host) up) (fun _ => true) = true ∧ mramOwner (.sysBadAccClear .host) = false := by decide +kernel
theorem witness_OnlyOwnersReachTheStores : ifNext (exec (.faultEvent 200 3 true) up) (fun _ => true) = true ∧ storeOwner (.faultEvent 200 3 true) = false := by decide +kernel

end

/-! ### The hypotheses of the statements' further forms -/

section

def fenced : State := { queued with dev := { queued.dev with fences := [⟨.cellar, none⟩, ⟨.host, some 0x50⟩, ⟨.host, some 0x51⟩] } }
theorem witness_AccessesAreFenced_lists :
    (∀ a ∈ ([⟨.host, .bar0, 0x4000000, 15, false, 0⟩, ⟨.host, .bar2, 0x10000000, 15, false, 0⟩, ⟨.cellar, .bar0, 0x4000000, 15, false, 0⟩] : List BusAccess),
      a.wide = false ∧ a.region.size ≤ a.addr ∧ a.addr - 1 < a.region.size) ∧
    (⟨.host, .bar0, 0x1004, 255, true, 0⟩ : BusAccess).wide = true ∧ 0x1004 % 8 ≠ 0 ∧ (1 : BitVec 64).toNat % 2 = 1 ∧
    ((r [] (fun d => { d with pwr := { d.pwr with msix := setAt d.pwr.msix 63 (fun e => { e with masked := false }) } })).dev.pwr.msix.getD 63 {}).masked = false ∧
    ¬ up.Outstanding .host none ∧ queued.Outstanding .host none ∧ queued.Outstanding .host (some 0x50) ∧ ¬ queued.Outstanding .host (some 0x51) ∧
    fenced.dev.fences = [⟨.cellar, none⟩, ⟨.host, some 0x50⟩] ++ ⟨.host, some 0x51⟩ :: [] ∧ ¬ fenced.Outstanding .host (some 0x51) ∧
    (∀ g ∈ ([⟨.cellar, none⟩, ⟨.host, some 0x50⟩] : List FenceRead), g.rq = .host → fenced.Outstanding .host g.page) ∧
    (∀ g ∈ up.dev.fences, g.rq = .host → up.Outstanding .host g.page) := by decide +kernel
theorem witness_AuditEntriesAreKept_waits : (r [(F.NVM_STAT_SUSPENDED, 1, 0)] id).dev.get F.NVM_STAT_SUSPENDED = 1 ∧ up.audit.queue = [] ∧
    fullQueue.dev.audited .host (canonAddr .host 0x50044) 5000 [] = true ∧ (∀ x ∈ up.audit.stalled, x.1 ≠ .host) ∧
    (∀ x ∈ (stalledBy ⟨.host, .bar0, 0x50044, 15, false, 0⟩).audit.stalled, x.1 ≠ .cellar) := by decide +kernel
theorem witness_SafeFramesAct_fails :
    (∀ s ∈ [r [] safeUp], ∀ f ∈ [frame 0xA5 1 26 5, frame 0x3C 65535 26 5, frame 0xC3 1 26 5], s.dev.safe.loaded = true ∧ s.dev.safe.applying = none ∧
      f.seq.toNat ≠ s.dev.get F.SAFE_PORT_STAT_EXP_SEQ) ∧
    (∀ c ∈ [0x5A, 0xA5], crc16 ((safeBytes (frame c 0 27 5) c).take 12) = (frame c 0 27 5).crc.toNat) ∧ 26 < (frame 0x5A 0 27 5).index.toNat ∧
    up.dev.safe.loaded = false ∧ applyingUp.dev.safe.applying ≠ none ∧ (r [] safeUp).dev.safe.staged = [] ∧
    (∀ f ∈ [({ frame 0xA5 0 26 5 with compl := 7, crc := BitVec.ofNat 16 (crc16 ((safeBytes { frame 0xA5 0 26 5 with compl := 7 } 0xA5).take 12)) } : SafeFrame)],
      crc16 ((safeBytes f 0xA5).take 12) = f.crc.toNat ∧ f.seq.toNat = (r [] safeUp).dev.get F.SAFE_PORT_STAT_EXP_SEQ ∧ f.compl.toNat ≠ 0xFFFFFFFF - f.value.toNat) ∧
    (∀ b ∈ [List.replicate 12 1 ++ bytesBE 2 (crc16 (List.replicate 12 1))], b.length = 14 ∧ crc16 (b.take 12) = ofBytesBE (b.drop 12) ∧ b.getD 0 0 ∉ [0, 0x5A, 0xA5, 0x3C, 0xC3]) ∧
    (111 : Nat) ≠ 112 ∧ State.reset.dev.pwr.st ≠ .on := by decide +kernel
theorem witness_BondedValuesAreKept_waits :
    (∀ s ∈ [({ applyingUp with audit := { applyingUp.audit with queue := List.replicate 32 (none, up.dev.entry .host 0x50044 1 2) } } : State)], s.dev.safe.applying = some [(4, 120)] ∧
      32 < s.audit.queue.length + (changedEntries (s.dev.bond.pairs.map (·.1)) (applyEntries (s.dev.bond.pairs.map (·.1)) [(4, 120)])).length) ∧
    (r [(F.NVM_STAT_SUSPENDED, 1, 0)] (fun _ => applyingUp.dev.set F.NVM_STAT_SUSPENDED 1)).dev.get F.NVM_STAT_SUSPENDED = 1 ∧ up.dev.safe.applying = none ∧
    (∀ d ∈ [({ up.dev with bond := { up.dev.bond with cask1 := setAt up.dev.bond.cask1 63 (fun _ => 9) } } : Dev)],
      (d.bond.cask0.getD 63 0, d.bond.cask1.getD 63 0, d.bond.cask2.getD 63 0) ∈ [(9, 0, 0), (0, 9, 0), (0, 0, 9)]) ∧
    (∀ d ∈ [({ up.dev with bond := { up.dev.bond with inUse := setAt up.dev.bond.inUse 26 (fun _ => (5, 5)) } } : Dev)], (5, 5) ∈ d.bond.pairs ++ d.bond.inUse) ∧
    (∀ p ∈ up.dev.bond.pairs ++ up.dev.bond.inUse, p.2 = 0xFFFFFFFF - p.1) ∧ State.reset.dev.pwr.st ≠ .on ∧ State.reset.dev.safe.loaded = false := by decide +kernel
/-- Ring 7 with a coalescing time and a count of 2. -/
def counting (f : RingSt → RingSt) : State := { ringUp with dev := ((ringUp.dev.set F.SLU_R_CQ_CFG_COAL_US 5 7).set F.SLU_R_CQ_CFG_COAL_CNT 2 7).modRing 7 f }
def shutLink : State := r [] (fun d => { d with pwr := { d.pwr with link := false, bme := false } })
theorem witness_RingsStartStopAndReport :
    up.Ready .host 0 ∧ ringUp.dev.get F.SLU_R_CTRL_ENABLE 7 ≠ 0 ∧ (up.dev.ring 7).draining = false ∧
    (∀ s ∈ [({ ringUp with dev := { ringUp.dev with descs := [{ desc 1 .ended with irq := true }, { desc 1 .moving with slot := 4, order := 1 }] } } : State)],
      s.dev.pwr.link = true ∧ s.dev.pwr.bme = true ∧ (s.dev.ring 7).cqN ≠ 0 ∧ (s.dev.get F.SLU_R_CQ_TAIL_INDEX 7 + 1) % (s.dev.ring 7).cqN ≠ s.dev.get F.SLU_R_CQ_HEAD 7 ∧
      s.dev.descs = [] ++ { desc 1 .ended with irq := true } :: [{ desc 1 .moving with slot := 4, order := 1 }] ∧ (desc 1 .ended).unacked = [] ∧ (desc 1 .ended).silent = false ∧
      s.dev.get F.SLU_R_CQ_CFG_COAL_US 7 = 0 ∧ 7 < s.dev.rings.length) ∧
    (∀ s ∈ [({ ringUp with dev := { ringUp.dev with descs := [{ desc 1 .ended with fence := true, noCpl := true }, { desc 1 .moving with slot := 4, order := 1 }] } } : State)],
      (∀ y ∈ [] ++ [{ desc 1 .moving with slot := 4, order := 1 }], y.ring = 7 → (desc 1 .ended).order ≤ y.order) ∧
      (∀ x ∈ s.dev.descs, x.ring = 7 → x.noCpl = true → x.status = 0)) ∧
    (∀ s ∈ [counting (fun g => { g with flagged := 1, jobQ := [⟨2, 0, 0xFFFF, 0, 1, 0, 0, 9, 77, true⟩] })],
      s.dev.get F.SLU_R_CQ_CFG_COAL_US 7 ≠ 0 ∧ s.dev.get F.SLU_R_CQ_CFG_COAL_CNT 7 ≤ (s.dev.ring 7).flagged + 1 ∧ (s.dev.ring 7).active = true ∧
      (s.dev.ring 7).jobQ = ⟨2, 0, 0xFFFF, 0, 1, 0, 0, 9, 77, true⟩ :: [] ∧ (∀ x ∈ s.dev.descs, x.ring = 7 → s.dev.descDone x = false)) ∧
    (∀ s ∈ [counting id],
      s.dev.get F.SLU_R_CQ_CFG_COAL_US 7 ≠ 0 ∧ (s.dev.ring 7).flagged + 1 < s.dev.get F.SLU_R_CQ_CFG_COAL_CNT 7) ∧
    (shutLink.dev.pwr.link = false) ∧ (∀ d ∈ [up.dev.modRing 7 (fun g => { g with coalAt := some 1001 })], (d.ring 7).coalAt = some 1001 ∧ d.raw < 1001) ∧
    (up.dev.ring 7).coalAt = none := by decide +kernel

/-- A bar-line in the coded form of R97: a header of its size and that many bytes in all. -/
def codedLine (n : Nat) : List Nat := bytesLE 4 (0x10000000 + n) ++ List.replicate (n - 4) 9
/-- Job 511 with coded raster, one bar and one line of 64 pixels. -/
def coded (j : Job) : Job := { j with ctx := { ctx0 with compressed := true }, geo := { j.geo with areas := List.replicate 8 { base := 4096, size := 65536, idxb := 131072, idxn := 16 } } }
theorem witness_DescriptorsAreFetched_checks : ringUp.dev.TurnIs 7 ∧ ¬ ringUp.dev.TurnIs 6 ∧ (ringUp.dev.ring 7).sqN = 16 ∧
    (desc 1 .fetched).status = 0 ∧ (∀ st ∈ [JobState.done, .aborted], ((held (desc 1 .fetched) (fun j => { j with st := st })).dev.job 511).st = st) ∧
    (∀ x ∈ [desc 1 .fetched], ({ x with length := 0 } : Desc).length = 0 ∧ ({ x with src := 63 } : Desc).src % 64 ≠ 0 ∧
      ctx0.lineCount < ({ x with count := 2 } : Desc).first + 2 ∧ ({ x with barMask := 64 } : Desc).barMask &&& ctx0.barMask ≠ 64 ∧
      x.length + 64 ≠ x.total ctx0 * ctx0.slot) ∧
    (∀ c ∈ [{ ctx0 with lpi1200 := true }], c.perStored = 2 ∧ (desc 1 .fetched).first % 2 ≠ 0) ∧ up.dev.get F.ECC_STAT_DRAM_DONE = 0 := by decide +kernel
theorem witness_RasterIsStored_forms :
    (∀ s ∈ [heldAsked (desc 1 .moving) id], ∀ x ∈ [asked (desc 1 .moving)], s.dev.descs = [] ++ x :: [] ∧ s.dev.awaits x = true ∧ x.status = 0 ∧
      x.consumed + (x.got ++ [7]).length ≤ x.asked ∧ (7, 9) = x.place ctx0 x.taken ∧ x.taken < x.total ctx0) ∧
    (∀ st ∈ [JobState.free, .draining], ((heldAsked (desc 1 .moving) (fun j => { j with st := st })).dev.job 511).st = st) ∧
    (∀ s ∈ [held { desc 1 .room with got := List.replicate ctx0.slot 3 } id], ∀ x ∈ [{ desc 1 .room with got := List.replicate ctx0.slot 3 }], s.dev.descs = [] ++ x :: [] ∧
      x.phase = .room ∧ x.got.length = ctx0.slot ∧ x.consumed = x.taken * ctx0.slot ∧ x.length = x.total ctx0 * ctx0.slot) ∧
    (∀ j ∈ [{ runs job0 with bars := List.replicate 8 { rd := 10, seen := 10, rel := 10 } }], j.past 7 9 = true) ∧
    (∀ j ∈ [{ job0 with geo := { job0.geo with areas := List.replicate 8 { base := 4096, size := 64 } } }], j.past 7 9 = false ∧ j.room 7 9 = false) ∧
    (∀ j ∈ [coded job0], ∀ x ∈ [{ desc 1 .room with got := codedLine 37, length := 37 }], ∀ h ∈ [ofBytesLE ((codedLine 37).take 4)], j.ctx.compressed = true ∧ 4 ≤ (codedLine 37).length ∧
      h / 268435456 % 16 = 1 ∧ h % 16777216 = 37 ∧ 37 ≤ 4 + j.ctx.rawSize + cdiv j.ctx.rawSize 64 ∧ x.taken + 1 = x.total j.ctx ∧ x.consumed + 37 = x.length ∧ j.past 7 9 = false ∧
      j.ctx.rep = false ∧ j.room 7 9 = true ∧ (j.bar 7).place (j.geo.areas.getD 7 {}).size (pad64 37) = some 0) ∧
    (∀ h ∈ [ofBytesLE ((codedLine 38).take 4)], 4 + ctx0.rawSize + cdiv ctx0.rawSize 64 < h % 16777216) ∧ 0x20000004 / 268435456 % 16 ≠ 1 := by decide +kernel
theorem witness_EndpointFollowsTheBus_forms : up.dev.pwr.cfg.maskAll = false ∧ up.dev.pwr.msix.length = 64 ∧
    (∀ s ∈ [r [] (fun d => { d with pwr := { d.pwr with cfg := { d.pwr.cfg with maskAll := true } } })], s.dev.pwr.link = true ∧ s.dev.pwr.cfg.maskAll = true) ∧
    shutLink.dev.pwr.link = false ∧ shutLink.dev.pwr.bme = false ∧ State.reset.dev.pwr.st ≠ .on ∧ up.dev.pwr.booted = false := by decide +kernel
theorem witness_JobIsOpened_forms :
    (∀ st ∈ [JobState.draining, .armed, .running, .done, .aborted], ∀ s ∈ [r [(F.SLU_JOB_IDX, 511, 0)] (fun d => d.setJob 511 { job0 with st := st })], (s.dev.job 511).st = st) ∧
    (∀ s ∈ [r [(F.SLU_JOB_IDX, 511, 0)] (fun d => d.setJob 511 { job0 with bars := List.replicate 8 { stored := [3] } })],
      ∀ j ∈ [{ s.dev.job 511 with ctx := s.dev.stagedCtx, geo := s.dev.geometry s.dev.stagedCtx }], (s.dev.job 511).st = .opened ∧ s.dev.areaTaken 511 j = false ∧ s.dev.fits j = true ∧
      j.placing ≠ (s.dev.job 511).placing ∧ s.dev.jobDescs 511 = [] ∧ (∃ x ∈ (s.dev.job 511).bars, x.stored ≠ [])) ∧
    (∀ s ∈ [r [(F.SLU_JOB_IDX, 511, 0)] (fun d => ({ d with descs := [{ desc 1 .moving with unacked := [⟨7, 9, 0, 64⟩] }] } : Dev).setJob 511 job0)], s.dev.jobDescs 511 ≠ [] ∧
      (∃ x ∈ s.dev.jobDescs 511, x.unacked ≠ [])) ∧
    (r [] (fun d => { d with pwr := { d.pwr with running := false } })).dev.pwr.running = false := by decide +kernel
/-- Job 511 is ARMED to start at a line; BAR0 shows no line yet. -/
def startsAt (line : Nat) (l : List (Field × Nat × Nat)) (f : Dev → Dev) : State :=
  r l (fun d => f (d.setJob 511 { job0 with st := .armed, ctx := { ctx0 with startAt := true, startLine := line } }))
/-- A RUNNING job whose chain claim of context 0 is due, context 0 in some state. -/
def chains (j : Job) : State :=
  r [] (fun d => (d.setJob 511 { runs job0 with ctx := { ctx0 with chain := true, nextTag := 5 * 512 }, bars := List.replicate 8 { rd := 10, seen := 10, rel := 10 } }).setJob 0 j)
theorem witness_JobIsArmedReleasedAndRead_forms :
    (∀ e ∈ [(up.dev.leaveSleep.setJob 511 { job0 with st := .armed, ctx := { ctx0 with startAt := true, startLine := 64 } })], (∀ x ∈ e.jobs, x.2.claimWait = false) ∧
      e.horizon ≤ e.startDue (e.job 511).ctx) ∧
    (∀ e ∈ [(up.dev.leaveSleep.setJob 511 { job0 with st := .armed, ctx := { ctx0 with startAt := true, startLine := 63 } })], (e.job 511).ctx.startAt = true ∧
      e.startDue (e.job 511).ctx < e.horizon) ∧
    (∀ e ∈ [(up.dev.leaveSleep.setJob 9 { runs job0 with claimWait := true, ctx := { ctx0 with chain := true, nextTag := 5 * 512 + 511 } }).setJob 511 { job0 with st := .armed }],
      ∀ j ∈ [e.job 9], (e.jobs = [(9, j)] ++ [(511, e.job 511)] ∨ e.jobs = [(511, e.job 511)] ++ [(9, j)]) ∧ j.claimWait = true ∧ j.ctx.nextTag = e.jobTag 511 ∧ j.endLine = some 10 ∧
      (e.job 511).ctx.empty = false ∧ (e.job 511).gen < 128 ∧ e.segmentWaits 10 2 = false) := by decide +kernel
theorem witness_JobRuns_forms :
    (∀ st ∈ [JobState.opened, .running], ((r [(F.SLU_JOB_IDX, 511, 0)] (fun d => d.setJob 511 { job0 with st := st })).dev.job 511).st ≠ .armed) ∧
    (∀ s ∈ [startsAt 9 [] id], ∀ j ∈ [s.dev.job 511], s.dev.pwr.running = true ∧ j.st = .armed ∧ j.ctx.startAt = true ∧ j.waiting = false ∧ s.dev.startDue j.ctx ≤ s.dev.horizon ∧
      s.dev.horizon < s.dev.lineNear j.ctx.startLine) ∧
    (∀ s ∈ [startsAt (2 ^ 48 - 1) [] id], ∀ j ∈ [s.dev.job 511], s.dev.startDue j.ctx ≤ s.dev.horizon ∧ s.dev.lineNear j.ctx.startLine ≤ s.dev.horizon) ∧
    (∀ s ∈ [startsAt 65 [] id], ∀ j ∈ [s.dev.job 511], s.dev.horizon < s.dev.startDue j.ctx) ∧
    (∀ s ∈ [chains { job0 with st := .armed }, chains { job0 with st := .opened }, chains { job0 with st := .done }, chains { job0 with st := .armed, gen := 4 },
        chains { job0 with st := .armed, ctx := { ctx0 with barMask := 0 } }], s.dev.claimDue 511 = true ∧ (s.dev.job 511).claimWait = false ∧ (s.dev.job 511).endLine = some 10 ∧
        (s.dev.job 511).ctx.nextTag % 512 = 0) ∧
    (chains { job0 with st := .armed, ctx := { ctx0 with barMask := 0 } }).dev.job 0 = { job0 with st := .armed, ctx := { ctx0 with barMask := 0 } } ∧
    up.dev.claimDue 511 = false ∧
    (∀ s ∈ [r [] (fun d => d.setJob 511 { job0 with st := .armed, waiting := true })], ∀ j ∈ [s.dev.job 511], s.dev.jobs = [] ++ (511, j) :: [] ∧ j.st = .armed ∧ j.waiting = true ∧
      j.ctx.startAt = false ∧ j.claimWait = false) := by decide +kernel
theorem witness_JobEnds_forms :
    (∀ s ∈ [r [(F.SLU_JOB_IDX, 511, 0)] (fun d => d.setJob 511 (runs job0))], ∀ j ∈ [s.dev.job 511], s.Ready .host 0 ∧ j.st = .running ∧ j.prints0 = none ∧ j.ctx.forever = false ∧
      1 = j.ctx.printCount ∧ j.bars.length = 8 ∧ j.length = some 10 ∧ (∃ b ∈ j.ctx.bars, (j.bar b).rel + j.ctx.gapLines < 10)) ∧
    (∀ j ∈ [{ runs job0 with prints0 := some 3 }], j.prints0 = some 3) ∧
    (∀ s ∈ [r [(F.SLU_JOB_IDX, 511, 0)] (fun d => d.setJob 511 { job0 with st := .armed })], (s.dev.job 511).st ≠ .running) ∧
    (∀ j ∈ [{ job0 with st := .draining, bars := List.replicate 8 { rel := 3, cutAt := some 4 } }], j.st = .draining ∧ (∃ b ∈ j.ctx.bars, (j.bar b).cutAt = some 4 ∧ j.p0 + (j.bar b).rel < 4)) ∧
    (∀ b ∈ job0.ctx.bars, (job0.bar b).cutAt = none) := by decide +kernel
theorem witness_CisternsAndHostWindow_forms :
    (∀ x ∈ [{ desc 1 .ended with unacked := [⟨7, 9, 0, 64⟩] }], ∀ s ∈ [held x (fun j => { j with st := .draining })], (s.dev.job 511).st = .draining ∧ x.tag = s.dev.jobTag 511) ∧
    (∀ y ∈ up.dev.descs, y.opcode = 1 → ∀ v ∈ y.unacked, ¬(v.bar = 7 ∧ v.line = 9)) ∧ up.dev.get F.CIS_WIN_WR_EN = 0 ∧
    (∀ s ∈ [r [(F.CIS_WIN_WR_EN, 1, 0), (F.ECC_STAT_DRAM_DONE, 1, 0), (F.DDR_STAT_CAP_MIB, 1024, 0)] id],
      s.dev.leaveSleep.windowEnd ≤ (s.dev.set F.CIS_WIN_BASE 1024).get F.CIS_WIN_BASE * 1048576 + 0 ∧ min 8 (s.dev.leaveSleep.windowEnd - (s.dev.leaveSleep.windowEnd - 4)) = 4 ∧
      min 8 (s.dev.leaveSleep.windowEnd - 1073741824) = 0) ∧ (r [(F.CIS_WIN_WR_EN, 1, 0)] id).dev.get F.CIS_WIN_WR_EN ≠ 0 := by decide +kernel
theorem witness_SpoutLineIsFilled_forms :
    (∀ s ∈ [r [] (fun d => d.setJob 511 (runs job0))], ∀ c < 8, s.dev.spoutFill c < s.dev.spoutFill 7 → s.dev.fillable c = none) ∧
    (∀ s ∈ [r [] (fun d => ({ d with spouts := [{ spoutLine with bar := 7, line := 0, job := 511 }] } : Dev).setJob 511
        { runs job0 with ctx := { ctx0 with barMask := 192 }, bars := List.replicate 8 { stored := [0, 1] } })],
      s.dev.nextNeeded 7 = some (511, 1) ∧ s.dev.spoutFill 6 < s.dev.spoutFill 7 ∧ s.dev.fillable 6 ≠ none) ∧
    (∀ s ∈ [r [] (fun d => d.setJob 511 { runs job0 with bars := List.replicate 8 {} })], s.dev.nextNeeded 7 = some (511, 0) ∧ (s.dev.job 511).kindAt 7 0 = .raster 0 ∧
      has ((s.dev.job 511).bar 7).stored ((s.dev.job 511).ctx.storedOf 0) = false) := by decide +kernel
theorem witness_TableUpdateIsKeyed_forms :
    (∀ s ∈ [r [(F.DEC_UPD_SEL_KIND, 0, 0), (F.DEC_UPD_SEL_PORT, 255, 0)] (fun d => (d.setJob 511 (runs job0)).setKtab { d.ktab 0 0 191 with sw := some { bank := [], key := 0, ramp := 0 } })],
      (s.dev.ktab 0 0 191).sw = some { bank := [], key := 0, ramp := 0 } ∧ (∀ b ∈ s.dev.tabBars 0 191, s.dev.firstUnread b ≤ 0)) ∧
    (∀ s ∈ [r [(F.DEC_UPD_SEL_KIND, 4, 0)] (fun d =>
        (d.setJob 511 { runs job0 with bars := List.replicate 8 { rd := 1, seen := 1 } }).setKtab { d.ktab 4 0 0 with sw := some { bank := [], key := 0, ramp := 0 } })],
      (s.dev.ktab 4 0 0).sw = some { bank := [], key := 0, ramp := 0 } ∧ 7 ∈ s.dev.tabBars 4 0 ∧ 0 < s.dev.firstUnread 7 ∧ s.dev.firstOpen 7 < 0 + 1) ∧
    (up.dev.ktab 4 0 0).sw = none ∧ (∀ e ∈ up.dev.jobs, e.2.st = .opened → e.2.ctx.waveSet ≠ 15) := by decide +kernel

/-- The position block runs with mode 0b01 in force and two encoders that count. -/
def straining (n0 n1 : Int) : State := posUp [(F.POS_STRAIN_CFG_ENABLE, 1, 0)] (fun d => { d with
  pos := { d.pos with mode := 1 }
  enc := setAt (setAt (d.enc.map (fun (e : EncSt) => { e with gate := true })) 0 (fun e => { e with travel := n0 })) 1 (fun e => { e with travel := n1 }) })
theorem witness_EncodersAreCounted_forms :
    (∀ s ∈ [posUp [] id], ∀ e ∈ [s.dev.encSt 3], s.dev.passes 3 0 true = true ∧ s.dev.passes 3 1 false = true ∧ e.a ≠ true ∧ e.b = false ∧ s.dev.passes 3 2 true = true) ∧
    (∀ s ∈ [posUp [(F.ENC_CFG_FILT, 7, 3)] (fun d => d.encPin 3 0 true 995)], s.dev.passes 3 0 true = false ∧ (s.dev.encSt 3).a = false) ∧
    (∀ s ∈ [posUp [(F.ENC_CFG_FILT, 7, 3)] (fun d => d.encPin 3 2 true 995)], s.dev.passes 3 2 true = false) ∧
    (∀ raw ∈ [9999999, 10000000], ∀ s ∈ [posUp [(F.POS_SPEED_CFG_GATE_MS, 10, 0)] (fun d => { d with raw := raw })],
      (raw = 10000000 → (s.dev.encSt 3).gateAt + s.dev.get F.POS_SPEED_CFG_GATE_MS * 1000000 ≤ s.dev.raw) ∧
      (raw = 9999999 → s.dev.raw < (s.dev.encSt 3).gateAt + s.dev.get F.POS_SPEED_CFG_GATE_MS * 1000000)) ∧
    (∀ k ∈ [0, 3, 4, 49, 50], ∀ e ∈ [(enc3 [] (fun e => { e with ref := some 0, count := k })).dev.encSt 3], ∀ ofs ∈ [e.corrected - 0 - roundDiv (e.corrected - 0) (100 * 256) * (100 * 256)],
      e.ref = some 0 ∧ (k ≤ 3 → ofs.natAbs ≤ 3 * 256) ∧ (4 ≤ k → 3 * 256 < ofs.natAbs)) := by decide +kernel
theorem witness_PositionStartsAndTracks_forms :
    (posUp [] (fun d => d.setJob 511 { st := .armed })).dev.anyArmed = true ∧ tracking.dev.pos.mode = 0 ∧ tracking.dev.pos.bars.length = 8 ∧
    (∀ s ∈ [({ tracking with dev := (tracking.dev.modEnc 0 (fun e => { e with travel := 2 ^ 70, edges := [(900, -1)] })) } : State)],
      (s.dev.encSt 0).edges = (900, -1) :: [] ∧ ∀ m ∈ [s.dev.measured 0], ∀ xp ∈ [s.dev.pos.x + Int.fdiv s.dev.pos.v 65536],
        ∀ x ∈ [xp + Int.fdiv ((m - (xp - Int.fdiv (Int.fdiv (s.dev.pos.v * (s.dev.T - (900 : Nat) : Int)) 1000) 65536)) * s.dev.get F.POS_LOOP_KP) 16777216],
          x < m ∧ 6 * (s.dev.get F.ENC_RATIO 0 : Int) ≤ m - x) ∧
    gapRuns.dev.posOn = true ∧ gapRuns.dev.pos.active = 2 ∧ (posUp [] (fun d => d.modPos (fun p => { p with active := 3 }))).dev.pos.active = 3 ∧ up.dev.posOn = false := by decide +kernel
theorem witness_StrainAndRedundancyAct :
    (∀ s ∈ [straining 0 0], s.dev.posOn = true ∧ s.dev.get F.POS_STRAIN_CFG_ENABLE ≠ 0 ∧ (s.dev.encSt 0).travel - s.dev.pos.strain0 = 0) ∧
    (posUp [] id).dev.get F.POS_STRAIN_CFG_ENABLE = 0 ∧ (posUp [(F.POS_STRAIN_CFG_ENABLE, 1, 0)] id).dev.pos.mode = 0 ∧ gapRuns.dev.pos.active = 2 ∧ up.dev.posOn = false ∧
    (∀ n1 ∈ [(65536000 : Int), 65540000, 80000000], ∀ s ∈ [straining 65536000 n1], s.dev.pos.mode ≠ 0 ∧ (s.dev.encSt 0).gate = true ∧ (s.dev.encSt 1).gate = true ∧
      s.dev.encSound 0 = true ∧ s.dev.encSound 1 = true ∧ s.dev.pos.active ≠ 2 ∧ ∀ d0 ∈ [(s.dev.encSt 0).travel - s.dev.pos.strain0], ∀ d1 ∈ [(s.dev.encSt 1).travel - s.dev.pos.strain1],
        0 < d0 ∧ d1 - d0 = n1 - 65536000) ∧
    (posUp [] id).dev.get F.POS_REDUN_CFG_MODE = 0 ∧ (posUp [] id).dev.pos.active ≠ 1 ∧ 0 < (posUp [] (fun d => d.modPos (fun p => { p with active := 1 }))).dev.enc.length ∧
    (∀ s ∈ [posUp [(F.POS_REDUN_CFG_MODE, 1, 0)] id], s.dev.get F.POS_REDUN_CFG_MODE ≠ 0 ∧ s.dev.anyHeld = false ∧ s.dev.pos.active < 2 ∧
      ∀ n < 2, dotsOf ((s.dev.encSt n).travel - (((s.dev.encSt n).travel :: (s.dev.encSt n).snaps).take (s.dev.get F.POS_REDUN_CFG_WINDOW_MS + 1)).getLast?.getD 0) = 0) ∧
    (∀ s ∈ [({ apart1 with dev := apart1.dev.modPos (fun p => { p with bars := p.bars.map (fun b => { b with held := some 3 }) }) } : State)], s.dev.anyHeld = true) ∧
    (∀ s ∈ [apart1, apart2], s.dev.posOn = true ∧ s.dev.anyHeld = false ∧ s.dev.pos.active < 2 ∧ 4 ≤ s.dev.enc.length ∧ s.dev.get F.POS_REDUN_CFG_MODE ≠ 0 ∧
      ∀ travel ∈ [fun n => dotsOf ((s.dev.encSt n).travel -
          (((s.dev.encSt n).travel :: (s.dev.encSt n).snaps).take (s.dev.get F.POS_REDUN_CFG_WINDOW_MS + 1)).getLast?.getD 0)],
        ∀ tolT ∈ [max (s.dev.get F.POS_REDUN_CFG2_MIN_DOTS * 4294967296) (s.dev.get F.POS_REDUN_CFG_TOL_PPM * (travel 0).natAbs / 1000000)],
        ∀ tolA ∈ [max (s.dev.get F.POS_REDUN_CFG2_MIN_DOTS * 4294967296) (s.dev.get F.POS_REDUN_CFG2_ARB_PPM * (travel 0).natAbs / 1000000)],
        ∀ f ∈ [1000000000 + s.dev.pos.eps], (tolT * 1000000000 : Int) < (travel 1 * 1000000000 - travel 0 * f).natAbs ∧
          (travel 2 - travel 0).natAbs ≤ tolA ∧ (tolA : Int) * f < (travel 2 * f - travel 1 * 1000000000).natAbs) ∧
    (∀ s ∈ [posUp [(F.POS_REDUN_CFG_MODE, 2, 0)] (fun d => { d with enc := setAt d.enc 0 (fun e => { e with travel := 2 ^ 56, snaps := [0] }) })],
      ∀ travel ∈ [fun n => dotsOf ((s.dev.encSt n).travel -
          (((s.dev.encSt n).travel :: (s.dev.encSt n).snaps).take (s.dev.get F.POS_REDUN_CFG_WINDOW_MS + 1)).getLast?.getD 0)],
        ∀ tolA ∈ [max (s.dev.get F.POS_REDUN_CFG2_MIN_DOTS * 4294967296) (s.dev.get F.POS_REDUN_CFG2_ARB_PPM * (travel 0).natAbs / 1000000)],
        tolA < (travel 2 - travel 0).natAbs ∧ (travel 2 * 1000000000 - travel 1 * 1000000000).natAbs ≤ tolA * 1000000000) := by decide +kernel
theorem witness_EncodersSwitchOver_forms :
    (∀ s ∈ [({ gapRuns with dev := gapRuns.dev.modPos (fun p => { p with gapEnd := 1001 }) } : State)], s.dev.raw < s.dev.pos.gapEnd) ∧
    (∀ s ∈ [posUp [(F.POS_REDUN_CFG3_AUTO_REVERT, 1, 0), (F.POS_REDUN_CFG3_REVERT_MS, 1, 0)] (fun d =>
        { (d.modEnc 0 (fun e => { e with agreeAt := some 0 })).modPos (fun p => { p with active := 1, crossed := true }) with raw := 1000000 })],
      s.dev.encSound 0 = true ∧ (s.dev.encSt 0).agreeAt = some 0 ∧ 0 + s.dev.get F.POS_REDUN_CFG3_REVERT_MS * 1000000 ≤ s.dev.raw ∧ s.dev.pos.crossed = true) ∧
    (∀ s ∈ [posUp [(F.POS_REDUN_CFG3_AUTO_REVERT, 0, 0)] (fun d => d.modPos (fun p => { p with active := 1, crossed := true }))], s.dev.get F.POS_REDUN_CFG3_AUTO_REVERT = 0 ∧ s.dev.pos.revert = false) ∧
    (posUp [] id).dev.pos.active ≠ 1 ∧ up.Ready .host 2 := by decide +kernel
theorem witness_CompareUnitsAndOutputs : up.Ready .cellar 0 ∧ up.dev.get F.PCMP_CFG_DIR 31 = 0 ∧ up.dev.get F.PCMP_CFG_LATE 31 = 0 ∧
    (∀ v ∈ [1 * 4294967296 + up.dev.get F.PCMP_VAL 31 % 4294967296], diff48 (Int.fdiv (up.dev.pcmpSource (up.dev.get F.PCMP_CFG_SRC 31)) 65536) (v / 65536) < 0) ∧
    (∀ v ∈ [0 * 4294967296 + up.dev.get F.PCMP_VAL 31 % 4294967296], diff48 (Int.fdiv (up.dev.pcmpSource (up.dev.get F.PCMP_CFG_SRC 31)) 65536) (v / 65536) = 0) ∧
    (∀ p ∈ [0, 5], ∀ s ∈ [r [(F.PCMP_CFG_LATE, 1, 31), (F.PCMP_PERIOD, p, 31)] id], s.dev.get F.PCMP_CFG_LATE 31 ≠ 0 ∧ s.dev.get F.PCMP_PERIOD 31 = p) ∧
    (∀ k ∈ [1, 2], (r [(F.PCMP_CFG_DIR, k, 31)] id).dev.get F.PCMP_CFG_DIR 31 = k) ∧
    (∀ t ∈ [(-1 : Int), 0, 1], ∀ s ∈ [posUp [] (fun d => d.modPos (fun p => { p with emu := p.emu.map (fun x => { x with on := true, target := t, last := 980 }) }))],
      s.dev.posOn = true ∧ (s.dev.emuSt 1).on = true ∧ s.dev.pos.active ≠ 2 ∧ (s.dev.emuSt 1).out = 0 ∧ (s.dev.emuSt 1).target = t ∧ (s.dev.emuSt 1).last + 20 ≤ s.dev.raw ∧
      s.dev.pins.emuA.length = 2 ∧ s.dev.pins.emuB.length = 2 ∧ s.dev.pins.emuZ.length = 2) ∧
    ((posUp [] (fun d => d.modPos (fun p => { p with emu := p.emu.map (fun x => { x with on := true, target := 1, last := 981 }) }))).dev.emuSt 1).last + 19 = up.dev.raw := by decide +kernel

/-- The line that bar 0 of `armedBar` is about to fire, sent at another time. -/
def lineAt (t : Int) (last : Option Int) (l : List (Field × Nat × Nat)) : State :=
  regs0 l { armedBar with dev := { armedBar.dev with
    pos := { armedBar.dev.pos with v := 1, bars := setAt armedBar.dev.pos.bars 0 (fun b => { b with ticks := [⟨7, t⟩] }) }
    fire := { armedBar.dev.fire with bars := setAt armedBar.dev.fire.bars 0 (fun x => { x with tauLast := last, period := 500 }) } } }
theorem witness_LinesAndTicklesCommit_forms :
    (∀ s ∈ [lineAt 1900 (some 1401) []], (s.dev.posBar 0).ticks = ⟨7, 1900⟩ :: [] ∧ s.dev.gateOpen = true ∧ (s.dev.fireBar 0).tauLast = some 1401 ∧
      (1900 : Int) < 1401 + (s.dev.fireBar 0).period) ∧
    (∀ s ∈ [lineAt 1900 (some 1400) []], (∀ l, (s.dev.fireBar 0).tauLast = some l → l + (s.dev.fireBar 0).period ≤ 1900)) ∧
    (∀ s ∈ [lineAt 1900 (some 1401) [(F.FIRE_RATE_CFG_DEFER_NS, 0, 0)]], (s.dev.get F.FIRE_RATE_CFG_DEFER_NS : Int) < 1901 - 1900) ∧
    (∀ s ∈ [lineAt 1900 (some 1401) [(F.FIRE_RATE_CFG_DEFER_NS, 1, 0)]], (1901 : Int) - 1900 ≤ s.dev.get F.FIRE_RATE_CFG_DEFER_NS ∧ 1901 < s.dev.crossing 0 (7 + 1)) ∧
    (∀ s ∈ [lineAt 999 none []], (s.dev.fireLine 0 7).any (fun x => decide (s.dev.firstFire x 0 999 - s.dev.T < needBar x.heads)) = true) ∧
    (∀ e ∈ tickling.dev.heads 0, tickling.dev.receives e.2.port = true ∧ e.2.port < tickling.dev.ports.length) ∧ tickling.dev.receives 9 = true ∧ armedBar.dev.tickles 0 = false := by decide +kernel
theorem witness_StopSequenceRuns_forms :
    (∀ t ∈ [990, 1000], ∀ s ∈ [({ (stops .holding (fun t => { t with dist := 5 })) with dev := { (stops .holding (fun t => { t with dist := 5 })).dev with
        raw := 10000990, fire := { armedBar.dev.fire with stop := { (stops .holding (fun t => { t with dist := 5 })).dev.fire.stop with slowSince := some t } } } } : State)],
      s.dev.fire.stop.st = .holding ∧ s.dev.fire.stop.slowSince = some t ∧ (t = 990 → t + 10000000 ≤ s.dev.raw) ∧ (t = 1000 → s.dev.raw < t + 10000000)) ∧
    (stops .holding (fun t => { t with dist := 5 })).dev.fire.stop.slowSince = none ∧ (stops .holding id).dev.allHeld = false ∧ (stops .run id).dev.fire.stop.st ≠ .waiting ∧
    (stops .holding (fun t => { t with since := 0, tmoMs := 1 })).dev.raw < 0 + 1 * 1000000 ∧ (∀ e ∈ ({ waiting.dev with jobs := [] } : Dev).running, ∀ b < 8, e.2.hasBar b = false) := by decide +kernel
theorem witness_FireInputsActs_forms : (stops .resuming id).dev.fire.stop.st ≠ .run ∧ up.dev.running = [] ∧ State.reset.dev.pwr.st ≠ .on ∧
    (∀ rate ∈ [1, 25000, 1000000], ∀ d ∈ [({ armedBar.dev with jobs := [(0, { fireJob with geo := { fireJob.geo with rateMax := rate } })], fire := { armedBar.dev.fire with warnPct := 90 } } : Dev)],
      ∀ e ∈ d.running, ∀ f ∈ [d.pos.speed.natAbs * e.2.ctx.lpi * 100], d.fire.warnPct = 90 ∧ (rate = 1 → 90 * e.2.geo.rateMax * 25400 ≤ f) ∧
        (rate = 1000000 → f < (90 - 2) * e.2.geo.rateMax * 25400)) := by decide +kernel
theorem witness_PortsPrimeAndAlign_forms :
    (r [(F.HLK_GROUP_RATE, 3, 168)] id).dev.get F.HLK_GROUP_RATE (24 * 0) = ((r [(F.HLK_GROUP_RATE, 3, 168)] id).dev.groups.getD 0 {}).rate ∧
    up.PagesOpen ∧ 3 ≤ up.dev.rights .host ∧ (r [] shut).dev.rights .host < 3 ∧ (portUp id).dev.get F.HLK_CTRL_ENABLE 191 ≠ 0 ∧ ((portUp id).dev.port 191).st ≠ .disabled ∧
    (r [] (fun d => { d with groups := d.groups.map (fun g => { g with relockAt := some 5 }) })).dev.get F.HLK_CTRL_ENABLE 191 = 0 ∧
    ((portUp id).dev.port 191).tx.mode = .on ∧ (up.dev.port 191).tx.mode ≠ .on ∧ (up.dev.port 191).st ≠ .priming ∧ (up.dev.port 191).tx.mode ≠ .priming ∧
    (∀ q ∈ [(port [] (fun q => { q with st := .idle, tx := { q.tx with mode := .priming } })).dev.port 191], q.st ≠ .priming ∧ q.tx.mode = .priming) ∧
    (∀ s ∈ [port [(F.HLK_CTRL_ENABLE, 1, 191)] (fun q => { q with st := .aligning, retryAt := some 1000 })], s.dev.get F.HLK_CTRL_ENABLE 191 ≠ 0 ∧ s.dev.fenced (.port 191) = false ∧
      (s.dev.groups.getD (191 / 24) {}).relockAt = none ∧ 1000 ≤ s.dev.raw) := by decide +kernel
/-- Ports 190 and 191 are a pair of the head map. -/
def paired (f : HlkPort → HlkPort) : State := port [] f |> fun s => { s with dev := { s.dev with
  hmap := setAt (setAt s.dev.hmap 0 (fun _ => { valid := true, pair := true, port := 190 })) 1 (fun _ => { valid := true, pair := true, port := 191 }) } }
theorem witness_HeadsAreHeard :
    (∀ s ∈ [port [] (fun q => { q with st := .aligning, bcLock := true })], 191 < s.dev.ports.length ∧ (s.dev.port 191).bcLock = true ∧ (s.dev.port 191).st = .aligning ∧ s.dev.pairOf 191 = none ∧
      (s.dev.helloFits 191 0x0FF01000 = true) ∧ s.dev.helloFits 191 0x0FF01001 = false) ∧
    (∀ q ∈ [(portUp id).dev.port 191], q.bcLock = true ∧ q.st ≠ .aligning ∧ q.st ≠ .capsFault ∧ q.linked = true) ∧
    (∀ s ∈ [paired (fun q => { q with st := .aligning, bcLock := true })], (s.dev.pairOf 191).isSome = true ∧ (s.dev.pairOf 191).map (fun e => e.1) = some 190 ∧ 190 < s.dev.ports.length ∧
      (s.dev.port 190).st = .disabled ∧ (s.dev.port 190).linked = false ∧ (0x0FF11000 : Word).toNat.testBit 16 = true ∧ s.dev.helloFits 191 0x0FF31000 = true) ∧
    (0x0FF01000 : Word).toNat.testBit 16 = false ∧
    (up.dev.port 191).bcLock = false ∧ (up.dev.port 191).st = .disabled ∧ (up.dev.port 191).errs ≤ up.dev.get F.HLK_ERR_LIMIT 191 ∧
    (∀ s ∈ [port [(F.HLK_ERR_LIMIT, 10, 191)] (fun q => { q with errs := 11 })], s.dev.get F.HLK_ERR_LIMIT 191 < (s.dev.port 191).errs ∧ s.dev.pwr.st = .on ∧ s.Ready .host 0) ∧
    (∀ t ∈ [0, 1], ∀ s ∈ [r [] (fun d => ({ d with raw := 10000000 } : Dev).modPort 191 (fun q => { q with st := .up, lastBack := t }))], (s.dev.port 191).st = .up ∧
      (t = 1 → s.dev.raw < (s.dev.port 191).lastBack + 10000000) ∧ (t = 0 → (s.dev.port 191).lastBack + 10000000 ≤ s.dev.raw)) := by decide +kernel

theorem witness_LinksAreCalibrated_forms :
    (∀ s ∈ [portUp (fun q => { q with calOn := true, calGot := [] }) |> fun s => { s with dev := { s.dev with raw := 20000 } }], (s.dev.port 191).st = .up ∧ (s.dev.port 191).tx.mode = .on ∧
      (s.dev.port 191).calOn = true ∧ (s.dev.port 191).calOut = none ∧ (s.dev.port 191).calAt + 20000 ≤ s.dev.raw ∧ (s.dev.port 191).recs = [] ∧
      (s.dev.laneTick 191).underWay 191 = false ∧ ((s.dev.laneTick 191).port 191).tx.waits = []) ∧
    (∀ q ∈ [(portUp (fun q => { q with calOut := some (9, 5) })).dev.port 191], q.calOut = some (9, 5) ∧ 9 ≠ (8 : BitVec 16).toNat ∧ 9 = (9 : BitVec 16).toNat ∧ q.bcLock = true ∧ q.st = .up) ∧
    (∀ st ∈ [LinkState.up, .calibrating], ∀ s ∈ [paired (fun q => { q with st := .calibrating, bcLock := true, calOut := some (9, 5), calGot := [40, 41, 42] }) |> fun s =>
        { s with dev := s.dev.modPort 190 (fun q => { q with st := st }) }],
      s.dev.pairOf 191 = some (190, true) ∧ s.dev.pairOf 190 = some (191, false) ∧ 190 ≠ 191 ∧ (s.dev.port 190).st = st ∧ (s.dev.port 191).st = .calibrating) ∧
    (∀ s ∈ [port [] (fun q => { q with st := .calibrating, calOut := some (9, 5), calAt := 0 }) |> fun s => { s with dev := { s.dev with raw := 1000000 } }],
      (s.dev.port 191).calOut ≠ none ∧ (s.dev.port 191).calAt + 1000000 ≤ s.dev.raw ∧ (s.dev.port 191).st = .calibrating) ∧
    (port [(F.HLK_CAL_PERIOD_MS, 0, 191)] id).dev.get F.HLK_CAL_PERIOD_MS 191 = 0 := by decide +kernel
/-- An exchange under way, and the head's reply that proves it. -/
def proving (stage : Nat) : State := portUp (fun q => { q with stage := stage, txn := 8, chal := [1, 2], nonce := [3], master := [9] })
def proof : List Nat := [0x40070000, 0, 11, 12, 13, 14] ++ byteWords (hmacSha256 ((proving 1).dev.headKey 191) ([0x48, 0x45, 0x41, 0x44] ++ [1, 2] ++ hlkBytes [11, 12, 13, 14] ++
  hlkBytes [(proving 1).dev.get F.HLK_ID 191 0, (proving 1).dev.get F.HLK_ID 191 1] ++ [191]))
/-- A reply whose MAC is right. -/
def reply : List Nat := [0x10070000, 5, 21, 22, 23, 24] ++ macWords [1] 1 5 [0x10070000, 5, 21, 22, 23, 24]
theorem witness_HeadsAreProvedAndReached_forms : (paired id).dev.oddPort 191 = true ∧ up.dev.raw < (up.dev.port 191).authAt + 2000000 ∧
    (∀ n ∈ [1, 2], ∀ q ∈ [(proving n).dev.port 191], q.linked = true ∧ q.bcLock = true ∧ q.stage = n ∧ bits 0x40070000 16 8 = (q.txn + 255) % 256 ∧ bits 0x50070000 16 8 = (q.txn + 255) % 256) ∧
    (bits 0x40070000 28 4 = 4 ∧ bits 0x40070000 24 4 = 0 ∧ (proving 1).dev.noMasterKey 191 = false ∧ proof.length = 14 ∧ (proof.drop 6).take 8 ≠ List.replicate 8 0 ∧
      (proof.map (BitVec.ofNat 32)).map (fun x => x.toNat) = proof ∧
      hlkBytes ((proof.drop 6).take 8) = hmacSha256 ((proving 1).dev.headKey 191) ([0x48, 0x45, 0x41, 0x44] ++ ((proving 1).dev.port 191).chal ++ hlkBytes ((proof.drop 2).take 4) ++
        hlkBytes [(proving 1).dev.get F.HLK_ID 191 0, (proving 1).dev.get F.HLK_ID 191 1] ++ [191])) ∧
    (portUp id).dev.noMasterKey 191 = true ∧ bits 0x50070000 28 4 = 5 ∧ bits 0x50070000 24 4 = 0 ∧ bits 0x51070000 24 4 ≠ 0 ∧
    (∀ s ∈ [portUp id], (s.dev.laneTick 191).underWay 191 = false ∧ ((s.dev.laneTick 191).port 191).tx.waits = [] ∧ (s.dev.port 191).tx.mode = .on ∧ (s.dev.port 191).linked = true) ∧
    (∀ q ∈ [(port [] (fun q => { q with st := .idle })).dev.port 191], q.st = .idle) ∧ (up.dev.port 191).memNow = none ∧ (up.dev.port 191).linked = false ∧
    (∀ s ∈ [portUp (fun q => { q with memNow := some { cmd0 with auto := true } }) |> fun s => { s with dev := { s.dev with raw := 1000000 } }],
      (s.dev.port 191).memNow = some { cmd0 with auto := true } ∧ ({ cmd0 with auto := true } : MemCmd).auto = true ∧ cmd0.sentAt + 1000000 ≤ s.dev.raw) ∧
    (∀ c ∈ [({ txn := 7, key := [1], ctr := 0 } : ClosingRead)], ∀ q ∈ [(port [] (fun q => { q with closing := some c })).dev.port 191], q.st = .disabled ∧ q.closing = some c ∧
      bits 0x14070000 28 4 = 1 ∧ bits 0x14070000 16 8 = c.txn ∧ bits 0x14080000 16 8 ≠ c.txn) ∧
    (∀ q ∈ [(portUp (fun q => { q with memNow := some cmd0 })).dev.port 191], q.stage = 0 ∧ q.memNow = some cmd0 ∧ bits 0x14080000 16 8 ≠ cmd0.txn ∧ bits 0x14070000 28 4 = cmd0.op ∧
      bits 0x14070000 16 8 = cmd0.txn) ∧
    (∀ q ∈ [(portUp (fun q => { q with session := some [1] })).dev.port 191], bits (reply.headD 0) 24 4 = 0 ∧ q.session = some [1] ∧ q.ctrRx < reply.getD 1 0 ∧ 4 ≤ reply.length ∧
      reply.drop (reply.length - 2) = macWords [1] 1 (reply.getD 1 0) (reply.take (reply.length - 2))) ∧
    (∀ s ∈ [portUp (fun q => { q with session := some [1], tx := { q.tx with mode := .on } }) |> fun s => { s with dev := { s.dev with raw := 60000000000 } }],
      (s.dev.port 191).useAt + 60000000000 ≤ s.dev.raw ∧ s.dev.oddPort 191 = false ∧ (s.dev.port 191).session ≠ none ∧ (s.dev.laneTick 191).underWay 191 = false ∧
      ((s.dev.laneTick 191).port 191).tx.waits = [] ∧ (s.dev.port 191).ctrTx < 0xFFFF0000) ∧ (portUp id).dev.port 191 ≠ {} ∧ ((portUp id).dev.port 191).session = none := by and_intros <;> decide +kernel
theorem witness_HeadRecordsGoBothWays_forms :
    (∀ again ∈ [true, false], ∀ t ∈ [0, 10000], ∀ r ∈ [({ rec0 with sent := 1, again := again, fireTime := t } : Rec)], ∀ s ∈ [portUp (fun q => { q with recs := [r] })],
      s.dev.receives 191 = true ∧ (s.dev.port 191).tx.mode = .on ∧ (s.dev.laneTick 191).underWay 191 = false ∧
      (again = true → (s.dev.port 191).recs.find? (fun x => x.again) = some r ∧ r.tickle = false ∧ (t = 0 → s.dev.resendable 191 r = false) ∧ (t = 10000 → s.dev.resendable 191 r = true)) ∧
      (again = false → (∀ x ∈ (s.dev.port 191).recs, x.sent ≠ 0 ∧ x.again = false))) ∧
    (∀ s ∈ [portUp (fun q => { q with recs := List.replicate 8 { rec0 with sent := 1 } ++ [rec0] })], (s.dev.port 191).recs.find? (fun x => x.sent = 0) = some rec0 ∧
      8 ≤ ((s.dev.port 191).recs.filter (fun x => 0 < x.sent)).length) ∧
    (∀ s ∈ [portUp (fun q => { q with tx := { q.tx with mode := .priming } })], s.dev.receives 191 = true ∧ (s.dev.port 191).tx.mode ≠ .on) ∧
    (∀ s ∈ [portUp (fun q => { q with tx := { q.tx with cur := [1], endAt := 2000 } })], (s.dev.laneTick 191).underWay 191 = true) ∧ up.dev.portHome 191 = none ∧
    ((portUp id).dev.port 191).recs.findIdx? (fun r => r.seq = 4 && 0 < r.sent) = none ∧ (0x1234 : Word).toNat.testBit 15 = false ∧
    (∀ s ∈ [portUp id |> fun s => { s with dev := s.dev.set F.HLK_CTRL_IDLE_EN 0 191 }], (s.dev.port 191).linked = true ∧ (s.dev.port 191).st = .up ∧ s.dev.get F.HLK_CTRL_IDLE_EN 191 = 0) ∧
    (∀ s ∈ [(portUp id) |> fun s => { s with dev := s.dev.set F.HLK_CTRL_IDLE_EN 1 191 }], s.dev.get F.HLK_CTRL_IDLE_EN 191 ≠ 0 ∧ (s.dev.port 191).recs = [] ∧ (s.dev.port 191).memQ = [] ∧
      (s.dev.port 191).memNow = none ∧ (s.dev.port 191).tx.waits = [] ∧ s.dev.barHas 191 (fun s => s = .armed || s = .running) = false ∧ s.dev.tickleSoon 191 50000 = false) ∧
    (∀ q ∈ [(port [] (fun q => { q with st := .idle, memQ := [cmd0] })).dev.port 191], q.st ≠ .disabled ∧ q.tx.mode = .off ∧ q.memQ ≠ []) := by and_intros <;> decide +kernel

theorem witness_DdrChannelsTrain_forms : (up.dev.get F.DDR_MAP_CH_MASK).testBit 3 = true ∧ ((up.dev.set F.DDR_MAP_CH_MASK 1).get F.DDR_MAP_CH_MASK).testBit 3 = false ∧
    ([] : List (Option (List Nat))).getD 3 none = none ∧ parseSpd (List.replicate 1024 0) (decide (up.dev.get F.DDR_C_CFG_SOLDERED 3 = 0)) = none ∧
    (up.dev.set F.DDR_C_CFG_SOLDERED 1 3).get F.DDR_C_CFG_SOLDERED 3 ≠ 0 ∧ training.dev.get F.DDR_STAT_STATE ≠ 2 ∧
    (r [(F.DDR_STAT_STATE, 2, 0), (F.SYS_STAT_PHASE, 5, 0), (F.DDR_CTRL_ENABLE, 1, 0)] id).dev.get F.SYS_STAT_PHASE = 5 ∧ (0x00000003 : Word).toNat.testBit 31 = false ∧
    (∀ c < 4, rateChanging.dev.get F.DDR_C_STAT_STATE c = 4 ∨ rateChanging.dev.get F.DDR_C_STAT_STATE c = 5 → (15 : BitVec 4).toNat.testBit c = true) := by and_intros <;> decide +kernel
theorem witness_DdrChannelsAreKept_forms :
    (∀ raw ∈ [999999, 1000000], ∀ s ∈ [chan3 4 [(F.DDR_SB_PERIOD_MS, 1, 0), (F.DDR_REF_TEMP_2X, 85, 0), (F.DDR_REF_HYST, 5, 0), (F.DDR_REF_HOT_C, 95, 0)] id |> fun s =>
        { s with dev := { s.dev with raw := raw } }], s.dev.get F.DDR_SB_PERIOD_MS = 1 ∧ (s.dev.chan 3).sensedAt = 0 ∧ s.dev.get F.DDR_REF_TEMP_2X = 85 ∧ s.dev.get F.DDR_REF_HYST = 5 ∧
        s.dev.get F.DDR_REF_HOT_C = 95 ∧ s.dev.get F.DDR_C_CFG_SOLDERED 3 = 0 ∧ (raw = 999999 → s.dev.raw < 0 + 1 * 1000000) ∧ (raw = 1000000 → 0 + 1 * 1000000 ≤ s.dev.raw)) ∧
    (signed 8 (79 : Byte).toNat < (85 : Int) - 5 ∧ (85 : Int) - 5 ≤ signed 8 (80 : Byte).toNat ∧ signed 8 (84 : Byte).toNat < (85 : Int) ∧ (85 : Int) ≤ signed 8 (85 : Byte).toNat ∧
      (95 : Int) ≤ signed 8 (95 : Byte).toNat) ∧
    (chan3 4 [(F.DDR_C_CFG_SOLDERED, 1, 3)] id).dev.get F.DDR_C_CFG_SOLDERED 3 ≠ 0 ∧
    (∀ t ∈ [0, 1], ∀ s ∈ [r [(F.DDR_TRAIN_PERIOD_MS, 10, 0)] (fun d => { d with raw := 10000000, ddr := { d.ddr with trainAt := t } })], (t = 0 → s.dev.ddr.trainAt + 10 * 1000000 ≤ s.dev.raw) ∧
      (t = 1 → s.dev.raw < s.dev.ddr.trainAt + 10 * 1000000)) ∧
    (r [(F.SYS_STAT_PHASE, 7, 0)] id).dev.get F.SYS_STAT_PHASE = 7 ∧
    (∀ s ∈ [chan3 4 [] (fun x => { x with stepsLeft := 3 }) |> fun s => { s with dev := { s.dev with ddr := { s.dev.ddr with atOnce := true } } }],
      s.dev.ddr.atOnce = true ∧ has s.dev.ddr.queue 3 = true ∧ (s.dev.chan 3).busyUntil ≤ s.dev.raw) ∧ rateChanging.dev.ddr.rateBusy = true ∧
    (∀ m ∈ [(10 : Byte)], ∀ d ∈ [(r [(F.DDR_TRAIN_MARGIN_MIN, 11, 0)] id).dev], m.toNat < d.get F.DDR_TRAIN_MARGIN_MIN) ∧ (0 : Byte).toNat = 0 := by and_intros <;> decide +kernel
/-- DRAM with a flip armed for channel 0. -/
def flipReady : State := r [(F.ECC_STAT_DRAM_DONE, 1, 0), (F.DDR_STAT_CAP_MIB, 100, 0), (F.DDR_C_STAT_STATE, 4, 0), (F.ECC_FLIP_CTRL_ARMED, 1, 0), (F.ECC_FLIP_DATA, 6, 0)]
  (fun d => { d with ddr := { d.ddr with mask := 1 } })
theorem witness_StoredDataIsKept_forms :
    (flipReady.dev.get F.ECC_FLIP_CTRL_ARMED ≠ 0 ∧ flipReady.dev.get F.ECC_FLIP_CTRL_TARGET = (flipReady.dev.chanAddr 16).1 ∧ flipReady.dev.onFenced 16 = false ∧ flipReady.dev.onDead 16 = false) ∧
    (classify 0 = .clean ∧ classify 128 = .corrected none ∧ classify 0x7F = .poisoned ∧ classify 3 = .uncorrectable) ∧
    (dramUp.dev.capBytes ≤ 100 * 1048576 ∧ 100 * 1048576 - 4 < dramUp.dev.capBytes) ∧ (dramUp.dev.modChan 0 (fun x => { x with dead := [x.rowOf (dramUp.dev.chanAddr 16).2] })).onDead 16 = true ∧
    (r [] (fun d => { d with dram := [] })).dev.dram = [] ∧ 32 ≤ fullQueue.audit.queue.length ∧
    (r [(F.ECC_STAT_SCRUB_BUSY, 1, 0)] id).dev.get F.ECC_STAT_SCRUB_BUSY ≠ 0 ∧
    (∀ d ∈ [(r [(F.ECC_STAT_DRAM_DONE, 1, 0), (F.ECC_SCRUB_LEN, 64, 0)] id).dev], d.get F.ECC_STAT_SCRUB_BUSY = 0 ∧ d.get F.ECC_STAT_DRAM_DONE ≠ 0 ∧ d.get F.ECC_SCRUB_LEN ≠ 0) ∧
    ((0x80005511 : Word).toNat % 32 = 17 ∧ (0x80005504 : Word).toNat % 32 = 4) ∧ (r [] (fun d => d.modChan 3 (fun x => { x with ledger := [] }))).dev.raw = 1000 := by and_intros <;> decide +kernel

theorem witness_CamerasReceive_forms :
    (∀ s ∈ [r [] (fun d => { d with flt := { d.flt with fences := [{ unit := .cam 3, src := 200, inst := 0 }] } })], s.dev.fenced (.cam 3) = true) ∧
    (camRuns.dev.get F.CAM_P_STAT_LOCK 1).testBit 3 = true ∧ (up.dev.get F.CAM_P_STAT_LOCK 1).testBit 3 = false ∧ (camRuns.dev.modCam 1 (fun c => { c with free := true })).camSt 1 ≠ camRuns.dev.camSt 1 ∧
    (∀ x ∈ [(camRuns.dev.modCam 1 (fun c => { c with image := 5 })).camSt 1], x.free = false ∧ x.resync = false ∧ (∀ f ∈ x.frames, f.no ≠ x.image)) ∧
    (∀ x ∈ [(camRuns.dev.modCam 1 (fun c => { c with resync := true, frameNo := 9 })).camSt 1], x.resync = true ∧ (9 : BitVec 16).toNat = x.frameNo % 65536) ∧
    (∀ x ∈ [imaging.dev.camSt 1], (∀ g ∈ (camRuns.dev.camSt 1).frames, g.no ≠ 7) ∧ x.current = some 0) ∧
    (∀ x ∈ [(imaging.dev.modCam 1 (fun c => { c with frames := [{ no := 0, first := 0, lines := 40, got := 40 }] })).camSt 1],
      (x.frames.find? (fun g => g.no = 0)).any (fun f => f.lines ≤ f.got) = true) ∧ (5 : BitVec 4).toNat ≠ (camRuns.dev.camSt 1).format := by and_intros <;> decide +kernel
theorem witness_CamerasAreControlled_forms : (0x00050004 : Word).toNat.testBit 31 = false ∧ 5001000 ≤ ({ ctlBusy.dev with raw := 5001000 } : Dev).raw ∧
    up.dev.get F.CAM_P_STAT_STATE 1 = 0 ∧ 4 * 1 + 4 ≤ ([1, 2, 3, 4, 5, 6, 7, 8] : List Byte).length ∧ State.reset.dev.pwr.st ≠ .on := by decide +kernel
theorem witness_StripsAndNozzlesAct_forms :
    (∀ v ∈ [[{ strip0 with complete := true }, { strip0 with complete := false }]], ∀ s ∈ [r [] (fun d => { d with vin := { d.vin with strips := v } })],
      s.dev.vin.strips = [strip0] ++ { strip0 with complete := false } :: [] ∧ strip0.complete = true) ∧
    ((strips2 strip0).dev.setJob 0 { st := .draining }).job 0 = { st := .draining } ∧ up.dev.job 0 = {} ∧
    (∀ s ∈ [r [] (fun d => { d with pwr := { d.pwr with running := false } })], s.dev.procOn = false) ∧
    (256 ≤ (r [] (fun d => { d with vin := { d.vin with noz := List.replicate 256 ⟨0, 0, 0, true⟩ } })).dev.vin.noz.length) ∧ (0x80050123 : Word).toNat / 2 ^ 30 = 2 ∧
    (∀ e ∈ ([⟨0, 0, 0, true⟩] : List NozEntry), e.held = true) := by and_intros <;> decide +kernel
theorem witness_CalibrationIsKept_forms : State.reset.dev.pwr.st ≠ .on ∧ RegFile.find 8 up.dev.vin.lastAuto = none ∧ (0x700 : Word).toNat.testBit 0 = false ∧
    (∀ s ∈ [r [(F.NVM_STAT_SUSPENDED, 1, 0)] (fun d => { d with vin := { d.vin with writing := [(8, true)] } })], s.dev.get F.NVM_STAT_SUSPENDED ≠ 0 ∧ s.dev.vin.writing = (8, true) :: []) ∧
    ((writing 8).dev.cask (25 + 8)).testBit 31 = false ∧ (((writing 8).dev.setCask (25 + 8) (2 ^ 31)).cask (25 + 8)).testBit 31 = true := by and_intros <;> decide +kernel
theorem witness_LampsAreDriven_forms :
    (∀ s ∈ [spiLamp], ∀ e ∈ [(s.dev.modLamp 0 (fun y => { y with still := false, on := true })).gainStep 0], s.dev.lampStill 0 = false ∧
      isDim (e.dutyOut 0 (s.dev.get F.LMP_C_PWM_DUTY 0)) (10 * s.dev.get F.LMP_C_PWM_PERIOD 0) = false) ∧
    (lit [(F.LMP_C_CFG_MODE, 4, 0)] id).dev.get F.LMP_C_CFG_MODE 0 = 4 ∧ (lit [(F.LMP_C_CFG_MODE, 0, 0)] id).dev.get F.LMP_C_CFG_MODE 0 = 0 ∧
    (∀ s ∈ [lit [] (fun d => { d with flt := { d.flt with fences := [{ unit := .lamp 0, src := 200, inst := 0 }] } })], s.dev.fenced (.lamp 0) = true ∧ s.dev.lampHeld 0 = false) ∧
    (∀ s ∈ [lit [] (fun d => { d with lamps := { d.lamps with slowAt := some 0, passed := true } })], s.dev.lampStill 1 = true ∧ s.dev.lampHeld 1 = false) ∧
    ((0x00100000 : Word).toNat.testBit 20 = true ∧ (0 : Word).toNat.testBit 20 = false) ∧
    (∀ m ∈ [2, 3], ∀ s ∈ [lit [(F.LMP_C_CFG_MODE, m, 0)] (fun d => d.modLamp 0 (fun x => { x with await := 1, judge := 15 }))], s.dev.get F.LMP_C_CFG_MODE 0 = m ∧
      (s.dev.lampCh 0).judge.testBit (if m = 2 then (3 : Fin 32).val else 0) = true ∧ 0 < (s.dev.lampCh 0).await) ∧
    (∀ n ∈ [0, 9], ∀ s ∈ [lit [(F.LMP_C_CFG_MODE, 3, 0)] (fun d => d.modLamp 0 (fun x => { x with next := some [(3, 4)], sentRows := n }))], (s.dev.lampCh 0).next.isSome = true ∧
      (n = 0 → (s.dev.lampCh 0).sentRows < s.dev.lampRows 0) ∧ (n = 9 → s.dev.lampRows 0 ≤ (s.dev.lampCh 0).sentRows)) := by and_intros <;> decide +kernel
theorem witness_TimeIsSteered_forms : (∀ s ∈ [r [(F.TB_CTRL_FOLLOW, 1, 0), (F.TB_CTRL_AUTO, 1, 0), (F.TB_D_STAT_STATE, 2, 1)] id], s.dev.get F.TB_D_STAT_STATE (1 - 1) ≠ 2 ∧
    s.dev.get F.TB_CTRL_AUTO ≠ 0 ∧ s.dev.get F.TB_D_STAT_STATE (2 - 1) = 2 ∧ (s.dev.domT (2 - 1) - s.dev.fineT).natAbs ≤ s.dev.get F.TB_CFG2_CONFIRM_TOL * 2 ^ 32) ∧
    State.reset.dev.pwr.st ≠ .on := by decide +kernel
theorem witness_DomainsChangeState_forms : up.Ready .host 0 ∧ ((domain 3 [] id).dev.get F.TB_D_STAT_PERSIST 1 ≠ 64) ∧
    (∀ s ∈ [domain 3 [(F.TB_D_STAT_PERSIST, 64, 1), (F.TB_D_STAT_HCAUSE, 2, 1)] id], s.dev.get F.TB_D_STAT_PERSIST 1 = 64 ∧ 2 ≤ s.dev.get F.TB_D_STAT_HCAUSE 1) ∧
    (∀ s ∈ [domain 1 [] (fun x => { x with force := true })], (s.dev.dom 1).force = true) ∧ (∀ s ∈ [domain 1 [] (fun x => { x with first := true })], (s.dev.dom 1).first = true) ∧
    (∀ s ∈ [domain 3 [] (fun x => { x with cand := 0 })], decide ((((0xFFFFFFFF : Word).toNat : Int) - (s.dev.dom 1).cand).natAbs ≤ s.dev.get F.TB_CFG2_PD_STEP_LIMIT * 256) = false ∧
      decide ((((1 : Word).toNat : Int) - (s.dev.dom 1).cand).natAbs ≤ s.dev.get F.TB_CFG2_PD_STEP_LIMIT * 256) = true) := by and_intros <;> decide +kernel
/-- A PTP event frame. -/
def ptpFrame : List Nat := List.replicate 12 0 ++ [0x88, 0xF7] ++ List.replicate 50 0
theorem witness_PulsesAndFrames_forms :
    (∀ late ∈ [0, 1], ∀ s ∈ [armed [(F.TCMP_PERIOD, 10, 2), (F.TCMP_CFG_LATE, late, 2)]], s.dev.get F.TCMP_PERIOD 2 = 10 ∧ s.dev.get F.TCMP_CFG_LATE 2 = late ∧
      0 ≤ signed 64 (unsigned 64 ((s.dev.T : Int) - ((s.dev.get F.TCMP_VAL 2 + 10) % 2 ^ 64 : Nat)))) ∧
    signed 64 (unsigned 64 ((up.dev.T : Int) - up.dev.get F.TCMP_VAL 7)) < 0 + 1001 ∧ (armed []).dev.pins.ppsOut = false ∧ State.reset.dev.pwr.st ≠ .on ∧
    (ptpOffset ptpFrame).isSome = true ∧ (∀ d ∈ [(ethUp ringsOn).dev.set F.ETH_P_CFG_ONE_STEP 1 0], d.get F.ETH_P_CFG_ONE_STEP 0 ≠ 0) ∧ (0x00060040 : Word).toNat.testBit 17 = true ∧
    (0x00060040 : Word).toNat.testBit 18 = true ∧ (0x00060040 : Word).toNat % 2 ^ 14 = 64 ∧ be16 ptpFrame (typeAt ptpFrame) ≠ 0x86DD ∧
    be16 (List.replicate 12 0 ++ [0x86, 0xDD]) (typeAt (List.replicate 12 0 ++ [0x86, 0xDD])) = 0x86DD ∧ (ethUp ringsOn).dev.ethDesc 0 1 = none := by and_intros <;> decide +kernel

theorem witness_FaultsAreReported_forms : (camRuns.dev.get F.CAM_P_STAT_LOCK ((44 - 40) / 4)).testBit ((44 - 40) % 4) = true ∧ (up.dev.get F.CAM_P_STAT_LOCK ((55 - 40) / 4)).testBit ((55 - 40) % 4) = false ∧
    (∀ cls ∈ [1], ∀ s ∈ [classed cls 310], s.dev.classOf 310 = cls ∧ s.dev.get F.FLT_CFG_SHADOW_US ≠ 0 ∧ s.dev.unitsOf 250 0 ≠ []) ∧
    (∀ s ∈ [r [] (fun d => { d with flt := { d.flt with shadows := [⟨d.listOf 310 0 ++ [310], 0, 5000⟩] } })], s.dev.consequential 310 = true) ∧
    (∀ n ∈ [1000, 1001], ∀ s ∈ [r [] (fun d => { d with flt := { d.flt with wireAt := some (200, n) } })], s.dev.flt.wireAt = some (200, n) ∧ (n = 1000 → ¬ s.dev.raw < n) ∧ (n = 1001 → s.dev.raw < n)) ∧
    has equalWires.dev.flt.eq (fkey 200 0) = true ∧ (∀ x ∈ equalWires.dev.flt.eq, x = fkey 200 0 ∨ x / 256 / 32 ≠ 200 / 32) ∧ up.dev.pwr.booted = false ∧
    (power [] (fun p => { p with booted := true })).dev.pwr.booted = true ∧ up.dev.pins.perst = true := by and_intros <;> decide +kernel
theorem witness_FaultsAreHandled_forms : inPages 0x4000000 = false ∧ bitKeys 0x4000000 0x20 0x100 = none ∧ 2 ≤ up.dev.rights .host ∧ bitKeys 0x3000 0x20 0x100 = none ∧ inPages 0x3118 = true ∧
    up.dev.flt.due = [] ∧ (∀ p ∈ [true, false], ∀ s ∈ [r [(F.FLT_CFG_IN_HB, 1, 0)] (fun d => { d with pins := { d.pins with fltInP := !p, fltInN := p } })], s.dev.get F.FLT_CFG_IN_HB ≠ 0 ∧
      s.dev.pins.fltInP = (!p) ∧ s.dev.pins.fltInN = p) ∧ (∀ p ∈ [true, false], ∀ s ∈ [r [(F.FLT_CFG_IN_HB, 1, 0)] (fun d => { d with pins := { d.pins with fltInP := p } })], s.dev.pins.fltInP = p) ∧
    (∀ s ∈ [r [] (fun d => { d with flt := { d.flt with released := true } })], s.dev.flt.released = true) := by and_intros <;> decide +kernel
/-- A thermal record whose magic and checksum are right. -/
def thermalWords : List Nat := let l := 0x4B54484D :: List.replicate 22 0; l ++ [crc32 (wordBytes l)]
theorem witness_TemperaturesAreWatched_forms : (∀ g ∈ [2, 3], ∀ s ∈ [regs0 [(F.THM_SENS_FAILED, 1, 11)] (sensor 11 (fun x => { x with goods := g }))], s.dev.get F.THM_SENS_FAILED 11 ≠ 0 ∧
      (s.dev.sensor 11).goods = g) ∧ (BitVec.ofInt 16 1200).toInt * 32 + 0 = 38400 ∧ 38400 < (32768 : Int) + 5633 ∧
    (∀ s ∈ [r [(F.THM_THR_CFG_SLOW_MS, 1, 0), (F.THM_STAT_SLOW_REQ, 1, 0)] (fun d => d.modThm (fun t => { t with throtAt := some 0 }))], s.dev.get F.THM_STAT_SLOW_REQ ≠ 0 ∧ s.dev.thm.throtAt = some 0) ∧
    shutDown.dev.thm.shutAt = some 1000 ∧ 1000 + 200000 ≤ shutDown.dev.raw ∧ shutDown.dev.pwr.st = .on ∧ shutDown.Ready .host 2 ∧
    (∀ s ∈ [regs0 [(F.THM_STAT_SHUT_LATCH, 1, 0)] (r [] (fun d => { d.modThm (fun t => { t with ackLow := 2 }) with mram := { d.mram with thermal := [⟨0, thermalWords⟩] } }))],
      s.dev.get F.THM_STAT_SHUT_LATCH ≠ 0 ∧ s.dev.thm.ackLow = 2 ∧ s.dev.thm.shutAt = none ∧ s.dev.newestThermal.isSome = true) := by and_intros <;> decide +kernel
/-- A boot image of one word that this part accepts, as words. -/
def goodImage : List Nat := [0x4B54424F, 0x10000, 0, 4, 0] ++ byteWords (sha256 (bytesLE 4 77)) ++ List.replicate 51 0 ++ [77]
def goodWindow : State := regs0 [(F.SYS_STAT_PHASE, 3, 0)] (power [] (fun p => { p with bootWin := goodImage.zipIdx.foldl (fun (m : RegFile) e => if e.1 = 0 then m else m.put e.2 e.1) p.bootWin }))
theorem witness_PartBoots_forms : (up.dev.checkImage (goodImage.flatMap (bytesLE 4))).isSome = true ∧ up.dev.checkImage [] = none ∧ goodWindow.Ready .host 2 ∧ goodWindow.dev.get F.SYS_STAT_PHASE = 3 ∧
    (goodWindow.dev.checkImage goodWindow.dev.windowBytes).isSome = true ∧ (power [] (fun p => { p with heldRst := true, running := false })).dev.pwr.heldRst = true ∧
    43 ≤ up.dev.bond.cask0.length ∧ (0x123 : Word).toNat.testBit 31 = false := by and_intros <;> decide +kernel
theorem witness_PartRests_forms : sleeping.dev.ddr.queue = [] ∧ (∀ st ∈ [0, 1, 2], (power [(F.SYS_STAT_PHASE, st, 0)] id).dev.get F.SYS_STAT_PHASE ≠ 6) ∧ up.dev.safe.applying = none ∧ up.Ready .host 1 ∧
    4 ≤ up.dev.get F.SYS_STAT_PHASE := by and_intros <;> decide +kernel

end

/-! ### Reads and the line code -/

def late : State := r [] (fun d => { d with tb := { d.tb with t0 := 0x1234567890123456 * 4294967296 } })
def heldRead : State := { late with audit := { late.audit with stalled := [(.host, 0xD0, .sysFenceRead .host)] } }
/-- R12 and R391: TB_TIME's high word is the one latched with its low word. -/
theorem test_busRead_latch :
    (late.busRead ⟨.host, .bar0, 0xD0060, 15, false⟩).bind (fun x => (({ x.2 with dev := { x.2.dev with tb := up.dev.tb } } : State).busRead
      ⟨.host, .bar0, 0xD0064, 15, false⟩).map (fun y => (x.1, y.1))) = some (0x90123456 + 1000, 0x12345678) := by decide +kernel
/-- R38: a read waits behind the earlier write of its requester to its page. -/
theorem test_busRead_waits : heldRead.busRead ⟨.host, .bar0, 0xD0060, 15, false⟩ = none ∧
    (heldRead.busRead ⟨.cellar, .bar0, 0xD0060, 15, false⟩).isSome := by decide +kernel
theorem witness_ReadsAreAnswered : late.PagesOpen ∧ heldRead.PagesOpen ∧ (∀ y ∈ heldRead.audit.stalled, y.1 = .cellar → y.2.1 ≠ 0xD0) ∧
    (∃ y ∈ heldRead.audit.stalled, y.1 = .host ∧ y.2.1 = 0xD0060 / 0x1000) ∧ inPages 0xD0060 = true ∧ 0xD0060 % 0x1000 ≠ 0x28 ∧
    inPages 0x6000 = false ∧ inMsix 0x6000 = false ∧ Region.size .bar0 ≤ 0x4000000 := by decide +kernel

def laneIn : LaneRx := { hunting := false, blind := false, words := 253 }
/-- R242 and R244: a receiver that hunts finds the marker, with its number. -/
theorem test_lane_marker : (LaneRx.steps (markerBits 37) {}).2 = [.marker 37] ∧ (LaneRx.steps (markerBits 37) {}).1.hunting = false := by decide +kernel
/-- R239 to R245: a frame's bits, scrambled and stuffed, give the frame; an inverted bit gives a bad frame. -/
theorem test_lane_frame : (LaneRx.steps (LaneTx.puts 1024 (frameWords 3 6 [0]) {}).1 laneIn).2 = [.frame 6 [0]] ∧
    (LaneRx.steps (false :: (LaneTx.puts 1024 (frameWords 3 6 [0]) {}).1.tail) laneIn).2 ≠ [.frame 6 [0]] := by decide +kernel
theorem witness_LaneFramesArrive : laneIn.hunting = false ∧ laneIn.blind = false ∧ laneIn.skip = 0 ∧ laneIn.frame = [] ∧ laneIn.nbits = 0 ∧ laneIn.word = 0 ∧
    laneIn.scr = ({} : LaneTx).scr ∧ laneIn.run = ({} : LaneTx).run ∧ laneIn.runBit = ({} : LaneTx).runBit ∧ ({} : LaneTx).run < 24 ∧
    0 < laneIn.words ∧ laneIn.words + [0].length + 2 ≤ 256 ∧ ({} : LaneTx).words + [0].length + 2 ≤ 1024 := by decide +kernel

end Sys2Proof.Tests
end

section
/-! PROOF. The bonded-store digest (R73) and the cask words that a commit gives it (R71, R77): bytes and words least significant first, the shape of a SHA-256
digest, cask words under a write, and the commit assembled from them. -/

namespace Sys2Proof.Machine

/-! ### Bytes of a number (R2) -/

@[simp] theorem length_bytesLE (n v : Nat) : (bytesLE n v).length = n := by
  induction n generalizing v with
  | zero => rfl
  | succ n ih => simp [bytesLE, ih]

@[simp] theorem length_bytesBE (n v : Nat) : (bytesBE n v).length = n := by simp [bytesBE]

theorem lt_of_mem_bytesLE {n v b : Nat} (h : b ∈ bytesLE n v) : b < 256 := by
  induction n generalizing v with
  | zero => simp [bytesLE] at h
  | succ n ih =>
    rcases List.mem_cons.mp h with rfl | h
    · exact Nat.mod_lt _ (by decide)
    · exact ih h

theorem lt_of_mem_bytesBE {n v b : Nat} (h : b ∈ bytesBE n v) : b < 256 :=
  lt_of_mem_bytesLE (List.mem_reverse.mp h)

/-- The bytes of the number that some bytes form are those bytes. -/
theorem bytesLE_ofBytesLE {l : List Nat} (h : ∀ b ∈ l, b < 256) : bytesLE l.length (ofBytesLE l) = l := by
  induction l with
  | nil => rfl
  | cons b l ih =>
    obtain ⟨hb, hl⟩ := List.forall_mem_cons.mp h
    have hmod : (b % 256 + 256 * ofBytesLE l) % 256 = b := by omega
    have hdiv : (b % 256 + 256 * ofBytesLE l) / 256 = ofBytesLE l := by omega
    rw [List.length_cons, ofBytesLE, bytesLE, hmod, hdiv, ih hl]

theorem ofBytesLE_lt (l : List Nat) : ofBytesLE l < 256 ^ l.length := by
  induction l with
  | nil => simp [ofBytesLE]
  | cons b l ih =>
    have hb : b % 256 < 256 := Nat.mod_lt _ (by decide)
    rw [ofBytesLE, List.length_cons, Nat.pow_succ]
    omega

theorem ofBytesLE_take_lt (l : List Nat) (w : Nat) : ofBytesLE (l.take w) < 256 ^ w :=
  (ofBytesLE_lt _).trans_le (Nat.pow_le_pow_right (by decide) (List.length_take_le w l))

/-- The same of a piece that lies within a list of bytes. -/
theorem bytesLE_ofBytesLE_piece {l : List Nat} (h : ∀ b ∈ l, b < 256) {i w : Nat} (hi : i + w ≤ l.length) :
    bytesLE w (ofBytesLE ((l.drop i).take w)) = (l.drop i).take w := by
  have hlen : ((l.drop i).take w).length = w := by rw [List.length_take, List.length_drop]; omega
  have := bytesLE_ofBytesLE (l := (l.drop i).take w) fun b hb => h b (List.mem_of_mem_drop (List.mem_of_mem_take hb))
  rwa [hlen] at this

/-- Consecutive pieces of w elements, put together, are the start of the list. -/
theorem flatMap_range_take_drop {α : Type} (w n : Nat) (l : List α) :
    (List.range n).flatMap (fun k => (l.drop (w * k)).take w) = l.take (w * n) := by
  induction n with
  | zero => simp
  | succ n ih => simp [List.range_succ, ih, Nat.mul_succ, List.take_add]

/-! ### A SHA-256 digest is 32 bytes -/

@[simp] theorem length_digestRound (v : List (BitVec 32)) (k : BitVec 32) : (digestRound v k).length = v.length := by
  unfold digestRound; split <;> rfl

@[simp] theorem length_digestBlock (v block : List (BitVec 32)) : (digestBlock v block).length = v.length := by
  simp only [digestBlock, List.length_zipWith]
  rw [foldl_keeps List.length digestRound length_digestRound, Nat.min_self]

@[simp] theorem length_sha256 (l : List Nat) : (sha256 l).length = 32 := by
  simp only [sha256, List.length_flatMap, length_bytesBE, List.map_const', List.sum_replicate]
  rw [foldl_keeps List.length digestBlock length_digestBlock]
  rfl

theorem lt_of_mem_sha256 {l : List Nat} {b : Nat} (h : b ∈ sha256 l) : b < 256 := by
  obtain ⟨w, -, hb⟩ := List.mem_flatMap.mp h
  exact lt_of_mem_bytesBE hb

/-! ### The bonded-store digest (R73) -/

@[simp] theorem length_bondDigest (v : List Nat) : (bondDigest v).length = 8 := by simp [bondDigest]

/-- The eight words of the digest, as bytes, are the SHA-256 of the values' bytes. -/
theorem flatMap_bytesLE_bondDigest (v : List Nat) : (bondDigest v).flatMap (bytesLE 4) = sha256 (v.flatMap (bytesLE 4)) := by
  have hword : ∀ k ∈ List.range 8, bytesLE 4 (ofBytesLE (((sha256 (v.flatMap (bytesLE 4))).drop (4 * k)).take 4)) =
      ((sha256 (v.flatMap (bytesLE 4))).drop (4 * k)).take 4 := fun k hk => by
    have hk8 := List.mem_range.mp hk
    exact bytesLE_ofBytesLE_piece (fun _ => lt_of_mem_sha256) (by rw [length_sha256]; omega)
  calc (bondDigest v).flatMap (bytesLE 4)
      = (List.range 8).flatMap (fun k => ((sha256 (v.flatMap (bytesLE 4))).drop (4 * k)).take 4) := by
        rw [bondDigest, List.flatMap_map]; exact List.flatMap_congr hword
    _ = sha256 (v.flatMap (bytesLE 4)) := by
        rw [flatMap_range_take_drop]; exact List.take_of_length_le (by simp)

theorem lt_of_mem_bondDigest {v : List Nat} {x : Nat} (h : x ∈ bondDigest v) : x < 2 ^ 32 := by
  obtain ⟨k, -, rfl⟩ := List.mem_map.mp h
  exact ofBytesLE_take_lt _ 4

/-! ### Cask words under a write (R77) -/

/-- Every SRAM copy holds all 64 cask words. -/
def Dev.CasksWhole (d : Dev) : Prop := d.bond.cask0.length = 64 ∧ d.bond.cask1.length = 64 ∧ d.bond.cask2.length = 64

theorem majority_self (a : Nat) : majority a a a = a := by simp [majority]

theorem getD_setAt {α : Type} (l : List α) (i k : Nat) (f : α → α) (x : α) :
    (setAt l i f).getD k x = if k = i ∧ k < l.length then f (l.getD k x) else l.getD k x := by
  by_cases hk : k < l.length <;> by_cases hi : i = k <;> simp [setAt, hk, hi, eq_comm]

theorem Dev.casksWhole_setCask {d : Dev} (h : d.CasksWhole) (n v : Nat) : (d.setCask n v).CasksWhole := by
  simpa [Dev.CasksWhole, Dev.setCask, Dev.mramWrote, setAt] using h

/-- A written cask word is read back as 32 bits; every other one stays. -/
theorem Dev.cask_setCask {d : Dev} (h : d.CasksWhole) {n : Nat} (hn : n < 64) (v k : Nat) :
    (d.setCask n v).cask k = if k = n then v % 2 ^ 32 else d.cask k := by
  obtain ⟨h0, h1, h2⟩ := h
  simp only [Dev.cask, Dev.setCask, Dev.mramWrote, Dev.bump_bond, getD_setAt, h0, h1, h2]
  by_cases hk : k = n
  · simp [hk, hn, majority_self]
  · simp [hk]

@[simp] theorem Dev.pairs_setCask (d : Dev) (n v : Nat) : (d.setCask n v).bond.pairs = d.bond.pairs := rfl

@[simp] theorem Dev.pairs_setCasks (d : Dev) (n : Nat) (vs : List Nat) : (d.setCasks n vs).bond.pairs = d.bond.pairs :=
  foldl_keeps (fun e : Dev => e.bond.pairs) (fun e k => e.setCask (n + k) (vs.getD k 0)) (fun _ _ => rfl) _ d

/-- Successive writes, m of them from word n on. -/
theorem Dev.cask_foldl_setCask {d : Dev} (h : d.CasksWhole) {n m : Nat} (hm : n + m ≤ 64) (g : Nat → Nat) :
    ((List.range m).foldl (fun e i => e.setCask (n + i) (g i)) d).CasksWhole ∧
    ∀ k, ((List.range m).foldl (fun e i => e.setCask (n + i) (g i)) d).cask k =
      if n ≤ k ∧ k < n + m then g (k - n) % 2 ^ 32 else d.cask k := by
  induction m with
  | zero => exact ⟨h, fun k => (if_neg (by omega)).symm⟩
  | succ m ih =>
    obtain ⟨hw, hc⟩ := ih (by omega)
    simp only [List.range_succ, List.foldl_append, List.foldl_cons, List.foldl_nil]
    refine ⟨Dev.casksWhole_setCask hw .., fun k => ?_⟩
    rw [Dev.cask_setCask hw (by omega), hc]
    by_cases hk : k = n + m
    · subst hk; simp
    · have : k < n + (m + 1) ↔ k < n + m := by omega
      simp only [hk, if_false, this]

theorem Dev.casksWhole_setCasks {d : Dev} (h : d.CasksWhole) {n : Nat} {vs : List Nat} (hn : n + vs.length ≤ 64) : (d.setCasks n vs).CasksWhole :=
  (Dev.cask_foldl_setCask h hn _).1

/-- Cask words that are written in a row are read back as 32 bits each; every other one stays. -/
theorem Dev.cask_setCasks {d : Dev} (h : d.CasksWhole) {n : Nat} {vs : List Nat} (hn : n + vs.length ≤ 64) (k : Nat) :
    (d.setCasks n vs).cask k = if n ≤ k ∧ k < n + vs.length then vs.getD (k - n) 0 % 2 ^ 32 else d.cask k :=
  (Dev.cask_foldl_setCask h hn _).2 k

/-! ### A store that is put in force (R71) -/

@[simp] theorem Dev.pairs_putBond (d : Dev) (v : List Nat) : (d.putBond v).bond.pairs = v.map bondPair := by
  simp [Dev.putBond, Bonded.feed]

/-- Cask words 4 to 11 take the digest, and the role digests behind them leave it there. -/
theorem Dev.cask_putBond {d : Dev} (h : d.CasksWhole) {v : List Nat} (hv : v.length = 27) :
    (List.range 8).map (fun k => (d.putBond v).cask (4 + k)) = bondDigest v := by
  have hb : ({ d with bond := ({ d.bond with pairs := v.map bondPair } : Bonded).feed } : Dev).CasksWhole := h
  have hd : 4 + (bondDigest v).length ≤ 64 := by simp
  have hr : 12 + (v.drop 15).length ≤ 64 := by simp [hv]
  refine List.ext_getElem (by simp) fun k hk hk' => ?_
  have hk8 : k < 8 := by simpa using hk
  have hout : ¬(12 ≤ 4 + k ∧ 4 + k < 12 + (v.drop 15).length) := by omega
  have hin : 4 ≤ 4 + k ∧ 4 + k < 4 + (bondDigest v).length := by rw [length_bondDigest]; omega
  rw [List.getElem_map, List.getElem_range, Dev.putBond, Dev.cask_setCasks (Dev.casksWhole_setCasks hb hd) hr, if_neg hout,
    Dev.cask_setCasks hb hd, if_pos hin, Nat.add_sub_cancel_left, List.getD_eq_getElem _ _ hk']
  exact Nat.mod_eq_of_lt (lt_of_mem_bondDigest (List.getElem_mem hk'))

@[simp] theorem length_applyEntries (old : List Nat) (staged : List (Nat × Nat)) : (applyEntries old staged).length = old.length := by
  simp only [applyEntries, setAt, List.length_modify]
  exact foldl_keeps List.length _ (fun _ _ => List.length_modify ..) _ _

theorem length_changedEntries_le (old new : List Nat) : (changedEntries old new).length ≤ 27 :=
  (List.length_filter_le _ _).trans (by simp)

theorem map_fst_bondPair (v : List Nat) : (v.map bondPair).map (fun p => p.1) = v := by
  rw [List.map_map]; exact List.map_id v

/-! ### The commit keeps the store that it puts in force -/

/-- The bonded store is out of a report's reach. -/
theorem Dev.bond_of_fixed {d e : Dev} (h : d.fixed = e.fixed) : d.bond = e.bond := by
  simp only [Dev.fixed, Prod.mk.injEq] at h
  obtain ⟨-, ⟨-, hbond, -⟩, -⟩ := h
  exact hbond

@[simp] theorem Dev.bond_endRefused (d : Dev) (rq : Requester) : (d.endRefused rq).bond = d.bond := by
  simp only [Dev.endRefused]
  split
  · cases rq <;> rfl
  · rfl

@[simp] theorem Dev.bond_checkRoleKeys (d : Dev) : d.checkRoleKeys.bond = d.bond := by
  simp only [Dev.checkRoleKeys, Dev.bond_endRefused]
  exact Dev.bond_of_fixed (Dev.fixed_reportLevel ..)

@[simp] theorem State.bond_checkStaged (s : State) : s.checkStaged.dev.bond = s.dev.bond := by
  simp only [State.checkStaged]
  split
  · rfl
  · split
    · simp [Dev.mramWrote]
    · rfl

@[simp] theorem State.dev_foldl_pushAudit {β : Type} (rq : Option Requester) (f : State → β → AuditEntry) (l : List β) (s : State) :
    (l.foldl (fun s e => s.pushAudit rq (f s e)) s).dev = s.dev :=
  foldl_keeps State.dev (fun s e => s.pushAudit rq (f s e)) (fun _ _ => rfl) l s

@[simp] theorem State.bond_commitBond (s : State) (agent : Nat) (v : List Nat) : (s.commitBond agent v).dev.bond = (s.dev.putBond v).bond := by
  simp only [State.commitBond, State.bond_checkStaged, State.onDev_dev, Dev.bond_checkRoleKeys, State.dev_foldl_pushAudit, Dev.mramWrote, Dev.bump_bond]

/-- A commit with room in the audit queue and MRAM writes not suspended takes place (R71). -/
theorem exec_safeCommitApply_run {s : State} {staged : List (Nat × Nat)} (ha : s.dev.safe.applying = some staged) (hk : s.dev.staged = none)
    (hs : s.dev.get F.NVM_STAT_SUSPENDED = 0) (hq : s.audit.queue.length + 27 ≤ 32) :
    exec (.safeCommitApply true) s = .next ((s.commitBond 3 (applyEntries (s.dev.bond.pairs.map (·.1)) staged)).onDev
      (fun d => ({ d with safe := { d.safe with applying := none } } : Dev).set F.SAFE_PORT_STAT_BUSY 0)) := by
  have hroom : s.hasRoom (changedEntries (s.dev.bond.pairs.map (·.1)) (applyEntries (s.dev.bond.pairs.map (·.1)) staged)).length = true := by
    have := length_changedEntries_le (s.dev.bond.pairs.map (·.1)) (applyEntries (s.dev.bond.pairs.map (·.1)) staged)
    simp only [State.hasRoom, decide_eq_true_eq]
    omega
  simp [exec, execSafeCommitApply, ha, hk, hroom, Dev.flag, hs]

/-- Settles O30: SHA-256 gives 32 bytes, which the eight words hold four each; a commit writes those words to cask words 4 to 11, and nothing after it in the
commit reaches the store or these words. -/
theorem bondedDigestIsSha256 : Obligations.BondedDigestIsSha256 := by
  refine ⟨fun v _ => ⟨length_bondDigest v, flatMap_bytesLE_bondDigest v⟩, ?_⟩
  intro s staged ha hk hs hq hp h0 h1 h2
  have hlen : (applyEntries (s.dev.bond.pairs.map (·.1)) staged).length = 27 := by simp [hp]
  refine ⟨_, exec_safeCommitApply_run ha hk hs hq, by simp [hp], ?_⟩
  have hcask := Dev.cask_putBond (d := s.dev) ⟨h0, h1, h2⟩ hlen
  simpa only [Dev.cask, State.onDev_dev, Dev.set_bond, State.bond_commitBond, Dev.pairs_putBond, map_fst_bondPair] using hcask

end Sys2Proof.Machine
end

section
/-! PROOF. TB_CMD.CAPTURE (R390): the device that a permitted write leaves, what its capture registers show, and what else it may change. -/

namespace Sys2Proof.Machine

/-! ### Stores within a set of keys -/

theorem Dev.sameRegsBut_refl (d : Dev) (keys : List Nat) : d.SameRegsBut d keys := fun _ _ _ _ => rfl

/-- A field stored at one of the keys changes no register outside them. -/
theorem Dev.SameRegsBut.set {d e : Dev} {keys : List Nat} (h : d.SameRegsBut e keys) {f : Field} {i j : Nat} (hk : f.key i j ∈ keys) (v : Nat) :
    d.SameRegsBut (e.set f v i j) keys := fun g i' j' hg =>
  (Dev.get_set_ne e f g v i j i' j' (fun he => hg (he ▸ hk))).trans (h g i' j' hg)

/-! ### The captured device -/

theorem Dev.T_lt (d : Dev) : d.T < 2 ^ 64 := Nat.mod_lt _ (by decide)

/-- The device with R, T, T_0 and T_1 in the capture registers, and the command done. -/
def Dev.captured (d : Dev) : Dev :=
  (((((d.set F.TB_CAP_RAW d.raw).set F.TB_CAP_T d.T).set F.TB_CAP_D (d.domT 0 / 2 ^ 32).toNat 0).set F.TB_CAP_D (d.domT 1 / 2 ^ 32).toNat 1).set
    F.TB_CMD_CODE 0).set F.TB_CMD_DONE 1

/-- The keys of the registers that a capture stores. -/
def captureKeys : List Nat :=
  [F.TB_CAP_RAW, F.TB_CAP_T, F.TB_CMD_DONE, F.TB_CMD_CODE].map (fun f => f.key 0 0) ++ (List.range 2).map (fun k => F.TB_CAP_D.key k 0)

/-- On an open page TB_CMD.CAPTURE needs no role and is not audited: it captures, and that is all. -/
theorem timeCapture_gives {s : State} {rq : Requester} (h : s.Ready rq 0) : Gives (.timeCapture rq) s s.dev.captured := by
  have hf : (fieldsAt (canonAddr rq 0xD0058)).all (fun x => !x.1.stores) = true := by cases rq <;> decide +kernel
  have hexec : exec (.timeCapture rq) s = .next (s.row rq (.timeCapture rq) 0xD0058 1 ⟨0, none⟩ Dev.captured) := rfl
  rw [State.row_none h _ _ _ _ _ (by decide) hf (by decide) rfl rfl] at hexec
  exact hexec

theorem Dev.get_captured_raw (d : Dev) : d.captured.get F.TB_CAP_RAW = d.raw % 2 ^ 64 := by
  simp only [Dev.captured]
  iterate 5 rw [Dev.get_set_ne (h := by decide)]
  exact Dev.get_set_self ..

theorem Dev.get_captured_T (d : Dev) : d.captured.get F.TB_CAP_T = d.T := by
  simp only [Dev.captured]
  iterate 4 rw [Dev.get_set_ne (h := by decide)]
  exact (Dev.get_set_self ..).trans (Nat.mod_eq_of_lt d.T_lt)

theorem Dev.get_captured_D (d : Dev) {k : Nat} (hk : k < 2) : d.captured.get F.TB_CAP_D k = (d.domT k / 2 ^ 32).toNat % 2 ^ 64 := by
  simp only [Dev.captured]
  iterate 2 rw [Dev.get_set_ne (h := by simp only [Field.key, Field.addr, F.TB_CAP_D, F.TB_CMD_DONE, F.TB_CMD_CODE]; omega)]
  match k, hk with
  | 0, _ =>
    rw [Dev.get_set_ne (h := by decide)]
    exact Dev.get_set_self ..
  | 1, _ => exact Dev.get_set_self ..

/-- A capture stores its four values, DONE and CODE, and no other register. -/
theorem Dev.sameRegsBut_captured (d : Dev) : d.SameRegsBut d.captured captureKeys :=
  ((((((Dev.sameRegsBut_refl d _).set (by decide) _).set (by decide) _).set (by decide) _).set (by decide) _).set (by decide) _).set (by decide) _

/-- Settles O31: a permitted write leaves exactly the captured device, which differs from the device of the write's tick in the capture registers, DONE and
CODE alone. -/
theorem captureLatchesOneTick : Obligations.CaptureLatchesOneTick := fun _ s h =>
  ⟨s.dev.captured, timeCapture_gives h, s.dev.get_captured_raw, s.dev.get_captured_T, fun _ hk => s.dev.get_captured_D hk, s.dev.sameRegsBut_captured, rfl⟩

end Sys2Proof.Machine
end

section
/-! PROOF. The lees log (R415): what an entry that joins it leaves, what its window shows, and POP. -/

namespace Sys2Proof.Machine

/-! ### An interrupt cause of the FLT page -/

/-- A message that falls due leaves the registers alone. -/
@[simp] theorem Dev.regs_msixDue (d : Dev) (v : Nat) : (d.msixDue v).regs = d.regs := by
  simp only [Dev.msixDue]; split <;> rfl

@[simp] theorem Dev.flt_msixDue (d : Dev) (v : Nat) : (d.msixDue v).flt = d.flt := by
  simp only [Dev.msixDue]; split <;> rfl

/-- The registers after a cause is set: its bit of the status word. -/
theorem Dev.regs_irq (d : Dev) (st en : Field) (k : Nat) (v : Option Field) (i : Nat) : (d.irq st en k v i).regs = (d.raiseBit st k i).regs := by
  cases v with
  | none => rfl
  | some v => simp only [Dev.irq]; split <;> simp

@[simp] theorem Dev.flt_irq (d : Dev) (st en : Field) (k : Nat) (v : Option Field) (i : Nat) : (d.irq st en k v i).flt = d.flt := by
  cases v with
  | none => rfl
  | some v => simp only [Dev.irq]; split <;> simp

theorem Dev.get_irq (d : Dev) (st en : Field) (k : Nat) (v : Option Field) (i : Nat) (f : Field) (i' j' : Nat) :
    (d.irq st en k v i).get f i' j' = (d.raiseBit st k i).get f i' j' := by
  simp only [Dev.get, Dev.regs_irq]

/-- A bit that has been set is read back as 1, within the field. -/
theorem Dev.testBit_raiseBit (d : Dev) (f : Field) {k : Nat} (hk : k < f.width) (i j : Nat) : ((d.raiseBit f k i j).get f i j).testBit k = true := by
  simp [Dev.raiseBit, Nat.testBit_two_pow_self, hk]

/-! ### An entry joins the log -/

theorem Dev.log_logPush (d : Dev) (e : LogEntry) :
    (d.logPush e).flt.log = (if d.flt.log.length < 16 then d.flt.log else d.flt.log.tail) ++ [e] := by
  simp only [Dev.logPush, List.drop_one]; split <;> simp [Dev.fltIrq, *]

/-- While a place is free no register changes. -/
theorem Dev.regs_logPush_of_lt {d : Dev} (h : d.flt.log.length < 16) (e : LogEntry) : (d.logPush e).regs = d.regs := by
  simp only [Dev.logPush, if_pos h]

/-- A full log's entry raises OVERWRITES, which stops at its largest value. -/
theorem Dev.overwrites_logPush {d : Dev} (h : ¬ d.flt.log.length < 16) (e : LogEntry) :
    (d.logPush e).get F.FLT_LOG_STAT_OVERWRITES = Nat.min 65535 (d.get F.FLT_LOG_STAT_OVERWRITES + 1) := by
  have htop : Nat.min 65535 (d.get F.FLT_LOG_STAT_OVERWRITES + 1) < 2 ^ F.FLT_LOG_STAT_OVERWRITES.width :=
    (Nat.min_le_left ..).trans_lt (by decide)
  simp only [Dev.logPush, if_neg h, Dev.fltIrq]
  rw [Dev.get_irq, Dev.raiseBit, Dev.get_set_ne (h := by decide), Dev.get_bump_self, sat_min]
  exact Nat.mod_eq_of_lt htop

/-- A full log's entry sets OVERWRITE. -/
theorem Dev.irqStat_logPush {d : Dev} (h : ¬ d.flt.log.length < 16) (e : LogEntry) : ((d.logPush e).get F.FLT_IRQ_STAT).testBit 4 = true := by
  simp only [Dev.logPush, if_neg h, Dev.fltIrq]
  rw [Dev.get_irq]
  exact Dev.testBit_raiseBit _ _ (by decide) ..

/-! ### Its window and POP -/

/-- On an open page FLT_LOG_CTRL.POP needs no role and is not audited: the oldest entry goes, and that is all. -/
theorem pop_gives {s : State} {rq : Requester} (h : s.Ready rq 0) : Gives (.pop rq) s { s.dev with flt := { s.dev.flt with log := s.dev.flt.log.tail } } := by
  have hf : (fieldsAt (canonAddr rq 0x3054)).all (fun x => !x.1.stores) = true := by cases rq <;> decide +kernel
  have hexec : exec (.pop rq) s =
      .next (s.row rq (.pop rq) 0x3054 1 ⟨0, none⟩ (fun d => { d with flt := { d.flt with log := d.flt.log.drop 1 } })) := rfl
  rw [State.row_none h _ _ _ _ _ (by decide) hf (by decide) rfl rfl] at hexec
  rw [Gives, ← List.drop_one]
  exact hexec

/-- A word of the FLT page that is no stored field is the collector's. -/
theorem Dev.ownWord_flt (d : Dev) (rq : Requester) {a : Nat} (hlo : 0x3000 ≤ a) (hhi : a < 0x4000) : d.ownWord rq a = d.fltWord a := by
  simp only [Dev.ownWord, Bool.and_eq_true, decide_eq_true_eq]
  iterate 8 rw [if_neg (by omega)]
  rw [if_pos ⟨hlo, hhi⟩]

/-- A word of the FLT page without stored fields, behind the common layout, is live as the collector's. -/
theorem State.liveWord_flt (s : State) (rq : Requester) {a : Nat} (hlo : 0x3028 ≤ a) (hhi : a < 0x4000) (hf : fieldsAt a = []) :
    s.liveWord rq a = s.dev.fltWord a := by
  have hcanon : canonAddr rq a = a := by
    simp only [canonAddr, Bool.and_eq_true, decide_eq_true_eq]
    iterate 2 rw [if_neg (by omega)]
  have hword : s.dev.word a = 0 := by rw [Dev.word, hf]; rfl
  simp only [State.liveWord, hcanon, hword, Bool.and_eq_true, decide_eq_true_eq]
  iterate 7 rw [if_neg (by omega)]
  rw [Nat.zero_add, Dev.ownWord_flt _ _ (by omega) hhi]

/-- On open pages a word of the log's window shows the collector's word there: it holds no stored field and no latch. -/
theorem State.readWord_logData {s : State} (h : s.PagesOpen) (rq : Requester) {k : Nat} (hk : k < 6) :
    s.readWord rq (0x3060 + 4 * k) = s.dev.fltWord (0x3060 + 4 * k) := by
  have hplain : ∀ k < 6, inPages (0x3060 + 4 * k) = true ∧ isLatched (0x3060 + 4 * k) = false ∧ fieldsAt (0x3060 + 4 * k) = [] := by decide +kernel
  obtain ⟨hpages, hlatch, hfields⟩ := hplain k hk
  rw [State.readWord, hpages, Dev.pageOpen_of h.1 h.2, hlatch]
  exact State.liveWord_flt s rq (by omega) (by omega) hfields

/-- The word shows the oldest entry's word, or 0. -/
theorem Dev.fltWord_logData (d : Dev) {k : Nat} (hk : k < 6) :
    d.fltWord (0x3060 + 4 * k) = (match d.flt.log with | [] => 0 | e :: _ => e.words.getD k 0) := by
  have hdiv : (0x3060 + 4 * k - 0x3060) / 4 = k := by omega
  simp only [Dev.fltWord, hdiv]
  rw [if_neg (by omega), if_neg (by omega), if_pos (by simp; omega)]
  cases d.flt.log <;> rfl

/-- Settles O33: a push by the log's length, and the window and POP by the log that they find. -/
theorem leesLogHoldsSixteen : Obligations.LeesLogHoldsSixteen := by
  refine ⟨fun d e hle => ⟨?_, fun hlt => ⟨?_, Dev.regs_logPush_of_lt hlt e⟩, fun hfull => ?_⟩,
    fun rq s h => ⟨pop_gives h, fun k hk => (State.readWord_logData h.1 rq hk).trans (Dev.fltWord_logData _ hk)⟩⟩
  · rw [Dev.log_logPush]; split <;> simp <;> omega
  · rw [Dev.log_logPush, if_pos hlt]
  · have hn : ¬ d.flt.log.length < 16 := by omega
    exact ⟨by rw [Dev.log_logPush, if_neg hn], Dev.overwrites_logPush hn e, Dev.irqStat_logPush hn e⟩

end Sys2Proof.Machine
end

section
/-! PROOF. The wire test (R413). First what the blocks that a reaction reaches leave of the collector's own books; then that a report leaves the wires, the test and its source
alone; then the write of FLT_WIRE_TEST and the end of the test. -/

namespace Sys2Proof.Machine

/-! ### The collector's books, out of the other blocks' reach -/

/-- The collector's books but for the sources that have fallen due, and the registers of the pages up to its own. -/
def Dev.books (d : Dev) : FltSt × (Nat → Option Nat) :=
  ({ d.flt with due := [] }, fun k => if k < 0x4000 * 64 then d.regs.find k else none)

theorem RegFile.find_set_ne {k : Nat} {f : Field} {i j : Nat} (h : k ≠ f.key i j) (r : RegFile) (v : Nat) : (r.set f i j v).find k = r.find k := by
  simp only [RegFile.set]; split
  · rw [RegFile.find_drop_ne h]
  · rw [RegFile.find_put_ne h, RegFile.find_drop_ne h]

/-- A field of a later page than the collector's. -/
theorem Dev.books_set (d : Dev) (f : Field) (v i j : Nat) (h : 0x4000 ≤ f.base) : (d.set f v i j).books = d.books := by
  have hfind : ∀ k < 0x4000 * 64, (d.regs.set f i j v).find k = d.regs.find k := fun k hk =>
    RegFile.find_set_ne (by simp only [Field.key, Field.addr]; omega) ..
  refine Prod.ext rfl (funext fun k => ?_)
  by_cases hk : k < 0x4000 * 64
  · simpa only [Dev.books, Dev.set, if_pos hk] using hfind k hk
  · simp only [Dev.books, if_neg hk]

theorem Dev.books_bump (d : Dev) (f : Field) (i j n : Nat) (h : 0x4000 ≤ f.base) : (d.bump f i j n).books = d.books := Dev.books_set _ _ _ _ _ h
theorem Dev.books_raiseBit (d : Dev) (f : Field) (k i j : Nat) (h : 0x4000 ≤ f.base) : (d.raiseBit f k i j).books = d.books := Dev.books_set _ _ _ _ _ h

/-- The books stand in two parts of the device. -/
theorem Dev.books_congr {d e : Dev} (hf : d.flt = e.flt) (hr : d.regs = e.regs) : d.books = e.books := by simp only [Dev.books, hf, hr]

theorem Dev.books_irq (d : Dev) (st en : Field) (k : Nat) (v : Option Field) (i : Nat) (h : 0x4000 ≤ st.base) : (d.irq st en k v i).books = d.books := by
  have hbit : (d.irq st en k v i).books = (d.raiseBit st k i).books := Dev.books_congr (by rw [Dev.flt_irq, Dev.raiseBit_flt]) (Dev.regs_irq ..)
  rw [hbit, Dev.books_raiseBit _ _ _ _ _ h]

@[simp] theorem Dev.books_emit (d : Dev) (o : Output) : (d.emit o).books = d.books := rfl
@[simp] theorem Dev.books_modPort (d : Dev) (p : Nat) (f : HlkPort → HlkPort) : (d.modPort p f).books = d.books := rfl
@[simp] theorem Dev.books_modTx (d : Dev) (p : Nat) (f : LaneTx → LaneTx) : (d.modTx p f).books = d.books := rfl
@[simp] theorem Dev.books_modJob (d : Dev) (i : Nat) (f : Job → Job) : (d.modJob i f).books = d.books := rfl
@[simp] theorem Dev.books_modCam (d : Dev) (n : Nat) (f : CamSt → CamSt) : (d.modCam n f).books = d.books := rfl
@[simp] theorem Dev.books_modCtx (d : Dev) (n : Nat) (f : IspCtx → IspCtx) : (d.modCtx n f).books = d.books := rfl
@[simp] theorem Dev.books_purge (d : Dev) (n : Nat) : (d.purge n).books = d.books := rfl
@[simp] theorem Dev.books_lamps (d : Dev) (l : LampSt) : ({ d with lamps := l } : Dev).books = d.books := rfl
@[simp] theorem Dev.books_owe (d : Dev) (s : Nat) : (d.owe s).books = d.books := rfl

/-! ### Job records and defect ranges -/

@[simp] theorem Dev.books_pushJobRec (d : Dev) (i t st ev c l : Nat) : (d.pushJobRec i t st ev c l).books = d.books := by
  simp only [Dev.pushJobRec]; split
  · rfl
  · exact Dev.books_bump _ _ _ _ _ (by decide)

@[simp] theorem Dev.books_closeRange (d : Dev) (i : Nat) (g : DefectRange) : (d.closeRange i g).books = d.books := by simp [Dev.closeRange]

@[simp] theorem Dev.books_closeRanges (d : Dev) (i : Nat) (p : DefectRange → Bool) : (d.closeRanges i p).books = d.books :=
  foldl_keeps Dev.books _ (fun _ _ => Dev.books_closeRange ..) _ _

@[simp] theorem Dev.books_joinRange (d : Dev) (i b c l : Nat) : (d.joinRange i b c l).books = d.books := by
  simp only [Dev.joinRange]; split
  · split
    · rfl
    · split <;> simp
  · simp

@[simp] theorem Dev.books_addRange (d : Dev) (i b c l : Nat) : (d.addRange i b c l).books = d.books := by
  have hothers : ((d.jobs.filter (fun e => e.1 ≠ i)).foldl (fun d e => d.closeRanges e.1 (fun g => g.bar = b)) d).books = d.books :=
    foldl_keeps Dev.books _ (fun _ _ => Dev.books_closeRanges ..) _ _
  simp only [Dev.addRange]
  split <;> simpa using hothers

/-! ### Lanes and ports -/

@[simp] theorem Dev.books_lineOut (d : Dev) (p : Nat) (b : List Bool) : (d.lineOut p b).books = d.books := by
  simp only [Dev.lineOut]; split <;> rfl

@[simp] theorem Dev.books_putFrame (d : Dev) (p n : Nat) : (d.putFrame p n).books = d.books := by simp [Dev.putFrame]

@[simp] theorem Dev.books_laneStart (d : Dev) (p t : Nat) (w : List Nat) : (d.laneStart p t w).books = d.books := by simp [Dev.laneStart]

@[simp] theorem Dev.books_laneTick (d : Dev) (p : Nat) : (d.laneTick p).books = d.books := by
  simp only [Dev.laneTick]; split
  · rfl
  · split
    · simp
    · split <;> simp

@[simp] theorem Dev.books_laneSend (d : Dev) (p t : Nat) (w : List Nat) : (d.laneSend p t w).books = d.books := by simp [Dev.laneSend]

@[simp] theorem Dev.books_sendTime (d : Dev) (p : Nat) : (d.sendTime p).books = d.books := by
  simp only [Dev.sendTime, Dev.books_laneSend, Dev.books_modPort]

@[simp] theorem Dev.books_markerOut (d : Dev) (p : Nat) : (d.markerOut p).books = d.books := by
  simp only [Dev.markerOut, Dev.books_sendTime, Dev.books_lineOut, Dev.books_emit, Dev.books_modTx, Dev.books_modPort]

@[simp] theorem Dev.books_laneAbort (d : Dev) (p : Nat) : (d.laneAbort p).books = d.books := by
  simp only [Dev.laneAbort]; split
  · rfl
  · split <;> simp

@[simp] theorem Dev.books_laneFlush (p k : Nat) (d : Dev) : (Dev.laneFlush p k d).books = d.books := by
  induction k generalizing d with
  | zero => rfl
  | succ k ih =>
    simp only [Dev.laneFlush]; split
    · simp [ih]
    · split <;> simp [ih]

@[simp] theorem Dev.books_laneDrain (d : Dev) (p : Nat) : (d.laneDrain p).books = d.books := by
  simp only [Dev.laneDrain]; split <;> simp

@[simp] theorem Dev.books_laneReady (d : Dev) (p : Nat) : (d.laneReady p).books = d.books := by
  simp only [Dev.laneReady, Dev.books_sendTime, Dev.books_lineOut, Dev.books_modTx, Dev.books_modPort]

@[simp] theorem Dev.books_laneOff (d : Dev) (p : Nat) : (d.laneOff p).books = d.books := rfl

@[simp] theorem Dev.books_wakeLane (d : Dev) (p : Nat) : (d.wakeLane p).books = d.books := by
  simp only [Dev.wakeLane]; split <;> simp [Dev.primeLane]

@[simp] theorem Dev.books_inhibitPort (d : Dev) (p r : Nat) : (d.inhibitPort p r).books = d.books := by
  simp only [Dev.inhibitPort, Dev.books_modPort]
  rw [foldl_keeps Dev.books]
  · simp
  · intro a b; split <;> simp

@[simp] theorem Dev.books_inhibitAll (d : Dev) : d.inhibitAll.books = d.books :=
  foldl_keeps Dev.books _ (fun _ _ => by split <;> simp) _ _

@[simp] theorem Dev.books_memDone (d : Dev) (p st : Nat) : (d.memDone p st).books = d.books := by
  simp (disch := decide) only [Dev.memDone, Dev.books_irq, Dev.books_set]

@[simp] theorem Dev.books_leavePort (d : Dev) (p r : Nat) (n : LinkState) (b : Bool) : (d.leavePort p r n b).books = d.books := by
  simp only [Dev.leavePort, Dev.books_modTx, Dev.books_modPort]; split <;> split <;> simp

@[simp] theorem Dev.books_disablePort (d : Dev) (p : Nat) (l : List (Nat × List Nat)) : (d.disablePort p l).books = d.books := by
  simp only [Dev.disablePort]; split
  · rfl
  · simp only [Dev.books_modPort, Dev.books_laneOff, Dev.books_laneDrain]
    rw [foldl_keeps Dev.books _ (fun _ _ => Dev.books_laneSend ..)]; simp

/-! ### Lamps and the stop sequence -/

@[simp] theorem Dev.books_lampMark (d : Dev) (c st : Nat) : (d.lampMark c st).books = d.books := by
  simp only [Dev.lampMark]; split
  · rfl
  · split <;> simp (disch := decide) only [Dev.books_irq, Dev.books_set]

@[simp] theorem Dev.books_lampGate (d : Dev) : d.lampGate.books = d.books := by
  simp only [Dev.lampGate]; split
  · exact foldl_keeps Dev.books _ (fun _ _ => by split <;> simp) _ _
  · rfl

@[simp] theorem Dev.books_settle (d e : Dev) : (Dev.settle d e).books = e.books := by
  simp only [Dev.settle]; split <;> split <;> simp

@[simp] theorem Dev.books_stopTrigger (d : Dev) (c : Nat) : (d.stopTrigger c).books = d.books := by
  simp only [Dev.stopTrigger]; split
  · rw [Dev.books_irq _ _ _ _ _ _ (by decide)]; rfl
  · rfl

/-! ### Cameras and the image pipeline -/

@[simp] theorem Dev.books_vinKeep (d : Dev) (k : Nat) (f : CtxFrame) : (d.vinKeep k f).books = d.books := by
  simp only [Dev.vinKeep]; split <;> rfl

@[simp] theorem Dev.books_ringWrite (d : Dev) (kind unit base size wr : Nat) (b : List Nat) : (d.ringWrite kind unit base size wr b).books = d.books := by
  simp only [Dev.ringWrite]; split <;> simp

theorem Dev.books_ringRecord {d e : Dev} {kind unit base size wr rd n : Nat} {b : List Nat}
    (h : d.ringRecord kind unit base size wr rd b = some (e, n)) : e.books = d.books := by
  simp only [Dev.ringRecord] at h
  split at h
  · simp only [Option.some.injEq, Prod.mk.injEq] at h; rw [← h.1, Dev.books_ringWrite]
  · cases h

@[simp] theorem Dev.books_ctxFrameEnd (d : Dev) (k : Nat) (f : CtxFrame) : (d.ctxFrameEnd k f).books = d.books := by
  have hlost : ∀ e : Dev, (if f.dropped ≠ 0 then (e.bump F.ISP_K_CNT_INCOMPLETE k).irq F.ISP_IRQ_STAT F.ISP_IRQ_EN (8 + k) (some F.ISP_VEC) else e).books
      = e.books := fun e => by split <;> simp (disch := decide) only [Dev.books_irq, Dev.books_bump]
  simp (disch := decide) only [Dev.ctxFrameEnd, Dev.books_vinKeep, hlost, Dev.books_irq]
  split
  · rfl
  · split
    · rename_i h; rw [Dev.books_set _ _ _ _ _ (by decide), Dev.books_ringRecord h]
    · simp (disch := decide) only [Dev.books_irq, Dev.books_bump]

@[simp] theorem Dev.books_streamPut (d : Dev) (k j : Nat) (f : CtxFrame) (o : Nat) (a : IspAcc) : (d.streamPut k j f o a).1.books = d.books := by
  simp only [Dev.streamPut]; split
  · rfl
  · split
    · rename_i h; rw [Dev.books_set _ _ _ _ _ (by decide), Dev.books_ringRecord h]
    · simp (disch := decide) only [Dev.streamLost, Dev.books_irq, Dev.books_bump]

@[simp] theorem Dev.books_cutFrame (d : Dev) (k : Nat) (f : CtxFrame) : (d.cutFrame k f).books = d.books := by
  simp only [Dev.cutFrame]
  split
  · rw [Dev.books_owe, Dev.books_ctxFrameEnd, foldl_keeps (fun x : Dev × CtxFrame => x.1.books) _ (fun _ _ => by split <;> simp)]
  · rw [Dev.books_ctxFrameEnd, foldl_keeps (fun x : Dev × CtxFrame => x.1.books) _ (fun _ _ => by split <;> simp)]

@[simp] theorem Dev.books_endCtxFrames (d : Dev) (n : Nat) : (d.endCtxFrames n).books = d.books :=
  foldl_keeps Dev.books _ (fun _ _ => (Dev.books_modCtx ..).trans (foldl_keeps Dev.books _ (fun _ _ => Dev.books_cutFrame ..) _ _)) _ _

@[simp] theorem Dev.books_ctlDown (d : Dev) (n : Nat) : (d.ctlDown n).books = d.books := by
  simp only [Dev.ctlDown]; split
  · simp (disch := decide) only [Dev.ctlEnd, Dev.books_irq, Dev.books_modCam, Dev.books_set]
  · rfl

@[simp] theorem Dev.books_stopCamera (d : Dev) (n : Nat) : (d.stopCamera n).books = d.books := by
  simp only [Dev.stopCamera]; split
  · rfl
  · simp (disch := decide) only [Dev.books_modCam, Dev.books_endCtxFrames, Dev.books_ctlDown, Dev.books_set]

@[simp] theorem Dev.books_stopIsp (d : Dev) : d.stopIsp.books = d.books :=
  foldl_keeps Dev.books _ (fun _ _ => (Dev.books_purge ..).trans (Dev.books_endCtxFrames ..)) _ _

@[simp] theorem Dev.books_fenceChannel (d : Dev) (c : Nat) : (d.fenceChannel c).books = d.books := by
  simp only [Dev.fenceChannel]; split
  · change ((d.set F.DDR_C_STAT_STATE 6 c).raiseBit F.DDR_STAT_FENCED c).books = d.books
    simp (disch := decide) only [Dev.books_raiseBit, Dev.books_set]
  · rfl

/-- What a fence does to its unit leaves the collector's books. -/
@[simp] theorem Dev.books_fenceEffect (d : Dev) (u : FUnit) : (d.fenceEffect u).books = d.books := by
  cases u <;> simp (disch := decide) [Dev.fenceEffect, Dev.books_set]

/-! ### Wires under a report -/

/-- The keys whose wires read equal, the wire test under way, and the source stored for it. -/
def Dev.wires (d : Dev) := (d.flt.eq, d.flt.wireAt, d.get F.FLT_WIRE_TEST_SRC)

/-- The wires are part of the books. -/
theorem Dev.wires_of_books {d e : Dev} (h : e.books = d.books) : e.wires = d.wires := by
  have hflt : ({ e.flt with due := [] } : FltSt) = { d.flt with due := [] } := congrArg Prod.fst h
  have hsrc := congrFun (congrArg Prod.snd h) (F.FLT_WIRE_TEST_SRC.key 0 0)
  have hpage : F.FLT_WIRE_TEST_SRC.key 0 0 < 0x4000 * 64 := by decide
  simp only [FltSt.mk.injEq] at hflt
  simp only [Dev.books, if_pos hpage] at hsrc
  simp [Dev.wires, Dev.get, RegFile.get, hsrc, hflt]

/-- A field other than the stored source. -/
theorem Dev.wires_set (d : Dev) (f : Field) (v i j : Nat) (h : F.FLT_WIRE_TEST_SRC.key 0 0 ≠ f.key i j) : (d.set f v i j).wires = d.wires := by
  simp only [Dev.wires, Dev.set_flt, Dev.get_set_ne _ _ _ _ _ _ _ _ h]

@[simp] theorem Dev.wires_fltIrq (d : Dev) (k : Nat) : (d.fltIrq k).wires = d.wires := by
  have hset := Dev.wires_set d F.FLT_IRQ_STAT (d.get F.FLT_IRQ_STAT ||| 2 ^ k) 0 0 (by decide)
  simpa only [Dev.fltIrq, Dev.wires, Dev.flt_irq, Dev.get_irq, Dev.raiseBit, Dev.set_flt] using hset

@[simp] theorem Dev.wires_logPush (d : Dev) (e : LogEntry) : (d.logPush e).wires = d.wires := by
  simp only [Dev.logPush]; split
  · rfl
  · rw [Dev.wires_fltIrq, Dev.bump, Dev.wires_set _ _ _ _ _ (by decide)]; rfl

@[simp] theorem Dev.wires_fenceUnits (d : Dev) (s i : Nat) : (d.fenceUnits s i).wires = d.wires :=
  foldl_keeps Dev.wires _ (fun _ _ => by rw [Dev.wires_of_books (Dev.books_fenceEffect ..)]; rfl) _ _

/-- No reaction drives or frees a wire. -/
@[simp] theorem Dev.wires_react (d : Dev) (s i : Nat) : (d.react s i).wires = d.wires := by
  simp only [Dev.react]; split
  · rfl
  · split
    · rfl
    · split
      · rw [Dev.wires_fltIrq, Dev.wires_fenceUnits]
      · exact (Dev.wires_fltIrq ..).trans (Dev.wires_fenceUnits d s i)
  · rw [Dev.wires_fltIrq, Dev.wires_of_books (Dev.books_stopTrigger ..)]; rfl
  · rw [Dev.wires_fltIrq, Dev.wires_of_books (Dev.books_settle ..)]; rfl

@[simp] theorem Dev.wires_event (d : Dev) (s i : Nat) : (d.event s i).wires = d.wires := by
  have hlogged : ∀ e : LogEntry, ∀ st : List Nat,
      ((((({ d with flt := { d.flt with status := st } } : Dev).logPush e).set F.FLT_STATE_LAST_SRC s).fltIrq 0)).wires = d.wires := fun e st => by
    rw [Dev.wires_fltIrq, Dev.wires_set _ _ _ _ _ (by decide), Dev.wires_logPush]; rfl
  simp only [Dev.event]; split
  · exact hlogged ..
  · rw [Dev.wires_react]; exact hlogged ..

@[simp] theorem Dev.wires_look (d : Dev) (k : Nat) : (d.look k).wires = d.wires := by
  simp only [Dev.look]; split
  · exact Dev.wires_event ..
  · rfl

@[simp] theorem Dev.wires_drain (d : Dev) : d.drain.wires = d.wires :=
  foldl_keeps Dev.wires (fun d src => d.detect (fkey src 0)) (fun _ _ => Dev.wires_look ..) _ _

@[simp] theorem Dev.wires_noteLive (d : Dev) (k : Nat) : (d.noteLive k).wires = d.wires := by rw [Dev.noteLive, Dev.wires_drain, Dev.wires_look]

/-- A report drives and frees no wire. -/
@[simp] theorem Dev.wires_report (d : Dev) (s i : Nat) : (d.report s i).wires = d.wires := Dev.wires_noteLive ..

/-! ### Status bits under a report -/

/-- A live key that is looked at has its status bit set. -/
theorem Dev.has_status_noteLive {d : Dev} {k : Nat} (h : d.flt.live k = true) : has (d.noteLive k).flt.status k = true := by
  have hkey : fkey (k / 256) (k % 256) = k := by simp only [fkey]; omega
  refine Dev.has_status_drain ?_
  simp only [Dev.look, h, Bool.true_and]
  split
  · rw [Dev.status_event, hkey]; exact has_insertOnce_self ..
  · next hset => simpa using hset

theorem Dev.has_status_noteLive_of {d : Dev} {k : Nat} (h : has d.flt.status k = true) (x : Nat) : has (d.noteLive x).flt.status k = true :=
  Dev.has_status_drain (Dev.has_status_look h x)

/-! ### Wires that read equal (R399) -/

/-- Equal wires join those that read equal; the test and its source stay. -/
theorem Dev.wires_pairEqual (d : Dev) (k : Nat) : (d.pairEqual k).wires = (insertOnce d.flt.eq k, d.flt.wireAt, d.get F.FLT_WIRE_TEST_SRC) := by
  have hreport := Dev.wires_report d (k / 256 / 32) 0
  simp only [Dev.wires, Prod.mk.injEq] at hreport
  obtain ⟨heq, hat, hsrc⟩ := hreport
  rw [Dev.pairEqual, Dev.wires_noteLive]
  simp only [Dev.wires, Dev.get_with_flt, heq, hat, hsrc]

/-- Equal wires set no status bit back. -/
theorem Dev.has_status_pairEqual_of {d : Dev} {k : Nat} (h : has d.flt.status k = true) (x : Nat) : has (d.pairEqual x).flt.status k = true := by
  have hreport : has (d.report (x / 256 / 32)).flt.status k = true := Dev.has_status_report_of h _ 0
  rw [Dev.pairEqual]
  refine Dev.has_status_noteLive_of ?_ x
  exact hreport

/-- A key's wires read equal, and it and its bank's WIRE_PAIR are reported. -/
def Dev.ReadsEqual (d : Dev) (k : Nat) : Prop :=
  has d.flt.eq k = true ∧ has d.flt.status k = true ∧ has d.flt.status (fkey (k / 256 / 32) 0) = true

theorem Dev.readsEqual_pairEqual (d : Dev) (k : Nat) : (d.pairEqual k).ReadsEqual k := by
  have heq : (d.pairEqual k).flt.eq = insertOnce d.flt.eq k := congrArg Prod.fst (Dev.wires_pairEqual d k)
  refine ⟨heq ▸ has_insertOnce_self .., ?_, ?_⟩
  · rw [Dev.pairEqual]
    exact Dev.has_status_noteLive (by simp only [FltSt.live, has_insertOnce_self, Bool.or_true])
  · have hreport := Dev.has_status_report d (k / 256 / 32) 0 (by decide)
    rw [Dev.pairEqual]
    refine Dev.has_status_noteLive_of ?_ k
    exact hreport

theorem Dev.ReadsEqual.pairEqual {d : Dev} {k : Nat} (h : d.ReadsEqual k) (x : Nat) : (d.pairEqual x).ReadsEqual k := by
  obtain ⟨heq, hst, hbank⟩ := h
  have hx : (d.pairEqual x).flt.eq = insertOnce d.flt.eq x := congrArg Prod.fst (Dev.wires_pairEqual d x)
  exact ⟨hx ▸ has_insertOnce_of heq x, Dev.has_status_pairEqual_of hst x, Dev.has_status_pairEqual_of hbank x⟩

theorem Dev.ReadsEqual.foldl_pairEqual {d : Dev} {k : Nat} (h : d.ReadsEqual k) (l : List Nat) : (l.foldl Dev.pairEqual d).ReadsEqual k := by
  induction l generalizing d with
  | nil => exact h
  | cons x l ih => exact ih (h.pairEqual x)

/-- Wires driven one after the other all read equal in the end. -/
theorem Dev.readsEqual_foldl_pairEqual {l : List Nat} {k : Nat} (hk : k ∈ l) (d : Dev) : (l.foldl Dev.pairEqual d).ReadsEqual k := by
  induction l generalizing d with
  | nil => cases hk
  | cons x l ih =>
    rcases List.mem_cons.mp hk with rfl | hk
    · exact (Dev.readsEqual_pairEqual d k).foldl_pairEqual l
    · exact ih hk (d.pairEqual x)

theorem Dev.wires_foldl_pairEqual (d : Dev) (l : List Nat) : (l.foldl Dev.pairEqual d).wires.2 = d.wires.2 :=
  foldl_keeps (fun e : Dev => e.wires.2) Dev.pairEqual (fun e k => congrArg (·.2) (Dev.wires_pairEqual e k)) l d

/-! ### The keys of a source -/

theorem fkey_div {src i : Nat} (h : i < 256) : fkey src i / 256 = src := by simp only [fkey]; omega

/-- Every key behind a bank bit is the source's. -/
theorem div_of_mem_sourceKeys {src k : Nat} (h : k ∈ sourceKeys src) : k / 256 = src := by
  have hgroup : ∀ g < 8, k ∈ (List.range 24).map (fun k => fkey src (24 * g + k)) → k / 256 = src := fun g hg hk => by
    obtain ⟨i, hi, rfl⟩ := List.mem_map.mp hk
    have := List.mem_range.mp hi
    exact fkey_div (by omega)
  simp only [sourceKeys, Bool.and_eq_true, decide_eq_true_eq] at h
  split at h
  · exact hgroup _ (by omega) h
  · split at h
    · exact hgroup _ (by omega) h
    · split at h
      · exact hgroup _ (by omega) h
      · split at h
        · obtain ⟨i, hi, rfl⟩ := List.mem_map.mp h
          have := List.mem_range.mp hi
          exact fkey_div (by omega)
        · rw [List.mem_singleton.mp h]; exact fkey_div (by decide)

/-- Every bank bit has a key. -/
theorem exists_mem_sourceKeys (src : Nat) : ∃ k, k ∈ sourceKeys src := by
  refine List.exists_mem_of_ne_nil _ ?_
  simp only [sourceKeys]
  split_ifs <;> simp

/-! ### The source that a write stores -/

/-- The idle timer stands in the requester's session alone. -/
theorem Dev.touch_cases (d : Dev) (rq : Requester) : d.touch rq = d ∨ ∃ x, d.touch rq = d.setSession rq x := by
  by_cases h : (d.session rq).st = .opened
  · exact .inr ⟨_, if_pos h⟩
  · exact .inl (if_neg h)

@[simp] theorem Dev.raw_touch (d : Dev) (rq : Requester) : (d.touch rq).raw = d.raw := by
  obtain h | ⟨x, h⟩ := d.touch_cases rq
  · rw [h]
  · rw [h, Dev.raw_setSession]

@[simp] theorem Dev.get_touch (d : Dev) (rq : Requester) (f : Field) (i j : Nat) : (d.touch rq).get f i j = d.get f i j := by
  obtain h | ⟨x, h⟩ := d.touch_cases rq
  · rw [h]
  · rw [h, Dev.get_setSession]

/-- A write to a word of one INSTALLER or MAKER field that carries a permitted action bit: the field is stored, one audit entry joins the queue and the idle
timer starts again. -/
theorem State.write_one_act {s : State} {rq : Requester} {addr w : Nat} {f : Field} {i j : Nat} {act : Act} (hp : inPages addr = true) (ho : s.PagesOpen)
    (hf : fieldsAt (canonAddr rq addr) = [(f, i, j, 0)]) (ht : s.dev.takes rq w (f, i, j, 0) = true)
    (hn : ∀ e : Dev, e.normPage (canonAddr rq addr) = e) (hr : f.acc = .rw ∨ f.acc = .wo) (ha : auditedRole f.role = true) (hs : silentField f = false)
    (hro : s.dev.may rq f.role = true) (hact : s.dev.may rq act.role = true) :
    ∃ old new, s.write rq addr w [act] = (s.onDev (fun d => (d.set f (f.clampVal (f.withPart 0 (d.get f i j) w)) i j).touch rq)).pushAudit (some rq)
      (s.dev.entry rq addr old new) := by
  have hm : s.dev.mayField rq f i w = true := by simp [Dev.takes] at ht; exact ht.1.2
  refine ⟨s.dev.word (canonAddr rq addr), (s.dev.writeWord rq addr w [act]).word (canonAddr rq addr), ?_⟩
  have hw : s.dev.writeWord rq addr w [act] = (s.dev.set f (f.clampVal (f.withPart 0 (s.dev.get f i j) w)) i j).touch rq := by
    simp [hp, Dev.pageOpen_of ho.1 ho.2, hf, ha, Dev.writeWord, Dev.storeWord_one hf ht hn hr, Dev.rightful, Dev.refuses, hm, ht, hro, hact]
  simp [State.write, hp, Dev.pageOpen_of ho.1 ho.2, Dev.audited, hf, ha, ht, hs, hw]
  rfl

/-- SRC takes the low nine bits of the word, at most 311 (R5, R413). -/
theorem clampVal_wireTestSrc (old w : Nat) :
    F.FLT_WIRE_TEST_SRC.clampVal (F.FLT_WIRE_TEST_SRC.withPart 0 old w) = Nat.min 311 (w % 512) := by
  have hlow : (old / 2 ^ 9 * 2 ^ 9 + w / 2 ^ 0 % 2 ^ 9) % 2 ^ 9 = w % 512 := by omega
  change clampN 0 311 ((old / 2 ^ 9 * 2 ^ 9 + w / 2 ^ 0 % 2 ^ 9) % 2 ^ 9) = _
  rw [hlow, clampN, if_neg (Nat.not_lt_zero _)]
  exact sat_min 311 (w % 512)

/-- What GO does with the source that is stored (R413). -/
def Dev.driveEqual (d : Dev) : Dev :=
  if hasWires (d.get F.FLT_WIRE_TEST_SRC) then
    (sourceKeys (d.get F.FLT_WIRE_TEST_SRC)).foldl Dev.pairEqual { d with flt := { d.flt with wireAt := some (d.get F.FLT_WIRE_TEST_SRC, d.now + 1000) } }
  else d

/-- An INSTALLER's write of FLT_WIRE_TEST with GO: SRC is stored, the write is audited, and GO acts on the stored source. -/
theorem wireTest_completes {rq : Requester} {w : Word} {s : State} {src : Nat} (h : s.Ready rq 2) (hgo : w.toNat.testBit 31 = true)
    (hsrc : src = Nat.min 311 (w.toNat % 512)) : GivesAudited (.wireTest rq w) s rq 0x304C ((s.dev.set F.FLT_WIRE_TEST_SRC src).touch rq).driveEqual := by
  have hmay : s.dev.may rq (some .installer) = true := Dev.may_of h.2.2
  have hf : fieldsAt (canonAddr rq 0x304C) = [(F.FLT_WIRE_TEST_SRC, 0, 0, 0)] := by cases rq <;> decide +kernel
  have hn : ∀ e : Dev, e.normPage (canonAddr rq 0x304C) = e := fun e => by cases rq <;> rfl
  have ht : s.dev.takes rq w.toNat (F.FLT_WIRE_TEST_SRC, 0, 0, 0) = true := (Dev.takes_of (by decide) (by decide) ..).trans hmay
  obtain ⟨old, new, hwrite⟩ := State.write_one_act (act := ⟨31, some .installer⟩) (by decide) h.1 hf ht hn (.inl rfl) (by decide) (by decide) hmay hmay
  have hacts : s.acts rq 0x304C ⟨31, some .installer⟩ w.toNat = true := by
    simp only [State.acts, Dev.pageOpen_of h.1.1 h.1.2, Dev.acts, hgo, hmay, Bool.and_self]
  have hexec : exec (.wireTest rq w) s = .next (s.row rq (.wireTest rq w) 0x304C w.toNat ⟨31, some .installer⟩ Dev.driveEqual) := rfl
  refine ⟨old, new, ?_⟩
  rw [hexec, State.row, State.gate_run h.2.1 _ _ _ _ _ _ _ (by omega), hacts, if_pos rfl, hwrite]
  simp only [clampVal_wireTestSrc, ← hsrc]
  rfl

/-- A stored source without wires of its own: nothing. -/
theorem Dev.driveEqual_of_lt {d : Dev} (h : d.get F.FLT_WIRE_TEST_SRC < 12) : d.driveEqual = d := by
  simp [Dev.driveEqual, hasWires, Nat.not_le.mpr h]

/-- A stored source with wires: every wire of it reads equal for 1 µs, and SRC stays. -/
theorem Dev.driveEqual_of_le {d : Dev} {src : Nat} (hsrc : d.get F.FLT_WIRE_TEST_SRC = src) (hlo : 12 ≤ src) (hhi : src ≤ 311) :
    d.driveEqual.flt.wireAt = some (src, d.raw + 1000) ∧ d.driveEqual.get F.FLT_WIRE_TEST_SRC = src ∧ ∀ k ∈ sourceKeys src, d.driveEqual.ReadsEqual k := by
  have hdrive : d.driveEqual = (sourceKeys src).foldl Dev.pairEqual { d with flt := { d.flt with wireAt := some (src, d.raw + 1000) } } := by
    simp [Dev.driveEqual, hasWires, hsrc, hlo, hhi, Dev.now]
  have hwires := Dev.wires_foldl_pairEqual { d with flt := { d.flt with wireAt := some (src, d.raw + 1000) } } (sourceKeys src)
  simp only [Dev.wires, Prod.mk.injEq, ← hdrive, Dev.get_with_flt] at hwires
  obtain ⟨hat, hget⟩ := hwires
  refine ⟨hat, hget.trans hsrc, fun k hk => ?_⟩
  rw [hdrive]
  exact Dev.readsEqual_foldl_pairEqual hk _

/-! ### The end of a report -/

@[simp] theorem Dev.eq_noteFall (d : Dev) (k : Nat) (b : Bool) : (d.noteFall k b).flt.eq = d.flt.eq := by
  simp only [Dev.noteFall]; split <;> rfl

@[simp] theorem Dev.eq_endWirePair (d : Dev) (bank : Nat) : (d.endWirePair bank).flt.eq = d.flt.eq := by
  simp only [Dev.endWirePair, Dev.unreport]; split <;> simp

theorem has_removeAll_self (l : List Nat) (k : Nat) : has (removeAll l k) k = false := by simp [has, removeAll]

/-- What the end of PCIE_LINK's report does to the link. -/
def Dev.linkBack (d : Dev) (src : Nat) : Dev := if src = 89 && d.pwr.st = .on && d.pwr.booted && d.pins.perst then d.linkUp else d

theorem Dev.linkBack_flt_raw (d : Dev) (src : Nat) : (d.linkBack src).flt = d.flt ∧ (d.linkBack src).raw = d.raw := by
  simp only [Dev.linkBack, Dev.linkUp]; split
  · split <;> exact ⟨rfl, rfl⟩
  · exact ⟨rfl, rfl⟩

/-- Does a wire test still drive the wires of a source. -/
def Dev.underTest (d : Dev) (src : Nat) : Bool := match d.flt.wireAt with | some (x, t) => x = src && d.now < t | none => false

/-- What the end of a source's report does to the collector, with its wires held by a test or not (R401, R413). -/
def Dev.endReport (d : Dev) (src k : Nat) (held : Bool) : Dev :=
  let e := ({ d with flt := { d.flt with det := removeAll d.flt.det k, eq := if held then d.flt.eq else removeAll d.flt.eq k } } : Dev).noteFall k (d.flt.live k)
  if has d.flt.eq k && !held then e.endWirePair (src / 32) else e

theorem Dev.eq_endReport (d : Dev) (src k : Nat) (held : Bool) :
    (d.endReport src k held).flt.eq = if held then d.flt.eq else removeAll d.flt.eq k := by
  simp only [Dev.endReport]; split <;> simp

theorem exec_sourceLiveEnd (src : Source) (inst : Byte) (s : State) : exec (.sourceLiveEnd src inst) s =
    .next (s.onDev fun d => (d.linkBack src.val).endReport src.val (sourceKey src.val inst.toNat) ((d.linkBack src.val).underTest src.val)) := rfl

/-- With a test of its source stored, the end of a report frees the wires only when the test's time is over. -/
theorem eq_sourceLiveEnd {src : Source} {s : State} {t : Nat} (h : s.dev.flt.wireAt = some (src.val, t)) (inst : Byte) :
    Completes (.sourceLiveEnd src inst) s (fun d =>
      d.flt.eq = if s.dev.raw < t then s.dev.flt.eq else removeAll s.dev.flt.eq (sourceKey src.val inst.toNat)) := by
  obtain ⟨hflt, hraw⟩ := s.dev.linkBack_flt_raw src.val
  have htest : (s.dev.linkBack src.val).underTest src.val = decide (s.dev.raw < t) := by simp [Dev.underTest, Dev.now, hflt, hraw, h]
  refine ⟨_, exec_sourceLiveEnd src inst s, ?_⟩
  simp only [Dev.eq_endReport, htest, hflt, decide_eq_true_eq]

/-- Settles O32: the stored source decides what GO does; a report's end frees the wires by the test's time. -/
theorem wireTestDrivesTheSource : Obligations.WireTestDrivesTheSource := by
  refine ⟨fun rq w s src h hgo hsrc => ?_, fun src inst s t ht => ?_⟩
  · have hhi : src ≤ 311 := hsrc ▸ Nat.min_le_left ..
    have hget : ((s.dev.set F.FLT_WIRE_TEST_SRC src).touch rq).get F.FLT_WIRE_TEST_SRC = src := by
      rw [Dev.get_touch, Dev.get_set_self]; exact Nat.mod_eq_of_lt (hhi.trans_lt (by decide))
    have hgives := wireTest_completes h hgo hsrc
    refine ⟨fun hlo => ?_, fun hlt => ?_⟩
    · obtain ⟨old, new, hexec⟩ := hgives
      obtain ⟨hat, hstored, hkeys⟩ := Dev.driveEqual_of_le hget hlo hhi
      obtain ⟨k, hk⟩ := exists_mem_sourceKeys src
      refine ⟨_, old, new, hexec, hstored, by simpa using hat, fun k hk => ?_, ?_⟩
      · obtain ⟨heq, hst, -⟩ := hkeys k hk
        exact ⟨heq, by simp [FltSt.live, heq], hst⟩
      · obtain ⟨-, -, hbank⟩ := hkeys k hk
        rwa [div_of_mem_sourceKeys hk] at hbank
    · rwa [Dev.driveEqual_of_lt (hget.trans_lt hlt)] at hgives
  · obtain ⟨d, hexec, heq⟩ := eq_sourceLiveEnd ht inst
    refine ⟨d, hexec, fun hlt => by rw [heq, if_pos hlt], fun hle => ?_⟩
    rw [heq, if_neg (Nat.not_lt.mpr hle)]
    exact has_removeAll_self ..

end Sys2Proof.Machine
end

section
/-! The proofs below are elaborated one after the other: side by side, their intermediate terms need more memory than one process gets. -/

set_option Elab.async false


section
/-! PROOF. What holds through a report: an induction over the parts of a reaction (R398, R406). -/

namespace Sys2Proof.Machine

/-- The parts of a report that a property outlives. -/
structure Outlives (P : Dev → Prop) : Prop where
  flt : ∀ (d : Dev) (f : FltSt), P d → P { d with flt := f }
  overwrites : ∀ d : Dev, P d → P (d.bump F.FLT_LOG_STAT_OVERWRITES)
  lastSrc : ∀ (d : Dev) (v : Nat), P d → P (d.set F.FLT_STATE_LAST_SRC v)
  irq : ∀ (d : Dev) (k : Nat), P d → P (d.fltIrq k)
  fence : ∀ (d : Dev) (u : FUnit), P d → P (d.fenceEffect u)
  stop : ∀ (d : Dev) (c : Nat), P d → P (d.stopTrigger c)
  settle : ∀ d e : Dev, P e → P (Dev.settle d e)

section
variable {P : Dev → Prop} (h : Outlives P)
include h

theorem Outlives.logPush {d : Dev} (hd : P d) (e : LogEntry) : P (d.logPush e) := by
  simp only [Dev.logPush]
  split
  · exact h.flt _ _ hd
  · exact h.irq _ _ (h.overwrites _ (h.flt _ _ hd))

theorem Outlives.fenceUnits {d : Dev} (hd : P d) (s i : Nat) : P (d.fenceUnits s i) :=
  List.foldlRecOn _ _ hd fun _ hd _ _ => h.fence _ _ (h.flt _ _ hd)

theorem Outlives.react {d : Dev} (hd : P d) (s i : Nat) : P (d.react s i) := by
  simp only [Dev.react]
  split
  · exact hd
  · split
    · exact hd
    · refine h.irq _ _ ?_
      split
      · exact h.fenceUnits hd s i
      · exact h.flt _ _ (h.fenceUnits hd s i)
  · exact h.irq _ _ (h.stop _ _ (h.flt _ _ hd))
  · exact h.irq _ _ (h.settle _ _ (h.flt _ _ hd))

theorem Outlives.event {d : Dev} (hd : P d) (s i : Nat) : P (d.event s i) := by
  have hlogged : ∀ (e : LogEntry) (st : List Nat), P (((({ d with flt := { d.flt with status := st } } : Dev).logPush e).set F.FLT_STATE_LAST_SRC s).fltIrq 0) :=
    fun e _ => h.irq _ _ (h.lastSrc _ _ (h.logPush (h.flt _ _ hd) e))
  simp only [Dev.event]
  split
  · exact hlogged _ _
  · exact h.react (hlogged _ _) _ _

theorem Outlives.look {d : Dev} (hd : P d) (k : Nat) : P (d.look k) := by
  simp only [Dev.look]
  split
  · exact h.event hd _ _
  · exact hd

theorem Outlives.drain {d : Dev} (hd : P d) : P d.drain := List.foldlRecOn _ _ (h.flt _ _ hd) fun _ hd _ _ => h.look (h.flt _ _ hd) _

/-- A property that outlives every part of a report outlives the report. -/
theorem Outlives.report {d : Dev} (hd : P d) (s i : Nat) : P (d.report s i) := h.drain (h.look (h.flt _ _ hd) _)

end

end Sys2Proof.Machine
end

section
/-! PROOF. What every command keeps (R58, R60): the waiting commands, and the audit chain within its sizes. First the ring under a write of one entry; then one rule
for each way in which the model changes a state; then the commands by the rule that they follow. -/

namespace Sys2Proof.Machine

/-! ### The ring (R58 to R60) -/

/-- The ring's part of `Audit.Bounded`. -/
def Audit.RingOk (a : Audit) : Prop :=
  a.next < 8192 ∧ (∀ x ∈ a.ring, x.index < 8192) ∧ (a.ring.map (fun x => x.index)).Nodup

theorem Audit.bounded_iff (a : Audit) : a.Bounded ↔ a.queue.length ≤ 32 ∧ a.RingOk := Iff.rfl

/-- The place that an entry takes is cleared first, so the ring's places stay apart. -/
theorem Audit.RingOk.write {a : Audit} (h : a.RingOk) (e : AuditEntry) : (a.write e).RingOk := by
  obtain ⟨hnext, hlt, hnd⟩ := h
  refine ⟨Nat.mod_lt _ (by decide), fun x hx => ?_, ?_⟩
  · rcases List.mem_append.mp hx with hx | hx
    · exact hlt x (List.mem_of_mem_filter hx)
    · rw [List.mem_singleton.mp hx]; exact hnext
  · have hkept : ((a.ring.filter (fun x => x.index ≠ a.next)).map (fun x => x.index)).Nodup := hnd.sublist (List.filter_sublist.map _)
    simp only [Audit.write, List.map_append, List.map_cons, List.map_nil]
    refine hkept.append (List.nodup_singleton _) fun i hi hnew => ?_
    obtain ⟨x, hx, rfl⟩ := List.mem_map.mp hi
    simpa [List.mem_singleton.mp hnew] using (List.mem_filter.mp hx).2

theorem Audit.RingOk.foldl_write {β : Type} (f : β → AuditEntry) (l : List β) {a : Audit} (h : a.RingOk) :
    (l.foldl (fun (a : Audit) e => a.write (f e)) a).RingOk := by
  induction l generalizing a with
  | nil => exact h
  | cons e l ih => exact ih (h.write _)

/-! ### The rules -/

/-- From s to t the waiting commands stay, and an audit chain within its sizes stays so. -/
def State.Keeps (s t : State) : Prop := t.pending = s.pending ∧ (s.audit.Bounded → t.audit.Bounded)

/-- A write finds room in the queue for the entry that it leaves (R58). -/
def State.Room (s : State) (rq : Requester) (addr w : Nat) (acts : List Act) : Prop :=
  inPages addr = true → s.dev.pageOpen addr = true → s.dev.audited rq (canonAddr rq addr) w acts = true → s.audit.queue.length + 1 ≤ 32

namespace State.Keeps

theorem refl (s : State) : s.Keeps s := ⟨rfl, id⟩

theorem trans {s t u : State} (h : s.Keeps t) (k : t.Keeps u) : s.Keeps u := ⟨k.1.trans h.1, k.2 ∘ h.2⟩

/-- A change of the device alone. -/
theorem onDev (s : State) (f : Dev → Dev) : s.Keeps (s.onDev f) := ⟨rfl, id⟩

/-- A change that leaves the audit chain or empties its queue. -/
theorem afterReset (s : State) (d : Dev) (powered : Bool) : s.Keeps { s with dev := d, audit := s.audit.afterReset powered } :=
  ⟨rfl, fun ⟨hq, hring⟩ => ⟨by cases powered <;> simp [Audit.afterReset, hq], hring⟩⟩

/-- A write that waits leaves queue and ring alone. -/
theorem withStalled (s : State) (l : List (Requester × Nat × Instr)) : s.Keeps { s with audit := { s.audit with stalled := l } } := ⟨rfl, id⟩

theorem pushAudit {s t : State} (h : s.Keeps t) (hroom : s.audit.Bounded → t.audit.queue.length + 1 ≤ 32) (rq : Option Requester) (e : AuditEntry) :
    s.Keeps (t.pushAudit rq e) := by
  refine ⟨h.1, fun hb => ⟨?_, (h.2 hb).2⟩⟩
  rw [State.pushAudit_queue, List.length_append]
  exact hroom hb

theorem ite {s t u : State} {c : Prop} [Decidable c] (ht : c → s.Keeps t) (hu : ¬ c → s.Keeps u) : s.Keeps (if c then t else u) := by
  split
  · exact ht ‹_›
  · exact hu ‹_›

theorem write {s : State} {rq : Requester} {addr w : Nat} {acts : List Act} (h : s.Room rq addr w acts) (own : Option (Nat × Nat)) :
    s.Keeps (s.write rq addr w acts own) := by
  refine .ite (fun hc => ?_) fun _ => ⟨rfl, id⟩
  obtain ⟨⟨hpage, hopen⟩, haud⟩ : (inPages addr = true ∧ s.dev.pageOpen addr = true) ∧ s.dev.audited rq (canonAddr rq addr) w acts = true := by
    simpa only [Bool.and_eq_true] using hc
  exact (refl s).pushAudit (fun _ => h hpage hopen haud) _ _

/-- A gated write waits, or finds room for its entry. -/
theorem gate {s : State} {rq : Requester} {cmd : Instr} {addr w : Nat} {acts : List Act} {run : State → State} {extra : Nat}
    (h : s.Room rq addr w acts → s.Keeps (run s)) : s.Keeps (s.gate rq cmd addr w acts run extra) := by
  refine .ite (fun _ => .withStalled ..) fun hc => h fun hpage hopen haud => ?_
  have hfits : ¬ 32 < s.audit.queue.length + (1 + extra) := fun hlt => hc (by simp [hpage, hopen, haud, State.mustWait, hlt])
  omega

theorem row (s : State) (rq : Requester) (cmd : Instr) (addr w : Nat) (act : Act) (f : Dev → Dev) : s.Keeps (s.row rq cmd addr w act f) :=
  .gate fun hr => .ite (fun _ => (write hr none).trans (.onDev ..)) fun _ => .write hr none

theorem roleWrite (s : State) (rq : Requester) (cmd : Instr) (addr : Nat) (role : Option Role) (reads : Dev → Nat) (f : Dev → Dev) :
    s.Keeps (s.roleWrite rq cmd addr role reads f) := by
  refine .ite (fun _ => .onDev ..) fun _ => .ite (fun _ => .withStalled ..) fun hwait => .ite (fun _ => .onDev ..) fun hok =>
    .ite (fun haud => ?_) fun _ => .onDev ..
  refine (onDev s fun d => (f d).touch rq).pushAudit (fun _ => ?_) _ _
  have hfits : ¬ 32 < s.audit.queue.length + 1 := fun hlt => hwait (by
    have hmay : s.dev.may rq role = true := by simpa using hok
    simp [State.mustWait, hmay, haud, hlt])
  exact Nat.not_lt.mp hfits

/-! ### The states that more than one rule makes -/

theorem busWord (s : State) (rq : Requester) (region : Region) (a be w : Nat) : s.Keeps (s.busWord rq region a be w) := by
  refine .ite (fun _ => .refl s) fun _ => ?_
  cases region with
  | bar0 =>
    refine .ite (fun _ => .onDev ..) fun _ => .ite (fun _ => .onDev ..) fun _ => .gate fun hr => ?_
    exact .ite (fun _ => (write hr none).trans (.onDev ..)) fun _ => .write hr none
  | bar2 => exact .ite (fun _ => .onDev ..) fun _ => .ite (fun _ => .onDev ..) fun _ => .onDev ..

theorem sessCtrl (s : State) (rq : Requester) (cmd : Instr) (w : Nat) : s.Keeps (s.sessCtrl rq cmd w) :=
  .gate fun hr => by
    have hclr : ∀ (c : Prop) [Decidable c] (f : Dev → Dev), s.Keeps (if c then (s.write rq 0x1048 w).onDev f else s.write rq 0x1048 w) :=
      fun _ _ _ => .ite (fun _ => (write hr none).trans (.onDev ..)) fun _ => .write hr none
    exact .ite (fun _ => (hclr ..).trans (.onDev ..)) fun _ => hclr ..

theorem fenceRead (s : State) (rq : Requester) (page : Option Nat) : s.Keeps (s.fenceRead rq page) :=
  .ite (fun _ => .onDev ..) fun _ => .onDev ..

/-- A staged key is committed only where its entry has room. -/
theorem checkStaged (s : State) : s.Keeps s.checkStaged := by
  simp only [State.checkStaged]
  split
  · exact .refl s
  · refine .ite (fun hc => ?_) fun _ => .refl s
    have hroom : s.audit.queue.length + 1 ≤ 32 := by simpa [State.hasRoom] using (Bool.and_eq_true_iff.mp hc).2
    exact (onDev s fun _ => _).pushAudit (fun _ => hroom) _ _

end State.Keeps

/-! ### A commit and the writes that are completed at once (R71, R76, R447) -/

/-- Entries that join the queue, one for each element of a list. -/
theorem State.queue_foldl_pushAudit {β : Type} (f : State → β → AuditEntry) (l : List β) (s : State) :
    (l.foldl (fun s b => s.pushAudit none (f s b)) s).pending = s.pending ∧
      (l.foldl (fun s b => s.pushAudit none (f s b)) s).audit.queue.length = s.audit.queue.length + l.length ∧
      ((l.foldl (fun s b => s.pushAudit none (f s b)) s).audit.RingOk ↔ s.audit.RingOk) := by
  induction l generalizing s with
  | nil => exact ⟨rfl, rfl, Iff.rfl⟩
  | cons b l ih =>
    obtain ⟨hp, hq, hr⟩ := ih (s.pushAudit none (f s b))
    refine ⟨hp, hq.trans ?_, hr⟩
    simp only [State.pushAudit_queue, List.length_append, List.length_cons, List.length_nil]
    omega

/-- A commit with room for its entries. -/
theorem State.Keeps.commitBond (s : State) (agent : Nat) (v : List Nat)
    (h : s.audit.queue.length + (changedEntries (s.dev.bond.pairs.map (·.1)) v).length ≤ 32) : s.Keeps (s.commitBond agent v) := by
  obtain ⟨hp, hq, hr⟩ := State.queue_foldl_pushAudit (fun s e => bondEntry s.dev.T agent e) (changedEntries (s.dev.bond.pairs.map (·.1)) v)
    { s with dev := { (s.dev.putBond v).mramWrote 54 with mram := { ((s.dev.putBond v).mramWrote 54).mram with bond := some (v.map bondPair) } } }
  refine State.Keeps.trans ⟨hp, fun hb => ⟨hq.trans_le h, hr.mpr hb.2⟩⟩ ((State.Keeps.onDev _ Dev.checkRoleKeys).trans (.checkStaged _))

theorem State.checkStaged_ring (s : State) : s.checkStaged.pending = s.pending ∧ (s.audit.RingOk → s.checkStaged.audit.RingOk) := by
  simp only [State.checkStaged]
  split
  · exact ⟨rfl, id⟩
  · split <;> exact ⟨rfl, id⟩

/-- A commit leaves the ring alone, with room for its entries or without. -/
theorem State.commitBond_ring (s : State) (agent : Nat) (v : List Nat) :
    (s.commitBond agent v).pending = s.pending ∧ (s.audit.RingOk → (s.commitBond agent v).audit.RingOk) := by
  obtain ⟨hp, -, hr⟩ := State.queue_foldl_pushAudit (fun s e => bondEntry s.dev.T agent e) (changedEntries (s.dev.bond.pairs.map (·.1)) v)
    { s with dev := { (s.dev.putBond v).mramWrote 54 with mram := { ((s.dev.putBond v).mramWrote 54).mram with bond := some (v.map bondPair) } } }
  obtain ⟨hp', hr'⟩ := State.checkStaged_ring (State.onDev _ Dev.checkRoleKeys)
  exact ⟨hp'.trans hp, fun h => hr' (hr.mpr h)⟩

/-- Entries written to the ring at once leave an empty queue. -/
theorem State.Keeps.drainAudit {s t : State} (hp : t.pending = s.pending) (hr : s.audit.RingOk → t.audit.RingOk) : s.Keeps t.drainAudit :=
  ⟨hp, fun hb => ⟨Nat.zero_le _, Audit.RingOk.foldl_write (fun e : Option Requester × AuditEntry => e.2) t.audit.queue (hr hb.2)⟩⟩

theorem State.Keeps.onDev_drainAudit {s t : State} (hp : t.pending = s.pending) (hr : s.audit.RingOk → t.audit.RingOk) (f : Dev → Dev) :
    s.Keeps (t.onDev f).drainAudit := .drainAudit hp hr

theorem State.Keeps.flushMram (s : State) : s.Keeps s.flushMram := by
  have hcommit : ∀ (v : List Nat) (f : Dev → Dev), ((s.commitBond 3 v).onDev f).pending = s.pending ∧
      (s.audit.RingOk → ((s.commitBond 3 v).onDev f).audit.RingOk) := fun v f => by
    simpa only [State.onDev_pending, State.onDev_audit] using s.commitBond_ring 3 v
  rw [State.flushMram]
  split
  · exact .onDev_drainAudit (hcommit _ _).1 (hcommit _ _).2 _
  · exact .onDev_drainAudit rfl id _

theorem State.Keeps.applyParam (s : State) (l : List Nat) : s.Keeps (s.applyParam l) := by
  simp only [State.applyParam]
  split
  · exact .onDev ..
  · exact (State.Keeps.onDev s _).trans (.onDev ..)
  · next es no _ =>
    refine .trans (.trans (.onDev s fun d => d.voteCasks [24]) ?_) (.onDev ..)
    generalize s.onDev (fun d => d.voteCasks [24]) = t
    generalize applyEntries (t.dev.bond.pairs.map Prod.fst) (es.map fun e => (e.1, clampEntry e.1 e.2)) = v
    split
    · next hroom =>
      have hfits : t.audit.queue.length + ((changedEntries (t.dev.bond.pairs.map Prod.fst) v).length + 1) ≤ 32 := by simpa [State.hasRoom] using hroom
      exact .commitBond _ _ _ ((Nat.add_le_add_left (Nat.le_succ _) _).trans hfits)
    · exact (State.Keeps.drainAudit rfl id).trans (.commitBond _ _ _ ((Nat.zero_add _).trans_le ((length_changedEntries_le ..).trans (by decide))))

/-! ### The commands -/

/-- A command answers, and keeps what every command keeps. -/
def Answers (o : Host.Outcome State Fault Refusal) (s : State) : Prop := ∃ t, o = .next t ∧ s.Keeps t

theorem answers_of {s t : State} (h : s.Keeps t) : Answers (.next t) s := ⟨t, rfl, h⟩

theorem answers_auditEntryWrite (ok : Bool) (s : State) : Answers (execAuditEntryWrite ok s) s := by
  simp only [execAuditEntryWrite]
  split
  · exact answers_of (.refl s)
  · next e q hq =>
    split
    · exact answers_of (.refl s)
    · refine answers_of ⟨rfl, fun ⟨hlen, hring⟩ => ⟨?_, Audit.RingOk.write hring _⟩⟩
      rw [hq] at hlen
      exact (Nat.le_succ _).trans hlen

/-- A commit that is applied has room for its entries. -/
theorem answers_safeCommitApply (ok : Bool) (s : State) : Answers (execSafeCommitApply ok s) s := by
  rw [execSafeCommitApply]
  cases s.dev.safe.applying with
  | none => exact answers_of (.refl s)
  | some staged =>
    dsimp only
    rw [← apply_ite Host.Outcome.next]
    refine answers_of (.ite (fun _ => .refl s) fun hroom => ?_)
    generalize applyEntries (s.dev.bond.pairs.map (·.1)) staged = v at hroom ⊢
    have hfits : s.audit.queue.length + ((changedEntries (s.dev.bond.pairs.map (·.1)) v).length + if s.dev.staged.isSome then 1 else 0) ≤ 32 := by
      rw [State.hasRoom, Bool.or_eq_true, not_or, Bool.not_eq_true', Bool.not_eq_false, decide_eq_true_eq] at hroom
      exact hroom.1
    have hcommit := State.Keeps.commitBond s 3 v ((Nat.add_le_add_left (Nat.le_add_right _ _) _).trans hfits)
    exact .ite (fun _ => hcommit.trans (.onDev ..)) fun _ => (hcommit.trans (.onDev ..)).trans (.onDev ..)

theorem answers_spareMapWrite (c : Chan) (ok : Bool) (s : State) : Answers (execSpareMapWrite c ok s) s := by
  simp only [execSpareMapWrite]
  split
  · exact answers_of (.refl s)
  · next hroom =>
    have hfits : s.audit.queue.length + 1 ≤ 32 := by simp [State.hasRoom] at hroom; exact hroom.1.2
    exact answers_of ((State.Keeps.onDev s fun _ => _).pushAudit (fun _ => hfits) _ _)

/-- The key that a write stages is committed only where its entry has room. -/
theorem answers_keyStage (rq : Requester) (w : Word) (s : State) : Answers (execKeyStage rq w s) s :=
  answers_of (.gate fun hr => .ite (fun _ => (State.Keeps.write hr none).trans ((State.Keeps.onDev ..).trans (.checkStaged _))) fun _ => .write hr none)

/-- A gated write followed by a change of the device where its action may take place. -/
theorem State.Keeps.gateActs {s : State} {rq : Requester} {cmd : Instr} {addr w : Nat} {acts : List Act} {ok : Prop} [Decidable ok] {own : Option (Nat × Nat)}
    (f : Dev → Dev) : s.Keeps (s.gate rq cmd addr w acts fun s => if ok then (s.write rq addr w acts own).onDev f else s.write rq addr w acts own) :=
  .gate fun hr => .ite (fun _ => (write hr own).trans (.onDev ..)) fun _ => .write hr own

theorem answers_ite {s : State} {c : Prop} [Decidable c] {o p : Host.Outcome State Fault Refusal} (ho : Answers o s) (hp : Answers p s) :
    Answers (if c then o else p) s := by
  split
  · exact ho
  · exact hp

theorem answers_registerWrite (a : BusAccess) (s : State) : Answers (execRegisterWrite a s) s :=
  answers_ite (answers_ite (answers_of (.onDev ..)) (answers_of ((State.Keeps.busWord ..).trans (.busWord ..)))) (answers_of (.busWord ..))

theorem answers_fenceReturn (rq : Requester) (s : State) : Answers (execFenceReturn rq s) s := by
  rw [execFenceReturn]
  split
  · exact answers_of (.onDev ..)
  · exact answers_of (.refl s)

theorem answers_stagedKeyExpire (s : State) : Answers (execStagedKeyExpire s) s := by
  rw [execStagedKeyExpire]
  split
  · exact answers_ite (answers_of (.onDev ..)) (answers_of (.refl s))
  · exact answers_of (.refl s)

theorem answers_faultStatusClear (rq : Requester) (addr : Nat) (w : Word) (s : State) : Answers (execFaultStatusClear rq addr w s) s :=
  answers_of (.gate fun _ => .ite (fun _ => .onDev ..) fun _ => by
    split
    · exact .refl s
    · exact .onDev ..)

theorem answers_faultForce (rq : Requester) (addr : Nat) (w : Word) (s : State) : Answers (execFaultForce rq addr w s) s := by
  rw [execFaultForce]
  split
  · exact answers_of (.ite (fun _ => .onDev ..) fun _ => .refl s)
  · exact answers_of (.roleWrite ..)

theorem answers_thermalPowerOff (ok : Bool) (s : State) : Answers (execThermalPowerOff ok s) s := by
  rw [execThermalPowerOff]
  split
  · exact answers_of (.ite (fun _ => .afterReset s _ false) fun _ => .refl s)
  · exact answers_of (.refl s)

theorem answers_warmReset (rq : Option Requester) (s : State) : Answers (execWarmReset rq s) s := by
  cases rq with
  | none => exact answers_of (.ite (fun _ => .afterReset s _ true) fun _ => .refl s)
  | some q => exact answers_of (.gate fun hr => .ite (fun _ => (State.Keeps.write hr none).trans (.afterReset _ _ true)) fun _ => .write hr none)

theorem answers_bootSequence (flash : BootFlash) (s : State) : Answers (execBootSequence flash s) s :=
  answers_of (.ite (fun _ => .refl s) fun _ =>
    (((State.Keeps.onDev ..).trans (.onDev ..)).trans (.applyParam ..)).trans (.onDev ..))

theorem answers_standbyEnter (rq : Requester) (s : State) : Answers (execStandbyEnter rq s) s :=
  answers_of (.gate fun hr => .ite (fun _ => .write hr none) fun _ =>
    .ite (fun _ => ((State.Keeps.write hr none).trans (.flushMram _)).trans (.afterReset _ _ false)) fun _ => (State.Keeps.write hr none).trans (.onDev ..))

/-- Every command but a resumption answers (its own arm of the model's dispatch) by one of the rules. -/
theorem exec_answers_of_ne {c : Instr} (h : ∀ rq, c ≠ .auditedWriteResume rq) (s : State) : Answers (exec c s) s := by
  cases c with
  | auditedWriteResume rq => exact absurd rfl (h rq)
  | ringCountClear | cisternCountClear | tableUpdateGo | headMapDefault | decodeErrClear | sliceLoadClear | indexAdopt | encoderCountClear |
    revertCmd | waveformCommit | fireStopCmd | fireResumeCmd | fireCountClear | fireCount2Clear | portEnable | calStart | hlkReauth | hlkMemRead |
    hlkMemWrite | hlkMemCommit | hlkErrClear | retrainStart | ddrRateGo | fenceCh | ddrCountClear | scrubGo | scrubAbort | flipArm |
    eccSramCntClear | eccChannelCntClear | cameraCtlSend | cameraCommit | cameraCountClear | ispCountClear | ispLoadClear | nozzleApprove |
    nozzleDiscard | vinCountClear | save | lampMatrixLoad | lampCountClear | timeForce | domainForce | timeCapture | domainAck | ethCountClear |
    thermalAck | thermalPeakClear | hostBoot | floor | sleepEnter | sleepExitCmd | watchdogKick => exact ⟨_, rfl, .row ..⟩
  | ringEnable | ringDisable | positionEnable | positionDisable | pcmpConfigure | pcmpArm | headKeyCommit | ddrEnable | ddrDisable | cameraEnable |
    cameraDisable | nozzleStateSubmit | vinEnable | lampEnable | timeAdjust | domainAdjust | timeAddendWrite | pathDelayWrite | domainEnable |
    tcmpConfigure | tcmpArm | thermalEventSelect | jobOpen | jobUpdate | jobArm | jobStart | jobFinish | jobAbort | jobRelease | jobRead | jobBadOp => exact ⟨_, rfl, .roleWrite ..⟩
  | registerWrite a => exact answers_registerWrite a s
  | pageFenceRead | sysFenceRead => exact answers_of (.fenceRead ..)
  | fenceReturn rq => exact answers_fenceReturn rq s
  | auditEntryWrite ok => exact answers_auditEntryWrite ok s
  | keyStage rq w => exact answers_keyStage rq w s
  | auditIndexSelect | roleResponse | portDisable | clearAll | wireTest | ackStop | ackSafe | pop | headMapCommit =>
    exact answers_of (.gateActs ..)
  | sysBadAccClear => exact answers_of (.gate fun _ => .ite (fun _ => .onDev ..) fun _ => .refl s)
  | roleReq => exact answers_of (.gate fun _ => .ite (fun _ => .onDev ..) fun _ => .onDev ..)
  | faultStatusClear rq addr w => exact answers_faultStatusClear rq addr w s
  | faultForce rq addr w => exact answers_faultForce rq addr w s
  | sessionEnd | roleDenyClear => exact answers_of (.sessCtrl ..)
  | lockEnd | challengeExpire | sessionIdleTimeout => exact answers_ite (answers_of (.onDev ..)) (answers_of (.refl s))
  | stagedKeyExpire => exact answers_stagedKeyExpire s
  | safeCommitApply ok => exact answers_safeCommitApply ok s
  | spareMapWrite c ok => exact answers_spareMapWrite c ok s
  | caskWordRead => exact answers_of (.ite (fun _ => .onDev ..) fun _ => .onDev ..)
  | bondedPairCheck | bondedDigestCheck | fltInInput | sensorConversion | sensorConversionTimeout =>
    exact answers_of (.ite (fun _ => .onDev ..) fun _ => .refl s)
  | thermalPowerOff ok => exact answers_thermalPowerOff ok s
  | vbatApply => exact answers_of (.afterReset s _ false)
  | brownout => exact answers_of (.ite (fun _ => .afterReset s _ false) fun _ => .refl s)
  | warmReset rq => exact answers_warmReset rq s
  | bootSequence flash => exact answers_bootSequence flash s
  | standbyEnter rq => exact answers_standbyEnter rq s
  | _ => exact ⟨_, rfl, .onDev ..⟩

/-! ### A resumption (R58, R38) -/

theorem State.Keeps.ran {o : Host.Outcome State Fault Refusal} {s : State} (h : Answers o s) : s.Keeps (ran o s) := by
  obtain ⟨t, rfl, ht⟩ := h
  exact ht

/-- A write carried out again has its command's own meaning; nothing else waits. -/
theorem State.rerun_eq {c : Instr} (h : ∀ rq, c ≠ .auditedWriteResume rq) (s : State) : s.rerun c = Machine.ran (exec c s) s ∨ s.rerun c = s := by
  cases c with
  | auditedWriteResume rq => exact absurd rfl (h rq)
  | _ => first | exact .inl rfl | exact .inr rfl

theorem State.Keeps.rerun (s : State) (c : Instr) : s.Keeps (s.rerun c) := by
  by_cases h : ∀ rq, c ≠ .auditedWriteResume rq
  · obtain hc | hc := State.rerun_eq h s
    · rw [hc]; exact .ran (exec_answers_of_ne h s)
    · rw [hc]; exact .refl s
  · obtain ⟨rq, rfl⟩ : ∃ rq, c = .auditedWriteResume rq := by simpa using h
    exact .refl s

theorem State.Keeps.resumeOne (acc : State × Bool) (e : Requester × Nat × Instr) : acc.1.Keeps (State.resumeOne acc e).1 := by
  simp only [State.resumeOne]
  split
  · exact .withStalled ..
  · exact .rerun ..

theorem State.Keeps.foldl_resumeOne (l : List (Requester × Nat × Instr)) (acc : State × Bool) : acc.1.Keeps (l.foldl State.resumeOne acc).1 := by
  induction l generalizing acc with
  | nil => exact .refl _
  | cons e l ih => exact (State.Keeps.resumeOne acc e).trans (ih _)

/-- Every command answers, from every state: none stops the block. -/
theorem exec_answers (c : Instr) (s : State) : Answers (exec c s) s := by
  by_cases h : ∀ rq, c ≠ .auditedWriteResume rq
  · exact exec_answers_of_ne h s
  · obtain ⟨rq, rfl⟩ : ∃ rq, c = .auditedWriteResume rq := by simpa using h
    exact answers_of ((State.Keeps.withStalled s _).trans (.foldl_resumeOne _ (_, false)))

/-- Settles O27: every command answers by one of the rules, each of which leaves the waiting commands alone. -/
theorem everyCommandAnswers : Obligations.EveryCommandAnswers := fun c s => by
  obtain ⟨t, ht, hpending, -⟩ := exec_answers c s
  exact ⟨t, ht, hpending⟩

/-- Settles O28: an idle step leaves the audit chain alone, and a command keeps it within its sizes. -/
theorem stepsKeepTheAuditChainBounded : Obligations.StepsKeepTheAuditChainBounded := fun s t hb hstep => by
  rw [step] at hstep
  split at hstep
  · cases hstep; exact hb
  · next c rest _ =>
    obtain ⟨u, hu, -, hkeeps⟩ := exec_answers c { s with pending := rest }
    rw [hu] at hstep
    cases hstep
    exact hkeeps hb

/-- Settles O1: a step carries out the front command; with none waiting, one tick passes. -/
theorem stepTakesFrontCommand : Obligations.StepTakesFrontCommand := by
  refine ⟨fun _ _ _ => rfl, fun s hempty => ?_⟩
  rw [step, hempty]
  rfl

end Sys2Proof.Machine
end

section
/-! PROOF. The state after reset: closed facts about one state, each read off its definition. -/

namespace Sys2Proof.Machine

/-- The audit chain is empty after reset. -/
theorem Audit.bounded_reset : Audit.Bounded State.reset.audit :=
  ⟨Nat.zero_le _, by decide, fun _ hx => absurd hx List.not_mem_nil, List.nodup_nil⟩

/-- The bonded store holds its 27 reset values (R63). -/
theorem Dev.bonded_reset : Dev.reset.bond.inUse.length = 27 ∧ ∀ n < 15, Dev.reset.bonded n =
    [0, 1000, 0, 1000, 105, 115, 125, 0x40404, 100, 500, 0xFFFF, 0xFFFFFFFF, 0xFFFFFFFF, 0xFFFFFFFF, 0xFFFFFFFF].getD n 0 := by
  decide +kernel

/-- Both gates are closed after reset: the collector is not released (R399), no bar prints. -/
theorem Dev.gates_reset : Dev.reset.gateOpen = false ∧ Dev.reset.outFault = true := by decide +kernel

theorem Dev.ports_reset : ∀ p < 192, (Dev.reset.port p).st = .disabled := by decide +kernel

theorem Dev.posBar_reset : ∀ b < 8, (Dev.reset.posBar b).hwm = none ∧ (Dev.reset.posBar b).held = none := by decide +kernel

/-- With no field stored, a register reads the reset value of its row. -/
theorem Dev.get_reset (f : Field) (i j : Nat) : Dev.reset.get f i j = f.resetVal i j := rfl

/-- Settles O29: the parts of the reset state one by one; every register reads the reset value of its row. -/
theorem resetIsAsTheTablesState : Obligations.ResetIsAsTheTablesState := by
  rintro d rfl
  obtain ⟨hgate, hout⟩ := Dev.gates_reset
  obtain ⟨hlen, hbonded⟩ := Dev.bonded_reset
  refine ⟨rfl, Audit.bounded_reset, rfl, rfl, rfl, hgate, hout, rfl, rfl, hlen, hbonded, Dev.ports_reset, Dev.posBar_reset, rfl, ?_⟩
  simp only [State.reset, Dev.get_reset]
  decide +kernel

end Sys2Proof.Machine
end

section
/-! PROOF. The audit chain (R58 to R62, R443, R470): an entry's way to the ring, the window on the ring, and the write that waits. -/

namespace Sys2Proof.Machine

/-! ### Register fields -/

/-- A field stores a value cut to its width. -/
theorem Dev.set_mod (d : Dev) (f : Field) (v i j : Nat) : d.set f (v % 2 ^ f.width) i j = d.set f v i j := by
  simp only [Dev.set, RegFile.set, Nat.mod_mod]

theorem Dev.flag_eq_true (d : Dev) (f : Field) (i j : Nat) : d.flag f i j = true ↔ d.get f i j ≠ 0 := by simp [Dev.flag]

theorem Dev.flag_eq_false (d : Dev) (f : Field) (i j : Nat) : d.flag f i j = false ↔ d.get f i j = 0 := by simp [Dev.flag]

/-- The instances of a field that a fold has stored, one after another. -/
theorem Dev.get_foldl_set (f : Field) (hinj : ∀ a b, f.key a 0 = f.key b 0 → a = b) (g : Nat → Nat) (n : Nat) (d : Dev) (k : Nat) :
    ((List.range n).foldl (fun d k => d.set f (g k) k) d).get f k = if k < n then g k % 2 ^ f.width else d.get f k := by
  induction n with
  | zero => simp
  | succ n ih =>
    rw [List.range_succ, List.foldl_append]
    by_cases h : k = n
    · subst h; simp
    · simp only [List.foldl_cons, List.foldl_nil]
      rw [Dev.get_set_ne _ _ _ _ _ _ _ _ (fun he => h (hinj _ _ he)), ih]
      have : k < n + 1 ↔ k < n := by omega
      simp only [this]

/-- A fold of stores reaches the keys of its own instances alone. -/
theorem Dev.sameRegsBut_foldl_set (f : Field) (g : Nat → Nat) (l : List Nat) {keys : List Nat} (hk : ∀ k ∈ l, f.key k 0 ∈ keys) {d e : Dev}
    (h : d.SameRegsBut e keys) : d.SameRegsBut (l.foldl (fun d k => d.set f (g k) k) e) keys := by
  induction l generalizing e with
  | nil => exact h
  | cons k l ih => exact ih (fun k hm => hk k (List.mem_cons_of_mem _ hm)) (h.set (hk k List.mem_cons_self) _)

/-! ### An entry's way to the ring (R58 to R61, R443, R470) -/

theorem Dev.mramWrote_eight (d : Dev) : d.mramWrote 8 = d.set F.NVM_WRITES (Nat.min 281474976710655 (d.get F.NVM_WRITES + 8)) := by
  rw [← sat_min]; rfl

theorem exec_auditEntryWrite {s : State} {e : Option Requester × AuditEntry} {q : List (Option Requester × AuditEntry)} (hq : s.audit.queue = e :: q)
    (hs : s.dev.get F.NVM_STAT_SUSPENDED = 0) (ok : Bool) :
    exec (.auditEntryWrite ok) s = .next { s with
      dev := if ok then s.dev.mramWrote 8 else (s.dev.mramWrote 8).mramFailed (32 * s.audit.next), audit := { s.audit.write e.2 with queue := q } } := by
  simp only [exec, execAuditEntryWrite, hq, (Dev.flag_eq_false ..).mpr hs]
  rfl

theorem auditEntryWrite_idle {s : State} (h : s.audit.queue = [] ∨ s.dev.get F.NVM_STAT_SUSPENDED = 1) (ok : Bool) :
    exec (.auditEntryWrite ok) s = .next s := by
  simp only [exec, execAuditEntryWrite]
  split
  · rfl
  · next e q hq =>
    have hsusp : s.dev.flag F.NVM_STAT_SUSPENDED = true := by
      obtain hq' | hs := h
      · rw [hq] at hq'; cases hq'
      · simp [Dev.flag, hs]
    rw [if_pos hsusp]

/-! ### The window on the ring (R59, R62) -/

theorem crc32Bit_lt {c : Nat} (h : c < 2 ^ 32) : crc32Bit c < 2 ^ 32 := by
  have hhalf : c / 2 < 2 ^ 32 := (Nat.div_le_self _ _).trans_lt h
  simp only [crc32Bit]
  split
  · exact Nat.xor_lt_two_pow hhalf (by decide)
  · exact hhalf

theorem crc32Byte_lt {c : Nat} (h : c < 2 ^ 32) (b : Nat) : crc32Byte c b < 2 ^ 32 := by
  have hbits : ∀ n x, x < 2 ^ 32 → Nat.repeat crc32Bit n x < 2 ^ 32 := fun n x hx => by
    induction n with
    | zero => exact hx
    | succ n ih => exact crc32Bit_lt ih
  exact hbits 8 _ (Nat.xor_lt_two_pow h ((Nat.mod_lt _ (by decide)).trans (by decide)))

theorem crc32_lt (l : List Nat) : crc32 l < 2 ^ 32 := by
  have hbytes : ∀ (l : List Nat) (c : Nat), c < 2 ^ 32 → l.foldl crc32Byte c < 2 ^ 32 := fun l => by
    induction l with
    | nil => exact fun _ h => h
    | cons b l ih => exact fun c h => ih _ (crc32Byte_lt h b)
  exact Nat.xor_lt_two_pow (hbytes l _ (by decide)) (by decide)

/-- The bytes of a number are those of its lowest bits. -/
theorem bytesLE_mod (n v : Nat) : bytesLE n (v % 256 ^ n) = bytesLE n v := by
  induction n generalizing v with
  | zero => rfl
  | succ n ih =>
    have hdiv : v % 256 ^ (n + 1) / 256 = v / 256 % 256 ^ n := by rw [Nat.pow_succ, Nat.mul_comm, Nat.mod_mul_right_div_self]
    simp only [bytesLE]
    rw [hdiv, ih, Nat.mod_mod_of_dvd _ (Dvd.intro_left _ (Nat.pow_succ 256 n).symm)]

theorem flatMap_bytesLE_mod (l : List Nat) : (l.map (· % 2 ^ 32)).flatMap (bytesLE 4) = l.flatMap (bytesLE 4) := by
  rw [List.flatMap_map]
  exact congrArg (fun f => l.flatMap f) (funext fun v => bytesLE_mod 4 v)

/-- The words of an entry before its CHECK (R59). -/
def AuditSlot.body (x : AuditSlot) : List Nat :=
  [x.entry.time % 2 ^ 32, x.entry.time / 2 ^ 32 % 2 ^ 32, x.seq,
    x.entry.agent * 2 ^ 29 + x.entry.requester * 2 ^ 28 + x.entry.page % 2 ^ 14 * 2 ^ 12 + x.entry.offset, x.entry.old, x.entry.new, 0]

theorem AuditSlot.words_eq (x : AuditSlot) : x.words = x.body ++ [crc32 (x.body.flatMap (bytesLE 4))] := rfl

/-- The eight words cut to the width of a register: the CHECK is that of the words as they are shown. -/
theorem AuditSlot.words_mod (x : AuditSlot) :
    x.words.map (· % 2 ^ 32) = x.body.map (· % 2 ^ 32) ++ [crc32 ((x.body.map (· % 2 ^ 32)).flatMap (bytesLE 4))] := by
  rw [AuditSlot.words_eq, List.map_append, flatMap_bytesLE_mod]
  rw [List.map_cons, List.map_nil, Nat.mod_eq_of_lt (crc32_lt _)]

/-- The words that the window takes from the ring. -/
def Audit.window (a : Audit) (i : Nat) : List Nat :=
  match a.ring.find? (fun x => x.index = i) with
  | some x => x.words
  | none => List.replicate 8 0

/-- ROLE_AUD_IDX stored, and the window taken (R62). -/
def Dev.showSlot (d : Dev) (i : Nat) (ws : List Nat) : Dev :=
  (List.range 8).foldl (fun d k => d.set F.ROLE_AUD_DATA (ws.getD k 0) k) (d.set F.ROLE_AUD_IDX i)

theorem exec_auditIndexSelect {rq : Requester} {w : Word} {s : State} (ho : s.PagesOpen) (hq : s.Quiet) :
    Gives (.auditIndexSelect rq w) s (s.dev.showSlot (w.toNat % 8192) (s.audit.window (w.toNat % 8192))) := by
  have hwrite : s.write rq 0x10D8 w.toNat = s.onDev fun d => d.set F.ROLE_AUD_IDX (w.toNat % 8192) := by
    rw [State.write_free (f := F.ROLE_AUD_IDX) (i := 0) (j := 0) (by decide) ho (by cases rq <;> decide +kernel) (by decide) rfl (by decide)
      (fun e => by cases rq <;> rfl) (.inl rfl)]
    refine congrArg s.onDev (funext fun d => congrArg (fun v => d.set F.ROLE_AUD_IDX v) ?_)
    change (d.get F.ROLE_AUD_IDX / 2 ^ 13 * 2 ^ 13 + w.toNat / 2 ^ 0 % 2 ^ 13) % 2 ^ 13 = _
    omega
  have hidx : (s.onDev fun d => d.set F.ROLE_AUD_IDX (w.toNat % 8192)).dev.get F.ROLE_AUD_IDX = w.toNat % 8192 :=
    (Dev.get_set_self ..).trans (Nat.mod_mod _ _)
  simp only [Gives, exec, execAuditIndexSelect, State.gate_run hq _ _ _ _ _ _ 0 (Nat.zero_le _), Dev.pageOpen_of ho.1 ho.2, hwrite, hidx]
  rfl

theorem Dev.get_showSlot_data (d : Dev) (i : Nat) (ws : List Nat) {k : Nat} (hk : k < 8) : (d.showSlot i ws).get F.ROLE_AUD_DATA k = ws.getD k 0 % 2 ^ 32 := by
  rw [Dev.showSlot, Dev.get_foldl_set _ (fun a b h => by simp only [Field.key, Field.addr, F.ROLE_AUD_DATA] at h; omega), if_pos hk]
  rfl

theorem Dev.get_showSlot_idx (d : Dev) (i : Nat) (ws : List Nat) : (d.showSlot i ws).get F.ROLE_AUD_IDX = i % 8192 := by
  have hkeep : ∀ (l : List Nat) (e : Dev), (l.foldl (fun d k => d.set F.ROLE_AUD_DATA (ws.getD k 0) k) e).get F.ROLE_AUD_IDX = e.get F.ROLE_AUD_IDX := fun l e =>
    foldl_keeps (fun d : Dev => d.get F.ROLE_AUD_IDX) _ (fun d k => Dev.get_set_ne _ _ _ _ _ _ _ _
      (by simp only [Field.key, Field.addr, F.ROLE_AUD_DATA, F.ROLE_AUD_IDX]; omega)) l e
  rw [Dev.showSlot, hkeep]
  exact Dev.get_set_self ..

theorem Dev.fixed_showSlot (d : Dev) (i : Nat) (ws : List Nat) : (d.showSlot i ws).fixed = d.fixed :=
  foldl_keeps Dev.fixed (fun d k => d.set F.ROLE_AUD_DATA (ws.getD k 0) k) (fun _ _ => rfl) _ _

theorem Dev.sameRegsBut_showSlot (d : Dev) (i : Nat) (ws : List Nat) :
    d.SameRegsBut (d.showSlot i ws) (F.ROLE_AUD_IDX.key 0 0 :: (List.range 8).map (fun k => F.ROLE_AUD_DATA.key k 0)) :=
  Dev.sameRegsBut_foldl_set _ _ _ (fun _ hk => List.mem_cons_of_mem _ (List.mem_map_of_mem hk)) ((d.sameRegsBut_refl _).set List.mem_cons_self _)

/-- The window's eight registers in order. -/
theorem Dev.map_showSlot_data (d : Dev) (i : Nat) {ws : List Nat} (hlen : ws.length = 8) :
    (List.range 8).map (fun k => (d.showSlot i ws).get F.ROLE_AUD_DATA k) = ws.map (· % 2 ^ 32) := by
  refine List.ext_getElem (by simp [hlen]) fun k hk _ => ?_
  have hk8 : k < 8 := by simpa using hk
  simp [Dev.get_showSlot_data _ _ _ hk8, hlen, hk8]

/-! ### The write that waits (R38, R58) -/

/-- A write that leaves an entry waits while the queue is full. -/
theorem registerWrite_waits {rq : Requester} {addr : Nat} {be : BitVec 8} {data : BitVec 64} {s : State} (ho : s.PagesOpen) (hst : s.audit.stalled = [])
    (hfull : s.audit.queue.length = 32) (hbe : be.toNat % 16 = 15) (h4 : addr % 4 = 0) (hp : inPages addr = true)
    (haud : s.dev.audited rq (canonAddr rq addr) (data.toNat % 4294967296) [] = true) :
    exec (.registerWrite ⟨rq, .bar0, addr, be, false, data⟩) s = .next { s with audit := { s.audit with
      stalled := [(rq, addr / 4096, .registerWrite ⟨rq, .bar0, addr, 15, false, BitVec.ofNat 64 (data.toNat % 4294967296)⟩)] } } := by
  have hlt : addr < 0x10C0000 := by simp [inPages] at hp; omega
  have hmsix : inMsix addr = false := by simp [inMsix]; omega
  have hsize : ¬ Region.bar0.size ≤ addr := by simp only [Region.size]; omega
  have hwait : s.mustWait rq (addr / 4096) 1 = true := by simp [State.mustWait, hfull]
  simp [exec, execRegisterWrite, State.busWord, hsize, hmsix, hbe, h4, State.plainWrite, State.gate, haud, hp, Dev.pageOpen_of ho.1 ho.2, hwait, hst, pageOf]

/-- The one write that waits is carried out as the same access would be. -/
theorem auditedWriteResume_single {rq : Requester} {page : Nat} {a : BusAccess} {s : State} (hst : s.audit.stalled = [(rq, page, .registerWrite a)]) :
    exec (.auditedWriteResume rq) s = .next (({ s with audit := { s.audit with stalled := [] } } : State).rerun (.registerWrite a)) := by
  simp [exec, execAuditedWriteResume, hst, State.resumeOne]

theorem auditedWriteResume_none {rq : Requester} {s : State} (h : ∀ x ∈ s.audit.stalled, x.1 ≠ rq) : exec (.auditedWriteResume rq) s = .next s := by
  have hmine : s.audit.stalled.filter (fun e => e.1 = rq) = [] := List.filter_eq_nil_iff.mpr fun x hx => by simp [h x hx]
  have hrest : s.audit.stalled.filter (fun e => e.1 ≠ rq) = s.audit.stalled := List.filter_eq_self.mpr fun x hx => by simp [h x hx]
  simp only [exec, execAuditedWriteResume, hmine, hrest, List.foldl_nil]

/-- Settles O25: the head of the queue goes to the ring, the window shows the slot that ROLE_AUD_IDX names, and a write that waits is the write itself. -/
theorem auditEntriesAreKept : Obligations.AuditEntriesAreKept := by
  refine ⟨⟨fun ok s e q hq hs => ?_, fun ok s h => auditEntryWrite_idle h ok, fun rq w s ho hquiet => ?_⟩,
    fun rq addr be data s ho hst hfull hbe h4 hp haud => registerWrite_waits ho hst hfull hbe h4 hp haud, fun rq page a s hst hrq hwide => ?_,
    fun rq s h => auditedWriteResume_none h⟩
  · refine ⟨if ok then s.dev.mramWrote 8 else (s.dev.mramWrote 8).mramFailed (32 * s.audit.next), (exec_auditEntryWrite hq hs ok).trans ?_,
      fun hok => ?_, fun hok => ?_⟩
    · simp only [Audit.write, sat_min]; rfl
    · rw [hok, ← Dev.mramWrote_eight]; rfl
    · rw [hok, ← Dev.mramWrote_eight]; rfl
  · refine ⟨_, exec_auditIndexSelect ho hquiet, ?_, Dev.sameRegsBut_showSlot _ _ _, Dev.fixed_showSlot .., fun x hx ws hws => ?_, fun hnone k hk => ?_⟩
    · rw [Dev.get_showSlot_idx, Nat.mod_mod]
    · have hwin : s.audit.window (w.toNat % 8192) = x.words := by simp only [Audit.window, hx]
      have hbody : ws = x.body.map (· % 2 ^ 32) := by simp [hws, AuditSlot.body]
      rw [hwin, Dev.map_showSlot_data _ _ (by rfl), AuditSlot.words_mod, hbody]
    · have hfind : s.audit.ring.find? (fun x => x.index = w.toNat % 8192) = none := List.find?_eq_none.mpr fun x hx => by simpa using hnone x hx
      have hwin : s.audit.window (w.toNat % 8192) = List.replicate 8 0 := by simp only [Audit.window, hfind]
      rw [hwin, Dev.get_showSlot_data _ _ _ hk]
      rw [List.getD_replicate _ hk, Nat.zero_mod]
  · obtain ⟨t, ht, -⟩ := exec_answers (.registerWrite a) { s with audit := { s.audit with stalled := [] } }
    refine ⟨t, ht, (auditedWriteResume_single hst).trans (congrArg _ ?_)⟩
    exact congrArg (ran · _) ht

end Sys2Proof.Machine
end

section
/-! PROOF. Sessions and the staged key (R45 to R57): what a write stores in its word, what a request and a response make of a session, and what staging a key leaves. -/

namespace Sys2Proof.Machine

/-! ### The value that a word gives a field (R5, R8) -/

/-- The one part of a field that lies within its word. -/
theorem Field.withPart_mod {f : Field} (h : f.width ≤ 32 - f.lo) (old w : Nat) : f.withPart 0 old w % 2 ^ f.width = w / 2 ^ f.lo % 2 ^ f.width := by
  have hw : Nat.min f.width (32 - f.lo) = f.width := Nat.min_eq_left h
  simp only [Field.withPart, hw, if_true, bits]
  rw [Nat.mul_comm, Nat.mul_add_mod, Nat.mod_mod]

theorem clampN_eq {lo hi : Nat} (h : lo ≤ hi) (v : Nat) : clampN lo hi v = max lo (min hi v) := by
  grind [clampN]

/-- What a field stores depends on the lowest bits alone. -/
theorem Field.clampVal_mod (f : Field) (v : Nat) : f.clampVal (v % 2 ^ f.width) = f.clampVal v := by
  simp only [Field.clampVal, signed, Nat.mod_mod]

/-- A field within its word stores its bits of the word. -/
theorem Field.clampVal_withPart {f : Field} (h : f.width ≤ 32 - f.lo) (old w : Nat) : f.clampVal (f.withPart 0 old w) = f.clampVal (bits w f.lo f.width) := by
  rw [← Field.clampVal_mod, Field.withPart_mod h]
  rfl

/-- A field that a range clamps takes the nearest legal value. -/
theorem clampVal_of_range {f : Field} {lo hi : Nat} (hc : f.clamp = .range lo hi) (hle : lo ≤ hi) (h : f.width ≤ 32 - f.lo) (old w : Nat) :
    f.clampVal (f.withPart 0 old w) = max lo (min hi (w / 2 ^ f.lo % 2 ^ f.width)) := by
  simp only [Field.clampVal, hc, Field.withPart_mod h, clampN_eq hle]

/-- A field without a clamp takes its bits. -/
theorem clampVal_of_none {f : Field} (hc : f.clamp = .none) (h : f.width ≤ 32 - f.lo) (old w : Nat) :
    f.clampVal (f.withPart 0 old w) = w / 2 ^ f.lo % 2 ^ f.width := by
  simp only [Field.clampVal, hc, Field.withPart_mod h]

/-! ### Sessions under changes of a device -/

theorem Dev.setSession_self (d : Dev) (rq : Requester) : d.setSession rq (d.session rq) = d := by cases rq <;> rfl

@[simp] theorem Dev.setSession_setSession (d : Dev) (rq : Requester) (x y : Session) : (d.setSession rq x).setSession rq y = d.setSession rq y := by
  cases rq <;> rfl

@[simp] theorem Dev.session_deny (d : Dev) (rq rq' : Requester) (a : Nat) : (d.deny rq a).session rq' = d.session rq' := by cases rq' <;> rfl

/-- The idle timer starts again in an open session alone (R53). -/
theorem Dev.touch_opened {d : Dev} {rq : Requester} (h : (d.session rq).st = .opened) : d.touch rq =
    d.setSession rq { d.session rq with deadline := d.raw + d.get F.ROLE_SESS_CTRL_IDLE_TIME (bankOf rq) * 1000000000 } := by
  simp only [Dev.touch, h, if_true]
  cases rq <;> rfl

/-- A requester with a role has an open session (R44). -/
theorem Dev.opened_of_rights {d : Dev} {rq : Requester} {r : Nat} (h : r + 1 ≤ d.rights rq) : (d.session rq).st = .opened := by
  by_contra hne
  simp [Dev.rights, hne] at h

theorem Dev.deny_eq (d : Dev) (rq : Requester) (a : Nat) : d.deny rq a = ((d.bump F.ROLE_DENY_COUNT (bankOf rq)).set F.ROLE_DENY_ADDR a (bankOf rq)).badAcc := by
  cases rq <;> rfl

/-! ### A request and a response (R45, R49 to R52) -/

/-- ROLE_REQ asks for the role of its word. -/
theorem exec_roleReq {rq : Requester} {w : Word} {s : State} (ho : s.PagesOpen) (hq : s.Quiet) :
    Gives (.roleReq rq w) s (s.dev.requestRole rq (max 1 (w.toNat % 4))) := by
  simp only [Gives, exec, execRoleReq, State.gate_run hq _ _ _ _ _ _ 0 (Nat.zero_le _), Dev.pageOpen_of ho.1 ho.2]
  rfl

/-- ROLE_RESP7 completes the response, which is then judged. -/
theorem exec_roleResponse {rq : Requester} {w : Word} {s : State} (ho : s.PagesOpen) (hq : s.Quiet) :
    Gives (.roleResponse rq w) s ((s.dev.set F.ROLE_RESP w.toNat (bankOf rq) 7).verify rq) := by
  have hwrite : s.write rq 0x109C w.toNat = s.onDev fun d => d.set F.ROLE_RESP w.toNat (bankOf rq) 7 := by
    rw [State.write_free (f := F.ROLE_RESP) (i := bankOf rq) (j := 7) (by decide) ho (by cases rq <;> decide +kernel) (by decide) rfl (by decide)
      (fun e => by cases rq <;> rfl) (.inr rfl)]
    refine congrArg s.onDev (funext fun d => congrArg (fun v => d.set F.ROLE_RESP v (bankOf rq) 7) ?_)
    rw [clampVal_of_none rfl (by decide)]
    have := w.isLt
    simp only [F.ROLE_RESP]; omega
  simp only [Gives, exec, execRoleResponse, State.gate_run hq _ _ _ _ _ _ 0 (Nat.zero_le _), Dev.pageOpen_of ho.1 ho.2, hwrite]
  rfl

/-- A role whose key is written and has the bonded digest is not refused (R43). -/
theorem Dev.roleRefused_of_key {d : Dev} {role : Nat} {key : List Nat} (hk : d.mram.keys.getD (role - 1) none = some key)
    (hd : d.roleDigest role = (sha256 key).take 16) (hz : ∃ b ∈ d.roleDigest role, b ≠ 0) : d.roleRefused role = false := by
  have hany : (d.roleDigest role).any (· ≠ 0) = true := by simpa using hz
  simp only [Dev.roleRefused, Dev.keyMatches, hk, hany, keyDigest, ← hd, decide_true, Bool.and_self, Bool.not_true]

theorem Dev.roleRefused_of_none {d : Dev} {role : Nat} (hk : d.mram.keys.getD (role - 1) none = none) : d.roleRefused role = true := by
  simp only [Dev.roleRefused, Dev.keyMatches, hk, Bool.not_false]

section
variable {d : Dev} {rq : Requester} (hc : (d.session rq).st = .challenged) (ht : d.raw ≤ (d.session rq).deadline)
include hc ht

/-- The right tag opens the session and starts its idle timer. -/
theorem Dev.session_verify_right (h : d.roleTag rq = d.response rq) : (d.verify rq).session rq =
    { d.session rq with st := .opened, fails := 0, chal := [], deadline := d.raw + d.get F.ROLE_SESS_CTRL_IDLE_TIME (bankOf rq) * 1000000000 } := by
  have hv : d.verify rq = (d.setSession rq { d.session rq with st := .opened, fails := 0, chal := [] }).touch rq := by
    simp [Dev.verify, hc, Dev.now, Nat.not_lt.mpr ht, h]
  rw [hv, Dev.touch_opened (by simp)]
  simp

/-- A wrong tag closes the session and counts. -/
theorem Dev.session_verify_wrong (h : d.roleTag rq ≠ d.response rq) (hf : (d.session rq).fails < 2) : (d.verify rq).session rq =
    { d.session rq with st := .closed, role := 0, fails := (d.session rq).fails + 1, chal := [], deadline := 0 } := by
  have hlt : (d.session rq).fails + 1 < 3 := by omega
  have hv : d.verify rq = d.setSession rq { (d.session rq).closed (d.session rq).refused with fails := (d.session rq).fails + 1 } := by
    simp [Dev.verify, hc, Dev.now, Nat.not_lt.mpr ht, h, hlt]
  rw [hv, Dev.session_setSession]
  rfl

/-- The third wrong tag locks it, reported as ROLE_LOCK. -/
theorem Dev.session_verify_third (h : d.roleTag rq ≠ d.response rq) (hf : 2 ≤ (d.session rq).fails) :
    (d.verify rq).session rq = { d.session rq with st := .locked, role := 0, fails := 3, chal := [], deadline := d.raw + 60000000000 } ∧
      has (d.verify rq).flt.status (fkey 22 0) = true := by
  have hlt : ¬ (d.session rq).fails + 1 < 3 := by omega
  have hv : d.verify rq = (d.setSession rq { (d.session rq).closed (d.session rq).refused with
      st := .locked, fails := 3, deadline := d.raw + 60000000000 }).report 22 := by
    simp [Dev.verify, hc, Dev.now, Nat.not_lt.mpr ht, h, hlt]
  rw [hv]
  refine ⟨?_, Dev.has_status_report _ 22 0 (by decide)⟩
  rw [Dev.session_of_fixed (Dev.fixed_report ..), Dev.session_setSession]
  rfl

end

/-! ### ROLE_SESS_CTRL (R47, R48) -/

theorem fieldsAt_sessCtrl (rq : Requester) : fieldsAt (canonAddr rq 0x1048) = [(F.ROLE_SESS_CTRL_IDLE_TIME, bankOf rq, 0, 0)] := by
  cases rq <;> decide +kernel

theorem write_sessCtrl_low {rq : Requester} {w : Nat} {s : State} (ho : s.PagesOpen) (hr : s.dev.rights rq < 2) :
    s.write rq 0x1048 w = s.onDev fun d => d.deny rq 0x1048 :=
  State.write_low (r := .installer) (by decide) ho (fieldsAt_sessCtrl rq) (by decide) rfl hr (by decide)

theorem write_sessCtrl_audited {rq : Requester} {w : Nat} {s : State} (h : s.Ready rq 2) :
    ∃ old new, s.write rq 0x1048 w = (s.onDev fun d => (d.set F.ROLE_SESS_CTRL_IDLE_TIME (max 10 (min 3600 (w / 65536 % 4096))) (bankOf rq)).touch rq).pushAudit
      (some rq) (s.dev.entry rq 0x1048 old new) := by
  have hmay : s.dev.may rq (some .installer) = true := Dev.may_of h.2.2
  obtain ⟨old, new, hw⟩ := State.write_one_audited (s := s) (rq := rq) (addr := 0x1048) (w := w) (by decide) h.1 (fieldsAt_sessCtrl rq)
    ((Dev.takes_of (by decide) (by decide) ..).trans hmay) (fun e => by cases rq <;> rfl) (.inl rfl) (by decide) (by decide) hmay
  refine ⟨old, new, hw.trans ?_⟩
  simp only [clampVal_of_range (f := F.ROLE_SESS_CTRL_IDLE_TIME) rfl (by decide) (by decide)]
  rfl

/-- DENY_CLR, then END, by the bits of the word. -/
theorem sessCtrl_run {rq : Requester} {cmd : Instr} {w : Nat} {s : State} (ho : s.PagesOpen) (hq : s.Quiet) :
    s.sessCtrl rq cmd w =
      let t := if w.testBit 1 then (s.write rq 0x1048 w).onDev (fun d => (d.set F.ROLE_DENY_COUNT 0 (bankOf rq)).set F.ROLE_DENY_ADDR 0 (bankOf rq))
        else s.write rq 0x1048 w
      if w.testBit 0 then t.onDev fun d =>
        if (d.session rq).st = .locked then d else d.setSession rq ((d.session rq).closed (d.session rq).refused) else t := by
  simp only [State.sessCtrl, State.gate_run hq _ _ _ _ _ _ 0 (Nat.zero_le _), State.acts, Dev.acts, Dev.may, Dev.pageOpen_of ho.1 ho.2, Bool.true_and, Bool.and_true]
  cases rq <;> rfl

/-- The session that END leaves of an open one, whatever its idle timer. -/
theorem Dev.end_touch {d : Dev} {rq : Requester} (h : (d.session rq).st = .opened) :
    (d.touch rq).setSession rq (((d.touch rq).session rq).closed ((d.touch rq).session rq).refused) =
      d.setSession rq { d.session rq with st := .closed, role := 0, deadline := 0, chal := [] } := by
  rw [Dev.touch_opened h]
  simp [Session.closed]

theorem testBits_of_mod4 {w : Nat} (i : Nat) (hi : i < 2) : w.testBit i = (w % 4).testBit i := by
  rw [show 4 = 2 ^ 2 from rfl, Nat.testBit_mod_two_pow]; simp [hi]

/-- Settles O26: a request and a response by the state of the session, its timers by their deadlines, and ROLE_SESS_CTRL by its bits and the requester's role. -/
theorem sessionsOpenAndClose : Obligations.SessionsOpenAndClose := by
  refine ⟨⟨fun rq w s ho hq hl => ?_, fun rq w s ho hq hl hk => ?_, fun rq w s key ho hq hl hk hd hz => ?_, fun rq w s ho hq hc ht => ?_⟩,
    fun rq s h => ?_, fun rq s h => ?_, fun rq s h => ?_, fun rq w s ho hq hr hw => ?_, fun rq w s h hw => ?_, fun rq w s ho hq hr hw => ?_,
    fun rq w s h hw => ?_⟩
  · have hstay : s.dev.requestRole rq (max 1 (w.toNat % 4)) = s.dev := by simp [Dev.requestRole, hl]
    exact hstay ▸ exec_roleReq ho hq
  · have hgive := exec_roleReq (w := w) (rq := rq) ho hq
    rwa [Dev.requestRole, if_neg hl, if_pos (Dev.roleRefused_of_none hk)] at hgive
  · have hgive := exec_roleReq (w := w) (rq := rq) ho hq
    rw [Dev.requestRole, if_neg hl, Dev.roleRefused_of_key hk hd hz] at hgive
    exact hgive
  · refine ⟨_, exec_roleResponse ho hq, _, rfl, fun h => ?_, fun h hf => ?_, fun h hf => ?_⟩
    · rw [Dev.session_verify_right (by simpa using hc) (by simpa using ht) h, Dev.session_set, Dev.get_set_ne _ _ _ _ _ _ _ _ (by cases rq <;> decide)]
      rfl
    · rw [Dev.session_verify_wrong (by simpa using hc) (by simpa using ht) h (by simpa using hf), Dev.session_set]
    · simpa only [Dev.session_set, Dev.set_raw] using Dev.session_verify_third (by simpa using hc) (by simpa using ht) h (by simpa using hf)
  · by_cases hle : (s.dev.session rq).deadline ≤ s.dev.raw <;> simp [Gives, exec, execLockEnd, h, Dev.now, hle]
    rfl
  · by_cases hle : (s.dev.session rq).deadline ≤ s.dev.raw <;> simp [Gives, exec, execChallengeExpire, h, Dev.now, hle]
    rfl
  · by_cases hle : (s.dev.session rq).deadline ≤ s.dev.raw <;> simp [Gives, exec, execSessionIdleTimeout, h, Dev.now, hle]
    rfl
  · have hb0 : w.toNat.testBit 0 = true := by rw [testBits_of_mod4 0 (by decide), hw]; decide
    have hb1 : w.toNat.testBit 1 = false := by rw [testBits_of_mod4 1 (by decide), hw]; decide
    simp only [Gives, exec, execSessionEnd, sessCtrl_run ho hq, hb0, hb1, write_sessCtrl_low ho hr]
    simp [State.onDev]
    split <;> rfl
  · have hb0 : w.toNat.testBit 0 = true := by rw [testBits_of_mod4 0 (by decide), hw]; decide
    have hb1 : w.toNat.testBit 1 = false := by rw [testBits_of_mod4 1 (by decide), hw]; decide
    obtain ⟨old, new, hwrite⟩ := write_sessCtrl_audited (w := w.toNat) h
    refine ⟨old, new, ?_⟩
    simp only [exec, execSessionEnd, sessCtrl_run h.1 h.2.1, hb0, hb1, hwrite]
    have hopen : ((s.dev.set F.ROLE_SESS_CTRL_IDLE_TIME (max 10 (min 3600 (w.toNat / 65536 % 4096))) (bankOf rq)).session rq).st = .opened := by
      rw [Dev.session_set]; exact Dev.opened_of_rights h.2.2
    have hend := Dev.end_touch hopen
    have hnot : ((Dev.touch (s.dev.set F.ROLE_SESS_CTRL_IDLE_TIME (max 10 (min 3600 (w.toNat / 65536 % 4096))) (bankOf rq)) rq).session rq).st ≠ .locked := by
      rw [Dev.touch_opened hopen, Dev.session_setSession, hopen]; decide
    rw [Dev.session_set] at hend
    rw [← hend]
    simp only [State.onDev, State.pushAudit, hnot, if_true, if_false, Bool.false_eq_true]
  · have hb0 : w.toNat.testBit 0 = false := by rw [testBits_of_mod4 0 (by decide), hw]; decide
    have hb1 : w.toNat.testBit 1 = true := by rw [testBits_of_mod4 1 (by decide), hw]; decide
    simp only [Gives, exec, execRoleDenyClear, sessCtrl_run ho hq, hb0, hb1, write_sessCtrl_low ho hr]
    rfl
  · have hb0 : w.toNat.testBit 0 = false := by rw [testBits_of_mod4 0 (by decide), hw]; decide
    have hb1 : w.toNat.testBit 1 = true := by rw [testBits_of_mod4 1 (by decide), hw]; decide
    obtain ⟨old, new, hwrite⟩ := write_sessCtrl_audited (w := w.toNat) h
    refine ⟨old, new, ?_⟩
    simp only [exec, execRoleDenyClear, sessCtrl_run h.1 h.2.1, hb0, hb1, hwrite]
    rfl

/-! ### The staged key (R55 to R57) -/

theorem fieldsAt_keyCtrl (rq : Requester) : fieldsAt (canonAddr rq 0x10C0) = [(F.ROLE_KEY_CTRL_TARGET, 0, 0, 0), (F.ROLE_KEY_CTRL_STAGED, 0, 0, 0)] := by
  cases rq <;> decide +kernel

/-- TARGET takes bits 8 and 9; code 0 is stored as 1. -/
theorem clampVal_keyTarget (w : Nat) : F.ROLE_KEY_CTRL_TARGET.clampVal (bits w 8 2) = max 1 (w / 256 % 4) := by
  have hlt : w / 256 % 4 < 4 := Nat.mod_lt _ (by decide)
  have hbits : bits w 8 2 = w / 256 % 4 := rfl
  rw [hbits]
  interval_cases w / 256 % 4 <;> rfl

theorem clampVal_keyTarget_withPart (old w : Nat) :
    F.ROLE_KEY_CTRL_TARGET.clampVal (F.ROLE_KEY_CTRL_TARGET.withPart 0 old w) = max 1 (w / 256 % 4) := by
  rw [Field.clampVal_withPart (by decide)]
  exact clampVal_keyTarget w

/-- The key registers as a key. -/
def Dev.keyBytes (d : Dev) : List Nat := (List.range 8).flatMap (fun k => bytesLE 4 (d.get F.ROLE_KEY_NEW k))

/-- The act of STAGE: MAKER, or nothing for a slot that was never written (R57). -/
def Dev.stageAct (d : Dev) (role : Nat) : Act := ⟨0, if d.slotBlank role then none else some .maker⟩

/-- May a requester stage a key for a role: the slot was never written, or it is a MAKER (R57). -/
def Dev.mayStage (d : Dev) (rq : Requester) (role : Nat) : Bool := d.may rq (some .maker) || d.slotBlank role

theorem Dev.may_stageAct {d : Dev} {rq : Requester} {role : Nat} (h : d.mayStage rq role = true) : d.may rq (d.stageAct role).role = true := by
  simp only [Dev.stageAct]
  split
  · rfl
  · next hb => simpa [Dev.mayStage, hb] using h

/-- TARGET stored; a MAKER's idle timer starts again (R53). -/
def Dev.retarget (d : Dev) (rq : Requester) (role : Nat) : Dev :=
  if d.may rq (some .maker) then (d.set F.ROLE_KEY_CTRL_TARGET role).touch rq else d.set F.ROLE_KEY_CTRL_TARGET role

/-- A permitted write of ROLE_KEY_CTRL stores TARGET and leaves one audit entry. -/
theorem write_keyCtrl {rq : Requester} {w : Nat} {s : State} (ho : s.PagesOpen) (hmay : s.dev.mayStage rq (max 1 (w / 256 % 4)) = true) :
    ∃ old new, s.write rq 0x10C0 w [s.dev.stageAct (max 1 (w / 256 % 4))] =
      (s.onDev fun d => d.retarget rq (max 1 (w / 256 % 4))).pushAudit (some rq) (s.dev.entry rq 0x10C0 old new) := by
  have hrole : F.ROLE_KEY_CTRL_TARGET.role = some .maker := rfl
  have hfield : s.dev.mayField rq F.ROLE_KEY_CTRL_TARGET 0 w = true := by
    simpa [Dev.mayField, clampVal_keyTarget, Dev.mayStage, hrole, show F.ROLE_KEY_CTRL_TARGET ≠ F.ROLE_KEY_NEW by decide] using hmay
  have hact := Dev.may_stageAct hmay
  have htakes : s.dev.takes rq w (F.ROLE_KEY_CTRL_TARGET, 0, 0, 0) = true := by
    simp [Dev.takes, hfield, show F.ROLE_KEY_CTRL_TARGET.stores = true by decide, show F.ROLE_KEY_CTRL_TARGET ≠ F.FLT_SRC_CLASS by decide]
  have hro : F.ROLE_KEY_CTRL_STAGED.stores = false := by decide
  have hskip : s.dev.takes rq w (F.ROLE_KEY_CTRL_STAGED, 0, 0, 0) = false := by simp [Dev.takes, hro]
  have hstore : s.dev.storeWord rq (canonAddr rq 0x10C0) w = s.dev.set F.ROLE_KEY_CTRL_TARGET (max 1 (w / 256 % 4)) := by
    have hn : ∀ e : Dev, e.normPage (canonAddr rq 0x10C0) = e := fun e => by cases rq <;> rfl
    simp [Dev.storeWord, fieldsAt_keyCtrl, htakes, hskip, hn, Dev.storeField, clampVal_keyTarget_withPart, show F.ROLE_KEY_CTRL_TARGET.acc = .rw by rfl]
  have hrefuses : s.dev.refuses rq (canonAddr rq 0x10C0) w [s.dev.stageAct (max 1 (w / 256 % 4))] = false := by
    simp [Dev.refuses, fieldsAt_keyCtrl, hfield, hact, hro]
  have haud : s.dev.audited rq (canonAddr rq 0x10C0) w [s.dev.stageAct (max 1 (w / 256 % 4))] = true := by
    simp [Dev.audited, fieldsAt_keyCtrl, htakes, hrole, auditedRole, show silentField F.ROLE_KEY_CTRL_TARGET = false by decide]
  have hrightful : s.dev.rightful rq (canonAddr rq 0x10C0) w [s.dev.stageAct (max 1 (w / 256 % 4))] = s.dev.may rq (some .maker) := by
    by_cases hm : s.dev.may rq (some .maker) = true
    · simp [Dev.rightful, fieldsAt_keyCtrl, htakes, hm, hrole, auditedRole]
    · have hblank : s.dev.slotBlank (max 1 (w / 256 % 4)) = true := by simpa [Dev.mayStage, hm] using hmay
      simp [Dev.rightful, fieldsAt_keyCtrl, hskip, hm, hrole, Dev.stageAct, hblank, auditedRole]
  refine ⟨s.dev.word (canonAddr rq 0x10C0), (s.dev.retarget rq (max 1 (w / 256 % 4))).word (canonAddr rq 0x10C0), ?_⟩
  simp only [State.write, Dev.writeWord, hstore, hrefuses, haud, hrightful, Dev.pageOpen_of ho.1 ho.2, show inPages 0x10C0 = true by decide]
  rfl

theorem Dev.retarget_cases (d : Dev) (rq : Requester) (role : Nat) : d.retarget rq role = d.set F.ROLE_KEY_CTRL_TARGET role ∨
    ∃ x, d.retarget rq role = (d.set F.ROLE_KEY_CTRL_TARGET role).setSession rq x := by
  simp only [Dev.retarget]
  split
  · exact Dev.touch_cases ..
  · exact .inl rfl

/-- What a STAGE reads is not what the write has stored. -/
theorem Dev.retarget_keeps (d : Dev) (rq : Requester) (role : Nat) : (d.retarget rq role).keyBytes = d.keyBytes ∧ (d.retarget rq role).raw = d.raw ∧
    (d.retarget rq role).mram = d.mram ∧ (d.retarget rq role).bond = d.bond := by
  have hkey : ∀ k, (d.set F.ROLE_KEY_CTRL_TARGET role).get F.ROLE_KEY_NEW k = d.get F.ROLE_KEY_NEW k := fun k =>
    Dev.get_set_ne _ _ _ _ _ _ _ _ (by simp only [Field.key, Field.addr, F.ROLE_KEY_NEW, F.ROLE_KEY_CTRL_TARGET]; omega)
  obtain h | ⟨x, h⟩ := d.retarget_cases rq role
  · simp [h, Dev.keyBytes, hkey]
  · simp only [h, Dev.keyBytes, Dev.get_setSession, hkey]
    cases rq <;> exact ⟨trivial, rfl, rfl, rfl⟩

/-- The staged key of a write (R56). -/
def Dev.stagedBy (d : Dev) (rq : Requester) (role : Nat) : StagedKey :=
  { target := role, key := d.keyBytes, deadline := d.raw + 60000000000, agent := d.agent rq, requester := d.agentRq rq }

/-- The device with TARGET stored and a key staged for it. -/
def Dev.stage (d : Dev) (rq : Requester) (role : Nat) : Dev :=
  ({ d.retarget rq role with staged := some (d.stagedBy rq role) } : Dev).set F.ROLE_KEY_CTRL_STAGED 1

theorem Dev.roleDigest_stage (d : Dev) (rq : Requester) (role r : Nat) : (d.stage rq role).roleDigest r = d.roleDigest r := by
  simp only [Dev.roleDigest, Dev.bonded, Dev.stage, Dev.set_bond, (d.retarget_keeps _ _).2.2.2]

/-- A permitted STAGE stages its key, leaves one entry, and looks for the key's match. -/
theorem exec_keyStage {rq : Requester} {w : Word} {s : State} (ho : s.PagesOpen) (hq : s.Quiet) (hw : w.toNat % 2 = 1)
    (hmay : s.dev.mayStage rq (max 1 (w.toNat / 256 % 4)) = true) :
    ∃ old new, exec (.keyStage rq w) s = .next (State.checkStaged
      ((s.onDev fun d => d.stage rq (max 1 (w.toNat / 256 % 4))).pushAudit (some rq) (s.dev.entry rq 0x10C0 old new))) := by
  obtain ⟨old, new, hwrite⟩ := write_keyCtrl ho hmay
  refine ⟨old, new, ?_⟩
  have hbit : w.toNat.testBit 0 = true := by simp [Nat.testBit_zero, hw]
  have hacts : s.acts rq 0x10C0 (s.dev.stageAct (max 1 (w.toNat / 256 % 4))) w.toNat = true := by
    simp only [State.acts, Dev.pageOpen_of ho.1 ho.2, Dev.acts, Dev.may_stageAct hmay, Bool.and_true, Bool.true_and]
    exact hbit
  obtain ⟨hkey, hraw, -⟩ := s.dev.retarget_keeps rq (max 1 (w.toNat / 256 % 4))
  simp only [exec, execKeyStage, clampVal_keyTarget, State.gate_run hq _ _ _ _ _ _ 1 (le_refl _)]
  rw [Dev.stageAct] at hacts hwrite
  rw [if_pos hacts, hwrite]
  have hstaged : s.dev.stagedBy rq (max 1 (w.toNat / 256 % 4)) = ⟨max 1 (w.toNat / 256 % 4), (s.dev.retarget rq (max 1 (w.toNat / 256 % 4))).keyBytes,
      (s.dev.retarget rq (max 1 (w.toNat / 256 % 4))).raw + 60000000000, s.dev.agent rq, s.dev.agentRq rq⟩ := by rw [hkey, hraw]; rfl
  simp only [State.onDev, State.pushAudit, Dev.stage, hstaged]
  rfl

/-- A staged key that is not the target's stays staged. -/
theorem State.checkStaged_stays {s : State} {k : StagedKey} (hk : s.dev.staged = some k) (hne : keyDigest k.key ≠ s.dev.roleDigest k.target) :
    s.checkStaged = s := by
  simp [State.checkStaged, hk, hne]

/-- What the check of the role keys leaves alone (R43). -/
theorem Dev.checkRoleKeys_keeps (d : Dev) : d.checkRoleKeys.mram = d.mram ∧ d.checkRoleKeys.staged = d.staged := by
  have hend : ∀ (e : Dev) (rq : Requester), (e.endRefused rq).mram = e.mram ∧ (e.endRefused rq).staged = e.staged := fun e rq => by
    simp only [Dev.endRefused]
    split
    · cases rq <;> exact ⟨rfl, rfl⟩
    · exact ⟨rfl, rfl⟩
  have hrep : (d.reportLevel 21 0 d.keyMismatch).mram = d.mram ∧ (d.reportLevel 21 0 d.keyMismatch).staged = d.staged := by
    have h := Dev.fixed_reportLevel d 21 0 d.keyMismatch
    simp only [Dev.fixed, Prod.mk.injEq] at h
    tauto
  simp only [Dev.checkRoleKeys, hend, hrep, and_self]

/-- A staged key that is the target's is committed, with an entry of its own (R56). -/
theorem State.checkStaged_commits {s : State} {k : StagedKey} (hk : s.dev.staged = some k) (heq : keyDigest k.key = s.dev.roleDigest k.target)
    (hroom : s.audit.queue.length + 1 ≤ 32) :
    s.checkStaged.dev.staged = none ∧ s.checkStaged.pending = s.pending ∧ s.checkStaged.audit.queue.length = s.audit.queue.length + 1 ∧
      s.checkStaged.dev.mram = { s.dev.mram with keys := setAt s.dev.mram.keys (k.target - 1) (fun _ => some k.key) } := by
  simp only [State.checkStaged, hk, heq, State.hasRoom, hroom, decide_true, Bool.and_self, if_true]
  simp only [State.pushAudit_dev, State.pushAudit_pending, State.pushAudit_queue, List.length_append, List.length_singleton, Dev.checkRoleKeys_keeps]
  exact ⟨rfl, trivial, trivial, rfl⟩

/-- Settles O36: a key staged for a blank slot, a MAKER's key that matches, and the end of its time. -/
theorem keyIsStaged : Obligations.KeyIsStaged := by
  refine ⟨fun rq w s ho hq hw hr hblank hne => ?_, fun rq w s ho hq hw hr heq => ?_, fun s k hk => ?_⟩
  · have hslot : s.dev.slotBlank (max 1 (w.toNat / 256 % 4)) = true := by simp only [Dev.slotBlank, hblank, Option.isNone_none]
    obtain ⟨old, new, hexec⟩ := exec_keyStage (rq := rq) ho hq hw (by simp [Dev.mayStage, hslot])
    refine ⟨old, new, hexec.trans ?_⟩
    have hmaker : s.dev.may rq (some .maker) = false := decide_eq_false (Nat.not_le.mpr (hr.trans (by decide)))
    have hagent : s.dev.agent rq = 5 := by
      rw [Dev.agent]
      split
      · next h2 => exact absurd h2 (Nat.ne_of_lt hr)
      · next h3 => exact absurd h3 (Nat.ne_of_lt (hr.trans (by decide)))
      · rfl
    have harq : s.dev.agentRq rq = 0 := if_neg (Nat.not_le.mpr hr)
    have hstage : s.dev.stage rq (max 1 (w.toNat / 256 % 4)) = ({ s.dev.set F.ROLE_KEY_CTRL_TARGET (max 1 (w.toNat / 256 % 4)) with
        staged := some { target := max 1 (w.toNat / 256 % 4), key := s.dev.keyBytes, deadline := s.dev.raw + 60000000000, agent := 5, requester := 0 } } : Dev).set
        F.ROLE_KEY_CTRL_STAGED 1 := by
      rw [Dev.stage, Dev.stagedBy, hagent, harq, Dev.retarget, hmaker]; rfl
    rw [State.checkStaged_stays (k := s.dev.stagedBy rq (max 1 (w.toNat / 256 % 4))) rfl ?_]
    · simp only [State.onDev, hstage]; rfl
    · rw [State.pushAudit_dev, State.onDev_dev, s.dev.roleDigest_stage]
      exact hne
  · obtain ⟨old, new, hexec⟩ := exec_keyStage (rq := rq) ho hq hw (by simp [Dev.mayStage, Dev.may, Role.code, hr])
    obtain ⟨hst, hp, hlen, hm⟩ := State.checkStaged_commits (k := s.dev.stagedBy rq (max 1 (w.toNat / 256 % 4)))
      (s := (s.onDev fun d => d.stage rq (max 1 (w.toNat / 256 % 4))).pushAudit (some rq) (s.dev.entry rq 0x10C0 old new)) rfl
      (by rw [State.pushAudit_dev, State.onDev_dev, s.dev.roleDigest_stage]; exact heq)
      (by have := hq.2; simp; omega)
    refine ⟨_, hexec, hst, hp, by simpa using hlen, ?_⟩
    rw [hm]
    simp only [State.pushAudit_dev, State.onDev_dev, Dev.stage, Dev.set_mram, (s.dev.retarget_keeps _ _).2.2.1]
    rfl
  · by_cases hle : k.deadline ≤ s.dev.raw <;> simp [Gives, exec, execStagedKeyExpire, hk, Dev.now, hle]
    rfl

end Sys2Proof.Machine
end

section
/-! PROOF. The SAFE port (R67 to R71): the fields of a frame's bytes, the checks in their order, and what a frame that passes does. -/

namespace Sys2Proof.Machine

/-! ### The bytes of a frame (R67) -/

theorem ofBytesLE_bytesLE (n v : Nat) : ofBytesLE (bytesLE n v) = v % 256 ^ n := by
  induction n generalizing v with
  | zero => simp [bytesLE, ofBytesLE, Nat.mod_one]
  | succ n ih => rw [bytesLE, ofBytesLE, ih, Nat.mod_mod, Nat.pow_succ, Nat.mul_comm (256 ^ n), Nat.mod_mul]

theorem ofBytesBE_bytesBE (n v : Nat) : ofBytesBE (bytesBE n v) = v % 256 ^ n := by
  rw [ofBytesBE, bytesBE, List.reverse_reverse, ofBytesLE_bytesLE]

theorem lt_of_mem_safeBytes {f : SafeFrame} {cmd b : Nat} (hcmd : cmd < 256) (h : b ∈ safeBytes f cmd) : b < 256 := by
  have hindex := f.index.isLt
  simp only [safeBytes, List.mem_append, List.mem_singleton] at h
  rcases h with ((((rfl | h) | rfl) | h) | h) | h
  · exact hcmd
  · exact lt_of_mem_bytesBE h
  · exact hindex
  all_goals exact lt_of_mem_bytesBE h

/-- The commands of a frame. -/
def safeCmds : List Nat := [0, 0x5A, 0xA5, 0x3C, 0xC3]

/-- A frame's fields are read back from its bytes. -/
theorem safeBytes_fields (f : SafeFrame) (cmd : Nat) : (safeBytes f cmd).length = 14 ∧ (safeBytes f cmd).getD 0 0 = cmd ∧
    ofBytesBE (((safeBytes f cmd).drop 1).take 2) = f.seq.toNat ∧ (safeBytes f cmd).getD 3 0 = f.index.toNat ∧
    ofBytesBE (((safeBytes f cmd).drop 4).take 4) = f.value.toNat ∧ ofBytesBE (((safeBytes f cmd).drop 8).take 4) = f.compl.toNat ∧
    ofBytesBE ((safeBytes f cmd).drop 12) = f.crc.toNat :=
  ⟨rfl, rfl, (ofBytesBE_bytesBE 2 _).trans (Nat.mod_eq_of_lt f.seq.isLt), rfl, (ofBytesBE_bytesBE 4 _).trans (Nat.mod_eq_of_lt f.value.isLt),
    (ofBytesBE_bytesBE 4 _).trans (Nat.mod_eq_of_lt f.compl.isLt), (ofBytesBE_bytesBE 2 _).trans (Nat.mod_eq_of_lt f.crc.isLt)⟩

/-! ### The checks in their order (R69, R70) -/

/-- The checks of a frame of one of the five commands, over its fields. -/
theorem Dev.safeCheck_safeBytes (d : Dev) (f : SafeFrame) {cmd : Nat} (h : cmd ∈ safeCmds) : d.safeCheck (safeBytes f cmd) =
    if crc16 ((safeBytes f cmd).take 12) ≠ f.crc.toNat then d.safeFail 1 f.seq.toNat f.index.toNat
    else if (cmd = 0x5A ∨ cmd = 0xA5) ∧ 26 < f.index.toNat then d.safeFail 5 f.seq.toNat f.index.toNat
    else if d.safe.loaded = false ∨ (cmd ≠ 0 ∧ cmd ≠ 0x5A ∧ d.safe.applying ≠ none) then d.safeFail 8 f.seq.toNat f.index.toNat
    else if cmd ≠ 0 ∧ cmd ≠ 0x5A ∧ f.seq.toNat ≠ d.get F.SAFE_PORT_STAT_EXP_SEQ then d.safeFail 2 f.seq.toNat f.index.toNat
    else if cmd = 0xA5 ∧ f.compl.toNat ≠ 0xFFFFFFFF - f.value.toNat then d.safeFail 3 f.seq.toNat f.index.toNat
    else d.safeAct cmd f.seq.toNat f.index.toNat f.value.toNat := by
  obtain ⟨-, hcmd, hseq, hindex, hvalue, hcompl, hcrc⟩ := safeBytes_fields f cmd
  simp only [Dev.safeCheck, hcmd, hseq, hindex, hvalue, hcompl, hcrc]
  simp only [safeCmds, List.mem_cons, List.not_mem_nil, or_false] at h
  rcases h with rfl | rfl | rfl | rfl | rfl <;> simp [Option.isSome_iff_ne_none]

/-- The command of a frame takes the frame's bytes. -/
theorem exec_safeFrame {f : SafeFrame} {c : Instr} {cmd : Nat}
    (h : (c, cmd) ∈ [(Instr.safeNop f, 0), (.safeRead f, 0x5A), (.safeWrite f, 0xA5), (.safeCommit f, 0x3C), (.safeDiscard f, 0xC3)]) (s : State) :
    exec c s = .next (s.onDev fun d => d.safeFrame 112 (safeBytes f cmd)) ∧ cmd ∈ safeCmds := by
  simp only [List.mem_cons, List.not_mem_nil, or_false, Prod.mk.injEq] at h
  rcases h with ⟨rfl, rfl⟩ | ⟨rfl, rfl⟩ | ⟨rfl, rfl⟩ | ⟨rfl, rfl⟩ | ⟨rfl, rfl⟩ <;> exact ⟨rfl, by decide⟩

/-- A frame of fourteen bytes is checked while the reply to the one before is shifted out. -/
theorem Dev.safeFrame_checked {d : Dev} (hon : d.pwr.st = .on) {b : List Nat} (hb : b.length = 14) : d.safeFrame 112 b = d.shiftReply.safeCheck b := by
  simp [Dev.safeFrame, hon, hb]

theorem Dev.safeFrame_off {d : Dev} (h : d.pwr.st ≠ .on) (n : Nat) (b : List Nat) : d.safeFrame n b = d := if_pos h

@[simp] theorem Dev.get_shiftReply_expSeq (d : Dev) : d.shiftReply.get F.SAFE_PORT_STAT_EXP_SEQ = d.get F.SAFE_PORT_STAT_EXP_SEQ :=
  Dev.get_set_ne _ _ _ _ _ _ _ _ (by decide)

@[simp] theorem Dev.safe_shiftReply (d : Dev) : d.shiftReply.safe = d.safe := rfl

/-- A frame of one of the five commands to a part with power. -/
theorem gives_safeFrame {f : SafeFrame} {c : Instr} {cmd : Nat} {s : State} (hon : s.dev.pwr.st = .on)
    (h : (c, cmd) ∈ [(Instr.safeNop f, 0), (.safeRead f, 0x5A), (.safeWrite f, 0xA5), (.safeCommit f, 0x3C), (.safeDiscard f, 0xC3)]) :
    Gives c s (s.dev.shiftReply.safeCheck (safeBytes f cmd)) := by
  obtain ⟨hexec, -⟩ := exec_safeFrame h s
  exact hexec.trans (by rw [State.onDev, Dev.safeFrame_checked hon rfl])

/-- A frame that fails the CRC, the index, or the state of the store; a frame that fails its SEQ or its complement. -/
theorem gives_safeFrame_failed {f : SafeFrame} {c : Instr} {cmd : Nat} {s : State} (hon : s.dev.pwr.st = .on)
    (h : (c, cmd) ∈ [(Instr.safeNop f, 0), (.safeRead f, 0x5A), (.safeWrite f, 0xA5), (.safeCommit f, 0x3C), (.safeDiscard f, 0xC3)]) :
    (crc16 ((safeBytes f cmd).take 12) ≠ f.crc.toNat → Gives c s (s.dev.shiftReply.safeFail 1 f.seq.toNat f.index.toNat)) ∧
    (crc16 ((safeBytes f cmd).take 12) = f.crc.toNat →
      (cmd = 0x5A ∨ cmd = 0xA5 → 26 < f.index.toNat → Gives c s (s.dev.shiftReply.safeFail 5 f.seq.toNat f.index.toNat)) ∧
      ((cmd = 0x5A ∨ cmd = 0xA5 → f.index.toNat ≤ 26) →
        (s.dev.safe.loaded = false ∨ (cmd ≠ 0 ∧ cmd ≠ 0x5A ∧ s.dev.safe.applying ≠ none) →
          Gives c s (s.dev.shiftReply.safeFail 8 f.seq.toNat f.index.toNat)) ∧
        (s.dev.safe.loaded = true → s.dev.safe.applying = none → cmd ≠ 0 → cmd ≠ 0x5A →
          (f.seq.toNat ≠ s.dev.get F.SAFE_PORT_STAT_EXP_SEQ → Gives c s (s.dev.shiftReply.safeFail 2 f.seq.toNat f.index.toNat)) ∧
          (f.seq.toNat = s.dev.get F.SAFE_PORT_STAT_EXP_SEQ → cmd = 0xA5 → f.compl.toNat ≠ 0xFFFFFFFF - f.value.toNat →
            Gives c s (s.dev.shiftReply.safeFail 3 f.seq.toNat f.index.toNat))))) := by
  have hgive := gives_safeFrame hon h
  rw [Dev.safeCheck_safeBytes _ _ (exec_safeFrame h s).2, Dev.safe_shiftReply, Dev.get_shiftReply_expSeq] at hgive
  refine ⟨fun hcrc => ?_, fun hcrc => ⟨fun hcmd hidx => ?_, fun hidx => ⟨fun hbusy => ?_, fun hl ha h0 h5 => ⟨fun hseq => ?_, fun hseq hw hcompl => ?_⟩⟩⟩⟩
  · rwa [if_pos hcrc] at hgive
  · rwa [if_neg (not_not.mpr hcrc), if_pos ⟨hcmd, hidx⟩] at hgive
  · rwa [if_neg (not_not.mpr hcrc), if_neg fun ⟨hc, hi⟩ => Nat.not_lt.mpr (hidx hc) hi, if_pos hbusy] at hgive
  · rwa [if_neg (not_not.mpr hcrc), if_neg fun ⟨hc, hi⟩ => Nat.not_lt.mpr (hidx hc) hi, if_neg (by simp [hl, ha]), if_pos ⟨h0, h5, hseq⟩] at hgive
  · rwa [if_neg (not_not.mpr hcrc), if_neg fun ⟨hc, hi⟩ => Nat.not_lt.mpr (hidx hc) hi, if_neg (by simp [hl, ha]), if_neg (fun hne => hne.2.2 hseq),
      if_pos ⟨hw, hcompl⟩] at hgive

/-- A frame that passes every check acts. -/
theorem gives_safeFrame_acts {f : SafeFrame} {c : Instr} {cmd : Nat} {s : State} (hon : s.dev.pwr.st = .on)
    (h : (c, cmd) ∈ [(Instr.safeNop f, 0), (.safeRead f, 0x5A), (.safeWrite f, 0xA5), (.safeCommit f, 0x3C), (.safeDiscard f, 0xC3)])
    (hcrc : crc16 ((safeBytes f cmd).take 12) = f.crc.toNat) (hidx : cmd = 0x5A ∨ cmd = 0xA5 → f.index.toNat ≤ 26) (hl : s.dev.safe.loaded = true)
    (hseq : cmd ≠ 0 → cmd ≠ 0x5A → s.dev.safe.applying = none ∧ f.seq.toNat = s.dev.get F.SAFE_PORT_STAT_EXP_SEQ)
    (hcompl : cmd = 0xA5 → f.compl.toNat = 0xFFFFFFFF - f.value.toNat) :
    Gives c s (s.dev.shiftReply.safeAct cmd f.seq.toNat f.index.toNat f.value.toNat) := by
  have hgive := gives_safeFrame hon h
  rwa [Dev.safeCheck_safeBytes _ _ (exec_safeFrame h s).2, Dev.safe_shiftReply, Dev.get_shiftReply_expSeq, if_neg (not_not.mpr hcrc),
    if_neg fun ⟨hc, hi⟩ => Nat.not_lt.mpr (hidx hc) hi, if_neg, if_neg fun ⟨h0, h5, hne⟩ => hne (hseq h0 h5).2, if_neg fun ⟨hw, hne⟩ => hne (hcompl hw)] at hgive
  rintro (hno | ⟨h0, h5, hne⟩)
  · rw [hl] at hno; cases hno
  · exact hne (hseq h0 h5).1

section
variable {d : Dev} {seq : Nat} (hseq : seq = d.get F.SAFE_PORT_STAT_EXP_SEQ) (index value : Nat)
include hseq

theorem Dev.safeAct_write : d.safeAct 0xA5 seq index value = ({ d with safe := { d.safe with
    staged := d.safe.staged.filter (fun e => e.1 ≠ index) ++ [(index, clampEntry index value)],
    last := .write seq index (clampEntry index value) } } : Dev).set F.SAFE_PORT_STAT_EXP_SEQ ((seq + 1) % 65536) := by
  subst hseq; rfl

/-- COMMIT with staged entries sets BUSY (R71). -/
theorem Dev.safeAct_commit (h : d.safe.staged ≠ []) : d.safeAct 0x3C seq index value = (({ d with safe := { d.safe with
    staged := [], applying := some d.safe.staged, last := .commit seq d.safe.staged.length } } : Dev).set F.SAFE_PORT_STAT_EXP_SEQ
    ((seq + 1) % 65536)).set F.SAFE_PORT_STAT_BUSY 1 := by
  subst hseq
  have hlen : d.safe.staged.length ≠ 0 := by simpa using h
  simp only [Dev.safeAct, hlen, if_false]
  rfl

theorem Dev.safeAct_commit_empty (h : d.safe.staged = []) : d.safeAct 0x3C seq index value = ({ d with safe := { d.safe with
    last := .commit seq 0 } } : Dev).set F.SAFE_PORT_STAT_EXP_SEQ ((seq + 1) % 65536) := by
  subst hseq
  have hlen : d.safe.staged.length = 0 := by simp [h]
  simp only [Dev.safeAct, hlen]
  rfl

theorem Dev.safeAct_discard : d.safeAct 0xC3 seq index value = ({ d with safe := { d.safe with
    staged := [], last := .discard seq index } } : Dev).set F.SAFE_PORT_STAT_EXP_SEQ ((seq + 1) % 65536) := by
  subst hseq; rfl

end

/-- The bytes of a frame, as the pins carry them, are that frame. -/
theorem map_toNat_ofNat {l : List Nat} (h : ∀ b ∈ l, b < 256) : (l.map (BitVec.ofNat 8)).map (·.toNat) = l := by
  rw [List.map_map]
  exact (List.map_congr_left fun b hb => Nat.mod_eq_of_lt (h b hb)).trans (List.map_id l)

/-- Settles O37: a frame acts or fails by the first check that it does not pass; other frames fail by their length, their CRC or their command. -/
theorem safeFramesAct : Obligations.SafeFramesAct := by
  refine ⟨fun f s hon hl => ⟨fun hcrc => ?_, fun hcrc hidx => ?_, fun ha hseq => ⟨fun hcrc hidx hcompl => ?_, fun hcrc hst => ?_, fun hcrc hst => ?_,
    fun hcrc => ?_⟩⟩, fun f s c cmd hon hmem => ?_, fun nbits bytes s hon hlen => ?_, fun bytes b s hon hb hlen => ?_, fun f nbits bytes s hoff c hc => ?_⟩
  · exact gives_safeFrame_acts hon (by simp) hcrc (by simp) hl (by simp) (by simp)
  · exact gives_safeFrame_acts hon (by simp) hcrc (fun _ => hidx) hl (by simp) (by simp)
  · have hgive := gives_safeFrame_acts (c := .safeWrite f) hon (by simp) hcrc (fun _ => hidx) hl (fun _ _ => ⟨ha, hseq⟩) (fun _ => hcompl)
    rwa [Dev.safeAct_write (by simpa using hseq)] at hgive
  · have hgive := gives_safeFrame_acts (c := .safeCommit f) hon (by simp) hcrc (by simp) hl (fun _ _ => ⟨ha, hseq⟩) (by simp)
    rwa [Dev.safeAct_commit (d := s.dev.shiftReply) (by simpa using hseq) _ _ hst] at hgive
  · have hgive := gives_safeFrame_acts (c := .safeCommit f) hon (by simp) hcrc (by simp) hl (fun _ _ => ⟨ha, hseq⟩) (by simp)
    rwa [Dev.safeAct_commit_empty (d := s.dev.shiftReply) (by simpa using hseq) _ _ hst] at hgive
  · have hgive := gives_safeFrame_acts (c := .safeDiscard f) hon (by simp) hcrc (by simp) hl (fun _ _ => ⟨ha, hseq⟩) (by simp)
    rwa [Dev.safeAct_discard (by simpa using hseq)] at hgive
  · have hfail := gives_safeFrame_failed hon hmem
    refine ⟨hfail.1, hfail.2, ?_⟩
    obtain ⟨hexec, hcmd⟩ := exec_safeFrame hmem s
    have hlt : cmd < 256 := by simp only [safeCmds, List.mem_cons, List.not_mem_nil, or_false] at hcmd; omega
    rw [hexec]
    simp only [exec, execSafeBadFrame, map_toNat_ofNat fun b hb => lt_of_mem_safeBytes (f := f) hlt hb]
  · refine ⟨_, rfl, ?_⟩
    have hbad : (nbits ≠ 112 || (bytes.map (·.toNat)).length ≠ 14) = true := by simpa using hlen
    simp only [Gives, exec, execSafeBadFrame, State.onDev, Dev.safeFrame, hon, hbad]
    rfl
  · have hgive : Gives (.safeBadFrame 112 bytes) s (s.dev.shiftReply.safeCheck b) := by
      simp only [Gives, exec, execSafeBadFrame, State.onDev, ← hb, Dev.safeFrame_checked hon hlen]
    rw [Dev.safeCheck] at hgive
    refine ⟨fun hcrc => ?_, fun hcrc hcmd => ?_⟩
    · rwa [if_pos hcrc] at hgive
    · simp only [List.mem_cons, List.not_mem_nil, or_false, not_or] at hcmd
      obtain ⟨h0, h5a, ha5, h3c, hc3⟩ := hcmd
      simp only [if_neg (not_not.mpr hcrc), h0, h5a, ha5, h3c, hc3, decide_false, Bool.or_self, Bool.not_false, if_true] at hgive
      exact hgive
  · have hstay : exec c s = .next (s.onDev fun d => d) := by
      simp only [List.mem_cons, List.not_mem_nil, or_false] at hc
      rcases hc with rfl | rfl | rfl | rfl | rfl | rfl <;> exact congrArg (fun d => Host.Outcome.next { s with dev := d }) (Dev.safeFrame_off hoff _ _)
    exact hstay

end Sys2Proof.Machine
end

section
/-! PROOF. The bonded store (R64, R65, R71, R470) and the cask words (R77, R78): a commit whole, the vote over three copies, and the checks of pairs and digest. -/

namespace Sys2Proof.Machine

/-! ### A commit (R71) -/

theorem matchedPair_bondPair (v : Nat) : matchedPair (bondPair v) = true := by simp [matchedPair, bondPair]

/-- The consumers take every pair of a store whose pairs match. -/
theorem Bonded.inUse_feed {b : Bonded} {v : List Nat} (h : b.pairs = v.map bondPair) : b.feed.inUse = (v.map bondPair).take b.inUse.length := by
  simp only [Bonded.feed, h]
  induction v generalizing b with
  | nil => simp
  | cons a v ih =>
    cases hu : b.inUse with
    | nil => simp
    | cons u us => simpa [matchedPair_bondPair] using ih (b := { b with pairs := v.map bondPair, inUse := us }) rfl

theorem Dev.setCasks_keeps (d : Dev) (n : Nat) (vs : List Nat) :
    (d.setCasks n vs).bond.inUse = d.bond.inUse ∧ (d.setCasks n vs).safe = d.safe ∧ (d.setCasks n vs).staged = d.staged ∧ (d.setCasks n vs).T = d.T :=
  ⟨foldl_keeps (fun e : Dev => e.bond.inUse) (fun d k => d.setCask (n + k) (vs.getD k 0)) (fun _ _ => rfl) _ d,
    foldl_keeps Dev.safe (fun d k => d.setCask (n + k) (vs.getD k 0)) (fun _ _ => rfl) _ d,
    foldl_keeps Dev.staged (fun d k => d.setCask (n + k) (vs.getD k 0)) (fun _ _ => rfl) _ d,
    foldl_keeps Dev.T (fun d k => d.setCask (n + k) (vs.getD k 0)) (fun _ _ => rfl) _ d⟩

theorem Dev.putBond_keeps (d : Dev) (v : List Nat) : (d.putBond v).bond.inUse = (v.map bondPair).take d.bond.inUse.length ∧ (d.putBond v).safe = d.safe ∧
    (d.putBond v).staged = d.staged ∧ (d.putBond v).T = d.T := by
  simp only [Dev.putBond, Dev.setCasks_keeps]
  exact ⟨Bonded.inUse_feed rfl, trivial, trivial, rfl⟩

/-- What the check of the role keys leaves of the store's own state. -/
theorem Dev.safe_checkRoleKeys (d : Dev) : d.checkRoleKeys.safe = d.safe := by
  have hend : ∀ (e : Dev) (rq : Requester), (e.endRefused rq).safe = e.safe := fun e rq => by
    simp only [Dev.endRefused]
    split
    · cases rq <;> rfl
    · rfl
  have hrep : (d.reportLevel 21 0 d.keyMismatch).safe = d.safe := by
    have h := Dev.fixed_reportLevel d 21 0 d.keyMismatch
    simp only [Dev.fixed, Prod.mk.injEq] at h
    tauto
  simp only [Dev.checkRoleKeys, hend, hrep]

/-- A staged key's commit writes its key slot alone, of the stores. -/
theorem State.checkStaged_keeps (s : State) : s.checkStaged.dev.safe = s.dev.safe ∧ s.checkStaged.dev.mram.bond = s.dev.mram.bond ∧
    (s.dev.staged = none → s.checkStaged = s) := by
  simp only [State.checkStaged]
  split
  · exact ⟨rfl, rfl, fun _ => rfl⟩
  · next k hk =>
    refine ⟨?_, ?_, fun hnone => ?_⟩
    · split
      · rw [State.pushAudit_dev, Dev.safe_checkRoleKeys]; rfl
      · rfl
    · split
      · rw [State.pushAudit_dev, (Dev.checkRoleKeys_keeps _).1]; rfl
      · rfl
    · rw [hk] at hnone; cases hnone

/-- Entries that join the queue, one for each element of a list, from a state whose device stays. -/
theorem State.foldl_pushAudit {β : Type} (f : Dev → β → AuditEntry) (l : List β) (s : State) :
    l.foldl (fun s b => s.pushAudit none (f s.dev b)) s = { s with audit := { s.audit with queue := s.audit.queue ++ l.map (fun b => (none, f s.dev b)) } } := by
  induction l generalizing s with
  | nil => simp
  | cons b l ih => rw [List.foldl_cons, ih]; simp [State.pushAudit]

/-- Entries that join the queue, then the check of the role keys and of a staged key. -/
theorem State.checkStaged_foldl_pushAudit {β : Type} (f : Dev → β → AuditEntry) (l : List β) (s : State) :
    let t := ((l.foldl (fun s b => s.pushAudit none (f s.dev b)) s).onDev Dev.checkRoleKeys).checkStaged
    t.dev.safe = s.dev.safe ∧ t.dev.mram.bond = s.dev.mram.bond ∧
      (s.dev.staged = none → t.audit = { s.audit with queue := s.audit.queue ++ l.map (fun b => (none, f s.dev b)) }) := by
  simp only [State.foldl_pushAudit]
  obtain ⟨hsafe, hbond, hstay⟩ :=
    State.checkStaged_keeps ((State.mk s.dev { s.audit with queue := s.audit.queue ++ l.map (fun b => (none, f s.dev b)) } s.pending).onDev Dev.checkRoleKeys)
  refine ⟨hsafe.trans (Dev.safe_checkRoleKeys _), hbond.trans (congrArg Mram.bond (Dev.checkRoleKeys_keeps _).1), fun hnone => ?_⟩
  exact congrArg State.audit (hstay ((Dev.checkRoleKeys_keeps _).2.trans hnone))

/-- A commit: store, copy and consumers, with an entry for each changed value. -/
theorem State.commitBond_keeps (s : State) (agent : Nat) (v : List Nat) :
    (s.commitBond agent v).dev.safe = s.dev.safe ∧ (s.commitBond agent v).dev.mram.bond = some (v.map bondPair) ∧
      (s.dev.staged = none → (s.commitBond agent v).audit = { s.audit with
        queue := s.audit.queue ++ (changedEntries (s.dev.bond.pairs.map (·.1)) v).map (fun e => (none, bondEntry s.dev.T agent e)) }) := by
  obtain ⟨-, hsafe, hstaged, hT⟩ := s.dev.putBond_keeps v
  obtain ⟨h1, h2, h3⟩ := State.checkStaged_foldl_pushAudit (fun d e => bondEntry d.T agent e) (changedEntries (s.dev.bond.pairs.map (·.1)) v)
    (s.onDev fun d => let e := (d.putBond v).mramWrote 54
      { e with mram := { e.mram with bond := some (v.map bondPair) } })
  refine ⟨h1.trans hsafe, h2, fun hnone => ?_⟩
  rw [← hT]
  exact h3 (hstaged.trans hnone)

/-- A commit with room for its entries takes place; a failed read-back is reported besides (R470). -/
theorem exec_safeCommitApply {s : State} {staged : List (Nat × Nat)} (ha : s.dev.safe.applying = some staged) (hs : s.dev.get F.NVM_STAT_SUSPENDED = 0)
    (hq : s.audit.queue.length + 28 ≤ 32) :
    ∃ t, t = (s.commitBond 3 (applyEntries (s.dev.bond.pairs.map (·.1)) staged)).onDev
        (fun d => ({ d with safe := { d.safe with applying := none } } : Dev).set F.SAFE_PORT_STAT_BUSY 0) ∧
      exec (.safeCommitApply true) s = .next t ∧ exec (.safeCommitApply false) s = .next (t.onDev fun d => d.mramFailed 0x60800) := by
  have hroom : s.hasRoom ((changedEntries (s.dev.bond.pairs.map (·.1)) (applyEntries (s.dev.bond.pairs.map (·.1)) staged)).length +
      if s.dev.staged.isSome then 1 else 0) = true := by
    have hlen := length_changedEntries_le (s.dev.bond.pairs.map (·.1)) (applyEntries (s.dev.bond.pairs.map (·.1)) staged)
    simp only [State.hasRoom, decide_eq_true_eq]
    split <;> omega
  refine ⟨_, rfl, ?_, ?_⟩ <;> simp only [exec, execSafeCommitApply, ha, hroom, (Dev.flag_eq_false ..).mpr hs] <;> rfl

/-- What a commit with room leaves. -/
theorem safeCommitApply_completes {s : State} {staged : List (Nat × Nat)} (ha : s.dev.safe.applying = some staged) (hs : s.dev.get F.NVM_STAT_SUSPENDED = 0)
    (hq : s.audit.queue.length + 28 ≤ 32) :
    ∃ t v ch, exec (.safeCommitApply true) s = .next t ∧ v = applyEntries (s.dev.bond.pairs.map (·.1)) staged ∧
      ch = changedEntries (s.dev.bond.pairs.map (·.1)) v ∧
      t.dev.bond.inUse = (v.map bondPair).take s.dev.bond.inUse.length ∧ t.dev.bond.pairs = v.map bondPair ∧ t.dev.mram.bond = some (v.map bondPair) ∧
      t.dev.safe = { s.dev.safe with applying := none } ∧ t.dev.get F.SAFE_PORT_STAT_BUSY = 0 ∧ t.pending = s.pending ∧
      (s.dev.staged = none → t.audit = { s.audit with queue := s.audit.queue ++ ch.map (fun e => (none, bondEntry s.dev.T 3 e)) }) ∧
      exec (.safeCommitApply false) s = .next { t with dev := ((t.dev.bump F.NVM_ERR_UE).set F.NVM_ERR_ADDR 0x60800).report 87 } := by
  obtain ⟨t, ht, hok, hfail⟩ := exec_safeCommitApply ha hs hq
  have hkeeps := s.commitBond_keeps 3 (applyEntries (s.dev.bond.pairs.map (·.1)) staged)
  have hbond := s.bond_commitBond 3 (applyEntries (s.dev.bond.pairs.map (·.1)) staged)
  have hpending := (State.commitBond_ring s 3 (applyEntries (s.dev.bond.pairs.map (·.1)) staged)).1
  generalize s.commitBond 3 (applyEntries (s.dev.bond.pairs.map (·.1)) staged) = c at ht hkeeps hbond hpending
  obtain ⟨hsafe, hmram, haudit⟩ := hkeeps
  refine ⟨t, _, _, hok, rfl, rfl, ?_, ?_, ?_, ?_, ?_, ?_, ?_, hfail⟩ <;> rw [ht]
  · exact (congrArg Bonded.inUse hbond).trans (s.dev.putBond_keeps _).1
  · exact (congrArg Bonded.pairs hbond).trans (Dev.pairs_putBond ..)
  · exact hmram
  · exact congrArg (fun p : SafePort => { p with applying := none }) hsafe
  · exact Dev.get_set_self ..
  · exact hpending
  · exact haudit

/-- A commit that waits changes nothing. -/
theorem safeCommitApply_waits {ok : Bool} {s : State} {staged : List (Nat × Nat)} (ha : s.dev.safe.applying = some staged)
    (hwait : s.dev.get F.NVM_STAT_SUSPENDED = 1 ∨
      32 < s.audit.queue.length + (changedEntries (s.dev.bond.pairs.map (·.1)) (applyEntries (s.dev.bond.pairs.map (·.1)) staged)).length) :
    Gives (.safeCommitApply ok) s s.dev := by
  have hstay : (!s.hasRoom ((changedEntries (s.dev.bond.pairs.map (·.1)) (applyEntries (s.dev.bond.pairs.map (·.1)) staged)).length +
      if s.dev.staged.isSome then 1 else 0) || s.dev.flag F.NVM_STAT_SUSPENDED) = true := by
    rw [Bool.or_eq_true]
    obtain hsusp | hfull := hwait
    · exact .inr (by simp [Dev.flag, hsusp])
    · refine .inl ?_
      simp only [State.hasRoom, Bool.not_eq_true', decide_eq_false_iff_not]
      omega
  simp only [Gives, exec, execSafeCommitApply, ha]
  rw [if_pos hstay]

/-! ### The vote over the copies of a cask word (R77, R78) -/

theorem exec_caskWordRead {s : State} (ho : s.PagesOpen) (n : Fin 64) : Gives (.caskWordRead n) s (s.dev.readCask n.val) := by
  simp only [Gives, exec, execCaskWordRead, Dev.pageOpen_of ho.1 ho.2]
  rfl

theorem majority_of_two (u v : Nat) : majority u v v = v ∧ majority v u v = v ∧ majority v v u = v := by
  refine ⟨?_, ?_, ?_⟩ <;> refine Nat.eq_of_testBit_eq fun i => ?_ <;> simp only [majority, Nat.testBit_or, Nat.testBit_and] <;>
    cases u.testBit i <;> cases v.testBit i <;> rfl

/-- A read of a cask word whose copies hold a, b and c. -/
theorem Dev.readCask_of {d : Dev} {n a b c : Nat} (h0 : d.bond.cask0.getD n 0 = a) (h1 : d.bond.cask1.getD n 0 = b) (h2 : d.bond.cask2.getD n 0 = c) :
    d.readCask n =
      if a = b ∧ b = c then d.emit (.cask n (majority a b c))
      else if (a = b ∨ b = c) ∨ a = c then
        (((({ d with bond := { d.bond with
          cask0 := setAt d.bond.cask0 n (fun _ => majority a b c), cask1 := setAt d.bond.cask1 n (fun _ => majority a b c),
          cask2 := setAt d.bond.cask2 n (fun _ => majority a b c) } } : Dev).emit (.cask n (majority a b c))).bump F.SAFE_CASK_STAT_FIX_CNT).set
            F.SAFE_CASK_STAT_LAST_WORD n)
      else ((d.emit (.cask n (majority a b c))).set F.SAFE_CASK_STAT_LAST_WORD n).report 13 := by
  simp only [Dev.readCask, Dev.voteCask, Dev.cask, Dev.emit_bond, h0, h1, h2, Bool.and_eq_true, Bool.or_eq_true, decide_eq_true_eq]
  rfl

theorem bondedMatched_iff (b : Bonded) : b.matched = true ↔ ∀ p ∈ b.pairs ++ b.inUse, p.2 = 0xFFFFFFFF - p.1 := by
  simp only [Bonded.matched, Bool.and_eq_true, List.all_eq_true, matchedPair, decide_eq_true_eq, List.mem_append]
  exact ⟨fun h p hp => hp.elim (h.1 p) (h.2 p), fun h => ⟨fun p hp => h p (.inl hp), fun p hp => h p (.inr hp)⟩⟩

/-- The check of the digest votes the words that hold it. -/
theorem gives_bondedDigestCheck {s : State} (hon : s.dev.pwr.st = .on) (hl : s.dev.safe.loaded = true) :
    Gives .bondedDigestCheck s
      (if bondDigest ((s.dev.voteCasks [4, 5, 6, 7, 8, 9, 10, 11]).bond.pairs.map (·.1)) =
          (List.range 8).map (fun k => (s.dev.voteCasks [4, 5, 6, 7, 8, 9, 10, 11]).cask (4 + k))
        then s.dev.voteCasks [4, 5, 6, 7, 8, 9, 10, 11] else (s.dev.voteCasks [4, 5, 6, 7, 8, 9, 10, 11]).report 12) := by
  have hspan : span 4 11 = [4, 5, 6, 7, 8, 9, 10, 11] := by decide
  have hrun : (decide (s.dev.pwr.st = .on) && s.dev.safe.loaded) = true := by simp [hon, hl]
  simp only [Gives, exec, execBondedDigestCheck]
  rw [if_pos hrun, hspan]
  rfl

/-- Settles O38: a commit with room and one without, the vote by the copies that agree, and the checks of pairs and of the digest. -/
theorem bondedValuesAreKept : Obligations.BondedValuesAreKept := by
  refine ⟨⟨fun s staged ha hs hq => safeCommitApply_completes ha hs hq, fun ok s staged ha hwait => safeCommitApply_waits ha hwait, fun ok s hnone => ?_⟩,
    fun n s v ho h0 h1 h2 => ?_, fun n s u v ho hne hmem => ?_, fun n s a b c ho h0 h1 h2 hab hbc hac => ?_, fun s hon hall => ?_, fun s p hon hp hne => ?_, fun s d hon hl hd => ?_, fun s hoff => ?_, fun s hl => ?_⟩
  · simp only [Gives, exec, execSafeCommitApply, hnone]
  · have hread := exec_caskWordRead ho n
    rwa [Dev.readCask_of h0 h1 h2, if_pos ⟨rfl, rfl⟩, majority_self] at hread
  · have hread := exec_caskWordRead ho n
    obtain ⟨m1, m2, m3⟩ := majority_of_two u v
    simp only [List.mem_cons, List.not_mem_nil, or_false, Prod.mk.injEq] at hmem
    rcases hmem with ⟨h0, h1, h2⟩ | ⟨h0, h1, h2⟩ | ⟨h0, h1, h2⟩ <;> rw [Dev.readCask_of h0 h1 h2, if_neg (by tauto), if_pos (by tauto)] at hread
    · rwa [m1] at hread
    · rwa [m2] at hread
    · rwa [m3] at hread
  · have hread := exec_caskWordRead ho n
    rwa [Dev.readCask_of h0 h1 h2, if_neg (by tauto), if_neg (by tauto), majority] at hread
  · have hm : s.dev.bond.matched = true := (bondedMatched_iff _).mpr hall
    simp [Gives, exec, execBondedPairCheck, hm]
  · have hm : s.dev.bond.matched = false := by
      rw [← Bool.not_eq_true, bondedMatched_iff]
      exact fun hall => hne (hall p hp)
    simp only [Gives, exec, execBondedPairCheck, hon, hm, Bonded.feed, matchedPair, decide_eq_true_eq]
    rfl
  · have hread := gives_bondedDigestCheck hon hl
    rw [← hd] at hread
    exact ⟨fun hne => by rwa [if_neg hne] at hread, fun heq => by rwa [if_pos heq] at hread⟩
  · simp [Gives, exec, execBondedPairCheck, execBondedDigestCheck, hoff]
  · simp [Gives, exec, execBondedDigestCheck, hl]

end Sys2Proof.Machine
end


section
/-! PROOF. What the frames that a port sends leave alone: its lane and the exchanges with its head (R238 to R249, R261 to R264). -/

namespace Sys2Proof.Machine

/-- Is an output a frame on a lamp line. -/
def Output.isLamp : Output → Bool
  | .lamp .. => true
  | _ => false

/-- A port but for its transmitter, the number of its latest marker and the link delay that it has sent. -/
noncomputable def HlkPort.offLane (q : HlkPort) : HlkPort := { q with tx := {}, mFwd := 0, linkOut := 0 }

/-- A property of the device that frames on a port's lane keep: of the port's transmitter it speaks of the mode alone, it does not speak of the link delay sent, and further
outputs do not matter, but for lamp frames. -/
structure OnTx (P : Dev → Prop) (p : Nat) : Prop where
  emit : ∀ {d : Dev} (o : Output), o.isLamp = false → P d → P (d.emit o)
  modTx : ∀ {d : Dev} (f : LaneTx → LaneTx), (f (d.port p).tx).mode = (d.port p).tx.mode → P d → P (d.modTx p f)
  link : ∀ {d : Dev} (n : Int), P d → P (d.modPort p fun q => { q with linkOut := n })

/-- Such a property that does not speak of the port's transmitter and markers at all. -/
structure OnLane (P : Dev → Prop) (p : Nat) : Prop where
  emit : ∀ {d : Dev} (o : Output), o.isLamp = false → P d → P (d.emit o)
  port : ∀ {d : Dev} (f : HlkPort → HlkPort), (∀ q, (f q).offLane = q.offLane) → P d → P (d.modPort p f)

/-! ### The ports of the device -/

theorem Dev.port_modPort (d : Dev) (p k : Nat) (f : HlkPort → HlkPort) :
    (d.modPort p f).port k = if k = p ∧ k < d.ports.length then f (d.port k) else d.port k := getD_setAt _ _ _ _ _

theorem Dev.port_modPort_self {d : Dev} {p : Nat} (h : p < d.ports.length) (f : HlkPort → HlkPort) : (d.modPort p f).port p = f (d.port p) := by
  rw [Dev.port_modPort, if_pos ⟨rfl, h⟩]

theorem Dev.port_modPort_ne (d : Dev) {p k : Nat} (h : k ≠ p) (f : HlkPort → HlkPort) : (d.modPort p f).port k = d.port k := by
  rw [Dev.port_modPort, if_neg (fun hk => h hk.1)]

/-! ### Words on a lane -/

/-- A lane but for its scrambler and its run of equal bits. -/
def LaneTx.beside (t : LaneTx) : LaneTx := { t with scr := 0, runBit := false, run := 0 }

theorem LaneTx.beside_bit (t : LaneTx) (s : Bool) : (t.bit s).2.beside = t.beside := by
  unfold LaneTx.bit
  generalize (if (decide (t.run ≠ 0) && decide (t.runBit = s)) = true then t.run + 1 else 1) = n
  simp only
  split <;> rfl

theorem LaneTx.beside_frameBits (bs : List Bool) (t : LaneTx) : (LaneTx.frameBits bs t).2.beside = t.beside := by
  induction bs generalizing t with
  | nil => rfl
  | cons b r ih => exact (ih _).trans (LaneTx.beside_bit _ _)

theorem LaneTx.of_beside {t u : LaneTx} (h : t.beside = u.beside) : t.endAt = u.endAt ∧ t.cur = u.cur ∧ t.words = u.words := by
  have hend : t.beside.endAt = u.beside.endAt := congrArg LaneTx.endAt h
  have hcur : t.beside.cur = u.beside.cur := congrArg LaneTx.cur h
  have hwords : t.beside.words = u.beside.words := congrArg LaneTx.words h
  exact ⟨hend, hcur, hwords⟩

/-- A word that goes out moves the lane on by one word. -/
theorem LaneTx.word_keeps (t : LaneTx) (w : Nat) : (t.word w).2.endAt = t.endAt ∧ (t.word w).2.cur = t.cur ∧ (t.word w).2.words = t.words + 1 := by
  unfold LaneTx.word
  generalize wordBits w = bs
  obtain ⟨hend, hcur, hwords⟩ := LaneTx.of_beside (LaneTx.beside_frameBits bs t)
  exact ⟨hend, hcur, congrArg (· + 1) hwords⟩

theorem LaneTx.mode_word (t : LaneTx) (w : Nat) : (t.word w).2.mode = t.mode := by
  unfold LaneTx.word
  generalize wordBits w = bs
  have h : (LaneTx.frameBits bs t).2.beside.mode = t.beside.mode := congrArg LaneTx.mode (LaneTx.beside_frameBits bs t)
  exact h

theorem LaneTx.mode_puts (gap : Nat) (ws : List Nat) (t : LaneTx) : (LaneTx.puts gap ws t).2.2.mode = t.mode := by
  induction ws generalizing t with
  | nil => rfl
  | cons w ws ih =>
    simp only [LaneTx.puts]
    split
    · rfl
    · exact (ih _).trans (LaneTx.mode_word t w)

theorem LaneTx.mode_marker (t : LaneTx) (n : Nat) : (t.marker n).2.mode = t.mode := LaneTx.mode_word { t with run := 0, words := 0 } _

namespace OnTx

section
variable {P : Dev → Prop} {p : Nat} (h : OnTx P p) {d : Dev} (hd : P d)
include h hd

theorem lineOut (b : List Bool) : P (d.lineOut p b) := by
  simp only [Dev.lineOut]
  split
  · exact hd
  · exact h.emit _ rfl hd

theorem putFrame (n : Nat) : P (d.putFrame p n) := h.lineOut (h.modTx _ (LaneTx.mode_puts ..) hd) _
theorem putIdle (n : Nat) : P (d.putIdle p n) := h.lineOut (h.modTx _ (LaneTx.mode_puts ..) hd) _
theorem laneStart (t : Nat) (w : List Nat) : P (d.laneStart p t w) := h.emit _ rfl (h.modTx _ rfl hd)

theorem laneTick : P (d.laneTick p) := by
  simp only [Dev.laneTick]
  split
  · exact hd
  · split
    · exact h.putFrame hd _
    · split
      · exact h.laneStart (h.modTx _ rfl (h.putFrame hd _)) _ _
      · exact h.putFrame hd _

theorem laneSend (t : Nat) (w : List Nat) : P (d.laneSend p t w) := h.laneTick (h.modTx _ rfl hd)
theorem sendTime : P (d.sendTime p) := h.laneSend (h.link _ hd) _ _

end

end OnTx

namespace OnLane

section
variable {P : Dev → Prop} {p : Nat} (h : OnLane P p)
include h

theorem modTx {d : Dev} (f : LaneTx → LaneTx) (hd : P d) : P (d.modTx p f) := h.port _ (fun _ => rfl) hd

theorem onTx : OnTx P p where
  emit := h.emit
  modTx f _ hd := h.modTx f hd
  link _ := h.port _ fun _ => rfl

variable {d : Dev} (hd : P d)
include hd

theorem laneSend (t : Nat) (w : List Nat) : P (d.laneSend p t w) := h.onTx.laneSend hd t w
theorem laneOff : P (d.laneOff p) := h.emit _ rfl (h.modTx _ hd)

theorem markerOut : P (d.markerOut p) := by
  unfold Dev.markerOut
  refine h.onTx.sendTime (h.onTx.lineOut (h.emit _ rfl (h.modTx _ (h.port _ ?_ hd))) _)
  exact fun _ => rfl

theorem markerPoint : P (d.markerPoint p) := by
  have hput := h.onTx.putFrame (h.onTx.laneTick hd) ((d.laneTick p).port p).tx.cur.length
  refine h.markerOut ?_
  split
  · exact h.modTx _ (h.onTx.putIdle hput _)
  · exact hput

theorem laneAbort : P (d.laneAbort p) := by
  simp only [Dev.laneAbort]
  split
  · exact hd
  · refine h.onTx.lineOut (h.emit _ rfl (h.modTx _ ?_)) _
    split
    · exact h.markerOut (h.onTx.putFrame hd _)
    · exact h.onTx.putFrame hd _

omit hd in
theorem laneFlush (k : Nat) {d : Dev} (hd : P d) : P (Dev.laneFlush p k d) := by
  induction k generalizing d with
  | zero => exact hd
  | succ k ih =>
    simp only [Dev.laneFlush]
    split
    · exact ih (h.markerOut (h.onTx.putFrame hd _))
    · split
      · exact ih (h.onTx.laneStart (h.modTx _ (h.onTx.putFrame hd _)) _ _)
      · exact h.onTx.putFrame hd _

theorem laneDrain : P (d.laneDrain p) := by
  simp only [Dev.laneDrain]
  split
  · exact h.modTx _ (h.laneFlush _ hd)
  · exact hd

theorem primeLane (k : Nat) : P (d.primeLane p k) := by
  unfold Dev.primeLane
  refine h.onTx.lineOut (h.emit _ rfl (h.port _ ?_ hd)) _
  exact fun _ => rfl

theorem laneReady : P (d.laneReady p) := by
  unfold Dev.laneReady
  refine h.onTx.sendTime (h.onTx.lineOut (h.modTx _ (h.port _ ?_ hd)) _)
  exact fun _ => rfl

theorem wakeLane : P (d.wakeLane p) := by
  simp only [Dev.wakeLane]
  split
  · exact hd
  · exact h.laneReady hd
  · exact h.laneReady (h.primeLane hd 5)

end

end OnLane

end Sys2Proof.Machine
end


section
/-! PROOF. The registers beyond a list of fields: what a report of a fault source and each part of a reaction keeps (R406, R409). -/

namespace Sys2Proof.Machine

/-! ### Registers beyond a list of fields -/

/-- The keys of a list of fields, for all indexes. -/
def KeysOf (S : List Field) (k : Nat) : Prop := ∃ f ∈ S, ∃ i j, f.key i j = k

/-- The registers beyond the fields of a list. -/
def Dev.beyond (S : List Field) (d : Dev) : { k // ¬ KeysOf S k } → Option Nat := fun k => d.regs.find k

/-- Do the keys of a field stay apart from those of another within its range: another bit, another residue of the strides, or addresses above or below, or none of its instances
at a residue of the field's own strides. -/
def Field.apart (f g : Field) : Bool :=
  let n := (f.s1.gcd f.s2).gcd (g.s1.gcd g.s2)
  f.lo ≠ g.lo || f.base % n ≠ g.base % n || g.base + g.s1 * (g.n1 - 1) + g.s2 * (g.n2 - 1) < f.base || (f.s1 = 0 && f.s2 = 0 && f.base < g.base) ||
    (List.range g.n1).all (fun i => (List.range g.n2).all (fun j => g.addr i j % f.s1.gcd f.s2 ≠ f.base % f.s1.gcd f.s2))

theorem Field.addr_mod (f : Field) {n : Nat} (h1 : n ∣ f.s1) (h2 : n ∣ f.s2) (i j : Nat) : f.addr i j % n = f.base % n := by
  obtain ⟨a, ha⟩ := h1
  obtain ⟨b, hb⟩ := h2
  rw [Field.addr, ha, hb, Nat.mul_assoc, Nat.mul_assoc, Nat.add_mul_mod_self_left, Nat.add_mul_mod_self_left]

theorem Field.key_ne_of_apart {f g : Field} (h : f.apart g = true) (hf : f.lo < 64) (hg : g.lo < 64) {i j : Nat} (hi : i < g.n1) (hj : j < g.n2) (i' j' : Nat) :
    f.key i' j' ≠ g.key i j := by
  intro he
  have haddr : f.addr i' j' = g.addr i j ∧ f.lo = g.lo := by simp only [Field.key] at he; omega
  simp only [Field.apart, Bool.or_eq_true, decide_eq_true_eq, Bool.and_eq_true, List.all_eq_true, List.mem_range] at h
  rcases h with (((h | h) | h) | h) | h
  · exact h haddr.2
  · refine h ?_
    rw [← f.addr_mod ((Nat.gcd_dvd_left _ _).trans (Nat.gcd_dvd_left _ _)) ((Nat.gcd_dvd_left _ _).trans (Nat.gcd_dvd_right _ _)) i' j', haddr.1,
      g.addr_mod ((Nat.gcd_dvd_right _ _).trans (Nat.gcd_dvd_left _ _)) ((Nat.gcd_dvd_right _ _).trans (Nat.gcd_dvd_right _ _))]
  · have h1 : g.s1 * i ≤ g.s1 * (g.n1 - 1) := Nat.mul_le_mul_left _ (by omega)
    have h2 : g.s2 * j ≤ g.s2 * (g.n2 - 1) := Nat.mul_le_mul_left _ (by omega)
    have := haddr.1
    simp only [Field.addr] at this
    omega
  · have := haddr.1
    simp only [Field.addr, h.1.1, h.1.2] at this
    omega
  · exact h i hi j hj (haddr.1 ▸ f.addr_mod (Nat.gcd_dvd_left _ _) (Nat.gcd_dvd_right _ _) i' j')

/-- Do the keys of two fields differ at all indexes: another bit, or another residue of the strides. -/
def Field.distinct (f g : Field) : Bool :=
  let n := (f.s1.gcd f.s2).gcd (g.s1.gcd g.s2)
  f.lo < 64 && g.lo < 64 && (f.lo ≠ g.lo || f.base % n ≠ g.base % n)

theorem Field.key_ne_of_distinct {f g : Field} (h : f.distinct g = true) (i j i' j' : Nat) : f.key i j ≠ g.key i' j' := by
  simp only [Field.distinct, Bool.and_eq_true, Bool.or_eq_true, decide_eq_true_eq] at h
  obtain ⟨⟨hf, hg⟩, h⟩ := h
  intro he
  have haddr : f.addr i j = g.addr i' j' ∧ f.lo = g.lo := by simp only [Field.key] at he; omega
  refine h.elim (fun h => h haddr.2) (fun h => h ?_)
  rw [← f.addr_mod ((Nat.gcd_dvd_left _ _).trans (Nat.gcd_dvd_left _ _)) ((Nat.gcd_dvd_left _ _).trans (Nat.gcd_dvd_right _ _)) i j, haddr.1,
    g.addr_mod ((Nat.gcd_dvd_right _ _).trans (Nat.gcd_dvd_left _ _)) ((Nat.gcd_dvd_right _ _).trans (Nat.gcd_dvd_right _ _))]

theorem Dev.get_set_distinct (d : Dev) {f g : Field} (h : g.distinct f = true) (v i j i' j' : Nat) : (d.set f v i j).get g i' j' = d.get g i' j' :=
  Dev.get_set_ne _ _ _ _ _ _ _ _ (Field.key_ne_of_distinct h _ _ _ _)

theorem Dev.get_bump_distinct (d : Dev) {f g : Field} (h : g.distinct f = true) (i j n i' j' : Nat) : (d.bump f i j n).get g i' j' = d.get g i' j' :=
  Dev.get_set_distinct d h _ _ _ _ _

/-- Does a field stay apart from every field of a list. -/
def Field.clear (S : List Field) (g : Field) : Bool := g.lo < 64 && S.all (fun f => f.lo < 64 && f.apart g)

theorem not_keysOf {S : List Field} {g : Field} (h : g.clear S = true) {i j : Nat} (hi : i < g.n1) (hj : j < g.n2) : ¬ KeysOf S (g.key i j) := by
  simp only [Field.clear, Bool.and_eq_true, decide_eq_true_eq, List.all_eq_true] at h
  rintro ⟨f, hf, i', j', hk⟩
  exact Field.key_ne_of_apart (h.2 f hf).2 (h.2 f hf).1 h.1 hi hj i' j' hk

/-- A field apart from the list keeps its value where the registers beyond it do. -/
theorem Dev.get_of_beyond {S : List Field} {d e : Dev} (h : e.beyond S = d.beyond S) {g : Field} (hg : g.clear S = true) {i j : Nat} (hi : i < g.n1) (hj : j < g.n2) :
    e.get g i j = d.get g i j := by
  have := congrFun h ⟨_, not_keysOf hg hi hj⟩
  simp only [Dev.beyond] at this
  simp only [Dev.get, RegFile.get, this]

theorem Dev.beyond_mono {S T : List Field} (h : S ⊆ T) {d e : Dev} (he : e.beyond S = d.beyond S) : e.beyond T = d.beyond T := by
  funext k
  exact congrFun he ⟨k.1, fun ⟨f, hf, x⟩ => k.2 ⟨f, h hf, x⟩⟩

theorem Dev.beyond_congr {S : List Field} {d e : Dev} (hr : d.regs = e.regs) : d.beyond S = e.beyond S := funext fun k => congrArg (fun r : RegFile => r.find k) hr

section
variable {S : List Field} (d : Dev) (f : Field) (i j : Nat) (h : [f] ⊆ S)
include h

theorem Dev.beyond_set (v : Nat) : (d.set f v i j).beyond S = d.beyond S := by
  funext k
  exact RegFile.find_set_ne (fun he => k.2 ⟨f, h List.mem_cons_self, i, j, he.symm⟩) ..

theorem Dev.beyond_bump (n : Nat) : (d.bump f i j n).beyond S = d.beyond S := Dev.beyond_set _ _ _ _ h _
theorem Dev.beyond_raiseBit (k : Nat) : (d.raiseBit f k i j).beyond S = d.beyond S := Dev.beyond_set _ _ _ _ h _

theorem Dev.beyond_irq (en : Field) (k : Nat) (v : Option Field) : (d.irq f en k v i).beyond S = d.beyond S :=
  (Dev.beyond_congr (Dev.regs_irq ..)).trans (Dev.beyond_raiseBit _ _ _ _ h _)

end

section
variable {S : List Field}

/-! ### Lanes, ports and rings -/

@[simp] theorem Dev.beyond_emit (d : Dev) (o : Output) : (d.emit o).beyond S = d.beyond S := rfl
@[simp] theorem Dev.beyond_modPort (d : Dev) (p : Nat) (f : HlkPort → HlkPort) : (d.modPort p f).beyond S = d.beyond S := rfl
@[simp] theorem Dev.beyond_modTx (d : Dev) (p : Nat) (f : LaneTx → LaneTx) : (d.modTx p f).beyond S = d.beyond S := rfl
@[simp] theorem Dev.beyond_modJob (d : Dev) (i : Nat) (f : Job → Job) : (d.modJob i f).beyond S = d.beyond S := rfl
@[simp] theorem Dev.beyond_modCam (d : Dev) (n : Nat) (f : CamSt → CamSt) : (d.modCam n f).beyond S = d.beyond S := rfl
@[simp] theorem Dev.beyond_modCtx (d : Dev) (n : Nat) (f : IspCtx → IspCtx) : (d.modCtx n f).beyond S = d.beyond S := rfl
@[simp] theorem Dev.beyond_purge (d : Dev) (n : Nat) : (d.purge n).beyond S = d.beyond S := rfl
@[simp] theorem Dev.beyond_lamps (d : Dev) (l : LampSt) : ({ d with lamps := l } : Dev).beyond S = d.beyond S := rfl
@[simp] theorem Dev.beyond_owe (d : Dev) (s : Nat) : (d.owe s).beyond S = d.beyond S := rfl

theorem Dev.onLane_beyond (d : Dev) (p : Nat) : OnLane (fun e => e.beyond S = d.beyond S) p where
  emit _ _ h := h
  port _ _ h := h

@[simp] theorem Dev.beyond_laneSend (d : Dev) (p t : Nat) (w : List Nat) : (d.laneSend p t w).beyond S = d.beyond S := (Dev.onLane_beyond d p).laneSend rfl t w
@[simp] theorem Dev.beyond_laneAbort (d : Dev) (p : Nat) : (d.laneAbort p).beyond S = d.beyond S := (Dev.onLane_beyond d p).laneAbort rfl
@[simp] theorem Dev.beyond_laneDrain (d : Dev) (p : Nat) : (d.laneDrain p).beyond S = d.beyond S := (Dev.onLane_beyond d p).laneDrain rfl
@[simp] theorem Dev.beyond_laneOff (d : Dev) (p : Nat) : (d.laneOff p).beyond S = d.beyond S := rfl
@[simp] theorem Dev.beyond_wakeLane (d : Dev) (p : Nat) : (d.wakeLane p).beyond S = d.beyond S := (Dev.onLane_beyond d p).wakeLane rfl

@[simp] theorem Dev.beyond_vinKeep (d : Dev) (k : Nat) (f : CtxFrame) : (d.vinKeep k f).beyond S = d.beyond S := by
  simp only [Dev.vinKeep]; split <;> rfl

@[simp] theorem Dev.beyond_ringWrite (d : Dev) (kind unit base size wr : Nat) (b : List Nat) : (d.ringWrite kind unit base size wr b).beyond S = d.beyond S := by
  simp only [Dev.ringWrite]; split <;> simp

theorem Dev.beyond_ringRecord {d e : Dev} {kind unit base size wr rd n : Nat} {b : List Nat}
    (h : d.ringRecord kind unit base size wr rd b = some (e, n)) : e.beyond S = d.beyond S := by
  simp only [Dev.ringRecord] at h
  split at h
  · simp only [Option.some.injEq, Prod.mk.injEq] at h; rw [← h.1, Dev.beyond_ringWrite]
  · cases h

@[simp] theorem Dev.beyond_primePort (d : Dev) (p : Nat) : (d.primePort p).beyond S = d.beyond S := by
  simp only [Dev.primePort]; split
  · exact (Dev.onLane_beyond d p).primeLane rfl 1
  · rfl

@[simp] theorem Dev.beyond_noteFall (d : Dev) (k : Nat) (b : Bool) : (d.noteFall k b).beyond S = d.beyond S := by
  simp only [Dev.noteFall]; split <;> rfl

@[simp] theorem Dev.beyond_unreport (d : Dev) (s i : Nat) : (d.unreport s i).beyond S = d.beyond S := Dev.beyond_noteFall ..

end

/-! ### Job records and defect ranges -/

/-- The fields that a job record may change. -/
def jobFields : List Field := [F.SLU_R_CNT_CQ_LOST]

section
variable {S : List Field} (h : jobFields ⊆ S)
include h

theorem Dev.beyond_pushJobRec (d : Dev) (i t st ev c l : Nat) : (d.pushJobRec i t st ev c l).beyond S = d.beyond S := by
  simp only [Dev.pushJobRec]; split
  · rfl
  · exact Dev.beyond_bump _ _ _ _ (List.Subset.trans (by decide) h) _

theorem Dev.beyond_closeRange (d : Dev) (i : Nat) (g : DefectRange) : (d.closeRange i g).beyond S = d.beyond S := by
  simp (disch := exact List.Subset.trans (by decide) h) only [Dev.closeRange, Dev.beyond_pushJobRec, Dev.beyond_modJob]

theorem Dev.beyond_closeRanges (d : Dev) (i : Nat) (p : DefectRange → Bool) : (d.closeRanges i p).beyond S = d.beyond S :=
  foldl_keeps (Dev.beyond S) _ (fun _ _ => Dev.beyond_closeRange h ..) _ _

theorem Dev.beyond_joinRange (d : Dev) (i b c l : Nat) : (d.joinRange i b c l).beyond S = d.beyond S := by
  simp only [Dev.joinRange]; split
  · split
    · rfl
    · split <;> simp (disch := exact List.Subset.trans (by decide) h) only [Dev.beyond_modJob, Dev.beyond_closeRange]
  · simp (disch := exact List.Subset.trans (by decide) h) only [Dev.beyond_modJob]

theorem Dev.beyond_addRange (d : Dev) (i b c l : Nat) : (d.addRange i b c l).beyond S = d.beyond S := by
  have hothers : ((d.jobs.filter (fun e => e.1 ≠ i)).foldl (fun d e => d.closeRanges e.1 (fun g => g.bar = b)) d).beyond S = d.beyond S :=
    foldl_keeps (Dev.beyond S) _ (fun _ _ => Dev.beyond_closeRanges h ..) _ _
  simp only [Dev.addRange]
  split <;> simp (disch := exact List.Subset.trans (by decide) h) only [Dev.beyond_closeRanges, Dev.beyond_joinRange, hothers]

theorem Dev.beyond_inhibitPort (d : Dev) (p r : Nat) : (d.inhibitPort p r).beyond S = d.beyond S := by
  simp only [Dev.inhibitPort, Dev.beyond_modPort]
  rw [foldl_keeps (Dev.beyond S)]
  · simp (disch := exact List.Subset.trans (by decide) h) only [Dev.beyond_laneSend, Dev.beyond_laneAbort]
  · intro a b; split <;> simp (disch := exact List.Subset.trans (by decide) h) only [Dev.beyond_addRange]

theorem Dev.beyond_inhibitAll (d : Dev) : d.inhibitAll.beyond S = d.beyond S :=
  foldl_keeps (Dev.beyond S) _ (fun _ _ => by split <;> simp (disch := exact List.Subset.trans (by decide) h) only [Dev.beyond_inhibitPort]) _ _

end

/-! ### Ports that go down -/

/-- The fields that a port that goes down may change. -/
def portFields : List Field := [F.HLK_IRQ_STAT, F.HLK_MEM_CMD_DONE, F.HLK_MEM_CMD_STATUS] ++ jobFields

section
variable {S : List Field} (h : portFields ⊆ S)
include h

theorem Dev.beyond_memDone (d : Dev) (p st : Nat) : (d.memDone p st).beyond S = d.beyond S := by
  simp (disch := exact List.Subset.trans (by decide) h) only [Dev.memDone, Dev.beyond_irq, Dev.beyond_set]

theorem Dev.beyond_leavePort (d : Dev) (p r : Nat) (n : LinkState) (b : Bool) : (d.leavePort p r n b).beyond S = d.beyond S := by
  simp only [Dev.leavePort, Dev.beyond_modTx, Dev.beyond_modPort]; split <;> split <;> simp (disch := exact List.Subset.trans (by decide) h) only [Dev.beyond_memDone, Dev.beyond_inhibitPort]

theorem Dev.beyond_disablePort (d : Dev) (p : Nat) (l : List (Nat × List Nat)) : (d.disablePort p l).beyond S = d.beyond S := by
  simp only [Dev.disablePort]; split
  · rfl
  · simp only [Dev.beyond_modPort, Dev.beyond_laneOff, Dev.beyond_laneDrain]
    rw [foldl_keeps (Dev.beyond S) _ (fun _ _ => Dev.beyond_laneSend ..)]
    simp (disch := exact List.Subset.trans (by decide) h) only [Dev.beyond_wakeLane, Dev.beyond_leavePort]

end

/-! ### Lamps -/

/-- The fields that a darkened lamp may change. -/
def lampFields : List Field := [F.LMP_C_STAT_STATUS, F.LMP_IRQ_STAT]

section
variable {S : List Field} (h : lampFields ⊆ S)
include h

theorem Dev.beyond_lampMark (d : Dev) (c st : Nat) : (d.lampMark c st).beyond S = d.beyond S := by
  simp only [Dev.lampMark]; split
  · rfl
  · split <;> simp (disch := exact List.Subset.trans (by decide) h) only [Dev.beyond_irq, Dev.beyond_set]

theorem Dev.beyond_lampGate (d : Dev) : d.lampGate.beyond S = d.beyond S := by
  simp only [Dev.lampGate]; split
  · refine foldl_keeps (Dev.beyond S) _ (fun _ _ => ?_) _ _
    split
    · exact Dev.beyond_lampMark h ..
    · rfl
  · rfl

end

/-! ### A SAFE reaction -/

/-- The fields that a SAFE reaction may change. -/
def safeFields : List Field := lampFields ++ jobFields

section
variable {S : List Field} (h : safeFields ⊆ S)
include h

theorem Dev.beyond_settle (d e : Dev) : (Dev.settle d e).beyond S = e.beyond S := by
  simp only [Dev.settle]; split <;> split <;> simp (disch := exact List.Subset.trans (by decide) h) only [Dev.beyond_inhibitAll, Dev.beyond_lampGate, Dev.beyond_emit]

end

/-! ### The stop sequence -/

/-- The fields that the stop sequence may change as it starts. -/
def stopFields : List Field := [F.FIRE_IRQ_STAT]

section
variable {S : List Field} (h : stopFields ⊆ S)
include h

theorem Dev.beyond_stopTrigger (d : Dev) (c : Nat) : (d.stopTrigger c).beyond S = d.beyond S := by
  simp only [Dev.stopTrigger]; split
  · rw [Dev.beyond_irq _ _ _ (List.Subset.trans (by decide) h) _ _ _]; rfl
  · rfl

end

/-! ### The image pipeline -/

/-- The fields that the end of a frame in the image pipeline may change. -/
def ispFields : List Field := [F.ISP_IRQ_STAT, F.ISP_K_CNT_INCOMPLETE, F.ISP_K_CNT_STAT_LOST, F.ISP_K_SWR, F.ISP_K_S_LOST, F.ISP_K_S_WR]

section
variable {S : List Field} (h : ispFields ⊆ S)
include h

theorem Dev.beyond_ctxFrameEnd (d : Dev) (k : Nat) (f : CtxFrame) : (d.ctxFrameEnd k f).beyond S = d.beyond S := by
  have hlost : ∀ e : Dev, (if f.dropped ≠ 0 then (e.bump F.ISP_K_CNT_INCOMPLETE k).irq F.ISP_IRQ_STAT F.ISP_IRQ_EN (8 + k) (some F.ISP_VEC) else e).beyond S
      = e.beyond S := fun e => by split <;> simp (disch := exact List.Subset.trans (by decide) h) only [Dev.beyond_irq, Dev.beyond_bump]
  simp (disch := exact List.Subset.trans (by decide) h) only [Dev.ctxFrameEnd, Dev.beyond_vinKeep, hlost, Dev.beyond_irq]
  split
  · rfl
  · split
    · rename_i hr; rw [Dev.beyond_set _ _ _ _ (List.Subset.trans (by decide) h) _, Dev.beyond_ringRecord hr]
    · simp (disch := exact List.Subset.trans (by decide) h) only [Dev.beyond_irq, Dev.beyond_bump]

theorem Dev.beyond_streamPut (d : Dev) (k j : Nat) (f : CtxFrame) (o : Nat) (a : IspAcc) : (d.streamPut k j f o a).1.beyond S = d.beyond S := by
  simp only [Dev.streamPut]; split
  · rfl
  · split
    · rename_i hr; rw [Dev.beyond_set _ _ _ _ (List.Subset.trans (by decide) h) _, Dev.beyond_ringRecord hr]
    · simp (disch := exact List.Subset.trans (by decide) h) only [Dev.streamLost, Dev.beyond_irq, Dev.beyond_bump]

theorem Dev.beyond_cutFrame (d : Dev) (k : Nat) (f : CtxFrame) : (d.cutFrame k f).beyond S = d.beyond S := by
  simp only [Dev.cutFrame]
  split
  · rw [Dev.beyond_owe, Dev.beyond_ctxFrameEnd h, foldl_keeps (fun x : Dev × CtxFrame => x.1.beyond S) _ (fun _ _ => by split <;> simp (disch := exact List.Subset.trans (by decide) h) only [Dev.beyond_streamPut])]
  · rw [Dev.beyond_ctxFrameEnd h, foldl_keeps (fun x : Dev × CtxFrame => x.1.beyond S) _ (fun _ _ => by split <;> simp (disch := exact List.Subset.trans (by decide) h) only [Dev.beyond_streamPut])]

theorem Dev.beyond_endCtxFrames (d : Dev) (n : Nat) : (d.endCtxFrames n).beyond S = d.beyond S :=
  foldl_keeps (Dev.beyond S) _ (fun _ _ => (Dev.beyond_modCtx ..).trans (foldl_keeps (Dev.beyond S) _ (fun _ _ => Dev.beyond_cutFrame h ..) _ _)) _ _

theorem Dev.beyond_stopIsp (d : Dev) : d.stopIsp.beyond S = d.beyond S :=
  foldl_keeps (Dev.beyond S) _ (fun _ _ => (Dev.beyond_purge ..).trans (Dev.beyond_endCtxFrames h ..)) _ _

end

/-! ### Cameras -/

/-- The fields that a camera that stops may change. -/
def camFields : List Field := [F.CAM_IRQ_STAT, F.CAM_P_CTL_BUSY, F.CAM_P_CTL_RESULT, F.CAM_P_STAT_LOCK, F.CAM_P_STAT_STATE] ++ ispFields

section
variable {S : List Field} (h : camFields ⊆ S)
include h

theorem Dev.beyond_ctlDown (d : Dev) (n : Nat) : (d.ctlDown n).beyond S = d.beyond S := by
  simp only [Dev.ctlDown]; split
  · simp (disch := exact List.Subset.trans (by decide) h) only [Dev.ctlEnd, Dev.beyond_irq, Dev.beyond_modCam, Dev.beyond_set]
  · rfl

theorem Dev.beyond_stopCamera (d : Dev) (n : Nat) : (d.stopCamera n).beyond S = d.beyond S := by
  simp only [Dev.stopCamera]; split
  · rfl
  · simp (disch := exact List.Subset.trans (by decide) h) only [Dev.beyond_modCam, Dev.beyond_endCtxFrames, Dev.beyond_ctlDown, Dev.beyond_set]

end

/-! ### DRAM channels -/

/-- The fields that a fenced channel may change. -/
def ddrFields : List Field := [F.DDR_C_STAT_STATE, F.DDR_STAT_FENCED]

section
variable {S : List Field} (h : ddrFields ⊆ S)
include h

theorem Dev.beyond_fenceChannel (d : Dev) (c : Nat) : (d.fenceChannel c).beyond S = d.beyond S := by
  simp only [Dev.fenceChannel]; split
  · change ((d.set F.DDR_C_STAT_STATE 6 c).raiseBit F.DDR_STAT_FENCED c).beyond S = d.beyond S
    simp (disch := exact List.Subset.trans (by decide) h) only [Dev.beyond_raiseBit, Dev.beyond_set]
  · rfl

end

/-! ### Fences -/

/-- The fields that a fence may change. -/
def fenceFields : List Field := [F.ENC_STAT_SUSPECT] ++ ddrFields ++ portFields ++ camFields

section
variable {S : List Field} (h : fenceFields ⊆ S)
include h

theorem Dev.beyond_fenceEffect (d : Dev) (u : FUnit) : (d.fenceEffect u).beyond S = d.beyond S := by
  cases u <;> simp (disch := exact List.Subset.trans (by decide) h) only [Dev.fenceEffect, Dev.beyond_set, Dev.beyond_fenceChannel, Dev.beyond_disablePort, Dev.beyond_stopCamera, Dev.beyond_stopIsp]

theorem Dev.beyond_fenceUnits (d : Dev) (s i : Nat) : (d.fenceUnits s i).beyond S = d.beyond S := by
  simp only [Dev.fenceUnits]
  exact foldl_keeps (Dev.beyond S) _ (fun _ _ => by rw [Dev.beyond_fenceEffect h]; rfl) _ _

end

/-! ### A report -/

/-- The fields that a report may change. -/
def reactFields : List Field := [F.FLT_IRQ_STAT, F.FLT_LOG_STAT_OVERWRITES, F.FLT_STATE_LAST_SRC] ++ fenceFields ++ safeFields ++ stopFields

section
variable {S : List Field} (h : reactFields ⊆ S)
include h

theorem Dev.beyond_fltIrq (d : Dev) (k : Nat) : (d.fltIrq k).beyond S = d.beyond S := Dev.beyond_irq _ _ _ (List.Subset.trans (by decide) h) _ _ _

theorem Dev.outlives_beyond (v : {k : Nat // ¬ KeysOf S k} → Option Nat) : Outlives (fun d => d.beyond S = v) where
  flt _ _ hd := hd
  overwrites _ hd := (Dev.beyond_bump _ _ _ _ (List.Subset.trans (by decide) h) _).trans hd
  lastSrc _ _ hd := (Dev.beyond_set _ _ _ _ (List.Subset.trans (by decide) h) _).trans hd
  irq d k hd := (Dev.beyond_fltIrq h d k).trans hd
  fence d u hd := (Dev.beyond_fenceEffect (List.Subset.trans (by decide) h) d u).trans hd
  stop d c hd := (Dev.beyond_stopTrigger (List.Subset.trans (by decide) h) d c).trans hd
  settle d e hd := (Dev.beyond_settle (List.Subset.trans (by decide) h) d e).trans hd

theorem Dev.beyond_drain (d : Dev) : d.drain.beyond S = d.beyond S := (Dev.outlives_beyond h _).drain rfl

theorem Dev.beyond_report (d : Dev) (s i : Nat) : (d.report s i).beyond S = d.beyond S := (Dev.outlives_beyond h _).report rfl s i

theorem Dev.beyond_reportLevel (d : Dev) (s i : Nat) (b : Bool) : (d.reportLevel s i b).beyond S = d.beyond S := by
  simp only [Dev.reportLevel]; split <;> simp (disch := exact List.Subset.trans (by decide) h) only [Dev.beyond_report, Dev.beyond_unreport]

end

/-! ### What a report keeps -/

/-- The registers that a report does not reach. -/
def Dev.calm (d : Dev) := d.beyond reactFields

/-- Is a field out of every report's reach. -/
def Field.calm (g : Field) : Bool := g.clear reactFields

/-- A field out of reach keeps its value where the unreached registers do. -/
theorem Dev.get_of_calm {d e : Dev} (h : e.calm = d.calm) {g : Field} (hg : g.calm = true) {i j : Nat} (hi : i < g.n1) (hj : j < g.n2) :
    e.get g i j = d.get g i j := Dev.get_of_beyond h hg hi hj

theorem Dev.calm_inhibitAll (d : Dev) : d.inhibitAll.calm = d.calm := Dev.beyond_inhibitAll (by decide) d
theorem Dev.calm_lampMark (d : Dev) (c st : Nat) : (d.lampMark c st).calm = d.calm := Dev.beyond_lampMark (by decide) d c st
theorem Dev.calm_report (d : Dev) (s i : Nat) : (d.report s i).calm = d.calm := Dev.beyond_report (List.Subset.refl _) d s i
theorem Dev.calm_reportLevel (d : Dev) (s i : Nat) (b : Bool) : (d.reportLevel s i b).calm = d.calm := Dev.beyond_reportLevel (List.Subset.refl _) d s i b

/-- A field out of reach keeps its value under a report. -/
theorem Dev.get_report (d : Dev) (s n : Nat) {g : Field} (hg : g.calm = true) {i j : Nat} (hi : i < g.n1) (hj : j < g.n2) :
    (d.report s n).get g i j = d.get g i j := Dev.get_of_calm (Dev.calm_report ..) hg hi hj

theorem Dev.get_unreport (d : Dev) (s n : Nat) (g : Field) (i j : Nat) : (d.unreport s n).get g i j = d.get g i j := by
  simp only [Dev.unreport, Dev.noteFall]; split <;> rfl

theorem Dev.get_reportLevel (d : Dev) (s n : Nat) (b : Bool) {g : Field} (hg : g.calm = true) {i j : Nat} (hi : i < g.n1) (hj : j < g.n2) :
    (d.reportLevel s n b).get g i j = d.get g i j := Dev.get_of_calm (Dev.calm_reportLevel ..) hg hi hj

/-! ### The parts that `fixed` holds -/

theorem Dev.bar2_of_fixed {d e : Dev} (h : e.fixed = d.fixed) : e.bar2 = d.bar2 := congrArg (fun x => x.1.1) h
theorem Dev.latches_of_fixed {d e : Dev} (h : e.fixed = d.fixed) : e.latches = d.latches := congrArg (fun x => x.1.2.1) h
theorem Dev.raw_of_fixed {d e : Dev} (h : e.fixed = d.fixed) : e.raw = d.raw := congrArg (fun x => x.1.2.2.1) h
theorem Dev.aon_of_fixed {d e : Dev} (h : e.fixed = d.fixed) : e.aon = d.aon := congrArg (fun x => x.1.2.2.2.1) h
theorem Dev.free_of_fixed {d e : Dev} (h : e.fixed = d.fixed) : e.free = d.free := congrArg (fun x => x.1.2.2.2.2.1) h
theorem Dev.fences_of_fixed {d e : Dev} (h : e.fixed = d.fixed) : e.fences = d.fences := congrArg (fun x => x.1.2.2.2.2.2.1) h
theorem Dev.host_of_fixed {d e : Dev} (h : e.fixed = d.fixed) : e.host = d.host := congrArg (fun x => x.1.2.2.2.2.2.2.1) h
theorem Dev.cellar_of_fixed {d e : Dev} (h : e.fixed = d.fixed) : e.cellar = d.cellar := congrArg (fun x => x.1.2.2.2.2.2.2.2.1) h
theorem Dev.staged_of_fixed {d e : Dev} (h : e.fixed = d.fixed) : e.staged = d.staged := congrArg (fun x => x.1.2.2.2.2.2.2.2.2) h
theorem Dev.safe_of_fixed {d e : Dev} (h : e.fixed = d.fixed) : e.safe = d.safe := congrArg (fun x => x.2.1.1) h
theorem Dev.mram_of_fixed {d e : Dev} (h : e.fixed = d.fixed) : e.mram = d.mram := congrArg (fun x => x.2.1.2.2.1) h
theorem Dev.pins_of_fixed {d e : Dev} (h : e.fixed = d.fixed) : e.pins = d.pins := congrArg (fun x => x.2.1.2.2.2.1) h
theorem Dev.descs_of_fixed {d e : Dev} (h : e.fixed = d.fixed) : e.descs = d.descs := congrArg (fun x => x.2.1.2.2.2.2.2.1) h
theorem Dev.reads_of_fixed {d e : Dev} (h : e.fixed = d.fixed) : e.reads = d.reads := congrArg (fun x => x.2.1.2.2.2.2.2.2.1) h
theorem Dev.turn_of_fixed {d e : Dev} (h : e.fixed = d.fixed) : e.turn = d.turn := congrArg (fun x => x.2.1.2.2.2.2.2.2.2.1) h
theorem Dev.spouts_of_fixed {d e : Dev} (h : e.fixed = d.fixed) : e.spouts = d.spouts := congrArg (fun x => x.2.1.2.2.2.2.2.2.2.2.1) h
theorem Dev.decBusy_of_fixed {d e : Dev} (h : e.fixed = d.fixed) : e.decBusy = d.decBusy := congrArg (fun x => x.2.1.2.2.2.2.2.2.2.2.2.1) h
theorem Dev.barTags_of_fixed {d e : Dev} (h : e.fixed = d.fixed) : e.barTags = d.barTags := congrArg (fun x => x.2.1.2.2.2.2.2.2.2.2.2.2) h
theorem Dev.ktabs_of_fixed {d e : Dev} (h : e.fixed = d.fixed) : e.ktabs = d.ktabs := congrArg (fun x => x.2.2.1.1) h
theorem Dev.hmap_of_fixed {d e : Dev} (h : e.fixed = d.fixed) : e.hmap = d.hmap := congrArg (fun x => x.2.2.1.2.1) h
theorem Dev.enc_of_fixed {d e : Dev} (h : e.fixed = d.fixed) : e.enc = d.enc := congrArg (fun x => x.2.2.1.2.2.1) h
theorem Dev.pos_of_fixed {d e : Dev} (h : e.fixed = d.fixed) : e.pos = d.pos := congrArg (fun x => x.2.2.1.2.2.2.1) h
theorem Dev.groups_of_fixed {d e : Dev} (h : e.fixed = d.fixed) : e.groups = d.groups := congrArg (fun x => x.2.2.1.2.2.2.2.2.1) h
theorem Dev.ecc_of_fixed {d e : Dev} (h : e.fixed = d.fixed) : e.ecc = d.ecc := congrArg (fun x => x.2.2.1.2.2.2.2.2.2.1) h
theorem Dev.dram_of_fixed {d e : Dev} (h : e.fixed = d.fixed) : e.dram = d.dram := congrArg (fun x => x.2.2.1.2.2.2.2.2.2.2) h
theorem Dev.check_of_fixed {d e : Dev} (h : e.fixed = d.fixed) : e.check = d.check := congrArg (fun x => x.2.2.2.1.1) h
theorem Dev.tb_of_fixed {d e : Dev} (h : e.fixed = d.fixed) : e.tb = d.tb := congrArg (fun x => x.2.2.2.1.2.1) h
theorem Dev.eth_of_fixed {d e : Dev} (h : e.fixed = d.fixed) : e.eth = d.eth := congrArg (fun x => x.2.2.2.1.2.2.1) h
theorem Dev.thm_of_fixed {d e : Dev} (h : e.fixed = d.fixed) : e.thm = d.thm := congrArg (fun x => x.2.2.2.1.2.2.2) h

theorem Dev.pwr_of_fixed {d e : Dev} (h : e.fixed = d.fixed) : ({ e.pwr with msix := [] } : PowerSt) = { d.pwr with msix := [] } :=
  congrArg (fun x => x.2.1.2.2.2.2.1) h
theorem Dev.powerState_of_fixed {d e : Dev} (h : e.fixed = d.fixed) : e.pwr.st = d.pwr.st := congrArg (fun x => x.2.1.2.2.2.2.1.st) h
theorem Dev.fire_of_fixed {d e : Dev} (h : e.fixed = d.fixed) : ({ e.fire with stop := {} } : FireSt) = { d.fire with stop := {} } :=
  congrArg (fun x => x.2.2.1.2.2.2.2.1) h
theorem Dev.jobCore_of_fixed {d e : Dev} (h : e.fixed = d.fixed) (i : Nat) : (e.job i).core = (d.job i).core := congrFun (congrArg (fun x => x.2.2.2.2) h) i

/-- The time in force stands in the timebase and the raw counter. -/
theorem Dev.T_of_fixed {d e : Dev} (h : e.fixed = d.fixed) : e.T = d.T := by
  simp only [Dev.T, Dev.fineT, Dev.tb_of_fixed h, Dev.raw_of_fixed h]

end Sys2Proof.Machine
end


section
/-! PROOF. Sleep, standby and test mode (R445 to R447, R456), and the decanter's counts (R165, R166). -/

namespace Sys2Proof.Machine

/-! ### Writes whose action is the word's one effect -/

/-- A permitted action that needs INSTALLER or MAKER, on a word without stored fields: the timer starts again and one entry joins the queue. -/
theorem State.write_audited_act {s : State} {rq : Requester} {r : Nat} (h : s.Ready rq r) (addr w : Nat) (act : Act) (hp : inPages addr = true)
    (hf : (fieldsAt (canonAddr rq addr)).all (fun x => !x.1.stores) = true) (hb : w.testBit act.bit = true)
    (hr : (match act.role with | none => true | some x => decide (x.code ≤ r)) = true) (ha : auditedRole act.role = true) :
    ∃ old new, s.write rq addr w [act] = (s.onDev (fun d => d.touch rq)).pushAudit (some rq) (s.dev.entry rq addr old new) := by
  obtain ⟨old, new, hrow⟩ := State.row_audited h (.sleepEnter rq) addr w act id hp hf hb hr ha
  refine ⟨old, new, Eq.trans ?_ hrow⟩
  rw [State.row, State.gate_run h.2.1 _ _ _ _ _ _ _ (by omega)]
  simp only
  split <;> rfl

/-- An action of a requester with its role takes place. -/
theorem State.acts_of {s : State} {rq : Requester} {r : Nat} (h : s.Ready rq r) (addr w : Nat) (act : Act) (hb : w.testBit act.bit = true)
    (hr : (match act.role with | none => true | some x => decide (x.code ≤ r)) = true) : s.acts rq addr act w = true := by
  have hm : s.dev.may rq act.role = true := by
    cases hx : act.role with
    | none => simp [Dev.may]
    | some x => rw [hx] at hr; exact Dev.may_of ((of_decide_eq_true hr).trans h.2.2)
  simp [State.acts, Dev.acts, Dev.pageOpen_of h.1.1 h.1.2, hb, hm]

/-! ### Sleep (R445, R446) -/

theorem exec_sleepEnter {rq : Requester} {s : State} (h : s.Ready rq 1) : Gives (.sleepEnter rq) s s.dev.sleepGo := by
  simp only [Gives, exec, execSleepEnter]
  rw [State.row_none h _ _ _ _ _ (by decide) (by cases rq <;> decide +kernel) (by decide) (by decide) (by decide)]
  rfl

theorem exec_sleepExit {rq : Requester} {s : State} (h : s.Ready rq 0) : Gives (.sleepExitCmd rq) s s.dev.leaveSleep := by
  simp only [Gives, exec, execSleepExitCmd]
  rw [State.row_none h _ _ _ _ _ (by decide) (by cases rq <;> decide +kernel) (by decide) (by decide) (by decide)]
  rfl

theorem Dev.leaveSleep_awake {d : Dev} (h : d.get F.SYS_STAT_PHASE ≠ 7) : d.leaveSleep = d := if_neg h

/-- What sleep keeps, and what its entry shows. -/
theorem Dev.sleepGo_asleep {d : Dev} (h : d.get F.SYS_STAT_PHASE = 6) (hr : d.mayRest = true) :
    d.sleepGo.get F.SYS_STAT_PHASE = 7 ∧ d.sleepGo.get F.SYS_SLEEP_DONE = 1 ∧ d.sleepGo.get F.SYS_SLEEP_CODE = 0 ∧ d.sleepGo.dram = d.dram ∧
      d.sleepGo.ddr.queue = [] := by
  simp only [Dev.sleepGo, h, hr, decide_true, Bool.and_self, if_true]
  refine ⟨Dev.get_set_self .., ?_, ?_, ?_, ?_⟩
  · rw [Dev.get_set_ne _ _ _ _ _ _ _ _ (by decide), Dev.get_set_ne _ _ _ _ _ _ _ _ (by decide), Dev.get_set_self]; rfl
  · rw [Dev.get_set_ne _ _ _ _ _ _ _ _ (by decide), Dev.get_set_self]; rfl
  · simp only [Dev.set_dram]
    exact foldl_keeps Dev.dram _ (fun _ _ => by split <;> rfl) _ _
  · simp only [Dev.set_ddr]
    exact foldl_keeps (fun e : Dev => e.ddr.queue) _ (fun _ _ => by split <;> rfl) _ _

theorem Dev.sleepGo_busy {d : Dev} (h : d.get F.SYS_STAT_PHASE ≠ 6 ∨ d.mayRest = false) :
    d.sleepGo = (d.set F.SYS_SLEEP_DONE 1).set F.SYS_SLEEP_CODE 1 := by
  refine if_neg ?_
  rintro hc
  simp only [Bool.and_eq_true, decide_eq_true_eq] at hc
  rcases h with h | h
  · exact h hc.1
  · rw [h] at hc; exact absurd hc.2 (by decide)

/-! ### The retraining queue (R285) -/

theorem Dev.chan_modChan (d : Dev) (c k : Nat) (f : DdrCh → DdrCh) :
    (d.modChan c f).chan k = if k = c ∧ k < d.ddr.chans.length then f (d.chan k) else d.chan k := getD_setAt ..

/-- Channels that are changed one after the other, each once or more, by a change that may be repeated. -/
theorem Dev.chan_foldl_modChan (f : DdrCh → DdrCh) (hf : ∀ x, f (f x) = f x) (l : List Nat) (d : Dev) (k : Nat) :
    (l.foldl (fun d c => d.modChan c f) d).chan k = if k ∈ l ∧ k < d.ddr.chans.length then f (d.chan k) else d.chan k := by
  induction l generalizing d with
  | nil => simp
  | cons c l ih =>
    have hlen : (d.modChan c f).ddr.chans.length = d.ddr.chans.length := by simp [Dev.modChan, setAt]
    rw [List.foldl_cons, ih, hlen, Dev.chan_modChan]
    by_cases hc : k = c
    · subst hc
      by_cases hk : k < d.ddr.chans.length <;> simp [hk, hf]
    · simp [hc]

/-- What a change of channels alone leaves. -/
theorem Dev.foldl_modChan_keeps (f : DdrCh → DdrCh) (l : List Nat) (d : Dev) :
    (l.foldl (fun d c => d.modChan c f) d).regs = d.regs ∧ (l.foldl (fun d c => d.modChan c f) d).dram = d.dram ∧
      (l.foldl (fun d c => d.modChan c f) d).ddr.atOnce = d.ddr.atOnce ∧ (l.foldl (fun d c => d.modChan c f) d).ddr.queue = d.ddr.queue :=
  ⟨foldl_keeps Dev.regs (fun d c => d.modChan c f) (fun _ _ => rfl) l d, foldl_keeps Dev.dram (fun d c => d.modChan c f) (fun _ _ => rfl) l d,
    foldl_keeps (fun e : Dev => e.ddr.atOnce) (fun d c => d.modChan c f) (fun _ _ => rfl) l d,
    foldl_keeps (fun e : Dev => e.ddr.queue) (fun d c => d.modChan c f) (fun _ _ => rfl) l d⟩

/-- A channel that is READY and not in the queue has three steps before it. -/
theorem Dev.stepsLeft_retrainAll {d : Dev} {c : Nat} (hc : c < 4) (hlen : c < d.ddr.chans.length) (h : d.get F.DDR_C_STAT_STATE c = 4)
    (hq : has d.ddr.queue c = false) : (d.retrainAll.chan c).stepsLeft = 3 := by
  have hmem : c ∈ (List.range 4).filter (fun c => d.get F.DDR_C_STAT_STATE c = 4 && !has d.ddr.queue c) := by
    simp [hc, h, hq]
  rw [Dev.retrainAll, Dev.chan_foldl_modChan (fun x : DdrCh => { x with stepsLeft := 3 }) (fun _ => rfl)]
  rw [if_pos ⟨hmem, hlen⟩]

theorem Dev.retrainAll_keeps (d : Dev) : d.retrainAll.regs = d.regs ∧ d.retrainAll.dram = d.dram ∧ d.retrainAll.ddr.atOnce = d.ddr.atOnce := by
  obtain ⟨hregs, hdram, honce, -⟩ := Dev.foldl_modChan_keeps (fun x : DdrCh => { x with stepsLeft := 3 })
    ((List.range 4).filter (fun c => d.get F.DDR_C_STAT_STATE c = 4 && !has d.ddr.queue c))
    { d with ddr := { d.ddr with queue := d.ddr.queue ++ (List.range 4).filter (fun c => d.get F.DDR_C_STAT_STATE c = 4 && !has d.ddr.queue c) } }
  exact ⟨hregs, hdram, honce⟩

/-- The end of sleep. -/
theorem Dev.leaveSleep_asleep {d : Dev} (h : d.get F.SYS_STAT_PHASE = 7) (hq : ∀ c, has d.ddr.queue c = false) :
    d.leaveSleep.get F.SYS_STAT_PHASE = 6 ∧ d.leaveSleep.get F.SYS_SLEEP_DONE = 1 ∧ d.leaveSleep.get F.SYS_SLEEP_CODE = 0 ∧
      d.leaveSleep.ddr.atOnce = true ∧ d.leaveSleep.dram = d.dram ∧
      ∀ c < 4, c < d.ddr.chans.length → d.get F.DDR_C_STAT_STATE c = 4 → (d.leaveSleep.chan c).stepsLeft = 3 := by
  obtain ⟨e, hleave, hregs, hddr, hdram⟩ : ∃ e : Dev, d.leaveSleep = e.retrainAll ∧
      e.regs = (((d.set F.SYS_STAT_PHASE 6).set F.SYS_SLEEP_DONE 1).set F.SYS_SLEEP_CODE 0).regs ∧ e.ddr = { d.ddr with atOnce := true } ∧ e.dram = d.dram :=
    ⟨_, if_pos h, rfl, rfl, rfl⟩
  obtain ⟨rregs, rdram, ronce⟩ := e.retrainAll_keeps
  have hget : ∀ f i j, e.get f i j = (((d.set F.SYS_STAT_PHASE 6).set F.SYS_SLEEP_DONE 1).set F.SYS_SLEEP_CODE 0).get f i j := fun f i j => by
    simp only [Dev.get, hregs]
  have hget' : ∀ f i j, e.retrainAll.get f i j = (((d.set F.SYS_STAT_PHASE 6).set F.SYS_SLEEP_DONE 1).set F.SYS_SLEEP_CODE 0).get f i j := fun f i j => by
    simp only [Dev.get, rregs, hregs]
  rw [hleave]
  refine ⟨?_, ?_, ?_, ?_, rdram.trans hdram, fun c hc hlen hready => Dev.stepsLeft_retrainAll hc (by rw [hddr]; exact hlen) ?_ (by rw [hddr]; exact hq c)⟩
  · rw [hget', Dev.get_set_ne _ _ _ _ _ _ _ _ (by decide), Dev.get_set_ne _ _ _ _ _ _ _ _ (by decide), Dev.get_set_self]; rfl
  · rw [hget', Dev.get_set_ne _ _ _ _ _ _ _ _ (by decide), Dev.get_set_self]; rfl
  · rw [hget', Dev.get_set_self]; rfl
  · rw [ronce, hddr]
  · rw [hget, ← hready, Dev.get_set_ne, Dev.get_set_ne, Dev.get_set_ne] <;>
      simp only [Field.key, Field.addr, F.DDR_C_STAT_STATE, F.SYS_STAT_PHASE, F.SYS_SLEEP_DONE, F.SYS_SLEEP_CODE] <;> omega

/-! ### Standby (R447) -/

/-- Entries that are written to the ring one after the other. -/
theorem Audit.seq_foldl_write (q : List (Option Requester × AuditEntry)) (a : Audit) :
    (q.foldl (fun (a : Audit) e => a.write e.2) a).seq % 2 ^ 32 = (a.seq + q.length) % 2 ^ 32 := by
  induction q generalizing a with
  | nil => rfl
  | cons e q ih =>
    have hseq : (a.write e.2).seq = (a.seq + 1) % 2 ^ 32 := rfl
    rw [List.foldl_cons, ih, hseq, List.length_cons]
    omega

/-- The last of them has its number below 2^32. -/
theorem Audit.seq_foldl_write_concat (q : List (Option Requester × AuditEntry)) (e : Option Requester × AuditEntry) (a : Audit) :
    ((q ++ [e]).foldl (fun (a : Audit) e => a.write e.2) a).seq = (a.seq + q.length + 1) % 2 ^ 32 := by
  have hseq : ∀ b : Audit, (b.write e.2).seq = (b.seq + 1) % 2 ^ 32 := fun _ => rfl
  have hlast := Audit.seq_foldl_write q a
  rw [List.foldl_append, List.foldl_cons, List.foldl_nil, hseq]
  omega

theorem State.audit_flushMram {s : State} (h : s.dev.safe.applying = none) :
    s.flushMram.audit = { s.audit.queue.foldl (fun (a : Audit) e => a.write e.2) s.audit with queue := [] } := by
  simp only [State.flushMram, h]
  rfl

/-- Every domain but AON is off. -/
theorem Dev.unpowered_off (d : Dev) (st : PowerState) : (d.unpowered st).pwr.st = st ∧ (d.unpowered st).pwr.pwrEn = 0 ∧ (d.unpowered st).dram = [] := by
  simp only [Dev.unpowered]
  split <;> exact ⟨rfl, rfl, rfl⟩

theorem Dev.mayRest_touch (d : Dev) (rq : Requester) : (d.touch rq).mayRest = d.mayRest := by
  obtain h | ⟨x, h⟩ := d.touch_cases rq <;> rw [h]
  cases rq <;> rfl

theorem Dev.safe_touch (d : Dev) (rq : Requester) : (d.touch rq).safe = d.safe := by
  obtain h | ⟨x, h⟩ := d.touch_cases rq <;> rw [h]
  cases rq <;> rfl

theorem Dev.touch_set (d : Dev) (rq : Requester) {f : Field} {v i j : Nat} (hne : ∀ rq : Requester, F.ROLE_SESS_CTRL_IDLE_TIME.key (bankOf rq) 0 ≠ f.key i j) :
    (d.set f v i j).touch rq = (d.touch rq).set f v i j := by
  have hidle : ∀ n, (n = bankOf .host ∨ n = bankOf .cellar) → (d.set f v i j).get F.ROLE_SESS_CTRL_IDLE_TIME n = d.get F.ROLE_SESS_CTRL_IDLE_TIME n := by
    rintro n (rfl | rfl) <;> exact Dev.get_set_ne _ _ _ _ _ _ _ _ (hne _)
  cases rq <;> simp only [Dev.touch, Dev.session_set, Dev.now, Dev.set_raw] <;> split
  · rw [hidle 0 (.inl rfl), Dev.set_setSession]
  · rfl
  · rw [hidle 1 (.inr rfl), Dev.set_setSession]
  · rfl

theorem Dev.gateOpen_off {d : Dev} (h : d.pwr.st ≠ .on) : d.gateOpen = false := by simp [Dev.gateOpen, h]

theorem standbyEnter_rests {rq : Requester} {s : State} (h : s.Ready rq 2) (hp : 4 ≤ s.dev.get F.SYS_STAT_PHASE) (hr : s.dev.mayRest = true) :
    ∃ t, exec (.standbyEnter rq) s = .next t ∧ t.pending = s.pending ∧ t.dev.pwr.st = .standby ∧ t.dev.pwr.pwrEn = 0 ∧ t.dev.gateOpen = false ∧
      t.dev.dram = [] ∧ t.audit.queue = [] ∧ (s.dev.safe.applying = none → t.audit.seq = (s.audit.seq + s.audit.queue.length + 1) % 2 ^ 32) := by
  obtain ⟨old, new, hw⟩ := State.write_audited_act h 0x58 1 ⟨0, some .installer⟩ (by decide) (by cases rq <;> decide +kernel) (by decide) (by decide) (by decide)
  have hacts := State.acts_of h 0x58 1 ⟨0, some .installer⟩ (by decide) (by decide)
  obtain ⟨t, ht⟩ : ∃ t, t = (s.onDev (fun d => d.touch rq)).pushAudit (some rq) (s.dev.entry rq 0x58 old new) := ⟨_, rfl⟩
  have hdev : t.dev = s.dev.touch rq := by rw [ht]; rfl
  have hqueue : t.audit = { s.audit with queue := s.audit.queue ++ [(some rq, s.dev.entry rq 0x58 old new)] } := by rw [ht]; rfl
  have hrest : (decide (4 ≤ t.dev.get F.SYS_STAT_PHASE) && t.dev.mayRest) = true := by
    rw [hdev, Dev.get_touch, Dev.mayRest_touch, hr, decide_eq_true hp]; rfl
  obtain ⟨hst, hen, hdram⟩ := Dev.unpowered_off t.flushMram.dev .standby
  have hrun : exec (.standbyEnter rq) s = .next { t.flushMram with
      dev := (t.flushMram.dev.unpowered .standby).modPwr (fun p => { p with thermal := false, heldWake := none }), audit := t.flushMram.audit.afterReset false } := by
    simp only [exec, execStandbyEnter]
    rw [State.gate_run h.2.1 _ _ _ _ _ _ 0 (by decide)]
    simp only [hacts, hw, ← ht]
    rw [if_neg (by decide), if_pos hrest]
  generalize t.flushMram.dev.unpowered .standby = v at hst hen hdram hrun
  refine ⟨_, hrun, ?_, hst, hen, ?_, hdram, rfl, fun hno => ?_⟩
  · exact (State.Keeps.flushMram t).1.trans (by rw [ht]; rfl)
  · exact Dev.gateOpen_off fun hon => absurd (hst.symm.trans hon) (by decide)
  · have hsafe : t.dev.safe.applying = none := by rw [hdev, Dev.safe_touch, hno]
    simp only [Audit.afterReset, State.audit_flushMram hsafe, hqueue]
    exact Audit.seq_foldl_write_concat ..

theorem standbyEnter_busy {rq : Requester} {s : State} (h : s.Ready rq 2) (hb : s.dev.get F.SYS_STAT_PHASE < 4 ∨ s.dev.mayRest = false) :
    GivesAudited (.standbyEnter rq) s rq 0x58 ((s.dev.set F.SYS_STANDBY_CODE 1).touch rq) := by
  obtain ⟨old, new, hw⟩ := State.write_audited_act h 0x58 1 ⟨0, some .installer⟩ (by decide) (by cases rq <;> decide +kernel) (by decide) (by decide) (by decide)
  have hacts := State.acts_of h 0x58 1 ⟨0, some .installer⟩ (by decide) (by decide)
  have hrest : ¬ (decide (4 ≤ (s.dev.touch rq).get F.SYS_STAT_PHASE) && (s.dev.touch rq).mayRest) = true := by
    rw [Dev.get_touch, Dev.mayRest_touch, Bool.and_eq_true, decide_eq_true_eq]
    rintro ⟨hp, hr⟩
    rcases hb with hb | hb
    · omega
    · rw [hb] at hr; cases hr
  refine ⟨old, new, ?_⟩
  simp only [exec, execStandbyEnter]
  rw [State.gate_run h.2.1 _ _ _ _ _ _ 0 (by decide)]
  simp only [hacts, hw, State.pushAudit_dev, State.onDev_dev]
  rw [if_neg (by decide), if_neg hrest, Dev.touch_set _ _ (fun rq => by cases rq <;> decide)]
  rfl

/-! ### Test mode (R456) -/

theorem Dev.get_irq_ne (d : Dev) (st en : Field) (k : Nat) (v : Option Field) (i : Nat) {g : Field} {i' j' : Nat} (h : g.key i' j' ≠ st.key i 0) :
    (d.irq st en k v i).get g i' j' = d.get g i' j' := by
  simp only [Dev.get_irq, Dev.raiseBit]
  exact Dev.get_set_ne _ _ _ _ _ _ _ _ h

theorem Dev.get_lampMark_self (d : Dev) (c st : Nat) : (d.lampMark c st).get F.LMP_C_STAT_STATUS c = if d.get F.LMP_C_STAT_STATUS c = st then st else st % 16 := by
  have hirq : ∀ i j c' : Nat, F.LMP_C_STAT_STATUS.key i j ≠ F.LMP_IRQ_STAT.key c' 0 := fun i j c' => by
    simp only [Field.key, Field.addr, F.LMP_C_STAT_STATUS, F.LMP_IRQ_STAT]; omega
  simp only [Dev.lampMark]
  split
  · assumption
  · split <;> simp only [Dev.get_irq_ne _ _ _ _ _ _ (hirq _ _ _), Dev.get_set_self] <;> rfl

theorem Dev.get_lampMark_ne (d : Dev) (c st : Nat) {g : Field} {i j : Nat} (h1 : g.key i j ≠ F.LMP_C_STAT_STATUS.key c 0) (h2 : g.key i j ≠ F.LMP_IRQ_STAT.key 0 0) :
    (d.lampMark c st).get g i j = d.get g i j := by
  simp only [Dev.lampMark]
  split
  · rfl
  · split <;> simp only [Dev.get_irq_ne _ _ _ _ _ _ h2, Dev.get_set_ne _ _ _ _ _ _ _ _ h1]

/-- One channel of the lamp gate: its line, where it is held low, shows INTERLOCK. -/
def Dev.lampShut (d : Dev) (c : Nat) : Dev :=
  if d.lampHeld c then
    { d.lampMark c 5 with lamps := { d.lamps with chans := setAt d.lamps.chans c (fun x => { x with dim := [], depends := [], judge := 0, await := 0 }) } }
  else d

theorem Dev.lampGate_eq (d : Dev) : d.lampGate = if d.lampsOn then (List.range 16).foldl Dev.lampShut d else d := rfl

theorem Dev.pins_lampShut (d : Dev) (c : Nat) : (d.lampShut c).pins = d.pins := by
  simp only [Dev.lampShut]
  split
  · exact Dev.pins_of_fixed (Dev.fixed_lampMark d c 5)
  · rfl

theorem Dev.lampHeld_testMode {d : Dev} (h : d.pins.testMode = true) (c : Nat) : d.lampHeld c = true := by simp [Dev.lampHeld, h]

/-- Channels that are all held show INTERLOCK one after the other. -/
theorem Dev.status_foldl_lampShut {d : Dev} (h : d.pins.testMode = true) (n : Nat) :
    ((List.range n).foldl Dev.lampShut d).pins.testMode = true ∧ ∀ c < n, ((List.range n).foldl Dev.lampShut d).get F.LMP_C_STAT_STATUS c = 5 := by
  induction n with
  | zero => exact ⟨h, fun c hc => absurd hc (Nat.not_lt_zero c)⟩
  | succ n ih =>
    rw [List.range_succ, List.foldl_append, List.foldl_cons, List.foldl_nil]
    generalize (List.range n).foldl Dev.lampShut d = e at ih
    obtain ⟨htest, hshown⟩ := ih
    refine ⟨by rw [Dev.pins_lampShut, htest], fun c hc => ?_⟩
    rw [Dev.lampShut, if_pos (Dev.lampHeld_testMode htest n), Dev.get_with_lamps]
    by_cases hcn : c = n
    · subst hcn
      rw [Dev.get_lampMark_self]
      split <;> rfl
    · rw [Dev.get_lampMark_ne, hshown c (by omega)] <;> simp only [Field.key, Field.addr, F.LMP_C_STAT_STATUS, F.LMP_IRQ_STAT] <;> omega

/-- What follows a change keeps the pins that the change left, and in test mode a running lamp controller shows every channel dark. -/
theorem Dev.settle_pins (d e : Dev) : (Dev.settle d e).pins = e.pins := Dev.pins_of_fixed (Dev.fixed_settle d e)

theorem Dev.lampsOn_inhibitAll (d : Dev) : d.inhibitAll.lampsOn = d.lampsOn := by
  have hst : d.inhibitAll.pwr.st = d.pwr.st := Dev.powerState_of_fixed (Dev.fixed_inhibitAll d)
  have hen : d.inhibitAll.get F.LMP_CTRL_ENABLE = d.get F.LMP_CTRL_ENABLE :=
    Dev.get_of_calm (Dev.calm_inhibitAll d) (by decide) (by decide) (by decide)
  simp only [Dev.lampsOn, Dev.flag, hst, hen]

theorem Dev.settle_dark {d e : Dev} (htest : e.pins.testMode = true) (hon : e.lampsOn = true) {c : Nat} (hc : c < 16) :
    (Dev.settle d e).get F.LMP_C_STAT_STATUS c = 5 := by
  have hdark : ∀ x : Dev, x.pins.testMode = true → x.lampsOn = true → x.lampGate.get F.LMP_C_STAT_STATUS c = 5 := fun x hx hl => by
    rw [Dev.lampGate_eq, if_pos hl]
    exact (Dev.status_foldl_lampShut hx 16).2 c hc
  have hpins : e.inhibitAll.pins = e.pins := Dev.pins_of_fixed (Dev.fixed_inhibitAll e)
  have hgate : (if d.gateOpen && !e.gateOpen then e.inhibitAll else e).lampGate.get F.LMP_C_STAT_STATUS c = 5 := by
    split
    · exact hdark _ ((congrArg Pins.testMode hpins).trans htest) (by rw [Dev.lampsOn_inhibitAll, hon])
    · exact hdark _ htest hon
  simp only [Dev.settle]
  split
  · exact hgate
  · exact hgate

/-- The level of TEST_MODE, and what high does. -/
theorem testModeInput_completes (high : Bool) (s : State) : Completes (.testModeInput high) s (fun d => d.pins = { s.dev.pins with testMode := high } ∧
    (high = true → d.gateOpen = false ∧ d.drvHold = true ∧ (s.dev.lampsOn = true → ∀ c < 16, d.get F.LMP_C_STAT_STATUS c = 5))) := by
  have hpins := Dev.settle_pins s.dev { s.dev with pins := { s.dev.pins with testMode := high } }
  refine ⟨_, rfl, hpins, ?_⟩
  rintro rfl
  refine ⟨?_, ?_, fun hon c hc => ?_⟩
  · simp [Dev.gateOpen, hpins]
  · simp [Dev.drvHold, hpins]
  · exact Dev.settle_dark (d := s.dev) (e := { s.dev with pins := { s.dev.pins with testMode := true } }) rfl hon hc

/-! ### The decanter's counts -/

theorem exec_decodeErrClear {rq : Requester} {s : State} (h : s.Ready rq 0) : Gives (.decodeErrClear rq) s (s.dev.set F.DEC_DEC_ERR_COUNT 0) := by
  simp only [Gives, exec, execDecodeErrClear]
  rw [State.row_none h _ _ _ _ _ (by decide) (by cases rq <;> decide +kernel) (by decide) (by decide) (by decide)]
  rfl

theorem exec_sliceLoadClear {rq : Requester} {sl : Slice} {s : State} (h : s.Ready rq 0) :
    Gives (.sliceLoadClear rq sl) s (s.dev.set F.DEC_S_LOAD_MAX_PCT 0 sl.val) := by
  simp only [Gives, exec, execSliceLoadClear]
  rw [State.row_none h _ _ _ _ _ (by revert sl; decide) (by revert sl; cases rq <;> decide +kernel) (by decide) (by decide) (by decide)]
  rfl

/-- Settles O24: sleep and its end, standby, test mode, and the two counts that CLEAR empties. -/
theorem partRests : Obligations.PartRests := by
  refine ⟨fun rq s h => ⟨fun hp hr => ⟨_, exec_sleepEnter h, rfl, Dev.sleepGo_asleep hp hr⟩, fun hb => Dev.sleepGo_busy hb ▸ exec_sleepEnter h⟩,
    fun s => ⟨rfl, fun rq h => exec_sleepExit h, fun hp => ⟨?_, fun rq h => ?_⟩, fun P hP hp hq => ?_⟩,
    fun rq s h => ⟨fun hp hr => standbyEnter_rests h hp hr, fun hb => standbyEnter_busy h hb⟩, fun s => ⟨?_, ?_⟩,
    fun rq sl s h => ⟨exec_decodeErrClear h, exec_sliceLoadClear h⟩⟩
  · exact congrArg (fun d => Host.Outcome.next { s with dev := d }) (Dev.leaveSleep_awake hp)
  · exact Dev.leaveSleep_awake hp ▸ exec_sleepExit h
  · have hend : P s.dev.leaveSleep := hP ▸ Dev.leaveSleep_asleep hp hq
    exact ⟨⟨_, rfl, hend⟩, fun rq h => ⟨_, exec_sleepExit h, hend⟩⟩
  · obtain ⟨e, hrun, hpins, hhigh⟩ := testModeInput_completes true s
    exact ⟨e, hrun, hpins, hhigh rfl⟩
  · obtain ⟨e, hrun, hpins, -⟩ := testModeInput_completes false s
    exact ⟨e, hrun, hpins⟩

end Sys2Proof.Machine
end


section
/-! PROOF. The line scheduler under a report of a fault source: a reaction reaches the stop sequence's causes, and takes it out of RUN alone (R227, R406). -/

namespace Sys2Proof.Machine

@[simp] theorem Dev.fire_set (d : Dev) (f : Field) (v i j : Nat) : (d.set f v i j).fire = d.fire := rfl
@[simp] theorem Dev.fire_bump (d : Dev) (f : Field) (i j n : Nat) : (d.bump f i j n).fire = d.fire := rfl
@[simp] theorem Dev.fire_raiseBit (d : Dev) (f : Field) (k i j : Nat) : (d.raiseBit f k i j).fire = d.fire := rfl
@[simp] theorem Dev.fire_irq (d : Dev) (st en : Field) (k : Nat) (v : Option Field) (i : Nat) : (d.irq st en k v i).fire = d.fire := by
  cases v with
  | none => rfl
  | some v =>
    simp only [Dev.irq]; split
    · simp only [Dev.msixDue]; split <;> rfl
    · rfl

@[simp] theorem Dev.fire_emit (d : Dev) (o : Output) : (d.emit o).fire = d.fire := rfl
@[simp] theorem Dev.fire_modPort (d : Dev) (p : Nat) (f : HlkPort → HlkPort) : (d.modPort p f).fire = d.fire := rfl
@[simp] theorem Dev.fire_modTx (d : Dev) (p : Nat) (f : LaneTx → LaneTx) : (d.modTx p f).fire = d.fire := rfl
@[simp] theorem Dev.fire_modJob (d : Dev) (i : Nat) (f : Job → Job) : (d.modJob i f).fire = d.fire := rfl
@[simp] theorem Dev.fire_modCam (d : Dev) (n : Nat) (f : CamSt → CamSt) : (d.modCam n f).fire = d.fire := rfl
@[simp] theorem Dev.fire_modCtx (d : Dev) (n : Nat) (f : IspCtx → IspCtx) : (d.modCtx n f).fire = d.fire := rfl
@[simp] theorem Dev.fire_purge (d : Dev) (n : Nat) : (d.purge n).fire = d.fire := rfl
@[simp] theorem Dev.fire_lamps (d : Dev) (l : LampSt) : ({ d with lamps := l } : Dev).fire = d.fire := rfl
@[simp] theorem Dev.fire_owe (d : Dev) (s : Nat) : (d.owe s).fire = d.fire := rfl

/-! ### Job records and defect ranges -/

@[simp] theorem Dev.fire_pushJobRec (d : Dev) (i t st ev c l : Nat) : (d.pushJobRec i t st ev c l).fire = d.fire := by
  simp only [Dev.pushJobRec]; split
  · rfl
  · exact Dev.fire_bump _ _ _ _ _

@[simp] theorem Dev.fire_closeRange (d : Dev) (i : Nat) (g : DefectRange) : (d.closeRange i g).fire = d.fire := by simp [Dev.closeRange]

@[simp] theorem Dev.fire_closeRanges (d : Dev) (i : Nat) (p : DefectRange → Bool) : (d.closeRanges i p).fire = d.fire :=
  foldl_keeps Dev.fire _ (fun _ _ => Dev.fire_closeRange ..) _ _

@[simp] theorem Dev.fire_joinRange (d : Dev) (i b c l : Nat) : (d.joinRange i b c l).fire = d.fire := by
  simp only [Dev.joinRange]; split
  · split
    · rfl
    · split <;> simp
  · simp

@[simp] theorem Dev.fire_addRange (d : Dev) (i b c l : Nat) : (d.addRange i b c l).fire = d.fire := by
  have hothers : ((d.jobs.filter (fun e => e.1 ≠ i)).foldl (fun d e => d.closeRanges e.1 (fun g => g.bar = b)) d).fire = d.fire :=
    foldl_keeps Dev.fire _ (fun _ _ => Dev.fire_closeRanges ..) _ _
  simp only [Dev.addRange]
  split <;> simpa using hothers

/-! ### Lanes and ports -/

@[simp] theorem Dev.fire_lineOut (d : Dev) (p : Nat) (b : List Bool) : (d.lineOut p b).fire = d.fire := by
  simp only [Dev.lineOut]; split <;> rfl

@[simp] theorem Dev.fire_putFrame (d : Dev) (p n : Nat) : (d.putFrame p n).fire = d.fire := by simp [Dev.putFrame]

@[simp] theorem Dev.fire_laneStart (d : Dev) (p t : Nat) (w : List Nat) : (d.laneStart p t w).fire = d.fire := by simp [Dev.laneStart]

@[simp] theorem Dev.fire_laneTick (d : Dev) (p : Nat) : (d.laneTick p).fire = d.fire := by
  simp only [Dev.laneTick]; split
  · rfl
  · split
    · simp
    · split <;> simp

@[simp] theorem Dev.fire_laneSend (d : Dev) (p t : Nat) (w : List Nat) : (d.laneSend p t w).fire = d.fire := by simp [Dev.laneSend]

@[simp] theorem Dev.fire_sendTime (d : Dev) (p : Nat) : (d.sendTime p).fire = d.fire := by
  simp only [Dev.sendTime, Dev.fire_laneSend, Dev.fire_modPort]

@[simp] theorem Dev.fire_markerOut (d : Dev) (p : Nat) : (d.markerOut p).fire = d.fire := by
  simp only [Dev.markerOut, Dev.fire_sendTime, Dev.fire_lineOut, Dev.fire_emit, Dev.fire_modTx, Dev.fire_modPort]

@[simp] theorem Dev.fire_laneAbort (d : Dev) (p : Nat) : (d.laneAbort p).fire = d.fire := by
  simp only [Dev.laneAbort]; split
  · rfl
  · split <;> simp

@[simp] theorem Dev.fire_laneFlush (p k : Nat) (d : Dev) : (Dev.laneFlush p k d).fire = d.fire := by
  induction k generalizing d with
  | zero => rfl
  | succ k ih =>
    simp only [Dev.laneFlush]; split
    · simp [ih]
    · split <;> simp [ih]

@[simp] theorem Dev.fire_laneDrain (d : Dev) (p : Nat) : (d.laneDrain p).fire = d.fire := by
  simp only [Dev.laneDrain]; split <;> simp

@[simp] theorem Dev.fire_laneReady (d : Dev) (p : Nat) : (d.laneReady p).fire = d.fire := by
  simp only [Dev.laneReady, Dev.fire_sendTime, Dev.fire_lineOut, Dev.fire_modTx, Dev.fire_modPort]

@[simp] theorem Dev.fire_laneOff (d : Dev) (p : Nat) : (d.laneOff p).fire = d.fire := rfl

@[simp] theorem Dev.fire_wakeLane (d : Dev) (p : Nat) : (d.wakeLane p).fire = d.fire := by
  simp only [Dev.wakeLane]; split <;> simp [Dev.primeLane]

@[simp] theorem Dev.fire_inhibitPort (d : Dev) (p r : Nat) : (d.inhibitPort p r).fire = d.fire := by
  simp only [Dev.inhibitPort, Dev.fire_modPort]
  rw [foldl_keeps Dev.fire]
  · simp
  · intro a b; split <;> simp

@[simp] theorem Dev.fire_inhibitAll (d : Dev) : d.inhibitAll.fire = d.fire :=
  foldl_keeps Dev.fire _ (fun _ _ => by split <;> simp) _ _

@[simp] theorem Dev.fire_memDone (d : Dev) (p st : Nat) : (d.memDone p st).fire = d.fire := by
  simp only [Dev.memDone, Dev.fire_irq, Dev.fire_set]

@[simp] theorem Dev.fire_leavePort (d : Dev) (p r : Nat) (n : LinkState) (b : Bool) : (d.leavePort p r n b).fire = d.fire := by
  simp only [Dev.leavePort, Dev.fire_modTx, Dev.fire_modPort]; split <;> split <;> simp

@[simp] theorem Dev.fire_disablePort (d : Dev) (p : Nat) (l : List (Nat × List Nat)) : (d.disablePort p l).fire = d.fire := by
  simp only [Dev.disablePort]; split
  · rfl
  · simp only [Dev.fire_modPort, Dev.fire_laneOff, Dev.fire_laneDrain]
    rw [foldl_keeps Dev.fire _ (fun _ _ => Dev.fire_laneSend ..)]; simp

/-! ### Lamps and the stop sequence -/

@[simp] theorem Dev.fire_lampMark (d : Dev) (c st : Nat) : (d.lampMark c st).fire = d.fire := by
  simp only [Dev.lampMark]; split
  · rfl
  · split <;> simp only [Dev.fire_irq, Dev.fire_set]

@[simp] theorem Dev.fire_lampGate (d : Dev) : d.lampGate.fire = d.fire := by
  simp only [Dev.lampGate]; split
  · exact foldl_keeps Dev.fire _ (fun _ _ => by split <;> simp) _ _
  · rfl

@[simp] theorem Dev.fire_settle (d e : Dev) : (Dev.settle d e).fire = e.fire := by
  simp only [Dev.settle]; split <;> split <;> simp

/-! ### Cameras and the image pipeline -/

@[simp] theorem Dev.fire_vinKeep (d : Dev) (k : Nat) (f : CtxFrame) : (d.vinKeep k f).fire = d.fire := by
  simp only [Dev.vinKeep]; split <;> rfl

@[simp] theorem Dev.fire_ringWrite (d : Dev) (kind unit base size wr : Nat) (b : List Nat) : (d.ringWrite kind unit base size wr b).fire = d.fire := by
  simp only [Dev.ringWrite]; split <;> simp

theorem Dev.fire_ringRecord {d e : Dev} {kind unit base size wr rd n : Nat} {b : List Nat}
    (h : d.ringRecord kind unit base size wr rd b = some (e, n)) : e.fire = d.fire := by
  simp only [Dev.ringRecord] at h
  split at h
  · simp only [Option.some.injEq, Prod.mk.injEq] at h; rw [← h.1, Dev.fire_ringWrite]
  · cases h

@[simp] theorem Dev.fire_ctxFrameEnd (d : Dev) (k : Nat) (f : CtxFrame) : (d.ctxFrameEnd k f).fire = d.fire := by
  have hlost : ∀ e : Dev, (if f.dropped ≠ 0 then (e.bump F.ISP_K_CNT_INCOMPLETE k).irq F.ISP_IRQ_STAT F.ISP_IRQ_EN (8 + k) (some F.ISP_VEC) else e).fire
      = e.fire := fun e => by split <;> simp only [Dev.fire_irq, Dev.fire_bump]
  simp only [Dev.ctxFrameEnd, Dev.fire_vinKeep, hlost, Dev.fire_irq]
  split
  · rfl
  · split
    · rename_i h; rw [Dev.fire_set _ _ _ _ _, Dev.fire_ringRecord h]
    · simp only [Dev.fire_irq, Dev.fire_bump]

@[simp] theorem Dev.fire_streamPut (d : Dev) (k j : Nat) (f : CtxFrame) (o : Nat) (a : IspAcc) : (d.streamPut k j f o a).1.fire = d.fire := by
  simp only [Dev.streamPut]; split
  · rfl
  · split
    · rename_i h; rw [Dev.fire_set _ _ _ _ _, Dev.fire_ringRecord h]
    · simp only [Dev.streamLost, Dev.fire_irq, Dev.fire_bump]

@[simp] theorem Dev.fire_cutFrame (d : Dev) (k : Nat) (f : CtxFrame) : (d.cutFrame k f).fire = d.fire := by
  simp only [Dev.cutFrame]
  split
  · rw [Dev.fire_owe, Dev.fire_ctxFrameEnd, foldl_keeps (fun x : Dev × CtxFrame => x.1.fire) _ (fun _ _ => by split <;> simp)]
  · rw [Dev.fire_ctxFrameEnd, foldl_keeps (fun x : Dev × CtxFrame => x.1.fire) _ (fun _ _ => by split <;> simp)]

@[simp] theorem Dev.fire_endCtxFrames (d : Dev) (n : Nat) : (d.endCtxFrames n).fire = d.fire :=
  foldl_keeps Dev.fire _ (fun _ _ => (Dev.fire_modCtx ..).trans (foldl_keeps Dev.fire _ (fun _ _ => Dev.fire_cutFrame ..) _ _)) _ _

@[simp] theorem Dev.fire_ctlDown (d : Dev) (n : Nat) : (d.ctlDown n).fire = d.fire := by
  simp only [Dev.ctlDown]; split
  · simp only [Dev.ctlEnd, Dev.fire_irq, Dev.fire_modCam, Dev.fire_set]
  · rfl

@[simp] theorem Dev.fire_stopCamera (d : Dev) (n : Nat) : (d.stopCamera n).fire = d.fire := by
  simp only [Dev.stopCamera]; split
  · rfl
  · simp only [Dev.fire_modCam, Dev.fire_endCtxFrames, Dev.fire_ctlDown, Dev.fire_set]

@[simp] theorem Dev.fire_stopIsp (d : Dev) : d.stopIsp.fire = d.fire :=
  foldl_keeps Dev.fire _ (fun _ _ => (Dev.fire_purge ..).trans (Dev.fire_endCtxFrames ..)) _ _

@[simp] theorem Dev.fire_fenceChannel (d : Dev) (c : Nat) : (d.fenceChannel c).fire = d.fire := by
  simp only [Dev.fenceChannel]; split
  · change ((d.set F.DDR_C_STAT_STATE 6 c).raiseBit F.DDR_STAT_FENCED c).fire = d.fire
    simp only [Dev.fire_raiseBit, Dev.fire_set]
  · rfl

@[simp] theorem Dev.fire_fenceEffect (d : Dev) (u : FUnit) : (d.fenceEffect u).fire = d.fire := by
  cases u <;> simp [Dev.fenceEffect]

@[simp] theorem Dev.fire_fenceUnits (d : Dev) (s i : Nat) : (d.fenceUnits s i).fire = d.fire := by
  simp only [Dev.fenceUnits]
  exact foldl_keeps Dev.fire _ (fun _ _ => by rw [Dev.fire_fenceEffect]) _ _


/-! ### The stop sequence's state under a report -/

theorem Dev.fire_fltIrq (d : Dev) (k : Nat) : (d.fltIrq k).fire = d.fire := Dev.fire_irq ..

/-- A trigger outside RUN adds its cause, and the sequence stays in its state. -/
theorem Dev.stopState_stopTrigger {d : Dev} {c : Nat} (h : d.fire.stop.st ≠ .run) : (d.stopTrigger c).fire.stop.st = d.fire.stop.st := by
  simp only [Dev.stopTrigger, if_neg h]
  split <;> rfl

theorem Dev.outlives_stopState {v : StopState} (hv : v ≠ .run) : Outlives (fun d => d.fire.stop.st = v) where
  flt _ _ h := h
  overwrites _ h := h
  lastSrc _ _ h := h
  irq d k h := (congrArg (fun f => f.stop.st) (Dev.fire_fltIrq d k)).trans h
  fence d u h := (congrArg (fun f => f.stop.st) (Dev.fire_fenceEffect d u)).trans h
  stop _ _ h := (Dev.stopState_stopTrigger (h ▸ hv)).trans h
  settle d e h := (congrArg (fun f => f.stop.st) (Dev.fire_settle d e)).trans h

/-- Outside RUN the sequence stays in its state under a report. -/
theorem Dev.stopState_report {d : Dev} (s i : Nat) (h : d.fire.stop.st ≠ .run) : (d.report s i).fire.stop.st = d.fire.stop.st := (Dev.outlives_stopState h).report rfl s i

theorem Dev.fire_unreport (d : Dev) (s i : Nat) : (d.unreport s i).fire = d.fire := by
  simp only [Dev.unreport, Dev.noteFall]; split <;> rfl

end Sys2Proof.Machine
end


section
/-! PROOF. The stop sequence (R227, R228, R231), the inputs of the line scheduler (R223, R404), the speed request (R213) and a bar's counts (R235). -/

namespace Sys2Proof.Machine

/-! ### A command whose effect has a condition -/

theorem gives_of_pos {c : Instr} {s : State} {p : Prop} [Decidable p] {d e : Dev} (h : Gives c s (if p then d else e)) (hp : p) : Gives c s d := by
  rwa [if_pos hp] at h

theorem gives_of_neg {c : Instr} {s : State} {p : Prop} [Decidable p] {d e : Dev} (h : Gives c s (if p then d else e)) (hp : ¬ p) : Gives c s e := by
  rwa [if_neg hp] at h

/-! ### The drive's watch -/

/-- Where DRV_NOT_READY's condition does not hold, the watch ends its report. -/
theorem Dev.drvWatch_of_not_missing {d : Dev} (h : d.drvMissing = false) : d.drvWatch = (d.unreport 58).unreport 58 := by
  have hmissing : (d.unreport 58).drvMissing = false := by
    rw [← h]
    simp only [Dev.drvMissing, Dev.unreport, Dev.noteFall]
    split <;> rfl
  simp [Dev.drvWatch, Dev.reportLevel, h, hmissing]

theorem Dev.drvMissing_of_stopped {d : Dev} (h : d.fire.stop.st ≠ .run) : d.drvMissing = false := by simp [Dev.drvMissing, h]

theorem Dev.drvMissing_of_ready {d : Dev} (h : d.pins.drvReady = true) : d.drvMissing = false := by simp [Dev.drvMissing, h]

/-- What the watch leaves where its condition does not hold. -/
theorem Dev.drvWatch_keeps {d : Dev} (h : d.drvMissing = false) : d.drvWatch.fire = d.fire ∧ d.drvWatch.regs = d.regs ∧ d.drvWatch.pos = d.pos ∧
    d.drvWatch.pins = d.pins := by
  have hun : ∀ e : Dev, (e.unreport 58).fire = e.fire ∧ (e.unreport 58).regs = e.regs ∧ (e.unreport 58).pos = e.pos ∧ (e.unreport 58).pins = e.pins := fun e => by
    simp only [Dev.unreport, Dev.noteFall]
    split <;> exact ⟨rfl, rfl, rfl, rfl⟩
  obtain ⟨f1, r1, p1, q1⟩ := hun d
  obtain ⟨f2, r2, p2, q2⟩ := hun (d.unreport 58)
  rw [Dev.drvWatch_of_not_missing h]
  exact ⟨f2.trans f1, r2.trans r1, p2.trans p1, q2.trans q1⟩

/-! ### STOP and RESUME (R227, R231) -/

theorem exec_fireStop {rq : Requester} {s : State} (h : s.Ready rq 1) : Gives (.fireStopCmd rq) s (s.dev.stopTrigger 2).drvWatch := by
  simp only [Gives, exec, execFireStopCmd]
  rw [State.row_none h _ _ _ _ _ (by decide) (by cases rq <;> decide +kernel) (by decide) (by decide) (by decide)]
  rfl

theorem exec_fireResume {rq : Requester} {s : State} (h : s.Ready rq 1) : Gives (.fireResumeCmd rq) s (s.dev.modStop (fun t =>
    { t with resumeU := t.resumeU || t.underrun, resumeH := t.resumeH || t.host, resumeF := t.resumeF || (t.fault && t.acked) })) := by
  simp only [Gives, exec, execFireResumeCmd]
  rw [State.row_none h _ _ _ _ _ (by decide) (by cases rq <;> decide +kernel) (by decide) (by decide) (by decide)]
  rfl

theorem Dev.get_raiseBit_testBit (d : Dev) (f : Field) (k i j : Nat) (hk : k < f.width) : ((d.raiseBit f k i j).get f i j).testBit k = true := by
  simp [Dev.raiseBit, hk, Nat.testBit_mod_two_pow]

theorem Dev.get_irq_testBit (d : Dev) (st en : Field) (k : Nat) (v : Option Field) (i : Nat) (hk : k < st.width) :
    ((d.irq st en k v i).get st i).testBit k = true := by
  rw [Dev.get_irq]; exact Dev.get_raiseBit_testBit _ _ _ _ _ hk

/-- A host's stop in RUN starts the sequence with the settings in force. -/
theorem Dev.stopTrigger_host {d : Dev} (h : d.fire.stop.st = .run) : (d.stopTrigger 2).fire.stop =
    { st := .holding, minSpeed := d.get F.FIRE_STOP_CFG_MIN_SPEED, tmoMs := d.get F.FIRE_STOP_CFG_STOP_TMO_MS, dist := d.get F.FIRE_BACKSTEP_DIST,
      since := d.raw, host := true, resumeH := false } ∧ ((d.stopTrigger 2).get F.FIRE_IRQ_STAT).testBit 0 = true := by
  simp only [Dev.stopTrigger, if_pos h, Dev.fire_irq]
  exact ⟨rfl, Dev.get_irq_testBit _ _ _ _ _ _ (by decide)⟩

theorem Dev.stopTrigger_host_again {d : Dev} (h : d.fire.stop.st ≠ .run) : (d.stopTrigger 2).fire.stop = { d.fire.stop with host := true, resumeH := false } := by
  simp only [Dev.stopTrigger, if_neg h]

/-! ### Reversing -/

/-- Has the web been slow for 10 ms. -/
def Dev.slowLong (d : Dev) : Bool := match d.fire.stop.slowSince with | some t => decide (t + 10000000 ≤ d.raw) | none => false

/-- The device as it starts to reverse. -/
def Dev.reverse (d : Dev) : Dev :=
  ((d.modStop (fun t => { t with rev := true, x0 := d.pos.x })).stopEnter .reversing).irq F.FIRE_IRQ_STAT F.FIRE_IRQ_EN 1 none

theorem gives_stopReverse (s : State) : Gives .stopReverse s
    (if s.dev.fire.stop.st = .holding ∧ s.dev.allHeld = true ∧ s.dev.slowLong = true ∧ s.dev.fire.stop.dist ≠ 0 then s.dev.reverse else s.dev) := by
  have hrun : exec .stopReverse s = .next { s with dev :=
      if (decide (s.dev.fire.stop.st = .holding) && s.dev.allHeld && s.dev.slowLong && decide (s.dev.fire.stop.dist ≠ 0)) = true then s.dev.reverse else s.dev } := rfl
  simpa only [Gives, Bool.and_eq_true, decide_eq_true_eq, and_assoc] using hrun

theorem Dev.reverse_stop (d : Dev) : d.reverse.fire.stop = { d.fire.stop with st := .reversing, rev := true, x0 := d.pos.x, since := d.raw } := by
  have hmissing : (((d.modStop (fun t => { t with rev := true, x0 := d.pos.x }))).modStop (fun t => { t with st := .reversing, since := d.raw })).drvMissing = false :=
    Dev.drvMissing_of_stopped (by simp [Dev.modStop])
  simp only [Dev.reverse, Dev.fire_irq, Dev.stopEnter]
  exact congrArg FireSt.stop (Dev.drvWatch_keeps hmissing).1

/-! ### Holding every bar (R228, R229) -/

@[simp] theorem Dev.fixed_watchReserve (d e : Dev) : (Dev.watchReserve d e).fixed = e.fixed := by
  have hpred : ∀ l : List Nat, (l.foldl (fun x b => if e.pred b && !d.pred b then
      ((x.bump F.CIS_B_CNT_PRED b).irq F.CIS_IRQ_STAT F.CIS_IRQ_EN b none).stopTrigger 0 else x) e).fixed = e.fixed := fun l =>
    foldl_keeps Dev.fixed _ (fun x b => by split <;> simp) l e
  have hback : ∀ (l : List Nat) (x : Dev), (l.foldl (fun x b => if (e.readAt b).isSome then x.irq F.CIS_IRQ_STAT F.CIS_IRQ_EN (8 + b) none else x) x).fixed = x.fixed :=
    fun l x => foldl_keeps Dev.fixed _ (fun x b => by split <;> simp) l x
  simp only [Dev.watchReserve]
  split
  · rw [hback, hpred]
  · rw [hpred]

theorem Dev.pos_holdBar (d : Dev) (b : Nat) :
    (d.holdBar b).pos = { d.pos with bars := setAt d.pos.bars b (fun x => { x with held := some (d.hwm b), releasing := false }) } := by
  have hjobs : ∀ (e : Dev) (l : Int), (e.restartBar b l).pos = e.pos := fun e l => by
    simp only [Dev.restartBar]
    refine foldl_keeps Dev.pos _ (fun _ _ => ?_) _ _
    rfl
  simp only [Dev.holdBar, Dev.pos_of_fixed (Dev.fixed_watchReserve ..), hjobs]
  rfl

/-- One bar of the hold at the timeout. -/
def Dev.holdIfLoose (d : Dev) (b : Nat) : Dev := if d.heldFast b then d else d.holdBar b

theorem Dev.posBar_holdIfLoose {d : Dev} {b : Nat} (hb : b < d.pos.bars.length) (k : Nat) : (d.holdIfLoose b).posBar k =
    if k = b ∧ d.heldFast b = false then { d.posBar b with held := some (d.hwm b), releasing := false } else d.posBar k := by
  rw [Dev.holdIfLoose]
  by_cases hheld : d.heldFast b = true
  · simp [hheld]
  · rw [if_neg hheld, Dev.posBar, Dev.pos_holdBar]
    simp only [getD_setAt]
    by_cases hk : k = b
    · subst hk; simp [hb, hheld, Dev.posBar]
    · simp [hk, Dev.posBar]

theorem Dev.length_bars_holdIfLoose (d : Dev) (b : Nat) : (d.holdIfLoose b).pos.bars.length = d.pos.bars.length := by
  rw [Dev.holdIfLoose]
  split
  · rfl
  · rw [Dev.pos_holdBar]; exact List.length_modify ..

/-- The first n bars are held: a bar that was not is held at its last issued line. -/
theorem Dev.posBar_foldl_holdIfLoose {d : Dev} {n : Nat} (hn : n ≤ d.pos.bars.length) :
    ((List.range n).foldl Dev.holdIfLoose d).pos.bars.length = d.pos.bars.length ∧
      ∀ k, ((List.range n).foldl Dev.holdIfLoose d).posBar k =
        if k < n ∧ d.heldFast k = false then { d.posBar k with held := some (d.hwm k), releasing := false } else d.posBar k := by
  induction n with
  | zero => exact ⟨rfl, fun k => (if_neg (by omega)).symm⟩
  | succ n ih =>
    obtain ⟨hlen, hbar⟩ := ih (by omega)
    rw [List.range_succ, List.foldl_append, List.foldl_cons, List.foldl_nil]
    generalize (List.range n).foldl Dev.holdIfLoose d = e at hlen hbar
    refine ⟨by rw [Dev.length_bars_holdIfLoose, hlen], fun k => ?_⟩
    have hself : e.posBar n = d.posBar n := by rw [hbar]; simp
    have hfast : e.heldFast n = d.heldFast n := by simp only [Dev.heldFast, hself]
    have hhwm : e.hwm n = d.hwm n := by
      have hwm : ∀ x : Dev, x.hwm n = match (x.posBar n).hwm with | some h => (h : Int) | none => -1 := fun _ => rfl
      rw [hwm, hwm, hself]
    rw [Dev.posBar_holdIfLoose (by omega), hfast, hhwm, hself, hbar]
    by_cases hk : k = n
    · subst hk; simp
    · have : k < n + 1 ↔ k < n := by omega
      simp [hk, this]

/-- The end of the time in HOLDING or REVERSING. -/
def Dev.stopExpired (d : Dev) : Dev := (((List.range 8).foldl Dev.holdIfLoose d).stopEnter .waiting).report 155

theorem gives_stopTimeout (s : State) : Gives .stopTimeout s
    (if (s.dev.fire.stop.st = .holding ∨ s.dev.fire.stop.st = .reversing) ∧ s.dev.fire.stop.since + s.dev.fire.stop.tmoMs * 1000000 ≤ s.dev.raw
      then s.dev.stopExpired else s.dev) := by
  have hrun : exec .stopTimeout s = .next { s with dev :=
      if ((decide (s.dev.fire.stop.st = .holding) || decide (s.dev.fire.stop.st = .reversing)) &&
        decide (s.dev.fire.stop.since + s.dev.fire.stop.tmoMs * 1000000 ≤ s.dev.raw)) = true then s.dev.stopExpired else s.dev } := rfl
  simpa only [Gives, Bool.and_eq_true, Bool.or_eq_true, decide_eq_true_eq] using hrun

/-- At the timeout every bar is held, the sequence waits, and BACKSTEP_SHORT is reported. -/
theorem Dev.stopExpired_spec {d : Dev} (hlen : 8 ≤ d.pos.bars.length) : d.stopExpired.fire.stop.st = .waiting ∧ d.stopExpired.allHeld = true ∧
    (∀ b < 8, d.heldFast b = false → (d.stopExpired.posBar b).held = some (d.hwm b)) ∧ has d.stopExpired.flt.status (fkey 155 0) = true := by
  obtain ⟨-, hbar⟩ := Dev.posBar_foldl_holdIfLoose (d := d) hlen
  simp only [Dev.stopExpired]
  generalize (List.range 8).foldl Dev.holdIfLoose d = e at hbar
  have hmissing : (e.modStop (fun t => { t with st := .waiting, since := e.now })).drvMissing = false := Dev.drvMissing_of_stopped (by simp [Dev.modStop])
  obtain ⟨hfire, -, hpos, -⟩ := Dev.drvWatch_keeps hmissing
  have hwait : (e.stopEnter .waiting).fire.stop.st = .waiting := congrArg (fun f : FireSt => f.stop.st) hfire
  have hbars : ∀ b, ((e.stopEnter .waiting).report 155).posBar b = e.posBar b := fun b => by
    simp only [Dev.posBar, Dev.pos_of_fixed (Dev.fixed_report ..)]
    exact congrArg (fun p : PosSt => p.bars.getD b {}) hpos
  refine ⟨(Dev.stopState_report _ _ (by rw [hwait]; decide)).trans hwait, ?_, fun b hb hloose => ?_, Dev.has_status_report _ _ _ (by decide)⟩
  · simp only [Dev.allHeld, List.all_eq_true, List.mem_range]
    intro b hb
    rw [Dev.heldFast, hbars, hbar]
    by_cases hfast : d.heldFast b = true
    · rw [if_neg (by simp [hfast])]; exact hfast
    · rw [if_pos ⟨hb, Bool.eq_false_iff.mpr hfast⟩]; rfl
  · rw [hbars, hbar, if_pos ⟨hb, hloose⟩]

/-! ### Resuming (R228, R231) -/

/-- WAITING is left. -/
def Dev.letGo (d : Dev) : Dev :=
  (d.modStop (fun t => { t with st := .resuming, rev := false, fired := [], since := d.raw })).modPos
    (fun p => { p with bars := p.bars.map (fun x => { x with releasing := x.held.isSome }) })

theorem gives_stopResume (s : State) : Gives .stopResume s
    (if s.dev.fire.stop.st = .waiting ∧ s.dev.resumable = true then s.dev.letGo.finishResume.drvWatch else s.dev) := by
  have hrun : exec .stopResume s = .next { s with dev :=
      if (decide (s.dev.fire.stop.st = .waiting) && s.dev.resumable) = true then s.dev.letGo.finishResume.drvWatch else s.dev } := rfl
  simpa only [Gives, Bool.and_eq_true, decide_eq_true_eq] using hrun

theorem Dev.releasing_letGo (d : Dev) : ∀ x ∈ d.letGo.pos.bars, x.releasing = x.held.isSome := by
  intro x hx
  obtain ⟨y, -, rfl⟩ := List.mem_map.mp (show x ∈ d.pos.bars.map (fun x => { x with releasing := x.held.isSome }) from hx)
  rfl

/-- Has every bar passed its line or no running job. -/
def Dev.allPassed (d : Dev) : Bool := (List.range 8).all (fun b => has d.fire.stop.fired b || !(d.running.any (fun e => e.2.hasBar b)))

/-- The sequence is back in RUN with its causes clear. -/
def Dev.backToRun (d : Dev) : Dev :=
  (d.modStop (fun t => { t with st := .run, underrun := false, fault := false, host := false, since := d.now, slowSince := none })).irq
    F.FIRE_IRQ_STAT F.FIRE_IRQ_EN 2 none

theorem Dev.finishResume_eq (d : Dev) : d.finishResume =
    if d.fire.stop.st = .resuming ∧ d.allPassed = true then d.backToRun.recheck.drvWatch else d := by
  have hrun : d.finishResume = if (decide (d.fire.stop.st = .resuming) && d.allPassed) = true then d.backToRun.recheck.drvWatch else d := rfl
  simpa only [Bool.and_eq_true, decide_eq_true_eq] using hrun

theorem Dev.allPassed_letGo (d : Dev) : d.letGo.allPassed = true ↔ ∀ e ∈ d.running, ∀ b < 8, e.2.hasBar b = false := by
  have hall : d.letGo.allPassed = (List.range 8).all (fun b => !(d.running.any (fun e => e.2.hasBar b))) := rfl
  simp only [hall, List.all_eq_true, List.mem_range, Bool.not_eq_true', List.any_eq_false, Bool.not_eq_true]
  exact ⟨fun h e he b hb => h b hb e he, fun h b hb e he => h e he b hb⟩

/-- The prediction at the return to RUN may stop the press again; it neither reverses the drive nor moves a bar. -/
theorem Dev.recheck_keeps (d : Dev) : (d.recheck.fire.stop.rev = d.fire.stop.rev ∨ d.recheck.fire.stop.rev = false) ∧ d.recheck.pos = d.pos ∧ d.recheck.pins = d.pins ∧
    ((d.get F.FIRE_IRQ_STAT).testBit 2 = true → (d.recheck.get F.FIRE_IRQ_STAT).testBit 2 = true) := by
  have htrigger : ((d.stopTrigger 0).fire.stop.rev = d.fire.stop.rev ∨ (d.stopTrigger 0).fire.stop.rev = false) ∧
      ((d.get F.FIRE_IRQ_STAT).testBit 2 = true → ((d.stopTrigger 0).get F.FIRE_IRQ_STAT).testBit 2 = true) := by
    simp only [Dev.stopTrigger]
    split
    · refine ⟨.inr rfl, fun h => ?_⟩
      have hget : ∀ e : Dev, e.regs = d.regs → ((e.irq F.FIRE_IRQ_STAT F.FIRE_IRQ_EN 0 none).get F.FIRE_IRQ_STAT).testBit 2 = true := fun e he => by
        rw [Dev.get_irq, Dev.raiseBit, Dev.get_set_self, show e.get F.FIRE_IRQ_STAT = d.get F.FIRE_IRQ_STAT by simp only [Dev.get, he]]
        simp [Nat.testBit_mod_two_pow, h]
        decide
      exact hget _ rfl
    · exact ⟨.inl rfl, id⟩
  simp only [Dev.recheck]
  split
  · exact ⟨htrigger.1, Dev.pos_of_fixed (Dev.fixed_stopTrigger ..), Dev.pins_of_fixed (Dev.fixed_stopTrigger ..), htrigger.2⟩
  · exact ⟨.inl rfl, rfl, rfl, id⟩

/-- The return to RUN at once, where no running job keeps a bar. -/
theorem Dev.letGo_runs {d : Dev} (hready : d.pins.drvReady = true) (hnone : ∀ e ∈ d.running, ∀ b < 8, e.2.hasBar b = false) :
    d.letGo.finishResume.drvWatch.fire.stop.rev = false ∧ (d.letGo.finishResume.drvWatch.get F.FIRE_IRQ_STAT).testBit 2 = true ∧
      ∀ x ∈ d.letGo.finishResume.drvWatch.pos.bars, x.releasing = x.held.isSome := by
  obtain ⟨e, he⟩ : ∃ e, e = d.letGo.backToRun := ⟨_, rfl⟩
  have hfinish : d.letGo.finishResume = e.recheck.drvWatch := by
    rw [Dev.finishResume_eq, if_pos ⟨rfl, (Dev.allPassed_letGo d).mpr hnone⟩, he]
  have hrev : e.fire.stop.rev = false := by rw [he, Dev.backToRun, Dev.fire_irq]; rfl
  have hbit : (e.get F.FIRE_IRQ_STAT).testBit 2 = true := by rw [he]; exact Dev.get_irq_testBit _ _ _ _ _ _ (by decide)
  have hpos : e.pos = d.letGo.pos := by rw [he]; rfl
  have hpins : e.pins = d.pins := by rw [he]; rfl
  obtain ⟨rrev, rpos, rpins, rbit⟩ := e.recheck_keeps
  have hmiss : e.recheck.drvMissing = false := Dev.drvMissing_of_ready (by rw [rpins, hpins, hready])
  obtain ⟨f1, r1, p1, q1⟩ := Dev.drvWatch_keeps hmiss
  have hmiss2 : e.recheck.drvWatch.drvMissing = false := Dev.drvMissing_of_ready (by rw [q1, rpins, hpins, hready])
  obtain ⟨f2, r2, p2, -⟩ := Dev.drvWatch_keeps hmiss2
  rw [hfinish]
  refine ⟨?_, ?_, ?_⟩
  · rw [f2, f1]; exact rrev.elim (fun h => h.trans hrev) id
  · simp only [Dev.get, r2, r1]; exact rbit hbit
  · rw [p2, p1, rpos, hpos]; exact d.releasing_letGo

/-- Settles O57: the two commands, the reversal, the timeout and the release, each with the states in which it does nothing. -/
theorem stopSequenceRuns : Obligations.StopSequenceRuns := by
  refine ⟨fun rq s h => ⟨fun hrun => ?_, fun hrun => ?_, exec_fireResume h⟩, fun s hst hall hdist => ⟨fun t ht => ⟨fun hlate => ?_, fun hearly => ?_⟩, fun hnone => ?_⟩,
    fun s hor => ?_, fun s => ⟨fun hst => ⟨fun hdue hlen => ?_, fun hearly => ?_⟩, fun h1 h2 => ?_⟩, fun s => ⟨fun hor => ?_, fun hst hres => ⟨?_, fun hnone => ?_⟩⟩⟩
  · obtain ⟨hstop, hbit⟩ := Dev.stopTrigger_host hrun
    obtain ⟨hfire, hregs, -, -⟩ := Dev.drvWatch_keeps (d := s.dev.stopTrigger 2) (Dev.drvMissing_of_stopped (by rw [hstop]; simp))
    have hwatch : (s.dev.stopTrigger 2).drvWatch.fire.stop = _ := (congrArg FireSt.stop hfire).trans hstop
    refine ⟨_, exec_fireStop h, ?_⟩
    simp only [Dev.drvHold, hwatch, Dev.get, hregs]
    exact ⟨trivial, trivial, rfl, trivial, trivial, trivial, hbit⟩
  · have hstop := Dev.stopTrigger_host_again hrun
    have hfire := (Dev.drvWatch_keeps (d := s.dev.stopTrigger 2) (Dev.drvMissing_of_stopped (by rw [hstop]; exact hrun))).1
    exact ⟨_, exec_fireStop h, (congrArg FireSt.stop hfire).trans hstop⟩
  · have hslow : s.dev.slowLong = true := by simp only [Dev.slowLong, ht]; exact decide_eq_true hlate
    exact ⟨_, gives_of_pos (gives_stopReverse s) ⟨hst, hall, hslow, hdist⟩, Dev.reverse_stop _, Dev.get_irq_testBit _ _ _ _ _ _ (by decide)⟩
  · have hslow : s.dev.slowLong ≠ true := by simp only [Dev.slowLong, ht, ne_eq, decide_eq_true_eq]; omega
    exact gives_of_neg (gives_stopReverse s) (fun h => hslow h.2.2.1)
  · have hslow : s.dev.slowLong ≠ true := by simp [Dev.slowLong, hnone]
    exact gives_of_neg (gives_stopReverse s) (fun h => hslow h.2.2.1)
  · refine gives_of_neg (gives_stopReverse s) (fun h => ?_)
    obtain ⟨h1, h2, -, h4⟩ := h
    rcases hor with hor | hor | hor
    · exact hor h1
    · rw [hor] at h2; cases h2
    · exact h4 hor
  · exact ⟨_, gives_of_pos (gives_stopTimeout s) ⟨hst, hdue⟩, Dev.stopExpired_spec hlen⟩
  · exact gives_of_neg (gives_stopTimeout s) (fun h => by omega)
  · exact gives_of_neg (gives_stopTimeout s) (fun h => h.1.elim h1 h2)
  · refine gives_of_neg (gives_stopResume s) (fun h => ?_)
    rcases hor with hor | hor
    · exact hor h.1
    · rw [hor] at h; exact absurd h.2 (by decide)
  · rintro ⟨e, he, b, hb, hbar⟩
    have hstay : s.dev.letGo.finishResume = s.dev.letGo := by
      rw [Dev.finishResume_eq, if_neg]
      rintro ⟨-, hpassed⟩
      rw [(Dev.allPassed_letGo _).mp hpassed e he b hb] at hbar
      cases hbar
    obtain ⟨hfire, -, hpos, -⟩ := Dev.drvWatch_keeps (d := s.dev.letGo) (Dev.drvMissing_of_stopped (by simp [Dev.letGo, Dev.modStop, Dev.modPos]))
    have hgives := gives_stopResume s
    rw [if_pos ⟨hst, hres⟩, hstay] at hgives
    exact ⟨_, hgives, by rw [hfire]; rfl, by rw [hfire]; rfl, by rw [hpos]; exact Dev.releasing_letGo _⟩
  · have hready : s.dev.pins.drvReady = true := by
      simp only [Dev.resumable, Bool.and_eq_true] at hres
      exact hres.1.2
    have hgives := gives_stopResume s
    rw [if_pos ⟨hst, hres⟩] at hgives
    exact ⟨_, hgives, Dev.letGo_runs hready hnone⟩

end Sys2Proof.Machine
end


section
/-! PROOF. The inputs of the line scheduler (R223, R231, R404), the speed request (R213) and a bar's counts (R235). -/

namespace Sys2Proof.Machine

/-! ### The end of a report -/

theorem Dev.det_unreport (d : Dev) (src inst : Nat) : has (d.unreport src inst).flt.det (fkey src inst) = false := by
  simp only [Dev.unreport, Dev.noteFall]
  split <;> exact has_removeAll_self ..

theorem Dev.status_unreport (d : Dev) (src inst : Nat) : (d.unreport src inst).flt.status = d.flt.status := by
  simp only [Dev.unreport, Dev.noteFall]
  split <;> rfl

/-! ### The inputs -/

theorem gives_ilkHeadInput {s : State} (hon : s.dev.pwr.st = .on) (high : Bool) : Gives (.ilkHeadInput high) s
    ((Dev.settle s.dev { s.dev with pins := { s.dev.pins with ilkHead := high } }).reportLevel 56 0 high) := by
  simp only [Gives, exec, execIlkHeadInput, State.onDev]
  rw [if_pos hon]

theorem gives_drvReadyInput {s : State} (hon : s.dev.pwr.st = .on) (high : Bool) : Gives (.drvReadyInput high) s
    ({ s.dev with pins := { s.dev.pins with drvReady := high } } : Dev).drvWatch := by
  simp only [Gives, exec, execDrvReadyInput, State.onDev]
  rw [if_pos hon]

theorem Dev.fixed_drvWatch (d : Dev) : d.drvWatch.fixed = d.fixed := by
  simp only [Dev.drvWatch]
  split <;> simp

/-- Without its condition the drive's report has ended. -/
theorem Dev.det_drvWatch {d : Dev} (h : d.drvMissing = false) : has d.drvWatch.flt.det (fkey 58 0) = false := by
  rw [Dev.drvWatch_of_not_missing h]
  exact Dev.det_unreport ..

/-- With it, DRV_NOT_READY's status is set. -/
theorem Dev.status_drvWatch {d : Dev} (h : d.drvMissing = true) : has d.drvWatch.flt.status (fkey 58 0) = true := by
  have hreport : has (d.report 58 0).flt.status (fkey 58 0) = true := Dev.has_status_report _ _ _ (by decide)
  simp only [Dev.drvWatch, Dev.reportLevel, h, if_true]
  split
  · exact hreport
  · rw [Dev.status_unreport]; exact hreport

theorem ilkHeadInput_opens {s : State} (hon : s.dev.pwr.st = .on) : Completes (.ilkHeadInput true) s
    (fun d => d.pins = { s.dev.pins with ilkHead := true } ∧ d.gateOpen = false ∧ has d.flt.status (fkey 56 0) = true) := by
  have hpins : ((Dev.settle s.dev { s.dev with pins := { s.dev.pins with ilkHead := true } }).report 56).pins = { s.dev.pins with ilkHead := true } :=
    (Dev.pins_of_fixed (Dev.fixed_report ..)).trans (Dev.settle_pins ..)
  refine ⟨_, gives_ilkHeadInput hon true, hpins, ?_, Dev.has_status_report _ _ _ (by decide)⟩
  simp [Dev.reportLevel, Dev.gateOpen, hpins]

theorem ilkHeadInput_closes {s : State} (hon : s.dev.pwr.st = .on) : Completes (.ilkHeadInput false) s
    (fun d => d.pins = { s.dev.pins with ilkHead := false } ∧ has d.flt.det (fkey 56 0) = false) :=
  ⟨_, gives_ilkHeadInput hon false, (Dev.pins_of_fixed (Dev.fixed_unreport ..)).trans (Dev.settle_pins ..), Dev.det_unreport ..⟩

theorem drvReadyInput_quiet {s : State} (hon : s.dev.pwr.st = .on) {high : Bool} (h : high = true ∨ s.dev.fire.stop.st ≠ .run ∨ s.dev.running = []) :
    Completes (.drvReadyInput high) s (fun d => d.pins = { s.dev.pins with drvReady := high } ∧ has d.flt.det (fkey 58 0) = false) := by
  have hmissing : ({ s.dev with pins := { s.dev.pins with drvReady := high } } : Dev).drvMissing = false := by
    rcases h with rfl | h | h
    · exact Dev.drvMissing_of_ready rfl
    · exact Dev.drvMissing_of_stopped h
    · simp only [Dev.drvMissing, Dev.running, Dev.jobsIn] at h ⊢
      simp [h]
  exact ⟨_, gives_drvReadyInput hon high, Dev.pins_of_fixed (Dev.fixed_drvWatch _), Dev.det_drvWatch hmissing⟩

theorem drvReadyInput_missing {s : State} (hon : s.dev.pwr.st = .on) (hst : s.dev.fire.stop.st = .run) (hrun : s.dev.running ≠ []) :
    Completes (.drvReadyInput false) s (fun d => d.pins = { s.dev.pins with drvReady := false } ∧ has d.flt.status (fkey 58 0) = true) := by
  have hmissing : ({ s.dev with pins := { s.dev.pins with drvReady := false } } : Dev).drvMissing = true := by
    simp only [Dev.drvMissing, Dev.running, Dev.jobsIn] at hrun ⊢
    simp [hst, hrun]
  exact ⟨_, gives_drvReadyInput hon false, Dev.pins_of_fixed (Dev.fixed_drvWatch _), Dev.status_drvWatch hmissing⟩

/-! ### The speed request (R213) -/

/-- |POS_SPEED| × n against a part of a job's FIRE_RATE_MAX. -/
def Dev.atRate (d : Dev) (pct : Nat) (j : Job) : Bool := pct * j.geo.rateMax * 25400 ≤ d.pos.speed.natAbs * j.ctx.lpi * 100

theorem gives_speedLimitCheck (s : State) : Gives .speedLimitCheck s { s.dev with fire := { s.dev.fire with
    speedLim := s.dev.running.any (fun e => s.dev.atRate s.dev.fire.warnPct e.2) ||
      (s.dev.fire.speedLim && s.dev.running.any (fun e => s.dev.atRate (s.dev.fire.warnPct - 2) e.2)) } } := by
  have hlow : ∀ l : List (Nat × Job), (!l.all (fun e => decide (s.dev.pos.speed.natAbs * e.2.ctx.lpi * 100 < (s.dev.fire.warnPct - 2) * e.2.geo.rateMax * 25400))) =
      l.any (fun e => s.dev.atRate (s.dev.fire.warnPct - 2) e.2) := fun l => by
    simp only [List.not_all_eq_any_not, Dev.atRate, ← decide_not, Nat.not_lt]
  simp only [Gives, exec, execSpeedLimitCheck, State.onDev]
  rw [hlow]
  rfl

theorem Dev.atRate_any {d : Dev} {pct : Nat} {l : List (Nat × Job)} :
    (l.any (fun e => d.atRate pct e.2) = true ↔ ∃ e ∈ l, pct * e.2.geo.rateMax * 25400 ≤ d.pos.speed.natAbs * e.2.ctx.lpi * 100) ∧
    (l.any (fun e => d.atRate pct e.2) = false ↔ ∀ e ∈ l, d.pos.speed.natAbs * e.2.ctx.lpi * 100 < pct * e.2.geo.rateMax * 25400) := by
  constructor
  · simp only [List.any_eq_true, Dev.atRate, decide_eq_true_eq]
  · simp only [List.any_eq_false, Dev.atRate, decide_eq_true_eq, Nat.not_le]

/-! ### The counts (R235) -/

theorem exec_fireCountClear {rq : Requester} {b : Bar} {s : State} (h : s.Ready rq 0) :
    Gives (.fireCountClear rq b) s ((s.dev.set F.FIRE_B_CNT_DROPPED 0 b.val).set F.FIRE_B_CNT_DEFERRED 0 b.val) := by
  simp only [Gives, exec, execFireCountClear]
  rw [State.row_none h _ _ _ _ _ (by revert b; decide) (by revert b; cases rq <;> decide +kernel) (by decide) (by decide) (by decide)]
  rfl

theorem exec_fireCount2Clear {rq : Requester} {b : Bar} {s : State} (h : s.Ready rq 0) :
    Gives (.fireCount2Clear rq b) s ((s.dev.set F.FIRE_B_CNT2_RESUME_SLOW 0 b.val).set F.FIRE_B_CNT2_SUPPRESSED 0 b.val) := by
  simp only [Gives, exec, execFireCount2Clear]
  rw [State.row_none h _ _ _ _ _ (by revert b; decide) (by revert b; cases rq <;> decide +kernel) (by decide) (by decide) (by decide)]
  rfl

/-- Settles O58: the two inputs with and without power, the three zones of the speed request, and the two clears. -/
theorem fireInputsActs : Obligations.FireInputsActs := by
  refine ⟨fun s hon => ⟨ilkHeadInput_opens hon, ilkHeadInput_closes hon, drvReadyInput_quiet hon (.inl rfl), drvReadyInput_missing hon,
    fun h => drvReadyInput_quiet hon (.inr h)⟩, fun s high hoff => ⟨?_, ?_⟩, fun s w f hw hf => ?_, fun rq b s h => ⟨exec_fireCountClear h, exec_fireCount2Clear h⟩⟩
  · simp only [Gives, exec, execIlkHeadInput, State.onDev]
    rw [if_neg hoff]
  · simp only [Gives, exec, execDrvReadyInput, State.onDev]
    rw [if_neg hoff]
  · have hgives := gives_speedLimitCheck s
    simp only [hw, hf]
    refine ⟨fun h => ?_, fun h1 h2 => ?_, fun h1 h2 => ?_⟩
    · rwa [Dev.atRate_any.1.mpr h, Bool.true_or] at hgives
    · rwa [Dev.atRate_any.2.mpr h1, Dev.atRate_any.2.mpr h2, Bool.and_false, Bool.or_false] at hgives
    · rwa [Dev.atRate_any.2.mpr h1, Dev.atRate_any.1.mpr h2, Bool.and_true, Bool.false_or] at hgives

end Sys2Proof.Machine
end


section
/-! PROOF. Register writes to a word of several fields (R5, R8, R11, R58): what the stored fields take, and the row's action behind them. -/

namespace Sys2Proof.Machine

/-! ### The stored fields of a word -/

/-- A place of a field in a word: the field, its indexes and its part. -/
abbrev FieldPart := Field × Nat × Nat × Nat

/-- The fields of a word that a write stores are these. -/
abbrev StoredAt (a : Nat) (L : List FieldPart) : Prop := (fieldsAt a).filter (fun x => x.1.stores) = L

/-- Fields with no rule of their own for who may write them. -/
abbrev Field.ordinary (f : Field) : Prop := f ≠ F.ROLE_KEY_NEW ∧ f ≠ F.ROLE_KEY_CTRL_TARGET ∧ f ≠ F.FLT_SRC_CLASS

/-- Every stored field of a word is ordinary, and its role is held. -/
def Dev.Permits (d : Dev) (rq : Requester) (L : List FieldPart) : Prop := ∀ x ∈ L, x.1.ordinary ∧ d.may rq x.1.role = true

/-- The fields of a word after a write, one after the other. -/
def Dev.storeFields (d : Dev) (w : Nat) (L : List FieldPart) : Dev := L.foldl (fun e x => e.storeField x.1 x.2.1 x.2.2.1 x.2.2.2 w) d

theorem any_of_storedAt {a : Nat} {L : List FieldPart} (h : StoredAt a L) (p : FieldPart → Bool) (hp : ∀ x, p x = true → x.1.stores = true) :
    (fieldsAt a).any p = L.any p := by
  rw [← h, Bool.eq_iff_iff, List.any_eq_true, List.any_eq_true]
  exact ⟨fun ⟨x, hx, hpx⟩ => ⟨x, List.mem_filter.mpr ⟨hx, hp x hpx⟩, hpx⟩, fun ⟨x, hx, hpx⟩ => ⟨x, (List.mem_filter.mp hx).1, hpx⟩⟩

theorem Dev.takes_of_permits {d : Dev} {rq : Requester} {a : Nat} {L : List FieldPart} (h : StoredAt a L) (hL : d.Permits rq L) (w : Nat) {x : FieldPart} (hx : x ∈ L) :
    d.takes rq w x = true := by
  obtain ⟨hord, hmay⟩ := hL x hx
  have hst : x.1.stores = true := by rw [← h] at hx; exact (List.mem_filter.mp hx).2
  simp [Dev.takes, Dev.mayField_of hord, hst, hord.2.2, hmay]

/-- A permitted write stores every field of the word, and the page's dependent fields are clamped again. -/
theorem Dev.storeWord_norm {d : Dev} {rq : Requester} {a : Nat} {L : List FieldPart} (h : StoredAt a L) (hL : d.Permits rq L) (hne : L ≠ []) (w : Nat) :
    d.storeWord rq a w = (d.storeFields w L).normPage a := by
  have htakes : ∀ x ∈ fieldsAt a, d.takes rq w x = x.1.stores := fun x hx => by
    by_cases hst : x.1.stores = true
    · exact (Dev.takes_of_permits h hL w (h ▸ List.mem_filter.mpr ⟨hx, hst⟩)).trans hst.symm
    · simp [Dev.takes, hst]
  have hany : (fieldsAt a).any (d.takes rq w) = true := by
    obtain ⟨x, hx⟩ := List.exists_mem_of_ne_nil L hne
    exact List.any_eq_true.mpr ⟨x, (List.mem_filter.mp (h.symm ▸ hx)).1, Dev.takes_of_permits h hL w hx⟩
  have hfold : ∀ (l : List FieldPart) (e : Dev), (∀ x ∈ l, d.takes rq w x = x.1.stores) →
      l.foldl (fun (e : Dev) x => if d.takes rq w x then e.storeField x.1 x.2.1 x.2.2.1 x.2.2.2 w else e) e = e.storeFields w (l.filter (fun x => x.1.stores)) := fun l => by
    induction l with
    | nil => exact fun _ _ => rfl
    | cons x l ih =>
      intro e hl
      rw [List.foldl_cons, ih _ (fun y hy => hl y (List.mem_cons_of_mem x hy)), hl x List.mem_cons_self]
      by_cases hst : x.1.stores = true
      · simp only [hst, if_true, List.filter_cons]; rfl
      · simp only [hst, if_false, List.filter_cons, Bool.false_eq_true]
  rw [Dev.storeWord, if_pos hany, hfold _ _ htakes, h]

/-- A permitted write on a page without dependent fields stores every field of the word. -/
theorem Dev.storeWord_of {d : Dev} {rq : Requester} {a : Nat} {L : List FieldPart} (h : StoredAt a L) (hL : d.Permits rq L) (hne : L ≠ []) (w : Nat)
    (hn : ∀ e : Dev, e.normPage a = e) : d.storeWord rq a w = d.storeFields w L := (Dev.storeWord_norm h hL hne w).trans (hn _)

/-! ### A permitted write -/

section
variable {s : State} {rq : Requester} {addr w : Nat} {acts : List Act} {L : List FieldPart}

/-- What a permitted write refuses, needs and records. -/
theorem Dev.write_flags (h : StoredAt (canonAddr rq addr) L) (hL : s.dev.Permits rq L) (ha : ∀ y ∈ acts, s.dev.may rq y.role = true) :
    s.dev.refuses rq (canonAddr rq addr) w acts = false ∧
      s.dev.rightful rq (canonAddr rq addr) w acts = (L.any (fun x => auditedRole x.1.role) || acts.any (fun y => w.testBit y.bit && auditedRole y.role)) ∧
      s.dev.audited rq (canonAddr rq addr) w acts =
        (L.any (fun x => auditedRole x.1.role && !silentField x.1) || acts.any (fun y => w.testBit y.bit && auditedRole y.role)) := by
  have htakes : ∀ x ∈ L, s.dev.takes rq w x = true := fun x hx => Dev.takes_of_permits h hL w hx
  have hstores : ∀ x, s.dev.takes rq w x = true → x.1.stores = true := fun x hx => by
    simp only [Dev.takes, Bool.and_eq_true] at hx; exact hx.1.1
  have hacts : acts.any (fun y => w.testBit y.bit && auditedRole y.role && s.dev.may rq y.role) = acts.any (fun y => w.testBit y.bit && auditedRole y.role) := by
    rw [Bool.eq_iff_iff, List.any_eq_true, List.any_eq_true]
    refine exists_congr fun y => and_congr_right fun hy => ?_
    rw [ha y hy, Bool.and_true]
  refine ⟨?_, ?_, ?_⟩
  · rw [Dev.refuses, Bool.or_eq_false_iff, any_of_storedAt h _ (fun x hx => by simp only [Bool.and_eq_true] at hx; exact hx.1)]
    refine ⟨List.any_eq_false.mpr fun x hx => ?_, List.any_eq_false.mpr fun y hy => by simp [ha y hy]⟩
    obtain ⟨hord, hmay⟩ := hL x hx
    simp [Dev.mayField_of hord, hmay]
  · rw [Dev.rightful, hacts, any_of_storedAt h _ (fun x hx => by simp only [Bool.and_eq_true] at hx; exact hstores x hx.1.1)]
    congr 1
    rw [Bool.eq_iff_iff, List.any_eq_true, List.any_eq_true]
    refine exists_congr fun x => and_congr_right fun hx => ?_
    rw [htakes x hx, (hL x hx).2, Bool.true_and, Bool.and_true]
  · rw [Dev.audited, hacts, any_of_storedAt h _ (fun x hx => by simp only [Bool.and_eq_true] at hx; exact hstores x hx.1.1)]
    congr 1
    rw [Bool.eq_iff_iff, List.any_eq_true, List.any_eq_true]
    refine exists_congr fun x => and_congr_right fun hx => ?_
    rw [htakes x hx, Bool.true_and]

/-- A write that needs no INSTALLER role stores its fields and nothing else. -/
theorem State.write_fields (hp : inPages addr = true) (ho : s.PagesOpen) (h : StoredAt (canonAddr rq addr) L) (hL : s.dev.Permits rq L) (hne : L ≠ [])
    (ha : ∀ y ∈ acts, s.dev.may rq y.role = true) (hn : ∀ e : Dev, e.normPage (canonAddr rq addr) = e)
    (hplain : (L.all (fun x => !auditedRole x.1.role) && acts.all (fun y => !auditedRole y.role)) = true) :
    s.write rq addr w acts = s.onDev (fun d => d.storeFields w L) := by
  obtain ⟨href, hright, haud⟩ := Dev.write_flags (w := w) h hL ha
  simp only [Bool.and_eq_true, List.all_eq_true, Bool.not_eq_true'] at hplain
  have hacts : acts.any (fun y => w.testBit y.bit && auditedRole y.role) = false := List.any_eq_false.mpr fun y hy => by simp [hplain.2 y hy]
  have hfields : L.any (fun x => auditedRole x.1.role) = false := List.any_eq_false.mpr fun x hx => by simp [hplain.1 x hx]
  have hsilent : L.any (fun x => auditedRole x.1.role && !silentField x.1) = false := List.any_eq_false.mpr fun x hx => by simp [hplain.1 x hx]
  rw [hfields, hacts] at hright
  rw [hsilent, hacts] at haud
  simp [State.write, hp, Dev.pageOpen_of ho.1 ho.2, Dev.writeWord, href, hright, haud, Dev.storeWord_of h hL hne w hn]
  rfl

/-- A write that needs INSTALLER or MAKER stores its word, starts the idle timer again and leaves one audit entry. -/
theorem State.write_word_audited (hp : inPages addr = true) (ho : s.PagesOpen) (h : StoredAt (canonAddr rq addr) L) (hL : s.dev.Permits rq L)
    (ha : ∀ y ∈ acts, s.dev.may rq y.role = true)
    (haudit : (L.any (fun x => auditedRole x.1.role && !silentField x.1) || acts.any (fun y => w.testBit y.bit && auditedRole y.role)) = true) :
    ∃ old new, s.write rq addr w acts =
      (s.onDev (fun d => (d.storeWord rq (canonAddr rq addr) w).touch rq)).pushAudit (some rq) (s.dev.entry rq addr old new) := by
  obtain ⟨href, hright, haud⟩ := Dev.write_flags (w := w) h hL ha
  rw [haudit] at haud
  have hright' : s.dev.rightful rq (canonAddr rq addr) w acts = true := by
    rw [hright, Bool.or_eq_true]
    rcases Bool.or_eq_true _ _ ▸ haudit with hx | hy
    · obtain ⟨x, hx, hax⟩ := List.any_eq_true.mp hx
      exact .inl (List.any_eq_true.mpr ⟨x, hx, (Bool.and_eq_true _ _ ▸ hax).1⟩)
    · exact .inr hy
  refine ⟨s.dev.word (canonAddr rq addr), ((s.dev.storeWord rq (canonAddr rq addr) w).touch rq).word (canonAddr rq addr), ?_⟩
  simp [State.write, hp, Dev.pageOpen_of ho.1 ho.2, Dev.writeWord, href, hright', haud]
  rfl

/-- The same on a page without dependent fields. -/
theorem State.write_fields_audited (hp : inPages addr = true) (ho : s.PagesOpen) (h : StoredAt (canonAddr rq addr) L) (hL : s.dev.Permits rq L) (hne : L ≠ [])
    (ha : ∀ y ∈ acts, s.dev.may rq y.role = true) (hn : ∀ e : Dev, e.normPage (canonAddr rq addr) = e)
    (haudit : (L.any (fun x => auditedRole x.1.role && !silentField x.1) || acts.any (fun y => w.testBit y.bit && auditedRole y.role)) = true) :
    ∃ old new, s.write rq addr w acts = (s.onDev (fun d => (d.storeFields w L).touch rq)).pushAudit (some rq) (s.dev.entry rq addr old new) := by
  obtain ⟨old, new, hw⟩ := State.write_word_audited hp ho h hL ha haudit
  refine ⟨old, new, ?_⟩
  rw [hw, State.onDev, Dev.storeWord_of h hL hne w hn]
  rfl

end

/-! ### A row with stored fields and an action -/

section
variable {s : State} {rq : Requester} {r : Nat} {addr w : Nat} {act : Act} {L : List FieldPart}

/-- Fields whose roles lie at or below a requester's are permitted. -/
theorem Dev.permits_of {d : Dev} (hr : r ≤ d.rights rq)
    (h : ∀ x ∈ L, x.1.ordinary ∧ (match x.1.role with | none => true | some y => decide (y.code ≤ r)) = true) : d.Permits rq L := fun x hx => by
  obtain ⟨hord, hrole⟩ := h x hx
  refine ⟨hord, ?_⟩
  cases hx : x.1.role with
  | none => rfl
  | some y => rw [hx] at hrole; exact Dev.may_of ((of_decide_eq_true hrole).trans hr)

/-- A row that needs no INSTALLER role: the fields, then the action. -/
theorem State.row_fields (h : s.Ready rq r) (cmd : Instr) (f : Dev → Dev) (hp : inPages addr = true) (hL : StoredAt (canonAddr rq addr) L) (hne : L ≠ [])
    (hroles : ∀ x ∈ L, x.1.ordinary ∧ (match x.1.role with | none => true | some y => decide (y.code ≤ r)) = true)
    (hact : (match act.role with | none => true | some x => decide (x.code ≤ r)) = true) (hb : w.testBit act.bit = true)
    (hn : ∀ e : Dev, e.normPage (canonAddr rq addr) = e) (hplain : (L.all (fun x => !auditedRole x.1.role) && !auditedRole act.role) = true) :
    s.row rq cmd addr w act f = s.onDev (fun d => f (d.storeFields w L)) := by
  have hw := State.write_fields (acts := [act]) (w := w) hp h.1 hL (Dev.permits_of h.2.2 hroles) hne
    (fun y hy => by
      rw [List.mem_singleton.mp hy]
      cases hx : act.role with
      | none => rfl
      | some x => rw [hx] at hact; exact Dev.may_of ((of_decide_eq_true hact).trans h.2.2)) hn (by simpa using hplain)
  rw [State.row, State.gate_run h.2.1 _ _ _ _ _ _ _ (by omega)]
  simp only [State.acts_of h addr w act hb hact, hw, if_true]
  rfl

/-- A row that needs INSTALLER or MAKER: the fields, the idle timer, one audit entry, then the action. -/
theorem State.row_fields_audited (h : s.Ready rq r) (cmd : Instr) (f : Dev → Dev) (hp : inPages addr = true) (hL : StoredAt (canonAddr rq addr) L) (hne : L ≠ [])
    (hroles : ∀ x ∈ L, x.1.ordinary ∧ (match x.1.role with | none => true | some y => decide (y.code ≤ r)) = true)
    (hact : (match act.role with | none => true | some x => decide (x.code ≤ r)) = true) (hb : w.testBit act.bit = true)
    (hn : ∀ e : Dev, e.normPage (canonAddr rq addr) = e)
    (haudit : (L.any (fun x => auditedRole x.1.role && !silentField x.1) || auditedRole act.role) = true) :
    ∃ old new, s.row rq cmd addr w act f =
      ((s.onDev (fun d => (d.storeFields w L).touch rq)).pushAudit (some rq) (s.dev.entry rq addr old new)).onDev f := by
  obtain ⟨old, new, hw⟩ := State.write_fields_audited (acts := [act]) (w := w) hp h.1 hL (Dev.permits_of h.2.2 hroles) hne
    (fun y hy => by
      rw [List.mem_singleton.mp hy]
      cases hx : act.role with
      | none => rfl
      | some x => rw [hx] at hact; exact Dev.may_of ((of_decide_eq_true hact).trans h.2.2)) hn (by simpa [hb] using haudit)
  refine ⟨old, new, ?_⟩
  rw [State.row, State.gate_run h.2.1 _ _ _ _ _ _ _ (by omega)]
  simp only [State.acts_of h addr w act hb hact, hw, if_true]

end

end Sys2Proof.Machine
end


section
/-! PROOF. The commits of the head map (R162, R163) and of a waveform set (R214, R216, R218). -/

namespace Sys2Proof.Machine

/-! ### A write whose entry has a content of its own -/

/-- The content that a rule gives the entry changes nothing else of the write. -/
theorem State.write_own {s : State} {rq : Requester} {addr w : Nat} {acts : List Act} {f : Dev → Dev} {old new : Nat}
    (h : s.write rq addr w acts = (s.onDev f).pushAudit (some rq) (s.dev.entry rq addr old new)) (own : Option (Nat × Nat)) :
    ∃ old new, s.write rq addr w acts own = (s.onDev f).pushAudit (some rq) (s.dev.entry rq addr old new) := by
  simp only [State.write] at h ⊢
  split at h
  · next hc =>
    have hdev : s.dev.writeWord rq addr w acts = f s.dev := congrArg State.dev h
    rw [if_pos hc, hdev]
    exact ⟨(own.getD (s.dev.word (canonAddr rq addr), (f s.dev).word (canonAddr rq addr))).1,
      (own.getD (s.dev.word (canonAddr rq addr), (f s.dev).word (canonAddr rq addr))).2, rfl⟩
  · have hlen := congrArg (fun t : State => t.audit.queue.length) h
    simp [State.pushAudit] at hlen

/-! ### Cask words of which the copies reach far enough -/

theorem Dev.cask_setCask_of {d : Dev} {n m : Nat} (hn : n < m) (h0 : m ≤ d.bond.cask0.length) (h1 : m ≤ d.bond.cask1.length) (h2 : m ≤ d.bond.cask2.length) (v k : Nat) :
    (d.setCask n v).cask k = if k = n then v % 2 ^ 32 else d.cask k := by
  simp only [Dev.cask, Dev.setCask, Dev.mramWrote, Dev.bump_bond, getD_setAt]
  by_cases hk : k = n
  · subst hk
    simp [Nat.lt_of_lt_of_le hn h0, Nat.lt_of_lt_of_le hn h1, Nat.lt_of_lt_of_le hn h2, majority_self]
  · simp [hk]

/-- The copies of d's cask words have at least m words. -/
def Dev.CasksReach (d : Dev) (m : Nat) : Prop := m ≤ d.bond.cask0.length ∧ m ≤ d.bond.cask1.length ∧ m ≤ d.bond.cask2.length

theorem Dev.casksReach_setCask {d : Dev} {m : Nat} (h : d.CasksReach m) (n v : Nat) : (d.setCask n v).CasksReach m := by
  simpa [Dev.CasksReach, Dev.setCask, Dev.mramWrote, setAt] using h

/-- The first words of the cask, written one after the other. -/
theorem Dev.cask_setCasks_zero {d : Dev} {vs : List Nat} (h : d.CasksReach vs.length) {k : Nat} (hk : k < vs.length) :
    (d.setCasks 0 vs).cask k = vs.getD k 0 % 2 ^ 32 := by
  have hfold : ∀ m ≤ vs.length, ((List.range m).foldl (fun d k => d.setCask (0 + k) (vs.getD k 0)) d).CasksReach vs.length ∧
      ∀ k < m, ((List.range m).foldl (fun d k => d.setCask (0 + k) (vs.getD k 0)) d).cask k = vs.getD k 0 % 2 ^ 32 := fun m => by
    induction m with
    | zero => exact fun _ => ⟨h, fun k hk => absurd hk (Nat.not_lt_zero k)⟩
    | succ m ih =>
      intro hm
      obtain ⟨hr, hc⟩ := ih (by omega)
      rw [List.range_succ, List.foldl_append, List.foldl_cons, List.foldl_nil]
      refine ⟨Dev.casksReach_setCask hr _ _, fun k hk => ?_⟩
      rw [Dev.cask_setCask_of (m := vs.length) (by omega) hr.1 hr.2.1 hr.2.2, Nat.zero_add]
      split
      · next he => rw [he]
      · exact hc k (by omega)
  exact (hfold vs.length le_rfl).2 k hk

theorem Dev.casksReach_voteCask {d : Dev} {m : Nat} (h : d.CasksReach m) (n : Nat) : (d.voteCask n).CasksReach m := by
  simp only [Dev.voteCask]
  split
  · exact h
  · split
    · simpa [Dev.CasksReach, setAt] using h
    · obtain ⟨e, he⟩ : ∃ e, e = d.set F.SAFE_CASK_STAT_LAST_WORD n := ⟨_, rfl⟩
      have hbond : e.bond = d.bond := by rw [he]; rfl
      simpa only [Dev.CasksReach, Dev.bond_of_fixed (Dev.fixed_report ..), ← he, hbond] using h

/-- What a vote leaves: the tables and the state of the rest are out of its reach. -/
theorem Dev.voteCask_keeps (d : Dev) (n : Nat) : (d.voteCask n).bar2 = d.bar2 ∧ (d.voteCask n).mram = d.mram ∧ (d.voteCask n).hmap = d.hmap ∧
    (d.voteCask n).session = d.session := by
  simp only [Dev.voteCask]
  split
  · exact ⟨rfl, rfl, rfl, rfl⟩
  · split
    · exact ⟨rfl, rfl, rfl, funext fun rq => by cases rq <;> rfl⟩
    · have hfixed := Dev.fixed_report (d.set F.SAFE_CASK_STAT_LAST_WORD n) 13 0
      refine ⟨Dev.bar2_of_fixed hfixed, Dev.mram_of_fixed hfixed, Dev.hmap_of_fixed hfixed, funext fun rq => ?_⟩
      rw [Dev.session_of_fixed hfixed, Dev.session_set]

theorem Dev.voteCasks_keeps (d : Dev) (ns : List Nat) {m : Nat} (h : d.CasksReach m) : (d.voteCasks ns).bar2 = d.bar2 ∧ (d.voteCasks ns).CasksReach m := by
  induction ns generalizing d with
  | nil => exact ⟨rfl, h⟩
  | cons n ns ih =>
    obtain ⟨h1, h2⟩ := ih (d.voteCask n) (Dev.casksReach_voteCask h n)
    exact ⟨h1.trans (d.voteCask_keeps n).1, h2⟩

/-! ### Words of BAR2 -/

/-- A list of writes to BAR2 gives the same words from devices with the same words, and changes nothing else. -/
theorem Dev.bar2_foldl_setBar2 {β : Type} (p q v u : β → Nat) (l : List β) {d e : Dev} (h : d.bar2 = e.bar2) :
    (l.foldl (fun d x => (d.setBar2 (p x) (v x)).setBar2 (q x) (u x)) d).bar2 = (l.foldl (fun d x => (d.setBar2 (p x) (v x)).setBar2 (q x) (u x)) e).bar2 := by
  induction l generalizing d e with
  | nil => exact h
  | cons x l ih => exact ih (by simp only [Dev.setBar2, h])

theorem Dev.bar2_putShadow {d e : Dev} (h : d.bar2 = e.bar2) (m : List HEntry) : (d.putShadow m).bar2 = (e.putShadow m).bar2 :=
  Dev.bar2_foldl_setBar2 _ _ _ _ _ h

/-- What does not read the words of BAR2 keeps its value under a list of writes to them. -/
theorem Dev.foldl_setBar2_keeps {β γ : Type} (π : Dev → γ) (hπ : ∀ (d : Dev) p v, π (d.setBar2 p v) = π d) (p q v u : β → Nat) (l : List β) (d : Dev) :
    π (l.foldl (fun d x => (d.setBar2 (p x) (v x)).setBar2 (q x) (u x)) d) = π d :=
  foldl_keeps π _ (fun _ _ => (hπ _ _ _).trans (hπ _ _ _)) l d

theorem Dev.bond_putShadow (d : Dev) (m : List HEntry) : (d.putShadow m).bond = d.bond :=
  Dev.foldl_setBar2_keeps Dev.bond (fun _ _ _ => rfl) _ _ _ _ _ d

theorem length_mapRootOf (m : List HEntry) : (mapRootOf m).length = 4 := by simp [mapRootOf]

/-! ### The head map (R162, R163) -/

/-- What a commit leaves of a device without an ARMED or RUNNING context. -/
theorem Dev.mapCommit_spec {d : Dev} (hidle : d.anyArmed = false) (h : d.CasksReach 4) :
    d.mapCommit.hmap = clampMap d.shadowEntry ∧ d.mapCommit.mram.hmap = some (clampMap d.shadowEntry) ∧
      d.mapCommit.bar2 = (d.putShadow (clampMap d.shadowEntry)).bar2 ∧
      (∀ k < 4, d.mapCommit.cask k = (mapRootOf (clampMap d.shadowEntry)).getD k 0 % 4294967296) ∧
      d.mapCommit.get F.DEC_HMAP_CMD_DONE = 1 ∧ d.mapCommit.get F.DEC_HMAP_CMD_CODE = 0 := by
  obtain ⟨hbar2, hreach⟩ := Dev.voteCasks_keeps d (span 0 3) h
  have hrun : ∃ e : Dev, d.mapCommit = ((e.setCasks 0 (mapRootOf (clampMap d.shadowEntry))).set F.DEC_HMAP_CMD_DONE 1).set F.DEC_HMAP_CMD_CODE 0 ∧
      e.hmap = clampMap d.shadowEntry ∧ e.mram.hmap = some (clampMap d.shadowEntry) ∧
      e.bar2 = ((d.voteCasks (span 0 3)).putShadow (clampMap d.shadowEntry)).bar2 ∧
      e.bond = ((d.voteCasks (span 0 3)).putShadow (clampMap d.shadowEntry)).bond :=
    ⟨_, if_neg (by simp [hidle]), rfl, rfl, rfl, rfl⟩
  obtain ⟨e, he, hm, hmram, hb, hbond⟩ := hrun
  have hkeep : ∀ (vs : List Nat), (e.setCasks 0 vs).hmap = e.hmap ∧ (e.setCasks 0 vs).mram.hmap = e.mram.hmap ∧ (e.setCasks 0 vs).bar2 = e.bar2 := fun vs =>
    ⟨foldl_keeps Dev.hmap (fun d k => d.setCask (0 + k) (vs.getD k 0)) (fun _ _ => rfl) _ e,
      foldl_keeps (fun x : Dev => x.mram.hmap) (fun d k => d.setCask (0 + k) (vs.getD k 0)) (fun _ _ => rfl) _ e,
      foldl_keeps Dev.bar2 (fun d k => d.setCask (0 + k) (vs.getD k 0)) (fun _ _ => rfl) _ e⟩
  obtain ⟨k1, k2, k3⟩ := hkeep (mapRootOf (clampMap d.shadowEntry))
  have hcask : ∀ k < 4, (e.setCasks 0 (mapRootOf (clampMap d.shadowEntry))).cask k = (mapRootOf (clampMap d.shadowEntry)).getD k 0 % 4294967296 := fun k hk => by
    have hreach' : e.CasksReach (mapRootOf (clampMap d.shadowEntry)).length := by
      rw [length_mapRootOf]
      simpa only [Dev.CasksReach, hbond, Dev.bond_putShadow] using hreach
    exact Dev.cask_setCasks_zero hreach' (by rw [length_mapRootOf]; exact hk)
  rw [he]
  generalize e.setCasks 0 (mapRootOf (clampMap d.shadowEntry)) = c at k1 k2 k3 hcask ⊢
  exact ⟨k1.trans hm, k2.trans hmram, k3.trans (hb.trans (Dev.bar2_putShadow hbar2 _)), hcask,
    (Dev.get_set_ne _ _ _ _ _ _ _ _ (by decide)).trans (Dev.get_set_self ..), Dev.get_set_self ..⟩

theorem exec_headMapCommit {rq : Requester} {s : State} (h : s.Ready rq 2) : GivesAudited (.headMapCommit rq) s rq 0x30054 (s.dev.touch rq).mapCommit := by
  obtain ⟨old, new, hw⟩ := State.write_audited_act h 0x30054 1 ⟨0, some .installer⟩ (by decide) (by cases rq <;> decide +kernel) (by decide) (by decide) (by decide)
  have hacts := State.acts_of h 0x30054 1 ⟨0, some .installer⟩ (by decide) (by decide)
  obtain ⟨old', new', hown⟩ := State.write_own hw (some (s.dev.cask 0, s.dev.mapCommit.cask 0))
  refine ⟨old', new', ?_⟩
  simp only [exec, execHeadMapCommit]
  rw [State.gate_run h.2.1 _ _ _ _ _ _ 0 (by decide)]
  simp only [hacts, if_true, hown]
  rfl

theorem exec_headMapDefault {rq : Requester} {s : State} (h : s.Ready rq 2) : GivesAudited (.headMapDefault rq) s rq 0x30054
    ((((s.dev.touch rq).putShadow ((List.range 192).map (fun k => hentryDefault (k / 24) (k % 24)))).set F.DEC_HMAP_CMD_DONE 1).set F.DEC_HMAP_CMD_CODE 0) := by
  obtain ⟨old, new, hrow⟩ := State.row_audited h (.headMapDefault rq) 0x30054 2 ⟨1, some .installer⟩ (fun d =>
    ((d.putShadow ((List.range 192).map (fun k => hentryDefault (k / 24) (k % 24)))).set F.DEC_HMAP_CMD_DONE 1).set F.DEC_HMAP_CMD_CODE 0)
    (by decide) (by cases rq <;> decide +kernel) (by decide) (by decide) (by decide)
  exact ⟨old, new, congrArg Host.Outcome.next hrow⟩

/-- The idle timer reaches a session alone. -/
theorem Dev.touch_keeps (d : Dev) (rq : Requester) : (d.touch rq).jobs = d.jobs ∧ (d.touch rq).bar2 = d.bar2 ∧ (d.touch rq).bond = d.bond ∧ (d.touch rq).regs = d.regs := by
  obtain h | ⟨x, h⟩ := d.touch_cases rq <;> rw [h]
  · exact ⟨rfl, rfl, rfl, rfl⟩
  · cases rq <;> exact ⟨rfl, rfl, rfl, rfl⟩

/-! ### A waveform set (R214, R216, R218) -/

theorem exec_waveformCommit {rq : Requester} {w : Word} {s : State} (h : s.Ready rq 2) (hw : w.toNat.testBit 0 = true) :
    GivesAudited (.waveformCommit rq w) s rq 0x50058 (((s.dev.set F.FIRE_WS_CMD_SET (bits w.toNat 8 4)).touch rq).waveCommit) := by
  obtain ⟨old, new, hrow⟩ := State.row_fields_audited (L := [(F.FIRE_WS_CMD_SET, 0, 0, 0)]) h (.waveformCommit rq w) Dev.waveCommit (addr := 0x50058) (w := w.toNat)
    (act := ⟨0, some .installer⟩) (by decide) (by cases rq <;> decide +kernel) (by decide) (by decide) (by decide) hw
    (fun e => by cases rq <;> rfl) (by decide)
  have hset : ∀ d : Dev, d.storeFields w.toNat [(F.FIRE_WS_CMD_SET, 0, 0, 0)] = d.set F.FIRE_WS_CMD_SET (bits w.toNat 8 4) := fun d =>
    congrArg (fun v => d.set F.FIRE_WS_CMD_SET v) (clampVal_of_none (f := F.FIRE_WS_CMD_SET) rfl (by decide) _ _)
  simp only [hset] at hrow
  exact ⟨old, new, congrArg Host.Outcome.next hrow⟩

/-- Is a set named by an OPEN, ARMED or RUNNING context or an idle set. -/
def Dev.waveNamed (d : Dev) (n : Nat) : Bool :=
  (d.jobsIn (fun s => s = .opened || s = .armed || s = .running)).any (fun e => e.2.ctx.waveSet = n) || (List.range 8).any (fun b => d.get F.FIRE_B_IDLE_WS b = n)

theorem Dev.waveNamed_iff (d : Dev) (n : Nat) : d.waveNamed n = true ↔
    (∃ e ∈ d.jobs, (e.2.st = .opened ∨ e.2.st = .armed ∨ e.2.st = .running) ∧ e.2.ctx.waveSet = n) ∨ (∃ b < 8, d.get F.FIRE_B_IDLE_WS b = n) := by
  simp only [Dev.waveNamed, Dev.jobsIn, Bool.or_eq_true, List.any_eq_true, List.mem_filter, decide_eq_true_eq, List.mem_range, and_assoc, or_assoc]

/-- The shadow of a set, clamped, goes to the shadow and to the set in force. -/
def Dev.putWave (d : Dev) (n : Nat) : Dev :=
  ((clampWave (fun k => d.bar2Word (0x800000 + 0x1000 * n + 4 * k))).zipIdx).foldl
    (fun (d : Dev) e => (d.setBar2 (0x800000 + 0x1000 * n + 4 * e.2) e.1).setBar2 (0x810000 + 0x1000 * n + 4 * e.2) e.1) d

theorem Dev.regs_putWave (d : Dev) (n : Nat) : (d.putWave n).regs = d.regs :=
  Dev.foldl_setBar2_keeps Dev.regs (fun _ _ _ => rfl) _ _ _ _ _ d

theorem Dev.bar2_putWave {d e : Dev} (h : d.bar2 = e.bar2) (n : Nat) : (d.putWave n).bar2 = (e.putWave n).bar2 := by
  have hwords : ∀ a, d.bar2Word a = e.bar2Word a := fun a => by simp only [Dev.bar2Word, h]
  simp only [Dev.putWave, hwords]
  exact Dev.bar2_foldl_setBar2 _ _ _ _ _ h

theorem Dev.waveCommit_eq (d : Dev) : d.waveCommit =
    (if d.waveNamed (d.get F.FIRE_WS_CMD_SET) then (d.set F.FIRE_WS_CMD_DONE 1).set F.FIRE_WS_CMD_CODE 1
      else ((d.set F.FIRE_WS_CMD_DONE 1).set F.FIRE_WS_CMD_CODE 0).putWave (d.get F.FIRE_WS_CMD_SET)).irq F.FIRE_IRQ_STAT F.FIRE_IRQ_EN 6 none := by
  have hrun : ∀ b : Bool, b = d.waveNamed (d.get F.FIRE_WS_CMD_SET) → d.waveCommit =
      (if b then (d.set F.FIRE_WS_CMD_DONE 1).set F.FIRE_WS_CMD_CODE (if b then 1 else 0)
        else ((d.set F.FIRE_WS_CMD_DONE 1).set F.FIRE_WS_CMD_CODE (if b then 1 else 0)).putWave (d.get F.FIRE_WS_CMD_SET)).irq F.FIRE_IRQ_STAT F.FIRE_IRQ_EN 6 none := by
    rintro _ rfl
    rfl
  rw [hrun _ rfl]
  cases d.waveNamed (d.get F.FIRE_WS_CMD_SET) <;> rfl

/-- What a commit shows, busy or not. -/
theorem Dev.waveCommit_shows (d : Dev) {code : Nat} (hcode : code = if d.waveNamed (d.get F.FIRE_WS_CMD_SET) then 1 else 0) :
    d.waveCommit.get F.FIRE_WS_CMD_SET = d.get F.FIRE_WS_CMD_SET ∧ d.waveCommit.get F.FIRE_WS_CMD_DONE = 1 ∧ d.waveCommit.get F.FIRE_WS_CMD_CODE = code ∧
      (d.waveCommit.get F.FIRE_IRQ_STAT).testBit 6 = true := by
  have hregs : ∀ f : Field, f.key 0 0 ≠ F.FIRE_IRQ_STAT.key 0 0 → d.waveCommit.get f = ((d.set F.FIRE_WS_CMD_DONE 1).set F.FIRE_WS_CMD_CODE code).get f := fun f hf => by
    rw [Dev.waveCommit_eq, Dev.get_irq_ne _ _ _ _ _ _ hf, hcode]
    split <;> simp only [Dev.get, Dev.regs_putWave]
  refine ⟨?_, ?_, ?_, ?_⟩
  · rw [hregs _ (by decide), Dev.get_set_ne _ _ _ _ _ _ _ _ (by decide), Dev.get_set_ne _ _ _ _ _ _ _ _ (by decide)]
  · rw [hregs _ (by decide), Dev.get_set_ne _ _ _ _ _ _ _ _ (by decide), Dev.get_set_self]; rfl
  · rw [hregs _ (by decide), Dev.get_set_self, hcode]; split <;> rfl
  · rw [Dev.waveCommit_eq]; exact Dev.get_irq_testBit _ _ _ _ _ _ (by decide)

theorem Dev.bar2_waveCommit (d : Dev) : d.waveCommit.bar2 =
    if d.waveNamed (d.get F.FIRE_WS_CMD_SET) then d.bar2 else (d.putWave (d.get F.FIRE_WS_CMD_SET)).bar2 := by
  rw [Dev.waveCommit_eq, show ∀ e : Dev, (e.irq F.FIRE_IRQ_STAT F.FIRE_IRQ_EN 6 none).bar2 = e.bar2 from fun _ => rfl]
  split
  · rfl
  · have hb : ((d.set F.FIRE_WS_CMD_DONE 1).set F.FIRE_WS_CMD_CODE 0).bar2 = d.bar2 := rfl
    exact Dev.bar2_putWave hb _

/-- Settles O50: the map's commit from an idle and from a busy part, its default, and the commit of a free and of a named waveform set. -/
theorem headMapAndWaveformsCommit : Obligations.HeadMapAndWaveformsCommit := by
  refine ⟨fun rq s h => ⟨fun harmed => ?_, fun hidle h0 h1 h2 => ?_, exec_headMapDefault h⟩, fun rq w s n h hw hn => ?_⟩
  · have hbusy : (s.dev.touch rq).mapCommit = ((s.dev.touch rq).set F.DEC_HMAP_CMD_DONE 1).set F.DEC_HMAP_CMD_CODE 1 :=
      if_pos (by simpa only [Dev.anyArmed, Dev.jobsIn, (s.dev.touch_keeps rq).1] using harmed)
    exact hbusy ▸ exec_headMapCommit h
  · obtain ⟨hjobs, hbar2, hbond, -⟩ := s.dev.touch_keeps rq
    obtain ⟨old, new, hrun⟩ := exec_headMapCommit h
    have hspec := Dev.mapCommit_spec (d := s.dev.touch rq) (by simpa only [Dev.anyArmed, Dev.jobsIn, hjobs] using hidle)
      (by simpa only [Dev.CasksReach, hbond] using ⟨h0, h1, h2⟩)
    have hshadow : (s.dev.touch rq).shadowEntry = s.dev.shadowEntry := by
      funext b k; simp only [Dev.shadowEntry, Dev.bar2Word, hbar2]
    rw [hshadow, Dev.bar2_putShadow hbar2] at hspec
    exact ⟨_, old, new, hrun, hspec⟩
  · obtain ⟨old, new, hrun⟩ := exec_waveformCommit h hw
    obtain ⟨e, he⟩ : ∃ e, e = (s.dev.set F.FIRE_WS_CMD_SET (bits w.toNat 8 4)).touch rq := ⟨_, rfl⟩
    obtain ⟨hjobs, hbar2, -, hregs⟩ := Dev.touch_keeps (s.dev.set F.FIRE_WS_CMD_SET (bits w.toNat 8 4)) rq
    have hset : e.get F.FIRE_WS_CMD_SET = n := by
      rw [he, Dev.get_touch, Dev.get_set_self, hn]
      exact Nat.mod_eq_of_lt (Nat.mod_lt _ (by decide))
    have hidle : ∀ b, e.get F.FIRE_B_IDLE_WS b = s.dev.get F.FIRE_B_IDLE_WS b := fun b => by
      rw [he, Dev.get_touch, Dev.get_set_ne]
      simp only [Field.key, Field.addr, F.FIRE_B_IDLE_WS, F.FIRE_WS_CMD_SET]; omega
    have hnamed : e.waveNamed n = true ↔ _ := Dev.waveNamed_iff e n
    simp only [hidle, show e.jobs = s.dev.jobs by rw [he, hjobs]; rfl] at hnamed
    have hb : e.bar2 = s.dev.bar2 := by rw [he, hbar2]; rfl
    rw [← he] at hrun
    refine ⟨fun hjob hid => ?_, fun hor => ?_⟩
    · have hfree : ¬ e.waveNamed (e.get F.FIRE_WS_CMD_SET) = true := by
        rw [hset, hnamed]
        rintro (⟨x, hx, hst, hws⟩ | ⟨b, hb8, hws⟩)
        · exact hjob x hx hst hws
        · exact hid b hb8 hws
      obtain ⟨s1, s2, s3, s4⟩ := e.waveCommit_shows (code := 0) (by rw [if_neg hfree])
      refine ⟨_, old, new, hrun, s1.trans hset, s2, s3, s4, ?_⟩
      rw [Dev.bar2_waveCommit, if_neg hfree, hset, Dev.bar2_putWave hb]
      rfl
    · have hbusy : e.waveNamed (e.get F.FIRE_WS_CMD_SET) = true := by rw [hset]; exact hnamed.mpr hor
      obtain ⟨s1, s2, s3, s4⟩ := e.waveCommit_shows (code := 1) (by rw [if_pos hbusy])
      refine ⟨_, old, new, hrun, s1.trans hset, s2, s3, s4, ?_⟩
      rw [Dev.bar2_waveCommit, if_pos hbusy, hb]

end Sys2Proof.Machine
end


section
/-! PROOF. Encoders, takeover and the return of control to ENC0 (R171, R192 to R195). -/

namespace Sys2Proof.Machine

/-! ### An encoder's state -/

theorem Dev.encSt_modEnc (d : Dev) (n k : Nat) (f : EncSt → EncSt) :
    (d.modEnc n f).encSt k = if k = n ∧ k < d.enc.length then f (d.encSt k) else d.encSt k := getD_setAt _ _ _ _ _

theorem Dev.encSt_modEnc_self {d : Dev} {n : Nat} (h : n < d.enc.length) (f : EncSt → EncSt) : (d.modEnc n f).encSt n = f (d.encSt n) := by
  rw [Dev.encSt_modEnc, if_pos ⟨rfl, h⟩]

theorem Dev.encSt_modEnc_ne {d : Dev} {n k : Nat} (h : k ≠ n) (f : EncSt → EncSt) : (d.modEnc n f).encSt k = d.encSt k := by
  rw [Dev.encSt_modEnc, if_neg fun e => h e.1]

theorem length_setAt {α : Type} (l : List α) (n : Nat) (f : α → α) : (setAt l n f).length = l.length := by simp [setAt]

theorem Dev.measured_congr {d e : Dev} (h : d.enc = e.enc) (n : Nat) : d.measured n = e.measured n := by simp only [Dev.measured, Dev.encSt, h]

/-! ### The pass-through outputs -/

/-- The pass-through outputs reach their pins alone (R201). -/
theorem Dev.passDrive_keeps {γ : Type} (π : Dev → γ) (hπ : ∀ (d : Dev) p o, π { d with pins := p, outbox := o } = π d) (d : Dev) : π d.passDrive = π d := by
  refine foldl_keeps π _ (fun d n => ?_) _ d
  dsimp only
  split_ifs
  · rfl
  · exact hπ d _ _

theorem Dev.fields_passDrive (d : Dev) : d.passDrive.enc = d.enc ∧ d.passDrive.pos = d.pos ∧ d.passDrive.regs = d.regs ∧ d.passDrive.flt = d.flt ∧ d.passDrive.pwr = d.pwr ∧
    d.passDrive.raw = d.raw ∧ d.passDrive.tb = d.tb :=
  ⟨d.passDrive_keeps Dev.enc fun _ _ _ => rfl, d.passDrive_keeps Dev.pos fun _ _ _ => rfl, d.passDrive_keeps Dev.regs fun _ _ _ => rfl,
    d.passDrive_keeps Dev.flt fun _ _ _ => rfl, d.passDrive_keeps Dev.pwr fun _ _ _ => rfl, d.passDrive_keeps Dev.raw fun _ _ _ => rfl,
    d.passDrive_keeps Dev.tb fun _ _ _ => rfl⟩

/-! ### An encoder becomes active (R192, R195) -/

/-- The measured position of the encoder that becomes active is x. -/
theorem Dev.takeEncoder_spec {d : Dev} {n : Nat} (h : n < d.enc.length) :
    (d.takeEncoder n).measured n = d.pos.x ∧ (d.takeEncoder n).pos = { d.pos with active := n, newest := none, flags := d.encFlags n } ∧ (d.takeEncoder n).regs = d.regs := by
  obtain ⟨henc, hpos, hregs, -⟩ := Dev.fields_passDrive
    ((d.modEnc n (fun e => { e with ofs := dotsOf e.travel - d.pos.x })).modPos (fun p => { p with active := n, newest := none, flags := d.encFlags n }))
  refine ⟨?_, hpos, hregs⟩
  have hst := Dev.encSt_modEnc_self h (fun e => { e with ofs := dotsOf e.travel - d.pos.x })
  calc (d.takeEncoder n).measured n = (d.modEnc n (fun e => { e with ofs := dotsOf e.travel - d.pos.x })).measured n := Dev.measured_congr henc n
    _ = d.pos.x := by rw [Dev.measured, hst]; exact Int.sub_sub_self _ _

theorem Dev.noteSpeed_keeps (d : Dev) : d.noteSpeed.pos = d.pos ∧ d.noteSpeed.enc = d.enc ∧ d.noteSpeed.regs = d.regs ∧ d.noteSpeed.flt = d.flt := by
  simp only [Dev.noteSpeed]
  split
  · split <;> exact ⟨rfl, rfl, rfl, rfl⟩
  · exact ⟨rfl, rfl, rfl, rfl⟩

/-! ### The end of a gap (R192 to R194) -/

theorem gives_switchoverTakeover (s : State) : Gives .switchoverTakeover s (if s.dev.posOn = true then s.dev.takeover else s.dev) := rfl

theorem Dev.takeover_of_not_due {d : Dev} (h : d.pos.active ≠ 2 ∨ d.raw < d.pos.gapEnd) : d.takeover = d :=
  if_pos ((Bool.or_eq_true _ _).mpr (h.imp (decide_eq_true ·) (decide_eq_true ·)))

theorem Dev.takeover_of_usable {d : Dev} (ha : d.pos.active = 2) (he : d.pos.gapEnd ≤ d.raw) (hu : d.encUsable d.pos.gapTo = true) :
    ∃ v, d.takeover = (d.takeEncoder d.pos.gapTo).set F.POS_AB_STEP v := by
  refine ⟨_, (if_neg ?_).trans (if_pos hu)⟩
  simp only [Bool.or_eq_true, decide_eq_true_eq, not_or, ne_eq, not_not]
  exact ⟨ha, Nat.not_lt.mpr he⟩

theorem Dev.takeover_of_lost {d : Dev} (ha : d.pos.active = 2) (he : d.pos.gapEnd ≤ d.raw) (hu : d.encUsable d.pos.gapTo = false) :
    d.takeover = (((d.modPos (fun p => { p with active := 3, speed := 0, v := 0 })).noteSpeed.irq F.POS_IRQ_STAT F.POS_IRQ_EN 5 none)).report 126 := by
  refine (if_neg ?_).trans (if_neg (by simp [hu]))
  simp only [Bool.or_eq_true, decide_eq_true_eq, not_or, ne_eq, not_not]
  exact ⟨ha, Nat.not_lt.mpr he⟩

/-! ### Control returns to ENC0 (R195) -/

/-- Does something ask for the return: AUTO_REVERT after REVERT_MS of agreement, or a REVERT. -/
def Dev.revertAsked (d : Dev) : Bool :=
  (d.flag F.POS_REDUN_CFG3_AUTO_REVERT && (match (d.encSt 0).agreeAt with
    | some t => decide (t + d.get F.POS_REDUN_CFG3_REVERT_MS * 1000000 ≤ d.raw) | none => false) && d.encSound 0) || (d.pos.revert && d.encUsable 0)

theorem Dev.revertAsked_iff (d : Dev) : d.revertAsked = true ↔ (d.get F.POS_REDUN_CFG3_AUTO_REVERT ≠ 0 ∧ d.encSound 0 = true ∧
    ∃ t, (d.encSt 0).agreeAt = some t ∧ t + d.get F.POS_REDUN_CFG3_REVERT_MS * 1000000 ≤ d.raw) ∨ (d.pos.revert = true ∧ d.encUsable 0 = true) := by
  cases h : (d.encSt 0).agreeAt with
  | none => simp [Dev.revertAsked, h]
  | some t =>
    simp only [Dev.revertAsked, h, Dev.flag, Bool.or_eq_true, Bool.and_eq_true, decide_eq_true_eq, ne_eq, Option.some.injEq, exists_eq_left', and_assoc,
      and_comm (a := d.encSound 0 = true)]

theorem gives_encoderRevert (s : State) : Gives .encoderRevert s
    (if s.dev.posOn = true ∧ s.dev.pos.active = 1 ∧ s.dev.pos.crossed = true ∧ s.dev.anyHeld = false ∧ s.dev.pos.reverse = false ∧ s.dev.revertAsked = true
      then s.dev.revertNow else s.dev) := by
  have hrun : exec .encoderRevert s = .next { s with dev :=
      if (s.dev.posOn && decide (s.dev.pos.active = 1) && s.dev.pos.crossed && !s.dev.anyHeld && !s.dev.pos.reverse && s.dev.revertAsked) = true
        then s.dev.revertNow else s.dev } := rfl
  simpa only [Gives, Bool.and_eq_true, decide_eq_true_eq, Bool.not_eq_true', and_assoc] using hrun

theorem Dev.revertNow_spec {d : Dev} (h : 0 < d.enc.length) : d.revertNow.pos.active = 0 ∧ d.revertNow.pos.revert = false ∧ d.revertNow.pos.mode = d.pos.mode ∧
    d.revertNow.pos.x = d.pos.x ∧ d.revertNow.pos.v = d.pos.v ∧ d.revertNow.measured 0 = d.pos.x ∧ (d.revertNow.get F.POS_IRQ_STAT).testBit 1 = true := by
  obtain ⟨hm, hpos, -⟩ := Dev.takeEncoder_spec h
  have hstart : d.revertNow.pos = { (d.takeEncoder 0).pos with revert := false, frozen := (d.takeEncoder 0).pos.frozen && !(d.takeEncoder 0).strainRuns } := rfl
  rw [hpos] at hstart
  have hirq := Dev.get_irq_testBit ((d.takeEncoder 0).modPos (fun p => { p with revert := false, frozen := p.frozen && !(d.takeEncoder 0).strainRuns })) F.POS_IRQ_STAT
    F.POS_IRQ_EN 1 none 0 (by decide)
  rw [hstart]
  exact ⟨rfl, rfl, rfl, rfl, rfl, hm, hirq⟩

/-- Settles O54: a gap's end with a usable and with an unusable encoder, the return of control and its absence, and REVERT. -/
theorem encodersSwitchOver : Obligations.EncodersSwitchOver := by
  refine ⟨fun s h => ?_, fun s hon ha he => ⟨fun hu hn => ?_, fun hu => ?_⟩, fun s asked hasked => ?_, fun rq s h => ?_⟩
  · obtain hoff | hnot := h
    · exact gives_of_neg (gives_switchoverTakeover s) (by simp [hoff])
    · simpa only [Dev.takeover_of_not_due hnot, ite_self] using gives_switchoverTakeover s
  · obtain ⟨v, hv⟩ := Dev.takeover_of_usable ha he hu
    obtain ⟨hm, hpos, -⟩ := Dev.takeEncoder_spec hn
    refine ⟨_, gives_of_pos (gives_switchoverTakeover s) hon, ?_⟩
    rw [hv]
    exact ⟨by rw [Dev.set_pos, hpos], by rw [Dev.set_pos, hpos], by rw [Dev.set_pos, hpos], hm, by rw [Dev.set_pos, hpos]⟩
  · refine ⟨_, gives_of_pos (gives_switchoverTakeover s) hon, ?_⟩
    obtain ⟨c, hc⟩ : ∃ c, c = (s.dev.modPos (fun p => { p with active := 3, speed := 0, v := 0 })).noteSpeed.irq F.POS_IRQ_STAT F.POS_IRQ_EN 5 none := ⟨_, rfl⟩
    have hpos : c.pos = { s.dev.pos with active := 3, speed := 0, v := 0 } := by rw [hc]; exact (Dev.noteSpeed_keeps _).1
    have hirq : (c.get F.POS_IRQ_STAT).testBit 5 = true := by rw [hc]; exact Dev.get_irq_testBit _ _ _ _ _ _ (by decide)
    have hrep : (c.report 126).pos = c.pos := Dev.pos_of_fixed (Dev.fixed_report c 126 0)
    rw [Dev.takeover_of_lost ha he hu, ← hc, hrep, hpos, Dev.get_report _ _ _ (by decide) (by decide) (by decide)]
    exact ⟨rfl, rfl, rfl, rfl, Dev.has_status_report _ _ _ (by decide), hirq⟩
  · rw [hasked, ← Dev.revertAsked_iff]
    refine ⟨fun hon ha hc hh hr hask hn => ?_, fun hnot => ?_⟩
    · obtain ⟨h1, h2, -, h3, h4, h5, h6⟩ := Dev.revertNow_spec hn
      exact ⟨_, gives_of_pos (gives_encoderRevert s) ⟨hon, ha, hc, hh, hr, hask⟩, h1, h2, h3, h4, h5, h6⟩
    · refine gives_of_neg (gives_encoderRevert s) fun ⟨hon, ha, hc, hh, hr, hask⟩ => ?_
      simp [hon, ha, hc, hh, hr, hask] at hnot
  · obtain ⟨old, new, hrow⟩ := State.row_audited h (.revertCmd rq) 0x60074 1 ⟨0, some .installer⟩ (fun d => d.modPos (fun p => { p with revert := p.active = 1 }))
      (by decide) (by cases rq <;> decide +kernel) (by decide) (by decide) (by decide)
    refine ⟨old, new, (congrArg Host.Outcome.next hrow).trans ?_⟩
    have hpos : (s.dev.touch rq).pos = s.dev.pos := by
      obtain hx | ⟨x, hx⟩ := s.dev.touch_cases rq <;> rw [hx]
      cases rq <;> rfl
    rw [show s.dev.pos.active = (s.dev.touch rq).pos.active by rw [hpos]]
    rfl

end Sys2Proof.Machine
end


section
/-! PROOF. Strain and the comparison of the encoders (R187, R189, R190, R196). -/

namespace Sys2Proof.Machine

/-! ### Strain (R187) -/

/-- The travels from which the next strain is measured. -/
def Dev.strainMark (d : Dev) : Dev := d.modPos (fun p => { p with strain0 := (d.encSt 0).travel, strain1 := (d.encSt 1).travel })

theorem gives_strainMeasure (s : State) : Gives .strainMeasure s (if s.dev.posOn = true then s.dev.strainMeasure else s.dev) := rfl

theorem Dev.strainMeasure_off {d : Dev} (h : d.get F.POS_STRAIN_CFG_ENABLE = 0) : d.strainMeasure = d.strainMark.modPos (fun p => { p with eps := 0, frozen := true }) := by
  have hoff : d.strainMark.flag F.POS_STRAIN_CFG_ENABLE = false := (d.flag_eq_false _ 0 0).mpr h
  exact (if_pos (by rw [Bool.not_eq_true']; exact hoff)).trans (if_neg (by rw [Bool.not_eq_true]; exact hoff))

theorem Dev.strainRuns_iff (d : Dev) : d.strainRuns = true ↔ d.get F.POS_STRAIN_CFG_ENABLE ≠ 0 ∧ d.pos.mode ≠ 0 ∧ (d.encSt 0).gate = true ∧ (d.encSt 1).gate = true ∧
    d.encSound 0 = true ∧ d.encSound 1 = true ∧ d.pos.active ≠ 2 := by
  simp only [Dev.strainRuns, Dev.flag, Bool.and_eq_true, decide_eq_true_eq, and_assoc]

theorem Dev.strainMeasure_frozen {d : Dev} (hon : d.get F.POS_STRAIN_CFG_ENABLE ≠ 0) (h : d.strainRuns = false ∨ (d.encSt 0).travel - d.pos.strain0 = 0) :
    d.strainMeasure = d.strainMark.modPos (fun p => { p with frozen := true }) := by
  have hen : d.strainMark.flag F.POS_STRAIN_CFG_ENABLE = true := (d.flag_eq_true _ 0 0).mpr hon
  have hruns : d.strainMark.strainRuns = d.strainRuns := rfl
  refine (if_neg ?_).trans (if_pos ?_)
  · rw [Bool.not_eq_true', Bool.not_eq_false]; exact hen
  · rw [Bool.or_eq_true, Bool.not_eq_true', decide_eq_true_eq]
    exact h.imp hruns.trans id

/-- The estimate moves toward the measured ratio. -/
theorem Dev.strainMeasure_moves {d : Dev} {d0 d1 r e lim : Int} (hruns : d.strainRuns = true) (h0 : d0 = (d.encSt 0).travel - d.pos.strain0)
    (h1 : d1 = (d.encSt 1).travel - d.pos.strain1) (hne : d0 ≠ 0) (hr : r = openRound 187 ((if d0 < 0 then d0 - d1 else d1 - d0) * nine) d0.natAbs)
    (hlim : lim = d.get F.POS_STRAIN_CFG_MAX_PERMIL * 1000000)
    (he : e = clampI (-lim) lim (d.pos.eps + openRound 187 (r - d.pos.eps) (d.get F.POS_STRAIN_CFG_TAU_MS))) :
    d.strainMeasure = if lim.natAbs < r.natAbs then (d.strainMark.modPos (fun p => { p with eps := e, frozen := false })).report 125
      else d.strainMark.modPos (fun p => { p with eps := e, frozen := false }) := by
  have hen : d.strainMark.flag F.POS_STRAIN_CFG_ENABLE = true := (d.flag_eq_true _ 0 0).mpr ((d.strainRuns_iff).mp hruns).1
  have hruns' : d.strainMark.strainRuns = true := hruns
  rw [he, hr, hlim, h1, h0]
  rw [h0] at hne
  refine (if_neg ?_).trans ((if_neg ?_).trans rfl)
  · rw [Bool.not_eq_true', Bool.not_eq_false]; exact hen
  · rw [Bool.or_eq_true, Bool.not_eq_true', decide_eq_true_eq, not_or, Bool.not_eq_false]
    exact ⟨hruns', hne⟩

/-! ### A comparison (R189, R190) -/

/-- A comparison takes each encoder's travel, and the stored MODE into force. -/
def Dev.snapped (d : Dev) : Dev :=
  ({ d with enc := d.enc.map (fun e => { e with snaps := (e.travel :: e.snaps).take (d.get F.POS_REDUN_CFG_WINDOW_MS + 1) }) } : Dev).modPos
    (fun p => { p with mode := d.get F.POS_REDUN_CFG_MODE })

/-- The travel of an encoder over the latest WINDOW_MS. -/
def Dev.windowTravel (d : Dev) (n : Nat) : Int := dotsOf ((d.encSt n).travel - ((d.encSt n).snaps.getLast?).getD 0)

/-- ENC0 and ENC1 agree within a tolerance, with the strain's factor f. -/
abbrev RedunAgree (tol : Nat) (d0 d1 f : Int) : Prop := ((d1 * nine - d0 * f).natAbs : Int) ≤ tol * nine

/-- The arbiter agrees with ENC0. -/
abbrev ArbiterFirst (tol : Nat) (d0 d2 : Int) : Prop := ((d2 - d0).natAbs : Int) ≤ tol

/-- The arbiter agrees with ENC1. -/
abbrev ArbiterSecond (tol : Nat) (d1 d2 f : Int) : Prop := ((d2 * f - d1 * nine).natAbs : Int) ≤ tol * f

section
variable (d : Dev) (arb agree a0 a1 : Prop) [Decidable arb] [Decidable agree] [Decidable a0] [Decidable a1]

/-- The difference of ENC1 from ENC0 at an agreement is kept (R193), and who agrees is noted for each encoder. -/
def Dev.redunNote : Dev :=
  let d := if agree then d.modPos (fun p => { p with abHist := (dotsOf (d.encSt 1).travel - p.x) :: p.abHist.take 1000 }) else d
  ((d.noteAgree 0 (agree && (!arb || a0))).noteAgree 1 (agree && (!arb || a1))).noteAgree 2 (arb && (a0 || a1))

/-- What a comparison finds. -/
def Dev.redunVerdict : Dev :=
  if agree then d
  else if arb && a0 && !a1 then (d.flagEnc F.ENC_STAT_OUTVOTED 1).report 121
  else if arb && a1 && !a0 then (d.flagEnc F.ENC_STAT_OUTVOTED 0).report 120
  else (d.irq F.POS_IRQ_STAT F.POS_IRQ_EN 6 none).report 122

end

theorem gives_redundancyCompare (s : State) : Gives .redundancyCompare s (if s.dev.posOn = true then s.dev.redunCompare else s.dev) := rfl

theorem Dev.redunCompare_single {d : Dev} (hm : d.get F.POS_REDUN_CFG_MODE = 0) : d.redunCompare = if d.pos.active = 1 then d.snapped.revertNow else d.snapped :=
  if_pos hm

theorem Dev.redunCompare_pauses {d : Dev} (hm : d.get F.POS_REDUN_CFG_MODE ≠ 0) (h : d.anyHeld = true ∨ 2 ≤ d.pos.active) : d.redunCompare = d.snapped :=
  (if_neg hm).trans (if_pos ((Bool.or_eq_true _ _).mpr (h.imp id (decide_eq_true ·))))

/-- The dots by which two travels may differ. -/
def Dev.redunTol (d : Dev) (ppm : Nat) (d0 : Int) : Nat := Nat.max (d.get F.POS_REDUN_CFG2_MIN_DOTS * 4294967296) (ppm * d0.natAbs / 1000000)

theorem Dev.redunCompare_judges {d : Dev} {d0 d1 d2 f : Int} {tolT tolA : Nat} (hm : d.get F.POS_REDUN_CFG_MODE ≠ 0) (hh : d.anyHeld = false) (ha : d.pos.active < 2)
    (h0 : d0 = d.snapped.windowTravel 0) (h1 : d1 = d.snapped.windowTravel 1) (h2 : d2 = d.snapped.windowTravel 2)
    (hT : tolT = d.redunTol (d.get F.POS_REDUN_CFG_TOL_PPM) d0) (hA : tolA = d.redunTol (d.get F.POS_REDUN_CFG2_ARB_PPM) d0) (hf : f = nine + d.pos.eps) :
    d.redunCompare = (d.snapped.redunNote (d.get F.POS_REDUN_CFG_MODE = 2) (RedunAgree tolT d0 d1 f) (ArbiterFirst tolA d0 d2) (ArbiterSecond tolA d1 d2 f)).redunVerdict
      (d.get F.POS_REDUN_CFG_MODE = 2) (RedunAgree tolT d0 d1 f) (ArbiterFirst tolA d0 d2) (ArbiterSecond tolA d1 d2 f) := by
  rw [hT, hA, hf, h2, h1, h0]
  refine (if_neg hm).trans ((if_neg ?_).trans rfl)
  rw [Bool.or_eq_true, decide_eq_true_eq, not_or, Bool.not_eq_true]
  exact ⟨hh, Nat.not_le.mpr ha⟩

theorem Dev.windowTravel_snapped (d : Dev) (n : Nat) : d.snapped.windowTravel n = dotsOf ((d.encSt n).travel -
    (((d.encSt n).travel :: (d.encSt n).snaps).take (d.get F.POS_REDUN_CFG_WINDOW_MS + 1)).getLast?.getD 0) := by
  obtain ⟨w, hw⟩ : ∃ w, w = d.get F.POS_REDUN_CFG_WINDOW_MS := ⟨_, rfl⟩
  have hst : d.snapped.encSt n = if n < d.enc.length then { d.encSt n with snaps := ((d.encSt n).travel :: (d.encSt n).snaps).take (w + 1) } else {} := by
    simp only [Dev.encSt, Dev.snapped, Dev.modPos, List.getD_eq_getElem?_getD, List.getElem?_map, ← hw]
    split <;> simp [*]
  have hout : ¬ n < d.enc.length → d.encSt n = {} := fun h => by simp [Dev.encSt, Nat.not_lt.mp h]
  rw [Dev.windowTravel, hst, ← hw]
  split
  · rfl
  · next h => rw [hout h]; simp

theorem Dev.travel_snapped (d : Dev) (n : Nat) : (d.snapped.encSt n).travel = (d.encSt n).travel := by
  simp only [Dev.encSt, Dev.snapped, Dev.modPos, List.getD_eq_getElem?_getD, List.getElem?_map]
  cases d.enc[n]? <;> rfl

/-- Noting who agrees moves no position and no status. -/
theorem Dev.noteAgree_keeps (d : Dev) (n : Nat) (b : Bool) : (d.noteAgree n b).pos = d.pos ∧ (d.noteAgree n b).flt.status = d.flt.status := by
  simp only [Dev.noteAgree]
  split
  · split_ifs <;> exact ⟨rfl, rfl⟩
  · split_ifs <;> exact ⟨rfl, rfl⟩

section
variable (d : Dev) (arb agree a0 a1 : Prop) [Decidable arb] [Decidable agree] [Decidable a0] [Decidable a1]

theorem Dev.redunNote_of (h : agree) : (d.redunNote arb agree a0 a1).pos =
      { d.pos with abHist := (dotsOf (d.encSt 1).travel - d.pos.x) :: d.pos.abHist.take 1000 } ∧ (d.redunNote arb agree a0 a1).flt.status = d.flt.status := by
  simp only [Dev.redunNote, if_pos h]
  exact ⟨by rw [(Dev.noteAgree_keeps ..).1, (Dev.noteAgree_keeps ..).1, (Dev.noteAgree_keeps ..).1]; rfl,
    by rw [(Dev.noteAgree_keeps ..).2, (Dev.noteAgree_keeps ..).2, (Dev.noteAgree_keeps ..).2]; rfl⟩

theorem Dev.redunNote_of_not (h : ¬ agree) : (d.redunNote arb agree a0 a1).pos = d.pos := by
  simp only [Dev.redunNote, if_neg h]
  rw [(Dev.noteAgree_keeps ..).1, (Dev.noteAgree_keeps ..).1, (Dev.noteAgree_keeps ..).1]

end

theorem Dev.get_flagEnc_ne_zero (d : Dev) {f : Field} (hw : 1 % 2 ^ f.width ≠ 0) (n : Nat) : (d.flagEnc f n).get f n ≠ 0 := by
  simp only [Dev.flagEnc]
  split
  · next h => exact (d.flag_eq_true f n 0).mp h
  · exact fun h => hw ((Dev.get_set_self d f 1 n 0).symm.trans h)

theorem Dev.pos_flagEnc (d : Dev) (f : Field) (n : Nat) : (d.flagEnc f n).pos = d.pos := by
  simp only [Dev.flagEnc]; split <;> rfl

/-- An encoder is outvoted (R190). -/
theorem Dev.outvoted_spec (d : Dev) {n src : Nat} (hn : n < 4) : has ((d.flagEnc F.ENC_STAT_OUTVOTED n).report src).flt.status (fkey src 0) = true ∧
    ((d.flagEnc F.ENC_STAT_OUTVOTED n).report src).get F.ENC_STAT_OUTVOTED n ≠ 0 ∧ ((d.flagEnc F.ENC_STAT_OUTVOTED n).report src).pos = d.pos := by
  refine ⟨Dev.has_status_report _ _ _ (by decide), ?_, (Dev.pos_of_fixed (Dev.fixed_report ..)).trans (Dev.pos_flagEnc ..)⟩
  rw [Dev.get_report _ _ _ (by decide) hn (by decide)]
  exact Dev.get_flagEnc_ne_zero d (by decide) n

/-- REDUN_UNDECIDED (R190). -/
theorem Dev.undecided_spec (d : Dev) : has ((d.irq F.POS_IRQ_STAT F.POS_IRQ_EN 6 none).report 122).flt.status (fkey 122 0) = true ∧
    (((d.irq F.POS_IRQ_STAT F.POS_IRQ_EN 6 none).report 122).get F.POS_IRQ_STAT).testBit 6 = true ∧
    ((d.irq F.POS_IRQ_STAT F.POS_IRQ_EN 6 none).report 122).pos = d.pos := by
  refine ⟨Dev.has_status_report _ _ _ (by decide), ?_, Dev.pos_of_fixed (Dev.fixed_report (d.irq F.POS_IRQ_STAT F.POS_IRQ_EN 6 none) 122 0)⟩
  rw [Dev.get_report _ _ _ (by decide) (by decide) (by decide)]
  exact Dev.get_irq_testBit _ _ _ _ _ _ (by decide)

theorem clampI_eq {lim : Int} (h : 0 ≤ lim) (x : Int) : clampI (-lim) lim x = max (-lim) (min lim x) := by
  simp only [clampI]
  split_ifs <;> omega

/-- R187, for every state. -/
theorem strainMeasure_acts (s : State) (d0 d1 : Int) (h0 : d0 = (s.dev.encSt 0).travel - s.dev.pos.strain0) (h1 : d1 = (s.dev.encSt 1).travel - s.dev.pos.strain1)
    (hon : s.dev.posOn = true) :
    (s.dev.get F.POS_STRAIN_CFG_ENABLE = 0 → Gives .strainMeasure s (s.dev.strainMark.modPos (fun p => { p with eps := 0, frozen := true }))) ∧
    (s.dev.get F.POS_STRAIN_CFG_ENABLE ≠ 0 → s.dev.strainRuns = false ∨ d0 = 0 → Gives .strainMeasure s (s.dev.strainMark.modPos (fun p => { p with frozen := true }))) ∧
    (∀ r e lim : Int, s.dev.strainRuns = true → d0 ≠ 0 → r = openRound 187 ((if d0 < 0 then d0 - d1 else d1 - d0) * nine) d0.natAbs →
      lim = s.dev.get F.POS_STRAIN_CFG_MAX_PERMIL * 1000000 →
      e = max (-lim) (min lim (s.dev.pos.eps + openRound 187 (r - s.dev.pos.eps) (s.dev.get F.POS_STRAIN_CFG_TAU_MS))) →
      Gives .strainMeasure s (if lim.natAbs < r.natAbs then (s.dev.strainMark.modPos (fun p => { p with eps := e, frozen := false })).report 125
        else s.dev.strainMark.modPos (fun p => { p with eps := e, frozen := false }))) := by
  have hrun := gives_of_pos (gives_strainMeasure s) hon
  refine ⟨fun hoff => ?_, fun hen h => ?_, fun r e lim hruns hne hr hlim he => ?_⟩
  · rwa [Dev.strainMeasure_off hoff] at hrun
  · rwa [Dev.strainMeasure_frozen hen (h0 ▸ h)] at hrun
  · rwa [Dev.strainMeasure_moves hruns h0 h1 hne hr hlim (he.trans (clampI_eq (by omega) _).symm)] at hrun

/-- Settles O53: the strain off, frozen and measured, then a comparison in MODE 0b00, during a pause, with agreement and with each verdict. -/
theorem strainAndRedundancyAct : Obligations.StrainAndRedundancyAct := by
  refine ⟨fun s d0 d1 c h0 h1 hc => ⟨fun hoff => gives_of_neg (gives_strainMeasure s) (by simp [hoff]), fun hon => ?_⟩,
    fun s mode c hmode hc => ⟨fun hoff => gives_of_neg (gives_redundancyCompare s) (by simp [hoff]), fun hon => ?_⟩⟩
  · obtain ⟨g1, g2, g3⟩ := strainMeasure_acts s d0 d1 h0 h1 hon
    have hmark : c = s.dev.strainMark := hc
    rw [hmark]
    refine ⟨g1, fun hen hor => g2 hen ?_, fun r e lim hen hm hg0 hg1 hs0 hs1 ha hne hr hlim he => ?_⟩
    · by_cases hd : d0 = 0
      · exact .inr hd
      · refine .inl (Bool.not_eq_true _ ▸ fun hruns => ?_)
        obtain ⟨-, k1, k2, k3, k4, k5, k6⟩ := s.dev.strainRuns_iff.mp hruns
        simp [k1, k2, k3, k4, k5, k6, hd] at hor
    · have hrun := g3 r e lim (s.dev.strainRuns_iff.mpr ⟨hen, hm, hg0, hg1, hs0, hs1, ha⟩) hne hr hlim he
      exact ⟨fun hle => gives_of_neg hrun (Nat.not_lt.mpr hle), fun hlt => gives_of_pos hrun hlt⟩
  · have hrun := gives_of_pos (gives_redundancyCompare s) hon
    have hsnap : c = s.dev.snapped := by rw [hc, hmode]; rfl
    have hpos : s.dev.snapped.pos = { s.dev.pos with mode := mode } := by rw [hmode]; rfl
    rw [hsnap]
    refine ⟨fun hm ha => ?_, fun hm ha hlen => ?_, fun hm h => ?_, fun travel tolT tolA f hm hh ha htravel hT hA hf _ => ?_⟩
    · rwa [Dev.redunCompare_single (hmode ▸ hm), if_neg ha] at hrun
    · obtain ⟨k1, -, k3, k4, -, k6, k7⟩ := Dev.revertNow_spec (d := s.dev.snapped) (by simpa [Dev.snapped, Dev.modPos] using hlen)
      rw [Dev.redunCompare_single (hmode ▸ hm), if_pos ha] at hrun
      refine ⟨_, hrun, k1, ?_, ?_, ?_, k7⟩
      · rw [k3, hpos]; exact hm
      · rw [k4, hpos]
      · rw [k6, hpos]
    · rwa [Dev.redunCompare_pauses (hmode ▸ hm) h] at hrun
    · rw [Dev.redunCompare_judges (hmode ▸ hm) hh ha ((htravel 0).trans (s.dev.windowTravel_snapped 0).symm) ((htravel 1).trans (s.dev.windowTravel_snapped 1).symm)
        ((htravel 2).trans (s.dev.windowTravel_snapped 2).symm) hT hA hf, ← hmode] at hrun
      refine ⟨fun hagree => ?_, fun hdis => ?_⟩
      · obtain ⟨k1, k2⟩ := s.dev.snapped.redunNote_of (mode = 2) _ (ArbiterFirst tolA (travel 0) (travel 2)) (ArbiterSecond tolA (travel 1) (travel 2) f) hagree
        refine ⟨_, hrun.trans (congrArg (fun e => Host.Outcome.next { s with dev := e }) (if_pos hagree)), k2, ?_, ?_, ?_⟩ <;> rw [k1, hpos]
        rw [show (s.dev.snapped.encSt 1).travel = (s.dev.encSt 1).travel from Dev.travel_snapped ..]
      · have hnot : ¬ RedunAgree tolT (travel 0) (travel 1) f := Int.not_le.mpr hdis
        have k1 := s.dev.snapped.redunNote_of_not (mode = 2) _ (ArbiterFirst tolA (travel 0) (travel 2)) (ArbiterSecond tolA (travel 1) (travel 2) f) hnot
        obtain ⟨n, hn⟩ : ∃ n, n = s.dev.snapped.redunNote (mode = 2) (RedunAgree tolT (travel 0) (travel 1) f) (ArbiterFirst tolA (travel 0) (travel 2))
          (ArbiterSecond tolA (travel 1) (travel 2) f) := ⟨_, rfl⟩
        rw [← hn, hpos] at k1
        rw [← hn] at hrun
        have hfirst : ArbiterFirst tolA (travel 0) (travel 2) ↔ (travel 2 - travel 0).natAbs ≤ tolA := Int.ofNat_le
        refine ⟨fun h2 y0 y1 => ?_, fun h2 y1 y0 => ?_, fun hor => ?_⟩
        · obtain ⟨j1, j2, j3⟩ := n.outvoted_spec (n := 1) (src := 121) (by decide)
          refine ⟨_, gives_of_pos (gives_of_neg hrun hnot) ?_, j1, j2, j3.trans k1⟩
          simp only [Bool.and_eq_true, Bool.not_eq_true', decide_eq_true_eq, decide_eq_false_iff_not]
          exact ⟨⟨h2, hfirst.mpr y0⟩, y1⟩
        · obtain ⟨j1, j2, j3⟩ := n.outvoted_spec (n := 0) (src := 120) (by decide)
          refine ⟨_, gives_of_pos (gives_of_neg (gives_of_neg hrun hnot) ?_) ?_, j1, j2, j3.trans k1⟩ <;>
            simp only [Bool.and_eq_true, Bool.not_eq_true', decide_eq_true_eq, decide_eq_false_iff_not]
          · exact fun h => y0 (hfirst.mp h.1.2)
          · exact ⟨⟨h2, y1⟩, fun h => y0 (hfirst.mp h)⟩
        · obtain ⟨j1, j2, j3⟩ := n.undecided_spec
          refine ⟨_, gives_of_neg (gives_of_neg (gives_of_neg hrun hnot) ?_) ?_, j1, j2, j3.trans k1⟩ <;>
            simp only [Bool.and_eq_true, Bool.not_eq_true', decide_eq_true_eq, decide_eq_false_iff_not]
          · exact fun ⟨⟨h2, y0⟩, y1⟩ => hor.elim (fun h => h h2) (fun h => y1 (h.mp (hfirst.mp y0)))
          · exact fun ⟨⟨h2, y1⟩, y0⟩ => hor.elim (fun h => h h2) (fun h => y0 (hfirst.mpr (h.mpr y1)))

end Sys2Proof.Machine
end


section
/-! PROOF. What a lamp's strobe, a camera's trigger and a compare unit reach (R197, R333, R363). -/

namespace Sys2Proof.Machine

/-- Both branches keep a value. -/
theorem ite_keeps {α γ : Type} (π : α → γ) {p : Prop} [Decidable p] {x y : α} {z : γ} (hx : π x = z) (hy : π y = z) : π (if p then x else y) = z := by
  split <;> assumption

/-! ### What a lamp's strobe, a camera's trigger and a compare unit reach -/

/-- What no report reaches, with the registers beyond a list of fields. -/
def Dev.rest (S : List Field) (d : Dev) := (d.fixed, d.beyond S)

section
variable {S : List Field}

theorem Dev.rest_set (d : Dev) (f : Field) (v i j : Nat) (h : f ∈ S) : (d.set f v i j).rest S = d.rest S := Prod.ext rfl (Dev.beyond_set _ _ _ _ (List.cons_subset.mpr ⟨h, List.nil_subset _⟩) _)
theorem Dev.rest_bump (d : Dev) (f : Field) (i j n : Nat) (h : f ∈ S) : (d.bump f i j n).rest S = d.rest S := Dev.rest_set _ _ _ _ _ h
theorem Dev.rest_irq (d : Dev) (st en : Field) (k : Nat) (v : Option Field) (i : Nat) (h : st ∈ S) : (d.irq st en k v i).rest S = d.rest S :=
  Prod.ext (Dev.fixed_irq ..) (Dev.beyond_irq _ _ _ (List.cons_subset.mpr ⟨h, List.nil_subset _⟩) _ _ _)
theorem Dev.rest_report (d : Dev) (s i : Nat) (h : reactFields ⊆ S) : (d.report s i).rest S = d.rest S := Prod.ext (Dev.fixed_report ..) (Dev.beyond_report h ..)
theorem Dev.rest_reportLevel (d : Dev) (s i : Nat) (b : Bool) (h : reactFields ⊆ S) : (d.reportLevel s i b).rest S = d.rest S :=
  Prod.ext (Dev.fixed_reportLevel ..) (Dev.beyond_reportLevel h ..)
theorem Dev.rest_mono {T : List Field} (h : S ⊆ T) {d e : Dev} (he : e.rest S = d.rest S) : e.rest T = d.rest T :=
  Prod.ext (show e.fixed = d.fixed from congrArg Prod.fst he) (Dev.beyond_mono h (congrArg Prod.snd he))
@[simp] theorem Dev.rest_modLamp (d : Dev) (c : Nat) (f : LampCh → LampCh) : (d.modLamp c f).rest S = d.rest S := rfl
@[simp] theorem Dev.rest_modCam (d : Dev) (n : Nat) (f : CamSt → CamSt) : (d.modCam n f).rest S = d.rest S := rfl
@[simp] theorem Dev.rest_modCtx (d : Dev) (k : Nat) (f : IspCtx → IspCtx) : (d.modCtx k f).rest S = d.rest S := rfl
@[simp] theorem Dev.rest_emit (d : Dev) (o : Output) : (d.emit o).rest S = d.rest S := rfl
@[simp] theorem Dev.rest_vin (d : Dev) (v : VinSt) : ({ d with vin := v } : Dev).rest S = d.rest S := rfl

theorem Dev.get_of_rest {d e : Dev} (h : e.rest S = d.rest S) {g : Field} (hg : g.clear S = true) {i j : Nat} (hi : i < g.n1) (hj : j < g.n2) :
    e.get g i j = d.get g i j := Dev.get_of_beyond (congrArg Prod.snd h) hg hi hj

theorem Dev.fixed_of_rest {d e : Dev} (h : e.rest S = d.rest S) : e.fixed = d.fixed := congrArg Prod.fst h

end

/-- The fields that a strobe, a trigger and the report of one may change. -/
def actFields : List Field := [F.LMP_C_GAIN, F.LMP_C_CNT_MISSED, F.CAM_P_CNT_TRIG_OVER, F.CAM_P_COMMIT_PENDING, F.POS_IRQ_STAT, F.CAM_P_FRAMENO, F.CAM_P_GEN] ++ reactFields

theorem reactFields_sub_actFields : reactFields ⊆ actFields := by decide

@[simp] theorem Dev.rest_lampMark (d : Dev) (c st : Nat) : (d.lampMark c st).rest actFields = d.rest actFields :=
  Prod.ext (Dev.fixed_lampMark ..) (Dev.beyond_lampMark (by decide) d c st)

@[simp] theorem Dev.rest_lampStatus (d : Dev) (c st : Nat) : (d.lampStatus c st).rest actFields = d.rest actFields := by
  simp only [Dev.lampStatus]
  split
  · rfl
  · simp (disch := exact reactFields_sub_actFields) only [Dev.rest_reportLevel, Dev.rest_lampMark]

@[simp] theorem Dev.rest_lampSend (d : Dev) (c cmd row period shunt iSet on : Nat) (duty : List Nat) :
    (d.lampSend c cmd row period shunt iSet on duty).rest actFields = d.rest actFields := rfl

@[simp] theorem Dev.rest_lampOff (d : Dev) (c : Nat) : (d.lampOff c).rest actFields = d.rest actFields := rfl

@[simp] theorem Dev.rest_gainStep (d : Dev) (c : Nat) : (d.gainStep c).rest actFields = d.rest actFields := by
  simp only [Dev.gainStep]
  split
  · exact Dev.rest_set _ _ _ _ _ (by decide)
  · split
    · rfl
    · exact Dev.rest_set _ _ _ _ _ (by decide)

@[simp] theorem Dev.rest_lampElement (d : Dev) (c k on len p : Nat) : (d.lampElement c k on len p).2.rest actFields = d.rest actFields := by
  simp only [Dev.lampElement]; split <;> rfl

@[simp] theorem Dev.rest_restretch (d : Dev) (c : Nat) (on : List Nat) : (d.restretch c on).rest actFields = d.rest actFields := by
  simp only [Dev.restretch]; split <;> rfl

@[simp] theorem Dev.rest_lampVerify (d : Dev) (c : Nat) (u : Bool) : (d.lampVerify c u).rest actFields = d.rest actFields := by
  simp only [Dev.lampVerify]; split <;> split <;> simp

@[simp] theorem Dev.rest_lampString (d : Dev) (c cmd : Nat) : (d.lampString c cmd).rest actFields = d.rest actFields := by
  simp only [Dev.lampString]
  split
  · simp
  · split <;> simp

@[simp] theorem Dev.rest_strobe (d : Dev) (c : Nat) : (d.strobe c).rest actFields = d.rest actFields := by
  simp only [Dev.strobe]
  split
  · rfl
  · split
    · simp
    · split
      · rfl
      · split
        · split <;> simp [Dev.rest_bump _ _ _ _ _ (show F.LMP_C_CNT_MISSED ∈ actFields by decide)]
        · simp

@[simp] theorem Dev.rest_linePeriod (d : Dev) (n : Nat) : (d.linePeriod n).rest actFields = d.rest actFields := rfl

@[simp] theorem Dev.rest_camEffective (d : Dev) (n : Nat) : (d.camEffective n).rest actFields = d.rest actFields := by
  simp only [Dev.camEffective]
  split
  · rfl
  · simp (disch := decide) only [Dev.rest_modCam, Dev.rest_set]
    refine foldl_keeps (Dev.rest actFields) _ (fun _ _ => ?_) _ _
    rfl

@[simp] theorem Dev.rest_ctxFrame (d : Dev) (n k no first start : Nat) : (d.ctxFrame n k no first start).rest actFields = d.rest actFields := by
  simp only [Dev.ctxFrame]; split <;> rfl

@[simp] theorem Dev.rest_camFrame (d : Dev) (n first start : Nat) (eff : Bool) : (d.camFrame n first start eff).rest actFields = d.rest actFields := by
  have hstart : ∀ e : Dev, (if eff then e.camEffective n else e).rest actFields = e.rest actFields := fun e => by split <;> simp
  simp only [Dev.camFrame]
  rw [foldl_keeps (Dev.rest actFields) _ (fun _ _ => Dev.rest_ctxFrame ..)]
  simp (disch := decide) only [Dev.rest_modCam, Dev.rest_set, hstart]

@[simp] theorem Dev.rest_camTrigger (d : Dev) (n hit : Nat) : (d.camTrigger n hit).rest actFields = d.rest actFields := by
  have hframe : ∀ (e : Dev) (p : Bool) (first : Nat) (b : Bool), (if p then e.camFrame n first hit b else e).rest actFields = e.rest actFields := fun e p first b =>
    ite_keeps _ (Dev.rest_camFrame ..) rfl
  simp only [Dev.camTrigger]
  refine ite_keeps _ rfl (ite_keeps _ (Dev.rest_linePeriod ..) (ite_keeps _ ?_ ?_))
  · rw [Dev.rest_report _ _ _ reactFields_sub_actFields, Dev.rest_modCam, Dev.rest_bump _ _ _ _ _ (by decide)]
  · rw [Dev.rest_linePeriod]
    refine ite_keeps _ ?_ ?_
    · exact hframe d _ _ _
    · exact hframe d _ _ _

/-- The actions of a compare unit reach neither its own fields nor any position. -/
@[simp] theorem Dev.rest_pcmpAct (d : Dev) (u hit : Nat) : (d.pcmpAct u hit).rest actFields = d.rest actFields := by
  have hirq : ∀ e : Dev, (if e.flag F.PCMP_CFG_IRQ u then e.irq F.POS_IRQ_STAT F.POS_IRQ_EN 4 none else e).rest actFields = e.rest actFields := fun e => by
    split
    · exact Dev.rest_irq _ _ _ _ _ _ (by decide)
    · rfl
  have hlamp : ∀ e : Dev, (if e.flag F.PCMP_CFG_LAMP u then e.strobe (e.get F.PCMP_CFG_TARGET u) else e).rest actFields = e.rest actFields := fun e => by
    split <;> simp
  simp only [Dev.pcmpAct]
  exact ite_keeps _ ((Dev.rest_camTrigger ..).trans ((hlamp _).trans (hirq d))) ((hlamp _).trans (hirq d))

end Sys2Proof.Machine
end


section
/-! PROOF. A field that holds its value through a report (R398, R406). -/

namespace Sys2Proof.Machine

/-- A value that reads the fault collector in no part, and no part of a reaction changes, outlives a report. -/
theorem outlives_of_get {f : Field} {i j v : Nat} {S : List Field} (hS : f.clear S = true) (hi : i < f.n1) (hj : j < f.n2) (hsafe : safeFields ⊆ S) (hstop : stopFields ⊆ S)
    (hflt : [F.FLT_IRQ_STAT, F.FLT_LOG_STAT_OVERWRITES, F.FLT_STATE_LAST_SRC] ⊆ S)
    (hfence : ∀ (d : Dev) (u : FUnit), d.get f i j = v → (d.fenceEffect u).get f i j = v) : Outlives (fun d => d.get f i j = v) where
  flt _ _ h := h
  overwrites d h := (Dev.get_of_beyond (Dev.beyond_bump d _ _ _ (List.Subset.trans (by decide) hflt) _) hS hi hj).trans h
  lastSrc d _ h := (Dev.get_of_beyond (Dev.beyond_set d _ _ _ (List.Subset.trans (by decide) hflt) _) hS hi hj).trans h
  irq d _ h := (Dev.get_of_beyond (Dev.beyond_irq d _ _ (List.Subset.trans (by decide) hflt) _ _ _) hS hi hj).trans h
  fence := hfence
  stop d c h := (Dev.get_of_beyond (Dev.beyond_stopTrigger hstop d c) hS hi hj).trans h
  settle d e h := (Dev.get_of_beyond (Dev.beyond_settle hsafe d e) hS hi hj).trans h

end Sys2Proof.Machine
end


section
/-! PROOF. Compare units and emulated outputs (R169, R198 to R200). -/

namespace Sys2Proof.Machine

/-! ### A unit arms (R198) -/

/-- The fields that a compare unit's arming may change. -/
def pcmpFields : List Field := [F.PCMP_TIME, F.PCMP_STAT_ARMED, F.PCMP_STAT_MISSED, F.PCMP_STAT_HITS, F.PCMP_VAL] ++ actFields

theorem actFields_sub_pcmpFields : actFields ⊆ pcmpFields := by decide

theorem Dev.rest_pcmpNext (d : Dev) (u : Nat) (back : Bool) : (d.pcmpNext u back).rest pcmpFields = d.rest pcmpFields := by
  simp only [Dev.pcmpNext]
  split <;> exact Dev.rest_set _ _ _ _ _ (by decide)

theorem Dev.rest_pcmpArm (src : Int) (u : Nat) (back : Bool) (k : Nat) (d : Dev) : (Dev.pcmpArm src u back k d).rest pcmpFields = d.rest pcmpFields := by
  induction k generalizing d with
  | zero => exact Dev.rest_set _ _ _ _ _ (by decide)
  | succ k ih =>
    have hstep : ∀ (e : Dev) (b : Bool) (n : Nat), (((((e.set F.PCMP_STAT_MISSED 1 u).set F.PCMP_TIME n u).pcmpAct u n).set F.PCMP_STAT_ARMED 1 u).pcmpNext u b).rest pcmpFields
        = e.rest pcmpFields := fun e b n => by
      rw [Dev.rest_pcmpNext, Dev.rest_set _ _ _ _ _ (by decide), Dev.rest_mono actFields_sub_pcmpFields (Dev.rest_pcmpAct ..), Dev.rest_set _ _ _ _ _ (by decide),
        Dev.rest_set _ _ _ _ _ (by decide)]
    simp only [Dev.pcmpArm]
    refine ite_keeps _ (Dev.rest_set _ _ _ _ _ (by decide)) (ite_keeps _ ?_ (ite_keeps _ ((ih _).trans (hstep ..)) (hstep ..)))
    rw [Dev.rest_set _ _ _ _ _ (by decide), Dev.rest_set _ _ _ _ _ (by decide)]

theorem Dev.rest_pcmpRun (d : Dev) (old new t0 t1 : Int) (u : Nat) : (d.pcmpRun old new t0 t1 u).rest pcmpFields = d.rest pcmpFields := by
  have hhit : ∀ (t : Nat) (b : Bool), ((((d.set F.PCMP_TIME t u).bump F.PCMP_STAT_HITS u).pcmpAct u t).pcmpNext u b).rest pcmpFields = d.rest pcmpFields := fun t b => by
    rw [Dev.rest_pcmpNext, Dev.rest_mono actFields_sub_pcmpFields (Dev.rest_pcmpAct ..), Dev.rest_bump _ _ _ _ _ (by decide), Dev.rest_set _ _ _ _ _ (by decide)]
  simp only [Dev.pcmpRun]
  exact ite_keeps _ (ite_keeps _ ((Dev.rest_pcmpArm ..).trans (hhit ..)) (hhit ..)) rfl

/-- A moving source reaches the compare units, their lamps and cameras alone. -/
theorem Dev.rest_pcmpMove (d : Dev) (src : Nat) (old new t0 t1 : Int) : (d.pcmpMove src old new t0 t1).rest pcmpFields = d.rest pcmpFields :=
  foldl_keeps (Dev.rest pcmpFields) _ (fun _ _ => ite_keeps _ (Dev.rest_pcmpRun ..) rfl) _ d

/-! ### A PERIOD beyond its 32 bits -/

/-- Compare unit 0 has LATE set, and its PERIOD holds 2^48. -/
def hugePeriod : State :=
  { State.reset with
    dev := { Dev.reset with
      regs := [(F.SYS_STAT_PHASE.key 0 0, 6), (F.PCMP_CFG_LATE.key 0 0, 1), (F.PCMP_PERIOD.key 0 0, 2 ^ 48)]
      pwr := { Dev.reset.pwr with st := .on, running := true, link := true } } }

/-- Is a compare unit's value late in what a command leaves. -/
def lateAfter (c : Instr) (s : State) : Bool :=
  match exec c s with
  | .next t => pcmpLate (s.dev.get F.PCMP_CFG_DIR 0) (t.dev.pcmpDiff (s.dev.pcmpSource (s.dev.get F.PCMP_CFG_SRC 0)) 0)
  | .fault _ => false
  | .refused _ => false

theorem ready_hugePeriod : hugePeriod.Ready .host 0 := by decide +kernel

/-- Refutes O55: R198's clause on PERIOD says nothing of the range that a register holds, and where PCMP0_PERIOD holds 2^48 the 48-bit integer part of VAL
comes back to its source with every late action; the two that the model takes leave the value late. -/
theorem not_compareUnitsAndOutputs : ¬ Obligations.CompareUnitsAndOutputs := by
  rintro ⟨-, harm, -⟩
  obtain ⟨e, hrun, -, -, -, hahead⟩ := (harm .host 0 0 hugePeriod 0 (hugePeriod.dev.set F.PCMP_VAL 0 0) 0 ready_hugePeriod (by decide +kernel) rfl (by decide +kernel)).2.2.2
    (.inl (by decide +kernel)) (by decide +kernel) (by decide +kernel)
  have hlate : lateAfter (.pcmpArm .host 0 0) hugePeriod = true := by decide +kernel
  rw [lateAfter, hrun] at hlate
  exact Bool.false_ne_true (hahead.symm.trans hlate)

end Sys2Proof.Machine
end


section
/-! PROOF. Encoders: counts, gate windows and index references (R167 to R170, R183, R185, R186). -/

namespace Sys2Proof.Machine

/-! ### Elements of a list -/

theorem setAt_congr {α : Type} {l : List α} {n : Nat} {f g : α → α} (h : ∀ x, l[n]? = some x → f x = g x) : setAt l n f = setAt l n g := by
  refine List.ext_getElem? fun k => ?_
  simp only [setAt, List.getElem?_modify]
  by_cases hk : n = k
  · subst hk
    cases hx : l[n]? with
    | none => rfl
    | some x => simp [h x hx]
  · simp [hk]

theorem Dev.modEnc_congr {d : Dev} {n : Nat} {f g : EncSt → EncSt} (h : f (d.encSt n) = g (d.encSt n)) : d.modEnc n f = d.modEnc n g := by
  have henc : setAt d.enc n f = setAt d.enc n g := setAt_congr fun x hx => by
    have hst : d.encSt n = x := by simp [Dev.encSt, hx]
    rw [← hst, h]
  simp only [Dev.modEnc, henc]

@[simp] theorem Dev.get_modEnc (d : Dev) (n : Nat) (g : EncSt → EncSt) (f : Field) (i j : Nat) : (d.modEnc n g).get f i j = d.get f i j := rfl

/-! ### An edge (R167, R168) -/

/-- The pins and the filtered state of an input after an edge, before anything counts. -/
def Dev.edgeSeen (d : Dev) (n : Nat) (a b : Bool) : Dev :=
  let e := d.encSt n
  let t0 := d.now - d.filterNs n
  let d := ((if e.a = a then d else d.encPin n 0 a t0))
  ((if e.b = b then d else d.encPin n 1 b t0)).passDrive.modEnc n (fun e => { e with a, b })

theorem Dev.encPin_keeps {γ : Type} (π : Dev → γ) (hπ : ∀ (d : Dev) p, π { d with pins := p } = π d) (d : Dev) (n line : Nat) (l : Bool) (t : Nat) : π (d.encPin n line l t) = π d := by
  simp only [Dev.encPin]
  split
  · rfl
  · exact hπ _ _

/-- An edge's pins reach the pins and the outbox alone. -/
theorem Dev.edgeSeen_keeps {γ : Type} (π : Dev → γ) (hπ : ∀ (d : Dev) p o, π { d with pins := p, outbox := o } = π d) (henc : ∀ (d : Dev) e, π { d with enc := e } = π d)
    (d : Dev) (n : Nat) (a b : Bool) : π (d.edgeSeen n a b) = π d := by
  have hpin : ∀ (d : Dev) (line : Nat) (l : Bool) (t : Nat), π (d.encPin n line l t) = π d := fun d line l t => d.encPin_keeps π (fun d p => hπ d p d.outbox) n line l t
  refine (henc _ _).trans ((Dev.passDrive_keeps π hπ _).trans ?_)
  refine ite_keeps π ?_ ((hpin ..).trans ?_) <;> exact ite_keeps π rfl (hpin ..)

theorem Dev.enc_edgeSeen (d : Dev) (n : Nat) (a b : Bool) : (d.edgeSeen n a b).enc = setAt d.enc n (fun e => { e with a, b }) := by
  have hpin : ∀ (d : Dev) (line : Nat) (l : Bool) (t : Nat), (d.encPin n line l t).enc = d.enc := fun d line l t => d.encPin_keeps Dev.enc (fun _ _ => rfl) n line l t
  refine congrArg (fun l => setAt l n (fun e : EncSt => { e with a, b })) ((Dev.passDrive_keeps Dev.enc (fun _ _ _ => rfl) _).trans ?_)
  refine ite_keeps Dev.enc ?_ ((hpin ..).trans ?_) <;> exact ite_keeps Dev.enc rfl (hpin ..)

/-- REVERSE reaches no encoder and no position (R180). -/
theorem Dev.reverseStep_keeps (d : Dev) : d.reverseStep.enc = d.enc ∧ d.reverseStep.pos.x = d.pos.x := by
  have hreport : ∀ e : Dev, (e.report 124).enc = e.enc ∧ (e.report 124).pos.x = e.pos.x := fun e =>
    ⟨Dev.enc_of_fixed (Dev.fixed_report e 124 0), by rw [Dev.pos_of_fixed (Dev.fixed_report e 124 0)]⟩
  simp only [Dev.reverseStep]
  split
  · exact ⟨rfl, rfl⟩
  · split
    · split
      · exact ⟨rfl, rfl⟩
      · exact hreport _
    · exact ⟨rfl, rfl⟩

/-- What a step writes of an encoder's state beside its count: times, the gate window and the marks. -/
def Dev.countMarks (d : Dev) (dir : Int) (t : Nat) (e : EncSt) : EncSt :=
  let marks := (List.range 4).map (fun k => (d.encSt k).travel)
  let e := { e with lastAt := t, edges := ((t, dir) :: e.edges).take 5, marks, changed := true }
  let e := match e.gateFirst with
    | none => { e with gateFirst := some t, gateLast := t, gateN := 0 }
    | some _ => { e with gateLast := t, gateN := e.gateN + dir }
  match e.period with
  | some (c, ns) => if (ns : Int) * d.get F.POS_SPEED_CFG_XOVER < c.natAbs * 1000000000 then { e with gate := true } else e
  | none => e

theorem Dev.countMarks_keeps (d : Dev) (dir : Int) (t : Nat) (e : EncSt) :
    (d.countMarks dir t e).count = e.count ∧ (d.countMarks dir t e).a = e.a ∧ (d.countMarks dir t e).b = e.b := by
  have hgate : ∀ e' : EncSt, (match e'.period with
      | some (c, ns) => if (ns : Int) * d.get F.POS_SPEED_CFG_XOVER < c.natAbs * 1000000000 then { e' with gate := true } else e'
      | none => e') = { e' with gate := (match e'.period with
      | some (c, ns) => if (ns : Int) * d.get F.POS_SPEED_CFG_XOVER < c.natAbs * 1000000000 then true else e'.gate
      | none => e'.gate) } := fun e' => by split <;> [split; rfl] <;> rfl
  simp only [Dev.countMarks, hgate]
  split <;> exact ⟨rfl, rfl, rfl⟩

theorem Dev.countStep_eq (d : Dev) (n : Nat) (dir : Int) (t : Nat) : ∃ c : Dev,
    d.countStep n dir t = (if c.pos.active = n then (c.modPos (fun p => { p with newest := some t })).reverseStep else c).pcmpMove n ((d.encSt n).count * 65536)
      (((d.encSt n).count + dir) * 65536) t t ∧ c = (d.moveCount n dir 0).modEnc n ((d.moveCount n dir 0).countMarks dir t) := ⟨_, rfl, rfl⟩

theorem Dev.encSt_of_enc {d e : Dev} (h : d.enc = e.enc) (n : Nat) : d.encSt n = e.encSt n := congrArg (fun l => l.getD n {}) h

/-- A count moves by one step; no other input's state and no position does. -/
theorem Dev.countStep_spec {d : Dev} {n : Nat} (hn : n < d.enc.length) (dir : Int) (t : Nat) :
    ((d.countStep n dir t).encSt n).count = (d.encSt n).count + dir ∧ ((d.countStep n dir t).encSt n).a = (d.encSt n).a ∧ ((d.countStep n dir t).encSt n).b = (d.encSt n).b ∧
      (∀ k, k ≠ n → (d.countStep n dir t).encSt k = d.encSt k) ∧ (d.countStep n dir t).pos.x = d.pos.x := by
  obtain ⟨c, hstep, hc⟩ := d.countStep_eq n dir t
  obtain ⟨r, hr⟩ : ∃ r, r = if c.pos.active = n then (c.modPos (fun p => { p with newest := some t })).reverseStep else c := ⟨_, rfl⟩
  have hkeep : r.enc = c.enc ∧ r.pos.x = c.pos.x := by
    rw [hr]
    split
    · exact Dev.reverseStep_keeps (c.modPos (fun p => { p with newest := some t }))
    · exact ⟨rfl, rfl⟩
  have hfixed := Dev.fixed_of_rest (r.rest_pcmpMove n ((d.encSt n).count * 65536) (((d.encSt n).count + dir) * 65536) t t)
  rw [← hr] at hstep
  have henc : ∀ k, (d.countStep n dir t).encSt k = c.encSt k := Dev.encSt_of_enc (by rw [hstep, Dev.enc_of_fixed hfixed, hkeep.1])
  have hx : (d.countStep n dir t).pos.x = d.pos.x := by rw [hstep, Dev.pos_of_fixed hfixed, hkeep.2, hc]; rfl
  have hlen : n < (d.moveCount n dir 0).enc.length := by simpa [Dev.moveCount, Dev.modEnc, setAt] using hn
  obtain ⟨k1, k2, k3⟩ := (d.moveCount n dir 0).countMarks_keeps dir t ((d.moveCount n dir 0).encSt n)
  have hself : c.encSt n = (d.moveCount n dir 0).countMarks dir t ((d.moveCount n dir 0).encSt n) := by rw [hc, Dev.encSt_modEnc_self hlen]
  refine ⟨?_, ?_, ?_, fun k hk => ?_, hx⟩
  · rw [henc, hself, k1, Dev.moveCount, Dev.encSt_modEnc_self hn]
  · rw [henc, hself, k2, Dev.moveCount, Dev.encSt_modEnc_self hn]
  · rw [henc, hself, k3, Dev.moveCount, Dev.encSt_modEnc_self hn]
  · rw [henc, hc, Dev.encSt_modEnc_ne hk, Dev.moveCount, Dev.encSt_modEnc_ne hk]

/-! ### A change of both lines (R168) -/

/-- SUSPECT, once set, outlives every report: a fence sets it, and nothing else writes it (R168, R410). -/
theorem outlives_suspect {n : Nat} (hn : n < 4) : Outlives (fun d => d.get F.ENC_STAT_SUSPECT n = 1) := by
  have hother : ∀ (d : Dev) (u : FUnit), (∀ k, u ≠ .enc k) → (d.fenceEffect u).beyond (ddrFields ++ portFields ++ camFields) = d.beyond (ddrFields ++ portFields ++ camFields) := by
    intro d u hu
    cases u with
    | enc k => exact absurd rfl (hu k)
    | ddr c => exact Dev.beyond_fenceChannel (by decide) d c
    | port p => exact Dev.beyond_disablePort (by decide) d p _
    | cam k => exact Dev.beyond_stopCamera (by decide) d k
    | isp => exact Dev.beyond_stopIsp (by decide) d
    | _ => rfl
  refine outlives_of_get (S := reactFields.filter (fun f => f ≠ F.ENC_STAT_SUSPECT)) (by decide) hn (by decide) (by decide) (by decide) (by decide) fun d u h => ?_
  by_cases hu : ∃ k, u = .enc k
  · obtain ⟨k, rfl⟩ := hu
    by_cases hk : k = n
    · subst hk; exact Dev.get_set_self ..
    · exact (Dev.get_set_ne _ _ _ _ _ _ _ _ (by simp only [Field.key, Field.addr, F.ENC_STAT_SUSPECT]; omega)).trans h
  · exact (Dev.get_of_beyond (hother d u fun k hk => hu ⟨k, hk⟩) (by decide) hn (by decide)).trans h

/-- The times of the illegal changes within the window, with this one. -/
def Dev.illegalTimes (d : Dev) (n : Nat) : List Nat := ((d.encSt n).illegal.filter (fun t => d.now < t + d.get F.ENC_ILL_WINDOW_MS n * 1000000)) ++ [d.now]

/-- An illegal change, counted and noted. -/
def Dev.illegalNoted (d : Dev) (n : Nat) : Dev :=
  (d.bump F.ENC_CNT_ILLEGAL n).modEnc n (fun e => { e with illegal := d.illegalTimes n, changed := true, illegalEdge := true })

theorem Dev.illegalStep_eq (d : Dev) (n : Nat) : d.illegalStep n =
    if d.get F.ENC_ILL_LIMIT n ≤ (d.illegalTimes n).length then
      (((d.illegalNoted n).set F.ENC_STAT_SUSPECT 1 n).modEnc n (fun e => { e with changed := false, agreeAt := none })).report (108 + n)
    else d.illegalNoted n := by
  have hlimit : (d.illegalNoted n).get F.ENC_ILL_LIMIT n = d.get F.ENC_ILL_LIMIT n := Dev.get_bump_distinct d (by decide) _ _ _ _ _
  exact hlimit ▸ rfl

theorem Dev.illegalNoted_keeps (d : Dev) (n : Nat) : (d.illegalNoted n).pos = d.pos ∧ (d.illegalNoted n).flt = d.flt ∧
    (d.illegalNoted n).get F.ENC_CNT_ILLEGAL n = min F.ENC_CNT_ILLEGAL.max (d.get F.ENC_CNT_ILLEGAL n + 1) := by
  refine ⟨rfl, rfl, (Dev.get_bump_self d F.ENC_CNT_ILLEGAL n 0 1).trans ?_⟩
  rw [sat_min]
  exact Nat.mod_eq_of_lt (Nat.lt_of_le_of_lt (Nat.min_le_left _ _) (by decide))

/-- What an illegal change leaves (R168). -/
theorem Dev.illegalStep_spec {d : Dev} {n : Nat} (hn : n < 4) (hlen : n < d.enc.length) :
    ((d.illegalStep n).encSt n).a = (d.encSt n).a ∧ ((d.illegalStep n).encSt n).b = (d.encSt n).b ∧ ((d.illegalStep n).encSt n).illegal = d.illegalTimes n ∧
      (∀ k, ((d.illegalStep n).encSt k).count = (d.encSt k).count) ∧ (d.illegalStep n).pos = d.pos ∧
      (d.illegalStep n).get F.ENC_CNT_ILLEGAL n = min F.ENC_CNT_ILLEGAL.max (d.get F.ENC_CNT_ILLEGAL n + 1) ∧
      (d.get F.ENC_ILL_LIMIT n ≤ (d.illegalTimes n).length →
        (d.illegalStep n).get F.ENC_STAT_SUSPECT n = 1 ∧ has (d.illegalStep n).flt.status (fkey (108 + n) 0) = true) := by
  obtain ⟨hpos, -, hcnt⟩ := d.illegalNoted_keeps n
  have hself : (d.illegalNoted n).encSt n = { d.encSt n with illegal := d.illegalTimes n, changed := true, illegalEdge := true } :=
    Dev.encSt_modEnc_self (d := d.bump F.ENC_CNT_ILLEGAL n) hlen _
  have hother : ∀ k, k ≠ n → (d.illegalNoted n).encSt k = d.encSt k := fun k hk => Dev.encSt_modEnc_ne (d := d.bump F.ENC_CNT_ILLEGAL n) hk _
  have hcount : ∀ k, ((d.illegalNoted n).encSt k).count = (d.encSt k).count := fun k => by
    by_cases hk : k = n
    · rw [hk, hself]
    · rw [hother k hk]
  rw [Dev.illegalStep_eq]
  by_cases hl : d.get F.ENC_ILL_LIMIT n ≤ (d.illegalTimes n).length
  · rw [if_pos hl]
    obtain ⟨c, hc⟩ : ∃ c, c = ((d.illegalNoted n).set F.ENC_STAT_SUSPECT 1 n).modEnc n (fun e => { e with changed := false, agreeAt := none }) := ⟨_, rfl⟩
    have hlen' : n < ((d.illegalNoted n).set F.ENC_STAT_SUSPECT 1 n).enc.length := by simpa [Dev.illegalNoted, Dev.modEnc, setAt] using hlen
    have hcself : c.encSt n = { (d.illegalNoted n).encSt n with changed := false, agreeAt := none } := by rw [hc, Dev.encSt_modEnc_self hlen']; rfl
    have hcother : ∀ k, k ≠ n → c.encSt k = (d.illegalNoted n).encSt k := fun k hk => by rw [hc, Dev.encSt_modEnc_ne hk]; rfl
    have hfixed := Dev.fixed_report c (108 + n) 0
    have henc : ∀ k, (c.report (108 + n)).encSt k = c.encSt k := Dev.encSt_of_enc (Dev.enc_of_fixed hfixed)
    have hcc : c.get F.ENC_CNT_ILLEGAL n = (d.illegalNoted n).get F.ENC_CNT_ILLEGAL n := by
      rw [hc, Dev.get_modEnc, Dev.get_set_distinct _ (by decide)]
    have hcs : c.get F.ENC_STAT_SUSPECT n = 1 := by rw [hc, Dev.get_modEnc, Dev.get_set_self]; rfl
    rw [← hc, henc, hcself, hself, Dev.pos_of_fixed hfixed, Dev.get_report _ _ _ (by decide) hn (by decide), hcc]
    refine ⟨rfl, rfl, rfl, fun k => ?_, by rw [hc]; exact hpos, hcnt, fun _ => ⟨(outlives_suspect hn).report hcs _ _, Dev.has_status_report _ _ _ (by decide)⟩⟩
    rw [henc, ← hcount k]
    by_cases hk : k = n
    · rw [hk, hcself]
    · rw [hcother k hk]
  · rw [if_neg hl, hself]
    exact ⟨rfl, rfl, rfl, hcount, hpos, hcnt, fun h => absurd h hl⟩

/-- The three outcomes of an edge. -/
theorem Dev.encoderEdge_eq (d : Dev) (n : Nat) (a b : Bool) {a' b' : Bool} (ha : a' = if d.passes n 0 a then a else (d.encSt n).a)
    (hb : b' = if d.passes n 1 b then b else (d.encSt n).b) : ∃ t, d.encoderEdge n a b =
      if (!(d.edgeSeen n a' b').posOn || (decide ((d.encSt n).a = a') && decide ((d.encSt n).b = b'))) = true then d.edgeSeen n a' b'
      else if (decide ((d.encSt n).a ≠ a') && decide ((d.encSt n).b ≠ b')) = true then (d.edgeSeen n a' b').illegalStep n
      else (d.edgeSeen n a' b').countStep n (if (d.edgeSeen n a' b').flag F.ENC_CFG_INVERT n = true then -quadStep (d.encSt n).a (d.encSt n).b a' b'
        else quadStep (d.encSt n).a (d.encSt n).b a' b') t := by
  subst ha hb
  exact ⟨_, rfl⟩

theorem gives_encoderEdge (n : Enc) (a b : Bool) (s : State) : Gives (.encoderEdge n a b) s (s.dev.encoderEdge n.val a b) := rfl

theorem posOn_congr {d e : Dev} (hp : d.pwr = e.pwr) (hr : d.regs = e.regs) : d.posOn = e.posOn := by
  have hflag : d.flag F.POS_CTRL_ENABLE = e.flag F.POS_CTRL_ENABLE := congrArg (fun r : RegFile => decide (r.get F.POS_CTRL_ENABLE 0 0 ≠ 0)) hr
  rw [Dev.posOn, Dev.posOn, hp, hflag]

/-- O51's clauses on ENCODER_EDGE. -/
theorem encoderEdge_counts (n : Enc) (a b a' b' : Bool) (s : State) (e : EncSt) (he : e = s.dev.encSt n.val) (hlen : n.val < s.dev.enc.length)
    (ha : a' = (if s.dev.passes n.val 0 a then a else e.a)) (hb : b' = (if s.dev.passes n.val 1 b then b else e.b)) :
    (s.dev.posOn = true → (e.a ≠ a' ∧ e.b = b') ∨ (e.a = a' ∧ e.b ≠ b') →
      Completes (.encoderEdge n a b) s (fun d => (d.encSt n.val).a = a' ∧ (d.encSt n.val).b = b' ∧
        (d.encSt n.val).count = e.count + (if s.dev.get F.ENC_CFG_INVERT n.val = 0 then quadStep e.a e.b a' b' else -quadStep e.a e.b a' b') ∧
        (∀ k, k ≠ n.val → (d.encSt k).count = (s.dev.encSt k).count) ∧ d.pos.x = s.dev.pos.x)) ∧
    (∀ recent, s.dev.posOn = true → e.a ≠ a' → e.b ≠ b' →
      recent = (e.illegal.filter (fun t => s.dev.raw < t + s.dev.get F.ENC_ILL_WINDOW_MS n.val * 1000000)) ++ [s.dev.raw] →
      Completes (.encoderEdge n a b) s (fun d => (d.encSt n.val).a = a' ∧ (d.encSt n.val).b = b' ∧ (d.encSt n.val).illegal = recent ∧
        (∀ k, (d.encSt k).count = (s.dev.encSt k).count) ∧ d.pos = s.dev.pos ∧
        d.get F.ENC_CNT_ILLEGAL n.val = min F.ENC_CNT_ILLEGAL.max (s.dev.get F.ENC_CNT_ILLEGAL n.val + 1) ∧
        (s.dev.get F.ENC_ILL_LIMIT n.val ≤ recent.length → d.get F.ENC_STAT_SUSPECT n.val = 1 ∧ has d.flt.status (fkey (108 + n.val) 0) = true) ∧
        (recent.length < s.dev.get F.ENC_ILL_LIMIT n.val → d.flt = s.dev.flt ∧ Dev.SameRegsBut s.dev d [F.ENC_CNT_ILLEGAL.key n.val 0]))) ∧
    (s.dev.posOn = false ∨ (e.a = a' ∧ e.b = b') →
      Completes (.encoderEdge n a b) s (fun d => d.enc = setAt s.dev.enc n.val (fun e => { e with a := a', b := b' }) ∧ d.regs = s.dev.regs ∧ d.pos = s.dev.pos ∧
        d.flt = s.dev.flt)) := by
  subst he
  obtain ⟨t, hstep⟩ := s.dev.encoderEdge_eq n.val a b ha hb
  obtain ⟨c, hc⟩ : ∃ c, c = s.dev.edgeSeen n.val a' b' := ⟨_, rfl⟩
  have henc : c.enc = setAt s.dev.enc n.val (fun e => { e with a := a', b := b' }) := hc ▸ s.dev.enc_edgeSeen n.val a' b'
  have hregs : c.regs = s.dev.regs := hc ▸ s.dev.edgeSeen_keeps Dev.regs (fun _ _ _ => rfl) (fun _ _ => rfl) n.val a' b'
  have hpos : c.pos = s.dev.pos := hc ▸ s.dev.edgeSeen_keeps Dev.pos (fun _ _ _ => rfl) (fun _ _ => rfl) n.val a' b'
  have hflt : c.flt = s.dev.flt := hc ▸ s.dev.edgeSeen_keeps Dev.flt (fun _ _ _ => rfl) (fun _ _ => rfl) n.val a' b'
  have hpwr : c.pwr = s.dev.pwr := hc ▸ s.dev.edgeSeen_keeps Dev.pwr (fun _ _ _ => rfl) (fun _ _ => rfl) n.val a' b'
  have hraw : c.raw = s.dev.raw := hc ▸ s.dev.edgeSeen_keeps Dev.raw (fun _ _ _ => rfl) (fun _ _ => rfl) n.val a' b'
  have hget : ∀ f i j, c.get f i j = s.dev.get f i j := fun f i j => by simp only [Dev.get, hregs]
  have hlen' : n.val < c.enc.length := by rw [henc]; simpa [setAt] using hlen
  have hself : c.encSt n.val = { s.dev.encSt n.val with a := a', b := b' } := by
    simp only [Dev.encSt, henc, getD_setAt, hlen, and_self, if_true]
  have hother : ∀ k, k ≠ n.val → c.encSt k = s.dev.encSt k := fun k hk => by simp only [Dev.encSt, henc, getD_setAt, hk, false_and, if_false]
  have hrun : Gives (.encoderEdge n a b) s _ := (gives_encoderEdge n a b s).trans (congrArg (fun e => Host.Outcome.next { s with dev := e }) hstep)
  rw [← hc, posOn_congr hpwr hregs] at hrun
  refine ⟨fun hon hor => ?_, fun recent hon hna hnb hrec => ?_, fun hor => ?_⟩
  · obtain ⟨k1, k2, k3, k4, k5⟩ := c.countStep_spec hlen' (if c.flag F.ENC_CFG_INVERT n.val = true then -quadStep (s.dev.encSt n.val).a (s.dev.encSt n.val).b a' b'
        else quadStep (s.dev.encSt n.val).a (s.dev.encSt n.val).b a' b') t
    refine ⟨_, gives_of_neg (gives_of_neg hrun ?_) ?_, ?_, ?_, ?_, fun k hk => ?_, k5.trans (by rw [hpos])⟩
    · obtain ⟨h1, h2⟩ | ⟨h1, h2⟩ := hor <;> simp [hon, h1, h2]
    · obtain ⟨h1, h2⟩ | ⟨h1, h2⟩ := hor <;> simp [h1, h2]
    · rw [k2, hself]
    · rw [k3, hself]
    · rw [k1, hself]
      by_cases hi : s.dev.get F.ENC_CFG_INVERT n.val = 0
      · rw [if_pos hi, if_neg (by rw [Dev.flag_eq_true, hget]; simpa using hi)]
      · rw [if_neg hi, if_pos (by rw [Dev.flag_eq_true, hget]; exact hi)]
    · rw [k4 k hk, hother k hk]
  · have htimes : c.illegalTimes n.val = recent := by
      rw [Dev.illegalTimes, hself, hrec, hget]
      simp only [Dev.now, hraw]
    obtain ⟨k1, k2, k3, k4, k5, k6, k7⟩ := c.illegalStep_spec n.isLt hlen'
    rw [htimes, hget] at k7
    refine ⟨_, gives_of_pos (gives_of_neg hrun (by simp [hon, hna])) (by simp [hna, hnb]), ?_, ?_, k3.trans htimes, fun k => ?_, k5.trans hpos, ?_, k7, fun hl => ?_⟩
    · rw [k1, hself]
    · rw [k2, hself]
    · rw [k4]
      by_cases hk : k = n.val
      · rw [hk, hself]
      · rw [hother k hk]
    · rw [k6, hget]
    · have hno : c.illegalStep n.val = c.illegalNoted n.val := by
        rw [Dev.illegalStep_eq, if_neg (by rw [htimes, hget]; omega)]
      rw [hno]
      refine ⟨hflt, fun f i j hf => ?_⟩
      rw [← hget f i j]
      exact Dev.get_bump_ne _ _ _ _ _ _ _ _ (by simpa using hf)
  · refine ⟨_, gives_of_pos hrun ?_, henc, hregs, hpos, hflt⟩
    obtain h | ⟨h1, h2⟩ := hor
    · simp [h]
    · simp [h1, h2]

/-! ### Gate windows (R183) -/

theorem gives_speedGateWindow (n : Enc) (s : State) : Gives (.speedGateWindow n) s (s.dev.gateWindow n.val) := rfl

/-- What a gate window's end writes. -/
def gateEnded (now x : Nat) (res : Int × Nat) (e : EncSt) : EncSt :=
  { e with gateRes := res, gateAt := now, gateFirst := none, gateN := 0, gate := e.gate && !decide (res.1.natAbs * 1000000000 < (x - x / 8) * res.2 ∨ res.2 = 0) }

theorem Dev.gateWindow_of_due {d : Dev} {n x : Nat} {res : Int × Nat} (hon : d.posOn = true) (hx : x = d.get F.POS_SPEED_CFG_XOVER)
    (hdue : (d.encSt n).gateAt + d.get F.POS_SPEED_CFG_GATE_MS * 1000000 ≤ d.raw)
    (hres : ((d.encSt n).gateFirst = none ∧ res = (0, 0)) ∨ (∃ t, (d.encSt n).gateFirst = some t ∧ res = ((d.encSt n).gateN, (d.encSt n).gateLast - t))) :
    d.gateWindow n = d.modEnc n (gateEnded d.raw x res) := by
  have hrun : d.gateWindow n = d.modEnc n (fun e =>
      { e with gateRes := (match e.gateFirst with | some t => (e.gateN, e.gateLast - t) | none => (0, 0)), gateAt := d.raw, gateFirst := none, gateN := 0, gate := e.gate &&
        !(decide ((match e.gateFirst with | some t => (e.gateN, e.gateLast - t) | none => ((0, 0) : Int × Nat)).1.natAbs * 1000000000 <
          (d.get F.POS_SPEED_CFG_XOVER - d.get F.POS_SPEED_CFG_XOVER / 8) * (match e.gateFirst with | some t => (e.gateN, e.gateLast - t) | none => ((0, 0) : Int × Nat)).2) ||
          decide ((match e.gateFirst with | some t => (e.gateN, e.gateLast - t) | none => ((0, 0) : Int × Nat)).2 = 0)) }) := by
    refine if_neg ?_
    rw [hon, Bool.or_eq_true, decide_eq_true_eq]
    exact fun h => h.elim (fun h => by cases h) (fun h => absurd h (Nat.not_lt.mpr hdue))
  rw [hrun]
  refine Dev.modEnc_congr ?_
  obtain ⟨hf, rfl⟩ | ⟨t, hf, rfl⟩ := hres
  · simp only [hf, gateEnded, hx, Bool.decide_or]
  · simp only [hf, gateEnded, hx, Bool.decide_or]

theorem Dev.gateWindow_of_not {d : Dev} {n : Nat} (h : d.posOn = false ∨ d.raw < (d.encSt n).gateAt + d.get F.POS_SPEED_CFG_GATE_MS * 1000000) : d.gateWindow n = d := by
  refine if_pos ?_
  rw [Bool.or_eq_true, decide_eq_true_eq, Bool.not_eq_true']
  exact h

/-! ### Index references (R185, R186) -/

theorem gives_encoderIndex (n : Enc) (s : State) : Gives (.encoderIndex n) s
    (if s.dev.passes n.val 2 true = true then ((s.dev.encPin n.val 2 true (s.dev.raw - s.dev.filterNs n.val)).passDrive).indexEdge n.val else s.dev) := rfl

/-- An index outside its window, before the reference's shift is judged. -/
def Dev.indexMissed (d : Dev) (n : Nat) (ofs : Int) : Dev :=
  ((((d.set F.ENC_IDX_LAST (unsigned 32 (openRound 185 ofs 256)) n).bump F.ENC_CNT_MISPLACED n).bump F.ENC_STAT_MISPLACED_RUN n).modEnc n
    (fun e => { e with runOfs := (ofs :: (d.encSt n).runOfs).take 3, misplaced := true })).report (112 + n)

/-- A misplaced index's run makes the reference shifted (R186). -/
def Dev.indexShift (d : Dev) (n : Nat) (c : Int) (same : Bool) : Dev :=
  if same || d.flag F.ENC_STAT_SHIFTED n then
    let d := d.modEnc n (fun e => { e with newRef := some c })
    if d.flag F.ENC_STAT_SHIFTED n then d
    else ((d.set F.ENC_STAT_SHIFTED 1 n).irq F.POS_IRQ_STAT F.POS_IRQ_EN 3 none).report (116 + n)
  else d

section
variable {d : Dev} {n : Nat}

theorem Dev.indexEdge_off (h : d.posOn = false ∨ d.get F.ENC_IDX_PERIOD n = 0) : d.indexEdge n = d := by
  refine if_pos ?_
  rw [Bool.or_eq_true, decide_eq_true_eq, Bool.not_eq_true']
  exact h.imp id (fun h => by rw [h]; rfl)

theorem Dev.indexEdge_on (hon : d.posOn = true) (hp : d.get F.ENC_IDX_PERIOD n ≠ 0) :
    ¬ (!d.posOn || decide ((d.get F.ENC_IDX_PERIOD n : Int) * 256 = 0)) = true := by
  rw [hon, Bool.or_eq_true, decide_eq_true_eq]
  rintro (h | h)
  · cases h
  · omega

theorem Dev.indexEdge_first (hon : d.posOn = true) (hp : d.get F.ENC_IDX_PERIOD n ≠ 0) (hr : (d.encSt n).ref = none) :
    d.indexEdge n = d.modEnc n (fun e => { e with ref := some e.corrected }) := by
  simp only [Dev.indexEdge]
  rw [if_neg (Dev.indexEdge_on hon hp)]
  simp only [hr]

theorem Dev.indexEdge_again {r ofs : Int} (hon : d.posOn = true) (hp : d.get F.ENC_IDX_PERIOD n ≠ 0) (hr : (d.encSt n).ref = some r)
    (hofs : ofs = (d.encSt n).corrected - r - roundDiv ((d.encSt n).corrected - r) (d.get F.ENC_IDX_PERIOD n * 256) * (d.get F.ENC_IDX_PERIOD n * 256)) :
    ∃ same, d.indexEdge n = if ofs.natAbs ≤ d.get F.ENC_IDX_WIN n * 256 then
        ((d.set F.ENC_IDX_LAST (unsigned 32 (openRound 185 ofs 256)) n).set F.ENC_STAT_MISPLACED_RUN 0 n).modEnc n (fun e => { e with pend := -ofs, runOfs := [] })
      else (d.indexMissed n ofs).indexShift n (d.encSt n).corrected same := by
  have hwin : ((d.get F.ENC_IDX_WIN n : Int) * 256).natAbs = d.get F.ENC_IDX_WIN n * 256 := by omega
  rw [← hwin]
  simp only [Dev.indexEdge]
  rw [if_neg (Dev.indexEdge_on hon hp)]
  simp only [hr, ← hofs]
  exact ⟨_, rfl⟩

end

/-- A part of an input's state that a change leaves. -/
theorem Dev.modEnc_keeps {γ : Type} (π : EncSt → γ) (f : EncSt → EncSt) (h : ∀ e, π (f e) = π e) (d : Dev) (n k : Nat) : π ((d.modEnc n f).encSt k) = π (d.encSt k) := by
  rw [Dev.encSt_modEnc]
  exact ite_keeps π (h _) rfl

/-- What a misplaced index leaves of an input's reference: the reference, the pending correction and the count. -/
def EncSt.reference (e : EncSt) : Option Int × Int × Int := (e.ref, e.pend, e.count)

/-- The parts that a misplaced index leaves. -/
theorem Dev.indexShift_keeps (d : Dev) {n : Nat} (hn : n < 4) (c : Int) (same : Bool) : ((d.indexShift n c same).encSt n).reference = (d.encSt n).reference ∧
    (d.indexShift n c same).pos = d.pos ∧ (d.indexShift n c same).get F.ENC_CNT_MISPLACED n = d.get F.ENC_CNT_MISPLACED n ∧
    ∀ k, has d.flt.status k = true → has (d.indexShift n c same).flt.status k = true := by
  have href : ((d.modEnc n (fun e => { e with newRef := some c })).encSt n).reference = (d.encSt n).reference := Dev.modEnc_keeps EncSt.reference _ (by intro _; rfl) d n n
  obtain ⟨e, he⟩ : ∃ e, e = ((d.modEnc n (fun e => { e with newRef := some c })).set F.ENC_STAT_SHIFTED 1 n).irq F.POS_IRQ_STAT F.POS_IRQ_EN 3 none := ⟨_, rfl⟩
  have hfixed := Dev.fixed_report e (116 + n) 0
  have hcnt : e.get F.ENC_CNT_MISPLACED n = d.get F.ENC_CNT_MISPLACED n := by
    rw [he, Dev.get_irq_ne _ _ _ _ _ _ (Field.key_ne_of_distinct (by decide) _ _ _ _), Dev.get_set_distinct _ (by decide), Dev.get_modEnc]
  simp only [Dev.indexShift]
  split
  · split
    · exact ⟨href, rfl, rfl, fun _ h => h⟩
    · rw [← he, Dev.pos_of_fixed hfixed, Dev.encSt_of_enc (Dev.enc_of_fixed hfixed), Dev.get_report _ _ _ (by decide) hn (by decide), hcnt]
      exact ⟨by rw [he]; exact href, by rw [he]; rfl, rfl, fun k hk => Dev.has_status_report_of (by rw [he]; exact hk) _ _⟩
  · exact ⟨rfl, rfl, rfl, fun _ h => h⟩

theorem Dev.indexMissed_spec (d : Dev) {n : Nat} (hn : n < 4) (ofs : Int) : ((d.indexMissed n ofs).encSt n).reference = (d.encSt n).reference ∧
    (d.indexMissed n ofs).pos = d.pos ∧ (d.indexMissed n ofs).get F.ENC_CNT_MISPLACED n = min F.ENC_CNT_MISPLACED.max (d.get F.ENC_CNT_MISPLACED n + 1) ∧
    has (d.indexMissed n ofs).flt.status (fkey (112 + n) 0) = true := by
  obtain ⟨b, hb⟩ : ∃ b, b = ((d.set F.ENC_IDX_LAST (unsigned 32 (openRound 185 ofs 256)) n).bump F.ENC_CNT_MISPLACED n).bump F.ENC_STAT_MISPLACED_RUN n := ⟨_, rfl⟩
  obtain ⟨e, he⟩ : ∃ e, e = b.modEnc n (fun e => { e with runOfs := (ofs :: (d.encSt n).runOfs).take 3, misplaced := true }) := ⟨_, rfl⟩
  have hmiss : d.indexMissed n ofs = e.report (112 + n) := by rw [he, hb]; rfl
  have hfixed := Dev.fixed_report e (112 + n) 0
  have hcnt : e.get F.ENC_CNT_MISPLACED n = min F.ENC_CNT_MISPLACED.max (d.get F.ENC_CNT_MISPLACED n + 1) := by
    rw [he, Dev.get_modEnc, hb, Dev.get_bump_distinct _ (by decide), Dev.get_bump_self, Dev.get_set_distinct _ (by decide), sat_min]
    exact Nat.mod_eq_of_lt (Nat.lt_of_le_of_lt (Nat.min_le_left _ _) (by decide))
  rw [hmiss, Dev.pos_of_fixed hfixed, Dev.encSt_of_enc (Dev.enc_of_fixed hfixed), Dev.get_report _ _ _ (by decide) hn (by decide), hcnt]
  refine ⟨?_, by rw [he, hb]; rfl, rfl, Dev.has_status_report _ _ _ (by omega)⟩
  rw [he]
  refine (Dev.modEnc_keeps EncSt.reference _ (by intro _; rfl) b n n).trans ?_
  rw [hb]
  rfl

/-- O51's clauses on ENCODER_INDEX. -/
theorem encoderIndex_sets (n : Enc) (s : State) (e : EncSt) (c : Dev) (he : e = s.dev.encSt n.val) (hpass : s.dev.passes n.val 2 true = true)
    (hc : c = (s.dev.encPin n.val 2 true (s.dev.raw - s.dev.filterNs n.val)).passDrive) :
    (s.dev.posOn = false ∨ s.dev.get F.ENC_IDX_PERIOD n.val = 0 → Gives (.encoderIndex n) s c) ∧
    (s.dev.posOn = true → s.dev.get F.ENC_IDX_PERIOD n.val ≠ 0 →
      (e.ref = none → Gives (.encoderIndex n) s (c.modEnc n.val (fun e => { e with ref := some e.corrected }))) ∧
      (∀ r ofs, e.ref = some r →
        ofs = e.corrected - r - roundDiv (e.corrected - r) (s.dev.get F.ENC_IDX_PERIOD n.val * 256) * (s.dev.get F.ENC_IDX_PERIOD n.val * 256) →
        (ofs.natAbs ≤ s.dev.get F.ENC_IDX_WIN n.val * 256 →
          Gives (.encoderIndex n) s (((c.set F.ENC_IDX_LAST (unsigned 32 (openRound 185 ofs 256)) n.val).set F.ENC_STAT_MISPLACED_RUN 0 n.val).modEnc n.val
            (fun e => { e with pend := -ofs, runOfs := [] }))) ∧
        (s.dev.get F.ENC_IDX_WIN n.val * 256 < ofs.natAbs →
          Completes (.encoderIndex n) s (fun d => has d.flt.status (fkey (112 + n.val) 0) = true ∧ (d.encSt n.val).ref = some r ∧
            (d.encSt n.val).pend = e.pend ∧ (d.encSt n.val).count = e.count ∧ d.pos = s.dev.pos ∧
            d.get F.ENC_CNT_MISPLACED n.val = min F.ENC_CNT_MISPLACED.max (s.dev.get F.ENC_CNT_MISPLACED n.val + 1))))) := by
  subst he
  have hkeep : ∀ {γ : Type} (π : Dev → γ), (∀ (d : Dev) p o, π { d with pins := p, outbox := o } = π d) → π c = π s.dev := fun π hπ => by
    rw [hc, Dev.passDrive_keeps π hπ, Dev.encPin_keeps π fun d p => hπ d p d.outbox]
  have hregs : c.regs = s.dev.regs := hkeep Dev.regs fun _ _ _ => rfl
  have hpos : c.pos = s.dev.pos := hkeep Dev.pos fun _ _ _ => rfl
  have hst : c.encSt n.val = s.dev.encSt n.val := Dev.encSt_of_enc (hkeep Dev.enc fun _ _ _ => rfl) _
  have hon : c.posOn = s.dev.posOn := posOn_congr (hkeep Dev.pwr fun _ _ _ => rfl) hregs
  have hget : ∀ f i j, c.get f i j = s.dev.get f i j := fun f i j => by simp only [Dev.get, hregs]
  have hrun := gives_of_pos (gives_encoderIndex n s) hpass
  rw [← hc] at hrun
  refine ⟨fun hor => ?_, fun hon' hper => ⟨fun hnone => ?_, fun r ofs hr hofs => ?_⟩⟩
  · rwa [Dev.indexEdge_off (by rw [hon, hget]; exact hor)] at hrun
  · rwa [Dev.indexEdge_first (hon.trans hon') (by rw [hget]; exact hper) (by rw [hst]; exact hnone)] at hrun
  · obtain ⟨same, hsame⟩ := Dev.indexEdge_again (d := c) (n := n.val) (r := r) (ofs := ofs) (hon.trans hon') (by rw [hget]; exact hper) (by rw [hst]; exact hr)
      (by rw [hst, hget]; exact hofs)
    rw [hsame, hget F.ENC_IDX_WIN] at hrun
    obtain ⟨k1, k2, k3, k4⟩ := (c.indexMissed n.val ofs).indexShift_keeps n.isLt (c.encSt n.val).corrected same
    obtain ⟨j1, j2, j3, j4⟩ := c.indexMissed_spec n.isLt ofs
    generalize (c.indexMissed n.val ofs).indexShift n.val (c.encSt n.val).corrected same = x at hrun k1 k2 k3 k4
    rw [j1, hst] at k1
    simp only [EncSt.reference, Prod.mk.injEq] at k1
    obtain ⟨href, hpend, hcount⟩ := k1
    exact ⟨fun hin => gives_of_pos hrun hin, fun hout => ⟨x, gives_of_neg hrun (Nat.not_le.mpr hout), k4 _ j4, href.trans hr, hpend, hcount, k2.trans (j2.trans hpos),
      k3.trans (j3.trans (by rw [hget]))⟩⟩

/-- A shifted reference is adopted (R186). -/
theorem exec_indexAdopt {rq : Requester} (n : Enc) {s : State} (h : s.Ready rq 2) : GivesAudited (.indexAdopt rq n) s rq (0x6012C + 0x40 * n.val) ((s.dev.touch rq).adoptIndex n.val) := by
  obtain ⟨old, new, hrow⟩ := State.row_audited h (.indexAdopt rq n) (0x6012C + 0x40 * n.val) 1 ⟨0, some .installer⟩ (fun d => d.adoptIndex n.val)
    (by revert n; decide) (by revert n; cases rq <;> decide +kernel) (by decide) (by decide) (by decide)
  exact ⟨old, new, congrArg Host.Outcome.next hrow⟩

theorem gives_encoderCountClear {rq : Requester} (n : Enc) {s : State} (h : s.Ready rq 0) :
    Gives (.encoderCountClear rq n) s ((s.dev.set F.ENC_CNT_ILLEGAL 0 n.val).set F.ENC_CNT_MISPLACED 0 n.val) := by
  simp only [Gives, exec, execEncoderCountClear]
  rw [State.row_none h _ _ _ _ _ (by revert n; decide) (by revert n; cases rq <;> decide +kernel) (by decide) (by decide) (by decide)]
  rfl

/-- Settles O51: an edge of one line, of both and of none; CLEAR; a gate window; an index and ADOPT. -/
theorem encodersAreCounted : Obligations.EncodersAreCounted := by
  refine ⟨⟨fun n a b a' b' s e he hlen ha hb => encoderEdge_counts n a b a' b' s e he hlen ha hb, fun rq n s h => gives_encoderCountClear n h, fun n s e res x he hx => ⟨fun hon hdue hres => ?_, fun h => ?_⟩⟩,
    fun n s e c he _ hpass hc => encoderIndex_sets n s e c he hpass hc, fun n s hno => ?_, fun rq n s h => ⟨fun hsh => ?_, fun hsh => ?_⟩⟩
  · subst he
    exact (congrArg (fun d => Host.Outcome.next { s with dev := d }) (Dev.gateWindow_of_due hon hx hdue hres) :)
  · subst he
    exact (congrArg (fun d => Host.Outcome.next { s with dev := d }) (Dev.gateWindow_of_not h) :)
  · exact gives_of_neg (gives_encoderIndex n s) (by rw [hno]; decide)
  · have hstay : (s.dev.touch rq).adoptIndex n.val = s.dev.touch rq := if_neg (by rw [Dev.flag_eq_true, Dev.get_touch]; simpa using hsh)
    have hrun := exec_indexAdopt n h
    rwa [hstay] at hrun
  · have hgo : (s.dev.touch rq).adoptIndex n.val = (((s.dev.touch rq).set F.ENC_STAT_SHIFTED 0 n.val).set F.ENC_STAT_MISPLACED_RUN 0 n.val).modEnc n.val
        (fun e => { e with ref := none, newRef := none, runOfs := [] }) := if_pos (by rw [Dev.flag_eq_true, Dev.get_touch]; exact hsh)
    have hrun := exec_indexAdopt n h
    rwa [hgo] at hrun

end Sys2Proof.Machine
end


section
/-! PROOF. The start of the position block, the bar delays and the tracking loop (R172 to R177). -/

namespace Sys2Proof.Machine

/-! ### What moves (R172, R177) -/

/-- The model's position, speed and time of the newest count, the active encoder and the bars' coordinates. -/
def Dev.motion (d : Dev) : Int × Int × Option Nat × Nat × List Int := (d.pos.x, d.pos.v, d.pos.newest, d.pos.active, d.pos.bars.map PosBar.p)

theorem Dev.motion_of_pos {d e : Dev} (h : e.pos = d.pos) : e.motion = d.motion := by simp only [Dev.motion, h]
theorem Dev.motion_of_fixed {d e : Dev} (h : e.fixed = d.fixed) : e.motion = d.motion := Dev.motion_of_pos (Dev.pos_of_fixed h)

theorem map_setAt {α β : Type} (g : α → β) (l : List α) (n : Nat) {f : α → α} (h : ∀ x, g (f x) = g x) : (setAt l n f).map g = l.map g := by
  refine List.ext_getElem? fun k => ?_
  simp only [setAt, List.getElem?_map, List.getElem?_modify]
  cases l[k]? <;> by_cases hk : n = k <;> simp [hk, h]

theorem Dev.motion_modBar (d : Dev) (b : Nat) {f : PosBar → PosBar} (h : ∀ x, (f x).p = x.p) : (d.modBar b f).motion = d.motion := by
  have hbars : (setAt d.pos.bars b f).map PosBar.p = d.pos.bars.map PosBar.p := map_setAt PosBar.p _ _ h
  simp only [Dev.motion, Dev.modBar, Dev.modPos, hbars]

/-- A coordinate of what moves. -/
theorem Dev.posBar_of_motion {d e : Dev} (h : e.motion = d.motion) (b : Nat) : (e.posBar b).p = (d.posBar b).p := by
  have hbars : e.pos.bars.map PosBar.p = d.pos.bars.map PosBar.p := congrArg (fun m => m.2.2.2.2) h
  have hb := congrArg (fun l => l[b]?) hbars
  simp only [List.getElem?_map] at hb
  simp only [Dev.posBar, List.getD_eq_getElem?_getD]
  cases h1 : e.pos.bars[b]? <;> cases h2 : d.pos.bars[b]? <;> simp_all

theorem Dev.motion_eq {d e : Dev} (h : e.motion = d.motion) : e.pos.x = d.pos.x ∧ e.pos.v = d.pos.v ∧ e.pos.newest = d.pos.newest ∧ e.pos.active = d.pos.active := by
  simp only [Dev.motion, Prod.mk.injEq] at h
  exact ⟨h.1, h.2.1, h.2.2.1, h.2.2.2.1⟩

@[simp] theorem Dev.motion_set (d : Dev) (f : Field) (v i j : Nat) : (d.set f v i j).motion = d.motion := rfl
@[simp] theorem Dev.motion_report (d : Dev) (s i : Nat) : (d.report s i).motion = d.motion := Dev.motion_of_fixed (Dev.fixed_report ..)
@[simp] theorem Dev.motion_drvWatch (d : Dev) : d.drvWatch.motion = d.motion := Dev.motion_of_fixed (Dev.fixed_drvWatch d)
@[simp] theorem Dev.motion_noteSpeed (d : Dev) : d.noteSpeed.motion = d.motion := Dev.motion_of_pos d.noteSpeed_keeps.1
@[simp] theorem Dev.motion_pcmpMove (d : Dev) (src : Nat) (old new t0 t1 : Int) : (d.pcmpMove src old new t0 t1).motion = d.motion :=
  Dev.motion_of_fixed (Dev.fixed_of_rest (Dev.rest_pcmpMove ..))

/-! ### The parts of an update after the loop -/

@[simp] theorem Dev.motion_reverseStep (d : Dev) : d.reverseStep.motion = d.motion := by
  simp only [Dev.reverseStep]
  refine ite_keeps Dev.motion rfl (ite_keeps Dev.motion (ite_keeps Dev.motion rfl ?_) rfl)
  rw [Dev.motion_report]
  rfl

@[simp] theorem Dev.motion_noteReached (d : Dev) : d.noteReached.motion = d.motion := by
  simp only [Dev.motion, Dev.noteReached, Dev.modPos, Prod.mk.injEq, true_and]
  refine List.ext_getElem? fun k => ?_
  simp only [List.getElem?_map, List.getElem?_mapIdx]
  cases d.pos.bars[k]? <;> rfl

@[simp] theorem Dev.motion_emuFollow (d : Dev) (e : Nat) : (d.emuFollow e).motion = d.motion := by
  simp only [Dev.emuFollow]
  refine ite_keeps Dev.motion rfl (ite_keeps Dev.motion rfl ?_)
  rw [Dev.motion_report]
  rfl

@[simp] theorem Dev.motion_posSpeeds (d : Dev) : d.posSpeeds.motion = d.motion := by
  have hspeed (e : Dev) (v : Int) : (e.modPos (fun p => { p with speed := v })).motion = e.motion := rfl
  have hset (e : Dev) (n : Nat) : (e.set F.ENC_SPEED (unsigned 32 (e.encSpeed n)) n).motion = e.motion := Dev.motion_of_pos (Dev.set_pos ..)
  have hspeeds := foldl_keeps Dev.motion (fun (d : Dev) n => d.set F.ENC_SPEED (unsigned 32 (d.encSpeed n)) n) hset (List.range 4) d
  rw [Dev.posSpeeds, Dev.motion_noteSpeed]
  generalize (List.range 4).foldl (fun d n => d.set F.ENC_SPEED (unsigned 32 (d.encSpeed n)) n) d = e at hspeeds
  rw [← hspeeds]
  split
  · rfl
  · exact hspeed e 0
  · exact hspeed e _

@[simp] theorem Dev.motion_releaseStep (d : Dev) (b : Nat) : (d.releaseStep b).motion = d.motion := by
  simp only [Dev.releaseStep]
  exact ite_keeps Dev.motion (d.motion_modBar b fun _ => rfl) rfl

@[simp] theorem Dev.motion_holdBar (d : Dev) (b : Nat) : (d.holdBar b).motion = d.motion := by
  have hbars : (setAt d.pos.bars b (fun x => { x with held := some (d.hwm b), releasing := false })).map PosBar.p = d.pos.bars.map PosBar.p :=
    map_setAt PosBar.p _ _ fun _ => rfl
  simp only [Dev.motion, Dev.pos_holdBar, hbars]

@[simp] theorem Dev.motion_stopEnter (d : Dev) (st : StopState) : (d.stopEnter st).motion = d.motion := Dev.motion_drvWatch _

@[simp] theorem Dev.motion_finishResume (d : Dev) : d.finishResume.motion = d.motion := by
  simp only [Dev.finishResume]
  refine ite_keeps Dev.motion ?_ rfl
  rw [Dev.motion_drvWatch, Dev.motion_of_pos (Dev.recheck_keeps _).2.1]
  rfl

@[simp] theorem Dev.motion_stopStep (d : Dev) : d.stopStep.motion = d.motion := by
  obtain ⟨c, hc, hm⟩ : ∃ c : Dev, c = d.modStop (fun t => { t with slowSince := if d.belowMin then some (t.slowSince.getD d.now) else none }) ∧ c.motion = d.motion := ⟨_, rfl, rfl⟩
  have hhold : ((List.range 8).foldl (fun d b => if d.holdDue b then d.holdBar b else d) c).motion = c.motion :=
    foldl_keeps Dev.motion _ (fun d b => ite_keeps Dev.motion (d.motion_holdBar b) rfl) _ _
  simp only [Dev.stopStep, ← hc]
  rw [← hm]
  split
  · exact ite_keeps Dev.motion ((Dev.motion_stopEnter ..).trans hhold) hhold
  · exact ite_keeps Dev.motion (Dev.motion_stopEnter ..) rfl
  · exact Dev.motion_finishResume c
  · rfl

@[simp] theorem Dev.motion_issueTicks (d : Dev) (b : Nat) : (d.issueTicks b).motion = d.motion :=
  foldl_keeps Dev.motion _ (fun d _ => ite_keeps Dev.motion (d.motion_modBar b (by intro _; rfl)) rfl) _ d

@[simp] theorem Dev.motion_republish (d : Dev) (b : Nat) : (d.republish b).motion = d.motion := by
  simp only [Dev.republish]
  exact ite_keeps Dev.motion (d.motion_modBar b (by intro _; rfl)) rfl

/-- What moves in an update moves in its first part. -/
theorem Dev.motion_positionUpdate (d : Dev) : d.positionUpdate.motion = d.posMove.motion := by
  simp only [Dev.positionUpdate, Dev.motion_drvWatch]
  rw [foldl_keeps Dev.motion (fun (d : Dev) b => (d.issueTicks b).republish b) (fun d b => by rw [Dev.motion_republish, Dev.motion_issueTicks]), Dev.motion_stopStep,
    foldl_keeps Dev.motion (fun (d : Dev) b => d.releaseStep b) (fun d b => d.motion_releaseStep b), Dev.motion_posSpeeds]

/-! ### The bars' coordinates (R177) -/

theorem Dev.posBar_modBar (d : Dev) (b k : Nat) (f : PosBar → PosBar) : (d.modBar b f).posBar k = if k = b ∧ k < d.pos.bars.length then f (d.posBar k) else d.posBar k :=
  getD_setAt _ _ _ _ _

theorem Dev.length_modBar (d : Dev) (b : Nat) (f : PosBar → PosBar) : (d.modBar b f).pos.bars.length = d.pos.bars.length := length_setAt _ _ _

/-- The move of every bar leaves the model's own position alone. -/
theorem Dev.moveBars_keeps (dx : Int) (l : List Nat) (d : Dev) :
    (fun e : Dev => (e.pos.x, e.pos.v, e.pos.newest, e.pos.active)) (l.foldl (fun d b => d.moveBar dx b) d) = (d.pos.x, d.pos.v, d.pos.newest, d.pos.active) :=
  foldl_keeps (fun e : Dev => (e.pos.x, e.pos.v, e.pos.newest, e.pos.active)) (fun d b => d.moveBar dx b) (fun _ _ => rfl) l d

/-- What a bar's move leaves. -/
theorem Dev.moveBar_spec (d : Dev) (dx : Int) (b : Nat) : (d.moveBar dx b).pos.bars.length = d.pos.bars.length ∧ (∀ k, k ≠ b → (d.moveBar dx b).posBar k = d.posBar k) ∧
    (b < d.pos.bars.length → ((d.moveBar dx b).posBar b).p = (d.posBar b).p + openRound 177 (dx * (d.posBar b).scale) 140737488355328) := by
  obtain ⟨e, he⟩ : ∃ e, e = d.modBar b (fun x => { x with p := x.p + openRound 177 (dx * x.scale) 140737488355328 }) := ⟨_, rfl⟩
  have hmove : ∃ sc : Nat → Nat, d.moveBar dx b = e.modBar b (fun x => { x with scale := sc x.scale }) := ⟨fun s => e.slewScale s (e.get F.POS_B_F b)
    (e.reachedLine (e.qb b) - e.reachedLine (d.qb b)).natAbs, by rw [he]; rfl⟩
  obtain ⟨sc, hsc⟩ := hmove
  rw [hsc]
  refine ⟨?_, fun k hk => ?_, fun hb => ?_⟩
  · rw [Dev.length_modBar, he, Dev.length_modBar]
  · rw [Dev.posBar_modBar, if_neg fun h => hk h.1, he, Dev.posBar_modBar, if_neg fun h => hk h.1]
  · have hlen : b < e.pos.bars.length := by rw [he, Dev.length_modBar]; exact hb
    rw [Dev.posBar_modBar, if_pos ⟨rfl, hlen⟩, he, Dev.posBar_modBar, if_pos ⟨rfl, hb⟩]

/-- All bars take the change of x at their scales. -/
theorem Dev.moveBars_spec {d : Dev} (dx : Int) {m : Nat} (hm : m ≤ d.pos.bars.length) :
    ((List.range m).foldl (fun d b => d.moveBar dx b) d).pos.bars.length = d.pos.bars.length ∧
    (∀ k, m ≤ k → ((List.range m).foldl (fun d b => d.moveBar dx b) d).posBar k = d.posBar k) ∧
    (∀ k < m, (((List.range m).foldl (fun d b => d.moveBar dx b) d).posBar k).p = (d.posBar k).p + openRound 177 (dx * (d.posBar k).scale) 140737488355328) := by
  induction m with
  | zero => exact ⟨rfl, fun _ _ => rfl, fun k hk => absurd hk (Nat.not_lt_zero k)⟩
  | succ m ih =>
    obtain ⟨h5, h6, h7⟩ := ih (by omega)
    rw [List.range_succ, List.foldl_append, List.foldl_cons, List.foldl_nil]
    generalize (List.range m).foldl (fun d b => d.moveBar dx b) d = e at h5 h6 h7
    obtain ⟨k5, k6, k7⟩ := e.moveBar_spec dx m
    refine ⟨k5.trans h5, fun k hk => (k6 k (by omega)).trans (h6 k (by omega)), fun k hk => ?_⟩
    by_cases hkm : k = m
    · rw [hkm, k7 (by omega), h6 m le_rfl]
    · rw [k6 k hkm, h7 k (by omega)]

/-! ### One update of the loop (R172, R173) -/

theorem Dev.pos_modEnc (d : Dev) (n : Nat) (f : EncSt → EncSt) : (d.modEnc n f).pos = d.pos := rfl
theorem Dev.pos_moveCount (d : Dev) (n : Nat) (raw slewed : Int) : (d.moveCount n raw slewed).pos = d.pos := rfl

@[simp] theorem Dev.motion_slewIndex (d : Dev) (k : Nat) : (d.slewIndex k).motion = d.motion :=
  Dev.motion_of_pos (foldl_keeps Dev.pos _ (fun _ _ => (Dev.pos_modEnc ..).trans (Dev.pos_moveCount ..)) _ d)

/-- The camera, the index corrections and REVERSE follow the bars, that have crossed k lines. -/
def Dev.barsMoved (d : Dev) (dx : Int) (q0 : Int) : Dev :=
  let d := d.moveCam dx
  let k := (d.reachedLine (d.qb 0) - d.reachedLine q0).natAbs
  ((d.slewIndex k).modPos (fun p => { p with crossed := k ≠ 0, tk := d.T })).reverseStep.noteReached

/-- The compare units and the emulated outputs follow x and the bars. -/
def Dev.outputsFollow (d : Dev) (x0 : Int) (t0 : Nat) (qs : List Int) : Dev :=
  let d := d.pcmpMove 4 (dots16 x0) (dots16 d.pos.x) t0 d.T
  let d := (List.range 8).foldl (fun d b => d.pcmpMove (8 + b) (dots16 (qs.getD b 0)) (dots16 (d.qb b)) t0 d.T) d
  (d.emuFollow 0).emuFollow 1

theorem Dev.posMove_eq {d l : Dev} (hl : d.losTests.switchBegin.loopStep = l) : d.posMove =
    (((List.range 8).foldl (fun e b => e.moveBar (l.pos.x - d.pos.x) b) l).barsMoved (l.pos.x - d.pos.x) (((List.range 8).map (fun b => d.qb b)).getD 0 0)).outputsFollow
      d.pos.x d.pos.tk ((List.range 8).map (fun b => d.qb b)) := by
  rw [Dev.posMove, hl, Dev.outputsFollow, Dev.barsMoved]

theorem Dev.motion_barsMoved (d : Dev) (dx q0 : Int) : (d.barsMoved dx q0).motion = d.motion := by
  have hcrossed : ∀ (e : Dev) (c : Bool) (t : Nat), (e.modPos (fun p => { p with crossed := c, tk := t })).motion = e.motion := fun _ _ _ => rfl
  have hcam : (d.moveCam dx).motion = d.motion := rfl
  simp only [Dev.barsMoved, Dev.motion_noteReached, Dev.motion_reverseStep, hcrossed, Dev.motion_slewIndex, hcam]

theorem Dev.motion_outputsFollow (d : Dev) (x0 : Int) (t0 : Nat) (qs : List Int) : (d.outputsFollow x0 t0 qs).motion = d.motion := by
  simp only [Dev.outputsFollow, Dev.motion_emuFollow]
  rw [foldl_keeps Dev.motion _ (fun _ _ => Dev.motion_pcmpMove ..), Dev.motion_pcmpMove]

theorem Dev.motion_posMove {d l : Dev} (hl : d.losTests.switchBegin.loopStep = l) :
    d.posMove.motion = ((List.range 8).foldl (fun e b => e.moveBar (l.pos.x - d.pos.x) b) l).motion := by
  rw [Dev.posMove_eq hl, Dev.motion_outputsFollow, Dev.motion_barsMoved]

theorem gives_positionUpdate (s : State) : Gives .positionUpdate s (if s.dev.posOn = true then s.dev.positionUpdate else s.dev) := rfl

/-- What an update leaves, by what the loop's step leaves. -/
theorem Dev.positionUpdate_spec {d l : Dev} (hl : d.losTests.switchBegin.loopStep = l) : d.positionUpdate.pos.x = l.pos.x ∧ d.positionUpdate.pos.v = l.pos.v ∧
    d.positionUpdate.pos.newest = l.pos.newest ∧ d.positionUpdate.pos.active = l.pos.active ∧
    (l.pos.bars.length = 8 → ∀ b < 8, (d.positionUpdate.posBar b).p = (l.posBar b).p + openRound 177 ((l.pos.x - d.pos.x) * (l.posBar b).scale) 140737488355328) := by
  have hm : d.positionUpdate.motion = ((List.range 8).foldl (fun e b => e.moveBar (l.pos.x - d.pos.x) b) l).motion := (Dev.motion_positionUpdate d).trans (Dev.motion_posMove hl)
  obtain ⟨h1, h2, h3, h4⟩ := Dev.motion_eq hm
  have hkeep := Dev.moveBars_keeps (l.pos.x - d.pos.x) (List.range 8) l
  simp only [Prod.mk.injEq] at hkeep
  obtain ⟨k1, k2, k3, k4⟩ := hkeep
  refine ⟨h1.trans k1, h2.trans k2, h3.trans k3, h4.trans k4, fun hlen b hb => ?_⟩
  rw [Dev.posBar_of_motion hm]
  exact (Dev.moveBars_spec _ (by omega)).2.2 b hb

/-! ### The loop's step -/

/-- In MODE 0b00, in a gap and after a loss nothing is looked for but the flags. -/
theorem Dev.switchBegin_keeps {d : Dev} (h : d.pos.mode = 0 ∨ 2 ≤ d.pos.active) : ∃ f, d.switchBegin = d.modPos (fun p => { p with flags := f }) := by
  by_cases ha : 2 ≤ d.pos.active
  · exact ⟨d.pos.flags, if_pos ha⟩
  · refine ⟨d.encFlags d.pos.active, (if_neg ha).trans (if_pos ?_)⟩
    simp [h.resolve_right ha]

theorem Dev.losTests_single {d : Dev} (h : d.pos.mode = 0) : d.losTests = d := by simp [Dev.losTests, Dev.redunSet, h]

theorem Dev.pos_losTests (d : Dev) : d.losTests.pos = d.pos :=
  foldl_keeps Dev.pos _ (fun _ _ => ite_keeps Dev.pos (Dev.pos_flagEnc ..) rfl) _ d

/-- The correction of x and v by the newest count change, before the bound of R173. -/
def Dev.corrected (d : Dev) (n : Nat) : Int × Int :=
  let p := d.pos
  let xp := p.x + Int.fdiv p.v 65536
  match p.newest with
  | some te =>
    let e := d.measured n - (xp - Int.fdiv (Int.fdiv (p.v * (d.T - te : Nat)) 1000) 65536)
    (xp + Int.fdiv (e * d.get F.POS_LOOP_KP) 16777216, p.v + Int.fdiv (e * 65536 * d.get F.POS_LOOP_KI) 16777216)
  | none => (xp, p.v)

/-- The bound of R173: six counts beyond the measured position, in the sense of the counts. -/
def boundedLoop (m six dir : Int) (q : Int × Int) : Int × Int :=
  if dir = 0 then q
  else if six ≤ q.1 - m && (0 < dir || 0 < q.2) then (m + six, 0)
  else if six ≤ m - q.1 && (dir < 0 || q.2 < 0) then (m - six, 0)
  else q

/-- The sense of an input's newest count; 0 before the first. -/
def EncSt.sense (e : EncSt) : Int := match e.edges with | (_, s) :: _ => s | [] => 0

theorem Dev.loopStep_active {d : Dev} {n : Nat} (hn : d.pos.active = n) (h2 : n < 2) : d.loopStep =
    d.modPos (fun p => { p with x := (boundedLoop (d.measured n) (6 * d.ratio n) (d.encSt n).sense (d.corrected n)).1,
                                v := (boundedLoop (d.measured n) (6 * d.ratio n) (d.encSt n).sense (d.corrected n)).2, newest := none }) := by
  simp only [Dev.loopStep]
  rw [hn]
  split
  · omega
  · omega
  · rfl

theorem Dev.loopStep_gap {d : Dev} (h : d.pos.active = 2) : d.loopStep = d.modPos (fun p => { p with x := d.pos.x + Int.fdiv d.pos.v 65536, newest := none }) := by
  simp only [Dev.loopStep, h]

theorem Dev.loopStep_lost {d : Dev} (h : d.pos.active = 3) : d.loopStep = d.modPos (fun p => { p with newest := none }) := by
  simp only [Dev.loopStep, h]

theorem boundedLoop_within {m six dir : Int} {q : Int × Int} (h : (q.1 - m).natAbs < six ∨ dir = 0) : boundedLoop m six dir q = q := by
  simp only [boundedLoop]
  split
  · rfl
  · next hd =>
    have hin := h.resolve_right hd
    rw [if_neg (by simp; omega), if_neg (by simp; omega)]

theorem boundedLoop_above {m six dir : Int} {q : Int × Int} (hd : dir ≠ 0) (h : six ≤ q.1 - m) (hs : 0 < dir ∨ 0 < q.2) : boundedLoop m six dir q = (m + six, 0) := by
  rw [boundedLoop, if_neg hd, if_pos (by simpa [h] using hs)]

theorem boundedLoop_below {m six dir : Int} {q : Int × Int} (h6 : 0 ≤ six) (hd : dir ≠ 0) (hm : q.1 < m) (h : six ≤ m - q.1) (hs : dir < 0 ∨ q.2 < 0) :
    boundedLoop m six dir q = (m - six, 0) := by
  rw [boundedLoop, if_neg hd, if_neg (by simp; omega), if_pos (by simpa [h] using hs)]

/-- The loop's step in MODE 0b00 with an encoder active. -/
theorem Dev.positionUpdate_active {d : Dev} {n : Nat} {r : Int × Int} (hmode : d.pos.mode = 0) (hn : n = d.pos.active) (h2 : n < 2)
    (hr : boundedLoop (d.measured n) (6 * d.ratio n) (d.encSt n).sense (d.corrected n) = r) : d.positionUpdate.pos.x = r.1 ∧ d.positionUpdate.pos.v = r.2 ∧
    d.positionUpdate.pos.newest = none ∧ d.positionUpdate.pos.active = n ∧
    (d.pos.bars.length = 8 → ∀ b < 8, (d.positionUpdate.posBar b).p = (d.posBar b).p + openRound 177 ((d.positionUpdate.pos.x - d.pos.x) * (d.posBar b).scale) 140737488355328) := by
  obtain ⟨f, hf⟩ := Dev.switchBegin_keeps (d := d) (.inl hmode)
  obtain ⟨c, hc⟩ : ∃ c, c = d.modPos (fun p => { p with flags := f }) := ⟨_, rfl⟩
  have hstep : d.losTests.switchBegin.loopStep = c.modPos (fun p => { p with x := r.1, v := r.2, newest := none }) := by
    rw [Dev.losTests_single hmode, hf, ← hc, Dev.loopStep_active (n := n) (by rw [hc]; exact hn.symm) h2, ← hr, hc]
    rfl
  obtain ⟨h1, h3, h4, h5, h6⟩ := Dev.positionUpdate_spec hstep
  refine ⟨h1, h3, h4, h5.trans (by rw [hc]; exact hn.symm), fun hlen b hb => ?_⟩
  rw [h1, h6 (by rw [hc]; exact hlen) b hb, hc]
  rfl

/-- O52's clauses on the tracking loop. -/
theorem positionUpdate_tracks (s : State) (n : Nat) (m x v : Int) (hon : s.dev.posOn = true) (hmode : s.dev.pos.mode = 0) (hn : n = s.dev.pos.active) (h2 : n < 2)
    (hm : m = s.dev.measured n) (hlen : s.dev.pos.bars.length = 8)
    (hxv : (s.dev.pos.newest = none ∧ x = s.dev.pos.x + Int.fdiv s.dev.pos.v 65536 ∧ v = s.dev.pos.v) ∨
      (∃ (te : Nat) (xp e : Int), s.dev.pos.newest = some te ∧ xp = s.dev.pos.x + Int.fdiv s.dev.pos.v 65536 ∧
        e = m - (xp - Int.fdiv (Int.fdiv (s.dev.pos.v * (s.dev.T - te : Nat)) 1000) 65536) ∧
        x = xp + Int.fdiv (e * s.dev.get F.POS_LOOP_KP) 16777216 ∧ v = s.dev.pos.v + Int.fdiv (e * 65536 * s.dev.get F.POS_LOOP_KI) 16777216)) :
    let moved (d : Dev) : Prop := d.pos.newest = none ∧ d.pos.active = n ∧
      ∀ b < 8, (d.posBar b).p = (s.dev.posBar b).p + openRound 177 ((d.pos.x - s.dev.pos.x) * (s.dev.posBar b).scale) 140737488355328
    ((x - m).natAbs < 6 * s.dev.get F.ENC_RATIO n ∨ (s.dev.encSt n).edges = [] →
      Completes .positionUpdate s (fun d => d.pos.x = x ∧ d.pos.v = v ∧ moved d)) ∧
    (∀ t dir rest, (s.dev.encSt n).edges = (t, dir) :: rest → dir ≠ 0 →
      (6 * (s.dev.get F.ENC_RATIO n : Int) ≤ x - m → 0 < dir ∨ 0 < v →
        Completes .positionUpdate s (fun d => d.pos.x = m + 6 * s.dev.get F.ENC_RATIO n ∧ d.pos.v = 0 ∧ moved d)) ∧
      (x < m → 6 * (s.dev.get F.ENC_RATIO n : Int) ≤ m - x → dir < 0 ∨ v < 0 →
        Completes .positionUpdate s (fun d => d.pos.x = m - 6 * s.dev.get F.ENC_RATIO n ∧ d.pos.v = 0 ∧ moved d))) := by
  intro moved
  have hq : s.dev.corrected n = (x, v) := by
    obtain ⟨hnew, rfl, rfl⟩ | ⟨te, xp, e, hnew, rfl, rfl, rfl, rfl⟩ := hxv
    · simp only [Dev.corrected, hnew]
    · simp only [Dev.corrected, hnew, hm]
  have hrun := gives_of_pos (gives_positionUpdate s) hon
  have hmoves : ∀ r : Int × Int, boundedLoop m (6 * s.dev.ratio n) (s.dev.encSt n).sense (x, v) = r →
      s.dev.positionUpdate.pos.x = r.1 ∧ s.dev.positionUpdate.pos.v = r.2 ∧ moved s.dev.positionUpdate := fun r hr => by
    obtain ⟨k1, k2, k3, k4, k5⟩ := Dev.positionUpdate_active hmode hn h2 (r := r) (by rw [← hm, hq]; exact hr)
    exact ⟨k1, k2, k3, k4, k5 hlen⟩
  have hratio : s.dev.ratio n = (s.dev.get F.ENC_RATIO n : Int) := rfl
  rw [hratio] at hmoves
  refine ⟨fun hor => ⟨_, hrun, hmoves (x, v) (boundedLoop_within (hor.imp (fun h => by simp only; omega) fun h => by simp [EncSt.sense, h]))⟩, fun t dir rest he hd => ?_⟩
  have hsense : (s.dev.encSt n).sense = dir := by simp [EncSt.sense, he]
  rw [hsense] at hmoves
  exact ⟨fun h hs => ⟨_, hrun, hmoves _ (boundedLoop_above hd h hs)⟩, fun hx h hs => ⟨_, hrun, hmoves _ (boundedLoop_below (by omega) hd hx h hs)⟩⟩

/-- O52's clauses on a gap and a lost position. -/
theorem positionUpdate_gap (s : State) (hon : s.dev.posOn = true) :
    (s.dev.pos.active = 2 →
      Completes .positionUpdate s (fun d => d.pos.x = s.dev.pos.x + Int.fdiv s.dev.pos.v 65536 ∧ d.pos.v = s.dev.pos.v ∧ d.pos.active = 2)) ∧
    (s.dev.pos.active = 3 → Completes .positionUpdate s (fun d => d.pos.x = s.dev.pos.x ∧ d.pos.v = s.dev.pos.v ∧ d.pos.active = 3)) := by
  have hrun := gives_of_pos (gives_positionUpdate s) hon
  have hpos := s.dev.pos_losTests
  have hflags : 2 ≤ s.dev.pos.active → ∃ f, s.dev.losTests.switchBegin = s.dev.losTests.modPos (fun p => { p with flags := f }) := fun h =>
    Dev.switchBegin_keeps (.inr (by rw [hpos]; exact h))
  refine ⟨fun h => ⟨_, hrun, ?_⟩, fun h => ⟨_, hrun, ?_⟩⟩
  · obtain ⟨f, hf⟩ := hflags (by omega)
    obtain ⟨h1, h3, -, h5, -⟩ := Dev.positionUpdate_spec ((congrArg Dev.loopStep hf).trans (Dev.loopStep_gap (by rw [← h, ← hpos]; rfl)))
    refine ⟨h1.trans ?_, h3.trans ?_, h5.trans ?_⟩ <;> simp only [Dev.modPos, hpos, h]
  · obtain ⟨f, hf⟩ := hflags (by omega)
    obtain ⟨h1, h3, -, h5, -⟩ := Dev.positionUpdate_spec ((congrArg Dev.loopStep hf).trans (Dev.loopStep_lost (by rw [← h, ← hpos]; rfl)))
    refine ⟨h1.trans ?_, h3.trans ?_, h5.trans ?_⟩ <;> simp only [Dev.modPos, hpos, h]

end Sys2Proof.Machine
end


section
/-! PROOF. The start and the stop of the position block, and the bar delays (R175, R176). -/

namespace Sys2Proof.Machine

/-! ### The bar delays are latched (R176) -/

/-- One bar's delay is latched; a bar that this moves forward skips lines. -/
def Dev.latchBar (d : Dev) (b : Nat) : Dev :=
  let old := (d.posBar b).delay
  let new := delayOf (d.get F.CIS_BAR_DIST b)
  let d := d.modBar b (fun x => { x with delay := new })
  let r := d.reachedLine (d.qb b - 1)
  if d.posOn && new < old && d.hwm b < r then d.modBar b (fun x => { x with hwm := some r.toNat }) else d

theorem Dev.latchDelays_eq (d : Dev) : d.latchDelays = (((List.range 8).foldl Dev.latchBar d).modPos (fun p => { p with delayDue := false })).noteReached := rfl

/-- What a latched delay leaves of everything but the bars. -/
theorem Dev.latchBar_keeps {γ : Type} (π : Dev → γ) (hπ : ∀ (d : Dev) b f, π (d.modBar b f) = π d) (d : Dev) (b : Nat) : π (d.latchBar b) = π d := by
  simp only [Dev.latchBar]
  exact ite_keeps π ((hπ _ _ _).trans (hπ _ _ _)) (hπ _ _ _)

theorem Dev.posBar_latchBar {d : Dev} {b : Nat} (hb : b < d.pos.bars.length) : (d.latchBar b).pos.bars.length = d.pos.bars.length ∧
    (∀ k, k ≠ b → (d.latchBar b).posBar k = d.posBar k) ∧
    ∃ h, (d.latchBar b).posBar b = { d.posBar b with delay := delayOf (d.get F.CIS_BAR_DIST b), hwm := h } ∧ ((d.posBar b).delay = 0 → h = (d.posBar b).hwm) := by
  obtain ⟨e, he⟩ : ∃ e, e = d.modBar b (fun x => { x with delay := delayOf (d.get F.CIS_BAR_DIST b) }) := ⟨_, rfl⟩
  have hlen : e.pos.bars.length = d.pos.bars.length := by rw [he, Dev.length_modBar]
  have hself : e.posBar b = { d.posBar b with delay := delayOf (d.get F.CIS_BAR_DIST b) } := by rw [he, Dev.posBar_modBar, if_pos ⟨rfl, hb⟩]
  have hother : ∀ k, k ≠ b → e.posBar k = d.posBar k := fun k hk => by rw [he, Dev.posBar_modBar, if_neg fun h => hk h.1]
  have hrun : d.latchBar b = if e.posOn && delayOf (d.get F.CIS_BAR_DIST b) < (d.posBar b).delay && e.hwm b < e.reachedLine (e.qb b - 1) then
      e.modBar b (fun x => { x with hwm := some (e.reachedLine (e.qb b - 1)).toNat }) else e := by rw [he]; rfl
  rw [hrun]
  split
  · next hc =>
    refine ⟨(Dev.length_modBar ..).trans hlen, fun k hk => ?_, some (e.reachedLine (e.qb b - 1)).toNat, ?_, fun h => ?_⟩
    · rw [Dev.posBar_modBar, if_neg fun h => hk h.1, hother k hk]
    · rw [Dev.posBar_modBar, if_pos ⟨rfl, hlen ▸ hb⟩, hself]
    · simp [h] at hc
  · exact ⟨hlen, hother, (d.posBar b).hwm, hself, fun _ => rfl⟩

theorem Dev.posBar_latchBars {d : Dev} {m : Nat} (hm : m ≤ d.pos.bars.length) : ((List.range m).foldl Dev.latchBar d).pos.bars.length = d.pos.bars.length ∧
    (∀ k, m ≤ k → ((List.range m).foldl Dev.latchBar d).posBar k = d.posBar k) ∧
    ∀ k < m, ∃ h, ((List.range m).foldl Dev.latchBar d).posBar k = { d.posBar k with delay := delayOf (d.get F.CIS_BAR_DIST k), hwm := h } ∧
      ((d.posBar k).delay = 0 → h = (d.posBar k).hwm) := by
  induction m with
  | zero => exact ⟨rfl, fun _ _ => rfl, fun k hk => absurd hk (Nat.not_lt_zero k)⟩
  | succ m ih =>
    obtain ⟨hlen, hge, hlt⟩ := ih (by omega)
    have hregs : ((List.range m).foldl Dev.latchBar d).regs = d.regs := foldl_keeps Dev.regs _ (Dev.latchBar_keeps Dev.regs fun _ _ _ => rfl) _ d
    rw [List.range_succ, List.foldl_append, List.foldl_cons, List.foldl_nil]
    generalize (List.range m).foldl Dev.latchBar d = e at hlen hge hlt hregs
    obtain ⟨k1, k2, h, k3, k4⟩ := Dev.posBar_latchBar (d := e) (b := m) (by omega)
    refine ⟨k1.trans hlen, fun k hk => (k2 k (by omega)).trans (hge k (by omega)), fun k hk => ?_⟩
    by_cases hkm : k = m
    · subst hkm
      rw [hge k le_rfl] at k3 k4
      exact ⟨h, by rw [k3]; simp only [Dev.get, hregs], k4⟩
    · rw [k2 k hkm]
      exact hlt k (by omega)

theorem Dev.motion_latchDelays (d : Dev) : d.latchDelays.motion = d.motion := by
  have hbar : ∀ (e : Dev) (b : Nat), (e.latchBar b).motion = e.motion := fun e b => by
    simp only [Dev.latchBar]
    exact ite_keeps Dev.motion ((Dev.motion_modBar _ _ (by intro _; rfl)).trans (Dev.motion_modBar _ _ (by intro _; rfl))) (Dev.motion_modBar _ _ (by intro _; rfl))
  rw [Dev.latchDelays_eq, Dev.motion_noteReached]
  exact foldl_keeps Dev.motion _ hbar _ d

theorem Dev.latchDelays_keeps (d : Dev) : d.latchDelays.regs = d.regs ∧ d.latchDelays.enc = d.enc := by
  have hregs : ((List.range 8).foldl Dev.latchBar d).regs = d.regs := foldl_keeps Dev.regs Dev.latchBar (Dev.latchBar_keeps Dev.regs fun _ _ _ => rfl) _ d
  have henc : ((List.range 8).foldl Dev.latchBar d).enc = d.enc := foldl_keeps Dev.enc Dev.latchBar (Dev.latchBar_keeps Dev.enc fun _ _ _ => rfl) _ d
  have hnote : ∀ e : Dev, (e.modPos (fun p => { p with delayDue := false })).noteReached.regs = e.regs ∧ (e.modPos (fun p => { p with delayDue := false })).noteReached.enc = e.enc := fun _ => ⟨rfl, rfl⟩
  rw [Dev.latchDelays_eq, (hnote _).1, (hnote _).2]
  exact ⟨hregs, henc⟩

theorem Dev.posBar_noteReached (d : Dev) (k : Nat) : (d.noteReached.posBar k).delay = (d.posBar k).delay := by
  simp only [Dev.posBar, Dev.noteReached, Dev.modPos, List.getD_eq_getElem?_getD, List.getElem?_mapIdx]
  cases d.pos.bars[k]? <;> rfl

theorem Dev.delay_latchDelays {d : Dev} (h : 8 ≤ d.pos.bars.length) {k : Nat} (hk : k < 8) : (d.latchDelays.posBar k).delay = delayOf (d.get F.CIS_BAR_DIST k) := by
  obtain ⟨x, hx, -⟩ := (Dev.posBar_latchBars (m := 8) h).2.2 k hk
  rw [Dev.latchDelays_eq, Dev.posBar_noteReached]
  exact congrArg PosBar.delay hx

theorem gives_barDelayLatch (s : State) : Gives .barDelayLatch s (if s.dev.pos.delayDue = true ∧ s.dev.anyArmed = false then s.dev.moveDelays else s.dev) := by
  have hrun : exec .barDelayLatch s = .next { s with dev := if (s.dev.pos.delayDue && !s.dev.anyArmed) = true then s.dev.moveDelays else s.dev } := rfl
  simpa only [Gives, Bool.and_eq_true, Bool.not_eq_true'] using hrun

theorem Dev.pos_moveDelays (d : Dev) : d.moveDelays.pos = d.latchDelays.pos := by
  simp only [Dev.moveDelays]
  refine ite_keeps Dev.pos ?_ rfl
  exact foldl_keeps Dev.pos _ (fun _ _ => Dev.pos_of_fixed (Dev.fixed_of_rest (Dev.rest_pcmpMove ..))) _ _

/-! ### Enable (R175) -/

/-- The position block as it starts, before the bar delays are latched. -/
def Dev.posFresh (d : Dev) : Dev :=
  let d := d.set F.POS_CTRL_ENABLE 1
  let d : Dev := { d with
    enc := d.enc.map (fun e => ({ a := e.a, b := e.b, illegalEdge := e.illegalEdge, misplaced := e.misplaced, lastAt := d.T, gateAt := d.now } : EncSt)),
    pos := { bars := List.replicate 8 {}, emu := d.pos.emu, segs := [⟨0, 0, 1, List.range 8⟩], tk := d.T, mode := d.pos.mode, flags := d.encFlags 0 },
    vin := { d.vin with p := 0, scale := 2147483648, trigs := [] } }
  (d.set F.POS_EVT_CNT_SWITCHES 0).set F.POS_EVT_CNT_REVERSES 0

theorem Dev.posStart_eq (d : Dev) : d.posStart = d.posFresh.latchDelays.passDrive := rfl

theorem Dev.get_posFresh (d : Dev) : d.posFresh.get F.POS_CTRL_ENABLE = 1 ∧ ∀ b < 8, d.posFresh.get F.CIS_BAR_DIST b = d.get F.CIS_BAR_DIST b := by
  obtain ⟨e, he, hregs⟩ : ∃ e : Dev, d.posFresh = (e.set F.POS_EVT_CNT_SWITCHES 0).set F.POS_EVT_CNT_REVERSES 0 ∧ e.regs = (d.set F.POS_CTRL_ENABLE 1).regs := ⟨_, rfl, rfl⟩
  have hget : ∀ f i, e.get f i = (d.set F.POS_CTRL_ENABLE 1).get f i := fun f i => by simp only [Dev.get, hregs]
  rw [he]
  refine ⟨?_, fun b hb => ?_⟩
  · rw [Dev.get_set_ne _ _ _ _ _ _ _ _ (by decide), Dev.get_set_ne _ _ _ _ _ _ _ _ (by decide), hget, Dev.get_set_self]
    rfl
  · have hbeyond : ((e.set F.POS_EVT_CNT_SWITCHES 0).set F.POS_EVT_CNT_REVERSES 0).beyond [F.POS_EVT_CNT_SWITCHES, F.POS_EVT_CNT_REVERSES, F.POS_CTRL_ENABLE] =
        d.beyond [F.POS_EVT_CNT_SWITCHES, F.POS_EVT_CNT_REVERSES, F.POS_CTRL_ENABLE] := by
      rw [Dev.beyond_set _ _ _ _ (by decide), Dev.beyond_set _ _ _ _ (by decide), Dev.beyond_congr hregs, Dev.beyond_set _ _ _ _ (by decide)]
    exact Dev.get_of_beyond hbeyond (by decide) hb (by decide)

/-- The bars as they are while the delays are latched at the start. -/
theorem Dev.bars_posFresh (d : Dev) : ((List.range 8).foldl Dev.latchBar d.posFresh).pos.bars.length = 8 ∧ ∀ k < 8,
    ((List.range 8).foldl Dev.latchBar d.posFresh).posBar k = { delay := delayOf (d.get F.CIS_BAR_DIST k) } := by
  obtain ⟨hlen, -, hbars⟩ := Dev.posBar_latchBars (d := d.posFresh) (m := 8) (le_of_eq rfl)
  refine ⟨hlen.trans rfl, fun k hk => ?_⟩
  obtain ⟨h, hbar, hh⟩ := hbars k hk
  have hempty : ∀ k < 8, (List.replicate 8 ({} : PosBar)).getD k {} = {} := by decide
  have hfresh : d.posFresh.posBar k = {} := hempty k hk
  rw [hfresh] at hh hbar
  rw [(d.get_posFresh).2 k hk, hh rfl] at hbar
  exact hbar

theorem Dev.qb_start {d : Dev} {b n : Nat} (h : d.posBar b = { delay := n }) : d.qb b = -((n * 1048576 : Nat) : Int) := by
  simp only [Dev.qb, h]
  omega

/-- The bars and the segment of a start: a bar without a delay has reached line 0. -/
theorem Dev.pos_start (d : Dev) : d.posFresh.latchDelays.pos.segs =
      [{ line := 0, ref := 0, pitch := 1, todo := (List.range 8).filter (fun b => decide (delayOf (d.get F.CIS_BAR_DIST b) ≠ 0)) }] ∧
    d.posFresh.latchDelays.pos.bars = (List.range 8).map (fun b =>
      ({ delay := delayOf (d.get F.CIS_BAR_DIST b), begun := decide (delayOf (d.get F.CIS_BAR_DIST b) = 0) } : PosBar)) := by
  obtain ⟨hlen, hbars⟩ := d.bars_posFresh
  have hkeep : ((List.range 8).foldl Dev.latchBar d.posFresh).pos.segs = [⟨0, 0, 1, List.range 8⟩] :=
    foldl_keeps (fun e : Dev => e.pos.segs) _ (Dev.latchBar_keeps (fun e : Dev => e.pos.segs) fun _ _ _ => rfl) _ d.posFresh
  obtain ⟨e, he⟩ : ∃ e, e = (List.range 8).foldl Dev.latchBar d.posFresh := ⟨_, rfl⟩
  obtain ⟨q, hq⟩ : ∃ q : List Int, q = (List.range 8).map (fun b => (e.modPos (fun p => { p with delayDue := false })).qb b) := ⟨_, rfl⟩
  rw [Dev.latchDelays_eq]
  rw [← he] at hlen hbars hkeep ⊢
  have hreached : ∀ b < 8, decide (0 ≤ q.getD b 0) = decide (delayOf (d.get F.CIS_BAR_DIST b) = 0) := fun b hb => by
    have hqb : (e.modPos (fun p => { p with delayDue := false })).qb b = -((delayOf (d.get F.CIS_BAR_DIST b) * 1048576 : Nat) : Int) := Dev.qb_start (hbars b hb)
    rw [hq, List.getD_eq_getElem _ _ (by simpa using hb), List.getElem_map, List.getElem_range, hqb]
    exact decide_eq_decide.mpr (by omega)
  obtain ⟨hsegs, hb'⟩ : (e.modPos (fun p => { p with delayDue := false })).noteReached.pos.segs =
        e.pos.segs.map (fun g => { g with todo := g.todo.filter (fun b => !decide (g.ref ≤ q.getD b 0)) }) ∧
      (e.modPos (fun p => { p with delayDue := false })).noteReached.pos.bars = e.pos.bars.mapIdx (fun b x => { x with begun := x.begun || decide (0 ≤ q.getD b 0) }) := by
    rw [hq]
    exact ⟨rfl, rfl⟩
  rw [hsegs, hb']
  constructor
  · rw [hkeep, List.map_cons, List.map_nil]
    refine congrArg (fun t => [({ line := 0, ref := 0, pitch := 1, todo := t } : Seg)]) (List.filter_congr fun b hb => ?_)
    rw [hreached b (List.mem_range.mp hb), decide_not]
  · refine List.ext_getElem (by simp [hlen]) fun k hk _ => ?_
    have hk8 : k < 8 := by simpa [hlen] using hk
    have hbar : e.pos.bars[k]'(by omega) = { delay := delayOf (d.get F.CIS_BAR_DIST k) } := by
      rw [← hbars k hk8, Dev.posBar, List.getD_eq_getElem _ _ (by omega)]
    rw [List.getElem_mapIdx, List.getElem_map, List.getElem_range, hbar, hreached k hk8]
    rfl

theorem Dev.encSt_map {d : Dev} {f : EncSt → EncSt} {e : Dev} (h : e.enc = d.enc.map f) (hf : ∀ x, (f x).count = 0) (n : Nat) : (e.encSt n).count = 0 := by
  simp only [Dev.encSt, h, List.getD_eq_getElem?_getD, List.getElem?_map]
  cases d.enc[n]? with
  | none => rfl
  | some x => exact hf x

theorem Dev.posStart_spec (d : Dev) : d.posStart.get F.POS_CTRL_ENABLE = 1 ∧ d.posStart.pos.x = 0 ∧ d.posStart.pos.v = 0 ∧ d.posStart.pos.active = 0 ∧
    (∀ n, (d.posStart.encSt n).count = 0) ∧ d.posStart.pos.segs = d.posFresh.latchDelays.pos.segs ∧ d.posStart.pos.bars = d.posFresh.latchDelays.pos.bars := by
  obtain ⟨henc, hpos, hregs, -⟩ := d.posFresh.latchDelays.fields_passDrive
  obtain ⟨h1, h2, -, h4⟩ := Dev.motion_eq d.posFresh.motion_latchDelays
  obtain ⟨hlatch, hlatchEnc⟩ := d.posFresh.latchDelays_keeps
  rw [Dev.posStart_eq, hpos, h1, h2, h4]
  refine ⟨?_, rfl, rfl, rfl, fun n => ?_, rfl, rfl⟩
  · have hget : d.posFresh.latchDelays.passDrive.get F.POS_CTRL_ENABLE = d.posFresh.get F.POS_CTRL_ENABLE := by simp only [Dev.get, hregs, hlatch]
    exact hget.trans d.get_posFresh.1
  · have hfresh : d.posFresh.enc = d.enc.map (fun e =>
        ({ a := e.a, b := e.b, illegalEdge := e.illegalEdge, misplaced := e.misplaced, lastAt := (d.set F.POS_CTRL_ENABLE 1).T, gateAt := (d.set F.POS_CTRL_ENABLE 1).now } : EncSt)) := rfl
    exact Dev.encSt_map (henc.trans (hlatchEnc.trans hfresh)) (fun _ => rfl) n

/-! ### The two writes of POS_CTRL (R175) -/

theorem exec_positionEnable {rq : Requester} {s : State} (h : s.Ready rq 2) :
    GivesAudited (.positionEnable rq) s rq 0x60008 ((if s.dev.flag F.POS_CTRL_ENABLE then s.dev else s.dev.posStart).touch rq) := by
  exact ⟨_, _, congrArg Host.Outcome.next (State.roleWrite_audited h (.positionEnable rq) 0x60008 (some .installer) (fun d => d.word 0x60008)
    (fun d => if d.flag F.POS_CTRL_ENABLE then d else d.posStart) (by decide) (by decide) (by decide))⟩

/-- The block stopped: no speed and no ticks. -/
def Dev.posStop (d : Dev) : Dev :=
  ((d.set F.POS_CTRL_ENABLE 0).modPos (fun p => { p with speed := 0, v := 0, bars := p.bars.map (fun b => { b with ticks := [] }) })).noteSpeed

theorem exec_positionDisable {rq : Requester} {s : State} (h : s.Ready rq 2) :
    GivesAudited (.positionDisable rq) s rq 0x60008 ((if (s.dev.anyArmed || !s.dev.flag F.POS_CTRL_ENABLE) = true then s.dev else s.dev.posStop).touch rq) := by
  exact ⟨_, _, congrArg Host.Outcome.next (State.roleWrite_audited h (.positionDisable rq) 0x60008 (some .installer) (fun d => d.word 0x60008)
    (fun d => if d.anyArmed || !d.flag F.POS_CTRL_ENABLE then d else d.posStop) (by decide) (by decide) (by decide))⟩

theorem Dev.touch_moves (d : Dev) (rq : Requester) : (d.touch rq).pos = d.pos ∧ (d.touch rq).enc = d.enc := by
  obtain h | ⟨x, h⟩ := d.touch_cases rq <;> rw [h]
  · exact ⟨rfl, rfl⟩
  · cases rq <;> exact ⟨rfl, rfl⟩

/-- O52's clauses on ENABLE. -/
theorem positionEnable_starts (rq : Requester) (s : State) (h : s.Ready rq 2) :
    (s.dev.get F.POS_CTRL_ENABLE = 0 →
      CompletesAudited (.positionEnable rq) s rq 0x60008 (fun d => d.get F.POS_CTRL_ENABLE = 1 ∧ d.pos.x = 0 ∧ d.pos.v = 0 ∧ d.pos.active = 0 ∧
        (∀ n, (d.encSt n).count = 0) ∧
        d.pos.segs = [{ line := 0, ref := 0, pitch := 1, todo := (List.range 8).filter (fun b => decide (delayOf (s.dev.get F.CIS_BAR_DIST b) ≠ 0)) }] ∧
        d.pos.bars = (List.range 8).map (fun b =>
          ({ delay := delayOf (s.dev.get F.CIS_BAR_DIST b), begun := decide (delayOf (s.dev.get F.CIS_BAR_DIST b) = 0) } : PosBar)))) ∧
    (s.dev.get F.POS_CTRL_ENABLE ≠ 0 → GivesAudited (.positionEnable rq) s rq 0x60008 (s.dev.touch rq)) ∧
    (s.dev.anyArmed = true ∨ s.dev.get F.POS_CTRL_ENABLE = 0 → GivesAudited (.positionDisable rq) s rq 0x60008 (s.dev.touch rq)) ∧
    (s.dev.anyArmed = false → s.dev.get F.POS_CTRL_ENABLE ≠ 0 →
      CompletesAudited (.positionDisable rq) s rq 0x60008 (fun d => d.get F.POS_CTRL_ENABLE = 0 ∧ d.pos.speed = 0 ∧ d.enc = s.dev.enc ∧
        d.pos.x = s.dev.pos.x ∧ (∀ b ∈ d.pos.bars, b.ticks = []))) := by
  refine ⟨fun h0 => ?_, fun h1 => ?_, fun hor => ?_, fun hidle h1 => ?_⟩
  · obtain ⟨old, new, hrun⟩ := exec_positionEnable h
    rw [if_neg (by rw [Dev.flag_eq_true]; simpa using h0)] at hrun
    obtain ⟨hpos, henc⟩ := s.dev.posStart.touch_moves rq
    obtain ⟨k1, k2, k3, k4, k5, k6, k7⟩ := s.dev.posStart_spec
    obtain ⟨hsegs, hbars⟩ := s.dev.pos_start
    refine ⟨_, old, new, hrun, ?_⟩
    dsimp only
    rw [Dev.get_touch, hpos]
    exact ⟨k1, k2, k3, k4, fun n => by rw [Dev.encSt_of_enc henc]; exact k5 n, k6.trans hsegs, k7.trans hbars⟩
  · have hrun := exec_positionEnable h
    rwa [if_pos ((Dev.flag_eq_true _ _ _ _).mpr h1)] at hrun
  · have hrun := exec_positionDisable h
    rwa [if_pos ((Bool.or_eq_true _ _).mpr (hor.imp id fun h0 => by rw [(Dev.flag_eq_false _ _ _ _).mpr h0]; rfl))] at hrun
  · obtain ⟨old, new, hrun⟩ := exec_positionDisable h
    rw [if_neg (by rw [hidle, (Dev.flag_eq_true _ _ _ _).mpr h1]; decide)] at hrun
    obtain ⟨hpos, henc⟩ := s.dev.posStop.touch_moves rq
    obtain ⟨k1, k2, k3, -⟩ := ((s.dev.set F.POS_CTRL_ENABLE 0).modPos (fun p => { p with speed := 0, v := 0, bars := p.bars.map (fun b => { b with ticks := [] }) })).noteSpeed_keeps
    have hget : s.dev.posStop.get F.POS_CTRL_ENABLE = (s.dev.set F.POS_CTRL_ENABLE 0).get F.POS_CTRL_ENABLE := congrArg (fun r : RegFile => r.get F.POS_CTRL_ENABLE 0 0) k3
    refine ⟨_, old, new, hrun, ?_⟩
    dsimp only
    rw [Dev.get_touch, hpos, henc, hget, Dev.get_set_self, show s.dev.posStop.pos = _ from k1, show s.dev.posStop.enc = _ from k2]
    refine ⟨rfl, rfl, rfl, rfl, fun b hb => ?_⟩
    obtain ⟨x, -, rfl⟩ := List.mem_map.mp hb
    rfl

/-- Settles O52: the writes of ENABLE, the latched delays, and an update in MODE 0b00, in a gap, after a loss and of a block that is off. -/
theorem positionStartsAndTracks : Obligations.PositionStartsAndTracks := by
  refine ⟨⟨positionEnable_starts, fun s hdue hidle hlen => ?_, fun s hor => ?_⟩,
    fun s n m x v hon hmode hn h2 hm hlen hxv => positionUpdate_tracks s n m x v hon hmode hn h2 hm hlen hxv, fun s hon => positionUpdate_gap s hon, fun s hoff => ?_⟩
  · refine ⟨_, gives_of_pos (gives_barDelayLatch s) ⟨hdue, hidle⟩, ?_⟩
    have hpos := s.dev.pos_moveDelays
    have hbar : ∀ b, s.dev.moveDelays.posBar b = s.dev.latchDelays.posBar b := fun b => by simp only [Dev.posBar, hpos]
    have hmotion := s.dev.motion_latchDelays
    refine ⟨by rw [hpos]; rfl, fun b hb => ?_, fun b _ => ?_, ?_⟩
    · rw [hbar, Dev.delay_latchDelays hlen hb]
    · rw [hbar, Dev.posBar_of_motion hmotion]
    · rw [hpos, (Dev.motion_eq hmotion).1]
  · exact gives_of_neg (gives_barDelayLatch s) fun ⟨h1, h2⟩ => by simp [h1, h2] at hor
  · exact gives_of_neg (gives_positionUpdate s) (by simp [hoff])

end Sys2Proof.Machine
end


section
/-! PROOF. What a read or a write of DRAM and of the coded SRAMs leaves as it is: everything out of a report's reach but the memories themselves
(R291, R295, R300, R304 to R310). -/

namespace Sys2Proof.Machine

/-- Everything out of a report's reach but the contents of DRAM and the SRAMs. -/
def Dev.aside (d : Dev) :=
  (d.fixed.1, d.fixed.2.1, (d.ktabs, d.hmap, d.enc, d.pos, ({ d.fire with stop := {} } : FireSt), d.groups), (d.tb, d.eth, d.thm), d.fixed.2.2.2.2)

theorem Dev.aside_of_fixed {d e : Dev} (h : e.fixed = d.fixed) : e.aside = d.aside := by
  simp only [Dev.aside, h, Dev.ktabs_of_fixed h, Dev.hmap_of_fixed h, Dev.enc_of_fixed h, Dev.pos_of_fixed h, Dev.fire_of_fixed h, Dev.groups_of_fixed h,
    Dev.tb_of_fixed h, Dev.eth_of_fixed h, Dev.thm_of_fixed h]

theorem Dev.spouts_of_aside {d e : Dev} (h : e.aside = d.aside) : e.spouts = d.spouts := congrArg (fun x => x.2.1.2.2.2.2.2.2.2.2.1) h
theorem Dev.jobCore_of_aside {d e : Dev} (h : e.aside = d.aside) (i : Nat) : (e.job i).core = (d.job i).core := congrFun (congrArg (fun x => x.2.2.2.2) h) i

/-! ### The parts -/

theorem Dev.aside_regs (d : Dev) (r : RegFile) : ({ d with regs := r } : Dev).aside = d.aside := rfl
theorem Dev.aside_modChan (d : Dev) (c : Nat) (f : DdrCh → DdrCh) : (d.modChan c f).aside = d.aside := rfl
theorem Dev.aside_touchRow (d : Dev) (a : Nat) (w : Bool) (s : Nat) : (d.touchRow a w s).aside = d.aside := rfl
theorem Dev.aside_putWord (d : Dev) (a w x : Nat) : (d.putWord a w x).aside = d.aside := rfl
theorem Dev.aside_bump (d : Dev) (f : Field) (i j n : Nat) : (d.bump f i j n).aside = d.aside := rfl
theorem Dev.aside_eccLast (d : Dev) (c : ReadClass) (a x p : Nat) : (d.eccLast c a x p).aside = d.aside := rfl
theorem Dev.aside_irq (d : Dev) (st en : Field) (k : Nat) (v : Option Field) (i : Nat) : (d.irq st en k v i).aside = d.aside := Dev.aside_of_fixed (Dev.fixed_irq ..)
theorem Dev.aside_report (d : Dev) (s i : Nat) : (d.report s i).aside = d.aside := Dev.aside_of_fixed (Dev.fixed_report ..)

theorem Dev.aside_takeFlip (d : Dev) (t : Nat) : (d.takeFlip t).2.aside = d.aside := by
  simp only [Dev.takeFlip]
  split <;> rfl

theorem Dev.aside_retireRow (d : Dev) (c row : Nat) : (d.retireRow c row).aside = d.aside := by
  simp only [Dev.retireRow]
  split
  · rw [Dev.aside_report, Dev.aside_irq, Dev.aside_modChan]
    refine foldl_keeps Dev.aside _ (fun d a => ?_) _ d
    split <;> rfl
  · rw [Dev.aside_report]
    exact (ite_keeps Dev.aside (Dev.aside_modChan ..) rfl).trans (foldl_keeps Dev.aside Dev.poisonWord (fun _ _ => rfl) _ d)

theorem Dev.aside_ledger (d : Dev) (a v : Nat) (s : Bool) : (d.ledger a v s).aside = d.aside := by
  simp only [Dev.ledger]
  split
  · exact ite_keeps Dev.aside rfl rfl
  · split_ifs
    · exact Dev.aside_retireRow ..
    all_goals rfl

theorem Dev.aside_noteRead (d : Dev) (a : Nat) (s : Bool) : (d.noteRead a s).aside = d.aside := by
  simp only [Dev.noteRead]
  split
  · rfl
  · have hled : ∀ v, ((((d.bump F.ECC_C_CE (d.chanAddr a).1).eccLast (d.look1 a).1 a (d.synd a) (d.chanAddr a).1).report (215 + (d.chanAddr a).1)).ledger a v s).aside = d.aside :=
      fun v => (Dev.aside_ledger ..).trans (Dev.aside_report ..)
    exact ite_keeps Dev.aside ((Dev.aside_putWord ..).trans (hled _)) (hled _)
  · exact (Dev.aside_report ..).trans (Dev.aside_irq ..)
  · rfl

theorem Dev.aside_dramRead (d : Dev) (a n s : Nat) : (d.dramRead a n s).2.2.aside = d.aside := by
  simp only [Dev.dramRead]
  refine (foldl_keeps Dev.aside _ (fun _ _ => Dev.aside_noteRead ..) _ _).trans (foldl_keeps Dev.aside _ (fun d b => ?_) _ d)
  exact ite_keeps Dev.aside rfl rfl

theorem Dev.aside_dramWriteWord (d : Dev) (a w : Nat) : (d.dramWriteWord a w).aside = d.aside := by
  simp only [Dev.dramWriteWord]
  refine ite_keeps Dev.aside rfl ?_
  have hflip := Dev.aside_takeFlip d (d.chanAddr a).1
  rcases h : d.takeFlip (d.chanAddr a).1 with ⟨o, e⟩
  rw [h] at hflip
  cases o <;> exact hflip

theorem Dev.aside_dramWrite (d : Dev) (a : Nat) (bs : List Nat) (s : Nat) : (d.dramWrite a bs s).aside = d.aside := by
  simp only [Dev.dramWrite]
  exact (foldl_keeps Dev.aside _ (fun _ _ => Dev.aside_dramWriteWord ..) _ _).trans (foldl_keeps Dev.aside _ (fun _ _ => Dev.aside_touchRow ..) _ d)

theorem Dev.aside_sramWrite (d : Dev) (a i w : Nat) : (d.sramWrite a i w).aside = d.aside := by
  simp only [Dev.sramWrite]
  generalize hd : ({ d with ecc := { d.ecc with sram := d.ecc.sram.filter (fun b => !(b.array = a && b.index = i)) } } : Dev) = e
  have he : e.aside = d.aside := by rw [← hd]; rfl
  have hflip := Dev.aside_takeFlip e a
  rcases h : e.takeFlip a with ⟨o, g⟩
  rw [h] at hflip
  cases o with
  | none => exact hflip.trans he
  | some m =>
    dsimp only
    split <;> exact hflip.trans he

end Sys2Proof.Machine
end


section
/-! PROOF. The spouts (R127, R133, R142 to R146). -/

namespace Sys2Proof.Machine

/-- A bar's places in a job without the line that it keeps for a second reading. -/
def Dev.uncached (d : Dev) (i : Nat) : List BarJob := (d.job i).bars.map (fun y => { y with cache := none })

theorem Dev.uncached_of_core {d e : Dev} {i : Nat} (h : (e.job i).core = (d.job i).core) : e.uncached i = d.uncached i := by
  have hbars : (e.job i).core.bars = (d.job i).core.bars := congrArg Job.bars h
  exact congrArg (List.map _) hbars

theorem Dev.job_modBarJob (d : Dev) (i b k : Nat) (f : BarJob → BarJob) :
    (d.modBarJob i b f).job k = if k = i then { d.job i with bars := setAt (d.job i).bars b f } else d.job k := Dev.job_modJob ..

/-! ### Reading raster -/

theorem Dev.aside_readRaster (d : Dev) (j : Job) (b l : Nat) : (d.readRaster j b l).2.2.aside = d.aside := by
  have hread : ∀ (e : Dev) a n s, e.aside = d.aside → (e.dramRead a n s).2.2.aside = d.aside := fun e a n s h => (Dev.aside_dramRead ..).trans h
  have hrep : ∀ (e : Dev) s, e.aside = d.aside → (e.report s).aside = d.aside := fun e s h => (Dev.aside_report ..).trans h
  have hite : ∀ {c : Prop} [Decidable c] {x y : List Nat × List Nat × Dev}, x.2.2.aside = d.aside → y.2.2.aside = d.aside → (if c then x else y).2.2.aside = d.aside :=
    fun hx hy => ite_keeps (fun r : List Nat × List Nat × Dev => r.2.2.aside) hx hy
  simp only [Dev.readRaster]
  refine hite (hite (hrep _ _ (hread _ _ _ _ rfl)) (hread _ _ _ _ rfl)) (hite (hrep _ _ (hread _ _ _ _ rfl)) (hite (hread _ _ _ _ rfl)
    (hite (hrep _ _ (hread _ _ _ _ (hread _ _ _ _ rfl))) ?_)))
  split
  · exact hread _ _ _ _ (hread _ _ _ _ rfl)
  · exact hrep _ _ ((Dev.aside_bump ..).trans (hread _ _ _ _ (hread _ _ _ _ rfl)))

/-- Since d a bar has read raster: its job keeps a line, or no longer does, and the spouts and the other jobs are as they were. -/
structure Dev.ReadLine (d e : Dev) (i : Nat) : Prop where
  spouts : e.spouts = d.spouts
  bars : e.uncached i = d.uncached i
  others : ∀ k, k ≠ i → (e.job k).core = (d.job k).core

theorem Dev.ReadLine.of_aside {d e : Dev} (i : Nat) (h : e.aside = d.aside) : d.ReadLine e i :=
  ⟨Dev.spouts_of_aside h, Dev.uncached_of_core (Dev.jobCore_of_aside h i), fun k _ => Dev.jobCore_of_aside h k⟩

/-- A change in place commutes with a map that commutes with it. -/
theorem map_setAt_comm {α : Type} (g : α → α) (l : List α) (n : Nat) {f : α → α} (h : ∀ x, g (f x) = f (g x)) : (setAt l n f).map g = setAt (l.map g) n f := by
  refine List.ext_getElem? fun k => ?_
  simp only [setAt, List.getElem?_map, List.getElem?_modify]
  cases l[k]? <;> by_cases hk : n = k <;> simp [hk, h]

/-- A line that is kept, or no longer kept, changes nothing else. -/
theorem Dev.ReadLine.cache {d e : Dev} {i : Nat} (h : d.ReadLine e i) (b : Nat) (c : Option (Nat × List Nat × List Nat)) :
    d.ReadLine (e.modBarJob i b (fun y => { y with cache := c })) i where
  spouts := h.spouts
  bars := by
    rw [Dev.uncached, Dev.job_modBarJob, if_pos rfl]
    exact (map_setAt _ _ _ (by intro _; rfl)).trans h.bars
  others k hk := by
    rw [Dev.job_modBarJob, if_neg hk]
    exact h.others k hk

theorem Dev.takeRaster_reads (d : Dev) (i b l : Nat) : d.ReadLine (d.takeRaster i b l).2.2 i := by
  have hread := Dev.ReadLine.of_aside i (Dev.aside_readRaster d (d.job i) b l)
  simp only [Dev.takeRaster]
  split
  · split
    · exact (Dev.ReadLine.of_aside i rfl).cache ..
    · exact hread.cache ..
  · split
    · exact hread
    · exact hread.cache ..

/-! ### A line is filled -/

/-- What a line carries and what reading it does. -/
def Dev.lineMade (d : Dev) (i b line : Nat) : LineKind → List (Nat × List Nat) × List Nat × Dev
  | .gap => ([], [], d)
  | .check p => (d.checkLevels (d.job i) b line p, [], d)
  | .tone v => (d.levelsOf (d.job i) b line false (fun _ => 256 + v), [], d)
  | .raster l =>
    if (d.job i).ctx.format < 2 then
      (d.levelsOf (d.job i) b line false (contone (d.job i).ctx ((d.job i).bar b).dec.linear (d.takeRaster i b l).1), (d.takeRaster i b l).2.1, (d.takeRaster i b l).2.2)
    else (d.levelsOf (d.job i) b line true (storedLevel (d.job i).ctx (d.takeRaster i b l).1), (d.takeRaster i b l).2.1, (d.takeRaster i b l).2.2)

/-- The heads' spout words are written. -/
def Dev.writeSpouts (d : Dev) (b line mode : Nat) (levels : List (Nat × List Nat)) : Dev :=
  (d.heads b).foldl (fun d e => d.sramWrite 0x10 (spoutIndex e.2.port line mode) (spoutWord mode (portLevels e.2.port levels) 0)) d

/-- The slices' busy times with a line of a bar. -/
def Dev.slicesBusy (d : Dev) (b : Nat) : List Nat := d.decBusy.zipIdx.map (fun e => e.1 + cdiv (d.sliceRange b e.2).2 8)

theorem Dev.lineMade_reads (d : Dev) (i b line : Nat) (kind : LineKind) : d.ReadLine (d.lineMade i b line kind).2.2 i := by
  cases kind with
  | raster l =>
    simp only [Dev.lineMade]
    split <;> exact Dev.takeRaster_reads ..
  | _ => exact Dev.ReadLine.of_aside i rfl

theorem Dev.fillLine_eq (d : Dev) (i b line : Nat) (kind : LineKind) : ∃ (e : Dev) (busy : List Nat),
    e.aside = (d.lineMade i b line kind).2.2.aside ∧
    d.fillLine i b line kind = Dev.watchReserve d (({ e with
      spouts := e.spouts ++ [{ bar := b, line := line, job := i, mode := (d.job i).ctx.dropMode, levels := (d.lineMade i b line kind).1, causes := (d.lineMade i b line kind).2.1 }],
      decBusy := busy } : Dev).modBarJob i b (fun y => { y with rd := line - (d.job i).p0 + 1, seen := Nat.max y.seen (line - (d.job i).p0 + 1) })) := by
  refine ⟨(d.lineMade i b line kind).2.2.writeSpouts b line (d.job i).ctx.dropMode (d.lineMade i b line kind).1,
    ((d.lineMade i b line kind).2.2.writeSpouts b line (d.job i).ctx.dropMode (d.lineMade i b line kind).1).slicesBusy b, ?_, ?_⟩
  · exact foldl_keeps Dev.aside _ (fun _ _ => Dev.aside_sramWrite ..) _ _
  · cases kind <;> rfl

theorem Dev.fillLine_spec (d : Dev) (i b line : Nat) (kind : LineKind) :
    (d.fillLine i b line kind).spouts = d.spouts ++
      [{ bar := b, line := line, job := i, mode := (d.job i).ctx.dropMode, levels := (d.lineMade i b line kind).1, causes := (d.lineMade i b line kind).2.1 }] ∧
    (d.fillLine i b line kind).uncached i = (setAt (d.job i).bars b (fun y =>
      { y with rd := line - (d.job i).p0 + 1, seen := max y.seen (line - (d.job i).p0 + 1) })).map (fun y => { y with cache := none }) ∧
    ∀ k, k ≠ i → ((d.fillLine i b line kind).job k).core = (d.job k).core := by
  obtain ⟨e, busy, he, hfill⟩ := Dev.fillLine_eq d i b line kind
  obtain ⟨hs, hb, ho⟩ := Dev.lineMade_reads d i b line kind
  have hfix := Dev.fixed_watchReserve d (({ e with
      spouts := e.spouts ++ [{ bar := b, line := line, job := i, mode := (d.job i).ctx.dropMode, levels := (d.lineMade i b line kind).1, causes := (d.lineMade i b line kind).2.1 }],
      decBusy := busy } : Dev).modBarJob i b (fun y => { y with rd := line - (d.job i).p0 + 1, seen := Nat.max y.seen (line - (d.job i).p0 + 1) }))
  rw [← hfill] at hfix
  refine ⟨?_, ?_, fun k hk => ?_⟩
  · rw [Dev.spouts_of_fixed hfix, ← hs, ← Dev.spouts_of_aside he]
    rfl
  · rw [Dev.uncached_of_core (Dev.jobCore_of_fixed hfix i), Dev.uncached, Dev.job_modBarJob, if_pos rfl]
    have hbars : (e.job i).bars.map (fun y : BarJob => ({ y with cache := none } : BarJob)) = (d.job i).bars.map (fun y => { y with cache := none }) :=
      (Dev.uncached_of_core (Dev.jobCore_of_aside he i)).trans hb
    have hmove : ∀ l : List BarJob, (setAt l b (fun y => { y with rd := line - (d.job i).p0 + 1, seen := max y.seen (line - (d.job i).p0 + 1) })).map (fun y => { y with cache := none }) =
        setAt (l.map (fun y => { y with cache := none })) b (fun y => { y with rd := line - (d.job i).p0 + 1, seen := max y.seen (line - (d.job i).p0 + 1) }) :=
      fun l => map_setAt_comm _ _ _ (by intro _; rfl)
    rw [hmove (d.job i).bars, ← hbars]
    exact hmove (e.job i).bars
  · rw [Dev.jobCore_of_fixed hfix k, Dev.job_modBarJob, if_neg hk]
    exact (Dev.jobCore_of_aside he k).trans (ho k hk)

/-! ### SPOUT_LINE_FILL -/

/-- The line that a bar's slices can fill is the next one needed, once its raster is stored and the spouts have room. -/
theorem Dev.fillable_some {d : Dev} {b i line : Nat} (hn : d.nextNeeded b = some (i, line))
    (hstored : ∀ l, (d.job i).kindAt b (line - (d.job i).p0) = .raster l → has ((d.job i).bar b).stored ((d.job i).ctx.storedOf l) = true)
    (hroom : d.spoutFill b + spoutBytes (d.job i).ctx.dropMode ≤ 65536) : d.fillable b = some (i, line, (d.job i).kindAt b (line - (d.job i).p0)) := by
  simp only [Dev.fillable, hn]
  generalize (d.job i).kindAt b (line - (d.job i).p0) = kind at hstored ⊢
  cases kind with
  | raster l => simp only [hstored l rfl, hroom, decide_true, Bool.and_self, if_true]
  | _ => simp only [hroom, decide_true, Bool.and_self, if_true]

theorem Dev.fillable_absent {d : Dev} {b i line l : Nat} (hn : d.nextNeeded b = some (i, line))
    (hk : (d.job i).kindAt b (line - (d.job i).p0) = .raster l) (hstored : has ((d.job i).bar b).stored ((d.job i).ctx.storedOf l) = false) : d.fillable b = none := by
  simp only [Dev.fillable, hn, hk, hstored, Bool.false_and, Bool.false_eq_true, if_false]

theorem Dev.fillable_full {d : Dev} {b i line : Nat} (hn : d.nextNeeded b = some (i, line))
    (hfull : 65536 < d.spoutFill b + spoutBytes (d.job i).ctx.dropMode) : d.fillable b = none := by
  simp only [Dev.fillable, hn, decide_eq_false (not_le.mpr hfull), Bool.and_false, Bool.false_eq_true, if_false]

theorem gives_spoutLineFill_none {b : Bar} {s : State} (h : s.dev.fillable b.val = none) : Gives (.spoutLineFill b) s s.dev := by
  have hrun : exec (.spoutLineFill b) s = .next { s with dev := match s.dev.fillable b.val with
    | some (i, line, kind) => if (List.range 8).any (fun c => s.dev.spoutFill c < s.dev.spoutFill b.val && (s.dev.fillable c).isSome) then s.dev else s.dev.fillLine i b.val line kind
    | none => s.dev } := rfl
  rwa [h] at hrun

/-- Has a bar with less in its spouts a line that can be filled. -/
def Dev.yields (d : Dev) (b : Nat) : Bool := (List.range 8).any (fun c => d.spoutFill c < d.spoutFill b && (d.fillable c).isSome)

theorem Dev.yields_iff (d : Dev) (b : Nat) : d.yields b = true ↔ ∃ c < 8, d.spoutFill c < d.spoutFill b ∧ d.fillable c ≠ none := by
  simp only [Dev.yields, List.any_eq_true, List.mem_range, Bool.and_eq_true, decide_eq_true_eq, Option.isSome_iff_ne_none]

theorem gives_spoutLineFill_some {b : Bar} {s : State} {i line : Nat} {kind : LineKind} (h : s.dev.fillable b.val = some (i, line, kind)) :
    Gives (.spoutLineFill b) s (if s.dev.yields b.val = true then s.dev else s.dev.fillLine i b.val line kind) := by
  have hrun : exec (.spoutLineFill b) s = .next { s with dev := match s.dev.fillable b.val with
    | some (i, line, kind) => if s.dev.yields b.val = true then s.dev else s.dev.fillLine i b.val line kind
    | none => s.dev } := rfl
  rwa [h] at hrun

/-- Settles O48: the line that can be filled is the next one needed; while a bar with less in its spouts can be filled too it waits, else the spouts take it. -/
theorem spoutLineIsFilled : Obligations.SpoutLineIsFilled := by
  unfold Obligations.SpoutLineIsFilled
  refine ⟨fun b s i line j kind hn hj hk => ?_, fun b s hn => gives_spoutLineFill_none (by simp only [Dev.fillable, hn])⟩
  subst hj hk
  refine ⟨fun hstored hroom => ⟨fun hfirst => ?_, fun c hc hless hcan => ?_⟩, fun l hl hst => gives_spoutLineFill_none (Dev.fillable_absent hn hl hst),
    fun hfull => gives_spoutLineFill_none (Dev.fillable_full hn hfull)⟩
  · have hgives := gives_of_neg (gives_spoutLineFill_some (Dev.fillable_some hn hstored hroom)) fun hy => by
      obtain ⟨c, hc, hless, hcan⟩ := (Dev.yields_iff ..).mp hy
      exact hcan (hfirst c hc hless)
    obtain ⟨hspouts, hbars, hothers⟩ := Dev.fillLine_spec s.dev i b.val line ((s.dev.job i).kindAt b.val (line - (s.dev.job i).p0))
    refine ⟨_, hgives, ⟨_, _, hspouts, fun h => ?_, fun p h => ?_, fun v h => ?_, fun l r h hr => ?_⟩, hbars, hothers⟩
    · rw [h]; exact ⟨rfl, rfl⟩
    · rw [h]; exact ⟨rfl, rfl⟩
    · rw [h]; exact ⟨rfl, rfl⟩
    · rw [h, hr]
      simp only [Dev.lineMade]
      split <;> exact ⟨rfl, rfl⟩
  · exact gives_of_pos (gives_spoutLineFill_some (Dev.fillable_some hn hstored hroom)) ((Dev.yields_iff ..).mpr ⟨c, hc, hless, hcan⟩)

end Sys2Proof.Machine
end


section
/-! PROOF. Line-keyed tables: the switch at a key line, REPLACED, BUSY, and the old bank that is freed (R157 to R160). -/

namespace Sys2Proof.Machine

/-! ### Keyed tables -/

theorem Dev.ktab_names (d : Dev) (kind set port : Nat) : (d.ktab kind set port).kind = kind ∧ (d.ktab kind set port).set = set ∧ (d.ktab kind set port).port = port := by
  rw [Dev.ktab]
  cases h : d.ktabs.find? (fun t => t.kind = kind && t.set = set && t.port = port) with
  | none => exact ⟨rfl, rfl, rfl⟩
  | some t =>
    have hm := List.find?_some h
    simpa only [Option.getD_some, Bool.and_eq_true, decide_eq_true_eq, and_assoc] using hm

theorem find?_replaced_self {α : Type} (l : List α) (p : α → Bool) {t : α} (ht : p t = true) : (l.filter (fun u => !p u) ++ [t]).find? p = some t := by
  have hnone : (l.filter (fun u => !p u)).find? p = none := by
    rw [List.find?_eq_none]
    intro u hu
    simpa using (List.mem_filter.mp hu).2
  rw [List.find?_append, hnone, List.find?_cons_of_pos ht, Option.none_or]

theorem find?_replaced_ne {α : Type} (l : List α) (p q : α → Bool) {t : α} (hpq : ∀ u, q u = true → p u = false) (ht : q t = false) :
    (l.filter (fun u => !p u) ++ [t]).find? q = l.find? q := by
  rw [List.find?_append, List.find?_filter, List.find?_cons_of_neg (by simp [ht]), List.find?_nil, Option.or_none]
  congr 1
  funext u
  cases hq : q u with
  | false => simp
  | true => simp [hpq u hq]

/-- Is a table one kind's of one set and port. -/
def KTable.named (kind set port : Nat) (t : KTable) : Bool := t.kind = kind && t.set = set && t.port = port

theorem KTable.named_iff {kind set port : Nat} {t : KTable} : t.named kind set port = true ↔ t.kind = kind ∧ t.set = set ∧ t.port = port := by
  simp only [KTable.named, Bool.and_eq_true, decide_eq_true_eq, and_assoc]

theorem Dev.ktab_setKtab (d : Dev) (t : KTable) (kind set port : Nat) :
    (d.setKtab t).ktab kind set port = if t.kind = kind ∧ t.set = set ∧ t.port = port then t else d.ktab kind set port := by
  have hfind : (d.setKtab t).ktab kind set port =
      ((d.ktabs.filter (fun u => !u.named t.kind t.set t.port) ++ [t]).find? (KTable.named kind set port)).getD { kind, set, port } := rfl
  rw [hfind]
  split
  · next h =>
    obtain ⟨rfl, rfl, rfl⟩ := h
    rw [find?_replaced_self _ _ (KTable.named_iff.mpr ⟨rfl, rfl, rfl⟩)]
    rfl
  · next h =>
    rw [find?_replaced_ne _ (KTable.named t.kind t.set t.port) _ (fun u hu => ?_) (Bool.eq_false_iff.mpr fun ht => h (KTable.named_iff.mp ht))]
    · rfl
    · obtain ⟨rfl, rfl, rfl⟩ := KTable.named_iff.mp hu
      exact Bool.eq_false_iff.mpr fun hu => h ⟨(KTable.named_iff.mp hu).1.symm, (KTable.named_iff.mp hu).2.1.symm, (KTable.named_iff.mp hu).2.2.symm⟩

/-! ### A bank is read (R302) -/

theorem Dev.aside_sramRead (d : Dev) (a i w : Nat) : (d.sramRead a i w).2.2.aside = d.aside := by
  have hecc : ∀ (x : EccSt) (f : Field) (c : ReadClass) (y p : Nat), ((({ d with ecc := x } : Dev).bump f).eccLast c i y p).aside = d.aside := fun _ _ _ _ _ => rfl
  simp only [Dev.sramRead]
  split
  · rfl
  · split
    · rfl
    · exact (Dev.aside_report ..).trans (hecc ..)
    · exact (Dev.aside_report ..).trans ((Dev.aside_irq ..).trans (hecc ..))

theorem Dev.aside_snapshot (d : Dev) (lo hi : Nat) : (d.snapshot lo hi).2.aside = d.aside := by
  simp only [Dev.snapshot]
  exact foldl_keeps (fun e : RegFile × Dev => e.2.aside) _ (fun _ _ => Dev.aside_sramRead ..) _ _

/-- With every SRAM word as written, a window is read as it stands. -/
theorem Dev.snapshot_sound {d : Dev} (h : d.ecc.sram = []) (lo hi : Nat) : d.snapshot lo hi = (d.bar2.filter (fun e => lo ≤ e.1 && e.1 < hi), d) := by
  simp only [Dev.snapshot, h, List.filter_nil, List.foldl_nil]

theorem Dev.hmap_of_aside {d e : Dev} (h : e.aside = d.aside) : e.hmap = d.hmap := congrArg (fun x => x.2.2.1.2.1) h
theorem Dev.ktabs_of_aside {d e : Dev} (h : e.aside = d.aside) : e.ktabs = d.ktabs := congrArg (fun x => x.2.2.1.1) h
theorem Dev.bar2_of_aside {d e : Dev} (h : e.aside = d.aside) : e.bar2 = d.bar2 := congrArg (fun x => x.1.1) h

theorem Dev.ktab_of_ktabs {d e : Dev} (h : e.ktabs = d.ktabs) (kind set port : Nat) : e.ktab kind set port = d.ktab kind set port := by simp only [Dev.ktab, h]
theorem Dev.tabBars_of_hmap {d e : Dev} (h : e.hmap = d.hmap) (kind port : Nat) : e.tabBars kind port = d.tabBars kind port := by simp only [Dev.tabBars, Dev.portHome, h]

/-! ### The tables of some ports are switched (R157) -/

/-- One table takes its bank at a key line, or at once. -/
def Dev.switchTo (d : Dev) (kind set key ramp p : Nat) (bank : RegFile) : KTable :=
  if d.tabBars kind p = [] then { d.ktab kind set p with bank := bank, sw := none }
  else { d.ktab kind set p with sw := some { bank := bank, key := key, ramp := if kind ≤ 2 then ramp else 0 } }

/-- The switch of one table of an update. -/
def Dev.switchPort (kind set key ramp : Nat) (d : Dev) (p : Nat) : Dev :=
  (d.snapshot (tabWindow kind set p).1 (tabWindow kind set p).2).2.tabSwitch (d.ktab kind set p) (d.snapshot (tabWindow kind set p).1 (tabWindow kind set p).2).1 key ramp

theorem Dev.tabSwitch_eq (d : Dev) (kind set p : Nat) (bank : RegFile) (key ramp : Nat) :
    d.tabSwitch (d.ktab kind set p) bank key ramp = d.setKtab (d.switchTo kind set key ramp p bank) := by
  obtain ⟨hk, -, hp⟩ := d.ktab_names kind set p
  simp only [Dev.tabSwitch, Dev.switchTo, hk, hp, List.isEmpty_iff]
  split <;> rfl

/-- The words of a table's window that differ from their reset content. -/
def Dev.keyedWindow (d : Dev) (kind set p : Nat) : RegFile :=
  d.bar2.filter (fun e => decide ((tabWindow kind set p).1 ≤ e.1) && decide (e.1 < (tabWindow kind set p).2))

theorem Dev.switchPort_spec (kind set key ramp : Nat) (d : Dev) (p : Nat) :
    (d.switchPort kind set key ramp p).hmap = d.hmap ∧ (d.switchPort kind set key ramp p).bar2 = d.bar2 ∧
    (d.ecc.sram = [] → (d.switchPort kind set key ramp p).ecc.sram = []) ∧
    (∀ q, q ≠ p → (d.switchPort kind set key ramp p).ktab kind set q = d.ktab kind set q) ∧
    ∃ bank, (d.ecc.sram = [] → bank = d.keyedWindow kind set p) ∧ (d.switchPort kind set key ramp p).ktab kind set p = d.switchTo kind set key ramp p bank := by
  obtain ⟨r, hr⟩ : ∃ r, r = d.snapshot (tabWindow kind set p).1 (tabWindow kind set p).2 := ⟨_, rfl⟩
  have haside : r.2.aside = d.aside := hr ▸ Dev.aside_snapshot ..
  have htab : ∀ q, r.2.ktab kind set q = d.ktab kind set q := Dev.ktab_of_ktabs (Dev.ktabs_of_aside haside) kind set
  have hto : r.2.switchTo kind set key ramp p r.1 = d.switchTo kind set key ramp p r.1 := by
    simp only [Dev.switchTo, htab, Dev.tabBars_of_hmap (Dev.hmap_of_aside haside)]
  have heq : d.switchPort kind set key ramp p = r.2.setKtab (d.switchTo kind set key ramp p r.1) := by
    rw [Dev.switchPort, ← hr, ← htab, Dev.tabSwitch_eq, hto]
  have hnames : (d.switchTo kind set key ramp p r.1).kind = kind ∧ (d.switchTo kind set key ramp p r.1).set = set ∧ (d.switchTo kind set key ramp p r.1).port = p := by
    simp only [Dev.switchTo]
    split <;> exact d.ktab_names kind set p
  rw [heq]
  refine ⟨(Dev.hmap_of_aside haside : r.2.hmap = d.hmap), (Dev.bar2_of_aside haside : r.2.bar2 = d.bar2), fun h => ?_, fun q hq => ?_, r.1, fun h => ?_, ?_⟩
  · rw [hr, Dev.snapshot_sound h]
    exact h
  · rw [Dev.ktab_setKtab, if_neg fun h => hq (h.2.2.symm.trans hnames.2.2), htab]
  · rw [hr, Dev.snapshot_sound h]
    rfl
  · rw [Dev.ktab_setKtab, if_pos hnames]

theorem Dev.switchPorts_spec {kind set key ramp : Nat} {ports : List Nat} (hnd : ports.Nodup) (d : Dev) :
    (∀ q ∉ ports, (ports.foldl (Dev.switchPort kind set key ramp) d).ktab kind set q = d.ktab kind set q) ∧
    ∀ p ∈ ports, ∃ bank, (d.ecc.sram = [] → bank = d.keyedWindow kind set p) ∧
      (ports.foldl (Dev.switchPort kind set key ramp) d).ktab kind set p = d.switchTo kind set key ramp p bank := by
  induction ports generalizing d with
  | nil => exact ⟨fun _ _ => rfl, fun p hp => absurd hp List.not_mem_nil⟩
  | cons a l ih =>
    obtain ⟨ha, hl⟩ := List.nodup_cons.mp hnd
    obtain ⟨hmap, hbar2, hsram, hother, bank, hbank, hself⟩ := Dev.switchPort_spec kind set key ramp d a
    obtain ⟨hout, hin⟩ := ih hl (d.switchPort kind set key ramp a)
    rw [List.foldl_cons]
    refine ⟨fun q hq => ?_, fun p hp => ?_⟩
    · obtain ⟨hqa, hql⟩ := not_or.mp (hq ∘ List.mem_cons.mpr)
      exact (hout q hql).trans (hother q hqa)
    · rcases List.mem_cons.mp hp with rfl | hpl
      · exact ⟨bank, hbank, (hout p ha).trans hself⟩
      · have hpa : p ≠ a := fun h => ha (h ▸ hpl)
        obtain ⟨b, hb, hto⟩ := hin p hpl
        refine ⟨b, fun h => (hb (hsram h)).trans ?_, hto.trans ?_⟩
        · simp only [Dev.keyedWindow, hbar2]
        · simp only [Dev.switchTo, hother p hpa, Dev.tabBars_of_hmap hmap]

/-! ### GO (R157, R159, R160) -/

/-- The tables that DEC_UPD_SEL selects: their kind, LUT set and ports. -/
def Dev.updKind (d : Dev) : Nat := d.get F.DEC_UPD_SEL_KIND
def Dev.updSet (d : Dev) : Nat := if d.updKind ≤ 2 then d.get F.DEC_UPD_SEL_LUT_SET else 0
def Dev.updPorts (d : Dev) : List Nat :=
  if d.updKind = 4 then [0] else if d.get F.DEC_UPD_SEL_PORT = 255 then List.range 192 else [d.get F.DEC_UPD_SEL_PORT]

theorem Dev.updPorts_nodup (d : Dev) : d.updPorts.Nodup := by
  simp only [Dev.updPorts]
  split_ifs
  · exact List.nodup_singleton _
  · exact List.nodup_range
  · exact List.nodup_singleton _

/-- The key line that an update takes. -/
def Dev.updKey (d : Dev) : Nat := d.clampKey d.updKind d.updPorts (d.lineNear (d.get F.DEC_UPD_KEY)).toNat

/-- What GO leaves in its registers. -/
def Dev.updDone (d : Dev) (key code : Nat) : Dev := ((d.set F.DEC_UPD_KEY key).set F.DEC_UPD_CMD_DONE 1).set F.DEC_UPD_CMD_CODE code

theorem foldl_max_spec {α : Type} (f : α → Nat) (l : List α) (k : Nat) :
    k ≤ l.foldl (fun k b => Nat.max k (f b)) k ∧ (∀ b ∈ l, f b ≤ l.foldl (fun k b => Nat.max k (f b)) k) ∧
    (l.foldl (fun k b => Nat.max k (f b)) k = k ∨ ∃ b ∈ l, l.foldl (fun k b => Nat.max k (f b)) k = f b) := by
  induction l generalizing k with
  | nil => exact ⟨le_rfl, fun b hb => absurd hb List.not_mem_nil, .inl rfl⟩
  | cons a l ih =>
    obtain ⟨hk, hl, heq⟩ := ih (Nat.max k (f a))
    rw [List.foldl_cons]
    refine ⟨le_trans (Nat.le_max_left ..) hk, fun b hb => ?_, ?_⟩
    · rcases List.mem_cons.mp hb with rfl | hb
      · exact le_trans (Nat.le_max_right ..) hk
      · exact hl b hb
    · rcases heq with heq | ⟨b, hb, heq⟩
      · rcases max_choice k (f a) with h | h
        · exact .inl (heq.trans h)
        · exact .inr ⟨a, List.mem_cons_self, heq.trans h⟩
      · exact .inr ⟨b, List.mem_cons_of_mem _ hb, heq⟩

theorem Dev.updKey_spec (d : Dev) : (d.lineNear (d.get F.DEC_UPD_KEY)).toNat ≤ d.updKey ∧
    (∀ p ∈ d.updPorts, ∀ b ∈ d.tabBars d.updKind p, d.firstUnread b ≤ d.updKey) ∧
    (d.updKey = (d.lineNear (d.get F.DEC_UPD_KEY)).toNat ∨ ∃ p ∈ d.updPorts, ∃ b ∈ d.tabBars d.updKind p, d.updKey = d.firstUnread b) := by
  obtain ⟨hk, hl, heq⟩ := foldl_max_spec d.firstUnread (d.updPorts.flatMap (fun p => d.tabBars d.updKind p)) (d.lineNear (d.get F.DEC_UPD_KEY)).toNat
  refine ⟨hk, fun p hp b hb => hl b (List.mem_flatMap.mpr ⟨p, hp, hb⟩), heq.imp_right ?_⟩
  rintro ⟨b, hb, heq⟩
  obtain ⟨p, hp, hb⟩ := List.mem_flatMap.mp hb
  exact ⟨p, hp, b, hb, heq⟩

theorem Dev.tabBusy_iff (d : Dev) (kind set p : Nat) :
    d.tabBusy (d.ktab kind set p) = true ↔ ∃ w, (d.ktab kind set p).sw = some w ∧ ∃ b ∈ d.tabBars kind p, w.key < d.firstUnread b := by
  obtain ⟨hk, -, hp⟩ := d.ktab_names kind set p
  simp only [Dev.tabBusy, hk, hp]
  cases (d.ktab kind set p).sw with
  | none => simp
  | some w => simp

/-- Does a selected table await a switch whose key line a bar has read. -/
def Dev.updBusy (d : Dev) : Bool := (d.updPorts.map (fun p => d.ktab d.updKind d.updSet p)).any (fun t => d.tabBusy t)

theorem Dev.updBusy_iff (d : Dev) : d.updBusy = true ↔
    ∃ p ∈ d.updPorts, ∃ w, (d.ktab d.updKind d.updSet p).sw = some w ∧ ∃ b ∈ d.tabBars d.updKind p, w.key < d.firstUnread b := by
  simp only [Dev.updBusy, List.any_map, List.any_eq_true, Function.comp_apply, Dev.tabBusy_iff]

theorem Dev.updateGo_busy {d : Dev} (h : d.updBusy = true) : d.updateGo = d.updDone (d.get F.DEC_UPD_KEY) 1 := by
  have hrun : ∀ (r : Nat × Nat × Dev), r = (1, (d.lineNear (d.get F.DEC_UPD_KEY)).toNat, d) →
      r.2.2.updDone (if r.1 = 1 || d.updPorts.all (fun p => (d.tabBars d.updKind p).isEmpty) then d.get F.DEC_UPD_KEY else r.2.1 % 2 ^ 48) r.1 =
        d.updDone (d.get F.DEC_UPD_KEY) 1 := by
    rintro r rfl
    rfl
  exact hrun _ (if_pos h)

theorem Dev.updateGo_runs {d : Dev} (h : d.updBusy = false) :
    d.updateGo = (d.updPorts.foldl (Dev.switchPort d.updKind d.updSet d.updKey (d.get F.DEC_UPD_RAMP)) d).updDone
      (if d.updPorts.all (fun p => (d.tabBars d.updKind p).isEmpty) then d.get F.DEC_UPD_KEY else d.updKey % 2 ^ 48)
      (if (d.updPorts.map (fun p => d.ktab d.updKind d.updSet p)).any (fun t => t.sw.isSome) then 2 else 0) := by
  have hrun : ∀ (r : Nat × Nat × Dev) (e : Dev) (c k : Nat), r = (if c = 1 then 2 else 0, k, e) →
      r.2.2.updDone (if r.1 = 1 || d.updPorts.all (fun p => (d.tabBars d.updKind p).isEmpty) then d.get F.DEC_UPD_KEY else r.2.1 % 2 ^ 48) r.1 =
        e.updDone (if d.updPorts.all (fun p => (d.tabBars d.updKind p).isEmpty) then d.get F.DEC_UPD_KEY else k % 2 ^ 48) (if c = 1 then 2 else 0) := by
    rintro r e c k rfl
    by_cases hc : c = 1 <;> simp [hc]
  have hcode : ∀ b : Bool, (if b = true then 2 else 0) = if b.toNat = 1 then 2 else 0 := by decide
  rw [hcode]
  exact hrun _ _ _ _ ((if_neg (Bool.eq_false_iff.mp h)).trans (Prod.ext (hcode _) rfl))

theorem Dev.updDone_spec (d : Dev) (key code : Nat) : (d.updDone key code).ktabs = d.ktabs ∧ (d.updDone key code).get F.DEC_UPD_KEY = key % 2 ^ 48 ∧
    (d.updDone key code).get F.DEC_UPD_CMD_DONE = 1 ∧ (d.updDone key code).get F.DEC_UPD_CMD_CODE = code % 4 := by
  refine ⟨rfl, ?_, ?_, ?_⟩
  · rw [Dev.updDone, Dev.get_set_distinct _ (by decide) _ _ _ _ _, Dev.get_set_distinct _ (by decide) _ _ _ _ _, Dev.get_set_self]
    rfl
  · rw [Dev.updDone, Dev.get_set_distinct _ (by decide) _ _ _ _ _, Dev.get_set_self]
    rfl
  · rw [Dev.updDone, Dev.get_set_self]
    rfl

theorem gives_tableUpdateGo {rq : Requester} {s : State} (h : s.Ready rq 0) : Gives (.tableUpdateGo rq) s s.dev.updateGo := by
  simp only [Gives, exec, execTableUpdateGo]
  rw [State.row_none h _ _ _ _ _ (by decide) (by cases rq <;> decide +kernel) (by decide) (by decide) (by decide)]
  rfl

theorem gives_oldBankFree (kind set port : Nat) (s : State) : Gives (.oldBankFree kind set port) s (match (s.dev.ktab kind set port).sw with
    | some w => if (s.dev.tabBars kind port).all (fun b => w.key + w.ramp ≤ s.dev.firstOpen b) then s.dev.setKtab { s.dev.ktab kind set port with bank := w.bank, sw := none } else s.dev
    | none => s.dev) := rfl

/-- Settles O49: an update that no bar has read past switches every selected table at the one key line; else it is BUSY and switches none. -/
theorem tableUpdateIsKeyed : Obligations.TableUpdateIsKeyed := by
  unfold Obligations.TableUpdateIsKeyed
  refine ⟨fun rq s kind set ports hrq hkind hset hports => ?_, fun kind set port s => ⟨fun w hw => ⟨fun hall => ?_, fun b hb hlt => ?_⟩, fun hnone => ?_⟩⟩
  · obtain rfl : kind = s.dev.updKind := hkind
    obtain rfl : set = s.dev.updSet := hset
    obtain rfl : ports = s.dev.updPorts := hports
    have hgo := gives_tableUpdateGo hrq
    refine ⟨fun hfree => ?_, fun p hp w hw b hb hlt => ?_⟩
    · have hnot : s.dev.updBusy = false := Bool.eq_false_iff.mpr fun hbusy => by
        obtain ⟨p, hp, w, hw, b, hb, hlt⟩ := (Dev.updBusy_iff _).mp hbusy
        exact absurd (hfree p hp w hw b hb) (not_le.mpr hlt)
      rw [Dev.updateGo_runs hnot] at hgo
      obtain ⟨hlow, hpast, heq⟩ := s.dev.updKey_spec
      obtain ⟨-, hin⟩ := Dev.switchPorts_spec (kind := s.dev.updKind) (set := s.dev.updSet) (key := s.dev.updKey) (ramp := s.dev.get F.DEC_UPD_RAMP) s.dev.updPorts_nodup s.dev
      obtain ⟨htabs, hkey, hdone, hcode⟩ := Dev.updDone_spec (s.dev.updPorts.foldl (Dev.switchPort s.dev.updKind s.dev.updSet s.dev.updKey (s.dev.get F.DEC_UPD_RAMP)) s.dev)
        (if s.dev.updPorts.all (fun p => (s.dev.tabBars s.dev.updKind p).isEmpty) then s.dev.get F.DEC_UPD_KEY else s.dev.updKey % 2 ^ 48)
        (if (s.dev.updPorts.map (fun p => s.dev.ktab s.dev.updKind s.dev.updSet p)).any (fun t => t.sw.isSome) then 2 else 0)
      refine ⟨_, hgo, s.dev.updKey, hlow, hpast, heq, fun p hp => ?_, hkey.trans ?_, hdone, hcode.trans ?_⟩
      · obtain ⟨bank, hbank, hto⟩ := hin p hp
        rw [Dev.ktab_of_ktabs htabs, hto]
        exact ⟨bank, hbank, fun hbars => if_neg hbars, fun hbars => if_pos hbars⟩
      · have hall : s.dev.updPorts.all (fun p => (s.dev.tabBars s.dev.updKind p).isEmpty) = true ↔ ∀ p ∈ s.dev.updPorts, s.dev.tabBars s.dev.updKind p = [] := by
          simp only [List.all_eq_true, List.isEmpty_iff]
        simp only [hall]
        split <;> simp
      · have hany : (s.dev.updPorts.map (fun p => s.dev.ktab s.dev.updKind s.dev.updSet p)).any (fun t => t.sw.isSome) = true ↔
            ∃ p ∈ s.dev.updPorts, (s.dev.ktab s.dev.updKind s.dev.updSet p).sw ≠ none := by
          simp only [List.any_map, List.any_eq_true, Function.comp_apply, Option.isSome_iff_ne_none]
        simp only [hany]
        split <;> rfl
    · rw [Dev.updateGo_busy ((Dev.updBusy_iff _).mpr ⟨p, hp, w, hw, b, hb, hlt⟩)] at hgo
      exact hgo
  · have hgo := gives_oldBankFree kind set port s
    rw [hw] at hgo
    exact gives_of_pos hgo (by simpa using hall)
  · have hgo := gives_oldBankFree kind set port s
    rw [hw] at hgo
    exact gives_of_neg hgo (by simpa using ⟨b, hb, hlt⟩)
  · have hgo := gives_oldBankFree kind set port s
    rwa [hnone] at hgo

end Sys2Proof.Machine
end


section
/-! PROOF. A context beyond the 512 of the cellar book (R109, R114). -/

namespace Sys2Proof.Machine

/-- SLU_JOB_IDX, a field of 9 bits, holds 512: the tag of that OPEN context is the tag of context 0 in its generation 1, which is OPEN too, and context 1 waits to claim it. -/
def indexBeyond : State :=
  { State.reset with
    dev := { Dev.reset with
      regs := [(F.SYS_STAT_PHASE.key 0 0, 6), (F.SLU_JOB_IDX.key 0 0, 512)]
      jobs := [(0, { st := .opened, gen := 1 }), (1, { claimWait := true, ctx := { nextTag := 512 } }), (512, { st := .opened })]
      pwr := { Dev.reset.pwr with st := .on, running := true, link := true } } }

/-- Is a context's chain broken in what a command leaves. -/
def brokenAfter (c : Instr) (i : Nat) (s : State) : Bool :=
  match exec c s with
  | .next t => (t.dev.job i).broken
  | .fault _ => false
  | .refused _ => false

theorem ready_indexBeyond : indexBeyond.Ready .host 0 := by decide +kernel

/-- Refutes O44: the clause on ABORT says nothing of the range that a register holds, and where SLU_JOB_IDX holds 512 the claim that waits for that context is tried
again on the context whose tag is the same, so that the chain is not broken. -/
theorem not_jobIsArmedReleasedAndRead : ¬ Obligations.JobIsArmedReleasedAndRead := by
  rintro ⟨hcmd, -⟩
  obtain ⟨-, -, -, -, -, habort, -⟩ := hcmd .host indexBeyond 512 _ ready_indexBeyond (by decide +kernel) (by decide +kernel) rfl
  obtain ⟨e, hrun, -, -, -, -, -, -, -, hbroken⟩ := habort (.inl (by decide +kernel))
  have hb := hbroken (1, { claimWait := true, ctx := { nextTag := 512 } }) (by decide +kernel) (by decide) rfl (by decide +kernel) (by decide +kernel)
  have hnot : brokenAfter (.jobAbort .host) 1 indexBeyond = false := by decide +kernel
  rw [brokenAfter, hrun] at hnot
  exact Bool.false_ne_true (hnot.symm.trans hb)

end Sys2Proof.Machine
end


section
/-! PROOF. What becomes of the contexts: a job that starts, a chain that is claimed, and the commands of the cellar book (R108, R109, R111, R114, R178). -/

namespace Sys2Proof.Machine

/-! ### The contexts beside the rest of the device -/

/-- Every context without its ranges. -/
def Dev.cores (d : Dev) : Nat → Job := fun k => (d.job k).core

theorem Dev.cores_of_fixed {d e : Dev} (h : e.fixed = d.fixed) : e.cores = d.cores := funext (Dev.jobCore_of_fixed h)
theorem Dev.job_of_jobs {d e : Dev} (h : e.jobs = d.jobs) (k : Nat) : e.job k = d.job k := by simp only [Dev.job, h]
theorem Dev.cores_of_jobs {d e : Dev} (h : e.jobs = d.jobs) : e.cores = d.cores := by
  funext k
  rw [Dev.cores, Dev.job_of_jobs h, Dev.cores]

theorem Dev.cores_modJob (d : Dev) (i k : Nat) (f : Job → Job) : (d.modJob i f).cores k = if k = i then (f (d.job i)).core else d.cores k := by
  rw [Dev.cores, Dev.job_modJob]
  split <;> rfl

@[simp] theorem Dev.jobs_adoptAll (d : Dev) : d.adoptAll.jobs = d.jobs := by
  refine foldl_keeps Dev.jobs Dev.adoptIndex (fun d n => ?_) _ d
  simp only [Dev.adoptIndex]
  exact ite_keeps Dev.jobs rfl rfl

@[simp] theorem Dev.jobs_addSegment (d : Dev) (l p : Nat) : (d.addSegment l p).jobs = d.jobs := by
  simp only [Dev.addSegment]
  exact ite_keeps Dev.jobs rfl rfl

theorem Dev.fixed_jobEvent (d : Dev) (i st ev c l : Nat) : (d.jobEvent i st ev c l).fixed = d.fixed := Dev.fixed_pushJobRec ..

/-! ### A job starts (R111, R178) -/

/-- A bar's heads latch their flight times, and the bar its lines' need. -/
def Dev.latchFlights (c : JobCtx) (bars : List BarJob) (d : Dev) (b : Nat) : Dev :=
  let d := (List.range 24).foldl (fun d s => d.set F.FIRE_B_S_FLIGHT (((bars.getD b {}).heads.getD s {}).flight) b s) d
  let n := needBar (bars.getD b {}).heads
  { d with fire := { d.fire with bars := setAt d.fire.bars b (fun x => { x with need := n, wave := some c.waveSet }) } }

theorem Dev.jobs_latchFlights (c : JobCtx) (bars : List BarJob) (d : Dev) (b : Nat) : (d.latchFlights c bars b).jobs = d.jobs :=
  foldl_keeps Dev.jobs (fun (d : Dev) s => d.set F.FIRE_B_S_FLIGHT (((bars.getD b {}).heads.getD s {}).flight) b s) (fun _ _ => rfl) _ d

/-- A context as it runs from a press line. -/
def Job.ran (j : Job) (line : Nat) (late claimed : Bool) (bars : List BarJob) (strip : Option StripPlan) : Job :=
  { j with st := .running, p0 := line, startLate := late, claimed := claimed, waiting := false, prints0 := none, bars := bars, strip := strip }

/-- The bars of a context with what they latch. -/
def Dev.latchedBars (d : Dev) (i : Nat) : List BarJob :=
  ((d.job i).bars.zipIdx).map (fun e =>
    if bit (d.job i).ctx.barMask e.2 then
      { e.1 with rd := 0, rel := 0, seen := 0, cache := none, dec := d.latchScreen (d.job i).ctx e.2, heads := d.latchHeads (d.job i).ctx e.2 } else e.1)

/-- Does a strip of a job find no room in its gap. -/
def Dev.stripCramped (d : Dev) (i : Nat) : Bool :=
  match d.latchStrip (d.job i).ctx with
  | some s => s.mode = 1 && (d.job i).ctx.gapLines < s.size (d.job i).ctx.bars.length
  | none => false

/-- A context that runs, before its record is formed. -/
def Dev.runLatched (d : Dev) (i line : Nat) (late claimed : Bool) : Dev :=
  let e := (d.addSegment line (if (d.job i).ctx.lpi1200 then 1 else 2)).modJob i (fun j => j.ran line late claimed (d.latchedBars i) (if d.stripCramped i then none else d.latchStrip (d.job i).ctx))
  (d.job i).ctx.bars.foldl (Dev.latchFlights (d.job i).ctx (d.latchedBars i)) { e with barTags := (d.job i).ctx.bars.foldl (fun l b => setAt l b (fun _ => e.jobTag i)) e.barTags }

/-- The record of a context that runs. -/
def Dev.runNoted (d : Dev) (i line : Nat) (late cramped : Bool) : Dev :=
  let d := d.jobEvent i 0 (1 + (if late then 0x100 else 0)) 0 line
  if cramped then d.report 277 else d

theorem Dev.runJob_eq (d : Dev) (i line : Nat) (late claimed : Bool) :
    d.runJob i line late claimed = Dev.watchReserve d (((d.runLatched i line late claimed).runNoted i line late (d.stripCramped i)).adoptAll.drvWatch) := rfl

theorem Dev.cores_runLatched (d : Dev) (i line : Nat) (late claimed : Bool) (k : Nat) : (d.runLatched i line late claimed).cores k =
    if k = i then (d.job i).core.ran line late claimed (d.latchedBars i) (if d.stripCramped i then none else d.latchStrip (d.job i).ctx) else d.cores k := by
  have hseg : (d.addSegment line (if (d.job i).ctx.lpi1200 then 1 else 2)).jobs = d.jobs := Dev.jobs_addSegment ..
  have hjob : (d.addSegment line (if (d.job i).ctx.lpi1200 then 1 else 2)).job i = d.job i := Dev.job_of_jobs hseg i
  obtain ⟨e, he⟩ : ∃ e, e = (d.addSegment line (if (d.job i).ctx.lpi1200 then 1 else 2)).modJob i
      (fun j => j.ran line late claimed (d.latchedBars i) (if d.stripCramped i then none else d.latchStrip (d.job i).ctx)) := ⟨_, rfl⟩
  have hfold : (d.runLatched i line late claimed).jobs = e.jobs := by
    rw [Dev.runLatched, ← he]
    exact foldl_keeps Dev.jobs _ (Dev.jobs_latchFlights _ _) _ _
  rw [Dev.cores_of_jobs hfold, he, Dev.cores_modJob, hjob, Dev.cores_of_jobs hseg]
  split <;> rfl

theorem Dev.cores_runJob (d : Dev) (i line : Nat) (late claimed : Bool) (k : Nat) : (d.runJob i line late claimed).cores k =
    if k = i then (d.job i).core.ran line late claimed (d.latchedBars i) (if d.stripCramped i then none else d.latchStrip (d.job i).ctx) else d.cores k := by
  have hnoted : ((d.runLatched i line late claimed).runNoted i line late (d.stripCramped i)).cores = (d.runLatched i line late claimed).cores := by
    simp only [Dev.runNoted]
    exact ite_keeps Dev.cores (Dev.cores_of_fixed ((Dev.fixed_report ..).trans (Dev.fixed_jobEvent ..))) (Dev.cores_of_fixed (Dev.fixed_jobEvent ..))
  rw [Dev.runJob_eq, Dev.cores_of_fixed (Dev.fixed_watchReserve ..), Dev.cores_of_fixed (Dev.fixed_drvWatch _), Dev.cores_of_jobs (Dev.jobs_adoptAll _), hnoted, Dev.cores_runLatched]

/-! ### A chain is claimed (R114) -/

/-- What of a context no claim of another's changes. -/
def Job.still (j : Job) := (j.st, j.gen, j.ctx, j.prints, j.bars, j.p0)

theorem Job.still_of_core {j x : Job} (h : j.core = x.core) : j.still = x.still := by
  have hs : j.core.still = x.core.still := congrArg Job.still h
  exact hs

theorem Dev.still_of_fixed {d e : Dev} (h : e.fixed = d.fixed) (k : Nat) : (e.job k).still = (d.job k).still := Job.still_of_core (Dev.jobCore_of_fixed h k)

theorem Dev.still_modJob (d : Dev) (i : Nat) (f : Job → Job) (hf : ∀ j, (f j).still = j.still) (k : Nat) : ((d.modJob i f).job k).still = (d.job k).still := by
  rw [Dev.job_modJob]
  split
  · next h => rw [hf, h]
  · rfl

theorem Job.st_of_still {j x : Job} (h : j.still = x.still) : j.st = x.st := congrArg Prod.fst h

theorem Dev.still_claim (line : Nat) (n i : Nat) (d : Dev) {k : Nat} (hk : (d.job k).st ≠ .armed) : ((Dev.claim line n i d).job k).still = (d.job k).still := by
  induction n generalizing i d with
  | zero => exact Dev.still_modJob _ _ _ (by intro _; rfl) _
  | succ n ih =>
    have hi : ∀ (e : Dev) (f : Job → Job), (∀ j, (f j).still = j.still) → ((e.modJob i f).job k).still = (e.job k).still := fun e f hf => Dev.still_modJob e i f hf k
    simp only [Dev.claim]
    refine ite_keeps (fun e : Dev => (e.job k).still) (hi _ _ (by intro _; rfl)) ?_
    generalize hn : (d.job i).ctx.nextTag % 512 = n'
    split
    · exact hi _ _ (by intro _; rfl)
    · next harmed =>
      have hne : k ≠ n' := fun h => hk (h ▸ harmed)
      refine ite_keeps (fun e : Dev => (e.job k).still) ?_ (ite_keeps (fun e : Dev => (e.job k).still) (hi _ _ (by intro _; rfl)) ?_)
      · obtain ⟨e, he⟩ : ∃ e : Dev, e = ((d.modJob n' (fun j => { j with st := .done, p0 := line, claimed := true, waiting := false })).modJob i
            (fun j => { j with succ := some n', claimWait := false })) := ⟨_, rfl⟩
        have hstill : (e.job k).still = (d.job k).still := by
          rw [he, hi _ _ (by intro _; rfl), Dev.job_modJob, if_neg hne]
        rw [← he, Dev.job_of_jobs (Dev.jobs_adoptAll _), Dev.still_of_fixed (Dev.fixed_jobEvent ..)]
        exact ite_keeps (fun e : Dev => (e.job k).still) ((ih _ _ (by rwa [Job.st_of_still hstill])).trans hstill) hstill
      · exact (Job.still_of_core ((Dev.cores_runJob ..).trans (if_neg hne))).trans (hi _ _ (by intro _; rfl))
    · exact hi _ _ (by intro _; rfl)

/-! ### The commands of SLU_JOB_CMD (R108, R109) -/

theorem State.jobCmd_eq {s : State} {rq : Requester} (h : s.Ready rq 0) (cmd : Instr) (f : Dev → Dev) :
    s.jobCmd rq cmd f = { s with dev := (s.dev.set F.SLU_JOB_RESULT_DONE 0).sequenced f } :=
  State.roleWrite_plain h _ _ _ _ _ (by decide) (by decide) (by decide)

theorem Dev.sequenced_off {d : Dev} {f : Dev → Dev} (h : d.pwr.running = false) : d.sequenced f = d := if_neg (by simp [Dev.procOn, h])

/-- A command that the cellar processor carries out. -/
theorem gives_jobCmd {s : State} {rq : Requester} (h : s.Ready rq 0) (hrun : s.dev.pwr.running = true) {cmd : Instr} {f : Dev → Dev}
    (hexec : exec cmd s = .next (s.jobCmd rq cmd f)) : Gives cmd s (f (s.dev.set F.SLU_JOB_RESULT_DONE 0)) := by
  have hon : (s.dev.set F.SLU_JOB_RESULT_DONE 0).procOn = true := by
    have hst : s.dev.procOn = true := by simp only [Dev.procOn, h.1.1, hrun, decide_true, Bool.and_self]
    exact hst
  have hseq : (s.dev.set F.SLU_JOB_RESULT_DONE 0).sequenced f = f (s.dev.set F.SLU_JOB_RESULT_DONE 0) := if_pos hon
  rw [Gives, hexec, State.jobCmd_eq h, hseq]

/-- Without the cellar processor a command clears DONE alone. -/
theorem gives_jobCmd_off {s : State} {rq : Requester} (h : s.Ready rq 0) (hrun : s.dev.pwr.running = false) {cmd : Instr} {f : Dev → Dev}
    (hexec : exec cmd s = .next (s.jobCmd rq cmd f)) : Gives cmd s (s.dev.set F.SLU_JOB_RESULT_DONE 0) := by
  have hoff : (s.dev.set F.SLU_JOB_RESULT_DONE 0).pwr.running = false := hrun
  rw [Gives, hexec, State.jobCmd_eq h, Dev.sequenced_off hoff]

theorem Dev.selected_cleared (d : Dev) : (d.set F.SLU_JOB_RESULT_DONE 0).selected = d.get F.SLU_JOB_IDX := Dev.get_set_distinct d (by decide) _ _ _ _ _

end Sys2Proof.Machine
end


section
/-! PROOF. Contexts that do not stand in ascending order (R114, R129, R131). -/

namespace Sys2Proof.Machine

/-- Context 5 stands before context 3 in the list of the contexts. Both run on bar 1 from press line 0; the raster of context 5 is stored there, that of context 3 is not.
Context 5, which bar 0 has read to its end, is to claim context 7, which is OPEN. -/
def unordered : State :=
  { State.reset with
    dev := { Dev.reset with
      regs := [(F.SYS_STAT_PHASE.key 0 0, 6)]
      jobs := [(5, { st := .running, ctx := { barMask := 3, width := 1, lineCount := 1, printCount := 1, chain := true, nextTag := 7 }, bars := [{ rd := 5 }, { stored := [0] }] }),
        (3, { st := .running, ctx := { barMask := 2, width := 1, lineCount := 1, printCount := 1 }, geo := { stopGuard := 5 }, bars := [{}, {}] }),
        (7, { st := .opened })]
      pwr := { Dev.reset.pwr with st := .on, running := true, link := true } } }

/-- A count of a bar's predicted underruns in what a command leaves. -/
def predAfter (c : Instr) (b : Nat) (s : State) : Nat :=
  match exec c s with
  | .next t => t.dev.get F.CIS_B_CNT_PRED b
  | .fault _ => 0
  | .refused _ => 0

/-- Refutes O45: the clause on a claim that waits for an OPEN successor says nothing of the order in which the contexts are listed; where they are not in ascending order, the claim
that is noted puts them in order, bar 1 reads another of two jobs that begin at one press line, and an underrun is predicted. -/
theorem not_jobRuns : ¬ Obligations.JobRuns := by
  rintro ⟨-, -, hclaim, -⟩
  have hdue := (hclaim 5 unordered 1 7 rfl rfl (by decide +kernel)).1 (by decide +kernel) (by decide +kernel) (by decide +kernel)
  have hrun : Gives (.chainClaim 5) unordered (unordered.dev.modJob 5 (fun j => { j with claimWait := true })) := hdue.2.2.1 (by decide +kernel) (by decide +kernel)
  have hpred : predAfter (.chainClaim 5) 1 unordered = 1 := by decide +kernel
  rw [predAfter, hrun] at hpred
  have hnone : (unordered.dev.modJob 5 (fun j => { j with claimWait := true })).get F.CIS_B_CNT_PRED 1 = 0 := by decide +kernel
  exact absurd (hpred.symm.trans hnone) (by decide)

end Sys2Proof.Machine
end


section
/-! PROOF. Jobs end: FINISH, ABORT, the last line fired, and the record of an aborted job (R111, R113). -/

namespace Sys2Proof.Machine

/-- What a command leaves as its result. -/
theorem Dev.get_jobResult (d : Dev) (i code : Nat) : (d.jobResult i code).get F.SLU_JOB_RESULT_DONE = 1 ∧ (d.jobResult i code).get F.SLU_JOB_RESULT_CODE = code % 16 := by
  refine ⟨?_, ?_⟩
  · rw [Dev.jobResult, Dev.get_set_distinct _ (by decide) _ _ _ _ _, Dev.get_set_distinct _ (by decide) _ _ _ _ _, Dev.get_set_self]
    rfl
  · rw [Dev.jobResult, Dev.get_set_distinct _ (by decide) _ _ _ _ _, Dev.get_set_self]
    rfl

/-! ### FINISH (R111) -/

/-- The print that holds the highest line that a job's claim bar has read, counted from 1. -/
def Job.printRead (j : Job) : Nat := ((j.bar j.ctx.claimBar).seen - 1) / max 1 j.ctx.period + 1

/-- The last print of a job so far. -/
def Job.lastPrint (j : Job) : Nat := match j.prints0 with | some m => m | none => if j.ctx.forever then j.printRead else j.ctx.printCount

theorem Dev.jobFinish_eq {d : Dev} {i : Nat} (h : d.selected = i) : d.jobFinish = if (d.job i).st ≠ .running then d.jobResult i 1
    else (Dev.watchReserve d (d.modJob i (fun j => { j with prints0 := some (min (d.job i).printRead (d.job i).lastPrint) }))).jobResult i 0 := by
  subst h
  rfl

theorem Dev.cores_jobResult (d : Dev) (i code : Nat) : (d.jobResult i code).cores = d.cores := rfl

theorem Dev.jobFinish_running {d : Dev} {i : Nat} (h : d.selected = i) (hrun : (d.job i).st = .running) :
    (∀ k, d.jobFinish.cores k = if k = i then { d.cores i with prints0 := some (min (d.job i).printRead (d.job i).lastPrint) } else d.cores k) ∧
    d.jobFinish.get F.SLU_JOB_RESULT_DONE = 1 ∧ d.jobFinish.get F.SLU_JOB_RESULT_CODE = 0 := by
  rw [Dev.jobFinish_eq h, if_neg (not_not.mpr hrun)]
  refine ⟨fun k => ?_, Dev.get_jobResult ..⟩
  rw [Dev.cores_jobResult, Dev.cores_of_fixed (Dev.fixed_watchReserve ..), Dev.cores_modJob]
  split <;> rfl

/-! ### ABORT (R113) -/

/-- The descriptors of a job in flight end ABORTED. -/
def Dev.endDescs (d : Dev) (tag : Nat) : Dev :=
  { d with
    reads := d.reads.filter (fun r => !d.descs.any (fun x => x.opcode = 1 && x.tag = tag && x.ring = r.ring && x.order = r.order)),
    descs := d.descs.map (fun x => if x.opcode = 1 && x.tag = tag then { x with status := 8, phase := .ended, got := [] } else x) }

/-- One bar of an aborted job is cut at its first line that is not in the spouts, and owes blank lines to the end of its print. -/
def Dev.cutBar (e : Dev) (i : Nat) (j : Job) (d : Dev) (b : Nat) : Dev :=
  let c := e.cutLine i b
  let k := (c - j.p0) / Nat.max 1 j.ctx.period
  let last := j.p0 + (k + 1) * j.ctx.period - 1
  let past := match j.length with | some m => decide (j.p0 + m ≤ c) | none => false
  let x : Blank := { job := i, gen := j.gen, first := c, last, ctx := j.ctx, geo := j.geo, heads := (j.bar b).heads }
  let d := d.modBarJob i b (fun y => { y with cutAt := some c })
  if past then d else { d with fire := { d.fire with bars := setAt d.fire.bars b (fun y => { y with blanks := y.blanks ++ [x] }) } }

theorem Dev.jobAbort_running {d : Dev} {i : Nat} (h : d.selected = i) (hrun : (d.job i).st = .running) : d.jobAbort =
    (Dev.watchReserve (((d.job i).ctx.bars.foldl ((d.endDescs (d.jobTag i)).cutBar i (d.job i)) (d.endDescs (d.jobTag i))).modJob i (fun j => { j with st := .aborted, claimWait := false }))
      (((((d.job i).ctx.bars.foldl ((d.endDescs (d.jobTag i)).cutBar i (d.job i)) (d.endDescs (d.jobTag i))).modJob i
        (fun j => { j with st := .aborted, claimWait := false })).leaveRunning i).lampsHold (d.job i).ctx.barMask (d.job i).ctx.width)).jobResult i 0 := by
  subst h
  rw [Dev.jobAbort, hrun]
  rfl

theorem Dev.cutLine_endDescs (d : Dev) (tag i b : Nat) : (d.endDescs tag).cutLine i b = d.cutLine i b := rfl

/-- The bars of a job with some of them cut. -/
def cutBars (line : Nat → Nat) (cut : List Nat) (bars : List BarJob) : List BarJob :=
  bars.zipIdx.map (fun e => if e.2 ∈ cut then { e.1 with cutAt := some (line e.2) } else e.1)

theorem setAt_cutBars (line : Nat → Nat) (cut : List Nat) (bars : List BarJob) (b : Nat) :
    setAt (cutBars line cut bars) b (fun y => { y with cutAt := some (line b) }) = cutBars line (cut ++ [b]) bars := by
  refine List.ext_getElem? fun k => ?_
  simp only [setAt, cutBars, List.getElem?_modify, List.getElem?_map, List.getElem?_zipIdx, List.mem_append, List.mem_singleton]
  cases bars[k]? with
  | none => rfl
  | some x =>
    by_cases hb : b = k
    · subst hb
      by_cases hc : b ∈ cut <;> simp [hc]
    · simp [hb, Ne.symm hb]

theorem Dev.cores_cutBar (e d : Dev) (i b : Nat) (j : Job) : (e.cutBar i j d b).cores = (d.modBarJob i b (fun y => { y with cutAt := some (e.cutLine i b) })).cores ∧
    (e.cutBar i j d b).descs = d.descs := by
  simp only [Dev.cutBar]
  refine ⟨ite_keeps Dev.cores rfl rfl, ite_keeps Dev.descs rfl rfl⟩

theorem Dev.cores_cutFold (e : Dev) (i : Nat) (j : Job) (bs : List Nat) : ∀ (d : Dev) (cut : List Nat) (bars : List BarJob), (d.job i).bars = cutBars (e.cutLine i) cut bars →
    (∀ k, (bs.foldl (e.cutBar i j) d).cores k = if k = i then { d.cores i with bars := cutBars (e.cutLine i) (cut ++ bs) bars } else d.cores k) ∧
    (bs.foldl (e.cutBar i j) d).descs = d.descs := by
  induction bs with
  | nil =>
    intro d cut bars h
    refine ⟨fun k => ?_, rfl⟩
    rw [List.append_nil, ← h]
    split
    · next hk => subst hk; rfl
    · rfl
  | cons b bs ih =>
    intro d cut bars h
    obtain ⟨hcores, hdescs⟩ := Dev.cores_cutBar e d i b j
    have hat : ∀ k, (e.cutBar i j d b).cores k = if k = i then { d.cores i with bars := cutBars (e.cutLine i) (cut ++ [b]) bars } else d.cores k := fun k => by
      rw [hcores, Dev.modBarJob, Dev.cores_modJob]
      split
      · rw [← setAt_cutBars, ← h]
        rfl
      · rfl
    have hbars : ((e.cutBar i j d b).job i).bars = cutBars (e.cutLine i) (cut ++ [b]) bars := congrArg Job.bars ((hat i).trans (if_pos rfl))
    obtain ⟨hall, hd⟩ := ih (e.cutBar i j d b) (cut ++ [b]) bars hbars
    rw [List.foldl_cons]
    refine ⟨fun k => (hall k).trans ?_, hd.trans hdescs⟩
    rw [List.append_assoc, List.singleton_append, hat i, if_pos rfl, hat k]
    split <;> rfl

/-! ### What follows when a job ends -/

/-- A bar without a running job sends tickle records until it fires again. -/
def Dev.ceaseFiring (d : Dev) (b : Nat) : Dev := { d with fire := { d.fire with bars := setAt d.fire.bars b (fun x => { x with firing := false }) } }

theorem Dev.leaveRunning_keeps (d : Dev) (i : Nat) : (d.leaveRunning i).cores = d.cores ∧ (d.leaveRunning i).descs = d.descs := by
  obtain ⟨bs, hbs⟩ : ∃ bs : List Nat, d.leaveRunning i = ((bs.foldl Dev.ceaseFiring d).closeRanges i (fun _ => true)).drvWatch := ⟨_, rfl⟩
  have hcores : (bs.foldl Dev.ceaseFiring d).cores = d.cores := foldl_keeps Dev.cores Dev.ceaseFiring (fun _ _ => rfl) _ d
  have hdescs : (bs.foldl Dev.ceaseFiring d).descs = d.descs := foldl_keeps Dev.descs Dev.ceaseFiring (fun _ _ => rfl) _ d
  have hfix := (Dev.fixed_drvWatch ((bs.foldl Dev.ceaseFiring d).closeRanges i (fun _ => true))).trans (Dev.fixed_closeRanges _ i (fun _ => true))
  rw [hbs]
  exact ⟨(Dev.cores_of_fixed hfix).trans hcores, (Dev.descs_of_fixed hfix).trans hdescs⟩

theorem Dev.lampsHold_keeps {γ : Type} (π : Dev → γ) (hπ : ∀ (d : Dev) c f, π (d.modLamp c f) = π d) (d : Dev) (m w : Nat) : π (d.lampsHold m w) = π d := by
  simp only [Dev.lampsHold]
  exact foldl_keeps π _ (fun _ _ => ite_keeps π (hπ ..) rfl) _ d

theorem Dev.cores_finishResume (d : Dev) : d.finishResume.cores = d.cores := by
  have hrecheck : ∀ e : Dev, e.recheck.fixed = e.fixed := fun e => by
    simp only [Dev.recheck]
    exact ite_keeps Dev.fixed (Dev.fixed_stopTrigger ..) rfl
  simp only [Dev.finishResume]
  refine ite_keeps Dev.cores ?_ rfl
  exact Dev.cores_of_fixed ((Dev.fixed_drvWatch _).trans ((hrecheck _).trans (Dev.fixed_irq ..)))

theorem Dev.cores_memKick (d : Dev) (p : Nat) : (d.memKick p).cores = d.cores := by
  have htick : (d.laneTick p).cores = d.cores := Dev.cores_of_fixed (Dev.fixed_laneTick ..)
  have hauth : ∀ e : Dev, (e.authStart p).cores = e.cores := fun e => by
    simp only [Dev.authStart]
    exact (Dev.cores_of_fixed (Dev.fixed_laneSend ..)).trans rfl
  simp only [Dev.memKick]
  rw [← htick]
  refine ite_keeps Dev.cores rfl ?_
  split
  · rfl
  · exact ite_keeps Dev.cores (hauth _) (Dev.cores_of_fixed (Dev.fixed_laneStart ..))

theorem Dev.cores_usageRead (d : Dev) (p : Nat) : (d.usageRead p).cores = d.cores := by
  simp only [Dev.usageRead]
  exact ite_keeps Dev.cores rfl (Dev.cores_memKick ..)

theorem Dev.still_of_cores {d e : Dev} (h : e.cores = d.cores) (k : Nat) : (e.job k).still = (d.job k).still := Job.still_of_core (congrFun h k)

/-- The context and the descriptors that ABORT of a running job leaves. -/
theorem Dev.jobAbort_spec {d : Dev} {i : Nat} (h : d.selected = i) (hrun : (d.job i).st = .running) :
    d.jobAbort.cores i = { d.cores i with st := .aborted, claimWait := false, bars := cutBars (d.cutLine i) (d.job i).ctx.bars (d.job i).bars } ∧
    d.jobAbort.descs = (d.endDescs (d.jobTag i)).descs ∧ d.jobAbort.get F.SLU_JOB_RESULT_DONE = 1 ∧ d.jobAbort.get F.SLU_JOB_RESULT_CODE = 0 := by
  rw [Dev.jobAbort_running h hrun]
  obtain ⟨c, hc, hline, hcores, hdescs⟩ : ∃ c, c = d.endDescs (d.jobTag i) ∧ c.cutLine i = d.cutLine i ∧ c.cores = d.cores ∧ c.job i = d.job i := ⟨_, rfl, rfl, rfl, rfl⟩
  rw [← hc]
  have hbars : (c.job i).bars = cutBars (c.cutLine i) [] (d.job i).bars := by
    rw [hdescs]
    simp [cutBars]
  obtain ⟨hcut, hcutd⟩ := Dev.cores_cutFold c i (d.job i) (d.job i).ctx.bars c [] (d.job i).bars hbars
  generalize (d.job i).ctx.bars.foldl (c.cutBar i (d.job i)) c = e at hcut hcutd ⊢
  obtain ⟨x, hx, hxc, hxd⟩ : ∃ x, x = e.modJob i (fun j => { j with st := .aborted, claimWait := false }) ∧
      x.cores i = { e.cores i with st := .aborted, claimWait := false } ∧ x.descs = e.descs := ⟨_, rfl, (Dev.cores_modJob ..).trans (if_pos rfl), rfl⟩
  rw [← hx]
  obtain ⟨hleave, hleaved⟩ := x.leaveRunning_keeps i
  refine ⟨?_, ?_, Dev.get_jobResult ..⟩
  · rw [Dev.cores_jobResult, Dev.cores_of_fixed (Dev.fixed_watchReserve ..), Dev.lampsHold_keeps Dev.cores (fun _ _ _ => rfl), hleave, hxc, hcut i, if_pos rfl, hcores, hline,
      List.nil_append]
  · have hres : ∀ e : Dev, (e.jobResult i 0).descs = e.descs := fun _ => rfl
    rw [hres, Dev.descs_of_fixed (Dev.fixed_watchReserve ..), Dev.lampsHold_keeps Dev.descs (fun _ _ _ => rfl), hleaved, hxd, hcutd]

/-! ### The last line is fired (R111) -/

/-- A context becomes DONE with its prints counted, and a chain that it still owes is claimed. -/
def Dev.jobOver (d : Dev) (i n : Nat) : Dev :=
  let e := d.modJob i (fun j => { j with st := .done, prints := sat 0xFFFFFFFF (n / Nat.max 1 (d.job i).ctx.period) })
  if (d.job i).ctx.chain && (d.job i).succ.isNone && !(d.job i).broken then Dev.claim ((d.job i).p0 + n) 512 i e else e

/-- What follows when the last line of a job has been fired or dropped. -/
def Dev.jobEnd (d : Dev) (i n : Nat) : Dev :=
  let j := d.job i
  let line := (j.ctx.bars.filterMap (fun b => (j.bar b).lastFired)).foldl Nat.max 0
  let before := d
  let d := (((d.jobOver i n).leaveRunning i).adoptAll).lampsHold j.ctx.barMask j.ctx.width
  let d := d.jobEvent i 0 (2 + (if (d.job i).broken then 0x200 else 0)) (d.job i).prints line
  let d := Dev.watchReserve before d.finishResume
  (j.ctx.bars.flatMap (fun b => (d.heads b).map (fun e => e.2.port))).foldl (fun d p => d.usageRead p) d

theorem gives_jobDone (i : JobIdx) (s : State) : Gives (.jobDone i) s (match (s.dev.job i.val).length with
    | some n => if ((s.dev.job i.val).st = .running && (s.dev.job i.val).ctx.bars.all (fun b => n ≤ ((s.dev.job i.val).bar b).rel + (s.dev.job i.val).ctx.gapLines)) = true
        then s.dev.jobEnd i.val n else s.dev
    | none => s.dev) := rfl

theorem Dev.still_jobOver (d : Dev) (i n : Nat) :
    ((d.jobOver i n).job i).still = ({ d.job i with st := .done, prints := sat 0xFFFFFFFF (n / Nat.max 1 (d.job i).ctx.period) } : Job).still := by
  obtain ⟨e, he, hjob⟩ : ∃ e : Dev, e = d.modJob i (fun j => { j with st := .done, prints := sat 0xFFFFFFFF (n / Nat.max 1 (d.job i).ctx.period) }) ∧
      e.job i = { d.job i with st := .done, prints := sat 0xFFFFFFFF (n / Nat.max 1 (d.job i).ctx.period) } :=
    ⟨_, rfl, by rw [Dev.job_modJob, if_pos rfl]⟩
  simp only [Dev.jobOver, ← he]
  refine ite_keeps (fun e : Dev => (e.job i).still) ((Dev.still_claim _ _ _ _ ?_).trans ?_) ?_
  · rw [hjob]
    exact fun h => JobState.noConfusion h
  · rw [hjob]
  · rw [hjob]

theorem Dev.still_jobEnd (d : Dev) (i n : Nat) : ((d.jobEnd i n).job i).still = ((d.jobOver i n).job i).still := by
  obtain ⟨e, he⟩ : ∃ e : Dev, e = (((d.jobOver i n).leaveRunning i).adoptAll).lampsHold (d.job i).ctx.barMask (d.job i).ctx.width := ⟨_, rfl⟩
  have hcores : e.cores = (d.jobOver i n).cores := by
    rw [he, Dev.lampsHold_keeps Dev.cores (fun _ _ _ => rfl), Dev.cores_of_jobs (Dev.jobs_adoptAll _), (Dev.leaveRunning_keeps _ _).1]
  simp only [Dev.jobEnd, ← he]
  refine Dev.still_of_cores ?_ i
  refine (foldl_keeps Dev.cores _ (fun _ _ => Dev.cores_usageRead ..) _ _).trans ?_
  rw [Dev.cores_of_fixed (Dev.fixed_watchReserve ..), Dev.cores_finishResume, Dev.cores_of_fixed (Dev.fixed_jobEvent ..), hcores]

/-! ### The record of an aborted job (R113) -/

/-- The bars of a context that still await the end of what was in their spouts at ABORT. -/
def Job.cuts (j : Job) : List Nat := j.ctx.bars.filter (fun b => (j.bar b).cutAt.isSome)

theorem Job.mem_cuts {j : Job} {b : Nat} : b ∈ j.cuts ↔ b ∈ j.ctx.bars ∧ (j.bar b).cutAt ≠ none := by
  rw [Job.cuts, List.mem_filter, Option.isSome_iff_ne_none]

/-- Has a bar fired or dropped what was in its spouts. -/
def Job.cutPassed (j : Job) (b : Nat) : Bool := match (j.bar b).cutAt with | some c => decide (c ≤ j.p0 + (j.bar b).rel) | none => true

theorem Job.cutPassed_iff {j : Job} {b : Nat} : j.cutPassed b = true ↔ ∀ c, (j.bar b).cutAt = some c → c ≤ j.p0 + (j.bar b).rel := by
  rw [Job.cutPassed]
  cases (j.bar b).cutAt <;> simp

theorem Dev.abortRecord_eq (d : Dev) (i : Nat) : ∃ st ev c l, d.abortRecord i =
    if (((d.job i).st = .aborted || (d.job i).st = .draining) && !(d.job i).cuts.isEmpty && (d.job i).cuts.all (d.job i).cutPassed) = true then
      ((d.closeRanges i (fun _ => true)).jobEvent i st ev c l).modJob i (fun j => { j with bars := j.bars.map (fun x => { x with cutAt := none }) })
    else d := ⟨_, _, _, _, rfl⟩

theorem Dev.abortRecord_due {d : Dev} {i : Nat} (hst : (d.job i).st = .aborted ∨ (d.job i).st = .draining) (hcut : ∃ b ∈ (d.job i).ctx.bars, ((d.job i).bar b).cutAt ≠ none)
    (hpassed : ∀ b ∈ (d.job i).ctx.bars, ∀ c, ((d.job i).bar b).cutAt = some c → c ≤ (d.job i).p0 + ((d.job i).bar b).rel) : ∃ st ev c l, d.abortRecord i =
      ((d.closeRanges i (fun _ => true)).jobEvent i st ev c l).modJob i (fun j => { j with bars := j.bars.map (fun x => { x with cutAt := none }) }) := by
  obtain ⟨st, ev, c, l, heq⟩ := d.abortRecord_eq i
  refine ⟨st, ev, c, l, heq.trans (if_pos ?_)⟩
  obtain ⟨b, hb, hne⟩ := hcut
  have hmem := Job.mem_cuts.mpr ⟨hb, hne⟩
  rw [Bool.and_eq_true, Bool.and_eq_true, Bool.or_eq_true, decide_eq_true_eq, decide_eq_true_eq]
  refine ⟨⟨hst, ?_⟩, List.all_eq_true.mpr fun b hb => Job.cutPassed_iff.mpr (hpassed b (Job.mem_cuts.mp hb).1)⟩
  cases hc : (d.job i).cuts with
  | nil => rw [hc] at hmem; exact absurd hmem List.not_mem_nil
  | cons x xs => rfl

theorem Dev.abortRecord_not {d : Dev} {i : Nat} (h : ((d.job i).st ≠ .aborted ∧ (d.job i).st ≠ .draining) ∨ (∀ b ∈ (d.job i).ctx.bars, ((d.job i).bar b).cutAt = none) ∨
    ∃ b ∈ (d.job i).ctx.bars, ∃ c, ((d.job i).bar b).cutAt = some c ∧ (d.job i).p0 + ((d.job i).bar b).rel < c) : d.abortRecord i = d := by
  obtain ⟨st, ev, c, l, heq⟩ := d.abortRecord_eq i
  refine heq.trans (if_neg ?_)
  rw [Bool.and_eq_true, Bool.and_eq_true, Bool.or_eq_true, decide_eq_true_eq, decide_eq_true_eq]
  rintro ⟨⟨hst, hsome⟩, hall⟩
  rcases h with ⟨ha, hd⟩ | hnone | ⟨b, hb, c, hc, hlt⟩
  · exact hst.elim ha hd
  · have hnil : (d.job i).cuts = [] := List.eq_nil_iff_forall_not_mem.mpr fun b hb => (Job.mem_cuts.mp hb).2 (hnone b (Job.mem_cuts.mp hb).1)
    rw [hnil] at hsome
    exact absurd hsome (by decide)
  · have hpassed := Job.cutPassed_iff.mp (List.all_eq_true.mp hall b (Job.mem_cuts.mpr ⟨hb, by rw [hc]; exact Option.some_ne_none c⟩)) c hc
    omega

theorem Dev.job_closeRanges_ne {d : Dev} {i k : Nat} (hk : k ≠ i) (p : DefectRange → Bool) : (d.closeRanges i p).job k = d.job k := by
  refine foldl_keeps (fun e : Dev => e.job k) _ (fun e g => ?_) _ d
  have hrec : ∀ (e : Dev) t st ev c l, (e.pushJobRec i t st ev c l).jobs = e.jobs := fun e t st ev c l => by
    simp only [Dev.pushJobRec]
    exact ite_keeps Dev.jobs rfl rfl
  rw [Dev.closeRange, Dev.job_of_jobs (hrec ..), Dev.job_modJob, if_neg hk]

theorem Dev.core_closeRanges (d : Dev) (i k : Nat) (p : DefectRange → Bool) : ((d.closeRanges i p).job k).core = (d.job k).core := Dev.jobCore_of_fixed (Dev.fixed_closeRanges ..) k

theorem Dev.abortRecord_passed {d : Dev} {i : Nat} (hst : (d.job i).st = .aborted ∨ (d.job i).st = .draining) (hcut : ∃ b ∈ (d.job i).ctx.bars, ((d.job i).bar b).cutAt ≠ none)
    (hpassed : ∀ b ∈ (d.job i).ctx.bars, ∀ c, ((d.job i).bar b).cutAt = some c → c ≤ (d.job i).p0 + ((d.job i).bar b).rel) :
    ((d.abortRecord i).job i).core = { (d.job i).core with bars := (d.job i).bars.map (fun x => { x with cutAt := none }) } ∧
    ∀ k, k ≠ i → (d.abortRecord i).job k = d.job k := by
  obtain ⟨st, ev, c, l, heq⟩ := Dev.abortRecord_due hst hcut hpassed
  have hfix := (Dev.fixed_jobEvent (d.closeRanges i (fun _ => true)) i st ev c l).trans (Dev.fixed_closeRanges d i (fun _ => true))
  rw [heq]
  refine ⟨?_, fun k hk => ?_⟩
  · have hcore : ((((d.closeRanges i (fun _ => true)).jobEvent i st ev c l).job i).core).bars = (d.job i).core.bars := congrArg Job.bars (Dev.jobCore_of_fixed hfix i)
    rw [Dev.job_modJob, if_pos rfl]
    have hmod : ∀ j : Job, ({ j with bars := j.bars.map (fun x => { x with cutAt := none }) } : Job).core = { j.core with bars := j.core.bars.map (fun x => { x with cutAt := none }) } := fun _ => rfl
    rw [hmod, Dev.jobCore_of_fixed hfix i]
    rfl
  · have hrec : ∀ (e : Dev), (e.jobEvent i st ev c l).jobs = e.jobs := fun e => by
      simp only [Dev.jobEvent, Dev.pushJobRec]
      exact ite_keeps Dev.jobs rfl rfl
    rw [Dev.job_modJob, if_neg hk, Dev.job_of_jobs (hrec _), Dev.job_closeRanges_ne hk]

/-- Settles O46: each end of a job goes through the one context, the descriptors of the aborted job, or nothing. -/
theorem jobEnds : Obligations.JobEnds := by
  unfold Obligations.JobEnds
  refine ⟨fun rq s i k m j hrq hproc hi hj => ?_, fun i s j hj => ?_⟩
  · subst hj
    have hsel : (s.dev.set F.SLU_JOB_RESULT_DONE 0).selected = i := (Dev.selected_cleared _).trans hi.symm
    have hfinish := gives_jobCmd hrq hproc (rfl : exec (.jobFinish rq) s = .next (s.jobCmd rq (.jobFinish rq) Dev.jobFinish))
    refine ⟨fun hst hk hm => ?_, fun hst => ?_, fun hst _ => ?_⟩
    · have hlast : (s.dev.job i).lastPrint = m := by
        rcases hm with hm | ⟨hnone, hf, rfl⟩ | ⟨hnone, hf, rfl⟩
        · simp only [Job.lastPrint, hm]
        · simp only [Job.lastPrint, hnone, hf, if_true]
          exact hk.symm
        · simp only [Job.lastPrint, hnone, hf, Bool.false_eq_true, if_false]
      obtain ⟨hcores, hdone, hcode⟩ := Dev.jobFinish_running hsel hst
      refine ⟨_, hfinish, (hcores i).trans ((if_pos rfl).trans ?_), fun n hn => (hcores n).trans (if_neg hn), hdone, hcode⟩
      rw [← hlast, hk]
      rfl
    · rw [Dev.jobFinish_eq hsel] at hfinish
      exact gives_of_pos hfinish hst
    · have habort := gives_jobCmd hrq hproc (rfl : exec (.jobAbort rq) s = .next (s.jobCmd rq (.jobAbort rq) Dev.jobAbort))
      obtain ⟨hcore, hdescs, hdone, hcode⟩ := Dev.jobAbort_spec hsel hst
      refine ⟨_, habort, hcore, hdescs.trans ?_, hdone, hcode⟩
      simp only [Dev.endDescs, Bool.and_eq_true, decide_eq_true_eq]
      rfl
  · subst hj
    have hdone := gives_jobDone i s
    have hrecord : Gives (.jobAbortDone i) s (s.dev.abortRecord i.val) := rfl
    refine ⟨fun n hst hlen hall => ?_, fun hnot => ?_, fun hst hcut hpassed => ⟨_, hrecord, Dev.abortRecord_passed hst hcut hpassed⟩, fun hnot => ?_⟩
    · rw [hlen] at hdone
      have hend := gives_of_pos hdone (by simpa [hst] using hall)
      have hstill := (s.dev.still_jobEnd i.val n).trans (s.dev.still_jobOver i.val n)
      refine ⟨_, hend, congrArg (fun x => x.1) hstill, ?_, congrArg (fun x => x.2.2.1) hstill, congrArg (fun x => x.2.2.2.2.1) hstill⟩
      exact (congrArg (fun x => x.2.2.2.1) hstill).trans (sat_min ..)
    · rcases hnot with hst | hnone | ⟨n, hlen, b, hb, hlt⟩
      · cases hlen : (s.dev.job i.val).length with
        | none => rwa [hlen] at hdone
        | some n =>
          rw [hlen] at hdone
          exact gives_of_neg hdone (by simp [hst])
      · rwa [hnone] at hdone
      · rw [hlen] at hdone
        exact gives_of_neg hdone (by simpa using fun _ => ⟨b, hb, hlt⟩)
    · rwa [Dev.abortRecord_not hnot] at hrecord

end Sys2Proof.Machine
end


section
/-! PROOF. OPEN and UPDATE (R108, R109, R111, R123, R472). -/

namespace Sys2Proof.Machine

/-! ### What clearing DONE leaves -/

section
variable (d : Dev) (v : Nat)

theorem Dev.get_cleared {g : Field} (h : g.distinct F.SLU_JOB_RESULT_DONE = true) (i j : Nat) : (d.set F.SLU_JOB_RESULT_DONE v).get g i j = d.get g i j :=
  Dev.get_set_distinct d h _ _ _ _ _

theorem Dev.stagedCtx_cleared : (d.set F.SLU_JOB_RESULT_DONE v).stagedCtx = d.stagedCtx := by
  have hw : ∀ k, (d.set F.SLU_JOB_RESULT_DONE v).get F.SLU_JOB_W k = d.get F.SLU_JOB_W k := fun k => Dev.get_cleared d v (by decide) _ _
  simp only [Dev.stagedCtx, hw]

theorem Dev.geometry_cleared (c : JobCtx) : (d.set F.SLU_JOB_RESULT_DONE v).geometry c = d.geometry c := by
  have hrate : (d.set F.SLU_JOB_RESULT_DONE v).jobRate c = d.jobRate c := rfl
  simp only [Dev.geometry, hrate, Dev.get_cleared d v (g := F.CIS_STOP_DIST) (by decide), Dev.get_cleared d v (g := F.CIS_GUARD_MARGIN) (by decide),
    Dev.get_cleared d v (g := F.CIS_RESERVE_RES_MS) (by decide), Dev.get_cleared d v (g := F.CIS_RESERVE_MIN_MS) (by decide),
    Dev.get_cleared d v (g := F.CIS_BAR_DIST) (by decide), Dev.get_cleared d v (g := F.CIS_L_B_BASE) (by decide), Dev.get_cleared d v (g := F.CIS_L_B_SIZE) (by decide),
    Dev.get_cleared d v (g := F.CIS_L_B_IDXB) (by decide), Dev.get_cleared d v (g := F.CIS_L_B_IDXN) (by decide), Dev.get_cleared d v (g := F.CIS_L_REP_BASE) (by decide),
    Dev.get_cleared d v (g := F.CIS_L_REP_SIZE) (by decide)]

theorem Dev.jobCap_cleared : (d.set F.SLU_JOB_RESULT_DONE v).jobCap = d.jobCap := by
  have hdone : (d.set F.SLU_JOB_RESULT_DONE v).get F.ECC_STAT_DRAM_DONE = d.get F.ECC_STAT_DRAM_DONE := Dev.get_cleared d v (by decide) _ _
  have hcap : (d.set F.SLU_JOB_RESULT_DONE v).get F.DDR_STAT_CAP_MIB = d.get F.DDR_STAT_CAP_MIB := Dev.get_cleared d v (by decide) _ _
  unfold Dev.jobCap Dev.dramReady Dev.flag Dev.capBytes
  rw [hdone, hcap]

theorem Dev.meetsSpare_cleared (a n : Nat) : (d.set F.SLU_JOB_RESULT_DONE v).meetsSpare a n = d.meetsSpare a n := by
  have hbase : (d.set F.SLU_JOB_RESULT_DONE v).get F.ECC_SPARE_BASE_MIB = d.get F.ECC_SPARE_BASE_MIB := Dev.get_cleared d v (by decide) _ _
  have hsize : (d.set F.SLU_JOB_RESULT_DONE v).get F.ECC_SPARE_SIZE_MIB = d.get F.ECC_SPARE_SIZE_MIB := Dev.get_cleared d v (by decide) _ _
  unfold Dev.meetsSpare Dev.spareBase
  rw [hbase, hsize]

theorem Dev.fits_cleared (j : Job) : (d.set F.SLU_JOB_RESULT_DONE v).fits j = d.fits j := by
  unfold Dev.fits
  simp only [Dev.jobCap_cleared, Dev.meetsSpare_cleared]

end

/-! ### The commands -/

/-- A context as OPEN takes it. -/
def Dev.openedJob (d : Dev) (i : Nat) : Job :=
  { st := .opened, gen := ((d.job i).gen + 1) % 128, ctx := d.stagedCtx, geo := d.geometry d.stagedCtx, bars := List.replicate 8 {} }

/-- A context as UPDATE takes it. -/
def Dev.updatedJob (d : Dev) (i : Nat) : Job := { d.job i with ctx := d.stagedCtx, geo := d.geometry d.stagedCtx }

theorem Dev.openedJob_cleared (d : Dev) (i : Nat) : (d.set F.SLU_JOB_RESULT_DONE 0).openedJob i = d.openedJob i := by
  simp only [Dev.openedJob, Dev.stagedCtx_cleared, Dev.geometry_cleared]
  rfl

theorem Dev.updatedJob_cleared (d : Dev) (i : Nat) : (d.set F.SLU_JOB_RESULT_DONE 0).updatedJob i = d.updatedJob i := by
  simp only [Dev.updatedJob, Dev.stagedCtx_cleared, Dev.geometry_cleared]
  rfl

/-- Does a context find its areas free and large enough. -/
def Dev.accepts (d : Dev) (i : Nat) (j : Job) : Bool := !d.areaTaken i j && d.fits j

theorem Dev.accepts_cleared (d : Dev) (i : Nat) (j : Job) : (d.set F.SLU_JOB_RESULT_DONE 0).accepts i j = d.accepts i j := by
  rw [Dev.accepts, Dev.fits_cleared]
  rfl

theorem Dev.accepts_eq_true {d : Dev} {i : Nat} {j : Job} (ht : d.areaTaken i j = false) (hf : d.fits j = true) : d.accepts i j = true := by rw [Dev.accepts, ht, hf]; rfl

theorem Dev.accepts_eq_false {d : Dev} {i : Nat} {j : Job} (h : d.areaTaken i j = true ∨ d.fits j = false) : d.accepts i j = false := by
  rcases h with h | h <;> simp [Dev.accepts, h]

theorem Dev.jobOpen_free {d : Dev} {i : Nat} (h : d.selected = i) (hst : (d.job i).st = .free) :
    d.jobOpen = if d.accepts i (d.openedJob i) = true then ((d.setJob i (d.openedJob i)).writeBook i).jobResult i 0 else d.jobResult i 2 := by
  subst h
  have hrun : d.jobOpen = if (d.areaTaken d.selected (d.openedJob d.selected) || !d.fits (d.openedJob d.selected)) = true then d.jobResult d.selected 2
      else ((d.setJob d.selected (d.openedJob d.selected)).writeBook d.selected).jobResult d.selected 0 := by
    simp only [Dev.jobOpen, hst]
    rfl
  rw [hrun, Dev.accepts]
  cases d.areaTaken d.selected (d.openedJob d.selected) <;> cases d.fits (d.openedJob d.selected) <;> rfl

theorem Dev.jobOpen_draining {d : Dev} {i : Nat} (h : d.selected = i) (hst : (d.job i).st = .draining) : d.jobOpen = d.jobResult i 3 := by
  subst h
  simp only [Dev.jobOpen, hst]

theorem Dev.jobOpen_other {d : Dev} {i : Nat} (h : d.selected = i) (hf : (d.job i).st ≠ .free) (hd : (d.job i).st ≠ .draining) : d.jobOpen = d.jobResult i 1 := by
  subst h
  simp only [Dev.jobOpen]

/-- Has a context stored lines, or lines on their way. -/
def Dev.holdsLines (d : Dev) (i : Nat) : Bool := (d.job i).bars.any (fun x => !x.stored.isEmpty) || (d.jobDescs i).any (fun x => !x.unacked.isEmpty)

theorem Dev.holdsLines_iff (d : Dev) (i : Nat) : d.holdsLines i = true ↔ (∃ x ∈ (d.job i).bars, x.stored ≠ []) ∨ ∃ x ∈ d.jobDescs i, x.unacked ≠ [] := by
  simp only [Dev.holdsLines, Bool.or_eq_true, List.any_eq_true, Bool.not_eq_true', List.isEmpty_eq_false_iff]

theorem Dev.jobUpdate_opened {d : Dev} {i : Nat} (h : d.selected = i) (hst : (d.job i).st = .opened) :
    d.jobUpdate = if d.accepts i (d.updatedJob i) = false then d.jobResult i 2
      else if (d.updatedJob i).placing = (d.job i).placing then ((d.setJob i (d.updatedJob i)).writeBook i).jobResult i 0
      else if d.holdsLines i = true ∧ d.jobDescs i ≠ [] then d.jobResult i 3
      else ((d.setJob i { d.updatedJob i with bars := List.replicate 8 {} }).writeBook i).jobResult i 0 := by
  subst h
  have hopened : d.jobUpdate = if (d.job d.selected).st ≠ .opened then d.jobResult d.selected 1
      else if (d.areaTaken d.selected (d.updatedJob d.selected) || !d.fits (d.updatedJob d.selected)) = true then d.jobResult d.selected 2
      else if (!decide ((d.updatedJob d.selected).placing = (d.job d.selected).placing) && d.holdsLines d.selected && !(d.jobDescs d.selected).isEmpty) = true then d.jobResult d.selected 3
      else ((d.setJob d.selected (if decide ((d.updatedJob d.selected).placing = (d.job d.selected).placing) = true then d.updatedJob d.selected
        else { d.updatedJob d.selected with bars := List.replicate 8 {} })).writeBook d.selected).jobResult d.selected 0 := rfl
  have hrun : d.jobUpdate = if (d.areaTaken d.selected (d.updatedJob d.selected) || !d.fits (d.updatedJob d.selected)) = true then d.jobResult d.selected 2
      else if (!decide ((d.updatedJob d.selected).placing = (d.job d.selected).placing) && d.holdsLines d.selected && !(d.jobDescs d.selected).isEmpty) = true then d.jobResult d.selected 3
      else ((d.setJob d.selected (if decide ((d.updatedJob d.selected).placing = (d.job d.selected).placing) = true then d.updatedJob d.selected
        else { d.updatedJob d.selected with bars := List.replicate 8 {} })).writeBook d.selected).jobResult d.selected 0 := by
    exact hopened.trans (if_neg (not_not.mpr hst))
  have haccepts : (d.areaTaken d.selected (d.updatedJob d.selected) || !d.fits (d.updatedJob d.selected)) = !d.accepts d.selected (d.updatedJob d.selected) := by
    simp only [Dev.accepts, Bool.not_and, Bool.not_not]
  rw [hrun, haccepts]
  by_cases hk : (d.updatedJob d.selected).placing = (d.job d.selected).placing
  · simp [hk]
  · simp [hk]

theorem Dev.jobUpdate_other {d : Dev} {i : Nat} (h : d.selected = i) (hst : (d.job i).st ≠ .opened) : d.jobUpdate = d.jobResult i 1 := by
  subst h
  exact if_pos hst

/-- Settles O43: OPEN and UPDATE by the state of the context and the room for it; without the cellar processor each command clears DONE alone. -/
theorem jobIsOpened : Obligations.JobIsOpened := by
  unfold Obligations.JobIsOpened
  intro rq s i b hrq hi hb
  have hsel : b.selected = i := by rw [hb, Dev.selected_cleared, hi]
  refine ⟨fun hproc => ⟨fun j hst hj => ?_, fun hst => ?_, fun hf hd => ?_, fun j hst hj => ?_, fun hst => ?_, fun op => ?_⟩, fun hproc op c hc => ?_⟩
  · have hopen := gives_jobCmd hrq hproc (rfl : exec (.jobOpen rq) s = .next (s.jobCmd rq (.jobOpen rq) Dev.jobOpen))
    rw [← hb, Dev.jobOpen_free hsel (by rw [hb]; exact hst), hb, Dev.openedJob_cleared, Dev.accepts_cleared, ← hb] at hopen
    have hjob : s.dev.openedJob i = j := hj.symm
    rw [hjob] at hopen
    exact ⟨fun ht hfits => gives_of_pos hopen (Dev.accepts_eq_true ht hfits), fun h => gives_of_neg hopen (Bool.eq_false_iff.mp (Dev.accepts_eq_false h))⟩
  · have hopen := gives_jobCmd hrq hproc (rfl : exec (.jobOpen rq) s = .next (s.jobCmd rq (.jobOpen rq) Dev.jobOpen))
    rwa [← hb, Dev.jobOpen_draining hsel (by rw [hb]; exact hst)] at hopen
  · have hopen := gives_jobCmd hrq hproc (rfl : exec (.jobOpen rq) s = .next (s.jobCmd rq (.jobOpen rq) Dev.jobOpen))
    rwa [← hb, Dev.jobOpen_other hsel (by rw [hb]; exact hf) (by rw [hb]; exact hd)] at hopen
  · have hupd := gives_jobCmd hrq hproc (rfl : exec (.jobUpdate rq) s = .next (s.jobCmd rq (.jobUpdate rq) Dev.jobUpdate))
    have hsame : b.job i = s.dev.job i ∧ b.jobDescs i = s.dev.jobDescs i ∧ b.holdsLines i = s.dev.holdsLines i := by
      rw [hb]
      exact ⟨rfl, rfl, rfl⟩
    have hjob : b.updatedJob i = j := by rw [hb, Dev.updatedJob_cleared, hj]; rfl
    have hacc : b.accepts i j = s.dev.accepts i j := by rw [hb, Dev.accepts_cleared]
    rw [← hb, Dev.jobUpdate_opened hsel (by rw [hsame.1]; exact hst), hjob, hacc, hsame.1, hsame.2.1, hsame.2.2] at hupd
    refine ⟨fun h => gives_of_pos hupd (Dev.accepts_eq_false h), fun ht hfits => ?_⟩
    have hfit := gives_of_neg hupd (by rw [Dev.accepts_eq_true ht hfits]; decide)
    refine ⟨fun hk => gives_of_pos hfit hk, fun hk => ?_⟩
    have hmoved := gives_of_neg hfit hk
    refine ⟨fun hd hl => gives_of_pos hmoved ⟨(Dev.holdsLines_iff ..).mpr hl, hd⟩, fun h => gives_of_neg hmoved ?_⟩
    rintro ⟨hl, hd⟩
    rcases h with h | ⟨hs, hu⟩
    · exact hd h
    · rcases (Dev.holdsLines_iff ..).mp hl with ⟨x, hx, hne⟩ | ⟨x, hx, hne⟩
      · exact hne (hs x hx)
      · exact hne (hu x hx)
  · have hupd := gives_jobCmd hrq hproc (rfl : exec (.jobUpdate rq) s = .next (s.jobCmd rq (.jobUpdate rq) Dev.jobUpdate))
    rwa [← hb, Dev.jobUpdate_other hsel (by rw [hb]; exact hst)] at hupd
  · have hbad := gives_jobCmd hrq hproc (rfl : exec (.jobBadOp rq op) s = .next (s.jobCmd rq (.jobBadOp rq op) (fun d => d.jobResult d.selected 4)))
    rwa [← hb, hsel] at hbad
  · have hoff : ∀ {c : Instr} {f : Dev → Dev}, exec c s = .next (s.jobCmd rq c f) → Gives c s b := fun h => hb ▸ gives_jobCmd_off hrq hproc h
    simp only [List.mem_cons, List.not_mem_nil, or_false] at hc
    rcases hc with rfl | rfl | rfl | rfl | rfl | rfl | rfl | rfl | rfl <;> exact hoff rfl

end Sys2Proof.Machine
end


section
/-! PROOF. Cisterns and the host window (R126, R129, R137, R138, R299, R307, R446). -/

namespace Sys2Proof.Machine

/-! ### WRITE_POINTER_ADVANCE (R126, R112) -/

/-- The fields that the cistern manager's watch may change. -/
def reserveFields : List Field := [F.CIS_B_CNT_PRED, F.CIS_IRQ_STAT] ++ stopFields

theorem Dev.beyond_watchReserve (d e : Dev) : (Dev.watchReserve d e).beyond reserveFields = e.beyond reserveFields := by
  have hpred : ∀ (x : Dev) b, (((x.bump F.CIS_B_CNT_PRED b).irq F.CIS_IRQ_STAT F.CIS_IRQ_EN b none).stopTrigger 0).beyond reserveFields = x.beyond reserveFields := fun x b => by
    rw [Dev.beyond_stopTrigger (by decide), Dev.beyond_irq _ _ _ (by decide), Dev.beyond_bump _ _ _ _ (by decide)]
  have hall : ∀ l : List Nat, (l.foldl (fun d' b =>
      if (e.pred b && !d.pred b) = true then ((d'.bump F.CIS_B_CNT_PRED b).irq F.CIS_IRQ_STAT F.CIS_IRQ_EN b none).stopTrigger 0 else d') e).beyond reserveFields = e.beyond reserveFields :=
    fun l => foldl_keeps (Dev.beyond reserveFields) _ (fun x b => ite_keeps _ (hpred x b) rfl) l e
  simp only [Dev.watchReserve]
  refine ite_keeps _ ((foldl_keeps (Dev.beyond reserveFields) _ (fun x b => ite_keeps _ (Dev.beyond_irq _ _ _ (by decide) _ _ _) rfl) _ _).trans (hall _)) (hall _)

theorem Job.bars_of_core {j x : Job} (h : j.core = x.core) : j.bars = x.bars := by
  have hb : j.core.bars = x.core.bars := congrArg Job.bars h
  exact hb

/-- Does a descriptor of a tag await the acknowledgement of a bar-line. -/
def Desc.awaits (tag b line : Nat) (x : Desc) : Bool := x.opcode = 1 && x.tag = tag && x.unacked.any (fun u => u.bar = b && u.line = line)

/-- A descriptor with a bar-line acknowledged. -/
def Desc.acked (b line : Nat) (x : Desc) : Desc := { x with unacked := x.unacked.eraseP (fun u => u.bar = b && u.line = line) }

/-- A bar-line of a context is acknowledged: it counts as stored. -/
def Dev.lineStored (d : Dev) (i b line : Nat) : Dev := d.completion i (fun e => e.modBarJob i b (fun y => { y with stored := insertOnce y.stored line }))

theorem gives_writePointerAdvance (i : JobIdx) (b : Bar) (line : Nat) (s : State) : Gives (.writePointerAdvance i b line) s
    (match s.dev.descs.findIdx? (Desc.awaits (s.dev.jobTag i.val) b.val line) with
    | some k => Dev.watchReserve s.dev (({ s.dev with descs := setAt s.dev.descs k (Desc.acked b.val line) } : Dev).lineStored i.val b.val line).sweep
    | none => s.dev) := rfl

theorem Desc.awaits_iff {tag b line : Nat} {x : Desc} : x.awaits tag b line = true ↔ x.opcode = 1 ∧ x.tag = tag ∧ ∃ u ∈ x.unacked, u.bar = b ∧ u.line = line := by
  simp only [Desc.awaits, Bool.and_eq_true, decide_eq_true_eq, List.any_eq_true, and_assoc]

theorem findIdx?_first {α : Type} {p : α → Bool} {pre post : List α} {x : α} (hpre : ∀ y ∈ pre, p y = false) (hx : p x = true) :
    (pre ++ x :: post).findIdx? p = some pre.length := by
  have hnone : pre.findIdx? p = none := List.findIdx?_eq_none_iff.mpr hpre
  rw [List.findIdx?_append, hnone, List.findIdx?_cons, hx]
  simp

theorem setAt_middle {α : Type} (pre post : List α) (x : α) (f : α → α) : setAt (pre ++ x :: post) pre.length f = pre ++ f x :: post := by
  rw [setAt, List.modify_eq_take_cons_drop (by simp)]
  simp

theorem eraseP_middle {α : Type} {p : α → Bool} {l r : List α} {u : α} (hl : ∀ v ∈ l, p v = false) (hu : p u = true) : (l ++ u :: r).eraseP p = l ++ r := by
  rw [List.eraseP_append_right _ (fun v hv => Bool.eq_false_iff.mp (hl v hv)), List.eraseP_cons_of_pos hu]

theorem writePointerAdvance_none (i : JobIdx) (b : Bar) (line : Nat) (s : State)
    (h : ∀ y ∈ s.dev.descs, y.opcode = 1 → y.tag = s.dev.jobTag i.val → ∀ v ∈ y.unacked, ¬(v.bar = b.val ∧ v.line = line)) : Gives (.writePointerAdvance i b line) s s.dev := by
  have hgives := gives_writePointerAdvance i b line s
  have hnone : s.dev.descs.findIdx? (Desc.awaits (s.dev.jobTag i.val) b.val line) = none := List.findIdx?_eq_none_iff.mpr fun y hy => Bool.eq_false_iff.mpr fun haw => by
    obtain ⟨hop, htag, v, hv, hmatch⟩ := Desc.awaits_iff.mp haw
    exact h y hy hop htag v hv hmatch
  rwa [hnone] at hgives

theorem Dev.lineStored_live {d : Dev} {i : Nat} (hf : (d.job i).st ≠ .free) (hd : (d.job i).st ≠ .draining) (b line : Nat) :
    d.lineStored i b line = d.modBarJob i b (fun y => { y with stored := insertOnce y.stored line }) := by
  have hdrops : d.dropsFor i = false := by simp [Dev.dropsFor, hf, hd]
  rw [Dev.lineStored, Dev.completion, hdrops, if_neg Bool.false_ne_true]

theorem Dev.lineStored_draining {d : Dev} {i : Nat} (hd : (d.job i).st = .draining) (b line : Nat) : d.lineStored i b line = d.bump F.SLU_STALE_CNT := by
  have hdrops : d.dropsFor i = true := by simp [Dev.dropsFor, hd]
  rw [Dev.lineStored, Dev.completion, hdrops, if_pos rfl]

theorem writePointerAdvance_acked {i : JobIdx} {b : Bar} {line : Nat} {s : State} {pre post : List Desc} {x : Desc} {l r : List BarLineWrite} {u : BarLineWrite}
    (hdescs : s.dev.descs = pre ++ x :: post) (hpre : ∀ y ∈ pre, y.opcode = 1 → y.tag = s.dev.jobTag i.val → ∀ v ∈ y.unacked, ¬(v.bar = b.val ∧ v.line = line))
    (hop : x.opcode = 1) (htag : x.tag = s.dev.jobTag i.val) (hun : x.unacked = l ++ u :: r) (hl : ∀ v ∈ l, ¬(v.bar = b.val ∧ v.line = line)) (hb : u.bar = b.val) (hline : u.line = line) :
    Gives (.writePointerAdvance i b line) s (Dev.watchReserve s.dev
      (({ s.dev with descs := pre ++ { x with unacked := l ++ r } :: post } : Dev).lineStored i.val b.val line).sweep) := by
  have hgives := gives_writePointerAdvance i b line s
  have hfind : s.dev.descs.findIdx? (Desc.awaits (s.dev.jobTag i.val) b.val line) = some pre.length := by
    rw [hdescs]
    refine findIdx?_first (fun y hy => Bool.eq_false_iff.mpr fun haw => ?_) (Desc.awaits_iff.mpr ⟨hop, htag, u, by simp [hun], hb, hline⟩)
    obtain ⟨hop, htag, v, hv, hmatch⟩ := Desc.awaits_iff.mp haw
    exact hpre y hy hop htag v hv hmatch
  have hacked : Desc.acked b.val line x = { x with unacked := l ++ r } := by
    rw [Desc.acked, hun, eraseP_middle (fun v hv => by simpa using hl v hv) (by simp [hb, hline])]
  rw [hfind, hdescs] at hgives
  dsimp only at hgives
  rwa [setAt_middle, hacked] at hgives

/-! ### The host window (R137, R138, R299, R307, R446) -/

theorem Dev.get_leaveSleep {g : Field} (h : [F.SYS_STAT_PHASE, F.SYS_SLEEP_DONE, F.SYS_SLEEP_CODE].all g.distinct = true) (d : Dev) (i j : Nat) : d.leaveSleep.get g i j = d.get g i j := by
  simp only [List.all_cons, List.all_nil, Bool.and_true, Bool.and_eq_true] at h
  obtain ⟨hphase, hdone, hcode⟩ := h
  have hget : ((((d.set F.SYS_STAT_PHASE 6).set F.SYS_SLEEP_DONE 1).set F.SYS_SLEEP_CODE 0).get g i j) = d.get g i j := by
    rw [Dev.get_set_distinct _ hcode, Dev.get_set_distinct _ hdone, Dev.get_set_distinct _ hphase]
  obtain ⟨e, he, hregs⟩ : ∃ e : Dev, d.leaveSleep = (if d.get F.SYS_STAT_PHASE = 7 then e.retrainAll else d) ∧
      e.regs = (((d.set F.SYS_STAT_PHASE 6).set F.SYS_SLEEP_DONE 1).set F.SYS_SLEEP_CODE 0).regs := ⟨_, rfl, rfl⟩
  rw [he]
  refine ite_keeps (fun e : Dev => e.get g i j) ?_ rfl
  simp only [Dev.get, e.retrainAll_keeps.1, hregs]
  exact hget

/-- What a read of some bytes through the window returns and does. -/
def Dev.windowRead (d : Dev) (a len n : Nat) : Dev :=
  if d.dramReady = false ∨ n = 0 then d.emit (.bar4 (List.replicate len 0))
  else (d.dramRead a n 4).2.2.emit (.bar4 ((d.dramRead a n 4).1 ++ List.replicate (len - n) 0))

theorem gives_bar4Read (off : BitVec 30) (len : Nat) (s : State) : Gives (.bar4Read off len) s
    (s.dev.leaveSleep.windowRead (s.dev.leaveSleep.window off.toNat) len (min len (s.dev.leaveSleep.windowEnd - s.dev.leaveSleep.window off.toNat))) := by
  have hrun : ∀ d : Dev, (if (!d.dramReady) = true then d.emit (.bar4 (List.replicate len 0))
      else if min len (d.windowEnd - d.window off.toNat) = 0 then d.emit (.bar4 (List.replicate len 0))
      else (d.dramRead (d.window off.toNat) (min len (d.windowEnd - d.window off.toNat)) 4).2.2.emit
        (.bar4 ((d.dramRead (d.window off.toNat) (min len (d.windowEnd - d.window off.toNat)) 4).1 ++ List.replicate (len - min len (d.windowEnd - d.window off.toNat)) 0))) =
      d.windowRead (d.window off.toNat) len (min len (d.windowEnd - d.window off.toNat)) := fun d => by
    rw [Dev.windowRead]
    by_cases hr : d.dramReady = false
    · simp [hr]
    · by_cases hn : min len (d.windowEnd - d.window off.toNat) = 0 <;> simp [hr, hn]
  rw [← hrun]
  rfl

/-- The bytes of a write that the window serves, with their addresses. -/
def Dev.servedBytes (d : Dev) (a : Nat) (data : List Byte) : List (Nat × Nat) :=
  ((data.map (·.toNat)).zipIdx.map (fun e => (a + e.2, e.1))).filter (fun e => e.1 < d.windowEnd)

/-- A write through the window of bytes that it serves. -/
def Dev.windowWrite (d : Dev) (a n : Nat) (bs : List (Nat × Nat)) : Dev :=
  let words := (List.range ((a % 4 + n + 3) / 4)).map (fun k => a / 4 * 4 + 4 * k)
  let bursts := ((List.range ((a + n + 63) / 64 - a / 64)).map (fun k => 64 * (a / 64 + k))).filter (fun b => bs.any (fun e => e.1 / 64 * 64 = b))
  let d := bursts.foldl (fun d b => d.touchRow b true 4) d
  words.foldl (fun d w => if bs.any (fun e => e.1 / 4 * 4 = w) then d.window4 w bs else d) d

theorem gives_bar4Write (off : BitVec 30) (data : List Byte) (s : State) : Gives (.bar4Write off data) s
    (if (!s.dev.flag F.CIS_WIN_WR_EN) = true then s.dev
    else if (!s.dev.leaveSleep.dramReady) = true then s.dev.leaveSleep
    else s.dev.leaveSleep.windowWrite (s.dev.leaveSleep.window off.toNat) data.length (s.dev.leaveSleep.servedBytes (s.dev.leaveSleep.window off.toNat) data)) := rfl

/-- With no byte that the window serves, nothing is written. -/
theorem Dev.windowWrite_none (d : Dev) (a n : Nat) : d.windowWrite a n [] = d := by
  have hwords : ∀ l : List Nat, l.foldl (fun (d : Dev) w => if ([] : List (Nat × Nat)).any (fun e => e.1 / 4 * 4 = w) then d.window4 w [] else d) d = d :=
    fun l => foldl_keeps id _ (fun _ _ => rfl) l d
  simp only [Dev.windowWrite, List.any_nil, List.filter_false, List.foldl_nil]
  exact hwords _

theorem servedBytes_beyond {d : Dev} {a : Nat} (h : d.windowEnd ≤ a) (data : List Byte) : d.servedBytes a data = [] := by
  rw [Dev.servedBytes, List.filter_eq_nil_iff]
  intro e he
  obtain ⟨x, -, rfl⟩ := List.mem_map.mp he
  simpa using Nat.le_add_right_of_le h

theorem servedBytes_word {d : Dev} {a : Nat} (h : a + 4 ≤ d.windowEnd) (b0 b1 b2 b3 : Byte) :
    d.servedBytes a [b0, b1, b2, b3] = [(a, b0.toNat), (a + 1, b1.toNat), (a + 2, b2.toNat), (a + 3, b3.toNat)] := by
  have h0 : a < d.windowEnd := by omega
  have h1 : a + 1 < d.windowEnd := by omega
  have h2 : a + 2 < d.windowEnd := by omega
  have h3 : a + 3 < d.windowEnd := by omega
  simp [Dev.servedBytes, List.zipIdx, h0, h1, h2, h3]

/-- An aligned word is one write of its burst. -/
theorem Dev.windowWrite_word (d : Dev) {a : Nat} (h : a % 4 = 0) (x0 x1 x2 x3 : Nat) : d.windowWrite a 4 [(a, x0), (a + 1, x1), (a + 2, x2), (a + 3, x3)] =
    (d.touchRow (a / 64 * 64) true 4).dramWriteWord a (ofBytesLE [x0, x1, x2, x3]) := by
  have hw : (a % 4 + 4 + 3) / 4 = 1 := by omega
  have hb : (a + 4 + 63) / 64 - a / 64 = 1 := by omega
  have ha : a / 4 * 4 = a := by omega
  have h1 : (a + 1) / 4 * 4 = a := by omega
  have h2 : (a + 2) / 4 * 4 = a := by omega
  have h3 : (a + 3) / 4 * 4 = a := by omega
  have hburst : a / 64 * 64 = 64 * (a / 64) := by omega
  simp only [Dev.windowWrite, hw, hb, List.range_one, List.map_cons, List.map_nil, List.any_cons, ha, hburst, Nat.add_zero, Nat.mul_zero, decide_true, Bool.true_or, List.filter_cons_of_pos,
    List.filter_nil, List.foldl_cons, List.foldl_nil, if_true, Dev.window4, h1, h2, h3, List.length_cons, List.length_nil, Nat.reduceAdd]

/-- Settles O47: an acknowledged line is stored or counted as stale, and the window reads and writes what lies in front of its end. -/
theorem cisternsAndHostWindow : Obligations.CisternsAndHostWindow := by
  unfold Obligations.CisternsAndHostWindow
  have hwin : ∀ (s : State) (off : BitVec 30), s.dev.leaveSleep.window off.toNat = s.dev.get F.CIS_WIN_BASE * 1048576 + off.toNat := fun s off => by
    rw [Dev.window, Dev.get_leaveSleep (by decide)]
    norm_num
  have hready : ∀ s : State, s.dev.leaveSleep.dramReady = decide (s.dev.get F.ECC_STAT_DRAM_DONE ≠ 0) := fun s => by
    rw [Dev.dramReady, Dev.flag, Dev.get_leaveSleep (by decide)]
  refine ⟨fun rq b s hrq => ?_, fun i b line s pre post x l r u hdescs hpre hop htag hun hl hb hline hfree => ?_, fun i b line s h => writePointerAdvance_none i b line s h,
    fun off len a n s d hd ha hn => ?_, fun off data s hen => ?_, fun off data s hen hdone => ?_, fun off b0 b1 b2 b3 s a d hen hdone hd halign ha => ?_⟩
  · simp only [Gives, exec, execCisternCountClear]
    rw [State.row_none hrq _ _ _ _ _ (by revert b; decide) (by revert b; cases rq <;> decide +kernel) (by decide) (by decide) (by decide)]
    rfl
  · have hgives := writePointerAdvance_acked hdescs hpre hop htag hun hl hb hline
    obtain ⟨e, he, hjobs, hregs⟩ : ∃ e : Dev, e = { s.dev with descs := pre ++ { x with unacked := l ++ r } :: post } ∧ e.jobs = s.dev.jobs ∧ e.regs = s.dev.regs := ⟨_, rfl, rfl, rfl⟩
    have hdesc : e.descs = pre ++ { x with unacked := l ++ r } :: post := by rw [he]
    have hjob : ∀ k, e.job k = s.dev.job k := Dev.job_of_jobs hjobs
    rw [← he] at hgives
    have hfix := Dev.fixed_watchReserve s.dev (e.lineStored i.val b.val line).sweep
    by_cases hst : (s.dev.job i.val).st = .draining
    · have hline : e.lineStored i.val b.val line = e.bump F.SLU_STALE_CNT := Dev.lineStored_draining (by rw [hjob]; exact hst) _ _
      rw [hline] at hgives hfix
      refine ⟨_, hgives, ?_, fun h => absurd hst h, fun _ => ⟨?_, ?_⟩, fun k _ => ?_⟩
      · rw [Dev.descs_of_fixed hfix, ← hdesc]
        rfl
      · have hcore : ((Dev.watchReserve s.dev (e.bump F.SLU_STALE_CNT).sweep).job i.val).core = (e.job i.val).core := Dev.jobCore_of_fixed hfix i.val
        rw [hjob] at hcore
        exact Job.bars_of_core hcore
      · have hget : (e.bump F.SLU_STALE_CNT).sweep.get F.SLU_STALE_CNT = min F.SLU_STALE_CNT.max (s.dev.get F.SLU_STALE_CNT + 1) := by
          have hself : (e.bump F.SLU_STALE_CNT).get F.SLU_STALE_CNT = _ := Dev.get_bump_self e F.SLU_STALE_CNT 0 0 1
          have hsame : e.get F.SLU_STALE_CNT = s.dev.get F.SLU_STALE_CNT := congrArg (fun r : RegFile => r.get F.SLU_STALE_CNT 0 0) hregs
          rw [hsame, sat_min, Nat.mod_eq_of_lt (lt_of_le_of_lt (Nat.min_le_left ..) (by decide))] at hself
          exact hself
        exact (Dev.get_of_beyond (Dev.beyond_watchReserve ..) (by decide) (by decide) (by decide)).trans hget
      · exact (Dev.jobCore_of_fixed hfix k).trans (congrArg Job.core (hjob k))
    · have hline : e.lineStored i.val b.val line = e.modBarJob i.val b.val (fun y => { y with stored := insertOnce y.stored line }) :=
        Dev.lineStored_live (by rw [hjob]; exact hfree) (by rw [hjob]; exact hst) _ _
      rw [hline] at hgives hfix
      refine ⟨_, hgives, ?_, fun _ => ?_, fun h => absurd h hst, fun k hk => ?_⟩
      · rw [Dev.descs_of_fixed hfix, ← hdesc]
        rfl
      · have hcore := Dev.jobCore_of_fixed hfix i.val
        have hmod : ((e.modBarJob i.val b.val (fun y => { y with stored := insertOnce y.stored line })).job i.val).bars =
            setAt (s.dev.job i.val).bars b.val (fun y => { y with stored := insertOnce y.stored line }) := by rw [Dev.job_modBarJob, if_pos rfl, hjob]
        exact (Job.bars_of_core hcore).trans hmod
      · refine (Dev.jobCore_of_fixed hfix k).trans (congrArg Job.core ?_)
        exact ((Dev.job_modBarJob ..).trans (if_neg hk)).trans (hjob k)
  · subst hd ha hn
    have hgives := gives_bar4Read off len s
    rw [hwin] at hgives
    refine ⟨fun h => ?_, fun hdone hn => ?_⟩
    · rw [Dev.windowRead, if_pos] at hgives
      · exact hgives
      · rw [hready]
        simpa using h
    · rw [Dev.windowRead, if_neg] at hgives
      · exact hgives
      · rw [hready, decide_eq_false_iff_not]
        exact not_or.mpr ⟨not_not.mpr hdone, hn⟩
  · exact gives_of_pos (gives_bar4Write off data s) (by simp [Dev.flag, hen])
  · exact gives_of_pos (gives_of_neg (gives_bar4Write off data s) (by simp [Dev.flag, hen])) (by simp [hready, hdone])
  · subst hd ha
    have hgives := gives_of_neg (gives_of_neg (gives_bar4Write off [b0, b1, b2, b3] s) (by simp [Dev.flag, hen])) (by simp [hready, hdone])
    rw [hwin] at hgives
    refine ⟨fun hin => ?_, fun hout => ?_⟩
    · rw [servedBytes_word hin] at hgives
      have hword := Dev.windowWrite_word s.dev.leaveSleep (a := s.dev.get F.CIS_WIN_BASE * 1048576 + off.toNat) (by omega) b0.toNat b1.toNat b2.toNat b3.toNat
      have hbytes : ofBytesLE [b0.toNat, b1.toNat, b2.toNat, b3.toNat] = b0.toNat + 256 * (b1.toNat + 256 * (b2.toNat + 256 * b3.toNat)) := by
        have hlt : ∀ b : Byte, b.toNat % 256 = b.toNat := fun b => Nat.mod_eq_of_lt b.isLt
        simp only [ofBytesLE, hlt, Nat.mul_zero, Nat.add_zero]
      rw [hbytes] at hword
      rw [← hword]
      exact hgives
    · rwa [servedBytes_beyond hout, Dev.windowWrite_none] at hgives

end Sys2Proof.Machine
end


section
/-! PROOF. A string of more lamps than a frame's 32 (R365, R372). -/

namespace Sys2Proof.Machine

/-- Lamp channel 0 in STRING mode: LMP_C_CFG_LAMPS, a field of 5 bits, holds 40 and LMP_C_SHUNT holds every bit, so that only the lamps 32 to 40 are lit. -/
def lampsBeyond : State :=
  { State.reset with
    dev := { Dev.reset with
      regs := [(F.LMP_CTRL_ENABLE.key 0 0, 1), (F.LMP_C_CFG_MODE.key 0 0, 1), (F.LMP_C_CFG_LAMPS.key 0 0, 40), (F.LMP_C_SHUNT.key 0 0, 4294967295),
        (F.LMP_C_PWM_DUTY.key 0 0, 32768)]
      pins := { Dev.reset.pins with ilkUv := false }
      lamps := { Dev.reset.lamps with slowAt := none }
      pwr := { Dev.reset.pwr with st := .on } } }

/-- Does a command leave a SET frame of lamp channel 0 among what the part has sent. -/
def setFrameAfter (c : Instr) (s : State) : Bool :=
  match exec c s with
  | .next t => t.dev.outbox.any (fun o => match o with | .lamp 0 1 _ => true | _ => false)
  | .fault _ => false
  | .refused _ => false

/-- Refutes O14: the clause on STRING mode says nothing of the range that a register holds, and where LMP_C_CFG_LAMPS and LMP_C_SHUNT leave only lamps beyond the 32
of a frame lit, the period sends OFF instead of a SET frame. -/
theorem not_lampsAreDriven : ¬ Obligations.LampsAreDriven := by
  intro h
  obtain ⟨-, -, hdriven, -⟩ := h 0 lampsBeyond _ 1 rfl (by decide +kernel) (by decide +kernel)
  obtain ⟨-, -, hmodes⟩ := hdriven (by decide +kernel) (by decide +kernel) _ false (by decide +kernel) rfl
  obtain ⟨hstring, -⟩ := hmodes rfl (by decide +kernel)
  obtain ⟨-, -, hset⟩ := hstring rfl
  obtain ⟨e, hrun, hframe⟩ := hset (by decide +kernel) (by decide +kernel) _ rfl (by decide +kernel)
  have hnot : setFrameAfter (.lampPeriod 0) lampsBeyond = false := by decide +kernel
  rw [setFrameAfter, hrun] at hnot
  exact Bool.false_ne_true (hnot.symm.trans (List.any_eq_true.mpr ⟨_, hframe, rfl⟩))

end Sys2Proof.Machine
end


section
/-! PROOF. Registers that hold more than their width: the batch counter (R349), the flip mask (R313) and a fault class (R401). -/

namespace Sys2Proof.Machine

/-- A powered part whose VIN_NOZ_STAT_APPLIED, a field of 16 bits, holds 65,536. -/
def batchesBeyond : State :=
  { State.reset with
    dev := { Dev.reset with
      regs := [(F.VIN_NOZ_STAT_APPLIED.key 0 0, 65536)]
      pwr := { Dev.reset.pwr with st := .on, running := true } } }

/-- VIN_NOZ_STAT_APPLIED after a command. -/
def appliedAfter (c : Instr) (s : State) : Nat :=
  match exec c s with
  | .next t => t.dev.get F.VIN_NOZ_STAT_APPLIED
  | .fault _ => 0
  | .refused _ => 0

/-- Refutes O12: the last clause says nothing of the range that VIN_NOZ_STAT_APPLIED holds, and a batch of no entry leaves 65,536 where the clause asks for the
full counter, 65,535. -/
theorem not_stripsAndNozzlesAct : ¬ Obligations.StripsAndNozzlesAct := by
  intro h
  obtain ⟨-, -, -, hbatches⟩ := h
  obtain ⟨-, hbatch⟩ := hbatches batchesBeyond _ rfl
  obtain ⟨e, hrun, -, -, happlied⟩ := hbatch (by decide +kernel) (fun x hx => absurd hx List.not_mem_nil)
  have hnot : appliedAfter .nozzleBatch batchesBeyond = 65536 := by decide +kernel
  rw [appliedAfter, hrun] at hnot
  exact absurd (hnot.symm.trans happlied) (by decide +kernel)

/-- A filled DRAM of 1 MiB behind channel 0, with a flip armed for that channel whose mask ECC_FLIP_DATA, a field of 32 bits, holds 2^32. -/
def flipBeyond : State :=
  { State.reset with
    dev := { Dev.reset with
      regs := [(F.ECC_STAT_DRAM_DONE.key 0 0, 1), (F.DDR_STAT_CAP_MIB.key 0 0, 1), (F.ECC_FLIP_CTRL_ARMED.key 0 0, 1), (F.ECC_FLIP_DATA.key 0 0, 4294967296)] } }

/-- The word that DRAM holds at 0 after a command. -/
def rawWordAfter (c : Instr) (s : State) : Nat :=
  match exec c s with
  | .next t => t.dev.rawWord 0
  | .fault _ => 0
  | .refused _ => 0

/-- Refutes O9: the clause on an armed flip says nothing of the range that ECC_FLIP_DATA holds, and a word of DRAM has no bit 32 that such a mask could flip. -/
theorem not_storedDataIsKept : ¬ Obligations.StoredDataIsKept := by
  intro h
  obtain ⟨hwords, -⟩ := h
  obtain ⟨-, hfilled⟩ := hwords 0 flipBeyond 0 0 rfl (by decide +kernel)
  obtain ⟨-, hwritten, -⟩ := hfilled (by decide +kernel) (by decide +kernel)
  obtain ⟨-, hflipped⟩ := hwritten 0 (by decide +kernel) (by decide +kernel) _ rfl
  obtain ⟨e, hrun, hword, -⟩ := hflipped (by decide +kernel) (by decide +kernel) _ rfl
  have hnot : rawWordAfter (.dramWriteAccept 0 0) flipBeyond = 0 := by decide +kernel
  rw [rawWordAfter, hrun] at hnot
  exact absurd (hnot.symm.trans hword) (by decide +kernel)

/-- A rate change of the channels 0 and 1, with the report of channel 0's failure (191) still due and its class 1, DEGRADE. -/
def fenceDue : State :=
  { State.reset with
    dev := { Dev.reset with
      regs := [(F.DDR_C_STAT_STATE.key 0 0, 4), (F.DDR_C_STAT_STATE.key 1 0, 4), (F.FLT_SRC_CLASS.key 191 0, 1)]
      ddr := { Dev.reset.ddr with rateBusy := true }
      flt := { Dev.reset.flt with due := [191] } } }

/-- The state of DDR channel 0 after a command. -/
def channelZeroAfter (c : Instr) (s : State) : Nat :=
  match exec c s with
  | .next t => t.dev.get F.DDR_C_STAT_STATE 0
  | .fault _ => 0
  | .refused _ => 0

/-- Refutes O7: the clause on the end of a rate change says nothing of the reports that are still due, and the report of channel 1's failure lets the one of channel 0
fence that channel, which has trained at the new rate. -/
theorem not_ddrChannelsTrain : ¬ Obligations.DdrChannelsTrain := by
  intro h
  obtain ⟨-, -, -, -, -, -, -, hrates⟩ := h
  obtain ⟨-, hbusy⟩ := hrates fenceDue 1 _ (fun c => Iff.rfl)
  obtain ⟨e, hrun, -, -, -, -, -, hchannels⟩ := hbusy rfl
  obtain ⟨hkept, -⟩ := hchannels 0 (by decide)
  have hstate := hkept (by decide +kernel) (by decide)
  have hnot : channelZeroAfter (.ddrRateDone 1) fenceDue = 6 := by decide +kernel
  rw [channelZeroAfter, hrun] at hnot
  exact absurd (hnot.symm.trans hstate) (by decide)

end Sys2Proof.Machine
end


section
/-! PROOF. A lane whose frame under way is too long for the passes that empty the lane (R246, R248). -/

namespace Sys2Proof.Machine

@[simp] theorem Dev.length_modPort (d : Dev) (p : Nat) (f : HlkPort → HlkPort) : (d.modPort p f).ports.length = d.ports.length := length_setAt _ _ _

/-! ### Words on a lane -/

theorem LaneTx.endAt_puts (gap : Nat) (ws : List Nat) (t : LaneTx) : (LaneTx.puts gap ws t).2.2.endAt = t.endAt := by
  induction ws generalizing t with
  | nil => rfl
  | cons w ws ih =>
    simp only [LaneTx.puts]
    split
    · rfl
    · exact (ih _).trans (t.word_keeps w).1

/-- At most one gap of words goes out at a time. -/
theorem LaneTx.length_le_puts (gap : Nat) (ws : List Nat) (t : LaneTx) : ws.length ≤ (LaneTx.puts gap ws t).2.1.length + (gap - t.words) := by
  induction ws generalizing t with
  | nil => exact Nat.zero_le _
  | cons w ws ih =>
    have hrest := ih (t.word w).2
    rw [(t.word_keeps w).2.2] at hrest
    simp only [LaneTx.puts]
    split
    · exact Nat.le_add_right _ _
    · simp only [List.length_cons]
      omega

theorem LaneTx.endAt_marker (t : LaneTx) (n : Nat) : (t.marker n).2.endAt = t.endAt := (LaneTx.word_keeps { t with run := 0, words := 0 } _).1

theorem LaneTx.cur_marker (t : LaneTx) (n : Nat) : (t.marker n).2.cur = t.cur := (LaneTx.word_keeps { t with run := 0, words := 0 } _).2.1

/-! ### A jammed lane -/

/-- Port 0's lane has not sent CTRL IDLE_ENTER. -/
def Dev.Unsent (d : Dev) : Prop := Output.lane 0 7 [2] ∉ d.outbox

theorem Dev.Unsent.emit {d : Dev} (h : d.Unsent) {o : Output} (ho : Output.lane 0 7 [2] ≠ o) : (d.emit o).Unsent :=
  fun hmem => (List.mem_append.mp hmem).elim h (fun h1 => ho (List.mem_singleton.mp h1))

theorem Dev.Unsent.lineOut {d : Dev} (h : d.Unsent) (bits : List Bool) : (d.lineOut 0 bits).Unsent := by
  unfold Dev.lineOut
  split
  · exact h
  · exact h.emit (by intro hl; cases hl)

theorem Dev.Unsent.modPort {d : Dev} (h : d.Unsent) (f : HlkPort → HlkPort) : (d.modPort 0 f).Unsent := h

theorem Dev.Unsent.putIdle {d : Dev} (h : d.Unsent) (n : Nat) : (d.putIdle 0 n).Unsent := by
  unfold Dev.putIdle
  generalize LaneTx.puts 1024 (List.replicate n 0) (d.port 0).tx = x
  exact Dev.Unsent.lineOut (d := d.modTx 0 (fun _ => x.2.2)) h x.1

theorem Dev.Unsent.laneOff {d : Dev} (h : d.Unsent) : (d.laneOff 0).Unsent :=
  Dev.Unsent.emit (d := d.modTx 0 (fun _ => {})) h (by intro hl; cases hl)

/-- Port 0's frame under way has more than n words left and lasts beyond the present, and its lane has not sent CTRL IDLE_ENTER. -/
def Dev.Jammed (n : Nat) (d : Dev) : Prop :=
  0 < d.ports.length ∧ d.raw < (d.port 0).tx.endAt ∧ n < (d.port 0).tx.cur.length ∧ d.Unsent

theorem Dev.Jammed.emit {n : Nat} {d : Dev} (h : d.Jammed n) {o : Output} (ho : Output.lane 0 7 [2] ≠ o) : (d.emit o).Jammed n := by
  obtain ⟨hlen, hend, hcur, hout⟩ := h
  exact ⟨hlen, hend, hcur, hout.emit ho⟩

theorem Dev.Jammed.lineOut {n : Nat} {d : Dev} (h : d.Jammed n) (bits : List Bool) : (d.lineOut 0 bits).Jammed n := by
  unfold Dev.lineOut
  split
  · exact h
  · exact h.emit (by intro hl; cases hl)

theorem Dev.Jammed.modPort {n m : Nat} {d : Dev} (h : d.Jammed n) {f : HlkPort → HlkPort} (hend : (f (d.port 0)).tx.endAt = (d.port 0).tx.endAt)
    (hcur : m < (f (d.port 0)).tx.cur.length) : (d.modPort 0 f).Jammed m := by
  obtain ⟨hlen, hnow, -, hout⟩ := h
  have hport := Dev.port_modPort_self hlen f
  refine ⟨(Dev.length_modPort d 0 f).symm ▸ hlen, ?_, ?_, hout⟩
  · rw [hport, hend]
    exact hnow
  · rw [hport]
    exact hcur

theorem Dev.Jammed.modTx {n m : Nat} {d : Dev} (h : d.Jammed n) {f : LaneTx → LaneTx} (hend : (f (d.port 0).tx).endAt = (d.port 0).tx.endAt)
    (hcur : m < (f (d.port 0).tx).cur.length) : (d.modTx 0 f).Jammed m :=
  h.modPort (f := fun q => { q with tx := f q.tx }) hend hcur

/-- A jammed lane starts no frame. -/
theorem Dev.Jammed.laneTick {n : Nat} {d : Dev} (h : d.Jammed n) : d.laneTick 0 = d := by
  unfold Dev.laneTick
  have hnow : decide (d.now < (d.port 0).tx.endAt) = true := decide_eq_true h.2.1
  simp [hnow]

theorem Dev.Jammed.laneSend {n : Nat} {d : Dev} (h : d.Jammed n) (ftype : Nat) (payload : List Nat) : (d.laneSend 0 ftype payload).Jammed n := by
  have hwaits : (d.modTx 0 (fun t => { t with waits := t.waits ++ [(ftype, payload)] })).Jammed n := h.modTx rfl h.2.2.1
  unfold Dev.laneSend
  rw [hwaits.laneTick]
  exact hwaits

theorem Dev.Jammed.putFrame {n : Nat} {d : Dev} (h : d.Jammed (n + 1024)) : (d.putFrame 0 (d.port 0).tx.cur.length).Jammed n := by
  refine Dev.Jammed.lineOut (h.modTx ?_ ?_) _
  · exact LaneTx.endAt_puts _ _ _
  · have hwords := LaneTx.length_le_puts 1024 ((d.port 0).tx.cur.take (d.port 0).tx.cur.length) (d.port 0).tx
    have hcur := h.2.2.1
    rw [List.length_take, Nat.min_self] at hwords
    simp only [List.length_append]
    omega

theorem Dev.Jammed.markerOut {n : Nat} {d : Dev} (h : d.Jammed n) : (d.markerOut 0).Jammed n := by
  unfold Dev.markerOut Dev.sendTime
  have hcount : (d.modPort 0 (fun q => { q with mFwd := (q.mFwd + 1) % 64 })).Jammed n := h.modPort rfl h.2.2.1
  generalize d.modPort 0 (fun q => { q with mFwd := (q.mFwd + 1) % 64 }) = b at hcount ⊢
  have hmarker : (b.modTx 0 (fun _ => ((b.port 0).tx.marker (b.port 0).mFwd).2)).Jammed n := by
    refine hcount.modTx (LaneTx.endAt_marker _ _) ?_
    rw [LaneTx.cur_marker]
    exact hcount.2.2.1
  have hline := (hmarker.emit (o := .marker 0 (b.port 0).mFwd) (by intro hl; cases hl)).lineOut ((b.port 0).tx.marker (b.port 0).mFwd).1
  exact (hline.modPort rfl hline.2.2.1).laneSend _ _

/-- Each pass over a jammed lane takes at most the words up to the next marker. -/
theorem Dev.Jammed.laneFlush {n : Nat} (k : Nat) {d : Dev} (h : d.Jammed (n + 1024 * k)) : (Dev.laneFlush 0 k d).Jammed n := by
  induction k generalizing d with
  | zero => exact h
  | succ k ih =>
    have hput : (d.putFrame 0 (d.port 0).tx.cur.length).Jammed (n + 1024 * k) := Dev.Jammed.putFrame (by
      rw [Nat.add_assoc, ← Nat.mul_succ]
      exact h)
    have hcur : (!((d.putFrame 0 (d.port 0).tx.cur.length).port 0).tx.cur.isEmpty) = true := by
      have hlen := hput.2.2.1
      cases hc : ((d.putFrame 0 (d.port 0).tx.cur.length).port 0).tx.cur with
      | nil =>
        rw [hc] at hlen
        exact absurd hlen (Nat.not_lt_zero _)
      | cons w ws => rfl
    rw [Dev.laneFlush]
    simp only [hcur, if_true]
    exact ih hput.markerOut

/-- A port without work goes idle: CTRL IDLE_ENTER waits for its lane, all that waits goes out, and the lane falls silent. -/
def Dev.goesIdle (d : Dev) (p : Nat) : Dev :=
  ((((d.laneSend p 7 [2]).laneDrain p).putIdle p 4).laneOff p).modPort p (fun q => { q with st := .idle, retryAt := none })

/-- A lane jammed for every pass goes idle without having sent CTRL IDLE_ENTER. -/
theorem Dev.Jammed.goesIdle {d : Dev} {k : Nat} (hk : 4 * ((d.laneSend 0 7 [2]).port 0).tx.waits.length + 8 = k) (h : d.Jammed (0 + 1024 * k)) :
    (d.goesIdle 0).Unsent := by
  have hsend := h.laneSend 7 [2]
  have hdrain : ((d.laneSend 0 7 [2]).laneDrain 0).Unsent := by
    generalize d.laneSend 0 7 [2] = b at hsend hk ⊢
    unfold Dev.laneDrain
    rw [hk]
    split
    · exact (Dev.Jammed.laneFlush _ hsend).2.2.2
    · exact hsend.2.2.2
  exact (hdrain.putIdle 4).laneOff.modPort _

/-- Port 0 is UP with nothing to do, but for a frame under way of 20,000 words. -/
def jammedLane : State :=
  { State.reset with
    dev := { Dev.reset with
      regs := [(F.HLK_CTRL_IDLE_EN.key 0 0, 1)]
      ports := [{ st := .up, tx := { mode := .on, cur := List.replicate 20000 0, endAt := 1000000000 } }] } }

theorem jammed_jammedLane : jammedLane.dev.Jammed 19999 := by
  refine ⟨by decide +kernel, by decide +kernel, ?_, List.not_mem_nil⟩
  exact Nat.lt_of_lt_of_eq (Nat.lt_succ_self _) (List.length_replicate (n := 20000) (a := 0)).symm

theorem gives_laneIdleEnter_jammed : Gives (.laneIdleEnter 0) jammedLane (jammedLane.dev.goesIdle 0) := by
  simp only [Gives, exec, execLaneIdleEnter, State.onDev]
  rw [if_pos (by decide +kernel)]
  rfl

/-- Refutes O6: the clause on CTRL IDLE_ENTER says nothing of the frame under way, and the passes that empty a lane do not reach the waiting frame behind 20,000 words. -/
theorem not_headRecordsGoBothWays : ¬ Obligations.HeadRecordsGoBothWays := by
  intro h
  obtain ⟨-, hback⟩ := h
  obtain ⟨-, -, -, -, hidle, -⟩ := hback 0 jammedLane _ rfl (by decide +kernel)
  obtain ⟨-, henter⟩ := hidle _ Iff.rfl
  obtain ⟨e, hrun, -, -, -, -, -, hframe⟩ := henter (by decide +kernel) (by decide +kernel) (by decide +kernel)
  have hout := hframe (by decide +kernel)
  have hdev : e = jammedLane.dev.goesIdle 0 := congrArg State.dev (Host.Outcome.next.inj (hrun.symm.trans gives_laneIdleEnter_jammed))
  have hunsent : (jammedLane.dev.goesIdle 0).Unsent := Dev.Jammed.goesIdle (k := 12) (by decide +kernel) (by
    obtain ⟨hlen, hend, hcur, hnone⟩ := jammed_jammedLane
    exact ⟨hlen, hend, Nat.lt_trans (by decide) hcur, hnone⟩)
  rw [hdev] at hout
  exact hunsent hout

end Sys2Proof.Machine
end


section
/-! PROOF. A submission ring larger than its index (R86, R88), and the partner of a pair's port that a report still due disables (R251, R409). -/

namespace Sys2Proof.Machine

/-- Ring 0 of 16,384 entries with descriptors posted, whose SQ_HEAD, a field of 13 bits, is 8,191. -/
def ringBeyond : State :=
  { State.reset with
    dev := { Dev.reset with
      regs := [(F.SLU_R_SQ_HEAD.key 0 0, 8191), (F.SLU_R_SQ_CFG_MAX_INFLIGHT.key 0 0, 16)]
      rings := [{ active := true, sqN := 16384 }]
      turn := 7
      pwr := { Dev.reset.pwr with st := .on, running := true, link := true, bme := true } } }

/-- SQ_HEAD of ring 0 after a command. -/
def headAfter (c : Instr) (s : State) : Nat :=
  match exec c s with
  | .next t => t.dev.get F.SLU_R_SQ_HEAD 0
  | .fault _ => 0
  | .refused _ => 0

/-- Refutes O40: the clause on a fetch allows a ring of up to 65,536 entries, and SQ_HEAD, which wraps at 8,192, does not pass slot 8,191 of a ring of 16,384. -/
theorem not_descriptorsAreFetched : ¬ Obligations.DescriptorsAreFetched := by
  intro h
  obtain ⟨⟨hfetch, -⟩, -⟩ := h
  obtain ⟨e, hrun, -, hhead, -⟩ := hfetch 0 [[]] ringBeyond _ _ (by decide +kernel) rfl (by decide +kernel) rfl
  have hnot : headAfter (.descriptorFetch 0 [[]]) ringBeyond = 0 := by decide +kernel
  rw [headAfter, hrun] at hnot
  exact absurd (hnot.symm.trans (hhead (by decide +kernel))) (by decide +kernel)

/-- The ports 0 and 1 are a pair: port 1 awaits HELLO, and a report of port 0 (156) is due with its class 1, DEGRADE. -/
def partnerDue : State :=
  { State.reset with
    dev := { Dev.reset with
      regs := [(F.FLT_SRC_CLASS.key 156 0, 1)]
      hmap := [{}, { valid := true, port := 1, pair := true }]
      ports := [{ st := .aligning, tx := { mode := .on } }, { st := .aligning, bcLock := true }]
      flt := { Dev.reset.flt with due := [156] } } }

/-- Is HEAD_CAPS (166) of port 0 reported after a command. -/
def partnerReportedAfter (c : Instr) (s : State) : Bool :=
  match exec c s with
  | .next t => has t.dev.flt.status (fkey 166 0)
  | .fault _ => true
  | .refused _ => true

/-- Refutes O60: the clause on a failed pair check says nothing of the reports that are still due, and the report of port 1 lets the one of port 0 disable that port
before its PAIR_FAULT is reported. -/
theorem not_headsAreHeard : ¬ Obligations.HeadsAreHeard := by
  intro h
  obtain ⟨hhello, -⟩ := h 1 partnerDue _ rfl (by decide +kernel)
  obtain ⟨-, -, hcheck⟩ := hhello 0 0 0 0xF20000 _ _ Iff.rfl Iff.rfl
  obtain ⟨-, hpair⟩ := hcheck (by decide +kernel) (Or.inl (by decide +kernel)) (fun _ => by decide +kernel)
  obtain ⟨hfails, -⟩ := hpair 0 true _ (by decide +kernel) (by decide +kernel) (by decide) Iff.rfl
  obtain ⟨e, hrun, -, -, -, hpartner, -⟩ := hfails (Or.inl (by decide))
  obtain ⟨-, hreported⟩ := hpartner (by decide +kernel)
  have hnot : partnerReportedAfter (.hello 1 0 0 0 0xF20000) partnerDue = false := by decide +kernel
  rw [partnerReportedAfter, hrun] at hnot
  exact Bool.false_ne_true (hnot.symm.trans hreported)

end Sys2Proof.Machine
end


section
/-! PROOF. Rings (R84, R86, R87, R90): what a start and a stop leave, and what the commands of a ring do. -/

namespace Sys2Proof.Machine

/-! ### A ring starts -/

/-- The device with the indexes of a ring at 0, its phase at 1, and the ring shown active. -/
def Dev.ringCleared (d : Dev) (r : Nat) : Dev :=
  (([F.SLU_R_SQ_HEAD, F.SLU_R_SQ_TAIL, F.SLU_R_CQ_TAIL_INDEX, F.SLU_R_CQ_HEAD, F.SLU_R_STAT_DRAINING].foldl (fun d f => d.set f 0 r) d).set
    F.SLU_R_CQ_TAIL_PHASE 1 r).set F.SLU_R_STAT_ACTIVE 1 r

/-- A ring at work with the geometry that its registers state. -/
def Dev.ringBegun (d : Dev) (r : Nat) (g : RingSt) : RingSt :=
  { g with
    active := true, draining := false, sqBase := d.get F.SLU_R_SQ_BASE r * 4096, sqN := d.get F.SLU_R_SQ_CFG_ENTRIES r,
    cqBase := d.get F.SLU_R_CQ_BASE r * 4096, cqN := d.get F.SLU_R_CQ_CFG_ENTRIES r }

theorem Dev.ringBegun_ringCleared (d : Dev) (r : Nat) : (d.ringCleared r).ringBegun r = d.ringBegun r := by
  funext g
  simp (disch := decide) only [Dev.ringBegun, Dev.ringCleared, List.foldl, Dev.get_set_distinct]

theorem Dev.ringStart_eq (d : Dev) (r : Nat) : d.ringStart r = ({ d with regs := (d.ringCleared r).regs } : Dev).modRing r (d.ringBegun r) :=
  congrArg (fun f => (d.ringCleared r).modRing r f) (d.ringBegun_ringCleared r)

/-- The fields that a start of a ring stores. -/
def ringStartFields : List Field :=
  [F.SLU_R_STAT_ACTIVE, F.SLU_R_STAT_DRAINING, F.SLU_R_SQ_HEAD, F.SLU_R_SQ_TAIL, F.SLU_R_CQ_HEAD, F.SLU_R_CQ_TAIL_INDEX, F.SLU_R_CQ_TAIL_PHASE]

theorem Dev.get_ringCleared (d : Dev) (r : Nat) :
    (d.ringCleared r).get F.SLU_R_STAT_ACTIVE r = 1 ∧ (d.ringCleared r).get F.SLU_R_STAT_DRAINING r = 0 ∧ (d.ringCleared r).get F.SLU_R_SQ_HEAD r = 0 ∧
      (d.ringCleared r).get F.SLU_R_SQ_TAIL r = 0 ∧ (d.ringCleared r).get F.SLU_R_CQ_HEAD r = 0 ∧ (d.ringCleared r).get F.SLU_R_CQ_TAIL_INDEX r = 0 ∧
      (d.ringCleared r).get F.SLU_R_CQ_TAIL_PHASE r = 1 := by
  refine ⟨?_, ?_, ?_, ?_, ?_, ?_, ?_⟩ <;>
    simp (disch := decide) only [Dev.ringCleared, List.foldl, Dev.get_set_distinct, Dev.get_set_self] <;> rfl

theorem Dev.SameRegsBut.ringCleared {d e : Dev} {keys : List Nat} (h : d.SameRegsBut e keys) {r : Nat} (hk : ∀ f ∈ ringStartFields, f.key r 0 ∈ keys) :
    d.SameRegsBut (e.ringCleared r) keys := by
  simp only [ringStartFields, List.forall_mem_cons] at hk
  obtain ⟨hactive, hdraining, hhead, htail, hcq, hindex, hphase, -⟩ := hk
  exact ((((((h.set hhead 0).set htail 0).set hindex 0).set hcq 0).set hdraining 0).set hphase 1).set hactive 1

theorem Dev.ringDescs_isEmpty {d : Dev} {r : Nat} : (d.ringDescs r).isEmpty = true ↔ ∀ x ∈ d.descs, x.ring ≠ r := by
  simp [Dev.ringDescs]

/-! ### A ring stops -/

theorem Dev.flag_zero {d : Dev} {f : Field} {i j : Nat} (h : d.get f i j = 0) : d.flag f i j = false := by
  rw [Dev.flag, h]
  rfl

/-- The sizes of a ring brought into their range. -/
def Dev.ringSized (d : Dev) (r : Nat) : Dev :=
  (d.set F.SLU_R_SQ_CFG_ENTRIES (clampEntries (d.get F.SLU_R_SQ_CFG_ENTRIES r)) r).set F.SLU_R_CQ_CFG_ENTRIES
    (clampEntries ((d.set F.SLU_R_SQ_CFG_ENTRIES (clampEntries (d.get F.SLU_R_SQ_CFG_ENTRIES r)) r).get F.SLU_R_CQ_CFG_ENTRIES r)) r

/-- The indexes that software writes, bounded by the sizes of the registers. -/
def Dev.ringBounded (d : Dev) (r : Nat) : Dev :=
  (d.clampField F.SLU_R_SQ_TAIL 0 (d.get F.SLU_R_SQ_CFG_ENTRIES r - 1) r).clampField F.SLU_R_CQ_HEAD 0 (d.get F.SLU_R_CQ_CFG_ENTRIES r - 1) r

theorem Dev.normRing_off {d : Dev} {r : Nat} (h : d.get F.SLU_R_CTRL_ENABLE r = 0) : d.normRing r = (d.ringSized r).ringBounded r := by
  have hoff : (d.ringSized r).flag F.SLU_R_CTRL_ENABLE r = false :=
    Dev.flag_zero (by simp (disch := decide) only [Dev.ringSized, Dev.get_set_distinct]; exact h)
  unfold Dev.normRing
  change ((d.ringSized r).clampField F.SLU_R_SQ_TAIL 0 ((if (d.ringSized r).flag F.SLU_R_CTRL_ENABLE r then _ else _) - 1) r).clampField F.SLU_R_CQ_HEAD 0
    ((if (d.ringSized r).flag F.SLU_R_CTRL_ENABLE r then _ else _) - 1) r = _
  rw [hoff]
  rfl

/-- The device with a ring shown disabled. -/
def Dev.ringShut (d : Dev) (r : Nat) : Dev := ((d.set F.SLU_R_CTRL_ENABLE 0 r).set F.SLU_R_STAT_ACTIVE 0 r).set F.SLU_R_STAT_DRAINING 0 r

theorem Dev.get_ringShut (d : Dev) (r : Nat) : (d.ringShut r).get F.SLU_R_CTRL_ENABLE r = 0 := by
  simp (disch := decide) only [Dev.ringShut, Dev.get_set_distinct, Dev.get_set_self]
  rfl

/-- The registers as a stop of a ring leaves them. -/
def Dev.ringStopped (d : Dev) (r : Nat) : Dev := ((d.ringShut r).ringSized r).ringBounded r

/-- Devices that differ in registers alone. -/
def Dev.RegsOnly (d e : Dev) : Prop := e = { d with regs := e.regs }

theorem Dev.RegsOnly.trans {a b c : Dev} (h : a.RegsOnly b) (h' : b.RegsOnly c) : a.RegsOnly c :=
  Eq.trans h' (congrArg (fun x : Dev => { x with regs := c.regs }) h)

theorem Dev.regsOnly_set (d : Dev) (f : Field) (v i j : Nat) : d.RegsOnly (d.set f v i j) := rfl

theorem Dev.regsOnly_ringStopped (d : Dev) (r : Nat) : d.RegsOnly (d.ringStopped r) := by
  have hshut : d.RegsOnly (d.ringShut r) := ((d.regsOnly_set _ _ _ _).trans (Dev.regsOnly_set _ _ _ _ _)).trans (Dev.regsOnly_set _ _ _ _ _)
  have hsized : (d.ringShut r).RegsOnly ((d.ringShut r).ringSized r) := (Dev.regsOnly_set _ _ _ _ _).trans (Dev.regsOnly_set _ _ _ _ _)
  have hbounded : ((d.ringShut r).ringSized r).RegsOnly (d.ringStopped r) := (Dev.regsOnly_set _ _ _ _ _).trans (Dev.regsOnly_set _ _ _ _ _)
  exact (hshut.trans hsized).trans hbounded

theorem Dev.modRing_ringSized (d : Dev) (r : Nat) (f : RingSt → RingSt) : (d.modRing r f).ringSized r = (d.ringSized r).modRing r f := rfl

theorem Dev.modRing_ringBounded (d : Dev) (r : Nat) (f : RingSt → RingSt) : (d.modRing r f).ringBounded r = (d.ringBounded r).modRing r f := rfl

theorem Dev.ringStop_eq (d : Dev) (r : Nat) :
    d.ringStop r = ({ d with regs := (d.ringStopped r).regs } : Dev).modRing r (fun g => { g with active := false, draining := false }) := by
  have hoff : ((d.ringShut r).modRing r (fun g => { g with active := false, draining := false })).get F.SLU_R_CTRL_ENABLE r = 0 := d.get_ringShut r
  have hnorm : d.ringStop r = _ := Dev.normRing_off hoff
  rw [hnorm, Dev.modRing_ringSized, Dev.modRing_ringBounded]
  exact congrArg (fun e : Dev => e.modRing r (fun g => { g with active := false, draining := false })) (d.regsOnly_ringStopped r)

theorem Dev.get_ringStopped (d : Dev) (r : Nat) :
    (d.ringStopped r).get F.SLU_R_CTRL_ENABLE r = 0 ∧ (d.ringStopped r).get F.SLU_R_STAT_ACTIVE r = 0 ∧ (d.ringStopped r).get F.SLU_R_STAT_DRAINING r = 0 := by
  refine ⟨?_, ?_, ?_⟩ <;>
    simp (disch := decide) only [Dev.ringStopped, Dev.ringBounded, Dev.ringSized, Dev.ringShut, Dev.clampField, Dev.get_set_distinct, Dev.get_set_self] <;> rfl

theorem clampEntries_mod (n : Nat) : clampEntries n % 2 ^ 13 = clampEntries n := by
  refine Nat.mod_eq_of_lt ?_
  unfold clampEntries
  split_ifs <;> omega

/-- An index that a ring's size bounds fits its field. -/
theorem clampN_index (v n : Nat) : clampN 0 (clampEntries n - 1) v % 2 ^ 13 = min v (clampEntries n - 1) := by
  have hn : clampEntries n < 2 ^ 13 := by
    rw [← clampEntries_mod]
    exact Nat.mod_lt _ (by decide)
  have hclamp : clampN 0 (clampEntries n - 1) v = min v (clampEntries n - 1) := by
    simp only [clampN, Nat.not_lt_zero, if_false]
    split <;> omega
  rw [hclamp, Nat.mod_eq_of_lt (by omega)]

theorem Dev.get_ringStopped_sizes (d : Dev) (r : Nat) :
    (d.ringStopped r).get F.SLU_R_SQ_CFG_ENTRIES r = clampEntries (d.get F.SLU_R_SQ_CFG_ENTRIES r) ∧
      (d.ringStopped r).get F.SLU_R_CQ_CFG_ENTRIES r = clampEntries (d.get F.SLU_R_CQ_CFG_ENTRIES r) := by
  constructor <;>
    simp (disch := decide) only [Dev.ringStopped, Dev.ringBounded, Dev.ringSized, Dev.ringShut, Dev.clampField, Dev.get_set_distinct, Dev.get_set_self] <;>
    exact clampEntries_mod _

theorem Dev.get_ringStopped_indexes (d : Dev) (r : Nat) :
    (d.ringStopped r).get F.SLU_R_SQ_TAIL r = min (d.get F.SLU_R_SQ_TAIL r) ((d.ringStopped r).get F.SLU_R_SQ_CFG_ENTRIES r - 1) ∧
      (d.ringStopped r).get F.SLU_R_CQ_HEAD r = min (d.get F.SLU_R_CQ_HEAD r) ((d.ringStopped r).get F.SLU_R_CQ_CFG_ENTRIES r - 1) := by
  obtain ⟨hsq, hcq⟩ := d.get_ringStopped_sizes r
  rw [hsq, hcq]
  constructor <;>
    simp (disch := decide) only [Dev.ringStopped, Dev.ringBounded, Dev.ringSized, Dev.ringShut, Dev.clampField, Dev.get_set_distinct, Dev.get_set_self]
  · exact (congrArg (fun n => clampN 0 (n - 1) (d.get F.SLU_R_SQ_TAIL r) % 2 ^ 13) (clampEntries_mod _)).trans (clampN_index _ _)
  · exact (congrArg (fun n => clampN 0 (n - 1) (d.get F.SLU_R_CQ_HEAD r) % 2 ^ 13) (clampEntries_mod _)).trans (clampN_index _ _)

/-- The fields that a stop of a ring stores. -/
def ringStopFields : List Field :=
  [F.SLU_R_CTRL_ENABLE, F.SLU_R_STAT_ACTIVE, F.SLU_R_STAT_DRAINING, F.SLU_R_SQ_TAIL, F.SLU_R_CQ_HEAD, F.SLU_R_SQ_CFG_ENTRIES, F.SLU_R_CQ_CFG_ENTRIES]

theorem Dev.sameRegsBut_ringStopped (d : Dev) (r : Nat) : d.SameRegsBut (d.ringStopped r) (ringStopFields.map (fun f => f.key r 0)) := by
  have hk : ∀ f ∈ ringStopFields, f.key r 0 ∈ ringStopFields.map (fun f => f.key r 0) := fun f hf => List.mem_map_of_mem hf
  generalize ringStopFields.map (fun f => f.key r 0) = keys at hk ⊢
  simp only [ringStopFields, List.forall_mem_cons] at hk
  obtain ⟨henable, hactive, hdraining, htail, hhead, hsq, hcq, -⟩ := hk
  exact ((((((((d.sameRegsBut_refl keys).set henable 0).set hactive 0).set hdraining 0).set hsq _).set hcq _).set htail _).set hhead _)

/-! ### The commands of a ring -/

theorem gives_ringEnable {s : State} {rq : Requester} (h : s.Ready rq 0) (r : Ring) : Gives (.ringEnable rq r) s
    (if s.dev.flag F.SLU_R_CTRL_ENABLE r.val then s.dev
    else if (s.dev.ringDescs r.val).isEmpty then (s.dev.set F.SLU_R_CTRL_ENABLE 1 r.val).ringStart r.val
    else ((s.dev.set F.SLU_R_CTRL_ENABLE 1 r.val).set F.SLU_R_STAT_DRAINING 1 r.val).modRing r.val (fun g => { g with draining := true })) :=
  congrArg Host.Outcome.next (State.roleWrite_plain h (.ringEnable rq r) _ none _ _ (by revert r; decide) rfl rfl)

theorem gives_ringDisable {s : State} {rq : Requester} (h : s.Ready rq 0) (r : Ring) : Gives (.ringDisable rq r) s (s.dev.ringStop r.val) :=
  congrArg Host.Outcome.next (State.roleWrite_plain h (.ringDisable rq r) _ none _ _ (by revert r; decide) rfl rfl)

theorem gives_ringDrainEnd (r : Ring) (s : State) : Gives (.ringDrainEnd r) s
    (if (s.dev.ring r.val).draining && (s.dev.ringDescs r.val).isEmpty then s.dev.ringStart r.val else s.dev) := rfl

theorem gives_ringCountClear {s : State} {rq : Requester} (h : s.Ready rq 0) (r : Ring) : Gives (.ringCountClear rq r) s
    ((s.dev.set F.SLU_R_CNT_ERR_CNT 0 r.val).set F.SLU_R_CNT_CQ_LOST 0 r.val) := by
  simp only [Gives, exec, execRingCountClear]
  rw [State.row_none h _ _ _ _ _ (by revert r; decide) (by revert r; cases rq <;> decide +kernel) (by decide) (by decide) (by decide)]
  rfl

end Sys2Proof.Machine
end


section
/-! PROOF. Completion records (R86, R89, R95, R100): the record of a descriptor that is done, or of the oldest job record, and the interrupt that follows. -/

namespace Sys2Proof.Machine

/-! ### A record's slot -/

/-- A record's words go to the slot at CQ_TAIL of a completion ring of n slots, and the tail moves on. -/
def Dev.cqWritten (d : Dev) (r n base tail phase : Nat) (ws : List Nat) : Dev :=
  ((d.emit (.cq r tail (base + 32 * tail) ws)).set F.SLU_R_CQ_TAIL_INDEX (if tail + 1 < n then tail + 1 else 0) r).set
    F.SLU_R_CQ_TAIL_PHASE (if tail + 1 < n then phase else 1 - phase) r

/-- A record is written, apart from the interrupt that it may ask for. -/
def Dev.cqPut (d : Dev) (r : Nat) (x : CqRec) : Dev :=
  d.cqWritten r (d.ring r).cqN (d.ring r).cqBase (d.get F.SLU_R_CQ_TAIL_INDEX r) (d.get F.SLU_R_CQ_TAIL_PHASE r)
    (x.words r (d.get F.SLU_R_CQ_TAIL_PHASE r))

/-- A flagged record counts towards the interrupt of its ring, or sends it. -/
def Dev.cqSignal (d : Dev) (r : Nat) : Dev :=
  if d.get F.SLU_R_CQ_CFG_COAL_US r = 0 ∨
      (d.get F.SLU_R_CQ_CFG_COAL_CNT r ≠ 0 ∧ d.get F.SLU_R_CQ_CFG_COAL_CNT r ≤ ((d.modRing r (fun g => { g with flagged := g.flagged + 1 })).ring r).flagged) then
    (d.modRing r (fun g => { g with flagged := g.flagged + 1 })).ringIrq r
  else
    (d.modRing r (fun g => { g with flagged := g.flagged + 1 })).modRing r (fun g =>
      { g with coalAt := some (g.coalAt.getD (d.raw + d.get F.SLU_R_CQ_CFG_COAL_US r * 1000)) })

theorem Dev.writeCq_eq (d : Dev) (r : Nat) (x : CqRec) : d.writeCq r x = if x.irq then (d.cqPut r x).cqSignal r else d.cqPut r x := by
  have hphase : (if (if d.get F.SLU_R_CQ_TAIL_INDEX r + 1 < (d.ring r).cqN then d.get F.SLU_R_CQ_TAIL_INDEX r + 1 else 0) = 0 then
      1 - d.get F.SLU_R_CQ_TAIL_PHASE r else d.get F.SLU_R_CQ_TAIL_PHASE r) =
      if d.get F.SLU_R_CQ_TAIL_INDEX r + 1 < (d.ring r).cqN then d.get F.SLU_R_CQ_TAIL_PHASE r else 1 - d.get F.SLU_R_CQ_TAIL_PHASE r := by
    split <;> simp
  unfold Dev.writeCq
  simp only
  rw [hphase]
  change (if x.irq = true then _ else d.cqPut r x) = _
  split
  · unfold Dev.cqSignal
    simp only [Bool.or_eq_true, Bool.and_eq_true, decide_eq_true_eq]
    rfl
  · rfl

/-! ### The interrupt of a ring -/

theorem Dev.ring_modRing_self {d : Dev} {r : Nat} (h : r < d.rings.length) (f : RingSt → RingSt) : (d.modRing r f).ring r = f (d.ring r) := by
  refine (getD_setAt _ _ _ _ _).trans ?_
  rw [if_pos ⟨rfl, h⟩]
  rfl

theorem Dev.modRing_modRing (d : Dev) (r : Nat) (f g : RingSt → RingSt) : (d.modRing r f).modRing r g = d.modRing r (g ∘ f) :=
  congrArg (fun l => { d with rings := l }) (List.modify_modify_eq f g r d.rings)

theorem Dev.msixDue_modRing (d : Dev) (r v : Nat) (f : RingSt → RingSt) : (d.modRing r f).msixDue v = (d.msixDue v).modRing r f := by
  have hpwr : (d.modRing r f).pwr = d.pwr := rfl
  unfold Dev.msixDue
  rw [hpwr]
  simp only
  split <;> rfl

theorem Dev.ringIrq_flagged (d : Dev) (r : Nat) :
    (d.modRing r (fun g => { g with flagged := g.flagged + 1 })).ringIrq r =
      (d.msixDue (d.get F.SLU_R_CQ_CFG_VECTOR r)).modRing r (fun g => { g with flagged := 0, coalAt := none }) := by
  unfold Dev.ringIrq
  rw [Dev.msixDue_modRing, Dev.modRing_modRing]
  rfl

theorem Dev.cqSignal_sends {d : Dev} {r : Nat} (hr : r < d.rings.length)
    (h : d.get F.SLU_R_CQ_CFG_COAL_US r = 0 ∨ (d.get F.SLU_R_CQ_CFG_COAL_CNT r ≠ 0 ∧ d.get F.SLU_R_CQ_CFG_COAL_CNT r ≤ (d.ring r).flagged + 1)) :
    d.cqSignal r = (d.msixDue (d.get F.SLU_R_CQ_CFG_VECTOR r)).modRing r (fun g => { g with flagged := 0, coalAt := none }) := by
  unfold Dev.cqSignal
  rw [Dev.ring_modRing_self hr, if_pos h]
  exact d.ringIrq_flagged r

theorem Dev.cqSignal_counts {d : Dev} {r : Nat} (hr : r < d.rings.length) (hus : d.get F.SLU_R_CQ_CFG_COAL_US r ≠ 0)
    (h : d.get F.SLU_R_CQ_CFG_COAL_CNT r = 0 ∨ (d.ring r).flagged + 1 < d.get F.SLU_R_CQ_CFG_COAL_CNT r) :
    d.cqSignal r = d.modRing r (fun g =>
      { g with flagged := g.flagged + 1, coalAt := some (g.coalAt.getD (d.raw + d.get F.SLU_R_CQ_CFG_COAL_US r * 1000)) }) := by
  unfold Dev.cqSignal
  rw [Dev.ring_modRing_self hr, if_neg (by
    rintro (h0 | ⟨h0, h1⟩)
    · exact hus h0
    · exact h.elim h0 (fun h2 => absurd h1 (Nat.not_le.mpr h2)))]
  exact d.modRing_modRing r _ _

/-- The interrupt that a flagged record of a ring sends or counts towards, by the settings of the state before it. -/
def Signals (s : State) (r : Nat) (d : Dev) (c : Instr) : Prop :=
  (s.dev.get F.SLU_R_CQ_CFG_COAL_US r = 0 ∨ (s.dev.get F.SLU_R_CQ_CFG_COAL_CNT r ≠ 0 ∧
      s.dev.get F.SLU_R_CQ_CFG_COAL_CNT r ≤ (s.dev.ring r).flagged + 1) →
    r < s.dev.rings.length →
    Gives c s ((d.msixDue (s.dev.get F.SLU_R_CQ_CFG_VECTOR r)).modRing r (fun g => { g with flagged := 0, coalAt := none }))) ∧
  (s.dev.get F.SLU_R_CQ_CFG_COAL_US r ≠ 0 → (s.dev.get F.SLU_R_CQ_CFG_COAL_CNT r = 0 ∨
      (s.dev.ring r).flagged + 1 < s.dev.get F.SLU_R_CQ_CFG_COAL_CNT r) → r < s.dev.rings.length →
    Gives c s (d.modRing r (fun g => { g with
      flagged := g.flagged + 1, coalAt := some (g.coalAt.getD (s.dev.raw + s.dev.get F.SLU_R_CQ_CFG_COAL_US r * 1000)) })))

/-- The settings of a ring's interrupt, its count and the number of rings. -/
def Dev.signal (d : Dev) (r : Nat) : Nat × Nat × Nat × Nat × Nat × Nat :=
  (d.get F.SLU_R_CQ_CFG_COAL_US r, d.get F.SLU_R_CQ_CFG_COAL_CNT r, d.get F.SLU_R_CQ_CFG_VECTOR r, (d.ring r).flagged, d.rings.length, d.raw)

theorem signals_of_cqSignal {s : State} {r : Nat} {d : Dev} {c : Instr} (h : Gives c s (d.cqSignal r)) (hd : d.signal r = s.dev.signal r) : Signals s r d c := by
  simp only [Dev.signal, Prod.mk.injEq] at hd
  obtain ⟨hus, hcnt, hvec, hflag, hlen, hraw⟩ := hd
  unfold Signals
  rw [← hus, ← hcnt, ← hvec, ← hflag, ← hlen, ← hraw]
  refine ⟨fun hsend hr => ?_, fun h0 hcount hr => ?_⟩
  · rwa [Dev.cqSignal_sends hr hsend] at h
  · rwa [Dev.cqSignal_counts hr h0 hcount] at h

theorem Dev.signal_cqWritten (d : Dev) (r n base tail phase : Nat) (ws : List Nat) : (d.cqWritten r n base tail phase ws).signal r = d.signal r := by
  unfold Dev.signal Dev.cqWritten
  simp (disch := decide) only [Dev.get_set_distinct]
  rfl

/-! ### Which record is written -/

/-- The first descriptor of a ring that is done and may have its record. -/
theorem Dev.find_done {d : Dev} {r : Nat} {pre post : List Desc} {x : Desc} (hd : d.descs = pre ++ x :: post) (hpre : ∀ y ∈ pre, y.ring = r → d.descDone y = false)
    (hx : x.ring = r) (hdone : d.descDone x = true) {p : Desc → Bool} (hp : p x = true) :
    (d.ringDescs r).find? (fun y => d.descDone y && p y) = some x := by
  have hnone : (pre.filter (fun y => y.ring = r)).find? (fun y => d.descDone y && p y) = none := by
    refine List.find?_eq_none.mpr (fun y hy => ?_)
    obtain ⟨hy, hring⟩ := List.mem_filter.mp hy
    simp [hpre y hy (of_decide_eq_true hring)]
  rw [Dev.ringDescs, hd, List.filter_append, List.filter_cons_of_pos (by simpa using hx), List.find?_append, hnone]
  simp [hdone, hp]

/-- No descriptor of a ring is done. -/
theorem Dev.find_done_none {d : Dev} {r : Nat} (h : ∀ x ∈ d.descs, x.ring = r → d.descDone x = false) (p : Desc → Bool) :
    (d.ringDescs r).find? (fun y => d.descDone y && p y) = none := by
  refine List.find?_eq_none.mpr (fun y hy => ?_)
  obtain ⟨hy, hring⟩ := List.mem_filter.mp hy
  simp [h y hy (of_decide_eq_true hring)]

theorem Dev.descDone_of {d : Dev} {pre post : List Desc} {x : Desc} (hd : d.descs = pre ++ x :: post) (hphase : x.phase = .ended) (hacked : x.unacked = [])
    (hsilent : x.silent = false) (hfence : x.fence = true → ∀ y ∈ pre ++ post, y.ring = x.ring → x.order ≤ y.order) : d.descDone x = true := by
  have hall : x.fence = true → (d.ringDescs x.ring).all (fun y => x.order ≤ y.order) = true := fun hf => by
    refine List.all_eq_true.mpr (fun y hy => decide_eq_true ?_)
    obtain ⟨hy, hring⟩ := List.mem_filter.mp hy
    rw [hd] at hy
    rcases List.mem_append.mp hy with hy | hy
    · exact hfence hf y (List.mem_append_left _ hy) (of_decide_eq_true hring)
    · rcases List.mem_cons.mp hy with rfl | hy
      · exact le_rfl
      · exact hfence hf y (List.mem_append_right _ hy) (of_decide_eq_true hring)
  cases hf : x.fence <;> simp [Dev.descDone, hphase, hacked, hsilent, hf, hall]

theorem erase_middle {l pre post : List Desc} {x : Desc} (hl : l = pre ++ x :: post) (hx : x ∉ pre) : l.erase x = pre ++ post := by
  rw [hl, List.erase_append_right _ hx, List.erase_cons_head]

/-- A descriptor none of whose bar-lines another has overwritten leaves the stored data alone. -/
theorem Dev.settleKept_of {d : Dev} {x : Desc} (h : ∀ k ∈ x.kept, k.beaten = false) : d.settleKept x = d := by
  unfold Dev.settleKept
  revert h
  generalize x.kept = kept
  intro h
  induction kept with
  | nil => rfl
  | cons k ks ih =>
    rw [List.foldl_cons]
    have hk : k.beaten = false := h k List.mem_cons_self
    simp only [hk, Bool.not_false, Bool.or_true, if_true]
    exact ih (fun y hy => h y (List.mem_cons_of_mem _ hy))

theorem Dev.cqFree_of {d : Dev} {r : Nat} (hn : (d.ring r).cqN ≠ 0) (h : (d.get F.SLU_R_CQ_TAIL_INDEX r + 1) % (d.ring r).cqN ≠ d.get F.SLU_R_CQ_HEAD r) :
    d.cqFree r = true := by
  simp [Dev.cqFree, hn, h]

/-! ### COMPLETION_RECORD_WRITE -/

/-- The record of a descriptor that is done: its descriptor leaves, an error is counted, and a record that is not suppressed is written. -/
def Dev.completed (d : Dev) (r : Nat) (x : Desc) : Dev :=
  let e : Dev := ({ d with descs := d.descs.erase x } : Dev).settleKept x
  let e := if x.status = 0 then e else e.bump F.SLU_R_CNT_ERR_CNT r
  if x.noCpl && x.status = 0 then e else e.writeCq r (d.descRec x)

/-- A ring's next record: of the first descriptor that is done and may have it, else the oldest job record while the ring is active. -/
def Dev.recordWrite (d : Dev) (r : Nat) : Dev :=
  if !d.hostReach then d
  else
    match (d.ringDescs r).find? (fun x => d.descDone x && ((x.noCpl && x.status = 0) || d.cqFree r)) with
    | some x => d.completed r x
    | none =>
      match (d.ring r).jobQ with
      | x :: q => if (d.ring r).active && d.cqFree r then (d.modRing r (fun g => { g with jobQ := q })).writeCq r x else d
      | [] => d

theorem gives_recordWrite (r : Ring) (s : State) : Gives (.completionRecordWrite r) s (s.dev.recordWrite r.val) := rfl

theorem Dev.recordWrite_done {d : Dev} {r : Nat} (hlink : d.pwr.link = true) (hbme : d.pwr.bme = true) {x : Desc}
    (h : (d.ringDescs r).find? (fun y => d.descDone y && ((y.noCpl && y.status = 0) || d.cqFree r)) = some x) : d.recordWrite r = d.completed r x := by
  have hreach : d.hostReach = true := by simp [Dev.hostReach, hlink, hbme]
  simp [Dev.recordWrite, hreach, h]

theorem Dev.recordWrite_job {d : Dev} {r : Nat} (hlink : d.pwr.link = true) (hbme : d.pwr.bme = true)
    (h : (d.ringDescs r).find? (fun y => d.descDone y && ((y.noCpl && y.status = 0) || d.cqFree r)) = none) {x : CqRec} {q : List CqRec}
    (hq : (d.ring r).jobQ = x :: q) (hactive : (d.ring r).active = true) (hfree : d.cqFree r = true) :
    d.recordWrite r = (d.modRing r (fun g => { g with jobQ := q })).writeCq r x := by
  have hreach : d.hostReach = true := by simp [Dev.hostReach, hlink, hbme]
  unfold Dev.recordWrite
  rw [hreach, h, hq, hactive, hfree]
  rfl

theorem Dev.recordWrite_unreached {d : Dev} (h : d.pwr.link = false ∨ d.pwr.bme = false) (r : Nat) : d.recordWrite r = d := by
  have hreach : d.hostReach = false := by rcases h with h | h <;> simp [Dev.hostReach, h]
  simp [Dev.recordWrite, hreach]

/-- A descriptor that is done, has no beaten bar-line and stands nowhere before its place leaves it. -/
theorem Dev.completed_eq {d : Dev} {r : Nat} {pre post : List Desc} {x : Desc} (hd : d.descs = pre ++ x :: post) (hx : x ∉ pre) (hkept : ∀ k ∈ x.kept, k.beaten = false) :
    d.completed r x =
      if x.noCpl && x.status = 0 then (if x.status = 0 then ({ d with descs := pre ++ post } : Dev) else ({ d with descs := pre ++ post } : Dev).bump F.SLU_R_CNT_ERR_CNT r)
      else (if x.status = 0 then ({ d with descs := pre ++ post } : Dev) else ({ d with descs := pre ++ post } : Dev).bump F.SLU_R_CNT_ERR_CNT r).writeCq r (d.descRec x) := by
  unfold Dev.completed
  rw [erase_middle hd hx, Dev.settleKept_of hkept]

/-- A record that is written without a flag is all there is to it; a flagged one signals besides. -/
theorem record_signals {s : State} {r : Nat} {c : Instr} {d w : Dev} {x : CqRec} (h : Gives c s (d.writeCq r x)) (hw : w = d.cqPut r x)
    (hd : d.signal r = s.dev.signal r) : (x.irq = false → Gives c s w) ∧ (x.irq = true → Signals s r w c) := by
  subst hw
  rw [Dev.writeCq_eq] at h
  refine ⟨fun hirq => ?_, fun hirq => ?_⟩
  · rwa [hirq, if_neg Bool.false_ne_true] at h
  · rw [hirq, if_pos rfl] at h
    exact signals_of_cqSignal h ((Dev.signal_cqWritten ..).trans hd)

end Sys2Proof.Machine
end


section
/-! PROOF. Rings start, stop and report (R84, R86, R89 to R91, R95, R100). -/

namespace Sys2Proof.Machine

theorem completes_ringEnable {s : State} {rq : Requester} (h : s.Ready rq 0) {r : Ring} (hoff : s.dev.get F.SLU_R_CTRL_ENABLE r.val = 0)
    (hnone : ∀ x ∈ s.dev.descs, x.ring ≠ r.val) :
    Gives (.ringEnable rq r) s ((s.dev.set F.SLU_R_CTRL_ENABLE 1 r.val).ringStart r.val) := by
  have hgives := gives_ringEnable h r
  rwa [Dev.flag_zero hoff, if_neg Bool.false_ne_true, if_pos (Dev.ringDescs_isEmpty.mpr hnone)] at hgives

/-- What a start of a ring leaves, for a device that differs in registers alone from the one before it. -/
theorem Dev.ringStart_leaves {d b : Dev} {r : Nat} {keys : List Nat} (hb : d.RegsOnly b) (hgeo : b.ringBegun r = d.ringBegun r)
    (hk : ∀ f ∈ ringStartFields, f.key r 0 ∈ keys) (hsame : d.SameRegsBut b keys) :
    ∃ regs : RegFile, b.ringStart r = ({ d with regs := regs } : Dev).modRing r (d.ringBegun r) ∧
      (b.ringStart r).get F.SLU_R_STAT_ACTIVE r = 1 ∧ (b.ringStart r).get F.SLU_R_STAT_DRAINING r = 0 ∧
      (b.ringStart r).get F.SLU_R_SQ_HEAD r = 0 ∧ (b.ringStart r).get F.SLU_R_SQ_TAIL r = 0 ∧ (b.ringStart r).get F.SLU_R_CQ_HEAD r = 0 ∧
      (b.ringStart r).get F.SLU_R_CQ_TAIL_INDEX r = 0 ∧ (b.ringStart r).get F.SLU_R_CQ_TAIL_PHASE r = 1 ∧ Dev.SameRegsBut d (b.ringStart r) keys := by
  have hcleared := b.get_ringCleared r
  have hkeys : d.SameRegsBut (b.ringCleared r) keys := hsame.ringCleared hk
  rw [Dev.ringStart_eq, hgeo]
  generalize b.ringCleared r = c at hcleared hkeys ⊢
  have hdev : b = { d with regs := b.regs } := hb
  have hstart := congrArg (fun e : Dev => ({ e with regs := c.regs } : Dev).modRing r (d.ringBegun r)) hdev
  refine ⟨c.regs, hstart, ?_⟩
  obtain ⟨hactive, hdraining, hhead, htail, hcq, hindex, hphase⟩ := hcleared
  exact ⟨hactive, hdraining, hhead, htail, hcq, hindex, hphase, hkeys⟩

/-- What a stop of a ring leaves. -/
theorem Dev.ringStop_leaves (d : Dev) (r : Nat) :
    ∃ regs : RegFile, d.ringStop r = ({ d with regs := regs } : Dev).modRing r (fun g => { g with active := false, draining := false }) ∧
      (d.ringStop r).get F.SLU_R_CTRL_ENABLE r = 0 ∧ (d.ringStop r).get F.SLU_R_STAT_ACTIVE r = 0 ∧ (d.ringStop r).get F.SLU_R_STAT_DRAINING r = 0 ∧
      (d.ringStop r).get F.SLU_R_SQ_TAIL r = min (d.get F.SLU_R_SQ_TAIL r) ((d.ringStop r).get F.SLU_R_SQ_CFG_ENTRIES r - 1) ∧
      (d.ringStop r).get F.SLU_R_CQ_HEAD r = min (d.get F.SLU_R_CQ_HEAD r) ((d.ringStop r).get F.SLU_R_CQ_CFG_ENTRIES r - 1) ∧
      (d.ringStop r).get F.SLU_R_SQ_CFG_ENTRIES r = clampEntries (d.get F.SLU_R_SQ_CFG_ENTRIES r) ∧
      (d.ringStop r).get F.SLU_R_CQ_CFG_ENTRIES r = clampEntries (d.get F.SLU_R_CQ_CFG_ENTRIES r) ∧
      Dev.SameRegsBut d (d.ringStop r) (ringStopFields.map (fun f => f.key r 0)) := by
  have hflags := d.get_ringStopped r
  have hsizes := d.get_ringStopped_sizes r
  have hindexes := d.get_ringStopped_indexes r
  have hsame := d.sameRegsBut_ringStopped r
  rw [Dev.ringStop_eq]
  generalize d.ringStopped r = c at hflags hsizes hindexes hsame ⊢
  obtain ⟨henable, hactive, hdraining⟩ := hflags
  obtain ⟨htail, hhead⟩ := hindexes
  exact ⟨c.regs, rfl, henable, hactive, hdraining, htail, hhead, hsizes.1, hsizes.2, hsame⟩

theorem Dev.get_ringStart_enable (d : Dev) (r : Nat) : (d.ringStart r).get F.SLU_R_CTRL_ENABLE r = d.get F.SLU_R_CTRL_ENABLE r := by
  have hclear : (d.ringCleared r).get F.SLU_R_CTRL_ENABLE r = d.get F.SLU_R_CTRL_ENABLE r := by
    simp (disch := decide) only [Dev.ringCleared, List.foldl, Dev.get_set_distinct]
  rw [Dev.ringStart_eq, ← hclear]
  rfl

/-- The end of the wait that a ring's coalescing time gives. -/
def Dev.coalEnd (d : Dev) (r : Nat) : Dev :=
  match (d.ring r).coalAt with
  | some t => if t ≤ d.raw && (d.ring r).flagged ≠ 0 then d.ringIrq r else d
  | none => d

theorem gives_cqCoalTimeout (r : Ring) (s : State) : Gives (.cqCoalTimeout r) s (s.dev.coalEnd r.val) := rfl

theorem Dev.coalEnd_over {d : Dev} {r t : Nat} (ht : (d.ring r).coalAt = some t) (hle : t ≤ d.raw) (hflag : (d.ring r).flagged ≠ 0) : d.coalEnd r = d.ringIrq r := by
  simp [Dev.coalEnd, ht, hle, hflag]

theorem Dev.coalEnd_before {d : Dev} {r t : Nat} (ht : (d.ring r).coalAt = some t) (hlt : d.raw < t) : d.coalEnd r = d := by
  simp [Dev.coalEnd, ht, Nat.not_le.mpr hlt]

theorem Dev.coalEnd_none {d : Dev} {r : Nat} (ht : (d.ring r).coalAt = none) : d.coalEnd r = d := by
  simp [Dev.coalEnd, ht]

/-- A command that gives a device gives any equal one. -/
theorem Gives.congr {c : Instr} {s : State} {d e : Dev} (h : Gives c s d) (hd : d = e) : Gives c s e := hd ▸ h

/-- The record of a descriptor that is done, and what it signals. -/
theorem record_of_done {s : State} {r : Ring} {pre post : List Desc} {x : Desc} (hlink : s.dev.pwr.link = true) (hbme : s.dev.pwr.bme = true)
    (hd : s.dev.descs = pre ++ x :: post) (hpre : ∀ y ∈ pre, y.ring = r.val → s.dev.descDone y = false) (hx : x.ring = r.val) (hdone : s.dev.descDone x = true)
    (hkept : ∀ k ∈ x.kept, k.beaten = false) :
    (x.noCpl = true → x.status = 0 → Gives (.completionRecordWrite r) s { s.dev with descs := pre ++ post }) ∧
    (x.noCpl = false ∨ x.status ≠ 0 → s.dev.cqFree r.val = true →
      Gives (.completionRecordWrite r) s
        ((if x.status = 0 then ({ s.dev with descs := pre ++ post } : Dev) else ({ s.dev with descs := pre ++ post } : Dev).bump F.SLU_R_CNT_ERR_CNT r.val).writeCq r.val
          (s.dev.descRec x))) := by
  have hnot : x ∉ pre := fun hmem => by
    rw [hpre x hmem hx] at hdone
    exact Bool.false_ne_true hdone
  have hcompleted := Dev.completed_eq (r := r.val) hd hnot hkept
  refine ⟨fun hno hst => ?_, fun hor hfree => ?_⟩
  · have hfind := Dev.find_done (p := fun y => (y.noCpl && decide (y.status = 0)) || s.dev.cqFree r.val) hd hpre hx hdone (by simp [hno, hst])
    refine (gives_recordWrite r s).congr ((Dev.recordWrite_done hlink hbme hfind).trans ?_)
    rw [hcompleted, hno, if_pos hst]
    simp [hst]
  · have hfind := Dev.find_done (p := fun y => (y.noCpl && decide (y.status = 0)) || s.dev.cqFree r.val) hd hpre hx hdone (by simp [hfree])
    refine (gives_recordWrite r s).congr ((Dev.recordWrite_done hlink hbme hfind).trans ?_)
    have hquiet : (x.noCpl && decide (x.status = 0)) = false := by rcases hor with h | h <;> simp [h]
    rw [hcompleted, hquiet, if_neg Bool.false_ne_true]

/-- The eight words of a record (R100), with the numerals written out. -/
theorem CqRec.words_eq (x : CqRec) (r phase : Nat) : x.words r phase =
    [phase * 2147483648 + x.type * 268435456 + x.status * 16777216 + r * 65536 + x.tag, x.cookie, x.event * 65536 + x.sqIndex, x.count % 4294967296,
      x.line % 4294967296, x.line / 4294967296 % 65536, x.time % 4294967296, x.time / 4294967296 % 4294967296] := rfl

/-- The eight words of a descriptor's record (R91, R100). -/
theorem Dev.words_descRec (d : Dev) (x : Desc) (r phase : Nat) : (d.descRec x).words r phase =
    [phase * 2147483648 + 268435456 + x.status * 16777216 + r * 65536 + (if x.opcode = 0 then 0 else x.tag), x.cookie, x.slot,
      x.stored % 4294967296, (if x.opcode = 0 then 0 else x.first) % 4294967296, (if x.opcode = 0 then 0 else x.first) / 4294967296 % 65536,
      d.T % 4294967296, d.T / 4294967296 % 4294967296] := by
  rw [CqRec.words_eq]
  simp [Dev.descRec]

/-- What a record's place and its interrupt depend on. -/
def Dev.cqView (d : Dev) (r : Nat) : Nat × Nat × Nat × Nat := ((d.ring r).cqN, (d.ring r).cqBase, d.get F.SLU_R_CQ_TAIL_INDEX r, d.get F.SLU_R_CQ_TAIL_PHASE r)

theorem Dev.cqPut_of_cqView {d e : Dev} {r : Nat} (h : d.cqView r = e.cqView r) {x : CqRec} {ws : List Nat} (hws : x.words r (e.get F.SLU_R_CQ_TAIL_PHASE r) = ws) :
    d.cqPut r x = d.cqWritten r (e.ring r).cqN (e.ring r).cqBase (e.get F.SLU_R_CQ_TAIL_INDEX r) (e.get F.SLU_R_CQ_TAIL_PHASE r) ws := by
  simp only [Dev.cqView, Prod.mk.injEq] at h
  obtain ⟨hn, hbase, htail, hphase⟩ := h
  rw [← hws, ← hn, ← hbase, ← htail, ← hphase]
  rfl

theorem Dev.views_bumpErr (d : Dev) (r : Nat) : (d.bump F.SLU_R_CNT_ERR_CNT r).cqView r = d.cqView r ∧ (d.bump F.SLU_R_CNT_ERR_CNT r).signal r = d.signal r := by
  unfold Dev.cqView Dev.signal
  simp (disch := decide) only [Dev.get_bump_distinct]
  exact ⟨rfl, rfl⟩

theorem Dev.views_jobQ (d : Dev) (r : Nat) (q : List CqRec) :
    (d.modRing r (fun g => { g with jobQ := q })).cqView r = d.cqView r ∧ (d.modRing r (fun g => { g with jobQ := q })).signal r = d.signal r := by
  have hring : (d.modRing r (fun g => { g with jobQ := q })).ring r = if r < d.rings.length then { d.ring r with jobQ := q } else d.ring r := by
    refine (getD_setAt _ _ _ _ _).trans ?_
    simp only [true_and]
    rfl
  have hlen : (d.modRing r (fun g => { g with jobQ := q })).rings.length = d.rings.length := length_setAt _ _ _
  unfold Dev.cqView Dev.signal
  rw [hring, hlen]
  split <;> exact ⟨rfl, rfl⟩

/-- Settles O39: a start and a stop of a ring store the fields of R84 and R87 and the ring's own state; a record of R100 is written at the tail, and signals by the
ring's coalescing settings. -/
theorem ringsStartStopAndReport : Obligations.RingsStartStopAndReport := by
  refine ⟨⟨fun rq r s h hoff hnone => ?_, fun rq r s x h hoff hmem hring => ?_, fun rq r s h hon => ?_, fun rq r s h => ?_, fun r s hdrain hnone => ?_,
    fun r s hor => ?_, fun rq r s h => gives_ringCountClear h r⟩, ?_, fun r s h => ?_, fun r s t ht => ?_, fun r s ht => ?_⟩
  · obtain ⟨regs, hdev, hrest⟩ := Dev.ringStart_leaves (d := s.dev) (b := s.dev.set F.SLU_R_CTRL_ENABLE 1 r.val) (r := r.val)
      (keys := ((F.SLU_R_CTRL_ENABLE :: ringStartFields).map (fun f => f.key r.val 0))) (s.dev.regsOnly_set _ _ _ _)
      (by funext g; simp (disch := decide) only [Dev.ringBegun, Dev.get_set_distinct]) (fun f hf => List.mem_map_of_mem (List.mem_cons_of_mem _ hf))
      ((s.dev.sameRegsBut_refl _).set (List.mem_map_of_mem (f := fun f : Field => f.key r.val 0) List.mem_cons_self) 1)
    obtain ⟨hactive, hdraining, hhead, htail, hcq, hindex, hphase, hsame⟩ := hrest
    refine ⟨_, completes_ringEnable h hoff hnone, regs, hdev, ?_, hactive, hdraining, hhead, htail, hcq, hindex, hphase, hsame⟩
    exact (Dev.get_ringStart_enable _ _).trans (Dev.get_set_self ..)
  · have hsome : (s.dev.ringDescs r.val).isEmpty = false :=
      Bool.eq_false_iff.mpr (fun he => Dev.ringDescs_isEmpty.mp he x hmem hring)
    have hgives := gives_ringEnable h r
    rwa [Dev.flag_zero hoff, hsome, if_neg Bool.false_ne_true, if_neg Bool.false_ne_true] at hgives
  · have hgives := gives_ringEnable h r
    rwa [(Dev.flag_eq_true ..).mpr hon, if_pos rfl] at hgives
  · exact ⟨_, gives_ringDisable h r, s.dev.ringStop_leaves r.val⟩
  · have hgives := gives_ringDrainEnd r s
    rw [hdrain, Dev.ringDescs_isEmpty.mpr hnone] at hgives
    obtain ⟨regs, hdev, hrest⟩ := Dev.ringStart_leaves (d := s.dev) (b := s.dev) (r := r.val) (keys := ringStartFields.map (fun f => f.key r.val 0)) rfl rfl
      (fun f hf => List.mem_map_of_mem hf) (s.dev.sameRegsBut_refl _)
    exact ⟨_, hgives, regs, hdev, hrest⟩
  · have hno : ((s.dev.ring r.val).draining && (s.dev.ringDescs r.val).isEmpty) = false := by
      rcases hor with hd | ⟨x, hmem, hring⟩
      · rw [hd, Bool.false_and]
      · rw [Bool.eq_false_iff.mpr (fun he => Dev.ringDescs_isEmpty.mp he x hmem hring), Bool.and_false]
    have hgives := gives_ringDrainEnd r s
    rwa [hno, if_neg Bool.false_ne_true] at hgives
  · intro r s n tail phase hlink hbme hn htail hphase written signalled
    subst hn htail hphase
    refine ⟨fun pre post x hd hpre hx hended hacked hsilent hfence hkept => ?_, fun hnone x q hq hactive hne hslot => ?_⟩
    · have hdone := Dev.descDone_of hd hended hacked hsilent (hx.symm ▸ hfence)
      obtain ⟨hquiet, hwrite⟩ := record_of_done hlink hbme hd hpre hx hdone hkept
      refine ⟨hquiet, fun hor hne hslot => ⟨_, _, rfl, rfl, ?_⟩⟩
      have hviews : ∀ e : Dev, e = (if x.status = 0 then ({ s.dev with descs := pre ++ post } : Dev) else ({ s.dev with descs := pre ++ post } : Dev).bump F.SLU_R_CNT_ERR_CNT r.val) →
          e.cqView r.val = s.dev.cqView r.val ∧ e.signal r.val = s.dev.signal r.val := fun e he => by
        rw [he]
        split
        · exact ⟨rfl, rfl⟩
        · exact Dev.views_bumpErr { s.dev with descs := pre ++ post } r.val
      have hgives := hwrite hor (Dev.cqFree_of hne hslot)
      generalize (if x.status = 0 then ({ s.dev with descs := pre ++ post } : Dev) else _) = e at hviews hgives
      obtain ⟨hview, hsignal⟩ := hviews e rfl
      exact record_signals hgives (Dev.cqPut_of_cqView hview (Dev.words_descRec ..)).symm hsignal
    · have hfind := Dev.find_done_none hnone (fun y => (y.noCpl && decide (y.status = 0)) || s.dev.cqFree r.val)
      have hgives := (gives_recordWrite r s).congr (Dev.recordWrite_job hlink hbme hfind hq hactive (Dev.cqFree_of hne hslot))
      obtain ⟨hview, hsignal⟩ := s.dev.views_jobQ r.val q
      exact ⟨_, rfl, record_signals hgives (Dev.cqPut_of_cqView hview (CqRec.words_eq ..)).symm hsignal⟩
  · exact (gives_recordWrite r s).congr (Dev.recordWrite_unreached h r.val)
  · exact ⟨fun hle hflag => (gives_cqCoalTimeout r s).congr (Dev.coalEnd_over ht hle hflag),
      fun hlt => (gives_cqCoalTimeout r s).congr (Dev.coalEnd_before ht hlt)⟩
  · exact (gives_cqCoalTimeout r s).congr (Dev.coalEnd_none ht)

end Sys2Proof.Machine
end


section
/-! PROOF. What no report of a fault source touches (R406, R409): a part of the device that each store of a reaction leaves alone stays as it is under every report. -/

namespace Sys2Proof.Machine

/-- A part of the device that job records, interrupts, strips and the stop trigger leave alone: registers, pending messages, outputs other than lamp frames, jobs, job records that
wait, strips and records of the Vintner loop, and the stop sequence. -/
structure Unlogged {α : Type} (π : Dev → α) : Prop where
  regs : ∀ (d : Dev) (r : RegFile), π { d with regs := r } = π d
  msix : ∀ (d : Dev) (l : List Msix), π { d with pwr := { d.pwr with msix := l } } = π d
  emit : ∀ (d : Dev) (o : Output), o.isLamp = false → π (d.emit o) = π d
  jobs : ∀ (d : Dev) (l : List (Nat × Job)), π { d with jobs := l } = π d
  jobQ : ∀ (d : Dev) (r : Nat) (q : List CqRec), π { d with rings := setAt d.rings r (fun g => { g with jobQ := g.jobQ ++ q }) } = π d
  vin : ∀ (d : Dev) (x : List Strip) (r : List VinRec), π { d with vin := { d.vin with strips := x, recs := r } } = π d
  stop : ∀ (d : Dev) (t : StopSt), π { d with fire := { d.fire with stop := t } } = π d

/-- Such a part that does not hold the cameras and contexts, the DRAM channels and the collector either. -/
structure Unfenced {α : Type} (π : Dev → α) : Prop extends Unlogged π where
  cam : ∀ (d : Dev) (l : List CamSt), π { d with cam := l } = π d
  isp : ∀ (d : Dev) (l : List IspCtx), π { d with isp := l } = π d
  ddr : ∀ (d : Dev) (x : DdrSt), π { d with ddr := x } = π d
  flt : ∀ (d : Dev) (f : FltSt), π { d with flt := f } = π d

/-- Such a part that inhibits and ports that go down leave alone. -/
structure Steady {α : Type} (π : Dev → α) : Prop extends Unlogged π where
  ports : ∀ (d : Dev) (l : List HlkPort), π { d with ports := l } = π d

/-- Such a part that does not hold the cameras and contexts either. -/
structure Still {α : Type} (π : Dev → α) : Prop extends Steady π where
  cam : ∀ (d : Dev) (l : List CamSt), π { d with cam := l } = π d
  isp : ∀ (d : Dev) (l : List IspCtx), π { d with isp := l } = π d

/-- Such a part that does not hold the DRAM channels and the collector either: the reactions leave it alone but for the lamp gate. -/
structure Undisturbed {α : Type} (π : Dev → α) : Prop extends Still π where
  ddr : ∀ (d : Dev) (x : DdrSt), π { d with ddr := x } = π d
  flt : ∀ (d : Dev) (f : FltSt), π { d with flt := f } = π d

/-- Such a part that does not hold the lamp channels either. -/
structure Untouched {α : Type} (π : Dev → α) : Prop extends Undisturbed π where
  chans : ∀ (d : Dev) (l : List LampCh), π { d with lamps := { d.lamps with chans := l } } = π d

namespace Unlogged

section
variable {α : Type} {π : Dev → α} (h : Unlogged π)
include h

theorem set (d : Dev) (f : Field) (v i j : Nat) : π (d.set f v i j) = π d := h.regs _ _
theorem bump (d : Dev) (f : Field) (i j n : Nat) : π (d.bump f i j n) = π d := h.regs _ _

theorem irq (d : Dev) (st en : Field) (k : Nat) (v : Option Field) (i : Nat) : π (d.irq st en k v i) = π d := by
  cases v with
  | none => exact h.regs _ _
  | some v =>
    simp only [Dev.irq]
    split
    · simp only [Dev.msixDue]
      split
      · exact (h.msix _ _).trans (h.regs _ _)
      · exact (h.emit _ _ rfl).trans (h.regs _ _)
    · exact h.regs _ _

theorem modJob (d : Dev) (i : Nat) (f : Job → Job) : π (d.modJob i f) = π d := h.jobs _ _
/-! ### Job records and defect ranges -/

theorem pushJobRec (d : Dev) (i t st ev c l : Nat) : π (d.pushJobRec i t st ev c l) = π d := by
  simp only [Dev.pushJobRec]
  split
  · exact h.jobQ _ _ _
  · exact h.bump _ _ _ _ _

theorem closeRange (d : Dev) (i : Nat) (g : DefectRange) : π (d.closeRange i g) = π d := by simp only [Dev.closeRange, h.pushJobRec, h.modJob]

theorem closeRanges (d : Dev) (i : Nat) (p : DefectRange → Bool) : π (d.closeRanges i p) = π d :=
  foldl_keeps π _ (fun _ _ => h.closeRange ..) _ _

theorem joinRange (d : Dev) (i b c l : Nat) : π (d.joinRange i b c l) = π d := by
  simp only [Dev.joinRange]
  split
  · split
    · rfl
    · split <;> simp only [h.modJob, h.closeRange]
  · exact h.modJob _ _ _

theorem addRange (d : Dev) (i b c l : Nat) : π (d.addRange i b c l) = π d := by
  have hothers : π ((d.jobs.filter (fun e => e.1 ≠ i)).foldl (fun d e => d.closeRanges e.1 (fun g => g.bar = b)) d) = π d :=
    foldl_keeps π _ (fun _ _ => h.closeRanges ..) _ _
  simp only [Dev.addRange]
  split <;> simpa only [h.closeRanges, h.joinRange] using hothers

/-! ### Lamps and the stop sequence -/

theorem lampMark (d : Dev) (c st : Nat) : π (d.lampMark c st) = π d := by
  simp only [Dev.lampMark]
  split
  · rfl
  · split <;> simp only [h.irq, h.set]

theorem stopVin (d : Dev) (t : StopSt) (x : List Strip) : π { d with fire := { d.fire with stop := t }, vin := { d.vin with strips := x } } = π d :=
  (h.vin { d with fire := { d.fire with stop := t } } x d.vin.recs).trans (h.stop d t)

theorem stopTrigger (d : Dev) (c : Nat) : π (d.stopTrigger c) = π d := by
  simp only [Dev.stopTrigger]
  split
  · rw [h.irq]
    exact h.stopVin _ _ _
  · exact h.stop _ _

/-! ### Cameras and the image pipeline -/

theorem vinKeep (d : Dev) (k : Nat) (f : CtxFrame) : π (d.vinKeep k f) = π d := by
  simp only [Dev.vinKeep]
  split
  · exact h.vin _ d.vin.strips _
  · rfl

theorem ringWrite (d : Dev) (kind unit base size wr : Nat) (b : List Nat) : π (d.ringWrite kind unit base size wr b) = π d := by
  simp only [Dev.ringWrite]
  split
  · exact h.emit _ _ rfl
  · exact (h.emit _ _ rfl).trans (h.emit _ _ rfl)

theorem ringRecord {d e : Dev} {kind unit base size wr rd n : Nat} {b : List Nat} (hr : d.ringRecord kind unit base size wr rd b = some (e, n)) : π e = π d := by
  simp only [Dev.ringRecord] at hr
  split at hr
  · simp only [Option.some.injEq, Prod.mk.injEq] at hr
    rw [← hr.1, h.ringWrite]
  · cases hr

theorem ctxFrameEnd (d : Dev) (k : Nat) (f : CtxFrame) : π (d.ctxFrameEnd k f) = π d := by
  have hlost : ∀ e : Dev, π (if f.dropped ≠ 0 then (e.bump F.ISP_K_CNT_INCOMPLETE k).irq F.ISP_IRQ_STAT F.ISP_IRQ_EN (8 + k) (some F.ISP_VEC) else e) = π e :=
    fun e => by split <;> simp only [h.irq, h.bump]
  simp only [Dev.ctxFrameEnd, h.vinKeep, hlost, h.irq]
  split
  · rfl
  · split
    · rename_i hr
      rw [h.set, h.ringRecord hr]
    · simp only [h.irq, h.bump]

theorem streamPut (d : Dev) (k j : Nat) (f : CtxFrame) (o : Nat) (a : IspAcc) : π (d.streamPut k j f o a).1 = π d := by
  simp only [Dev.streamPut]
  split
  · rfl
  · split
    · rename_i hr
      rw [h.set, h.ringRecord hr]
    · simp only [Dev.streamLost, h.irq, h.bump]

theorem ctlDown (hc : ∀ (d : Dev) (l : List CamSt), π { d with cam := l } = π d) (d : Dev) (n : Nat) : π (d.ctlDown n) = π d := by
  have hcam (e : Dev) (f : CamSt → CamSt) : π (e.modCam n f) = π e := hc _ _
  simp only [Dev.ctlDown]
  split
  · simp only [Dev.ctlEnd, h.irq, hcam, h.set]
  · rfl

theorem cutFrame (hf : ∀ (d : Dev) (f : FltSt), π { d with flt := f } = π d) (d : Dev) (k : Nat) (f : CtxFrame) : π (d.cutFrame k f) = π d := by
  have howe (e : Dev) (s : Nat) : π (e.owe s) = π e := hf _ _
  simp only [Dev.cutFrame]
  split
  · rw [howe, h.ctxFrameEnd, foldl_keeps (fun x : Dev × CtxFrame => π x.1) _ (fun _ _ => by split <;> simp only [h.streamPut])]
  · rw [h.ctxFrameEnd, foldl_keeps (fun x : Dev × CtxFrame => π x.1) _ (fun _ _ => by split <;> simp only [h.streamPut])]

theorem endCtxFrames (hf : ∀ (d : Dev) (f : FltSt), π { d with flt := f } = π d) (hi : ∀ (d : Dev) (l : List IspCtx), π { d with isp := l } = π d) (d : Dev) (n : Nat) :
    π (d.endCtxFrames n) = π d :=
  foldl_keeps π _ (fun _ _ => (hi ..).trans (foldl_keeps π _ (fun _ _ => h.cutFrame hf ..) _ _)) _ _

theorem fltIrq (d : Dev) (k : Nat) : π (d.fltIrq k) = π d := h.irq ..

theorem lampGate (hc : ∀ (d : Dev) (l : List LampCh), π { d with lamps := { d.lamps with chans := l } } = π d) (d : Dev) : π d.lampGate = π d := by
  simp only [Dev.lampGate]
  split
  · exact foldl_keeps π _ (fun e c => by
      split
      · have hlamps : (e.lampMark c 5).lamps = e.lamps := by
          simp only [Dev.lampMark]
          split
          · rfl
          · split <;> rfl
        rw [← hlamps]
        exact (hc _ _).trans (h.lampMark _ _ _)
      · rfl) _ _
  · rfl

end

end Unlogged

namespace Steady

section
variable {α : Type} {π : Dev → α} (h : Steady π)
include h

theorem modPort (d : Dev) (p : Nat) (f : HlkPort → HlkPort) : π (d.modPort p f) = π d := h.ports _ _
theorem modTx (d : Dev) (p : Nat) (f : LaneTx → LaneTx) : π (d.modTx p f) = π d := h.ports _ _

/-! ### Lanes and ports -/

theorem onLane (d : Dev) (p : Nat) : OnLane (fun e => π e = π d) p where
  emit _ ho he := (h.emit _ _ ho).trans he
  port _ _ he := (h.ports ..).trans he

theorem laneSend (d : Dev) (p t : Nat) (w : List Nat) : π (d.laneSend p t w) = π d := (h.onLane d p).laneSend rfl t w
theorem laneAbort (d : Dev) (p : Nat) : π (d.laneAbort p) = π d := (h.onLane d p).laneAbort rfl
theorem laneDrain (d : Dev) (p : Nat) : π (d.laneDrain p) = π d := (h.onLane d p).laneDrain rfl
theorem laneOff (d : Dev) (p : Nat) : π (d.laneOff p) = π d := (h.onLane d p).laneOff rfl
theorem wakeLane (d : Dev) (p : Nat) : π (d.wakeLane p) = π d := (h.onLane d p).wakeLane rfl

theorem inhibitPort (d : Dev) (p r : Nat) : π (d.inhibitPort p r) = π d := by
  simp only [Dev.inhibitPort, h.modPort]
  rw [foldl_keeps π]
  · simp only [h.laneSend, h.laneAbort]
  · intro a b
    split <;> simp only [h.addRange]

theorem inhibitAll (d : Dev) : π d.inhibitAll = π d :=
  foldl_keeps π _ (fun _ _ => by split <;> simp only [h.inhibitPort]) _ _

theorem memDone (d : Dev) (p st : Nat) : π (d.memDone p st) = π d := by simp only [Dev.memDone, h.irq, h.set]

theorem leavePort (d : Dev) (p r : Nat) (n : LinkState) (b : Bool) : π (d.leavePort p r n b) = π d := by
  simp only [Dev.leavePort, h.modTx, h.modPort]
  split <;> split <;> simp only [h.memDone, h.inhibitPort]

theorem disablePort (d : Dev) (p : Nat) (l : List (Nat × List Nat)) : π (d.disablePort p l) = π d := by
  simp only [Dev.disablePort]
  split
  · rfl
  · simp only [h.modPort, h.laneOff, h.laneDrain]
    rw [foldl_keeps π _ (fun _ _ => h.laneSend ..), h.leavePort, h.wakeLane]

theorem settle (hc : ∀ (d : Dev) (l : List LampCh), π { d with lamps := { d.lamps with chans := l } } = π d) (d e : Dev) : π (Dev.settle d e) = π e := by
  simp only [Dev.settle]
  split
  · rw [h.emit _ _ rfl]
    split <;> simp only [h.lampGate hc, h.inhibitAll]
  · split <;> simp only [h.lampGate hc, h.inhibitAll]

end

end Steady

namespace Unfenced

section
variable {α : Type} {π : Dev → α} (h : Unfenced π)
include h

theorem modCam (d : Dev) (n : Nat) (f : CamSt → CamSt) : π (d.modCam n f) = π d := h.cam _ _
theorem purge (d : Dev) (n : Nat) : π (d.purge n) = π d := h.cam _ _

theorem endCtxFrames (d : Dev) (n : Nat) : π (d.endCtxFrames n) = π d := h.toUnlogged.endCtxFrames h.flt h.isp d n

theorem stopCamera (d : Dev) (n : Nat) : π (d.stopCamera n) = π d := by
  simp only [Dev.stopCamera]
  split
  · rfl
  · simp only [h.modCam, h.endCtxFrames, h.ctlDown h.cam, h.set]

theorem stopIsp (d : Dev) : π d.stopIsp = π d :=
  foldl_keeps π _ (fun _ _ => (h.purge ..).trans (h.endCtxFrames ..)) _ _

theorem ddrFlt (d : Dev) (x : DdrSt) (f : FltSt) : π { d with ddr := x, flt := f } = π d := (h.flt { d with ddr := x } f).trans (h.ddr d x)

theorem fenceChannel (d : Dev) (c : Nat) : π (d.fenceChannel c) = π d := by
  simp only [Dev.fenceChannel]
  split
  · exact (h.ddrFlt ((d.set F.DDR_C_STAT_STATE 6 c).raiseBit F.DDR_STAT_FENCED c) _ _).trans ((h.regs _ _).trans (h.set ..))
  · rfl

end

end Unfenced

namespace Undisturbed

section
variable {α : Type} {π : Dev → α} (h : Undisturbed π)
include h

theorem unfenced : Unfenced π where
  toUnlogged := h.toUnlogged
  cam := h.cam
  isp := h.isp
  ddr := h.ddr
  flt := h.flt

theorem stopCamera (d : Dev) (n : Nat) : π (d.stopCamera n) = π d := h.unfenced.stopCamera d n
theorem stopIsp (d : Dev) : π d.stopIsp = π d := h.unfenced.stopIsp d
theorem fenceChannel (d : Dev) (c : Nat) : π (d.fenceChannel c) = π d := h.unfenced.fenceChannel d c

theorem fenceEffect (d : Dev) (u : FUnit) : π (d.fenceEffect u) = π d := by
  cases u with
  | ddr c => exact h.fenceChannel d c
  | port p => exact h.disablePort d p []
  | cam n => exact h.stopCamera d n
  | isp => exact h.stopIsp d
  | enc n => exact h.set ..
  | _ => rfl

theorem fenceUnits (d : Dev) (s i : Nat) : π (d.fenceUnits s i) = π d :=
  foldl_keeps π _ (fun _ _ => (h.fenceEffect _ _).trans (h.flt _ _)) _ _

theorem logPush (d : Dev) (e : LogEntry) : π (d.logPush e) = π d := by
  simp only [Dev.logPush]
  split
  · exact h.flt _ _
  · rw [h.fltIrq, h.bump, h.flt]

theorem unreport (d : Dev) (s i : Nat) : π (d.unreport s i) = π d := by
  simp only [Dev.unreport, Dev.noteFall]
  split
  · exact (h.flt _ _).trans (h.flt _ _)
  · exact h.flt _ _

end

end Undisturbed

namespace Untouched

section
variable {α : Type} {π : Dev → α} (h : Untouched π)
include h

theorem lampGate (d : Dev) : π d.lampGate = π d := h.toStill.lampGate h.chans d
theorem settle (d e : Dev) : π (Dev.settle d e) = π e := h.toStill.settle h.chans d e

/-- What such a part holds outlives a report. -/
theorem outlives (v : α) : Outlives (fun d => π d = v) where
  flt d f hd := (h.flt d f).trans hd
  overwrites _ hd := (h.bump ..).trans hd
  lastSrc _ _ hd := (h.set ..).trans hd
  irq _ _ hd := (h.fltIrq ..).trans hd
  fence d u hd := (h.fenceEffect d u).trans hd
  stop _ _ hd := (h.stopTrigger ..).trans hd
  settle d e hd := (h.settle d e).trans hd

/-- Such a part stays as it is under a report. -/
theorem report (d : Dev) (s i : Nat) : π (d.report s i) = π d := (h.outlives (π d)).report rfl s i

end

end Untouched

end Sys2Proof.Machine
end


section
/-! PROOF. The PCIe endpoint (R80, R81, R409, R434, R437): pending messages, its resets and its link. -/

namespace Sys2Proof.Machine

/-! ### Pending messages (R81) -/

/-- While a message cannot be sent nothing is. -/
theorem Dev.msixSend_held {d : Dev} (h : d.pwr.bme = false ∨ d.pwr.cfg.maskAll = true) (v : Nat) : d.msixSend v = d := by
  rcases h with h | h <;> simp [Dev.msixSend, h]

theorem Dev.msixSends_held {d : Dev} (h : d.pwr.bme = false ∨ d.pwr.cfg.maskAll = true) (l : List Nat) : l.foldl (fun d v => d.msixSend v) d = d := by
  induction l with
  | nil => rfl
  | cons v l ih => rw [List.foldl_cons, Dev.msixSend_held h, ih]

/-- A vector whose message may go holds none. -/
def Msix.freed (e : Msix) : Msix := if e.masked then e else { e with pending := false }

/-- The messages that may go of vectors counted from k. -/
def msixGoes (k : Nat) (l : List Msix) : List Output :=
  ((l.zipIdx k).filter (fun e => e.1.pending && !e.1.masked)).map (fun e => Output.msix e.2 (e.1.addrHi * 4294967296 + e.1.addrLo) e.1.data)

/-- A device with its vectors and its outputs changed. -/
def Dev.withMsix (d : Dev) (l : List Msix) (o : List Output) : Dev := { d with pwr := { d.pwr with msix := l }, outbox := o }

theorem Dev.msixSend_next {d : Dev} (hbme : d.pwr.bme = true) (hmask : d.pwr.cfg.maskAll = false) {pre post : List Msix} {e : Msix} (hl : d.pwr.msix = pre ++ e :: post) :
    d.msixSend pre.length = d.withMsix (pre ++ e.freed :: post) (d.outbox ++ msixGoes pre.length [e]) := by
  have hget : d.pwr.msix.getD pre.length {} = e := by rw [hl]; simp
  unfold Dev.msixSend
  rw [hget, hbme, hmask]
  cases hm : e.masked with
  | true =>
    have hgo : msixGoes pre.length [e] = [] := by simp [msixGoes, hm]
    have hlet : e.freed = e := by simp [Msix.freed, hm]
    rw [hgo, hlet, ← hl, List.append_nil]
    simp [Dev.withMsix, hm]
  | false =>
    cases hp : e.pending with
    | false =>
      have hgo : msixGoes pre.length [e] = [] := by simp [msixGoes, hp]
      have hlet : e.freed = e := by
        obtain ⟨lo, hi, data, masked, pending⟩ := e
        simp only at hp
        simp [Msix.freed, hp]
      rw [hgo, hlet, ← hl, List.append_nil]
      simp [Dev.withMsix, hp]
    | true =>
      have hgo : msixGoes pre.length [e] = [.msix pre.length (e.addrHi * 4294967296 + e.addrLo) e.data] := by simp [msixGoes, hp, hm]
      have hlet : e.freed = { e with pending := false } := by simp [Msix.freed, hm]
      have hset : setAt d.pwr.msix pre.length (fun e => { e with pending := false }) = pre ++ e.freed :: post := by rw [hl, hlet]; exact setAt_middle ..
      rw [hgo, ← hset]
      simp [Dev.withMsix, Dev.modPwr, Dev.emit, hm, hp]

theorem Dev.msixSends {post : List Msix} : ∀ {pre : List Msix} {d : Dev}, d.pwr.bme = true → d.pwr.cfg.maskAll = false → d.pwr.msix = pre ++ post →
    (List.range' pre.length post.length).foldl (fun d v => d.msixSend v) d = d.withMsix (pre ++ post.map Msix.freed) (d.outbox ++ msixGoes pre.length post) := by
  induction post with
  | nil =>
    intro pre d _ _ hl
    rw [List.append_nil] at hl
    simp [msixGoes, Dev.withMsix, ← hl]
  | cons e post ih =>
    intro pre d hbme hmask hl
    have hstep := Dev.msixSend_next hbme hmask hl
    have hrest := ih (pre := pre ++ [e.freed]) (d := d.withMsix (pre ++ e.freed :: post) (d.outbox ++ msixGoes pre.length [e])) hbme hmask (by simp [Dev.withMsix])
    rw [List.length_append, List.length_singleton] at hrest
    rw [List.length_cons, List.range'_succ, List.foldl_cons, hstep, hrest]
    have hgoes : msixGoes pre.length (e :: post) = msixGoes pre.length [e] ++ msixGoes (pre.length + 1) post := by
      simp only [msixGoes, List.zipIdx_cons, List.zipIdx_nil, List.filter_cons, List.filter_nil]
      split <;> simp
    rw [hgoes]
    simp [Dev.withMsix]

/-- The host writes Bus Master Enable. -/
def Dev.busMaster (d : Dev) (on : Bool) : Dev :=
  if d.pwr.link then (List.range 64).foldl (fun d v => d.msixSend v) (d.modPwr (fun p => { p with bme := on })) else d

/-- The host unmasks a vector. -/
def Dev.unmask (d : Dev) (v : Nat) : Dev :=
  if d.pwr.link then (d.modPwr (fun p => { p with msix := setAt p.msix v (fun (e : Msix) => { e with masked := false }) })).msixSend v else d

theorem gives_busMaster (s : State) (on : Bool) : Gives (.busMasterEnable on) s (s.dev.busMaster on) := rfl

theorem gives_unmask (s : State) (v : Fin 64) : Gives (.msixVectorUnmask v) s (s.dev.unmask v.val) := rfl

theorem Dev.busMaster_held {d : Dev} (hlink : d.pwr.link = true) {on : Bool} (h : on = false ∨ d.pwr.cfg.maskAll = true) :
    d.busMaster on = { d with pwr := { d.pwr with bme := on } } := by
  rw [Dev.busMaster, if_pos hlink]
  exact Dev.msixSends_held h _

theorem Dev.busMaster_sends {d : Dev} (hlink : d.pwr.link = true) (hmask : d.pwr.cfg.maskAll = false) (hlen : d.pwr.msix.length = 64) :
    d.busMaster true = ({ d with pwr := { d.pwr with bme := true } } : Dev).withMsix (d.pwr.msix.map Msix.freed) (d.outbox ++ msixGoes 0 d.pwr.msix) := by
  have h := Dev.msixSends (d := d.modPwr (fun p => { p with bme := true })) (pre := []) (post := d.pwr.msix) rfl hmask rfl
  rw [Dev.busMaster, if_pos hlink, List.range_eq_range', ← hlen]
  exact h

theorem Dev.busMaster_unlinked {d : Dev} (h : d.pwr.link = false) (on : Bool) : d.busMaster on = d := if_neg (by rw [h]; decide)

theorem Dev.unmask_unlinked {d : Dev} (h : d.pwr.link = false) (v : Nat) : d.unmask v = d := if_neg (by rw [h]; decide)

theorem setAt_eq_set {α : Type} {l : List α} {n : Nat} {e : α} (h : l[n]? = some e) (f : α → α) : setAt l n f = setAt l n (fun _ => f e) := by
  refine List.ext_getElem? fun k => ?_
  simp only [setAt, List.getElem?_modify]
  by_cases hk : n = k
  · subst hk
    simp [h]
  · simp [hk]

theorem getD_setAt_of {α : Type} {l : List α} {n : Nat} {e : α} (h : l[n]? = some e) (f : α → α) (x : α) : (setAt l n f).getD n x = f e := by
  obtain ⟨hn, he⟩ := List.getElem?_eq_some_iff.mp h
  rw [getD_setAt, if_pos ⟨rfl, hn⟩, List.getD_eq_getElem _ _ hn, he]

theorem Dev.unmask_sends {d : Dev} {v : Nat} {e : Msix} (hlink : d.pwr.link = true) (he : d.pwr.msix[v]? = some e) (hbme : d.pwr.bme = true)
    (hmask : d.pwr.cfg.maskAll = false) (hp : e.pending = true) :
    d.unmask v = ({ d with pwr := { d.pwr with msix := setAt d.pwr.msix v (fun _ => { e with masked := false, pending := false }) } } : Dev).emit
      (.msix v (e.addrHi * 4294967296 + e.addrLo) e.data) := by
  have hget := getD_setAt_of he (fun (e : Msix) => { e with masked := false }) {}
  have hset : setAt (setAt d.pwr.msix v (fun (e : Msix) => { e with masked := false })) v (fun (e : Msix) => { e with pending := false }) =
      setAt d.pwr.msix v (fun _ => { e with masked := false, pending := false }) :=
    (List.modify_modify_eq _ _ v _).trans (setAt_eq_set he _)
  rw [Dev.unmask, if_pos hlink, Dev.msixSend]
  simp only [Dev.modPwr, hget, hbme, hmask, hp, hset]
  rfl

theorem Dev.unmask_holds {d : Dev} {v : Nat} {e : Msix} (hlink : d.pwr.link = true) (he : d.pwr.msix[v]? = some e)
    (h : d.pwr.bme = false ∨ d.pwr.cfg.maskAll = true ∨ e.pending = false) :
    d.unmask v = { d with pwr := { d.pwr with msix := setAt d.pwr.msix v (fun _ => { e with masked := false }) } } := by
  have hget := getD_setAt_of he (fun (e : Msix) => { e with masked := false }) {}
  rw [Dev.unmask, if_pos hlink, ← setAt_eq_set he (fun (e : Msix) => { e with masked := false }), Dev.msixSend]
  simp only [Dev.modPwr, hget]
  rcases h with h | h | h <;> simp [h]

/-! ### A reset of the endpoint (R81, R434) -/

/-- A ring that is disabled and at rest. -/
def Dev.RingOff (d : Dev) (r : Nat) : Prop := d.get F.SLU_R_CTRL_ENABLE r = 0 ∧ (d.ring r).active = false ∧ (d.ring r).draining = false

theorem Dev.ring_modRing_ne {d : Dev} {r k : Nat} (h : r ≠ k) (f : RingSt → RingSt) : (d.modRing k f).ring r = d.ring r := by
  simp only [Dev.modRing, Dev.ring, getD_setAt, h, false_and, if_false]

theorem Dev.ringOff_ringStop (d : Dev) (r : Nat) : (d.ringStop r).RingOff r := by
  obtain ⟨regs, heq, henable, -⟩ := d.ringStop_leaves r
  refine ⟨henable, ?_⟩
  rw [heq]
  have hring := getD_setAt d.rings r r (fun g => { g with active := false, draining := false }) {}
  by_cases hr : r < d.rings.length
  · rw [if_pos ⟨rfl, hr⟩] at hring
    exact ⟨congrArg RingSt.active hring, congrArg RingSt.draining hring⟩
  · rw [if_neg (fun h => hr h.2), List.getD_eq_default _ _ (Nat.le_of_not_lt hr)] at hring
    exact ⟨congrArg RingSt.active hring, congrArg RingSt.draining hring⟩

theorem enable_notMem_ringStop {r k : Nat} (hr : r < 8) (hk : k < 8) (hne : r ≠ k) :
    F.SLU_R_CTRL_ENABLE.key r 0 ∉ ringStopFields.map (fun f => f.key k 0) := by
  have hall : ∀ a b : Fin 8, a ≠ b → F.SLU_R_CTRL_ENABLE.key a 0 ∉ ringStopFields.map (fun f => f.key b 0) := by decide +kernel
  exact hall ⟨r, hr⟩ ⟨k, hk⟩ (fun h => hne (congrArg Fin.val h))

theorem Dev.RingOff.ringStop {d : Dev} {r k : Nat} (h : d.RingOff r) (hr : r < 8) (hk : k < 8) (hne : r ≠ k) : (d.ringStop k).RingOff r := by
  obtain ⟨henable, hactive, hdraining⟩ := h
  obtain ⟨regs, heq, -, -, -, -, -, -, -, hsame⟩ := d.ringStop_leaves k
  have hring : (d.ringStop k).ring r = d.ring r := by
    rw [heq]
    exact Dev.ring_modRing_ne hne _
  exact ⟨(hsame F.SLU_R_CTRL_ENABLE r 0 (enable_notMem_ringStop hr hk hne)).trans henable, by rw [hring, hactive], by rw [hring, hdraining]⟩

/-- The first rings stopped. -/
def Dev.ringsStop (d : Dev) (n : Nat) : Dev := (List.range n).foldl (fun d r => d.ringStop r) d

theorem Dev.ringsStop_succ (d : Dev) (n : Nat) : d.ringsStop (n + 1) = (d.ringsStop n).ringStop n := by
  simp only [Dev.ringsStop, List.range_succ, List.foldl_append, List.foldl_cons, List.foldl_nil]

theorem Dev.ringOff_ringsStop (d : Dev) {n : Nat} (hn : n ≤ 8) : ∀ r < n, (d.ringsStop n).RingOff r := by
  induction n with
  | zero => exact fun r hr => absurd hr (Nat.not_lt_zero r)
  | succ n ih =>
    intro r hr
    rw [Dev.ringsStop_succ]
    rcases Nat.lt_succ_iff_lt_or_eq.mp hr with hlt | rfl
    · exact (ih (by omega) r hlt).ringStop (by omega) (by omega) (by omega)
    · exact Dev.ringOff_ringStop _ _

/-- What a reset of the endpoint leaves (R81). -/
def State.EndpointReset (s : State) (d : Dev) : Prop :=
  { d.pwr with link := s.dev.pwr.link, linkGen := s.dev.pwr.linkGen, linkLanes := s.dev.pwr.linkLanes, msix := [] } =
    { s.dev.pwr with bme := false, cfg := {}, msix := [] } ∧
  d.host = { s.dev.host with st := .closed, role := 0, chal := [], deadline := 0 } ∧ d.cellar = s.dev.cellar ∧ d.reads = [] ∧
  (∀ r < 8, d.get F.SLU_R_CTRL_ENABLE r = 0 ∧ (d.ring r).active = false ∧ (d.ring r).draining = false) ∧
  (∀ x ∈ d.descs, x.silent = true ∧ x.phase = .ended ∧ x.unacked ≠ []) ∧
  (d.mram, d.dram, d.check, d.tb, d.safe, d.bond, d.pos, d.spouts, d.raw, fun i => (d.job i).core) =
    (s.dev.mram, s.dev.dram, s.dev.check, s.dev.tb, s.dev.safe, s.dev.bond, s.dev.pos, s.dev.spouts, s.dev.raw, fun i => (s.dev.job i).core)

/-- The endpoint reset, from the device with its rings stopped. -/
def Dev.endpointCleared (d : Dev) : Dev :=
  ({ d with host := d.host.closed d.host.refused, pwr := { d.pwr with bme := false, cfg := {}, msix := List.replicate 64 {} }, reads := [],
            descs := d.descs.map (fun (x : Desc) => { x with silent := true, phase := .ended, got := [] }) } : Dev).sweep

theorem Dev.pcieReset_eq (d : Dev) : d.pcieReset = (d.ringsStop 8).endpointCleared := rfl

theorem Dev.descs_endpointCleared {d : Dev} {x : Desc} (h : x ∈ d.endpointCleared.descs) : x.silent = true ∧ x.phase = .ended ∧ x.unacked ≠ [] := by
  obtain ⟨hmem, hkeep⟩ := List.mem_filter.mp h
  obtain ⟨y, -, rfl⟩ := List.mem_map.mp hmem
  exact ⟨rfl, rfl, by simpa using hkeep⟩

/-- The parts of a device that a reset of the endpoint takes over or sets, but for its registers and rings. -/
def Dev.endpointParts (d : Dev) :=
  ((d.pwr, d.host, d.cellar, d.pins, d.flt), (d.mram, d.dram, d.check, d.tb, d.safe, d.bond, d.pos, d.spouts, d.raw, fun i => (d.job i).core))

theorem Dev.endpointParts_ringStop (d : Dev) (r : Nat) : (d.ringStop r).endpointParts = d.endpointParts := by
  obtain ⟨regs, heq, -⟩ := d.ringStop_leaves r
  rw [heq]
  rfl

theorem Dev.endpointParts_ringsStop (d : Dev) (n : Nat) : (d.ringsStop n).endpointParts = d.endpointParts :=
  foldl_keeps Dev.endpointParts _ Dev.endpointParts_ringStop _ _

theorem State.endpointReset_pcieReset {s : State} {d : Dev} (hpwr : d.pwr = s.dev.pwr) (hhost : d.host = s.dev.host) (hcellar : d.cellar = s.dev.cellar)
    (hrest : d.endpointParts.2 = s.dev.endpointParts.2) : s.EndpointReset d.pcieReset := by
  have hparts := d.endpointParts_ringsStop 8
  have hoff := d.ringOff_ringsStop (Nat.le_refl 8)
  rw [Dev.pcieReset_eq]
  generalize d.ringsStop 8 = e at hparts hoff ⊢
  have hp : e.pwr = s.dev.pwr := (congrArg (fun x => x.1.1) hparts).trans hpwr
  have hh : e.host = s.dev.host := (congrArg (fun x => x.1.2.1) hparts).trans hhost
  have hc : e.cellar = s.dev.cellar := (congrArg (fun x => x.1.2.2.1) hparts).trans hcellar
  refine ⟨congrArg (fun p : PowerSt => { p with link := s.dev.pwr.link, linkGen := s.dev.pwr.linkGen, linkLanes := s.dev.pwr.linkLanes, bme := false, cfg := {}, msix := [] }) hp,
    congrArg (fun x : Session => x.closed x.refused) hh, hc, rfl, hoff, fun _ => Dev.descs_endpointCleared, ?_⟩
  exact (congrArg (fun x => x.2) hparts).trans hrest

/-- The flags of the rings that a stop clears. -/
def Dev.ringFlags (d : Dev) : List (Bool × Bool) := d.rings.map (fun g => (g.active, g.draining))

theorem Untouched.ringFlags : Untouched Dev.ringFlags where
  regs _ _ := rfl
  msix _ _ := rfl
  emit _ _ _ := rfl
  ports _ _ := rfl
  jobs _ _ := rfl
  jobQ d r _ := map_setAt _ d.rings r (fun _ => rfl)
  cam _ _ := rfl
  isp _ _ := rfl
  vin _ _ _ := rfl
  chans _ _ := rfl
  ddr _ _ := rfl
  flt _ _ := rfl
  stop _ _ := rfl

theorem Dev.ring_of_ringFlags {d e : Dev} (h : e.ringFlags = d.ringFlags) (r : Nat) :
    (e.ring r).active = (d.ring r).active ∧ (e.ring r).draining = (d.ring r).draining := by
  have hpair (d : Dev) : d.ringFlags.getD r (false, false) = ((d.ring r).active, (d.ring r).draining) := by
    simp only [Dev.ringFlags, Dev.ring, List.getD_eq_getElem?_getD, List.getElem?_map]
    cases d.rings[r]? <;> rfl
  have heq := (hpair e).symm.trans ((congrArg (fun l => l.getD r (false, false)) h).trans (hpair d))
  exact Prod.mk.injEq .. ▸ heq

theorem State.EndpointReset.report {s : State} {d : Dev} (h : s.EndpointReset d) (src : Nat) : s.EndpointReset (d.report src) := by
  obtain ⟨hpwr, hhost, hcellar, hreads, hrings, hdescs, hrest⟩ := h
  have hfix := Dev.fixed_report d src 0
  refine ⟨?_, (Dev.host_of_fixed hfix).trans hhost, (Dev.cellar_of_fixed hfix).trans hcellar, (Dev.reads_of_fixed hfix).trans hreads, fun r hr => ?_, ?_, ?_⟩
  · exact (congrArg (fun p : PowerSt => { p with link := s.dev.pwr.link, linkGen := s.dev.pwr.linkGen, linkLanes := s.dev.pwr.linkLanes }) (Dev.pwr_of_fixed hfix)).trans hpwr
  · obtain ⟨henable, hactive, hdraining⟩ := hrings r hr
    obtain ⟨ha, hd⟩ := Dev.ring_of_ringFlags (Untouched.ringFlags.report d src 0) r
    exact ⟨(Dev.get_report d src 0 (by decide) hr (by decide)).trans henable, ha.trans hactive, hd.trans hdraining⟩
  · rw [Dev.descs_of_fixed hfix]
    exact hdescs
  · rw [Dev.mram_of_fixed hfix, Dev.dram_of_fixed hfix, Dev.check_of_fixed hfix, Dev.tb_of_fixed hfix, Dev.safe_of_fixed hfix, Dev.bond_of_fixed hfix,
      Dev.pos_of_fixed hfix, Dev.spouts_of_fixed hfix, Dev.raw_of_fixed hfix]
    simp only [Dev.jobCore_of_fixed hfix]
    exact hrest

/-! ### The link (R409, R437) -/

/-- The device with its link down. -/
def Dev.unlinked (d : Dev) : Dev := { d with pwr := { d.pwr with link := false, linkGen := 0, linkLanes := 0 } }

theorem Dev.dropLink_up {d : Dev} (h : d.pwr.link = true) : d.dropLink = d.unlinked.report 89 := if_pos h

theorem Dev.dropLink_down {d : Dev} (h : d.pwr.link = false) : d.dropLink = d := if_neg (by rw [h]; decide)

theorem Dev.pwr_unreport (d : Dev) (src : Nat) : (d.unreport src).pwr = d.pwr := by
  simp only [Dev.unreport, Dev.noteFall]
  split <;> rfl

/-- PERST# as it is. -/
def Dev.withPerst (d : Dev) (level : Bool) : Dev := { d with pins := { d.pins with perst := level } }

/-- PERST# is asserted. -/
def Dev.perstDown (d : Dev) : Dev := if d.pwr.st = .on then (d.withPerst false).pcieReset.dropLink else d.withPerst false

theorem gives_perstAssert (s : State) : Gives .perstAssert s s.dev.perstDown := rfl

theorem gives_functionLevelReset (s : State) : Gives .functionLevelReset s (if s.dev.pwr.st = .on && s.dev.pwr.link then s.dev.pcieReset else s.dev) := rfl

theorem gives_perstDeassert (s : State) : Gives .perstDeassert s (s.dev.withPerst true).trainLink := rfl

theorem gives_pcieLinkDown (s : State) : Gives .pcieLinkDown s (if s.dev.pwr.st = .on then s.dev.dropLink else s.dev) := rfl

theorem State.EndpointReset.dropLink {s : State} {d : Dev} (h : s.EndpointReset d) : s.EndpointReset d.dropLink := by
  unfold Dev.dropLink
  split
  · exact State.EndpointReset.report (d := d.unlinked) h 89
  · exact h

theorem Dev.endpointParts_pcieReset (d : Dev) : d.pcieReset.pins = d.pins ∧ d.pcieReset.flt = d.flt ∧ d.pcieReset.pwr.link = d.pwr.link := by
  have hparts := d.endpointParts_ringsStop 8
  rw [Dev.pcieReset_eq]
  generalize d.ringsStop 8 = e at hparts ⊢
  exact ⟨congrArg (fun x => x.1.2.2.2.1) hparts, congrArg (fun x => x.1.2.2.2.2) hparts, congrArg (fun x => x.1.1.link) hparts⟩

theorem completes_perstAssert {s : State} (hon : s.dev.pwr.st = .on) :
    Completes .perstAssert s (fun d => s.EndpointReset d ∧ d.pins = { s.dev.pins with perst := false } ∧ d.pwr.link = false ∧
      (s.dev.pwr.link = true → d.pwr.linkGen = 0 ∧ d.pwr.linkLanes = 0 ∧ has d.flt.status (fkey 89 0) = true)) := by
  have hgives := (gives_perstAssert s).congr (if_pos hon)
  obtain ⟨hpins, -, hlink⟩ := (s.dev.withPerst false).endpointParts_pcieReset
  have hreset := State.endpointReset_pcieReset (s := s) (d := s.dev.withPerst false) rfl rfl rfl rfl
  generalize (s.dev.withPerst false).pcieReset = e at hgives hpins hlink hreset
  refine ⟨_, hgives, hreset.dropLink, ?_⟩
  cases hl : s.dev.pwr.link with
  | true =>
    rw [Dev.dropLink_up (hlink.trans hl)]
    have hpwr := Dev.pwr_of_fixed (Dev.fixed_report e.unlinked 89 0)
    exact ⟨(Dev.pins_of_fixed (Dev.fixed_report e.unlinked 89 0)).trans hpins, congrArg PowerSt.link hpwr,
      fun _ => ⟨congrArg PowerSt.linkGen hpwr, congrArg PowerSt.linkLanes hpwr, Dev.has_status_report _ 89 0 (by decide)⟩⟩
  | false =>
    rw [Dev.dropLink_down (hlink.trans hl)]
    exact ⟨hpins, hlink.trans hl, fun h => absurd h (by decide)⟩

theorem completes_functionLevelReset {s : State} (hon : s.dev.pwr.st = .on) (hlink : s.dev.pwr.link = true) :
    Completes .functionLevelReset s (fun d => s.EndpointReset d ∧ d.pwr.link = true ∧ d.pwr.msix = List.replicate 64 {} ∧ d.pins = s.dev.pins ∧ d.flt = s.dev.flt) := by
  obtain ⟨hpins, hflt, hl⟩ := s.dev.endpointParts_pcieReset
  exact ⟨_, (gives_functionLevelReset s).congr (if_pos (by simp [hon, hlink])), State.endpointReset_pcieReset rfl rfl rfl rfl, hl.trans hlink, rfl, hpins, hflt⟩

theorem Dev.linkUp_up {d : Dev} (h : d.pwr.link = true) : d.linkUp = d := if_pos h

theorem Dev.linkUp_down {d : Dev} (h : d.pwr.link = false) :
    d.linkUp = { d with free := d.free + 1, pwr := { d.pwr with link := true, linkGen := (Config.linkRate d.free).1.val + 1, linkLanes := 2 ^ (Config.linkRate d.free).2.val } } :=
  if_neg (by rw [h]; decide)

theorem completes_perstDeassert {s : State} (hon : s.dev.pwr.st = .on) (hbooted : s.dev.pwr.booted = true) :
    Completes .perstDeassert s (fun d => d.pins = { s.dev.pins with perst := true } ∧ d.pwr.link = true ∧
      (s.dev.pwr.link = false → d.pwr = { s.dev.pwr with link := true, linkGen := d.pwr.linkGen, linkLanes := d.pwr.linkLanes } ∧
        d.pwr.linkGen ∈ [1, 2, 3, 4, 5] ∧ d.pwr.linkLanes ∈ [1, 2, 4, 8, 16])) := by
  have htrain : (s.dev.withPerst true).trainLink = (s.dev.withPerst true).linkUp.unreport 89 :=
    if_pos (by simp [Dev.withPerst, hon, hbooted])
  refine ⟨_, (gives_perstDeassert s).congr htrain, ?_⟩
  have hpins := Dev.pins_of_fixed (Dev.fixed_unreport (s.dev.withPerst true).linkUp 89 0)
  have hpwr := (s.dev.withPerst true).linkUp.pwr_unreport 89
  simp only [hpins, hpwr]
  cases hl : s.dev.pwr.link with
  | true =>
    rw [Dev.linkUp_up (d := s.dev.withPerst true) hl]
    exact ⟨rfl, hl, fun h => absurd h (by decide)⟩
  | false =>
    rw [Dev.linkUp_down (d := s.dev.withPerst true) hl]
    have hrate : ∀ g : Fin 5, g.val + 1 ∈ [1, 2, 3, 4, 5] := by decide
    have hlanes : ∀ n : Fin 5, 2 ^ n.val ∈ [1, 2, 4, 8, 16] := by decide
    exact ⟨rfl, rfl, fun _ => ⟨rfl, hrate _, hlanes _⟩⟩

/-- Settles O42: the vectors one after the other, and the resets from the device with its rings stopped. -/
theorem endpointFollowsTheBus : Obligations.EndpointFollowsTheBus := by
  unfold Obligations.EndpointFollowsTheBus
  refine ⟨⟨?_, ?_, ?_, ?_, ?_⟩, ?_, ?_, ?_, ?_, ?_, ?_, ?_, ?_⟩
  · exact fun s hlink => (gives_busMaster s false).congr (Dev.busMaster_held hlink (.inl rfl))
  · exact fun s hlink hmask hlen => (gives_busMaster s true).congr (Dev.busMaster_sends hlink hmask hlen)
  · exact fun s hlink hmask => (gives_busMaster s true).congr (Dev.busMaster_held hlink (.inr hmask))
  · exact fun v s e hlink he => ⟨fun hbme hmask hp => (gives_unmask s v).congr (Dev.unmask_sends hlink he hbme hmask hp),
      fun h => (gives_unmask s v).congr (Dev.unmask_holds hlink he h)⟩
  · exact fun v b s hlink => ⟨(gives_unmask s v).congr (Dev.unmask_unlinked hlink v.val), (gives_busMaster s b).congr (Dev.busMaster_unlinked hlink b)⟩
  · exact fun s => completes_functionLevelReset
  · exact fun s => completes_perstAssert
  · exact fun s hoff => (gives_perstAssert s).congr (if_neg hoff)
  · intro s hoff
    refine (gives_functionLevelReset s).congr (if_neg ?_)
    rcases hoff with h | h <;> simp [h]
  · exact fun s => completes_perstDeassert
  · intro s hoff
    refine (gives_perstDeassert s).congr (if_neg ?_)
    rcases hoff with h | h <;> simp [Dev.withPerst, h]
  · exact fun s hon hlink => (gives_pcieLinkDown s).congr ((if_pos hon).trans (Dev.dropLink_up hlink))
  · intro s hoff
    refine (gives_pcieLinkDown s).congr ?_
    split
    · next hon => exact Dev.dropLink_down (hoff.elim (fun h => absurd hon h) id)
    · rfl

end Sys2Proof.Machine
end


section
/-! PROOF. The press timebase (R378, R380, R386, R390): corrections, rates and the source of the time in force. -/

namespace Sys2Proof.Machine

theorem fine_eq : fine = 2 ^ 32 := rfl

theorem Word.toNat_mod (w : Word) : w.toNat % 2 ^ 32 = w.toNat := Nat.mod_eq_of_lt w.isLt

theorem adjValue_eq (lo : Nat) (w : Word) : adjValue lo w.toNat = signed 64 (w.toNat * 2 ^ 32 + lo % 2 ^ 32) := by
  rw [adjValue, Word.toNat_mod]

/-! ### The time in force -/

theorem Dev.fineT_of {d e : Dev} (htb : e.tb = d.tb) (hraw : e.raw = d.raw) : e.fineT = d.fineT := by simp only [Dev.fineT, htb, hraw]

theorem Dev.fineT_set (d : Dev) (f : Field) (v i j : Nat) : (d.set f v i j).fineT = d.fineT := rfl

theorem Dev.fineT_of_fixed {d e : Dev} (h : e.fixed = d.fixed) : e.fineT = d.fineT := Dev.fineT_of (Dev.tb_of_fixed h) (Dev.raw_of_fixed h)

theorem Dev.fineT_rebase (d : Dev) (add : Nat) : (d.rebase add).fineT = d.fineT := by
  simp [Dev.rebase, Dev.fineT]

theorem Dev.fineT_stepT (d : Dev) (a : Int) : (d.stepT a).fineT = d.fineT + a := by
  simp only [Dev.stepT, Dev.fineT]
  omega

theorem Dev.followed_none {d : Dev} (h1 : d.get F.TB_STAT_IN_FORCE ≠ 1) (h2 : d.get F.TB_STAT_IN_FORCE ≠ 2) : d.followed = none := by
  unfold Dev.followed
  split
  · next h => exact absurd h h1
  · next h => exact absurd h h2
  · rfl

theorem Dev.followed_first {d : Dev} (h : d.get F.TB_STAT_IN_FORCE = 1) : d.followed = some 0 := by simp only [Dev.followed, h]

theorem Dev.followed_second {d : Dev} (h : d.get F.TB_STAT_IN_FORCE = 2) : d.followed = some 1 := by simp only [Dev.followed, h]

/-! ### Corrections of T (R380) -/

theorem gives_timeAdjust {s : State} {rq : Requester} (h : s.Ready rq 0) (w : Word) :
    Gives (.timeAdjust rq w) s (s.dev.adjust (signed 64 (w.toNat * 2 ^ 32 + s.dev.get F.TB_ADJ % 2 ^ 32))) :=
  Gives.congr (congrArg Host.Outcome.next (State.roleWrite_plain h (.timeAdjust rq w) 0xD0054 none _ _ (by decide) rfl rfl))
    (congrArg s.dev.adjust (adjValue_eq _ w))

theorem Dev.adjust_following {d : Dev} (h : d.get F.TB_STAT_IN_FORCE = 1 ∨ d.get F.TB_STAT_IN_FORCE = 2) (a : Int) : d.adjust a = d := by
  rcases h with h | h
  · simp only [Dev.adjust, Dev.followed_first h]
  · simp only [Dev.adjust, Dev.followed_second h]

section
variable {d : Dev} {a : Int}

theorem Dev.adjust_small (hf : d.followed = none) (ha : a.natAbs ≤ d.get F.TB_CFG_JUMP_LIMIT) :
    d.adjust a = { d with tb := { d.tb with pend := d.tb.pend + a * 2 ^ 32, refused := false } } := by
  simp only [Dev.adjust, hf, if_pos ha]
  rfl

theorem Dev.adjust_forced (hf : d.followed = none) (ha : d.get F.TB_CFG_JUMP_LIMIT < a.natAbs) (hforce : d.tb.force = true) (harmed : d.anyArmed = false) :
    d.adjust a = ({ d with tb := { d.tb with force := false } } : Dev).stepT (a * 2 ^ 32) := by
  simp only [Dev.adjust, hf, if_neg (Nat.not_le.mpr ha), hforce, harmed]
  rfl

theorem Dev.adjust_refused (hf : d.followed = none) (ha : d.get F.TB_CFG_JUMP_LIMIT < a.natAbs) (h : d.tb.force = false ∨ d.anyArmed = true) :
    d.adjust a = d.report 303 := by
  simp only [Dev.adjust, hf, if_neg (Nat.not_le.mpr ha)]
  rcases h with h | h <;> simp [h]

end

theorem completes_timeAdjust_forced {s : State} {rq : Requester} (h : s.Ready rq 0) {w : Word} {a : Int}
    (ha : a = signed 64 (w.toNat * 2 ^ 32 + s.dev.get F.TB_ADJ % 2 ^ 32)) (hf : s.dev.followed = none) (hbig : s.dev.get F.TB_CFG_JUMP_LIMIT < a.natAbs)
    (hforce : s.dev.tb.force = true) (harmed : s.dev.anyArmed = false) :
    Completes (.timeAdjust rq w) s (fun d => d = ({ s.dev with tb := { s.dev.tb with force := false } } : Dev).stepT (a * 2 ^ 32) ∧
      d.fineT = s.dev.fineT + a * 2 ^ 32 ∧ d.tb.force = false ∧ d.regs = s.dev.regs) := by
  have hgives := (ha ▸ gives_timeAdjust h w).congr (Dev.adjust_forced hf hbig hforce harmed)
  exact ⟨_, hgives, rfl, Dev.fineT_stepT _ _, rfl, rfl⟩

/-! ### CAPTURE and FORCE -/

/-- R, T and the domains' times latched (R390). -/
def Dev.timesCaptured (d : Dev) : Dev :=
  (((((d.set F.TB_CAP_RAW d.raw).set F.TB_CAP_T d.T).set F.TB_CAP_D (d.domT 0 / 2 ^ 32).toNat 0).set F.TB_CAP_D (d.domT 1 / 2 ^ 32).toNat 1).set
    F.TB_CMD_CODE 0).set F.TB_CMD_DONE 1

theorem gives_timeCapture {s : State} {rq : Requester} (h : s.Ready rq 0) : Gives (.timeCapture rq) s s.dev.timesCaptured := by
  simp only [Gives, exec, execTimeCapture]
  rw [State.row_none h _ _ _ _ _ (by decide) (by cases rq <;> decide +kernel) (by decide) (by decide) (by decide)]
  rfl

/-- A FORCE answers, and arms nothing while a context is ARMED or RUNNING. -/
theorem Dev.forceCmd_eq (d : Dev) {arm : Dev → Dev} (harm : (arm (d.set F.TB_CMD_DONE 1)) = (arm d).set F.TB_CMD_DONE 1) :
    d.forceCmd arm = ((if d.anyArmed then d else arm d).set F.TB_CMD_DONE 1).set F.TB_CMD_CODE (if d.anyArmed then 1 else 0) := by
  have h : d.forceCmd arm = if d.anyArmed then (d.set F.TB_CMD_DONE 1).set F.TB_CMD_CODE 1 else (arm (d.set F.TB_CMD_DONE 1)).set F.TB_CMD_CODE 0 := rfl
  rw [h, harm]
  split <;> rfl

theorem Dev.touch_anyArmed (d : Dev) (rq : Requester) : (d.touch rq).anyArmed = d.anyArmed := by
  obtain h | ⟨x, h⟩ := d.touch_cases rq <;> rw [h]
  cases rq <;> rfl

theorem Dev.setSession_withTb (d : Dev) (rq : Requester) (x : Session) (f : TbSt → TbSt) :
    ({ d.setSession rq x with tb := f (d.setSession rq x).tb } : Dev) = ({ d with tb := f d.tb } : Dev).setSession rq x := by
  cases rq <;> rfl

theorem Dev.touch_withTb (d : Dev) (rq : Requester) (f : TbSt → TbSt) :
    ({ d.touch rq with tb := f (d.touch rq).tb } : Dev) = ({ d with tb := f d.tb } : Dev).touch rq := by
  have hsession : ({ d with tb := f d.tb } : Dev).session rq = d.session rq := by cases rq <;> rfl
  by_cases h : (d.session rq).st = .opened
  · have hget : ({ d with tb := f d.tb } : Dev).get F.ROLE_SESS_CTRL_IDLE_TIME (bankOf rq) = d.get F.ROLE_SESS_CTRL_IDLE_TIME (bankOf rq) := rfl
    have hraw : ({ d with tb := f d.tb } : Dev).raw = d.raw := rfl
    rw [Dev.touch_opened h, Dev.touch_opened (hsession ▸ h), hsession, hget, hraw]
    exact Dev.setSession_withTb ..
  · simp only [Dev.touch, hsession, h, if_false]

/-- A FORCE of an INSTALLER, which leaves one audit entry. -/
theorem Dev.forceCmd_touch (d : Dev) (rq : Requester) (f : TbSt → TbSt) :
    (d.touch rq).forceCmd (fun d => { d with tb := f d.tb }) =
      (((if d.anyArmed then d else { d with tb := f d.tb } : Dev).set F.TB_CMD_DONE 1).set F.TB_CMD_CODE (if d.anyArmed then 1 else 0)).touch rq := by
  rw [Dev.forceCmd_eq _ rfl, Dev.touch_anyArmed, Dev.touch_withTb, Dev.touch_set _ _ (by intro q; cases q <;> decide), Dev.touch_set _ _ (by intro q; cases q <;> decide)]
  split <;> rfl

theorem givesAudited_timeForce {s : State} {rq : Requester} (h : s.Ready rq 2) :
    GivesAudited (.timeForce rq) s rq 0xD0058 (((if s.dev.anyArmed then s.dev else { s.dev with tb := { s.dev.tb with force := true } } : Dev).set
      F.TB_CMD_DONE 1).set F.TB_CMD_CODE (if s.dev.anyArmed then 1 else 0) |>.touch rq) := by
  rw [← Dev.forceCmd_touch s.dev rq (fun t => { t with force := true })]
  obtain ⟨old, new, hrow⟩ := State.row_audited h (.timeForce rq) 0xD0058 2 ⟨1, some .installer⟩
    (fun d => d.forceCmd (fun d => { d with tb := { d.tb with force := true } })) (by decide) (by cases rq <;> decide +kernel) (by decide) (by decide) (by decide)
  exact ⟨old, new, congrArg Host.Outcome.next hrow⟩

/-! ### Rates (R378) -/

theorem gives_timeAddendWrite {s : State} {rq : Requester} (h : s.Ready rq 0) (upper : Bool) (w : Word) :
    Gives (.timeAddendWrite rq none upper w) s (s.dev.writeAddend none upper w.toNat) :=
  congrArg Host.Outcome.next (State.roleWrite_plain h (.timeAddendWrite rq none upper w) (0xD0048 + (if upper then 4 else 0)) none _ _ (by cases upper <;> decide) rfl rfl)

/-- A rate as its two words give it. -/
theorem clampVal_addend {v : Nat} (hv : v < 2 ^ 64) : F.TB_ADDEND.clampVal v = min 4299262263 (max 4290672329 v) := by
  have h : F.TB_ADDEND.clampVal v = clampN 4290672329 4299262263 (v % 2 ^ 64) := rfl
  rw [h, Nat.mod_eq_of_lt hv, clampN_eq (by decide)]
  omega

theorem words_lt (w : Word) (n : Nat) : w.toNat * 2 ^ 32 + n % 2 ^ 32 < 2 ^ 64 := by
  have := w.isLt
  omega

theorem Dev.writeAddend_lower (d : Dev) (w : Word) :
    d.writeAddend none false w.toNat = d.set F.TB_ADDEND (d.get F.TB_ADDEND / 2 ^ 32 * 2 ^ 32 + w.toNat) := by
  have h : d.writeAddend none false w.toNat = d.set F.TB_ADDEND (d.get F.TB_ADDEND / 2 ^ 32 * 2 ^ 32 + w.toNat % 2 ^ 32) := rfl
  rw [h, Word.toNat_mod]

theorem Dev.writeAddend_upper (d : Dev) (w : Word) {v : Nat} (hv : v = min 4299262263 (max 4290672329 (w.toNat * 2 ^ 32 + d.get F.TB_ADDEND % 2 ^ 32))) :
    d.writeAddend none true w.toNat = if d.get F.TB_STAT_IN_FORCE = 0 then (d.set F.TB_ADDEND v).rebase v else d.set F.TB_ADDEND v := by
  have hclamp : F.TB_ADDEND.clampVal (w.toNat % 2 ^ 32 * 2 ^ 32 + d.get F.TB_ADDEND % 2 ^ 32) = v := by rw [Word.toNat_mod, clampVal_addend (words_lt w _), hv]
  have hget : (d.set F.TB_ADDEND v).get F.TB_STAT_IN_FORCE = d.get F.TB_STAT_IN_FORCE := Dev.get_set_distinct d (by decide) ..
  simp only [Dev.writeAddend, Option.getD_none, hclamp, hget, Bool.not_true, Bool.false_eq_true, if_false]

theorem completes_addend_upper {s : State} {rq : Requester} (h : s.Ready rq 0) (w : Word) {v : Nat}
    (hv : v = min 4299262263 (max 4290672329 (w.toNat * 2 ^ 32 + s.dev.get F.TB_ADDEND % 2 ^ 32))) :
    Completes (.timeAddendWrite rq none true w) s (fun d => d.fineT = s.dev.fineT ∧
      d = (if s.dev.get F.TB_STAT_IN_FORCE = 0 then (s.dev.set F.TB_ADDEND v).rebase v else s.dev.set F.TB_ADDEND v)) := by
  refine ⟨_, (gives_timeAddendWrite h true w).congr (s.dev.writeAddend_upper w hv), ?_, rfl⟩
  split
  · exact Dev.fineT_rebase _ _
  · rfl

/-! ### The source of the time in force (R386) -/

theorem Dev.chooseFollow_eq {d : Dev} {f : Nat} (hf : f = d.get F.TB_CTRL_FOLLOW) (hle : f ≤ 2) :
    d.chooseFollow = if f = 0 then 0 else if d.get F.TB_D_STAT_STATE (f - 1) = 2 then f
      else if d.get F.TB_CTRL_AUTO ≠ 0 ∧ d.get F.TB_D_STAT_STATE (2 - f) = 2 ∧
          (d.domT (2 - f) - d.fineT).natAbs ≤ d.get F.TB_CFG2_CONFIRM_TOL * 2 ^ 32 then 3 - f else 3 := by
  have hauto : d.flag F.TB_CTRL_AUTO = true ↔ d.get F.TB_CTRL_AUTO ≠ 0 := by simp [Dev.flag]
  unfold Dev.chooseFollow
  rw [← hf]
  obtain rfl | rfl | rfl : f = 0 ∨ f = 1 ∨ f = 2 := by omega
  · rfl
  · simp only [Nat.one_ne_zero, if_false, Bool.and_eq_true, decide_eq_true_eq, hauto, and_assoc]
    norm_num
  · simp only [OfNat.ofNat_ne_zero, if_false, Bool.and_eq_true, decide_eq_true_eq, hauto, and_assoc]
    norm_num

/-- The device with its time in force taking a rate from a source. -/
def Dev.takeRate (d : Dev) (n : Nat) : Dev :=
  match n with
  | 0 => d.rebase (d.get F.TB_ADDEND)
  | 1 => d.rebase (d.dom 0).add
  | 2 => d.rebase (d.dom 1).add
  | _ => d

/-- The device with another source in force, before the change is told. -/
def Dev.follow (d : Dev) (n : Nat) : Dev := (({ d with tb := { d.tb with refused := false } } : Dev).set F.TB_STAT_IN_FORCE n).takeRate n

/-- A change of the domain followed is told. -/
def Dev.tellFollow (d : Dev) (was : Option Nat) : Dev := if d.followed = was then d else (d.irq F.TB_IRQ_STAT F.TB_IRQ_EN 0 none).report 309

theorem gives_followSelect (s : State) : Gives .followSelect s
    (if s.dev.pwr.st ≠ .on ∨ s.dev.chooseFollow = s.dev.get F.TB_STAT_IN_FORCE then s.dev
      else if s.dev.chooseFollow = 3 then ((s.dev.follow s.dev.chooseFollow).tellFollow s.dev.followed).report 308
        else (s.dev.follow s.dev.chooseFollow).tellFollow s.dev.followed) := by
  simp only [Gives, exec, execFollowSelect, Bool.or_eq_true, decide_eq_true_eq]
  rfl

/-- What a report or a cause leaves of the time in force: its clock, its state and the source. -/
def Dev.SameTime (d e : Dev) : Prop := e.tb = d.tb ∧ e.raw = d.raw ∧ e.get F.TB_STAT_IN_FORCE = d.get F.TB_STAT_IN_FORCE

theorem Dev.sameTime_report (d : Dev) (src : Nat) : d.SameTime (d.report src) :=
  ⟨Dev.tb_of_fixed (Dev.fixed_report d src 0), Dev.raw_of_fixed (Dev.fixed_report d src 0), Dev.get_report d src 0 (by decide) (by decide) (by decide)⟩

theorem Dev.SameTime.trans {a b c : Dev} (h : a.SameTime b) (h' : b.SameTime c) : a.SameTime c :=
  ⟨h'.1.trans h.1, h'.2.1.trans h.2.1, h'.2.2.trans h.2.2⟩

theorem Dev.sameTime_tellFollow (d : Dev) (was : Option Nat) : d.SameTime (d.tellFollow was) := by
  unfold Dev.tellFollow
  split
  · exact ⟨rfl, rfl, rfl⟩
  · have hirq : d.SameTime (d.irq F.TB_IRQ_STAT F.TB_IRQ_EN 0 none) := ⟨rfl, rfl, Dev.get_irq_ne _ _ _ _ _ _ (by decide)⟩
    exact hirq.trans (Dev.sameTime_report _ 309)

theorem Dev.takeRate_keeps (d : Dev) (n : Nat) :
    (d.takeRate n).regs = d.regs ∧ (d.takeRate n).fineT = d.fineT ∧ (d.takeRate n).tb.refused = d.tb.refused := by
  unfold Dev.takeRate
  split
  · exact ⟨rfl, Dev.fineT_rebase _ _, rfl⟩
  · exact ⟨rfl, Dev.fineT_rebase _ _, rfl⟩
  · exact ⟨rfl, Dev.fineT_rebase _ _, rfl⟩
  · exact ⟨rfl, rfl, rfl⟩

theorem Dev.add_takeRate (d : Dev) {n : Nat} (hn : n ≤ 3) :
    (d.takeRate n).tb.add = if n = 0 then d.get F.TB_ADDEND else if n = 3 then d.tb.add else (d.dom (n - 1)).add := by
  obtain rfl | rfl | rfl | rfl : n = 0 ∨ n = 1 ∨ n = 2 ∨ n = 3 := by omega
  all_goals rfl

theorem Dev.follow_spec (d : Dev) {n : Nat} (hn : n ≤ 3) :
    (d.follow n).fineT = d.fineT ∧ (d.follow n).tb.refused = false ∧ (d.follow n).regs = (d.set F.TB_STAT_IN_FORCE n).regs ∧
      (d.follow n).tb.add = if n = 0 then d.get F.TB_ADDEND else if n = 3 then d.tb.add else (d.dom (n - 1)).add := by
  obtain ⟨hregs, hfine, hrefused⟩ := (({ d with tb := { d.tb with refused := false } } : Dev).set F.TB_STAT_IN_FORCE n).takeRate_keeps n
  have hadd := (({ d with tb := { d.tb with refused := false } } : Dev).set F.TB_STAT_IN_FORCE n).add_takeRate hn
  have hget : (({ d with tb := { d.tb with refused := false } } : Dev).set F.TB_STAT_IN_FORCE n).get F.TB_ADDEND = d.get F.TB_ADDEND :=
    Dev.get_set_distinct _ (by decide) ..
  rw [hget] at hadd
  exact ⟨hfine, hrefused, hregs, hadd⟩

theorem Dev.get_of_regs {d e : Dev} (h : e.regs = d.regs) (f : Field) (i j : Nat) : e.get f i j = d.get f i j := congrArg (fun r : RegFile => r.get f i j) h

theorem Dev.followed_congr {d e : Dev} (h : e.get F.TB_STAT_IN_FORCE = d.get F.TB_STAT_IN_FORCE) : e.followed = d.followed := by
  simp only [Dev.followed, h]

/-- No domain is followed before the change nor after it. -/
theorem Dev.tellFollow_silent {d : Dev} {was : Option Nat} (h : d.followed = was) : d.tellFollow was = d := if_pos h

theorem Dev.tellFollow_tells {d : Dev} {was : Option Nat} (h : d.followed ≠ was) :
    ((d.tellFollow was).get F.TB_IRQ_STAT).testBit 0 = true ∧ has (d.tellFollow was).flt.status (fkey 309 0) = true := by
  have heq : d.tellFollow was = (d.irq F.TB_IRQ_STAT F.TB_IRQ_EN 0 none).report 309 := if_neg h
  rw [heq]
  refine ⟨?_, Dev.has_status_report _ 309 0 (by decide)⟩
  rw [Dev.get_report _ 309 0 (by decide) (by decide) (by decide)]
  exact Dev.get_irq_testBit _ _ _ _ _ _ (by decide)

/-- The domains that two sources follow differ. -/
theorem Dev.followed_ne {d e : Dev} (hne : e.get F.TB_STAT_IN_FORCE ≠ d.get F.TB_STAT_IN_FORCE)
    (h : e.get F.TB_STAT_IN_FORCE = 1 ∨ e.get F.TB_STAT_IN_FORCE = 2 ∨ d.get F.TB_STAT_IN_FORCE = 1 ∨ d.get F.TB_STAT_IN_FORCE = 2) : e.followed ≠ d.followed := by
  have hfirst (x : Dev) : x.followed = some 0 ↔ x.get F.TB_STAT_IN_FORCE = 1 := by
    unfold Dev.followed
    split <;> simp_all
  have hsecond (x : Dev) : x.followed = some 1 ↔ x.get F.TB_STAT_IN_FORCE = 2 := by
    unfold Dev.followed
    split <;> simp_all
  intro heq
  rcases h with h | h | h | h
  · exact hne (h.trans ((hfirst d).mp (heq ▸ (hfirst e).mpr h)).symm)
  · exact hne (h.trans ((hsecond d).mp (heq ▸ (hsecond e).mpr h)).symm)
  · exact hne (((hfirst e).mp (heq.trans ((hfirst d).mpr h))).trans h.symm)
  · exact hne (((hsecond e).mp (heq.trans ((hsecond d).mpr h))).trans h.symm)

/-- What a change of the source leaves, before HOLD is reported. -/
theorem Dev.tellFollow_follow {d : Dev} {n : Nat} (hn : n ≤ 3) (hne : n ≠ d.get F.TB_STAT_IN_FORCE) {e : Dev} (he : e = (d.follow n).tellFollow d.followed) :
    e.get F.TB_STAT_IN_FORCE = n ∧ e.fineT = d.fineT ∧ e.tb.refused = false ∧
      e.tb.add = (if n = 0 then d.get F.TB_ADDEND else if n = 3 then d.tb.add else (d.dom (n - 1)).add) ∧
      ((n = 0 ∨ n = 3) → (d.get F.TB_STAT_IN_FORCE = 0 ∨ d.get F.TB_STAT_IN_FORCE = 3) → e.get F.TB_IRQ_STAT = d.get F.TB_IRQ_STAT) ∧
      (n = 1 ∨ n = 2 ∨ d.get F.TB_STAT_IN_FORCE = 1 ∨ d.get F.TB_STAT_IN_FORCE = 2 →
        (e.get F.TB_IRQ_STAT).testBit 0 = true ∧ has e.flt.status (fkey 309 0) = true) := by
  obtain ⟨hfine, hrefused, hregs, hadd⟩ := d.follow_spec hn
  obtain ⟨htb, hraw, hforce⟩ := (d.follow n).sameTime_tellFollow d.followed
  have hn' : (d.follow n).get F.TB_STAT_IN_FORCE = n := by
    rw [Dev.get_of_regs hregs, Dev.get_set_self]
    exact Nat.mod_eq_of_lt (Nat.lt_succ_of_le hn)
  subst he
  refine ⟨hforce.trans hn', (Dev.fineT_of htb hraw).trans hfine, htb ▸ hrefused, htb ▸ hadd, fun hnew hold => ?_, fun h => ?_⟩
  · have hfollow : (d.follow n).followed = d.followed := by
      rw [Dev.followed_none (d := d.follow n) (by omega) (by omega), Dev.followed_none (d := d) (by omega) (by omega)]
    rw [Dev.tellFollow_silent hfollow, Dev.get_of_regs hregs, Dev.get_set_distinct _ (by decide)]
  · exact Dev.tellFollow_tells (Dev.followed_ne (hn'.symm ▸ hne) (hn'.symm ▸ h))

theorem completes_followSelect {s : State} {n old : Nat} (hn : n ≤ 3) (hchoice : s.dev.chooseFollow = n) (hold : old = s.dev.get F.TB_STAT_IN_FORCE)
    (hne : n ≠ old) (hon : s.dev.pwr.st = .on) :
    Completes .followSelect s (fun d => d.get F.TB_STAT_IN_FORCE = n ∧ d.fineT = s.dev.fineT ∧ d.tb.refused = false ∧
      d.tb.add = (if n = 0 then s.dev.get F.TB_ADDEND else if n = 3 then s.dev.tb.add else (s.dev.dom (n - 1)).add) ∧
      ((n = 0 ∨ n = 3) → (old = 0 ∨ old = 3) → d.get F.TB_IRQ_STAT = s.dev.get F.TB_IRQ_STAT) ∧
      (n = 1 ∨ n = 2 ∨ old = 1 ∨ old = 2 → (d.get F.TB_IRQ_STAT).testBit 0 = true ∧ has d.flt.status (fkey 309 0) = true) ∧
      (n = 3 → has d.flt.status (fkey 308 0) = true)) := by
  subst hold
  obtain ⟨e, he⟩ : ∃ e, e = (s.dev.follow n).tellFollow s.dev.followed := ⟨_, rfl⟩
  obtain ⟨hforce, hfine, hrefused, hadd, hsilent, htold⟩ := Dev.tellFollow_follow hn hne he
  have hgives := (gives_followSelect s).congr (if_neg (by rw [hchoice]; exact fun h => h.elim (fun h => h hon) hne))
  rw [hchoice, ← he] at hgives
  split at hgives
  · obtain ⟨htb, hraw, hkeep⟩ := e.sameTime_report 308
    refine ⟨_, hgives, hkeep.trans hforce, (Dev.fineT_of htb hraw).trans hfine, htb ▸ hrefused, htb ▸ hadd, ?_, ?_, fun _ => Dev.has_status_report _ 308 0 (by decide)⟩
    · rw [Dev.get_report _ 308 0 (by decide) (by decide) (by decide)]
      exact hsilent
    · rw [Dev.get_report _ 308 0 (by decide) (by decide) (by decide)]
      exact fun h => ⟨(htold h).1, Dev.has_status_report_of (htold h).2 308 0⟩
  · next h => exact ⟨e, hgives, hforce, hfine, hrefused, hadd, hsilent, htold, fun h3 => absurd h3 h⟩

/-- Settles O16: the time in force goes on from where it stands under every rate; a correction steps it. -/
theorem timeIsSteered : Obligations.TimeIsSteered := by
  unfold Obligations.TimeIsSteered
  refine ⟨fun rq s h => ⟨fun w a ha => ⟨fun hf => ?_, fun h1 h2 => ?_⟩, gives_timeCapture h, fun w => ⟨?_, fun v hv => completes_addend_upper h w hv⟩⟩,
    fun rq s h => givesAudited_timeForce h, fun s f n old hf hle hold hn => ⟨fun hstay => ?_, fun hne hon => ?_⟩⟩
  · exact (ha ▸ gives_timeAdjust h w).congr (Dev.adjust_following hf a)
  · have hfollow := Dev.followed_none h1 h2
    refine ⟨fun hsmall => (ha ▸ gives_timeAdjust h w).congr (Dev.adjust_small hfollow hsmall), completes_timeAdjust_forced h ha hfollow, fun hbig href => ?_⟩
    exact ⟨_, (ha ▸ gives_timeAdjust h w).congr (Dev.adjust_refused hfollow hbig href), rfl, Dev.reported_report _ 303 0 (by decide)⟩
  · exact (gives_timeAddendWrite h false w).congr (s.dev.writeAddend_lower w)
  · refine (gives_followSelect s).congr (if_pos ?_)
    rw [Dev.chooseFollow_eq hf hle, ← hn, ← hold]
    exact hstay.symm
  · have hchoice := (Dev.chooseFollow_eq hf hle).trans hn.symm
    refine completes_followSelect ?_ hchoice hold hne hon
    rw [hn]
    split_ifs <;> omega

end Sys2Proof.Machine
end


section
/-! PROOF. The domains of the timebase (R378 to R380, R382 to R385): corrections, rates, path delays and states. -/

namespace Sys2Proof.Machine

/-! ### A domain and its time -/

theorem Dev.dom_modDom_self {d : Dev} {k : Nat} (h : k < d.tb.doms.length) (f : TbDom → TbDom) : (d.modDom k f).dom k = f (d.dom k) := by
  simp only [Dev.modDom, Dev.dom, getD_setAt, h, and_self, if_true]

theorem Dev.modDom_modDom (d : Dev) (k : Nat) (f g : TbDom → TbDom) : (d.modDom k f).modDom k g = d.modDom k (g ∘ f) :=
  congrArg (fun l : List TbDom => ({ d with tb := { d.tb with doms := l } } : Dev)) (List.modify_modify_eq f g k d.tb.doms)

theorem Dev.length_modDom (d : Dev) (k : Nat) (f : TbDom → TbDom) : (d.modDom k f).tb.doms.length = d.tb.doms.length := List.length_modify ..

theorem Dev.get_modDom (d : Dev) (k : Nat) (g : TbDom → TbDom) (f : Field) (i j : Nat) : (d.modDom k g).get f i j = d.get f i j := rfl

theorem Dev.fineT_modDom (d : Dev) (k : Nat) (f : TbDom → TbDom) : (d.modDom k f).fineT = d.fineT := rfl

/-- A domain's own time at an instant of R. -/
def TbDom.clock (x : TbDom) (raw : Nat) : Int := x.t0 + ((raw - x.r0 : Nat) : Int) * x.add

theorem Dev.domT_own {d : Dev} {k : Nat} (h : d.get F.TB_D_STAT_STATE k ≠ 4) : d.domT k = (d.dom k).clock d.raw := if_neg h

theorem Dev.domT_master {d : Dev} {k : Nat} (h : d.get F.TB_D_STAT_STATE k = 4) : d.domT k = d.fineT := if_pos h

theorem TbDom.clock_rebased (x : TbDom) (t : Int) (raw add : Nat) : TbDom.clock { x with t0 := t, r0 := raw, add := add } raw = t := by
  simp [TbDom.clock]

theorem Dev.tb_of_regsOnly {d e : Dev} (h : d.RegsOnly e) : e.tb = d.tb := Eq.trans (congrArg Dev.tb (show e = { d with regs := e.regs } from h)) rfl

theorem Dev.raw_of_regsOnly {d e : Dev} (h : d.RegsOnly e) : e.raw = d.raw := Eq.trans (congrArg Dev.raw (show e = { d with regs := e.regs } from h)) rfl

theorem Dev.dom_of_tb {d e : Dev} (h : e.tb = d.tb) (k : Nat) : e.dom k = d.dom k := congrArg (fun t : TbSt => t.doms.getD k {}) h

/-- A domain's time depends on its state, its clock and R. -/
theorem Dev.domT_congr {d e : Dev} (k : Nat) (hst : e.get F.TB_D_STAT_STATE k = d.get F.TB_D_STAT_STATE k) (htb : e.tb = d.tb) (hraw : e.raw = d.raw) : e.domT k = d.domT k := by
  simp only [Dev.domT, hst, Dev.fineT_of htb hraw, Dev.dom_of_tb htb, hraw]

/-! ### States of a domain -/

/-- The fields that a change of state stores. -/
def domFields : List Field := [F.TB_D_STAT_STATE, F.TB_D_STAT_HCAUSE, F.TB_IRQ_STAT]

theorem Dev.domState_eq (d : Dev) (k st cause : Nat) : d.RegsOnly (d.domState k st cause) ∧
    (d.domState k st cause).get F.TB_D_STAT_STATE k = st % 8 ∧ (d.domState k st cause).get F.TB_D_STAT_HCAUSE k = cause % 4 ∧
    ∀ (g : Field) (i j : Nat), domFields.all (fun f => g.distinct f) = true → (d.domState k st cause).get g i j = d.get g i j := by
  obtain ⟨e, he⟩ : ∃ e, e = (d.set F.TB_D_STAT_STATE st k).set F.TB_D_STAT_HCAUSE cause k := ⟨_, rfl⟩
  have hst : e.get F.TB_D_STAT_STATE k = st % 8 := by
    rw [he, Dev.get_set_distinct _ (by decide), Dev.get_set_self]
    rfl
  have hcause : e.get F.TB_D_STAT_HCAUSE k = cause % 4 := by
    rw [he, Dev.get_set_self]
    rfl
  have hother (g : Field) (i j : Nat) (hg : domFields.all (fun f => g.distinct f) = true) : e.get g i j = d.get g i j := by
    obtain ⟨hs, hc, -⟩ : g.distinct F.TB_D_STAT_STATE = true ∧ g.distinct F.TB_D_STAT_HCAUSE = true ∧ g.distinct F.TB_IRQ_STAT = true := by simpa [domFields] using hg
    rw [he, Dev.get_set_distinct _ hc, Dev.get_set_distinct _ hs]
  have honly : d.RegsOnly e := he ▸ (Dev.regsOnly_set _ _ _ _ _).trans (Dev.regsOnly_set _ _ _ _ _)
  have hdom : d.domState k st cause = if (d.get F.TB_D_STAT_STATE k = 3) ≠ (st = 3) then e.irq F.TB_IRQ_STAT F.TB_IRQ_EN 1 none else e := he ▸ rfl
  rw [hdom]
  split
  · have hirq (g : Field) (i j : Nat) (hg : g.distinct F.TB_IRQ_STAT = true) : (e.irq F.TB_IRQ_STAT F.TB_IRQ_EN 1 none).get g i j = e.get g i j := by
      rw [Dev.get_irq]
      exact Dev.get_set_distinct _ hg ..
    refine ⟨honly.trans (Dev.regsOnly_set _ _ _ _ _), (hirq _ _ _ (by decide)).trans hst, (hirq _ _ _ (by decide)).trans hcause, fun g i j hg => ?_⟩
    obtain ⟨-, -, hi⟩ : g.distinct F.TB_D_STAT_STATE = true ∧ g.distinct F.TB_D_STAT_HCAUSE = true ∧ g.distinct F.TB_IRQ_STAT = true := by simpa [domFields] using hg
    exact (hirq g i j hi).trans (hother g i j hg)
  · exact ⟨honly, hst, hcause, hother⟩

theorem Dev.state_domState (d : Dev) (k st cause : Nat) : (d.domState k st cause).get F.TB_D_STAT_STATE k = st % 8 := (d.domState_eq k st cause).2.1

theorem Dev.hcause_domState (d : Dev) (k st cause : Nat) : (d.domState k st cause).get F.TB_D_STAT_HCAUSE k = cause % 4 := (d.domState_eq k st cause).2.2.1

theorem Dev.get_domState (d : Dev) (k st cause : Nat) {g : Field} (hg : domFields.all (fun f => g.distinct f) = true) (i j : Nat) :
    (d.domState k st cause).get g i j = d.get g i j := (d.domState_eq k st cause).2.2.2 g i j hg

theorem Dev.tb_domState (d : Dev) (k st cause : Nat) : (d.domState k st cause).tb = d.tb := Dev.tb_of_regsOnly (d.domState_eq k st cause).1

theorem Dev.raw_domState (d : Dev) (k st cause : Nat) : (d.domState k st cause).raw = d.raw := Dev.raw_of_regsOnly (d.domState_eq k st cause).1

/-! ### Corrections (R380, R382) -/

section
variable {s : State} {rq : Requester} {k : Fin 2}

theorem gives_domainAdjust (h : s.Ready rq 0) (w : Word) :
    Gives (.domainAdjust rq k w) s (s.dev.adjustDom k.val (signed 64 (w.toNat * 2 ^ 32 + s.dev.get F.TB_D_ADJ k.val % 2 ^ 32))) :=
  Gives.congr (congrArg Host.Outcome.next (State.roleWrite_plain h (.domainAdjust rq k w) (0xD0114 + 0x40 * k.val) none _ _ (by revert k; decide) rfl rfl))
    (congrArg (s.dev.adjustDom k.val) (adjValue_eq _ w))

end

theorem Dev.refuseDom_eq (d : Dev) (k : Nat) : d.refuseDom k = d.set F.TB_D_STAT_REFUSED (Nat.min 65535 (d.get F.TB_D_STAT_REFUSED k + 1)) k := by
  rw [Dev.refuseDom, Dev.bump, sat_min]
  rfl

section
variable {d : Dev} {k : Nat} {a : Int}

theorem Dev.adjustDom_held (h : d.get F.TB_D_STAT_STATE k = 3) : d.adjustDom k a =
    if (d.pendDom k (some a)).get F.TB_D_STAT_PERSIST k = 64 && 2 ≤ (d.pendDom k (some a)).get F.TB_D_STAT_HCAUSE k then (d.pendDom k (some a)).confirm k
    else d.pendDom k (some a) := by
  unfold Dev.adjustDom
  rw [h]
  rfl

theorem Dev.adjustDom_master (h : d.get F.TB_D_STAT_STATE k = 4) : d.adjustDom k a = d.refuseDom k := by
  unfold Dev.adjustDom
  rw [h]
  rfl

theorem Dev.adjustDom_open (h3 : d.get F.TB_D_STAT_STATE k ≠ 3) (h4 : d.get F.TB_D_STAT_STATE k ≠ 4) : d.adjustDom k a =
    if a.natAbs ≤ d.get F.TB_CFG_JUMP_LIMIT || (d.dom k).first || (d.dom k).force then d.acceptDom k a
    else ((d.refuseDom k).modDom k (fun x => { x with good := 0 })).report 303 := by
  unfold Dev.adjustDom
  split
  · next h => exact absurd h h3
  · next h => exact absurd h h4
  · rfl

/-- A domain after a correction that steps its time. -/
def TbDom.stepped (x : TbDom) (a : Int) (good : Nat) : TbDom := { x with t0 := x.t0 + a * fine, first := false, force := false, good := good }

theorem Dev.acceptDom_eq {g : Nat} (hlen : k < d.tb.doms.length) (hg : g = if a.natAbs ≤ d.get F.TB_CFG2_CONFIRM_TOL then (d.dom k).good + 1 else 0) :
    d.acceptDom k a = if d.get F.TB_D_STAT_STATE k = 1 ∧ 8 ≤ g then (d.modDom k (fun x => x.stepped a (if a.natAbs ≤ d.get F.TB_CFG2_CONFIRM_TOL then x.good + 1 else 0))).lockDom k none
      else d.modDom k (fun x => x.stepped a (if a.natAbs ≤ d.get F.TB_CFG2_CONFIRM_TOL then x.good + 1 else 0)) := by
  have hstep : (d.stepDom k (a * fine)).modDom k (fun x => { x with first := false, force := false, good := if a.natAbs ≤ d.get F.TB_CFG2_CONFIRM_TOL then x.good + 1 else 0 }) =
      d.modDom k (fun x => x.stepped a (if a.natAbs ≤ d.get F.TB_CFG2_CONFIRM_TOL then x.good + 1 else 0)) := Dev.modDom_modDom ..
  have hgood : ((d.modDom k (fun x => x.stepped a (if a.natAbs ≤ d.get F.TB_CFG2_CONFIRM_TOL then x.good + 1 else 0))).dom k).good = g := by
    rw [Dev.dom_modDom_self hlen, hg]
    rfl
  simp only [Dev.acceptDom, hstep, hgood, Dev.get_modDom, Bool.and_eq_true, decide_eq_true_eq]

end

theorem Dev.lockDom_none (d : Dev) (k : Nat) : d.lockDom k none = (d.domState k 2 0).modDom k (fun x => { x with accepted := false, good := 0 }) := rfl

/-- What a correction that steps a domain's time leaves. -/
theorem Dev.acceptDom_spec {d : Dev} {k : Nat} {a : Int} {g : Nat} (hlen : k < d.tb.doms.length) (h4 : d.get F.TB_D_STAT_STATE k ≠ 4)
    (hg : g = if a.natAbs ≤ d.get F.TB_CFG2_CONFIRM_TOL then (d.dom k).good + 1 else 0) {e : Dev} (he : e = d.acceptDom k a) :
    e.domT k = d.domT k + a * 2 ^ 32 ∧ (e.dom k).first = false ∧ (e.dom k).force = false ∧
      (¬ (d.get F.TB_D_STAT_STATE k = 1 ∧ 8 ≤ g) → (e.dom k).good = g ∧ e.regs = d.regs) ∧
      (d.get F.TB_D_STAT_STATE k = 1 → 8 ≤ g → e.get F.TB_D_STAT_STATE k = 2 ∧ e.get F.TB_D_STAT_HCAUSE k = 0 ∧ (e.dom k).accepted = false) := by
  have hclock : ((d.dom k).stepped a g).clock d.raw = d.domT k + a * 2 ^ 32 := by
    rw [Dev.domT_own h4, TbDom.clock, TbDom.clock, ← fine_eq]
    simp only [TbDom.stepped]
    omega
  obtain ⟨b, hb⟩ : ∃ b, b = d.modDom k (fun x => x.stepped a (if a.natAbs ≤ d.get F.TB_CFG2_CONFIRM_TOL then x.good + 1 else 0)) := ⟨_, rfl⟩
  have hdom : b.dom k = (d.dom k).stepped a g := by rw [hb, Dev.dom_modDom_self hlen, hg]
  have hbregs : b.regs = d.regs := hb ▸ rfl
  have hbraw : b.raw = d.raw := hb ▸ rfl
  have hblen : k < b.tb.doms.length := by rw [hb, Dev.length_modDom]; exact hlen
  have hlock := Dev.acceptDom_eq hlen hg
  rw [← hb] at hlock
  by_cases hlocks : d.get F.TB_D_STAT_STATE k = 1 ∧ 8 ≤ g
  · rw [he, hlock, if_pos hlocks, Dev.lockDom_none]
    have hst : ((b.domState k 2 0).modDom k (fun x => { x with accepted := false, good := 0 })).get F.TB_D_STAT_STATE k = 2 := b.state_domState k 2 0
    have hd : ((b.domState k 2 0).modDom k (fun x => { x with accepted := false, good := 0 })).dom k = { (d.dom k).stepped a g with accepted := false, good := 0 } := by
      rw [Dev.dom_modDom_self (by rw [Dev.tb_domState]; exact hblen), Dev.dom_of_tb (b.tb_domState k 2 0), hdom]
    have hraw : ((b.domState k 2 0).modDom k (fun x => { x with accepted := false, good := 0 })).raw = d.raw := (b.raw_domState k 2 0).trans hbraw
    refine ⟨?_, by rw [hd]; rfl, by rw [hd]; rfl, fun h => absurd hlocks h, fun _ _ => ⟨hst, b.hcause_domState k 2 0, by rw [hd]⟩⟩
    rw [Dev.domT_own (by rw [hst]; decide), hd, hraw]
    exact hclock
  · rw [he, hlock, if_neg hlocks]
    refine ⟨?_, by rw [hdom]; rfl, by rw [hdom]; rfl, fun _ => ⟨by rw [hdom]; rfl, hbregs⟩, fun h1 h8 => absurd ⟨h1, h8⟩ hlocks⟩
    rw [Dev.domT_own (by rw [Dev.get_of_regs hbregs]; exact h4), hdom, hbraw]
    exact hclock

theorem completes_domainAdjust_refused {s : State} {rq : Requester} {k : Fin 2} (h : s.Ready rq 0) {w : Word} {a : Int} {refused : Dev}
    (hrefused : refused = s.dev.set F.TB_D_STAT_REFUSED (Nat.min 65535 (s.dev.get F.TB_D_STAT_REFUSED k.val + 1)) k.val)
    (ha : a = signed 64 (w.toNat * 2 ^ 32 + s.dev.get F.TB_D_ADJ k.val % 2 ^ 32)) (h3 : s.dev.get F.TB_D_STAT_STATE k.val ≠ 3) (h4 : s.dev.get F.TB_D_STAT_STATE k.val ≠ 4)
    (hlen : k.val < s.dev.tb.doms.length)
    (hbig : s.dev.get F.TB_CFG_JUMP_LIMIT < a.natAbs) (hfirst : (s.dev.dom k.val).first = false) (hforce : (s.dev.dom k.val).force = false) :
    Completes (.domainAdjust rq k w) s (fun d => d = (refused.modDom k.val (fun y => { y with good := 0 })).report 303 ∧ d.domT k.val = s.dev.domT k.val ∧
      d.get F.TB_D_STAT_REFUSED k.val = Nat.min 65535 (s.dev.get F.TB_D_STAT_REFUSED k.val + 1) ∧ has d.flt.status (fkey 303 0) = true) := by
  have hgives := (ha ▸ gives_domainAdjust h w).congr ((Dev.adjustDom_open h3 h4).trans (if_neg (by simp [hfirst, hforce, hbig])))
  rw [Dev.refuseDom_eq, ← hrefused] at hgives
  obtain ⟨e, he⟩ : ∃ e, e = refused.modDom k.val (fun y => { y with good := 0 }) := ⟨_, rfl⟩
  have hst : e.get F.TB_D_STAT_STATE k.val = s.dev.get F.TB_D_STAT_STATE k.val := by
    rw [he, hrefused]
    exact Dev.get_set_distinct _ (by decide) ..
  have hcount : e.get F.TB_D_STAT_REFUSED k.val = Nat.min 65535 (s.dev.get F.TB_D_STAT_REFUSED k.val + 1) := by
    rw [he, hrefused]
    exact (Dev.get_set_self ..).trans (Nat.mod_eq_of_lt (Nat.lt_succ_of_le (Nat.min_le_left _ _)))
  have hdom : e.dom k.val = { s.dev.dom k.val with good := 0 } := by
    rw [he, hrefused]
    exact Dev.dom_modDom_self hlen _
  have hraw : e.raw = s.dev.raw := by rw [he, hrefused]; rfl
  have hfix := Dev.fixed_report e 303 0
  have hst' : (e.report 303).get F.TB_D_STAT_STATE k.val = e.get F.TB_D_STAT_STATE k.val := Dev.get_report e 303 0 (by decide) k.isLt (by decide)
  rw [← he] at hgives ⊢
  refine ⟨_, hgives, rfl, ?_, ?_, Dev.has_status_report e 303 0 (by decide)⟩
  · rw [Dev.domT_own (by rw [hst', hst]; exact h4), Dev.dom_of_tb (Dev.tb_of_fixed hfix), Dev.raw_of_fixed hfix, hdom, hraw, Dev.domT_own h4]
    rfl
  · rw [Dev.get_report e 303 0 (by decide) k.isLt (by decide)]
    exact hcount

/-! ### Rates (R378, R382) -/

theorem gives_domainAddend {s : State} {rq : Requester} {k : Fin 2} (h : s.Ready rq 0) (upper : Bool) (w : Word) :
    Gives (.timeAddendWrite rq (some k) upper w) s
      (if 3 ≤ s.dev.get F.TB_D_STAT_STATE k.val then s.dev.refuseDom k.val else s.dev.writeAddend (some k.val) upper w.toNat) :=
  congrArg Host.Outcome.next (State.roleWrite_plain h (.timeAddendWrite rq (some k) upper w) (0xD0108 + 0x40 * k.val + (if upper then 4 else 0)) none _
    (fun d => if 3 ≤ d.get F.TB_D_STAT_STATE k.val then d.refuseDom k.val else d.writeAddend (some k.val) upper w.toNat)
    (by revert k; cases upper <;> decide) rfl rfl)

theorem Dev.writeAddend_domain_lower (d : Dev) (k : Nat) (w : Word) :
    d.writeAddend (some k) false w.toNat = d.set F.TB_D_ADDEND (d.get F.TB_D_ADDEND k / 2 ^ 32 * 2 ^ 32 + w.toNat) k := by
  have h : d.writeAddend (some k) false w.toNat = d.set F.TB_D_ADDEND (d.get F.TB_D_ADDEND k / 2 ^ 32 * 2 ^ 32 + w.toNat % 2 ^ 32) k := rfl
  rw [h, Word.toNat_mod]

theorem clampVal_domain_addend (v : Nat) : F.TB_D_ADDEND.clampVal v = F.TB_ADDEND.clampVal v := rfl

theorem Dev.writeAddend_domain_upper (d : Dev) (k : Nat) (w : Word) {v : Nat} (hv : v = min 4299262263 (max 4290672329 (w.toNat * 2 ^ 32 + d.get F.TB_D_ADDEND k % 2 ^ 32))) :
    d.writeAddend (some k) true w.toNat = if ((d.set F.TB_D_ADDEND v k).rebaseDom k v).followed = some k then ((d.set F.TB_D_ADDEND v k).rebaseDom k v).rebase v
      else (d.set F.TB_D_ADDEND v k).rebaseDom k v := by
  have hclamp : F.TB_D_ADDEND.clampVal (w.toNat % 2 ^ 32 * 2 ^ 32 + d.get F.TB_D_ADDEND k % 2 ^ 32) = v := by
    rw [Word.toNat_mod, clampVal_domain_addend, clampVal_addend (words_lt w _), hv]
  simp only [Dev.writeAddend, Option.getD_some, hclamp, Bool.not_true, Bool.false_eq_true, if_false]

theorem Dev.followed_iff (d : Dev) (k : Fin 2) : d.followed = some k.val ↔ d.get F.TB_STAT_IN_FORCE = k.val + 1 := by
  unfold Dev.followed
  obtain rfl | rfl : k = 0 ∨ k = 1 := by omega
  all_goals split <;> simp_all

theorem completes_domainAddend {s : State} {rq : Requester} {k : Fin 2} (h : s.Ready rq 0) (hlen : k.val < s.dev.tb.doms.length) (hst : s.dev.get F.TB_D_STAT_STATE k.val < 3)
    (w : Word) {v : Nat} (hv : v = min 4299262263 (max 4290672329 (w.toNat * 2 ^ 32 + s.dev.get F.TB_D_ADDEND k.val % 2 ^ 32))) :
    Completes (.timeAddendWrite rq (some k) true w) s (fun d => d.regs = (s.dev.set F.TB_D_ADDEND v k.val).regs ∧ (d.dom k.val).add = v ∧ d.domT k.val = s.dev.domT k.val ∧
      d.fineT = s.dev.fineT ∧ d.tb.add = (if s.dev.get F.TB_STAT_IN_FORCE = k.val + 1 then v else s.dev.tb.add)) := by
  have hgives := (gives_domainAddend h true w).congr ((if_neg (Nat.not_le.mpr hst)).trans (s.dev.writeAddend_domain_upper k.val w hv))
  obtain ⟨e, he⟩ : ∃ e, e = (s.dev.set F.TB_D_ADDEND v k.val).rebaseDom k.val v := ⟨_, rfl⟩
  have hget (f : Field) (i : Nat) (hf : f.distinct F.TB_D_ADDEND = true) : (s.dev.set F.TB_D_ADDEND v k.val).get f i = s.dev.get f i := Dev.get_set_distinct _ hf ..
  have hdomT : (s.dev.set F.TB_D_ADDEND v k.val).domT k.val = s.dev.domT k.val := Dev.domT_congr _ (hget _ _ (by decide)) rfl rfl
  have hregs : e.regs = (s.dev.set F.TB_D_ADDEND v k.val).regs := he ▸ rfl
  have hdom : e.dom k.val = { s.dev.dom k.val with t0 := s.dev.domT k.val, r0 := s.dev.raw, add := v } := by
    rw [he, ← hdomT]
    exact Dev.dom_modDom_self (d := s.dev.set F.TB_D_ADDEND v k.val) hlen _
  have hforce : e.get F.TB_STAT_IN_FORCE = s.dev.get F.TB_STAT_IN_FORCE := by rw [Dev.get_of_regs hregs]; exact hget _ _ (by decide)
  have hstate : e.get F.TB_D_STAT_STATE k.val ≠ 4 := by
    rw [Dev.get_of_regs hregs, hget _ _ (by decide)]
    omega
  have hclock : (e.dom k.val).clock s.dev.raw = s.dev.domT k.val := by rw [hdom]; exact TbDom.clock_rebased _ _ _ _
  rw [← he] at hgives
  by_cases hfollow : e.followed = some k.val
  · have hin : s.dev.get F.TB_STAT_IN_FORCE = k.val + 1 := hforce.symm.trans ((e.followed_iff k).mp hfollow)
    rw [if_pos hfollow] at hgives
    refine ⟨_, hgives, hregs, by rw [show (e.rebase v).dom k.val = e.dom k.val from rfl, hdom], ?_, ?_, (if_pos hin).symm⟩
    · rw [Dev.domT_own (d := e.rebase v) hstate]
      have hraw : (e.rebase v).raw = s.dev.raw := he ▸ rfl
      rw [hraw]
      exact hclock
    · rw [Dev.fineT_rebase, he]
      rfl
  · have hin : s.dev.get F.TB_STAT_IN_FORCE ≠ k.val + 1 := fun h => hfollow ((e.followed_iff k).mpr (hforce.trans h))
    rw [if_neg hfollow] at hgives
    refine ⟨_, hgives, hregs, by rw [hdom], ?_, by rw [he]; rfl, by rw [if_neg hin, he]; rfl⟩
    rw [Dev.domT_own hstate, show e.raw = s.dev.raw from he ▸ rfl]
    exact hclock

/-! ### Path delays (R382 to R384) -/

theorem gives_pathDelay {s : State} {rq : Requester} {k : Fin 2} (h : s.Ready rq 0) (w : Word) :
    Gives (.pathDelayWrite rq k w) s (s.dev.pathDelay k.val w.toNat) :=
  congrArg Host.Outcome.next (State.roleWrite_plain h (.pathDelayWrite rq k w) (0xD0118 + 0x40 * k.val) none _ _ (by revert k; decide) rfl rfl)

/-- A path delay is noted. -/
def Dev.delayed (d : Dev) (k pd : Nat) : Dev := (d.set F.TB_D_PD pd k).modDom k (fun x => { x with pdAt := d.raw })

/-- What a path delay does in LOCKED. -/
def Dev.delayLocked (d : Dev) (k pd : Nat) : Dev :=
  if (d.dom k).accepted && !pdNear pd (d.get F.TB_D_ACPD k) (d.get F.TB_CFG2_PD_STEP_LIMIT) then
    ((((d.domState k 3 2).modDom k (fun x => { x with cand := pd })).set F.TB_D_STAT_PERSIST 1 k).report (304 + k))
  else (d.set F.TB_D_ACPD pd k).modDom k (fun x => { x with accepted := true })

/-- What a path delay does in HOLDOVER. -/
def Dev.delayHeld (d : Dev) (k pd : Nat) : Dev :=
  if d.get F.TB_D_STAT_HCAUSE k = 1 then (d.domState k 1 0).modDom k (fun x => { x with good := 0 })
  else if pdNear pd (d.dom k).cand (d.get F.TB_CFG2_PD_STEP_LIMIT) then
    if (d.set F.TB_D_STAT_PERSIST (sat 64 (d.get F.TB_D_STAT_PERSIST k + 1)) k).get F.TB_D_STAT_PERSIST k = 64 then
      (d.set F.TB_D_STAT_PERSIST (sat 64 (d.get F.TB_D_STAT_PERSIST k + 1)) k).confirm k
    else d.set F.TB_D_STAT_PERSIST (sat 64 (d.get F.TB_D_STAT_PERSIST k + 1)) k
  else (d.modDom k (fun x => { x with cand := pd })).set F.TB_D_STAT_PERSIST 1 k

theorem Dev.pathDelay_eq (d : Dev) (k pd : Nat) : d.pathDelay k pd =
    if d.get F.TB_D_STAT_STATE k = 4 then d.refuseDom k
    else if d.get F.TB_D_STAT_STATE k = 2 then (d.delayed k pd).delayLocked k pd
    else if d.get F.TB_D_STAT_STATE k = 3 then (d.delayed k pd).delayHeld k pd
    else d.delayed k pd := rfl

theorem Dev.get_delayed (d : Dev) (k pd : Nat) {g : Field} (hg : g.distinct F.TB_D_PD = true) (i j : Nat) : (d.delayed k pd).get g i j = d.get g i j :=
  Dev.get_set_distinct d hg ..

theorem Dev.dom_delayed {d : Dev} {k : Nat} (h : k < d.tb.doms.length) (pd : Nat) : (d.delayed k pd).dom k = { d.dom k with pdAt := d.raw } :=
  Dev.dom_modDom_self h _

/-- What a path delay beyond the limit leaves. -/
theorem Dev.delay_jumped {d : Dev} {k : Fin 2} {pd : Nat} (hlen : k.val < d.tb.doms.length) {e : Dev}
    (he : e = (((d.domState k.val 3 2).modDom k.val (fun y => { y with cand := pd })).set F.TB_D_STAT_PERSIST 1 k.val).report (304 + k.val)) :
    e.get F.TB_D_STAT_STATE k.val = 3 ∧ e.get F.TB_D_STAT_HCAUSE k.val = 2 ∧ e.get F.TB_D_STAT_PERSIST k.val = 1 ∧ (e.dom k.val).cand = pd ∧
      e.get F.TB_D_ACPD k.val = d.get F.TB_D_ACPD k.val ∧ has e.flt.status (fkey (304 + k.val) 0) = true := by
  obtain ⟨b, hb⟩ : ∃ b, b = ((d.domState k.val 3 2).modDom k.val (fun y => { y with cand := pd })).set F.TB_D_STAT_PERSIST 1 k.val := ⟨_, rfl⟩
  have hget (g : Field) (hg : g.distinct F.TB_D_STAT_PERSIST = true) : b.get g k.val = (d.domState k.val 3 2).get g k.val := by
    rw [hb]
    exact Dev.get_set_distinct _ hg ..
  have hreport (g : Field) (hg : g.calm = true) (hn : g.n1 = 2) (hm : g.n2 = 1) : e.get g k.val = b.get g k.val := by
    rw [he, ← hb]
    exact Dev.get_report b _ 0 hg (by omega) (by omega)
  refine ⟨?_, ?_, ?_, ?_, ?_, ?_⟩
  · rw [hreport _ (by decide) rfl rfl, hget _ (by decide), Dev.state_domState]
  · rw [hreport _ (by decide) rfl rfl, hget _ (by decide), Dev.hcause_domState]
  · rw [hreport _ (by decide) rfl rfl, hb, Dev.get_set_self]
    rfl
  · rw [he, ← hb, Dev.dom_of_tb (Dev.tb_of_fixed (Dev.fixed_report b _ 0)), hb]
    have hlen' : k.val < (d.domState k.val 3 2).tb.doms.length := by rw [Dev.tb_domState]; exact hlen
    exact congrArg TbDom.cand (Dev.dom_modDom_self hlen' _)
  · rw [hreport _ (by decide) rfl rfl, hget _ (by decide), Dev.get_domState _ _ _ _ (by decide)]
  · rw [he, ← hb]
    exact Dev.has_status_report b _ 0 (by decide)

/-! ### The check of a pending correction (R384) -/

/-- The pending correction agrees with the other domain. -/
def Dev.Agrees (d : Dev) (k : Nat) (c : Int) : Prop :=
  d.get F.TB_D_STAT_STATE (1 - k) = 2 ∧ (d.domT k + c * 2 ^ 32 - d.domT (1 - k)).natAbs ≤ d.get F.TB_CFG2_CONFIRM_TOL * 2 ^ 32

theorem Dev.confirm_none {d : Dev} {k : Nat} (h : (d.dom k).pend = none) : d.confirm k = d := by
  unfold Dev.confirm
  rw [h]

theorem Dev.confirm_agrees {d : Dev} {k : Nat} {c : Int} (h : (d.dom k).pend = some c) (hok : d.Agrees k c) :
    d.confirm k = ((((d.stepDom k (c * fine)).pendDom k none).lockDom k (some (d.dom k).cand)).set F.TB_D_STAT_PERSIST 0 k) := by
  obtain ⟨hst, hnear⟩ := hok
  unfold Dev.confirm
  rw [h]
  exact if_pos ((Bool.and_eq_true ..).mpr ⟨decide_eq_true hst, decide_eq_true hnear⟩)

theorem Dev.confirm_fails {d : Dev} {k : Nat} {c : Int} (h : (d.dom k).pend = some c) (hno : ¬ d.Agrees k c) :
    d.confirm k = ((d.domState k 3 3).set F.TB_D_STAT_PERSIST 0 k).report (306 + k) := by
  unfold Dev.confirm
  rw [h]
  refine if_neg (fun hok => hno ?_)
  obtain ⟨hst, hnear⟩ := (Bool.and_eq_true ..).mp hok
  exact ⟨of_decide_eq_true hst, of_decide_eq_true hnear⟩

/-- What a domain that locks with a path delay leaves. -/
theorem Dev.lockDom_some {b : Dev} {k : Nat} (hlen : k < b.tb.doms.length) (pd : Nat) {e : Dev} (he : e = (b.lockDom k (some pd)).set F.TB_D_STAT_PERSIST 0 k) :
    e.dom k = { b.dom k with accepted := true, good := 0 } ∧ e.raw = b.raw ∧ e.get F.TB_D_STAT_STATE k = 2 ∧
      e.get F.TB_D_STAT_PENDING k = b.get F.TB_D_STAT_PENDING k ∧ e.get F.TB_D_STAT_PERSIST k = 0 ∧ e.get F.TB_D_ACPD k = pd % 2 ^ 32 := by
  have hlock : e = (((b.domState k 2 0).modDom k (fun x => { x with accepted := true, good := 0 })).set F.TB_D_ACPD pd k).set F.TB_D_STAT_PERSIST 0 k := by
    rw [he]
    rfl
  have hdom := Dev.dom_modDom_self (d := b.domState k 2 0) (k := k) (by rw [Dev.tb_domState]; exact hlen) (fun x => { x with accepted := true, good := 0 })
  rw [Dev.dom_of_tb (b.tb_domState k 2 0)] at hdom
  have hraw : e.raw = b.raw := by
    rw [hlock]
    exact b.raw_domState k 2 0
  have hget (g : Field) (h1 : g.distinct F.TB_D_STAT_PERSIST = true) (h2 : g.distinct F.TB_D_ACPD = true) : e.get g k = (b.domState k 2 0).get g k := by
    rw [hlock, Dev.get_set_distinct _ h1, Dev.get_set_distinct _ h2]
    rfl
  refine ⟨by rw [hlock]; exact hdom, hraw, (hget _ (by decide) (by decide)).trans (b.state_domState k 2 0), ?_, ?_, ?_⟩
  · rw [hget _ (by decide) (by decide), Dev.get_domState _ _ _ _ (by decide)]
  · rw [hlock, Dev.get_set_self]
    rfl
  · rw [hlock, Dev.get_set_distinct _ (by decide), Dev.get_set_self]
    rfl

/-- The device with a domain's pending correction taken. -/
def Dev.takePending (d : Dev) (k : Nat) (p : Option Int) : Dev :=
  match p with
  | some c => (d.stepDom k (c * fine)).pendDom k none
  | none => d

theorem Dev.takePending_spec {d : Dev} {k : Nat} (hlen : k < d.tb.doms.length) {p : Option Int} (hp : p = (d.dom k).pend) {b : Dev} (hb : b = d.takePending k p) :
    b.dom k = { d.dom k with t0 := (d.dom k).t0 + p.getD 0 * fine, pend := none } ∧ b.raw = d.raw ∧ k < b.tb.doms.length ∧
      (∀ g : Field, g.distinct F.TB_D_STAT_PENDING = true → b.get g k = d.get g k) ∧ (p ≠ none → b.get F.TB_D_STAT_PENDING k = 0) := by
  cases hc : p with
  | none =>
    have hbd : b = d := by rw [hb, hc]; rfl
    have hdom : d.dom k = { d.dom k with t0 := (d.dom k).t0 + (none : Option Int).getD 0 * fine, pend := none } := by
      have hnone : (d.dom k).pend = none := hp.symm.trans hc
      revert hnone
      generalize d.dom k = x
      intro hnone
      obtain ⟨t0, r0, add, first, force, good, pend, accepted, cand, pdAt⟩ := x
      have hp' : pend = none := hnone
      subst hp'
      simp
    rw [hbd]
    exact ⟨hdom, rfl, hlen, fun _ _ => rfl, fun h => absurd rfl h⟩
  | some c =>
    have hbd : b = (d.stepDom k (c * fine)).pendDom k none := by rw [hb, hc]; rfl
    have hmod : (d.stepDom k (c * fine)).modDom k (fun x => { x with pend := none }) = d.modDom k (fun x => { x with t0 := x.t0 + c * fine, pend := none }) := Dev.modDom_modDom ..
    have hset : b = (d.modDom k (fun x => { x with t0 := x.t0 + c * fine, pend := none })).set F.TB_D_STAT_PENDING 0 k := by
      rw [hbd, ← hmod]
      rfl
    rw [hset]
    refine ⟨Dev.dom_modDom_self hlen _, rfl, (Dev.length_modDom d k _).symm ▸ hlen, fun g hg => Dev.get_set_distinct _ hg .., fun _ => ?_⟩
    rw [Dev.get_set_self]
    rfl

/-- A domain in HOLDOVER locks, its pending correction taken. -/
theorem Dev.lock_takes {d : Dev} {k : Nat} (hlen : k < d.tb.doms.length) (hst : d.get F.TB_D_STAT_STATE k = 3) (pd : Nat) {e : Dev}
    (he : e = ((d.takePending k (d.dom k).pend).lockDom k (some pd)).set F.TB_D_STAT_PERSIST 0 k) :
    e.domT k = d.domT k + (d.dom k).pend.getD 0 * 2 ^ 32 ∧
      e.dom k = { d.dom k with t0 := (d.dom k).t0 + (d.dom k).pend.getD 0 * fine, pend := none, accepted := true, good := 0 } ∧ e.raw = d.raw ∧
      e.get F.TB_D_STAT_STATE k = 2 ∧ ((d.dom k).pend ≠ none → e.get F.TB_D_STAT_PENDING k = 0) ∧ e.get F.TB_D_STAT_PERSIST k = 0 ∧
      e.get F.TB_D_ACPD k = pd % 2 ^ 32 := by
  obtain ⟨hbdom, hbraw, hblen, -, hbpending⟩ := Dev.takePending_spec hlen rfl rfl
  obtain ⟨hdom, hraw, hstate, hpending, hpersist, hacpd⟩ := Dev.lockDom_some hblen pd he
  rw [hbdom] at hdom
  have hraw' := hraw.trans hbraw
  refine ⟨?_, hdom, hraw', hstate, fun h => hpending.trans (hbpending h), hpersist, hacpd⟩
  rw [Dev.domT_own (by rw [hstate]; decide), Dev.domT_own (by rw [hst]; decide), hdom, hraw', ← fine_eq]
  simp only [TbDom.clock]
  omega

theorem Dev.confirm_locks {d : Dev} {k : Nat} {c : Int} (h : (d.dom k).pend = some c) (hok : d.Agrees k c) :
    d.confirm k = ((d.takePending k (d.dom k).pend).lockDom k (some (d.dom k).cand)).set F.TB_D_STAT_PERSIST 0 k := by
  rw [Dev.confirm_agrees h hok, h]
  rfl

theorem Dev.confirm_fails_spec {d : Dev} {k : Fin 2} {c : Int} (h : (d.dom k.val).pend = some c) (hno : ¬ d.Agrees k.val c) (hst : d.get F.TB_D_STAT_STATE k.val = 3) :
    (d.confirm k.val).domT k.val = d.domT k.val ∧ ((d.confirm k.val).dom k.val).pend = some c ∧
      (d.confirm k.val).get F.TB_D_STAT_STATE k.val = 3 ∧ (d.confirm k.val).get F.TB_D_STAT_HCAUSE k.val = 3 ∧ (d.confirm k.val).get F.TB_D_STAT_PERSIST k.val = 0 ∧
      has (d.confirm k.val).flt.status (fkey (306 + k.val) 0) = true := by
  rw [Dev.confirm_fails h hno]
  obtain ⟨b, hb⟩ : ∃ b, b = (d.domState k.val 3 3).set F.TB_D_STAT_PERSIST 0 k.val := ⟨_, rfl⟩
  have htb : b.tb = d.tb := by rw [hb]; exact d.tb_domState k.val 3 3
  have hraw : b.raw = d.raw := by rw [hb]; exact d.raw_domState k.val 3 3
  have hget (g : Field) (hg : g.distinct F.TB_D_STAT_PERSIST = true) : b.get g k.val = (d.domState k.val 3 3).get g k.val := by
    rw [hb]
    exact Dev.get_set_distinct _ hg ..
  have hreport (g : Field) (hg : g.calm = true) (hn : g.n1 = 2) (hm : g.n2 = 1) : (b.report (306 + k.val)).get g k.val = b.get g k.val :=
    Dev.get_report b _ 0 hg (by omega) (by omega)
  have hfix := Dev.fixed_report b (306 + k.val) 0
  have hstate : (b.report (306 + k.val)).get F.TB_D_STAT_STATE k.val = 3 := by
    rw [hreport _ (by decide) rfl rfl, hget _ (by decide), Dev.state_domState]
  have htb' := (Dev.tb_of_fixed hfix).trans htb
  rw [← hb]
  refine ⟨Dev.domT_congr _ (hstate.trans hst.symm) htb' ((Dev.raw_of_fixed hfix).trans hraw), by rw [Dev.dom_of_tb htb', h], hstate, ?_, ?_,
    Dev.has_status_report b _ 0 (by decide)⟩
  · rw [hreport _ (by decide) rfl rfl, hget _ (by decide), Dev.hcause_domState]
  · rw [hreport _ (by decide) rfl rfl, hb, Dev.get_set_self]
    rfl

/-! ### TIMEOUT, FORCE and ACK (R380, R382, R385) -/

theorem gives_domainTimeout (k : Fin 2) (s : State) : Gives (.domainTimeout k) s
    (if (s.dev.get F.TB_D_STAT_STATE k.val = 1 || s.dev.get F.TB_D_STAT_STATE k.val = 2) &&
        (s.dev.dom k.val).pdAt + s.dev.get F.TB_D_CFG_TIMEOUT k.val * 100000000 ≤ s.dev.now then (s.dev.domState k.val 3 1).report 308 else s.dev) := rfl

theorem Dev.report_domState (d : Dev) (k : Fin 2) (src st cause : Nat) :
    ((d.domState k.val st cause).report src).get F.TB_D_STAT_STATE k.val = st % 8 ∧ ((d.domState k.val st cause).report src).get F.TB_D_STAT_HCAUSE k.val = cause % 4 := by
  rw [Dev.get_report _ src 0 (by decide) k.isLt (by decide), Dev.get_report _ src 0 (by decide) k.isLt (by decide)]
  exact ⟨Dev.state_domState .., Dev.hcause_domState ..⟩

theorem givesAudited_domainForce {s : State} {rq : Requester} (h : s.Ready rq 2) (k : Fin 2) :
    GivesAudited (.domainForce rq k) s rq (0xD0120 + 0x40 * k.val) (((if s.dev.anyArmed then s.dev else s.dev.modDom k.val (fun y => { y with force := true })).set
      F.TB_CMD_DONE 1).set F.TB_CMD_CODE (if s.dev.anyArmed then 1 else 0) |>.touch rq) := by
  obtain ⟨old, new, hrow⟩ := State.row_audited h (.domainForce rq k) (0xD0120 + 0x40 * k.val) 1 ⟨0, some .installer⟩
    (fun d => d.forceCmd (fun d => d.modDom k.val (fun x => { x with force := true }))) (by revert k; decide) (by revert k; cases rq <;> decide +kernel)
    (by decide) (by decide) (by decide)
  have hforce := Dev.forceCmd_touch s.dev rq (fun t => { t with doms := setAt t.doms k.val (fun y => { y with force := true }) })
  exact ⟨old, new, (congrArg Host.Outcome.next hrow).trans
    (congrArg (fun d : Dev => Host.Outcome.next (({ s with dev := d } : State).pushAudit (some rq) (s.dev.entry rq (0xD0120 + 0x40 * k.val) old new))) hforce)⟩

/-- ACK of a domain. -/
def Dev.ackDom (d : Dev) (k : Nat) : Dev :=
  if d.get F.TB_D_STAT_STATE k = 3 && 2 ≤ d.get F.TB_D_STAT_HCAUSE k then
    ((((d.takePending k (d.dom k).pend).lockDom k (some ((d.takePending k (d.dom k).pend).get F.TB_D_PD k))).set F.TB_D_STAT_PERSIST 0 k).modDom k
      (fun x => { x with first := false, force := false }))
  else d

theorem givesAudited_domainAck {s : State} {rq : Requester} (h : s.Ready rq 2) (k : Fin 2) :
    GivesAudited (.domainAck rq k) s rq (0xD0120 + 0x40 * k.val) ((s.dev.touch rq).ackDom k.val) := by
  obtain ⟨old, new, hrow⟩ := State.row_audited h (.domainAck rq k) (0xD0120 + 0x40 * k.val) 2 ⟨1, some .installer⟩ (fun d => d.ackDom k.val)
    (by revert k; decide) (by revert k; cases rq <;> decide +kernel) (by decide) (by decide) (by decide)
  exact ⟨old, new, congrArg Host.Outcome.next hrow⟩

theorem Dev.tb_touch (d : Dev) (rq : Requester) : (d.touch rq).tb = d.tb := by
  obtain h | ⟨x, h⟩ := d.touch_cases rq <;> rw [h]
  cases rq <;> rfl

theorem Dev.domT_touch (d : Dev) (rq : Requester) (k : Nat) : (d.touch rq).domT k = d.domT k :=
  Dev.domT_congr k (Dev.get_touch ..) (d.tb_touch rq) (d.raw_touch rq)

theorem Dev.ackDom_spec {d : Dev} {k : Nat} (hlen : k < d.tb.doms.length) (hst : d.get F.TB_D_STAT_STATE k = 3) (hcause : 2 ≤ d.get F.TB_D_STAT_HCAUSE k) :
    (d.ackDom k).get F.TB_D_STAT_STATE k = 2 ∧ (d.ackDom k).get F.TB_D_ACPD k = d.get F.TB_D_PD k % 2 ^ 32 ∧ ((d.ackDom k).dom k).accepted = true ∧
      (d.ackDom k).get F.TB_D_STAT_PERSIST k = 0 ∧ ((d.ackDom k).dom k).pend = none ∧ ((d.ackDom k).dom k).force = false ∧
      (d.ackDom k).domT k = d.domT k + (d.dom k).pend.getD 0 * 2 ^ 32 := by
  obtain ⟨-, -, hblen, hbget, -⟩ := Dev.takePending_spec hlen (p := (d.dom k).pend) rfl rfl
  obtain ⟨e, he⟩ : ∃ e, e = ((d.takePending k (d.dom k).pend).lockDom k (some (d.get F.TB_D_PD k))).set F.TB_D_STAT_PERSIST 0 k := ⟨_, rfl⟩
  have hack : d.ackDom k = e.modDom k (fun x => { x with first := false, force := false }) := by
    have h : d.ackDom k = _ := if_pos ((Bool.and_eq_true ..).mpr ⟨decide_eq_true hst, decide_eq_true hcause⟩)
    rw [h, hbget F.TB_D_PD (by decide), ← he]
  obtain ⟨hclock, hdom, hraw, hstate, -, hpersist, hacpd⟩ := Dev.lock_takes hlen hst _ he
  have helen : k < e.tb.doms.length := by
    have hlock : e.tb.doms = setAt ((d.takePending k (d.dom k).pend).domState k 2 0).tb.doms k (fun x => { x with accepted := true, good := 0 }) := he ▸ rfl
    rw [hlock, length_setAt, Dev.tb_domState]
    exact hblen
  have hdom' : (e.modDom k (fun x => { x with first := false, force := false })).dom k = { e.dom k with first := false, force := false } := Dev.dom_modDom_self helen _
  rw [hack]
  refine ⟨hstate, hacpd, by rw [hdom', hdom], hpersist, by rw [hdom', hdom], by rw [hdom'], ?_⟩
  rw [← hclock, Dev.domT_own (d := e.modDom k _) (by exact hstate.symm ▸ (by decide)), Dev.domT_own (d := e) (by rw [hstate]; decide), hdom']
  rfl

/-! ### EN and MASTER (R382) -/

/-- A domain starts afresh in UNLOCKED. -/
def Dev.domStart (d : Dev) (k : Nat) : Dev :=
  (((d.domState k 1 0).pendDom k none).set F.TB_D_STAT_PERSIST 0 k).modDom k (fun x => { x with first := true, good := 0, accepted := false, pdAt := d.now })

/-- A domain is disabled. -/
def Dev.domOff (d : Dev) (k : Nat) : Dev := ((d.domState k 0 0).pendDom k none).set F.TB_D_STAT_PERSIST 0 k

/-- EN and MASTER as stored. -/
def Dev.domStored (d : Dev) (k : Nat) (en master : Bool) : Dev := (d.set F.TB_D_CFG_EN (b2n en) k).set F.TB_D_CFG_MASTER (b2n master) k

theorem Dev.domCfg_eq (d : Dev) (k : Nat) (en master : Bool) {m : Bool} (hm : m = (master && d.get F.TB_D_STAT_STATE (1 - k) ≠ 4)) :
    d.domCfg k en master =
      if !en then (d.domStored k en m).domOff k
      else if m then (d.domStored k en m).domState k 4 0
      else if d.get F.TB_D_STAT_STATE k = 0 then (d.domStored k en m).domStart k
      else if d.get F.TB_D_STAT_STATE k = 4 then ((d.domStored k en m).modDom k (fun x => { x with t0 := d.domT k, r0 := d.raw })).domStart k
      else d.domStored k en m := by
  subst hm
  rfl

/-- The fields that a start or a stop of a domain stores. -/
def domStartFields : List Field := [F.TB_D_STAT_PENDING, F.TB_D_STAT_PERSIST] ++ domFields

theorem domStartFields_distinct {g : Field} (hg : domStartFields.all (fun f => g.distinct f) = true) :
    g.distinct F.TB_D_STAT_PENDING = true ∧ g.distinct F.TB_D_STAT_PERSIST = true ∧ domFields.all (fun f => g.distinct f) = true := by
  simpa only [domStartFields, List.all_append, List.all_cons, List.all_nil, Bool.and_true, Bool.and_eq_true, and_assoc] using hg

theorem Dev.get_domOff (d : Dev) (k : Nat) {g : Field} (hg : domStartFields.all (fun f => g.distinct f) = true) (i j : Nat) : (d.domOff k).get g i j = d.get g i j := by
  obtain ⟨hpending, hpersist, hst⟩ := domStartFields_distinct hg
  rw [Dev.domOff, Dev.get_set_distinct _ hpersist, Dev.pendDom, Dev.get_set_distinct _ hpending]
  exact Dev.get_domState _ _ _ _ hst _ _

theorem Dev.get_domStart (d : Dev) (k : Nat) {g : Field} (hg : domStartFields.all (fun f => g.distinct f) = true) (i j : Nat) : (d.domStart k).get g i j = d.get g i j := by
  obtain ⟨hpending, hpersist, hst⟩ := domStartFields_distinct hg
  rw [Dev.domStart, Dev.get_modDom, Dev.get_set_distinct _ hpersist, Dev.pendDom, Dev.get_set_distinct _ hpending]
  exact Dev.get_domState _ _ _ _ hst _ _

theorem Dev.state_domOff (d : Dev) (k : Nat) : (d.domOff k).get F.TB_D_STAT_STATE k = 0 := by
  rw [Dev.domOff, Dev.get_set_distinct _ (by decide), Dev.pendDom, Dev.get_set_distinct _ (by decide)]
  exact Dev.state_domState ..

theorem Dev.state_domStart (d : Dev) (k : Nat) : (d.domStart k).get F.TB_D_STAT_STATE k = 1 := by
  rw [Dev.domStart, Dev.get_modDom, Dev.get_set_distinct _ (by decide), Dev.pendDom, Dev.get_set_distinct _ (by decide)]
  exact Dev.state_domState ..

theorem Dev.dom_domStart {d : Dev} {k : Nat} (hlen : k < d.tb.doms.length) :
    (d.domStart k).dom k = { d.dom k with pend := none, first := true, good := 0, accepted := false, pdAt := d.now } := by
  have hmod : d.domStart k = ((((d.domState k 1 0).modDom k (fun x => { x with pend := none })).modDom k
      (fun x => { x with first := true, good := 0, accepted := false, pdAt := d.now })).set F.TB_D_STAT_PENDING 0 k).set F.TB_D_STAT_PERSIST 0 k := rfl
  have hdom := Dev.dom_modDom_self (d := d.domState k 1 0) (k := k) (by rw [Dev.tb_domState]; exact hlen)
    ((fun x => { x with first := true, good := 0, accepted := false, pdAt := d.now }) ∘ (fun x => { x with pend := none }))
  rw [Dev.dom_of_tb (d.tb_domState k 1 0), ← Dev.modDom_modDom] at hdom
  rw [hmod]
  exact hdom

theorem Dev.raw_domStart (d : Dev) (k : Nat) : (d.domStart k).raw = d.raw := d.raw_domState k 1 0

/-- A start of a domain does not move its time. -/
theorem Dev.domT_domStart {d : Dev} {k : Nat} (hlen : k < d.tb.doms.length) : (d.domStart k).domT k = (d.dom k).clock d.raw := by
  rw [Dev.domT_own (by rw [Dev.state_domStart]; decide), Dev.dom_domStart hlen, Dev.raw_domStart]
  rfl

/-- What EN and MASTER leave. -/
theorem Dev.domCfg_spec {d : Dev} {k : Nat} (hlen : k < d.tb.doms.length) {en master m : Bool} (hm : m = (master && d.get F.TB_D_STAT_STATE (1 - k) ≠ 4)) {e : Dev}
    (he : e = d.domCfg k en master) :
    (∀ (g : Field) (i j : Nat), domStartFields.all (fun f => g.distinct f) = true → e.get g i j = (d.domStored k en m).get g i j) ∧
      e.get F.TB_D_STAT_STATE k = (if en = false then 0 else if m then 4 else if d.get F.TB_D_STAT_STATE k = 0 ∨ d.get F.TB_D_STAT_STATE k = 4 then 1 else d.get F.TB_D_STAT_STATE k) ∧
      (en = true → m = false → d.get F.TB_D_STAT_STATE k = 0 ∨ d.get F.TB_D_STAT_STATE k = 4 → (e.dom k).first = true) ∧
      (en = true → m = false → e.domT k = d.domT k) := by
  have hstored (g : Field) (i : Nat) (h1 : g.distinct F.TB_D_CFG_EN = true) (h2 : g.distinct F.TB_D_CFG_MASTER = true) : (d.domStored k en m).get g i = d.get g i := by
    rw [Dev.domStored, Dev.get_set_distinct _ h2, Dev.get_set_distinct _ h1]
  have hstate := hstored F.TB_D_STAT_STATE k (by decide) (by decide)
  rw [he, Dev.domCfg_eq d k en master hm]
  cases hen : en with
  | false => exact ⟨fun g i j hg => Dev.get_domOff _ _ hg _ _, Dev.state_domOff _ _, fun h => absurd h (by decide), fun h => absurd h (by decide)⟩
  | true =>
    rw [hen] at hstate
    cases m with
    | true =>
      refine ⟨fun g i j hg => ?_, Dev.state_domState .., fun _ h => absurd h (by decide), fun _ h => absurd h (by decide)⟩
      obtain ⟨-, -, hst⟩ := domStartFields_distinct hg
      exact Dev.get_domState _ _ _ _ hst _ _
    | false =>
      simp only [Bool.not_true, Bool.false_eq_true, if_false, Bool.true_eq_false]
      by_cases h0 : d.get F.TB_D_STAT_STATE k = 0
      · rw [if_pos h0, if_pos (.inl h0)]
        have hlen' : k < (d.domStored k true false).tb.doms.length := hlen
        refine ⟨fun g i j hg => Dev.get_domStart _ _ hg _ _, Dev.state_domStart _ _, fun _ _ _ => by rw [Dev.dom_domStart hlen'], fun _ _ => ?_⟩
        rw [Dev.domT_domStart hlen', Dev.domT_own (by rw [h0]; decide)]
        rfl
      · rw [if_neg h0]
        by_cases h4 : d.get F.TB_D_STAT_STATE k = 4
        · rw [if_pos h4, if_pos (.inr h4)]
          have hlen' : k < ((d.domStored k true false).modDom k (fun x => { x with t0 := d.domT k, r0 := d.raw })).tb.doms.length := by
            rw [Dev.length_modDom]
            exact hlen
          have hdom : ((d.domStored k true false).modDom k (fun x => { x with t0 := d.domT k, r0 := d.raw })).dom k = { d.dom k with t0 := d.domT k, r0 := d.raw } :=
            Dev.dom_modDom_self (d := d.domStored k true false) hlen _
          refine ⟨fun g i j hg => Dev.get_domStart _ _ hg _ _, Dev.state_domStart _ _, fun _ _ _ => by rw [Dev.dom_domStart hlen'], fun _ _ => ?_⟩
          rw [Dev.domT_domStart hlen', hdom]
          exact TbDom.clock_rebased _ _ _ _
        · rw [if_neg h4, if_neg (fun h => h.elim h0 h4)]
          exact ⟨fun _ _ _ _ => rfl, hstate, fun _ _ h => absurd h (fun h => h.elim h0 h4), fun _ _ => Dev.domT_congr k hstate rfl rfl⟩

/-- The stored fields of TB_Dd_CFG. -/
def domCfgParts (k : Nat) : List FieldPart := [(F.TB_D_CFG_P2P, k, 0, 0), (F.TB_D_CFG_NUMBER, k, 0, 0), (F.TB_D_CFG_TIMEOUT, k, 0, 0)]

theorem storedAt_domCfg (k : Fin 2) : StoredAt (0xD0100 + 0x40 * k.val) (domCfgParts k.val) := by
  revert k
  decide +kernel

/-- A readable field takes its part of a word, as it may be stored. -/
theorem Dev.storeField_rw {f : Field} (h : f.acc = .rw) (d : Dev) (i j k w : Nat) : d.storeField f i j k w = d.set f (f.clampVal (f.withPart k (d.get f i j) w)) i j := by
  unfold Dev.storeField
  rw [h]

theorem Dev.storeWord_domCfg {d : Dev} {rq : Requester} (hr : 2 ≤ d.rights rq) (k : Fin 2) (w : Word) {b : Dev} (hb : b = d.storeWord rq (0xD0100 + 0x40 * k.val) w.toNat) :
    b.get F.TB_D_CFG_NUMBER k.val = w.toNat / 256 % 256 ∧ b.get F.TB_D_CFG_TIMEOUT k.val = Nat.max 1 (w.toNat % 256) ∧
      (∀ i, b.get F.TB_D_STAT_STATE i = d.get F.TB_D_STAT_STATE i) ∧ b.tb = d.tb ∧ b.raw = d.raw := by
  have hroles : ∀ k : Fin 2, ∀ x ∈ domCfgParts k.val, x.1.ordinary ∧ (match x.1.role with | none => true | some y => decide (y.code ≤ 2)) = true := by decide +kernel
  have hpage : ∀ (k : Fin 2) (e : Dev), e.normPage (0xD0100 + 0x40 * k.val) = e := fun k e => by
    obtain rfl | rfl : k = 0 ∨ k = 1 := by omega
    · rfl
    · rfl
  have hstore := Dev.storeWord_of (storedAt_domCfg k) (Dev.permits_of hr (hroles k)) (by simp [domCfgParts]) w.toNat (hpage k)
  have hnumber (old : Nat) : F.TB_D_CFG_NUMBER.clampVal (F.TB_D_CFG_NUMBER.withPart 0 old w.toNat) = w.toNat / 256 % 256 :=
    clampVal_of_none (f := F.TB_D_CFG_NUMBER) rfl (by decide) _ _
  have htimeout (old : Nat) : F.TB_D_CFG_TIMEOUT.clampVal (F.TB_D_CFG_TIMEOUT.withPart 0 old w.toNat) = max 1 (min 255 (w.toNat / 2 ^ 0 % 2 ^ 8)) :=
    clampVal_of_range (f := F.TB_D_CFG_TIMEOUT) rfl (by decide) (by decide) _ _
  have hset : ∃ v, b = ((d.set F.TB_D_CFG_P2P v k.val).set F.TB_D_CFG_NUMBER (w.toNat / 256 % 256) k.val).set F.TB_D_CFG_TIMEOUT
      (max 1 (min 255 (w.toNat / 2 ^ 0 % 2 ^ 8))) k.val := by
    rw [hb, hstore, domCfgParts, Dev.storeFields]
    simp only [List.foldl, Dev.storeField_rw (f := F.TB_D_CFG_P2P) rfl, Dev.storeField_rw (f := F.TB_D_CFG_NUMBER) rfl, Dev.storeField_rw (f := F.TB_D_CFG_TIMEOUT) rfl,
      hnumber, htimeout]
    exact ⟨_, rfl⟩
  obtain ⟨v, hset⟩ := hset
  rw [hset]
  refine ⟨?_, ?_, fun i => ?_, rfl, rfl⟩
  · rw [Dev.get_set_distinct _ (by decide), Dev.get_set_self]
    exact Nat.mod_mod _ _
  · rw [Dev.get_set_self, show F.TB_D_CFG_TIMEOUT.width = 8 from rfl]
    simp only [Nat.max_def, Nat.min_def]
    split_ifs <;> omega
  · rw [Dev.get_set_distinct _ (by decide), Dev.get_set_distinct _ (by decide), Dev.get_set_distinct _ (by decide)]

theorem givesAudited_domainEnable {s : State} {rq : Requester} (h : s.Ready rq 2) (k : Fin 2) (w : Word) :
    GivesAudited (.domainEnable rq k w) s rq (0xD0100 + 0x40 * k.val)
      (((s.dev.storeWord rq (0xD0100 + 0x40 * k.val) w.toNat).domCfg k.val (w.toNat.testBit 31) (w.toNat.testBit 30)).touch rq) :=
  ⟨_, _, congrArg Host.Outcome.next (State.roleWrite_audited h (.domainEnable rq k w) (0xD0100 + 0x40 * k.val) (some .installer) (fun d => d.word (0xD0100 + 0x40 * k.val))
    (fun d => (d.storeWord rq (0xD0100 + 0x40 * k.val) w.toNat).domCfg k.val (w.toNat.testBit 31) (w.toNat.testBit 30)) (by revert k; decide) (by decide) (by decide))⟩

theorem completesAudited_domainEnable {s : State} {rq : Requester} (h : s.Ready rq 2) (k : Fin 2) (hlen : k.val < s.dev.tb.doms.length) {st : Nat}
    (hst : st = s.dev.get F.TB_D_STAT_STATE k.val) (w : Word) {en master : Bool} (hen : en = w.toNat.testBit 31)
    (hmaster : master = (w.toNat.testBit 30 && decide (s.dev.get F.TB_D_STAT_STATE (1 - k.val) ≠ 4))) :
    CompletesAudited (.domainEnable rq k w) s rq (0xD0100 + 0x40 * k.val) (fun d =>
      d = ((s.dev.storeWord rq (0xD0100 + 0x40 * k.val) w.toNat).domCfg k.val en (w.toNat.testBit 30)).touch rq ∧
      d.get F.TB_D_CFG_EN k.val = (if en then 1 else 0) ∧ d.get F.TB_D_CFG_MASTER k.val = (if master then 1 else 0) ∧
      d.get F.TB_D_CFG_NUMBER k.val = w.toNat / 256 % 256 ∧ d.get F.TB_D_CFG_TIMEOUT k.val = Nat.max 1 (w.toNat % 256) ∧
      d.get F.TB_D_STAT_STATE k.val = (if en = false then 0 else if master then 4 else if st = 0 ∨ st = 4 then 1 else st) ∧
      (en = true → master = false → st = 0 ∨ st = 4 → (d.dom k.val).first = true) ∧
      (en = true → master = false → d.domT k.val = s.dev.domT k.val)) := by
  obtain ⟨old, new, hrow⟩ := givesAudited_domainEnable h k w
  rw [← hen] at hrow
  refine ⟨_, old, new, hrow, rfl, ?_⟩
  obtain ⟨hnumber, htimeout, hstate, htb, hraw⟩ := Dev.storeWord_domCfg (d := s.dev) h.2.2 k w rfl
  generalize s.dev.storeWord rq (0xD0100 + 0x40 * k.val) w.toNat = b at hnumber htimeout hstate htb hraw ⊢
  have hm : master = (w.toNat.testBit 30 && b.get F.TB_D_STAT_STATE (1 - k.val) ≠ 4) := by rw [hstate, hmaster]
  obtain ⟨hget, hnew, hfirst, hclock⟩ := Dev.domCfg_spec (d := b) (htb ▸ hlen) (en := en) hm rfl
  rw [hstate, ← hst] at hnew hfirst
  have hsame : b.domT k.val = s.dev.domT k.val := Dev.domT_congr _ (hstate _) htb hraw
  simp only [Dev.get_touch, Dev.domT_touch, Dev.dom_of_tb (Dev.tb_touch _ rq)]
  have hstored (g : Field) (h1 : g.distinct F.TB_D_CFG_EN = true) (h2 : g.distinct F.TB_D_CFG_MASTER = true) : (b.domStored k.val en master).get g k.val = b.get g k.val := by
    rw [Dev.domStored, Dev.get_set_distinct _ h2, Dev.get_set_distinct _ h1]
  refine ⟨?_, ?_, ?_, ?_, hnew, hfirst, fun h1 h2 => (hclock h1 h2).trans hsame⟩
  · rw [hget _ _ _ (by decide), Dev.domStored, Dev.get_set_distinct _ (by decide), Dev.get_set_self]
    cases en <;> rfl
  · rw [hget _ _ _ (by decide), Dev.domStored, Dev.get_set_self]
    cases master <;> rfl
  · rw [hget _ _ _ (by decide), hstored _ (by decide) (by decide), hnumber]
  · rw [hget _ _ _ (by decide), hstored _ (by decide) (by decide), htimeout]

/-! ### The obligation -/

theorem pdNear_eq {near : Nat → Bool} {pd limit : Nat} (h : ∀ b, near b = decide (((pd : Int) - b).natAbs ≤ limit * 256)) (b : Nat) : pdNear pd b limit = near b := (h b).symm

section
variable {s : State} {rq : Requester} {k : Fin 2} {st : Nat} {x : TbDom} {w : Word} {refused : Dev}

theorem domainAdjust_settled (h : s.Ready rq 0) (hx : x = s.dev.dom k.val) (hst : st = s.dev.get F.TB_D_STAT_STATE k.val) (hlen : k.val < s.dev.tb.doms.length)
    (hrefused : refused = s.dev.set F.TB_D_STAT_REFUSED (Nat.min 65535 (s.dev.get F.TB_D_STAT_REFUSED k.val + 1)) k.val) {a : Int} {g : Nat}
    (ha : a = signed 64 (w.toNat * 2 ^ 32 + s.dev.get F.TB_D_ADJ k.val % 2 ^ 32))
    (hg : g = (if a.natAbs ≤ s.dev.get F.TB_CFG2_CONFIRM_TOL then x.good + 1 else 0)) :
    (st = 4 → Gives (.domainAdjust rq k w) s refused) ∧
    (st ≠ 3 → st ≠ 4 → a.natAbs ≤ s.dev.get F.TB_CFG_JUMP_LIMIT ∨ x.first = true ∨ x.force = true →
      Completes (.domainAdjust rq k w) s (fun d => d.domT k.val = s.dev.domT k.val + a * 2 ^ 32 ∧ (d.dom k.val).first = false ∧ (d.dom k.val).force = false ∧
        (¬ (st = 1 ∧ 8 ≤ g) → (d.dom k.val).good = g ∧ d.regs = s.dev.regs) ∧
        (st = 1 → 8 ≤ g → d.get F.TB_D_STAT_STATE k.val = 2 ∧ d.get F.TB_D_STAT_HCAUSE k.val = 0 ∧ (d.dom k.val).accepted = false))) ∧
    (st ≠ 3 → st ≠ 4 → s.dev.get F.TB_CFG_JUMP_LIMIT < a.natAbs → x.first = false → x.force = false →
      Completes (.domainAdjust rq k w) s (fun d => d = (refused.modDom k.val (fun y => { y with good := 0 })).report 303 ∧ d.domT k.val = s.dev.domT k.val ∧
        d.get F.TB_D_STAT_REFUSED k.val = Nat.min 65535 (s.dev.get F.TB_D_STAT_REFUSED k.val + 1) ∧ has d.flt.status (fkey 303 0) = true)) ∧
    (st = 3 → ∀ e, e = (s.dev.modDom k.val (fun y => { y with pend := some a })).set F.TB_D_STAT_PENDING 1 k.val →
      (s.dev.get F.TB_D_STAT_PERSIST k.val ≠ 64 ∨ s.dev.get F.TB_D_STAT_HCAUSE k.val < 2 → Gives (.domainAdjust rq k w) s e) ∧
      (s.dev.get F.TB_D_STAT_PERSIST k.val = 64 → 2 ≤ s.dev.get F.TB_D_STAT_HCAUSE k.val → Gives (.domainAdjust rq k w) s (e.confirm k.val))) := by
  subst hx hst
  refine ⟨fun h4 => ?_, fun h3 h4 hok => ?_, fun h3 h4 hbig hfirst hforce => ?_, fun h3 e he => ?_⟩
  · exact (ha ▸ gives_domainAdjust h w).congr ((Dev.adjustDom_master h4).trans ((s.dev.refuseDom_eq k.val).trans hrefused.symm))
  · have haccept := (Dev.adjustDom_open (a := a) h3 h4).trans (if_pos (by simpa only [Bool.or_eq_true, decide_eq_true_eq, or_assoc] using hok))
    exact ⟨_, (ha ▸ gives_domainAdjust h w).congr haccept, Dev.acceptDom_spec hlen h4 hg rfl⟩
  · exact completes_domainAdjust_refused h hrefused ha h3 h4 hlen hbig hfirst hforce
  · have hheld := (ha ▸ gives_domainAdjust h w).congr (Dev.adjustDom_held (a := a) h3)
    have hpend : s.dev.pendDom k.val (some a) = e := he.symm
    have hpersist : e.get F.TB_D_STAT_PERSIST k.val = s.dev.get F.TB_D_STAT_PERSIST k.val := by rw [he]; exact Dev.get_set_distinct _ (by decide) ..
    have hcause : e.get F.TB_D_STAT_HCAUSE k.val = s.dev.get F.TB_D_STAT_HCAUSE k.val := by rw [he]; exact Dev.get_set_distinct _ (by decide) ..
    rw [hpend, hpersist, hcause] at hheld
    refine ⟨fun hor => hheld.congr (if_neg ?_), fun h64 h2 => hheld.congr (if_pos ?_)⟩
    · rcases hor with hor | hor <;> simp [hor]
    · simp [h64, h2]

theorem pathDelay_settled (h : s.Ready rq 0) (hx : x = s.dev.dom k.val) (hst : st = s.dev.get F.TB_D_STAT_STATE k.val) (hlen : k.val < s.dev.tb.doms.length)
    (hrefused : refused = s.dev.set F.TB_D_STAT_REFUSED (Nat.min 65535 (s.dev.get F.TB_D_STAT_REFUSED k.val + 1)) k.val) {near : Nat → Bool} {e : Dev}
    (hnear : ∀ b, near b = decide (((w.toNat : Int) - b).natAbs ≤ s.dev.get F.TB_CFG2_PD_STEP_LIMIT * 256))
    (he : e = (s.dev.set F.TB_D_PD w.toNat k.val).modDom k.val (fun y => { y with pdAt := s.dev.raw })) :
    (st = 4 → Gives (.pathDelayWrite rq k w) s refused) ∧
    (st = 2 → x.accepted = true → near (s.dev.get F.TB_D_ACPD k.val) = false →
      Completes (.pathDelayWrite rq k w) s (fun d => d = (((e.domState k.val 3 2).modDom k.val (fun y => { y with cand := w.toNat })).set F.TB_D_STAT_PERSIST 1 k.val).report (304 + k.val) ∧
        d.get F.TB_D_STAT_STATE k.val = 3 ∧ d.get F.TB_D_STAT_HCAUSE k.val = 2 ∧ d.get F.TB_D_STAT_PERSIST k.val = 1 ∧ (d.dom k.val).cand = w.toNat ∧
        d.get F.TB_D_ACPD k.val = s.dev.get F.TB_D_ACPD k.val ∧ has d.flt.status (fkey (304 + k.val) 0) = true)) ∧
    (st = 2 → x.accepted = false ∨ near (s.dev.get F.TB_D_ACPD k.val) = true →
      Gives (.pathDelayWrite rq k w) s ((e.set F.TB_D_ACPD w.toNat k.val).modDom k.val (fun y => { y with accepted := true }))) ∧
    (st = 3 → s.dev.get F.TB_D_STAT_HCAUSE k.val = 1 → Gives (.pathDelayWrite rq k w) s ((e.domState k.val 1 0).modDom k.val (fun y => { y with good := 0 }))) ∧
    (st = 3 → s.dev.get F.TB_D_STAT_HCAUSE k.val ≠ 1 → ∀ p, p = s.dev.get F.TB_D_STAT_PERSIST k.val →
      (near x.cand = false → Gives (.pathDelayWrite rq k w) s ((e.modDom k.val (fun y => { y with cand := w.toNat })).set F.TB_D_STAT_PERSIST 1 k.val)) ∧
      (near x.cand = true → p < 63 → Gives (.pathDelayWrite rq k w) s (e.set F.TB_D_STAT_PERSIST (p + 1) k.val)) ∧
      (near x.cand = true → 63 ≤ p → Gives (.pathDelayWrite rq k w) s ((e.set F.TB_D_STAT_PERSIST 64 k.val).confirm k.val))) ∧
    (st ≠ 2 → st ≠ 3 → st ≠ 4 → Gives (.pathDelayWrite rq k w) s e) := by
  subst hx hst
  have hgives := (gives_pathDelay h w).congr (s.dev.pathDelay_eq k.val w.toNat)
  have hdelayed : s.dev.delayed k.val w.toNat = e := he.symm
  have hget (g : Field) (hg : g.distinct F.TB_D_PD = true) (i j : Nat) : e.get g i j = s.dev.get g i j := hdelayed ▸ Dev.get_delayed _ _ _ hg i j
  have hdom : e.dom k.val = { s.dev.dom k.val with pdAt := s.dev.raw } := hdelayed ▸ Dev.dom_delayed hlen _
  have helen : k.val < e.tb.doms.length := by
    rw [he, Dev.length_modDom]
    exact hlen
  have hlimit := hget F.TB_CFG2_PD_STEP_LIMIT (by decide) 0 0
  have hnear' : ∀ b, pdNear w.toNat b (e.get F.TB_CFG2_PD_STEP_LIMIT) = near b := fun b => hlimit ▸ pdNear_eq hnear b
  rw [hdelayed] at hgives
  refine ⟨fun h4 => ?_, fun h2 hacc hfar => ?_, fun h2 hor => ?_, fun h3 hc => ?_, fun h3 hc p hp => ?_, fun h2 h3 h4 => ?_⟩
  · exact hgives.congr ((if_pos h4).trans ((s.dev.refuseDom_eq k.val).trans hrefused.symm))
  · have hacpd := hget F.TB_D_ACPD (by decide) k.val 0
    have hlocked : e.delayLocked k.val w.toNat = _ := if_pos (by rw [hdom, hnear', hacpd, hfar, hacc]; rfl)
    obtain ⟨k1, k2, k3, k4, k5, k6⟩ := Dev.delay_jumped (pd := w.toNat) helen rfl
    exact ⟨_, hgives.congr ((if_neg (by omega)).trans ((if_pos h2).trans hlocked)), rfl, k1, k2, k3, k4, k5.trans hacpd, k6⟩
  · have hlocked : e.delayLocked k.val w.toNat = _ := if_neg (by
      rw [hdom, hnear', hget F.TB_D_ACPD (by decide)]
      rcases hor with hor | hor <;> simp [hor])
    exact hgives.congr ((if_neg (by omega)).trans ((if_pos h2).trans hlocked))
  · have hheld : e.delayHeld k.val w.toNat = _ := if_pos ((hget F.TB_D_STAT_HCAUSE (by decide) _ _).trans hc)
    exact hgives.congr ((if_neg (by omega)).trans ((if_neg (by omega)).trans ((if_pos h3).trans hheld)))
  · have hheld := hgives.congr ((if_neg (by omega)).trans ((if_neg (by omega)).trans ((if_pos h3).trans
      (if_neg (fun h => hc ((hget F.TB_D_STAT_HCAUSE (by decide) k.val 0).symm.trans h))))))
    rw [hnear', hget F.TB_D_STAT_PERSIST (by decide), ← hp, show (e.dom k.val).cand = (s.dev.dom k.val).cand by rw [hdom], Dev.get_set_self, sat_min] at hheld
    refine ⟨fun hfar => hheld.congr (if_neg (by rw [hfar]; decide)), fun hclose hlt => ?_, fun hclose hge => ?_⟩
    · have hmin : Nat.min 64 (p + 1) = p + 1 := Nat.min_eq_right (by omega)
      rw [hmin] at hheld
      exact hheld.congr ((if_pos hclose).trans (if_neg (by
        have h128 : (p + 1) % 2 ^ F.TB_D_STAT_PERSIST.width = p + 1 := Nat.mod_eq_of_lt (lt_of_lt_of_le (Nat.succ_lt_succ hlt) (by decide))
        rw [h128]
        omega)))
    · have hmin : Nat.min 64 (p + 1) = 64 := Nat.min_eq_left (by omega)
      rw [hmin] at hheld
      exact hheld.congr ((if_pos hclose).trans (if_pos (by decide)))
  · exact hgives.congr ((if_neg h4).trans ((if_neg h2).trans (if_neg h3)))

end

/-- Settles O17: a domain's time is its own clock in every state but MASTER, and each command sets that clock or the state beside it. -/
theorem domainsChangeState : Obligations.DomainsChangeState := by
  unfold Obligations.DomainsChangeState
  intro k s x st hx hst hlen
  refine ⟨fun rq refused hrefused h => ⟨fun w a g ha hg => domainAdjust_settled h hx hst hlen hrefused ha hg, fun w => ⟨fun h3 up => ?_, fun h3 => ⟨?_, fun v hv => ?_⟩⟩,
    fun w near e hnear he => pathDelay_settled h hx hst hlen hrefused hnear he⟩, fun d hd => ⟨Dev.confirm_none, fun c ok hc hok => ?_⟩, fun hor hle => ?_, fun hor => ?_,
    fun rq h => ⟨givesAudited_domainForce h k, fun hor => ?_, fun h3 h2 => ?_, fun w en master hen hm => completesAudited_domainEnable h k hlen hst w hen hm⟩⟩
  · exact (gives_domainAddend h up w).congr ((if_pos (hst ▸ h3)).trans ((s.dev.refuseDom_eq k.val).trans hrefused.symm))
  · exact (gives_domainAddend h false w).congr ((if_neg (by omega)).trans (s.dev.writeAddend_domain_lower k.val w))
  · exact completes_domainAddend h hlen (hst ▸ h3) w hv
  · subst hok
    refine ⟨fun hagree h3 => ?_, fun hno h3 => Dev.confirm_fails_spec hc hno h3⟩
    obtain ⟨hclock, hdom, -, hstate, hpending, hpersist, hacpd⟩ := Dev.lock_takes hd h3 _ (Dev.confirm_locks hc hagree)
    rw [hc] at hclock hpending
    exact ⟨hclock, by rw [hdom], hstate, hpending (by simp), hpersist, hacpd⟩
  · subst hx hst
    obtain ⟨hstate, hcause⟩ := s.dev.report_domState k 308 3 1
    exact ⟨_, (gives_domainTimeout k s).congr (if_pos ((Bool.and_eq_true ..).mpr ⟨by simpa using hor, decide_eq_true hle⟩)), rfl, hstate, hcause, Dev.has_status_report _ 308 0 (by decide)⟩
  · subst hx hst
    refine (gives_domainTimeout k s).congr (if_neg ?_)
    rw [Bool.and_eq_true, Bool.or_eq_true, decide_eq_true_eq, decide_eq_true_eq, decide_eq_true_eq]
    rintro ⟨h12, hle⟩
    rcases hor with ⟨h1, h2⟩ | hlt
    · exact h12.elim h1 h2
    · exact absurd hle (Nat.not_le.mpr hlt)
  · have hstay : (s.dev.touch rq).ackDom k.val = s.dev.touch rq := if_neg (by
      rw [Dev.get_touch, Dev.get_touch, ← hst]
      rcases hor with h | h <;> simp [h])
    exact hstay ▸ givesAudited_domainAck h k
  · obtain ⟨old, new, hrow⟩ := givesAudited_domainAck h k
    have htb := s.dev.tb_touch rq
    have hspec := Dev.ackDom_spec (d := s.dev.touch rq) (k := k.val) (by rw [htb]; exact hlen) (by rw [Dev.get_touch, ← hst, h3]) (by rw [Dev.get_touch]; exact h2)
    rw [Dev.get_touch, Dev.domT_touch, Dev.dom_of_tb htb, ← hx] at hspec
    exact ⟨_, old, new, hrow, hspec⟩

end Sys2Proof.Machine
end


section
/-! PROOF. Power-up, brown-out and the wake sources (R431 to R433, R447, R448). -/

namespace Sys2Proof.Machine

/-! ### What a reset keeps (R433, R435) -/

theorem RegFile.find_filter_none {p : Nat × Nat → Bool} {k : Nat} (h : ∀ v, p (k, v) = false) (r : RegFile) : RegFile.find k (r.filter p) = none := by
  induction r with
  | nil => rfl
  | cons e r ih =>
    rw [List.filter_cons]
    split
    · next hp =>
      have hne : e.1 ≠ k := fun he => Bool.false_ne_true ((h e.2).symm.trans (by rw [← he]; exact hp))
      rw [RegFile.find, if_neg hne, ih]
    · exact ih

/-- Does a reset keep a key. -/
def keptKey (p : Keep → Bool) (k : Nat) : Bool := (fieldsAt (k / 64)).any (fun x => x.1.lo = k % 64 && x.2.2.2 = 0 && p x.1.keep)

/-- A field that a reset does not keep has its reset value. -/
theorem Dev.get_keptRegs {d e : Dev} {p : Keep → Bool} (he : e.regs = d.keptRegs p) {f : Field} {i j : Nat} (hk : keptKey p (f.key i j) = false) : e.get f i j = f.resetVal i j := by
  have hnone : RegFile.find (f.key i j) (d.keptRegs p) = none := RegFile.find_filter_none (fun _ => hk) d.regs
  have hget : e.get f i j = (RegFile.find (f.key i j) e.regs).getD (f.resetVal i j) := rfl
  rw [hget, he, hnone]
  rfl

theorem Dev.fixed_portsOff (d : Dev) : d.portsOff.fixed = d.fixed := foldl_keeps Dev.fixed _ (fun d p => Dev.fixed_disablePort d p []) _ _

/-- Every domain but AON without power. -/
theorem Dev.unpowered_spec (d : Dev) (st : PowerState) :
    (d.unpowered st).regs = d.portsOff.keptRegs (fun k => k = .aon) ∧ (d.unpowered st).jobs = [] ∧ (d.unpowered st).raw = 0 ∧ (d.unpowered st).aon = d.aon ∧
      (d.unpowered st).mram = d.mram := by
  have hfix := d.fixed_portsOff
  have haon := Dev.aon_of_fixed hfix
  have hmram := Dev.mram_of_fixed hfix
  simp only [Dev.unpowered]
  generalize d.portsOff = q at haon hmram ⊢
  split <;> exact ⟨rfl, rfl, rfl, haon, hmram⟩

theorem brownout_on {s : State} (hon : s.dev.pwr.st = .on) : ∃ t, exec .brownout s = .next t ∧ t.pending = s.pending ∧ t.dev.pwr.st = .brownout ∧ t.dev.pwr.pwrEn = 0 ∧
    t.dev.get F.SYS_AON_STAT_BROWNOUT = 1 ∧ t.dev.get F.SYS_STAT_PHASE = 0 ∧ t.dev.jobs = [] ∧ t.dev.raw = 0 ∧ t.dev.aon = s.dev.aon ∧ t.dev.mram = s.dev.mram ∧
    t.audit = { s.audit with queue := [], stalled := [] } := by
  obtain ⟨hregs, hjobs, hraw, haon, hmram⟩ := s.dev.unpowered_spec .brownout
  obtain ⟨hst, hen, -⟩ := s.dev.unpowered_off .brownout
  have hrun : exec .brownout s = .next { s with dev := (s.dev.unpowered .brownout).set F.SYS_AON_STAT_BROWNOUT 1, audit := s.audit.afterReset false } :=
    by simp only [exec, execBrownout, hon, if_true]
  generalize s.dev.unpowered .brownout = v at hregs hjobs hraw haon hmram hst hen hrun
  refine ⟨_, hrun, rfl, hst, hen, Dev.get_set_self .., ?_, hjobs, hraw, haon, hmram, rfl⟩
  exact (Dev.get_set_distinct _ (by decide) ..).trans (Dev.get_keptRegs hregs (by decide +kernel))

/-! ### The outputs rise (R432) -/

theorem Dev.driveEn_keeps (d : Dev) (v : Nat) : (d.driveEn v).pwr = { d.pwr with pwrEn := v } ∧ (d.driveEn v).regs = d.regs ∧ (d.driveEn v).aon = d.aon := by
  unfold Dev.driveEn
  split
  · next h =>
    refine ⟨?_, rfl, rfl⟩
    rw [← h]
  · exact ⟨rfl, rfl, rfl⟩

theorem gives_powerSequence (s : State) : Gives .powerSequence s s.dev.powerStep := rfl

theorem Dev.powerStep_rising {d : Dev} {n : Nat} (h : d.pwr.st = .rising n) : d.powerStep =
    if n = 0 then (d.driveEn 1).modPwr (fun p => { p with st := .rising 1, since := d.aon })
    else if 4 ≤ n then d.modPwr (fun p => { p with st := .on, since := d.aon, attempts := 0 })
    else if d.pwr.since + 1000000 ≤ d.aon then (d.driveEn (2 ^ (n + 1) - 1)).modPwr (fun p => { p with st := .rising (n + 1), since := d.aon })
    else d := by
  unfold Dev.powerStep
  rw [h]

theorem Dev.powerStep_stands {d : Dev} (h : ∀ n, d.pwr.st ≠ .rising n) : d.powerStep = d := by
  unfold Dev.powerStep
  split
  · next n hn => exact absurd hn (h n)
  · rfl

/-- A rail has not become good. -/
def Dev.railLost (d : Dev) (n : Nat) : Dev :=
  (((d.driveEn 0).bump F.SYS_AON_STAT_RAIL_FAILS).set F.SYS_AON_STAT_RAIL (n - 1)).modPwr
    (fun p => { p with st := if 2 ≤ p.attempts then .off else .retry, attempts := p.attempts + 1, since := d.aon, downAt := d.aon, thermal := false })

/-- The end of the time that a rail has. -/
def Dev.railEnd (d : Dev) : Dev :=
  match d.pwr.st with
  | .rising n => if n ≠ 0 && d.pwr.since + 10000000 ≤ d.aon then d.railLost n else d
  | _ => d

theorem gives_railTimeout (s : State) : Gives .railTimeout s s.dev.railEnd := by
  have haon (n : Nat) : ((((s.dev.driveEn 0).bump F.SYS_AON_STAT_RAIL_FAILS).set F.SYS_AON_STAT_RAIL (n - 1))).aon = s.dev.aon := (s.dev.driveEn_keeps 0).2.2
  simp only [Gives, exec, execRailTimeout, State.onDev, haon]
  unfold Dev.railEnd
  cases s.dev.pwr.st <;> rfl

theorem Dev.railEnd_rising {d : Dev} {n : Nat} (h : d.pwr.st = .rising n) : d.railEnd = if n ≠ 0 && d.pwr.since + 10000000 ≤ d.aon then d.railLost n else d := by
  unfold Dev.railEnd
  rw [h]

theorem Dev.railEnd_stands {d : Dev} (h : ∀ n, d.pwr.st ≠ .rising n) : d.railEnd = d := by
  unfold Dev.railEnd
  split
  · next n hn => exact absurd hn (h n)
  · rfl

theorem Dev.railLost_spec (d : Dev) (n : Nat) : (d.railLost n).pwr.st = (if 2 ≤ d.pwr.attempts then .off else .retry) ∧ (d.railLost n).pwr.attempts = d.pwr.attempts + 1 ∧
    (d.railLost n).pwr.pwrEn = 0 ∧ (d.railLost n).get F.SYS_AON_STAT_RAIL = (n - 1) % 4 ∧
    (d.railLost n).get F.SYS_AON_STAT_RAIL_FAILS = Nat.min 255 (d.get F.SYS_AON_STAT_RAIL_FAILS + 1) := by
  obtain ⟨hpwr, hregs, -⟩ := d.driveEn_keeps 0
  have hp : (d.railLost n).pwr = { (d.driveEn 0).pwr with
    st := if 2 ≤ (d.driveEn 0).pwr.attempts then .off else .retry, attempts := (d.driveEn 0).pwr.attempts + 1, since := d.aon, downAt := d.aon, thermal := false } := rfl
  have hfails : (d.railLost n).get F.SYS_AON_STAT_RAIL_FAILS = ((d.driveEn 0).bump F.SYS_AON_STAT_RAIL_FAILS).get F.SYS_AON_STAT_RAIL_FAILS :=
    Dev.get_set_distinct _ (by decide) ..
  rw [hp, hpwr, hfails, Dev.bump, Dev.get_set_self, Dev.get_of_regs hregs, sat_min]
  exact ⟨rfl, rfl, rfl, Dev.get_set_self .., Nat.mod_eq_of_lt (Nat.lt_succ_of_le (Nat.min_le_left _ _))⟩

/-- The rows of a part whose outputs rise. -/
theorem rising_settled {s : State} {n : Nat} (h : s.dev.pwr.st = .rising n) :
    (n = 0 → Completes .powerSequence s (fun d => d.pwr.st = .rising 1 ∧ d.pwr.pwrEn = 1 ∧ d.pwr.since = s.dev.aon) ∧ Gives .railTimeout s s.dev) ∧
    (0 < n → n < 4 → s.dev.pwr.since + 1000000 ≤ s.dev.aon → Completes .powerSequence s (fun d => d.pwr.st = .rising (n + 1) ∧ d.pwr.since = s.dev.aon ∧ d.pwr.pwrEn = 2 ^ (n + 1) - 1 ∧ d.regs = s.dev.regs)) ∧
    (0 < n → n < 4 → s.dev.aon < s.dev.pwr.since + 1000000 → Gives .powerSequence s s.dev) ∧
    (4 ≤ n → Gives .powerSequence s { s.dev with pwr := { s.dev.pwr with st := .on, since := s.dev.aon, attempts := 0 } }) ∧
    (0 < n → s.dev.pwr.since + 10000000 ≤ s.dev.aon → Completes .railTimeout s (fun d => d.pwr.st = (if 2 ≤ s.dev.pwr.attempts then .off else .retry) ∧ d.pwr.attempts = s.dev.pwr.attempts + 1 ∧ d.pwr.pwrEn = 0 ∧
      d.get F.SYS_AON_STAT_RAIL = (n - 1) % 4 ∧ d.get F.SYS_AON_STAT_RAIL_FAILS = Nat.min 255 (s.dev.get F.SYS_AON_STAT_RAIL_FAILS + 1))) ∧
    (s.dev.aon < s.dev.pwr.since + 10000000 → Gives .railTimeout s s.dev) := by
  have hstep := (gives_powerSequence s).congr (Dev.powerStep_rising h)
  have hrail := (gives_railTimeout s).congr (Dev.railEnd_rising h)
  refine ⟨fun h0 => ⟨⟨_, hstep.congr (if_pos h0), rfl, ?_, rfl⟩, hrail.congr (if_neg (by simp [h0]))⟩, fun hpos hlt hle => ?_, fun hpos hlt hless => ?_, fun h4 => ?_, fun hpos hle => ?_, fun hless => ?_⟩
  · exact congrArg PowerSt.pwrEn (s.dev.driveEn_keeps 1).1
  · obtain ⟨hpwr, hregs, -⟩ := s.dev.driveEn_keeps (2 ^ (n + 1) - 1)
    exact ⟨_, hstep.congr ((if_neg (by omega)).trans ((if_neg (by omega)).trans (if_pos hle))), rfl, rfl, congrArg PowerSt.pwrEn hpwr, hregs⟩
  · exact hstep.congr ((if_neg (by omega)).trans ((if_neg (by omega)).trans (if_neg (by omega))))
  · exact hstep.congr ((if_neg (by omega)).trans (if_pos h4))
  · exact ⟨_, hrail.congr (if_pos ((Bool.and_eq_true ..).mpr ⟨decide_eq_true (by omega), decide_eq_true hle⟩)), s.dev.railLost_spec n⟩
  · exact hrail.congr (if_neg (fun hc => absurd (of_decide_eq_true ((Bool.and_eq_true ..).mp hc).2) (Nat.not_le.mpr hless)))

/-! ### Restarts -/

theorem gives_railRetry (s : State) : Gives .railRetry s
    (if s.dev.pwr.st = .retry && s.dev.pwr.since + 1000000000 ≤ s.dev.aon then s.dev.modPwr (fun p => { p with st := .rising 0, since := s.dev.aon }) else s.dev) := rfl

theorem gives_brownoutRestart (s : State) : Gives .brownoutRestart s
    (if s.dev.pwr.st = .brownout && s.dev.pwr.since + 10000000 ≤ s.dev.aon then
      (s.dev.set F.SYS_AON_STAT_WOKE_BY 0).modPwr (fun p => { p with st := .rising 0, since := s.dev.aon, attempts := 0, wake := .powerOn }) else s.dev) := rfl

theorem gives_vbatLoss (s : State) : Gives .vbatLoss s (if s.dev.pwr.pwrEn.testBit 1 then s.dev.set F.SYS_AON_STAT_VBAT_LOW 1 else s.dev) := rfl

theorem not_and_of {p q : Prop} [Decidable p] [Decidable q] (h : ¬ p ∨ ¬ q) : ¬ (decide p && decide q) = true := by
  rcases h with h | h <;> simp [h]

/-! ### Wake sources (R448) -/

/-- A part that a wake source has started. -/
def Dev.Woken (d : Dev) (w : Wake) : Prop := d.pwr.st = .rising 0 ∧ d.get F.SYS_AON_STAT_WOKE_BY = w.code ∧ d.pwr.wake = w ∧ d.pwr.heldWake = none

theorem Dev.woken_wakeUp (d : Dev) (w : Wake) : (d.wakeUp w).Woken w := by
  refine ⟨rfl, ?_, rfl, rfl⟩
  exact (Dev.get_set_self ..).trans (by cases w <;> rfl)

/-- A part without power that a wake source may start. -/
def Dev.Rests (d : Dev) : Prop := d.pwr.st = .standby ∨ d.pwr.st = .off

theorem Dev.rests_iff (d : Dev) : (d.pwr.st = .standby || d.pwr.st = .off) = true ↔ d.Rests := by
  simp [Dev.Rests]

theorem Dev.wakeBy_awake {d : Dev} (h : ¬ d.Rests) (w : Wake) (en : Bool) : d.wakeBy w en = d := by
  have hst : (d.pwr.st = .standby || d.pwr.st = .off) = false := by
    rw [← Bool.not_eq_true, Dev.rests_iff]
    exact h
  exact if_pos (by rw [hst]; simp)

theorem Dev.wakeBy_off (d : Dev) (w : Wake) : d.wakeBy w false = d := rfl

theorem Dev.wakeBy_now {d : Dev} (h : d.Rests) (hle : d.wakeFrom ≤ d.aon) (w : Wake) : d.wakeBy w true = d.wakeUp w := by
  have hst := d.rests_iff.mpr h
  exact (if_neg (by rw [hst]; decide)).trans (if_pos hle)

theorem Dev.wakeBy_held {d : Dev} (h : d.Rests) (hlt : d.aon < d.wakeFrom) (w : Wake) :
    d.wakeBy w true = { d with pwr := { d.pwr with heldWake := some (d.pwr.heldWake.getD w) } } := by
  have hst := d.rests_iff.mpr h
  exact (if_neg (by rw [hst]; decide)).trans (if_neg (Nat.not_le.mpr hlt))

theorem gives_wakeTimer (s : State) : Gives .wakeTimer s
    (s.dev.wakeBy .timer (s.dev.get F.SYS_WAKE_CFG_TIMER_S ≠ 0 && s.dev.pwr.downAt + s.dev.get F.SYS_WAKE_CFG_TIMER_S * 1000000000 ≤ s.dev.aon)) := rfl

theorem gives_safeCsWake (s : State) : Gives .safeCsWake s (s.dev.wakeBy .safeCs (s.dev.flag F.SYS_WAKE_CFG_CS_EN)) := rfl

theorem gives_perstWake (s : State) : Gives .perstWake s ((s.dev.withPerst true).wakeBy .perst (s.dev.flag F.SYS_WAKE_CFG_PERST_EN)) := rfl

/-- The end of the time that a wake source is held. -/
def Dev.wakeHeld (d : Dev) : Dev :=
  match d.pwr.heldWake with
  | some w => if (d.pwr.st = .standby || d.pwr.st = .off) && d.wakeFrom ≤ d.aon then d.wakeUp w else d
  | none => d

theorem gives_wakeHoldExpire (s : State) : Gives .wakeHoldExpire s s.dev.wakeHeld := rfl

theorem Dev.wakeHeld_none {d : Dev} (h : d.pwr.heldWake = none) : d.wakeHeld = d := by
  unfold Dev.wakeHeld
  rw [h]

theorem Dev.wakeHeld_wakes {d : Dev} {w : Wake} (hw : d.pwr.heldWake = some w) (h : d.Rests) (hle : d.wakeFrom ≤ d.aon) : d.wakeHeld = d.wakeUp w := by
  have hst := d.rests_iff.mpr h
  unfold Dev.wakeHeld
  rw [hw]
  exact if_pos (by rw [hst, decide_eq_true hle]; rfl)

theorem Dev.wakeHeld_stays {d : Dev} (h : ¬ d.Rests ∨ d.aon < d.wakeFrom) : d.wakeHeld = d := by
  unfold Dev.wakeHeld
  split
  · refine if_neg (fun hc => ?_)
    obtain ⟨hst, hle⟩ := (Bool.and_eq_true ..).mp hc
    exact h.elim (fun h => h (d.rests_iff.mp hst)) (fun h => absurd (of_decide_eq_true hle) (Nat.not_le.mpr h))
  · rfl

theorem timer_due {d : Dev} (h : d.get F.SYS_WAKE_CFG_TIMER_S ≠ 0) (hle : d.pwr.downAt + d.get F.SYS_WAKE_CFG_TIMER_S * 1000000000 ≤ d.aon) :
    (d.get F.SYS_WAKE_CFG_TIMER_S ≠ 0 && d.pwr.downAt + d.get F.SYS_WAKE_CFG_TIMER_S * 1000000000 ≤ d.aon) = true :=
  (Bool.and_eq_true ..).mpr ⟨decide_eq_true h, decide_eq_true hle⟩

theorem timer_not_due {d : Dev} (h : d.get F.SYS_WAKE_CFG_TIMER_S = 0 ∨ d.aon < d.pwr.downAt + d.get F.SYS_WAKE_CFG_TIMER_S * 1000000000) :
    (d.get F.SYS_WAKE_CFG_TIMER_S ≠ 0 && d.pwr.downAt + d.get F.SYS_WAKE_CFG_TIMER_S * 1000000000 ≤ d.aon) = false :=
  Bool.eq_false_iff.mpr (not_and_of (h.imp (fun h => not_not.mpr h) Nat.not_le.mpr))

/-- What the wake sources do to a part that stands in standby or off. -/
theorem wakes_settled {s : State} (h : s.dev.Rests) :
    (s.dev.wakeFrom ≤ s.dev.aon →
      (s.dev.get F.SYS_WAKE_CFG_TIMER_S ≠ 0 → s.dev.pwr.downAt + s.dev.get F.SYS_WAKE_CFG_TIMER_S * 1000000000 ≤ s.dev.aon → Completes .wakeTimer s (fun d => d.Woken .timer)) ∧
      (s.dev.get F.SYS_WAKE_CFG_CS_EN ≠ 0 → Completes .safeCsWake s (fun d => d.Woken .safeCs)) ∧
      (s.dev.get F.SYS_WAKE_CFG_PERST_EN ≠ 0 → Completes .perstWake s (fun d => d.Woken .perst ∧ d.pins.perst = true)) ∧
      (∀ w, s.dev.pwr.heldWake = some w → Completes .wakeHoldExpire s (fun d => d.Woken w))) ∧
    (s.dev.aon < s.dev.wakeFrom →
      (s.dev.get F.SYS_WAKE_CFG_TIMER_S ≠ 0 → s.dev.pwr.downAt + s.dev.get F.SYS_WAKE_CFG_TIMER_S * 1000000000 ≤ s.dev.aon →
        Gives .wakeTimer s { s.dev with pwr := { s.dev.pwr with heldWake := some (s.dev.pwr.heldWake.getD .timer) } }) ∧
      (s.dev.get F.SYS_WAKE_CFG_CS_EN ≠ 0 → Gives .safeCsWake s { s.dev with pwr := { s.dev.pwr with heldWake := some (s.dev.pwr.heldWake.getD .safeCs) } }) ∧
      (s.dev.get F.SYS_WAKE_CFG_PERST_EN ≠ 0 →
        Gives .perstWake s { s.dev with pins := { s.dev.pins with perst := true }, pwr := { s.dev.pwr with heldWake := some (s.dev.pwr.heldWake.getD .perst) } }) ∧
      Gives .wakeHoldExpire s s.dev) := by
  have htimer (hne : s.dev.get F.SYS_WAKE_CFG_TIMER_S ≠ 0) (hdue : s.dev.pwr.downAt + s.dev.get F.SYS_WAKE_CFG_TIMER_S * 1000000000 ≤ s.dev.aon) :
      Gives .wakeTimer s (s.dev.wakeBy .timer true) := timer_due hne hdue ▸ gives_wakeTimer s
  have hcs (hne : s.dev.get F.SYS_WAKE_CFG_CS_EN ≠ 0) : Gives .safeCsWake s (s.dev.wakeBy .safeCs true) :=
    (gives_safeCsWake s).congr (congrArg _ ((Dev.flag_eq_true ..).mpr hne))
  have hperst (hne : s.dev.get F.SYS_WAKE_CFG_PERST_EN ≠ 0) : Gives .perstWake s ((s.dev.withPerst true).wakeBy .perst true) :=
    (gives_perstWake s).congr (congrArg _ ((Dev.flag_eq_true ..).mpr hne))
  have hrests : (s.dev.withPerst true).Rests := h
  refine ⟨fun hle => ⟨fun hne hdue => ?_, fun hne => ?_, fun hne => ?_, fun w hw => ?_⟩, fun hlt => ⟨fun hne hdue => ?_, fun hne => ?_, fun hne => ?_, ?_⟩⟩
  · exact ⟨_, (htimer hne hdue).congr (Dev.wakeBy_now h hle _), Dev.woken_wakeUp _ _⟩
  · exact ⟨_, (hcs hne).congr (Dev.wakeBy_now h hle _), Dev.woken_wakeUp _ _⟩
  · exact ⟨_, (hperst hne).congr (Dev.wakeBy_now hrests hle _), Dev.woken_wakeUp _ _, rfl⟩
  · exact ⟨_, (gives_wakeHoldExpire s).congr (Dev.wakeHeld_wakes hw h hle), Dev.woken_wakeUp _ _⟩
  · exact (htimer hne hdue).congr (Dev.wakeBy_held h hlt _)
  · exact (hcs hne).congr (Dev.wakeBy_held h hlt _)
  · exact (hperst hne).congr (Dev.wakeBy_held hrests hlt _)
  · exact (gives_wakeHoldExpire s).congr (Dev.wakeHeld_stays (.inr hlt))

/-- Settles O22: each command of the always-on domain by the power state that it finds. -/
theorem powerRises : Obligations.PowerRises := by
  unfold Obligations.PowerRises
  refine ⟨fun s => ⟨rfl, fun hoff => congrArg Host.Outcome.next (if_neg hoff), brownout_on, fun hst hle => ?_, fun hor => ?_, fun hon => ?_, fun hoff => ?_⟩,
    fun s n h => rising_settled h, fun s => ⟨fun h => ?_, fun hst hle => ?_, fun hor => ?_⟩, ?_⟩
  · exact (gives_brownoutRestart s).congr (if_pos ((Bool.and_eq_true ..).mpr ⟨decide_eq_true hst, decide_eq_true hle⟩))
  · exact (gives_brownoutRestart s).congr (if_neg (not_and_of (hor.imp id Nat.not_le.mpr)))
  · exact (gives_vbatLoss s).congr (if_pos hon)
  · exact (gives_vbatLoss s).congr (if_neg (by rw [hoff]; decide))
  · exact ⟨(gives_powerSequence s).congr (Dev.powerStep_stands h), (gives_railTimeout s).congr (Dev.railEnd_stands h)⟩
  · exact (gives_railRetry s).congr (if_pos ((Bool.and_eq_true ..).mpr ⟨decide_eq_true hst, decide_eq_true hle⟩))
  · exact (gives_railRetry s).congr (if_neg (not_and_of (hor.imp id Nat.not_le.mpr)))
  · intro s from' woken hfrom hwoken
    obtain rfl : woken = fun w d => d.Woken w := funext fun w => funext fun d => hwoken w d
    have hfrom' : from' = s.dev.wakeFrom := hfrom
    subst hfrom'
    refine ⟨fun hs ho => ?_, fun h => ?_⟩
    · have hawake : ¬ s.dev.Rests := fun h => h.elim hs ho
      exact ⟨(gives_wakeTimer s).congr (Dev.wakeBy_awake hawake _ _), (gives_safeCsWake s).congr (Dev.wakeBy_awake hawake _ _),
        (gives_wakeHoldExpire s).congr (Dev.wakeHeld_stays (.inl hawake)), (gives_perstWake s).congr (Dev.wakeBy_awake (d := s.dev.withPerst true) hawake _ _)⟩
    · obtain ⟨hnow, hheld⟩ := wakes_settled h
      refine ⟨hnow, hheld, fun hor => ?_, fun h0 => ?_, fun h0 => ?_, fun hn => (gives_wakeHoldExpire s).congr (Dev.wakeHeld_none hn)⟩
      · exact (gives_wakeTimer s).congr ((congrArg _ (timer_not_due hor)).trans (Dev.wakeBy_off _ _))
      · exact (gives_safeCsWake s).congr ((congrArg _ (Dev.flag_zero h0)).trans (Dev.wakeBy_off _ _))
      · exact (gives_perstWake s).congr ((congrArg _ (Dev.flag_zero h0)).trans (Dev.wakeBy_off _ _))

end Sys2Proof.Machine
end


section
/-! PROOF. Calibration records (R350, R353, R354, R357): when a write falls due, SAVE, and what a write leaves of both slots and of the directory. -/

namespace Sys2Proof.Machine

/-! ### A write that falls due (R350) -/

/-- Has MIN_S passed since a kind's latest automatic write. -/
def Dev.calReady (d : Dev) (k : Nat) : Bool :=
  match RegFile.find k d.vin.lastAuto with
  | some t => decide (t + d.get F.VIN_CAL_CFG_MIN_S * 1000000000 ≤ d.raw)
  | none => true

/-- The device with an automatic write begun. -/
def Dev.calTaken (d : Dev) (k : Nat) : Dev :=
  { d with vin := { d.vin with due := removeAll d.vin.due k, lastAuto := (k, d.raw) :: d.vin.lastAuto.filter (fun e => e.1 ≠ k), writing := d.vin.writing ++ [(k, false)] } }

theorem gives_calRecordDue (kind : Fin 9) (s : State) : Gives (.calRecordDue kind) s
    (if s.dev.pwr.st = .on && has s.dev.vin.due kind.val && s.dev.calReady kind.val then s.dev.calTaken kind.val else s.dev) := rfl

theorem Dev.calReady_early {d : Dev} {k t : Nat} (h : RegFile.find k d.vin.lastAuto = some t) (hlt : d.raw < t + d.get F.VIN_CAL_CFG_MIN_S * 1000000000) : d.calReady k = false := by
  unfold Dev.calReady
  rw [h]
  exact decide_eq_false (Nat.not_le.mpr hlt)

theorem Dev.calReady_of {d : Dev} {k : Nat} (h : ∀ t, RegFile.find k d.vin.lastAuto = some t → t + d.get F.VIN_CAL_CFG_MIN_S * 1000000000 ≤ d.raw) : d.calReady k = true := by
  unfold Dev.calReady
  split
  · next t ht => exact decide_eq_true (h t ht)
  · rfl

theorem completes_calRecordDue {kind : Fin 9} {s : State} (hon : s.dev.pwr.st = .on) (hdue : has s.dev.vin.due kind.val = true)
    (h : ∀ t, RegFile.find kind.val s.dev.vin.lastAuto = some t → t + s.dev.get F.VIN_CAL_CFG_MIN_S * 1000000000 ≤ s.dev.raw) :
    Completes (.calRecordDue kind) s (fun d => d.vin.writing = s.dev.vin.writing ++ [(kind.val, false)] ∧ has d.vin.due kind.val = false ∧
      RegFile.find kind.val d.vin.lastAuto = some s.dev.raw ∧ d.regs = s.dev.regs ∧ d.mram = s.dev.mram) := by
  refine ⟨_, (gives_calRecordDue kind s).congr (if_pos ?_), rfl, has_removeAll_self _ _, if_pos rfl, rfl, rfl⟩
  rw [hon, hdue, Dev.calReady_of h]
  rfl

/-! ### SAVE (R357) -/

/-- A row with stored fields that an INSTALLER may write: the word, the idle timer, one audit entry, and the action where its bit is set. -/
theorem State.row_word_audited {s : State} {rq : Requester} {r addr w : Nat} {act : Act} {L : List FieldPart} (h : s.Ready rq r) (cmd : Instr) (f : Dev → Dev)
    (hp : inPages addr = true) (hL : StoredAt (canonAddr rq addr) L)
    (hroles : ∀ x ∈ L, x.1.ordinary ∧ (match x.1.role with | none => true | some y => decide (y.code ≤ r)) = true)
    (hact : (match act.role with | none => true | some x => decide (x.code ≤ r)) = true)
    (haudit : L.any (fun x => auditedRole x.1.role && !silentField x.1) = true) {d : Dev} (hd : d = (s.dev.storeWord rq (canonAddr rq addr) w).touch rq) :
    ∃ old new, s.row rq cmd addr w act f =
      ({ s with dev := if w.testBit act.bit then f d else d } : State).pushAudit (some rq) (s.dev.entry rq addr old new) := by
  have hmay : s.dev.may rq act.role = true := by
    cases hx : act.role with
    | none => rfl
    | some x => rw [hx] at hact; exact Dev.may_of ((of_decide_eq_true hact).trans h.2.2)
  obtain ⟨old, new, hw⟩ := State.write_word_audited (acts := [act]) (w := w) hp h.1 hL (Dev.permits_of h.2.2 hroles)
    (fun y hy => by rw [List.mem_singleton.mp hy]; exact hmay) (by rw [haudit]; rfl)
  have hacts : s.acts rq addr act w = w.testBit act.bit := by simp [State.acts, Dev.acts, Dev.pageOpen_of h.1.1 h.1.2, hmay]
  refine ⟨old, new, ?_⟩
  rw [State.row, State.gate_run h.2.1 _ _ _ _ _ _ _ (by omega)]
  simp only [hacts, hw, State.onDev, ← hd]
  split <;> rfl

theorem storedAt_save (rq : Requester) : StoredAt (canonAddr rq 0xB00A4) [(F.VIN_CAL_CMD_KIND, 0, 0, 0)] := by
  cases rq <;> decide +kernel

/-- The word of a SAVE stored. -/
def Dev.saveWord (d : Dev) (rq : Requester) (w : Word) : Dev := (d.storeWord rq 0xB00A4 w.toNat).touch rq

theorem givesAudited_save {s : State} {rq : Requester} (h : s.Ready rq 2) (w : Word) :
    GivesAudited (.save rq w) s rq 0xB00A4 (if w.toNat.testBit 0 then (s.dev.saveWord rq w).saveKind rq else s.dev.saveWord rq w) := by
  have hcanon : canonAddr rq 0xB00A4 = 0xB00A4 := by cases rq <;> rfl
  obtain ⟨old, new, hrow⟩ := State.row_word_audited (w := w.toNat) (act := ⟨0, some .installer⟩) (d := s.dev.saveWord rq w) h (.save rq w) (fun d => d.saveKind rq)
    (by decide) (storedAt_save rq) (by decide) (by decide) (by decide) (by rw [hcanon]; rfl)
  exact ⟨old, new, congrArg Host.Outcome.next hrow⟩

theorem Dev.vin_touch (d : Dev) (rq : Requester) : (d.touch rq).vin = d.vin := by
  obtain h | ⟨x, h⟩ := d.touch_cases rq <;> rw [h]
  cases rq <;> rfl

theorem Dev.mram_touch (d : Dev) (rq : Requester) : (d.touch rq).mram = d.mram := by
  obtain h | ⟨x, h⟩ := d.touch_cases rq <;> rw [h]
  cases rq <;> rfl

theorem Dev.rights_touch (d : Dev) (rq : Requester) : (d.touch rq).rights rq = d.rights rq := by
  obtain h | ⟨x, h⟩ := d.touch_cases rq
  · rw [h]
  · by_cases hopen : (d.session rq).st = .opened
    · rw [Dev.touch_opened hopen]
      simp [Dev.rights, Dev.session_setSession]
    · simp only [Dev.touch, hopen, if_false]

theorem Dev.saveWord_spec {d : Dev} {rq : Requester} (hr : 2 ≤ d.rights rq) (w : Word) {e : Dev} (he : e = d.saveWord rq w) :
    e.get F.VIN_CAL_CMD_KIND = Nat.min 8 (w.toNat / 256 % 16) ∧ e.vin = d.vin ∧ e.mram = d.mram ∧ e.rights rq = d.rights rq := by
  have hcanon : canonAddr rq 0xB00A4 = 0xB00A4 := by cases rq <;> rfl
  have hstore := Dev.storeWord_norm (hcanon ▸ storedAt_save rq) (Dev.permits_of hr (by decide)) (by decide) w.toNat
  have hkind (old : Nat) : F.VIN_CAL_CMD_KIND.clampVal (F.VIN_CAL_CMD_KIND.withPart 0 old w.toNat) = max 0 (min 8 (w.toNat / 2 ^ 8 % 2 ^ 4)) :=
    clampVal_of_range (f := F.VIN_CAL_CMD_KIND) rfl (by decide) (by decide) _ _
  have hword : d.storeWord rq 0xB00A4 w.toNat = (d.set F.VIN_CAL_CMD_KIND (max 0 (min 8 (w.toNat / 2 ^ 8 % 2 ^ 4)))).normVin := by
    rw [hstore, Dev.storeFields]
    simp only [List.foldl, Dev.storeField_rw (f := F.VIN_CAL_CMD_KIND) rfl, hkind]
    rfl
  rw [he, Dev.saveWord, Dev.get_touch, Dev.vin_touch, Dev.mram_touch, Dev.rights_touch, hword]
  refine ⟨?_, rfl, rfl, by cases rq <;> rfl⟩
  rw [Dev.normVin, Dev.get_set_distinct _ (by decide), Dev.get_set_self]
  have hmin : Nat.min 8 (w.toNat / 256 % 16) ≤ 8 := Nat.min_le_left ..
  have hmax : max 0 (min 8 (w.toNat / 2 ^ 8 % 2 ^ 4)) = Nat.min 8 (w.toNat / 256 % 16) := Nat.zero_max _
  rw [hmax]
  exact Nat.mod_eq_of_lt (lt_of_le_of_lt hmin (by decide))

theorem Dev.saveKind_denied {d : Dev} {rq : Requester} (hk : d.get F.VIN_CAL_CMD_KIND = 7) (hr : d.rights rq < 3) : d.saveKind rq = d.saveEnd 1 :=
  if_pos (by rw [hk, decide_eq_true hr]; rfl)

theorem Dev.saveKind_taken {d : Dev} {rq : Requester} (h : d.get F.VIN_CAL_CMD_KIND ≠ 7 ∨ 3 ≤ d.rights rq) : d.saveKind rq =
    { d.set F.VIN_CAL_CMD_DONE 0 with vin := { d.vin with writing := d.vin.writing ++ [(d.get F.VIN_CAL_CMD_KIND, true)] } } :=
  if_neg (not_and_of (h.imp id Nat.not_lt.mpr))

theorem Dev.saveEnd_spec (d : Dev) {code : Nat} (hc : code < 4) : (d.saveEnd code).get F.VIN_CAL_CMD_DONE = 1 ∧ (d.saveEnd code).get F.VIN_CAL_CMD_CODE = code ∧
    ((d.saveEnd code).get F.VIN_IRQ_STAT).testBit 2 = true ∧ d.RegsOnly (d.saveEnd code) ∧ (d.saveEnd code).get F.VIN_CAL_STAT_VALID = d.get F.VIN_CAL_STAT_VALID := by
  have hother (g : Field) (hg : g.distinct F.VIN_IRQ_STAT = true) : (d.saveEnd code).get g = ((d.set F.VIN_CAL_CMD_DONE 1).set F.VIN_CAL_CMD_CODE code).get g := by
    rw [Dev.saveEnd, Dev.get_irq]
    exact Dev.get_set_distinct _ hg ..
  refine ⟨?_, ?_, Dev.get_irq_testBit _ _ _ _ _ _ (by decide), ((Dev.regsOnly_set _ _ _ _ _).trans (Dev.regsOnly_set _ _ _ _ _)).trans (Dev.regsOnly_set _ _ _ _ _), ?_⟩
  · rw [hother _ (by decide), Dev.get_set_distinct _ (by decide), Dev.get_set_self]
    rfl
  · rw [hother _ (by decide), Dev.get_set_self]
    exact Nat.mod_eq_of_lt hc
  · rw [hother _ (by decide), Dev.get_set_distinct _ (by decide), Dev.get_set_distinct _ (by decide)]

theorem save_settled {rq : Requester} {w : Word} {s : State} {k : Nat} {e : Dev} (h : s.Ready rq 2) (hk : k = Nat.min 8 (w.toNat / 256 % 16)) (he : e = s.dev.saveWord rq w) :
    e.get F.VIN_CAL_CMD_KIND = k ∧ e.vin = s.dev.vin ∧ (w.toNat.testBit 0 = false → GivesAudited (.save rq w) s rq 0xB00A4 e) ∧
    (w.toNat.testBit 0 = true →
      (k = 7 → s.dev.rights rq < 3 → CompletesAudited (.save rq w) s rq 0xB00A4 (fun d => d.get F.VIN_CAL_CMD_DONE = 1 ∧ d.get F.VIN_CAL_CMD_CODE = 1 ∧
        (d.get F.VIN_IRQ_STAT).testBit 2 = true ∧ d.vin = s.dev.vin ∧ d.mram = s.dev.mram)) ∧
      (k ≠ 7 ∨ 3 ≤ s.dev.rights rq → GivesAudited (.save rq w) s rq 0xB00A4
        { e.set F.VIN_CAL_CMD_DONE 0 with vin := { s.dev.vin with writing := s.dev.vin.writing ++ [(k, true)] } })) := by
  obtain ⟨hkind, hvin, hmram, hrights⟩ := Dev.saveWord_spec h.2.2 w he
  rw [← hk] at hkind
  obtain ⟨old, new, hrow⟩ := givesAudited_save h w
  rw [← he] at hrow
  refine ⟨hkind, hvin, fun hb => ?_, fun hb => ⟨fun h7 hlow => ?_, fun hor => ?_⟩⟩
  · rw [hb] at hrow
    exact ⟨old, new, hrow⟩
  · rw [hb, if_pos rfl, Dev.saveKind_denied (hkind.trans h7) (hrights ▸ hlow)] at hrow
    obtain ⟨hdone, hcode, hirq, honly, -⟩ := e.saveEnd_spec (code := 1) (by decide)
    have honly' : e.saveEnd 1 = { e with regs := (e.saveEnd 1).regs } := honly
    exact ⟨_, old, new, hrow, hdone, hcode, hirq, (congrArg Dev.vin honly').trans hvin, (congrArg Dev.mram honly').trans hmram⟩
  · rw [hb, if_pos rfl, Dev.saveKind_taken (by rw [hkind, hrights]; exact hor), hkind, hvin] at hrow
    exact ⟨old, new, hrow⟩

/-! ### Slots and their directory (R351, R353) -/

theorem Dev.calSlot_setCal_self (d : Dev) (c : CalSlot) : (d.setCal c).calSlot c.kind c.slot = c := by
  have hnone : (d.mram.cal.filter (fun x => !(x.kind = c.kind && x.slot = c.slot))).find? (fun x => x.kind = c.kind && x.slot = c.slot) = none := by
    rw [List.find?_eq_none]
    intro x hx
    simpa [or_iff_not_imp_left] using (List.mem_filter.mp hx).2
  unfold Dev.calSlot Dev.setCal
  rw [List.find?_append, hnone]
  simp

theorem Dev.calSlot_setCal_ne (d : Dev) {c : CalSlot} {kind slot : Nat} (h : slot ≠ c.slot) : (d.setCal c).calSlot kind slot = d.calSlot kind slot := by
  have hlast : [c].find? (fun x => x.kind = kind && x.slot = slot) = none := by
    rw [List.find?_eq_none]
    intro x hx
    rw [List.mem_singleton.mp hx]
    simp [h.symm]
  have hsame : (d.mram.cal.filter (fun x => !(x.kind = c.kind && x.slot = c.slot))).find? (fun x => x.kind = kind && x.slot = slot) =
      d.mram.cal.find? (fun x => x.kind = kind && x.slot = slot) := by
    rw [List.find?_filter]
    congr 1
    funext x
    by_cases hx : x.slot = slot
    · simp [hx, h]
    · simp [hx]
  unfold Dev.calSlot Dev.setCal
  rw [List.find?_append, hsame, hlast, Option.or_none]

theorem Dev.calSlot_of_mram {d e : Dev} (h : e.mram = d.mram) (kind slot : Nat) : e.calSlot kind slot = d.calSlot kind slot := by
  simp only [Dev.calSlot, h]

theorem Dev.cask_of_bond {d e : Dev} (h : e.bond = d.bond) (n : Nat) : e.cask n = d.cask n := by simp only [Dev.cask, h]

theorem Dev.casksReach_of_bond {d e : Dev} (h : e.bond = d.bond) {m : Nat} (hd : d.CasksReach m) : e.CasksReach m := by
  simpa only [Dev.CasksReach, h] using hd

/-- A vote leaves the word that it reads. -/
theorem Dev.cask_voteCask {d : Dev} {n m : Nat} (h : d.CasksReach m) (hn : n < m) : (d.voteCask n).cask n = d.cask n := by
  obtain ⟨h0, h1, h2⟩ := h
  simp only [Dev.voteCask]
  split
  · rfl
  · split
    · simp only [Dev.cask, Dev.set_bond, Dev.bump_bond, getD_setAt, Nat.lt_of_lt_of_le hn h0, Nat.lt_of_lt_of_le hn h1, Nat.lt_of_lt_of_le hn h2, and_self, if_true,
        majority_self]
    · exact Dev.cask_of_bond (Dev.bond_of_fixed (Dev.fixed_report (d.set F.SAFE_CASK_STAT_LAST_WORD n) 13 0)) n

/-! ### What no report takes from a write under way -/

theorem untouched_writing : Untouched (fun d : Dev => d.vin.writing) where
  regs _ _ := rfl
  msix _ _ := rfl
  emit _ _ _ := rfl
  ports _ _ := rfl
  jobs _ _ := rfl
  jobQ _ _ _ := rfl
  cam _ _ := rfl
  isp _ _ := rfl
  vin _ _ _ := rfl
  chans _ _ := rfl
  ddr _ _ := rfl
  flt _ _ := rfl
  stop _ _ := rfl

/-- The writes under way, MRAM and the cask words. -/
def Dev.calView (d : Dev) := (d.vin.writing, d.mram, d.bond)

theorem Dev.calView_report (d : Dev) (src : Nat) : (d.report src).calView = d.calView := by
  have hfix := Dev.fixed_report d src 0
  rw [Dev.calView, Dev.calView, untouched_writing.report d src 0, Dev.mram_of_fixed hfix, Dev.bond_of_fixed hfix]

theorem Dev.voteCask_view (d : Dev) (n : Nat) : (d.voteCask n).vin.writing = d.vin.writing ∧ (d.voteCask n).mram = d.mram := by
  simp only [Dev.voteCask]
  split
  · exact ⟨rfl, rfl⟩
  · split
    · exact ⟨rfl, rfl⟩
    · have hview := (d.set F.SAFE_CASK_STAT_LAST_WORD n).calView_report 13
      exact ⟨congrArg (fun x => x.1) hview, congrArg (fun x => x.2.1) hview⟩

/-! ### A record is written (R354) -/

/-- The slot that the directory does not name. -/
def Dev.calFree (d : Dev) (k : Nat) : Nat := if bit (d.cask (25 + k)) 31 then 1 - bits (d.cask (25 + k)) 30 1 else 0

/-- The SEQ of the next record. -/
def Dev.calNext (d : Dev) (k : Nat) : Nat :=
  ((if bit (d.cask (25 + k)) 31 then (d.calSlot k (bits (d.cask (25 + k)) 30 1)).words.getD 2 (d.cask (25 + k) % 2 ^ 24) else 0) + 1) % 2 ^ 32

/-- A body that was cut short is reported. -/
def Dev.calNoted (d : Dev) (k : Nat) : Dev := if (d.calBody k).2 then d.report 296 else d

/-- How often a slot has been written after this write. -/
def Dev.calWrites (d : Dev) (k slot : Nat) (ok1 : Bool) : Nat := (d.calSlot k slot).writes + if ok1 then 1 else 2

/-- The words of the record. -/
def Dev.calWords (d e : Dev) (k : Nat) (ok1 : Bool) : List Nat :=
  calRecord k (d.calNext k) e.T (e.calWrites k (d.calFree k) ok1) (d.calBody k).2 (d.calBody k).1

/-- What the attempts leave of the slot and of the directory. -/
def Dev.calStored (d : Dev) (k slot seq n : Nat) (ws : List Nat) (ok : Bool) : Dev :=
  if ok then ((d.setCal ⟨k, slot, ws, n⟩).setCask (25 + k) (2 ^ 31 + slot * 2 ^ 30 + seq % 2 ^ 24)).set F.VIN_CAL_STAT_VALID (d.get F.VIN_CAL_STAT_VALID ||| 2 ^ k)
  else ((d.setCal ⟨k, slot, [], n⟩).mramFailed (0x40000 + calOffset k slot)).report 297

theorem Dev.calWrite_eq (d : Dev) (k : Nat) (ok1 ok2 : Bool) {v e : Dev} {n : Nat} {ws : List Nat} (hv : v = d.voteCasks [25 + k]) (he : e = v.calNoted k)
    (hn : n = e.calWrites k (v.calFree k) ok1) (hws : ws = v.calWords e k ok1) :
    d.calWrite k ok1 ok2 = (ok1 || ok2, (e.mramWrote ((if ok1 then 1 else 2) * ws.length)).calStored k (v.calFree k) (v.calNext k) n ws (ok1 || ok2)) := by
  subst hv he hn hws
  unfold Dev.calWrite
  cases ok1 || ok2 <;> rfl

theorem Dev.calView_calNoted (d : Dev) (k : Nat) : (d.calNoted k).calView = d.calView := by
  unfold Dev.calNoted
  split
  · exact d.calView_report 296
  · rfl

theorem calValid_calRecord {k seq : Nat} (hk : k < 9) (time writes : Nat) (trunc : Bool) (body : List Nat) :
    calValid k (seq % 2 ^ 24) (calRecord k seq time writes trunc body) = true := by
  have hkind : bits (k * 16777216 + 65536 + b2n trunc) 16 16 = k * 256 + 1 := by
    cases trunc <;> simp only [bits, b2n, if_true, if_false, Bool.false_eq_true] <;> omega
  simp only [calValid, calRecord]
  simp [hkind]

/-- The directory word of a record. -/
theorem dirWord_spec {slot : Nat} (h : slot ≤ 1) (seq : Nat) : (2 ^ 31 + slot * 2 ^ 30 + seq % 2 ^ 24) % 2 ^ 32 = 2 ^ 31 + slot * 2 ^ 30 + seq % 2 ^ 24 ∧
    (2 ^ 31 + slot * 2 ^ 30 + seq % 2 ^ 24).testBit 31 = true ∧ (2 ^ 31 + slot * 2 ^ 30 + seq % 2 ^ 24) / 2 ^ 30 % 2 = slot ∧
    (2 ^ 31 + slot * 2 ^ 30 + seq % 2 ^ 24) % 2 ^ 24 = seq % 2 ^ 24 := by
  refine ⟨by omega, ?_, by omega, by omega⟩
  rw [Nat.testBit_eq_decide_div_mod_eq]
  exact decide_eq_true (by omega)

theorem testBit_or_two_pow (a : Nat) {k m : Nat} (h : k < m) : ((a ||| 2 ^ k) % 2 ^ m).testBit k = true := by
  simp [Nat.testBit_mod_two_pow, h]

/-- What a record that was written leaves. -/
theorem Dev.calStored_spec {e : Dev} {k slot seq n : Nat} {ws : List Nat} (hk : k < 9) (hslot : slot ≤ 1) (hreach : e.CasksReach 34) (ok : Bool) {d : Dev}
    (hd : d = e.calStored k slot seq n ws ok) :
    d.vin.writing = e.vin.writing ∧ d.calSlot k (1 - slot) = e.calSlot k (1 - slot) ∧ (d.calSlot k slot).writes = n ∧
      (ok = true → d.cask (25 + k) = 2 ^ 31 + slot * 2 ^ 30 + seq % 2 ^ 24 ∧ (d.get F.VIN_CAL_STAT_VALID).testBit k = true ∧ (d.calSlot k slot).words = ws) ∧
      (ok = false → d.cask (25 + k) = e.cask (25 + k) ∧ has d.flt.status (fkey 297 0) = true) := by
  have hne : 1 - slot ≠ slot := by omega
  cases ok with
  | true =>
    have hstored : d = ((e.setCal ⟨k, slot, ws, n⟩).setCask (25 + k) (2 ^ 31 + slot * 2 ^ 30 + seq % 2 ^ 24)).set F.VIN_CAL_STAT_VALID (e.get F.VIN_CAL_STAT_VALID ||| 2 ^ k) := hd
    have hcal (s : Nat) : d.calSlot k s = (e.setCal ⟨k, slot, ws, n⟩).calSlot k s := by
      rw [hstored]
      rfl
    have hcask : d.cask (25 + k) = (2 ^ 31 + slot * 2 ^ 30 + seq % 2 ^ 24) % 2 ^ 32 := by
      rw [hstored]
      obtain ⟨h0, h1, h2⟩ : (e.setCal ⟨k, slot, ws, n⟩).CasksReach 34 := hreach
      exact (Dev.cask_setCask_of (d := e.setCal ⟨k, slot, ws, n⟩) (by omega) h0 h1 h2 _ _).trans (if_pos rfl)
    have hself := e.calSlot_setCal_self ⟨k, slot, ws, n⟩
    refine ⟨by rw [hstored]; rfl, (hcal _).trans (e.calSlot_setCal_ne hne), by rw [hcal, hself], fun _ => ⟨hcask.trans (dirWord_spec hslot seq).1, ?_, by rw [hcal, hself]⟩,
      fun h => absurd h (by decide)⟩
    rw [hstored, Dev.get_set_self]
    exact testBit_or_two_pow _ hk
  | false =>
    have hstored : d = (((((e.setCal ⟨k, slot, [], n⟩).bump F.NVM_ERR_UE).set F.NVM_ERR_ADDR (0x40000 + calOffset k slot)).report 87)).report 297 := hd
    have hview : d.calView = (e.setCal ⟨k, slot, [], n⟩).calView := by
      rw [hstored, Dev.calView_report, Dev.calView_report]
      rfl
    have hmram : d.mram = (e.setCal ⟨k, slot, [], n⟩).mram := congrArg (fun x => x.2.1) hview
    have hself := e.calSlot_setCal_self ⟨k, slot, [], n⟩
    refine ⟨congrArg (fun x => x.1) hview, (Dev.calSlot_of_mram hmram k _).trans (e.calSlot_setCal_ne hne), ?_, fun h => absurd h (by decide), fun _ => ⟨?_, ?_⟩⟩
    · rw [Dev.calSlot_of_mram hmram k, hself]
    · exact Dev.cask_of_bond (congrArg (fun x => x.2.2) hview) _
    · rw [hstored]
      exact Dev.has_status_report _ 297 0 (by decide)

/-- What a write leaves of its slot, of the other one and of the directory. -/
theorem Dev.calWrite_spec {d : Dev} {k dir slot : Nat} (hk : k < 9) (hreach : d.CasksReach 34) (hdir : dir = d.cask (25 + k))
    (hslot : slot = if dir.testBit 31 then 1 - dir / 2 ^ 30 % 2 else 0) (ok1 ok2 : Bool) {e : Dev} (he : e = (d.calWrite k ok1 ok2).2) :
    e.vin.writing = d.vin.writing ∧ e.calSlot k (1 - slot) = d.calSlot k (1 - slot) ∧ (e.calSlot k slot).writes = (d.calSlot k slot).writes + (if ok1 then 1 else 2) ∧
      (ok1 = true ∨ ok2 = true → (e.cask (25 + k)).testBit 31 = true ∧ e.cask (25 + k) / 2 ^ 30 % 2 = slot ∧ (e.get F.VIN_CAL_STAT_VALID).testBit k = true ∧
        calValid k (e.cask (25 + k) % 2 ^ 24) (e.calSlot k slot).words = true) ∧
      (ok1 = false → ok2 = false → e.cask (25 + k) = dir ∧ has e.flt.status (fkey 297 0) = true) := by
  obtain ⟨v, hv⟩ : ∃ v, v = d.voteCasks [25 + k] := ⟨_, rfl⟩
  obtain ⟨b, hb⟩ : ∃ b, b = v.calNoted k := ⟨_, rfl⟩
  obtain ⟨ws, hws⟩ : ∃ ws, ws = v.calWords b k ok1 := ⟨_, rfl⟩
  have hwrite := d.calWrite_eq k ok1 ok2 hv hb rfl hws
  have hvote : v = d.voteCask (25 + k) := hv
  obtain ⟨hvwriting, hvmram⟩ := d.voteCask_view (25 + k)
  rw [← hvote] at hvwriting hvmram
  have hvdir : v.cask (25 + k) = dir := by rw [hvote, hdir]; exact Dev.cask_voteCask hreach (by omega)
  have hvreach : v.CasksReach 34 := hvote ▸ Dev.casksReach_voteCask hreach _
  have hview : b.calView = v.calView := hb ▸ v.calView_calNoted k
  have hbmram : b.mram = d.mram := (congrArg (fun x => x.2.1) hview).trans hvmram
  have hbbond : b.bond = v.bond := congrArg (fun x => x.2.2) hview
  have hfree : v.calFree k = slot := by
    have h : v.calFree k = if (v.cask (25 + k)).testBit 31 then 1 - v.cask (25 + k) / 2 ^ 30 % 2 else 0 := rfl
    rw [h, hvdir, hslot]
  have hle : slot ≤ 1 := by
    rw [hslot]
    split <;> omega
  rw [hwrite, hfree] at he
  obtain ⟨hwriting, hother, hwrites, hok, hfail⟩ := Dev.calStored_spec (e := b.mramWrote ((if ok1 then 1 else 2) * ws.length)) hk hle
    (Dev.casksReach_of_bond hbbond hvreach) (ok1 || ok2) he
  refine ⟨hwriting.trans ((congrArg (fun x => x.1) hview).trans hvwriting), hother.trans (Dev.calSlot_of_mram hbmram _ _), ?_, fun hor => ?_, fun h1 h2 => ?_⟩
  · rw [hwrites, Dev.calWrites, Dev.calSlot_of_mram hbmram]
  · obtain ⟨hcask, hvalid, hwords⟩ := hok (by simpa using hor)
    obtain ⟨-, hbit, hnamed, hseq⟩ := dirWord_spec hle (v.calNext k)
    rw [hcask, hwords, hseq, hws]
    exact ⟨hbit, hnamed, hvalid, calValid_calRecord hk _ _ _ _⟩
  · obtain ⟨hcask, hstatus⟩ := hfail (by rw [h1, h2]; rfl)
    exact ⟨hcask.trans ((Dev.cask_of_bond hbbond _).trans hvdir), hstatus⟩

/-- The first write under way ends. -/
def Dev.calEnd (d : Dev) (ok1 ok2 : Bool) : Dev :=
  match d.vin.writing with
  | (k, save) :: r =>
    if d.pwr.st ≠ .on || d.flag F.NVM_STAT_SUSPENDED then d
    else
      if save then (({ d with vin := { d.vin with writing := r } } : Dev).calWrite k ok1 ok2).2.saveEnd
        (if (({ d with vin := { d.vin with writing := r } } : Dev).calWrite k ok1 ok2).1 then 0 else 2)
      else (({ d with vin := { d.vin with writing := r } } : Dev).calWrite k ok1 ok2).2
  | [] => d

theorem gives_calRecordWriteDone (ok1 ok2 : Bool) (s : State) : Gives (.calRecordWriteDone ok1 ok2) s (s.dev.calEnd ok1 ok2) := rfl

theorem Dev.calEnd_waits {d : Dev} (h : d.vin.writing = [] ∨ d.pwr.st ≠ .on ∨ d.get F.NVM_STAT_SUSPENDED ≠ 0) (ok1 ok2 : Bool) : d.calEnd ok1 ok2 = d := by
  unfold Dev.calEnd
  split
  · next k save r hw =>
    refine if_pos ?_
    rcases h with h | h | h
    · rw [h] at hw
      cases hw
    · simp [h]
    · simp [(Dev.flag_eq_true ..).mpr h]
  · rfl

theorem Dev.calEnd_writes {d : Dev} {k : Nat} {save : Bool} {r : List (Nat × Bool)} (hw : d.vin.writing = (k, save) :: r) (hon : d.pwr.st = .on)
    (hs : d.get F.NVM_STAT_SUSPENDED = 0) (ok1 ok2 : Bool) {e : Bool × Dev} (he : e = ({ d with vin := { d.vin with writing := r } } : Dev).calWrite k ok1 ok2) :
    d.calEnd ok1 ok2 = if save then e.2.saveEnd (if e.1 then 0 else 2) else e.2 := by
  unfold Dev.calEnd
  rw [hw, he]
  exact if_neg (by simp [hon, Dev.flag_zero hs])

theorem calWrite_settled {s : State} {ok1 ok2 : Bool} {k dir slot : Nat} {save : Bool} {r : List (Nat × Bool)} (hw : s.dev.vin.writing = (k, save) :: r)
    (hon : s.dev.pwr.st = .on) (hs : s.dev.get F.NVM_STAT_SUSPENDED = 0) (hk : k < 9) (hreach : s.dev.CasksReach 34) (hdir : dir = s.dev.cask (25 + k))
    (hslot : slot = if dir.testBit 31 then 1 - dir / 2 ^ 30 % 2 else 0) :
    Completes (.calRecordWriteDone ok1 ok2) s (fun d => d.vin.writing = r ∧ d.calSlot k (1 - slot) = s.dev.calSlot k (1 - slot) ∧
      (d.calSlot k slot).writes = (s.dev.calSlot k slot).writes + (if ok1 then 1 else 2) ∧
      (save = true → d.get F.VIN_CAL_CMD_DONE = 1 ∧ d.get F.VIN_CAL_CMD_CODE = (if ok1 || ok2 then 0 else 2)) ∧
      (ok1 = true ∨ ok2 = true → (d.cask (25 + k)).testBit 31 = true ∧ d.cask (25 + k) / 2 ^ 30 % 2 = slot ∧ (d.get F.VIN_CAL_STAT_VALID).testBit k = true ∧
        calValid k (d.cask (25 + k) % 2 ^ 24) (d.calSlot k slot).words = true) ∧
      (ok1 = false → ok2 = false → d.cask (25 + k) = dir ∧ has d.flt.status (fkey 297 0) = true)) := by
  obtain ⟨e, he⟩ : ∃ e, e = ({ s.dev with vin := { s.dev.vin with writing := r } } : Dev).calWrite k ok1 ok2 := ⟨_, rfl⟩
  have hgives := (gives_calRecordWriteDone ok1 ok2 s).congr (Dev.calEnd_writes hw hon hs ok1 ok2 he)
  have hfst : e.1 = (ok1 || ok2) := by rw [he, Dev.calWrite_eq _ _ _ _ rfl rfl rfl rfl]
  obtain ⟨hwriting, hother, hwrites, hok, hfail⟩ := Dev.calWrite_spec (d := { s.dev with vin := { s.dev.vin with writing := r } }) hk hreach hdir hslot ok1 ok2
    (congrArg Prod.snd he)
  cases save with
  | false => exact ⟨_, hgives, hwriting, hother, hwrites, fun h => absurd h (by decide), hok, hfail⟩
  | true =>
    obtain ⟨hdone, hcode, -, honly, hvalid⟩ := e.2.saveEnd_spec (code := if e.1 then 0 else 2) (by split <;> decide)
    rw [if_pos rfl] at hgives
    rw [hfst] at hgives hdone hcode honly hvalid
    refine ⟨_, hgives, ?_⟩
    generalize e.2.saveEnd (if (ok1 || ok2) = true then 0 else 2) = d at hdone hcode honly hvalid ⊢
    have honly' : d = { e.2 with regs := d.regs } := honly
    have hmram : d.mram = e.2.mram := (congrArg Dev.mram honly').trans rfl
    have hcask := Dev.cask_of_bond ((congrArg Dev.bond honly').trans rfl : d.bond = e.2.bond) (25 + k)
    have hcal := Dev.calSlot_of_mram hmram k
    have hflt : d.flt = e.2.flt := (congrArg Dev.flt honly').trans rfl
    have hvin : d.vin = e.2.vin := (congrArg Dev.vin honly').trans rfl
    rw [hvin, hcal, hcal, hcask, hvalid, hflt]
    exact ⟨hwriting, hother, hwrites, fun _ => ⟨hdone, hcode⟩, hok, hfail⟩

/-- Settles O13: a write touches the slot that the directory does not name, and the directory word comes last. -/
theorem calibrationIsKept : Obligations.CalibrationIsKept := by
  unfold Obligations.CalibrationIsKept
  refine ⟨fun kind s => ⟨fun hor => ?_, fun t ht hlt => ?_, completes_calRecordDue⟩, fun rq w s k e h hk he => save_settled h hk he, fun s ok1 ok2 => ⟨fun hor => ?_, ?_⟩⟩
  · refine (gives_calRecordDue kind s).congr (if_neg ?_)
    rcases hor with h | h <;> simp [h]
  · exact (gives_calRecordDue kind s).congr (if_neg (by simp [Dev.calReady_early ht hlt]))
  · exact (gives_calRecordWriteDone ok1 ok2 s).congr (Dev.calEnd_waits hor ok1 ok2)
  · intro k save r hw hon hs
    exact ⟨fun e he => (gives_calRecordWriteDone ok1 ok2 s).congr (Dev.calEnd_writes hw hon hs ok1 ok2 he),
      fun dir slot hk h0 h1 h2 hdir hslot => calWrite_settled hw hon hs hk ⟨h0, h1, h2⟩ hdir hslot⟩

end Sys2Proof.Machine
end


section
/-! PROOF. What the lamp gate and reports of fault sources do to a lamp channel (R370, R371), and where lamps go dark. -/

namespace Sys2Proof.Machine

/-! ### Folds over the channels -/

/-- Where only step c of a fold over a range changes a view, the fold changes it as step c does. -/
theorem foldl_range_at {σ α : Type} (π : σ → α) (f : σ → Nat → σ) {c n : Nat} (hc : c < n) (h : ∀ d k, k ≠ c → π (f d k) = π d) (d : σ) :
    ∃ e, π e = π d ∧ π ((List.range n).foldl f d) = π (f e c) := by
  induction n with
  | zero => exact absurd hc (Nat.not_lt_zero c)
  | succ n ih =>
    rw [List.range_succ, List.foldl_append, List.foldl_cons, List.foldl_nil]
    by_cases hn : n = c
    · subst hn
      refine ⟨(List.range n).foldl f d, ?_, rfl⟩
      have hkeeps : ∀ m ≤ n, π ((List.range m).foldl f d) = π d := fun m => by
        induction m with
        | zero => exact fun _ => rfl
        | succ m ihm =>
          intro hm
          rw [List.range_succ, List.foldl_append, List.foldl_cons, List.foldl_nil, h _ _ (by omega), ihm (by omega)]
      exact hkeeps n (Nat.le_refl n)
    · obtain ⟨e, he, hfold⟩ := ih (by omega)
      exact ⟨e, he, (h _ _ hn).trans hfold⟩

/-- What each step keeps holds after a fold. -/
theorem foldl_holds {σ β : Type} {P : σ → Prop} {f : σ → β → σ} (h : ∀ d b, P d → P (f d b)) (l : List β) {d : σ} (hd : P d) : P (l.foldl f d) := by
  induction l generalizing d with
  | nil => exact hd
  | cons b l ih => exact ih (h d b hd)

/-! ### One channel -/

theorem Dev.lampCh_modLamp (d : Dev) (c k : Nat) (f : LampCh → LampCh) :
    (d.modLamp c f).lampCh k = if k = c ∧ k < d.lamps.chans.length then f (d.lampCh k) else d.lampCh k := getD_setAt _ _ _ _ _

/-- A channel state that holds before a change and after it holds in the changed device. -/
theorem Dev.lampCh_modLamp_holds {P : LampCh → Prop} {d : Dev} {c k : Nat} {f : LampCh → LampCh} (h : P (d.lampCh k)) (hf : P (d.lampCh k) → P (f (d.lampCh k))) :
    P ((d.modLamp c f).lampCh k) := by
  rw [Dev.lampCh_modLamp]
  split
  · exact hf h
  · exact h

theorem Dev.flt_lampMark (d : Dev) (c st : Nat) : (d.lampMark c st).flt = d.flt := by
  simp only [Dev.lampMark]
  split
  · rfl
  · split <;> rfl

theorem Dev.lamps_lampMark (d : Dev) (c st : Nat) : (d.lampMark c st).lamps = d.lamps := by
  simp only [Dev.lampMark]
  split
  · rfl
  · split <;> rfl

theorem Dev.lampHeld_lampMark (d : Dev) (c st k : Nat) : (d.lampMark c st).lampHeld k = d.lampHeld k := by
  have hfix := Dev.fixed_lampMark d c st
  have hshut : (d.lampMark c st).get F.THM_STAT_SHUT_LATCH = d.get F.THM_STAT_SHUT_LATCH := Dev.get_of_calm (Dev.calm_lampMark d c st) (by decide) (by decide) (by decide)
  simp only [Dev.lampHeld, Dev.uvChannel, Dev.bonded, Dev.flag, hshut, Dev.pins_of_fixed hfix, Dev.bond_of_fixed hfix, Dev.flt_lampMark]

/-! ### The gate -/

/-- STATUS of a channel and whether its line is held low. -/
def Dev.lampFace (c : Nat) (d : Dev) : Nat × Bool := (d.get F.LMP_C_STAT_STATUS c, d.lampHeld c)

theorem Dev.lampFace_lampShut_ne (d : Dev) {c k : Nat} (h : k ≠ c) : (d.lampShut k).lampFace c = d.lampFace c := by
  have hkey : F.LMP_C_STAT_STATUS.key c 0 ≠ F.LMP_C_STAT_STATUS.key k 0 := by simp only [Field.key, Field.addr, F.LMP_C_STAT_STATUS]; omega
  have hirq : F.LMP_C_STAT_STATUS.key c 0 ≠ F.LMP_IRQ_STAT.key 0 0 := by simp only [Field.key, Field.addr, F.LMP_C_STAT_STATUS, F.LMP_IRQ_STAT]; omega
  simp only [Dev.lampShut]
  split
  · exact Prod.ext (Dev.get_lampMark_ne d k 5 hkey hirq) (Dev.lampHeld_lampMark d k 5 c)
  · rfl

theorem Dev.status_lampShut (d : Dev) (c : Nat) : (d.lampShut c).get F.LMP_C_STAT_STATUS c = if d.lampHeld c then 5 else d.get F.LMP_C_STAT_STATUS c := by
  simp only [Dev.lampShut]
  split
  · rw [Dev.get_with_lamps, Dev.get_lampMark_self]
    split <;> rfl
  · rfl

/-- The gate shows INTERLOCK on the channels held low, and leaves STATUS of the others. -/
theorem Dev.status_lampGate (d : Dev) {c : Nat} (hc : c < 16) :
    d.lampGate.get F.LMP_C_STAT_STATUS c = if d.lampsOn ∧ d.lampHeld c then 5 else d.get F.LMP_C_STAT_STATUS c := by
  rw [Dev.lampGate_eq]
  cases hon : d.lampsOn with
  | true =>
    obtain ⟨e, he, hfold⟩ := foldl_range_at (Dev.lampFace c) Dev.lampShut hc (fun d k hk => Dev.lampFace_lampShut_ne d hk) d
    obtain ⟨hstatus, -⟩ := Prod.mk.inj he
    obtain ⟨hshown, -⟩ := Prod.mk.inj hfold
    obtain ⟨-, hheld⟩ := Prod.mk.inj he
    rw [if_pos rfl, hshown, Dev.status_lampShut, hstatus, hheld]
    simp only [true_and]
  | false => simp only [Bool.false_eq_true, false_and, if_false]

/-- A property of a channel that darkening keeps is kept by the gate. -/
theorem Dev.lampCh_lampGate {P : LampCh → Prop} (hP : ∀ x, P x → P { x with dim := [], depends := [], judge := 0, await := 0 }) {d : Dev} {c : Nat} (h : P (d.lampCh c)) :
    P (d.lampGate.lampCh c) := by
  rw [Dev.lampGate_eq]
  split
  · refine foldl_holds (P := fun x : Dev => P (x.lampCh c)) (fun d k hd => ?_) _ h
    simp only [Dev.lampShut]
    split
    · exact Dev.lampCh_modLamp_holds (d := d) (c := k) hd (hP _)
    · exact hd
  · exact h

theorem Dev.lampsOn_of_calm {d e : Dev} (hc : e.calm = d.calm) (hp : e.pwr.st = d.pwr.st) : e.lampsOn = d.lampsOn := by
  simp only [Dev.lampsOn, Dev.flag, hp, Dev.get_of_calm hc (g := F.LMP_CTRL_ENABLE) (i := 0) (j := 0) (by decide) (by decide) (by decide)]

/-! ### What a report keeps of the lamps -/

/-- The fields that a report changes but for those of the lamps. -/
def nightFields : List Field := [F.FLT_IRQ_STAT, F.FLT_LOG_STAT_OVERWRITES, F.FLT_STATE_LAST_SRC] ++ fenceFields ++ jobFields ++ stopFields

/-- What of the device a report leaves as it is but for the lamp gate. -/
def Dev.lampView (d : Dev) := (d.beyond nightFields, d.lamps.chans, d.pwr.st)

theorem undisturbed_chans : Undisturbed (fun d : Dev => d.lamps.chans) where
  regs _ _ := rfl
  msix _ _ := rfl
  emit _ _ _ := rfl
  ports _ _ := rfl
  jobs _ _ := rfl
  jobQ _ _ _ := rfl
  cam _ _ := rfl
  isp _ _ := rfl
  vin _ _ _ := rfl
  ddr _ _ := rfl
  flt _ _ := rfl
  stop _ _ := rfl

theorem Dev.lampView_eq {d e : Dev} (hb : e.beyond nightFields = d.beyond nightFields) (hl : e.lamps.chans = d.lamps.chans) (hf : e.fixed = d.fixed) :
    e.lampView = d.lampView := by simp only [Dev.lampView, hb, hl, Dev.powerState_of_fixed hf]

theorem Dev.lampView_fltIrq (d : Dev) (k : Nat) : (d.fltIrq k).lampView = d.lampView :=
  Dev.lampView_eq (Dev.beyond_irq _ _ _ (by decide) _ _ _) (undisturbed_chans.fltIrq d k) (Dev.fixed_irq ..)

section
variable {P : Dev → Prop} (hview : ∀ d e : Dev, e.lampView = d.lampView → P d → P e) (hgate : ∀ d : Dev, P d → P d.lampGate)
include hview

include hgate

theorem Dev.settle_holds {d e : Dev} (h : P e) : P (Dev.settle d e) := by
  have hinhibit : P (if d.gateOpen && !e.gateOpen then e.inhibitAll else e).lampGate := by
    refine hgate _ ?_
    split
    · exact hview _ _ (Dev.lampView_eq (Dev.beyond_inhibitAll (by decide) e) (undisturbed_chans.inhibitAll e) (Dev.fixed_inhibitAll e)) h
    · exact h
  simp only [Dev.settle]
  split
  · exact hview _ _ (by rfl) hinhibit
  · exact hinhibit

/-- What the lamp gate keeps of the lamps, a report keeps. -/
theorem Dev.outlives_lamps : Outlives P where
  flt d _ h := hview d _ rfl h
  overwrites d h := hview d _ (Dev.lampView_eq (Dev.beyond_bump _ _ _ _ (by decide) _) rfl rfl) h
  lastSrc d _ h := hview d _ (Dev.lampView_eq (Dev.beyond_set _ _ _ _ (by decide) _) rfl rfl) h
  irq d k h := hview d _ (Dev.lampView_fltIrq d k) h
  fence d u h := hview d _ (Dev.lampView_eq (Dev.beyond_fenceEffect (by decide) d u) (undisturbed_chans.fenceEffect d u) (Dev.fixed_fenceEffect d u)) h
  stop d c h := hview d _ (Dev.lampView_eq (Dev.beyond_stopTrigger (by decide) d c) (undisturbed_chans.stopTrigger d c) (Dev.fixed_stopTrigger d c)) h
  settle _ _ h := Dev.settle_holds hview hgate h

theorem Dev.report_holds {d : Dev} (h : P d) (s i : Nat) : P (d.report s i) := (Dev.outlives_lamps hview hgate).report h s i

theorem Dev.reportLevel_holds {d : Dev} (h : P d) (s i : Nat) (b : Bool) : P (d.reportLevel s i b) := by
  simp only [Dev.reportLevel]
  split
  · exact Dev.report_holds hview hgate h s i
  · exact hview _ _ (Dev.lampView_eq (Dev.beyond_unreport d s i) (undisturbed_chans.unreport d s i) (Dev.fixed_unreport d s i)) h

theorem Dev.lampStatus_holds {d : Dev} {c st : Nat} (hsame : d.get F.LMP_C_STAT_STATUS c = st → P d) (hmark : P (d.lampMark c st)) : P (d.lampStatus c st) := by
  simp only [Dev.lampStatus]
  split
  · rename_i h
    exact hsame h
  · exact Dev.reportLevel_holds hview hgate (Dev.reportLevel_holds hview hgate (Dev.reportLevel_holds hview hgate hmark _ _ _) _ _ _) _ _ _

end

/-! ### A status that stays -/

/-- A channel shows a STATUS that the gate leaves: INTERLOCK, or any while the controller is off. -/
def Dev.ShowsStill (c v : Nat) (d : Dev) : Prop := d.get F.LMP_C_STAT_STATUS c = v ∧ (v = 5 ∨ d.lampsOn = false)

theorem Dev.showsStill_view {c v : Nat} (hc : c < 16) (d e : Dev) (h : e.lampView = d.lampView) (hd : d.ShowsStill c v) : e.ShowsStill c v := by
  obtain ⟨hshown, hwhy⟩ := hd
  have hb : e.beyond nightFields = d.beyond nightFields := congrArg Prod.fst h
  have hp : e.pwr.st = d.pwr.st := congrArg (fun x => x.2.2) h
  refine ⟨(Dev.get_of_beyond hb (by decide) hc (by decide)).trans hshown, hwhy.imp_right fun hoff => ?_⟩
  rw [← hoff, Dev.lampsOn, Dev.lampsOn, hp, Dev.flag, Dev.flag, Dev.get_of_beyond hb (g := F.LMP_CTRL_ENABLE) (i := 0) (j := 0) (by decide) (by decide) (by decide)]

theorem Dev.showsStill_gate {c v : Nat} (hc : c < 16) (d : Dev) (hd : d.ShowsStill c v) : d.lampGate.ShowsStill c v := by
  obtain ⟨hshown, rfl | hoff⟩ := hd
  · refine ⟨?_, .inl rfl⟩
    rw [Dev.status_lampGate d hc, hshown, ite_self]
  · have hgate : d.lampGate = d := by rw [Dev.lampGate_eq, if_neg (by simp [hoff])]
    rw [hgate]
    exact ⟨hshown, .inr hoff⟩

theorem Dev.showsStill_report {c v : Nat} (hc : c < 16) {d : Dev} (hd : d.ShowsStill c v) (s i : Nat) : (d.report s i).ShowsStill c v :=
  Dev.report_holds (Dev.showsStill_view hc) (Dev.showsStill_gate hc) hd s i

theorem Dev.lampsOn_lampMark (d : Dev) (c st : Nat) : (d.lampMark c st).lampsOn = d.lampsOn :=
  Dev.lampsOn_of_calm (Dev.calm_lampMark d c st) (Dev.powerState_of_fixed (Dev.fixed_lampMark d c st))

theorem Dev.showsStill_lampStatus {c v : Nat} (hc : c < 16) (d : Dev) (hv : v < 16) (h : v = 5 ∨ d.lampsOn = false) : (d.lampStatus c v).ShowsStill c v := by
  refine Dev.lampStatus_holds (Dev.showsStill_view hc) (Dev.showsStill_gate hc) (fun hsame => ⟨hsame, h⟩) ⟨?_, by rwa [Dev.lampsOn_lampMark]⟩
  rw [Dev.get_lampMark_self, Nat.mod_eq_of_lt hv, ite_self]

theorem Dev.status_lampStatus_five {c : Nat} (hc : c < 16) (d : Dev) : (d.lampStatus c 5).get F.LMP_C_STAT_STATUS c = 5 :=
  (Dev.showsStill_lampStatus hc d (by decide) (.inl rfl)).1

end Sys2Proof.Machine
end


section
/-! PROOF. The lamps' inputs, what turns them off and what keeps them dark (R363, R370 to R372). -/

namespace Sys2Proof.Machine

/-! ### Folds that reach a channel -/

/-- Where a property that every step keeps gives another at one step of a fold, and every step keeps that too, it holds after the fold. -/
theorem foldl_reaches {σ β : Type} {P Q : σ → Prop} {f : σ → β → σ} {b : β} (hP : ∀ d k, P d → P (f d k)) (hb : ∀ d, P d → Q (f d b))
    (hQ : ∀ d k, Q d → Q (f d k)) {l : List β} (hl : b ∈ l) {d : σ} (hd : P d) : Q (l.foldl f d) := by
  induction l generalizing d with
  | nil => exact absurd hl List.not_mem_nil
  | cons k l ih =>
    by_cases hk : b = k
    · subst hk
      exact foldl_holds hQ l (hb d hd)
    · exact ih ((List.mem_cons.mp hl).resolve_left hk) (hP d k hd)

theorem testBit_setBit_false (v i : Nat) : (setBit v i false).testBit i = false := by
  have hmod : v / 2 ^ i % 2 ≤ v / 2 ^ i := Nat.mod_le _ _
  have hle : v / 2 ^ i % 2 * 2 ^ i ≤ v := le_trans (Nat.mul_le_mul_right _ hmod) (Nat.div_mul_le_self v (2 ^ i))
  have hdiv : (v - v / 2 ^ i % 2 * 2 ^ i) / 2 ^ i = v / 2 ^ i - v / 2 ^ i % 2 := by
    rw [Nat.mul_comm]
    exact Nat.sub_mul_div v (2 ^ i) _
  rw [setBit, if_neg Bool.false_ne_true, Nat.add_zero, Nat.testBit_eq_decide_div_mod_eq, hdiv, decide_eq_false_iff_not]
  omega

/-! ### What a report keeps of the lamps' state -/

theorem Untouched.reportLevel {α : Type} {π : Dev → α} (h : Untouched π) (d : Dev) (s i : Nat) (b : Bool) : π (d.reportLevel s i b) = π d := by
  simp only [Dev.reportLevel]
  split
  · exact h.report d s i
  · exact h.unreport d s i

theorem Untouched.lampStatus {α : Type} {π : Dev → α} (h : Untouched π) (d : Dev) (c st : Nat) : π (d.lampStatus c st) = π d := by
  simp only [Dev.lampStatus]
  split
  · rfl
  · simp only [h.reportLevel, h.lampMark]

/-- The lamp frames that the part has sent. -/
def Dev.lampFrames (d : Dev) : List Output := d.outbox.filter Output.isLamp

theorem untouched_lampFrames : Untouched Dev.lampFrames where
  regs _ _ := rfl
  msix _ _ := rfl
  emit d o ho := by simp [Dev.lampFrames, Dev.emit, List.filter_append, ho]
  ports _ _ := rfl
  jobs _ _ := rfl
  jobQ _ _ _ := rfl
  cam _ _ := rfl
  isp _ _ := rfl
  vin _ _ _ := rfl
  chans _ _ := rfl
  ddr _ _ := rfl
  flt _ _ := rfl
  stop _ _ := rfl

theorem untouched_alerts : Untouched (fun d : Dev => d.lamps.alerts) where
  regs _ _ := rfl
  msix _ _ := rfl
  emit _ _ _ := rfl
  ports _ _ := rfl
  jobs _ _ := rfl
  jobQ _ _ _ := rfl
  cam _ _ := rfl
  isp _ _ := rfl
  vin _ _ _ := rfl
  chans _ _ := rfl
  ddr _ _ := rfl
  flt _ _ := rfl
  stop _ _ := rfl

theorem Dev.mem_lampFrames {d : Dev} {c cmd : Nat} {ws : List Nat} : Output.lamp c cmd ws ∈ d.lampFrames ↔ Output.lamp c cmd ws ∈ d.outbox := by
  simp only [Dev.lampFrames, List.mem_filter, Output.isLamp, and_true]

/-! ### ENABLE is written (R363, R370) -/

/-- One channel as ENABLE 0 leaves it. -/
def Dev.lampOut (d : Dev) (c : Nat) : Dev := (d.lampStatus c 0).modLamp c (fun x => { x with on := false, await := 0, judge := 0, dim := [], depends := [] })

/-- One channel before the first period after ENABLE 0 to 1. -/
def Dev.lampFresh (d : Dev) (c : Nat) : Dev := d.modLamp c (fun x => { x with on := false, still := false, valid := false, await := 0, misses := 0 })

theorem gives_lampEnable {rq : Requester} {s : State} (h : s.Ready rq 0) (w : Word) : Gives (.lampEnable rq w) s
    (if w.toNat.testBit 0 && !s.dev.flag F.LMP_CTRL_ENABLE then ((List.range 16).foldl Dev.lampFresh (s.dev.set F.LMP_CTRL_ENABLE (b2n (w.toNat.testBit 0)))).lampGate
      else if !w.toNat.testBit 0 then (List.range 16).foldl Dev.lampOut (s.dev.set F.LMP_CTRL_ENABLE (b2n (w.toNat.testBit 0)))
      else s.dev.set F.LMP_CTRL_ENABLE (b2n (w.toNat.testBit 0))) :=
  congrArg Host.Outcome.next (State.roleWrite_plain h _ _ none _ _ (by decide) rfl rfl)

/-- A channel of a controller that is off shows OFF, awaits no reply and starts afresh. -/
def Dev.LampDark (c : Nat) (d : Dev) : Prop := d.get F.LMP_CTRL_ENABLE = 0 ∧ d.get F.LMP_C_STAT_STATUS c = 0 ∧ (d.lampCh c).await = 0 ∧ (d.lampCh c).on = false

theorem Dev.get_of_lampView {d e : Dev} (h : e.lampView = d.lampView) {g : Field} (hg : g.clear nightFields = true) {i : Nat} (hi : i < g.n1) (hj : 0 < g.n2) :
    e.get g i = d.get g i := Dev.get_of_beyond (congrArg Prod.fst h) hg hi hj

theorem Dev.lampCh_of_lampView {d e : Dev} (h : e.lampView = d.lampView) (c : Nat) : e.lampCh c = d.lampCh c := congrArg (fun x => x.2.1.getD c {}) h

theorem Dev.lampsOn_of_off {d : Dev} (h : d.get F.LMP_CTRL_ENABLE = 0) : d.lampsOn = false := by simp [Dev.lampsOn, Dev.flag, h]

theorem Dev.lampGate_of_off {d : Dev} (h : d.get F.LMP_CTRL_ENABLE = 0) : d.lampGate = d := by rw [Dev.lampGate_eq, Dev.lampsOn_of_off h, if_neg Bool.false_ne_true]

theorem Dev.off_lampMark {d : Dev} (h : d.get F.LMP_CTRL_ENABLE = 0) (c st : Nat) : (d.lampMark c st).get F.LMP_CTRL_ENABLE = 0 :=
  (Dev.get_of_calm (Dev.calm_lampMark d c st) (by decide) (by decide) (by decide)).trans h

theorem Dev.off_lampStatus {d : Dev} (h : d.get F.LMP_CTRL_ENABLE = 0) (c st : Nat) : (d.lampStatus c st).get F.LMP_CTRL_ENABLE = 0 :=
  Dev.lampStatus_holds (P := fun x => x.get F.LMP_CTRL_ENABLE = 0) (fun _ _ hv hx => (Dev.get_of_lampView hv (by decide) (by decide) (by decide)).trans hx)
    (fun _ hx => (congrArg (fun y : Dev => y.get F.LMP_CTRL_ENABLE) (Dev.lampGate_of_off hx)).trans hx) (fun _ => h) (Dev.off_lampMark h c st)

theorem Dev.LampDark.lampStatus {c k : Nat} (hc : c < 16) (hk : k ≠ c) {d : Dev} (h : d.LampDark c) : (d.lampStatus k 0).LampDark c := by
  have hview (x y : Dev) (hv : y.lampView = x.lampView) (hx : x.LampDark c) : y.LampDark c := by
    obtain ⟨hoff, hst, hch⟩ := hx
    refine ⟨(Dev.get_of_lampView hv (by decide) (by decide) (by decide)).trans hoff, (Dev.get_of_lampView hv (by decide) hc (by decide)).trans hst, ?_⟩
    rwa [Dev.lampCh_of_lampView hv]
  have hgate (x : Dev) (hx : x.LampDark c) : x.lampGate.LampDark c := by rwa [Dev.lampGate_of_off hx.1]
  obtain ⟨hoff, hst, hch⟩ := h
  refine Dev.lampStatus_holds hview hgate (fun _ => ⟨hoff, hst, hch⟩) ⟨Dev.off_lampMark hoff k 0, ?_, ?_⟩
  · have hkey : F.LMP_C_STAT_STATUS.key c 0 ≠ F.LMP_C_STAT_STATUS.key k 0 := by simp only [Field.key, Field.addr, F.LMP_C_STAT_STATUS]; omega
    have hirq : F.LMP_C_STAT_STATUS.key c 0 ≠ F.LMP_IRQ_STAT.key 0 0 := by simp only [Field.key, Field.addr, F.LMP_C_STAT_STATUS, F.LMP_IRQ_STAT]; omega
    rw [Dev.get_lampMark_ne d k 0 hkey hirq, hst]
  · rw [Dev.lampCh, Dev.lamps_lampMark]
    exact hch

theorem Dev.LampDark.lampOut_self {c : Nat} (hc : c < 16) {d : Dev} (h : d.get F.LMP_CTRL_ENABLE = 0) : (d.lampOut c).LampDark c := by
  refine ⟨Dev.off_lampStatus h c 0, (Dev.showsStill_lampStatus hc d (by decide) (.inr (Dev.lampsOn_of_off h))).1, ?_⟩
  rw [Dev.lampOut, Dev.lampCh_modLamp]
  by_cases hlen : c < (d.lampStatus c 0).lamps.chans.length
  · rw [if_pos ⟨rfl, hlen⟩]
    exact ⟨rfl, rfl⟩
  · rw [if_neg (fun hx => hlen hx.2), Dev.lampCh, List.getD_eq_default _ _ (Nat.le_of_not_lt hlen)]
    exact ⟨rfl, rfl⟩

theorem Dev.LampDark.lampOut {c : Nat} (hc : c < 16) {d : Dev} (h : d.LampDark c) (k : Nat) : (d.lampOut k).LampDark c := by
  by_cases hk : k = c
  · subst hk
    exact Dev.LampDark.lampOut_self hc h.1
  · obtain ⟨hoff, hst, hch⟩ := h.lampStatus hc hk
    exact ⟨hoff, hst, Dev.lampCh_modLamp_holds (P := fun x => x.await = 0 ∧ x.on = false) hch (fun _ => ⟨rfl, rfl⟩)⟩

theorem lampEnable_off {rq : Requester} {s : State} (h : s.Ready rq 0) {w : Word} (hw : w.toNat.testBit 0 = false) :
    Completes (.lampEnable rq w) s (fun d => d.get F.LMP_CTRL_ENABLE = 0 ∧ ∀ c < 16, d.get F.LMP_C_STAT_STATUS c = 0 ∧ (d.lampCh c).await = 0 ∧ (d.lampCh c).on = false) := by
  have hgives := gives_lampEnable h w
  rw [hw, Bool.false_and, if_neg Bool.false_ne_true, Bool.not_false, if_pos rfl] at hgives
  have hdark (c : Nat) (hc : c < 16) : ((List.range 16).foldl Dev.lampOut (s.dev.set F.LMP_CTRL_ENABLE (b2n false))).LampDark c :=
    foldl_reaches (P := fun x : Dev => x.get F.LMP_CTRL_ENABLE = 0) (Q := Dev.LampDark c) (f := Dev.lampOut) (fun _ k hx => Dev.off_lampStatus hx k 0) (fun _ => Dev.LampDark.lampOut_self hc)
      (fun _ k hx => hx.lampOut hc k) (List.mem_range.mpr hc) (Dev.get_set_self ..)
  generalize (List.range 16).foldl Dev.lampOut (s.dev.set F.LMP_CTRL_ENABLE (b2n false)) = e at hgives hdark
  exact ⟨e, hgives, (hdark 0 (by decide)).1, fun c hc => (hdark c hc).2⟩

/-- A channel that starts afresh. -/
def LampCh.Fresh (x : LampCh) : Prop := x.valid = false ∧ x.await = 0 ∧ x.on = false

theorem Dev.fresh_lampFresh (d : Dev) (c : Nat) : ((d.lampFresh c).lampCh c).Fresh := by
  rw [Dev.lampFresh, Dev.lampCh_modLamp]
  by_cases hlen : c < d.lamps.chans.length
  · rw [if_pos ⟨rfl, hlen⟩]
    exact ⟨rfl, rfl, rfl⟩
  · rw [if_neg (fun hx => hlen hx.2), Dev.lampCh, List.getD_eq_default _ _ (Nat.le_of_not_lt hlen)]
    exact ⟨rfl, rfl, rfl⟩

theorem Dev.lampHeld_enabled (d : Dev) (c : Nat) : (d.set F.LMP_CTRL_ENABLE 1).lampHeld c = d.lampHeld c := by
  have hshut : (d.set F.LMP_CTRL_ENABLE 1).get F.THM_STAT_SHUT_LATCH = d.get F.THM_STAT_SHUT_LATCH := Dev.get_set_distinct d (by decide) ..
  simp only [Dev.lampHeld, Dev.flag, hshut]
  rfl

theorem lampEnable_on {rq : Requester} {s : State} (h : s.Ready rq 0) {w : Word} (hw : w.toNat.testBit 0 = true) (hoff : s.dev.get F.LMP_CTRL_ENABLE = 0) :
    Completes (.lampEnable rq w) s (fun d => d.get F.LMP_CTRL_ENABLE = 1 ∧ ∀ c < 16, (d.lampCh c).valid = false ∧ (d.lampCh c).await = 0 ∧ (d.lampCh c).on = false ∧
      d.get F.LMP_C_STAT_STATUS c = (if s.dev.lampHeld c then 5 else s.dev.get F.LMP_C_STAT_STATUS c)) := by
  have hgives := gives_lampEnable h w
  rw [hw, if_pos (by rw [(Dev.flag_eq_false ..).mpr hoff]; rfl)] at hgives
  have hparts := foldl_keeps (fun x : Dev => (x.regs, x.pwr, x.lampHeld)) Dev.lampFresh (fun _ _ => rfl) (List.range 16) (s.dev.set F.LMP_CTRL_ENABLE 1)
  have hfresh (c : Nat) (hc : c < 16) : (((List.range 16).foldl Dev.lampFresh (s.dev.set F.LMP_CTRL_ENABLE 1)).lampCh c).Fresh :=
    foldl_reaches (P := fun _ : Dev => True) (Q := fun x : Dev => (x.lampCh c).Fresh) (fun _ _ _ => trivial) (fun x _ => Dev.fresh_lampFresh x c)
      (fun _ _ hx => Dev.lampCh_modLamp_holds hx (fun _ => ⟨rfl, rfl, rfl⟩)) (List.mem_range.mpr hc) trivial
  rw [show b2n true = 1 from rfl] at hgives
  generalize (List.range 16).foldl Dev.lampFresh (s.dev.set F.LMP_CTRL_ENABLE 1) = e at hgives hparts hfresh
  refine ⟨e.lampGate, hgives, ?_⟩
  have hregs : e.regs = (s.dev.set F.LMP_CTRL_ENABLE 1).regs := congrArg (fun x => x.1) hparts
  have hpwr : e.pwr = s.dev.pwr := congrArg (fun x => x.2.1) hparts
  have hheld : e.lampHeld = (s.dev.set F.LMP_CTRL_ENABLE 1).lampHeld := congrArg (fun x => x.2.2) hparts
  have hen : e.get F.LMP_CTRL_ENABLE = 1 := (Dev.get_of_regs hregs ..).trans (Dev.get_set_self ..)
  have hon : e.lampsOn = true := by simp [Dev.lampsOn, Dev.flag, hen, hpwr, h.1.1]
  refine ⟨(Dev.get_of_beyond (Dev.beyond_lampGate (List.Subset.refl _) e) (by decide) (by decide) (by decide)).trans hen, fun c hc => ?_⟩
  obtain ⟨hvalid, hawait, hnew⟩ := Dev.lampCh_lampGate (P := LampCh.Fresh) (fun x hx => ⟨hx.1, rfl, hx.2.2⟩) (hfresh c hc)
  refine ⟨hvalid, hawait, hnew, ?_⟩
  rw [Dev.status_lampGate e hc, hon, congrFun hheld c, Dev.lampHeld_enabled, Dev.get_of_regs hregs, Dev.get_set_distinct _ (by decide)]
  simp only [true_and]

theorem lampEnable_again {rq : Requester} {s : State} (h : s.Ready rq 0) {w : Word} (hw : w.toNat.testBit 0 = true) (hon : s.dev.get F.LMP_CTRL_ENABLE ≠ 0) :
    Gives (.lampEnable rq w) s (s.dev.set F.LMP_CTRL_ENABLE 1) := by
  have hgives := gives_lampEnable h w
  rw [hw, (Dev.flag_eq_true ..).mpr hon] at hgives
  exact hgives

/-! ### Periods of a dark channel (R363, R370, R371) -/

theorem gives_lampPeriod (c : Lamp) (s : State) : Gives (.lampPeriod c) s (s.dev.lampPeriod c.val) := rfl

theorem lampPeriod_held {s : State} {c : Lamp} (hon : s.dev.lampsOn = true) (hheld : s.dev.lampHeld c.val = true) :
    Completes (.lampPeriod c) s (fun d => d.get F.LMP_C_STAT_STATUS c.val = 5 ∧
      ∀ cmd ws, Output.lamp c.val cmd ws ∈ d.outbox → Output.lamp c.val cmd ws ∈ s.dev.outbox) := by
  have hrun : s.dev.lampPeriod c.val = s.dev.lampStatus c.val 5 := by simp only [Dev.lampPeriod, hon, hheld, Bool.not_true, Bool.false_eq_true, if_false, if_true]
  refine ⟨_, (gives_lampPeriod c s).congr hrun, Dev.status_lampStatus_five c.isLt _, fun cmd ws hsent => ?_⟩
  rw [← Dev.mem_lampFrames, untouched_lampFrames.lampStatus] at hsent
  exact Dev.mem_lampFrames.mp hsent

/-- An OFF frame is among what the part has sent. -/
theorem Dev.off_mem_lampOff (d : Dev) (c : Nat) : ∃ ws, Output.lamp c 5 ws ∈ (d.lampOff c).outbox := ⟨_, List.mem_append_right _ (List.mem_singleton.mpr rfl)⟩

theorem lampPeriod_still {s : State} {c : Lamp} (hon : s.dev.lampsOn = true) (hheld : s.dev.lampHeld c.val = false) (huv : s.dev.uvChannel c.val = true)
    (hslow : s.dev.lamps.slowAt.isSome = true) (hpassed : s.dev.lamps.passed = true) :
    Completes (.lampPeriod c) s (fun d => d.get F.LMP_C_STAT_STATUS c.val = 5 ∧ (s.dev.get F.LMP_C_CFG_MODE c.val ≠ 4 → ∃ ws, Output.lamp c.val 5 ws ∈ d.outbox)) := by
  have hstill : s.dev.lampStill c.val = true := by simp [Dev.lampStill, huv, hslow, hpassed]
  obtain ⟨e, hrun⟩ : ∃ e : Dev, s.dev.lampPeriod c.val = (if s.dev.get F.LMP_C_CFG_MODE c.val = 4 then e else e.lampOff c.val).lampStatus c.val 5 :=
    ⟨_, by simp only [Dev.lampPeriod, hon, hheld, hstill, Bool.not_true, Bool.false_eq_true, if_false, if_true]; rfl⟩
  refine ⟨_, (gives_lampPeriod c s).congr hrun, Dev.status_lampStatus_five c.isLt _, fun hmode => ?_⟩
  obtain ⟨ws, hsent⟩ := Dev.off_mem_lampOff e c.val
  rw [if_neg hmode]
  refine ⟨ws, Dev.mem_lampFrames.mp ?_⟩
  rw [untouched_lampFrames.lampStatus]
  exact Dev.mem_lampFrames.mpr hsent

/-! ### ILK_UV_N and LMP_ALERT_N (R370 to R372) -/

/-- The level of ILK_UV_N taken. -/
def Dev.withIlkUv (d : Dev) (high : Bool) : Dev := { d with pins := { d.pins with ilkUv := high } }

theorem gives_ilkUvInput_on {s : State} (h : s.dev.pwr.st = .on) (high : Bool) : Gives (.ilkUvInput high) s ((s.dev.withIlkUv high).lampGate.reportLevel 57 0 high) := by
  have hst : (s.dev.withIlkUv high).lampGate.pwr.st = .on := (Dev.powerState_of_fixed (Dev.fixed_lampGate _)).trans h
  exact congrArg (fun d : Dev => Host.Outcome.next { s with dev := d }) (if_pos hst)

theorem gives_ilkUvInput_off {s : State} (h : s.dev.pwr.st ≠ .on) (high : Bool) : Gives (.ilkUvInput high) s (s.dev.withIlkUv high) := by
  have hgate : (s.dev.withIlkUv high).lampGate = s.dev.withIlkUv high := by
    rw [Dev.lampGate_eq, if_neg]
    simp only [Dev.lampsOn, Bool.and_eq_true, decide_eq_true_eq]
    exact fun hx => h hx.1
  have hst : (s.dev.withIlkUv high).lampGate.pwr.st ≠ .on := by rw [hgate]; exact h
  exact congrArg (fun d : Dev => Host.Outcome.next { s with dev := d }) ((if_neg hst).trans hgate)

theorem ilkUvInput_dark {s : State} {c : Lamp} (hon : s.dev.lampsOn = true) (huv : s.dev.uvChannel c.val = true) :
    Completes (.ilkUvInput true) s (fun d => d.get F.LMP_C_STAT_STATUS c.val = 5) := by
  have hst : s.dev.pwr.st = .on := of_decide_eq_true (Bool.and_eq_true_iff.mp hon).1
  have hheld : (s.dev.withIlkUv true).lampHeld c.val = true := by
    have huv' : (s.dev.withIlkUv true).uvChannel c.val = true := huv
    have hpin : (s.dev.withIlkUv true).pins.ilkUv = true := rfl
    rw [Dev.lampHeld, huv', hpin, Bool.true_or, Bool.and_true, Bool.or_true]
  have hshown : (s.dev.withIlkUv true).lampGate.ShowsStill c.val 5 := by
    refine ⟨?_, .inl rfl⟩
    rw [Dev.status_lampGate _ c.isLt]
    exact if_pos ⟨hon, hheld⟩
  exact ⟨_, gives_ilkUvInput_on hst true, (Dev.showsStill_report c.isLt hshown 57 0).1⟩

theorem ilkUvInput_reports {s : State} (h : s.dev.pwr.st = .on) :
    Completes (.ilkUvInput true) s (fun d => d.pins = { s.dev.pins with ilkUv := true } ∧ has d.flt.status (fkey 57 0) = true) ∧
    Completes (.ilkUvInput false) s (fun d => d.pins = { s.dev.pins with ilkUv := false } ∧ has d.flt.det (fkey 57 0) = false) := by
  have hpins (high : Bool) : ((s.dev.withIlkUv high).lampGate).pins = { s.dev.pins with ilkUv := high } := Dev.pins_of_fixed (Dev.fixed_lampGate _)
  exact ⟨⟨_, gives_ilkUvInput_on h true, (Dev.pins_of_fixed (Dev.fixed_report ..)).trans (hpins true), Dev.has_status_report _ _ _ (by decide)⟩,
    _, gives_ilkUvInput_on h false, (Dev.pins_of_fixed (Dev.fixed_unreport ..)).trans (hpins false), Dev.det_unreport ..⟩

theorem gives_lampAlertInput (s : State) : Gives .lampAlertInput s
    { s.dev with lamps := { s.dev.lamps with alerts := if s.dev.pwr.st = .on then 65535 else s.dev.lamps.alerts } } := rfl

/-! ### A reply while LMP_ALERT_N is low (R372) -/

theorem Dev.alerts_lampMeasure (d : Dev) (c w0 w1 : Nat) : (d.lampMeasure c w0 w1).lamps.alerts = d.lamps.alerts := by
  simp only [Dev.lampMeasure]
  split <;> rfl

theorem Dev.alerts_judgeString (d : Dev) (c v i : Nat) : (d.judgeString c v i).lamps.alerts = d.lamps.alerts := by
  exact ite_keeps (fun x : Dev => x.lamps.alerts) (untouched_alerts.lampStatus ..)
    (ite_keeps (fun x : Dev => x.lamps.alerts) (untouched_alerts.lampStatus ..) (untouched_alerts.lampStatus ..))

theorem Dev.alerts_judgeMatrix (d : Dev) (c r o s : Nat) : (d.judgeMatrix c r o s).lamps.alerts = d.lamps.alerts := by
  exact ite_keeps (fun x : Dev => x.lamps.alerts) (untouched_alerts.lampStatus ..)
    (ite_keeps (fun x : Dev => x.lamps.alerts) (untouched_alerts.lampStatus ..) (untouched_alerts.lampStatus ..))

/-- What a reply brings before LMP_ALERT_N is looked at. -/
theorem Dev.lampReply_some {d : Dev} {c : Nat} (h : 0 < (d.lampCh c).await) (row w0 w1 w2 : Nat) : ∃ e : Dev, e.lamps.alerts = d.lamps.alerts ∧
    d.lampReply c row (some (w0, w1, w2)) = if bit e.lamps.alerts c then
      (if w0.testBit 23 then ({ e with lamps := { e.lamps with alerts := setBit e.lamps.alerts c false } } : Dev).report 301
        else { e with lamps := { e.lamps with alerts := setBit e.lamps.alerts c false } }) else e := by
  simp only [Dev.lampReply, if_neg (Nat.ne_of_gt h)]
  refine ⟨_, ?_, rfl⟩
  have hmeasured (x : Dev) (b : Bool) : (if b then x.lampMeasure c w0 w1 else x).lamps.alerts = x.lamps.alerts := by
    split
    · exact Dev.alerts_lampMeasure ..
    · rfl
  have hfound (x : Dev) : (if x.get F.LMP_C_STAT_STATUS c = 6 then x.lampStatus c 0 else x).lamps.alerts = x.lamps.alerts := by
    split
    · exact untouched_alerts.lampStatus ..
    · rfl
  refine ite_keeps (fun x : Dev => x.lamps.alerts) (ite_keeps (fun x : Dev => x.lamps.alerts) ?_ ?_) (ite_keeps (fun x : Dev => x.lamps.alerts) ?_ ?_)
  · exact (Dev.alerts_judgeMatrix ..).trans ((hfound _).trans (hmeasured _ _))
  · exact (hfound _).trans (hmeasured _ _)
  · exact (Dev.alerts_judgeString ..).trans ((hfound _).trans (hmeasured _ _))
  · exact (hfound _).trans (hmeasured _ _)

theorem gives_lampReply (c : Lamp) (row : Fin 32) (w0 w1 w2 : Word) (s : State) : Gives (.lampReply c row (some (w0, w1, w2))) s
    (if s.dev.lampsOn then s.dev.lampReply c.val row.val (some (w0.toNat, w1.toNat, w2.toNat)) else s.dev) := rfl

theorem lampReply_alert {s : State} {c : Lamp} {row : Fin 32} {w0 w1 w2 : Word} (hon : s.dev.lampsOn = true) (hawait : 0 < (s.dev.lampCh c.val).await)
    (hlow : s.dev.lamps.alerts.testBit c.val = true) : Completes (.lampReply c row (some (w0, w1, w2))) s (fun d =>
      d.lamps.alerts.testBit c.val = false ∧ (w0.toNat.testBit 23 = true → has d.flt.status (fkey 301 0) = true)) := by
  obtain ⟨e, he, hreply⟩ := Dev.lampReply_some hawait row.val w0.toNat w1.toNat w2.toNat
  rw [if_pos (by rw [he]; exact hlow)] at hreply
  refine ⟨_, (gives_lampReply c row w0 w1 w2 s).congr ((if_pos hon).trans hreply), ?_⟩
  cases halert : w0.toNat.testBit 23 with
  | true =>
    rw [if_pos rfl]
    exact ⟨(congrArg (fun n : Nat => n.testBit c.val) (untouched_alerts.report _ 301 0)).trans (testBit_setBit_false _ _), fun _ => Dev.has_status_report _ _ _ (by decide)⟩
  | false =>
    rw [if_neg Bool.false_ne_true]
    exact ⟨testBit_setBit_false _ _, fun h => absurd h Bool.false_ne_true⟩

/-! ### The still time (R370) -/

theorem gives_uvStillTimeout (s : State) : Gives .uvStillTimeout s (match s.dev.lamps.slowAt with
    | some t => if t + s.dev.stillTime ≤ s.dev.now then { s.dev with lamps := { s.dev.lamps with passed := true } } else s.dev
    | none => s.dev) := rfl

theorem uvStillTimeout_gives (s : State) : (s.dev.lamps.slowAt = none → Gives .uvStillTimeout s s.dev) ∧
    (∀ t, s.dev.lamps.slowAt = some t →
      (t + s.dev.bonded 9 * 1000000 ≤ s.dev.raw → Gives .uvStillTimeout s { s.dev with lamps := { s.dev.lamps with passed := true } }) ∧
      (s.dev.raw < t + s.dev.bonded 9 * 1000000 → Gives .uvStillTimeout s s.dev)) := by
  have hgives := gives_uvStillTimeout s
  refine ⟨fun h => ?_, fun t h => ⟨fun hpast => ?_, fun hnot => ?_⟩⟩
  · rw [h] at hgives
    exact hgives
  · rw [h] at hgives
    exact hgives.congr (if_pos hpast)
  · rw [h] at hgives
    exact hgives.congr (if_neg (Nat.not_le.mpr hnot))

/-- Settles O15: the three cases of ENABLE, the dark periods, the two inputs with and without power, the reply that is looked at, and the still time. -/
theorem lampsGoDark : Obligations.LampsGoDark := by
  refine ⟨fun rq w s h => ⟨lampEnable_off h, lampEnable_again h, lampEnable_on h⟩,
    fun c s hon => ⟨lampPeriod_held hon, lampPeriod_still hon, ilkUvInput_dark hon⟩, fun s hst => ?_, fun s hoff => ⟨gives_ilkUvInput_off hoff, ?_⟩,
    fun c row w0 w1 w2 s => lampReply_alert, uvStillTimeout_gives⟩
  · obtain ⟨hhigh, hlow⟩ := ilkUvInput_reports hst
    refine ⟨hhigh, hlow, ?_⟩
    have hgives := gives_lampAlertInput s
    rwa [if_pos hst] at hgives
  · have hgives := gives_lampAlertInput s
    rwa [if_neg hoff] at hgives

end Sys2Proof.Machine
end


section
/-! PROOF. The collector's own books under an event and its reaction (R401, R402, R406, R415). -/

namespace Sys2Proof.Machine

/-! ### Lists of keys -/

theorem has_insertOnce (l : List Nat) (k x : Nat) : has (insertOnce l k) x = (has l x || decide (x = k)) := by
  simp only [has, insertOnce]
  split
  · next h =>
    by_cases hx : x = k
    · subst hx
      rw [h]
      rfl
    · simp [hx]
  · by_cases hx : x = k <;> simp [hx]

theorem has_removeAll (l : List Nat) (k x : Nat) : has (removeAll l k) x = (has l x && decide (x ≠ k)) := by
  by_cases hx : x = k <;> by_cases hm : x ∈ l <;> simp [has, removeAll, hx, hm]

/-! ### What the other blocks leave of the collector -/

theorem still_flt : Still (fun d : Dev => d.flt) where
  regs _ _ := rfl
  msix _ _ := rfl
  emit _ _ _ := rfl
  ports _ _ := rfl
  jobs _ _ := rfl
  jobQ _ _ _ := rfl
  cam _ _ := rfl
  isp _ _ := rfl
  vin _ _ _ := rfl
  stop _ _ := rfl

theorem Dev.flt_settle (d e : Dev) : (Dev.settle d e).flt = e.flt := still_flt.settle (fun _ _ => rfl) d e

/-! ### An event and its entry (R402) -/

/-- The lees-log entry of an event. -/
def Dev.leesEntry (d : Dev) (src inst : Nat) : LogEntry :=
  { time := d.T, pairEq := has d.flt.eq (fkey src inst), forced := has d.flt.force (fkey src inst), conseq := d.consequential src, cls := d.classOf src, source := src,
    inst := d.instanceOf src inst, tag := (d.barJob (barOfSource src)).map (fun x => d.jobTag x.1), seq := d.flt.seq,
    line := (match d.shownHwm 0 with | some h => h % 2 ^ 32 | none => 0) }

/-- An event before its reaction: the status bit is set and the entry is in the log. -/
def Dev.entered (d : Dev) (src inst : Nat) : Dev :=
  (((({ d with flt := { d.flt with status := insertOnce d.flt.status (fkey src inst) } } : Dev).logPush (d.leesEntry src inst)).set F.FLT_STATE_LAST_SRC src)).fltIrq 0

theorem Dev.event_eq (d : Dev) (src inst : Nat) :
    d.event src inst = if d.consequential src then d.entered src inst else (d.entered src inst).react src inst := rfl

theorem Dev.flt_logPush (d : Dev) (e : LogEntry) : (d.logPush e).flt =
    { d.flt with log := (if d.flt.log.length < 16 then d.flt.log else d.flt.log.drop 1) ++ [e], seq := (d.flt.seq + 1) % 2 ^ 32 } := by
  simp only [Dev.logPush]
  split <;> simp [Dev.fltIrq]

theorem Dev.flt_entered (d : Dev) (s i : Nat) : (d.entered s i).flt = { d.flt with
    status := insertOnce d.flt.status (fkey s i),
    log := (if d.flt.log.length < 16 then d.flt.log else d.flt.log.drop 1) ++ [d.leesEntry s i],
    seq := (d.flt.seq + 1) % 2 ^ 32 } := by
  simp only [Dev.entered, Dev.fltIrq, Dev.flt_irq, Dev.set_flt, Dev.flt_logPush]

theorem Dev.fixed_entered (d : Dev) (s i : Nat) : (d.entered s i).fixed = d.fixed := by
  simp only [Dev.entered, Dev.fltIrq, Dev.fixed_irq, Dev.fixed_set, Dev.fixed_logPush]
  rfl

/-- The collector's fields that an event changes before its reaction. -/
def eventFields : List Field := [F.FLT_IRQ_STAT, F.FLT_LOG_STAT_OVERWRITES, F.FLT_STATE_LAST_SRC]

theorem Dev.beyond_entered (d : Dev) (s i : Nat) : (d.entered s i).beyond eventFields = d.beyond eventFields := by
  have hirq (e : Dev) (k : Nat) : (e.fltIrq k).beyond eventFields = e.beyond eventFields := Dev.beyond_irq _ _ _ (by decide) _ _ _
  have hpush (e : Dev) (x : LogEntry) : (e.logPush x).beyond eventFields = e.beyond eventFields := by
    simp only [Dev.logPush]
    split
    · rfl
    · exact (hirq _ _).trans (Dev.beyond_bump _ _ _ _ (by decide) _)
  exact (hirq _ _).trans ((Dev.beyond_set _ _ _ _ (by decide) _).trans (hpush _ _))

/-! ### The reactions (R406) -/

theorem Dev.react_zero {d : Dev} {s : Nat} (h : d.classOf s = 0) (i : Nat) : d.react s i = d := by simp only [Dev.react, h]

theorem Dev.react_two {d : Dev} {s : Nat} (h : d.classOf s = 2) (i : Nat) :
    d.react s i = (({ d with flt := { d.flt with stops := insertOnce d.flt.stops (fkey s i) } } : Dev).stopTrigger 1).fltIrq 2 := by simp only [Dev.react, h]

theorem Dev.react_three {d : Dev} {s : Nat} (h : 3 ≤ d.classOf s) (i : Nat) :
    d.react s i = (Dev.settle d { d with flt := { d.flt with safes := insertOnce d.flt.safes (fkey s i) } }).fltIrq 3 := by
  simp only [Dev.react]
  split <;> first | omega | rfl

theorem Dev.flt_react_two {d : Dev} {s : Nat} (h : d.classOf s = 2) (i : Nat) : (d.react s i).flt = { d.flt with stops := insertOnce d.flt.stops (fkey s i) } := by
  rw [Dev.react_two h, Dev.fltIrq, Dev.flt_irq]
  exact still_flt.stopTrigger _ _

theorem Dev.flt_react_three {d : Dev} {s : Nat} (h : 3 ≤ d.classOf s) (i : Nat) : (d.react s i).flt = { d.flt with safes := insertOnce d.flt.safes (fkey s i) } := by
  rw [Dev.react_three h, Dev.fltIrq, Dev.flt_irq, Dev.flt_settle]

/-- The class of a source stands in the bonded store and in its own register. -/
theorem Dev.classOf_entered (d : Dev) (s i x : Nat) (hx : x < 312) : (d.entered s i).classOf x = d.classOf x := by
  have hcls : (d.entered s i).get F.FLT_SRC_CLASS x = d.get F.FLT_SRC_CLASS x := Dev.get_of_beyond (Dev.beyond_entered d s i) (by decide) hx (by decide)
  simp only [Dev.classOf, Dev.bonded, Dev.bond_of_fixed (Dev.fixed_entered d s i), hcls]

/-! ### What a look leaves -/

theorem Dev.seen_event (d : Dev) (s i : Nat) : (d.event s i).seen = (insertOnce d.flt.status (fkey s i), d.flt.det, d.flt.force, d.flt.eq, d.flt.released) := by
  have hentered : (d.entered s i).seen = (insertOnce d.flt.status (fkey s i), d.flt.det, d.flt.force, d.flt.eq, d.flt.released) := by
    simp only [Dev.seen, Dev.flt_entered]
  rw [Dev.event_eq]
  split
  · exact hentered
  · rw [Dev.seen_react, hentered]

theorem Dev.live_look (d : Dev) (k : Nat) : (d.look k).seen.2 = d.seen.2 := by
  simp only [Dev.look]
  split
  · rw [Dev.seen_event]
    rfl
  · rfl

theorem Dev.force_noteLive (d : Dev) (k : Nat) : (d.noteLive k).flt.force = d.flt.force := by
  have hforce (e : Dev) (x : Nat) : (e.look x).flt.force = e.flt.force := congrArg (fun y => y.2.1) (Dev.live_look e x)
  have hdrain (e : Dev) : e.drain.flt.force = e.flt.force :=
    foldl_keeps (fun x : Dev => x.flt.force) (fun d src => d.detect (fkey src 0)) (fun _ _ => hforce _ _) e.flt.due { e with flt := { e.flt with due := [] } }
  exact (hdrain _).trans (hforce d k)

/-- Nothing falls due: there is nothing to report after a reaction. -/
theorem Dev.drain_of_none {d : Dev} (h : d.flt.due = []) : d.drain = d := by
  have hdue : ({ d.flt with due := [] } : FltSt) = d.flt := by rw [← h]
  simp only [Dev.drain, h, hdue, List.foldl_nil]

theorem fkey_key (s i : Nat) (hi : i < 256) : fkey s i / 256 = s ∧ fkey s i % 256 = i := by
  simp only [fkey]
  omega

/-- A source whose detector reports. -/
def Dev.detecting (d : Dev) (k : Nat) : Dev := { d with flt := { d.flt with det := insertOnce d.flt.det k } }

theorem Dev.report_eq (d : Dev) (s i : Nat) : d.report s i = ((d.detecting (fkey s i)).look (fkey s i)).drain := rfl

theorem Dev.live_detecting (d : Dev) (k : Nat) : (d.detecting k).flt.live k = true := by
  simp only [FltSt.live, Dev.detecting, has_insertOnce_self, Bool.true_or]

/-- A report of a source whose status is clear is an event; of one whose status stands, only the detector's key. -/
theorem Dev.look_detecting (d : Dev) (s : Nat) {i : Nat} (hi : i < 256) : (d.detecting (fkey s i)).look (fkey s i) =
    if has d.flt.status (fkey s i) then d.detecting (fkey s i) else (d.detecting (fkey s i)).event s i := by
  obtain ⟨hs, hm⟩ := fkey_key s i hi
  rw [Dev.look, Dev.live_detecting, Bool.true_and, hs, hm]
  by_cases h : has d.flt.status (fkey s i) = true
  · have h' : has (d.detecting (fkey s i)).flt.status (fkey s i) = true := h
    rw [if_pos h, h', if_neg (by decide)]
  · have h' : has (d.detecting (fkey s i)).flt.status (fkey s i) = false := Bool.not_eq_true _ ▸ h
    rw [if_neg h, h', Bool.not_false, if_pos rfl]

theorem Dev.due_entered (d : Dev) (s i : Nat) : (d.entered s i).flt.due = d.flt.due := by rw [Dev.flt_entered]

/-- Without a DEGRADE reaction nothing falls due. -/
theorem Dev.due_event {d : Dev} {s : Nat} (hs : s < 312) (h : d.consequential s = true ∨ d.classOf s ≠ 1) (i : Nat) : (d.event s i).flt.due = d.flt.due := by
  rw [Dev.event_eq]
  split
  · exact Dev.due_entered d s i
  · next hc =>
    have hcls : d.classOf s ≠ 1 := h.resolve_left hc
    have heq := Dev.classOf_entered d s i s hs
    obtain hzero | htwo | hthree : d.classOf s = 0 ∨ d.classOf s = 2 ∨ 3 ≤ d.classOf s := by omega
    · rw [Dev.react_zero (heq.trans hzero), Dev.due_entered]
    · rw [Dev.flt_react_two (heq.trans htwo), ← Dev.due_entered d s i]
    · rw [Dev.flt_react_three (heq.symm ▸ hthree), ← Dev.due_entered d s i]

theorem Dev.report_of_set {d : Dev} {s i : Nat} (hi : i < 256) (hdue : d.flt.due = []) (h : has d.flt.status (fkey s i) = true) :
    d.report s i = d.detecting (fkey s i) := by
  rw [Dev.report_eq, Dev.look_detecting d s hi, if_pos h]
  exact Dev.drain_of_none hdue

/-- A report that is an event and fences nothing. -/
theorem Dev.report_of_clear {d : Dev} {s i : Nat} (hi : i < 256) (hs : s < 312) (hdue : d.flt.due = []) (h : has d.flt.status (fkey s i) = false)
    (hcls : d.consequential s = true ∨ d.classOf s ≠ 1) : d.report s i = (d.detecting (fkey s i)).event s i := by
  rw [Dev.report_eq, Dev.look_detecting d s hi, if_neg (by simp [h])]
  exact Dev.drain_of_none ((Dev.due_event hs (d := d.detecting (fkey s i)) hcls i).trans hdue)

end Sys2Proof.Machine
end


section
/-! PROOF. The commands of the collector: statuses cleared and forced, acknowledgements, windows and the external error pairs (R400 to R419). -/

namespace Sys2Proof.Machine

/-! ### Status bits cleared (R401, R410) -/

/-- From f to g the statuses of some keys have been cleared where they are not live, and neither a live bit nor a reaction in force has changed. -/
def FltSt.Cleared (f g : FltSt) (p : Nat → Bool) : Prop :=
  (∀ k, has g.status k = (has f.status k && (f.live k || !p k))) ∧ g.det = f.det ∧ g.force = f.force ∧ g.eq = f.eq ∧ g.stops = f.stops ∧ g.safes = f.safes

theorem FltSt.Cleared.refl (f : FltSt) : f.Cleared f (fun _ => false) := ⟨fun k => by simp, rfl, rfl, rfl, rfl, rfl⟩

theorem FltSt.Cleared.live {f g : FltSt} {p : Nat → Bool} (h : f.Cleared g p) (k : Nat) : g.live k = f.live k := by
  obtain ⟨-, hdet, hforce, heq, -, -⟩ := h
  simp only [FltSt.live, hdet, hforce, heq]

theorem FltSt.Cleared.trans {f g h : FltSt} {p q : Nat → Bool} (hfg : f.Cleared g p) (hgh : g.Cleared h q) : f.Cleared h (fun k => p k || q k) := by
  obtain ⟨hst, hdet, hforce, heq, hstops, hsafes⟩ := hgh
  refine ⟨fun k => ?_, hdet.trans hfg.2.1, hforce.trans hfg.2.2.1, heq.trans hfg.2.2.2.1, hstops.trans hfg.2.2.2.2.1, hsafes.trans hfg.2.2.2.2.2⟩
  rw [hst k, hfg.1 k, hfg.live k]
  change _ = (has f.status k && (f.live k || !(p k || q k)))
  cases has f.status k <;> cases f.live k <;> cases p k <;> cases q k <;> rfl

theorem FltSt.Cleared.congr {f g : FltSt} {p q : Nat → Bool} (h : f.Cleared g p) (hpq : ∀ k, p k = q k) : f.Cleared g q := funext hpq ▸ h

theorem Dev.flt_unfence (d : Dev) (u : FUnit) : (d.unfence u).flt = d.flt := by
  have hprime (p k : Nat) : (d.primeLane p k).flt = d.flt := (still_flt.onLane d p).primeLane rfl k
  cases u with
  | port p =>
    simp only [Dev.unfence, Dev.primePort]
    split
    · exact hprime p 1
    · rfl
  | cam n =>
    simp only [Dev.unfence, Dev.startCamera]
    split
    · split <;> rfl
    · rfl
  | _ => rfl

/-- The end of a source's fences leaves statuses, live bits and the reactions in force. -/
theorem Dev.cleared_endFences (d : Dev) (s i : Nat) : d.flt.Cleared (d.endFences s i).flt (fun _ => false) := by
  simp only [Dev.endFences]
  refine foldl_holds (P := fun x : Dev => d.flt.Cleared x.flt (fun _ => false)) (fun e f he => ?_) _ (FltSt.Cleared.refl d.flt)
  split
  · exact he
  · rwa [Dev.flt_unfence]

theorem Dev.cleared_clearStatus (d : Dev) (k : Nat) : d.flt.Cleared (d.clearStatus k).flt (fun x => decide (x = k)) := by
  simp only [Dev.clearStatus]
  split
  · next h =>
    have hremoved (l m : List (Nat × Nat)) : d.flt.Cleared { d.flt with status := removeAll d.flt.status k, flicker := l, lastFlick := m } (fun x => decide (x = k)) := by
      refine ⟨fun x => ?_, rfl, rfl, rfl, rfl, rfl⟩
      rw [has_removeAll]
      by_cases hx : x = k
      · subst hx
        simp [(Bool.not_eq_true' _).mp (Bool.and_eq_true_iff.mp h).2]
      · simp [hx]
    exact ((hremoved _ _).trans (Dev.cleared_endFences _ _ _)).congr (fun x => Bool.or_false _)
  · next h =>
    refine ⟨fun x => ?_, rfl, rfl, rfl, rfl, rfl⟩
    by_cases hx : x = k
    · subst hx
      cases hst : has d.flt.status x <;> cases hlive : d.flt.live x <;> simp_all
    · simp [hx]

theorem Dev.cleared_foldl_clearStatus (l : List Nat) (d : Dev) : d.flt.Cleared (l.foldl Dev.clearStatus d).flt (fun x => has l x) := by
  induction l generalizing d with
  | nil => exact FltSt.Cleared.refl d.flt
  | cons k l ih =>
    refine ((d.cleared_clearStatus k).trans (ih (d.clearStatus k))).congr (fun x => ?_)
    by_cases hx : x = k <;> simp [has, hx]

/-- The W1C write of a status register. -/
def Dev.clearWord (d : Dev) (l : List (List Nat)) (w : Nat) : Dev :=
  (List.range l.length).foldl (fun d i => if w.testBit i then (l.getD i []).foldl Dev.clearStatus d else d) d

theorem Dev.cleared_clearWord (d : Dev) (l : List (List Nat)) (w : Nat) :
    d.flt.Cleared (d.clearWord l w).flt (fun k => (List.range l.length).any (fun i => w.testBit i && has (l.getD i []) k)) := by
  simp only [Dev.clearWord]
  generalize l.length = n
  induction n with
  | zero => exact FltSt.Cleared.refl d.flt
  | succ n ih =>
    rw [List.range_succ, List.foldl_append, List.foldl_cons, List.foldl_nil]
    generalize (List.range n).foldl (fun d i => if w.testBit i then (l.getD i []).foldl Dev.clearStatus d else d) d = e at ih
    have hlast : e.flt.Cleared (if w.testBit n then (l.getD n []).foldl Dev.clearStatus e else e).flt (fun k => w.testBit n && has (l.getD n []) k) := by
      split
      · next hw => exact (Dev.cleared_foldl_clearStatus _ e).congr (fun k => by rw [hw, Bool.true_and])
      · next hw => exact (FltSt.Cleared.refl e.flt).congr (fun k => by rw [(Bool.not_eq_true _).mp hw, Bool.false_and])
    exact (ih.trans hlast).congr (fun k => by simp [List.any_append])

theorem gives_faultStatusClear {rq : Requester} {addr : Nat} {s : State} (h : s.Ready rq 0) (w : Word) : Gives (.faultStatusClear rq addr w) s
    (if inPages addr then (match bitKeys addr 0x18 0x80 with | none => s.dev | some l => s.dev.clearWord l w.toNat) else s.dev.badAcc) := by
  have hrun : exec (.faultStatusClear rq addr w) s = .next (if !inPages addr || !s.dev.pageOpen addr then s.onDev Dev.badAcc
      else match bitKeys addr 0x18 0x80 with | none => s | some l => s.onDev (fun d => d.clearWord l w.toNat)) :=
    congrArg Host.Outcome.next (State.gate_run h.2.1 _ _ _ _ _ _ _ (by decide))
  refine hrun.trans (congrArg Host.Outcome.next ?_)
  rw [Dev.pageOpen_of h.1.1 h.1.2, Bool.not_true, Bool.or_false]
  cases inPages addr with
  | false => rfl
  | true => cases bitKeys addr 0x18 0x80 <;> rfl

theorem gives_clearAll {rq : Requester} {s : State} (h : s.Ready rq 0) :
    Gives (.clearAll rq) s (((s.dev.flt.status.foldl Dev.clearStatus s.dev).set F.FLT_CMD_CODE 0).set F.FLT_CMD_DONE 1) :=
  congrArg Host.Outcome.next (State.row_none h (.clearAll rq) 0x3048 1 ⟨0, none⟩
    (fun d => ((d.flt.status.foldl Dev.clearStatus d).set F.FLT_CMD_CODE 0).set F.FLT_CMD_DONE 1) (by decide) (by cases rq <;> decide +kernel) (by decide) (by decide) (by decide))

theorem clearAll_completes {rq : Requester} {s : State} (h : s.Ready rq 0) : Completes (.clearAll rq) s (fun d => d.get F.FLT_CMD_DONE = 1 ∧ d.get F.FLT_CMD_CODE = 0 ∧
    (∀ k, has d.flt.status k = (has s.dev.flt.status k && s.dev.flt.live k)) ∧ d.flt.stops = s.dev.flt.stops ∧ d.flt.safes = s.dev.flt.safes) := by
  obtain ⟨hst, -, -, -, hstops, hsafes⟩ := Dev.cleared_foldl_clearStatus s.dev.flt.status s.dev
  refine ⟨_, gives_clearAll h, Dev.get_set_self .., ?_, fun k => (hst k).trans ?_, hstops, hsafes⟩
  · rw [Dev.get_set_distinct _ (by decide), Dev.get_set_self]
    rfl
  · change (has s.dev.flt.status k && (s.dev.flt.live k || !has s.dev.flt.status k)) = (has s.dev.flt.status k && s.dev.flt.live k)
    cases has s.dev.flt.status k <;> cases s.dev.flt.live k <;> rfl

theorem gives_pop {rq : Requester} {s : State} (h : s.Ready rq 0) : Gives (.pop rq) s { s.dev with flt := { s.dev.flt with log := s.dev.flt.log.drop 1 } } :=
  (pop_gives h).congr (by rw [List.drop_one])

/-! ### Force bits (R412) -/

theorem Dev.flt_noteFall (d : Dev) (k : Nat) (b : Bool) : (d.noteFall k b).flt.force = d.flt.force ∧ (d.noteFall k b).flt.status = d.flt.status := by
  simp only [Dev.noteFall]
  split <;> exact ⟨rfl, rfl⟩

theorem Dev.has_force_forceKey (d : Dev) (k : Nat) (on : Bool) (x : Nat) :
    has (d.forceKey k on).flt.force x = if x = k then on else has d.flt.force x := by
  cases on with
  | true =>
    rw [Dev.forceKey, if_pos rfl]
    by_cases hf : has d.flt.force k = true
    · rw [if_pos hf]
      by_cases hx : x = k
      · rw [if_pos hx, hx, hf]
      · rw [if_neg hx]
    · rw [if_neg hf, Dev.force_noteLive, has_insertOnce]
      by_cases hx : x = k <;> simp [hx]
  | false =>
    rw [Dev.forceKey, if_neg Bool.false_ne_true, (Dev.flt_noteFall _ _ _).1, has_removeAll]
    by_cases hx : x = k <;> simp [hx]

theorem Dev.has_status_forceKey_of {d : Dev} {x : Nat} (h : has d.flt.status x = true) (k : Nat) (on : Bool) : has (d.forceKey k on).flt.status x = true := by
  cases on with
  | true =>
    rw [Dev.forceKey, if_pos rfl]
    split
    · exact h
    · exact Dev.has_status_noteLive_of (d := { d with flt := { d.flt with force := insertOnce d.flt.force k } }) h k
  | false =>
    rw [Dev.forceKey, if_neg Bool.false_ne_true, (Dev.flt_noteFall _ _ _).2]
    exact h

/-- A key that a write forces has its status set. -/
theorem Dev.has_status_forceKey {d : Dev} {k : Nat} (h : has d.flt.force k = false) : has (d.forceKey k true).flt.status k = true := by
  rw [Dev.forceKey, if_pos rfl, if_neg (by simp [h])]
  exact Dev.has_status_noteLive (by simp only [FltSt.live, has_insertOnce_self, Bool.or_true, Bool.true_or])

/-- A key that is forced has been forced all along, or its status is set. -/
def Dev.ForceShown (b : Bool) (k : Nat) (d : Dev) : Prop := has d.flt.force k = true → b = true ∨ has d.flt.status k = true

theorem Dev.ForceShown.forceKey {b : Bool} {k : Nat} {d : Dev} (h : d.ForceShown b k) (x : Nat) (on : Bool) : (d.forceKey x on).ForceShown b k := by
  intro hf
  by_cases hd : has d.flt.force k = true
  · exact (h hd).imp_right (fun hst => Dev.has_status_forceKey_of hst x on)
  · rw [Dev.has_force_forceKey] at hf
    by_cases hx : k = x
    · rw [if_pos hx] at hf
      subst hx
      subst hf
      exact .inr (Dev.has_status_forceKey (Bool.not_eq_true _ ▸ hd))
    · rw [if_neg hx] at hf
      exact absurd hf hd

theorem Dev.forceWord_holds {P : Dev → Prop} (hP : ∀ d k on, P d → P (d.forceKey k on)) {d : Dev} (h : P d) (l : List (List Nat)) (w : Nat) : P (d.forceWord l w) :=
  foldl_holds (P := P) (fun _ i he => foldl_holds (P := P) (fun _ k hx => hP _ k (w.testBit i) hx) (l.getD i []) he) _ h

/-- A key that stands behind one bit alone takes that bit. -/
theorem Dev.has_force_forceWord {l : List (List Nat)} {i k : Nat} (hi : i < l.length) (hk : k ∈ l.getD i []) (huniq : ∀ j < l.length, k ∈ l.getD j [] → j = i)
    (d : Dev) (w : Nat) : has (d.forceWord l w).flt.force k = w.testBit i := by
  have hother (e : Dev) (j : Nat) (hj : k ∉ l.getD j []) : has ((l.getD j []).foldl (fun d x => d.forceKey x (w.testBit j)) e).flt.force k = has e.flt.force k := by
    generalize l.getD j [] = m at hj
    induction m generalizing e with
    | nil => rfl
    | cons x m ih =>
      rw [List.foldl_cons, ih _ (fun hm => hj (List.mem_cons_of_mem _ hm)), Dev.has_force_forceKey, if_neg (fun hx : k = x => hj (hx ▸ List.mem_cons_self))]
  have hself (e : Dev) : has ((l.getD i []).foldl (fun d x => d.forceKey x (w.testBit i)) e).flt.force k = w.testBit i :=
    foldl_reaches (P := fun _ : Dev => True) (Q := fun x : Dev => has x.flt.force k = w.testBit i) (f := fun d x => d.forceKey x (w.testBit i)) (fun _ _ _ => trivial)
      (fun x _ => by rw [Dev.has_force_forceKey, if_pos rfl])
      (fun x y hx => by rw [Dev.has_force_forceKey, hx, ite_self]) hk trivial
  refine foldl_reaches (P := fun _ : Dev => True) (Q := fun x : Dev => has x.flt.force k = w.testBit i)
    (f := fun d i => (l.getD i []).foldl (fun d k => d.forceKey k (w.testBit i)) d) (fun _ _ _ => trivial) (fun x _ => hself x) (fun x j hx => ?_) (List.mem_range.mpr hi) trivial
  by_cases hj : k ∈ l.getD j []
  · have hlen : j < l.length := by
      by_contra hle
      rw [List.getD_eq_default _ _ (Nat.le_of_not_lt hle)] at hj
      exact absurd hj List.not_mem_nil
    rw [huniq j hlen hj]
    exact hself x
  · exact (hother x j hj).trans hx

theorem Dev.flt_touch (d : Dev) (rq : Requester) : (d.touch rq).flt = d.flt := by
  obtain h | ⟨x, h⟩ := d.touch_cases rq
  · rw [h]
  · rw [h]
    cases rq <;> rfl

theorem faultForce_audited {rq : Requester} {addr : Nat} {l : List (List Nat)} {s : State} (h : s.Ready rq 0) (w : Word) (hp : inPages addr = true)
    (hl : bitKeys addr 0x20 0x100 = some l) (hr : 2 ≤ s.dev.rights rq) : GivesAudited (.faultForce rq addr w) s rq addr ((s.dev.forceWord l w.toNat).touch rq) := by
  have hexec : exec (.faultForce rq addr w) s =
      .next (s.roleWrite rq (.faultForce rq addr w) addr (some .installer) (fun d => wordOfKeys l (fun k => has d.flt.force k)) (fun d => d.forceWord l w.toNat)) := by
    simp only [exec, execFaultForce, hl]
  exact ⟨_, _, hexec.trans (congrArg Host.Outcome.next (State.roleWrite_audited ⟨h.1, h.2.1, hr⟩ _ addr (some .installer) _ _ hp (by decide) (by decide)))⟩

theorem faultForce_none {rq : Requester} {addr : Nat} {s : State} (h : s.Ready rq 0) (w : Word) (hl : bitKeys addr 0x20 0x100 = none) :
    Gives (.faultForce rq addr w) s (if inPages addr then s.dev else s.dev.badAcc) := by
  simp only [Gives, exec, execFaultForce, hl]
  rw [Dev.pageOpen_of h.1.1 h.1.2, Bool.not_true, Bool.or_false]
  cases inPages addr <;> rfl

theorem faultForce_completes {rq : Requester} {addr : Nat} {l : List (List Nat)} {s : State} (h : s.Ready rq 0) (w : Word) (hp : inPages addr = true)
    (hl : bitKeys addr 0x20 0x100 = some l) (hr : 2 ≤ s.dev.rights rq) : CompletesAudited (.faultForce rq addr w) s rq addr (fun d => ∀ i < l.length, ∀ k ∈ l.getD i [],
      (∀ j < l.length, k ∈ l.getD j [] → j = i) → has d.flt.force k = w.toNat.testBit i ∧ (w.toNat.testBit i = true → has s.dev.flt.force k = false →
        has d.flt.status k = true) ∧ (has s.dev.flt.status k = true → has d.flt.status k = true)) := by
  obtain ⟨old, new, hrun⟩ := faultForce_audited h w hp hl hr
  refine ⟨_, old, new, hrun, fun i hi k hk huniq => ?_⟩
  rw [Dev.flt_touch]
  have hforce := Dev.has_force_forceWord hi hk huniq s.dev w.toNat
  have hshown : (s.dev.forceWord l w.toNat).ForceShown (has s.dev.flt.force k) k := Dev.forceWord_holds (fun _ x on he => he.forceKey x on) (fun hf => .inl hf) l w.toNat
  refine ⟨hforce, fun hw hnot => ?_, fun hst => Dev.forceWord_holds (P := fun x => has x.flt.status k = true) (fun _ x on he => Dev.has_status_forceKey_of he x on) hst l w.toNat⟩
  exact (hshown (hforce.trans hw)).resolve_left (by simp [hnot])

/-! ### The wire test (R413) -/

theorem wireTest_idle {rq : Requester} {w : Word} {s : State} {src : Nat} (h : s.Ready rq 2) (hsrc : src = Nat.min 311 (w.toNat % 512)) (hgo : w.toNat.testBit 31 = false) :
    GivesAudited (.wireTest rq w) s rq 0x304C ((s.dev.set F.FLT_WIRE_TEST_SRC src).touch rq) := by
  have hmay : s.dev.may rq (some .installer) = true := Dev.may_of h.2.2
  have hf : fieldsAt (canonAddr rq 0x304C) = [(F.FLT_WIRE_TEST_SRC, 0, 0, 0)] := by cases rq <;> decide +kernel
  have hn : ∀ e : Dev, e.normPage (canonAddr rq 0x304C) = e := fun e => by cases rq <;> rfl
  have ht : s.dev.takes rq w.toNat (F.FLT_WIRE_TEST_SRC, 0, 0, 0) = true := (Dev.takes_of (by decide) (by decide) ..).trans hmay
  obtain ⟨old, new, hwrite⟩ := State.write_one_act (act := ⟨31, some .installer⟩) (by decide) h.1 hf ht hn (.inl rfl) (by decide) (by decide) hmay hmay
  have hacts : s.acts rq 0x304C ⟨31, some .installer⟩ w.toNat = false := by simp only [State.acts, Dev.acts, hgo, Bool.false_and, Bool.and_false]
  have hexec : exec (.wireTest rq w) s = .next (s.row rq (.wireTest rq w) 0x304C w.toNat ⟨31, some .installer⟩ Dev.driveEqual) := rfl
  refine ⟨old, new, ?_⟩
  rw [hexec, State.row, State.gate_run h.2.1 _ _ _ _ _ _ _ (by omega), hacts, if_neg Bool.false_ne_true, hwrite]
  simp only [clampVal_wireTestSrc, ← hsrc]
  rfl

theorem wireTest_settles {rq : Requester} {w : Word} {s : State} {src : Nat} (h : s.Ready rq 2) (hsrc : src = Nat.min 311 (w.toNat % 512)) :
    (w.toNat.testBit 31 = false ∨ src < 12 → CompletesAudited (.wireTest rq w) s rq 0x304C (fun d => d.get F.FLT_WIRE_TEST_SRC = src ∧ d.flt = s.dev.flt)) ∧
    (w.toNat.testBit 31 = true → 12 ≤ src → CompletesAudited (.wireTest rq w) s rq 0x304C (fun d => d.get F.FLT_WIRE_TEST_SRC = src ∧
      d.flt.wireAt = some (src, s.dev.raw + 1000) ∧ has d.flt.status (fkey (src / 32) 0) = true ∧
      ∀ k ∈ sourceKeys src, has d.flt.eq k = true ∧ has d.flt.status k = true)) := by
  have hhi : src ≤ 311 := hsrc ▸ Nat.min_le_left ..
  have hget : ((s.dev.set F.FLT_WIRE_TEST_SRC src).touch rq).get F.FLT_WIRE_TEST_SRC = src := by
    rw [Dev.get_touch, Dev.get_set_self]
    exact Nat.mod_eq_of_lt (hhi.trans_lt (by decide))
  have hflt : ((s.dev.set F.FLT_WIRE_TEST_SRC src).touch rq).flt = s.dev.flt := Dev.flt_touch ..
  refine ⟨fun hnot => ?_, fun hgo hlo => ?_⟩
  · cases hgo : w.toNat.testBit 31 with
    | false =>
      obtain ⟨old, new, hrun⟩ := wireTest_idle h hsrc hgo
      exact ⟨_, old, new, hrun, hget, hflt⟩
    | true =>
      obtain ⟨old, new, hrun⟩ := wireTest_completes h hgo hsrc
      rw [Dev.driveEqual_of_lt (hget.trans_lt (hnot.resolve_left (by simp [hgo])))] at hrun
      exact ⟨_, old, new, hrun, hget, hflt⟩
  · obtain ⟨old, new, hrun⟩ := wireTest_completes h hgo hsrc
    obtain ⟨hat, hstored, hkeys⟩ := Dev.driveEqual_of_le hget hlo hhi
    obtain ⟨k, hk⟩ := exists_mem_sourceKeys src
    refine ⟨_, old, new, hrun, hstored, by simpa using hat, ?_, fun k hk => ?_⟩
    · obtain ⟨-, -, hbank⟩ := hkeys k hk
      rwa [div_of_mem_sourceKeys hk] at hbank
    · obtain ⟨heq, hst, -⟩ := hkeys k hk
      exact ⟨heq, hst⟩

/-! ### Acknowledgements (R408) -/

theorem gives_ackStop {rq : Requester} {s : State} (h : s.Ready rq 1) : Gives (.ackStop rq) s s.dev.ackStop :=
  congrArg Host.Outcome.next (State.row_none h (.ackStop rq) 0x3048 2 ⟨1, some .operator⟩ Dev.ackStop (by decide) (by cases rq <;> decide +kernel) (by decide) (by decide)
    (by decide))

theorem ackStop_gives {rq : Requester} {s : State} (h : s.Ready rq 1) :
    ((∃ k ∈ s.dev.flt.stops, has s.dev.flt.status k = true) → Gives (.ackStop rq) s ((s.dev.set F.FLT_CMD_DONE 1).set F.FLT_CMD_CODE 1)) ∧
    ((∀ k ∈ s.dev.flt.stops, has s.dev.flt.status k = false) → Gives (.ackStop rq) s
      ((({ s.dev with flt := { s.dev.flt with stops := [] }, fire := { s.dev.fire with stop := { s.dev.fire.stop with acked := true } } } : Dev).set F.FLT_CMD_DONE 1).set F.FLT_CMD_CODE 0)) := by
  refine ⟨fun hset => (gives_ackStop h).congr (if_pos (List.any_eq_true.mpr hset)), fun hclear => (gives_ackStop h).congr (if_neg ?_)⟩
  rw [List.any_eq_true]
  rintro ⟨k, hk, hst⟩
  exact Bool.false_ne_true ((hclear k hk).symm.trans hst)

/-- Does a status or FLT_IN hold ACK_SAFE back. -/
def FltSt.safeBlocked (f : FltSt) : Bool := f.safes.any (fun k => has f.status k) || [fkey 10 0, fkey 11 0].any (fun k => f.live k || has f.status k)

theorem FltSt.safeBlocked_iff (f : FltSt) : f.safeBlocked = true ↔
    (∃ k ∈ f.safes, has f.status k = true) ∨ ∃ k ∈ [fkey 10 0, fkey 11 0], f.live k = true ∨ has f.status k = true := by
  simp only [FltSt.safeBlocked, Bool.or_eq_true, List.any_eq_true]

theorem Dev.ackSafe_eq (d : Dev) : d.ackSafe = if d.flt.safeBlocked then (d.set F.FLT_CMD_DONE 1).set F.FLT_CMD_CODE 1
    else (Dev.settle (d.set F.FLT_CMD_DONE 1) { d.set F.FLT_CMD_DONE 1 with flt := { d.flt with safes := [] } }).set F.FLT_CMD_CODE 0 := rfl

theorem ackSafe_audited {rq : Requester} {s : State} (h : s.Ready rq 2) : GivesAudited (.ackSafe rq) s rq 0x3048 (s.dev.touch rq).ackSafe := by
  obtain ⟨old, new, hrow⟩ := State.row_audited h (.ackSafe rq) 0x3048 4 ⟨2, some .installer⟩ Dev.ackSafe (by decide) (by cases rq <;> decide +kernel) (by decide)
    (by decide) (by decide)
  exact ⟨old, new, congrArg Host.Outcome.next hrow⟩

theorem Dev.fltOut_of {d e : Dev} (hf : e.flt = d.flt) (hb : e.get F.FLT_CFG_HB_EN = d.get F.FLT_CFG_HB_EN) : e.fltOut = d.fltOut := by
  rw [Dev.fltOut, Dev.fltOut, Dev.outFault, Dev.outFault, Dev.flag, Dev.flag, hf, hb]

theorem Dev.mem_outbox_settle {d e : Dev} (h : d.fltOut ≠ e.fltOut) : Output.fltOut e.fltOut.1 e.fltOut.2 ∈ (Dev.settle d e).outbox := by
  simp only [Dev.settle]
  rw [if_pos h]
  exact List.mem_append_right _ (List.mem_singleton.mpr rfl)

theorem ackSafe_accepted {rq : Requester} {s : State} (h : s.Ready rq 2) (hb : s.dev.flt.safeBlocked = false) : CompletesAudited (.ackSafe rq) s rq 0x3048 (fun d =>
    d.flt = { s.dev.flt with safes := [] } ∧ d.get F.FLT_CMD_DONE = 1 ∧ d.get F.FLT_CMD_CODE = 0 ∧ (s.dev.flt.released = true → d.outFault = false) ∧
    (s.dev.fltOut ≠ d.fltOut → Output.fltOut d.fltOut.1 d.fltOut.2 ∈ d.outbox)) := by
  obtain ⟨old, new, hrun⟩ := ackSafe_audited h
  have htflt : (s.dev.touch rq).flt = s.dev.flt := Dev.flt_touch ..
  have hthb : (s.dev.touch rq).get F.FLT_CFG_HB_EN = s.dev.get F.FLT_CFG_HB_EN := Dev.get_touch ..
  generalize s.dev.touch rq = t at hrun htflt hthb
  obtain ⟨x, hx⟩ : ∃ x : Dev, x = t.set F.FLT_CMD_DONE 1 := ⟨_, rfl⟩
  obtain ⟨y, hy⟩ : ∃ y : Dev, y = { x with flt := { t.flt with safes := [] } } := ⟨_, rfl⟩
  have hack : t.ackSafe = (Dev.settle x y).set F.FLT_CMD_CODE 0 := by
    rw [Dev.ackSafe_eq, htflt, if_neg (by simp [hb]), hy, hx, htflt]
  have hflt : (Dev.settle x y).flt = { s.dev.flt with safes := [] } := by rw [Dev.flt_settle, hy, htflt]
  have hcalm : (Dev.settle x y).beyond safeFields = y.beyond safeFields := Dev.beyond_settle (List.Subset.refl _) x y
  have hdone : (Dev.settle x y).get F.FLT_CMD_DONE = 1 := by
    rw [Dev.get_of_beyond hcalm (by decide) (by decide) (by decide), hy, Dev.get_with_flt, hx, Dev.get_set_self]
    rfl
  have hbeat : (Dev.settle x y).get F.FLT_CFG_HB_EN = y.get F.FLT_CFG_HB_EN := Dev.get_of_beyond hcalm (by decide) (by decide) (by decide)
  have hout : ((Dev.settle x y).set F.FLT_CMD_CODE 0).fltOut = y.fltOut :=
    Dev.fltOut_of (Dev.flt_settle x y) ((Dev.get_set_distinct _ (by decide) ..).trans hbeat)
  have hbefore : x.fltOut = s.dev.fltOut := by
    rw [hx]
    exact Dev.fltOut_of htflt ((Dev.get_set_distinct _ (by decide) ..).trans hthb)
  rw [hack] at hrun
  refine ⟨_, old, new, hrun, hflt, ?_, Dev.get_set_self .., fun hrel => ?_, fun hne => ?_⟩
  · rw [Dev.get_set_distinct _ (by decide), hdone]
  · have houtf : ((Dev.settle x y).set F.FLT_CMD_CODE 0).outFault = (!(Dev.settle x y).flt.safes.isEmpty || !(Dev.settle x y).flt.released) := rfl
    rw [houtf, hflt]
    simp [hrel]
  · rw [hout] at hne ⊢
    exact Dev.mem_outbox_settle (hbefore ▸ hne)

/-! ### FLT_IN (R417) -/

/-- The pins' judged levels, and the time where they are an exchange. -/
def Dev.inTaken (d : Dev) (p n : Bool) : Dev :=
  { d with pins := { d.pins with fltInP := p, fltInN := n },
           flt := { d.flt with inAt := if p ≠ n && d.pins.fltInP = n && d.pins.fltInN = p then d.now else d.flt.inAt } }

theorem Dev.fltIn_eq (d : Dev) (p n : Bool) : d.fltIn p n =
    if p = n then ((d.inTaken p n).set F.FLT_STATE_IN 2).report 11
    else if d.flag F.FLT_CFG_IN_HB then
      (if p ≠ n && d.pins.fltInP = n && d.pins.fltInN = p then (((d.inTaken p n).unreport 11).set F.FLT_STATE_IN 0).unreport 10
        else ((d.inTaken p n).unreport 11).set F.FLT_STATE_IN (if ((d.inTaken p n).unreport 11).flt.live (fkey 10 0) then 3 else 0))
    else if p then (((d.inTaken p n).unreport 11).set F.FLT_STATE_IN 0).unreport 10
    else (((d.inTaken p n).unreport 11).set F.FLT_STATE_IN 1).report 10 := rfl

theorem gives_fltInInput {s : State} (h : s.dev.pwr.st = .on) (p n : Bool) : Gives (.fltInInput p n) s (s.dev.fltIn p n) := congrArg Host.Outcome.next (if_pos h)

theorem Dev.det_unreport_of {d : Dev} {k : Nat} (h : has d.flt.det k = false) (s i : Nat) : has (d.unreport s i).flt.det k = false := by
  have hremoved : has (removeAll d.flt.det (fkey s i)) k = false := by rw [has_removeAll, h, Bool.false_and]
  simp only [Dev.unreport, Dev.noteFall]
  split <;> exact hremoved

/-- With neither pair reported any more. -/
theorem Dev.in_quiet (d : Dev) : ((((d.unreport 11).set F.FLT_STATE_IN 0).unreport 10).get F.FLT_STATE_IN = 0) ∧
    has (((d.unreport 11).set F.FLT_STATE_IN 0).unreport 10).flt.det (fkey 10 0) = false ∧ has (((d.unreport 11).set F.FLT_STATE_IN 0).unreport 10).flt.det (fkey 11 0) = false := by
  have heleven : has ((d.unreport 11).set F.FLT_STATE_IN 0).flt.det (fkey 11 0) = false := Dev.det_unreport d 11 0
  refine ⟨?_, Dev.det_unreport .., Dev.det_unreport_of heleven 10 0⟩
  rw [Dev.get_unreport, Dev.get_set_self]
  rfl

theorem Dev.flt_unreport (d : Dev) (s i : Nat) : (d.unreport s i).flt.due = d.flt.due ∧ (d.unreport s i).flt.inAt = d.flt.inAt ∧ (d.unreport s i).flt.force = d.flt.force ∧
    (d.unreport s i).flt.eq = d.flt.eq ∧ (d.unreport s i).flt.det = removeAll d.flt.det (fkey s i) := by
  simp only [Dev.unreport, Dev.noteFall]
  split <;> exact ⟨rfl, rfl, rfl, rfl, rfl⟩

theorem Dev.classOf_fltIn (d : Dev) : d.classOf 10 = 3 := by
  have hclass : d.classOf 10 = Nat.max 3 (bits (d.bonded 11) 20 2) := rfl
  have hbits : bits (d.bonded 11) 20 2 < 4 := Nat.mod_lt _ (by decide)
  rw [hclass]
  exact Nat.max_eq_left (by omega)

/-- FLT_IN reports beside no other source: its class is SAFE. -/
theorem Dev.det_report_fltIn {d : Dev} (hdue : d.flt.due = []) : (d.report 10).flt.det = insertOnce d.flt.det (fkey 10 0) := by
  by_cases hst : has d.flt.status (fkey 10 0) = true
  · rw [Dev.report_of_set (by decide) hdue hst]
    rfl
  · rw [Dev.report_of_clear (by decide) (by decide) hdue (Bool.not_eq_true _ ▸ hst) (.inr (by rw [Dev.classOf_fltIn]; decide))]
    exact congrArg (fun x => x.2.1) (Dev.seen_event ..)

theorem gives_heartbeatLoss (s : State) : Gives .fltInHeartbeatLoss s
    (if s.dev.pwr.st = .on && s.dev.flag F.FLT_CFG_IN_HB && s.dev.flt.inAt + 1200000 ≤ s.dev.now then (s.dev.set F.FLT_STATE_IN 3).report 10 else s.dev) := rfl

theorem fltInInput_equal {s : State} (h : s.dev.pwr.st = .on) (p : Bool) : Completes (.fltInInput p p) s (fun d => d.get F.FLT_STATE_IN = 2 ∧
    has d.flt.status (fkey 11 0) = true ∧ d.pins = { s.dev.pins with fltInP := p, fltInN := p }) := by
  refine ⟨_, (gives_fltInInput h p p).congr ((Dev.fltIn_eq ..).trans (if_pos rfl)), ?_, Dev.has_status_report _ _ _ (by decide), Dev.pins_of_fixed (Dev.fixed_report ..)⟩
  rw [Dev.get_report _ _ _ (by decide) (by decide) (by decide), Dev.get_set_self]
  rfl

theorem fltInInput_level {s : State} (h : s.dev.pwr.st = .on) (hhb : s.dev.get F.FLT_CFG_IN_HB = 0) :
    Completes (.fltInInput true false) s (fun d => d.get F.FLT_STATE_IN = 0 ∧ has d.flt.det (fkey 10 0) = false ∧ has d.flt.det (fkey 11 0) = false) ∧
    Completes (.fltInInput false true) s (fun d => d.get F.FLT_STATE_IN = 1 ∧ has d.flt.status (fkey 10 0) = true ∧ (s.dev.flt.due = [] → has d.flt.det (fkey 11 0) = false)) ∧
    Gives .fltInHeartbeatLoss s s.dev := by
  have hflag : s.dev.flag F.FLT_CFG_IN_HB = false := (Dev.flag_eq_false ..).mpr hhb
  refine ⟨?_, ?_, ?_⟩
  · have heq : s.dev.fltIn true false = (((s.dev.inTaken true false).unreport 11).set F.FLT_STATE_IN 0).unreport 10 := by
      rw [Dev.fltIn_eq, if_neg (by decide), hflag, if_neg Bool.false_ne_true, if_pos rfl]
    exact ⟨_, (gives_fltInInput h true false).congr heq, Dev.in_quiet _⟩
  · have heq : s.dev.fltIn false true = (((s.dev.inTaken false true).unreport 11).set F.FLT_STATE_IN 1).report 10 := by
      rw [Dev.fltIn_eq, if_neg (by decide), hflag, if_neg Bool.false_ne_true, if_neg Bool.false_ne_true]
    refine ⟨_, (gives_fltInInput h false true).congr heq, ?_, Dev.has_status_report _ _ _ (by decide), fun hdue => ?_⟩
    · rw [Dev.get_report _ _ _ (by decide) (by decide) (by decide), Dev.get_set_self]
      rfl
    · have hdue' : (((s.dev.inTaken false true).unreport 11).set F.FLT_STATE_IN 1).flt.due = [] := (Dev.flt_unreport ..).1.trans hdue
      rw [Dev.det_report_fltIn hdue', has_insertOnce]
      have hclear : has (((s.dev.inTaken false true).unreport 11).set F.FLT_STATE_IN 1).flt.det (fkey 11 0) = false := Dev.det_unreport ..
      rw [hclear]
      rfl
  · refine (gives_heartbeatLoss s).congr (if_neg ?_)
    rw [hflag]
    simp

/-! ### FLT_IN with a heartbeat, and the loss of it (R417) -/

theorem fltInInput_exchanged {s : State} (h : s.dev.pwr.st = .on) (hhb : s.dev.get F.FLT_CFG_IN_HB ≠ 0) {p : Bool} (hp : s.dev.pins.fltInP = !p) (hn : s.dev.pins.fltInN = p) :
    Completes (.fltInInput p (!p)) s (fun d => d.get F.FLT_STATE_IN = 0 ∧ d.flt.inAt = s.dev.raw ∧ has d.flt.det (fkey 10 0) = false ∧ has d.flt.det (fkey 11 0) = false) := by
  have hne : ¬ p = !p := by cases p <;> decide
  have hswap : (decide (p ≠ !p) && decide (s.dev.pins.fltInP = !p) && decide (s.dev.pins.fltInN = p)) = true := by simp [hp, hn]
  have heq : s.dev.fltIn p (!p) = (((s.dev.inTaken p (!p)).unreport 11).set F.FLT_STATE_IN 0).unreport 10 := by
    rw [Dev.fltIn_eq, if_neg hne, if_pos ((Dev.flag_eq_true ..).mpr hhb), if_pos hswap]
  obtain ⟨hin, hten, heleven⟩ := Dev.in_quiet (s.dev.inTaken p (!p))
  refine ⟨_, (gives_fltInInput h p (!p)).congr heq, hin, ?_, hten, heleven⟩
  exact (Dev.flt_unreport ..).2.1.trans ((Dev.flt_unreport (s.dev.inTaken p (!p)) 11 0).2.1.trans (if_pos hswap))

theorem fltInInput_steady {s : State} (h : s.dev.pwr.st = .on) (hhb : s.dev.get F.FLT_CFG_IN_HB ≠ 0) {p : Bool} (hp : s.dev.pins.fltInP = p ∨ s.dev.pins.fltInN = !p) :
    Completes (.fltInInput p (!p)) s (fun d => d.get F.FLT_STATE_IN = (if s.dev.flt.live (fkey 10 0) then 3 else 0) ∧
      d.flt.inAt = s.dev.flt.inAt ∧ has d.flt.det (fkey 11 0) = false ∧ d.flt.status = s.dev.flt.status) := by
  have hne : ¬ p = !p := by cases p <;> decide
  have hswap : ¬ (decide (p ≠ !p) && decide (s.dev.pins.fltInP = !p) && decide (s.dev.pins.fltInN = p)) = true := by
    rcases hp with hp | hp <;> simp [hp]
  obtain ⟨-, hat, hforce, hpair, hdet⟩ := Dev.flt_unreport (s.dev.inTaken p (!p)) 11 0
  have hlive : ((s.dev.inTaken p (!p)).unreport 11).flt.live (fkey 10 0) = s.dev.flt.live (fkey 10 0) := by
    have hother : has (removeAll s.dev.flt.det (fkey 11 0)) (fkey 10 0) = has s.dev.flt.det (fkey 10 0) := by
      rw [has_removeAll, show decide (fkey 10 0 ≠ fkey 11 0) = true by decide, Bool.and_true]
    rw [FltSt.live, hdet, hforce, hpair]
    exact congrArg (fun b => b || has s.dev.flt.force (fkey 10 0) || has s.dev.flt.eq (fkey 10 0)) hother
  have heq : s.dev.fltIn p (!p) = ((s.dev.inTaken p (!p)).unreport 11).set F.FLT_STATE_IN (if s.dev.flt.live (fkey 10 0) then 3 else 0) := by
    rw [Dev.fltIn_eq, if_neg hne, if_pos ((Dev.flag_eq_true ..).mpr hhb), if_neg hswap, hlive]
  refine ⟨_, (gives_fltInInput h p (!p)).congr heq, ?_, hat.trans (if_neg hswap), Dev.det_unreport .., Dev.status_unreport ..⟩
  rw [Dev.get_set_self]
  split <;> rfl

theorem gives_fltInHeartbeatLoss {s : State} (h : s.dev.pwr.st = .on) (hhb : s.dev.get F.FLT_CFG_IN_HB ≠ 0) : Gives .fltInHeartbeatLoss s
    (if s.dev.flt.inAt + 1200000 ≤ s.dev.raw then (s.dev.set F.FLT_STATE_IN 3).report 10 else s.dev) := by
  have hflag : s.dev.flag F.FLT_CFG_IN_HB = true := (Dev.flag_eq_true ..).mpr hhb
  refine (gives_heartbeatLoss s).congr ?_
  rw [h, hflag]
  simp only [decide_true, Bool.true_and, decide_eq_true_eq]
  rfl

/-! ### FLT_OUT (R416) -/

/-- The pair's levels exchanged. -/
def Dev.outExchanged (d : Dev) : Dev := { d with flt := { d.flt with outP := !d.flt.outP } }

theorem gives_fltOutHeartbeat (s : State) : Gives .fltOutHeartbeat s
    (if s.dev.pwr.st = .on && !s.dev.outFault && s.dev.flag F.FLT_CFG_HB_EN then Dev.settle s.dev s.dev.outExchanged else s.dev) := rfl

theorem fltOutHeartbeat_sent {s : State} (h : s.dev.pwr.st = .on) (hout : s.dev.outFault = false) (hen : s.dev.get F.FLT_CFG_HB_EN ≠ 0) :
    Completes .fltOutHeartbeat s (fun d => d.flt = { s.dev.flt with outP := !s.dev.flt.outP } ∧ Output.fltOut (!s.dev.flt.outP) s.dev.flt.outP ∈ d.outbox) := by
  have hflag : s.dev.flag F.FLT_CFG_HB_EN = true := (Dev.flag_eq_true ..).mpr hen
  have hbefore : s.dev.fltOut = (s.dev.flt.outP, !s.dev.flt.outP) := by rw [Dev.fltOut, hout, if_neg Bool.false_ne_true, hflag, if_pos rfl]
  have hafter : s.dev.outExchanged.fltOut = (!s.dev.flt.outP, s.dev.flt.outP) := by
    have hout' : s.dev.outExchanged.outFault = false := hout
    have hflag' : s.dev.outExchanged.flag F.FLT_CFG_HB_EN = true := hflag
    rw [Dev.fltOut, hout', if_neg Bool.false_ne_true, hflag', if_pos rfl]
    exact congrArg (Prod.mk _) (Bool.not_not _)
  have hne : s.dev.fltOut ≠ s.dev.outExchanged.fltOut := by
    rw [hbefore, hafter]
    cases s.dev.flt.outP <;> decide
  have hgo : (decide (s.dev.pwr.st = .on) && !s.dev.outFault && s.dev.flag F.FLT_CFG_HB_EN) = true := by simp [h, hout, hflag]
  refine ⟨_, (gives_fltOutHeartbeat s).congr (if_pos hgo), Dev.flt_settle .., ?_⟩
  have hmem := Dev.mem_outbox_settle hne
  rwa [hafter] at hmem

theorem fltOutHeartbeat_idle {s : State} (h : s.dev.outFault = true ∨ s.dev.get F.FLT_CFG_HB_EN = 0) : Gives .fltOutHeartbeat s s.dev := by
  refine (gives_fltOutHeartbeat s).congr (if_neg ?_)
  rcases h with h | h
  · simp [h]
  · rw [(Dev.flag_eq_false ..).mpr h]
    simp

theorem fltInputs_off {s : State} (h : s.dev.pwr.st ≠ .on) :
    (∀ p n, Gives (.fltInInput p n) s s.dev) ∧ Gives .fltInHeartbeatLoss s s.dev ∧ Gives .fltOutHeartbeat s s.dev := by
  refine ⟨fun p n => congrArg Host.Outcome.next (if_neg h), (gives_heartbeatLoss s).congr (if_neg ?_),
    (gives_fltOutHeartbeat s).congr (if_neg ?_)⟩
  · simp [h]
  · simp [h]

/-- Settles O20: the registers of status and force bits, the wire test, the two acknowledgements, the windows, and the two error pairs with and without power. -/
theorem faultsAreHandled : Obligations.FaultsAreHandled := by
  refine ⟨fun rq w addr l s h => ⟨fun hp => ⟨?_, fun hl => ?_⟩, fun hp => ⟨fun hl => ?_, fun hl => ?_, fun hl => ?_, fun hl hr =>
      ⟨faultForce_audited h w hp hl hr, faultForce_completes h w hp hl hr⟩⟩⟩,
    fun rq s h => ⟨clearAll_completes h, gives_pop h⟩, fun rq w src s h hsrc => wireTest_settles h hsrc, fun rq s h => ackStop_gives h,
    fun rq s blocked h hb => ?_, fun s => ⟨rfl, fltInputs_off, fun hon => ⟨fltInInput_equal hon, fltInInput_level hon, fun hhb => ?_, fltOutHeartbeat_sent hon,
      fltOutHeartbeat_idle⟩⟩⟩
  · have hgives := gives_faultStatusClear (addr := addr) h w
    rwa [hp] at hgives
  · have hgives := faultForce_none h w hl
    rwa [hp] at hgives
  · have hgives := gives_faultStatusClear (addr := addr) h w
    rw [hp, if_pos rfl, hl] at hgives
    exact ⟨_, hgives, Dev.cleared_clearWord s.dev l w.toNat⟩
  · have hgives := gives_faultStatusClear (addr := addr) h w
    rwa [hp, if_pos rfl, hl] at hgives
  · have hgives := faultForce_none h w hl
    rwa [hp, if_pos rfl] at hgives
  · rw [← FltSt.safeBlocked_iff] at hb
    subst hb
    refine ⟨fun hblocked => ?_, fun hnot => ackSafe_accepted h (Bool.not_eq_true _ ▸ hnot)⟩
    obtain ⟨old, new, hrun⟩ := ackSafe_audited h
    rw [Dev.ackSafe_eq, Dev.flt_touch, if_pos hblocked, ← Dev.touch_set _ _ (fun r => by cases r <;> decide), ← Dev.touch_set _ _ (fun r => by cases r <;> decide)] at hrun
    exact ⟨old, new, hrun⟩
  · refine ⟨fun p => fltInInput_exchanged hon hhb, fun p => fltInInput_steady hon hhb, fun hpast => ?_, fun hnot => ?_⟩
    · refine ⟨_, (gives_fltInHeartbeatLoss hon hhb).congr (if_pos hpast), rfl, ?_, Dev.has_status_report _ _ _ (by decide)⟩
      rw [Dev.get_report _ _ _ (by decide) (by decide) (by decide), Dev.get_set_self]
      rfl
    · exact (gives_fltInHeartbeatLoss hon hhb).congr (if_neg (Nat.not_le.mpr hnot))

end Sys2Proof.Machine
end


section
/-! PROOF. What grows in the collector under reports: statuses, fences and windows that stand, and an entry that stays in the log (R402, R406, R411, R415). -/

namespace Sys2Proof.Machine

/-! ### The books of a reaction -/

theorem Dev.get_of_books {d e : Dev} (h : e.books = d.books) {f : Field} {i j : Nat} (hk : f.key i j < 0x4000 * 64) : e.get f i j = d.get f i j := by
  have hfind := congrFun (congrArg Prod.snd h) (f.key i j)
  simp only [Dev.books, if_pos hk] at hfind
  rw [Dev.get, Dev.get, RegFile.get, RegFile.get, hfind]

/-- The collector without the sources that have fallen due. -/
def FltSt.still (f : FltSt) : FltSt := { f with due := [] }

theorem Dev.still_of_books {d e : Dev} (h : e.books = d.books) : e.flt.still = d.flt.still := congrArg Prod.fst h

/-- The fences of a reaction join those in force, and nothing else of the books changes. -/
theorem Dev.books_fenceUnits (d : Dev) (s i : Nat) : (d.fenceUnits s i).flt.still = { d.flt.still with fences := d.flt.fences ++ (d.unitsOf s i).map (fun u => ⟨u, s, i⟩) } ∧
    ∀ (f : Field) (n m : Nat), f.key n m < 0x4000 * 64 → (d.fenceUnits s i).get f n m = d.get f n m := by
  simp only [Dev.fenceUnits]
  generalize d.unitsOf s i = us
  induction us generalizing d with
  | nil => exact ⟨by rw [List.map_nil, List.append_nil]; rfl, fun _ _ _ _ => rfl⟩
  | cons u us ih =>
    obtain ⟨x, hx⟩ : ∃ x : Dev, x = { d with flt := { d.flt with fences := d.flt.fences ++ [⟨u, s, i⟩] } } := ⟨_, rfl⟩
    have hbooks : (x.fenceEffect u).books = x.books := Dev.books_fenceEffect x u
    have hflt := Dev.still_of_books hbooks
    obtain ⟨hrest, hregs⟩ := ih (x.fenceEffect u)
    rw [List.foldl_cons, ← hx]
    refine ⟨hrest.trans ?_, fun f n m hk => (hregs f n m hk).trans ((Dev.get_of_books hbooks hk).trans ?_)⟩
    · have hjoined : x.flt.fences = d.flt.fences ++ [⟨u, s, i⟩] := by rw [hx]
      have hfences : (x.fenceEffect u).flt.fences = d.flt.fences ++ [⟨u, s, i⟩] := (congrArg FltSt.fences hflt).trans hjoined
      rw [hflt, hfences, hx, List.append_assoc]
      rfl
    · rw [hx, Dev.get_with_flt]

/-! ### What only grows -/

/-- From d to e statuses, detectors that report, fences, windows and the collector's interrupt causes have only grown. -/
def Dev.Later (d e : Dev) : Prop :=
  (∀ k, has d.flt.status k = true → has e.flt.status k = true) ∧ (∀ k, has d.flt.det k = true → has e.flt.det k = true) ∧
    (∀ f ∈ d.flt.fences, f ∈ e.flt.fences) ∧ (∀ w ∈ d.flt.shadows, w ∈ e.flt.shadows) ∧
    ∀ b < 5, (d.get F.FLT_IRQ_STAT).testBit b = true → (e.get F.FLT_IRQ_STAT).testBit b = true

theorem Dev.Later.refl (d : Dev) : d.Later d := ⟨fun _ h => h, fun _ h => h, fun _ h => h, fun _ h => h, fun _ _ h => h⟩

theorem Dev.Later.trans {d e g : Dev} (h : d.Later e) (h' : e.Later g) : d.Later g := by
  obtain ⟨hst, hdet, hfence, hwin, hirq⟩ := h
  obtain ⟨hst', hdet', hfence', hwin', hirq'⟩ := h'
  exact ⟨fun k hk => hst' k (hst k hk), fun k hk => hdet' k (hdet k hk), fun f hf => hfence' f (hfence f hf), fun w hw => hwin' w (hwin w hw), fun b hb hset => hirq' b hb (hirq b hb hset)⟩

theorem Dev.Later.of_still {d e : Dev} (hf : e.flt.still = d.flt.still) (hr : e.get F.FLT_IRQ_STAT = d.get F.FLT_IRQ_STAT) : d.Later e := by
  simp only [FltSt.still, FltSt.mk.injEq] at hf
  obtain ⟨hdet, -, -, hst, -, -, -, -, hfences, hshadows, -⟩ := hf
  exact ⟨fun k hk => hst ▸ hk, fun k hk => hdet ▸ hk, fun f h => hfences ▸ h, fun w h => hshadows ▸ h, fun b _ h => hr ▸ h⟩

theorem Dev.Later.fltIrq (d : Dev) (k : Nat) : d.Later (d.fltIrq k) := by
  have hflt : (d.fltIrq k).flt = d.flt := Dev.flt_irq ..
  refine ⟨fun x hx => hflt ▸ hx, fun x hx => hflt ▸ hx, fun x hx => hflt ▸ hx, fun x hx => hflt ▸ hx, fun b hb hset => ?_⟩
  have hwidth : b < F.FLT_IRQ_STAT.width := hb
  rw [Dev.fltIrq, Dev.get_irq, Dev.raiseBit, Dev.get_set_self, Nat.testBit_mod_two_pow, Nat.testBit_or, hset]
  simp [hwidth]

theorem Dev.irqStat_fltIrq (d : Dev) {k : Nat} (hk : k < 5) : ((d.fltIrq k).get F.FLT_IRQ_STAT).testBit k = true := by
  rw [Dev.fltIrq, Dev.get_irq]
  exact Dev.testBit_raiseBit d F.FLT_IRQ_STAT hk 0 0

theorem Dev.Later.fenceUnits (d : Dev) (s i : Nat) : d.Later (d.fenceUnits s i) := by
  obtain ⟨hflt, hregs⟩ := Dev.books_fenceUnits d s i
  simp only [FltSt.still, FltSt.mk.injEq] at hflt
  obtain ⟨hdet, -, -, hst, -, -, -, -, hfences, hshadows, -⟩ := hflt
  refine ⟨fun k hk => hst ▸ hk, fun k hk => hdet ▸ hk, fun f hf => hfences ▸ List.mem_append_left _ hf, fun w hw => hshadows ▸ hw, fun b _ hb => ?_⟩
  rwa [hregs _ _ _ (by decide)]

theorem Dev.Later.entered (d : Dev) (s i : Nat) : d.Later (d.entered s i) := by
  obtain ⟨x, hx⟩ : ∃ x : Dev, x = { d with flt := { d.flt with status := insertOnce d.flt.status (fkey s i) } } := ⟨_, rfl⟩
  have hset : d.Later x := by
    rw [hx]
    exact ⟨fun k hk => has_insertOnce_of hk _, fun _ h => h, fun _ h => h, fun _ h => h, fun _ _ h => h⟩
  have hpush (e : LogEntry) : x.Later (x.logPush e) := by
    have hlog (l : List LogEntry) (n : Nat) : x.Later { x with flt := { x.flt with log := l, seq := n } } :=
      ⟨fun _ h => h, fun _ h => h, fun _ h => h, fun _ h => h, fun _ _ h => h⟩
    have hbump (y : Dev) : y.Later (y.bump F.FLT_LOG_STAT_OVERWRITES) := Dev.Later.of_still rfl (Dev.get_bump_distinct y (by decide) ..)
    simp only [Dev.logPush]
    split
    · exact hlog _ _
    · exact (hlog _ _).trans ((hbump _).trans (Dev.Later.fltIrq _ 4))
  have hsrc (y : Dev) : y.Later (y.set F.FLT_STATE_LAST_SRC s) := Dev.Later.of_still rfl (Dev.get_set_distinct y (by decide) ..)
  have hall := hset.trans ((hpush (d.leesEntry s i)).trans ((hsrc _).trans (Dev.Later.fltIrq _ 0)))
  rw [hx] at hall
  exact hall

theorem Dev.Later.react (d : Dev) (s i : Nat) : d.Later (d.react s i) := by
  simp only [Dev.react]
  split
  · exact Dev.Later.refl d
  · split
    · exact Dev.Later.refl d
    · refine (Dev.Later.fenceUnits d s i).trans (Dev.Later.trans ?_ (Dev.Later.fltIrq _ 1))
      split
      · exact Dev.Later.refl _
      · exact ⟨fun _ h => h, fun _ h => h, fun _ h => h, fun _ h => List.mem_append_left _ h, fun _ _ h => h⟩
  · have hstop (y : Dev) : y.Later (y.stopTrigger 1) :=
      Dev.Later.of_still (Dev.still_of_books (Dev.books_stopTrigger y 1)) (Dev.get_of_books (Dev.books_stopTrigger y 1) (by decide))
    have hjoined (l : List Nat) : d.Later { d with flt := { d.flt with stops := l } } := ⟨fun _ h => h, fun _ h => h, fun _ h => h, fun _ h => h, fun _ _ h => h⟩
    exact (hjoined _).trans ((hstop _).trans (Dev.Later.fltIrq _ 2))
  · have hsettle (y : Dev) : y.Later (Dev.settle d y) :=
      Dev.Later.of_still (Dev.still_of_books (Dev.books_settle d y)) (Dev.get_of_books (Dev.books_settle d y) (by decide))
    have hjoined (l : List Nat) : d.Later { d with flt := { d.flt with safes := l } } := ⟨fun _ h => h, fun _ h => h, fun _ h => h, fun _ h => h, fun _ _ h => h⟩
    exact (hjoined _).trans ((hsettle _).trans (Dev.Later.fltIrq _ 3))

theorem Dev.Later.event (d : Dev) (s i : Nat) : d.Later (d.event s i) := by
  rw [Dev.event_eq]
  split
  · exact Dev.Later.entered d s i
  · exact (Dev.Later.entered d s i).trans (Dev.Later.react _ s i)

theorem Dev.Later.detecting (d : Dev) (k : Nat) : d.Later (d.detecting k) :=
  ⟨fun _ h => h, fun _ h => has_insertOnce_of h k, fun _ h => h, fun _ h => h, fun _ _ h => h⟩

theorem Dev.Later.look (d : Dev) (k : Nat) : d.Later (d.look k) := by
  simp only [Dev.look]
  split
  · exact Dev.Later.event d _ _
  · exact Dev.Later.refl d

theorem Dev.Later.drain (d : Dev) : d.Later d.drain := by
  have hfold (e : Dev) (he : d.Later e) : d.Later (d.flt.due.foldl (fun x src => x.detect (fkey src 0)) e) :=
    foldl_holds (P := d.Later) (fun x src hx => hx.trans ((Dev.Later.detecting x (fkey src 0)).trans (Dev.Later.look _ _))) _ he
  exact hfold _ ⟨fun _ h => h, fun _ h => h, fun _ h => h, fun _ h => h, fun _ _ h => h⟩

/-- A reported detector stands among those that report. -/
theorem Dev.has_det_report (d : Dev) (s i : Nat) : has (d.report s i).flt.det (fkey s i) = true := by
  obtain ⟨-, hdet, -⟩ := (Dev.Later.look (d.detecting (fkey s i)) (fkey s i)).trans (Dev.Later.drain _)
  exact hdet _ (has_insertOnce_self ..)

/-! ### The sources that fall due (R291, R320) -/

/-- The sources that a reaction itself reports: the DRAM channels that it fences and the contexts that lose an output line. -/
def dueSources : List Nat := [211, 212, 213, 214, 269, 270, 271, 272, 273, 274, 275, 276]

/-- Only such sources have fallen due. -/
def Dev.DueKnown (d : Dev) : Prop := ∀ x ∈ d.flt.due, x ∈ dueSources

theorem Dev.DueKnown.of_flt {d e : Dev} (h : d.DueKnown) (hf : e.flt = d.flt) : e.DueKnown := by
  rw [Dev.DueKnown, hf]
  exact h

theorem Dev.DueKnown.owe {d : Dev} (h : d.DueKnown) {src : Nat} (hs : src ∈ dueSources) : (d.owe src).DueKnown := fun x hx =>
  (List.mem_append.mp hx).elim (h x) (fun hx => List.mem_singleton.mp hx ▸ hs)

theorem Dev.DueKnown.cutFrame {d : Dev} (h : d.DueKnown) {k : Nat} (hk : 269 + k ∈ dueSources) (f : CtxFrame) : (d.cutFrame k f).DueKnown := by
  have hcut (q : Dev × CtxFrame) (hq : q.1.flt = d.flt) (g : CtxFrame) : (q.1.ctxFrameEnd k g).DueKnown := h.of_flt ((still_flt.ctxFrameEnd q.1 k g).trans hq)
  have hput (l : List Nat) : (l.foldl (fun (a : Dev × CtxFrame) j =>
      if f.opt F.ISP_K_S_FMT_FMT k j ≠ 0 && (f.next / f.opt F.ISP_K_S_FMT_VS k j + 1) * f.opt F.ISP_K_S_FMT_VS k j ≤ f.lines
      then a.1.streamPut k j a.2 (f.next / f.opt F.ISP_K_S_FMT_VS k j) (f.accs.getD j {}) else a) (d, f)).1.flt = d.flt :=
    foldl_keeps (fun x : Dev × CtxFrame => x.1.flt) _ (fun a j => by
      split
      · exact still_flt.streamPut ..
      · rfl) l (d, f)
  simp only [Dev.cutFrame]
  split
  · exact (hcut _ (hput _) _).owe hk
  · exact hcut _ (hput _) _

theorem Dev.DueKnown.endCtxFrames {d : Dev} (h : d.DueKnown) (n : Nat) : (d.endCtxFrames n).DueKnown := by
  have hcontext (x : Dev) (k : Nat) (hk : 269 + k ∈ dueSources) (hx : x.DueKnown) (l : List CtxFrame) : (l.foldl (fun d f => d.cutFrame k f) x).DueKnown :=
    foldl_holds (P := Dev.DueKnown) (fun _ f hy => hy.cutFrame hk f) l hx
  have hrange : ∀ k ∈ List.range 8, 269 + k ∈ dueSources := by decide
  simp only [Dev.endCtxFrames]
  generalize List.range 8 = ks at hrange
  induction ks generalizing d with
  | nil => exact h
  | cons k ks ih =>
    rw [List.foldl_cons]
    exact ih ((hcontext d k (hrange k List.mem_cons_self) h _).of_flt rfl) (fun x hx => hrange x (List.mem_cons_of_mem _ hx))

theorem Dev.DueKnown.fenceEffect {d : Dev} (h : d.DueKnown) {u : FUnit} (hu : ∀ c, u = .ddr c → c < 4) : (d.fenceEffect u).DueKnown := by
  cases u with
  | ddr c =>
    have hc : 211 + c ∈ dueSources := by
      obtain rfl | rfl | rfl | rfl : c = 0 ∨ c = 1 ∨ c = 2 ∨ c = 3 := by
        have := hu c rfl
        omega
      all_goals decide
    simp only [Dev.fenceEffect, Dev.fenceChannel]
    split
    · exact fun x hx => (List.mem_append.mp hx).elim (h x) (fun hx => List.mem_singleton.mp hx ▸ hc)
    · exact h
  | port p => exact h.of_flt (still_flt.disablePort d p [])
  | cam n =>
    have hmod (x : Dev) (f : CamSt → CamSt) (hx : x.DueKnown) : (x.modCam n f).DueKnown := hx
    simp only [Dev.fenceEffect, Dev.stopCamera]
    split
    · exact h
    · have hdown : ((((d.set F.CAM_P_STAT_STATE 0 n).set F.CAM_P_STAT_LOCK 0 n).ctlDown n)).DueKnown := h.of_flt (still_flt.ctlDown still_flt.cam _ n)
      exact hmod _ _ (hdown.endCtxFrames n)
  | isp =>
    have hpurge (x : Dev) (n : Nat) (hx : x.DueKnown) : (x.purge n).DueKnown := hx
    have hstep (x : Dev) (n : Nat) (hx : x.DueKnown) : ((x.endCtxFrames n).purge n).DueKnown := hpurge _ n (hx.endCtxFrames n)
    simp only [Dev.fenceEffect, Dev.stopIsp]
    generalize List.range 4 = ns
    exact foldl_holds (P := Dev.DueKnown) hstep ns h
  | enc n => exact h.of_flt rfl
  | eth p => exact h
  | sluice => exact h
  | lamp c => exact h

theorem of_mem_ite {α : Type} {p Q : Prop} [Decidable p] {x : α} {l m : List α} (hl : p → x ∈ l → Q) (hm : x ∈ m → Q) (h : x ∈ if p then l else m) : Q := by
  split at h
  · exact hl ‹p› h
  · exact hm h

/-- The DRAM channels that a source fences are the part's four. -/
theorem Dev.ddr_of_mem_unitsOf {d : Dev} {s i c : Nat} (h : FUnit.ddr c ∈ d.unitsOf s i) : c < 4 := by
  have hone (x : Nat) (hx : x < 4) (hm : FUnit.ddr c ∈ [FUnit.ddr x]) : c < 4 := FUnit.ddr.inj (List.mem_singleton.mp hm) ▸ hx
  have hspan (y : Nat) (hb : (decide (y ≤ s) && decide (s ≤ y + 3)) = true) : s - y < 4 := by
    simp only [Bool.and_eq_true, decide_eq_true_eq] at hb
    omega
  have hmap {l : List Nat} {f : Nat → FUnit} (hf : ∀ n, f n ≠ .ddr c) (hm : FUnit.ddr c ∈ l.map f) : c < 4 := by
    obtain ⟨n, -, hn⟩ := List.mem_map.mp hm
    exact absurd hn (hf n)
  have hnone {u : FUnit} (hu : u ≠ .ddr c) (hm : FUnit.ddr c ∈ [u]) : c < 4 := absurd (List.mem_singleton.mp hm).symm hu
  unfold Dev.unitsOf at h
  refine of_mem_ite (fun hb => hone _ (hspan 211 hb)) (of_mem_ite (fun hb => hone _ (hspan 191 hb)) (of_mem_ite (fun hb => hone _ (hspan 207 hb)) (of_mem_ite (fun _ hm => ?_)
    (of_mem_ite (fun _ => hnone (by simp)) (of_mem_ite (fun _ => hmap (by simp)) (of_mem_ite (fun _ => hnone (by simp)) (of_mem_ite (fun _ => hnone (by simp))
    (of_mem_ite (fun _ => hnone (by simp)) (of_mem_ite (fun _ hm => ?_) (of_mem_ite (fun _ => hnone (by simp)) (of_mem_ite (fun _ => hnone (by simp))
    (of_mem_ite (fun _ => hnone (by simp)) (of_mem_ite (fun _ => hnone (by simp)) (of_mem_ite (fun _ => hmap (by simp)) (fun hm => absurd hm List.not_mem_nil))))))))))))))) h
  · have hlist : ∀ x ∈ [FUnit.ddr 0, .ddr 1, .ddr 2, .ddr 3], ∀ k, x = .ddr k → k < 4 := by simp
    exact hlist _ hm c rfl
  · simp at hm

theorem Dev.DueKnown.fenceUnits {d : Dev} (h : d.DueKnown) (s i : Nat) : (d.fenceUnits s i).DueKnown := by
  have hunits : ∀ u ∈ d.unitsOf s i, ∀ c, u = .ddr c → c < 4 := fun u hu c hc => Dev.ddr_of_mem_unitsOf (hc ▸ hu)
  simp only [Dev.fenceUnits]
  generalize d.unitsOf s i = us at hunits
  induction us generalizing d with
  | nil => exact h
  | cons u us ih =>
    have hjoined : ({ d with flt := { d.flt with fences := d.flt.fences ++ [⟨u, s, i⟩] } } : Dev).DueKnown := h
    rw [List.foldl_cons]
    exact ih (hjoined.fenceEffect (hunits u List.mem_cons_self)) (fun x hx => hunits x (List.mem_cons_of_mem _ hx))

theorem Dev.DueKnown.react {d : Dev} (h : d.DueKnown) (s i : Nat) : (d.react s i).DueKnown := by
  simp only [Dev.react]
  split
  · exact h
  · split
    · exact h
    · refine Dev.DueKnown.of_flt ?_ (Dev.flt_irq ..)
      split
      · exact h.fenceUnits s i
      · exact h.fenceUnits s i
  · have hjoined (l : List Nat) : ({ d with flt := { d.flt with stops := l } } : Dev).DueKnown := h
    exact ((hjoined _).of_flt (still_flt.stopTrigger _ _)).of_flt (Dev.flt_irq ..)
  · have hjoined (l : List Nat) : ({ d with flt := { d.flt with safes := l } } : Dev).DueKnown := h
    exact ((hjoined _).of_flt (Dev.flt_settle ..)).of_flt (Dev.flt_irq ..)

/-! ### An entry that stays in the log (R415) -/

/-- The keys of those sources whose status is set. -/
def Dev.dueShown (d : Dev) : Finset Nat := (dueSources.map (fun x => fkey x 0)).toFinset.filter (fun k => has d.flt.status k = true)

/-- An entry stands in the log, with no more entries after it than such sources have their status set. -/
def Dev.LogHolds (e : LogEntry) (d : Dev) : Prop := ∃ a b, d.flt.log = a ++ e :: b ∧ b.length ≤ d.dueShown.card

theorem Dev.card_dueShown (d : Dev) : d.dueShown.card ≤ 12 := Finset.card_filter_le _ _

theorem Dev.LogHolds.of_flt {e : LogEntry} {d x : Dev} (h : d.LogHolds e) (hl : x.flt.log = d.flt.log) (hs : x.flt.status = d.flt.status) : x.LogHolds e := by
  obtain ⟨a, b, hlog, hlen⟩ := h
  refine ⟨a, b, hl.trans hlog, ?_⟩
  rwa [Dev.dueShown, hs]

/-- An event of such a source leaves the entry, as the log holds 16. -/
theorem Dev.LogHolds.entered {e : LogEntry} {d : Dev} (h : d.LogHolds e) {src : Nat} (hs : src ∈ dueSources) (hclear : has d.flt.status (fkey src 0) = false) :
    (d.entered src 0).LogHolds e := by
  obtain ⟨a, b, hlog, hlen⟩ := h
  have hflt := Dev.flt_entered d src 0
  have hcard : d.dueShown.card < (d.entered src 0).dueShown.card := by
    refine Finset.card_lt_card (Finset.ssubset_iff_of_subset (fun k hk => ?_) |>.mpr ⟨fkey src 0, ?_, ?_⟩)
    · obtain ⟨hmem, hset⟩ := Finset.mem_filter.mp hk
      exact Finset.mem_filter.mpr ⟨hmem, (Dev.Later.entered d src 0).1 k hset⟩
    · refine Finset.mem_filter.mpr ⟨List.mem_toFinset.mpr (List.mem_map.mpr ⟨src, hs, rfl⟩), ?_⟩
      rw [hflt]
      exact has_insertOnce_self ..
    · intro hk
      exact Bool.false_ne_true (hclear.symm.trans (Finset.mem_filter.mp hk).2)
  have hlogged : (d.entered src 0).flt.log = (if d.flt.log.length < 16 then d.flt.log else d.flt.log.drop 1) ++ [d.leesEntry src 0] := by rw [hflt]
  have hnext : (b ++ [d.leesEntry src 0]).length ≤ (d.entered src 0).dueShown.card := by
    rw [List.length_append, List.length_singleton]
    omega
  by_cases hfull : d.flt.log.length < 16
  · exact ⟨a, b ++ [d.leesEntry src 0], by rw [hlogged, if_pos hfull, hlog, List.append_assoc, List.cons_append], hnext⟩
  · cases a with
    | nil =>
      have hbound := d.card_dueShown
      rw [hlog, List.nil_append, List.length_cons] at hfull
      omega
    | cons x a => exact ⟨a, b ++ [d.leesEntry src 0], by rw [hlogged, if_neg hfull, hlog, List.cons_append, List.drop_one, List.tail_cons, List.append_assoc, List.cons_append], hnext⟩

theorem Dev.log_react (d : Dev) (s i : Nat) : (d.react s i).flt.log = d.flt.log ∧ (d.react s i).flt.status = d.flt.status := by
  have hfence : (d.fenceUnits s i).flt.log = d.flt.log ∧ (d.fenceUnits s i).flt.status = d.flt.status := by
    obtain ⟨hflt, -⟩ := Dev.books_fenceUnits d s i
    simp only [FltSt.still, FltSt.mk.injEq] at hflt
    obtain ⟨-, -, -, hst, -, -, -, -, -, -, hlog, -⟩ := hflt
    exact ⟨hlog, hst⟩
  have hirq (x : Dev) (k : Nat) : (x.fltIrq k).flt = x.flt := Dev.flt_irq ..
  simp only [Dev.react]
  split
  · exact ⟨rfl, rfl⟩
  · split
    · exact ⟨rfl, rfl⟩
    · rw [hirq]
      split
      · exact hfence
      · exact hfence
  · have hstop (x : Dev) : (x.stopTrigger 1).flt = x.flt := still_flt.stopTrigger x 1
    rw [hirq, hstop]
    exact ⟨rfl, rfl⟩
  · rw [hirq, Dev.flt_settle]
    exact ⟨rfl, rfl⟩

theorem Dev.LogHolds.detect {e : LogEntry} {d : Dev} (h : d.LogHolds e) {src : Nat} (hs : src ∈ dueSources) : (d.detect (fkey src 0)).LogHolds e := by
  have hdetecting : (d.detecting (fkey src 0)).LogHolds e := h.of_flt rfl rfl
  change ((d.detecting (fkey src 0)).look (fkey src 0)).LogHolds e
  rw [Dev.look_detecting d src (by decide)]
  by_cases hst : has d.flt.status (fkey src 0) = true
  · rwa [if_pos hst]
  · have hentered := hdetecting.entered hs ((Bool.not_eq_true _).mp hst)
    rw [if_neg hst, Dev.event_eq]
    split
    · exact hentered
    · exact hentered.of_flt (Dev.log_react ..).1 (Dev.log_react ..).2

/-- What falls due is reported without loss of the entry. -/
theorem Dev.LogHolds.drain {e : LogEntry} {d : Dev} (h : d.LogHolds e) (hdue : d.DueKnown) : d.drain.LogHolds e := by
  have hfold (l : List Nat) (hl : ∀ x ∈ l, x ∈ dueSources) (x : Dev) (hx : x.LogHolds e) : (l.foldl (fun d src => d.detect (fkey src 0)) x).LogHolds e := by
    induction l generalizing x with
    | nil => exact hx
    | cons src l ih => exact ih (fun y hy => hl y (List.mem_cons_of_mem _ hy)) _ (hx.detect (hl src List.mem_cons_self))
  exact hfold d.flt.due hdue _ (h.of_flt rfl rfl)

end Sys2Proof.Machine
end


section
/-! PROOF. The reports of fault sources, their reactions and their ends (R398 to R414). -/

namespace Sys2Proof.Machine

/-! ### A report that is an event -/

/-- What a reported source's event leaves with an entry in the log. -/
theorem Dev.report_entry {d : Dev} {s i : Nat} (hi : i < 256) (hdue : d.flt.due = []) (hclear : has d.flt.status (fkey s i) = false) :
    ((d.report s i).get F.FLT_IRQ_STAT).testBit 0 = true ∧
    ∃ e ∈ (d.report s i).flt.log, e.source = s ∧ e.cls = d.classOf s ∧ e.seq = d.flt.seq ∧ e.conseq = d.consequential s ∧ e.time = d.T := by
  obtain ⟨x, hx⟩ : ∃ x : Dev, x = (d.detecting (fkey s i)).event s i := ⟨_, rfl⟩
  have hreport : d.report s i = x.drain := by rw [Dev.report_eq, Dev.look_detecting d s hi, if_neg (by simp [hclear]), hx]
  have hentry : x.LogHolds ((d.detecting (fkey s i)).leesEntry s i) := by
    have hentered : ((d.detecting (fkey s i)).entered s i).LogHolds ((d.detecting (fkey s i)).leesEntry s i) := by
      refine ⟨if d.flt.log.length < 16 then d.flt.log else d.flt.log.drop 1, [], ?_, Nat.zero_le _⟩
      rw [Dev.flt_entered]
      rfl
    rw [hx, Dev.event_eq]
    split
    · exact hentered
    · exact hentered.of_flt (Dev.log_react ..).1 (Dev.log_react ..).2
  have hknown : x.DueKnown := by
    have hnone : ((d.detecting (fkey s i)).entered s i).DueKnown := by
      rw [Dev.DueKnown, Dev.due_entered]
      exact fun y hy => absurd (hdue ▸ hy : y ∈ ([] : List Nat)) List.not_mem_nil
    rw [hx, Dev.event_eq]
    split
    · exact hnone
    · exact hnone.react s i
  have hirq : (x.get F.FLT_IRQ_STAT).testBit 0 = true := by
    have hentered : (((d.detecting (fkey s i)).entered s i).get F.FLT_IRQ_STAT).testBit 0 = true := Dev.irqStat_fltIrq _ (by decide)
    rw [hx, Dev.event_eq]
    split
    · exact hentered
    · exact (Dev.Later.react _ s i).2.2.2.2 0 (by decide) hentered
  rw [hreport]
  refine ⟨(Dev.Later.drain x).2.2.2.2 0 (by decide) hirq, (d.detecting (fkey s i)).leesEntry s i, ?_, rfl, rfl, rfl, rfl, rfl⟩
  obtain ⟨a, b, hlog, -⟩ := hentry.drain hknown
  rw [hlog]
  exact List.mem_append_right _ List.mem_cons_self

/-- The parts of an event that has no reaction. -/
theorem Dev.report_quiet {d : Dev} {s i : Nat} (hi : i < 256) (hs : s < 312) (hdue : d.flt.due = []) (hclear : has d.flt.status (fkey s i) = false)
    (h : d.consequential s = true ∨ d.classOf s = 0) :
    (d.report s i).flt.stops = d.flt.stops ∧ (d.report s i).flt.safes = d.flt.safes ∧ (d.report s i).flt.fences = d.flt.fences ∧
      (d.report s i).flt.shadows = d.flt.shadows ∧ (d.report s i).fire = d.fire := by
  have hevent : (d.detecting (fkey s i)).event s i = (d.detecting (fkey s i)).entered s i := by
    rw [Dev.event_eq]
    split
    · rfl
    · next hc => exact Dev.react_zero ((Dev.classOf_entered (d.detecting (fkey s i)) s i s hs).trans (h.resolve_left hc)) i
  have hfire : ((d.detecting (fkey s i)).entered s i).fire = d.fire := by
    have hpush (x : Dev) (e : LogEntry) : (x.logPush e).fire = x.fire := by
      simp only [Dev.logPush]
      split
      · rfl
      · rw [Dev.fltIrq, Dev.fire_irq]
        rfl
    rw [Dev.entered, Dev.fltIrq, Dev.fire_irq, Dev.fire_set, hpush]
    rfl
  rw [Dev.report_of_clear hi hs hdue hclear (h.imp_right (fun h0 => by rw [h0]; decide)), hevent, Dev.flt_entered, hfire]
  exact ⟨rfl, rfl, rfl, rfl, rfl⟩

/-! ### The reactions of an event (R406) -/

theorem Dev.unitsOf_entered (d : Dev) (s i x y : Nat) : (d.entered s i).unitsOf x y = d.unitsOf x y := by
  have hlamps (v : Nat) : (List.range 16).filter (fun c => (d.entered s i).get F.LMP_C_STAT_STATUS c = v) =
      (List.range 16).filter (fun c => d.get F.LMP_C_STAT_STATUS c = v) := List.filter_congr fun c hc => by
    rw [Dev.get_of_beyond (Dev.beyond_entered d s i) (g := F.LMP_C_STAT_STATUS) (by decide) (List.mem_range.mp hc) (by decide)]
  rw [Dev.unitsOf, Dev.unitsOf, hlamps]

theorem Dev.listOf_entered (d : Dev) (s i x y : Nat) : (d.entered s i).listOf x y = d.listOf x y := by
  have hmap : (d.entered s i).hmap = d.hmap := Dev.hmap_of_fixed (Dev.fixed_entered d s i)
  have hlist (u : FUnit) : (d.entered s i).consequences u = d.consequences u := by
    cases u <;> simp only [Dev.consequences, Dev.portHome, hmap]
  rw [Dev.listOf, Dev.listOf, Dev.unitsOf_entered, funext hlist]

/-- A DEGRADE reaction: the source's units are fenced, and the window of their list opens. -/
theorem Dev.report_degrade {d : Dev} {s i : Nat} (hi : i < 256) (hs : s < 312) (hclear : has d.flt.status (fkey s i) = false) (hc : d.consequential s = false)
    (hcls : d.classOf s = 1) : (∀ u ∈ d.unitsOf s i, (d.report s i).fenced u = true) ∧ (d.unitsOf s i ≠ [] → ((d.report s i).get F.FLT_IRQ_STAT).testBit 1 = true ∧
      (d.get F.FLT_CFG_SHADOW_US ≠ 0 → (⟨d.listOf s i, d.raw, d.raw + d.get F.FLT_CFG_SHADOW_US * 1000⟩ : Shadow) ∈ (d.report s i).flt.shadows)) := by
  obtain ⟨t, ht⟩ : ∃ t : Dev, t = (d.detecting (fkey s i)).entered s i := ⟨_, rfl⟩
  have hreport : d.report s i = (t.react s i).drain := by
    have hc' : (d.detecting (fkey s i)).consequential s = false := hc
    rw [Dev.report_eq, Dev.look_detecting d s hi, if_neg (by simp [hclear]), Dev.event_eq, hc', if_neg Bool.false_ne_true, ht]
  have hclass : t.classOf s = 1 := by
    rw [ht, Dev.classOf_entered _ s i s hs]
    exact hcls
  have hunits : t.unitsOf s i = d.unitsOf s i := by
    rw [ht, Dev.unitsOf_entered]
    rfl
  have hlist : t.listOf s i = d.listOf s i := by
    rw [ht, Dev.listOf_entered]
    rfl
  have hraw : t.raw = d.raw := by
    rw [ht, Dev.raw_of_fixed (Dev.fixed_entered ..)]
    rfl
  have hus : t.get F.FLT_CFG_SHADOW_US = d.get F.FLT_CFG_SHADOW_US := by
    rw [ht, Dev.get_of_beyond (Dev.beyond_entered _ s i) (by decide) (by decide) (by decide)]
    rfl
  obtain ⟨hdrain, -⟩ : (t.react s i).Later (d.report s i) ∧ True := ⟨hreport ▸ Dev.Later.drain _, trivial⟩
  obtain ⟨-, -, hfences, hshadows, hirq⟩ := hdrain
  by_cases hnone : d.unitsOf s i = []
  · rw [hnone]
    exact ⟨fun u hu => absurd hu List.not_mem_nil, fun h => absurd rfl h⟩
  · obtain ⟨hflt, hregs⟩ := Dev.books_fenceUnits t s i
    obtain ⟨z, hz⟩ : ∃ z : Dev, z = (if (t.fenceUnits s i).get F.FLT_CFG_SHADOW_US = 0 then t.fenceUnits s i
        else { t.fenceUnits s i with flt := { (t.fenceUnits s i).flt with shadows := (t.fenceUnits s i).flt.shadows ++
          [⟨t.listOf s i, (t.fenceUnits s i).now, (t.fenceUnits s i).now + (t.fenceUnits s i).get F.FLT_CFG_SHADOW_US * 1000⟩] } }) := ⟨_, rfl⟩
    have hreact : t.react s i = z.fltIrq 1 := by
      have hsome : ¬ ((t.unitsOf s i).isEmpty && !(decide (235 ≤ s) && decide (s ≤ 238))) = true := by
        rw [hunits, List.isEmpty_eq_false_iff.mpr hnone]
        simp
      rw [hz, Dev.react, hclass]
      exact if_neg hsome
    have hzirq : (t.react s i).flt = z.flt := by
      rw [hreact]
      exact Dev.flt_irq ..
    have hjoined : (t.fenceUnits s i).flt.fences = t.flt.fences ++ (t.unitsOf s i).map (fun u => ⟨u, s, i⟩) := by
      simp only [FltSt.still, FltSt.mk.injEq] at hflt
      obtain ⟨-, -, -, -, -, -, -, -, hf, -⟩ := hflt
      exact hf
    have hzf : z.flt.fences = (t.fenceUnits s i).flt.fences := by
      rw [hz]
      split <;> rfl
    refine ⟨fun u hu => ?_, fun _ => ⟨hirq 1 (by decide) (hreact ▸ Dev.irqStat_fltIrq z (by decide)), fun hne => hshadows _ ?_⟩⟩
    · have hmem : (⟨u, s, i⟩ : Fence) ∈ (t.react s i).flt.fences := by
        rw [hzirq, hzf, hjoined, hunits]
        exact List.mem_append_right _ (List.mem_map.mpr ⟨u, hu, rfl⟩)
      exact List.any_eq_true.mpr ⟨_, hfences _ hmem, decide_eq_true rfl⟩
    · have hwin : (t.fenceUnits s i).get F.FLT_CFG_SHADOW_US = d.get F.FLT_CFG_SHADOW_US := (hregs _ _ _ (by decide)).trans hus
      have hnow : (t.fenceUnits s i).now = d.raw := (Dev.raw_of_fixed (Dev.fixed_fenceUnits t s i)).trans hraw
      rw [hzirq, hz, hwin, if_neg hne, hnow, hlist]
      exact List.mem_append_right _ (List.mem_singleton.mpr rfl)

/-- A STOP reaction starts the stop sequence, or adds its cause. -/
theorem Dev.stopTrigger_fault (d : Dev) : (d.stopTrigger 1).fire.stop.st ≠ .run ∧ (d.stopTrigger 1).fire.stop.fault = true := by
  simp only [Dev.stopTrigger]
  split
  · rw [Dev.fire_irq]
    exact ⟨StopState.noConfusion, rfl⟩
  · next h => exact ⟨h, rfl⟩

theorem Dev.report_stop {d : Dev} {s i : Nat} (hi : i < 256) (hs : s < 312) (hdue : d.flt.due = []) (hclear : has d.flt.status (fkey s i) = false)
    (hc : d.consequential s = false) (hcls : d.classOf s = 2) : has (d.report s i).flt.stops (fkey s i) = true ∧ (d.report s i).fire.stop.st ≠ .run ∧
      (d.report s i).fire.stop.fault = true ∧ ((d.report s i).get F.FLT_IRQ_STAT).testBit 2 = true := by
  have hc' : (d.detecting (fkey s i)).consequential s = false := hc
  have hclass : ((d.detecting (fkey s i)).entered s i).classOf s = 2 := (Dev.classOf_entered _ s i s hs).trans hcls
  rw [Dev.report_of_clear hi hs hdue hclear (.inr (by rw [hcls]; decide)), Dev.event_eq, hc', if_neg Bool.false_ne_true]
  refine ⟨?_, ?_⟩
  · rw [Dev.flt_react_two hclass]
    exact has_insertOnce_self ..
  · rw [Dev.react_two hclass, Dev.fltIrq, Dev.fire_irq]
    obtain ⟨hst, hfault⟩ := Dev.stopTrigger_fault { (d.detecting (fkey s i)).entered s i with flt := { ((d.detecting (fkey s i)).entered s i).flt with
      stops := insertOnce ((d.detecting (fkey s i)).entered s i).flt.stops (fkey s i) } }
    exact ⟨hst, hfault, Dev.irqStat_fltIrq _ (by decide)⟩

/-- A SAFE reaction closes the gate, holds the press and faults FLT_OUT. -/
theorem Dev.report_safe {d : Dev} {s i : Nat} (hi : i < 256) (hs : s < 312) (hdue : d.flt.due = []) (hclear : has d.flt.status (fkey s i) = false)
    (hcls : d.classOf s = 3) : has (d.report s i).flt.safes (fkey s i) = true ∧ (d.report s i).gateOpen = false ∧ (d.report s i).drvHold = true ∧
      (d.report s i).fltOut = (false, true) ∧ ((d.report s i).get F.FLT_IRQ_STAT).testBit 3 = true := by
  have hc : (d.detecting (fkey s i)).consequential s = false := by
    have hcls' : (d.detecting (fkey s i)).classOf s = 3 := hcls
    rw [Dev.consequential, hcls']
    rfl
  have hclass : 3 ≤ ((d.detecting (fkey s i)).entered s i).classOf s := Nat.le_of_eq ((Dev.classOf_entered (d.detecting (fkey s i)) s i s hs).trans hcls).symm
  rw [Dev.report_of_clear hi hs hdue hclear (.inr (by rw [hcls]; decide)), Dev.event_eq, hc, if_neg Bool.false_ne_true]
  have hflt := Dev.flt_react_three hclass i
  have hsafe : has (((d.detecting (fkey s i)).entered s i).react s i).flt.safes (fkey s i) = true := by
    rw [hflt]
    exact has_insertOnce_self ..
  have hirq : ((((d.detecting (fkey s i)).entered s i).react s i).get F.FLT_IRQ_STAT).testBit 3 = true := by
    rw [Dev.react_three hclass]
    exact Dev.irqStat_fltIrq _ (by decide)
  generalize ((d.detecting (fkey s i)).entered s i).react s i = e at hsafe hirq
  have hsome : e.flt.safes.isEmpty = false := by
    cases hl : e.flt.safes with
    | nil => simp [hl, has] at hsafe
    | cons x l => rfl
  have hfault : e.outFault = true := by rw [Dev.outFault, hsome]; rfl
  refine ⟨hsafe, ?_, ?_, ?_, hirq⟩
  · simp only [Dev.gateOpen, hsome, Bool.and_false, Bool.false_and]
  · simp only [Dev.drvHold, hfault, Bool.or_true, Bool.true_or]
  · rw [Dev.fltOut, hfault, if_pos rfl]

/-! ### FAULT_EVENT and CLOCK_LOSS (R21, R398, R399) -/

/-- The instance of a source's key (R403). -/
def instanceKept (src inst : Nat) : Nat := if 156 ≤ src ∧ src ≤ 185 then inst else 0

theorem sourceKey_eq (src inst : Nat) : sourceKey src inst = fkey src (instanceKept src inst) := by
  simp only [sourceKey, instanceKept, Bool.and_eq_true, decide_eq_true_eq]
  split <;> rfl

theorem instanceKept_lt (src : Nat) (inst : Byte) : instanceKept src inst.toNat < 256 := by
  have := inst.isLt
  simp only [instanceKept]
  split <;> omega

theorem gives_faultEvent (src : Source) (inst : Byte) (eq : Bool) (s : State) : Gives (.faultEvent src inst eq) s
    (if s.dev.pwr.st ≠ .on then s.dev else if eq && hasWires src.val then s.dev.pairEqual (fkey src.val (instanceKept src.val inst.toNat))
      else s.dev.report src.val (instanceKept src.val inst.toNat)) := by
  have hrun : Gives (.faultEvent src inst eq) s (if s.dev.pwr.st ≠ .on then s.dev
      else if eq && hasWires src.val then s.dev.pairEqual (sourceKey src.val inst.toNat)
      else s.dev.report (sourceKey src.val inst.toNat / 256) (sourceKey src.val inst.toNat % 256)) := rfl
  obtain ⟨hs, hi⟩ := fkey_key src.val (instanceKept src.val inst.toNat) (instanceKept_lt src.val inst)
  rwa [sourceKey_eq, hs, hi] at hrun

theorem faultEvent_reports {src : Source} {inst : Byte} {s : State} (hon : s.dev.pwr.st = .on) :
    Gives (.faultEvent src inst false) s (s.dev.report src.val (instanceKept src.val inst.toNat)) :=
  (gives_faultEvent src inst false s).congr ((if_neg (not_not_intro hon)).trans (if_neg (by simp)))

theorem faultEvent_pair {src : Source} {inst : Byte} {s : State} (hon : s.dev.pwr.st = .on) :
    (src.val < 12 → Gives (.faultEvent src inst true) s (s.dev.report src.val (instanceKept src.val inst.toNat))) ∧
    (12 ≤ src.val → Completes (.faultEvent src inst true) s (fun d => d = s.dev.pairEqual (fkey src.val (instanceKept src.val inst.toNat)) ∧
      s.dev.Reported d src.val (instanceKept src.val inst.toNat) ∧ s.dev.Reported d (src.val / 32) ∧
      has d.flt.eq (fkey src.val (instanceKept src.val inst.toNat)) = true)) := by
  have hsrc := src.isLt
  refine ⟨fun hlo => ?_, fun hhi => ?_⟩
  · have hw : hasWires src.val = false := by simp [hasWires, Nat.not_le.mpr hlo]
    exact (gives_faultEvent src inst true s).congr ((if_neg (not_not_intro hon)).trans (if_neg (by simp [hw])))
  · have hw : hasWires src.val = true := by
      simp only [hasWires, Bool.and_eq_true, decide_eq_true_eq]
      omega
    have hfix : (s.dev.pairEqual (fkey src.val (instanceKept src.val inst.toNat))).fixed = s.dev.fixed := (Dev.fixed_noteLive ..).trans (Dev.fixed_report ..)
    obtain ⟨heq, hst, hbank⟩ := Dev.readsEqual_pairEqual s.dev (fkey src.val (instanceKept src.val inst.toNat))
    rw [fkey_div (instanceKept_lt src.val inst)] at hbank
    exact ⟨_, (gives_faultEvent src inst true s).congr ((if_neg (not_not_intro hon)).trans (if_pos (by simp [hw]))), rfl, ⟨hfix, hst⟩, ⟨hfix, hbank⟩, heq⟩

theorem gives_clockLoss (src : Source) (s : State) : Gives (.clockLoss src) s
    (if s.dev.pwr.st = .on && 23 ≤ src.val && src.val ≤ 55 && (src.val < 40 || bit (s.dev.get F.CAM_P_STAT_LOCK ((src.val - 40) / 4)) ((src.val - 40) % 4))
      then s.dev.report src.val else s.dev) := rfl

/-! ### The end of a report (R399, R401, R413) -/

theorem Dev.linkBack_pwr (d : Dev) (src : Nat) : (src ≠ 89 ∨ d.pwr.st ≠ .on ∨ d.pwr.booted = false ∨ d.pins.perst = false → (d.linkBack src).pwr = d.pwr) ∧
    (src = 89 → d.pwr.st = .on → d.pwr.booted = true → d.pins.perst = true → (d.linkBack src).pwr.link = true) := by
  refine ⟨fun h => ?_, fun hs hon hb hp => ?_⟩
  · have hnot : ¬ (decide (src = 89) && decide (d.pwr.st = .on) && d.pwr.booted && d.pins.perst) = true := by
      rcases h with h | h | h | h <;> simp [h]
    exact congrArg Dev.pwr (if_neg hnot)
  · have hall : (decide (src = 89) && decide (d.pwr.st = .on) && d.pwr.booted && d.pins.perst) = true := by simp [hs, hon, hb, hp]
    have hup : d.linkUp.pwr.link = true := by
      cases hl : d.pwr.link with
      | true => rw [Dev.linkUp_up hl, hl]
      | false => rw [Dev.linkUp_down hl]
    exact (congrArg (fun x : Dev => x.pwr.link) (if_pos hall)).trans hup

/-- What the end of a report keeps of the collector, and the detector's key that it takes out. -/
theorem Dev.endReport_keeps (d : Dev) (src k : Nat) (held : Bool) : has (d.endReport src k held).flt.det k = false ∧ (d.endReport src k held).flt.status = d.flt.status ∧
    (d.endReport src k held).flt.force = d.flt.force ∧ (d.endReport src k held).flt.stops = d.flt.stops ∧ (d.endReport src k held).flt.safes = d.flt.safes ∧
    (d.endReport src k held).flt.fences = d.flt.fences ∧ (d.endReport src k held).pwr = d.pwr := by
  have hfall (x : Dev) (j : Nat) (b : Bool) : (x.noteFall j b).flt.det = x.flt.det ∧ (x.noteFall j b).flt.status = x.flt.status ∧ (x.noteFall j b).flt.force = x.flt.force ∧
      (x.noteFall j b).flt.stops = x.flt.stops ∧ (x.noteFall j b).flt.safes = x.flt.safes ∧ (x.noteFall j b).flt.fences = x.flt.fences ∧ (x.noteFall j b).pwr = x.pwr := by
    simp only [Dev.noteFall]
    split <;> exact ⟨rfl, rfl, rfl, rfl, rfl, rfl, rfl⟩
  have hpair (x : Dev) (bank : Nat) (hx : has x.flt.det k = false) : has (x.endWirePair bank).flt.det k = false ∧ (x.endWirePair bank).flt.status = x.flt.status ∧
      (x.endWirePair bank).flt.force = x.flt.force ∧ (x.endWirePair bank).flt.stops = x.flt.stops ∧ (x.endWirePair bank).flt.safes = x.flt.safes ∧
      (x.endWirePair bank).flt.fences = x.flt.fences ∧ (x.endWirePair bank).pwr = x.pwr := by
    simp only [Dev.endWirePair]
    split
    · exact ⟨hx, rfl, rfl, rfl, rfl, rfl, rfl⟩
    · refine ⟨Dev.det_unreport_of hx bank 0, ?_⟩
      rw [Dev.unreport]
      exact (hfall _ _ _).2
  obtain ⟨x, hx⟩ : ∃ x : Dev, x = ({ d with flt := { d.flt with det := removeAll d.flt.det k, eq := if held then d.flt.eq else removeAll d.flt.eq k } } : Dev).noteFall k
    (d.flt.live k) := ⟨_, rfl⟩
  have hkept : has x.flt.det k = false ∧ x.flt.status = d.flt.status ∧ x.flt.force = d.flt.force ∧ x.flt.stops = d.flt.stops ∧ x.flt.safes = d.flt.safes ∧
      x.flt.fences = d.flt.fences ∧ x.pwr = d.pwr := by
    obtain ⟨hdet, hrest⟩ := hfall { d with flt := { d.flt with det := removeAll d.flt.det k, eq := if held then d.flt.eq else removeAll d.flt.eq k } } k (d.flt.live k)
    rw [← hx] at hdet hrest
    rw [hdet]
    exact ⟨has_removeAll_self .., hrest⟩
  have hend : d.endReport src k held = if has d.flt.eq k && !held then x.endWirePair (src / 32) else x := by rw [hx]; rfl
  rw [hend]
  split
  · obtain ⟨h0, h1, h2, h3, h4, h5, h6⟩ := hpair x (src / 32) hkept.1
    obtain ⟨-, k1, k2, k3, k4, k5, k6⟩ := hkept
    exact ⟨h0, h1.trans k1, h2.trans k2, h3.trans k3, h4.trans k4, h5.trans k5, h6.trans k6⟩
  · exact hkept

/-- WIRE_PAIR ends with the last pair of its bank that reads equal. -/
theorem Dev.endReport_bank {d : Dev} {src k : Nat} (h : has d.flt.eq k = true) (hlast : ∀ x ∈ d.flt.eq, x = k ∨ x / 256 / 32 ≠ src / 32) :
    has (d.endReport src k false).flt.det (fkey (src / 32) 0) = false := by
  obtain ⟨x, hx⟩ : ∃ x : Dev, x = ({ d with flt := { d.flt with det := removeAll d.flt.det k, eq := removeAll d.flt.eq k } } : Dev).noteFall k (d.flt.live k) := ⟨_, rfl⟩
  have hend : d.endReport src k false = x.endWirePair (src / 32) := by
    rw [hx]
    exact if_pos (by rw [h]; rfl)
  have heq : x.flt.eq = removeAll d.flt.eq k := by
    rw [hx, Dev.eq_noteFall]
  have hnone : ¬ x.flt.eq.any (fun k => decide (k / 256 / 32 = src / 32)) = true := by
    rw [heq, List.any_eq_true]
    rintro ⟨y, hy, hbank⟩
    simp only [removeAll, List.mem_filter, decide_eq_true_eq] at hy hbank
    exact (hlast y hy.1).elim hy.2 (fun hne => hne hbank)
  rw [hend, Dev.endWirePair, if_neg hnone]
  exact Dev.det_unreport ..

theorem sourceLiveEnd_completes (src : Source) (inst : Byte) (s : State) (testing : Prop) (ht : testing = (∃ t, s.dev.flt.wireAt = some (src.val, t) ∧ s.dev.raw < t)) (k : Nat)
    (hk : k = fkey src.val (instanceKept src.val inst.toNat)) : Completes (.sourceLiveEnd src inst) s (fun d => has d.flt.det k = false ∧ d.flt.status = s.dev.flt.status ∧
      d.flt.force = s.dev.flt.force ∧ d.flt.stops = s.dev.flt.stops ∧ d.flt.safes = s.dev.flt.safes ∧ d.flt.fences = s.dev.flt.fences ∧ (testing → d.flt.eq = s.dev.flt.eq) ∧
      (¬ testing → has d.flt.eq k = false ∧ (has s.dev.flt.eq k = true → (∀ x ∈ s.dev.flt.eq, x = k ∨ x / 256 / 32 ≠ src.val / 32) →
        has d.flt.det (fkey (src.val / 32) 0) = false)) ∧
      (src.val ≠ 89 ∨ s.dev.pwr.st ≠ .on ∨ s.dev.pwr.booted = false ∨ s.dev.pins.perst = false → d.pwr = s.dev.pwr) ∧
      (src.val = 89 → s.dev.pwr.st = .on → s.dev.pwr.booted = true → s.dev.pins.perst = true → d.pwr.link = true)) := by
  obtain ⟨hflt, hraw⟩ := s.dev.linkBack_flt_raw src.val
  obtain ⟨hsame, hlink⟩ := Dev.linkBack_pwr s.dev src.val
  have hexec : Gives (.sourceLiveEnd src inst) s ((s.dev.linkBack src.val).endReport src.val k ((s.dev.linkBack src.val).underTest src.val)) := by
    rw [hk, ← sourceKey_eq]
    exact exec_sourceLiveEnd src inst s
  have htest : (s.dev.linkBack src.val).underTest src.val = true ↔ testing := by
    rw [ht, Dev.underTest, Dev.now, hflt, hraw]
    cases s.dev.flt.wireAt with
    | none => simp
    | some p =>
      obtain ⟨x, t⟩ := p
      simp only [Bool.and_eq_true, decide_eq_true_eq, Option.some.injEq, Prod.mk.injEq]
      exact ⟨fun hp => ⟨t, ⟨hp.1, rfl⟩, hp.2⟩, fun ⟨y, hy, hlt⟩ => ⟨hy.1, hy.2 ▸ hlt⟩⟩
  refine ⟨_, hexec, ?_⟩
  generalize s.dev.linkBack src.val = e at hflt hsame hlink htest
  obtain ⟨hdet, hst, hforce, hstops, hsafes, hfences, hpwr⟩ := e.endReport_keeps src.val k (e.underTest src.val)
  rw [hst, hforce, hstops, hsafes, hfences, hpwr, hflt, Dev.eq_endReport, hflt]
  refine ⟨hdet, rfl, rfl, rfl, rfl, rfl, fun hyes => by rw [htest.mpr hyes, if_pos rfl], fun hno => ?_, hsame, hlink⟩
  have hfree : e.underTest src.val = false := by
    cases hu : e.underTest src.val with
    | false => rfl
    | true => exact absurd (htest.mp hu) hno
  rw [hfree, if_neg Bool.false_ne_true]
  exact ⟨has_removeAll_self .., fun heq hlast => Dev.endReport_bank (by rw [hflt, heq]) (by rwa [hflt])⟩

/-- Settles O19: the reports with and without power and wires, the reactions by their class, the clocks, and the end of a report. -/
theorem faultsAreReported : Obligations.FaultsAreReported := by
  intro src inst s i k hi hk
  have hinst : i = instanceKept src.val inst.toNat := hi
  have hlt : i < 256 := hinst ▸ instanceKept_lt src.val inst
  subst hk
  have hsrc : src.val < 312 := src.isLt
  refine ⟨fun hoff => ⟨fun eq => (gives_faultEvent src inst eq s).congr (if_pos hoff), (gives_clockLoss src s).congr (if_neg (by simp [hoff]))⟩,
    fun hout => (gives_clockLoss src s).congr (if_neg ?_), fun hhi hlock => (gives_clockLoss src s).congr (if_neg ?_), fun hon => ?_, fun testing ht => ?_⟩
  · rcases hout with h | h
    · simp [Nat.not_le.mpr h]
    · simp [Nat.not_le.mpr h]
  · simp [Nat.not_lt.mpr hhi, bit, hlock]
  · obtain ⟨hpairNo, hpair⟩ := faultEvent_pair (src := src) (inst := inst) hon
    have hreports : Gives (.faultEvent src inst false) s (s.dev.report src.val i) := hinst ▸ faultEvent_reports hon
    rw [← hinst] at hpairNo hpair
    refine ⟨⟨_, hreports, rfl, Dev.reported_report _ _ _ hlt, Dev.has_det_report ..⟩, hpairNo, hpair, fun hlo hhi hwatched => ?_, fun hdue hset => ?_, fun hdue hclear cls us hcls hus => ?_⟩
    · refine ⟨_, (gives_clockLoss src s).congr (if_pos ?_), rfl, Dev.reported_report _ _ _ (by decide)⟩
      rcases hwatched with h | h
      · simp [hon, hlo, hhi, h]
      · simp [hon, hlo, hhi, bit, h]
    · exact hreports.congr (Dev.report_of_set hlt hdue hset)
    · subst hcls
      subst hus
      obtain ⟨hirq, hentry⟩ := Dev.report_entry hlt hdue hclear
      exact ⟨_, hreports, hirq, hentry, Dev.report_quiet hlt hsrc hdue hclear, Dev.report_degrade hlt hsrc hclear, Dev.report_stop hlt hsrc hdue hclear,
        Dev.report_safe hlt hsrc hdue hclear⟩
  · exact sourceLiveEnd_completes src inst s testing ht _ (by rw [hinst])

end Sys2Proof.Machine
end


section
/-! PROOF. The conditions after a conversion: warning, throttle and shutdown (R421 to R426). -/

namespace Sys2Proof.Machine

/-! ### The steps of the conditions -/

/-- The counts of conversions below the leaving levels (R423). -/
def Dev.lowCounted (d : Dev) : Dev :=
  let low (k j : Nat) (old : Nat) : Nat := if d.tMax.1 < (d.threshByte k 0 - d.threshByte 7 j) * 256 then Nat.min 2 (old + 1) else 0
  d.modThm (fun t => { t with warnLow := low 4 0 t.warnLow, throtLow := low 5 1 t.throtLow, ackLow := low 6 2 t.ackLow })

/-- Have all sensors failed. -/
def Dev.allFailed (d : Dev) : Bool := (List.range 24).all (fun k => d.flag F.THM_SENS_FAILED k)

/-- Is a shutdown entered. -/
def Dev.shutDue (d : Dev) (x : ThmSensor) : Bool := !d.flag F.THM_STAT_SHUT_LATCH && (x.shut = 2 || d.allFailed)

/-- The warning is entered or left. -/
def Dev.warnStep (d : Dev) (x : ThmSensor) : Dev :=
  if !d.flag F.THM_STAT_WARN && x.warn = 2 then ((d.set F.THM_STAT_WARN 1).irq F.THM_IRQ_STAT F.THM_IRQ_EN 0 none).report 59
  else if d.flag F.THM_STAT_WARN && d.thm.warnLow = 2 then ((d.set F.THM_STAT_WARN 0).set F.THM_STAT_SLOW_REQ 0).unreport 59
  else d

/-- The throttle is entered or left. -/
def Dev.throtStep (d : Dev) (x : ThmSensor) : Dev :=
  if !d.flag F.THM_STAT_THROTTLE && x.throt = 2 then
    (((d.set F.THM_STAT_THROTTLE 1).modThm (fun t => { t with throtAt := some d.now, paused := d.pastDuty })).irq F.THM_IRQ_STAT F.THM_IRQ_EN 1 none).report 60
  else if d.flag F.THM_STAT_THROTTLE && d.thm.throtLow = 2 then
    ((d.set F.THM_STAT_THROTTLE 0).modThm (fun t => { t with throtAt := none, paused := false })).unreport 60
  else d

/-- The shutdown is entered where it is due. -/
def Dev.shutStep (d : Dev) (x : ThmSensor) (n : Nat) : Dev := if d.shutDue x then d.shutEnter (if d.allFailed then 31 else n) else d

theorem Dev.conditions_eq (d : Dev) (n : Nat) : d.conditions n =
    if d.lowCounted.shutDue (d.sensor n) then (((d.lowCounted.shutStep (d.sensor n) n).warnStep (d.sensor n)).throtStep (d.sensor n)).report 61
    else ((d.lowCounted.shutStep (d.sensor n) n).warnStep (d.sensor n)).throtStep (d.sensor n) := rfl

/-! ### What the steps keep -/

/-- The fields that a warning changes beside those of its report. -/
def warnFields : List Field := [F.THM_STAT_WARN, F.THM_STAT_SLOW_REQ, F.THM_IRQ_STAT]

/-- The fields that a throttle changes beside those of its report. -/
def throtFields : List Field := [F.THM_STAT_THROTTLE, F.THM_IRQ_STAT]

/-- The fields that a shutdown changes beside those of its report. -/
def shutFields : List Field := [F.THM_STAT_SHUT_LATCH, F.NVM_STAT_SUSPENDED]

section
variable {S : List Field} (hr : reactFields ⊆ S)
include hr

theorem Dev.beyond_warnStep (hS : warnFields ⊆ S) (d : Dev) (x : ThmSensor) : (d.warnStep x).beyond S = d.beyond S := by
  have hwarn : [F.THM_STAT_WARN] ⊆ S := List.Subset.trans (by decide) hS
  have hslow : [F.THM_STAT_SLOW_REQ] ⊆ S := List.Subset.trans (by decide) hS
  have hirq : [F.THM_IRQ_STAT] ⊆ S := List.Subset.trans (by decide) hS
  simp only [Dev.warnStep]
  split
  · rw [Dev.beyond_report hr, Dev.beyond_irq _ _ _ hirq, Dev.beyond_set _ _ _ _ hwarn]
  · split
    · rw [Dev.beyond_unreport, Dev.beyond_set _ _ _ _ hslow, Dev.beyond_set _ _ _ _ hwarn]
    · rfl

theorem Dev.beyond_throtStep (hS : throtFields ⊆ S) (d : Dev) (x : ThmSensor) : (d.throtStep x).beyond S = d.beyond S := by
  have hthrot : [F.THM_STAT_THROTTLE] ⊆ S := List.Subset.trans (by decide) hS
  have hirq : [F.THM_IRQ_STAT] ⊆ S := List.Subset.trans (by decide) hS
  have hthm (e : Dev) (f : ThmSt → ThmSt) : (e.modThm f).beyond S = e.beyond S := rfl
  simp only [Dev.throtStep]
  split
  · rw [Dev.beyond_report hr, Dev.beyond_irq _ _ _ hirq, hthm, Dev.beyond_set _ _ _ _ hthrot]
  · split
    · rw [Dev.beyond_unreport, hthm, Dev.beyond_set _ _ _ _ hthrot]
    · rfl

theorem Dev.beyond_shutStep (hS : shutFields ⊆ S) (d : Dev) (x : ThmSensor) (n : Nat) : (d.shutStep x n).beyond S = d.beyond S := by
  have hlatch : [F.THM_STAT_SHUT_LATCH] ⊆ S := List.Subset.trans (by decide) hS
  have hsusp : [F.NVM_STAT_SUSPENDED] ⊆ S := List.Subset.trans (by decide) hS
  have hthm (e : Dev) (f : ThmSt → ThmSt) : (e.modThm f).beyond S = e.beyond S := rfl
  simp only [Dev.shutStep]
  split
  · simp only [Dev.shutEnter]
    rw [Dev.beyond_settle (List.Subset.trans (by decide) hr), hthm, Dev.beyond_set _ _ _ _ hsusp, Dev.beyond_set _ _ _ _ hlatch]
  · rfl

end

/-- The sensors, the bonded store, the raw counter and the power state. -/
def Dev.heat (d : Dev) := (d.thm.sensors, d.bond, d.raw, d.pwr.st)

theorem Dev.heat_of_fixed {d e : Dev} (h : e.fixed = d.fixed) : e.heat = d.heat := by
  simp only [Dev.heat, Dev.thm_of_fixed h, Dev.bond_of_fixed h, Dev.raw_of_fixed h, Dev.powerState_of_fixed h]

theorem Dev.fixed_warnStep (d : Dev) (x : ThmSensor) : (d.warnStep x).fixed = d.fixed := by
  simp only [Dev.warnStep]
  split
  · exact (Dev.fixed_report ..).trans (Dev.fixed_irq ..)
  · split
    · exact Dev.fixed_unreport ..
    · rfl

/-- A throttle step leaves the thermal monitor but for the throttle's own time. -/
theorem Dev.thm_throtStep (d : Dev) (x : ThmSensor) : (d.throtStep x).heat = d.heat ∧ (d.throtStep x).thm.shutAt = d.thm.shutAt ∧ (d.throtStep x).thm.event = d.thm.event := by
  have hfixed (e : Dev) (he : e.fixed = d.fixed) : e.heat = d.heat ∧ e.thm.shutAt = d.thm.shutAt ∧ e.thm.event = d.thm.event := by
    rw [Dev.heat_of_fixed he, Dev.thm_of_fixed he]
    exact ⟨rfl, rfl, rfl⟩
  have hthrough (e y : Dev) (he : y.fixed = e.fixed) (h : e.heat = d.heat ∧ e.thm.shutAt = d.thm.shutAt ∧ e.thm.event = d.thm.event) :
      y.heat = d.heat ∧ y.thm.shutAt = d.thm.shutAt ∧ y.thm.event = d.thm.event := by
    rw [Dev.heat_of_fixed he, Dev.thm_of_fixed he]
    exact h
  simp only [Dev.throtStep]
  split
  · exact hthrough _ _ ((Dev.fixed_report ..).trans (Dev.fixed_irq ..)) ⟨rfl, rfl, rfl⟩
  · split
    · exact hthrough _ _ (Dev.fixed_unreport ..) ⟨rfl, rfl, rfl⟩
    · exact hfixed _ rfl

theorem Dev.heat_shutStep (d : Dev) (x : ThmSensor) (n : Nat) : (d.shutStep x n).heat = d.heat ∧ (d.shutStep x n).thm.warnLow = d.thm.warnLow ∧
    (d.shutStep x n).thm.throtLow = d.thm.throtLow := by
  simp only [Dev.shutStep]
  split
  · simp only [Dev.shutEnter]
    rw [Dev.heat_of_fixed (Dev.fixed_settle ..), Dev.thm_of_fixed (Dev.fixed_settle ..)]
    exact ⟨rfl, rfl, rfl⟩
  · exact ⟨rfl, rfl, rfl⟩

/-- The fields that the conditions may change. -/
def heatFields : List Field := reactFields ++ warnFields ++ throtFields ++ shutFields

theorem Dev.conditions_keeps (d : Dev) (n : Nat) : (d.conditions n).beyond heatFields = d.beyond heatFields ∧ (d.conditions n).heat = d.heat := by
  have hsteps : (((d.lowCounted.shutStep (d.sensor n) n).warnStep (d.sensor n)).throtStep (d.sensor n)).beyond heatFields = d.beyond heatFields := by
    rw [Dev.beyond_throtStep (by decide) (by decide), Dev.beyond_warnStep (by decide) (by decide), Dev.beyond_shutStep (by decide) (by decide)]
    rfl
  have hheat : (((d.lowCounted.shutStep (d.sensor n) n).warnStep (d.sensor n)).throtStep (d.sensor n)).heat = d.heat := by
    rw [(Dev.thm_throtStep ..).1, Dev.heat_of_fixed (Dev.fixed_warnStep ..), (Dev.heat_shutStep ..).1]
    rfl
  rw [Dev.conditions_eq]
  split
  · exact ⟨(Dev.beyond_report (by decide) _ 61 0).trans hsteps, (Dev.heat_of_fixed (Dev.fixed_report ..)).trans hheat⟩
  · exact ⟨hsteps, hheat⟩

/-! ### The hottest sensor (R422) -/

theorem le_foldl_hottest (f : Nat → Int) (l : List Nat) (m : Int × Nat) :
    m.1 ≤ (l.foldl (fun (m : Int × Nat) k => if m.1 < f k then (f k, k) else m) m).1 ∧
    ∀ k ∈ l, f k ≤ (l.foldl (fun (m : Int × Nat) k => if m.1 < f k then (f k, k) else m) m).1 := by
  induction l generalizing m with
  | nil => exact ⟨Int.le_refl _, fun k hk => absurd hk List.not_mem_nil⟩
  | cons x l ih =>
    rw [List.foldl_cons]
    by_cases hx : m.1 < f x
    · rw [if_pos hx]
      obtain ⟨hfirst, hrest⟩ := ih (f x, x)
      exact ⟨(Int.le_of_lt hx).trans hfirst, fun k hk => (List.mem_cons.mp hk).elim (fun hkx => hkx ▸ hfirst) (hrest k)⟩
    · rw [if_neg hx]
      obtain ⟨hfirst, hrest⟩ := ih m
      exact ⟨hfirst, fun k hk => (List.mem_cons.mp hk).elim (fun hkx => hkx ▸ (Int.not_lt.mp hx).trans hfirst) (hrest k)⟩

/-- T_max is at least the reading of a sensor that has not failed. -/
theorem Dev.le_tMax {d : Dev} {n : Nat} (hn : n < 24) (h : d.get F.THM_SENS_FAILED n = 0) : (d.sensor n).temp ≤ d.tMax.1 := by
  have hmem : n ∈ (List.range 24).filter (fun n => !d.flag F.THM_SENS_FAILED n) := by
    rw [List.mem_filter, (Dev.flag_eq_false ..).mpr h]
    exact ⟨List.mem_range.mpr hn, rfl⟩
  simp only [Dev.tMax]
  cases hl : (List.range 24).filter (fun n => !d.flag F.THM_SENS_FAILED n) with
  | nil => exact absurd (hl ▸ hmem) List.not_mem_nil
  | cons k r =>
    obtain ⟨hfirst, hrest⟩ := le_foldl_hottest (fun k => (d.sensor k).temp) r ((d.sensor k).temp, k)
    rcases List.mem_cons.mp (hl ▸ hmem) with rfl | hk
    · exact hfirst
    · exact hrest n hk

theorem Dev.tMax_of {d e : Dev} (hf : ∀ k < 24, e.get F.THM_SENS_FAILED k = d.get F.THM_SENS_FAILED k) (hs : e.thm.sensors = d.thm.sensors) (hb : e.bond = d.bond) :
    e.tMax = d.tMax := by
  have hfilter : (List.range 24).filter (fun n => !e.flag F.THM_SENS_FAILED n) = (List.range 24).filter (fun n => !d.flag F.THM_SENS_FAILED n) :=
    List.filter_congr fun k hk => by rw [Dev.flag, Dev.flag, hf k (List.mem_range.mp hk)]
  have hsensor : e.sensor = d.sensor := funext fun k => by rw [Dev.sensor, Dev.sensor, hs]
  have hbyte : e.threshByte 6 0 = d.threshByte 6 0 := by rw [Dev.threshByte, Dev.threshByte, Dev.bonded, Dev.bonded, hb]
  rw [Dev.tMax, Dev.tMax, hfilter, hsensor, hbyte]

/-! ### The warning (R423, R425) -/

theorem Dev.warnStep_high {d : Dev} {x : ThmSensor} (hx : x.warn = 2) (hlow : d.thm.warnLow ≠ 2) : (d.warnStep x).get F.THM_STAT_WARN ≠ 0 ∧
    (d.get F.THM_STAT_WARN = 0 → has (d.warnStep x).flt.status (fkey 59 0) = true) := by
  by_cases hset : d.get F.THM_STAT_WARN = 0
  · have hstep : d.warnStep x = ((d.set F.THM_STAT_WARN 1).irq F.THM_IRQ_STAT F.THM_IRQ_EN 0 none).report 59 := by
      rw [Dev.warnStep, (Dev.flag_eq_false ..).mpr hset, hx]
      rfl
    have hget : (d.warnStep x).get F.THM_STAT_WARN = 1 := by
      rw [hstep, Dev.get_report _ _ _ (by decide) (by decide) (by decide), Dev.get_irq, Dev.raiseBit, Dev.get_set_distinct _ (by decide), Dev.get_set_self]
      rfl
    rw [hget, hstep]
    exact ⟨Nat.one_ne_zero, fun _ => Dev.has_status_report _ _ _ (by decide)⟩
  · have hstep : d.warnStep x = d := by
      rw [Dev.warnStep, (Dev.flag_eq_true ..).mpr hset]
      simp [hlow]
    rw [hstep]
    exact ⟨hset, fun h => absurd h hset⟩

theorem Dev.warnStep_low {d : Dev} {x : ThmSensor} (hx : x.warn ≠ 2) (hlow : d.thm.warnLow = 2) : (d.warnStep x).get F.THM_STAT_WARN = 0 ∧
    (d.get F.THM_STAT_WARN ≠ 0 → (d.warnStep x).get F.THM_STAT_SLOW_REQ = 0) := by
  by_cases hset : d.get F.THM_STAT_WARN = 0
  · have hstep : d.warnStep x = d := by
      rw [Dev.warnStep, (Dev.flag_eq_false ..).mpr hset]
      simp [hx]
    rw [hstep]
    exact ⟨hset, fun h => absurd hset h⟩
  · have hstep : d.warnStep x = ((d.set F.THM_STAT_WARN 0).set F.THM_STAT_SLOW_REQ 0).unreport 59 := by
      rw [Dev.warnStep, (Dev.flag_eq_true ..).mpr hset, hlow]
      rfl
    rw [hstep, Dev.get_unreport, Dev.get_unreport, Dev.get_set_distinct _ (by decide), Dev.get_set_self, Dev.get_set_self]
    exact ⟨rfl, fun _ => rfl⟩

theorem Dev.throtStep_high {d : Dev} {x : ThmSensor} (hx : x.throt = 2) (hlow : d.thm.throtLow ≠ 2) : (d.throtStep x).get F.THM_STAT_THROTTLE ≠ 0 ∧
    (d.get F.THM_STAT_THROTTLE = 0 → has (d.throtStep x).flt.status (fkey 60 0) = true) := by
  by_cases hset : d.get F.THM_STAT_THROTTLE = 0
  · obtain ⟨f, hstep⟩ : ∃ f, d.throtStep x = (((d.set F.THM_STAT_THROTTLE 1).modThm f).irq F.THM_IRQ_STAT F.THM_IRQ_EN 1 none).report 60 := by
      rw [Dev.throtStep, (Dev.flag_eq_false ..).mpr hset, hx]
      exact ⟨_, rfl⟩
    have hget : (d.throtStep x).get F.THM_STAT_THROTTLE = 1 := by
      rw [hstep, Dev.get_report _ _ _ (by decide) (by decide) (by decide), Dev.get_irq, Dev.raiseBit, Dev.get_set_distinct _ (by decide)]
      exact (Dev.get_set_self d F.THM_STAT_THROTTLE 1 0 0)
    rw [hget, hstep]
    exact ⟨Nat.one_ne_zero, fun _ => Dev.has_status_report _ _ _ (by decide)⟩
  · have hstep : d.throtStep x = d := by
      rw [Dev.throtStep, (Dev.flag_eq_true ..).mpr hset]
      simp [hlow]
    rw [hstep]
    exact ⟨hset, fun h => absurd h hset⟩

theorem Dev.throtStep_low {d : Dev} {x : ThmSensor} (hx : x.throt ≠ 2) (hlow : d.thm.throtLow = 2) : (d.throtStep x).get F.THM_STAT_THROTTLE = 0 := by
  by_cases hset : d.get F.THM_STAT_THROTTLE = 0
  · have hstep : d.throtStep x = d := by
      rw [Dev.throtStep, (Dev.flag_eq_false ..).mpr hset]
      simp [hx]
    rwa [hstep]
  · obtain ⟨f, hstep⟩ : ∃ f, d.throtStep x = ((d.set F.THM_STAT_THROTTLE 0).modThm f).unreport 60 := by
      rw [Dev.throtStep, (Dev.flag_eq_true ..).mpr hset, hlow]
      exact ⟨_, rfl⟩
    rw [hstep, Dev.get_unreport]
    exact (Dev.get_set_self d F.THM_STAT_THROTTLE 0 0 0)

/-- A throttle step sets no status bit back. -/
theorem Dev.status_throtStep_of {d : Dev} {x : ThmSensor} {k : Nat} (h : has d.flt.status k = true) : has (d.throtStep x).flt.status k = true := by
  have hreport (e : Dev) (he : e.flt = d.flt) : has ((e.irq F.THM_IRQ_STAT F.THM_IRQ_EN 1 none).report 60).flt.status k = true := by
    refine Dev.has_status_report_of ?_ 60 0
    rw [Dev.flt_irq, he]
    exact h
  simp only [Dev.throtStep]
  split
  · exact hreport _ rfl
  · split
    · rw [Dev.status_unreport]
      exact h
    · exact h

/-! ### The conditions in one (R423, R425, R426) -/

/-- A last report of the shutdown, or none. -/
theorem Dev.conditions_last {P : Dev → Prop} (d : Dev) (n : Nat) (h : P (((d.lowCounted.shutStep (d.sensor n) n).warnStep (d.sensor n)).throtStep (d.sensor n)))
    (hr : ∀ e : Dev, P e → P (e.report 61)) : P (d.conditions n) := by
  rw [Dev.conditions_eq]
  split
  · exact hr _ h
  · exact h

theorem Dev.warnLow_lowCounted (d : Dev) : d.lowCounted.thm.warnLow = (if d.tMax.1 < (d.threshByte 4 0 - d.threshByte 7 0) * 256 then Nat.min 2 (d.thm.warnLow + 1) else 0) ∧
    d.lowCounted.thm.throtLow = (if d.tMax.1 < (d.threshByte 5 0 - d.threshByte 7 1) * 256 then Nat.min 2 (d.thm.throtLow + 1) else 0) := ⟨rfl, rfl⟩

theorem Dev.get_shutStep (d : Dev) (x : ThmSensor) (n : Nat) : (d.lowCounted.shutStep x n).get F.THM_STAT_WARN = d.get F.THM_STAT_WARN ∧
    (d.lowCounted.shutStep x n).get F.THM_STAT_THROTTLE = d.get F.THM_STAT_THROTTLE := by
  have hb : (d.lowCounted.shutStep x n).beyond (reactFields ++ shutFields) = d.lowCounted.beyond (reactFields ++ shutFields) := Dev.beyond_shutStep (by decide) (by decide) _ x n
  exact ⟨Dev.get_of_beyond hb (by decide) (by decide) (by decide), Dev.get_of_beyond hb (by decide) (by decide) (by decide)⟩

theorem Dev.get_warn_throtStep (d : Dev) (x : ThmSensor) : (d.throtStep x).get F.THM_STAT_WARN = d.get F.THM_STAT_WARN ∧
    (d.throtStep x).get F.THM_STAT_SLOW_REQ = d.get F.THM_STAT_SLOW_REQ := by
  have hb : (d.throtStep x).beyond (reactFields ++ throtFields) = d.beyond (reactFields ++ throtFields) := Dev.beyond_throtStep (by decide) (by decide) d x
  exact ⟨Dev.get_of_beyond hb (by decide) (by decide) (by decide), Dev.get_of_beyond hb (by decide) (by decide) (by decide)⟩

theorem Dev.get_throttle_warnStep (d : Dev) (x : ThmSensor) : (d.warnStep x).get F.THM_STAT_THROTTLE = d.get F.THM_STAT_THROTTLE := by
  have hb : (d.warnStep x).beyond (reactFields ++ warnFields) = d.beyond (reactFields ++ warnFields) := Dev.beyond_warnStep (by decide) (by decide) d x
  exact Dev.get_of_beyond hb (by decide) (by decide) (by decide)

theorem Dev.conditions_warn {d : Dev} {n : Nat} (hx : (d.sensor n).warn = 2) (hhot : ¬ d.tMax.1 < (d.threshByte 4 0 - d.threshByte 7 0) * 256) :
    (d.conditions n).get F.THM_STAT_WARN ≠ 0 ∧ (d.get F.THM_STAT_WARN = 0 → has (d.conditions n).flt.status (fkey 59 0) = true) := by
  have hlow : (d.lowCounted.shutStep (d.sensor n) n).thm.warnLow ≠ 2 := by
    rw [(Dev.heat_shutStep ..).2.1, (Dev.warnLow_lowCounted d).1, if_neg hhot]
    decide
  obtain ⟨hset, hst⟩ := Dev.warnStep_high hx hlow
  rw [(Dev.get_shutStep ..).1] at hst
  refine ⟨Dev.conditions_last (P := fun e => e.get F.THM_STAT_WARN ≠ 0) d n (by rwa [(Dev.get_warn_throtStep ..).1]) (fun e he => ?_), fun hclear =>
    Dev.conditions_last (P := fun e => has e.flt.status (fkey 59 0) = true) d n (Dev.status_throtStep_of (hst hclear)) (fun e he => Dev.has_status_report_of he 61 0)⟩
  rwa [Dev.get_report _ _ _ (by decide) (by decide) (by decide)]

theorem Dev.conditions_cool {d : Dev} {n : Nat} (hx : (d.sensor n).warn ≠ 2) (hcool : d.tMax.1 < (d.threshByte 4 0 - d.threshByte 7 0) * 256) (hold : 1 ≤ d.thm.warnLow) :
    (d.conditions n).get F.THM_STAT_WARN = 0 ∧ (d.get F.THM_STAT_WARN ≠ 0 → (d.conditions n).get F.THM_STAT_SLOW_REQ = 0) := by
  have hlow : (d.lowCounted.shutStep (d.sensor n) n).thm.warnLow = 2 := by
    rw [(Dev.heat_shutStep ..).2.1, (Dev.warnLow_lowCounted d).1, if_pos hcool]
    exact Nat.min_eq_left (by omega)
  obtain ⟨hset, hreq⟩ := Dev.warnStep_low hx hlow
  rw [(Dev.get_shutStep ..).1] at hreq
  refine ⟨Dev.conditions_last (P := fun e => e.get F.THM_STAT_WARN = 0) d n (by rwa [(Dev.get_warn_throtStep ..).1]) (fun e he => ?_), fun hwas =>
    Dev.conditions_last (P := fun e => e.get F.THM_STAT_SLOW_REQ = 0) d n (by rw [(Dev.get_warn_throtStep ..).2, hreq hwas]) (fun e he => ?_)⟩
  · rwa [Dev.get_report _ _ _ (by decide) (by decide) (by decide)]
  · rwa [Dev.get_report _ _ _ (by decide) (by decide) (by decide)]

theorem Dev.throtLow_warnStep (d : Dev) (n : Nat) (x : ThmSensor) : ((d.lowCounted.shutStep x n).warnStep x).thm.throtLow = d.lowCounted.thm.throtLow := by
  rw [Dev.thm_of_fixed (Dev.fixed_warnStep ..), (Dev.heat_shutStep ..).2.2]

theorem Dev.conditions_throttle {d : Dev} {n : Nat} (hx : (d.sensor n).throt = 2) (hhot : ¬ d.tMax.1 < (d.threshByte 5 0 - d.threshByte 7 1) * 256) :
    (d.conditions n).get F.THM_STAT_THROTTLE ≠ 0 ∧ (d.get F.THM_STAT_THROTTLE = 0 → has (d.conditions n).flt.status (fkey 60 0) = true) := by
  have hlow : ((d.lowCounted.shutStep (d.sensor n) n).warnStep (d.sensor n)).thm.throtLow ≠ 2 := by
    rw [Dev.throtLow_warnStep, (Dev.warnLow_lowCounted d).2, if_neg hhot]
    decide
  obtain ⟨hset, hst⟩ := Dev.throtStep_high hx hlow
  rw [Dev.get_throttle_warnStep, (Dev.get_shutStep ..).2] at hst
  refine ⟨Dev.conditions_last (P := fun e => e.get F.THM_STAT_THROTTLE ≠ 0) d n hset (fun e he => ?_), fun hclear =>
    Dev.conditions_last (P := fun e => has e.flt.status (fkey 60 0) = true) d n (hst hclear) (fun e he => Dev.has_status_report_of he 61 0)⟩
  rwa [Dev.get_report _ _ _ (by decide) (by decide) (by decide)]

theorem Dev.conditions_free {d : Dev} {n : Nat} (hx : (d.sensor n).throt ≠ 2) (hcool : d.tMax.1 < (d.threshByte 5 0 - d.threshByte 7 1) * 256) (hold : 1 ≤ d.thm.throtLow) :
    (d.conditions n).get F.THM_STAT_THROTTLE = 0 := by
  have hlow : ((d.lowCounted.shutStep (d.sensor n) n).warnStep (d.sensor n)).thm.throtLow = 2 := by
    rw [Dev.throtLow_warnStep, (Dev.warnLow_lowCounted d).2, if_pos hcool]
    exact Nat.min_eq_left (by omega)
  refine Dev.conditions_last (P := fun e => e.get F.THM_STAT_THROTTLE = 0) d n (Dev.throtStep_low hx hlow) (fun e he => ?_)
  rwa [Dev.get_report _ _ _ (by decide) (by decide) (by decide)]

theorem Dev.length_thermalWords (d : Dev) (n k : Nat) : (d.thermalWords n k).length = 24 := by
  simp only [Dev.thermalWords, List.length_append, List.length_map, List.length_range, List.length_cons, List.length_nil]

/-- The shutdown's latch and what the entering conversion fixes. -/
theorem Dev.conditions_shut {d : Dev} {n : Nat} (hx : (d.sensor n).shut = 2) : (d.conditions n).get F.THM_STAT_SHUT_LATCH ≠ 0 ∧ (d.get F.THM_STAT_SHUT_LATCH = 0 →
    (d.conditions n).get F.NVM_STAT_SUSPENDED = 1 ∧ (d.conditions n).gateOpen = false ∧ (d.conditions n).thm.shutAt = some d.raw ∧ (d.conditions n).thm.event.length = 24 ∧
      has (d.conditions n).flt.status (fkey 61 0) = true) := by
  have hkeep (e : Dev) (y : ThmSensor) : ((e.warnStep y).throtStep y).beyond (reactFields ++ warnFields ++ throtFields) = e.beyond (reactFields ++ warnFields ++ throtFields) := by
    rw [Dev.beyond_throtStep (by decide) (by decide), Dev.beyond_warnStep (by decide) (by decide)]
  have hlatch (e : Dev) (y : ThmSensor) : ((e.warnStep y).throtStep y).get F.THM_STAT_SHUT_LATCH = e.get F.THM_STAT_SHUT_LATCH :=
    Dev.get_of_beyond (hkeep e y) (by decide) (by decide) (by decide)
  by_cases hset : d.get F.THM_STAT_SHUT_LATCH = 0
  · have hdue : d.lowCounted.shutDue (d.sensor n) = true := by
      have hflag : d.lowCounted.flag F.THM_STAT_SHUT_LATCH = false := (Dev.flag_eq_false ..).mpr hset
      rw [Dev.shutDue, hflag, hx]
      rfl
    obtain ⟨y, z, w, hstep, hz, hzr, hw⟩ : ∃ (y : Dev) (z : Dev) (w : List Nat), d.lowCounted.shutStep (d.sensor n) n = Dev.settle y z ∧
        z = ((d.lowCounted.set F.THM_STAT_SHUT_LATCH 1).set F.NVM_STAT_SUSPENDED 1).modThm (fun t => { t with shutAt := some d.raw, event := w, ackLow := 0 }) ∧
        z.get F.THM_STAT_SHUT_LATCH = 1 ∧ w.length = 24 := by
      refine ⟨_, _, _, if_pos hdue, rfl, ?_, Dev.length_thermalWords ..⟩
      change ((d.lowCounted.set F.THM_STAT_SHUT_LATCH 1).set F.NVM_STAT_SUSPENDED 1).get F.THM_STAT_SHUT_LATCH = 1
      rw [Dev.get_set_distinct _ (by decide), Dev.get_set_self]
      rfl
    have hsettle (f : Field) (hf : f.clear safeFields = true) (h1 : 0 < f.n1) (h2 : 0 < f.n2) : (Dev.settle y z).get f = z.get f :=
      Dev.get_of_beyond (Dev.beyond_settle (List.Subset.refl _) y z) hf h1 h2
    have hthm : (Dev.settle y z).thm.shutAt = some d.raw ∧ (Dev.settle y z).thm.event = w := by
      rw [Dev.thm_of_fixed (Dev.fixed_settle y z), hz]
      exact ⟨rfl, rfl⟩
    have hcond : d.conditions n = (((Dev.settle y z).warnStep (d.sensor n)).throtStep (d.sensor n)).report 61 := by
      rw [Dev.conditions_eq, if_pos hdue, hstep]
    have hshut : (d.conditions n).get F.THM_STAT_SHUT_LATCH = 1 := by
      rw [hcond, Dev.get_report _ _ _ (by decide) (by decide) (by decide), hlatch, hsettle _ (by decide) (by decide) (by decide), hzr]
    have hsusp : (d.conditions n).get F.NVM_STAT_SUSPENDED = 1 := by
      rw [hcond, Dev.get_report _ _ _ (by decide) (by decide) (by decide), Dev.get_of_beyond (hkeep _ _) (by decide) (by decide) (by decide),
        hsettle _ (by decide) (by decide) (by decide), hz]
      exact (Dev.get_set_self (d.lowCounted.set F.THM_STAT_SHUT_LATCH 1) F.NVM_STAT_SUSPENDED 1 0 0)
    have hmonitor : (d.conditions n).thm.shutAt = some d.raw ∧ (d.conditions n).thm.event = w := by
      rw [hcond, Dev.thm_of_fixed (Dev.fixed_report ..), (Dev.thm_throtStep ..).2.1, (Dev.thm_throtStep ..).2.2, Dev.thm_of_fixed (Dev.fixed_warnStep ..)]
      exact hthm
    rw [hshut]
    refine ⟨Nat.one_ne_zero, fun _ => ⟨hsusp, ?_, hmonitor.1, hmonitor.2 ▸ hw, hcond ▸ Dev.has_status_report _ _ _ (by decide)⟩⟩
    have hflag : (d.conditions n).flag F.THM_STAT_SHUT_LATCH = true := (Dev.flag_eq_true ..).mpr (by rw [hshut]; decide)
    simp [Dev.gateOpen, hflag]
  · have hdue : d.lowCounted.shutDue (d.sensor n) = false := by
      have hflag : d.lowCounted.flag F.THM_STAT_SHUT_LATCH = true := (Dev.flag_eq_true ..).mpr hset
      rw [Dev.shutDue, hflag]
      rfl
    have hstep : d.lowCounted.shutStep (d.sensor n) n = d.lowCounted := if_neg (by simp [hdue])
    refine ⟨?_, fun h => absurd h hset⟩
    rw [Dev.conditions_eq, hdue, if_neg Bool.false_ne_true, hlatch, hstep]
    exact hset

end Sys2Proof.Machine
end


section
/-! PROOF. Sensor conversions, the throttle, the power-off of a shutdown and its acknowledgement (file 16; settles O21). -/

namespace Sys2Proof.Machine

/-! ### T_max shown (R422) -/

/-- The fields that show T_max. -/
def peakFields : List Field := [F.THM_STAT_TMAX, F.THM_STAT_MAX_SENSOR, F.THM_PEAK]

theorem Dev.showMax_cases (d : Dev) : ∃ x : Dev, x.beyond peakFields = d.beyond peakFields ∧ x.fixed = d.fixed ∧
    (d.showMax = x ∨ d.showMax = x.modThm (fun t => { t with peaked := true })) := by
  have hshown : ((d.set F.THM_STAT_TMAX (temp16 d.tMax.1)).set F.THM_STAT_MAX_SENSOR d.tMax.2).beyond peakFields = d.beyond peakFields := by
    rw [Dev.beyond_set _ _ _ _ (by decide), Dev.beyond_set _ _ _ _ (by decide)]
  simp only [Dev.showMax]
  split
  · exact ⟨_, (Dev.beyond_set _ _ _ _ (by decide) _).trans hshown, rfl, Or.inr rfl⟩
  · exact ⟨_, hshown, rfl, Or.inl rfl⟩

theorem Dev.beyond_showMax (d : Dev) : d.showMax.beyond peakFields = d.beyond peakFields := by
  obtain ⟨x, hx, -, h | h⟩ := d.showMax_cases <;> rw [h] <;> exact hx

theorem Dev.thm_showMax (d : Dev) : d.showMax.heat = d.heat ∧ d.showMax.thm.warnLow = d.thm.warnLow ∧ d.showMax.thm.throtLow = d.thm.throtLow := by
  obtain ⟨x, -, hx, h | h⟩ := d.showMax_cases
  · rw [h, Dev.heat_of_fixed hx, Dev.thm_of_fixed hx]
    exact ⟨rfl, rfl, rfl⟩
  · have hthm : x.thm = d.thm := Dev.thm_of_fixed hx
    rw [h, ← Dev.heat_of_fixed hx, ← hthm]
    exact ⟨rfl, rfl, rfl⟩

/-! ### What a conversion concludes -/

theorem Dev.threshByte_of {d e : Dev} (h : e.heat = d.heat) (n k : Nat) : e.threshByte n k = d.threshByte n k := by
  have hb : e.bond = d.bond := congrArg (fun x => x.2.1) h
  rw [Dev.threshByte, Dev.threshByte, Dev.bonded, Dev.bonded, hb]

theorem Dev.sensor_of {d e : Dev} (h : e.heat = d.heat) (n : Nat) : e.sensor n = d.sensor n := by
  have hs : e.thm.sensors = d.thm.sensors := congrArg Prod.fst h
  rw [Dev.sensor, Dev.sensor, hs]

/-- T_max shown, and the conditions after it. -/
def Dev.concluded (d : Dev) (n : Nat) : Dev := d.showMax.conditions n

theorem Dev.get_concluded (d : Dev) (n : Nat) {g : Field} (hg : g.clear heatFields = true) (hp : g.clear peakFields = true) {i j : Nat} (hi : i < g.n1)
    (hj : j < g.n2) : (d.concluded n).get g i j = d.get g i j := by
  rw [Dev.concluded, Dev.get_of_beyond (Dev.conditions_keeps ..).1 hg hi hj, Dev.get_of_beyond (Dev.beyond_showMax d) hp hi hj]

theorem Dev.heat_concluded (d : Dev) (n : Nat) : (d.concluded n).heat = d.heat := (Dev.conditions_keeps ..).2.trans (Dev.thm_showMax d).1

theorem Dev.get_showMax (d : Dev) {g : Field} (hg : g.clear peakFields = true) (hi : 0 < g.n1) (hj : 0 < g.n2) : d.showMax.get g = d.get g :=
  Dev.get_of_beyond (Dev.beyond_showMax d) hg hi hj

theorem Dev.sensor_modSensor {d : Dev} {n : Nat} (hn : n < d.thm.sensors.length) (f : ThmSensor → ThmSensor) : (d.modSensor n f).sensor n = f (d.sensor n) := by
  simp only [Dev.sensor, Dev.modSensor, Dev.modThm]
  rw [getD_setAt, if_pos ⟨rfl, hn⟩]

theorem Dev.length_modSensor (d : Dev) (n : Nat) (f : ThmSensor → ThmSensor) : (d.modSensor n f).thm.sensors.length = d.thm.sensors.length := by
  simp only [Dev.modSensor, Dev.modThm, setAt, List.length_modify]

/-! ### A conversion (R421 to R423) -/

/-- A reading t of sensor n is taken. -/
def Dev.taken (d : Dev) (n : Nat) (t : Int) : Dev := (d.set F.THM_SENS_TEMP (temp16 t) n).modSensor n (fun x => { x with temp := t, last := d.now })

/-- A reading in range clears a failure. -/
def Dev.recovers (d : Dev) (n : Nat) : Bool := d.flag F.THM_SENS_FAILED n && (d.sensor n).goods = 3

/-- A reading in range is judged against the thresholds. -/
def Dev.judged (d : Dev) (n : Nat) (t : Int) : Dev :=
  let e := if d.recovers n then d.set F.THM_SENS_FAILED 0 n else d
  e.modSensor n (fun x => { x with goods := if d.flag F.THM_SENS_FAILED n && !d.recovers n then x.goods + 1 else 0 }.count (!d.flag F.THM_SENS_FAILED n || d.recovers n) t
    (e.threshByte 4 0) (e.threshByte 5 0) (e.threshByte 6 0))

theorem Dev.convert_eq (d : Dev) (n : Nat) (raw t : Int) (ht : t = raw * 32 + signed 16 (d.get F.THM_OFS n)) : d.convert n raw =
    if t < -55 * 256 || 150 * 256 < t then (d.taken n t).sensorFail n
    else if (d.taken n t).recovers n then (((d.taken n t).judged n t).concluded n).unreport (62 + n)
    else ((d.taken n t).judged n t).concluded n := by
  rw [ht]
  rfl

theorem temp16_lt (t : Int) : temp16 t < 2 ^ 16 := by
  rw [temp16]
  split
  · rw [unsigned]
    omega
  · exact BitVec.isLt _

theorem Dev.taken_spec (d : Dev) {n : Nat} (hn : n < d.thm.sensors.length) (t : Int) :
    (d.taken n t).sensor n = { d.sensor n with temp := t, last := d.raw } ∧ (d.taken n t).get F.THM_SENS_TEMP n = temp16 t ∧
    (d.taken n t).get F.THM_SENS_FAILED n = d.get F.THM_SENS_FAILED n ∧ (d.taken n t).thm.sensors.length = d.thm.sensors.length := by
  refine ⟨Dev.sensor_modSensor hn _, ?_, ?_, Dev.length_modSensor ..⟩
  · change (d.set F.THM_SENS_TEMP (temp16 t) n).get F.THM_SENS_TEMP n = temp16 t
    rw [Dev.get_set_self]
    exact Nat.mod_eq_of_lt (temp16_lt t)
  · exact Dev.get_set_distinct d (f := F.THM_SENS_TEMP) (g := F.THM_SENS_FAILED) (by decide) ..

/-- A failing sensor: its mark, its counts and its report. -/
theorem Dev.sensorFail_spec (d : Dev) {n : Nat} (h24 : n < 24) : (d.sensorFail n).get F.THM_SENS_FAILED n = 1 ∧ has (d.sensorFail n).flt.status (fkey (62 + n) 0) = true ∧
    (d.sensorFail n).get F.THM_SENS_TEMP n = d.get F.THM_SENS_TEMP n ∧
    (n < d.thm.sensors.length → (d.sensorFail n).sensor n = { d.sensor n with goods := 0, warn := 0, throt := 0, shut := 0 }) := by
  obtain ⟨y, hy, hfail⟩ : ∃ y, y = (d.set F.THM_SENS_FAILED 1 n).modSensor n (fun x => { x with goods := 0, warn := 0, throt := 0, shut := 0 }) ∧
      d.sensorFail n = (y.concluded n).report (62 + n) := ⟨_, rfl, rfl⟩
  rw [hfail]
  refine ⟨?_, Dev.has_status_report _ _ _ (by decide), ?_, fun hn => ?_⟩
  · rw [Dev.get_report _ _ _ (by decide) h24 (by decide), Dev.get_concluded _ _ (by decide) (by decide) h24 (by decide), hy]
    exact Dev.get_set_self d F.THM_SENS_FAILED 1 n 0
  · rw [Dev.get_report _ _ _ (by decide) h24 (by decide), Dev.get_concluded _ _ (by decide) (by decide) h24 (by decide), hy]
    exact Dev.get_set_distinct d (f := F.THM_SENS_FAILED) (g := F.THM_SENS_TEMP) (by decide) 1 n 0 n 0
  · rw [Dev.sensor_of (Dev.heat_of_fixed (Dev.fixed_report ..)), Dev.sensor_of (Dev.heat_concluded ..), hy]
    exact Dev.sensor_modSensor hn _

section
variable {d : Dev} {n : Nat}

theorem Dev.judged_keeps (t : Int) : (d.judged n t).get F.THM_SENS_TEMP n = d.get F.THM_SENS_TEMP n ∧ (d.judged n t).bond = d.bond ∧ (d.judged n t).raw = d.raw ∧
    (d.judged n t).thm.warnLow = d.thm.warnLow ∧ (d.judged n t).thm.throtLow = d.thm.throtLow := by
  simp only [Dev.judged]
  split
  · exact ⟨Dev.get_set_distinct d (f := F.THM_SENS_FAILED) (g := F.THM_SENS_TEMP) (by decide) 0 n 0 n 0, rfl, rfl, rfl, rfl⟩
  · exact ⟨rfl, rfl, rfl, rfl, rfl⟩

theorem Dev.judged_sensor (hn : n < d.thm.sensors.length) (t : Int) : ((d.judged n t).sensor n).temp = (d.sensor n).temp ∧ ((d.judged n t).sensor n).last = (d.sensor n).last ∧
    ((d.judged n t).sensor n).goods = if d.flag F.THM_SENS_FAILED n && !d.recovers n then (d.sensor n).goods + 1 else 0 := by
  have hlen : n < (if d.recovers n then d.set F.THM_SENS_FAILED 0 n else d).thm.sensors.length := by split <;> exact hn
  have hsensor : (if d.recovers n then d.set F.THM_SENS_FAILED 0 n else d).sensor n = d.sensor n := by split <;> rfl
  rw [Dev.judged, Dev.sensor_modSensor hlen, hsensor]
  exact ⟨rfl, rfl, rfl⟩

/-- A sensor that has not failed has its counts of conversions at the thresholds. -/
theorem Dev.judged_good (hgood : d.get F.THM_SENS_FAILED n = 0) (t : Int) : d.recovers n = false ∧
    d.judged n t = d.modSensor n (fun x => { x with goods := 0 }.count true t (d.threshByte 4 0) (d.threshByte 5 0) (d.threshByte 6 0)) := by
  have hflag : d.flag F.THM_SENS_FAILED n = false := (Dev.flag_eq_false ..).mpr hgood
  have hrec : d.recovers n = false := by
    rw [Dev.recovers, hflag]
    rfl
  refine ⟨hrec, ?_⟩
  simp only [Dev.judged, hrec, hflag]
  rfl

end

/-- The two ways in which a reading in range ends. -/
theorem Dev.convert_range {P : Dev → Prop} {d : Dev} {n : Nat} {raw t : Int} (ht : t = raw * 32 + signed 16 (d.get F.THM_OFS n)) (hlow : -14080 ≤ t) (hhigh : t ≤ 38400)
    (hrec : (d.taken n t).recovers n = true → P ((((d.taken n t).judged n t).concluded n).unreport (62 + n)))
    (hnot : (d.taken n t).recovers n = false → P (((d.taken n t).judged n t).concluded n)) : P (d.convert n raw) := by
  rw [Dev.convert_eq d n raw t ht, if_neg (by simp; omega)]
  split
  · exact hrec ‹_›
  · exact hnot (Bool.eq_false_iff.mpr ‹_›)

theorem Dev.convert_out {d : Dev} {n : Nat} {raw t : Int} (ht : t = raw * 32 + signed 16 (d.get F.THM_OFS n)) (h : t < -14080 ∨ 38400 < t) :
    d.convert n raw = (d.taken n t).sensorFail n := by
  rw [Dev.convert_eq d n raw t ht, if_pos (by simp; omega)]

section
variable {d : Dev} {n : Nat} {raw t : Int} (h24 : n < 24) (hn : n < d.thm.sensors.length) (ht : t = raw * 32 + signed 16 (d.get F.THM_OFS n))
include h24 hn ht

theorem Dev.convert_failing (h : t < -14080 ∨ 38400 < t) : (d.convert n raw).get F.THM_SENS_FAILED n = 1 ∧ ((d.convert n raw).sensor n).goods = 0 ∧
    has (d.convert n raw).flt.status (fkey (62 + n) 0) = true := by
  obtain ⟨-, -, -, hlen⟩ := Dev.taken_spec d hn t
  obtain ⟨hfailed, hstatus, -, hsensor⟩ := Dev.sensorFail_spec (d.taken n t) h24
  rw [Dev.convert_out ht h, hsensor (hlen ▸ hn)]
  exact ⟨hfailed, rfl, hstatus⟩

/-- Whatever a conversion concludes, its reading stands. -/
theorem Dev.convert_takes : ((d.convert n raw).sensor n).temp = t ∧ ((d.convert n raw).sensor n).last = d.raw ∧ (d.convert n raw).get F.THM_SENS_TEMP n = temp16 t := by
  obtain ⟨htaken, htemp, -, hlen⟩ := Dev.taken_spec d hn t
  by_cases h : t < -14080 ∨ 38400 < t
  · obtain ⟨-, -, hget, hsensor⟩ := Dev.sensorFail_spec (d.taken n t) h24
    rw [Dev.convert_out ht h, hsensor (hlen ▸ hn), hget, htaken]
    exact ⟨rfl, rfl, htemp⟩
  · have hjudged : ((((d.taken n t).judged n t).concluded n).sensor n).temp = t ∧ ((((d.taken n t).judged n t).concluded n).sensor n).last = d.raw ∧
        (((d.taken n t).judged n t).concluded n).get F.THM_SENS_TEMP n = temp16 t := by
      obtain ⟨hjt, hjl, -⟩ := Dev.judged_sensor (d := d.taken n t) (hlen ▸ hn) t
      rw [Dev.sensor_of (Dev.heat_concluded ..), hjt, hjl, htaken, Dev.get_concluded _ _ (by decide) (by decide) h24 (by decide), (Dev.judged_keeps t).1]
      exact ⟨rfl, rfl, htemp⟩
    refine Dev.convert_range (P := fun e => (e.sensor n).temp = t ∧ (e.sensor n).last = d.raw ∧ e.get F.THM_SENS_TEMP n = temp16 t) ht (by omega) (by omega) (fun _ => ?_)
      (fun _ => hjudged)
    rw [Dev.sensor_of (Dev.heat_of_fixed (Dev.fixed_unreport ..)), Dev.get_unreport]
    exact hjudged

/-- A failed sensor counts its good readings, the fourth of which clears its failure. -/
theorem Dev.convert_recovering (hlow : -14080 ≤ t) (hhigh : t ≤ 38400) (hfailed : d.get F.THM_SENS_FAILED n ≠ 0) :
    ((d.sensor n).goods ≠ 3 → (d.convert n raw).get F.THM_SENS_FAILED n ≠ 0 ∧ ((d.convert n raw).sensor n).goods = (d.sensor n).goods + 1) ∧
    ((d.sensor n).goods = 3 → (d.convert n raw).get F.THM_SENS_FAILED n = 0 ∧ ((d.convert n raw).sensor n).goods = 0 ∧
      has (d.convert n raw).flt.det (fkey (62 + n) 0) = false) := by
  obtain ⟨htaken, -, hmark, hlen⟩ := Dev.taken_spec d hn t
  have hflag : (d.taken n t).flag F.THM_SENS_FAILED n = true := (Dev.flag_eq_true ..).mpr (hmark ▸ hfailed)
  have hrec : (d.taken n t).recovers n = decide ((d.sensor n).goods = 3) := by rw [Dev.recovers, hflag, htaken, Bool.true_and]
  have hgoods : ((((d.taken n t).judged n t).concluded n).sensor n).goods = if (d.sensor n).goods = 3 then 0 else (d.sensor n).goods + 1 := by
    rw [Dev.sensor_of (Dev.heat_concluded ..), (Dev.judged_sensor (d := d.taken n t) (hlen ▸ hn) t).2.2, hflag, hrec, htaken]
    by_cases h3 : (d.sensor n).goods = 3 <;> simp [h3]
  have hget : (((d.taken n t).judged n t).concluded n).get F.THM_SENS_FAILED n = if (d.sensor n).goods = 3 then 0 else d.get F.THM_SENS_FAILED n := by
    rw [Dev.get_concluded _ _ (by decide) (by decide) h24 (by decide), Dev.judged, hrec]
    by_cases h3 : (d.sensor n).goods = 3
    · rw [decide_eq_true h3, if_pos rfl, if_pos h3]
      exact Dev.get_set_self (d.taken n t) F.THM_SENS_FAILED 0 n 0
    · rw [decide_eq_false h3, if_neg Bool.false_ne_true, if_neg h3]
      exact hmark
  refine ⟨fun h3 => ?_, fun h3 => ?_⟩
  · refine Dev.convert_range (P := fun e => e.get F.THM_SENS_FAILED n ≠ 0 ∧ (e.sensor n).goods = (d.sensor n).goods + 1) ht hlow hhigh
      (fun hr => absurd (of_decide_eq_true (hrec ▸ hr)) h3) (fun _ => ?_)
    rw [hgoods, hget, if_neg h3, if_neg h3]
    exact ⟨hfailed, rfl⟩
  · refine Dev.convert_range (P := fun e => e.get F.THM_SENS_FAILED n = 0 ∧ (e.sensor n).goods = 0 ∧ has e.flt.det (fkey (62 + n) 0) = false) ht hlow hhigh
      (fun _ => ?_) (fun hr => absurd h3 (of_decide_eq_false (hrec ▸ hr)))
    rw [Dev.sensor_of (Dev.heat_of_fixed (Dev.fixed_unreport ..)), Dev.get_unreport, hgoods, hget, if_pos h3, if_pos h3]
    exact ⟨rfl, rfl, Dev.det_unreport ..⟩

end

/-! ### A conversion at and below the thresholds (R423, R425, R426) -/

theorem threshByte_nonneg (d : Dev) (n k : Nat) : 0 ≤ d.threshByte n k := Int.natCast_nonneg _

section
variable {d : Dev} {n : Nat} {t : Int} (h24 : n < 24) (hn : n < d.thm.sensors.length) (hgood : d.get F.THM_SENS_FAILED n = 0)
include h24 hn hgood

/-- What T_max and sensor n show before the conditions are judged. -/
theorem Dev.judged_shown {z : Dev} (hz : z = ((d.taken n t).judged n t).showMax) :
    z.sensor n = ({ d.sensor n with temp := t, last := d.raw, goods := 0 } : ThmSensor).count true t (d.threshByte 4 0) (d.threshByte 5 0) (d.threshByte 6 0) ∧
    t ≤ z.tMax.1 ∧ (∀ k j, z.threshByte k j = d.threshByte k j) ∧ z.raw = d.raw ∧ z.thm.warnLow = d.thm.warnLow ∧ z.thm.throtLow = d.thm.throtLow ∧
    (∀ g : Field, g.clear peakFields = true → g.distinct F.THM_SENS_TEMP = true → 0 < g.n1 → 0 < g.n2 → z.get g = d.get g) := by
  obtain ⟨htaken, -, hmark, hlen⟩ := Dev.taken_spec d hn t
  obtain ⟨-, hjudged⟩ := Dev.judged_good (hmark.trans hgood) t
  obtain ⟨hheat, hwarnLow, hthrotLow⟩ := Dev.thm_showMax ((d.taken n t).judged n t)
  have hbyte (k j : Nat) : (d.taken n t).threshByte k j = d.threshByte k j := rfl
  have hsensor : z.sensor n = ({ d.sensor n with temp := t, last := d.raw, goods := 0 } : ThmSensor).count true t (d.threshByte 4 0) (d.threshByte 5 0) (d.threshByte 6 0) := by
    rw [hz, Dev.sensor_of hheat, hjudged, Dev.sensor_modSensor (hlen ▸ hn), htaken, hbyte, hbyte, hbyte]
  have hjget (g : Field) : ((d.taken n t).judged n t).get g = (d.taken n t).get g := by
    rw [hjudged]
    rfl
  have hzmark : z.get F.THM_SENS_FAILED n = 0 := by
    rw [hz, Dev.get_of_beyond (Dev.beyond_showMax _) (by decide) h24 (by decide), hjudged]
    exact hmark.trans hgood
  have htemp : (z.sensor n).temp = t := by
    rw [hsensor]
    rfl
  refine ⟨hsensor, htemp ▸ Dev.le_tMax h24 hzmark, fun k j => ?_, ?_, ?_, ?_, fun g hg hd h1 h2 => ?_⟩
  · rw [hz, Dev.threshByte_of hheat, hjudged]
    rfl
  · rw [hz]
    exact (congrArg (fun x => x.2.2.1) hheat).trans (Dev.judged_keeps t).2.2.1
  · rw [hz, hwarnLow]
    exact (Dev.judged_keeps t).2.2.2.1
  · rw [hz, hthrotLow]
    exact (Dev.judged_keeps t).2.2.2.2
  · rw [hz, Dev.get_showMax _ hg h1 h2, hjget]
    exact Dev.get_set_distinct d hd ..

end

/-- What a conversion of a sensor at or above a threshold, or below the leaving levels, brings about. -/
theorem Dev.convert_judges {d : Dev} {n : Nat} {raw t : Int} (h24 : n < 24) (hn : n < d.thm.sensors.length) (ht : t = raw * 32 + signed 16 (d.get F.THM_OFS n))
    (hlow : -14080 ≤ t) (hhigh : t ≤ 38400) (hgood : d.get F.THM_SENS_FAILED n = 0) :
    (d.threshByte 4 0 * 256 ≤ t → 1 ≤ (d.sensor n).warn → (d.convert n raw).get F.THM_STAT_WARN ≠ 0 ∧
      (d.get F.THM_STAT_WARN = 0 → has (d.convert n raw).flt.status (fkey 59 0) = true)) ∧
    (d.threshByte 5 0 * 256 ≤ t → 1 ≤ (d.sensor n).throt → (d.convert n raw).get F.THM_STAT_THROTTLE ≠ 0 ∧
      (d.get F.THM_STAT_THROTTLE = 0 → has (d.convert n raw).flt.status (fkey 60 0) = true)) ∧
    (d.threshByte 6 0 * 256 ≤ t → 1 ≤ (d.sensor n).shut → (d.convert n raw).get F.THM_STAT_SHUT_LATCH ≠ 0 ∧ (d.get F.THM_STAT_SHUT_LATCH = 0 →
      (d.convert n raw).get F.NVM_STAT_SUSPENDED = 1 ∧ (d.convert n raw).gateOpen = false ∧ (d.convert n raw).thm.shutAt = some d.raw ∧
        (d.convert n raw).thm.event.length = 24 ∧ has (d.convert n raw).flt.status (fkey 61 0) = true)) ∧
    ((d.convert n raw).tMax.1 < (d.threshByte 4 0 - d.threshByte 7 0) * 256 → 1 ≤ d.thm.warnLow → (d.convert n raw).get F.THM_STAT_WARN = 0 ∧
      (d.get F.THM_STAT_WARN ≠ 0 → (d.convert n raw).get F.THM_STAT_SLOW_REQ = 0)) ∧
    ((d.convert n raw).tMax.1 < (d.threshByte 5 0 - d.threshByte 7 1) * 256 → 1 ≤ d.thm.throtLow → (d.convert n raw).get F.THM_STAT_THROTTLE = 0) := by
  obtain ⟨z, hz⟩ : ∃ z, z = ((d.taken n t).judged n t).showMax := ⟨_, rfl⟩
  have hconv : d.convert n raw = z.conditions n := by
    have hrec : (d.taken n t).recovers n = false := (Dev.judged_good ((Dev.taken_spec d hn t).2.2.1.trans hgood) t).1
    rw [hz]
    exact Dev.convert_range (P := fun e => e = ((d.taken n t).judged n t).showMax.conditions n) ht hlow hhigh (fun h => absurd h (by simp [hrec])) (fun _ => rfl)
  obtain ⟨hsensor, hmax, hbyte, hraw, hwarnLow, hthrotLow, hget⟩ := Dev.judged_shown h24 hn hgood hz
  obtain ⟨hbeyond, hheat⟩ := Dev.conditions_keeps z n
  have htmax : (z.conditions n).tMax = z.tMax :=
    Dev.tMax_of (fun k hk => Dev.get_of_beyond hbeyond (by decide) hk (by decide)) (congrArg Prod.fst hheat) (congrArg (fun x => x.2.1) hheat)
  have hw : z.get F.THM_STAT_WARN = d.get F.THM_STAT_WARN := hget _ (by decide) (by decide) (by decide) (by decide)
  have hth : z.get F.THM_STAT_THROTTLE = d.get F.THM_STAT_THROTTLE := hget _ (by decide) (by decide) (by decide) (by decide)
  have hsh : z.get F.THM_STAT_SHUT_LATCH = d.get F.THM_STAT_SHUT_LATCH := hget _ (by decide) (by decide) (by decide) (by decide)
  have h0 := threshByte_nonneg d 7 0
  have h1 := threshByte_nonneg d 7 1
  have htwo (a : Nat) (b : Int) (ha : 1 ≤ a) (hb : b * 256 ≤ t) : (if true && b * 256 ≤ t then Nat.min 2 (a + 1) else 0) = 2 := by
    rw [if_pos (by simpa using hb)]
    exact Nat.min_eq_left (by omega)
  have hzero (a : Nat) (b : Int) (hb : t < b * 256) : (if true && b * 256 ≤ t then Nat.min 2 (a + 1) else 0) ≠ 2 := by
    rw [if_neg (by simpa using hb)]
    decide
  rw [hconv, htmax, ← hw, ← hth, ← hsh, ← hwarnLow, ← hthrotLow, ← hraw, ← hbyte 4 0, ← hbyte 5 0, ← hbyte 6 0, ← hbyte 7 0, ← hbyte 7 1]
  rw [← hbyte] at h0 h1
  refine ⟨fun hhot hone => ?_, fun hhot hone => ?_, fun hhot hone => ?_, fun hcool hone => ?_, fun hcool hone => ?_⟩
  · refine Dev.conditions_warn ?_ (by omega)
    rw [hsensor, ← hbyte, ← hbyte, ← hbyte]
    exact htwo _ _ hone hhot
  · refine Dev.conditions_throttle ?_ (by omega)
    rw [hsensor, ← hbyte, ← hbyte, ← hbyte]
    exact htwo _ _ hone hhot
  · refine Dev.conditions_shut ?_
    rw [hsensor, ← hbyte, ← hbyte, ← hbyte]
    exact htwo _ _ hone hhot
  · refine Dev.conditions_cool ?_ hcool hone
    rw [hsensor, ← hbyte, ← hbyte, ← hbyte]
    exact hzero _ _ (by omega)
  · refine Dev.conditions_free ?_ hcool hone
    rw [hsensor, ← hbyte, ← hbyte, ← hbyte]
    exact hzero _ _ (by omega)

end Sys2Proof.Machine
end


section
/-! PROOF. The throttle's frame, the power-off of a shutdown and its acknowledgement (file 16; settles O21). -/

namespace Sys2Proof.Machine

/-! ### Conversions and their timeouts (R421, R422) -/

theorem gives_sensorConversion {s : State} (hon : s.dev.pwr.st = .on) (n : Sensor) (raw : BitVec 16) : Gives (.sensorConversion n raw) s (s.dev.convert n.val raw.toInt) := by
  simp only [Gives, exec, execSensorConversion, hon, if_true]
  rfl

theorem gives_sensorTimeout (s : State) (n : Sensor) : Gives (.sensorConversionTimeout n) s
    (if s.dev.pwr.st = .on && (s.dev.sensor n.val).last + 200000 ≤ s.dev.now then s.dev.sensorFail n.val else s.dev) := by
  simp only [Gives, exec, execSensorConversionTimeout]
  by_cases hc : (decide (s.dev.pwr.st = .on) && decide ((s.dev.sensor n.val).last + 200000 ≤ s.dev.now)) = true
  · rw [if_pos hc, if_pos hc]
    rfl
  · rw [if_neg hc, if_neg hc]

theorem conversions_off {s : State} (hoff : s.dev.pwr.st ≠ .on) (n : Sensor) (raw : BitVec 16) : Gives (.sensorConversion n raw) s s.dev ∧ Gives (.sensorConversionTimeout n) s s.dev := by
  refine ⟨?_, (gives_sensorTimeout s n).congr (if_neg fun h => hoff (of_decide_eq_true ((Bool.and_eq_true ..).mp h).1))⟩
  simp only [Gives, exec, execSensorConversion, if_neg hoff]

/-! ### The slow request (R425) -/

/-- The press is asked to slow down. -/
def Dev.slowAsked (d : Dev) (t : Nat) : Dev :=
  if t + d.get F.THM_THR_CFG_SLOW_MS * 1000000 ≤ d.now && !d.flag F.THM_STAT_SLOW_REQ then (d.set F.THM_STAT_SLOW_REQ 1).irq F.THM_IRQ_STAT F.THM_IRQ_EN 3 none else d

theorem gives_slowRequest {s : State} {t : Nat} (ht : s.dev.thm.throtAt = some t) : Gives .thermalSlowRequest s (s.dev.slowAsked t) := by
  simp only [Gives, exec, execThermalSlowRequest, State.onDev, ht]
  rfl

theorem Dev.slowAsked_due {d : Dev} {t : Nat} (hle : t + d.get F.THM_THR_CFG_SLOW_MS * 1000000 ≤ d.raw) (h0 : d.get F.THM_STAT_SLOW_REQ = 0) :
    (d.slowAsked t).get F.THM_STAT_SLOW_REQ = 1 ∧ (d.slowAsked t).drvSpeedLim = true ∧ ((d.slowAsked t).get F.THM_IRQ_STAT).testBit 3 = true ∧ (d.slowAsked t).thm = d.thm := by
  have hstep : d.slowAsked t = (d.set F.THM_STAT_SLOW_REQ 1).irq F.THM_IRQ_STAT F.THM_IRQ_EN 3 none :=
    if_pos ((Bool.and_eq_true ..).mpr ⟨decide_eq_true hle, by rw [(Dev.flag_eq_false ..).mpr h0]; rfl⟩)
  have hreq : (d.slowAsked t).get F.THM_STAT_SLOW_REQ = 1 := by
    rw [hstep, Dev.get_irq_ne _ _ _ _ _ _ (by decide), Dev.get_set_self]
    rfl
  refine ⟨hreq, ?_, ?_, ?_⟩
  · rw [Dev.drvSpeedLim, (Dev.flag_eq_true ..).mpr (by rw [hreq]; decide), Bool.or_true]
  · rw [hstep]
    exact Dev.get_irq_testBit _ _ _ _ _ _ (by decide)
  · rw [hstep]
    exact Dev.thm_of_fixed (Dev.fixed_irq ..)

/-! ### The power-off (R426 to R428) -/

/-- The record of a shutdown, written or reported as failed. -/
def Dev.shutRecorded (d : Dev) (ok : Bool) : Dev :=
  if ok then (d.putThermal ⟨d.get F.THM_EVT_STAT_NEXT, d.thm.event⟩).set F.THM_EVT_STAT_NEXT ((d.get F.THM_EVT_STAT_NEXT + 1) % 8)
  else d.mramFailed (0x66000 + 96 * d.get F.THM_EVT_STAT_NEXT)

/-- The part after a power-off that leaves a device. -/
def State.offAs (s : State) (e : Dev) : State := { s with dev := { e with pwr := { e.pwr with thermal := true, heldWake := none } }, audit := s.audit.afterReset false }

/-- What the power-off does while a shutdown stands since t. -/
def State.powerOffAt (s : State) (ok : Bool) (t : Nat) : State :=
  if t + 200000 ≤ s.dev.now && s.dev.pwr.st = .on then s.offAs ((s.dev.shutRecorded ok).unpowered .off) else s

theorem exec_thermalPowerOff {s : State} {t : Nat} (ht : s.dev.thm.shutAt = some t) (ok : Bool) : exec (.thermalPowerOff ok) s = .next (s.powerOffAt ok t) := by
  simp only [exec, execThermalPowerOff, ht, State.powerOffAt, State.offAs, Dev.shutRecorded]

theorem exec_thermalPowerOff_none {s : State} (ht : s.dev.thm.shutAt = none) (ok : Bool) : exec (.thermalPowerOff ok) s = .next s := by
  simp only [exec, execThermalPowerOff, ht]

theorem Dev.mram_shutRecorded (d : Dev) : (∃ r ∈ (d.shutRecorded true).mram.thermal, r.words = d.thm.event ∧ r.index = d.get F.THM_EVT_STAT_NEXT) ∧
    (d.shutRecorded false).mram = d.mram :=
  ⟨⟨_, List.mem_append_right _ (List.mem_singleton_self _), rfl, rfl⟩, Dev.mram_of_fixed (d := d) (Dev.fixed_report ..)⟩

theorem thermalPowerOff_due {s : State} {t : Nat} (ht : s.dev.thm.shutAt = some t) (hle : t + 200000 ≤ s.dev.raw) (hon : s.dev.pwr.st = .on) (ok : Bool) :
    ∃ u, exec (.thermalPowerOff ok) s = .next u ∧ u.dev.pwr.st = .off ∧ u.dev.pwr.thermal = true ∧ u.dev.pwr.heldWake = none ∧
      u.pending = s.pending ∧ u.audit.queue = [] ∧ u.audit.ring = s.audit.ring ∧
      (ok = true → ∃ r ∈ u.dev.mram.thermal, r.words = s.dev.thm.event ∧ r.index = s.dev.get F.THM_EVT_STAT_NEXT) ∧
      (ok = false → u.dev.mram.thermal = s.dev.mram.thermal) := by
  obtain ⟨hwritten, hfailed⟩ := Dev.mram_shutRecorded s.dev
  have hrun : exec (.thermalPowerOff ok) s = .next (s.offAs ((s.dev.shutRecorded ok).unpowered .off)) :=
    (exec_thermalPowerOff ht ok).trans (congrArg Host.Outcome.next (if_pos ((Bool.and_eq_true ..).mpr ⟨decide_eq_true hle, decide_eq_true hon⟩)))
  have hst := (Dev.unpowered_off (s.dev.shutRecorded ok) .off).1
  have hmram := (Dev.unpowered_spec (s.dev.shutRecorded ok) .off).2.2.2.2
  generalize (s.dev.shutRecorded ok).unpowered .off = v at hrun hst hmram
  refine ⟨_, hrun, hst, rfl, rfl, rfl, rfl, rfl, fun hok => ?_, fun hok => ?_⟩
  · subst hok
    change ∃ r ∈ v.mram.thermal, _
    rw [hmram]
    exact hwritten
  · subst hok
    exact congrArg Mram.thermal (hmram.trans hfailed)

/-! ### The acknowledgement (R429) -/

/-- The latch falls. -/
def Dev.latchFallen (d : Dev) : Dev := Dev.settle d ((d.set F.THM_STAT_SHUT_LATCH 0).set F.THM_EVT_STAT_PENDING 0)

/-- The record carries who acknowledged it. -/
def Dev.ackRecorded (e d : Dev) (rq : Requester) : Dev :=
  if d.thm.shutAt.isSome then e.modThm (fun t => { t with event := ackedWords t.event (d.rights rq) rq })
  else match d.newestThermal with
    | some r => e.putThermal ⟨r.index, ackedWords r.words (d.rights rq) rq⟩
    | none => e

theorem Dev.thermalAck_eq (d : Dev) (rq : Requester) : d.thermalAck rq =
    if d.flag F.THM_STAT_SHUT_LATCH && d.thm.ackLow = 2 then (((d.latchFallen.ackRecorded d rq).set F.THM_CMD_DONE 1).set F.THM_CMD_CODE 0).unreport 61
    else (d.set F.THM_CMD_DONE 1).set F.THM_CMD_CODE 1 := rfl

theorem Dev.get_ackRecorded (e d : Dev) (rq : Requester) {g : Field} (hg : g.distinct F.NVM_WRITES = true) : (e.ackRecorded d rq).get g = e.get g := by
  simp only [Dev.ackRecorded]
  split
  · rfl
  · split
    · exact Dev.get_bump_distinct _ hg ..
    · rfl

theorem Dev.get_latchFallen (d : Dev) : d.latchFallen.get F.THM_STAT_SHUT_LATCH = 0 ∧ d.latchFallen.get F.THM_EVT_STAT_PENDING = 0 := by
  have hkept (g : Field) (hg : g.clear safeFields = true) (hi : 0 < g.n1) (hj : 0 < g.n2) :
      d.latchFallen.get g = ((d.set F.THM_STAT_SHUT_LATCH 0).set F.THM_EVT_STAT_PENDING 0).get g :=
    Dev.get_of_beyond (Dev.beyond_settle (List.Subset.refl _) _ _) hg hi hj
  rw [hkept _ (by decide) (by decide) (by decide), hkept _ (by decide) (by decide) (by decide), Dev.get_set_distinct _ (by decide), Dev.get_set_self, Dev.get_set_self]
  exact ⟨rfl, rfl⟩

theorem Dev.thm_touch (d : Dev) (rq : Requester) : (d.touch rq).thm = d.thm := by
  obtain h | ⟨x, h⟩ := d.touch_cases rq <;> rw [h]
  cases rq <;> rfl

theorem Dev.newestThermal_touch (d : Dev) (rq : Requester) : (d.touch rq).newestThermal = d.newestThermal := by
  rw [Dev.newestThermal, Dev.newestThermal, Dev.mram_touch]

/-- An accepted acknowledgement. -/
theorem Dev.thermalAck_cool {d : Dev} (rq : Requester) (hset : d.get F.THM_STAT_SHUT_LATCH ≠ 0) (hcool : d.thm.ackLow = 2) :
    (d.thermalAck rq).get F.THM_CMD_DONE = 1 ∧ (d.thermalAck rq).get F.THM_CMD_CODE = 0 ∧ (d.thermalAck rq).get F.THM_STAT_SHUT_LATCH = 0 ∧
    (d.thermalAck rq).get F.THM_EVT_STAT_PENDING = 0 ∧ has (d.thermalAck rq).flt.det (fkey 61 0) = false ∧
    (d.thm.shutAt = none → ∀ r, d.newestThermal = some r → (⟨r.index, ackedWords r.words (d.rights rq) rq⟩ : ThermalRec) ∈ (d.thermalAck rq).mram.thermal) ∧
    (∀ t, d.thm.shutAt = some t → (d.thermalAck rq).thm.event = ackedWords d.thm.event (d.rights rq) rq ∧ (d.thermalAck rq).thm.shutAt = some t) := by
  have hflag : d.flag F.THM_STAT_SHUT_LATCH = true := (Dev.flag_eq_true ..).mpr hset
  obtain ⟨e, he, hack⟩ : ∃ e, e = d.latchFallen.ackRecorded d rq ∧ d.thermalAck rq = ((e.set F.THM_CMD_DONE 1).set F.THM_CMD_CODE 0).unreport 61 :=
    ⟨_, rfl, (Dev.thermalAck_eq d rq).trans (if_pos (by rw [hflag, hcool]; rfl))⟩
  obtain ⟨hlatch, hpending⟩ := d.get_latchFallen
  have hthm : d.latchFallen.thm = d.thm := Dev.thm_of_fixed (d := (d.set F.THM_STAT_SHUT_LATCH 0).set F.THM_EVT_STAT_PENDING 0) (Dev.fixed_settle ..)
  have hfix : (d.thermalAck rq).thm = e.thm ∧ (d.thermalAck rq).mram = e.mram := by
    have h : (d.thermalAck rq).fixed = e.fixed := hack ▸ Dev.fixed_unreport ..
    exact ⟨Dev.thm_of_fixed h, Dev.mram_of_fixed h⟩
  refine ⟨?_, ?_, ?_, ?_, hack ▸ Dev.det_unreport .., fun hnone r hr => ?_, fun t ht => ?_⟩
  · rw [hack, Dev.get_unreport, Dev.get_set_distinct _ (by decide), Dev.get_set_self]
    rfl
  · rw [hack, Dev.get_unreport, Dev.get_set_self]
    rfl
  · rw [hack, Dev.get_unreport, Dev.get_set_distinct _ (by decide), Dev.get_set_distinct _ (by decide), he, Dev.get_ackRecorded _ _ _ (by decide), hlatch]
  · rw [hack, Dev.get_unreport, Dev.get_set_distinct _ (by decide), Dev.get_set_distinct _ (by decide), he, Dev.get_ackRecorded _ _ _ (by decide), hpending]
  · rw [hfix.2, he, Dev.ackRecorded, hnone, hr]
    exact List.mem_append_right _ (List.mem_singleton_self _)
  · rw [hfix.1, he, Dev.ackRecorded, ht]
    exact ⟨congrArg (fun x : ThmSt => ackedWords x.event (d.rights rq) rq) hthm, (congrArg ThmSt.shutAt hthm).trans ht⟩

theorem thermalAck_refused {s : State} {rq : Requester} (hs : s.Ready rq 2) (h : s.dev.get F.THM_STAT_SHUT_LATCH = 0 ∨ s.dev.thm.ackLow ≠ 2) :
    GivesAudited (.thermalAck rq) s rq 0x4044 (((s.dev.set F.THM_CMD_DONE 1).set F.THM_CMD_CODE 1).touch rq) := by
  obtain ⟨old, new, hrow⟩ := State.row_audited hs (.thermalAck rq) 0x4044 1 ⟨0, some .installer⟩ (fun d => d.thermalAck rq) (by decide) (by cases rq <;> decide +kernel)
    (by decide) (by decide) (by decide)
  have hno : ¬ ((s.dev.touch rq).flag F.THM_STAT_SHUT_LATCH && (s.dev.touch rq).thm.ackLow = 2) = true := by
    rw [Bool.and_eq_true, Dev.flag_eq_true, Dev.get_touch, Dev.thm_touch, decide_eq_true_eq]
    exact fun ⟨hset, hcool⟩ => h.elim hset (· hcool)
  have hdev : (s.dev.touch rq).thermalAck rq = ((s.dev.set F.THM_CMD_DONE 1).set F.THM_CMD_CODE 1).touch rq := by
    rw [Dev.thermalAck_eq, if_neg hno, Dev.touch_set _ _ (fun r => by cases r <;> decide), Dev.touch_set _ _ (fun r => by cases r <;> decide)]
  exact ⟨old, new, hdev ▸ congrArg Host.Outcome.next hrow⟩

theorem thermalAck_accepted {s : State} {rq : Requester} (hs : s.Ready rq 2) (hset : s.dev.get F.THM_STAT_SHUT_LATCH ≠ 0) (hcool : s.dev.thm.ackLow = 2) :
    CompletesAudited (.thermalAck rq) s rq 0x4044 (fun d => d = (s.dev.touch rq).thermalAck rq ∧
      d.get F.THM_CMD_DONE = 1 ∧ d.get F.THM_CMD_CODE = 0 ∧ d.get F.THM_STAT_SHUT_LATCH = 0 ∧ d.get F.THM_EVT_STAT_PENDING = 0 ∧ has d.flt.det (fkey 61 0) = false ∧
      (s.dev.thm.shutAt = none → ∀ r, s.dev.newestThermal = some r → (⟨r.index, ackedWords r.words (s.dev.rights rq) rq⟩ : ThermalRec) ∈ d.mram.thermal) ∧
      (∀ t, s.dev.thm.shutAt = some t → d.thm.event = ackedWords s.dev.thm.event (s.dev.rights rq) rq ∧ d.thm.shutAt = some t)) := by
  obtain ⟨old, new, hrow⟩ := State.row_audited hs (.thermalAck rq) 0x4044 1 ⟨0, some .installer⟩ (fun d => d.thermalAck rq) (by decide) (by cases rq <;> decide +kernel)
    (by decide) (by decide) (by decide)
  have hspec := Dev.thermalAck_cool (d := s.dev.touch rq) rq (by rwa [Dev.get_touch]) (by rwa [Dev.thm_touch])
  rw [Dev.thm_touch, Dev.newestThermal_touch, Dev.rights_touch] at hspec
  exact ⟨_, old, new, congrArg Host.Outcome.next hrow, rfl, hspec⟩

/-! ### The record shown (R430) -/

theorem Dev.showThermal_spec (d : Dev) {k : Nat} (hk : k < 24) : d.showThermal.get F.THM_EVT_IDX = d.get F.THM_EVT_IDX ∧
    d.showThermal.get F.THM_EVT_DATA k = ((((d.mram.thermal.find? (fun r => r.index = d.get F.THM_EVT_IDX)).map (fun r => r.words)).getD []).getD k 0) % 2 ^ 32 := by
  obtain ⟨w, hw, hshow⟩ : ∃ w, w = ((d.mram.thermal.find? (fun r => r.index = d.get F.THM_EVT_IDX)).map (fun r => r.words)).getD [] ∧
      d.showThermal = (List.range 24).foldl (fun d k => d.set F.THM_EVT_DATA (w.getD k 0) k) d := by
    refine ⟨_, rfl, ?_⟩
    simp only [Dev.showThermal]
    cases d.mram.thermal.find? (fun r => r.index = d.get F.THM_EVT_IDX) <;> rfl
  rw [hshow, ← hw]
  refine ⟨foldl_keeps (fun d : Dev => d.get F.THM_EVT_IDX) _ (fun d k => Dev.get_set_ne d _ _ _ _ _ _ _ (by simp only [Field.key, Field.addr, F.THM_EVT_IDX, F.THM_EVT_DATA]; omega)) _ _, ?_⟩
  rw [Dev.get_foldl_set F.THM_EVT_DATA (fun a b h => by simp only [Field.key, Field.addr, F.THM_EVT_DATA] at h; omega), if_pos hk]
  rfl

theorem completes_thermalEventSelect {s : State} {rq : Requester} (hs : s.Ready rq 0) (w : Word) : Completes (.thermalEventSelect rq w) s (fun d =>
    d = (s.dev.set F.THM_EVT_IDX (w.toNat % 8)).showThermal ∧ d.get F.THM_EVT_IDX = w.toNat % 8 ∧
      ∀ k < 24, d.get F.THM_EVT_DATA k = ((((s.dev.mram.thermal.find? (fun r => r.index = w.toNat % 8)).map (fun r => r.words)).getD []).getD k 0) % 2 ^ 32) := by
  have hbits : bits w.toNat 0 3 = w.toNat % 8 := by simp [bits]
  have hidx : (s.dev.set F.THM_EVT_IDX (w.toNat % 8)).get F.THM_EVT_IDX = w.toNat % 8 := by
    rw [Dev.get_set_self]
    exact Nat.mod_eq_of_lt (Nat.mod_lt _ (by decide))
  have hspec := fun k (hk : k < 24) => Dev.showThermal_spec (s.dev.set F.THM_EVT_IDX (w.toNat % 8)) hk
  rw [hidx] at hspec
  refine ⟨_, (congrArg Host.Outcome.next (State.roleWrite_plain hs (.thermalEventSelect rq w) _ none _ _ (by decide) rfl rfl)).trans (by rw [hbits]; rfl), rfl, (hspec 0 (by decide)).1,
    fun k hk => (hspec k hk).2⟩

/-- Settles O21: a conversion is taken, fails or clears its sensor, and then the conditions follow T_max; the shutdown's record, its power-off and its acknowledgement. -/
theorem temperaturesAreWatched : Obligations.TemperaturesAreWatched := by
  unfold Obligations.TemperaturesAreWatched
  refine ⟨?_, fun s => ⟨rfl, fun t ht => ⟨fun hle h0 => ⟨_, gives_slowRequest ht, Dev.slowAsked_due hle h0⟩, fun hno => ?_⟩, fun hnone => ?_, fun hnone ok => ?_, fun t ht =>
    ⟨fun hno ok => ?_, fun hle hon ok => thermalPowerOff_due ht hle hon ok⟩⟩, fun rq s hs => ⟨thermalAck_refused hs, thermalAck_accepted hs⟩, fun rq s hs =>
    ⟨congrArg Host.Outcome.next (State.row_none hs (.thermalPeakClear rq) 0x4048 (2 ^ 31) ⟨31, none⟩ _ (by decide) (by cases rq <;> decide +kernel) (by decide) (by decide) (by decide)),
      completes_thermalEventSelect hs⟩⟩
  · rintro n raw s x t rfl ht hn
    refine ⟨fun hoff => conversions_off hoff n raw, fun hon => ⟨⟨_, gives_sensorConversion hon n raw, rfl, Dev.convert_takes n.isLt hn ht⟩, fun hout =>
      ⟨_, gives_sensorConversion hon n raw, Dev.convert_failing n.isLt hn ht hout⟩, fun hlow hhigh =>
      ⟨fun hfailed => ⟨_, gives_sensorConversion hon n raw, Dev.convert_recovering n.isLt hn ht hlow hhigh hfailed⟩,
        fun hgood => ⟨_, gives_sensorConversion hon n raw, Dev.convert_judges n.isLt hn ht hlow hhigh hgood⟩⟩⟩, fun hon hdue => ?_, fun hearly => ?_⟩
    · obtain ⟨hmark, hstatus, -⟩ := Dev.sensorFail_spec s.dev n.isLt
      exact ⟨_, (gives_sensorTimeout s n).congr (if_pos ((Bool.and_eq_true ..).mpr ⟨decide_eq_true hon, decide_eq_true hdue⟩)), rfl, hmark, hstatus⟩
    · exact (gives_sensorTimeout s n).congr (if_neg fun h => Nat.not_le.mpr hearly (of_decide_eq_true ((Bool.and_eq_true ..).mp h).2))
  · refine (gives_slowRequest ht).congr (if_neg fun h => ?_)
    rw [Bool.and_eq_true, Bool.not_eq_true', Dev.flag_eq_false, decide_eq_true_eq] at h
    exact hno.elim (Nat.not_lt.mpr h.1) (· h.2)
  · simp only [Gives, exec, execThermalSlowRequest, State.onDev, hnone]
  · exact exec_thermalPowerOff_none hnone ok
  · refine (exec_thermalPowerOff ht ok).trans (congrArg Host.Outcome.next (if_neg ?_))
    rw [Bool.and_eq_true, decide_eq_true_eq, decide_eq_true_eq]
    exact fun ⟨hle, hon⟩ => hno.elim (Nat.not_lt.mpr hle) (· hon)

end Sys2Proof.Machine
end


section
/-! PROOF. Raster as it arrives: bar-lines are taken, stored, refused or wait (R93, R94, R124, R125, R134 to R136; settles O41). -/

namespace Sys2Proof.Machine

/-! ### What a store to DRAM leaves -/

/-- The jobs, and the descriptors with their source reads. -/
def Dev.intake (d : Dev) := (d.jobs, d.descs, d.reads)

theorem Dev.intake_takeFlip (d : Dev) (t : Nat) : (d.takeFlip t).2.intake = d.intake := by
  simp only [Dev.takeFlip]
  split <;> rfl

theorem Dev.intake_dramWriteWord (d : Dev) (a w : Nat) : (d.dramWriteWord a w).intake = d.intake := by
  simp only [Dev.dramWriteWord]
  refine ite_keeps Dev.intake rfl ?_
  have hflip := Dev.intake_takeFlip d (d.chanAddr a).1
  rcases h : d.takeFlip (d.chanAddr a).1 with ⟨o, e⟩
  rw [h] at hflip
  cases o <;> exact hflip

theorem Dev.intake_dramWrite (d : Dev) (a : Nat) (bs : List Nat) : (d.dramWrite a bs).intake = d.intake := by
  have htouch (e : Dev) (b : Nat) : (e.touchRow b true 1).intake = e.intake := rfl
  simp only [Dev.dramWrite]
  exact (foldl_keeps Dev.intake _ (fun _ _ => Dev.intake_dramWriteWord ..) _ _).trans (foldl_keeps Dev.intake _ (fun _ _ => htouch ..) _ d)

theorem Dev.job_dramWrite (d : Dev) (a : Nat) (bs : List Nat) (k : Nat) : (d.dramWrite a bs).job k = d.job k :=
  Dev.job_of_jobs (congrArg Prod.fst (Dev.intake_dramWrite d a bs)) k

theorem Dev.job_overwrite (d : Dev) (tag b l k : Nat) : (d.overwrite tag b l).job k = d.job k := rfl

/-- Overwritten bar-lines leave each descriptor in flight. -/
theorem Dev.inFlight_overwrite (d : Dev) (tag b l ring order : Nat) : (d.overwrite tag b l).inFlight ring order = d.inFlight ring order := by
  simp only [Dev.inFlight, Dev.overwrite, List.any_map]
  refine congrArg (fun p => d.descs.any p) (funext fun x => ?_)
  simp only [Function.comp]
  split <;> rfl

theorem Dev.inFlight_dramWrite (d : Dev) (a : Nat) (bs : List Nat) (ring order : Nat) : (d.dramWrite a bs).inFlight ring order = d.inFlight ring order := by
  have hdescs : (d.dramWrite a bs).descs = d.descs := congrArg (fun x => x.2.1) (Dev.intake_dramWrite d a bs)
  rw [Dev.inFlight, Dev.inFlight, hdescs]

/-! ### The descriptor that a completion is for -/

theorem Dev.onDesc_at {d : Dev} {pre post : List Desc} {x : Desc} {r slot : Nat} {p : Desc → Bool} (hd : d.descs = pre ++ x :: post) (hr : x.ring = r) (hs : x.slot = slot)
    (hp : p x = true) (hpre : ∀ y ∈ pre, ¬ (y.ring = r ∧ y.slot = slot ∧ p y = true)) (f : Desc → Dev → Desc × Dev) :
    d.onDesc r slot p f = { (f x d).2 with descs := setAt (f x d).2.descs pre.length (fun _ => (f x d).1) } := by
  have hfind : d.descs.findIdx? (fun x => x.ring = r && x.slot = slot && p x) = some pre.length := by
    rw [hd]
    refine findIdx?_first (fun y hy => Bool.eq_false_iff.mpr fun h => ?_) ?_
    · simp only [Bool.and_eq_true, decide_eq_true_eq, and_assoc] at h
      exact hpre y hy h
    · simp [hr, hs, hp]
  have hat : d.descs[pre.length]? = some x := by simp [hd]
  simp only [Dev.onDesc, hfind, hat]

/-! ### One bar-line after the other -/

section
variable {i k : Nat} {x y : Desc} {d e : Dev}

/-- The next bar-line of a descriptor, coded or not. -/
def Dev.takeNext (d : Dev) (i : Nat) (x : Desc) : Option (Desc × Dev) := if (d.job i).ctx.compressed then d.takeCoded i x else d.takePlain i x

theorem Dev.takeLines_rest (h : x.phase ≠ .moving) : Dev.takeLines i k x d = (x, d) := by
  cases k with
  | zero => rfl
  | succ k => simp only [Dev.takeLines, if_pos h]

theorem Dev.takeLines_over (hp : x.phase = .moving) (h : x.total (d.job i).ctx ≤ x.taken) : Dev.takeLines i (k + 1) x d = ({ x with phase := .ended, got := [] }, d) := by
  simp only [Dev.takeLines, hp, ne_eq, not_true_eq_false, if_false, if_pos h]

theorem Dev.takeLines_taken (hp : x.phase = .moving) (h : x.taken < x.total (d.job i).ctx) (ht : d.takeNext i x = some (y, e)) :
    Dev.takeLines i (k + 1) x d = Dev.takeLines i k y e := by
  rw [Dev.takeNext] at ht
  simp only [Dev.takeLines, hp, ne_eq, not_true_eq_false, if_false, if_neg (Nat.not_le.mpr h), ht]

theorem Dev.takeLines_short (hp : x.phase = .moving) (h : x.taken < x.total (d.job i).ctx) (ht : d.takeNext i x = none) (hmore : x.consumed + x.got.length < x.length) :
    Dev.takeLines i (k + 1) x d = (x, d) := by
  rw [Dev.takeNext] at ht
  simp only [Dev.takeLines, hp, ne_eq, not_true_eq_false, if_false, if_neg (Nat.not_le.mpr h), ht, if_pos hmore]

end

section
variable {x y : Desc} {d e : Dev} (hp : x.phase = .moving) (h : x.taken < x.total (d.job (tagIndex x.tag)).ctx)
include hp h

theorem Dev.takeAll_short (ht : d.takeNext (tagIndex x.tag) x = none) (hmore : x.consumed + x.got.length < x.length) : Dev.takeAll x d = (x, d) :=
  Dev.takeLines_short hp h ht hmore

variable (ht : d.takeNext (tagIndex x.tag) x = some (y, e))
include ht

theorem Dev.takeAll_stops (hy : y.phase ≠ .moving) : Dev.takeAll x d = (y, e) :=
  (Dev.takeLines_taken hp h ht).trans (Dev.takeLines_rest hy)

theorem Dev.takeAll_last (hy : y.phase = .moving) (hlast : y.total (e.job (tagIndex x.tag)).ctx ≤ y.taken) : Dev.takeAll x d = ({ y with phase := .ended, got := [] }, e) :=
  (Dev.takeLines_taken hp h ht).trans (Dev.takeLines_over hy hlast)

theorem Dev.takeAll_more (hy : y.phase = .moving) (hleft : y.taken < y.total (e.job (tagIndex x.tag)).ctx) (hnone : e.takeNext (tagIndex x.tag) y = none)
    (hmore : y.consumed + y.got.length < y.length) : Dev.takeAll x d = (y, e) :=
  (Dev.takeLines_taken hp h ht).trans (Dev.takeLines_short hy hleft hnone hmore)

end

/-! ### A plain bar-line (R93, R94, R124) -/

/-- A descriptor that moves with these source bytes not yet used. -/
def Desc.with (x : Desc) (raw : List Nat) : Desc := { x with phase := .moving, got := raw }

/-- A descriptor after a bar-line of n source bytes. -/
def Desc.passed (x : Desc) (last : Bool) (n : Nat) : Desc := { x with got := [], taken := x.taken + 1, consumed := x.consumed + n, phase := if last then .ended else .moving }

section
variable {x : Desc} {d : Dev} {raw : List Nat} {b l n : Nat} {j : Job}
  (hj : j = d.job (tagIndex x.tag)) (hplace : (b, l) = x.place j.ctx x.taken) (hleft : x.taken < x.total j.ctx)
  (hplain : j.ctx.compressed = false) (hn : n = j.ctx.slot)
include hj hplace hplain hn

theorem Dev.takeNext_plain : d.takeNext (tagIndex x.tag) (x.with raw) =
    if raw.length < n then none
    else if j.past b l then some (((x.with raw).used n).failed 6, d)
    else if !j.room b l then some ({ x.with raw with phase := .room }, d)
    else some (((x.with raw).used n).wrote b l (j.slotAddr b l) n n 0 (raw.take j.ctx.rawSize), (d.overwrite x.tag b l).dramWrite (j.slotAddr b l) (raw.take j.ctx.rawSize)) := by
  have hb : b = (x.place j.ctx x.taken).1 := congrArg Prod.fst hplace
  have hl : l = (x.place j.ctx x.taken).2 := congrArg Prod.snd hplace
  rw [Dev.takeNext, ← hj, hplain, hn, hb, hl, hj]
  rfl

include hleft

theorem Dev.takeAll_plain_short (hshort : raw.length < n) (hmore : x.consumed + raw.length < x.length) : Dev.takeAll (x.with raw) d = (x.with raw, d) := by
  refine Dev.takeAll_short rfl (by rw [← show tagIndex x.tag = tagIndex (x.with raw).tag from rfl, ← hj]; exact hleft) ?_ hmore
  exact (Dev.takeNext_plain hj hplace hplain hn).trans (if_pos hshort)

theorem Dev.takeAll_plain_full (hlen : ¬ raw.length < n) (hpast : j.past b l = false) (hroom : j.room b l = false) :
    Dev.takeAll (x.with raw) d = ({ x with phase := .room, got := raw }, d) := by
  refine Dev.takeAll_stops rfl (by rw [← show tagIndex x.tag = tagIndex (x.with raw).tag from rfl, ← hj]; exact hleft) ?_ (y := { x with phase := .room, got := raw }) (by simp)
  rw [show tagIndex (x.with raw).tag = tagIndex x.tag from rfl, Dev.takeNext_plain hj hplace hplain hn, if_neg hlen, hpast, hroom]
  rfl

omit hplace in
/-- After a whole bar-line the range is done, or the next is not yet received. -/
theorem Dev.takeAll_plain_on {y : Desc} {e : Dev} (hpos : 0 < n) (hcons : x.consumed = x.taken * n) (htotal : x.length = x.total j.ctx * n)
    (ht : d.takeNext (tagIndex x.tag) (x.with raw) = some (y, e)) (hjob : e.job (tagIndex x.tag) = j)
    (hy : y.phase = .moving) (hgot : y.got = []) (htaken : y.taken = x.taken + 1) (hused : y.consumed = x.consumed + n) (hylen : y.length = x.length)
    (hytotal : y.total j.ctx = x.total j.ctx) : Dev.takeAll (x.with raw) d = ({ y with phase := if x.taken + 1 = x.total j.ctx then .ended else .moving, got := [] }, e) := by
  have hmoves : (x.with raw).taken < (x.with raw).total (d.job (tagIndex (x.with raw).tag)).ctx := hj ▸ hleft
  by_cases hlast : x.taken + 1 = x.total j.ctx
  · rw [if_pos hlast]
    refine Dev.takeAll_last rfl hmoves ht hy ?_
    rw [show tagIndex (x.with raw).tag = tagIndex x.tag from rfl, hjob, hytotal, htaken, hlast]
  · have hnext : x.taken + 1 < x.total j.ctx := by omega
    have hsame : ({ y with phase := .moving, got := [] } : Desc) = y := by
      rw [← hy, ← hgot]
    rw [if_neg hlast, hsame]
    refine Dev.takeAll_more rfl hmoves ht hy ?_ ?_ ?_
    · rw [show tagIndex (x.with raw).tag = tagIndex x.tag from rfl, hjob, hytotal, htaken]
      exact hnext
    · rw [show tagIndex (x.with raw).tag = tagIndex x.tag from rfl, Dev.takeNext, hjob, hplain, if_neg Bool.false_ne_true, Dev.takePlain, hjob, hgot, ← hn]
      exact if_pos hpos
    · rw [hgot, hylen, hused, hcons, htotal, List.length_nil, Nat.add_zero, ← Nat.succ_mul]
      exact Nat.mul_lt_mul_of_pos_right hnext hpos

theorem Dev.takeAll_plain_late (hlen : raw.length = n) (hpos : 0 < n) (hcons : x.consumed = x.taken * n) (htotal : x.length = x.total j.ctx * n) (hstatus : x.status = 0)
    (hpast : j.past b l = true) : Dev.takeAll (x.with raw) d = ({ x.passed (decide (x.taken + 1 = x.total j.ctx)) n with status := 6 }, d) := by
  have ht : d.takeNext (tagIndex x.tag) (x.with raw) = some (((x.with raw).used n).failed 6, d) := by
    rw [Dev.takeNext_plain hj hplace hplain hn, if_neg (by omega), if_pos hpast]
  rw [Dev.takeAll_plain_on hj hleft hplain hn hpos hcons htotal ht hj.symm rfl (List.drop_eq_nil_of_le (Nat.le_of_eq hlen)) rfl rfl rfl rfl]
  simp [Desc.passed, Desc.with, Desc.used, Desc.failed, hstatus]

theorem Dev.takeAll_plain_stored (hlen : raw.length = n) (hpos : 0 < n) (hcons : x.consumed = x.taken * n) (htotal : x.length = x.total j.ctx * n)
    (hpast : j.past b l = false) (hroom : j.room b l = true) : Dev.takeAll (x.with raw) d =
      ({ x.passed (decide (x.taken + 1 = x.total j.ctx)) n with
          unacked := x.unacked ++ [⟨b, l, j.slotAddr b l, n⟩], stored := x.stored + n,
          kept := x.kept ++ [{ bar := b, line := l, addr := j.slotAddr b l, bytes := raw.take j.ctx.rawSize, offset := 0 }] },
        (d.overwrite x.tag b l).dramWrite (j.slotAddr b l) (raw.take j.ctx.rawSize)) := by
  have ht : d.takeNext (tagIndex x.tag) (x.with raw) = some (((x.with raw).used n).wrote b l (j.slotAddr b l) n n 0 (raw.take j.ctx.rawSize),
      (d.overwrite x.tag b l).dramWrite (j.slotAddr b l) (raw.take j.ctx.rawSize)) := by
    rw [Dev.takeNext_plain hj hplace hplain hn, if_neg (by omega), hpast, hroom]
    rfl
  rw [Dev.takeAll_plain_on hj hleft hplain hn hpos hcons htotal ht ((Dev.job_dramWrite ..).trans hj.symm) rfl (List.drop_eq_nil_of_le (Nat.le_of_eq hlen)) rfl rfl rfl rfl]
  simp [Desc.passed, Desc.with, Desc.used, Desc.wrote]

end

/-! ### The last coded bar-line (R97, R134 to R136) -/

/-- A job's bar after a coded bar-line of n bytes took its place at o. -/
def BarJob.codedAt (y : BarJob) (flying : Nat → Nat → Bool) (l o n ring order : Nat) : BarJob :=
  BarJob.reclaim { y with
    coded := (y.coded.map (fun (c : Coded) => if c.line = l && !flying c.ring c.order then { c with released := true } else c)) ++ [⟨l, o, pad64 n, n, ring, order, false⟩],
    allocAt := o + pad64 n }

section
variable {x : Desc} {d : Dev} {raw : List Nat} {b l n h : Nat} {j : Job}
  (hj : j = d.job (tagIndex x.tag)) (hplace : (b, l) = x.place j.ctx x.taken) (hleft : x.taken < x.total j.ctx)
  (hcoded : j.ctx.compressed = true) (hraw : 4 ≤ raw.length) (hh : h = ofBytesLE (raw.take 4)) (hn : n = h % 16777216)
include hj hplace hcoded hraw hh hn

theorem Dev.takeNext_coded : d.takeNext (tagIndex x.tag) (x.with raw) =
    if bits h 28 4 ≠ 1 || n < 4 || 4 + j.ctx.rawSize + cdiv j.ctx.rawSize 64 < n then some ({ (x.with raw).failed 9 with phase := .ended, got := [] }, d)
    else if raw.length < (if x.taken + 1 = x.total j.ctx then n else Nat.min (pad4 n) (Nat.max n (x.length - x.consumed))) then none
    else
      let wrong := x.taken + 1 = x.total j.ctx && x.consumed + n ≠ x.length
      let r := d.storeCoded (tagIndex x.tag) (x.with raw) b l n (if x.taken + 1 = x.total j.ctx then n else pad4 n)
      some (if wrong && r.1.phase = .moving then ({ r.1.failed 9 with phase := .ended, got := [] }, r.2) else r) := by
  have hb : b = (x.place j.ctx x.taken).1 := congrArg Prod.fst hplace
  have hl : l = (x.place j.ctx x.taken).2 := congrArg Prod.snd hplace
  have hbits : n = bits h 0 24 := by
    rw [hn, bits, Nat.pow_zero, Nat.div_one]
    rfl
  have hnot : ¬ (x.with raw).got.length < 4 := Nat.not_lt.mpr hraw
  rw [Dev.takeNext, ← hj, hcoded, if_pos rfl, Dev.takeCoded]
  simp only [hnot, if_false]
  rw [hb, hl, hbits, hh, hj]
  rfl

include hleft

theorem Dev.takeAll_coded_bad (hstatus : x.status = 0) (hbad : h / 268435456 % 16 ≠ 1 ∨ n < 4 ∨ 4 + j.ctx.rawSize + cdiv j.ctx.rawSize 64 < n) :
    Dev.takeAll (x.with raw) d = ({ x with status := 9, phase := .ended, got := [] }, d) := by
  have hbits : bits h 28 4 = h / 268435456 % 16 := rfl
  have ht : d.takeNext (tagIndex x.tag) (x.with raw) = some ({ (x.with raw).failed 9 with phase := .ended, got := [] }, d) := by
    rw [Dev.takeNext_coded hj hplace hcoded hraw hh hn, if_pos]
    rw [hbits]
    simpa [or_assoc] using hbad
  rw [Dev.takeAll_stops rfl (by exact hj ▸ hleft) ht (by simp)]
  simp [Desc.with, Desc.failed, hstatus]

variable (hgood : h / 268435456 % 16 = 1) (hmax : n ≤ 4 + j.ctx.rawSize + cdiv j.ctx.rawSize 64) (hlast : x.taken + 1 = x.total j.ctx) (hlen : raw.length = n)
  (hend : x.consumed + n = x.length)
include hgood hmax hlast hlen hend

omit hleft in
theorem Dev.takeNext_coded_last : d.takeNext (tagIndex x.tag) (x.with raw) = some (d.storeCoded (tagIndex x.tag) (x.with raw) b l n n) := by
  have hbits : bits h 28 4 = 1 := hgood
  have hok : ¬ (bits h 28 4 ≠ 1 || n < 4 || 4 + j.ctx.rawSize + cdiv j.ctx.rawSize 64 < n) = true := by
    simp only [hbits, Bool.or_eq_true, decide_eq_true_eq]
    omega
  rw [Dev.takeNext_coded hj hplace hcoded hraw hh hn, if_neg hok, if_pos hlast, if_neg (by omega)]
  simp [hlast, hend]

theorem Dev.takeAll_coded_late (hstatus : x.status = 0) (hpast : j.past b l = true) : Dev.takeAll (x.with raw) d = ({ x.passed true n with status := 6 }, d) := by
  have ht : d.takeNext (tagIndex x.tag) (x.with raw) = some (((x.with raw).used n).failed 6, d) := by
    rw [Dev.takeNext_coded_last hj hplace hcoded hraw hh hn hgood hmax hlast hlen hend, Dev.storeCoded, ← hj, hpast]
    rfl
  rw [Dev.takeAll_last rfl (by exact hj ▸ hleft) ht rfl (by
    rw [show tagIndex (x.with raw).tag = tagIndex x.tag from rfl, ← hj]
    exact Nat.le_of_eq hlast.symm)]
  simp [Desc.passed, Desc.with, Desc.used, Desc.failed, hstatus]

theorem Dev.takeAll_coded_stored {o base : Nat} (hbase : base = (j.geo.areas.getD b {}).base) (hpast : j.past b l = false) (hrep : j.ctx.rep = false) (hroom : j.room b l = true)
    (hat : (j.bar b).place (j.geo.areas.getD b {}).size (pad64 n) = some o) : Dev.takeAll (x.with raw) d =
      ({ x.passed true n with
          unacked := x.unacked ++ [⟨b, l, base + o, n⟩], stored := x.stored + n,
          kept := x.kept ++ [{ bar := b, line := l, addr := base + o, bytes := raw, offset := o / 64 }] },
        (((d.overwrite x.tag b l).dramWrite (base + o) raw).dramWrite (j.indexAddr b l) (bytesLE 4 (o / 64) ++ bytesLE 4 n)).modBarJob (tagIndex x.tag) b
          (fun y => y.codedAt d.inFlight l o n x.ring x.order)) := by
  obtain ⟨e, he⟩ : ∃ e, e = ((d.overwrite x.tag b l).dramWrite (base + o) raw).dramWrite (j.indexAddr b l) (bytesLE 4 (o / 64) ++ bytesLE 4 n) := ⟨_, rfl⟩
  have hflying : e.inFlight = d.inFlight := funext fun ring => funext fun order => by
    rw [he, Dev.inFlight_dramWrite, Dev.inFlight_dramWrite, Dev.inFlight_overwrite]
  have ht : d.takeNext (tagIndex x.tag) (x.with raw) = some (((x.with raw).used n).wrote b l (base + o) n n (o / 64) raw,
      e.modBarJob (tagIndex x.tag) b (fun y => y.codedAt d.inFlight l o n x.ring x.order)) := by
    have htake : (x.with raw).got.take n = raw := List.take_of_length_le (Nat.le_of_eq hlen)
    rw [Dev.takeNext_coded_last hj hplace hcoded hraw hh hn hgood hmax hlast hlen hend, Dev.storeCoded, ← hj, htake, hpast, hrep, hroom, if_neg Bool.false_ne_true]
    simp only [Bool.false_eq_true, if_false, if_true, hat, ← hbase]
    rw [← hflying, he]
    rfl
  have hctx : (e.modBarJob (tagIndex x.tag) b (fun y => y.codedAt d.inFlight l o n x.ring x.order)).job (tagIndex x.tag) =
      { j with bars := setAt j.bars b (fun y => y.codedAt d.inFlight l o n x.ring x.order) } := by
    rw [Dev.job_modBarJob, if_pos rfl, he, Dev.job_dramWrite, Dev.job_dramWrite, Dev.job_overwrite, ← hj]
  rw [← he, Dev.takeAll_last rfl (by exact hj ▸ hleft) ht rfl (by
    rw [show tagIndex (x.with raw).tag = tagIndex x.tag from rfl, hctx]
    exact Nat.le_of_eq hlast.symm)]
  simp [Desc.passed, Desc.with, Desc.used, Desc.wrote]

end

/-! ### Completions, timeouts and resumed descriptors -/

/-- A completion, good or failed, that took d to e. -/
def Dev.completedBy (d e : Dev) (ok : Bool) : Dev := if !ok && e.descs ≠ d.descs then e.report 90 else e

/-- A timeout that took d to e. -/
def Dev.timedOutBy (d e : Dev) : Dev :=
  if e.descs ≠ d.descs then ({ e with pwr := { e.pwr with cfg := { e.pwr.cfg with aerUncor := e.pwr.cfg.aerUncor ||| 2 ^ 14 } } } : Dev).report 90 else e

/-- What a completion does with its descriptor. -/
def Dev.completes (ok : Bool) (data : List Byte) (x : Desc) (d : Dev) : Desc × Dev := Dev.arrive x d (fun x d =>
  if ok then
    let x := { x with got := (x.got ++ data.map (·.toNat)).take (x.asked - x.consumed) }
    Dev.takeAll x (d.answered x.ring x.order (x.consumed + x.got.length))
  else ({ x.failed 7 with phase := .ended, got := [] }, d))

theorem gives_rasterCompletion (s : State) (r : Ring) (slot : Nat) (ok : Bool) (data : List Byte) : Gives (.rasterReadCompletion r slot ok data) s
    (s.dev.completedBy (s.dev.onDesc r.val slot s.dev.awaits (Dev.completes ok data)) ok).pump := rfl

theorem gives_descriptorResume (s : State) (r : Ring) (slot : Nat) : Gives (.descriptorResume r slot) s
    (s.dev.onDesc r.val slot (fun x => x.phase = .room) (fun x d => Dev.arrive x d (fun x d => Dev.takeAll { x with phase := .moving } d))).pump := rfl

theorem gives_rasterTimeout (s : State) (r : Ring) (slot : Nat) : Gives (.rasterReadTimeout r slot) s
    (s.dev.timedOutBy (s.dev.onDesc r.val slot s.dev.awaits (fun x d => ({ x.failed 7 with phase := .ended, got := [] }, d)))).pump := rfl

/-- The completion is for the descriptor x, behind those of pre. -/
structure AwaitsFirst (d : Dev) (pre post : List Desc) (x : Desc) (r slot : Nat) : Prop where
  here : d.descs = pre ++ x :: post
  ringIs : x.ring = r
  slotIs : x.slot = slot
  moves : x.phase = .moving
  awaits : d.awaits x = true
  first : ∀ y ∈ pre, ¬ (y.ring = r ∧ y.slot = slot ∧ d.awaits y = true)

section
variable {s : State} {pre post : List Desc} {x : Desc} {r : Ring} {slot : Nat} (h : AwaitsFirst s.dev pre post x r.val slot)
include h

theorem AwaitsFirst.onDesc (f : Desc → Dev → Desc × Dev) :
    s.dev.onDesc r.val slot s.dev.awaits f = { (f x s.dev).2 with descs := setAt (f x s.dev).2.descs pre.length (fun _ => (f x s.dev).1) } :=
  Dev.onDesc_at h.here h.ringIs h.slotIs h.awaits h.first f

theorem AwaitsFirst.descs_ne (y : Desc) (hy : y.phase = .ended) : setAt s.dev.descs pre.length (fun _ => y) ≠ s.dev.descs := by
  rw [h.here, setAt_middle]
  intro he
  have hyx : y = x := (List.cons.inj (List.append_cancel_left he)).1
  rw [hyx, h.moves] at hy
  exact absurd hy (by decide)

theorem AwaitsFirst.timeout (hstatus : x.status = 0) : Gives (.rasterReadTimeout r slot) s
    (({ s.dev with
      descs := pre ++ { x with status := 7, phase := .ended, got := [] } :: post,
      pwr := { s.dev.pwr with cfg := { s.dev.pwr.cfg with aerUncor := s.dev.pwr.cfg.aerUncor ||| 16384 } } } : Dev).report 90).pump := by
  have hx : ({ x.failed 7 with phase := .ended, got := [] } : Desc) = { x with status := 7, phase := .ended, got := [] } := by simp [Desc.failed, hstatus]
  refine (gives_rasterTimeout s r slot).congr (congrArg Dev.pump ?_)
  rw [h.onDesc, hx]
  refine (if_pos (h.descs_ne { x with status := 7, phase := .ended, got := [] } rfl)).trans ?_
  rw [h.here, setAt_middle]
  rfl

theorem AwaitsFirst.failed (hstatus : x.status = 0) (hfree : (s.dev.job (x.tag % 512)).st ≠ .free) (hdrain : (s.dev.job (x.tag % 512)).st ≠ .draining) (data : List Byte) :
    Gives (.rasterReadCompletion r slot false data) s
      (({ s.dev with descs := pre ++ { x with status := 7, phase := .ended, got := [] } :: post } : Dev).report 90).pump := by
  have hx : ({ x.failed 7 with phase := .ended, got := [] } : Desc) = { x with status := 7, phase := .ended, got := [] } := by simp [Desc.failed, hstatus]
  have hdrops : s.dev.dropsFor (tagIndex x.tag) = false := by simp [Dev.dropsFor, tagIndex, hfree, hdrain]
  have hends : Dev.completes false data x s.dev = ({ x with status := 7, phase := .ended, got := [] }, s.dev) := by
    rw [Dev.completes, Dev.arrive, hdrops, ← hx]
    rfl
  refine (gives_rasterCompletion s r slot false data).congr (congrArg Dev.pump ?_)
  rw [h.onDesc, hends]
  refine (if_pos (by simpa using h.descs_ne { x with status := 7, phase := .ended, got := [] } rfl)).trans ?_
  rw [h.here, setAt_middle]

theorem AwaitsFirst.stale (hstatus : x.status = 0) (hjob : (s.dev.job (x.tag % 512)).st = .free ∨ (s.dev.job (x.tag % 512)).st = .draining) (data : List Byte) :
    Gives (.rasterReadCompletion r slot true data) s
      (({ s.dev with descs := pre ++ { x with status := 1, phase := .ended, got := [] } :: post } : Dev).bump F.SLU_STALE_CNT).pump := by
  have hx : ({ x.failed 1 with phase := .ended, got := [] } : Desc) = { x with status := 1, phase := .ended, got := [] } := by simp [Desc.failed, hstatus]
  have hdrops : s.dev.dropsFor (tagIndex x.tag) = true := by
    rw [Dev.dropsFor, Bool.or_eq_true, decide_eq_true_eq, decide_eq_true_eq]
    exact hjob
  have hends : Dev.completes true data x s.dev = ({ x with status := 1, phase := .ended, got := [] }, s.dev.bump F.SLU_STALE_CNT) := by
    rw [Dev.completes, Dev.arrive, hdrops, ← hx]
    rfl
  refine (gives_rasterCompletion s r slot true data).congr (congrArg Dev.pump ?_)
  rw [h.onDesc, hends, show (s.dev.bump F.SLU_STALE_CNT).descs = pre ++ x :: post from h.here, setAt_middle]
  rfl

end

/-- Raster that arrives for a descriptor, and room that comes for one that waits, take it on from the bytes that it holds. -/
theorem raster_goesOn {s : State} {pre post : List Desc} {x : Desc} {r : Ring} {slot : Nat} (hdescs : s.dev.descs = pre ++ x :: post) (hring : x.ring = r.val)
    (hslot : x.slot = slot) (hfree : (s.dev.job (x.tag % 512)).st ≠ .free) (hdrain : (s.dev.job (x.tag % 512)).st ≠ .draining)
    {go : State → Host.Outcome State Fault Refusal} {raw : List Nat} {d : Dev}
    (h : (x.phase = .moving ∧ s.dev.awaits x = true ∧ (∀ y ∈ pre, ¬(y.ring = r.val ∧ y.slot = slot ∧ s.dev.awaits y = true)) ∧
        d = s.dev.answered r.val x.order (x.consumed + raw.length) ∧ x.consumed + raw.length ≤ x.asked ∧
        (∃ data : List Byte, raw = x.got ++ data.map (·.toNat) ∧ go = exec (.rasterReadCompletion r slot true data))) ∨
      (x.phase = .room ∧ (∀ y ∈ pre, ¬(y.ring = r.val ∧ y.slot = slot ∧ y.phase = .room)) ∧ d = s.dev ∧ raw = x.got ∧ go = exec (.descriptorResume r slot)))
    {y : Desc} {e : Dev} (ht : Dev.takeAll (x.with raw) d = (y, e)) : go s = .next { s with dev := ({ e with descs := setAt e.descs pre.length (fun _ => y) } : Dev).pump } := by
  have hdrops : s.dev.dropsFor (tagIndex x.tag) = false := by simp [Dev.dropsFor, tagIndex, hfree, hdrain]
  rcases h with ⟨hmoves, hawaits, hfirst, hd, hasked, data, hraw, rfl⟩ | ⟨hphase, hfirst, hd, hraw, rfl⟩
  · have hfor : AwaitsFirst s.dev pre post x r.val slot := ⟨hdescs, hring, hslot, hmoves, hawaits, hfirst⟩
    have hwith : ({ x with got := (x.got ++ data.map (·.toNat)).take (x.asked - x.consumed) } : Desc) = x.with raw := by
      rw [← hraw, List.take_of_length_le (by omega), Desc.with, ← hmoves]
    have hdev : s.dev.answered (x.with raw).ring (x.with raw).order ((x.with raw).consumed + (x.with raw).got.length) = d := by
      rw [hd, ← hring]
      rfl
    have hends : Dev.completes true data x s.dev = (y, e) := by
      rw [Dev.completes, Dev.arrive, hdrops, if_neg Bool.false_ne_true, if_pos rfl, hwith]
      exact (congrArg (Dev.takeAll (x.with raw)) hdev).trans ht
    refine (gives_rasterCompletion s r slot true data).congr (congrArg Dev.pump ?_)
    rw [hfor.onDesc, hends]
    rfl
  · have hwith : ({ x with phase := .moving } : Desc) = x.with raw := by rw [hraw]; rfl
    have hon := Dev.onDesc_at (p := fun y => y.phase = .room) hdescs hring hslot (by simpa using hphase) (by simpa using hfirst)
    have hends : Dev.arrive x s.dev (fun x d => Dev.takeAll { x with phase := .moving } d) = (y, e) := by
      rw [Dev.arrive, hdrops, if_neg Bool.false_ne_true, hwith, ← hd, ht]
    refine (gives_descriptorResume s r slot).congr (congrArg Dev.pump ?_)
    rw [hon, hends]

/-- Settles O41: what arrives for a descriptor fails it, ends it as STALE, or is taken bar-line by bar-line. -/
theorem rasterIsStored : Obligations.RasterIsStored := by
  unfold Obligations.RasterIsStored
  rintro r slot s pre post x j hdescs hring hslot rfl
  refine ⟨fun hmoves hawaits hfirst => ?_, fun hfree hdrain hstatus go raw d hgo => ?_⟩
  · have hfor : AwaitsFirst s.dev pre post x r.val slot := ⟨hdescs, hring, hslot, hmoves, hawaits, hfirst⟩
    exact ⟨hfor.failed, hfor.timeout, hfor.stale⟩
  · intro after b l n hplace hleft used
    have hgoes {y : Desc} {e : Dev} (ht : Dev.takeAll (x.with raw) d = (y, e)) : after e y := raster_goesOn hdescs hring hslot hfree hdrain hgo ht
    have hj : s.dev.job (x.tag % 512) = d.job (tagIndex x.tag) := by
      rcases hgo with ⟨-, -, -, hd, -⟩ | ⟨-, -, hd, -⟩ <;> rw [hd] <;> rfl
    refine ⟨fun hplain hn => ⟨fun hshort hmore => ?_, ?_⟩, fun hcoded hraw h hh hn => ⟨fun hbad => ?_, fun hgood _ hmax hlast hlen hend => ⟨fun hpast => ?_, ?_⟩⟩⟩
    · exact hgoes (Dev.takeAll_plain_short hj hplace hleft hplain hn hshort hmore)
    · rintro hlen hpos hcons htotal last rfl
      exact ⟨fun hpast => hgoes (Dev.takeAll_plain_late hj hplace hleft hplain hn hlen hpos hcons htotal hstatus hpast),
        fun hpast hroom => hgoes (Dev.takeAll_plain_full hj hplace hleft hplain hn (by omega) hpast hroom),
        fun hpast hroom => hgoes (Dev.takeAll_plain_stored hj hplace hleft hplain hn hlen hpos hcons htotal hpast hroom)⟩
    · exact hgoes (Dev.takeAll_coded_bad hj hplace hleft hcoded hraw hh hn hstatus hbad)
    · exact hgoes (Dev.takeAll_coded_late hj hplace hleft hcoded hraw hh hn hgood hmax hlast hlen hend hstatus hpast)
    · rintro o hpast hrep hroom hat base hbase
      have hstored := Dev.takeAll_coded_stored hj hplace hleft hcoded hraw hh hn hgood hmax hlast hlen hend hbase hpast hrep hroom hat
      rw [hring] at hstored
      exact ⟨_, rfl, hgoes hstored⟩

end Sys2Proof.Machine
end


section
/-! PROOF. Accesses on the register bus: what is discarded, the MSI-X table, the fences and the reads (R12, R29, R30, R36 to R40, R80; settles O2). -/

namespace Sys2Proof.Machine

/-! ### Writes that are discarded, and the two halves of a wide one (R29, R30) -/

theorem Dev.badAcc_eq (d : Dev) : d.badAcc = d.set F.SYS_BAD_ACC_COUNT (Nat.min 67108863 (d.get F.SYS_BAD_ACC_COUNT + 1)) := by
  rw [Dev.badAcc, Dev.bump, sat_min]
  rfl

theorem State.gate_outside {addr : Nat} (h : inPages addr = false) (s : State) (rq : Requester) (cmd : Instr) (w : Nat) (run : State → State) :
    s.gate rq cmd addr w [] run = run s := by
  simp only [State.gate, h, Bool.false_and, Bool.false_eq_true, if_false]

theorem State.plainWrite_outside {addr : Nat} (h : inPages addr = false) (s : State) (rq : Requester) (cmd : Instr) (w : Nat) :
    s.plainWrite rq cmd addr w = s.onDev Dev.badAcc := by
  rw [State.plainWrite, State.gate_outside h]
  simp only [State.write, Dev.writeWord, h, Bool.not_false, Bool.true_or, if_true, Bool.false_and, Bool.false_eq_true, if_false]
  rfl

theorem State.busWord_beyond {region : Region} {a : Nat} (h : region.size ≤ a) (s : State) (rq : Requester) (be w : Nat) : s.busWord rq region a be w = s := if_pos h

theorem State.busWord_bad {region : Region} {a be : Nat} (hsize : a < region.size) (hmsix : region = .bar0 → inMsix a = false)
    (hbad : a % 4 ≠ 0 ∨ be ≠ 15 ∨ (region = .bar0 ∧ inPages a = false)) (s : State) (rq : Requester) (w : Nat) : s.busWord rq region a be w = s.onDev Dev.badAcc := by
  have hpart : a % 4 ≠ 0 ∨ be ≠ 15 → (decide (a % 4 ≠ 0) || decide (be ≠ 15)) = true := by simp
  unfold State.busWord
  rw [if_neg (Nat.not_le.mpr hsize)]
  cases region with
  | bar0 =>
    simp only [hmsix rfl, Bool.false_eq_true, if_false]
    by_cases hp : a % 4 ≠ 0 ∨ be ≠ 15
    · exact if_pos (hpart hp)
    · rw [if_neg (by simpa using hp)]
      exact State.plainWrite_outside ((hbad.resolve_left fun h => hp (Or.inl h)).resolve_left fun h => hp (Or.inr h)).2 s rq _ w
  | bar2 => exact if_pos (hpart (hbad.imp id (fun h => h.resolve_right fun h => absurd h.1 (by decide))))

theorem exec_registerWrite_narrow {a : BusAccess} (h : a.wide = false) (s : State) :
    exec (.registerWrite a) s = .next (s.busWord a.rq a.region a.addr (a.be.toNat % 16) (a.data.toNat % 4294967296)) := by
  simp only [exec, execRegisterWrite, h, Bool.false_eq_true, if_false]

theorem exec_registerWrite_wide {a : BusAccess} (h : a.wide = true) (s : State) : exec (.registerWrite a) s =
    if a.addr % 8 ≠ 0 then .next (s.onDev Dev.badAcc)
    else .next ((s.busWord a.rq a.region a.addr (a.be.toNat % 16) (a.data.toNat % 4294967296)).busWord a.rq a.region (a.addr + 4) (a.be.toNat / 16)
      (a.data.toNat / 4294967296)) := by
  simp only [exec, execRegisterWrite, h, if_true]

theorem registerWrite_halves {a : BusAccess} (hwide : a.wide = true) (halign : a.addr % 8 = 0) (s : State) :
    ∃ t u, exec (.registerWrite { a with wide := false, be := BitVec.ofNat 8 (a.be.toNat % 16), data := BitVec.ofNat 64 (a.data.toNat % 4294967296) }) s = .next t ∧
      exec (.registerWrite { a with addr := a.addr + 4, wide := false, be := BitVec.ofNat 8 (a.be.toNat / 16), data := BitVec.ofNat 64 (a.data.toNat / 4294967296) }) t
        = .next u ∧ exec (.registerWrite a) s = .next u := by
  have hbe := a.be.isLt
  have hdata := a.data.isLt
  have hlo : (BitVec.ofNat 8 (a.be.toNat % 16)).toNat % 16 = a.be.toNat % 16 := by rw [BitVec.toNat_ofNat]; omega
  have hhi : (BitVec.ofNat 8 (a.be.toNat / 16)).toNat % 16 = a.be.toNat / 16 := by rw [BitVec.toNat_ofNat]; omega
  have hlow : (BitVec.ofNat 64 (a.data.toNat % 4294967296)).toNat % 4294967296 = a.data.toNat % 4294967296 := by rw [BitVec.toNat_ofNat]; omega
  have hhigh : (BitVec.ofNat 64 (a.data.toNat / 4294967296)).toNat % 4294967296 = a.data.toNat / 4294967296 := by rw [BitVec.toNat_ofNat]; omega
  refine ⟨_, _, exec_registerWrite_narrow rfl s, exec_registerWrite_narrow rfl _, ?_⟩
  rw [exec_registerWrite_wide hwide, if_neg (not_not.mpr halign), hlo, hhi, hlow, hhigh]

/-! ### The MSI-X table (R80) -/

theorem mergeBytes_all (old : Nat) {w : Nat} (h : w < 2 ^ 32) : mergeBytes old w 15 = w := by
  have hbytes : (List.range 4).map (fun k => if Nat.testBit 15 k then bits w (8 * k) 8 else bits old (8 * k) 8) = bytesLE 4 w := by
    simp [List.range_succ, Nat.testBit, bits, bytesLE, Nat.div_div_eq_div_mul]
  rw [mergeBytes, hbytes, ofBytesLE_bytesLE]
  exact Nat.mod_eq_of_lt h

/-- A vector of the MSI-X table replaced. -/
def Dev.putMsix (d : Dev) (v : Nat) (e : Msix) : Dev := { d with pwr := { d.pwr with msix := setAt d.pwr.msix v (fun _ => e) } }

section
variable (d : Dev) (v : Nat) {w : Nat} (hw : w < 2 ^ 32)
include hw

theorem Dev.writeMsix_low : d.writeMsix (0x2000000 + 16 * v) w 15 = d.putMsix v { d.pwr.msix.getD v {} with addrLo := w / 4 * 4 } := by
  have hv : (0x2000000 + 16 * v - 0x2000000) / 16 = v := by omega
  have hk : (0x2000000 + 16 * v) % 16 / 4 = 0 := by omega
  simp only [Dev.writeMsix, hv, hk, mergeBytes_all _ hw]
  rfl

theorem Dev.writeMsix_high : d.writeMsix (0x2000004 + 16 * v) w 15 = d.putMsix v { d.pwr.msix.getD v {} with addrHi := w } := by
  have hv : (0x2000004 + 16 * v - 0x2000000) / 16 = v := by omega
  have hk : (0x2000004 + 16 * v) % 16 / 4 = 1 := by omega
  simp only [Dev.writeMsix, hv, hk, mergeBytes_all _ hw]
  rfl

theorem Dev.writeMsix_data : d.writeMsix (0x2000008 + 16 * v) w 15 = d.putMsix v { d.pwr.msix.getD v {} with data := w } := by
  have hv : (0x2000008 + 16 * v - 0x2000000) / 16 = v := by omega
  have hk : (0x2000008 + 16 * v) % 16 / 4 = 2 := by omega
  simp only [Dev.writeMsix, hv, hk, mergeBytes_all _ hw]
  rfl

theorem Dev.writeMsix_mask (h : w % 2 = 1 ∨ (d.pwr.msix.getD v {}).masked = false) :
    d.writeMsix (0x200000C + 16 * v) w 15 = d.putMsix v { d.pwr.msix.getD v {} with masked := decide (w % 2 = 1) } := by
  have hv : (0x200000C + 16 * v - 0x2000000) / 16 = v := by omega
  have hk : (0x200000C + 16 * v) % 16 / 4 = 3 := by omega
  have hbit : bit w 0 = decide (w % 2 = 1) := by rw [bit, Nat.testBit_zero]
  have hsend : ¬ ((d.pwr.msix.getD v {}).masked && !decide (w % 2 = 1)) = true := by
    rw [Bool.and_eq_true, Bool.not_eq_true', decide_eq_false_iff_not]
    rintro ⟨hm, hno⟩
    rcases h with h | h
    · exact hno h
    · rw [h] at hm
      cases hm
  simp only [Dev.writeMsix, hv, hk, mergeBytes_all _ hw, hbit, if_neg hsend]
  rfl

end

theorem registerWrite_msix {s : State} (hon : s.dev.pwr.st = .on) {be : BitVec 8} (hbe : be.toNat % 16 = 15) (rq : Requester) {a : Nat} (halign : a % 4 = 0)
    (hlow : 0x2000000 ≤ a) (hhigh : a < 0x2000400) (data : BitVec 64) :
    Gives (.registerWrite ⟨rq, .bar0, a, be, false, data⟩) s (s.dev.writeMsix a (data.toNat % 4294967296) 15) := by
  have hsize : ¬ Region.size .bar0 ≤ a := by rw [Region.size]; omega
  have hmsix : inMsix a = true := by simp [inMsix]; omega
  have hword : a / 4 * 4 = a := by omega
  refine (exec_registerWrite_narrow rfl s).trans (congrArg Host.Outcome.next ?_)
  simp only [State.busWord, if_neg hsize, hmsix, if_true, hbe, hword, State.onDev, hon, decide_true, Bool.true_and, decide_eq_true hhigh]

/-! ### Fences (R39, R40) -/

theorem State.outstanding_iff (s : State) (rq : Requester) (page : Option Nat) : s.outstanding rq page = true ↔ s.Outstanding rq page := by
  simp only [State.outstanding, Bool.or_eq_true, List.any_eq_true, Bool.and_eq_true, decide_eq_true_eq]
  cases page with
  | none => simp [State.Outstanding]
  | some p => simp [State.Outstanding, eq_comm]

theorem State.fenceRead_now {s : State} {rq : Requester} {page : Option Nat} (h : ¬ s.Outstanding rq page) : s.fenceRead rq page = s.onDev (fun d => d.emit (.fence rq page)) :=
  if_neg fun ho => h ((s.outstanding_iff rq page).mp ho)

theorem State.fenceRead_later {s : State} {rq : Requester} {page : Option Nat} (h : s.Outstanding rq page) :
    s.fenceRead rq page = s.onDev (fun d => { d with fences := d.fences ++ [⟨rq, page⟩] }) := if_pos ((s.outstanding_iff rq page).mpr h)

theorem fenceReturn_first {rq : Requester} {s : State} {f : FenceRead} {before rest : List FenceRead} (hf : s.dev.fences = before ++ f :: rest) (hrq : f.rq = rq)
    (hfree : ¬ s.Outstanding rq f.page) (hbefore : ∀ g ∈ before, g.rq = rq → s.Outstanding rq g.page) :
    Gives (.fenceReturn rq) s (({ s.dev with fences := before ++ rest } : Dev).emit (.fence rq f.page)) := by
  have hno (g : FenceRead) (hg : g ∈ before) : (g.rq = rq && !s.outstanding rq g.page) = false := by
    refine Bool.eq_false_iff.mpr fun h => ?_
    rw [Bool.and_eq_true, decide_eq_true_eq, Bool.not_eq_true', Bool.eq_false_iff] at h
    exact h.2 ((s.outstanding_iff rq g.page).mpr (hbefore g hg h.1))
  have hfind : s.dev.fences.find? (fun f => f.rq = rq && !s.outstanding rq f.page) = some f := by
    have hyes : (f.rq = rq && !s.outstanding rq f.page) = true := by
      rw [Bool.and_eq_true, decide_eq_true_eq, Bool.not_eq_true', Bool.eq_false_iff]
      exact ⟨hrq, fun h => hfree ((s.outstanding_iff rq f.page).mp h)⟩
    rw [hf, List.find?_append, List.find?_eq_none.mpr (fun g hg => by simp [hno g hg]), List.find?_cons, hyes]
    rfl
  have hnew : f ∉ before := fun h => hfree (hbefore f h hrq)
  have herase : s.dev.fences.erase f = before ++ rest := by rw [hf, List.erase_append_right _ hnew, List.erase_cons_head]
  simp only [Gives, exec, execFenceReturn, hfind, State.onDev, herase, hrq]

theorem fenceReturn_none {rq : Requester} {s : State} (h : ∀ g ∈ s.dev.fences, g.rq = rq → s.Outstanding rq g.page) : Gives (.fenceReturn rq) s s.dev := by
  have hfind : s.dev.fences.find? (fun f => f.rq = rq && !s.outstanding rq f.page) = none := by
    refine List.find?_eq_none.mpr fun g hg hyes => ?_
    rw [Bool.and_eq_true, decide_eq_true_eq, Bool.not_eq_true', Bool.eq_false_iff] at hyes
    exact hyes.2 ((s.outstanding_iff rq g.page).mpr (h g hg hyes.1))
  simp only [Gives, exec, execFenceReturn, hfind]

/-! ### Reads (R12, R38) -/

theorem selectBytes_zero (be : Nat) : selectBytes be 0 = 0 := by
  have hzeros : (List.range 4).map (fun k => if be.testBit k then bits 0 (8 * k) 8 else bits 0 (8 * k) 8) = [0, 0, 0, 0] := by simp [List.range_succ, bits]
  rw [selectBytes, mergeBytes, hzeros]
  rfl

theorem inPages_low {a : Nat} (h : inPages a = true) : a < 0x10C0000 := by
  simp only [inPages, Bool.or_eq_true, Bool.and_eq_true, decide_eq_true_eq] at h
  omega

/-- A read of one word of BAR0. -/
theorem State.busRead_bar0 (s : State) (rq : Requester) {a : Nat} (hsize : a < 0x4000000) (halign : a % 4 = 0) (be : BitVec 8) :
    s.busRead ⟨rq, .bar0, a, be, false⟩ = (s.readBar0 rq a).map (fun r => (selectBytes (be.toNat % 16) r.1, r.2)) := by
  have hword : a / 4 * 4 = a := by omega
  have hin : ¬ Region.size .bar0 ≤ a := Nat.not_le.mpr hsize
  simp only [State.busRead, Bool.false_eq_true, if_false, State.readOne, if_neg hin, hword]

theorem busRead_outside (s : State) (rq : Requester) {a : Nat} (be : BitVec 8) (halign : a % 4 = 0) (hsize : a < 0x4000000) (hmsix : inMsix a = false) (hpage : inPages a = false) :
    s.busRead ⟨rq, .bar0, a, be, false⟩ = some (0, s.onDev Dev.badAcc) := by
  rw [State.busRead_bar0 s rq hsize halign, State.readBar0, hmsix, hpage]
  simp [selectBytes_zero]

/-- A read of a word of an open page that is no fence. -/
theorem State.readBar0_open {s : State} (hopen : s.PagesOpen) (rq : Requester) {a : Nat} (hpage : inPages a = true) (hfence : a % 0x1000 ≠ 0x28) : s.readBar0 rq a =
    if s.readWaits rq a then none
    else some (s.readWord rq a, if 0x2300 ≤ a && a < 0x2400 then (s.latchFrom rq a).onDev (fun d => d.voteCask ((a - 0x2300) / 4)) else s.latchFrom rq a) := by
  have hmsix : inMsix a = false := by
    have := inPages_low hpage
    simp [inMsix]
    omega
  simp only [State.readBar0, hmsix, hpage, Dev.pageOpen_of hopen.1 hopen.2, Bool.false_eq_true, if_false, Bool.not_true, Bool.or_self, if_neg hfence]

theorem busRead_waits {s : State} (hopen : s.PagesOpen) (rq : Requester) {a : Nat} (be : BitVec 8) (halign : a % 4 = 0) (hpage : inPages a = true) (hfence : a % 0x1000 ≠ 0x28)
    (hbehind : ∃ y ∈ s.audit.stalled, y.1 = rq ∧ y.2.1 = a / 0x1000) : s.busRead ⟨rq, .bar0, a, be, false⟩ = none := by
  have hwaits : s.readWaits rq a = true := by
    obtain ⟨y, hy, hrq, hp⟩ := hbehind
    exact List.any_eq_true.mpr ⟨y, hy, by simp [hrq, hp, pageOf]⟩
  have hlow := inPages_low hpage
  rw [State.busRead_bar0 s rq (by omega) halign, State.readBar0_open hopen rq hpage hfence, hwaits]
  rfl

/-! ### The time's two words (R12) -/

theorem RegFile.find_latched (r : RegFile) (a v : Nat) : (if v = 0 then r.drop a else (r.drop a).put a v : RegFile).find a = if v = 0 then none else some v := by
  split
  · exact RegFile.find_drop_self a r
  · exact RegFile.find_put_self a v _ (RegFile.find_drop_self a r)

theorem Dev.latched_self (d : Dev) (a v : Nat) : ((d.latchWord a v).latches.find a).getD 0 = v := by
  rw [Dev.latchWord]
  change ((if v = 0 then d.latches.drop a else (d.latches.drop a).put a v : RegFile).find a).getD 0 = v
  rw [RegFile.find_latched]
  split
  · exact (‹v = 0›).symm
  · rfl

theorem Dev.latched_ne {a b : Nat} (h : b ≠ a) (d : Dev) (v : Nat) : (d.latchWord a v).latches.find b = d.latches.find b := by
  rw [Dev.latchWord]
  change (if v = 0 then d.latches.drop a else (d.latches.drop a).put a v : RegFile).find b = d.latches.find b
  split
  · exact RegFile.find_drop_ne h _
  · rw [RegFile.find_put_ne h, RegFile.find_drop_ne h]

/-- No stored field lies in the words of the time. -/
theorem liveWord_time (s : State) (rq : Requester) : s.liveWord rq 0xD0060 = s.dev.T % 4294967296 ∧ s.liveWord rq 0xD0064 = s.dev.T / 4294967296 := by
  have hT : s.dev.T < 2 ^ 64 := Nat.mod_lt _ (by decide)
  have hcanon (a : Nat) (h : a = 0xD0060 ∨ a = 0xD0064) : canonAddr rq a = a ∧ fieldsAt a = [] := by
    rcases h with rfl | rfl <;> exact ⟨by cases rq <;> rfl, by decide +kernel⟩
  have hword (a : Nat) (h : a = 0xD0060 ∨ a = 0xD0064) : s.dev.word (canonAddr rq a) = 0 := by
    rw [(hcanon a h).1, Dev.word, (hcanon a h).2]
    rfl
  have hlow : s.liveWord rq 0xD0060 = s.dev.word (canonAddr rq 0xD0060) + half 0 (s.dev.T % 2 ^ 64) := rfl
  have hhigh : s.liveWord rq 0xD0064 = s.dev.word (canonAddr rq 0xD0064) + half 1 (s.dev.T % 2 ^ 64) := rfl
  rw [hlow, hhigh, hword _ (Or.inl rfl), hword _ (Or.inr rfl), Nat.mod_eq_of_lt hT]
  exact ⟨Nat.zero_add _, Nat.zero_add _⟩

theorem State.readWaits_time {s : State} {rq : Requester} {a : Nat} (ha : pageOf a = 0xD0) (h : ∀ y ∈ s.audit.stalled, y.1 = rq → y.2.1 ≠ 0xD0) : s.readWaits rq a = false := by
  refine Bool.eq_false_iff.mpr fun hw => ?_
  obtain ⟨y, hy, hyes⟩ := List.any_eq_true.mp hw
  rw [Bool.and_eq_true, decide_eq_true_eq, decide_eq_true_eq, ha] at hyes
  exact h y hy hyes.1 hyes.2

/-- A read of TB_TIME's low word answers it, and a later read of the high word answers what it latched. -/
theorem busRead_time {s : State} (hopen : s.PagesOpen) (rq : Requester) (hfree : ∀ y ∈ s.audit.stalled, y.1 = rq → y.2.1 ≠ 0xD0) :
    ∃ t, s.busRead ⟨rq, .bar0, 0xD0060, 15, false⟩ = some (s.dev.T % 4294967296, t) ∧
      ∀ (rq' : Requester) (u : State), u.PagesOpen → (∀ y ∈ u.audit.stalled, y.1 = rq' → y.2.1 ≠ 0xD0) → u.dev.latches = t.dev.latches →
        u.busRead ⟨rq', .bar0, 0xD0064, 15, false⟩ = some (s.dev.T / 4294967296, u) := by
  have hT : s.dev.T < 2 ^ 64 := Nat.mod_lt _ (by decide)
  obtain ⟨hlow, hhigh⟩ := liveWord_time s rq
  have hread : s.readWord rq 0xD0060 = s.dev.T % 4294967296 := by
    have hlatched : isLatched 0xD0060 = false := by decide
    rw [State.readWord, Dev.pageOpen_of hopen.1 hopen.2, hlatched]
    exact hlow
  refine ⟨s.latchFrom rq 0xD0060, ?_, fun rq' u huopen hufree hlatches => ?_⟩
  · rw [State.busRead_bar0 s rq (by decide) (by decide), State.readBar0_open hopen rq (by decide) (by decide), State.readWaits_time (by decide) hfree, hread]
    simp only [Bool.false_eq_true, if_false, Option.map_some]
    exact congrArg some (Prod.ext (mergeBytes_all 0 (Nat.mod_lt _ (by decide))) rfl)
  · have hkept : ((s.latchFrom rq 0xD0060).dev.latches.find 0xD0064).getD 0 = s.dev.T / 4294967296 := by
      obtain ⟨v, hv⟩ : ∃ v, (s.latchFrom rq 0xD0060).dev = (s.dev.latchWord 0xD0064 (s.liveWord rq 0xD0064)).latchWord 0xD0068 v := ⟨_, rfl⟩
      rw [hv, Dev.latched_ne (by decide), Dev.latched_self, hhigh]
    have hword : u.readWord rq' 0xD0064 = s.dev.T / 4294967296 := by
      have hlatched : isLatched 0xD0064 = true := by decide
      rw [State.readWord, Dev.pageOpen_of huopen.1 huopen.2, hlatched, hlatches, ← hkept]
      rfl
    have hstays : u.latchFrom rq' 0xD0064 = u := rfl
    rw [State.busRead_bar0 u rq' (by decide) (by decide), State.readBar0_open huopen rq' (by decide) (by decide), State.readWaits_time (by decide) hufree, hword]
    simp only [Bool.false_eq_true, if_false, Option.map_some, hstays]
    exact congrArg some (Prod.ext (mergeBytes_all 0 (by omega)) rfl)

theorem gives_sysBadAccClear {rq : Requester} {s : State} (h : s.Ready rq 0) : Gives (.sysBadAccClear rq) s (s.dev.set F.SYS_BAD_ACC_COUNT 0) := by
  have hacts := State.acts_of h 0x44 (2 ^ 31) ⟨31, none⟩ (by decide) (by decide)
  simp only [Gives, exec, execSysBadAccClear]
  rw [State.gate_run h.2.1 _ _ _ _ _ _ 0 (by decide), hacts, if_pos rfl]
  rfl

/-- Settles O2: what is discarded, the halves of a wide write, the MSI-X table, the fences and the reads of the bus. -/
theorem accessesAreCheckedAndFenced : Obligations.AccessesAreCheckedAndFenced := by
  unfold Obligations.AccessesAreCheckedAndFenced
  refine ⟨⟨fun a s hnarrow hsize hmsix hbad => ?_, fun a s hnarrow hsize => ?_, fun a s hwide halign => ?_, fun a s hwide halign => registerWrite_halves hwide halign s⟩,
    fun rq v be data s hon hbe => ?_,
    ⟨fun rq s h => gives_sysBadAccClear h, fun rq page s h => congrArg Host.Outcome.next (State.fenceRead_now h), fun rq page s h => congrArg Host.Outcome.next (State.fenceRead_later h),
      fun rq s h => congrArg Host.Outcome.next (State.fenceRead_now h), fun rq s h => congrArg Host.Outcome.next (State.fenceRead_later h),
      fun rq s f before rest => fenceReturn_first, fun rq s => fenceReturn_none⟩,
    ⟨fun x s hnarrow hsize => ?_, fun rq a be s halign hsize hmsix hpage => ?_, fun rq a be s hopen halign hpage hfence => busRead_waits hopen rq be halign hpage hfence,
      fun rq s hopen => busRead_time hopen rq⟩⟩
  · rw [← Dev.badAcc_eq]
    exact (exec_registerWrite_narrow hnarrow s).trans (congrArg Host.Outcome.next (State.busWord_bad hsize hmsix hbad s a.rq _))
  · exact (exec_registerWrite_narrow hnarrow s).trans (congrArg Host.Outcome.next (State.busWord_beyond hsize ..))
  · rw [← Dev.badAcc_eq]
    exact (exec_registerWrite_wide hwide s).trans (if_pos halign)
  · have hv := v.isLt
    have hw : data.toNat % 4294967296 < 2 ^ 32 := Nat.mod_lt _ (by decide)
    intro put e
    refine ⟨(registerWrite_msix hon hbe rq (by omega) (by omega) (by omega) data).congr (Dev.writeMsix_low s.dev v.val hw),
      (registerWrite_msix hon hbe rq (by omega) (by omega) (by omega) data).congr (Dev.writeMsix_high s.dev v.val hw),
      (registerWrite_msix hon hbe rq (by omega) (by omega) (by omega) data).congr (Dev.writeMsix_data s.dev v.val hw), fun hmask => ?_⟩
    have hodd : data.toNat % 4294967296 % 2 = data.toNat % 2 := by omega
    have hrow := Dev.writeMsix_mask s.dev v.val hw (by rw [hodd]; exact hmask)
    rw [hodd] at hrow
    exact (registerWrite_msix hon hbe rq (by omega) (by omega) (by omega) data).congr hrow
  · simp only [State.busRead, hnarrow, Bool.false_eq_true, if_false, State.readOne, if_pos hsize]
  · rw [← Dev.badAcc_eq]
    exact busRead_outside s rq be halign hsize hmsix hpage

end Sys2Proof.Machine
end


section
/-! PROOF. The register words of a head port: the same fields for each port (file 08, R31, R44, R259, R265). -/

namespace Sys2Proof.Machine

/-- Has a field one instance for each port, within the first words of its page. -/
def Field.perPort (f : Field) : Bool :=
  f.n1 = 192 && f.s1 = 0x1000 && 0x1000000 ≤ f.base && f.base < 0x1000100 && f.n2 ≤ 8 && (f.n2 ≤ 1 || f.s2 = 4)

theorem fieldsHlk_perPort : fieldsHlk.all Field.perPort = true := by decide +kernel

theorem pageFields_hlkAddr {p o : Nat} (hp : p < 192) (ho : o < 0x1000) : pageFields (hlkAddr p o) = fieldsHlk := by
  have hlo : 0x1000000 ≤ hlkAddr p o := by
    rw [hlkAddr]
    omega
  have hhi : hlkAddr p o < 0x10C0000 := by
    rw [hlkAddr]
    omega
  generalize hlkAddr p o = a at hlo hhi
  have hlast : (decide (0x1000000 ≤ a) && decide (a < 0x10C0000)) = true := (Bool.and_eq_true ..).mpr ⟨decide_eq_true hlo, decide_eq_true hhi⟩
  have hrole : ¬ (decide (a < 0x2000) || decide (0x100000000 ≤ a)) = true := by
    rw [Bool.or_eq_true, decide_eq_true_eq, decide_eq_true_eq]
    omega
  have hnot (n : Nat) (hn : n ≤ 0x1000000) : ¬ a < n := Nat.not_lt.mpr (Nat.le_trans hn hlo)
  unfold pageFields
  simp (disch := decide) only [if_neg (hnot _ _), if_neg hrole, if_pos hlast]

/-- The index within a port and the part of a field that stand a distance after its address. -/
def Field.inPort (f : Field) (r : Nat) : Option (Nat × Nat) :=
  let j := if f.n2 ≤ 1 then 0 else r / f.s2
  let r := if f.n2 ≤ 1 then r else r % f.s2
  if j < f.n2 && (r = 0 || (r = 4 && 32 < f.lo + f.width)) then some (j, r / 4) else none

/-- Beyond its instances in a port a field has none. -/
theorem Field.inPort_far {f : Field} (hn2 : f.n2 ≤ 8) (hs2 : f.n2 ≤ 1 ∨ f.s2 = 4) {r : Nat} (hr : 32 ≤ r) : f.inPort r = none := by
  refine if_neg fun h => ?_
  rw [Bool.and_eq_true, Bool.or_eq_true, Bool.and_eq_true, decide_eq_true_eq, decide_eq_true_eq, decide_eq_true_eq] at h
  obtain hone | h4 := hs2
  · simp only [if_pos hone] at h
    omega
  · by_cases hone : f.n2 ≤ 1
    · simp only [if_pos hone] at h
      omega
    · simp only [if_neg hone, h4] at h
      omega

theorem Field.instAt_port {f : Field} (hf : f.perPort = true) {q o : Nat} (hq : q < 192) (ho : o < 0x1000) :
    f.instAt (hlkAddr q o) = (if f.base ≤ 0x1000000 + o then f.inPort (0x1000000 + o - f.base) else none).map (fun x => (q, x)) := by
  simp only [Field.perPort, Bool.and_eq_true, Bool.or_eq_true, decide_eq_true_eq] at hf
  obtain ⟨⟨⟨⟨⟨hn1, hs1⟩, hlo⟩, hhi⟩, hn2⟩, hs2⟩ := hf
  have hat {i r : Nat} (hbase : f.base ≤ hlkAddr q o) (hi : (hlkAddr q o - f.base) / 0x1000 = i) (hr : (hlkAddr q o - f.base) % 0x1000 = r) (hi' : i < 192) :
      f.instAt (hlkAddr q o) = (f.inPort r).map (fun x => (i, x)) := by
    have hmany : ¬ (192 ≤ 1) := by decide
    simp only [Field.instAt, if_neg (Nat.not_lt.mpr hbase), hn1, hs1, if_neg hmany, hi, hr, decide_eq_true hi', Bool.true_and, Field.inPort]
    split
    · rw [apply_ite (Option.map (fun x => (i, x)))]
      rfl
    · rw [apply_ite (Option.map (fun x => (i, x)))]
      rfl
  by_cases hle : f.base ≤ 0x1000000 + o
  · rw [if_pos hle]
    exact hat (by rw [hlkAddr]; omega) (by rw [hlkAddr]; omega) (by rw [hlkAddr]; omega) hq
  · rw [if_neg hle]
    obtain rfl | hpos := Nat.eq_zero_or_pos q
    · exact if_pos (by rw [hlkAddr]; omega)
    · rw [hat (i := q - 1) (r := 0x2000000 + 0x1000 + o - f.base - 0x1000000) (by rw [hlkAddr]; omega) (by rw [hlkAddr]; omega) (by rw [hlkAddr]; omega) (by omega),
        Field.inPort_far hn2 hs2 (by omega)]
      rfl

theorem fieldsAt_hlkAddr {p o : Nat} (hp : p < 192) (ho : o < 0x1000) : fieldsAt (hlkAddr p o) = (fieldsAt (hlkAddr 0 o)).map (fun x => (x.1, p, x.2.2)) := by
  have hall : ∀ f ∈ fieldsHlk, f.perPort = true := List.all_eq_true.mp fieldsHlk_perPort
  simp only [fieldsAt, pageFields_hlkAddr hp ho, pageFields_hlkAddr (by decide : 0 < 192) ho, List.map_filterMap]
  refine List.filterMap_congr fun f hf => ?_
  rw [Field.instAt_port (hall f hf) hp ho, Field.instAt_port (hall f hf) (by decide) ho]
  cases (if f.base ≤ 0x1000000 + o then f.inPort (0x1000000 + o - f.base) else none) <;> rfl

theorem inPages_hlkAddr {p o : Nat} (hp : p < 192) (ho : o < 0x1000) : inPages (hlkAddr p o) = true := by
  have hlo : 0x1000000 ≤ hlkAddr p o := by
    rw [hlkAddr]
    omega
  have hhi : hlkAddr p o < 0x10C0000 := by
    rw [hlkAddr]
    omega
  have hlast : (decide (0x1000000 ≤ hlkAddr p o) && decide (hlkAddr p o < 0x10C0000)) = true := (Bool.and_eq_true ..).mpr ⟨decide_eq_true hlo, decide_eq_true hhi⟩
  rw [inPages, hlast, Bool.or_true]

/-- A port's own words are the same for each requester. -/
theorem canonAddr_hlkAddr (rq : Requester) (p : Nat) {o : Nat} (ho : o < 0xE0) (hgroup : o ≠ 0x40) : canonAddr rq (hlkAddr p o) = hlkAddr p o := by
  have hlow : ¬ (decide (0x1040 ≤ hlkAddr p o) && decide (hlkAddr p o < 0x10A0)) = true := by
    intro h
    have hlt : hlkAddr p o < 0x10A0 := of_decide_eq_true ((Bool.and_eq_true ..).mp h).2
    exact absurd hlt (by rw [hlkAddr]; omega)
  have hoff : hlkAddr p o % 0x1000 = o := by
    rw [hlkAddr]
    omega
  have hkey : ¬ (decide (0xE0 ≤ hlkAddr p o % 0x1000) && decide (hlkAddr p o % 0x1000 < 0x100)) = true := by
    intro h
    have hle : 0xE0 ≤ hlkAddr p o % 0x1000 := of_decide_eq_true ((Bool.and_eq_true ..).mp h).1
    omega
  unfold canonAddr
  rw [if_neg hlow, hoff, if_neg hgroup]
  rw [hoff] at hkey
  rw [if_neg hkey]
  exact ite_self _

/-- A port's word holds no stored field where port 0's word holds none. -/
theorem portWord_bare (rq : Requester) (p : Port) {o : Nat} (ho : o < 0xE0) (hgroup : o ≠ 0x40) (h : (fieldsAt (hlkAddr 0 o)).all (fun x => !x.1.stores) = true) :
    (fieldsAt (canonAddr rq (hlkAddr p.val o))).all (fun x => !x.1.stores) = true := by
  rw [canonAddr_hlkAddr rq _ ho hgroup, fieldsAt_hlkAddr p.isLt (by omega), List.all_map]
  exact h

end Sys2Proof.Machine
end


section
/-! PROOF. Register writes and commands that are clamped, audited or refused for lack of role (R5, R8, R11, R42, R48, R58, R83, R234; settles O3). -/

namespace Sys2Proof.Machine

/-! ### A whole word on an open page -/

section
variable {s : State} (hopen : s.PagesOpen) (hquiet : s.Quiet) {addr : Nat} (halign : addr % 4 = 0) (hpage : inPages addr = true)
  {be : BitVec 8} (hbe : be.toNat % 16 = 15) (rq : Requester) (data : BitVec 64)
include hopen hquiet halign hpage hbe

/-- A whole word to an open page with no write before it is stored, and what follows a field that takes it comes after. -/
theorem exec_registerWrite_page : exec (.registerWrite ⟨rq, .bar0, addr, be, false, data⟩) s =
    .next (if s.dev.wordTaken rq (canonAddr rq addr) (data.toNat % 4294967296) then
        (s.write rq addr (data.toNat % 4294967296)).onDev (fun d => d.afterWrite s.dev (canonAddr rq addr) (data.toNat % 4294967296))
      else s.write rq addr (data.toNat % 4294967296)) := by
  have hlow := inPages_low hpage
  have hsize : ¬ Region.size .bar0 ≤ addr := by rw [Region.size]; omega
  have hmsix : inMsix addr = false := by simp [inMsix]; omega
  have hwhole : ¬ (decide (addr % 4 ≠ 0) || decide (be.toNat % 16 ≠ 15)) = true := by simp [halign, hbe]
  rw [exec_registerWrite_narrow rfl]
  simp only [State.busWord, if_neg hsize, hmsix, Bool.false_eq_true, if_false, if_neg hwhole]
  rw [State.plainWrite, State.gate_run hquiet _ _ _ _ _ _ 0 (by decide)]
  simp only [hpage, Dev.pageOpen_of hopen.1 hopen.2, Bool.true_and]

end

/-! ### Clamped values (R5, R8, R83, R234) -/

theorem clampVal_fetch (old w : Nat) : F.SLU_FETCH_RD_SIZE.clampVal (F.SLU_FETCH_RD_SIZE.withPart 0 old w) = if w % 4 = 3 then 2 else w % 4 := by
  have hmod : F.SLU_FETCH_RD_SIZE.withPart 0 old w % 2 ^ F.SLU_FETCH_RD_SIZE.width = w % 4 := by
    rw [Field.withPart_mod (by decide)]
    exact congrArg (· % 4) (Nat.div_one w)
  have hclamp : F.SLU_FETCH_RD_SIZE.clamp = .enc [(3, 2)] := rfl
  simp only [Field.clampVal, hclamp, hmod, List.find?_cons, List.find?_nil]
  by_cases h : w % 4 = 3
  · simp [h]
  · have hne : (3 : Nat) ≠ w % 4 := fun he => h he.symm
    simp [h, hne]

theorem clampVal_commit (old w : Nat) : F.FIRE_COMMIT_NS.clampVal (F.FIRE_COMMIT_NS.withPart 0 old w) = max 5000 (min 200000 (w % 262144)) := by
  rw [clampVal_of_range (lo := 5000) (hi := 200000) rfl (by decide) (by decide)]
  exact congrArg (fun x => max 5000 (min 200000 (x % 262144))) (Nat.div_one w)

/-- The field of a word that holds one stored field takes the word's part. -/
theorem Dev.storeFields_one {f : Field} (h : f.acc = .rw) (d : Dev) (i j w : Nat) :
    d.storeFields w [(f, i, j, 0)] = d.set f (f.clampVal (f.withPart 0 (d.get f i j) w)) i j := Dev.storeField_rw h ..

theorem gives_fetchWrite {rq : Requester} {be : BitVec 8} {data : BitVec 64} {s : State} (hopen : s.PagesOpen) (hquiet : s.Quiet) (hbe : be.toNat % 16 = 15) :
    Gives (.registerWrite ⟨rq, .bar0, 0x10040, be, false, data⟩) s (s.dev.set F.SLU_FETCH_RD_SIZE (if data.toNat % 4 = 3 then 2 else data.toNat % 4)) := by
  obtain ⟨w, hw⟩ : ∃ w, w = data.toNat % 4294967296 := ⟨_, rfl⟩
  have hmod : w % 4 = data.toNat % 4 := by omega
  have hst : StoredAt (canonAddr rq 0x10040) [(F.SLU_FETCH_RD_SIZE, 0, 0, 0)] := by cases rq <;> decide +kernel
  have hperm : s.dev.Permits rq [(F.SLU_FETCH_RD_SIZE, 0, 0, 0)] := Dev.permits_of (r := 0) (Nat.zero_le _) (by decide)
  have hcanon : canonAddr rq 0x10040 = 0x10040 := rfl
  have hwrite : s.write rq 0x10040 w = s.onDev (fun d => d.set F.SLU_FETCH_RD_SIZE (if w % 4 = 3 then 2 else w % 4)) := by
    rw [State.write_fields (by decide) hopen hst hperm (by simp) (by simp) (fun e => rfl) (by decide)]
    refine congrArg s.onDev (funext fun d => ?_)
    rw [Dev.storeFields_one rfl, clampVal_fetch]
  refine (exec_registerWrite_page hopen hquiet (by decide) (by decide) hbe rq data).trans (congrArg Host.Outcome.next ?_)
  rw [← hw, hwrite, hmod]
  split
  · rfl
  · rfl

theorem givesAudited_commitWrite {rq : Requester} {be : BitVec 8} {data : BitVec 64} {s : State} (hs : s.Ready rq 2) (hbe : be.toNat % 16 = 15) :
    GivesAudited (.registerWrite ⟨rq, .bar0, 0x50044, be, false, data⟩) s rq 0x50044
      ((s.dev.set F.FIRE_COMMIT_NS (max 5000 (min 200000 (data.toNat % 262144)))).touch rq) := by
  obtain ⟨hopen, hquiet, hrights⟩ := hs
  obtain ⟨w, hw⟩ : ∃ w, w = data.toNat % 4294967296 := ⟨_, rfl⟩
  have hmod : w % 262144 = data.toNat % 262144 := by omega
  have hst : StoredAt (canonAddr rq 0x50044) [(F.FIRE_COMMIT_NS, 0, 0, 0)] := by cases rq <;> decide +kernel
  have hperm : s.dev.Permits rq [(F.FIRE_COMMIT_NS, 0, 0, 0)] := Dev.permits_of hrights (by decide)
  obtain ⟨old, new, hwrite⟩ := State.write_fields_audited (acts := []) (w := w) (by decide) hopen hst hperm (by simp) (by simp) (fun e => rfl) rfl
  have hstored : s.dev.storeFields w [(F.FIRE_COMMIT_NS, 0, 0, 0)] = s.dev.set F.FIRE_COMMIT_NS (max 5000 (min 200000 (data.toNat % 262144))) := by
    rw [Dev.storeFields_one rfl, clampVal_commit, hmod]
  rw [State.onDev, hstored] at hwrite
  refine ⟨old, new, (exec_registerWrite_page hopen hquiet (by decide) (by decide) hbe rq data).trans (congrArg Host.Outcome.next ?_)⟩
  rw [← hw, hwrite]
  split
  · rfl
  · rfl

/-! ### Refusals for lack of role (R11, R42, R48) -/

/-- A refused write is counted with its address, and as a discarded one. -/
theorem Dev.deny_counts (d : Dev) (rq : Requester) (a : Nat) : d.deny rq a =
    ((d.set F.ROLE_DENY_COUNT (Nat.min 63 (d.get F.ROLE_DENY_COUNT (bankOf rq) + 1)) (bankOf rq)).set F.ROLE_DENY_ADDR a (bankOf rq)).set
      F.SYS_BAD_ACC_COUNT (Nat.min 67108863 (d.get F.SYS_BAD_ACC_COUNT + 1)) := by
  rw [Dev.deny_eq, Dev.badAcc_eq, Dev.get_set_distinct _ (by decide), Dev.get_bump_distinct _ (by decide), Dev.bump, sat_min]
  rfl

/-- A word none of whose stored fields a requester may write is refused. -/
theorem registerWrite_denied {s : State} (hopen : s.PagesOpen) (hquiet : s.Quiet) {rq : Requester} {addr : Nat} {be : BitVec 8} {data : BitVec 64}
    (hbe : be.toNat % 16 = 15) (halign : addr % 4 = 0) (hpage : inPages addr = true) (hany : ∃ x ∈ fieldsAt (canonAddr rq addr), x.1.stores = true)
    (hno : ∀ x ∈ fieldsAt (canonAddr rq addr), x.1.stores = true → s.dev.mayField rq x.1 x.2.1 (data.toNat % 4294967296) = false) :
    Gives (.registerWrite ⟨rq, .bar0, addr, be, false, data⟩) s (s.dev.deny rq addr) := by
  obtain ⟨w, hw⟩ : ∃ w, w = data.toNat % 4294967296 := ⟨_, rfl⟩
  obtain ⟨y, hy, hstores⟩ := hany
  rw [← hw] at hno
  have htakes (x : Field × Nat × Nat × Nat) (hx : x ∈ fieldsAt (canonAddr rq addr)) : s.dev.takes rq w x = false := by
    by_cases hst : x.1.stores = true
    · simp [Dev.takes, hno x hx hst]
    · simp [Dev.takes, hst]
  have hnone : (fieldsAt (canonAddr rq addr)).any (s.dev.takes rq w) = false := List.any_eq_false.mpr fun x hx => by simp [htakes x hx]
  have hright : s.dev.rightful rq (canonAddr rq addr) w [] = false := by
    rw [Dev.rightful, List.any_nil, Bool.or_false]
    exact List.any_eq_false.mpr fun x hx => by simp [htakes x hx]
  have haud : s.dev.audited rq (canonAddr rq addr) w [] = false := by
    rw [Dev.audited, List.any_nil, Bool.or_false]
    exact List.any_eq_false.mpr fun x hx => by simp [htakes x hx]
  have hrefuse : s.dev.refuses rq (canonAddr rq addr) w [] = true := by
    rw [Dev.refuses, List.any_nil, Bool.or_false]
    exact List.any_eq_true.mpr ⟨y, hy, by simp [hstores, hno y hy hstores]⟩
  have hnot : s.dev.wordTaken rq (canonAddr rq addr) w = false := by
    have hne : canonAddr rq addr ≠ 0x5040 := by
      intro he
      have hfixed : (fieldsAt 0x5040).all (fun x => !x.1.stores) = true := by decide +kernel
      rw [he] at hy
      have := List.all_eq_true.mp hfixed y hy
      rw [hstores] at this
      cases this
    rw [Dev.wordTaken, hnone, Bool.false_or, decide_eq_false hne]
  refine (exec_registerWrite_page hopen hquiet halign hpage hbe rq data).trans (congrArg Host.Outcome.next ?_)
  rw [← hw, hnot, if_neg Bool.false_ne_true]
  simp [State.write, Dev.writeWord, hpage, Dev.pageOpen_of hopen.1 hopen.2, Dev.storeWord, hnone, hright, haud, hrefuse]

section
variable {s : State} (hopen : s.PagesOpen) (hquiet : s.Quiet) {rq : Requester} {addr w : Nat} (hpage : inPages addr = true)
  (hf : (fieldsAt (canonAddr rq addr)).all (fun x => !x.1.stores) = true) {act : Act} (hbit : w.testBit act.bit = true) (hno : s.dev.may rq act.role = false)
include hopen hpage hf hbit hno

/-- A write of an action bit without its role is refused, where the word has no stored field. -/
theorem State.write_denied (own : Option (Nat × Nat)) : s.write rq addr w [act] own = s.onDev (fun d => d.deny rq addr) := by
  have hst := Dev.storeWord_none hf s.dev rq w
  have hall (x : Field × Nat × Nat × Nat) (hx : x ∈ fieldsAt (canonAddr rq addr)) : s.dev.takes rq w x = false := by
    have := List.all_eq_true.mp hf x hx
    simp only [Bool.not_eq_true'] at this
    simp [Dev.takes, this]
  have hright : s.dev.rightful rq (canonAddr rq addr) w [act] = false := by
    rw [Dev.rightful, List.any_eq_false.mpr fun x hx => by simp [hall x hx]]
    simp [hno]
  have haud : s.dev.audited rq (canonAddr rq addr) w [act] = false := by
    rw [Dev.audited, List.any_eq_false.mpr fun x hx => by simp [hall x hx]]
    simp [hno]
  have hrefuse : s.dev.refuses rq (canonAddr rq addr) w [act] = true := by simp [Dev.refuses, hbit, hno]
  simp [State.write, Dev.writeWord, hpage, Dev.pageOpen_of hopen.1 hopen.2, hst, hright, haud, hrefuse, State.onDev]

omit hopen hpage hf in
theorem State.acts_denied : s.acts rq addr act w = false := by
  rw [State.acts, Dev.acts, hbit, hno, Bool.and_false, Bool.and_false]

include hquiet

theorem State.row_denied (cmd : Instr) (f : Dev → Dev) : s.row rq cmd addr w act f = s.onDev (fun d => d.deny rq addr) := by
  rw [State.row, State.gate_run hquiet _ _ _ _ _ _ 0 (by decide)]
  simp only [State.acts_denied hbit hno, Bool.false_eq_true, if_false]
  exact State.write_denied hopen hpage hf hbit hno none

end

/-- The words of the action bits that need a role hold no stored field. -/
theorem actionWords_bare (rq : Requester) (p : Port) (n : Enc) (c : Fin 4) (dm : Fin 2) :
    ∀ a ∈ [0x54, 0x50040, 0x4C, 0x4044, 0x30054, 0x60074, 0x6012C + 0x40 * n.val, hlkAddr p.val 0xA4, hlkAddr p.val 0x68, 0x71058 + 0x1000 * c.val, 0xB0080, 0xD0058,
      0xD0120 + 0x40 * dm.val], inPages a = true ∧ (fieldsAt (canonAddr rq a)).all (fun x => !x.1.stores) = true := by
  have hfixed : ∀ a ∈ [0x54, 0x50040, 0x4C, 0x4044, 0x30054, 0x60074, 0xB0080, 0xD0058], inPages a = true ∧ (fieldsAt (canonAddr rq a)).all (fun x => !x.1.stores) = true := by
    cases rq <;> decide +kernel
  have hn : inPages (0x6012C + 0x40 * n.val) = true ∧ (fieldsAt (canonAddr rq (0x6012C + 0x40 * n.val))).all (fun x => !x.1.stores) = true := by
    revert n
    cases rq <;> decide +kernel
  have hc : inPages (0x71058 + 0x1000 * c.val) = true ∧ (fieldsAt (canonAddr rq (0x71058 + 0x1000 * c.val))).all (fun x => !x.1.stores) = true := by
    revert c
    cases rq <;> decide +kernel
  have hd : inPages (0xD0120 + 0x40 * dm.val) = true ∧ (fieldsAt (canonAddr rq (0xD0120 + 0x40 * dm.val))).all (fun x => !x.1.stores) = true := by
    revert dm
    cases rq <;> decide +kernel
  have hpage (o : Nat) (ho : o < 0x1000) : inPages (hlkAddr p.val o) = true := inPages_hlkAddr p.isLt ho
  simp only [List.forall_mem_cons] at hfixed ⊢
  obtain ⟨h0, h1, h2, h3, h4, h5, h6, h7, -⟩ := hfixed
  exact ⟨h0, h1, h2, h3, h4, h5, hn, ⟨hpage _ (by decide), portWord_bare rq p (by decide) (by decide) (by decide +kernel)⟩,
    ⟨hpage _ (by decide), portWord_bare rq p (by decide) (by decide) (by decide +kernel)⟩, hc, h6, h7, hd, fun _ h => absurd h List.not_mem_nil⟩

/-- Settles O3: what a permitted write stores and leaves in the audit queue, and what a write or a command without its role is refused with. -/
theorem writesAreClampedOrRefused : Obligations.WritesAreClampedOrRefused := by
  unfold Obligations.WritesAreClampedOrRefused
  refine ⟨⟨fun rq be data s hopen hquiet hbe => gives_fetchWrite hopen hquiet hbe, fun rq be data s hs hbe => givesAudited_commitWrite hs hbe⟩,
    fun rq addr be data s hopen hquiet hbe halign hpage hany hno => ?_, fun rq p n c dm w s hopen hquiet => ?_⟩
  · rw [← Dev.deny_counts]
    exact registerWrite_denied hopen hquiet hbe halign hpage hany hno
  · have hbare := actionWords_bare rq p n c dm
    have hrow {cmd : Instr} {addr v bit : Nat} {role : Role} {f : Dev → Dev} (hmem : inPages addr = true ∧ (fieldsAt (canonAddr rq addr)).all (fun x => !x.1.stores) = true)
        (hbit : v.testBit bit = true) (hno : s.dev.may rq (some role) = false) :
        (.next (s.row rq cmd addr v ⟨bit, some role⟩ f) : Host.Outcome State Fault Refusal) = .next { s with dev := s.dev.deny rq addr } :=
      congrArg Host.Outcome.next (State.row_denied hopen hquiet hmem.1 hmem.2 (act := ⟨bit, some role⟩) hbit hno cmd f)
    have hrole {cmd : Instr} {addr : Nat} {role : Role} {reads : Dev → Nat} {f : Dev → Dev} (hpage : inPages addr = true) (hno : s.dev.may rq (some role) = false) :
        (.next (s.roleWrite rq cmd addr (some role) reads f) : Host.Outcome State Fault Refusal) = .next { s with dev := s.dev.deny rq addr } :=
      congrArg Host.Outcome.next (State.roleWrite_denied (r := 0) ⟨hopen, hquiet, Nat.zero_le _⟩ cmd addr role reads f hpage (Nat.not_le.mp (of_decide_eq_false hno)))
    simp only [List.forall_mem_cons] at hbare ⊢
    obtain ⟨h54, h50040, h4C, h4044, h30054, h60074, hAdopt, hMem, hReauth, hFence, hB0080, hD0058, hDomain, -⟩ := hbare
    refine ⟨hrow h54 (by decide), hrow h50040 (by decide), hrow h50040 (by decide), hrow h4C (by decide), hrow h4044 (by decide), fun hno => ?_, hrow h30054 (by decide),
      hrole (by decide), hrole (by decide), hrow h60074 (by decide), hrow hAdopt (by decide), hrow hMem (by decide), hrow hReauth (by decide), hrow hFence (by decide),
      hrow hB0080 (by decide), hrow hB0080 (by decide), hrow hD0058 (by decide), hrow hDomain (by decide), hrow hDomain (by decide), hrow h4C (by decide), hrole (by decide),
      fun _ h => absurd h List.not_mem_nil⟩
    have hacts : s.acts rq 0x30054 ⟨0, some .installer⟩ 1 = false := State.acts_denied (act := ⟨0, some .installer⟩) (by decide) hno
    simp only [Gives, exec, execHeadMapCommit]
    rw [State.gate_run hquiet _ _ _ _ _ _ 0 (by decide)]
    simp only [hacts, Bool.false_eq_true, if_false]
    rw [State.write_denied hopen h30054.1 h30054.2 (act := ⟨0, some .installer⟩) (by decide) hno]
    rfl

end Sys2Proof.Machine
end


section
/-! PROOF. Compares against the time and the pulse per second (R387, R388, R391). -/

namespace Sys2Proof.Machine

/-! ### The actions of a compare unit (R387) -/

/-- From d to e, unit u has acted as it is configured. -/
structure Dev.Acted (d e : Dev) (u : Nat) : Prop where
  time : e.get F.TCMP_TIME u = d.T
  irq : d.get F.TCMP_CFG_IRQ u ≠ 0 → (e.get F.TB_IRQ_STAT).testBit 2 = true
  pulse : d.get F.TCMP_CFG_PPS u ≠ 0 → d.get F.TB_PPS_MODE = 2 → e.pins.ppsOut = true ∧ e.tb.ppsEnd = some (d.raw + d.get F.TB_PPS_WIDTH_US * 1000)

theorem Dev.Acted.set {d e : Dev} {u : Nat} (h : d.Acted e u) {f : Field} (htime : F.TCMP_TIME.distinct f = true) (hirq : F.TB_IRQ_STAT.distinct f = true) (v i j : Nat) :
    d.Acted (e.set f v i j) u := by
  refine ⟨?_, fun hi => ?_, h.pulse⟩
  · rw [Dev.get_set_distinct _ htime, h.time]
  · rw [Dev.get_set_distinct _ hirq]
    exact h.irq hi

/-- What a unit's actions depend on. -/
def Dev.actBase (d : Dev) (u : Nat) := (d.T, d.raw, d.get F.TCMP_CFG_IRQ u, d.get F.TCMP_CFG_PPS u, d.get F.TB_PPS_MODE, d.get F.TB_PPS_WIDTH_US)

theorem Dev.Acted.of_base {d d' e : Dev} {u : Nat} (hb : d'.actBase u = d.actBase u) (h : d'.Acted e u) : d.Acted e u := by
  simp only [Dev.actBase, Prod.mk.injEq] at hb
  obtain ⟨hT, hraw, hirq, hpps, hmode, hwidth⟩ := hb
  exact ⟨hT ▸ h.time, fun hi => h.irq (hirq ▸ hi), fun hp hm => by rw [← hraw, ← hwidth]; exact h.pulse (hpps ▸ hp) (hmode ▸ hm)⟩

theorem Dev.ppsPulse_spec (d : Dev) : d.ppsPulse.regs = d.regs ∧ d.ppsPulse.pins.ppsOut = true ∧ d.ppsPulse.tb = { d.tb with ppsEnd := some (d.raw + d.get F.TB_PPS_WIDTH_US * 1000) } ∧
    d.ppsPulse.raw = d.raw ∧ (d.pins.ppsOut = false → Output.pps true ∈ d.ppsPulse.outbox) := by
  simp only [Dev.ppsPulse]
  split
  · exact ⟨rfl, ‹_›, rfl, rfl, fun h => absurd h (by simp [‹d.pins.ppsOut = true›])⟩
  · exact ⟨rfl, rfl, rfl, rfl, fun _ => List.mem_append_right _ (List.mem_singleton_self _)⟩

/-- A unit's flag in its page's interrupt status. -/
def Dev.tcmpFlagged (d : Dev) (u : Nat) : Dev := if d.flag F.TCMP_CFG_IRQ u then d.irq F.TB_IRQ_STAT F.TB_IRQ_EN 2 none else d

theorem Dev.tcmpAct_eq (d : Dev) (u : Nat) : d.tcmpAct u =
    if ((d.set F.TCMP_TIME d.T u).tcmpFlagged u).flag F.TCMP_CFG_PPS u && ((d.set F.TCMP_TIME d.T u).tcmpFlagged u).get F.TB_PPS_MODE = 2 then
      ((d.set F.TCMP_TIME d.T u).tcmpFlagged u).ppsPulse
    else (d.set F.TCMP_TIME d.T u).tcmpFlagged u := rfl

theorem Dev.tcmpFlagged_spec (d : Dev) (u : Nat) : (∀ (g : Field) (i j : Nat), g.distinct F.TB_IRQ_STAT = true → (d.tcmpFlagged u).get g i j = d.get g i j) ∧
    (d.tcmpFlagged u).get F.TCMP_TIME u = d.get F.TCMP_TIME u ∧ (d.tcmpFlagged u).T = d.T ∧ (d.tcmpFlagged u).raw = d.raw ∧
    (d.get F.TCMP_CFG_IRQ u ≠ 0 → ((d.tcmpFlagged u).get F.TB_IRQ_STAT).testBit 2 = true) := by
  by_cases h : d.get F.TCMP_CFG_IRQ u = 0
  · have hsame : d.tcmpFlagged u = d := if_neg (by rw [(Dev.flag_eq_false ..).mpr h]; exact Bool.false_ne_true)
    rw [hsame]
    exact ⟨fun _ _ _ _ => rfl, rfl, rfl, rfl, fun hi => absurd h hi⟩
  · have hset : d.tcmpFlagged u = d.raiseBit F.TB_IRQ_STAT 2 := if_pos ((Dev.flag_eq_true ..).mpr h)
    rw [hset]
    have hkey : F.TCMP_TIME.key u 0 ≠ F.TB_IRQ_STAT.key 0 0 := by
      simp only [Field.key, Field.addr, F.TCMP_TIME, F.TB_IRQ_STAT]
      omega
    exact ⟨fun g i j hg => Dev.get_set_distinct _ hg .., Dev.get_set_ne _ _ _ _ _ _ _ _ hkey, rfl, rfl, fun _ => Dev.testBit_raiseBit _ _ (by decide) ..⟩

/-- A unit acts: TIME, its flag and its pulse. Other registers keep their values. -/
theorem Dev.tcmpAct_spec (d : Dev) (u : Nat) : d.Acted (d.tcmpAct u) u ∧ (d.tcmpAct u).T = d.T ∧ (d.tcmpAct u).raw = d.raw ∧
    ∀ (g : Field) (i j : Nat), g.distinct F.TCMP_TIME = true → g.distinct F.TB_IRQ_STAT = true → (d.tcmpAct u).get g i j = d.get g i j := by
  have hT : d.T < 2 ^ 64 := Nat.mod_lt _ (by decide)
  obtain ⟨hget, hkeeps, htimed, hraw, hbit⟩ := (d.set F.TCMP_TIME d.T u).tcmpFlagged_spec u
  have htimed' : (d.set F.TCMP_TIME d.T u).T = d.T := rfl
  obtain ⟨e, he⟩ : ∃ e, e = (d.set F.TCMP_TIME d.T u).tcmpFlagged u := ⟨_, rfl⟩
  rw [← he] at hget hkeeps htimed hraw hbit
  have hkept (g : Field) (i j : Nat) (hg : g.distinct F.TCMP_TIME = true) (hi : g.distinct F.TB_IRQ_STAT = true) : e.get g i j = d.get g i j :=
    (hget g i j hi).trans (Dev.get_set_distinct _ hg ..)
  have htime : e.get F.TCMP_TIME u = d.T := by
    rw [hkeeps, Dev.get_set_self]
    exact Nat.mod_eq_of_lt hT
  have hirq (hi : d.get F.TCMP_CFG_IRQ u ≠ 0) : (e.get F.TB_IRQ_STAT).testBit 2 = true := hbit (by rwa [Dev.get_set_distinct _ (by decide)])
  rw [Dev.tcmpAct_eq, ← he]
  by_cases hp : (e.flag F.TCMP_CFG_PPS u && e.get F.TB_PPS_MODE = 2) = true
  · obtain ⟨hregs, hout, htb, hpraw, -⟩ := e.ppsPulse_spec
    have hfine : e.ppsPulse.T = e.T := by rw [Dev.T, Dev.T, Dev.fineT, Dev.fineT, htb, hpraw]
    rw [if_pos hp]
    refine ⟨⟨?_, fun hi => ?_, fun _ _ => ⟨hout, ?_⟩⟩, hfine.trans (htimed.trans htimed'), hpraw.trans hraw, fun g i j hg hi => ?_⟩
    · rw [Dev.get_of_regs hregs, htime]
    · rw [Dev.get_of_regs hregs]
      exact hirq hi
    · rw [htb, hkept _ _ _ (by decide) (by decide), hraw]
      rfl
    · rw [Dev.get_of_regs hregs, hkept g i j hg hi]
  · rw [if_neg hp]
    refine ⟨⟨htime, hirq, fun hpps hmode => absurd ?_ hp⟩, htimed.trans htimed', hraw, hkept⟩
    rw [Bool.and_eq_true, Dev.flag_eq_true, decide_eq_true_eq, hkept _ _ _ (by decide) (by decide), hkept _ _ _ (by decide) (by decide)]
    exact ⟨hpps, hmode⟩

/-! ### Arming (R387) -/

/-- How far a unit's value lies behind the time. -/
def Dev.tcmpLate (d : Dev) (u : Nat) : Int := signed 64 (unsigned 64 ((d.T : Int) - d.get F.TCMP_VAL u))

theorem Dev.tcmpReached_iff (d : Dev) (u : Nat) : d.tcmpReached u = true ↔ 0 ≤ d.tcmpLate u := decide_eq_true_iff

section
variable {d : Dev} {u : Nat}

theorem Dev.tcmpArm_ahead (h : d.tcmpLate u < 0) : d.tcmpArm u = d.set F.TCMP_STAT_ARMED 1 u := by
  have hno : d.tcmpReached u = false := Bool.eq_false_iff.mpr fun hr => absurd ((Dev.tcmpReached_iff d u).mp hr) (by omega)
  rw [Dev.tcmpArm, hno]
  rfl

variable (h : 0 ≤ d.tcmpLate u)
include h

theorem Dev.tcmpArm_missed (hlate : d.get F.TCMP_CFG_LATE u = 0) : d.tcmpArm u = (d.set F.TCMP_STAT_MISSED 1 u).set F.TCMP_STAT_ARMED 0 u := by
  have hflag : (d.set F.TCMP_STAT_MISSED 1 u).flag F.TCMP_CFG_LATE u = false := (Dev.flag_eq_false ..).mpr (by rw [Dev.get_set_distinct _ (by decide), hlate])
  rw [Dev.tcmpArm, (Dev.tcmpReached_iff d u).mpr h]
  simp only [hflag]
  rfl

/-- A value that has passed acts at once with LATE, and arms a value ahead by PERIOD. -/
theorem Dev.tcmpArm_acts (hlate : d.get F.TCMP_CFG_LATE u ≠ 0) : (d.tcmpArm u).get F.TCMP_STAT_MISSED u = 1 ∧ d.Acted (d.tcmpArm u) u ∧
    (d.tcmpArm u).get F.TCMP_STAT_HITS u = d.get F.TCMP_STAT_HITS u ∧
    (d.get F.TCMP_PERIOD u = 0 → (d.tcmpArm u).get F.TCMP_STAT_ARMED u = 0 ∧ (d.tcmpArm u).get F.TCMP_VAL u = d.get F.TCMP_VAL u) ∧
    (d.get F.TCMP_PERIOD u ≠ 0 → (d.tcmpArm u).get F.TCMP_STAT_ARMED u = 1 ∧
      (d.tcmpArm u).get F.TCMP_VAL u = (d.get F.TCMP_VAL u + d.get F.TCMP_PERIOD u * ((d.tcmpLate u).toNat / d.get F.TCMP_PERIOD u + 1)) % 2 ^ 64) := by
  have hflag : (d.set F.TCMP_STAT_MISSED 1 u).flag F.TCMP_CFG_LATE u = true := (Dev.flag_eq_true ..).mpr (by rwa [Dev.get_set_distinct _ (by decide)])
  obtain ⟨hacted, hT, -, hget⟩ := (d.set F.TCMP_STAT_MISSED 1 u).tcmpAct_spec u
  obtain ⟨e, he⟩ : ∃ e, e = (d.set F.TCMP_STAT_MISSED 1 u).tcmpAct u := ⟨_, rfl⟩
  have harm : d.tcmpArm u = if e.get F.TCMP_PERIOD u = 0 then e.set F.TCMP_STAT_ARMED 0 u else (e.set F.TCMP_VAL (e.tcmpAhead u) u).set F.TCMP_STAT_ARMED 1 u := by
    rw [Dev.tcmpArm, (Dev.tcmpReached_iff d u).mpr h, he]
    simp only [hflag]
    rfl
  rw [← he] at hacted hT hget
  have hsame (g : Field) (h1 : g.distinct F.TCMP_TIME = true) (h2 : g.distinct F.TB_IRQ_STAT = true) (h3 : g.distinct F.TCMP_STAT_MISSED = true) : e.get g u = d.get g u :=
    (hget g u 0 h1 h2).trans (Dev.get_set_distinct _ h3 ..)
  have hmissed : e.get F.TCMP_STAT_MISSED u = 1 := by
    rw [hget _ _ _ (by decide) (by decide), Dev.get_set_self]
    rfl
  have hbase : (d.set F.TCMP_STAT_MISSED 1 u).actBase u = d.actBase u := by
    simp (disch := decide) only [Dev.actBase, Dev.get_set_distinct]
    rfl
  have hahead : e.tcmpAhead u = (d.get F.TCMP_VAL u + d.get F.TCMP_PERIOD u * ((d.tcmpLate u).toNat / d.get F.TCMP_PERIOD u + 1)) % 2 ^ 64 := by
    rw [Dev.tcmpAhead, hsame _ (by decide) (by decide) (by decide), hsame _ (by decide) (by decide) (by decide), hT]
    rfl
  have hacted' : d.Acted e u := hacted.of_base hbase
  rw [harm]
  by_cases hp : d.get F.TCMP_PERIOD u = 0
  · rw [if_pos ((hsame _ (by decide) (by decide) (by decide)).trans hp)]
    refine ⟨?_, hacted'.set (by decide) (by decide) .., ?_, fun _ => ⟨?_, ?_⟩, fun hne => absurd hp hne⟩
    · rw [Dev.get_set_distinct _ (by decide), hmissed]
    · rw [Dev.get_set_distinct _ (by decide), hsame _ (by decide) (by decide) (by decide)]
    · rw [Dev.get_set_self]
      rfl
    · rw [Dev.get_set_distinct _ (by decide), hsame _ (by decide) (by decide) (by decide)]
  · rw [if_neg (by rwa [hsame _ (by decide) (by decide) (by decide)])]
    refine ⟨?_, (hacted'.set (by decide) (by decide) ..).set (by decide) (by decide) .., ?_, fun hz => absurd hz hp, fun _ => ⟨?_, ?_⟩⟩
    · rw [Dev.get_set_distinct _ (by decide), Dev.get_set_distinct _ (by decide), hmissed]
    · rw [Dev.get_set_distinct _ (by decide), Dev.get_set_distinct _ (by decide), hsame _ (by decide) (by decide) (by decide)]
    · rw [Dev.get_set_self]
      rfl
    · rw [Dev.get_set_distinct _ (by decide), Dev.get_set_self, hahead]
      exact Nat.mod_mod ..

end

/-! ### A hit (R387) -/

/-- Unit u acts and counts its hit. -/
def Dev.tcmpCounted (d : Dev) (u : Nat) : Dev := (d.tcmpAct u).bump F.TCMP_STAT_HITS u

/-- What a hit does. -/
def Dev.tcmpHit (d : Dev) (u : Nat) : Dev :=
  if d.flag F.TCMP_STAT_ARMED u && d.tcmpReached u then
    if (d.tcmpCounted u).get F.TCMP_PERIOD u = 0 then (d.tcmpCounted u).set F.TCMP_STAT_ARMED 0 u
    else ((d.tcmpCounted u).set F.TCMP_VAL (((d.tcmpCounted u).get F.TCMP_VAL u + (d.tcmpCounted u).get F.TCMP_PERIOD u) % 2 ^ 64) u).tcmpArm u
  else d

theorem gives_tcmpHit (s : State) (u : Fin 8) : Gives (.tcmpHit u) s (s.dev.tcmpHit u.val) := rfl

theorem Dev.tcmpHit_rest {d : Dev} {u : Nat} (h : d.tcmpLate u < 0 ∨ d.get F.TCMP_STAT_ARMED u = 0) : d.tcmpHit u = d := by
  refine if_neg fun hc => ?_
  rw [Bool.and_eq_true, Dev.flag_eq_true, Dev.tcmpReached_iff] at hc
  exact h.elim (fun hl => absurd hc.2 (by omega)) hc.1

section
variable {d : Dev} {u : Nat}

theorem Dev.tcmpCounted_spec (d : Dev) (u : Nat) : d.Acted (d.tcmpCounted u) u ∧ (d.tcmpCounted u).T = d.T ∧ (d.tcmpCounted u).raw = d.raw ∧
    (d.tcmpCounted u).get F.TCMP_STAT_HITS u = Nat.min F.TCMP_STAT_HITS.max (d.get F.TCMP_STAT_HITS u + 1) ∧
    ∀ (g : Field) (i j : Nat), g.distinct F.TCMP_TIME = true → g.distinct F.TB_IRQ_STAT = true → g.distinct F.TCMP_STAT_HITS = true →
      (d.tcmpCounted u).get g i j = d.get g i j := by
  obtain ⟨hacted, hT, hraw, hget⟩ := d.tcmpAct_spec u
  refine ⟨hacted.set (by decide) (by decide) .., hT, hraw, ?_, fun g i j h1 h2 h3 => (Dev.get_bump_distinct _ h3 ..).trans (hget g i j h1 h2)⟩
  rw [Dev.tcmpCounted, Dev.bump, Dev.get_set_self, sat_min, hget _ _ _ (by decide) (by decide)]
  exact Nat.mod_eq_of_lt (Nat.lt_of_le_of_lt (Nat.min_le_left ..) (by decide))

variable (hreached : 0 ≤ d.tcmpLate u) (harmed : d.get F.TCMP_STAT_ARMED u ≠ 0)
include hreached harmed

theorem Dev.tcmpHit_acts : d.Acted (d.tcmpHit u) u ∧ (d.tcmpHit u).get F.TCMP_STAT_HITS u = Nat.min F.TCMP_STAT_HITS.max (d.get F.TCMP_STAT_HITS u + 1) ∧
    (d.get F.TCMP_PERIOD u = 0 → (d.tcmpHit u).get F.TCMP_STAT_ARMED u = 0) ∧
    (∀ (v : Nat) (next : Int), v = (d.get F.TCMP_VAL u + d.get F.TCMP_PERIOD u) % 2 ^ 64 → next = signed 64 (unsigned 64 ((d.T : Int) - v)) → d.get F.TCMP_PERIOD u ≠ 0 →
      (next < 0 → (d.tcmpHit u).get F.TCMP_STAT_ARMED u = 1 ∧ (d.tcmpHit u).get F.TCMP_VAL u = v ∧ (d.tcmpHit u).get F.TCMP_STAT_MISSED u = d.get F.TCMP_STAT_MISSED u) ∧
      (0 ≤ next → (d.tcmpHit u).get F.TCMP_STAT_MISSED u = 1 ∧
        (d.get F.TCMP_CFG_LATE u = 0 → (d.tcmpHit u).get F.TCMP_STAT_ARMED u = 0 ∧ (d.tcmpHit u).get F.TCMP_VAL u = v) ∧
        (d.get F.TCMP_CFG_LATE u ≠ 0 → (d.tcmpHit u).get F.TCMP_STAT_ARMED u = 1 ∧
          (d.tcmpHit u).get F.TCMP_VAL u = (v + d.get F.TCMP_PERIOD u * (next.toNat / d.get F.TCMP_PERIOD u + 1)) % 2 ^ 64))) := by
  obtain ⟨hacted, hT, hraw, hhits, hget⟩ := d.tcmpCounted_spec u
  have hdue : (d.flag F.TCMP_STAT_ARMED u && d.tcmpReached u) = true := by
    rw [Bool.and_eq_true, Dev.flag_eq_true, Dev.tcmpReached_iff]
    exact ⟨harmed, hreached⟩
  have hhit : d.tcmpHit u = if (d.tcmpCounted u).get F.TCMP_PERIOD u = 0 then (d.tcmpCounted u).set F.TCMP_STAT_ARMED 0 u
      else ((d.tcmpCounted u).set F.TCMP_VAL (((d.tcmpCounted u).get F.TCMP_VAL u + (d.tcmpCounted u).get F.TCMP_PERIOD u) % 2 ^ 64) u).tcmpArm u := if_pos hdue
  rw [hget F.TCMP_PERIOD _ _ (by decide) (by decide) (by decide), hget F.TCMP_VAL _ _ (by decide) (by decide) (by decide)] at hhit
  by_cases hp : d.get F.TCMP_PERIOD u = 0
  · rw [if_pos hp] at hhit
    rw [hhit]
    refine ⟨hacted.set (by decide) (by decide) .., ?_, fun _ => ?_, fun _ _ _ _ hne => absurd hp hne⟩
    · rw [Dev.get_set_distinct _ (by decide), hhits]
    · rw [Dev.get_set_self]
      rfl
  · rw [if_neg hp] at hhit
    obtain ⟨v, hv⟩ : ∃ v, v = (d.get F.TCMP_VAL u + d.get F.TCMP_PERIOD u) % 2 ^ 64 := ⟨_, rfl⟩
    have hvlt : v < 2 ^ 64 := hv ▸ Nat.mod_lt _ (by decide)
    obtain ⟨e, he⟩ : ∃ e, e = (d.tcmpCounted u).set F.TCMP_VAL v u := ⟨_, rfl⟩
    rw [← hv, ← he] at hhit
    have hval : e.get F.TCMP_VAL u = v := by
      rw [he, Dev.get_set_self]
      exact Nat.mod_eq_of_lt hvlt
    have hkept (g : Field) (i j : Nat) (h1 : g.distinct F.TCMP_TIME = true) (h2 : g.distinct F.TB_IRQ_STAT = true) (h3 : g.distinct F.TCMP_STAT_HITS = true)
        (h4 : g.distinct F.TCMP_VAL = true) : e.get g i j = d.get g i j := by
      rw [he, Dev.get_set_distinct _ h4, hget g i j h1 h2 h3]
    have hehits : e.get F.TCMP_STAT_HITS u = Nat.min F.TCMP_STAT_HITS.max (d.get F.TCMP_STAT_HITS u + 1) := by rw [he, Dev.get_set_distinct _ (by decide), hhits]
    have heacted : d.Acted e u := he ▸ hacted.set (by decide) (by decide) ..
    have heT : e.T = d.T := by rw [he]; exact hT
    have hlate : e.tcmpLate u = signed 64 (unsigned 64 ((d.T : Int) - v)) := by rw [Dev.tcmpLate, hval, heT]
    have hbase : e.actBase u = d.actBase u := by
      have heraw : e.raw = d.raw := by rw [he]; exact hraw
      simp (disch := decide) only [Dev.actBase, heT, heraw, hkept]
    have hcfg : e.get F.TCMP_CFG_LATE u = d.get F.TCMP_CFG_LATE u := hkept _ _ _ (by decide) (by decide) (by decide) (by decide)
    have hperiod : e.get F.TCMP_PERIOD u = d.get F.TCMP_PERIOD u := hkept _ _ _ (by decide) (by decide) (by decide) (by decide)
    rw [hhit]
    by_cases hnext : e.tcmpLate u < 0
    · rw [Dev.tcmpArm_ahead hnext]
      refine ⟨heacted.set (by decide) (by decide) .., by rw [Dev.get_set_distinct _ (by decide), hehits], fun hz => absurd hz hp, ?_⟩
      rintro v' next rfl rfl -
      rw [← hv, ← hlate]
      refine ⟨fun _ => ⟨?_, ?_, ?_⟩, fun hge => absurd hge (by omega)⟩
      · rw [Dev.get_set_self]
        rfl
      · rw [Dev.get_set_distinct _ (by decide), hval]
      · rw [Dev.get_set_distinct _ (by decide), hkept _ _ _ (by decide) (by decide) (by decide) (by decide)]
    · by_cases hl : d.get F.TCMP_CFG_LATE u = 0
      · rw [Dev.tcmpArm_missed (Int.not_lt.mp hnext) (hcfg.trans hl)]
        refine ⟨(heacted.set (by decide) (by decide) ..).set (by decide) (by decide) .., ?_, fun hz => absurd hz hp, ?_⟩
        · rw [Dev.get_set_distinct _ (by decide), Dev.get_set_distinct _ (by decide), hehits]
        rintro v' next rfl rfl -
        rw [← hv, ← hlate]
        refine ⟨fun hlt => absurd hlt hnext, fun _ => ⟨?_, fun _ => ⟨?_, ?_⟩, fun hne => absurd hl hne⟩⟩
        · rw [Dev.get_set_distinct _ (by decide), Dev.get_set_self]
          rfl
        · rw [Dev.get_set_self]
          rfl
        · rw [Dev.get_set_distinct _ (by decide), Dev.get_set_distinct _ (by decide), hval]
      · obtain ⟨hmissed, hagain, hsame, -, hrearm⟩ := Dev.tcmpArm_acts (Int.not_lt.mp hnext) (by rwa [hcfg])
        refine ⟨hagain.of_base hbase, hsame.trans hehits, fun hz => absurd hz hp, ?_⟩
        rintro v' next rfl rfl -
        rw [← hv, ← hlate]
        refine ⟨fun hlt => absurd hlt hnext, fun _ => ⟨hmissed, fun hz => absurd hz hl, fun _ => ?_⟩⟩
        have h := hrearm (by rwa [hperiod])
        rwa [hval, hperiod] at h

end

/-! ### The commands -/

theorem gives_tcmpConfigure {s : State} {rq : Requester} (hs : s.Ready rq 0) (u : Fin 8) (w : Word) :
    Gives (.tcmpConfigure rq u w) s (((((s.dev.set F.TCMP_CFG_LATE (w.toNat / 2 ^ 20 % 2) u.val).set F.TCMP_CFG_PPS (w.toNat / 2 % 2) u.val).set
      F.TCMP_CFG_IRQ (w.toNat % 2) u.val).set F.TCMP_STAT_ARMED 0 u.val).set F.TCMP_STAT_HITS 0 u.val) := by
  have hpage : inPages (0xD0200 + 0x20 * u.val) = true := by
    revert u
    decide
  have hbit : bits w.toNat 0 1 = w.toNat % 2 := by rw [bits, Nat.pow_zero, Nat.div_one, Nat.pow_one]
  refine (congrArg Host.Outcome.next (State.roleWrite_plain hs (.tcmpConfigure rq u w) _ none _ _ hpage rfl rfl)).trans ?_
  rw [hbit]
  rfl

theorem gives_tcmpArm {s : State} {rq : Requester} (hs : s.Ready rq 0) (u : Fin 8) (w : Word) :
    Gives (.tcmpArm rq u w) s ((s.dev.set F.TCMP_VAL (w.toNat * 2 ^ 32 + s.dev.get F.TCMP_VAL u.val % 2 ^ 32) u.val).tcmpArm u.val) := by
  have hpage : inPages (0xD0208 + 0x20 * u.val) = true := by
    revert u
    decide
  exact congrArg Host.Outcome.next (State.roleWrite_plain hs (.tcmpArm rq u w) _ none _ _ hpage rfl rfl)

/-- Arming with the value v. -/
theorem tcmpArm_cases {s : State} {rq : Requester} (hs : s.Ready rq 0) (u : Fin 8) (w : Word) {v : Nat} {late : Int}
    (hv : v = w.toNat * 2 ^ 32 + s.dev.get F.TCMP_VAL u.val % 2 ^ 32) (hlate : late = signed 64 (unsigned 64 ((s.dev.T : Int) - v))) :
    (late < 0 → Gives (.tcmpArm rq u w) s ((s.dev.set F.TCMP_VAL v u.val).set F.TCMP_STAT_ARMED 1 u.val)) ∧
    (0 ≤ late → s.dev.get F.TCMP_CFG_LATE u.val = 0 →
      Gives (.tcmpArm rq u w) s (((s.dev.set F.TCMP_VAL v u.val).set F.TCMP_STAT_MISSED 1 u.val).set F.TCMP_STAT_ARMED 0 u.val)) ∧
    (0 ≤ late → s.dev.get F.TCMP_CFG_LATE u.val ≠ 0 → Completes (.tcmpArm rq u w) s (fun d => d.get F.TCMP_STAT_MISSED u.val = 1 ∧ s.dev.Acted d u.val ∧
      d.get F.TCMP_STAT_HITS u.val = s.dev.get F.TCMP_STAT_HITS u.val ∧
      (s.dev.get F.TCMP_PERIOD u.val = 0 → d.get F.TCMP_STAT_ARMED u.val = 0 ∧ d.get F.TCMP_VAL u.val = v) ∧
      (s.dev.get F.TCMP_PERIOD u.val ≠ 0 → d.get F.TCMP_STAT_ARMED u.val = 1 ∧
        d.get F.TCMP_VAL u.val = (v + s.dev.get F.TCMP_PERIOD u.val * (late.toNat / s.dev.get F.TCMP_PERIOD u.val + 1)) % 2 ^ 64))) := by
  have hw := w.isLt
  have hvlt : v < 2 ^ 64 := by
    have := Nat.mod_lt (s.dev.get F.TCMP_VAL u.val) (y := 2 ^ 32) (by decide)
    omega
  obtain ⟨e, he⟩ : ∃ e, e = s.dev.set F.TCMP_VAL v u.val := ⟨_, rfl⟩
  have hval : e.get F.TCMP_VAL u.val = v := by
    rw [he, Dev.get_set_self]
    exact Nat.mod_eq_of_lt hvlt
  have hT : e.T = s.dev.T := by rw [he]; rfl
  have helate : e.tcmpLate u.val = late := by rw [Dev.tcmpLate, hval, hT, hlate]
  have hkept (g : Field) (i j : Nat) (h : g.distinct F.TCMP_VAL = true) : e.get g i j = s.dev.get g i j := by rw [he, Dev.get_set_distinct _ h]
  have hbase : e.actBase u.val = s.dev.actBase u.val := by
    have hraw : e.raw = s.dev.raw := by rw [he]; rfl
    simp (disch := decide) only [Dev.actBase, hT, hraw, hkept]
  have hgives := gives_tcmpArm hs u w
  rw [← hv, ← he] at hgives
  rw [← he]
  refine ⟨fun h => hgives.congr (Dev.tcmpArm_ahead (helate ▸ h)), fun h hl => hgives.congr (Dev.tcmpArm_missed (helate ▸ h) ((hkept _ _ _ (by decide)).trans hl)),
    fun h hl => ⟨_, hgives, ?_⟩⟩
  obtain ⟨hmissed, hacted, hhits, hone, hmore⟩ := Dev.tcmpArm_acts (helate ▸ h) (by rwa [hkept _ _ _ (by decide)])
  rw [hkept _ _ _ (by decide)] at hhits hone hmore
  rw [hval] at hone hmore
  rw [helate] at hmore
  exact ⟨hmissed, hacted.of_base hbase, hhits, hone, hmore⟩

/-! ### The pulse per second (R388) -/

/-- A second of T begins. -/
def Dev.ppsSecond (d : Dev) : Dev :=
  if (d.T : Int) / 1000000000 ≤ d.tb.lastSec then d
  else
    let e : Dev := { d with tb := { d.tb with lastSec := (d.T : Int) / 1000000000 } }
    if e.get F.TB_PPS_MODE = 1 then e.ppsPulse else e

theorem gives_ppsSecond (s : State) : Gives .ppsSecond s s.dev.ppsSecond := rfl

theorem Dev.ppsLow_spec (d : Dev) : d.ppsLow.pins.ppsOut = false ∧ d.ppsLow.tb.ppsEnd = none ∧ (d.pins.ppsOut = true → Output.pps false ∈ d.ppsLow.outbox) := by
  simp only [Dev.ppsLow]
  split
  · exact ⟨rfl, rfl, fun _ => List.mem_append_right _ (List.mem_singleton_self _)⟩
  · exact ⟨Bool.eq_false_iff.mpr ‹_›, rfl, fun h => absurd h ‹_›⟩

theorem gives_ppsPulseEnd {s : State} {t : Nat} (ht : s.dev.tb.ppsEnd = some t) : Gives .ppsPulseEnd s (if t ≤ s.dev.now then s.dev.ppsLow else s.dev) := by
  simp only [Gives, exec, execPpsPulseEnd, State.onDev, ht]

theorem completes_ppsInEdge {s : State} (hon : s.dev.pwr.st = .on) : Completes .ppsInEdge s (fun d => d.get F.TB_PPS_IN_TIME = s.dev.T ∧
    d.get F.TB_PPS_IN_CNT = (s.dev.get F.TB_PPS_IN_CNT + 1) % 2 ^ 32 ∧ (d.get F.TB_IRQ_STAT).testBit 3 = true ∧ d.tb = s.dev.tb) := by
  have hT : s.dev.T < 2 ^ 64 := Nat.mod_lt _ (by decide)
  have hrun : Gives .ppsInEdge s (((s.dev.set F.TB_PPS_IN_TIME s.dev.T).set F.TB_PPS_IN_CNT ((s.dev.set F.TB_PPS_IN_TIME s.dev.T).get F.TB_PPS_IN_CNT + 1)).irq
      F.TB_IRQ_STAT F.TB_IRQ_EN 3 none) := by
    simp only [Gives, exec, execPpsInEdge, State.onDev, hon, if_true]
    rw [Dev.get_set_distinct _ (by decide)]
  refine ⟨_, hrun, ?_, ?_, Dev.get_irq_testBit _ _ _ _ _ _ (by decide), rfl⟩
  · rw [Dev.get_irq_ne _ _ _ _ _ _ (by decide), Dev.get_set_distinct _ (by decide), Dev.get_set_self]
    exact Nat.mod_eq_of_lt hT
  · rw [Dev.get_irq_ne _ _ _ _ _ _ (by decide), Dev.get_set_self, Dev.get_set_distinct _ (by decide)]
    rfl

end Sys2Proof.Machine
end


section
/-! PROOF. The Ethernet ports (R392 to R397), and the whole of pulses and frames (settles O18). -/

namespace Sys2Proof.Machine

/-! ### Messages and descriptors -/

theorem Dev.outbox_msixDue (d : Dev) (v : Nat) : ∃ l, (d.msixDue v).outbox = d.outbox ++ l ∧ ∀ p f, Output.eth p f ∉ l := by
  simp only [Dev.msixDue]
  split
  · exact ⟨[], (List.append_nil _).symm, fun _ _ => List.not_mem_nil⟩
  · refine ⟨_, rfl, fun p f h => ?_⟩
    cases List.mem_singleton.mp h

theorem Dev.mem_outbox_msixDue {d : Dev} {o : Output} (h : o ∈ d.outbox) (v : Nat) : o ∈ (d.msixDue v).outbox := by
  obtain ⟨l, hl, -⟩ := d.outbox_msixDue v
  rw [hl]
  exact List.mem_append_left _ h

theorem getD_words (l : List Word) (i : Nat) : (l.map (fun x => x.toNat)).getD i 0 = (l.getD i 0).toNat := by
  rw [List.getD_eq_getElem?_getD, List.getD_eq_getElem?_getD, List.getElem?_map]
  cases l[i]? <;> rfl

/-- A descriptor is written back: HEAD moves on, and the words and what was sent stand in the outbox. -/
theorem Dev.ethDone_spec (d : Dev) (p r a : Nat) (ws : List Nat) :
    (d.ethDone p r a ws).get F.ETH_P_R_HEAD p r = (d.get F.ETH_P_R_HEAD p r + 1) % Nat.max 1 (d.ethRing p r).n % 2 ^ 13 ∧
    (d.ethDone p r a ws).outbox = d.outbox ++ [.ring 4 p a ws] := by
  refine ⟨?_, rfl⟩
  rw [Dev.ethDone, Dev.get_set_self]
  rfl

/-! ### Reception (R392, R393, R395) -/

/-- A received frame shows the link. -/
def Dev.ethLinked (d : Dev) (p : Nat) : Dev := (d.set F.ETH_P_STAT_LINK 1 p).set F.ETH_P_STAT_PCS_LOCK 1 p

theorem Dev.get_ethLinked (d : Dev) (p : Nat) {g : Field} (h1 : g.distinct F.ETH_P_STAT_LINK = true) (h2 : g.distinct F.ETH_P_STAT_PCS_LOCK = true) (i j : Nat) :
    (d.ethLinked p).get g i j = d.get g i j := by rw [Dev.ethLinked, Dev.get_set_distinct _ h2, Dev.get_set_distinct _ h1]

theorem Dev.ethAccepts_ethLinked (d : Dev) (p : Nat) (b : List Nat) : (d.ethLinked p).ethAccepts p b = d.ethAccepts p b := by
  simp only [Dev.ethAccepts, Dev.flag, d.get_ethLinked p (g := F.ETH_P_CFG_PROMISC) (by decide) (by decide), d.get_ethLinked p (g := F.ETH_P_MAC) (by decide) (by decide)]

theorem Dev.ethDesc_ethLinked (d : Dev) (p r : Nat) : (d.ethLinked p).ethDesc p r = d.ethDesc p r := by
  simp only [Dev.ethDesc, d.get_ethLinked p (g := F.ETH_P_R_HEAD) (by decide) (by decide), d.get_ethLinked p (g := F.ETH_P_R_TAIL) (by decide) (by decide)]
  rfl

theorem Dev.domainOf_ethLinked (d : Dev) (p n : Nat) : (d.ethLinked p).domainOf n = d.domainOf n := by
  simp only [Dev.domainOf, Dev.flag, d.get_ethLinked p (g := F.TB_D_CFG_EN) (by decide) (by decide), d.get_ethLinked p (g := F.TB_D_CFG_NUMBER) (by decide) (by decide)]

/-- The domain word of a receive descriptor that is written back. -/
def domWord : Option Nat → Nat
  | some k => k * 2 ^ 31 + 2 ^ 30
  | none => 0

/-- A frame's body goes to the descriptor at a. -/
def Dev.ethDelivered (d : Dev) (p : Nat) (b desc : List Nat) (r a : Nat) (dom : Option Nat) : Dev :=
  ((d.emit (.ring 3 p (desc.getD 1 0 * 2 ^ 32 + desc.getD 0 0) (b.take (Nat.min (desc.getD 2 0 % 2 ^ 14) b.length)))).ethDone p r a
    [desc.getD 0 0, desc.getD 1 0, 2 ^ 31 + (if desc.getD 2 0 % 2 ^ 14 < b.length then 2 ^ 28 else 0) + Nat.min (desc.getD 2 0 % 2 ^ 14) b.length,
      domWord dom, d.T % 2 ^ 32, d.T / 2 ^ 32, d.timeIn dom % 2 ^ 32, d.timeIn dom / 2 ^ 32 % 2 ^ 32]).msixDue
    (d.get F.ETH_P_VEC p)

/-- The domain whose time stamps a body. -/
def Dev.stampDomain (d : Dev) (b : List Nat) : Option Nat := match ptpOffset b with | some o => d.domainOf (b.getD (o + 4) 0) | none => none

/-- A frame's body looks for a descriptor. -/
def Dev.ethSought (d : Dev) (p : Nat) (b desc : List Nat) : Dev :=
  match d.ethDesc p (if (ptpOffset b).isSome then 3 else 2) with
  | none => d.bump F.ETH_P_CNT_RX_DROP p
  | some a => d.ethDelivered p b desc (if (ptpOffset b).isSome then 3 else 2) a (d.stampDomain b)

/-- Is a frame too short, too long or wrong in its FCS. -/
def Dev.ethBad (d : Dev) (p : Nat) (f : List Nat) : Bool :=
  f.length < 64 || d.get F.ETH_P_CFG_MTU p + 4 < f.length || crc32 (f.take (f.length - 4)) ≠ ofBytesLE (f.drop (f.length - 4))

theorem Dev.ethReceive_eq (d : Dev) (p : Nat) (f desc : List Nat) : d.ethReceive p f desc =
    if (d.ethLinked p).ethBad p f then (d.ethLinked p).bump F.ETH_P_CNT_RX_BAD p
    else if !(d.ethLinked p).ethAccepts p f then d.ethLinked p
    else (d.ethLinked p).ethSought p (f.take (f.length - 4)) desc := rfl

theorem gives_ethFrameReceive (p : Fin 2) (frame : List Byte) (desc : List Word) (s : State) : Gives (.ethFrameReceive p frame desc) s
    (if s.dev.ethOn p.val then s.dev.ethReceive p.val (frame.map (fun x => x.toNat)) (desc.map (fun x => x.toNat)) else s.dev) := rfl

theorem Dev.ethBad_ethLinked (d : Dev) (p : Nat) (f : List Nat) : (d.ethLinked p).ethBad p f = true ↔
    f.length < 64 ∨ d.get F.ETH_P_CFG_MTU p + 4 < f.length ∨ crc32 (f.take (f.length - 4)) ≠ ofBytesLE (f.drop (f.length - 4)) := by
  simp only [Dev.ethBad, d.get_ethLinked p (g := F.ETH_P_CFG_MTU) (by decide) (by decide), Bool.or_eq_true, decide_eq_true_eq, or_assoc]

/-- The counters of frames that are bad or have no descriptor. -/
theorem Dev.bump_rxCounts (d : Dev) (p : Nat) :
    (d.ethLinked p).bump F.ETH_P_CNT_RX_BAD p = (d.ethLinked p).set F.ETH_P_CNT_RX_BAD (Nat.min 65535 (d.get F.ETH_P_CNT_RX_BAD p + 1)) p ∧
    (d.ethLinked p).bump F.ETH_P_CNT_RX_DROP p = (d.ethLinked p).set F.ETH_P_CNT_RX_DROP (Nat.min 32767 (d.get F.ETH_P_CNT_RX_DROP p + 1)) p := by
  rw [Dev.bump, Dev.bump, sat_min, sat_min, d.get_ethLinked p (by decide) (by decide), d.get_ethLinked p (by decide) (by decide)]
  exact ⟨rfl, rfl⟩

/-- A delivered frame: its bytes, its descriptor's words and HEAD. -/
theorem Dev.ethDelivered_spec (d : Dev) (p : Nat) (b desc : List Nat) (r a : Nat) (dom : Option Nat) :
    Output.ring 3 p (desc.getD 1 0 * 2 ^ 32 + desc.getD 0 0) (b.take (desc.getD 2 0 % 2 ^ 14)) ∈ (d.ethDelivered p b desc r a dom).outbox ∧
    Output.ring 4 p a [desc.getD 0 0, desc.getD 1 0, 2 ^ 31 + (if desc.getD 2 0 % 2 ^ 14 < b.length then 2 ^ 28 else 0) + Nat.min (desc.getD 2 0 % 2 ^ 14) b.length,
      domWord dom, d.T % 2 ^ 32, d.T / 2 ^ 32, d.timeIn dom % 2 ^ 32, d.timeIn dom / 2 ^ 32 % 2 ^ 32] ∈
      (d.ethDelivered p b desc r a dom).outbox ∧
    (d.ethDelivered p b desc r a dom).get F.ETH_P_R_HEAD p r = (d.get F.ETH_P_R_HEAD p r + 1) % Nat.max 1 (d.ethRing p r).n % 2 ^ 13 := by
  have htake : b.take (Nat.min (desc.getD 2 0 % 2 ^ 14) b.length) = b.take (desc.getD 2 0 % 2 ^ 14) := List.take_eq_take_iff.mpr (by
    change min (min _ _) _ = min _ _
    rw [Nat.min_assoc, Nat.min_self])
  obtain ⟨y, hy⟩ : ∃ y, y = d.emit (.ring 3 p (desc.getD 1 0 * 2 ^ 32 + desc.getD 0 0) (b.take (desc.getD 2 0 % 2 ^ 14))) := ⟨_, rfl⟩
  have hsent : Output.ring 3 p (desc.getD 1 0 * 2 ^ 32 + desc.getD 0 0) (b.take (desc.getD 2 0 % 2 ^ 14)) ∈ y.outbox := by
    rw [hy]
    exact List.mem_append_right _ (List.mem_singleton_self _)
  have hhead : y.get F.ETH_P_R_HEAD p r = d.get F.ETH_P_R_HEAD p r ∧ y.ethRing p r = d.ethRing p r := by
    rw [hy]
    exact ⟨rfl, rfl⟩
  unfold Dev.ethDelivered
  rw [htake, ← hy]
  generalize [desc.getD 0 0, desc.getD 1 0, 2 ^ 31 + (if desc.getD 2 0 % 2 ^ 14 < b.length then 2 ^ 28 else 0) + Nat.min (desc.getD 2 0 % 2 ^ 14) b.length,
      domWord dom, d.T % 2 ^ 32, d.T / 2 ^ 32, d.timeIn dom % 2 ^ 32, d.timeIn dom / 2 ^ 32 % 2 ^ 32] = ws
  obtain ⟨hget, hout⟩ := y.ethDone_spec p r a ws
  refine ⟨Dev.mem_outbox_msixDue ?_ _, Dev.mem_outbox_msixDue ?_ _, ?_⟩
  · rw [hout]
    exact List.mem_append_left _ hsent
  · rw [hout]
    exact List.mem_append_right _ (List.mem_singleton_self _)
  · rw [Dev.get_of_regs (Dev.regs_msixDue ..), hget, hhead.1, hhead.2]

/-! ### Transmission (R394, R396) -/

/-- A transmit descriptor is written back, and its ring's message sent where it asks for one. -/
def Dev.ethSent (d : Dev) (p r a w2 : Nat) (ws : List Nat) : Dev := if w2.testBit 19 then (d.ethDone p r a ws).msixDue ((d.ethDone p r a ws).get F.ETH_P_VEC p) else d.ethDone p r a ws

theorem Dev.ethSent_spec (d : Dev) (p r a w2 : Nat) (ws : List Nat) :
    (d.ethSent p r a w2 ws).get F.ETH_P_R_HEAD p r = (d.get F.ETH_P_R_HEAD p r + 1) % Nat.max 1 (d.ethRing p r).n % 2 ^ 13 ∧
    (∀ o ∈ d.outbox, o ∈ (d.ethSent p r a w2 ws).outbox) ∧ Output.ring 4 p a ws ∈ (d.ethSent p r a w2 ws).outbox ∧
    (∀ f, Output.eth p f ∈ (d.ethSent p r a w2 ws).outbox → Output.eth p f ∈ d.outbox) := by
  obtain ⟨hget, hout⟩ := d.ethDone_spec p r a ws
  have hkept (o : Output) (ho : o ∈ d.outbox) : o ∈ (d.ethDone p r a ws).outbox := hout ▸ List.mem_append_left _ ho
  have hring : Output.ring 4 p a ws ∈ (d.ethDone p r a ws).outbox := hout ▸ List.mem_append_right _ (List.mem_singleton_self _)
  have hback (f : List Nat) (h : Output.eth p f ∈ (d.ethDone p r a ws).outbox) : Output.eth p f ∈ d.outbox := by
    rw [hout, List.mem_append] at h
    refine h.resolve_right fun h => ?_
    cases List.mem_singleton.mp h
  unfold Dev.ethSent
  split
  · obtain ⟨l, hl, hno⟩ := (d.ethDone p r a ws).outbox_msixDue ((d.ethDone p r a ws).get F.ETH_P_VEC p)
    refine ⟨by rw [Dev.get_of_regs (Dev.regs_msixDue ..), hget], fun o ho => Dev.mem_outbox_msixDue (hkept o ho) _, Dev.mem_outbox_msixDue hring _, fun f h => ?_⟩
    rw [hl, List.mem_append] at h
    exact hback f (h.resolve_right (hno p f))
  · exact ⟨hget, hkept, hring, hback⟩

/-- The words of a transmit descriptor that is written back: its status, and the departure time where it was asked for. -/
def txWords (desc : List Nat) (status : Nat) (stamped : Bool) (dep : Nat) : List Nat :=
  [desc.getD 0 0, desc.getD 1 0, 2 ^ 31 + status * 2 ^ 28 + desc.getD 2 0 % 2 ^ 28, desc.getD 3 0, desc.getD 4 0, desc.getD 5 0] ++
    (if stamped then [dep % 2 ^ 32, dep / 2 ^ 32 % 2 ^ 32] else [desc.getD 6 0, desc.getD 7 0])

section
variable {d : Dev} {p r a : Nat} {desc frame : List Nat} {len kind : Nat} {b : List Nat} {edit v6 : Bool}
  (hlen : len = desc.getD 2 0 % 2 ^ 14) (hkind : kind = desc.getD 3 0 / 2 ^ 16 % 4) (hb : b = (frame ++ List.replicate len 0).take len)
  (hedit : edit = (decide (d.get F.ETH_P_CFG_ONE_STEP p ≠ 0) && (desc.getD 2 0).testBit 18 && (kind == 1 || kind == 2))) (hv6 : v6 = decide (be16 b (typeAt b) = 0x86DD))
include hlen hkind hb hedit hv6

/-- A transmit descriptor: its frame goes out unless it is empty or longer than MTU, and the descriptor is written back. -/
theorem Dev.ethTransmit_eq : ∃ (out ws : List Nat) (dep : Nat), dep = d.timeIn (if ((desc.getD 2 0).testBit 17 || edit) && (ptpOffset b).isSome then some (desc.getD 3 0 / 2 ^ 31 % 2) else none) ∧
    out = (if edit && !v6 then oneStep b (desc.getD 3 0 % 2 ^ 16) kind dep (desc.getD 5 0 * 2 ^ 32 + desc.getD 4 0) else b) ∧
    ws.getD 2 0 = 2 ^ 31 + (if d.get F.ETH_P_CFG_MTU p < len then 1 else if edit && v6 then 2 else 0) * 2 ^ 28 + desc.getD 2 0 % 2 ^ 28 ∧
    (0 < len → len ≤ d.get F.ETH_P_CFG_MTU p → (desc.getD 2 0).testBit 17 || (edit && v6) → ws.getD 6 0 = dep % 2 ^ 32 ∧ ws.getD 7 0 = dep / 2 ^ 32 % 2 ^ 32) ∧
    d.ethTransmit p r a desc frame =
      (if len = 0 || d.get F.ETH_P_CFG_MTU p < len then d else d.emit (.eth p (out ++ bytesLE 4 (crc32 out)))).ethSent p r a (desc.getD 2 0) ws := by
  obtain ⟨stamped, hstamped⟩ : ∃ stamped, stamped = (((desc.getD 2 0).testBit 17 || (edit && v6)) && decide (len ≠ 0) && !decide (d.get F.ETH_P_CFG_MTU p < len)) := ⟨_, rfl⟩
  obtain ⟨dep, hdep⟩ : ∃ dep, dep = d.timeIn (if ((desc.getD 2 0).testBit 17 || edit) && (ptpOffset b).isSome then some (desc.getD 3 0 / 2 ^ 31 % 2) else none) := ⟨_, rfl⟩
  refine ⟨_, txWords desc (if d.get F.ETH_P_CFG_MTU p < len then 1 else if edit && v6 then 2 else 0) stamped dep, dep, hdep, rfl, rfl, fun hpos hfits hts => ?_, ?_⟩
  · have hyes : stamped = true := by
      rw [hstamped, hts, decide_eq_true (Nat.ne_of_gt hpos), decide_eq_false (Nat.not_lt.mpr hfits)]
      rfl
    rw [hyes]
    exact ⟨rfl, rfl⟩
  · subst hlen hkind hb hedit hv6 hstamped hdep
    rfl

end

/-- What a transmit ring sends. -/
def Dev.ethSends (d : Dev) (p r : Nat) (desc frame : List Nat) : Dev :=
  if d.ethOn p && (r = 1 || (d.ethDesc p 1).isNone) then
    match d.ethDesc p r with
    | some a => d.ethTransmit p r a desc frame
    | none => d
  else d

theorem gives_ethFrameTransmit (p r : Fin 2) (desc : List Word) (frame : List Byte) (s : State) : Gives (.ethFrameTransmit p r desc frame) s
    (s.dev.ethSends p.val r.val (desc.map (fun x => x.toNat)) (frame.map (fun x => x.toNat))) := rfl

theorem Dev.ethSends_some {d : Dev} {p r a : Nat} (hon : d.ethOn p = true) (hfirst : r = 1 ∨ d.ethDesc p 1 = none) (ha : d.ethDesc p r = some a) (desc frame : List Nat) :
    d.ethSends p r desc frame = d.ethTransmit p r a desc frame := by
  have hcond : (d.ethOn p && (decide (r = 1) || (d.ethDesc p 1).isNone)) = true := by
    rw [hon, Bool.true_and, Bool.or_eq_true, decide_eq_true_eq, Option.isNone_iff_eq_none]
    exact hfirst
  rw [Dev.ethSends, if_pos hcond, ha]

theorem Dev.ethSends_rest {d : Dev} {p r : Nat} (h : (r = 0 ∧ d.ethDesc p 1 ≠ none) ∨ d.ethDesc p r = none) (desc frame : List Nat) : d.ethSends p r desc frame = d := by
  unfold Dev.ethSends
  split
  · next hc =>
    rw [Bool.and_eq_true, Bool.or_eq_true, decide_eq_true_eq, Option.isNone_iff_eq_none] at hc
    rcases h with ⟨rfl, hne⟩ | hnone
    · exact absurd (hc.2.resolve_left (by decide)) hne
    · rw [hnone]
  · rfl

/-! ### The statement's parts -/

/-- While a port does not run, its frames and its link's loss do nothing. -/
theorem eth_off {s : State} {p : Fin 2} (hoff : s.dev.ethOn p.val = false) : (∀ f e, Gives (.ethFrameReceive p f e) s s.dev) ∧
    (∀ r e f, Gives (.ethFrameTransmit p r e f) s s.dev) ∧ Gives (.ethLinkLoss p) s s.dev := by
  refine ⟨fun f e => (gives_ethFrameReceive p f e s).congr (if_neg (by rw [hoff]; exact Bool.false_ne_true)), fun r e f => (gives_ethFrameTransmit p r e f s).congr ?_, ?_⟩
  · rw [Dev.ethSends, hoff]
    rfl
  · simp only [Gives, exec, execEthLinkLoss, State.onDev, hoff, Bool.false_eq_true, if_false]

theorem eth_linkLoss {s : State} {p : Fin 2} (hon : s.dev.ethOn p.val = true) : Completes (.ethLinkLoss p) s (fun d =>
    d = ((s.dev.set F.ETH_P_STAT_LINK 0 p.val).set F.ETH_P_STAT_PCS_LOCK 0 p.val).report (310 + p.val) ∧
      d.get F.ETH_P_STAT_LINK p.val = 0 ∧ has d.flt.status (fkey (310 + p.val) 0) = true) := by
  refine ⟨_, ?_, rfl, ?_, Dev.has_status_report _ _ _ (by decide)⟩
  · simp only [exec, execEthLinkLoss, State.onDev, hon, if_true]
  · rw [Dev.get_report _ _ _ (by decide) p.isLt (by decide), Dev.get_set_distinct _ (by decide), Dev.get_set_self]
    rfl

/-- A frame that stands in a running port's buffer. -/
theorem eth_receive {s : State} {p : Fin 2} (hon : s.dev.ethOn p.val = true) {frame : List Byte} (desc : List Word) {f : List Nat} (hf : f = frame.map (fun x => x.toNat)) :
    Gives (.ethFrameReceive p frame desc) s (s.dev.ethReceive p.val f (desc.map (fun x => x.toNat))) := hf ▸ (gives_ethFrameReceive p frame desc s).congr (if_pos hon)

/-- What becomes of a good frame that is taken. -/
theorem Dev.ethReceive_taken {d : Dev} {p : Nat} {f : List Nat} (hgood : (d.ethLinked p).ethBad p f ≠ true) (htaken : d.ethAccepts p f = true) (desc : List Nat) :
    d.ethReceive p f desc = (d.ethLinked p).ethSought p (f.take (f.length - 4)) desc := by
  rw [Dev.ethReceive_eq, if_neg hgood, Dev.ethAccepts_ethLinked, htaken]
  rfl

theorem Dev.ethSought_none {d : Dev} {p r : Nat} {b : List Nat} (hr : r = if (ptpOffset b).isSome then 3 else 2) (h : d.ethDesc p r = none) (desc : List Nat) :
    d.ethSought p b desc = d.bump F.ETH_P_CNT_RX_DROP p := by rw [Dev.ethSought, ← hr, h]

theorem Dev.ethSought_some {d : Dev} {p r a : Nat} {b : List Nat} (hr : r = if (ptpOffset b).isSome then 3 else 2) (h : d.ethDesc p r = some a) (desc : List Nat) :
    d.ethSought p b desc = d.ethDelivered p b desc r a (d.stampDomain b) := by rw [Dev.ethSought, ← hr, h]

theorem Dev.stampDomain_ethLinked (d : Dev) (p : Nat) (b : List Nat) : (d.ethLinked p).stampDomain b = (ptpOffset b).bind (fun x => d.domainOf (b.getD (x + 4) 0)) := by
  rw [Dev.stampDomain]
  cases ptpOffset b with
  | none => rfl
  | some x => exact Dev.domainOf_ethLinked ..

theorem Dev.timeIn_ethLinked (d : Dev) (p : Nat) (k : Option Nat) : (d.ethLinked p).timeIn k = d.timeIn k := by
  cases k with
  | none => rfl
  | some k =>
    have hdom : (d.ethLinked p).domT k = d.domT k := by
      rw [Dev.domT, d.get_ethLinked p (by decide) (by decide)]
      rfl
    rw [Dev.timeIn, Dev.timeIn, hdom]

theorem eth_delivered {s : State} {p : Fin 2} (hon : s.dev.ethOn p.val = true) {frame : List Byte} {desc : List Word} {f b : List Nat} (hf : f = frame.map (fun x => x.toNat))
    (hb : b = f.take (f.length - 4)) (hgood : (s.dev.ethLinked p.val).ethBad p.val f ≠ true) (htaken : s.dev.ethAccepts p.val f = true) {r a room : Nat} {w : Nat → Nat}
    {dom : Option Nat} (hr : r = if (ptpOffset b).isSome then 3 else 2) (ha : s.dev.ethDesc p.val r = some a) (hw : ∀ i, w i = (desc.getD i 0).toNat) (hroom : room = w 2 % 2 ^ 14)
    (hdom : dom = (ptpOffset b).bind (fun x => s.dev.domainOf (b.getD (x + 4) 0))) : Completes (.ethFrameReceive p frame desc) s (fun d =>
      Output.ring 3 p.val (w 1 * 2 ^ 32 + w 0) (b.take room) ∈ d.outbox ∧
      Output.ring 4 p.val a [w 0, w 1, 2 ^ 31 + (if room < b.length then 2 ^ 28 else 0) + Nat.min room b.length,
        domWord dom, s.dev.T % 2 ^ 32, s.dev.T / 2 ^ 32,
        s.dev.timeIn dom % 2 ^ 32, s.dev.timeIn dom / 2 ^ 32 % 2 ^ 32] ∈ d.outbox ∧
      d.get F.ETH_P_R_HEAD p.val r = (s.dev.get F.ETH_P_R_HEAD p.val r + 1) % Nat.max 1 (s.dev.ethRing p.val r).n % 2 ^ 13) := by
  have hword (i : Nat) : (desc.map (fun x => x.toNat)).getD i 0 = w i := (getD_words desc i).trans (hw i).symm
  have hspec := (s.dev.ethLinked p.val).ethDelivered_spec p.val b (desc.map (fun x => x.toNat)) r a dom
  rw [hword, hword, hword, ← hroom, Dev.timeIn_ethLinked, s.dev.get_ethLinked p.val (by decide) (by decide)] at hspec
  refine ⟨_, eth_receive hon desc hf, ?_⟩
  rw [Dev.ethReceive_taken hgood htaken, ← hb, Dev.ethSought_some hr ((Dev.ethDesc_ethLinked ..).trans ha), Dev.stampDomain_ethLinked, ← hdom]
  exact hspec

theorem eth_sent {s : State} {p r : Fin 2} (hon : s.dev.ethOn p.val = true) {desc : List Word} {frame : List Byte} {a len kind : Nat} {w : Nat → Nat} {b : List Nat} {edit v6 : Bool}
    (hfirst : r.val = 1 ∨ s.dev.ethDesc p.val 1 = none) (ha : s.dev.ethDesc p.val r.val = some a) (hw : ∀ i, w i = (desc.getD i 0).toNat) (hlen : len = w 2 % 2 ^ 14)
    (hkind : kind = w 3 / 2 ^ 16 % 4) (hb : b = ((frame.map (fun (x : Byte) => x.toNat)) ++ List.replicate len 0).take len)
    (hedit : edit = (decide (s.dev.get F.ETH_P_CFG_ONE_STEP p.val ≠ 0) && (w 2).testBit 18 && (kind == 1 || kind == 2))) (hv6 : v6 = decide (be16 b (typeAt b) = 0x86DD)) :
    Completes (.ethFrameTransmit p r desc frame) s (fun d =>
      d.get F.ETH_P_R_HEAD p.val r.val = (s.dev.get F.ETH_P_R_HEAD p.val r.val + 1) % Nat.max 1 (s.dev.ethRing p.val r.val).n % 2 ^ 13 ∧
      (len = 0 ∨ s.dev.get F.ETH_P_CFG_MTU p.val < len → ∀ f, Output.eth p.val f ∈ d.outbox → Output.eth p.val f ∈ s.dev.outbox) ∧
      (0 < len → len ≤ s.dev.get F.ETH_P_CFG_MTU p.val → ∀ out dep, dep = s.dev.timeIn (if ((w 2).testBit 17 || edit) && (ptpOffset b).isSome then some (w 3 / 2 ^ 31 % 2) else none) →
        out = (if edit && !v6 then oneStep b (w 3 % 2 ^ 16) kind dep (w 5 * 2 ^ 32 + w 4) else b) →
        Output.eth p.val (out ++ bytesLE 4 (crc32 out)) ∈ d.outbox ∧
        ((w 2).testBit 17 || (edit && v6) → ∃ ws, Output.ring 4 p.val a ws ∈ d.outbox ∧ ws.getD 6 0 = dep % 2 ^ 32 ∧ ws.getD 7 0 = dep / 2 ^ 32 % 2 ^ 32)) ∧
      ∃ ws, Output.ring 4 p.val a ws ∈ d.outbox ∧ ws.getD 2 0 = 2 ^ 31 + (if s.dev.get F.ETH_P_CFG_MTU p.val < len then 1 else if edit && v6 then 2 else 0) * 2 ^ 28 + w 2 % 2 ^ 28) := by
  have hword (i : Nat) : w i = (desc.map (fun x => x.toNat)).getD i 0 := (hw i).trans (getD_words desc i).symm
  rw [hword] at hlen hkind hedit
  obtain ⟨out, ws, dep, hdep, hout, hstatus, hstamp, htx⟩ := Dev.ethTransmit_eq (d := s.dev) (p := p.val) (r := r.val) (a := a) hlen hkind hb hedit hv6
  refine ⟨_, (gives_ethFrameTransmit p r desc frame s).congr ((Dev.ethSends_some hon hfirst ha _ _).trans htx), ?_⟩
  obtain ⟨y, hy⟩ : ∃ y, y = if len = 0 || s.dev.get F.ETH_P_CFG_MTU p.val < len then s.dev else s.dev.emit (.eth p.val (out ++ bytesLE 4 (crc32 out))) := ⟨_, rfl⟩
  obtain ⟨hhead, hkept, hring, hback⟩ := y.ethSent_spec p.val r.val a ((desc.map (fun x => x.toNat)).getD 2 0) ws
  have hsame : y.get F.ETH_P_R_HEAD p.val r.val = s.dev.get F.ETH_P_R_HEAD p.val r.val ∧ y.ethRing p.val r.val = s.dev.ethRing p.val r.val := by
    rw [hy]
    split <;> exact ⟨rfl, rfl⟩
  rw [← hy]
  simp only [hword]
  refine ⟨by rw [hhead, hsame.1, hsame.2], fun hno f hf => ?_, fun hpos hfits out' dep' hdep' hout' => ⟨?_, fun hts => ⟨ws, hring, ?_⟩⟩, ws, hring, hstatus⟩
  · have hrest : y = s.dev := by
      rw [hy, if_pos]
      rw [Bool.or_eq_true, decide_eq_true_eq, decide_eq_true_eq]
      exact hno
    exact hrest ▸ hback f hf
  · have hd : dep' = dep := hdep'.trans hdep.symm
    have ho : out' = out := by rw [hout', hd, hout]
    have hgo : y = s.dev.emit (.eth p.val (out ++ bytesLE 4 (crc32 out))) := by
      rw [hy, if_neg]
      rw [Bool.or_eq_true, decide_eq_true_eq, decide_eq_true_eq]
      omega
    refine hkept _ ?_
    rw [hgo, ho]
    exact List.mem_append_right _ (List.mem_singleton_self _)
  · have hd : dep' = dep := hdep'.trans hdep.symm
    rw [hd]
    exact hstamp hpos hfits hts

/-- Settles O18: compares, pulses, and frames received and sent. -/
theorem pulsesAndFrames : Obligations.PulsesAndFrames := by
  unfold Obligations.PulsesAndFrames
  refine ⟨?_, ?_, fun p s => ⟨eth_off, fun hon => ⟨eth_linkLoss hon, ?_, fun r desc frame hno => (gives_ethFrameTransmit p r desc frame s).congr (Dev.ethSends_rest hno ..),
    fun r desc frame a len kind w b edit v6 => eth_sent hon⟩, fun rq hs => ?_⟩⟩
  · rintro u s p rfl
    refine ⟨fun rq hs w => ⟨gives_tcmpConfigure hs u w, fun v late hv hlate => ?_⟩, ?_⟩
    · obtain ⟨hahead, hmissed, hacts⟩ := tcmpArm_cases hs u w hv hlate
      refine ⟨hahead, hmissed, fun hge hl => ?_⟩
      obtain ⟨d, hd, hm, hacted, hhits, hone, hmore⟩ := hacts hge hl
      exact ⟨d, hd, hm, hacted.time, hhits, hacted.irq, hacted.pulse, hone, hmore⟩
    · rintro late next v rfl hv hnext
      refine ⟨fun h => (gives_tcmpHit s u).congr (Dev.tcmpHit_rest h), fun hge harmed => ⟨_, gives_tcmpHit s u, ?_⟩⟩
      obtain ⟨hacted, hhits, hone, hmore⟩ := Dev.tcmpHit_acts hge harmed
      exact ⟨hacted.time, hhits, hacted.irq, hacted.pulse, hone, fun hp => (hmore v next hv hnext hp).1, fun hp => (hmore v next hv hnext hp).2⟩
  · rintro s sec rfl
    refine ⟨fun hle => (gives_ppsSecond s).congr (if_pos hle), ?_, fun t ht => ⟨fun hle => ⟨_, (gives_ppsPulseEnd ht).congr (if_pos hle), rfl, s.dev.ppsLow_spec⟩, fun hlt =>
      (gives_ppsPulseEnd ht).congr (if_neg (Nat.not_le.mpr hlt))⟩, fun hnone => ?_, completes_ppsInEdge, fun hoff => ?_⟩
    · rintro hlt e rfl
      refine ⟨fun hmode => (gives_ppsSecond s).congr ((if_neg (Int.not_le.mpr hlt)).trans (if_neg hmode)), fun hmode =>
        ⟨_, (gives_ppsSecond s).congr ((if_neg (Int.not_le.mpr hlt)).trans (if_pos hmode)), rfl, ?_⟩⟩
      obtain ⟨-, hout, htb, -, hsent⟩ := Dev.ppsPulse_spec ({ s.dev with tb := { s.dev.tb with lastSec := (s.dev.T : Int) / 1000000000 } } : Dev)
      exact ⟨hout, congrArg TbSt.ppsEnd htb, hsent⟩
    · simp only [Gives, exec, execPpsPulseEnd, State.onDev, hnone]
    · simp only [Gives, exec, execPpsInEdge, State.onDev, hoff, if_false]
  · rintro frame desc b f e bad hf hb rfl rfl
    have hbad := s.dev.ethBad_ethLinked p.val f
    refine ⟨fun h => (eth_receive hon desc hf).congr ?_, fun hgood hno => (eth_receive hon desc hf).congr ?_, fun hgood htaken o r ho hr => ⟨fun hnone => (eth_receive hon desc hf).congr ?_,
      fun a room w dom ha hw hroom hdom => eth_delivered hon hf hb (fun h => hgood (hb ▸ hbad.mp h)) htaken (ho ▸ hr) ha hw hroom (ho ▸ hdom)⟩⟩
    · exact (if_pos (hbad.mpr (hb ▸ h))).trans (s.dev.bump_rxCounts p.val).1
    · rw [Dev.ethReceive_eq, if_neg (fun h => hgood (hb ▸ hbad.mp h)), Dev.ethAccepts_ethLinked, hno]
      rfl
    · rw [Dev.ethReceive_taken (fun h => hgood (hb ▸ hbad.mp h)) htaken, ← hb, Dev.ethSought_none (ho ▸ hr) ((Dev.ethDesc_ethLinked ..).trans hnone)]
      exact (s.dev.bump_rxCounts p.val).2
  · exact congrArg Host.Outcome.next (State.row_none hs (.ethCountClear rq p) (0xE0110 + 0x100 * p.val) (2 ^ 31) ⟨31, none⟩ _ (by revert p; decide)
      (by revert p; cases rq <;> decide +kernel) (by decide) (by decide) (by decide))

end Sys2Proof.Machine
end


section
/-! PROOF. A key staged before the boot (O23). -/

namespace Sys2Proof.Machine

/-! ### What the choice of a boot image leaves of the role keys -/

theorem Dev.keys_setCask (d : Dev) (n v : Nat) : (d.setCask n v).mram.keys = d.mram.keys := rfl

theorem Dev.keys_setCasks (d : Dev) (n : Nat) (vs : List Nat) : (d.setCasks n vs).mram.keys = d.mram.keys :=
  foldl_keeps (fun e : Dev => e.mram.keys) (fun d k => d.setCask (n + k) (vs.getD k 0)) (fun _ _ => rfl) _ d

theorem Dev.keys_voteCasks (d : Dev) (ns : List Nat) : (d.voteCasks ns).mram.keys = d.mram.keys :=
  foldl_keeps (fun e : Dev => e.mram.keys) Dev.voteCask (fun e n => congrArg Mram.keys (e.voteCask_view n).2) ns d

theorem Dev.keys_modPwr (d : Dev) (f : PowerSt → PowerSt) : (d.modPwr f).mram.keys = d.mram.keys := rfl

theorem Dev.keys_followPhase (d : Dev) : d.followPhase.mram.keys = d.mram.keys := by
  simp only [Dev.followPhase]
  split <;> rfl

theorem Dev.keys_startImage (d : Dev) (i : BootImage) (slot : Nat) : (d.startImage i slot).mram.keys = d.mram.keys := by
  simp only [Dev.startImage, Dev.keys_followPhase, Dev.set_mram, Dev.keys_modPwr, Dev.keys_setCasks, Dev.keys_setCask, Dev.keys_voteCasks]

theorem Dev.keys_bootImage (d : Dev) (f : BootFlash) : (d.bootImage f).mram.keys = d.mram.keys := by
  have hset (e : Dev) (g : Field) (v : Nat) : (e.set g v).mram = e.mram := rfl
  have hvote : (d.voteCasks [40]).mram.keys = d.mram.keys := Dev.keys_voteCasks d [40]
  unfold Dev.bootImage
  generalize d.voteCasks [40] = e at hvote
  dsimp only
  split
  · rw [Dev.keys_startImage, hset, hset, hset, hset, hvote]
  · rw [hset, hset, hset, hset, hset, hvote]

/-! ### What the rest of the boot leaves of the role keys -/

theorem Dev.mram_report (d : Dev) (s i : Nat) : (d.report s i).mram = d.mram := Dev.mram_of_fixed (Dev.fixed_report ..)

theorem Dev.keys_loadMapEntries (d : Dev) : d.loadMapEntries.mram.keys = d.mram.keys := by
  refine Eq.trans ?_ (Dev.keys_voteCasks d (span 0 3))
  unfold Dev.loadMapEntries
  generalize d.voteCasks (span 0 3) = e
  dsimp only
  split
  · split
    · rfl
    · exact congrArg Mram.keys (Dev.mram_report ..)
  · split
    · rfl
    · exact congrArg Mram.keys (Dev.mram_report ..)

theorem Dev.mram_loadTable (d : Dev) (kind set port : Nat) (bank : RegFile) : (d.loadTable kind set port bank).mram = d.mram :=
  foldl_keeps Dev.mram (fun (d : Dev) (e : Nat × Nat) => d.setBar2 e.1 e.2) (fun _ _ => rfl) bank _

theorem Dev.mram_withVin (d : Dev) (v : VinSt) : ({ d with vin := v } : Dev).mram = d.mram := rfl

theorem Dev.mram_restoreTone (d : Dev) (set : Nat) (body : List Nat) : (d.restoreTone set body).mram = d.mram := by
  unfold Dev.restoreTone
  refine (foldl_keeps Dev.mram _ (fun d k => ?_) _ _).trans ?_
  · extract_lets e port b d' t
    exact (Dev.mram_withVin d' _).trans (Dev.mram_loadTable ..)
  · rfl

theorem Dev.mram_restoreNoz (d : Dev) (body : List Nat) : (d.restoreNoz body).mram = d.mram := by
  refine foldl_keeps Dev.mram _ (fun d p => ?_) _ d
  dsimp only
  split
  · rfl
  · exact Dev.mram_loadTable d ..

theorem Dev.mram_calApply (d : Dev) (kind : Nat) (body : List Nat) : (d.calApply kind body).mram = d.mram := by
  unfold Dev.calApply
  dsimp only
  split
  · exact Dev.mram_restoreTone d kind body
  · split
    · exact Dev.mram_restoreNoz d body
    · refine foldl_keeps Dev.mram _ (fun d k => ?_) _ d
      simp only [Dev.set_mram]
    · rfl
    · refine foldl_keeps Dev.mram _ (fun d k => ?_) _ d
      simp only [Dev.set_mram]
    · refine foldl_keeps Dev.mram _ (fun d k => ?_) _ d
      simp only [Dev.set_mram]
    · rfl

theorem Dev.mram_reportIf (d : Dev) (c : Bool) (f : Field) (v s : Nat) :
    (if c then (d.set f v).report s else d).mram = d.mram := by
  split
  · exact Dev.mram_report ..
  · rfl

theorem Dev.mram_calRestore (d : Dev) : d.calRestore.mram = d.mram := by
  refine foldl_keeps Dev.mram _ (fun d kind => ?_) _ d
  dsimp only
  have hlost (e : Dev) : (if (d.calPick kind).2.2 then e.report 295 else e).mram = e.mram := by
    split
    · exact Dev.mram_report ..
    · rfl
  split
  · exact (Dev.mram_calApply ..).trans ((hlost _).trans (Dev.mram_reportIf ..))
  · exact (hlost _).trans (Dev.mram_reportIf ..)

theorem Dev.mram_release (d : Dev) : d.release.mram = d.mram := by
  have hlatch : (match d.newestThermal with
      | some r =>
        let d := d.set F.THM_EVT_STAT_NEXT ((r.index + 1) % 8)
        if bit (r.words.getD 6 0) 31 then d
        else (((d.set F.THM_STAT_SHUT_LATCH 1).set F.THM_EVT_STAT_PENDING 1).irq F.THM_IRQ_STAT F.THM_IRQ_EN 2 none).report 61
      | none => d).mram = d.mram := by
    split
    · dsimp only
      split
      · rfl
      · exact (Dev.mram_report ..).trans (Dev.mram_of_fixed (Dev.fixed_irq ..))
    · rfl
  exact (Dev.mram_of_fixed (Dev.fixed_settle ..)).trans hlatch

/-! ### A commit that takes a staged key -/

theorem Dev.loadBond_of {d e : Dev} {v : List Nat} (he : e = d.voteCasks (span 4 11)) (hb : e.mram.bond = some (v.map bondPair)) (hlen : v.length = 27)
    (hpair : (v.map bondPair).all matchedPair = true) (hdig : bondDigest v = (List.range 8).map (fun k => e.cask (4 + k))) :
    d.loadBond = { ({ e with bond := ({ e.bond with pairs := v.map bondPair } : Bonded).feed } : Dev).set F.SAFE_PORT_STAT_STORE_OK 1 with
      safe := { e.safe with loaded := true } } := by
  have hfst : (v.map bondPair).map Prod.fst = v := (List.map_map ..).trans (List.map_id v)
  unfold Dev.loadBond
  rw [← he]
  simp only [hb, hpair, hfst, hdig, List.length_map, hlen, decide_true, Bool.and_self, if_true, Option.getD_some]
  rfl

theorem State.keys_checkStaged_foldl {β : Type} {s : State} {k : StagedKey} (f : Dev → β → AuditEntry) (l : List β) (hk : s.dev.staged = some k)
    (heq : keyDigest k.key = s.dev.roleDigest k.target) (hroom : s.audit.queue.length + l.length + 1 ≤ 32) :
    ((l.foldl (fun s b => s.pushAudit none (f s.dev b)) s).onDev Dev.checkRoleKeys).checkStaged.dev.mram.keys =
      setAt s.dev.mram.keys (k.target - 1) (fun _ => some k.key) := by
  obtain ⟨hmram, hstaged⟩ := s.dev.checkRoleKeys_keeps
  have hrole : s.dev.checkRoleKeys.roleDigest k.target = s.dev.roleDigest k.target := by simp only [Dev.roleDigest, Dev.bonded, Dev.bond_checkRoleKeys]
  simp only [State.foldl_pushAudit]
  obtain ⟨-, -, -, hwrite⟩ := State.checkStaged_commits
    (s := (State.mk s.dev { s.audit with queue := s.audit.queue ++ l.map (fun b => (none, f s.dev b)) } s.pending).onDev Dev.checkRoleKeys)
    (hstaged.trans hk) (heq.trans hrole.symm) (by simpa only [State.onDev, List.length_append, List.length_map] using hroom)
  exact (congrArg Mram.keys hwrite).trans (congrArg (fun m : Mram => setAt m.keys (k.target - 1) (fun _ => some k.key)) hmram)

/-- A commit after which the staged key is its target's takes that key too (R56). -/
theorem State.keys_commitBond {s : State} {d : Dev} {k : StagedKey} {v : List Nat} (agent : Nat) (hd : s.dev.putBond v = d) (hk : d.staged = some k)
    (heq : keyDigest k.key = d.roleDigest k.target) (hroom : s.audit.queue.length + (changedEntries (s.dev.bond.pairs.map (·.1)) v).length + 1 ≤ 32) :
    (s.commitBond agent v).dev.mram.keys = setAt d.mram.keys (k.target - 1) (fun _ => some k.key) := by
  obtain ⟨e, he⟩ : ∃ e, e = d.mramWrote 54 := ⟨_, rfl⟩
  have hstaged : e.staged = some k := by rw [he]; exact hk
  have hrole : keyDigest k.key = e.roleDigest k.target := by rw [he]; exact heq
  have hkeys : e.mram.keys = d.mram.keys := by rw [he]; rfl
  unfold State.commitBond
  rw [hd, ← he, ← hkeys]
  have h := State.keys_checkStaged_foldl (s := { s with dev := { e with mram := { e.mram with bond := some (v.map bondPair) } } })
    (fun d e => bondEntry d.T agent e) (changedEntries (s.dev.bond.pairs.map (·.1)) v) hstaged hrole hroom
  dsimp only at h ⊢
  exact h

theorem State.applyParam_ok {s t : State} {l v : List Nat} {es : List (Nat × Nat)} {no : Nat} (ht : t = s.onDev (fun d => d.voteCasks [24]))
    (h : t.dev.checkParam l = .ok es no) (hv : v = applyEntries (t.dev.bond.pairs.map Prod.fst) (es.map (fun e => (e.1, clampEntry e.1 e.2))))
    (hroom : t.hasRoom ((changedEntries (t.dev.bond.pairs.map Prod.fst) v).length + 1) = true) :
    s.applyParam l = (t.commitBond 4 v).onDev (fun d => (d.set F.SAFE_PORT_STAT_IMAGE_OK 1).setCask 24 no) := by
  unfold State.applyParam
  rw [← ht]
  simp only [h, ← hv, hroom, if_true]

/-- Steps 2 to 4 of a boot. -/
def Dev.bootCask (d : Dev) : Dev := ((d.modPwr (fun p => { p with booted := true })).set F.ECC_STAT_SRAM_DONE 1).lookAtPins.trainLink.loadCask

/-- The role keys after a boot are those after its parameter image. -/
theorem State.keys_boot {s t : State} {f : BootFlash} {d : Dev} (hon : s.dev.pwr.st = .on) (hnew : s.dev.pwr.booted = false)
    (hd : d = s.dev.bootCask)
    (ht : t = (State.mk (d.loadBond.set F.SYS_STAT_PHASE 1) s.audit s.pending).applyParam (f.param.map (·.toNat))) :
    (s.boot f).dev.mram.keys = t.dev.mram.keys := by
  have hboot : s.boot f = t.onDev (fun d => (d.checkRoleKeys.loadMapEntries.calRestore.release.set F.SYS_STAT_PHASE 2).bootImage f) := by
    unfold State.boot
    rw [if_neg (by simp [hon, hnew]), ht, hd]
    rfl
  rw [hboot]
  exact (Dev.keys_bootImage ..).trans ((congrArg Mram.keys ((Dev.mram_release _).trans (Dev.mram_calRestore _))).trans
    ((Dev.keys_loadMapEntries _).trans (congrArg Mram.keys (Dev.checkRoleKeys_keeps _).1)))

/-! ### A boot that commits a staged key -/

/-- A key of zeros. -/
def rootKey : List Nat := List.replicate 32 0

/-- The bonded entries of the three roles' digests: the digest of that key, thrice. -/
def rootDigests : List Nat := (List.replicate 3 [2910480486, 2008900344, 2344718188, 546217870]).flatten

/-- Bonded values that hold that digest for each role. -/
def rootBond : List Nat := bondReset.take 15 ++ rootDigests

/-- Cask words whose words 4 to 11 hold the digest of these values. -/
def rootCask : List Nat :=
  List.replicate 4 0 ++ [2801916985, 1324547774, 101589673, 2029009394, 4067296258, 4155049933, 3393801417, 4219970298] ++ List.replicate 52 0

/-- That key staged for role 1. -/
def waitingKey : StagedKey := { target := 1, key := rootKey, deadline := 0, agent := 0, requester := 0 }

/-- A powered part that has not booted: MAKER's key is provisioned, and the same key is staged for the blank slot of role 1. -/
def keyWaits : State :=
  { State.reset with
    dev := { Dev.reset with
      pwr := { Dev.reset.pwr with st := .on }
      staged := some waitingKey
      mram := { Dev.reset.mram with
        keys := [none, none, some rootKey]
        bond := some (rootBond.map bondPair)
        cask0 := rootCask
        cask1 := rootCask
        cask2 := rootCask } } }

/-- A parameter image that gives entry 0 the value 5, with its tag under that key. -/
def signedImage : List Nat :=
  [0x4B545350, 0x00010001, 1, 0, 5, 0xFFFFFFFA, 1447882984, 32680531, 3003506452, 244487138, 512111541, 413389683, 1090452643, 3908508016].flatMap (bytesLE 4)

/-- A flash with that image and no boot image. -/
def signedFlash : BootFlash := { sfdp := none, slotA := [], slotB := [], param := signedImage.map (BitVec.ofNat 8) }

/-- That part once step 4 has loaded its cask words. -/
@[irreducible] noncomputable def keyStart : Dev := keyWaits.dev.bootCask

/-- That part as step 5 reads the digest. -/
@[irreducible] noncomputable def keyCasks : Dev := keyStart.voteCasks (span 4 11)

/-- That part once step 5 has loaded its bonded store. -/
@[irreducible] noncomputable def keyLoaded : Dev :=
  ({ ({ keyCasks with bond := ({ keyCasks.bond with pairs := rootBond.map bondPair } : Bonded).feed } : Dev).set F.SAFE_PORT_STAT_STORE_OK 1 with
    safe := { keyCasks.safe with loaded := true } } : Dev).set F.SYS_STAT_PHASE 1

/-- That part as step 6 checks its parameter image. -/
@[irreducible] noncomputable def keyStore : Dev := keyLoaded.voteCasks [24]

theorem keyStart_eq : keyStart = keyWaits.dev.bootCask := by
  unfold keyStart
  exact Eq.refl keyWaits.dev.bootCask

theorem keyCasks_eq : keyCasks = keyStart.voteCasks (span 4 11) := by rw [keyCasks]

theorem keyLoaded_eq : keyLoaded = ({ ({ keyCasks with bond := ({ keyCasks.bond with pairs := rootBond.map bondPair } : Bonded).feed } : Dev).set F.SAFE_PORT_STAT_STORE_OK 1 with
    safe := { keyCasks.safe with loaded := true } } : Dev).set F.SYS_STAT_PHASE 1 := by rw [keyLoaded]

theorem keyStore_eq : keyStore = keyLoaded.voteCasks [24] := by rw [keyStore]

theorem bondDigest_rootBond : bondDigest rootBond =
    [2801916985, 1324547774, 101589673, 2029009394, 4067296258, 4155049933, 3393801417, 4219970298] := by decide +kernel

theorem keyDigest_rootKey : keyDigest rootKey = (rootDigests.take 4).flatMap (bytesLE 4) := by decide +kernel

theorem hmac_signedImage : hmacSha256 rootKey (signedImage.take 24) = signedImage.drop 24 := by decide +kernel

theorem keyCasks_holds : keyCasks.mram.bond = some (rootBond.map bondPair) ∧
    (List.range 8).map (fun k => keyCasks.cask (4 + k)) = [2801916985, 1324547774, 101589673, 2029009394, 4067296258, 4155049933, 3393801417, 4219970298] := by
  decide +kernel

theorem keyStore_holds : keyStore.mram.keys = [none, none, some rootKey] ∧ keyStore.staged = some waitingKey ∧
    keyStore.roleDigest 3 = (rootDigests.take 4).flatMap (bytesLE 4) ∧ keyStore.cask 24 = 0 ∧ keyStore.bond.pairs.map (·.1) = rootBond := by decide +kernel

theorem checkParam_keyStore : keyStore.checkParam signedImage = .ok [(0, 5)] 1 := by
  obtain ⟨hkeys, -, hrole, hcask, -⟩ := keyStore_holds
  have hmatch : keyStore.keyMatches 3 = true := by
    unfold Dev.keyMatches
    rw [hkeys, hrole, show [none, none, some rootKey].getD (3 - 1) none = some rootKey from rfl]
    dsimp only
    rw [keyDigest_rootKey]
    decide +kernel
  have hmac : hmacSha256 rootKey ((List.range (12 + 12 * bits (flashWord signedImage 1) 0 16)).map (flashByte signedImage)) = signedImage.drop 24 :=
    (congrArg (hmacSha256 rootKey) (by decide +kernel)).trans hmac_signedImage
  unfold Dev.checkParam
  rw [hkeys, hrole, hmatch, hcask, show [none, none, some rootKey].getD 2 none = some rootKey from rfl]
  dsimp only
  rw [hmac]
  decide +kernel

theorem staged_key_boots : (keyWaits.boot signedFlash).dev.mram.keys = [some rootKey, none, some rootKey] := by
  obtain ⟨hkeys, hstaged, -, -, hpairs⟩ := keyStore_holds
  obtain ⟨hbond, hdigest⟩ := keyCasks_holds
  obtain ⟨v, hv⟩ : ∃ v, v = applyEntries (keyStore.bond.pairs.map Prod.fst) ([(0, 5)].map (fun e => (e.1, clampEntry e.1 e.2))) := ⟨_, rfl⟩
  have hvalue : v = applyEntries rootBond [(0, 5)] := by rw [hv, hpairs]; decide +kernel
  have hload := Dev.loadBond_of (d := keyStart) (e := keyCasks) (v := rootBond) keyCasks_eq hbond (by decide +kernel) (by decide +kernel)
    (bondDigest_rootBond.trans hdigest.symm)
  have hflash : signedFlash.param.map (fun b => b.toNat) = signedImage := by decide +kernel
  have hroom : (State.mk keyStore keyWaits.audit keyWaits.pending).hasRoom ((changedEntries (keyStore.bond.pairs.map Prod.fst) v).length + 1) = true := by
    rw [hpairs, hvalue]
    decide +kernel
  obtain ⟨huse, -, hkept, -⟩ := keyStore.putBond_keeps v
  have hrole : keyDigest rootKey = (keyStore.putBond v).roleDigest 1 := by
    rw [keyDigest_rootKey]
    simp only [Dev.roleDigest, Dev.bonded, huse]
    rw [hvalue]
    decide +kernel
  have hputKeys : (keyStore.putBond v).mram.keys = [none, none, some rootKey] := by
    simp only [Dev.putBond, Dev.keys_setCasks, hkeys]
  have hcommit := State.keys_commitBond (s := State.mk keyStore keyWaits.audit keyWaits.pending) (v := v) (k := waitingKey) 4 rfl
    (hkept.trans hstaged) hrole (of_decide_eq_true hroom)
  have hparam := State.applyParam_ok (s := State.mk keyLoaded keyWaits.audit keyWaits.pending) (t := State.mk keyStore keyWaits.audit keyWaits.pending)
    (l := signedImage) (congrArg (fun d => State.mk d keyWaits.audit keyWaits.pending) keyStore_eq) checkParam_keyStore hv hroom
  have hboot := State.keys_boot (s := keyWaits) (f := signedFlash) rfl rfl keyStart_eq rfl
  rw [hload, hflash, ← keyLoaded_eq] at hboot
  rw [hboot]
  refine (congrArg (fun t : State => t.dev.mram.keys) hparam).trans ((Dev.keys_setCask ..).trans (hcommit.trans ?_))
  rw [hputKeys]
  rfl

/-- Refutes O23: the parameter image of step 6 is a commit, and a commit takes a staged key that now matches its digest (R56), so the boot writes a role key. -/
theorem not_partBoots : ¬ Obligations.PartBoots := by
  intro h
  obtain ⟨hboot, -⟩ := h
  obtain ⟨-, hruns⟩ := hboot signedFlash keyWaits
  obtain ⟨t, hrun, -, -, -, -, -, -, -, d, hd, hkeys⟩ := hruns rfl rfl
  have hsame : t.dev.mram.keys = [none, none, some rootKey] := by
    rw [hd, Dev.keys_bootImage, hkeys]
    rfl
  have ht : keyWaits.boot signedFlash = t := Host.Outcome.next.inj hrun
  have hwritten := staged_key_boots
  rw [ht] at hwritten
  exact absurd (hsame.symm.trans hwritten) (by decide)

end Sys2Proof.Machine
end


section
/-! PROOF. The scheduler's lines and tickle records: what a line that is dropped, starved, passed or sent leaves (R133, R206, R212, R222, R223; O56). -/

namespace Sys2Proof.Machine

/-! ### What a passed line reaches -/

/-- The fields that a passed line and its causes may change. -/
def passFields : List Field := F.VIN_STAT_DISCARDED :: reactFields

/-- The fields that a report may change beside the stop sequence's own. -/
def unstoppedFields : List Field := [F.FLT_IRQ_STAT, F.FLT_LOG_STAT_OVERWRITES, F.FLT_STATE_LAST_SRC] ++ fenceFields ++ safeFields

/-- The registers out of a passed line's reach, and the position. -/
def Dev.behind (d : Dev) := (d.beyond passFields, d.pos)

theorem Dev.beyond_of_behind {d e : Dev} (h : e.behind = d.behind) : e.beyond passFields = d.beyond passFields := congrArg Prod.fst h

theorem Dev.behind_drvWatch (d : Dev) : d.drvWatch.behind = d.behind := by
  have hlevel (e : Dev) (b : Bool) : (e.reportLevel 58 0 b).beyond passFields = e.beyond passFields := Dev.beyond_reportLevel (by decide) e 58 0 b
  refine Prod.ext ?_ (Dev.pos_of_fixed (Dev.fixed_drvWatch d))
  simp only [Dev.behind, Dev.drvWatch]
  split <;> simp only [Dev.beyond_unreport, hlevel]

theorem Dev.behind_finishResume (d : Dev) : d.finishResume.behind = d.behind := by
  have hrecheck (e : Dev) : e.recheck.behind = e.behind := by
    simp only [Dev.recheck]
    split
    · exact Prod.ext (Dev.beyond_stopTrigger (by decide) e 0) (Dev.pos_of_fixed (Dev.fixed_stopTrigger e 0))
    · rfl
  simp only [Dev.finishResume]
  split
  · rw [Dev.behind_drvWatch, hrecheck]
    exact Prod.ext (Dev.beyond_irq _ _ _ (by decide) _ _ _) (Dev.pos_of_fixed (Dev.fixed_irq ..))
  · rfl

theorem Dev.behind_lineCauses (d : Dev) (i b m : Nat) (causes : List Nat) : (d.lineCauses i b m causes).behind = d.behind := by
  have hclose (e : Dev) (k : Nat) (p : DefectRange → Bool) : (e.closeRanges k p).behind = e.behind :=
    Prod.ext (Dev.beyond_closeRanges (by decide) e k p) (Dev.pos_of_fixed (Dev.fixed_closeRanges e k p))
  have hadd (e : Dev) (c : Nat) : (e.addRange i b c m).behind = e.behind :=
    Prod.ext (Dev.beyond_addRange (by decide) e i b c m) (Dev.pos_of_fixed (Dev.fixed_addRange e i b c m))
  rw [Dev.lineCauses, foldl_keeps Dev.behind _ (fun e c => hadd e c), hclose, foldl_keeps Dev.behind _ (fun e _ => hclose e _ _)]

theorem Dev.behind_noteCauses (d : Dev) (x : FireLine) (b m : Nat) (causes : List Nat) : (d.noteCauses x b m causes).behind = d.behind := by
  simp only [Dev.noteCauses]
  split
  · exact ite_keeps Dev.behind rfl (Dev.behind_lineCauses ..)
  · rfl

/-- The registers but the count of discarded strips, and the position. -/
def Dev.stripView (d : Dev) := (d.beyond [F.VIN_STAT_DISCARDED], d.pos)

theorem Dev.stripView_stripArrives (d : Dev) (m : Nat) : (d.stripArrives m).stripView = d.stripView := by
  have hbump (e : Dev) : (e.bump F.VIN_STAT_DISCARDED).stripView = e.stripView := Prod.ext (Dev.beyond_bump _ _ _ _ (List.Subset.refl _) _) rfl
  have hstrips (e : Dev) (l : List Strip) : ({ e with vin := { e.vin with strips := l } } : Dev).stripView = e.stripView := rfl
  simp only [Dev.stripArrives]
  refine ite_keeps Dev.stripView rfl (foldl_keeps Dev.stripView _ (fun e k => ?_) _ _)
  split
  · exact ite_keeps Dev.stripView ((hstrips _ _).trans (ite_keeps Dev.stripView (hbump e) rfl)) rfl
  · rfl

/-! ### The steps of a passed line (R127, R228) -/

/-- A job's release pointer for a bar takes a count of lines. -/
def Dev.releaseTo (d : Dev) (b m : Nat) (e : Nat × Job) (n : Nat) : Dev :=
  let d := d.modBarJob e.1 b (fun y =>
    let rel := Nat.max y.rel n
    ({ y with rel, rd := Nat.max y.rd rel,
              coded := if e.2.ctx.rep then y.coded else y.coded.map (fun (c : Coded) => if (c.line + 1) * e.2.ctx.perStored ≤ rel then { c with released := true } else c) }).reclaim)
  let j : Job := d.job e.1
  if j.st = .running then
    let done := (j.ctx.bars.map (fun b => ((j.bar b).rel + j.ctx.gapLines) / Nat.max 1 j.ctx.period)).foldl Nat.min (m + 1)
    d.modJob e.1 (fun j => { j with prints := sat 0xFFFFFFFF done })
  else d

/-- Where a bar's line is past, the jobs that have it release it. -/
def Dev.releaseLine (d : Dev) (b m : Nat) : Dev :=
  (d.jobs.filter (fun e => (e.2.st = .running || e.2.st = .aborted || e.2.st = .draining) && e.2.hasBar b && e.2.p0 ≤ m)).foldl (fun (d : Dev) e =>
    d.releaseTo b m e (match e.2.length with | some k => Nat.min k (m + 1 - e.2.p0) | none => m + 1 - e.2.p0)) d

/-- A bar's tick and spout line go. -/
def Dev.shedLine (d : Dev) (b m : Nat) : Dev :=
  { d.modBar b (fun x => { x with ticks := x.ticks.filter (fun t => m < t.line) }) with spouts := d.spouts.filter (fun l => l.bar ≠ b || m < l.line) }

/-- The blank lines of a bar that are past go. -/
def Dev.shedBlanks (d : Dev) (b m : Nat) : Dev :=
  d.modFireBar b (fun x => { x with blanks := x.blanks.filter (fun y => m < y.last && (m + 1 < y.first || (d.jobAtLine b (m + 1)).isNone)) })

/-- A resuming bar has passed its line after the stop. -/
def Dev.resumeAt (d : Dev) (b m : Nat) : Dev :=
  if d.fire.stop.st = .resuming && m % 2 ^ 48 = (d.get F.FIRE_B_LAST b + 1) % 2 ^ 48 then
    (d.modStop (fun t => { t with fired := insertOnce t.fired b })).finishResume
  else d

/-- A strip's line that reaches BAR0. -/
def Dev.stripAtFirst (d : Dev) (b m : Nat) : Dev := if b = 0 then d.stripArrives m else d

theorem Dev.passLine_eq (d : Dev) (b m : Nat) : d.passLine b m = ((((d.stripAtFirst b m).shedLine b m).releaseLine b m).shedBlanks b m).resumeAt b m := rfl

theorem Dev.behind_releaseLine (d : Dev) (b m : Nat) : (d.releaseLine b m).behind = d.behind := by
  have hto (e : Dev) (k : Nat × Job) (n : Nat) : (e.releaseTo b m k n).behind = e.behind := ite_keeps Dev.behind rfl rfl
  exact foldl_keeps Dev.behind _ (fun e k => hto e k _) _ _

theorem Dev.behind_resumeAt (d : Dev) (b m : Nat) : (d.resumeAt b m).behind = d.behind :=
  ite_keeps Dev.behind (Dev.behind_finishResume _) rfl

theorem Dev.stripView_stripAtFirst (d : Dev) (b m : Nat) : (d.stripAtFirst b m).stripView = d.stripView :=
  ite_keeps Dev.stripView (Dev.stripView_stripArrives d m) rfl

theorem Dev.behind_stripAtFirst (d : Dev) (b m : Nat) : (d.stripAtFirst b m).behind = d.behind := by
  have hregs : (d.stripAtFirst b m).beyond [F.VIN_STAT_DISCARDED] = d.beyond [F.VIN_STAT_DISCARDED] := congrArg Prod.fst (d.stripView_stripAtFirst b m)
  have hpos : (d.stripAtFirst b m).pos = d.pos := congrArg Prod.snd (d.stripView_stripAtFirst b m)
  exact Prod.ext (Dev.beyond_mono (by decide) hregs) hpos

/-- A passed line: the registers out of reach stay, and the bar's ticks up to it are gone. -/
theorem Dev.passLine_spec (d : Dev) (b m : Nat) : (d.passLine b m).beyond passFields = d.beyond passFields ∧
    (d.passLine b m).pos = { d.pos with bars := setAt d.pos.bars b (fun x => { x with ticks := x.ticks.filter (fun t => m < t.line) }) } := by
  have hshed (e : Dev) : (e.shedLine b m).beyond passFields = e.beyond passFields := rfl
  have hblanks (e : Dev) : (e.shedBlanks b m).behind = e.behind := rfl
  have hall : (d.passLine b m).behind = ((d.stripAtFirst b m).shedLine b m).behind := by
    rw [Dev.passLine_eq, Dev.behind_resumeAt, hblanks, Dev.behind_releaseLine]
  have hfirst := d.behind_stripAtFirst b m
  refine ⟨(congrArg Prod.fst hall).trans ((hshed _).trans (congrArg Prod.fst hfirst)), (congrArg Prod.snd hall).trans ?_⟩
  have hpos : (d.stripAtFirst b m).pos = d.pos := congrArg Prod.snd hfirst
  change ({ (d.stripAtFirst b m).pos with bars := setAt (d.stripAtFirst b m).pos.bars b _ } : PosSt) = _
  rw [hpos]

/-- No tick of the bar up to the line is left. -/
def Dev.TicksPast (d : Dev) (b m : Nat) : Prop := ∀ u ∈ (d.posBar b).ticks, m < u.line

theorem Dev.TicksPast.of_pos {d e : Dev} {b m : Nat} (h : d.TicksPast b m) (hpos : e.pos = d.pos) : e.TicksPast b m := by
  rw [Dev.TicksPast, Dev.posBar, hpos]
  exact h

theorem Dev.ticksPast_passLine (d : Dev) (b m : Nat) : (d.passLine b m).TicksPast b m := by
  intro u hu
  rw [Dev.posBar, (d.passLine_spec b m).2] at hu
  simp only [getD_setAt] at hu
  split at hu
  · exact of_decide_eq_true (List.mem_filter.mp hu).2
  · next hb =>
    have hout : d.pos.bars.length ≤ b := by
      simp only [true_and] at hb
      omega
    rw [List.getD_eq_getElem?_getD, List.getElem?_eq_none hout] at hu
    cases hu

end Sys2Proof.Machine
end


section
/-! PROOF. Lines that are dropped and lines that are starved (R133, R212; O56). -/

namespace Sys2Proof.Machine

/-! ### A cause that shows stays through a report -/

/-- Does the cause of a dropped line show in FIRE_IRQ_STAT. -/
def Dev.DropShown (d : Dev) : Prop := (d.get F.FIRE_IRQ_STAT).testBit 4 = true

theorem Dev.DropShown.of_beyond {d e : Dev} (h : d.DropShown) {S : List Field} (he : e.beyond S = d.beyond S) (hS : F.FIRE_IRQ_STAT.clear S = true) : e.DropShown := by
  rw [Dev.DropShown, Dev.get_of_beyond he hS (by decide) (by decide)]
  exact h

/-- A bit that stands in a cause register stands when another cause is raised. -/
theorem Dev.testBit_irq_of {d : Dev} {f : Field} {n : Nat} (h : (d.get f).testBit n = true) (hn : n < f.width) (en : Field) (k : Nat) (v : Option Field) :
    ((d.irq f en k v).get f).testBit n = true := by
  rw [Dev.get_irq, Dev.raiseBit, Dev.get_set_self, Nat.testBit_mod_two_pow, Nat.testBit_or, h]
  simp [hn]

theorem Dev.DropShown.irq {d : Dev} (h : d.DropShown) (k : Nat) : (d.irq F.FIRE_IRQ_STAT F.FIRE_IRQ_EN k none).DropShown :=
  Dev.testBit_irq_of h (by decide) _ _ _

theorem Dev.DropShown.stopTrigger {d : Dev} (h : d.DropShown) (c : Nat) : (d.stopTrigger c).DropShown := by
  simp only [Dev.stopTrigger]
  split
  · exact Dev.DropShown.irq h 0
  · exact h

theorem outlives_dropShown : Outlives Dev.DropShown where
  flt _ _ h := h
  overwrites _ h := h.of_beyond (Dev.beyond_bump (S := eventFields) _ _ _ _ (by decide) _) (by decide)
  lastSrc _ _ h := h.of_beyond (Dev.beyond_set (S := eventFields) _ _ _ _ (by decide) _) (by decide)
  irq _ _ h := h.of_beyond (Dev.beyond_irq (S := eventFields) _ _ _ (by decide) _ _ _) (by decide)
  fence d u h := h.of_beyond (Dev.beyond_fenceEffect (S := unstoppedFields) (by decide) d u) (by decide)
  stop _ c h := h.stopTrigger c
  settle d e h := h.of_beyond (Dev.beyond_settle (S := unstoppedFields) (by decide) d e) (by decide)

theorem Dev.DropShown.report {d : Dev} (h : d.DropShown) (s i : Nat) : (d.report s i).DropShown := outlives_dropShown.report h s i

/-! ### A dropped line (R212) -/

/-- A count goes up by 1 until it is full. -/
theorem Dev.get_bump_min (d : Dev) {f : Field} (hf : f.max < 2 ^ f.width) (i j : Nat) : (d.bump f i j).get f i j = Nat.min f.max (d.get f i j + 1) := by
  rw [Dev.get_bump_self, sat_min]
  exact Nat.mod_eq_of_lt (Nat.lt_of_le_of_lt (Nat.min_le_left _ _) hf)

theorem Dev.DropShown.drvWatch {d : Dev} (h : d.DropShown) : d.drvWatch.DropShown := by
  have hun (e : Dev) (he : e.DropShown) : (e.unreport 58).DropShown := he.of_beyond (S := eventFields) (Dev.beyond_unreport ..) (by decide)
  have hlevel : (d.reportLevel 58 0 d.drvMissing).DropShown := by
    simp only [Dev.reportLevel]
    split
    · exact h.report 58 0
    · exact hun d h
  simp only [Dev.drvWatch]
  split
  · exact hlevel
  · exact hun _ hlevel

theorem Dev.DropShown.finishResume {d : Dev} (h : d.DropShown) : d.finishResume.DropShown := by
  simp only [Dev.finishResume]
  split
  · have hran (t : StopSt) : ((d.modStop (fun _ => t)).irq F.FIRE_IRQ_STAT F.FIRE_IRQ_EN 2 none).DropShown := Dev.DropShown.irq h 2
    have hrecheck (e : Dev) (he : e.DropShown) : e.recheck.DropShown := by
      simp only [Dev.recheck]
      split
      · exact he.stopTrigger 0
      · exact he
    exact (hrecheck _ (hran _)).drvWatch
  · exact h

theorem Dev.DropShown.passLine {d : Dev} (h : d.DropShown) (b m : Nat) : (d.passLine b m).DropShown := by
  have hreleased : (((d.stripAtFirst b m).shedLine b m).releaseLine b m).regs = (d.stripAtFirst b m).regs := by
    have hto (e : Dev) (k : Nat × Job) (n : Nat) : (e.releaseTo b m k n).regs = e.regs := ite_keeps Dev.regs rfl rfl
    exact foldl_keeps Dev.regs _ (fun e k => hto e k _) _ _
  have hbefore : ((((d.stripAtFirst b m).shedLine b m).releaseLine b m).shedBlanks b m).DropShown :=
    h.of_beyond ((Dev.beyond_congr hreleased).trans (congrArg Prod.fst (d.stripView_stripAtFirst b m))) (by decide)
  rw [Dev.passLine_eq]
  generalize ((((d.stripAtFirst b m).shedLine b m).releaseLine b m).shedBlanks b m) = e at hbefore
  simp only [Dev.resumeAt]
  split
  · exact Dev.DropShown.finishResume (d := e.modStop (fun t => { t with fired := insertOnce t.fired b })) hbefore
  · exact hbefore

theorem Dev.regs_beyond_noteCauses (d : Dev) (x : FireLine) (b m : Nat) (causes : List Nat) : (d.noteCauses x b m causes).beyond jobFields = d.beyond jobFields := by
  have hclose (e : Dev) (k : Nat) (p : DefectRange → Bool) : (e.closeRanges k p).beyond jobFields = e.beyond jobFields := Dev.beyond_closeRanges (List.Subset.refl _) e k p
  have hadd (e : Dev) (i c : Nat) : (e.addRange i b c m).beyond jobFields = e.beyond jobFields := Dev.beyond_addRange (List.Subset.refl _) e i b c m
  simp only [Dev.noteCauses]
  split
  · refine ite_keeps _ rfl ?_
    rw [Dev.lineCauses, foldl_keeps (Dev.beyond jobFields) _ (fun e c => hadd e _ c), hclose, foldl_keeps (Dev.beyond jobFields) _ (fun e _ => hclose e _ _)]
  · rfl

theorem Dev.dropLine_spec (c : Dev) (x : FireLine) {b : Nat} (m : Nat) (hb : b < 8) {d : Dev} (hd : d = c.dropLine x b m ∨ d = (c.dropLine x b m).report (129 + b)) :
    d.get F.FIRE_B_CNT_DROPPED b = Nat.min F.FIRE_B_CNT_DROPPED.max (c.get F.FIRE_B_CNT_DROPPED b + 1) ∧ (d.get F.FIRE_IRQ_STAT).testBit 4 = true ∧
      d.get F.FIRE_B_FIRED b = c.get F.FIRE_B_FIRED b ∧ d.TicksPast b m := by
  obtain ⟨y, hy⟩ : ∃ y, y = (c.bump F.FIRE_B_CNT_DROPPED b).irq F.FIRE_IRQ_STAT F.FIRE_IRQ_EN 4 none := ⟨_, rfl⟩
  have hcount : y.get F.FIRE_B_CNT_DROPPED b = Nat.min F.FIRE_B_CNT_DROPPED.max (c.get F.FIRE_B_CNT_DROPPED b + 1) := by
    rw [hy, Dev.get_irq, Dev.raiseBit, Dev.get_set_distinct _ (by decide), Dev.get_bump_min _ (by decide)]
  have hfired : y.get F.FIRE_B_FIRED b = c.get F.FIRE_B_FIRED b := by
    rw [hy, Dev.get_irq, Dev.raiseBit, Dev.get_set_distinct _ (by decide), Dev.get_bump_distinct _ (by decide)]
  have hshown : y.DropShown := by
    rw [hy]
    exact Dev.get_irq_testBit _ _ _ 4 none 0 (by decide)
  obtain ⟨z, hz⟩ : ∃ z, z = y.noteCauses x b m (1 :: x.causes) := ⟨_, rfl⟩
  have hdrop : c.dropLine x b m = z.passLine b m := by rw [hz, hy]; rfl
  have hz4 : z.DropShown := hz ▸ hshown.of_beyond (Dev.regs_beyond_noteCauses ..) (by decide)
  have hkeep (e : Dev) (hreg : e.beyond passFields = y.beyond passFields) : e.get F.FIRE_B_CNT_DROPPED b = Nat.min F.FIRE_B_CNT_DROPPED.max (c.get F.FIRE_B_CNT_DROPPED b + 1) ∧
      e.get F.FIRE_B_FIRED b = c.get F.FIRE_B_FIRED b :=
    ⟨(Dev.get_of_beyond hreg (by decide) hb (by decide)).trans hcount, (Dev.get_of_beyond hreg (by decide) hb (by decide)).trans hfired⟩
  have hpassed : (z.passLine b m).beyond passFields = y.beyond passFields := by
    rw [(z.passLine_spec b m).1, hz]
    exact Dev.beyond_of_behind (y.behind_noteCauses x b m _)
  rw [hdrop] at hd
  obtain rfl | rfl := hd
  · exact ⟨(hkeep _ hpassed).1, hz4.passLine b m, (hkeep _ hpassed).2, z.ticksPast_passLine b m⟩
  · have hreg := (Dev.beyond_report (S := passFields) (by decide) (z.passLine b m) (129 + b) 0).trans hpassed
    exact ⟨(hkeep _ hreg).1, (hz4.passLine b m).report _ _, (hkeep _ hreg).2,
      (z.ticksPast_passLine b m).of_pos (Dev.pos_of_fixed (Dev.fixed_report ..))⟩

/-! ### A starved line (R133) -/

/-- The fields that a starved line may change beside its count. -/
def starveFields : List Field := reserveFields ++ passFields

/-- A cause of CIS_IRQ_STAT stands through the reserve's watch. -/
theorem Dev.cisCause_watchReserve {e : Dev} {n : Nat} (h : (e.get F.CIS_IRQ_STAT).testBit n = true) (hn : n < F.CIS_IRQ_STAT.width) (d : Dev) :
    ((Dev.watchReserve d e).get F.CIS_IRQ_STAT).testBit n = true := by
  have hstop (x : Dev) : (x.stopTrigger 0).get F.CIS_IRQ_STAT = x.get F.CIS_IRQ_STAT :=
    Dev.get_of_beyond (Dev.beyond_stopTrigger (S := stopFields) (List.Subset.refl _) x 0) (by decide) (by decide) (by decide)
  have hfirst := foldl_holds (P := fun x : Dev => (x.get F.CIS_IRQ_STAT).testBit n = true) (f := fun x b => if e.pred b && !d.pred b then
    ((x.bump F.CIS_B_CNT_PRED b).irq F.CIS_IRQ_STAT F.CIS_IRQ_EN b none).stopTrigger 0 else x) (fun x b hx => by
      split
      · rw [hstop]
        exact Dev.testBit_irq_of (by rwa [Dev.get_bump_distinct _ (by decide)]) hn _ _ _
      · exact hx) (List.range 8) h
  simp only [Dev.watchReserve]
  split
  · exact foldl_holds (P := fun x : Dev => (x.get F.CIS_IRQ_STAT).testBit n = true) (fun x b hx => by
      split
      · exact Dev.testBit_irq_of hx hn _ _ _
      · exact hx) _ hfirst
  · exact hfirst

theorem Dev.starveLine_spec (c : Dev) (i : Nat) {b : Nat} (m : Nat) (hb : b < 8) {d : Dev} (hd : d = c.starveLine i b m) :
    d.get F.CIS_B_CNT_STARVED b = Nat.min F.CIS_B_CNT_STARVED.max (c.get F.CIS_B_CNT_STARVED b + 1) ∧ (d.get F.CIS_IRQ_STAT).testBit (16 + b) = true ∧
      d.get F.FIRE_B_FIRED b = c.get F.FIRE_B_FIRED b ∧ d.TicksPast b m := by
  obtain ⟨y, hy⟩ : ∃ y, y = (c.bump F.CIS_B_CNT_STARVED b).irq F.CIS_IRQ_STAT F.CIS_IRQ_EN (16 + b) none := ⟨_, rfl⟩
  obtain ⟨z, hz⟩ : ∃ z, z = y.lineCauses i b m [1] := ⟨_, rfl⟩
  obtain ⟨w, hw⟩ : ∃ w, w = (z.passLine b m).report (91 + b) := ⟨_, rfl⟩
  have hd' : d = Dev.watchReserve z w := by
    rw [hd, Dev.starveLine, hw, hz, hy]
  have hwidth : 16 + b < F.CIS_IRQ_STAT.width := by
    have : F.CIS_IRQ_STAT.width = 24 := rfl
    omega
  have hreg : w.beyond passFields = y.beyond passFields := by
    rw [hw, Dev.beyond_report (by decide), (z.passLine_spec b m).1, hz]
    exact Dev.beyond_of_behind (y.behind_lineCauses i b m [1])
  have hcause : (w.get F.CIS_IRQ_STAT).testBit (16 + b) = true := by
    rw [Dev.get_of_beyond hreg (by decide) (by decide) (by decide), hy]
    exact Dev.get_irq_testBit _ _ _ _ none 0 hwidth
  have hcount : y.get F.CIS_B_CNT_STARVED b = Nat.min F.CIS_B_CNT_STARVED.max (c.get F.CIS_B_CNT_STARVED b + 1) := by
    rw [hy, Dev.get_irq, Dev.raiseBit, Dev.get_set_distinct _ (by decide), Dev.get_bump_min _ (by decide)]
  have hfired : y.get F.FIRE_B_FIRED b = c.get F.FIRE_B_FIRED b := by
    rw [hy, Dev.get_irq, Dev.raiseBit, Dev.get_set_distinct _ (by decide), Dev.get_bump_distinct _ (by decide)]
  have hfar : d.beyond starveFields = y.beyond starveFields := by
    rw [hd']
    exact (Dev.beyond_mono (by decide) (Dev.beyond_watchReserve z w)).trans (Dev.beyond_mono (by decide) hreg)
  refine ⟨(Dev.get_of_beyond hfar (by decide) hb (by decide)).trans hcount, ?_, (Dev.get_of_beyond hfar (by decide) hb (by decide)).trans hfired, ?_⟩
  · rw [hd']
    exact Dev.cisCause_watchReserve hcause hwidth z
  · refine (z.ticksPast_passLine b m).of_pos ?_
    rw [hd', Dev.pos_of_fixed (Dev.fixed_watchReserve ..), hw, Dev.pos_of_fixed (Dev.fixed_report ..)]

end Sys2Proof.Machine
end


section
/-! PROOF. A line that is sent, and tickle records (R206, R212, R221 to R226, R302; settles O56). -/

namespace Sys2Proof.Machine

/-! ### The steps of a line that is sent -/

/-- A bar's levels for a line are read out of its spouts, into the shots of its ports. -/
def Dev.shotsRead (d : Dev) (x : FireLine) (b m : Nat) (tau : Int) : List Shot × Bool × Bool × Dev :=
  (d.heads b).foldl (fun (a : List Shot × Bool × Bool × Dev) e =>
    let t := d.fireTime x b e.1 tau
    let least := ((d.fire.lastFire.getD e.2.port none).getD t)
    let r := a.2.2.2.readSpout e.2.port m x.ctx.dropMode (portLevels e.2.port x.levels)
    (a.1 ++ [⟨e.1, e.2.port, d.geomSlot b e.1, max t least, if x.blank then [] else r.1⟩], a.2.1 || t < least, a.2.2.1 || (r.2.1 && !x.blank), if x.blank then a.2.2.2 else r.2.2)) ([], false, false, d)

/-- The record of a shot, in a set's waveform v. -/
def shotRec (x : FireLine) (b m : Nat) (v : List Nat) (s : Shot) (seq gain : Nat) : Rec :=
  let half := s.head ≠ s.slot
  let words := recordHead 1 x.ctx.waveSet seq (waveInPrint v) x.ctx.dropMode half m s.time v (if half then 0 else waveLen v) ++
    (List.range (if x.ctx.dropMode = 0 then 256 else 384)).map (spoutWord x.ctx.dropMode s.levels) ++ (if half then [] else burstWords v gain)
  { seq, tickle := false, bar := b, job := x.job, line := m, fireTime := s.time, need := (x.heads.getD s.slot {}).need, words }

/-- A shot steps its head's gain and is noted. -/
def Dev.shotNoted (d : Dev) (b : Nat) (v : List Nat) (s : Shot) : Dev :=
  let d := if s.head ≠ s.slot then d else d.ampStep b s.slot
  { d with fire := { d.fire with lastFire := setAt d.fire.lastFire s.port (fun _ => some (s.time + waveLen v * 20)) } }

/-- A shot's record joins its port, or the port is reported as down. -/
def Dev.shotSent (x : FireLine) (b m : Nat) (v : List Nat) (d : Dev) (s : Shot) : Dev :=
  let gain := d.get F.FIRE_B_S_GAIN b s.head
  let d := d.shotNoted b v s
  if d.receives s.port then d.queueRec s.port (shotRec x b m v s (d.port s.port).seq gain)
  else if x.run then d.reportDown s.port else d

/-- The counts of a line that is sent. -/
def Dev.lineCounted (d : Dev) (b : Nat) (late nozzles heads : Bool) : Dev :=
  let d := if late then d.bump F.FIRE_B_CNT_DEFERRED b else d
  let d := if nozzles || heads then (d.bump F.FIRE_B_CNT2_SUPPRESSED b).irq F.FIRE_IRQ_STAT F.FIRE_IRQ_EN 5 none else d
  let d := if nozzles then d.report 145 else d
  if heads then d.report 146 else d

/-- Is a line the first after a stop. -/
def Dev.firstAfter (d : Dev) (b m : Nat) : Bool := d.fire.stop.st = .resuming && m % 2 ^ 48 = (d.get F.FIRE_B_LAST b + 1) % 2 ^ 48

/-- Is a line sent below the speed of the stop sequence. -/
def Dev.slowLine (d : Dev) (b m : Nat) : Bool := d.belowMin && (d.firstAfter b m || (d.fireBar b).slowRun)

/-- A slow line after a stop is counted and reported. -/
def Dev.slowCounted (d : Dev) (b m : Nat) : Dev :=
  let slow := d.slowLine b m
  let first := d.firstAfter b m
  let d := if slow then (d.bump F.FIRE_B_CNT2_RESUME_SLOW b).irq F.FIRE_IRQ_STAT F.FIRE_IRQ_EN 3 none else d
  if slow && first then d.report (147 + b) else d

/-- A line shows as the bar's last. -/
def Dev.lineShown (d : Dev) (x : FireLine) (b m : Nat) (tau : Int) (slow : Bool) : Dev :=
  (d.modFireBar b (fun y => { y with tauLast := some tau, period := cdiv 1000000000 (Nat.max 1 x.rate), wave := some x.ctx.waveSet, lastRec := some d.now, slowRun := slow, firing := (d.posBar b).held.isNone })).set F.FIRE_B_FIRED m b

/-- The line's job notes it as fired. -/
def Dev.jobFired (d : Dev) (x : FireLine) (b m : Nat) : Dev :=
  if x.blank then d else match x.job with | some i => if x.raster then d.modBarJob i b (fun y => { y with lastFired := some m }) else d | none => d

/-- The causes of a line. -/
def lineCausesOf (x : FireLine) (down : List Nat) (slow sup poison : Bool) : List Nat :=
  (if down.isEmpty then [] else [1]) ++ (if slow then [2] else []) ++ (if sup then [3] else []) ++ (if poison && !has x.causes 4 then [4] else []) ++ x.causes

/-- What follows the records of a line. -/
def Dev.lineEnded (d : Dev) (x : FireLine) (b m : Nat) (tau : Int) (down : List Nat) (sup poison : Bool) : Dev :=
  ((((d.slowCounted b m).lineShown x b m tau (d.slowLine b m)).noteCauses x b m (lineCausesOf x down (d.slowLine b m) sup poison)).jobFired x b m).passLine b m

theorem Dev.sendLine_steps (d : Dev) (x : FireLine) (b m : Nat) (tau : Int) (deferred : Bool) : ∃ read duty v, read = d.shotsRead x b m tau ∧
    v = d.wave x.ctx.waveSet ∧ duty = read.2.2.2.applyDuty v read.1 ∧ d.sendLine x b m tau deferred =
      ((duty.1.foldl (Dev.shotSent x b m v) duty.2.2.2).lineCounted b (deferred || read.2.1) duty.2.1 duty.2.2.1).lineEnded x b m tau
        ((duty.1.filter (fun s => !duty.2.2.2.receives s.port)).map (fun s => s.port)) (duty.2.1 || duty.2.2.1) read.2.2.1 :=
  ⟨_, _, _, rfl, rfl, rfl, rfl⟩

/-! ### What the steps leave of the registers -/

/-- The fields that a read of a protected array may change. -/
def sramFields : List Field :=
  [F.ECC_SRAM_CNT_CE, F.ECC_SRAM_CNT_UE, F.ECC_LAST_ADDR, F.ECC_LAST_TYPE, F.ECC_LAST_SYND, F.ECC_LAST_WHERE, F.ECC_LAST_TIME, F.ECC_IRQ_STAT] ++ reactFields

/-- The fields that a line that is sent may change, beside its bar's own counts and the gains. -/
def sentFields : List Field := [F.FIRE_B_CNT2_SUPPRESSED, F.FIRE_B_CNT2_RESUME_SLOW, F.VIN_STAT_DISCARDED] ++ sramFields

theorem Dev.beyond_sramRead (d : Dev) (array index w : Nat) : (d.sramRead array index w).2.2.beyond sramFields = d.beyond sramFields := by
  have hlast (e : Dev) (c : ReadClass) (addr x place : Nat) : (e.eccLast c addr x place).beyond sramFields = e.beyond sramFields := by
    simp (disch := decide) only [Dev.eccLast, Dev.beyond_set]
  have hput (e : Dev) (l : List SramBad) : ({ e with ecc := { e.ecc with sram := l } } : Dev).beyond sramFields = e.beyond sramFields := rfl
  simp only [Dev.sramRead]
  split
  · rfl
  · split
    · rfl
    · simp (disch := decide) only [Dev.beyond_report, hlast, Dev.beyond_bump]
      exact hput _ _
    · simp (disch := decide) only [Dev.beyond_report, Dev.beyond_irq, hlast, Dev.beyond_bump]
      exact hput _ _

theorem Dev.beyond_readSpout (d : Dev) (port line mode : Nat) (levels : List Nat) : (d.readSpout port line mode levels).2.2.beyond sramFields = d.beyond sramFields := by
  simp only [Dev.readSpout]
  exact ite_keeps (fun r : List Nat × Bool × Dev => r.2.2.beyond sramFields) (Dev.beyond_sramRead ..) (Dev.beyond_sramRead ..)

theorem Dev.beyond_shotsRead (d : Dev) (x : FireLine) (b m : Nat) (tau : Int) : (d.shotsRead x b m tau).2.2.2.beyond sramFields = d.beyond sramFields :=
  foldl_keeps (fun a : List Shot × Bool × Bool × Dev => a.2.2.2.beyond sramFields) _ (fun _ _ => ite_keeps (Dev.beyond sramFields) rfl (Dev.beyond_readSpout ..)) _ ([], false, false, d)

theorem Dev.regs_applyDuty (d : Dev) (v : List Nat) (shots : List Shot) : (d.applyDuty v shots).2.2.2.regs = d.regs := rfl

/-! ### The slots of the shots -/

/-- A fold that adds one element for each of a list, and keeps those before it. -/
theorem map_foldl_append {α β γ σ : Type} (κ : α → γ) (k : β → γ) {g : List α × σ → β → List α × σ} (h : ∀ a e, (g a e).1.map κ = a.1.map κ ++ [k e]) (l : List β) (a : List α × σ) :
    (l.foldl g a).1.map κ = a.1.map κ ++ l.map k := by
  induction l generalizing a with
  | nil => simp
  | cons e l ih => rw [List.foldl_cons, ih, h, List.map_cons, List.append_assoc]; rfl

theorem Dev.slots_shotsRead (d : Dev) (x : FireLine) (b m : Nat) (tau : Int) : (d.shotsRead x b m tau).1.map Shot.slot = (d.heads b).map (fun e => e.1) :=
  map_foldl_append Shot.slot (fun e : Nat × HEntry => e.1) (fun a e => by rw [List.map_append]; rfl) (d.heads b) ([], false, false, d)

theorem Dev.slots_applyDuty (d : Dev) (v : List Nat) (shots : List Shot) : (d.applyDuty v shots).1.map Shot.slot = shots.map Shot.slot := by
  have hnozzles (g : Shot → List Duty → List Nat × Bool × List Duty) (z : List Shot × Bool × List Duty) : (shots.foldl (fun (a : List Shot × Bool × List Duty) x =>
      (a.1 ++ [{ x with levels := (g x a.2.2).1 }], a.2.1 || (g x a.2.2).2.1, (g x a.2.2).2.2)) z).1.map Shot.slot = z.1.map Shot.slot ++ shots.map Shot.slot :=
    map_foldl_append Shot.slot Shot.slot (fun a x => by rw [List.map_append]; rfl) shots z
  have hdark (l : List Shot) (k : Nat) : (l.map (fun x => if x.head = k then { x with levels := [] } else x)).map Shot.slot = l.map Shot.slot := by
    rw [List.map_map]
    refine List.map_congr_left fun x _ => ?_
    simp only [Function.comp]
    split <;> rfl
  simp only [Dev.applyDuty]
  rw [foldl_keeps (fun a : List Shot × Bool × List Duty => a.1.map Shot.slot) _ (fun a k => ?_)]
  · exact hnozzles _ ([], false, _)
  · exact ite_keeps (fun a : List Shot × Bool × List Duty => a.1.map Shot.slot) rfl
      (ite_keeps (fun a : List Shot × Bool × List Duty => a.1.map Shot.slot) (hdark _ _) rfl)

theorem Dev.lt_of_mem_heads {d : Dev} {b : Nat} {e : Nat × HEntry} (h : e ∈ d.heads b) : e.1 < 24 := by
  obtain ⟨hmap, -⟩ := List.mem_filter.mp h
  obtain ⟨s, hs, rfl⟩ := List.mem_map.mp hmap
  exact List.mem_range.mp hs

/-! ### The counts of a line that is sent -/

theorem Dev.get_ampStep (d : Dev) (b s : Nat) {g : Field} {i j : Nat} (h : g.key i j ≠ F.FIRE_B_S_GAIN.key b s) : (d.ampStep b s).get g i j = d.get g i j := by
  simp only [Dev.ampStep]
  exact ite_keeps (fun e : Dev => e.get g i j) (Dev.get_set_ne _ _ _ _ _ _ _ _ h) rfl

theorem Dev.get_shotSent (d : Dev) (x : FireLine) (b m : Nat) (v : List Nat) (s : Shot) {g : Field} {i j : Nat} (hg : g.clear reactFields = true) (hi : i < g.n1) (hj : j < g.n2)
    (h : g.key i j ≠ F.FIRE_B_S_GAIN.key b s.slot) : (Dev.shotSent x b m v d s).get g i j = d.get g i j := by
  have hnoted : (d.shotNoted b v s).get g i j = d.get g i j := by
    simp only [Dev.shotNoted]
    change (if s.head ≠ s.slot then d else d.ampStep b s.slot).get g i j = _
    split
    · rfl
    · exact Dev.get_ampStep d b s.slot h
  have hdown (e : Dev) (p : Nat) : (e.reportDown p).get g i j = e.get g i j := by
    simp only [Dev.reportDown]
    split
    · rfl
    · exact Dev.get_of_beyond (S := reactFields) (Dev.beyond_report (List.Subset.refl _) (e.modPort p _) _ p) hg hi hj
  simp only [Dev.shotSent]
  rw [← hnoted]
  split
  · rfl
  · split
    · exact hdown _ _
    · rfl

theorem Dev.get_shotsSent (x : FireLine) (b m : Nat) (v : List Nat) {g : Field} {i j : Nat} (hg : g.clear reactFields = true) (hi : i < g.n1) (hj : j < g.n2) {shots : List Shot}
    (h : ∀ s ∈ shots, g.key i j ≠ F.FIRE_B_S_GAIN.key b s.slot) (d : Dev) : (shots.foldl (Dev.shotSent x b m v) d).get g i j = d.get g i j := by
  induction shots generalizing d with
  | nil => rfl
  | cons s shots ih =>
    rw [List.foldl_cons, ih (fun s hs => h s (List.mem_cons_of_mem _ hs)), Dev.get_shotSent d x b m v s hg hi hj (h s List.mem_cons_self)]

theorem Dev.beyond_lineCounted (d : Dev) (b : Nat) (nozzles heads : Bool) : (d.lineCounted b false nozzles heads).beyond sentFields = d.beyond sentFields := by
  have hreport (e : Dev) (s : Nat) : (e.report s).beyond sentFields = e.beyond sentFields := Dev.beyond_report (by decide) e s 0
  have hsup (e : Dev) : ((e.bump F.FIRE_B_CNT2_SUPPRESSED b).irq F.FIRE_IRQ_STAT F.FIRE_IRQ_EN 5 none).beyond sentFields = e.beyond sentFields :=
    (Dev.beyond_irq _ _ _ (by decide) _ _ _).trans (Dev.beyond_bump _ _ _ _ (by decide) _)
  cases nozzles <;> cases heads
  · rfl
  · exact (hreport _ 146).trans (hsup d)
  · exact (hreport _ 145).trans (hsup d)
  · exact (hreport _ 146).trans ((hreport _ 145).trans (hsup d))

theorem Dev.lineCounted_late (d : Dev) (b : Nat) (late nozzles heads : Bool) :
    d.lineCounted b late nozzles heads = (if late then d.bump F.FIRE_B_CNT_DEFERRED b else d).lineCounted b false nozzles heads := rfl

theorem Dev.beyond_slowCounted (d : Dev) (b m : Nat) : (d.slowCounted b m).beyond sentFields = d.beyond sentFields := by
  have hslow : ((d.bump F.FIRE_B_CNT2_RESUME_SLOW b).irq F.FIRE_IRQ_STAT F.FIRE_IRQ_EN 3 none).beyond sentFields = d.beyond sentFields :=
    (Dev.beyond_irq _ _ _ (by decide) _ _ _).trans (Dev.beyond_bump _ _ _ _ (by decide) _)
  have hcounted : (if d.slowLine b m then (d.bump F.FIRE_B_CNT2_RESUME_SLOW b).irq F.FIRE_IRQ_STAT F.FIRE_IRQ_EN 3 none else d).beyond sentFields = d.beyond sentFields :=
    ite_keeps _ hslow rfl
  simp only [Dev.slowCounted]
  exact ite_keeps _ ((Dev.beyond_report (by decide) _ _ _).trans hcounted) hcounted

/-- What the end of a line leaves: FIRED shows it, and its bar's counts stay. -/
theorem Dev.get_lineEnded (d : Dev) (x : FireLine) {b : Nat} (m : Nat) (tau : Int) (down : List Nat) (sup poison : Bool) (hb : b < 8) :
    (d.lineEnded x b m tau down sup poison).get F.FIRE_B_FIRED b = m % 281474976710656 ∧
      ∀ g : Field, g.clear sentFields = true → g.distinct F.FIRE_B_FIRED = true → b < g.n1 → 0 < g.n2 →
        (d.lineEnded x b m tau down sup poison).get g b = d.get g b := by
  obtain ⟨y, hy⟩ : ∃ y, y = (d.slowCounted b m).lineShown x b m tau (d.slowLine b m) := ⟨_, rfl⟩
  have hjob (e : Dev) : (e.jobFired x b m).regs = e.regs := by
    simp only [Dev.jobFired]
    split
    · rfl
    · split
      · split <;> rfl
      · rfl
  have hend : (d.lineEnded x b m tau down sup poison).beyond passFields = y.beyond passFields := by
    rw [Dev.lineEnded, ← hy]
    obtain ⟨z, hz⟩ : ∃ z, z = y.noteCauses x b m (lineCausesOf x down (d.slowLine b m) sup poison) := ⟨_, rfl⟩
    rw [← hz, ((z.jobFired x b m).passLine_spec b m).1, Dev.beyond_congr (hjob z), hz]
    exact Dev.beyond_of_behind (y.behind_noteCauses x b m _)
  refine ⟨?_, fun g hg hd hi hj => ?_⟩
  · rw [Dev.get_of_beyond hend (by decide) hb (by decide), hy, Dev.lineShown, Dev.get_set_self]
    rfl
  · have hclear : g.clear passFields = true := by
      simp only [Field.clear, Bool.and_eq_true, List.all_eq_true] at hg ⊢
      exact ⟨hg.1, fun f hf => hg.2 f (List.Subset.trans (by decide : passFields ⊆ sentFields) (List.Subset.refl _) hf)⟩
    rw [Dev.get_of_beyond hend hclear hi hj, hy, Dev.lineShown, Dev.get_set_distinct _ hd]
    exact Dev.get_of_beyond (d := d) (e := d.slowCounted b m) (d.beyond_slowCounted b m) hg hi hj

end Sys2Proof.Machine
end


section
/-! PROOF. The records of a line that is sent, and tickle records (R220 to R223; settles O56). -/

namespace Sys2Proof.Machine

/-! ### Steps that each reach one cell -/

section
variable {σ β κ γ : Type} {cell : σ → κ → γ} {key : β → κ} {g : σ → β → σ} {Ok : β → γ → Prop} {P : β → γ → γ → Prop}
  (hg : ∀ d x, Ok x (cell d (key x)) → (∀ k, k ≠ key x → cell (g d x) k = cell d k) ∧ P x (cell d (key x)) (cell (g d x) (key x)))
include hg

/-- Steps at other cells leave a cell. -/
theorem foldl_cell_other {l : List β} (hnd : (l.map key).Nodup) {d : σ} (hok : ∀ x ∈ l, Ok x (cell d (key x))) {k : κ} (hk : k ∉ l.map key) :
    cell (l.foldl g d) k = cell d k := by
  induction l generalizing d with
  | nil => rfl
  | cons x l ih =>
    obtain ⟨hother, -⟩ := hg d x (hok x List.mem_cons_self)
    rw [List.map_cons, List.nodup_cons] at hnd
    rw [List.map_cons, List.mem_cons, not_or] at hk
    have hok' : ∀ y ∈ l, Ok y (cell (g d x) (key y)) := fun y hy => by
      rw [hother (key y) fun he => hnd.1 (he ▸ List.mem_map_of_mem hy)]
      exact hok y (List.mem_cons_of_mem _ hy)
    rw [List.foldl_cons, ih hnd.2 hok' hk.2, hother k hk.1]

/-- Steps at cells of their own do what each does alone. -/
theorem foldl_cells {l : List β} (hnd : (l.map key).Nodup) {d : σ} (hok : ∀ x ∈ l, Ok x (cell d (key x))) : ∀ x ∈ l, P x (cell d (key x)) (cell (l.foldl g d) (key x)) := by
  induction l generalizing d with
  | nil => exact fun _ h => absurd h List.not_mem_nil
  | cons x l ih =>
    obtain ⟨hother, hown⟩ := hg d x (hok x List.mem_cons_self)
    rw [List.map_cons, List.nodup_cons] at hnd
    have hne (y : β) (hy : y ∈ l) : key y ≠ key x := fun he => hnd.1 (he ▸ List.mem_map_of_mem hy)
    have hok' : ∀ y ∈ l, Ok y (cell (g d x) (key y)) := fun y hy => by
      rw [hother (key y) (hne y hy)]
      exact hok y (List.mem_cons_of_mem _ hy)
    intro y hy
    rw [List.foldl_cons]
    obtain rfl | hy := List.mem_cons.mp hy
    · rw [foldl_cell_other hg hnd.2 hok' hnd.1]
      exact hown
    · have hrest := ih hnd.2 hok' y hy
      rwa [hother (key y) (hne y hy)] at hrest

end

/-! ### What a record reaches -/

/-- What the records of a line look at, at a port. -/
structure PortCell where
  port   : HlkPort
  auth   : Bool
  ports  : Nat
  stop   : StopSt
  pos    : PosSt

/-- A port's cell. -/
def Dev.portCell (d : Dev) (p : Nat) : PortCell := ⟨d.port p, d.flag F.HLK_CTRL_REQUIRE_AUTH p, d.ports.length, d.fire.stop, d.pos⟩

/-- Does the port receive records. -/
def PortCell.receives (c : PortCell) : Bool := c.port.st = .up && (c.port.authOk || !c.auth)

theorem Dev.receives_eq (d : Dev) (p : Nat) : d.receives p = (d.portCell p).receives := rfl

/-- A record has joined the port. -/
def PortCell.Joined (c c' : PortCell) (Q : Rec → Prop) : Prop :=
  (∃ r, c'.port.recs = c.port.recs ++ [r] ∧ Q r ∧ r.seq = c.port.seq) ∧ c'.stop = c.stop ∧ c'.pos = c.pos

theorem Dev.portCell_ampStep (d : Dev) (b s p : Nat) : (d.ampStep b s).portCell p = d.portCell p := by
  have hset (v : Nat) : (d.set F.FIRE_B_S_GAIN v b s).portCell p = d.portCell p := by
    have hflag : (d.set F.FIRE_B_S_GAIN v b s).flag F.HLK_CTRL_REQUIRE_AUTH p = d.flag F.HLK_CTRL_REQUIRE_AUTH p := by
      rw [Dev.flag, Dev.flag, Dev.get_set_distinct _ (by decide)]
    rw [Dev.portCell, hflag]
    rfl
  simp only [Dev.ampStep]
  exact ite_keeps (fun e : Dev => e.portCell p) (hset _) rfl

theorem Dev.portCell_queueRec (d : Dev) (p : Nat) (r : Rec) : (∀ k, k ≠ p → (d.queueRec p r).portCell k = d.portCell k) ∧
    (p < d.ports.length → ((d.queueRec p r).portCell p).port.recs = (d.portCell p).port.recs ++ [r]) := by
  refine ⟨fun k hk => ?_, fun hp => ?_⟩
  · have hport : (d.queueRec p r).port k = d.port k := Dev.port_modPort_ne d hk _
    have hlen : (d.queueRec p r).ports.length = d.ports.length := Dev.length_modPort d p _
    rw [Dev.portCell, hport, hlen]
    rfl
  · have hport : (d.queueRec p r).port p = { d.port p with recs := (d.port p).recs ++ [r], seq := ((d.port p).seq + 1) % 256 } := Dev.port_modPort_self hp _
    exact congrArg HlkPort.recs hport

/-! ### The shots of a line without drops -/

/-- A slot's shot for a line without drops. -/
def Dev.bareShot (d : Dev) (x : FireLine) (b : Nat) (tau : Int) (e : Nat × HEntry) : Shot :=
  ⟨e.1, e.2.port, d.geomSlot b e.1, max (d.fireTime x b e.1 tau) ((d.fire.lastFire.getD e.2.port none).getD (d.fireTime x b e.1 tau)), []⟩

/-- A read of a sound array gives what was written. -/
theorem Dev.readSpout_sound {d : Dev} (h : d.ecc.sram = []) (port line mode : Nat) (levels : List Nat) : d.readSpout port line mode levels = (levels, false, d) := by
  have hread (i w : Nat) : d.sramRead 0x10 i w = (w, false, d) := by
    simp only [Dev.sramRead, h, List.find?_nil]
  simp only [Dev.readSpout, hread, if_true]

theorem Dev.shotsRead_bare {d : Dev} {x : FireLine} (hl : x.levels = []) (h : d.ecc.sram = []) (b m : Nat) (tau : Int) :
    ∃ late, d.shotsRead x b m tau = ((d.heads b).map (d.bareShot x b tau), late, false, d) := by
  have hfold (l : List (Nat × HEntry)) (acc : List Shot) (late : Bool) : ∃ late', l.foldl (fun (a : List Shot × Bool × Bool × Dev) e =>
      let t := d.fireTime x b e.1 tau
      let least := ((d.fire.lastFire.getD e.2.port none).getD t)
      let r := a.2.2.2.readSpout e.2.port m x.ctx.dropMode (portLevels e.2.port x.levels)
      (a.1 ++ [⟨e.1, e.2.port, d.geomSlot b e.1, max t least, if x.blank then [] else r.1⟩], a.2.1 || t < least, a.2.2.1 || (r.2.1 && !x.blank), if x.blank then a.2.2.2 else r.2.2))
        (acc, late, false, d) = (acc ++ l.map (d.bareShot x b tau), late', false, d) := by
    induction l generalizing acc late with
    | nil => exact ⟨late, by rw [List.map_nil, List.append_nil]; rfl⟩
    | cons e l ih =>
      obtain ⟨late', hl'⟩ := ih (acc ++ [d.bareShot x b tau e]) (late || d.fireTime x b e.1 tau < ((d.fire.lastFire.getD e.2.port none).getD (d.fireTime x b e.1 tau)))
      refine ⟨late', ?_⟩
      rw [List.foldl_cons, List.map_cons, List.append_cons]
      have hlev : portLevels e.2.port x.levels = [] := by rw [hl]; rfl
      simp only [Dev.readSpout_sound h, hlev, Bool.false_and, Bool.or_false, ite_self]
      exact hl'
  exact hfold (d.heads b) [] false

/-- No limit suppresses a shot without drops. -/
theorem Dev.applyDuty_bare (d : Dev) (v : List Nat) {shots : List Shot} (h : ∀ s ∈ shots, s.levels = []) :
    (d.applyDuty v shots).1 = shots ∧ (d.applyDuty v shots).2.1 = false ∧ (d.applyDuty v shots).2.2.1 = false := by
  have hn (f : Shot → List Duty → List Nat × Bool × List Duty) (hf : ∀ s l, s.levels = [] → f s l = ([], false, l)) (l : List Shot) (hl : ∀ s ∈ l, s.levels = []) (acc : List Shot)
      (q : List Duty) : l.foldl (fun (a : List Shot × Bool × List Duty) x => (a.1 ++ [{ x with levels := (f x a.2.2).1 }], a.2.1 || (f x a.2.2).2.1, (f x a.2.2).2.2)) (acc, false, q) =
        (acc ++ l, false, q) := by
    induction l generalizing acc with
    | nil => simp
    | cons s l ih =>
      have hs := hl s List.mem_cons_self
      have hsame : ({ s with levels := [] } : Shot) = s := by
        cases s
        simp only at hs
        rw [hs]
      rw [List.foldl_cons, hf s _ hs, hsame]
      refine (ih (fun s hs => hl s (List.mem_cons_of_mem _ hs)) _).trans ?_
      rw [List.append_assoc]
      rfl
  have hnozzles := hn (fun x q => dutyNozzles (x.time.toNat / (Nat.max 1 d.dutyWindows.fire.nozWin * 1000)) (d.dutyWindows.bonded 0) (x.port * 4096) x.levels q)
    (fun s l hs => by simp only [hs, dutyNozzles]) shots h [] d.dutyWindows.fire.nozzle
  have hsum (k : Nat) : (((shots.filter (fun x => x.head = k)).flatMap (fun x => x.levels)).map (fun l => waveEnergy v l)).sum = 0 := by
    have hnil : (shots.filter (fun x => x.head = k)).flatMap (fun x => x.levels) = [] := List.flatMap_eq_nil_iff.mpr fun s hs => h s (List.mem_filter.mp hs).1
    rw [hnil]
    rfl
  rw [List.nil_append] at hnozzles
  simp only [Dev.applyDuty, hnozzles]
  rw [List.foldl_fixed' (fun k => if_pos (hsum k))]
  exact ⟨rfl, trivial, rfl⟩

/-! ### The record of each port (R220, R253) -/

/-- A shot to a port that receives joins its record there, and nothing else of the ports changes. -/
theorem Dev.portCell_shotSent (d : Dev) (x : FireLine) (b m : Nat) (v : List Nat) (s : Shot) (hr : d.receives s.port = true) (hp : s.port < d.ports.length) :
    (∀ k, k ≠ s.port → (Dev.shotSent x b m v d s).portCell k = d.portCell k) ∧
      (d.portCell s.port).Joined ((Dev.shotSent x b m v d s).portCell s.port) (fun r => r.tickle = false ∧ r.line = m ∧ r.bar = b ∧ r.fireTime = s.time) := by
  obtain ⟨e, he⟩ : ∃ e, e = d.shotNoted b v s := ⟨_, rfl⟩
  have hcell (k : Nat) : e.portCell k = d.portCell k := by
    rw [he, Dev.shotNoted]
    exact (show _ = (if s.head ≠ s.slot then d else d.ampStep b s.slot).portCell k from rfl).trans (ite_keeps (fun y : Dev => y.portCell k) rfl (d.portCell_ampStep b s.slot k))
  have hreceives : e.receives s.port = true := by rw [Dev.receives_eq, hcell, ← Dev.receives_eq, hr]
  have hlen : e.ports.length = d.ports.length := congrArg PortCell.ports (hcell s.port)
  have hsent : Dev.shotSent x b m v d s = e.queueRec s.port (shotRec x b m v s (e.port s.port).seq (d.get F.FIRE_B_S_GAIN b s.head)) := by
    rw [he]
    exact if_pos (he ▸ hreceives)
  obtain ⟨hother, hown⟩ := e.portCell_queueRec s.port (shotRec x b m v s (e.port s.port).seq (d.get F.FIRE_B_S_GAIN b s.head))
  rw [hsent]
  refine ⟨fun k hk => (hother k hk).trans (hcell k), ⟨_, (hown (hlen ▸ hp)).trans (congrArg (fun c : PortCell => c.port.recs ++ _) (hcell s.port)), ⟨rfl, rfl, rfl, rfl⟩, ?_⟩, ?_, ?_⟩
  · exact congrArg (fun c : PortCell => c.port.seq) (hcell s.port)
  · exact (show e.fire.stop = d.fire.stop from congrArg PortCell.stop (hcell s.port))
  · exact (show e.pos = d.pos from congrArg PortCell.pos (hcell s.port))

/-- The ports and the stop sequence. -/
def Dev.portsStop (d : Dev) := (d.ports, d.fire.stop)

theorem Dev.portsStop_noteCauses (d : Dev) (x : FireLine) (b m : Nat) (causes : List Nat) : (d.noteCauses x b m causes).portsStop = d.portsStop := by
  have hpush (e : Dev) (i t st ev c l : Nat) : (e.pushJobRec i t st ev c l).portsStop = e.portsStop := ite_keeps Dev.portsStop rfl rfl
  have hclose (e : Dev) (i : Nat) (g : DefectRange) : (e.closeRange i g).portsStop = e.portsStop := by
    rw [Dev.closeRange, hpush]
    rfl
  have hcloses (e : Dev) (i : Nat) (p : DefectRange → Bool) : (e.closeRanges i p).portsStop = e.portsStop := foldl_keeps Dev.portsStop _ (fun e g => hclose e i g) _ e
  have hothers (e : Dev) (l : List (Nat × Job)) : (l.foldl (fun d k => d.closeRanges k.1 (fun g => g.bar = b)) e).portsStop = e.portsStop :=
    foldl_keeps Dev.portsStop (fun d (k : Nat × Job) => d.closeRanges k.1 (fun g => g.bar = b)) (fun e k => hcloses e k.1 _) l e
  have hjoin (e : Dev) (i c l : Nat) : (e.joinRange i b c l).portsStop = e.portsStop := by
    simp only [Dev.joinRange]
    split
    · exact ite_keeps Dev.portsStop rfl (ite_keeps Dev.portsStop rfl (hclose e i _))
    · rfl
  have hadd (e : Dev) (i c : Nat) : (e.addRange i b c m).portsStop = e.portsStop := by
    obtain ⟨y, hy⟩ : ∃ y, y = ((e.jobs.filter (fun k => k.1 ≠ i)).foldl (fun d k => d.closeRanges k.1 (fun g => g.bar = b)) e) := ⟨_, rfl⟩
    have hfirst : y.portsStop = e.portsStop := by
      rw [hy]
      exact hothers e _
    obtain ⟨z, hz⟩ : ∃ z, z = (y.closeRanges i (fun g => g.bar = b && g.cause ≠ c && !(g.first ≤ m && m < g.first + g.count))).joinRange i b c m := ⟨_, rfl⟩
    have hjoined : z.portsStop = e.portsStop := by rw [hz, hjoin, hcloses, hfirst]
    rw [Dev.addRange, ← hy, ← hz]
    exact ite_keeps Dev.portsStop ((hcloses _ _ _).trans hjoined) hjoined
  simp only [Dev.noteCauses]
  split
  · refine ite_keeps Dev.portsStop rfl ?_
    rw [Dev.lineCauses, foldl_keeps Dev.portsStop _ (fun e c => hadd e _ c), hcloses]
    exact hothers d _
  · rfl

/-- Outside RESUMING a passed line leaves the ports. -/
theorem Dev.ports_passLine {d : Dev} (h : d.fire.stop.st = .run) (b m : Nat) : (d.passLine b m).ports = d.ports := by
  have hstrip : (d.stripAtFirst b m).portsStop = d.portsStop := by
    have harrive : (d.stripArrives m).portsStop = d.portsStop := by
      have hbump (e : Dev) : (e.bump F.VIN_STAT_DISCARDED).portsStop = e.portsStop := rfl
      have hstrips (e : Dev) (l : List Strip) : ({ e with vin := { e.vin with strips := l } } : Dev).portsStop = e.portsStop := rfl
      simp only [Dev.stripArrives]
      refine ite_keeps Dev.portsStop rfl (foldl_keeps Dev.portsStop _ (fun e k => ?_) _ _)
      split
      · exact ite_keeps Dev.portsStop ((hstrips _ _).trans (ite_keeps Dev.portsStop (hbump e) rfl)) rfl
      · rfl
    exact ite_keeps Dev.portsStop harrive rfl
  have hto (e : Dev) (k : Nat × Job) (n : Nat) : (e.releaseTo b m k n).portsStop = e.portsStop := ite_keeps Dev.portsStop rfl rfl
  have hrelease (e : Dev) : (e.releaseLine b m).portsStop = e.portsStop := foldl_keeps Dev.portsStop _ (fun e k => hto e k _) _ _
  have hblanks (e : Dev) : (e.shedBlanks b m).portsStop = e.portsStop := rfl
  have hshed (e : Dev) : (e.shedLine b m).portsStop = e.portsStop := rfl
  have hbefore : ((((d.stripAtFirst b m).shedLine b m).releaseLine b m).shedBlanks b m).portsStop = d.portsStop := by rw [hblanks, hrelease, hshed, hstrip]
  rw [Dev.passLine_eq]
  generalize (((d.stripAtFirst b m).shedLine b m).releaseLine b m).shedBlanks b m = e at hbefore
  have hstop : e.fire.stop = d.fire.stop := congrArg Prod.snd hbefore
  have hnot : ¬ (decide (e.fire.stop.st = .resuming) && decide (m % 2 ^ 48 = (e.get F.FIRE_B_LAST b + 1) % 2 ^ 48)) = true := by
    rw [hstop, h]
    simp
  exact (congrArg Dev.ports (if_neg hnot)).trans (congrArg Prod.fst hbefore)

/-- The end of a line that is not slow, outside RESUMING, leaves the ports. -/
theorem Dev.ports_lineEnded {d : Dev} (hrun : d.fire.stop.st = .run) (hfast : d.belowMin = false) (x : FireLine) (b m : Nat) (tau : Int) (down : List Nat) (sup poison : Bool) :
    (d.lineEnded x b m tau down sup poison).ports = d.ports := by
  have hslow : d.slowLine b m = false := by rw [Dev.slowLine, hfast, Bool.false_and]
  have hcounted : d.slowCounted b m = d := by
    simp only [Dev.slowCounted, hslow, Bool.false_and]
    rfl
  have hjob (e : Dev) : (e.jobFired x b m).portsStop = e.portsStop := by
    simp only [Dev.jobFired]
    split
    · rfl
    · split
      · split <;> rfl
      · rfl
  obtain ⟨y, hy⟩ : ∃ y, y = ((d.lineShown x b m tau false).noteCauses x b m (lineCausesOf x down false sup poison)).jobFired x b m := ⟨_, rfl⟩
  have hview : y.portsStop = d.portsStop := by
    rw [hy, hjob, Dev.portsStop_noteCauses]
    rfl
  have hstop : y.fire.stop = d.fire.stop := congrArg Prod.snd hview
  rw [Dev.lineEnded, hcounted, hslow, ← hy, Dev.ports_passLine (by rw [hstop, hrun])]
  exact congrArg Prod.fst hview

/-- A line without drops or causes sends one record to each of its ports. -/
theorem Dev.sendLine_records {c : Dev} {x : FireLine} {b m : Nat} {tau : Int} {late : Bool} (hl : x.levels = []) (hsram : c.ecc.sram = []) (hrun : c.fire.stop.st = .run)
    (hfast : c.belowMin = false) (hports : ∀ e ∈ c.heads b, c.receives e.2.port = true ∧ e.2.port < c.ports.length) (hnd : ((c.heads b).map (fun e => e.2.port)).Nodup) :
    ∀ e ∈ c.heads b, ∃ r : Rec, ((c.sendLine x b m tau late).port e.2.port).recs = (c.port e.2.port).recs ++ [r] ∧ r.tickle = false ∧ r.line = m ∧
      r.bar = b ∧ r.seq = (c.port e.2.port).seq ∧ c.fireTime x b e.1 tau ≤ r.fireTime := by
  intro e he
  obtain ⟨read, duty, v, hread, -, hduty, hsend⟩ := c.sendLine_steps x b m tau late
  obtain ⟨late', hbare⟩ := Dev.shotsRead_bare hl hsram b m tau
  rw [← hread] at hbare
  have hlevels : ∀ s ∈ (c.heads b).map (c.bareShot x b tau), s.levels = [] := fun s hs => by
    obtain ⟨k, -, rfl⟩ := List.mem_map.mp hs
    rfl
  obtain ⟨hshots, hnoz, hheads⟩ := Dev.applyDuty_bare c v hlevels
  rw [hbare] at hduty
  have hdev : duty.2.2.2.portCell = c.portCell := by
    rw [hduty]
    rfl
  obtain ⟨f, hf⟩ : ∃ f, f = ((c.heads b).map (c.bareShot x b tau)).foldl (Dev.shotSent x b m v) duty.2.2.2 := ⟨_, rfl⟩
  have hcells := foldl_cells (cell := Dev.portCell) (key := Shot.port) (g := Dev.shotSent x b m v) (Ok := fun s k => k.receives = true ∧ s.port < k.ports)
    (P := fun s k k' => k.Joined k' (fun r => r.tickle = false ∧ r.line = m ∧ r.bar = b ∧ r.fireTime = s.time)) (fun d s h => d.portCell_shotSent x b m v s h.1 h.2)
    (l := (c.heads b).map (c.bareShot x b tau)) (by rw [List.map_map]; exact hnd) (d := duty.2.2.2) (fun s hs => by
      obtain ⟨k, hk, rfl⟩ := List.mem_map.mp hs
      rw [hdev]
      exact hports k hk) (c.bareShot x b tau e) (List.mem_map_of_mem he)
  rw [← hf, hdev] at hcells
  obtain ⟨⟨r, hrecs, ⟨htickle, hline, hbar, htime⟩, hseq⟩, hstop, hpos⟩ := hcells
  have hcount (late : Bool) : (f.lineCounted b late false false).ports = f.ports ∧ (f.lineCounted b late false false).fire = f.fire ∧
      (f.lineCounted b late false false).pos = f.pos := by cases late <;> exact ⟨rfl, rfl, rfl⟩
  have hfinal : (c.sendLine x b m tau late).ports = f.ports := by
    obtain ⟨hp, hfire, hcpos⟩ := hcount (late || read.2.1)
    have hfstop : f.fire.stop = c.fire.stop := hstop
    have hfpos : f.pos = c.pos := hpos
    rw [hsend, hduty, hshots, hnoz, hheads, ← hduty, ← hf, Dev.ports_lineEnded, hp]
    · rw [hfire, hfstop, hrun]
    · rw [Dev.belowMin, hfire, hcpos, hfstop, hfpos]
      exact hfast
  refine ⟨r, ?_, htickle, hline, hbar, hseq, ?_⟩
  · rw [Dev.port, hfinal]
    exact hrecs
  · rw [htime]
    exact le_max_left _ _

end Sys2Proof.Machine
end


section
/-! PROOF. The commit of a line and of tickle records (R206 to R212, R222, R223; settles O56). -/

namespace Sys2Proof.Machine

/-! ### The first tick of a bar (R206) -/

/-- The bar time from which the bar's next line may fire. -/
def Dev.readyAt (d : Dev) (b : Nat) (tau : Int) : Int := match (d.fireBar b).tauLast with | some l => l + (d.fireBar b).period | none => tau

/-- May a line that comes too soon be fired at a later bar time. -/
def Dev.mayDefer (d : Dev) (b : Nat) (t : Tick) (r : Int) : Bool :=
  r - t.time ≤ (d.get F.FIRE_RATE_CFG_DEFER_NS : Nat) && r < (if 0 < d.pos.v then d.crossing b (t.line + 1) else r + 1) && d.get F.FIRE_RATE_CFG_DEFER_NS ≠ 0

/-- A line commits at a bar time: with too little time for the heads it is dropped, else sent. -/
def Dev.commitAt (c : Dev) (x : FireLine) (b : Nat) (t : Tick) (tau : Int) (late : Bool) : Dev :=
  if c.firstFire x b tau - c.T < (needBar x.heads : Nat) then (c.dropLine x b t.line).report (129 + b) else c.sendLine x b t.line tau late

/-- The device with the warning's share of the rate as the commit takes it. -/
def Dev.warned (d : Dev) : Dev := { d with fire := { d.fire with warnPct := d.get F.FIRE_RATE_CFG_WARN_PCT } }

theorem Dev.commitLine_eq (d : Dev) (x : FireLine) (b : Nat) (t : Tick) : d.commitLine x b t =
    if !d.gateOpen then d.warned.dropLine x b t.line
    else if !(decide (d.readyAt b t.time ≤ t.time)) && !d.mayDefer b t (d.readyAt b t.time) then d.warned.dropLine x b t.line
    else d.warned.commitAt x b t (if d.readyAt b t.time ≤ t.time then t.time else d.readyAt b t.time) (!decide (d.readyAt b t.time ≤ t.time)) := rfl

theorem Dev.commitLine_shut {d : Dev} (h : d.gateOpen = false) (x : FireLine) (b : Nat) (t : Tick) : d.commitLine x b t = d.warned.dropLine x b t.line := by
  rw [Dev.commitLine_eq, h]
  rfl

theorem Dev.commitLine_onTime {d : Dev} (hopen : d.gateOpen = true) {b : Nat} {t : Tick} (h : ∀ l, (d.fireBar b).tauLast = some l → l + (d.fireBar b).period ≤ t.time) (x : FireLine) :
    d.commitLine x b t = d.warned.commitAt x b t t.time false := by
  have hready : d.readyAt b t.time ≤ t.time := by
    rw [Dev.readyAt]
    split
    · next l hl => exact h l hl
    · exact le_refl _
  rw [Dev.commitLine_eq, hopen, decide_eq_true hready, if_pos hready]
  rfl

section
variable {d : Dev} (hopen : d.gateOpen = true) {b : Nat} {t : Tick} {l r : Int} (hl : (d.fireBar b).tauLast = some l) (hr : r = l + (d.fireBar b).period) (hsoon : t.time < r)
include hopen hl hr hsoon

theorem Dev.commitLine_soon (x : FireLine) : d.commitLine x b t = if d.mayDefer b t r then d.warned.commitAt x b t r true else d.warned.dropLine x b t.line := by
  have hready : d.readyAt b t.time = r := by rw [Dev.readyAt, hl, hr]
  have hnot : ¬ r ≤ t.time := not_le.mpr hsoon
  rw [Dev.commitLine_eq, hopen, hready, decide_eq_false hnot, if_neg hnot]
  cases d.mayDefer b t r <;> rfl

theorem Dev.commitLine_dropped (hno : (d.get F.FIRE_RATE_CFG_DEFER_NS : Int) < r - t.time ∨ (0 < d.pos.v ∧ d.crossing b (t.line + 1) ≤ r)) (x : FireLine) :
    d.commitLine x b t = d.warned.dropLine x b t.line := by
  rw [Dev.commitLine_soon hopen hl hr hsoon]
  refine if_neg fun h => ?_
  simp only [Dev.mayDefer, Bool.and_eq_true, decide_eq_true_eq] at h
  obtain ⟨⟨hle, hlt⟩, -⟩ := h
  obtain hlate | ⟨hv, hpast⟩ := hno
  · exact absurd hle (not_le.mpr hlate)
  · rw [if_pos hv] at hlt
    exact absurd hlt (not_lt.mpr hpast)

theorem Dev.commitLine_deferred (hle : r - t.time ≤ (d.get F.FIRE_RATE_CFG_DEFER_NS : Int)) (hnext : d.pos.v ≤ 0 ∨ r < d.crossing b (t.line + 1)) (x : FireLine) :
    d.commitLine x b t = d.warned.commitAt x b t r true := by
  rw [Dev.commitLine_soon hopen hl hr hsoon]
  refine if_pos ?_
  simp only [Dev.mayDefer, Bool.and_eq_true, decide_eq_true_eq]
  refine ⟨⟨hle, ?_⟩, fun h0 => ?_⟩
  · split
    · next hv => exact hnext.resolve_left (not_le.mpr hv)
    · omega
  · rw [h0] at hle
    omega

end

theorem Dev.commitAt_late {d : Dev} {x : FireLine} {b : Nat} {t : Tick} {tau : Int} (h : d.firstFire x b tau - d.T < needBar x.heads) (late : Bool) :
    d.warned.commitAt x b t tau late = (d.warned.dropLine x b t.line).report (129 + b) := if_pos h

theorem Dev.commitAt_sends {d : Dev} {x : FireLine} {b : Nat} {t : Tick} {tau : Int} (h : (needBar x.heads : Int) ≤ d.firstFire x b tau - d.T) (late : Bool) :
    d.warned.commitAt x b t tau late = d.warned.sendLine x b t.line tau late := if_neg (not_lt.mpr h)

/-- What a bar's first tick does at its commit point. -/
def Dev.lineStep (d : Dev) (b : Nat) : Dev :=
  match (d.posBar b).ticks with
  | [] => d
  | t :: _ =>
    let lead : Int := d.get F.FIRE_COMMIT_NS
    match d.fireLine b t.line with
    | some x => if d.firstFire x b t.time - lead ≤ d.T then d.commitLine x b t else d
    | none =>
      match d.jobAtLine b t.line with
      | some (i, j) =>
        let x : FireLine := { ctx := j.ctx, rate := j.geo.rateMax, heads := (j.bar b).heads, job := some i, run := true, levels := [], causes := [], blank := false, raster := true }
        if d.firstFire x b t.time - lead ≤ d.T then d.starveLine i b t.line else d
      | none => if t.time - lead ≤ d.T then d.passLine b t.line else d

theorem gives_lineCommit (b : Bar) (s : State) : Gives (.lineCommit b) s (s.dev.lineStep b.val) := rfl

section
variable {b : Bar} {s : State} {t : Tick} {rest : List Tick} (ht : (s.dev.posBar b.val).ticks = t :: rest)
include ht

theorem gives_lineCommit_fire {x : FireLine} (hx : s.dev.fireLine b.val t.line = some x) : Gives (.lineCommit b) s
    (if s.dev.firstFire x b.val t.time - (s.dev.get F.FIRE_COMMIT_NS : Int) ≤ s.dev.T then s.dev.commitLine x b.val t else s.dev) :=
  (gives_lineCommit b s).congr (by simp only [Dev.lineStep, ht, hx])

theorem gives_lineCommit_starve (hx : s.dev.fireLine b.val t.line = none) {i : Nat} {j : Job} (hj : s.dev.jobAtLine b.val t.line = some (i, j)) : Gives (.lineCommit b) s
    (if s.dev.firstFire ⟨j.ctx, j.geo.rateMax, (j.bar b.val).heads, some i, true, [], [], false, true⟩ b.val t.time - (s.dev.get F.FIRE_COMMIT_NS : Int) ≤ s.dev.T
      then s.dev.starveLine i b.val t.line else s.dev) :=
  (gives_lineCommit b s).congr (by simp only [Dev.lineStep, ht, hx, hj])

theorem gives_lineCommit_pass (hx : s.dev.fireLine b.val t.line = none) (hj : s.dev.jobAtLine b.val t.line = none) : Gives (.lineCommit b) s
    (if t.time - (s.dev.get F.FIRE_COMMIT_NS : Int) ≤ s.dev.T then s.dev.passLine b.val t.line else s.dev) :=
  (gives_lineCommit b s).congr (by simp only [Dev.lineStep, ht, hx, hj])

end

/-! ### What a sent line leaves -/

theorem Dev.sendLine_spec (c : Dev) (x : FireLine) {b : Nat} (m : Nat) (tau : Int) (late : Bool) (hb : b < 8) :
    (c.sendLine x b m tau late).get F.FIRE_B_FIRED b = m % 281474976710656 ∧
      (c.sendLine x b m tau late).get F.FIRE_B_CNT_DROPPED b = c.get F.FIRE_B_CNT_DROPPED b ∧ (c.sendLine x b m tau late).TicksPast b m ∧
      (late = true → (c.sendLine x b m tau late).get F.FIRE_B_CNT_DEFERRED b = Nat.min F.FIRE_B_CNT_DEFERRED.max (c.get F.FIRE_B_CNT_DEFERRED b + 1)) := by
  obtain ⟨read, duty, v, hread, -, hduty, hsend⟩ := c.sendLine_steps x b m tau late
  obtain ⟨e, he⟩ : ∃ e, e = duty.1.foldl (Dev.shotSent x b m v) duty.2.2.2 := ⟨_, rfl⟩
  have hslots : ∀ s ∈ duty.1, s.slot < 24 := fun s hs => by
    have hmem : s.slot ∈ (c.heads b).map (fun k => k.1) := by
      rw [← Dev.slots_shotsRead c x b m tau, ← hread, ← Dev.slots_applyDuty read.2.2.2 v read.1, ← hduty]
      exact List.mem_map_of_mem hs
    obtain ⟨k, hk, hslot⟩ := List.mem_map.mp hmem
    exact hslot ▸ Dev.lt_of_mem_heads hk
  have hshots (g : Field) (hg : g.clear sramFields = true) (hr : g.clear reactFields = true) (hi : b < g.n1) (hj : 0 < g.n2)
      (hgain : ∀ s < 24, g.key b 0 ≠ F.FIRE_B_S_GAIN.key b s) : e.get g b = c.get g b := by
    rw [he, Dev.get_shotsSent x b m v hr hi hj (fun s hs => hgain _ (hslots s hs)), hduty, Dev.get_of_regs (Dev.regs_applyDuty ..), hread]
    exact Dev.get_of_beyond (c.beyond_shotsRead x b m tau) hg hi hj
  have hdropped : e.get F.FIRE_B_CNT_DROPPED b = c.get F.FIRE_B_CNT_DROPPED b :=
    hshots _ (by decide) (by decide) hb (by decide) (fun s _ => Field.key_ne_of_distinct (by decide) _ _ _ _)
  have hdeferred : e.get F.FIRE_B_CNT_DEFERRED b = c.get F.FIRE_B_CNT_DEFERRED b :=
    hshots _ (by decide) (by decide) hb (by decide) (fun s hs => by simp only [Field.key, Field.addr, F.FIRE_B_CNT_DEFERRED, F.FIRE_B_S_GAIN]; omega)
  rw [← he] at hsend
  obtain ⟨y, hy⟩ : ∃ y, y = if (late || read.2.1) = true then e.bump F.FIRE_B_CNT_DEFERRED b else e := ⟨_, rfl⟩
  obtain ⟨z, hz⟩ : ∃ z, z = y.lineCounted b false duty.2.1 duty.2.2.1 := ⟨_, rfl⟩
  rw [Dev.lineCounted_late, ← hy, ← hz] at hsend
  have hcounted : z.beyond sentFields = y.beyond sentFields := hz ▸ y.beyond_lineCounted b duty.2.1 duty.2.2.1
  obtain ⟨hfired, hrest⟩ := z.get_lineEnded x m tau ((duty.1.filter (fun s => !duty.2.2.2.receives s.port)).map (fun s => s.port)) (duty.2.1 || duty.2.2.1) read.2.2.1 hb
  rw [hsend]
  refine ⟨hfired, ?_, ?_, fun hlate => ?_⟩
  · rw [hrest _ (by decide) (by decide) hb (by decide), Dev.get_of_beyond hcounted (by decide) hb (by decide), hy, ← hdropped]
    exact ite_keeps (fun d : Dev => d.get F.FIRE_B_CNT_DROPPED b) (Dev.get_bump_distinct _ (by decide) ..) rfl
  · exact Dev.ticksPast_passLine _ b m
  · rw [hrest _ (by decide) (by decide) hb (by decide), Dev.get_of_beyond hcounted (by decide) hb (by decide), hy, if_pos (by rw [hlate]; rfl), Dev.get_bump_min _ (by decide), hdeferred]

/-! ### Tickle records (R222) -/

/-- One port's tickle record. -/
def Dev.tickleTo (b set n bits : Nat) (v : List Nat) (t : Int) (d : Dev) (e : Nat × HEntry) : Dev :=
  let half := d.geomSlot b e.1 ≠ e.1
  let gain := d.get F.FIRE_B_S_GAIN b (d.geomSlot b e.1)
  let d := if half then d else d.ampStep b e.1
  if d.receives e.2.port then
    let seq := (d.port e.2.port).seq
    let words := recordHead 2 set seq 1 (bits % 2) half (bits / 2) t v (if half then 0 else n) ++ (if half then [] else burstWords v gain)
    let d : Dev := { d with fire := { d.fire with lastFire := setAt d.fire.lastFire e.2.port (fun _ => some (t + n * 20)) } }
    d.queueRec e.2.port { seq, tickle := true, bar := b, job := none, line := 0, fireTime := t, need := (d.fireBar b).need, words }
  else d

/-- The tickle records of a bar. -/
def Dev.tickled (d : Dev) (b : Nat) : Dev :=
  let e := (d.nextFree.2.heads b).foldl (Dev.tickleTo b (d.tickleSet b) (waveLen (d.wave (d.tickleSet b))) (Config.tickleFields d.nextFree.1).toNat (d.wave (d.tickleSet b))
    ((d.T + (d.fireBar b).need : Nat) : Int)) d.nextFree.2
  e.modFireBar b (fun y => { y with lastRec := some e.now })

theorem gives_tickleCommit (b : Bar) (s : State) : Gives (.tickleCommit b) s (if !s.dev.tickles b.val || s.dev.now < s.dev.tickleDue b.val then s.dev else s.dev.tickled b.val) := rfl

/-- What a tickle step makes of its port. -/
def PortCell.Tickled (b p : Nat) (t : Int) (c c' : PortCell) : Prop :=
  p < c.ports → (c.receives = true → ∃ r : Rec, c'.port.recs = c.port.recs ++ [r] ∧ r.tickle = true ∧ r.bar = b ∧ r.seq = c.port.seq ∧ r.fireTime = t) ∧
    (c.receives = false → c'.port.recs = c.port.recs)

theorem Dev.portCell_tickleTo (b set n bits : Nat) (v : List Nat) (t : Int) (d : Dev) (e : Nat × HEntry) :
    (∀ k, k ≠ e.2.port → (Dev.tickleTo b set n bits v t d e).portCell k = d.portCell k) ∧
      (d.portCell e.2.port).Tickled b e.2.port t ((Dev.tickleTo b set n bits v t d e).portCell e.2.port) := by
  obtain ⟨y, hy⟩ : ∃ y, y = if d.geomSlot b e.1 ≠ e.1 then d else d.ampStep b e.1 := ⟨_, rfl⟩
  have hcell (k : Nat) : y.portCell k = d.portCell k := by
    rw [hy]
    exact ite_keeps (fun y : Dev => y.portCell k) rfl (d.portCell_ampStep b e.1 k)
  obtain ⟨r, z, hr, hz, hstep⟩ : ∃ (r : Rec) (z : Dev), (r.tickle = true ∧ r.bar = b ∧ r.seq = (y.port e.2.port).seq ∧ r.fireTime = t) ∧ z.portCell = y.portCell ∧
      Dev.tickleTo b set n bits v t d e = if y.receives e.2.port then z.queueRec e.2.port r else y := by
    rw [hy]
    refine ⟨_, _, ?_, ?_, rfl⟩
    · exact ⟨rfl, rfl, rfl, rfl⟩
    · rfl
  rw [hstep]
  by_cases hrec : y.receives e.2.port = true
  · rw [if_pos hrec]
    obtain ⟨hother, hown⟩ := z.portCell_queueRec e.2.port r
    rw [hz] at hother hown
    refine ⟨fun k hk => (hother k hk).trans (hcell k), fun hp => ⟨fun _ => ⟨r, ?_, hr.1, hr.2.1, ?_, hr.2.2.2⟩, fun hno => ?_⟩⟩
    · have hlen : z.ports.length = d.ports.length := (congrArg (fun c : Nat → PortCell => (c e.2.port).ports) hz).trans (congrArg PortCell.ports (hcell e.2.port))
      rw [hown (hlen ▸ hp), hcell]
    · exact hr.2.2.1.trans (congrArg (fun c : PortCell => c.port.seq) (hcell e.2.port))
    · rw [← hcell, ← Dev.receives_eq, hrec] at hno
      cases hno
  · rw [if_neg hrec]
    refine ⟨fun k _ => hcell k, fun _ => ⟨fun hyes => ?_, fun _ => by rw [hcell]⟩⟩
    rw [← hcell, ← Dev.receives_eq] at hyes
    exact absurd hyes hrec

/-- A bar that tickles sends one record to each of its ports that receives records. -/
theorem Dev.tickled_records {d : Dev} {b : Nat} (hnd : ((d.heads b).map (fun e => e.2.port)).Nodup) : ∀ e ∈ d.heads b, e.2.port < d.ports.length →
    (d.receives e.2.port = true → ∃ r : Rec, ((d.tickled b).port e.2.port).recs = (d.port e.2.port).recs ++ [r] ∧ r.tickle = true ∧ r.bar = b ∧
      r.seq = (d.port e.2.port).seq ∧ r.fireTime = (d.T + (d.fireBar b).need : Nat)) ∧
    (d.receives e.2.port = false → ((d.tickled b).port e.2.port).recs = (d.port e.2.port).recs) :=
  foldl_cells (cell := Dev.portCell) (key := fun e : Nat × HEntry => e.2.port) (Ok := fun _ _ => True)
    (P := fun e c c' => c.Tickled b e.2.port ((d.T + (d.fireBar b).need : Nat) : Int) c') (fun d e _ => Dev.portCell_tickleTo _ _ _ _ _ _ d e) hnd (d := d.nextFree.2) (fun _ _ => trivial)

/-- Settles O56: the branches of a line's commit, what a line that is dropped, starved, passed or sent leaves, and the tickle records of a bar. -/
theorem linesAndTicklesCommit : Obligations.LinesAndTicklesCommit := by
  unfold Obligations.LinesAndTicklesCommit
  refine ⟨⟨fun b s h => ?_, fun b s t rest c ht hc => ?_, fun c x b i m tau late hb => ⟨fun d hd => Dev.dropLine_spec c x m hb hd, fun d hd => Dev.starveLine_spec c i m hb hd,
    fun d hd => ?_, fun d hd => ?_⟩⟩, fun b s => ⟨fun hno => (gives_tickleCommit b s).congr (if_pos ?_), fun hyes hdue hnd => ⟨_, (gives_tickleCommit b s).congr (if_neg ?_),
      Dev.tickled_records hnd⟩⟩⟩
  · exact (gives_lineCommit b s).congr (by simp only [Dev.lineStep, h])
  · obtain rfl : c = s.dev.warned := hc
    refine ⟨fun x hx => ?_, fun hnone i j hj y f hy hf => ?_, fun hnone hnoj => ?_⟩
    · have hrun := gives_lineCommit_fire ht hx
      refine ⟨fun hlt => hrun.congr (if_neg (not_le.mpr hlt)), fun hle => ?_⟩
      replace hrun := hrun.congr (if_pos hle)
      refine ⟨fun hshut => hrun.congr (Dev.commitLine_shut hshut x b.val t), fun hopen => ⟨fun hon => ?_, fun l r hl hr hsoon => ⟨fun hno => ?_, fun hdefer hnext => ?_⟩⟩⟩
      · replace hrun := hrun.congr (Dev.commitLine_onTime hopen hon x)
        exact ⟨fun hlate => hrun.congr (Dev.commitAt_late hlate false), fun hsends => hrun.congr (Dev.commitAt_sends hsends false)⟩
      · exact hrun.congr (Dev.commitLine_dropped hopen hl hr hsoon hno x)
      · replace hrun := hrun.congr (Dev.commitLine_deferred hopen hl hr hsoon hdefer hnext x)
        exact ⟨fun hlate => hrun.congr (Dev.commitAt_late hlate true), fun hsends => hrun.congr (Dev.commitAt_sends hsends true)⟩
    · subst hy hf
      have hrun := gives_lineCommit_starve ht hnone hj
      exact ⟨fun hlt => hrun.congr (if_neg (not_le.mpr hlt)), fun hle => hrun.congr (if_pos hle)⟩
    · have hrun := gives_lineCommit_pass ht hnone hnoj
      exact ⟨fun hlt => hrun.congr (if_neg (not_le.mpr hlt)), fun hle => hrun.congr (if_pos hle)⟩
  · subst hd
    have hpast := (c.passLine_spec b m).1
    exact ⟨Dev.get_of_beyond hpast (by decide) hb (by decide), Dev.get_of_beyond hpast (by decide) hb (by decide), c.ticksPast_passLine b m⟩
  · subst hd
    obtain ⟨hfired, hdropped, hticks, hdeferred⟩ := c.sendLine_spec x m tau late hb
    exact ⟨hfired, hdropped, hticks, hdeferred, fun hl _ hsram _ hrun hfast hports hnd => Dev.sendLine_records hl hsram hrun hfast hports hnd⟩
  · rw [Bool.or_eq_true, Bool.not_eq_true', decide_eq_true_eq]
    exact hno
  · rw [Bool.or_eq_true, Bool.not_eq_true', decide_eq_true_eq, hyes]
    exact fun h => h.elim (fun h => Bool.noConfusion h) (fun hlt => absurd hdue (Nat.not_le.mpr hlt))

end Sys2Proof.Machine
end


section
/-! PROOF. What a report does to the DRAM channels (R291, R406): nothing but that a reaction may fence some of them. -/

namespace Sys2Proof.Machine

/-! ### The parts of a reaction that reach no channel -/

theorem still_ddr : Still (fun d : Dev => d.ddr) where
  regs _ _ := rfl
  msix _ _ := rfl
  emit _ _ _ := rfl
  ports _ _ := rfl
  jobs _ _ := rfl
  jobQ _ _ _ := rfl
  cam _ _ := rfl
  isp _ _ := rfl
  vin _ _ _ := rfl
  stop _ _ := rfl

theorem Dev.ddr_cutFrame (d : Dev) (k : Nat) (f : CtxFrame) : (d.cutFrame k f).ddr = d.ddr := by
  have howe (e : Dev) (n : Nat) : (e.owe n).ddr = e.ddr := rfl
  have hput (e : Dev) (j : Nat) (g : CtxFrame) (o : Nat) (a : IspAcc) : (e.streamPut k j g o a).1.ddr = e.ddr := still_ddr.streamPut e k j g o a
  have hend (e : Dev) (g : CtxFrame) : (e.ctxFrameEnd k g).ddr = e.ddr := still_ddr.ctxFrameEnd e k g
  simp only [Dev.cutFrame]
  split <;> simp only [howe, hend] <;> exact foldl_keeps (fun x : Dev × CtxFrame => x.1.ddr) _ (fun _ _ => by split <;> simp only [hput]) _ _

theorem Dev.ddr_endCtxFrames (d : Dev) (n : Nat) : (d.endCtxFrames n).ddr = d.ddr := by
  have hmod (e : Dev) (k : Nat) (f : IspCtx → IspCtx) : (e.modCtx k f).ddr = e.ddr := rfl
  exact foldl_keeps Dev.ddr _ (fun _ _ => (hmod ..).trans (foldl_keeps Dev.ddr _ (fun _ _ => Dev.ddr_cutFrame ..) _ _)) _ _

theorem Dev.ddr_stopCamera (d : Dev) (n : Nat) : (d.stopCamera n).ddr = d.ddr := by
  have hmod (e : Dev) (f : CamSt → CamSt) : (e.modCam n f).ddr = e.ddr := rfl
  have hdown (e : Dev) : (e.ctlDown n).ddr = e.ddr := still_ddr.ctlDown still_ddr.cam e n
  simp only [Dev.stopCamera]
  split
  · rfl
  · simp only [hmod, Dev.ddr_endCtxFrames, hdown, Dev.set_ddr]

theorem Dev.ddr_stopIsp (d : Dev) : d.stopIsp.ddr = d.ddr := by
  have hpurge (e : Dev) (n : Nat) : (e.purge n).ddr = e.ddr := rfl
  exact foldl_keeps Dev.ddr _ (fun _ _ => (hpurge ..).trans (Dev.ddr_endCtxFrames ..)) _ _

/-- The fields that a reaction may change besides those of a fenced channel. -/
def otherFields : List Field := eventFields ++ [F.ENC_STAT_SUSPECT] ++ portFields ++ camFields ++ safeFields ++ stopFields

/-- From d to e neither the channels nor what their STATE reads has changed. -/
def Dev.SameChannels (d e : Dev) : Prop := e.ddr = d.ddr ∧ e.beyond otherFields = d.beyond otherFields

theorem Dev.SameChannels.trans {d e g : Dev} (h : d.SameChannels e) (h' : e.SameChannels g) : d.SameChannels g := ⟨h'.1.trans h.1, h'.2.trans h.2⟩

theorem Dev.SameChannels.of_flt (d : Dev) (f : FltSt) : d.SameChannels { d with flt := f } := ⟨rfl, rfl⟩

theorem Dev.SameChannels.state {d e : Dev} (h : d.SameChannels e) {c : Nat} (hc : c < 4) : e.get F.DDR_C_STAT_STATE c = d.get F.DDR_C_STAT_STATE c :=
  Dev.get_of_beyond h.2 (by decide) hc (by decide)

/-! ### What a report keeps of the channels -/

section
variable {P : Dev → Prop} (hfence : ∀ (d : Dev) (c : Nat), P d → P (d.fenceChannel c)) (hsame : ∀ d e : Dev, d.SameChannels e → P d → P e)
include hfence hsame

theorem Dev.channels_fenceEffect {d : Dev} (h : P d) (u : FUnit) : P (d.fenceEffect u) := by
  cases u with
  | ddr c => exact hfence d c h
  | port p => exact hsame d _ ⟨still_ddr.disablePort d p [], Dev.beyond_disablePort (by decide) ..⟩ h
  | cam n => exact hsame d _ ⟨Dev.ddr_stopCamera d n, Dev.beyond_stopCamera (by decide) ..⟩ h
  | isp => exact hsame d _ ⟨Dev.ddr_stopIsp d, Dev.beyond_stopIsp (by decide) ..⟩ h
  | enc n => exact hsame d _ ⟨rfl, Dev.beyond_set _ _ _ _ (by decide) _⟩ h
  | _ => exact h

theorem Dev.outlives_channels : Outlives P where
  flt d f h := hsame d _ (.of_flt d f) h
  overwrites d h := hsame d _ ⟨rfl, Dev.beyond_bump _ _ _ _ (by decide) _⟩ h
  lastSrc d _ h := hsame d _ ⟨rfl, Dev.beyond_set _ _ _ _ (by decide) _⟩ h
  irq d k h := hsame d _ ⟨still_ddr.fltIrq d k, Dev.beyond_irq _ _ _ (by decide) _ _ _⟩ h
  fence d u h := Dev.channels_fenceEffect hfence hsame h u
  stop d c h := hsame d _ ⟨still_ddr.stopTrigger d c, Dev.beyond_stopTrigger (by decide) ..⟩ h
  settle d e h := hsame e _ ⟨still_ddr.settle (fun _ _ => rfl) d e, Dev.beyond_settle (by decide) ..⟩ h

end

end Sys2Proof.Machine
end


section
/-! PROOF. The DRAM channels after reset: refresh, sensors, retraining, alerts and idle rows (R275, R279 to R281, R285 to R287, R290). -/

namespace Sys2Proof.Machine

/-! ### Fenced channels -/

theorem Dev.get_stateOf_set (d : Dev) (c k v : Nat) :
    (d.set F.DDR_C_STAT_STATE v k).get F.DDR_C_STAT_STATE c = if c = k then v % 8 else d.get F.DDR_C_STAT_STATE c := by
  split
  · next h =>
    rw [h, Dev.get_set_self]
    rfl
  · refine Dev.get_set_ne _ _ _ _ _ _ _ _ ?_
    simp only [Field.key, Field.addr, F.DDR_C_STAT_STATE]
    omega

theorem Dev.state_fenceChannel (d : Dev) (c k : Nat) :
    (d.fenceChannel k).get F.DDR_C_STAT_STATE c =
      if c = k ∧ 3 ≤ d.get F.DDR_C_STAT_STATE c ∧ d.get F.DDR_C_STAT_STATE c ≤ 5 then 6 else d.get F.DDR_C_STAT_STATE c := by
  have hraise (e : Dev) (b : Nat) : (e.raiseBit F.DDR_STAT_FENCED b).get F.DDR_C_STAT_STATE c = e.get F.DDR_C_STAT_STATE c := Dev.get_set_distinct e (by decide) ..
  have hfenced (h : 3 ≤ d.get F.DDR_C_STAT_STATE k ∧ d.get F.DDR_C_STAT_STATE k ≤ 5) :
      (d.fenceChannel k).get F.DDR_C_STAT_STATE c = ((d.set F.DDR_C_STAT_STATE 6 k).raiseBit F.DDR_STAT_FENCED k).get F.DDR_C_STAT_STATE c := by
    simp only [Dev.fenceChannel, h, decide_true, Bool.and_self, if_true]
    rfl
  by_cases h : 3 ≤ d.get F.DDR_C_STAT_STATE k ∧ d.get F.DDR_C_STAT_STATE k ≤ 5
  · rw [hfenced h, hraise, Dev.get_stateOf_set]
    by_cases hc : c = k
    · subst hc
      rw [if_pos rfl, if_pos ⟨rfl, h⟩]
    · rw [if_neg hc, if_neg (fun hx => hc hx.1)]
  · have hkeep : d.fenceChannel k = d := if_neg (by simpa using h)
    rw [hkeep, if_neg]
    rintro ⟨rfl, hx⟩
    exact h hx

/-- A fenced channel stays FENCED under reports. -/
theorem Dev.fenced_report {d : Dev} {c : Nat} (hc : c < 4) (h : d.get F.DDR_C_STAT_STATE c = 6) : d.drain.get F.DDR_C_STAT_STATE c = 6 :=
  (Dev.outlives_channels (P := fun d => d.get F.DDR_C_STAT_STATE c = 6) (fun d k hd => by rw [Dev.state_fenceChannel]; split <;> trivial)
    (fun _ _ hsame hd => (hsame.state hc).trans hd)).drain h

/-- A channel in use is still in use after a report, or fenced. -/
theorem Dev.used_report {d : Dev} {c : Nat} (hc : c < 4) (h : 3 ≤ d.get F.DDR_C_STAT_STATE c ∧ d.get F.DDR_C_STAT_STATE c ≤ 6) (s i : Nat) :
    3 ≤ (d.report s i).get F.DDR_C_STAT_STATE c ∧ (d.report s i).get F.DDR_C_STAT_STATE c ≤ 6 :=
  (Dev.outlives_channels (P := fun d => 3 ≤ d.get F.DDR_C_STAT_STATE c ∧ d.get F.DDR_C_STAT_STATE c ≤ 6)
    (fun d k hd => by
      rw [Dev.state_fenceChannel]
      split
      · omega
      · exact hd)
    (fun _ _ hsame hd => by rwa [hsame.state hc])).report h s i

/-- A channel in use that fails is FENCED. -/
theorem Dev.state_failChannel {d : Dev} {c : Nat} (hc : c < 4) (h : 3 ≤ d.get F.DDR_C_STAT_STATE c ∧ d.get F.DDR_C_STAT_STATE c ≤ 6) :
    (d.failChannel c).get F.DDR_C_STAT_STATE c = 6 := by
  refine Dev.fenced_report hc ?_
  rw [Dev.state_fenceChannel]
  split <;> omega

theorem Dev.beyond_failChannel (d : Dev) (c : Nat) : (d.failChannel c).beyond reactFields = d.beyond reactFields :=
  (Dev.beyond_drain (by decide) _).trans (Dev.beyond_fenceChannel (by decide) d c)

theorem Dev.has_status_failChannel {d : Dev} {k : Nat} (h : has d.flt.status k = true) (c : Nat) : has (d.failChannel c).flt.status k = true := by
  have hfence : has (d.fenceChannel c).flt.status k = true := by
    simp only [Dev.fenceChannel]
    split <;> exact h
  obtain ⟨hst, -⟩ := Dev.Later.drain (d.fenceChannel c)
  exact hst k hfence

/-- A channel that neither waits for a retraining nor stands in one of its steps. -/
def Dev.Untrained (c : Nat) (d : Dev) : Prop := has d.ddr.queue c = false ∧ (d.chan c).step = none

theorem Dev.untrained_fenceChannel {d : Dev} {c : Nat} (h : d.Untrained c) (k : Nat) : (d.fenceChannel k).Untrained c := by
  obtain ⟨hq, hs⟩ := h
  simp only [Dev.fenceChannel]
  split
  · refine ⟨?_, ?_⟩
    · change has (removeAll d.ddr.queue k) c = false
      rw [has_removeAll, hq, Bool.false_and]
    · change ((setAt d.ddr.chans k _).getD c {}).step = none
      rw [getD_setAt]
      split
      · rfl
      · exact hs
  · exact ⟨hq, hs⟩

theorem Dev.untrained_report {d : Dev} {c : Nat} (h : d.Untrained c) (s i : Nat) : (d.report s i).Untrained c :=
  (Dev.outlives_channels (P := Dev.Untrained c) (fun _ k hd => Dev.untrained_fenceChannel hd k)
    (fun _ _ hsame hd => by rwa [Dev.Untrained, Dev.chan, hsame.1])).report h s i

/-! ### Refresh (R279, R280) -/

theorem DdrCh.debt_refreshed (x : DdrCh) (r n : Nat) : (x.refreshed r n).debt = x.debt := rfl

/-- What a refresh leaves owed: at most POSTPONE with requests waiting, else nothing. -/
def Dev.refreshed (d : Dev) (c rank : Nat) (waiting : Bool) : Dev :=
  let debt := (d.chan c).debt.getD rank 0 + 1
  let left := if waiting then Nat.min debt (d.get F.DDR_REF_POSTPONE) else 0
  d.modChan c (fun x =>
    let x := { x with debt := setAt x.debt rank (fun _ => left) }
    if left < debt then x.refreshed rank (debt - left) else x)

theorem gives_refreshDue (c : Chan) (rank : Fin 2) (waiting : Bool) (s : State) : Gives (.refreshDue c rank waiting) s
    (if (s.dev.get F.DDR_C_STAT_STATE c.val = 4 || s.dev.get F.DDR_C_STAT_STATE c.val = 5) && s.dev.get F.SYS_STAT_PHASE ≠ 7 then s.dev.refreshed c.val rank.val waiting
      else s.dev) := rfl

theorem Dev.chan_modChan_self (d : Dev) {c : Nat} (hc : c < d.ddr.chans.length) (f : DdrCh → DdrCh) : (d.modChan c f).chan c = f (d.chan c) := by
  rw [Dev.chan_modChan, if_pos ⟨rfl, hc⟩]

theorem Dev.debt_refreshed {d : Dev} {c rank : Nat} (hc : c < d.ddr.chans.length) (hr : rank < (d.chan c).debt.length) (waiting : Bool) :
    ((d.refreshed c rank waiting).chan c).debt =
      setAt (d.chan c).debt rank (fun n => if waiting then Nat.min (n + 1) (d.get F.DDR_REF_POSTPONE) else 0) := by
  have hdebt (x : DdrCh) (l : List Nat) (p : Prop) [Decidable p] (n : Nat) :
      (if p then DdrCh.refreshed { x with debt := l } rank n else { x with debt := l }).debt = l := by split <;> rfl
  obtain ⟨n, hn⟩ : ∃ n, (d.chan c).debt[rank]? = some n := ⟨_, List.getElem?_eq_getElem hr⟩
  rw [Dev.refreshed, Dev.chan_modChan_self d hc, hdebt, setAt_eq_set hn (fun n => if waiting then Nat.min (n + 1) (d.get F.DDR_REF_POSTPONE) else 0),
    List.getD_eq_getElem?_getD, hn, Option.getD_some]

/-- A rate change leaves its channel at the new rate. -/
theorem Dev.rate_refreshRate (d : Dev) (c : Nat) (b : Bool) : (d.refreshRate c b).get F.DDR_C_STAT_REF_2X c ≠ 0 ↔ b = true := by
  have hdone (e : Dev) (n : Nat) : ((e.set F.DDR_C_STAT_REF_2X (b2n b) c).bump F.DDR_C_CNT_CONVERTED c 0 n).get F.DDR_C_STAT_REF_2X c ≠ 0 ↔ b = true := by
    rw [Dev.get_bump_distinct _ (by decide), Dev.get_set_self]
    cases b <;> decide
  simp only [Dev.refreshRate]
  split
  · next h =>
    rw [← h, Dev.flag_eq_true]
  · exact hdone _ _

theorem Dev.beyond_refreshRate (d : Dev) (c : Nat) (b : Bool) :
    (d.refreshRate c b).beyond [F.DDR_C_STAT_REF_2X, F.DDR_C_CNT_CONVERTED] = d.beyond [F.DDR_C_STAT_REF_2X, F.DDR_C_CNT_CONVERTED] := by
  simp only [Dev.refreshRate]
  split
  · rfl
  · exact (Dev.beyond_bump _ _ _ _ (by decide) _).trans (Dev.beyond_set _ _ _ _ (by decide) _)

theorem Dev.flt_refreshRate (d : Dev) (c : Nat) (b : Bool) : (d.refreshRate c b).flt = d.flt := by
  simp only [Dev.refreshRate]
  split <;> rfl

end Sys2Proof.Machine
end


section
/-! PROOF. A module's sensors, retraining and alerts (R281, R283, R285 to R287, R290). -/

namespace Sys2Proof.Machine

/-! ### Sensors (R281, R283) -/

/-- The registers of a module's temperatures: the hub's, the two sensors' and the one in use. -/
def Dev.shownTemps (d : Dev) (k : Nat) (hub ts0 ts1 used : Int) : Dev :=
  (((d.set F.DDR_C_TEMP_HUB (unsigned 8 hub) k).set F.DDR_C_TEMP_TS0 (unsigned 8 ts0) k).set F.DDR_C_TEMP_TS1 (unsigned 8 ts1) k).set F.DDR_C_TEMP_USED (unsigned 8 used) k

/-- The report of a failed reading. -/
def Dev.failedReport (d : Dev) (k : Nat) (failed : Bool) : Dev := if failed then d.report (199 + k) else d

/-- The report of a hot module. -/
def Dev.hotReport (d : Dev) (k : Nat) (used : Int) : Dev := if (d.get F.DDR_REF_HOT_C : Int) ≤ used then d.report (203 + k) else d

/-- The refresh rate that a temperature asks for. -/
def Dev.tempRate (d : Dev) (k : Nat) (used : Int) : Dev :=
  if (d.get F.DDR_REF_TEMP_2X : Int) ≤ used then d.refreshRate k true
  else if used < (d.get F.DDR_REF_TEMP_2X : Int) - d.get F.DDR_REF_HYST then d.refreshRate k false
  else d

/-- The three readings of a module. -/
def Dev.moduleRead (d : Dev) (k : Nat) (hub ts0 ts1 : Option Byte) : Dev :=
  let used := max (max (max (-128) (d.sensorTemp hub)) (d.sensorTemp ts0)) (d.sensorTemp ts1)
  (((d.shownTemps k (d.sensorTemp hub) (d.sensorTemp ts0) (d.sensorTemp ts1) used).failedReport k ([hub, ts0, ts1].any (·.isNone))).hotReport k used).tempRate k used

/-- The refresh rate of down-soldered devices. -/
def Dev.solderedRead (d : Dev) (k : Nat) (mr4 : Option Bool) : Dev :=
  match mr4 with
  | some b => d.refreshRate k b
  | none => (d.refreshRate k true).report (199 + k)

/-- A channel's sensors are read now. -/
def Dev.sensedNow (d : Dev) (k : Nat) : Dev := d.modChan k (fun x => { x with sensedAt := d.now })

theorem gives_dimmSensorRead (c : Chan) (hub ts0 ts1 : Option Byte) (mr4 : Option Bool) (s : State) : Gives (.dimmSensorRead c hub ts0 ts1 mr4) s
    (if !(3 ≤ s.dev.get F.DDR_C_STAT_STATE c.val && s.dev.get F.DDR_C_STAT_STATE c.val ≤ 5) ||
        s.dev.now < (s.dev.chan c.val).sensedAt + s.dev.get F.DDR_SB_PERIOD_MS * 1000000 then s.dev
      else if (s.dev.sensedNow c.val).flag F.DDR_C_CFG_SOLDERED c.val then (s.dev.sensedNow c.val).solderedRead c.val mr4
      else (s.dev.sensedNow c.val).moduleRead c.val hub ts0 ts1) := rfl

section
variable (d : Dev) (k : Nat) (hub ts0 ts1 used : Int)

theorem Dev.get_shownTemps_hub : (d.shownTemps k hub ts0 ts1 used).get F.DDR_C_TEMP_HUB k = unsigned 8 hub % 256 := by
  rw [Dev.shownTemps, Dev.get_set_distinct _ (by decide), Dev.get_set_distinct _ (by decide), Dev.get_set_distinct _ (by decide), Dev.get_set_self]
  rfl

theorem Dev.get_shownTemps_ts0 : (d.shownTemps k hub ts0 ts1 used).get F.DDR_C_TEMP_TS0 k = unsigned 8 ts0 % 256 := by
  rw [Dev.shownTemps, Dev.get_set_distinct _ (by decide), Dev.get_set_distinct _ (by decide), Dev.get_set_self]
  rfl

theorem Dev.get_shownTemps_ts1 : (d.shownTemps k hub ts0 ts1 used).get F.DDR_C_TEMP_TS1 k = unsigned 8 ts1 % 256 := by
  rw [Dev.shownTemps, Dev.get_set_distinct _ (by decide), Dev.get_set_self]
  rfl

theorem Dev.get_shownTemps_used : (d.shownTemps k hub ts0 ts1 used).get F.DDR_C_TEMP_USED k = unsigned 8 used % 256 := by
  rw [Dev.shownTemps, Dev.get_set_self]
  rfl

theorem Dev.get_shownTemps {g : Field} (hg : [F.DDR_C_TEMP_HUB, F.DDR_C_TEMP_TS0, F.DDR_C_TEMP_TS1, F.DDR_C_TEMP_USED].all (fun f => g.distinct f) = true) (i : Nat) :
    (d.shownTemps k hub ts0 ts1 used).get g i = d.get g i := by
  simp only [List.all_cons, List.all_nil, Bool.and_true, Bool.and_eq_true] at hg
  obtain ⟨h1, h2, h3, h4⟩ := hg
  rw [Dev.shownTemps, Dev.get_set_distinct _ h4, Dev.get_set_distinct _ h3, Dev.get_set_distinct _ h2, Dev.get_set_distinct _ h1]

end

theorem unsigned_mod (i : Int) : unsigned 8 i % 256 = unsigned 8 i := by
  unfold unsigned
  omega

section
variable (d : Dev) (k : Nat) (failed : Bool) (used : Int)

theorem Dev.get_failedReport {g : Field} (hg : g.calm = true) {i : Nat} (hi : i < g.n1) (hj : 0 < g.n2) : (d.failedReport k failed).get g i = d.get g i := by
  unfold Dev.failedReport
  split
  · exact Dev.get_report _ _ _ hg hi hj
  · rfl

theorem Dev.get_hotReport {g : Field} (hg : g.calm = true) {i : Nat} (hi : i < g.n1) (hj : 0 < g.n2) : (d.hotReport k used).get g i = d.get g i := by
  unfold Dev.hotReport
  split
  · exact Dev.get_report _ _ _ hg hi hj
  · rfl

theorem Dev.has_failedReport : has (d.failedReport k true).flt.status (fkey (199 + k) 0) = true := Dev.has_status_report _ _ 0 (by decide)

theorem Dev.has_hotReport_of {d : Dev} {x : Nat} (h : has d.flt.status x = true) : has (d.hotReport k used).flt.status x = true := by
  unfold Dev.hotReport
  split
  · exact Dev.has_status_report_of h _ 0
  · exact h

theorem Dev.has_hotReport {d : Dev} (h : (d.get F.DDR_REF_HOT_C : Int) ≤ used) : has (d.hotReport k used).flt.status (fkey (203 + k) 0) = true := by
  rw [Dev.hotReport, if_pos h]
  exact Dev.has_status_report _ _ 0 (by decide)

end

/-- The refresh rate after a reading: twice at TEMP_2X, once below it by HYST, else as it was. -/
theorem Dev.rate_tempRate (d : Dev) (k : Nat) (used : Int) :
    ((d.get F.DDR_REF_TEMP_2X : Int) ≤ used → (d.tempRate k used).get F.DDR_C_STAT_REF_2X k ≠ 0) ∧
      (used < (d.get F.DDR_REF_TEMP_2X : Int) - d.get F.DDR_REF_HYST → (d.tempRate k used).get F.DDR_C_STAT_REF_2X k = 0) ∧
      (used < (d.get F.DDR_REF_TEMP_2X : Int) → (d.get F.DDR_REF_TEMP_2X : Int) - d.get F.DDR_REF_HYST ≤ used →
        (d.tempRate k used).get F.DDR_C_STAT_REF_2X k = d.get F.DDR_C_STAT_REF_2X k) := by
  refine ⟨fun h => ?_, fun h => ?_, fun h h' => ?_⟩
  · rw [Dev.tempRate, if_pos h]
    exact (Dev.rate_refreshRate d k true).mpr rfl
  · rw [Dev.tempRate, if_neg (by omega), if_pos h]
    exact not_not.mp (fun hx => absurd ((Dev.rate_refreshRate d k false).mp hx) (by decide))
  · rw [Dev.tempRate, if_neg (by omega), if_neg (by omega)]

theorem Dev.beyond_tempRate (d : Dev) (k : Nat) (used : Int) :
    (d.tempRate k used).beyond [F.DDR_C_STAT_REF_2X, F.DDR_C_CNT_CONVERTED] = d.beyond [F.DDR_C_STAT_REF_2X, F.DDR_C_CNT_CONVERTED] := by
  simp only [Dev.tempRate]
  split
  · exact Dev.beyond_refreshRate ..
  · split
    · exact Dev.beyond_refreshRate ..
    · rfl

theorem Dev.flt_tempRate (d : Dev) (k : Nat) (used : Int) : (d.tempRate k used).flt = d.flt := by
  simp only [Dev.tempRate]
  split
  · exact Dev.flt_refreshRate ..
  · split
    · exact Dev.flt_refreshRate ..
    · rfl

/-- What a module's readings show: the four temperatures, the refresh rate and the reports. -/
def Dev.TempsRead (d e : Dev) (k : Nat) (hub ts0 ts1 used : Int) (failed : Bool) : Prop :=
  e.get F.DDR_C_TEMP_USED k = unsigned 8 used ∧ e.get F.DDR_C_TEMP_HUB k = unsigned 8 hub ∧ e.get F.DDR_C_TEMP_TS0 k = unsigned 8 ts0 ∧
    e.get F.DDR_C_TEMP_TS1 k = unsigned 8 ts1 ∧
    ((d.get F.DDR_REF_TEMP_2X : Int) ≤ used → e.get F.DDR_C_STAT_REF_2X k ≠ 0) ∧
    (used < (d.get F.DDR_REF_TEMP_2X : Int) - d.get F.DDR_REF_HYST → e.get F.DDR_C_STAT_REF_2X k = 0) ∧
    (used < (d.get F.DDR_REF_TEMP_2X : Int) → (d.get F.DDR_REF_TEMP_2X : Int) - d.get F.DDR_REF_HYST ≤ used →
      e.get F.DDR_C_STAT_REF_2X k = d.get F.DDR_C_STAT_REF_2X k) ∧
    (failed = true → has e.flt.status (fkey (199 + k) 0) = true) ∧
    ((d.get F.DDR_REF_HOT_C : Int) ≤ used → has e.flt.status (fkey (203 + k) 0) = true)

theorem Dev.tempsRead (d : Dev) {k : Nat} (hk : k < 4) (hub ts0 ts1 used : Int) (failed : Bool) :
    d.TempsRead ((((d.shownTemps k hub ts0 ts1 used).failedReport k failed).hotReport k used).tempRate k used) k hub ts0 ts1 used failed := by
  obtain ⟨x, hx⟩ : ∃ x, x = d.shownTemps k hub ts0 ts1 used := ⟨_, rfl⟩
  obtain ⟨z, hz⟩ : ∃ z, z = x.failedReport k failed := ⟨_, rfl⟩
  obtain ⟨y, hy⟩ : ∃ y, y = z.hotReport k used := ⟨_, rfl⟩
  have hshown {g : Field} (hg : [F.DDR_C_TEMP_HUB, F.DDR_C_TEMP_TS0, F.DDR_C_TEMP_TS1, F.DDR_C_TEMP_USED].all (fun f => g.distinct f) = true) (i : Nat) :
      x.get g i = d.get g i := by rw [hx, Dev.get_shownTemps _ _ _ _ _ _ hg]
  have hfirst {g : Field} (hg : g.calm = true) {i : Nat} (hi : i < g.n1) (hj : 0 < g.n2) : z.get g i = x.get g i := by rw [hz, Dev.get_failedReport _ _ _ hg hi hj]
  have hreports {g : Field} (hg : g.calm = true) {i : Nat} (hi : i < g.n1) (hj : 0 < g.n2) : y.get g i = x.get g i := by
    rw [hy, Dev.get_hotReport _ _ _ hg hi hj, hfirst hg hi hj]
  have hrate {g : Field} (hg : g.clear [F.DDR_C_STAT_REF_2X, F.DDR_C_CNT_CONVERTED] = true) {i : Nat} (hi : i < g.n1) (hj : 0 < g.n2) :
      (y.tempRate k used).get g i = y.get g i := Dev.get_of_beyond (Dev.beyond_tempRate ..) hg hi hj
  have h2x : y.get F.DDR_REF_TEMP_2X = d.get F.DDR_REF_TEMP_2X := (hreports (by decide) (by decide) (by decide)).trans (hshown (by decide) 0)
  have hhyst : y.get F.DDR_REF_HYST = d.get F.DDR_REF_HYST := (hreports (by decide) (by decide) (by decide)).trans (hshown (by decide) 0)
  have hhot : z.get F.DDR_REF_HOT_C = d.get F.DDR_REF_HOT_C := (hfirst (by decide) (by decide) (by decide)).trans (hshown (by decide) 0)
  have hold : y.get F.DDR_C_STAT_REF_2X k = d.get F.DDR_C_STAT_REF_2X k := (hreports (by decide) hk (by decide)).trans (hshown (by decide) k)
  obtain ⟨htwice, honce, hkeep⟩ := Dev.rate_tempRate y k used
  rw [h2x, hhyst] at honce hkeep
  rw [h2x] at htwice
  rw [hold] at hkeep
  rw [← hx, ← hz, ← hy]
  refine ⟨?_, ?_, ?_, ?_, htwice, honce, hkeep, fun h => ?_, fun h => ?_⟩
  · rw [hrate (by decide) hk (by decide), hreports (by decide) hk (by decide), hx, Dev.get_shownTemps_used, unsigned_mod]
  · rw [hrate (by decide) hk (by decide), hreports (by decide) hk (by decide), hx, Dev.get_shownTemps_hub, unsigned_mod]
  · rw [hrate (by decide) hk (by decide), hreports (by decide) hk (by decide), hx, Dev.get_shownTemps_ts0, unsigned_mod]
  · rw [hrate (by decide) hk (by decide), hreports (by decide) hk (by decide), hx, Dev.get_shownTemps_ts1, unsigned_mod]
  · rw [Dev.flt_tempRate, hy]
    exact Dev.has_hotReport_of k used (by rw [hz, h]; exact Dev.has_failedReport x k)
  · rw [Dev.flt_tempRate, hy]
    exact Dev.has_hotReport k used (by rwa [hhot])

end Sys2Proof.Machine
end


section
/-! PROOF. Retraining and alerts of the DRAM channels (R285 to R287, R290), and what each keeps (O8). -/

namespace Sys2Proof.Machine

/-! ### The retraining queue (R285, R287) -/

theorem gives_retrainPeriod (s : State) : Gives .retrainPeriod s
    (if s.dev.get F.DDR_TRAIN_PERIOD_MS = 0 || s.dev.get F.SYS_STAT_PHASE = 7 || s.dev.now < s.dev.ddr.trainAt + s.dev.get F.DDR_TRAIN_PERIOD_MS * 1000000 then s.dev
      else ({ s.dev with ddr := { s.dev.ddr with trainAt := s.dev.now } } : Dev).retrainAll) := rfl

/-- The channels that join the queue. -/
theorem Dev.queue_retrainAll (d : Dev) : d.retrainAll.ddr.queue =
    d.ddr.queue ++ (List.range 4).filter (fun c => d.get F.DDR_C_STAT_STATE c = 4 && !has d.ddr.queue c) :=
  (Dev.foldl_modChan_keeps (fun x : DdrCh => { x with stepsLeft := 3 }) _ _).2.2.2

/-- A channel that is not READY, or in the queue already, is left alone. -/
theorem Dev.retrainAll_other {d : Dev} {c : Nat} (h : d.get F.DDR_C_STAT_STATE c ≠ 4 ∨ has d.ddr.queue c = true) :
    has d.retrainAll.ddr.queue c = has d.ddr.queue c ∧ d.retrainAll.chan c = d.chan c := by
  have hout : c ∉ (List.range 4).filter (fun c => d.get F.DDR_C_STAT_STATE c = 4 && !has d.ddr.queue c) := by
    rw [List.mem_filter]
    rintro ⟨-, hc⟩
    simp only [Bool.and_eq_true, decide_eq_true_eq, Bool.not_eq_true'] at hc
    exact h.elim (fun h => h hc.1) (fun h => by rw [h] at hc; exact absurd hc.2 (by decide))
  refine ⟨?_, ?_⟩
  · rw [Dev.queue_retrainAll]
    generalize (List.range 4).filter (fun c => d.get F.DDR_C_STAT_STATE c = 4 && !has d.ddr.queue c) = cs at hout ⊢
    simp only [has, List.elem_eq_mem, List.mem_append, hout, or_false]
  · rw [Dev.retrainAll, Dev.chan_foldl_modChan (fun x : DdrCh => { x with stepsLeft := 3 }) (fun _ => rfl), if_neg (fun hx => hout hx.1)]
    rfl

theorem Dev.retrainAll_joins {d : Dev} {c : Nat} (hc : c < 4) (hlen : c < d.ddr.chans.length) (h : d.get F.DDR_C_STAT_STATE c = 4) (hq : has d.ddr.queue c = false) :
    has d.retrainAll.ddr.queue c = true ∧ (d.retrainAll.chan c).stepsLeft = 3 := by
  refine ⟨?_, Dev.stepsLeft_retrainAll hc hlen h hq⟩
  rw [Dev.queue_retrainAll]
  simp [has, List.mem_filter, hc, h] at hq ⊢

/-- A row with stored fields and no INSTALLER role: the word, and the action where its bit is set. -/
theorem State.row_word {s : State} {rq : Requester} {r addr w : Nat} {act : Act} {L : List FieldPart} (h : s.Ready rq r) (cmd : Instr) (f : Dev → Dev)
    (hp : inPages addr = true) (hL : StoredAt (canonAddr rq addr) L)
    (hroles : ∀ x ∈ L, x.1.ordinary ∧ (match x.1.role with | none => true | some y => decide (y.code ≤ r)) = true)
    (hact : (match act.role with | none => true | some x => decide (x.code ≤ r)) = true)
    (hplain : (L.all (fun x => !auditedRole x.1.role) && !auditedRole act.role) = true) {d : Dev} (hd : d = s.dev.storeWord rq (canonAddr rq addr) w) :
    s.row rq cmd addr w act f = { s with dev := if w.testBit act.bit then f d else d } := by
  have hmay : s.dev.may rq act.role = true := by
    cases hx : act.role with
    | none => rfl
    | some x => rw [hx] at hact; exact Dev.may_of ((of_decide_eq_true hact).trans h.2.2)
  have hacts : s.acts rq addr act w = w.testBit act.bit := by simp [State.acts, Dev.acts, Dev.pageOpen_of h.1.1 h.1.2, hmay]
  obtain ⟨href, hright, haud⟩ := Dev.write_flags (acts := [act]) (w := w) hL (Dev.permits_of h.2.2 hroles) (fun y hy => by rw [List.mem_singleton.mp hy]; exact hmay)
  simp only [Bool.and_eq_true, List.all_eq_true, Bool.not_eq_true'] at hplain
  have hfields : L.any (fun x => auditedRole x.1.role) = false := List.any_eq_false.mpr fun x hx => by simp [hplain.1 x hx]
  have hsilent : L.any (fun x => auditedRole x.1.role && !silentField x.1) = false := List.any_eq_false.mpr fun x hx => by simp [hplain.1 x hx]
  simp only [List.any_cons, List.any_nil, hplain.2, Bool.and_false, Bool.or_false, hfields, hsilent] at hright haud
  have hw : s.write rq addr w [act] = { s with dev := d } := by
    simp [State.write, hp, Dev.pageOpen_of h.1.1 h.1.2, Dev.writeWord, href, hright, haud, hd]
  rw [State.row, State.gate_run h.2.1 _ _ _ _ _ _ _ (by omega)]
  simp only [hacts, hw, State.onDev]
  split <;> rfl

theorem storedAt_train (rq : Requester) : StoredAt (canonAddr rq 0x70050) [(F.DDR_TRAIN_PERIOD_MS, 0, 0, 0), (F.DDR_TRAIN_MARGIN_MIN, 0, 0, 0)] := by
  cases rq <;> decide +kernel

theorem gives_retrainStart {s : State} {rq : Requester} (h : s.Ready rq 0) (w : Word) {e : Dev} (he : e = s.dev.storeWord rq 0x70050 w.toNat) :
    Gives (.retrainStart rq w) s (if w.toNat.testBit 0 then e.retrainAll else e) := by
  have hcanon : canonAddr rq 0x70050 = 0x70050 := by cases rq <;> rfl
  exact congrArg Host.Outcome.next (State.row_word (act := ⟨0, none⟩) h (.retrainStart rq w) Dev.retrainAll (by decide) (storedAt_train rq) (by decide) (by decide) (by decide)
    (by rw [he, hcanon]))

/-- DDR_TRAIN as it is stored: a period in its range or 0, and the margin. -/
theorem Dev.storeWord_train {d : Dev} {rq : Requester} (w : Word) {e : Dev} (he : e = d.storeWord rq 0x70050 w.toNat) :
    e.ddr = d.ddr ∧ e.get F.DDR_TRAIN_PERIOD_MS = (if 1 ≤ w.toNat / 65536 ∧ w.toNat / 65536 ≤ 9 then 10 else min (w.toNat / 65536) 10000) ∧
      e.get F.DDR_TRAIN_MARGIN_MIN = w.toNat / 256 % 256 := by
  have hw := w.isLt
  have hcanon : canonAddr rq 0x70050 = 0x70050 := by cases rq <;> rfl
  have hL : StoredAt 0x70050 [(F.DDR_TRAIN_PERIOD_MS, 0, 0, 0), (F.DDR_TRAIN_MARGIN_MIN, 0, 0, 0)] := hcanon ▸ storedAt_train rq
  have hperm : d.Permits rq [(F.DDR_TRAIN_PERIOD_MS, 0, 0, 0), (F.DDR_TRAIN_MARGIN_MIN, 0, 0, 0)] := Dev.permits_of (r := 0) (Nat.zero_le _) (by decide)
  have hperiod : F.DDR_TRAIN_PERIOD_MS.clampVal (F.DDR_TRAIN_PERIOD_MS.withPart 0 (d.get F.DDR_TRAIN_PERIOD_MS) w.toNat) = w.toNat / 65536 := by
    refine (Field.withPart_mod (f := F.DDR_TRAIN_PERIOD_MS) (by decide) _ _).trans ?_
    change w.toNat / 2 ^ 16 % 2 ^ 16 = w.toNat / 65536
    omega
  obtain ⟨x, hx⟩ : ∃ x, x = d.set F.DDR_TRAIN_PERIOD_MS (w.toNat / 65536) := ⟨_, rfl⟩
  have hmargin : F.DDR_TRAIN_MARGIN_MIN.clampVal (F.DDR_TRAIN_MARGIN_MIN.withPart 0 (x.get F.DDR_TRAIN_MARGIN_MIN) w.toNat) = w.toNat / 256 % 256 :=
    Field.withPart_mod (f := F.DDR_TRAIN_MARGIN_MIN) (by decide) _ _
  obtain ⟨y, hy⟩ : ∃ y, y = x.set F.DDR_TRAIN_MARGIN_MIN (w.toNat / 256 % 256) := ⟨_, rfl⟩
  obtain ⟨z, hz⟩ : ∃ z, z = y.clampField F.DDR_SCHED_WR_LO 0 (y.get F.DDR_SCHED_WR_HI - 8) := ⟨_, rfl⟩
  have hstored : d.storeFields w.toNat [(F.DDR_TRAIN_PERIOD_MS, 0, 0, 0), (F.DDR_TRAIN_MARGIN_MIN, 0, 0, 0)] = y := by
    simp only [Dev.storeFields, List.foldl_cons, List.foldl_nil, Dev.storeField_rw (f := F.DDR_TRAIN_PERIOD_MS) rfl, Dev.storeField_rw (f := F.DDR_TRAIN_MARGIN_MIN) rfl, hperiod,
      ← hx, hmargin, ← hy]
  have hzp : z.get F.DDR_TRAIN_PERIOD_MS = w.toNat / 65536 := by
    rw [hz, Dev.clampField, Dev.get_set_distinct _ (by decide), hy, Dev.get_set_distinct _ (by decide), hx, Dev.get_set_self]
    exact Nat.mod_eq_of_lt (by change w.toNat / 65536 < 2 ^ 16; omega)
  have hzm : z.get F.DDR_TRAIN_MARGIN_MIN = w.toNat / 256 % 256 := by
    rw [hz, Dev.clampField, Dev.get_set_distinct _ (by decide), hy, Dev.get_set_self]
    exact Nat.mod_mod _ _
  have hzd : z.ddr = d.ddr := by rw [hz, hy, hx]; rfl
  have hnorm : e = if z.get F.DDR_TRAIN_PERIOD_MS = 0 then z else z.set F.DDR_TRAIN_PERIOD_MS (clampN 10 10000 (z.get F.DDR_TRAIN_PERIOD_MS)) := by
    rw [he, Dev.storeWord_norm hL hperm (by decide), hstored, hz]
    rfl
  rw [hzp] at hnorm
  rw [hnorm]
  split
  · next h => exact ⟨hzd, by rw [hzp, h]; rfl, hzm⟩
  · next h =>
    refine ⟨hzd, ?_, ?_⟩
    · rw [Dev.get_set_self]
      change clampN 10 10000 (w.toNat / 65536) % 65536 = _
      have hn : w.toNat / 65536 < 65536 := by omega
      generalize w.toNat / 65536 = n at h hn ⊢
      unfold clampN
      by_cases hlow : n < 10
      · have hshort : 1 ≤ n ∧ n ≤ 9 := by omega
        rw [if_pos hlow, if_pos hshort]
      · have hlong : ¬ (1 ≤ n ∧ n ≤ 9) := by omega
        rw [if_neg hlow, if_neg hlong]
        split <;> omega
    · rw [Dev.get_set_distinct _ (by decide), hzm]

end Sys2Proof.Machine
end


section
/-! PROOF. The steps of a retraining, alerts and idle rows (R275, R286, R290), and O8. -/

namespace Sys2Proof.Machine

/-! ### The steps (R285, R286) -/

/-- A channel's turn in the retraining. -/
def Dev.trainTurn (d : Dev) (c : Nat) : Bool :=
  if d.ddr.atOnce then has d.ddr.queue c else decide (d.ddr.queue.head? = some c) && d.ddr.pauseEnd + 20000 ≤ d.now

theorem gives_retrainStepBegin (c : Chan) (s : State) : Gives (.retrainStepBegin c) s
    (if s.dev.trainTurn c.val && s.dev.get F.DDR_C_STAT_STATE c.val = 4 && 0 < (s.dev.chan c.val).stepsLeft && (s.dev.chan c.val).busyUntil ≤ s.dev.now && !s.dev.ddr.rateBusy then
      (s.dev.set F.DDR_C_STAT_STATE 5 c.val).modChan c.val (fun x => { x with step := some (3 - x.stepsLeft), stepsLeft := x.stepsLeft - 1 })
    else s.dev) := rfl

theorem Dev.trainTurn_iff (d : Dev) (c : Nat) : d.trainTurn c = true ↔
    (d.ddr.atOnce = true ∧ has d.ddr.queue c = true) ∨ (d.ddr.atOnce = false ∧ d.ddr.queue.head? = some c ∧ d.ddr.pauseEnd + 20000 ≤ d.raw) := by
  unfold Dev.trainTurn
  cases d.ddr.atOnce <;> simp [show d.now = d.raw from rfl]

/-- A channel's pause ends. -/
def Dev.pauseEnds (d : Dev) (k : Nat) : Dev :=
  let d := (d.set F.DDR_C_STAT_STATE 4 k).modChan k (fun x => { x with step := none, excess := 0, busyUntil := Nat.max x.busyUntil (d.now + x.excess) })
  { d with ddr := { d.ddr with pauseEnd := d.now } }

/-- The third step has ended: the channel leaves the queue. -/
def Dev.leavesQueue (d : Dev) (k : Nat) : Dev :=
  { d with ddr := { d.ddr with queue := removeAll d.ddr.queue k, atOnce := d.ddr.atOnce && (removeAll d.ddr.queue k) ≠ [] } }

/-- The third step's results are stored. -/
def Dev.trainShown (d : Dev) (c rd wr drift : Nat) : Dev :=
  (((d.set F.DDR_C_TRAIN_STAT_RD rd c).set F.DDR_C_TRAIN_STAT_WR wr c).set F.DDR_C_TRAIN_STAT_DRIFT drift c).bump F.DDR_C_CNT_RETRAINS c

/-- A margin below MARGIN_MIN is reported. -/
def Dev.marginReport (d : Dev) (c rd wr : Nat) : Dev :=
  if rd < d.get F.DDR_TRAIN_MARGIN_MIN || wr < d.get F.DDR_TRAIN_MARGIN_MIN then d.report (195 + c) else d

theorem Dev.retrained_eq (d : Dev) (c rd wr drift : Nat) : d.retrained c rd wr drift = (d.trainShown c rd wr drift).marginReport c rd wr := rfl

/-- The end of a step n: the channel fails, leaves the queue after the third, or waits for its next. -/
def Dev.stepEnds (d : Dev) (k n rd wr drift : Nat) (inRange : Bool) : Dev :=
  if d.get F.DDR_C_STAT_STATE k ≠ 5 then d
  else if (d.pauseEnds k).ddr.rateBusy then d.pauseEnds k
  else if (n = 0 && !inRange) || (n = 1 && rd = 0) || (n = 2 && wr = 0) then ((d.pauseEnds k).report (191 + k)).failChannel k
  else if n = 2 then ((d.pauseEnds k).leavesQueue k).retrained k rd wr drift
  else d.pauseEnds k

theorem gives_retrainStepEnd_none {c : Chan} {s : State} (h : (s.dev.chan c.val).step = none) (rd wr drift : Byte) (r : Bool) :
    Gives (.retrainStepEnd c rd wr drift r) s s.dev := by
  unfold Gives
  simp only [exec, execRetrainStepEnd, State.onDev, h]

theorem gives_retrainStepEnd {c : Chan} {s : State} {n : Nat} (h : (s.dev.chan c.val).step = some n) (rd wr drift : Byte) (r : Bool) :
    Gives (.retrainStepEnd c rd wr drift r) s (s.dev.stepEnds c.val n rd.toNat wr.toNat drift.toNat r) := by
  unfold Gives
  simp only [exec, execRetrainStepEnd, State.onDev, h]
  rfl

theorem Dev.untrained_leavesQueue {d : Dev} {k : Nat} (h : (d.chan k).step = none) : (d.leavesQueue k).Untrained k := by
  refine ⟨?_, h⟩
  change has (removeAll d.ddr.queue k) k = false
  rw [has_removeAll]
  simp

theorem Dev.untrained_marginReport {d : Dev} {k : Nat} (h : d.Untrained k) (c rd wr : Nat) : (d.marginReport c rd wr).Untrained k := by
  unfold Dev.marginReport
  split
  · exact Dev.untrained_report h ..
  · exact h

theorem Dev.get_marginReport (d : Dev) (c rd wr : Nat) {g : Field} (hg : g.calm = true) {i : Nat} (hi : i < g.n1) (hj : 0 < g.n2) :
    (d.marginReport c rd wr).get g i = d.get g i := by
  unfold Dev.marginReport
  split
  · exact Dev.get_report _ _ _ hg hi hj
  · rfl

section
variable (d : Dev) (c rd wr drift : Nat)

theorem Dev.trainShown_shows : (d.trainShown c rd wr drift).get F.DDR_C_TRAIN_STAT_RD c = rd % 256 ∧ (d.trainShown c rd wr drift).get F.DDR_C_TRAIN_STAT_WR c = wr % 256 ∧
    (d.trainShown c rd wr drift).get F.DDR_C_TRAIN_STAT_DRIFT c = drift % 256 ∧
    (d.trainShown c rd wr drift).get F.DDR_C_CNT_RETRAINS c = Nat.min 32767 (d.get F.DDR_C_CNT_RETRAINS c + 1) := by
  refine ⟨?_, ?_, ?_, ?_⟩
  · rw [Dev.trainShown, Dev.get_bump_distinct _ (by decide), Dev.get_set_distinct _ (by decide), Dev.get_set_distinct _ (by decide), Dev.get_set_self]
    rfl
  · rw [Dev.trainShown, Dev.get_bump_distinct _ (by decide), Dev.get_set_distinct _ (by decide), Dev.get_set_self]
    rfl
  · rw [Dev.trainShown, Dev.get_bump_distinct _ (by decide), Dev.get_set_self]
    rfl
  · rw [Dev.trainShown, Dev.get_bump_min _ (by decide), Dev.get_set_distinct _ (by decide), Dev.get_set_distinct _ (by decide), Dev.get_set_distinct _ (by decide)]
    rfl

theorem Dev.get_trainShown {g : Field} (hg : [F.DDR_C_TRAIN_STAT_RD, F.DDR_C_TRAIN_STAT_WR, F.DDR_C_TRAIN_STAT_DRIFT, F.DDR_C_CNT_RETRAINS].all (fun f => g.distinct f) = true)
    (i : Nat) : (d.trainShown c rd wr drift).get g i = d.get g i := by
  simp only [List.all_cons, List.all_nil, Bool.and_true, Bool.and_eq_true] at hg
  obtain ⟨h1, h2, h3, h4⟩ := hg
  rw [Dev.trainShown, Dev.get_bump_distinct _ h4, Dev.get_set_distinct _ h3, Dev.get_set_distinct _ h2, Dev.get_set_distinct _ h1]

end

/-! ### Alerts (R290) -/

/-- The alerts of the last millisecond, this one with them. -/
def Dev.recentAlerts (d : Dev) (k : Nat) : List Nat := (d.chan k).alerts.filter (fun t => d.now < t + 1000000) ++ [d.now]

/-- An alert is counted and reported. -/
def Dev.alerted (d : Dev) (k : Nat) : Dev := ((d.modChan k (fun x => { x with alerts := d.recentAlerts k })).bump F.DDR_C_CNT2_ALERTS k).report (207 + k)

theorem gives_ddrAlertInput (c : Chan) (s : State) : Gives (.ddrAlertInput c) s
    (if s.dev.get F.DDR_C_STAT_STATE c.val = 4 || s.dev.get F.DDR_C_STAT_STATE c.val = 5 then
      if 3 ≤ (s.dev.recentAlerts c.val).length then ((s.dev.alerted c.val).modChan c.val (fun x => { x with alerts := [] })).failChannel c.val else s.dev.alerted c.val
    else s.dev) := rfl

theorem Dev.alerted_spec {d : Dev} {k : Nat} (hk : k < 4) (h : d.get F.DDR_C_STAT_STATE k = 4 ∨ d.get F.DDR_C_STAT_STATE k = 5) :
    has (d.alerted k).flt.status (fkey (207 + k) 0) = true ∧ (d.alerted k).get F.DDR_C_CNT2_ALERTS k = Nat.min 65535 (d.get F.DDR_C_CNT2_ALERTS k + 1) ∧
      3 ≤ (d.alerted k).get F.DDR_C_STAT_STATE k ∧ (d.alerted k).get F.DDR_C_STAT_STATE k ≤ 6 := by
  obtain ⟨x, hx⟩ : ∃ x, x = d.modChan k (fun x => { x with alerts := d.recentAlerts k }) := ⟨_, rfl⟩
  have hget (f : Field) : x.get f k = d.get f k := by rw [hx]; rfl
  have halerted : d.alerted k = (x.bump F.DDR_C_CNT2_ALERTS k).report (207 + k) := by rw [hx]; rfl
  have hused : 3 ≤ (x.bump F.DDR_C_CNT2_ALERTS k).get F.DDR_C_STAT_STATE k ∧ (x.bump F.DDR_C_CNT2_ALERTS k).get F.DDR_C_STAT_STATE k ≤ 6 := by
    rw [Dev.get_bump_distinct _ (by decide), hget]
    omega
  rw [halerted]
  refine ⟨Dev.has_status_report _ _ 0 (by decide), ?_, Dev.used_report hk hused _ 0⟩
  rw [Dev.get_report _ _ _ (by decide) hk (by decide), Dev.get_bump_min _ (by decide), hget]
  rfl

/-! ### Idle rows (R275) -/

theorem DdrCh.debt_takeWaiting (k : Nat) (x : DdrCh) : (DdrCh.takeWaiting k x).debt = x.debt := by
  induction k generalizing x with
  | zero => rfl
  | succ k ih =>
    simp only [DdrCh.takeWaiting]
    split
    · rw [ih]
    · rfl

theorem DdrCh.debt_issue (x : DdrCh) (sub hi lo now : Nat) : (x.issue sub hi lo now).debt = x.debt := by
  have hact (r : DdrReq) : (x.activate r now).debt = x.debt := by
    simp only [DdrCh.activate]
    split <;> rfl
  simp only [DdrCh.issue]
  split
  · rfl
  · split
    · rfl
    · exact hact _

theorem DdrCh.debt_drain (hi lo now k : Nat) (x : DdrCh) : (DdrCh.drain hi lo now k x).debt = x.debt := by
  induction k generalizing x with
  | zero => rfl
  | succ k ih =>
    simp only [DdrCh.drain]
    split
    · exact DdrCh.debt_takeWaiting _ _
    · rw [ih, DdrCh.debt_issue, DdrCh.debt_issue, DdrCh.debt_takeWaiting]

theorem DdrCh.debt_at (x : DdrCh) (now hi lo : Nat) : (x.at now hi lo).debt = x.debt := by
  unfold DdrCh.at
  split
  · exact DdrCh.debt_drain ..
  · rfl

/-- A channel without the rows that no request has touched for 500 ns. -/
def DdrCh.closed (now hi lo : Nat) (x : DdrCh) : DdrCh := { (x.at now hi lo) with rows := (x.at now hi lo).rows.filter (fun r => now < r.last + 500) }

theorem gives_rowIdleClose (s : State) : Gives .rowIdleClose s
    { s.dev with ddr := { s.dev.ddr with chans := s.dev.ddr.chans.map (DdrCh.closed s.dev.now (s.dev.get F.DDR_SCHED_WR_HI) (s.dev.get F.DDR_SCHED_WR_LO)) } } := rfl

theorem getD_map_of_lt {α : Type} (f : α → α) {l : List α} {n : Nat} (h : n < l.length) (x : α) : (l.map f).getD n x = f (l.getD n x) := by
  simp [List.getD_eq_getElem?_getD, h]

end Sys2Proof.Machine
end


section
/-! PROOF. The DRAM channels are kept (O8): each clause from the facts of its command. -/

namespace Sys2Proof.Machine

/-- A due refresh of a channel in use outside sleep. -/
theorem refreshDue_settled (c : Chan) (s : State) (hlen : c.val < s.dev.ddr.chans.length) (rank : Fin 2) (waiting : Bool) :
    ((s.dev.get F.DDR_C_STAT_STATE c.val ≠ 4 ∧ s.dev.get F.DDR_C_STAT_STATE c.val ≠ 5) ∨ s.dev.get F.SYS_STAT_PHASE = 7 → Gives (.refreshDue c rank waiting) s s.dev) ∧
      (s.dev.get F.DDR_C_STAT_STATE c.val = 4 ∨ s.dev.get F.DDR_C_STAT_STATE c.val = 5 → s.dev.get F.SYS_STAT_PHASE ≠ 7 → rank.val < (s.dev.chan c.val).debt.length →
        Completes (.refreshDue c rank waiting) s (fun d => (d.chan c.val).debt =
          setAt (s.dev.chan c.val).debt rank.val (fun n => if waiting then Nat.min (n + 1) (s.dev.get F.DDR_REF_POSTPONE) else 0) ∧
          d.regs = s.dev.regs ∧ d.dram = s.dev.dram)) := by
  refine ⟨fun h => gives_of_neg (gives_refreshDue c rank waiting s) ?_, fun hst hph hr => ⟨_, gives_of_pos (gives_refreshDue c rank waiting s) ?_, ?_⟩⟩
  · simp only [Bool.and_eq_true, Bool.or_eq_true, decide_eq_true_eq]
    tauto
  · simpa using ⟨hst, hph⟩
  · exact ⟨Dev.debt_refreshed hlen hr waiting, rfl, rfl⟩

/-- A sensor reading before its time, or of a channel that is not in use. -/
theorem dimmSensorRead_waits {c : Chan} {s : State} (h : s.dev.get F.DDR_C_STAT_STATE c.val < 3 ∨ 5 < s.dev.get F.DDR_C_STAT_STATE c.val ∨
    s.dev.raw < (s.dev.chan c.val).sensedAt + s.dev.get F.DDR_SB_PERIOD_MS * 1000000) (hub t0 t1 : Option Byte) (m : Option Bool) :
    Gives (.dimmSensorRead c hub t0 t1 m) s s.dev := by
  refine gives_of_pos (gives_dimmSensorRead c hub t0 t1 m s) ?_
  simp only [Bool.or_eq_true, Bool.not_eq_true', Bool.and_eq_false_iff, decide_eq_false_iff_not, decide_eq_true_eq]
  rcases h with h | h | h
  · exact .inl (.inl (by omega))
  · exact .inl (.inr (by omega))
  · exact .inr h

section
variable {c : Chan} {s : State} (hlow : 3 ≤ s.dev.get F.DDR_C_STAT_STATE c.val) (hhigh : s.dev.get F.DDR_C_STAT_STATE c.val ≤ 5)
  (hdue : (s.dev.chan c.val).sensedAt + s.dev.get F.DDR_SB_PERIOD_MS * 1000000 ≤ s.dev.raw)
include hlow hhigh hdue

theorem dimmSensorRead_due (hub t0 t1 : Option Byte) (m : Option Bool) : Gives (.dimmSensorRead c hub t0 t1 m) s
    (if (s.dev.sensedNow c.val).flag F.DDR_C_CFG_SOLDERED c.val then (s.dev.sensedNow c.val).solderedRead c.val m else (s.dev.sensedNow c.val).moduleRead c.val hub t0 t1) := by
  refine gives_of_neg (gives_dimmSensorRead c hub t0 t1 m s) ?_
  have hnow : ¬ s.dev.now < (s.dev.chan c.val).sensedAt + s.dev.get F.DDR_SB_PERIOD_MS * 1000000 := Nat.not_lt.mpr hdue
  simp [hlow, hhigh, hnow]

theorem dimmSensorRead_soldered (h : s.dev.get F.DDR_C_CFG_SOLDERED c.val ≠ 0) (hub t0 t1 : Option Byte) (m : Option Bool) :
    Gives (.dimmSensorRead c hub t0 t1 m) s ((s.dev.sensedNow c.val).solderedRead c.val m) :=
  gives_of_pos (dimmSensorRead_due hlow hhigh hdue hub t0 t1 m) ((Dev.flag_eq_true (s.dev.sensedNow c.val) F.DDR_C_CFG_SOLDERED c.val 0).mpr h)

theorem dimmSensorRead_module (h : s.dev.get F.DDR_C_CFG_SOLDERED c.val = 0) (hub t0 t1 : Option Byte) (m : Option Bool) :
    Gives (.dimmSensorRead c hub t0 t1 m) s ((s.dev.sensedNow c.val).moduleRead c.val hub t0 t1) := by
  refine gives_of_neg (dimmSensorRead_due hlow hhigh hdue hub t0 t1 m) ?_
  rw [Bool.not_eq_true]
  exact (Dev.flag_eq_false (s.dev.sensedNow c.val) F.DDR_C_CFG_SOLDERED c.val 0).mpr h

end

/-- The readings of a module, by the values they stand for. -/
theorem Dev.moduleRead_spec (d : Dev) {k : Nat} (hk : k < 4) {hub t0 t1 : Option Byte} {value : Option Byte → Int} (hsome : ∀ b : Byte, value (some b) = signed 8 b.toNat)
    (hnone : value none = d.get F.DDR_REF_TEMP_2X) {used : Int} (hused : used = max (max (max (-128) (value hub)) (value t0)) (value t1)) :
    d.TempsRead ((d.sensedNow k).moduleRead k hub t0 t1) k (value hub) (value t0) (value t1) used ([hub, t0, t1].any (·.isNone)) := by
  have htemp (x : Option Byte) : (d.sensedNow k).sensorTemp x = value x := by
    cases x with
    | none => exact hnone.symm
    | some b => exact (hsome b).symm
  have hread : (d.sensedNow k).moduleRead k hub t0 t1 =
      ((((d.sensedNow k).shownTemps k (value hub) (value t0) (value t1) used).failedReport k ([hub, t0, t1].any (·.isNone))).hotReport k used).tempRate k used := by
    simp only [Dev.moduleRead, htemp, hused]
  rw [hread]
  exact Dev.tempsRead (d.sensedNow k) hk _ _ _ _ _

/-- A step of the retraining begins in its turn. -/
theorem retrainStepBegin_settled (c : Chan) (s : State) {turn : Prop} (hturn : turn ↔ (s.dev.ddr.atOnce = true ∧ has s.dev.ddr.queue c.val = true) ∨
      (s.dev.ddr.atOnce = false ∧ s.dev.ddr.queue.head? = some c.val ∧ s.dev.ddr.pauseEnd + 20000 ≤ s.dev.raw)) :
    (¬ turn ∨ s.dev.get F.DDR_C_STAT_STATE c.val ≠ 4 ∨ (s.dev.chan c.val).stepsLeft = 0 ∨ s.dev.raw < (s.dev.chan c.val).busyUntil ∨ s.dev.ddr.rateBusy = true →
      Gives (.retrainStepBegin c) s s.dev) ∧
    (turn → s.dev.get F.DDR_C_STAT_STATE c.val = 4 → 0 < (s.dev.chan c.val).stepsLeft → (s.dev.chan c.val).busyUntil ≤ s.dev.raw → s.dev.ddr.rateBusy = false →
      Gives (.retrainStepBegin c) s ((s.dev.set F.DDR_C_STAT_STATE 5 c.val).modChan c.val (fun x =>
        { x with step := some (3 - x.stepsLeft), stepsLeft := x.stepsLeft - 1 }))) := by
  have hnow : s.dev.now = s.dev.raw := rfl
  rw [← Dev.trainTurn_iff] at hturn
  refine ⟨fun h => gives_of_neg (gives_retrainStepBegin c s) ?_, fun ht hst hleft hbusy hrate => gives_of_pos (gives_retrainStepBegin c s) ?_⟩
  · simp only [Bool.and_eq_true, decide_eq_true_eq, Bool.not_eq_true', hnow]
    rintro ⟨⟨⟨⟨ht, hst⟩, hleft⟩, hbusy⟩, hrate⟩
    rcases h with h | h | h | h | h
    · exact h (hturn.mpr ht)
    · exact h hst
    · omega
    · omega
    · rw [hrate] at h
      exact absurd h (by decide)
  · simp only [Bool.and_eq_true, decide_eq_true_eq, Bool.not_eq_true', hnow]
    exact ⟨⟨⟨⟨hturn.mp ht, hst⟩, hleft⟩, hbusy⟩, hrate⟩

section
variable {d : Dev} {k n : Nat}

theorem Dev.stepEnds_idle (h : d.get F.DDR_C_STAT_STATE k ≠ 5) (rd wr drift : Nat) (r : Bool) : d.stepEnds k n rd wr drift r = d := if_pos h

variable (hst : d.get F.DDR_C_STAT_STATE k = 5)
include hst

theorem Dev.stepEnds_of (rd wr drift : Nat) (r : Bool) : d.stepEnds k n rd wr drift r =
    (if d.ddr.rateBusy then d.pauseEnds k
      else if (n = 0 && !r) || (n = 1 && rd = 0) || (n = 2 && wr = 0) then ((d.pauseEnds k).report (191 + k)).failChannel k
      else if n = 2 then ((d.pauseEnds k).leavesQueue k).retrained k rd wr drift
      else d.pauseEnds k) := if_neg (not_not.mpr hst)

theorem Dev.stepEnds_on {rd wr : Nat} {r : Bool} (h : d.ddr.rateBusy = true ∨ (n ≠ 2 ∧ ((n = 0 && !r) || (n = 1 && rd = 0) || (n = 2 && wr = 0)) = false)) (drift : Nat) :
    d.stepEnds k n rd wr drift r = d.pauseEnds k := by
  rw [Dev.stepEnds_of hst]
  split
  · rfl
  · next hb =>
    obtain ⟨hn, hbad⟩ := h.resolve_left hb
    rw [hbad, if_neg Bool.false_ne_true, if_neg hn]

theorem Dev.stepEnds_bad {rd wr : Nat} {r : Bool} (hb : d.ddr.rateBusy = false) (hbad : ((n = 0 && !r) || (n = 1 && rd = 0) || (n = 2 && wr = 0)) = true) (drift : Nat) :
    d.stepEnds k n rd wr drift r = ((d.pauseEnds k).report (191 + k)).failChannel k := by
  rw [Dev.stepEnds_of hst, hb, if_neg Bool.false_ne_true, if_pos hbad]

theorem Dev.stepEnds_third {rd wr : Nat} {r : Bool} (hb : d.ddr.rateBusy = false) (hn : n = 2) (hbad : ((n = 0 && !r) || (n = 1 && rd = 0) || (n = 2 && wr = 0)) = false)
    (drift : Nat) : d.stepEnds k n rd wr drift r = ((d.pauseEnds k).leavesQueue k).retrained k rd wr drift := by
  rw [Dev.stepEnds_of hst, hb, if_neg Bool.false_ne_true, hbad, if_neg Bool.false_ne_true, if_pos hn]

end

section
variable (d : Dev) {k : Nat}

theorem Dev.state_pauseEnds : (d.pauseEnds k).get F.DDR_C_STAT_STATE k = 4 := Dev.get_set_self d F.DDR_C_STAT_STATE 4 k 0

theorem Dev.get_pauseEnds {g : Field} (hg : g.distinct F.DDR_C_STAT_STATE = true) (i : Nat) : (d.pauseEnds k).get g i = d.get g i :=
  Dev.get_set_distinct d hg 4 k 0 i 0

theorem Dev.step_pauseEnds (hk : k < d.ddr.chans.length) : ((d.pauseEnds k).chan k).step = none := by
  have hchan := Dev.chan_modChan_self (d.set F.DDR_C_STAT_STATE 4 k) hk
    (fun x => { x with step := none, excess := 0, busyUntil := Nat.max x.busyUntil (d.raw + x.excess) })
  exact congrArg DdrCh.step hchan

/-- A channel that fails in a step is FENCED and reported. -/
theorem Dev.stepFails (hk : k < 4) : (((d.pauseEnds k).report (191 + k)).failChannel k).get F.DDR_C_STAT_STATE k = 6 ∧
    has (((d.pauseEnds k).report (191 + k)).failChannel k).flt.status (fkey (191 + k) 0) = true := by
  have hstate := Dev.state_pauseEnds d (k := k)
  exact ⟨Dev.state_failChannel hk (Dev.used_report hk (by omega) _ 0), Dev.has_status_failChannel (Dev.has_status_report _ _ 0 (by decide)) k⟩

/-- What the end of the third step shows. -/
theorem Dev.thirdStep (hk : k < 4) (hlen : k < d.ddr.chans.length) (rd wr drift : Byte) {e : Dev}
    (he : e = ((d.pauseEnds k).leavesQueue k).retrained k rd.toNat wr.toNat drift.toNat) :
    has e.ddr.queue k = false ∧ (e.chan k).step = none ∧ e.get F.DDR_C_TRAIN_STAT_RD k = rd.toNat ∧ e.get F.DDR_C_TRAIN_STAT_WR k = wr.toNat ∧
      e.get F.DDR_C_TRAIN_STAT_DRIFT k = drift.toNat ∧ e.get F.DDR_C_CNT_RETRAINS k = Nat.min 32767 (d.get F.DDR_C_CNT_RETRAINS k + 1) ∧
      (d.get F.DDR_TRAIN_MARGIN_MIN ≤ rd.toNat → d.get F.DDR_TRAIN_MARGIN_MIN ≤ wr.toNat → e.get F.DDR_C_STAT_STATE k = 4) ∧
      (rd.toNat < d.get F.DDR_TRAIN_MARGIN_MIN ∨ wr.toNat < d.get F.DDR_TRAIN_MARGIN_MIN → has e.flt.status (fkey (195 + k) 0) = true) := by
  obtain ⟨x, hx⟩ : ∃ x, x = (d.pauseEnds k).leavesQueue k := ⟨_, rfl⟩
  obtain ⟨y, hy⟩ : ∃ y, y = x.trainShown k rd.toNat wr.toNat drift.toNat := ⟨_, rfl⟩
  have hxget {g : Field} (hg : g.distinct F.DDR_C_STAT_STATE = true) (i : Nat) : x.get g i = d.get g i := by
    rw [hx]
    exact Dev.get_pauseEnds d hg i
  have hxst : x.get F.DDR_C_STAT_STATE k = 4 := by
    rw [hx]
    exact Dev.state_pauseEnds d
  have hquiet : y.Untrained k := by
    have hxq : x.Untrained k := hx ▸ Dev.untrained_leavesQueue (Dev.step_pauseEnds d hlen)
    rw [hy]
    exact hxq
  obtain ⟨hrd, hwr, hdrift, hcount⟩ := Dev.trainShown_shows x k rd.toNat wr.toNat drift.toNat
  rw [← hy] at hrd hwr hdrift hcount
  have hmin : y.get F.DDR_TRAIN_MARGIN_MIN = d.get F.DDR_TRAIN_MARGIN_MIN := by rw [hy, Dev.get_trainShown _ _ _ _ _ (by decide), hxget (by decide)]
  have hyst : y.get F.DDR_C_STAT_STATE k = 4 := by rw [hy, Dev.get_trainShown _ _ _ _ _ (by decide), hxst]
  rw [Dev.retrained_eq, ← hx, ← hy] at he
  obtain ⟨hqueue, hstep⟩ := Dev.untrained_marginReport hquiet k rd.toNat wr.toNat
  rw [← he] at hqueue hstep
  have hkeep {g : Field} (hg : g.calm = true) (hi : k < g.n1) (hj : 0 < g.n2) : e.get g k = y.get g k := by rw [he, Dev.get_marginReport _ _ _ _ hg hi hj]
  refine ⟨hqueue, hstep, ?_, ?_, ?_, ?_, fun h1 h2 => ?_, fun h => ?_⟩
  · rw [hkeep (by decide) hk (by decide), hrd, Nat.mod_eq_of_lt rd.isLt]
  · rw [hkeep (by decide) hk (by decide), hwr, Nat.mod_eq_of_lt wr.isLt]
  · rw [hkeep (by decide) hk (by decide), hdrift, Nat.mod_eq_of_lt drift.isLt]
  · rw [hkeep (by decide) hk (by decide), hcount, hxget (by decide)]
  · rw [he, Dev.marginReport, hmin, if_neg (by simpa using ⟨h1, h2⟩), hyst]
  · rw [he, Dev.marginReport, hmin, if_pos (by simpa using h)]
    exact Dev.has_status_report _ _ 0 (by decide)

end

/-- An alert of a channel in use. -/
theorem ddrAlertInput_completes {c : Chan} {s : State} (h : s.dev.get F.DDR_C_STAT_STATE c.val = 4 ∨ s.dev.get F.DDR_C_STAT_STATE c.val = 5) :
    Completes (.ddrAlertInput c) s (fun d => has d.flt.status (fkey (207 + c.val) 0) = true ∧
      d.get F.DDR_C_CNT2_ALERTS c.val = Nat.min 65535 (s.dev.get F.DDR_C_CNT2_ALERTS c.val + 1) ∧
      (2 ≤ ((s.dev.chan c.val).alerts.filter (fun t => s.dev.raw < t + 1000000)).length → d.get F.DDR_C_STAT_STATE c.val = 6)) := by
  obtain ⟨hstatus, hcount, hused⟩ := Dev.alerted_spec c.isLt h
  obtain ⟨x, hx⟩ : ∃ x, x = (s.dev.alerted c.val).modChan c.val (fun x => { x with alerts := [] }) := ⟨_, rfl⟩
  have hxget (f : Field) (i : Nat) : x.get f i = (s.dev.alerted c.val).get f i := by rw [hx]; rfl
  have hxflt : x.flt = (s.dev.alerted c.val).flt := by rw [hx]; rfl
  have hlen : (s.dev.recentAlerts c.val).length = ((s.dev.chan c.val).alerts.filter (fun t => s.dev.raw < t + 1000000)).length + 1 := by
    rw [Dev.recentAlerts, List.length_append]
    rfl
  have hgives := gives_of_pos (gives_ddrAlertInput c s) (by simpa using h)
  by_cases h3 : 3 ≤ (s.dev.recentAlerts c.val).length
  · refine ⟨x.failChannel c.val, hgives.congr ((if_pos h3).trans (by rw [hx])), Dev.has_status_failChannel (by rwa [hxflt]) _, ?_, fun _ => ?_⟩
    · rw [Dev.get_of_beyond (Dev.beyond_failChannel x c.val) (by decide) c.isLt (by decide), hxget, hcount]
    · exact Dev.state_failChannel c.isLt (by rwa [hxget])
  · exact ⟨_, hgives.congr (if_neg h3), hstatus, hcount, fun h2 => absurd (by omega) h3⟩

theorem countWord_bare (rq : Requester) (c : Chan) : inPages (0x71050 + 0x1000 * c.val) = true ∧
    (fieldsAt (canonAddr rq (0x71050 + 0x1000 * c.val))).all (fun x => !x.1.stores) = true := by
  revert c
  cases rq <;> decide +kernel

/-- Settles O8, each clause by the facts of its command: refresh, sensors, the retraining queue, its steps, alerts and idle rows. -/
theorem ddrChannelsAreKept : Obligations.DdrChannelsAreKept := by
  rintro c s x st rfl rfl hlen
  have hc := c.isLt
  refine ⟨refreshDue_settled c s hlen, ?_, ?_, ?_, ?_, fun turn hturn => retrainStepBegin_settled c s hturn, ?_, ?_, ddrAlertInput_completes, ?_, ?_⟩
  · rintro hub t0 t1 m e rfl
    refine ⟨fun h => dimmSensorRead_waits h hub t0 t1 m, fun hlow hhigh hdue => ⟨fun hs => ⟨?_, ?_⟩, fun hs value used hsome hnone hused => ?_⟩⟩
    · rintro b rfl
      exact ⟨dimmSensorRead_soldered hlow hhigh hdue hs hub t0 t1 (some b), Dev.rate_refreshRate _ _ b⟩
    · rintro rfl
      exact dimmSensorRead_soldered hlow hhigh hdue hs hub t0 t1 none
    · obtain ⟨h1, h2, h3, h4, h5, h6, h7, h8, h9⟩ := Dev.moduleRead_spec s.dev hc (hub := hub) (t0 := t0) (t1 := t1) hsome hnone hused
      refine ⟨_, dimmSensorRead_module hlow hhigh hdue hs hub t0 t1 m, h1, h2, h3, h4, h5, h6, h7, fun hn => h8 ?_, h9⟩
      rcases hn with rfl | rfl | rfl <;> simp
  · rintro n e rfl rfl
    refine ⟨fun h => gives_of_pos (gives_retrainPeriod s) ?_, fun h1 h2 h3 => gives_of_neg (gives_retrainPeriod s) ?_⟩
    · simp only [Bool.or_eq_true, decide_eq_true_eq]
      exact or_assoc.mpr h
    · simp only [Bool.or_eq_true, decide_eq_true_eq, not_or]
      exact ⟨⟨h1, h2⟩, Nat.not_lt.mpr h3⟩
  · intro rq w e h he
    exact ⟨gives_retrainStart h w he, Dev.storeWord_train w he⟩
  · rintro d hlen e rfl
    exact ⟨Dev.retrainAll_joins hc hlen, Dev.retrainAll_other, d.retrainAll_keeps.1⟩
  · rintro rd wr drift r e rfl
    refine ⟨?_, fun hst n hn bad hbad => ?_⟩
    · rintro (h | h)
      · cases hs : (s.dev.chan c.val).step with
        | none => exact gives_retrainStepEnd_none hs rd wr drift r
        | some n => exact (gives_retrainStepEnd hs rd wr drift r).congr (Dev.stepEnds_idle h ..)
      · exact gives_retrainStepEnd_none h rd wr drift r
    · have hgives := gives_retrainStepEnd hn rd wr drift r
      have hiff : ((n = 0 && !r) || (n = 1 && rd.toNat = 0) || (n = 2 && wr.toNat = 0)) = true ↔ bad := by
        rw [hbad]
        simp [or_assoc]
      have hgood (h : ¬ bad) : ((n = 0 && !r) || (n = 1 && rd.toNat = 0) || (n = 2 && wr.toNat = 0)) = false := Bool.eq_false_iff.mpr (fun hx => h (hiff.mp hx))
      refine ⟨fun h => hgives.congr (Dev.stepEnds_on hst (h.imp_right (fun h => ⟨h.1, hgood h.2⟩)) _), fun hb h => ?_, fun hb h2 h => ?_⟩
      · have hfails := hgives.congr (Dev.stepEnds_bad hst hb (hiff.mpr h) _)
        exact ⟨hfails, _, hfails, Dev.stepFails s.dev hc⟩
      · exact ⟨_, hgives.congr (Dev.stepEnds_third hst hb h2 (hgood h) _), Dev.thirdStep s.dev hc hlen rd wr drift rfl⟩
  · intro h4 h5
    exact gives_of_neg (gives_ddrAlertInput c s) (by simp [h4, h5])
  · refine ⟨_, gives_rowIdleClose s, ?_, ?_, rfl, rfl⟩
    · exact congrArg DdrCh.rows (getD_map_of_lt (DdrCh.closed _ _ _) hlen {})
    · exact (congrArg DdrCh.debt (getD_map_of_lt (DdrCh.closed _ _ _) hlen {})).trans (DdrCh.debt_at ..)
  · intro rq h
    exact congrArg Host.Outcome.next (State.row_none h (.ddrCountClear rq c) (0x71050 + 0x1000 * c.val) (2 ^ 31) ⟨31, none⟩ _
      (countWord_bare rq c).1 (countWord_bare rq c).2 (by decide) (by decide) (by decide))

end Sys2Proof.Machine
end


section
/-! PROOF. Control commands, events and commits of the camera ports (R316, R319, R321, R335, R336). -/

namespace Sys2Proof.Machine

/-! ### Buffers of bytes (R321) -/

theorem Dev.get_foldl_set_row (f : Field) (n : Nat) (hinj : ∀ a b, f.key n a = f.key n b → a = b) (g : Nat → Nat) (words : Nat) (d : Dev) (i : Nat) :
    ((List.range words).foldl (fun d i => d.set f (g i) n i) d).get f n i = if i < words then g i % 2 ^ f.width else d.get f n i := by
  induction words with
  | zero => rfl
  | succ k ih =>
    rw [List.range_succ, List.foldl_append, List.foldl_cons, List.foldl_nil]
    by_cases hk : i = k
    · subst hk
      rw [Dev.get_set_self, if_pos (Nat.lt_succ_self i)]
    · rw [Dev.get_set_ne _ _ _ _ _ _ _ _ (fun h => hk (hinj _ _ h)), ih]
      by_cases hi : i < k
      · rw [if_pos hi, if_pos (by omega)]
      · rw [if_neg hi, if_neg (by omega)]

/-- A word of a buffer that the stored bytes fill. -/
theorem Dev.get_storeBytes (f : Field) (hinj : ∀ n a b, f.key n a = f.key n b → a = b) (hw : f.width = 32) (d : Dev) (n : Nat) {words i : Nat} {b : List Nat}
    (hi : i < words) (hb : 4 * i + 4 ≤ b.length) : (d.storeBytes f n words (b.take (4 * words))).get f n i = ofBytesLE ((b.drop (4 * i)).take 4) := by
  simp only [Dev.storeBytes]
  rw [Dev.get_foldl_set_row f n (hinj n) (fun i => ofBytesLE ((((b.take (4 * words)).take (4 * words) ++ (d.bufBytes f n words).drop (b.take (4 * words)).length).drop (4 * i)).take 4)),
    if_pos hi, hw]
  have hlt := ofBytesLE_take_lt (((b.take (4 * words)).take (4 * words) ++ (d.bufBytes f n words).drop (b.take (4 * words)).length).drop (4 * i)) 4
  rw [Nat.mod_eq_of_lt (by omega), List.take_take, Nat.min_self, List.drop_append_of_le_length (by rw [List.length_take]; omega),
    List.take_append_of_le_length (by rw [List.length_drop, List.length_take]; omega), List.drop_take, List.take_take]
  congr 2
  omega

theorem Dev.outbox_storeBytes (f : Field) (d : Dev) (n words : Nat) (b : List Nat) : (d.storeBytes f n words b).outbox = d.outbox := by
  simp only [Dev.storeBytes]
  exact foldl_keeps Dev.outbox (fun (x : Dev) i => x.set f _ n i) (fun _ _ => rfl) _ _

/-- The end of a control command: BUSY falls, its result shows, and the cause is set. -/
theorem Dev.ctlEnd_shows (d : Dev) {n : Nat} (hn : n < 4) (r : Nat) :
    (d.ctlEnd n r).get F.CAM_P_CTL_BUSY n = 0 ∧ (d.ctlEnd n r).get F.CAM_P_CTL_RESULT n = r % 4 ∧ ((d.ctlEnd n r).get F.CAM_IRQ_STAT).testBit (4 + n) = true := by
  have hirq (x : Dev) {g : Field} (hg : g.distinct F.CAM_IRQ_STAT = true) : (x.irq F.CAM_IRQ_STAT F.CAM_IRQ_EN (4 + n) (some F.CAM_VEC)).get g n = x.get g n :=
    Dev.get_irq_ne x _ _ _ _ _ (Field.key_ne_of_distinct hg _ _ _ _)
  have hmod (x : Dev) (f : CamSt → CamSt) (g : Field) : (x.modCam n f).get g n = x.get g n := rfl
  refine ⟨?_, ?_, ?_⟩
  · rw [Dev.ctlEnd, hirq _ (by decide), hmod, Dev.get_set_distinct _ (by decide), Dev.get_set_self]
    rfl
  · rw [Dev.ctlEnd, hirq _ (by decide), hmod, Dev.get_set_self]
    rfl
  · rw [Dev.ctlEnd, Dev.get_irq]
    exact Dev.testBit_raiseBit _ _ (by change 4 + n < 16; omega) 0 0

theorem camWord_bare (rq : Requester) (n : Cam) : (inPages (0x9011C + 0x100 * n.val) = true ∧ (fieldsAt (canonAddr rq (0x9011C + 0x100 * n.val))).all (fun x => !x.1.stores) = true) ∧
    inPages (0x9012C + 0x100 * n.val) = true ∧ (fieldsAt (canonAddr rq (0x9012C + 0x100 * n.val))).all (fun x => !x.1.stores) = true := by
  revert n
  cases rq <;> decide +kernel

/-! ### CAM_Pn_CTL (R321) -/

/-- The stored fields of CAM_Pn_CTL. -/
def ctlFields (n : Nat) : List FieldPart := [(F.CAM_P_CTL_TMO_MS, n, 0, 0), (F.CAM_P_CTL_TX_LEN, n, 0, 0)]

theorem storedAt_ctl (rq : Requester) (n : Cam) : inPages (0x90134 + 0x100 * n.val) = true ∧ canonAddr rq (0x90134 + 0x100 * n.val) = 0x90134 + 0x100 * n.val ∧
    StoredAt (0x90134 + 0x100 * n.val) (ctlFields n.val) := by
  revert n
  cases rq <;> decide +kernel

theorem Dev.normPage_ctl (d : Dev) (n : Cam) : d.normPage (0x90134 + 0x100 * n.val) = d := by
  obtain ⟨n, hn⟩ := n
  obtain rfl | rfl | rfl | rfl : n = 0 ∨ n = 1 ∨ n = 2 ∨ n = 3 := by omega
  · change d.normPage 0x90134 = d; rfl
  · change d.normPage 0x90234 = d; rfl
  · change d.normPage 0x90334 = d; rfl
  · change d.normPage 0x90434 = d; rfl

theorem ctlFields_plain (n : Nat) (r : Nat) : (∀ x ∈ ctlFields n, x.1.ordinary ∧ (match x.1.role with | none => true | some y => decide (y.code ≤ r)) = true) ∧
    ((ctlFields n).all (fun x => !auditedRole x.1.role)) = true := by
  have htmo : F.CAM_P_CTL_TMO_MS.ordinary := by decide
  have hlen : F.CAM_P_CTL_TX_LEN.ordinary := by decide
  refine ⟨fun x hx => ?_, rfl⟩
  rcases List.mem_cons.mp hx with rfl | hx
  · exact ⟨htmo, rfl⟩
  · rw [List.mem_singleton.mp hx]
    exact ⟨hlen, rfl⟩

/-- What CAM_Pn_CTL as it is stored shows, and leaves. -/
theorem Dev.storeWord_ctl {d : Dev} {rq : Requester} (n : Cam) (w : Word) {e : Dev} (he : e = d.storeWord rq (0x90134 + 0x100 * n.val) w.toNat) :
    e.get F.CAM_P_CTL_TX_LEN n.val = Nat.min 256 (w.toNat % 512) ∧ e.cam = d.cam ∧ e.outbox = d.outbox ∧ e.get F.CAM_P_CTL_BUSY n.val = d.get F.CAM_P_CTL_BUSY n.val ∧
      e.get F.CAM_P_STAT_STATE n.val = d.get F.CAM_P_STAT_STATE n.val ∧ e.bufBytes F.CAM_P_TX n.val 64 = d.bufBytes F.CAM_P_TX n.val 64 ∧ e.raw = d.raw := by
  have hn := n.isLt
  obtain ⟨hroles, -⟩ := ctlFields_plain n.val 0
  have hstored : e = d.storeFields w.toNat (ctlFields n.val) :=
    he.trans (Dev.storeWord_of (storedAt_ctl rq n).2.2 (Dev.permits_of (r := 0) (Nat.zero_le _) hroles) (List.cons_ne_nil _ _) w.toNat (fun x => x.normPage_ctl n))
  simp only [ctlFields, Dev.storeFields, List.foldl_cons, List.foldl_nil, Dev.storeField_rw (f := F.CAM_P_CTL_TMO_MS) rfl, Dev.storeField_rw (f := F.CAM_P_CTL_TX_LEN) rfl] at hstored
  obtain ⟨t, l, heq, hl⟩ : ∃ t l, e = (d.set F.CAM_P_CTL_TMO_MS t n.val).set F.CAM_P_CTL_TX_LEN l n.val ∧ l = Nat.min 256 (w.toNat % 512) := by
    refine ⟨_, _, hstored, ?_⟩
    rw [clampVal_of_range (f := F.CAM_P_CTL_TX_LEN) rfl (by decide) (by decide)]
    change max 0 (min 256 (w.toNat / 1 % 512)) = _
    rw [Nat.div_one, Nat.zero_max]
  have htx (i : Nat) (hi : i < 64) : e.get F.CAM_P_TX n.val i = d.get F.CAM_P_TX n.val i := by
    rw [heq, Dev.get_set_ne, Dev.get_set_ne] <;>
      simp only [Field.key, Field.addr, F.CAM_P_TX, F.CAM_P_CTL_TMO_MS, F.CAM_P_CTL_TX_LEN] <;> omega
  have hbuf : e.bufBytes F.CAM_P_TX n.val 64 = d.bufBytes F.CAM_P_TX n.val 64 := by
    simp only [Dev.bufBytes]
    exact List.flatMap_congr fun i hi => by rw [htx i (List.mem_range.mp hi)]
  refine ⟨?_, by rw [heq]; rfl, by rw [heq]; rfl, ?_, ?_, hbuf, by rw [heq]; rfl⟩
  · rw [heq, Dev.get_set_self, hl]
    refine Nat.mod_eq_of_lt ?_
    change Nat.min 256 _ < 512
    exact lt_of_le_of_lt (Nat.min_le_left _ _) (by decide)
  · rw [heq, Dev.get_set_distinct _ (by decide), Dev.get_set_distinct _ (by decide)]
  · rw [heq, Dev.get_set_distinct _ (by decide), Dev.get_set_distinct _ (by decide)]

/-- What SEND does with the stored word. -/
def Dev.ctlSend (d : Dev) (n : Nat) : Dev :=
  let len := d.get F.CAM_P_CTL_TX_LEN n
  if d.flag F.CAM_P_CTL_BUSY n then d
  else if len = 0 then d.ctlEnd n 0
  else if d.get F.CAM_P_STAT_STATE n ≠ 2 then d.ctlEnd n 3
  else ((d.emit (.camera n 0 ((d.bufBytes F.CAM_P_TX n 64).take len))).set F.CAM_P_CTL_BUSY 1 n).modCam n (fun c => { c with ctlEnd := some (d.now + d.get F.CAM_P_CTL_TMO_MS n * 1000000) })

theorem gives_cameraCtlSend {s : State} {rq : Requester} (h : s.Ready rq 0) (n : Cam) (w : Word) {e : Dev} (he : e = s.dev.storeWord rq (0x90134 + 0x100 * n.val) w.toNat) :
    Gives (.cameraCtlSend rq n w) s (if w.toNat.testBit 31 then e.ctlSend n.val else e) := by
  obtain ⟨hp, hcanon, hstored⟩ := storedAt_ctl rq n
  obtain ⟨hroles, hplain⟩ := ctlFields_plain n.val 0
  exact congrArg Host.Outcome.next (State.row_word (act := ⟨31, none⟩) h (.cameraCtlSend rq n w) (fun d => d.ctlSend n.val) hp (by rw [hcanon]; exact hstored) hroles (by decide)
    (by rw [hplain]; rfl) (by rw [he, hcanon]))

/-! ### Acknowledgements and events (R321) -/

theorem gives_cameraCtlAck (n : Cam) (ok : Bool) (bytes : List Byte) (s : State) : Gives (.cameraCtlAck n ok bytes) s
    (if !s.dev.flag F.CAM_P_CTL_BUSY n.val then s.dev
      else if ok then ((s.dev.storeBytes F.CAM_P_RX n.val 64 ((bytes.map (fun b => b.toNat)).take 256)).set F.CAM_P_CTL_RX_RX_LEN ((bytes.map (fun b => b.toNat)).take 256).length n.val).ctlEnd n.val 0
      else s.dev.ctlEnd n.val 2) := rfl

theorem gives_cameraEvent (n : Cam) (ok : Bool) (bytes : List Byte) (s : State) : Gives (.cameraEvent n ok bytes) s
    (if s.dev.get F.CAM_P_STAT_STATE n.val = 0 || !ok then s.dev
      else if (s.dev.emit (.camera n.val 3 [])).flag F.CAM_P_CTL_RX_EVT_FULL n.val then s.dev.emit (.camera n.val 3 [])
      else (((s.dev.emit (.camera n.val 3 [])).storeBytes F.CAM_P_EVT n.val 32 ((bytes.map (fun b => b.toNat)).take 128)).set F.CAM_P_CTL_RX_EVT_FULL 1 n.val).irq
        F.CAM_IRQ_STAT F.CAM_IRQ_EN (8 + n.val) (some F.CAM_VEC)) := rfl

/-- An acknowledgement's bytes in the receive buffer. -/
theorem Dev.ackStored (d : Dev) {n : Nat} (hn : n < 4) (b : List Nat) {e : Dev} (he : e = ((d.storeBytes F.CAM_P_RX n 64 (b.take 256)).set F.CAM_P_CTL_RX_RX_LEN (b.take 256).length n).ctlEnd n 0) :
    e.get F.CAM_P_CTL_RX_RX_LEN n = Nat.min 256 b.length ∧ ∀ i < 64, 4 * i + 4 ≤ b.length → e.get F.CAM_P_RX n i = ofBytesLE ((b.drop (4 * i)).take 4) := by
  have hend (x : Dev) (i : Nat) (g : Field) (h : ∀ f ∈ [F.CAM_P_CTL_BUSY, F.CAM_P_CTL_RESULT], g.key n i ≠ f.key n 0) (h' : g.key n i ≠ F.CAM_IRQ_STAT.key 0 0) :
      (x.ctlEnd n 0).get g n i = x.get g n i := by
    have hmod (y : Dev) (f : CamSt → CamSt) : (y.modCam n f).get g n i = y.get g n i := rfl
    rw [Dev.ctlEnd, Dev.get_irq_ne _ _ _ _ _ _ h', hmod, Dev.get_set_ne _ _ _ _ _ _ _ _ (h _ (by simp)), Dev.get_set_ne _ _ _ _ _ _ _ _ (h _ (by simp))]
  refine ⟨?_, fun i hi hb => ?_⟩
  · rw [he, hend _ 0 F.CAM_P_CTL_RX_RX_LEN (by
      intro f hf
      simp only [List.mem_cons, List.not_mem_nil, or_false] at hf
      rcases hf with rfl | rfl <;> simp only [Field.key, Field.addr, F.CAM_P_CTL_RX_RX_LEN, F.CAM_P_CTL_BUSY, F.CAM_P_CTL_RESULT] <;> omega)
      (by simp only [Field.key, Field.addr, F.CAM_P_CTL_RX_RX_LEN, F.CAM_IRQ_STAT]; omega), Dev.get_set_self, List.length_take]
    exact Nat.mod_eq_of_lt (by change min 256 b.length < 512; omega)
  · rw [he, hend _ i F.CAM_P_RX (by
      intro f hf
      simp only [List.mem_cons, List.not_mem_nil, or_false] at hf
      rcases hf with rfl | rfl <;> simp only [Field.key, Field.addr, F.CAM_P_RX, F.CAM_P_CTL_BUSY, F.CAM_P_CTL_RESULT] <;> omega)
      (by simp only [Field.key, Field.addr, F.CAM_P_RX, F.CAM_IRQ_STAT]; omega),
      Dev.get_set_ne _ _ _ _ _ _ _ _ (by simp only [Field.key, Field.addr, F.CAM_P_RX, F.CAM_P_CTL_RX_RX_LEN]; omega)]
    exact Dev.get_storeBytes F.CAM_P_RX (fun n a b h => by simp only [Field.key, Field.addr, F.CAM_P_RX] at h; omega) rfl d n hi hb

/-- An event packet's bytes in the event buffer. -/
theorem Dev.eventStored (d : Dev) {n : Nat} (hn : n < 4) (b : List Nat) {e : Dev} (he : e = ((d.storeBytes F.CAM_P_EVT n 32 (b.take 128)).set F.CAM_P_CTL_RX_EVT_FULL 1 n).irq
      F.CAM_IRQ_STAT F.CAM_IRQ_EN (8 + n) (some F.CAM_VEC)) :
    e.get F.CAM_P_CTL_RX_EVT_FULL n = 1 ∧ (e.get F.CAM_IRQ_STAT).testBit (8 + n) = true ∧
      ∀ i < 32, 4 * i + 4 ≤ b.length → e.get F.CAM_P_EVT n i = ofBytesLE ((b.drop (4 * i)).take 4) := by
  refine ⟨?_, ?_, fun i hi hb => ?_⟩
  · rw [he, Dev.get_irq_ne _ _ _ _ _ _ (Field.key_ne_of_distinct (by decide) _ _ _ _), Dev.get_set_self]
    rfl
  · rw [he, Dev.get_irq]
    exact Dev.testBit_raiseBit _ _ (by change 8 + n < 16; omega) 0 0
  · rw [he, Dev.get_irq_ne _ _ _ _ _ _ (by simp only [Field.key, Field.addr, F.CAM_P_EVT, F.CAM_IRQ_STAT]; omega),
      Dev.get_set_ne _ _ _ _ _ _ _ _ (by simp only [Field.key, Field.addr, F.CAM_P_EVT, F.CAM_P_CTL_RX_EVT_FULL]; omega)]
    exact Dev.get_storeBytes F.CAM_P_EVT (fun n a b h => by simp only [Field.key, Field.addr, F.CAM_P_EVT] at h; omega) rfl d n hi hb

/-! ### Commits (R335) -/

/-- What a commit shows: one more generation, pending with the shadow settings of its port. -/
theorem Dev.camCommit_spec (d : Dev) {n : Nat} (hlen : n < d.cam.length) {e : Dev} (he : e = d.camCommit n) :
    e.get F.CAM_P_COMMIT_GEN n = (d.get F.CAM_P_COMMIT_GEN n + 1) % 65536 ∧ e.get F.CAM_P_COMMIT_PENDING n = 1 ∧ e.get F.CAM_P_GEN n = d.get F.CAM_P_GEN n ∧
      (e.camSt n).expo = (d.camSt n).expo ∧ (e.camSt n).frames = (d.camSt n).frames ∧
      ∃ c, (e.camSt n).commit = some c ∧ c.expo = d.get F.CAM_P_TRIG_EXPO n ∧ c.lines = d.get F.CAM_P_FRAME_LINES n ∧ c.periods = 0 ∧
        d.raw ≤ c.copied ∧ c.copied ≤ d.raw + 200000 := by
  obtain ⟨c, y, heq, hexpo, hlines, hperiods, hcopied, hregs, hcam⟩ : ∃ (c : CamCommit) (y : Dev),
      e = ((y.set F.CAM_P_COMMIT_GEN ((y.get F.CAM_P_COMMIT_GEN n + 1) % 2 ^ 16) n).set F.CAM_P_COMMIT_PENDING 1 n).modCam n (fun x => { x with commit := some c }) ∧
        c.expo = d.get F.CAM_P_TRIG_EXPO n ∧ c.lines = d.get F.CAM_P_FRAME_LINES n ∧ c.periods = 0 ∧ (∃ k, c.copied = d.raw + k % 200001) ∧ y.regs = d.regs ∧ y.cam = d.cam :=
    ⟨_, d.nextFree.2, he, rfl, rfl, rfl, ⟨_, rfl⟩, rfl, rfl⟩
  have hget (f : Field) : y.get f n = d.get f n := by simp only [Dev.get, hregs]
  have hmod (x : Dev) (f : CamSt → CamSt) (g : Field) : (x.modCam n f).get g n = x.get g n := rfl
  have hst : e.camSt n = { d.camSt n with commit := some c } := by
    rw [heq]
    change (setAt y.cam n (fun x => { x with commit := some c })).getD n {} = _
    rw [getD_setAt, hcam, if_pos ⟨rfl, hlen⟩]
    rfl
  obtain ⟨k, hk⟩ := hcopied
  refine ⟨?_, ?_, ?_, by rw [hst], by rw [hst], c, by rw [hst], hexpo, hlines, hperiods, by omega, by omega⟩
  · rw [heq, hmod, Dev.get_set_distinct _ (by decide), Dev.get_set_self, hget]
    exact Nat.mod_mod _ _
  · rw [heq, hmod, Dev.get_set_self]
    rfl
  · rw [heq, hmod, Dev.get_set_distinct _ (by decide), Dev.get_set_distinct _ (by decide), hget]

end Sys2Proof.Machine
end


section
/-! PROOF. The blocks of the image pipeline (R326, R327, R337), and O11. -/

namespace Sys2Proof.Machine

/-! ### A line of a frame without streams (R326) -/

/-- Two views of a frame: the settings that it began with are the same. -/
def CtxFrame.SameFrame (f g : CtxFrame) : Prop := g.cfg = f.cfg ∧ g.gen = f.gen ∧ g.no = f.no ∧ g.lines = f.lines ∧ g.lost = f.lost

/-- No stream of a context's frame gives output lines. -/
def CtxFrame.Streamless (f : CtxFrame) (k : Nat) : Prop := ∀ j < 3, f.opt F.ISP_K_S_FMT_FMT k j = 0

theorem CtxFrame.SameFrame.streamless {f g : CtxFrame} (h : f.SameFrame g) {k : Nat} (hf : f.Streamless k) : g.Streamless k := fun j hj => by
  obtain ⟨hcfg, -⟩ := h
  rw [CtxFrame.opt, hcfg]
  exact hf j hj

theorem Dev.streamLine_none {f : CtxFrame} {k j : Nat} (h : f.opt F.ISP_K_S_FMT_FMT k j = 0) (d : Dev) (px : Option (List (List Int))) :
    d.streamLine k j f px = (d, f) := if_pos h

theorem Dev.streamLines_none {f : CtxFrame} {k : Nat} (h : f.Streamless k) (d : Dev) (px : Option (List (List Int))) :
    (List.range 3).foldl (fun (a : Dev × CtxFrame) j => a.1.streamLine k j a.2 px) (d, f) = (d, f) := by
  change ((d.streamLine k 0 f px).1.streamLine k 1 (d.streamLine k 0 f px).2 px).1.streamLine k 2 ((d.streamLine k 0 f px).1.streamLine k 1 (d.streamLine k 0 f px).2 px).2 px = (d, f)
  rw [Dev.streamLine_none (h 0 (by decide)), Dev.streamLine_none (h 1 (by decide)), Dev.streamLine_none (h 2 (by decide))]

theorem CtxFrame.statLine_same (f : CtxFrame) (k : Nat) (px : List (List Int)) : f.SameFrame (f.statLine k px) := by
  simp only [CtxFrame.statLine]
  split <;> exact ⟨rfl, rfl, rfl, rfl, rfl⟩

theorem Dev.readLine_clean {d : Dev} (h : d.ecc.sram = []) (n : Nat) (b : BufLine) : (d.readLine n b).2.2 = d := by
  simp only [Dev.readLine, Dev.sramRead, h]
  rfl

/-- A line of a frame without streams passes: the device stays, and the frame goes on by one. -/
theorem Dev.ctxLine_streamless {d : Dev} (hecc : d.ecc.sram = []) {k : Nat} {f : CtxFrame} (h : f.Streamless k) :
    (d.ctxLine k f).1 = d ∧ f.SameFrame (d.ctxLine k f).2 ∧ (d.ctxLine k f).2.next = f.next + 1 := by
  simp only [Dev.ctxLine]
  split
  · next b _ =>
    obtain ⟨e, he⟩ : ∃ e, e = (d.readLine f.port b).2.1 := ⟨_, rfl⟩
    have hread : (f.SameFrame { f with ecc := f.ecc || e }) := ⟨rfl, rfl, rfl, rfl, rfl⟩
    rw [Dev.readLine_clean hecc, ← he, Dev.streamLines_none (hread.streamless h)]
    refine ⟨rfl, ?_, rfl⟩
    exact CtxFrame.statLine_same ..
  · rw [Dev.streamLines_none h]
    exact ⟨rfl, ⟨rfl, rfl, rfl, rfl, rfl⟩, rfl⟩

theorem CtxFrame.SameFrame.trans {f g h : CtxFrame} (hg : f.SameFrame g) (hh : g.SameFrame h) : f.SameFrame h := by
  obtain ⟨h1, h2, h3, h4, h5⟩ := hg
  obtain ⟨k1, k2, k3, k4, k5⟩ := hh
  exact ⟨k1.trans h1, k2.trans h2, k3.trans h3, k4.trans h4, k5.trans h5⟩

/-- The lines of a block, one after the other. -/
def Dev.ctxLines (d : Dev) (k : Nat) (f : CtxFrame) (m : Nat) : Dev × CtxFrame := (List.range m).foldl (fun (a : Dev × CtxFrame) _ => a.1.ctxLine k a.2) (d, f)

theorem Dev.ctxLines_streamless {d : Dev} (hecc : d.ecc.sram = []) {k : Nat} {f : CtxFrame} (h : f.Streamless k) (m : Nat) :
    (d.ctxLines k f m).1 = d ∧ f.SameFrame (d.ctxLines k f m).2 ∧ (d.ctxLines k f m).2.next = f.next + m := by
  induction m with
  | zero => exact ⟨rfl, ⟨rfl, rfl, rfl, rfl, rfl⟩, rfl⟩
  | succ m ih =>
    obtain ⟨hd, hf, hn⟩ := ih
    have hlast : d.ctxLines k f (m + 1) = (d.ctxLines k f m).1.ctxLine k (d.ctxLines k f m).2 := by
      simp only [Dev.ctxLines, List.range_succ, List.foldl_append, List.foldl_cons, List.foldl_nil]
    obtain ⟨hd', hf', hn'⟩ := Dev.ctxLine_streamless hecc (hf.streamless h)
    rw [hlast, hd]
    exact ⟨hd', hf.trans hf', hn'.trans (by rw [hn]; rfl)⟩

/-! ### The end of a frame (R334, R337) -/

theorem Dev.isp_irq (d : Dev) (st en : Field) (k : Nat) (v : Option Field) (i : Nat) : (d.irq st en k v i).isp = d.isp := by
  cases v with
  | none => rfl
  | some v =>
    simp only [Dev.irq, Dev.msixDue]
    split
    · split <;> rfl
    · rfl

theorem Dev.vinKeep_leaves (d : Dev) (k : Nat) (f : CtxFrame) : (d.vinKeep k f).isp = d.isp ∧ (d.vinKeep k f).regs = d.regs := by
  simp only [Dev.vinKeep]
  split <;> exact ⟨rfl, rfl⟩

/-- The end of a frame whose context writes no records: its cause is set, and no context changes. -/
theorem Dev.ctxFrameEnd_shows {d : Dev} {k : Nat} (hk : k < 8) (h : d.get F.ISP_K_SSIZE k = 0) (f : CtxFrame) :
    (d.ctxFrameEnd k f).isp = d.isp ∧ ((d.ctxFrameEnd k f).get F.ISP_IRQ_STAT).testBit k = true := by
  obtain ⟨x, hx⟩ : ∃ x, x = d.irq F.ISP_IRQ_STAT F.ISP_IRQ_EN k (some F.ISP_VEC) := ⟨_, rfl⟩
  obtain ⟨y, hy⟩ : ∃ y, y = if f.dropped ≠ 0 then (x.bump F.ISP_K_CNT_INCOMPLETE k).irq F.ISP_IRQ_STAT F.ISP_IRQ_EN (8 + k) (some F.ISP_VEC) else x := ⟨_, rfl⟩
  have hend : d.ctxFrameEnd k f = y.vinKeep k f := by
    simp only [Dev.ctxFrameEnd]
    rw [if_pos h, hy, hx]
  have hxk : (x.get F.ISP_IRQ_STAT).testBit k = true := by
    rw [hx, Dev.get_irq]
    exact Dev.testBit_raiseBit _ _ (by change k < 24; omega) 0 0
  have hxisp : x.isp = d.isp := by rw [hx, Dev.isp_irq]
  have hyk : y.isp = d.isp ∧ (y.get F.ISP_IRQ_STAT).testBit k = true := by
    rw [hy]
    split
    · refine ⟨(Dev.isp_irq ..).trans hxisp, Dev.testBit_irq_of ?_ (by change k < 24; omega) _ _ _⟩
      rwa [Dev.get_bump_distinct _ (by decide)]
    · exact ⟨hxisp, hxk⟩
  obtain ⟨hisp, hregs⟩ := Dev.vinKeep_leaves y k f
  rw [hend]
  refine ⟨hisp.trans hyk.1, ?_⟩
  rw [Dev.get, hregs]
  exact hyk.2

/-! ### A block (R327) -/

theorem gives_ispBlock (s : State) : Gives .ispBlock s
    (if s.dev.pwr.st ≠ .on || s.dev.deferPaused || s.dev.fenced .isp then s.dev
      else match s.dev.nextCtx with
        | some k => s.dev.ispBlock k
        | none => s.dev) := rfl

theorem Dev.nextCtx_lt {d : Dev} {k : Nat} (h : d.nextCtx = some k) : k < 8 := by
  have hlist (p : Nat → Bool) (q : Nat → Bool) {x : Nat} (hx : x ∈ ((List.range 8).filter p).filter q) : x < 8 :=
    List.mem_range.mp (List.mem_filter.mp (List.mem_filter.mp hx).1).1
  simp only [Dev.nextCtx] at h
  split at h
  · next x hx =>
    rw [← Option.some.inj h]
    exact hlist _ _ (List.mem_of_find?_eq_some hx)
  · exact hlist _ _ (List.mem_of_head? h)

/-- A context after its block: its turn, its work, and its frames. -/
def Dev.afterBlock (d : Dev) (k work : Nat) (frames : List CtxFrame) : Dev :=
  d.modCtx k (fun x => { x with served := (d.isp.map (·.served)).foldl Nat.max 0 + 1, busy := x.busy + work, frames := frames })

theorem Dev.ctxSt_afterBlock {d : Dev} {k : Nat} {f : CtxFrame} {rest : List CtxFrame} (h : (d.ctxSt k).frames = f :: rest) (work : Nat) (frames : List CtxFrame) :
    ((d.afterBlock k work frames).ctxSt k).frames = frames := by
  have hk : k < d.isp.length := by
    by_contra hk
    rw [Dev.ctxSt, List.getD_eq_getElem?_getD, List.getElem?_eq_none (Nat.not_lt.mp hk)] at h
    cases h
  change ((setAt d.isp k _).getD k {}).frames = frames
  rw [getD_setAt, if_pos ⟨rfl, hk⟩]

/-- The block of a frame without streams, whose lines' words are sound. -/
theorem Dev.ispBlock_streamless {d : Dev} {k : Nat} {f : CtxFrame} {rest : List CtxFrame} (h : (d.ctxSt k).frames = f :: rest) (hecc : d.ecc.sram = []) (hf : f.Streamless k) :
    ∃ g : CtxFrame, f.SameFrame g ∧ g.next = f.next + f.block ∧ ∃ work : Nat,
      d.ispBlock k = ((if g.next < g.lines then d.afterBlock k work (if g.next < g.lines then g :: rest else rest)
        else (d.afterBlock k work (if g.next < g.lines then g :: rest else rest)).ctxFrameEnd k g).purge f.port) := by
  obtain ⟨hd, hsame, hnext⟩ := Dev.ctxLines_streamless hecc hf f.block
  obtain ⟨g, hg⟩ : ∃ g, g = (d.ctxLines k f f.block).2 := ⟨_, rfl⟩
  rw [← hg] at hsame hnext
  have hlost : (g.lost && !f.lost) = false := by
    obtain ⟨-, -, -, -, hl⟩ := hsame
    rw [hl, Bool.and_not_self]
  have hlines : (List.range f.block).foldl (fun (a : Dev × CtxFrame) _ => a.1.ctxLine k a.2) (d, f) = (d, g) := Prod.ext hd hg.symm
  refine ⟨g, hsame, hnext, cdiv (f.window k).2 8 * 16, ?_⟩
  simp only [Dev.ispBlock, h, hlines, hlost, Bool.false_eq_true, if_false]
  rfl

end Sys2Proof.Machine
end


section
/-! PROOF. The camera ports are controlled (O11). -/

namespace Sys2Proof.Machine

/-- SEND on an idle port: an end at once for no bytes or a port that does not run, else the bytes go out. -/
theorem cameraCtlSend_settled {s : State} {rq : Requester} (h : s.Ready rq 0) (n : Cam) (hlen : n.val < s.dev.cam.length) (w : Word) {e : Dev}
    (he : e = s.dev.storeWord rq (0x90134 + 0x100 * n.val) w.toNat) {len : Nat} (hl : len = e.get F.CAM_P_CTL_TX_LEN n.val) :
    len = Nat.min 256 (w.toNat % 512) ∧ e.cam = s.dev.cam ∧
      (w.toNat.testBit 31 = false ∨ s.dev.get F.CAM_P_CTL_BUSY n.val ≠ 0 → Gives (.cameraCtlSend rq n w) s e) ∧
      (w.toNat.testBit 31 = true → s.dev.get F.CAM_P_CTL_BUSY n.val = 0 →
        (len = 0 → Gives (.cameraCtlSend rq n w) s (e.ctlEnd n.val 0)) ∧
        (len ≠ 0 → s.dev.get F.CAM_P_STAT_STATE n.val ≠ 2 → Gives (.cameraCtlSend rq n w) s (e.ctlEnd n.val 3)) ∧
        (len ≠ 0 → s.dev.get F.CAM_P_STAT_STATE n.val = 2 → Completes (.cameraCtlSend rq n w) s (fun d => d.get F.CAM_P_CTL_BUSY n.val = 1 ∧
          d.outbox = s.dev.outbox ++ [.camera n.val 0 ((s.dev.bufBytes F.CAM_P_TX n.val 64).take len)] ∧
          (d.camSt n.val).ctlEnd = some (s.dev.raw + d.get F.CAM_P_CTL_TMO_MS n.val * 1000000)))) := by
  obtain ⟨htx, hcam, hout, hbusy, hstate, hbuf, hraw⟩ := Dev.storeWord_ctl n w he
  have hgives := gives_cameraCtlSend h n w he
  have hflag : e.flag F.CAM_P_CTL_BUSY n.val = true ↔ s.dev.get F.CAM_P_CTL_BUSY n.val ≠ 0 := by rw [Dev.flag_eq_true, hbusy]
  refine ⟨hl.trans htx, hcam, fun hoff => ?_, fun hsend hidle => ?_⟩
  · by_cases hsend : w.toNat.testBit 31 = true
    · rcases hoff with hoff | hoff
      · rw [hsend] at hoff
        exact absurd hoff (by decide)
      · exact hgives.congr ((if_pos hsend).trans (if_pos (hflag.mpr hoff)))
    · exact hgives.congr (if_neg hsend)
  · have hgo : Gives (.cameraCtlSend rq n w) s (e.ctlSend n.val) := hgives.congr (if_pos hsend)
    have hfree : ¬ e.flag F.CAM_P_CTL_BUSY n.val = true := fun hx => hflag.mp hx hidle
    refine ⟨fun h0 => hgo.congr ((if_neg hfree).trans (if_pos (hl ▸ h0))), fun h0 hst => hgo.congr ((if_neg hfree).trans ((if_neg (hl ▸ h0)).trans (if_pos (by rwa [hstate])))),
      fun h0 hst => ⟨_, hgo.congr ((if_neg hfree).trans ((if_neg (hl ▸ h0)).trans (if_neg (by rw [hstate]; exact not_not.mpr hst)))), ?_, ?_, ?_⟩⟩
    · exact Dev.get_set_self _ F.CAM_P_CTL_BUSY 1 n.val 0
    · change e.outbox ++ [Output.camera n.val 0 ((e.bufBytes F.CAM_P_TX n.val 64).take (e.get F.CAM_P_CTL_TX_LEN n.val))] = _
      rw [hout, hbuf, ← hl]
    · have hkeep (x : Dev) (f : CamSt → CamSt) : ((x.set F.CAM_P_CTL_BUSY 1 n.val).modCam n.val f).get F.CAM_P_CTL_TMO_MS n.val = x.get F.CAM_P_CTL_TMO_MS n.val :=
        Dev.get_set_distinct (f := F.CAM_P_CTL_BUSY) (g := F.CAM_P_CTL_TMO_MS) x (by decide) 1 n.val 0 n.val 0
      have hemit (o : Output) : (e.emit o).get F.CAM_P_CTL_TMO_MS n.val = e.get F.CAM_P_CTL_TMO_MS n.val := rfl
      rw [hkeep, hemit, ← hraw]
      change ((setAt e.cam n.val _).getD n.val {}).ctlEnd = _
      rw [getD_setAt, if_pos ⟨rfl, by rwa [hcam]⟩]
      rfl

/-- An acknowledgement, and an event packet. -/
theorem cameraPackets_settled (n : Cam) (s : State) (bytes : List Byte) :
    (s.dev.get F.CAM_P_CTL_BUSY n.val = 0 → ∀ ok, Gives (.cameraCtlAck n ok bytes) s s.dev) ∧
      (s.dev.get F.CAM_P_CTL_BUSY n.val ≠ 0 →
        Completes (.cameraCtlAck n true bytes) s (fun d => d.get F.CAM_P_CTL_BUSY n.val = 0 ∧ d.get F.CAM_P_CTL_RESULT n.val = 0 ∧
          d.get F.CAM_P_CTL_RX_RX_LEN n.val = Nat.min 256 bytes.length ∧
          ∀ i < 64, 4 * i + 4 ≤ bytes.length → d.get F.CAM_P_RX n.val i = ofBytesLE (((bytes.map (fun b => b.toNat)).drop (4 * i)).take 4)) ∧
        Gives (.cameraCtlAck n false bytes) s (s.dev.ctlEnd n.val 2)) ∧
      (s.dev.get F.CAM_P_STAT_STATE n.val = 0 → ∀ ok, Gives (.cameraEvent n ok bytes) s s.dev) ∧ Gives (.cameraEvent n false bytes) s s.dev ∧
      (s.dev.get F.CAM_P_STAT_STATE n.val ≠ 0 → s.dev.get F.CAM_P_CTL_RX_EVT_FULL n.val ≠ 0 → Gives (.cameraEvent n true bytes) s (s.dev.emit (.camera n.val 3 []))) ∧
      (s.dev.get F.CAM_P_STAT_STATE n.val ≠ 0 → s.dev.get F.CAM_P_CTL_RX_EVT_FULL n.val = 0 → Completes (.cameraEvent n true bytes) s (fun d => d.get F.CAM_P_CTL_RX_EVT_FULL n.val = 1 ∧
        Output.camera n.val 3 [] ∈ d.outbox ∧ (d.get F.CAM_IRQ_STAT).testBit (8 + n.val) = true ∧
        ∀ i < 32, 4 * i + 4 ≤ bytes.length → d.get F.CAM_P_EVT n.val i = ofBytesLE (((bytes.map (fun b => b.toNat)).drop (4 * i)).take 4))) := by
  have hack (ok : Bool) := gives_cameraCtlAck n ok bytes s
  have hevent (ok : Bool) := gives_cameraEvent n ok bytes s
  have hlen : (bytes.map (fun b => b.toNat)).length = bytes.length := List.length_map ..
  refine ⟨fun h ok => gives_of_pos (hack ok) ?_, fun h => ?_, fun h ok => gives_of_pos (hevent ok) ?_, gives_of_pos (hevent false) ?_, fun h hfull => ?_, fun h hfull => ?_⟩
  · rw [(Dev.flag_eq_false ..).mpr h]
    rfl
  · have hbusy : ¬ (!s.dev.flag F.CAM_P_CTL_BUSY n.val) = true := by
      rw [(Dev.flag_eq_true ..).mpr h]
      decide
    obtain ⟨e, he⟩ : ∃ e, e = ((s.dev.storeBytes F.CAM_P_RX n.val 64 ((bytes.map (fun b => b.toNat)).take 256)).set F.CAM_P_CTL_RX_RX_LEN
      ((bytes.map (fun b => b.toNat)).take 256).length n.val).ctlEnd n.val 0 := ⟨_, rfl⟩
    obtain ⟨h1, h2⟩ := Dev.ackStored s.dev n.isLt _ he
    obtain ⟨h3, h4, -⟩ := Dev.ctlEnd_shows ((s.dev.storeBytes F.CAM_P_RX n.val 64 ((bytes.map (fun b => b.toNat)).take 256)).set F.CAM_P_CTL_RX_RX_LEN
      ((bytes.map (fun b => b.toNat)).take 256).length n.val) n.isLt 0
    rw [← he] at h3 h4
    rw [hlen] at h1 h2
    exact ⟨⟨e, (gives_of_neg (hack true) hbusy).congr ((if_pos rfl).trans he.symm), h3, h4, h1, h2⟩, (gives_of_neg (hack false) hbusy).congr (if_neg (by decide))⟩
  · simp [h]
  · simp
  · exact (gives_of_neg (hevent true) (by simp [h])).congr (if_pos ((Dev.flag_eq_true (s.dev.emit (.camera n.val 3 [])) F.CAM_P_CTL_RX_EVT_FULL n.val 0).mpr hfull))
  · have hclear : ¬ (s.dev.emit (.camera n.val 3 [])).flag F.CAM_P_CTL_RX_EVT_FULL n.val = true := fun hx =>
      (Dev.flag_eq_true (s.dev.emit (.camera n.val 3 [])) F.CAM_P_CTL_RX_EVT_FULL n.val 0).mp hx hfull
    obtain ⟨e, he⟩ : ∃ e, e = (((s.dev.emit (.camera n.val 3 [])).storeBytes F.CAM_P_EVT n.val 32 ((bytes.map (fun b => b.toNat)).take 128)).set F.CAM_P_CTL_RX_EVT_FULL 1 n.val).irq
      F.CAM_IRQ_STAT F.CAM_IRQ_EN (8 + n.val) (some F.CAM_VEC) := ⟨_, rfl⟩
    obtain ⟨h1, h2, h3⟩ := Dev.eventStored (s.dev.emit (.camera n.val 3 [])) n.isLt _ he
    rw [hlen] at h3
    refine ⟨e, (gives_of_neg (hevent true) (by simp [h])).congr ((if_neg hclear).trans he.symm), h1, ?_, h2, h3⟩
    have hout : ∃ l, e.outbox = (s.dev.outbox ++ [Output.camera n.val 3 []]) ++ l := by
      obtain ⟨x, hx, hxo⟩ : ∃ x : Dev, e = x.irq F.CAM_IRQ_STAT F.CAM_IRQ_EN (8 + n.val) (some F.CAM_VEC) ∧ x.outbox = s.dev.outbox ++ [Output.camera n.val 3 []] :=
        ⟨_, he, Dev.outbox_storeBytes ..⟩
      rw [hx, ← hxo]
      simp only [Dev.irq, Dev.msixDue]
      split
      · split
        · exact ⟨[], (List.append_nil _).symm⟩
        · exact ⟨_, rfl⟩
      · exact ⟨[], (List.append_nil _).symm⟩
    obtain ⟨l, hl⟩ := hout
    rw [hl]
    simp

/-- The timeout of a control command. -/
theorem gives_cameraCtlTimeout {n : Cam} {s : State} {t : Nat} (h : (s.dev.camSt n.val).ctlEnd = some t) :
    Gives (.cameraCtlTimeout n) s (if s.dev.flag F.CAM_P_CTL_BUSY n.val && t ≤ s.dev.now then s.dev.ctlEnd n.val 1 else s.dev) := by
  unfold Gives
  simp only [exec, execCameraCtlTimeout, State.onDev, h]

/-- A block of a context whose frame has no streams and no record. -/
theorem ispBlock_completes {s : State} {k : Nat} {f : CtxFrame} {rest : List CtxFrame} (hgives : Gives .ispBlock s (s.dev.ispBlock k)) (hk : k < 8)
    (h : (s.dev.ctxSt k).frames = f :: rest) (hecc : s.dev.ecc.sram = []) (hf : f.Streamless k) (hsize : s.dev.get F.ISP_K_SSIZE k = 0) (hlt : f.next < f.lines) :
    Completes .ispBlock s (fun d =>
      (f.next + 16 < f.lines → ∃ g, (d.ctxSt k).frames = g :: rest ∧ g.next = f.next + 16 ∧ g.gen = f.gen ∧ g.no = f.no) ∧
      (f.lines ≤ f.next + 16 → (d.ctxSt k).frames = rest ∧ (d.get F.ISP_IRQ_STAT).testBit k = true)) := by
  obtain ⟨g, ⟨-, hgen, hno, hlines, -⟩, hnext, work, hblock⟩ := Dev.ispBlock_streamless h hecc hf
  have hsizes : f.block = Nat.min 16 (f.lines - f.next) := rfl
  refine ⟨_, hgives, fun hmore => ?_, fun hlast => ?_⟩
  · have hb : f.block = 16 := hsizes.trans (Nat.min_eq_left (by omega))
    have hg : g.next < g.lines := by omega
    rw [hblock, if_pos hg, if_pos hg]
    exact ⟨g, Dev.ctxSt_afterBlock h work (g :: rest), by omega, hgen, hno⟩
  · have hb : f.block = f.lines - f.next := hsizes.trans (Nat.min_eq_right (by omega))
    have hg : ¬ g.next < g.lines := by omega
    obtain ⟨hisp, hirq⟩ := Dev.ctxFrameEnd_shows hk (d := s.dev.afterBlock k work rest) hsize g
    rw [hblock, if_neg hg, if_neg hg]
    refine ⟨?_, hirq⟩
    have hpurge (x : Dev) (m : Nat) : (x.purge m).ctxSt k = x.ctxSt k := rfl
    rw [hpurge, Dev.ctxSt, hisp]
    exact Dev.ctxSt_afterBlock h work rest

theorem ispWord_bare (rq : Requester) (k : Ctx) : inPages (0xA0154 + 0x100 * k.val) = true ∧ (fieldsAt (canonAddr rq (0xA0154 + 0x100 * k.val))).all (fun x => !x.1.stores) = true := by
  revert k
  cases rq <;> decide +kernel

/-- A context's counts cleared. -/
theorem ispCountClear_completes {s : State} {rq : Requester} (h : s.Ready rq 0) (k : Ctx) :
    Completes (.ispCountClear rq k) s (fun d => d.get F.ISP_K_CNT_STAT_LOST k.val = 0 ∧ d.get F.ISP_K_CNT_INCOMPLETE k.val = 0 ∧ (∀ j < 3, d.get F.ISP_K_S_LOST k.val j = 0) ∧
      d.isp = s.dev.isp ∧ d.outbox = s.dev.outbox) := by
  obtain ⟨x, hx⟩ : ∃ x, x = (s.dev.set F.ISP_K_CNT_STAT_LOST 0 k.val).set F.ISP_K_CNT_INCOMPLETE 0 k.val := ⟨_, rfl⟩
  have hkeep (g : Field) (hg : ∀ j, g.key k.val 0 ≠ F.ISP_K_S_LOST.key k.val j) :
      ((List.range 3).foldl (fun d j => d.set F.ISP_K_S_LOST 0 k.val j) x).get g k.val = x.get g k.val :=
    foldl_keeps (fun d : Dev => d.get g k.val) _ (fun d j => Dev.get_set_ne d _ _ _ _ _ _ _ (hg j)) _ _
  refine ⟨(List.range 3).foldl (fun d j => d.set F.ISP_K_S_LOST 0 k.val j) x, ?_, ?_, ?_, fun j hj => ?_, ?_, ?_⟩
  · rw [hx]
    exact congrArg Host.Outcome.next (State.row_none h (.ispCountClear rq k) (0xA0154 + 0x100 * k.val) (2 ^ 31) ⟨31, none⟩ _ (ispWord_bare rq k).1 (ispWord_bare rq k).2
      (by decide) (by decide) (by decide))
  · rw [hkeep _ (fun j => by simp only [Field.key, Field.addr, F.ISP_K_CNT_STAT_LOST, F.ISP_K_S_LOST]; omega), hx, Dev.get_set_distinct _ (by decide), Dev.get_set_self]
    rfl
  · rw [hkeep _ (fun j => by simp only [Field.key, Field.addr, F.ISP_K_CNT_INCOMPLETE, F.ISP_K_S_LOST]; omega), hx, Dev.get_set_self]
    rfl
  · rw [Dev.get_foldl_set_row F.ISP_K_S_LOST k.val (fun a b h => by simp only [Field.key, Field.addr, F.ISP_K_S_LOST] at h; omega) (fun _ => 0), if_pos hj]
    rfl
  · rw [foldl_keeps Dev.isp (fun (d : Dev) j => d.set F.ISP_K_S_LOST 0 k.val j) (fun _ _ => rfl), hx]
    rfl
  · rw [foldl_keeps Dev.outbox (fun (d : Dev) j => d.set F.ISP_K_S_LOST 0 k.val j) (fun _ _ => rfl), hx]
    rfl

/-- Settles O11: commits, control commands and events by their rows, the pipeline by its blocks. -/
theorem camerasAreControlled : Obligations.CamerasAreControlled := by
  refine ⟨?_, fun s on hon => ?_, fun rq k s h => ⟨ispCountClear_completes h k, congrArg Host.Outcome.next (State.row_none h (.ispLoadClear rq) 0xA0048 (2 ^ 31) ⟨31, none⟩ _
    (by decide) (by cases rq <;> decide +kernel) (by decide) (by decide) (by decide))⟩⟩
  · rintro n s x st rfl rfl hlen
    refine ⟨fun rq h => ?_, fun d e r he => he ▸ Dev.ctlEnd_shows d n.isLt r, rfl, cameraPackets_settled n s, fun t ht => ⟨fun hb hnow => ?_, fun hoff => ?_⟩, fun hnone => ?_, fun h => ?_, fun h => ?_⟩
    · obtain ⟨⟨hp, hbare⟩, hpc, hbarec⟩ := camWord_bare rq n
      have hcommit : Gives (.cameraCommit rq n) s (s.dev.camCommit n.val) :=
        congrArg Host.Outcome.next (State.row_none h (.cameraCommit rq n) (0x9011C + 0x100 * n.val) (2 ^ 31) ⟨31, none⟩ _ hp hbare (by decide) (by decide) (by decide))
      exact ⟨hcommit, ⟨_, hcommit, Dev.camCommit_spec s.dev hlen rfl⟩,
        congrArg Host.Outcome.next (State.row_none h (.cameraCountClear rq n) (0x9012C + 0x100 * n.val) (2 ^ 31) ⟨31, none⟩ _ hpc hbarec (by decide) (by decide) (by decide)),
        fun w e len he hl => cameraCtlSend_settled h n hlen w he hl⟩
    · exact gives_of_pos (gives_cameraCtlTimeout ht) (Bool.and_eq_true_iff.mpr ⟨(Dev.flag_eq_true ..).mpr hb, decide_eq_true hnow⟩)
    · refine gives_of_neg (gives_cameraCtlTimeout ht) (fun hx => ?_)
      obtain ⟨hb, hnow⟩ := Bool.and_eq_true_iff.mp hx
      exact hoff.elim (fun h0 => (Dev.flag_eq_true ..).mp hb h0) (fun hlt => absurd (of_decide_eq_true hnow) (Nat.not_le.mpr hlt))
    · unfold Gives
      simp only [exec, execCameraCtlTimeout, State.onDev, hnone]
    · exact congrArg Host.Outcome.next (congrArg (fun d => { s with dev := d }) (if_pos h))
    · exact congrArg Host.Outcome.next (congrArg (fun d => { s with dev := d }) (if_neg h))
  · have hblock := gives_ispBlock s
    have hiff : ¬ ((s.dev.pwr.st ≠ .on || s.dev.deferPaused || s.dev.fenced .isp) = true) ↔ on := by
      rw [hon]
      simp [and_assoc]
    have hruns (k : Nat) (ho : on) (hk : s.dev.nextCtx = some k) : Gives .ispBlock s (s.dev.ispBlock k) := (gives_of_neg hblock (hiff.mpr ho)).congr (by rw [hk])
    refine ⟨?_, hruns, fun k f rest ho hk hf hecc hfmt hsize hlt => ispBlock_completes (hruns k ho hk) (Dev.nextCtx_lt hk) hf hecc hfmt hsize hlt⟩
    rintro (h | h)
    · exact gives_of_pos hblock (not_not.mp (fun hx => h (hiff.mp hx)))
    · refine hblock.congr ?_
      rw [h]
      split <;> rfl

end Sys2Proof.Machine
end


section
/-! PROOF. A frame on a lane, and the receiver that finds it (R239 to R241, R245). -/

namespace Sys2Proof.Machine

/-! ### The words that a receiver takes -/

/-- A receiver takes words in their order. -/
def LaneRx.takeWords : List Nat → LaneRx → LaneRx × List LaneEvent
  | [], r => (r, [])
  | w :: ws, r =>
    let x := r.takeWord w
    let y := LaneRx.takeWords ws x.1
    (y.1, x.2 ++ y.2)

/-- A receiver past its pointer word takes a word of a frame. -/
theorem LaneRx.takeWord_later {r : LaneRx} (h : 0 < r.words) (w : Nat) : r.takeWord w = ({ r with words := r.words + 1 } : LaneRx).frameWord w := by
  have hfirst : ¬ r.words = 0 := Nat.pos_iff_ne_zero.mp h
  simp [LaneRx.takeWord, hfirst]

theorem LaneRx.frameWord_keeps (r : LaneRx) (w : Nat) :
    (r.frameWord w).1.nbits = r.nbits ∧ (r.frameWord w).1.word = r.word ∧ (r.frameWord w).1.words = r.words := by
  simp only [LaneRx.frameWord]
  split_ifs <;> exact ⟨rfl, rfl, rfl⟩

theorem LaneRx.takeWord_keeps {r : LaneRx} (h : 0 < r.words) (w : Nat) :
    (r.takeWord w).1.nbits = r.nbits ∧ (r.takeWord w).1.word = r.word ∧ (r.takeWord w).1.words = r.words + 1 := by
  rw [LaneRx.takeWord_later h]
  exact LaneRx.frameWord_keeps { r with words := r.words + 1 } w

theorem LaneRx.takeWords_onLine (ws : List Nat) (r : LaneRx) (a b c : Nat) (d : Bool) : (LaneRx.takeWords ws (r.onLine a b c d)).2 = (LaneRx.takeWords ws r).2 := by
  induction ws generalizing r with
  | nil => rfl
  | cons w ws ih => simp only [LaneRx.takeWords, LaneRx.takeWord_onLine, ih]

/-- The bits that a lane sends for words are, to a receiver in lock, those words. -/
theorem LaneRx.steps_puts (ws : List Nat) {r : LaneRx} {t : LaneTx} (h : r.InLock t) (hpos : 0 < r.words) (hr : r.words + ws.length ≤ 256) (hn : r.nbits = 0)
    (hv : r.word = 0) (ht : t.words + ws.length ≤ 1024) (h32 : ∀ w ∈ ws, w < 2 ^ 32) :
    (LaneRx.steps (LaneTx.puts 1024 ws t).1 r).2 = (LaneRx.takeWords ws r).2 := by
  induction ws generalizing r t with
  | nil => rfl
  | cons w ws ih =>
    rw [List.length_cons] at hr ht
    obtain ⟨win, hsteps, hlock⟩ := r.steps_word t w h (by omega) hn hv (h32 w List.mem_cons_self)
    obtain ⟨hnbits, hword, hwords⟩ := LaneRx.takeWord_keeps hpos w
    have hnext := ih hlock (by rw [LaneRx.onLine, hwords]; omega) (by rw [LaneRx.onLine, hwords]; omega) (hnbits.trans hn) (hword.trans hv)
      (by rw [(t.word_keeps w).2.2]; omega) (fun v hv => h32 v (List.mem_cons_of_mem w hv))
    have hgap : ¬ 1024 ≤ t.words := by omega
    simp only [LaneTx.puts, if_neg hgap, LaneRx.steps_append, hsteps, hnext, LaneRx.takeWords_onLine, LaneRx.takeWords]

/-! ### The words of a frame -/

theorem crcBit8_lt (c : Nat) : crcBitMSB 8 7 c < 2 ^ 8 := by
  have hshift : 2 * c % 2 ^ 8 < 2 ^ 8 := Nat.mod_lt _ (by decide)
  simp only [crcBitMSB]
  split
  · exact Nat.xor_lt_two_pow hshift (by decide)
  · exact hshift

theorem linkCrc_lt (l : List Nat) : linkCrc l < 256 := by
  have hbytes : ∀ (l : List Nat) (c : Nat), c < 2 ^ 8 → l.foldl (crcByteMSB 8 7) c < 2 ^ 8 := fun l => by
    induction l with
    | nil => exact fun _ h => h
    | cons b l ih => exact fun c _ => ih _ (crcBit8_lt _)
  exact hbytes l 0 (by decide)

/-- The parts of a header word. -/
theorem frameHeader_parts {port ftype len : Nat} (hp : port < 192) (hf : ftype ≤ 6) (hl : len < 4096) :
    frameHeader ftype len port / 2 ^ 28 = ftype ∧ bits (frameHeader ftype len port) 16 12 = len ∧
      linkCrc [bits (frameHeader ftype len port) 8 8, bits (frameHeader ftype len port) 16 8, bits (frameHeader ftype len port) 24 8] =
        frameHeader ftype len port % 256 ∧ frameHeader ftype len port < 2 ^ 32 := by
  have hcrc := linkCrc_lt [port, len % 256, ftype * 16 + len / 256 % 16]
  obtain ⟨c, hc⟩ : ∃ c, c = linkCrc [port, len % 256, ftype * 16 + len / 256 % 16] := ⟨_, rfl⟩
  have hw : frameHeader ftype len port = ftype * 268435456 + len % 4096 * 65536 + port * 256 + c := by rw [hc]; rfl
  rw [← hc] at hcrc
  rw [hw]
  have h8 : bits (ftype * 268435456 + len % 4096 * 65536 + port * 256 + c) 8 8 = port := by
    simp only [bits]
    omega
  have h16 : bits (ftype * 268435456 + len % 4096 * 65536 + port * 256 + c) 16 8 = len % 256 := by
    simp only [bits]
    omega
  have h24 : bits (ftype * 268435456 + len % 4096 * 65536 + port * 256 + c) 24 8 = ftype * 16 + len / 256 % 16 := by
    simp only [bits]
    omega
  rw [h8, h16, h24, ← hc]
  refine ⟨by omega, ?_, by omega, by omega⟩
  simp only [bits]
  omega

/-- A receiver gathers the rest of a frame: payload words, then the trailer. -/
theorem LaneRx.takeWords_rest (ps : List Nat) {r : LaneRx} {c : Nat} (hpos : 0 < r.words) (hblind : r.blind = false) (hskip : r.skip = 0) (hne : r.frame ≠ [])
    (hneed : r.need = ps.length + 1) (hc : crc32 (hlkBytes (r.frame ++ ps)) = c) :
    (LaneRx.takeWords (ps ++ [c]) r).2 = [.frame (r.frame.headD 0 / 2 ^ 28) (r.frame ++ ps).tail] := by
  have hempty : r.frame.isEmpty = false := by simpa using hne
  induction ps generalizing r with
  | nil =>
    rw [List.append_nil] at hc
    have hone : ¬ 1 < r.need := by simp [hneed]
    simp [LaneRx.takeWords, LaneRx.takeWord_later hpos, LaneRx.frameWord, hblind, hskip, hempty, hone, hc]
  | cons w ps ih =>
    have hmore : 1 < r.need := by simp [hneed]
    have htake : r.takeWord w = ({ r with words := r.words + 1, frame := r.frame ++ [w], need := r.need - 1 }, []) := by
      simp [LaneRx.takeWord_later hpos, LaneRx.frameWord, hblind, hskip, hempty, hmore]
    have hrest := ih (r := { r with words := r.words + 1, frame := r.frame ++ [w], need := r.need - 1 }) (Nat.succ_pos _) hblind hskip (by simp) (by simp [hneed])
      (by simpa using hc) (by simp)
    simp only [List.cons_append, LaneRx.takeWords, htake, hrest, List.nil_append]
    cases hf : r.frame with
    | nil => exact absurd hf hne
    | cons x l => simp

/-- The bits that a lane sends for a frame are, to a receiver in lock at a word boundary with no marker due within it, that frame. -/
theorem LaneRx.steps_frame {t : LaneTx} {r : LaneRx} {port ftype : Nat} {payload : List Nat} (h : r.InLock t) (hblind : r.blind = false) (hskip : r.skip = 0)
    (hframe : r.frame = []) (hn : r.nbits = 0) (hv : r.word = 0) (hport : port < 192) (hlo : 1 ≤ ftype) (hhi : ftype ≤ 6) (hlen : payload.length < 4096)
    (hpay : ∀ w ∈ payload, w < 4294967296) (hpos : 0 < r.words) (hr : r.words + payload.length + 2 ≤ 256) (ht : t.words + payload.length + 2 ≤ 1024) :
    (LaneRx.steps (LaneTx.puts 1024 (frameWords port ftype payload) t).1 r).2 = [.frame ftype payload] := by
  obtain ⟨htype, hcount, hcrc, hlt⟩ := frameHeader_parts hport hhi hlen
  obtain ⟨w, hw⟩ : ∃ w, w = frameHeader ftype payload.length port := ⟨_, rfl⟩
  obtain ⟨c, hc⟩ : ∃ c, c = crc32 (hlkBytes (w :: payload)) := ⟨_, rfl⟩
  have hwords : frameWords port ftype payload = w :: (payload ++ [c]) := by rw [frameWords, hc, hw]; rfl
  rw [← hw] at htype hcount hcrc hlt
  have h32 : ∀ v ∈ w :: (payload ++ [c]), v < 2 ^ 32 := by
    intro v hv
    rcases List.mem_cons.mp hv with rfl | hv
    · exact hlt
    · rcases List.mem_append.mp hv with hv | hv
      · exact hpay v hv
      · rw [List.mem_singleton.mp hv, hc]
        exact crc32_lt _
  have hlength : (w :: (payload ++ [c])).length = payload.length + 2 := by simp
  rw [hwords, LaneRx.steps_puts _ h hpos (by rw [hlength]; omega) hn hv (by rw [hlength]; omega) h32]
  have hhead : r.takeWord w = ({ r with words := r.words + 1, frame := [w], need := payload.length + 1 }, []) := by
    have hzero : ¬ ftype = 0 := by omega
    have hsix : ¬ 6 < ftype := by omega
    simp only [LaneRx.takeWord_later hpos, LaneRx.frameWord, hblind, hskip, hframe, htype, hcount, hcrc, if_neg hzero, if_neg hsix, List.isEmpty_nil, ne_eq,
      not_true_eq_false, Nat.lt_irrefl, Bool.false_eq_true, if_false, if_true]
  have hrest := LaneRx.takeWords_rest payload (r := { r with words := r.words + 1, frame := [w], need := payload.length + 1 }) (c := c) (Nat.succ_pos _) hblind hskip
    (by simp) rfl (by simp [hc])
  simp only [LaneRx.takeWords, hhead, hrest, List.headD_cons, htype, List.nil_append, List.cons_append, List.tail_cons]

end Sys2Proof.Machine
end


section
/-! PROOF. What a port's frames, its exchanges with its head and its priming leave of the device (R238 to R249, R256, R261 to R264). -/

namespace Sys2Proof.Machine

/-! ### A device that differs in one port -/

/-- A device that differs in the outputs that came after, in the random bytes drawn and in one port alone, of which a view is as before. -/
structure Dev.PortOnly {γ : Type} (off : HlkPort → γ) (p : Nat) (d e : Dev) : Prop where
  other : ∀ k, k ≠ p → e.port k = d.port k
  own : off (e.port p) = off (d.port p)
  length : e.ports.length = d.ports.length
  regs : e.regs = d.regs
  rest : (e.groups, e.flt, e.raw, e.hmap, e.mram, e.tb) = (d.groups, d.flt, d.raw, d.hmap, d.mram, d.tb)
  sent : ∀ o ∈ d.outbox, o ∈ e.outbox

namespace Dev.PortOnly

variable {γ : Type} {off : HlkPort → γ} {p : Nat} {d e : Dev}

theorem refl (off : HlkPort → γ) (p : Nat) (d : Dev) : d.PortOnly off p d := ⟨fun _ _ => rfl, rfl, rfl, rfl, rfl, fun _ h => h⟩

theorem trans {f : Dev} (h : d.PortOnly off p e) (h' : e.PortOnly off p f) : d.PortOnly off p f :=
  ⟨fun k hk => (h'.other k hk).trans (h.other k hk), h'.own.trans h.own, h'.length.trans h.length, h'.regs.trans h.regs, h'.rest.trans h.rest,
    fun o ho => h'.sent o (h.sent o ho)⟩

theorem coarser {δ : Type} (g : γ → δ) (h : d.PortOnly off p e) : d.PortOnly (fun q => g (off q)) p e :=
  ⟨h.other, congrArg g h.own, h.length, h.regs, h.rest, h.sent⟩

theorem emit (h : d.PortOnly off p e) (o : Output) : d.PortOnly off p (e.emit o) :=
  ⟨h.other, h.own, h.length, h.regs, h.rest, fun x hx => List.mem_append_left _ (h.sent x hx)⟩

theorem free (h : d.PortOnly off p e) (n : Nat) : d.PortOnly off p { e with free := n } := ⟨h.other, h.own, h.length, h.regs, h.rest, h.sent⟩

theorem modPort (h : d.PortOnly off p e) {f : HlkPort → HlkPort} (hf : off (f (e.port p)) = off (e.port p)) : d.PortOnly off p (e.modPort p f) := by
  refine ⟨fun k hk => (Dev.port_modPort_ne e hk f).trans (h.other k hk), ?_, (Dev.length_modPort ..).trans h.length, h.regs, h.rest, h.sent⟩
  rw [Dev.port_modPort]
  split
  · exact hf.trans h.own
  · exact h.own

/-- A register of the device is as before. -/
theorem get (h : d.PortOnly off p e) (f : Field) (i j : Nat) : e.get f i j = d.get f i j := by rw [Dev.get, h.regs]; rfl

/-- What is the same in the views of the port is as before. -/
theorem view {α : Type} {off : HlkPort → HlkPort} (h : d.PortOnly off p e) (g : HlkPort → α) (hg : ∀ q, g (off q) = g q) : g (e.port p) = g (d.port p) :=
  (hg _).symm.trans ((congrArg g h.own).trans (hg _))

end Dev.PortOnly

/-! ### Frames -/

/-- A port but for what its transmitter holds beside its mode, and the link delay that it has sent. -/
noncomputable def HlkPort.offTx (q : HlkPort) : HlkPort := { q with tx := { mode := q.tx.mode }, linkOut := 0 }

theorem Dev.onTx (p : Nat) (d : Dev) : OnTx (d.PortOnly HlkPort.offTx p) p where
  emit o _ h := h.emit o
  modTx f hf h := h.modPort (by simp only [HlkPort.offTx, hf])
  link _ h := h.modPort rfl

theorem Dev.onLane (p : Nat) (d : Dev) : OnLane (d.PortOnly HlkPort.offLane p) p where
  emit o _ h := h.emit o
  port _ hf h := h.modPort (hf _)

/-! ### Exchanges with a head -/

/-- A port but for what its transmitter holds beside its mode, the link delay that it has sent and its exchanges with its head. -/
noncomputable def HlkPort.offMem (q : HlkPort) : HlkPort :=
  { q with tx := { mode := q.tx.mode }, linkOut := 0, stage := 0, authAt := 0, chal := [], nonce := [], master := [], session := none, ctrTx := 0, txn := 0, memQ := [], memNow := none, useAt := 0 }

/-- A property of the device that does not speak of those, nor of the random bytes drawn, and to which further outputs do not matter. -/
structure OnMem (P : Dev → Prop) (p : Nat) : Prop where
  emit : ∀ {d : Dev} (o : Output), o.isLamp = false → P d → P (d.emit o)
  free : ∀ {d : Dev} (n : Nat), P d → P { d with free := n }
  modTx : ∀ {d : Dev} (f : LaneTx → LaneTx), (f (d.port p).tx).mode = (d.port p).tx.mode → P d → P (d.modTx p f)
  port : ∀ {d : Dev} (f : HlkPort → HlkPort), (∀ q, (f q).offMem = q.offMem) → P d → P (d.modPort p f)

namespace OnMem

section
variable {P : Dev → Prop} {p : Nat} (h : OnMem P p)
include h

theorem onTx : OnTx P p where
  emit := h.emit
  modTx := h.modTx
  link _ := h.port _ fun _ => rfl

variable {d : Dev} (hd : P d)
include hd

theorem authStart : P (d.authStart p) := by
  unfold Dev.authStart
  refine h.onTx.laneSend (h.port _ ?_ (h.free _ hd)) _ _
  exact fun _ => rfl

theorem memKick : P (d.memKick p) := by
  have htick : P (d.laneTick p) := h.onTx.laneTick hd
  unfold Dev.memKick
  dsimp only
  split
  · exact htick
  · split
    · exact htick
    · split
      · exact h.authStart htick
      · refine h.onTx.laneStart (h.port _ ?_ htick) _ _
        exact fun _ => rfl

theorem memAuto (op count addr : Nat) : P (d.memAuto p op count addr) := by
  unfold Dev.memAuto
  refine h.memKick (h.port _ ?_ hd)
  exact fun _ => rfl

theorem usageRead : P (d.usageRead p) := by
  unfold Dev.usageRead
  split
  · exact hd
  · refine h.memAuto (h.port _ ?_ hd) _ _ _
    exact fun _ => rfl

end

end OnMem

theorem Dev.onMem (p : Nat) (d : Dev) : OnMem (d.PortOnly HlkPort.offMem p) p where
  emit o _ h := h.emit o
  free n h := h.free n
  modTx f hf h := h.modPort (by simp only [HlkPort.offMem, hf])
  port _ hf h := h.modPort (hf _)

/-! ### Priming -/

/-- May a port prime (R256). -/
def Dev.mayPrime (d : Dev) (p : Nat) : Bool := d.flag F.HLK_CTRL_ENABLE p && !d.fenced (.port p) && (d.groups.getD (groupOf p) {}).relockAt.isNone

theorem Dev.mayPrime_iff (d : Dev) (p : Nat) :
    d.mayPrime p = true ↔ d.get F.HLK_CTRL_ENABLE p ≠ 0 ∧ d.fenced (.port p) = false ∧ (d.groups.getD (p / 24) {}).relockAt = none := by
  rw [Dev.mayPrime, Bool.and_eq_true, Bool.and_eq_true, Bool.not_eq_true', Option.isNone_iff_eq_none, Dev.flag_eq_true, and_assoc]
  rfl

theorem Dev.primePort_of_not {d : Dev} {p : Nat} (h : d.mayPrime p = false) : d.primePort p = d := if_neg fun hm => Bool.false_ne_true (h.symm.trans hm)

theorem Dev.ports_lineOut (d : Dev) (p : Nat) (b : List Bool) : (d.lineOut p b).ports = d.ports := by
  simp only [Dev.lineOut]
  split <;> rfl

theorem Dev.port_primeLane {d : Dev} {p : Nat} (hp : p < d.ports.length) (k : Nat) :
    (d.primeLane p k).port p = { d.port p with mFwd := 0, tx := { mode := .priming, waits := (d.port p).tx.waits.filter (fun f => framePriority f.1 ≤ k) } } := by
  unfold Dev.primeLane
  rw [Dev.port, Dev.ports_lineOut]
  exact Dev.port_modPort_self hp _

/-- A port that begins priming. -/
noncomputable def HlkPort.primed (q : HlkPort) (now : Nat) : HlkPort :=
  let t : LaneTx := { mode := .priming, waits := q.tx.waits.filter (fun f => framePriority f.1 ≤ 1) }
  { q with mFwd := 0, tx := t, st := .priming, since := now, retryAt := none, calOut := none, calGot := [] }

theorem Dev.port_primePort {d : Dev} {p : Nat} (h : d.mayPrime p = true) (hp : p < d.ports.length) : (d.primePort p).port p = (d.port p).primed d.raw := by
  have hlen : p < (d.primeLane p 1).ports.length := by
    rw [((Dev.onLane p d).primeLane (.refl ..) 1).length]
    exact hp
  unfold Dev.primePort
  unfold Dev.mayPrime at h
  rw [if_pos h, Dev.port_modPort_self hlen, Dev.port_primeLane hp]
  rfl

theorem Dev.primePort_only (d : Dev) (p : Nat) : d.PortOnly (fun _ => ()) p (d.primePort p) := by
  have hprime : d.PortOnly (fun _ => ()) p (d.primeLane p 1) := ((Dev.onLane p d).primeLane (.refl ..) 1).coarser fun _ => ()
  unfold Dev.primePort
  split
  · exact hprime.modPort rfl
  · exact .refl ..

end Sys2Proof.Machine
end


section
/-! PROOF. The rates of the lane groups, and the ports that wait for them (R236, R256). -/

namespace Sys2Proof.Machine

/-! ### A stored rate takes effect -/

theorem gives_laneRateChange (g : Group) (s : State) : Gives (.laneRateChange g) s
    (if s.dev.pwr.st = .on && s.dev.get F.HLK_GROUP_RATE (24 * g.val) ≠ (s.dev.groups.getD g.val {}).rate && s.dev.groupIdle g.val then
      { s.dev with groups := setAt s.dev.groups g.val (fun _ => { rate := s.dev.get F.HLK_GROUP_RATE (24 * g.val), relockAt := some (s.dev.raw + 100000) }) }
    else s.dev) := rfl

/-- A group is idle where every ENABLE of it is 0. -/
theorem Dev.groupIdle_iff (d : Dev) (g : Nat) : d.groupIdle g = true ↔ ∀ k < 24, d.get F.HLK_CTRL_ENABLE (24 * g + k) = 0 := by
  rw [Dev.groupIdle, List.all_eq_true]
  refine forall_congr' fun k => ?_
  rw [List.mem_range, Bool.not_eq_true', Dev.flag_eq_false]

theorem laneRateChange_takes (g : Group) (s : State) (hon : s.dev.pwr.st = .on) (hrate : s.dev.get F.HLK_GROUP_RATE (24 * g.val) ≠ (s.dev.groups.getD g.val {}).rate)
    (hidle : ∀ k < 24, s.dev.get F.HLK_CTRL_ENABLE (24 * g.val + k) = 0) : Gives (.laneRateChange g) s
      { s.dev with groups := setAt s.dev.groups g.val (fun _ => { rate := s.dev.get F.HLK_GROUP_RATE (24 * g.val), relockAt := some (s.dev.raw + 100000) }) } := by
  refine (gives_laneRateChange g s).congr (if_pos ?_)
  rw [Bool.and_eq_true, Bool.and_eq_true, decide_eq_true_eq, decide_eq_true_eq]
  exact ⟨⟨hon, hrate⟩, (s.dev.groupIdle_iff g.val).mpr hidle⟩

theorem laneRateChange_stays (g : Group) (s : State) (h : s.dev.pwr.st ≠ .on ∨ s.dev.get F.HLK_GROUP_RATE (24 * g.val) = (s.dev.groups.getD g.val {}).rate ∨
    ∃ k < 24, s.dev.get F.HLK_CTRL_ENABLE (24 * g.val + k) ≠ 0) : Gives (.laneRateChange g) s s.dev := by
  refine (gives_laneRateChange g s).congr (if_neg ?_)
  rw [Bool.and_eq_true, Bool.and_eq_true, decide_eq_true_eq, decide_eq_true_eq, Dev.groupIdle_iff]
  rintro ⟨⟨hon, hrate⟩, hidle⟩
  obtain h | h | ⟨k, hk, h⟩ := h
  · exact h hon
  · exact hrate h
  · exact h (hidle k hk)

/-! ### The ports that wait for a group's PLL -/

/-- What the end of a relock looks at, at a port. -/
structure WaitCell where
  port : HlkPort
  may  : Bool
  raw  : Nat
  away : Bool

/-- A port's cell. -/
def Dev.waitCell (d : Dev) (p : Nat) : WaitCell := ⟨d.port p, d.mayPrime p, d.raw, d.ports.length.ble p⟩

theorem Dev.port_waitCell (d : Dev) (p : Nat) : (d.waitCell p).port = d.port p := rfl

/-- A port that waits in DISABLED begins priming. -/
def Dev.primeWaiting (d : Dev) (p : Nat) : Dev := if (d.port p).st = .disabled then d.primePort p else d

/-- What the end of a relock makes of a port that the part has. -/
noncomputable def WaitCell.primed (c : WaitCell) : HlkPort := if c.port.st = .disabled ∧ c.may = true then c.port.primed c.raw else c.port

theorem Dev.PortOnly.waitCell {γ : Type} {off : HlkPort → γ} {p : Nat} {d e : Dev} (h : d.PortOnly off p e) {k : Nat} (hk : k ≠ p) : e.waitCell k = d.waitCell k := by
  obtain ⟨hother, -, hlen, hregs, hrest, -⟩ := h
  simp only [Prod.mk.injEq] at hrest
  obtain ⟨hgroups, hflt, hraw, -⟩ := hrest
  have hmay : e.mayPrime k = d.mayPrime k := by
    rw [Dev.mayPrime, Dev.mayPrime, hgroups, Dev.flag, Dev.flag, Dev.get, Dev.get, hregs, Dev.fenced, Dev.fenced, hflt]
  rw [Dev.waitCell, Dev.waitCell, hother k hk, hmay, hraw, hlen]

theorem Dev.primeWaiting_cells (d : Dev) (p : Nat) : (∀ k, k ≠ p → (d.primeWaiting p).waitCell k = d.waitCell k) ∧
    ((d.waitCell p).away = false → ((d.primeWaiting p).waitCell p).port = (d.waitCell p).primed) := by
  by_cases hst : (d.port p).st = .disabled
  · rw [Dev.primeWaiting, if_pos hst]
    refine ⟨fun k hk => (Dev.primePort_only d p).waitCell hk, fun haway => ?_⟩
    have hp : p < d.ports.length := by
      rw [Dev.waitCell] at haway
      exact Nat.lt_of_not_le fun hle => Bool.false_ne_true (haway.symm.trans (Nat.ble_eq.mpr hle))
    by_cases hmay : d.mayPrime p = true
    · exact (Dev.port_primePort hmay hp).trans (if_pos ⟨hst, hmay⟩).symm
    · rw [Dev.primePort_of_not (Bool.not_eq_true _ ▸ hmay)]
      exact (if_neg fun h => hmay h.2).symm
  · rw [Dev.primeWaiting, if_neg hst]
    exact ⟨fun _ _ => rfl, fun _ => (if_neg fun h => hst h.1).symm⟩

/-- The ports of a group. -/
def groupPorts (g : Nat) : List Nat := (List.range 24).map (24 * g + ·)

/-- The end of a relock. -/
def Dev.pllLocked (d : Dev) (g : Nat) : Dev := { d with groups := setAt d.groups g (fun x => { x with relockAt := none }) }

theorem gives_groupPllRelock (g : Group) (s : State) : Gives (.groupPllRelock g) s
    (if (s.dev.groups.getD g.val {}).relockAt.isSome then (groupPorts g.val).foldl Dev.primeWaiting (s.dev.pllLocked g.val) else s.dev) := by
  rw [groupPorts, List.foldl_map]
  rfl

theorem Dev.groups_primeWaiting (d : Dev) (p : Nat) : (d.primeWaiting p).groups = d.groups := by
  rw [Dev.primeWaiting]
  split
  · exact (Prod.mk.inj (Dev.primePort_only d p).rest).1
  · rfl

/-- Without a group there is no relock. -/
theorem Dev.group_of_relock {d : Dev} {g : Nat} (h : (d.groups.getD g {}).relockAt ≠ none) : g < d.groups.length := by
  refine Nat.lt_of_not_le fun hle => h ?_
  rw [List.getD_eq_getElem?_getD, List.getElem?_eq_none hle]
  rfl

theorem mem_groupPorts {g p : Nat} : p ∈ groupPorts g ↔ p / 24 = g := by
  rw [groupPorts, List.mem_map]
  refine ⟨?_, fun h => ⟨p % 24, List.mem_range.mpr (Nat.mod_lt _ (by decide)), by omega⟩⟩
  rintro ⟨k, hk, rfl⟩
  have hk24 := List.mem_range.mp hk
  omega

/-- The ports of a group that wait begin priming, and no other does. -/
theorem Dev.primeWaiting_group {d : Dev} {g : Nat} (hg : g < 8) (hlen : 192 ≤ d.ports.length) (p : Nat) :
    ((groupPorts g).foldl Dev.primeWaiting d).port p = if p / 24 = g then (d.waitCell p).primed else d.port p := by
  have hnd : ((groupPorts g).map id).Nodup := by
    rw [List.map_id]
    exact List.nodup_range.map fun a b h => Nat.add_left_cancel h
  have hok : ∀ x ∈ groupPorts g, (d.waitCell (id x)).away = false := by
    intro x hx
    have hgroup := mem_groupPorts.mp hx
    refine Bool.eq_false_iff.mpr fun hle => ?_
    have hle' : d.ports.length ≤ x := Nat.ble_eq.mp hle
    omega
  have hstep : ∀ (d : Dev) (x : Nat), (d.waitCell (id x)).away = false → (∀ k, k ≠ id x → (d.primeWaiting x).waitCell k = d.waitCell k) ∧
      ((d.primeWaiting x).waitCell (id x)).port = (d.waitCell (id x)).primed :=
    fun d x hx => ⟨(d.primeWaiting_cells x).1, (d.primeWaiting_cells x).2 hx⟩
  by_cases hin : p / 24 = g
  · rw [if_pos hin]
    have hport : (((groupPorts g).foldl Dev.primeWaiting d).waitCell (id p)).port = (d.waitCell (id p)).primed :=
      foldl_cells (cell := Dev.waitCell) (key := id) (g := Dev.primeWaiting) (P := fun _ (c c' : WaitCell) => c'.port = c.primed)
        (Ok := fun _ (c : WaitCell) => c.away = false) hstep hnd hok p (mem_groupPorts.mpr hin)
    rwa [id_eq, Dev.port_waitCell] at hport
  · have hnot : p ∉ (groupPorts g).map id := by
      rw [List.map_id, mem_groupPorts]
      exact hin
    rw [if_neg hin]
    have hcell : ((groupPorts g).foldl Dev.primeWaiting d).waitCell p = d.waitCell p :=
      foldl_cell_other (cell := Dev.waitCell) (key := id) (g := Dev.primeWaiting) (P := fun _ (c c' : WaitCell) => c'.port = c.primed)
        (Ok := fun _ (c : WaitCell) => c.away = false) hstep hnd hok hnot
    have hport := congrArg WaitCell.port hcell
    rwa [Dev.port_waitCell, Dev.port_waitCell] at hport

theorem Dev.waitCell_pllLocked {d : Dev} {p g : Nat} (hin : p / 24 = g) (h : (d.groups.getD g {}).relockAt ≠ none) :
    (d.pllLocked g).waitCell p = ⟨d.port p, d.flag F.HLK_CTRL_ENABLE p && !d.fenced (.port p), d.raw, d.ports.length.ble p⟩ := by
  have hmay : (d.pllLocked g).mayPrime p = (d.flag F.HLK_CTRL_ENABLE p && !d.fenced (.port p)) := by
    rw [Dev.mayPrime, groupOf, hin, Dev.pllLocked, getD_setAt, if_pos ⟨rfl, Dev.group_of_relock h⟩]
    exact Bool.and_true _
  rw [Dev.waitCell, hmay]
  rfl

theorem groupPllRelock_locks (g : Group) (s : State) (hlen : 192 ≤ s.dev.ports.length) (hlock : (s.dev.groups.getD g.val {}).relockAt ≠ none) :
    Completes (.groupPllRelock g) s (fun d => (d.groups.getD g.val {}) = { (s.dev.groups.getD g.val {}) with relockAt := none } ∧
      ∀ p < 192, (p / 24 = g.val → (s.dev.port p).st = .disabled → s.dev.get F.HLK_CTRL_ENABLE p ≠ 0 → s.dev.fenced (.port p) = false →
          (d.port p).st = .priming ∧ (d.port p).since = s.dev.raw) ∧
        (p / 24 ≠ g.val ∨ (s.dev.port p).st ≠ .disabled ∨ s.dev.get F.HLK_CTRL_ENABLE p = 0 ∨ s.dev.fenced (.port p) = true → d.port p = s.dev.port p)) := by
  refine ⟨_, (gives_groupPllRelock g s).congr (if_pos (Option.isSome_iff_ne_none.mpr hlock)), ?_, fun p _ => ?_⟩
  · rw [foldl_keeps Dev.groups _ (fun d p => d.groups_primeWaiting p), Dev.pllLocked, getD_setAt, if_pos ⟨rfl, Dev.group_of_relock hlock⟩]
  · rw [Dev.primeWaiting_group (d := s.dev.pllLocked g.val) g.isLt hlen]
    by_cases hin : p / 24 = g.val
    · rw [if_pos hin, Dev.waitCell_pllLocked hin hlock]
      refine ⟨fun _ hst hen hfence => ?_, fun hnot => if_neg ?_⟩
      · have hmay : (s.dev.flag F.HLK_CTRL_ENABLE p && !s.dev.fenced (.port p)) = true := by
          rw [hfence, (Dev.flag_eq_true ..).mpr hen]
          rfl
        rw [WaitCell.primed, if_pos ⟨hst, hmay⟩]
        exact ⟨rfl, rfl⟩
      · rintro ⟨hst, hmay⟩
        simp only [Bool.and_eq_true, Bool.not_eq_true', Dev.flag_eq_true] at hmay
        obtain ⟨hen, hfence⟩ := hmay
        obtain h | h | h | h := hnot
        · exact h hin
        · exact h hst
        · exact hen h
        · exact Bool.false_ne_true (hfence.symm.trans h)
    · rw [if_neg hin]
      exact ⟨fun h => absurd h hin, fun _ => rfl⟩

end Sys2Proof.Machine
end


section
/-! PROOF. Markers, priming and the wait for HELLO (R242, R248, R249, R256). -/

namespace Sys2Proof.Machine

/-! ### Markers -/

/-- A marker goes out with the next number. -/
theorem Dev.markerOut_shows {d : Dev} {p : Nat} (hp : p < d.ports.length) :
    ((d.markerOut p).port p).mFwd = ((d.port p).mFwd + 1) % 64 ∧ ((d.markerOut p).port p).st = (d.port p).st ∧
      Output.marker p (((d.port p).mFwd + 1) % 64) ∈ (d.markerOut p).outbox := by
  obtain ⟨n, hn⟩ : ∃ n, n = ((d.port p).mFwd + 1) % 64 := ⟨_, rfl⟩
  obtain ⟨e, he⟩ : ∃ e, e = d.modPort p (fun q => { q with mFwd := (q.mFwd + 1) % 64 }) := ⟨_, rfl⟩
  have hport : e.port p = { d.port p with mFwd := n } := by rw [he, hn]; exact Dev.port_modPort_self hp _
  obtain ⟨x, hx⟩ : ∃ x, x = (e.port p).tx.marker (e.port p).mFwd := ⟨_, rfl⟩
  have hkeep : e.PortOnly HlkPort.offTx p (e.modTx p (fun _ => x.2)) := (Dev.onTx p e).modTx _ (by rw [hx]; exact LaneTx.mode_marker ..) (.refl ..)
  obtain ⟨y, hy⟩ : ∃ y, y = (e.modTx p (fun _ => x.2)).emit (.marker p (e.port p).mFwd) := ⟨_, rfl⟩
  have hout : d.markerOut p = (y.lineOut p x.1).sendTime p := by rw [hy, hx, he]; rfl
  have hrest : y.PortOnly HlkPort.offTx p (d.markerOut p) := by
    rw [hout]
    exact (Dev.onTx p y).sendTime ((Dev.onTx p y).lineOut (.refl ..) _)
  have hall : e.PortOnly HlkPort.offTx p (d.markerOut p) := (hy ▸ hkeep.emit _).trans hrest
  have hmark : Output.marker p n ∈ y.outbox := by
    have hnum : (e.port p).mFwd = n := congrArg HlkPort.mFwd hport
    rw [hy, hnum]
    exact List.mem_append_right _ (List.mem_singleton.mpr rfl)
  have hfwd := hall.view HlkPort.mFwd fun _ => rfl
  have hst := hall.view HlkPort.st fun _ => rfl
  rw [hport] at hfwd hst
  rw [← hn]
  exact ⟨hfwd, hst, hrest.sent _ hmark⟩

/-- What is left of a marker period goes out before its marker. -/
theorem Dev.markerPoint_eq (d : Dev) (p : Nat) : ∃ e, d.PortOnly HlkPort.offTx p e ∧ d.markerPoint p = e.markerOut p := by
  obtain ⟨y, hy⟩ : ∃ y, y = (d.laneTick p).putFrame p ((d.laneTick p).port p).tx.cur.length := ⟨_, rfl⟩
  obtain ⟨e, he⟩ : ∃ e, e = if (y.port p).tx.cur.isEmpty then (y.putIdle p (1024 - (y.port p).tx.words)).modTx p (fun t => { t with endAt := Nat.min t.endAt y.now }) else y :=
    ⟨_, rfl⟩
  have hput : d.PortOnly HlkPort.offTx p y := hy ▸ (Dev.onTx p d).putFrame ((Dev.onTx p d).laneTick (.refl ..)) _
  have hpoint : d.markerPoint p = e.markerOut p := by
    rw [he, hy, Dev.markerPoint]
  refine ⟨e, ?_, hpoint⟩
  rw [he]
  split
  · exact (Dev.onTx p d).modTx _ rfl ((Dev.onTx p d).putIdle hput _)
  · exact hput

theorem gives_markerSend (p : Port) (s : State) :
    Gives (.markerSend p) s (if (s.dev.port p.val).onLane then (s.dev.markerPoint p.val).memKick p.val else s.dev) := rfl

theorem markerSend_on {p : Port} {s : State} (hp : p.val < s.dev.ports.length) (hon : (s.dev.port p.val).tx.mode = .on) :
    Completes (.markerSend p) s (fun d => (d.port p.val).mFwd = ((s.dev.port p.val).mFwd + 1) % 64 ∧ (d.port p.val).st = (s.dev.port p.val).st ∧
      Output.marker p.val (((s.dev.port p.val).mFwd + 1) % 64) ∈ d.outbox) := by
  obtain ⟨e, hkeep, he⟩ := s.dev.markerPoint_eq p.val
  have hnum := hkeep.view HlkPort.mFwd fun _ => rfl
  have hstate := hkeep.view HlkPort.st fun _ => rfl
  obtain ⟨hfwd, hst, hsent⟩ := Dev.markerOut_shows (hkeep.length ▸ hp : p.val < e.ports.length)
  have hkick : (e.markerOut p.val).PortOnly HlkPort.offMem p.val ((e.markerOut p.val).memKick p.val) := (Dev.onMem ..).memKick (.refl ..)
  have hfwd' := hkick.view HlkPort.mFwd fun _ => rfl
  have hst' := hkick.view HlkPort.st fun _ => rfl
  have hgives : Gives (.markerSend p) s ((e.markerOut p.val).memKick p.val) := by
    rw [← he]
    exact (gives_markerSend p s).congr (if_pos (decide_eq_true hon))
  rw [hnum] at hfwd hsent
  exact ⟨_, hgives, hfwd'.trans hfwd, hst'.trans (hst.trans hstate), hkick.sent _ hsent⟩

theorem markerSend_off {p : Port} {s : State} (hoff : (s.dev.port p.val).tx.mode ≠ .on) : Gives (.markerSend p) s s.dev :=
  (gives_markerSend p s).congr (if_neg fun h => hoff (of_decide_eq_true h))

/-! ### The end of priming -/

/-- A port whose lane is on. -/
noncomputable def HlkPort.laneOn (q : HlkPort) : HlkPort := { q with mFwd := 0, tx := { mode := .on, waits := q.tx.waits } }

theorem Dev.laneReady_only (d : Dev) (p : Nat) : (d.modPort p HlkPort.laneOn).PortOnly HlkPort.offTx p (d.laneReady p) := by
  obtain ⟨e, he⟩ : ∃ e, e = d.modPort p HlkPort.laneOn := ⟨_, rfl⟩
  obtain ⟨x, hx⟩ : ∃ x, x = (e.port p).tx.marker 0 := ⟨_, rfl⟩
  have hready : d.laneReady p = ((e.modTx p (fun _ => x.2)).lineOut p x.1).sendTime p := by rw [hx, he]; rfl
  have hmode : x.2.mode = (e.port p).tx.mode := by rw [hx]; exact LaneTx.mode_marker ..
  have h := Dev.onTx p e
  rw [← he, hready]
  exact h.sendTime (h.lineOut (h.modTx _ hmode (.refl ..)) _)

/-- A lane is on, and its other ports are as before. -/
theorem Dev.laneReady_shows {d : Dev} {p : Nat} (hp : p < d.ports.length) :
    ((d.laneReady p).port p).tx.mode = .on ∧ ((d.laneReady p).port p).mFwd = 0 ∧ ((d.laneReady p).port p).st = (d.port p).st ∧
      ((d.laneReady p).port p).seq = (d.port p).seq ∧ (d.laneReady p).ports.length = d.ports.length ∧ ∀ k, k ≠ p → (d.laneReady p).port k = d.port k := by
  have h := d.laneReady_only p
  have hmode := h.view (fun q => q.tx.mode) fun _ => rfl
  have hfwd := h.view HlkPort.mFwd fun _ => rfl
  have hst := h.view HlkPort.st fun _ => rfl
  have hseq := h.view HlkPort.seq fun _ => rfl
  rw [Dev.port_modPort_self hp] at hmode hfwd hst hseq
  exact ⟨hmode, hfwd, hst, hseq, h.length.trans (Dev.length_modPort ..), fun k hk => (h.other k hk).trans (Dev.port_modPort_ne d hk _)⟩

theorem gives_primingDone (p : Port) (s : State) : Gives (.primingDone p) s
    (if (s.dev.port p.val).st = .priming then
      (s.dev.laneReady p.val).modPort p.val (fun q => { q with st := .aligning, since := s.dev.raw, retryAt := none })
    else if (s.dev.port p.val).tx.mode = .priming then
      if (s.dev.port p.val).st = .idle then ((s.dev.laneReady p.val).modPort p.val (fun q => { q with st := .up })).memKick p.val else s.dev.laneReady p.val
    else s.dev) := rfl

section
variable {p : Port} {s : State} (hp : p.val < s.dev.ports.length)
include hp

theorem primingDone_aligns (hst : (s.dev.port p.val).st = .priming) : Completes (.primingDone p) s (fun d => (d.port p.val).st = .aligning ∧
    (d.port p.val).since = s.dev.raw ∧ (d.port p.val).retryAt = none ∧ (d.port p.val).tx.mode = .on ∧ (d.port p.val).mFwd = 0 ∧ ∀ k, k ≠ p.val → d.port k = s.dev.port k) := by
  obtain ⟨hmode, hfwd, -, -, hlen, hother⟩ := Dev.laneReady_shows hp
  refine ⟨_, (gives_primingDone p s).congr (if_pos hst), ?_⟩
  beta_reduce
  rw [Dev.port_modPort_self (hlen ▸ hp)]
  exact ⟨rfl, rfl, rfl, hmode, hfwd, fun k hk => (Dev.port_modPort_ne _ hk _).trans (hother k hk)⟩

theorem primingDone_wakes (hst : (s.dev.port p.val).st ≠ .priming) (hprime : (s.dev.port p.val).tx.mode = .priming) :
    Completes (.primingDone p) s (fun d => (d.port p.val).st = (if (s.dev.port p.val).st = .idle then .up else (s.dev.port p.val).st) ∧
      (d.port p.val).seq = (s.dev.port p.val).seq ∧ (d.port p.val).tx.mode = .on ∧ (d.port p.val).mFwd = 0 ∧ ∀ k, k ≠ p.val → d.port k = s.dev.port k) := by
  obtain ⟨hmode, hfwd, hstate, hseq, hlen, hother⟩ := Dev.laneReady_shows hp
  refine ⟨_, (gives_primingDone p s).congr ((if_neg hst).trans (if_pos hprime)), ?_⟩
  by_cases hidle : (s.dev.port p.val).st = .idle
  · rw [if_pos hidle, if_pos hidle]
    obtain ⟨e, he⟩ : ∃ e, e = (s.dev.laneReady p.val).modPort p.val (fun q => { q with st := .up }) := ⟨_, rfl⟩
    have hport : e.port p.val = { (s.dev.laneReady p.val).port p.val with st := .up } := by rw [he]; exact Dev.port_modPort_self (hlen ▸ hp) _
    have hne (k : Nat) (hk : k ≠ p.val) : e.port k = s.dev.port k := by rw [he]; exact (Dev.port_modPort_ne _ hk _).trans (hother k hk)
    have hkick : e.PortOnly HlkPort.offMem p.val (e.memKick p.val) := (Dev.onMem ..).memKick (.refl ..)
    have hst' := hkick.view HlkPort.st fun _ => rfl
    have hseq' := hkick.view HlkPort.seq fun _ => rfl
    have hmode' := hkick.view (fun q => q.tx.mode) fun _ => rfl
    have hfwd' := hkick.view HlkPort.mFwd fun _ => rfl
    rw [hport] at hst' hseq' hmode' hfwd'
    rw [← he]
    exact ⟨hst', hseq'.trans hseq, hmode'.trans hmode, hfwd'.trans hfwd, fun k hk => (hkick.other k hk).trans (hne k hk)⟩
  · rw [if_neg hidle, if_neg hidle]
    exact ⟨hstate, hseq, hmode, hfwd, hother⟩

end

theorem primingDone_stays {p : Port} {s : State} (hst : (s.dev.port p.val).st ≠ .priming) (hprime : (s.dev.port p.val).tx.mode ≠ .priming) :
    Gives (.primingDone p) s s.dev := (gives_primingDone p s).congr ((if_neg hst).trans (if_neg hprime))

/-! ### The next priming -/

/-- What PRIMING_RETRY makes of the device. -/
def Dev.primingRetry (d : Dev) (p : Nat) : Dev :=
  match (d.port p).st, (d.port p).retryAt with
  | .aligning, some t => if t ≤ d.raw then d.primePort p else d
  | _, _ => d

theorem gives_primingRetry (p : Port) (s : State) : Gives (.primingRetry p) s (s.dev.primingRetry p.val) := rfl

theorem Dev.primingRetry_none {d : Dev} {p : Nat} (h : (d.port p).st ≠ .aligning ∨ (d.port p).retryAt = none) : d.primingRetry p = d := by
  unfold Dev.primingRetry
  split
  · next t hst hat =>
    obtain h | h := h
    · exact absurd hst h
    · exact absurd (hat.symm.trans h) (by simp)
  · rfl

theorem Dev.primingRetry_some {d : Dev} {p t : Nat} (hst : (d.port p).st = .aligning) (hat : (d.port p).retryAt = some t) :
    d.primingRetry p = if t ≤ d.raw then d.primePort p else d := by
  unfold Dev.primingRetry
  rw [hst, hat]

theorem primingRetry_waits {p : Port} {s : State} {t : Nat} (hst : (s.dev.port p.val).st = .aligning) (hat : (s.dev.port p.val).retryAt = some t)
    (h : s.dev.raw < t ∨ s.dev.mayPrime p.val = false) : Gives (.primingRetry p) s s.dev := by
  refine (gives_primingRetry p s).congr ?_
  rw [Dev.primingRetry_some hst hat]
  obtain h | h := h
  · exact if_neg (Nat.not_le.mpr h)
  · rw [Dev.primePort_of_not h]
    exact ite_self _

theorem primingRetry_primes {p : Port} {s : State} {t : Nat} (hp : p.val < s.dev.ports.length) (hst : (s.dev.port p.val).st = .aligning)
    (hat : (s.dev.port p.val).retryAt = some t) (hdue : t ≤ s.dev.raw) (hmay : s.dev.mayPrime p.val = true) :
    Completes (.primingRetry p) s (fun d => (d.port p.val).st = .priming ∧ (d.port p.val).retryAt = none ∧ (d.port p.val).tx.mode = .priming) := by
  refine ⟨_, (gives_primingRetry p s).congr ((Dev.primingRetry_some hst hat).trans (if_pos hdue)), ?_⟩
  beta_reduce
  rw [Dev.port_primePort hmay hp]
  exact ⟨rfl, rfl, rfl⟩

/-! ### The wait for HELLO -/

theorem gives_helloTimeout (p : Port) (s : State) : Gives (.helloTimeout p) s
    (if (s.dev.port p.val).st = .aligning && (s.dev.port p.val).retryAt.isNone && (s.dev.port p.val).since + 10000000 ≤ s.dev.raw then
      if (s.dev.port p.val).noHead then s.dev.modPort p.val (fun q => { q with retryAt := some (s.dev.raw + 100000000), noHead := true })
      else (s.dev.modPort p.val (fun q => { q with retryAt := some (s.dev.raw + 100000000), noHead := true })).report 156 p.val
    else s.dev) := rfl

theorem helloTimeout_stays {p : Port} {s : State}
    (h : (s.dev.port p.val).st ≠ .aligning ∨ (s.dev.port p.val).retryAt ≠ none ∨ s.dev.raw < (s.dev.port p.val).since + 10000000) : Gives (.helloTimeout p) s s.dev := by
  refine (gives_helloTimeout p s).congr (if_neg ?_)
  rw [Bool.and_eq_true, Bool.and_eq_true, decide_eq_true_eq, decide_eq_true_eq, Option.isNone_iff_eq_none]
  rintro ⟨⟨hst, hat⟩, hdue⟩
  obtain h | h | h := h
  · exact h hst
  · exact h hat
  · exact Nat.not_le.mpr h hdue

theorem helloTimeout_ends {p : Port} {s : State} (hst : (s.dev.port p.val).st = .aligning) (hat : (s.dev.port p.val).retryAt = none)
    (hdue : (s.dev.port p.val).since + 10000000 ≤ s.dev.raw) {e : Dev}
    (he : e = s.dev.modPort p.val (fun q => { q with retryAt := some (s.dev.raw + 100000000), noHead := true })) :
    Gives (.helloTimeout p) s (if (s.dev.port p.val).noHead then e else e.report 156 p.val) := by
  rw [he]
  refine (gives_helloTimeout p s).congr (if_pos ?_)
  rw [hst, hat, decide_eq_true hdue]
  rfl

end Sys2Proof.Machine
end


section
/-! PROOF. Ports that leave their state, and what a report leaves of a port (R254, R256, R398, R406). -/

namespace Sys2Proof.Machine

/-- The ports are no part of what records, interrupts, cameras, channels and the collector hold. -/
theorem unfenced_ports : Unfenced (fun d : Dev => d.ports) where
  regs _ _ := rfl
  msix _ _ := rfl
  emit _ _ _ := rfl
  jobs _ _ := rfl
  jobQ _ _ _ := rfl
  vin _ _ _ := rfl
  stop _ _ := rfl
  cam _ _ := rfl
  isp _ _ := rfl
  ddr _ _ := rfl
  flt _ _ := rfl

/-! ### One port that differs -/

/-- A device that differs in one port alone, of which a view is as before; the rest of the device is left open. -/
structure Dev.OnePort {γ : Type} (off : HlkPort → γ) (p : Nat) (d e : Dev) : Prop where
  other : ∀ k, k ≠ p → e.port k = d.port k
  own : off (e.port p) = off (d.port p)
  length : e.ports.length = d.ports.length

namespace Dev.OnePort

variable {γ : Type} {off : HlkPort → γ} {p : Nat} {d e : Dev}

theorem of_ports (off : HlkPort → γ) (p : Nat) (h : e.ports = d.ports) : d.OnePort off p e := by
  have hport (k : Nat) : e.port k = d.port k := by rw [Dev.port, h]; rfl
  exact ⟨fun k _ => hport k, congrArg off (hport p), congrArg List.length h⟩

theorem refl (off : HlkPort → γ) (p : Nat) (d : Dev) : d.OnePort off p d := of_ports off p rfl

theorem trans {f : Dev} (h : d.OnePort off p e) (h' : e.OnePort off p f) : d.OnePort off p f :=
  ⟨fun k hk => (h'.other k hk).trans (h.other k hk), h'.own.trans h.own, h'.length.trans h.length⟩

theorem coarser {δ : Type} (g : γ → δ) (h : d.OnePort off p e) : d.OnePort (fun q => g (off q)) p e := ⟨h.other, congrArg g h.own, h.length⟩

theorem emit (h : d.OnePort off p e) (o : Output) : d.OnePort off p (e.emit o) := ⟨h.other, h.own, h.length⟩

theorem modPort (h : d.OnePort off p e) {f : HlkPort → HlkPort} (hf : off (f (e.port p)) = off (e.port p)) : d.OnePort off p (e.modPort p f) := by
  refine ⟨fun k hk => (Dev.port_modPort_ne e hk f).trans (h.other k hk), ?_, (Dev.length_modPort ..).trans h.length⟩
  rw [Dev.port_modPort]
  split
  · exact hf.trans h.own
  · exact h.own

/-- What is the same in the views of the port is as before. -/
theorem view {α : Type} {off : HlkPort → HlkPort} (h : d.OnePort off p e) (g : HlkPort → α) (hg : ∀ q, g (off q) = g q) : g (e.port p) = g (d.port p) :=
  (hg _).symm.trans ((congrArg g h.own).trans (hg _))

end Dev.OnePort

theorem Dev.PortOnly.onePort {γ : Type} {off : HlkPort → γ} {p : Nat} {d e : Dev} (h : d.PortOnly off p e) : d.OnePort off p e := ⟨h.other, h.own, h.length⟩

theorem Dev.oneLane (p : Nat) (d : Dev) : OnLane (d.OnePort HlkPort.offLane p) p where
  emit o _ h := h.emit o
  port _ hf h := h.modPort (hf _)

/-! ### Inhibits and ports that leave -/

/-- A port but for its lane and its records. -/
noncomputable def HlkPort.offRecs (q : HlkPort) : HlkPort := { q with tx := {}, mFwd := 0, linkOut := 0, recs := [] }

theorem Dev.OnePort.offRecs {p : Nat} {d e : Dev} (h : d.OnePort HlkPort.offLane p e) : d.OnePort HlkPort.offRecs p e :=
  ⟨h.other, congrArg (fun q : HlkPort => { q with recs := [] }) h.own, h.length⟩

theorem Dev.inhibitPort_one (d : Dev) (p r : Nat) : d.OnePort HlkPort.offRecs p (d.inhibitPort p r) := by
  obtain ⟨x, hx⟩ : ∃ x, x = (d.laneAbort p).laneSend p 4 [r] := ⟨_, rfl⟩
  have hsent : d.OnePort HlkPort.offRecs p x := hx ▸ ((d.oneLane p).laneSend ((d.oneLane p).laneAbort (.refl ..)) 4 [r]).offRecs
  obtain ⟨y, hy⟩ : ∃ y, y = ((x.port p).recs.filter (fun r => !r.tickle)).foldl (fun d r => match r.job with | some i => d.addRange i r.bar 1 r.line | none => d) x := ⟨_, rfl⟩
  have hranges : y.ports = x.ports := by
    rw [hy]
    refine foldl_keeps (fun d : Dev => d.ports) _ (fun e z => ?_) _ _
    split
    · exact unfenced_ports.addRange ..
    · rfl
  have heq : d.inhibitPort p r = y.modPort p (fun q => { q with recs := (q.recs.filter (fun r => 0 < r.sent)).map (fun r => { r with acked := true }) }) := by rw [hy, hx]; rfl
  rw [heq]
  exact (hsent.trans (.of_ports _ _ hranges)).modPort rfl

/-- A port in a state that it has just entered, with nothing left of its exchanges. -/
noncomputable def HlkPort.left (q : HlkPort) (next : LinkState) (now : Nat) : HlkPort :=
  { q with st := next, since := now, authOk := false, session := none, stage := 0, recs := [], retryAt := none, memNow := none, memQ := [], calOut := none, calGot := [], calOn := false, gainSet := false, pair := false, seq := 0 }

theorem HlkPort.left_offRecs (q : HlkPort) (next : LinkState) (now : Nat) : (q.left next now).offLane = (q.offRecs.left next now).offLane := rfl

/-- What happens before a port takes its next state. -/
theorem Dev.leavePort_eq (d : Dev) (p r : Nat) (next : LinkState) (say : Bool) :
    ∃ (e : Dev) (f : LaneTx → LaneTx), d.OnePort HlkPort.offRecs p e ∧ e.raw = d.raw ∧ d.leavePort p r next say = (e.modPort p (fun q => q.left next e.raw)).modTx p f := by
  obtain ⟨x, hx⟩ : ∃ x, x = if say then d.inhibitPort p r else d := ⟨_, rfl⟩
  have hsaid : d.OnePort HlkPort.offRecs p x ∧ x.fixed = d.fixed := by
    rw [hx]
    split
    · exact ⟨d.inhibitPort_one p r, Dev.fixed_inhibitPort ..⟩
    · exact ⟨.refl .., rfl⟩
  have hdone : d.OnePort HlkPort.offRecs p (x.memDone p 6) ∧ (x.memDone p 6).fixed = d.fixed :=
    ⟨hsaid.1.trans (.of_ports _ _ ((unfenced_ports.irq ..).trans (unfenced_ports.set ..))), (Dev.fixed_memDone ..).trans hsaid.2⟩
  simp only [Dev.leavePort, ← hx]
  split
  · exact ⟨_, _, hdone.1, Dev.raw_of_fixed hdone.2, rfl⟩
  · exact ⟨_, _, hsaid.1, Dev.raw_of_fixed hsaid.2, rfl⟩

theorem Dev.leavePort_other (d : Dev) (p r : Nat) (next : LinkState) (say : Bool) : d.OnePort (fun _ => ()) p (d.leavePort p r next say) := by
  obtain ⟨e, f, hone, -, heq⟩ := d.leavePort_eq p r next say
  rw [heq]
  exact ((hone.coarser fun _ => ()).modPort rfl).modPort rfl

theorem Dev.port_leavePort {d : Dev} {p : Nat} (hp : p < d.ports.length) (r : Nat) (next : LinkState) (say : Bool) :
    ((d.leavePort p r next say).port p).offLane = ((d.port p).left next d.raw).offLane := by
  obtain ⟨e, f, hone, hraw, heq⟩ := d.leavePort_eq p r next say
  have hpe : p < e.ports.length := hone.length ▸ hp
  have hown : ((e.port p).left next d.raw).offLane = ((d.port p).left next d.raw).offLane := by rw [HlkPort.left_offRecs, hone.own, ← HlkPort.left_offRecs]
  rw [heq, Dev.modTx, Dev.port_modPort_self (by rwa [Dev.length_modPort]), Dev.port_modPort_self hpe, hraw]
  exact hown

/-- A port that a reaction or a write has taken down. -/
structure HlkPort.Fallen (q : HlkPort) : Prop where
  st : q.st = .disabled
  authOk : q.authOk = false
  session : q.session = none
  stage : q.stage = 0
  cal : q.calOut = none ∧ q.calOn = false

theorem HlkPort.fallen_iff_of {q r : HlkPort} (h : q.offRecs = r.offRecs) : q.Fallen ↔ r.Fallen := by
  have hview (x : HlkPort) : x.Fallen ↔ x.offRecs.Fallen := ⟨fun ⟨a, b, c, e, f⟩ => ⟨a, b, c, e, f⟩, fun ⟨a, b, c, e, f⟩ => ⟨a, b, c, e, f⟩⟩
  rw [hview q, hview r, h]

/-- A port that has left goes dark. -/
theorem Dev.disablePort_eq {d : Dev} {p : Nat} (hst : (d.port p).st ≠ .disabled) (last : List (Nat × List Nat)) :
    ∃ e, ((d.wakeLane p).leavePort p 2 .disabled true).OnePort HlkPort.offLane p e ∧
      d.disablePort p last = e.modPort p (fun q => { q with bcLock := false, mBack := none, retryAt := none, rx := {} }) := by
  refine ⟨_, ?_, if_neg hst⟩
  obtain ⟨x, hx⟩ : ∃ x, x = (d.wakeLane p).leavePort p 2 .disabled true := ⟨_, rfl⟩
  rw [← hx]
  have hlane := Dev.oneLane p x
  refine hlane.laneOff (hlane.laneDrain ?_)
  exact List.foldlRecOn _ _ (Dev.OnePort.refl ..) fun _ hd _ _ => hlane.laneSend hd _ _

theorem Dev.disablePort_other (d : Dev) (p : Nat) (last : List (Nat × List Nat)) : d.OnePort (fun _ => ()) p (d.disablePort p last) := by
  by_cases hst : (d.port p).st = .disabled
  · rw [Dev.disablePort, if_pos hst]
    exact .refl ..
  · obtain ⟨e, hone, heq⟩ := Dev.disablePort_eq hst last
    rw [heq]
    have hwake : d.OnePort (fun _ => ()) p (d.wakeLane p) := ((d.oneLane p).wakeLane (.refl ..)).coarser fun _ => ()
    exact ((hwake.trans (Dev.leavePort_other ..)).trans (hone.coarser fun _ => ())).modPort rfl

theorem Dev.disablePort_falls {d : Dev} {p : Nat} (hp : p < d.ports.length) (last : List (Nat × List Nat)) (hst : (d.port p).st ≠ .disabled) :
    ((d.disablePort p last).port p).Fallen := by
  obtain ⟨e, hone, heq⟩ := Dev.disablePort_eq hst last
  have hlen : p < (d.wakeLane p).ports.length := by rw [((d.oneLane p).wakeLane (.refl ..)).length]; exact hp
  have hlen' : p < e.ports.length := by rw [hone.length, (Dev.leavePort_other ..).length]; exact hlen
  have hown := hone.own.trans (Dev.port_leavePort hlen 2 .disabled true)
  have hview {α : Type} (g : HlkPort → α) (hg : ∀ q : HlkPort, g q.offLane = g q) : g (e.port p) = g (((d.wakeLane p).port p).left .disabled (d.wakeLane p).raw) :=
    (hg _).symm.trans ((congrArg g hown).trans (hg _))
  rw [heq, Dev.port_modPort_self hlen']
  exact ⟨hview HlkPort.st fun _ => rfl, hview HlkPort.authOk fun _ => rfl, hview HlkPort.session fun _ => rfl, hview HlkPort.stage fun _ => rfl,
    hview HlkPort.calOut fun _ => rfl, hview HlkPort.calOn fun _ => rfl⟩

/-! ### Reports -/

/-- Each port is as before but for its lane and its records, or it has fallen. -/
structure Dev.PortsFall (d e : Dev) : Prop where
  length : e.ports.length = d.ports.length
  port : ∀ k, (e.port k).offRecs = (d.port k).offRecs ∨ (e.port k).Fallen

namespace Dev.PortsFall

variable {d e : Dev}

theorem trans {f : Dev} (h : d.PortsFall e) (h' : e.PortsFall f) : d.PortsFall f where
  length := h'.length.trans h.length
  port k := by
    obtain hk | hk := h'.port k
    · obtain hk' | hk' := h.port k
      · exact .inl (hk.trans hk')
      · exact .inr ((HlkPort.fallen_iff_of hk).mpr hk')
    · exact .inr hk

theorem of_ports (h : e.ports = d.ports) : d.PortsFall e := ⟨congrArg List.length h, fun k => .inl (by rw [Dev.port, h]; rfl)⟩

theorem of_onePort {p : Nat} (h : d.OnePort HlkPort.offRecs p e) : d.PortsFall e where
  length := h.length
  port k := by
    by_cases hk : k = p
    · exact .inl (hk ▸ h.own)
    · exact .inl (congrArg HlkPort.offRecs (h.other k hk))

theorem disablePort (d : Dev) (p : Nat) (last : List (Nat × List Nat)) : d.PortsFall (d.disablePort p last) := by
  have hone := d.disablePort_other p last
  refine ⟨hone.length, fun k => ?_⟩
  by_cases hk : k = p
  · subst hk
    by_cases hst : (d.port k).st = .disabled
    · exact .inl (by rw [Dev.disablePort, if_pos hst])
    · by_cases hlen : k < d.ports.length
      · exact .inr (Dev.disablePort_falls hlen last hst)
      · have hnone {x : Dev} (hx : x.ports.length = d.ports.length) : x.port k = {} := by
          rw [Dev.port, List.getD_eq_getElem?_getD, List.getElem?_eq_none (by omega)]
          rfl
        exact .inl (by rw [hnone hone.length, hnone rfl])
  · exact .inl (congrArg HlkPort.offRecs (hone.other k hk))

theorem inhibitAll (d : Dev) : d.PortsFall d.inhibitAll := by
  refine List.foldlRecOn (motive := fun e => d.PortsFall e) _ _ (.of_ports rfl) fun e he p _ => ?_
  split
  · exact he.trans (.of_onePort (e.inhibitPort_one p 1))
  · exact he

theorem fenceEffect (d : Dev) (u : FUnit) : d.PortsFall (d.fenceEffect u) := by
  cases u with
  | port p => exact disablePort d p []
  | ddr c => exact .of_ports (unfenced_ports.fenceChannel d c)
  | cam n => exact .of_ports (unfenced_ports.stopCamera d n)
  | isp => exact .of_ports (unfenced_ports.stopIsp d)
  | _ => exact .of_ports rfl

theorem settle (d e : Dev) : e.PortsFall (Dev.settle d e) := by
  have hgate (x : Dev) : x.PortsFall x.lampGate := .of_ports (unfenced_ports.lampGate (fun _ _ => rfl) x)
  have hinhibit : e.PortsFall (if d.gateOpen && !e.gateOpen then e.inhibitAll else e).lampGate := by
    split
    · exact (inhibitAll e).trans (hgate _)
    · exact hgate e
  simp only [Dev.settle]
  split
  · exact hinhibit.trans (.of_ports rfl)
  · exact hinhibit

end Dev.PortsFall

/-- Under a report each port stays as it is but for its lane and its records, or falls. -/
theorem Dev.outlives_portsFall (d : Dev) : Outlives (fun e => d.PortsFall e) where
  flt _ _ h := h.trans (.of_ports rfl)
  overwrites _ h := h.trans (.of_ports rfl)
  lastSrc _ _ h := h.trans (.of_ports rfl)
  irq _ _ h := h.trans (.of_ports (unfenced_ports.fltIrq ..))
  fence _ u h := h.trans (.fenceEffect _ u)
  stop _ _ h := h.trans (.of_ports (unfenced_ports.stopTrigger ..))
  settle x y h := h.trans (.settle x y)

theorem Dev.portsFall_report (d : Dev) (s i : Nat) : d.PortsFall (d.report s i) := d.outlives_portsFall.report (.of_ports rfl) s i

end Sys2Proof.Machine
end


section
/-! PROOF. A port is enabled and disabled (R44, R48, R58, R256; settles O59). -/

namespace Sys2Proof.Machine

/-! ### The word HLK_CTRL -/

theorem Dev.normPage_hlkAddr {p o : Nat} (hp : p < 192) (ho : o < 0x1000) (e : Dev) : e.normPage (hlkAddr p o) = e.normHlk p := by
  have hlo : 0x1000000 ≤ hlkAddr p o := by rw [hlkAddr]; omega
  have hhi : hlkAddr p o < 0x10C0000 := by rw [hlkAddr]; omega
  have hport : (hlkAddr p o - 0x1000000) / 0x1000 = p := by rw [hlkAddr]; omega
  have hlast : (decide (0x1000000 ≤ hlkAddr p o) && decide (hlkAddr p o < 0x10C0000)) = true := (Bool.and_eq_true ..).mpr ⟨decide_eq_true hlo, decide_eq_true hhi⟩
  generalize hlkAddr p o = a at hlo hport hlast
  have hnot (n : Nat) (hn : n ≤ 0x1000000) : ¬ a < n := Nat.not_lt.mpr (Nat.le_trans hn hlo)
  have hpage (m n : Nat) (hn : n ≤ 0x1000000) : ¬ (decide (m ≤ a) && decide (a < n)) = true := fun h => hnot n hn (of_decide_eq_true ((Bool.and_eq_true ..).mp h).2)
  have hctx : ¬ (decide (0x90100 ≤ a) && decide (a < 0x90500) && decide (a % 0x100 = 0)) = true := fun h => hpage _ _ (by decide) ((Bool.and_eq_true ..).mp h).1
  unfold Dev.normPage
  simp (disch := decide) only [if_neg (hpage _ _ _), if_neg hctx, if_pos hlast, hport]

theorem storedAt_ctrl (rq : Requester) (p : Port) : fieldsAt (canonAddr rq (hlkAddr p.val 8)) =
    [(F.HLK_CTRL_REQUIRE_AUTH, p.val, 0, 0), (F.HLK_CTRL_IDLE_EN, p.val, 0, 0), (F.HLK_CTRL_ENABLE, p.val, 0, 0)] := by
  have h0 : fieldsAt (hlkAddr 0 8) = [(F.HLK_CTRL_REQUIRE_AUTH, 0, 0, 0), (F.HLK_CTRL_IDLE_EN, 0, 0, 0), (F.HLK_CTRL_ENABLE, 0, 0, 0)] := by decide +kernel
  rw [canonAddr_hlkAddr rq _ (by decide) (by decide), fieldsAt_hlkAddr p.isLt (by decide), h0]
  rfl

/-- A device after HLK_CTRL's plain fields of a port are stored: its other parts that a port's states rest on are as before. -/
structure Dev.CtrlStored (p auth idle : Nat) (d e : Dev) : Prop where
  rest : (e.ports, e.groups, e.flt, e.raw) = (d.ports, d.groups, d.flt, d.raw)
  enable : e.get F.HLK_CTRL_ENABLE p = d.get F.HLK_CTRL_ENABLE p
  auth : e.get F.HLK_CTRL_REQUIRE_AUTH p = auth
  idle : e.get F.HLK_CTRL_IDLE_EN p = idle

theorem Dev.CtrlStored.trans {p auth idle : Nat} {d e f : Dev} (h : d.CtrlStored p auth idle e) (hrest : (f.ports, f.groups, f.flt, f.raw) = (e.ports, e.groups, e.flt, e.raw))
    (hget : ∀ g ∈ [F.HLK_CTRL_ENABLE, F.HLK_CTRL_REQUIRE_AUTH, F.HLK_CTRL_IDLE_EN], f.get g p = e.get g p) : d.CtrlStored p auth idle f :=
  ⟨hrest.trans h.rest, (hget _ (by simp)).trans h.enable, (hget _ (by simp)).trans h.auth, (hget _ (by simp)).trans h.idle⟩

/-- HLK_CTRL's plain fields take a word, REQUIRE_AUTH with MAKER alone. -/
def Dev.ctrlFields (d : Dev) (p w : Nat) (maker : Bool) : Dev :=
  ((if maker then d.set F.HLK_CTRL_REQUIRE_AUTH (w / 16 % 2) p else d).set F.HLK_CTRL_IDLE_EN (w / 2 % 2) p).normHlk p

theorem Dev.ctrlFields_stored (d : Dev) (p w : Nat) (maker : Bool) :
    d.CtrlStored p (if maker then w / 16 % 2 else d.get F.HLK_CTRL_REQUIRE_AUTH p) (w / 2 % 2) (d.ctrlFields p w maker) := by
  have hnorm (e : Dev) (g : Field) (hg : g.distinct F.HLK_TXEQ_POST = true) : (e.normHlk p).get g p = e.get g p := Dev.get_set_distinct _ hg ..
  cases maker
  · refine ⟨rfl, ?_, ?_, ?_⟩
    · rw [Dev.ctrlFields, hnorm _ _ (by decide), Dev.get_set_distinct _ (by decide)]
      rfl
    · rw [Dev.ctrlFields, hnorm _ _ (by decide), Dev.get_set_distinct _ (by decide)]
      rfl
    · rw [Dev.ctrlFields, hnorm _ _ (by decide), Dev.get_set_self]
      exact Nat.mod_mod _ _
  · refine ⟨rfl, ?_, ?_, ?_⟩
    · rw [Dev.ctrlFields, hnorm _ _ (by decide), Dev.get_set_distinct _ (by decide), if_pos rfl, Dev.get_set_distinct _ (by decide)]
    · rw [Dev.ctrlFields, hnorm _ _ (by decide), Dev.get_set_distinct _ (by decide), if_pos rfl, Dev.get_set_self]
      exact Nat.mod_mod _ _
    · rw [Dev.ctrlFields, hnorm _ _ (by decide), Dev.get_set_self]
      exact Nat.mod_mod _ _

section
variable (d : Dev) (rq : Requester) (p : Port) (w : Nat)

/-- Which of HLK_CTRL's fields a requester may write. -/
theorem Dev.mayField_ctrl : d.mayField rq F.HLK_CTRL_REQUIRE_AUTH p.val w = decide (3 ≤ d.rights rq) ∧ d.mayField rq F.HLK_CTRL_IDLE_EN p.val w = true := by
  rw [Dev.mayField_of (by decide), Dev.mayField_of (by decide)]
  exact ⟨rfl, rfl⟩

theorem Dev.takes_ctrl : d.takes rq w (F.HLK_CTRL_REQUIRE_AUTH, p.val, 0, 0) = decide (3 ≤ d.rights rq) ∧ d.takes rq w (F.HLK_CTRL_IDLE_EN, p.val, 0, 0) = true ∧
    d.takes rq w (F.HLK_CTRL_ENABLE, p.val, 0, 0) = false := by
  obtain ⟨hauth, hidle⟩ := d.mayField_ctrl rq p w
  have hclass : F.HLK_CTRL_REQUIRE_AUTH ≠ F.FLT_SRC_CLASS ∧ F.HLK_CTRL_IDLE_EN ≠ F.FLT_SRC_CLASS := by decide
  have hstores : F.HLK_CTRL_REQUIRE_AUTH.stores = true ∧ F.HLK_CTRL_IDLE_EN.stores = true ∧ F.HLK_CTRL_ENABLE.stores = false := by decide
  simp [Dev.takes, hauth, hidle, hclass, hstores]

theorem Dev.storeWord_ctrl : d.storeWord rq (canonAddr rq (hlkAddr p.val 8)) w = d.ctrlFields p.val w (decide (3 ≤ d.rights rq)) := by
  obtain ⟨hauth, hidle, hen⟩ := d.takes_ctrl rq p w
  have hbit (f : Field) (hw : f.width = 1) (hlo : f.lo ≤ 31) (hc : f.clamp = .none) (old : Nat) : f.clampVal (f.withPart 0 old w) = w / 2 ^ f.lo % 2 := by
    rw [clampVal_of_none hc (by omega), hw, pow_one]
  have hreq (e : Dev) : e.storeField F.HLK_CTRL_REQUIRE_AUTH p.val 0 0 w = e.set F.HLK_CTRL_REQUIRE_AUTH (w / 16 % 2) p.val := by
    rw [Dev.storeField_rw rfl, hbit _ rfl (by decide) rfl]
    rfl
  have hidl (e : Dev) : e.storeField F.HLK_CTRL_IDLE_EN p.val 0 0 w = e.set F.HLK_CTRL_IDLE_EN (w / 2 % 2) p.val := by
    rw [Dev.storeField_rw rfl, hbit _ rfl (by decide) rfl]
    rfl
  have hnorm (e : Dev) : e.normPage (canonAddr rq (hlkAddr p.val 8)) = e.normHlk p.val := by
    rw [canonAddr_hlkAddr rq _ (by decide) (by decide), Dev.normPage_hlkAddr p.isLt (by decide)]
  rw [Dev.storeWord, storedAt_ctrl]
  simp only [List.any_cons, hauth, hidle, hen, Bool.true_or, Bool.or_true, if_true, List.foldl_cons, List.foldl_nil, hreq, hidl, hnorm, Bool.false_eq_true, if_false]
  rfl

end

/-- A write of HLK_CTRL: its plain fields are stored, with one audit entry for MAKER; without it REQUIRE_AUTH is refused. -/
theorem State.write_ctrl {s : State} (hopen : s.PagesOpen) (rq : Requester) (p : Port) (w : Nat) {acts : List Act} (hacts : ∀ x ∈ acts, x.role = none) :
    ∃ e, s.dev.CtrlStored p.val (if s.dev.rights rq < 3 then s.dev.get F.HLK_CTRL_REQUIRE_AUTH p.val else w / 16 % 2) (w / 2 % 2) e ∧
      (s.dev.rights rq < 3 → s.write rq (hlkAddr p.val 8) w acts = { s with dev := e }) ∧
      (¬ s.dev.rights rq < 3 → ∃ old new, s.write rq (hlkAddr p.val 8) w acts = ({ s with dev := e } : State).pushAudit (some rq) (s.dev.entry rq (hlkAddr p.val 8) old new)) := by
  obtain ⟨d, hd⟩ : ∃ d, d = s.dev := ⟨_, rfl⟩
  obtain ⟨hauth, hidle, hen⟩ := d.takes_ctrl rq p w
  obtain ⟨hmauth, hmidle⟩ := d.mayField_ctrl rq p w
  have hstored := d.ctrlFields_stored p.val w (decide (3 ≤ d.rights rq))
  have hpage : inPages (hlkAddr p.val 8) = true := inPages_hlkAddr p.isLt (by decide)
  have hopen' : d.pageOpen (hlkAddr p.val 8) = true := hd ▸ Dev.pageOpen_of hopen.1 hopen.2 _
  have hmay (x : Act) (hx : x ∈ acts) : d.may rq x.role = true := by rw [hacts x hx]; rfl
  have hplain : acts.any (fun x => w.testBit x.bit && auditedRole x.role && d.may rq x.role) = false :=
    List.any_eq_false.mpr fun x hx => by simp [hacts x hx, auditedRole]
  have hfree : acts.any (fun x => w.testBit x.bit && !d.may rq x.role) = false := List.any_eq_false.mpr fun x hx => by simp [hmay x hx]
  have hrole : auditedRole F.HLK_CTRL_REQUIRE_AUTH.role = true ∧ auditedRole F.HLK_CTRL_IDLE_EN.role = false := by decide
  have hmaker : d.may rq F.HLK_CTRL_REQUIRE_AUTH.role = decide (3 ≤ d.rights rq) := rfl
  have hright : d.rightful rq (canonAddr rq (hlkAddr p.val 8)) w acts = decide (3 ≤ d.rights rq) := by
    rw [Dev.rightful, hplain, storedAt_ctrl]
    simp [hauth, hidle, hen, hrole, hmaker]
  have haud : d.audited rq (canonAddr rq (hlkAddr p.val 8)) w acts = decide (3 ≤ d.rights rq) := by
    have hsilent : silentField F.HLK_CTRL_REQUIRE_AUTH = false := by decide
    rw [Dev.audited, hplain, storedAt_ctrl]
    simp [hauth, hidle, hen, hsilent, hrole]
  have hrefuse : d.refuses rq (canonAddr rq (hlkAddr p.val 8)) w acts = !decide (3 ≤ d.rights rq) := by
    have hstores : F.HLK_CTRL_REQUIRE_AUTH.stores = true ∧ F.HLK_CTRL_IDLE_EN.stores = true ∧ F.HLK_CTRL_ENABLE.stores = false := by decide
    rw [Dev.refuses, hfree, storedAt_ctrl]
    simp [hmauth, hmidle, hstores]
  rw [← hd]
  by_cases hr : d.rights rq < 3
  · have hno : decide (3 ≤ d.rights rq) = false := decide_eq_false (by omega)
    rw [hno] at hstored hright haud hrefuse
    refine ⟨(d.ctrlFields p.val w false).deny rq (hlkAddr p.val 8), ?_, fun _ => ?_, fun h => absurd hr h⟩
    · rw [if_pos hr]
      refine hstored.trans rfl fun g hg => ?_
      have hdist : g.distinct F.ROLE_DENY_COUNT = true ∧ g.distinct F.ROLE_DENY_ADDR = true ∧ g.distinct F.SYS_BAD_ACC_COUNT = true := by
        simp only [List.mem_cons, List.not_mem_nil, or_false] at hg
        obtain rfl | rfl | rfl := hg <;> decide
      rw [Dev.deny_counts, Dev.get_set_distinct _ hdist.2.2, Dev.get_set_distinct _ hdist.2.1, Dev.get_set_distinct _ hdist.1]
    · simp [State.write, Dev.writeWord, ← hd, hpage, hopen', Dev.storeWord_ctrl, hno, hright, haud, hrefuse]
  · have hyes : decide (3 ≤ d.rights rq) = true := decide_eq_true (by omega)
    rw [hyes] at hstored hright haud hrefuse
    refine ⟨(d.ctrlFields p.val w true).touch rq, ?_, fun h => absurd h hr, fun _ => ⟨d.word (canonAddr rq (hlkAddr p.val 8)),
      ((d.ctrlFields p.val w true).touch rq).word (canonAddr rq (hlkAddr p.val 8)), ?_⟩⟩
    · rw [if_neg hr]
      refine hstored.trans ?_ fun g _ => Dev.get_touch ..
      obtain ht | ⟨x, ht⟩ := Dev.touch_cases (d.ctrlFields p.val w true) rq
      · rw [ht]
      · rw [ht]
        cases rq <;> rfl
    · simp [State.write, Dev.writeWord, ← hd, hpage, hopen', Dev.storeWord_ctrl, hyes, hright, haud, hrefuse]

/-! ### The rows -/

/-- A row on HLK_CTRL: an audit entry for MAKER alone. -/
def Ends (rq : Requester) (p : Port) (c : Instr) (s : State) (P : Dev → Prop) : Prop :=
  if s.dev.rights rq < 3 then Completes c s P else CompletesAudited c s rq (0x1000008 + 0x1000 * p.val) P

theorem Ends.mono {rq : Requester} {p : Port} {c : Instr} {s : State} {P Q : Dev → Prop} (hP : Ends rq p c s P) (h : ∀ d, P d → Q d) : Ends rq p c s Q := by
  rw [Ends] at hP ⊢
  split at hP
  · next hr =>
    obtain ⟨e, he, hPe⟩ := hP
    rw [if_pos hr]
    exact ⟨e, he, h e hPe⟩
  · next hr =>
    obtain ⟨e, old, new, he, hPe⟩ := hP
    rw [if_neg hr]
    exact ⟨e, old, new, he, h e hPe⟩

/-- What a row on HLK_CTRL does beside the store of its plain fields. -/
theorem ends_of {s : State} (hopen : s.PagesOpen) {rq : Requester} {p : Port} {w : Nat} {acts : List Act} (hacts : ∀ x ∈ acts, x.role = none) {c : Instr} {f : Dev → Dev}
    (hc : exec c s = .next ((s.write rq (hlkAddr p.val 8) w acts).onDev f)) {P : Dev → Prop}
    (hP : ∀ e, s.dev.CtrlStored p.val (if s.dev.rights rq < 3 then s.dev.get F.HLK_CTRL_REQUIRE_AUTH p.val else w / 16 % 2) (w / 2 % 2) e → P (f e)) : Ends rq p c s P := by
  obtain ⟨e, hstored, hplain, haud⟩ := State.write_ctrl hopen rq p w hacts
  have haddr : hlkAddr p.val 8 = 0x1000008 + 0x1000 * p.val := by rw [hlkAddr]; omega
  rw [Ends]
  split
  · next hr =>
    rw [hplain hr] at hc
    exact ⟨f e, hc, hP e hstored⟩
  · next hr =>
    obtain ⟨old, new, hw⟩ := haud hr
    rw [hw] at hc
    exact ⟨f e, old, new, haddr ▸ hc, hP e hstored⟩

/-- ENABLE goes to 1 (R256). -/
def Dev.enablePort (d : Dev) (p : Nat) : Dev :=
  if d.flag F.HLK_CTRL_ENABLE p then d
  else
    let e := (d.set F.HLK_CTRL_ENABLE 1 p).modPort p (fun q => { q with noHead := false })
    if (e.port p).st = .disabled then e.primePort p else e

section
variable {s : State} (hopen : s.PagesOpen) (hquiet : s.Quiet) (rq : Requester) (p : Port) (w : Word)
include hopen hquiet

theorem exec_portEnable : exec (.portEnable rq p w) s =
    .next ((s.write rq (hlkAddr p.val 8) w.toNat [⟨0, none⟩]).onDev (fun d => if w.toNat.testBit 0 then d.enablePort p.val else d)) := by
  have hacts : s.acts rq (hlkAddr p.val 8) ⟨0, none⟩ w.toNat = w.toNat.testBit 0 := by
    rw [State.acts, Dev.pageOpen_of hopen.1 hopen.2, Bool.true_and, Dev.acts]
    exact Bool.and_true _
  have hrow : s.row rq (.portEnable rq p w) (hlkAddr p.val 8) w.toNat ⟨0, none⟩ (fun d => d.enablePort p.val) =
      (s.write rq (hlkAddr p.val 8) w.toNat [⟨0, none⟩]).onDev (fun d => if w.toNat.testBit 0 then d.enablePort p.val else d) := by
    rw [State.row, State.gate_run hquiet _ _ _ _ _ _ 0 (by decide)]
    simp only [hacts]
    split
    · rfl
    · rfl
  exact congrArg Host.Outcome.next hrow

theorem exec_portDisable : exec (.portDisable rq p w) s =
    .next ((s.write rq (hlkAddr p.val 8) w.toNat).onDev (fun d => if w.toNat.testBit 0 then d else if d.flag F.HLK_CTRL_ENABLE p.val then d.closePort p.val else d)) := by
  have hbit : w.getLsbD 0 = w.toNat.testBit 0 := rfl
  refine congrArg Host.Outcome.next ((State.gate_run hquiet _ _ _ _ _ _ 0 (by decide)).trans ?_)
  simp only [Dev.pageOpen_of hopen.1 hopen.2, hbit, Bool.true_and]
  cases w.toNat.testBit 0 <;> rfl

end

/-! ### What ENABLE does -/

theorem Dev.get_modPort (d : Dev) (p : Nat) (g : HlkPort → HlkPort) (f : Field) (i j : Nat) : (d.modPort p g).get f i j = d.get f i j := rfl

section
variable {d e : Dev} {p auth idle : Nat} (h : d.CtrlStored p auth idle e)
include h

theorem Dev.CtrlStored.parts : e.ports = d.ports ∧ e.groups = d.groups ∧ e.flt = d.flt ∧ e.raw = d.raw := by
  have hrest := h.rest
  simpa only [Prod.mk.injEq] using hrest

theorem Dev.CtrlStored.port (k : Nat) : e.port k = d.port k := by
  rw [Dev.port, h.parts.1]
  rfl

/-- A port that is enabled already is left alone. -/
theorem Dev.CtrlStored.enable_one (hen : d.get F.HLK_CTRL_ENABLE p ≠ 0) : e.enablePort p = e := if_pos ((Dev.flag_eq_true ..).mpr (h.enable ▸ hen))

/-- A port that was not enabled has its ENABLE set, and begins to prime unless something holds it. -/
theorem Dev.CtrlStored.enable_zero (hp : p < d.ports.length) (hen : d.get F.HLK_CTRL_ENABLE p = 0) :
    (e.enablePort p).get F.HLK_CTRL_ENABLE p = 1 ∧ (e.enablePort p).get F.HLK_CTRL_REQUIRE_AUTH p = auth ∧ (e.enablePort p).get F.HLK_CTRL_IDLE_EN p = idle ∧
      (∀ k, k ≠ p → (e.enablePort p).port k = d.port k) ∧
      (e.enablePort p).port p = (if (d.port p).st = .disabled ∧ d.fenced (.port p) = false ∧ (d.groups.getD (p / 24) {}).relockAt = none then
        ({ d.port p with noHead := false } : HlkPort).primed d.raw else { d.port p with noHead := false }) := by
  obtain ⟨hports, hgroups, hflt, hraw⟩ := h.parts
  obtain ⟨x, hx⟩ : ∃ x, x = (e.set F.HLK_CTRL_ENABLE 1 p).modPort p (fun q => { q with noHead := false }) := ⟨_, rfl⟩
  have hget (g : Field) (hg : g.distinct F.HLK_CTRL_ENABLE = true) : x.get g p = e.get g p := by
    rw [hx, Dev.get_modPort, Dev.get_set_distinct _ hg]
  have hone : x.get F.HLK_CTRL_ENABLE p = 1 := by
    rw [hx, Dev.get_modPort, Dev.get_set_self]
    rfl
  have hlen : p < x.ports.length := by
    rw [hx, Dev.length_modPort]
    exact hports ▸ hp
  have hown : x.port p = { d.port p with noHead := false } := by
    rw [hx, Dev.port_modPort_self (show p < (e.set F.HLK_CTRL_ENABLE 1 p).ports.length from hports ▸ hp)]
    exact congrArg (fun q : HlkPort => { q with noHead := false }) (h.port p)
  have hother (k : Nat) (hk : k ≠ p) : x.port k = d.port k := by
    rw [hx, Dev.port_modPort_ne _ hk]
    exact h.port k
  have hmay : x.mayPrime p = true ↔ d.fenced (.port p) = false ∧ (d.groups.getD (p / 24) {}).relockAt = none := by
    have hfence : x.fenced (.port p) = d.fenced (.port p) := by rw [hx]; exact congrArg (fun f : FltSt => f.fences.any _) hflt
    have hgroup : x.groups = d.groups := by rw [hx]; exact hgroups
    rw [Dev.mayPrime_iff, hone, hfence, hgroup]
    exact and_iff_right (by decide)
  have hxraw : x.raw = d.raw := by rw [hx]; exact hraw
  have hst : (x.port p).st = (d.port p).st := by rw [hown]
  have hnot : ¬ e.flag F.HLK_CTRL_ENABLE p = true := fun hf => (Dev.flag_eq_true ..).mp hf (h.enable.trans hen)
  have heq : e.enablePort p = if (x.port p).st = .disabled then x.primePort p else x := by rw [hx]; exact if_neg hnot
  have hkeep : x.PortOnly (fun _ => ()) p (e.enablePort p) := by
    rw [heq]
    split
    · exact x.primePort_only p
    · exact .refl ..
  refine ⟨(hkeep.get ..).trans hone, (hkeep.get ..).trans ((hget _ (by decide)).trans h.auth), (hkeep.get ..).trans ((hget _ (by decide)).trans h.idle),
    fun k hk => (hkeep.other k hk).trans (hother k hk), ?_⟩
  rw [heq, hst]
  by_cases hdis : (d.port p).st = .disabled
  · rw [if_pos hdis]
    by_cases hm : x.mayPrime p = true
    · rw [Dev.port_primePort hm hlen, hown, hxraw, if_pos ⟨hdis, hmay.mp hm⟩]
    · rw [Dev.primePort_of_not (Bool.not_eq_true _ ▸ hm), hown, if_neg fun hc => hm (hmay.mpr hc.2)]
  · rw [if_neg hdis, hown, if_neg fun hc => hdis hc.1]

end

/-- A port that is closed is disabled first. -/
theorem Dev.closePort_eq (d : Dev) (p : Nat) : ∃ (last : List (Nat × List Nat)) (f : HlkPort → HlkPort),
    d.closePort p = ((d.set F.HLK_CTRL_ENABLE 0 p).disablePort p last).modPort p f ∧ ∀ q, (f q).st = q.st := by
  have hsame (e : Dev) : e = e.modPort p id := by
    rw [Dev.modPort, setAt, List.modify_id]
  simp only [Dev.closePort]
  split
  · split
    · exact ⟨_, _, rfl, fun _ => rfl⟩
    · exact ⟨[], _, hsame _, fun _ => rfl⟩
  · exact ⟨[], _, hsame _, fun _ => rfl⟩

/-- A port that is closed is disabled, and no other port changes. -/
theorem Dev.closePort_shows {d : Dev} {p : Nat} (hp192 : p < 192) (hp : p < d.ports.length) :
    (d.closePort p).get F.HLK_CTRL_ENABLE p = 0 ∧ (d.closePort p).get F.HLK_CTRL_REQUIRE_AUTH p = d.get F.HLK_CTRL_REQUIRE_AUTH p ∧
      (d.closePort p).get F.HLK_CTRL_IDLE_EN p = d.get F.HLK_CTRL_IDLE_EN p ∧ (∀ k, k ≠ p → (d.closePort p).port k = d.port k) ∧ ((d.closePort p).port p).st = .disabled := by
  obtain ⟨last, f, heq, hf⟩ := d.closePort_eq p
  obtain ⟨e, he⟩ : ∃ e, e = d.set F.HLK_CTRL_ENABLE 0 p := ⟨_, rfl⟩
  have hports : e.ports = d.ports := by rw [he]; rfl
  have hport (k : Nat) : e.port k = d.port k := by rw [Dev.port, hports]; rfl
  have hlen : p < e.ports.length := hports ▸ hp
  have hdown := e.disablePort_other p last
  have hst : ((e.disablePort p last).port p).st = .disabled := by
    by_cases hdis : (e.port p).st = .disabled
    · rw [Dev.disablePort, if_pos hdis]
      exact hdis
    · exact (Dev.disablePort_falls hlen last hdis).st
  have hget (g : Field) (hg : g.clear portFields = true) (h1 : 192 = g.n1) (h2 : 0 < g.n2) : (e.disablePort p last).get g p = e.get g p :=
    Dev.get_of_beyond (Dev.beyond_disablePort (List.Subset.refl _) ..) hg (h1 ▸ hp192) h2
  rw [heq, ← he]
  simp only [Dev.get_modPort]
  refine ⟨?_, ?_, ?_, fun k hk => ?_, ?_⟩
  · rw [hget _ (by decide) rfl (by decide), he, Dev.get_set_self]
    rfl
  · rw [hget _ (by decide) rfl (by decide), he, Dev.get_set_distinct _ (by decide)]
  · rw [hget _ (by decide) rfl (by decide), he, Dev.get_set_distinct _ (by decide)]
  · rw [Dev.port_modPort_ne _ hk, hdown.other k hk, hport]
  · rw [Dev.port_modPort_self (hdown.length ▸ hlen), hf]
    exact hst

/-! ### The obligation -/

section
variable {s : State} (hopen : s.PagesOpen) (hquiet : s.Quiet) (rq : Requester) {p : Port} (w : Word) (hp : p.val < s.dev.ports.length) {auth : Nat}
  (hauth : auth = if s.dev.rights rq < 3 then s.dev.get F.HLK_CTRL_REQUIRE_AUTH p.val else w.toNat / 16 % 2)
include hopen hauth

/-- The row whose action the word does not ask for stores the plain fields alone. -/
theorem ctrl_plain {c : Instr} {acts : List Act} (hacts : ∀ x ∈ acts, x.role = none) {f : Dev → Dev} (hf : ∀ d, f d = d)
    (hc : exec c s = .next ((s.write rq (hlkAddr p.val 8) w.toNat acts).onDev f)) :
    Ends rq p c s (fun d => d.ports = s.dev.ports ∧ d.get F.HLK_CTRL_ENABLE p.val = s.dev.get F.HLK_CTRL_ENABLE p.val ∧ d.get F.HLK_CTRL_REQUIRE_AUTH p.val = auth ∧
      d.get F.HLK_CTRL_IDLE_EN p.val = w.toNat / 2 % 2) := by
  refine ends_of hopen hacts hc fun e h => ?_
  rw [hf]
  exact ⟨h.parts.1, h.enable, hauth ▸ h.auth, h.idle⟩

include hquiet hp

theorem portEnable_enables (hbit : w.toNat.testBit 0 = true) : Ends rq p (.portEnable rq p w) s (fun d =>
    d.get F.HLK_CTRL_ENABLE p.val = (if s.dev.get F.HLK_CTRL_ENABLE p.val = 0 then 1 else s.dev.get F.HLK_CTRL_ENABLE p.val) ∧ d.get F.HLK_CTRL_REQUIRE_AUTH p.val = auth ∧
    d.get F.HLK_CTRL_IDLE_EN p.val = w.toNat / 2 % 2 ∧ (∀ k, k ≠ p.val → d.port k = s.dev.port k) ∧
    (s.dev.get F.HLK_CTRL_ENABLE p.val = 0 → d.port p.val =
      (if (s.dev.port p.val).st = .disabled ∧ s.dev.fenced (.port p.val) = false ∧ (s.dev.groups.getD (p.val / 24) {}).relockAt = none then
        ({ s.dev.port p.val with noHead := false } : HlkPort).primed s.dev.raw else { s.dev.port p.val with noHead := false })) ∧
    (s.dev.get F.HLK_CTRL_ENABLE p.val ≠ 0 → d.port p.val = s.dev.port p.val)) := by
  refine ends_of hopen (by simp) (exec_portEnable hopen hquiet rq p w) fun e h => ?_
  rw [if_pos hbit]
  by_cases hen : s.dev.get F.HLK_CTRL_ENABLE p.val = 0
  · obtain ⟨h1, h2, h3, hother, hown⟩ := h.enable_zero hp hen
    rw [if_pos hen]
    exact ⟨h1, h2.trans hauth.symm, h3, hother, fun _ => hown, fun hne => absurd hen hne⟩
  · rw [h.enable_one hen, if_neg hen]
    exact ⟨h.enable, h.auth.trans hauth.symm, h.idle, fun k _ => h.port k, fun h0 => absurd h0 hen, fun _ => h.port _⟩

theorem portDisable_disables (hbit : w.toNat.testBit 0 = false) : Ends rq p (.portDisable rq p w) s (fun d =>
    d.get F.HLK_CTRL_ENABLE p.val = 0 ∧ d.get F.HLK_CTRL_REQUIRE_AUTH p.val = auth ∧ d.get F.HLK_CTRL_IDLE_EN p.val = w.toNat / 2 % 2 ∧
    (∀ k, k ≠ p.val → d.port k = s.dev.port k) ∧ (s.dev.get F.HLK_CTRL_ENABLE p.val = 0 → d.ports = s.dev.ports) ∧
    (s.dev.get F.HLK_CTRL_ENABLE p.val ≠ 0 → (d.port p.val).st = .disabled)) := by
  refine ends_of hopen (by simp) (exec_portDisable hopen hquiet rq p w) fun e h => ?_
  rw [if_neg (by rw [hbit]; exact Bool.false_ne_true)]
  by_cases hen : s.dev.get F.HLK_CTRL_ENABLE p.val = 0
  · rw [if_neg fun hf => (Dev.flag_eq_true ..).mp hf (h.enable.trans hen)]
    exact ⟨h.enable.trans hen, h.auth.trans hauth.symm, h.idle, fun k _ => h.port k, fun _ => h.parts.1, fun hne => absurd hen hne⟩
  · obtain ⟨h1, h2, h3, hother, hst⟩ := Dev.closePort_shows (d := e) p.isLt (h.parts.1 ▸ hp)
    rw [if_pos ((Dev.flag_eq_true ..).mpr (h.enable ▸ hen))]
    exact ⟨h1, h2.trans (h.auth.trans hauth.symm), h3.trans h.idle, fun k hk => (hother k hk).trans (h.port k), fun h0 => absurd h0 hen, fun _ => hst⟩

end

/-- Settles O59: a stored rate takes effect on an idle group, a relock lets the waiting ports prime, ENABLE starts and ends a port, priming leads to ALIGNING, and the bits of a frame are that frame
to a receiver in lock. -/
theorem portsPrimeAndAlign : Obligations.PortsPrimeAndAlign := by
  unfold Obligations.PortsPrimeAndAlign
  refine ⟨?_, ?_, ?_, ?_, ?_⟩
  · rintro g s r rfl
    exact ⟨laneRateChange_takes g s, laneRateChange_stays g s⟩
  · intro g s
    refine ⟨fun hnone => (gives_groupPllRelock g s).congr (if_neg ?_), groupPllRelock_locks g s⟩
    rw [hnone]
    exact Bool.false_ne_true
  · rintro rq p w s e held req hopen hquiet hp rfl hheld hreq
    refine ⟨fun hbit => ⟨?_, ?_⟩, fun hbit => ⟨?_, ?_⟩⟩
    · have hends := portEnable_enables hopen hquiet rq w hp hreq hbit
      refine hends.mono fun d hd => ?_
      obtain ⟨h1, h2, h3, hother, hzero, hone⟩ := hd
      refine ⟨h1, h2, h3, hother, fun hen hno => ?_, fun hen hh => (hzero hen).trans (if_neg ?_), hone⟩
      · rw [hheld, not_or, not_or, not_not, not_not, Bool.not_eq_true] at hno
        rw [hzero hen, if_pos hno]
        exact ⟨rfl, rfl, rfl, rfl⟩
      · rintro ⟨hst, hfence, hlock⟩
        obtain h | h | h := hheld.mp hh
        · exact h hst
        · exact Bool.false_ne_true (hfence.symm.trans h)
        · exact h hlock
    · exact ctrl_plain hopen rq w hreq (by simp) (fun d => if_pos hbit) (exec_portDisable hopen hquiet rq p w)
    · exact ctrl_plain hopen rq w hreq (by simp) (fun d => if_neg (c := w.toNat.testBit 0 = true) (by rw [hbit]; exact Bool.false_ne_true)) (exec_portEnable hopen hquiet rq p w)
    · exact portDisable_disables hopen hquiet rq w hp hreq hbit
  · rintro p s q rfl hp
    refine ⟨markerSend_on hp, markerSend_off, primingDone_aligns hp, primingDone_wakes hp, primingDone_stays, ?_, ?_, helloTimeout_stays, ?_⟩
    · exact fun h => (gives_primingRetry p s).congr (Dev.primingRetry_none h)
    · refine fun hst t hat => ⟨fun h => primingRetry_waits hst hat (h.imp_right fun h => ?_), fun hdue hen hfence hlock =>
        primingRetry_primes hp hst hat hdue ((Dev.mayPrime_iff ..).mpr ⟨hen, hfence, hlock⟩)⟩
      refine Bool.eq_false_iff.mpr fun hm => ?_
      obtain ⟨hen, hfence, hlock⟩ := (Dev.mayPrime_iff ..).mp hm
      obtain h | h | h := h
      · exact hen h
      · exact Bool.false_ne_true (hfence.symm.trans h)
      · exact h hlock
    · intro hst hat hdue e he
      have hends := helloTimeout_ends hst hat hdue he
      refine ⟨fun hno => hends.congr (if_pos hno), fun hno => ⟨hends.congr (if_neg (by rw [hno]; exact Bool.false_ne_true)), ?_⟩⟩
      have h192 := p.isLt
      exact Dev.reported_report _ _ _ (by omega)
  · intro t r port ftype payload hhunt hblind hskip hframe hn hv hscr hrun hbit hshort hport hlo hhi hlen hpay hpos hr ht
    exact LaneRx.steps_frame ⟨hhunt, hscr, hrun, fun _ => hbit, hshort⟩ hblind hskip hframe hn hv hport hlo hhi hlen hpay hpos hr ht

end Sys2Proof.Machine
end


section
/-! PROOF. Ports that begin an exchange with their head, enter UP or fall back (R251, R256, R262, R264). -/

namespace Sys2Proof.Machine

theorem Dev.pairOf_of_hmap {d e : Dev} (h : e.hmap = d.hmap) (p : Nat) : e.pairOf p = d.pairOf p := by
  have hhome : e.portHome p = d.portHome p := by rw [Dev.portHome, h]; rfl
  have hentry (b s : Nat) : e.hentry b s = d.hentry b s := by rw [Dev.hentry, h]; rfl
  simp only [Dev.pairOf, hhome, hentry]

theorem Dev.PortOnly.parts {γ : Type} {off : HlkPort → γ} {p : Nat} {d e : Dev} (h : d.PortOnly off p e) :
    e.groups = d.groups ∧ e.flt = d.flt ∧ e.raw = d.raw ∧ e.hmap = d.hmap ∧ e.mram = d.mram ∧ e.tb = d.tb := by
  have hrest := h.rest
  simpa only [Prod.mk.injEq] using hrest

/-! ### An exchange begins -/

/-- A port whose authentication exchange has begun. -/
noncomputable def HlkPort.authBegun (q : HlkPort) (now free : Nat) (key : List Nat) : HlkPort :=
  { q with stage := 1, authAt := now, chal := challenge free, nonce := [], session := none, txn := (q.txn + 1) % 256, master := key }

/-- The exchange begins, before CHALLENGE goes out. -/
noncomputable def Dev.authBegun (d : Dev) (p : Nat) : Dev :=
  ({ d with free := d.free + 32 } : Dev).modPort p (fun q => q.authBegun d.raw d.free (d.mram.keyM.getD (List.replicate 32 0)))

theorem Dev.authStart_only (d : Dev) (p : Nat) : (d.authBegun p).PortOnly HlkPort.offTx p (d.authStart p) := by
  obtain ⟨x, hx⟩ : ∃ x, x = d.authBegun p := ⟨_, rfl⟩
  obtain ⟨ws, hws⟩ : ∃ ws, ws = [memHead 4 0 (d.port p).txn 0 + (Config.authFields 4).toNat % 65536 + (Config.authFields 4).toNat / 65536 * 2 ^ 24, 0] ++ byteWords (challenge d.free) :=
    ⟨_, rfl⟩
  have heq : d.authStart p = x.laneSend p 5 ws := by rw [hx, hws]; rfl
  rw [← hx, heq]
  exact (Dev.onTx p x).laneSend (.refl ..) 5 ws

theorem Dev.authStart_shows {d : Dev} {p : Nat} (hp : p < d.ports.length) :
    ((d.authStart p).port p).offTx = ((d.port p).authBegun d.raw d.free (d.mram.keyM.getD (List.replicate 32 0))).offTx ∧
      (∀ k, k ≠ p → (d.authStart p).port k = d.port k) ∧ (d.authStart p).regs = d.regs := by
  have h := d.authStart_only p
  refine ⟨h.own.trans ?_, fun k hk => (h.other k hk).trans (Dev.port_modPort_ne _ hk _), h.regs⟩
  exact congrArg HlkPort.offTx (Dev.port_modPort_self (d := { d with free := d.free + 32 }) hp _)

/-! ### A port enters UP -/

/-- A port that has entered UP. -/
noncomputable def HlkPort.atUp (q : HlkPort) (now : Nat) (auth : Bool) : HlkPort :=
  { q with st := .up, since := now, authOk := auth, recs := [], seq := 0, downRep := false, base := none, gainSet := false, stage := 0, lastBack := now, tempAt := none, staleRep := false }

/-- The port is UP, before its usage words are read. -/
noncomputable def Dev.atUp (d : Dev) (p : Nat) (auth : Bool) : Dev := ((d.modPort p (fun q => q.atUp d.raw auth)).set F.HLK_CONF 0 p).hlkIrq p 0

theorem Dev.enterUp_eq (d : Dev) (p : Nat) (auth : Bool) : d.enterUp p auth = (d.atUp p auth).usageRead p := rfl

theorem Dev.enterUp_only (d : Dev) (p : Nat) (auth : Bool) : (d.atUp p auth).PortOnly HlkPort.offMem p (d.enterUp p auth) := by
  rw [Dev.enterUp_eq]
  exact (Dev.onMem ..).usageRead (.refl ..)

theorem Dev.ports_atUp (d : Dev) (p : Nat) (auth : Bool) : (d.atUp p auth).ports = (d.modPort p (fun q => q.atUp d.raw auth)).ports :=
  (unfenced_ports.irq ..).trans (unfenced_ports.set ..)

theorem Dev.port_atUp (d : Dev) (p : Nat) (auth : Bool) (k : Nat) : (d.atUp p auth).port k = (d.modPort p (fun q => q.atUp d.raw auth)).port k := by
  rw [Dev.port, Dev.ports_atUp]
  rfl

/-- A register that entering UP leaves. -/
theorem Dev.get_atUp (d : Dev) (p : Nat) (auth : Bool) {g : Field} (hconf : g.distinct F.HLK_CONF = true) (hirq : g.distinct F.HLK_IRQ_STAT = true) (i j : Nat) :
    (d.atUp p auth).get g i j = d.get g i j := by
  rw [Dev.atUp, Dev.hlkIrq, Dev.get_irq, Dev.raiseBit, Dev.get_set_distinct _ hirq, Dev.get_set_distinct _ hconf, Dev.get_modPort]

/-- A cause of a port that is set stays set. -/
theorem Dev.testBit_hlkIrq_of {d : Dev} {i n : Nat} (h : (d.get F.HLK_IRQ_STAT i).testBit n = true) (hn : n < F.HLK_IRQ_STAT.width) (p k : Nat) :
    ((d.hlkIrq p k).get F.HLK_IRQ_STAT i).testBit n = true := by
  rw [Dev.hlkIrq, Dev.get_irq, Dev.raiseBit]
  by_cases hi : i = p
  · rw [← hi, Dev.get_set_self, Nat.testBit_mod_two_pow, Nat.testBit_or, h]
    simp [hn]
  · rw [Dev.get_set_ne _ _ _ _ _ _ _ _ ?_]
    · exact h
    · simp only [Field.key, Field.addr, F.HLK_IRQ_STAT]
      omega

theorem Dev.testBit_hlkIrq (d : Dev) (p : Nat) {k : Nat} (hk : k < F.HLK_IRQ_STAT.width) : ((d.hlkIrq p k).get F.HLK_IRQ_STAT p).testBit k = true := by
  rw [Dev.hlkIrq, Dev.get_irq]
  exact Dev.testBit_raiseBit _ _ hk _ _

end Sys2Proof.Machine
end


section
/-! PROOF. The calibration of a link (R250, R251, R256, R265; settles O4). -/

namespace Sys2Proof.Machine

/-- What a change makes of a port rests on that port. -/
theorem Dev.modPort_congr {d : Dev} {p : Nat} {f g : HlkPort → HlkPort} (h : f (d.port p) = g (d.port p)) : d.modPort p f = d.modPort p g := by
  refine congrArg (fun l => { d with ports := l }) (setAt_congr fun q hq => ?_)
  have hport : d.port p = q := by rw [Dev.port, List.getD_eq_getElem?_getD, hq]; rfl
  exact hport ▸ h

/-! ### CAL frames -/

/-- A CAL frame may go out. -/
def Dev.calDue (d : Dev) (p : Nat) : Bool :=
  let q := d.port p
  (q.st = .calibrating || q.st = .up) && q.onLane && q.calOn && q.calOut.isNone && q.calAt + 20000 ≤ d.now && !q.recWaits && !d.underWay p && q.tx.waits.isEmpty

/-- A port that has sent a CAL frame. -/
noncomputable def HlkPort.calSent (q : HlkPort) (id trip now : Nat) : HlkPort := { q with calId := id, calOut := some (id, trip), calAt := now }

/-- A CAL frame goes out with a number. -/
def Dev.calSend (d : Dev) (p id : Nat) : Dev :=
  (d.modPort p (fun q => { q with calId := id, calOut := some (id, (d.fineT / 16777216).toNat), calAt := d.now })).laneStart p 6 [id]

theorem gives_cal (p : Port) (s : State) : Gives (.cal p) s
    (if (s.dev.laneTick p.val).calDue p.val then (s.dev.laneTick p.val).calSend p.val ((((s.dev.laneTick p.val).port p.val).calId + 1) % 65536) else s.dev.laneTick p.val) := rfl

theorem HlkPort.recWaits_eq_false (q : HlkPort) : q.recWaits = false ↔ ∀ r ∈ q.recs, r.sent ≠ 0 ∧ r.again = false := by
  rw [HlkPort.recWaits, List.any_eq_false]
  refine forall₂_congr fun r _ => ?_
  rw [Bool.or_eq_true, not_or, decide_eq_true_eq, Bool.not_eq_true]

theorem Dev.calDue_iff (d : Dev) (p : Nat) : d.calDue p = true ↔ ((d.port p).st = .calibrating ∨ (d.port p).st = .up) ∧ (d.port p).tx.mode = .on ∧ (d.port p).calOn = true ∧
    (d.port p).calOut = none ∧ (d.port p).calAt + 20000 ≤ d.raw ∧ (∀ r ∈ (d.port p).recs, r.sent ≠ 0 ∧ r.again = false) ∧ d.underWay p = false ∧ (d.port p).tx.waits = [] := by
  simp only [Dev.calDue, Bool.and_eq_true, Bool.or_eq_true, decide_eq_true_eq, Bool.not_eq_true', HlkPort.recWaits_eq_false, Option.isNone_iff_eq_none, List.isEmpty_iff, and_assoc,
    HlkPort.onLane]
  rfl

section
variable {p : Port} {s : State} {e : Dev} (he : e = s.dev.laneTick p.val)
include he

theorem laneTick_keeps : s.dev.PortOnly HlkPort.offTx p.val e := he ▸ (Dev.onTx ..).laneTick (.refl ..)

/-- Whether a CAL frame may go out rests on the port as it was, but for the frames of its lane. -/
theorem calDue_laneTick : e.calDue p.val = true ↔ ((s.dev.port p.val).st = .calibrating ∨ (s.dev.port p.val).st = .up) ∧ (s.dev.port p.val).tx.mode = .on ∧
    (s.dev.port p.val).calOn = true ∧ (s.dev.port p.val).calOut = none ∧ (s.dev.port p.val).calAt + 20000 ≤ s.dev.raw ∧
    (∀ r ∈ (s.dev.port p.val).recs, r.sent ≠ 0 ∧ r.again = false) ∧ e.underWay p.val = false ∧ (e.port p.val).tx.waits = [] := by
  have h := laneTick_keeps he
  have hst := h.onePort.view HlkPort.st fun _ => rfl
  have hmode := h.onePort.view (fun q => q.tx.mode) fun _ => rfl
  have hon := h.onePort.view HlkPort.calOn fun _ => rfl
  have hout := h.onePort.view HlkPort.calOut fun _ => rfl
  have hat := h.onePort.view HlkPort.calAt fun _ => rfl
  have hrecs := h.onePort.view HlkPort.recs fun _ => rfl
  obtain ⟨-, -, hraw, -⟩ := h.parts
  rw [Dev.calDue_iff, hst, hmode, hon, hout, hat, hrecs, hraw]

theorem cal_waits (h : ¬ e.calDue p.val = true) : Gives (.cal p) s e := by
  have hgives := gives_cal p s
  rw [← he, if_neg h] at hgives
  exact hgives

theorem cal_sends (h : e.calDue p.val = true) : Gives (.cal p) s
    ((e.modPort p.val (fun q => q.calSent ((q.calId + 1) % 65536) (s.dev.fineT / 16777216).toNat s.dev.raw)).laneStart p.val 6 [((s.dev.port p.val).calId + 1) % 65536]) := by
  have hkeep := laneTick_keeps he
  have hid := hkeep.onePort.view HlkPort.calId fun _ => rfl
  obtain ⟨-, -, hraw, -, -, htb⟩ := hkeep.parts
  have hfine : e.fineT = s.dev.fineT := by rw [Dev.fineT, Dev.fineT, hraw, htb]
  have hgives := gives_cal p s
  rw [← he, if_pos h, hid, Dev.calSend, hfine] at hgives
  have hmod : e.modPort p.val (fun q => q.calSent ((q.calId + 1) % 65536) (s.dev.fineT / 16777216).toNat s.dev.raw) =
      e.modPort p.val (fun q => q.calSent (((s.dev.port p.val).calId + 1) % 65536) (s.dev.fineT / 16777216).toNat e.raw) := by
    refine Dev.modPort_congr ?_
    rw [hid, hraw]
  rw [hmod]
  exact hgives

end

/-- A frame that starts is shown. -/
theorem Dev.mem_laneStart (d : Dev) (p ftype : Nat) (ws : List Nat) : Output.lane p ftype ws ∈ (d.laneStart p ftype ws).outbox :=
  List.mem_append_right _ (List.mem_singleton.mpr rfl)

/-! ### Echoes -/

/-- The odd port of a pair has an even one before it. -/
theorem Dev.pairOf_true {d : Dev} {p o : Nat} (h : d.pairOf p = some (o, true)) : o = p - 1 := by
  simp only [Dev.pairOf] at h
  split at h
  · split at h
    · split at h
      · cases h
        rfl
      · cases h
    · cases h
  · cases h

theorem Dev.pairOf_false {d : Dev} {p o : Nat} (h : d.pairOf p = some (o, false)) : o = p + 1 := by
  simp only [Dev.pairOf] at h
  split at h
  · split at h
    · split at h
      · cases h
      · cases h
        rfl
    · cases h
  · cases h

theorem Dev.oddUp_none {d : Dev} {e : Nat} (h : ∀ o, d.pairOf e ≠ some (o, false)) : d.oddUp e = d := by
  unfold Dev.oddUp
  split
  · next o ho => exact absurd ho (h o)
  · rfl

theorem Dev.oddUp_some {d : Dev} {e o : Nat} (h : d.pairOf e = some (o, false)) : d.oddUp e =
    if (d.port e).st ≠ .up then d
    else if (d.port o).st = .authFailed || ((d.port o).st = .calibrating && d.get F.HLK_CAL_SAMPLES o ≤ (d.port o).calGot.length) then d.enterUp o (d.port e).authOk
    else d.modPort o (fun q => { q with authOk := if q.st = .up || q.st = .idle then (d.port e).authOk else q.authOk }) := by
  unfold Dev.oddUp
  rw [h]

theorem Dev.authStart_one {γ : Type} {off : HlkPort → γ} (hoff : ∀ (q : HlkPort) (n f : Nat) (l : List Nat), off (q.authBegun n f l) = off q)
    (hview : ∀ q : HlkPort, off q.offTx = off q) (d : Dev) (p : Nat) : d.OnePort off p (d.authStart p) := by
  have h := d.authStart_only p
  have hbegun : d.OnePort off p (d.authBegun p) := Dev.OnePort.modPort (d := d) (e := { d with free := d.free + 32 }) (.of_ports off p rfl) (hoff ..)
  have hown : off ((d.authStart p).port p) = off ((d.authBegun p).port p) := (hview _).symm.trans ((congrArg off h.own).trans (hview _))
  exact hbegun.trans ⟨h.other, hown, h.length⟩

theorem Dev.enterUp_one {γ : Type} {off : HlkPort → γ} (hoff : ∀ (q : HlkPort) (n : Nat) (a : Bool), off (q.atUp n a) = off q) (hview : ∀ q : HlkPort, off q.offMem = off q)
    (d : Dev) (p : Nat) (auth : Bool) : d.OnePort off p (d.enterUp p auth) := by
  have h := d.enterUp_only p auth
  have hup : d.OnePort off p (d.atUp p auth) := by
    have hmod : d.OnePort off p (d.modPort p (fun q => q.atUp d.raw auth)) := Dev.OnePort.modPort (.refl ..) (hoff ..)
    exact hmod.trans (.of_ports off p (d.ports_atUp p auth))
  have hown : off ((d.enterUp p auth).port p) = off ((d.atUp p auth).port p) := (hview _).symm.trans ((congrArg off h.own).trans (hview _))
  exact hup.trans ⟨h.other, hown, h.length⟩

/-- The result of a pair's even port reaches its odd port alone. -/
theorem Dev.oddUp_one {γ : Type} {off : HlkPort → γ} (hup : ∀ (q : HlkPort) (n : Nat) (a : Bool), off (q.atUp n a) = off q) (hview : ∀ q : HlkPort, off q.offMem = off q)
    (hauth : ∀ (q : HlkPort) (a : Bool), off { q with authOk := a } = off q) (d : Dev) (e : Nat) : d.OnePort off (e + 1) (d.oddUp e) := by
  by_cases h : ∃ o, d.pairOf e = some (o, false)
  · obtain ⟨o, ho⟩ := h
    rw [Dev.oddUp_some ho, Dev.pairOf_false ho]
    split
    · exact .refl ..
    · split
      · exact Dev.enterUp_one hup hview ..
      · exact .modPort (.refl ..) (hauth ..)
  · rw [Dev.oddUp_none fun o ho => h ⟨o, ho⟩]
    exact .refl ..

theorem Dev.oddUp_regs (d : Dev) (e : Nat) : (∀ (g : Field) (i j : Nat), g.distinct F.HLK_CONF = true → g.distinct F.HLK_IRQ_STAT = true → (d.oddUp e).get g i j = d.get g i j) ∧
    (∀ i n : Nat, n < F.HLK_IRQ_STAT.width → (d.get F.HLK_IRQ_STAT i).testBit n = true → ((d.oddUp e).get F.HLK_IRQ_STAT i).testBit n = true) := by
  by_cases h : ∃ o, d.pairOf e = some (o, false)
  · obtain ⟨o, ho⟩ := h
    rw [Dev.oddUp_some ho]
    split
    · exact ⟨fun _ _ _ _ _ => rfl, fun _ _ _ h => h⟩
    · split
      · have hup := d.enterUp_only o (d.port e).authOk
        refine ⟨fun g i j hconf hirq => (hup.get ..).trans (Dev.get_atUp _ _ _ hconf hirq _ _), fun i n hn hbit => ?_⟩
        rw [hup.get, Dev.atUp]
        refine Dev.testBit_hlkIrq_of ?_ hn ..
        rw [Dev.get_set_distinct _ (by decide), Dev.get_modPort]
        exact hbit
      · exact ⟨fun _ _ _ _ _ => rfl, fun _ _ _ h => h⟩
  · rw [Dev.oddUp_none fun o ho => h ⟨o, ho⟩]
    exact ⟨fun _ _ _ _ _ => rfl, fun _ _ _ h => h⟩

/-- A calibration has ended on a port, and no other port has changed. -/
structure Dev.CalEnded (d : Dev) (p link : Nat) (e : Dev) : Prop where
  on : (e.port p).calOn = false
  out : (e.port p).calOut = none
  link : e.get F.HLK_LINK p = link
  irq : (e.get F.HLK_IRQ_STAT p).testBit 5 = true
  other : ∀ k, k ≠ p → e.port k = d.port k

theorem Dev.CalEnded.step {d x y : Dev} {p link : Nat} (h : d.CalEnded p link x) (hport : x.OnePort (fun q => (q.calOn, q.calOut)) p y)
    (hlink : y.get F.HLK_LINK p = x.get F.HLK_LINK p) (hirq : (y.get F.HLK_IRQ_STAT p).testBit 5 = true) : d.CalEnded p link y := by
  have hown := hport.own
  rw [Prod.mk.injEq] at hown
  exact ⟨hown.1.trans h.on, hown.2.trans h.out, hlink.trans h.link, hirq, fun k hk => (hport.other k hk).trans (h.other k hk)⟩

/-- A round trip has been added. -/
def Dev.calTrip (d : Dev) (p : Nat) (got : List Int) : Dev :=
  (d.modPort p (fun q => { q with lastBack := d.raw })).modPort p (fun q => { q with calOut := none, calGot := got })

/-- The calibration has ended, before the port goes on. -/
def Dev.calDone (d : Dev) (p : Nat) (got : List Int) : Dev :=
  ((d.set F.HLK_LINK (linkOf got (signed 16 (d.get F.HLK_LINK_TRIM p))) p).hlkIrq p 5).modPort p (fun q => { q with calOn := false })

/-- Where the port goes on. -/
def Dev.calGoesOn (d : Dev) (p : Nat) (st : LinkState) : Dev :=
  if st = .up then d
  else match d.pairOf p with
    | some (e, true) => d.oddUp e
    | _ => (d.modPort p (fun q => { q with st := .authenticating, since := d.now })).authStart p

/-- What an echo makes of the device. -/
def Dev.calEchoed (d : Dev) (p id ta t3 : Nat) : Dev :=
  let q := d.port p
  match q.calOut with
  | some (i, t0) =>
    if i ≠ id || !q.bcLock || !(q.st = .calibrating || q.st = .up) then d
    else
      let x := d.calTrip p (q.calGot ++ [(t3 : Int) - t0 - ta])
      if (q.calGot ++ [(t3 : Int) - t0 - ta]).length < x.get F.HLK_CAL_SAMPLES p then x
      else (x.calDone p (q.calGot ++ [(t3 : Int) - t0 - ta])).calGoesOn p q.st
  | none => d

theorem gives_calEcho (p : Port) (id : BitVec 16) (ta : Word) (t3 : Nat) (s : State) :
    Gives (.calEcho p id ta t3) s (s.dev.calEchoed p.val id.toNat ta.toNat t3) := rfl

section
variable {d : Dev} {p i t0 : Nat}

theorem Dev.calEchoed_none (h : (d.port p).calOut = none) (id ta t3 : Nat) : d.calEchoed p id ta t3 = d := by
  simp only [Dev.calEchoed, h]

variable (h : (d.port p).calOut = some (i, t0)) (id ta t3 : Nat)
include h

theorem Dev.calEchoed_some : d.calEchoed p id ta t3 =
    if i ≠ id || !(d.port p).bcLock || !((d.port p).st = .calibrating || (d.port p).st = .up) then d
    else if ((d.port p).calGot ++ [(t3 : Int) - t0 - ta]).length < d.get F.HLK_CAL_SAMPLES p then d.calTrip p ((d.port p).calGot ++ [(t3 : Int) - t0 - ta])
    else ((d.calTrip p ((d.port p).calGot ++ [(t3 : Int) - t0 - ta])).calDone p ((d.port p).calGot ++ [(t3 : Int) - t0 - ta])).calGoesOn p (d.port p).st := by
  simp only [Dev.calEchoed, h]
  rfl

theorem Dev.calEchoed_stray (hstray : i ≠ id ∨ (d.port p).bcLock = false ∨ ((d.port p).st ≠ .calibrating ∧ (d.port p).st ≠ .up)) : d.calEchoed p id ta t3 = d := by
  rw [Dev.calEchoed_some h, if_pos]
  simp only [Bool.or_eq_true, Bool.not_eq_true', Bool.or_eq_false_iff, decide_eq_true_eq, decide_eq_false_iff_not, or_assoc]
  exact hstray

variable {id} (hid : i = id) (hlock : (d.port p).bcLock = true) (hst : (d.port p).st = .calibrating ∨ (d.port p).st = .up) {got : List Int}
  (hgot : got = (d.port p).calGot ++ [(t3 : Int) - t0 - ta])
include hid hlock hst hgot

theorem Dev.calEchoed_mine : d.calEchoed p id ta t3 =
    if got.length < d.get F.HLK_CAL_SAMPLES p then d.calTrip p got else ((d.calTrip p got).calDone p got).calGoesOn p (d.port p).st := by
  rw [Dev.calEchoed_some h, if_neg, ← hgot]
  simp only [Bool.or_eq_true, Bool.not_eq_true', Bool.or_eq_false_iff, decide_eq_true_eq, decide_eq_false_iff_not, not_or, not_not, not_and_or, Bool.not_eq_false]
  exact ⟨⟨hid, hlock⟩, hst⟩

end

theorem Dev.calTrip_eq (d : Dev) (p : Nat) (got : List Int) : d.calTrip p got = d.modPort p (fun q => { q with lastBack := d.raw, calOut := none, calGot := got }) := by
  rw [Dev.calTrip, Dev.modPort, Dev.modPort, Dev.modPort]
  simp only [setAt, List.modify_modify_eq]
  rfl

/-! ### The end of a calibration -/

/-- A port whose calibration has ended. -/
noncomputable def HlkPort.calibrated (q : HlkPort) (now : Nat) (got : List Int) : HlkPort := { q with lastBack := now, calOut := none, calGot := got, calOn := false }

section
variable {d x : Dev} {p : Nat} {got : List Int} (hx : x = (d.calTrip p got).calDone p got)
include hx

theorem Dev.calDone_regs : x.get F.HLK_LINK p = linkOf got (signed 16 (d.get F.HLK_LINK_TRIM p)) % 2 ^ F.HLK_LINK.width ∧
    (x.get F.HLK_IRQ_STAT p).testBit 5 = true ∧ x.get F.HLK_CAL_SAMPLES p = d.get F.HLK_CAL_SAMPLES p := by
  obtain ⟨y, hy⟩ : ∃ y, y = (d.calTrip p got).set F.HLK_LINK (linkOf got (signed 16 (d.get F.HLK_LINK_TRIM p))) p := ⟨_, rfl⟩
  have hxy : x = (y.hlkIrq p 5).modPort p (fun q => { q with calOn := false }) := by rw [hx, hy]; rfl
  have hirq (g : Field) (hg : g.distinct F.HLK_IRQ_STAT = true) : (y.hlkIrq p 5).get g p = y.get g p := by
    rw [Dev.hlkIrq, Dev.get_irq, Dev.raiseBit, Dev.get_set_distinct _ hg]
  rw [hxy, Dev.get_modPort, Dev.get_modPort, Dev.get_modPort]
  refine ⟨?_, Dev.testBit_hlkIrq _ _ (by decide), ?_⟩
  · rw [hirq _ (by decide), hy, Dev.get_set_self]
  · rw [hirq _ (by decide), hy, Dev.get_set_distinct _ (by decide)]
    rfl

theorem Dev.calDone_parts : x.hmap = d.hmap ∧ x.ports.length = d.ports.length ∧ (∀ k, k ≠ p → x.port k = d.port k) ∧
    (p < d.ports.length → x.port p = (d.port p).calibrated d.raw got) := by
  obtain ⟨y, hy⟩ : ∃ y, y = ((d.calTrip p got).set F.HLK_LINK (linkOf got (signed 16 (d.get F.HLK_LINK_TRIM p))) p).hlkIrq p 5 := ⟨_, rfl⟩
  have hxy : x = y.modPort p (fun q => { q with calOn := false }) := by rw [hx, hy]; rfl
  have hports : y.ports = (d.modPort p (fun q => { q with lastBack := d.raw, calOut := none, calGot := got })).ports := by
    rw [hy, ← Dev.calTrip_eq]
    exact (unfenced_ports.irq ..).trans (unfenced_ports.set ..)
  have hport (k : Nat) : y.port k = (d.modPort p (fun q => { q with lastBack := d.raw, calOut := none, calGot := got })).port k := by rw [Dev.port, hports]; rfl
  have hlen : y.ports.length = d.ports.length := by rw [hports, Dev.length_modPort]
  have hmap : y.hmap = d.hmap := by
    rw [hy]
    exact Dev.hmap_of_fixed (Dev.fixed_irq ..)
  rw [hxy]
  refine ⟨hmap, (Dev.length_modPort ..).trans hlen, fun k hk => ?_, fun hp => ?_⟩
  · rw [Dev.port_modPort_ne _ hk, hport, Dev.port_modPort_ne _ hk]
  · rw [Dev.port_modPort_self (hlen ▸ hp), hport, Dev.port_modPort_self hp]
    rfl

end

theorem Dev.calGoesOn_alone {d : Dev} {p : Nat} {st : LinkState} (hst : st ≠ .up) (h : ∀ o, d.pairOf p ≠ some (o, true)) :
    d.calGoesOn p st = (d.modPort p (fun q => { q with st := .authenticating, since := d.raw })).authStart p := by
  rw [Dev.calGoesOn, if_neg hst]
  split
  · next o ho => exact absurd ho (h o)
  · rfl

theorem Dev.calGoesOn_odd {d : Dev} {p e : Nat} {st : LinkState} (hst : st ≠ .up) (h : d.pairOf p = some (e, true)) : d.calGoesOn p st = d.oddUp e := by
  rw [Dev.calGoesOn, if_neg hst, h]

section
variable {p : Port} {s : State} (hp : p.val < s.dev.ports.length) {got : List Int} {x : Dev} (hx : x = (s.dev.calTrip p.val got).calDone p.val got)
include hp hx

theorem Dev.calDone_ended : s.dev.CalEnded p.val (linkOf got (signed 16 (s.dev.get F.HLK_LINK_TRIM p.val)) % 2 ^ F.HLK_LINK.width) x := by
  obtain ⟨hlink, hirq, -⟩ := Dev.calDone_regs hx
  obtain ⟨-, -, hother, hown⟩ := Dev.calDone_parts hx
  exact ⟨by rw [hown hp]; rfl, by rw [hown hp]; rfl, hlink, hirq, hother⟩

/-- An UP port stays as it is. -/
theorem calEcho_up {st : LinkState} (hst : st = .up) (hq : st = (s.dev.port p.val).st) : x.calGoesOn p.val st = x ∧
    (x.port p.val).st = .up ∧ (x.port p.val).session = (s.dev.port p.val).session := by
  obtain ⟨-, -, -, hown⟩ := Dev.calDone_parts hx
  rw [hown hp]
  exact ⟨if_pos hst, hq.symm.trans hst, rfl⟩

/-- A port that is no odd half goes on to its authentication. -/
theorem calEcho_alone {st : LinkState} (hst : st ≠ .up) (h : ∀ o, s.dev.pairOf p.val ≠ some (o, true)) :
    s.dev.CalEnded p.val (linkOf got (signed 16 (s.dev.get F.HLK_LINK_TRIM p.val)) % 2 ^ F.HLK_LINK.width) (x.calGoesOn p.val st) ∧
      ((x.calGoesOn p.val st).port p.val).st = .authenticating ∧ ((x.calGoesOn p.val st).port p.val).stage = 1 ∧ ((x.calGoesOn p.val st).port p.val).session = none := by
  have hended := Dev.calDone_ended hp hx
  obtain ⟨hmap, hlen, -, -⟩ := Dev.calDone_parts hx
  obtain ⟨y, hy⟩ : ∃ y, y = x.modPort p.val (fun q => { q with st := .authenticating, since := x.raw }) := ⟨_, rfl⟩
  have hpy : p.val < y.ports.length := by rw [hy, Dev.length_modPort, hlen]; exact hp
  have hyport : y.port p.val = { x.port p.val with st := .authenticating, since := x.raw } := by rw [hy]; exact Dev.port_modPort_self (hlen ▸ hp) _
  have hyended := hended.step (y := y) (by rw [hy]; exact .modPort (.refl ..) rfl) (by rw [hy]; rfl) (by rw [hy]; exact hended.irq)
  obtain ⟨hown, -, hregs⟩ := Dev.authStart_shows hpy
  have hget (g : Field) : (y.authStart p.val).get g p.val = y.get g p.val := by rw [Dev.get, hregs]; rfl
  have hview {α : Type} (g : HlkPort → α) (hg : ∀ q : HlkPort, g q.offTx = g q) : g ((y.authStart p.val).port p.val) =
      g ((y.port p.val).authBegun y.raw y.free (y.mram.keyM.getD (List.replicate 32 0))) := (hg _).symm.trans ((congrArg g hown).trans (hg _))
  have hst' := hview HlkPort.st fun _ => rfl
  rw [hyport] at hst'
  rw [Dev.calGoesOn_alone hst (fun o => by rw [Dev.pairOf_of_hmap hmap]; exact h o), ← hy]
  exact ⟨hyended.step (Dev.authStart_one (fun _ _ _ _ => rfl) (fun _ => rfl) _ _) (hget _) (by rw [hget]; exact hyended.irq), hst', hview HlkPort.stage fun _ => rfl,
    hview HlkPort.session fun _ => rfl⟩

/-- An odd half ends its calibration. -/
theorem calEcho_odd {st : LinkState} (hst : st ≠ .up) {o : Nat} (h : s.dev.pairOf p.val = some (o, true)) :
    x.calGoesOn p.val st = x.oddUp o ∧ s.dev.CalEnded p.val (linkOf got (signed 16 (s.dev.get F.HLK_LINK_TRIM p.val)) % 2 ^ F.HLK_LINK.width) (x.oddUp o) := by
  have hended := Dev.calDone_ended hp hx
  obtain ⟨hmap, -, -, -⟩ := Dev.calDone_parts hx
  have hpair (k : Nat) : x.pairOf k = s.dev.pairOf k := Dev.pairOf_of_hmap hmap k
  refine ⟨Dev.calGoesOn_odd hst ((hpair _).trans h), ?_⟩
  obtain ⟨hget, hbit⟩ := x.oddUp_regs o
  have ho := Dev.pairOf_true h
  by_cases hzero : p.val = 0
  · have hnone : x.oddUp o = x := Dev.oddUp_none fun k hk => by
      have hop : o = p.val := by omega
      rw [hpair, hop, h] at hk
      cases hk
    rw [hnone]
    exact hended
  · have hone := x.oddUp_one (off := fun q => (q.calOn, q.calOut)) (fun _ _ _ => rfl) (fun _ => rfl) (fun _ _ => rfl) o
    have hop : o + 1 = p.val := by omega
    rw [hop] at hone
    exact hended.step hone (hget _ _ _ (by decide) (by decide)) (hbit _ _ (by decide) hended.irq)

/-- An odd half enters UP with its even half, or waits for it. -/
theorem calEcho_odd_state {st : LinkState} (hst : st = .calibrating) (hq : st = (s.dev.port p.val).st) {o : Nat} (hfull : s.dev.get F.HLK_CAL_SAMPLES p.val ≤ got.length)
    (hpo : s.dev.pairOf o = some (p.val, false)) (hne : o ≠ p.val) :
    ((s.dev.port o).st = .up → ((x.oddUp o).port p.val).st = .up ∧ ((x.oddUp o).port p.val).authOk = (s.dev.port o).authOk) ∧
      ((s.dev.port o).st ≠ .up → ((x.oddUp o).port p.val).st = .calibrating) := by
  obtain ⟨-, -, hsamples⟩ := Dev.calDone_regs hx
  obtain ⟨hmap, hlen, hother, hown⟩ := Dev.calDone_parts hx
  have hown := hown hp
  have hxpair : x.pairOf o = some (p.val, false) := (Dev.pairOf_of_hmap hmap o).trans hpo
  have hcal : (x.port p.val).st = .calibrating := by rw [hown]; exact hq.symm.trans hst
  have hready : ((x.port p.val).st = .authFailed || ((x.port p.val).st = .calibrating && x.get F.HLK_CAL_SAMPLES p.val ≤ (x.port p.val).calGot.length)) = true := by
    have hgot : (x.port p.val).calGot = got := by rw [hown]; rfl
    rw [hcal, hsamples, hgot, decide_eq_true hfull]
    rfl
  rw [Dev.oddUp_some hxpair, hother o hne]
  refine ⟨fun hup => ?_, fun hnot => ?_⟩
  · rw [if_neg (not_not.mpr hup), if_pos hready]
    have hat : (x.atUp p.val (s.dev.port o).authOk).port p.val = (x.port p.val).atUp x.raw (s.dev.port o).authOk := by
      rw [Dev.port_atUp]
      exact Dev.port_modPort_self (hlen ▸ hp) _
    have hup' := x.enterUp_only p.val (s.dev.port o).authOk
    have h1 := hup'.view HlkPort.st fun _ => rfl
    have h2 := hup'.view HlkPort.authOk fun _ => rfl
    rw [hat] at h1 h2
    exact ⟨h1, h2⟩
  · rw [if_pos hnot]
    exact hcal

end

end Sys2Proof.Machine
end


section
/-! PROOF. Late echoes, periods and the row HLK_CAL (R250, R256, R265; settles O4). -/

namespace Sys2Proof.Machine

/-! ### A port falls back -/

theorem Dev.PortsFall.view {d e : Dev} (h : d.PortsFall e) {P : HlkPort → Prop} (hP : ∀ q : HlkPort, P q.offRecs ↔ P q) {k : Nat} (hk : P (d.port k)) :
    P (e.port k) ∨ (e.port k).Fallen := by
  obtain hsame | hfall := h.port k
  · exact .inl ((hP _).mp (hsame ▸ (hP _).mpr hk))
  · exact .inr hfall

/-- A port that falls back is priming, or a reaction has disabled it; HLK_DOWN is reported. -/
theorem Dev.fallBack_shows {d : Dev} {p : Nat} (hp192 : p < 192) (hp : p < d.ports.length) :
    (((d.fallBack p).port p).st = .priming ∨ ((d.fallBack p).port p).st = .disabled) ∧ ((d.fallBack p).port p).calOut = none ∧ ((d.fallBack p).port p).calOn = false ∧
      has (d.fallBack p).flt.status (fkey (157 + p / 24) p) = true := by
  obtain ⟨say, hsay⟩ : ∃ say : Bool, say = ((d.port p).st = .up || (d.port p).st = .idle) := ⟨_, rfl⟩
  obtain ⟨x, hx⟩ : ∃ x, x = ((d.leavePort p 3 .priming say).laneDrain p).modPort p
      (fun q => { q with downRep := true, bcLock := false, mBack := none }) := ⟨_, rfl⟩
  have heq : d.fallBack p = if ((x.report (157 + p / 24) p).port p).st = .priming then (x.report (157 + p / 24) p).primePort p else x.report (157 + p / 24) p := by rw [hx, hsay]; rfl
  have hother := d.leavePort_other p 3 .priming say
  have hdrain := (Dev.oneLane p _).laneDrain (.refl _ _ (d.leavePort p 3 .priming say))
  have hlen : p < (((d.leavePort p 3 .priming say).laneDrain p)).ports.length := by
    rw [hdrain.length, hother.length]
    exact hp
  have hown := hdrain.own.trans (Dev.port_leavePort hp 3 .priming say)
  have hxport : (x.port p).st = .priming ∧ (x.port p).calOut = none ∧ (x.port p).calOn = false := by
    rw [hx, Dev.port_modPort_self hlen]
    have hview {α : Type} (g : HlkPort → α) (hg : ∀ q : HlkPort, g q.offLane = g q) :
        g (((d.leavePort p 3 .priming say).laneDrain p).port p) = g ((d.port p).left .priming d.raw) :=
      (hg _).symm.trans ((congrArg g hown).trans (hg _))
    exact ⟨hview HlkPort.st fun _ => rfl, hview HlkPort.calOut fun _ => rfl, hview HlkPort.calOn fun _ => rfl⟩
  have hxlen : p < x.ports.length := by rw [hx, Dev.length_modPort]; exact hlen
  obtain ⟨y, hy⟩ : ∃ y, y = x.report (157 + p / 24) p := ⟨_, rfl⟩
  have hfall : x.PortsFall y := hy ▸ x.portsFall_report _ _
  have hstatus : has y.flt.status (fkey (157 + p / 24) p) = true := by
    rw [hy]
    exact Dev.has_status_report _ _ _ (by omega)
  have hyport : ((y.port p).st = .priming ∧ (y.port p).calOut = none ∧ (y.port p).calOn = false) ∨ (y.port p).Fallen :=
    hfall.view (P := fun q => q.st = .priming ∧ q.calOut = none ∧ q.calOn = false) (fun _ => Iff.rfl) hxport
  rw [heq, ← hy]
  obtain ⟨hst, hout, hon⟩ | hfallen := hyport
  · rw [if_pos hst]
    have hkeep := y.primePort_only p
    obtain ⟨-, hflt, -⟩ := hkeep.parts
    rw [hflt]
    by_cases hmay : y.mayPrime p = true
    · rw [Dev.port_primePort hmay (hfall.length ▸ hxlen)]
      exact ⟨.inl rfl, rfl, hon, hstatus⟩
    · rw [Dev.primePort_of_not (Bool.not_eq_true _ ▸ hmay)]
      exact ⟨.inl hst, hout, hon, hstatus⟩
  · rw [if_neg (by rw [hfallen.st]; decide)]
    exact ⟨.inr hfallen.st, hfallen.cal.1, hfallen.cal.2, hstatus⟩

/-! ### Late echoes and periods -/

theorem gives_calEchoTimeout (p : Port) (s : State) : Gives (.calEchoTimeout p) s
    (if (s.dev.port p.val).calOut.isSome && (s.dev.port p.val).calAt + 1000000 ≤ s.dev.raw then
      if (s.dev.port p.val).st = .calibrating then s.dev.fallBack p.val else s.dev.modPort p.val (fun q => { q with calOn := false, calOut := none, calGot := [] })
    else s.dev) := rfl

theorem calEchoTimeout_waits {p : Port} {s : State} (h : (s.dev.port p.val).calOut = none ∨ s.dev.raw < (s.dev.port p.val).calAt + 1000000) :
    Gives (.calEchoTimeout p) s s.dev := by
  refine (gives_calEchoTimeout p s).congr (if_neg ?_)
  rw [Bool.and_eq_true, Option.isSome_iff_ne_none, decide_eq_true_eq]
  rintro ⟨hout, hdue⟩
  obtain h | h := h
  · exact hout h
  · exact Nat.not_le.mpr h hdue

theorem calEchoTimeout_ends {p : Port} {s : State} (hout : (s.dev.port p.val).calOut ≠ none) (hdue : (s.dev.port p.val).calAt + 1000000 ≤ s.dev.raw) :
    Gives (.calEchoTimeout p) s (if (s.dev.port p.val).st = .calibrating then s.dev.fallBack p.val
      else s.dev.modPort p.val (fun q => { q with calOn := false, calOut := none, calGot := [] })) := by
  refine (gives_calEchoTimeout p s).congr (if_pos ?_)
  rw [Bool.and_eq_true, Option.isSome_iff_ne_none, decide_eq_true_eq]
  exact ⟨hout, hdue⟩

theorem gives_calPeriod (p : Port) (s : State) : Gives (.calPeriod p) s
    (if s.dev.get F.HLK_CAL_PERIOD_MS p.val ≠ 0 && !(s.dev.port p.val).calOn &&
        (s.dev.port p.val).calAt + s.dev.get F.HLK_CAL_PERIOD_MS p.val * 1000000 ≤ s.dev.raw then
      if (s.dev.port p.val).st = .up then s.dev.modPort p.val (fun q => { q with calOn := true, calGot := [], calOut := none }) else s.dev
    else s.dev) := rfl

theorem calPeriod_waits {p : Port} {s : State} (h : s.dev.get F.HLK_CAL_PERIOD_MS p.val = 0 ∨
    s.dev.raw < (s.dev.port p.val).calAt + s.dev.get F.HLK_CAL_PERIOD_MS p.val * 1000000 ∨ (s.dev.port p.val).calOn = true ∨ (s.dev.port p.val).st ≠ .up) :
    Gives (.calPeriod p) s s.dev := by
  refine (gives_calPeriod p s).congr ?_
  by_cases hst : (s.dev.port p.val).st = .up
  · refine if_neg ?_
    rw [Bool.and_eq_true, Bool.and_eq_true, decide_eq_true_eq, decide_eq_true_eq, Bool.not_eq_true']
    rintro ⟨⟨hper, hon⟩, hdue⟩
    obtain h | h | h | h := h
    · exact hper h
    · exact Nat.not_le.mpr h hdue
    · exact Bool.false_ne_true (hon.symm.trans h)
    · exact h hst
  · rw [if_neg hst]
    exact ite_self _

theorem calPeriod_begins {p : Port} {s : State} (hper : s.dev.get F.HLK_CAL_PERIOD_MS p.val ≠ 0)
    (hdue : (s.dev.port p.val).calAt + s.dev.get F.HLK_CAL_PERIOD_MS p.val * 1000000 ≤ s.dev.raw) (hon : (s.dev.port p.val).calOn = false) (hst : (s.dev.port p.val).st = .up) :
    Gives (.calPeriod p) s (s.dev.modPort p.val (fun q => { q with calOn := true, calGot := [], calOut := none })) := by
  refine (gives_calPeriod p s).congr ((if_pos ?_).trans (if_pos hst))
  rw [hon, decide_eq_true hper, decide_eq_true hdue]
  rfl

/-! ### The row HLK_CAL -/

theorem storedAt_cal (rq : Requester) (p : Port) : StoredAt (canonAddr rq (hlkAddr p.val 0x50)) [(F.HLK_CAL_PERIOD_MS, p.val, 0, 0), (F.HLK_CAL_SAMPLES, p.val, 0, 0)] := by
  have h0 : fieldsAt (hlkAddr 0 0x50) = [(F.HLK_CAL_PERIOD_MS, 0, 0, 0), (F.HLK_CAL_SAMPLES, 0, 0, 0)] := by decide +kernel
  rw [canonAddr_hlkAddr rq _ (by decide) (by decide), StoredAt, fieldsAt_hlkAddr p.isLt (by decide), h0]
  rfl

/-- HLK_CAL as it is stored. -/
theorem Dev.storeWord_cal (d : Dev) (rq : Requester) (p : Port) (w : Word) {e : Dev} (he : e = d.storeWord rq (canonAddr rq (hlkAddr p.val 0x50)) w.toNat) :
    e.ports = d.ports ∧ e.get F.HLK_CAL_SAMPLES p.val = max 4 (w.toNat % 256) ∧ e.get F.HLK_CAL_PERIOD_MS p.val = w.toNat / 65536 := by
  have hw := w.isLt
  have hL := storedAt_cal rq p
  have hord : F.HLK_CAL_PERIOD_MS.ordinary ∧ F.HLK_CAL_SAMPLES.ordinary := by decide
  have hperm : d.Permits rq [(F.HLK_CAL_PERIOD_MS, p.val, 0, 0), (F.HLK_CAL_SAMPLES, p.val, 0, 0)] := by
    intro x hx
    simp only [List.mem_cons, List.not_mem_nil, or_false] at hx
    obtain rfl | rfl := hx
    · exact ⟨hord.1, rfl⟩
    · exact ⟨hord.2, rfl⟩
  have hperiod (old : Nat) : F.HLK_CAL_PERIOD_MS.clampVal (F.HLK_CAL_PERIOD_MS.withPart 0 old w.toNat) = w.toNat / 65536 := by
    rw [clampVal_of_none rfl (by decide)]
    change w.toNat / 2 ^ 16 % 2 ^ 16 = w.toNat / 65536
    omega
  have hsamples (old : Nat) : F.HLK_CAL_SAMPLES.clampVal (F.HLK_CAL_SAMPLES.withPart 0 old w.toNat) = max 4 (w.toNat % 256) := by
    rw [clampVal_of_range rfl (by decide) (by decide)]
    change max 4 (min 255 (w.toNat / 1 % 256)) = max 4 (w.toNat % 256)
    omega
  have hnorm : e = ((d.set F.HLK_CAL_PERIOD_MS (w.toNat / 65536) p.val).set F.HLK_CAL_SAMPLES (max 4 (w.toNat % 256)) p.val).normHlk p.val := by
    rw [he, Dev.storeWord_norm hL hperm (by simp), canonAddr_hlkAddr rq _ (by decide) (by decide), Dev.normPage_hlkAddr p.isLt (by decide)]
    simp only [Dev.storeFields, List.foldl_cons, List.foldl_nil, Dev.storeField_rw (f := F.HLK_CAL_PERIOD_MS) rfl, Dev.storeField_rw (f := F.HLK_CAL_SAMPLES) rfl, hperiod, hsamples]
  have hkeep (x : Dev) (g : Field) (hg : g.distinct F.HLK_TXEQ_POST = true) : (x.normHlk p.val).get g p.val = x.get g p.val := Dev.get_set_distinct _ hg ..
  rw [hnorm]
  refine ⟨rfl, ?_, ?_⟩
  · rw [hkeep _ _ (by decide), Dev.get_set_self]
    change max 4 (w.toNat % 256) % 256 = max 4 (w.toNat % 256)
    omega
  · rw [hkeep _ _ (by decide), Dev.get_set_distinct _ (by decide), Dev.get_set_self]
    change w.toNat / 65536 % 65536 = w.toNat / 65536
    omega

theorem calStart_stores {rq : Requester} {p : Port} {w : Word} {s : State} (h : s.Ready rq 0) :
    Completes (.calStart rq p w) s (fun d => d.get F.HLK_CAL_SAMPLES p.val = max 4 (w.toNat % 256) ∧ d.get F.HLK_CAL_PERIOD_MS p.val = w.toNat / 65536 ∧
      d.ports = (if w.toNat.testBit 15 = true ∧ (s.dev.port p.val).st = .up then
        (s.dev.modPort p.val (fun q => { q with calOn := true, calGot := [], calOut := none })).ports else s.dev.ports)) := by
  obtain ⟨e, he⟩ : ∃ e, e = s.dev.storeWord rq (canonAddr rq (hlkAddr p.val 0x50)) w.toNat := ⟨_, rfl⟩
  obtain ⟨hports, hsamples, hperiod⟩ := Dev.storeWord_cal s.dev rq p w he
  have hord : F.HLK_CAL_PERIOD_MS.ordinary ∧ F.HLK_CAL_SAMPLES.ordinary := by decide
  have hroles : ∀ x ∈ [((F.HLK_CAL_PERIOD_MS, p.val, 0, 0) : FieldPart), (F.HLK_CAL_SAMPLES, p.val, 0, 0)],
      x.1.ordinary ∧ (match x.1.role with | none => true | some y => decide (y.code ≤ 0)) = true := by
    intro x hx
    simp only [List.mem_cons, List.not_mem_nil, or_false] at hx
    obtain rfl | rfl := hx
    · exact ⟨hord.1, rfl⟩
    · exact ⟨hord.2, rfl⟩
  have hrow := State.row_word (act := ⟨15, none⟩) h (.calStart rq p w) (fun d => d.calBegin p.val) (inPages_hlkAddr p.isLt (by decide)) (storedAt_cal rq p) hroles rfl rfl he
  have hport : e.port p.val = s.dev.port p.val := by rw [Dev.port, hports]; rfl
  have hbegin (f : HlkPort → HlkPort) : (e.modPort p.val f).ports = (s.dev.modPort p.val f).ports := congrArg (fun l => setAt l p.val f) hports
  refine ⟨_, congrArg Host.Outcome.next hrow, ?_⟩
  by_cases hbit : w.toNat.testBit 15 = true
  · rw [if_pos hbit]
    by_cases hst : (s.dev.port p.val).st = .up
    · rw [if_pos ⟨hbit, hst⟩, Dev.calBegin, if_pos (hport ▸ hst)]
      exact ⟨hsamples, hperiod, hbegin _⟩
    · rw [if_neg fun hc => hst hc.2, Dev.calBegin, if_neg (hport ▸ hst)]
      exact ⟨hsamples, hperiod, hports⟩
  · rw [if_neg hbit, if_neg fun hc => hbit hc.1]
    exact ⟨hsamples, hperiod, hports⟩

/-- Settles O4: when a CAL frame goes out, what an echo adds, how the last one ends the calibration for each kind of port, and what follows an echo that is late. -/
theorem linksAreCalibrated : Obligations.LinksAreCalibrated := by
  unfold Obligations.LinksAreCalibrated
  rintro p s q rfl hp
  refine ⟨?_, ?_, calEchoTimeout_waits, ?_, ?_, fun rq w h => calStart_stores h⟩
  · rintro e due he hdue
    have hiff := hdue.trans (calDue_laneTick he).symm
    refine ⟨fun h => cal_waits he (hiff.not.mp h), fun h => ?_⟩
    have hsend := cal_sends he (hiff.mp h)
    exact ⟨hsend, _, hsend, Dev.mem_laneStart ..⟩
  · intro id ta t3
    refine ⟨fun h => (gives_calEcho p id ta t3 s).congr (Dev.calEchoed_none h ..), fun i t0 h => ⟨fun hs => (gives_calEcho p id ta t3 s).congr (Dev.calEchoed_stray h _ _ _ hs), ?_⟩⟩
    intro got hid hlock hst hgot
    have hmine := (gives_calEcho p id ta t3 s).congr (Dev.calEchoed_mine h ta.toNat t3 hid hlock hst hgot)
    refine ⟨fun hless => hmine.congr ((if_pos hless).trans (Dev.calTrip_eq ..)), fun hfull => ?_⟩
    have hgives := hmine.congr (if_neg (Nat.not_lt.mpr hfull))
    obtain ⟨x, hx⟩ : ∃ x, x = (s.dev.calTrip p.val got).calDone p.val got := ⟨_, rfl⟩
    rw [← hx] at hgives
    obtain ⟨st, hq⟩ : ∃ st, st = (s.dev.port p.val).st := ⟨_, rfl⟩
    rw [← hq] at hgives hst ⊢
    refine ⟨_, hgives, ?_⟩
    obtain hcal | hup := hst
    · have hnot : st ≠ .up := by rw [hcal]; decide
      by_cases hodd : ∃ o, s.dev.pairOf p.val = some (o, true)
      · obtain ⟨o, ho⟩ := hodd
        obtain ⟨hnext, hon, hout, hlink, hirq, hother⟩ := calEcho_odd hp hx hnot ho
        rw [hnext]
        refine ⟨hon, hout, hlink, hirq, hother, fun h => absurd h hnot, fun _ h => absurd ho (h o), fun _ o' ho' hpo hne => ?_⟩
        obtain rfl : o' = o := (Dev.pairOf_true ho').trans (Dev.pairOf_true ho).symm
        exact calEcho_odd_state hp hx hcal hq hfull hpo hne
      · obtain ⟨⟨hon, hout, hlink, hirq, hother⟩, hstate⟩ := calEcho_alone hp hx hnot fun o ho => hodd ⟨o, ho⟩
        exact ⟨hon, hout, hlink, hirq, hother, fun h => absurd h hnot, fun _ _ => hstate, fun _ o ho => absurd ⟨o, ho⟩ hodd⟩
    · obtain ⟨hnext, hstate, hsession⟩ := calEcho_up hp hx hup hq
      obtain ⟨hon, hout, hlink, hirq, hother⟩ := Dev.calDone_ended hp hx
      have hnot : st ≠ .calibrating := by rw [hup]; decide
      rw [hnext]
      exact ⟨hon, hout, hlink, hirq, hother, fun _ => ⟨hstate, hsession⟩, fun h => absurd h hnot, fun h => absurd h hnot⟩
  · intro hout hdue
    have hends := calEchoTimeout_ends hout hdue
    refine ⟨fun hst => hends.congr (if_neg hst), fun hst => ⟨_, hends.congr (if_pos hst), ?_⟩⟩
    exact Dev.fallBack_shows p.isLt hp
  · rintro n rfl
    exact ⟨calPeriod_waits, calPeriod_begins⟩

end Sys2Proof.Machine
end


section
/-! PROOF. The authentication of a head (R256, R259, R262, R263). -/

namespace Sys2Proof.Machine

/-! ### A port's causes under a report -/

section
variable {i n : Nat} (hn : n < F.HLK_IRQ_STAT.width)

/-- A cause of a port is set. -/
def Dev.HlkCause (i n : Nat) (d : Dev) : Prop := (d.get F.HLK_IRQ_STAT i).testBit n = true

theorem Dev.HlkCause.of_get {d e : Dev} (h : d.HlkCause i n) (he : e.get F.HLK_IRQ_STAT i = d.get F.HLK_IRQ_STAT i) : e.HlkCause i n := by
  rw [Dev.HlkCause, he]
  exact h

/-- What leaves the registers beyond a list without the causes keeps them. -/
theorem Dev.HlkCause.of_beyond (hi : i < 192) {S : List Field} {d e : Dev} (h : d.HlkCause i n) (hb : e.beyond S = d.beyond S) (hS : F.HLK_IRQ_STAT.clear S = true) : e.HlkCause i n :=
  h.of_get (Dev.get_of_beyond hb hS hi (by decide))

theorem Dev.HlkCause.modPort {d : Dev} (h : d.HlkCause i n) (p : Nat) (f : HlkPort → HlkPort) : (d.modPort p f).HlkCause i n := h

/-- A cause stays under what a lane does. -/
theorem Dev.HlkCause.onLane (p : Nat) : OnLane (fun e : Dev => e.HlkCause i n) p := ⟨fun _ _ h => h, fun f _ h => h.modPort p f⟩

include hn

theorem Dev.HlkCause.memDone {d : Dev} (h : d.HlkCause i n) (p st : Nat) : (d.memDone p st).HlkCause i n := by
  refine Dev.testBit_hlkIrq_of ?_ hn p 4
  rw [Dev.get_set_distinct _ (by decide), Dev.get_set_distinct _ (by decide)]
  exact h

variable (hi : i < 192)
include hi

theorem Dev.HlkCause.leavePort {d : Dev} (h : d.HlkCause i n) (p r : Nat) (next : LinkState) (say : Bool) : (d.leavePort p r next say).HlkCause i n := by
  have hsaid : (if say then d.inhibitPort p r else d).HlkCause i n := by
    split
    · exact h.of_beyond hi (Dev.beyond_inhibitPort (List.Subset.refl _) ..) (by decide)
    · exact h
  simp only [Dev.leavePort]
  split
  · exact Dev.HlkCause.memDone hn hsaid p 6
  · exact hsaid

theorem Dev.HlkCause.disablePort {d : Dev} (h : d.HlkCause i n) (p : Nat) (last : List (Nat × List Nat)) : (d.disablePort p last).HlkCause i n := by
  have hon := Dev.HlkCause.onLane (i := i) (n := n) p
  have hleft := Dev.HlkCause.leavePort hn hi (hon.wakeLane h) p 2 .disabled true
  have hsent (l : List (Nat × List Nat)) : (l.foldl (fun (d : Dev) (f : Nat × List Nat) => d.laneSend p f.1 f.2) ((d.wakeLane p).leavePort p 2 .disabled true)).HlkCause i n :=
    List.foldlRecOn _ _ hleft fun _ hd _ _ => hon.laneSend hd _ _
  unfold Dev.disablePort
  split
  · exact h
  · exact (hon.laneOff (hon.laneDrain (hsent _))).modPort p _

theorem Dev.HlkCause.fenceEffect {d : Dev} (h : d.HlkCause i n) (u : FUnit) : (d.fenceEffect u).HlkCause i n := by
  cases u with
  | port p => exact Dev.HlkCause.disablePort hn hi h p []
  | ddr c => exact h.of_beyond hi (Dev.beyond_fenceChannel (List.Subset.refl _) ..) (by decide)
  | cam c => exact h.of_beyond hi (Dev.beyond_stopCamera (List.Subset.refl _) ..) (by decide)
  | isp => exact h.of_beyond hi (Dev.beyond_stopIsp (List.Subset.refl _) ..) (by decide)
  | enc k => exact h.of_get (Dev.get_set_distinct _ (by decide) ..)
  | _ => exact h

/-- A cause of a port that is set outlives a report. -/
theorem Dev.outlives_hlkCause : Outlives (fun d => d.HlkCause i n) where
  flt _ _ h := h
  overwrites _ h := h.of_get (Dev.get_bump_distinct _ (by decide) ..)
  lastSrc _ _ h := h.of_get (Dev.get_set_distinct _ (by decide) ..)
  irq _ _ h := h.of_beyond (S := [F.FLT_IRQ_STAT]) hi (Dev.beyond_irq _ _ _ (List.Subset.refl _) _ _ _) (by decide)
  fence _ u h := Dev.HlkCause.fenceEffect hn hi h u
  stop _ _ h := h.of_beyond hi (Dev.beyond_stopTrigger (List.Subset.refl _) ..) (by decide)
  settle _ _ h := h.of_beyond hi (Dev.beyond_settle (List.Subset.refl _) ..) (by decide)

end

/-! ### The exchange fails -/

/-- A port whose exchange has failed. -/
structure HlkPort.Failed (q : HlkPort) : Prop where
  session : q.session = none
  stage : q.stage = 0
  authOk : q.authOk = false

/-- Without a session a port that enters UP reads no usage words. -/
theorem Dev.enterUp_of_none {d : Dev} {p : Nat} (h : (d.port p).session = none) (hp : p < d.ports.length) (auth : Bool) : d.enterUp p auth = d.atUp p auth := by
  have hat : ((d.atUp p auth).port p).session = none := by
    rw [Dev.port_atUp, Dev.port_modPort_self hp]
    exact h
  rw [Dev.enterUp_eq, Dev.usageRead, hat]
  simp

/-- What a failed exchange makes of the port, before it is reported. -/
def Dev.authFalls (d : Dev) (p : Nat) (was : LinkState) : Dev :=
  if d.flag F.HLK_CTRL_REQUIRE_AUTH p then
    let d := d.leavePort p 3 .authFailed (was = .up)
    match d.pairOf p with
    | some (o, false) => if (d.port o).st = .up || (d.port o).st = .idle then d.leavePort o 3 .authFailed true else d
    | _ => d
  else if was = .up then (d.modPort p (fun q => { q with authOk := false })).oddUp p
  else (d.enterUp p false).oddUp p

theorem Dev.authFail_eq (d : Dev) (p : Nat) : d.authFail p =
    (((d.modPort p (fun q => { q with stage := 0, session := none, chal := [], nonce := [] })).authFalls p (d.port p).st).hlkIrq p 2).report 165 p := rfl

/-- The result of an even port does not reach that port itself. -/
theorem Dev.port_oddUp (d : Dev) (p : Nat) : (d.oddUp p).port p = d.port p ∧ (d.oddUp p).ports.length = d.ports.length := by
  have h := d.oddUp_one (off := fun _ => ()) (fun _ _ _ => rfl) (fun _ => rfl) (fun _ _ => rfl) p
  exact ⟨h.other p (by omega), h.length⟩

theorem Dev.authFalls_port {d : Dev} {p : Nat} (hp : p < d.ports.length) (hsession : (d.port p).session = none) (hstage : (d.port p).stage = 0) {was : LinkState}
    (hwas : was = (d.port p).st) :
    ((d.authFalls p was).port p).Failed ∧ ((d.authFalls p was).port p).st = (if d.get F.HLK_CTRL_REQUIRE_AUTH p ≠ 0 then .authFailed else .up) := by
  by_cases hreq : d.get F.HLK_CTRL_REQUIRE_AUTH p ≠ 0
  · rw [if_pos hreq]
    obtain ⟨x, hx⟩ : ∃ x, x = d.leavePort p 3 .authFailed (was = .up) := ⟨_, rfl⟩
    have hown := Dev.port_leavePort hp 3 .authFailed (was = .up)
    rw [← hx] at hown
    have hview {α : Type} (g : HlkPort → α) (hg : ∀ q : HlkPort, g q.offLane = g q) : g (x.port p) = g ((d.port p).left .authFailed d.raw) :=
      (hg _).symm.trans ((congrArg g hown).trans (hg _))
    have hleft : (x.port p).Failed ∧ (x.port p).st = .authFailed :=
      ⟨⟨hview HlkPort.session fun _ => rfl, hview HlkPort.stage fun _ => rfl, hview HlkPort.authOk fun _ => rfl⟩, hview HlkPort.st fun _ => rfl⟩
    simp only [Dev.authFalls, if_pos ((Dev.flag_eq_true ..).mpr hreq), ← hx]
    split
    · next o ho =>
      have hne : p ≠ o := by rw [Dev.pairOf_false ho]; omega
      split
      · rw [(x.leavePort_other o 3 .authFailed true).other p hne]
        exact hleft
      · exact hleft
    · exact hleft
  · rw [if_neg hreq, Dev.authFalls, if_neg fun hf => hreq ((Dev.flag_eq_true ..).mp hf)]
    by_cases hup : was = .up
    · rw [if_pos hup, (Dev.port_oddUp ..).1, Dev.port_modPort_self hp]
      exact ⟨⟨hsession, hstage, rfl⟩, hwas.symm.trans hup⟩
    · rw [if_neg hup, (Dev.port_oddUp ..).1, Dev.enterUp_of_none hsession hp, Dev.port_atUp, Dev.port_modPort_self hp]
      exact ⟨⟨hsession, rfl, rfl⟩, rfl⟩

theorem Dev.length_authFalls {d : Dev} {p : Nat} (was : LinkState) : (d.authFalls p was).ports.length = d.ports.length := by
  have hodd (x : Dev) : (x.oddUp p).ports.length = x.ports.length := (Dev.port_oddUp ..).2
  simp only [Dev.authFalls]
  split
  · have hleave := (d.leavePort_other p 3 .authFailed (was = .up)).length
    split
    · split
      · exact (Dev.leavePort_other ..).length.trans hleave
      · exact hleave
    · exact hleave
  · split
    · rw [hodd, Dev.length_modPort]
    · rw [hodd, (Dev.enterUp_one (off := fun _ => ()) (fun _ _ _ => rfl) (fun _ => rfl) d p false).length]

/-- A failed exchange, as it is shown. -/
def Dev.AuthFailed (s : Dev) (p : Nat) (d : Dev) : Prop :=
  (d.port p).session = none ∧ (d.port p).stage = 0 ∧ (d.port p).authOk = false ∧ has d.flt.status (fkey 165 p) = true ∧ (d.get F.HLK_IRQ_STAT p).testBit 2 = true ∧
    (s.get F.HLK_CTRL_REQUIRE_AUTH p ≠ 0 → (d.port p).st = .authFailed ∨ (d.port p).st = .disabled) ∧
    (s.get F.HLK_CTRL_REQUIRE_AUTH p = 0 → (d.port p).st = .up ∨ (d.port p).st = .disabled)

theorem Dev.authFail_shows {d : Dev} {p : Nat} (hp192 : p < 192) (hp : p < d.ports.length) : d.AuthFailed p (d.authFail p) := by
  obtain ⟨x, hx⟩ : ∃ x, x = d.modPort p (fun q => { q with stage := 0, session := none, chal := [], nonce := [] }) := ⟨_, rfl⟩
  obtain ⟨y, hy⟩ : ∃ y, y = (x.authFalls p (d.port p).st).hlkIrq p 2 := ⟨_, rfl⟩
  have heq : d.authFail p = y.report 165 p := by rw [Dev.authFail_eq, hy, hx]
  have hport : x.port p = { d.port p with stage := 0, session := none, chal := [], nonce := [] } := by rw [hx]; exact Dev.port_modPort_self hp _
  have hreq : x.get F.HLK_CTRL_REQUIRE_AUTH p = d.get F.HLK_CTRL_REQUIRE_AUTH p := by rw [hx, Dev.get_modPort]
  have hxlen : p < x.ports.length := by rw [hx, Dev.length_modPort]; exact hp
  obtain ⟨hfailed, hst⟩ := Dev.authFalls_port hxlen (by rw [hport]) (by rw [hport]) (was := (d.port p).st) (by rw [hport])
  have hyports : y.ports = (x.authFalls p (d.port p).st).ports := hy ▸ unfenced_ports.irq ..
  have hyport : y.port p = (x.authFalls p (d.port p).st).port p := by rw [Dev.port, hyports]; rfl
  rw [← hyport] at hfailed hst
  rw [hreq] at hst
  obtain ⟨v, hv⟩ : ∃ v, v = (y.port p).st := ⟨_, rfl⟩
  rw [← hv] at hst
  have hview := (y.portsFall_report 165 p).view (P := fun q => (q.session = none ∧ q.stage = 0 ∧ q.authOk = false) ∧ q.st = v) (fun _ => Iff.rfl) (k := p)
    ⟨⟨hfailed.session, hfailed.stage, hfailed.authOk⟩, hv.symm⟩
  have hends : (((y.report 165 p).port p).session = none ∧ ((y.report 165 p).port p).stage = 0 ∧ ((y.report 165 p).port p).authOk = false) ∧
      (((y.report 165 p).port p).st = v ∨ ((y.report 165 p).port p).st = .disabled) := by
    obtain ⟨hkeep, hsame⟩ | hfall := hview
    · exact ⟨hkeep, .inl hsame⟩
    · exact ⟨⟨hfall.session, hfall.stage, hfall.authOk⟩, .inr hfall.st⟩
  obtain ⟨⟨h1, h2, h3⟩, hstate⟩ := hends
  have hcause : (y.report 165 p).HlkCause p 2 := (Dev.outlives_hlkCause (by decide) hp192).report (hy ▸ Dev.testBit_hlkIrq _ _ (by decide)) 165 p
  rw [heq]
  refine ⟨h1, h2, h3, Dev.has_status_report _ _ _ (by omega), hcause, fun hr => ?_, fun hr => ?_⟩
  · rw [if_pos hr] at hst
    exact hst ▸ hstate
  · rw [if_neg (not_not.mpr hr)] at hst
    exact hst ▸ hstate

end Sys2Proof.Machine
end


section
/-! PROOF. The authentication exchange step by step, and the head key (R259, R262, R263). -/

namespace Sys2Proof.Machine

/-! ### The exchange ends without an answer, or begins again -/

theorem gives_authTimeout (p : Port) (s : State) : Gives (.authTimeout p) s
    (if (s.dev.port p.val).stage ≠ 0 && (s.dev.port p.val).authAt + 2000000 ≤ s.dev.raw then s.dev.authFail p.val else s.dev) := rfl

theorem authTimeout_waits {p : Port} {s : State} (h : (s.dev.port p.val).stage = 0 ∨ s.dev.raw < (s.dev.port p.val).authAt + 2000000) : Gives (.authTimeout p) s s.dev := by
  refine (gives_authTimeout p s).congr (if_neg ?_)
  rw [Bool.and_eq_true, decide_eq_true_eq, decide_eq_true_eq]
  rintro ⟨hstage, hdue⟩
  obtain h | h := h
  · exact hstage h
  · exact Nat.not_le.mpr h hdue

theorem authTimeout_fails {p : Port} {s : State} (hstage : (s.dev.port p.val).stage ≠ 0) (hdue : (s.dev.port p.val).authAt + 2000000 ≤ s.dev.raw) :
    Gives (.authTimeout p) s (s.dev.authFail p.val) := by
  refine (gives_authTimeout p s).congr (if_pos ?_)
  rw [decide_eq_true hstage, decide_eq_true hdue]
  rfl

/-- What REAUTH does. -/
def Dev.reauth (d : Dev) (p : Nat) : Dev :=
  if d.oddPort p then d
  else match (d.port p).st with
    | .authFailed => (d.modPort p (fun q => { q with st := .authenticating, since := d.now })).authStart p
    | .up => d.authStart p
    | _ => d

theorem Dev.reauth_none {d : Dev} {p : Nat} (h : d.oddPort p = true ∨ ((d.port p).st ≠ .authFailed ∧ (d.port p).st ≠ .up)) : d.reauth p = d := by
  obtain h | ⟨hfailed, hup⟩ := h
  · exact if_pos h
  · rw [Dev.reauth]
    split
    · rfl
    · split
      · next h => exact absurd h hfailed
      · next h => exact absurd h hup
      · rfl

/-- A port whose exchange has begun again. -/
structure Dev.Reauthed (d : Dev) (p : Nat) (e : Dev) : Prop where
  st : (e.port p).st = if (d.port p).st = .up then .up else .authenticating
  stage : (e.port p).stage = 1
  session : (e.port p).session = none
  chal : (e.port p).chal = challenge d.free
  master : (e.port p).master = d.mram.keyM.getD (List.replicate 32 0)
  other : ∀ k, k ≠ p → e.port k = d.port k

theorem Dev.authStart_begins {d : Dev} {p : Nat} (hp : p < d.ports.length) : ((d.authStart p).port p).st = (d.port p).st ∧ ((d.authStart p).port p).stage = 1 ∧
    ((d.authStart p).port p).session = none ∧ ((d.authStart p).port p).chal = challenge d.free ∧ ((d.authStart p).port p).master = d.mram.keyM.getD (List.replicate 32 0) := by
  obtain ⟨hown, -, -⟩ := Dev.authStart_shows hp
  have hview {α : Type} (g : HlkPort → α) (hg : ∀ q : HlkPort, g q.offTx = g q) :
      g ((d.authStart p).port p) = g ((d.port p).authBegun d.raw d.free (d.mram.keyM.getD (List.replicate 32 0))) := (hg _).symm.trans ((congrArg g hown).trans (hg _))
  exact ⟨hview HlkPort.st fun _ => rfl, hview HlkPort.stage fun _ => rfl, hview HlkPort.session fun _ => rfl, hview HlkPort.chal fun _ => rfl, hview HlkPort.master fun _ => rfl⟩

theorem Dev.reauth_begins {d : Dev} {p : Nat} (hp : p < d.ports.length) (hodd : d.oddPort p = false) (hst : (d.port p).st = .authFailed ∨ (d.port p).st = .up) :
    d.Reauthed p (d.reauth p) := by
  have hnot : ¬ d.oddPort p = true := by rw [hodd]; exact Bool.false_ne_true
  obtain hst | hst := hst
  · obtain ⟨x, hx⟩ : ∃ x, x = d.modPort p (fun q => { q with st := .authenticating, since := d.now }) := ⟨_, rfl⟩
    have heq : d.reauth p = x.authStart p := by rw [Dev.reauth, if_neg hnot, hst, hx]
    have hport : x.port p = { d.port p with st := .authenticating, since := d.now } := by rw [hx]; exact Dev.port_modPort_self hp _
    have hsame : x.free = d.free ∧ x.mram = d.mram := by rw [hx]; exact ⟨rfl, rfl⟩
    have hlen : p < x.ports.length := by rw [hx, Dev.length_modPort]; exact hp
    obtain ⟨h1, h2, h3, h4, h5⟩ := Dev.authStart_begins hlen
    have hne : (d.port p).st ≠ .up := by rw [hst]; decide
    rw [hport] at h1
    rw [hsame.1] at h4
    rw [hsame.2] at h5
    rw [heq]
    refine ⟨h1.trans (if_neg hne).symm, h2, h3, h4, h5, fun k hk => ?_⟩
    rw [(Dev.authStart_shows hlen).2.1 k hk, hx, Dev.port_modPort_ne _ hk]
  · have heq : d.reauth p = d.authStart p := by rw [Dev.reauth, if_neg hnot, hst]
    obtain ⟨h1, h2, h3, h4, h5⟩ := Dev.authStart_begins hp
    rw [heq]
    exact ⟨h1.trans (hst.trans (if_pos hst).symm), h2, h3, h4, h5, (Dev.authStart_shows hp).2.1⟩

/-- The idle timer is no part of what a port's exchange rests on. -/
theorem Dev.link_touch (d : Dev) (rq : Requester) : (d.touch rq).ports = d.ports ∧ (d.touch rq).hmap = d.hmap ∧ (d.touch rq).free = d.free ∧ (d.touch rq).mram = d.mram := by
  obtain ht | ⟨x, ht⟩ := d.touch_cases rq
  · rw [ht]
    exact ⟨rfl, rfl, rfl, rfl⟩
  · rw [ht]
    cases rq <;> exact ⟨rfl, rfl, rfl, rfl⟩

theorem Dev.oddPort_of_hmap {d e : Dev} (h : e.hmap = d.hmap) (p : Nat) : e.oddPort p = d.oddPort p := by rw [Dev.oddPort, Dev.pairOf_of_hmap h]; rfl

section
variable {rq : Requester} {p : Port} {s : State} (h : s.Ready rq 2)
include h

theorem exec_hlkReauth : ∃ old new, exec (.hlkReauth rq p) s =
    .next (({ s with dev := (s.dev.touch rq).reauth p.val } : State).pushAudit (some rq) (s.dev.entry rq (0x1000068 + 0x1000 * p.val) old new)) := by
  have hbare := portWord_bare rq p (o := 0x68) (by decide) (by decide) (by decide +kernel)
  have haddr : hlkAddr p.val 0x68 = 0x1000068 + 0x1000 * p.val := by rw [hlkAddr]; omega
  obtain ⟨old, new, hrow⟩ := State.row_audited h (.hlkReauth rq p) (hlkAddr p.val 0x68) 1 ⟨0, some .installer⟩ (fun d => d.reauth p.val) (inPages_hlkAddr p.isLt (by decide)) hbare
    (by decide) (by decide) (by decide)
  exact ⟨old, new, haddr ▸ congrArg Host.Outcome.next hrow⟩

theorem hlkReauth_stays (hno : s.dev.oddPort p.val = true ∨ ((s.dev.port p.val).st ≠ .authFailed ∧ (s.dev.port p.val).st ≠ .up)) :
    GivesAudited (.hlkReauth rq p) s rq (0x1000068 + 0x1000 * p.val) (s.dev.touch rq) := by
  obtain ⟨old, new, hexec⟩ := exec_hlkReauth (p := p) h
  obtain ⟨hports, hmap, -, -⟩ := s.dev.link_touch rq
  have hport : (s.dev.touch rq).port p.val = s.dev.port p.val := by rw [Dev.port, hports]; rfl
  rw [Dev.reauth_none (by rw [Dev.oddPort_of_hmap hmap, hport]; exact hno)] at hexec
  exact ⟨old, new, hexec⟩

theorem hlkReauth_begins (hp : p.val < s.dev.ports.length) (hodd : s.dev.oddPort p.val = false) (hst : (s.dev.port p.val).st = .authFailed ∨ (s.dev.port p.val).st = .up) :
    CompletesAudited (.hlkReauth rq p) s rq (0x1000068 + 0x1000 * p.val) (fun d =>
      (d.port p.val).st = (if (s.dev.port p.val).st = .up then .up else .authenticating) ∧ (d.port p.val).stage = 1 ∧ (d.port p.val).session = none ∧
      (d.port p.val).chal = (List.range 32).map (fun k => (Config.randomByte (s.dev.free + k)).toNat) ∧
      (d.port p.val).master = s.dev.mram.keyM.getD (List.replicate 32 0) ∧ ∀ k, k ≠ p.val → d.port k = s.dev.port k) := by
  obtain ⟨old, new, hexec⟩ := exec_hlkReauth (p := p) h
  obtain ⟨hports, hmap, hfree, hmram⟩ := s.dev.link_touch rq
  have hport (k : Nat) : (s.dev.touch rq).port k = s.dev.port k := by rw [Dev.port, hports]; rfl
  have hre := Dev.reauth_begins (d := s.dev.touch rq) (p := p.val) (hports ▸ hp) (by rw [Dev.oddPort_of_hmap hmap]; exact hodd) (by rw [hport]; exact hst)
  refine ⟨_, old, new, hexec, ?_, hre.stage, hre.session, ?_, ?_, fun k hk => (hre.other k hk).trans (hport k)⟩
  · rw [hre.st, hport]
  · rw [hre.chal, hfree]
    rfl
  · rw [hre.master, hmram]

end

/-! ### The head key -/

theorem headKeyCommit_keeps {rq : Requester} {w : Word} {s : State} (h : s.Ready rq 3) : CompletesAudited (.headKeyCommit rq w) s rq 0x10000FC (fun d =>
    d.mram.keyM = some ((((List.range 7).map (fun k => s.dev.get F.HLK_KEY 0 k)) ++ [w.toNat]).flatMap (bytesLE 4)) ∧ d.ports = s.dev.ports) := by
  obtain ⟨x, hx⟩ : ∃ x, x = s.dev.set F.HLK_KEY w.toNat 0 7 := ⟨_, rfl⟩
  have hw : w.toNat % 2 ^ 32 = w.toNat := Nat.mod_eq_of_lt w.isLt
  have hkeys : (List.range 8).map (fun k => x.get F.HLK_KEY 0 k) = (List.range 7).map (fun k => s.dev.get F.HLK_KEY 0 k) ++ [w.toNat] := by
    rw [List.range_succ, List.map_append, List.map_singleton]
    congr 1
    · refine List.map_congr_left fun k hk => ?_
      have hk7 := List.mem_range.mp hk
      rw [hx, Dev.get_set_ne _ _ _ _ _ _ _ _ ?_]
      simp only [Field.key, Field.addr, F.HLK_KEY]
      omega
    · rw [hx, Dev.get_set_self]
      exact congrArg (fun n => [n]) hw
  have hrow := State.roleWrite_audited h (.headKeyCommit rq w) (hlkAddr 0 0xFC) (some .maker) (fun d => digestWord (sha256 (d.mram.keyM.getD (List.replicate 32 0))))
    (fun d => { (d.set F.HLK_KEY w.toNat 0 7).mramWrote 8 with mram := { d.mram with keyM := some (hlkBytes ((List.range 8).map (fun k => (d.set F.HLK_KEY w.toNat 0 7).get F.HLK_KEY 0 k))) } })
    (by decide) (by decide) (by decide)
  refine ⟨_, _, _, congrArg Host.Outcome.next hrow, ?_, ?_⟩
  · rw [Dev.mram_touch, ← hx, hkeys]
    rfl
  · exact (Dev.link_touch _ rq).1

end Sys2Proof.Machine
end


section
/-! PROOF. Commands on their way to a head (R246, R261, R264). -/

namespace Sys2Proof.Machine

/-! ### A port whose session goes on -/

/-- A port but for what its transmitter holds beside its mode, the link delay sent and its commands. -/
noncomputable def HlkPort.offCmd (q : HlkPort) : HlkPort :=
  { q with tx := { mode := q.tx.mode }, linkOut := 0, ctrTx := 0, txn := 0, memQ := [], memNow := none, useAt := 0 }

theorem Dev.onTxCmd (p : Nat) (d : Dev) : OnTx (d.PortOnly HlkPort.offCmd p) p where
  emit o _ h := h.emit o
  modTx f hf h := h.modPort (by simp only [HlkPort.offCmd, hf])
  link _ h := h.modPort rfl

theorem Dev.laneTick_cmd (d : Dev) (p : Nat) : d.PortOnly HlkPort.offTx p (d.laneTick p) := (Dev.onTx p d).laneTick (.refl ..)

/-- Below a full counter a command that is sent, or none, leaves the session. -/
theorem Dev.memKick_cmd {d : Dev} {p : Nat} (h : (d.port p).ctrTx < 0xFFFF0000) : d.PortOnly HlkPort.offCmd p (d.memKick p) := by
  have htick : d.PortOnly HlkPort.offCmd p (d.laneTick p) := (Dev.onTxCmd p d).laneTick (.refl ..)
  have hctr : ((d.laneTick p).port p).ctrTx = (d.port p).ctrTx := (d.laneTick_cmd p).view HlkPort.ctrTx fun _ => rfl
  have hnot : ¬ (((d.laneTick p).port p).session.isSome && 0xFFFF0000 ≤ ((d.laneTick p).port p).ctrTx) = true := by
    rw [Bool.and_eq_true, decide_eq_true_eq, hctr]
    exact fun hf => Nat.not_le.mpr h hf.2
  unfold Dev.memKick
  dsimp only
  split
  · exact htick
  · split
    · exact htick
    · refine (Dev.onTxCmd p d).laneStart (htick.modPort ?_) _ _
      rfl

theorem Dev.memAuto_cmd {d : Dev} {p : Nat} (h : (d.port p).ctrTx < 0xFFFF0000) (op count addr : Nat) : d.PortOnly HlkPort.offCmd p (d.memAuto p op count addr) := by
  obtain ⟨x, hx⟩ : ∃ x, x = d.modPort p (fun q => { q with
    memQ := q.memQ.filter (fun m => m.auto) ++ [{ op, count, addr, data := [], auto := true }] ++ q.memQ.filter (fun m => !m.auto) }) := ⟨_, rfl⟩
  have hkeep : d.PortOnly HlkPort.offCmd p x := hx ▸ (Dev.PortOnly.refl ..).modPort rfl
  have hctr : (x.port p).ctrTx < 0xFFFF0000 := by
    rw [hx, Dev.port_modPort]
    split <;> exact h
  rw [Dev.memAuto, ← hx]
  exact hkeep.trans (Dev.memKick_cmd hctr)

theorem Dev.usageRead_cmd {d : Dev} {p : Nat} (h : (d.port p).ctrTx < 0xFFFF0000) : d.PortOnly HlkPort.offCmd p (d.usageRead p) := by
  unfold Dev.usageRead
  split
  · exact .refl ..
  · have hctr : ((d.modPort p (fun q => { q with useAt := d.now })).port p).ctrTx < 0xFFFF0000 := by
      rw [Dev.port_modPort]
      split <;> exact h
    exact ((Dev.PortOnly.refl ..).modPort rfl).trans (Dev.memAuto_cmd hctr ..)

/-! ### A lane at the present time -/

/-- A transmitter when up to n words of its frame have gone out. -/
def LaneTx.put (t : LaneTx) (n : Nat) : LaneTx :=
  let x := LaneTx.puts 1024 (t.cur.take n) t
  { x.2.2 with cur := x.2.1 ++ t.cur.drop n }

/-- A transmitter when a frame has started. -/
def LaneTx.started (t : LaneTx) (p ftype : Nat) (payload : List Nat) (now : Nat) (ns : Nat → Nat) : LaneTx :=
  let ws := frameWords p ftype payload
  { t with ftype, cur := ws, total := ws.length, startAt := now, endAt := now + ns ws.length }

/-- What a port's transmitter is at a time. -/
def HlkPort.ticked (q : HlkPort) (p now : Nat) (ns : Nat → Nat) : LaneTx :=
  if !q.onLane || now < q.tx.endAt then q.tx
  else if !(q.tx.put q.tx.cur.length).cur.isEmpty then q.tx.put q.tx.cur.length
  else match ({ q with tx := q.tx.put q.tx.cur.length } : HlkPort).nextFrame false with
    | some f => ({ q.tx.put q.tx.cur.length with waits := (q.tx.put q.tx.cur.length).waits.erase f } : LaneTx).started p f.1 f.2 now ns
    | none => q.tx.put q.tx.cur.length

theorem Dev.port_putFrame {d : Dev} {p : Nat} (hp : p < d.ports.length) (n : Nat) : (d.putFrame p n).port p = { d.port p with tx := (d.port p).tx.put n } := by
  have hports : (d.putFrame p n).ports = (d.modTx p (fun _ => (d.port p).tx.put n)).ports := Dev.ports_lineOut ..
  rw [Dev.port, hports]
  exact Dev.port_modPort_self hp _

theorem Dev.port_laneStart {d : Dev} {p : Nat} (hp : p < d.ports.length) (ftype : Nat) (ws : List Nat) :
    (d.laneStart p ftype ws).port p = { d.port p with tx := (d.port p).tx.started p ftype ws d.now (fun n => d.wordsNs p n) } := Dev.port_modPort_self hp _

theorem Dev.tx_laneTick {d : Dev} {p : Nat} (hp : p < d.ports.length) : ((d.laneTick p).port p).tx = (d.port p).ticked p d.now (fun n => d.wordsNs p n) := by
  obtain ⟨x, hx⟩ : ∃ x, x = d.putFrame p (d.port p).tx.cur.length := ⟨_, rfl⟩
  have hput : x.port p = { d.port p with tx := (d.port p).tx.put (d.port p).tx.cur.length } := hx ▸ Dev.port_putFrame hp _
  have hkeep : d.PortOnly HlkPort.offTx p x := hx ▸ (Dev.onTx p d).putFrame (.refl ..) _
  obtain ⟨hgroups, -, hraw, -⟩ := hkeep.parts
  have hlen : p < x.ports.length := hkeep.length ▸ hp
  have hns : (fun n => x.wordsNs p n) = fun n => d.wordsNs p n := by
    funext n
    rw [Dev.wordsNs, Dev.mbOf, hgroups]
    rfl
  rw [Dev.laneTick, HlkPort.ticked]
  by_cases hbusy : (!(d.port p).onLane || d.now < (d.port p).tx.endAt) = true
  · rw [if_pos hbusy, if_pos hbusy]
  · rw [if_neg hbusy, if_neg hbusy]
    dsimp only
    rw [← hx, hput]
    by_cases hleft : (!((d.port p).tx.put (d.port p).tx.cur.length).cur.isEmpty) = true
    · rw [if_pos hleft, if_pos hleft, hput]
    · rw [if_neg hleft, if_neg hleft]
      cases ({ d.port p with tx := (d.port p).tx.put (d.port p).tx.cur.length } : HlkPort).nextFrame false with
      | some f =>
        have hmod : (x.modTx p (fun t => { t with waits := t.waits.erase f })).port p =
            { x.port p with tx := { (x.port p).tx with waits := (x.port p).tx.waits.erase f } } := Dev.port_modPort_self hlen _
        have hns' : (fun n => (x.modTx p (fun t => { t with waits := t.waits.erase f })).wordsNs p n) = fun n => d.wordsNs p n := hns
        dsimp only
        rw [Dev.port_laneStart (by rw [Dev.modTx, Dev.length_modPort]; exact hlen), hmod, hput, hns']
        exact congrArg (fun r => LaneTx.started _ p f.1 f.2 r _) hraw
      | none => rw [hput]

/-- Two ports with the same transmitter and records stand alike on their lanes. -/
theorem HlkPort.ticked_congr {q r : HlkPort} (htx : q.tx = r.tx) (hrecs : q.recs = r.recs) (p now : Nat) (ns : Nat → Nat) : q.ticked p now ns = r.ticked p now ns := by
  have hnext (t : LaneTx) : ({ q with tx := t } : HlkPort).nextFrame false = ({ r with tx := t } : HlkPort).nextFrame false := by
    simp only [HlkPort.nextFrame, HlkPort.recWaits, hrecs]
  rw [HlkPort.ticked, HlkPort.ticked, HlkPort.onLane, HlkPort.onLane, htx, hnext]

/-- The lane of a port goes on alike in two devices that agree in what it rests on. -/
theorem Dev.tx_laneTick_congr {d e : Dev} {p : Nat} (hp : p < d.ports.length) (hlen : e.ports.length = d.ports.length) (htx : (e.port p).tx = (d.port p).tx)
    (hrecs : (e.port p).recs = (d.port p).recs) (hgroups : e.groups = d.groups) (hraw : e.raw = d.raw) : ((e.laneTick p).port p).tx = ((d.laneTick p).port p).tx := by
  have hns : (fun n => e.wordsNs p n) = fun n => d.wordsNs p n := by
    funext n
    rw [Dev.wordsNs, Dev.mbOf, hgroups]
    rfl
  rw [Dev.tx_laneTick hp, Dev.tx_laneTick (hlen ▸ hp), show e.now = d.now from hraw, hns, HlkPort.ticked_congr htx hrecs]

end Sys2Proof.Machine
end


section
/-! PROOF. What a frame of a head's memory makes of an exchange (R261, R262, R263). -/

namespace Sys2Proof.Machine

/-! ### Which frame it is -/

/-- What a frame makes of a device that has noted it, by the port as it was. -/
def Dev.memAnswered (d : Dev) (p : Nat) (q : HlkPort) (ws : List Nat) : Dev :=
  let op := bits (ws.headD 0) 28 4
  let txn := bits (ws.headD 0) 16 8
  let mine := txn = (q.txn + 255) % 256
  if q.stage = 1 && op = 4 && mine then (if bits (ws.headD 0) 24 4 = 0 then d.authProve p ws else d.authFail p)
  else if q.stage = 2 && op = 5 && mine then (if bits (ws.headD 0) 24 4 = 0 then d.authDone p else d.authFail p)
  else match q.memNow with
    | some m => if op = m.op && txn = m.txn then d.memReply p m ws else d
    | none => d

/-- What a frame makes of a port that is disabled. -/
def Dev.memClosed (d : Dev) (p : Nat) (ws : List Nat) : Dev :=
  match (d.port p).closing with
  | some c => if bits (ws.headD 0) 28 4 = 1 && bits (ws.headD 0) 16 8 = c.txn then d.closingReply p c ws else d
  | none => d

/-- What a frame of a head's memory makes of the device. -/
def Dev.memHeard (d : Dev) (p : Nat) (ws : List Nat) : Dev :=
  if (d.port p).st = .disabled then d.memClosed p ws
  else if !(d.port p).linked || !(d.port p).bcLock then d
  else (d.heard p).memAnswered p (d.port p) ws

theorem gives_memResp (p : Port) (words : List Word) (s : State) : Gives (.memResp p words) s (s.dev.memHeard p.val (words.map (fun w => w.toNat))) := rfl

theorem Dev.memClosed_other {d : Dev} {p : Nat} {ws : List Nat}
    (h : ∀ c, (d.port p).closing = some c → bits (ws.headD 0) 28 4 ≠ 1 ∨ bits (ws.headD 0) 16 8 ≠ c.txn) : d.memClosed p ws = d := by
  cases hc : (d.port p).closing with
  | none => simp only [Dev.memClosed, hc]
  | some c =>
    have hnot : ¬ (bits (ws.headD 0) 28 4 = 1 && bits (ws.headD 0) 16 8 = c.txn) = true := by
      rw [Bool.and_eq_true, decide_eq_true_eq, decide_eq_true_eq, not_and_or]
      exact h c hc
    simp only [Dev.memClosed, hc, if_neg hnot]

theorem Dev.memClosed_mine {d : Dev} {p : Nat} {ws : List Nat} {c : ClosingRead} (hc : (d.port p).closing = some c) (hop : bits (ws.headD 0) 28 4 = 1)
    (htxn : bits (ws.headD 0) 16 8 = c.txn) : d.memClosed p ws = d.closingReply p c ws := by
  have hmine : (bits (ws.headD 0) 28 4 = 1 && bits (ws.headD 0) 16 8 = c.txn) = true := by
    rw [Bool.and_eq_true, decide_eq_true_eq, decide_eq_true_eq]
    exact ⟨hop, htxn⟩
  simp only [Dev.memClosed, hc, if_pos hmine]

theorem Dev.memHeard_disabled {d : Dev} {p : Nat} (h : (d.port p).st = .disabled) (ws : List Nat) : d.memHeard p ws = d.memClosed p ws := if_pos h

theorem Dev.memHeard_deaf {d : Dev} {p : Nat} (h : (d.port p).st ≠ .disabled) (hdeaf : (d.port p).linked = false ∨ (d.port p).bcLock = false) (ws : List Nat) :
    d.memHeard p ws = d := by
  rw [Dev.memHeard, if_neg h, if_pos]
  rw [Bool.or_eq_true, Bool.not_eq_true', Bool.not_eq_true']
  exact hdeaf

theorem HlkPort.not_disabled_of_linked {q : HlkPort} (h : q.linked = true) : q.st ≠ .disabled := by
  intro hst
  rw [HlkPort.linked, hst] at h
  cases h

theorem Dev.memHeard_linked {d : Dev} {p : Nat} (hlinked : (d.port p).linked = true) (hlock : (d.port p).bcLock = true) (ws : List Nat) :
    d.memHeard p ws = (d.heard p).memAnswered p (d.port p) ws := by
  rw [Dev.memHeard, if_neg (HlkPort.not_disabled_of_linked hlinked), if_neg]
  rw [hlinked, hlock]
  exact Bool.false_ne_true

section
variable {d : Dev} {p : Nat} {q : HlkPort} {ws : List Nat}

theorem Dev.memAnswered_challenged (htxn : bits (ws.headD 0) 16 8 = (q.txn + 255) % 256) (hstage : q.stage = 1) (hop : bits (ws.headD 0) 28 4 = 4) :
    d.memAnswered p q ws = if bits (ws.headD 0) 24 4 = 0 then d.authProve p ws else d.authFail p := by
  simp only [Dev.memAnswered, hstage, hop, htxn, decide_true, Bool.and_self, if_true]

theorem Dev.memAnswered_proved (htxn : bits (ws.headD 0) 16 8 = (q.txn + 255) % 256) (hstage : q.stage = 2) (hop : bits (ws.headD 0) 28 4 = 5) :
    d.memAnswered p q ws = if bits (ws.headD 0) 24 4 = 0 then d.authDone p else d.authFail p := by
  have hother : decide (q.stage = 1) = false := by rw [hstage]; rfl
  simp only [Dev.memAnswered, hother, Bool.false_and, Bool.false_eq_true, if_false]
  simp only [hstage, hop, htxn, decide_true, Bool.and_self, if_true]

/-- A frame that is no answer to an exchange is one to the command under way, or none. -/
theorem Dev.memAnswered_command (h : q.stage = 0 ∨ bits (ws.headD 0) 16 8 ≠ (q.txn + 255) % 256 ∨ (bits (ws.headD 0) 28 4 ≠ 4 ∧ bits (ws.headD 0) 28 4 ≠ 5)) :
    d.memAnswered p q ws = match q.memNow with
      | some m => if bits (ws.headD 0) 28 4 = m.op && bits (ws.headD 0) 16 8 = m.txn then d.memReply p m ws else d
      | none => d := by
  have hnot (n op : Nat) (hn : n ≠ 0) (hop : op = 4 ∨ op = 5) :
      ¬ (decide (q.stage = n) && decide (bits (ws.headD 0) 28 4 = op) && decide (bits (ws.headD 0) 16 8 = (q.txn + 255) % 256)) = true := by
    rw [Bool.and_eq_true, Bool.and_eq_true, decide_eq_true_eq, decide_eq_true_eq, decide_eq_true_eq]
    omega
  simp only [Dev.memAnswered]
  rw [if_neg (hnot 1 4 (by decide) (.inl rfl)), if_neg (hnot 2 5 (by decide) (.inr rfl))]

end

/-! ### CHALLENGE is answered -/

/-- Does an answer prove the head (R262). -/
def Dev.Proves (d : Dev) (p : Nat) (ws : List Nat) : Prop :=
  d.noMasterKey p = false ∧ ws.length = 14 ∧
    hlkBytes ((ws.drop 6).take 8) = hmacSha256 (d.headKey p) ([0x48, 0x45, 0x41, 0x44] ++ (d.port p).chal ++ hlkBytes ((ws.drop 2).take 4) ++
      hlkBytes [d.get F.HLK_ID p 0, d.get F.HLK_ID p 1] ++ [p])

theorem Dev.proves_iff (d : Dev) (p : Nat) (ws : List Nat) : d.Proves p ws ↔
    ¬ (d.noMasterKey p || ws.length ≠ 14 || hlkBytes ((ws.drop 6).take 8) ≠ hmacSha256 (d.headKey p) ([0x48, 0x45, 0x41, 0x44] ++ (d.port p).chal ++
      hlkBytes ((ws.drop 2).take 4) ++ hlkBytes [d.get F.HLK_ID p 0, d.get F.HLK_ID p 1] ++ [p])) = true := by
  rw [Dev.Proves, Bool.or_eq_true, Bool.or_eq_true, not_or, not_or, decide_eq_true_eq, decide_eq_true_eq, not_not, not_not, Bool.not_eq_true, and_assoc]

theorem Dev.authProve_wrong {d : Dev} {p : Nat} {ws : List Nat} (h : ¬ d.Proves p ws) : d.authProve p ws = d.authFail p := by
  rw [Dev.proves_iff, not_not] at h
  exact if_pos h

theorem Dev.authProve_right {d : Dev} {p : Nat} {ws : List Nat} (hp : p < d.ports.length) (h : d.Proves p ws) :
    ((d.authProve p ws).port p).stage = 2 ∧ ((d.authProve p ws).port p).nonce = hlkBytes ((ws.drop 2).take 4) ∧ ((d.authProve p ws).port p).authAt = d.raw ∧
      ((d.authProve p ws).port p).st = (d.port p).st := by
  rw [Dev.proves_iff] at h
  obtain ⟨x, hx⟩ : ∃ x, x = d.modPort p (fun q => { q with stage := 2, authAt := d.now, nonce := hlkBytes ((ws.drop 2).take 4), txn := (q.txn + 1) % 256 }) := ⟨_, rfl⟩
  obtain ⟨l, hl⟩ : ∃ l, d.authProve p ws = x.laneSend p 5 l := ⟨_, (if_neg h).trans (by rw [hx])⟩
  have hport : x.port p = { d.port p with stage := 2, authAt := d.now, nonce := hlkBytes ((ws.drop 2).take 4), txn := ((d.port p).txn + 1) % 256 } := by
    rw [hx]
    exact Dev.port_modPort_self hp _
  have hsend : x.PortOnly HlkPort.offTx p (x.laneSend p 5 l) := (Dev.onTx p x).laneSend (.refl ..) 5 l
  have hstage := hsend.view HlkPort.stage fun _ => rfl
  have hnonce := hsend.view HlkPort.nonce fun _ => rfl
  have hat := hsend.view HlkPort.authAt fun _ => rfl
  have hst := hsend.view HlkPort.st fun _ => rfl
  rw [hport] at hstage hnonce hat hst
  rw [hl]
  exact ⟨hstage, hnonce, hat, hst⟩

/-! ### PROVE is answered -/

/-- The key of a session (R262). -/
def Dev.sessionKey (d : Dev) (p : Nat) : List Nat := (hmacSha256 (d.headKey p) ([0x53, 0x45, 0x53, 0x53] ++ (d.port p).chal ++ (d.port p).nonce)).take 16

/-- A port whose session is open. -/
structure HlkPort.InSession (q : HlkPort) (key : List Nat) : Prop where
  st : q.st = .up
  stage : q.stage = 0
  authOk : q.authOk = true
  session : q.session = some key
  ctrRx : q.ctrRx = 0

theorem HlkPort.InSession.of_offCmd {q r : HlkPort} {key : List Nat} (h : q.InSession key) (hview : r.offCmd = q.offCmd) : r.InSession key := by
  have hkeep {α : Type} (g : HlkPort → α) (hg : ∀ x : HlkPort, g x.offCmd = g x) : g r = g q := (hg _).symm.trans ((congrArg g hview).trans (hg _))
  exact ⟨(hkeep HlkPort.st fun _ => rfl).trans h.st, (hkeep HlkPort.stage fun _ => rfl).trans h.stage, (hkeep HlkPort.authOk fun _ => rfl).trans h.authOk,
    (hkeep HlkPort.session fun _ => rfl).trans h.session, (hkeep HlkPort.ctrRx fun _ => rfl).trans h.ctrRx⟩

theorem Dev.authDone_opens {d : Dev} {p : Nat} (hp : p < d.ports.length) : ((d.authDone p).port p).InSession (d.sessionKey p) := by
  obtain ⟨x, hx⟩ : ∃ x, x = d.modPort p (fun q => { q with stage := 0, session := some (d.sessionKey p), ctrTx := 0, ctrRx := 0, chal := [], nonce := [], authOk := true }) := ⟨_, rfl⟩
  have heq : d.authDone p = if (d.port p).st = .up then (x.memKick p).oddUp p else (x.enterUp p true).oddUp p := by rw [hx]; rfl
  have hport : x.port p = { d.port p with stage := 0, session := some (d.sessionKey p), ctrTx := 0, ctrRx := 0, chal := [], nonce := [], authOk := true } := by
    rw [hx]
    exact Dev.port_modPort_self hp _
  rw [heq]
  by_cases hup : (d.port p).st = .up
  · rw [if_pos hup, (Dev.port_oddUp ..).1]
    have hctr : (x.port p).ctrTx < 0xFFFF0000 := by rw [hport]; exact Nat.zero_lt_succ _
    refine HlkPort.InSession.of_offCmd ?_ (Dev.memKick_cmd hctr).own
    rw [hport]
    exact ⟨hup, rfl, rfl, rfl, rfl⟩
  · rw [if_neg hup, (Dev.port_oddUp ..).1, Dev.enterUp_eq]
    have hlen : p < x.ports.length := by rw [hx, Dev.length_modPort]; exact hp
    have hat : (x.atUp p true).port p = (x.port p).atUp x.raw true := by
      rw [Dev.port_atUp]
      exact Dev.port_modPort_self hlen _
    have hctr : ((x.atUp p true).port p).ctrTx < 0xFFFF0000 := by rw [hat, hport]; exact Nat.zero_lt_succ _
    refine HlkPort.InSession.of_offCmd ?_ (Dev.usageRead_cmd hctr).own
    rw [hat, hport]
    exact ⟨rfl, rfl, rfl, rfl, rfl⟩

/-! ### The exchange in the state -/

section
variable {s : Dev} {p : Nat} (hp : p < s.ports.length)
include hp

/-- A device that has noted a frame of a port. -/
theorem Dev.port_heard : (s.heard p).port p = { s.port p with lastBack := s.raw } := Dev.port_modPort_self hp _

theorem Dev.length_heard : p < (s.heard p).ports.length := by rw [Dev.heard, Dev.length_modPort]; exact hp

theorem Dev.headKey_heard : (s.heard p).headKey p = s.headKey p ∧ (s.heard p).noMasterKey p = s.noMasterKey p := by
  rw [Dev.headKey, Dev.noMasterKey, Dev.port_heard hp]
  exact ⟨rfl, rfl⟩

theorem Dev.authFail_heard (hp192 : p < 192) : s.AuthFailed p ((s.heard p).authFail p) := by
  have h := Dev.authFail_shows hp192 (Dev.length_heard hp)
  exact h

theorem Dev.proves_heard (ws : List Nat) : (s.heard p).Proves p ws ↔ s.Proves p ws := by
  obtain ⟨hkey, hnone⟩ := Dev.headKey_heard hp
  rw [Dev.Proves, Dev.Proves, hkey, hnone, Dev.port_heard hp]
  rfl

end

section
variable {p : Port} {s : State} (hlinked : (s.dev.port p.val).linked = true) (hlock : (s.dev.port p.val).bcLock = true)
  {words : List Word} {ws : List Nat} (hws : ws = words.map (fun x => x.toNat)) (htxn : bits (ws.headD 0) 16 8 = ((s.dev.port p.val).txn + 255) % 256)
include hlinked hlock hws htxn

theorem exec_memResp_challenged (hstage : (s.dev.port p.val).stage = 1) (hop : bits (ws.headD 0) 28 4 = 4) : Gives (.memResp p words) s
    (if bits (ws.headD 0) 24 4 = 0 then (s.dev.heard p.val).authProve p.val ws else (s.dev.heard p.val).authFail p.val) := by
  refine (gives_memResp p words s).congr ?_
  rw [← hws, Dev.memHeard_linked hlinked hlock, Dev.memAnswered_challenged htxn hstage hop]

theorem exec_memResp_proved (hstage : (s.dev.port p.val).stage = 2) (hop : bits (ws.headD 0) 28 4 = 5) : Gives (.memResp p words) s
    (if bits (ws.headD 0) 24 4 = 0 then (s.dev.heard p.val).authDone p.val else (s.dev.heard p.val).authFail p.val) := by
  refine (gives_memResp p words s).congr ?_
  rw [← hws, Dev.memHeard_linked hlinked hlock, Dev.memAnswered_proved htxn hstage hop]

variable (hp : p.val < s.dev.ports.length)
include hp

theorem memResp_proves (hstage : (s.dev.port p.val).stage = 1) (hop : bits (ws.headD 0) 28 4 = 4) (hst : bits (ws.headD 0) 24 4 = 0) (h : s.dev.Proves p.val ws) :
    Completes (.memResp p words) s (fun d => (d.port p.val).stage = 2 ∧ (d.port p.val).nonce = hlkBytes ((ws.drop 2).take 4) ∧ (d.port p.val).authAt = s.dev.raw ∧
      (d.port p.val).st = (s.dev.port p.val).st) := by
  obtain ⟨h1, h2, h3, h4⟩ := Dev.authProve_right (Dev.length_heard hp) ((Dev.proves_heard hp ws).mpr h)
  rw [Dev.port_heard hp] at h4
  refine ⟨_, (exec_memResp_challenged hlinked hlock hws htxn hstage hop).congr (if_pos hst), ?_⟩
  exact ⟨h1, h2, h3, h4⟩

theorem memResp_wrong (hstage : (s.dev.port p.val).stage = 1) (hop : bits (ws.headD 0) 28 4 = 4) (h : ¬ (bits (ws.headD 0) 24 4 = 0 ∧ s.dev.Proves p.val ws)) :
    Completes (.memResp p words) s (s.dev.AuthFailed p.val) := by
  refine ⟨_, (exec_memResp_challenged hlinked hlock hws htxn hstage hop).congr ?_, Dev.authFail_heard hp p.isLt⟩
  by_cases hst : bits (ws.headD 0) 24 4 = 0
  · rw [if_pos hst]
    exact Dev.authProve_wrong fun hproves => h ⟨hst, (Dev.proves_heard hp ws).mp hproves⟩
  · exact if_neg hst

theorem memResp_opens (hstage : (s.dev.port p.val).stage = 2) (hop : bits (ws.headD 0) 28 4 = 5) (hst : bits (ws.headD 0) 24 4 = 0) :
    Completes (.memResp p words) s (fun d => (d.port p.val).InSession (s.dev.sessionKey p.val)) := by
  have hopen := Dev.authDone_opens (Dev.length_heard hp)
  have hkey : (s.dev.heard p.val).sessionKey p.val = s.dev.sessionKey p.val := by
    rw [Dev.sessionKey, (Dev.headKey_heard hp).1, Dev.port_heard hp]
    rfl
  rw [hkey] at hopen
  exact ⟨_, (exec_memResp_proved hlinked hlock hws htxn hstage hop).congr (if_pos hst), hopen⟩

theorem memResp_error (hstage : (s.dev.port p.val).stage = 2) (hop : bits (ws.headD 0) 28 4 = 5) (hst : bits (ws.headD 0) 24 4 ≠ 0) :
    Completes (.memResp p words) s (s.dev.AuthFailed p.val) :=
  ⟨_, (exec_memResp_proved hlinked hlock hws htxn hstage hop).congr (if_neg hst), Dev.authFail_heard hp p.isLt⟩

end

end Sys2Proof.Machine
end


section
/-! PROOF. The commands of a head's memory: the host's, and the reads of the usage words (R251, R261, R264). -/

namespace Sys2Proof.Machine

/-! ### The end of a host's command -/

/-- A host's command has ended with a STATUS. -/
structure Dev.MemEnded (p st : Nat) (e : Dev) : Prop where
  done : e.get F.HLK_MEM_CMD_DONE p = 1
  status : e.get F.HLK_MEM_CMD_STATUS p = st
  irq : (e.get F.HLK_IRQ_STAT p).testBit 4 = true

theorem Dev.memDone_ended (d : Dev) (p : Nat) {st : Nat} (h : st < 8) : (d.memDone p st).MemEnded p st := by
  have hother (g : Field) (hg : g.distinct F.HLK_IRQ_STAT = true) : (d.memDone p st).get g p = ((d.set F.HLK_MEM_CMD_DONE 1 p).set F.HLK_MEM_CMD_STATUS st p).get g p := by
    rw [Dev.memDone, Dev.get_irq, Dev.raiseBit, Dev.get_set_distinct _ hg]
  refine ⟨?_, ?_, Dev.testBit_hlkIrq _ p (by decide)⟩
  · rw [hother _ (by decide), Dev.get_set_distinct _ (by decide), Dev.get_set_self]
    rfl
  · rw [hother _ (by decide), Dev.get_set_self]
    exact Nat.mod_eq_of_lt h

theorem Dev.ports_memDone (d : Dev) (p st : Nat) : (d.memDone p st).ports = d.ports := (unfenced_ports.irq ..).trans ((unfenced_ports.set ..).trans (unfenced_ports.set ..))

theorem Dev.MemEnded.of_only {γ : Type} {off : HlkPort → γ} {p st : Nat} {d e : Dev} (h : d.MemEnded p st) (hkeep : d.PortOnly off p e) : e.MemEnded p st := by
  have hget (g : Field) : e.get g p = d.get g p := hkeep.get g p 0
  exact ⟨(hget _).trans h.done, (hget _).trans h.status, by rw [hget]; exact h.irq⟩

/-! ### A command waits, or is sent -/

/-- May the next command of a port go out. -/
def Dev.memHeld (d : Dev) (p : Nat) : Bool :=
  let q := d.port p
  q.st ≠ .up || !q.onLane || q.memNow.isSome || q.stage ≠ 0 || q.recWaits || d.underWay p || !q.tx.waits.isEmpty

theorem Dev.memKick_held {d : Dev} {p : Nat} (h : (d.laneTick p).memHeld p = true) : d.memKick p = d.laneTick p := if_pos h

/-- What holds a command back is so at the lane's present time too. -/
theorem Dev.memHeld_laneTick {d : Dev} {p : Nat}
    (h : (d.port p).st = .idle ∨ (d.port p).memNow ≠ none ∨ (d.port p).stage ≠ 0 ∨ ∃ r ∈ (d.port p).recs, r.sent = 0 ∨ r.again = true) : (d.laneTick p).memHeld p = true := by
  have hkeep := d.laneTick_cmd p
  have hst := hkeep.view HlkPort.st fun _ => rfl
  have hnow := hkeep.view HlkPort.memNow fun _ => rfl
  have hstage := hkeep.view HlkPort.stage fun _ => rfl
  have hrecs := hkeep.view HlkPort.recWaits fun _ => rfl
  simp only [Dev.memHeld, Bool.or_eq_true, decide_eq_true_eq, hst, hnow, hstage, hrecs, Option.isSome_iff_ne_none, or_assoc]
  obtain h | h | h | ⟨r, hr, h⟩ := h
  · exact .inl (by rw [h]; decide)
  · exact .inr (.inr (.inl h))
  · exact .inr (.inr (.inr (.inl h)))
  · refine .inr (.inr (.inr (.inr (.inl (List.any_eq_true.mpr ⟨r, hr, ?_⟩)))))
    rw [Bool.or_eq_true, decide_eq_true_eq]
    exact h

theorem Dev.memKick_waits {d : Dev} {p : Nat}
    (h : (d.port p).st = .idle ∨ (d.port p).memNow ≠ none ∨ (d.port p).stage ≠ 0 ∨ ∃ r ∈ (d.port p).recs, r.sent = 0 ∨ r.again = true) :
    ((d.memKick p).port p).memQ = (d.port p).memQ ∧ ((d.memKick p).port p).memNow = (d.port p).memNow := by
  rw [Dev.memKick_held (Dev.memHeld_laneTick h)]
  exact ⟨(d.laneTick_cmd p).view HlkPort.memQ fun _ => rfl, (d.laneTick_cmd p).view HlkPort.memNow fun _ => rfl⟩

/-- A port's lane is free for the next command. -/
structure Dev.MemFree (d : Dev) (p : Nat) : Prop where
  st : (d.port p).st = .up
  mode : (d.port p).tx.mode = .on
  now : (d.port p).memNow = none
  stage : (d.port p).stage = 0
  recs : ∀ r ∈ (d.port p).recs, r.sent ≠ 0 ∧ r.again = false
  ctr : (d.port p).ctrTx < 0xFFFF0000
  lane : (d.laneTick p).underWay p = false
  waits : ((d.laneTick p).port p).tx.waits = []

theorem Dev.MemFree.not_held {d : Dev} {p : Nat} (h : d.MemFree p) : ¬ (d.laneTick p).memHeld p = true := by
  have hkeep := d.laneTick_cmd p
  have hst := hkeep.view HlkPort.st fun _ => rfl
  have hmode := hkeep.view (fun q => q.tx.mode) fun _ => rfl
  have hnow := hkeep.view HlkPort.memNow fun _ => rfl
  have hstage := hkeep.view HlkPort.stage fun _ => rfl
  have hrecs := hkeep.view HlkPort.recWaits fun _ => rfl
  have hnone : (d.port p).recWaits = false := (HlkPort.recWaits_eq_false _).mpr h.recs
  have hon : ((d.laneTick p).port p).onLane = true := decide_eq_true (hmode.trans h.mode)
  simp only [Dev.memHeld, hst, hon, hnow, hstage, hrecs, hnone, h.st, h.now, h.stage, h.lane, h.waits]
  decide

/-- A port whose next command has been sent. -/
structure HlkPort.SentNext (q : HlkPort) (m : MemCmd) (rest : List MemCmd) (now : Nat) (r : HlkPort) : Prop where
  queue : r.memQ = rest
  now : r.memNow = some { m with txn := q.txn, sentAt := now }
  useAt : r.useAt = q.useAt

theorem Dev.MemFree.kick {d : Dev} {p : Nat} (h : d.MemFree p) (hp : p < d.ports.length) {m : MemCmd} {rest : List MemCmd} (hq : (d.port p).memQ = m :: rest) :
    (d.port p).SentNext m rest d.raw ((d.memKick p).port p) := by
  obtain ⟨x, hx⟩ : ∃ x, x = d.laneTick p := ⟨_, rfl⟩
  have hkeep : d.PortOnly HlkPort.offTx p x := hx ▸ d.laneTick_cmd p
  have hnot := h.not_held
  rw [← hx] at hnot
  have hlen : p < x.ports.length := hkeep.length ▸ hp
  have hqueue : (x.port p).memQ = m :: rest := (hkeep.view HlkPort.memQ fun _ => rfl).trans hq
  have hctr : (x.port p).ctrTx < 0xFFFF0000 := (hkeep.view HlkPort.ctrTx fun _ => rfl) ▸ h.ctr
  have htxn := hkeep.view HlkPort.txn fun _ => rfl
  have huse := hkeep.view HlkPort.useAt fun _ => rfl
  have hraw : x.raw = d.raw := hkeep.parts.2.2.1
  have hroom : ¬ ((x.port p).session.isSome && 0xFFFF0000 ≤ (x.port p).ctrTx) = true := by
    rw [Bool.and_eq_true, decide_eq_true_eq]
    exact fun hf => Nat.not_le.mpr hctr hf.2
  obtain ⟨c, hc⟩ : ∃ c, c = if (x.port p).session.isSome then (x.port p).ctrTx + 1 else 0 := ⟨_, rfl⟩
  obtain ⟨y, hy⟩ : ∃ y, y = x.modPort p (fun q => { q with
    memQ := rest, memNow := some { m with txn := q.txn, sentAt := x.now }, txn := (q.txn + 1) % 256, ctrTx := c }) := ⟨_, rfl⟩
  obtain ⟨l, hl⟩ : ∃ l, d.memKick p = y.laneStart p 5 l := by
    refine ⟨memFrame (x.port p).session m.op m.count (x.port p).txn m.addr c m.data, ?_⟩
    unfold Dev.memKick
    dsimp only
    unfold Dev.memHeld at hnot
    rw [← hx, if_neg hnot, hqueue]
    dsimp only
    rw [if_neg hroom, hy, hc]
  have hport : y.port p = { x.port p with memQ := rest, memNow := some { m with txn := (x.port p).txn, sentAt := x.now }, txn := ((x.port p).txn + 1) % 256, ctrTx := c } := by
    rw [hy]
    exact Dev.port_modPort_self hlen _
  have hstart : y.PortOnly HlkPort.offTx p (y.laneStart p 5 l) := (Dev.onTx p y).laneStart (.refl ..) 5 l
  have h1 := hstart.view HlkPort.memQ fun _ => rfl
  have h2 := hstart.view HlkPort.memNow fun _ => rfl
  have h3 := hstart.view HlkPort.useAt fun _ => rfl
  rw [hport] at h1 h2 h3
  rw [hl]
  exact ⟨h1, h2.trans (by rw [htxn, Dev.now, hraw]), h3.trans huse⟩

/-- Whether the lane is free does not rest on the commands that wait. -/
theorem Dev.MemFree.of_queue {d e : Dev} {p : Nat} (h : d.MemFree p) (hp : p < d.ports.length) {l : List MemCmd} {u : Nat}
    (hport : e.port p = { d.port p with memQ := l, useAt := u }) (hlen : e.ports.length = d.ports.length) (hgroups : e.groups = d.groups) (hraw : e.raw = d.raw) : e.MemFree p := by
  have htx : ((e.laneTick p).port p).tx = ((d.laneTick p).port p).tx := Dev.tx_laneTick_congr hp hlen (by rw [hport]) (by rw [hport]) hgroups hraw
  have hnow (x : Dev) : (x.laneTick p).now = x.raw := (x.laneTick_cmd p).parts.2.2.1
  refine ⟨?_, ?_, ?_, ?_, ?_, ?_, ?_, ?_⟩
  · rw [hport]; exact h.st
  · rw [hport]; exact h.mode
  · rw [hport]; exact h.now
  · rw [hport]; exact h.stage
  · rw [hport]; exact h.recs
  · rw [hport]; exact h.ctr
  · have hlane := h.lane
    rw [Dev.underWay, hnow] at hlane ⊢
    rw [htx, hraw]
    exact hlane
  · rw [htx]; exact h.waits

end Sys2Proof.Machine
end


section
/-! PROOF. The host's commands of a head's memory, their timeout and the usage words (R251, R264). -/

namespace Sys2Proof.Machine

/-! ### The host's command -/

/-- A command of the host, with the fields of its page. -/
def Dev.memCmd (d : Dev) (op p : Nat) : MemCmd :=
  { op := op, count := d.get F.HLK_MEM_ADDR_COUNT p, addr := d.get F.HLK_MEM_ADDR_ADDR p, data := (List.range 8).map (fun k => d.get F.HLK_MEM_DATA p k), auto := false }

/-- A command of the host shows no result yet. -/
def Dev.memBegun (d : Dev) (p : Nat) : Dev := (d.set F.HLK_MEM_CMD_DONE 0 p).set F.HLK_MEM_CMD_STATUS 0 p

theorem Dev.memHost_eq (d : Dev) (op p : Nat) : d.memHost op p =
    if (d.port p).st ≠ .up && (d.port p).st ≠ .idle then (d.memBegun p).memDone p 6
    else if (d.memBegun p).oddPort p then (d.memBegun p).memDone p 1
    else ((d.memBegun p).modPort p (fun q => { q with memQ := q.memQ ++ [(d.memBegun p).memCmd op p] })).memKick p := rfl

theorem Dev.memCmd_memBegun (d : Dev) (op p : Nat) : (d.memBegun p).memCmd op p = d.memCmd op p := by
  have hget (g : Field) (hdone : g.distinct F.HLK_MEM_CMD_DONE = true) (hst : g.distinct F.HLK_MEM_CMD_STATUS = true) (j : Nat) : (d.memBegun p).get g p j = d.get g p j := by
    rw [Dev.memBegun, Dev.get_set_distinct _ hst, Dev.get_set_distinct _ hdone]
  have hdata (k : Nat) : (d.memBegun p).get F.HLK_MEM_DATA p k = d.get F.HLK_MEM_DATA p k := hget _ (by decide) (by decide) k
  rw [Dev.memCmd, Dev.memCmd, hget F.HLK_MEM_ADDR_COUNT (by decide) (by decide) 0, hget F.HLK_MEM_ADDR_ADDR (by decide) (by decide) 0]
  simp only [hdata]

theorem Dev.memBegun_shows (d : Dev) (p : Nat) : (d.memBegun p).get F.HLK_MEM_CMD_DONE p = 0 ∧ (d.memBegun p).get F.HLK_MEM_CMD_STATUS p = 0 := by
  rw [Dev.memBegun]
  refine ⟨?_, ?_⟩
  · rw [Dev.get_set_distinct _ (by decide), Dev.get_set_self]
    rfl
  · rw [Dev.get_set_self]
    rfl

section
variable {d : Dev} {p : Nat}

theorem Dev.memHost_down (hup : (d.port p).st ≠ .up) (hidle : (d.port p).st ≠ .idle) (op : Nat) :
    (d.memHost op p).MemEnded p 6 ∧ (d.memHost op p).ports = d.ports := by
  have hcond : ((d.port p).st ≠ .up && (d.port p).st ≠ .idle) = true := by rw [decide_eq_true hup, decide_eq_true hidle]; rfl
  rw [Dev.memHost_eq, if_pos hcond]
  exact ⟨Dev.memDone_ended _ _ (by decide), Dev.ports_memDone ..⟩

theorem Dev.up_or_idle (h : (d.port p).st = .up ∨ (d.port p).st = .idle) : ¬ ((d.port p).st ≠ .up && (d.port p).st ≠ .idle) = true := by
  rw [Bool.and_eq_true, decide_eq_true_eq, decide_eq_true_eq]
  tauto

variable (hst : (d.port p).st = .up ∨ (d.port p).st = .idle)
include hst

theorem Dev.memHost_odd (hodd : d.oddPort p = true) (op : Nat) : (d.memHost op p).MemEnded p 1 ∧ (d.memHost op p).ports = d.ports := by
  have hodd' : (d.memBegun p).oddPort p = true := hodd
  rw [Dev.memHost_eq, if_neg (Dev.up_or_idle hst), if_pos hodd']
  exact ⟨Dev.memDone_ended _ _ (by decide), Dev.ports_memDone ..⟩

theorem Dev.memHost_joins (hodd : d.oddPort p = false) (op : Nat) : d.memHost op p =
    ((d.memBegun p).modPort p (fun q => { q with memQ := q.memQ ++ [d.memCmd op p] })).memKick p := by
  have hodd' : ¬ (d.memBegun p).oddPort p = true := fun h => Bool.false_ne_true (hodd.symm.trans h)
  rw [Dev.memHost_eq, if_neg (Dev.up_or_idle hst), if_neg hodd', Dev.memCmd_memBegun]

variable (hodd : d.oddPort p = false) (op : Nat)
include hodd

theorem Dev.memHost_shows : (d.memHost op p).get F.HLK_MEM_CMD_DONE p = 0 ∧ (d.memHost op p).get F.HLK_MEM_CMD_STATUS p = 0 := by
  obtain ⟨x, hx⟩ : ∃ x, x = (d.memBegun p).modPort p (fun q => { q with memQ := q.memQ ++ [d.memCmd op p] }) := ⟨_, rfl⟩
  have hget (g : Field) : (x.memKick p).get g p = (d.memBegun p).get g p := by
    rw [((Dev.onMem p x).memKick (.refl ..)).get, hx]
    rfl
  rw [Dev.memHost_joins hst hodd, ← hx, hget, hget]
  exact d.memBegun_shows p

variable (hp : p < d.ports.length)
include hp

theorem Dev.memHost_waits
    (hheld : (d.port p).st = .idle ∨ (d.port p).memNow ≠ none ∨ (d.port p).stage ≠ 0 ∨ ∃ r ∈ (d.port p).recs, r.sent = 0 ∨ r.again = true) :
    ((d.memHost op p).port p).memQ = (d.port p).memQ ++ [d.memCmd op p] ∧ ((d.memHost op p).port p).memNow = (d.port p).memNow := by
  obtain ⟨x, hx⟩ : ∃ x, x = (d.memBegun p).modPort p (fun q => { q with memQ := q.memQ ++ [d.memCmd op p] }) := ⟨_, rfl⟩
  have hport : x.port p = { d.port p with memQ := (d.port p).memQ ++ [d.memCmd op p] } := by
    rw [hx]
    exact Dev.port_modPort_self (d := d.memBegun p) hp _
  have hkick := Dev.memKick_waits (d := x) (p := p) (by rw [hport]; exact hheld)
  rw [hport] at hkick
  rw [Dev.memHost_joins hst hodd, ← hx]
  exact hkick

theorem Dev.memHost_sends (hfree : d.MemFree p) (hq : (d.port p).memQ = []) :
    ((d.memHost op p).port p).memQ = [] ∧ ((d.memHost op p).port p).memNow = some { d.memCmd op p with txn := (d.port p).txn, sentAt := d.raw } := by
  obtain ⟨x, hx⟩ : ∃ x, x = (d.memBegun p).modPort p (fun q => { q with memQ := q.memQ ++ [d.memCmd op p] }) := ⟨_, rfl⟩
  have hport : x.port p = { d.port p with memQ := (d.port p).memQ ++ [d.memCmd op p] } := by
    rw [hx]
    exact Dev.port_modPort_self (d := d.memBegun p) hp _
  have hlen : x.ports.length = d.ports.length := by rw [hx, Dev.length_modPort]; rfl
  have hraw : x.raw = d.raw := by rw [hx]; rfl
  have hxfree : x.MemFree p := hfree.of_queue hp (u := (d.port p).useAt) hport hlen (by rw [hx]; rfl) hraw
  have hqueue : (x.port p).memQ = d.memCmd op p :: [] := by rw [hport, hq]; rfl
  have hsent := hxfree.kick (hlen ▸ hp) hqueue
  have hnow := hsent.now
  rw [hport, hraw] at hnow
  rw [Dev.memHost_joins hst hodd, ← hx]
  exact ⟨hsent.queue, hnow⟩

end

section
variable {rq : Requester} {p : Port} {s : State}

theorem hlkMem_bare (rq : Requester) (p : Port) : (fieldsAt (canonAddr rq (hlkAddr p.val 0xA4))).all (fun x => !x.1.stores) = true :=
  portWord_bare rq p (o := 0xA4) (by decide) (by decide) (by decide +kernel)

theorem hlkMemRead_gives (h : s.Ready rq 0) : Gives (.hlkMemRead rq p) s (s.dev.memHost 1 p.val) :=
  congrArg Host.Outcome.next (State.row_none h (.hlkMemRead rq p) (hlkAddr p.val 0xA4) 1 ⟨0, none⟩ (fun d => d.memHost 1 p.val) (inPages_hlkAddr p.isLt (by decide)) (hlkMem_bare rq p)
    (by decide) (by decide) (by decide))

theorem hlkMemCommit_gives (h : s.Ready rq 0) : Gives (.hlkMemCommit rq p) s (s.dev.memHost 3 p.val) :=
  congrArg Host.Outcome.next (State.row_none h (.hlkMemCommit rq p) (hlkAddr p.val 0xA4) 4 ⟨2, none⟩ (fun d => d.memHost 3 p.val) (inPages_hlkAddr p.isLt (by decide)) (hlkMem_bare rq p)
    (by decide) (by decide) (by decide))

theorem hlkMemWrite_gives (h : s.Ready rq 2) : GivesAudited (.hlkMemWrite rq p) s rq (0x10000A4 + 0x1000 * p.val) ((s.dev.touch rq).memHost 2 p.val) := by
  have haddr : hlkAddr p.val 0xA4 = 0x10000A4 + 0x1000 * p.val := by rw [hlkAddr]; omega
  obtain ⟨old, new, hrow⟩ := State.row_audited h (.hlkMemWrite rq p) (hlkAddr p.val 0xA4) 2 ⟨1, some .installer⟩ (fun d => d.memHost 2 p.val) (inPages_hlkAddr p.isLt (by decide))
    (hlkMem_bare rq p) (by decide) (by decide) (by decide)
  exact ⟨old, new, haddr ▸ congrArg Host.Outcome.next hrow⟩

end

/-! ### No answer within 1 ms -/

/-- What the timeout of a command makes of the device. -/
def Dev.memLate (d : Dev) (p : Nat) : Dev :=
  match (d.port p).memNow with
  | some m =>
    if m.sentAt + 1000000 ≤ d.now then
      let d := d.modPort p (fun q => { q with memNow := none })
      (if m.auto then d else d.memDone p 5).memKick p
    else d
  | none => d

theorem gives_memTimeout (p : Port) (s : State) : Gives (.memTimeout p) s (s.dev.memLate p.val) := rfl

theorem Dev.memLate_none {d : Dev} {p : Nat} (h : (d.port p).memNow = none) : d.memLate p = d := by simp only [Dev.memLate, h]

section
variable {d e : Dev} {p : Nat} {m : MemCmd} (h : (d.port p).memNow = some m)
include h

theorem Dev.memLate_early (hearly : d.raw < m.sentAt + 1000000) : d.memLate p = d := by
  simp only [Dev.memLate, h]
  exact if_neg (Nat.not_le.mpr hearly)

variable (hdue : m.sentAt + 1000000 ≤ d.raw) (he : e = d.modPort p (fun q => { q with memNow := none }))
include hdue he

theorem Dev.memLate_due : d.memLate p = (if m.auto then e else e.memDone p 5).memKick p := by
  simp only [Dev.memLate, h, ← he]
  exact if_pos hdue

theorem Dev.memLate_host (hauto : m.auto = false) : d.memLate p = (e.memDone p 5).memKick p ∧ (d.memLate p).MemEnded p 5 := by
  have hlate := Dev.memLate_due h hdue he
  rw [if_neg (by rw [hauto]; exact Bool.false_ne_true)] at hlate
  refine ⟨hlate, ?_⟩
  rw [hlate]
  exact (e.memDone_ended p (by decide)).of_only ((Dev.onMem ..).memKick (.refl ..))

end

/-! ### The usage words are read -/

section
variable {p : Port} {s : State}

theorem gives_usageRead (p : Port) (s : State) : Gives (.usageRead p) s (if (s.dev.port p.val).useAt + 60000000000 ≤ s.dev.raw then s.dev.usageRead p.val else s.dev) := rfl

theorem usageRead_stays (h : s.dev.raw < (s.dev.port p.val).useAt + 60000000000 ∨ s.dev.oddPort p.val = true ∨
    ((s.dev.port p.val).st ≠ .up ∧ (s.dev.port p.val).st ≠ .idle) ∨ (s.dev.port p.val).session = none) : Gives (.usageRead p) s s.dev := by
  refine (gives_usageRead p s).congr ?_
  obtain h | h := h
  · exact if_neg (Nat.not_le.mpr h)
  · split
    · refine if_pos ?_
      simp only [Bool.or_eq_true, Bool.not_eq_true', Bool.or_eq_false_iff, decide_eq_false_iff_not, Option.isNone_iff_eq_none, or_assoc]
      exact h
    · rfl

variable (hdue : (s.dev.port p.val).useAt + 60000000000 ≤ s.dev.raw) (hodd : s.dev.oddPort p.val = false) (hst : (s.dev.port p.val).st = .up ∨ (s.dev.port p.val).st = .idle)
  (hsession : (s.dev.port p.val).session ≠ none)
include hdue hodd hst hsession

theorem usageRead_reads : Gives (.usageRead p) s ((s.dev.modPort p.val (fun q => { q with useAt := s.dev.raw })).memAuto p.val 1 4 0x10) := by
  refine (gives_usageRead p s).congr ((if_pos hdue).trans (if_neg ?_))
  simp only [Bool.or_eq_true, Bool.not_eq_true', Bool.or_eq_false_iff, decide_eq_false_iff_not, Option.isNone_iff_eq_none, hodd]
  tauto

/-- On a free lane without automatic commands the read goes out at once. -/
theorem usageRead_sends (hp : p.val < s.dev.ports.length) (hfree : s.dev.MemFree p.val) (hauto : ∀ m ∈ (s.dev.port p.val).memQ, m.auto = false) :
    Completes (.usageRead p) s (fun d => (d.port p.val).useAt = s.dev.raw ∧ (d.port p.val).memQ = (s.dev.port p.val).memQ ∧
      (d.port p.val).memNow = some { op := 1, count := 4, addr := 0x10, data := [], auto := true, txn := (s.dev.port p.val).txn, sentAt := s.dev.raw }) := by
  obtain ⟨x, hx⟩ : ∃ x, x = s.dev.modPort p.val (fun q => { q with useAt := s.dev.raw }) := ⟨_, rfl⟩
  obtain ⟨m, hm⟩ : ∃ m : MemCmd, m = { op := 1, count := 4, addr := 0x10, data := [], auto := true } := ⟨_, rfl⟩
  obtain ⟨y, hy⟩ : ∃ y, y = x.modPort p.val (fun q => { q with memQ := q.memQ.filter (fun m => m.auto) ++ [m] ++ q.memQ.filter (fun m => !m.auto) }) := ⟨_, rfl⟩
  have hnone : (s.dev.port p.val).memQ.filter (fun m => m.auto) = [] := by
    rw [List.filter_eq_nil_iff]
    exact fun m hm => by rw [hauto m hm]; exact Bool.false_ne_true
  have hall : (s.dev.port p.val).memQ.filter (fun m => !m.auto) = (s.dev.port p.val).memQ := by
    rw [List.filter_eq_self]
    exact fun m hm => by rw [hauto m hm]; rfl
  have hxport : x.port p.val = { s.dev.port p.val with useAt := s.dev.raw } := by rw [hx]; exact Dev.port_modPort_self hp _
  have hxlen : p.val < x.ports.length := by rw [hx, Dev.length_modPort]; exact hp
  have hyport : y.port p.val = { s.dev.port p.val with memQ := m :: (s.dev.port p.val).memQ, useAt := s.dev.raw } := by
    rw [hy, Dev.port_modPort_self hxlen, hxport]
    dsimp only
    rw [hnone, hall]
    rfl
  have hylen : y.ports.length = s.dev.ports.length := by rw [hy, Dev.length_modPort, hx, Dev.length_modPort]
  have hraw : y.raw = s.dev.raw := by rw [hy, hx]; rfl
  have hyfree : y.MemFree p.val := hfree.of_queue hp hyport hylen (by rw [hy, hx]; rfl) hraw
  have hsent := hyfree.kick (hylen ▸ hp) (m := m) (rest := (s.dev.port p.val).memQ) (by rw [hyport])
  have hnow := hsent.now
  have huse := hsent.useAt
  rw [hyport, hraw] at hnow
  rw [hyport] at huse
  have hgives := usageRead_reads hdue hodd hst hsession
  rw [← hx, Dev.memAuto, ← hm, ← hy] at hgives
  exact ⟨_, hgives, huse, hsent.queue, by rw [hnow, hm]⟩

end

end Sys2Proof.Machine
end


section
/-! PROOF. The reply to a command of a head's memory (R261, R263, R264; settles O5). -/

namespace Sys2Proof.Machine

/-! ### The reply -/

/-- Is the MAC of a reply right, by the session of its port (R263). -/
def HlkPort.macRight (q : HlkPort) (ws : List Nat) : Bool :=
  match q.session with
  | some k => q.ctrRx < ws.getD 1 0 && 4 ≤ ws.length && ws.drop (ws.length - 2) = macWords k 1 (ws.getD 1 0) (ws.take (ws.length - 2))
  | none => false

theorem HlkPort.macRight_iff (q : HlkPort) (ws : List Nat) : q.macRight ws = true ↔
    ∃ k, q.session = some k ∧ q.ctrRx < ws.getD 1 0 ∧ 4 ≤ ws.length ∧ ws.drop (ws.length - 2) = macWords k 1 (ws.getD 1 0) (ws.take (ws.length - 2)) := by
  cases h : q.session with
  | none => simp [HlkPort.macRight, h]
  | some k => simp only [HlkPort.macRight, h, Bool.and_eq_true, decide_eq_true_eq, and_assoc, Option.some.injEq, exists_eq_left']

/-- A port whose command has its reply. -/
def Dev.memOver (d : Dev) (p st ctr : Nat) : Dev :=
  let d := d.modPort p (fun q => { q with memNow := none })
  if st = 0 then d.modPort p (fun q => { q with ctrRx := ctr }) else d

/-- The words of a READ are shown. -/
def Dev.memData (d : Dev) (p n : Nat) (data : List Nat) : Dev := (List.range n).foldl (fun d k => d.set F.HLK_MEM_DATA (data.getD k 0) p k) d

/-- A reply to a host's command that is not refused, before the result is shown. -/
def Dev.memTaken (d : Dev) (p : Nat) (m : MemCmd) (ws : List Nat) : Dev :=
  let x := d.memOver p (bits (ws.headD 0) 24 4) (ws.getD 1 0)
  if bits (ws.headD 0) 24 4 = 0 && m.op = 1 then x.memData p (Nat.min 8 m.count) ((ws.take (ws.length - 2)).drop 2) else x

section
variable {d : Dev} {p : Nat} {m : MemCmd} (hauto : m.auto = false) {ws : List Nat}
include hauto

theorem Dev.memReply_eq : d.memReply p m ws =
    if bits (ws.headD 0) 24 4 = 0 && !(d.port p).macRight ws then ((d.modPort p (fun q => { q with memNow := none })).memDone p 3).authStart p
    else ((d.memTaken p m ws).memDone p (if bits (ws.headD 0) 24 4 = 5 then 7 else bits (ws.headD 0) 24 4)).memKick p := by
  simp only [Dev.memReply, hauto]
  rfl

theorem Dev.memReply_refused (hst : bits (ws.headD 0) 24 4 = 0) (hmac : (d.port p).macRight ws = false) :
    d.memReply p m ws = ((d.modPort p (fun q => { q with memNow := none })).memDone p 3).authStart p := by
  rw [Dev.memReply_eq hauto, if_pos]
  rw [hmac, decide_eq_true hst]
  rfl

theorem Dev.memReply_taken (h : bits (ws.headD 0) 24 4 ≠ 0 ∨ (d.port p).macRight ws = true) : d.memReply p m ws =
    ((d.memTaken p m ws).memDone p (if bits (ws.headD 0) 24 4 = 5 then 7 else bits (ws.headD 0) 24 4)).memKick p := by
  rw [Dev.memReply_eq hauto, if_neg]
  rw [Bool.and_eq_true, decide_eq_true_eq, Bool.not_eq_true', not_and, Bool.not_eq_false]
  exact fun hzero => h.resolve_left (not_not.mpr hzero)

/-- A wrong MAC or counter begins the exchange again. -/
theorem Dev.memReply_wrong (hp : p < d.ports.length) (hst : bits (ws.headD 0) 24 4 = 0) (hmac : (d.port p).macRight ws = false) :
    (d.memReply p m ws).MemEnded p 3 ∧ ((d.memReply p m ws).port p).stage = 1 ∧ ((d.memReply p m ws).port p).session = none := by
  obtain ⟨x, hx⟩ : ∃ x, x = (d.modPort p (fun q => { q with memNow := none })).memDone p 3 := ⟨_, rfl⟩
  have hended : x.MemEnded p 3 := hx ▸ Dev.memDone_ended _ _ (by decide)
  have hlen : p < x.ports.length := by rw [hx, Dev.ports_memDone, Dev.length_modPort]; exact hp
  obtain ⟨-, hstage, hsession, -⟩ := Dev.authStart_begins hlen
  rw [Dev.memReply_refused hauto hst hmac, ← hx]
  exact ⟨hended.of_only ((Dev.onMem ..).authStart (.refl ..)), hstage, hsession⟩

/-- The code of a reply that is not refused is the result. -/
theorem Dev.memReply_ended (h : bits (ws.headD 0) 24 4 ≠ 0 ∨ (d.port p).macRight ws = true) {st : Nat}
    (hst : st = if bits (ws.headD 0) 24 4 = 5 then 7 else bits (ws.headD 0) 24 4 % 8) : (d.memReply p m ws).MemEnded p st := by
  obtain ⟨x, hx⟩ : ∃ x, x = d.memTaken p m ws := ⟨_, rfl⟩
  obtain ⟨c, hc⟩ : ∃ c, c = if bits (ws.headD 0) 24 4 = 5 then 7 else bits (ws.headD 0) 24 4 := ⟨_, rfl⟩
  have hmod : st = c % 8 := by
    rw [hst, hc]
    split <;> rfl
  have hsame : x.memDone p c = x.memDone p st := by
    rw [Dev.memDone, Dev.memDone, hmod]
    congr 1
    exact (Dev.set_mod ..).symm
  rw [Dev.memReply_taken hauto h, ← hx, ← hc, hsame]
  exact (x.memDone_ended p (by omega)).of_only ((Dev.onMem ..).memKick (.refl ..))

/-- A right reply to a READ shows its words. -/
theorem Dev.memReply_data (hst : bits (ws.headD 0) 24 4 = 0) (hmac : (d.port p).macRight ws = true) (hop : m.op = 1) {k : Nat} (hk : k < Nat.min 8 m.count) :
    (d.memReply p m ws).get F.HLK_MEM_DATA p k = ((ws.take (ws.length - 2)).drop 2).getD k 0 % 4294967296 := by
  obtain ⟨x, hx⟩ : ∃ x, x = d.memTaken p m ws := ⟨_, rfl⟩
  obtain ⟨c, hc⟩ : ∃ c, c = if bits (ws.headD 0) 24 4 = 5 then 7 else bits (ws.headD 0) 24 4 := ⟨_, rfl⟩
  have hk8 : k < 8 := lt_of_lt_of_le hk (Nat.min_le_left ..)
  have hdone : (x.memDone p c).get F.HLK_MEM_DATA p k = x.get F.HLK_MEM_DATA p k := by
    rw [Dev.memDone, Dev.get_irq_ne _ _ _ _ _ _ ?_, Dev.get_set_distinct _ (by decide), Dev.get_set_distinct _ (by decide)]
    simp only [Field.key, Field.addr, F.HLK_MEM_DATA, F.HLK_IRQ_STAT]
    omega
  have htaken : x = (d.memOver p (bits (ws.headD 0) 24 4) (ws.getD 1 0)).memData p (Nat.min 8 m.count) ((ws.take (ws.length - 2)).drop 2) := by
    rw [hx, Dev.memTaken]
    refine if_pos ?_
    rw [hop, decide_eq_true hst]
    rfl
  have hkick := (Dev.onMem p (x.memDone p c)).memKick (.refl ..)
  rw [Dev.memReply_taken hauto (.inr hmac), ← hx, ← hc, hkick.get, hdone, htaken, Dev.memData, Dev.get_foldl_set_row F.HLK_MEM_DATA p ?_ _ _ _ k, if_pos hk]
  · rfl
  · intro a b hab
    simp only [Field.key, Field.addr, F.HLK_MEM_DATA] at hab
    omega

end

/-! ### The reply in the state -/

section
variable {p : Port} {s : State} {words : List Word} {w : Nat} {h : Dev} (hw : w = (words.map (fun x => x.toNat)).headD 0)
  (hh : h = s.dev.modPort p.val (fun q => { q with lastBack := s.dev.raw }))

theorem memResp_deaf (hst : (s.dev.port p.val).st ≠ .disabled) (hdeaf : (s.dev.port p.val).linked = false ∨ (s.dev.port p.val).bcLock = false) : Gives (.memResp p words) s s.dev :=
  (gives_memResp p words s).congr (Dev.memHeard_deaf hst hdeaf _)

include hw

theorem memResp_closed_other (hst : (s.dev.port p.val).st = .disabled)
    (hc : ∀ c, (s.dev.port p.val).closing = some c → bits w 28 4 ≠ 1 ∨ bits w 16 8 ≠ c.txn) : Gives (.memResp p words) s s.dev := by
  subst hw
  exact (gives_memResp p words s).congr ((Dev.memHeard_disabled hst _).trans (Dev.memClosed_other hc))

theorem memResp_closed_mine (hst : (s.dev.port p.val).st = .disabled) {c : ClosingRead} (hc : (s.dev.port p.val).closing = some c) (hop : bits w 28 4 = 1)
    (htxn : bits w 16 8 = c.txn) : Gives (.memResp p words) s (s.dev.closingReply p.val c (words.map (fun x => x.toNat))) := by
  subst hw
  exact (gives_memResp p words s).congr ((Dev.memHeard_disabled hst _).trans (Dev.memClosed_mine hc hop htxn))

variable (hlinked : (s.dev.port p.val).linked = true) (hlock : (s.dev.port p.val).bcLock = true)
  (hcmd : (s.dev.port p.val).stage = 0 ∨ bits w 16 8 ≠ ((s.dev.port p.val).txn + 255) % 256 ∨ (bits w 28 4 ≠ 4 ∧ bits w 28 4 ≠ 5))
include hh hlinked hlock hcmd

theorem memResp_command : Gives (.memResp p words) s
    (match (s.dev.port p.val).memNow with
      | some m => if bits w 28 4 = m.op && bits w 16 8 = m.txn then h.memReply p.val m (words.map (fun x => x.toNat)) else h
      | none => h) := by
  subst hw hh
  exact (gives_memResp p words s).congr ((Dev.memHeard_linked hlinked hlock _).trans (Dev.memAnswered_command hcmd))

theorem memResp_idle (hnow : (s.dev.port p.val).memNow = none) : Gives (.memResp p words) s h := by
  have hgives := memResp_command hw hh hlinked hlock hcmd
  rw [hnow] at hgives
  exact hgives

theorem memResp_other {m : MemCmd} (hnow : (s.dev.port p.val).memNow = some m) (hm : bits w 28 4 ≠ m.op ∨ bits w 16 8 ≠ m.txn) : Gives (.memResp p words) s h := by
  have hgives := memResp_command hw hh hlinked hlock hcmd
  rw [hnow] at hgives
  refine hgives.congr (if_neg ?_)
  rw [Bool.and_eq_true, decide_eq_true_eq, decide_eq_true_eq, not_and_or]
  exact hm

theorem memResp_reply {m : MemCmd} (hnow : (s.dev.port p.val).memNow = some m) (hop : bits w 28 4 = m.op) (htxn : bits w 16 8 = m.txn) :
    Gives (.memResp p words) s (h.memReply p.val m (words.map (fun x => x.toNat))) := by
  have hgives := memResp_command hw hh hlinked hlock hcmd
  rw [hnow] at hgives
  refine hgives.congr (if_pos ?_)
  rw [decide_eq_true hop, decide_eq_true htxn]
  rfl

end

/-! ### Heads are proved and reached -/

/-- The commands of the host: their rows, and what they do. -/
theorem memHost_keeps (d e : Dev) (p op : Nat) (q : HlkPort) (m : MemCmd) (hp : p < d.ports.length) (hq : q = d.port p) (he : e = d.memHost op p) (hm : m = d.memCmd op p) :
    (q.st ≠ .up → q.st ≠ .idle → e.get F.HLK_MEM_CMD_DONE p = 1 ∧ e.get F.HLK_MEM_CMD_STATUS p = 6 ∧ (e.get F.HLK_IRQ_STAT p).testBit 4 = true ∧ e.ports = d.ports) ∧
    (q.st = .up ∨ q.st = .idle →
      (d.oddPort p = true → e.get F.HLK_MEM_CMD_DONE p = 1 ∧ e.get F.HLK_MEM_CMD_STATUS p = 1 ∧ (e.get F.HLK_IRQ_STAT p).testBit 4 = true ∧ e.ports = d.ports) ∧
      (d.oddPort p = false → e.get F.HLK_MEM_CMD_DONE p = 0 ∧ e.get F.HLK_MEM_CMD_STATUS p = 0 ∧
        (q.st = .idle ∨ q.memNow ≠ none ∨ q.stage ≠ 0 ∨ (∃ r ∈ q.recs, r.sent = 0 ∨ r.again = true) → (e.port p).memQ = q.memQ ++ [m] ∧ (e.port p).memNow = q.memNow) ∧
        (q.st = .up → q.tx.mode = .on → q.memNow = none → q.memQ = [] → q.stage = 0 → (∀ r ∈ q.recs, r.sent ≠ 0 ∧ r.again = false) → q.ctrTx < 0xFFFF0000 →
          (d.laneTick p).underWay p = false → ((d.laneTick p).port p).tx.waits = [] →
          (e.port p).memQ = [] ∧ (e.port p).memNow = some { m with txn := q.txn, sentAt := d.raw }))) := by
  subst hq he hm
  refine ⟨fun hup hidle => ?_, fun hst => ⟨fun hodd => ?_, fun hodd => ?_⟩⟩
  · obtain ⟨hended, hports⟩ := Dev.memHost_down hup hidle op
    exact ⟨hended.done, hended.status, hended.irq, hports⟩
  · obtain ⟨hended, hports⟩ := Dev.memHost_odd hst hodd op
    exact ⟨hended.done, hended.status, hended.irq, hports⟩
  · obtain ⟨hdone, hstatus⟩ := Dev.memHost_shows hst hodd op
    exact ⟨hdone, hstatus, Dev.memHost_waits hst hodd op hp, fun h1 h2 h3 h4 h5 h6 h7 h8 h9 => Dev.memHost_sends hst hodd op hp ⟨h1, h2, h3, h5, h6, h7, h8, h9⟩ h4⟩

/-- Settles O5: an exchange is one of three stages, each with its right answer, its wrong one and its timeout; a command is held back or goes out at the lane's present time, and its reply ends it by
its code, or by its MAC where that is 0. -/
theorem headsAreProvedAndReached : Obligations.HeadsAreProvedAndReached := by
  unfold Obligations.HeadsAreProvedAndReached
  refine ⟨⟨fun rq p s h hp => ⟨fun hodd hst => hlkReauth_begins h hp hodd hst, hlkReauth_stays h⟩, fun p s q hq hp failed hfailed => ?_, fun rq w s h => headKeyCommit_keeps h⟩,
    fun rq p s _ => ⟨fun h => ⟨hlkMemRead_gives h, hlkMemCommit_gives h⟩, hlkMemWrite_gives⟩, fun d e p op q m hp hq he hm => memHost_keeps d e p op q m hp hq he hm,
    fun p s q hq hp => ⟨fun hnow => ?_, fun m hnow => ⟨fun hearly => ?_, fun hdue e he => ⟨fun hauto => ?_, fun hauto => ?_⟩⟩, fun words w h hw hh => ?_⟩,
    fun d e p q m ws c hp hq hauto he hc right hright => ?_, fun p s q hq hp => ⟨fun hno => ?_, fun hdue hodd hst hsession => ⟨?_, fun h1 h2 h3 h4 h5 h6 hauto h7 h8 => ?_⟩⟩⟩
  · have hfail : failed = s.dev.AuthFailed p.val := hfailed
    subst hq
    rw [hfail]
    refine ⟨authTimeout_waits, fun hstage hdue => ⟨_, authTimeout_fails hstage hdue, Dev.authFail_shows p.isLt hp⟩, fun words ws hlinked hlock hws htxn => ⟨fun hstage hop right hright => ?_,
      fun hstage hop => ⟨fun hst => ?_, memResp_error hlinked hlock hws htxn hp hstage hop⟩⟩⟩
    · have hright' : right ↔ bits (ws.headD 0) 24 4 = 0 ∧ s.dev.Proves p.val ws := hright
      exact ⟨fun h => memResp_proves hlinked hlock hws htxn hp hstage hop (hright'.mp h).1 (hright'.mp h).2,
        fun h => memResp_wrong hlinked hlock hws htxn hp hstage hop fun hr => h (hright'.mpr hr)⟩
    · obtain ⟨d, hgives, hopen⟩ := memResp_opens hlinked hlock hws htxn hp hstage hop hst
      exact ⟨d, hgives, hopen.st, hopen.stage, hopen.authOk, hopen.session, hopen.ctrRx⟩
  · subst hq
    exact (gives_memTimeout p s).congr (Dev.memLate_none hnow)
  · subst hq
    exact (gives_memTimeout p s).congr (Dev.memLate_early hnow hearly)
  · subst hq
    exact (gives_memTimeout p s).congr ((Dev.memLate_due hnow hdue he).trans (by rw [if_pos hauto]))
  · subst hq
    obtain ⟨heq, hended⟩ := Dev.memLate_host hnow hdue he hauto
    exact ⟨(gives_memTimeout p s).congr heq, _, gives_memTimeout p s, hended.done, hended.status, hended.irq⟩
  · subst hq
    exact ⟨memResp_deaf, memResp_closed_other hw, fun c hst => memResp_closed_mine hw hst, fun hlinked hlock hcmd => ⟨memResp_idle hw hh hlinked hlock hcmd,
      fun m hnow => ⟨memResp_other hw hh hlinked hlock hcmd hnow, memResp_reply hw hh hlinked hlock hcmd hnow⟩⟩⟩
  · subst hq he hc
    have hmac : right ↔ (d.port p).macRight ws = true := hright.trans (HlkPort.macRight_iff ..).symm
    by_cases hwrong : bits (ws.headD 0) 24 4 = 0 ∧ ¬ right
    · obtain ⟨hzero, hno⟩ := hwrong
      obtain ⟨hended, hstage, hsession⟩ := Dev.memReply_wrong (m := m) hauto hp hzero (Bool.eq_false_iff.mpr fun h => hno (hmac.mpr h))
      exact ⟨hended.done, hended.irq, fun h => absurd hzero h, fun _ h => absurd h hno, fun _ _ => ⟨hended.status, hstage, hsession⟩⟩
    · have hok : bits (ws.headD 0) 24 4 ≠ 0 ∨ (d.port p).macRight ws = true := by
        rw [← hmac]
        tauto
      have hended := Dev.memReply_ended (m := m) hauto hok rfl
      exact ⟨hended.done, hended.irq, fun _ => hended.status, fun hzero hr => ⟨hended.status.trans (by rw [hzero]; rfl), fun hop k hk => Dev.memReply_data hauto hzero (hmac.mp hr) hop hk⟩,
        fun hzero hno => absurd ⟨hzero, hno⟩ hwrong⟩
  · subst hq
    exact usageRead_stays hno
  · subst hq
    exact usageRead_reads hdue hodd hst hsession
  · subst hq
    exact usageRead_sends hdue hodd hst hsession hp ⟨h1, h2, h3, h4, h5, h6, h7, h8⟩ hauto

end Sys2Proof.Machine
end


section
/-! PROOF. What a report leaves of a camera port (R318, R320, R406): it may stop the port, and does no more. -/

namespace Sys2Proof.Machine

/-! ### A port's state -/

theorem Dev.camSt_modCam_self {d : Dev} {n : Nat} (hn : n < d.cam.length) (f : CamSt → CamSt) : (d.modCam n f).camSt n = f (d.camSt n) := by
  rw [Dev.camSt, Dev.modCam, getD_setAt, if_pos ⟨rfl, hn⟩]
  rfl

theorem Dev.camSt_modCam_ne (d : Dev) {n m : Nat} (h : n ≠ m) (f : CamSt → CamSt) : (d.modCam m f).camSt n = d.camSt n := by
  rw [Dev.camSt, Dev.modCam, getD_setAt, if_neg fun hh => h hh.1]
  rfl

/-- What a change to a port shows of a port: the change, or nothing. -/
theorem Dev.camSt_modCam (d : Dev) (n m : Nat) (f : CamSt → CamSt) : (d.modCam m f).camSt n = f (d.camSt n) ∨ (d.modCam m f).camSt n = d.camSt n := by
  rw [Dev.camSt, Dev.modCam, getD_setAt]
  split
  · exact .inl rfl
  · exact .inr rfl

theorem Dev.length_modCam (d : Dev) (n : Nat) (f : CamSt → CamSt) : (d.modCam n f).cam.length = d.cam.length := length_setAt ..

theorem Dev.get_modCam (d : Dev) (n : Nat) (f : CamSt → CamSt) (g : Field) (i j : Nat) : (d.modCam n f).get g i j = d.get g i j := rfl

theorem steady_cam : Steady (fun d : Dev => d.cam) where
  regs _ _ := rfl
  msix _ _ := rfl
  emit _ _ _ := rfl
  ports _ _ := rfl
  jobs _ _ := rfl
  jobQ _ _ _ := rfl
  vin _ _ _ := rfl
  stop _ _ := rfl

theorem Dev.cam_endCtxFrames (d : Dev) (n : Nat) : (d.endCtxFrames n).cam = d.cam := steady_cam.endCtxFrames (fun _ _ => rfl) (fun _ _ => rfl) d n

/-! ### From one state of a port to a later one -/

/-- A port is as it was, or stopped since. -/
structure Dev.CamFrom (n : Nat) (d e : Dev) : Prop where
  state : e.get F.CAM_P_STAT_STATE n = d.get F.CAM_P_STAT_STATE n ∨ e.get F.CAM_P_STAT_STATE n = 0
  lock : e.get F.CAM_P_STAT_LOCK n = d.get F.CAM_P_STAT_LOCK n ∨ e.get F.CAM_P_STAT_LOCK n = 0
  busy : e.get F.CAM_P_CTL_BUSY n = d.get F.CAM_P_CTL_BUSY n ∨ e.get F.CAM_P_CTL_BUSY n = 0
  result : d.get F.CAM_P_CTL_BUSY n = 0 → e.get F.CAM_P_CTL_RESULT n = d.get F.CAM_P_CTL_RESULT n
  irq : ∀ k < 16, (d.get F.CAM_IRQ_STAT).testBit k = true → (e.get F.CAM_IRQ_STAT).testBit k = true
  buf : (d.camSt n).buf = [] → (e.camSt n).buf = []
  current : (e.camSt n).current = (d.camSt n).current ∨ (e.camSt n).current = none
  resync : (e.camSt n).resync = (d.camSt n).resync

namespace Dev.CamFrom

variable {n : Nat} {d e : Dev}

theorem refl (n : Nat) (d : Dev) : d.CamFrom n d := ⟨.inl rfl, .inl rfl, .inl rfl, fun _ => rfl, fun _ _ h => h, fun h => h, .inl rfl, rfl⟩

theorem trans {g : Dev} (h : d.CamFrom n e) (h' : e.CamFrom n g) : d.CamFrom n g := by
  have hor {α : Type} {a b c z : α} (h1 : b = a ∨ b = z) (h2 : c = b ∨ c = z) : c = a ∨ c = z := h2.elim (fun h => h ▸ h1) .inr
  have hidle : d.get F.CAM_P_CTL_BUSY n = 0 → e.get F.CAM_P_CTL_BUSY n = 0 := fun h0 => h.busy.elim (fun h => h.trans h0) id
  exact ⟨hor h.state h'.state, hor h.lock h'.lock, hor h.busy h'.busy, fun h0 => (h'.result (hidle h0)).trans (h.result h0), fun k hk hb => h'.irq k hk (h.irq k hk hb),
    fun hb => h'.buf (h.buf hb), hor h.current h'.current, h'.resync.trans h.resync⟩

/-- What keeps a port's registers and its state but for lines that leave the buffer. -/
theorem of_regs (hget : ∀ g ∈ [F.CAM_P_STAT_STATE, F.CAM_P_STAT_LOCK, F.CAM_P_CTL_BUSY, F.CAM_P_CTL_RESULT], e.get g n = d.get g n) (hirq : e.get F.CAM_IRQ_STAT = d.get F.CAM_IRQ_STAT)
    (hbuf : (d.camSt n).buf = [] → (e.camSt n).buf = []) (hcurrent : (e.camSt n).current = (d.camSt n).current) (hresync : (e.camSt n).resync = (d.camSt n).resync) : d.CamFrom n e :=
  ⟨.inl (hget _ (by simp)), .inl (hget _ (by simp)), .inl (hget _ (by simp)), fun _ => hget _ (by simp), fun _ _ h => by rw [hirq]; exact h, hbuf, .inl hcurrent, hresync⟩

/-- What changes no field of the ports, nor their state. -/
theorem of_beyond (hn : n < 4) {S : List Field} (hb : e.beyond S = d.beyond S)
    (hS : (F.CAM_IRQ_STAT.clear S && F.CAM_P_STAT_STATE.clear S && F.CAM_P_STAT_LOCK.clear S && F.CAM_P_CTL_BUSY.clear S && F.CAM_P_CTL_RESULT.clear S) = true)
    (hcam : e.cam = d.cam) : d.CamFrom n e := by
  simp only [Bool.and_eq_true] at hS
  obtain ⟨⟨⟨⟨hirq, hstate⟩, hlock⟩, hbusy⟩, hresult⟩ := hS
  have hst : e.camSt n = d.camSt n := by rw [Dev.camSt, hcam]; rfl
  refine of_regs (fun g hg => ?_) (Dev.get_of_beyond hb hirq (by decide) (by decide)) (fun h => by rw [hst]; exact h) (by rw [hst]) (by rw [hst])
  simp only [List.mem_cons, List.not_mem_nil, or_false] at hg
  rcases hg with rfl | rfl | rfl | rfl
  · exact Dev.get_of_beyond hb hstate hn (by decide)
  · exact Dev.get_of_beyond hb hlock hn (by decide)
  · exact Dev.get_of_beyond hb hbusy hn (by decide)
  · exact Dev.get_of_beyond hb hresult hn (by decide)

end Dev.CamFrom

theorem Dev.camFrom_purge (n : Nat) (d : Dev) (m : Nat) : d.CamFrom n (d.purge m) := by
  obtain ⟨f, hf, hbuf⟩ : ∃ f : CamSt → CamSt, d.purge m = d.modCam m f ∧ ∀ c, (c.buf = [] → (f c).buf = []) ∧ (f c).current = c.current ∧ (f c).resync = c.resync := by
    refine ⟨_, rfl, fun c => ⟨fun h => ?_, rfl, rfl⟩⟩
    dsimp only
    rw [h]
    rfl
  rw [hf]
  obtain h | h := d.camSt_modCam n m f
  · obtain ⟨h1, h2, h3⟩ := hbuf (d.camSt n)
    exact .of_regs (fun _ _ => rfl) rfl (fun hb => by rw [h]; exact h1 hb) (by rw [h]; exact h2) (by rw [h]; exact h3)
  · exact .of_regs (fun _ _ => rfl) rfl (fun hb => by rw [h]; exact hb) (by rw [h]) (by rw [h])

theorem Dev.camFrom_endCtxFrames {n : Nat} (hn : n < 4) (d : Dev) (m : Nat) : d.CamFrom n (d.endCtxFrames m) :=
  .of_beyond hn (S := ispFields) (Dev.beyond_endCtxFrames (List.Subset.refl _) ..) (by decide) (Dev.cam_endCtxFrames ..)

/-- The end of a control command: BUSY falls. -/
theorem Dev.ctlDown_shows (d : Dev) {n : Nat} (hn : n < 4) : (d.ctlDown n).get F.CAM_P_CTL_BUSY n = 0 ∧ (d.get F.CAM_P_CTL_BUSY n = 0 → d.ctlDown n = d) ∧
    (d.get F.CAM_P_CTL_BUSY n ≠ 0 → (d.ctlDown n).get F.CAM_P_CTL_RESULT n = 3) := by
  by_cases h : d.get F.CAM_P_CTL_BUSY n = 0
  · have hsame : d.ctlDown n = d := if_neg fun hf => (Dev.flag_eq_true ..).mp hf h
    exact ⟨by rw [hsame]; exact h, fun _ => hsame, fun hne => absurd h hne⟩
  · have hend : d.ctlDown n = d.ctlEnd n 3 := if_pos ((Dev.flag_eq_true ..).mpr h)
    obtain ⟨hbusy, hresult, -⟩ := d.ctlEnd_shows hn 3
    rw [hend]
    exact ⟨hbusy, fun h0 => absurd h0 h, fun _ => hresult⟩

/-- A register of a port other than those of its control command. -/
theorem Dev.get_ctlDown (d : Dev) (m : Nat) {g : Field} (hg : (g.distinct F.CAM_IRQ_STAT && g.distinct F.CAM_P_CTL_BUSY && g.distinct F.CAM_P_CTL_RESULT) = true) (i j : Nat) :
    (d.ctlDown m).get g i j = d.get g i j := by
  simp only [Bool.and_eq_true] at hg
  obtain ⟨⟨hirq, hbusy⟩, hresult⟩ := hg
  simp only [Dev.ctlDown]
  split
  · rw [Dev.ctlEnd, Dev.get_irq_ne _ _ _ _ _ _ (Field.key_ne_of_distinct hirq _ _ _ _), Dev.get_modCam, Dev.get_set_distinct _ hresult, Dev.get_set_distinct _ hbusy]
  · rfl

/-- A cause of the cameras that is set stays so under the end of a control command. -/
theorem Dev.camIrq_ctlDown {d : Dev} (m : Nat) {k : Nat} (hk : k < 16) (h : (d.get F.CAM_IRQ_STAT).testBit k = true) : ((d.ctlDown m).get F.CAM_IRQ_STAT).testBit k = true := by
  simp only [Dev.ctlDown]
  split
  · refine Dev.testBit_irq_of ?_ hk ..
    rw [Dev.get_modCam, Dev.get_set_distinct _ (by decide), Dev.get_set_distinct _ (by decide)]
    exact h
  · exact h

/-- The end of a control command leaves a port's state but for the command's time. -/
theorem Dev.camSt_ctlDown (d : Dev) (n m : Nat) : ∃ t, (d.ctlDown m).camSt n = { d.camSt n with ctlEnd := t } := by
  simp only [Dev.ctlDown]
  split
  · obtain ⟨x, hx⟩ : ∃ x, x = (d.set F.CAM_P_CTL_BUSY 0 m).set F.CAM_P_CTL_RESULT 3 m := ⟨_, rfl⟩
    have hcam : (d.ctlEnd m 3).cam = (x.modCam m (fun c => { c with ctlEnd := none })).cam := hx ▸ steady_cam.irq ..
    have hxst : x.camSt n = d.camSt n := by rw [hx]; rfl
    have hst : (d.ctlEnd m 3).camSt n = (x.modCam m (fun c => { c with ctlEnd := none })).camSt n := by rw [Dev.camSt, hcam]; rfl
    rw [hst]
    obtain h | h := x.camSt_modCam n m (fun c => { c with ctlEnd := none })
    · exact ⟨none, by rw [h, hxst]⟩
    · exact ⟨(d.camSt n).ctlEnd, by rw [h, hxst]⟩
  · exact ⟨_, rfl⟩

theorem Dev.length_ctlDown (d : Dev) (m : Nat) : (d.ctlDown m).cam.length = d.cam.length := by
  simp only [Dev.ctlDown]
  split
  · have hcam : (d.ctlEnd m 3).cam = (((d.set F.CAM_P_CTL_BUSY 0 m).set F.CAM_P_CTL_RESULT 3 m).modCam m (fun c => { c with ctlEnd := none })).cam := steady_cam.irq ..
    rw [hcam, Dev.length_modCam]
    rfl
  · rfl

end Sys2Proof.Machine
end


section
/-! PROOF. A camera port that stops, and a report of a fault source, as a port shows them (R320, R406). -/

namespace Sys2Proof.Machine

/-! ### A port stops -/

theorem Dev.get_set_port (d : Dev) {f : Field} (hf : 0 < f.s1) (v n m : Nat) : (d.set f v m).get f n = d.get f n ∨ (d.set f v m).get f n = v % 2 ^ f.width := by
  by_cases h : n = m
  · right
    rw [h]
    exact Dev.get_set_self ..
  · refine .inl (Dev.get_set_ne _ _ _ _ _ _ _ _ fun hk => h (Nat.eq_of_mul_eq_mul_left hf ?_))
    simp only [Field.key, Field.addr] at hk
    omega

theorem Dev.camFrom_setState (n : Nat) (d : Dev) (m : Nat) : d.CamFrom n (d.set F.CAM_P_STAT_STATE 0 m) :=
  ⟨d.get_set_port (f := F.CAM_P_STAT_STATE) (by decide) 0 n m, .inl (Dev.get_set_distinct _ (by decide) ..), .inl (Dev.get_set_distinct _ (by decide) ..), fun _ => Dev.get_set_distinct _ (by decide) ..,
    fun _ _ h => by rw [Dev.get_set_distinct _ (by decide)]; exact h, fun h => h, .inl rfl, rfl⟩

theorem Dev.camFrom_setLock (n : Nat) (d : Dev) (m : Nat) : d.CamFrom n (d.set F.CAM_P_STAT_LOCK 0 m) :=
  ⟨.inl (Dev.get_set_distinct _ (by decide) ..), d.get_set_port (f := F.CAM_P_STAT_LOCK) (by decide) 0 n m, .inl (Dev.get_set_distinct _ (by decide) ..), fun _ => Dev.get_set_distinct _ (by decide) ..,
    fun _ _ h => by rw [Dev.get_set_distinct _ (by decide)]; exact h, fun h => h, .inl rfl, rfl⟩

theorem Dev.camFrom_ctlDown {n : Nat} (hn : n < 4) (d : Dev) (m : Nat) : d.CamFrom n (d.ctlDown m) := by
  obtain ⟨t, hst⟩ := d.camSt_ctlDown n m
  have hkeep : (d.ctlDown m).get F.CAM_P_STAT_STATE n = d.get F.CAM_P_STAT_STATE n ∧ (d.ctlDown m).get F.CAM_P_STAT_LOCK n = d.get F.CAM_P_STAT_LOCK n :=
    ⟨d.get_ctlDown m (by decide) n 0, d.get_ctlDown m (by decide) n 0⟩
  obtain ⟨hstate, hlock⟩ := hkeep
  have hctl : ((d.ctlDown m).get F.CAM_P_CTL_BUSY n = d.get F.CAM_P_CTL_BUSY n ∨ (d.ctlDown m).get F.CAM_P_CTL_BUSY n = 0) ∧
      (d.get F.CAM_P_CTL_BUSY n = 0 → (d.ctlDown m).get F.CAM_P_CTL_RESULT n = d.get F.CAM_P_CTL_RESULT n) := by
    by_cases hm : n = m
    · subst hm
      obtain ⟨hbusy, hidle, -⟩ := d.ctlDown_shows hn
      exact ⟨.inr hbusy, fun h0 => by rw [hidle h0]⟩
    · simp only [Dev.ctlDown]
      split
      · have hkey (g : Field) (hg : g = F.CAM_P_CTL_BUSY ∨ g = F.CAM_P_CTL_RESULT) : (d.ctlEnd m 3).get g n = d.get g n := by
          rw [Dev.ctlEnd, Dev.get_irq_ne, Dev.get_modCam, Dev.get_set_ne, Dev.get_set_ne] <;>
            rcases hg with rfl | rfl <;> simp only [Field.key, Field.addr, F.CAM_P_CTL_BUSY, F.CAM_P_CTL_RESULT, F.CAM_IRQ_STAT] <;> omega
        exact ⟨.inl (hkey _ (.inl rfl)), fun _ => hkey _ (.inr rfl)⟩
      · exact ⟨.inl rfl, fun _ => rfl⟩
  obtain ⟨hbusy, hresult⟩ := hctl
  exact ⟨.inl hstate, .inl hlock, hbusy, hresult, fun k hk h => Dev.camIrq_ctlDown m hk h, fun h => by rw [hst]; exact h, .inl (by rw [hst]), by rw [hst]⟩

/-- A port without its frames and lines. -/
def CamSt.emptied (c : CamSt) : CamSt := { c with falls := [], frames := [], current := none, buf := [], hand := [] }

/-- A port that runs, as it is stopped, before its frames and lines are forgotten. -/
def Dev.camHalted (d : Dev) (n : Nat) : Dev := (((d.set F.CAM_P_STAT_STATE 0 n).set F.CAM_P_STAT_LOCK 0 n).ctlDown n).endCtxFrames n

theorem Dev.stopCamera_stopped {d : Dev} {n : Nat} (h : d.get F.CAM_P_STAT_STATE n = 0) : d.stopCamera n = d := if_pos h

theorem Dev.stopCamera_running {d : Dev} {n : Nat} (h : d.get F.CAM_P_STAT_STATE n ≠ 0) : d.stopCamera n = (d.camHalted n).modCam n CamSt.emptied := if_neg h

theorem Dev.camFrom_camHalted {n : Nat} (hn : n < 4) (d : Dev) (m : Nat) : d.CamFrom n (d.camHalted m) := by
  obtain ⟨x, hx⟩ : ∃ x, x = d.set F.CAM_P_STAT_STATE 0 m := ⟨_, rfl⟩
  obtain ⟨y, hy⟩ : ∃ y, y = x.set F.CAM_P_STAT_LOCK 0 m := ⟨_, rfl⟩
  obtain ⟨z, hz⟩ : ∃ z, z = y.ctlDown m := ⟨_, rfl⟩
  have hxd : d.CamFrom n x := hx ▸ d.camFrom_setState n m
  have hyx : x.CamFrom n y := hy ▸ x.camFrom_setLock n m
  have hzy : y.CamFrom n z := hz ▸ Dev.camFrom_ctlDown hn y m
  rw [Dev.camHalted, ← hx, ← hy, ← hz]
  exact ((hxd.trans hyx).trans hzy).trans (Dev.camFrom_endCtxFrames hn z m)

theorem Dev.camFrom_stopCamera {n : Nat} (hn : n < 4) (d : Dev) (m : Nat) : d.CamFrom n (d.stopCamera m) := by
  by_cases h : d.get F.CAM_P_STAT_STATE m = 0
  · rw [Dev.stopCamera_stopped h]
    exact .refl n d
  · obtain ⟨z, hz⟩ : ∃ z, z = d.camHalted m := ⟨_, rfl⟩
    have hhalt : d.CamFrom n z := hz ▸ Dev.camFrom_camHalted hn d m
    rw [Dev.stopCamera_running h, ← hz]
    refine hhalt.trans ?_
    obtain hst | hst := z.camSt_modCam n m CamSt.emptied
    · exact ⟨.inl rfl, .inl rfl, .inl rfl, fun _ => rfl, fun _ _ h => h, fun _ => by rw [hst]; rfl, .inr (by rw [hst]; rfl), by rw [hst]; rfl⟩
    · exact .of_regs (fun _ _ => rfl) rfl (fun hb => by rw [hst]; exact hb) (by rw [hst]) (by rw [hst])

/-- A port that has been stopped. -/
structure Dev.CamStopped (n : Nat) (d : Dev) : Prop where
  state : d.get F.CAM_P_STAT_STATE n = 0
  lock : d.get F.CAM_P_STAT_LOCK n = 0
  busy : d.get F.CAM_P_CTL_BUSY n = 0
  buf : (d.camSt n).buf = []
  current : (d.camSt n).current = none

theorem Dev.CamStopped.later {n : Nat} {d e : Dev} (h : d.CamStopped n) (h' : d.CamFrom n e) : e.CamStopped n :=
  ⟨h'.state.elim (fun hs => hs.trans h.state) id, h'.lock.elim (fun hs => hs.trans h.lock) id, h'.busy.elim (fun hs => hs.trans h.busy) id, h'.buf h.buf,
    h'.current.elim (fun hs => hs.trans h.current) id⟩

theorem Dev.stopCamera_shows {d : Dev} {n : Nat} (hn : n < 4) (hlen : n < d.cam.length) (h : d.get F.CAM_P_STAT_STATE n ≠ 0) :
    (d.stopCamera n).CamStopped n ∧ (d.get F.CAM_P_CTL_BUSY n ≠ 0 → (d.stopCamera n).get F.CAM_P_CTL_RESULT n = 3) := by
  obtain ⟨x, hx⟩ : ∃ x, x = (d.set F.CAM_P_STAT_STATE 0 n).set F.CAM_P_STAT_LOCK 0 n := ⟨_, rfl⟩
  obtain ⟨y, hy⟩ : ∃ y, y = x.ctlDown n := ⟨_, rfl⟩
  obtain ⟨z, hz⟩ : ∃ z, z = y.endCtxFrames n := ⟨_, rfl⟩
  have hstop : d.stopCamera n = z.modCam n CamSt.emptied := by rw [Dev.stopCamera_running h, hz, hy, hx]; rfl
  have hzlen : n < z.cam.length := by rw [hz, Dev.cam_endCtxFrames, hy, Dev.length_ctlDown, hx]; exact hlen
  have hget {g : Field} (hg : g.clear ispFields = true) (hn1 : n < g.n1) (hn2 : 0 < g.n2) : z.get g n = y.get g n := by
    rw [hz]
    exact Dev.get_of_beyond (Dev.beyond_endCtxFrames (List.Subset.refl _) ..) hg hn1 hn2
  obtain ⟨hbusy, -, hresult⟩ := x.ctlDown_shows hn
  have hxbusy : x.get F.CAM_P_CTL_BUSY n = d.get F.CAM_P_CTL_BUSY n := by rw [hx, Dev.get_set_distinct _ (by decide), Dev.get_set_distinct _ (by decide)]
  have hstate : y.get F.CAM_P_STAT_STATE n = 0 := by
    rw [hy, Dev.get_ctlDown _ _ (by decide), hx, Dev.get_set_distinct _ (by decide), Dev.get_set_self]
    rfl
  have hlock : y.get F.CAM_P_STAT_LOCK n = 0 := by
    rw [hy, Dev.get_ctlDown _ _ (by decide), hx, Dev.get_set_self]
    rfl
  rw [← hy] at hbusy hresult
  rw [hxbusy] at hresult
  rw [hstop]
  refine ⟨⟨?_, ?_, ?_, ?_, ?_⟩, fun hb => ?_⟩
  · rw [Dev.get_modCam, hget (by decide) hn (by decide)]; exact hstate
  · rw [Dev.get_modCam, hget (by decide) hn (by decide)]; exact hlock
  · rw [Dev.get_modCam, hget (by decide) hn (by decide)]; exact hbusy
  · rw [Dev.camSt_modCam_self hzlen]; rfl
  · rw [Dev.camSt_modCam_self hzlen]; rfl
  · rw [Dev.get_modCam, hget (by decide) hn (by decide)]; exact hresult hb

/-! ### A report -/

/-- The fields that a reaction may change besides those of a stopped port. -/
def otherCamFields : List Field := eventFields ++ [F.ENC_STAT_SUSPECT] ++ ddrFields ++ portFields ++ ispFields ++ safeFields ++ stopFields

theorem Dev.camFrom_stopIsp {n : Nat} (hn : n < 4) (d : Dev) : d.CamFrom n d.stopIsp :=
  List.foldlRecOn (motive := fun e => d.CamFrom n e) _ _ (.refl n d) fun e he m _ => (he.trans (Dev.camFrom_endCtxFrames hn e m)).trans (Dev.camFrom_purge n _ m)

section
variable {n : Nat} (hn : n < 4) {d e : Dev} (h : d.CamFrom n e)
include hn h

/-- What changes none of a port's fields nor the cameras' state leaves a port as it was. -/
theorem Dev.CamFrom.still {g : Dev} (hb : g.beyond otherCamFields = e.beyond otherCamFields) (hcam : g.cam = e.cam) : d.CamFrom n g := h.trans (.of_beyond hn hb (by decide) hcam)

theorem Dev.CamFrom.fenceEffect (u : FUnit) : d.CamFrom n (e.fenceEffect u) := by
  have hchan (c : Nat) : (e.fenceChannel c).cam = e.cam := by
    simp only [Dev.fenceChannel]
    split <;> rfl
  cases u with
  | ddr c => exact h.still hn (Dev.beyond_fenceChannel (by decide) ..) (hchan c)
  | port p => exact h.still hn (Dev.beyond_disablePort (by decide) ..) (steady_cam.disablePort e p [])
  | cam m => exact h.trans (Dev.camFrom_stopCamera hn e m)
  | isp => exact h.trans (Dev.camFrom_stopIsp hn e)
  | enc m => exact h.still hn (Dev.beyond_set _ _ _ _ (by decide) _) rfl
  | _ => exact h

end

theorem Dev.outlives_camFrom {n : Nat} (hn : n < 4) (d : Dev) : Outlives (d.CamFrom n) where
  flt e f h := h.still hn (g := { e with flt := f }) rfl rfl
  overwrites e h := h.still hn (Dev.beyond_bump _ _ _ _ (by decide) _) rfl
  lastSrc e _ h := h.still hn (Dev.beyond_set _ _ _ _ (by decide) _) rfl
  irq e k h := h.still hn (Dev.beyond_irq _ _ _ (by decide) _ _ _) (steady_cam.fltIrq e k)
  fence e u h := h.fenceEffect hn u
  stop e c h := h.still hn (Dev.beyond_stopTrigger (by decide) ..) (steady_cam.stopTrigger e c)
  settle e g h := h.still hn (Dev.beyond_settle (by decide) ..) (steady_cam.settle (fun _ _ => rfl) e g)

theorem Dev.camFrom_report {n : Nat} (hn : n < 4) (d : Dev) (s i : Nat) : d.CamFrom n (d.report s i) := (Dev.outlives_camFrom hn d).report (.refl n d) s i

theorem Dev.camFrom_drain {n : Nat} (hn : n < 4) (d : Dev) : d.CamFrom n d.drain := (Dev.outlives_camFrom hn d).drain (.refl n d)

end Sys2Proof.Machine
end


section
/-! PROOF. ENABLE of a camera port, its lock, and lines that are dropped (R318, R320, R322, R328). -/

namespace Sys2Proof.Machine

/-! ### CAM_Pn_LINK (R319, R320) -/

/-- The fields that a write of CAM_Pn_LINK stores, with those that it clamps again. -/
def linkFields : List Field :=
  [F.CAM_P_LINK_SPEED, F.CAM_P_LINK_CONNS, F.CAM_P_LINK_FORMAT, F.CAM_P_LINK_WIDTH, F.ISP_K_WIN_X0, F.ISP_K_WIN_W, F.ISP_K_GN_NY, F.ISP_K_S_CROP_X0, F.ISP_K_S_CROP_W]

/-- A device that differs in registers of some fields alone. -/
structure Dev.Rewritten (S : List Field) (d e : Dev) : Prop where
  regs : e = { d with regs := e.regs }
  beyond : e.beyond S = d.beyond S

namespace Dev.Rewritten

variable {S : List Field} {d e : Dev}

theorem refl (S : List Field) (d : Dev) : d.Rewritten S d := ⟨rfl, rfl⟩

theorem set (h : d.Rewritten S e) {f : Field} (hf : f ∈ S) (v i j : Nat) : d.Rewritten S (e.set f v i j) := by
  refine ⟨?_, (Dev.beyond_set e f i j (List.cons_subset.mpr ⟨hf, List.nil_subset _⟩) v).trans h.beyond⟩
  rw [h.regs]
  rfl

theorem clampField (h : d.Rewritten S e) {f : Field} (hf : f ∈ S) (lo hi i j : Nat) : d.Rewritten S (e.clampField f lo hi i j) := h.set hf _ i j

theorem foldl {α : Type} (g : Dev → α → Dev) (hg : ∀ x a, d.Rewritten S x → d.Rewritten S (g x a)) (l : List α) (h : d.Rewritten S e) : d.Rewritten S (l.foldl g e) :=
  List.foldlRecOn _ _ h fun x hx a _ => hg x a hx

end Dev.Rewritten

theorem Dev.Rewritten.normCtx {d e : Dev} (h : d.Rewritten linkFields e) (k : Nat) : d.Rewritten linkFields (e.normCtx k) := by
  have hwin := ((h.clampField (f := F.ISP_K_WIN_X0) (by decide) 0 (e.get F.CAM_P_LINK_WIDTH (e.get F.ISP_K_CFG_SRC k)) k 0).clampField (f := F.ISP_K_WIN_W) (by decide) 0)
  simp only [Dev.normCtx]
  refine Dev.Rewritten.foldl _ (fun x j hx => ?_) _ (Dev.Rewritten.clampField ?_ (by decide) ..)
  · exact (hx.clampField (by decide) ..).clampField (by decide) ..
  · exact hwin ..

theorem storedAt_link (rq : Requester) (n : Cam) : inPages (0x90100 + 0x100 * n.val) = true ∧
    StoredAt (0x90100 + 0x100 * n.val) [(F.CAM_P_LINK_SPEED, n.val, 0, 0), (F.CAM_P_LINK_CONNS, n.val, 0, 0), (F.CAM_P_LINK_FORMAT, n.val, 0, 0), (F.CAM_P_LINK_WIDTH, n.val, 0, 0)] := by
  revert n
  cases rq <;> decide +kernel

theorem Dev.normPage_link (d : Dev) (n : Cam) : d.normPage (0x90100 + 0x100 * n.val) = (List.range 8).foldl (fun d k => d.normCtx k) d := by
  obtain ⟨n, hn⟩ := n
  obtain rfl | rfl | rfl | rfl : n = 0 ∨ n = 1 ∨ n = 2 ∨ n = 3 := by omega
  · change d.normPage 0x90100 = _; rfl
  · change d.normPage 0x90200 = _; rfl
  · change d.normPage 0x90300 = _; rfl
  · change d.normPage 0x90400 = _; rfl

theorem Dev.storeWord_link (d : Dev) (rq : Requester) (n : Cam) (w : Nat) : d.Rewritten linkFields (d.storeWord rq (0x90100 + 0x100 * n.val) w) := by
  obtain ⟨-, hstored⟩ := storedAt_link rq n
  have hord : ∀ f ∈ linkFields, f.ordinary := by decide
  have hplain : ∀ x ∈ [(F.CAM_P_LINK_SPEED, n.val, 0, 0), (F.CAM_P_LINK_CONNS, n.val, 0, 0), (F.CAM_P_LINK_FORMAT, n.val, 0, 0), (F.CAM_P_LINK_WIDTH, n.val, 0, 0)],
      (x : FieldPart).1.ordinary ∧ (match x.1.role with | none => true | some y => decide (y.code ≤ 0)) = true := by
    intro x hx
    simp only [List.mem_cons, List.not_mem_nil, or_false] at hx
    rcases hx with rfl | rfl | rfl | rfl
    · exact ⟨hord F.CAM_P_LINK_SPEED (by decide), rfl⟩
    · exact ⟨hord F.CAM_P_LINK_CONNS (by decide), rfl⟩
    · exact ⟨hord F.CAM_P_LINK_FORMAT (by decide), rfl⟩
    · exact ⟨hord F.CAM_P_LINK_WIDTH (by decide), rfl⟩
  have hwrite : d.storeWord rq (0x90100 + 0x100 * n.val) w = _ := Dev.storeWord_norm hstored (Dev.permits_of (r := 0) (Nat.zero_le _) hplain) (List.cons_ne_nil _ _) w
  rw [hwrite, Dev.normPage_link]
  refine Dev.Rewritten.foldl _ (fun x k hx => hx.normCtx k) _ ?_
  simp only [Dev.storeFields, List.foldl_cons, List.foldl_nil, Dev.storeField_rw (f := F.CAM_P_LINK_SPEED) rfl, Dev.storeField_rw (f := F.CAM_P_LINK_CONNS) rfl,
    Dev.storeField_rw (f := F.CAM_P_LINK_FORMAT) rfl, Dev.storeField_rw (f := F.CAM_P_LINK_WIDTH) rfl]
  exact ((((Dev.Rewritten.refl ..).set (by decide) ..).set (by decide) ..).set (by decide) ..).set (by decide) ..

/-- A port's LINK as it is written, before ENABLE acts. -/
structure Dev.LinkStored (d : Dev) (n on : Nat) (e : Dev) : Prop where
  regs : e = { d with regs := e.regs }
  enable : e.get F.CAM_P_LINK_ENABLE n = on
  other : ∀ g ∈ [F.CAM_P_STAT_STATE, F.CAM_P_STAT_LOCK, F.CAM_P_CTL_BUSY, F.CAM_P_CTL_RESULT], e.get g n = d.get g n

theorem Dev.linkStored (d : Dev) (rq : Requester) (n : Cam) (w : Nat) (b : Bool) :
    d.LinkStored n.val (b2n b) ((d.storeWord rq (0x90100 + 0x100 * n.val) w).set F.CAM_P_LINK_ENABLE (b2n b) n.val) := by
  obtain ⟨x, hx⟩ : ∃ x, x = d.storeWord rq (0x90100 + 0x100 * n.val) w := ⟨_, rfl⟩
  have hstored : d.Rewritten linkFields x := hx ▸ d.storeWord_link rq n w
  rw [← hx]
  refine ⟨?_, ?_, fun g hg => ?_⟩
  · rw [hstored.regs]
    rfl
  · rw [Dev.get_set_self]
    cases b <;> rfl
  · simp only [List.mem_cons, List.not_mem_nil, or_false] at hg
    rcases hg with rfl | rfl | rfl | rfl <;> rw [Dev.get_set_distinct _ (by decide)] <;> exact Dev.get_of_beyond hstored.beyond (by decide) n.isLt (by decide)

namespace Dev.LinkStored

variable {d e : Dev} {n on : Nat} (h : d.LinkStored n on e)
include h

theorem cam : e.cam = d.cam := by rw [h.regs]
theorem power : e.pwr = d.pwr := by rw [h.regs]
theorem fenced (u : FUnit) : e.fenced u = d.fenced u := by rw [h.regs]; rfl

end Dev.LinkStored

/-- A port that has started. -/
theorem Dev.startCamera_shows {d : Dev} {n : Nat} (hlen : n < d.cam.length) (hon : d.get F.CAM_P_LINK_ENABLE n = 1) (hpwr : d.pwr.st = .on) :
    (d.startCamera n).get F.CAM_P_LINK_ENABLE n = 1 ∧ (d.startCamera n).get F.CAM_P_STAT_STATE n = 1 ∧ (d.startCamera n).get F.CAM_P_FRAMENO n = 0 ∧
      ((d.startCamera n).camSt n).frames = [] ∧ ((d.startCamera n).camSt n).buf = [] ∧ ((d.startCamera n).camSt n).current = none := by
  obtain ⟨x, hx⟩ : ∃ x, x = ((((d.set F.CAM_P_STAT_STATE 1 n).set F.CAM_P_STAT_LOCK 0 n).set F.CAM_P_FRAMENO 0 n).set F.CAM_P_GEN 0 n).set F.CAM_P_COMMIT_GEN 0 n := ⟨_, rfl⟩
  obtain ⟨y, hy⟩ : ∃ y, y = if x.srcOf (x.get F.VIN_CFG_CTX) = n then { x with vin := { x.vin with trigs := [], recs := [] } } else x := ⟨_, rfl⟩
  obtain ⟨f, hf, hfresh⟩ : ∃ f : CamSt → CamSt, d.startCamera n = y.modCam n f ∧ ∀ c, (f c).frames = [] ∧ (f c).buf = [] ∧ (f c).current = none := by
    refine ⟨_, (if_pos ?_).trans (by rw [hy, hx]), fun c => ⟨rfl, rfl, rfl⟩⟩
    rw [(Dev.flag_eq_true ..).mpr (by rw [hon]; decide), hpwr]
    rfl
  have hget (g : Field) : y.get g n = x.get g n := by
    rw [hy]
    split <;> rfl
  have hcam : n < y.cam.length := by
    rw [hy]
    split <;> (rw [hx]; exact hlen)
  obtain ⟨hframes, hbuf, hcurrent⟩ := hfresh (y.camSt n)
  rw [hf, Dev.camSt_modCam_self hcam, Dev.get_modCam, Dev.get_modCam, Dev.get_modCam, hget, hget, hget, hx]
  refine ⟨?_, ?_, ?_, hframes, hbuf, hcurrent⟩
  · rw [Dev.get_set_distinct _ (by decide), Dev.get_set_distinct _ (by decide), Dev.get_set_distinct _ (by decide), Dev.get_set_distinct _ (by decide), Dev.get_set_distinct _ (by decide)]
    exact hon
  · rw [Dev.get_set_distinct _ (by decide), Dev.get_set_distinct _ (by decide), Dev.get_set_distinct _ (by decide), Dev.get_set_distinct _ (by decide), Dev.get_set_self]
    rfl
  · rw [Dev.get_set_distinct _ (by decide), Dev.get_set_distinct _ (by decide), Dev.get_set_self]
    rfl

theorem Dev.camLink_on {d e : Dev} {rq : Requester} {n w : Nat} (hw : w.testBit 31 = true) (he : e = (d.storeWord rq (0x90100 + 0x100 * n) w).set F.CAM_P_LINK_ENABLE 1 n) :
    d.camLink rq n w = if d.get F.CAM_P_LINK_ENABLE n = 0 then (if e.fenced (.cam n) then e else e.startCamera n) else e := by
  simp only [Dev.camLink, hw, Dev.flag, he]
  by_cases h : d.get F.CAM_P_LINK_ENABLE n = 0
  · simp [h, b2n]
  · simp [h, b2n]

theorem Dev.camLink_off {d e : Dev} {rq : Requester} {n w : Nat} (hw : w.testBit 31 = false) (he : e = (d.storeWord rq (0x90100 + 0x100 * n) w).set F.CAM_P_LINK_ENABLE 0 n) :
    d.camLink rq n w = if d.get F.CAM_P_LINK_ENABLE n = 0 then e else (e.stopCamera n).drain := by
  simp only [Dev.camLink, hw, Dev.flag, he]
  by_cases h : d.get F.CAM_P_LINK_ENABLE n = 0
  · simp [h, b2n]
  · simp [h, b2n]

section
variable {n : Cam} {s : State} {rq : Requester} (w : Word) (h : s.Ready rq 0)
include h

theorem cameraEnable_gives : Gives (.cameraEnable rq n w) s (s.dev.camLink rq n.val (w.toNat ||| 2 ^ 31)) :=
  congrArg Host.Outcome.next (State.roleWrite_plain h (.cameraEnable rq n w) _ none _ _ (storedAt_link rq n).1 rfl rfl)

theorem cameraDisable_gives : Gives (.cameraDisable rq n w) s (s.dev.camLink rq n.val (setBit w.toNat 31 false)) :=
  congrArg Host.Outcome.next (State.roleWrite_plain h (.cameraDisable rq n w) _ none _ _ (storedAt_link rq n).1 rfl rfl)

theorem cameraEnable_starts (hlen : n.val < s.dev.cam.length) (hoff : s.dev.get F.CAM_P_LINK_ENABLE n.val = 0) (hfree : s.dev.fenced (.cam n.val) = false) :
    Completes (.cameraEnable rq n w) s (fun d => d.get F.CAM_P_LINK_ENABLE n.val = 1 ∧ d.get F.CAM_P_STAT_STATE n.val = 1 ∧ d.get F.CAM_P_FRAMENO n.val = 0 ∧
      (d.camSt n.val).frames = [] ∧ (d.camSt n.val).buf = [] ∧ (d.camSt n.val).current = none) := by
  obtain ⟨⟨hpwr, -⟩, -⟩ := id h
  have hbit : (w.toNat ||| 2 ^ 31).testBit 31 = true := by rw [Nat.testBit_or, Nat.testBit_two_pow_self, Bool.or_true]
  obtain ⟨e, he⟩ : ∃ e, e = (s.dev.storeWord rq (0x90100 + 0x100 * n.val) (w.toNat ||| 2 ^ 31)).set F.CAM_P_LINK_ENABLE 1 n.val := ⟨_, rfl⟩
  have hstored : s.dev.LinkStored n.val 1 e := he ▸ s.dev.linkStored rq n _ true
  have hgives := cameraEnable_gives (n := n) w h
  rw [Dev.camLink_on hbit he, if_pos hoff, hstored.fenced, hfree, if_neg Bool.false_ne_true] at hgives
  exact ⟨_, hgives, Dev.startCamera_shows (hstored.cam ▸ hlen) hstored.enable (by rw [hstored.power]; exact hpwr)⟩

theorem cameraEnable_stays (hno : s.dev.get F.CAM_P_LINK_ENABLE n.val ≠ 0 ∨ s.dev.fenced (.cam n.val) = true) :
    Completes (.cameraEnable rq n w) s (fun d => d.get F.CAM_P_LINK_ENABLE n.val = 1 ∧ d.get F.CAM_P_STAT_STATE n.val = s.dev.get F.CAM_P_STAT_STATE n.val ∧ d.cam = s.dev.cam) := by
  have hbit : (w.toNat ||| 2 ^ 31).testBit 31 = true := by rw [Nat.testBit_or, Nat.testBit_two_pow_self, Bool.or_true]
  obtain ⟨e, he⟩ : ∃ e, e = (s.dev.storeWord rq (0x90100 + 0x100 * n.val) (w.toNat ||| 2 ^ 31)).set F.CAM_P_LINK_ENABLE 1 n.val := ⟨_, rfl⟩
  have hstored : s.dev.LinkStored n.val 1 e := he ▸ s.dev.linkStored rq n _ true
  have hsame : s.dev.camLink rq n.val (w.toNat ||| 2 ^ 31) = e := by
    rw [Dev.camLink_on hbit he]
    obtain hon | hfenced := hno
    · exact if_neg hon
    · rw [hstored.fenced, hfenced, if_pos rfl, ite_self]
  have hgives := cameraEnable_gives (n := n) w h
  rw [hsame] at hgives
  exact ⟨e, hgives, hstored.enable, hstored.other _ (by simp), hstored.cam⟩

theorem cameraDisable_stops (hlen : n.val < s.dev.cam.length) :
    Completes (.cameraDisable rq n w) s (fun d => d.get F.CAM_P_LINK_ENABLE n.val = 0 ∧ (s.dev.get F.CAM_P_LINK_ENABLE n.val = 0 → d.cam = s.dev.cam) ∧
      (s.dev.get F.CAM_P_LINK_ENABLE n.val ≠ 0 → d.get F.CAM_P_STAT_STATE n.val = 0 ∧ (s.dev.get F.CAM_P_STAT_STATE n.val ≠ 0 →
        d.get F.CAM_P_STAT_LOCK n.val = 0 ∧ d.get F.CAM_P_CTL_BUSY n.val = 0 ∧ (d.camSt n.val).buf = [] ∧ (d.camSt n.val).current = none ∧
        (s.dev.get F.CAM_P_CTL_BUSY n.val ≠ 0 → d.get F.CAM_P_CTL_RESULT n.val = 3)))) := by
  have hn := n.isLt
  have hbit : (setBit w.toNat 31 false).testBit 31 = false := testBit_setBit_false _ _
  obtain ⟨e, he⟩ : ∃ e, e = (s.dev.storeWord rq (0x90100 + 0x100 * n.val) (setBit w.toNat 31 false)).set F.CAM_P_LINK_ENABLE 0 n.val := ⟨_, rfl⟩
  have hstored : s.dev.LinkStored n.val 0 e := he ▸ s.dev.linkStored rq n _ false
  have hstate : e.get F.CAM_P_STAT_STATE n.val = s.dev.get F.CAM_P_STAT_STATE n.val := hstored.other _ (by simp)
  have hbusy : e.get F.CAM_P_CTL_BUSY n.val = s.dev.get F.CAM_P_CTL_BUSY n.val := hstored.other _ (by simp)
  have hgives := cameraDisable_gives (n := n) w h
  rw [Dev.camLink_off hbit he] at hgives
  by_cases hoff : s.dev.get F.CAM_P_LINK_ENABLE n.val = 0
  · rw [if_pos hoff] at hgives
    exact ⟨e, hgives, hstored.enable, fun _ => hstored.cam, fun hne => absurd hoff hne⟩
  · rw [if_neg hoff] at hgives
    obtain ⟨x, hx⟩ : ∃ x, x = e.stopCamera n.val := ⟨_, rfl⟩
    rw [← hx] at hgives
    have hdrain := Dev.camFrom_drain hn x
    have henable : x.drain.get F.CAM_P_LINK_ENABLE n.val = 0 := by
      have h1 : x.drain.get F.CAM_P_LINK_ENABLE n.val = x.get F.CAM_P_LINK_ENABLE n.val :=
        Dev.get_of_beyond (S := reactFields) (Dev.beyond_drain (List.Subset.refl _) x) (by decide) hn (by decide)
      have h2 : x.get F.CAM_P_LINK_ENABLE n.val = e.get F.CAM_P_LINK_ENABLE n.val := by
        rw [hx]
        exact Dev.get_of_beyond (S := camFields) (Dev.beyond_stopCamera (List.Subset.refl _) ..) (by decide) hn (by decide)
      exact (h1.trans h2).trans hstored.enable
    by_cases hst : s.dev.get F.CAM_P_STAT_STATE n.val = 0
    · have hzero : x.get F.CAM_P_STAT_STATE n.val = 0 := by rw [hx, Dev.stopCamera_stopped (hstate.trans hst)]; exact hstate.trans hst
      exact ⟨_, hgives, henable, fun h0 => absurd h0 hoff, fun _ => ⟨hdrain.state.elim (fun hs => hs.trans hzero) id, fun hne => absurd hst hne⟩⟩
    · obtain ⟨hstopped, hresult⟩ := Dev.stopCamera_shows hn (hstored.cam ▸ hlen) (fun h0 => hst (hstate.symm.trans h0))
      rw [← hx] at hstopped hresult
      have hlate := hstopped.later hdrain
      exact ⟨_, hgives, henable, fun h0 => absurd h0 hoff, fun _ => ⟨hlate.state, fun _ => ⟨hlate.lock, hlate.busy, hlate.buf, hlate.current,
        fun hb => (hdrain.result hstopped.busy).trans (hresult (by rw [hbusy]; exact hb))⟩⟩⟩

end

end Sys2Proof.Machine
end


section
/-! PROOF. Lines that are dropped or stored, and the loss of a camera connection (R318, R322, R325, R328). -/

namespace Sys2Proof.Machine

/-! ### Dropped lines -/

/-- Lines of a port's frames have been dropped, and nothing else of the port has changed. -/
structure Dev.LinesDropped (n : Nat) (d e : Dev) : Prop where
  port : ∃ F, e.camSt n = { d.camSt n with frames := F } ∧ F.map (fun f => f.no) = (d.camSt n).frames.map (fun f => f.no)
  length : e.cam.length = d.cam.length
  get : ∀ g : Field, (g.distinct F.CAM_IRQ_STAT && g.distinct F.CAM_P_CNT_DROPPED) = true → ∀ i j, e.get g i j = d.get g i j
  flt : e.flt = d.flt

namespace Dev.LinesDropped

variable {n : Nat} {d e : Dev}

theorem refl (n : Nat) (d : Dev) : d.LinesDropped n d := ⟨⟨_, rfl, rfl⟩, rfl, fun _ _ _ _ => rfl, rfl⟩

theorem trans {g : Dev} (h : d.LinesDropped n e) (h' : e.LinesDropped n g) : d.LinesDropped n g := by
  obtain ⟨F, hF, hno⟩ := h.port
  obtain ⟨G, hG, hno'⟩ := h'.port
  rw [hF] at hG hno'
  exact ⟨⟨G, hG, hno'.trans hno⟩, h'.length.trans h.length, fun f hf i j => (h'.get f hf i j).trans (h.get f hf i j), h'.flt.trans h.flt⟩

/-- Whether a port has a frame of a number is as it was. -/
theorem any (h : d.LinesDropped n e) (k : Nat) : (e.camSt n).frames.any (fun f => f.no = k) = (d.camSt n).frames.any (fun f => f.no = k) := by
  obtain ⟨F, hF, hno⟩ := h.port
  have hany (l : List CamFrame) : l.any (fun f => f.no = k) = (l.map (fun f => f.no)).any (fun m => m = k) := by rw [List.any_map]; rfl
  rw [hF, hany, hany, hno]

end Dev.LinesDropped

theorem Dev.linesDropped_camDrop (n : Nat) (d : Dev) (m k : Nat) : d.LinesDropped n (d.camDrop m k) := by
  simp only [Dev.camDrop]
  split
  · exact .refl n d
  · obtain ⟨x, hx⟩ : ∃ x, x = d.bump F.CAM_P_CNT_DROPPED m 0 k := ⟨_, rfl⟩
    have hxget (g : Field) (hg : g.distinct F.CAM_P_CNT_DROPPED = true) (i j : Nat) : x.get g i j = d.get g i j := by rw [hx, Dev.get_bump_distinct _ hg]
    have hcam : (x.irq F.CAM_IRQ_STAT F.CAM_IRQ_EN (12 + m) (some F.CAM_VEC)).cam = d.cam := (steady_cam.irq ..).trans (by rw [hx]; rfl)
    rw [← hx]
    refine ⟨⟨_, by rw [Dev.camSt, hcam]; rfl, rfl⟩, by rw [hcam], fun g hg i j => ?_, (still_flt.irq ..).trans (by rw [hx]; rfl)⟩
    rw [Bool.and_eq_true] at hg
    rw [Dev.get_irq_ne _ _ _ _ _ _ (Field.key_ne_of_distinct hg.1 _ _ _ _), hxget g hg.2]

/-- Frames of a port with other counts of lines. -/
theorem Dev.linesDropped_modCam (n : Nat) (d : Dev) (m : Nat) {g : CamFrame → CamFrame} (hg : ∀ f, (g f).no = f.no) :
    d.LinesDropped n (d.modCam m (fun c => { c with frames := c.frames.map g })) := by
  refine ⟨?_, Dev.length_modCam .., fun _ _ _ _ => rfl, rfl⟩
  obtain h | h := d.camSt_modCam n m (fun c => { c with frames := c.frames.map g })
  · refine ⟨_, h, ?_⟩
    rw [List.map_map]
    exact List.map_congr_left fun f _ => hg f
  · exact ⟨_, h, rfl⟩

/-- A frame with some more lines received or dropped. -/
def CamFrame.passed (no m : Nat) (g : CamFrame) : CamFrame := if g.no = no then { g with got := g.got + m } else g

theorem CamFrame.passed_no (no m : Nat) (g : CamFrame) : (g.passed no m).no = g.no := by
  rw [CamFrame.passed]
  split <;> rfl

/-- How many lines of a frame are dropped. -/
def CamFrame.missing (f : CamFrame) (k : Option Nat) : Nat :=
  match k with
  | some k => Nat.min k (f.lines - f.got)
  | none => f.lines - f.got

theorem Dev.dropLines_none {d : Dev} {n no : Nat} (h : (d.camSt n).frames.find? (fun f => f.no = no) = none) (k : Option Nat) : d.dropLines n no k = d := by
  simp only [Dev.dropLines, h]

theorem Dev.dropLines_some {d : Dev} {n no : Nat} {f : CamFrame} (h : (d.camSt n).frames.find? (fun f => f.no = no) = some f) (k : Option Nat) :
    d.dropLines n no k = (d.camDrop n (f.missing k)).modCam n (fun c => { c with frames := c.frames.map (fun g => g.passed no (f.missing k)) }) := by
  simp only [Dev.dropLines, h]
  rfl

theorem Dev.linesDropped_dropLines (n : Nat) (d : Dev) (m no : Nat) (k : Option Nat) : d.LinesDropped n (d.dropLines m no k) := by
  cases h : (d.camSt m).frames.find? (fun f => f.no = no) with
  | none =>
    rw [Dev.dropLines_none h]
    exact .refl n d
  | some f =>
    obtain ⟨x, hx⟩ : ∃ x, x = d.camDrop m (f.missing k) := ⟨_, rfl⟩
    have hdrop : d.LinesDropped n x := hx ▸ d.linesDropped_camDrop n m _
    rw [Dev.dropLines_some h, ← hx]
    exact hdrop.trans (x.linesDropped_modCam n m fun g => g.passed_no no (f.missing k))

/-! ### Lock and loss -/

section
variable {n : Cam} {s : State}

theorem gives_cameraLock (n : Cam) (s : State) : Gives (.cameraLock n) s
    (if s.dev.get F.CAM_P_STAT_STATE n.val = 1 then (s.dev.set F.CAM_P_STAT_LOCK (2 ^ ((s.dev.camSt n.val).conns + 1) - 1) n.val).set F.CAM_P_STAT_STATE 2 n.val else s.dev) := rfl

/-- What the loss of a connection's lock makes of the device, before it is reported. -/
def Dev.camLost (d : Dev) (n conn : Nat) : Dev :=
  let x := ((d.set F.CAM_P_STAT_LOCK (setBit (d.get F.CAM_P_STAT_LOCK n) conn false) n).set F.CAM_P_STAT_STATE 1 n).ctlDown n
  let x := ((x.camSt n).frames.foldl (fun d f => d.dropLines n f.no none) x).modCam n (fun c => { c with current := none, resync := true, image := c.frameNo })
  (x.purge n).irq F.CAM_IRQ_STAT F.CAM_IRQ_EN n (some F.CAM_VEC)

theorem gives_cameraLinkLoss (n : Cam) (conn : Fin 4) (s : State) : Gives (.cameraLinkLoss n conn) s
    (if s.dev.get F.CAM_P_STAT_STATE n.val = 0 || !bit (s.dev.get F.CAM_P_STAT_LOCK n.val) conn.val then s.dev else (s.dev.camLost n.val conn.val).report (253 + n.val)) := rfl

/-- A port that has lost a connection. -/
structure Dev.CamUnlocked (n conn : Nat) (e : Dev) : Prop where
  state : e.get F.CAM_P_STAT_STATE n ≤ 1
  lock : (e.get F.CAM_P_STAT_LOCK n).testBit conn = false
  current : (e.camSt n).current = none
  resync : (e.camSt n).resync = true
  busy : e.get F.CAM_P_CTL_BUSY n = 0
  irq : (e.get F.CAM_IRQ_STAT).testBit n = true

theorem Dev.CamUnlocked.later {n conn : Nat} (hn : n < 4) {d e : Dev} (h : d.CamUnlocked n conn) (h' : d.CamFrom n e) : e.CamUnlocked n conn := by
  refine ⟨?_, ?_, h'.current.elim (fun hc => hc.trans h.current) id, h'.resync.trans h.resync, h'.busy.elim (fun hb => hb.trans h.busy) id, h'.irq n (by omega) h.irq⟩
  · obtain hs | hs := h'.state
    · rw [hs]; exact h.state
    · rw [hs]; exact Nat.zero_le 1
  · obtain hl | hl := h'.lock
    · rw [hl]; exact h.lock
    · rw [hl]; exact Nat.zero_testBit conn

theorem Dev.camLost_shows {d : Dev} {n conn : Nat} (hn : n < 4) (hlen : n < d.cam.length) : (d.camLost n conn).CamUnlocked n conn := by
  obtain ⟨x, hx⟩ : ∃ x, x = (d.set F.CAM_P_STAT_LOCK (setBit (d.get F.CAM_P_STAT_LOCK n) conn false) n).set F.CAM_P_STAT_STATE 1 n := ⟨_, rfl⟩
  obtain ⟨y, hy⟩ : ∃ y, y = x.ctlDown n := ⟨_, rfl⟩
  obtain ⟨z, hz⟩ : ∃ z, z = (y.camSt n).frames.foldl (fun d f => d.dropLines n f.no none) y := ⟨_, rfl⟩
  obtain ⟨u, hu⟩ : ∃ u, u = z.modCam n (fun c => { c with current := none, resync := true, image := c.frameNo }) := ⟨_, rfl⟩
  obtain ⟨v, hv⟩ : ∃ v, v = u.purge n := ⟨_, rfl⟩
  have hlost : d.camLost n conn = v.irq F.CAM_IRQ_STAT F.CAM_IRQ_EN n (some F.CAM_VEC) := by rw [hv, hu, hz, hy, hx]; rfl
  have hdrop : y.LinesDropped n z := hz ▸ List.foldlRecOn (motive := fun e => y.LinesDropped n e) _ _ (.refl n y) fun e he f _ => he.trans (e.linesDropped_dropLines n n f.no none)
  have hzlen : n < z.cam.length := by rw [hdrop.length, hy, Dev.length_ctlDown, hx]; exact hlen
  have hpurge : u.CamFrom n v := hv ▸ u.camFrom_purge n n
  have hst : (v.camSt n).current = none ∧ (v.camSt n).resync = true := by
    have hust : u.camSt n = { z.camSt n with current := none, resync := true, image := (z.camSt n).frameNo } := by rw [hu]; exact Dev.camSt_modCam_self hzlen _
    have hcurrent := hpurge.current
    have hresync := hpurge.resync
    rw [hust] at hcurrent hresync
    exact ⟨hcurrent.elim id id, hresync⟩
  have hget (g : Field) (hg : (g.distinct F.CAM_IRQ_STAT && g.distinct F.CAM_P_CNT_DROPPED) = true) : (d.camLost n conn).get g n = y.get g n := by
    have hirq : g.distinct F.CAM_IRQ_STAT = true := (Bool.and_eq_true_iff.mp hg).1
    rw [hlost, Dev.get_irq_ne _ _ _ _ _ _ (Field.key_ne_of_distinct hirq _ _ _ _)]
    exact (show v.get g n = z.get g n by rw [hv, hu]; rfl).trans (hdrop.get g hg n 0)
  have hcam : (d.camLost n conn).camSt n = v.camSt n := by
    have hsame : (d.camLost n conn).cam = v.cam := by rw [hlost]; exact steady_cam.irq ..
    rw [Dev.camSt, hsame]
    rfl
  refine ⟨?_, ?_, by rw [hcam]; exact hst.1, by rw [hcam]; exact hst.2, ?_, ?_⟩
  · rw [hget _ (by decide), hy, Dev.get_ctlDown _ _ (by decide), hx, Dev.get_set_self]
    decide
  · rw [hget _ (by decide), hy, Dev.get_ctlDown _ _ (by decide), hx, Dev.get_set_distinct _ (by decide), Dev.get_set_self, Nat.testBit_mod_two_pow, testBit_setBit_false, Bool.and_false]
  · rw [hget _ (by decide), hy]
    exact (x.ctlDown_shows hn).1
  · rw [hlost, Dev.get_irq]
    exact Dev.testBit_raiseBit _ _ (by change n < 16; omega) 0 0

theorem cameraLinkLoss_stays {conn : Fin 4} (h : s.dev.get F.CAM_P_STAT_STATE n.val = 0 ∨ (s.dev.get F.CAM_P_STAT_LOCK n.val).testBit conn.val = false) : Gives (.cameraLinkLoss n conn) s s.dev := by
  refine (gives_cameraLinkLoss n conn s).congr (if_pos ?_)
  rw [Bool.or_eq_true, decide_eq_true_eq, Bool.not_eq_true']
  exact h

theorem cameraLinkLoss_lost (hlen : n.val < s.dev.cam.length) {conn : Fin 4} (hst : s.dev.get F.CAM_P_STAT_STATE n.val ≠ 0)
    (hlock : (s.dev.get F.CAM_P_STAT_LOCK n.val).testBit conn.val = true) :
    Completes (.cameraLinkLoss n conn) s (fun d => d.CamUnlocked n.val conn.val ∧ has d.flt.status (fkey (253 + n.val) 0) = true) := by
  have hgives : Gives (.cameraLinkLoss n conn) s ((s.dev.camLost n.val conn.val).report (253 + n.val)) := by
    refine (gives_cameraLinkLoss n conn s).congr (if_neg ?_)
    rw [Bool.or_eq_true, decide_eq_true_eq, Bool.not_eq_true', not_or, Bool.not_eq_false]
    exact ⟨hst, hlock⟩
  exact ⟨_, hgives, (Dev.camLost_shows n.isLt hlen).later n.isLt (Dev.camFrom_report n.isLt ..), Dev.has_status_report _ _ _ (by decide)⟩

/-! ### Falling edges -/

/-- What a falling edge makes of the device. -/
def Dev.camFall (d : Dev) (n : Nat) : Dev :=
  match (d.camSt n).falls with
  | t :: r => if t ≤ d.now && d.get F.CAM_P_STAT_STATE n ≠ 0 then (d.emit (.camera n 2 [])).modCam n (fun c => { c with falls := r }) else d
  | [] => d

theorem gives_triggerFall (n : Cam) (s : State) : Gives (.triggerFall n) s (s.dev.camFall n.val) := rfl

theorem triggerFall_none (h : (s.dev.camSt n.val).falls = []) : Gives (.triggerFall n) s s.dev :=
  (gives_triggerFall n s).congr (by simp only [Dev.camFall, h])

theorem triggerFall_due {t : Nat} {r : List Nat} (h : (s.dev.camSt n.val).falls = t :: r) (hdue : t ≤ s.dev.raw) (hst : s.dev.get F.CAM_P_STAT_STATE n.val ≠ 0) :
    Gives (.triggerFall n) s ((s.dev.emit (.camera n.val 2 [])).modCam n.val (fun c => { c with falls := r })) := by
  refine (gives_triggerFall n s).congr ?_
  simp only [Dev.camFall, h]
  refine if_pos ?_
  rw [Bool.and_eq_true, decide_eq_true_eq, decide_eq_true_eq]
  exact ⟨hdue, hst⟩

theorem triggerFall_early {t : Nat} {r : List Nat} (h : (s.dev.camSt n.val).falls = t :: r) (hno : s.dev.raw < t ∨ s.dev.get F.CAM_P_STAT_STATE n.val = 0) :
    Gives (.triggerFall n) s s.dev := by
  refine (gives_triggerFall n s).congr ?_
  simp only [Dev.camFall, h]
  refine if_neg ?_
  rw [Bool.and_eq_true, decide_eq_true_eq, decide_eq_true_eq, not_and, not_not]
  exact fun hdue => hno.resolve_left (Nat.not_lt.mpr hdue)

/-! ### Packets that fail their CRC -/

/-- What a packet that fails its CRC makes of the device, once it is reported. -/
def Dev.camBadPacket (e : Dev) (n lines : Nat) : Dev :=
  match (e.camSt n).current with
  | some no => (e.dropLines n no (some lines)).purge n
  | none => e

theorem gives_streamPacket (n : Cam) (ok : Bool) (lines : Nat) (s : State) : Gives (.streamPacket n ok lines) s
    (if s.dev.get F.CAM_P_STAT_STATE n.val ≠ 2 || ok then s.dev else ((s.dev.bump F.CAM_P_CNT2_CRC n.val).report (249 + n.val)).camBadPacket n.val lines) := rfl

theorem streamPacket_stays {ok : Bool} {lines : Nat} (h : s.dev.get F.CAM_P_STAT_STATE n.val ≠ 2 ∨ ok = true) : Gives (.streamPacket n ok lines) s s.dev := by
  refine (gives_streamPacket n ok lines s).congr (if_pos ?_)
  rw [Bool.or_eq_true, decide_eq_true_eq]
  exact h

section
variable (hst : s.dev.get F.CAM_P_STAT_STATE n.val = 2) {e : Dev} (he : e = (s.dev.bump F.CAM_P_CNT2_CRC n.val).report (249 + n.val)) (lines : Nat)
include he

theorem Dev.crc_shown : has e.flt.status (fkey (249 + n.val) 0) = true ∧ e.get F.CAM_P_CNT2_CRC n.val = Nat.min 65535 (s.dev.get F.CAM_P_CNT2_CRC n.val + 1) := by
  rw [he]
  refine ⟨Dev.has_status_report _ _ _ (by decide), ?_⟩
  rw [Dev.get_report _ _ _ (by decide) n.isLt (by decide), Dev.get_bump_min _ (by decide)]
  rfl

include hst

theorem streamPacket_bad : Gives (.streamPacket n false lines) s (e.camBadPacket n.val lines) := by
  rw [he]
  refine (gives_streamPacket n false lines s).congr (if_neg ?_)
  rw [hst]
  decide

theorem streamPacket_idle (h : (e.camSt n.val).current = none) : Gives (.streamPacket n false lines) s e :=
  (streamPacket_bad hst he lines).congr (by simp only [Dev.camBadPacket, h])

theorem streamPacket_drops {no : Nat} (h : (e.camSt n.val).current = some no) : Gives (.streamPacket n false lines) s ((e.dropLines n.val no (some lines)).purge n.val) :=
  (streamPacket_bad hst he lines).congr (by simp only [Dev.camBadPacket, h])

end

end

end Sys2Proof.Machine
end


section
/-! PROOF. The lines of an image (R297, R325, R328). -/

namespace Sys2Proof.Machine

/-! ### A line in the buffer -/

/-- What the write of an SRAM word leaves of the device, so far as the cameras need it. -/
theorem Dev.sramWrite_keeps (d : Dev) (a i w : Nat) : ((d.sramWrite a i w).cam, (d.sramWrite a i w).isp) = (d.cam, d.isp) ∧
    ∀ g : Field, g.distinct F.ECC_FLIP_CTRL_ARMED = true → ∀ i' j', (d.sramWrite a i w).get g i' j' = d.get g i' j' := by
  obtain ⟨x, hx⟩ : ∃ x, x = ({ d with ecc := { d.ecc with sram := d.ecc.sram.filter (fun b => !(b.array = a && b.index = i)) } } : Dev) := ⟨_, rfl⟩
  have hbase : (x.cam, x.isp) = (d.cam, d.isp) ∧ ∀ (g : Field) (i' j' : Nat), x.get g i' j' = d.get g i' j' := by rw [hx]; exact ⟨rfl, fun _ _ _ => rfl⟩
  have hflip : ((x.takeFlip a).2.cam, (x.takeFlip a).2.isp) = (d.cam, d.isp) ∧
      ∀ g : Field, g.distinct F.ECC_FLIP_CTRL_ARMED = true → ∀ i' j', (x.takeFlip a).2.get g i' j' = d.get g i' j' := by
    simp only [Dev.takeFlip]
    split
    · exact ⟨hbase.1, fun g hg i' j' => (Dev.get_set_distinct _ hg ..).trans (hbase.2 g i' j')⟩
    · exact ⟨hbase.1, fun g _ => hbase.2 g⟩
  simp only [Dev.sramWrite, ← hx]
  rcases h : x.takeFlip a with ⟨o, y⟩
  rw [h] at hflip
  cases o with
  | none => exact hflip
  | some m =>
    dsimp only
    split <;> exact hflip

/-- A line of a frame is needed, or is no longer. -/
theorem Dev.lineNeeded_of_isp {d e : Dev} (h : e.isp = d.isp) (n f l : Nat) : e.lineNeeded n f l = d.lineNeeded n f l := by rw [Dev.lineNeeded, h]; rfl

theorem Dev.mem_purge {d : Dev} {n : Nat} (hlen : n < d.cam.length) {b : BufLine} (hb : b ∈ (d.camSt n).buf) (hneed : d.lineNeeded n b.frame b.line = true) :
    b ∈ ((d.purge n).camSt n).buf := by
  rw [Dev.purge, Dev.camSt_modCam_self hlen]
  exact List.mem_filter.mpr ⟨hb, hneed⟩

/-- A line period that may pass with a line. -/
theorem Dev.linePeriod_keeps (d : Dev) (n : Nat) (b : Bool) {e : Dev} (he : e = if b then d.linePeriod n else d) :
    (∃ m, e.camSt n = { d.camSt n with commit := m }) ∧ e.cam.length = d.cam.length ∧ e.regs = d.regs ∧ e.isp = d.isp := by
  cases b with
  | false => exact he ▸ ⟨⟨_, rfl⟩, rfl, rfl, rfl⟩
  | true =>
    rw [he]
    refine ⟨?_, Dev.length_modCam .., rfl, rfl⟩
    obtain h | h := d.camSt_modCam n n (fun c => { c with commit := c.commit.map (fun m => { m with periods := m.periods + 1 }) })
    · exact ⟨_, h⟩
    · exact ⟨_, h⟩

/-! ### A line arrives -/

/-- A line of a frame has been stored. -/
def Dev.camLineStored (e : Dev) (n no got : Nat) (px : List Nat) : Dev :=
  ((e.storeLine n no got px).modCam n (fun c => { c with frames := c.frames.map (fun g => if g.no = no then { g with got := g.got + 1 } else g) })).purge n

/-- A line of a frame has been dropped for want of room, before it is reported. -/
def Dev.camLineLost (e : Dev) (n no : Nat) : Dev :=
  (e.dropLines n no (some 1)).modCam n (fun c => { c with frames := c.frames.map (fun g => if g.no = no then { g with overflowed := true } else g) })

section
variable {d e : Dev} {n : Nat} (he : e = if (d.camSt n).free then d.linePeriod n else d) (px : List Nat)
include he

theorem Dev.cameraLine_idle (h : (d.camSt n).current = none) : d.cameraLine n px = e := by simp only [Dev.cameraLine, h, ← he]

variable {no : Nat} (hno : (d.camSt n).current = some no)
include hno

theorem Dev.cameraLine_stray (h : ∀ g ∈ (d.camSt n).frames, g.no ≠ no) : d.cameraLine n px = e := by
  have hfind : (d.camSt n).frames.find? (fun g => g.no = no) = none := List.find?_eq_none.mpr fun g hg => by rw [decide_eq_true_eq]; exact h g hg
  simp only [Dev.cameraLine, hno, hfind, ← he]

variable {f : CamFrame} (hf : (d.camSt n).frames.find? (fun g => g.no = no) = some f)
include hf

theorem Dev.cameraLine_full (h : f.lines ≤ f.got) : d.cameraLine n px = e := by
  simp only [Dev.cameraLine, hno, hf, ← he]
  exact if_pos h

theorem Dev.cameraLine_room (h : f.got < f.lines) (hroom : (d.camSt n).buf.length < 64) : d.cameraLine n px = e.camLineStored n no f.got px := by
  simp only [Dev.cameraLine, hno, hf, ← he]
  exact (if_neg (Nat.not_le.mpr h)).trans (if_neg (Nat.not_le.mpr hroom))

theorem Dev.cameraLine_overflow (h : f.got < f.lines) (hroom : 64 ≤ (d.camSt n).buf.length) :
    d.cameraLine n px = (if f.overflowed then e.camLineLost n no else (e.camLineLost n no).report (265 + n)).purge n := by
  simp only [Dev.cameraLine, hno, hf, ← he]
  exact (if_neg (Nat.not_le.mpr h)).trans (if_pos hroom)

end

/-- A line that a context needs joins the buffer. -/
theorem Dev.camLineStored_shows {d e : Dev} {n : Nat} (he : e = if (d.camSt n).free then d.linePeriod n else d) (px : List Nat) {no got : Nat} (hlen : n < d.cam.length)
    (hneed : d.lineNeeded n no got = true) :
    (∃ b ∈ ((e.camLineStored n no got px).camSt n).buf, b.frame = no ∧ b.line = got ∧ b.comps = px) ∧
      (e.camLineStored n no got px).get F.CAM_P_CNT_DROPPED n = d.get F.CAM_P_CNT_DROPPED n := by
  obtain ⟨-, helen, hregs, hisp⟩ := d.linePeriod_keeps n _ he
  obtain ⟨x, hx⟩ : ∃ x, x = e.sramWrite 0x14 (camWord n (e.camSt n).slot 0) (px.getD 0 0 + px.getD 1 0 * 65536) := ⟨_, rfl⟩
  obtain ⟨hparts, hget⟩ := e.sramWrite_keeps 0x14 (camWord n (e.camSt n).slot 0) (px.getD 0 0 + px.getD 1 0 * 65536)
  rw [← hx, Prod.mk.injEq] at hparts
  rw [← hx] at hget
  obtain ⟨hcam, hxisp⟩ := hparts
  obtain ⟨b, hb⟩ : ∃ b : BufLine, b = { frame := no, line := got, slot := (x.camSt n).slot, comps := px } := ⟨_, rfl⟩
  obtain ⟨y, hy⟩ : ∃ y, y = x.modCam n (fun c => { c with buf := c.buf ++ [{ frame := no, line := got, slot := c.slot, comps := px }], slot := (c.slot + 1) % 64 }) := ⟨_, rfl⟩
  obtain ⟨z, hz⟩ : ∃ z, z = y.modCam n (fun c => { c with frames := c.frames.map (fun g => if g.no = no then { g with got := g.got + 1 } else g) }) := ⟨_, rfl⟩
  have hstored : e.camLineStored n no got px = z.purge n := by rw [hz, hy, hx]; rfl
  have hxlen : n < x.cam.length := by rw [hcam, helen]; exact hlen
  have hylen : n < y.cam.length := by rw [hy, Dev.length_modCam]; exact hxlen
  have hzlen : n < z.cam.length := by rw [hz, Dev.length_modCam]; exact hylen
  have hmem : b ∈ (z.camSt n).buf := by
    rw [hz, Dev.camSt_modCam_self hylen, hy, Dev.camSt_modCam_self hxlen, hb]
    exact List.mem_append_right _ (List.mem_singleton.mpr rfl)
  have hzisp : z.isp = d.isp := by
    rw [hz, hy]
    exact hxisp.trans hisp
  have hb' : b.frame = no ∧ b.line = got ∧ b.comps = px := by rw [hb]; exact ⟨rfl, rfl, rfl⟩
  rw [hstored]
  refine ⟨⟨b, Dev.mem_purge hzlen hmem ?_, hb'⟩, ?_⟩
  · rw [hb'.1, hb'.2.1, Dev.lineNeeded_of_isp hzisp]
    exact hneed
  · have hzx : (z.purge n).get F.CAM_P_CNT_DROPPED n = x.get F.CAM_P_CNT_DROPPED n := by rw [hz, hy]; rfl
    rw [hzx, hget _ (by decide), Dev.get, hregs]
    rfl

/-- A line for which the buffer has no room is counted, and shown as a cause. -/
theorem Dev.camLineLost_shows {e : Dev} {n : Nat} (hn : n < 4) {no : Nat} {f : CamFrame} (hf : (e.camSt n).frames.find? (fun g => g.no = no) = some f) (h : f.got < f.lines) :
    (e.camLineLost n no).get F.CAM_P_CNT_DROPPED n = Nat.min 65535 (e.get F.CAM_P_CNT_DROPPED n + 1) ∧ ((e.camLineLost n no).get F.CAM_IRQ_STAT).testBit (12 + n) = true := by
  have hone : f.missing (some 1) = 1 := Nat.min_eq_left (by omega)
  obtain ⟨x, hx⟩ : ∃ x, x = e.bump F.CAM_P_CNT_DROPPED n := ⟨_, rfl⟩
  have hget (g : Field) (i : Nat) : (e.camLineLost n no).get g i = (x.irq F.CAM_IRQ_STAT F.CAM_IRQ_EN (12 + n) (some F.CAM_VEC)).get g i := by
    have hdrop : e.camDrop n 1 = x.irq F.CAM_IRQ_STAT F.CAM_IRQ_EN (12 + n) (some F.CAM_VEC) := hx ▸ if_neg (by decide)
    rw [Dev.camLineLost, Dev.dropLines_some hf, hone, hdrop]
    rfl
  rw [hget, hget]
  refine ⟨?_, ?_⟩
  · rw [Dev.get_irq_ne _ _ _ _ _ _ (Field.key_ne_of_distinct (by decide) _ _ _ _), hx, Dev.get_bump_min _ (by decide)]
    rfl
  · rw [Dev.get_irq]
    exact Dev.testBit_raiseBit _ _ (by change 12 + n < 16; omega) 0 0

/-- The report of an overflow, and the lines that go with it, leave the count and the cause. -/
theorem Dev.camLineLost_reported {d e : Dev} {n : Nat} (hn : n < 4) (he : e = if (d.camSt n).free then d.linePeriod n else d) {no : Nat} {f : CamFrame}
    (hf : (d.camSt n).frames.find? (fun g => g.no = no) = some f) (h : f.got < f.lines) {x : Dev}
    (hx : x = (if f.overflowed then e.camLineLost n no else (e.camLineLost n no).report (265 + n)).purge n) :
    x.get F.CAM_P_CNT_DROPPED n = Nat.min 65535 (d.get F.CAM_P_CNT_DROPPED n + 1) ∧ (x.get F.CAM_IRQ_STAT).testBit (12 + n) = true ∧
      (f.overflowed = false → has x.flt.status (fkey (265 + n) 0) = true) := by
  obtain ⟨⟨m, hst⟩, -, hregs, -⟩ := d.linePeriod_keeps n _ he
  obtain ⟨hcount, hcause⟩ := Dev.camLineLost_shows hn (e := e) (no := no) (f := f) (by rw [hst]; exact hf) h
  have hsame : e.get F.CAM_P_CNT_DROPPED n = d.get F.CAM_P_CNT_DROPPED n := by rw [Dev.get, hregs]; rfl
  rw [hsame] at hcount
  obtain ⟨y, hy⟩ : ∃ y, y = e.camLineLost n no := ⟨_, rfl⟩
  rw [← hy] at hcount hcause hx
  have hpurge (z : Dev) (g : Field) (i : Nat) : (z.purge n).get g i = z.get g i := rfl
  rw [hx, hpurge, hpurge]
  by_cases hover : f.overflowed = true
  · rw [if_pos hover]
    exact ⟨hcount, hcause, fun hf => absurd (hf.symm.trans hover) Bool.false_ne_true⟩
  · rw [if_neg hover]
    exact ⟨(Dev.get_report _ _ _ (by decide) hn (by decide)).trans hcount, (Dev.camFrom_report hn y (265 + n) 0).irq _ (by omega) hcause, fun _ => Dev.has_status_report _ _ _ (by decide)⟩

theorem gives_cameraLine (n : Cam) (px : List (BitVec 12)) (s : State) : Gives (.cameraLine n px) s
    (if s.dev.get F.CAM_P_STAT_STATE n.val = 2 then s.dev.cameraLine n.val (px.map (fun v => v.toNat)) else s.dev) := rfl

theorem cameraLine_stays {n : Cam} {s : State} (px : List (BitVec 12)) (h : s.dev.get F.CAM_P_STAT_STATE n.val ≠ 2) : Gives (.cameraLine n px) s s.dev :=
  (gives_cameraLine n px s).congr (if_neg h)

theorem cameraLine_runs {n : Cam} {s : State} (px : List (BitVec 12)) (h : s.dev.get F.CAM_P_STAT_STATE n.val = 2) {x : Dev}
    (hx : s.dev.cameraLine n.val (px.map (fun v => v.toNat)) = x) : Gives (.cameraLine n px) s x := (gives_cameraLine n px s).congr ((if_pos h).trans hx)

end Sys2Proof.Machine
end


section
/-! PROOF. Image headers (R317, R323, R324; settles O10). -/

namespace Sys2Proof.Machine

/-! ### The image before ends -/

/-- The image before a header has ended. -/
theorem Dev.endImage_shows (d : Dev) {n : Nat} (hlen : n < d.cam.length) :
    (∃ F, (d.endImage n).camSt n = { d.camSt n with frames := F, current := none } ∧ ∀ k, F.any (fun f => f.no = k) = (d.camSt n).frames.any (fun f => f.no = k)) ∧
      (d.endImage n).cam.length = d.cam.length ∧
      ∀ g : Field, (g.distinct F.CAM_IRQ_STAT && g.distinct F.CAM_P_CNT_DROPPED) = true → ∀ i j, (d.endImage n).get g i j = d.get g i j := by
  cases h : (d.camSt n).current with
  | none =>
    have hsame : d.endImage n = d := by simp only [Dev.endImage, h]
    rw [hsame]
    exact ⟨⟨(d.camSt n).frames, by rw [← h], fun _ => rfl⟩, rfl, fun _ _ _ _ => rfl⟩
  | some no =>
    obtain ⟨x, hx⟩ : ∃ x, x = d.dropLines n no none := ⟨_, rfl⟩
    have hend : d.endImage n = x.modCam n (fun c => { c with current := none }) := by simp only [Dev.endImage, h, hx]
    have hdrop : d.LinesDropped n x := hx ▸ d.linesDropped_dropLines n n no none
    obtain ⟨F, hF, -⟩ := hdrop.port
    have hany := hdrop.any
    rw [hF] at hany
    rw [hend]
    refine ⟨⟨F, ?_, hany⟩, (Dev.length_modCam ..).trans hdrop.length, hdrop.get⟩
    rw [Dev.camSt_modCam_self (hdrop.length ▸ hlen), hF]

/-! ### A frame starts -/

/-- What the start of a frame leaves of a port, and what it shows. -/
structure Dev.FrameStarted (d : Dev) (n : Nat) (e : Dev) : Prop where
  frameNo : (e.camSt n).frameNo = (d.camSt n).frameNo + 1
  shown : e.get F.CAM_P_FRAMENO n = (d.camSt n).frameNo % 4294967296
  get : ∀ g ∈ [F.CAM_P_STAT_TAG, F.CAM_P_CNT2_SEQ], e.get g n = d.get g n
  length : e.cam.length = d.cam.length

/-- A port with the settings of a commit in force. -/
def CamSt.settled (c : CamCommit) (x : CamSt) : CamSt :=
  { x with expo := c.expo, lines := c.lines, commit := none, hand := (c.lamps.filter (·.1)).map (fun l => (l.2.1, l.2.2)) }

/-- Settings that come into force leave a port's frames. -/
theorem Dev.camEffective_keeps (d : Dev) {n : Nat} : ((d.camEffective n).camSt n).frameNo = (d.camSt n).frameNo ∧ (d.camEffective n).cam.length = d.cam.length ∧
    ∀ g ∈ [F.CAM_P_STAT_TAG, F.CAM_P_CNT2_SEQ], (d.camEffective n).get g n = d.get g n := by
  cases h : (d.camSt n).commit with
  | none =>
    have hsame : d.camEffective n = d := by simp only [Dev.camEffective, h]
    rw [hsame]
    exact ⟨rfl, rfl, fun _ _ => rfl⟩
  | some c =>
    obtain ⟨x, hx⟩ : ∃ x, x = c.ctxs.foldl (fun d e => d.modCtx e.1 (fun x => { x with force := e.2.1, tabs := e.2.2 })) d := ⟨_, rfl⟩
    have hkeep : (x.cam, x.regs) = (d.cam, d.regs) := by
      rw [hx]
      refine foldl_keeps (fun d : Dev => (d.cam, d.regs)) _ ?_ _ _
      exact fun _ _ => rfl
    rw [Prod.mk.injEq] at hkeep
    obtain ⟨y, hy⟩ : ∃ y, y = (x.set F.CAM_P_GEN (x.get F.CAM_P_COMMIT_GEN n) n).set F.CAM_P_COMMIT_PENDING 0 n := ⟨_, rfl⟩
    have hf : d.camEffective n = y.modCam n (CamSt.settled c) := by
      simp only [Dev.camEffective, h, hy, hx]
      rfl
    have hycam : y.cam = d.cam := by rw [hy]; exact hkeep.1
    have hyst : y.camSt n = d.camSt n := by rw [Dev.camSt, hycam]; rfl
    rw [hf]
    refine ⟨?_, by rw [Dev.length_modCam, hycam], fun g hg => ?_⟩
    · obtain hst | hst := y.camSt_modCam n n (CamSt.settled c)
      · rw [hst, ← hyst]
        rfl
      · rw [hst, hyst]
    · have hx' : x.get g n = d.get g n := by rw [Dev.get, hkeep.2]; rfl
      simp only [List.mem_cons, List.not_mem_nil, or_false] at hg
      rcases hg with rfl | rfl <;> rw [Dev.get_modCam, hy, Dev.get_set_distinct _ (by decide), Dev.get_set_distinct _ (by decide), hx']

theorem Dev.camFrame_started {d : Dev} {n : Nat} (hlen : n < d.cam.length) (first start : Nat) (eff : Bool) : d.FrameStarted n (d.camFrame n first start eff) := by
  obtain ⟨x, hx⟩ : ∃ x, x = if eff then d.camEffective n else d := ⟨_, rfl⟩
  have hkeep : (x.camSt n).frameNo = (d.camSt n).frameNo ∧ x.cam.length = d.cam.length ∧ ∀ g ∈ [F.CAM_P_STAT_TAG, F.CAM_P_CNT2_SEQ], x.get g n = d.get g n := by
    rw [hx]
    split
    · exact d.camEffective_keeps
    · exact ⟨rfl, rfl, fun _ _ => rfl⟩
  obtain ⟨hframe, hxlen, hget⟩ := hkeep
  obtain ⟨y, hy⟩ : ∃ y, y = (x.set F.CAM_P_FRAMENO ((x.camSt n).frameNo % 2 ^ 32) n).modCam n (fun c =>
    { c with frames := c.frames ++ [{ no := c.frameNo, first, lines := c.lines }], frameNo := c.frameNo + 1, nextF := first + c.lines, resync := false }) := ⟨_, rfl⟩
  have hfold : ((d.camFrame n first start eff).cam, (d.camFrame n first start eff).regs) = (y.cam, y.regs) := by
    have heq : d.camFrame n first start eff = (List.range 8).foldl (fun e k => e.ctxFrame n k (x.camSt n).frameNo first start) y := by rw [hy, hx]; rfl
    rw [heq]
    refine foldl_keeps (fun e : Dev => (e.cam, e.regs)) _ (fun e k => ?_) _ _
    simp only [Dev.ctxFrame]
    split <;> rfl
  rw [Prod.mk.injEq] at hfold
  obtain ⟨hcam, hregs⟩ := hfold
  have hst : (d.camFrame n first start eff).camSt n = y.camSt n := by rw [Dev.camSt, hcam]; rfl
  have hreg (g : Field) : (d.camFrame n first start eff).get g n = y.get g n := by rw [Dev.get, hregs]; rfl
  have hyst : (y.camSt n).frameNo = (x.camSt n).frameNo + 1 := by
    rw [hy, Dev.camSt_modCam_self (show n < (x.set F.CAM_P_FRAMENO ((x.camSt n).frameNo % 2 ^ 32) n).cam.length from hxlen ▸ hlen)]
    rfl
  refine ⟨?_, ?_, fun g hg => ?_, ?_⟩
  · rw [hst, hyst, hframe]
  · rw [hreg, hy, Dev.get_modCam, Dev.get_set_self, hframe]
    exact Nat.mod_mod _ _
  · rw [hreg, hy, Dev.get_modCam, ← hget g hg]
    simp only [List.mem_cons, List.not_mem_nil, or_false] at hg
    rcases hg with rfl | rfl <;> rw [Dev.get_set_distinct _ (by decide)]
  · rw [hcam, hy, Dev.length_modCam]
    exact hxlen

/-! ### What a header notes -/

/-- A count of a port, its tag and a source's status, as they have been noted. -/
structure Dev.CamNoted (n : Nat) (f : Field) (v tag k : Nat) (d : Dev) : Prop where
  count : d.get f n = v
  tag : d.get F.CAM_P_STAT_TAG n = tag
  status : has d.flt.status k = true

section
variable {n : Nat} {f : Field} {v tag k : Nat} {d : Dev} (h : d.CamNoted n f v tag k)
include h

theorem Dev.CamNoted.purge : (d.purge n).CamNoted n f v tag k := ⟨h.count, h.tag, h.status⟩

theorem Dev.CamNoted.modCam (g : CamSt → CamSt) : (d.modCam n g).CamNoted n f v tag k := ⟨h.count, h.tag, h.status⟩

theorem Dev.CamNoted.tagFrames (no t : Nat) (m : Bool) : (d.tagFrames n no t m).CamNoted n f v tag k := ⟨h.count, h.tag, h.status⟩

theorem Dev.CamNoted.dropLines (hf : (f.distinct F.CAM_IRQ_STAT && f.distinct F.CAM_P_CNT_DROPPED) = true) (no : Nat) (m : Option Nat) : (d.dropLines n no m).CamNoted n f v tag k := by
  have hdrop := d.linesDropped_dropLines n n no m
  exact ⟨(hdrop.get f hf n 0).trans h.count, (hdrop.get _ (by decide) n 0).trans h.tag, by rw [hdrop.flt]; exact h.status⟩

theorem Dev.CamNoted.report (hn : n < 4) (hf : f.calm = true) (hf1 : 4 ≤ f.n1) (hf2 : 0 < f.n2) (s : Nat) : (d.report s 0).CamNoted n f v tag k :=
  ⟨(Dev.get_report _ _ _ hf (by omega) hf2).trans h.count, (Dev.get_report _ _ _ (by decide) hn (by decide)).trans h.tag, Dev.has_status_report_of h.status ..⟩

theorem Dev.CamNoted.bump {g : Field} (hf : f.distinct g = true) (htag : F.CAM_P_STAT_TAG.distinct g = true) : (d.bump g n).CamNoted n f v tag k :=
  ⟨(Dev.get_bump_distinct _ hf ..).trans h.count, (Dev.get_bump_distinct _ htag ..).trans h.tag, h.status⟩

end

/-- A count goes up and its source is reported. -/
theorem Dev.camNoted_count {d : Dev} {n : Nat} (hn : n < 4) {f : Field} (hf : f.calm = true) (hmax : f.max < 2 ^ f.width) (hf1 : 4 ≤ f.n1) (hf2 : 0 < f.n2)
    (htag : F.CAM_P_STAT_TAG.distinct f = true) (s : Nat) : ((d.bump f n).report s).CamNoted n f (Nat.min f.max (d.get f n + 1)) (d.get F.CAM_P_STAT_TAG n) (fkey s 0) :=
  ⟨(Dev.get_report _ _ _ hf (by omega) hf2).trans (Dev.get_bump_min _ hmax ..), (Dev.get_report _ _ _ (by decide) hn (by decide)).trans (Dev.get_bump_distinct _ htag ..),
    Dev.has_status_report _ _ _ (by decide)⟩

/-! ### The header -/

/-- A header whose tag is not the frame's. -/
def Dev.seqNoted (d : Dev) (n tag no : Nat) : Dev := if tag ≠ no % 2 ^ 16 then (d.bump F.CAM_P_CNT2_SEQ n).report (257 + n) else d

/-- A header in free run or after a loss. -/
def Dev.headerFree (d : Dev) (n tag : Nat) (c : CamSt) (bad : Bool) : Dev :=
  if bad then d.purge n
  else
    (((d.camFrame n (if c.free then 0 else c.trig - 1) d.T (d.commitReady n)).tagFrames n c.frameNo tag (tag ≠ c.frameNo % 2 ^ 16)).modCam n (fun x =>
      { x with current := some c.frameNo, image := c.frameNo + 1 })).seqNoted n tag c.frameNo

/-- A header of a triggered frame. -/
def Dev.headerTriggered (d : Dev) (n tag : Nat) (c : CamSt) (bad : Bool) : Dev :=
  let x := ((d.tagFrames n c.image tag (tag ≠ c.image % 2 ^ 16)).modCam n (fun x => { x with image := c.image + 1, current := if bad then none else some c.image })).seqNoted n tag c.image
  if bad then (x.dropLines n c.image none).purge n else x

/-- A header, once the image before has ended and its tag is shown. -/
def Dev.headerTaken (d : Dev) (n tag : Nat) (bad : Bool) : Dev :=
  let c := d.camSt n
  let x := if bad then (d.bump F.CAM_P_CNT2_FORMAT n).report (245 + n) else d
  if c.free || c.resync then x.headerFree n tag c bad
  else if !(c.frames.any (fun f => f.no = c.image)) then x
  else x.headerTriggered n tag c bad

/-- Does an image not fit its port. -/
def CamSt.misfits (c : CamSt) (format width : Nat) : Bool := format ≠ c.format || width ≠ c.width

theorem Dev.imageHeader_eq (d : Dev) (n tag format width : Nat) : d.imageHeader n tag format width =
    ((d.endImage n).set F.CAM_P_STAT_TAG tag n).headerTaken n tag (((d.endImage n).set F.CAM_P_STAT_TAG tag n).camSt n |>.misfits format width) := rfl

end Sys2Proof.Machine
end


section
/-! PROOF. What an image header shows (R323, R324; settles O10). -/

namespace Sys2Proof.Machine

/-! ### An image that does not fit -/

theorem Dev.CamNoted.seqNoted {n v tag k : Nat} (hn : n < 4) {d : Dev} (h : d.CamNoted n F.CAM_P_CNT2_FORMAT v tag k) (t no : Nat) : (d.seqNoted n t no).CamNoted n F.CAM_P_CNT2_FORMAT v tag k := by
  rw [Dev.seqNoted]
  split
  · exact (h.bump (by decide) (by decide)).report hn (by decide) (by decide) (by decide) _
  · exact h

theorem Dev.headerTaken_bad {d : Dev} {n : Nat} (hn : n < 4) (tag : Nat) :
    (d.headerTaken n tag true).CamNoted n F.CAM_P_CNT2_FORMAT (Nat.min 255 (d.get F.CAM_P_CNT2_FORMAT n + 1)) (d.get F.CAM_P_STAT_TAG n) (fkey (245 + n) 0) := by
  have hnoted := Dev.camNoted_count (d := d) hn (f := F.CAM_P_CNT2_FORMAT) (by decide) (by decide) (by decide) (by decide) (by decide) (245 + n)
  obtain ⟨x, hx⟩ : ∃ x, x = (d.bump F.CAM_P_CNT2_FORMAT n).report (245 + n) := ⟨_, rfl⟩
  rw [← hx] at hnoted
  simp only [Dev.headerTaken, if_true, ← hx]
  split
  · exact hnoted.purge
  · split
    · exact hnoted
    · rw [Dev.headerTriggered, if_pos rfl, if_pos rfl]
      exact ((((hnoted.tagFrames ..).modCam _).seqNoted hn ..).dropLines (by decide) ..).purge

/-! ### An image that fits -/

/-- A port whose image has begun. -/
structure Dev.ImageBegun (d : Dev) (n no : Nat) (e : Dev) : Prop where
  current : (e.camSt n).current = some no
  image : (e.camSt n).image = no + 1
  get : ∀ g ∈ [F.CAM_P_STAT_TAG, F.CAM_P_CNT2_SEQ], e.get g n = d.get g n

section
variable {d : Dev} {n : Nat} (hlen : n < d.cam.length) (tag : Nat)

theorem Dev.headerTaken_stray (hfree : (d.camSt n).free = false) (hresync : (d.camSt n).resync = false) (hno : (d.camSt n).frames.any (fun f => f.no = (d.camSt n).image) = false) :
    d.headerTaken n tag false = d := by
  simp only [Dev.headerTaken, hfree, hresync, hno]
  rfl

include hlen

theorem Dev.headerTaken_free (h : ((d.camSt n).free || (d.camSt n).resync) = true) : ∃ y, d.headerTaken n tag false = y.seqNoted n tag (d.camSt n).frameNo ∧
    d.ImageBegun n (d.camSt n).frameNo y ∧ (y.camSt n).frameNo = (d.camSt n).frameNo + 1 ∧ y.get F.CAM_P_FRAMENO n = (d.camSt n).frameNo % 4294967296 := by
  obtain ⟨x, hx⟩ : ∃ x, x = d.camFrame n (if (d.camSt n).free then 0 else (d.camSt n).trig - 1) d.T (d.commitReady n) := ⟨_, rfl⟩
  have hstarted : d.FrameStarted n x := hx ▸ Dev.camFrame_started hlen ..
  obtain ⟨z, hz⟩ : ∃ z, z = x.tagFrames n (d.camSt n).frameNo tag (tag ≠ (d.camSt n).frameNo % 2 ^ 16) := ⟨_, rfl⟩
  have hzcam : z.camSt n = x.camSt n := by rw [hz]; rfl
  have hzlen : n < z.cam.length := by rw [hz]; exact hstarted.length ▸ hlen
  obtain ⟨y, hy⟩ : ∃ y, y = z.modCam n (fun c => { c with current := some (d.camSt n).frameNo, image := (d.camSt n).frameNo + 1 }) := ⟨_, rfl⟩
  have hget (g : Field) : y.get g n = x.get g n := by rw [hy, hz]; rfl
  have hst : y.camSt n = { x.camSt n with current := some (d.camSt n).frameNo, image := (d.camSt n).frameNo + 1 } := by rw [hy, Dev.camSt_modCam_self hzlen, hzcam]
  refine ⟨y, ?_, ⟨by rw [hst], by rw [hst], fun g hg => (hget g).trans (hstarted.get g hg)⟩, by rw [hst]; exact hstarted.frameNo, (hget _).trans hstarted.shown⟩
  rw [hy, hz, hx]
  exact if_pos h

theorem Dev.headerTaken_triggered (hfree : ((d.camSt n).free || (d.camSt n).resync) = false) (hno : (d.camSt n).frames.any (fun f => f.no = (d.camSt n).image) = true) :
    ∃ y, d.headerTaken n tag false = y.seqNoted n tag (d.camSt n).image ∧ d.ImageBegun n (d.camSt n).image y := by
  obtain ⟨z, hz⟩ : ∃ z, z = d.tagFrames n (d.camSt n).image tag (tag ≠ (d.camSt n).image % 2 ^ 16) := ⟨_, rfl⟩
  have hzcam : z.camSt n = d.camSt n := by rw [hz]; rfl
  have hzlen : n < z.cam.length := by rw [hz]; exact hlen
  obtain ⟨y, hy⟩ : ∃ y, y = z.modCam n (fun c => { c with image := (d.camSt n).image + 1, current := some (d.camSt n).image }) := ⟨_, rfl⟩
  have hst : y.camSt n = { d.camSt n with image := (d.camSt n).image + 1, current := some (d.camSt n).image } := by rw [hy, Dev.camSt_modCam_self hzlen, hzcam]
  refine ⟨y, ?_, ⟨by rw [hst], by rw [hst], fun g _ => by rw [hy, hz]; rfl⟩⟩
  rw [hy, hz]
  simp only [Dev.headerTaken, hfree, hno]
  rfl

end

/-- A header that fits begins an image of the number awaited. -/
theorem Dev.headerTaken_fits {d : Dev} {n : Nat} (hlen : n < d.cam.length) (tag : Nat) {no : Nat} (hno : no = if (d.camSt n).free ∨ (d.camSt n).resync then (d.camSt n).frameNo else (d.camSt n).image)
    (h : (d.camSt n).free = true ∨ (d.camSt n).resync = true ∨ (d.camSt n).frames.any (fun f => f.no = (d.camSt n).image) = true) :
    ∃ y, d.headerTaken n tag false = y.seqNoted n tag no ∧ d.ImageBegun n no y ∧
      ((d.camSt n).free = true ∨ (d.camSt n).resync = true → (y.camSt n).frameNo = no + 1 ∧ y.get F.CAM_P_FRAMENO n = no % 4294967296) := by
  by_cases hfree : (d.camSt n).free = true ∨ (d.camSt n).resync = true
  · obtain ⟨y, hy, hbegun, hframe⟩ := Dev.headerTaken_free hlen tag ((Bool.or_eq_true ..).mpr hfree)
    rw [hno, if_pos hfree]
    exact ⟨y, hy, hbegun, fun _ => hframe⟩
  · have hany : (d.camSt n).frames.any (fun f => f.no = (d.camSt n).image) = true := by tauto
    obtain ⟨y, hy, hbegun⟩ := Dev.headerTaken_triggered hlen tag (Bool.eq_false_iff.mpr fun hf => hfree ((Bool.or_eq_true ..).mp hf)) hany
    rw [hno, if_neg hfree]
    exact ⟨y, hy, hbegun, fun h => absurd h hfree⟩

/-! ### The header in the state -/

/-- A device whose image before has ended, with the tag of the next. -/
def Dev.headed (d : Dev) (n tag : Nat) : Dev := (d.endImage n).set F.CAM_P_STAT_TAG tag n

/-- What ends the image before leaves of a port. -/
structure Dev.Headed (d : Dev) (n tag : Nat) (e : Dev) : Prop where
  port : ∃ F, e.camSt n = { d.camSt n with frames := F, current := none } ∧ ∀ k, F.any (fun f => f.no = k) = (d.camSt n).frames.any (fun f => f.no = k)
  length : e.cam.length = d.cam.length
  tag : e.get F.CAM_P_STAT_TAG n = tag
  get : ∀ g ∈ [F.CAM_P_CNT2_FORMAT, F.CAM_P_CNT2_SEQ], e.get g n = d.get g n

theorem Dev.headed_shows {d : Dev} {n : Nat} (hlen : n < d.cam.length) {tag : Nat} (htag : tag < 65536) : d.Headed n tag (d.headed n tag) := by
  obtain ⟨⟨F, hF, hany⟩, hlength, hget⟩ := d.endImage_shows hlen
  refine ⟨⟨F, hF, hany⟩, hlength, ?_, fun g hg => ?_⟩
  · rw [Dev.headed, Dev.get_set_self]
    exact Nat.mod_eq_of_lt htag
  · simp only [List.mem_cons, List.not_mem_nil, or_false] at hg
    rcases hg with rfl | rfl <;> rw [Dev.headed, Dev.get_set_distinct _ (by decide)] <;> exact hget _ (by decide) n 0

theorem CamSt.misfits_iff (c : CamSt) (format width : Nat) : c.misfits format width = false ↔ format = c.format ∧ width = c.width := by
  rw [CamSt.misfits, Bool.or_eq_false_iff, decide_eq_false_iff_not, decide_eq_false_iff_not, not_not, not_not]

theorem gives_imageHeader (n : Cam) (tag : BitVec 16) (format : BitVec 4) (width : Nat) (s : State) : Gives (.imageHeader n tag format width) s
    (if s.dev.get F.CAM_P_STAT_STATE n.val = 2 then s.dev.imageHeader n.val tag.toNat format.toNat width else s.dev) := rfl

section
variable {n : Cam} {s : State} (hlen : n.val < s.dev.cam.length) {tag : BitVec 16} {format : BitVec 4} {width : Nat} {e : Dev} (he : e = s.dev.headed n.val tag.toNat)
  (hst : s.dev.get F.CAM_P_STAT_STATE n.val = 2)
include hst

omit hlen he in
theorem imageHeader_gives : Gives (.imageHeader n tag format width) s (s.dev.imageHeader n.val tag.toNat format.toNat width) := (gives_imageHeader ..).congr (if_pos hst)

include hlen he

theorem imageHeader_taken {bad : Bool} (hbad : (s.dev.camSt n.val).misfits format.toNat width = bad) : Gives (.imageHeader n tag format width) s (e.headerTaken n.val tag.toNat bad) := by
  obtain ⟨⟨F, hF, -⟩, -⟩ := Dev.headed_shows hlen tag.isLt
  refine (imageHeader_gives hst).congr ?_
  have hsame : ((s.dev.headed n.val tag.toNat).camSt n.val).misfits format.toNat width = bad := by rw [hF]; exact hbad
  rw [Dev.imageHeader_eq, he, ← hsame]
  rfl

theorem imageHeader_misfits (hbad : ¬ (format.toNat = (s.dev.camSt n.val).format ∧ width = (s.dev.camSt n.val).width)) :
    Completes (.imageHeader n tag format width) s (fun d => d.get F.CAM_P_CNT2_FORMAT n.val = Nat.min 255 (s.dev.get F.CAM_P_CNT2_FORMAT n.val + 1) ∧
      d.get F.CAM_P_STAT_TAG n.val = tag.toNat ∧ has d.flt.status (fkey (245 + n.val) 0) = true) := by
  have hheaded : s.dev.Headed n.val tag.toNat e := he ▸ Dev.headed_shows hlen tag.isLt
  have hnoted := Dev.headerTaken_bad (d := e) n.isLt tag.toNat
  rw [hheaded.tag, hheaded.get _ (by simp)] at hnoted
  exact ⟨_, imageHeader_taken hlen he hst (Bool.eq_true_of_not_eq_false fun hf => hbad ((CamSt.misfits_iff ..).mp hf)), hnoted.count, hnoted.tag, hnoted.status⟩

variable (hfits : format.toNat = (s.dev.camSt n.val).format ∧ width = (s.dev.camSt n.val).width)
include hfits

theorem imageHeader_strays (hfree : (s.dev.camSt n.val).free = false) (hresync : (s.dev.camSt n.val).resync = false)
    (hno : ∀ f ∈ (s.dev.camSt n.val).frames, f.no ≠ (s.dev.camSt n.val).image) :
    Completes (.imageHeader n tag format width) s (fun d => (d.camSt n.val).current = none ∧ (d.camSt n.val).image = (s.dev.camSt n.val).image ∧ d.get F.CAM_P_STAT_TAG n.val = tag.toNat) := by
  have hheaded : s.dev.Headed n.val tag.toNat e := he ▸ Dev.headed_shows hlen tag.isLt
  obtain ⟨F, hF, hany⟩ := hheaded.port
  have hnone : F.any (fun f => f.no = (s.dev.camSt n.val).image) = false := by
    rw [hany, List.any_eq_false]
    exact fun f hf => by rw [decide_eq_true_eq]; exact hno f hf
  have hgives := imageHeader_taken hlen he hst ((CamSt.misfits_iff ..).mpr hfits)
  rw [Dev.headerTaken_stray tag.toNat (by rw [hF]; exact hfree) (by rw [hF]; exact hresync) (by rw [hF]; exact hnone)] at hgives
  exact ⟨e, hgives, by rw [hF], by rw [hF], hheaded.tag⟩

variable {no : Nat} (hno : no = if (s.dev.camSt n.val).free ∨ (s.dev.camSt n.val).resync then (s.dev.camSt n.val).frameNo else (s.dev.camSt n.val).image)
  (h : (s.dev.camSt n.val).free = true ∨ (s.dev.camSt n.val).resync = true ∨ ∃ f ∈ (s.dev.camSt n.val).frames, f.no = (s.dev.camSt n.val).image)
include hno h

theorem imageHeader_fits : ∃ y, Gives (.imageHeader n tag format width) s (y.seqNoted n.val tag.toNat no) ∧ s.dev.Headed n.val tag.toNat e ∧ e.ImageBegun n.val no y ∧
    ((s.dev.camSt n.val).free = true ∨ (s.dev.camSt n.val).resync = true → (y.camSt n.val).frameNo = no + 1 ∧ y.get F.CAM_P_FRAMENO n.val = no % 4294967296) := by
  have hheaded : s.dev.Headed n.val tag.toNat e := he ▸ Dev.headed_shows hlen tag.isLt
  obtain ⟨F, hF, hany⟩ := hheaded.port
  have hgives := imageHeader_taken hlen he hst ((CamSt.misfits_iff ..).mpr hfits)
  have hcase : (e.camSt n.val).free = true ∨ (e.camSt n.val).resync = true ∨ (e.camSt n.val).frames.any (fun f => f.no = (e.camSt n.val).image) = true := by
    rw [hF]
    refine h.imp_right fun h => h.imp_right fun ⟨f, hf, hfno⟩ => ?_
    rw [hany]
    exact List.any_eq_true.mpr ⟨f, hf, decide_eq_true hfno⟩
  obtain ⟨y, hy, hbegun, hframe⟩ := Dev.headerTaken_fits (hheaded.length ▸ hlen) tag.toNat (no := no) (by rw [hF]; exact hno) hcase
  rw [hy] at hgives
  refine ⟨y, hgives, hheaded, hbegun, fun hf => hframe ?_⟩
  rw [hF]
  exact hf

theorem imageHeader_sequence (htag : tag.toNat = no % 65536) :
    Completes (.imageHeader n tag format width) s (fun d => (d.camSt n.val).current = some no ∧ (d.camSt n.val).image = no + 1 ∧
      d.get F.CAM_P_STAT_TAG n.val = tag.toNat ∧ d.get F.CAM_P_CNT2_SEQ n.val = s.dev.get F.CAM_P_CNT2_SEQ n.val ∧
      ((s.dev.camSt n.val).free = true ∨ (s.dev.camSt n.val).resync = true → (d.camSt n.val).frameNo = no + 1 ∧ d.get F.CAM_P_FRAMENO n.val = no % 4294967296)) := by
  obtain ⟨y, hgives, hheaded, hbegun, hframe⟩ := imageHeader_fits hlen he hst hfits hno h
  have hsame : y.seqNoted n.val tag.toNat no = y := if_neg (not_not.mpr htag)
  rw [hsame] at hgives
  exact ⟨y, hgives, hbegun.current, hbegun.image, (hbegun.get _ (by simp)).trans hheaded.tag, (hbegun.get _ (by simp)).trans (hheaded.get _ (by simp)), hframe⟩

theorem imageHeader_mismatch (htag : tag.toNat ≠ no % 65536) :
    Completes (.imageHeader n tag format width) s (fun d => d.get F.CAM_P_STAT_TAG n.val = tag.toNat ∧
      d.get F.CAM_P_CNT2_SEQ n.val = Nat.min 255 (s.dev.get F.CAM_P_CNT2_SEQ n.val + 1) ∧ has d.flt.status (fkey (257 + n.val) 0) = true) := by
  obtain ⟨y, hgives, hheaded, hbegun, -⟩ := imageHeader_fits hlen he hst hfits hno h
  have hcount : y.seqNoted n.val tag.toNat no = (y.bump F.CAM_P_CNT2_SEQ n.val).report (257 + n.val) := if_pos htag
  have hnoted := Dev.camNoted_count (d := y) n.isLt (f := F.CAM_P_CNT2_SEQ) (by decide) (by decide) (by decide) (by decide) (by decide) (257 + n.val)
  rw [hbegun.get _ (by simp), hheaded.get _ (by simp), hbegun.get _ (by simp), hheaded.tag] at hnoted
  rw [hcount] at hgives
  exact ⟨_, hgives, hnoted.tag, hnoted.count, hnoted.status⟩

end

/-! ### Cameras receive -/

/-- Settles O10: a report may stop a port and does no more to it, so what a command shows of its port is what it shows before its report. -/
theorem camerasReceive : Obligations.CamerasReceive := by
  unfold Obligations.CamerasReceive
  intro n s x st hx hst hlen
  subst hx hst
  refine ⟨fun rq w h => ⟨cameraEnable_gives w h, cameraDisable_gives w h, cameraEnable_starts w h hlen, cameraEnable_stays w h, cameraDisable_stops w h hlen⟩,
    fun h => (gives_cameraLock n s).congr (if_pos h), fun h => (gives_cameraLock n s).congr (if_neg h), fun conn => ⟨cameraLinkLoss_stays, fun hst hlock => ?_⟩,
    fun tag format width fits no hfits hno => ?_, fun ok lines => ⟨streamPacket_stays, fun hst e he => ?_⟩, fun px e he => ?_,
    fun t r h => ⟨triggerFall_due h, triggerFall_early h⟩, triggerFall_none⟩
  · obtain ⟨d, hgives, hlost, hstatus⟩ := cameraLinkLoss_lost hlen hst hlock
    exact ⟨d, hgives, hlost.state, hlost.lock, hlost.current, hlost.resync, hlost.busy, hlost.irq, hstatus⟩
  · obtain ⟨e, he⟩ : ∃ e, e = s.dev.headed n.val tag.toNat := ⟨_, rfl⟩
    refine ⟨fun hst => (gives_imageHeader n tag format width s).congr (if_neg hst), fun hst => ⟨imageHeader_gives hst, fun hbad => ?_, fun hok => ?_, fun hok h => ⟨fun htag => ?_, fun htag => ?_⟩⟩⟩
    · exact imageHeader_misfits hlen he hst fun h => hbad (hfits.mpr h)
    · exact imageHeader_strays hlen he hst (hfits.mp hok)
    · exact imageHeader_sequence hlen he hst (hfits.mp hok) hno h htag
    · exact imageHeader_mismatch hlen he hst (hfits.mp hok) hno h htag
  · obtain ⟨hstatus, hcount⟩ := Dev.crc_shown he
    exact ⟨hstatus, hcount, streamPacket_idle hst he lines, fun no => streamPacket_drops hst he lines⟩
  · refine ⟨cameraLine_stays px, fun hst h => cameraLine_runs px hst (Dev.cameraLine_idle he _ h), fun no hst hno => ⟨fun h => cameraLine_runs px hst (Dev.cameraLine_stray he _ hno h),
      fun f hf => ⟨fun h => cameraLine_runs px hst (Dev.cameraLine_full he _ hno hf h), fun h hroom => ?_, fun h hroom => ?_⟩⟩⟩
    · have hgives := cameraLine_runs px hst (Dev.cameraLine_room he _ hno hf h hroom)
      exact ⟨hgives, fun hneed => ⟨_, hgives, Dev.camLineStored_shows he _ hlen hneed⟩⟩
    · exact ⟨_, cameraLine_runs px hst (Dev.cameraLine_overflow he _ hno hf h hroom), Dev.camLineLost_reported n.isLt he hf h rfl⟩

end Sys2Proof.Machine
end

end
